-- ==== Sys2Proof/Word.lean ====
section
/-! DEFINITION. The word types of the register space (R1). -/

namespace Sys2Proof

/-- A register of the address space, 32 bits, little-endian in memory (R1). -/
abbrev Word := BitVec 32

/-- A byte of memory. -/
abbrev Byte := BitVec 8

end Sys2Proof
end

