-- ==== Sys2Proof/Syntax.lean ====
section
/-! DEFINITION. The commands of the block: one constructor for each row of spec/opcode_table.json, in the table's order, with the
index types and the masters the operands use (R8, R3, R271). An operand that carries a measured quantity, a received frame or a level
is what the pins or the other units give the module at that event. -/

namespace Sys2Proof


/-- A cell, 0 to 47 (R8). -/
abbrev Cell := Fin 48
/-- A block, 0 to 7 (R8). -/
abbrev Block := Fin 8
/-- An angle domain, 0 to 3 (R33). -/
abbrev Dom := Fin 4
/-- A Drift pair, 0 to 15. -/
abbrev Pair := Fin 16
/-- A crew of the Shift plan, 0 to 63. -/
abbrev Crew := Fin 64
/-- A Headframe event slot, 0 to 255 (R42). -/
abbrev EvSlot := Fin 256
/-- A Pick engine: engine `e` of pair `k` is `2 * k + e`; a pair that is not split runs as its E0 (R58). -/
abbrev Eng := Fin 96
/-- A conversion sequence, 0 to 31 (R129). -/
abbrev Sequ := Fin 32
/-- A sensing channel, 0 to 119. -/
abbrev Chan := Fin 120
/-- A Canary window, 0 to 95. -/
abbrev Win := Fin 96
/-- A ramp generator, 0 to 23 (R190). -/
abbrev Gen := Fin 24
/-- A Seam trigger, 0 to 15 (R448). -/
abbrev Trig := Fin 16
/-- A seam stream, 0 to 63 (R442). -/
abbrev Stream := Fin 64
/-- A drain channel, 0 or 1 (R450). -/
abbrev Drain := Fin 2
/-- An interrupt source, 0 to 1,023 (R300). -/
abbrev Source := Fin 1024
/-- An interrupt slice, 0 to 16. -/
abbrev Slice := Fin 17
/-- A coalescing group, 0 to 63 (R308). -/
abbrev IcGroup := Fin 64
/-- A mailbox buffer of the Banksman (R361). -/
abbrev Mbox := Fin 8

/-- Who makes an access: a Drift pair in lock-step, one core of a split pair, a DMA channel or the Banksman. -/
inductive Master where
  | pair (n : Pair)
  | core (n : Pair) (c : Fin 2)
  | dma
  | banksman
deriving DecidableEq, Repr

/-- Reads of a Canary window's pin, oldest first: a voltage in nV with the number of consecutive reads at it (R141, R143). -/
abbrev PinReads := List (Nat × Nat)

/-- An S0 input's pin (R263): its level, and for how many ticks it has held it. -/
structure S0Edge where
  high : Bool
  held : Nat
deriving DecidableEq, Repr

/-- A Canary window with reads of its pin. -/
structure WinRead where
  win : Win
  pins : PinReads
deriving DecidableEq, Repr

/-- What a grid tracker measures at an update (R36 to R40): FREQ, PMAG, NMAG, NANG, the measured positive-sequence angle, the increment
that its loop asks for, a detected phase jump in signed au, and whether the loop's phase error is below 1°. -/
structure TrkMeas where
  freq : Word
  pmag : Word
  nmag : Word
  nang : Word
  ang : Word
  inc : Option Nat
  jump : Option Word
  phaseOk : Bool
deriving DecidableEq, Repr

/-- What firmware hands a transmit queue (R472, R473): the queue, its crew and header template, and a frame, perhaps to be timestamped or a
one-step Sync. -/
structure TxPost where
  queue : Fin 8
  crew : Crew
  header : List (BitVec 8)
  frame : Option (List (BitVec 8))
  stamped : Bool
  oneStep : Bool
deriving DecidableEq, Repr

/-- An access of one aligned word: a read, or a write of the bytes whose enables are set. -/
inductive MemOp where
  | read
  | write (be : BitVec 4) (v : BitVec 32)
deriving DecidableEq, Repr

/-- What a debugger asks of the main core of a pair (R297). -/
inductive DbgOp where
  | halt
  | resume
  | step
  | readX (k : Fin 32)
  | writeX (k : Fin 32) (v : BitVec 32)
  | readF (k : Fin 32)
  | writeF (k : Fin 32) (v : BitVec 32)
  | readPc
  | writePc (v : BitVec 32)
  | readCsr (k : BitVec 12)
  | writeCsr (k : BitVec 12) (v : BitVec 32)
  | mem (a : BitVec 32) (op : MemOp)
deriving DecidableEq, Repr

/-- A CAN frame (R475): its identifier of 11 or, extended, 29 bits, whether it is an FD frame, its data. -/
structure CanMsg where
  id : BitVec 29
  ext : Bool
  fd : Bool
  data : List (BitVec 8)
deriving DecidableEq, Repr

/-- A CAN frame to send, with the Drift pair that originates it, if one does (R27). -/
structure CanSend where
  sender : Option (Fin 16)
  msg : CanMsg
deriving DecidableEq, Repr

/-- Bytes to send on a UART, with the Drift pair that originates them, if one does (R27). -/
structure UartSend where
  sender : Option (Fin 16)
  data : List (BitVec 8)
deriving DecidableEq, Repr

/-- The mean that a monitor window of a synthesizer counted, in millionths of its nominal frequency (R384). -/
structure FmonMean where
  synth : Fin 4
  mean : Nat
deriving DecidableEq, Repr

/-- The commands, one for each row of the table. -/
inductive Instr where
  /-- R502: A write to a register that has no row of its own applies each field under its access code and any write condition, setting the named status when a change is refused. -/
  | registerWrite (m : Master) (a v : Word)
  /-- R4: A read or write to an unmapped address inside a peripheral window returns 0, completes without a bus error and sets the window's ADDR_UNMAPPED field. -/
  | addrUnmapped (m : Master) (a : Word) (w : Option Word)
  /-- R438: An access to an address in no range of the map gives a load or store access fault to a Drift core, or an error status to a DMA transfer, and changes nothing. -/
  | accessFault (m : Master) (a : Word) (op : MemOp)
  /-- R503: A read of the first register of a latched group captures its partner registers in one shared latch for all masters. -/
  | latchingRead (m : Master) (a : Word)
  /-- R21: A PICK.BLKCTL write with REQ = ARMED moves a STOPPED block to ARMED when its conditions hold, and otherwise sets STATE_DENIED. -/
  | reqArmed (m : Master) (b : Block) (v : Word)
  /-- R21: A PICK.BLKCTL write with REQ = RUNNING moves an ARMED block to RUNNING when its conditions hold, or withdraws a pending exit from RUNNING. -/
  | reqRunning (m : Master) (b : Block) (v : Word)
  /-- R21: A PICK.BLKCTL write with REQ = STOPPED stops an ARMED block, schedules the exit of a RUNNING block, or returns a TRIPPED block whose trip sources are inactive. -/
  | reqStopped (m : Master) (b : Block) (v : Word)
  /-- R18: A PICK.BLKCTL write to OWNER, OWNED, DOMAIN or LOCK is checked against the owner rule, LOCK and STATE, and a refusal sets OWNER_DENIED. -/
  | ownershipWrite (m : Master) (b : Block) (v : Word)
  /-- R22: A PICK.BLKCELLS write binds or unbinds cells and is refused whole when it breaks the single-block rule or a route. -/
  | cellBindingWrite (m : Master) (b : Block) (hi : Bool) (v : Word)
  /-- R21: A pending exit from RUNNING takes effect at the next carrier valley of the block's group, or in the next tick when the group is not counting. -/
  | runningExitAtValley (b : Block)
  /-- R33: When a domain angle wraps forward past 0 au, the turn counter TURN increments. -/
  | angleWrap (d : Dom)
  /-- R36: Every 20 µs each domain's grid tracker updates its measures from the TRKIN window means and applies lock, jump, coast and return rules when SRC is TRACKER. -/
  | trackerUpdate (d : Dom) (t : TrkMeas)
  /-- R34: A change of DOMCTL.SRC takes effect at the next 20 µs tracker update without stepping the angle. -/
  | domainSrcApply (d : Dom)
  /-- R40: When COASTMAX elapses in COAST, the domain enters LOST and holds its angle. -/
  | coastTimeout (d : Dom)
  /-- R41: A UHLA domain with no valid angle broadcast for 8 consecutive superframes enters COAST and sets SRC_LOST. -/
  | uhlaSourceLoss (d : Dom)
  /-- R41: A PICK domain whose Pick pair has not written it for 1 ms enters COAST and sets SRC_LOST. -/
  | pickSourceTimeout (d : Dom)
  /-- R42: An enabled slot fires when its domain's unwrapped position reaches NEXT, delivering its enabled actions, incrementing COUNT and advancing NEXT or clearing EN. -/
  | slotFire (k : EvSlot)
  /-- R45: A write to EVTCTL sets NEXT when EN goes from 0 to 1, and a change of DOMAIN while EN is 1 is refused with WRITE_DENIED. -/
  | evtctlWrite (m : Master) (k : EvSlot) (v : Word)
  /-- R45: A write to EVTANG while EN is 1 keeps NEXT's turn and takes the new angle, advancing by one turn when the result lies at or behind the position. -/
  | evtangWrite (m : Master) (k : EvSlot) (v : Word)
  /-- R48: At each frame boundary the Shift plan applies accepted commands, activates a pending plan, reloads budgets, takes checkpoints and releases parked crews and frame waits. -/
  | frameBoundary
  /-- R49: When a frame has lasted 585.9375 µs, and then every 390.625 µs, the Shift plan inserts a filler boundary that performs every boundary step without advancing the frame number. -/
  | fillerBoundary
  /-- R47: The Shift plan switches its frame source to a newly usable or preferred domain at that domain's first frame boundary after the current source's next boundary. -/
  | frameSourceSwitch
  /-- R51: A write of GO to SHIFT.COMMIT checks the shadow plan for admissibility and either sets PENDING or sets ADMIT_DENIED. -/
  | planGo (m : Master) (v : Word)
  /-- R53: A crew that exhausts any budget is parked, sets OVERRUN, OVCOUNT and EXHAUSTED, and a running crew takes the crew-overrun trap to the supervisor crew. -/
  | overrun (c : Crew) (b : Fin 4)
  /-- R52: When the cycles left in the frame fall to the unspent essential Drift grants of a pair, its running non-essential crew is parked with cause FLOOR. -/
  | floor (n : Pair)
  /-- R64: A pending request starts an invocation at its class entry address, resetting registers and flags, latching the region and setting the cause word. -/
  | invocationStart (e : Eng)
  /-- R66: When an invocation's budget count reaches 0 before an instruction completes, the instruction is abandoned, the working copy is discarded and BUDGET_EXH and EXHCOUNT are set. -/
  | budgetExh (e : Eng) (waits : Fin 17) (fresh : Bool)
  /-- R92: An illegal instruction word is not executed, takes one counted cycle and ends the invocation as a budget exhaustion. -/
  | illegalWord (e : Eng)
  /-- R94: ACQ reads the selected window result of a local accumulator slice into Gd, or 0 with NR. -/
  | acq (e : Eng)
  /-- R95: MMX reads the minimum, maximum, both or range of a local min-max tracker record. -/
  | mmx (e : Eng)
  /-- R96: ANG reads a domain angle at the request or at the instruction plus an offset, the domain increment, or the domain state. -/
  | ang (e : Eng)
  /-- R97: SCS writes the sine and cosine of an angle register to a register pair. -/
  | scs (e : Eng)
  /-- R98: CLK performs a Clarke transform into a register pair. -/
  | clk (e : Eng)
  /-- R98: PRK performs a Park transform, positive or negative sequence, into a register pair. -/
  | prk (e : Eng)
  /-- R98: IPK performs an inverse Park transform with optional phase output. -/
  | ipk (e : Eng)
  /-- R100: MAC multiplies and adds into an accumulator and Gd with saturation. -/
  | mac (e : Eng)
  /-- R100: MSU multiplies and subtracts into an accumulator and Gd with saturation. -/
  | msu (e : Eng)
  /-- R101: SAT option 0b00 moves the B operand into Gd. -/
  | satMove (e : Eng)
  /-- R101: SAT options 0b01 and 0b10 move A0 or A1 saturated into Gd and clear the accumulator. -/
  | satAccumulatorRead (e : Eng)
  /-- R101: SAT option 0b11 stores Ga into a data word of the working copy. -/
  | satStore (e : Eng)
  /-- R102: LIM clamps Ga between bounds formed from the B operand. -/
  | lim (e : Eng)
  /-- R103: ABS option 0b00 writes the saturated absolute value of the B operand. -/
  | abs (e : Eng)
  /-- R103: ABS option 0b01 writes the saturated negation of the B operand. -/
  | negate (e : Eng)
  /-- R104: DIV divides Ga by the B operand with truncation, or sets DZ on a zero divisor. -/
  | div (e : Eng)
  /-- R105: SQT option 0b00 writes the rounded-down square root of the B operand. -/
  | sqt (e : Eng)
  /-- R105: SQT option 0b01 writes the rounded-down magnitude of (Ga, B). -/
  | sqtMagnitude (e : Eng)
  /-- R106: PIS performs one PI step with clamp to a coefficient or tracking bound and back-calculation of its integrator word. -/
  | pis (e : Eng)
  /-- R107: RSC writes the working copy of OPV0 or OPV1. -/
  | rsc (e : Eng)
  /-- R108: OUT slot j writes Ga to a contender slot of the cell, refused with OUT_DENIED for a routed slot. -/
  | outSlot (e : Eng)
  /-- R108: OUT Dn.INC writes a domain's increment when the domain is PICK-driven by this cell's ARMED or RUNNING block. -/
  | outDomainInc (e : Eng)
  /-- R108: OUT Dn.INC with Gb writes a domain's increment and steps its angle under the same acceptance conditions. -/
  | outDomainStep (e : Eng)
  /-- R109: DUTY converts Ga to a ratio or absolute duty and writes the cell's duty, refused under an arbiter duty destination. -/
  | duty (e : Eng)
  /-- R110: EVT option 0b00 raises the cell's Pick program event source. -/
  | evtEvent (e : Eng)
  /-- R110: EVT option 0b01 fires a Seam trigger. -/
  | evtSeamTrigger (e : Eng)
  /-- R110: EVT option 0b10 writes Ga as a marker record with ICOUNT into the cell's seam stream. -/
  | evtMarker (e : Eng)
  /-- R112: XCH reads a slice mean, ARBOUT, tracking value or report word of a cell through the cell exchange after a port grant. -/
  | xch (e : Eng) (waits : Fin 17) (fresh : Bool)
  /-- R114: UHX read returns an Uhla shared value into Gd, setting NR when stale. -/
  | uhxRead (e : Eng)
  /-- R114: UHX write publishes Ga as an Uhla shared value assigned to this cell. -/
  | uhxWrite (e : Eng)
  /-- R115: BRF branches forward when its flag condition holds. -/
  | brf (e : Eng)
  /-- R117: LOOP repeats the next len words n times. -/
  | loop (e : Eng)
  /-- R118: END commits the working copy, moves the region selector and ORs sticky flags into PSTAT. -/
  | endRun (e : Eng)
  /-- R118: END with DISCARD ends the invocation discarding the working copy. -/
  | endDiscard (e : Eng)
  /-- R71: 4 ns after a slot write or SLOTEN change, the arbiter delivers the lowest enabled slot value to its destination. -/
  | arbiterEvaluation (c : Cell)
  /-- R76: An ARBCTL write changes SLOTEN and, only while STOPPED and under the route conditions, FMT, DEST, DESTCELL and DESTSLOT. -/
  | arbctlWrite (m : Master) (c : Cell) (v : Word)
  /-- R67: A SLICEMAP write outside STOPPED, or an entry naming a slice outside the cell, is refused with SLICE_DENIED. -/
  | slicemapWrite (m : Master) (e : Eng) (hi : Bool) (v : Word)
  /-- R61: A write of 1 to PARAMGO schedules the copy of the PARAM shadow at the next invocation start. -/
  | paramgo (m : Master) (e : Eng) (v : Word)
  /-- R61: A PARAM write while GO reads 1 has no effect and sets PARAM_DENIED. -/
  | paramWrite (m : Master) (e : Eng) (n : Fin 64) (v : Word)
  /-- R62: A write of 1 to REPLATCH copies the committed report words into the REPORT read buffer. -/
  | replatch (m : Master) (e : Eng) (v : Word)
  /-- R80: A write of LOAD starts the Banksman load of program PROGSEL into a cell's pair, or is refused with LOAD_DENIED. -/
  | loadProgram (m : Master) (e : Eng) (v : Word)
  /-- R81: A completed program load sets LOADED and sets BUDGET to WCET. -/
  | loadComplete (e : Eng)
  /-- R81: A BUDGET write below WCET, above 4,096 or of 0 is refused with BUDGET_DENIED. -/
  | budgetWrite (m : Master) (e : Eng) (v : Word)
  /-- R79: A compare-lane disagreement or uncorrectable memory error in a lock-step Pick pair stops both engines, holds the duty in ratio form and starts re-sync. -/
  | pairMismatch (e : Eng) (cause : Fin 3)
  /-- R79: After reload, restore and compare-lane test, RESYNC clears and the oldest pending request or a re-sync invocation starts. -/
  | resyncComplete (e : Eng) (bad : Bool)
  /-- R128: A write of REFEN starts the 2.0 ms reference wait, or with 0 drops REFRDY and discards windows. -/
  | refenWrite (m : Master) (v : Word)
  /-- R128: 2.0 ms after REFEN is written 1, REFRDY becomes 1 and samples start entering slices and trackers. -/
  | refrdy
  /-- R128: A reference fault while REFRDY is 1 drops REFRDY, sets REF_LOST and returns every slice and tracker to NOT_READY. -/
  | referenceFault
  /-- R130: A write of 1 to SEQGO triggers a sequence. -/
  | seqgo (m : Master) (q : Sequ) (v : Word)
  /-- R131: At the first CONV edge at or after the start point with every masked converter idle, the run starts, or waits and sets DEFERRED. -/
  | sequenceRunStart (q : Sequ)
  /-- R131: A deferred run still blocked when MAXDEF expires is dropped, setting DROPPED and DROPS. -/
  | dropped (q : Sequ)
  /-- R124: A SAR conversion completes and delivers its sample to the channel's enabled slices and tracker. -/
  | conversionEnd (q : Sequ) (codes : Vector (BitVec 16) 32)
  /-- R134: 16 ns after its closing instant a slice publishes its mean, count and WNUM and issues the accumulator-ready request. -/
  | windowPublish (c : Chan) (j : Fin 2)
  /-- R135: A write of 1 to MMCTL.RESET is a reset event of the min-max tracker. -/
  | mmReset (m : Master) (c : Chan) (v : Word)
  /-- R126: A bitstream channel's sinc3 filter completes a decimation period and delivers a scaled sample. -/
  | sinc3Output (k : Fin 24) (y : Fin 16777217)
  /-- R127: SDM_D without a transition for 1,024 modulator clocks sets SDM_STUCK. -/
  | sdmStuck (k : Fin 24)
  /-- R136: A write of GO to DIAGSEL starts 16 conversions of an internal channel in idle converter time. -/
  | diagGo (m : Master) (v : Word)
  /-- R136: When the 16 diagnostic conversions complete, DIAGRES takes their mean and DONE is set. -/
  | diagDone (codes : Vector (BitVec 16) 16)
  /-- R136: A diagnostic request not completed within 1 ms ends with TIMEOUT set. -/
  | diagTimeout
  /-- R131: A SEQCTL write applies EN, cancels a pending start when EN goes to 0, and refuses other changes while EN is 1 or a TRIGSRC of 0b11. -/
  | seqctlWrite (m : Master) (q : Sequ) (v : Word)
  /-- R120: A CHCTL write assigns a bitstream channel to a cell and local index, refused with CFG_DENIED for a taken index or a block not STOPPED. -/
  | chctlWrite (m : Master) (c : Chan) (v : Word)
  /-- R146: A filtered window state of an enabled threshold asserts, setting its latch, WSTAMP and COUNT, raising the source and sending a Canary record. -/
  | canaryCrossing (w : WinRead) (hi : Bool)
  /-- R142: A WTHR write sets new threshold codes that settle for 500 ns, refused when LO exceeds HI or the window is guarded. -/
  | wthrWrite (m : Master) (w : Win) (v : Word)
  /-- R142: 500 ns after a threshold code change, SETTLING clears and the filtered states resume. -/
  | settlingEnd (w : Win)
  /-- R143: A WCTL write changing MODE, FILT or TICK while EN is 1, or any write to a guarded window, is refused with WRITE_DENIED. -/
  | wctlWrite (m : Master) (w : Win) (v : Word)
  /-- R147: A write of 1 to LATCH_HI or LATCH_LO clears each latch whose filtered state is inactive and sets CLEAR_DENIED otherwise. -/
  | latchClear (m : Master) (w : Win) (v : Word)
  /-- R151: A write of RBFAIL holds both latches set, and a write of 0 is accepted only while the block is STOPPED. -/
  | rbfailWrite (m : Master) (w : Win) (b : Bool) (v : Word)
  /-- R156: A carrier group reaches 0 and delivers its valley event to sequences, Pick pairs, Canary clears, min-max resets and sinc3 restarts. -/
  | carrierValley (g : Block)
  /-- R156: A carrier group reaches PRD, delivers its peak event and applies waiting OVR changes and PHASE dwells. -/
  | carrierPeak (g : Block)
  /-- R158: The carrier crosses CMP and the modulation signal m turns on or off under the one-pulse rule. -/
  | modulationEdge (c : Cell)
  /-- R159: When DT has elapsed since the partner's turn-off and its feedback reports off, the interlock turns the output on or sets DROPPED_PULSE. -/
  | turnOnDelayEnd (c : Cell) (hi : Bool)
  /-- R162: A write of 1 to GRPCOMMIT.COMMIT checks the shadow PRD and copies the shadow to the pending set, or sets PRD_DENIED. -/
  | grpCommit (m : Master) (g : Block) (v : Word)
  /-- R163: A write of GRPCTL.EN = 1 makes the shadow active without a COMMIT and starts the carrier. -/
  | carrierEnable (m : Master) (g : Block) (v : Word)
  /-- R164: A firmware write to DUTY changes the active compare at once when IMM is 1, or the shadow otherwise. -/
  | dutyWrite (m : Master) (c : Cell) (v : Word)
  /-- R171: An OVR write schedules an override change, refused whole with SHOOT_ATTEMPT when it would force an output on without its partner forced off. -/
  | ovrWrite (m : Master) (c : Cell) (v : Word)
  /-- R172: A SAFE write selects the channel's safe state, refused with SAFE_DENIED outside STOPPED, for a value other than 0b00 and 0b01, or when the option block forbids low-side on. -/
  | safeWrite (m : Master) (c : Cell) (v : Word)
  /-- R168: After 8 consecutive missing carrier sync markers, an Uhla-synchronised group runs free and sets SYNC_LOST. -/
  | syncLost (g : Block)
  /-- R172: The PWM clock absent for 16 ns at the output gate takes every channel to its safe state and sets PWMCLK_LOST. -/
  | pwmclkLost
  /-- R178: A filtered FBH or FBL level changes and is checked for mismatch or both-on against the commanded state. -/
  | feedbackChange (c : Cell) (hi level : Bool)
  /-- R179: Feedback that has not reached the commanded state when the check window closes sets FB_TIMEOUT and holds the channel off. -/
  | fbTimeout (c : Cell) (hi : Bool)
  /-- R181: BLANK × 100 ns after an output's turn-on at the gate, its DSAT input becomes qualified. -/
  | blankingEnd (c : Cell)
  /-- R181: A qualified DSAT report held for DSFILT sets DS_LATCH and records DSSTAMP, DS_HL and DSCOUNT. -/
  | dsLatch (c : Cell)
  /-- R182: STEP × 100 ns after SOFTb asserts it deasserts and the sequence enters step 2. -/
  | softStepEnd (b : Block)
  /-- R187: A write of 1 to PCTL.CLR makes one clear attempt on the port's latches. -/
  | clr (m : Master) (c : Cell) (v : Word)
  /-- R191: A write of GO moves a ramp generator from IDLE to WAIT or RUN, or is refused with RAMP_DENIED. -/
  | rampGo (m : Master) (r : Gen) (v : Word)
  /-- R191: A write of STOP returns a ramp generator to IDLE in the tick of the write. -/
  | rampStop (m : Master) (r : Gen) (v : Word)
  /-- R191: A write of RELEASE moves a HELD ramp generator to IDLE, or is refused with RAMP_DENIED. -/
  | rampRelease (m : Master) (r : Gen) (v : Word)
  /-- R190: A write of RCTL.CELL binds the generator to a cell only while both blocks are STOPPED or unbound and the cell is not already named. -/
  | rampCellWrite (m : Master) (r : Gen) (v : Word)
  /-- R191: A generator that has waited 10 ms in WAIT returns to IDLE with ALIGN_TIMEOUT set. -/
  | alignTimeout (r : Gen)
  /-- R192: Every 1 µs in RUN the generator recomputes RVAL along the current segment and moves to the next segment or to HELD at its end. -/
  | rampUpdate (r : Gen)
  /-- R242: Every 125 µs the Assay takes a sample boundary: it corrects the samples, accumulates energy and detects crossings and interval ends. -/
  | assaySample (x : Vector (BitVec 24) 8)
  /-- R247: No crossing of a voltage channel within ZXTO clears its ZXOK and sets ZX_LOST. -/
  | zxLost (x : Fin 3)
  /-- R254: A write of 1 to SNAP latches every result, master and count into the snapshot image at the next sample boundary. -/
  | snap (m : Master) (v : Word)
  /-- R256: 0.9 × SAVEINT after the last completed record a PERIODIC save record closes. -/
  | periodic
  /-- R255: A written save record is read back and rewritten once on a difference, incrementing FAILCNT if the second read-back also differs. -/
  | saveReadback (ok : Bool)
  /-- R258: At each Assay start the latest valid save record restores the masters, residues and S0 counts, and UNSAVED or RECORD_LOST is set as found. -/
  | assayStart
  /-- R259: Loss of the 25 MHz oscillator sets CLK_LOST, closes an ORDERLY record on the Lamp clock and stops the Assay. -/
  | clkLost
  /-- R260: A pulse output with a queued pulse starts a pulse of PW ms once 2 × PW has passed since the previous one. -/
  | pulseStart (o : Fin 9)
  /-- R263: A debounced edge into the active level on an S0 input increments S0CNT. -/
  | s0Pulse (n : Fin 4) (active : S0Edge)
  /-- R264: Every CHKWIN minutes an S0 input compares its count with a master, writes DEV and may set S0_MISMATCH. -/
  | s0Check (n : Fin 4)
  /-- R272: XANG returns a domain's angle, captured turn, increment or state through the ingress unit. -/
  | xang (n : Pair) (k : Fin 2) (w : Word)
  /-- R273: XYLD makes a named crew current on the pair, or reports it parked or refused. -/
  | xyld (n : Pair) (k : Fin 2) (w : Word)
  /-- R274: XFWT waits for the next frame boundary, or with WAKE for a pending interrupt, returning the frame number. -/
  | xfwt (n : Pair) (k : Fin 2) (w : Word)
  /-- R269: A parity error in an instruction cache invalidates the line in both caches and counts ICPAR. -/
  | icpar (n : Pair)
  /-- R278: Disagreeing samples of a dual-sampled pin are resampled 4 ns later up to three times, then the read returns 0 with PINFAULT. -/
  | dualSampleResample (g : Fin 64) (a b : Vector Bool 3)
  /-- R280: A pair in SERVICE stores a checkpoint at a frame boundary, after 100 µs, or when its log or journal fills to its trigger. -/
  | checkpoint (n : Pair)
  /-- R280: When the checkpoint store completes, the new buffer becomes current and the log and journal are emptied. -/
  | checkpointComplete (n : Pair) (cyc : Fin 301)
  /-- R281: Before the first write since a checkpoint to a line of TCM or an owned region, the line's prior content is copied into a journal entry. -/
  | journalEntry (n : Pair) (a : Word)
  /-- R285: A lane disagreement, uncorrectable TCM word or checkpoint buffer, or in-place lane test failure holds the pair's outputs, drives FAULT_N low and isolates the pair. -/
  | pairFault (n : Pair) (cause : Fin 3) (lane : Fin 1024)
  /-- R285: 0.1 µs after detection the faulty pair enters FAILED and increments FAILCNT. -/
  | pairEnterFailed (n : Pair)
  /-- R287: 1.0 µs after detection the lowest spare takes over the failed pair's blocks, crews and interrupt slice and starts recovery. -/
  | takeoverStart (n : Pair)
  /-- R287: When the replay's EGRESS equals the failed pair's, the spare takes a checkpoint and enters SERVICE. -/
  | recoveryComplete (n : Pair) (o : Fin 4)
  /-- R292: A 35 µs comparator test ends, the pair passing to its next state or entering FAILED. -/
  | comparatorTestComplete (n : Pair) (fail : Option (Fin 1024)) (march : Bool)
  /-- R293: TESTINT hours after a pair's last passed test, at frame TESTFRAME and possibly after waiting for NIGHT, its TEST window opens. -/
  | testWindowOpen (n : Pair)
  /-- R299: A MODEREQ write of TEST moves a pair from SERVICE to TEST. -/
  | modereqTest (m : Master) (n : Pair) (v : Word)
  /-- R295: A MODEREQ write of SPLIT in TEST makes the pair two independent cores, refused under the spare and ownership conditions. -/
  | modereqSplit (m : Master) (n : Pair) (v : Word)
  /-- R299: A MODEREQ write of SERVICE returns a pair from TEST to SERVICE. -/
  | modereqService (m : Master) (n : Pair) (v : Word)
  /-- R299: A MODEREQ write of SPARE moves a pair from TEST to SPARE. -/
  | modereqSpare (m : Master) (n : Pair) (v : Word)
  /-- R296: A MODEREQ write of JOIN from core 0 requests the joining of a split pair at the next frame boundary. -/
  | join (m : Master) (n : Pair) (v : Word)
  /-- R296: At the frame boundary after a JOIN, the pair enters TEST with core 0's state, stopping core 1 with JOIN_FORCED if it is not waiting. -/
  | joinApply (n : Pair)
  /-- R271: An OWNRGN write defines an owned region, refused with MODE_DENIED outside START and TEST or when it breaks the limits. -/
  | ownrgnWrite (m : Master) (n : Pair) (j : Fin 4) (v : Word)
  /-- R299: A write of 1 to PLOG.CLRMAX clears LOGMAX and JNLMAX. -/
  | clrmax (m : Master) (n : Pair) (v : Word)
  /-- R297: A debugger halt, register or memory access or single step is applied as an ingress input to the main and checker cores. -/
  | debugRequest (n : Pair) (op : DbgOp)
  /-- R304: A read of CLAIM returns the highest-priority deliverable source, clears its pending bit and marks it in service. -/
  | claim (m : Master) (n : Option Slice)
  /-- R304: A write to COMPLETE ends the service of a source, or sets COMPLETE_DENIED. -/
  | completeSource (m : Master) (n : Option Slice) (v : Word)
  /-- R306: A write of 1 to a PEND bit clears that pending bit without delivery. -/
  | pendClear (m : Master) (n : Option Slice) (j : Fin 32) (v : Word)
  /-- R302: A SRCCFG write sets a source's target, priority and group, refused under the ownership and slice 16 rules. -/
  | srccfgWrite (m : Master) (src : Source) (v : Word)
  /-- R308: A write of 1 to GCFG.FLUSH releases the coalescing group's held sources. -/
  | flush (m : Master) (g : IcGroup) (v : Word)
  /-- R308: A GCFG write configures a group, releasing it at once when EN is written 0 and refusing a forbidden GSLICE. -/
  | gcfgWrite (m : Master) (g : IcGroup) (v : Word)
  /-- R308: When a group's timer reaches TIME µs, the group releases its held sources. -/
  | coalesceTimeout (g : IcGroup)
  /-- R313: Every 15.625 µs the Foreman samples its grid monitors, evaluates its limits and takes confirmed demands. -/
  | monitorSample (a b c : BitVec 12) (frac : Fin 65536) (node : BitVec 5) (krb brb : BitVec 2) (halves : Bool)
  /-- R315: A guarded Canary window crossed for its Foreman filter or hold time raises the demands its FGCFG bits select. -/
  | foremanWindowDemand (w : WinRead) (f : Fin 3)
  /-- R311: A write of FSAFEN by the safety pair sets the Drift-channel enables, or clears them all with SAFEN_DENIED when the halves disagree. -/
  | fsafenWrite (m : Master) (v : Word)
  /-- R311: With no valid FSAFEN write for 10 ms, every Drift-channel enable clears and SAFEN_EXPIRED is set. -/
  | safenExpired
  /-- R318: An FCMD write sets the functional commands, refused with CMD_DENIED while a latch is set, the Adit port is open or RESTRICTED holds. -/
  | fcmdWrite (m : Master) (v : Word)
  /-- R317: A write of 1 to FCLR.CLR makes one clear attempt on every Foreman latch whose sources are inactive. -/
  | fclr (m : Master) (v : Word)
  /-- R321: A write of 1 to BTEST.REQn starts a brake test by releasing the brake, or is refused with BT_DENIED. -/
  | btestReq (m : Master) (n : Fin 2) (v : Word)
  /-- R321: 50 ms after the brake reads released, the test turns BRK_OUTn off. -/
  | brakeTestReengage (n : Fin 2)
  /-- R321: BRK_RBn showing engaged within T_ENG ends the test with PASS set and BTAGE cleared. -/
  | brakeTestPass (n : Fin 2)
  /-- R321: A brake test window missed turns the output off, sets BT_FAIL and latches SF3DEM. -/
  | btFail (n : Fin 2)
  /-- R321: BTAGE reaching BTMAX hours sets BT_DUE. -/
  | btDue (n : Fin 2) (hours : Nat)
  /-- R319: Once every second, at its staggered time, an on safety output is switched off for 300 µs and its node sense is checked. -/
  | offPulseStart (k : Fin 5) (off : Bool)
  /-- R319: At the end of a 300 µs off-pulse the output turns on again and its node must read on within 100 µs. -/
  | offPulseEnd (k : Fin 5) (on : Bool)
  /-- R320: A mirror readback disagreeing with its drive beyond T_DROP sets MIR_FAIL and an SF1 demand. -/
  | mirFail (k : Fin 2) (closed : Bool)
  /-- R322: Every 10 ms the Foreman reads SEAL0 to SEAL11, and a difference from SEALREF sets SEAL_CHANGED and SEAL_PENDING with SF1 and SF2 demands. -/
  | sealRead (v : BitVec 12)
  /-- R325: Every 10 ms the Foreman tests its monitors, window inputs and parameter store, and a failure sets FST_FAIL, demands every function and asserts its reset demand. -/
  | foremanSelfTest (monitors windows store : Bool)
  /-- R312: Every 1 ms the Foreman's three clocks are checked against each other, and a disagreement above 1 % is a self-test failure. -/
  | clockCheck (rc canary crystal : Nat)
  /-- R324: An accepted Foreman parameter block takes effect at a frame boundary at which every block is STOPPED and every SF1 output is off. -/
  | foremanParamTakeEffect
  /-- R347: After the option load the Banksman reads the fuses, completes pending zeroisation, verifies images and keys and releases the Drift pairs or starts RESTRICTED. -/
  | secureBoot
  /-- R335: After the RETURN fuse group is programmed, the role secrets, memories and image slots are erased, ZEROISING clears and a cold reset follows. -/
  | returnEntryComplete
  /-- R333: Once a new life-cycle fuse group is programmed, the module performs a cold reset. -/
  | lcFuseProgrammed
  /-- R349: At each mesh check interval TMESH_I is compared with TMESH_O, and three consecutive failures make a breach. -/
  | meshCheck (level : Bool)
  /-- R350: A core or Banksman rail outside its window discards the Banksman operation, logs, increments GLITCHES and resets the control die. -/
  | voltageGlitch
  /-- R350: A Banksman clock period outside its window is handled as a glitch tamper event. -/
  | clockGlitch
  /-- R350: A die temperature outside its tamper window is handled as a tamper event. -/
  | temperatureEvent
  /-- R351: Zeroisation after a breach erases slots 1 and 4 to 63, the reload store and the Pick memories within 25 ms. -/
  | zeroisationComplete
  /-- R355: The Adit session length or certificate not-after expires, closing the port and warm-resetting every halted pair. -/
  | aditSessionEnd
  /-- R353: The TAP IDCODE instruction returns 0x1964_8A5B. -/
  | idcode
  /-- R353: The TAP BYPASS instruction, and any other instruction while the port is closed, selects the bypass path. -/
  | bypass
  /-- R353: The SAMPLE/PRELOAD boundary-scan instruction acts on the pins its state allows while the port is open. -/
  | samplePreload
  /-- R353: The EXTEST boundary-scan instruction drives the pins its state allows while the port is open. -/
  | extest
  /-- R410: A reset request through the open Adit port causes a device warm reset. -/
  | aditResetRequest
  /-- R361: A write of CLAIM by a lock-step pair claims a free mailbox buffer, the first claim winning. -/
  | mailboxClaim (m : Master) (b : Mbox) (v : Word)
  /-- R361: A write of GO submits the buffer's envelope or local operation, refused with WRITE_DENIED for a bad length or non-owning writer. -/
  | mailboxGo (m : Master) (b : Mbox) (v : Word)
  /-- R361: A write of RELEASE frees a mailbox buffer. -/
  | mailboxRelease (m : Master) (b : Mbox) (v : Word)
  /-- R362: The Banksman starts the next submitted envelope, at most one per ms, and runs the verification checks in order. -/
  | envelopeStart
  /-- R345: 0.9 ms after the envelope's start the signed verdict reply is released and DONE is set. -/
  | verdictRelease
  /-- R369: 0.9 ms after the boundary of application the signed application reply is released. -/
  | applicationReplyRelease
  /-- R360: A READ envelope returns the named item from OFFSET in its application reply. -/
  | readItem
  /-- R370: A SET envelope writes configuration table entries within their limits. -/
  | setEntries
  /-- R370: A LIMITS envelope sets MIN and MAX of configuration entries and clamps values outside them. -/
  | limits
  /-- R230: An ISL_SCHEDULE group envelope delivers the plant's probe schedule TLV. -/
  | islSchedule
  /-- R265: An ASSAY_SET envelope writes WCFG, S0 settings or TPO settings. -/
  | assaySet
  /-- R258: An ASSAY_ACK envelope clears UNSAVED, RECORD_LOST and LOSS. -/
  | assayAck
  /-- R411: A COUNTER_CLEAR envelope clears all nine reset counters. -/
  | counterClear
  /-- R344: A CERT_REVOKE envelope adds serials to the revocation list, displacing the oldest. -/
  | certRevoke
  /-- R360: A GROUP_SET envelope replaces the device's group list. -/
  | groupSet
  /-- R340: An ENROL envelope fills a VERIFY slot with a public key under the enrolment rules. -/
  | enrol
  /-- R340: A REVOKE envelope empties a VERIFY or SECRET slot, refused for the last slot of a role. -/
  | revoke
  /-- R341: A GENERATE envelope creates a key inside the Banksman in a SECRET slot and returns its public key. -/
  | generate
  /-- R341: An IMPORT envelope unwraps a key under ECDH with slot 1 into a SECRET slot. -/
  | importKey
  /-- R323: A SEAL_ACK envelope sets SEALREF to the strap value read for the last 1 s and clears SEAL_PENDING. -/
  | sealAck
  /-- R350: A TAMPER_ACK envelope ends the RESTRICTED start required by glitch counts or Lamp loss. -/
  | tamperAck
  /-- R353: An ADIT_OPEN envelope opens the Adit port for a named session while every block is STOPPED and SF1 is open. -/
  | aditOpen
  /-- R355: An ADIT_CLOSE envelope closes the Adit port and warm-resets every pair it halted. -/
  | aditClose
  /-- R373: An IMAGE envelope copies a signed payload into the inactive slot of its type and checks its hash. -/
  | image
  /-- R373: The IMAGE application reply is released at a time fixed by LENGTH, EXV_APPLIED on a matching hash. -/
  | imageReplyRelease (changed : Bool)
  /-- R374: An ACTIVATE envelope makes the stored images of its mask active together and raises their anti-rollback counts. -/
  | activate
  /-- R333: An LC_ADVANCE envelope programs the next life-cycle fuse group when its conditions hold at the boundary. -/
  | lcAdvance
  /-- R336: An EXPORT envelope in RETURN returns the Assay records, masters, counters and tamper log signed by slot 0. -/
  | exportRecords
  /-- R378: The SIGN local operation signs a hash with a SECRET slot. -/
  | sign (b : Mbox)
  /-- R378: The ECDH local operation returns a shared secret with a peer public key. -/
  | ecdh (b : Mbox)
  /-- R378: The ENCRYPT local operation returns ciphertext and tag. -/
  | encrypt (b : Mbox)
  /-- R378: The DECRYPT local operation returns plaintext, or STATUS 2 when the tag fails. -/
  | decrypt (b : Mbox)
  /-- R378: The HMAC local operation returns a 48-byte MAC. -/
  | hmac (b : Mbox)
  /-- R378: The RANDOM local operation returns LEN random bytes. -/
  | random (b : Mbox)
  /-- R378: The COUNTER local operation reads or increments a firmware monotonic counter. -/
  | counter (b : Mbox)
  /-- R366: Before a monotonic counter passes its mark, the Banksman writes counter + 2^16 as the new mark under a FLASH grant. -/
  | highWaterMarkWrite (k : Fin 32)
  /-- R385: A write of SCTL.EN enables a synthesizer or gates its outputs off, refused with CFG_DENIED under the enable limits. -/
  | synthEnable (m : Master) (n : Fin 4) (v : Word)
  /-- R383: 200 µs after EN is written 1 the synthesizer declares lock on a reference edge and ungates its outputs. -/
  | synthLocked (n : Fin 4)
  /-- R384: At the end of each 100 µs window a synthesizer output differing by over 2 % from its expected mean sets FMON_ERR. -/
  | fmonErr (n : FmonMean)
  /-- R382: No REFCLK edge for 1 µs while REFCLK is selected sets REF_LOST and puts the synthesizers in holdover. -/
  | refLost
  /-- R382: A write of WCTL.SRC changes the reference, running synthesizers in holdover and redeclaring lock 200 µs later. -/
  | refSourceWrite (m : Master) (v : Word)
  /-- R387: An SSCFG write sets spread spectrum, refused with CFG_DENIED under the spread restrictions. -/
  | spreadWrite (m : Master) (n : Fin 4) (v : Word)
  /-- R388: A write of RCTL.GO starts the PWM ramp profile in WAIT or RUN, or is refused with CFG_DENIED. -/
  | winderRampGo (m : Master) (v : Word)
  /-- R389: A write of RCTL.STOP ends the ramp through REALIGN, or at once from WAIT. -/
  | winderRampStop (m : Master) (v : Word)
  /-- R388: Every 1 µs in RUN the PWM frequency is updated along the current segment, moving to the next segment or holding at the end. -/
  | winderRampUpdate
  /-- R389: When the PWM frequency and phase have been slewed back to the epoch, the ramp enters IDLE and PHASELOCK returns. -/
  | realignComplete
  /-- R401: A write of PWRCTL.REQ = NIGHT requests entry to NIGHT at the next frame boundary. -/
  | pwrctlReqNight (m : Master) (v : Word)
  /-- R401: A write of PWRCTL.REQ = PARK requests entry to PARK at the next frame boundary. -/
  | pwrctlReqPark (m : Master) (v : Word)
  /-- R401: A write of PWRCTL.REQ = RUN requests the return from NIGHT to RUN. -/
  | pwrctlReqRun (m : Master) (v : Word)
  /-- R401: At the frame boundary after a request, the power-state change is evaluated and performed, or refused with PWR_DENIED. -/
  | powerStateChange
  /-- R404: The Lamp clock reaching WAKEAT wakes the module from PARK. -/
  | wakeClock
  /-- R404: Every monitor phase above WAKEV % of VNOM for WAKET s wakes the module from PARK. -/
  | wakeGrid
  /-- R393: VAUX having stayed above 4.5 V for 1 ms becomes valid and starts a cold start. -/
  | vauxValid
  /-- R394: VAUX below 4.30 V for 5 µs turns every safety output off, starts the last gasp and begins the brown-out reset. -/
  | brownout
  /-- R397: A powered rail outside its limits for 2 µs sets its RAILSTAT bit and asserts its monitor reset. -/
  | railFault (r : Fin 10)
  /-- R410: RESET_N low for 10 µs causes a full cold reset, or a wake from PARK when RSTEN is set. -/
  | resetN
  /-- R413: An RSTCTL write with SCOPE device warm and the key causes a device warm reset. -/
  | rstctlDeviceWarm (m : Master) (v : Word)
  /-- R413: An RSTCTL write with SCOPE pair warm and the key resets the writer's own pair or a FAILED pair. -/
  | rstctlPairWarm (m : Master) (v : Word)
  /-- R412: A write of the key to WDTKICK restarts the pair's watchdog period. -/
  | wdtkick (m : Master) (n : Pair) (v : Word)
  /-- R412: Half a watchdog period without a kick sets WARNED and raises source 994. -/
  | warned (n : Pair)
  /-- R410: WDTCTL.TO ms without a kick causes a pair warm reset of that pair. -/
  | watchdogTimeout (n : Pair)
  /-- R410: A compare-lane disagreement in the Banksman pair causes a control-die cold reset. -/
  | banksmanLockstepFault
  /-- R407: A write of 1 to an RSTREL bit releases its unit from reset, or leaves the release pending with CLK_WAIT. -/
  | rstrelWrite (m : Master) (v : Word)
  /-- R407: A pending release takes effect when its clock declares lock and PICK is released, clearing CLK_WAIT and raising source 996. -/
  | pendingRelease
  /-- R415: The option load applies the newer valid option block copy, or the default with OPTFAIL. -/
  | optionLoadComplete
  /-- R419: A write of 1 to a PAD.RELEASE bit hands a held bank's pads to their current configuration. -/
  | padRelease (m : Master) (v : Word)
  /-- R426: VSTORE and VINT both below 1.60 V remove power from the Lamp domain. -/
  | lampPowerLoss
  /-- R426: The Lamp domain starts once a rail rises above 1.80 V and resets its items with LAMP_LOST when the validity pattern is absent. -/
  | lampStart (present lstart : Bool)
  /-- R432: Every 1 ms, or 1 s in LAMP-ONLY, the gauge recomputes the usable energy E. -/
  | gaugeUpdate (v : Nat)
  /-- R433: A timed 100 mV charge rise completes and sets the measured capacitance. -/
  | capMeasureComplete (t : Nat) (overlap : Bool)
  /-- R429: Every 16 s the main harvest path opens HVIN for 256 ms and samples its open-circuit voltage. -/
  | harvestOcvSample (v : Nat)
  /-- R435: At the end of a granted burst its cost is released from HELD. -/
  | grantComplete (c : Fin 4)
  /-- R436: A refused FLASH or ZERO grant request is repeated every 100 ms. -/
  | grantRetry
  /-- R445: FLUSH × 40 µs after a burst opened, it is closed with a PAD record and written to the ring. -/
  | burstFlush (t : Stream)
  /-- R452: A write to STRPUT appends a firmware record word, admitting the record when its last word arrives. -/
  | strput (m : Master) (t : Stream) (v : Word)
  /-- R448: A write of FIRE, or a slot, EVT or ramp firing, fires a Seam trigger, starting a capture in POST. -/
  | fireTrigger (m : Master) (n : Trig) (v : Word)
  /-- R448: At the first burst boundary POST + 11 ms after the firing, the capture sets CAPEND, enters HELD and raises its source. -/
  | captureHeld (n : Trig)
  /-- R448: A write of RELEASE returns a capture to IDLE. -/
  | captureRelease (m : Master) (n : Trig) (v : Word)
  /-- R450: A write of GO starts a drain transfer, or is refused with DRAIN_DENIED. -/
  | drainGo (m : Master) (d : Drain) (v : Word)
  /-- R450: A write of STOP ends a drain transfer. -/
  | drainStop (m : Master) (d : Drain) (v : Word)
  /-- R450: A drain transfer completes and sets DONE. -/
  | drainDone (d : Drain)
  /-- R451: The writer overwriting an unread live-ring burst moves the drain to the oldest burst and sets DRAIN_OVERRUN. -/
  | drainOverrun (d : Drain)
  /-- R439: Every 1 µs the scrubber reads and rewrites one SRAM word in idle bus slots. -/
  | sramScrub (k : Fin 1048576) (ecc : Fin 3)
  /-- R455: A write of UCTL.EN = 1 enables the ports and locks RANK, MFLAG and GID until cold reset. -/
  | uhlaEnable (m : Master) (v : Word)
  /-- R456: A port in TRAIN whose lanes, skew, GID and delay have held for 1 ms becomes UP. -/
  | portUp (p : Fin 2)
  /-- R456: A port loses block lock for 1 µs, fails 16 CRCs within 1 ms or sees a different GID, becomes DOWN and loops back. -/
  | portDown (p : Fin 2) (gid : Bool)
  /-- R457: Every 1 µs the angle master originates a superframe on each UP port. -/
  | superframeOriginate
  /-- R457: A device takes a superframe whole, uses its angle, markers and values, overwrites its section and forwards it. -/
  | superframeReceive (p : Fin 2) (sub : Fin 64) (f : List Byte)
  /-- R458: Every 1 ms each UP port measures its incoming link delay. -/
  | linkDelayMeasure (p : Fin 2) (d : BitVec 24)
  /-- R464: No valid superframe for 8 µs makes each device choose the next flagged rank as master. -/
  | masterLoss
  /-- R464: A flagged device of lower rank whose ports have been UP for 1 s sets REQM to request mastership. -/
  | reqm
  /-- R465: Every 1 µs while its cause holds, the trip block is repeated. -/
  | tripRepeat
  /-- R466: A device forwards a received trip block and on its first arrival sets UTRIP bits, holding the named blocks' outputs safe. -/
  | tripBlockReceive (p : Fin 2) (origin tseq : Fin 16) (mask gid : BitVec 8) (crcOk : Bool)
  /-- R465: A write of UTRIPGO.GO sends a firmware trip for the groups of MASK. -/
  | utripgo (m : Master) (v : Word)
  /-- R466: A write of 1 to a UTRIP bit clears it unless a trip for that group arrived within 4 µs, setting CLEAR_DENIED. -/
  | utripClear (m : Master) (v : Word)
  /-- R460: A write to USVPUT by the named Drift pair publishes a shared value. -/
  | usvput (m : Master) (v : Fin 256) (w : Word)
  /-- R460: A USVCFG write enables a sourced shared value, refused with CFG_DENIED for a 22nd value. -/
  | usvcfgWrite (m : Master) (v : Fin 256) (w : Word)
  /-- R471: A received Ethernet frame is timestamped and sorted to a receive queue or dropped. -/
  | ethFrameReceive (p : Fin 2) (f : List Byte) (fcsOk listed : Bool) (fifth : Fin 5) (taken : Vector Nat 4)
  /-- R472: A transmit queue whose crew holds budget sends its next frame, highest queue first. -/
  | ethFrameTransmit (p : Fin 2) (posts : List TxPost)
  /-- R473: A write of PTPSTEP adds a signed offset to the PTP clock in one tick. -/
  | ptpstep (m : Master) (v : Word)
  /-- R473: PTP time passing TARGET raises source 737 and, with PPSEN, drives GPIO63 high for 1 ms. -/
  | ptpTarget
  /-- R474: A write of PTPTRUST.LOCK renews PTP trust, or trust is refused with TRUST_DENIED when the Lamp clock disagrees. -/
  | ptpLock (m : Master) (v : Word)
  /-- R474: No qualifying Sync or LOCK write within 2 s ends PTP trust and updates TIMESRC. -/
  | ptpTrustLost
  /-- R475: A CAN FD controller receives a frame into a message buffer through its acceptance filters. -/
  | canFrameReceive (n : Fin 4) (buf : Fin 64) (f : CanMsg) (accepted : Bool)
  /-- R475: A CAN FD controller completes the transmission of a frame. -/
  | canFrameTransmit (n : Fin 4) (buf : Fin 64) (f : CanSend)
  /-- R475: A UART receives a character into its FIFO. -/
  | uartReceive (n : Fin 6) (c : Byte) (modbus : Bool) (taken : Nat)
  /-- R475: In Modbus RTU mode a 3.5-character gap ends a received frame and its CRC-16 is checked. -/
  | modbusFrameEnd (n : Fin 6) (gap : Bool)
  /-- R475: An SPI controller or target completes a frame transfer. -/
  | spiTransfer (n : Fin 4) (len : Fin 33) (rx tx : Word)
  /-- R475: An I2C controller or target completes a transfer. -/
  | i2cTransfer (n : Fin 2) (l : List Byte)
  /-- R476: A GPIO input event selected by IRQ raises its source. -/
  | gpioEvent (g : Fin 64) (level : Bool)
  /-- R141: A filtered comparator state of a window deasserts when the pin returns past its threshold less or plus one code, changing WSTAT.LOW or HIGH and allowing the latch to clear. -/
  | canaryStateDeassert (w : WinRead) (hi : Bool)
  /-- R181: The DSATk pin level changes, updating PSTAT.DSAT and the filtered source that Cage clear attempts test, whether or not the report qualifies. -/
  | dsatLevelChange (c : Cell) (level : Bool)
  /-- R167: At the end of a PHASE dwell of Δ counts held at PRD, DWELL clears and the carrier starts falling. -/
  | peakDwellEnd (g : Block)
  /-- R294: An uncorrectable TCM word read by a core of a split pair stops that core, sets HALTED and parks its current crew while the other core continues. -/
  | splitCoreUncorrectableTcm (n : Pair) (k : Fin 2)
  /-- R271: A read or write by a master to shared SRAM, a TCM, the flash window, DRAM or the Seam ring is checked against ownership and access rules and ECC, setting TCM_DENIED, OWNRGN_DENIED, RING_DENIED, FLASH_DENIED or the ECC statuses, or faulting. -/
  | memoryAccess (m : Master) (c : Crew) (a : Word) (op : MemOp) (ecc : Fin 3)
  /-- R396: After VAUX becomes valid the internal rails come within their limits in sequence, releasing the Foreman at step 2 and enabling SYS. -/
  | railsWithinLimits
  /-- R367: Once a second while PTP time is trusted, the Banksman sets the Lamp real-time clock from trusted time and resets the tolerance u. -/
  | lampClockSet
  /-- R427: VSTORE reaches VMAX and the charger and harvest paths stop charging, clearing CHARGING. -/
  | chargeTargetReached
  /-- R429: The Lamp domain selects its harvest path (start circuit, main, fall-back or none) as VSTORE and HVIN cross their thresholds, updating PATH. -/
  | harvestPathSelect (vstore hvin : Nat)
  /-- R456: A DOWN Uhla port retrains, every 100 ms after GID_MISMATCH and when its lanes regain block lock, and enters TRAIN. -/
  | portRetrain (p : Fin 2)
  /-- R480: The PHY link of an Ethernet port goes up or down, updating ETHSTAT.LINK and raising the link-change source. -/
  | ethLinkChange (p : Fin 2) (up : Bool)
  /-- R475: A UART finishes transmitting, or meets an error, and raises its transmit source. -/
  | uartTransmitDone (n : Fin 6) (l : UartSend) (modbus err : Bool)
  /-- R480: A CAN FD controller changes its error state or goes bus off and raises the matching source. -/
  | canErrorStateChange (n : Fin 4) (st : Fin 3)
  /-- R332: Itoton production test programs the MAKER root keys into slots 2 and 3, generates the device identity keys and moves the module from BLANK to MAKER. -/
  | itotonProductionTest
deriving DecidableEq, Repr

end Sys2Proof
end

