-- ==== Sys2Proof/Machine/RegMap.lean ====
section
/-! DEFINITION. The register map: every register of the spec's register tables, with its place, its access masks,
its reset value and its reset class (R1 to R5, R54 to R56, R83, R139, R140, R152, R153, R175 to R177, R188, R201, R267, R298,
R299, R309, R329, R356, R379, R391, R405, R421, R422, R437, R452, R477 to R479). -/

namespace Sys2Proof.Machine

/-- The reset class of a register (R5, R408, R409): the two DOMAIN dies, WARM-STICKY, LAMP, NV, the control-die registers of the units
outside the device warm scope, Winder, Banksman, Uhla and power (`link`), and the registers a chapter says are kept or written at each reset (`kept`). -/
inductive RegClass where
  | control | mixed | sticky | lamp | nv | link | kept
deriving DecidableEq, Repr

/-- One row of the register map. Copy `(i, j)` lies at `base + (i - f1) * s1 + j * s2`, for `f1 ≤ i < f1 + n1` and `j < n2`.
The masks say which bits a write can change (`rw`: RW, RWS and RWL fields), clear (`w1c`), may change by Exvia only (`exv`), and
which read as 0 (`wo`). Every other bit is RO or reserved (R3, R4). -/
structure Reg where
  base : Nat
  f1 : Nat
  s1 : Nat
  n1 : Nat
  s2 : Nat
  n2 : Nat
  rw : Nat
  w1c : Nat
  exv : Nat
  wo : Nat
  reset : Nat
  cls : RegClass
deriving DecidableEq, Repr

/-- The registers of the spec, one name per register table row. -/
inductive RegId where
  | BLK_BLKCTL | BLK_BLKCELLS0 | BLK_BLKCELLS1 | HF_DOMCTL | HF_DOMSTAT | HF_ANG | HF_TURN | HF_FREQ | HF_ROCOF
  | HF_PMAG | HF_NMAG | HF_NANG | HF_JUMPANG | HF_TRKIN | HF_TRKTHR | HF_NOMMAG | HF_INC | EV_EVTANG | EV_EVTCTL
  | EV_EVTTGT | EV_EVTSTAT | SP_CTL | SP_STAT | SP_CNT | SP_COMMIT | SP_OVERRUN0 | SP_OVERRUN1 | SP_PAIRSUP
  | SP_CREWCTL | SP_GRANTA0 | SP_GRANTB0 | SP_GRANTA1 | SP_GRANTB1 | SP_GRANTA2 | SP_GRANTB2 | SP_MAP0 | SP_MAP1
  | SP_REMAIN0 | SP_REMAIN1 | SP_REMAIN2 | SP_CREWSTAT | PK_PCTL | PK_PSTAT | PK_BUDGET | PK_INVSRC | PK_SLICEMAP0
  | PK_SLICEMAP1 | PK_ICOUNT | PK_LATE | PK_REGION | PK_OPV | PK_ARBCTL | PK_ARBSTAT | PK_ARBOUT | PK_TRACK
  | PK_SLOTVAL | PK_PARAMGO | PK_PARAM | PK_REPORT | PK_REPLATCH | SN_CTL | SN_DIAGSEL | SN_DIAGRES | SN_DIAGSTAT
  | SN_SDMCK | SN_SEQCTL | SN_SEQDLY | SN_SEQMASK | SN_SEQGO | SN_SEQSTAT | SN_CHCTL | SN_SDCTL | SN_CHSTAT
  | SN_SLCTL | SN_SLGAP | SN_SLMEAN | SN_SLINFO | SN_MMCTL | SN_MMMIN | SN_MMMAX | SN_MMINFO | CN_CCTL | CN_CSTAT
  | CN_WCTL | CN_WTHR | CN_WSTAT | CN_WSTAMP | PW_GSTAT | PW_GATESTAT | PW_GRPCTL | PW_GRPPRD | PW_GRPPHASE
  | PW_GRPCOMMIT | PW_GRPSTAT | PW_GRPACT | PW_SYNCERR | PW_CHCTL | PW_DUTY | PW_DT | PW_OVR | PW_ACTCMP | PW_CHSTAT
  | PW_DRIVE | PW_SAFE | CG_PCTL | CG_PSTAT | CG_DSSTAMP | CG_FBSTAMP | CG_BCTL | CG_BSTAT | CG_CGSTAT | RG_RCTL
  | RG_RSTAT | RG_RVAL | RG_RSTART | RG_SEGEND | RG_SEGDUR | AS_ACTL | AS_ASTAT | AS_SNAPNUM | AS_LOSS | AS_SAVESTAT
  | AS_MCFG | AS_SAVEINT | AS_PMAX | AS_PCONST | AS_ZXCFG | AS_WCFG | AS_CHGAIN | AS_CHOFS | AS_PHDLY | AS_QGAIN
  | AS_QOFS | AS_RES | AS_WNUM | AS_EMLO | AS_EMHI | AS_EWIN | AS_WRAPS | AS_S0CTL | AS_S0WGT | AS_S0TOL | AS_S0CNT
  | AS_S0CHK | AS_S0STAT | AS_TPOCTL | AS_TPOCONST | AS_TPOSTAT | AS_PSTAT | DR_DSTAT | DR_TESTCTL | DR_PCTL
  | DR_PSTATE | DR_PFAULT | DR_PSTAMP | DR_PCOUNT | DR_PLOG | DR_OWNRGN | IC_SRCCFG | IC_SCTL | IC_CLAIM
  | IC_COMPLETE | IC_SSTAT | IC_PEND | IC_GCFG | IC_GSTAT | FM_FSTAT | FM_FSAFEN | FM_FCMD | FM_FCLR | FM_FOUT
  | FM_FCAUSE | FM_FSTAMP | FM_SEAL | FM_BTEST | FM_FLIM | FM_FMONV0 | FM_FMONV1 | FM_FMONF | BK_BKSTAT | BK_DEVID
  | BK_SLOTMAP0 | BK_SLOTMAP1 | BK_TAMPSTAT | BK_TAMPCNT | BK_ADITSTAT | EX_MBCTL | EX_MBSTAT | EX_MBLEN | EX_EXSTAT
  | EX_EXCNT | EX_ARBSTEP0 | EX_ARBSTEP1 | EX_TIMESTAT | EX_CFGVAL | EX_CFGMIN | EX_CFGMAX | EX_CFGSRC | WI_WCTL
  | WI_WSTAT | WI_SCTL | WI_SSTAT | WI_SSCFG | WI_RCTL | WI_RSTAT | WI_RSEG | WI_OCTL | PR_PWRCTL | PR_PWRSTAT
  | PR_WAKECFG | PR_WAKEAT | PR_RAILSTAT | RS_RSTCTL | RS_RSTSTAT | RS_RSTREL | RS_RSTCNT | RS_RSTTOT | RS_OPTIMG
  | RS_WDTCTL | RS_WDTKICK | RS_PADREL | LA_LCTL | LA_LSTAT | LA_GAUGE | LA_GHELD | LA_GFLOOR | LA_CAP | LA_RTCLO
  | LA_RTCHI | LA_RETAIN | SE_SCTL | SE_SSTAT | SE_WPTR | SE_RINGWRAP | SE_HOLD | SE_MEMSTAT | SE_MEMERRA | SE_STRCFG
  | SE_STRSTAT | SE_STRDROP | SE_STRPUT | SE_TRGCFG | SE_TRGCTL | SE_CAPSTART | SE_CAPEND | SE_CAPSTAT | SE_DRCFG
  | SE_DRSRC | SE_DRLEN | SE_DRDST | SE_DRPTR | SE_DRSTAT | UH_UCTL | UH_UGID | UH_USTAT | UH_UPORT | UH_UTRIPCFG
  | UH_UTRIPGO | UH_UTRIP | UH_RINGLAT | UH_UPROBE | UH_UPROBERX | UH_UERR | UH_USVCFG | UH_USVPUT | UH_USVVAL
  | UH_USVINFO | ET_ETHCTL | ET_ETHSTAT | ET_RXLAT | ET_TXLAT | ET_GFLT | ET_PTPADJ | ET_PTPSTEP | ET_TARGET
  | ET_PTPTRUST | ET_GMID | GP_GPIOCFG | GP_GPIOIN | GP_GPIOOUT | AS_SNAPIMG | EX_MBDATA
deriving DecidableEq, Repr

/-- The register table. -/
def RegId.reg : RegId → Reg
  | .BLK_BLKCTL => ⟨0x40330000, 0, 0x40, 8, 0, 1, 0x8000df00, 0xf0000, 0, 0x30, 0, .control⟩
  | .BLK_BLKCELLS0 => ⟨0x40330004, 0, 0x40, 8, 0, 1, 0xffffffff, 0, 0, 0, 0, .control⟩
  | .BLK_BLKCELLS1 => ⟨0x40330008, 0, 0x40, 8, 0, 1, 0xffff, 0, 0, 0, 0, .control⟩
  | .HF_DOMCTL => ⟨0x40000000, 0, 0x40, 4, 0, 1, 0x3fffff1f, 0, 0, 0, 0x140a08, .control⟩
  | .HF_DOMSTAT => ⟨0x40000004, 0, 0x40, 4, 0, 1, 0, 0x3f0, 0, 0, 0, .control⟩
  | .HF_ANG => ⟨0x40000008, 0, 0x40, 4, 0, 1, 0, 0, 0, 0, 0, .control⟩
  | .HF_TURN => ⟨0x4000000C, 0, 0x40, 4, 0, 1, 0, 0, 0, 0, 0, .control⟩
  | .HF_FREQ => ⟨0x40000010, 0, 0x40, 4, 0, 1, 0, 0, 0, 0, 0, .control⟩
  | .HF_ROCOF => ⟨0x40000014, 0, 0x40, 4, 0, 1, 0, 0, 0, 0, 0, .control⟩
  | .HF_PMAG => ⟨0x40000018, 0, 0x40, 4, 0, 1, 0, 0, 0, 0, 0, .control⟩
  | .HF_NMAG => ⟨0x4000001C, 0, 0x40, 4, 0, 1, 0, 0, 0, 0, 0, .control⟩
  | .HF_NANG => ⟨0x40000020, 0, 0x40, 4, 0, 1, 0, 0, 0, 0, 0, .control⟩
  | .HF_JUMPANG => ⟨0x40000024, 0, 0x40, 4, 0, 1, 0, 0, 0, 0, 0, .control⟩
  | .HF_TRKIN => ⟨0x40000028, 0, 0x40, 4, 0, 1, 0xffffffff, 0, 0, 0, 0x5ffffff, .control⟩
  | .HF_TRKTHR => ⟨0x4000002C, 0, 0x40, 4, 0, 1, 0xffffffff, 0, 0, 0, 0x33331999, .control⟩
  | .HF_NOMMAG => ⟨0x40000030, 0, 0x40, 4, 0, 1, 0xffffffff, 0, 0, 0, 0, .control⟩
  | .HF_INC => ⟨0x40000034, 0, 0x40, 4, 0, 1, 0, 0, 0, 0, 0, .control⟩
  | .EV_EVTANG => ⟨0x40001000, 0, 0x10, 256, 0, 1, 0xffffffff, 0, 0, 0, 0, .control⟩
  | .EV_EVTCTL => ⟨0x40001004, 0, 0x10, 256, 0, 1, 0xff01ff, 0, 0, 0, 0, .control⟩
  | .EV_EVTTGT => ⟨0x40001008, 0, 0x10, 256, 0, 1, 0x3f0f3f1f, 0, 0, 0, 0, .control⟩
  | .EV_EVTSTAT => ⟨0x4000100C, 0, 0x10, 256, 0, 1, 0, 0x30000, 0, 0, 0, .control⟩
  | .SP_CTL => ⟨0x40010000, 0, 0, 1, 0, 1, 0x3, 0, 0, 0, 0, .control⟩
  | .SP_STAT => ⟨0x40010004, 0, 0, 1, 0, 1, 0, 0x200, 0, 0, 0x100, .control⟩
  | .SP_CNT => ⟨0x40010008, 0, 0, 1, 0, 1, 0, 0, 0, 0, 0, .control⟩
  | .SP_COMMIT => ⟨0x4001000C, 0, 0, 1, 0, 1, 0, 0x4, 0, 0x1, 0, .control⟩
  | .SP_OVERRUN0 => ⟨0x40010010, 0, 0, 1, 0, 1, 0, 0xffffffff, 0, 0, 0, .control⟩
  | .SP_OVERRUN1 => ⟨0x40010014, 0, 0, 1, 0, 1, 0, 0xffffffff, 0, 0, 0, .control⟩
  | .SP_PAIRSUP => ⟨0x40010100, 0, 0x4, 16, 0, 1, 0x3f, 0, 0, 0, 0, .control⟩
  | .SP_CREWCTL => ⟨0x40011000, 0, 0x40, 64, 0, 1, 0x1f3, 0, 0, 0, 0, .control⟩
  | .SP_GRANTA0 => ⟨0x40011004, 0, 0x40, 64, 0, 1, 0xffffff, 0, 0, 0, 0, .control⟩
  | .SP_GRANTB0 => ⟨0x40011010, 0, 0x40, 64, 0, 1, 0xffffff, 0, 0, 0, 0, .control⟩
  | .SP_GRANTA1 => ⟨0x40011008, 0, 0x40, 64, 0, 1, 0xffffff, 0, 0, 0, 0, .control⟩
  | .SP_GRANTB1 => ⟨0x40011014, 0, 0x40, 64, 0, 1, 0xffffff, 0, 0, 0, 0, .control⟩
  | .SP_GRANTA2 => ⟨0x4001100C, 0, 0x40, 64, 0, 1, 0xffffffff, 0, 0, 0, 0, .control⟩
  | .SP_GRANTB2 => ⟨0x40011018, 0, 0x40, 64, 0, 1, 0xffffffff, 0, 0, 0, 0, .control⟩
  | .SP_MAP0 => ⟨0x4001101C, 0, 0x40, 64, 0, 1, 0xffffffff, 0, 0, 0, 0, .control⟩
  | .SP_MAP1 => ⟨0x40011020, 0, 0x40, 64, 0, 1, 0xffffffff, 0, 0, 0, 0, .control⟩
  | .SP_REMAIN0 => ⟨0x40011024, 0, 0x40, 64, 0, 1, 0, 0, 0, 0, 0, .control⟩
  | .SP_REMAIN1 => ⟨0x40011028, 0, 0x40, 64, 0, 1, 0, 0, 0, 0, 0, .control⟩
  | .SP_REMAIN2 => ⟨0x4001102C, 0, 0x40, 64, 0, 1, 0, 0, 0, 0, 0, .control⟩
  | .SP_CREWSTAT => ⟨0x40011030, 0, 0x40, 64, 0, 1, 0, 0, 0, 0, 0, .control⟩
  | .PK_PCTL => ⟨0x40300000, 0, 0x800, 96, 0, 1, 0xff00, 0x10000, 0, 0x1, 0, .control⟩
  | .PK_PSTAT => ⟨0x40300004, 0, 0x800, 96, 0, 1, 0, 0x37fc, 0, 0, 0, .control⟩
  | .PK_BUDGET => ⟨0x40300008, 0, 0x800, 96, 0, 1, 0x1fff, 0, 0, 0, 0x1000, .control⟩
  | .PK_INVSRC => ⟨0x4030000C, 0, 0x800, 96, 0, 1, 0x7f, 0, 0, 0, 0, .control⟩
  | .PK_SLICEMAP0 => ⟨0x40300010, 0, 0x800, 96, 0, 1, 0xffffffff, 0, 0, 0, 0xffffffff, .control⟩
  | .PK_SLICEMAP1 => ⟨0x40300014, 0, 0x800, 96, 0, 1, 0xffffffff, 0, 0, 0, 0xffffffff, .control⟩
  | .PK_ICOUNT => ⟨0x40300018, 0, 0x800, 96, 0, 1, 0, 0, 0, 0, 0, .control⟩
  | .PK_LATE => ⟨0x4030001C, 0, 0x800, 96, 0, 1, 0, 0, 0, 0, 0, .control⟩
  | .PK_REGION => ⟨0x40300020, 0, 0x800, 96, 0, 1, 0, 0, 0, 0, 0, .control⟩
  | .PK_OPV => ⟨0x40300024, 0, 0x800, 96, 0x4, 2, 0, 0, 0, 0, 0, .control⟩
  | .PK_ARBCTL => ⟨0x40300030, 0, 0x1000, 48, 0, 1, 0x73f31ff, 0x38000000, 0, 0, 0, .control⟩
  | .PK_ARBSTAT => ⟨0x40300034, 0, 0x1000, 48, 0, 1, 0, 0, 0, 0, 0x8, .control⟩
  | .PK_ARBOUT => ⟨0x40300038, 0, 0x1000, 48, 0, 1, 0, 0, 0, 0, 0, .control⟩
  | .PK_TRACK => ⟨0x4030003C, 0, 0x1000, 48, 0, 1, 0, 0, 0, 0, 0x7fffffff, .control⟩
  | .PK_SLOTVAL => ⟨0x40300040, 0, 0x1000, 48, 0x4, 8, 0, 0, 0, 0, 0x7fffffff, .control⟩
  | .PK_PARAMGO => ⟨0x403000FC, 0, 0x800, 96, 0, 1, 0x1, 0, 0, 0, 0, .control⟩
  | .PK_PARAM => ⟨0x40300100, 0, 0x800, 96, 0x4, 64, 0xffffffff, 0, 0, 0, 0, .control⟩
  | .PK_REPORT => ⟨0x40300200, 0, 0x800, 96, 0x4, 64, 0, 0, 0, 0, 0, .control⟩
  | .PK_REPLATCH => ⟨0x40300300, 0, 0x800, 96, 0, 1, 0, 0, 0, 0x1, 0, .control⟩
  | .SN_CTL => ⟨0x40200000, 0, 0, 1, 0, 1, 0x1, 0x1c, 0, 0, 0, .control⟩
  | .SN_DIAGSEL => ⟨0x40200010, 0, 0, 1, 0, 1, 0x1fff, 0, 0, 0x10000, 0, .control⟩
  | .SN_DIAGRES => ⟨0x40200014, 0, 0, 1, 0, 1, 0, 0, 0, 0, 0, .control⟩
  | .SN_DIAGSTAT => ⟨0x40200018, 0, 0, 1, 0, 1, 0, 0x6, 0, 0, 0, .control⟩
  | .SN_SDMCK => ⟨0x40200040, 0, 0x4, 6, 0, 1, 0x7f, 0, 0, 0, 0x18, .control⟩
  | .SN_SEQCTL => ⟨0x40200100, 0, 0x20, 32, 0, 1, 0x7fffff, 0, 0, 0, 0, .control⟩
  | .SN_SEQDLY => ⟨0x40200104, 0, 0x20, 32, 0, 1, 0xffffffff, 0, 0, 0, 0, .control⟩
  | .SN_SEQMASK => ⟨0x40200108, 0, 0x20, 32, 0, 1, 0xffffffff, 0, 0, 0, 0, .control⟩
  | .SN_SEQGO => ⟨0x4020010C, 0, 0x20, 32, 0, 1, 0, 0, 0, 0x1, 0, .control⟩
  | .SN_SEQSTAT => ⟨0x40200110, 0, 0x20, 32, 0, 1, 0, 0xc, 0, 0, 0, .control⟩
  | .SN_CHCTL => ⟨0x40201000, 0, 0x40, 96, 0, 1, 0xffff0001, 0, 0, 0, 0, .control⟩
  | .SN_SDCTL => ⟨0x40202800, 96, 0x40, 24, 0, 1, 0x3fffff, 0, 0, 0, 0x3f8c00, .control⟩
  | .SN_CHSTAT => ⟨0x40201004, 0, 0x40, 120, 0, 1, 0, 0xe, 0, 0, 0x1, .control⟩
  | .SN_SLCTL => ⟨0x40201008, 0, 0x40, 120, 0x10, 2, 0xffff00ff, 0, 0, 0, 0x30000, .control⟩
  | .SN_SLGAP => ⟨0x4020100C, 0, 0x40, 120, 0x10, 2, 0xffff, 0, 0, 0, 0, .control⟩
  | .SN_SLMEAN => ⟨0x40201010, 0, 0x40, 120, 0x10, 2, 0, 0, 0, 0, 0, .control⟩
  | .SN_SLINFO => ⟨0x40201014, 0, 0x40, 120, 0x10, 2, 0, 0, 0, 0, 0x40000, .control⟩
  | .SN_MMCTL => ⟨0x40201028, 0, 0x40, 120, 0, 1, 0x3f, 0, 0, 0x100, 0, .control⟩
  | .SN_MMMIN => ⟨0x4020102C, 0, 0x40, 120, 0, 1, 0, 0, 0, 0, 0, .control⟩
  | .SN_MMMAX => ⟨0x40201030, 0, 0x40, 120, 0, 1, 0, 0, 0, 0, 0, .control⟩
  | .SN_MMINFO => ⟨0x40201034, 0, 0x40, 120, 0, 1, 0, 0, 0, 0, 0x20000, .control⟩
  | .CN_CCTL => ⟨0x40280000, 0, 0, 1, 0, 1, 0x7f, 0, 0, 0, 0x64, .mixed⟩
  | .CN_CSTAT => ⟨0x40280004, 0, 0, 1, 0, 1, 0, 0x3, 0, 0, 0, .mixed⟩
  | .CN_WCTL => ⟨0x40280100, 0, 0x20, 96, 0, 1, 0x477fff7f, 0, 0, 0, 0x640000, .mixed⟩
  | .CN_WTHR => ⟨0x40280104, 0, 0x20, 96, 0, 1, 0x3ff03ff, 0, 0, 0, 0x3ff0000, .mixed⟩
  | .CN_WSTAT => ⟨0x40280108, 0, 0x20, 96, 0, 1, 0, 0x3c, 0, 0, 0, .mixed⟩
  | .CN_WSTAMP => ⟨0x4028010C, 0, 0x20, 96, 0, 1, 0, 0, 0, 0, 0, .mixed⟩
  | .PW_GSTAT => ⟨0x40130000, 0, 0, 1, 0, 1, 0, 0x2, 0, 0, 0, .control⟩
  | .PW_GATESTAT => ⟨0x40130004, 0, 0, 1, 0, 1, 0, 0x1, 0, 0, 0, .mixed⟩
  | .PW_GRPCTL => ⟨0x40120000, 0, 0x40, 8, 0, 1, 0x7fff, 0, 0, 0, 0, .control⟩
  | .PW_GRPPRD => ⟨0x40120004, 0, 0x40, 8, 0, 1, 0xffffffff, 0, 0, 0, 0x1e848000, .control⟩
  | .PW_GRPPHASE => ⟨0x40120008, 0, 0x40, 8, 0, 1, 0xffffffff, 0, 0, 0, 0, .control⟩
  | .PW_GRPCOMMIT => ⟨0x4012000C, 0, 0x40, 8, 0, 1, 0, 0x1c, 0, 0x1, 0, .control⟩
  | .PW_GRPSTAT => ⟨0x40120010, 0, 0x40, 8, 0, 1, 0, 0x4, 0, 0, 0, .control⟩
  | .PW_GRPACT => ⟨0x40120014, 0, 0x40, 8, 0, 1, 0, 0, 0, 0, 0, .control⟩
  | .PW_SYNCERR => ⟨0x40120018, 0, 0x40, 8, 0, 1, 0, 0, 0, 0, 0, .control⟩
  | .PW_CHCTL => ⟨0x40100000, 0, 0x400, 48, 0, 1, 0x3, 0, 0, 0, 0, .control⟩
  | .PW_DUTY => ⟨0x40100004, 0, 0x400, 48, 0, 1, 0xffffffff, 0, 0, 0, 0, .control⟩
  | .PW_DT => ⟨0x40100008, 0, 0x400, 48, 0, 1, 0xffff, 0, 0, 0, 0, .control⟩
  | .PW_OVR => ⟨0x4010000C, 0, 0x400, 48, 0, 1, 0x3f, 0, 0, 0, 0, .control⟩
  | .PW_ACTCMP => ⟨0x40100010, 0, 0x400, 48, 0, 1, 0, 0, 0, 0, 0, .control⟩
  | .PW_CHSTAT => ⟨0x40100014, 0, 0x400, 48, 0, 1, 0, 0x1f, 0, 0, 0x20, .control⟩
  | .PW_DRIVE => ⟨0x40100020, 0, 0x400, 48, 0, 1, 0x1f1f1f1f, 0, 0, 0, 0x4040404, .mixed⟩
  | .PW_SAFE => ⟨0x40100024, 0, 0x400, 48, 0, 1, 0x3, 0x100, 0, 0, 0, .mixed⟩
  | .CG_PCTL => ⟨0x40140000, 0, 0x20, 48, 0, 1, 0xffffff7f, 0, 0, 0x80, 0x14140200, .mixed⟩
  | .CG_PSTAT => ⟨0x40140004, 0, 0x20, 48, 0, 1, 0, 0x300, 0, 0, 0, .mixed⟩
  | .CG_DSSTAMP => ⟨0x40140008, 0, 0x20, 48, 0, 1, 0, 0, 0, 0, 0, .mixed⟩
  | .CG_FBSTAMP => ⟨0x4014000C, 0, 0x20, 48, 0, 1, 0, 0, 0, 0, 0, .mixed⟩
  | .CG_BCTL => ⟨0x40141000, 0, 0x10, 8, 0, 1, 0x7f, 0, 0, 0, 0xa, .mixed⟩
  | .CG_BSTAT => ⟨0x40141004, 0, 0x10, 8, 0, 1, 0, 0x8, 0, 0, 0, .mixed⟩
  | .CG_CGSTAT => ⟨0x40142000, 0, 0, 1, 0, 1, 0, 0x7, 0, 0, 0, .mixed⟩
  | .RG_RCTL => ⟨0x40331000, 0, 0x100, 24, 0, 1, 0xff3f3f31, 0, 0, 0xe, 0x3f00, .control⟩
  | .RG_RSTAT => ⟨0x40331004, 0, 0x100, 24, 0, 1, 0, 0x1f00, 0, 0, 0, .control⟩
  | .RG_RVAL => ⟨0x40331008, 0, 0x100, 24, 0, 1, 0, 0, 0, 0, 0, .control⟩
  | .RG_RSTART => ⟨0x4033100C, 0, 0x100, 24, 0, 1, 0xffffffff, 0, 0, 0, 0, .control⟩
  | .RG_SEGEND => ⟨0x40331040, 0, 0x100, 24, 0x8, 16, 0xffffffff, 0, 0, 0, 0, .control⟩
  | .RG_SEGDUR => ⟨0x40331044, 0, 0x100, 24, 0x8, 16, 0xffff, 0, 0, 0, 0, .control⟩
  | .AS_ACTL => ⟨0x40400000, 0, 0, 1, 0, 1, 0, 0, 0, 0x1, 0, .mixed⟩
  | .AS_ASTAT => ⟨0x40400004, 0, 0, 1, 0, 1, 0, 0x1f8ff70, 0, 0, 0, .mixed⟩
  | .AS_SNAPNUM => ⟨0x40400008, 0, 0, 1, 0, 1, 0, 0, 0, 0, 0, .mixed⟩
  | .AS_LOSS => ⟨0x40400010, 0, 0x4, 2, 0, 1, 0, 0, 0, 0, 0, .lamp⟩
  | .AS_SAVESTAT => ⟨0x40400018, 0, 0, 1, 0, 1, 0, 0, 0, 0, 0, .lamp⟩
  | .AS_MCFG => ⟨0x40400040, 0, 0, 1, 0, 1, 0, 0, 0x7f0fff, 0, 0x280d09, .nv⟩
  | .AS_SAVEINT => ⟨0x40400044, 0, 0, 1, 0, 1, 0, 0, 0xffff, 0, 0x3e8, .nv⟩
  | .AS_PMAX => ⟨0x40400048, 0, 0, 1, 0, 1, 0, 0, 0xffffffff, 0, 0, .nv⟩
  | .AS_PCONST => ⟨0x4040004C, 0, 0, 1, 0, 1, 0, 0, 0xffffffff, 0, 0, .nv⟩
  | .AS_ZXCFG => ⟨0x40400050, 0, 0, 1, 0, 1, 0, 0, 0xff03ff, 0, 0xa0028, .nv⟩
  | .AS_WCFG => ⟨0x40400054, 0, 0, 1, 0, 1, 0, 0, 0xf, 0, 0, .nv⟩
  | .AS_CHGAIN => ⟨0x40400100, 0, 0x10, 8, 0, 1, 0, 0, 0xffffffff, 0, 0x40000000, .nv⟩
  | .AS_CHOFS => ⟨0x40400104, 0, 0x10, 8, 0, 1, 0, 0, 0xffffff, 0, 0, .nv⟩
  | .AS_PHDLY => ⟨0x40400108, 0, 0x10, 8, 0, 1, 0, 0, 0xffff, 0, 0, .nv⟩
  | .AS_QGAIN => ⟨0x40400200, 0, 0x8, 31, 0, 1, 0, 0, 0xffffffff, 0, 0, .nv⟩
  | .AS_QOFS => ⟨0x40400204, 0, 0x8, 31, 0, 1, 0, 0, 0xffffffff, 0, 0, .nv⟩
  | .AS_RES => ⟨0x40400400, 0, 0x4, 31, 0, 1, 0, 0, 0, 0, 0, .mixed⟩
  | .AS_WNUM => ⟨0x40400480, 0, 0, 1, 0, 1, 0, 0, 0, 0, 0, .mixed⟩
  | .AS_EMLO => ⟨0x40400800, 0, 0x8, 16, 0, 1, 0, 0, 0, 0, 0, .lamp⟩
  | .AS_EMHI => ⟨0x40400804, 0, 0x8, 16, 0, 1, 0, 0, 0, 0, 0, .lamp⟩
  | .AS_EWIN => ⟨0x40400900, 0, 0x4, 16, 0, 1, 0, 0, 0, 0, 0, .lamp⟩
  | .AS_WRAPS => ⟨0x40400980, 0, 0x4, 4, 0, 1, 0, 0, 0, 0, 0, .lamp⟩
  | .AS_S0CTL => ⟨0x40400A00, 0, 0x20, 4, 0, 1, 0, 0, 0x7ff0fff, 0, 0xd14, .nv⟩
  | .AS_S0WGT => ⟨0x40400A04, 0, 0x20, 4, 0, 1, 0, 0, 0xffffffff, 0, 0, .nv⟩
  | .AS_S0TOL => ⟨0x40400A08, 0, 0x20, 4, 0, 1, 0, 0, 0xffff, 0, 0x14, .nv⟩
  | .AS_S0CNT => ⟨0x40400A0C, 0, 0x20, 4, 0, 1, 0, 0, 0, 0, 0, .lamp⟩
  | .AS_S0CHK => ⟨0x40400A10, 0, 0x20, 4, 0, 1, 0, 0, 0, 0, 0, .mixed⟩
  | .AS_S0STAT => ⟨0x40400A14, 0, 0x20, 4, 0, 1, 0, 0x6, 0, 0, 0, .mixed⟩
  | .AS_TPOCTL => ⟨0x40400B00, 0, 0x10, 8, 0, 1, 0, 0, 0x7fff, 0, 0x2800, .nv⟩
  | .AS_TPOCONST => ⟨0x40400B04, 0, 0x10, 8, 0, 1, 0, 0, 0xffffffff, 0, 0, .nv⟩
  | .AS_TPOSTAT => ⟨0x40400B08, 0, 0x10, 8, 0, 1, 0, 0x10000, 0, 0, 0, .mixed⟩
  | .AS_PSTAT => ⟨0x40400B80, 0, 0, 1, 0, 1, 0, 0x10000, 0, 0, 0, .mixed⟩
  | .DR_DSTAT => ⟨0x40801000, 0, 0, 1, 0, 1, 0, 0x7e0000, 0, 0, 0, .control⟩
  | .DR_TESTCTL => ⟨0x40801004, 0, 0, 1, 0, 1, 0x803f7fff, 0, 0, 0, 0x204c18, .sticky⟩
  | .DR_PCTL => ⟨0x40801100, 0, 0x40, 16, 0, 1, 0, 0x70, 0, 0x7, 0, .control⟩
  | .DR_PSTATE => ⟨0x40801104, 0, 0x40, 16, 0, 1, 0, 0, 0, 0, 0, .control⟩
  | .DR_PFAULT => ⟨0x40801108, 0, 0x40, 16, 0, 1, 0, 0, 0, 0, 0, .control⟩
  | .DR_PSTAMP => ⟨0x4080110C, 0, 0x40, 16, 0, 1, 0, 0, 0, 0, 0, .control⟩
  | .DR_PCOUNT => ⟨0x40801110, 0, 0x40, 16, 0, 1, 0, 0, 0, 0, 0, .control⟩
  | .DR_PLOG => ⟨0x40801114, 0, 0x40, 16, 0, 1, 0, 0, 0, 0x80000000, 0, .control⟩
  | .DR_OWNRGN => ⟨0x40801120, 0, 0x40, 16, 0x4, 4, 0x800fffff, 0, 0, 0, 0, .control⟩
  | .IC_SRCCFG => ⟨0x40480000, 0, 0x4, 1024, 0, 1, 0x7f01f7, 0, 0, 0, 0, .control⟩
  | .IC_SCTL => ⟨0x40481000, 0, 0x100, 17, 0, 1, 0xf, 0, 0, 0, 0, .control⟩
  | .IC_CLAIM => ⟨0x40481004, 0, 0x100, 17, 0, 1, 0, 0, 0, 0, 0x400, .control⟩
  | .IC_COMPLETE => ⟨0x40481008, 0, 0x100, 17, 0, 1, 0, 0, 0, 0x3ff, 0, .control⟩
  | .IC_SSTAT => ⟨0x4048100C, 0, 0x100, 17, 0, 1, 0, 0x6, 0, 0, 0, .control⟩
  | .IC_PEND => ⟨0x40481080, 0, 0x100, 17, 0x4, 32, 0, 0xffffffff, 0, 0, 0, .control⟩
  | .IC_GCFG => ⟨0x40483000, 0, 0x10, 64, 0, 1, 0xff1f01, 0, 0, 0x2, 0x10000, .control⟩
  | .IC_GSTAT => ⟨0x40483004, 0, 0x10, 64, 0, 1, 0xffff, 0, 0, 0, 0x1, .control⟩
  | .FM_FSTAT => ⟨0x40900000, 0, 0, 1, 0, 1, 0, 0, 0, 0, 0x10ff7, .mixed⟩
  | .FM_FSAFEN => ⟨0x40900004, 0, 0, 1, 0, 1, 0xffff07ff, 0, 0, 0, 0xffff0000, .mixed⟩
  | .FM_FCMD => ⟨0x40900008, 0, 0, 1, 0, 1, 0x1f, 0, 0, 0, 0, .mixed⟩
  | .FM_FCLR => ⟨0x4090000C, 0, 0, 1, 0, 1, 0, 0, 0, 0x1, 0, .mixed⟩
  | .FM_FOUT => ⟨0x40900010, 0, 0, 1, 0, 1, 0, 0, 0, 0, 0, .mixed⟩
  | .FM_FCAUSE => ⟨0x40900014, 0, 0, 1, 0, 1, 0, 0xfffff, 0, 0, 0, .mixed⟩
  | .FM_FSTAMP => ⟨0x40900018, 0, 0, 1, 0, 1, 0, 0, 0, 0, 0, .mixed⟩
  | .FM_SEAL => ⟨0x4090001C, 0, 0, 1, 0, 1, 0, 0, 0, 0, 0, .mixed⟩
  | .FM_BTEST => ⟨0x40900020, 0, 0, 1, 0, 1, 0, 0x30, 0, 0x3, 0xffff0000, .mixed⟩
  | .FM_FLIM => ⟨0x40900024, 0, 0, 1, 0, 1, 0, 0, 0, 0, 0, .mixed⟩
  | .FM_FMONV0 => ⟨0x40900028, 0, 0, 1, 0, 1, 0, 0, 0, 0, 0, .mixed⟩
  | .FM_FMONV1 => ⟨0x4090002C, 0, 0, 1, 0, 1, 0, 0, 0, 0, 0, .mixed⟩
  | .FM_FMONF => ⟨0x40900030, 0, 0, 1, 0, 1, 0, 0, 0, 0, 0, .mixed⟩
  | .BK_BKSTAT => ⟨0x40A0F000, 0, 0, 1, 0, 1, 0, 0, 0, 0, 0, .link⟩
  | .BK_DEVID => ⟨0x40A0F004, 0, 0x4, 4, 0, 1, 0, 0, 0, 0, 0, .link⟩
  | .BK_SLOTMAP0 => ⟨0x40A0F014, 0, 0, 1, 0, 1, 0, 0, 0, 0, 0, .link⟩
  | .BK_SLOTMAP1 => ⟨0x40A0F018, 0, 0, 1, 0, 1, 0, 0, 0, 0, 0, .link⟩
  | .BK_TAMPSTAT => ⟨0x40A0F01C, 0, 0, 1, 0, 1, 0, 0xe, 0, 0, 0, .link⟩
  | .BK_TAMPCNT => ⟨0x40A0F020, 0, 0, 1, 0, 1, 0, 0, 0, 0, 0, .link⟩
  | .BK_ADITSTAT => ⟨0x40A0F024, 0, 0, 1, 0, 1, 0, 0, 0, 0, 0, .link⟩
  | .EX_MBCTL => ⟨0x40A0C000, 0, 0x10, 8, 0, 1, 0x8, 0, 0, 0x7, 0, .link⟩
  | .EX_MBSTAT => ⟨0x40A0C004, 0, 0x10, 8, 0, 1, 0, 0x6, 0, 0, 0, .link⟩
  | .EX_MBLEN => ⟨0x40A0C008, 0, 0x10, 8, 0, 1, 0x1fff, 0, 0, 0, 0, .link⟩
  | .EX_EXSTAT => ⟨0x40A0C100, 0, 0, 1, 0, 1, 0, 0x180, 0, 0, 0x2, .link⟩
  | .EX_EXCNT => ⟨0x40A0C104, 0, 0, 1, 0, 1, 0, 0, 0, 0, 0, .link⟩
  | .EX_ARBSTEP0 => ⟨0x40A0C108, 0, 0, 1, 0, 1, 0, 0, 0, 0, 0, .link⟩
  | .EX_ARBSTEP1 => ⟨0x40A0C10C, 0, 0, 1, 0, 1, 0, 0, 0, 0, 0, .link⟩
  | .EX_TIMESTAT => ⟨0x40A0C110, 0, 0, 1, 0, 1, 0, 0, 0, 0, 0xffffffff, .link⟩
  | .EX_CFGVAL => ⟨0x40A0E000, 0, 0x10, 64, 0, 1, 0, 0, 0xffffffff, 0, 0, .nv⟩
  | .EX_CFGMIN => ⟨0x40A0E004, 0, 0x10, 64, 0, 1, 0, 0, 0xffffffff, 0, 0, .nv⟩
  | .EX_CFGMAX => ⟨0x40A0E008, 0, 0x10, 64, 0, 1, 0, 0, 0xffffffff, 0, 0, .nv⟩
  | .EX_CFGSRC => ⟨0x40A0E00C, 0, 0x10, 64, 0, 1, 0, 0, 0xffff0007, 0, 0, .nv⟩
  | .WI_WCTL => ⟨0x40020000, 0, 0, 1, 0, 1, 0x1, 0, 0, 0, 0, .link⟩
  | .WI_WSTAT => ⟨0x40020004, 0, 0, 1, 0, 1, 0, 0x7, 0, 0, 0, .link⟩
  | .WI_SCTL => ⟨0x40020100, 0, 0x10, 4, 0, 1, 0x1, 0, 0, 0, 0, .link⟩
  | .WI_SSTAT => ⟨0x40020104, 0, 0x10, 4, 0, 1, 0, 0x4, 0, 0, 0, .link⟩
  | .WI_SSCFG => ⟨0x40020108, 0, 0x10, 4, 0, 1, 0x1ff7f, 0, 0, 0, 0x12c00, .link⟩
  | .WI_RCTL => ⟨0x40020200, 0, 0, 1, 0, 1, 0xfc, 0, 0, 0x3, 0, .link⟩
  | .WI_RSTAT => ⟨0x40020204, 0, 0, 1, 0, 1, 0, 0, 0, 0, 0x3d09000, .link⟩
  | .WI_RSEG => ⟨0x40020240, 0, 0x4, 16, 0, 1, 0xfff7ffff, 0, 0, 0, 0x13d090, .link⟩
  | .WI_OCTL => ⟨0x40020300, 0, 0x4, 4, 0, 1, 0xff3f, 0, 0, 0, 0x904, .link⟩
  | .PR_PWRCTL => ⟨0x40800800, 0, 0, 1, 0, 1, 0xff0, 0, 0, 0x3, 0x100, .link⟩
  | .PR_PWRSTAT => ⟨0x40800804, 0, 0, 1, 0, 1, 0, 0x88, 0, 0, 0, .mixed⟩
  | .PR_WAKECFG => ⟨0x40800808, 0, 0, 1, 0, 1, 0x3ff7f07, 0, 0, 0, 0x3c5504, .mixed⟩
  | .PR_WAKEAT => ⟨0x4080080C, 0, 0, 1, 0, 1, 0xffffffff, 0, 0, 0, 0, .mixed⟩
  | .PR_RAILSTAT => ⟨0x40800810, 0, 0, 1, 0, 1, 0, 0x7ff, 0, 0, 0, .mixed⟩
  | .RS_RSTCTL => ⟨0x40800000, 0, 0, 1, 0, 1, 0, 0, 0, 0xffff00f3, 0, .control⟩
  | .RS_RSTSTAT => ⟨0x40800004, 0, 0, 1, 0, 1, 0, 0x3000, 0, 0, 0, .kept⟩
  | .RS_RSTREL => ⟨0x40800008, 0, 0, 1, 0, 1, 0, 0, 0, 0x7f, 0, .control⟩
  | .RS_RSTCNT => ⟨0x40800010, 0, 0x4, 4, 0, 1, 0, 0, 0, 0, 0, .lamp⟩
  | .RS_RSTTOT => ⟨0x40800020, 0, 0, 1, 0, 1, 0, 0, 0, 0, 0, .lamp⟩
  | .RS_OPTIMG => ⟨0x40800080, 0, 0x4, 16, 0, 1, 0, 0, 0, 0, 0, .kept⟩
  | .RS_WDTCTL => ⟨0x40800100, 0, 0x8, 16, 0, 1, 0x7ff, 0x800, 0, 0, 0xc8, .control⟩
  | .RS_WDTKICK => ⟨0x40800104, 0, 0x8, 16, 0, 1, 0, 0, 0, 0xffff, 0, .control⟩
  | .RS_PADREL => ⟨0x40640F00, 0, 0, 1, 0, 1, 0, 0, 0, 0x3f, 0x3f00, .control⟩
  | .LA_LCTL => ⟨0x40810000, 0, 0, 1, 0, 1, 0x7f0f7f, 0, 0, 0, 0x50045a, .lamp⟩
  | .LA_LSTAT => ⟨0x40810004, 0, 0, 1, 0, 1, 0, 0x380, 0, 0, 0, .lamp⟩
  | .LA_GAUGE => ⟨0x40810008, 0, 0, 1, 0, 1, 0, 0, 0, 0, 0, .lamp⟩
  | .LA_GHELD => ⟨0x4081000C, 0, 0, 1, 0, 1, 0, 0, 0, 0, 0, .lamp⟩
  | .LA_GFLOOR => ⟨0x40810010, 0, 0, 1, 0, 1, 0xffff, 0, 0, 0, 0, .lamp⟩
  | .LA_CAP => ⟨0x40810014, 0, 0, 1, 0, 1, 0, 0, 0, 0, 0x1d6, .lamp⟩
  | .LA_RTCLO => ⟨0x40810018, 0, 0, 1, 0, 1, 0, 0, 0, 0, 0, .lamp⟩
  | .LA_RTCHI => ⟨0x4081001C, 0, 0, 1, 0, 1, 0, 0, 0, 0, 0, .lamp⟩
  | .LA_RETAIN => ⟨0x40811000, 0, 0x4, 1024, 0, 1, 0xffffffff, 0, 0, 0, 0, .lamp⟩
  | .SE_SCTL => ⟨0x40500000, 0, 0, 1, 0, 1, 0x1, 0, 0, 0, 0, .control⟩
  | .SE_SSTAT => ⟨0x40500004, 0, 0, 1, 0, 1, 0, 0x3f, 0, 0, 0, .control⟩
  | .SE_WPTR => ⟨0x40500008, 0, 0, 1, 0, 1, 0, 0, 0, 0, 0, .control⟩
  | .SE_RINGWRAP => ⟨0x4050000C, 0, 0, 1, 0, 1, 0, 0, 0, 0, 0, .control⟩
  | .SE_HOLD => ⟨0x40500010, 0, 0, 1, 0, 1, 0, 0, 0, 0, 0, .control⟩
  | .SE_MEMSTAT => ⟨0x40500020, 0, 0, 1, 0, 1, 0, 0x1f, 0, 0, 0, .control⟩
  | .SE_MEMERRA => ⟨0x40500024, 0, 0, 1, 0, 1, 0, 0, 0, 0, 0, .control⟩
  | .SE_STRCFG => ⟨0x40501000, 0, 0x10, 64, 0, 1, 0xfffffffd, 0, 0, 0, 0x19000000, .control⟩
  | .SE_STRSTAT => ⟨0x40501004, 0, 0x10, 64, 0, 1, 0, 0, 0, 0, 0, .control⟩
  | .SE_STRDROP => ⟨0x40501008, 0, 0x10, 64, 0, 1, 0, 0, 0, 0, 0, .control⟩
  | .SE_STRPUT => ⟨0x4050100C, 0, 0x10, 64, 0, 1, 0, 0, 0, 0xffffffff, 0, .control⟩
  | .SE_TRGCFG => ⟨0x40502000, 0, 0x20, 16, 0, 1, 0xffffffff, 0, 0, 0, 0, .control⟩
  | .SE_TRGCTL => ⟨0x40502004, 0, 0x20, 16, 0, 1, 0x9, 0, 0, 0x6, 0, .control⟩
  | .SE_CAPSTART => ⟨0x40502008, 0, 0x20, 16, 0, 1, 0, 0, 0, 0, 0, .control⟩
  | .SE_CAPEND => ⟨0x4050200C, 0, 0x20, 16, 0, 1, 0, 0, 0, 0, 0, .control⟩
  | .SE_CAPSTAT => ⟨0x40502010, 0, 0x20, 16, 0, 1, 0, 0x1c, 0, 0, 0, .control⟩
  | .SE_DRCFG => ⟨0x40503000, 0, 0x40, 2, 0, 1, 0xfffff9, 0, 0, 0x6, 0, .control⟩
  | .SE_DRSRC => ⟨0x40503004, 0, 0x40, 2, 0, 1, 0xffffffff, 0, 0, 0, 0, .control⟩
  | .SE_DRLEN => ⟨0x40503008, 0, 0x40, 2, 0, 1, 0xffffffff, 0, 0, 0, 0, .control⟩
  | .SE_DRDST => ⟨0x4050300C, 0, 0x40, 2, 0, 1, 0xffffffff, 0, 0, 0, 0x36000000, .control⟩
  | .SE_DRPTR => ⟨0x40503010, 0, 0x40, 2, 0, 1, 0, 0, 0, 0, 0, .control⟩
  | .SE_DRSTAT => ⟨0x40503014, 0, 0x40, 2, 0, 1, 0, 0xe, 0, 0, 0, .control⟩
  | .UH_UCTL => ⟨0x40700000, 0, 0, 1, 0, 1, 0xffff003f, 0, 0, 0, 0x1000000, .link⟩
  | .UH_UGID => ⟨0x40700004, 0, 0, 1, 0, 1, 0xffff, 0, 0, 0, 0, .link⟩
  | .UH_USTAT => ⟨0x40700008, 0, 0, 1, 0, 1, 0, 0xf0, 0, 0, 0, .link⟩
  | .UH_UPORT => ⟨0x40700010, 0, 0x4, 2, 0, 1, 0, 0x8, 0, 0, 0, .link⟩
  | .UH_UTRIPCFG => ⟨0x40700020, 0, 0, 1, 0, 1, 0xffff07, 0, 0, 0, 0, .link⟩
  | .UH_UTRIPGO => ⟨0x40700024, 0, 0, 1, 0, 1, 0x2ff, 0, 0, 0x100, 0, .link⟩
  | .UH_UTRIP => ⟨0x40700028, 0, 0, 1, 0, 1, 0, 0xff, 0, 0, 0, .link⟩
  | .UH_RINGLAT => ⟨0x4070002C, 0, 0, 1, 0, 1, 0, 0, 0, 0, 0, .link⟩
  | .UH_UPROBE => ⟨0x40700030, 0, 0, 1, 0, 1, 0xffffffff, 0, 0, 0, 0, .link⟩
  | .UH_UPROBERX => ⟨0x40700034, 0, 0, 1, 0, 1, 0, 0, 0, 0, 0, .link⟩
  | .UH_UERR => ⟨0x40700038, 0, 0, 1, 0, 1, 0, 0, 0, 0, 0, .link⟩
  | .UH_USVCFG => ⟨0x40701000, 0, 0x4, 256, 0, 1, 0xff, 0, 0, 0, 0, .link⟩
  | .UH_USVPUT => ⟨0x40702000, 0, 0x4, 256, 0, 1, 0, 0, 0, 0xffffffff, 0, .link⟩
  | .UH_USVVAL => ⟨0x40703000, 0, 0x8, 256, 0, 1, 0, 0, 0, 0, 0, .link⟩
  | .UH_USVINFO => ⟨0x40703004, 0, 0x8, 256, 0, 1, 0, 0, 0, 0, 0xffff0001, .link⟩
  | .ET_ETHCTL => ⟨0x40600000, 0, 0x4000, 2, 0, 1, 0x1ff, 0, 0, 0, 0x88, .control⟩
  | .ET_ETHSTAT => ⟨0x40600004, 0, 0x4000, 2, 0, 1, 0, 0, 0, 0, 0, .control⟩
  | .ET_RXLAT => ⟨0x40600008, 0, 0x4000, 2, 0, 1, 0xffff, 0, 0, 0, 0, .control⟩
  | .ET_TXLAT => ⟨0x4060000C, 0, 0x4000, 2, 0, 1, 0xffff, 0, 0, 0, 0, .control⟩
  | .ET_GFLT => ⟨0x40600100, 0, 0x4000, 2, 0x4, 32, 0x8003ffff, 0, 0, 0, 0, .control⟩
  | .ET_PTPADJ => ⟨0x40608000, 0, 0, 1, 0, 1, 0xffffffff, 0, 0, 0, 0, .control⟩
  | .ET_PTPSTEP => ⟨0x40608004, 0, 0, 1, 0, 1, 0, 0, 0, 0xffffffff, 0, .control⟩
  | .ET_TARGET => ⟨0x40608008, 0, 0x4, 2, 0, 1, 0xffffffff, 0, 0, 0, 0, .control⟩
  | .ET_PTPTRUST => ⟨0x40608010, 0, 0, 1, 0, 1, 0x11, 0x8, 0, 0x2, 0, .control⟩
  | .ET_GMID => ⟨0x40608020, 0, 0x8, 2, 0x4, 2, 0xffffffff, 0, 0, 0, 0, .control⟩
  | .GP_GPIOCFG => ⟨0x40640000, 0, 0x4, 64, 0, 1, 0xfff, 0, 0, 0, 0x38, .control⟩
  | .GP_GPIOIN => ⟨0x40640100, 0, 0x4, 2, 0, 1, 0, 0, 0, 0, 0, .control⟩
  | .GP_GPIOOUT => ⟨0x40640108, 0, 0x4, 2, 0, 1, 0xffffffff, 0, 0, 0, 0, .control⟩
  | .AS_SNAPIMG => ⟨0x40401400, 0, 0x4, 512, 0, 1, 0, 0, 0, 0, 0, .mixed⟩
  | .EX_MBDATA => ⟨0x40A00000, 0, 0x1800, 8, 0x4, 1536, 0xffffffff, 0, 0, 0, 0, .link⟩

/-- The bits of a register that its tables mark RWL (R3), by register name. -/
def RegId.rwl : RegId → Nat
  | .BLK_BLKCTL => 0x8000df00
  | .BLK_BLKCELLS0 => 0xffffffff
  | .BLK_BLKCELLS1 => 0xffff
  | .DR_TESTCTL => 0x803f7fff
  | .RS_WDTCTL => 0x1
  | .UH_UCTL => 0x3e
  | .UH_UGID => 0xffff
  | _ => 0

/-- The registers of the unit BLK. -/
def regsBLK : List RegId :=
  [.BLK_BLKCTL, .BLK_BLKCELLS0, .BLK_BLKCELLS1]

/-- The registers of the unit HF. -/
def regsHF : List RegId :=
  [.HF_DOMCTL, .HF_DOMSTAT, .HF_ANG, .HF_TURN, .HF_FREQ, .HF_ROCOF, .HF_PMAG, .HF_NMAG, .HF_NANG, .HF_JUMPANG,
   .HF_TRKIN, .HF_TRKTHR, .HF_NOMMAG, .HF_INC]

/-- The registers of the unit EV. -/
def regsEV : List RegId :=
  [.EV_EVTANG, .EV_EVTCTL, .EV_EVTTGT, .EV_EVTSTAT]

/-- The registers of the unit SP. -/
def regsSP : List RegId :=
  [.SP_CTL, .SP_STAT, .SP_CNT, .SP_COMMIT, .SP_OVERRUN0, .SP_OVERRUN1, .SP_PAIRSUP, .SP_CREWCTL, .SP_GRANTA0,
   .SP_GRANTB0, .SP_GRANTA1, .SP_GRANTB1, .SP_GRANTA2, .SP_GRANTB2, .SP_MAP0, .SP_MAP1, .SP_REMAIN0, .SP_REMAIN1,
   .SP_REMAIN2, .SP_CREWSTAT]

/-- The registers of the unit PK. -/
def regsPK : List RegId :=
  [.PK_PCTL, .PK_PSTAT, .PK_BUDGET, .PK_INVSRC, .PK_SLICEMAP0, .PK_SLICEMAP1, .PK_ICOUNT, .PK_LATE, .PK_REGION,
   .PK_OPV, .PK_ARBCTL, .PK_ARBSTAT, .PK_ARBOUT, .PK_TRACK, .PK_SLOTVAL, .PK_PARAMGO, .PK_PARAM, .PK_REPORT,
   .PK_REPLATCH]

/-- The registers of the unit SN. -/
def regsSN : List RegId :=
  [.SN_CTL, .SN_DIAGSEL, .SN_DIAGRES, .SN_DIAGSTAT, .SN_SDMCK, .SN_SEQCTL, .SN_SEQDLY, .SN_SEQMASK, .SN_SEQGO,
   .SN_SEQSTAT, .SN_CHCTL, .SN_SDCTL, .SN_CHSTAT, .SN_SLCTL, .SN_SLGAP, .SN_SLMEAN, .SN_SLINFO, .SN_MMCTL, .SN_MMMIN,
   .SN_MMMAX, .SN_MMINFO]

/-- The registers of the unit CN. -/
def regsCN : List RegId :=
  [.CN_CCTL, .CN_CSTAT, .CN_WCTL, .CN_WTHR, .CN_WSTAT, .CN_WSTAMP]

/-- The registers of the unit PW. -/
def regsPW : List RegId :=
  [.PW_GSTAT, .PW_GATESTAT, .PW_GRPCTL, .PW_GRPPRD, .PW_GRPPHASE, .PW_GRPCOMMIT, .PW_GRPSTAT, .PW_GRPACT,
   .PW_SYNCERR, .PW_CHCTL, .PW_DUTY, .PW_DT, .PW_OVR, .PW_ACTCMP, .PW_CHSTAT, .PW_DRIVE, .PW_SAFE]

/-- The registers of the unit CG. -/
def regsCG : List RegId :=
  [.CG_PCTL, .CG_PSTAT, .CG_DSSTAMP, .CG_FBSTAMP, .CG_BCTL, .CG_BSTAT, .CG_CGSTAT]

/-- The registers of the unit RG. -/
def regsRG : List RegId :=
  [.RG_RCTL, .RG_RSTAT, .RG_RVAL, .RG_RSTART, .RG_SEGEND, .RG_SEGDUR]

/-- The registers of the unit AS. -/
def regsAS : List RegId :=
  [.AS_ACTL, .AS_ASTAT, .AS_SNAPNUM, .AS_LOSS, .AS_SAVESTAT, .AS_MCFG, .AS_SAVEINT, .AS_PMAX, .AS_PCONST, .AS_ZXCFG,
   .AS_WCFG, .AS_CHGAIN, .AS_CHOFS, .AS_PHDLY, .AS_QGAIN, .AS_QOFS, .AS_RES, .AS_WNUM, .AS_EMLO, .AS_EMHI, .AS_EWIN,
   .AS_WRAPS, .AS_S0CTL, .AS_S0WGT, .AS_S0TOL, .AS_S0CNT, .AS_S0CHK, .AS_S0STAT, .AS_TPOCTL, .AS_TPOCONST,
   .AS_TPOSTAT, .AS_PSTAT, .AS_SNAPIMG]

/-- The registers of the unit DR. -/
def regsDR : List RegId :=
  [.DR_DSTAT, .DR_TESTCTL, .DR_PCTL, .DR_PSTATE, .DR_PFAULT, .DR_PSTAMP, .DR_PCOUNT, .DR_PLOG, .DR_OWNRGN]

/-- The registers of the unit IC. -/
def regsIC : List RegId :=
  [.IC_SRCCFG, .IC_SCTL, .IC_CLAIM, .IC_COMPLETE, .IC_SSTAT, .IC_PEND, .IC_GCFG, .IC_GSTAT]

/-- The registers of the unit FM. -/
def regsFM : List RegId :=
  [.FM_FSTAT, .FM_FSAFEN, .FM_FCMD, .FM_FCLR, .FM_FOUT, .FM_FCAUSE, .FM_FSTAMP, .FM_SEAL, .FM_BTEST, .FM_FLIM,
   .FM_FMONV0, .FM_FMONV1, .FM_FMONF]

/-- The registers of the unit BK. -/
def regsBK : List RegId :=
  [.BK_BKSTAT, .BK_DEVID, .BK_SLOTMAP0, .BK_SLOTMAP1, .BK_TAMPSTAT, .BK_TAMPCNT, .BK_ADITSTAT]

/-- The registers of the unit EX. -/
def regsEX : List RegId :=
  [.EX_MBCTL, .EX_MBSTAT, .EX_MBLEN, .EX_EXSTAT, .EX_EXCNT, .EX_ARBSTEP0, .EX_ARBSTEP1, .EX_TIMESTAT, .EX_CFGVAL,
   .EX_CFGMIN, .EX_CFGMAX, .EX_CFGSRC, .EX_MBDATA]

/-- The registers of the unit WI. -/
def regsWI : List RegId :=
  [.WI_WCTL, .WI_WSTAT, .WI_SCTL, .WI_SSTAT, .WI_SSCFG, .WI_RCTL, .WI_RSTAT, .WI_RSEG, .WI_OCTL]

/-- The registers of the unit PR. -/
def regsPR : List RegId :=
  [.PR_PWRCTL, .PR_PWRSTAT, .PR_WAKECFG, .PR_WAKEAT, .PR_RAILSTAT]

/-- The registers of the unit RS. -/
def regsRS : List RegId :=
  [.RS_RSTCTL, .RS_RSTSTAT, .RS_RSTREL, .RS_RSTCNT, .RS_RSTTOT, .RS_OPTIMG, .RS_WDTCTL, .RS_WDTKICK, .RS_PADREL]

/-- The registers of the unit LA. -/
def regsLA : List RegId :=
  [.LA_LCTL, .LA_LSTAT, .LA_GAUGE, .LA_GHELD, .LA_GFLOOR, .LA_CAP, .LA_RTCLO, .LA_RTCHI, .LA_RETAIN]

/-- The registers of the unit SE. -/
def regsSE : List RegId :=
  [.SE_SCTL, .SE_SSTAT, .SE_WPTR, .SE_RINGWRAP, .SE_HOLD, .SE_MEMSTAT, .SE_MEMERRA, .SE_STRCFG, .SE_STRSTAT,
   .SE_STRDROP, .SE_STRPUT, .SE_TRGCFG, .SE_TRGCTL, .SE_CAPSTART, .SE_CAPEND, .SE_CAPSTAT, .SE_DRCFG, .SE_DRSRC,
   .SE_DRLEN, .SE_DRDST, .SE_DRPTR, .SE_DRSTAT]

/-- The registers of the unit UH. -/
def regsUH : List RegId :=
  [.UH_UCTL, .UH_UGID, .UH_USTAT, .UH_UPORT, .UH_UTRIPCFG, .UH_UTRIPGO, .UH_UTRIP, .UH_RINGLAT, .UH_UPROBE,
   .UH_UPROBERX, .UH_UERR, .UH_USVCFG, .UH_USVPUT, .UH_USVVAL, .UH_USVINFO]

/-- The registers of the unit ET. -/
def regsET : List RegId :=
  [.ET_ETHCTL, .ET_ETHSTAT, .ET_RXLAT, .ET_TXLAT, .ET_GFLT, .ET_PTPADJ, .ET_PTPSTEP, .ET_TARGET, .ET_PTPTRUST,
   .ET_GMID]

/-- The registers of the unit GP. -/
def regsGP : List RegId :=
  [.GP_GPIOCFG, .GP_GPIOIN, .GP_GPIOOUT]

/-- Every register. -/
def RegId.all : List RegId :=
  regsBLK ++ regsHF ++ regsEV ++ regsSP ++ regsPK ++ regsSN ++ regsCN ++ regsPW ++ regsCG ++ regsRG ++ regsAS ++ regsDR ++ regsIC ++ regsFM ++ regsBK ++ regsEX ++ regsWI ++ regsPR ++ regsRS ++ regsLA ++ regsSE ++ regsUH ++ regsET ++ regsGP

end Sys2Proof.Machine
end

