-- ==== Sys2Proof/Machine/Units.lean ====
section
/-! DEFINITION. The state of the units that no register holds: one structure for each unit of the spec, plain data. What a register
table names lives in the register file of Machine/State.lean; what a rule names and no register shows lives here. -/

namespace Sys2Proof.Machine

/-- The deadlines of the timed events: a timed event acts once its deadline has come (log entry 1). -/
inductive Timer where
  /-- The coalescing timer of a group (R308). -/
  | icGroup (g : Nat)
  /-- The flush of a stream's open burst (R445). -/
  | burstFlush (t : Nat)
  /-- COASTMAX of a domain in COAST (R40). -/
  | coast (d : Nat)
  /-- 1 ms without a write of the domain's Pick pair, 8 µs without a valid angle broadcast (R41). -/
  | pickSource (d : Nat)
  | uhlaSource (d : Nat)
  /-- 100 µs since a pair's last completed checkpoint (R280). -/
  | checkpoint (n : Nat)
  /-- 0.1 µs and 1.0 µs from the detection of a pair fault (R285, R287). -/
  | pairFail (n : Nat)
  | takeover (n : Nat)
  /-- The watchdog of a pair, and half its period (R412). -/
  | watchdog (n : Nat)
  | warn (n : Nat)
  /-- The lock declaration of a synthesizer, and the end of REALIGN (R383, R389). -/
  | synthLock (n : Nat)
  | realign
  /-- The next 1 µs update of the Winder ramp and of a ramp generator; 10 ms in WAIT (R388, R191, R192). -/
  | winderRamp
  | ramp (r : Nat)
  | rampWait (r : Nat)
  /-- The turn-on delay of an output of a channel, PWMH when `hi` (R159). -/
  | turnOn (c : Nat) (hi : Bool)
  /-- The check window of an output (R179). -/
  | fbCheck (c : Nat) (hi : Bool)
  /-- Blanking of a cell's DSAT input (R181). -/
  | blank (c : Nat)
  /-- Step 1 of a block's two-step sequence (R182). -/
  | softStep (b : Nat)
  /-- The settling of a Canary window's thresholds (R142). -/
  | settle (w : Nat)
  /-- The repeat of the trip blocks (R465). -/
  | tripRepeat
  /-- The validity of the Drift-channel enables (R311). -/
  | safen
  /-- T_REL, the 50 ms after release and T_ENG of a brake test (R321). -/
  | brakeRelease (n : Nat)
  | brakeHold (n : Nat)
  | brakeEngage (n : Nat)
  /-- The end of an output's off-pulse (R319). -/
  | offPulse (n : Nat)
  /-- The Foreman's next monitor sample (R313), seal read (R322), self-test (R325), clock check (R312). -/
  | fmSample
  | fmSeal
  | fmTest
  | fmClock
  /-- A mirror contact has disagreed for T_DROP (R320); the next hour of a brake's BTAGE (R321). -/
  | mirror (k : Nat)
  | brakeHour (n : Nat)
  /-- The monitor phases have been high enough for WAKET (R404). -/
  | wakeGrid
  /-- The end of a Pick re-sync (R79). -/
  | resync (e : Nat)
  /-- The reference wait (R128), the 1 ms of a diagnostic request (R136). -/
  | refReady
  | diag
  /-- The start point of a sequence, the end of its deferral, the end of its conversion in progress (R130, R131). -/
  | seqStart (q : Nat)
  | seqDrop (q : Nat)
  | conv (q : Nat)
  /-- The publication of slice `j` of channel `c` (R134). -/
  | publish (c : Nat) (j : Nat)
  /-- The publication of a tracker's record (R135), the end of a synthesizer's monitor window (R384). -/
  | record (c : Nat)
  | fmon (n : Nat)
  /-- 0.9 × SAVEINT since the close of the last completed record (R256); the end of an S0 check window (R264). -/
  | savePeriod
  | s0Check (n : Nat)
  /-- The next sample boundary (R242). -/
  | assaySample
  /-- The next check of the lid mesh (R349), update of the gauge (R432), sample of HVIN's open-circuit voltage (R429). -/
  | mesh
  | gauge
  | ocv
  /-- The end of the option load (R415). -/
  | optLoad
  /-- The Banksman's next setting of the Lamp clock from trusted time (R367). -/
  | lampSet
  /-- The repeat of a refused grant request (R436). -/
  | grantRetry
  /-- The end of an Adit session (R355). -/
  | aditEnd
deriving DecidableEq, Repr

/-! ### Headframe and Shift plan -/

/-- One angle domain (R33 to R44). -/
structure DomU where
  /-- The unwrapped position with the angle register's 16 fraction bits: bits [79:48] the position's turn, [47:16] the angle, [15:0] the
  fraction of an au. -/
  pos : BitVec 80
  /-- The source in effect; DOMCTL.SRC takes effect at the next tracker update (R34). -/
  src : Nat
  /-- Consecutive updates below COASTTHR, and at or above RETTHR (R40). -/
  below : Nat
  above : Nat
  /-- The position at which the lock conditions began to hold (R36). -/
  lockFrom : Option (BitVec 80)
  /-- The sum and number of the increments of the current turn, and the mean of the last whole turn (R40). -/
  incSum : Nat
  incTicks : Nat
  turnMean : Option Nat
  /-- The mean increment kept from the first of the updates below COASTTHR (R40). -/
  coastMean : Option Nat
  /-- When the current coast began (R40). -/
  coastFrom : Nat
  /-- The tracker's measured angle at its last update, and FREQ with the tick at the ends of its last turns, newest first (R37). -/
  lastAng : Option Word
  turnFreqs : List (Nat × Nat)
deriving DecidableEq, Repr

/-- What a slot delivered to in the current tick (R43). -/
inductive SlotTarget where
  | sequence (q : Nat)
  | pick (c : Nat)
  | assay
  | seam (n : Nat)
  | source (n : Nat)
deriving DecidableEq, Repr

/-- The Headframe (R33 to R45). -/
structure HeadU where
  doms : Vector DomU 4
  /-- NEXT of each slot (R42). -/
  next : Vector (BitVec 64) 256
  /-- The targets served in tick `servedAt`, by domain (R43). -/
  served : List (Nat × SlotTarget)
  servedAt : Nat
deriving DecidableEq, Repr

/-- The plan's words for one crew: CREWCTL, the grants A and B, MAP (R56). -/
structure CrewPlan where
  ctl : Word
  a0 : Word
  a1 : Word
  a2 : Word
  b0 : Word
  b1 : Word
  b2 : Word
  map0 : Word
  map1 : Word
deriving DecidableEq, Repr

/-- A request for shared memory that waits for its crew's budget (R53). -/
structure HeldReq where
  master : Master
  crew : Option Nat
  addr : Nat
  op : MemOp
  ecc : Nat
deriving DecidableEq, Repr

/-- The Shift plan (R46 to R53). -/
structure PlanU where
  /-- The active plan and supervisor crews; the registers hold the shadow (R56). -/
  crews : Vector CrewPlan 64
  sup : Vector Nat 16
  /-- The internal timebase's position, in the form of `DomU.pos` (R46, R47). -/
  tb : BitVec 80
  /-- The frame source's position at the last boundary, in frames of 2^26 au (R46, R49). -/
  lastFrame : BitVec 38
  /-- The time of the last boundary that was no filler boundary, and the filler boundaries since (R49). -/
  lastAt : Nat
  fillers : Nat
  /-- The domain a switch awaits, and its frame at the boundary of the current source that started the wait for its own (R47). -/
  await : Option Nat
  awaitFrame : Option (BitVec 38)
  /-- Whether the last boundary was a filler boundary (R274), and its tick. -/
  wasFiller : Bool
  madeAt : Option Nat
  /-- Crews that a stopped core of a split pair left parked (R294). -/
  haltedCrews : List Nat
  /-- The requests for shared memory that wait for budget, oldest first (R53). -/
  held : List HeldReq
  /-- The non-essential crew each Ethernet port served last, and the one whose waiting bus request was (R52). -/
  ethLast : Vector Nat 2
  beatLast : Nat
deriving DecidableEq, Repr

/-! ### Drift pairs -/

/-- The state of one core that a checkpoint stores (R280): integer and floating-point registers, CSRs and program counter, and its
current crew. -/
structure CoreRegs where
  x : Vector Word 32
  f : Vector Word 32
  csrs : List (Nat × Word)
  pc : Word
  crew : Nat
  /-- User mode (R272). -/
  user : Bool
deriving DecidableEq, Repr

/-- One core: its registers, the WAKE bit and rd of an XFWT it waits in (R274), whether it is stopped (R294, R296), and the cycles already
charged for instructions whose time has not passed yet (R50). -/
structure CoreU where
  regs : CoreRegs
  waiting : Option (Bool × Nat)
  stopped : Bool
  ahead : Nat
deriving DecidableEq, Repr

/-- One entry of the ingress log (R279). -/
structure LogEntry where
  kind : Nat
  count : Nat
  value : Word
deriving DecidableEq, Repr

/-- One entry of the journal (R281): the line's address and its prior content; a CRC-32 goes with it. -/
structure JournalEntry where
  line : Nat
  content : List Byte
  crc : Word
deriving DecidableEq, Repr

/-- One Drift pair (R268 to R297). -/
structure DriftPairU where
  core0 : CoreU
  core1 : CoreU
  /-- TURN captured by the last select-00 XANG of each domain (R272). -/
  turnCap : Vector Word 4
  /-- The retired-instruction count that stamps ingress inputs (R277). -/
  retired : Nat
  /-- The two checkpoint buffers, and which holds the last completed checkpoint (R280). -/
  buf0 : Option CoreRegs
  buf1 : Option CoreRegs
  current : Bool
  /-- A checkpoint store in progress, and whether a frame boundary began it (R280). -/
  storing : Option Bool
  log : List LogEntry
  /-- The log overflowed since the last checkpoint (R290). -/
  overflow : Bool
  journal : List JournalEntry
  /-- Egress count and CRC since the last checkpoint (R282). -/
  egress : Nat
  egressCrc : Word
  /-- A detected fault whose pair has not entered FAILED yet (R285), and its tick. -/
  faulted : Bool
  faultAt : Nat
  /-- The spare assigned, for a failed pair; the failed pair, for a spare in RECOVERY (R287). -/
  mate : Option Nat
  /-- The interrupt slice routed to this pair by a takeover (R287, R307). -/
  routedSlice : Option Nat
  /-- The state the pair returns to after a test (R292, R293). -/
  afterTest : Nat
  /-- When its last test passed (R293). -/
  lastTest : Nat
  /-- An in-place comparator test runs (R293). -/
  inPlace : Bool
  /-- A JOIN requested (1), or due since a frame boundary (2) (R296). -/
  joining : Nat
  /-- A frame boundary that the pair has still to see at its next frame wait, and whether it was a filler boundary (R289, R296). -/
  missed : Option Bool
  /-- The image in the pair's TCM (R420): the number of the Drift application and the pair it is laid out for; none while cleared. -/
  tcm : Option (Nat × Nat)
  /-- A test that the pair took from FAILED did not free it: it stays FAILED until its warm reset (R291). -/
  stuck : Bool
deriving DecidableEq, Repr

/-- The Drift pairs. -/
structure DriftU where
  pairs : Vector DriftPairU 16
deriving DecidableEq, Repr

/-! ### Interrupts and the Seam recorder -/

/-- A source that is held under coalescing (R308): the slice it is pending in, the source, the group that holds it. -/
structure HoldU where
  slice : Nat
  source : Nat
  group : Nat
deriving DecidableEq, Repr

/-- The interrupt unit (R301 to R308): which sources are in service and where, and which are held by a coalescing group. -/
structure IntcU where
  /-- (slice, source) pairs in service (R304). -/
  inService : List (Nat × Nat)
  /-- What coalescing groups hold (R308). -/
  held : List HoldU
  /-- The request lines of the slices, as the ingress units last took them (R277, R303). -/
  line : Vector Bool 17
deriving DecidableEq, Repr

/-- What a seam stream did in tick `tick`: the bursts it opened, the records it dropped, whether one of them set DROPSEEN, and the time of the stream's last
TIME record before them. -/
structure StreamTick where
  tick : Nat
  opened : Nat
  missed : List (List Word)
  showed : Bool
  timeWas : Option Nat
deriving DecidableEq, Repr

/-- One seam stream (R443 to R446). -/
structure StreamU where
  /-- The bytes of the open burst; meaningful while STRSTAT.OPEN is 1. -/
  burst : List Byte
  /-- The time of the stream's last TIME record; none before its first record after EN and after a drop (R443). -/
  lastTime : Option Nat
  /-- Records dropped since the last DROP record, and when the first of them was dropped (R446). -/
  dropped : Nat
  droppedAt : Nat
  /-- Words of a firmware record in progress (R452). -/
  putBuf : List Word
  /-- What happened in the last tick with a record: at a boundary of that tick it counts on the new frame (R444). -/
  fresh : StreamTick
deriving DecidableEq, Repr

/-- One capture (R448): the absolute numbers of its first and last bursts, and the time its end is due. -/
structure CaptureU where
  first : Nat
  last : Nat
  endAt : Nat
deriving DecidableEq, Repr

/-- One drain channel (R450): the next source byte, the bytes left, the bytes passed and the 64 KiB flash sectors erased in this transfer. -/
structure DrainU where
  next : Nat
  left : Nat
  passed : Nat
  erased : List Nat
deriving DecidableEq, Repr

/-- The Seam recorder (R442 to R451). -/
structure SeamU where
  streams : Vector StreamU 64
  captures : Vector CaptureU 16
  drains : Vector DrainU 2
  /-- The absolute number of the next burst place: WPTR and RINGWRAP are its remainder and quotient by the ring's bursts. -/
  ringPos : Nat
  /-- The engine's index of the last 65,536 ms, newest first: (millisecond, absolute place of the first burst written in it). -/
  index : List (Nat × Nat)
  /-- The absolute place of the last burst written. -/
  lastBurst : Nat
  /-- The Headframe tracker updates counted by HFDIV, per domain (R442). -/
  hfCount : Vector Nat 4
deriving DecidableEq, Repr

/-! ### Host links -/

/-- A received frame and its timestamp in 0.1 ns of PTP time (R473). -/
structure RxFrame where
  data : List Byte
  stamp : Int
deriving DecidableEq, Repr

/-- A frame that waits in a transmit queue (R472, R473): its bytes; whether its timestamp is wanted; whether it is a one-step Sync; whether
it is a drain's block, which takes the queue's header template. -/
structure TxFrame where
  data : List Byte
  stamped : Bool
  oneStep : Bool
  drain : Bool
deriving DecidableEq, Repr

/-- A transmit queue (R472): its crew, its header template, its frames in order. -/
structure TxQueue where
  crew : Nat
  header : List Byte
  frames : List TxFrame
deriving DecidableEq, Repr

/-- A UART (R475): its receive FIFO, the characters of the Modbus RTU frame in progress, of the last ended frame whether its CRC-16 was right and
whether it held a gap of 1.5 characters, and the last characters sent. -/
structure UartU where
  rx : List Byte
  frame : List Byte
  crcOk : Bool
  gap : Bool
  sent : List Byte
deriving DecidableEq, Repr

/-- The host links (R470 to R480). Descriptor rings and the registers of the serial controllers have no layout in the spec; what they hold
stands here. -/
structure HostU where
  /-- PTP time in 2^-32 ns at tick `ptpAt` (R473). -/
  ptp : Nat
  ptpAt : Nat
  /-- The receive queues 4p + q, the transmit queues 8p + q, and of each port the frames dropped in error, the last frame sent and the last
  transmit timestamp (R470 to R473). -/
  rxq : Vector (List RxFrame) 8
  txq : Vector TxQueue 16
  rxErrors : Vector Nat 2
  sent : Vector (List Byte) 2
  txStamp : Vector Int 2
  /-- The last qualifying Sync, the last LOCK write, and whether trust waits for a new write of EN (R474). -/
  syncAt : Option Nat
  lockAt : Option Nat
  barred : Bool
  /-- The end of the pulse on GPIO63 (R473). -/
  pps : Option Nat
  /-- Message buffers received and sent, and the error state, of each CAN controller (R475, R480). -/
  canRx : Vector (List (Nat × CanMsg)) 4
  canTx : Vector (List (Nat × CanMsg)) 4
  canErr : Vector Nat 4
  uarts : Vector UartU 6
  /-- The last frames of each SPI controller, received and sent, and the last transfer of each I2C controller. -/
  spiRx : Vector Word 4
  spiTx : Vector Word 4
  i2c : Vector (List Byte) 2
  /-- Whether the RGMII outputs of each port are driven low, as in SGMII mode (R493). -/
  rgmiiLow : Vector Bool 2
deriving DecidableEq, Repr

/-! ### The power stage: PWM channels, carrier groups, blocks, Cage -/

/-- One output of a channel (R159, R172, R173): the command after the overrides, the interlock's output, the instant of its last turn-off
command in 62.5 ps steps, whether a turn-on waits in the interlock, and the level at the output gate. -/
structure OutU where
  cmd : Bool
  out : Bool
  offAt : Option Nat
  waiting : Bool
  pin : Bool
  /-- Whether the feedback has reported the commanded state since the last edge (R179). -/
  reached : Bool
  /-- The strength codes in force (R174). -/
  src : Nat
  snk : Nat
deriving DecidableEq, Repr

/-- One channel and its Cage port. -/
structure ChanU where
  hi : OutU
  lo : OutU
  /-- The modulation signal, and whether it has turned off in the current rising half (R158). -/
  m : Bool
  done : Bool
  /-- The active duty in the channel's form, and the active dead time (R161). -/
  duty : Word
  dt : Nat
  /-- The override in force, and the change that waits for the next peak (R170). -/
  ovr : Word
  ovrWait : Option Word
  /-- Whether DUTY has been written since the last set was copied (R165). -/
  written : Bool
  /-- The ticks at which DS_LATCH, FB_TIMEOUT, FB_MISMATCH and FB_BOTHON were last set (R187). -/
  latchedAt : Vector Nat 4
  /-- The duty ratio held through a re-sync of the cell's Pick pair, for a channel in absolute form (R27, R79). -/
  held : Option Word
  /-- The output that a block turn-off found on, and its tick: the block network reaches the gate 50 ns later (R182, R185). -/
  netOff : Option (Bool × Nat)
  /-- The compare before the last change of it, in 62.5 ps steps, the instant from which on it governed, and the instant of the change (R160). -/
  cmpWas : Option (Nat × Nat × Nat)
  /-- Whether firmware has written SAFE since the last cold reset (R172). -/
  safeSet : Bool
  /-- The tick of the last change of the DSAT level, and the filtered level up to it (R181). -/
  dsat : Nat × Bool
deriving DecidableEq, Repr

/-- A channel's part of an update set (R161): its duty while IMM is 0, whether the duty was written into the set, its dead time. -/
structure ChanSet where
  cell : Nat
  duty : Option Word
  written : Bool
  dt : Nat
deriving DecidableEq, Repr

/-- An update set, and the tick it was copied in (R161 to R163). -/
structure UpdateSet where
  prd : Word
  phase : Word
  chans : List ChanSet
  copied : Nat
deriving DecidableEq, Repr

/-- One carrier group (R154 to R168). Instants are in 62.5 ps steps of the PWM clock (R169). -/
structure GroupU where
  /-- Whether the carrier falls, and the instant of its last valley or peak. -/
  falling : Bool
  lastAt : Nat
  /-- The dwell to make at the next peak, and the end of the dwell in progress (R167). -/
  dwell : Nat
  dwellEnd : Nat
  /-- The active lag (R167). -/
  phase : Word
  pend : Option UpdateSet
  /-- The instant at which a synchronised carrier starts (R163). -/
  startAt : Option Nat
  /-- The period correction of R168, and the consecutive missing markers. -/
  adjust : Int
  missing : Nat
deriving DecidableEq, Repr

/-- One block: the pending exit from RUNNING (R21), the tick of its last turn-off start (R186), and the level at its SOFT pin (R188). -/
structure BlockU where
  exit : Option Nat
  turnoffAt : Option Nat
  softPin : Bool
  /-- The tick of the last request for a state with the state the block held before it, and the tick of the last trip (R21). -/
  asked : Option (Nat × Nat)
  tripped : Option Nat
deriving DecidableEq, Repr

/-- One ramp generator (R192): the start value of the current segment, the µs into it. -/
structure RampU where
  start : Word
  t : Nat
deriving DecidableEq, Repr

/-- One threshold of a Canary window (R141, R143): its comparator state, and the consecutive reads at which it was on. -/
structure CmpU where
  raw : Bool
  run : Nat
deriving DecidableEq, Repr

/-- One Canary window: its thresholds, the tick from which on the Foreman has seen it crossed without a break (R149, R151), and the tick of the last read. -/
structure WinU where
  lo : CmpU
  hi : CmpU
  seen : Option Nat
  readAt : Nat
deriving DecidableEq, Repr

/-- The power stage. -/
structure PowerU where
  chans : Vector ChanU 48
  groups : Vector GroupU 8
  blocks : Vector BlockU 8
  ramps : Vector RampU 24
  wins : Vector WinU 96
deriving DecidableEq, Repr

/-! ### Pick engines -/

/-- Itoton's reference programs (R193, R202). -/
inductive RefProg where
  | dcb | acr | acu | aco | acw
deriving DecidableEq, Repr

/-- A Pick program as the Banksman loads it (R80): its words, entry addresses and worst-case counts by class, 64 banks of 16 coefficients,
breakpoints and hysteresis of both indices, initial OPV0, OPV1 and data words; for a reference program, which one. -/
structure PickProgram where
  ref : Option RefProg
  words : List Word
  entries : Vector Nat 4
  wcet : Vector Nat 4
  coef : List Word
  bpX : Vector Word 8
  bpY : Vector Word 8
  hX : Word
  hY : Word
  opv0 : Word
  opv1 : Word
  data : List Word
deriving DecidableEq, Repr

/-- A pending request of a class (R65): when its class became pending, whether requests were merged, and of the latest one the Headframe slot,
whether it was a peak, and the angles of the four domains in its tick. -/
structure Req where
  since : Nat
  merged : Bool
  slot : Nat
  peak : Bool
  angs : Vector Word 4
deriving DecidableEq, Repr

/-- A LOOP in progress (R117): first and last address of its body, iterations left. -/
structure LoopU where
  first : Nat
  last : Nat
  left : Nat
deriving DecidableEq, Repr

/-- An output that a reference program's invocation has still to release: a contender slot, a domain's increment, with a step, the cell's program event, a
marker, a shared value. -/
inductive RefOut where
  | slot (j : Nat) (v : Word)
  | inc (d : Nat) (v : Word)
  | step (d : Nat) (v : Word) (k : Int)
  | event
  | marker (v : Word)
  | publish (k : Nat) (v : Word)
deriving DecidableEq, Repr

/-- What DCB keeps from one invocation to the next (R196 to R198): the tracked and the used reference, the integrators of its two loops, the sum and
count of a tracking step, the power and voltage of the last step, the direction of the last move, the mode. -/
structure DcbMem where
  vref : Int
  used : Int
  intV : Int
  intI : Int
  sumP : Int
  count : Nat
  lastP : Int
  lastV : Int
  rising : Bool
  mode : Int
deriving DecidableEq, Repr

/-- A finished probe window (R233, R234): its index, its chip, whether it is valid, V_n and I_n. -/
structure ProbeWin where
  index : Nat
  chip : Int
  valid : Bool
  v : Int × Int
  i : Int × Int
deriving DecidableEq, Repr

/-- ACR's probe (R231 to R234): the P_SEQ of the last invocation, the probe-cycle counter, the last probe angle; of the window in progress the sums, the
number of invocations, whether it is valid so far, whether DOM_PROBE was not LIVE in it, its NW, PATTERN and AMP; the windows before it, newest first;
the last estimate with its angle, the consecutive estimates at or above Z_ISL and whether the last reached Z_HARD; PROBE_LOST, PROBE_WEAK, NO_CHIP_PAIR. -/
structure ProbeMem where
  seq : Word
  cyc : Nat
  last : Word
  v : Int × Int
  i : Int × Int
  n : Nat
  valid : Bool
  lost : Bool
  cfg : Int × Word × Int
  wins : List ProbeWin
  zEst : Int
  zAng : Int
  conf : Nat
  hard : Bool
  probeLost : Bool
  weak : Bool
  noPair : Bool
deriving DecidableEq, Repr

/-- ACR's islanding evidence (R227, R236): for how many invocations each hold condition has lasted (ROCOF, ROCOF hard, voltage window, frequency window),
the invocations left of the vector-shift bit, those for which LOCAL has stood without agreement, DISSENT. -/
structure IslMem where
  rocof : Nat
  rocofHard : Nat
  volt : Nat
  freq : Nat
  shift : Nat
  waiting : Nat
  dissent : Bool
deriving DecidableEq, Repr

/-- What ACR keeps from one invocation to the next (R214 to R221): the last two angles of DOM_GRID; the squared voltages and positive-frame voltages of
the last invocations, newest first; the half-turn sums of the squares, their count and the last results; the parts of 9° of the negative-frame
voltages, newest first, the open part first; the grid angle's half turn and part; V1_PRE with 24 further fraction bits; the ride-through state, the
invocations in it, whether it is a CEASE entered by a jump and the angle turned since; RT_LIM at the entry to RECOVER; i_d1_ff; the probe's part of
i_d1*. -/
structure AcrMem where
  th1 : Option Word
  th2 : Option Word
  sq : Vector (List Int) 3
  dq : List (Int × Int)
  hcSum : Vector Int 3
  hcN : Nat
  hc : Vector Int 3
  parts : List (Int × Int × Nat)
  half : Nat
  part : Nat
  pre : Int
  state : Nat
  stay : Nat
  jumped : Bool
  turned : Nat
  limFrom : Int
  idFf : Int
  probeD : Int
  isl : IslMem
  probe : ProbeMem
deriving DecidableEq, Repr

/-- ACO's integrators (R209 to R211): DC link, neutral point, circulating current. -/
structure AcoMem where
  dc : Int
  np : Int
  circ : Int
deriving DecidableEq, Repr

/-- The data memory of a reference program besides its report and parameter windows. -/
structure RefMem where
  dcb : DcbMem
  acr : AcrMem
  aco : AcoMem
deriving DecidableEq, Repr

/-- How far the invocation of a reference program has come (R193, R205): its inputs are still to be read; its outputs before DUTY stand out, then
DUTY; its outputs after DUTY, then END; END DISCARD, of a layout that breaks R203. -/
inductive RefStage where
  | acquire | control | report | broken
deriving DecidableEq, Repr

/-- A running invocation of a reference program: its stage, the outputs to release before the stage's end, in order; the currents and voltages read, the
words of R205 read from ACR with ACR's V1 and P_E after them, and u0; NO_LINK of DCB, or whether ACR's reads returned NR; the working copy of its memory. -/
structure RefRun where
  prog : RefProg
  stage : RefStage
  out : List RefOut
  cur : Vector Int 3
  volt : Vector Int 3
  shared : List Int
  u0 : Int
  mark : Bool
  mem : RefMem
deriving DecidableEq, Repr

/-- What an output of an engine changed that the engine itself can read, as it was before (R111): a contender slot, a domain by how far its angle moved, with
its increment and state, a shared value. -/
inductive Unseen where
  | slot (j : Nat) (old : Word)
  | dom (d : Nat) (moved : BitVec 80) (inc st : Word)
  | shared (v : Nat) (old : Word) (stale : Bool)
deriving DecidableEq, Repr

/-- A read port of the cell exchange (R113): its grants, the place of the cell served last, and the cells of split pairs of which E1 is served next. -/
structure XchPort where
  grants : Nat
  last : Nat
  twins : List Nat
deriving DecidableEq, Repr

/-- A running invocation (R59, R60): its budget count, its program counter, the registers, accumulators and flags, the latched region, the angles
of its request, whether the instruction before was a single-cycle one (R116), the active loop, the working copy; for a reference program, its run. -/
structure Inv where
  cls : Nat
  left : Nat
  pc : Nat
  g : Vector Word 16
  a0 : Int
  a1 : Int
  n : Bool
  z : Bool
  sat : Bool
  dz : Bool
  nr : Bool
  merged : Bool
  region : Nat
  angs : Vector Word 4
  single : Bool
  loop : Option LoopU
  data : List (Nat × Word)
  opv0 : Word
  opv1 : Word
  /-- What the engine's outputs of the last 2 cycles changed, with the cycles until they are released (R111). -/
  unseen : List (Nat × Unseen)
  /-- The grants of the cell's exchange port when the engine came to its next word (R113). -/
  asked : Nat
  ref : Option RefRun
deriving DecidableEq, Repr

/-- One Pick engine (R57 to R70): the loaded program, a load in progress, the running invocation, the pending request of each class, the
committed data words and reference-program memory, and whether it is stopped with an uncorrectable copy (R79). -/
structure EngU where
  prog : Option PickProgram
  load : Option PickProgram
  run : Option Inv
  pend : Vector (Option Req) 3
  data : List (Nat × Word)
  mem : RefMem
  stopped : Bool
deriving DecidableEq, Repr

/-- One cell output arbiter (R71 to R77): the ticks of the evaluations to come, the winner of the last evaluation, whether it has delivered. -/
structure ArbU where
  due : List Nat
  winner : Option Nat
  delivered : Bool
deriving DecidableEq, Repr

/-- The Pick engines; `loads` holds the engines whose loads wait or run, in the order of their LOAD writes (R80); `set`
is the active Pick program set as the Banksman decrypts it, by PROGSEL (R80, R346). -/
structure PickU where
  set : List (Nat × PickProgram)
  engs : Vector EngU 96
  arbs : Vector ArbU 48
  loads : List Nat
  ports : Vector XchPort 3
deriving DecidableEq, Repr

/-! ### Sensing -/

/-- A run of a sequence (R129, R131): its settings when it started, the conversions made, whether it waits for a converter; the CONV edge of its first
acquisition, while it waits that at which it would have begun, in 1/6 ns. -/
structure SeqU where
  mask : Word
  pos : Nat
  burst : Nat
  made : Nat
  waiting : Bool
  startAt : Nat
deriving DecidableEq, Repr

/-- A closed window (R132). -/
structure WinRes where
  sum : Int
  count : Nat
  full : Bool
deriving DecidableEq, Repr

/-- One accumulator slice (R132 to R134): the settings of the window in progress, its sum, count, last sample and FULL, a window closed and not yet
published, the published window and the tick of its publication. -/
structure SliceU where
  ctl : Word
  gap : Word
  sum : Int
  count : Nat
  lastAt : Nat
  closed : Option WinRes
  shown : Option WinRes
  shownAt : Nat
  /-- The tick of the last close event that came from outside, and SHORT before it where it found too few samples (R133). -/
  closeAt : Option Nat
  short : Option Nat
deriving DecidableEq, Repr

/-- One min-max tracker (R135): minimum, maximum and count since the last reset event, and the records that wait for their publication, oldest first, with
the ticks of their reset events. -/
structure TrackU where
  cur : Option (Int × Int × Nat)
  closed : List ((Int × Int × Nat) × Nat)
deriving DecidableEq, Repr

/-- Sensing (R120 to R140); `discard` counts the outputs a sinc3 filter still discards, `restart` is the tick of the last restart of its decimation
counter by a valley, until its next output (R127). `freeAt` is the CONV edge at which each converter is idle again, in 1/6 ns (R131). While the CONV clock
is stopped, `stopped` is the tick of its stop and `frozen` the sequences' deadlines that stand (R385). -/
structure SenseU where
  seqs : Vector SeqU 32
  slices : Vector SliceU 240
  trackers : Vector TrackU 120
  discard : Vector Nat 24
  restart : Vector (Option Nat) 24
  freeAt : Vector Nat 32
  stopped : Option Nat
  frozen : List (Timer × Nat)
deriving DecidableEq, Repr

/-! ### Foreman -/

/-- One limit of the Foreman (R314): the consecutive samples at which it was violated and at which it was not. -/
structure LimitU where
  viol : Nat
  ok : Nat
deriving DecidableEq, Repr

/-- The Foreman's frequency measurement (R313), in 2^-16 of a monitor sample: the phase measured, the samples so far, the sign of the last one, the instant of
its last change, the sign that has held for 1.0 ms, the last positive crossing, and the frequency in mHz over the last full period. -/
structure FreqU where
  phase : Option Nat
  count : Nat
  raw : Bool
  since : Nat
  high : Bool
  last : Option Nat
  freq : Option Nat
deriving DecidableEq, Repr

/-- The Foreman (R310 to R326). Outputs are numbered KA, KB, DCD, BRK0, BRK1. -/
structure FmU where
  /-- The parameter block in force, 1,280 bytes, and an accepted one that waits (R324). -/
  param : Option (List Byte)
  next : Option (List Byte)
  /-- The functional command in effect since the output's latch last cleared (R318). -/
  live : Vector Bool 5
  /-- The output's drive, and whether an off-pulse holds it off (R319). -/
  drive : Vector Bool 5
  pulse : Vector Bool 5
  limits : Vector LimitU 8
  /-- The last samples of each monitor, newest first, at most 64 (R313). -/
  va : List Int
  vb : List Int
  vc : List Int
  /-- The latches demanded since the last monitor sample (R317): bit 0 SF1, bits 1 to 8 SF2 of the groups, bits 9 and 10 SF3 of the brakes. -/
  fresh : Nat
  /-- The straps read in the last 1 s, newest first, at most 100 reads of 10 ms (R323). -/
  straps : List Nat
  freq : FreqU
  /-- The ticks at which each output's drive last changed, and at which it last did so off-pulses apart (R319, R320). -/
  nodeAt : Vector Nat 5
  driveAt : Vector Nat 5
  /-- The hours since each brake passed its test (R321), from 255 at reset. -/
  hours : Vector Nat 2
  /-- FAULT_N is driven low (R284, R326). -/
  faultN : Bool
  /-- The reset demand of a failed self-test (R325). -/
  resetDemand : Bool
deriving DecidableEq, Repr

/-! ### Lamp domain -/

/-- An entry of the tamper log (R352): the clock's count, the cause, the power state, the detail, the entry number. -/
structure TamperEntry where
  rtc : Nat
  cause : Nat
  power : Nat
  detail : Nat
  number : Nat
deriving DecidableEq, Repr

/-- An Assay save record that passes its CRC (R255). -/
structure SaveRec where
  seq : Nat
  kind : Nat
  rtc : Nat
  saveint : Word
  pmax : Word
  calstamp : Nat
  masters : Vector Nat 16
  residues : Vector Nat 16
  s0 : Vector Word 4
deriving DecidableEq, Repr

/-- The Lamp domain's items that no register holds (R424). -/
structure LampU where
  powered : Bool
  /-- The clock's count at tick `rtcAt`, and the count it was last set to since the domain was lost (R424, R367). -/
  rtc : Nat
  rtcAt : Nat
  rtcSet : Option Nat
  /-- The monotonic counters (R365). -/
  counters : Vector Nat 32
  /-- The tamper log, newest first, and the entries and glitch events counted (R352). -/
  log : List TamperEntry
  entries : Nat
  glitches : Nat
  /-- The clock's counts at the last voltage, clock and temperature events (R350). -/
  glitchAt : List Nat
  /-- The latches (R351): a breach, whether by the mesh (R356), ACK_NEEDED; LAMP_LOST since the last TAMPER_ACK. -/
  breach : Bool
  meshBreach : Bool
  ackNeeded : Bool
  lost : Bool
  /-- The Assay's record slots (R255). -/
  slot0 : Option SaveRec
  slot1 : Option SaveRec
  /-- The classes of the grants outstanding (R435). -/
  grants : List Nat
  /-- The last open-circuit voltage of the main harvest path, mV (R429). -/
  ocv : Nat
deriving DecidableEq, Repr

/-! ### Assay -/

/-- One voltage channel's crossing detector (R247): the last v, whether it has been at or below −ZXHYS, the instant of the last passage through 0
as a fraction in samples, the samples since the last crossing, the tick of the last crossing. -/
structure CrossU where
  last : Int
  low : Bool
  zeroNum : Nat
  zeroDen : Nat
  since : Nat
  tick : Option Nat
deriving DecidableEq, Repr

/-- A save in progress (R255): the record, its slot, whether it has been rewritten, its close. -/
structure SaveU where
  body : SaveRec
  slot : Bool
  rewritten : Bool
  closedAt : Nat
deriving DecidableEq, Repr

/-- The window of an S0 check (R264): the master and the count at its start. -/
structure S0WinU where
  master : Nat
  count : Word
deriving DecidableEq, Repr

/-- An S0 input (R263): the level of its pin, since when, and whether the level before was held for DEB. -/
structure S0PinU where
  high : Bool
  since : Nat
  ready : Bool
deriving DecidableEq, Repr

/-- The Assay's internal state (R242 to R264). Normalised quantities are integers over 2^53 per factor. -/
structure AssayU where
  running : Bool
  /-- The frequency in 0.1 mHz that the resonant filters are tuned to, their state values, and the fundamentals v1_A to v1_C and i1_A to i1_C so far,
  newest first (R245). -/
  tune : Nat
  res : Vector (Int × Int) 6
  fund : Vector (List Int) 6
  /-- The last samples of each channel after correction, newest first (R244). -/
  hist : Vector (List Int) 8
  cross : Vector CrossU 3
  /-- Samples counted since the start, the reference channel of the last sample that had one, crossings since the last close, and the instants
  of the first and last reference crossing in the window with the periods between them (R247 to R249). -/
  tick : Nat
  ref : Option Nat
  crossings : Nat
  firstCross : Option (Nat × Nat)
  lastCross : Option (Nat × Nat)
  periods : Nat
  /-- The window's samples and sums: squares of v_x, u_N, the currents (8), products v i (3) and v1' i1 (3) (R245). -/
  count : Nat
  squares : Vector Int 8
  active : Vector Int 3
  reactive : Vector Int 3
  /-- The interval's samples and signed energy sums of the phases (R251). -/
  ivCount : Nat
  sp : Vector Int 3
  sq : Vector Int 3
  /-- Residues in 2^-32 count (R252). -/
  residues : Vector Nat 16
  snapDue : Bool
  /-- The kind of record that closes at the next sample boundary, and a calibration block with its anti-rollback step that acts after it
  (R256, R257, R259). -/
  closeDue : Option Nat
  cal : Option (List Byte × Nat)
  calstamp : Nat
  save : Option SaveU
  /-- EA_IMP_T + EA_EXP_T at the close of the last completed record (R256). -/
  savedTotal : Nat
  /-- Pulse accumulators and last pulse starts: TPO0 to TPO7, ASSAY_P (R260, R261). -/
  acc : Vector Nat 9
  pulseAt : Vector (Option Nat) 9
  s0win : Vector S0WinU 4
  s0pin : Vector S0PinU 4
deriving DecidableEq, Repr

/-! ### Banksman -/

/-- A filled key slot (R338, R341): its key, and for a SECRET slot its algorithm and usage mask. -/
structure KeySlot where
  key : List Byte
  alg : Nat
  usage : Nat
deriving DecidableEq, Repr

/-- An Exvia envelope (R357): its fields, the bytes its signatures cover, and the whole of it. -/
structure Envelope where
  flags : Nat
  cls : Nat
  role : Nat
  slot : Nat
  role2 : Nat
  slot2 : Nat
  target : List Byte
  seq : Nat
  notBefore : Nat
  notAfter : Nat
  cert : List Byte
  body : List Byte
  sig : List Byte
  sig2 : List Byte
  covered : List Byte
  whole : List Byte
deriving DecidableEq, Repr, Inhabited

/-- A stored image (R371, R373): its descriptor, its payload, the envelope that brought it, and a number that tells images apart. -/
structure ImageU where
  desc : List Byte
  payload : List Byte
  env : Envelope
  serial : Nat
deriving DecidableEq, Repr, Inhabited

/-- The envelope between its start and its verdict (R362, R363): its buffer, what it is when it has the format, the reason, whether it passed the
sequence check. -/
structure RunU where
  buf : Nat
  env : Option Envelope
  reason : Nat
  seqPassed : Bool
  due : Nat
deriving DecidableEq, Repr

/-- A reply that waits for its release (R369): buffer, reason, data, the envelope it answers, the tick it is due. -/
structure ReplyU where
  buf : Nat
  reason : Nat
  data : List Byte
  env : Envelope
  due : Nat
deriving DecidableEq, Repr

/-- An image write in progress (R373): the slot it goes to, slot B when `slotB`, the image when its hash matches, its reply. -/
structure ImageWrite where
  typ : Nat
  slotB : Bool
  image : Option ImageU
  reply : ReplyU
deriving DecidableEq, Repr

/-- An Adit session (R353, R355): its end, and the pairs the port has halted. -/
structure AditU where
  endsAt : Nat
  halted : List Nat
deriving DecidableEq, Repr

/-- The Banksman (R331 to R380). Roles are numbered as in an envelope, images by type less 1. -/
structure BankU where
  /-- The life-cycle fuse groups, MAKER to SCRAP (R331), and the device identifier (R356), in OTP. -/
  fuses : Vector Bool 5
  devId : List Byte
  /-- The life-cycle state as decoded, and of OTP TAMPERED, ZEROISING, stepping digit and letter, step counts (R331, R356, R375). -/
  lc : Nat
  tampered : Bool
  zeroising : Bool
  stepDigit : Nat
  stepLetter : Nat
  arb : Vector Nat 6
  /-- The 64 key slots (R338), and the identity certificates (R339). -/
  slots : Vector (Option KeySlot) 64
  certs : List Byte
  /-- Both flash slots of each image type, slot B active, and the number of the last image stored (R371). -/
  imageA : Vector (Option ImageU) 6
  imageB : Vector (Option ImageU) 6
  activeB : Vector Bool 6
  /-- The slots that were active at the control die's last start: a type 2 or 6 image takes effect there (R371). -/
  startB : Vector Bool 6
  serial : Nat
  /-- High-water marks of the counters (R366), and the counters whose mark waits for its grant (R436). -/
  marks : Vector Nat 32
  waitMarks : List Nat
  /-- Revoked serials, newest first (R344, R360), and the group list. -/
  revoked : List Nat
  groups : List (List Byte)
  /-- Buffers submitted with an envelope, in the order of their GO writes; the last start; the envelope in progress; accepted envelopes
  with their buffers, in order (R362, R369). -/
  queue : List Nat
  lastStart : Option Nat
  running : Option RunU
  accepted : List (Nat × Envelope)
  replies : List ReplyU
  writing : Option ImageWrite
  /-- The ISL_SCHEDULE TLV last delivered (R230). -/
  schedule : List Byte
  /-- The open Adit session (R353, R355). -/
  adit : Option AditU
  /-- The TAP's instruction, the word it shifts out, and the pins that a boundary-scan instruction reaches: 0 none, 1 host-link and GPIO pins, 2 all
  (R353). -/
  tap : Nat
  tapOut : Word
  tapPins : Nat
  /-- The sequence that TMESH_O drives (R349): the bit now driven is its lowest. -/
  mesh : BitVec 16
  /-- What the Banksman does before it goes on: the mesh checks failed in a row (R349), a zeroisation to run, one that waits for its ZERO grant
  (R351, R436), the return entry to run (R335), the life-cycle fuse group being programmed (R333), a reset that follows the last
  application reply (R377). -/
  meshFails : Nat
  zeroise : Bool
  zeroWait : Bool
  returnEntry : Bool
  fuse : Option Nat
  resetAsked : Bool
  /-- A SEAL_ACK has been applied: SEALREF is set (R332). -/
  sealSet : Bool
  /-- The Banksman serves UART0 (R348). -/
  uart : Bool
  uartIn : List Byte
deriving DecidableEq, Repr

/-! ### Uhla -/

/-- A trip of this device: TSEQ, MASK, and the TXSRC bit of its cause (R465). -/
structure TripU where
  seq : Nat
  mask : Nat
  cause : Nat
deriving DecidableEq, Repr

/-- The local copy of a value this device sources (R460, R461): its content, and the tick of its last write. -/
structure PubU where
  value : Word
  at_ : Option Nat
  /-- Earlier publications, newest first, up to the first that is 40 ns old. -/
  before : List (Word × Nat)
deriving DecidableEq, Repr

/-- The Uhla link (R454 to R469). -/
structure UhlaU where
  /-- This device's trips whose causes hold, and the last TSEQ. -/
  trips : List TripU
  seq : Nat
  /-- When the last own trip was sent, and whether it has returned (R467, R468). -/
  sentAt : Nat
  returned : Bool
  /-- The TSEQs last acted on of each origin, newest first, at most 8, and when a block naming each group last arrived (R466). -/
  seen : Vector (List Nat) 16
  arrived : Vector (Option Nat) 8
  /-- The superframe number, whether a superframe has arrived since EN, the tick of the last valid one, and, as the last one of each port
  shows them, the ranks with PRESENT, and those with PRESENT and MFLAG (R457, R464). -/
  sfn : Word
  received : Bool
  /-- The master given up since its superframes have failed for 8 µs, until a valid one arrives (R464). -/
  lost : Option Nat
  lastValid : Nat
  present : Vector Word 2
  flagged : Vector Word 2
  /-- The tick of the next superframe this device originates (R457, R464). -/
  txAt : Option Nat
  /-- HOSFN of a pending hand-over, this device's REQM, and since when both ports have been UP (R464). -/
  handover : Option Word
  reqm : Bool
  upSince : Option Nat
  /-- Instants of the valleys to mark in the next superframe, by group (R463). -/
  markers : Vector (Option Nat) 8
  /-- A profile start to announce, and the superframe at which the ramp starts (R463). -/
  pstart : Bool
  profileAt : Option Word
  /-- The domains whose next valid broadcast is a step: the first of a new master (R464). -/
  stepNext : Vector Bool 4
  /-- The local copies of the values this device sources (R460, R461). -/
  published : Vector PubU 256
  /-- The ticks at which the values were last received (R461). -/
  receivedAt : Vector (Option Nat) 256
  /-- RANK, MFLAG and GID are locked until cold reset (R455). -/
  locked : Bool
  /-- By port: the earliest tick of its next step towards UP, and when the superframes of the last 1 ms with a bad CRC arrived (R456). -/
  portAt : Vector Nat 2
  badAt : Vector (List Nat) 2
  /-- The lanes of each port in use: all four, in NIGHT lane 0 (R402, R454). -/
  lanes : Nat
  /-- The last superframe sent (R457, R459): the model's view of the lanes. -/
  sent : List Byte
deriving DecidableEq, Repr

/-! ### Winder, power and reset -/

/-- What a leg of a clock output's ball pair carries (R390, R495). -/
inductive ClockLeg where
  | low
  | clock
  | inverse
deriving DecidableEq, Repr

/-- The PWM ramp (R388): the start frequency of the current segment in kHz and the µs into it. The PWM clock's phase (R169), in parts of a 62.5 ps step
such that a tick at 1 kHz gains 64: `base` at tick `since`, from which the clock has kept its frequency or its spread. -/
structure WinderU where
  segStart : Nat
  t : Nat
  base : Nat
  since : Nat
  /-- CLKOUTn_P and CLKOUTn_N of each clock output (R390, R495). -/
  legs : Vector (ClockLeg × ClockLeg) 4
  /-- The tick of the CONV synthesizer's last lock edge (R386), and the PWM clock's phase at the start of its monitor window (R384). -/
  epoch : Nat
  fmonFrom : Nat
deriving DecidableEq, Repr

/-- The power state and the start-up (R399, R401, R406, R417). -/
structure SupplyU where
  /-- 0 RUN or NIGHT (PWRSTAT says which), 1 PARK, 2 LAMP-ONLY. -/
  place : Nat
  /-- VAUX is valid (R393). -/
  vaux : Bool
  /-- A brown-out recorded since the last start (R410). -/
  brownout : Bool
  /-- The last completed step of the release order of R406, in the start in progress; 6 when firmware runs. -/
  step : Nat
  /-- The scope of the last reset of R410, and its tick. -/
  scope : Nat
  resetAt : Nat
  /-- The tick of the last pair warm reset. -/
  pairAt : Option Nat
  /-- The request that awaits its boundary, and its tick (R401). -/
  request : Option Nat
  requestAt : Nat
  /-- The two copies of the option block in embedded flash, 64 bytes each (R414). -/
  optA : List Byte
  optB : List Byte
  /-- The pad state held for banks 0 to 5 across a warm reset: the pin configuration and output words in force at the pads (R418, R419). -/
  padCfg : List Word
  /-- The Banksman image failed its verification (R347). -/
  bootFail : Bool
  /-- The tick from which each rail of R396, in its order, is powered. -/
  railFrom : Vector (Option Nat) 10
deriving DecidableEq, Repr

end Sys2Proof.Machine
end

