-- ==== Sys2Proof/Config.lean ====
section
/-! DEFINITION. What an implementation fixes and the free values: constants without a body, so that no proof can see what they are. -/

namespace Sys2Proof.Config

/-- A value the spec leaves open: the `n`-th one the run meets. -/
opaque freeValue : Nat → Word

/-- What a byte of erased flash reads as (R441 gives no value). -/
opaque erasedByte : Byte

/-- Whether a quotient whose rounding the spec does not state is rounded up. -/
opaque roundUp : Nat → Nat → Bool

/-- The Assay's delayed sample of a channel, from its corrected samples, newest first, and a delay in 2^-13 sample that is no whole number of samples or is
negative (R244 gives no interpolation). -/
opaque assayDelayed : List Int → Int → Int

/-- One step of the Assay's second-order resonant filter, tuned to a frequency in 0.1 mHz: its output for an input and its two state values, and the state values
after it (R245 gives no coefficients). -/
opaque resonate : Nat → Int → Int × Int → Int × (Int × Int)

/-- A fundamental delayed by a quarter period that is no whole number of samples, from its history, newest first, and the frequency in 0.1 mHz (R245). -/
opaque quarterDelayed : List Int → Nat → Int

/-- The lag in au of the second of two fundamentals behind the first, from their histories, newest first, and the frequency in 0.1 mHz (R245). -/
opaque fundamentalLag : List Int → List Int → Nat → Word

/-- The error of a sine or, with `true`, a cosine that SCS computes, in 2^-31; it acts within the bound of R97. -/
opaque scsError : Word → Bool → Int

/-- mcause of the crew-overrun trap (R53 gives none). -/
opaque overrunCause : Word

/-- What a PTPADJ beyond 1,000 ppm adds to a tick, in 2^-32 ns (R473 states no effect). -/
opaque ptpAdjBeyond : Word → Int

/-- The correctionField that a one-step Sync leaves with, from the frame and its transmit timestamp in 0.1 ns (R473 gives no computation). -/
opaque oneStepCorrection : List Byte → Int → Nat

/-- Whether the reference programs' PI steps work in Q16.16 rather than Q1.31 (R196, R206 give no format). -/
opaque refQ16 : Bool

/-- The constants of ACO's loops that the 16 coefficients of R206 leave no room for: of loop 0 (DC link), 1 (neutral point) and 2 (circulating current), the
gains and bounds in the order of R106. -/
opaque acoCoef : Nat → Nat → Int

/-! ### What the device carries, and cryptography: functions whose results no rule gives -/

/-- The keys of slots 0 to 3 as programmed before shipment: private keys in slots 0 and 1, MAKER public keys in slots 2 and 3 (R338, R339). -/
opaque makerKey : Nat → List Byte

/-- The MAKER certificates of the identity keys (R339). -/
opaque identityCerts : List Byte

/-- SHA-384. -/
opaque sha384 : List Byte → List Byte

/-- The Banksman image of a module as shipped (R332). -/
opaque shippedBanksman : Machine.ImageU

/-- ECDSA verification: public key, hash, signature. -/
opaque verify : List Byte → List Byte → List Byte → Bool

/-- An ECDSA signature over a hash under a key, with the `n`-th nonce. -/
opaque sign : List Byte → List Byte → Nat → List Byte

/-- A key the Banksman creates for an algorithm, with the `n`-th random choice. -/
opaque newKey : Nat → Nat → List Byte

/-- The public key of a private key of an algorithm. -/
opaque publicKey : Nat → List Byte → List Byte

/-- ECDH with a peer's public key: the shared secret, none for a key that is no point of the curve. -/
opaque ecdh : List Byte → List Byte → Option (List Byte)

/-- AES-256-GCM: ciphertext and tag for a key, an IV and data; the data for a key, an IV and ciphertext with tag. -/
opaque gcmSeal : List Byte → List Byte → List Byte → List Byte
opaque gcmOpen : List Byte → List Byte → List Byte → Option (List Byte)

/-- HMAC-SHA-384. -/
opaque hmac : List Byte → List Byte → List Byte

/-- The `n`-th random byte. -/
opaque randomByte : Nat → Byte

/-- The programs of a Pick program set, by PROGSEL: the slot 24 key and the encrypted payload (R80, R346 give no layout). -/
opaque pickPrograms : List Byte → List Byte → List (Nat × Machine.PickProgram)

/-- The bytes of a READ item or of an EXPORT whose parts a rule names without their arrangement (R336, R360): the item and its parts. -/
opaque itemLayout : Nat → List (List Byte) → List Byte

/-- The codes of a tamper log entry's cause and power state (R352 gives none). -/
opaque tamperCode : Nat → Byte
opaque powerCode : Nat → Byte

/-- A byte of a Drift application as it is laid out in the TCM of a pair: image, pair, offset (R409, R417 give no layout). -/
opaque tcmByte : Nat → Nat → Nat → Byte

/-- What follows in the 16-bit pseudo-random sequence of TMESH_O (R349 gives no generator). -/
opaque meshNext : BitVec 16 → BitVec 16

/-- An Itoton test key of the MAKER state (R338 gives none). -/
opaque testKey : Nat → List Byte

/-- How a journal entry lies in its 72 bytes: the line's address and its prior content, with the CRC-32 of both (R281 gives no layout). -/
opaque journalEntry : Nat → List Byte → Vector Byte 72

/-- Where the slot of the Drift application, slot B when `true`, begins in the flash window's Banksman area (R441 gives no layout). -/
opaque appSlotBase : Bool → Nat

end Sys2Proof.Config
end

