-- ==== Sys2Proof/Machine/Fields.lean ====
section
/-! DEFINITION. The fields of the registers: one name for each field of the spec's register tables, `<unit>_<register>_<field>`,
with its register, its least significant bit and its width. -/

namespace Sys2Proof.Machine

/-- A field of a register. -/
structure Fld where
  reg : RegId
  lo : Nat
  width : Nat
deriving DecidableEq, Repr

/-! BLK_BLKCTL (R22) -/
def BLK_BLKCTL_STATE : Fld := ⟨.BLK_BLKCTL, 0, 2⟩
def BLK_BLKCTL_REQ : Fld := ⟨.BLK_BLKCTL, 4, 2⟩
def BLK_BLKCTL_OWNER : Fld := ⟨.BLK_BLKCTL, 8, 4⟩
def BLK_BLKCTL_OWNED : Fld := ⟨.BLK_BLKCTL, 12, 1⟩
def BLK_BLKCTL_DOMAIN : Fld := ⟨.BLK_BLKCTL, 14, 2⟩
def BLK_BLKCTL_BIND_DENIED : Fld := ⟨.BLK_BLKCTL, 16, 1⟩
def BLK_BLKCTL_OWNER_DENIED : Fld := ⟨.BLK_BLKCTL, 17, 1⟩
def BLK_BLKCTL_STATE_DENIED : Fld := ⟨.BLK_BLKCTL, 18, 1⟩
def BLK_BLKCTL_ADDR_UNMAPPED : Fld := ⟨.BLK_BLKCTL, 19, 1⟩
def BLK_BLKCTL_LOCK : Fld := ⟨.BLK_BLKCTL, 31, 1⟩
/-! BLK_BLKCELLS0 (R22) -/
def BLK_BLKCELLS0_CELLS : Fld := ⟨.BLK_BLKCELLS0, 0, 32⟩
/-! BLK_BLKCELLS1 (R22) -/
def BLK_BLKCELLS1_CELLS : Fld := ⟨.BLK_BLKCELLS1, 0, 16⟩
/-! HF_DOMCTL (R54) -/
def HF_DOMCTL_SRC : Fld := ⟨.HF_DOMCTL, 0, 2⟩
def HF_DOMCTL_BW : Fld := ⟨.HF_DOMCTL, 2, 2⟩
def HF_DOMCTL_JMODE : Fld := ⟨.HF_DOMCTL, 4, 1⟩
def HF_DOMCTL_JTHR : Fld := ⟨.HF_DOMCTL, 8, 8⟩
def HF_DOMCTL_COASTMAX : Fld := ⟨.HF_DOMCTL, 16, 8⟩
def HF_DOMCTL_PICKCELL : Fld := ⟨.HF_DOMCTL, 24, 6⟩
/-! HF_DOMSTAT (R54) -/
def HF_DOMSTAT_STATE : Fld := ⟨.HF_DOMSTAT, 0, 3⟩
def HF_DOMSTAT_JUMP : Fld := ⟨.HF_DOMSTAT, 4, 1⟩
def HF_DOMSTAT_FREQ_CLAMP : Fld := ⟨.HF_DOMSTAT, 5, 1⟩
def HF_DOMSTAT_COAST_SEEN : Fld := ⟨.HF_DOMSTAT, 6, 1⟩
def HF_DOMSTAT_SRC_LOST : Fld := ⟨.HF_DOMSTAT, 7, 1⟩
def HF_DOMSTAT_WRITE_DENIED : Fld := ⟨.HF_DOMSTAT, 8, 1⟩
def HF_DOMSTAT_ADDR_UNMAPPED : Fld := ⟨.HF_DOMSTAT, 9, 1⟩
def HF_DOMSTAT_COASTMS : Fld := ⟨.HF_DOMSTAT, 16, 16⟩
/-! HF_ANG (R54) -/
def HF_ANG_ANG : Fld := ⟨.HF_ANG, 0, 32⟩
/-! HF_TURN (R54) -/
def HF_TURN_TURN : Fld := ⟨.HF_TURN, 0, 32⟩
/-! HF_FREQ (R54) -/
def HF_FREQ_FREQ : Fld := ⟨.HF_FREQ, 0, 32⟩
/-! HF_ROCOF (R54) -/
def HF_ROCOF_ROCOF : Fld := ⟨.HF_ROCOF, 0, 32⟩
/-! HF_PMAG (R54) -/
def HF_PMAG_PMAG : Fld := ⟨.HF_PMAG, 0, 32⟩
/-! HF_NMAG (R54) -/
def HF_NMAG_NMAG : Fld := ⟨.HF_NMAG, 0, 32⟩
/-! HF_NANG (R54) -/
def HF_NANG_NANG : Fld := ⟨.HF_NANG, 0, 32⟩
/-! HF_JUMPANG (R54) -/
def HF_JUMPANG_JUMPANG : Fld := ⟨.HF_JUMPANG, 0, 32⟩
/-! HF_TRKIN (R54) -/
def HF_TRKIN_SLICEA : Fld := ⟨.HF_TRKIN, 0, 8⟩
def HF_TRKIN_SLICEB : Fld := ⟨.HF_TRKIN, 8, 8⟩
def HF_TRKIN_SLICEC : Fld := ⟨.HF_TRKIN, 16, 8⟩
def HF_TRKIN_ROCWIN : Fld := ⟨.HF_TRKIN, 24, 8⟩
/-! HF_TRKTHR (R54) -/
def HF_TRKTHR_COASTTHR : Fld := ⟨.HF_TRKTHR, 0, 16⟩
def HF_TRKTHR_RETTHR : Fld := ⟨.HF_TRKTHR, 16, 16⟩
/-! HF_NOMMAG (R54) -/
def HF_NOMMAG_NOMMAG : Fld := ⟨.HF_NOMMAG, 0, 32⟩
/-! HF_INC (R54) -/
def HF_INC_INC : Fld := ⟨.HF_INC, 0, 32⟩
/-! EV_EVTANG (R55) -/
def EV_EVTANG_EVTANG : Fld := ⟨.EV_EVTANG, 0, 32⟩
/-! EV_EVTCTL (R55) -/
def EV_EVTCTL_EN : Fld := ⟨.EV_EVTCTL, 0, 1⟩
def EV_EVTCTL_DOMAIN : Fld := ⟨.EV_EVTCTL, 1, 2⟩
def EV_EVTCTL_ONESHOT : Fld := ⟨.EV_EVTCTL, 3, 1⟩
def EV_EVTCTL_A_CONV : Fld := ⟨.EV_EVTCTL, 4, 1⟩
def EV_EVTCTL_A_PICK : Fld := ⟨.EV_EVTCTL, 5, 1⟩
def EV_EVTCTL_A_ASSAY : Fld := ⟨.EV_EVTCTL, 6, 1⟩
def EV_EVTCTL_A_SEAM : Fld := ⟨.EV_EVTCTL, 7, 1⟩
def EV_EVTCTL_A_INT : Fld := ⟨.EV_EVTCTL, 8, 1⟩
def EV_EVTCTL_NTURN : Fld := ⟨.EV_EVTCTL, 16, 8⟩
/-! EV_EVTTGT (R55) -/
def EV_EVTTGT_SEQ : Fld := ⟨.EV_EVTTGT, 0, 5⟩
def EV_EVTTGT_CELL : Fld := ⟨.EV_EVTTGT, 8, 6⟩
def EV_EVTTGT_SEAMTRIG : Fld := ⟨.EV_EVTTGT, 16, 4⟩
def EV_EVTTGT_INTSEL : Fld := ⟨.EV_EVTTGT, 24, 6⟩
/-! EV_EVTSTAT (R55) -/
def EV_EVTSTAT_COUNT : Fld := ⟨.EV_EVTSTAT, 0, 16⟩
def EV_EVTSTAT_SKIPPED : Fld := ⟨.EV_EVTSTAT, 16, 1⟩
def EV_EVTSTAT_MERGED : Fld := ⟨.EV_EVTSTAT, 17, 1⟩
/-! SP_CTL (R56) -/
def SP_CTL_FRAMEDOM : Fld := ⟨.SP_CTL, 0, 2⟩
/-! SP_STAT (R56) -/
def SP_STAT_FRAME : Fld := ⟨.SP_STAT, 0, 6⟩
def SP_STAT_SOURCE : Fld := ⟨.SP_STAT, 6, 3⟩
def SP_STAT_ADDR_UNMAPPED : Fld := ⟨.SP_STAT, 9, 1⟩
/-! SP_CNT (R56) -/
def SP_CNT_SKIP : Fld := ⟨.SP_CNT, 0, 16⟩
def SP_CNT_FILLER : Fld := ⟨.SP_CNT, 16, 8⟩
def SP_CNT_SRCCHG : Fld := ⟨.SP_CNT, 24, 8⟩
/-! SP_COMMIT (R56) -/
def SP_COMMIT_GO : Fld := ⟨.SP_COMMIT, 0, 1⟩
def SP_COMMIT_PENDING : Fld := ⟨.SP_COMMIT, 1, 1⟩
def SP_COMMIT_ADMIT_DENIED : Fld := ⟨.SP_COMMIT, 2, 1⟩
/-! SP_OVERRUN0 (R56) -/
def SP_OVERRUN0_OVERRUN : Fld := ⟨.SP_OVERRUN0, 0, 32⟩
/-! SP_OVERRUN1 (R56) -/
def SP_OVERRUN1_OVERRUN : Fld := ⟨.SP_OVERRUN1, 0, 32⟩
/-! SP_PAIRSUP (R56) -/
def SP_PAIRSUP_SUPCREW : Fld := ⟨.SP_PAIRSUP, 0, 6⟩
/-! SP_CREWCTL (R56) -/
def SP_CREWCTL_EN : Fld := ⟨.SP_CREWCTL, 0, 1⟩
def SP_CREWCTL_ESSENTIAL : Fld := ⟨.SP_CREWCTL, 1, 1⟩
def SP_CREWCTL_PAIR : Fld := ⟨.SP_CREWCTL, 4, 4⟩
def SP_CREWCTL_ETHPORT : Fld := ⟨.SP_CREWCTL, 8, 1⟩
/-! SP_GRANTA0 (R56) -/
def SP_GRANTA0_DRIFT : Fld := ⟨.SP_GRANTA0, 0, 24⟩
/-! SP_GRANTB0 (R56) -/
def SP_GRANTB0_DRIFT : Fld := ⟨.SP_GRANTB0, 0, 24⟩
/-! SP_GRANTA1 (R56) -/
def SP_GRANTA1_BEATS : Fld := ⟨.SP_GRANTA1, 0, 24⟩
/-! SP_GRANTB1 (R56) -/
def SP_GRANTB1_BEATS : Fld := ⟨.SP_GRANTB1, 0, 24⟩
/-! SP_GRANTA2 (R56) -/
def SP_GRANTA2_SEAM : Fld := ⟨.SP_GRANTA2, 0, 16⟩
def SP_GRANTA2_ETH : Fld := ⟨.SP_GRANTA2, 16, 16⟩
/-! SP_GRANTB2 (R56) -/
def SP_GRANTB2_SEAM : Fld := ⟨.SP_GRANTB2, 0, 16⟩
def SP_GRANTB2_ETH : Fld := ⟨.SP_GRANTB2, 16, 16⟩
/-! SP_MAP0 (R56) -/
def SP_MAP0_MAP : Fld := ⟨.SP_MAP0, 0, 32⟩
/-! SP_MAP1 (R56) -/
def SP_MAP1_MAP : Fld := ⟨.SP_MAP1, 0, 32⟩
/-! SP_REMAIN0 (R56) -/
def SP_REMAIN0_DRIFT : Fld := ⟨.SP_REMAIN0, 0, 24⟩
/-! SP_REMAIN1 (R56) -/
def SP_REMAIN1_BEATS : Fld := ⟨.SP_REMAIN1, 0, 24⟩
/-! SP_REMAIN2 (R56) -/
def SP_REMAIN2_SEAM : Fld := ⟨.SP_REMAIN2, 0, 16⟩
def SP_REMAIN2_ETH : Fld := ⟨.SP_REMAIN2, 16, 16⟩
/-! SP_CREWSTAT (R56) -/
def SP_CREWSTAT_EXHAUSTED : Fld := ⟨.SP_CREWSTAT, 0, 4⟩
def SP_CREWSTAT_FLOORED : Fld := ⟨.SP_CREWSTAT, 4, 1⟩
def SP_CREWSTAT_OVCOUNT : Fld := ⟨.SP_CREWSTAT, 16, 16⟩
/-! PK_PCTL (R83) -/
def PK_PCTL_LOAD : Fld := ⟨.PK_PCTL, 0, 1⟩
def PK_PCTL_LOADED : Fld := ⟨.PK_PCTL, 1, 1⟩
def PK_PCTL_LOADING : Fld := ⟨.PK_PCTL, 2, 1⟩
def PK_PCTL_SPLIT : Fld := ⟨.PK_PCTL, 3, 1⟩
def PK_PCTL_PROGSEL : Fld := ⟨.PK_PCTL, 8, 8⟩
def PK_PCTL_LOAD_DENIED : Fld := ⟨.PK_PCTL, 16, 1⟩
/-! PK_PSTAT (R83) -/
def PK_PSTAT_BUSY : Fld := ⟨.PK_PSTAT, 0, 1⟩
def PK_PSTAT_RESYNC : Fld := ⟨.PK_PSTAT, 1, 1⟩
def PK_PSTAT_MISMATCH : Fld := ⟨.PK_PSTAT, 2, 1⟩
def PK_PSTAT_BUDGET_EXH : Fld := ⟨.PK_PSTAT, 3, 1⟩
def PK_PSTAT_SAT_SEEN : Fld := ⟨.PK_PSTAT, 4, 1⟩
def PK_PSTAT_DZ_SEEN : Fld := ⟨.PK_PSTAT, 5, 1⟩
def PK_PSTAT_NR_SEEN : Fld := ⟨.PK_PSTAT, 6, 1⟩
def PK_PSTAT_ECC_CORR : Fld := ⟨.PK_PSTAT, 7, 1⟩
def PK_PSTAT_ECC_UNCORR : Fld := ⟨.PK_PSTAT, 8, 1⟩
def PK_PSTAT_PARAM_DENIED : Fld := ⟨.PK_PSTAT, 9, 1⟩
def PK_PSTAT_BUDGET_DENIED : Fld := ⟨.PK_PSTAT, 10, 1⟩
def PK_PSTAT_HALTED : Fld := ⟨.PK_PSTAT, 11, 1⟩
def PK_PSTAT_SLICE_DENIED : Fld := ⟨.PK_PSTAT, 12, 1⟩
def PK_PSTAT_ADDR_UNMAPPED : Fld := ⟨.PK_PSTAT, 13, 1⟩
/-! PK_BUDGET (R83) -/
def PK_BUDGET_BUDGET : Fld := ⟨.PK_BUDGET, 0, 13⟩
def PK_BUDGET_WCET : Fld := ⟨.PK_BUDGET, 16, 13⟩
/-! PK_INVSRC (R83) -/
def PK_INVSRC_HF : Fld := ⟨.PK_INVSRC, 0, 1⟩
def PK_INVSRC_PWMEV : Fld := ⟨.PK_INVSRC, 1, 2⟩
def PK_INVSRC_ACC : Fld := ⟨.PK_INVSRC, 3, 1⟩
def PK_INVSRC_ACCSLICE : Fld := ⟨.PK_INVSRC, 4, 3⟩
/-! PK_SLICEMAP0 (R83) -/
def PK_SLICEMAP0_LS0 : Fld := ⟨.PK_SLICEMAP0, 0, 32⟩
/-! PK_SLICEMAP1 (R83) -/
def PK_SLICEMAP1_LS4 : Fld := ⟨.PK_SLICEMAP1, 0, 32⟩
/-! PK_ICOUNT (R83) -/
def PK_ICOUNT_ICOUNT : Fld := ⟨.PK_ICOUNT, 0, 32⟩
/-! PK_LATE (R83) -/
def PK_LATE_LATE : Fld := ⟨.PK_LATE, 0, 16⟩
def PK_LATE_EXHCOUNT : Fld := ⟨.PK_LATE, 16, 16⟩
/-! PK_REGION (R83) -/
def PK_REGION_REGION : Fld := ⟨.PK_REGION, 0, 6⟩
def PK_REGION_IX : Fld := ⟨.PK_REGION, 8, 3⟩
def PK_REGION_IY : Fld := ⟨.PK_REGION, 12, 3⟩
/-! PK_OPV (R83) -/
def PK_OPV_OPV : Fld := ⟨.PK_OPV, 0, 32⟩
/-! PK_ARBCTL (R83) -/
def PK_ARBCTL_SLOTEN : Fld := ⟨.PK_ARBCTL, 0, 8⟩
def PK_ARBCTL_FMT : Fld := ⟨.PK_ARBCTL, 8, 1⟩
def PK_ARBCTL_DEST : Fld := ⟨.PK_ARBCTL, 12, 2⟩
def PK_ARBCTL_DESTCELL : Fld := ⟨.PK_ARBCTL, 16, 6⟩
def PK_ARBCTL_DESTSLOT : Fld := ⟨.PK_ARBCTL, 24, 3⟩
def PK_ARBCTL_ROUTE_DENIED : Fld := ⟨.PK_ARBCTL, 27, 1⟩
def PK_ARBCTL_OUT_DENIED : Fld := ⟨.PK_ARBCTL, 28, 1⟩
def PK_ARBCTL_DUTY_DENIED : Fld := ⟨.PK_ARBCTL, 29, 1⟩
/-! PK_ARBSTAT (R83) -/
def PK_ARBSTAT_WINNER : Fld := ⟨.PK_ARBSTAT, 0, 3⟩
def PK_ARBSTAT_EMPTY : Fld := ⟨.PK_ARBSTAT, 3, 1⟩
def PK_ARBSTAT_ROUTEDIN : Fld := ⟨.PK_ARBSTAT, 8, 8⟩
def PK_ARBSTAT_WINCHG : Fld := ⟨.PK_ARBSTAT, 16, 16⟩
/-! PK_ARBOUT (R83) -/
def PK_ARBOUT_ARBOUT : Fld := ⟨.PK_ARBOUT, 0, 32⟩
/-! PK_TRACK (R83) -/
def PK_TRACK_TRACK : Fld := ⟨.PK_TRACK, 0, 32⟩
/-! PK_SLOTVAL (R83) -/
def PK_SLOTVAL_VALUE : Fld := ⟨.PK_SLOTVAL, 0, 32⟩
/-! PK_PARAMGO (R83) -/
def PK_PARAMGO_GO : Fld := ⟨.PK_PARAMGO, 0, 1⟩
/-! PK_PARAM (R83) -/
def PK_PARAM_WORD : Fld := ⟨.PK_PARAM, 0, 32⟩
/-! PK_REPORT (R83) -/
def PK_REPORT_WORD : Fld := ⟨.PK_REPORT, 0, 32⟩
/-! PK_REPLATCH (R83) -/
def PK_REPLATCH_LATCH : Fld := ⟨.PK_REPLATCH, 0, 1⟩
/-! SN_CTL (R139) -/
def SN_CTL_REFEN : Fld := ⟨.SN_CTL, 0, 1⟩
def SN_CTL_REFRDY : Fld := ⟨.SN_CTL, 1, 1⟩
def SN_CTL_REF_LOST : Fld := ⟨.SN_CTL, 2, 1⟩
def SN_CTL_CFG_DENIED : Fld := ⟨.SN_CTL, 3, 1⟩
def SN_CTL_ADDR_UNMAPPED : Fld := ⟨.SN_CTL, 4, 1⟩
/-! SN_DIAGSEL (R139) -/
def SN_DIAGSEL_ICH : Fld := ⟨.SN_DIAGSEL, 0, 8⟩
def SN_DIAGSEL_CONV : Fld := ⟨.SN_DIAGSEL, 8, 5⟩
def SN_DIAGSEL_GO : Fld := ⟨.SN_DIAGSEL, 16, 1⟩
/-! SN_DIAGRES (R139) -/
def SN_DIAGRES_MEAN : Fld := ⟨.SN_DIAGRES, 0, 32⟩
/-! SN_DIAGSTAT (R139) -/
def SN_DIAGSTAT_BUSY : Fld := ⟨.SN_DIAGSTAT, 0, 1⟩
def SN_DIAGSTAT_DONE : Fld := ⟨.SN_DIAGSTAT, 1, 1⟩
def SN_DIAGSTAT_TIMEOUT : Fld := ⟨.SN_DIAGSTAT, 2, 1⟩
/-! SN_SDMCK (R139) -/
def SN_SDMCK_EN : Fld := ⟨.SN_SDMCK, 0, 1⟩
def SN_SDMCK_DIV : Fld := ⟨.SN_SDMCK, 1, 6⟩
/-! SN_SEQCTL (R139) -/
def SN_SEQCTL_EN : Fld := ⟨.SN_SEQCTL, 0, 1⟩
def SN_SEQCTL_TRIGSRC : Fld := ⟨.SN_SEQCTL, 1, 2⟩
def SN_SEQCTL_PWMEV : Fld := ⟨.SN_SEQCTL, 3, 2⟩
def SN_SEQCTL_PWMGRP : Fld := ⟨.SN_SEQCTL, 5, 3⟩
def SN_SEQCTL_POS : Fld := ⟨.SN_SEQCTL, 8, 2⟩
def SN_SEQCTL_BURST : Fld := ⟨.SN_SEQCTL, 10, 6⟩
def SN_SEQCTL_CANWIN : Fld := ⟨.SN_SEQCTL, 16, 7⟩
/-! SN_SEQDLY (R139) -/
def SN_SEQDLY_DELAY : Fld := ⟨.SN_SEQDLY, 0, 16⟩
def SN_SEQDLY_MAXDEF : Fld := ⟨.SN_SEQDLY, 16, 16⟩
/-! SN_SEQMASK (R139) -/
def SN_SEQMASK_CONV : Fld := ⟨.SN_SEQMASK, 0, 32⟩
/-! SN_SEQGO (R139) -/
def SN_SEQGO_GO : Fld := ⟨.SN_SEQGO, 0, 1⟩
/-! SN_SEQSTAT (R139) -/
def SN_SEQSTAT_PENDING : Fld := ⟨.SN_SEQSTAT, 0, 1⟩
def SN_SEQSTAT_RUNNING : Fld := ⟨.SN_SEQSTAT, 1, 1⟩
def SN_SEQSTAT_DEFERRED : Fld := ⟨.SN_SEQSTAT, 2, 1⟩
def SN_SEQSTAT_DROPPED : Fld := ⟨.SN_SEQSTAT, 3, 1⟩
def SN_SEQSTAT_OVERLAP : Fld := ⟨.SN_SEQSTAT, 16, 8⟩
def SN_SEQSTAT_DROPS : Fld := ⟨.SN_SEQSTAT, 24, 8⟩
/-! SN_CHCTL (R140) -/
def SN_CHCTL_EN : Fld := ⟨.SN_CHCTL, 0, 1⟩
def SN_CHCTL_OFFSET : Fld := ⟨.SN_CHCTL, 16, 16⟩
/-! SN_SDCTL (R140) -/
def SN_SDCTL_EN : Fld := ⟨.SN_SDCTL, 0, 1⟩
def SN_SDCTL_CKSEL : Fld := ⟨.SN_SDCTL, 1, 3⟩
def SN_SDCTL_EDGE : Fld := ⟨.SN_SDCTL, 4, 1⟩
def SN_SDCTL_SYNC : Fld := ⟨.SN_SDCTL, 5, 1⟩
def SN_SDCTL_SYNCGRP : Fld := ⟨.SN_SDCTL, 6, 3⟩
def SN_SDCTL_OSRSEL : Fld := ⟨.SN_SDCTL, 9, 5⟩
def SN_SDCTL_LOCAL : Fld := ⟨.SN_SDCTL, 14, 2⟩
def SN_SDCTL_CELL : Fld := ⟨.SN_SDCTL, 16, 6⟩
/-! SN_CHSTAT (R140) -/
def SN_CHSTAT_NOT_READY : Fld := ⟨.SN_CHSTAT, 0, 1⟩
def SN_CHSTAT_CFG_DENIED : Fld := ⟨.SN_CHSTAT, 1, 1⟩
def SN_CHSTAT_OFS_SAT : Fld := ⟨.SN_CHSTAT, 2, 1⟩
def SN_CHSTAT_SDM_STUCK : Fld := ⟨.SN_CHSTAT, 3, 1⟩
/-! SN_SLCTL (R140) -/
def SN_SLCTL_EN : Fld := ⟨.SN_SLCTL, 0, 1⟩
def SN_SLCTL_MODE : Fld := ⟨.SN_SLCTL, 1, 2⟩
def SN_SLCTL_SRC : Fld := ⟨.SN_SLCTL, 3, 5⟩
def SN_SLCTL_NM1 : Fld := ⟨.SN_SLCTL, 16, 16⟩
/-! SN_SLGAP (R140) -/
def SN_SLGAP_GAP : Fld := ⟨.SN_SLGAP, 0, 16⟩
def SN_SLGAP_GAPRST : Fld := ⟨.SN_SLGAP, 16, 8⟩
def SN_SLGAP_SHORT : Fld := ⟨.SN_SLGAP, 24, 8⟩
/-! SN_SLMEAN (R140) -/
def SN_SLMEAN_MEAN : Fld := ⟨.SN_SLMEAN, 0, 32⟩
/-! SN_SLINFO (R140) -/
def SN_SLINFO_COUNT : Fld := ⟨.SN_SLINFO, 0, 17⟩
def SN_SLINFO_FULL : Fld := ⟨.SN_SLINFO, 17, 1⟩
def SN_SLINFO_NOT_READY : Fld := ⟨.SN_SLINFO, 18, 1⟩
def SN_SLINFO_WNUM : Fld := ⟨.SN_SLINFO, 19, 13⟩
/-! SN_MMCTL (R140) -/
def SN_MMCTL_EN : Fld := ⟨.SN_MMCTL, 0, 1⟩
def SN_MMCTL_RST : Fld := ⟨.SN_MMCTL, 1, 2⟩
def SN_MMCTL_GRP : Fld := ⟨.SN_MMCTL, 3, 3⟩
def SN_MMCTL_RESET : Fld := ⟨.SN_MMCTL, 8, 1⟩
/-! SN_MMMIN (R140) -/
def SN_MMMIN_MIN : Fld := ⟨.SN_MMMIN, 0, 32⟩
/-! SN_MMMAX (R140) -/
def SN_MMMAX_MAX : Fld := ⟨.SN_MMMAX, 0, 32⟩
/-! SN_MMINFO (R140) -/
def SN_MMINFO_COUNT : Fld := ⟨.SN_MMINFO, 0, 17⟩
def SN_MMINFO_NOT_READY : Fld := ⟨.SN_MMINFO, 17, 1⟩
def SN_MMINFO_RNUM : Fld := ⟨.SN_MMINFO, 18, 14⟩
/-! CN_CCTL (R152) -/
def CN_CCTL_NTICK : Fld := ⟨.CN_CCTL, 0, 7⟩
/-! CN_CSTAT (R152) -/
def CN_CSTAT_ADDR_UNMAPPED : Fld := ⟨.CN_CSTAT, 0, 1⟩
def CN_CSTAT_WRITE_DENIED : Fld := ⟨.CN_CSTAT, 1, 1⟩
/-! CN_WCTL (R153) -/
def CN_WCTL_EN : Fld := ⟨.CN_WCTL, 0, 1⟩
def CN_WCTL_MODE : Fld := ⟨.CN_WCTL, 1, 1⟩
def CN_WCTL_ENLO : Fld := ⟨.CN_WCTL, 2, 1⟩
def CN_WCTL_ENHI : Fld := ⟨.CN_WCTL, 3, 1⟩
def CN_WCTL_CLRMODE : Fld := ⟨.CN_WCTL, 4, 1⟩
def CN_WCTL_TSCOPE : Fld := ⟨.CN_WCTL, 5, 1⟩
def CN_WCTL_TRIPEN : Fld := ⟨.CN_WCTL, 6, 1⟩
def CN_WCTL_FILT : Fld := ⟨.CN_WCTL, 8, 8⟩
def CN_WCTL_TICK : Fld := ⟨.CN_WCTL, 16, 7⟩
def CN_WCTL_GRP : Fld := ⟨.CN_WCTL, 24, 3⟩
def CN_WCTL_RBFAIL : Fld := ⟨.CN_WCTL, 30, 1⟩
def CN_WCTL_FGUARD : Fld := ⟨.CN_WCTL, 31, 1⟩
/-! CN_WTHR (R153) -/
def CN_WTHR_LO : Fld := ⟨.CN_WTHR, 0, 10⟩
def CN_WTHR_HI : Fld := ⟨.CN_WTHR, 16, 10⟩
/-! CN_WSTAT (R153) -/
def CN_WSTAT_LOW : Fld := ⟨.CN_WSTAT, 0, 1⟩
def CN_WSTAT_HIGH : Fld := ⟨.CN_WSTAT, 1, 1⟩
def CN_WSTAT_LATCH_LO : Fld := ⟨.CN_WSTAT, 2, 1⟩
def CN_WSTAT_LATCH_HI : Fld := ⟨.CN_WSTAT, 3, 1⟩
def CN_WSTAT_CLEAR_DENIED : Fld := ⟨.CN_WSTAT, 4, 1⟩
def CN_WSTAT_WRITE_DENIED : Fld := ⟨.CN_WSTAT, 5, 1⟩
def CN_WSTAT_SETTLING : Fld := ⟨.CN_WSTAT, 6, 1⟩
def CN_WSTAT_COUNT : Fld := ⟨.CN_WSTAT, 16, 16⟩
/-! CN_WSTAMP (R153) -/
def CN_WSTAMP_STAMP : Fld := ⟨.CN_WSTAMP, 0, 32⟩
/-! PW_GSTAT (R175) -/
def PW_GSTAT_FINE : Fld := ⟨.PW_GSTAT, 0, 1⟩
def PW_GSTAT_ADDR_UNMAPPED : Fld := ⟨.PW_GSTAT, 1, 1⟩
/-! PW_GATESTAT (R175) -/
def PW_GATESTAT_PWMCLK_LOST : Fld := ⟨.PW_GATESTAT, 0, 1⟩
/-! PW_GRPCTL (R176) -/
def PW_GRPCTL_EN : Fld := ⟨.PW_GRPCTL, 0, 1⟩
def PW_GRPCTL_PRE : Fld := ⟨.PW_GRPCTL, 1, 2⟩
def PW_GRPCTL_NSKIP : Fld := ⟨.PW_GRPCTL, 3, 6⟩
def PW_GRPCTL_AUTOC : Fld := ⟨.PW_GRPCTL, 9, 1⟩
def PW_GRPCTL_SYNCSRC : Fld := ⟨.PW_GRPCTL, 10, 2⟩
def PW_GRPCTL_SYNCGRP : Fld := ⟨.PW_GRPCTL, 12, 3⟩
/-! PW_GRPPRD (R176) -/
def PW_GRPPRD_PRD : Fld := ⟨.PW_GRPPRD, 0, 32⟩
/-! PW_GRPPHASE (R176) -/
def PW_GRPPHASE_PHASE : Fld := ⟨.PW_GRPPHASE, 0, 32⟩
/-! PW_GRPCOMMIT (R176) -/
def PW_GRPCOMMIT_COMMIT : Fld := ⟨.PW_GRPCOMMIT, 0, 1⟩
def PW_GRPCOMMIT_PENDING : Fld := ⟨.PW_GRPCOMMIT, 1, 1⟩
def PW_GRPCOMMIT_COMMIT_MERGED : Fld := ⟨.PW_GRPCOMMIT, 2, 1⟩
def PW_GRPCOMMIT_PRD_DENIED : Fld := ⟨.PW_GRPCOMMIT, 3, 1⟩
def PW_GRPCOMMIT_WRITE_DENIED : Fld := ⟨.PW_GRPCOMMIT, 4, 1⟩
/-! PW_GRPSTAT (R176) -/
def PW_GRPSTAT_RUN : Fld := ⟨.PW_GRPSTAT, 0, 1⟩
def PW_GRPSTAT_SYNCLOCK : Fld := ⟨.PW_GRPSTAT, 1, 1⟩
def PW_GRPSTAT_SYNC_LOST : Fld := ⟨.PW_GRPSTAT, 2, 1⟩
def PW_GRPSTAT_DWELL : Fld := ⟨.PW_GRPSTAT, 3, 1⟩
def PW_GRPSTAT_NCOUNT : Fld := ⟨.PW_GRPSTAT, 4, 6⟩
def PW_GRPSTAT_APPLIED : Fld := ⟨.PW_GRPSTAT, 16, 16⟩
/-! PW_GRPACT (R176) -/
def PW_GRPACT_PRD : Fld := ⟨.PW_GRPACT, 0, 32⟩
/-! PW_SYNCERR (R176) -/
def PW_SYNCERR_ERR : Fld := ⟨.PW_SYNCERR, 0, 32⟩
/-! PW_CHCTL (R177) -/
def PW_CHCTL_IMM : Fld := ⟨.PW_CHCTL, 0, 1⟩
def PW_CHCTL_FORM : Fld := ⟨.PW_CHCTL, 1, 1⟩
/-! PW_DUTY (R177) -/
def PW_DUTY_DUTY : Fld := ⟨.PW_DUTY, 0, 32⟩
/-! PW_DT (R177) -/
def PW_DT_DT : Fld := ⟨.PW_DT, 0, 16⟩
/-! PW_OVR (R177) -/
def PW_OVR_INV : Fld := ⟨.PW_OVR, 0, 1⟩
def PW_OVR_SWAP : Fld := ⟨.PW_OVR, 1, 1⟩
def PW_OVR_FRCH : Fld := ⟨.PW_OVR, 2, 2⟩
def PW_OVR_FRCL : Fld := ⟨.PW_OVR, 4, 2⟩
/-! PW_ACTCMP (R177) -/
def PW_ACTCMP_CMP : Fld := ⟨.PW_ACTCMP, 0, 32⟩
/-! PW_CHSTAT (R177) -/
def PW_CHSTAT_SPLIT_UPDATE : Fld := ⟨.PW_CHSTAT, 0, 1⟩
def PW_CHSTAT_SHOOT_ATTEMPT : Fld := ⟨.PW_CHSTAT, 1, 1⟩
def PW_CHSTAT_DROPPED_PULSE : Fld := ⟨.PW_CHSTAT, 2, 1⟩
def PW_CHSTAT_FORM_DENIED : Fld := ⟨.PW_CHSTAT, 3, 1⟩
def PW_CHSTAT_WRITE_DENIED : Fld := ⟨.PW_CHSTAT, 4, 1⟩
def PW_CHSTAT_SAFE_ACTIVE : Fld := ⟨.PW_CHSTAT, 5, 1⟩
/-! PW_DRIVE (R177) -/
def PW_DRIVE_SRCH : Fld := ⟨.PW_DRIVE, 0, 5⟩
def PW_DRIVE_SNKH : Fld := ⟨.PW_DRIVE, 8, 5⟩
def PW_DRIVE_SRCL : Fld := ⟨.PW_DRIVE, 16, 5⟩
def PW_DRIVE_SNKL : Fld := ⟨.PW_DRIVE, 24, 5⟩
/-! PW_SAFE (R177) -/
def PW_SAFE_SAFE : Fld := ⟨.PW_SAFE, 0, 2⟩
def PW_SAFE_SAFE_DENIED : Fld := ⟨.PW_SAFE, 8, 1⟩
/-! CG_PCTL (R188) -/
def CG_PCTL_FBEN : Fld := ⟨.CG_PCTL, 0, 1⟩
def CG_PCTL_FBPOL : Fld := ⟨.CG_PCTL, 1, 1⟩
def CG_PCTL_DSEN : Fld := ⟨.CG_PCTL, 2, 1⟩
def CG_PCTL_DSPOL : Fld := ⟨.CG_PCTL, 3, 1⟩
def CG_PCTL_DSFILT : Fld := ⟨.CG_PCTL, 4, 3⟩
def CG_PCTL_CLR : Fld := ⟨.CG_PCTL, 7, 1⟩
def CG_PCTL_FBFILT : Fld := ⟨.CG_PCTL, 8, 8⟩
def CG_PCTL_FBTO : Fld := ⟨.CG_PCTL, 16, 8⟩
def CG_PCTL_BLANK : Fld := ⟨.CG_PCTL, 24, 8⟩
/-! CG_PSTAT (R188) -/
def CG_PSTAT_FBH : Fld := ⟨.CG_PSTAT, 0, 1⟩
def CG_PSTAT_FBL : Fld := ⟨.CG_PSTAT, 1, 1⟩
def CG_PSTAT_DSAT : Fld := ⟨.CG_PSTAT, 2, 1⟩
def CG_PSTAT_DS_LATCH : Fld := ⟨.CG_PSTAT, 3, 1⟩
def CG_PSTAT_DS_HL : Fld := ⟨.CG_PSTAT, 4, 1⟩
def CG_PSTAT_FB_TIMEOUT : Fld := ⟨.CG_PSTAT, 5, 1⟩
def CG_PSTAT_FB_MISMATCH : Fld := ⟨.CG_PSTAT, 6, 1⟩
def CG_PSTAT_FB_BOTHON : Fld := ⟨.CG_PSTAT, 7, 1⟩
def CG_PSTAT_CLEAR_DENIED : Fld := ⟨.CG_PSTAT, 8, 1⟩
def CG_PSTAT_WRITE_DENIED : Fld := ⟨.CG_PSTAT, 9, 1⟩
def CG_PSTAT_BLANKING : Fld := ⟨.CG_PSTAT, 10, 1⟩
def CG_PSTAT_DSCOUNT : Fld := ⟨.CG_PSTAT, 16, 16⟩
/-! CG_DSSTAMP (R188) -/
def CG_DSSTAMP_STAMP : Fld := ⟨.CG_DSSTAMP, 0, 32⟩
/-! CG_FBSTAMP (R188) -/
def CG_FBSTAMP_STAMP : Fld := ⟨.CG_FBSTAMP, 0, 32⟩
/-! CG_BCTL (R188) -/
def CG_BCTL_STEP : Fld := ⟨.CG_BCTL, 0, 6⟩
def CG_BCTL_SOFTPOL : Fld := ⟨.CG_BCTL, 6, 1⟩
/-! CG_BSTAT (R188) -/
def CG_BSTAT_TURNOFF : Fld := ⟨.CG_BSTAT, 0, 1⟩
def CG_BSTAT_SOFT : Fld := ⟨.CG_BSTAT, 1, 1⟩
def CG_BSTAT_STEP2 : Fld := ⟨.CG_BSTAT, 2, 1⟩
def CG_BSTAT_WRITE_DENIED : Fld := ⟨.CG_BSTAT, 3, 1⟩
def CG_BSTAT_FIRSTCELL : Fld := ⟨.CG_BSTAT, 8, 6⟩
def CG_BSTAT_SEQCOUNT : Fld := ⟨.CG_BSTAT, 16, 16⟩
/-! CG_CGSTAT (R188) -/
def CG_CGSTAT_ESCALATED : Fld := ⟨.CG_CGSTAT, 0, 1⟩
def CG_CGSTAT_ADDR_UNMAPPED : Fld := ⟨.CG_CGSTAT, 1, 1⟩
def CG_CGSTAT_WRITE_DENIED : Fld := ⟨.CG_CGSTAT, 2, 1⟩
/-! RG_RCTL (R201) -/
def RG_RCTL_EN : Fld := ⟨.RG_RCTL, 0, 1⟩
def RG_RCTL_GO : Fld := ⟨.RG_RCTL, 1, 1⟩
def RG_RCTL_STOP : Fld := ⟨.RG_RCTL, 2, 1⟩
def RG_RCTL_RELEASE : Fld := ⟨.RG_RCTL, 3, 1⟩
def RG_RCTL_ALIGN : Fld := ⟨.RG_RCTL, 4, 1⟩
def RG_RCTL_FROMWORD : Fld := ⟨.RG_RCTL, 5, 1⟩
def RG_RCTL_CELL : Fld := ⟨.RG_RCTL, 8, 6⟩
def RG_RCTL_WORD : Fld := ⟨.RG_RCTL, 16, 6⟩
def RG_RCTL_NSEG : Fld := ⟨.RG_RCTL, 24, 4⟩
def RG_RCTL_SEAMTRIG : Fld := ⟨.RG_RCTL, 28, 4⟩
/-! RG_RSTAT (R201) -/
def RG_RSTAT_STATE : Fld := ⟨.RG_RSTAT, 0, 3⟩
def RG_RSTAT_SEG : Fld := ⟨.RG_RSTAT, 4, 4⟩
def RG_RSTAT_ABORTED : Fld := ⟨.RG_RSTAT, 8, 1⟩
def RG_RSTAT_RESYNC_SEEN : Fld := ⟨.RG_RSTAT, 9, 1⟩
def RG_RSTAT_ALIGN_TIMEOUT : Fld := ⟨.RG_RSTAT, 10, 1⟩
def RG_RSTAT_RAMP_DENIED : Fld := ⟨.RG_RSTAT, 11, 1⟩
def RG_RSTAT_DONE : Fld := ⟨.RG_RSTAT, 12, 1⟩
/-! RG_RVAL (R201) -/
def RG_RVAL_RVAL : Fld := ⟨.RG_RVAL, 0, 32⟩
/-! RG_RSTART (R201) -/
def RG_RSTART_START : Fld := ⟨.RG_RSTART, 0, 32⟩
/-! RG_SEGEND (R201) -/
def RG_SEGEND_END : Fld := ⟨.RG_SEGEND, 0, 32⟩
/-! RG_SEGDUR (R201) -/
def RG_SEGDUR_DUR : Fld := ⟨.RG_SEGDUR, 0, 16⟩
/-! AS_ACTL (R267) -/
def AS_ACTL_SNAP : Fld := ⟨.AS_ACTL, 0, 1⟩
/-! AS_ASTAT (R267) -/
def AS_ASTAT_ZXOK : Fld := ⟨.AS_ASTAT, 0, 3⟩
def AS_ASTAT_ZX_LOST : Fld := ⟨.AS_ASTAT, 4, 3⟩
def AS_ASTAT_CLIP : Fld := ⟨.AS_ASTAT, 8, 8⟩
def AS_ASTAT_UNSAVED : Fld := ⟨.AS_ASTAT, 16, 1⟩
def AS_ASTAT_RECORD_LOST : Fld := ⟨.AS_ASTAT, 17, 1⟩
def AS_ASTAT_SNAPVALID : Fld := ⟨.AS_ASTAT, 18, 1⟩
def AS_ASTAT_SHORTWIN : Fld := ⟨.AS_ASTAT, 19, 1⟩
def AS_ASTAT_WIN_CAP : Fld := ⟨.AS_ASTAT, 20, 1⟩
def AS_ASTAT_REFCHG : Fld := ⟨.AS_ASTAT, 21, 1⟩
def AS_ASTAT_CLK_LOST : Fld := ⟨.AS_ASTAT, 22, 1⟩
def AS_ASTAT_WRITE_DENIED : Fld := ⟨.AS_ASTAT, 23, 1⟩
def AS_ASTAT_ADDR_UNMAPPED : Fld := ⟨.AS_ASTAT, 24, 1⟩
/-! AS_SNAPNUM (R267) -/
def AS_SNAPNUM_SNAPNUM : Fld := ⟨.AS_SNAPNUM, 0, 16⟩
/-! AS_LOSS (R267) -/
def AS_LOSS_LOSS : Fld := ⟨.AS_LOSS, 0, 32⟩
/-! AS_SAVESTAT (R267) -/
def AS_SAVESTAT_LASTKIND : Fld := ⟨.AS_SAVESTAT, 0, 3⟩
def AS_SAVESTAT_EARLYCNT : Fld := ⟨.AS_SAVESTAT, 8, 8⟩
def AS_SAVESTAT_FAILCNT : Fld := ⟨.AS_SAVESTAT, 16, 8⟩
/-! AS_MCFG (R267) -/
def AS_MCFG_NCYCM1 : Fld := ⟨.AS_MCFG, 0, 6⟩
def AS_MCFG_WINSRC : Fld := ⟨.AS_MCFG, 6, 1⟩
def AS_MCFG_PEN : Fld := ⟨.AS_MCFG, 7, 1⟩
def AS_MCFG_PSRC : Fld := ⟨.AS_MCFG, 8, 4⟩
def AS_MCFG_PW : Fld := ⟨.AS_MCFG, 16, 7⟩
/-! AS_SAVEINT (R267) -/
def AS_SAVEINT_SAVEINT : Fld := ⟨.AS_SAVEINT, 0, 16⟩
/-! AS_PMAX (R267) -/
def AS_PMAX_PMAX : Fld := ⟨.AS_PMAX, 0, 32⟩
/-! AS_PCONST (R267) -/
def AS_PCONST_PCONST : Fld := ⟨.AS_PCONST, 0, 32⟩
/-! AS_ZXCFG (R267) -/
def AS_ZXCFG_ZXTO : Fld := ⟨.AS_ZXCFG, 0, 10⟩
def AS_ZXCFG_ZXHYS : Fld := ⟨.AS_ZXCFG, 16, 8⟩
/-! AS_WCFG (R267) -/
def AS_WCFG_WUNIT : Fld := ⟨.AS_WCFG, 0, 4⟩
/-! AS_CHGAIN (R267) -/
def AS_CHGAIN_GAIN : Fld := ⟨.AS_CHGAIN, 0, 32⟩
/-! AS_CHOFS (R267) -/
def AS_CHOFS_OFS : Fld := ⟨.AS_CHOFS, 0, 24⟩
/-! AS_PHDLY (R267) -/
def AS_PHDLY_DLY : Fld := ⟨.AS_PHDLY, 0, 16⟩
/-! AS_QGAIN (R267) -/
def AS_QGAIN_GAIN : Fld := ⟨.AS_QGAIN, 0, 32⟩
/-! AS_QOFS (R267) -/
def AS_QOFS_OFS : Fld := ⟨.AS_QOFS, 0, 32⟩
/-! AS_RES (R267) -/
def AS_RES_VALUE : Fld := ⟨.AS_RES, 0, 32⟩
/-! AS_WNUM (R267) -/
def AS_WNUM_WNUM : Fld := ⟨.AS_WNUM, 0, 32⟩
/-! AS_EMLO (R267) -/
def AS_EMLO_MASTER : Fld := ⟨.AS_EMLO, 0, 32⟩
/-! AS_EMHI (R267) -/
def AS_EMHI_MASTER : Fld := ⟨.AS_EMHI, 0, 32⟩
/-! AS_EWIN (R267) -/
def AS_EWIN_EWIN : Fld := ⟨.AS_EWIN, 0, 32⟩
/-! AS_WRAPS (R267) -/
def AS_WRAPS_WRAPS : Fld := ⟨.AS_WRAPS, 0, 32⟩
/-! AS_S0CTL (R267) -/
def AS_S0CTL_EN : Fld := ⟨.AS_S0CTL, 0, 1⟩
def AS_S0CTL_DEB : Fld := ⟨.AS_S0CTL, 1, 6⟩
def AS_S0CTL_POL : Fld := ⟨.AS_S0CTL, 7, 1⟩
def AS_S0CTL_CHKR : Fld := ⟨.AS_S0CTL, 8, 4⟩
def AS_S0CTL_CHKWIN : Fld := ⟨.AS_S0CTL, 16, 11⟩
/-! AS_S0WGT (R267) -/
def AS_S0WGT_WGT : Fld := ⟨.AS_S0WGT, 0, 32⟩
/-! AS_S0TOL (R267) -/
def AS_S0TOL_TOL : Fld := ⟨.AS_S0TOL, 0, 16⟩
/-! AS_S0CNT (R267) -/
def AS_S0CNT_CNT : Fld := ⟨.AS_S0CNT, 0, 32⟩
/-! AS_S0CHK (R267) -/
def AS_S0CHK_DEV : Fld := ⟨.AS_S0CHK, 0, 32⟩
/-! AS_S0STAT (R267) -/
def AS_S0STAT_LEVEL : Fld := ⟨.AS_S0STAT, 0, 1⟩
def AS_S0STAT_S0_MISMATCH : Fld := ⟨.AS_S0STAT, 1, 1⟩
def AS_S0STAT_S0_RESTART : Fld := ⟨.AS_S0STAT, 2, 1⟩
def AS_S0STAT_CHECKS : Fld := ⟨.AS_S0STAT, 16, 16⟩
/-! AS_TPOCTL (R267) -/
def AS_TPOCTL_EN : Fld := ⟨.AS_TPOCTL, 0, 1⟩
def AS_TPOCTL_MODE : Fld := ⟨.AS_TPOCTL, 1, 2⟩
def AS_TPOCTL_SRC : Fld := ⟨.AS_TPOCTL, 3, 5⟩
def AS_TPOCTL_PW : Fld := ⟨.AS_TPOCTL, 8, 7⟩
/-! AS_TPOCONST (R267) -/
def AS_TPOCONST_CONST : Fld := ⟨.AS_TPOCONST, 0, 32⟩
/-! AS_TPOSTAT (R267) -/
def AS_TPOSTAT_BACKLOG : Fld := ⟨.AS_TPOSTAT, 0, 16⟩
def AS_TPOSTAT_OVERFLOW : Fld := ⟨.AS_TPOSTAT, 16, 1⟩
/-! AS_PSTAT (R267) -/
def AS_PSTAT_BACKLOG : Fld := ⟨.AS_PSTAT, 0, 16⟩
def AS_PSTAT_OVERFLOW : Fld := ⟨.AS_PSTAT, 16, 1⟩
/-! DR_DSTAT (R298) -/
def DR_DSTAT_SPAREMAP : Fld := ⟨.DR_DSTAT, 0, 16⟩
def DR_DSTAT_FAULTN : Fld := ⟨.DR_DSTAT, 16, 1⟩
def DR_DSTAT_SPARE_EXHAUSTED : Fld := ⟨.DR_DSTAT, 17, 1⟩
def DR_DSTAT_TCM_DENIED : Fld := ⟨.DR_DSTAT, 18, 1⟩
def DR_DSTAT_OWNRGN_DENIED : Fld := ⟨.DR_DSTAT, 19, 1⟩
def DR_DSTAT_PINFAULT : Fld := ⟨.DR_DSTAT, 20, 1⟩
def DR_DSTAT_WRITE_DENIED : Fld := ⟨.DR_DSTAT, 21, 1⟩
def DR_DSTAT_ADDR_UNMAPPED : Fld := ⟨.DR_DSTAT, 22, 1⟩
def DR_DSTAT_PINNUM : Fld := ⟨.DR_DSTAT, 24, 6⟩
def DR_DSTAT_NSPARE : Fld := ⟨.DR_DSTAT, 30, 2⟩
/-! DR_TESTCTL (R298) -/
def DR_TESTCTL_TESTINT : Fld := ⟨.DR_TESTCTL, 0, 8⟩
def DR_TESTCTL_GRACE : Fld := ⟨.DR_TESTCTL, 8, 6⟩
def DR_TESTCTL_NIGHTPREF : Fld := ⟨.DR_TESTCTL, 14, 1⟩
def DR_TESTCTL_TESTFRAME : Fld := ⟨.DR_TESTCTL, 16, 6⟩
def DR_TESTCTL_LOCK : Fld := ⟨.DR_TESTCTL, 31, 1⟩
/-! DR_PCTL (R299) -/
def DR_PCTL_MODEREQ : Fld := ⟨.DR_PCTL, 0, 3⟩
def DR_PCTL_MODE_DENIED : Fld := ⟨.DR_PCTL, 4, 1⟩
def DR_PCTL_JOIN_FORCED : Fld := ⟨.DR_PCTL, 5, 1⟩
def DR_PCTL_RECOVERY_FAILED : Fld := ⟨.DR_PCTL, 6, 1⟩
/-! DR_PSTATE (R299) -/
def DR_PSTATE_STATE : Fld := ⟨.DR_PSTATE, 0, 3⟩
def DR_PSTATE_UNPROTECTED : Fld := ⟨.DR_PSTATE, 3, 1⟩
def DR_PSTATE_PARTNER : Fld := ⟨.DR_PSTATE, 4, 4⟩
def DR_PSTATE_HALTED : Fld := ⟨.DR_PSTATE, 8, 1⟩
def DR_PSTATE_DEBUG : Fld := ⟨.DR_PSTATE, 9, 1⟩
/-! DR_PFAULT (R299) -/
def DR_PFAULT_CAUSE : Fld := ⟨.DR_PFAULT, 0, 4⟩
def DR_PFAULT_LANE : Fld := ⟨.DR_PFAULT, 4, 10⟩
/-! DR_PSTAMP (R299) -/
def DR_PSTAMP_STAMP : Fld := ⟨.DR_PSTAMP, 0, 32⟩
/-! DR_PCOUNT (R299) -/
def DR_PCOUNT_TAKEOVERS : Fld := ⟨.DR_PCOUNT, 0, 8⟩
def DR_PCOUNT_FAILCNT : Fld := ⟨.DR_PCOUNT, 8, 2⟩
def DR_PCOUNT_ECCCORR : Fld := ⟨.DR_PCOUNT, 16, 8⟩
def DR_PCOUNT_ICPAR : Fld := ⟨.DR_PCOUNT, 24, 8⟩
/-! DR_PLOG (R299) -/
def DR_PLOG_LOGMAX : Fld := ⟨.DR_PLOG, 0, 13⟩
def DR_PLOG_JNLMAX : Fld := ⟨.DR_PLOG, 16, 11⟩
def DR_PLOG_CLRMAX : Fld := ⟨.DR_PLOG, 31, 1⟩
/-! DR_OWNRGN (R299) -/
def DR_OWNRGN_BASE : Fld := ⟨.DR_OWNRGN, 0, 16⟩
def DR_OWNRGN_SIZE : Fld := ⟨.DR_OWNRGN, 16, 4⟩
def DR_OWNRGN_EN : Fld := ⟨.DR_OWNRGN, 31, 1⟩
/-! IC_SRCCFG (R309) -/
def IC_SRCCFG_PRIO : Fld := ⟨.IC_SRCCFG, 0, 3⟩
def IC_SRCCFG_TARGET : Fld := ⟨.IC_SRCCFG, 4, 5⟩
def IC_SRCCFG_GROUP : Fld := ⟨.IC_SRCCFG, 16, 6⟩
def IC_SRCCFG_GROUPED : Fld := ⟨.IC_SRCCFG, 22, 1⟩
/-! IC_SCTL (R309) -/
def IC_SCTL_GDIS : Fld := ⟨.IC_SCTL, 0, 1⟩
def IC_SCTL_THRESH : Fld := ⟨.IC_SCTL, 1, 3⟩
/-! IC_CLAIM (R309) -/
def IC_CLAIM_ID : Fld := ⟨.IC_CLAIM, 0, 11⟩
/-! IC_COMPLETE (R309) -/
def IC_COMPLETE_ID : Fld := ⟨.IC_COMPLETE, 0, 10⟩
/-! IC_SSTAT (R309) -/
def IC_SSTAT_REQ : Fld := ⟨.IC_SSTAT, 0, 1⟩
def IC_SSTAT_CFG_DENIED : Fld := ⟨.IC_SSTAT, 1, 1⟩
def IC_SSTAT_COMPLETE_DENIED : Fld := ⟨.IC_SSTAT, 2, 1⟩
def IC_SSTAT_MERGECNT : Fld := ⟨.IC_SSTAT, 16, 16⟩
/-! IC_PEND (R309) -/
def IC_PEND_PEND : Fld := ⟨.IC_PEND, 0, 32⟩
/-! IC_GCFG (R309) -/
def IC_GCFG_EN : Fld := ⟨.IC_GCFG, 0, 1⟩
def IC_GCFG_FLUSH : Fld := ⟨.IC_GCFG, 1, 1⟩
def IC_GCFG_GSLICE : Fld := ⟨.IC_GCFG, 8, 5⟩
def IC_GCFG_COUNT : Fld := ⟨.IC_GCFG, 16, 8⟩
/-! IC_GSTAT (R309) -/
def IC_GSTAT_TIME : Fld := ⟨.IC_GSTAT, 0, 16⟩
def IC_GSTAT_HELD : Fld := ⟨.IC_GSTAT, 16, 8⟩
def IC_GSTAT_RELEASES : Fld := ⟨.IC_GSTAT, 24, 8⟩
/-! FM_FSTAT (R329) -/
def FM_FSTAT_SF1OPEN : Fld := ⟨.FM_FSTAT, 0, 1⟩
def FM_FSTAT_SF3DEM : Fld := ⟨.FM_FSTAT, 1, 2⟩
def FM_FSTAT_SF2INH : Fld := ⟨.FM_FSTAT, 4, 8⟩
def FM_FSTAT_FST_FAIL : Fld := ⟨.FM_FSTAT, 12, 1⟩
def FM_FSTAT_OUT_FAIL : Fld := ⟨.FM_FSTAT, 13, 1⟩
def FM_FSTAT_MIR_FAIL : Fld := ⟨.FM_FSTAT, 14, 1⟩
def FM_FSTAT_SEAL_PENDING : Fld := ⟨.FM_FSTAT, 15, 1⟩
def FM_FSTAT_NOPARAM : Fld := ⟨.FM_FSTAT, 16, 1⟩
def FM_FSTAT_PARAM_PENDING : Fld := ⟨.FM_FSTAT, 17, 1⟩
def FM_FSTAT_BT_DUE : Fld := ⟨.FM_FSTAT, 18, 1⟩
def FM_FSTAT_FAULTN : Fld := ⟨.FM_FSTAT, 19, 1⟩
def FM_FSTAT_SAFEPAIR_ACT : Fld := ⟨.FM_FSTAT, 20, 4⟩
/-! FM_FSAFEN (R329) -/
def FM_FSAFEN_PR : Fld := ⟨.FM_FSAFEN, 0, 8⟩
def FM_FSAFEN_SF1 : Fld := ⟨.FM_FSAFEN, 8, 1⟩
def FM_FSAFEN_BRK : Fld := ⟨.FM_FSAFEN, 9, 2⟩
def FM_FSAFEN_NOT : Fld := ⟨.FM_FSAFEN, 16, 16⟩
/-! FM_FCMD (R329) -/
def FM_FCMD_KA : Fld := ⟨.FM_FCMD, 0, 1⟩
def FM_FCMD_KB : Fld := ⟨.FM_FCMD, 1, 1⟩
def FM_FCMD_DCD : Fld := ⟨.FM_FCMD, 2, 1⟩
def FM_FCMD_BRK : Fld := ⟨.FM_FCMD, 3, 2⟩
/-! FM_FCLR (R329) -/
def FM_FCLR_CLR : Fld := ⟨.FM_FCLR, 0, 1⟩
/-! FM_FOUT (R329) -/
def FM_FOUT_NODE : Fld := ⟨.FM_FOUT, 0, 5⟩
def FM_FOUT_KRB : Fld := ⟨.FM_FOUT, 8, 2⟩
def FM_FOUT_BRB : Fld := ⟨.FM_FOUT, 10, 2⟩
def FM_FOUT_OUTFAILMAP : Fld := ⟨.FM_FOUT, 16, 5⟩
/-! FM_FCAUSE (R329) -/
def FM_FCAUSE_LIMIT : Fld := ⟨.FM_FCAUSE, 0, 8⟩
def FM_FCAUSE_CANARY : Fld := ⟨.FM_FCAUSE, 8, 1⟩
def FM_FCAUSE_SAFEN_EXPIRED : Fld := ⟨.FM_FCAUSE, 9, 1⟩
def FM_FCAUSE_SAFEN_DENIED : Fld := ⟨.FM_FCAUSE, 10, 1⟩
def FM_FCAUSE_ESCALATED : Fld := ⟨.FM_FCAUSE, 11, 1⟩
def FM_FCAUSE_PAIRFAULT : Fld := ⟨.FM_FCAUSE, 12, 1⟩
def FM_FCAUSE_SEAL_CHANGED : Fld := ⟨.FM_FCAUSE, 13, 1⟩
def FM_FCAUSE_BT_FAIL : Fld := ⟨.FM_FCAUSE, 14, 1⟩
def FM_FCAUSE_CLEAR_DENIED : Fld := ⟨.FM_FCAUSE, 15, 1⟩
def FM_FCAUSE_CMD_DENIED : Fld := ⟨.FM_FCAUSE, 16, 1⟩
def FM_FCAUSE_WRITE_DENIED : Fld := ⟨.FM_FCAUSE, 17, 1⟩
def FM_FCAUSE_BT_DENIED : Fld := ⟨.FM_FCAUSE, 18, 1⟩
def FM_FCAUSE_ADDR_UNMAPPED : Fld := ⟨.FM_FCAUSE, 19, 1⟩
/-! FM_FSTAMP (R329) -/
def FM_FSTAMP_STAMP : Fld := ⟨.FM_FSTAMP, 0, 32⟩
/-! FM_SEAL (R329) -/
def FM_SEAL_SEALIN : Fld := ⟨.FM_SEAL, 0, 12⟩
def FM_SEAL_SEALREF : Fld := ⟨.FM_SEAL, 16, 12⟩
/-! FM_BTEST (R329) -/
def FM_BTEST_REQ : Fld := ⟨.FM_BTEST, 0, 2⟩
def FM_BTEST_BUSY : Fld := ⟨.FM_BTEST, 2, 2⟩
def FM_BTEST_PASS : Fld := ⟨.FM_BTEST, 4, 2⟩
def FM_BTEST_BTAGE0 : Fld := ⟨.FM_BTEST, 16, 8⟩
def FM_BTEST_BTAGE1 : Fld := ⟨.FM_BTEST, 24, 8⟩
/-! FM_FLIM (R329) -/
def FM_FLIM_VIOL : Fld := ⟨.FM_FLIM, 0, 8⟩
def FM_FLIM_TRIPPED : Fld := ⟨.FM_FLIM, 8, 8⟩
/-! FM_FMONV0 (R329) -/
def FM_FMONV0_VA : Fld := ⟨.FM_FMONV0, 0, 16⟩
def FM_FMONV0_VB : Fld := ⟨.FM_FMONV0, 16, 16⟩
/-! FM_FMONV1 (R329) -/
def FM_FMONV1_VC : Fld := ⟨.FM_FMONV1, 0, 16⟩
/-! FM_FMONF (R329) -/
def FM_FMONF_FREQ : Fld := ⟨.FM_FMONF, 0, 32⟩
/-! BK_BKSTAT (R356) -/
def BK_BKSTAT_LCSTATE : Fld := ⟨.BK_BKSTAT, 0, 3⟩
def BK_BKSTAT_RESTRICTED : Fld := ⟨.BK_BKSTAT, 3, 1⟩
def BK_BKSTAT_TAMPERED : Fld := ⟨.BK_BKSTAT, 4, 1⟩
def BK_BKSTAT_ZEROISING : Fld := ⟨.BK_BKSTAT, 5, 1⟩
def BK_BKSTAT_LAMP_LOST : Fld := ⟨.BK_BKSTAT, 6, 1⟩
def BK_BKSTAT_STEPDIGIT : Fld := ⟨.BK_BKSTAT, 8, 4⟩
def BK_BKSTAT_STEPLETTER : Fld := ⟨.BK_BKSTAT, 12, 4⟩
/-! BK_DEVID (R356) -/
def BK_DEVID_ID : Fld := ⟨.BK_DEVID, 0, 32⟩
/-! BK_SLOTMAP0 (R356) -/
def BK_SLOTMAP0_FILLED : Fld := ⟨.BK_SLOTMAP0, 0, 32⟩
/-! BK_SLOTMAP1 (R356) -/
def BK_SLOTMAP1_FILLED : Fld := ⟨.BK_SLOTMAP1, 0, 32⟩
/-! BK_TAMPSTAT (R356) -/
def BK_TAMPSTAT_MESH : Fld := ⟨.BK_TAMPSTAT, 0, 1⟩
def BK_TAMPSTAT_VGLITCH : Fld := ⟨.BK_TAMPSTAT, 1, 1⟩
def BK_TAMPSTAT_CGLITCH : Fld := ⟨.BK_TAMPSTAT, 2, 1⟩
def BK_TAMPSTAT_TEMP : Fld := ⟨.BK_TAMPSTAT, 3, 1⟩
def BK_TAMPSTAT_ACK_NEEDED : Fld := ⟨.BK_TAMPSTAT, 4, 1⟩
/-! BK_TAMPCNT (R356) -/
def BK_TAMPCNT_ENTRIES : Fld := ⟨.BK_TAMPCNT, 0, 16⟩
def BK_TAMPCNT_GLITCHES : Fld := ⟨.BK_TAMPCNT, 16, 16⟩
/-! BK_ADITSTAT (R356) -/
def BK_ADITSTAT_OPEN : Fld := ⟨.BK_ADITSTAT, 0, 1⟩
def BK_ADITSTAT_OPENER : Fld := ⟨.BK_ADITSTAT, 1, 3⟩
def BK_ADITSTAT_CLOSEWHY : Fld := ⟨.BK_ADITSTAT, 4, 4⟩
def BK_ADITSTAT_MINLEFT : Fld := ⟨.BK_ADITSTAT, 16, 16⟩
/-! EX_MBCTL (R379) -/
def EX_MBCTL_CLAIM : Fld := ⟨.EX_MBCTL, 0, 1⟩
def EX_MBCTL_GO : Fld := ⟨.EX_MBCTL, 1, 1⟩
def EX_MBCTL_RELEASE : Fld := ⟨.EX_MBCTL, 2, 1⟩
def EX_MBCTL_KIND : Fld := ⟨.EX_MBCTL, 3, 1⟩
def EX_MBCTL_PAIR : Fld := ⟨.EX_MBCTL, 8, 4⟩
def EX_MBCTL_CLAIMED : Fld := ⟨.EX_MBCTL, 12, 1⟩
/-! EX_MBSTAT (R379) -/
def EX_MBSTAT_BUSY : Fld := ⟨.EX_MBSTAT, 0, 1⟩
def EX_MBSTAT_DONE : Fld := ⟨.EX_MBSTAT, 1, 1⟩
def EX_MBSTAT_WRITE_DENIED : Fld := ⟨.EX_MBSTAT, 2, 1⟩
def EX_MBSTAT_REASON : Fld := ⟨.EX_MBSTAT, 8, 8⟩
/-! EX_MBLEN (R379) -/
def EX_MBLEN_INLEN : Fld := ⟨.EX_MBLEN, 0, 13⟩
def EX_MBLEN_OUTLEN : Fld := ⟨.EX_MBLEN, 16, 13⟩
/-! EX_EXSTAT (R379) -/
def EX_EXSTAT_TIMESRC : Fld := ⟨.EX_EXSTAT, 0, 2⟩
def EX_EXSTAT_FALLBACK : Fld := ⟨.EX_EXSTAT, 2, 1⟩
def EX_EXSTAT_SETFAIL : Fld := ⟨.EX_EXSTAT, 3, 1⟩
def EX_EXSTAT_STEPFAIL : Fld := ⟨.EX_EXSTAT, 4, 1⟩
def EX_EXSTAT_MISSING : Fld := ⟨.EX_EXSTAT, 5, 1⟩
def EX_EXSTAT_IMGBUSY : Fld := ⟨.EX_EXSTAT, 6, 1⟩
def EX_EXSTAT_WRITE_DENIED : Fld := ⟨.EX_EXSTAT, 7, 1⟩
def EX_EXSTAT_ADDR_UNMAPPED : Fld := ⟨.EX_EXSTAT, 8, 1⟩
def EX_EXSTAT_QUEUED : Fld := ⟨.EX_EXSTAT, 9, 3⟩
def EX_EXSTAT_ACTIVEB : Fld := ⟨.EX_EXSTAT, 16, 6⟩
/-! EX_EXCNT (R379) -/
def EX_EXCNT_ACCEPTED : Fld := ⟨.EX_EXCNT, 0, 16⟩
def EX_EXCNT_REFUSED : Fld := ⟨.EX_EXCNT, 16, 16⟩
/-! EX_ARBSTEP0 (R379) -/
def EX_ARBSTEP0_ARB1 : Fld := ⟨.EX_ARBSTEP0, 0, 7⟩
def EX_ARBSTEP0_ARB2 : Fld := ⟨.EX_ARBSTEP0, 8, 7⟩
def EX_ARBSTEP0_ARB3 : Fld := ⟨.EX_ARBSTEP0, 16, 7⟩
def EX_ARBSTEP0_ARB4 : Fld := ⟨.EX_ARBSTEP0, 24, 7⟩
/-! EX_ARBSTEP1 (R379) -/
def EX_ARBSTEP1_ARB5 : Fld := ⟨.EX_ARBSTEP1, 0, 7⟩
def EX_ARBSTEP1_ARB6 : Fld := ⟨.EX_ARBSTEP1, 8, 7⟩
/-! EX_TIMESTAT (R379) -/
def EX_TIMESTAT_TOL : Fld := ⟨.EX_TIMESTAT, 0, 32⟩
/-! EX_CFGVAL (R379) -/
def EX_CFGVAL_VALUE : Fld := ⟨.EX_CFGVAL, 0, 32⟩
/-! EX_CFGMIN (R379) -/
def EX_CFGMIN_MIN : Fld := ⟨.EX_CFGMIN, 0, 32⟩
/-! EX_CFGMAX (R379) -/
def EX_CFGMAX_MAX : Fld := ⟨.EX_CFGMAX, 0, 32⟩
/-! EX_CFGSRC (R379) -/
def EX_CFGSRC_ROLE : Fld := ⟨.EX_CFGSRC, 0, 3⟩
def EX_CFGSRC_SEQLO : Fld := ⟨.EX_CFGSRC, 16, 16⟩
/-! WI_WCTL (R391) -/
def WI_WCTL_SRC : Fld := ⟨.WI_WCTL, 0, 1⟩
/-! WI_WSTAT (R391) -/
def WI_WSTAT_REF_LOST : Fld := ⟨.WI_WSTAT, 0, 1⟩
def WI_WSTAT_CFG_DENIED : Fld := ⟨.WI_WSTAT, 1, 1⟩
def WI_WSTAT_ADDR_UNMAPPED : Fld := ⟨.WI_WSTAT, 2, 1⟩
/-! WI_SCTL (R391) -/
def WI_SCTL_EN : Fld := ⟨.WI_SCTL, 0, 1⟩
/-! WI_SSTAT (R391) -/
def WI_SSTAT_LOCKED : Fld := ⟨.WI_SSTAT, 0, 1⟩
def WI_SSTAT_PHASELOCK : Fld := ⟨.WI_SSTAT, 1, 1⟩
def WI_SSTAT_FMON_ERR : Fld := ⟨.WI_SSTAT, 2, 1⟩
/-! WI_SSCFG (R391) -/
def WI_SSCFG_MODE : Fld := ⟨.WI_SSCFG, 0, 2⟩
def WI_SSCFG_SSAMT : Fld := ⟨.WI_SSCFG, 2, 5⟩
def WI_SSCFG_SSRATE : Fld := ⟨.WI_SSCFG, 8, 9⟩
/-! WI_RCTL (R391) -/
def WI_RCTL_GO : Fld := ⟨.WI_RCTL, 0, 1⟩
def WI_RCTL_STOP : Fld := ⟨.WI_RCTL, 1, 1⟩
def WI_RCTL_STARTSRC : Fld := ⟨.WI_RCTL, 2, 1⟩
def WI_RCTL_REPEAT : Fld := ⟨.WI_RCTL, 3, 1⟩
def WI_RCTL_NSEG : Fld := ⟨.WI_RCTL, 4, 4⟩
/-! WI_RSTAT (R391) -/
def WI_RSTAT_STATE : Fld := ⟨.WI_RSTAT, 0, 3⟩
def WI_RSTAT_SEG : Fld := ⟨.WI_RSTAT, 4, 4⟩
def WI_RSTAT_FREQ : Fld := ⟨.WI_RSTAT, 8, 19⟩
/-! WI_RSEG (R391) -/
def WI_RSEG_RFEND : Fld := ⟨.WI_RSEG, 0, 19⟩
def WI_RSEG_RDUR : Fld := ⟨.WI_RSEG, 20, 12⟩
/-! WI_OCTL (R391) -/
def WI_OCTL_EN : Fld := ⟨.WI_OCTL, 0, 1⟩
def WI_OCTL_FMT : Fld := ⟨.WI_OCTL, 1, 2⟩
def WI_OCTL_SEL : Fld := ⟨.WI_OCTL, 3, 3⟩
def WI_OCTL_DIV : Fld := ⟨.WI_OCTL, 8, 8⟩
/-! PR_PWRCTL (R405) -/
def PR_PWRCTL_REQ : Fld := ⟨.PR_PWRCTL, 0, 2⟩
def PR_PWRCTL_NPAIR0 : Fld := ⟨.PR_PWRCTL, 4, 4⟩
def PR_PWRCTL_NPAIR1 : Fld := ⟨.PR_PWRCTL, 8, 4⟩
/-! PR_PWRSTAT (R405) -/
def PR_PWRSTAT_STATE : Fld := ⟨.PR_PWRSTAT, 0, 2⟩
def PR_PWRSTAT_PENDING : Fld := ⟨.PR_PWRSTAT, 2, 1⟩
def PR_PWRSTAT_PWR_DENIED : Fld := ⟨.PR_PWRSTAT, 3, 1⟩
def PR_PWRSTAT_LASTWAKE : Fld := ⟨.PR_PWRSTAT, 4, 3⟩
def PR_PWRSTAT_ADDR_UNMAPPED : Fld := ⟨.PR_PWRSTAT, 7, 1⟩
/-! PR_WAKECFG (R405) -/
def PR_WAKECFG_CLKEN : Fld := ⟨.PR_WAKECFG, 0, 1⟩
def PR_WAKECFG_GRIDEN : Fld := ⟨.PR_WAKECFG, 1, 1⟩
def PR_WAKECFG_RSTEN : Fld := ⟨.PR_WAKECFG, 2, 1⟩
def PR_WAKECFG_WAKEV : Fld := ⟨.PR_WAKECFG, 8, 7⟩
def PR_WAKECFG_WAKET : Fld := ⟨.PR_WAKECFG, 16, 10⟩
/-! PR_WAKEAT (R405) -/
def PR_WAKEAT_SECONDS : Fld := ⟨.PR_WAKEAT, 0, 32⟩
/-! PR_RAILSTAT (R405) -/
def PR_RAILSTAT_FAULT : Fld := ⟨.PR_RAILSTAT, 0, 10⟩
def PR_RAILSTAT_BROWNOUT : Fld := ⟨.PR_RAILSTAT, 10, 1⟩
/-! RS_RSTCTL (R421) -/
def RS_RSTCTL_SCOPE : Fld := ⟨.RS_RSTCTL, 0, 2⟩
def RS_RSTCTL_PAIR : Fld := ⟨.RS_RSTCTL, 4, 4⟩
def RS_RSTCTL_KEY : Fld := ⟨.RS_RSTCTL, 16, 16⟩
/-! RS_RSTSTAT (R421) -/
def RS_RSTSTAT_LASTCAUSE : Fld := ⟨.RS_RSTSTAT, 0, 4⟩
def RS_RSTSTAT_LASTSCOPE : Fld := ⟨.RS_RSTSTAT, 4, 2⟩
def RS_RSTSTAT_LASTPAIR : Fld := ⟨.RS_RSTSTAT, 8, 4⟩
def RS_RSTSTAT_RST_DENIED : Fld := ⟨.RS_RSTSTAT, 12, 1⟩
def RS_RSTSTAT_ADDR_UNMAPPED : Fld := ⟨.RS_RSTSTAT, 13, 1⟩
def RS_RSTSTAT_OPTFAIL : Fld := ⟨.RS_RSTSTAT, 14, 1⟩
def RS_RSTSTAT_OPTFALLBACK : Fld := ⟨.RS_RSTSTAT, 15, 1⟩
/-! RS_RSTREL (R421) -/
def RS_RSTREL_REL : Fld := ⟨.RS_RSTREL, 0, 7⟩
def RS_RSTREL_RELEASED : Fld := ⟨.RS_RSTREL, 8, 7⟩
def RS_RSTREL_CLK_WAIT : Fld := ⟨.RS_RSTREL, 16, 7⟩
/-! RS_RSTCNT (R421) -/
def RS_RSTCNT_CNT0 : Fld := ⟨.RS_RSTCNT, 0, 16⟩
def RS_RSTCNT_CNT1 : Fld := ⟨.RS_RSTCNT, 16, 16⟩
/-! RS_RSTTOT (R421) -/
def RS_RSTTOT_TOTAL : Fld := ⟨.RS_RSTTOT, 0, 32⟩
/-! RS_OPTIMG (R421) -/
def RS_OPTIMG_BYTES : Fld := ⟨.RS_OPTIMG, 0, 32⟩
/-! RS_WDTCTL (R421) -/
def RS_WDTCTL_EN : Fld := ⟨.RS_WDTCTL, 0, 1⟩
def RS_WDTCTL_TO : Fld := ⟨.RS_WDTCTL, 1, 10⟩
def RS_WDTCTL_WARNED : Fld := ⟨.RS_WDTCTL, 11, 1⟩
/-! RS_WDTKICK (R421) -/
def RS_WDTKICK_KEY : Fld := ⟨.RS_WDTKICK, 0, 16⟩
/-! RS_PADREL (R422) -/
def RS_PADREL_BANK : Fld := ⟨.RS_PADREL, 0, 6⟩
def RS_PADREL_HELD : Fld := ⟨.RS_PADREL, 8, 6⟩
/-! LA_LCTL (R437) -/
def LA_LCTL_VMAX : Fld := ⟨.LA_LCTL, 0, 7⟩
def LA_LCTL_CHGI : Fld := ⟨.LA_LCTL, 8, 4⟩
def LA_LCTL_MPPF : Fld := ⟨.LA_LCTL, 16, 7⟩
/-! LA_LSTAT (R437) -/
def LA_LSTAT_LSTART : Fld := ⟨.LA_LSTAT, 0, 1⟩
def LA_LSTAT_GASPREADY : Fld := ⟨.LA_LSTAT, 1, 1⟩
def LA_LSTAT_CAPVALID : Fld := ⟨.LA_LSTAT, 2, 1⟩
def LA_LSTAT_STORE_SMALL : Fld := ⟨.LA_LSTAT, 3, 1⟩
def LA_LSTAT_PATH : Fld := ⟨.LA_LSTAT, 4, 2⟩
def LA_LSTAT_CHARGING : Fld := ⟨.LA_LSTAT, 6, 1⟩
def LA_LSTAT_GRANT_REFUSED : Fld := ⟨.LA_LSTAT, 7, 1⟩
def LA_LSTAT_WRITE_DENIED : Fld := ⟨.LA_LSTAT, 8, 1⟩
def LA_LSTAT_ADDR_UNMAPPED : Fld := ⟨.LA_LSTAT, 9, 1⟩
/-! LA_GAUGE (R437) -/
def LA_GAUGE_E : Fld := ⟨.LA_GAUGE, 0, 24⟩
/-! LA_GHELD (R437) -/
def LA_GHELD_HELD : Fld := ⟨.LA_GHELD, 0, 24⟩
def LA_GHELD_GRANTS : Fld := ⟨.LA_GHELD, 24, 3⟩
/-! LA_GFLOOR (R437) -/
def LA_GFLOOR_KEEP : Fld := ⟨.LA_GFLOOR, 0, 16⟩
/-! LA_CAP (R437) -/
def LA_CAP_C : Fld := ⟨.LA_CAP, 0, 16⟩
def LA_CAP_VSTORE : Fld := ⟨.LA_CAP, 16, 16⟩
/-! LA_RTCLO (R437) -/
def LA_RTCLO_COUNT : Fld := ⟨.LA_RTCLO, 0, 32⟩
/-! LA_RTCHI (R437) -/
def LA_RTCHI_COUNT : Fld := ⟨.LA_RTCHI, 0, 32⟩
/-! LA_RETAIN (R437) -/
def LA_RETAIN_WORD : Fld := ⟨.LA_RETAIN, 0, 32⟩
/-! SE_SCTL (R452) -/
def SE_SCTL_EN : Fld := ⟨.SE_SCTL, 0, 1⟩
/-! SE_SSTAT (R452) -/
def SE_SSTAT_DROPSEEN : Fld := ⟨.SE_SSTAT, 0, 1⟩
def SE_SSTAT_TRIG_REFUSED : Fld := ⟨.SE_SSTAT, 1, 1⟩
def SE_SSTAT_HOLD_LIMIT : Fld := ⟨.SE_SSTAT, 2, 1⟩
def SE_SSTAT_RING_DENIED : Fld := ⟨.SE_SSTAT, 3, 1⟩
def SE_SSTAT_WRITE_DENIED : Fld := ⟨.SE_SSTAT, 4, 1⟩
def SE_SSTAT_ADDR_UNMAPPED : Fld := ⟨.SE_SSTAT, 5, 1⟩
/-! SE_WPTR (R452) -/
def SE_WPTR_OFFSET : Fld := ⟨.SE_WPTR, 0, 32⟩
/-! SE_RINGWRAP (R452) -/
def SE_RINGWRAP_WRAPS : Fld := ⟨.SE_RINGWRAP, 0, 32⟩
/-! SE_HOLD (R452) -/
def SE_HOLD_HELDMB : Fld := ⟨.SE_HOLD, 0, 9⟩
/-! SE_MEMSTAT (R452) -/
def SE_MEMSTAT_SRAM_CORR : Fld := ⟨.SE_MEMSTAT, 0, 1⟩
def SE_MEMSTAT_SRAM_UNCORR : Fld := ⟨.SE_MEMSTAT, 1, 1⟩
def SE_MEMSTAT_FLASH_CORR : Fld := ⟨.SE_MEMSTAT, 2, 1⟩
def SE_MEMSTAT_FLASH_UNCORR : Fld := ⟨.SE_MEMSTAT, 3, 1⟩
def SE_MEMSTAT_FLASH_DENIED : Fld := ⟨.SE_MEMSTAT, 4, 1⟩
def SE_MEMSTAT_SRAMCNT : Fld := ⟨.SE_MEMSTAT, 16, 8⟩
def SE_MEMSTAT_FLASHCNT : Fld := ⟨.SE_MEMSTAT, 24, 8⟩
/-! SE_MEMERRA (R452) -/
def SE_MEMERRA_ADDR : Fld := ⟨.SE_MEMERRA, 0, 32⟩
/-! SE_STRCFG (R452) -/
def SE_STRCFG_EN : Fld := ⟨.SE_STRCFG, 0, 1⟩
def SE_STRCFG_CREW : Fld := ⟨.SE_STRCFG, 2, 6⟩
def SE_STRCFG_SEL : Fld := ⟨.SE_STRCFG, 8, 8⟩
def SE_STRCFG_CREDIT : Fld := ⟨.SE_STRCFG, 16, 8⟩
def SE_STRCFG_FLUSH : Fld := ⟨.SE_STRCFG, 24, 8⟩
/-! SE_STRSTAT (R452) -/
def SE_STRSTAT_LEFT : Fld := ⟨.SE_STRSTAT, 0, 8⟩
def SE_STRSTAT_OPEN : Fld := ⟨.SE_STRSTAT, 8, 1⟩
def SE_STRSTAT_DROPPING : Fld := ⟨.SE_STRSTAT, 9, 1⟩
def SE_STRSTAT_BURSTS : Fld := ⟨.SE_STRSTAT, 16, 16⟩
/-! SE_STRDROP (R452) -/
def SE_STRDROP_DROPS : Fld := ⟨.SE_STRDROP, 0, 32⟩
/-! SE_STRPUT (R452) -/
def SE_STRPUT_WORD : Fld := ⟨.SE_STRPUT, 0, 32⟩
/-! SE_TRGCFG (R452) -/
def SE_TRGCFG_PRE : Fld := ⟨.SE_TRGCFG, 0, 16⟩
def SE_TRGCFG_POST : Fld := ⟨.SE_TRGCFG, 16, 16⟩
/-! SE_TRGCTL (R452) -/
def SE_TRGCTL_EN : Fld := ⟨.SE_TRGCTL, 0, 1⟩
def SE_TRGCTL_FIRE : Fld := ⟨.SE_TRGCTL, 1, 1⟩
def SE_TRGCTL_RELEASE : Fld := ⟨.SE_TRGCTL, 2, 1⟩
def SE_TRGCTL_RETRIG : Fld := ⟨.SE_TRGCTL, 3, 1⟩
/-! SE_CAPSTART (R452) -/
def SE_CAPSTART_OFFSET : Fld := ⟨.SE_CAPSTART, 0, 32⟩
/-! SE_CAPEND (R452) -/
def SE_CAPEND_OFFSET : Fld := ⟨.SE_CAPEND, 0, 32⟩
/-! SE_CAPSTAT (R452) -/
def SE_CAPSTAT_STATE : Fld := ⟨.SE_CAPSTAT, 0, 2⟩
def SE_CAPSTAT_PRE_SHORT : Fld := ⟨.SE_CAPSTAT, 2, 1⟩
def SE_CAPSTAT_END_SHORT : Fld := ⟨.SE_CAPSTAT, 3, 1⟩
def SE_CAPSTAT_TRIG_BUSY : Fld := ⟨.SE_CAPSTAT, 4, 1⟩
def SE_CAPSTAT_FIRES : Fld := ⟨.SE_CAPSTAT, 16, 16⟩
/-! SE_DRCFG (R452) -/
def SE_DRCFG_EN : Fld := ⟨.SE_DRCFG, 0, 1⟩
def SE_DRCFG_GO : Fld := ⟨.SE_DRCFG, 1, 1⟩
def SE_DRCFG_STOP : Fld := ⟨.SE_DRCFG, 2, 1⟩
def SE_DRCFG_DEST : Fld := ⟨.SE_DRCFG, 3, 1⟩
def SE_DRCFG_SRC : Fld := ⟨.SE_DRCFG, 4, 2⟩
def SE_DRCFG_CAP : Fld := ⟨.SE_DRCFG, 6, 4⟩
def SE_DRCFG_CREW : Fld := ⟨.SE_DRCFG, 10, 6⟩
def SE_DRCFG_QUEUE : Fld := ⟨.SE_DRCFG, 16, 8⟩
/-! SE_DRSRC (R452) -/
def SE_DRSRC_ADDR : Fld := ⟨.SE_DRSRC, 0, 32⟩
/-! SE_DRLEN (R452) -/
def SE_DRLEN_LEN : Fld := ⟨.SE_DRLEN, 0, 32⟩
/-! SE_DRDST (R452) -/
def SE_DRDST_ADDR : Fld := ⟨.SE_DRDST, 0, 32⟩
/-! SE_DRPTR (R452) -/
def SE_DRPTR_OFFSET : Fld := ⟨.SE_DRPTR, 0, 32⟩
/-! SE_DRSTAT (R452) -/
def SE_DRSTAT_BUSY : Fld := ⟨.SE_DRSTAT, 0, 1⟩
def SE_DRSTAT_DONE : Fld := ⟨.SE_DRSTAT, 1, 1⟩
def SE_DRSTAT_DRAIN_OVERRUN : Fld := ⟨.SE_DRSTAT, 2, 1⟩
def SE_DRSTAT_DRAIN_DENIED : Fld := ⟨.SE_DRSTAT, 3, 1⟩
def SE_DRSTAT_SKIPPED : Fld := ⟨.SE_DRSTAT, 16, 16⟩
/-! UH_UCTL (R477) -/
def UH_UCTL_EN : Fld := ⟨.UH_UCTL, 0, 1⟩
def UH_UCTL_RANK : Fld := ⟨.UH_UCTL, 1, 4⟩
def UH_UCTL_MFLAG : Fld := ⟨.UH_UCTL, 5, 1⟩
def UH_UCTL_MAXAGE : Fld := ⟨.UH_UCTL, 16, 16⟩
/-! UH_UGID (R477) -/
def UH_UGID_GID : Fld := ⟨.UH_UGID, 0, 16⟩
/-! UH_USTAT (R477) -/
def UH_USTAT_MASTER : Fld := ⟨.UH_USTAT, 0, 1⟩
def UH_USTAT_RINGOK : Fld := ⟨.UH_USTAT, 1, 1⟩
def UH_USTAT_ISOLATED : Fld := ⟨.UH_USTAT, 2, 1⟩
def UH_USTAT_RANK_CONFLICT : Fld := ⟨.UH_USTAT, 3, 1⟩
def UH_USTAT_SV_DUP : Fld := ⟨.UH_USTAT, 4, 1⟩
def UH_USTAT_CFG_DENIED : Fld := ⟨.UH_USTAT, 5, 1⟩
def UH_USTAT_CLEAR_DENIED : Fld := ⟨.UH_USTAT, 6, 1⟩
def UH_USTAT_ADDR_UNMAPPED : Fld := ⟨.UH_USTAT, 7, 1⟩
def UH_USTAT_MRANK : Fld := ⟨.UH_USTAT, 8, 4⟩
def UH_USTAT_PRESENT : Fld := ⟨.UH_USTAT, 16, 16⟩
/-! UH_UPORT (R477) -/
def UH_UPORT_STATE : Fld := ⟨.UH_UPORT, 0, 2⟩
def UH_UPORT_LOOPBACK : Fld := ⟨.UH_UPORT, 2, 1⟩
def UH_UPORT_GID_MISMATCH : Fld := ⟨.UH_UPORT, 3, 1⟩
def UH_UPORT_DELAY : Fld := ⟨.UH_UPORT, 8, 24⟩
/-! UH_UTRIPCFG (R477) -/
def UH_UTRIPCFG_TXSRC : Fld := ⟨.UH_UTRIPCFG, 0, 3⟩
def UH_UTRIPCFG_TXMASK : Fld := ⟨.UH_UTRIPCFG, 8, 8⟩
def UH_UTRIPCFG_RXMASK : Fld := ⟨.UH_UTRIPCFG, 16, 8⟩
/-! UH_UTRIPGO (R477) -/
def UH_UTRIPGO_MASK : Fld := ⟨.UH_UTRIPGO, 0, 8⟩
def UH_UTRIPGO_GO : Fld := ⟨.UH_UTRIPGO, 8, 1⟩
def UH_UTRIPGO_HOLD : Fld := ⟨.UH_UTRIPGO, 9, 1⟩
/-! UH_UTRIP (R477) -/
def UH_UTRIP_UTRIP : Fld := ⟨.UH_UTRIP, 0, 8⟩
/-! UH_RINGLAT (R477) -/
def UH_RINGLAT_LAT : Fld := ⟨.UH_RINGLAT, 0, 16⟩
/-! UH_UPROBE (R477) -/
def UH_UPROBE_SEQ : Fld := ⟨.UH_UPROBE, 0, 16⟩
def UH_UPROBE_WIN : Fld := ⟨.UH_UPROBE, 16, 16⟩
/-! UH_UPROBERX (R477) -/
def UH_UPROBERX_SEQ : Fld := ⟨.UH_UPROBERX, 0, 16⟩
def UH_UPROBERX_WIN : Fld := ⟨.UH_UPROBERX, 16, 16⟩
/-! UH_UERR (R477) -/
def UH_UERR_CRCERR : Fld := ⟨.UH_UERR, 0, 8⟩
def UH_UERR_POISONED : Fld := ⟨.UH_UERR, 8, 8⟩
def UH_UERR_TRIPERR : Fld := ⟨.UH_UERR, 16, 8⟩
def UH_UERR_MCHG : Fld := ⟨.UH_UERR, 24, 8⟩
/-! UH_USVCFG (R477) -/
def UH_USVCFG_EN : Fld := ⟨.UH_USVCFG, 0, 1⟩
def UH_USVCFG_SRC : Fld := ⟨.UH_USVCFG, 1, 1⟩
def UH_USVCFG_ID : Fld := ⟨.UH_USVCFG, 2, 6⟩
/-! UH_USVPUT (R477) -/
def UH_USVPUT_VALUE : Fld := ⟨.UH_USVPUT, 0, 32⟩
/-! UH_USVVAL (R477) -/
def UH_USVVAL_VALUE : Fld := ⟨.UH_USVVAL, 0, 32⟩
/-! UH_USVINFO (R477) -/
def UH_USVINFO_STALE : Fld := ⟨.UH_USVINFO, 0, 1⟩
def UH_USVINFO_RANK : Fld := ⟨.UH_USVINFO, 1, 4⟩
def UH_USVINFO_AGE : Fld := ⟨.UH_USVINFO, 16, 16⟩
/-! ET_ETHCTL (R478) -/
def ET_ETHCTL_MODE : Fld := ⟨.ET_ETHCTL, 0, 2⟩
def ET_ETHCTL_SPEED : Fld := ⟨.ET_ETHCTL, 2, 2⟩
def ET_ETHCTL_GNOMATCH : Fld := ⟨.ET_ETHCTL, 4, 1⟩
def ET_ETHCTL_GDEFQ : Fld := ⟨.ET_ETHCTL, 5, 2⟩
def ET_ETHCTL_PTPQ : Fld := ⟨.ET_ETHCTL, 7, 2⟩
/-! ET_ETHSTAT (R478) -/
def ET_ETHSTAT_LINK : Fld := ⟨.ET_ETHSTAT, 0, 1⟩
def ET_ETHSTAT_GDROP : Fld := ⟨.ET_ETHSTAT, 16, 16⟩
/-! ET_RXLAT (R478) -/
def ET_RXLAT_LAT : Fld := ⟨.ET_RXLAT, 0, 16⟩
/-! ET_TXLAT (R478) -/
def ET_TXLAT_LAT : Fld := ⟨.ET_TXLAT, 0, 16⟩
/-! ET_GFLT (R478) -/
def ET_GFLT_APPID : Fld := ⟨.ET_GFLT, 0, 16⟩
def ET_GFLT_QUEUE : Fld := ⟨.ET_GFLT, 16, 2⟩
def ET_GFLT_EN : Fld := ⟨.ET_GFLT, 31, 1⟩
/-! ET_PTPADJ (R478) -/
def ET_PTPADJ_ADJ : Fld := ⟨.ET_PTPADJ, 0, 32⟩
/-! ET_PTPSTEP (R478) -/
def ET_PTPSTEP_STEP : Fld := ⟨.ET_PTPSTEP, 0, 32⟩
/-! ET_TARGET (R478) -/
def ET_TARGET_TIME : Fld := ⟨.ET_TARGET, 0, 32⟩
/-! ET_PTPTRUST (R478) -/
def ET_PTPTRUST_EN : Fld := ⟨.ET_PTPTRUST, 0, 1⟩
def ET_PTPTRUST_LOCK : Fld := ⟨.ET_PTPTRUST, 1, 1⟩
def ET_PTPTRUST_TRUSTED : Fld := ⟨.ET_PTPTRUST, 2, 1⟩
def ET_PTPTRUST_TRUST_DENIED : Fld := ⟨.ET_PTPTRUST, 3, 1⟩
def ET_PTPTRUST_PPSEN : Fld := ⟨.ET_PTPTRUST, 4, 1⟩
/-! ET_GMID (R478) -/
def ET_GMID_ID : Fld := ⟨.ET_GMID, 0, 32⟩
/-! GP_GPIOCFG (R479) -/
def GP_GPIOCFG_DIR : Fld := ⟨.GP_GPIOCFG, 0, 1⟩
def GP_GPIOCFG_OD : Fld := ⟨.GP_GPIOCFG, 1, 1⟩
def GP_GPIOCFG_PULL : Fld := ⟨.GP_GPIOCFG, 2, 2⟩
def GP_GPIOCFG_DRIVE : Fld := ⟨.GP_GPIOCFG, 4, 4⟩
def GP_GPIOCFG_IRQ : Fld := ⟨.GP_GPIOCFG, 8, 3⟩
def GP_GPIOCFG_DUAL : Fld := ⟨.GP_GPIOCFG, 11, 1⟩
/-! GP_GPIOIN (R479) -/
def GP_GPIOIN_IN : Fld := ⟨.GP_GPIOIN, 0, 32⟩
/-! GP_GPIOOUT (R479) -/
def GP_GPIOOUT_OUT : Fld := ⟨.GP_GPIOOUT, 0, 32⟩
/-! AS_SNAPIMG (R267) -/
def AS_SNAPIMG_WORD : Fld := ⟨.AS_SNAPIMG, 0, 32⟩
/-! EX_MBDATA (R379) -/
def EX_MBDATA_WORD : Fld := ⟨.EX_MBDATA, 0, 32⟩

end Sys2Proof.Machine
end

