-- ==== Sys2Proof/Machine/Sparse.lean ====
section
/-! DEFINITION. Sparse tables: a list of (key, value) pairs in one canonical form, keys strictly rising, with no entry equal to
what an unlisted key reads as. Registers and memory are held this way. -/

namespace Sys2Proof.Machine

/-- The entry of a key, if it is listed. -/
def sparseFind {α : Type} (a : Nat) : List (Nat × α) → Option α
  | [] => none
  | (b, v) :: l => if a = b then some v else sparseFind a l

/-- List `v` at key `a`, in its place. -/
def sparseInsert {α : Type} (a : Nat) (v : α) : List (Nat × α) → List (Nat × α)
  | [] => [(a, v)]
  | (b, w) :: l =>
    if a < b then (a, v) :: (b, w) :: l
    else if a = b then (a, v) :: l
    else (b, w) :: sparseInsert a v l

/-- Take key `a` out of the list. -/
def sparseErase {α : Type} (a : Nat) (l : List (Nat × α)) : List (Nat × α) :=
  l.filter (fun p => p.1 != a)

/-- Give key `a` the value `v`, where an unlisted `a` reads as `d`: the one writing operation, which keeps the canonical form. -/
def sparseSet {α : Type} [DecidableEq α] (a : Nat) (d v : α) (l : List (Nat × α)) : List (Nat × α) :=
  if v = d then sparseErase a l else sparseInsert a v l

/-- Keys strictly rising. -/
def sparseSorted {α : Type} : List (Nat × α) → Bool
  | [] => true
  | [_] => true
  | (a, _) :: (b, w) :: l => a < b && sparseSorted ((b, w) :: l)

end Sys2Proof.Machine
end

