-- ==== Sys2Proof/Machine/Crc.lean ====
section
/-! DEFINITION. CRC-32 with the IEEE 802.3 polynomial (R281, R414, R459) and the Modbus CRC-16 (R475). -/

namespace Sys2Proof.Machine

/-- One bit of the reflected CRC-32. -/
def crc32Bit (c : BitVec 32) : BitVec 32 :=
  if c.getLsbD 0 then (c >>> 1) ^^^ 0xEDB88320#32 else c >>> 1

/-- One byte of the reflected CRC-32. -/
def crc32Byte (c : BitVec 32) (b : BitVec 8) : BitVec 32 :=
  let x := c ^^^ b.zeroExtend 32
  crc32Bit (crc32Bit (crc32Bit (crc32Bit (crc32Bit (crc32Bit (crc32Bit (crc32Bit x)))))))

/-- CRC-32 of bytes, continued from the register value `c`. -/
def crc32From (c : BitVec 32) (l : List (BitVec 8)) : BitVec 32 := l.foldl crc32Byte c

/-- CRC-32 of bytes. -/
def crc32 (l : List (BitVec 8)) : BitVec 32 := ~~~(crc32From (~~~0#32) l)

/-- One bit of the Modbus CRC-16. -/
def crc16Bit (c : BitVec 16) : BitVec 16 :=
  if c.getLsbD 0 then (c >>> 1) ^^^ 0xA001#16 else c >>> 1

/-- One byte of the Modbus CRC-16. -/
def crc16Byte (c : BitVec 16) (b : BitVec 8) : BitVec 16 :=
  let x := c ^^^ b.zeroExtend 16
  crc16Bit (crc16Bit (crc16Bit (crc16Bit (crc16Bit (crc16Bit (crc16Bit (crc16Bit x)))))))

/-- CRC-16 of a Modbus RTU frame. -/
def crc16 (l : List (BitVec 8)) : BitVec 16 := l.foldl crc16Byte 0xFFFF#16

end Sys2Proof.Machine
end

