-- ==== Sys2Proof/Machine/State.lean ====
section
/-! DEFINITION. The state of the module, the reasons a command can stop, and the state after reset. -/

namespace Sys2Proof.Machine

/-- The reasons for which a run faults: no command of the table stops a run, because the module answers a bad access on its bus and goes on (R4, R438). -/
inductive Fault where
  /-- Raised by no command. -/
  | none
deriving DecidableEq, Repr

/-- The reasons for which a command is refused by the model. -/
inductive Refusal where
  /-- Raised by `exec` for a command that has no meaning yet: safe, nothing is claimed of it. -/
  | notModelled (mnemonic : String)
deriving DecidableEq, Repr

/-- The answer of the bus to the last access (the model's own field): the data read and how the access completed (R4, R438). -/
inductive Resp where
  | ok
  | accessFault
  | errorStatus
deriving DecidableEq, Repr

/-- The last bus answer. -/
structure Bus where
  data : Word
  resp : Resp
deriving DecidableEq, Repr

/-- The whole module. -/
structure State where
  /-- Commands waiting, first in, first out. -/
  pending : List Instr
  /-- The 4 ns time counter (R146), counted without end. -/
  now : Nat
  /-- The register file: (place, value), an unlisted register at its reset value; `RegId.key` numbers the places. -/
  regs : List (Nat × Word)
  /-- The W1C bits set in the last tick that set any, by register key, and that tick (R3). -/
  fresh : Nat × List (Nat × Word)
  /-- The latched copies of the groups of R503, in the same form. -/
  latched : List (Nat × Word)
  /-- The memories (R438), an unlisted byte reading 0. -/
  mem : List Host.Cell
  /-- Armed deadlines. -/
  timers : List (Timer × Nat)
  /-- The last bus answer. -/
  bus : Bus
  /-- The next free value: the model's own counter. -/
  freeIdx : Nat
  head : HeadU
  plan : PlanU
  drift : DriftU
  intc : IntcU
  seam : SeamU
  power : PowerU
  pick : PickU
  sense : SenseU
  fm : FmU
  lamp : LampU
  assay : AssayU
  bank : BankU
  uhla : UhlaU
  winder : WinderU
  supply : SupplyU
  host : HostU
deriving DecidableEq, Repr

/-- A domain after reset: at angle 0, OFF. -/
def DomU.reset : DomU := ⟨0, 0, 0, 0, none, 0, 0, none, none, 0, none, []⟩

/-- The Headframe after reset. -/
def HeadU.reset : HeadU := ⟨Vector.replicate 4 DomU.reset, Vector.replicate 256 0, [], 0⟩

/-- A crew's plan after reset. -/
def CrewPlan.reset : CrewPlan := ⟨0, 0, 0, 0, 0, 0, 0, 0, 0⟩

/-- The Shift plan after reset. -/
def PlanU.reset : PlanU := ⟨Vector.replicate 64 CrewPlan.reset, Vector.replicate 16 0, 0, 0, 0, 0, none, none, false, none, [], [], Vector.replicate 2 0, 0⟩

/-- A core after reset: every register 0 (log entry 3). -/
def CoreRegs.reset : CoreRegs := ⟨Vector.replicate 32 0, Vector.replicate 32 0, [], 0, 0, false⟩

/-- A core after reset. -/
def CoreU.reset : CoreU := ⟨CoreRegs.reset, none, false, 0⟩

/-- A Drift pair after reset. -/
def DriftPairU.reset : DriftPairU :=
  { core0 := CoreU.reset, core1 := CoreU.reset, turnCap := Vector.replicate 4 0, retired := 0, buf0 := none, buf1 := none,
    current := false, storing := none, log := [], overflow := false, journal := [], egress := 0, egressCrc := 0, faulted := false,
    faultAt := 0, mate := none, routedSlice := none, afterTest := 0, lastTest := 0, inPlace := false, joining := 0, missed := none, tcm := none
    stuck := false }

/-- The interrupt unit after reset. -/
def IntcU.reset : IntcU := ⟨[], [], Vector.replicate 17 false⟩

/-- The Seam recorder after reset. -/
def SeamU.reset : SeamU :=
  ⟨Vector.replicate 64 ⟨[], none, 0, 0, [], ⟨0, 0, [], false, none⟩⟩, Vector.replicate 16 ⟨0, 0, 0⟩, Vector.replicate 2 ⟨0, 0, 0, []⟩, 0, [], 0,
    Vector.replicate 4 0⟩

/-- An output after reset: no command, off. -/
def OutU.reset : OutU := ⟨false, false, none, false, false, true, 4, 4⟩

/-- A channel after reset. -/
def ChanU.reset : ChanU := ⟨OutU.reset, OutU.reset, false, false, 0, 0, 0, none, false, Vector.replicate 4 0, none, none, none, false, (0, false)⟩

/-- A carrier group after reset. -/
def GroupU.reset : GroupU := ⟨false, 0, 0, 0, 0, none, none, 0, 0⟩

/-- The Winder's ramp and PWM clock after reset. -/
def WinderU.reset : WinderU := ⟨250000, 0, 0, 0, Vector.replicate 4 (.low, .low), 0, 0⟩

/-- A Canary window after reset. -/
def WinU.reset : WinU := ⟨⟨false, 0⟩, ⟨false, 0⟩, none, 0⟩

/-- The power stage after reset. -/
def PowerU.reset : PowerU :=
  ⟨Vector.replicate 48 ChanU.reset, Vector.replicate 8 GroupU.reset, Vector.replicate 8 ⟨none, none, false, none, none⟩, Vector.replicate 24 ⟨0, 0⟩,
    Vector.replicate 96 WinU.reset⟩

/-- A reference program's memory after a LOAD: every word 0, tracking toward decreasing voltage (R198), NORMAL (R217). -/
def RefMem.initial : RefMem :=
  { dcb := ⟨0, 0, 0, 0, 0, 0, 0, 0, false, 0⟩
    acr :=
      { th1 := none, th2 := none, sq := Vector.replicate 3 [], dq := [], hcSum := Vector.replicate 3 0, hcN := 0, hc := Vector.replicate 3 0
        parts := [], half := 0, part := 0, pre := 0, state := 0, stay := 0, jumped := false, turned := 0, limFrom := 0, idFf := 0, probeD := 0
        isl := ⟨0, 0, 0, 0, 0, 0, false⟩
        probe := ⟨0, 0, 0, (0, 0), (0, 0), 0, true, false, (0, 0, 0), [], 0, 0, 0, false, false, false, false⟩ }
    aco := ⟨0, 0, 0⟩ }

/-- A Pick engine after reset: no program. -/
def EngU.reset : EngU := ⟨none, none, none, Vector.replicate 3 none, [], RefMem.initial, false⟩

/-- The Pick engines after reset. -/
def PickU.reset : PickU := ⟨[], Vector.replicate 96 EngU.reset, Vector.replicate 48 ⟨[], none, false⟩, [], Vector.replicate 3 ⟨0, 15, []⟩⟩

/-- A slice after reset. -/
def SliceU.reset : SliceU := ⟨0, 0, 0, 0, 0, none, none, 0, none, none⟩

/-- Sensing after reset. -/
def SenseU.reset : SenseU :=
  ⟨Vector.replicate 32 ⟨0, 0, 0, 0, false, 0⟩, Vector.replicate 240 SliceU.reset, Vector.replicate 120 ⟨none, []⟩, Vector.replicate 24 0,
    Vector.replicate 24 none, Vector.replicate 32 0, none, []⟩

/-- The Foreman after reset: no parameter block (R324). -/
def FmU.reset : FmU :=
  { param := none, next := none, live := Vector.replicate 5 false, drive := Vector.replicate 5 false,
    pulse := Vector.replicate 5 false, limits := Vector.replicate 8 ⟨0, 0⟩, va := [], vb := [], vc := [], fresh := 0, straps := [],
    freq := ⟨none, 0, false, 0, false, none, none⟩, nodeAt := Vector.replicate 5 0, driveAt := Vector.replicate 5 0,
    hours := Vector.replicate 2 255, faultN := true, resetDemand := false }

/-- The Lamp domain as it starts without its validity pattern (R426): every item at its reset value. -/
def LampU.reset : LampU :=
  { powered := true, rtc := 0, rtcAt := 0, rtcSet := none, counters := Vector.replicate 32 0, log := [], entries := 0, glitches := 0,
    glitchAt := [], breach := false, meshBreach := false, ackNeeded := false, lost := true, slot0 := none, slot1 := none, grants := [], ocv := 0 }

/-- The Assay before a start (R258). -/
def AssayU.reset : AssayU :=
  { running := false, tune := 0, res := Vector.replicate 6 (0, 0), fund := Vector.replicate 6 [], hist := Vector.replicate 8 [],
    cross := Vector.replicate 3 ⟨0, false, 0, 1, 0, none⟩, tick := 0, ref := none,
    crossings := 0, firstCross := none, lastCross := none, periods := 0, count := 0, squares := Vector.replicate 8 0,
    active := Vector.replicate 3 0, reactive := Vector.replicate 3 0, ivCount := 0, sp := Vector.replicate 3 0,
    sq := Vector.replicate 3 0, residues := Vector.replicate 16 0, snapDue := false, closeDue := none, cal := none, calstamp := 0,
    save := none, savedTotal := 0, acc := Vector.replicate 9 0, pulseAt := Vector.replicate 9 none,
    s0win := Vector.replicate 4 ⟨0, 0⟩, s0pin := Vector.replicate 4 ⟨false, 0, false⟩ }

/-- The Uhla link after reset. -/
def UhlaU.reset : UhlaU :=
  { trips := [], seq := 0, sentAt := 0, returned := true, seen := Vector.replicate 16 [], arrived := Vector.replicate 8 none, sfn := 0
    received := false, lost := none, lastValid := 0, present := Vector.replicate 2 0, flagged := Vector.replicate 2 0, txAt := none, handover := none
    reqm := false, upSince := none, markers := Vector.replicate 8 none, pstart := false, profileAt := none
    stepNext := Vector.replicate 4 false, published := Vector.replicate 256 ⟨0, none, []⟩, receivedAt := Vector.replicate 256 none
    locked := false, portAt := Vector.replicate 2 0, badAt := Vector.replicate 2 [], lanes := 4, sent := [] }

/-- The default option block of R415 with a generation, as the MAKER state writes it into both copies (R416). -/
def defaultOption (gen : Nat) : List Byte :=
  let b : List Byte := [1] ++ List.replicate 15 0 ++ [0x20, 0xA1, 0x07, 0x00, 0, 0, BitVec.ofNat 8 gen, BitVec.ofNat 8 (gen / 256)]
    ++ List.replicate 36 0
  let c := (crc32 b).toNat
  b ++ [BitVec.ofNat 8 c, BitVec.ofNat 8 (c / 256), BitVec.ofNat 8 (c / 65536), BitVec.ofNat 8 (c / 16777216)]

/-- The Banksman of a module as shipped (R12): INTEGRATE, the MAKER keys and the device identity keys, no other key, the Banksman image. -/
def BankU.shipped : BankU :=
  { fuses := #v[true, true, false, false, false]
    devId := (Config.sha384 (Config.publicKey 2 (Config.makerKey 0)) ++ List.replicate 48 0).take 16
    lc := 2, tampered := false, zeroising := false, stepDigit := 1, stepLetter := 2, arb := Vector.replicate 6 0
    slots := Vector.ofFn (fun k : Fin 64 => if k.val < 4 then some ⟨Config.makerKey k.val, 2, 0⟩ else none)
    certs := Config.identityCerts
    imageA := (Vector.replicate 6 none).set 0 (some Config.shippedBanksman), imageB := Vector.replicate 6 none, activeB := Vector.replicate 6 false
    startB := Vector.replicate 6 false, serial := 0
    marks := Vector.replicate 32 65536, waitMarks := [], revoked := [], groups := [], queue := [], lastStart := none, running := none
    accepted := [], replies := [], writing := none, schedule := [], adit := none, tap := 0, tapOut := 0, tapPins := 0, mesh := 0, meshFails := 0
    zeroise := false, zeroWait := false, returnEntry := false, fuse := none, resetAsked := false, sealSet := false, uart := false
    uartIn := [] }

/-- The supply after reset: VAUX has just become valid, the first rail starts, no step of the release order is complete; the Foreman is still in reset; the option block copies are the
default block that the MAKER state writes (R415, R416). -/
def SupplyU.reset : SupplyU :=
  { place := 0, vaux := true, brownout := false, step := 1, scope := 0, resetAt := 0, pairAt := none, request := none, requestAt := 0,
    optA := defaultOption 1, optB := defaultOption 2, padCfg := [], bootFail := false
    railFrom := (Vector.replicate 10 none).set 0 (some 0) }

/-- The host links after reset (log entry 83). -/
def HostU.reset : HostU :=
  { ptp := 0, ptpAt := 0, rxq := Vector.replicate 8 [], txq := Vector.replicate 16 ⟨0, [], []⟩, rxErrors := Vector.replicate 2 0
    sent := Vector.replicate 2 [], txStamp := Vector.replicate 2 0, syncAt := none, lockAt := none, barred := false, pps := none
    canRx := Vector.replicate 4 [], canTx := Vector.replicate 4 [], canErr := Vector.replicate 4 0
    uarts := Vector.replicate 6 ⟨[], [], false, false, []⟩, spiRx := Vector.replicate 4 0, spiTx := Vector.replicate 4 0
    i2c := Vector.replicate 2 [], rgmiiLow := Vector.replicate 2 false }

/-- The Foreman's periodic deadlines from the release of the mixed-signal die on, in ticks (R312, R313, R321, R322, R325). -/
def fmTimers : List (Timer × Nat) :=
  [(.fmSample, 3907), (.fmSeal, 0), (.fmTest, 2500000), (.fmClock, 250000), (.brakeHour 0, 900000000000), (.brakeHour 1, 900000000000)]

/-- The Lamp domain's periodic deadlines with VAUX valid and the module in RUN (R349, R432). -/
def lampTimers : List (Timer × Nat) := [(.mesh, 25000), (.gauge, 250000)]

/-- The module after reset. -/
def State.reset : State :=
  { pending := []
    now := 0
    regs := []
    fresh := (0, [])
    latched := []
    mem := []
    timers := lampTimers ++ fmTimers
    bus := ⟨0, .ok⟩
    freeIdx := 0
    head := HeadU.reset
    plan := PlanU.reset
    drift := ⟨Vector.replicate 16 DriftPairU.reset⟩
    intc := IntcU.reset
    seam := SeamU.reset
    power := PowerU.reset
    pick := PickU.reset
    sense := SenseU.reset
    fm := FmU.reset
    lamp := { LampU.reset with lost := false }
    assay := AssayU.reset
    bank := BankU.shipped
    uhla := UhlaU.reset
    winder := WinderU.reset
    supply := SupplyU.reset
    host := HostU.reset }

end Sys2Proof.Machine
end

