-- ==== Sys2Proof/Machine/Ops.lean ====
section
/-! DEFINITION. The named operations every meaning is written over: registers and their fields (R1 to R5), memory bytes (R438),
deadlines and time (R146), tables of like units. -/

namespace Sys2Proof.Machine

/-- The outcome of a command. -/
abbrev Out := Host.Outcome State Fault Refusal

/-! ### Tables of like units -/

/-- Change one entry of a table. -/
def upd {α : Type} {n : Nat} (v : Vector α n) (i : Fin n) (f : α → α) : Vector α n :=
  v.set i.val (f v[i]) i.isLt

/-- A vector with one component replaced, where the index is in range. -/
def setAt {α : Type} {n : Nat} (v : Vector α n) (k : Nat) (x : α) : Vector α n := if h : k < n then v.set k x h else v

/-! ### Fields of a word -/

/-- The bits `lo … lo + width - 1` of a word. -/
def bits (w : Word) (lo width : Nat) : Nat :=
  (w >>> lo).toNat % 2 ^ width

/-- A word with the bits `lo … lo + width - 1` replaced by `v`. -/
def setBits (w : Word) (lo width v : Nat) : Word :=
  let m : Word := BitVec.ofNat 32 (2 ^ width - 1) <<< lo
  (w &&& ~~~m) ||| ((BitVec.ofNat 32 v <<< lo) &&& m)

/-- One bit of a word. -/
def bit (w : Word) (i : Nat) : Bool :=
  w.getLsbD i

/-- The mask of a list of bits. -/
def maskOf (l : List Nat) : Nat := l.foldl (fun m k => m ||| 2 ^ k) 0

/-- A field of a word a master writes. -/
def Fld.of (f : Fld) (w : Word) : Nat :=
  bits w f.lo f.width

/-- A word with a field replaced. -/
def Fld.into (f : Fld) (w : Word) (v : Nat) : Word :=
  setBits w f.lo f.width v

/-- The mask of a field. -/
def Fld.mask (f : Fld) : Word :=
  BitVec.ofNat 32 (2 ^ f.width - 1) <<< f.lo

/-! ### The register file -/

/-- The address of copy `(i, j)` of a register. -/
def RegId.addr (r : RegId) (i j : Nat) : Nat :=
  r.reg.base + (i - r.reg.f1) * r.reg.s1 + j * r.reg.s2

/-- Bits [32n+31:32n] of the device identifier of a module as shipped: the first 16 bytes of SHA-384 of the public key of slot 0 (R339). -/
def shippedId (n : Nat) : Word :=
  let l := ((Config.sha384 (Config.publicKey 2 (Config.makerKey 0))).take 16).map BitVec.toNat
  BitVec.ofNat 32 (l.getD (4 * n) 0 + 256 * (l.getD (4 * n + 1) 0 + 256 * (l.getD (4 * n + 2) 0 + 256 * l.getD (4 * n + 3) 0)))

/-- The reset value of copy `(i, j)`: the table's; SCTL.EN of synthesizer 0, SYS, is 1 (R391); the fields From OTP and From key store read
what a module as shipped holds: INTEGRATE, stepping 1 B, slots 0 to 3 filled, its identifier (R12, R356). -/
def RegId.resetWord (r : RegId) (i _j : Nat) : Word :=
  match r with
  | .WI_SCTL => if i = 0 then BitVec.ofNat 32 (r.reg.reset ||| 1) else BitVec.ofNat 32 r.reg.reset
  | .BK_BKSTAT => 0x2102
  | .BK_SLOTMAP0 => 0xF
  | .BK_DEVID => shippedId i
  | _ => BitVec.ofNat 32 r.reg.reset

/-- Whether a register has a copy `(i, j)`. -/
def RegId.has (r : RegId) (i j : Nat) : Bool :=
  decide (r.reg.f1 ≤ i ∧ i < r.reg.f1 + r.reg.n1 ∧ j < r.reg.n2)

/-- The place of copy `(i, j)` of a register in the register file's list. -/
def RegId.key (r : RegId) (i j : Nat) : Nat :=
  r.ctorIdx * 2 ^ 24 + i * 2 ^ 12 + j

/-- The stored word of a register. -/
def State.rdw (s : State) (r : RegId) (i j : Nat := 0) : Word :=
  (sparseFind (r.key i j) s.regs).getD (r.resetWord i j)

/-- Store a word in a register; there is nothing to store where the register has no such copy. -/
def State.wrw (s : State) (r : RegId) (v : Word) (i j : Nat := 0) : State :=
  { s with regs := if r.has i j then sparseSet (r.key i j) (r.resetWord i j) v s.regs else s.regs }

/-- The value of a field. -/
def State.get (s : State) (f : Fld) (i j : Nat := 0) : Nat :=
  f.of (s.rdw f.reg i j)

/-- The W1C bits set in tick `t`, with the bits `m` of the register of key `k` among them (R3). -/
def freshAdd (t k : Nat) (m : Word) (fr : Nat × List (Nat × Word)) : Nat × List (Nat × Word) :=
  if m = 0 then fr else (t, (k, m) :: if fr.1 = t then fr.2 else [])

/-- Note the W1C bits `m` of copy `(i, j)` of a register as set in this tick (R3). -/
def State.note (s : State) (r : RegId) (m : Word) (i j : Nat := 0) : State :=
  { s with fresh := freshAdd s.now (r.key i j) m s.fresh }

/-- The W1C bits that a value of a field sets. -/
def Fld.sets (f : Fld) (v : Nat) : Word := f.into 0 v &&& BitVec.ofNat 32 f.reg.reg.w1c

/-- Store a field, the register's other bits unchanged; a one-bit W1C field that is set is noted (R3). -/
def State.put (s : State) (f : Fld) (v : Nat) (i j : Nat := 0) : State :=
  (s.wrw f.reg (f.into (s.rdw f.reg i j) v) i j).note f.reg (if f.width = 1 then f.sets v else 0) i j

/-- A one-bit field read as a truth value. -/
def State.on (s : State) (f : Fld) (i j : Nat := 0) : Bool :=
  s.get f i j != 0

/-- Count up by `n`, wrapping at the field's width. -/
def State.bump (s : State) (f : Fld) (i j : Nat := 0) (n : Nat := 1) : State :=
  s.put f (s.get f i j + n) i j

/-- Count up by `n`, saturating at the field's largest value. -/
def State.bumpSat (s : State) (f : Fld) (i j : Nat := 0) (n : Nat := 1) : State :=
  s.put f (min (s.get f i j + n) (2 ^ f.width - 1)) i j

/-- Set the field's bits named by `v`; W1C bits among them are noted (R3). -/
def State.orPut (s : State) (f : Fld) (v : Nat) (i j : Nat := 0) : State :=
  (s.wrw f.reg (f.into (s.rdw f.reg i j) (s.get f i j ||| v)) i j).note f.reg (f.sets v) i j

/-- The bits of a register that were set in this tick. -/
def State.freshBits (s : State) (r : RegId) (i j : Nat := 0) : Word :=
  if s.fresh.1 = s.now then (s.fresh.2.filter (fun p => p.1 == r.key i j)).foldl (fun m p => m ||| p.2) 0 else 0

/-- A written word as it acts: a W1C bit that was set in this tick stays set (R3). -/
def State.settle (s : State) (r : RegId) (v : Word) (i j : Nat := 0) : Word :=
  v &&& ~~~(s.freshBits r i j &&& BitVec.ofNat 32 r.reg.w1c)

/-- The register, copy and word an address names. -/
def regAtIn (a : Nat) (r : RegId) : Option (RegId × Nat × Nat) :=
  let g := r.reg
  if a < g.base then none
  else
    let off := a - g.base
    let i := if g.s1 = 0 then 0 else off / g.s1
    let rest := off - i * g.s1
    let j := if g.s2 = 0 then 0 else rest / g.s2
    if i < g.n1 ∧ j < g.n2 ∧ rest = j * g.s2 then some (r, g.f1 + i, j) else none

/-- The registers that a 64 KiB page can hold, so that an address is looked up among its own unit's. -/
def regsNear (a : Nat) : List RegId :=
  match a / 0x10000 with
  | 0x4000 => regsHF ++ regsEV
  | 0x4001 => regsSP
  | 0x4002 => regsWI
  | 0x4010 | 0x4012 | 0x4013 => regsPW
  | 0x4014 => regsCG
  | 0x4020 => regsSN
  | 0x4028 => regsCN
  | 0x4030 | 0x4031 | 0x4032 => regsPK
  | 0x4033 => regsBLK ++ regsRG
  | 0x4040 => regsAS
  | 0x4048 => regsIC
  | 0x4050 => regsSE
  | 0x4060 => regsET
  | 0x4064 => regsRS ++ regsGP
  | 0x4070 => regsUH
  | 0x4080 => regsRS ++ regsPR ++ regsDR
  | 0x4081 => regsLA
  | 0x4090 => regsFM
  | 0x40A0 => regsBK ++ regsEX
  | _ => []

/-- The register copy at an address, if the address is one. -/
def regAt (a : Nat) : Option (RegId × Nat × Nat) :=
  (regsNear a).findSome? (regAtIn a)

/-- The register copy of a place in the register file's list. -/
def regOfKey (k : Nat) : Option (RegId × Nat × Nat) :=
  let r := RegId.ofNat (k / 2 ^ 24)
  let i := k / 2 ^ 12 % 2 ^ 12
  let j := k % 2 ^ 12
  if r.ctorIdx = k / 2 ^ 24 && r.has i j then some (r, i, j) else none

/-- The canonical form of the register file: places strictly rising, every place a register copy's, no entry at its reset value. -/
def regsWf (l : List (Nat × Word)) : Bool :=
  sparseSorted l && l.all (fun p =>
    match regOfKey p.1 with
    | some (r, i, j) => p.2 != r.resetWord i j
    | none => false)

/-- Return every register of the classes `cs`, and what is latched of them, to its reset value (R5, R503). -/
def State.resetRegs (s : State) (cs : RegClass → Bool) : State :=
  let keep (p : Nat × Word) : Bool :=
    match regOfKey p.1 with
    | some (r, _, _) => !cs r.reg.cls
    | none => false
  { s with regs := s.regs.filter keep, latched := s.latched.filter keep }

/-! ### Memory -/

/-- The images in the pairs' TCM (R420). -/
def State.tcms (s : State) : List (Option (Nat × Nat)) := s.drift.pairs.toList.map (fun p => p.tcm)

/-- What a byte of memory that nothing has written reads as: in the TCM of a pair, the image it was loaded with (R420); else 0. -/
def State.memDefault (s : State) (a : Nat) : Byte :=
  if 0x20000000 ≤ a ∧ a < 0x20400000 then
    match s.tcms.getD ((a - 0x20000000) / 0x40000) none with
    | some (app, p) => Config.tcmByte app p (a % 0x40000)
    | none => 0
  else 0

/-- One byte of memory. -/
def State.byte (s : State) (a : Nat) : Byte :=
  (sparseFind a s.mem).getD (s.memDefault a)

/-- Store one byte. -/
def State.setByte (s : State) (a : Nat) (v : Byte) : State :=
  { s with mem := sparseSet a (s.memDefault a) v s.mem }

/-- `n` bytes from address `a`, in address order. -/
def State.bytes (s : State) (a n : Nat) : List Byte :=
  (List.range n).map (fun k => s.byte (a + k))

/-- Store bytes from address `a` up. -/
def State.setBytes (s : State) (a : Nat) : List Byte → State
  | [] => s
  | v :: l => (s.setByte a v).setBytes (a + 1) l

/-- Empty a window of memory. -/
def State.clearMem (s : State) (base len : Nat) : State :=
  { s with mem := s.mem.filter (fun p => !(decide (base ≤ p.1) && decide (p.1 < base + len))) }

/-- Memory's canonical form. -/
def State.memWf (s : State) : Bool :=
  sparseSorted s.mem && s.mem.all (fun p => p.2 != s.memDefault p.1)

/-- The little-endian bytes of a number (R1). -/
def leBytes : Nat → Nat → List Byte
  | 0, _ => []
  | n + 1, v => BitVec.ofNat 8 v :: leBytes n (v / 256)

/-- The number little-endian bytes spell (R1). -/
def leNat : List Byte → Nat
  | [] => 0
  | b :: l => b.toNat + 256 * leNat l

/-! ### Time and deadlines -/

/-- 4 ns ticks in a microsecond. -/
def us : Nat := 250
/-- 4 ns ticks in a millisecond. -/
def ms : Nat := 250000

/-- The 32-bit stamp of the tick (R146). -/
def State.stamp (s : State) : Nat :=
  s.now % 2 ^ 32

/-- The deadline of a timed event, while armed. -/
def State.deadline (s : State) (t : Timer) : Option Nat :=
  (s.timers.find? (fun p => p.1 = t)).map Prod.snd

/-- Disarm. -/
def State.disarm (s : State) (t : Timer) : State :=
  { s with timers := s.timers.filter (fun p => p.1 ≠ t) }

/-- Arm, `d` ticks from now. -/
def State.arm (s : State) (t : Timer) (d : Nat) : State :=
  { s with timers := (t, s.now + d) :: s.timers.filter (fun p => p.1 ≠ t) }

/-- Whether a deadline is armed. -/
def State.armed (s : State) (t : Timer) : Bool :=
  (s.deadline t).isSome

/-! ### Free values -/

/-- Take the next free value. -/
def State.free (s : State) : Word × State :=
  (Config.freeValue s.freeIdx, { s with freeIdx := s.freeIdx + 1 })

/-- A field takes a number; one that the field cannot hold leaves a free value there. -/
def State.putFit (s : State) (f : Fld) (v : Nat) (i j : Nat := 0) : State :=
  if v < 2 ^ f.width then s.put f v i j
  else
    let (w, s1) := s.free
    s1.put f (w.toNat % 2 ^ f.width) i j

/-! ### Small helpers -/

/-- Do `f` when `b` holds. -/
def State.when (s : State) (b : Bool) (f : State → State) : State :=
  if b then f s else s

/-- A signed reading of the low 32 bits. -/
def sgn (w : Word) : Int := w.toInt

/-- The word of a signed number, its low 32 bits. -/
def wordOfInt (x : Int) : Word := BitVec.ofInt 32 x

/-- Clamp to the signed 32-bit range. -/
def satInt (x : Int) : Int :=
  if x > 2147483647 then 2147483647 else if x < -2147483648 then -2147483648 else x

/-- Repeat a state change over a list. -/
def State.each {α : Type} (s : State) (l : List α) (f : State → α → State) : State :=
  l.foldl f s

end Sys2Proof.Machine
end

