-- ==== Sys2Proof/Machine/Access.lean ====
section
/-! DEFINITION. Who may write what: lock-step masters, the block of a cell, the owner rule (R17 to R19), the STOPPED condition
(R9), and the generic write of a register under the access codes (R3, R4, R502). -/

namespace Sys2Proof.Machine

/-! ### Masters -/

/-- PSTATE.STATE (R299). -/
def pairOff : Nat := 0
def pairStart : Nat := 1
def pairService : Nat := 2
def pairSplit : Nat := 3
def pairSpare : Nat := 4
def pairTest : Nat := 5
def pairRecovery : Nat := 6
def pairFailed : Nat := 7

/-- The state of a pair. -/
def State.pst (s : State) (n : Nat) : Nat := s.get DR_PSTATE_STATE n

/-- Whether a Drift pair runs as two independent cores. -/
def State.isSplit (s : State) (n : Nat) : Bool :=
  s.get DR_PSTATE_STATE n == pairSplit

/-- Whether a master is a Drift pair running in lock-step (R18, R271). -/
def State.lockstep (s : State) : Master → Bool
  | .pair n => !s.isSplit n.val
  | _ => false

/-- The pair a core belongs to. -/
def masterPair : Master → Option Nat
  | .pair n => some n.val
  | .core n _ => some n.val
  | _ => none

/-! ### Blocks and cells (R8, R9, R17 to R22) -/

/-- Whether cell `c` is bound to block `b` (R22). -/
def State.bound (s : State) (b c : Nat) : Bool :=
  if c < 32 then bit (s.rdw .BLK_BLKCELLS0 b) c else bit (s.rdw .BLK_BLKCELLS1 b) (c - 32)

/-- The block a cell is bound to; at most one (R9). -/
def State.blockOf (s : State) (c : Nat) : Option Nat :=
  (List.range 8).find? (fun b => s.bound b c)

/-- The cells bound to a block. -/
def State.cellsOf (s : State) (b : Nat) : List Nat :=
  (List.range 48).filter (fun c => s.bound b c)

/-- Block states (R21). -/
def blkStopped : Nat := 0
def blkArmed : Nat := 1
def blkRunning : Nat := 2
def blkTripped : Nat := 3

/-- The state of a block (R21). -/
def State.blk (s : State) (b : Nat) : Nat :=
  s.get BLK_BLKCTL_STATE b

/-- Whether a cell's block is STOPPED; a cell bound to no block meets the condition (R9). -/
def State.cellStopped (s : State) (c : Nat) : Bool :=
  match s.blockOf c with
  | some b => s.blk b == blkStopped
  | none => true

/-- Whether a cell's block is ARMED or RUNNING. -/
def State.cellLive (s : State) (c : Nat) : Bool :=
  match s.blockOf c with
  | some b => s.blk b == blkArmed || s.blk b == blkRunning
  | none => false

/-- Whether the master is the block's owner, while it has one (R19). -/
def State.isOwner (s : State) (m : Master) (b : Nat) : Bool :=
  match m with
  | .pair n => s.on BLK_BLKCTL_OWNED b && s.get BLK_BLKCTL_OWNER b == n.val && s.lockstep m
  | _ => false

/-- Whether R19 lets the master change the registers of the block's cells, port and group. -/
def State.mayWriteBlock (s : State) (m : Master) (b : Nat) : Bool :=
  !s.on BLK_BLKCTL_OWNED b || s.isOwner m b

/-- Run `f` for a register of block `b` under R19: a write from any other master than the owner has no effect and sets OWNER_DENIED. -/
def State.asOwner (s : State) (m : Master) (b : Nat) (f : State → State) : State :=
  if s.mayWriteBlock m b then f s else s.put BLK_BLKCTL_OWNER_DENIED 1 b

/-- The same for a register of cell `c`. A cell bound to no block has no owner. -/
def State.asCellOwner (s : State) (m : Master) (c : Nat) (f : State → State) : State :=
  match s.blockOf c with
  | some b => s.asOwner m b f
  | none => f s

/-! ### The generic write (R3, R4, R502) -/

/-- The word a register holds after a direct write of `v`: RW bits take it, W1C bits are cleared where it is 1, every other bit
keeps its value (R3, R4). -/
def RegId.written (r : RegId) (old v : Word) : Word :=
  let rw := BitVec.ofNat 32 r.reg.rw
  let wc := BitVec.ofNat 32 r.reg.w1c
  ((old &&& ~~~rw) ||| (v &&& rw)) &&& ~~~(v &&& wc)

/-- Apply a direct write. -/
def State.regWrite (s : State) (r : RegId) (v : Word) (i j : Nat := 0) : State :=
  s.wrw r (r.written (s.rdw r i j) v) i j

/-- Whether a write would change any of a register's bits in `mask` (R502: a write that leaves a field's value unchanged is never
refused). -/
def changes (old v mask : Word) : Bool :=
  (old ^^^ v) &&& mask != 0

/-- The written word with the bits of `mask` as they stand: a field whose condition is not met keeps its value (R502). -/
def keeping (old v mask : Word) : Word :=
  (v &&& ~~~mask) ||| (old &&& mask)

/-- A write whose fields in `mask` are writable only while `ok`: otherwise those fields keep their values and, where the write would
change one, `denied` is applied; every other field is applied (R502). -/
def State.condWrite (s : State) (r : RegId) (v mask : Word) (ok : Bool) (denied : State → State) (i j : Nat := 0) : State :=
  let old := s.rdw r i j
  if ok then s.regWrite r v i j
  else
    let s1 := s.regWrite r (keeping old v mask) i j
    if changes old v mask then denied s1 else s1

/-- The value a direct read of a stored register returns: write-only fields read 0 (R3). -/
def State.plainRead (s : State) (r : RegId) (i j : Nat := 0) : Word :=
  s.rdw r i j &&& ~~~(BitVec.ofNat 32 r.reg.wo)

end Sys2Proof.Machine
end

