-- ==== Sys2Proof/Machine/Clock.lean ====
section
/-! DEFINITION. Time: the 4 ns tick, what moves with it (the angle domains and the Shift plan's internal timebase, R33, R46; the crews'
Drift cycles, R50), and the
deadlines of timed events (log entry 1). -/

namespace Sys2Proof.Machine

/-! ### The option block's nominal frequency (R414) -/

/-- Byte `k` of the option block applied (R414, R421). -/
def State.optByte (s : State) (k : Nat) : Nat :=
  bits (s.rdw .RS_OPTIMG (k / 4)) (8 * (k % 4)) 8

/-- NOMFREQ in 0.1 mHz. -/
def State.nomFreq (s : State) : Nat := (s.rdw .RS_OPTIMG 4).toNat

/-- The increment of the nominal frequency, round(2^48 × NOMFREQ × 10^-4 / (250 × 10^6)) (R34). -/
def State.nomInc (s : State) : Nat :=
  (2 * (2 ^ 48 * s.nomFreq) + 2500000000000) / (2 * 2500000000000)

/-! ### Quotients whose rounding the spec leaves open -/

/-- `n / d` rounded down or up, where the spec does not say which. -/
def divOpen (n d : Nat) : Nat :=
  n / d + (if n % d ≠ 0 ∧ Config.roundUp n d then 1 else 0)

/-- Integer square root, by its bits from bit `k - 1` down: the largest `r` of `k` bits over the bits found so far with `r² ≤ n`. -/
def isqrtFrom (n : Nat) : Nat → Nat → Nat
  | 0, r => r
  | k + 1, r => isqrtFrom n k (if (r + 2 ^ k) * (r + 2 ^ k) ≤ n then r + 2 ^ k else r)

/-- The largest `r < 2^64` with `r² ≤ n`. -/
def isqrt (n : Nat) : Nat := isqrtFrom n 64 0

/-! ### Domains -/

/-- DOMSTAT.STATE (R35). -/
def domOff : Nat := 0
def domAcquire : Nat := 1
def domLive : Nat := 2
def domCoast : Nat := 3
def domLost : Nat := 4

/-- Whether a domain in this state advances its angle (R35). -/
def domAdvances (st : Nat) : Bool := st == domAcquire || st == domLive || st == domCoast

/-- The turn part of a position. -/
def posTurn (p : BitVec 80) : Nat := p.toNat / 2 ^ 48

/-- The unwrapped 64-bit position (R42), the fraction left out. -/
def pos64 (p : BitVec 80) : BitVec 64 := BitVec.ofNat 64 (p.toNat / 2 ^ 16)

/-- The angle in au. -/
def posAng (p : BitVec 80) : Word := BitVec.ofNat 32 (p.toNat / 2 ^ 16)

/-- Count the increments of a turn in progress, and keep the mean of the last whole turn when `n` ticks at `inc` end one (R40). -/
def DomU.countTurn (u : DomU) (n inc crossed : Nat) (p : BitVec 80) : DomU :=
  if crossed = 0 then { u with incSum := u.incSum + n * inc, incTicks := u.incTicks + n }
  else
    let after := (p.toNat % 2 ^ 48) / inc
    let k := n - after
    { u with
      turnMean := some (if crossed = 1 then divOpen (u.incSum + k * inc) (u.incTicks + k) else inc)
      incSum := after * inc
      incTicks := after }

/-- Advance one domain by `n` ticks (R33): TURN counts each forward wrap of the angle. -/
def State.advanceDom (s : State) (n : Nat) (d : Fin 4) : State :=
  if domAdvances (s.get HF_DOMSTAT_STATE d.val) then
    let inc := s.get HF_INC_INC d.val
    let u := s.head.doms[d]
    let p := u.pos + BitVec.ofNat 80 (n * inc)
    let crossed := (u.pos.toNat % 2 ^ 48 + n * inc) / 2 ^ 48
    let s1 := { s with head := { s.head with doms := upd s.head.doms d (fun u => { (u.countTurn n inc crossed p) with pos := p }) } }
    if crossed = 0 then s1 else s1.bump HF_TURN_TURN d.val 0 crossed
  else s

/-- A pair's unit, changed. -/
def State.updPair (s : State) (n : Nat) (f : DriftPairU → DriftPairU) : State :=
  if h : n < 16 then { s with drift := { s.drift with pairs := upd s.drift.pairs ⟨n, h⟩ f } } else s

/-- A pair's unit. -/
def State.pairU (s : State) (n : Nat) : DriftPairU :=
  s.drift.pairs.toList.getD n DriftPairU.reset

/-- Core 0 or 1 of a pair; a lock-step pair runs as its core 0, the main core. -/
def DriftPairU.core (p : DriftPairU) (k : Nat) : CoreU := if k = 0 then p.core0 else p.core1

/-- Change a core. -/
def State.updCore (s : State) (n k : Nat) (f : CoreU → CoreU) : State :=
  s.updPair n (fun p => if k = 0 then { p with core0 := f p.core0 } else { p with core1 := f p.core1 })

/-! ### Drift cycles (R50, R274) -/

/-- `t` ticks of core `k` of pair `n` are charged to the crew its pair runs (R50); instructions charged before their time are not charged again.
A core that waits in XFWT (R274) and a pair that the Adit port halts (R297) charge nobody, and the stall of a checkpoint is charged as it
ends (R280). -/
def State.chargeCore (s : State) (t n k : Nat) : State :=
  let p := s.pairU n
  let u := p.core k
  let c := u.regs.crew
  if u.waiting.isSome || u.stopped || p.storing.isSome || s.on DR_PSTATE_DEBUG n then s
  else
    let s1 := if u.ahead = 0 then s else s.updCore n k (fun u => { u with ahead := u.ahead - 4 * t })
    if SP_CREWCTL_PAIR.of (s.plan.crews.toList.getD c CrewPlan.reset).ctl = n then
      s1.put SP_REMAIN0_DRIFT (s.get SP_REMAIN0_DRIFT c - (4 * t - u.ahead)) c
    else s1

/-- `t` ticks pass for the cores of the pairs in SERVICE and SPLIT. -/
def State.chargeCores (s : State) (t : Nat) : State :=
  s.each (List.range 16) (fun s n =>
    match s.get DR_PSTATE_STATE n with
    | 2 => s.chargeCore t n 0
    | 3 => (s.chargeCore t n 0).chargeCore t n 1
    | _ => s)

/-- Let `n` ticks pass. -/
def State.advance (s : State) (n : Nat) : State :=
  let s1 := (s.each [0, 1, 2, 3] (fun s d => s.advanceDom n d)).chargeCores n
  { s1 with now := s1.now + n, plan := { s1.plan with tb := s1.plan.tb + BitVec.ofNat 80 (n * s1.nomInc) } }

/-- Let time pass up to tick `d`; never backwards. -/
def State.advanceTo (s : State) (d : Nat) : State :=
  if s.now < d then s.advance (d - s.now) else s

/-- A timed event: while its deadline is armed its command means that the deadline has come. Time moves on to it, it is disarmed and `f`
acts; without an armed deadline there is no such event. -/
def State.onTimer (s : State) (t : Timer) (f : State → State) : State :=
  match s.deadline t with
  | some d => f ((s.advanceTo d).disarm t)
  | none => s

end Sys2Proof.Machine
end

