-- ==== Sys2Proof/Machine/Cores.lean ====
section
/-! DEFINITION. The cores of the Drift pairs: their registers, frame waits (R274), the ingress log (R277, R279). -/

namespace Sys2Proof.Machine

/-- Write an integer register; x0 is hard-wired to 0 (RV32I). -/
def CoreRegs.setX (r : CoreRegs) (rd : Nat) (v : Word) : CoreRegs :=
  if h : rd < 32 then (if rd = 0 then r else { r with x := r.x.set rd v h }) else r

/-- Read an integer register. -/
def CoreRegs.getX (r : CoreRegs) (k : Nat) : Word := if k = 0 then 0 else r.x.toList.getD k 0

/-- A CSR by its number. -/
def CoreRegs.csr (r : CoreRegs) (a : Nat) : Word := (sparseFind a r.csrs).getD 0

/-- Write a CSR. -/
def CoreRegs.setCsr (r : CoreRegs) (a : Nat) (v : Word) : CoreRegs := { r with csrs := sparseSet a 0 v r.csrs }

/-- A trap to machine mode, as the RISC-V privileged architecture describes it: mepc, mcause, mtval, the stacked mode and interrupt enable, the
vector, in vectored mode that of the interrupt. -/
def CoreRegs.enterTrap (r : CoreRegs) (cause tval : Word) : CoreRegs :=
  let st := r.csr 0x300
  let mpp := if r.user then 0 else 3
  let st' := setBits (setBits (setBits st 11 2 mpp) 7 1 (bits st 3 1)) 3 1 0
  let vec := r.csr 0x305
  { (((r.setCsr 0x341 r.pc).setCsr 0x342 cause).setCsr 0x343 tval).setCsr 0x300 st' with
    pc := (vec &&& ~~~3#32) + (if bits vec 0 2 = 1 ∧ bit cause 31 then 4 * (cause &&& 0x7FFFFFFF) else 0), user := false }

/-- Whether core `k` of a pair executes its instructions now. -/
def State.runs (s : State) (n k : Nat) : Bool :=
  (s.pst n == pairService && k == 0 && !(s.pairU n).faulted || s.pst n == pairSplit)
    && ((s.pairU n).core k).waiting.isNone && !((s.pairU n).core k).stopped && !s.on DR_PSTATE_DEBUG n
    && !(s.pairU n).inPlace && (s.pairU n).storing.isNone

/-- A trap of a core to machine mode. -/
def State.takeTrap (s : State) (n k : Nat) (cause tval : Word) : State :=
  s.updCore n k (fun c => { c with regs := c.regs.enterTrap cause tval })

/-- The kinds of ingress inputs (R277), numbered by the model. No command of the table reads a CSR as an instruction, so `inCsr` has no entry yet. -/
def inLoad : Nat := 0
def inIrq : Nat := 1
def inXang : Nat := 2
def inCsr : Nat := 3
def inXfwt : Nat := 4
def inDebug : Nat := 5

/-- Append an input to the ingress log of a pair in SERVICE (R279); the log holds 4,096 entries. -/
def State.ingress (s : State) (n kind : Nat) (v : Word) : State :=
  if s.get DR_PSTATE_STATE n = 2 then
    let l := (s.pairU n).log
    if l.length ≥ 4096 then s.updPair n (fun p => { p with overflow := true })
    else
      let s1 := s.updPair n (fun p => { p with log := p.log ++ [⟨kind, p.retired, v⟩] })
      s1.put DR_PLOG_LOGMAX (max (s1.get DR_PLOG_LOGMAX n) (l.length + 1)) n
  else s

/-- A core retires an instruction of 4 bytes (R277). -/
def State.retire (s : State) (n k : Nat) : State :=
  (s.updCore n k (fun c => { c with regs := { c.regs with pc := c.regs.pc + 4 } })).updPair n (fun p => { p with retired := p.retired + 1 })

/-- What an ended frame wait returns (R274). -/
def waitResult (frame : Nat) (woken filler : Bool) : Word :=
  BitVec.ofNat 32 (frame % 64 + (if woken then 256 else 0) + (if filler then 512 else 0))

/-- The rd field of a frame wait that R53 imposes: no instruction waits, so none retires at its end. -/
def imposedWait : Nat := 32

/-- End a core's frame wait (R274): rd, the completion in the ingress log, the instruction retired. -/
def State.endWait (s : State) (n k : Nat) (woken filler : Bool) : State :=
  match ((s.pairU n).core k).waiting with
  | none => s
  | some (_, rd) =>
    let v := waitResult (s.get SP_STAT_FRAME) woken filler
    let s1 := (s.updCore n k (fun c => { c with waiting := none, regs := c.regs.setX rd v })).ingress n inXfwt v
    if rd = imposedWait then s1 else s1.retire n k

end Sys2Proof.Machine
end

