-- ==== Sys2Proof/Machine/Interrupts.lean ====
section
/-! DEFINITION. Interrupt slices and event coalescing (R300 to R309). -/

namespace Sys2Proof.Machine

/-- Whether source `src` is pending in slice `n`. -/
def State.isPending (s : State) (n src : Nat) : Bool :=
  bit (s.rdw .IC_PEND n (src / 32)) (src % 32)

/-- Set or clear the pending bit of source `src` in slice `n`. -/
def State.setPending (s : State) (n src : Nat) (b : Bool) : State :=
  (s.wrw .IC_PEND (setBits (s.rdw .IC_PEND n (src / 32)) (src % 32) 1 b.toNat) n (src / 32)).note .IC_PEND
    (BitVec.ofNat 32 (b.toNat * 2 ^ (src % 32))) n (src / 32)

/-- Whether a source that is pending in slice `n` is held there by a group (R302, R308). -/
def State.isHeld (s : State) (n src : Nat) : Bool :=
  s.intc.held.any (fun p => p.slice == n && p.source == src)

/-- The sources pending in a slice, in rising number. -/
def State.pendingIn (s : State) (n : Nat) : List Nat :=
  (List.range 32).flatMap (fun j =>
    let w := s.rdw .IC_PEND n j
    if w = 0 then [] else (List.range 32).filterMap (fun i => if bit w i then some (32 * j + i) else none))

/-- Whether a pending source of slice `n` is deliverable (R303, R304). -/
def State.deliverable (s : State) (n src : Nat) : Bool :=
  decide (s.get IC_SRCCFG_PRIO src > s.get IC_SCTL_THRESH n) && !s.isHeld n src && !s.intc.inService.contains (n, src)

/-- The deliverable source with the highest PRIO, the lowest number among equals (R304). -/
def State.bestSource (s : State) (n : Nat) : Option Nat :=
  ((s.pendingIn n).filter (s.deliverable n)).foldl (fun best src =>
    match best with
    | none => some src
    | some b => if s.get IC_SRCCFG_PRIO src > s.get IC_SRCCFG_PRIO b then some src else best) none

/-- The request line of a slice (R303, R305). -/
def State.reqLine (s : State) (n : Nat) : Bool :=
  !s.on IC_SCTL_GDIS n && (s.bestSource n).isSome

/-- The slices whose request line reaches a pair: its own, unless a takeover has routed it to another, and the one routed to it (R287, R307). -/
def State.slicesOf (s : State) (n : Nat) : List Nat :=
  (if (List.range 16).any (fun k => k != n && (s.pairU k).routedSlice == some n) then [] else [n]) ++ (s.pairU n).routedSlice.toList

/-- A pair whose request line is masked: from the detection of its fault until it leaves FAILED (R285). -/
def State.lineMasked (s : State) (n : Nat) : Bool := (s.pairU n).faulted || s.pst n == pairFailed

/-- The pairs that the request line of slice `k` reaches. -/
def State.takers (s : State) (k : Nat) : List Nat :=
  (List.range 16).filter (fun n => (s.slicesOf n).contains k && !s.lineMasked n)

/-- The request line of slice `k` follows its sources; one that rises is an ingress input of the pairs it reaches (R277, R303). -/
def State.lineFollow (s : State) (k : Nat) : State :=
  let l := s.reqLine k
  if h : k < 17 then
    if s.intc.line[k] = l then s
    else
      let s1 := { s with intc := { s.intc with line := s.intc.line.set k l h } }
      if l then s1.each (s1.takers k) (fun s n => s.ingress n inIrq (BitVec.ofNat 32 k)) else s1
  else s

/-- mip of core `k` of a pair: MEIP is the request line of its slices, on a split pair core 0's only (R294, R303); its own software and timer interrupts are
the bits that its CSR holds. -/
def State.mip (s : State) (n k : Nat) : Word :=
  setBits (((s.pairU n).core k).regs.csr 0x344) 11 1
    (k == 0 && !s.lineMasked n && (s.slicesOf n).any (fun j => s.intc.line.toList.getD j false)).toNat

/-- The machine interrupts of a core that are pending and enabled (mip and mie: external 11, timer 7, software 3). -/
def State.coreIrqs (s : State) (n k : Nat) : Word := s.mip n k &&& ((s.pairU n).core k).regs.csr 0x304 &&& 0x888

/-- A pending enabled interrupt of core `k` ends its wait with WAKE (R274), and a core that runs takes it: in user mode, or with mstatus.MIE; the external
interrupt before the software and that before the timer interrupt, as the RISC-V privileged architecture has it. -/
def State.coreIrq (s : State) (n k : Nat) : State :=
  let p := s.coreIrqs n k
  if p = 0 then s
  else
    let s1 := if ((s.pairU n).core k).waiting.any (fun x => x.1) then s.endWait n k true false else s
    let r := ((s1.pairU n).core k).regs
    if s1.runs n k && (r.user || bit (r.csr 0x300) 3) then
      s1.takeTrap n k (0x80000000 + (if bit p 11 then 11 else if bit p 3 then 3 else 7)) 0
    else s1

/-- The request line of a slice is taken anew; the pairs it reaches take the interrupt (R274, R303). -/
def State.wakeSlice (s : State) (k : Nat) : State :=
  let s1 := s.lineFollow k
  if s1.reqLine k then s1.each (s1.takers k) (fun s n => s.coreIrq n 0) else s1

/-- Release of a group (R308): every source it holds becomes deliverable, HELD clears, the timer stops and RELEASES counts. -/
def State.releaseGroup (s : State) (g : Nat) : State :=
  let out := s.intc.held.filter (fun p => p.group == g)
  let s1 := { s with intc := { s.intc with held := s.intc.held.filter (fun p => !out.any (fun q => q.slice == p.slice && q.source == p.source)) } }
  let s2 := ((s1.put IC_GSTAT_HELD 0 g).bump IC_GSTAT_RELEASES g).disarm (.icGroup g)
  s2.each ((s.get IC_GCFG_GSLICE g :: out.map (fun p => p.slice)).eraseDups) State.wakeSlice

/-- A limit in which 0 acts as 1 (R308). -/
def atLeast1 (n : Nat) : Nat := max 1 n

/-- Raise a source (R301, R308): its pending bit is set in its target slice, or the raise is merged and counted; a raise of a member
of an enabled group is held. -/
def State.raise (s : State) (src : Nat) : State :=
  let n := s.get IC_SRCCFG_TARGET src
  let g := s.get IC_SRCCFG_GROUP src
  let was := s.isPending n src
  let grouped := s.on IC_SRCCFG_GROUPED src && s.on IC_GCFG_EN g
  let s1 := (if was then s.bumpSat IC_SSTAT_MERGECNT n else s).setPending n src true
  if grouped && (!was || s.isHeld n src) then
    let h := s1.get IC_GSTAT_HELD g
    let s2 := if s1.intc.held.contains ⟨n, src, g⟩ then s1 else { s1 with intc := { s1.intc with held := ⟨n, src, g⟩ :: s1.intc.held } }
    let s3 := if h = 0 then s2.arm (.icGroup g) (atLeast1 (s2.get IC_GSTAT_TIME g) * us) else s2
    if h + 1 ≥ atLeast1 (s3.get IC_GCFG_COUNT g) then s3.releaseGroup g else s3.put IC_GSTAT_HELD (h + 1) g
  else s1.wakeSlice n

/-- Raise a source when `b`. -/
def State.raiseIf (s : State) (b : Bool) (src : Nat) : State :=
  if b then s.raise src else s

/-- The slice a master reaches through SELF (R307, R309): a pair its own, after a takeover the one routed to it, the Banksman slice 16. -/
def State.selfSlice (s : State) : Master → Option Nat
  | .pair n => some ((s.pairU n.val).routedSlice.getD n.val)
  | .core n _ => some n.val
  | .banksman => some 16
  | .dma => none

/-- The slice that takes the statuses of a master's refused writes (R302). -/
def masterSlice : Master → Option Nat
  | .pair n => some n.val
  | .core n _ => some n.val
  | .banksman => some 16
  | .dma => none

/-- CFG_DENIED in the writer's slice; a master that has none is refused with no status set (R302). -/
def State.icDenied (s : State) (m : Master) : State :=
  match masterSlice m with
  | some n => s.put IC_SSTAT_CFG_DENIED 1 n
  | none => s

/-- The slice an access names: an explicit one, or SELF. -/
def State.sliceOf (s : State) (m : Master) (n : Option Slice) : Option Nat :=
  match n with
  | some k => some k.val
  | none => s.selfSlice m

/-- Whether a master may write the registers of a slice (R302, R309): a lock-step pair any, the Banksman slice 16, a split core its
own through SELF. -/
def State.mayWriteSlice (s : State) (m : Master) (n : Option Slice) : Bool :=
  match m with
  | .pair _ => s.lockstep m
  | .core _ _ => n.isNone
  | .banksman => s.sliceOf m n == some 16
  | .dma => false

/-- Run `f` on the slice a write names: through SELF a master without a slice has no effect and sets no status (R309); a master that
may not write sets CFG_DENIED in its own slice (R302). -/
def State.sliceWrite (s : State) (m : Master) (n : Option Slice) (f : State → Nat → State) : State :=
  match s.sliceOf m n with
  | none => s
  | some k => if s.mayWriteSlice m n then f s k else s.icDenied m

/-- CLAIM read of slice `k` (R304): the source, its pending bit cleared and its service begun. -/
def State.claim (s : State) (k : Nat) : State :=
  match s.bestSource k with
  | some src =>
    let s1 := s.setPending k src false
    { s1 with
      intc := { s1.intc with inService := (k, src) :: s1.intc.inService }
      bus := ⟨BitVec.ofNat 32 src, .ok⟩ }.lineFollow k
  | none => { s with bus := ⟨1024, .ok⟩ }

/-- COMPLETE write to slice `k` (R304). -/
def State.complete (s : State) (k : Nat) (v : Word) : State :=
  let src := IC_COMPLETE_ID.of v
  if s.intc.inService.contains (k, src) then
    ({ s with intc := { s.intc with inService := s.intc.inService.filter (fun p => p ≠ (k, src)) } }).wakeSlice k
  else s.put IC_SSTAT_COMPLETE_DENIED 1 k

/-- A write to PEND word `j` of slice `k` (R306): each bit written 1 is cleared, a held source leaving its group's hold. -/
def State.pendWrite (s : State) (k j : Nat) (v : Word) : State :=
  let s1 := s.regWrite .IC_PEND v k j
  { s1 with
    intc := { s1.intc with held := s1.intc.held.filter (fun p => !(p.slice == k && p.source / 32 == j && bit v (p.source % 32))) } }.lineFollow k

/-- The block whose cell or block raises a source (R300, R302). -/
def State.sourceBlock (s : State) (src : Nat) : Option Nat :=
  if 64 ≤ src ∧ src < 112 then s.blockOf (src - 64)
  else if 112 ≤ src ∧ src < 120 then some (src - 112)
  else if 128 ≤ src ∧ src < 176 then s.blockOf (src - 128)
  else if 192 ≤ src ∧ src < 240 then s.blockOf (src - 192)
  else if 320 ≤ src ∧ src < 416 then s.blockOf ((src - 320) / 2)
  else if 448 ≤ src ∧ src < 496 then s.blockOf (src - 448)
  else if 496 ≤ src ∧ src < 504 then some (src - 496)
  else none

/-- A write refused because of slice 16: only the Banksman gives a source or group to it or changes one it has, and the Banksman
changes no other (R302, R308). -/
def slice16Refuses (m : Master) (old new : Nat) : Bool :=
  match m with
  | .banksman => old != 16 && new != 16
  | _ => old == 16 || new == 16

/-- A SRCCFG write (R302); one that changes nothing is not refused (R502). The lines of the slices in which the source is pending follow. -/
def State.srccfgWrite (s : State) (m : Master) (src : Nat) (v : Word) : State :=
  let old := s.rdw .IC_SRCCFG src
  let t := IC_SRCCFG_TARGET.of v
  let ownerBad := match s.sourceBlock src with
    | some b => !s.mayWriteBlock m b
    | none => false
  if !changes old v (BitVec.ofNat 32 RegId.IC_SRCCFG.reg.rw) then s
  else if ownerBad then
    if (masterSlice m).isNone then s
    else (match s.sourceBlock src with
      | some b => s.put BLK_BLKCTL_OWNER_DENIED 1 b
      | none => s).icDenied m
  else if (m ≠ .banksman && !s.lockstep m) || t > 16
      || slice16Refuses m (IC_SRCCFG_TARGET.of old) t
      || (IC_SRCCFG_GROUPED.of v == 1 && s.get IC_GCFG_GSLICE (IC_SRCCFG_GROUP.of v) != t) then
    s.icDenied m
  else
    let s1 := s.regWrite .IC_SRCCFG v src
    s1.each ((List.range 17).filter (fun k => s1.isPending k src)) State.wakeSlice

/-- A GCFG write (R308). -/
def State.gcfgWrite (s : State) (m : Master) (g : Nat) (v : Word) : State :=
  let old := s.rdw .IC_GCFG g
  let t := IC_GCFG_GSLICE.of v
  if (m ≠ .banksman && !s.lockstep m) || t > 16
      || ((changes old v (BitVec.ofNat 32 RegId.IC_GCFG.reg.rw) || IC_GCFG_FLUSH.of v == 1) && slice16Refuses m (IC_GCFG_GSLICE.of old) t) then
    s.icDenied m
  else
    let s1 := s.regWrite .IC_GCFG v g
    if IC_GCFG_FLUSH.of v == 1 || (IC_GCFG_EN.of old == 1 && IC_GCFG_EN.of v == 0) then s1.releaseGroup g else s1

/-- R308: the group's timer reaches TIME. -/
def execCoalesceTimeout (g : IcGroup) (s : State) : Out :=
  .next (s.onTimer (.icGroup g.val) (fun s => s.releaseGroup g.val))

/-- A write to another register of a slice or group: SCTL, SSTAT and GSTAT. Only the Banksman changes a group of slice 16 (R308). -/
def State.icPlainWrite (s : State) (m : Master) (r : RegId) (i : Nat) (v : Word) : State :=
  let of16 := if r = .IC_GSTAT then s.get IC_GCFG_GSLICE i == 16 else i == 16
  let kept := r = .IC_GSTAT && of16 && changes (s.rdw r i) v (BitVec.ofNat 32 r.reg.rw)
  if (s.lockstep m && !kept) || (m = .banksman && of16) then
    (s.regWrite r v i).wakeSlice i
  else s.icDenied m

end Sys2Proof.Machine
end

