-- ==== Sys2Proof/Machine/ShiftPlan.lean ====
section
/-! DEFINITION. Crews and budgets of the Shift plan (R50 to R53, R56): the active plan, charging a crew, parking it, and the commands
GO, OVERRUN and FLOOR. Frames and their boundaries are in Machine/Frames.lean. -/

namespace Sys2Proof.Machine

/-! ### The plan -/

/-- The active plan of a crew. -/
def State.crew (s : State) (c : Nat) : CrewPlan :=
  s.plan.crews.toList.getD c CrewPlan.reset

/-- Whether a crew is enabled in the active plan. -/
def CrewPlan.en (p : CrewPlan) : Bool := SP_CREWCTL_EN.of p.ctl == 1
/-- Whether its grant is a floor (R52). -/
def CrewPlan.essential (p : CrewPlan) : Bool := SP_CREWCTL_ESSENTIAL.of p.ctl == 1
/-- The pair it runs on. -/
def CrewPlan.pair (p : CrewPlan) : Nat := SP_CREWCTL_PAIR.of p.ctl
/-- Its Ethernet port. -/
def CrewPlan.ethPort (p : CrewPlan) : Nat := SP_CREWCTL_ETHPORT.of p.ctl

/-- Whether frame `f` uses set B (R56). -/
def CrewPlan.usesB (p : CrewPlan) (f : Nat) : Bool :=
  if f < 32 then bit p.map0 f else bit p.map1 (f - 32)

/-- The four budgets of R50. -/
inductive Budget where
  | drift | beats | seam | eth
deriving DecidableEq, Repr

/-- The bit of EXHAUSTED that records a budget. -/
def Budget.bitNo : Budget → Nat
  | .drift => 0
  | .beats => 1
  | .seam => 2
  | .eth => 3

/-- The field that holds what is left of a budget. -/
def Budget.remain : Budget → Fld
  | .drift => SP_REMAIN0_DRIFT
  | .beats => SP_REMAIN1_BEATS
  | .seam => SP_REMAIN2_SEAM
  | .eth => SP_REMAIN2_ETH

/-- The grant of a budget in frame `f`. -/
def CrewPlan.grant (p : CrewPlan) (f : Nat) : Budget → Nat
  | .drift => SP_GRANTA0_DRIFT.of (if p.usesB f then p.b0 else p.a0)
  | .beats => SP_GRANTA1_BEATS.of (if p.usesB f then p.b1 else p.a1)
  | .seam => SP_GRANTA2_SEAM.of (if p.usesB f then p.b2 else p.a2)
  | .eth => SP_GRANTA2_ETH.of (if p.usesB f then p.b2 else p.a2)

/-- Whether a crew is parked: this frame (R53, R52), by a stopped core (R294), or with its failed pair (R286). -/
def State.parked (s : State) (c : Nat) : Bool :=
  s.get SP_CREWSTAT_EXHAUSTED c != 0 || s.on SP_CREWSTAT_FLOORED c || s.plan.haltedCrews.contains c
    || s.get DR_PSTATE_STATE (s.crew c).pair == 7

/-- The supervisor crew of a pair in the active plan. -/
def State.supCrew (s : State) (n : Nat) : Nat :=
  s.plan.sup.toList.getD n 0

/-- Reload one crew's budgets for frame `f` (step 3 of R48); a crew that is not enabled has none. -/
def State.reloadCrew (s : State) (f c : Nat) : State :=
  let p := s.crew c
  let g (b : Budget) : Nat := if p.en then p.grant f b else 0
  (((s.put SP_REMAIN0_DRIFT (g .drift) c).put SP_REMAIN1_BEATS (g .beats) c).put SP_REMAIN2_SEAM (g .seam) c).put SP_REMAIN2_ETH
    (g .eth) c

/-- Reload every crew's budgets. -/
def State.reloadBudgets (s : State) (f : Nat) : State :=
  s.each (List.range 64) (fun s c => s.reloadCrew f c)

/-- Release every parked crew (step 5 of R48). -/
def State.releaseCrews (s : State) : State :=
  s.each (List.range 64) (fun s c => (s.put SP_CREWSTAT_EXHAUSTED 0 c).put SP_CREWSTAT_FLOORED 0 c)

/-! ### Parking a crew -/

/-- What a core does when the crew it runs is parked: by the floor, it goes on as the supervisor crew (R52); over a budget, it takes the
crew-overrun trap to the supervisor crew, but for the supervisor crew's own Drift budget, which makes it wait for the frame (R53). -/
def CoreU.parkedOn (k : CoreU) (c sup : Nat) (b : Option Budget) : CoreU :=
  if k.regs.crew = c ∧ k.waiting = none then
    match b with
    | none => { k with regs := { k.regs with crew := sup } }
    | some b =>
      if c = sup ∧ b = .drift then { k with waiting := some (false, imposedWait) }
      else { k with regs := { k.regs.enterTrap Config.overrunCause 0 with crew := sup } }
  else k

/-- The running crew of a pair leaves it for the supervisor crew (R52, R53). -/
def State.leaveCrew (s : State) (c : Nat) (b : Option Budget) : State :=
  let n := (s.crew c).pair
  let sup := s.supCrew n
  s.updPair n (fun p =>
    { p with
      core0 := p.core0.parkedOn c sup b
      core1 := if s.isSplit n then p.core1.parkedOn c sup b else p.core1 })

/-- The field of a crew's OVERRUN bit. -/
def overrunFld (c : Nat) : Fld := if c < 32 then SP_OVERRUN0_OVERRUN else SP_OVERRUN1_OVERRUN

/-- Set a crew's OVERRUN bit; source 581 is raised when it becomes 1 (R300). -/
def State.setOverrun (s : State) (c : Nat) : State :=
  let s1 := s.orPut (overrunFld c) (2 ^ (c % 32))
  if bit (s.rdw (overrunFld c).reg) (c % 32) then s1 else s1.raise 581

/-- A crew exhausts a budget (R53): it alone is parked, OVERRUN, OVCOUNT and EXHAUSTED record it, and a running crew leaves its pair. A supervisor
crew that another budget has parked runs on until its own Drift budget is spent. -/
def State.overrunOne (s : State) (c : Nat) (b : Budget) : State :=
  let stays := s.parked c && !(c == s.supCrew (s.crew c).pair && b == .drift)
  let s1 := ((s.setOverrun c).bumpSat SP_CREWSTAT_OVCOUNT c).orPut SP_CREWSTAT_EXHAUSTED (2 ^ b.bitNo) c
  if stays then s1 else s1.leaveCrew c (some b)

/-- The current crew of a core. -/
def State.crewOf (s : State) (n k : Nat) : Nat := ((s.pairU n).core k).regs.crew

/-- Whether core `k` of pair `n` runs an enabled crew of its pair that has no Drift cycle left, so that it may not run (R50). -/
def State.outOfCycles (s : State) (n k : Nat) : Bool :=
  let u := (s.pairU n).core k
  let c := u.regs.crew
  u.waiting.isNone && !u.stopped && !s.on DR_PSTATE_DEBUG n && (s.crew c).en && (s.crew c).pair == n && s.get SP_REMAIN0_DRIFT c == 0

/-- A core that runs such a crew leaves it as at an exhausted budget (R53). -/
def State.stopSpent (s : State) (n k : Nat) : State := if s.outOfCycles n k then s.overrunOne (s.crewOf n k) .drift else s

/-- The same for the cores of pair `n`, and then for the supervisor crew that they run instead. -/
def State.stopSpentPair (s : State) (n : Nat) : State :=
  s.each (if s.isSplit n then [0, 0, 1, 1] else [0, 0]) (fun s k => s.stopSpent n k)

/-- A crew exhausts a budget, and with it perhaps its supervisor crew (R53). -/
def State.overrun (s : State) (c : Nat) (b : Budget) : State := (s.overrunOne c b).stopSpentPair (s.crew c).pair

/-- Charge a crew `n` units of a budget; reaching 0 exhausts it (R50, R53). -/
def State.charge (s : State) (c : Nat) (b : Budget) (n : Nat) : State :=
  let left := s.get b.remain c
  let s1 := s.put b.remain (left - n) c
  if left > 0 ∧ n > 0 ∧ left ≤ n then s1.overrun c b else s1

/-- Whether a crew may use a budget now: enabled, not parked, something left (R50, R53). -/
def State.hasBudget (s : State) (c : Nat) (b : Budget) : Bool :=
  (s.crew c).en && !s.parked c && decide (s.get b.remain c > 0)

/-- Whether a core of its pair runs a crew now. -/
def State.crewRuns (s : State) (c : Nat) : Bool :=
  let n := (s.crew c).pair
  (if s.isSplit n then [0, 1] else [0]).any (fun k => s.crewOf n k == c && ((s.pairU n).core k).waiting.isNone)

/-- Whether a crew can exhaust a budget that it has not exhausted yet: it may still use some, or has used a grant of this frame up, since time alone counts
Drift cycles down (R50). A supervisor crew that another budget has parked still uses them (R53). -/
def State.mayExhaust (s : State) (c : Nat) (b : Budget) : Bool :=
  (s.crew c).en && !bit (BitVec.ofNat 32 (s.get SP_CREWSTAT_EXHAUSTED c)) b.bitNo &&
    (if s.get b.remain c = 0 then (s.crew c).grant (s.get SP_STAT_FRAME) b != 0 else !s.parked c || (b == .drift && s.crewRuns c))

/-- R53: a crew exhausts a budget; for the Drift budget also the frame wait or trap of its pair. Of a crew that is not enabled, or has no
grant left to exhaust, no such event comes. -/
def execOverrun (c : Crew) (b : Fin 4) (s : State) : Out :=
  let k : Budget := match b with
    | 0 => .drift
    | 1 => .beats
    | 2 => .seam
    | 3 => .eth
  .next (if s.mayExhaust c.val k then (s.put k.remain 0 c.val).overrun c.val k else s)

/-! ### Committing a plan (R51) -/

/-- The shadow plan of a crew. -/
def State.shadowCrew (s : State) (c : Nat) : CrewPlan :=
  { ctl := s.rdw .SP_CREWCTL c, a0 := s.rdw .SP_GRANTA0 c, a1 := s.rdw .SP_GRANTA1 c, a2 := s.rdw .SP_GRANTA2 c,
    b0 := s.rdw .SP_GRANTB0 c, b1 := s.rdw .SP_GRANTB1 c, b2 := s.rdw .SP_GRANTB2 c, map0 := s.rdw .SP_MAP0 c,
    map1 := s.rdw .SP_MAP1 c }

/-- The sum of a budget over the essential crews of a plan that `sel` selects, in frame `f`; a crew that is not enabled has no budget and is not
counted (DESIGN CHOICE, log entry 10). -/
def essentialSum (plan : List CrewPlan) (sel : CrewPlan → Bool) (f : Nat) (b : Budget) : Nat :=
  (plan.filter (fun p => p.en && p.essential && sel p)).foldl (fun n p => n + p.grant f b) 0

/-- Whether a plan stays within the limits of R51 in frame `f`. -/
def frameAdmissible (plan : List CrewPlan) (f : Nat) : Bool :=
  (List.range 16).all (fun n => essentialSum plan (fun p => p.pair == n) f .drift ≤ 217013)
    && decide (essentialSum plan (fun _ => true) f .beats ≤ 75954)
    && decide (essentialSum plan (fun _ => true) f .seam ≤ 1356)
    && (List.range 2).all (fun q => essentialSum plan (fun p => p.ethPort == q) f .eth ≤ 423)

/-- Whether the shadow plan is admissible (R51), each pair's supervisor crew being essential (R53). -/
def State.admissible (s : State) : Bool :=
  let plan := (List.range 64).map s.shadowCrew
  (List.range 64).all (frameAdmissible plan)
    && (List.range 16).all (fun n => (plan.getD (s.get SP_PAIRSUP_SUPCREW n) CrewPlan.reset).essential)

/-- R51: GO written. After a refused GO no commit is pending; it raises source 582 (R300). -/
def State.goWrite (s : State) : State :=
  if s.admissible then s.put SP_COMMIT_PENDING 1 else ((s.put SP_COMMIT_PENDING 0).put SP_COMMIT_ADMIT_DENIED 1).raise 582

/-- A write to COMMIT by any master. -/
def State.commitWrite (s : State) (v : Word) : State :=
  let s1 := s.regWrite .SP_COMMIT v
  if SP_COMMIT_GO.of v == 1 then s1.goWrite else s1

/-- Step 2 of R48: a pending plan becomes the active plan: the shadow as it stands at the boundary, not checked again (R56; DESIGN CHOICE, log
entry 115). -/
def State.commitPlan (s : State) : State :=
  if s.on SP_COMMIT_PENDING then
    let s1 := s.put SP_COMMIT_PENDING 0
    { s1 with
      plan := { s1.plan with
        crews := Vector.ofFn (fun c : Fin 64 => s1.shadowCrew c.val)
        sup := Vector.ofFn (fun n : Fin 16 => s1.get SP_PAIRSUP_SUPCREW n.val) } }
  else s

/-! ### The floor (R52) -/

/-- The 4 ns ticks left in the frame, from the frame source's angle and increment. -/
def frameTicksLeft (pos : BitVec 80) (lastFrame : BitVec 38) (inc : Nat) : Nat :=
  let next := ((lastFrame + 1).toNat * 2 ^ 42)
  let left := (BitVec.ofNat 80 next - pos).toInt
  if inc = 0 then 0 else left.toNat / inc

/-- The frame source's position and increment (R46). -/
def State.sourcePos (s : State) : BitVec 80 × Nat :=
  let k := s.get SP_STAT_SOURCE
  if h : k < 4 then (s.head.doms[k].pos, s.get HF_INC_INC k) else (s.plan.tb, s.nomInc)

/-- The unspent Drift grants of a pair's essential crews. -/
def State.essentialLeft (s : State) (n : Nat) : Nat :=
  ((List.range 64).filter (fun c => (s.crew c).en && (s.crew c).essential && (s.crew c).pair == n)).foldl
    (fun k c => k + s.get SP_REMAIN0_DRIFT c) 0

/-- R52: the floor of pair `n`. When the cycles left in the frame (4 a tick, R50) have fallen to the essential crews' unspent grants, a
running non-essential crew is parked with cause FLOOR, without OVERRUN: that of the lock-step pair, or of either core of a split pair. -/
def State.floor (s : State) (n : Nat) : State :=
  let (pos, inc) := s.sourcePos
  let left := 4 * frameTicksLeft pos s.plan.lastFrame inc
  if left ≤ s.essentialLeft n then
    s.each (if s.isSplit n then [0, 1] else [0]) (fun s k =>
      let u := (s.pairU n).core k
      let c := u.regs.crew
      let p := s.crew c
      if p.en && !p.essential && p.pair == n && u.waiting.isNone && !s.parked c then
        ((s.put SP_CREWSTAT_FLOORED 1 c).leaveCrew c none).stopSpent n k else s)
  else s

/-- R52: FLOOR. -/
def execFloor (n : Pair) (s : State) : Out :=
  .next (s.floor n.val)

end Sys2Proof.Machine
end

