-- ==== Sys2Proof/Machine/DomState.lean ====
section
/-! DEFINITION. The states of the angle domains (R35, R40, R41), what follows them at once: NEXT of their slots (R45) and the frame source (R46, R47), and
the loss of a Pick source. The rest of the Headframe is in Machine/Headframe.lean. -/

namespace Sys2Proof.Machine

/-! ### Units -/

/-- A domain's unit. -/
def State.dom (s : State) (d : Nat) : DomU := s.head.doms.toList.getD d DomU.reset

/-- Change a domain's unit. -/
def State.updDom (s : State) (d : Nat) (f : DomU → DomU) : State :=
  if h : d < 4 then { s with head := { s.head with doms := upd s.head.doms ⟨d, h⟩ f } } else s

/-- Change the Shift plan's unit. -/
def State.updPlan (s : State) (f : PlanU → PlanU) : State := { s with plan := f s.plan }

/-- The state of a domain (R35). -/
def State.domSt (s : State) (d : Nat) : Nat := s.get HF_DOMSTAT_STATE d

/-- Sources of a domain, DOMCTL.SRC (R34). -/
def srcOff : Nat := 0
def srcTracker : Nat := 1
def srcPick : Nat := 2
def srcUhla : Nat := 3

/-! ### The frame source (R46, R47) -/

/-- Whether the Shift plan can use a domain (R35). -/
def State.usable (s : State) (d : Nat) : Bool := s.domSt d == domLive || s.domSt d == domCoast

/-- The source that R46 prefers: a domain, or none for the internal timebase. -/
def State.bestFrameSource (s : State) : Option Nat :=
  if s.usable (s.get SP_CTL_FRAMEDOM) then some (s.get SP_CTL_FRAMEDOM) else [0, 1, 2, 3].find? s.usable

/-- The frame of a position, counted without end. -/
def frame38 (p : BitVec 80) : BitVec 38 := BitVec.ofNat 38 (p.toNat / 2 ^ 42)

/-- The awaited switch is abandoned: an extended frame ends at the current source's next boundary after its current angle (R47). -/
def State.abandonSwitch (s : State) : State :=
  s.updPlan (fun u =>
    { u with
      await := none
      awaitFrame := none
      lastFrame := if u.awaitFrame.isSome then frame38 s.sourcePos.1 else u.lastFrame })

/-- A switch to domain `d` begins to wait (R47); one that replaces a still usable awaited domain keeps an extension that has begun. -/
def State.awaitDomain (s : State) (d : Nat) : State :=
  if s.plan.await = some d then s
  else if s.plan.await.any s.usable then
    s.updPlan (fun u => { u with await := some d, awaitFrame := u.awaitFrame.map (fun _ => frame38 (s.dom d).pos) })
  else s.abandonSwitch.updPlan (fun u => { u with await := some d })

/-- R47: the frame source when domains become usable or cease to be, and when FRAMEDOM is written. A FRAMEDOM that names no usable domain while the
source is not the lowest usable one makes the plan await that one, as R46 orders the domains (DESIGN CHOICE, log entry 89). A source that leaves does not end the wait for a domain that
stays usable. -/
def State.reevalSource (s : State) : State :=
  let k := s.get SP_STAT_SOURCE
  let s1 :=
    if k < 4 ∧ !s.usable k then
      ((s.updPlan (fun u => { u with tb := (s.dom k).pos })).put SP_STAT_SOURCE 4).bump SP_CNT_SRCCHG
    else s
  match s1.bestFrameSource with
  | none => s1.abandonSwitch
  | some d => if d = s1.get SP_STAT_SOURCE then s1.abandonSwitch else s1.awaitDomain d

/-- A write to SHIFT.CTL (R46, R47). -/
def State.shiftCtlWrite (s : State) (v : Word) : State := (s.regWrite .SP_CTL v).reevalSource

/-! ### Slots: NEXT (R42, R45) -/

/-- NEXT of a slot. -/
def State.slotNext (s : State) (k : Nat) : BitVec 64 := s.head.next.toList.getD k 0

/-- Set NEXT. -/
def State.setNext (s : State) (k : Nat) (v : BitVec 64) : State :=
  if h : k < 256 then { s with head := { s.head with next := s.head.next.set k v h } } else s

/-- The position of a slot's domain. -/
def State.slotPos (s : State) (k : Nat) : BitVec 64 := pos64 (s.dom (s.get EV_EVTCTL_DOMAIN k)).pos

/-- An angle in a position's turn, or in the next turn where it does not lie ahead of the position (R45). -/
def nextAhead (pos : BitVec 64) (turnOf : BitVec 64) (ang : Word) : BitVec 64 :=
  let n := BitVec.ofNat 64 (turnOf.toNat / 2 ^ 32 * 2 ^ 32 + ang.toNat)
  if 0 < (n - pos).toInt then n else n + BitVec.ofNat 64 (2 ^ 32)

/-- EN changed from 0 to 1, or the domain entered LIVE from ACQUIRE (R45). -/
def State.armSlot (s : State) (k : Nat) : State :=
  s.setNext k (nextAhead (s.slotPos k) (s.slotPos k) (s.rdw .EV_EVTANG k))

/-- The enabled slots of a domain. -/
def State.slotsOf (s : State) (d : Nat) : List Nat :=
  (List.range 256).filter (fun k => s.on EV_EVTCTL_EN k && s.get EV_EVTCTL_DOMAIN k == d)

/-! ### States of a domain (R35, R40, R41, R45) -/

/-- The limits of INC, 40 Hz and 72 Hz (R33). -/
def incMin : Nat := 45035996
def incMax : Nat := 81064793

/-- Set the increment that a source asks for, at the nearer limit where it lies outside the range (R33). -/
def State.setInc (s : State) (d n : Nat) (flag : Bool) : State :=
  let s1 := s.put HF_INC_INC (max incMin (min incMax n)) d
  if flag ∧ (n < incMin ∨ incMax < n) then s1.put HF_DOMSTAT_FREQ_CLAMP 1 d else s1

/-- The length of a domain's coast in progress, ms (R40, R54). -/
def State.coastMs (s : State) (d : Nat) : Nat :=
  min 65535 ((s.now - (s.dom d).coastFrom) / ms)

/-- A domain changes its state: COASTMS keeps the length of a coast that ends, slots are armed when it enters LIVE from ACQUIRE (R45), and the
frame source follows (R47). -/
def State.setDomState (s : State) (d st : Nat) : State :=
  let old := s.domSt d
  let s1 := if old = domCoast ∧ st ≠ domCoast then (s.put HF_DOMSTAT_COASTMS (s.coastMs d) d).disarm (.coast d) else s
  let s2 := (s1.put HF_DOMSTAT_STATE st d).updDom d (fun u => { u with lockFrom := none })
  let s3 := if old = domAcquire ∧ st = domLive then s2.each (s2.slotsOf d) State.armSlot else s2
  s3.reevalSource

/-- COASTMAX as it acts, in ticks (R54). -/
def State.coastMax (s : State) (d : Nat) : Nat := min 20 (atLeast1 (s.get HF_DOMCTL_COASTMAX d)) * 100 * ms

/-- A domain enters COAST at its present increment (R40, R41). COASTMAX counts as it stands now: a later write of it acts on the next coast (DESIGN
CHOICE, log entry 114). -/
def State.coast (s : State) (d : Nat) : State :=
  ((((s.updDom d (fun u => { u with coastFrom := s.now, below := 0, above := 0 })).put HF_DOMSTAT_COASTMS 0 d).setDomState d
    domCoast).put HF_DOMSTAT_COAST_SEEN 1 d).arm (.coast d) (s.coastMax d)

/-- A domain runs from its own tracker: under TRACKER, and under UHLA on the angle master (R462). -/
def State.trackerDriven (s : State) (d : Nat) : Bool :=
  (s.dom d).src == srcTracker || ((s.dom d).src == srcUhla && s.on UH_USTAT_MASTER)

/-- A Pick or Uhla source stopped (R41): only a LIVE domain coasts. -/
def State.srcLost (s : State) (d src : Nat) : State :=
  if (s.dom d).src = src ∧ s.domSt d = domLive ∧ !s.trackerDriven d then (s.coast d).put HF_DOMSTAT_SRC_LOST 1 d else s

/-- A domain's Pick pair has its block out of ARMED and RUNNING, or re-syncs (R41). -/
def State.pickGone (s : State) (d : Nat) : Bool :=
  let c := s.get HF_DOMCTL_PICKCELL d
  !s.cellLive c || s.on PK_PSTAT_RESYNC (2 * c) || (bit (BitVec.ofNat 32 (s.optByte (4 + c / 8))) (c % 8) && s.on PK_PSTAT_RESYNC (2 * c + 1))

/-- Domains whose Pick pair's block has left ARMED and RUNNING, or whose pair re-syncs, enter COAST (R41). -/
def State.coastPick (s : State) : State :=
  s.each [0, 1, 2, 3] (fun s d => if (s.dom d).src = srcPick ∧ s.pickGone d then s.srcLost d srcPick else s)

end Sys2Proof.Machine
end

