-- ==== Sys2Proof/Machine/Seam.lean ====
section
/-! DEFINITION. The Seam recorder: records, bursts, credit and drops, triggers and captures, drains (R442 to R453). -/

namespace Sys2Proof.Machine

/-! ### The ring -/

/-- The ring's base address and its number of 256-byte bursts (R438). -/
def ringBase : Nat := 0x80000000
def ringBursts : Nat := 1572864

/-- CAPSTAT.STATE (R448). -/
def capIdle : Nat := 0
def capPost : Nat := 1
def capHeld : Nat := 2

/-- A stream's unit. -/
def State.streamU (s : State) (t : Nat) : StreamU :=
  s.seam.streams.toList.getD t ⟨[], none, 0, 0, [], ⟨0, 0, [], false, none⟩⟩

/-- Change a stream's unit. -/
def State.updStream (s : State) (t : Nat) (f : StreamU → StreamU) : State :=
  if h : t < 64 then { s with seam := { s.seam with streams := upd s.seam.streams ⟨t, h⟩ f } } else s

/-- A capture's unit. -/
def State.captureU (s : State) (n : Nat) : CaptureU :=
  s.seam.captures.toList.getD n ⟨0, 0, 0⟩

/-- Change a capture's unit. -/
def State.updCapture (s : State) (n : Nat) (f : CaptureU → CaptureU) : State :=
  if h : n < 16 then { s with seam := { s.seam with captures := upd s.seam.captures ⟨n, h⟩ f } } else s

/-- The absolute bursts a capture holds: from its first to its last, or to the last burst written while it is in POST (R448). -/
def State.heldSpan (s : State) (n : Nat) : Option (Nat × Nat) :=
  let u := s.captureU n
  if s.get SE_CAPSTAT_STATE n = capPost then some (u.first, max u.first s.seam.lastBurst)
  else if s.get SE_CAPSTAT_STATE n = capHeld then some (u.first, u.last)
  else none

/-- Every held span. -/
def State.heldSpans (s : State) : List (Nat × Nat) :=
  (List.range 16).filterMap s.heldSpan

/-- How far burst place `p` lies into a held span, around the ring. -/
def spanDepth (p : Nat) (sp : Nat × Nat) : Nat :=
  (p % ringBursts + ringBursts - sp.1 % ringBursts) % ringBursts

/-- Pass over the held spans that hold place `p`; each span is passed at most once. -/
def skipHeld : List (Nat × Nat) → Nat → Nat → Nat
  | _, 0, p => p
  | l, k + 1, p =>
    match l.find? (fun sp => spanDepth p sp ≤ sp.2 - sp.1) with
    | some sp => skipHeld l k (p + (sp.2 - sp.1 - spanDepth p sp) + 1)
    | none => p

/-- Insert an interval in rising order of its start. -/
def insertSpan (a : Nat × Nat) : List (Nat × Nat) → List (Nat × Nat)
  | [] => [a]
  | b :: l => if a.1 ≤ b.1 then a :: b :: l else b :: insertSpan a l

/-- The length of the union of half-open intervals in rising order, `upto` being covered already. -/
def unionLen : Nat → List (Nat × Nat) → Nat
  | _, [] => 0
  | upto, (a, b) :: l => (b - max a upto) + unionLen (max upto b) l

/-- The bursts held by any capture, each counted once (R449). -/
def State.heldBursts (s : State) : Nat :=
  let parts := s.heldSpans.flatMap (fun sp =>
    let a := sp.1 % ringBursts
    let n := min (sp.2 - sp.1 + 1) ringBursts
    if a + n ≤ ringBursts then [(a, a + n)] else [(a, ringBursts), (0, a + n - ringBursts)])
  unionLen 0 (parts.foldl (fun l x => insertSpan x l) [])

/-- HOLD.HELDMB: held MiB, rounded up (R452). -/
def State.heldMb (s : State) : Nat := (s.heldBursts * 256 + 1048575) / 1048576

/-- End a capture at the last burst written: CAPEND, HELD and source 640 + n (R448). -/
def State.endCapture (s : State) (n : Nat) : State :=
  let last := s.seam.lastBurst
  (((s.updCapture n (fun u => { u with last := max u.first last })).wrw .SE_CAPEND
    (BitVec.ofNat 32 (max (s.captureU n).first last % ringBursts * 256)) n).put SE_CAPSTAT_STATE capHeld n).raise (640 + n)

/-- Held bytes reaching 288 MiB end every capture in POST (R449). -/
def State.holdLimit (s : State) : State :=
  if s.heldBursts * 256 ≥ 301989888 then
    (s.put SE_SSTAT_HOLD_LIMIT 1).each (List.range 16) (fun s n =>
      if s.get SE_CAPSTAT_STATE n = capPost then (s.endCapture n).put SE_CAPSTAT_END_SHORT 1 n else s)
  else s

/-- The captures in POST whose end has come are HELD at this burst boundary (R448). -/
def State.capturesDue (s : State) : State :=
  s.each (List.range 16) (fun s n =>
    if s.get SE_CAPSTAT_STATE n = capPost ∧ (s.captureU n).endAt ≤ s.now then s.endCapture n else s)

/-- Note the first burst of a millisecond in the engine's index of the last 65,536 ms (R448). -/
def noteBurst (t p : Nat) (l : List (Nat × Nat)) : List (Nat × Nat) :=
  (match l with
    | (t', p') :: r => if t' = t then (t', p') :: r else (t, p) :: (t', p') :: r
    | [] => [(t, p)]).filter (fun x => t < x.1 + 65536)

/-! ### Records and bursts -/

/-- A record's header word (R443). -/
def recHeader (ty size src dt : Nat) : Word :=
  BitVec.ofNat 32 (ty % 16 + size % 4 * 16 + src % 256 * 64 + dt % 2 ^ 18 * 2 ^ 14)

/-- SIZE of a record of `n` words (R443). -/
def sizeOf32 (n : Nat) : Nat :=
  if n ≤ 2 then 0 else if n ≤ 4 then 1 else if n ≤ 8 then 2 else 3

/-- Little-endian bytes of a list of words (R1). -/
def wordBytes (l : List Word) : List Byte :=
  l.flatMap (fun w => leBytes 4 w.toNat)

/-- The low and high words of the 64-bit time counter. -/
def State.time64 (s : State) : List Word :=
  [BitVec.ofNat 32 s.now, BitVec.ofNat 32 (s.now / 2 ^ 32)]

/-- DT of a record written now (R443). -/
def State.recDt (s : State) (t : Nat) : Nat :=
  s.now - ((s.streamU t).lastTime.getD s.now)

/-- The TIME record of a stream (R443). -/
def State.timeRecord (s : State) (t : Nat) : List Word :=
  let turn := (s.sourcePos.1.toNat / 2 ^ 48)
  let turnReg := let k := s.get SP_STAT_SOURCE
    if k < 4 then (s.rdw .HF_TURN k).toNat else turn
  [recHeader 0 1 t 0] ++ s.time64 ++ [BitVec.ofNat 32 (turnReg % 2 ^ 26 + s.get SP_STAT_FRAME % 64 * 2 ^ 26)]

/-- Write the open burst to the ring, closing a partly filled one with a PAD record (R445); captures that are due end before it. The PAD header's SIZE is open: the spec gives
a PAD record "the rest of the burst" and no SIZE. -/
def State.closeBurst (s : State) (t : Nat) : State :=
  if s.on SE_STRSTAT_OPEN t then
    let body := (s.streamU t).burst
    let (fv, s1) := if body.length < 256 then s.capturesDue.free else (0, s.capturesDue)
    let pad := if body.length < 256 then wordBytes [recHeader 15 (bits fv 0 2) 0 (s.recDt t)] else []
    let full := (body ++ pad ++ List.replicate 256 0).take 256
    let p := s1.seam.ringPos
    let s2 := s1.setBytes (ringBase + p % ringBursts * 256) full
    let s3 := ((s2.updStream t (fun u => { u with burst := [] })).put SE_STRSTAT_OPEN 0 t).bump SE_STRSTAT_BURSTS t
    let s4 := { s3 with seam := { s3.seam with lastBurst := p, index := noteBurst (s3.now / ms) p s3.seam.index } }
    let s5 := { s4 with seam := { s4.seam with ringPos := skipHeld s4.heldSpans 17 (p + 1) } }
    (s5.disarm (.burstFlush t)).holdLimit
  else s

/-- Whether a stream may open a burst (R444). -/
def State.mayOpen (s : State) (t : Nat) : Bool :=
  (s.get SE_STRCFG_CREDIT t == 0 || s.on SE_STRSTAT_LEFT t) && s.hasBudget (s.get SE_STRCFG_CREW t) .seam

/-- Note what a stream does in this tick. -/
def StreamU.noteTick (u : StreamU) (now : Nat) (f : StreamTick → StreamTick) : StreamU :=
  { u with fresh := f (if u.fresh.tick = now then u.fresh else ⟨now, 0, [], false, none⟩) }

/-- Open a burst with the bytes `b`: LEFT and the crew's Seam budget each count down by 1 (R444). -/
def State.openBurst (s : State) (t : Nat) (b : List Byte) : State :=
  let s1 := (s.put SE_STRSTAT_LEFT (s.get SE_STRSTAT_LEFT t - 1) t).put SE_STRSTAT_OPEN 1 t
  let s2 := s1.updStream t (fun u => { u.noteTick s.now (fun x => { x with opened := x.opened + 1 }) with burst := b })
  let s3 := s2.arm (.burstFlush t) (atLeast1 (s2.get SE_STRCFG_FLUSH t) * 40 * us)
  s3.charge (s3.get SE_STRCFG_CREW t) .seam 1

/-- Drop the record `r` whole (R446). -/
def State.dropRecord (s : State) (t : Nat) (r : List Word) : State :=
  let shows := !s.on SE_SSTAT_DROPSEEN
  let s1 := ((s.updStream t (fun u =>
    { u.noteTick s.now (fun x =>
        ⟨x.tick, x.opened, x.missed ++ [r], x.showed || shows, if x.missed.isEmpty then u.lastTime else x.timeWas⟩) with
      dropped := u.dropped + 1, droppedAt := if u.dropped = 0 then s.now else u.droppedAt, lastTime := none })).bumpSat
    SE_STRDROP_DROPS t).put SE_STRSTAT_DROPPING 1 t
  if s1.on SE_SSTAT_DROPSEEN then s1 else (s1.put SE_SSTAT_DROPSEEN 1).raise 659

/-- Put bytes that may not be divided into the stream's open burst, or open a new one; `none` when the stream may not (R444, R446). -/
def State.storeRecord (s : State) (t : Nat) (b : List Byte) : Option State :=
  let body := (s.streamU t).burst
  if s.on SE_STRSTAT_OPEN t && decide (body.length + b.length ≤ 256) then
    let s1 := s.updStream t (fun u => { u with burst := u.burst ++ b })
    some (if body.length + b.length = 256 then s1.closeBurst t else s1)
  else if s.mayOpen t then some ((s.closeBurst t).openBurst t b)
  else none

/-- Admit one record of a stream that is enabled (R443, R444, R446): after drops a TIME and a DROP record go before it in one burst; a TIME
record goes before a record whose DT would exceed 2^18 - 1, and before the first. -/
def State.admitRecord (s : State) (t : Nat) (mk : Nat → List Word) : State :=
  let u := s.streamU t
  if u.dropped > 0 then
    let chunk := wordBytes (s.timeRecord t ++ [recHeader 11 1 t 0, BitVec.ofNat 32 u.dropped, BitVec.ofNat 32 u.droppedAt,
      BitVec.ofNat 32 (u.droppedAt / 2 ^ 32)].take 4 ++ mk 0)
    match s.storeRecord t chunk with
    | some s1 => (s1.updStream t (fun u => { u with dropped := 0, lastTime := some s.now })).put SE_STRSTAT_DROPPING 0 t
    | none => s.dropRecord t (mk 0)
  else
    let needs := match u.lastTime with
      | none => true
      | some x => decide (s.now - x > 262143)
    if needs then
      match s.storeRecord t (wordBytes (s.timeRecord t)) with
      | none => s.dropRecord t (mk 0)
      | some s1 =>
        let s2 := s1.updStream t (fun u => { u with lastTime := some s.now })
        (s2.storeRecord t (wordBytes (mk 0))).getD (s2.dropRecord t (mk 0))
    else (s.storeRecord t (wordBytes (mk (s.recDt t)))).getD (s.dropRecord t (mk 0))

/-- Whether the Seam recorder is out of reset (R407): bit 3 of RSTREL. -/
def State.released (s : State) (k : Nat) : Bool :=
  bit (s.rdw .RS_RSTREL) (8 + k)

/-- The units of RSTREL, in bit order (R421). -/
def uPick : Nat := 0
def uSense : Nat := 1
def uPwm : Nat := 2
def uSeam : Nat := 3
def uEth : Nat := 4
def uHostx : Nat := 5
def uUhla : Nat := 6

/-- Whether a stream takes records (R442). -/
def State.streamOn (s : State) (t : Nat) : Bool :=
  s.released uSeam && s.on SE_SCTL_EN && s.on SE_STRCFG_EN t

/-- A producer's record: discarded unless its stream is enabled and SEL selects the producer `sel` (R442). -/
def State.record (s : State) (t sel ty src : Nat) (body : List Word) : State :=
  if s.streamOn t && bit (BitVec.ofNat 32 (s.get SE_STRCFG_SEL t)) sel then
    s.admitRecord t (fun dt => recHeader ty (sizeOf32 (body.length + 1)) src dt :: body)
  else s

/-! ### Stream commands -/

/-- R445: FLUSH × 40 µs after a burst opened it is closed and written. -/
def execBurstFlush (t : Stream) (s : State) : Out :=
  .next (s.onTimer (.burstFlush t.val) (fun s => s.closeBurst t.val))

/-- A write to STRPUT of stream `t` by a lock-step pair (R452): the first word of a record is its header; the record is admitted when its last
word has arrived, its DT and SRC as the engine writes them. -/
def State.strput (s : State) (t : Nat) (v : Word) : State :=
  if t < 54 then s.put SE_SSTAT_WRITE_DENIED 1
  else
    let buf := (s.streamU t).putBuf ++ [v]
    let need := match buf with
      | h :: _ => 2 * 2 ^ bits h 4 2
      | [] => 2
    if buf.length < need then s.updStream t (fun u => { u with putBuf := buf })
    else
      let s1 := s.updStream t (fun u => { u with putBuf := [] })
      if s1.streamOn t && bit (BitVec.ofNat 32 (s1.get SE_STRCFG_SEL t)) 0 then
        s1.admitRecord t (fun dt => recHeader 12 (bits (buf.headD 0) 4 2) t dt :: buf.tail)
      else s1

/-- Run `f` for a Seam register: only lock-step pairs write them (R452). -/
def State.seamWrite (s : State) (m : Master) (f : State → State) : State :=
  if s.lockstep m then f s else s.put SE_SSTAT_WRITE_DENIED 1

/-- A write to STRCFG: EN written 0 closes the open burst (R445); after EN becomes 1 the first record is preceded by TIME (R443). -/
def State.strcfgWrite (s : State) (t : Nat) (v : Word) : State :=
  let was := s.on SE_STRCFG_EN t
  let s1 := s.regWrite .SE_STRCFG v t
  if SE_STRCFG_EN.of v == 0 then s1.closeBurst t
  else if was then s1
  else s1.updStream t (fun u => { u with lastTime := none })

/-! ### Triggers and captures -/

/-- The millisecond in which the pre-trigger data begin (R448). -/
def State.preMs (s : State) (n : Nat) : Nat :=
  s.now / ms - (s.get SE_TRGCFG_PRE n + 11)

/-- The first burst of a capture that fires now, and whether pre-trigger data are missing (R448): the first burst of the millisecond PRE + 11
before, or of the next one in which a burst was written; the oldest burst when that one has been overwritten. -/
def State.captureFrom (s : State) (n : Nat) : Nat × Bool :=
  let pos := s.seam.ringPos
  let oldest := pos - ringBursts
  let want := s.preMs n
  let after := (s.seam.index.filter (fun x => want ≤ x.1)).getLast?
  let reaches := s.seam.index.any (fun x => x.1 ≤ want)
  match after with
  | none => (pos, !reaches)
  | some (_, p) => if p < oldest then (oldest, true) else (p, !reaches)

/-- A firing of trigger `n` (R448, R449). The TRIGGER record's source word is open: the spec gives it no code. -/
def State.fire (s : State) (n : Nat) : State :=
  if !s.released uSeam || !s.on SE_TRGCTL_EN n then s
  else
    let st := s.get SE_CAPSTAT_STATE n
    let endAt := s.now + (s.get SE_TRGCFG_POST n + 11) * ms
    if st = capHeld then s.put SE_CAPSTAT_TRIG_BUSY 1 n
    else if s.heldMb ≥ 288 then (s.put SE_SSTAT_TRIG_REFUSED 1).raise 660
    else if st = capPost then
      let s1 := s.bump SE_CAPSTAT_FIRES n
      if s1.on SE_TRGCTL_RETRIG n then s1.updCapture n (fun u => { u with endAt := endAt }) else s1
    else
      let (p, short) := s.captureFrom n
      let s1 := (s.bump SE_CAPSTAT_FIRES n).updCapture n (fun _ => ⟨p, p, endAt⟩)
      let s2 := (s1.wrw .SE_CAPSTART (BitVec.ofNat 32 (p % ringBursts * 256)) n).put SE_CAPSTAT_STATE capPost n
      let s3 := if short then s2.put SE_CAPSTAT_PRE_SHORT 1 n else s2
      let (fv, s4) := s3.free
      s4.record 53 1 10 n ([fv] ++ s4.time64)

/-- A drain channel's unit. -/
def State.drainU (s : State) (d : Nat) : DrainU :=
  s.seam.drains.toList.getD d ⟨0, 0, 0, []⟩

/-- Change a drain channel's unit. -/
def State.updDrain (s : State) (d : Nat) (f : DrainU → DrainU) : State :=
  if h : d < 2 then { s with seam := { s.seam with drains := upd s.seam.drains ⟨d, h⟩ f } } else s

/-- End a running drain of a released capture (R451). -/
def State.endDrainsOf (s : State) (n : Nat) : State :=
  s.each (List.range 2) (fun s d =>
    if s.on SE_DRSTAT_BUSY d && s.get SE_DRCFG_SRC d == 0 && s.get SE_DRCFG_CAP d == n then
      ((s.put SE_DRSTAT_BUSY 0 d).put SE_DRSTAT_DRAIN_OVERRUN 1 d).raise 658
    else s)

/-- RELEASE of a capture, HELD or in POST (R448, R449). -/
def State.releaseCapture (s : State) (n : Nat) : State :=
  if s.get SE_CAPSTAT_STATE n = capIdle then s
  else (s.put SE_CAPSTAT_STATE capIdle n).endDrainsOf n

/-- A write to TRGCTL (R448): the settings, then RELEASE, then FIRE. -/
def State.trgctlWrite (s : State) (n : Nat) (v : Word) : State :=
  let s1 := s.regWrite .SE_TRGCTL v n
  let s2 := if SE_TRGCTL_RELEASE.of v == 1 then s1.releaseCapture n else s1
  if SE_TRGCTL_FIRE.of v == 1 then s2.fire n else s2

/-- R448: the capture's end has come; at this burst boundary it enters HELD. -/
def execCaptureHeld (n : Trig) (s : State) : Out :=
  .next (if s.get SE_CAPSTAT_STATE n.val = capPost then (s.advanceTo (s.captureU n.val).endAt).endCapture n.val else s)

/-! ### Drains (R450, R451) -/

/-- The flash areas a drain may write (R441). -/
def inArchive (a n : Nat) : Bool := 0x36000000 ≤ a && a + n ≤ 0x37800000
def inFirmwareData (a n : Nat) : Bool := 0x37800000 ≤ a && a + n ≤ 0x38000000

/-- Where a drain's bytes begin and how many they are: for SRC 0 the capture, LEN ignored. -/
def State.drainSpan (s : State) (d : Nat) (v : Word) : Nat × Nat :=
  if SE_DRCFG_SRC.of v = 0 then
    let u := s.captureU (SE_DRCFG_CAP.of v)
    (u.first * 256, (u.last - u.first + 1) * 256)
  else if SE_DRCFG_SRC.of v = 1 then
    let off := (s.rdw .SE_DRSRC d).toNat
    let pos := s.seam.ringPos
    let base := pos / ringBursts * ringBursts
    let p := base + off / 256
    ((if p < pos then p else p - ringBursts) * 256 + off % 256, (s.rdw .SE_DRLEN d).toNat)
  else ((s.rdw .SE_DRSRC d).toNat, (s.rdw .SE_DRLEN d).toNat)

/-- Whether a GO is refused (R450); while the recorder is held in reset none starts (R407). -/
def State.drainRefused (s : State) (d : Nat) (v : Word) : Bool :=
  let src := SE_DRCFG_SRC.of v
  let n := (s.drainSpan d v).2
  let dst := (s.rdw .SE_DRDST d).toNat
  !s.released uSeam || s.on SE_DRSTAT_BUSY d
    || (src == 0 && s.get SE_CAPSTAT_STATE (SE_DRCFG_CAP.of v) != capHeld)
    || (src == 2 && SE_DRCFG_DEST.of v == 0)
    || (src != 0 && n % 256 != 0)
    || (SE_DRCFG_DEST.of v == 1 && !(inArchive dst n || (src == 2 && inFirmwareData dst n)))

/-- GO of a drain channel that is enabled (R450). -/
def State.drainGo (s : State) (d : Nat) (v : Word) : State :=
  if s.drainRefused d v then s.put SE_DRSTAT_DRAIN_DENIED 1 d
  else
    let (a, n) := s.drainSpan d v
    ((s.updDrain d (fun _ => ⟨a, n, 0, []⟩)).put SE_DRSTAT_BUSY 1 d).wrw .SE_DRPTR
      (if SE_DRCFG_SRC.of v = 2 then BitVec.ofNat 32 a else BitVec.ofNat 32 (a % (ringBursts * 256))) d

/-- A write to DRCFG (R450, R452): an SRC of 0b11 refuses the whole write. -/
def State.drcfgWrite (s : State) (d : Nat) (v : Word) : State :=
  if SE_DRCFG_SRC.of v = 3 then s.put SE_SSTAT_WRITE_DENIED 1
  else
    let s0 := if SE_DRCFG_STOP.of v == 1 then s.put SE_DRSTAT_BUSY 0 d else s
    let go := SE_DRCFG_GO.of v == 1 && SE_DRCFG_EN.of v == 1
    if go then
      let s1 := s0.drainGo d v
      if s0.drainRefused d v then s1 else s1.regWrite .SE_DRCFG v d
    else s0.regWrite .SE_DRCFG v d

/-- The byte `k` of a drain's source, ring offsets around the ring. -/
def State.drainByte (s : State) (src a k : Nat) : Byte :=
  if src = 2 then s.byte (a + k) else s.byte (ringBase + (a + k) % (ringBursts * 256))

/-- The 64 KiB sectors of `n` bytes from `a` that are not in `done`. -/
def newSectors (done : List Nat) (a n : Nat) : List Nat :=
  if n = 0 then []
  else ((List.range ((a + n - 1) / 65536 - a / 65536 + 1)).map (· + a / 65536)).filter (fun x => !done.contains x)

/-- Erase a 64 KiB flash sector: what an erased byte reads as is the part's own (Config). -/
def State.eraseSector (s : State) (x : Nat) : State :=
  s.setBytes (x * 65536) (List.replicate 65536 Config.erasedByte)

/-- Append a frame to transmit queue `q`; bits above 3 of a queue number are ignored (R472). -/
def State.queueFrame (s : State) (q : Nat) (f : TxFrame) : State :=
  { s with host := { s.host with txq := upd s.host.txq ⟨q % 16, Nat.mod_lt q (by decide)⟩ (fun u => { u with frames := u.frames ++ [f] }) } }

/-- Block `n` of a transfer, handed to transmit queue QUEUE (R450, R472): the word with channel and block sequence, the source offset, the
data. -/
def State.drainToEth (s : State) (d n off : Nat) (b : List Byte) : State :=
  s.queueFrame (s.get SE_DRCFG_QUEUE d) ⟨leBytes 4 (d * 2 ^ 31 + n % 2 ^ 31) ++ leBytes 8 off ++ b, false, false, true⟩

/-- Pass the rest of a transfer: bus beats of 32 bytes for a DRAM or SRAM read, Ethernet units of 64 bytes, flash sectors erased when first
written (R441, R450, R50). -/
def State.drainPass (s : State) (d : Nat) : State :=
  let u := s.drainU d
  let src := s.get SE_DRCFG_SRC d
  let b := (List.range u.left).map (s.drainByte src u.next)
  let crew := s.get SE_DRCFG_CREW d
  let s1 := s.charge crew .beats ((u.left + 31) / 32)
  let s2 :=
    if s.get SE_DRCFG_DEST d = 1 then
      let dst := (s.rdw .SE_DRDST d).toNat + u.passed
      let secs := newSectors u.erased dst u.left
      ((s1.each secs State.eraseSector).setBytes dst b).updDrain d (fun u => { u with erased := secs ++ u.erased })
    else
      ((s1.charge crew .eth ((u.left + 63) / 64)).each (List.range ((u.left + 1023) / 1024))
        (fun s k => s.drainToEth d (u.passed / 1024 + k) ((u.next + 1024 * k) % (ringBursts * 256)) ((b.drop (1024 * k)).take 1024)))
  let s3 := s2.updDrain d (fun u => { u with next := u.next + u.left, left := 0, passed := u.passed + u.left })
  s3.wrw .SE_DRPTR (if src = 2 then BitVec.ofNat 32 (u.next + u.left) else BitVec.ofNat 32 ((u.next + u.left) % (ringBursts * 256))) d

/-- R450: a drain transfer completes: its bytes have passed, DONE is set and source 656 + d raised. A parked crew's drain waits. -/
def execDrainDone (d : Drain) (s : State) : Out :=
  .next (if s.on SE_DRSTAT_BUSY d.val && !s.parked (s.get SE_DRCFG_CREW d.val) then
    (((s.drainPass d.val).put SE_DRSTAT_BUSY 0 d.val).put SE_DRSTAT_DONE 1 d.val).raise (656 + d.val)
  else s)

/-- R451: the writer has overwritten bursts that a live-ring drain has not read: it moves to the oldest burst. -/
def execDrainOverrun (d : Drain) (s : State) : Out :=
  let u := s.drainU d.val
  let oldest := (s.seam.ringPos - ringBursts) * 256
  .next (if s.on SE_DRSTAT_BUSY d.val && s.get SE_DRCFG_SRC d.val == 1 && decide (u.next < oldest) then
    let gone := min (oldest - u.next) u.left
    ((((s.updDrain d.val (fun u => { u with next := oldest, left := u.left - gone })).wrw .SE_DRPTR
      (BitVec.ofNat 32 (oldest % (ringBursts * 256))) d.val).put SE_DRSTAT_DRAIN_OVERRUN 1 d.val).bumpSat SE_DRSTAT_SKIPPED d.val 0
        (gone / 256)).raise 658
  else s)

/-- Step 3 of R48 for the streams: LEFT reloads from CREDIT (R444). -/
def State.reloadCredit (s : State) : State :=
  s.each (List.range 64) (fun s t => s.put SE_STRSTAT_LEFT (s.get SE_STRCFG_CREDIT t) t)

/-- A record with DT `dt`. -/
def withDt (r : List Word) (dt : Nat) : List Word :=
  match r with
  | [] => []
  | h :: l => setBits h 14 18 dt :: l

/-- Take back the drops of this tick. -/
def State.undrop (s : State) (t : Nat) (x : StreamTick) : State :=
  let n := x.missed.length
  let s1 := (s.updStream t (fun u =>
    { u with dropped := u.dropped - n, lastTime := if u.dropped ≤ n then x.timeWas else u.lastTime })).wrw .SE_STRDROP
      (s.rdw .SE_STRDROP t - BitVec.ofNat 32 n) t
  let s2 := if (s1.streamU t).dropped = 0 then s1.put SE_STRSTAT_DROPPING 0 t else s1
  if x.showed then s2.put SE_SSTAT_DROPSEEN 0 else s2

/-- Records published in the tick of a boundary, before it, belong to the new frame too (R444): the bursts they opened count on its credit and budget, and
those dropped in the tick are admitted anew. -/
def State.streamAnew (s : State) (t : Nat) : State :=
  let x := (s.streamU t).fresh
  if x.tick ≠ s.now then s
  else
    let s1 := s.updStream t (fun u => { u with fresh := ⟨s.now, 0, [], false, none⟩ })
    let s2 := if x.opened = 0 then s1
      else (s1.put SE_STRSTAT_LEFT (s1.get SE_STRSTAT_LEFT t - x.opened) t).charge (s1.get SE_STRCFG_CREW t) .seam x.opened
    if x.missed.isEmpty then s2 else (s2.undrop t x).each x.missed (fun s r => s.admitRecord t (withDt r))

end Sys2Proof.Machine
end

