-- ==== Sys2Proof/Machine/Gate.lean ====
section
/-! DEFINITION. The output gates and what drives them to their safe states: safe-state causes (R14, R148, R172, R180, R466), the two-step
sequence (R182, R184, R185), tripped blocks (R21), the Foreman's latches and outputs (R310, R315, R317, R318), trip broadcasts (R465). -/

namespace Sys2Proof.Machine

/-! ### Units -/

/-- A channel's unit. -/
def State.chan (s : State) (c : Nat) : ChanU := s.power.chans.toList.getD c ChanU.reset

/-- Change a channel's unit. -/
def State.updChan (s : State) (c : Nat) (f : ChanU → ChanU) : State :=
  if h : c < 48 then { s with power := { s.power with chans := upd s.power.chans ⟨c, h⟩ f } } else s

/-- One output of a channel: PWMH when `hi`. -/
def ChanU.side (u : ChanU) (hi : Bool) : OutU := if hi then u.hi else u.lo

/-- Change one output of a channel. -/
def State.updOut (s : State) (c : Nat) (hi : Bool) (f : OutU → OutU) : State :=
  s.updChan c (fun u => if hi then { u with hi := f u.hi } else { u with lo := f u.lo })

/-- One output of a channel. -/
def State.outU (s : State) (c : Nat) (hi : Bool) : OutU := (s.chan c).side hi

/-- A carrier group's unit. -/
def State.grp (s : State) (g : Nat) : GroupU := s.power.groups.toList.getD g GroupU.reset

/-- Change a carrier group's unit. -/
def State.updGrp (s : State) (g : Nat) (f : GroupU → GroupU) : State :=
  if h : g < 8 then { s with power := { s.power with groups := upd s.power.groups ⟨g, h⟩ f } } else s

/-- A block's unit. -/
def State.blkU (s : State) (b : Nat) : BlockU := s.power.blocks.toList.getD b ⟨none, none, false, none, none⟩

/-- Change a block's unit. -/
def State.updBlk (s : State) (b : Nat) (f : BlockU → BlockU) : State :=
  if h : b < 8 then { s with power := { s.power with blocks := upd s.power.blocks ⟨b, h⟩ f } } else s

/-! ### The PWM clock (R155, R385) -/

/-- The synthesizers (R381). -/
def synSys : Nat := 0
def synPwm : Nat := 1
def synConv : Nat := 2
def synSerdes : Nat := 3

/-- The PWM clock runs. -/
def State.pwmClock (s : State) : Bool := s.on WI_SSTAT_LOCKED synPwm

/-- FINE (R155): the PWM synthesizer runs at 250 MHz with no ramp and no spread. -/
def State.fine (s : State) : Bool :=
  s.pwmClock && s.get WI_RSTAT_STATE == 0 && s.get WI_SSCFG_MODE synPwm == 0

/-- A spread lobe's integral to place `x` of its base `2h`, times the base (R387): a triangle that rises to 1 at `h` and falls to 0 at `2h`. -/
def lobe (h x : Nat) : Nat := if x ≤ h then x * x else 2 * h * h - (2 * h - x) * (2 * h - x)

/-- The phase that `n` ticks of spread add or take from the profile start on (R387), with a period of 2,500,000 / SSRATE ticks: one lobe below nominal for
down-spread; one above and one below for centre-spread. The first profile starts where the clock takes its spread (DESIGN CHOICE, log entry 101). -/
def spreadPhase (mode amt rate n : Nat) : Nat :=
  let y := n * rate
  let r := y % 2500000
  if mode = 1 then 16000 * amt * (y / 2500000 * 1250000 * 2500000 + lobe 1250000 r) / (rate * 2500000)
  else 16000 * amt * (if r ≤ 1250000 then lobe 625000 r else lobe 625000 (2500000 - r)) / (rate * 1250000)

/-- The phase that the PWM clock gains in the `n` ticks after it took its frequency or its spread (R169). -/
def State.pwmGain (s : State) (n : Nat) : Nat :=
  let sp := spreadPhase (s.get WI_SSCFG_MODE synPwm) (s.get WI_SSCFG_SSAMT synPwm) (s.get WI_SSCFG_SSRATE synPwm) n
  if s.get WI_SSCFG_MODE synPwm = 1 then 16000000 * n - sp
  else if s.get WI_SSCFG_MODE synPwm = 2 then 16000000 * n + sp
  else 64 * s.get WI_RSTAT_FREQ * n

/-- The PWM clock's phase now; a gated clock stands (R385). -/
def State.pwmPhase (s : State) : Nat :=
  s.winder.base + (if s.pwmClock then s.pwmGain (s.now - s.winder.since) else 0)

/-- The instant of now, in 62.5 ps steps of the PWM clock (R169). -/
def State.instant (s : State) : Nat := s.pwmPhase / 250000

/-- The PWM clock goes on from the phase it has now: what its frequency was no longer matters. -/
def State.rebase (s : State) : State := { s with winder := { s.winder with base := s.pwmPhase, since := s.now } }

/-- The PWM clock's phase is back at the epoch (R386, R389): on a whole tick of its own, the next one (DESIGN CHOICE, log entry 102). -/
def State.realigned (s : State) : State :=
  { s with winder := { s.winder with base := (s.pwmPhase + 15999999) / 16000000 * 16000000, since := s.now } }

/-- The least `n < 2^k` beyond `r` with `p n`, by its bits, for a `p` that stays true from where it is first true. -/
def leastFrom (p : Nat → Bool) : Nat → Nat → Nat
  | 0, r => if p r then r else r + 1
  | k + 1, r => leastFrom p k (if p (r + 2 ^ k) then r else r + 2 ^ k)

/-- The first tick at or after the instant `t` of the PWM clock (R156, R169). -/
def State.tickOf (s : State) (t : Nat) : Nat :=
  let target := t * 250000
  if !s.pwmClock || decide (target ≤ s.pwmPhase) then s.now
  else if s.get WI_SSCFG_MODE synPwm = 0 then
    let f := 64 * atLeast1 (s.get WI_RSTAT_FREQ)
    s.winder.since + (target - s.winder.base + f - 1) / f
  else s.winder.since + leastFrom (fun n => decide (target ≤ s.winder.base + s.pwmGain n)) 40 0

/-- A time in 62.5 ps as an instant of the PWM clock, and an instant as a time, at the clock's frequency now (R168, R169). -/
def State.pwmAt (s : State) (a : Int) : Int := s.instant + ((a - (s.now * 64 : Nat)) * s.get WI_RSTAT_FREQ).fdiv 250000
def State.timeAt (s : State) (t : Nat) : Nat :=
  ((s.now * 64 : Nat) + (((t : Int) - s.instant) * 250000).fdiv (atLeast1 (s.get WI_RSTAT_FREQ) : Nat)).toNat

/-! ### Demands and causes -/

/-- The owning pair of a block has failed and no spare took its blocks, from 1.0 µs after the detection of a fault on (R286, R315). -/
def State.ownerLost (s : State) (b : Nat) : Bool :=
  s.on BLK_BLKCTL_OWNED b && s.get DR_PSTATE_STATE (s.get BLK_BLKCTL_OWNER b) == pairFailed
    && (s.pairU (s.get BLK_BLKCTL_OWNER b)).mate.isNone && !s.armed (.takeover (s.get BLK_BLKCTL_OWNER b))

/-- The SF2 demand of a group: its Foreman latch, its Drift-channel enable clear, or the failure of the owner (R310, R315). -/
def State.sf2Demand (s : State) (g : Nat) : Bool :=
  bit (BitVec.ofNat 32 (s.get FM_FSTAT_SF2INH)) g || !bit (BitVec.ofNat 32 (s.get FM_FSAFEN_PR)) g || s.ownerLost g

/-- A port fault of a channel (R180). -/
def State.portFault (s : State) (c : Nat) : Bool :=
  s.on CG_PSTAT_FB_TIMEOUT c || s.on CG_PSTAT_FB_MISMATCH c

/-- A window is a trip: a latch with TRIPEN (R146), RBFAIL holding both latches set (R151). -/
def State.windowTrips (s : State) (w : Nat) : Bool :=
  s.on CN_WCTL_TRIPEN w && (s.on CN_WSTAT_LATCH_LO w || s.on CN_WSTAT_LATCH_HI w || s.on CN_WCTL_RBFAIL w)

/-- A Canary trip holds channel `c` (R148): a window of its own cell, or one of its block with TSCOPE 1. -/
def State.canaryTrip (s : State) (c : Nat) : Bool :=
  s.windowTrips (2 * c) || s.windowTrips (2 * c + 1) ||
    match s.blockOf c with
    | some b => (s.cellsOf b).any (fun k =>
        (s.on CN_WCTL_TSCOPE (2 * k) && s.windowTrips (2 * k)) || (s.on CN_WCTL_TSCOPE (2 * k + 1) && s.windowTrips (2 * k + 1)))
    | none => false

/-- A received trip holds group `g` (R466). -/
def State.uhlaTrip (s : State) (g : Nat) : Bool := bit (s.rdw .UH_UTRIP) g

/-- The owning pair is halted by the Adit port (R172, R297). -/
def State.ownerHalted (s : State) (b : Nat) : Bool :=
  s.on BLK_BLKCTL_OWNED b && s.on DR_PSTATE_DEBUG (s.get BLK_BLKCTL_OWNER b)

/-- The safe state a channel is held in (R172): none; or both off, or with `true` its SAFE state low-side on. Both off wins. A tripped
block's channels are held both off, and so are those of a cell bound to no block (R166), but for the SAFE state while the control die or the PWM unit
is in reset (R172, R409). From a cold reset, be it of the control die alone (R408), both outputs are held off until firmware writes SAFE. In PARK and
LAMP-ONLY every output is off (R418). -/
def State.gateHold (s : State) (c : Nat) : Option Bool :=
  if s.supply.place != 0 || !(s.chan c).safeSet || s.portFault c then some false else
  match s.blockOf c with
  | none => some (!s.released uPwm && s.get PW_SAFE_SAFE c == 1)
  | some b =>
    if s.on CG_BSTAT_TURNOFF b || s.sf2Demand b || s.blk b == blkTripped then some false
    else if s.blk b != blkRunning || s.canaryTrip c || s.uhlaTrip b || s.ownerHalted b || s.on PW_GATESTAT_PWMCLK_LOST
        || !s.released uPwm then
      some (s.get PW_SAFE_SAFE c == 1)
    else none

/-! ### Pins (R172, R173, R179, R181) -/

/-- 100 ns in ticks, for a count of them. -/
def hundredNs (n : Nat) : Nat := n * 25

/-- BLANK as it acts (R188). -/
def State.blankTicks (s : State) (c : Nat) : Nat :=
  hundredNs (min 100 (max 2 (s.get CG_PCTL_BLANK c)))

/-- The feedback field of an output. -/
def fbField (hi : Bool) : Fld := if hi then CG_PSTAT_FBH else CG_PSTAT_FBL

/-- A strength code as it acts (R174). -/
def strength (code : Nat) : Nat := min 19 code

/-- An output's pin takes level `v`: with the edge DRIVE's strengths come into force (R174), and the feedback reports the level already or not (R179). -/
def State.pinEdge (s : State) (c : Nat) (hi v : Bool) : State :=
  s.updOut c hi (fun o => { o with
    pin := v
    reached := s.on (fbField hi) c == v
    src := strength (s.get (if hi then PW_DRIVE_SRCH else PW_DRIVE_SRCL) c)
    snk := strength (s.get (if hi then PW_DRIVE_SNKH else PW_DRIVE_SNKL) c) })

/-- Drive a pin at the output gate. An edge opens the output's check window (R179) while FBEN is 1, and a turn-on starts blanking (R181). -/
def State.setPin (s : State) (c : Nat) (hi v : Bool) : State :=
  if (s.outU c hi).pin = v then s
  else
    let s1 := s.pinEdge c hi v
    let s2 := if s1.on CG_PCTL_FBEN c then s1.arm (.fbCheck c hi) (hundredNs (atLeast1 (s1.get CG_PCTL_FBTO c))) else s1
    if v then (s2.put CG_PSTAT_BLANKING 1 c).arm (.blank c) (s2.blankTicks c)
    else if (s2.outU c (!hi)).pin then s2
    else (s2.put CG_PSTAT_BLANKING 0 c).disarm (.blank c)

/-- A turn-on that the interlock was waiting to issue is not issued (R180). -/
def State.unwait (s : State) (c : Nat) (hi : Bool) : State :=
  (s.updOut c hi (fun o => { o with waiting := false })).disarm (.turnOn c hi)

/-- Bring a channel's pins to what the output gate makes of its causes: held in a safe state (R172), or released, when an output whose
command is off turns off at once and one whose command is on waits for its next turn-on (R173). -/
def State.regate (s : State) (c : Nat) : State :=
  match s.gateHold c with
  | some low => ((((s.unwait c true).unwait c false).put PW_CHSTAT_SAFE_ACTIVE 1 c).setPin c true false).setPin c false low
  | none =>
    if s.on PW_CHSTAT_SAFE_ACTIVE c then
      let s1 := s.put PW_CHSTAT_SAFE_ACTIVE 0 c
      let s2 := s1.setPin c true ((s1.outU c true).pin && (s1.outU c true).cmd)
      s2.setPin c false ((s2.outU c false).pin && (s2.outU c false).cmd)
    else s

/-- Every channel of a block. -/
def State.regateBlock (s : State) (b : Nat) : State := s.each (s.cellsOf b) State.regate

/-- Every channel. -/
def State.regateAll (s : State) : State := s.each (List.range 48) State.regate

/-! ### Ramp generators of a block (R191) -/

/-- Ramp generator states (R201). -/
def rampIdle : Nat := 0
def rampWait : Nat := 1
def rampRun : Nat := 2
def rampHeld : Nat := 3

/-- Whether a ramp generator is bound to cell `c`. -/
def State.rampOn (s : State) (r c : Nat) : Bool := s.get RG_RCTL_CELL r == c

/-- A generator in RUN or WAIT whose block enters TRIPPED or STOPPED: HELD with ABORTED, RVAL frozen, the ramp-end event raised (R191). -/
def State.abortRamps (s : State) (b : Nat) : State :=
  s.each (List.range 24) (fun s r =>
    let st := s.get RG_RSTAT_STATE r
    let c := s.get RG_RCTL_CELL r
    if (st = rampRun || st = rampWait) && s.blockOf c == some b && decide (c < 48) then
      ((s.put RG_RSTAT_STATE rampHeld r).put RG_RSTAT_ABORTED 1 r).raise (192 + c)
    else s)

/-! ### Trips and sequences -/

/-- The state that a block held before the requests of this tick, if there were any (R21). -/
def State.askedFrom (s : State) (b : Nat) : Option Nat :=
  match (s.blkU b).asked with
  | some (t, st) => if t = s.now then some st else none
  | none => none

/-- An ARMED or RUNNING block enters TRIPPED; a pending exit is cancelled. A request of the same tick has had no effect, and STATE_DENIED is set (R21). -/
def State.tripBlock (s : State) (b : Nat) : State :=
  let from_ := s.askedFrom b
  if s.blk b = blkArmed || s.blk b = blkRunning || (s.blk b = blkStopped && from_.any (· != blkStopped)) then
    let s1 := (s.put BLK_BLKCTL_STATE blkTripped b).updBlk b (fun u => { u with exit := none, tripped := some s.now })
    ((if from_.isSome then s1.put BLK_BLKCTL_STATE_DENIED 1 b else s1).abortRamps b).coastPick
  else s

/-- STEP as it acts (R188). -/
def State.stepTicks (s : State) (b : Nat) : Nat :=
  hundredNs (min 50 (max 5 (s.get CG_BCTL_STEP b)))

/-- The level at a block's SOFT pin follows SOFT and SOFTPOL (R182, R188). -/
def State.driveSoft (s : State) (b : Nat) : State :=
  s.updBlk b (fun u => { u with softPin := s.on CG_BSTAT_SOFT b != s.on CG_BCTL_SOFTPOL b })

/-- Start the two-step sequence of a block unless one is in progress or a block turn-off is still active after its step 2 (R182, R184, R185). -/
def State.softStart (s : State) (b : Nat) : State :=
  if s.on CG_BSTAT_SOFT b || s.on CG_BSTAT_TURNOFF b then s
  else ((((s.put CG_BSTAT_SOFT 1 b).driveSoft b).put CG_BSTAT_STEP2 0 b).bumpSat CG_BSTAT_SEQCOUNT b).arm (.softStep b) (s.stepTicks b)

/-- A Cage record (R443). -/
def State.cageRecord (s : State) (c kind stamp : Nat) : State :=
  s.record 51 0 6 c [BitVec.ofNat 32 kind, BitVec.ofNat 32 stamp, BitVec.ofNat 32 (s.get CG_PSTAT_DS_HL c)]

/-- The Uhla ports run: the unit is out of reset with its clock, and EN is 1 (R385, R407, R455). -/
def State.uhlaRuns (s : State) : Bool := s.released uUhla && s.on UH_UCTL_EN && s.on WI_SSTAT_LOCKED synSerdes

/-- Send a trip: a new event of TXSRC bit `k` with the groups `mask` (R465). For bits 0 and 1 the groups are those in TXMASK. An isolated
device sends none (R455). -/
def State.tripSend (s : State) (k mask : Nat) : State :=
  let m := if k = 2 then mask else mask &&& s.get UH_UTRIPCFG_TXMASK
  if s.uhlaRuns && !s.on UH_USTAT_ISOLATED && bit (BitVec.ofNat 32 (s.get UH_UTRIPCFG_TXSRC)) k && m != 0 then
    let q := (s.uhla.seq + 1) % 16
    let s1 := { s with uhla := { s.uhla with seq := q, sentAt := s.now, returned := false, trips := ⟨q, m, k⟩ :: s.uhla.trips } }
    (s1.arm .tripRepeat us).raise 897
  else s

/-! ### Foreman latches and outputs -/

/-- A bit of a field. -/
def State.bitOf (s : State) (f : Fld) (k : Nat) (i j : Nat := 0) : Bool := bit (BitVec.ofNat 32 (s.get f i j)) k

/-- Whether any Foreman latch is set (R317). -/
def State.anyLatch (s : State) : Bool :=
  s.on FM_FSTAT_SF1OPEN || s.on FM_FSTAT_SF3DEM || s.on FM_FSTAT_SF2INH

/-- FSTAMP is written when no latch was set (R317). -/
def State.fmStamp (s : State) : State :=
  if s.anyLatch then s else s.put FM_FSTAMP_STAMP s.stamp

/-- A little-endian word of the parameter block in force. -/
def State.fmParam (s : State) (off n : Nat) : Nat :=
  match s.fm.param with
  | some b => leNat ((b.drop off).take n)
  | none => 0

/-- Whether output `k` is used (OUTCFG, R324). -/
def State.outUsed (s : State) (k : Nat) : Bool := bit (BitVec.ofNat 32 (s.fmParam 0x48 4)) k

/-- The Drift-channel enable of an output (R310). -/
def State.outEnable (s : State) (k : Nat) : Bool :=
  if k < 3 then s.on FM_FSAFEN_SF1 else s.bitOf FM_FSAFEN_BRK (k - 3)

/-- The functional command of an output (R310): FCMD, for a brake also a running brake test (R321). -/
def State.outCommand (s : State) (k : Nat) : Bool :=
  bit (s.rdw .FM_FCMD) k

/-- The Foreman latch of an output's function (R310). -/
def State.outLatch (s : State) (k : Nat) : Bool :=
  if k < 3 then s.on FM_FSTAT_SF1OPEN else s.bitOf FM_FSTAT_SF3DEM (k - 3)

/-- Scopes (R421). -/
def scopeFull : Nat := 0
def scopeControl : Nat := 1
def scopeDevice : Nat := 2
def scopePair : Nat := 3

/-- Life-cycle states (R356). -/
def lcBlank : Nat := 0
def lcMaker : Nat := 1
def lcIntegrate : Nat := 2
def lcField : Nat := 3
def lcReturn : Nat := 4
def lcScrap : Nat := 5

/-- The life-cycle state. -/
def State.lc (s : State) : Nat := s.bank.lc

/-- The control die is powered and past a cold reset (R13, R406). -/
def State.dieRuns (s : State) : Bool := s.supply.place == 0 && (s.supply.step == 6 || decide (scopeDevice ≤ s.supply.scope))

/-- Whether an output is on, its off-pulse left aside (R310, R318); in SCRAP, without VAUX, and with the control die unpowered or in reset,
every output is off (R13, R337, R394). A brake test drives its brake's output on until the 50 ms after release
end (R321). -/
def State.outOn (s : State) (k : Nat) : Bool :=
  s.outUsed k && s.lc != lcScrap && s.supply.vaux && s.dieRuns && s.outEnable k && !s.outLatch k &&
    ((s.outCommand k && s.fm.live.toList.getD k false)
      || (decide (3 ≤ k) && s.bitOf FM_BTEST_BUSY (k - 3) && !s.armed (.brakeEngage (k - 3))))

/-- The outputs' drives follow their terms (R310, R319). -/
def State.fmOutputs (s : State) : State :=
  { s with fm := { s.fm with
      drive := Vector.ofFn (fun k : Fin 5 => s.outOn k.val && !s.fm.pulse[k])
      pulse := Vector.ofFn (fun k : Fin 5 => s.outOn k.val && s.fm.pulse[k])
      nodeAt := Vector.ofFn (fun k : Fin 5 => if (s.outOn k.val && !s.fm.pulse[k]) = s.fm.drive[k] then s.fm.nodeAt[k] else s.now)
      driveAt := Vector.ofFn (fun k : Fin 5 => if s.outOn k.val = (s.fm.drive[k] || s.fm.pulse[k]) then s.fm.driveAt[k] else s.now) } }

/-- After a demand an output stays off until FCMD writes its bit again (R318). -/
def State.dropLive (s : State) (ks : List Nat) : State :=
  { s with fm := { s.fm with live := Vector.ofFn (fun k : Fin 5 => s.fm.live[k] && !ks.contains k.val) } }

/-- A further SF2 demand on a group whose inhibit is in force: an ARMED block enters TRIPPED all the same (R21). -/
def State.inhibitMore (s : State) (g : Nat) : State := (s.tripBlock g).regateBlock g

/-- The SF2 inhibit of a group begins: the two-step sequence, the block TRIPPED, the outputs both off (R184, R315). -/
def State.pulseInhibit (s : State) (g : Nat) : State :=
  ((s.softStart g).tripBlock g).regateBlock g

/-- The latch of bit `k` is demanded in the sample of now (R317): bit 0 SF1, bits 1 to 8 SF2, bits 9 and 10 SF3. -/
def State.demand (s : State) (k : Nat) : State := { s with fm := { s.fm with fresh := s.fm.fresh ||| 2 ^ k } }

/-- A Foreman-side SF2 demand on a group (R315, R317). -/
def State.sf2Latch (s₀ : State) (g : Nat) : State :=
  let s := s₀.demand (1 + g)
  if s.bitOf FM_FSTAT_SF2INH g then s.inhibitMore g
  else
    let was := s.sf2Demand g
    let s1 := ((s.fmStamp.orPut FM_FSTAT_SF2INH (2 ^ g)).raise 961).tripSend 1 (2 ^ g)
    if was then s1.inhibitMore g else s1.pulseInhibit g

/-- A Foreman-side SF2 demand on every group of a mask. -/
def State.sf2LatchMask (s : State) (mask : Nat) : State :=
  s.each ((List.range 8).filter (fun g => bit (BitVec.ofNat 32 mask) g)) State.sf2Latch

/-- A Drift-side SF2 demand, which sets no latch (R315): the inhibit begins where it was not in force in `before`; where it was, a demand of the
enable or of the owner that `before` did not show is a further one. -/
def State.sf2Drift (s before : State) : State :=
  s.each (List.range 8) (fun s g =>
    if s.sf2Demand g && !before.sf2Demand g then s.pulseInhibit g
    else if (s.ownerLost g && !before.ownerLost g) || (!s.bitOf FM_FSAFEN_PR g && before.bitOf FM_FSAFEN_PR g) then s.inhibitMore g
    else s.regateBlock g)

/-- An SF1 demand of either side is an SF2 demand for every group (R315). -/
def State.sf1Inhibit (s : State) : State := s.sf2LatchMask 0xFF

/-- A Foreman-side SF1 demand (R315, R317). -/
def State.sf1Latch (s₀ : State) : State :=
  let s := s₀.demand 0
  let s1 := if s.on FM_FSTAT_SF1OPEN then s else (s.fmStamp.put FM_FSTAT_SF1OPEN 1).raise 960
  ((s1.dropLive [0, 1, 2]).fmOutputs).sf1Inhibit

/-- A brake test of brake `n` ends without a pass (R321). -/
def State.brakeTestStop (s : State) (n : Nat) : State :=
  if s.bitOf FM_BTEST_BUSY n then
    ((((s.put FM_BTEST_BUSY (s.get FM_BTEST_BUSY &&& (3 - 2 ^ n))).disarm (.brakeRelease n)).disarm (.brakeHold n)).disarm
      (.brakeEngage n)).raise 965
  else s

/-- A Foreman-side SF3 demand on brake `n` (R315, R317); a test of that brake ends (R321). -/
def State.sf3Latch (s₀ : State) (n : Nat) : State :=
  let s := s₀.demand (9 + n)
  let s1 := if s.bitOf FM_FSTAT_SF3DEM n then s else (s.fmStamp.orPut FM_FSTAT_SF3DEM (2 ^ n)).raise 962
  (((s1.brakeTestStop n).dropLive [3 + n])).fmOutputs

/-- FAULT_N (R284, R326) and its status bits. -/
def State.faultLine (s : State) : State :=
  let drift := (List.range 16).any (fun n =>
    let st := s.get DR_PSTATE_STATE n
    st == pairFailed || st == pairRecovery || (s.pairU n).faulted)
  let fm := s.on FM_FSTAT_FST_FAIL || s.on FM_FSTAT_OUT_FAIL || s.on FM_FSTAT_MIR_FAIL || s.on FM_FSTAT_SEAL_PENDING
    || s.on FM_FSTAT_NOPARAM || s.supply.bootFail
  let s1 := (s.put DR_DSTAT_FAULTN drift.toNat).put FM_FSTAT_FAULTN fm.toNat
  { s1 with fm := { s1.fm with faultN := drift || fm } }

/-! ### Cage block turn-off (R182, R185, R186) -/

/-- Whether a latch that turns a block off is set in any of its cells (R182). -/
def State.blockLatched (s : State) (b : Nat) : Bool :=
  (s.cellsOf b).any (fun c => s.on CG_PSTAT_DS_LATCH c || s.on CG_PSTAT_FB_BOTHON c)

/-- Note the outputs, past their blanking, that a block turn-off finds on: its network reaches the gates 50 ns later (R182). -/
def State.noteOn (s : State) (b : Nat) : State :=
  s.each (s.cellsOf b) (fun s c =>
    let u := s.chan c
    if s.on CG_PSTAT_BLANKING c then s
    else if u.hi.pin then s.updChan c (fun u => { u with netOff := some (true, s.now) })
    else if u.lo.pin then s.updChan c (fun u => { u with netOff := some (false, s.now) })
    else s)

/-- Start of a block turn-off by a latch of cell `c` (R182): TURNOFF, the sequence, TRIPPED, the event source, the record, the trip broadcast,
and the escalation of R186. -/
def State.turnoffStart (s : State) (b c : Nat) : State :=
  if s.on CG_BSTAT_TURNOFF b then s
  else
    let s0 := s.noteOn b
    let s1 := (if s0.on CG_BSTAT_SOFT b then s0
      else ((s0.softStart b).put CG_BSTAT_FIRSTCELL c b).cageRecord c 5 s0.stamp).put CG_BSTAT_TURNOFF 1 b
    let s2 := (((s1.tripBlock b).updBlk b (fun u => { u with turnoffAt := some s1.now })).raise (496 + b)).tripSend 0 (2 ^ b)
    let s3 := s2.regateBlock b
    let near := (List.range 8).any (fun k => k != b && match (s3.blkU k).turnoffAt with
      | some t => decide (s3.now ≤ t + 10 * us)
      | none => false)
    if near then (((s3.put CG_CGSTAT_ESCALATED 1).put FM_FCAUSE_ESCALATED 1).raise 504).sf2LatchMask 0xFF else s3

/-- A block's turn-off follows the latches of the cells bound to it (R182): it starts with a latched cell, and ends with the last. -/
def State.followTurnoff (s : State) (b : Nat) : State :=
  match (s.cellsOf b).find? (fun c => s.on CG_PSTAT_DS_LATCH c || s.on CG_PSTAT_FB_BOTHON c) with
  | some c => s.turnoffStart b c
  | none => if s.on CG_BSTAT_TURNOFF b then (s.put CG_BSTAT_TURNOFF 0 b).regateBlock b else s

/-- The latches of a port that a clear attempt clears, in the order of `latchedAt` (R187). -/
def portLatches : List Fld := [CG_PSTAT_DS_LATCH, CG_PSTAT_FB_TIMEOUT, CG_PSTAT_FB_MISMATCH, CG_PSTAT_FB_BOTHON]

/-- Latch `k` of a port becomes set, if it is not: its tick (R187). -/
def State.portLatch (s : State) (c k : Nat) : State :=
  let f := portLatches.getD k CG_PSTAT_DS_LATCH
  if s.on f c then s
  else (s.put f 1 c).updChan c (fun u => { u with latchedAt := if h : k < 4 then u.latchedAt.set k s.now h else u.latchedAt })

/-- The filtered DSAT level of a port (R181): the level once it has held for DSFILT × 4 ns, until then the one before. -/
def State.dsFiltered (s : State) (c : Nat) : Bool :=
  let (t, was) := (s.chan c).dsat
  if t + s.get CG_PCTL_DSFILT c ≤ s.now then s.on CG_PSTAT_DSAT c else was

/-- Whether the source of latch `k` of a port is active (R187): the filtered DSAT level, or feedback that does not report both switches off. -/
def State.latchSource (s : State) (c k : Nat) : Bool :=
  if k = 0 then s.dsFiltered c else s.on CG_PSTAT_FBH c || s.on CG_PSTAT_FBL c

/-- One clear attempt on a port (R187): at an edge of m the latches set in this tick are not tried. -/
def State.clearAttempt (s : State) (c : Nat) (edge : Bool) : State :=
  let tried := (List.range 4).filter (fun k =>
    s.on (portLatches.getD k CG_PSTAT_DS_LATCH) c && (!edge || decide ((s.chan c).latchedAt.toList.getD k 0 < s.now)))
  let s1 := s.each tried (fun s k => if s.latchSource c k then s.put CG_PSTAT_CLEAR_DENIED 1 c else s.put (portLatches.getD k CG_PSTAT_DS_LATCH) 0 c)
  if tried.isEmpty then s
  else match s1.blockOf c with
    | some b => (s1.followTurnoff b).regateBlock b
    | none => s1.regate c

end Sys2Proof.Machine
end

