-- ==== Sys2Proof/Machine/Pwm.lean ====
section
/-! DEFINITION. PWM channels and carrier groups: compare and modulation (R157, R158), the interlock (R159), update sets (R161 to R165),
overrides (R170, R171), duty writes (R164), and the writes of their registers. Carrier events are in Machine/Carrier.lean. -/

namespace Sys2Proof.Machine

/-! ### Compare and carrier arithmetic (R154, R155, R157) -/

/-- The group of a cell's channel (R17). -/
def State.groupOf (s : State) (c : Nat) : Option Nat := s.blockOf c

/-- A Q16.16 number of prescaled counts in 62.5 ps steps, truncated to the resolution of R155. -/
def countSteps (q pre : Nat) : Nat := q * 2 ^ pre / 1024

/-- A Q16.16 number truncated to the resolution of R155. -/
def truncCount (q pre : Nat) : Nat := q / 2 ^ (10 - pre) * 2 ^ (10 - pre)

/-- The active period of a group, Q16.16. -/
def State.actPrd (s : State) (g : Nat) : Nat := s.get PW_GRPACT_PRD g

/-- A half period of a group in 62.5 ps steps. -/
def State.halfSteps (s : State) (g : Nat) : Nat := countSteps (s.actPrd g) (s.get PW_GRPCTL_PRE g)

/-- Whether a period is admissible: PRD × 2^PRE within 62.5 to 250,000 (R154). -/
def prdOk (prd pre : Nat) : Bool :=
  decide (prd < 2 ^ 31) && decide (4096000 ≤ prd * 2 ^ pre) && decide (prd * 2 ^ pre ≤ 16384000000)

/-- The active compare CMP of a channel (R157). -/
def State.cmpOf (s : State) (c : Nat) : Nat :=
  match s.groupOf c with
  | none => 0
  | some g =>
    let prd := s.actPrd g
    let d := (s.chan c).duty
    let pre := s.get PW_GRPCTL_PRE g
    let ratio (q : Nat) : Nat := if q = 65535 then truncCount prd pre else truncCount (q * prd / 65536) pre
    if let some r := (s.chan c).held then ratio (r.toNat % 65536)
    else if s.on PW_CHCTL_FORM c then truncCount (min (d.toInt.toNat) prd) pre
    else ratio (d.toNat % 65536)

/-- ACTCMP shows the compare in force (R161). -/
def State.showCmp (s : State) (c : Nat) : State := s.put PW_ACTCMP_CMP (s.cmpOf c) c

/-! ### Modulation (R158) -/

/-- An edge's instant as the delay lines place it: rounded down to a whole tick while FINE is 0 (R155). -/
def State.edgePlace (s : State) (t : Nat) : Nat := if s.fine then t else t / 64 * 64

/-- The instant of the next edge of m in the half period in progress under a compare of `cmp` steps that governs from `from_` on, if it has one (R158). -/
def State.edgeUnder (s : State) (c g cmp from_ : Nat) : Option Nat :=
  let u := s.grp g
  let k := s.chan c
  let half := s.halfSteps g
  if u.falling then
    if k.m || cmp = 0 then none else some (s.edgePlace (max from_ (u.lastAt + (half - cmp))))
  else if k.m then
    if cmp ≥ half then none else some (s.edgePlace (max from_ (u.lastAt + cmp)))
  else
    let t := max from_ u.lastAt
    if k.done || decide (t ≥ u.lastAt + cmp) then none else some (s.edgePlace t)

/-- The instant of the channel's next edge of m in the half period in progress, if it has one (R158). While the carrier stands or dwells m holds. A
compare written at once governs the edges from 4 ns after the write on, the one before it those that lie earlier (R160). -/
def State.nextEdge (s : State) (c : Nat) : Option Nat :=
  match s.groupOf c with
  | none => none
  | some g =>
    let cmp := countSteps (s.cmpOf c) (s.get PW_GRPCTL_PRE g)
    if !s.on PW_GRPSTAT_RUN g || s.on PW_GRPSTAT_DWELL g || !s.pwmClock then none
    else match (s.chan c).cmpWas with
      | some (was, from_, at_) =>
        match (s.edgeUnder c g was from_).filter (fun t => decide (t < at_ + 64)) with
        | some t => some t
        | none => s.edgeUnder c g cmp (at_ + 64)
      | none => s.edgeUnder c g cmp 0

/-- Time moves on to the first tick at or after an instant of the PWM clock (R156). -/
def State.advanceToInstant (s : State) (t : Nat) : State := s.advanceTo (s.tickOf t)

/-! ### Interlock (R159) -/

/-- The dead time in force, in 62.5 ps steps; whole ticks, rounded up, while FINE is 0 (R155). -/
def State.deadSteps (s : State) (c : Nat) : Nat :=
  let d := (s.chan c).dt
  if s.fine then d else (d + 63) / 64 * 64

/-- Whether the partner's feedback reports off; without FBEN the interlock waits for DT alone (R178). -/
def State.partnerOff (s : State) (c : Nat) (hi : Bool) : Bool :=
  !s.on CG_PCTL_FBEN c || !s.on (if hi then CG_PSTAT_FBL else CG_PSTAT_FBH) c

/-- The instant from which a waiting turn-on may be issued (R159). -/
def State.readyAt (s : State) (c : Nat) (hi : Bool) : Nat :=
  match (s.outU c (!hi)).offAt with
  | some t => t + s.deadSteps c
  | none => 0

/-- Issue a waiting turn-on if DT has elapsed and the partner is off; otherwise wait for DT, or for the feedback (R159). -/
def State.tryOn (s : State) (c : Nat) (hi : Bool) (t : Nat) : State :=
  let o := s.outU c hi
  if !o.waiting || (s.outU c (!hi)).cmd then s
  else if s.readyAt c hi > t then
    { s with timers := (.turnOn c hi, s.tickOf (s.readyAt c hi)) :: (s.disarm (.turnOn c hi)).timers }
  else if s.partnerOff c hi then
    ((s.unwait c hi).updOut c hi (fun o => { o with out := true })).setPin c hi true
  else s

/-- A turn-off command: never delayed; a turn-on still waiting is a dropped pulse (R159). -/
def State.cmdOff (s : State) (c : Nat) (hi : Bool) (t : Nat) : State :=
  let o := s.outU c hi
  if !o.cmd then s
  else
    let s1 := if o.waiting then (s.unwait c hi).put PW_CHSTAT_DROPPED_PULSE 1 c else s
    let s2 := s1.updOut c hi (fun o => { o with cmd := false, out := false, offAt := some t })
    if s2.on PW_CHSTAT_SAFE_ACTIVE c then s2 else s2.setPin c hi false

/-- A turn-on command; while the gate holds the outputs the interlock issues none (R173, R180). -/
def State.cmdOn (s : State) (c : Nat) (hi : Bool) (t : Nat) : State :=
  if (s.outU c hi).cmd then s
  else
    let s1 := s.updOut c hi (fun o => { o with cmd := true })
    if s1.on PW_CHSTAT_SAFE_ACTIVE c then s1
    else (s1.updOut c hi (fun o => { o with waiting := true })).tryOn c hi t

/-- The commands of m and the overrides: INV, SWAP, then the forces (R170). -/
def ovrCommands (ovr : Word) (m : Bool) : Bool × Bool :=
  let x := m != (PW_OVR_INV.of ovr == 1)
  let h := if PW_OVR_SWAP.of ovr == 1 then !x else x
  let force (f : Nat) (v : Bool) : Bool := if f = 1 then false else if f = 2 then true else v
  (force (PW_OVR_FRCH.of ovr) h, force (PW_OVR_FRCL.of ovr) (!h))

/-- Give the interlock the channel's commands at instant `t₀`, turn-offs first. A channel of no block has no carrier (R166). -/
def State.emit (s : State) (c t₀ : Nat) : State :=
  let t := s.edgePlace t₀
  let (h, l) := match s.groupOf c with
    | none => (false, false)
    | some _ => ovrCommands (s.chan c).ovr (s.chan c).m
  let s1 := if h then s else s.cmdOff c true t
  let s2 := if l then s1 else s1.cmdOff c false t
  let s3 := if h then s2.cmdOn c true t else s2
  if l then s3.cmdOn c false t else s3

/-- An edge of m at instant `t` (R158): the port's clear attempt (R187), then the commands. -/
def State.mEdge (s : State) (c t : Nat) (v : Bool) : State :=
  let rising := match s.groupOf c with
    | some g => !(s.grp g).falling
    | none => false
  let s1 := s.updChan c (fun u => { u with m := v, done := u.done || (rising && !v) })
  (s1.clearAttempt c true).emit c t

/-- R158: the carrier crosses CMP and m turns on or off. -/
def execModulationEdge (c : Cell) (s : State) : Out :=
  .next (match s.nextEdge c.val with
    | none => s
    | some t => (s.advanceToInstant t).mEdge c.val t (!(s.chan c.val).m))

/-- R159: the turn-on delay of an output ends. A command that ends at that instant emits no pulse. -/
def execTurnOnDelayEnd (c : Cell) (hi : Bool) (s : State) : Out :=
  .next (s.onTimer (.turnOn c.val hi) (fun s =>
    let ready := s.readyAt c.val hi
    match s.nextEdge c.val with
    | some t => if t ≤ ready then s else s.tryOn c.val hi (max ready s.instant)
    | none => s.tryOn c.val hi (max ready s.instant)))

/-! ### Update sets (R161 to R165) -/

/-- The shadow of a group as it stands, copied now. -/
def State.shadowSet (s : State) (g : Nat) : UpdateSet :=
  { prd := s.rdw .PW_GRPPRD g, phase := s.rdw .PW_GRPPHASE g,
    chans := (s.cellsOf g).map (fun c =>
      ⟨c, if s.on PW_CHCTL_IMM c then none else some (s.rdw .PW_DUTY c), (s.chan c).written, s.get PW_DT_DT c⟩),
    copied := s.now }

/-- The shadow as it becomes active at EN (R163), every duty in it. -/
def State.wholeShadow (s : State) (g : Nat) : UpdateSet :=
  let u := s.shadowSet g
  { u with chans := u.chans.map (fun k => { k with written := true }) }

/-- The channels' note that their duty is in a copied set. -/
def State.clearWritten (s : State) (g : Nat) : State :=
  s.each (s.cellsOf g) (fun s c => s.updChan c (fun u => { u with written := false }))

/-- A duty of the channel was written at once in this tick (R164). -/
def State.wroteNow (s : State) (c : Nat) : Bool :=
  s.on PW_CHCTL_IMM c && match (s.chan c).cmpWas with
    | some (_, _, at_) => at_ == s.instant
    | none => false

/-- One channel takes its part of an applied set (R163, R165): ACTCMP still shows the compare at the old period. The clamp acts on the compare before an
immediate write of the same tick, which then acts against the new period (R164). -/
def State.applyChan (s : State) (g oldPrd : Nat) (k : ChanSet) : State :=
  let c := k.cell
  let changed := oldPrd != s.actPrd g
  let s1 := s.updChan c (fun u => { u with dt := k.dt })
  let s2 :=
    if changed && s1.on PW_CHCTL_FORM c && (k.duty.isNone || !k.written) then
      (if s1.wroteNow c then s1
        else s1.updChan c (fun u => { u with duty := BitVec.ofNat 32 (min (s.get PW_ACTCMP_CMP c) (s1.actPrd g)) })).put PW_CHSTAT_SPLIT_UPDATE 1 c
    else match k.duty with
      | some d => s1.updChan c (fun u => { u with duty := d })
      | none => s1
  s2.showCmp c

/-- A PHASE in 62.5 ps steps, modulo the period (R167). -/
def State.phaseSteps (s : State) (g : Nat) (phase : Word) : Nat :=
  let per := 2 * s.halfSteps g
  if per = 0 then 0 else countSteps phase.toNat (s.get PW_GRPCTL_PRE g) % per

/-- A channel's part of a set; none of its own for a cell bound since the set was copied. -/
def State.partOf (s : State) (u : UpdateSet) (c : Nat) : ChanSet :=
  (u.chans.find? (fun k => k.cell == c)).getD ⟨c, none, false, (s.chan c).dt⟩

/-- Make a set active (R163, R165, R167): a change of PHASE becomes a dwell of (new - old) modulo the period at the next peak. -/
def State.applySet (s : State) (g : Nat) (u : UpdateSet) : State :=
  let old := s.actPrd g
  let s1 := s.put PW_GRPACT_PRD u.prd.toNat g
  let per := 2 * s1.halfSteps g
  let delta := if per = 0 then 0 else (s1.phaseSteps g u.phase + per - s1.phaseSteps g (s1.grp g).phase) % per
  let s2 := s1.updGrp g (fun x => { x with phase := u.phase, dwell := x.dwell + delta })
  s2.each (s2.cellsOf g) (fun s c => s.applyChan g old (s.partOf u c))

/-- A set copied while another is pending: a duty written into the one that it replaces is written into it (R162, R165). -/
def UpdateSet.merge (u : UpdateSet) (old : Option UpdateSet) : UpdateSet :=
  match old with
  | none => u
  | some o => { u with chans := u.chans.map (fun k => { k with written := k.written || o.chans.any (fun j => j.cell == k.cell && j.written) }) }

/-- COMMIT (R162). With AUTOC it has no effect (R163). -/
def State.commitSet (s : State) (g : Nat) : State :=
  if s.on PW_GRPCTL_AUTOC g then s
  else if prdOk (s.get PW_GRPPRD_PRD g) (s.get PW_GRPCTL_PRE g) then
    let s1 := if s.on PW_GRPCOMMIT_PENDING g then s.put PW_GRPCOMMIT_COMMIT_MERGED 1 g else s
    ((s1.updGrp g (fun u => { u with pend := some ((s1.shadowSet g).merge u.pend) })).clearWritten g).put PW_GRPCOMMIT_PENDING 1 g
  else s.put PW_GRPCOMMIT_PRD_DENIED 1 g

/-- A write to GRPCOMMIT by a master that R19 admits. One whose COMMIT fails the check has no other effect (R162). -/
def State.grpcommitWrite (s : State) (g : Nat) (v : Word) : State :=
  if PW_GRPCOMMIT_COMMIT.of v = 1 ∧ !s.on PW_GRPCTL_AUTOC g ∧ !prdOk (s.get PW_GRPPRD_PRD g) (s.get PW_GRPCTL_PRE g) then
    s.put PW_GRPCOMMIT_PRD_DENIED 1 g
  else
    let s1 := s.regWrite .PW_GRPCOMMIT v g
    if PW_GRPCOMMIT_COMMIT.of v = 1 then s1.commitSet g else s1

/-- The carrier of a group stands: EN cleared, m and the commands keep their values. -/
def State.carrierStop (s : State) (g : Nat) : State :=
  (((s.put PW_GRPSTAT_RUN 0 g).put PW_GRPSTAT_SYNCLOCK 0 g).put PW_GRPSTAT_DWELL 0 g).updGrp g (fun u => { u with startAt := none })

/-- The next valley of a running group, in 62.5 ps steps: its carrier's place continued, its correction for this period and the dwell of its coming peak
included (R167, R168). -/
def State.refValley (s : State) (r : Nat) : Nat :=
  let u := s.grp r
  let half := s.halfSteps r
  if s.on PW_GRPSTAT_DWELL r then u.dwellEnd + half
  else (((if u.falling then u.lastAt + half else u.lastAt + 2 * half + u.dwell : Nat) : Int) + u.adjust).toNat

/-- The instants PHASE behind the last and the next valley of a group's reference (R167). -/
def State.lagPlaces (s : State) (g : Nat) : List Int :=
  let r := s.get PW_GRPCTL_SYNCGRP g
  let lag : Int := s.phaseSteps g (s.grp g).phase
  let next : Int := s.refValley r + lag
  [if (s.grp r).falling || s.on PW_GRPSTAT_DWELL r then next - 2 * s.halfSteps r else (s.grp r).lastAt + lag, next]

/-- Whether a group's reference group runs with the same active period and prescaler (R167). -/
def State.refMatches (s : State) (g : Nat) : Bool :=
  let r := s.get PW_GRPCTL_SYNCGRP g
  r != g && s.on PW_GRPSTAT_RUN r && s.actPrd r == s.actPrd g && s.get PW_GRPCTL_PRE r == s.get PW_GRPCTL_PRE g

/-- Where a group that follows another of the device places its first valley at EN (R163, R167): PHASE behind a valley of the reference that runs, the
first such instant from the next tick on; with the reference at rest its next start places it. -/
def State.followStart (s : State) (g : Nat) : Option Nat :=
  let r := s.get PW_GRPCTL_SYNCGRP g
  if r != g && s.on PW_GRPSTAT_RUN r then
    let from_ : Int := s.instant + 64
    let next := (s.lagPlaces g).getLastD 0
    some (((s.lagPlaces g).find? (fun t => decide (from_ ≤ t))).getD (next + 2 * s.halfSteps r)).toNat
  else none

/-- EN written 1 (R163): the shadow becomes active, a pending set is dropped and NCOUNT starts at 0; a free carrier starts in the next tick, a
synchronised one where R167 or R168 places its valley. The start is the group's first valley. -/
def State.carrierEnable (s : State) (g : Nat) : State :=
  let s1 := (((s.applySet g (s.wholeShadow g)).clearWritten g).put PW_GRPSTAT_NCOUNT 0 g).put PW_GRPCOMMIT_PENDING 0 g
  s1.updGrp g (fun u => { u with
    pend := none, dwell := 0, adjust := 0, missing := 0
    startAt := match s1.get PW_GRPCTL_SYNCSRC g with
      | 0 => some (s1.instant + 64)
      | 1 => s1.followStart g
      | _ => none })

/-- With AUTOC no set is pending (R163). -/
def State.autocDrop (s : State) (g : Nat) : State :=
  if s.on PW_GRPCTL_AUTOC g then (s.updGrp g (fun u => { u with pend := none })).put PW_GRPCOMMIT_PENDING 0 g else s

/-- A write to GRPCTL by a master that R19 admits (R161, R163, R176): writable while the block is STOPPED; SYNCSRC 0b11 is refused; a shadow that
fails R154 at EN refuses the write. -/
def State.grpctlWrite (s : State) (g : Nat) (v : Word) : State :=
  let old := s.rdw .PW_GRPCTL g
  let mask := BitVec.ofNat 32 RegId.PW_GRPCTL.reg.rw
  let was := PW_GRPCTL_EN.of old
  if !changes old v mask then s
  else if s.blk g != blkStopped || PW_GRPCTL_SYNCSRC.of v = 3 then s.put PW_GRPCOMMIT_WRITE_DENIED 1 g
  else if was = 0 ∧ PW_GRPCTL_EN.of v = 1 ∧ !prdOk (s.get PW_GRPPRD_PRD g) (PW_GRPCTL_PRE.of v) then
    s.put PW_GRPCOMMIT_PRD_DENIED 1 g
  else
    let s0 := (s.regWrite .PW_GRPCTL v g).autocDrop g
    let s1 := s0.each (s0.cellsOf g) State.showCmp
    if was = 0 ∧ PW_GRPCTL_EN.of v = 1 then s1.carrierEnable g
    else if was = 1 ∧ PW_GRPCTL_EN.of v = 0 then s1.carrierStop g
    else s1

/-! ### Duties (R157, R164) -/

/-- The compare that a change of it replaces, the instant from which on it governed, and the instant of the change (R160): that of the first of two changes
in one tick. -/
def State.cmpBefore (s : State) (c : Nat) : Option (Nat × Nat × Nat) :=
  let now (from_ : Nat) : Option (Nat × Nat × Nat) :=
    (s.groupOf c).map (fun g => (countSteps (s.cmpOf c) (s.get PW_GRPCTL_PRE g), from_, s.instant))
  match (s.chan c).cmpWas with
  | some (was, from_, at_) => if at_ = s.instant then some (was, from_, at_) else now (at_ + 64)
  | none => now 0

/-- A duty in the channel's form is written (R164): at once with IMM, otherwise to the shadow. In ratio form bits [31:16] are reserved.
The ratio held through a re-sync ends with the first write of the duty, be it to the shadow or by firmware (DESIGN CHOICE, log entry 92). -/
def State.setDuty (s : State) (c : Nat) (v : Word) : State :=
  let v' := if s.on PW_CHCTL_FORM c then v else v &&& 0xFFFF
  let imm := s.on PW_CHCTL_IMM c
  let s1 := (s.put PW_DUTY_DUTY v'.toNat c).updChan c (fun u => { u with
    written := true, held := none, duty := if imm then v' else u.duty, cmpWas := if imm || u.held.isSome then s.cmpBefore c else u.cmpWas })
  s1.showCmp c

/-- A Pick DUTY or arbiter delivery: a duty of the other form has no effect and sets FORM_DENIED (R157). -/
def State.deliverDuty (s : State) (c : Nat) (absolute : Bool) (v : Word) : State :=
  if s.on PW_CHCTL_FORM c = absolute then s.setDuty c v else s.put PW_CHSTAT_FORM_DENIED 1 c

/-- A write to CHCTL: IMM and FORM only while STOPPED (R161). In ratio form DUTY [31:16] is reserved (R177). -/
def State.chctlPwmWrite (s : State) (c : Nat) (v : Word) : State :=
  let s1 := s.condWrite .PW_CHCTL v (BitVec.ofNat 32 RegId.PW_CHCTL.reg.rw) (s.cellStopped c)
    (fun s => s.put PW_CHSTAT_WRITE_DENIED 1 c) c
  let s2 := if s1.on PW_CHCTL_FORM c then s1 else s1.put PW_DUTY_DUTY (s1.get PW_DUTY_DUTY c % 65536) c
  s2.showCmp c

/-! ### Overrides (R170, R171) -/

/-- An override that forces an output on while its partner is not forced off (R171). -/
def shoots (v : Word) : Bool :=
  let h := PW_OVR_FRCH.of v
  let l := PW_OVR_FRCL.of v
  h == 3 || l == 3 || (h == 2 && l != 1) || (l == 2 && h != 1)

/-- An OVR write (R170): a force-off acts in the next tick, which the write takes with it (DESIGN CHOICE, log entry 20); every other change at the group's
next peak, replacing a change that waits. -/
def State.ovrWrite (s : State) (c : Nat) (v : Word) : State :=
  if shoots v then s.put PW_CHSTAT_SHOOT_ATTEMPT 1 c
  else
    let s1 := s.regWrite .PW_OVR v c
    let new := s1.rdw .PW_OVR c
    let act := (s1.chan c).ovr
    let off (f : Fld) (w : Word) : Word := if f.of new = 1 then f.into w 1 else w
    let now := off PW_OVR_FRCL (off PW_OVR_FRCH act)
    let s2 := s1.updChan c (fun u => { u with ovrWait := if now = new then none else some new })
    if now = act then s2
    else
      let s3 := (s2.advance 1).updChan c (fun u => { u with ovr := now })
      s3.emit c s3.instant

/-! ### Safe states (R172) -/

/-- Whether the option block permits low-side on for a cell (SAFELOW, R414). -/
def State.safeLow (s : State) (c : Nat) : Bool := bit (BitVec.ofNat 32 (s.optByte (0xA + c / 8))) (c % 8)

/-- A SAFE write (R172, R502). One that is not refused ends the hold from the cold reset. -/
def State.safeWrite (s : State) (c : Nat) (v : Word) : State :=
  let new := PW_SAFE_SAFE.of v
  let ok := s.cellStopped c && (new == 0 || (new == 1 && s.safeLow c))
  let s1 := s.condWrite .PW_SAFE v PW_SAFE_SAFE.mask ok (fun s => s.put PW_SAFE_SAFE_DENIED 1 c) c
  (if s1.get PW_SAFE_SAFE c = new then s1.updChan c (fun u => { u with safeSet := true }) else s1).regate c

/-- R172: the PWM clock is absent for 16 ns at the output gate: every channel to its safe state. -/
def execPwmclkLost (s : State) : Out :=
  .next ((s.put PW_GATESTAT_PWMCLK_LOST 1).regateAll)

/-- A write to GATESTAT (R172): the flag stays while the clock is still absent. It belongs to no cell; any master writes it. -/
def State.gatestatWrite (s : State) (v : Word) : State :=
  if PW_GATESTAT_PWMCLK_LOST.of v = 1 ∧ s.pwmClock then (s.regWrite .PW_GATESTAT v).regateAll else s

end Sys2Proof.Machine
end

