-- ==== Sys2Proof/Machine/Drift.lean ====
section
/-! DEFINITION. Drift pairs: custom instructions, checkpoints, journal, takeovers, tests, split and join (R268 to R299). The commands of
pair faults, which can end in a reset, are in Machine/PairFault.lean. -/

namespace Sys2Proof.Machine

/-! ### States of a pair (R283) -/

/-- SPAREMAP shows the pairs in SPARE (R298). -/
def State.spareMap (s : State) : State :=
  s.put DR_DSTAT_SPAREMAP ((List.range 16).foldl (fun m n => if s.pst n = pairSpare then m + 2 ^ n else m) 0)

/-- TO of a watchdog as it acts, in ticks (R421). -/
def State.wdtPeriod (s : State) (n : Nat) : Nat := min 1000 (max 1 (s.get RS_WDTCTL_TO n)) * ms

/-- The watchdog's period begins (R412). -/
def State.wdtStart (s : State) (n : Nat) : State :=
  (s.arm (.watchdog n) (s.wdtPeriod n)).arm (.warn n) (s.wdtPeriod n / 2)

/-- The watchdog runs in SERVICE, SPLIT and SPARE, and not while the Adit port halts the pair; it restarts in full when the pair resumes (R412). -/
def State.wdtFollow (s : State) (n : Nat) : State :=
  let st := s.pst n
  if s.on RS_WDTCTL_EN n && !s.on DR_PSTATE_DEBUG n && (st == pairService || st == pairSplit || st == pairSpare) then
    (if s.armed (.watchdog n) then s else s.wdtStart n)
  else (s.disarm (.watchdog n)).disarm (.warn n)

/-- Move a pair to a state; FAULT_N and the safe states of its blocks follow (R284, R172), and its watchdog (R412). -/
def State.setPst (s : State) (n st : Nat) : State :=
  (((s.put DR_PSTATE_STATE st n).spareMap).faultLine).wdtFollow n

/-- The pairs in a state. -/
def State.pairsIn (s : State) (st : Nat) : List Nat := (List.range 16).filter (fun n => s.pst n == st)

/-- The blocks a pair owns (R18). -/
def State.ownedBy (s : State) (n : Nat) : List Nat :=
  (List.range 8).filter (fun b => s.on BLK_BLKCTL_OWNED b && s.get BLK_BLKCTL_OWNER b == n)

/-- The option block's split and spare settings (R414, R283). -/
def State.optSplit (s : State) (n : Nat) : Bool := bit (BitVec.ofNat 32 (s.optByte (2 + n / 8))) (n % 8)
def State.optSpares (s : State) : Nat := s.optByte 1 % 4

/-- The state a pair leaves START for (R283): SPLIT by its DSPLIT bit; SPARE for the NSPARE highest-numbered others; else SERVICE. A pair that owns
a block (R286), which neither a split nor a spare pair may (R18), returns to SERVICE (DESIGN CHOICE, log entry 90). -/
def State.startDest (s : State) (n : Nat) : Nat :=
  if !(s.ownedBy n).isEmpty then pairService
  else if s.optSplit n then pairSplit
  else if (((List.range 16).filter (fun k => n < k && !s.optSplit k)).length < s.optSpares) then pairSpare
  else pairService

/-- Whether a master's bus ports are open: a pair's are closed from the detection of its fault until it leaves FAILED (R285), and in RECOVERY, where
every output is suppressed until the replay ends (R287). -/
def State.busOpen (s : State) (m : Master) : Bool :=
  match masterPair m with
  | some n => !(s.pairU n).faulted && s.pst n != pairFailed && s.pst n != pairRecovery
  | none => true

/-- Charge a core's instruction of `cyc` cycles to its current crew (R50). -/
def State.cycles (s : State) (n k cyc : Nat) : State :=
  (s.charge (s.crewOf n k) .drift cyc).updCore n k (fun u => { u with ahead := u.ahead + cyc })

/-! ### Custom instructions (R272 to R274) -/

/-- An illegal-instruction exception of a core (R272). -/
def State.illegal (s : State) (n k : Nat) (w : Word) : State := s.takeTrap n k 2 w

/-- The I-type fields of a custom instruction (R272). -/
def insImm (w : Word) : Nat := bits w 20 12
def insRs1 (w : Word) : Nat := bits w 15 5
def insRd (w : Word) : Nat := bits w 7 5
/-- Whether a word is the custom-0 instruction with this funct3. -/
def isCustom (w : Word) (f : Nat) : Bool := bits w 0 7 == 0x0B && bits w 12 3 == f

/-- Run `f` when core `k` of pair `n` runs and `w` is the custom instruction `f3`; an encoding R272 does not give, another funct3 among them, is
illegal. -/
def State.custom (s : State) (n k : Nat) (w : Word) (f3 : Nat) (legal : Bool) (f : State → State) : State :=
  if s.runs n k && isCustom w f3 then (if legal then f s else s.illegal n k w)
  else if s.runs n k && bits w 0 7 == 0x0B && decide (3 ≤ bits w 12 3) then s.illegal n k w
  else s

/-- What XANG returns (R272), and the state with the captured TURN. -/
def State.xang (s : State) (n d sel : Nat) : Word × State :=
  match sel with
  | 0 =>
    let u := s.head.doms.toList.getD d DomU.reset
    let s1 := s.updPair n (fun p => if h : d < 4 then { p with turnCap := p.turnCap.set d (s.rdw .HF_TURN d) h } else p)
    (posAng u.pos, s1)
  | 1 => ((s.pairU n).turnCap.toList.getD d 0, s)
  | 2 => (s.rdw .HF_INC d, s)
  | _ => (BitVec.ofNat 32 (s.get HF_DOMSTAT_STATE d), s)

/-- R272: XANG, the instruction word `w` at core `k` of pair `n`. -/
def execXang (n : Pair) (k : Fin 2) (w : Word) (s : State) : Out :=
  .next (s.custom n.val k.val w 0 (insRs1 w == 0 && insImm w / 16 == 0) (fun s =>
    let (v, s1) := s.xang n.val (insImm w % 4) (insImm w / 4 % 4)
    let s2 := s1.updCore n.val k.val (fun c => { c with regs := c.regs.setX (insRd w) v })
    (((s2.ingress n.val inXang v).retire n.val k.val).cycles n.val k.val 12)))

/-- The answer of an XYLD (R273): 2 refused, 1 parked, 0 done. -/
def State.xyldAnswer (s : State) (n k c : Nat) : Nat :=
  let p := s.crew c
  if !p.en || p.pair != n || (s.isSplit n && s.crewOf n (1 - k) == c) then 2
  else if s.parked c then 1
  else 0

/-- R273: XYLD; it counts against the outgoing crew. Machine mode only. -/
def execXyld (n : Pair) (k : Fin 2) (w : Word) (s : State) : Out :=
  .next (s.custom n.val k.val w 1 (insImm w == 0 && !((s.pairU n.val).core k.val).regs.user) (fun s =>
    let c := bits (((s.pairU n.val).core k.val).regs.getX (insRs1 w)) 0 6
    let a := s.xyldAnswer n.val k.val c
    let s1 := s.updCore n.val k.val (fun u => { u with regs := u.regs.setX (insRd w) (BitVec.ofNat 32 a) })
    let s2 := s1.retire n.val k.val
    if a = 0 then
      let s3 := s2.updCore n.val k.val (fun u => { u with regs := { u.regs with crew := c }, ahead := u.ahead + 4 })
      (s3.charge (s.crewOf n.val k.val) .drift 4).stopSpentPair n.val
    else s2.cycles n.val k.val 4))

/-- A pair that missed a boundary in RECOVERY (R289) or in the test of its join (R296) goes on at once with its next frame wait. -/
def State.passMissed (s : State) (n : Nat) : State :=
  match (s.pairU n).missed with
  | some filler => ((s.updPair n (fun p => { p with missed := none })).endWait n 0 false filler).coreIrq n 0
  | none => s

/-- R274: XFWT. With WAKE a pending enabled interrupt ends the wait at once. -/
def execXfwt (n : Pair) (k : Fin 2) (w : Word) (s : State) : Out :=
  .next (s.custom n.val k.val w 2 (insRs1 w == 0 && insImm w / 2 == 0) (fun s =>
    let s1 := (s.cycles n.val k.val 3).updCore n.val k.val (fun c => { c with waiting := some (insImm w % 2 == 1, insRd w) })
    let s2 := if k = 0 then s1.passMissed n.val else s1
    (s2.each (s2.slicesOf n.val) State.lineFollow).coreIrq n.val k.val))

/-- R269: an instruction-cache parity error of a lock-step pair. -/
def execIcpar (n : Pair) (s : State) : Out :=
  .next (if s.isSplit n.val || s.pst n.val = pairOff then s else s.bumpSat DR_PCOUNT_ICPAR n.val)

/-! ### Checkpoints and the journal (R280 to R282) -/

/-- Begin a checkpoint of a pair in SERVICE that is not halted (R280, R297). -/
def State.beginCheckpoint (s : State) (n : Nat) (atFrame : Bool) : State :=
  if s.pst n = pairService ∧ !s.on DR_PSTATE_DEBUG n ∧ !(s.pairU n).faulted ∧ (s.pairU n).storing = none then
    s.updPair n (fun p => { p with storing := some atFrame })
  else s

/-- Whether a checkpoint of pair `n` outside a frame boundary is due (R280): its log or journal has reached its trigger. -/
def State.checkpointDue (s : State) (n : Nat) : Bool :=
  decide ((s.pairU n).log.length ≥ 3072) || decide ((s.pairU n).journal.length ≥ 1024)

/-- R280: a checkpoint begins: 100 µs after the last, or at its log or journal trigger. (That of a frame boundary begins in the boundary.) -/
def execCheckpoint (n : Pair) (s : State) : Out :=
  .next (if s.checkpointDue n.val then s.beginCheckpoint n.val false
    else s.onTimer (.checkpoint n.val) (fun s => s.beginCheckpoint n.val false))

/-- A completed checkpoint (R280, R297): the buffer that is not current takes the main core's state and becomes current; log, journal and egress
restart. -/
def State.checkpointed (s : State) (n : Nat) : State :=
  let s1 := s.updPair n (fun p =>
    { p with
      buf0 := if p.current then some p.core0.regs else p.buf0
      buf1 := if p.current then p.buf1 else some p.core0.regs
      current := !p.current, storing := none, log := [], overflow := false, journal := [], egress := 0, egressCrc := 0 })
  ((s1.put DR_PSTATE_UNPROTECTED 0 n).arm (.checkpoint n) (100 * us)).coreIrq n 0

/-- R280: the store of a checkpoint completes after `cyc` cycles, at most 0.3 µs, charged to the supervisor crew at a frame boundary and to the
current crew otherwise. -/
def execCheckpointComplete (n : Pair) (cyc : Fin 301) (s : State) : Out :=
  .next (match (s.pairU n.val).storing with
    | none => s
    | some atFrame =>
      let c := if atFrame then s.supCrew n.val else s.crewOf n.val 0
      (s.checkpointed n.val).charge c .drift cyc.val)

/-- The TCM of a pair (R268). -/
def tcmBase (n : Nat) : Nat := 0x20000000 + n * 0x40000

/-- Empty a pair's TCM and load it with an image, or leave it cleared (R420). -/
def State.setTcm (s : State) (n : Nat) (t : Option (Nat × Nat)) : State :=
  (s.clearMem (tcmBase n) 0x40000).updPair n (fun p => { p with tcm := t })

/-- Whether region `j` of pair `n` holds address `a` (R271). -/
def State.inRegion (s : State) (n j a : Nat) : Bool :=
  s.on DR_OWNRGN_EN n j && decide (s.get DR_OWNRGN_BASE n j * 65536 ≤ a)
    && decide (a < (s.get DR_OWNRGN_BASE n j + s.get DR_OWNRGN_SIZE n j + 1) * 65536)

/-- The pair that owns the region of address `a` (R271). -/
def State.regionOwner (s : State) (a : Nat) : Option Nat :=
  (List.range 16).find? (fun n => (List.range 4).any (fun j => s.inRegion n j a))

/-- Whether a line belongs to a pair's TCM or owned regions (R281). -/
def State.journaled (s : State) (n a : Nat) : Bool :=
  (decide (tcmBase n ≤ a) && decide (a < tcmBase n + 0x40000)) || s.regionOwner a == some n

/-- Where a pair's journal area keeps its entries (R439), and how many it holds (R281). -/
def journalBase (n : Nat) : Nat := 0x10680000 + n * 0x18000
def journalMax : Nat := 1344

/-- Copy the prior content of the 64-byte line of address `a` into the journal, before the first write since the last checkpoint (R281). The
72 bytes, which lie in the pair's journal area while NSPARE is not 0, are three 32-byte beats of the crew whose write caused them. -/
def State.journalLine (s : State) (n a : Nat) : State :=
  let line := a / 64 * 64
  let l := (s.pairU n).journal
  if s.pst n = pairService ∧ s.journaled n line ∧ !(l.any (fun e => e.line == line)) ∧ l.length < journalMax then
    let body := s.bytes line 64
    let s0 := s.updPair n (fun p => { p with journal := p.journal ++ [⟨line, body, crc32 (leBytes 4 line ++ body)⟩] })
    let s1 := if s.optSpares = 0 then s0 else s0.setBytes (journalBase n + 72 * l.length) (Config.journalEntry line body).toList
    (s1.put DR_PLOG_JNLMAX (max (s1.get DR_PLOG_JNLMAX n) (s1.pairU n).journal.length) n).charge (s.crewOf n 0) .beats 3
  else s

/-- R281: a journal entry, for the line of address `a` that pair `n` is about to write. -/
def execJournalEntry (n : Pair) (a : Word) (s : State) : Out :=
  .next (s.journalLine n.val a.toNat)

/-- Count a write that a pair releases outside its TCM and owned regions (R282). -/
def State.countEgress (s : State) (n a : Nat) (b : List Byte) : State :=
  s.updPair n (fun p => { p with egress := p.egress + 1, egressCrc := ~~~(crc32From (~~~p.egressCrc) (leBytes 4 a ++ b)) })

/-! ### Takeover (R287) -/

/-- Copy a window of memory to another place. -/
def State.copyWindow (s : State) (src dst len : Nat) : State :=
  let part := s.mem.filter (fun p => src ≤ p.1 && p.1 < src + len)
  (s.clearMem dst len).each part (fun s p => s.setByte (p.1 - src + dst) p.2)

/-- OWNER of every block of pair `n` becomes `k`, exempt from LOCK and STATE (R20); the safety pair in force follows (R311). -/
def State.rewriteOwner (s : State) (n k : Nat) : State :=
  let s1 := s.each (s.ownedBy n) (fun s b => s.put BLK_BLKCTL_OWNER k b)
  if s1.get FM_FSTAT_SAFEPAIR_ACT = n then s1.put FM_FSTAT_SAFEPAIR_ACT k else s1

/-- PAIR of every crew of pair `n`, active and shadow, becomes `k`, and the supervisor crew is copied (R287). -/
def State.moveCrews (s : State) (n k : Nat) : State :=
  let s1 := s.each ((List.range 64).filter (fun c => s.get SP_CREWCTL_PAIR c == n)) (fun s c => s.put SP_CREWCTL_PAIR k c)
  let s2 := s1.put SP_PAIRSUP_SUPCREW (s.get SP_PAIRSUP_SUPCREW n) k
  { s2 with plan := { s2.plan with
      crews := s2.plan.crews.map (fun p => if p.pair = n then { p with ctl := SP_CREWCTL_PAIR.into p.ctl k } else p)
      sup := if h : k < 16 then s2.plan.sup.set k (s.supCrew n) h else s2.plan.sup } }

/-- A mailbox buffer claimed by pair `n` passes to pair `k` (R361). -/
def State.moveMailbox (s : State) (n k : Nat) : State :=
  s.each (List.range 8) (fun s i => if s.on EX_MBCTL_CLAIMED i && s.get EX_MBCTL_PAIR i == n then s.put EX_MBCTL_PAIR k i else s)

/-- What a takeover or hand-over moves in one cycle (R20, R287): owner, crews, interrupt slice, mailbox buffers, and the event. OWNRGN, which R287
does not name, stays with pair `n` (DESIGN CHOICE, log entry 91). -/
def State.moveWork (s : State) (n k : Nat) : State :=
  let slice := (s.pairU n).routedSlice.getD n
  let s1 := ((s.rewriteOwner n k).moveCrews n k).moveMailbox n k
  let s2 := (s1.updPair k (fun p => { p with routedSlice := some slice })).updPair n (fun p => { p with routedSlice := none })
  (((s2.put DR_PSTATE_PARTNER n k).put DR_PSTATE_PARTNER k n).raise 576).regateAll

/-- The TCM of pair `n` is copied to pair `k` (R287). -/
def State.copyTcm (s : State) (n k : Nat) : State :=
  (s.setTcm k (s.pairU n).tcm).copyWindow (tcmBase n) (tcmBase k) 0x40000

/-- The journal of pair `n` is applied, newest entry first: each line goes back into the TCM copy of pair `k` or to the owned region (R287). -/
def State.applyJournal (s : State) (n k : Nat) : State :=
  s.each (s.pairU n).journal.reverse (fun s e =>
    let a := if tcmBase n ≤ e.line ∧ e.line < tcmBase n + 0x40000 then e.line - tcmBase n + tcmBase k else e.line
    s.setBytes a e.content)

/-- The state of core 0 of pair `n`, its TCM and log pass to pair `k`, with a boundary that either has still to see (R289). -/
def State.copyWork (s : State) (n k : Nat) : State :=
  let p := s.pairU n
  (s.copyTcm n k).updPair k (fun q =>
    { q with core0 := { p.core0 with stopped := false }, turnCap := p.turnCap, retired := p.retired, missed := q.missed.or p.missed })

/-- R286, R287: 1.0 µs after detection: the spare assigned to pair `n` starts its takeover and enters RECOVERY; with none, SF2 is demanded for the groups
of the pair's blocks. -/
def execTakeoverStart (n : Pair) (s : State) : Out :=
  .next (s.onTimer (.takeover n.val) (fun s =>
    match (s.pairU n.val).mate with
    | none => (s.put FM_FCAUSE_PAIRFAULT 1).sf2Drift { s with timers := (.takeover n.val, s.now) :: s.timers }
    | some k =>
      let s1 := (s.moveWork n.val k).record 53 0 9 k
        [BitVec.ofNat 32 (n.val + s.get DR_PFAULT_CAUSE n.val * 256), s.rdw .DR_PSTAMP n.val, 0]
      (s1.updPair k (fun p => { p with mate := some n.val })).setPst k pairRecovery))

/-! ### Split, join and the mode requests (R294 to R296, R299) -/

/-- A pair's MODE_DENIED. -/
def State.modeDenied (s : State) (n : Nat) : State := s.put DR_PCTL_MODE_DENIED 1 n

/-- MODEREQ = TEST: from SERVICE (R299). -/
def State.reqTest (s : State) (n : Nat) : State :=
  if s.pst n = pairService then (s.updPair n (fun p => { p with afterTest := pairTest })).setPst n pairTest else s.modeDenied n

/-- MODEREQ = SPLIT: from TEST, under the conditions of R295. Core 1 starts at its reset vector. -/
def State.reqSplit (s : State) (n : Nat) : State :=
  if s.pst n ≠ pairTest || !(s.ownedBy n).isEmpty || (s.pairU n).afterTest == pairSpare
      || ((s.pairsIn pairSpare).length < s.optSpares && !(s.pairsIn pairService).isEmpty) then s.modeDenied n
  else (s.updPair n (fun p => { p with core1 := CoreU.reset, log := [], journal := [] })).setPst n pairSplit

/-- MODEREQ = SERVICE or SPARE: from TEST (R299); a pair that owns a block does not become a spare (R18). -/
def State.reqLeaveTest (s : State) (n dest : Nat) : State :=
  if s.pst n = pairTest && (dest != pairSpare || (s.ownedBy n).isEmpty) then s.setPst n dest else s.modeDenied n

/-- MODEREQ = JOIN: from SPLIT (R296). -/
def State.reqJoin (s : State) (n : Nat) : State :=
  if s.pst n = pairSplit then s.updPair n (fun p => { p with joining := 1 }) else s.modeDenied n

/-- A write to PCTL of pair `n` (R298, R299). From a split core only a JOIN by core 0 of its own pair is taken. A refused value refuses the whole write; a
request that the pair's state does not allow leaves the write's other fields as written, and MODEREQ 0 leaves MODEREQ's value unchanged, so it is no
refused request (R502). -/
def State.pctlPairWrite (s : State) (m : Master) (n : Nat) (v : Word) : State :=
  let req := DR_PCTL_MODEREQ.of v
  let own := match m with
    | .core p c => p.val == n && c.val == 0
    | _ => false
  if s.lockstep m || (own && req == 3) then
    let s1 := s.regWrite .DR_PCTL v n
    match req with
    | 0 => s1
    | 1 => s1.reqTest n
    | 2 => s1.reqSplit n
    | 3 => s1.reqJoin n
    | 4 => s1.reqLeaveTest n pairService
    | 5 => s1.reqLeaveTest n pairSpare
    | _ => s.modeDenied n
  else s.put DR_DSTAT_WRITE_DENIED 1

/-- R296: at the frame boundary after a JOIN the pair enters TEST with core 0's state; a core 1 that is in no frame wait is stopped. -/
def execJoinApply (n : Pair) (s : State) : Out :=
  let p := s.pairU n.val
  .next (if s.pst n.val = pairSplit ∧ p.joining = 2 then
    let s1 := if p.core1.waiting = some (false, imposedWait) ∨ p.core1.waiting.any (fun x => !x.1) then s
      else s.put DR_PCTL_JOIN_FORCED 1 n.val
    (s1.updPair n.val (fun p => { p with joining := 0, core1 := CoreU.reset, afterTest := pairService })).setPst n.val pairTest
  else s)

/-- Whether an OWNRGN word keeps the limits of R271: in shared SRAM or DRAM, at most 256 KiB in all, no overlap with another pair's regions. -/
def State.regionOk (s : State) (n j : Nat) (v : Word) : Bool :=
  let a := DR_OWNRGN_BASE.of v * 65536
  let e := a + (DR_OWNRGN_SIZE.of v + 1) * 65536
  let inSram := decide (0x10000000 ≤ a) && decide (e ≤ 0x10800000)
  let inDram := decide (0x98000000 ≤ a) && decide (e ≤ 0xA0000000)
  let units := DR_OWNRGN_SIZE.of v + 1 + ((List.range 4).filter (fun i => i != j && s.on DR_OWNRGN_EN n i)).foldl
    (fun t i => t + s.get DR_OWNRGN_SIZE n i + 1) 0
  DR_OWNRGN_EN.of v == 0 ||
    ((inSram || inDram) && decide (units ≤ 4) &&
      (List.range 16).all (fun k => k == n || (List.range 4).all (fun i =>
        !s.on DR_OWNRGN_EN k i || decide (e ≤ s.get DR_OWNRGN_BASE k i * 65536)
          || decide ((s.get DR_OWNRGN_BASE k i + s.get DR_OWNRGN_SIZE k i + 1) * 65536 ≤ a))))

/-- A write to OWNRGN `j` of pair `n` (R271, R298). -/
def State.ownrgnWrite (s : State) (m : Master) (n j : Nat) (v : Word) : State :=
  if !s.lockstep m then s.put DR_DSTAT_WRITE_DENIED 1
  else if !changes (s.rdw .DR_OWNRGN n j) v (BitVec.ofNat 32 RegId.DR_OWNRGN.reg.rw) then s
  else if (s.pst n = pairStart || s.pst n = pairTest) && s.regionOk n j v then s.regWrite .DR_OWNRGN v n j
  else s.modeDenied n

/-- A write to PLOG (R299). -/
def State.plogWrite (s : State) (m : Master) (n : Nat) (v : Word) : State :=
  if !s.lockstep m then s.put DR_DSTAT_WRITE_DENIED 1
  else if DR_PLOG_CLRMAX.of v = 1 then (s.put DR_PLOG_LOGMAX 0 n).put DR_PLOG_JNLMAX 0 n
  else s

/-- A write to a read-only register of a pair (R298): only the status of a master that may write none. -/
def State.pairShowWrite (s : State) (m : Master) : State := if s.lockstep m then s else s.put DR_DSTAT_WRITE_DENIED 1

/-- A write to another Drift register: DSTAT and TESTCTL (R298); TESTCTL is read-only once its LOCK is set; no rule
names the status of a write that would change it then: WRITE_DENIED (DESIGN CHOICE, log entry 116). -/
def State.driftPlainWrite (s : State) (m : Master) (r : RegId) (v : Word) (i : Nat) : State :=
  if !s.lockstep m then s.put DR_DSTAT_WRITE_DENIED 1
  else if r = .DR_TESTCTL then
    s.condWrite r v (BitVec.ofNat 32 r.reg.rw) (!s.on DR_TESTCTL_LOCK) (fun s => s.put DR_DSTAT_WRITE_DENIED 1)
  else s.regWrite r v i

/-! ### Dual-sampled pins (R278) -/

/-- R278: the samples of a dual-sampled pin differ: up to three resamples `a`, `b`, each 4 ns later; a level both agree on is read, else 0 with
PINFAULT and source 577. -/
def execDualSampleResample (g : Fin 64) (a b : Vector Bool 3) (s : State) : Out :=
  let set (s : State) (v : Bool) : State :=
    s.wrw .GP_GPIOIN (setBits (s.rdw .GP_GPIOIN (g.val / 32)) (g.val % 32) 1 v.toNat) (g.val / 32)
  .next (if s.on GP_GPIOCFG_DUAL g.val then
    match (List.range 3).find? (fun k => a.toList.getD k false == b.toList.getD k false) with
    | some k => set (s.advance (k + 1)) (a.toList.getD k false)
    | none => (((set (s.advance 3) false).put DR_DSTAT_PINFAULT 1).put DR_DSTAT_PINNUM g.val).raise 577
  else s)

/-! ### Split cores (R294) -/

/-- An uncorrectable TCM word stops core `k` of split pair `n` and parks its current crew (R294). -/
def State.splitCoreStop (s : State) (n k : Nat) : State :=
  if s.isSplit n && !((s.pairU n).core k).stopped then
    let c := s.crewOf n k
    let s1 := (s.updCore n k (fun u => { u with stopped := true })).put DR_PSTATE_HALTED 1 n
    { s1 with plan := { s1.plan with haltedCrews := c :: s1.plan.haltedCrews } }
  else s

/-- R294: an uncorrectable TCM word stops a core of a split pair and parks its current crew. -/
def execSplitCoreUncorrectableTcm (n : Pair) (k : Fin 2) (s : State) : Out := .next (s.splitCoreStop n.val k.val)

end Sys2Proof.Machine
end

