-- ==== Sys2Proof/Machine/Winder.lean ====
section
/-! DEFINITION. Winder: synthesizers, lock declaration, spread, the PWM ramp and the clock outputs (R381 to R392), and the releases of R407 that
wait for a clock. -/

namespace Sys2Proof.Machine

/-- CFG_DENIED of the Winder. -/
def State.winderDenied (s : State) : State := s.put WI_WSTAT_CFG_DENIED 1

/-- Every block is STOPPED (R385). -/
def State.allStopped (s : State) : Bool := (List.range 8).all (fun b => s.blk b == blkStopped)

/-- Ramp states of the Winder (R389). -/
def wrIdle : Nat := 0
def wrWait : Nat := 1
def wrRun : Nat := 2
def wrRealign : Nat := 3

/-- Whether the source of a clock output runs (R390): its synthesizer has declared lock; the reference needs none. -/
def State.clkSource (s : State) (sel : Nat) : Bool :=
  match sel with
  | 0 => s.on WI_SSTAT_LOCKED synSys
  | 1 => s.on WI_SSTAT_LOCKED synPwm
  | 2 => s.on WI_SSTAT_LOCKED synConv
  | 3 => s.on WI_SSTAT_LOCKED synSerdes
  | _ => true

/-- What clock output `i` drives (R390, R495): both legs low while it is disabled; an LVCMOS format P alone; LVDS and HCSL both legs. -/
def State.clkLegs (s : State) (i : Nat) : ClockLeg × ClockLeg :=
  if !s.on WI_OCTL_EN i || !s.clkSource (s.get WI_OCTL_SEL i) then (.low, .low)
  else if s.get WI_OCTL_FMT i = 1 ∨ s.get WI_OCTL_FMT i = 2 then (.clock, .low)
  else (.clock, .inverse)

/-- The clock outputs' balls follow their settings and sources. -/
def State.clkDrive (s : State) : State :=
  { s with winder := { s.winder with legs := Vector.ofFn (fun i : Fin 4 => s.clkLegs i.val) } }

/-- PHASELOCK of every synthesizer (R386, R387, R389), FINE (R155), and the clock outputs, which run with their sources' locks. -/
def State.phaseShow (s : State) : State :=
  let s1 := s.each (List.range 4) (fun s n =>
    let v := s.on WI_SSTAT_LOCKED n && s.get WI_SSCFG_MODE n == 0 && (n != synPwm || s.get WI_RSTAT_STATE == wrIdle)
    s.put WI_SSTAT_PHASELOCK v.toNat n)
  (s1.put PW_GSTAT_FINE s1.fine.toNat).clkDrive

/-! ### Releases (R407) -/

/-- The synthesizer whose clock a unit of RSTREL needs (R407). -/
def State.unitClock (s : State) (k : Nat) : Nat :=
  if k = uSense then synConv
  else if k = uPwm then synPwm
  else if k = uUhla then synSerdes
  else if k = uEth then (if s.get ET_ETHCTL_MODE 0 = 1 ∨ s.get ET_ETHCTL_MODE 1 = 1 then synSerdes else synSys)
  else synSys

/-- Whether a unit's release can take effect now (R407). -/
def State.canRelease (s : State) (k : Nat) : Bool :=
  s.on WI_SSTAT_LOCKED (s.unitClock k) && (k == uPick || s.released uPick) && !(k == uPick && s.lc == lcScrap)

/-- Unit `k` leaves reset. -/
def State.releaseUnit (s : State) (k : Nat) : State :=
  let s1 := (s.orPut RS_RSTREL_RELEASED (2 ^ k)).put RS_RSTREL_CLK_WAIT (s.get RS_RSTREL_CLK_WAIT &&& (127 - 2 ^ k))
  if k = uPwm then s1.regateAll
  else if k = uEth then { s1 with host := { s1.host with ptpAt := s1.now } }
  else s1

/-- Every pending release whose conditions hold takes effect, PICK first (R407). -/
def State.tryReleases (s : State) : State :=
  s.each (List.range 7) (fun s k =>
    if s.bitOf RS_RSTREL_CLK_WAIT k && s.canRelease k then (s.releaseUnit k).raise 996 else s)

/-- R407: a pending release takes effect. -/
def execPendingRelease (s : State) : Out := .next s.tryReleases

/-- A write to RSTREL (R407): each bit written 1 releases its unit, or leaves the release pending. -/
def State.rstrelWrite (s : State) (v : Word) : State :=
  s.each (List.range 7) (fun s k =>
    if bit v k && !s.released k then
      if s.canRelease k then s.releaseUnit k else s.orPut RS_RSTREL_CLK_WAIT (2 ^ k)
    else s)

/-! ### The links on the SERDES clock (R385) -/

/-- Change the link's unit. -/
def State.updUhla (s : State) (f : UhlaU → UhlaU) : State := { s with uhla := f s.uhla }

/-- States of a port (R456, R477). -/
def portDown : Nat := 0
def portTrain : Nat := 1
def portUp : Nat := 2

/-- A port is UP. -/
def State.portIsUp (s : State) (p : Nat) : Bool := s.get UH_UPORT_STATE p == portUp

/-- Whether both ports are UP. -/
def State.bothUp (s : State) : Bool := s.portIsUp 0 && s.portIsUp 1

/-- RINGOK; source 904 when it changes (R468, R480). -/
def State.setRing (s : State) (b : Bool) : State :=
  if s.on UH_USTAT_RINGOK = b then s else (s.put UH_USTAT_RINGOK b.toNat).raise 904

/-- A port's state changes: sources 898 and 899 (R480), LOOPBACK while it is DOWN (R468), RINGOK. From TRAIN it is UP after 1 ms at the earliest
(R456). -/
def State.setPort (s : State) (p st : Nat) : State :=
  let s1 := if s.get UH_UPORT_STATE p = st then s else (s.put UH_UPORT_STATE st p).raise (898 + p)
  let s2 := s1.put UH_UPORT_LOOPBACK (if st = portDown ∧ s1.on UH_UCTL_EN then 1 else 0) p
  let s3 := s2.updUhla (fun u => { u with
    upSince := if s2.bothUp then (if u.upSince.isSome then u.upSince else some s2.now) else none
    portAt := setAt u.portAt p (if st = portTrain then s2.now + ms else s2.now) })
  s3.setRing (s3.bothUp && s3.uhla.returned)

/-- The Uhla and SGMII links drop with the SERDES clock (R385). -/
def State.linksDrop (s : State) : State :=
  let s1 := s.each (List.range 2) (fun s p => if s.get UH_UPORT_STATE p = portDown then s else s.setPort p portDown)
  s1.each (List.range 2) (fun s p =>
    if s.get ET_ETHCTL_MODE p = 1 ∧ s.on ET_ETHSTAT_LINK p then (s.put ET_ETHSTAT_LINK 0 p).raise (704 + 16 * p + 13) else s)

/-! ### The CONV clock stops and goes on (R385) -/

/-- A deadline of the sequences. -/
def Timer.onConv : Timer → Bool
  | .seqStart _ | .seqDrop _ | .conv _ => true
  | _ => false

/-- The CONV clock stops: the sequences stand where they are. -/
def State.convStop (s : State) : State :=
  if s.sense.stopped.isSome then s
  else { s with
    sense := { s.sense with stopped := some s.now, frozen := s.timers.filter (fun t => t.1.onConv) }
    timers := s.timers.filter (fun t => !t.1.onConv) }

/-- CONV declares lock (R383, R386): its lock edge begins the epochs, and sequences that stood go on. -/
def State.convLock (s : State) : State :=
  let s1 := { s with winder := { s.winder with epoch := s.now } }
  match s1.sense.stopped with
  | none => s1
  | some t =>
    let n := s1.now - t
    let u := s1.sense
    { s1 with
      timers := u.frozen.map (fun x => (x.1, x.2 + n)) ++ s1.timers
      sense := { u with
        stopped := none, frozen := []
        seqs := u.seqs.map (fun q => { q with startAt := q.startAt + 24 * n })
        freeAt := u.freeAt.map (fun e => if 24 * t < e then e + 24 * n else e) } }

/-! ### Synthesizers (R382 to R385) -/

/-- 200 µs to lock declaration (R383). -/
def lockTicks : Nat := 200 * us

/-- The outputs of synthesizer `n` are gated off (R385): the carriers stand with the PWM clock's phase, the sequences with the CONV clock, the links of SERDES
drop. -/
def State.synthStop (s : State) (n : Nat) : State :=
  let s1 := if n = synPwm then s.rebase else if n = synConv then s.convStop else s
  let s2 := (((s1.put WI_SSTAT_LOCKED 0 n).disarm (.synthLock n)).disarm (.fmon n)).phaseShow
  if n = synSerdes then s2.linksDrop else s2

/-- A write to SCTL of synthesizer `n` (R385). In NIGHT the CONV and PWM synthesizers have no power (R402). -/
def State.sctlSynthWrite (s : State) (n : Nat) (v : Word) : State :=
  let old := s.get WI_SCTL_EN n
  let new := WI_SCTL_EN.of v
  if new = old then s
  else if (n = synSys ∧ new = 0) ∨ ((n = synPwm ∨ n = synConv) ∧ !s.allStopped) then s.winderDenied
  else
    let s1 := s.regWrite .WI_SCTL v n
    if new = 0 then s1.synthStop n
    else if s1.on PR_PWRSTAT_STATE && (n == synPwm || n == synConv) then s1
    else s1.arm (.synthLock n) lockTicks

/-- A monitor window of synthesizer `n` begins (R384). -/
def State.fmonStart (s : State) (n : Nat) : State :=
  (if n = synPwm then { s with winder := { s.winder with fmonFrom := s.pwmPhase } } else s).arm (.fmon n) (100 * us)

/-- The mean that a monitor window of synthesizer `n` expects, in millionths of the nominal frequency (R384): of the spread profile in force, of PWM the
mean of the frequencies it had. -/
def State.fmonExpects (s : State) (n : Nat) : Nat :=
  if n = synSys then 1000000 - (if s.get WI_SSCFG_MODE synSys = 1 then 500 * s.get WI_SSCFG_SSAMT synSys else 0)
  else if n = synPwm then (s.pwmPhase - s.winder.fmonFrom) / (16 * 100 * us)
  else 1000000

/-- Declaration of lock of synthesizer `n` (R383). -/
def State.declareLock (s : State) (n : Nat) : State :=
  let s0 := (if n = synPwm then s.rebase else if n = synConv then s.convLock else s).fmonStart n
  let s2 := ((s0.put WI_SSTAT_LOCKED 1 n).phaseShow).raise 1014
  let s3 := if n = synSys ∧ s2.supply.step = 2 then { s2 with supply := { s2.supply with step := 3 } }.arm .optLoad 300000 else s2
  s3.tryReleases

/-- R383: LOCKED, 200 µs after EN or after a change of reference. -/
def execSynthLocked (n : Fin 4) (s : State) : Out :=
  .next (s.onTimer (.synthLock n.val) (fun s => s.declareLock n.val))

/-- R384: a monitor window of 100 µs ends, with the mean it counted: FMON_ERR where that differs by more than 2 % from the expected one. -/
def execFmonErr (w : FmonMean) (s : State) : Out :=
  let n := w.synth.val
  .next (s.onTimer (.fmon n) (fun s =>
    let x := s.fmonExpects n
    let s1 := if 50 * (max w.mean x - min w.mean x) > x then (s.put WI_SSTAT_FMON_ERR 1 n).raise (1008 + n) else s
    s1.fmonStart n))

/-- R382: no REFCLK edge for 1 µs while SRC selects REFCLK. -/
def execRefLost (s : State) : Out :=
  .next (if s.get WI_WCTL_SRC = 1 then (s.put WI_WSTAT_REF_LOST 1).raise 1012 else s)

/-- Synthesizer `n` has no power (R402). -/
def State.synthCold (s : State) (n : Nat) : Bool := s.on PR_PWRSTAT_STATE && (n == synPwm || n == synConv)

/-- A write to WCTL (R382): with a new SRC each running synthesizer declares lock again 200 µs later. -/
def State.wctlSrcWrite (s : State) (v : Word) : State :=
  if WI_WCTL_SRC.of v = s.get WI_WCTL_SRC then s
  else (s.regWrite .WI_WCTL v).each (List.range 4) (fun s n => if s.on WI_SCTL_EN n && !s.synthCold n then s.arm (.synthLock n) lockTicks else s)

/-! ### The PWM clock's speed (R169) -/

/-- The waiting turn-ons whose DT runs on the PWM clock: their deadlines follow its speed (R169). -/
def State.retime (s : State) : State :=
  s.each (List.range 96) (fun s k =>
    let c := k / 2
    let hi := k % 2 == 0
    if s.armed (.turnOn c hi) then { s with timers := (.turnOn c hi, s.tickOf (s.readyAt c hi)) :: (s.disarm (.turnOn c hi)).timers } else s)

/-! ### Spread (R387) -/

/-- The largest sum of a pair's essential Drift grants over the frames of the active plan (R387). -/
def State.peakDrift (s : State) (n : Nat) : Nat :=
  (List.range 64).foldl (fun m f => max m (essentialSum s.plan.crews.toList (fun p => p.pair == n) f .drift)) 0

/-- Whether an SSCFG word is refused for synthesizer `n` (R381, R387). -/
def State.spreadRefused (s : State) (n : Nat) (v : Word) : Bool :=
  let mode := WI_SSCFG_MODE.of v
  let amt := WI_SSCFG_SSAMT.of v
  let rate := WI_SSCFG_SSRATE.of v
  mode == 3 || (mode != 0 && n != synSys && n != synPwm) || (mode == 2 && n == synSys)
    || (mode != 0 && n == synPwm && s.get WI_RSTAT_STATE != wrIdle)
    || decide (rate < 300) || decide (330 < rate) || decide (20 < amt) || (mode == 2 && (amt == 0 || decide (10 < amt)))
    || (n == synSys && mode == 1 && (List.range 16).any (fun p => decide (s.peakDrift p > 217013 * (1000 - amt) / 1000)))

/-- A write to SSCFG (R387): the PWM clock goes on from its phase, back at the epoch once spread is off (R386). -/
def State.sscfgWrite (s : State) (n : Nat) (v : Word) : State :=
  if v &&& BitVec.ofNat 32 RegId.WI_SSCFG.reg.rw = s.rdw .WI_SSCFG n then s
  else if s.spreadRefused n v then s.winderDenied
  else
    let s1 := if n ≠ synPwm || v = s.rdw .WI_SSCFG n then s else if WI_SSCFG_MODE.of v = 0 then s.realigned else s.rebase
    (s1.regWrite .WI_SSCFG v n).phaseShow.retime

/-! ### The ramp (R388, R389) -/

/-- The duration of segment `k` in µs. -/
def State.winderDur (s : State) (k : Nat) : Nat := 10 * atLeast1 (s.get WI_RSEG_RDUR k)

/-- The start frequency of segment `k` in a first pass, kHz (R388). -/
def State.winderFrom (s : State) (k : Nat) : Nat := if k = 0 then 250000 else s.get WI_RSEG_RFEND (k - 1)

/-- Whether a GO is refused (R388). -/
def State.winderGoRefused (s : State) : Bool :=
  s.get WI_RSTAT_STATE != wrIdle || s.get WI_SSCFG_MODE synPwm != 0 ||
    (List.range (s.get WI_RCTL_NSEG + 1)).any (fun k =>
      let a := s.winderFrom k
      let e := s.get WI_RSEG_RFEND k
      decide (e < 187500) || decide (262500 < e) || decide ((max a e - min a e) > 100 * s.winderDur k))

/-- The PWM frequency becomes `f` kHz (R388): the clock's phase goes on from here, and the dead times in progress with it (R169). -/
def State.setFreq (s : State) (f : Nat) : State := ((s.rebase).put WI_RSTAT_FREQ f).retime

/-- The place in the profile. -/
def State.setSeg (s : State) (from_ t : Nat) : State := { s with winder := { s.winder with segStart := from_, t := t } }

/-- The profile enters RUN (R389). -/
def State.winderRun (s : State) : State :=
  (((s.setSeg 250000 0).put WI_RSTAT_STATE wrRun).put WI_RSTAT_SEG 0).phaseShow.arm .winderRamp us

/-- The ramp enters IDLE (R389, R392). -/
def State.winderIdle (s : State) : State :=
  ((((s.put WI_RSTAT_STATE wrIdle).setFreq 250000).realigned.disarm .winderRamp).phaseShow).raise 1013

/-- STOP (R389). -/
def State.winderStop (s : State) : State :=
  if s.get WI_RSTAT_STATE = wrWait then s.winderIdle
  else if s.get WI_RSTAT_STATE = wrRun then ((s.put WI_RSTAT_STATE wrRealign).phaseShow).arm .winderRamp us
  else s

/-- A write to RCTL (R388, R389). Of STOP and GO written together STOP acts first, and GO is judged in the state that it leaves (DESIGN CHOICE, log entry
117). A GO in WAIT announces the profile start in the next superframe of the master (R463). -/
def State.rctlWinderWrite (s : State) (v : Word) : State :=
  let s1 := s.regWrite .WI_RCTL v
  let s2 := if WI_RCTL_STOP.of v = 1 then s1.winderStop else s1
  if WI_RCTL_GO.of v = 1 then
    if s2.winderGoRefused then s2.winderDenied
    else if WI_RCTL_STARTSRC.of v = 1 then
      let s3 := (s2.put WI_RSTAT_STATE wrWait).phaseShow
      if s3.on UH_USTAT_MASTER then { s3 with uhla := { s3.uhla with pstart := true } } else s3
    else s2.winderRun
  else s2

/-- The frequency `t` µs into a segment from `a` to `e` kHz that lasts `d` µs (R388); a fraction of a kHz is rounded as the implementation does. -/
def rampFreq (a e t d : Nat) : Nat :=
  if a ≤ e then a + divOpen ((e - a) * t) d else a - divOpen ((a - e) * t) d

/-- One 1 µs update of a running profile (R388, R389). -/
def State.winderTick (s : State) : State :=
  let k := s.get WI_RSTAT_SEG
  let d := s.winderDur k
  let e := s.get WI_RSEG_RFEND k
  let t := s.winder.t + 1
  if t < d then ((s.setSeg s.winder.segStart t).setFreq (rampFreq s.winder.segStart e t d)).arm .winderRamp us
  else
    let s1 := (s.setSeg e 0).setFreq e
    if k < s.get WI_RCTL_NSEG then (s1.put WI_RSTAT_SEG (k + 1)).arm .winderRamp us
    else if s.on WI_RCTL_REPEAT then (s1.put WI_RSTAT_SEG 0).arm .winderRamp us
    else if e = 250000 then (s1.put WI_RSTAT_STATE wrRealign).phaseShow
    else s1

/-- One 1 µs update in REALIGN (R389): the frequency slews to 250 MHz at 0.1 MHz per µs. -/
def State.realignTick (s : State) : State :=
  let f := s.get WI_RSTAT_FREQ
  let f' := if f < 250000 then min 250000 (f + 100) else max 250000 (f - 100)
  let s1 := s.setFreq f'
  if f' = 250000 then s1 else s1.arm .winderRamp us

/-- R388: the 1 µs update of the ramp. -/
def execWinderRampUpdate (s : State) : Out :=
  .next (s.onTimer .winderRamp (fun s =>
    if s.get WI_RSTAT_STATE = wrRun then s.winderTick
    else if s.get WI_RSTAT_STATE = wrRealign then s.realignTick
    else s))

/-- R389: frequency and phase are back at the epoch and the ramp enters IDLE. -/
def execRealignComplete (s : State) : Out :=
  .next (if s.get WI_RSTAT_STATE = wrRealign ∧ s.get WI_RSTAT_FREQ = 250000 then s.winderIdle else s)

/-! ### Other Winder registers -/

/-- The frequency of a clock output's source, kHz (R381, R390). -/
def outSource (sel : Nat) : Nat := if sel = 2 then 240000 else if sel = 4 then 25000 else 250000

/-- The highest output frequency of a format, kHz (R390). -/
def outLimit (fmt : Nat) : Nat := if fmt = 0 then 500000 else if fmt = 3 then 250000 else 125000

/-- A write to OCTL (R390): one beyond the limit of FMT is refused whole; while EN is 1, FMT, SEL and DIV keep their values (R502). -/
def State.octlWrite (s : State) (i : Nat) (v : Word) : State :=
  let mask := WI_OCTL_FMT.mask ||| WI_OCTL_SEL.mask ||| WI_OCTL_DIV.mask
  if decide (4 < WI_OCTL_SEL.of v) || decide (outSource (WI_OCTL_SEL.of v) > outLimit (WI_OCTL_FMT.of v) * (WI_OCTL_DIV.of v + 1)) then s.winderDenied
  else (s.condWrite .WI_OCTL v mask (!s.on WI_OCTL_EN i) State.winderDenied i).clkDrive

/-- A write to RSEG: only in IDLE (R389). -/
def State.rsegWrite (s : State) (i : Nat) (v : Word) : State :=
  s.condWrite .WI_RSEG v (BitVec.ofNat 32 RegId.WI_RSEG.reg.rw) (decide (s.get WI_RSTAT_STATE = wrIdle)) State.winderDenied i

end Sys2Proof.Machine
end

