-- ==== Sys2Proof/Machine/PickCore.lean ====
section
/-! DEFINITION. Pick engines: requests and invocations (R60 to R66), loads (R80, R81), the cell output arbiter (R71 to R77), mismatch and re-sync
(R79), and the writes of their registers. The instruction set is in Machine/PickIsa.lean. -/

namespace Sys2Proof.Machine

/-! ### Units -/

/-- An engine's unit. -/
def State.eng (s : State) (e : Nat) : EngU := s.pick.engs.toList.getD e EngU.reset

/-- Change an engine's unit. -/
def State.updEng (s : State) (e : Nat) (f : EngU → EngU) : State :=
  if h : e < 96 then { s with pick := { s.pick with engs := upd s.pick.engs ⟨e, h⟩ f } } else s

/-- An arbiter's unit. -/
def State.arb (s : State) (c : Nat) : ArbU := s.pick.arbs.toList.getD c ⟨[], none, false⟩

/-- Change an arbiter's unit. -/
def State.updArb (s : State) (c : Nat) (f : ArbU → ArbU) : State :=
  if h : c < 48 then { s with pick := { s.pick with arbs := upd s.pick.arbs ⟨c, h⟩ f } } else s

/-- The option block's PSPLIT bit of a cell (R58, R414). -/
def State.pickSplit (s : State) (c : Nat) : Bool := bit (BitVec.ofNat 32 (s.optByte (4 + c / 8))) (c % 8)

/-- Whether an engine exists: E0, and E1 of a split pair (R58). -/
def State.engExists (s : State) (e : Nat) : Bool := e % 2 == 0 || s.pickSplit (e / 2)

/-- Whether copy `i` of a register is there: the E1 half of a pair that is not split has none (R58). -/
def State.regThere (s : State) (r : RegId) (i : Nat) : Bool := !(r.reg.n1 == 96 && r.reg.base / 0x10000 == 0x4030) || s.engExists i

/-- The Pick fault source of an engine's block (R300). -/
def State.pickFault (s : State) (e : Nat) : State :=
  match s.blockOf (e / 2) with
  | some b => s.raise (112 + b)
  | none => s

/-- The exchange port of an engine's cell (R113). -/
def State.port (s : State) (e : Nat) : XchPort := s.pick.ports.toList.getD (e / 32) ⟨0, 15, []⟩

/-- Change the exchange port of an engine's cell. -/
def State.updPort (s : State) (e : Nat) (f : XchPort → XchPort) : State :=
  if h : e / 32 < 3 then { s with pick := { s.pick with ports := upd s.pick.ports ⟨e / 32, h⟩ f } } else s

/-- The angles of the four domains in this tick. -/
def State.angles (s : State) : Vector Word 4 := s.head.doms.map (fun u => posAng u.pos)

/-! ### Requests (R63, R65) -/

/-- The classes of requests (R60). -/
def clsHf : Nat := 0
def clsPwm : Nat := 1
def clsAcc : Nat := 2
def clsResync : Nat := 3

/-- Whether an engine accepts requests and runs invocations: its cell bound to a block in ARMED, RUNNING or TRIPPED, LOADED (R63), out of reset
(R407). -/
def State.pickRuns (s : State) (e : Nat) : Bool :=
  s.engExists e && s.released uPick && s.on PK_PCTL_LOADED e &&
    match s.blockOf (e / 2) with
    | some b => s.blk b != blkStopped
    | none => false

/-- Whether INVSRC enables a request (R63). -/
def State.pickTakes (s : State) (e cls : Nat) (peak : Bool) : Bool :=
  if cls = clsHf then s.on PK_INVSRC_HF e
  else if cls = clsPwm then s.bitOf PK_INVSRC_PWMEV (if peak then 1 else 0) e
  else s.on PK_INVSRC_ACC e

/-- A request of a class reaches an engine: discarded, pending, or merged (R63, R65). -/
def State.request (s : State) (e cls slot : Nat) (peak : Bool) (angs : Vector Word 4) : State :=
  if s.pickRuns e && s.pickTakes e cls peak then
    if h : cls < 3 then
      match (s.eng e).pend[cls] with
      | none => s.updEng e (fun u => { u with pend := u.pend.set cls (some ⟨s.now, false, slot, peak, angs⟩) })
      | some r => (s.updEng e (fun u => { u with pend := u.pend.set cls (some ⟨r.since, true, slot, peak, angs⟩) })).bumpSat PK_LATE_LATE e
    else s
  else s

/-- A request reaches both engines of a cell (R58), `late` ticks from now: its angles are those of that tick (R96). -/
def State.requestCell (s : State) (c cls slot : Nat) (peak : Bool) (late : Nat) : State :=
  let a := (s.advance late).angles
  (s.request (2 * c) cls slot peak a).request (2 * c + 1) cls slot peak a

/-- The pending requests of a stopping block's cells are discarded (R63). -/
def State.dropRequests (s : State) (b : Nat) : State :=
  s.each (s.cellsOf b) (fun s c =>
    (s.updEng (2 * c) (fun u => { u with pend := Vector.replicate 3 none })).updEng (2 * c + 1)
      (fun u => { u with pend := Vector.replicate 3 none }))

/-- The class of the pending request that starts next: the oldest, in class order among equals (R65). -/
def EngU.nextClass (u : EngU) : Option Nat :=
  ([0, 1, 2].filterMap (fun k => ((u.pend.toList.getD k none)).map (fun r => (k, r.since)))).foldl (fun best x =>
    match best with
    | none => some x
    | some y => if x.2 < y.2 then some x else some y) none |>.map Prod.fst

/-! ### Invocations (R60, R61, R64, R70) -/

/-- A data word of an engine. -/
def dataWord (l : List (Nat × Word)) (a : Nat) : Word := (sparseFind a l).getD 0

/-- Write a data word. -/
def setData (l : List (Nat × Word)) (a : Nat) (v : Word) : List (Nat × Word) := sparseSet a 0 v l

/-- A pending PARAMGO copies the shadow into the parameter window (R61). -/
def State.paramCopy (s : State) (e : Nat) : State :=
  if s.on PK_PARAMGO_GO e then
    (s.updEng e (fun u => { u with
      data := (List.range 64).foldl (fun l n => setData l (448 + n) (s.rdw .PK_PARAM e n)) u.data })).put PK_PARAMGO_GO 0 e
  else s

/-- A ramp generator of the cell in RUN or HELD writes RVAL into its parameter word; on a split pair it serves E0 (R190, R191). -/
def State.rampOverride (s : State) (e : Nat) : State :=
  if e % 2 = 1 then s
  else s.each (List.range 24) (fun s r =>
    let st := s.get RG_RSTAT_STATE r
    if s.rampOn r (e / 2) && (st == rampRun || st == rampHeld) then
      s.updEng e (fun u => { u with data := setData u.data (448 + s.get RG_RCTL_WORD r) (s.rdw .RG_RVAL r) })
    else s)

/-- The cause word (R60). -/
def causeWord (cls : Nat) (r : Req) (icount : Nat) : Word :=
  BitVec.ofNat 32 (cls + (if cls = clsPwm ∧ r.peak then 4 else 0) + (if r.merged then 8 else 0)
    + (if cls = clsHf then r.slot % 256 * 256 else 0) + icount % 65536 * 65536)

/-- Start an invocation of class `cls` for request `r` (R60, R61, R64, R70, R191). -/
def State.startInv (s : State) (e cls : Nat) (r : Req) : State :=
  match (s.eng e).prog with
  | none => s
  | some p =>
    let s1 := ((s.paramCopy e).rampOverride e).bump PK_ICOUNT_ICOUNT e
    let region := 8 * s1.get PK_REGION_IY e + s1.get PK_REGION_IX e
    let s2 := (s1.put PK_REGION_REGION region e).put PK_PSTAT_BUSY 1 e
    let cause := causeWord cls r (s2.get PK_ICOUNT_ICOUNT e)
    s2.updEng e (fun u => { u with
      pend := if h : cls < 3 then u.pend.set cls none else u.pend
      run := some
        { cls := cls, left := s2.get PK_BUDGET_BUDGET e, pc := p.entries.toList.getD cls 0, g := (Vector.replicate 16 0).set 0 cause
          a0 := 0, a1 := 0, n := false, z := false, sat := false, dz := false, nr := false, merged := r.merged, region := region
          angs := r.angs, single := false, loop := none, data := u.data, unseen := [], asked := (s2.port e).grants, opv0 := s2.rdw .PK_OPV e 0, opv1 := s2.rdw .PK_OPV e 1
          ref := p.ref.map (fun k => ⟨k, .acquire, [], Vector.replicate 3 0, Vector.replicate 3 0, [], 0, false, u.mem⟩) } })

/-- Whether an engine can start an invocation now. -/
def State.canStart (s : State) (e : Nat) : Bool :=
  s.pickRuns e && (s.eng e).run.isNone && !s.on PK_PSTAT_RESYNC e && !(s.eng e).stopped

/-- Start the pending request that is due. -/
def State.startNext (s : State) (e : Nat) : State :=
  match (s.eng e).nextClass with
  | none => s
  | some k =>
    match (s.eng e).pend.toList.getD k none with
    | some r => s.startInv e k r
    | none => s

/-- R64: a pending request starts an invocation. -/
def execInvocationStart (e : Eng) (s : State) : Out :=
  .next (if s.canStart e.val then s.startNext e.val else s)

/-- The invocation of an engine ends without commit: the working copy is discarded (R60). -/
def State.dropInv (s : State) (e : Nat) : State :=
  (s.updEng e (fun u => { u with run := none })).put PK_PSTAT_BUSY 0 e

/-- An invocation ends as a budget exhaustion (R66, R92). -/
def State.exhaust (s : State) (e : Nat) : State :=
  (((s.dropInv e).put PK_PSTAT_BUDGET_EXH 1 e).bumpSat PK_LATE_EXHCOUNT e).pickFault e

/-! ### The cell output arbiter (R71 to R77) -/

/-- An ARBCTL word's route: destination cell and slot. -/
def routeOf (w : Word) : Option (Nat × Nat) :=
  if PK_ARBCTL_DEST.of w = 3 then some (PK_ARBCTL_DESTCELL.of w, PK_ARBCTL_DESTSLOT.of w) else none

/-- The route of a cell's arbiter. -/
def State.route (s : State) (c : Nat) : Option (Nat × Nat) := routeOf (s.rdw .PK_ARBCTL c)

/-- Whether slot `j` of cell `c` is the target of a route (R74). -/
def State.routedIn (s : State) (c j : Nat) : Bool :=
  (List.range 48).any (fun k => s.route k == some (c, j))

/-- The number of routes that follow one another from a cell, up to `fuel`. -/
def chainLen (cfg : Nat → Word) : Nat → Nat → Nat
  | 0, _ => 0
  | fuel + 1, c =>
    match routeOf (cfg c) with
    | some (d, _) => 1 + chainLen cfg fuel d
    | none => 0

/-- The conditions of R76 over all the arbiters' words. -/
def State.routesOk (s : State) (cfg : Nat → Word) : Bool :=
  (List.range 48).all (fun k =>
    match routeOf (cfg k) with
    | none => !(PK_ARBCTL_DEST.of (cfg k) == 2 && PK_ARBCTL_FMT.of (cfg k) == 0)
    | some (d, j) =>
      decide (d < 48) && (s.blockOf k).isSome && s.blockOf k == s.blockOf d && PK_ARBCTL_FMT.of (cfg k) == PK_ARBCTL_FMT.of (cfg d)
        && (List.range 48).all (fun k' => k' == k || routeOf (cfg k') != some (d, j)) && decide (chainLen cfg 5 k ≤ 4))

/-- The tracking value T of a cell (R75). -/
def State.trackFrom (s : State) : Nat → Nat → Word
  | 0, _ => 0x7FFFFFFF
  | fuel + 1, c =>
    match s.route c with
    | some (d, _) => s.trackFrom fuel d
    | none => if (s.arb c).delivered then s.rdw .PK_ARBOUT c else 0x7FFFFFFF

/-- The tracking value T of a cell: a chain has at most four routes (R75, R76). -/
def State.trackOf (s : State) (c : Nat) : Word := s.trackFrom 6 c

/-- An evaluation of an arbiter falls due 4 ns from now; writes of one cycle share it (R71). -/
def State.evalLater (s : State) (c : Nat) : State :=
  s.updArb c (fun u => if u.due.contains (s.now + 1) then u else { u with due := u.due ++ [s.now + 1] })

/-- Write a contender slot (R71). -/
def State.slotWrite (s : State) (c j : Nat) (v : Word) : State :=
  (s.wrw .PK_SLOTVAL v c j).evalLater c

/-- A Q1.31 or Q16.16 value as a duty ratio (R73, R109). -/
def ratioDuty (q16 : Bool) (v : Word) : Word :=
  if v.toInt < 0 then 0
  else if q16 then (if v.toNat ≥ 65536 then 0xFFFF else v)
  else BitVec.ofNat 32 (bits v 15 16)

/-- The integer part of a Q16.16 value as an absolute duty (R73, R109). -/
def absDuty (v : Word) : Word := if v.toInt < 0 then 0 else v &&& 0xFFFF0000

/-- The enabled slot with the lowest value, the lowest slot among equals (R71, R72). -/
def State.winnerOf (s : State) (c : Nat) : Option Nat :=
  ((List.range 8).filter (fun j => s.bitOf PK_ARBCTL_SLOTEN j c)).foldl (fun best j =>
    match best with
    | none => some j
    | some k => if (s.rdw .PK_SLOTVAL c j).toInt < (s.rdw .PK_SLOTVAL c k).toInt then some j else best) none

/-- Deliveries of a cell stop while its lock-step pair is in re-sync or stays stopped, and while an engine of its split pair is in re-sync; for a
split engine that stays stopped the cell's arbiter runs on (R79). -/
def State.deliveriesHeld (s : State) (c : Nat) : Bool :=
  s.on PK_PSTAT_RESYNC (2 * c) || (if s.pickSplit c then s.on PK_PSTAT_RESYNC (2 * c + 1) else (s.eng (2 * c)).stopped)

/-- Deliver a value to a cell's destination (R71, R73). -/
def State.deliver (s : State) (c : Nat) (v : Word) : State :=
  if s.deliveriesHeld c then s
  else
    let s1 := (s.wrw .PK_ARBOUT v c).updArb c (fun u => { u with delivered := true })
    let fmt := s1.on PK_ARBCTL_FMT c
    match s1.get PK_ARBCTL_DEST c with
    | 1 => s1.deliverDuty c false (ratioDuty fmt v)
    | 2 => s1.deliverDuty c true (absDuty v)
    | 3 => s1.slotWrite (s1.get PK_ARBCTL_DESTCELL c) (s1.get PK_ARBCTL_DESTSLOT c) v
    | _ => s1

/-- The winning slot is `j` (R77). -/
def State.winnerIs (s : State) (c j : Nat) (v : Word) : State :=
  if (s.arb c).winner = some j then s
  else
    let old := s.get PK_ARBSTAT_WINNER c
    let s1 := ((s.put PK_ARBSTAT_WINNER j c).bump PK_ARBSTAT_WINCHG c).updArb c (fun u => { u with winner := some j })
    (s1.record c 3 3 c [BitVec.ofNat 32 (old + 16 * j), v, BitVec.ofNat 32 (s1.get PK_ARBSTAT_WINCHG c)]).raise (128 + c)

/-- One evaluation (R71, R72, R77). It takes place during a re-sync too, where R79 stops only the deliveries (DESIGN CHOICE, log entry 93). -/
def State.evaluate (s : State) (c : Nat) : State :=
  match s.winnerOf c with
  | none => (s.put PK_ARBSTAT_EMPTY 1 c).updArb c (fun u => { u with winner := none })
  | some j =>
    let v := s.rdw .PK_SLOTVAL c j
    ((s.put PK_ARBSTAT_EMPTY 0 c).winnerIs c j v).deliver c v

/-- R71: the evaluation of a cell's arbiter that is due. -/
def execArbiterEvaluation (c : Cell) (s : State) : Out :=
  .next (match (s.arb c.val).due with
    | [] => s
    | d :: rest => ((s.advanceTo d).updArb c.val (fun u => { u with due := rest })).evaluate c.val)

/-! ### Register writes -/

/-- A write to ARBCTL by a master that R19 admits (R72, R76); an absolute duty in Q1.31 is refused whole (R73, R502). -/
def State.arbctlWrite (s : State) (c : Nat) (v : Word) : State :=
  if PK_ARBCTL_DEST.of v = 2 ∧ PK_ARBCTL_FMT.of v = 0 then s.put PK_ARBCTL_ROUTE_DENIED 1 c
  else
  let mask := PK_ARBCTL_FMT.mask ||| PK_ARBCTL_DEST.mask ||| PK_ARBCTL_DESTCELL.mask ||| PK_ARBCTL_DESTSLOT.mask
  let old := s.rdw .PK_ARBCTL c
  let ok := s.cellStopped c && s.routesOk (fun k => if k = c then keeping old v (~~~mask) else s.rdw .PK_ARBCTL k)
  let s1 := s.condWrite .PK_ARBCTL v mask ok (fun s => s.put PK_ARBCTL_ROUTE_DENIED 1 c) c
  if changes old v PK_ARBCTL_SLOTEN.mask then s1.evalLater c else s1

/-- The bitstream channel assigned to local index 2 or 3 of a cell (R120). -/
def State.bitstreamAt (s : State) (c loc : Nat) : Option Nat :=
  ((List.range 24).map (· + 96)).find? (fun k => s.get SN_SDCTL_CELL k == c && s.get SN_SDCTL_LOCAL k == loc)

/-- The channel at a local index of a cell (R120). -/
def State.channelAt (s : State) (c loc : Nat) : Option Nat :=
  if loc < 2 then some (2 * c + loc) else s.bitstreamAt c loc

/-- Whether a SLICEMAP entry is accepted for a cell (R67, R121). -/
def State.sliceOk (s : State) (c x : Nat) : Bool :=
  x == 0xFF || (decide (x < 16) && x / 4 != 3 && (s.channelAt c (x % 4)).isSome)

/-- A write to SLICEMAP0 or SLICEMAP1 of engine `e` (R67, R83): each entry that is refused keeps its value. -/
def State.slicemapWrite (s : State) (e : Nat) (r : RegId) (v : Word) : State :=
  let old := s.rdw r e
  let bad (k : Nat) : Bool := bits v (8 * k) 8 != bits old (8 * k) 8 && !(s.cellStopped (e / 2) && s.sliceOk (e / 2) (bits v (8 * k) 8))
  let new := [0, 1, 2, 3].foldl (fun w k => if bad k then setBits w (8 * k) 8 (bits old (8 * k) 8) else w) v
  let s1 := s.wrw r new e
  if [0, 1, 2, 3].any bad then s1.put PK_PSTAT_SLICE_DENIED 1 e else s1

/-- A write to PARAMGO (R61). -/
def State.paramgoWrite (s : State) (e : Nat) (v : Word) : State :=
  if PK_PARAMGO_GO.of v = 1 then s.put PK_PARAMGO_GO 1 e else s

/-- A write to PARAM `n` (R61). -/
def State.paramWrite (s : State) (e n : Nat) (v : Word) : State :=
  s.condWrite .PK_PARAM v (BitVec.ofNat 32 RegId.PK_PARAM.reg.rw) (!s.on PK_PARAMGO_GO e) (fun s => s.put PK_PSTAT_PARAM_DENIED 1 e) e n

/-- A write to REPLATCH (R62): the committed report words into the read buffer. -/
def State.replatchWrite (s : State) (e : Nat) (v : Word) : State :=
  if PK_REPLATCH_LATCH.of v = 1 then
    s.each (List.range 64) (fun s n => s.wrw .PK_REPORT (dataWord (s.eng e).data (384 + n)) e n)
  else s

/-- A write to BUDGET (R81). -/
def State.budgetWrite (s : State) (e : Nat) (v : Word) : State :=
  let b := PK_BUDGET_BUDGET.of v
  let ok := decide (s.get PK_BUDGET_WCET e ≤ b) && decide (b ≤ 4096) && b != 0
  s.condWrite .PK_BUDGET v PK_BUDGET_BUDGET.mask ok (fun s => s.put PK_PSTAT_BUDGET_DENIED 1 e) e

/-! ### The reference programs in a set (R193, R202, R226) -/

/-- PROGSEL of a reference program (R193, R202). -/
def RefProg.index : RefProg → Nat
  | .dcb => 0x20
  | .acr => 0x10
  | .acu => 0x11
  | .aco => 0x12
  | .acw => 0x13

/-- Its worst-case count (R193, R202). -/
def RefProg.wcet : RefProg → Nat
  | .dcb => 118
  | .acr => 640
  | .acu => 700
  | .aco => 1020
  | .acw => 780

/-- The parameter words that are 0 in the initial data (R226, R240): RT_MODE, K_POS, K_NEG, GF_MODE and ISL_CTL of ACR. -/
def RefProg.zeroed : RefProg → List Nat
  | .acr => [454, 459, 460, 470, 479]
  | _ => []

/-- A program of a set as the reference program it is: one entry for every class, its count, its initial data (R193, R202, R226). -/
def PickProgram.asReference (p : PickProgram) (k : RefProg) : PickProgram :=
  { p with
    entries := Vector.replicate 4 0
    wcet := Vector.replicate 4 k.wcet
    data := (List.range 512).map (fun a => if k.zeroed.contains a then 0 else p.data.getD a 0) }

/-- A program set with its reference programs in their places. -/
def referenceSet (l : List (Nat × PickProgram)) : List (Nat × PickProgram) :=
  l.map (fun x => match x.2.ref with
    | some k => (k.index, x.2.asReference k)
    | none => x)

/-! ### Loads (R68, R80, R81) -/

/-- The breakpoint rule (R68): BP[0] to BP[m] strictly rising, every later one 0x7FFF_FFFF. -/
def breaksOk : List Word → Bool
  | [] => true
  | [_] => true
  | a :: b :: l => (a.toInt < b.toInt || (a == 0x7FFFFFFF && b == 0x7FFFFFFF)) && breaksOk (b :: l)

/-- Whether a program can be loaded (R68, R119). -/
def PickProgram.valid (p : PickProgram) : Bool :=
  breaksOk p.bpX.toList && breaksOk p.bpY.toList && p.wcet.toList.all (fun n => n ≤ 4096)

/-- An index set without hysteresis (R68). -/
def indexAt (bp : Vector Word 8) (x : Word) : Nat :=
  ((List.range 8).filter (fun k => (bp.toList.getD k 0).toInt ≤ x.toInt)).getLast?.getD 0

/-- LOAD of engine `e` (R80). One written while a load of the engine waits or runs replaces it and takes its place in the order of the LOAD writes
(DESIGN CHOICE, log entry 94). -/
def State.load (s : State) (e : Nat) : State :=
  let p := (s.pick.set.find? (fun x => x.1 == s.get PK_PCTL_PROGSEL e)).map Prod.snd
  match p with
  | some p =>
    if s.cellStopped (e / 2) && s.released uPick && p.valid then
      let s1 := ((s.put PK_PCTL_LOADED 0 e).put PK_PCTL_LOADING 1 e).updEng e (fun u => { u with load := some p })
      { s1 with pick := { s1.pick with loads := s1.pick.loads.filter (· != e) ++ [e] } }
    else s.put PK_PCTL_LOAD_DENIED 1 e
  | none => s.put PK_PCTL_LOAD_DENIED 1 e

/-- A write to PCTL (R80): PROGSEL, then LOAD. -/
def State.pctlPickWrite (s : State) (e : Nat) (v : Word) : State :=
  let s1 := s.regWrite .PK_PCTL v e
  if PK_PCTL_LOAD.of v = 1 then s1.load e else s1

/-- The data words of a list, from address 0. -/
def dataOf (l : List Word) : List (Nat × Word) :=
  ((List.range (min l.length 512)).zip l).foldl (fun m x => setData m x.1 x.2) []

/-- A load completes in engine `e` (R68, R80, R81). An invocation that still runs is dropped with its working copy, without END and without a count: R63 lets
it complete after the block stops, and R80 does not say what the load does to it (DESIGN CHOICE, log entry 118). -/
def State.loaded (s : State) (e : Nat) (p : PickProgram) : State :=
  let w := p.wcet.toList.foldl max 0
  let s1 := s.updEng e (fun u => { u with prog := some p, load := none, run := none, data := dataOf p.data, mem := RefMem.initial, stopped := false })
  let s2 := { s1 with pick := { s1.pick with loads := s1.pick.loads.filter (· != e) } }
  let s3 := ((((s2.put PK_PCTL_LOADED 1 e).put PK_PCTL_LOADING 0 e).put PK_PSTAT_BUSY 0 e).put PK_PSTAT_RESYNC 0 e).put PK_PSTAT_HALTED 0 e
  let s4 := ((s3.put PK_BUDGET_WCET w e).put PK_BUDGET_BUDGET w e).disarm (.resync e)
  let s5 := (s4.wrw .PK_OPV p.opv0 e 0).wrw .PK_OPV p.opv1 e 1
  (s5.put PK_REGION_IX (indexAt p.bpX p.opv0) e).put PK_REGION_IY (indexAt p.bpY p.opv1) e

/-- R81: the load of engine `e` completes; loads run in the order of their LOAD writes. -/
def execLoadComplete (e : Eng) (s : State) : Out :=
  .next (match s.pick.loads, (s.eng e.val).load with
    | k :: _, some p => if k = e.val then s.loaded e.val p else s
    | _, _ => s)

/-! ### Mismatch and re-sync (R79) -/

/-- A channel in absolute form holds its duty as a ratio of the period in force (R27). -/
def State.holdDuty (s : State) (c : Nat) : State :=
  if s.on PW_CHCTL_FORM c then
    match s.groupOf c with
    | none => s
    | some g =>
      let prd := s.actPrd g
      if prd = 0 then s
      else (s.updChan c (fun u => { u with
        held := some (BitVec.ofNat 32 (min 65535 (divOpen (s.cmpOf c * 65536) prd))), cmpWas := s.cmpBefore c })).showCmp c
  else s

/-- The re-sync fails: the pair stays stopped and its block is inhibited; a split engine only halts (R79). -/
def State.resyncFailed (s : State) (e : Nat) : State :=
  let s1 := (((s.updEng e (fun u => { u with stopped := true })).put PK_PSTAT_RESYNC 0 e).put PK_PSTAT_ECC_UNCORR 1 e).disarm (.resync e)
  if s1.pickSplit (e / 2) then (s1.put PK_PSTAT_HALTED 1 e).pickFault e
  else
    let s2 := s1.pickFault e
    match s2.blockOf (e / 2) with
    | some b => s2.sf2Latch b
    | none => s2

/-- The 24.8 µs of a re-sync, in ticks; a split engine makes no compare-lane test, 2.0 µs (R79). -/
def State.resyncTicks (s : State) (e : Nat) : Nat := if s.pickSplit (e / 2) then 5700 else 6200

/-- R59, R79: the compare lanes of a lock-step pair disagree (`cause` 0), an uncorrectable memory error occurs in an engine (1), or a single-bit error is
corrected (2). -/
def execPairMismatch (e : Eng) (cause : Fin 3) (s : State) : Out :=
  let k := e.val
  let ecc := cause == 1
  .next (if !s.engExists k || !s.released uPick || (s.eng k).stopped || (s.pickSplit (k / 2) && cause == 0) then s
    else if cause = 2 then s.put PK_PSTAT_ECC_CORR 1 k
    else if s.on PK_PSTAT_RESYNC k then (s.put PK_PSTAT_MISMATCH 1 k).resyncFailed k
    else
      let s1 := ((s.dropInv k).put PK_PSTAT_MISMATCH 1 k).put PK_PSTAT_RESYNC 1 k
      let s2 := if ecc then s1.put PK_PSTAT_ECC_UNCORR 1 k else s1
      let s3 := (s2.holdDuty (k / 2)).each (List.range 24) (fun s r =>
        if s.rampOn r (k / 2) && s.get RG_RSTAT_STATE r == rampRun && k % 2 == 0 then s.put RG_RSTAT_RESYNC_SEEN 1 r else s)
      ((s3.pickFault k).arm (.resync k) (s.resyncTicks k)).coastPick)

/-- R79: the re-sync ends: the oldest pending request starts, or a re-sync invocation; with `bad` the committed copy
could not be restored. -/
def execResyncComplete (e : Eng) (bad : Bool) (s : State) : Out :=
  let k := e.val
  .next (s.onTimer (.resync k) (fun s =>
    if bad then s.resyncFailed k
    else
      let s1 := s.put PK_PSTAT_RESYNC 0 k
      if !s1.canStart k then s1
      else if (s1.eng k).nextClass.isSome then s1.startNext k
      else s1.startInv k clsResync ⟨s1.now, false, 0, false, s1.angles⟩))

/-- A write to another register of an engine: PSTAT and INVSRC. -/
def State.pickPlainWrite (s : State) (e : Nat) (r : RegId) (v : Word) : State := s.regWrite r v e

end Sys2Proof.Machine
end

