-- ==== Sys2Proof/Machine/Ramp.lean ====
section
/-! DEFINITION. Ramp generators (R190 to R192, R201). -/

namespace Sys2Proof.Machine

/-- A generator's unit. -/
def State.rampU (s : State) (r : Nat) : RampU := s.power.ramps.toList.getD r ⟨0, 0⟩

/-- Set a generator's unit. -/
def State.setRamp (s : State) (r : Nat) (u : RampU) : State :=
  if h : r < 24 then { s with power := { s.power with ramps := s.power.ramps.set r u h } } else s

/-- A generator's cell and state. -/
def State.rampCell (s : State) (r : Nat) : Nat := s.get RG_RCTL_CELL r
def State.rampState (s : State) (r : Nat) : Nat := s.get RG_RSTAT_STATE r

/-- RAMP_DENIED. -/
def State.rampDenied (s : State) (r : Nat) : State := s.put RG_RSTAT_RAMP_DENIED 1 r

/-- Entry to RUN (R191, R192): s_0 is RSTART, or with FROMWORD the parameter word in this tick; the Seam trigger fires. -/
def State.rampEnter (s : State) (r : Nat) : State :=
  let w := if s.on RG_RCTL_FROMWORD r then dataWord (s.eng (2 * s.rampCell r)).data (448 + s.get RG_RCTL_WORD r) else s.rdw .RG_RSTART r
  let s1 := ((s.put RG_RSTAT_STATE rampRun r).put RG_RSTAT_SEG 0 r).wrw .RG_RVAL w r
  (((s1.setRamp r ⟨w, 0⟩).disarm (.rampWait r)).arm (.ramp r) us).fire (s.get RG_RCTL_SEAMTRIG r)

/-- Entry to HELD (R191): the ramp-end source of the cell. -/
def State.rampHold (s : State) (r : Nat) : State :=
  ((s.put RG_RSTAT_STATE rampHeld r).disarm (.ramp r)).raise (192 + s.rampCell r)

/-- Return to IDLE (R191). -/
def State.rampToIdle (s : State) (r : Nat) : State :=
  ((s.put RG_RSTAT_STATE rampIdle r).disarm (.ramp r)).disarm (.rampWait r)

/-- GO of a generator (R191): into WAIT with ALIGN, into RUN without. -/
def State.rampGo (s : State) (r : Nat) : State :=
  if s.rampState r = rampIdle ∧ s.on RG_RCTL_EN r ∧ (s.blockOf (s.rampCell r)).isSome then
    if s.on RG_RCTL_ALIGN r then (s.put RG_RSTAT_STATE rampWait r).arm (.rampWait r) (10 * ms) else s.rampEnter r
  else s.rampDenied r

/-- Whether a CELL value takes effect (R190): the old and the new cell's blocks STOPPED or unbound. -/
def State.rampCellOk (s : State) (r c : Nat) : Bool := s.cellStopped (s.rampCell r) && s.cellStopped c

/-- A CELL value that another generator names (R190). -/
def State.rampTaken (s : State) (r c : Nat) : Bool :=
  decide (c < 48) && c != s.rampCell r && (List.range 24).any (fun k => k != r && s.rampCell k == c)

/-- The fields of an RCTL write other than GO, STOP and RELEASE (R190, R191): only in IDLE; CELL under R190. -/
def State.rampFields (s : State) (r : Nat) (v : Word) : State :=
  let mask := BitVec.ofNat 32 RegId.RG_RCTL.reg.rw
  if s.rampState r ≠ rampIdle then s.condWrite .RG_RCTL v mask false (fun s => s.rampDenied r) r
  else s.condWrite .RG_RCTL v RG_RCTL_CELL.mask (s.rampCellOk r (RG_RCTL_CELL.of v)) (fun s => s.rampDenied r) r

/-- A write to RCTL by a master that R19 admits: the fields, then GO or RELEASE, then STOP. One whose CELL another generator names is refused whole
(R190, R502). -/
def State.rctlRampWrite (s : State) (r : Nat) (v : Word) : State :=
  if s.rampTaken r (RG_RCTL_CELL.of v) then s.rampDenied r
  else
  let s1 := s.rampFields r v
  let s2 := if RG_RCTL_GO.of v = 1 then s1.rampGo r else s1
  let s3 := if RG_RCTL_RELEASE.of v = 1 then (if s.rampState r = rampHeld then s2.rampToIdle r else s2.rampDenied r) else s2
  if RG_RCTL_STOP.of v = 1 then s3.rampToIdle r else s3

/-- Run `f` for a generator's register under R19 (R190). -/
def State.asRampOwner (s : State) (m : Master) (r : Nat) (f : State → State) : State :=
  s.asCellOwner m (s.rampCell r) f

/-- A write to RSTART, SEGEND or SEGDUR (R191): only in IDLE. -/
def State.rampPlainWrite (s : State) (g : RegId) (r n : Nat) (v : Word) : State :=
  if g = .RG_RSTAT then s.regWrite g v r n
  else s.condWrite g v (BitVec.ofNat 32 g.reg.rw) (decide (s.rampState r = rampIdle)) (fun s => s.rampDenied r) r n

/-- R191: 10 ms in WAIT. -/
def execAlignTimeout (r : Gen) (s : State) : Out :=
  .next (s.onTimer (.rampWait r.val) (fun s =>
    if s.rampState r.val = rampWait then (s.rampToIdle r.val).put RG_RSTAT_ALIGN_TIMEOUT 1 r.val else s))

/-- The value `t` µs into a segment of `d` µs from `a` to `e` (R192): the quotient truncated toward zero, the sum in 64 bits. -/
def rampValue (a e : Word) (t d : Nat) : Word :=
  wordOfInt (a.toInt + Int.tdiv ((e.toInt - a.toInt) * t) d)

/-- One 1 µs update (R192). -/
def State.rampTick (s : State) (r : Nat) : State :=
  let k := s.get RG_RSTAT_SEG r
  let d := 10 * atLeast1 (s.get RG_SEGDUR_DUR r k)
  let e := s.rdw .RG_SEGEND r k
  let u := s.rampU r
  let t := u.t + 1
  if t < d then ((s.wrw .RG_RVAL (rampValue u.start e t d) r).setRamp r ⟨u.start, t⟩).arm (.ramp r) us
  else
    let s1 := (s.wrw .RG_RVAL e r).setRamp r ⟨e, 0⟩
    if k < s.get RG_RCTL_NSEG r then (s1.put RG_RSTAT_SEG (k + 1) r).arm (.ramp r) us
    else (s1.put RG_RSTAT_DONE 1 r).rampHold r

/-- R192: the 1 µs update of a generator in RUN. -/
def execRampUpdate (r : Gen) (s : State) : Out :=
  .next (s.onTimer (.ramp r.val) (fun s => if s.rampState r.val = rampRun then s.rampTick r.val else s))

/-- A generator in WAIT enters RUN at the publication of slice 1 of local channel 0 of its cell (R191). -/
def State.rampAlign (s : State) (c : Nat) : State :=
  s.each (List.range 24) (fun s r => if s.rampCell r == c && s.rampState r == rampWait then s.rampEnter r else s)

end Sys2Proof.Machine
end

