-- ==== Sys2Proof/Machine/Sensing.lean ====
section
/-! DEFINITION. Sensing: reference buffer (R128), sequences and their collisions (R129 to R131), samples (R125 to R127), accumulator slices (R132 to
R134), min-max trackers (R135), diagnostic channels (R136), and the writes of their registers (R120, R122, R139, R140). -/

namespace Sys2Proof.Machine

/-! ### Units -/

/-- A sequence's unit. -/
def State.seqU (s : State) (q : Nat) : SeqU := s.sense.seqs.toList.getD q ⟨0, 0, 0, 0, false, 0⟩
/-- Set a sequence's unit. -/
def State.setSeq (s : State) (q : Nat) (u : SeqU) : State :=
  if h : q < 32 then { s with sense := { s.sense with seqs := s.sense.seqs.set q u h } } else s
/-- The unit of slice `j` of channel `c` (R120). -/
def State.slice (s : State) (c j : Nat) : SliceU := s.sense.slices.toList.getD (2 * c + j) SliceU.reset
/-- Change a slice's unit. -/
def State.updSlice (s : State) (c j : Nat) (f : SliceU → SliceU) : State :=
  if h : 2 * c + j < 240 then { s with sense := { s.sense with slices := upd s.sense.slices ⟨2 * c + j, h⟩ f } } else s
/-- A tracker's unit. -/
def State.trk (s : State) (c : Nat) : TrackU := s.sense.trackers.toList.getD c ⟨none, []⟩
/-- Change a tracker's unit. -/
def State.updTrk (s : State) (c : Nat) (f : TrackU → TrackU) : State :=
  if h : c < 120 then { s with sense := { s.sense with trackers := upd s.sense.trackers ⟨c, h⟩ f } } else s

/-- Arm a deadline at tick `d`. -/
def State.armAt (s : State) (t : Timer) (d : Nat) : State :=
  { s with timers := (t, d) :: (s.disarm t).timers }

/-- The cell a channel is assigned to (R120). -/
def State.chanCell (s : State) (c : Nat) : Option Nat :=
  if c < 96 then some (c / 2)
  else if s.get SN_SDCTL_CELL c < 48 then some (s.get SN_SDCTL_CELL c)
  else none

/-- The local index of a channel (R120). -/
def State.chanLocal (s : State) (c : Nat) : Nat := if c < 96 then c % 2 else s.get SN_SDCTL_LOCAL c

/-! ### Min-max trackers (R135) -/

/-- The seam stream of a channel's records (R442). -/
def State.chanStream (s : State) (c : Nat) : Nat := (s.chanCell c).getD 48

/-- Publish a min-max record (R135, R442). -/
def State.publishRecord (s : State) (c : Nat) (r : Int × Int × Nat) : State :=
  let (mn, mx, n) := r
  let s1 := ((s.wrw .SN_MMMIN (wordOfInt (mn * 256)) c).wrw .SN_MMMAX (wordOfInt (mx * 256)) c).put SN_MMINFO_COUNT (min n 131071) c
  let s2 := (s1.put SN_MMINFO_NOT_READY 0 c).bump SN_MMINFO_RNUM c
  s2.record (s2.chanStream c) 2 2 c [wordOfInt (mn * 256), wordOfInt (mx * 256),
    BitVec.ofNat 32 (min n 131071 + s2.get SN_MMINFO_RNUM c % 32768 * 131072)]

/-- A reset event (R135): the record closes, to be published 16 ns later, as a window is (R134). -/
def State.mmClose (s : State) (c : Nat) : State :=
  match (s.trk c).cur with
  | none => s
  | some r =>
    let s1 := s.updTrk c (fun u => { cur := none, closed := u.closed ++ [(r, s.now)] })
    if s1.armed (.record c) then s1 else s1.arm (.record c) 4

/-- A reset event that is no close of a window; while REFRDY is 0 it is ignored (R128). -/
def State.mmEvent (s : State) (c : Nat) : State := if s.on SN_CTL_REFRDY then s.mmClose c else s

/-- The reset event at the close of slice `j`'s window (R135). -/
def State.mmSlice (s : State) (c j : Nat) : State := if s.get SN_MMCTL_RST c = j then s.mmClose c else s

/-- The record that is due is published; a later one follows 16 ns after its own reset event. -/
def State.publishDue (s : State) (c : Nat) : State :=
  match (s.trk c).closed with
  | [] => s
  | (r, _) :: rest =>
    let s1 := (s.updTrk c (fun u => { u with closed := rest })).publishRecord c r
    match rest with
    | (_, t) :: _ => s1.arm (.record c) (t + 4 - s1.now)
    | [] => s1

/-! ### Accumulator slices (R132 to R134) -/

/-- The settings of the window in progress; a window that has no sample yet starts under the settings in the registers (R133). -/
def State.slCtl (s : State) (c j : Nat) : Word := if (s.slice c j).count = 0 then s.rdw .SN_SLCTL c j else (s.slice c j).ctl

/-- N of a window (R132). -/
def windowLen (ctl : Word) : Nat := max 3 (SN_SLCTL_NM1.of ctl) + 1

/-- A window closes: it is published 16 ns later (R134). -/
def State.closeWindow (s : State) (c j : Nat) : State :=
  let u := s.slice c j
  let full := decide (SN_SLCTL_MODE.of u.ctl ≠ 0) && decide (u.count = windowLen u.ctl) && decide (u.lastAt < s.now)
  ((s.updSlice c j (fun u => { u with closed := some ⟨u.sum, u.count, full⟩, sum := 0, count := 0 })).arm (.publish c j) 4).mmSlice c j

/-- A close event of a slice (R132, R133): fewer than 4 samples do not close a window. -/
def State.closeSlice (s : State) (c j : Nat) : State :=
  if !s.on SN_CTL_REFRDY || !s.on SN_SLCTL_EN c j then s
  else
    let few := decide ((s.slice c j).count < 4)
    let s1 := s.updSlice c j (fun u => { u with closeAt := some s.now, short := if few then some (s.get SN_SLGAP_SHORT c j) else none })
    if few then s1.bumpSat SN_SLGAP_SHORT c j else s1.closeWindow c j

/-- A sample enters the window in progress of an enabled slice (R132, R133). -/
def State.enterSample (s : State) (c j : Nat) (x : Int) : State :=
    let u := s.slice c j
    let gap := SN_SLGAP_GAP.of u.gap
    let late := decide (u.count > 0) && SN_SLCTL_MODE.of u.ctl == 0 && gap != 0 && decide (s.now - u.lastAt > gap * us)
    let s1 := if late then s.bumpSat SN_SLGAP_GAPRST c j else s
    let u1 := if late || u.count = 0 then
        { u with ctl := s1.rdw .SN_SLCTL c j, gap := s1.rdw .SN_SLGAP c j, sum := 0, count := 0 }
      else u
    if u1.count ≥ windowLen u1.ctl then s1
    else
      let s2 := s1.updSlice c j (fun _ => { u1 with sum := u1.sum + x, count := u1.count + 1, lastAt := s1.now })
      if SN_SLCTL_MODE.of u1.ctl = 0 ∧ u1.count + 1 = windowLen u1.ctl then s2.closeWindow c j else s2

/-- A sample in the tick of its slice's close event belongs to the closing window (R133): it enters the window that has just closed, or the one that was too
short, which closes if it now has 4 samples. -/
def State.joinSample (s : State) (c j : Nat) (x : Int) : State :=
  let u := s.slice c j
  match u.short, u.closed with
  | none, some w =>
    if w.count < windowLen u.ctl then s.updSlice c j (fun u => { u with closed := some { w with sum := w.sum + x, count := w.count + 1 } }) else s
  | none, none => s.enterSample c j x
  | some n, _ =>
    let s1 := s.enterSample c j x
    if (s1.slice c j).count < 4 then s1
    else ((s1.put SN_SLGAP_SHORT n c j).updSlice c j (fun u => { u with short := none })).closeWindow c j

/-- A sample enters an enabled slice. -/
def State.addSample (s : State) (c j : Nat) (x : Int) : State :=
  if !s.on SN_SLCTL_EN c j then s
  else if (s.slice c j).closeAt = some s.now then s.joinSample c j x
  else s.enterSample c j x

/-- Extremes with a further sample. -/
def widen (x : Int) : Option (Int × Int × Nat) → Int × Int × Nat
  | none => (x, x, 1)
  | some (a, b, n) => (min a x, max b x, n + 1)

/-- A sample enters an enabled tracker (R135); in the tick of a reset event it belongs to the record that has just closed. -/
def State.trackSample (s : State) (c : Nat) (x : Int) : State :=
  if s.on SN_MMCTL_EN c then
    s.updTrk c (fun u => match u.closed.getLast? with
      | some (r, t) => if t = s.now then { u with closed := u.closed.dropLast ++ [(widen x (some r), t)] } else { u with cur := some (widen x u.cur) }
      | none => { u with cur := some (widen x u.cur) })
  else s

/-- Deliver a sample to its channel's tracker and slices; before REFRDY none enters (R128). A sample in the tick of a reset or close belongs to
what closes (R133, R135), so the tracker takes it first. -/
def State.deliverSample (s : State) (c : Nat) (x : Int) : State :=
  if s.on SN_CTL_REFRDY then ((s.trackSample c x).addSample c 0 x).addSample c 1 x else s

/-- Clamp to 24 bits (R125). -/
def sat24 (x : Int) : Int := max (-8388608) (min 8388607 x)

/-- The close event of every slice in a mode with this SRC (R132). -/
def State.closeBy (s : State) (mode src : Nat) : State :=
  s.each (List.range 240) (fun s n =>
    let c := n / 2
    let j := n % 2
    let w := s.slCtl c j
    if s.on SN_SLCTL_EN c j && SN_SLCTL_MODE.of w == mode && SN_SLCTL_SRC.of w == src then s.closeSlice c j else s)

/-- The mean of a window, Q1.31, to nearest with ties toward +∞ (R134). -/
def windowMean (sum : Int) (count : Nat) : Int := Int.fdiv (2 * (sum * 256) + count) (2 * count)

/-- The accumulator-ready requests of a published window, 4 ns after publication (R63, R134). -/
def State.accRequests (s : State) (c j : Nat) : State :=
  match s.chanCell c with
  | none => s
  | some k =>
    let angs := (s.advance 1).angles
    let loc := s.chanLocal c
    s.each [2 * k, 2 * k + 1] (fun s e => if s.get PK_INVSRC_ACCSLICE e = 2 * loc + j then s.request e clsAcc 0 false angs else s)

/-- Publication of a slice's closed window (R134), with the Seam record, the request and the ramp generators that wait for it (R191). -/
def State.publishWindow (s : State) (c j : Nat) : State :=
  match (s.slice c j).closed with
  | none => s
  | some w =>
    let s1 := s.updSlice c j (fun u => { u with closed := none, shown := some w, shownAt := s.now })
    let mean := wordOfInt (windowMean w.sum w.count)
    let s2 := ((s1.wrw .SN_SLMEAN mean c j).put SN_SLINFO_COUNT w.count c j).put SN_SLINFO_FULL w.full.toNat c j
    let s3 := ((s2.put SN_SLINFO_NOT_READY 0 c j).bump SN_SLINFO_WNUM c j).put SN_CHSTAT_NOT_READY 0 c
    let s5 := (s3.record (s3.chanStream c) j 1 (2 * c + j) [mean]).accRequests c j
    if c < 96 ∧ c % 2 = 0 ∧ j = 1 then s5.rampAlign (c / 2) else s5

/-- The publication of a channel's record, where one is due by now. -/
def State.recordDue (s : State) (c : Nat) : State :=
  match s.deadline (.record c) with
  | some d => if d ≤ s.now then (s.disarm (.record c)).publishDue c else s
  | none => s

/-- R134, R135: the publication of slice `j` of channel `c`, 16 ns after its window's closing instant, and of the min-max record that is due with it; with no
window of the slice outstanding, the record's alone. -/
def execWindowPublish (c : Chan) (j : Fin 2) (s : State) : Out :=
  .next (if s.armed (.publish c.val j.val) then s.onTimer (.publish c.val j.val) (fun s => (s.publishWindow c.val j.val).recordDue c.val)
    else s.onTimer (.record c.val) (fun s => s.publishDue c.val))

/-! ### Reference buffer (R128) -/

/-- A slice returns to NOT_READY. -/
def State.sliceNotReady (s : State) (c j : Nat) : State :=
  let s1 := (s.updSlice c j (fun u => { u with sum := 0, count := 0, closed := none, shown := none, closeAt := none, short := none })).disarm (.publish c j)
  (((s1.put SN_SLMEAN_MEAN 0 c j).put SN_SLINFO_COUNT 0 c j).put SN_SLINFO_FULL 0 c j).put SN_SLINFO_NOT_READY 1 c j

/-- A channel's slices and tracker return to NOT_READY (R128). -/
def State.chanNotReady (s : State) (c : Nat) : State :=
  let s1 := (((s.sliceNotReady c 0).sliceNotReady c 1).updTrk c (fun _ => ⟨none, []⟩)).disarm (.record c)
  let s2 := ((s1.put SN_MMMIN_MIN 0 c).put SN_MMMAX_MAX 0 c).put SN_MMINFO_COUNT 0 c
  (s2.put SN_MMINFO_NOT_READY 1 c).put SN_CHSTAT_NOT_READY 1 c

/-- REFRDY falls (R128). -/
def State.refDrop (s : State) : State :=
  (((s.put SN_CTL_REFRDY 0).put SN_CTL_REF_LOST 1).each (List.range 120) State.chanNotReady).raise 289

/-- A write to CTL (R128): REFEN written 1 starts the wait unless the buffer is up or the wait runs; REFEN written 0 drops REFRDY or abandons the
wait. -/
def State.ctlSenseWrite (s : State) (v : Word) : State :=
  let s1 := s.regWrite .SN_CTL v
  if SN_CTL_REFEN.of v = 1 then
    if s.on SN_CTL_REFRDY || s.armed .refReady then s1 else s1.arm .refReady (2 * ms)
  else if s.on SN_CTL_REFRDY then s1.refDrop
  else s1.disarm .refReady

/-- Run `f` for a sequence or global register: only lock-step pairs write them (R122). -/
def State.senseWrite (s : State) (m : Master) (f : State → State) : State :=
  if s.lockstep m then f s else s.put SN_CTL_CFG_DENIED 1

/-- R128: REFRDY, 2.0 ms after REFEN. -/
def execRefrdy (s : State) : Out :=
  .next (s.onTimer .refReady (fun s => (s.put SN_CTL_REFRDY 1).raise 290))

/-- R128: a reference fault while REFRDY is 1. One during the 2.0 ms wait, which has no settling detector, changes nothing (DESIGN CHOICE, log entry 97). -/
def execReferenceFault (s : State) : Out :=
  .next (if s.on SN_CTL_REFRDY then s.refDrop else s)

/-! ### Sequences (R129 to R131) -/

/-- Whether triggers are taken: SENSE released, CONV enabled and locked (R130). -/
def State.convLive (s : State) : Bool :=
  s.released uSense && s.on WI_SSTAT_LOCKED synConv && s.on WI_SCTL_EN synConv

/-- A trigger reaches a sequence (R130, R131); DELAY applies to PWM triggers only. -/
def State.seqTrigger (s : State) (q : Nat) (pwm : Bool) : State :=
  if s.on SN_SEQCTL_EN q && s.convLive then
    if s.on SN_SEQSTAT_PENDING q || s.on SN_SEQSTAT_RUNNING q then s.bumpSat SN_SEQSTAT_OVERLAP q
    else (s.put SN_SEQSTAT_PENDING 1 q).arm (.seqStart q) (2 + if pwm then s.get SN_SEQDLY_DELAY q else 0)
  else s

/-- The triggers of a carrier event of group `g` (R130). -/
def State.seqCarrier (s : State) (g : Nat) (peak : Bool) : State :=
  s.each (List.range 32) (fun s q =>
    if s.get SN_SEQCTL_TRIGSRC q == 1 && s.get SN_SEQCTL_PWMGRP q == g && s.bitOf SN_SEQCTL_PWMEV (if peak then 1 else 0) q then
      s.seqTrigger q true
    else s)

/-- The triggers of a crossing of Canary window `w` (R130). -/
def State.seqCanary (s : State) (w : Nat) : State :=
  s.each (List.range 32) (fun s q =>
    if s.get SN_SEQCTL_TRIGSRC q == 2 && s.get SN_SEQCTL_CANWIN q == w then s.seqTrigger q false else s)

/-- The first CONV edge at or after tick `d` (R130, R386), in 1/6 ns, of which a tick has 24: counted from the last coincidence with the 250 MHz ticks, every
25 ticks from the lock edge. While PWM and CONV are not both in phase lock it is anywhere from 0 ns to 4.17 ns after the tick: a free value. -/
def State.convEdge (s : State) (d : Nat) : Nat × State :=
  if s.on WI_SSTAT_PHASELOCK synPwm && s.on WI_SSTAT_PHASELOCK synConv then
    let n := (d - s.winder.epoch) % 25
    (24 * d + (25 * ((24 * n + 24) / 25) - 24 * n), s)
  else
    let (w, s1) := s.free
    (24 * d + w.toNat % 26, s1)

/-- The CONV edge from which every converter of a mask is idle. -/
def State.idleEdge (s : State) (mask : Word) : Nat :=
  (List.range 32).foldl (fun m v => if bit mask v then max m (s.sense.freeAt.toList.getD v 0) else m) 0

/-- The converters that running sequences occupy. -/
def State.busyConvs (s : State) : Word :=
  (List.range 32).foldl (fun w q => if s.on SN_SEQSTAT_RUNNING q then w ||| (s.seqU q).mask else w) 0

/-- Whether a sequence could start in this tick: it waits, or its start point has come, with every converter of its mask idle by the tick's end (R131). -/
def State.startable (s : State) (q : Nat) : Bool :=
  ((s.seqU q).waiting || (match s.deadline (.seqStart q) with
    | some d => decide (d ≤ s.now)
    | none => false)) && decide (s.idleEdge (s.rdw .SN_SEQMASK q) < 24 * (s.now + 1))

/-- Whether a lower-numbered sequence that shares a converter goes first (R131). -/
def State.outranked (s : State) (q : Nat) : Bool :=
  (List.range q).any (fun k => s.startable k && (s.rdw .SN_SEQMASK k &&& s.rdw .SN_SEQMASK q) != 0)

/-- The conversions of a run (R129). -/
def runLen (pos burst : Nat) : Nat := (burst + 1) * (if pos = 3 then 3 else 1)

/-- The tick in which the end of conversion `k` of a run from CONV edge `e` falls, or the one it begins; a conversion takes 20 CONV clocks (R129, R130). -/
def convTick (e k : Nat) : Nat := (e + 500 * (k + 1) + 23) / 24

/-- The run of a sequence starts at CONV edge `e` (R129). -/
def State.seqRun (s : State) (q e : Nat) : State :=
  let mask := s.rdw .SN_SEQMASK q
  let pos := s.get SN_SEQCTL_POS q
  let burst := s.get SN_SEQCTL_BURST q
  let s1 := (s.put SN_SEQSTAT_PENDING 0 q).put SN_SEQSTAT_RUNNING 1 q
  let s2 := { s1 with sense := { s1.sense with
    freeAt := Vector.ofFn (fun v : Fin 32 => if bit mask v.val then e + 500 * runLen pos burst else s1.sense.freeAt[v]) } }
  ((s2.setSeq q ⟨mask, pos, burst, 0, false, e⟩).disarm (.seqDrop q)).armAt (.conv q) (convTick e 0)

/-- A run is dropped (R131). -/
def State.seqDropped (s : State) (q : Nat) : State :=
  let s1 := (s.put SN_SEQSTAT_PENDING 0 q).setSeq q { s.seqU q with waiting := false }
  ((s1.put SN_SEQSTAT_DROPPED 1 q).bumpSat SN_SEQSTAT_DROPS q).raise (256 + q)

/-- The first CONV edge at or after the start point of a sequence (R131): the run starts, or waits up to MAXDEF from that edge, or is dropped. -/
def State.seqPoint (s : State) (q : Nat) (rival : Bool) : State :=
  let (e, s0) := s.convEdge s.now
  if decide (s.idleEdge (s.rdw .SN_SEQMASK q) ≤ e) && !rival then s0.seqRun q e
  else
    let s1 := s0.put SN_SEQSTAT_DEFERRED 1 q
    if s.get SN_SEQDLY_MAXDEF q = 0 then s1.seqDropped q
    else (s1.setSeq q { s1.seqU q with waiting := true, startAt := e }).armAt (.seqDrop q) (e / 24 + s.get SN_SEQDLY_MAXDEF q)

/-- The CONV edge at which a run that waits can start, if that lies within MAXDEF of the edge at which it would have begun (R131). -/
def State.waitEdge (s : State) (q : Nat) : Option Nat :=
  let u := s.seqU q
  let e := max u.startAt (s.idleEdge (s.rdw .SN_SEQMASK q))
  if u.waiting && decide (e ≤ u.startAt + 24 * s.get SN_SEQDLY_MAXDEF q) then some e else none

/-- R131: the start point of a sequence, or the first idle moment of a run that waits. -/
def execSequenceRunStart (q : Sequ) (s : State) : Out :=
  .next (if (s.seqU q.val).waiting then
    match s.waitEdge q.val with
    | some e =>
      let s1 := s.advanceTo (e / 24)
      if s.convLive && !s1.outranked q.val then s1.seqRun q.val e else s
    | none => s
  else
    match s.deadline (.seqStart q.val) with
    | none => s
    | some d =>
      let s1 := s.advanceTo d
      (s1.disarm (.seqStart q.val)).seqPoint q.val (s1.outranked q.val))

/-- R131: MAXDEF expires: a run that waits is dropped while a converter of its mask is busy, or taken by a lower-numbered run; else it starts. -/
def execDropped (q : Sequ) (s : State) : Out :=
  .next (s.onTimer (.seqDrop q.val) (fun s =>
    if !(s.seqU q.val).waiting then s
    else match s.waitEdge q.val with
      | some e => if s.outranked q.val then s.seqDropped q.val else s.seqRun q.val e
      | none => s.seqDropped q.val))

/-- One SAR result (R125): the sample of channel `c` from code `n`. -/
def State.sarSample (s : State) (c : Nat) (n : BitVec 16) : State :=
  let ofs : Int := (BitVec.ofNat 16 (s.get SN_CHCTL_OFFSET c)).toInt
  let x := ((n.toNat : Int) - 32768 - ofs) * 256
  let s1 := if sat24 x = x ∨ s.on SN_CHSTAT_OFS_SAT c then s else (s.put SN_CHSTAT_OFS_SAT 1 c).raise 291
  s1.deliverSample c (sat24 x)

/-- The results of one step of a run: each converter of the mask at position `p`, its channel enabled (R123, R129). -/
def State.stepResults (s : State) (mask : Word) (p : Nat) (codes : Vector (BitVec 16) 32) : State :=
  s.each (List.range 32) (fun s v =>
    if bit mask v && s.on SN_CHCTL_EN (v + 32 * p) then s.sarSample (v + 32 * p) (codes.toList.getD v 0) else s)

/-- A run ends (R129, R132). -/
def State.seqEnd (s : State) (q : Nat) : State :=
  ((s.put SN_SEQSTAT_RUNNING 0 q).closeBy 1 q).raise (256 + q)

/-- R124, R129: the conversion in progress of a running sequence ends, with the code of each converter. -/
def execConversionEnd (q : Sequ) (codes : Vector (BitVec 16) 32) (s : State) : Out :=
  .next (s.onTimer (.conv q.val) (fun s =>
    let u := s.seqU q.val
    let p := if u.pos = 3 then u.made % 3 else u.pos
    let s1 := (s.stepResults u.mask p codes).setSeq q.val { u with made := u.made + 1 }
    if u.made + 1 = runLen u.pos u.burst then s1.seqEnd q.val
    else s1.armAt (.conv q.val) (convTick u.startAt (u.made + 1))))

/-- A write to SEQGO. -/
def State.seqgoWrite (s : State) (q : Nat) (v : Word) : State :=
  if SN_SEQGO_GO.of v = 1 then s.seqTrigger q false else s

/-- A pending start is cancelled (R131). -/
def State.seqCancel (s : State) (q : Nat) : State :=
  if s.on SN_SEQSTAT_RUNNING q then s
  else ((((s.put SN_SEQSTAT_PENDING 0 q).setSeq q { s.seqU q with waiting := false }).disarm (.seqStart q)).disarm (.seqDrop q))

/-- A write to SEQCTL (R131). -/
def State.seqctlWrite (s : State) (q : Nat) (v : Word) : State :=
  let denied (s : State) : State := s.put SN_CTL_CFG_DENIED 1
  if SN_SEQCTL_TRIGSRC.of v = 3 then denied s
  else
    let mask := BitVec.ofNat 32 RegId.SN_SEQCTL.reg.rw &&& ~~~SN_SEQCTL_EN.mask
    let s1 := s.condWrite .SN_SEQCTL v mask (!s.on SN_SEQCTL_EN q) denied q
    if SN_SEQCTL_EN.of v = 0 then s1.seqCancel q else s1

/-- A write to SEQDLY or SEQMASK (R131): while EN is 0. -/
def State.seqPlainWrite (s : State) (r : RegId) (q : Nat) (v : Word) : State :=
  if r = .SN_SEQSTAT then s.regWrite r v q
  else s.condWrite r v (BitVec.ofNat 32 r.reg.rw) (!s.on SN_SEQCTL_EN q) (fun s => s.put SN_CTL_CFG_DENIED 1) q

/-! ### Bitstream channels (R126, R127) -/

/-- OSR of a bitstream channel (R126, R140). -/
def State.osr (s : State) (c : Nat) : Nat := 8 * (min 30 (s.get SN_SDCTL_OSRSEL c) + 2)

/-- The sample of a filter output `y` (R126): rounded to nearest. -/
def sincSample (osr : Nat) (y : Int) : Int :=
  let d : Int := (osr ^ 3 : Nat)
  sat24 (Int.fdiv (2 * ((2 * y - d) * 8388608) + d) (2 * d))

/-- The outputs a bitstream channel still discards (R127). -/
def State.discards (s : State) (c : Nat) : Nat := s.sense.discard.toList.getD (c - 96) 0

/-- Set that count. -/
def State.setDiscard (s : State) (c n : Nat) : State :=
  if h : c - 96 < 24 then { s with sense := { s.sense with discard := s.sense.discard.set (c - 96) n h } } else s

/-- The tick of the last restart of a channel's decimation counter by a valley, while no output has come since (R127). -/
def State.restartAt (s : State) (c : Nat) : Option Nat := s.sense.restart.toList.getD (c - 96) none

/-- Set that tick. -/
def State.setRestart (s : State) (c : Nat) (t : Option Nat) : State :=
  if h : c - 96 < 24 then { s with sense := { s.sense with restart := s.sense.restart.set (c - 96) t h } } else s

/-- DIV as it acts (R139). -/
def State.sdDiv (s : State) (c : Nat) : Nat := min 48 (max 10 (s.get SN_SDMCK_DIV (s.get SN_SDCTL_CKSEL c)))

/-- A bitstream channel converts (R126), on the CONV clock (R381, R385). -/
def State.sdRuns (s : State) (c : Nat) : Bool :=
  s.convLive && s.on SN_SDCTL_EN c && s.on SN_SDMCK_EN (s.get SN_SDCTL_CKSEL c)

/-- An output now would end a decimation period that a restart cut short (R127): OSR modulator clocks, each DIV CONV clocks of 25/24 ticks, have
not passed since. -/
def State.cutShort (s : State) (c : Nat) : Bool :=
  match s.restartAt c with
  | some t => decide (s.now - t < 25 * s.osr c * s.sdDiv c / 24)
  | none => false

/-- The decimation counters that a valley of group `g` restarts (R127). -/
def State.sdValley (s : State) (g : Nat) : State :=
  s.each ((List.range 24).map (96 + ·)) (fun s c =>
    if s.on SN_SDCTL_SYNC c && s.get SN_SDCTL_SYNCGRP c == g then s.setRestart c (some s.now) else s)

/-- R126, R127: a bitstream channel's filter completes a decimation period with output `y`, from 0 to OSR³; one that a restart cut short is discarded and not
counted. -/
def execSinc3Output (k : Fin 24) (y : Fin 16777217) (s : State) : Out :=
  let c := 96 + k.val
  .next (if s.sdRuns c && decide (y.val ≤ s.osr c ^ 3) && !s.cutShort c then
    let s1 := s.setRestart c none
    if s1.discards c > 0 then s1.setDiscard c (s1.discards c - 1)
    else s1.deliverSample c (sincSample (s1.osr c) y.val)
  else s)

/-- R127: SDM_D of an enabled channel shows no transition for 1,024 modulator clocks. -/
def execSdmStuck (k : Fin 24) (s : State) : Out :=
  let c := 96 + k.val
  .next (if s.sdRuns c then
    if s.on SN_CHSTAT_SDM_STUCK c then s else (s.put SN_CHSTAT_SDM_STUCK 1 c).raise 291
  else s)

/-- A write to SDMCK `i`: a change of DIV restarts the filters on that clock (R127). -/
def State.sdmckWrite (s : State) (i : Nat) (v : Word) : State :=
  let s1 := s.regWrite .SN_SDMCK v i
  if changes (s.rdw .SN_SDMCK i) v SN_SDMCK_DIV.mask then
    s1.each (List.range 24) (fun s k => if s.get SN_SDCTL_CKSEL (96 + k) == i then s.setDiscard (96 + k) 2 else s)
  else s1

/-! ### Channel registers (R120, R122, R133, R135, R140) -/

/-- CFG_DENIED of a channel. -/
def State.chanDenied (s : State) (c : Nat) : State := s.put SN_CHSTAT_CFG_DENIED 1 c

/-- Run `f` for a channel's register (R122): lock-step pairs only, under R19 where the channel is assigned to a cell, whose block also notes a
write of another master. -/
def State.chanWrite (s : State) (m : Master) (c : Nat) (f : State → State) : State :=
  if s.lockstep m then
    match s.chanCell c with
    | some k => s.asCellOwner m k f
    | none => f s
  else
    let s1 := s.chanDenied c
    match s1.chanCell c with
    | some k => s1.asCellOwner m k id
    | none => s1

/-- Whether a bitstream assignment is accepted (R120). No cell has the numbers 48 to 62 either, and a channel of no cell any LOCAL (DESIGN
CHOICE, log entry 95). -/
def State.assignOk (s : State) (c cell loc : Nat) : Bool :=
  let old := s.get SN_SDCTL_CELL c
  (decide (2 ≤ loc) || cell == 0x3F) && (cell == old || (s.cellStopped old && s.cellStopped cell))
    && !(decide (cell < 48) && (List.range 24).any (fun k => 96 + k != c && s.get SN_SDCTL_CELL (96 + k) == cell
      && s.get SN_SDCTL_LOCAL (96 + k) == loc))

/-- A write to CHCTL of a bitstream channel (R120, R127, R140). EN written 1 where it is 1 starts no new discard (DESIGN CHOICE, log entry 96). -/
def State.sdctlWrite (s : State) (c : Nat) (v : Word) : State :=
  if SN_SDCTL_CKSEL.of v > 5 then s.chanDenied c
  else
    let old := s.rdw .SN_SDCTL c
    let s1 := s.condWrite .SN_SDCTL v (SN_SDCTL_CELL.mask ||| SN_SDCTL_LOCAL.mask) (s.assignOk c (SN_SDCTL_CELL.of v) (SN_SDCTL_LOCAL.of v))
      (fun s => s.chanDenied c) c
    if SN_SDCTL_EN.of v == 1 && (SN_SDCTL_EN.of old == 0 || changes old v (SN_SDCTL_OSRSEL.mask ||| SN_SDCTL_CKSEL.mask)) then
      s1.setDiscard c 2
    else s1

/-- A write to CHCTL of a channel. -/
def State.chctlSenseWrite (s : State) (c : Nat) (v : Word) : State :=
  if c < 96 then s.regWrite .SN_CHCTL v c else s.sdctlWrite c v

/-- A write to SLjCTL (R133, R140): EN written 0 discards the window in progress. -/
def State.slctlWrite (s : State) (c j : Nat) (v : Word) : State :=
  if SN_SLCTL_MODE.of v = 3 then s.chanDenied c
  else
    let s1 := s.regWrite .SN_SLCTL v c j
    if SN_SLCTL_EN.of v = 0 then s1.updSlice c j (fun u => { u with sum := 0, count := 0 }) else s1

/-- A write to MMCTL (R135): EN written 0 discards the extremes; RESET is a reset event, but with EN 0 in the same write, where the extremes are discarded and
nothing is published (DESIGN CHOICE, log entry 119). -/
def State.mmctlWrite (s : State) (c : Nat) (v : Word) : State :=
  let s1 := s.regWrite .SN_MMCTL v c
  if SN_MMCTL_EN.of v = 0 then s1.updTrk c (fun u => { u with cur := none })
  else if SN_MMCTL_RESET.of v = 1 then s1.mmEvent c
  else s1

/-- The valley of group `g` at the trackers (R135). -/
def State.mmValley (s : State) (g : Nat) : State :=
  s.each (List.range 120) (fun s c =>
    if s.on SN_MMCTL_EN c && s.get SN_MMCTL_RST c == 2 && s.get SN_MMCTL_GRP c == g then s.mmEvent c else s)

/-! ### Diagnostic channels (R136) -/

/-- A write to DIAGSEL (R136). A GO that is refused drops the whole write, ICH and CONV with it (DESIGN CHOICE, log entry 119). -/
def State.diagselWrite (s : State) (v : Word) : State :=
  let ich := SN_DIAGSEL_ICH.of v
  if SN_DIAGSEL_GO.of v = 1 then
    if s.on SN_DIAGSTAT_BUSY || (decide (15 ≤ ich) && decide (ich ≤ 63)) then s.put SN_CTL_CFG_DENIED 1
    else ((s.regWrite .SN_DIAGSEL v).put SN_DIAGSTAT_BUSY 1).arm .diag ms
  else s.regWrite .SN_DIAGSEL v

/-- The mean of the sixteen diagnostic codes, Q1.31: internal channels bypass OFFSET (R125, R136), rounded as R134 rounds. -/
def diagMean (codes : Vector (BitVec 16) 16) : Int :=
  windowMean ((codes.toList.map (fun n => ((n.toNat : Int) - 32768) * 256)).foldl (· + ·) 0) 16

/-- R136: the sixteen diagnostic conversions are made, their converter idle: the one that CONV of DIAGSEL names now (DESIGN CHOICE, log entry 119). Before
REFRDY the result is open. -/
def execDiagDone (codes : Vector (BitVec 16) 16) (s : State) : Out :=
  .next (if s.on SN_DIAGSTAT_BUSY && s.convLive && !bit s.busyConvs (s.get SN_DIAGSEL_CONV) then
    let (fv, s1) := if s.on SN_CTL_REFRDY then (wordOfInt (diagMean codes), s) else s.free
    ((((s1.wrw .SN_DIAGRES fv).put SN_DIAGSTAT_BUSY 0).put SN_DIAGSTAT_DONE 1).disarm .diag).raise 288
  else s)

/-- R136: 1 ms has passed before all conversions are made. -/
def execDiagTimeout (s : State) : Out :=
  .next (s.onTimer .diag (fun s => ((s.put SN_DIAGSTAT_BUSY 0).put SN_DIAGSTAT_TIMEOUT 1).raise 288))

end Sys2Proof.Machine
end

