-- ==== Sys2Proof/Machine/Blocks.lean ====
section
/-! DEFINITION. Blocks: ownership (R18, R19, R22), state requests and the exit from RUNNING (R21), cell bindings (R9, R22, R76). Trips are in
Machine/Gate.lean. -/

namespace Sys2Proof.Machine

/-- A block takes a requested state (R21): entering STOPPED discards its pairs' pending requests (R63) and aborts its ramps (R191). -/
def State.enterBlk (s : State) (b st : Nat) : State :=
  let s1 := (s.put BLK_BLKCTL_STATE st b).updBlk b (fun u => { u with exit := none })
  let s2 := if st = blkStopped then (s1.dropRequests b).abortRamps b else s1
  (s2.regateBlock b).coastPick

/-- STATE_DENIED. -/
def State.stateDenied (s : State) (b : Nat) : State := s.put BLK_BLKCTL_STATE_DENIED 1 b

/-- Whether every engine of a cell's pair holds a program (R21, R58). -/
def State.cellLoaded (s : State) (c : Nat) : Bool :=
  s.on PK_PCTL_LOADED (2 * c) && (!s.pickSplit c || s.on PK_PCTL_LOADED (2 * c + 1))

/-- The conditions of STOPPED to ARMED (R21), with those of a RESTRICTED start (R377) and of an open Adit port (R355). -/
def State.mayArm (s : State) (b : Nat) : Bool :=
  s.on BLK_BLKCTL_OWNED b && !(s.cellsOf b).isEmpty && !s.on CG_BSTAT_TURNOFF b && !s.on BK_BKSTAT_RESTRICTED && !s.on BK_ADITSTAT_OPEN

/-- The conditions of ARMED to RUNNING (R21, R377). -/
def State.mayRun (s : State) (b : Nat) : Bool :=
  !s.sf2Demand b && (s.cellsOf b).all s.cellLoaded && !s.on BK_BKSTAT_RESTRICTED

/-- A request for a state (R21) is noted, with the state that the block held before the requests of this tick. -/
def State.noteAsked (s : State) (b : Nat) : State :=
  s.updBlk b (fun u => { u with asked := some (s.now, (s.askedFrom b).getD (s.blk b)) })

/-- A request for a state, in a tick without a trip of the block (R21). -/
def State.blkAsk (s : State) (m : Master) (b req : Nat) : State :=
  let st := s.blk b
  if req = st then s.updBlk b (fun u => { u with exit := none })
  else if !s.isOwner m b then s.stateDenied b
  else if st = blkStopped ∧ req = blkArmed then (if s.mayArm b then s.enterBlk b blkArmed else s.stateDenied b)
  else if st = blkArmed ∧ req = blkRunning then (if s.mayRun b then s.enterBlk b blkRunning else s.stateDenied b)
  else if st = blkRunning then s.updBlk b (fun u => { u with exit := some req })
  else if st = blkArmed ∧ req = blkStopped then s.enterBlk b blkStopped
  else if st = blkTripped ∧ req = blkStopped then
    (if s.sf2Demand b || s.on CG_BSTAT_TURNOFF b then s.stateDenied b else s.enterBlk b blkStopped)
  else s.stateDenied b

/-- What REQ of a write asks for (R21): in the tick of a trip it has no effect and sets STATE_DENIED. -/
def State.blkRequest (s : State) (m : Master) (b req : Nat) : State :=
  if req = 3 then s
  else if (s.blkU b).tripped = some s.now then s.stateDenied b
  else (s.noteAsked b).blkAsk m b req

/-- The ownership fields of BLKCTL. -/
def ownerMask : Word := BLK_BLKCTL_OWNER.mask ||| BLK_BLKCTL_OWNED.mask

/-- A pair that may own no block: a spare or a split pair (R18), and one in TEST that returns to SPARE (R293). -/
def State.unfitOwner (s : State) (n : Nat) : Bool :=
  s.isSplit n || s.pst n == pairSpare || (s.pst n == pairTest && (s.pairU n).afterTest == pairSpare)

/-- The fields of BLKCTL whose change a write by `m` is refused (R18, R22): all RWL fields while the block is not STOPPED or LOCK is set, or from a
master that is no lock-step pair; OWNER and OWNED where an unfit pair would own the block. -/
def State.blkKeeps (s : State) (m : Master) (b : Nat) (v : Word) : Word :=
  let old := s.rdw .BLK_BLKCTL b
  let all := BitVec.ofNat 32 RegId.BLK_BLKCTL.reg.rw
  if s.blk b != blkStopped || s.on BLK_BLKCTL_LOCK b || !s.lockstep m then all
  else if changes old v ownerMask && BLK_BLKCTL_OWNED.of v == 1 && s.unfitOwner (BLK_BLKCTL_OWNER.of v) then ownerMask
  else 0

/-- A write to BLKCTL (R18, R19, R21, R22): the fields, then the request. -/
def State.blkctlWrite (s : State) (m : Master) (b : Nat) (v : Word) : State :=
  s.asOwner m b (fun s =>
    let keep := s.blkKeeps m b v
    let s1 := s.condWrite .BLK_BLKCTL v keep false (fun s => s.put BLK_BLKCTL_OWNER_DENIED 1 b) b
    s1.blkRequest m b (BLK_BLKCTL_REQ.of v))

/-- The cells word a BLKCELLS write gives: CELLS of BLKCELLS0, or of BLKCELLS1 when `hi`. -/
def cellsReg (hi : Bool) : RegId := if hi then .BLK_BLKCELLS1 else .BLK_BLKCELLS0

/-- Whether a binding is admissible (R9, R76): no cell bound elsewhere, no route broken. -/
def State.bindOk (s : State) (b : Nat) (hi : Bool) (v : Word) : Bool :=
  let others := (List.range 8).all (fun k => k == b || s.rdw (cellsReg hi) k &&& v == 0)
  let s1 := s.regWrite (cellsReg hi) v b
  others && s1.routesOk (fun k => s1.rdw .PK_ARBCTL k)

/-- A write to BLKCELLS0 or BLKCELLS1 (R9, R19, R22). The compares and the block's turn-off follow the bindings (R161, R182). -/
def State.blkcellsWrite (s : State) (m : Master) (b : Nat) (hi : Bool) (v : Word) : State :=
  s.asOwner m b (fun s =>
    let old := s.rdw (cellsReg hi) b
    let mask := BitVec.ofNat 32 (cellsReg hi).reg.rw
    if !changes old v mask then s
    else if s.blk b != blkStopped || s.on BLK_BLKCTL_LOCK b || !s.bindOk b hi (v &&& mask) then s.put BLK_BLKCTL_BIND_DENIED 1 b
    else
      let s1 := s.regWrite (cellsReg hi) v b
      (s1.each ((List.range 32).filter (fun k => bit (old ^^^ v) k && (!hi || decide (k < 16)))) (fun s k =>
        let c := if hi then 32 + k else k
        ((s.emit c s.instant).showCmp c).regate c)).followTurnoff b)

end Sys2Proof.Machine
end

