-- ==== Sys2Proof/Machine/Canary.lean ====
section
/-! DEFINITION. Canary windows: filtered states, latches and clears, thresholds, modes and readback failures (R141 to R153). Which outputs a trip
holds is in Machine/Gate.lean. -/

namespace Sys2Proof.Machine

/-- The state and latch fields of a window's threshold: the upper when `hi`. -/
def winState (hi : Bool) : Fld := if hi then CN_WSTAT_HIGH else CN_WSTAT_LOW
def winLatch (hi : Bool) : Fld := if hi then CN_WSTAT_LATCH_HI else CN_WSTAT_LATCH_LO
def winEnable (hi : Bool) : Fld := if hi then CN_WCTL_ENHI else CN_WCTL_ENLO

/-- The gates that a window can hold follow its latches (R148). -/
def State.regateWindow (s : State) (w : Nat) : State :=
  match s.blockOf (w / 2) with
  | some b => s.regateBlock b
  | none => s.regate (w / 2)

/-- Whether a window runs (R143, R145): in PARK only a guarded one does, in LAMP-ONLY none. -/
def State.winRuns (s : State) (w : Nat) : Bool :=
  s.on CN_WCTL_EN w && (s.supply.place == 0 || (s.supply.place == 1 && s.on CN_WCTL_FGUARD w))

/-! ### Comparators and filters (R141, R143, R145, R149) -/

/-- A window's unit. -/
def State.win (s : State) (w : Nat) : WinU := s.power.wins.toList.getD w WinU.reset

/-- Change a window's unit. -/
def State.updWin (s : State) (w : Nat) (f : WinU → WinU) : State :=
  if h : w < 96 then { s with power := { s.power with wins := upd s.power.wins ⟨w, h⟩ f } } else s

/-- A window runs in sampled mode: by MODE, in NIGHT, in PARK (R143, R145). -/
def State.winSampled (s : State) (w : Nat) : Bool :=
  s.on CN_WCTL_MODE w || s.on PR_PWRSTAT_STATE || s.supply.place != 0

/-- A tick of 1 to 100 µs: 0 acts as 1, above 100 as 100 (R152, R153). -/
def tickUs (n : Nat) : Nat := min 100 (max 1 n)

/-- The 4 ns ticks from one read of a window's comparator to the next (R143, R145): 1 in continuous mode; TICK; in PARK the tick of the parameter block
(R324), in NIGHT that of NTICK for a window of continuous mode. -/
def State.winSpacing (s : State) (w : Nat) : Nat :=
  if s.supply.place != 0 then tickUs (bits (BitVec.ofNat 32 (s.fmParam 0x58 4)) 16 7) * us
  else if s.on CN_WCTL_MODE w then tickUs (s.get CN_WCTL_TICK w) * us
  else if s.on PR_PWRSTAT_STATE then tickUs (s.get CN_CCTL_NTICK) * us
  else 1

/-- The reads at which a comparator state must be on, one after another, to count as crossed (R143): held for FILT × 4 ns, or seen at min(FILT, 3) + 1
ticks. -/
def State.winNeed (s : State) (w : Nat) : Nat :=
  (if s.winSampled w then min 3 (s.get CN_WCTL_FILT w) else s.get CN_WCTL_FILT w) + 1

/-- A pin of `nv` nV is above, or below, the voltage of code `k`, (k + 0.5) × 2.5 V / 1,024 (R141). -/
def pinAbove (nv : Nat) (k : Int) : Bool := decide ((2 * k + 1) * 2500000000 < 2048 * nv)
def pinBelow (nv : Nat) (k : Int) : Bool := decide (2048 * (nv : Int) < (2 * k + 1) * 2500000000)

/-- `n` reads of a comparator at a pin of `nv` nV against code `k` (R141): the upper one, or the lower, with one code of hysteresis. -/
def CmpU.read (u : CmpU) (hi : Bool) (k : Nat) (nv n : Nat) : CmpU :=
  let raw :=
    if hi then pinAbove nv k || (u.raw && !pinBelow nv (k - 1))
    else pinBelow nv k || (u.raw && !pinAbove nv (k + 1))
  ⟨raw, if raw then u.run + n else 0⟩

/-- The Foreman's view of a window: crossed since `since` or since tick `t` while one of its states is on or RBFAIL holds it (R149, R151). -/
def State.winSeen (s : State) (w t : Nat) (u : WinU) : WinU :=
  { u with seen := if u.lo.raw || u.hi.raw || s.on CN_WCTL_RBFAIL w then some (u.seen.getD t) else none }

/-- `n` reads of a window's pin at `nv` nV, the first of them at tick `t`; a threshold that is not enabled takes no part. -/
def State.winRead (s : State) (w : Nat) (u : WinU) (nv n t : Nat) : WinU :=
  let lo := if s.on CN_WCTL_ENLO w then u.lo.read false (s.get CN_WTHR_LO w) nv n else ⟨false, 0⟩
  let hi := if s.on CN_WCTL_ENHI w then u.hi.read true (s.get CN_WTHR_HI w) nv n else ⟨false, 0⟩
  s.winSeen w t { u with lo := lo, hi := hi }

/-- Reads one after another, the last of them at tick `last`, `d` ticks apart. -/
def State.winFold (s : State) (w last d : Nat) : PinReads → WinU → WinU
  | [], u => u
  | (v, n) :: l, u =>
    s.winFold w last d l (if n = 0 then u else s.winRead w u v n (last - (n - 1 + (l.map Prod.snd).sum) * d))

/-- The newest `n` reads of a list in which each pin value comes with its number of reads. -/
def newestReads (n : Nat) : PinReads → PinReads
  | [] => []
  | (v, k) :: l =>
    let later := (l.map Prod.snd).sum
    if n ≤ later then newestReads n l else (v, min k (n - later)) :: l

/-- The reads of a window since its last one (R143): no more than have had their time, the last of them at its latest tick. -/
def State.winReads (s : State) (w : Nat) (pins : PinReads) : State :=
  if s.winRuns w then
    let d := s.winSpacing w
    let n := (s.now - (s.win w).readAt) / d
    let last := (s.win w).readAt + n * d
    s.updWin w (fun u => { (s.winFold w last d (newestReads n pins) u) with readAt := last })
  else s

/-- Reads of a window count anew from now on: the mode, the tick or what runs it has changed (R143, R145). What the Foreman sees goes on. -/
def State.winAnew (s : State) (w : Nat) : State :=
  s.updWin w (fun u => { u with lo := { u.lo with run := 0 }, hi := { u.hi with run := 0 }, readAt := s.now })

/-- After a change since `before`, a window that is not read as it was counts anew. -/
def State.winFollow (s before : State) (w : Nat) : State :=
  if s.winRuns w && before.winRuns w && s.winSpacing w == before.winSpacing w then s else s.winAnew w

/-- Every window. -/
def State.winsFollow (s before : State) : State := s.each (List.range 96) (fun s w => s.winFollow before w)

/-- One threshold of a window. -/
def WinU.cmp (u : WinU) (hi : Bool) : CmpU := if hi then u.hi else u.lo

/-! ### Filtered states (R141, R142, R146) -/

/-- The filtered state of a threshold asserts now: enabled, not SETTLING, crossed for as long as the filter asks (R142, R143). -/
def State.winAsserts (s : State) (w : Nat) (hi : Bool) : Bool :=
  s.winRuns w && s.on (winEnable hi) w && !s.on CN_WSTAT_SETTLING w && !s.on (winState hi) w && decide (s.winNeed w ≤ ((s.win w).cmp hi).run)

/-- What the assertion of a filtered state does (R146, R148, R150). -/
def State.winCross (s : State) (k : Nat) (hi : Bool) : State :=
  let fresh := !s.on CN_WSTAT_LATCH_LO k && !s.on CN_WSTAT_LATCH_HI k
  let s1 := (s.put (winState hi) 1 k).put (winLatch hi) 1 k
  let s2 := if fresh then s1.put CN_WSTAMP_STAMP s1.stamp k else s1
  let s3 := (s2.bumpSat CN_WSTAT_COUNT k).raise (320 + k)
  let s4 := s3.record 50 0 5 (k + if hi then 128 else 0) [s3.rdw .CN_WSTAMP k]
  (s4.seqCanary k).regateWindow k

/-- R143, R146: reads of a window's pin, at the last of which the filtered state of an enabled threshold asserts. -/
def execCanaryCrossing (w : WinRead) (hi : Bool) (s : State) : Out :=
  let s1 := s.winReads w.win.val w.pins
  .next (if s1.winAsserts w.win.val hi then s1.winCross w.win.val hi else s1)

/-- R141, R143: reads of a window's pin, at the last of which the state of a threshold is off: its filtered state deasserts, unless SETTLING holds it
(R142). -/
def execCanaryStateDeassert (w : WinRead) (hi : Bool) (s : State) : Out :=
  let s1 := s.winReads w.win.val w.pins
  .next (if s1.on (winState hi) w.win.val && !s1.on CN_WSTAT_SETTLING w.win.val && !((s1.win w.win.val).cmp hi).raw then
    s1.put (winState hi) 0 w.win.val
  else s1)

/-- Whether a latch can clear now (R142, R147, R151). -/
def State.latchFree (s : State) (w : Nat) (hi : Bool) : Bool :=
  !s.on (winState hi) w && !s.on CN_WCTL_RBFAIL w && !s.on CN_WSTAT_SETTLING w

/-- A software clear of a latch (R147): refused while its state is active or RBFAIL holds it; while SETTLING no latch clears. That the clear of a latch held
by RBFAIL alone sets CLEAR_DENIED is a DESIGN CHOICE (log entry 120). -/
def State.latchClear (s : State) (w : Nat) (hi : Bool) : State :=
  if s.latchFree w hi then s.put (winLatch hi) 0 w
  else if s.on (winLatch hi) w && (s.on (winState hi) w || s.on CN_WCTL_RBFAIL w) then s.put CN_WSTAT_CLEAR_DENIED 1 w
  else s

/-- A write to WSTAT (R147). -/
def State.wstatWrite (s : State) (w : Nat) (v : Word) : State :=
  let clr (f : Fld) (s : State) : State := if f.of v = 1 then s.put f 0 w else s
  let s1 := clr CN_WSTAT_WRITE_DENIED (clr CN_WSTAT_CLEAR_DENIED s)
  let s2 := if CN_WSTAT_LATCH_LO.of v = 1 then s1.latchClear w false else s1
  let s3 := if CN_WSTAT_LATCH_HI.of v = 1 then s2.latchClear w true else s2
  s3.regateWindow w

/-- The clears of a valley of group `g` (R147): windows in CLRMODE 1. -/
def State.canaryValley (s : State) (g : Nat) : State :=
  s.each (List.range 96) (fun s w =>
    if s.on CN_WCTL_CLRMODE w && s.get CN_WCTL_GRP w == g && (s.on CN_WSTAT_LATCH_LO w || s.on CN_WSTAT_LATCH_HI w) then
      let s1 := if s.latchFree w false then s.put CN_WSTAT_LATCH_LO 0 w else s
      let s2 := if s1.latchFree w true then s1.put CN_WSTAT_LATCH_HI 0 w else s1
      s2.regateWindow w
    else s)

/-- WRITE_DENIED of a window. -/
def State.winDenied (s : State) (w : Nat) : State := s.put CN_WSTAT_WRITE_DENIED 1 w

/-- New codes of a window settle from the next tick for 500 ns (R142). -/
def State.winSettle (s : State) (w : Nat) : State := (s.put CN_WSTAT_SETTLING 1 w).arm (.settle w) 126

/-- A write to WTHR (R142). -/
def State.wthrWrite (s : State) (w : Nat) (v : Word) : State :=
  if !changes (s.rdw .CN_WTHR w) v (BitVec.ofNat 32 RegId.CN_WTHR.reg.rw) then s
  else if s.on CN_WCTL_FGUARD w || CN_WTHR_LO.of v > CN_WTHR_HI.of v then s.winDenied w
  else (s.regWrite .CN_WTHR v w).winSettle w

/-- R142: 500 ns after a code change. -/
def execSettlingEnd (w : Win) (s : State) : Out :=
  .next (s.onTimer (.settle w.val) (fun s => s.put CN_WSTAT_SETTLING 0 w.val))

/-- A threshold that does not take part, or a window that is off, has no active state (R141, R147), and the Foreman does not see it crossed but by RBFAIL
(R149, R151). -/
def State.winIdle (s : State) (w : Nat) : State :=
  let live (hi : Bool) : Bool := s.on CN_WCTL_EN w && s.on (winEnable hi) w
  let off (hi : Bool) (s : State) : State := if live hi then s else s.put (winState hi) 0 w
  let keep (hi : Bool) (u : CmpU) : CmpU := if live hi then u else ⟨false, 0⟩
  (off true (off false s)).updWin w (fun u => s.winSeen w s.now { u with lo := keep false u.lo, hi := keep true u.hi })

/-- RBFAIL holds both latches set (R151). -/
def State.winHold (s : State) (w : Nat) : State :=
  if s.on CN_WCTL_RBFAIL w then (s.put CN_WSTAT_LATCH_LO 1 w).put CN_WSTAT_LATCH_HI 1 w else s

/-- The fields of WCTL whose change is refused (R143, R151). -/
def State.wctlKeeps (s : State) (w : Nat) : Word :=
  (if s.on CN_WCTL_EN w then CN_WCTL_MODE.mask ||| CN_WCTL_FILT.mask ||| CN_WCTL_TICK.mask else 0)
    ||| (if s.on CN_WCTL_RBFAIL w && !s.cellStopped (w / 2) then CN_WCTL_RBFAIL.mask else 0)

/-- A write to WCTL (R142, R143, R151). -/
def State.wctlWrite (s : State) (w : Nat) (v : Word) : State :=
  let old := s.rdw .CN_WCTL w
  let all := BitVec.ofNat 32 RegId.CN_WCTL.reg.rw
  if s.on CN_WCTL_FGUARD w then (if changes old v all then s.winDenied w else s)
  else
    let s1 := s.condWrite .CN_WCTL v (s.wctlKeeps w) false (fun s => s.winDenied w) w
    (((s1.winFollow s w).winIdle w).winHold w).regateWindow w

/-- A write to CCTL or CSTAT (R152): lock-step pairs only. -/
def State.canaryPlainWrite (s : State) (m : Master) (r : RegId) (v : Word) : State :=
  if s.lockstep m then (s.regWrite r v).winsFollow s else s.put CN_CSTAT_WRITE_DENIED 1

end Sys2Proof.Machine
end

