-- ==== Sys2Proof/Machine/Carrier.lean ====
section
/-! DEFINITION. Carrier events (R154 to R156, R163, R167, R168): valley, peak, dwell, and the exit from RUNNING at a valley (R21). -/

namespace Sys2Proof.Machine

/-- The instant of the next valley or peak of a running group. -/
def State.turnInstant (s : State) (g : Nat) : Nat :=
  let u := s.grp g
  ((u.lastAt + s.halfSteps g : Int) + (if u.falling then u.adjust else 0)).toNat

/-- The PWM requests of a carrier event at the pairs of its block's cells (R63). -/
def State.pwmRequests (s : State) (g : Nat) (peak : Bool) : State :=
  s.each (s.cellsOf g) (fun s c => s.requestCell c clsPwm 0 peak 0)

/-- A set becomes active and APPLIED counts it (R163). -/
def State.takeSet (s : State) (g : Nat) (u : UpdateSet) : State :=
  (s.applySet g u).bump PW_GRPSTAT_APPLIED g

/-- What an application valley applies (R163): with AUTOC the shadow, if it passes R154; otherwise a pending set copied in an earlier tick. -/
def State.applyDue (s : State) (g : Nat) : State :=
  if s.get PW_GRPSTAT_NCOUNT g ≠ 0 then s
  else if s.on PW_GRPCTL_AUTOC g then
    if prdOk (s.get PW_GRPPRD_PRD g) (s.get PW_GRPCTL_PRE g) then (s.takeSet g (s.shadowSet g)).clearWritten g
    else s.put PW_GRPCOMMIT_PRD_DENIED 1 g
  else match (s.grp g).pend with
    | some u =>
      if u.copied < s.now then
        ((s.updGrp g (fun x => { x with pend := none })).put PW_GRPCOMMIT_PENDING 0 g).takeSet g u
      else s
    | none => s

/-- NCOUNT counts valleys modulo N (R163). -/
def State.countValley (s : State) (g : Nat) : State :=
  s.put PW_GRPSTAT_NCOUNT ((s.get PW_GRPSTAT_NCOUNT g + 1) % (s.get PW_GRPCTL_NSKIP g + 1)) g

/-- SYNCLOCK of a group that follows another group of the device (R167). -/
def State.followCheck (s : State) (g : Nat) : State :=
  if s.get PW_GRPCTL_SYNCSRC g = 1 then
    if s.refMatches g then s.put PW_GRPSTAT_SYNCLOCK 1 g
    else (s.put PW_GRPSTAT_SYNCLOCK 0 g).put PW_GRPSTAT_SYNC_LOST 1 g
  else s

/-- A valley of group `g` at instant `t` places the start of the groups that wait to follow it and are not placed yet, PHASE behind (R163, R167). -/
def State.startFollowers (s : State) (g t : Nat) : State :=
  s.each (List.range 8) (fun s h =>
    if s.on PW_GRPCTL_EN h && s.get PW_GRPCTL_SYNCSRC h == 1 && s.get PW_GRPCTL_SYNCGRP h == g && !s.on PW_GRPSTAT_RUN h
        && (s.grp h).startAt.isNone && h != g then
      s.updGrp h (fun u => { u with startAt := some (t + s.phaseSteps h u.phase) })
    else s)

/-- A pending exit from RUNNING takes effect (R21). -/
def State.takeExit (s : State) (b : Nat) : State :=
  match (s.blkU b).exit with
  | some st => s.enterBlk b st
  | none => s

/-- The angle master marks the valley for the next superframe (R463). -/
def State.markValley (s : State) (g t : Nat) : State :=
  if h : g < 8 then
    if s.on UH_USTAT_MASTER then { s with uhla := { s.uhla with markers := s.uhla.markers.set g (some (s.timeAt t)) } } else s
  else s

/-- A valley of a group that follows the master's markers counts one more period without a marker (R168). -/
def State.countMissing (s : State) (g : Nat) : State :=
  if s.get PW_GRPCTL_SYNCSRC g = 2 ∧ !s.on UH_USTAT_MASTER then s.updGrp g (fun u => { u with missing := u.missing + 1 }) else s

/-- The valley of group `g` at instant `t` (R156, R163, R21). -/
def State.valley (s : State) (g t : Nat) : State :=
  let s1 := ((s.updGrp g (fun u => { u with falling := false, lastAt := t, adjust := 0, startAt := none })).applyDue g).countValley g
  let s2 := s1.each (s1.cellsOf g) (fun s c => s.updChan c (fun u => { u with done := false }))
  let s3 := (((s2.takeExit g).seqCarrier g false).pwmRequests g false).canaryValley g
  (((((s3.sdValley g).mmValley g).followCheck g).startFollowers g t).markValley g t).countMissing g

/-- Whether a valley of a running group is the next event of its carrier. -/
def State.valleyNext (s : State) (g : Nat) : Bool :=
  s.on PW_GRPSTAT_RUN g && s.pwmClock && (s.grp g).falling && !s.on PW_GRPSTAT_DWELL g

/-- The next valley of group `g`, the start of its carrier included; none where its carrier has none to come. -/
def State.nextValley (s : State) (g : Nat) : State :=
  if s.valleyNext g then
    let t := s.turnInstant g
    (s.advanceToInstant t).valley g t
  else match (s.grp g).startAt with
    | some t =>
      if s.on PW_GRPCTL_EN g && !s.on PW_GRPSTAT_RUN g && s.pwmClock then
        ((s.advanceToInstant t).put PW_GRPSTAT_RUN 1 g).valley g t
      else s
    | none => s

/-- R156: the carrier of group `g` reaches 0. -/
def execCarrierValley (g : Block) (s : State) : Out := .next (s.nextValley g.val)

/-- R21: a pending exit from RUNNING takes effect: at the next valley of the block's group, or in the next tick when it is not counting. -/
def execRunningExitAtValley (b : Block) (s : State) : Out :=
  .next (match (s.blkU b.val).exit with
    | none => s
    | some _ => if s.on PW_GRPSTAT_RUN b.val then s.nextValley b.val else (s.advance 1).takeExit b.val)

/-- A waiting override change takes effect at the peak (R170). -/
def State.takeOvr (s : State) (c t : Nat) : State :=
  match (s.chan c).ovrWait with
  | some v => (s.updChan c (fun u => { u with ovr := v, ovrWait := none })).emit c t
  | none => s

/-- The dwell to make at a peak at instant `t`, and the correction of the period (R167): a following group restores its lag, by a dwell after a change of
PHASE or of more than 64 steps, and otherwise as its reference corrects its own period (R168; DEDUCED, log entry 122); another makes the applied change of
PHASE. -/
def State.peakPlan (s : State) (g t : Nat) : Nat × Int :=
  let u := s.grp g
  if s.get PW_GRPCTL_SYNCSRC g = 1 ∧ s.refMatches g then
    let v : Int := (t + s.halfSteps g : Nat)
    let per : Int := 2 * s.halfSteps g
    let late := (s.lagPlaces g).map (fun p => p - v)
    let e := (late.find? (fun e => decide (-64 ≤ e))).getD ((late.getLastD 0).emod per)
    if u.dwell = 0 ∧ e.natAbs ≤ 64 then (0, e) else ((if e < 0 then e + per else e).toNat, 0)
  else (u.dwell, u.adjust)

/-- The dwell to make at a peak. -/
def State.peakDwell (s : State) (g t : Nat) : Nat := (s.peakPlan g t).1

/-- The peak of group `g` at instant `t` (R156, R158, R167, R170). -/
def State.peak (s : State) (g t : Nat) : State :=
  let s1 := s.each (s.cellsOf g) (fun s c => (s.updChan c (fun u => { u with done := false })).takeOvr c t)
  let s2 := (s1.seqCarrier g true).pwmRequests g true
  let (d, e) := s2.peakPlan g t
  let s3 := s2.updGrp g (fun u => { u with lastAt := t, falling := decide (d = 0), dwell := 0, dwellEnd := t + d, adjust := e })
  if d = 0 then s3 else s3.put PW_GRPSTAT_DWELL 1 g

/-- R156: the carrier of group `g` reaches PRD. -/
def execCarrierPeak (g : Block) (s : State) : Out :=
  .next (if s.on PW_GRPSTAT_RUN g.val && s.pwmClock && !(s.grp g.val).falling && !s.on PW_GRPSTAT_DWELL g.val then
    let t := s.turnInstant g.val
    (s.advanceToInstant t).peak g.val t
  else s)

/-- R167: the dwell of group `g` at PRD ends and the carrier falls. -/
def execPeakDwellEnd (g : Block) (s : State) : Out :=
  .next (if s.on PW_GRPSTAT_DWELL g.val && s.pwmClock then
    let t := (s.grp g.val).dwellEnd
    ((s.advanceToInstant t).put PW_GRPSTAT_DWELL 0 g.val).updGrp g.val (fun u => { u with falling := true, lastAt := t })
  else s)

/-- R168: eight consecutive carrier sync markers are missing: the group runs free from its last placement. -/
def execSyncLost (g : Block) (s : State) : Out :=
  .next (if s.get PW_GRPCTL_SYNCSRC g.val = 2 ∧ (s.grp g.val).missing ≥ 8 then
    (s.put PW_GRPSTAT_SYNCLOCK 0 g.val).put PW_GRPSTAT_SYNC_LOST 1 g.val
  else s)

end Sys2Proof.Machine
end

