-- ==== Sys2Proof/Machine/Cage.lean ====
section
/-! DEFINITION. Cage ports: feedback, desaturation, the two-step sequence and clears (R178 to R188). The turn-off of a block is in
Machine/Gate.lean. -/

namespace Sys2Proof.Machine

/-- A level of a feedback input as its switch's state (R178). -/
def State.fbLevel (s : State) (c : Nat) (level : Bool) : Bool := level != s.on CG_PCTL_FBPOL c

/-- A feedback fault of a port, latch `k` (R179, R183): each one is stamped and recorded, be the latch set already. The kind in the Cage record is that
of the latch. -/
def State.fbFault (s : State) (c k : Nat) : State :=
  ((s.portLatch c k).put CG_FBSTAMP_STAMP s.stamp c).cageRecord c (k + 1) s.stamp

/-- A port fault (R180): the channel's outputs held off, a waiting turn-on not issued, the cell's source raised. -/
def State.portFaultSet (s : State) (c k : Nat) : State :=
  ((((s.fbFault c k).unwait c true).unwait c false).regate c).raise (448 + c)

/-- Both switches report on (R183). -/
def State.bothOn (s : State) (c : Nat) : State :=
  let s1 := s.fbFault c 3
  match s1.blockOf c with
  | some b => s1.turnoffStart b c
  | none => s1

/-- Both filtered inputs of a port report on (R183). -/
def State.reportsBoth (s : State) (c : Nat) : Bool := s.on CG_PCTL_FBEN c && s.on CG_PSTAT_FBH c && s.on CG_PSTAT_FBL c

/-- What a level in the commanded state tells the check window in progress (R179). -/
def State.noteReached (s : State) (c : Nat) (hi on : Bool) : State :=
  if on = (s.outU c hi).pin then s.updOut c hi (fun o => { o with reached := true }) else s

/-- The filtered feedback of an output becomes `on` (R178, R179, R183). -/
def State.feedback (s : State) (c : Nat) (hi on : Bool) : State :=
  let s1 := (s.put (fbField hi) on.toNat c).noteReached c hi on
  if !s1.on CG_PCTL_FBEN c then s1
  else
    let s2 := s1.tryOn c (!hi) s1.instant
    let s3 := if on != (s2.outU c hi).pin && !s2.armed (.fbCheck c hi) then s2.portFaultSet c 2 else s2
    if s3.reportsBoth c then s3.bothOn c else s3

/-- R178: the filtered level of FBH, or of FBL, of a port changes. -/
def execFeedbackChange (c : Cell) (hi level : Bool) (s : State) : Out :=
  let on := s.fbLevel c.val level
  .next (if s.on (fbField hi) c.val = on then s else s.feedback c.val hi on)

/-- R179: the check window of an output closes; the feedback may have reached the commanded state in it and left again. -/
def execFbTimeout (c : Cell) (hi : Bool) (s : State) : Out :=
  .next (s.onTimer (.fbCheck c.val hi) (fun s =>
    if s.on CG_PCTL_FBEN c.val && !(s.outU c.val hi).reached then s.portFaultSet c.val 1 else s))

/-- The DSAT level of a port, after its polarity, becomes `on`. -/
def State.dsLevel (s : State) (c : Nat) (on : Bool) : State :=
  if s.on CG_PSTAT_DSAT c = on then s
  else (s.updChan c (fun u => { u with dsat := (s.now, s.dsFiltered c) })).put CG_PSTAT_DSAT on.toNat c

/-- R181: the level of DSATk changes. -/
def execDsatLevelChange (c : Cell) (level : Bool) (s : State) : Out := .next (s.dsLevel c.val (level != s.on CG_PCTL_DSPOL c.val))

/-- R181: the blanking of a channel ends. -/
def execBlankingEnd (c : Cell) (s : State) : Out :=
  .next (s.onTimer (.blank c.val) (fun s => s.put CG_PSTAT_BLANKING 0 c.val))

/-- The output for which DSATk is qualified now, PWMH when `true` (R181): driven on at the gate past its blanking, or found on by a block turn-off
whose network has not reached the gate yet (R182, R185). -/
def State.dsOutput (s : State) (c : Nat) : Option Bool :=
  let u := s.chan c
  if s.on CG_PSTAT_BLANKING c then none
  else if u.hi.pin then some true
  else if u.lo.pin then some false
  else match u.netOff with
    | some (hi, t) => if s.now ≤ t + 12 then some hi else none
    | none => none

/-- R181: a qualified desaturation report of a port has held for DSFILT × 4 ns: time moves on to that tick. -/
def execDsLatch (c : Cell) (s₀ : State) : Out :=
  let k := c.val
  let s := if s₀.on CG_PSTAT_DSAT k then s₀.advanceTo ((s₀.chan k).dsat.1 + s₀.get CG_PCTL_DSFILT k) else s₀
  .next (if s.on CG_PCTL_DSEN k && s.on CG_PSTAT_DSAT k && !s.on CG_PSTAT_DS_LATCH k then
    match s.dsOutput k with
    | none => s
    | some hi =>
      let s1 := ((s.portLatch k 0).put CG_DSSTAMP_STAMP s.stamp k).put CG_PSTAT_DS_HL (!hi).toNat k
      let s2 := (s1.bumpSat CG_PSTAT_DSCOUNT k).cageRecord k 1 s.stamp
      match s2.blockOf k with
      | some b => s2.turnoffStart b k
      | none => s2
  else s)

/-- R182: SOFTb deasserts and the sequence enters step 2. -/
def execSoftStepEnd (b : Block) (s : State) : Out :=
  .next (s.onTimer (.softStep b.val) (fun s => ((s.put CG_BSTAT_SOFT 0 b.val).driveSoft b.val).put CG_BSTAT_STEP2 1 b.val))

/-- A change of a polarity bit changes what the pins' levels report (R178, R181). -/
def State.repolarise (s : State) (c : Nat) (old : Word) : State :=
  let new := s.rdw .CG_PCTL c
  let flip (f : Fld) (s : State) : State := s.put f (1 - s.get f c) c
  let s1 := if changes old new CG_PCTL_FBPOL.mask then flip CG_PSTAT_FBH (flip CG_PSTAT_FBL s) else s
  if changes old new CG_PCTL_DSPOL.mask then s1.dsLevel c (!s1.on CG_PSTAT_DSAT c) else s1

/-- A write to PCTL of port `c` (R187, R188). With it both inputs may come to report on (R183). -/
def State.pctlCageWrite (s : State) (c : Nat) (v : Word) : State :=
  let old := s.rdw .CG_PCTL c
  let s1 := (s.condWrite .CG_PCTL v (BitVec.ofNat 32 RegId.CG_PCTL.reg.rw) (s.cellStopped c)
    (fun s => s.put CG_PSTAT_WRITE_DENIED 1 c) c).repolarise c old
  let s2 := if s1.reportsBoth c && !s.reportsBoth c then s1.bothOn c else s1
  if CG_PCTL_CLR.of v = 1 then s2.clearAttempt c false else s2

/-- A write to BCTL of block `b` (R188). -/
def State.bctlWrite (s : State) (b : Nat) (v : Word) : State :=
  (s.condWrite .CG_BCTL v (BitVec.ofNat 32 RegId.CG_BCTL.reg.rw) (s.blk b == blkStopped) (fun s => s.put CG_BSTAT_WRITE_DENIED 1 b) b).driveSoft b

/-- A write to CGSTAT (R188): lock-step pairs only. -/
def State.cgstatWrite (s : State) (m : Master) (v : Word) : State :=
  if s.lockstep m then s.regWrite .CG_CGSTAT v else s.put CG_CGSTAT_WRITE_DENIED 1

end Sys2Proof.Machine
end

