-- ==== Sys2Proof/Machine/Foreman.lean ====
section
/-! DEFINITION. The Foreman: its registers, limits, demands, latches and clears, its output, mirror, brake and seal tests, and its parameter
block (R310 to R330). The latches and output terms are in Machine/Gate.lean. -/

namespace Sys2Proof.Machine

/-! ### Registers (R311, R318) -/

/-- Only the lock-step pair in force as safety pair writes the Foreman's registers (R311). -/
def State.asSafety (s : State) (m : Master) (f : State → State) : State :=
  match m with
  | .pair n => if s.lockstep m && n.val == s.get FM_FSTAT_SAFEPAIR_ACT then f s else s.put FM_FCAUSE_WRITE_DENIED 1
  | _ => s.put FM_FCAUSE_WRITE_DENIED 1

/-- What follows from a change of the Drift-channel enables since `before` (R311, R315, R318, R321). -/
def State.enablesFrom (s before : State) : State :=
  let s1 := s.sf2Drift before
  let s2 := if before.on FM_FSAFEN_SF1 && !s1.on FM_FSAFEN_SF1 then s1.sf1Inhibit else s1
  let s3 := s2.each [0, 1] (fun s n => if s.bitOf FM_FSAFEN_BRK n then s else s.brakeTestStop n)
  s3.fmOutputs

/-- Every Drift-channel enable clears, as a demand (R311). -/
def State.enablesClear (s : State) : State :=
  let s1 := (((s.put FM_FSAFEN_PR 0).put FM_FSAFEN_SF1 0).put FM_FSAFEN_BRK 0).put FM_FSAFEN_NOT 0xFFFF
  s1.enablesFrom s

/-- A write to FSAFEN (R311). -/
def State.fsafenWrite (s : State) (v : Word) : State :=
  if v >>> 16 = ~~~v &&& 0xFFFF then ((s.regWrite .FM_FSAFEN v).enablesFrom s).arm .safen (10 * ms)
  else (s.enablesClear.put FM_FCAUSE_SAFEN_DENIED 1).raise 969

/-- R311: 10 ms without a valid write. -/
def execSafenExpired (s : State) : Out :=
  .next (s.onTimer .safen (fun s => (s.enablesClear.put FM_FCAUSE_SAFEN_EXPIRED 1).raise 969))

/-- A bit of FCMD written 1 while the output's latch is set (R318). -/
def State.cmdDenied (s : State) (v : Word) : Bool :=
  (List.range 5).any (fun k => bit v k && s.outLatch k)

/-- A write to FCMD (R318): while the Adit port is open or RESTRICTED holds, one that sets KA, KB or DCD has no effect (R355, R377). -/
def State.fcmdWrite (s : State) (v : Word) : State :=
  if (s.on BK_ADITSTAT_OPEN || s.on BK_BKSTAT_RESTRICTED) && v &&& 7 != 0 then s.put FM_FCAUSE_CMD_DENIED 1
  else
    let s1 := if s.cmdDenied v then s.put FM_FCAUSE_CMD_DENIED 1 else s
    let s2 := s1.regWrite .FM_FCMD v
    let live := Vector.ofFn (fun k : Fin 5 => bit v k.val && (s2.fm.live[k] || !s2.outLatch k.val))
    ({ s2 with fm := { s2.fm with live := live } }).fmOutputs

/-! ### The parameter block's fields (R324) -/

/-- Word `j` of the parameter block's window entry `w`: WCTL, WTHR and FGCFG images. -/
def State.winParam (s : State) (w j : Nat) : Word := BitVec.ofNat 32 (s.fmParam (0x60 + 12 * w + 4 * j) 4)

/-- GUARD of a window (R324). -/
def State.guarded (s : State) (w : Nat) : Bool := bit (s.winParam w 2) 0

/-- Word `j` of a limit. -/
def State.limParam (s : State) (n j : Nat) : Nat := s.fmParam (8 + 8 * n + 4 * j) 4

/-! ### Demands (R315) -/

/-- The ticks for which a guarded window must have been crossed without a break (R315): FFILT × 4 ns for the groups, 1.0 ms for SF1, 1.8 ms for the
brakes. -/
def State.fgNeed (s : State) (w : Nat) (f : Fin 3) : Nat :=
  match f with
  | 0 => bits (s.winParam w 2) 8 8
  | 1 => 1000 * us
  | 2 => 1800 * us

/-- The Foreman has seen a window crossed for that long (R149): up to its last read, or while RBFAIL shows it crossed up to now (R151). -/
def State.fgCrossed (s : State) (w : Nat) (f : Fin 3) : Bool :=
  match (s.win w).seen with
  | some t => decide (t + s.fgNeed w f ≤ if s.on CN_WCTL_RBFAIL w then s.now else (s.win w).readAt)
  | none => false

/-- A guarded window with bit `b` of its FGCFG set is crossed for its time `f` (R315). -/
def State.winSource (s : State) (f : Fin 3) (b : Nat) : Bool :=
  (List.range 96).any (fun w => s.fgCrossed w f && s.guarded w && bit (s.winParam w 2) b)

/-- An SF1 source on the Foreman's side holds (R315). -/
def State.sf1Source (s : State) : Bool :=
  s.on FM_FLIM_TRIPPED || s.winSource 1 1 || s.on FM_FSTAT_SEAL_PENDING
    || s.get FM_FOUT_OUTFAILMAP % 8 != 0 || s.on FM_FSTAT_MIR_FAIL || s.on FM_FSTAT_FST_FAIL || s.on FM_FSTAT_NOPARAM

/-- An SF2 source of group `g` holds (R315): SF1 demands of either side among them (log entry 16). -/
def State.sf2Source (s : State) (g : Nat) : Bool :=
  s.winSource 0 (16 + g) || s.sf1Source || !s.on FM_FSAFEN_SF1
    || s.on CG_CGSTAT_ESCALATED || s.on FM_FSTAT_SEAL_PENDING || s.on FM_FSTAT_FST_FAIL

/-- An SF3 source of brake `n` holds (R315). -/
def State.sf3Source (s : State) (n : Nat) : Bool :=
  s.winSource 2 (2 + n) || s.bitOf FM_FOUT_OUTFAILMAP (3 + n)
    || s.on FM_FSTAT_FST_FAIL

/-- R149, R315: reads of a guarded window's pin, after which it has been crossed without a break for FFILT (`f` 0: the groups), for 1.0 ms (1: SF1) or for
1.8 ms (2: the brakes). -/
def execForemanWindowDemand (w : WinRead) (f : Fin 3) (s₀ : State) : Out :=
  let k := w.win.val
  let s := s₀.winReads k w.pins
  let g := s.winParam k 2
  let bites : Bool := match f with
    | 0 => bits g 16 8 != 0
    | 1 => bit g 1
    | 2 => bits g 2 2 != 0
  .next (if s.guarded k && s.fgCrossed k f then
    if !bites then s
    else
      let s2 := s.put FM_FCAUSE_CANARY 1
      match f with
      | 0 => s2.sf2LatchMask (bits g 16 8)
      | 1 => s2.sf1Latch
      | 2 => s2.each [0, 1] (fun s n => if bit g (2 + n) then s.sf3Latch n else s)
  else s)

/-! ### Clearing (R317, R320) -/

/-- KA_RB and KB_RB agree with their drives (R320); a contact does not react to an off-pulse (R319). -/
def State.mirrorsAgree (s : State) : Bool :=
  [0, 1].all (fun k => !s.outUsed k || s.bitOf FM_FOUT_KRB k == s.outOn k)

/-- The latch of bit `k` of the mask was demanded in the sample of now (R317). -/
def State.demandNow (s : State) (k : Nat) : Bool := s.fm.fresh.testBit k

/-- One clear attempt (R317): every latch whose sources are inactive clears, but for one demanded in the same sample. -/
def State.fclr (s : State) : State :=
  let s1 := if s.on FM_FSTAT_MIR_FAIL && s.mirrorsAgree then (s.put FM_FSTAT_MIR_FAIL 0).faultLine else s
  let sf1 := s1.on FM_FSTAT_SF1OPEN && (s1.sf1Source || s1.demandNow 0)
  let sf2 := s1.get FM_FSTAT_SF2INH &&& maskOf ((List.range 8).filter (fun g => s1.sf2Source g || s1.demandNow (1 + g)))
  let sf3 := s1.get FM_FSTAT_SF3DEM &&& maskOf ([0, 1].filter (fun n => s1.sf3Source n || s1.demandNow (9 + n)))
  let s2 := ((s1.put FM_FSTAT_SF1OPEN sf1.toNat).put FM_FSTAT_SF2INH sf2).put FM_FSTAT_SF3DEM sf3
  let s3 := if s2.anyLatch then s2.put FM_FCAUSE_CLEAR_DENIED 1 else s2
  s3.fmOutputs.regateAll

/-- A write to FCLR. -/
def State.fclrWrite (s : State) (v : Word) : State := if FM_FCLR_CLR.of v = 1 then s.fclr else s

/-! ### Output tests (R319, R320) -/

/-- A failed check of output `k` (R319): its function takes its demand. -/
def State.outFail (s : State) (k : Nat) : State :=
  let s1 := s.orPut FM_FOUT_OUTFAILMAP (2 ^ k)
  let s2 := if s1.on FM_FSTAT_OUT_FAIL then s1 else (s1.put FM_FSTAT_OUT_FAIL 1).raise 963
  (if k < 3 then s2.sf1Latch else s2.sf3Latch (k - 3)).faultLine

/-- The node of an output shows `v`. -/
def State.nodeShow (s : State) (k : Nat) (v : Bool) : State :=
  s.put FM_FOUT_NODE (if v then s.get FM_FOUT_NODE ||| 2 ^ k else s.get FM_FOUT_NODE &&& (31 - 2 ^ k))

/-- Set the off-pulse of an output. -/
def State.setPulse (s : State) (k : Fin 5) (v : Bool) : State :=
  ({ s with fm := { s.fm with pulse := s.fm.pulse.set k.val v k.isLt } }).fmOutputs

/-- The next instant of an output's off-pulse (R319): 125 ms apart from output to output, in every second. -/
def pulseDue (k now : Nat) : Nat :=
  let at' := 125 * ms * k
  let t := now / (1000 * ms) * (1000 * ms) + at'
  if t < now then t + 1000 * ms else t

/-- R319: at its time in the second an output that is on is switched off for 300 µs; `off`: its node reads off within 100 µs. -/
def execOffPulseStart (k : Fin 5) (off : Bool) (s₀ : State) : Out :=
  let s := if s₀.outOn k.val && !s₀.armed (.offPulse k.val) then s₀.advanceTo (pulseDue k.val s₀.now) else s₀
  .next (if s.outOn k.val && !s.armed (.offPulse k.val) then
    let s1 := ((s.setPulse k true).arm (.offPulse k.val) (300 * us)).nodeShow k.val (!off)
    if off then s1 else s1.outFail k.val
  else s)

/-- R319: the end of an off-pulse; `on`: the node reads on within 100 µs. An output that a demand has switched off stays off (R318). -/
def execOffPulseEnd (k : Fin 5) (on : Bool) (s : State) : Out :=
  .next (s.onTimer (.offPulse k.val) (fun s =>
    let s1 := (s.setPulse k false).nodeShow k.val on
    if on == s1.outOn k.val then s1 else s1.outFail k.val))

/-- KRB takes a read `v` of the mirror contacts, after MIRPOL (R320): a contact that disagrees with its drive since the later of its own change and its drive's,
one of a drive that is on not before T_PULL, has T_DROP before it counts as a failure. -/
def State.mirrorShow (s : State) (v : BitVec 2) : State :=
  let s1 := s.put FM_FOUT_KRB v.toNat
  s1.each (List.finRange 5) (fun t k =>
    if k.val < 2 then
      let on := t.outOn k.val
      if t.outUsed k.val && v.getLsbD k.val != on then
        if t.armed (.mirror k.val) then t
        else
          let since := if s.bitOf FM_FOUT_KRB k.val = v.getLsbD k.val then t.fm.driveAt[k] else t.now
          let from' := if on then max since (t.fm.driveAt[k] + t.fmParam 0x4E 2 * ms) else since
          t.armAt (.mirror k.val) (max t.now (from' + t.fmParam 0x4C 2 * ms))
      else t.disarm (.mirror k.val)
    else t)

/-- R320: the mirror contact of KA or KB has disagreed with its drive for longer than T_DROP; it reads `closed`. -/
def execMirFail (k : Fin 2) (closed : Bool) (s : State) : Out :=
  .next (s.onTimer (.mirror k.val) (fun s => if s.outUsed k.val && closed != s.outOn k.val then
    let krb := s.get FM_FOUT_KRB
    let s1 := s.put FM_FOUT_KRB (if closed then krb ||| 2 ^ k.val else krb &&& (3 - 2 ^ k.val))
    let s2 := if s1.on FM_FSTAT_MIR_FAIL then s1 else (s1.put FM_FSTAT_MIR_FAIL 1).raise 964
    s2.sf1Latch.faultLine
  else s))

/-! ### Brake tests (R321) -/

/-- The test of brake `n` may start. -/
def State.brakeMayTest (s : State) (n : Nat) : Bool :=
  s.outUsed (3 + n) && !s.outOn (3 + n) && s.bitOf FM_FSAFEN_BRK n && !s.on FM_FSTAT_SF3DEM

/-- A test request of brake `n`. -/
def State.brakeRequest (s : State) (n : Nat) : State :=
  if s.brakeMayTest n then
    let s1 := (s.orPut FM_BTEST_BUSY (2 ^ n)).put FM_BTEST_PASS (s.get FM_BTEST_PASS &&& (3 - 2 ^ n))
    let s2 := ((s1.disarm (.brakeHold n)).disarm (.brakeEngage n)).arm (.brakeRelease n) (s.fmParam 0x50 2 * ms)
    s2.fmOutputs
  else s.put FM_FCAUSE_BT_DENIED 1

/-- A write to BTEST (R321). -/
def State.btestWrite (s : State) (v : Word) : State :=
  (s.regWrite .FM_BTEST v).each [0, 1] (fun s n => if bit v n then s.brakeRequest n else s)

/-- R321: the release switch of brake `n` shows released while its test waits for it. -/
def State.brakeReleased (s : State) (n : Nat) : State :=
  if s.bitOf FM_BTEST_BUSY n && s.armed (.brakeRelease n) then (s.disarm (.brakeRelease n)).arm (.brakeHold n) (50 * ms) else s

/-- R321: 50 ms after the release the output goes off. -/
def execBrakeTestReengage (n : Fin 2) (s : State) : Out :=
  .next (s.onTimer (.brakeHold n.val) (fun s => (s.arm (.brakeEngage n.val) (s.fmParam 0x52 2 * ms)).fmOutputs))

/-- BTAGE of a brake. -/
def btAge (n : Nat) : Fld := if n = 0 then FM_BTEST_BTAGE0 else FM_BTEST_BTAGE1

/-- The hours since a brake passed its test; BTAGE shows up to 255 of them (R321, R329). -/
def State.brakeAge (s : State) (n : Fin 2) (h : Nat) : State :=
  ({ s with fm := { s.fm with hours := s.fm.hours.set n.val h n.isLt } }.put (btAge n.val) (min h 255)).arm (.brakeHour n.val) (3600000 * ms)

/-- A used brake is overdue (R321). -/
def State.brakeOverdue (s : State) : Bool :=
  (List.finRange 2).any (fun n => s.outUsed (3 + n.val) && decide (s.fmParam 0x54 4 ≤ s.fm.hours[n]))

/-- R321: the release switch shows engaged within T_ENG. -/
def execBrakeTestPass (n : Fin 2) (s : State) : Out :=
  .next (if s.bitOf FM_BTEST_BUSY n.val && s.armed (.brakeEngage n.val) then
    let s1 := ((s.brakeTestStop n.val).orPut FM_BTEST_PASS (2 ^ n.val)).brakeAge n 0
    (if s1.brakeOverdue then s1 else s1.put FM_FSTAT_BT_DUE 0).fmOutputs
  else s)

/-- A window of a brake test missed (R321). -/
def State.brakeMissed (s : State) (n : Nat) : State := (s.put FM_FCAUSE_BT_FAIL 1).sf3Latch n

/-- R321: T_REL or T_ENG passes without the release switch showing its state. -/
def execBtFail (n : Fin 2) (s : State) : Out :=
  .next (if s.armed (.brakeRelease n.val) then s.onTimer (.brakeRelease n.val) (fun s => s.brakeMissed n.val)
    else s.onTimer (.brakeEngage n.val) (fun s => s.brakeMissed n.val))

/-- R321: the next hour since brake `n` last passed its test, and `hours` further ones, go by; BT_DUE when they reach BTMAX. -/
def execBtDue (n : Fin 2) (hours : Nat) (s : State) : Out :=
  .next (s.onTimer (.brakeHour n.val) (fun s =>
    let s1 := (s.advance (hours * (3600000 * ms))).brakeAge n (s.fm.hours[n] + 1 + hours)
    if s1.fm.param.isSome && s1.outUsed (3 + n.val) && decide (s1.fmParam 0x54 4 ≤ s1.fm.hours[n]) && !s1.on FM_FSTAT_BT_DUE then
      (s1.put FM_FSTAT_BT_DUE 1).raise 970
    else s1))

/-! ### Seal straps (R322) -/

/-- A read of the straps: every 10 ms, and at reset. -/
def State.sealRead (s : State) (v : BitVec 12) : State :=
  let s1 := { s with fm := { s.fm with straps := (v.toNat :: s.fm.straps).take 100 } }
  let s2 := s1.put FM_SEAL_SEALIN v.toNat
  if v.toNat = s2.get FM_SEAL_SEALREF then s2
  else
    let s3 := if s2.on FM_FCAUSE_SEAL_CHANGED then s2 else (s2.put FM_FCAUSE_SEAL_CHANGED 1).raise 966
    ((s3.put FM_FSTAT_SEAL_PENDING 1).sf1Latch.sf2LatchMask 0xFF).faultLine

/-- A periodic deadline of the Foreman has come: the next follows `d` ticks after it, and `f` acts while the die has VAUX. -/
def State.fmEvery (s : State) (t : Timer) (d : Nat) (f : State → State) : State :=
  s.onTimer t (fun u =>
    let v := u.armAt t ((s.deadline t).getD 0 + d)
    if v.supply.vaux then f v else v)

/-- R322: the straps are read, every 10 ms. -/
def execSealRead (v : BitVec 12) (s : State) : Out :=
  .next (s.fmEvery .fmSeal (10 * ms) (fun s => s.sealRead v))

/-! ### Self-test (R312, R325) -/

/-- A failed self-test: every function takes its demand, and the Foreman asserts its reset demand once the outputs are off. -/
def State.selfTestFail (s : State) : State :=
  let s1 := if s.on FM_FSTAT_FST_FAIL then s else (s.put FM_FSTAT_FST_FAIL 1).raise 968
  let s2 := ((s1.sf1Latch.sf2LatchMask 0xFF).sf3Latch 0).sf3Latch 1
  { s2.faultLine with fm := { s2.faultLine.fm with resetDemand := true } }

/-- Two clocks, in parts per million of their nominal rates, disagree by more than 1 % (R312). -/
def clocksDiffer (a b : Nat) : Bool := decide (a > b + 10000) || decide (b > a + 10000)

/-! ### Monitors and limits (R313, R314) -/

/-- Samples of a limit that make up `d` milliseconds, both ends counted, and the confirmation (R314). -/
def confirmSamples (d : Nat) : Nat := 64 * d + 2

/-- Samples without a violation that make a limit inactive: 1.0 ms, both ends counted (R314). -/
def inactiveSamples : Nat := 65

/-- The sum of the squares of the last 64 samples of a monitor. -/
def squares (l : List Int) : Nat := (l.map (fun x => (x * x).toNat)).sum

/-- The mean square of a phase against THR² (R313, R314): with samples of full scale 2^11, VNOM of full scale 2^31 and THR in 2^-14, both sides
over one denominator. -/
def msSide (sq : Nat) : Nat := sq * 2 ^ 62
def thrSide (thr vnom : Nat) : Nat := (thr * vnom) ^ 2

/-- A phase takes part in the frequency measurement (R313): its mean square is at or above (0.3 × VNOM)². -/
def phaseLive (sq vnom : Nat) : Bool := decide (9 * vnom * vnom ≤ 100 * (sq * 2 ^ 34))

/-- The first phase of A, B and C that takes part (R313). -/
def State.freqPhase (s : State) : Option Nat :=
  if s.fm.param.isNone then none
  else (List.range 3).find? (fun p => phaseLive (squares ([s.fm.va, s.fm.vb, s.fm.vc].getD p [])) (s.fmParam 0 4))

/-- One sample `x` of the phase measured, whose sign changed `frac` after the sample before if it did (R313): a sign that has held for 1.0 ms counts, a
positive crossing from its instant on. A phase newly measured has no crossing yet. -/
def FreqU.sample (u : FreqU) (phase : Option Nat) (x : Int) (frac : Nat) : FreqU :=
  let n := u.count + 1
  match phase with
  | none => ⟨none, n, false, 0, false, none, none⟩
  | some p =>
    let up := decide (0 ≤ x)
    if u.phase ≠ some p then ⟨some p, n, up, n * 65536, true, none, u.freq⟩
    else
      let since := if up = u.raw then u.since else u.count * 65536 + frac
      let u1 : FreqU := { u with count := n, raw := up, since := since }
      if up ≠ u.high ∧ since + 64 * 65536 ≤ n * 65536 then
        if up then
          { u1 with high := true, last := some since
                    freq := match u.last with
                      | some t => some (divOpen (64000000 * 65536) (since - t))
                      | none => u.freq }
        else { u1 with high := false }
      else u1

/-- The frequency measurement takes a sample (R313). -/
def State.freqSample (s : State) (frac : Nat) : State :=
  let p := s.freqPhase
  let x := ([s.fm.va, s.fm.vb, s.fm.vc].getD (p.getD 0) []).headD 0
  { s with fm := { s.fm with freq := s.fm.freq.sample p x frac } }

/-- Every phase is at or above WAKEV % of VNOM (R404). -/
def State.gridHigh (s : State) : Bool :=
  s.fm.param.isSome && [s.fm.va, s.fm.vb, s.fm.vc].all (fun l =>
    decide ((min 100 (s.get PR_WAKECFG_WAKEV) * s.fmParam 0 4) ^ 2 ≤ 10000 * (squares l * 2 ^ 34)))

/-- In PARK the wait of WAKET s runs while every phase is high enough (R404). -/
def State.wakeFollow (s : State) : State :=
  if s.supply.place = 1 ∧ s.gridHigh then
    (if s.armed .wakeGrid then s else s.arm .wakeGrid (min 600 (atLeast1 (s.get PR_WAKECFG_WAKET)) * 1000 * ms))
  else s.disarm .wakeGrid

/-- The tick of the monitor sample after that of tick `d` (R313): 15.625 µs apart, each on the first tick at or after its instant. -/
def sampleAfter (d : Nat) : Nat := ((d * 4 / 15625 + 1) * 15625 + 3) / 4

/-- Whether limit `n` is violated; none where it holds its counter and state (R313, R314). -/
def State.limitViolated (s : State) (n : Nat) (sqs : List Nat) (freq : Option Nat) : Option Bool :=
  let w := s.limParam n 0
  let thr := w / 2 ^ 16
  let v := s.fmParam 0 4
  match w % 8 with
  | 1 => some (sqs.any (fun q => decide (msSide q < thrSide thr v)))
  | 2 => some (sqs.any (fun q => decide (msSide q > thrSide thr v)))
  | 3 => freq.map (fun f => decide (f < w / 8))
  | 4 => freq.map (fun f => decide (f > w / 8))
  | _ => some false

/-- One limit at one sample (R314). -/
def State.limitSample (s : State) (n : Fin 8) (viol : Option Bool) : State :=
  match viol with
  | none => s
  | some true =>
    let u := s.fm.limits[n]
    let k := u.viol + 1
    let s1 := { s with fm := { s.fm with limits := upd s.fm.limits n (fun _ => ⟨k, 0⟩) } }
    let s2 := s1.orPut FM_FLIM_VIOL (2 ^ n.val)
    if k = confirmSamples (s2.limParam n.val 1) then
      ((s2.orPut FM_FLIM_TRIPPED (2 ^ n.val)).orPut FM_FCAUSE_LIMIT (2 ^ n.val)).sf1Latch
    else s2
  | some false =>
    let u := s.fm.limits[n]
    let k := min (u.ok + 1) inactiveSamples
    let s1 := { s with fm := { s.fm with limits := upd s.fm.limits n (fun _ => ⟨0, k⟩) } }
    let s2 := s1.put FM_FLIM_VIOL (s1.get FM_FLIM_VIOL &&& (255 - 2 ^ n.val))
    if k = inactiveSamples then s2.put FM_FLIM_TRIPPED (s2.get FM_FLIM_TRIPPED &&& (255 - 2 ^ n.val)) else s2

/-- The RMS of a phase as FMONV shows it, Q2.14 of VNOM (R329); its rounding is open, and so is a value that VNOM or the field's width leaves
without a number. -/
def State.rmsShow (s : State) (sq : Nat) (f : Fld) : State :=
  let v := s.fmParam 0 4
  let q := sq * 2 ^ 62
  let r := isqrt (q / (v * v))
  let shown := r + (if r * r * (v * v) ≠ q ∧ Config.roundUp q v then 1 else 0)
  s.putFit f (if v = 0 then 65536 else shown)

/-- A node that has had 100 µs reads as its output is driven (R319, R327). -/
def State.nodesTest (s : State) (node : BitVec 5) : State :=
  s.each (List.finRange 5) (fun s k =>
    let settled := decide (s.fm.nodeAt[k] + 100 * us ≤ s.now)
    if s.outUsed k.val && ((!s.outOn k.val && node.getLsbD k.val) || (s.fm.drive[k] && settled && !node.getLsbD k.val)) then s.outFail k.val else s)

/-- One sample of the monitors, the nodes and the readback pins (R313, R319, R320, R321); `frac`: the instant of a change of sign of the phase measured. -/
def State.monitorSample (s : State) (a b c : BitVec 12) (frac : Nat) (node : BitVec 5) (krb brb : BitVec 2) : State :=
  let push (l : List Int) (x : BitVec 12) : List Int := (x.toInt :: l).take 64
  let s1 := ({ s with fm := { s.fm with va := push s.fm.va a, vb := push s.fm.vb b, vc := push s.fm.vc c, fresh := 0 } }.freqSample frac).wakeFollow
  let sqs := [squares s1.fm.va, squares s1.fm.vb, squares s1.fm.vc]
  let f := s1.fm.freq.freq
  let s2 := ((s1.rmsShow (squares s1.fm.va) FM_FMONV0_VA).rmsShow (squares s1.fm.vb) FM_FMONV0_VB).rmsShow (squares s1.fm.vc) FM_FMONV1_VC
  let s3 := s2.put FM_FMONF_FREQ (f.getD 0)
  let s4 := s3.each (List.finRange 8) (fun s n => s.limitSample n (s.limitViolated n.val sqs f))
  let mirpol : BitVec 2 := if s4.fmParam 0x48 4 / 32 % 2 == 1 then 3 else 0
  let brkpol : BitVec 2 := BitVec.ofNat 2 (s4.fmParam 0x48 4 / 64)
  let s5 := ((s4.put FM_FOUT_NODE node.toNat).mirrorShow (krb ^^^ mirpol)).put FM_FOUT_BRB (brb ^^^ brkpol).toNat
  let s6 := s5.nodesTest node
  s6.each [0, 1] (fun s n => if s.bitOf FM_FOUT_BRB n then s.brakeReleased n else s)

/-! ### Taking a parameter block (R311, R324) -/

/-- The Canary registers of a guarded window take their values from the block (R142, R324). -/
def State.guardWindow (s : State) (w : Nat) : State :=
  if s.guarded w then
    let old := s.rdw .CN_WTHR w
    let s1 := ((s.put CN_WCTL_FGUARD 1 w).regWrite .CN_WCTL (s.winParam w 0) w).regWrite .CN_WTHR (s.winParam w 1) w
    let s2 := if s1.rdw .CN_WTHR w = old then s1 else s1.winSettle w
    (((s2.winFollow s w).winIdle w).winHold w).regateWindow w
  else s.put CN_WCTL_FGUARD 0 w

/-- The block in force becomes `b`: SAFEPAIR_ACT is loaded, the guarded windows take their images (R311, R324). -/
def State.paramInForce (s : State) (b : List Byte) : State :=
  let s1 := { s with fm := { s.fm with param := some b, limits := Vector.replicate 8 ⟨0, 0⟩ } }
  let s2 := (s1.put FM_FSTAT_NOPARAM 0).put FM_FSTAT_SAFEPAIR_ACT (s1.fmParam 0x58 4 % 16)
  let s3 := s2.each (List.range 96) State.guardWindow
  s3.fmOutputs.faultLine

/-- A start finds no valid block (R324): none is in force, NOPARAM is set and SF1 takes its demand. -/
def State.paramNone (s : State) : State :=
  if s.fm.param.isNone && s.fm.next.isNone && s.on FM_FSTAT_NOPARAM then s
  else
    let s1 := { s with fm := { s.fm with param := none, next := none, limits := Vector.replicate 8 ⟨0, 0⟩ } }
    let s2 := ((s1.put FM_FSTAT_NOPARAM 1).put FM_FSTAT_PARAM_PENDING 0).each (List.range 96) State.guardWindow
    s2.sf1Latch.faultLine

/-- Every block is STOPPED and every SF1 output is off (R324). -/
def State.paramMayAct (s : State) : Bool :=
  (List.range 8).all (fun b => s.blk b == blkStopped) && [0, 1, 2].all (fun k => !s.outOn k)

/-- R324: the frame boundary of this tick, at which an accepted block takes effect. -/
def execForemanParamTakeEffect (s : State) : Out :=
  .next (match s.fm.next with
    | some b =>
      if s.plan.madeAt = some s.now ∧ s.paramMayAct then
        let s1 := s.paramInForce b
        (({ s1 with fm := { s1.fm with next := none } }).put FM_FSTAT_PARAM_PENDING 0).raise 971
      else s
    | none => s)

end Sys2Proof.Machine
end

