-- ==== Sys2Proof/Machine/Lamp.lean ====
section
/-! DEFINITION. The Lamp domain: its clock, store, harvest, gauge and grants (R424 to R437). -/

namespace Sys2Proof.Machine

/-- Change the Lamp domain's items. -/
def State.updLamp (s : State) (f : LampU → LampU) : State := { s with lamp := f s.lamp }

/-! ### The clock (R424) -/

/-- The clock's count now: 2^-15 s per count from where it was last set; it stands while the domain has no power (log entry 53). -/
def State.rtcNow (s : State) : Nat :=
  if s.lamp.powered then s.lamp.rtc + (s.now - s.lamp.rtcAt) * 32768 / 250000000 else s.lamp.rtc

/-- Set the clock. -/
def State.rtcPut (s : State) (v : Nat) : State :=
  s.updLamp (fun l => { l with rtc := v % 2 ^ 64, rtcAt := s.now, rtcSet := some (v % 2 ^ 64) })

/-- The clock's seconds. -/
def State.rtcSeconds (s : State) : Nat := s.rtcNow / 32768

/-! ### What the domain does at fixed intervals (R349, R429, R432) -/

/-- The intervals of the mesh checks and of the gauge. -/
def State.meshPeriod (s : State) : Nat := if s.supply.place = 0 then 25000 else 250 * ms
def State.gaugePeriod (s : State) : Nat := if s.supply.vaux then ms else 1000 * ms

/-- The intervals run from now on, at a change of the power state. -/
def State.lampRate (s : State) : State := (s.arm .mesh s.meshPeriod).arm .gauge s.gaugePeriod

/-- A periodic event: its next deadline is `d` after this one. -/
def State.every (s : State) (t : Timer) (d : Nat) (f : State → State) : State :=
  s.onTimer t (fun u => f (u.armAt t ((s.deadline t).getD 0 + d)))

/-! ### Grants (R434, R435) -/

/-- Cost classes. -/
def clsGasp : Nat := 0
def clsLog : Nat := 1
def clsFlash : Nat := 2
def clsZero : Nat := 3

/-- The cost of a class in µJ. -/
def grantCost (c : Nat) : Nat := if c = clsGasp then 600 else if c = clsLog then 20 else if c = clsFlash then 500 else 5000

/-- HELD, GRANTS and GASPREADY follow the grants outstanding and E. -/
def State.gaugeShow (s : State) : State :=
  let held := (s.lamp.grants.map grantCost).sum
  let s1 := (s.put LA_GHELD_HELD held).put LA_GHELD_GRANTS s.lamp.grants.length
  s1.put LA_LSTAT_GASPREADY (decide (held + 600 ≤ 1000 * s1.get LA_GAUGE_E)).toNat

/-- Whether a request would be granted (R435). -/
def State.grantable (s : State) (c : Nat) : Bool :=
  decide (c ≠ clsGasp) &&
    decide (600 + s.get LA_GFLOOR_KEEP * 1000 + s.get LA_GHELD_HELD + grantCost c ≤ 1000 * s.get LA_GAUGE_E)

/-- A grant request (R435): whether it is granted; a refused one starts nothing and sets GRANT_REFUSED. -/
def State.grant (s : State) (c : Nat) : Bool × State :=
  if s.grantable c then (true, (s.updLamp (fun l => { l with grants := l.grants ++ [c] })).gaugeShow)
  else (false, s.put LA_LSTAT_GRANT_REFUSED 1)

/-- R435: the end of a granted burst. -/
def execGrantComplete (c : Fin 4) (s : State) : Out :=
  .next (if s.lamp.grants.contains c.val then (s.updLamp (fun l => { l with grants := l.grants.erase c.val })).gaugeShow else s)

/-! ### Store and charger (R427, R432, R433) -/

/-- The charge target in mV (R437). -/
def State.vmax (s : State) : Nat := 3000 + 20 * min 100 (s.get LA_LCTL_VMAX)

/-- The charger's current in mA; below 1.60 V at most 5 mA (R427). -/
def State.chargeCurrent (s : State) : Nat :=
  let i := 5 * min 10 (s.get LA_LCTL_CHGI)
  if s.get LA_CAP_VSTORE < 1600 then min 5 i else i

/-- Whether the charger from VINT runs (R427). -/
def State.chargeShow (s : State) : State :=
  s.put LA_LSTAT_CHARGING (s.supply.vaux && s.get LA_LCTL_CHGI != 0 && decide (s.get LA_CAP_VSTORE < s.vmax)).toNat

/-- E for a capacitance in mF and a voltage in mV (R432). -/
def gaugeEnergy (c v : Nat) : Nat := 45 * c * (v * v - 2560000) / 100000000

/-- E follows the measured voltage (R432). -/
def State.gaugeAt (s : State) (v : Nat) : State :=
  (((s.putFit LA_CAP_VSTORE v).putFit LA_GAUGE_E (gaugeEnergy (s.get LA_CAP_C) v)).gaugeShow).chargeShow

/-- R432: the gauge recomputes E from VSTORE, measured as `v` mV, every 1 ms while VAUX is valid and every 1 s in LAMP-ONLY. -/
def execGaugeUpdate (v : Nat) (s : State) : Out :=
  .next (s.every .gauge s.gaugePeriod (fun s => if s.lamp.powered then s.gaugeAt v else s))

/-- R433: a 100 mV rise took `t` µs; `overlap`: a load burst overlapped it. -/
def execCapMeasureComplete (t : Nat) (overlap : Bool) (s : State) : Out :=
  let v := s.get LA_CAP_VSTORE
  .next (if s.lamp.powered && s.on LA_LSTAT_CHARGING && decide (1600 ≤ v) && decide (v + 100 ≤ s.vmax) && !overlap && s.lamp.grants.isEmpty then
    let c := divOpen (s.chargeCurrent * t) 100000
    ((((s.putFit LA_CAP_C c).put LA_LSTAT_CAPVALID 1).put LA_LSTAT_STORE_SMALL (decide (c < 400)).toNat).gaugeAt v)
  else s)

/-- R427: VSTORE reaches the charge target; the charger stops. -/
def execChargeTargetReached (s : State) : Out :=
  .next (if s.on LA_LSTAT_CHARGING then s.gaugeAt s.vmax else s)

/-! ### Harvest (R428, R429) -/

/-- LSTAT.PATH (R437). -/
def pathNone : Nat := 0
def pathStart : Nat := 1
def pathMain : Nat := 2
def pathFall : Nat := 3

/-- The harvest path for the store at `v` mV and HVIN at `h` mV (R428, R429). -/
def harvestPath (lstart : Bool) (v h : Nat) : Nat :=
  if v < 1800 then (if (if lstart then 25 else 330) < h then pathStart else pathNone)
  else if h < 100 then (if lstart then pathStart else pathNone)
  else if h ≤ v + 200 then pathMain
  else if h ≤ 5500 then pathFall
  else pathNone

/-- The path in use; the main path samples HVIN every 16 s. -/
def State.pathPut (s : State) (p : Nat) : State :=
  let s1 := s.put LA_LSTAT_PATH p
  if p ≠ pathMain then s1.disarm .ocv else if s.armed .ocv then s1 else s1.arm .ocv (16000 * ms)

/-- R429: VSTORE or HVIN crosses a threshold; they stand at `vstore` and `hvin` mV. -/
def execHarvestPathSelect (vstore hvin : Nat) (s : State) : Out :=
  .next (if s.lamp.powered then s.pathPut (harvestPath (s.on LA_LSTAT_LSTART) vstore hvin) else s)

/-- R429: the main path samples the open-circuit voltage of HVIN, `v` mV. -/
def execHarvestOcvSample (v : Nat) (s : State) : Out :=
  .next (s.every .ocv (16000 * ms) (fun s => s.updLamp (fun l => { l with ocv := v })))

/-- The path in use charges the store: up to VMAX (R427). -/
def State.harvesting (s : State) : Bool := s.get LA_LSTAT_PATH != pathNone && decide (s.get LA_CAP_VSTORE < s.vmax)

/-- The voltage the main path regulates HVIN to, in 0.01 mV: MPPF % of the open-circuit voltage (R429). -/
def State.harvestPoint (s : State) : Nat := min 90 (max 50 (s.get LA_LCTL_MPPF)) * s.lamp.ocv

/-! ### Writes (R425, R437) -/

/-- A write to a Lamp register. Only lock-step pairs write LCTL, GFLOOR and the retention memory. -/
def State.lampWrite (s : State) (m : Master) (r : RegId) (v : Word) (i : Nat) : State :=
  if (r = .LA_LCTL ∨ r = .LA_GFLOOR ∨ r = .LA_RETAIN) ∧ !s.lockstep m then s.put LA_LSTAT_WRITE_DENIED 1
  else (s.regWrite r v i).gaugeShow.chargeShow

/-! ### Power of the domain (R426) -/

/-- R426: VSTORE and VINT both fall below 1.60 V. -/
def execLampPowerLoss (s : State) : Out :=
  .next (if s.supply.vaux then s else (s.pathPut pathNone).updLamp (fun l => { l with powered := false, rtc := s.rtcNow }))

/-- R426: the domain starts once a rail rises above 1.80 V; `present`: it finds its validity pattern; `lstart`: the strap (R428). Without the
pattern every item takes its reset value and LAMP_LOST is set. -/
def execLampStart (present lstart : Bool) (s : State) : Out :=
  .next (if s.lamp.powered then s
  else
    let s1 := if present then s.updLamp (fun l => { l with powered := true, rtcAt := s.now })
      else { s.resetRegs (· == .lamp) with lamp := { LampU.reset with rtcAt := s.now } }
    ((s1.put LA_LSTAT_LSTART lstart.toNat).gaugeShow).chargeShow)

end Sys2Proof.Machine
end

