-- ==== Sys2Proof/Machine/Assay.lean ====
section
/-! DEFINITION. The Assay: corrections, windows, energy registers, saves, pulse outputs, S0 inputs (R242 to R267). Normalised samples are
integers over 2^53, products of two over 2^106. -/

namespace Sys2Proof.Machine

/-- Change the Assay's internal state. -/
def State.updAssay (s : State) (f : AssayU → AssayU) : State := { s with assay := f s.assay }

/-- The Assay event source (R247, R249, R264). -/
def assaySource : Nat := 512

/-- The nearest integer to `n / d`; which one at a tie is open. -/
def nearOpen (n : Int) (d : Nat) : Int :=
  let q := (2 * n + d) / (2 * d)
  if (2 * n + d) % (2 * d) = 0 ∧ !Config.roundUp n.natAbs d then q - 1 else q

/-- The nearest integer to the square root of `n / d`; which one at a tie is open. -/
def rootOpen (n d : Nat) : Nat :=
  let q := 4 * n / d
  let r := isqrt q
  if r * r * d = 4 * n ∧ r % 2 = 1 ∧ !Config.roundUp n d then r / 2 else (r + 1) / 2

/-- A register takes a signed number; one that it cannot hold leaves a free value there. -/
def State.putInt (s : State) (f : Fld) (v : Int) (i : Nat := 0) : State :=
  if satInt v = v then s.put f (wordOfInt v).toNat i
  else
    let (w, s1) := s.free
    s1.put f w.toNat i

/-! ### Samples (R244) -/

/-- The normalised sample of channel `c` with code `x`, before its delay, and whether it was clamped. -/
def State.assayCorrect (s : State) (c : Nat) (x : BitVec 24) : Int × Bool :=
  let ofs := (BitVec.ofNat 24 (s.get AS_CHOFS_OFS c)).toInt
  let u := (x.toInt - ofs) * sgn (s.rdw .AS_CHGAIN c)
  if u > 2 ^ 53 then (2 ^ 53, true) else if u < -(2 ^ 53) then (-(2 ^ 53), true) else (u, false)

/-- Take a sample of every channel: the corrected values join the histories, a clamp sets CLIP. -/
def State.assayTake (s : State) (x : Vector (BitVec 24) 8) : State :=
  s.each (List.finRange 8) (fun s c =>
    let (u, clip) := s.assayCorrect c.val x[c]
    let s1 := s.updAssay (fun a => { a with hist := upd a.hist c (fun l => (u :: l).take 16) })
    if clip then s1.orPut AS_ASTAT_CLIP (2 ^ c.val) else s1)

/-- The delayed sample of channel `c` (R244): a whole number of samples exactly; how the filter interpolates between samples, and how it gives a sample
ahead of its time, is open. -/
def State.assayDelayed (s : State) (c : Nat) : Int :=
  let l := s.assay.hist.toList.getD c []
  let d := (BitVec.ofNat 16 (s.get AS_PHDLY_DLY c)).toInt
  if 0 ≤ d ∧ d % 8192 = 0 then l.getD (d / 8192).toNat 0 else Config.assayDelayed l d

/-- A quarter of the fundamental period back in a fundamental's history (R245). -/
def quarterBack (l : List Int) (freq : Nat) : Int :=
  if freq ≠ 0 ∧ 20000000 % freq = 0 then l.getD (20000000 / freq) 0 else Config.quarterDelayed l freq

/-- The phase voltages (R244). -/
def State.assayV (s : State) (x : Nat) : Int := s.assayDelayed x - s.assayDelayed 3

/-! ### Masters (R251 to R253) -/

/-- A master register. -/
def State.master (s : State) (r : Nat) : Nat := s.get AS_EMLO_MASTER r + 2 ^ 32 * s.get AS_EMHI_MASTER r

/-- EWIN and WRAPS of master `r` (R253). -/
def State.windowShow (s : State) (r : Nat) : State :=
  let k := 10 ^ min 9 (s.get AS_WCFG_WUNIT)
  let m := s.master r
  let w := min 255 (m / (k * 2 ^ 32))
  (s.put AS_EWIN_EWIN (m / k % 2 ^ 32) r).wrw .AS_WRAPS (setBits (s.rdw .AS_WRAPS (r / 4)) (8 * (r % 4)) 8 w) (r / 4)

/-- Set a master. -/
def State.putMaster (s : State) (r m : Nat) : State :=
  ((s.put AS_EMLO_MASTER (m % 2 ^ 32) r).put AS_EMHI_MASTER (m / 2 ^ 32 % 2 ^ 32) r).windowShow r

/-- The constant of pulse output `o` for master `r`: TPO0 to TPO7 in ENERGY mode (R261), ASSAY_P as output 8 (R260). -/
def State.pulseConst (s : State) (o r : Nat) : Nat :=
  if o < 8 then
    (if s.on AS_TPOCTL_EN o && s.get AS_TPOCTL_MODE o == 0 && s.get AS_TPOCTL_SRC o == r then s.get AS_TPOCONST_CONST o else 0)
  else if s.on AS_MCFG_PEN && s.get AS_MCFG_PSRC == r then s.get AS_PCONST_PCONST
  else 0

/-- BACKLOG and OVERFLOW of a pulse output (R262). -/
def State.backlog (s : State) (o : Nat) : Nat := if o < 8 then s.get AS_TPOSTAT_BACKLOG o else s.get AS_PSTAT_BACKLOG
def State.putBacklog (s : State) (o v : Nat) : State :=
  if o < 8 then s.put AS_TPOSTAT_BACKLOG v o else s.put AS_PSTAT_BACKLOG v
def State.pulseOverflow (s : State) (o : Nat) : State :=
  (if o < 8 then s.put AS_TPOSTAT_OVERFLOW 1 o else s.put AS_PSTAT_OVERFLOW 1).raise 514

/-- Queue `k` pulses (R262); at a brown-out none are queued any more (R257). -/
def State.queuePulses (s : State) (o k : Nat) : State :=
  let n := s.backlog o + k
  if !s.supply.vaux then s
  else if n > 65535 then (s.putBacklog o 65535).pulseOverflow o else s.putBacklog o n

/-- `n` counts were added to master `r`: the pulse accumulators follow (R260, R261). -/
def State.pulsesFor (s : State) (r n : Nat) : State :=
  s.each (List.finRange 9) (fun s o =>
    let k := s.pulseConst o.val r
    if n = 0 ∨ k = 0 then s
    else
      let t := s.assay.acc[o] + n * k
      (s.updAssay (fun a => { a with acc := upd a.acc o (fun _ => t % 10 ^ 10) })).queuePulses o.val (t / 10 ^ 10))

/-- Add energy in 2^-32 count to master `r` (R252). -/
def State.energyAdd (s : State) (r : Fin 16) (e : Nat) : State :=
  let t := s.assay.residues[r] + e
  let s1 := s.updAssay (fun a => { a with residues := upd a.residues r (fun _ => t % 2 ^ 32) })
  if t < 2 ^ 32 then s1 else (s1.putMaster r.val (s1.master r.val + t / 2 ^ 32)).pulsesFor r.val (t / 2 ^ 32)

/-- An energy sum in 2^-32 count: a sum of watts over 2^106 and 8,000 samples a second, in units of 0.36 J; the part below 2^-32 count is
rounded as the implementation does. -/
def energyOf (sum : Int) : Nat := divOpen sum.natAbs (2 ^ 74 * 2880)

/-- Direct a sum into the import or export register of a phase (R251): `kind` 0 active, 2 reactive. -/
def State.direct (s : State) (phase kind : Nat) (sum : Int) : State :=
  let r := 4 * phase + kind + if sum < 0 then 1 else 0
  if h : r < 16 then s.energyAdd ⟨r, h⟩ (energyOf sum) else s

/-- The end of an interval (R251). -/
def State.intervalEnd (s : State) : State :=
  let a := s.assay
  let s1 := s.each (List.finRange 3) (fun s x => (s.direct x.val 0 a.sp[x]).direct x.val 2 a.sq[x])
  let s2 := (s1.direct 3 0 a.sp.toList.sum).direct 3 2 a.sq.toList.sum
  s2.updAssay (fun a => { a with ivCount := 0, sp := Vector.replicate 3 0, sq := Vector.replicate 3 0 })

/-! ### Saves (R255 to R259) -/

/-- Kinds of a record. -/
def savePeriodic : Nat := 1
def saveEarly : Nat := 2
def saveGasp : Nat := 3
def saveOrderly : Nat := 4
def saveCal : Nat := 5

/-- SAVEINT as it acts (R267). -/
def State.saveint (s : State) : Nat := min 60000 (max 100 (s.get AS_SAVEINT_SAVEINT))

/-- The slot that holds the latest valid record, slot 1 when `true`. -/
def LampU.latestSlot (l : LampU) : Option Bool :=
  match l.slot0, l.slot1 with
  | some a, some b => some (decide (a.seq < b.seq))
  | some _, none => some false
  | none, some _ => some true
  | none, none => none

/-- The latest valid record. -/
def LampU.latest (l : LampU) : Option SaveRec :=
  match l.latestSlot with
  | some b => if b then l.slot1 else l.slot0
  | none => none

/-- Put a record into a slot, or empty it. -/
def State.putSlot (s : State) (slot : Bool) (r : Option SaveRec) : State :=
  s.updLamp (fun l => if slot then { l with slot1 := r } else { l with slot0 := r })

/-- EA_IMP_T + EA_EXP_T. -/
def State.activeTotal (s : State) : Nat := s.master 12 + s.master 13

/-- Close a record (R255): the interval ends, and the record takes the values of this boundary. A save in progress is abandoned and its slot
reused; the slot it goes to holds no valid record until the save completes. -/
def State.closeRecord (s : State) (kind : Nat) : State :=
  let s1 := s.intervalEnd
  let slot := match s1.lamp.latestSlot with
    | some b => !b
    | none => false
  let body : SaveRec :=
    { seq := (s1.lamp.latest.map (fun r => r.seq)).getD 0 + 1, kind := kind, rtc := s1.rtcNow
      saveint := BitVec.ofNat 32 s1.saveint, pmax := s1.rdw .AS_PMAX, calstamp := s1.assay.calstamp
      masters := Vector.ofFn (fun r : Fin 16 => s1.master r.val), residues := s1.assay.residues
      s0 := Vector.ofFn (fun n : Fin 4 => s1.rdw .AS_S0CNT n.val) }
  let s2 := (s1.putSlot slot none).updAssay (fun a => { a with save := some ⟨body, slot, false, s1.now⟩, closeDue := none })
  if kind = saveEarly then s2.bumpSat AS_SAVESTAT_EARLYCNT else s2

/-- A save completes with a valid record: PERIODIC counts anew from its close (R256), and one that fell due during the save does not close. -/
def State.saveValid (s : State) (v : SaveU) : State :=
  let s1 := (s.putSlot v.slot (some v.body)).put AS_SAVESTAT_LASTKIND v.body.kind
  let s2 := s1.updAssay (fun a => { a with
    save := none, savedTotal := v.body.masters[12] + v.body.masters[13]
    closeDue := if a.closeDue = some savePeriodic then none else a.closeDue })
  if s2.assay.running then s2.armAt .savePeriod (v.closedAt + s2.saveint * 225000) else s2

/-- A save fails (R255): FAILCNT, and the record before stays the latest. A PERIODIC save whose time has come closes at the next boundary. -/
def State.saveFails (s : State) : State :=
  let s1 := ((s.updAssay (fun a => { a with save := none })).bumpSat AS_SAVESTAT_FAILCNT).raise 513
  if s1.assay.running && !s1.armed .savePeriod then s1.updAssay (fun a => { a with closeDue := some (a.closeDue.getD savePeriodic) }) else s1

/-- An ORDERLY record closes (R259): it takes the values of the last boundary, and its write and read-back follow (R255). -/
def State.orderly (s : State) : State := if s.assay.running then s.closeRecord saveOrderly else s

/-- Before a reset that takes the Assay an ORDERLY record closes and completes (R259): whether its two read-backs agree is open (R255). -/
def State.orderlyDone (s : State) : State :=
  let s1 := s.orderly
  match s.assay.running, s1.assay.save with
  | true, some v =>
    let (w, s2) := s1.free
    if bit w 0 || bit w 1 then s2.saveValid v else s2.saveFails
  | _, _ => s1

/-- R255: the record written is read back; `ok`: without a difference. -/
def execSaveReadback (ok : Bool) (s : State) : Out :=
  .next (match s.assay.save with
    | none => s
    | some v =>
      if ok then s.saveValid v
      else if v.rewritten then s.saveFails
      else s.updAssay (fun a => { a with save := some { v with rewritten := true } }))

/-- R256: 0.9 × SAVEINT after the close of the last completed record; the record closes at the next sample boundary. -/
def execPeriodic (s : State) : Out :=
  .next (s.onTimer .savePeriod (fun s =>
    if s.assay.running then s.updAssay (fun a => { a with closeDue := some (a.closeDue.getD savePeriodic) }) else s))

/-- An EARLY save is due (R256): U, above 0, has reached 0.9 × SAVEINT × PMAX. -/
def State.earlyDue (s : State) : Bool :=
  let u := s.activeTotal - s.assay.savedTotal
  s.assay.save.isNone && u != 0 && decide (s.saveint * s.get AS_PMAX_PMAX ≤ 400 * u)

/-- A word of a calibration block. -/
def calWord (b : List Byte) (off : Nat) : Word := BitVec.ofNat 32 (leNat ((b.drop off).take 4))

/-- The results that QGAIN and QOFS correct (R246, R503): those of the other results are reserved. -/
def calResults : List Nat := List.range 11 ++ [12, 13, 14]

/-- The calibration block's register images (R371) act. -/
def State.calApply (s : State) (b : List Byte) (arb : Nat) : State :=
  let put (s : State) (r : RegId) (off i : Nat) : State := s.wrw r (calWord b off &&& BitVec.ofNat 32 r.reg.exv) i
  let s1 := put (put (put (put (put s .AS_MCFG 0 0) .AS_SAVEINT 4 0) .AS_PMAX 8 0) .AS_PCONST 12 0) .AS_ZXCFG 16 0
  let s2 := s1.each (List.range 8) (fun s c =>
    put (put (put s .AS_CHGAIN (0x20 + 12 * c) c) .AS_CHOFS (0x24 + 12 * c) c) .AS_PHDLY (0x28 + 12 * c) c)
  let s3 := s2.each calResults (fun s q => put (put s .AS_QGAIN (0x80 + 8 * q) q) .AS_QOFS (0x84 + 8 * q) q)
  s3.updAssay (fun a => { a with cal := none, calstamp := arb })

/-! ### S0 inputs (R263, R264) -/

/-- CHKWIN as it acts. -/
def State.chkwin (s : State) (n : Nat) : Nat := min 1440 (s.get AS_S0CTL_CHKWIN n)

/-- A check window of input `n` begins. -/
def State.s0Restart (s : State) (n : Fin 4) : State :=
  let s1 := s.updAssay (fun a => { a with s0win := a.s0win.set n.val ⟨s.master (s.get AS_S0CTL_CHKR n.val), s.rdw .AS_S0CNT n.val⟩ n.isLt })
  if s1.chkwin n.val = 0 then s1.disarm (.s0Check n.val) else s1.arm (.s0Check n.val) (s1.chkwin n.val * 60000 * ms)

/-- DEB of an input in ticks: 0 acts as 1 ms, above 50 as 50 (R263). -/
def State.debounce (s : State) (n : Nat) : Nat := min 50 (max 1 (s.get AS_S0CTL_DEB n)) * ms

/-- An S0 pin at an instant, at the level `e` tells: a new level begins when the pin went to it. -/
def S0PinU.see (u : S0PinU) (e : S0Edge) (now deb : Nat) : S0PinU :=
  if e.high = u.high then u
  else
    let at' := max u.since (now - e.held)
    ⟨e.high, at', decide (u.since + deb ≤ at')⟩

/-- R263: an S0 input's pin is seen at a level; one held for DEB is the debounced level, and a pulse counts when the inactive level before was held as long. -/
def execS0Pulse (n : Fin 4) (active : S0Edge) (s : State) : Out :=
  let k := n.val
  .next (if s.assay.running then
    let u := s.assay.s0pin[n].see active s.now (s.debounce k)
    let s1 := s.updAssay (fun a => { a with s0pin := a.s0pin.set n.val u n.isLt })
    let level := u.high != s.on AS_S0CTL_POL k
    if s1.on AS_S0STAT_LEVEL k != level && decide (u.since + s.debounce k ≤ s.now) then
      let s2 := s1.put AS_S0STAT_LEVEL level.toNat k
      if level && u.ready && s2.on AS_S0CTL_EN k then s2.bump AS_S0CNT_CNT k else s2
    else s1
  else s)

/-- One check of input `n` (R264). -/
def State.s0Check (s : State) (n : Fin 4) : State :=
  let w := s.assay.s0win[n]
  let da : Int := (s.master (s.get AS_S0CTL_CHKR n.val) : Int) - w.master
  let ds : Int := ((s.rdw .AS_S0CNT n.val - w.count).toNat * s.get AS_S0WGT_WGT n.val : Nat)
  let dev : Int := if da = 0 then (if ds = 0 then 0 else 2147483647) else satInt (nearOpen ((ds - da) * 10000) da.natAbs)
  let s1 := (s.put AS_S0CHK_DEV (wordOfInt dev).toNat n.val).bumpSat AS_S0STAT_CHECKS n.val
  let far := 10000 * (ds - da).natAbs > da.natAbs * s.get AS_S0TOL_TOL n.val + 10000 * s.get AS_S0WGT_WGT n.val
  let s2 := if far then (s1.put AS_S0STAT_S0_MISMATCH 1 n.val).raise assaySource else s1
  s2.s0Restart n

/-- R264: the end of a check window. -/
def execS0Check (n : Fin 4) (s : State) : Out :=
  .next (s.onTimer (.s0Check n.val) (fun s => if s.assay.running && s.chkwin n.val != 0 then s.s0Check n else s))

/-! ### Start and stop (R258, R259) -/

/-- Restore the masters, residues and S0 counts. Before the read that latches it a high word reads as restored (R503). -/
def State.restore (s : State) (masters residues : Vector Nat 16) (s0 : Vector Word 4) : State :=
  let s1 := s.each (List.finRange 16) (fun s r =>
    let t := s.putMaster r.val masters[r]
    { t with latched := sparseSet (RegId.AS_EMHI.key r.val 0) (RegId.AS_EMHI.resetWord r.val 0) (t.rdw .AS_EMHI r.val) t.latched })
  let s2 := s1.each (List.finRange 4) (fun s n => s.put AS_S0CNT_CNT s0[n].toNat n.val)
  s2.updAssay (fun a => { a with residues := residues })

/-- The start of the Assay (R258): the first sample boundary follows 125 µs later, and the filters begin tuned to the nominal frequency (DESIGN CHOICE,
log entry 103). A start from a GASP or ORDERLY record is clean whatever came after it, so UNSAVED of R31 is not reported where a last gasp fails before
the first record after such a start (DESIGN CHOICE, log entry 98). PERIODIC counts from the close of the record, by the Lamp clock; without one from the
start. -/
def State.assayStart (s : State) : State :=
  let s1 := s.updAssay (fun a => { AssayU.reset with
    running := true, tune := s.nomFreq, s0pin := a.s0pin.map (fun u => ⟨u.high, s.now, false⟩), cal := a.cal, calstamp := a.calstamp
    snapDue := a.snapDue })
  let s2 := match s1.lamp.latest with
    | some r =>
      let t := s1.restore r.masters r.residues r.s0
      if r.kind = saveGasp ∨ r.kind = saveOrderly then t
      else
        let loss := (nearOpen (r.saveint.toNat * r.pmax.toNat : Nat) 360).toNat
        ((t.put AS_ASTAT_UNSAVED 1).put AS_LOSS_LOSS (loss % 2 ^ 32) 0).put AS_LOSS_LOSS (loss / 2 ^ 32) 1
    | none => (s1.restore (Vector.replicate 16 0) (Vector.replicate 16 0) (Vector.replicate 4 0)).put AS_ASTAT_RECORD_LOST 1
  let past := (s1.lamp.latest.map (fun r => (s1.rtcNow - r.rtc) * 250000000 / 32768)).getD 0
  let s3 := (s2.updAssay (fun a => { a with savedTotal := s2.activeTotal })).arm .savePeriod (s2.saveint * 225000 - past)
  let s4 := (s3.each (List.range 9) (fun s o => s.putBacklog o 0)).arm .assaySample (125 * us)
  s4.each (List.finRange 4) (fun s n =>
    (if s.chkwin n.val = 0 then s else s.put AS_S0STAT_S0_RESTART 1 n.val).s0Restart n)

/-- R258: the Assay starts, once the mixed-signal die is out of reset and clocked. -/
def execAssayStart (s : State) : Out :=
  .next (if s.assay.running || !s.supply.vaux || s.supply.place != 0 || decide (s.supply.step < 2) then s else s.assayStart)

/-- The Assay stops metering. -/
def State.assayStop (s : State) : State := ((s.updAssay (fun a => { a with running := false })).disarm .savePeriod).disarm .assaySample

/-- R259: the 25 MHz oscillator is lost. -/
def execClkLost (s : State) : Out :=
  .next (if s.assay.running then ((s.put AS_ASTAT_CLK_LOST 1).raise 515).orderly.assayStop else s)

/-! ### Windows (R245 to R249) -/

/-- The reference channel: the first of A, B and C with ZXOK (R248). -/
def State.refChannel (s : State) : Option Nat := (List.range 3).find? (fun x => s.bitOf AS_ASTAT_ZXOK x)

/-- A change of the reference channel sets REFCHG (R248). -/
def State.refShow (s : State) : State :=
  match s.refChannel with
  | none => s
  | some x =>
    let s1 := match s.assay.ref with
      | some y => if x = y then s else s.put AS_ASTAT_REFCHG 1
      | none => s
    s1.updAssay (fun a => { a with ref := some x })

/-- QOFS of a quantity, over 2^31. -/
def State.qofs (s : State) (q : Nat) : Int := sgn (s.rdw .AS_QOFS q)

/-- An RMS result (R246): the mean square over 2^106 less the offset. -/
def State.rmsResult (s : State) (q : Nat) (sum : Int) (k : Nat) : State :=
  let g := s.get AS_QGAIN_GAIN q
  s.putFit AS_RES_VALUE (rootOpen (g * g * (sum - s.qofs q * k * 2 ^ 75).toNat) (k * 2 ^ 106)) q

/-- A power result (R246). -/
def State.powerResult (s : State) (q : Nat) (sum : Int) (k : Nat) : State :=
  s.putInt AS_RES_VALUE (nearOpen (s.get AS_QGAIN_GAIN q * (sum + s.qofs q * k * 2 ^ 75)) (k * 2 ^ 106)) q

/-- A result as a signed number. -/
def State.resInt (s : State) (q : Nat) : Int := sgn (s.rdw .AS_RES q)

/-- A power factor in Q1.31 (R245); the rounding of the quotient is open. -/
def powerFactor (p : Int) (sv : Nat) : Int :=
  if sv = 0 then 0
  else
    let m := divOpen (p.natAbs * 2 ^ 31) sv
    if p < 0 then -(min m (2 ^ 31) : Nat) else (min m (2 ^ 31 - 1) : Nat)

/-- FREQ (R245): the whole reference periods of the window over the time between its first and last reference crossings. -/
def State.freqResult (s : State) : State :=
  let a := s.assay
  if s.refChannel.isNone then s.put AS_RES_VALUE 0 24
  else match a.firstCross, a.lastCross with
    | some (n1, d1), some (n2, d2) =>
      let t := n2 * d1 - n1 * d2
      if a.periods = 0 ∨ t = 0 then
        let (w, s1) := s.free
        s1.put AS_RES_VALUE w.toNat 24
      else s.putFit AS_RES_VALUE (divOpen (a.periods * 80000000 * d1 * d2) t) 24
    | _, _ =>
      let (w, s1) := s.free
      s1.put AS_RES_VALUE w.toNat 24

/-- The two fundamentals of angle result `k` (R245): the lag of B behind A, C behind B, A behind C, then of each current behind its voltage. -/
def anglePair (k : Nat) : Nat × Nat := if k < 3 then (k, (k + 1) % 3) else (k - 3, k)

/-- The angle results (R245): lags of the filtered fundamentals; without a reference they hold (R248). -/
def State.angleResults (s : State) : State :=
  if s.refChannel.isNone then s
  else s.each (List.range 6) (fun s k =>
    let f (x : Nat) : List Int := s.assay.fund.toList.getD x []
    s.put AS_RES_VALUE (Config.fundamentalLag (f (anglePair k).1) (f (anglePair k).2) s.assay.tune).toNat (25 + k))

/-- At a window close the resonant filters are retuned to its frequency (R245); without one they keep their tuning. -/
def State.retuneFilters (s : State) : State :=
  if s.get AS_RES_VALUE 24 = 0 then s else s.updAssay (fun a => { a with tune := s.get AS_RES_VALUE 24 })

/-- Every result of R245 from the window's sums. -/
def State.windowResults (s : State) : State :=
  let a := s.assay
  let k := a.count
  let s1 := s.each (List.finRange 8) (fun s c => s.rmsResult c.val a.squares[c] k)
  let s2 := s1.each (List.finRange 3) (fun s x => (s.powerResult (8 + x.val) a.active[x] k).powerResult (12 + x.val) a.reactive[x] k)
  let s3 := s2.putInt AS_RES_VALUE (s2.resInt 8 + s2.resInt 9 + s2.resInt 10) 11
  let s4 := s3.putInt AS_RES_VALUE (s3.resInt 12 + s3.resInt 13 + s3.resInt 14) 15
  let s5 := s4.each (List.range 3) (fun s x =>
    s.putFit AS_RES_VALUE (divOpen (s.get AS_RES_VALUE x * s.get AS_RES_VALUE (4 + x)) 1000000) (16 + x))
  let s6 := s5.putFit AS_RES_VALUE (s5.get AS_RES_VALUE 16 + s5.get AS_RES_VALUE 17 + s5.get AS_RES_VALUE 18) 19
  let s7 := s6.each (List.range 4) (fun s x =>
    s.putInt AS_RES_VALUE (powerFactor (s.resInt (8 + x)) (s.get AS_RES_VALUE (16 + x))) (20 + x))
  s7.freqResult.angleResults.retuneFilters

/-- A new window begins; the crossing that closed the last one is its first. -/
def State.windowRestart (s : State) (first : Option (Nat × Nat)) : State :=
  s.updAssay (fun a =>
    { a with crossings := 0, firstCross := first, lastCross := first, periods := 0, count := 0, squares := Vector.replicate 8 0,
             active := Vector.replicate 3 0, reactive := Vector.replicate 3 0 })

/-- The results in an Assay values record. -/
def assayRecordResults : List Nat := [0, 1, 2, 4, 5, 6, 8, 9, 10, 11, 12, 13, 14, 15, 24]

/-- Publish the window (R249). -/
def State.windowPublish (s : State) (first : Option (Nat × Nat)) : State :=
  let s1 := (s.windowResults.bump AS_WNUM_WNUM).raise assaySource
  (s1.record 52 0 7 (s1.get AS_WNUM_WNUM % 256) (assayRecordResults.map (fun q => s1.rdw .AS_RES q))).windowRestart first

/-- A close event (R249): a window with fewer than 16 samples goes on to the next. -/
def State.windowClose (s : State) (first : Option (Nat × Nat)) : State :=
  if s.assay.count < 16 then (s.put AS_ASTAT_SHORTWIN 1).updAssay (fun a => { a with crossings := 0 })
  else s.windowPublish first

/-- A Headframe slot fires with A_ASSAY (R249). -/
def State.assaySlot (s : State) : State :=
  if s.assay.running && s.on AS_MCFG_WINSRC then s.windowClose none else s

/-! ### The sample boundary (R242, R247, R251) -/

/-- The resonant filters take the sample (R245): filters 0 to 2 the phase voltages, 3 to 5 the phase currents. The histories hold the longest quarter
period that ZXTO admits. -/
def State.assayFilter (s : State) : State :=
  s.each (List.finRange 6) (fun s k =>
    let x := if k.val < 3 then s.assayV k.val else s.assayDelayed (k.val + 1)
    let (y, r) := Config.resonate s.assay.tune x s.assay.res[k]
    s.updAssay (fun a => { a with res := a.res.set k.val r k.isLt, fund := upd a.fund k (fun l => (y :: l).take 2048) }))

/-- Add a sample to the window's and the interval's sums (R245, R251). -/
def State.assaySum (s : State) : State :=
  let sq (x : Int) : Int := x * x
  let qs : List Int := [sq (s.assayV 0), sq (s.assayV 1), sq (s.assayV 2), sq (s.assayDelayed 3), sq (s.assayDelayed 4), sq (s.assayDelayed 5),
    sq (s.assayDelayed 6), sq (s.assayDelayed 7)]
  let s1 := s.updAssay (fun a =>
    { a with count := a.count + 1, ivCount := a.ivCount + 1, tick := a.tick + 1
             squares := Vector.ofFn (fun c : Fin 8 => a.squares[c] + qs.getD c.val 0) })
  s1.each (List.finRange 3) (fun s x =>
    let p := s.assayV x.val * s.assayDelayed (4 + x.val)
    let f (x : Nat) : List Int := s.assay.fund.toList.getD x []
    let q := quarterBack (f x.val) s.assay.tune * (f (3 + x.val)).headD 0
    let ps : Int := s.get AS_QGAIN_GAIN (8 + x.val) * (p + s.qofs (8 + x.val) * 2 ^ 75)
    let qs : Int := s.get AS_QGAIN_GAIN (12 + x.val) * (q + s.qofs (12 + x.val) * 2 ^ 75)
    s.updAssay (fun a =>
      { a with active := upd a.active x (· + p), reactive := upd a.reactive x (· + q), sp := upd a.sp x (· + ps), sq := upd a.sq x (· + qs) }))

/-- The crossing detector of channel `x` at a sample `v`, the `n`-th, with hysteresis `h` (R247): its new state, and whether it crosses. -/
def CrossU.step (u : CrossU) (v h : Int) (n now : Nat) : CrossU × Bool :=
  let u1 := if u.last < 0 ∧ 0 ≤ v then
    { u with zeroNum := (n - 1) * (v - u.last).toNat + (-u.last).toNat, zeroDen := (v - u.last).toNat } else u
  if u1.low ∧ h ≤ v then ({ u1 with last := v, low := false, since := 0, tick := some now }, true)
  else ({ u1 with last := v, low := u1.low || decide (v ≤ -h), since := u1.since + 1 }, false)

/-- Detect the crossings of one channel. -/
def State.crossStep (s : State) (x : Fin 3) : State × Bool :=
  let (u, hit) := s.assay.cross[x].step (s.assayV x.val) (s.get AS_ZXCFG_ZXHYS * 2 ^ 43 : Nat) s.assay.tick s.now
  let s1 := s.updAssay (fun a => { a with cross := a.cross.set x.val u x.isLt })
  (if hit then s1.orPut AS_ASTAT_ZXOK (2 ^ x.val) else s1, hit)

/-- A reference crossing at instant `t`: the window's count of crossings and periods. -/
def AssayU.refCross (a : AssayU) (t : Nat × Nat) : AssayU :=
  { a with crossings := a.crossings + 1, periods := if a.firstCross.isNone then 0 else a.periods + 1
           firstCross := a.firstCross.or (some t), lastCross := some t }

/-- The close of a record that is due at this boundary (R256, R257, R259). -/
def State.closeDue (s : State) : State :=
  match s.assay.cal, s.assay.closeDue with
  | _, some 3 => (s.closeRecord saveGasp).assayStop
  | some (b, arb), _ => (s.closeRecord saveCal).calApply b arb
  | none, some k => if s.assay.save.isNone then s.closeRecord k else s
  | none, none => if s.earlyDue then s.closeRecord saveEarly else s

/-- The words of the snapshot image and the registers they take (R254, R267). -/
def snapSources : List (RegId × Nat) :=
  (List.range 31).map (fun q => (.AS_RES, q)) ++ [(.AS_WNUM, 0)] ++ (List.range 16).map (fun r => (.AS_EMLO, r))
    ++ (List.range 16).map (fun r => (.AS_EMHI, r)) ++ (List.range 16).map (fun r => (.AS_EWIN, r))
    ++ (List.range 4).map (fun k => (.AS_WRAPS, k)) ++ (List.range 4).map (fun n => (.AS_S0CNT, n))

/-- A snapshot that is due (R254). -/
def State.snapTake (s : State) : State :=
  if s.assay.snapDue then
    let s1 := s.each snapSources (fun s p => s.wrw .AS_SNAPIMG (s.rdw p.1 p.2) ((p.1.addr p.2 0 - 0x40400400) / 4))
    ((s1.put AS_ASTAT_SNAPVALID 1).bump AS_SNAPNUM_SNAPNUM).updAssay (fun a => { a with snapDue := false })
  else s

/-- The crossing detectors of the three voltage channels take a sample; whether the reference channel crosses in it (R247). -/
def State.crossSteps (s : State) : State × Bool :=
  let (s2, ha) := s.crossStep 0
  let (s3, hb) := s2.crossStep 1
  let (s4, hc) := s3.crossStep 2
  let s5 := s4.refShow
  (s5, match s5.refChannel with
    | some k => [ha, hb, hc].getD k false
    | none => false)

/-- One sample boundary. A window that closes at it closes under the settings from before a calibration block that acts from the next sample (R259). -/
def State.assaySample (s : State) (x : Vector (BitVec 24) 8) : State :=
  let (s5, hit) := (((s.assayTake x).assayFilter).assaySum).crossSteps
  let u := s5.assay.cross.toList.getD (s5.refChannel.getD 0) ⟨0, false, 0, 1, 0, none⟩
  let t := (u.zeroNum, u.zeroDen)
  let s6 := if hit then s5.updAssay (fun a => a.refCross t) else s5
  let s7 := if hit || decide (200 ≤ s6.assay.ivCount) then s6.intervalEnd else s6
  let s8 := if 64000 ≤ s7.assay.count then s7.put AS_ASTAT_WIN_CAP 1 else s7
  let s9 := if hit && !s8.on AS_MCFG_WINSRC && decide (s8.get AS_MCFG_NCYCM1 < s8.assay.crossings) then s8.windowClose (some t)
    else if 64000 ≤ s8.assay.count then s8.windowPublish none
    else s8
  s9.closeDue.snapTake

/-- 125 µs from one sample boundary to the next (R242). -/
def samplePeriod : Nat := 125 * us

/-- R242: a sample boundary with the codes `x` of the eight channels. -/
def execAssaySample (x : Vector (BitVec 24) 8) (s : State) : Out :=
  .next (s.onTimer .assaySample (fun s =>
    if s.assay.running then
      let s1 := s.assaySample x
      if s1.assay.running then s1.arm .assaySample samplePeriod else s1
    else s))

/-- ZXTO in samples (R247). -/
def State.zxtoSamples (s : State) : Nat := 8 * min 1000 (max 10 (s.get AS_ZXCFG_ZXTO))

/-- R247: no crossing of channel `x` within ZXTO of the last. -/
def execZxLost (x : Fin 3) (s : State) : Out :=
  .next (if s.assay.running && s.bitOf AS_ASTAT_ZXOK x.val && decide (s.zxtoSamples ≤ s.assay.cross[x].since) then
    let s1 := ((s.put AS_ASTAT_ZXOK (s.get AS_ASTAT_ZXOK - 2 ^ x.val)).orPut AS_ASTAT_ZX_LOST (2 ^ x.val)).raise assaySource
    let s2 := if s1.refChannel.isNone then s1.put AS_RES_VALUE 0 24 else s1
    s2.refShow
  else s)

/-! ### Registers and pulses -/

/-- A write to an Assay register: SNAP by any firmware (R265); EXV fields refuse (R3). -/
def State.assayWrite (s : State) (r : RegId) (v : Word) (i : Nat) : State :=
  let s1 := if r = .AS_ACTL ∧ AS_ACTL_SNAP.of v = 1 then s.updAssay (fun a => { a with snapDue := true }) else s
  let s2 := s1.regWrite r v i
  if r.reg.exv != 0 then s2.put AS_ASTAT_WRITE_DENIED 1 else s2

/-- The pulse width of an output in ticks. -/
def State.pulseWidth (s : State) (o : Nat) : Nat :=
  min 80 (max 2 (if o < 8 then s.get AS_TPOCTL_PW o else s.get AS_MCFG_PW)) * ms

/-- R260: an output with a queued pulse starts it, at least 2 × PW after the start of the last. -/
def execPulseStart (o : Fin 9) (s : State) : Out :=
  let free := match s.assay.pulseAt[o] with
    | some t => decide (t + 2 * s.pulseWidth o.val ≤ s.now)
    | none => true
  .next (if s.assay.running && s.backlog o.val != 0 && free then
    (s.putBacklog o.val (s.backlog o.val - 1)).updAssay (fun a => { a with pulseAt := a.pulseAt.set o.val (some s.now) o.isLt })
  else s)

/-- The level of a pulse output now, in ENERGY mode and of ASSAY_P. -/
def State.pulseLevel (s : State) (o : Fin 9) : Bool :=
  match s.assay.pulseAt[o] with
  | some t => decide (s.now < t + s.pulseWidth o.val)
  | none => false

/-- The level of a pulse output in ZX mode (R261): high for 1 ms from each positive crossing. -/
def State.zxLevel (s : State) (o : Nat) : Bool :=
  match (s.assay.cross.toList.getD (s.get AS_TPOCTL_SRC o) ⟨0, false, 0, 1, 0, none⟩).tick with
  | some t => s.assay.running && s.supply.vaux && s.on AS_TPOCTL_EN o && s.get AS_TPOCTL_MODE o == 2 && decide (s.now < t + ms)
  | none => false

/-- A result's magnitude (R245): the powers, the power factors and their sums are signed, the rest are unsigned. -/
def State.resAbs (s : State) (q : Nat) : Nat :=
  if (8 ≤ q ∧ q ≤ 15) ∨ (20 ≤ q ∧ q ≤ 23) then (s.resInt q).natAbs else s.get AS_RES_VALUE q

/-- The frequency of a pulse output in VALUE mode, Hz over TPOCONST (R261): min(10 kHz, 10 kHz × |result| / TPOCONST); none where it emits
nothing. -/
def State.valueRate (s : State) (o : Nat) : Option (Nat × Nat) :=
  let k := s.get AS_TPOCONST_CONST o
  let r := s.resAbs (s.get AS_TPOCTL_SRC o)
  if s.assay.running && s.supply.vaux && s.on AS_TPOCTL_EN o && s.get AS_TPOCTL_MODE o == 1 && k != 0 then some (10000 * min r k, k) else none

/-- At a brown-out the pulse outputs stop, the backlogs are discarded and the last gasp is due at the next sample boundary (R257). -/
def State.lastGasp (s : State) : State :=
  let s1 := s.each (List.range 9) (fun s o => s.putBacklog o 0)
  s1.updAssay (fun a => { a with closeDue := some saveGasp, save := none, pulseAt := Vector.replicate 9 none })

end Sys2Proof.Machine
end

