-- ==== Sys2Proof/Machine/Reset.lean ====
section
/-! DEFINITION. The reset scopes (R408, R409, R418 to R420), their causes and counters (R410, R411), watchdogs (R412), RSTCTL (R413), and the
Foreman's reset demand (R312, R325). -/

namespace Sys2Proof.Machine

/-! ### What a reset returns to its reset value -/

/-- The timers of a Drift pair. -/
def Timer.ofPair : Timer → Option Nat
  | .checkpoint n | .pairFail n | .takeover n | .watchdog n | .warn n => some n
  | _ => none

/-- The timers of the mixed-signal die (R13). -/
def Timer.onMixed : Timer → Bool
  | .fbCheck _ _ | .blank _ | .softStep _ | .settle _ | .safen | .brakeRelease _ | .brakeHold _ | .brakeEngage _ | .offPulse _
  | .savePeriod | .s0Check _ | .assaySample | .fmSample | .fmSeal | .fmTest | .fmClock | .mirror _ | .brakeHour _ | .wakeGrid | .mesh | .gauge | .ocv => true
  | _ => false

/-- The timers of the Lamp domain (R424). -/
def Timer.onLamp : Timer → Bool
  | .mesh | .gauge | .ocv => true
  | _ => false

/-- The timers of the units outside the device warm scope: Winder, Banksman, Uhla (R408). -/
def Timer.onLink : Timer → Bool
  | .synthLock _ | .realign | .winderRamp | .tripRepeat | .aditEnd | .grantRetry => true
  | _ => false

/-- Keep some timers. -/
def State.keepTimers (s : State) (p : Timer → Bool) : State := { s with timers := s.timers.filter (fun t => p t.1) }

/-- Return the registers that `p` names, and what is latched of them, to their reset values. -/
def State.resetRegsWhere (s : State) (p : RegId → Nat → Bool) : State :=
  let keep (e : Nat × Word) : Bool :=
    match regOfKey e.1 with
    | some (r, i, _) => !p r i
    | none => false
  { s with regs := s.regs.filter keep, latched := s.latched.filter keep }

/-- The registers of one pair (R408). -/
def RegId.ofPair : RegId → Bool
  | .DR_PCTL | .DR_PSTATE | .DR_PFAULT | .DR_PSTAMP | .DR_PCOUNT | .DR_PLOG | .DR_OWNRGN | .RS_WDTCTL | .RS_WDTKICK => true
  | _ => false

/-- One pair's unit and TCM after a reset; when its last test passed is kept for TESTINT. -/
def State.pairUnitReset (s : State) (n : Nat) : State :=
  ((s.setTcm n none).updPair n (fun p => { DriftPairU.reset with lastTest := p.lastTest, tcm := p.tcm })).each (List.range 16)
    (fun s k => s.updPair k (fun p => if p.mate = some n then { p with mate := none } else p))

/-! ### The scopes -/

/-- The channels of the blocks that pair `n` owns, whose debug halt may have ended (R172, R173). -/
def State.regateOwned (s : State) (n : Nat) : State :=
  s.each ((List.range 8).filter (fun b => s.on BLK_BLKCTL_OWNED b && s.get BLK_BLKCTL_OWNER b == n)) State.regateBlock

/-- One pair's warm reset (R408): its registers but FAILCNT, its unit, its timers, its waiting requests; the pair goes to START (R283). -/
def State.pairWarm (s : State) (n : Nat) : State :=
  let f := s.get DR_PCOUNT_FAILCNT n
  let s1 := (s.resetRegsWhere (fun r i => r.ofPair && i == n)).put DR_PCOUNT_FAILCNT f n
  let s2 := ((s1.pairUnitReset n).keepTimers (fun t => t.ofPair != some n)).updPlan (fun u =>
    { u with held := u.held.filter (fun q => masterPair q.master != some n) })
  ((s2.updPair n (fun p => { p with afterTest := pairStart })).setPst n pairStart).regateOwned n

/-- The levels, directions and pulls at the GPIO pads now (R419): a held bank keeps what it held. -/
def State.padsNow (s : State) : List Word :=
  let held (g : Nat) : Bool := s.bitOf RS_PADREL_HELD (4 + g / 32)
  let old (k : Nat) : Word := s.supply.padCfg.getD k 0
  (List.range 64).map (fun g => if held g then old g else s.rdw .GP_GPIOCFG g)
    ++ (List.range 2).map (fun w => if held (32 * w) then old (64 + w) else s.rdw .GP_GPIOOUT w)

/-- The power stage's part on the control die after a reset; the Canary windows, the Cage's stamps and the levels at the output gates stay. -/
def State.stageReset (s : State) : State :=
  let gate (o : OutU) : OutU := { OutU.reset with pin := o.pin, reached := o.reached, src := o.src, snk := o.snk }
  let chans := s.power.chans.map (fun u =>
    { ChanU.reset with latchedAt := u.latchedAt, netOff := u.netOff, safeSet := u.safeSet, hi := gate u.hi, lo := gate u.lo })
  let blocks := s.power.blocks.map (fun b => { b with exit := none, asked := none, tripped := none })
  { s with power := { PowerU.reset with chans := chans, blocks := blocks, wins := s.power.wins } }

/-- The units of a device warm reset, without their registers (R408). -/
def State.deviceUnits (s : State) : State :=
  let s1 := { s with
    head := HeadU.reset, plan := { PlanU.reset with lastAt := s.now }, intc := IntcU.reset, seam := SeamU.reset
    pick := { PickU.reset with set := s.pick.set }, sense := SenseU.reset, host := { HostU.reset with ptpAt := s.now } }
  (s1.each (List.range 16) State.pairUnitReset).stageReset

/-- After a reset the turn-offs follow the bindings that are left (R182), the output gates take the safe states (R172, R409), FAULT_N follows (R284, R326),
and FINE shows the clock that the Winder still gives (R155, R408). -/
def State.afterReset (s : State) : State :=
  let s1 := (s.put PW_GSTAT_FINE s.fine.toNat).each (List.range 8) State.followTurnoff
  s1.regateAll.fmOutputs.faultLine

/-- A cold reset: the gates hold both outputs off until firmware writes SAFE (R172). -/
def State.safeForget (s : State) : State :=
  { s with power := { s.power with chans := s.power.chans.map (fun u => { u with safeSet := false }) } }

/-- The registers a device warm reset returns to their reset values: the control die's outside Winder, Banksman and Uhla; WARM-STICKY fields and
RELEASED of UHLA are kept (R408, R420, R421). -/
def State.deviceRegs (s : State) : State :=
  let uhla := s.rdw .RS_RSTREL &&& 0x00404000#32
  let fails := (List.range 16).map (fun n => s.get DR_PCOUNT_FAILCNT n)
  let s1 := (s.resetRegs (· == .control)).wrw .RS_RSTREL uhla
  s1.each (List.range 16) (fun s n => s.put DR_PCOUNT_FAILCNT (fails.getD n 0) n)

/-- The module is in NIGHT (R405). -/
def State.night (s : State) : Bool := s.get PR_PWRSTAT_STATE == 1

/-- Pair `n` is held in reset in NIGHT (R402). -/
def State.nightHeld (s : State) (n : Nat) : Bool :=
  s.night && s.get PR_PWRCTL_NPAIR0 != n && s.get PR_PWRCTL_NPAIR1 != n

/-- A device warm reset (R408, R409, R418); in NIGHT only the NIGHT pairs start (R402). -/
def State.deviceWarm (s : State) : State :=
  let pads := s.padsNow
  let s1 := (s.deviceRegs.deviceUnits).keepTimers (fun t => t.onMixed || t.onLink)
  let s2 := { s1 with supply := { s1.supply with step := 5, scope := scopeDevice, resetAt := s.now, pairAt := none, padCfg := pads } }
  (s2.each ((List.range 16).filter (fun n => !s.nightHeld n)) (fun s n => s.setPst n pairStart)).afterReset

/-- The fuses and Lamp items that Banksman registers show (R356). -/
def State.bankShow (s : State) : State :=
  let b := s.bank
  let s1 := (((s.put BK_BKSTAT_LCSTATE b.lc).put BK_BKSTAT_TAMPERED b.tampered.toNat).put BK_BKSTAT_ZEROISING b.zeroising.toNat).put
    BK_BKSTAT_LAMP_LOST s.lamp.lost.toNat
  let s2 := (s1.put BK_BKSTAT_STEPDIGIT b.stepDigit).put BK_BKSTAT_STEPLETTER b.stepLetter
  let filled (lo : Nat) : Nat := maskOf ((List.range 32).filter (fun k => (b.slots.toList.getD (lo + k) none).isSome))
  let s3 := (s2.put BK_SLOTMAP0_FILLED (filled 0)).put BK_SLOTMAP1_FILLED (filled 32)
  let s4 := (s3.put BK_TAMPSTAT_MESH s.lamp.meshBreach.toNat).put BK_TAMPSTAT_ACK_NEEDED s.lamp.ackNeeded.toNat
  let s5 := (s4.put BK_TAMPCNT_ENTRIES (min 65535 s.lamp.entries)).put BK_TAMPCNT_GLITCHES (min 65535 s.lamp.glitches)
  let arb (t : Nat) : Nat := b.arb.toList.getD t 0
  let s6 := (((s5.put EX_ARBSTEP0_ARB1 (arb 0)).put EX_ARBSTEP0_ARB2 (arb 1)).put EX_ARBSTEP0_ARB3 (arb 2)).put EX_ARBSTEP0_ARB4 (arb 3)
  let s7 := (s6.put EX_ARBSTEP1_ARB5 (arb 4)).put EX_ARBSTEP1_ARB6 (arb 5)
  s7.put EX_EXSTAT_ACTIVEB (maskOf ((List.range 6).filter (fun t => b.activeB.toList.getD t false)))

/-- What the Banksman loses with the control die: everything but OTP, key store, images, marks and lists. The slot of an image write in progress is
left empty (R373). An open Adit session closes (R355). -/
def State.bankReset (s : State) : State :=
  { s with bank := { s.bank with
      queue := [], lastStart := none, running := none, accepted := [], replies := [], writing := none, waitMarks := [], adit := none, tap := 0
      tapOut := 0, tapPins := 0, zeroise := false, zeroWait := false, returnEntry := false, resetAsked := false, uart := false, uartIn := []
      fuse := if s.bank.fuse = some lcScrap then s.bank.fuse else none } }

/-- A control-die cold reset (R408, R420): the mixed-signal die and its registers are unchanged (R13), but that the power state is RUN. -/
def State.controlCold (s : State) : State :=
  let adit := s.bank.adit.isSome
  let s1 := s.resetRegs (fun c => c == .control || c == .link || c == .sticky)
  let s2 := (s1.deviceUnits.safeForget.bankReset).keepTimers Timer.onMixed
  let s3 := (s2.clearMem 0x10000000 0x800000).clearMem 0x80000000 0x20000000
  let s4 := { s3 with
    uhla := UhlaU.reset, winder := { WinderU.reset with since := s.now }, fm := { s3.fm with resetDemand := false }
    supply := { s3.supply with step := 2, scope := scopeControl, resetAt := s.now, pairAt := none, padCfg := [], request := none, bootFail := false } }
  let s5 := (((s4.put RS_RSTSTAT_RST_DENIED 0).put RS_RSTSTAT_ADDR_UNMAPPED 0).put PR_PWRSTAT_STATE 0).put PR_PWRSTAT_PENDING 0
  let s6 := (s5.put RS_RSTSTAT_LASTPAIR 0).arm (.synthLock synSys) lockTicks
  let s7 := s6.bankShow.winsFollow s
  ((if adit then s7.put BK_ADITSTAT_CLOSEWHY 4 else s7).afterReset)

/-- A full cold reset (R408, R420): the control die and the mixed-signal die. SEALREF is NV (R329), UNSAVED and RECORD_LOST stay until they are
acknowledged (R258). -/
def State.fullCold (s : State) : State :=
  let strap := s.get FM_SEAL_SEALREF
  let uns := s.get AS_ASTAT_UNSAVED
  let lost := s.get AS_ASTAT_RECORD_LOST
  let s1 := s.controlCold
  let s2 := (s1.resetRegs (· == .mixed)).keepTimers Timer.onLamp
  let s3 := ((s2.put FM_SEAL_SEALREF strap).put AS_ASTAT_UNSAVED uns).put AS_ASTAT_RECORD_LOST lost
  let s4 := { s3 with
    fm := FmU.reset, assay := { AssayU.reset with cal := s.assay.cal, calstamp := s.assay.calstamp }
    power := PowerU.reset, supply := { s3.supply with step := 1, scope := scopeFull, resetAt := s.now }
    timers := s3.timers ++ fmTimers.map (fun (t : Timer × Nat) => (t.1, s.now + t.2)) }
  s4.afterReset

/-! ### Causes (R410, R411) -/

/-- The counter of a cause (R410). -/
def causeCounter (cause : Nat) : Nat :=
  if cause ≤ 6 then cause else if cause = 7 then 6 else 7

/-- Count a reset (R411). -/
def State.countReset (s : State) (cause : Nat) : State :=
  let k := causeCounter cause
  let old := bits (s.rdw .RS_RSTCNT (k / 2)) (16 * (k % 2)) 16
  let s1 := s.wrw .RS_RSTCNT (setBits (s.rdw .RS_RSTCNT (k / 2)) (16 * (k % 2)) 16 (min 65535 (old + 1))) (k / 2)
  s1.bumpSat RS_RSTTOT_TOTAL

/-- LASTCAUSE and LASTSCOPE (R421). -/
def State.lastReset (s : State) (cause scope : Nat) : State :=
  (s.put RS_RSTSTAT_LASTCAUSE cause).put RS_RSTSTAT_LASTSCOPE scope

/-- A reset is in progress: the start-up has not come to firmware, nor to a wait of the Banksman's own (R337, R348, R436). -/
def State.resetting (s : State) : Bool :=
  decide (s.supply.step < 6) && !s.bank.zeroWait && !(s.supply.step == 5 && (s.lc == lcScrap || s.bank.uart))

/-- A cause of a full cold, control-die cold or device warm reset (R410). While a reset of that scope or a wider one is in progress it merges and is
counted; of two causes in one tick with one scope LASTCAUSE keeps the lower. -/
def State.reset3 (s : State) (scope cause : Nat) : State :=
  let s1 := s.countReset cause
  if s.resetting ∧ s.supply.scope ≤ scope then
    (if s.supply.resetAt = s.now ∧ s.supply.scope = scope then s1.put RS_RSTSTAT_LASTCAUSE (min cause (s1.get RS_RSTSTAT_LASTCAUSE)) else s1)
  else if scope = scopeFull then ((if s1.supply.vaux then s1.orderlyDone else s1).fullCold).lastReset cause scope
  else if scope = scopeControl then (s1.controlCold).lastReset cause scope
  else (s1.deviceWarm).lastReset cause scope

/-- A cause of a pair warm reset (R410). A pair in START merges it; of two causes in one tick LASTCAUSE keeps the lower. -/
def State.resetPair (s : State) (n cause : Nat) : State :=
  let s1 := s.countReset cause
  let c := if s.supply.pairAt = some s.now then min cause (s.get RS_RSTSTAT_LASTCAUSE) else cause
  if s.resetting ∨ s.pst n = pairOff then s1
  else if s.pst n = pairStart then (if s.supply.pairAt = some s.now then s1.put RS_RSTSTAT_LASTCAUSE c else s1)
  else
    let s2 := ((s1.pairWarm n).lastReset c scopePair).put RS_RSTSTAT_LASTPAIR n
    { s2 with supply := { s2.supply with pairAt := some s.now } }

/-! ### RSTCTL and the watchdogs (R412, R413) -/

/-- RST_DENIED (R423). -/
def State.rstDenied (s : State) : State :=
  if s.on RS_RSTSTAT_RST_DENIED then s else (s.put RS_RSTSTAT_RST_DENIED 1).raise 997

/-- A write to RSTCTL (R413). -/
def State.rstctlWrite (s : State) (m : Master) (v : Word) : State :=
  let k := RS_RSTCTL_PAIR.of v
  if RS_RSTCTL_KEY.of v != 0x5A17 || !s.lockstep m then s.rstDenied
  else if RS_RSTCTL_SCOPE.of v = 1 then s.reset3 scopeDevice 8
  else if RS_RSTCTL_SCOPE.of v = 2 && (masterPair m == some k || s.pst k == pairFailed) then s.resetPair k 8
  else s.rstDenied

/-- A write to WDTCTL of pair `n` by its own cores (R412): EN stays 1 once set. -/
def State.wdtctlWrite (s : State) (m : Master) (n : Nat) (v : Word) : State :=
  if masterPair m != some n then s.rstDenied
  else
    let en := s.get RS_WDTCTL_EN n
    (s.regWrite .RS_WDTCTL (if en = 1 then RS_WDTCTL_EN.into v 1 else v) n).wdtFollow n

/-- A write to WDTKICK of pair `n` (R412). -/
def State.wdtkickWrite (s : State) (m : Master) (n : Nat) (v : Word) : State :=
  if masterPair m != some n || RS_WDTKICK_KEY.of v != 0xC3A5 then s.rstDenied
  else if s.armed (.watchdog n) then s.wdtStart n
  else s

/-- R412: half the period without a kick. -/
def execWarned (n : Pair) (s : State) : Out :=
  .next (s.onTimer (.warn n.val) (fun s => (s.put RS_WDTCTL_WARNED 1 n.val).raise 994))

/-- R410: the period without a kick. -/
def execWatchdogTimeout (n : Pair) (s : State) : Out :=
  .next (s.onTimer (.watchdog n.val) (fun s => s.resetPair n.val 4))

/-- R410: a compare-lane disagreement in the Banksman pair. -/
def execBanksmanLockstepFault (s : State) : Out := .next (s.reset3 scopeControl 5)

/-! ### The Foreman's reset demand (R312, R325) -/

/-- A failed self-test: the demands, and once the outputs are off the reset demand (R325, R410). -/
def State.selfTest (s : State) (pass : Bool) : State :=
  if pass then s else s.selfTestFail.reset3 scopeControl 6

/-- R325: the 10 ms self-test: the monitors, the window inputs, the parameter store. -/
def execForemanSelfTest (monitors windows store : Bool) (s : State) : Out :=
  .next (s.fmEvery .fmTest (10 * ms) (fun s => s.selfTest (monitors && windows && store)))

/-- R312: the 1 ms check of the three clocks, in parts per million of their nominal rates. -/
def execClockCheck (rc canary crystal : Nat) (s : State) : Out :=
  .next (s.fmEvery .fmClock ms (fun s => s.selfTest (!(clocksDiffer rc canary || clocksDiffer rc crystal || clocksDiffer canary crystal))))

/-- R313: a sample of the monitors, the output nodes and the readback pins, every 15.625 µs; `frac`: when in the time since the last sample the sign of the
phase measured changed, if it did, in 2^-16; `halves`: FA and FB agree (R312). -/
def execMonitorSample (a b c : BitVec 12) (frac : Fin 65536) (node : BitVec 5) (krb brb : BitVec 2) (halves : Bool) (s : State) : Out :=
  let d := (s.deadline .fmSample).getD 0
  .next (s.fmEvery .fmSample (sampleAfter d - d) (fun s => (s.monitorSample a b c frac.val node krb brb).selfTest halves))

end Sys2Proof.Machine
end

