-- ==== Sys2Proof/Machine/PairFault.lean ====
section
/-! DEFINITION. Pair faults, recoveries, comparator tests and TEST windows (R285 to R293), and NIGHT (R402, R403). -/

namespace Sys2Proof.Machine

/-! ### NIGHT (R402, R403) -/

/-- Hold a pair in reset: a pair warm reset that ends in OFF (R283, R420). -/
def State.holdPair (s : State) (n : Nat) : State := (s.pairWarm n).setPst n pairOff

/-- The Pick engines lose their power (R402): LOADED becomes 0, the engines' memories are lost. -/
def State.pickPowerOff (s : State) : State :=
  let s1 := s.each (List.range 96) (fun s e => s.put PK_PCTL_LOADED 0 e)
  { s1 with pick := { s1.pick with engs := Vector.replicate 96 EngU.reset, loads := [] } }

/-- The registers of a Pick engine. -/
def RegId.ofEngine (r : RegId) : Bool := r.reg.n1 == 96 && r.reg.base / 0x10000 == 0x4030

/-- Entry to NIGHT (R402): the registers of the engines return to their reset values (R420). -/
def State.nightEnter (s : State) : State :=
  let s1 := s.pickPowerOff.resetRegsWhere (fun r _ => r.ofEngine)
  let s2 := (((s1.put SN_CTL_REFEN 0).put SN_CTL_REFRDY 0).disarm .refReady).each (List.range 120) State.chanNotReady
  let s3 := (s2.synthStop synConv).synthStop synPwm
  let s4 := { s3 with uhla := { s3.uhla with lanes := 1 } }.put PR_PWRSTAT_STATE 1 |>.winsFollow s
  s4.each ((List.range 16).filter s4.nightHeld) State.holdPair

/-- The synthesizers that are enabled are powered again (R403). -/
def State.nightSynths (s : State) : State :=
  s.each [synPwm, synConv] (fun s n => if s.on WI_SCTL_EN n && !s.on WI_SSTAT_LOCKED n then s.arm (.synthLock n) lockTicks else s)

/-- Exit from NIGHT (R403): every pair that was held runs START; after a fault of the NIGHT pairs, every pair does. -/
def State.nightExit (s : State) (fault : Bool) : State :=
  let held := s.nightHeld
  let s1 := ({ s with uhla := { s.uhla with lanes := 4 } }.put PR_PWRSTAT_STATE 0).nightSynths.winsFollow s
  (s1.each ((List.range 16).filter (fun n => fault || held n)) State.pairWarm).raise 992

/-! ### Detection (R285, R287) -/

/-- The pairs whose fault was detected in this tick, in rising order, and the spares not yet assigned to an earlier fault. -/
def State.freshFaults (s : State) : List Nat :=
  (List.range 16).filter (fun n => (s.pairU n).faulted && (s.pairU n).faultAt == s.now && !s.on DR_PSTATE_UNPROTECTED n)
def State.freeSpares (s : State) : List Nat :=
  (s.pairsIn pairSpare).filter (fun k => (List.range 16).all (fun n => (s.pairU n).mate != some k || s.freshFaults.contains n))

/-- Assign the spares of this tick, the lowest failed pair to the lowest spare (R287). -/
def State.assignSpares (s : State) : State :=
  let fs := s.freshFaults
  let ks := s.freeSpares
  s.each ((List.range fs.length)) (fun s i =>
    let n := fs.getD i 0
    match ks[i]? with
    | some k => s.updPair n (fun p => { p with mate := some k })
    | none => s.updPair n (fun p => { p with mate := none }))

/-- CAUSE and LANE of a fault (R298). -/
def State.putFault (s : State) (n cause lane : Nat) : State :=
  let s1 := (s.put DR_PFAULT_CAUSE cause n).put DR_PSTAMP_STAMP s.stamp n
  if cause = 1 ∨ cause = 4 then s1.put DR_PFAULT_LANE lane n else s1

/-- A fault is detected in a pair in SERVICE (R285): its outputs are held, it is isolated, FAULT_N is driven. A fault while UNPROTECTED takes no
spare (R297). -/
def State.detect (s : State) (n cause lane : Nat) : State :=
  let s1 := s.putFault n cause lane
  let s2 := s1.updPair n (fun p => { p with faulted := true, faultAt := s.now, storing := none, inPlace := false, mate := none })
  ((s2.assignSpares.faultLine).arm (.pairFail n) 25).arm (.takeover n) us

/-- A pair enters FAILED (R291, R300). -/
def State.enterFailed (s : State) (n : Nat) : State :=
  let s1 := (s.bumpSat DR_PCOUNT_FAILCNT n).updPair n (fun p => { p with faulted := false, inPlace := false, afterTest := pairTest })
  ((s1.setPst n pairFailed).raise (592 + n)).sf2Drift s

/-- With no pair in SERVICE, RECOVERY or SPLIT: in NIGHT the module leaves it and every pair runs START (R403); otherwise a device warm reset
(R410). -/
def State.lastPairGone (s : State) : State :=
  if (s.pairsIn pairService ++ s.pairsIn pairRecovery ++ s.pairsIn pairSplit).isEmpty then
    (if s.night then s.nightExit true else s.reset3 scopeDevice 5)
  else s

/-- What a recovery by pair `n` has copied when it fails (R287): the TCM once the journal is read, and its entries applied once they have been checked. -/
def State.recoveryCopied (s : State) (n cause : Nat) : State :=
  match (s.pairU n).mate with
  | none => s
  | some f =>
    let s1 := if 6 ≤ cause then s.copyTcm f n else s
    (if 7 ≤ cause then s1.applyJournal f n else s1).updPair f (fun p => { p with mate := none })

/-- A failed recovery of pair `n` (R290); its spare is no one's mate from then on. -/
def State.recoveryFailed (s : State) (n cause : Nat) : State :=
  let s1 := ((((s.recoveryCopied n cause).put DR_PCTL_RECOVERY_FAILED 1 n).put DR_PFAULT_CAUSE cause n).put FM_FCAUSE_PAIRFAULT 1).raise 579
  let s2 := s1.each (s1.ownedBy n) State.pulseInhibit
  let s3 := s2.updPair n (fun p => { p with mate := none, core0 := CoreU.reset, log := [], overflow := false, journal := [], egress := 0,
                                            egressCrc := 0, storing := none })
  if cause = 5 then (s3.enterFailed n).lastPairGone else s3.setPst n pairService

/-- A fault is detected in pair `k`: a lane disagreement (`cause` 1, in `lane`), an uncorrectable TCM word (2) or checkpoint buffer (3). In a
recovering spare it is a second fault (R290). -/
def State.pairFault (s : State) (k cause lane : Nat) : State :=
  if s.pst k = pairService ∧ !(s.pairU k).faulted then s.detect k cause lane
  else if s.pst k = pairRecovery then
    let s1 := if cause = 1 then s.put DR_PFAULT_LANE lane k else s
    (s1.put DR_PSTAMP_STAMP s1.stamp k).recoveryFailed k 5
  else s

/-- R285: a lane disagreement (`cause` 0, in `lane`), an uncorrectable TCM word (1) or checkpoint buffer (2) of pair `n`. -/
def execPairFault (n : Pair) (cause : Fin 3) (lane : Fin 1024) (s : State) : Out :=
  .next (s.pairFault n.val (cause.val + 1) lane.val)

/-- R285, R286: 0.1 µs after detection. With no spare assigned, SPARE_EXHAUSTED; the SF2 demand for the pair's blocks follows. -/
def execPairEnterFailed (n : Pair) (s : State) : Out :=
  let k := n.val
  .next (s.onTimer (.pairFail k) (fun s =>
    if (s.pairU k).mate.isSome then s.enterFailed k
    else (((s.put DR_DSTAT_SPARE_EXHAUSTED 1).raise 578).enterFailed k).lastPairGone))

/-- R287, R290: the end of a recovery by pair `n`: `o` 0, the replay's EGRESS and CRC equal the failed pair's; 1, a line with two or more
uncorrectable words; 2, a journal entry whose CRC fails; 3, the replay diverged. A log that overflowed fails it (R290). -/
def execRecoveryComplete (n : Pair) (o : Fin 4) (s : State) : Out :=
  let k := n.val
  .next (if s.pst k = pairRecovery then
    match (s.pairU k).mate with
    | none => s
    | some f =>
      if (s.pairU f).overflow then s.recoveryFailed k 7
      else match o with
        | 0 =>
          let s1 := (s.copyWork f k).checkpointed k
          let s2 := ((s1.updPair k (fun p => { p with mate := none })).updPair f (fun p => { p with mate := none })).setPst k pairService
          ((if (s2.pairU k).core0.waiting.isSome then s2.passMissed k else s2).coreIrq k 0).bumpSat DR_PCOUNT_TAKEOVERS k
        | 1 => s.recoveryFailed k 5
        | 2 => s.recoveryFailed k 6
        | 3 => s.recoveryFailed k 8
  else s)

/-! ### Tests (R292, R293) -/

/-- The Banksman lays the Drift application that was active at the control die's start (R371), in RETURN the diagnostic image, out in a pair's TCM (R377, R409, R417). -/
def State.loadTcm (s : State) (n : Nat) : State :=
  let t : Fin 6 := if s.lc = lcReturn then 5 else 1
  let app := (if s.bank.startB[t] then s.bank.imageB[t] else s.bank.imageA[t]).map (fun i => i.serial)
  s.setTcm n (app.map (fun a => (a, n)))

/-- The Banksman has released the Drift pairs (R347), and no state or work of its own holds them (R337, R348, R436). -/
def State.pairsMayStart (s : State) : Bool :=
  decide (5 ≤ s.supply.step) && s.lc != lcScrap && !s.bank.uart && !s.bank.zeroWait

/-- Firmware runs once no pair is left in START (R406). -/
def State.startDone (s : State) : State :=
  if s.supply.step = 5 ∧ (s.pairsIn pairStart).isEmpty then { s with supply := { s.supply with step := 6 } }.fmOutputs else s

/-- A failed comparator test (R292). -/
def State.testFailed (s : State) (n lane : Nat) : State := (s.putFault n 4 lane).enterFailed n

/-- A pair leaves START (R283, R409). A pair that starts SPLIT runs no test (R292). -/
def State.leaveStart (s : State) (n : Nat) (fail : Option (Fin 1024)) : State :=
  let warm := (s.pairU n).afterTest == pairStart
  let s1 := s.loadTcm n
  let s2 := match (if s.optSplit n then none else fail) with
    | some lane => s1.testFailed n lane.val
    | none => (s1.updPair n (fun p => { p with lastTest := s1.now, afterTest := pairTest })).setPst n (s1.startDest n)
  (if warm then s2.raise 995 else s2).startDone

/-- Core 0 of a joined pair goes on from its frame wait, which returns the frame that is current; before one, from its next (R296). -/
def State.joinResume (s : State) (n : Nat) : State :=
  if (s.pairU n).core0.waiting.isSome then (s.endWait n 0 false s.plan.wasFiller).coreIrq n 0
  else s.updPair n (fun p => { p with missed := some s.plan.wasFiller })

/-- Whether a pair that came from FAILED may leave it after a passed test (R291): its TCM march test passed, FAILCNT is below 2, and it owns no block, as no
spare does (R18). -/
def State.mayLeaveFailed (s : State) (n : Nat) (march : Bool) : Bool :=
  march && decide (s.get DR_PCOUNT_FAILCNT n < 2) && (s.ownedBy n).isEmpty

/-- A passed test of a pair in TEST (R291, R293): to where it came from, for a pair that came from FAILED only when it may leave that state. -/
def State.testPassed (s : State) (n : Nat) (march : Bool) : State :=
  let dest := (s.pairU n).afterTest
  let s1 := s.updPair n (fun p => { p with lastTest := s.now, afterTest := pairTest })
  if dest = pairFailed then
    (if s.mayLeaveFailed n march then s1.setPst n pairSpare
      else (s1.updPair n (fun p => { p with stuck := true })).setPst n pairFailed).raise 580
  else if dest = pairSpare then (s1.setPst n pairSpare).raise 580
  else if dest = pairService then (s1.setPst n pairService).joinResume n
  else s1

/-- R292: a comparator test of pair `n` ends; `fail`: the lane that failed; `march`: its TCM march test passes (R291). -/
def execComparatorTestComplete (n : Pair) (fail : Option (Fin 1024)) (march : Bool) (s : State) : Out :=
  let k := n.val
  let st := s.pst k
  .next (if st = pairStart then (if s.pairsMayStart then s.leaveStart k fail else s)
    else if st = pairTest then
      match fail with
      | some lane =>
        if (s.pairU k).afterTest = pairFailed then
          (((s.putFault k 4 lane.val).updPair k (fun p => { p with stuck := true })).setPst k pairFailed).raise 580
        else (s.testFailed k lane.val).raiseIf ((s.pairU k).afterTest == pairSpare) 580
      | none => s.testPassed k march
    else if (s.pairU k).inPlace then
      match fail with
      | some lane => (s.detect k 4 lane.val).raise 580
      | none => ((s.updPair k (fun p => { p with inPlace := false, lastTest := s.now })).raise 580).coreIrq k 0
    else s)

/-- 4 ns ticks in an hour. -/
def hour : Nat := 3600000 * ms

/-- A TEST window is due for pair `n` (R293): this tick's frame boundary begins frame TESTFRAME. -/
def State.windowDue (s : State) (n : Nat) : Bool :=
  let int := min 168 (max 1 (s.get DR_TESTCTL_TESTINT))
  let since := s.now - (s.pairU n).lastTest
  decide (int * hour ≤ since) && s.plan.madeAt == some s.now && s.get SP_STAT_FRAME == s.get DR_TESTCTL_TESTFRAME
    && (!s.on DR_TESTCTL_NIGHTPREF || s.night || decide ((int + min 48 (s.get DR_TESTCTL_GRACE)) * hour ≤ since))

/-- A serving pair hands its work to the lowest spare `k` after its checkpoint, and is tested (R293). -/
def State.handOver (s : State) (n k : Nat) : State :=
  let s1 := (((s.checkpointed n).moveWork n k).copyWork n k).checkpointed k
  let s2 := s1.setPst k pairService
  (s2.updPair n (fun p => { p with afterTest := pairSpare })).setPst n pairTest

/-- R293: the TEST window of pair `n` opens; not while the Adit port halts the pair, which takes no checkpoint (R297), nor for a FAILED pair whose last
test did not free it (R291). -/
def execTestWindowOpen (n : Pair) (s : State) : Out :=
  let k := n.val
  let st := s.pst k
  .next (if !s.windowDue k || s.on DR_PSTATE_DEBUG k || (st == pairFailed && (s.pairU k).stuck) then s
    else if st = pairSpare ∨ st = pairFailed then (s.updPair k (fun p => { p with afterTest := st })).setPst k pairTest
    else if st = pairService ∧ !(s.pairU k).faulted then
      match s.pairsIn pairSpare with
      | j :: _ => s.handOver k j
      | [] => (s.checkpointed k).updPair k (fun p => { p with inPlace := true })
    else s)

end Sys2Proof.Machine
end

