-- ==== Sys2Proof/Machine/Power.lean ====
section
/-! DEFINITION. Supplies, power states and the start-up up to the option load (R393 to R405, R410, R414 to R419). -/

namespace Sys2Proof.Machine

/-- Change the supply's unit. -/
def State.updSupply (s : State) (f : SupplyU → SupplyU) : State := { s with supply := f s.supply }

/-! ### Requests (R401, R405) -/

/-- PWR_DENIED (R423). -/
def State.pwrDenied (s : State) : State :=
  if s.on PR_PWRSTAT_PWR_DENIED then s else (s.put PR_PWRSTAT_PWR_DENIED 1).raise 993

/-- A write to a power register (R405): only a core of a lock-step pair. -/
def State.powerWrite (s : State) (m : Master) (r : RegId) (v : Word) : State :=
  if !s.lockstep m then s.pwrDenied
  else
    let s1 := s.regWrite r v
    let q := PR_PWRCTL_REQ.of v
    if r = .PR_PWRCTL ∧ q ≠ 0 then
      (s1.updSupply (fun u => { u with request := some q, requestAt := s.now })).put PR_PWRSTAT_PENDING 1
    else s1

/-! ### PARK (R404) -/

/-- The rails turn off from the end of the table of R396 up to rail `k`. -/
def SupplyU.railsOff (u : SupplyU) (k : Nat) : SupplyU := { u with railFrom := Vector.ofFn (fun r : Fin 10 => if r.val < k then u.railFrom[r] else none) }

/-- The rails that are off start, each 10 µs after the one above it (R396): the first of them at tick `t`. -/
def SupplyU.railsOn (u : SupplyU) (t : Nat) : SupplyU :=
  let k := u.railFrom.toList.countP Option.isSome
  { u with railFrom := Vector.ofFn (fun r : Fin 10 => u.railFrom[r].or (some (t + 2500 * (r.val - k)))) }

/-- The control die's rails turn off: everything on it is lost; its release order does not start before the die is powered again. PARK keeps the first
four rails, LAMP-ONLY none (R394, R396). -/
def State.dieOff (s : State) (place : Nat) : State :=
  let s0 := s.controlCold
  let s1 := { s0 with supply := { s0.supply.railsOff (if place = 1 then 4 else 0) with place := place, step := 0 } }.winsFollow s
  ((s1.keepTimers Timer.onMixed).afterReset).lampRate

/-- Entry to PARK: an ORDERLY record, the Drift-channel enables clear, the control die off. -/
def State.parkEnter (s : State) : State :=
  (((s.orderly.assayStop).enablesClear).disarm .safen).dieOff 1

/-- Exit from PARK by wake source `k`: a control-die cold start that counts as no reset (R410); SYS starts at once (R417). -/
def State.parkExit (s : State) (k : Nat) : State :=
  let s1 := (s.put PR_PWRSTAT_LASTWAKE k).updSupply (fun u => { u.railsOn s.now with place := 0, step := 2, scope := scopeControl, resetAt := s.now }) |>.winsFollow s
  ((s1.arm (.synthLock synSys) lockTicks).afterReset).lampRate

/-- A wake source of an enabled kind (R404). -/
def State.wake (s : State) (enabled : Bool) (k : Nat) : State :=
  if s.supply.place = 1 ∧ s.supply.vaux ∧ enabled then s.parkExit k else s

/-- R404: the Lamp clock reaches WAKEAT. -/
def execWakeClock (s : State) : Out :=
  .next (s.wake (s.on PR_WAKECFG_CLKEN && decide (s.get PR_WAKEAT_SECONDS ≤ s.rtcSeconds % 2 ^ 32)) 1)

/-- R404: every monitor phase has been at or above WAKEV % of VNOM for WAKET s without a break. -/
def execWakeGrid (s : State) : Out := .next (s.onTimer .wakeGrid (fun s => s.wake (s.on PR_WAKECFG_GRIDEN) 2))

/-- R410, R404: RESET_N low for 10 µs. -/
def execResetN (s : State) : Out :=
  .next (if s.supply.place = 1 ∧ s.on PR_WAKECFG_RSTEN then s.wake true 3
    else if s.supply.place = 2 then s
    else ((s.updSupply (fun u => { u with place := 0 })).reset3 scopeFull 3).lampRate)

/-! ### The evaluation of a request (R401) -/

/-- NIGHT may be entered. -/
def State.nightAllowed (s : State) : Bool :=
  let a := s.get PR_PWRCTL_NPAIR0
  let b := s.get PR_PWRCTL_NPAIR1
  let fit (n : Nat) : Bool := s.pst n == pairService || s.pst n == pairSpare
  s.allStopped && a != b && fit a && fit b && (s.pst a == pairService || s.pst b == pairService)

/-- A request is settled. -/
def State.requestDone (s : State) : State := (s.updSupply (fun u => { u with request := none })).put PR_PWRSTAT_PENDING 0

/-- R401: the frame boundary of this tick, at which a request made before it is evaluated. A PARK request waits up to 100 ms for the mailbox and the image writer. -/
def execPowerStateChange (s : State) : Out :=
  .next (if s.plan.madeAt ≠ some s.now ∨ s.supply.requestAt = s.now then s else match s.supply.request with
    | none => s
    | some 1 => if !s.night && s.nightAllowed then (s.requestDone.nightEnter).raise 992 else s.requestDone.pwrDenied
    | some 2 =>
      if !s.allStopped then s.requestDone.pwrDenied
      else if s.get EX_EXSTAT_QUEUED = 0 ∧ s.get EX_EXSTAT_IMGBUSY = 0 ∧ s.now ≤ s.supply.requestAt + 100 * ms then s.requestDone.parkEnter
      else if s.supply.requestAt + 100 * ms ≤ s.now then s.requestDone.pwrDenied
      else s
    | some _ => if s.night then s.requestDone.nightExit false else s.requestDone.pwrDenied)

/-! ### VAUX and the rails (R393 to R397) -/

/-- R393: VAUX becomes valid: a full cold start, by power-on or after a brown-out (R410). -/
def execVauxValid (s : State) : Out :=
  .next (if s.supply.vaux then s
  else
    let cause := if s.supply.brownout then 1 else 0
    let s1 := (s.updSupply (fun u => { u with
      vaux := true, brownout := false, place := 0, railFrom := (Vector.replicate 10 none).set 0 (some s.now) })).countReset cause
    ((s1.fullCold.lastReset cause scopeFull).chargeShow).lampRate)

/-- R394: the brown-out monitor asserts: every safety output and pulse release off, the last gasp, the control die without power. -/
def execBrownout (s : State) : Out :=
  .next (if s.supply.vaux then
    let s1 := (s.updSupply (fun u => { u with vaux := false, brownout := true })).put PR_RAILSTAT_BROWNOUT 1
    let s2 := if s1.assay.running then s1.lastGasp else s1
    (s2.dieOff 2).chargeShow
  else s)

/-- The rails powered now (R396): those that have started. -/
def State.railPowered (s : State) (r : Nat) : Bool :=
  s.supply.vaux && (s.supply.railFrom.toList.getD r none).any (fun t => decide (t ≤ s.now))

/-- R397: rail `r` of R396, in its order, outside its limits for 2 µs. -/
def execRailFault (r : Fin 10) (s : State) : Out :=
  .next (if s.railPowered r.val then
    let s1 := s.orPut PR_RAILSTAT_FAULT (2 ^ r.val)
    if r.val < 5 then ((s1.updSupply (fun u => { u with place := 0 })).reset3 scopeFull 2).lampRate else s1.reset3 scopeControl 2
  else s)

/-- R396, R406: the rails come within their limits in sequence, each starting once the one above has been within its limits for 10 µs (their rise times are
left out, log entry 124): the Foreman is released and SYS starts. -/
def execRailsWithinLimits (s : State) : Out :=
  .next (if s.supply.step = 1 ∧ s.supply.vaux then
    let off := s.supply.railFrom.toList.countP Option.isNone
    let s1 := (s.updSupply (fun u => { u.railsOn (s.now + 2500) with step := 2 })).advance (2500 * off)
    s1.arm (.synthLock synSys) lockTicks
  else s)

/-! ### Option block (R414, R415) -/

/-- A field of an option block copy. -/
def optField (b : List Byte) (off n : Nat) : Nat := leNat ((b.drop off).take n)

/-- A copy is valid (R414). -/
def optValid (b : List Byte) : Bool :=
  let nom := optField b 0x10 4
  b.length == 64 && optField b 0x3C 4 == (crc32 (b.take 0x3C)).toNat && optField b 0 1 == 1 && decide (optField b 1 1 ≤ 2)
    && decide (400000 ≤ nom) && decide (nom ≤ 720000) && decide (optField b 0x14 1 < 128) && optField b 0x15 1 == 0
    && ((b.drop 0x18).take 36).all (· == 0)

/-- GEN `x` follows GEN `y`, 1 following 65,535 (R415). -/
def genFollows (x y : Nat) : Bool := x == (if y = 65535 then 1 else y + 1)

/-- Copy B is the newer of two valid copies (R415). -/
def newerB (a b : List Byte) : Bool :=
  let ga := optField a 0x16 2
  let gb := optField b 0x16 2
  if genFollows gb ga then true else if genFollows ga gb then false else decide (ga < gb)

/-- Apply an option block (R415, R421). -/
def State.optApply (s : State) (b : List Byte) (fail fallback : Bool) : State :=
  let s1 := s.each (List.range 16) (fun s j => s.wrw .RS_OPTIMG (BitVec.ofNat 32 (optField b (4 * j) 4)) j)
  let s2 := (s1.put RS_RSTSTAT_OPTFAIL fail.toNat).put RS_RSTSTAT_OPTFALLBACK fallback.toNat
  s2.raiseIf (fail || fallback) 998

/-- R415: the option load ends, 1.2 ms after it began. -/
def execOptionLoadComplete (s : State) : Out :=
  let a := s.supply.optA
  let b := s.supply.optB
  .next (s.onTimer .optLoad (fun s => if s.supply.step = 3 then
    let s1 := match optValid a, optValid b with
      | true, true => s.optApply (if newerB a b then b else a) false false
      | true, false => s.optApply a false true
      | false, true => s.optApply b false true
      | false, false => s.optApply (defaultOption 0) true false
    s1.updSupply (fun u => { u with step := 4 })
  else s))

/-! ### Pads (R419, R422) -/

/-- A write to PAD.RELEASE: each bit written 1 releases its bank; in the tick of a device warm reset the bank is held. -/
def State.padWrite (s : State) (v : Word) : State :=
  if s.supply.resetAt = s.now ∧ s.supply.scope = scopeDevice then s
  else s.put RS_PADREL_HELD (s.get RS_PADREL_HELD &&& (63 ^^^ RS_PADREL_BANK.of v))

end Sys2Proof.Machine
end

