-- ==== Sys2Proof/Machine/Reads.lean ====
section
/-! DEFINITION. What a register reads as: the stored value, the value a rule computes, or the latched partner of a group (R3, R503). -/

namespace Sys2Proof.Machine

/-- The registers that a read of the first register of a group latches (R503). -/
def RegId.partners : RegId → List RegId
  | .HF_ANG => [.HF_TURN]
  | .SN_SLMEAN => [.SN_SLINFO]
  | .SN_MMMIN => [.SN_MMMAX, .SN_MMINFO]
  | .AS_EMLO => [.AS_EMHI]
  | .LA_RTCLO => [.LA_RTCHI]
  | _ => []

/-- A register that reads as its group's latch (R503). -/
def RegId.isPartner : RegId → Bool
  | .HF_TURN | .SN_SLINFO | .SN_MMMAX | .SN_MMINFO | .AS_EMHI | .LA_RTCHI => true
  | _ => false

/-! ### Time of the Exvia checks (R367, R379) -/

/-- 1,000 ppm of a tick in 2^-32 ns (R473). -/
def adjMax : Int := 17179869

/-- The length of a tick in PTP time, 2^-32 ns: 4 ns plus ADJ (R473). What an ADJ beyond 1,000 ppm gives is open. -/
def State.ptpRate (s : State) : Int :=
  let w := s.rdw .ET_PTPADJ
  4 * 2 ^ 32 + (if -adjMax ≤ sgn w ∧ sgn w ≤ adjMax then sgn w else Config.ptpAdjBeyond w)

/-- PTP time runs modulo 2^48 seconds, in 2^-32 ns (R473). -/
def ptpWrap (x : Int) : Nat := (x % (2 ^ 80 * 1000000000)).toNat

/-- PTP time in 2^-32 ns; it stands while the Ethernet unit is in reset (R407, R473). -/
def State.ptpNow (s : State) : Nat :=
  if s.released uEth then ptpWrap ((s.host.ptp : Int) + (s.now - s.host.ptpAt : Nat) * s.ptpRate) else s.host.ptp

/-- PTP time in whole ns. -/
def State.ptpNs (s : State) : Nat := s.ptpNow / 2 ^ 32

/-- PTP time is trusted (R474). -/
def State.trusted (s : State) : Bool := s.on ET_PTPTRUST_TRUSTED

/-- EXSTAT.TIMESRC: 0 PTP trusted, 1 Lamp clock, 2 unknown (R367, R379). -/
def State.timeSrc (s : State) : Nat := if s.trusted then 0 else if s.lamp.rtcSet.isSome then 1 else 2

/-- The tolerance u of R367 in 2^-15 ns: 2 s + 50 µs for each second since the Lamp clock was last set, at most 86,400 s. -/
def State.timeTol (s : State) : Nat :=
  min (2000000000 * 32768 + 50000 * (s.rtcNow - s.lamp.rtcSet.getD 0)) (86400000000000 * 32768)

/-- TIMESTAT.TOL in ms; all ones while the time is unknown. -/
def State.timeTolMs (s : State) : Nat :=
  if s.lamp.rtcSet.isSome then divOpen s.timeTol (32768 * 1000000) else 2 ^ 32 - 1

/-- Minutes left in the Adit session (R356). -/
def State.aditMinutes (s : State) : Nat :=
  match s.bank.adit with
  | some a => divOpen (a.endsAt - s.now) (60000 * ms)
  | none => 0

/-- Whether every slice of TRKIN exists. -/
def State.trkinOk (s : State) (d : Nat) : Bool :=
  decide (s.get HF_TRKIN_SLICEA d ≤ 239) && decide (s.get HF_TRKIN_SLICEB d ≤ 239) && decide (s.get HF_TRKIN_SLICEC d ≤ 239)

/-! ### Shared values (R460, R461) -/

/-- This device's rank. -/
def State.rank (s : State) : Nat := s.get UH_UCTL_RANK

/-- The local copy of a value. -/
def State.pub (s : State) (v : Nat) : PubU := s.uhla.published.toList.getD v ⟨0, none, []⟩

/-- MAXAGE as it acts (R477). -/
def State.maxAge (s : State) : Nat := atLeast1 (s.get UH_UCTL_MAXAGE)

/-- Superframes of 1 µs since a tick; saturates as AGE does. -/
def State.superframesSince (s : State) (t : Option Nat) : Nat :=
  match t with
  | some t => min 65535 ((s.now - t) / us)
  | none => 65535

/-- Whether a value has gone MAXAGE superframes without an update, or never had one. -/
def State.tooOld (s : State) (t : Option Nat) : Bool :=
  match t with
  | some t => decide (s.maxAge ≤ (s.now - t) / us)
  | none => true

/-- Whether this device sources value `v` (R460). -/
def State.sources (s : State) (v : Nat) : Bool := s.on UH_USVCFG_EN v

/-- The number of values this device sources, `v` left out. -/
def State.sourced (s : State) (v : Nat) : Nat := ((List.range 256).filter (fun k => k != v && s.sources k)).length

/-- Earlier publications up to the first that is 40 ns old (R461). -/
def keepPubs (now : Nat) : List (Word × Nat) → List (Word × Nat)
  | [] => []
  | (w, t) :: l => if t + 10 ≤ now then [(w, t)] else (w, t) :: keepPubs now l

/-- Publish `w` now. -/
def PubU.put (p : PubU) (w : Word) (now : Nat) : PubU :=
  ⟨w, some now, keepPubs now ((p.at_.toList.map (fun t => (p.value, t))) ++ p.before)⟩

/-- The publication that a section starting now carries: the last one released 40 ns before (R461), and its tick. -/
def PubU.ripe (p : PubU) (now : Nat) : Word × Option Nat :=
  match ((p.at_.toList.map (fun t => (p.value, t))) ++ p.before).find? (fun x => decide (x.2 + 10 ≤ now)) with
  | some (w, t) => (w, some t)
  | none => (0, none)

/-- STALE of a value this device sources, last published at `at_` (R460). -/
def State.staleAt (s : State) (v : Nat) (at_ : Option Nat) : Bool :=
  let id := s.get UH_USVCFG_ID v
  let gone :=
    if s.on UH_USVCFG_SRC v then s.pst id != pairService || decide (16 ≤ id)
    else s.on PK_PSTAT_RESYNC (2 * id) || s.on PK_PSTAT_RESYNC (2 * id + 1) ||
      match s.blockOf id with
      | some b => s.blk b == blkStopped
      | none => true
  gone || s.tooOld at_

/-- Whether the local copy of a value this device sources is stale (R460, R461). -/
def State.ownStale (s : State) (v : Nat) : Bool := s.staleAt v (s.pub v).at_

/-- The tick at which a value was last received. -/
def State.receivedAt (s : State) (v : Nat) : Option Nat := s.uhla.receivedAt.toList.getD v none

/-- A read of a shared value (R461): its content, and whether it is stale. -/
def State.sharedRead (s : State) (v : Nat) : Word × Bool :=
  if s.sources v then ((s.pub v).value, s.ownStale v)
  else (s.rdw .UH_USVVAL v, s.on UH_USVINFO_STALE v || s.tooOld (s.receivedAt v))

/-- USVINFO of a value (R461, R477). -/
def State.sharedInfo (s : State) (v : Nat) : Word :=
  let own := s.sources v
  let t := if own then (s.pub v).at_ else s.receivedAt v
  let rank := if own then s.rank else s.get UH_USVINFO_RANK v
  BitVec.ofNat 32 ((s.sharedRead v).2.toNat + rank * 2 + s.superframesSince t * 65536)

/-! ### The value of a register -/

/-- The value a register holds now, latches left aside. -/
def State.current (s : State) (r : RegId) (i j : Nat) : Word :=
  let w := s.rdw r i j
  match r with
  | .HF_ANG => posAng (s.head.doms.toList.getD i DomU.reset).pos
  | .HF_FREQ | .HF_ROCOF | .HF_PMAG | .HF_NMAG | .HF_NANG => if s.trkinOk i then w else 0
  | .HF_DOMSTAT => if HF_DOMSTAT_STATE.of w = domCoast then HF_DOMSTAT_COASTMS.into w (s.coastMs i) else w
  | .DR_DSTAT => DR_DSTAT_NSPARE.into w s.optSpares
  | .IC_SSTAT => IC_SSTAT_REQ.into w (s.reqLine i).toNat
  | .PK_PCTL => PK_PCTL_SPLIT.into w (s.pickSplit (i / 2)).toNat
  | .PK_ARBSTAT => PK_ARBSTAT_ROUTEDIN.into w (maskOf ((List.range 8).filter (s.routedIn i)))
  | .PK_TRACK => s.trackOf i
  | .LA_RTCLO => BitVec.ofNat 32 s.rtcNow
  | .LA_RTCHI => BitVec.ofNat 32 (s.rtcNow / 2 ^ 32)
  | .SE_HOLD => SE_HOLD_HELDMB.into w s.heldMb
  | .EX_EXSTAT => EX_EXSTAT_TIMESRC.into w s.timeSrc
  | .EX_TIMESTAT => BitVec.ofNat 32 s.timeTolMs
  | .EX_MBDATA => if s.on EX_MBSTAT_BUSY i then 0 else w
  | .UH_USVVAL => (s.sharedRead i).1
  | .UH_USVINFO => s.sharedInfo i
  | .BK_ADITSTAT => BK_ADITSTAT_MINLEFT.into w s.aditMinutes
  | _ => w

/-- The value a read returns: a latched register its latch, write-only fields 0 (R3, R503). -/
def State.view (s : State) (r : RegId) (i j : Nat) : Word :=
  (if r.isPartner then (sparseFind (r.key i j) s.latched).getD (r.resetWord i j) else s.current r i j)
    &&& ~~~(BitVec.ofNat 32 r.reg.wo)

/-- Latch a group's partners (R503). -/
def State.latch (s : State) (r : RegId) (i j : Nat) : State :=
  s.each r.partners (fun s q =>
    { s with latched := sparseSet (q.key i j) (q.resetWord i j) (s.current q i j) s.latched })

end Sys2Proof.Machine
end

