-- ==== Sys2Proof/Machine/Envelope.lean ====
section
/-! DEFINITION. Exvia envelopes: layout, bodies and images as bytes (R357 to R360, R371, R372), the mailbox buffers' contents, and replies (R361, R368). -/

namespace Sys2Proof.Machine

/-- Change the Banksman's unit. -/
def State.updBank (s : State) (f : BankU → BankU) : State := { s with bank := f s.bank }

/-! ### Bytes -/

/-- Byte `k` of a byte string, 0 past its end. -/
def byteAt (l : List Byte) (k : Nat) : Nat := (l.getD k 0).toNat

/-- A little-endian field of a byte string (R1). -/
def fieldAt (l : List Byte) (k n : Nat) : Nat := leNat ((l.drop k).take n)

/-- `n` bytes from offset `k`. -/
def sliceAt (l : List Byte) (k n : Nat) : List Byte := (l.drop k).take n

/-- The first `n` bytes, zero bytes added where there are fewer. -/
def fixLen (n : Nat) (l : List Byte) : List Byte := (l ++ List.replicate n 0).take n

/-- SHA-384, 48 bytes. -/
def hash384 (l : List Byte) : List Byte := fixLen 48 (Config.sha384 l)

/-- All bytes are 0. -/
def allZero (l : List Byte) : Bool := l.all (· == 0)

/-- A 32-bit signed field. -/
def sField (l : List Byte) (k : Nat) : Int := (BitVec.ofNat 32 (fieldAt l k 4)).toInt

/-! ### Classes (R360) -/

def xRead : Nat := 0x0001
def xSet : Nat := 0x0002
def xLimits : Nat := 0x0003
def xSchedule : Nat := 0x0004
def xAssaySet : Nat := 0x0005
def xAssayAck : Nat := 0x0006
def xCounterClear : Nat := 0x0007
def xCertRevoke : Nat := 0x0008
def xGroupSet : Nat := 0x0009
def xEnrol : Nat := 0x0010
def xRevoke : Nat := 0x0011
def xGenerate : Nat := 0x0012
def xImport : Nat := 0x0013
def xSealAck : Nat := 0x0020
def xTamperAck : Nat := 0x0021
def xAditOpen : Nat := 0x0022
def xAditClose : Nat := 0x0023
def xImage : Nat := 0x0030
def xActivate : Nat := 0x0031
def xLcAdvance : Nat := 0x0040
def xExport : Nat := 0x0041

/-- Reason codes (R363, R368). -/
def exvAccepted : Nat := 0x00
def exvApplied : Nat := 0x01
def exvFormat : Nat := 0x10
def exvRole : Nat := 0x11
def exvSig : Nat := 0x12
def exvTarget : Nat := 0x13
def exvSeq : Nat := 0x14
def exvTime : Nat := 0x15
def exvBody : Nat := 0x16
def exvState : Nat := 0x17
def exvRollback : Nat := 0x18
def exvLimit : Nat := 0x19

/-- Roles (R357). -/
def rMaker : Nat := 1
def rIntegrator : Nat := 2
def rOwner : Nat := 3
def rOperator : Nat := 4
def rMetrology : Nat := 5
def rService : Nat := 6

/-! ### The envelope (R357, R358) -/

/-- FLAGS of an envelope. -/
def Envelope.group (e : Envelope) : Bool := e.flags % 2 == 1
def Envelope.hasCert (e : Envelope) : Bool := e.flags / 2 % 2 == 1
def Envelope.dual (e : Envelope) : Bool := e.flags / 4 % 2 == 1

/-- The state that an LC_ADVANCE body names: its first TLV is 0x4001. -/
def Envelope.newState (e : Envelope) : Option Nat :=
  if e.cls = xLcAdvance ∧ fieldAt e.body 0 2 = 0x4001 then some (byteAt e.body 4) else none

/-- Check 1 (R363): the layout of R357 and R358. -/
def envelopeOf (l : List Byte) : Option Envelope :=
  let flags := byteAt l 5
  let cert := if flags / 2 % 2 = 1 then 192 else 0
  let n := fieldAt l 52 2
  let sigs := 56 + cert + n
  let two := flags / 4 % 2 = 1
  let e : Envelope :=
    { flags := flags, cls := fieldAt l 6 2, role := byteAt l 8, slot := byteAt l 9, role2 := byteAt l 10, slot2 := byteAt l 11
      target := sliceAt l 12 16, seq := fieldAt l 28 8, notBefore := fieldAt l 36 8, notAfter := fieldAt l 44 8
      cert := sliceAt l 56 cert, body := sliceAt l (56 + cert) n, sig := sliceAt l sigs 96
      sig2 := if two then sliceAt l (sigs + 96) 96 else [], covered := l.take sigs, whole := l }
  let ok := l.take 4 == [0x45#8, 0x58#8, 0x56#8, 0x31#8] && byteAt l 4 == 1 && decide (flags < 8) && decide (n ≤ 4096)
    && fieldAt l 54 2 == 0 && l.length == sigs + (if two then 192 else 96) && e.hasCert == (e.role == rService)
    && e.dual == (e.newState == some 4) && (e.dual || (e.role2 == 0 && e.slot2 == 0))
  if ok then some e else none

/-- The signer roles. -/
def Envelope.roles (e : Envelope) : List Nat := if e.dual then [e.role, e.role2] else [e.role]

/-! ### TLVs (R359) -/

/-- The TLVs of a body, none where it is no sequence of padded TLVs. -/
def tlvsFrom : Nat → List Byte → Option (List (Nat × List Byte))
  | _, [] => some []
  | 0, _ => none
  | k + 1, l =>
    let n := fieldAt l 2 2
    let pad := (4 - n % 4) % 4
    if decide (4 + n + pad ≤ l.length) && allZero (sliceAt l (4 + n) pad) then
      (tlvsFrom k (l.drop (4 + n + pad))).map (fun r => (fieldAt l 0 2, sliceAt l 4 n) :: r)
    else none

/-- The TLVs of an envelope. -/
def Envelope.tlvs (e : Envelope) : List (Nat × List Byte) := (tlvsFrom 1025 e.body).getD []

/-- The values of one type, in order. -/
def Envelope.vals (e : Envelope) (ty : Nat) : List (List Byte) :=
  (e.tlvs.filter (fun t => t.1 == ty)).map Prod.snd

/-- The first value of a type, empty where there is none. -/
def Envelope.val (e : Envelope) (ty : Nat) : List Byte := (e.vals ty).headD []

/-! ### The certificate (R344) -/

def Envelope.certSerial (e : Envelope) : Nat := fieldAt e.cert 0 8
def Envelope.certIssuer (e : Envelope) : Nat := byteAt e.cert 8
def Envelope.certScope (e : Envelope) : Nat := byteAt e.cert 9
def Envelope.certTarget (e : Envelope) : List Byte := sliceAt e.cert 10 16
def Envelope.certBefore (e : Envelope) : Nat := fieldAt e.cert 26 8
def Envelope.certAfter (e : Envelope) : Nat := fieldAt e.cert 34 8
def Envelope.certKey (e : Envelope) : List Byte := sliceAt e.cert 42 49

/-! ### Image descriptors (R371, R372) -/

def descType (d : List Byte) : Nat := byteAt d 0
def descArb (d : List Byte) : Nat := byteAt d 1
def descStamp (d : List Byte) : Nat := fieldAt d 4 4
def descIfgen (d : List Byte) : Nat := fieldAt d 8 2
def descAssaygen (d : List Byte) : Nat := fieldAt d 10 2
def descLength (d : List Byte) : Nat := fieldAt d 20 4
def descHash (d : List Byte) : List Byte := sliceAt d 24 48
def descSteps (d : List Byte) : List Nat := [byteAt d 12, byteAt d 13, byteAt d 14, byteAt d 15]

/-- LENGTH within R371. -/
def lengthOk (t n : Nat) : Bool :=
  if t = 1 then decide (n ≤ 0x40000) else if t = 3 then decide (n ≤ 0x400000) else if t = 4 then n == 1280
  else if t = 5 then n == 1024 else decide (n ≤ 0x1000000)

/-- A descriptor's values lie in their ranges. -/
def descOk (d : List Byte) : Bool :=
  d.length == 72 && decide (1 ≤ descType d) && decide (descType d ≤ 6) && decide (descArb d ≤ 64) && fieldAt d 2 2 == 0
    && (descType d == 2 || descAssaygen d == 0) && (descSteps d).any (· != 0) && lengthOk (descType d) (descLength d)

/-- The source address lies in shared SRAM or DRAM. -/
def sourceOk (v : List Byte) : Bool :=
  let a := fieldAt v 0 4
  v.length == 4 && ((decide (0x10000000 ≤ a) && decide (a < 0x10800000)) || (decide (0x80000000 ≤ a) && decide (a < 0xA0000000)))

/-! ### Mailbox buffers (R361) -/

/-- The first `n` bytes of a buffer. -/
def State.mbBytes (s : State) (b n : Nat) : List Byte :=
  (List.range n).map (fun k => BitVec.ofNat 8 (bits (s.rdw .EX_MBDATA b (k / 4)) (8 * (k % 4)) 8))

/-- Write bytes to the start of a buffer; its bytes beyond them stay. -/
def State.mbPut (s : State) (b : Nat) (l : List Byte) : State :=
  s.each (List.range ((l.length + 3) / 4)) (fun s j =>
    let new := sliceAt l (4 * j) 4
    let old := leBytes 4 (s.rdw .EX_MBDATA b j).toNat
    s.wrw .EX_MBDATA (BitVec.ofNat 32 (leNat (new ++ old.drop new.length))) b j)

/-- A reply takes its buffer (R361): the data, OUTLEN, REASON, DONE and source 976. -/
def State.mbReply (s : State) (b reason : Nat) (l : List Byte) : State :=
  let s1 := (((s.mbPut b l).put EX_MBLEN_OUTLEN l.length b).put EX_MBSTAT_REASON reason b).put EX_MBSTAT_BUSY 0 b
  (s1.put EX_MBSTAT_DONE 1 b).raise 976

/-- QUEUED follows the queue (R379). -/
def State.queueShow (s : State) : State := s.putFit EX_EXSTAT_QUEUED s.bank.queue.length

/-! ### Identity and replies (R339, R368) -/

/-- The key of a slot, empty where the slot is. -/
def State.slotKey (s : State) (k : Nat) : List Byte := ((s.bank.slots.toList.getD k none).map (fun x => x.key)).getD []

/-- A slot is filled. -/
def State.filled (s : State) (k : Nat) : Bool := (s.bank.slots.toList.getD k none).isSome

/-- The device identifier, in OTP (R339, R356). -/
def State.devId (s : State) : List Byte := s.bank.devId

/-- Set a monotonic counter. -/
def State.setCounter (s : State) (k v : Nat) : State :=
  if h : k < 32 then { s with lamp := { s.lamp with counters := s.lamp.counters.set k v h } } else s

/-- A monotonic counter. -/
def State.counter (s : State) (k : Nat) : Nat := s.lamp.counters.toList.getD k 0

/-- Take the next nonce. -/
def State.nonce (s : State) : Nat × State := (s.freeIdx, { s with freeIdx := s.freeIdx + 1 })

/-- A signed reply (R368) to the envelope `whole`: DSEQ counts every reply; DATA only with EXV_APPLIED. -/
def State.reply (s : State) (reason : Nat) (whole data : List Byte) : List Byte × State :=
  let (n, s1) := s.nonce
  let dseq := (s1.counter 6 + 1) % 2 ^ 64
  let s2 := s1.setCounter 6 dseq
  let d := if reason = exvApplied then data.take 4096 else []
  let l : List Byte := [0x45#8, 0x58#8, 0x52#8, 0x31#8] ++ leBytes 4 reason ++ s.devId ++ leBytes 8 dseq ++ hash384 whole
    ++ leBytes 4 d.length ++ d
  (l ++ fixLen 96 (Config.sign (s.slotKey 0) (hash384 l) n), s2)

end Sys2Proof.Machine
end

