-- ==== Sys2Proof/Machine/Exvia.lean ====
section
/-! DEFINITION. The verification of an Exvia envelope: roles, signatures, target, sequence, time, body, entitlement, state, anti-rollback and limits
(R332, R334, R340 to R344, R360, R363 to R367, R370 to R377). -/

namespace Sys2Proof.Machine

/-! ### Step 2: roles and slots (R342, R363) -/

/-- The VERIFY slots of a role: first and number (R338). -/
def verifySlots (r : Nat) : Nat × Nat :=
  if r = rMaker then (2, 2) else if r = rIntegrator then (4, 4) else if r = rOwner then (8, 4) else if r = rOperator then (12, 8)
  else if r = rMetrology then (20, 4) else (0, 0)

/-- Slot `k` is a VERIFY slot of role `r`. -/
def isVerifySlot (r k : Nat) : Bool := decide ((verifySlots r).1 ≤ k) && decide (k < (verifySlots r).1 + (verifySlots r).2)

/-- The filled VERIFY slots of a role. -/
def State.roleKeys (s : State) (r : Nat) : List Nat := ((List.range 24).filter (fun k => isVerifySlot r k && s.filled k))

/-- The role that holds a SECRET slot (R338), 0 for none. -/
def secretRole (k : Nat) : Nat :=
  if 24 ≤ k ∧ k ≤ 27 then rIntegrator else if 28 ≤ k ∧ k ≤ 39 then rOwner else if 40 ≤ k ∧ k ≤ 47 then rOperator else 0

/-- A role is accepted in the life-cycle state (R342). -/
def State.roleAccepted (s : State) (e : Envelope) (r : Nat) : Bool :=
  let other := decide (rIntegrator ≤ r) && decide (r ≤ rService)
  if s.lc = lcMaker then r == rMaker
  else if s.lc = lcIntegrate then other || (r == rMaker && e.newState == some lcScrap)
  else if s.lc = lcField then other || (r == rMaker && e.dual)
  else if s.lc = lcReturn then r == rMaker || (r == rOwner && e.cls == xExport)
  else false

/-- The roles that sign a class (R360); which of them covers what is named is judged at step 8a. -/
def signersOf (cls : Nat) : List Nat :=
  if cls = xRead then [1, 2, 3, 4, 5, 6]
  else if cls = xSet then [4, 3]
  else if cls = xAssaySet then [3, 4]
  else if cls = xAssayAck then [3, 5]
  else if cls = xEnrol then [2, 3, 5]
  else if cls = xRevoke then [2, 3, 4, 5]
  else if cls = xGenerate ∨ cls = xImport then [2, 3, 4]
  else if cls = xSealAck then [2]
  else if cls = xAditOpen then [1, 2, 6]
  else if cls = xAditClose then [1, 2, 3, 6]
  else if cls = xImage then [1, 2, 5]
  else if cls = xActivate then [1, 2, 3, 5]
  else if cls = xLcAdvance then [1, 2, 3]
  else if cls = xExport then [1, 3]
  else if cls = xLimits ∨ cls = xSchedule ∨ cls = xCounterClear ∨ cls = xCertRevoke ∨ cls = xGroupSet ∨ cls = xTamperAck then [3]
  else []

/-- An ENROL under R334: in INTEGRATE with no INTEGRATOR key, for slot 4. -/
def State.underToken (s : State) (e : Envelope) : Bool :=
  e.cls == xEnrol && s.lc == lcIntegrate && e.role == rIntegrator && e.slot == 4 && (s.roleKeys rIntegrator).isEmpty

/-- A signer's slot is a filled VERIFY slot of its role; for SERVICE the slot is 0xFF and the certificate's issuer a filled OWNER slot. -/
def State.slotOk (s : State) (e : Envelope) (r k : Nat) : Bool :=
  if r = rService then k == 0xFF && isVerifySlot rOwner e.certIssuer && s.filled e.certIssuer
  else (isVerifySlot r k && s.filled k) || s.underToken e

/-- A token ENROL once slot 4 is filled (R334). -/
def State.lateToken (s : State) (e : Envelope) : Bool := e.cls == xEnrol && s.filled 4 && !(e.vals 0x1002).isEmpty

/-- Step 2. -/
def State.checkRole (s : State) (e : Envelope) : Bool :=
  !s.lateToken e && e.roles.all (fun r => s.roleAccepted e r && (signersOf e.cls).contains r) && s.slotOk e e.role e.slot
    && (!e.dual || s.slotOk e e.role2 e.slot2)

/-! ### Step 3: signatures (R334, R344, R358) -/

/-- The enrolment token of R334: it verifies against its MAKER slot and names this device and the hash of the key being enrolled. -/
def State.tokenOk (s : State) (e : Envelope) : Bool :=
  let t := e.val 0x1002
  let key := sliceAt (e.val 0x1001) 3 97
  let k := byteAt t 64
  t.length == 164 && isVerifySlot rMaker k && s.filled k && sliceAt t 0 16 == s.devId && sliceAt t 16 48 == hash384 key
    && Config.verify (s.slotKey k) (hash384 (sliceAt t 0 68)) (sliceAt t 68 96)

/-- The SERVICE certificate verifies, is for this device and for at most 30 days, and its serial is not revoked (R344). -/
def State.certOk (s : State) (e : Envelope) : Bool :=
  Config.verify (s.slotKey e.certIssuer) (hash384 (sliceAt e.cert 0 96)) (sliceAt e.cert 96 96)
    && (e.certTarget == s.devId || s.bank.groups.contains e.certTarget) && decide (e.certAfter ≤ e.certBefore + 2592000000000000)
    && !s.bank.revoked.contains e.certSerial

/-- Step 3. -/
def State.checkSig (s : State) (e : Envelope) : Bool :=
  let h := hash384 e.covered
  let first := if e.role = rService then s.certOk e && Config.verify e.certKey h e.sig
    else if s.underToken e then s.tokenOk e && Config.verify (sliceAt (e.val 0x1001) 3 97) h e.sig
    else Config.verify (s.slotKey e.slot) h e.sig
  first && (!e.dual || Config.verify (s.slotKey e.slot2) h e.sig2)

/-! ### Steps 4 to 6: target, sequence, time -/

/-- Classes that allow a group target (R360). -/
def groupClass (cls : Nat) : Bool := [xSet, xLimits, xSchedule, xCertRevoke, xImage, xActivate].contains cls

/-- Step 4. -/
def State.checkTarget (s : State) (e : Envelope) : Bool :=
  if e.group then groupClass e.cls && s.bank.groups.contains e.target else e.target == s.devId

/-- The counter of a role (R365). -/
def roleCounter (r : Nat) : Nat := r - 1

/-- Step 5 (R365). -/
def State.checkSeq (s : State) (e : Envelope) : Bool := e.roles.all (fun r => decide (s.counter (roleCounter r) < e.seq))

/-- A window contains the current time (R367). -/
def State.timeOk (s : State) (nb na : Nat) : Bool :=
  if s.trusted then decide (nb ≤ s.ptpNs) && decide (s.ptpNs ≤ na)
  else if s.lamp.rtcSet.isSome then
    let r := s.rtcNow * 1000000000
    decide (nb * 32768 ≤ r + s.timeTol) && decide (r ≤ na * 32768 + s.timeTol)
  else nb == 0 && na == 2 ^ 64 - 1

/-- Step 6, for the envelope and a SERVICE certificate. -/
def State.checkTime (s : State) (e : Envelope) : Bool :=
  s.timeOk e.notBefore e.notAfter && (!e.hasCert || s.timeOk e.certBefore e.certAfter)

/-! ### Step 7: the body (R230, R256, R359, R360, R371, R372) -/

/-- A row of a class's body: TLV type, least and largest number of it, and what its values satisfy. -/
abbrev TlvRule := Nat × Nat × Nat × (List Byte → Bool)

/-- A list of TLVs fits a class's rows. -/
def tlvsFit (l : List (Nat × List Byte)) (rules : List TlvRule) : Bool :=
  l.all (fun t => rules.any (fun r => r.1 == t.1 && r.2.2.2 t.2))
    && rules.all (fun r => let n := (l.filter (fun t => t.1 == r.1)).length; decide (r.2.1 ≤ n) && decide (n ≤ r.2.2.1))

/-- The ranges of an ISL_SCHEDULE (R230). -/
def scheduleOk (v : List Byte) : Bool :=
  let start := fieldAt v 8 8
  let stop := fieldAt v 16 8
  let fp := fieldAt v 24 4
  let pat := fieldAt v 32 4
  v.length == 40 && decide (fieldAt v 0 8 ≤ start) && (stop == 0 || decide (start < stop)) && decide (80000 ≤ fp) && decide (fp ≤ 144000)
    && decide (1 ≤ byteAt v 28) && decide (byteAt v 28 ≤ 16) && decide (2 ≤ byteAt v 29) && decide (byteAt v 29 ≤ 10)
    && fieldAt v 30 2 != 0 && (List.range 16).all (fun j => pat / 4 ^ j % 4 != 2) && fieldAt v 36 4 == 0

/-- The 4 bytes of 0x1201: ALG 1 to 4, for slot 24 AES-256 (R338), USAGE of five bits. -/
def keySpecOk (v : List Byte) : Bool :=
  (byteAt v 0 != 24 || byteAt v 1 == 3) &&
  decide (1 ≤ byteAt v 1) && decide (byteAt v 1 ≤ 4) && decide (byteAt v 2 < 32) && byteAt v 3 == 0

/-- The key that an IMPORT wraps, none where it fails its tag: unwrapped under the ECDH agreement with the slot 1 key (R360). -/
def State.unwrap (s : State) (v : List Byte) : Option (List Byte) :=
  match Config.ecdh (s.slotKey 1) (sliceAt v 4 65) with
  | some secret => Config.gcmOpen ((hash384 (secret ++ s.devId)).take 32) (sliceAt v 72 12) (v.drop 84)
  | none => none

/-- The rows of a class's body (R360). -/
def State.bodyRules (s : State) (cls : Nat) : List TlvRule :=
  let len (n : Nat) (v : List Byte) : Bool := v.length == n
  if cls = xRead then [(0x0101, 1, 1, fun v => len 8 v && fieldAt v 2 2 == 0)]
  else if cls = xSet then [(0x0201, 1, 64, fun v => len 8 v && decide (byteAt v 0 < 64) && fieldAt v 1 3 == 0)]
  else if cls = xLimits then
    [(0x0202, 1, 32, fun v => len 12 v && decide (byteAt v 0 < 32) && fieldAt v 1 3 == 0 && decide (sField v 4 ≤ sField v 8))]
  else if cls = xSchedule then [(0x0C01, 1, 1, scheduleOk)]
  else if cls = xAssaySet then
    [(0x0501, 0, 1, fun v => len 4 v && fieldAt v 0 4 / 16 == 0),
     (0x0502, 0, 1024, fun v => len 16 v && decide (fieldAt v 0 4 < 4)),
     (0x0503, 0, 1024, fun v => len 12 v && decide (fieldAt v 0 4 < 8) && fieldAt v 4 4 / 2 % 4 != 3)]
  else if cls = xCertRevoke then [(0x0801, 1, 64, len 8)]
  else if cls = xGroupSet then [(0x0901, 0, 8, fun v => len 16 v && v != s.devId)]
  else if cls = xEnrol then
    [(0x1001, 1, 1, fun v => len 100 v && fieldAt v 1 2 == 0), (0x1002, 0, 1, fun v => len 164 v && fieldAt v 65 3 == 0)]
  else if cls = xRevoke then [(0x1101, 1, 1, fun v => len 4 v && fieldAt v 1 3 == 0)]
  else if cls = xGenerate then [(0x1201, 1, 1, fun v => len 4 v && keySpecOk v)]
  else if cls = xImport then
    [(0x1301, 1, 1, fun v => (len 132 v || len 148 v) && keySpecOk v && fieldAt v 69 3 == 0 && (s.unwrap v).isSome)]
  else if cls = xSealAck then [(0x2001, 1, 1, fun v => len 2 v && decide (fieldAt v 0 2 < 4096))]
  else if cls = xAditOpen then [(0x2201, 1, 1, fun v => len 2 v && decide (1 ≤ fieldAt v 0 2) && decide (fieldAt v 0 2 ≤ 480))]
  else if cls = xImage then [(0x3001, 1, 1, descOk), (0x3002, 1, 1, sourceOk)]
  else if cls = xActivate then [(0x3101, 1, 1, fun v => len 4 v && decide (byteAt v 0 < 64) && fieldAt v 1 3 == 0)]
  else if cls = xLcAdvance then [(0x4001, 1, 1, fun v => len 4 v && decide (byteAt v 0 < 6) && fieldAt v 1 3 == 0)]
  else []

/-- The payload that an IMAGE names, as it stands in memory. -/
def State.sourceBytes (s : State) (e : Envelope) : List Byte :=
  s.bytes (fieldAt (e.val 0x3002) 0 4) (descLength (e.val 0x3001))

/-- Step 7. -/
def State.checkBody (s : State) (e : Envelope) : Bool :=
  match tlvsFrom 1025 e.body with
  | some l => tlvsFit l (s.bodyRules e.cls)
  | none => false

/-! ### Images (R371 to R376) -/

/-- The stored images of a type, 1 to 6, and which slot is active. -/
def State.imageIn (s : State) (t : Nat) (slotB : Bool) : Option ImageU :=
  (if slotB then s.bank.imageB else s.bank.imageA).toList.getD (t - 1) none
def State.activeIs (s : State) (t : Nat) : Bool := s.bank.activeB.toList.getD (t - 1) false
def State.activeImage (s : State) (t : Nat) : Option ImageU := s.imageIn t (s.activeIs t)
def State.storedImage (s : State) (t : Nat) : Option ImageU := s.imageIn t (!s.activeIs t)

/-- The role that signs an image type, and the one that activates it (R371). -/
def imageRole (t : Nat) : Nat := if t = 1 ∨ t = 6 then rMaker else if t = 5 then rMetrology else rIntegrator
def State.activator (s : State) (t : Nat) : Nat :=
  if t = 1 ∨ t = 6 then rMaker else if t = 5 then rMetrology else if s.lc = lcField then rOwner else rIntegrator

/-- The state accepts images of a type (R371). -/
def State.imageState (s : State) (t : Nat) : Bool :=
  if t = 1 then s.lc == lcMaker else if t = 6 then s.lc == lcReturn else s.lc == lcIntegrate || s.lc == lcField

/-- The OTP step count of a type. -/
def State.arbOf (s : State) (t : Nat) : Nat := s.bank.arb.toList.getD (t - 1) 0

/-- The stepping as a descriptor names it. -/
def State.stepping (s : State) : Nat := 16 * s.bank.stepLetter + s.bank.stepDigit
def State.namesStep (s : State) (i : ImageU) : Bool := (descSteps i.desc).contains s.stepping

/-- A stored image passes the checks of R376 but that of its stepping: signature, hash, anti-rollback. -/
def State.imageTrue (s : State) (t : Nat) (i : ImageU) : Bool :=
  isVerifySlot (imageRole t) i.env.slot && s.filled i.env.slot
    && Config.verify (s.slotKey i.env.slot) (hash384 i.env.covered) i.env.sig
    && hash384 i.payload == descHash i.desc && decide (s.arbOf t ≤ descArb i.desc)

/-- A stored image passes the checks of R376. -/
def State.imagePasses (s : State) (t : Nat) (i : ImageU) : Bool := s.imageTrue t i && s.namesStep i

/-- The set rule (R376) over the images `img`: types 2, 3 and 4 carry equal SETSTAMP and IFGEN, the IFGEN of type 5 equals the ASSAYGEN of type 2.
A type that has no image breaks no rule. -/
def setRule (img : Nat → Option ImageU) : Bool :=
  let same (a b : Nat) : Bool :=
    match img a, img b with
    | some x, some y => descStamp x.desc == descStamp y.desc && descIfgen x.desc == descIfgen y.desc
    | _, _ => true
  same 2 3 && same 2 4 && same 3 4 &&
    match img 2, img 5 with
    | some x, some y => descIfgen y.desc == descAssaygen x.desc
    | _, _ => true

/-- The types that an ACTIVATE names. -/
def Envelope.mask (e : Envelope) : List Nat := (List.range 6).filterMap (fun k => if byteAt (e.val 0x3101) 0 / 2 ^ k % 2 = 1 then some (k + 1) else none)

/-! ### Step 8a: entitlement -/

/-- Whether an ENROL or REVOKE of slot `k` is signed by the role that R340 names. -/
def State.enrolRole (s : State) (r k : Nat) : Bool :=
  let integrate := s.lc == lcIntegrate
  if isVerifySlot rIntegrator k then r == rIntegrator
  else if isVerifySlot rOwner k then (r == rIntegrator && integrate) || r == rOwner
  else if isVerifySlot rOperator k then r == rOwner
  else if isVerifySlot rMetrology k then (r == rIntegrator && integrate && (s.roleKeys rMetrology).isEmpty) || r == rMetrology
  else false

/-- A READ item that the role may learn (R343, R360); for SERVICE its scope covers it. -/
def learns (e : Envelope) (item off : Nat) : Bool :=
  let svc := e.role == rService
  let read := !svc || e.certScope % 2 == 1
  let ops := [rOwner, rOperator, rService].contains e.role && read
  if item = 0x0001 ∨ item = 0x0002 ∨ (0x0011 ≤ item ∧ item ≤ 0x0016) ∨ item = 0x0030 ∨ item = 0x0031 ∨ item = 0x0053 then read
  else if item = 0x0003 then read && decide (2 ≤ off) && decide (off < 24)
  else if item = 0x0022 ∨ item = 0x0024 then e.role == rIntegrator || e.role == rOwner
  else if item = 0x0040 ∨ item = 0x0050 then ops
  else if item = 0x0041 then e.role == rOwner || (svc && e.certScope / 2 % 2 == 1)
  else if item = 0x0051 ∨ item = 0x0054 then e.role == rOwner
  else if item = 0x0052 then e.role == rOwner || (svc && read)
  else false

/-- The opener's code (R356). -/
def openerCode (r : Nat) : Nat := if r = rService then 5 else r

/-- The role that opens the Adit port in the state (R353). -/
def State.aditRole (s : State) : Nat :=
  if s.lc = lcMaker ∨ s.lc = lcReturn then rMaker else if s.lc = lcIntegrate then rIntegrator else rService

/-- The signers of a transition (R332). -/
def State.lcRoles (s : State) (new : Nat) (e : Envelope) : Bool :=
  if s.lc = lcMaker then e.role == rMaker
  else if s.lc = lcIntegrate then (if new = lcField then e.role == rIntegrator else e.role == rIntegrator || e.role == rMaker)
  else if s.lc = lcField then e.dual && ((e.role == rOwner && e.role2 == rMaker) || (e.role == rMaker && e.role2 == rOwner))
  else e.role == rMaker

/-- Step 8a. -/
def State.checkCovers (s : State) (e : Envelope) : Bool :=
  let c := e.cls
  if c = xRead then learns e (fieldAt (e.val 0x0101) 0 2) (fieldAt (e.val 0x0101) 4 4)
  else if c = xSet then e.role == rOwner || (e.vals 0x0201).all (fun v => decide (byteAt v 0 < 32))
  else if c = xAssaySet then e.role == rOwner || e.tlvs.all (fun t => t.1 == 0x0503)
  else if c = xEnrol then
    (if (e.vals 0x1002).isEmpty then s.enrolRole e.role (byteAt (e.val 0x1001) 0) else s.underToken e && byteAt (e.val 0x1001) 0 == 4)
  else if c = xRevoke then
    let k := byteAt (e.val 0x1101) 0
    s.enrolRole e.role k || (secretRole k != 0 && secretRole k == e.role)
  else if c = xGenerate ∨ c = xImport then secretRole (byteAt (e.val (if c = xGenerate then 0x1201 else 0x1301)) 0) == e.role
  else if c = xAditOpen then e.role == s.aditRole && (e.role != rService || e.certScope / 4 % 2 == 1)
  else if c = xAditClose then (e.role != rService || e.certScope / 4 % 2 == 1) && (s.bank.adit.isNone || e.role == rOwner || openerCode e.role == s.get BK_ADITSTAT_OPENER)
  else if c = xImage then e.role == imageRole (descType (e.val 0x3001))
  else if c = xActivate then e.mask.all (fun t => e.role == s.activator t)
  else if c = xLcAdvance then s.lcRoles (byteAt (e.val 0x4001) 0) e
  else true

/-! ### Steps 8b to 8d -/

/-- Every block is STOPPED. -/
def State.blocksStopped (s : State) : Bool := (List.range 8).all (fun b => s.blk b == blkStopped)

/-- Every image of types 2 to 5 passes and their set rule holds (R332). -/
def State.imageSetOk (s : State) : Bool :=
  [2, 3, 4, 5].all (fun t => (s.activeImage t).any (s.imagePasses t)) && setRule s.activeImage

/-- The conditions of a transition (R332). -/
def State.lcConditions (s : State) (new : Nat) : Bool :=
  let safe := s.blocksStopped && s.on FM_FSTAT_SF1OPEN
  if s.lc = lcMaker ∧ new = lcIntegrate then s.filled 0 && s.filled 1 && !s.bank.certs.isEmpty && (s.activeImage 1).isSome
  else if s.lc = lcIntegrate ∧ new = lcField then
    !(s.roleKeys rOwner).isEmpty && !(s.roleKeys rMetrology).isEmpty && s.imageSetOk && s.bank.sealSet && s.blocksStopped
  else if s.lc = lcIntegrate ∧ new = lcScrap then safe
  else if s.lc = lcField ∧ new = lcReturn then safe
  else s.lc == lcReturn && new == lcScrap

/-- Classes whose application writes the shielded flash (R436). -/
def flashClass (cls : Nat) : Bool := [xEnrol, xRevoke, xGenerate, xImport, xLcAdvance].contains cls

/-- Classes accepted in RESTRICTED (R377). -/
def restrictedClass (cls : Nat) : Bool := [xRead, xImage, xActivate, xEnrol, xRevoke, xTamperAck, xLcAdvance, xExport].contains cls

/-- An ACTIVATE meets R374. -/
def State.activateOk (s : State) (mask : List Nat) : Bool :=
  mask.all (fun t => (s.storedImage t).any s.namesStep && !(s.bank.writing.any (fun w => w.typ == t)))
    && setRule (fun t => if mask.contains t then s.storedImage t else s.activeImage t)

/-- The straps have read `v` at every read of the last 1 s (R323). -/
def State.strapsRead (s : State) (v : Nat) : Bool := s.fm.straps.length == 100 && s.fm.straps.all (· == v)

/-- The class's states and its conditions on the module (R323, R332, R340, R353, R360, R371, R373, R374). -/
def State.classState (s : State) (e : Envelope) : Bool :=
  let c := e.cls
  let inUse := s.lc == lcIntegrate || s.lc == lcField
  if c = xRead then inUse || s.lc == lcMaker
  else if c = xSchedule then s.lc == lcField
  else if c = xEnrol then inUse && !s.filled (byteAt (e.val 0x1001) 0)
  else if c = xRevoke then
    let k := byteAt (e.val 0x1101) 0
    inUse && [rIntegrator, rOwner, rOperator, rMetrology].all (fun r => !(isVerifySlot r k && s.roleKeys r == [k]))
  else if c = xGenerate then inUse && !s.filled (byteAt (e.val 0x1201) 0)
  else if c = xImport then inUse && !s.filled (byteAt (e.val 0x1301) 0)
  else if c = xSealAck then inUse && s.strapsRead (fieldAt (e.val 0x2001) 0 2)
  else if c = xAditOpen then s.bank.adit.isNone && (s.lc == lcMaker || (s.blocksStopped && s.on FM_FSTAT_SF1OPEN))
  else if c = xAditClose then s.bank.adit.isSome
  else if c = xImage then s.imageState (descType (e.val 0x3001)) && s.bank.writing.isNone
  else if c = xActivate then e.mask.all s.imageState && s.activateOk e.mask
  else if c = xLcAdvance then s.lcConditions (byteAt (e.val 0x4001) 0)
  else if c = xExport then s.lc == lcReturn
  else inUse

/-- Step 8b. Where the Banksman serves UART0 (R348) the one ENROL of R334 passes beside image and activation envelopes, or no INTEGRATOR could ever enrol
(DEDUCED, log entry 73). -/
def State.checkState (s : State) (e : Envelope) : Bool :=
  s.classState e && (!s.on BK_BKSTAT_RESTRICTED || restrictedClass e.cls) && (!s.bank.uart || e.cls == xImage || e.cls == xActivate || s.underToken e)
    && (!flashClass e.cls || s.grantable clsFlash)

/-- Step 8c (R375): the image's ARB is not below the OTP count. -/
def State.checkArb (s : State) (e : Envelope) : Bool :=
  if e.cls = xImage then decide (s.arbOf (descType (e.val 0x3001)) ≤ descArb (e.val 0x3001))
  else if e.cls = xActivate then e.mask.all (fun t => (s.storedImage t).all (fun i => decide (s.arbOf t ≤ descArb i.desc)))
  else true

/-- Step 8d (R370): the values of entries 0 to 31 lie within MIN to MAX. -/
def State.checkLimit (s : State) (e : Envelope) : Bool :=
  if e.cls = xSet then
    (e.vals 0x0201).all (fun v =>
      let k := byteAt v 0
      decide (32 ≤ k) || (decide (sgn (s.rdw .EX_CFGMIN k) ≤ sField v 4) && decide (sField v 4 ≤ sgn (s.rdw .EX_CFGMAX k))))
  else true

/-! ### The order of the checks (R363) -/

/-- Checks 8a to 8d. -/
def State.checksLate (s : State) (e : Envelope) : Nat :=
  if !s.checkCovers e then exvRole
  else if !s.checkState e then exvState
  else if !s.checkArb e then exvRollback
  else if !s.checkLimit e then exvLimit
  else exvAccepted

/-- The verdict on an envelope: the reason, and whether it passed the sequence check. -/
def State.verdict (s : State) (e : Envelope) : Nat × Bool :=
  if !s.checkRole e then (exvRole, false)
  else if !s.checkSig e then (exvSig, false)
  else if !s.checkTarget e then (exvTarget, false)
  else if !s.checkSeq e then (exvSeq, false)
  else (if !s.checkTime e then exvTime else if !s.checkBody e then exvBody else s.checksLate e, true)

end Sys2Proof.Machine
end

