-- ==== Sys2Proof/Machine/Adit.lean ====
section
/-! DEFINITION. The Adit port and its TAP (R353 to R355), and the resets that the Banksman performs (R333, R335, R377). -/

namespace Sys2Proof.Machine

/-! ### Resets of the Banksman's own -/

/-- A reset that R410 lists no cause for: counted in RSTTOT alone, LASTCAUSE open. -/
def State.otherReset (s : State) (scope : Nat) : State :=
  let (w, s1) := s.free
  (s1.bumpSat RS_RSTTOT_TOTAL).lastReset (w.toNat % 16) scope

/-- The cold reset of R333, R335, R348 and R377: a full cold reset (R420), after an ORDERLY record (R259). -/
def State.coldReset (s : State) : State :=
  ((if s.supply.vaux then s.orderlyDone else s).fullCold).otherReset scopeFull

/-- The Banksman registers that follow OTP, the key store and the Lamp domain, the device identifier among them (R339, R356). -/
def State.idShow (s : State) : State :=
  let s1 := (s.bankShow.put BK_ADITSTAT_OPEN (s.bank.adit.isSome || s.lc == lcBlank).toNat)
  s1.each (List.range 4) (fun s n => s.wrw .BK_DEVID (BitVec.ofNat 32 (fieldAt s.devId (4 * n) 4)) n)

/-- Empty key slots. -/
def State.eraseSlots (s : State) (p : Nat → Bool) : State :=
  s.updBank (fun b => { b with slots := Vector.ofFn (fun k : Fin 64 => if p k.val then none else b.slots[k]) })

/-! ### The session (R353, R355) -/

/-- The port is open: in BLANK from reset, else in a session; it has power in RUN and NIGHT only (R485). -/
def State.aditOpen (s : State) : Bool := (s.bank.adit.isSome || s.lc == lcBlank) && s.supply.place == 0

/-- A pair that the port halted takes a warm reset. -/
def State.aditPairReset (s : State) (n : Nat) : State :=
  ((s.pairWarm n).otherReset scopePair).put RS_RSTSTAT_LASTPAIR n

/-- The trigger CSRs of the RISC-V debug architecture, which hold a core's breakpoints (PRESUMED, log entry 75). -/
def isTrigger (a : Nat) : Bool := decide (0x7A0 ≤ a) && decide (a ≤ 0x7A5)

/-- Breakpoints are cleared on every core (R355). -/
def State.clearBreaks (s : State) : State :=
  let clear (c : CoreU) : CoreU := { c with regs := { c.regs with csrs := c.regs.csrs.filter (fun p => !isTrigger p.1) } }
  s.each (List.range 16) (fun s n => (s.updCore n 0 clear).updCore n 1 clear)

/-- The port closes: CLOSEWHY, the TAP back to BYPASS, every pair halted during the session warm reset, the breakpoints cleared. -/
def State.closeAdit (s : State) (why : Nat) : State :=
  match s.bank.adit with
  | none => s
  | some a =>
    let s1 := (s.clearBreaks.updBank (fun b => { b with adit := none, tap := 0, tapOut := 0, tapPins := 0 })).disarm .aditEnd
    ((s1.put BK_ADITSTAT_OPEN 0).put BK_ADITSTAT_CLOSEWHY why).each a.halted State.aditPairReset

/-- Open a session of `minutes`; in FIELD it ends no later than the certificate's not-after. -/
def State.openAdit (s : State) (e : Envelope) (minutes : Nat) : State :=
  let stop := s.now + minutes * 60000 * ms
  let left := if s.trusted then e.certAfter - s.ptpNs else e.certAfter - s.rtcNow * 1000000000 / 32768
  let stop1 := if s.lc = lcField then min stop (s.now + left / 4) else stop
  let s1 := s.updBank (fun b => { b with adit := some ⟨stop1, []⟩ })
  ((s1.put BK_ADITSTAT_OPEN 1).put BK_ADITSTAT_OPENER (openerCode e.role)).arm .aditEnd (stop1 - s.now)

/-- R355: the end of the session. -/
def execAditSessionEnd (s : State) : Out := .next (s.onTimer .aditEnd (fun s => s.closeAdit 1))

/-- R410: a reset request through the open port. -/
def execAditResetRequest (s : State) : Out :=
  .next (if s.aditOpen then s.reset3 scopeDevice 9 else s)

/-! ### The TAP (R353) -/

/-- Instructions of the TAP, numbered by the model. -/
def tapBypass : Nat := 0
def tapIdcode : Nat := 1
def tapSample : Nat := 2
def tapExtest : Nat := 3

/-- Boundary-scan instructions act: the port is open, in a state that allows them. -/
def State.scanAllowed (s : State) : Bool := s.aditOpen && s.lc != lcField && s.lc != lcScrap

/-- Select a TAP instruction, the word it shifts out and the pins it reaches; the port has power in RUN and NIGHT (R485). -/
def State.tapSelect (s : State) (k : Nat) (w : Word) (pins : Nat := 0) : State :=
  if s.supply.place = 0 then s.updBank (fun b => { b with tap := k, tapOut := w, tapPins := pins }) else s

/-- The pins that boundary-scan instructions reach: all in BLANK and MAKER, host-link and GPIO pins in INTEGRATE and RETURN. -/
def State.scanPins (s : State) : Nat := if s.lc = lcBlank ∨ s.lc = lcMaker then 2 else 1

/-- A boundary-scan instruction: where it is not allowed it acts as BYPASS. What the boundary register shifts out is open: no rule gives its cells. -/
def State.scan (s : State) (k : Nat) : State :=
  if s.scanAllowed then
    let (w, s1) := s.free
    s1.tapSelect k w s.scanPins
  else s.tapSelect tapBypass 0

/-- R353: IDCODE. -/
def execIdcode (s : State) : Out := .next (s.tapSelect tapIdcode 0x19648A5B)
/-- R353: BYPASS. -/
def execBypass (s : State) : Out := .next (s.tapSelect tapBypass 0)
/-- R353: SAMPLE/PRELOAD. -/
def execSamplePreload (s : State) : Out := .next (s.scan tapSample)
/-- R353: EXTEST. -/
def execExtest (s : State) : Out := .next (s.scan tapExtest)

end Sys2Proof.Machine
end

