-- ==== Sys2Proof/Machine/Apply.lean ====
section
/-! DEFINITION. The application of accepted envelopes, class by class, and their replies (R369 to R376, R332 to R336, R340, R341, R350, R353, R355,
R258, R265, R323, R411, R416). -/

namespace Sys2Proof.Machine

/-! ### What the application of a class changes -/

/-- A key slot takes a key, or is emptied; the registers that show occupancy follow. -/
def State.setSlot (s : State) (k : Nat) (v : Option KeySlot) : State :=
  if h : k < 64 then (s.updBank (fun b => { b with slots := b.slots.set k v h })).bankShow else s

/-- The Pick program set that LOADs take is the active type 3 image under the slot 24 key (R80, R346). -/
def State.pickShow (s : State) : State :=
  let set := match s.activeImage 3, s.bank.slots[24] with
    | some i, some k => referenceSet (Config.pickPrograms k.key i.payload)
    | _, _ => []
  { s with pick := { s.pick with set := set } }

/-- One TLV of a SET (R370). -/
def State.setEntry (s : State) (e : Envelope) (v : List Byte) : State :=
  let k := byteAt v 0
  let s1 := s.put EX_CFGVAL_VALUE (fieldAt v 4 4) k
  (s1.put EX_CFGSRC_ROLE e.role k).put EX_CFGSRC_SEQLO (e.seq % 65536) k

/-- One TLV of a LIMITS (R370): a VALUE outside the new limits is clamped. -/
def State.limitEntry (s : State) (e : Envelope) (v : List Byte) : State :=
  let k := byteAt v 0
  let lo := sField v 4
  let hi := sField v 8
  let s1 := (s.put EX_CFGMIN_MIN (fieldAt v 4 4) k).put EX_CFGMAX_MAX (fieldAt v 8 4) k
  let x := sgn (s1.rdw .EX_CFGVAL k)
  if lo ≤ x ∧ x ≤ hi then s1
  else
    let s2 := s1.put EX_CFGVAL_VALUE (wordOfInt (max lo (min hi x))).toNat k
    (s2.put EX_CFGSRC_ROLE e.role k).put EX_CFGSRC_SEQLO (e.seq % 65536) k

/-- A register image from a TLV: its EXV fields. -/
def State.exvImage (s : State) (r : RegId) (v : List Byte) (off i : Nat) : State :=
  s.wrw r (calWord v off &&& BitVec.ofNat 32 r.reg.exv) i

/-- One TLV of an ASSAY_SET (R265, R360). -/
def State.assayTlv (s : State) (t : Nat × List Byte) : State :=
  let n := fieldAt t.2 0 4
  if t.1 = 0x0501 then (s.exvImage .AS_WCFG t.2 0 0).each (List.range 16) State.windowShow
  else if t.1 = 0x0502 then
    let s1 := ((s.exvImage .AS_S0CTL t.2 4 n).exvImage .AS_S0WGT t.2 8 n).exvImage .AS_S0TOL t.2 12 n
    if h : n < 4 then s1.s0Restart ⟨n, h⟩ else s1
  else (s.exvImage .AS_TPOCTL t.2 4 n).exvImage .AS_TPOCONST t.2 8 n

/-- GEN that follows GEN `g` (R416). -/
def genNext (g : Nat) : Nat := if g = 65535 then 1 else g + 1

/-- An option block with a new GEN and CRC (R414, R416). -/
def optWith (b : List Byte) (gen : Nat) : List Byte :=
  let body := b.take 0x16 ++ leBytes 2 gen ++ sliceAt b 0x18 36
  body ++ leBytes 4 (crc32 body).toNat

/-- The option block of a Drift application goes into the copy that is not newer, or the invalid one (R416). -/
def State.optWrite (s : State) (payload : List Byte) : State :=
  let a := s.supply.optA
  let b := s.supply.optB
  let toB := if optValid a && optValid b then !newerB a b else optValid a
  let block := fixLen 64 payload
  if toB then s.updSupply (fun u => { u with optB := optWith block (genNext (optField a 0x16 2)) })
  else s.updSupply (fun u => { u with optA := optWith block (genNext (optField b 0x16 2)) })

/-- What follows from the activation of type `t` (R371). -/
def State.activated (s : State) (t : Nat) (i : ImageU) : State :=
  if t = 2 then s.optWrite i.payload
  else if t = 3 then s.pickShow
  else if t = 4 then ({ s with fm := { s.fm with next := some i.payload } }).put FM_FSTAT_PARAM_PENDING 1
  else if t = 5 then s.updAssay (fun a => { a with cal := some (i.payload, descArb i.desc), closeDue := some saveCal })
  else s

/-- The stored image of each type of the mask becomes the active one, and the OTP counts rise (R374, R375). -/
def State.activate (s : State) (mask : List Nat) : State :=
  let s1 := s.updBank (fun b => { b with
    activeB := Vector.ofFn (fun k : Fin 6 => if mask.contains (k.val + 1) then !b.activeB[k] else b.activeB[k])
    arb := Vector.ofFn (fun k : Fin 6 => if mask.contains (k.val + 1) then max b.arb[k] (((s.storedImage (k.val + 1)).map (fun i => descArb i.desc)).getD 0)
      else b.arb[k]) })
  let s2 := s1.each mask (fun s t => match s.activeImage t with
    | some i => s.activated t i
    | none => s)
  s2.bankShow

/-- The reset that follows an ACTIVATE or a TAMPER_ACK in RESTRICTED (R377), once its reply is out. -/
def State.askReset (s : State) : State :=
  s.updBank (fun b => { b with resetAsked := b.resetAsked || s.on BK_BKSTAT_RESTRICTED })

/-- An LC_ADVANCE is applied: the fuse group is programmed; the return entry runs before SCRAP from INTEGRATE (R332, R333, R335, R355). -/
def State.lcAdvance (s : State) (new : Nat) : State :=
  let entry := s.lc == lcIntegrate && new == lcScrap
  ((s.closeAdit 5).updBank (fun b => { b with fuse := some new, zeroising := b.zeroising || entry, returnEntry := b.returnEntry || entry })).bankShow

/-! ### READ and EXPORT (R336, R343, R360) -/

/-- A save record's bytes (R255). -/
def saveBytes (r : SaveRec) : List Byte :=
  let b := leBytes 8 r.seq ++ leBytes 1 r.kind ++ [0, 0, 0] ++ leBytes 8 r.rtc ++ leBytes 4 r.saveint.toNat ++ leBytes 4 r.pmax.toNat
    ++ leBytes 4 r.calstamp ++ r.masters.toList.flatMap (leBytes 8) ++ r.residues.toList.flatMap (leBytes 4)
    ++ r.s0.toList.flatMap (fun w => leBytes 4 w.toNat) ++ List.replicate 12 0
  b ++ leBytes 4 (crc32 b).toNat

/-- A tamper log entry's bytes (R352). -/
def tamperBytes (t : TamperEntry) : List Byte :=
  leBytes 8 t.rtc ++ [Config.tamperCode t.cause, Config.powerCode t.power] ++ leBytes 2 t.detail ++ leBytes 4 t.number

/-- Registers as bytes, in address order. -/
def State.regBytes (s : State) (r : RegId) (n : Nat) : List Byte := (List.range n).flatMap (fun i => leBytes 4 (s.view r (r.reg.f1 + i) 0).toNat)

/-- The Assay's save records, and its masters. -/
def State.recordParts (s : State) : List (List Byte) :=
  [(s.lamp.slot0.map saveBytes).getD [], (s.lamp.slot1.map saveBytes).getD [], (List.range 16).flatMap (fun r => leBytes 8 (s.master r))]

/-- The Assay's settings: its EXV registers (R267). -/
def State.settingBytes (s : State) : List Byte :=
  [.AS_MCFG, .AS_SAVEINT, .AS_PMAX, .AS_PCONST, .AS_ZXCFG, .AS_WCFG, .AS_CHGAIN, .AS_CHOFS, .AS_PHDLY, .AS_QGAIN, .AS_QOFS, .AS_S0CTL, .AS_S0WGT,
    .AS_S0TOL, .AS_TPOCTL, .AS_TPOCONST].flatMap (fun (r : RegId) => s.regBytes r r.reg.n1)

/-- The nine reset counters. -/
def State.resetCounts (s : State) : List Byte := s.regBytes .RS_RSTCNT 4 ++ s.regBytes .RS_RSTTOT 1

/-- One word of the register space as READ returns it, without the side effects of a read. -/
def State.wordAt (s : State) (a : Nat) : Word :=
  match regAt a with
  | some (r, i, j) => if s.regThere r i then s.view r i j else 0
  | none => 0

/-- The whole of a READ item; `off` names the slot or address for items that take it so. -/
def State.item (s : State) (e : Envelope) (item off : Nat) : List Byte :=
  if item = 0x0001 then s.regBytes .BK_BKSTAT 1 ++ s.regBytes .BK_DEVID 4 ++ s.regBytes .BK_SLOTMAP0 1 ++ s.regBytes .BK_SLOTMAP1 1
  else if item = 0x0002 then s.bank.certs
  else if item = 0x0003 then s.slotKey off
  else if 0x0011 ≤ item ∧ item ≤ 0x0016 then ((s.activeImage (item - 0x0010)).map (fun i => i.desc)).getD []
  else if item = 0x0022 ∨ item = 0x0024 then ((s.activeImage (item - 0x0020)).map (fun i => i.payload)).getD []
  else if item = 0x0030 then Config.itemLayout item (s.recordParts ++ [s.settingBytes])
  else if item = 0x0031 then Config.itemLayout item [s.resetCounts]
  else if item = 0x0040 then
    (if 0x40000000 ≤ off ∧ off ≤ 0x40FFFFFF then
      (List.range (min 256 ((0x41000000 - off + 3) / 4))).flatMap (fun k => leBytes 4 (s.wordAt (off + 4 * k)).toNat) else [])
  else if item = 0x0041 then s.bytes (ringBase + off) (min 4096 (256 * ringBursts - off))
  else if item = 0x0050 then
    Config.itemLayout item [s.regBytes .EX_CFGVAL 64, s.regBytes .EX_CFGMIN 64, s.regBytes .EX_CFGMAX 64, s.regBytes .EX_CFGSRC 64]
  else if item = 0x0051 then Config.itemLayout item (s.bank.revoked.map (leBytes 8))
  else if item = 0x0052 then Config.itemLayout item (s.lamp.log.map tamperBytes)
  else if item = 0x0053 then leBytes 8 (s.counter (roleCounter e.role))
  else Config.itemLayout item s.bank.groups

/-- The DATA of a READ: at most 4,096 bytes from OFFSET. -/
def State.readData (s : State) (e : Envelope) : List Byte :=
  let v := e.val 0x0101
  let it := fieldAt v 0 2
  let off := fieldAt v 4 4
  if it = 0x0003 ∨ it = 0x0040 ∨ it = 0x0041 then s.item e it off else ((s.item e it off).drop off).take 4096

/-- The DATA of an EXPORT (R336). -/
def State.exportData (s : State) : List Byte :=
  Config.itemLayout 0x10041 (s.recordParts ++ [s.resetCounts, s.lamp.counters.toList.flatMap (leBytes 8), s.lamp.log.flatMap tamperBytes])

/-! ### The effect of a class, and its DATA -/

/-- GENERATE (R341): the public key of a key pair is the DATA. -/
def State.generate (s : State) (v : List Byte) : State × List Byte :=
  let (n, s1) := s.nonce
  let alg := byteAt v 1
  let key := Config.newKey alg n
  let s2 := (s1.setSlot (byteAt v 0) (some ⟨key, alg, byteAt v 2⟩)).pickShow
  (s2, if alg ≤ 2 then Config.publicKey alg key else [])

/-- IMPORT (R341). -/
def State.importSlot (s : State) (v : List Byte) : State :=
  match s.unwrap v with
  | some key => (s.setSlot (byteAt v 0) (some ⟨key, byteAt v 1, byteAt v 2⟩)).pickShow
  | none => s

/-- SEAL_ACK (R323). -/
def State.sealAck (s : State) (v : Nat) : State :=
  let s1 := if s.on FM_FSTAT_SEAL_PENDING then s.raise 967 else s
  ((((s1.put FM_SEAL_SEALREF v).put FM_FSTAT_SEAL_PENDING 0).updBank (fun b => { b with sealSet := true }))).faultLine

/-- What a class's application changes, and its DATA. -/
def State.effect (s : State) (e : Envelope) : State × List Byte :=
  let c := e.cls
  if c = xRead then (s, s.readData e)
  else if c = xSet then ((s.each (e.vals 0x0201) (fun s v => s.setEntry e v)).raise 980, [])
  else if c = xLimits then ((s.each (e.vals 0x0202) (fun s v => s.limitEntry e v)).raise 980, [])
  else if c = xSchedule then (s.updBank (fun b => { b with schedule := e.val 0x0C01 }), [])
  else if c = xAssaySet then (s.each e.tlvs State.assayTlv, [])
  else if c = xAssayAck then (((s.put AS_ASTAT_UNSAVED 0).put AS_ASTAT_RECORD_LOST 0).wrw .AS_LOSS 0 0 |>.wrw .AS_LOSS 0 1, [])
  else if c = xCounterClear then ((s.each (List.range 4) (fun s k => s.wrw .RS_RSTCNT 0 k)).wrw .RS_RSTTOT 0, [])
  else if c = xCertRevoke then
    (s.updBank (fun b => { b with revoked := (((e.vals 0x0801).map (fun v => fieldAt v 0 8)).reverse ++ b.revoked).take 64 }), [])
  else if c = xGroupSet then (s.updBank (fun b => { b with groups := e.vals 0x0901 }), [])
  else if c = xEnrol then (s.setSlot (byteAt (e.val 0x1001) 0) (some ⟨sliceAt (e.val 0x1001) 3 97, 2, 0⟩), [])
  else if c = xRevoke then ((s.setSlot (byteAt (e.val 0x1101) 0) none).pickShow, [])
  else if c = xGenerate then s.generate (e.val 0x1201)
  else if c = xImport then (s.importSlot (e.val 0x1301), [])
  else if c = xSealAck then (s.sealAck (fieldAt (e.val 0x2001) 0 2), [])
  else if c = xTamperAck then
    ((({ s with lamp := { s.lamp with lost := false, ackNeeded := false } }).bankShow).askReset, [])
  else if c = xAditOpen then (s.openAdit e (fieldAt (e.val 0x2201) 0 2), [])
  else if c = xAditClose then (s.closeAdit 2, [])
  else if c = xActivate then ((s.activate e.mask).askReset, [])
  else if c = xLcAdvance then (s.lcAdvance (byteAt (e.val 0x4001) 0), [])
  else if c = xExport then (s, s.exportData)
  else (s, [])

/-! ### Application and its reply (R369) -/

/-- 0.9 ms. -/
def replyTicks : Nat := 225000

/-- LENGTH ÷ 4 MB/s in whole milliseconds, rounded up (R373). -/
def copyMs (n : Nat) : Nat := (n + 3999) / 4000

/-- When the application reply to an envelope is released: that of an IMAGE, applied or refused, at a time that LENGTH alone fixes (R345, R369, R373). -/
def State.answerAt (s : State) (e : Envelope) : Nat :=
  s.now + replyTicks + if e.cls = xImage then copyMs (descLength (e.val 0x3001)) * ms else 0

/-- An application reply waits for its release, behind those that are due no later. -/
def State.answer (s : State) (b : Nat) (e : Envelope) (reason : Nat) (data : List Byte) : State :=
  let r : ReplyU := ⟨b, reason, data, e, s.answerAt e⟩
  s.updBank (fun u => { u with replies := u.replies.filter (fun q => decide (q.due ≤ r.due)) ++ r :: u.replies.filter (fun q => decide (r.due < q.due)) })

/-- An application is refused with a check's code. -/
def State.refuse (s : State) (b : Nat) (e : Envelope) (code : Nat) : State :=
  ((s.bumpSat EX_EXCNT_REFUSED).raise 978).answer b e code []

/-- A calibration block is well formed: its PMAX is not below P_FS / 16 (R245, R256). -/
def calBodyOk (b : List Byte) : Bool :=
  decide ((calWord b 0xC0).toNat + (calWord b 0xC8).toNat + (calWord b 0xD0).toNat ≤ 16 * (calWord b 8).toNat)

/-- An IMAGE is applied (R373): its payload goes to the slot of its type that is not active, which holds no image until the reply. -/
def State.imageStart (s : State) (b : Nat) (e : Envelope) : State :=
  let d := e.val 0x3001
  let t := descType d
  let payload := s.sourceBytes e
  let toB := !s.activeIs t
  let good := hash384 payload == descHash d && (t != 5 || calBodyOk payload)
  let s1 := s.updBank (fun u => { u with
    serial := u.serial + 1
    imageA := if toB then u.imageA else Vector.ofFn (fun k : Fin 6 => if k.val + 1 = t then none else u.imageA[k])
    imageB := if toB then Vector.ofFn (fun k : Fin 6 => if k.val + 1 = t then none else u.imageB[k]) else u.imageB
    writing := some ⟨t, toB, if good then some ⟨d, payload, e, u.serial + 1⟩ else none,
      ⟨b, exvApplied, [], e, s.answerAt e⟩⟩ })
  s1.put EX_EXSTAT_IMGBUSY 1

/-- The application of an accepted envelope: checks 8a to 8d again, then all of it or nothing; a refused FLASH grant is a failed state condition (R436). -/
def State.applyEnvelope (s : State) (b : Nat) (e : Envelope) : State :=
  let code := s.checksLate e
  if code ≠ exvAccepted then s.refuse b e code
  else if e.cls = xImage then s.imageStart b e
  else
    let s1 := if flashClass e.cls then (s.grant clsFlash).2 else s
    let (s2, data) := s1.effect e
    (s2.raise 977).answer b e exvApplied data

/-- Step 1 of a frame boundary (R48, R369): every accepted envelope, in the order of acceptance. -/
def State.exviaBoundary (s : State) : State :=
  (s.updBank (fun u => { u with accepted := [] })).each s.bank.accepted (fun s p => s.applyEnvelope p.1 p.2)

/-! ### High-water marks (R366, R436) -/

/-- A counter's high-water mark. -/
def State.mark (s : State) (k : Nat) : Nat := s.bank.marks.toList.getD k 0

/-- The envelope at the front of the queue. -/
def State.frontEnvelope (s : State) : Option Envelope :=
  match s.bank.queue with
  | b :: _ => envelopeOf (s.mbBytes b (s.get EX_MBLEN_INLEN b))
  | [] => none

/-- The value that counter `k` is about to take: the SEQ of the waiting envelope, where its start awaits this counter's mark. -/
def State.markFor (s : State) (k : Nat) : Nat :=
  match s.frontEnvelope with
  | some e => if e.roles.any (fun r => roleCounter r == k) && (s.verdict e).2 then max (s.counter k) e.seq else s.counter k
  | none => s.counter k

/-- A counter is within 2^15 of its mark, or about to pass it. -/
def State.markDue (s : State) (k : Nat) : Bool := decide (s.mark k ≤ s.counter k + 32768) || decide (s.mark k < s.markFor k)

/-- Write a new mark under a FLASH grant, never a lower one; a refused request is repeated every 100 ms. -/
def State.markWrite (s : State) (k : Fin 32) : State :=
  let (ok, s1) := s.grant clsFlash
  if ok then
    s1.updBank (fun u => { u with
      marks := u.marks.set k.val (max u.marks[k] (s.markFor k.val + 65536)) k.isLt
      waitMarks := u.waitMarks.filter (· != k.val) })
  else (s1.updBank (fun u => { u with waitMarks := k.val :: u.waitMarks.filter (· != k.val) })).arm .grantRetry (100 * ms)

/-- A reply may go out (R366): DSEQ passes its mark only once a new one is written; a reply whose mark waits for its FLASH grant waits too. -/
def State.dseqReady (s : State) : Bool × State :=
  if s.counter 6 < s.mark 6 then (true, s)
  else
    let s1 := s.markWrite 6
    (decide (s1.counter 6 < s1.mark 6), s1)

/-! ### Releases of application replies (R369, R373) -/

/-- A reply that the Banksman serves on UART0 goes out there (R348). -/
def State.uartReply (s : State) (l : List Byte) : State :=
  if s.bank.uart then { s with host := { s.host with uarts := upd s.host.uarts 0 (fun u => { u with sent := l }) } } else s

/-- A reply goes to its buffer, while that is claimed and not submitted again, or serves UART0 (R348). -/
def State.release (s : State) (r : ReplyU) : State :=
  let (l, s0) := s.reply r.reason r.env.whole r.data
  let s1 := s0.uartReply l
  if (s1.on EX_MBCTL_CLAIMED r.buf || s1.bank.uart) && decide (r.buf < 8) && !s1.on EX_MBSTAT_BUSY r.buf then s1.mbReply r.buf r.reason l else s1

/-- The reset that waits for the last reply. -/
def State.resetIfAsked (s : State) : State :=
  if s.bank.resetAsked ∧ s.bank.replies = [] ∧ s.bank.writing = none then s.coldReset else s

/-- R369: 0.9 ms after the boundary of application. -/
def execApplicationReplyRelease (s : State) : Out :=
  .next (match s.bank.replies with
    | [] => s
    | r :: rest =>
      let (ok, s1) := (s.advanceTo r.due).dseqReady
      if ok then ((s1.updBank (fun u => { u with replies := rest })).release r).resetIfAsked else s1)

/-- R373: the IMAGE reply's time; `changed`: the payload changed during the copy. -/
def execImageReplyRelease (changed : Bool) (s : State) : Out :=
  .next (match s.bank.writing with
    | none => s
    | some w =>
      let img := if changed then none else w.image
      let (ok, s0) := (s.advanceTo w.reply.due).dseqReady
      if !ok then s0 else
      let s1 := s0.updBank (fun u => { u with
        writing := none
        imageA := if w.slotB then u.imageA else Vector.ofFn (fun k : Fin 6 => if k.val + 1 = w.typ then img else u.imageA[k])
        imageB := if w.slotB then Vector.ofFn (fun k : Fin 6 => if k.val + 1 = w.typ then img else u.imageB[k]) else u.imageB })
      let s2 := (s1.put EX_EXSTAT_IMGBUSY 0).raise 979
      let s3 := if img.isSome then s2.raise 977 else s2.bumpSat EX_EXCNT_REFUSED
      (s3.release { w.reply with reason := if img.isSome then exvApplied else exvBody }).resetIfAsked)

end Sys2Proof.Machine
end

