-- ==== Sys2Proof/Machine/Mailbox.lean ====
section
/-! DEFINITION. The Banksman's mailbox, the start and verdict of an envelope, local operations and high-water marks (R361 to R366, R378, R436). -/

namespace Sys2Proof.Machine

/-! ### Buffers (R361) -/

/-- The claiming pair of a buffer, in lock-step. -/
def State.mbOwner (s : State) (m : Master) (b : Nat) : Bool :=
  match m with
  | .pair n => s.lockstep m && s.on EX_MBCTL_CLAIMED b && s.get EX_MBCTL_PAIR b == n.val
  | _ => false

/-- WRITE_DENIED of a buffer. -/
def State.mbDenied (s : State) (b : Nat) : State := s.put EX_MBSTAT_WRITE_DENIED 1 b

/-- A local operation's reply (R378): STATUS, LEN, DATA. -/
def State.localReply (s : State) (b status : Nat) (data : List Byte) : State :=
  s.mbReply b status (leBytes 4 status ++ leBytes 4 data.length ++ data)

/-- STATUS of a local operation. -/
def stOk : Nat := 0
def stDenied : Nat := 1
def stInput : Nat := 2

/-- Submit a buffer: an envelope joins the queue; a local operation of no known OP is answered at once, its STATUS open. -/
def State.submit (s : State) (b : Nat) : State :=
  let s1 := s.put EX_MBSTAT_BUSY 1 b
  if s.get EX_MBCTL_KIND b = 0 then (s1.updBank (fun u => { u with queue := u.queue ++ [b] })).queueShow
  else
    let l := s.mbBytes b (s.get EX_MBLEN_INLEN b)
    let op := fieldAt l 0 2
    if l.length < 8 then s1.localReply b stInput []
    else if 1 ≤ op ∧ op ≤ 7 then s1
    else
      let (w, s2) := s1.free
      s2.localReply b (w.toNat % 256) []

/-- GO: refused for an INLEN of 0 or above 4,608; without effect while BUSY. -/
def State.mbGo (s : State) (b : Nat) : State :=
  let n := s.get EX_MBLEN_INLEN b
  if n = 0 ∨ 4608 < n then s.mbDenied b else if s.on EX_MBSTAT_BUSY b then s else s.submit b

/-- RELEASE: the buffer is free; an envelope not yet started is withdrawn, later replies have nowhere to go. -/
def State.mbRelease (s : State) (b : Nat) : State :=
  let gone (k : Nat) : Nat := if k = b then 8 else k
  let s1 := s.updBank (fun u => { u with
    queue := u.queue.filter (· != b)
    running := u.running.map (fun r => { r with buf := gone r.buf })
    accepted := u.accepted.map (fun p => (gone p.1, p.2))
    replies := u.replies.map (fun r => { r with buf := gone r.buf })
    writing := u.writing.map (fun w => { w with reply := { w.reply with buf := gone w.reply.buf } }) })
  ((s1.put EX_MBCTL_CLAIMED 0 b).put EX_MBSTAT_BUSY 0 b).queueShow

/-- The claiming pair's write to MBCTL: KIND, then GO, then RELEASE. -/
def State.mbctlAct (s : State) (b : Nat) (v : Word) : State :=
  let s1 := s.put EX_MBCTL_KIND (EX_MBCTL_KIND.of v) b
  let s2 := if EX_MBCTL_GO.of v = 1 then s1.mbGo b else s1
  if EX_MBCTL_RELEASE.of v = 1 then s2.mbRelease b else s2

/-- A write to MBCTL (R361): CLAIM by a lock-step pair takes a free buffer. -/
def State.mbctlWrite (s : State) (m : Master) (b : Nat) (v : Word) : State :=
  match m with
  | .pair n =>
    if s.mbOwner m b then s.mbctlAct b v
    else if s.lockstep m && !s.on EX_MBCTL_CLAIMED b && EX_MBCTL_CLAIM.of v == 1 then
      ((s.put EX_MBCTL_CLAIMED 1 b).put EX_MBCTL_PAIR n.val b).mbctlAct b v
    else s.mbDenied b
  | _ => s.mbDenied b

/-- A write to another mailbox register of buffer `b`: the data and MBLEN not while BUSY. -/
def State.mbWrite (s : State) (m : Master) (r : RegId) (v : Word) (b j : Nat) : State :=
  if s.mbOwner m b && (r == .EX_MBSTAT || !s.on EX_MBSTAT_BUSY b) then s.regWrite r v b j else s.mbDenied b

/-! ### High-water marks (R366, R436) -/

/-- R366: a mark is written before its counter passes it. -/
def execHighWaterMarkWrite (k : Fin 32) (s : State) : Out := .next (if s.markDue k.val then s.markWrite k else s)

/-- R436: a refused FLASH or ZERO request is repeated. -/
def execGrantRetry (s : State) : Out :=
  .next (s.onTimer .grantRetry (fun s =>
    let s1 := if s.bank.zeroWait then
        let (ok, t) := s.grant clsZero
        if ok then t.updBank (fun u => { u with zeroWait := false, zeroise := true }) else t.arm .grantRetry (100 * ms)
      else s
    s1.each (List.finRange 32) (fun t k => if s.bank.waitMarks.contains k.val then t.markWrite k else t)))

/-! ### Envelopes (R362 to R364) -/

/-- The first envelope of the queue may start: 1.0 ms after the last start, none in progress. -/
def State.mayStartEnvelope (s : State) : Bool :=
  s.bank.running.isNone && s.bank.lastStart.all (fun t => decide (t + ms ≤ s.now))

/-- The start of an envelope in buffer `b`. A start whose sequence check would carry a counter past its mark is delayed (R436). -/
def State.startEnvelope (s : State) (b : Nat) (rest : List Nat) : State :=
  let env := envelopeOf (s.mbBytes b (s.get EX_MBLEN_INLEN b))
  let (code, passed) := match env with
    | some e => s.verdict e
    | none => (exvFormat, false)
  let late := match env with
    | some e => passed && e.roles.any (fun r => decide (s.mark (roleCounter r) < e.seq))
    | none => false
  if late then s
  else
    let refused := match env with
      | some e => code == exvState && flashClass e.cls && s.classState e && !s.grantable clsFlash
      | none => false
    let s1 := (s.updBank (fun u => { u with
      queue := rest, lastStart := some s.now, running := some ⟨b, env, code, passed, s.now + replyTicks⟩ })).queueShow
    if refused then s1.put LA_LSTAT_GRANT_REFUSED 1 else s1

/-- R362: the Banksman starts the next envelope. -/
def execEnvelopeStart (s : State) : Out :=
  .next (match s.bank.queue with
    | b :: rest => if s.mayStartEnvelope then s.startEnvelope b rest else s
    | [] => s)

/-- The verdict of `r`: the counters of R364, the acceptance, the reply. -/
def State.releaseVerdict (s : State) (r : RunU) : State :=
  let s1 := match r.env with
    | some e => if r.seqPassed then s.each e.roles (fun s q => s.setCounter (roleCounter q) e.seq) else s
    | none => s
  let s2 := if r.reason = exvAccepted then s1.bumpSat EX_EXCNT_ACCEPTED else s1.bumpSat EX_EXCNT_REFUSED
  let s3 := s2.updBank (fun u => { u with
    running := none
    accepted := match r.env with
      | some e => if r.reason = exvAccepted then u.accepted ++ [(r.buf, e)] else u.accepted
      | none => u.accepted })
  let whole := match r.env with
    | some e => e.whole
    | none => s.mbBytes r.buf (s.get EX_MBLEN_INLEN r.buf)
  let (l, s5) := s3.reply r.reason whole []
  let s4 := s5.uartReply l
  if r.buf < 8 then s4.mbReply r.buf r.reason l else s4

/-- R345, R362: 0.9 ms after the start. -/
def execVerdictRelease (s : State) : Out :=
  .next (match s.bank.running with
    | some r =>
      let (ok, s1) := (s.advanceTo r.due).dseqReady
      if ok then s1.releaseVerdict r else s1
    | none => s)

/-! ### Local operations (R378) -/

/-- A local operation in a submitted buffer: its OP, SLOT, LEN and DATA. -/
structure LocalOp where
  op : Nat
  slot : Nat
  len : Nat
  data : List Byte
deriving DecidableEq, Repr

/-- The local operation that buffer `b` holds, while it is submitted. -/
def State.localOp (s : State) (b : Nat) : Option LocalOp :=
  let l := s.mbBytes b (s.get EX_MBLEN_INLEN b)
  if s.on EX_MBSTAT_BUSY b ∧ s.get EX_MBCTL_KIND b = 1 ∧ 8 ≤ l.length then some ⟨fieldAt l 0 2, byteAt l 2, fieldAt l 4 2, l.drop 8⟩ else none

/-- LEN agrees with the buffer's contents. -/
def LocalOp.lenOk (o : LocalOp) : Bool := decide (o.len ≤ 4096) && (if o.op = 6 then o.data.isEmpty else o.data.length == o.len)

/-- The key that a firmware operation may use: slots 25 to 47, filled, with bit `u` of the usage mask. -/
def State.localKey (s : State) (k u : Nat) : Option KeySlot :=
  if 25 ≤ k ∧ k ≤ 47 then (s.bank.slots.toList.getD k none).filter (fun x => x.usage / 2 ^ u % 2 == 1) else none

/-- An operation on a key: DENIED without one, INPUT for a wrong input, else its result for the key and a nonce. -/
def State.keyOp (s : State) (b op u : Nat) (f : KeySlot → List Byte → Nat → Option (List Byte)) : State :=
  match s.localOp b with
  | some o =>
    if o.op ≠ op then s
    else match s.localKey o.slot u with
      | none => s.localReply b stDenied []
      | some k =>
        let (n, s1) := s.nonce
        match (if o.lenOk then f k o.data n else none) with
        | some r => s1.localReply b stOk r
        | none => s1.localReply b stInput []
  | none => s

/-- R378: SIGN a 32- or 48-byte hash. -/
def execSign (b : Mbox) (s : State) : Out :=
  .next (s.keyOp b.val 1 0 (fun k d n => if d.length = 32 ∨ d.length = 48 then some (Config.sign k.key d n) else none))
/-- R378: ECDH with a peer public key. -/
def execEcdh (b : Mbox) (s : State) : Out := .next (s.keyOp b.val 2 1 (fun k d _ => Config.ecdh k.key d))
/-- R378: ENCRYPT, IV and data. -/
def execEncrypt (b : Mbox) (s : State) : Out :=
  .next (s.keyOp b.val 3 2 (fun k d _ => if 12 ≤ d.length then some (Config.gcmSeal k.key (d.take 12) (d.drop 12)) else none))
/-- R378: DECRYPT, IV, ciphertext and tag. -/
def execDecrypt (b : Mbox) (s : State) : Out :=
  .next (s.keyOp b.val 4 3 (fun k d _ => if 28 ≤ d.length then Config.gcmOpen k.key (d.take 12) (d.drop 12) else none))
/-- R378: HMAC. -/
def execHmac (b : Mbox) (s : State) : Out := .next (s.keyOp b.val 5 4 (fun k d _ => some (fixLen 48 (Config.hmac k.key d))))

/-- R378: RANDOM, LEN bytes. -/
def execRandom (b : Mbox) (s : State) : Out :=
  .next (match s.localOp b.val with
    | some o =>
      if o.op ≠ 6 then s
      else if o.lenOk then
        ({ s with freeIdx := s.freeIdx + o.len }).localReply b.val stOk ((List.range o.len).map (fun k => Config.randomByte (s.freeIdx + k)))
      else s.localReply b.val stInput []
    | none => s)

/-- COUNTER: LEN 0 reads; LEN 1 with byte 1 increments, saturating; an increment waits while its counter stands at its mark (R366). -/
def State.counterOp (s : State) (b : Nat) (o : LocalOp) : State :=
  if o.slot < 8 ∨ 32 ≤ o.slot then s.localReply b stDenied []
  else if o.len = 0 ∧ o.data = [] then s.localReply b stOk (leBytes 8 (s.counter o.slot))
  else if o.len = 1 ∧ o.data = [1#8] then
    let v := min (2 ^ 64 - 1) (s.counter o.slot + 1)
    if s.mark o.slot < v then s else (s.setCounter o.slot v).localReply b stOk (leBytes 8 v)
  else s.localReply b stInput []

/-- R378: COUNTER. -/
def execCounter (b : Mbox) (s : State) : Out :=
  .next (match s.localOp b.val with
    | some o => if o.op ≠ 7 then s else s.counterOp b.val o
    | none => s)

end Sys2Proof.Machine
end

