-- ==== Sys2Proof/Machine/Tamper.lean ====
section
/-! DEFINITION. Tamper sensing and zeroisation, life-cycle changes, the return entry, secure boot (R331 to R339, R346 to R352, R366, R375 to R377). -/

namespace Sys2Proof.Machine

/-! ### The tamper log (R352) -/

/-- Kinds of tamper events, numbered by the model. -/
def tmMesh : Nat := 0
def tmLamp : Nat := 1
def tmVolt : Nat := 2
def tmClock : Nat := 3
def tmTemp : Nat := 4

/-- The power state of an entry: 0 RUN, 1 NIGHT, 2 PARK, 3 LAMP-ONLY, numbered by the model. -/
def State.powerKind (s : State) : Nat := if s.supply.place = 1 then 2 else if s.supply.place = 2 then 3 else if s.night then 1 else 0

/-- A tamper-log entry; its detail is open. In LAMP-ONLY it needs a LOG grant (R434, R435). -/
def State.tamperLog (s : State) (kind : Nat) : State :=
  let (ok, s1) := if s.supply.place = 2 then s.grant clsLog else (true, s)
  if ok then
    let (w, s2) := s1.free
    s2.updLamp (fun l => { l with
      entries := l.entries + 1
      log := (⟨s.rtcNow, kind, s.powerKind, w.toNat % 65536, (l.entries + 1) % 2 ^ 32⟩ :: l.log).take 64 })
  else s1

/-! ### Breaches and zeroisation (R349 to R351) -/

/-- A breach latched in the Lamp domain while the control die is off; in LAMP-ONLY it needs a LOG grant. -/
def State.latchBreach (s : State) (kind : Nat) : State :=
  let (ok, s1) := if s.supply.place = 2 then s.grant clsLog else (true, s)
  if ok then (s1.updLamp (fun l => { l with breach := true, meshBreach := l.meshBreach || kind == tmMesh })).tamperLog kind else s1

/-- A breach: in PARK it is latched and wakes the module (R404); with the control die powered, TAMPERED is set, the module zeroises and logs; the tamper reset follows the zeroisation. -/
def State.breach (s : State) (kind : Nat) : State :=
  if s.supply.place = 0 then
    let s1 := (s.updLamp (fun l => { l with breach := true, meshBreach := l.meshBreach || kind == tmMesh })).updBank (fun u => { u with tampered := true, zeroising := true, zeroise := true })
    (((s1.tamperLog kind).closeAdit 3).grant clsZero).2.bankShow
  else (s.latchBreach kind).wake true 4

/-- R349: a check of the lid mesh, every 100 µs with the control die powered and every 250 ms without: TMESH_I at the level `level` must return the bit that
TMESH_O drives, and the sequence goes on; three failing in a row make a breach. -/
def execMeshCheck (level : Bool) (s : State) : Out :=
  .next (s.every .mesh s.meshPeriod (fun s => if !s.lamp.powered then s
    else
      let k := if level == s.bank.mesh.getLsbD 0 then 0 else s.bank.meshFails + 1
      let s1 := s.updBank (fun u => { u with meshFails := k, mesh := Config.meshNext u.mesh })
      if 3 ≤ k && !s.lamp.breach then s1.breach tmMesh else s1))

/-- R351: the zeroisation completes: slots 1 and 4 to 63, the reload store and the Pick engine memories are erased. A zeroisation outside
the start-up is followed by the tamper reset (R350). -/
def execZeroisationComplete (s : State) : Out :=
  .next (if s.bank.zeroise then
    let s1 := (s.eraseSlots (fun k => k == 1 || decide (4 ≤ k))).pickPowerOff.pickShow
    let s2 := (s1.updBank (fun u => { u with zeroise := false, zeroising := false })).updLamp (fun l => { l with breach := false, meshBreach := false })
    (if s.supply.step = 4 then s2 else s2.reset3 scopeControl 7).bankShow
  else s)

/-! ### Glitches (R350) -/

/-- 24 h in counts of the Lamp clock. -/
def dayCounts : Nat := 86400 * 32768

/-- A voltage, clock or powered temperature event: logged and counted, the Adit port closes, the Banksman operation in progress is lost with
the tamper reset; in PARK the event wakes the module (R404). The 9th within 24 h asks for RESTRICTED until a TAMPER_ACK. -/
def State.glitch (s : State) (kind : Nat) (f : Fld) : State :=
  let t := s.rtcNow
  let recent := (t :: s.lamp.glitchAt).filter (fun x => decide (t < x + dayCounts))
  let s1 := (s.updLamp (fun l => { l with
    glitches := l.glitches + 1, glitchAt := recent, ackNeeded := l.ackNeeded || decide (9 ≤ recent.length) })).tamperLog kind
  let open_ := s.bank.adit.isSome
  let s2 := ((s1.closeAdit 3).updBank (fun u => { u with running := none }))
  let s3 := if s.supply.place = 0 then s2.reset3 scopeControl 7 else s2.wake true 4
  ((if open_ then s3.put BK_ADITSTAT_CLOSEWHY 3 else s3).put f 1).bankShow

/-- R350: the control-die core or Banksman rail leaves its window, in RUN and NIGHT. -/
def execVoltageGlitch (s : State) : Out :=
  .next (if s.supply.place = 0 then s.glitch tmVolt BK_TAMPSTAT_VGLITCH else s)
/-- R350: the Banksman clock's period leaves its window, in RUN and NIGHT. -/
def execClockGlitch (s : State) : Out :=
  .next (if s.supply.place = 0 then s.glitch tmClock BK_TAMPSTAT_CGLITCH else s)
/-- R349, R350: a temperature leaves its window: in LAMP-ONLY as a breach, else as a powered temperature event. -/
def execTemperatureEvent (s : State) : Out :=
  .next (if s.supply.place = 2 then (if s.lamp.powered then s.breach tmLamp else s) else s.glitch tmTemp BK_TAMPSTAT_TEMP)

/-! ### Life cycle (R332, R333, R335) -/

/-- The life-cycle state that the fuse groups decode to (R331): each transition of R332 adds its group; any other pattern is SCRAP. -/
def decodeFuses (f : Vector Bool 5) : Nat :=
  match f.toList with
  | [false, false, false, false, false] => lcBlank
  | [true, false, false, false, false] => lcMaker
  | [true, true, false, false, false] => lcIntegrate
  | [true, true, true, false, false] => lcField
  | [true, true, true, true, false] => lcReturn
  | _ => lcScrap

/-- The fuse group of a state is programmed; the state never goes back. -/
def BankU.burn (u : BankU) (lc : Nat) : BankU :=
  let f := Vector.ofFn (fun k : Fin 5 => u.fuses[k] || k.val + 1 == lc)
  { u with fuses := f, lc := max u.lc (decodeFuses f) }

/-- R333: a life-cycle fuse group is programmed. Entry to RETURN starts its sequence; every other change is followed by a cold reset. -/
def execLcFuseProgrammed (s : State) : Out :=
  .next (match s.bank.fuse with
    | none => s
    | some new =>
      if s.bank.returnEntry then s
      else
        let s1 := s.updBank (fun u => { u.burn new with fuse := none })
        if new = lcReturn then (s1.updBank (fun u => { u with zeroising := true, returnEntry := true })).bankShow
        else
          let s2 := if new = lcIntegrate then s1.eraseSlots (fun k => decide (48 ≤ k))
            else if new = lcScrap ∧ s.lc = lcReturn then s1.eraseSlots (fun k => k != 2 && k != 3)
            else s1
          s2.coldReset)

/-- The Lamp-domain registers that the return entry keeps (R335, R424): the energy masters with what follows them, the S0 counts of the save records, the
reset counters, the clock, and what the gauge computes (R437). -/
def returnKept : List RegId :=
  [.AS_EMLO, .AS_EMHI, .AS_EWIN, .AS_WRAPS, .AS_S0CNT, .RS_RSTCNT, .RS_RSTTOT, .LA_RTCLO, .LA_RTCHI, .LA_GAUGE, .LA_GHELD]

/-- The gauge after its settings and its capacitance are reset (R424): the strap, the path in use and the store's voltage are what they are. -/
def State.gaugeKeep (s old : State) : State :=
  ((s.put LA_LSTAT_LSTART (old.get LA_LSTAT_LSTART)).put LA_LSTAT_PATH (old.get LA_LSTAT_PATH)).gaugeAt (old.get LA_CAP_VSTORE)

/-- What the return entry erases (R335, R420): with the settings that a role holds in the registers go the option block, the calibration block and
SEALREF. -/
def State.returnErase (s : State) : State :=
  let s1 := (s.eraseSlots (fun k => (decide (4 ≤ k) && decide (k ≤ 7)) || (decide (12 ≤ k) && decide (k ≤ 47)))).pickPowerOff
  let s2 := ((s1.clearMem 0x10000000 0x800000).clearMem 0x20000000 0x400000).clearMem 0x80000000 0x20000000
  let s3 := s2.updBank (fun u => { u with
    imageA := Vector.replicate 6 none, imageB := Vector.replicate 6 none, writing := none, groups := [], revoked := [], schedule := []
    sealSet := false, zeroising := false, returnEntry := false })
  let s4 := s3.resetRegsWhere (fun r _ => (r.reg.cls == .lamp && !returnKept.contains r) || r.reg.cls == .nv || r == .FM_SEAL)
  let s5 := (s4.updAssay (fun a => { a with cal := none, calstamp := 0 })).updSupply (fun u => { u with optA := [], optB := [] })
  ((s5.gaugeKeep s).each (List.range 16) (fun s r => s.windowShow r)).pickShow

/-- R335: the return entry completes: a cold reset, or before SCRAP its fuse group. -/
def execReturnEntryComplete (s : State) : Out :=
  .next (if s.bank.returnEntry then
    let s1 := s.returnErase
    if s.bank.fuse = some lcScrap then s1.bankShow else s1.coldReset
  else s)

/-- R332, R338, R339, R416: Itoton production test of a BLANK module: the MAKER root keys, the device identity keys with their certificates, the device
identifier, the Itoton test keys, the default option block in both copies, the MAKER state. -/
def execItotonProductionTest (s : State) : Out :=
  .next (if s.lc = lcBlank then
    let (a, s1) := s.nonce
    let (b, s2) := s1.nonce
    let key (k : Nat) : Option KeySlot :=
      if k = 0 then some ⟨Config.newKey 2 a, 2, 0⟩ else if k = 1 then some ⟨Config.newKey 1 b, 1, 0⟩ else some ⟨Config.makerKey k, 2, 0⟩
    let s3 := s2.updBank (fun u => { u.burn lcMaker with
      certs := Config.identityCerts, devId := (hash384 (Config.publicKey 2 (Config.newKey 2 a))).take 16
      slots := Vector.ofFn (fun k : Fin 64 =>
        if k.val < 4 then key k.val else if 48 ≤ k.val then some ⟨Config.testKey k.val, 0, 0⟩ else u.slots[k]) })
    (s3.updSupply (fun u => { u with optA := defaultOption 1, optB := defaultOption 2 })).idShow
  else s)

/-! ### Secure boot (R347, R348, R376, R377) -/

/-- The images of a type at a start: the active copy, else the other, which becomes active with FALLBACK; MISSING and STEPFAIL. -/
def State.bootType (s : State) (t : Nat) : State :=
  let a := s.activeImage t
  let b := s.storedImage t
  let step (i : Option ImageU) : Bool := i.any (fun x => !s.namesStep x)
  let s1 := if step a then s.put EX_EXSTAT_STEPFAIL 1 else s
  if a.any (s.imagePasses t) then s1
  else
    let s2 := if step b then s1.put EX_EXSTAT_STEPFAIL 1 else s1
    if b.any (s.imagePasses t) then
      (s2.updBank (fun u => { u with activeB := Vector.ofFn (fun k : Fin 6 => if k.val + 1 = t then !u.activeB[k] else u.activeB[k]) })).put
        EX_EXSTAT_FALLBACK 1
    else if 2 ≤ t ∧ t ≤ 5 then s2.put EX_EXSTAT_MISSING 1 else s2

/-- The active image of a type passes. -/
def State.bootPasses (s : State) (t : Nat) : Bool := (s.activeImage t).any (s.imagePasses t)

/-- The parameter block that the start delivers to the Foreman (R324). -/
def State.bootParam (s : State) : State :=
  match (if s.bootPasses 4 then s.activeImage 4 else none) with
  | some i =>
    if s.fm.param = some i.payload then s
    else if s.paramMayAct then s.paramInForce i.payload
    else ({ s with fm := { s.fm with next := some i.payload } }).put FM_FSTAT_PARAM_PENDING 1
  | none => s.paramNone

/-- The module starts in RESTRICTED (R350, R351, R376). -/
def State.mustRestrict (s : State) : Bool :=
  s.on EX_EXSTAT_MISSING || s.on EX_EXSTAT_SETFAIL || s.bank.tampered || s.lamp.ackNeeded || s.lamp.lost || s.lc == lcReturn

/-- Step 1 of R347: the boot ROM reads the life-cycle fuses, which are never undone. -/
def State.readFuses (s : State) : State := s.updBank (fun u => { u with lc := max u.lc (decodeFuses u.fuses) })

/-- Steps 3 to 6 of R347. The key store that step 4 authenticates is the slots: the Banksman alone changes them, so it is authentic. What was active when
the die started is in force from here on (R371). -/
def State.bootImages (s : State) : State :=
  let s1 := s.bootType 1
  if !s1.bootPasses 1 then (s1.updSupply (fun u => { u with bootFail := true })).faultLine
  else
    let s2 := s1.each [2, 3, 4, 5, 6] State.bootType
    let s3 := if setRule (fun t => if s2.bootPasses t then s2.activeImage t else none) then s2 else s2.put EX_EXSTAT_SETFAIL 1
    let s4 := if s3.bootPasses 3 then s3.pickShow else { s3 with pick := { s3.pick with set := [] } }
    let app := s4.bootPasses (if s4.lc = lcReturn then 6 else 2)
    let s5 := s4.bootParam.updBank (fun u => { u with uart := !app, startB := u.activeB })
    let s6 := ((s5.put BK_BKSTAT_RESTRICTED (s5.mustRestrict || !app).toNat).bankShow).updSupply (fun u => { u with step := 5 })
    let s7 := s6.raiseIf (s6.on BK_BKSTAT_RESTRICTED || s6.on EX_EXSTAT_FALLBACK) 981
    if s7.pairsMayStart then s7.each (List.range 16) (fun s n => s.setPst n pairStart) else s7

/-- Step 2 of R347: a latched breach is taken up, an unfinished zeroisation or return entry too; true where such work holds the start. -/
def State.bootPending (s : State) : Bool × State :=
  if s.bank.zeroise ∨ s.bank.zeroWait ∨ s.bank.returnEntry then (true, s)
  else if s.lamp.breach ∨ (s.bank.zeroising ∧ s.lc ≠ lcReturn ∧ s.bank.fuse ≠ some lcScrap) then
    let s1 := s.updBank (fun u => { u with tampered := true, zeroising := true })
    let (ok, s2) := s1.grant clsZero
    (true, (if ok then s2.updBank (fun u => { u with zeroise := true })
      else (s2.updBank (fun u => { u with zeroWait := true })).arm .grantRetry (100 * ms)).bankShow)
  else if s.bank.zeroising then (true, s.updBank (fun u => { u with returnEntry := true }))
  else (false, s)

/-- Every counter restored to its mark, after the Lamp domain was lost (R366). -/
def State.restoreCounters (s : State) : State :=
  if s.lamp.lost then s.updLamp (fun l => { l with counters := s.bank.marks }) else s

/-- R347: secure boot, once the option block is loaded. -/
def execSecureBoot (s : State) : Out :=
  .next (if s.supply.step = 4 ∧ !s.supply.bootFail then
    let (held, s1) := s.readFuses.idShow.bootPending
    if held then s1 else s1.restoreCounters.bootImages
  else s)

end Sys2Proof.Machine
end

