-- ==== Sys2Proof/Machine/SharedMem.lean ====
section
/-! DEFINITION. Shared memory (R271, R438 to R440): what an access does, and the requests of crews that wait for budget (R50, R52, R53). -/

namespace Sys2Proof.Machine

/-! ### Bus answers -/

/-- An access completes with a word. -/
def State.busAnswer (s : State) (v : Word) : State := { s with bus := ⟨v, .ok⟩ }

/-- What a pair in lock-step loads from outside its TCM and owned regions passes through the ingress unit (R277, R279). -/
def State.busLoad (s : State) (m : Master) (v : Word) : State :=
  match m with
  | .pair n => (if s.lockstep m then s.ingress n.val inLoad v else s).busAnswer v
  | _ => s.busAnswer v

/-- An access faults (R438, R439): a core takes a load or store access fault, which a pair takes through its ingress unit, any other master's transfer ends with an error status. -/
def State.accessFault (s : State) (m : Master) (a : Nat) (op : MemOp) : State :=
  let cause : Word := match op with
    | .read => 5
    | .write _ _ => 7
  match m with
  | .pair n =>
    let s1 := if s.lockstep m && op == .read then s.ingress n.val inLoad 0 else s
    { s1.takeTrap n.val 0 cause (BitVec.ofNat 32 a) with bus := ⟨0, .accessFault⟩ }
  | .core n k => { s.takeTrap n.val k.val cause (BitVec.ofNat 32 a) with bus := ⟨0, .accessFault⟩ }
  | _ => { s with bus := ⟨0, .errorStatus⟩ }

/-! ### What leaves a pair -/

/-- A write that a pair in SERVICE releases outside its TCM and owned regions (R282). -/
def State.noteWrite (s : State) (m : Master) (a : Nat) (b : List Byte) : State :=
  match m with
  | .pair n => if s.pst n.val = pairService then s.countEgress n.val a b else s
  | _ => s

/-! ### Words of memory -/

/-- SRAM ECC at the word of address `a`: 0 no error, 1 corrected, 2 uncorrectable. -/
def State.sramEcc (s : State) (a ecc : Nat) : State :=
  if ecc = 1 then (s.put SE_MEMSTAT_SRAM_CORR 1).bumpSat SE_MEMSTAT_SRAMCNT
  else if ecc = 2 then ((s.put SE_MEMSTAT_SRAM_UNCORR 1).put SE_MEMERRA_ADDR (a / 8 * 8)).raise 661
  else s

/-- A word of memory. -/
def State.memWord (s : State) (a : Nat) : Word := BitVec.ofNat 32 (leNat (s.bytes a 4))

/-- Store the bytes of `v` whose enables are set. -/
def State.putWord (s : State) (a : Nat) (be : BitVec 4) (v : Word) : State :=
  s.each (List.range 4) (fun s k => if be.getLsbD k then s.setByte (a + k) (BitVec.ofNat 8 (bits v (8 * k) 8)) else s)

/-- The enabled bytes of a write. -/
def beBytes (be : BitVec 4) (v : Word) : List Byte :=
  ((List.range 4).filter (fun k => be.getLsbD k)).map (fun k => BitVec.ofNat 8 (bits v (8 * k) 8))

/-- The crew that an access of a master counts against (R50): a core's current crew, the crew `c` that a DMA channel names. The Banksman's counts
against none. -/
def State.accessCrew (s : State) (m : Master) (c : Nat) : Option Nat :=
  match m with
  | .pair n => some (s.crewOf n.val 0)
  | .core n k => some (s.crewOf n.val k.val)
  | .dma => some c
  | .banksman => none

/-- Whether an access is held: its crew, enabled, is parked or has no beats (R50, R53). -/
def State.heldCrew (s : State) (c : Option Nat) : Bool :=
  match c with
  | some k => (s.crew k).en && !s.hasBudget k .beats
  | none => false

/-- Count one beat of shared memory. -/
def State.chargeBeat (s : State) (c : Option Nat) : State :=
  match c with
  | some k => s.charge k .beats 1
  | none => s

/-- Whether a write to shared memory is refused (R271, R439): in another pair's region, or in the journal areas while there are spares. -/
def State.writeDenied (s : State) (m : Master) (a : Nat) : Bool :=
  (match s.regionOwner a with
    | some k => masterPair m != some k
    | none => false)
    || (decide (0x10680000 ≤ a) && decide (a < 0x10800000) && s.optSpares != 0)

/-- Whether an address is in a pair's TCM or one of its owned regions, for a pair in lock-step. -/
def State.inside (s : State) (m : Master) (a : Nat) : Bool :=
  match m with
  | .pair n => s.journaled n.val a
  | _ => false

/-- A read that completes: through the ingress unit from outside. -/
def State.memRead (s : State) (m : Master) (a : Nat) : State :=
  if s.inside m a then s.busAnswer (s.memWord a) else s.busLoad m (s.memWord a)

/-- A write that completes: the journal first (R281), what leaves the pair noted (R282). -/
def State.memWrite (s : State) (m : Master) (a : Nat) (be : BitVec 4) (v : Word) : State :=
  let s1 := match m with
    | .pair n => if s.journaled n.val a then s.journalLine n.val a else s.noteWrite m a (beBytes be v)
    | _ => s
  (s1.putWord a be v).busAnswer 0

/-- An access to shared SRAM or DRAM (R271, R439, R440). -/
def State.sharedAccess (s : State) (m : Master) (c : Option Nat) (a : Nat) (op : MemOp) (ecc : Nat) : State :=
  let s1 := s.chargeBeat c
  match op with
  | .write be v =>
    if s1.writeDenied m a then ((s1.noteWrite m a (beBytes be v)).put DR_DSTAT_OWNRGN_DENIED 1).busAnswer 0
    else s1.memWrite m a be v
  | .read =>
    let e := if a < 0x20000000 then ecc else 0
    let s2 := s1.sramEcc a e
    if e = 2 then s2.accessFault m a op else s2.memRead m a

/-- An access to the Seam ring (R438): who else reads it than a pair in lock-step gets an open value. -/
def State.ringAccess (s : State) (m : Master) (c : Option Nat) (a : Nat) (op : MemOp) : State :=
  let s1 := s.chargeBeat c
  match op with
  | .write be v => ((s1.noteWrite m a (beBytes be v)).put SE_SSTAT_RING_DENIED 1).busAnswer 0
  | .read =>
    if s.lockstep m then s1.memRead m a
    else
      let (w, s2) := s1.free
      s2.busAnswer w

/-! ### Requests (R50, R52, R53) -/

/-- A request for shared memory acts: the Seam ring, or SRAM and DRAM. -/
def State.sharedAct (s : State) (q : HeldReq) : State :=
  if 0x80000000 ≤ q.addr ∧ q.addr < 0x98000000 then s.ringAccess q.master q.crew q.addr q.op
  else s.sharedAccess q.master q.crew q.addr q.op q.ecc

/-- A request for shared memory: it waits while its crew may not use a beat (R50, R53). -/
def State.sharedRequest (s : State) (q : HeldReq) : State :=
  if s.heldCrew q.crew then s.updPlan (fun u => { u with held := u.held ++ [q] }) else s.sharedAct q

/-- The first crew of a list after crew `last`, around (R52). -/
def nextCrew (last : Nat) (l : List Nat) : Option Nat :=
  ((List.range 64).map (fun k => (last + 1 + k) % 64)).find? l.contains

/-- The crew of a request that waits. -/
def HeldReq.crewNo (q : HeldReq) : Nat := q.crew.getD 0

/-- The requests of a list in round robin over their crews, the first of each crew's in turn after crew `last`, `k` of them. -/
def robin : Nat → Nat → List HeldReq → List HeldReq
  | 0, _, _ => []
  | k + 1, last, l =>
    match (nextCrew last (l.map HeldReq.crewNo)).bind (fun c => l.find? (fun q => q.crewNo == c)) with
    | some q => q :: robin k q.crewNo (l.erase q)
    | none => l

/-- The requests that wait: those of essential crews ahead, in their order, and the others in round robin over their crews (R52). -/
def State.heldOrder (s : State) : List HeldReq × List HeldReq :=
  let ess (q : HeldReq) : Bool := q.crew.any (fun c => (s.crew c).essential)
  let rest := s.plan.held.filter (fun q => !ess q)
  (s.plan.held.filter ess, robin rest.length s.plan.beatLast rest)

/-- The released crews' requests act (R48, R53); one whose crew has no beat again waits on, one whose master's ports are closed is gone (R285). -/
def State.serveHeld (s : State) : State :=
  let (ess, rest) := s.heldOrder
  let last := (rest.getLast?.map HeldReq.crewNo).getD s.plan.beatLast
  (s.updPlan (fun u => { u with held := [], beatLast := last })).each (ess ++ rest) (fun s q => if s.busOpen q.master then s.sharedRequest q else s)

end Sys2Proof.Machine
end

