-- ==== Sys2Proof/Machine/Headframe.lean ====
section
/-! DEFINITION. The Headframe (R33 to R45): angle domains and their sources, the grid tracker, angle event slots; and the choice of the frame
source (R46, R47), which follows the domains' states. -/

namespace Sys2Proof.Machine

/-! ### Slot registers (R45) -/

/-- The position has reached NEXT (R42): the signed difference modulo 2^64. -/
def State.slotDue (s : State) (k : Nat) : Bool := decide (0 ≤ (s.slotPos k - s.slotNext k).toInt)

/-- R45: EVTCTL written. A change of DOMAIN while EN is 1 is refused. -/
def State.evtctlWrite (s : State) (k : Nat) (v : Word) : State :=
  let d := s.get EV_EVTCTL_DOMAIN k
  let was := s.on EV_EVTCTL_EN k
  let s1 := s.condWrite .EV_EVTCTL v EV_EVTCTL_DOMAIN.mask (!was) (fun s => s.put HF_DOMSTAT_WRITE_DENIED 1 d) k
  if !was && s1.on EV_EVTCTL_EN k then s1.armSlot k else s1

/-- R45: EVTANG written: while EN is 1, NEXT keeps its turn and takes the angle, a turn later when that lies at or behind the position. -/
def State.evtangWrite (s : State) (k : Nat) (v : Word) : State :=
  let s1 := s.regWrite .EV_EVTANG v k
  if s1.on EV_EVTCTL_EN k then s1.setNext k (nextAhead (s1.slotPos k) (s1.slotNext k) (s1.rdw .EV_EVTANG k)) else s1

/-! ### Firing (R42, R43) -/

/-- The targets of a slot's enabled actions, in the order of the table of R42; A_PICK with a cell above 47 has no effect (R55). -/
def slotTargets (ctl tgt : Word) : List SlotTarget :=
  (if EV_EVTCTL_A_CONV.of ctl = 1 then [.sequence (EV_EVTTGT_SEQ.of tgt)] else [])
    ++ (if EV_EVTCTL_A_PICK.of ctl = 1 ∧ EV_EVTTGT_CELL.of tgt < 48 then [.pick (EV_EVTTGT_CELL.of tgt)] else [])
    ++ (if EV_EVTCTL_A_ASSAY.of ctl = 1 then [.assay] else [])
    ++ (if EV_EVTCTL_A_SEAM.of ctl = 1 then [.seam (EV_EVTTGT_SEAMTRIG.of tgt)] else [])
    ++ (if EV_EVTCTL_A_INT.of ctl = 1 then [.source (EV_EVTTGT_INTSEL.of tgt)] else [])

/-- Deliver one action of slot `k`; a Pick request reaches its pair 8 ns after the slot's tick (R42). -/
def State.slotAct (s : State) (k : Nat) (t : SlotTarget) : State :=
  match t with
  | .sequence q => s.seqTrigger q false
  | .pick c => s.requestCell c clsHf k false 2
  | .assay => s.assaySlot
  | .seam n => s.fire n
  | .source n => s.raise n

/-- The targets served by a domain's slots in this tick (R43). -/
def State.servedNow (s : State) : List (Nat × SlotTarget) := if s.head.servedAt = s.now then s.head.served else []

/-- Deliver an action, or merge it into an earlier slot's of the same domain and tick (R43). -/
def State.slotDeliver (s : State) (d k : Nat) (t : SlotTarget) : State :=
  if s.servedNow.contains (d, t) then s.put EV_EVTSTAT_MERGED 1 k
  else { s with head := { s.head with served := s.servedNow ++ [(d, t)], servedAt := s.now } }.slotAct k t

/-- A slot fires (R42). -/
def State.fireSlot (s : State) (skipped : Bool) (k : Nat) : State :=
  let d := s.get EV_EVTCTL_DOMAIN k
  let n := atLeast1 (s.get EV_EVTCTL_NTURN k)
  let s1 := s.bump EV_EVTSTAT_COUNT k
  let s2 := if s.on EV_EVTCTL_ONESHOT k then s1.put EV_EVTCTL_EN 0 k
    else s1.setNext k (s.slotNext k + BitVec.ofNat 64 (n * 2 ^ 32))
  let s3 := if skipped then s2.put EV_EVTSTAT_SKIPPED 1 k else s2
  s3.each (slotTargets (s.rdw .EV_EVTCTL k) (s.rdw .EV_EVTTGT k)) (fun s t => s.slotDeliver d k t)

/-- Insert a slot by its NEXT, relative to the position, equal ones in the order of their numbers (R43). -/
def insertSlot (x : Int × Nat) : List (Int × Nat) → List (Int × Nat)
  | [] => [x]
  | y :: l => if x.1 < y.1 then x :: y :: l else y :: insertSlot x l

/-- Fire slots in the order of R43. -/
def State.fireSlots (s : State) (skipped : Bool) (l : List Nat) : State :=
  let keyed := l.foldl (fun a k => insertSlot ((s.slotNext k - s.slotPos k).toInt, k) a) []
  s.each (keyed.map Prod.snd) (fun s k => s.fireSlot skipped k)

/-- Ticks until a position 2^16-fold `left` ahead is reached at `inc` a tick. -/
def ticksTo (left inc : Nat) : Nat := if inc = 0 then 0 else (left + inc - 1) / inc

/-- R42: the slot's domain reaches NEXT: every slot of the domain that is due fires in this tick (R43). A slot that is not enabled, or whose
domain's slots do not fire (R35), has no such event. -/
def execSlotFire (k : EvSlot) (s : State) : Out :=
  let d := s.get EV_EVTCTL_DOMAIN k.val
  .next (if s.on EV_EVTCTL_EN k.val && s.usable d then
    let left := (BitVec.ofNat 80 ((s.slotNext k.val).toNat * 2 ^ 16) - (s.dom d).pos).toInt
    let s1 := if left ≤ 0 then s else s.advance (ticksTo left.toNat (s.get HF_INC_INC d))
    s1.fireSlots false ((s1.slotsOf d).filter s1.slotDue)
  else s)

/-! ### The steps of a frame boundary (R48) -/

/-- Release the frame waits of every core (step 5 of R48). A pair in RECOVERY finds the boundary pending, and so does the spare of a faulty pair, whose own wait
stands (R289); the cores of a pair whose JOIN is due wait on (R296). -/
def State.releaseWaits (s : State) (filler : Bool) : State :=
  s.each (List.range 16) (fun s n =>
    if s.get DR_PSTATE_STATE n = 6 then s.updPair n (fun p => { p with missed := some filler })
    else if s.lineMasked n then
      (if (s.pairU n).mate.isSome && s.armed (.takeover n) then s.updPair n (fun p => { p with missed := some filler }) else s)
    else if (s.pairU n).joining = 2 then s
    else
      let s1 := (s.endWait n 0 false filler).coreIrq n 0
      if s1.isSplit n then (s1.endWait n 1 false filler).coreIrq n 1 else s1)

/-- A JOIN takes effect from a frame boundary (R296). -/
def State.joinsDue (s : State) : State :=
  s.each (List.range 16) (fun s n =>
    if s.isSplit n && (s.pairU n).joining == 1 then s.updPair n (fun p => { p with joining := 2 }) else s)

/-- The pairs that run crews: in SERVICE without a fault, and SPLIT. -/
def State.runningPairs (s : State) : List Nat :=
  (List.range 16).filter (fun n => s.isSplit n || (s.get DR_PSTATE_STATE n == 2 && !(s.pairU n).faulted))

/-- The steps of R48, in their order; the grant set is that of the frame that begins, or of the current frame at a filler boundary. A crew that is
current and whose new Drift grant is 0 does not run (R50): it leaves its pair as at an exhausted budget (DEDUCED, log entry 121). -/
def State.boundarySteps (s : State) (filler : Bool) : State :=
  let s1 := s.exviaBoundary.commitPlan
  let s2 := (s1.reloadBudgets (s1.get SP_STAT_FRAME)).reloadCredit
  let s3 := s2.each (List.range 16) (fun s n => s.beginCheckpoint n true)
  let s4 := (((s3.releaseCrews.each (List.range 64) State.streamAnew).serveHeld).joinsDue).releaseWaits filler
  (s4.each s4.runningPairs State.stopSpentPair).updPlan (fun u => { u with wasFiller := filler, madeAt := some s.now })

/-- A boundary of the frame source at frame `f`: the frame number, and the filler count from here (R48, R49). -/
def State.boundaryAt (s : State) (f : BitVec 38) : State :=
  ((s.put SP_STAT_FRAME (f.toNat % 64)).updPlan (fun u => { u with lastFrame := f, lastAt := s.now, fillers := 0 })).boundarySteps false

/-! ### Steps (R44) -/

/-- A signed angle difference (R7). -/
def angDiff (a b : Word) : Int := (a - b).toInt

/-- Move a domain's position by `y` of 2^-16 au; TURN counts a forward wrap and never decrements (R33, R44). -/
def State.movePos (s : State) (d : Nat) (y : Int) : State :=
  let p := (s.dom d).pos
  let q := p + BitVec.ofInt 80 y
  let crossed := if y ≤ 0 then 0 else (p.toNat % 2 ^ 48 + y.toNat) / 2 ^ 48
  if crossed = 0 then s.updDom d (fun u => { u with pos := q })
  else
    (s.updDom d (fun u =>
      { u with pos := q, turnMean := if u.incTicks = 0 then u.turnMean else some (divOpen u.incSum u.incTicks), incSum := 0, incTicks := 0 })).bump
      HF_TURN_TURN d 0 crossed

/-- The boundary that a forward step of the frame source makes, `n` frames on; where a switch is awaited, the frame is extended instead (R47, R49). -/
def State.stepBoundary (s : State) (f : BitVec 38) (n : Nat) : State :=
  match s.plan.await with
  | some d => s.updPlan (fun u => { u with awaitFrame := some (frame38 (s.dom d).pos) })
  | none => (s.bump SP_CNT_SKIP 0 0 (n - 1)).boundaryAt f

/-- A step of a domain by `y` of 2^-16 au: every slot whose NEXT a forward step passes fires, SKIPPED (R44). A step of the frame source over frame
boundaries makes one, which counts at the last of them: the slots before it deliver before it, the others after it (R43, R49). -/
def State.stepFine (s : State) (d : Nat) (y : Int) : State :=
  let before := (s.slotsOf d).filter (fun k => !s.slotDue k)
  let s1 := s.movePos d y
  if 0 < y ∧ s1.usable d then
    let passed := before.filter s1.slotDue
    let f := frame38 (s1.dom d).pos
    let n := (f - s.plan.lastFrame).toInt
    if s1.get SP_STAT_SOURCE = d ∧ s1.plan.awaitFrame.isNone ∧ 0 < n then
      let early (k : Nat) : Bool := decide ((s1.slotNext k - BitVec.ofNat 64 (f.toNat * 2 ^ 26)).toInt < 0)
      ((s1.fireSlots true (passed.filter early)).stepBoundary f n.toNat).fireSlots true (passed.filter (fun k => !early k))
    else s1.fireSlots true passed
  else s1

/-- A step of a domain by a signed angle (R44). -/
def State.stepDomain (s : State) (d : Nat) (x : Int) : State := s.stepFine d (x * 65536)

/-! ### The loss of a source (R40, R41) -/

/-- R40: COASTMAX elapses. -/
def execCoastTimeout (d : Dom) (s : State) : Out :=
  .next (s.onTimer (.coast d.val) (fun s => if s.domSt d.val = domCoast then s.setDomState d.val domLost else s))

/-- R41: 8 superframes without a valid angle broadcast. -/
def execUhlaSourceLoss (d : Dom) (s : State) : Out :=
  .next (s.onTimer (.uhlaSource d.val) (fun s => s.srcLost d.val srcUhla))

/-- R41: 1 ms has passed without a write of the domain's Pick pair. -/
def execPickSourceTimeout (d : Dom) (s : State) : Out :=
  .next (s.onTimer (.pickSource d.val) (fun s => s.srcLost d.val srcPick))

/-- The loss rule of a Pick or Uhla source counts from now (R34, R41). -/
def State.restartLoss (s : State) (d : Nat) : State :=
  let s1 := (s.disarm (.pickSource d)).disarm (.uhlaSource d)
  if (s.dom d).src = srcPick then s1.arm (.pickSource d) ms
  else if (s.dom d).src = srcUhla then s1.arm (.uhlaSource d) (8 * us) else s1

/-- The domains under UHLA. -/
def State.uhlaDomains (s : State) : List Nat := [0, 1, 2, 3].filter (fun d => (s.dom d).src == srcUhla)

/-- The states of R41 on a valid event: `live` sets the angle in ACQUIRE and LIVE, and on leaving LOST; `back` on the return from COAST. -/
def State.validEvent (s : State) (d : Nat) (live back : State → State) : State :=
  let st := s.domSt d
  let s1 :=
    if st = domAcquire then (live s).setDomState d domLive
    else if st = domCoast then back (s.setDomState d domLive)
    else if st = domLost then live (s.setDomState d domAcquire)
    else live s
  s1.restartLoss d

/-! ### A change of source (R34) -/

/-- A change of SRC takes effect (R34). -/
def State.applySrc (s : State) (d : Nat) : State :=
  let new := s.get HF_DOMCTL_SRC d
  let old := (s.dom d).src
  if new = old then s
  else
    let s1 := s.updDom d (fun u => { u with src := new, below := 0, above := 0, lockFrom := none })
    let s2 :=
      if new = srcOff then s1.setDomState d domOff
      else if old = srcOff then (s1.setInc d s1.nomInc false).setDomState d domAcquire
      else if s1.domSt d = domLost then s1.setDomState d domAcquire
      else s1
    (s2.restartLoss d).coastPick

/-- R34: a change of SRC at a tracker update. -/
def execDomainSrcApply (d : Dom) (s : State) : Out := .next (s.applySrc d.val)

/-! ### The grid tracker (R36 to R40) -/

/-- The return threshold in force (R54). -/
def State.retThr (s : State) (d : Nat) : Nat :=
  let c := s.get HF_TRKTHR_COASTTHR d
  let r := s.get HF_TRKTHR_RETTHR d
  if r ≤ c then c + 0x800 else r

/-- PMAG at or above a threshold of NOMMAG. -/
def State.magAtLeast (s : State) (d thr : Nat) (pmag : Word) : Bool :=
  decide (thr * (s.rdw .HF_NOMMAG d).toNat ≤ pmag.toNat * 65536)

/-- The tracker's increment, when it has one. -/
def State.trkInc (s : State) (d : Nat) (inc : Option Nat) : State :=
  match inc with
  | some n => s.setInc d n true
  | none => s

/-- Lock (R36): the conditions have held for two turns: of the domain's own position, counted from the first update in ACQUIRE at which they hold
(DESIGN CHOICE, log entry 114). -/
def State.trkLock (s : State) (d : Nat) (t : TrkMeas) : State :=
  if s.magAtLeast d (s.retThr d) t.pmag && t.phaseOk && decide (400000 ≤ t.freq.toNat) && decide (t.freq.toNat ≤ 720000) && s.trkinOk d then
    match (s.dom d).lockFrom with
    | none => s.updDom d (fun u => { u with lockFrom := some u.pos })
    | some p => if 2 * 2 ^ 48 ≤ ((s.dom d).pos - p).toInt then s.setDomState d domLive else s
  else s.updDom d (fun u => { u with lockFrom := none })

/-- Whole degrees in au, rounded to the nearest (R7). -/
def degAu (x : Nat) : Nat := (2 * x * 2 ^ 32 + 360) / 720

/-- Whether a jump exceeds JTHR degrees (R39). -/
def State.jumpSeen (s : State) (d : Nat) (j : Word) : Bool :=
  let thr := min 90 (s.get HF_DOMCTL_JTHR d)
  thr != 0 && decide (degAu thr < j.toInt.natAbs)

/-- Jump detection (R39), whatever the domain's state; an angle that LOST holds is not stepped (R35; DEDUCED, log entry 79). -/
def State.trkJump (s : State) (d : Nat) (jump : Option Word) : State :=
  match jump with
  | some j =>
    if s.jumpSeen d j then
      let s1 := (s.wrw .HF_JUMPANG j d).put HF_DOMSTAT_JUMP 1 d
      if s1.on HF_DOMCTL_JMODE d && s1.domSt d != domLost then s1.stepDomain d j.toInt else s1
    else s
  | none => s

/-- The coast increment of R40: the mean kept at the first of the updates below COASTTHR. Where no whole turn had ended the spec gives none: a
free increment. -/
def State.coastInc (s : State) (d : Nat) : State :=
  match (s.dom d).coastMean with
  | some n => s.setInc d n false
  | none =>
    let (w, s1) := s.free
    s1.setInc d w.toNat false

/-- The return from COAST (R40). -/
def State.trkReturn (s : State) (d : Nat) (ang : Word) : State :=
  let x := angDiff ang (posAng (s.dom d).pos)
  (((s.setDomState d domLive).wrw .HF_JUMPANG (wordOfInt x) d).put HF_DOMSTAT_JUMP 1 d).stepDomain d x

/-- The rules that act on the domain under SRC = TRACKER (R36, R39, R40). R40 names no state that COAST is entered from: LIVE (DEDUCED, log
entry 79). -/
def State.trackerRules (s : State) (d : Nat) (t : TrkMeas) : State :=
  let low := !s.magAtLeast d (s.get HF_TRKTHR_COASTTHR d) t.pmag
  let high := s.magAtLeast d (s.retThr d) t.pmag && s.trkinOk d
  let s1 := (s.trkJump d t.jump).updDom d (fun u =>
    { u with
      coastMean := if low ∧ u.below = 0 then u.turnMean else u.coastMean
      below := if low then u.below + 1 else 0
      above := if high then u.above + 1 else 0 })
  let st := s1.domSt d
  if st = domAcquire then (if s1.trkinOk d then (s1.trkInc d t.inc).trkLock d t else s1.trkLock d t)
  else if st = domLive then
    if 3 ≤ (s1.dom d).below then (s1.coastInc d).coast d
    else s1.trkInc d t.inc
  else if st = domCoast then
    if 5 ≤ (s1.dom d).above then (s1.trkReturn d t.ang).trkInc d t.inc else s1
  else if st = domLost then
    if 5 ≤ (s1.dom d).above then (s1.setDomState d domAcquire).trkInc d t.inc else s1
  else s1

/-- The Headframe record of stream 49, every HFDIV updates of the domain (R442). -/
def State.hfRecord (s : State) (d : Dom) : State :=
  let n := s.seam.hfCount[d] + 1
  let div := bits (s.rdw .SE_STRCFG 49) (8 + 4) 4 + 1
  let s1 := { s with seam := { s.seam with hfCount := s.seam.hfCount.set d.val (if n ≥ div then 0 else n) d.isLt } }
  if n ≥ div then
    s1.record 49 d.val 4 d.val [posAng (s.dom d.val).pos, s.rdw .HF_TURN d.val, s.rdw .HF_FREQ d.val, s.rdw .HF_ROCOF d.val,
      s.rdw .HF_PMAG d.val, s.rdw .HF_NMAG d.val, s.rdw .HF_JUMPANG d.val]
  else s1

/-- What the tracker measures, 0 while a slice number of TRKIN is above 239 (R54). -/
def State.trkMeasures (s : State) (d : Nat) (t : TrkMeas) : TrkMeas :=
  if s.trkinOk d then t
  else { t with freq := 0, pmag := 0, nmag := 0, nang := 0, jump := none, inc := none, phaseOk := false }

/-- ROCWIN as it acts (R54). -/
def State.rocWin (s : State) (d : Nat) : Nat := min 50 (atLeast1 (s.get HF_TRKIN_ROCWIN d))

/-- The difference of FREQ over a time in ticks, in 1 mHz/s; its rounding is open (R37). -/
def freqSlope (f f₀ ticks : Nat) : Int :=
  if f₀ ≤ f then divOpen ((f - f₀) * 25000000) ticks else -(divOpen ((f₀ - f) * 25000000) ticks : Int)

/-- ROCOF (R37): at each end of a turn of the tracker's measured angle, where it passes 0 au forward, the difference of FREQ across ROCWIN turns; until that many turns have
ended, and between the ends of turns, it stays. It reads 0, and the turns count anew, while a TRKIN slice number is above 239. -/
def State.trkRocof (s : State) (d : Nat) (t : TrkMeas) : State :=
  if !s.trkinOk d then (s.wrw .HF_ROCOF 0 d).updDom d (fun u => { u with lastAng := none, turnFreqs := [] })
  else
    let u := s.dom d
    let ended := match u.lastAng with
      | some a => decide (t.ang.toNat < a.toNat) && decide (0 < (t.ang - a).toInt)
      | none => false
    let s1 := s.updDom d (fun u => { u with
      lastAng := some t.ang
      turnFreqs := if ended then ((t.freq.toNat, s.now) :: u.turnFreqs).take 51 else u.turnFreqs })
    match ended, u.turnFreqs[s.rocWin d - 1]? with
    | true, some (f₀, at_) => s1.wrw .HF_ROCOF (wordOfInt (freqSlope t.freq.toNat f₀ (s.now - at_))) d
    | _, _ => s1

/-- R34, R36 to R40, R132: an update of domain `d`'s tracker. Windows that end on tracker updates close, a change of SRC takes effect, the
measures are written whatever SRC holds, and under TRACKER the rules act. -/
def execTrackerUpdate (d : Dom) (t : TrkMeas) (s : State) : Out :=
  let s1 := (s.closeBy 2 d.val).applySrc d.val
  let m := s1.trkMeasures d.val t
  let s2 := ((((s1.wrw .HF_FREQ m.freq d.val).trkRocof d.val m).wrw .HF_PMAG m.pmag d.val).wrw .HF_NMAG m.nmag d.val).wrw
    .HF_NANG m.nang d.val
  let s3 := if s2.trackerDriven d.val then s2.trackerRules d.val m else s2
  .next (s3.hfRecord d)

/-- R33: the angle of a domain that advances wraps forward past 0 au: time moves on to that tick, and TURN counts (see `State.advanceDom`). -/
def execAngleWrap (d : Dom) (s : State) : Out :=
  .next (if domAdvances (s.domSt d.val) then
    s.advance (ticksTo (2 ^ 48 - (s.dom d.val).pos.toNat % 2 ^ 48) (s.get HF_INC_INC d.val))
  else s)

/-! ### Register writes -/

/-- A write to DOMCTL, TRKIN, TRKTHR, NOMMAG, DOMSTAT or another register of a domain. A PICKCELL whose pair may not drive the domain is the loss of
its source (R41). -/
def State.domainWrite (s : State) (d : Nat) (r : RegId) (v : Word) : State := (s.regWrite r v d).coastPick

end Sys2Proof.Machine
end

