-- ==== Sys2Proof/Machine/Frames.lean ====
section
/-! DEFINITION. Frame boundaries of the Shift plan (R47 to R49), and the application of accepted envelopes at them (R369). -/

namespace Sys2Proof.Machine

/-- Time moves on to a source's next boundary after frame `f`, unless it lies behind the position already. -/
def State.toBoundary (s : State) (pos : BitVec 80) (inc : Nat) (f : BitVec 38) : State :=
  let left := (BitVec.ofNat 80 ((f + 1).toNat * 2 ^ 42) - pos).toInt
  if left ≤ 0 then s else s.advance (ticksTo left.toNat inc)

/-- R48, R49: the frame source crosses a frame boundary. Where a switch is awaited, the frame is extended instead (R47). A forward step over
several frames makes one boundary, and SKIP counts the frames passed over. -/
def State.frameBoundary (s : State) : State :=
  if s.plan.awaitFrame.isSome then s
  else
    let s1 := s.toBoundary s.sourcePos.1 s.sourcePos.2 s.plan.lastFrame
    let f := frame38 s1.sourcePos.1
    let n := (f - s1.plan.lastFrame).toInt
    if n ≤ 0 then s1
    else
      match s1.plan.await with
      | some d => s1.updPlan (fun u => { u with awaitFrame := some (frame38 (s1.dom d).pos) })
      | none => (s1.bump SP_CNT_SKIP 0 0 (n.toNat - 1)).boundaryAt f

/-- R48: a frame boundary. -/
def execFrameBoundary (s : State) : Out := .next s.frameBoundary

/-- R47: the awaited domain reaches its first frame boundary after the current source's. -/
def execFrameSourceSwitch (s : State) : Out :=
  .next (match s.plan.await, s.plan.awaitFrame with
    | some d, some f =>
      let s1 := s.toBoundary (s.dom d).pos (s.get HF_INC_INC d) f
      let g := frame38 (s1.dom d).pos
      if (g - f).toInt ≤ 0 then s1
      else (((s1.put SP_STAT_SOURCE d).bump SP_CNT_SRCCHG).updPlan (fun u => { u with await := none, awaitFrame := none })).boundaryAt g
    | _, _ => s)

/-- The tick of the next filler boundary (R49): 585.9375 µs after the last boundary that was none, then 390.625 µs after each filler
boundary, each on the first tick at or after its instant. -/
def State.fillerDue (s : State) : Nat := s.plan.lastAt + 146485 + 97657 * s.plan.fillers

/-- Whether the frame source makes a boundary at or before the tick of the next filler boundary. -/
def State.sourceFirst (s : State) : Bool :=
  let (pos, inc) := s.sourcePos
  let p := pos + BitVec.ofNat 80 ((s.fillerDue - s.now) * inc)
  s.plan.awaitFrame.isNone && s.plan.await.isNone && decide (0 < (frame38 p - s.plan.lastFrame).toInt)

/-- R49: a filler boundary: the frame number stays, FILLER counts. There is none while the source makes its own boundaries in time. -/
def execFillerBoundary (s : State) : Out :=
  .next (if s.sourceFirst then s
    else
      let s1 := s.advanceTo s.fillerDue
      ((s1.bump SP_CNT_FILLER).updPlan (fun u => { u with fillers := u.fillers + 1 })).boundarySteps true)

/-! ### Envelopes at the next boundary (R369) -/

/-- Ticks until the next boundary: the frame source's, or that of the awaited domain, or a filler boundary before it. -/
def State.boundaryIn (s : State) : Nat :=
  let (pos, inc, f) := match s.plan.await, s.plan.awaitFrame with
    | some d, some f => ((s.dom d).pos, s.get HF_INC_INC d, f)
    | _, _ => (s.sourcePos.1, s.sourcePos.2, s.plan.lastFrame)
  let left := (BitVec.ofNat 80 ((f + 1).toNat * 2 ^ 42) - pos).toInt
  let fill := s.fillerDue - s.now
  if left ≤ 0 then 0 else if inc = 0 then fill else min fill (ticksTo left.toNat inc)

/-- Time moves on to the next boundary, where one is ahead. -/
def State.toNextBoundary (s : State) : State := s.advanceTo (s.now + s.boundaryIn)

/-- A class's command: the oldest accepted envelope, where it is of that class, is applied at the next boundary, at the head of its first step (R48).
While a switch is awaited whose domain is not yet due, no boundary is known (R47). -/
def State.applyClass (s : State) (cls : Nat) : State :=
  match s.bank.accepted with
  | (b, e) :: rest =>
    if e.cls = cls ∧ (s.plan.await.isNone ∨ s.plan.awaitFrame.isSome) then
      (s.toNextBoundary.updBank (fun u => { u with accepted := rest })).applyEnvelope b e
    else s
  | [] => s

/-- R360: READ. -/
def execReadItem (s : State) : Out := .next (s.applyClass xRead)
/-- R370: SET. -/
def execSetEntries (s : State) : Out := .next (s.applyClass xSet)
/-- R370: LIMITS. -/
def execLimits (s : State) : Out := .next (s.applyClass xLimits)
/-- R230: ISL_SCHEDULE. -/
def execIslSchedule (s : State) : Out := .next (s.applyClass xSchedule)
/-- R265: ASSAY_SET. -/
def execAssaySet (s : State) : Out := .next (s.applyClass xAssaySet)
/-- R258: ASSAY_ACK. -/
def execAssayAck (s : State) : Out := .next (s.applyClass xAssayAck)
/-- R411: COUNTER_CLEAR. -/
def execCounterClear (s : State) : Out := .next (s.applyClass xCounterClear)
/-- R344, R360: CERT_REVOKE. -/
def execCertRevoke (s : State) : Out := .next (s.applyClass xCertRevoke)
/-- R360: GROUP_SET. -/
def execGroupSet (s : State) : Out := .next (s.applyClass xGroupSet)
/-- R340: ENROL. -/
def execEnrol (s : State) : Out := .next (s.applyClass xEnrol)
/-- R340, R341: REVOKE. -/
def execRevoke (s : State) : Out := .next (s.applyClass xRevoke)
/-- R341: GENERATE. -/
def execGenerate (s : State) : Out := .next (s.applyClass xGenerate)
/-- R341: IMPORT. -/
def execImportKey (s : State) : Out := .next (s.applyClass xImport)
/-- R323: SEAL_ACK. -/
def execSealAck (s : State) : Out := .next (s.applyClass xSealAck)
/-- R350: TAMPER_ACK. -/
def execTamperAck (s : State) : Out := .next (s.applyClass xTamperAck)
/-- R353: ADIT_OPEN. -/
def execAditOpen (s : State) : Out := .next (s.applyClass xAditOpen)
/-- R355: ADIT_CLOSE. -/
def execAditClose (s : State) : Out := .next (s.applyClass xAditClose)
/-- R373: IMAGE. -/
def execImage (s : State) : Out := .next (s.applyClass xImage)
/-- R374: ACTIVATE. -/
def execActivate (s : State) : Out := .next (s.applyClass xActivate)
/-- R333: LC_ADVANCE. -/
def execLcAdvance (s : State) : Out := .next (s.applyClass xLcAdvance)
/-- R336: EXPORT. -/
def execExportRecords (s : State) : Out := .next (s.applyClass xExport)

end Sys2Proof.Machine
end

