-- ==== Sys2Proof/Machine/Uhla.lean ====
section
/-! DEFINITION. The Uhla link: ports and ranks (R454 to R456), shared values (R460, R461), trips (R465 to R467) and their registers (R477). -/

namespace Sys2Proof.Machine

/-- A write was refused (R460, R477). -/
def State.uhlaDenied (s : State) : State := s.put UH_USTAT_CFG_DENIED 1

/-- Only lock-step pairs write Uhla registers (R477). -/
def State.uhlaWrite (s : State) (m : Master) (f : State → State) : State := if s.lockstep m then f s else s.uhlaDenied

/-! ### RINGOK and ports (R456, R468) -/

/-- R456: a port in TRAIN, whose conditions have held for 1 ms, becomes UP. The wait of R464 for a superframe begins with the first port. -/
def execPortUp (p : Fin 2) (s : State) : Out :=
  .next (if s.uhlaRuns ∧ s.get UH_UPORT_STATE p.val = portTrain then
    let s0 := s.advanceTo s.uhla.portAt[p]
    let s1 := if s0.portIsUp 0 || s0.portIsUp 1 then s0 else s0.updUhla (fun u => { u with lastValid := s0.now })
    s1.setPort p.val portUp
  else s)

/-- R456: a port becomes DOWN: a lane lost block lock, superframes failed their CRC, or with `gid` the neighbour is of another gallery. -/
def execPortDown (p : Fin 2) (gid : Bool) (s : State) : Out :=
  .next (if s.uhlaRuns ∧ s.get UH_UPORT_STATE p.val ≠ portDown then
    let s1 := s.setPort p.val portDown
    if gid then (s1.put UH_UPORT_GID_MISMATCH 1 p.val).updUhla (fun u => { u with portAt := setAt u.portAt p.val (s1.now + 100 * ms) }) else s1
  else s)

/-- R456: a DOWN port retrains: its lanes regained block lock, or 100 ms have passed since GID_MISMATCH. -/
def execPortRetrain (p : Fin 2) (s : State) : Out :=
  .next (if s.uhlaRuns ∧ s.get UH_UPORT_STATE p.val = portDown then (s.advanceTo s.uhla.portAt[p]).setPort p.val portTrain else s)

/-- R458: the measured delay of a port's incoming link, in 62.5 ps; measured in TRAIN too, since R456 asks for it before UP. -/
def execLinkDelayMeasure (p : Fin 2) (d : BitVec 24) (s : State) : Out :=
  .next (if s.uhlaRuns ∧ s.get UH_UPORT_STATE p.val ≠ portDown then s.put UH_UPORT_DELAY d.toNat p.val else s)

/-- A write to UCTL (R455): RANK and MFLAG keep their values from EN = 1 until cold reset; EN starts the ports' training; cleared, it ends
it, and with it this device's mastership (R24): its UHLA domains wait for broadcasts from then on (R41). The spec names no status for a write that would
change the locked RANK or MFLAG: CFG_DENIED (DESIGN CHOICE, log entry 116). -/
def State.uctlWrite (s : State) (v : Word) : State :=
  let was := s.on UH_UCTL_EN
  let mask := UH_UCTL_RANK.mask ||| UH_UCTL_MFLAG.mask
  let s1 := s.condWrite .UH_UCTL v mask (!was && !s.uhla.locked) State.uhlaDenied
  if !was && s1.on UH_UCTL_EN then
    let s2 := s1.updUhla (fun u => { u with locked := true, lastValid := s1.now })
    if s2.released uUhla then (s2.setPort 0 portTrain).setPort 1 portTrain else s2
  else if was && !s1.on UH_UCTL_EN then
    let s2 := (((s1.setPort 0 portDown).setPort 1 portDown).put UH_USTAT_MASTER 0).updUhla (fun u =>
      { u with txAt := none, reqm := false, handover := none })
    if s.on UH_USTAT_MASTER then s2.each s2.uhlaDomains State.restartLoss else s2
  else s1

/-- A write to UGID (R455). One that would change the locked GID sets CFG_DENIED (DESIGN CHOICE, log entry 116). -/
def State.ugidWrite (s : State) (v : Word) : State :=
  s.condWrite .UH_UGID v UH_UGID_GID.mask (!s.on UH_UCTL_EN && !s.uhla.locked) State.uhlaDenied

/-! ### Shared values (R460, R461) -/

/-- Publish a value (R460). -/
def State.publish (s : State) (v : Nat) (w : Word) : State :=
  if h : v < 256 then s.updUhla (fun u => { u with published := u.published.set v (u.published[v].put w s.now) h }) else s

/-- A UHX publish from cell `c` (R114, R460): refused unless the cell sources the value. -/
def State.uhxPublish (s : State) (c v : Nat) (w : Word) : State :=
  if s.sources v && !s.on UH_USVCFG_SRC v && s.get UH_USVCFG_ID v == c then s.publish v w else s.put PK_ARBCTL_OUT_DENIED 1 c

/-- R460: USVPUT written: only by the lock-step pair that USVCFG names. -/
def State.usvputWrite (s : State) (m : Master) (v : Nat) (w : Word) : State :=
  if s.lockstep m && s.sources v && s.on UH_USVCFG_SRC v && masterPair m == some (s.get UH_USVCFG_ID v) then s.publish v w
  else s.uhlaDenied

/-- A write to USVCFG (R460): enabling a 22nd value has no effect. -/
def State.usvcfgWrite (s : State) (v : Nat) (w : Word) : State :=
  if UH_USVCFG_EN.of w = 1 ∧ !s.sources v ∧ 21 ≤ s.sourced v then s.uhlaDenied else s.regWrite .UH_USVCFG w v

/-! ### Trips (R465 to R467) -/

/-- Whether the cause of a trip holds (R465). -/
def State.tripHolds (s : State) (t : TripU) : Bool :=
  let m := BitVec.ofNat 8 t.mask
  match t.cause with
  | 0 => (List.range 8).any (fun b => m.getLsbD b && s.on CG_BSTAT_TURNOFF b)
  | 1 => (List.range 8).any (fun b => m.getLsbD b && s.bitOf FM_FSTAT_SF2INH b)
  | _ => s.on UH_UTRIPGO_HOLD

/-- R465: the trip blocks are repeated while their causes hold. An own trip that has not returned within 2.9 µs leaves the ring open (R467, R468). -/
def execTripRepeat (s : State) : Out :=
  .next (s.onTimer .tripRepeat (fun s =>
    let s1 := s.updUhla (fun u => { u with trips := u.trips.filter s.tripHolds })
    let s2 := if !s1.uhla.returned && decide (725 < s1.now - s1.uhla.sentAt) then s1.setRing false else s1
    if s2.uhla.trips.isEmpty then s2 else s2.arm .tripRepeat us))

/-- A write to UTRIPGO (R465). -/
def State.utripgoWrite (s : State) (v : Word) : State :=
  let s1 := s.regWrite .UH_UTRIPGO v
  if UH_UTRIPGO_GO.of v = 1 then s1.tripSend 2 (s1.get UH_UTRIPGO_MASK) else s1

/-- An own trip block comes back: the return time and RINGOK (R467, R468). -/
def State.tripReturned (s : State) : State :=
  if s.uhla.returned then s
  else
    let s1 := (s.updUhla (fun u => { u with returned := true })).putFit UH_RINGLAT_LAT ((s.now - s.uhla.sentAt) * 4)
    s1.setRing s1.bothUp

/-- The groups of a trip take effect (R466). -/
def State.actTrip (s : State) (mask : Nat) : State :=
  let m := mask &&& s.get UH_UTRIPCFG_RXMASK
  if m = 0 then s
  else ((s.orPut UH_UTRIP_UTRIP m).each ((List.range 8).filter (fun g => (BitVec.ofNat 8 m).getLsbD g)) State.regateBlock).raise 896

/-- A group was named by a trip block (R466). -/
def State.noteTrip (s : State) (mask : BitVec 8) : State :=
  s.updUhla (fun u => { u with
    arrived := Vector.ofFn (fun g : Fin 8 => if mask.getLsbD g.val then some s.now else u.arrived[g]) })

/-- R466: a trip block arrives on a port. A bad CRC is counted; the own trip is absorbed; of another origin the first arrival acts. -/
def execTripBlockReceive (p : Fin 2) (origin : Fin 16) (tseq : Fin 16) (mask gid : BitVec 8) (crcOk : Bool) (s : State) : Out :=
  .next (if !s.uhlaRuns || !s.portIsUp p.val then s
    else if !crcOk then (s.bumpSat UH_UERR_TRIPERR).raise 902
    else if gid.toNat ≠ s.get UH_UGID_GID % 256 then s
    else if origin.val = s.rank then s.tripReturned
    else
      let s1 := s.noteTrip mask
      let seen := s1.uhla.seen[origin]
      if seen.contains tseq.val then s1
      else
        (s1.updUhla (fun u => { u with seen := u.seen.set origin.val ((tseq.val :: seen).take 8) origin.isLt })).actTrip mask.toNat)

/-- Whether a block naming group `g` arrived within the last 4 µs (R466). -/
def State.tripRecent (s : State) (g : Nat) : Bool :=
  match s.uhla.arrived.toList.getD g none with
  | some t => decide (s.now - t ≤ 4 * us)
  | none => false

/-- A write to UTRIP (R466). -/
def State.utripWrite (s : State) (v : Word) : State :=
  let asked := (List.range 8).filter (fun g => bit v g && s.uhlaTrip g)
  let kept := asked.filter s.tripRecent
  let gone := asked.filter (fun g => !s.tripRecent g)
  let s1 := s.wrw .UH_UTRIP (s.rdw .UH_UTRIP &&& ~~~(BitVec.ofNat 32 (maskOf gone)))
  let s2 := s1.each gone State.regateBlock
  if kept.isEmpty then s2 else s2.put UH_USTAT_CLEAR_DENIED 1

end Sys2Proof.Machine
end

