-- ==== Sys2Proof/Machine/Superframe.lean ====
section
/-! DEFINITION. Superframes (R457 to R459, R469): what a device writes and takes, angles, markers and profile starts (R462, R463, R168), mastership (R464). -/

namespace Sys2Proof.Machine

/-! ### Layout (R459) -/

/-- Bytes of a superframe before its CRC. -/
def sfBody : Nat := 2956

/-- Byte offset of the section of a rank, and its size. -/
def sfSection (r : Nat) : Nat := 104 + 176 * r
def sfSectionSize : Nat := 176

/-- A byte string with bytes replaced from offset `k`. -/
def patch (l : List Byte) (k : Nat) (b : List Byte) : List Byte := l.take k ++ b ++ l.drop (k + b.length)

/-- A superframe from its body (R459). -/
def sealFrame (body : List Byte) : List Byte := body ++ leBytes 4 (crc32 body).toNat

/-- A superframe with its CRC inverted (R469). -/
def poisonFrame (body : List Byte) : List Byte := body ++ leBytes 4 (~~~(crc32 body)).toNat

/-- STAT of this device's section (R459). -/
def State.sectionStat (s : State) : Nat :=
  1 + s.get UH_UCTL_MFLAG * 2 + s.get UH_USTAT_ISOLATED * 4
    + (if s.on UH_UPORT_LOOPBACK 0 || s.on UH_UPORT_LOOPBACK 1 then 8 else 0) + s.uhla.reqm.toNat * 16

/-- The entry of a sourced value (R459 to R461). -/
def State.sectionEntry (s : State) (v : Nat) : List Byte :=
  let x := (s.pub v).ripe s.now
  [BitVec.ofNat 8 v, BitVec.ofNat 8 (s.staleAt v x.2).toNat, 0, 0] ++ leBytes 4 x.1.toNat

/-- This device's section (R459, R460). -/
def State.sectionBytes (s : State) : List Byte :=
  let vs := ((List.range 256).filter s.sources).take 21
  fixLen sfSectionSize (leBytes 4 (s.rdw .BK_DEVID 0).toNat ++ [BitVec.ofNat 8 s.sectionStat, BitVec.ofNat 8 vs.length, 0, 0]
    ++ vs.flatMap s.sectionEntry)

/-- A body with this device's section written, unless it is isolated (R455, R457). -/
def State.withSection (s : State) (body : List Byte) : List Byte :=
  if s.on UH_USTAT_ISOLATED then body else patch body (sfSection s.rank) s.sectionBytes

/-! ### Origination (R457, R462 to R464) -/

/-- MARKER of a group: a valley since the start of the previous superframe (R459, R463). -/
def State.markerWord (s : State) (g : Nat) : Nat :=
  match s.uhla.markers.toList.getD g none with
  | some t =>
    let prev := (s.now - us) * 64
    if prev ≤ t ∧ t - prev < 16000 then 2 ^ 31 + (t - prev) else 0
  | none => 0

/-- ANGLE of a domain (R459, R462). -/
def State.angleBytes (s : State) (d : Nat) : List Byte :=
  leBytes 4 (posAng (s.dom d).pos).toNat ++ leBytes 4 (s.rdw .HF_INC d).toNat ++ [BitVec.ofNat 8 (s.domSt d), 0, 0, 0]

/-- The superframe that the master originates now (R459). -/
def State.newFrame (s : State) (pstart : Bool) : List Byte :=
  let flags := pstart.toNat + (if s.uhla.handover.isSome then 2 else 0)
  let head := leBytes 4 s.uhla.sfn.toNat ++ leBytes 2 (s.get UH_UGID_GID) ++ [BitVec.ofNat 8 s.rank, BitVec.ofNat 8 flags] ++ leBytes 4 0
    ++ leBytes 4 (s.uhla.handover.getD 0).toNat
  let probe := leBytes 2 (s.get UH_UPROBE_SEQ) ++ leBytes 2 0 ++ leBytes 4 (s.get UH_UPROBE_WIN)
  let body := fixLen sfBody (head ++ [0, 1, 2, 3].flatMap s.angleBytes ++ (List.range 8).flatMap (fun g => leBytes 4 (s.markerWord g)) ++ probe)
  sealFrame (s.withSection body)

/-- A ramp in WAIT enters RUN at the superframe announced (R463). -/
def State.profileStart (s : State) : State :=
  match s.uhla.profileAt with
  | some x =>
    if 0 ≤ (s.uhla.sfn - x).toInt then
      let s1 := s.updUhla (fun u => { u with profileAt := none })
      if s1.get WI_RSTAT_STATE = wrWait then s1.winderRun else s1
    else s
  | none => s

/-- This device becomes master: SFN continues by elapsed time, its UHLA domains go on from their own trackers without a step (R462, R464). -/
def State.becomeMaster (s : State) : State :=
  let n := (s.now - s.uhla.lastValid) / us
  let s1 := (((s.put UH_USTAT_MASTER 1).put UH_USTAT_MRANK s.rank).bump UH_UERR_MCHG).raise 900
  let s2 := s1.updUhla (fun u => { u with sfn := u.sfn + BitVec.ofNat 32 n, reqm := false, handover := none, lost := none })
  s2.each s2.uhlaDomains (fun s d => s.updDom d (fun u => { u with below := 0, above := 0, lockFrom := none }))

/-- The hand-over: the master has originated up to HOSFN - 1 (R464). -/
def State.stepDown (s : State) : State :=
  let s1 := (s.put UH_USTAT_MASTER 0).updUhla (fun u => { u with txAt := none, handover := none, lastValid := s.now, sfn := u.sfn })
  s1.each s1.uhlaDomains State.restartLoss

/-- Send the superframe that is due now. -/
def State.sendFrame (s : State) : State :=
  let start := s.uhla.pstart
  let s1 := if start then s.updUhla (fun u => { u with pstart := false, profileAt := some (u.sfn + 4) }) else s
  let later (x : Option Nat) : Option Nat := x.filter (fun t => decide (s1.now * 64 ≤ t))
  (s1.updUhla (fun u => { u with sent := s1.newFrame start, markers := u.markers.map later, txAt := some (s1.now + us) })).profileStart

/-- R457, R463, R464: the angle master originates its next superframe; the device chosen after a loss or by a hand-over becomes master with
its first. -/
def execSuperframeOriginate (s : State) : Out :=
  .next (match s.uhla.txAt with
    | none => s
    | some t =>
      if !s.uhlaRuns || s.on UH_USTAT_ISOLATED then s
      else
        let s1 := s.advanceTo t
        if !s1.on UH_USTAT_MASTER then s1.becomeMaster.sendFrame
        else
          let next := s1.uhla.sfn + 1
          if s1.uhla.handover = some next then s1.stepDown
          else (s1.updUhla (fun u => { u with sfn := next })).sendFrame)

/-! ### Mastership (R464) -/

/-- Whether this device may be master. -/
def State.mayLead (s : State) : Bool := s.on UH_UCTL_MFLAG && !s.on UH_USTAT_ISOLATED

/-- The ranks that had PRESENT and MFLAG in the last valid superframes. -/
def State.flaggedRanks (s : State) : List Nat :=
  (List.range 16).filter (fun r => (s.uhla.flagged.toList.getD 0 0).getLsbD r || (s.uhla.flagged.toList.getD 1 0).getLsbD r)

/-- The master that this device follows, or gave up. -/
def State.oldMaster (s : State) : Nat := s.uhla.lost.getD (s.get UH_USTAT_MRANK)

/-- The ranks that may be master next, in rising order: this device's own if it may lead, and the flagged ones but the lost master (R464). -/
def State.nextMasters (s : State) : List Nat :=
  (List.range 16).filter (fun r =>
    if r = s.rank then s.mayLead else s.flaggedRanks.contains r && !(s.uhla.received && r == s.oldMaster))

/-- R464: no valid superframe for 8 µs: this device takes as master the lowest flagged rank of the last one, the lost master left out; if that is itself it
originates 16 µs after the last valid arrival. The change counts with the new master's first superframe. -/
def execMasterLoss (s : State) : Out :=
  .next (if s.uhlaRuns && !s.on UH_USTAT_MASTER && s.uhla.txAt.isNone && (s.portIsUp 0 || s.portIsUp 1) then
    let s1 := s.advanceTo (s.uhla.lastValid + 8 * us)
    match s1.nextMasters with
    | [] => s1
    | r :: _ =>
      let own := r == s1.rank
      (s1.updUhla (fun u => { u with
        lost := if u.received then some s1.oldMaster else none
        txAt := if own then some (u.lastValid + 16 * us) else none })).put UH_USTAT_MRANK r
  else s)

/-- R464: a flagged device of lower rank than the master, its ports UP for 1 s, sets REQM. -/
def execReqm (s : State) : Out :=
  .next (match s.uhla.upSince with
    | some t =>
      if s.uhlaRuns && !s.on UH_USTAT_MASTER && s.mayLead && s.uhla.received && decide (s.rank < s.get UH_USTAT_MRANK) then
        (s.advanceTo (t + 1000 * ms)).updUhla (fun u => { u with reqm := true })
      else s
    | none => s)

/-! ### Carrier markers (R168, R463) -/

/-- The signed remainder of least magnitude. -/
def centred (x per : Int) : Int :=
  let r := x.emod per
  if 2 * r > per then r - per else r

/-- The instant of a running group's last valley; from a dwell on, that of the valley that its new placement gives (R167). -/
def State.lastValley (s : State) (h : Nat) : Int :=
  let u := s.grp h
  if s.on PW_GRPSTAT_DWELL h then (u.dwellEnd : Int) - s.halfSteps h
  else if u.falling then (u.lastAt : Int) - s.halfSteps h else u.lastAt

/-- A marker of the master's group reaches group `h`, the master's valley at the time `at_` in 62.5 ps (R168). -/
def State.syncMarker (s : State) (h : Nat) (at_ : Int) : State :=
  let t := s.pwmAt at_
  let per : Int := 2 * s.halfSteps h
  let place := t + s.phaseSteps h (s.grp h).phase
  if per = 0 then s
  else if s.on PW_GRPSTAT_RUN h then
    let e := centred (s.lastValley h - place) per
    let s1 := (s.wrw .PW_SYNCERR (wordOfInt e) h).put PW_GRPSTAT_SYNCLOCK (if e.natAbs ≤ 32 then 1 else 0) h
    if e.natAbs ≤ 64 then s1.updGrp h (fun u => { u with missing := 0, adjust := -e, dwell := 0 })
    else s1.updGrp h (fun u => { u with missing := 0, adjust := 0, dwell := ((-e).emod per).toNat })
  else if (s.grp h).startAt.isNone then
    let from_ : Int := s.instant + 64
    s.updGrp h (fun u => { u with missing := 0, startAt := some (from_ + (place - from_).emod per).toNat })
  else s

/-- The markers of a superframe whose gallery start is the instant `start` (R463). -/
def State.takeMarkers (s : State) (f : List Byte) (start : Int) : State :=
  s.each (List.range 8) (fun s h =>
    let w := fieldAt f (64 + 4 * s.get PW_GRPCTL_SYNCGRP h) 4
    if s.on PW_GRPCTL_EN h && s.get PW_GRPCTL_SYNCSRC h == 2 && decide (2 ^ 31 ≤ w) then s.syncMarker h (start - 16000 + (w % 2 ^ 15 : Nat))
    else s)

/-! ### Angles (R44, R462) -/

/-- A broadcast of domain `d` whose superframe started `ago` steps of 62.5 ps before this tick. -/
def State.takeAngle (s : State) (f : List Byte) (ago : Int) (d : Fin 4) : State :=
  let k := 16 + 12 * d.val
  let st := fieldAt f (k + 8) 1
  if (s.dom d.val).src = srcUhla ∧ (st = domLive ∨ st = domCoast) then
    let inc := fieldAt f (k + 4) 4
    let s1 := s.setInc d.val inc true
    let target : Int := fieldAt f k 4 * 65536 + (inc * ago).fdiv 64
    let y := (BitVec.ofInt 48 (target - (s1.dom d.val).pos.toNat)).toInt
    let step := s1.uhla.stepNext[d]
    let s2 := s1.updUhla (fun u => { u with stepNext := u.stepNext.set d.val false d.isLt })
    s2.validEvent d.val (fun s => if step then s.stepFine d.val y else s.movePos d.val y) (fun s => s.stepFine d.val y)
  else s

/-! ### Reception (R455, R457, R461, R464, R469) -/

/-- STAT of a section. -/
def sectionStatOf (f : List Byte) (r : Nat) : Word := BitVec.ofNat 32 (fieldAt f (sfSection r + 4) 1)

/-- The entries of the present sections, lowest rank first: rank, index, STALE, value. -/
def sectionEntries (f : List Byte) : List (Nat × Nat × Bool × Word) :=
  (List.range 16).flatMap (fun r =>
    if bit (sectionStatOf f r) 0 then
      (List.range (min 21 (fieldAt f (sfSection r + 5) 1))).map (fun k =>
        let o := sfSection r + 8 + 8 * k
        (r, fieldAt f o 1, bit (BitVec.ofNat 32 (fieldAt f (o + 1) 1)) 0, BitVec.ofNat 32 (fieldAt f (o + 4) 4)))
    else [])

/-- Two ranks carry the same value (R461). -/
def State.svDup (s : State) : State := if s.on UH_USTAT_SV_DUP then s else (s.put UH_USTAT_SV_DUP 1).raise 903

/-- A received value (R461). -/
def State.takeValue (s : State) (r v : Nat) (stale : Bool) (w : Word) : State :=
  let s1 := ((s.wrw .UH_USVVAL w v).put UH_USVINFO_STALE stale.toNat v).put UH_USVINFO_RANK r v
  if h : v < 256 then s1.updUhla (fun u => { u with receivedAt := u.receivedAt.set v (some s.now) h }) else s1

/-- The values of a superframe: of two ranks' entries for one value the lower rank's is taken; a device's own values come from its local copy. -/
def State.takeValues (s : State) (f : List Byte) : State :=
  ((sectionEntries f).foldl (fun (x : State × List Nat) e =>
    let (s, done) := x
    let (r, v, stale, w) := e
    if r = s.rank then x
    else if s.sources v then (s.svDup, done)
    else if done.contains v then (s.svDup, done)
    else (s.takeValue r v stale w, v :: done)) (s, [])).1

/-- The ranks of a superframe whose STAT passes a test, as a bit mask. -/
def ranksOf (f : List Byte) (p : Word → Bool) : Word :=
  BitVec.ofNat 32 (maskOf ((List.range 16).filter (fun r => p (sectionStatOf f r))))

/-- The ranks present and flagged, as the last valid superframe of each port shows them (R464, R477). -/
def State.takeRanks (s : State) (f : List Byte) (p : Fin 2) : State :=
  let other (v : Vector Word 2) (new : Word) : Vector Word 2 :=
    let q := 1 - p.val
    let w := if s.portIsUp q then v.toList.getD q 0 else 0
    if p.val = 0 then #v[new, w] else #v[w, new]
  let s1 := s.updUhla (fun u => { u with
    present := other u.present (ranksOf f (fun w => bit w 0))
    flagged := other u.flagged (ranksOf f (fun w => bit w 0 && bit w 1 && !bit w 2)) })
  let own := if s1.on UH_USTAT_ISOLATED then 0 else 2 ^ s1.rank
  s1.put UH_USTAT_PRESENT ((s1.uhla.present.toList.getD 0 0 ||| s1.uhla.present.toList.getD 1 0).toNat ||| own)

/-- A section of the own rank carries another DEVID0 (R455). -/
def State.rankConflict (s : State) (f : List Byte) : Bool :=
  bit (sectionStatOf f s.rank) 0 && BitVec.ofNat 32 (fieldAt f (sfSection s.rank) 4) != s.rdw .BK_DEVID 0

/-- The device becomes ISOLATED until cold reset (R455); a master's UHLA domains wait for broadcasts from then on (R41). -/
def State.isolate (s : State) : State :=
  if s.on UH_USTAT_ISOLATED then s
  else
    let s1 := ((((s.put UH_USTAT_RANK_CONFLICT 1).put UH_USTAT_ISOLATED 1).put UH_USTAT_MASTER 0).updUhla (fun u =>
      { u with txAt := none, reqm := false })).raise 901
    if s.on UH_USTAT_MASTER then s1.each s1.uhlaDomains State.restartLoss else s1

/-- A master finds REQM of a flagged lower rank in a superframe that has come round (R464). -/
def State.grantHandover (s : State) (f : List Byte) : State :=
  let asks := (List.range s.rank).any (fun r =>
    let w := sectionStatOf f r
    bit w 0 && bit w 1 && bit w 4)
  if asks ∧ s.uhla.handover = none then s.updUhla (fun u => { u with handover := some (u.sfn + 64) }) else s

/-- Whether a superframe is a follower's next one: the first arrival of its SFN. -/
def State.newer (s : State) (f : List Byte) : Bool :=
  !s.uhla.received || fieldAt f 6 1 != s.get UH_USTAT_MRANK || decide (8 * us ≤ s.now - s.uhla.lastValid)
    || decide (0 < (BitVec.ofNat 32 (fieldAt f 0 4) - s.uhla.sfn).toInt)

/-- A follower takes the master's fields of a superframe (R462 to R464). -/
def State.follow (s : State) (f : List Byte) (start : Int) : State :=
  let mrank := fieldAt f 6 1
  let sfn := BitVec.ofNat 32 (fieldAt f 0 4)
  let flags := BitVec.ofNat 32 (fieldAt f 7 1)
  let changed := s.uhla.received && mrank != s.oldMaster
  let s1 := s.put UH_USTAT_MRANK mrank
  let s2 := if changed then ((s1.bump UH_UERR_MCHG).updUhla (fun u => { u with stepNext := Vector.replicate 4 true })).raise 900 else s1
  let s3 := s2.updUhla (fun u => { u with sfn := sfn, txAt := none, lost := none, profileAt := if bit flags 0 then some (sfn + 4) else u.profileAt })
  let s4 := s3.each (List.finRange 4) (fun s d => s.takeAngle f ((s.now * 64 : Nat) - start) d)
  let s5 := ((s4.takeMarkers f start).wrw .UH_UPROBERX (BitVec.ofNat 32 (fieldAt f 96 2 + fieldAt f 100 2 * 65536))).profileStart
  let next := bit flags 1 && s5.uhla.reqm && s5.mayLead && BitVec.ofNat 32 (fieldAt f 12 4) == sfn + 1
    && s5.flaggedRanks.all (fun r => decide (s5.rank ≤ r))
  if next then s5.updUhla (fun u => { u with txAt := some ((start.toNat + 63) / 64 + us) }) else s5

/-- The fixed part of a hop's latency, R467's hop less its link, in 62.5 ps. -/
def hopSteps : Nat := 2720

/-- Forward a valid superframe: own section, ACCDLY and CRC (R457, R458). -/
def State.forward (s : State) (f : List Byte) (p : Nat) : State :=
  let acc := fieldAt f 8 4 + s.get UH_UPORT_DELAY p + hopSteps
  s.updUhla (fun u => { u with sent := sealFrame (s.withSection (patch (f.take sfBody) 8 (leBytes 4 acc))) })

/-- A superframe failed its CRC on a port; the 16th within 1 ms takes the port DOWN (R456). -/
def State.noteBad (s : State) (p : Fin 2) : State :=
  let l := (s.now :: s.uhla.badAt[p]).filter (fun t => decide (s.now < t + ms))
  if l.length < 16 then s.updUhla (fun u => { u with badAt := upd u.badAt p (fun _ => l) })
  else (s.updUhla (fun u => { u with badAt := upd u.badAt p (fun _ => []) })).setPort p.val portDown

/-- A superframe with a bad CRC (R456, R469): counted, and forwarded with the CRC inverted. -/
def State.badFrame (s : State) (f : List Byte) (p : Fin 2) : State :=
  let body := f.take sfBody
  let s1 := if fieldAt f sfBody 4 = (~~~(crc32 body)).toNat then s.bumpSat UH_UERR_POISONED else (s.bumpSat UH_UERR_CRCERR).raise 902
  (if s1.on UH_USTAT_MASTER then s1 else s1.updUhla (fun u => { u with sent := poisonFrame body })).noteBad p

/-- A valid superframe (R457, R461 to R464). A master that receives another master's, as where two chains rejoin, takes its values and stays master; a
master never sets REQM itself (DESIGN CHOICE, log entry 99). -/
def State.goodFrame (s : State) (f : List Byte) (p : Fin 2) (sub : Nat) : State :=
  let start : Int := (s.now * 64 + sub : Nat) - (fieldAt f 8 4 : Int)
  let s1 := if s.rankConflict f then s.isolate else s
  let s2 := (s1.takeRanks f p).takeValues f
  let s3 := if s2.on UH_USTAT_MASTER then s2.grantHandover f else if s2.newer f then s2.follow f start else s2
  let s4 := s3.updUhla (fun u => { u with lastValid := s3.now, received := true })
  if s4.on UH_USTAT_MASTER then s4 else s4.forward f p.val

/-- R457, R469: a superframe arrives on port `p`, its first block `sub` steps of 62.5 ps into this tick. -/
def execSuperframeReceive (p : Fin 2) (sub : Fin 64) (f : List Byte) (s : State) : Out :=
  .next (if !s.uhlaRuns || !s.portIsUp p.val || f.length ≠ sfBody + 4 then s
    else if fieldAt f sfBody 4 = (crc32 (f.take sfBody)).toNat then s.goodFrame f p sub.val
    else s.badFrame f p)

end Sys2Proof.Machine
end

