-- ==== Sys2Proof/Machine/PickWords.lean ====
section
/-! DEFINITION. Pick instruction words (R84 to R89, R92, R93): fields, the row of the command table that a word is, and illegal words. -/

namespace Sys2Proof.Machine

/-- What a Pick word does, one for each row of the command table. -/
inductive PickOp where
  | acq | mmx | ang | scs | clk | prk | ipk | mac | msu | satMove | satRead | satStore | lim | abs | neg | div | sqt | mag | pis | rsc
  | outSlot | outInc | outStep | duty | evtEvent | evtTrigger | evtMarker | xch | uhxRead | uhxWrite | brf | loop | end_ | discard
deriving DecidableEq, Repr

/-! ### Fields (R84, R86) -/

def pwOp (w : Word) : Nat := bits w 26 6
def pwD (w : Word) : Nat := bits w 22 4
def pwA (w : Word) : Nat := bits w 18 4
def pwB (w : Word) : Nat := bits w 14 4
def pwMod (w : Word) : Nat := bits w 0 14
def pwSel (w : Word) : Nat := bits w 12 2
def pwOpt (w : Word) : Nat := bits w 10 2
def pwLow (w : Word) : Nat := bits w 0 10

/-- An instruction works in Q16.16 (R93): the odd opcode of a pair. -/
def pwQ16 (w : Word) : Bool := bit w 26

/-- F of R90. -/
def pwF (w : Word) : Nat := if pwQ16 w then 16 else 31

/-- Last program address (R92). -/
def pickLast : Nat := 4095

/-- Highest readable word address (R88). -/
def pickTopRead : Nat := 527

/-! ### The opcode map (R93) and the forms -/

/-- The row of a word by its opcode and form; none for an unassigned opcode or an illegal form. -/
def pickRow (w : Word) : Option PickOp :=
  let opt := pwOpt w
  let sel := pwSel w
  match pwOp w with
  | 0x01 => some .acq
  | 0x02 => some .mmx
  | 0x04 => some .ang
  | 0x05 => some .scs
  | 0x08 => some .clk
  | 0x09 => some .prk
  | 0x0A => some .ipk
  | 0x10 | 0x11 => some .mac
  | 0x12 | 0x13 => some .msu
  | 0x14 | 0x15 => some (if opt = 0 then .satMove else if opt = 3 then .satStore else .satRead)
  | 0x16 | 0x17 => some .lim
  | 0x18 | 0x19 => if opt = 0 then some .abs else if opt = 1 then some .neg else none
  | 0x1A | 0x1B => some .div
  | 0x1C | 0x1D => if opt = 0 then some .sqt else if opt = 1 then some .mag else none
  | 0x20 | 0x21 => some .pis
  | 0x22 => some .rsc
  | 0x28 => if sel = 0 then some .outSlot else if sel = 1 then some .outInc else if sel = 2 then some .outStep else none
  | 0x29 => some .duty
  | 0x2A => if sel = 0 then some .evtEvent else if sel = 1 then some .evtTrigger else if sel = 2 then some .evtMarker else none
  | 0x30 => some .xch
  | 0x31 => if sel = 0 then some .uhxRead else if sel = 1 then some .uhxWrite else none
  | 0x38 => some .brf
  | 0x39 => some .loop
  | 0x3F => some (if bit w 0 then .discard else .end_)
  | _ => none

/-- A B operand that the word allows (R86 to R89): with `pair` it takes two words, with `imm` it may be an immediate. -/
def bFormOk (w : Word) (pair imm : Bool) : Bool :=
  match pwSel w with
  | 2 => pwB w == 0 && decide (pwLow w + pair.toNat ≤ pickTopRead)
  | 3 => pwB w == 0 && imm
  | _ => pwLow w == 0 && (!pair || decide (pwB w ≤ 14))

/-- The rest of R92 for a word of a row at address `pc`: unused fields are 0, register pairs exist, indices and addresses are in range. -/
def pickFieldsOk (op : PickOp) (w : Word) (pc : Nat) : Bool :=
  let d := pwD w
  let a := pwA w
  let b := pwB w
  let m := pwMod w
  let opt := pwOpt w
  let low := pwLow w
  match op with
  | .acq => a == 0 && decide (b ≤ 7) && pwSel w == 0 && low == 0
  | .mmx => a == 0 && decide (b ≤ 7) && pwSel w == 0 && low == 0 && (opt != 2 || decide (d ≤ 14))
  | .ang => decide (a ≤ 3) && (if opt ≤ 1 then bFormOk w false true else pwSel w == 0 && b == 0 && low == 0)
  | .scs => b == 0 && m == 0 && decide (d ≤ 14)
  | .clk => pwSel w == 0 && low == 0 && decide (opt ≤ 1) && decide (d ≤ 14) && (opt == 0 || decide (b ≤ 14))
  | .prk => pwSel w == 0 && opt == 0 && low % 512 == 0 && decide (d ≤ 14) && decide (a ≤ 14) && decide (b ≤ 14)
  | .ipk => pwSel w == 0 && low % 512 == 0 && decide (a ≤ 14) && decide (b ≤ 14) && (opt != 0 || decide (d ≤ 14))
  | .mac | .msu => bFormOk w false true
  | .satMove => a == 0 && bFormOk w false true
  | .satRead => a == 0 && pwSel w == 0 && b == 0 && low == 0
  | .satStore => pwSel w == 2 && d == 0 && b == 0 && decide (low ≤ 447)
  | .lim => bFormOk w (opt == 3) (opt != 3)
  | .abs | .neg => a == 0 && bFormOk w false true
  | .div => opt == 0 && bFormOk w false true
  | .sqt => a == 0 && bFormOk w false true
  | .mag => bFormOk w false true
  | .pis => pwSel w == 1 && decide (b ≤ 12) && decide (low ≤ 447) && decide (opt ≤ 1)
  | .rsc => decide (d ≤ 1) && a == 0 && opt == 0 && bFormOk w false true
  | .outSlot => m % 4096 == 0 && decide (d ≤ 7) && b == 0
  | .outInc => m % 4096 == 0 && decide (d ≤ 3) && b == 0
  | .outStep => m % 4096 == 0 && decide (d ≤ 3)
  | .duty => d == 0 && b == 0 && pwSel w == 0 && low == 0 && decide (opt ≤ 2)
  | .evtEvent => d == 0 && a == 0 && b == 0 && m == 0
  | .evtTrigger => d == 0 && a == 0 && b == 0 && bits w 4 8 == 0
  | .evtMarker => d == 0 && b == 0 && m % 4096 == 0
  | .xch => a == 0 && b == 0 && decide (bits w 0 6 ≤ 47) && (match pwSel w with
      | 0 => decide (bits w 6 6 ≤ 7)
      | 3 => true
      | _ => bits w 6 6 == 0)
  | .uhxRead => bits w 8 4 == 0 && a == 0 && b == 0
  | .uhxWrite => bits w 8 4 == 0 && d == 0 && b == 0
  | .brf => d == 0 && a == 0 && b == 0 && decide (bits w 10 4 ≤ 10) && decide (pc + 1 + low ≤ pickLast)
  | .loop => d == 0 && a == 0 && b == 0 && decide (pc + bits w 6 8 + 1 ≤ pickLast)
  | .end_ | .discard => d == 0 && a == 0 && b == 0 && m / 2 == 0

/-- The row that the word at `pc` executes as; none for an illegal word (R92), a LOOP in an active body among them. -/
def pickDecode (w : Word) (pc : Nat) (looping : Bool) : Option PickOp :=
  if pickLast < pc then none
  else match pickRow w with
    | some op => if pickFieldsOk op w pc && !(op == .loop && looping) then some op else none
    | none => none

/-- Cycles of a row (R93, R116); an XCH's grow with contention (R113). -/
def PickOp.cycles (op : PickOp) (single : Bool) : Nat :=
  match op with
  | .scs => 4
  | .div | .sqt | .mag => 8
  | .xch => 6
  | .uhxRead | .uhxWrite => 2
  | .brf => if single then 0 else 1
  | _ => 1

end Sys2Proof.Machine
end

