-- ==== Sys2Proof/Machine/PickRead.lean ====
section
/-! DEFINITION. What the Pick instructions and the reference programs share: arithmetic (R90, R102, R106), sines (R97), the constants of the transforms (R98),
sensing reads (R94), exchange (R112) and outputs (R108, R109). -/

namespace Sys2Proof.Machine

/-! ### Arithmetic (R90, R102, R106) -/

/-- sat48 and sat32 (R90): clamp, and whether the value was clamped. -/
def clampTo (k : Nat) (x : Int) : Int × Bool :=
  let m : Int := 2 ^ k
  if m - 1 < x then (m - 1, true) else if x < -m then (-m, true) else (x, false)

/-- An arithmetic shift right by `k`, rounded to nearest, ties toward +∞ (R90). -/
def rshr (x : Int) (k : Nat) : Int := (x + 2 ^ (k - 1)).fdiv (2 ^ k)

/-- LIM's result (R102). -/
def limValue (opt : Nat) (a b b1 : Int) : Int :=
  let lo : Int := match opt with
    | 0 => -(min (b.natAbs : Int) 2147483647)
    | 1 => -2147483648
    | _ => b
  let hi : Int := match opt with
    | 0 => min (b.natAbs : Int) 2147483647
    | 1 => b
    | 2 => 2147483647
    | _ => b1
  min (max a lo) (if hi < lo then lo else hi)

/-- One step of a PI controller (R106): format `f`, gains `kp` and `ki`, bounds, integrator, error; the output and the integrator with their saturations. -/
structure PiStep where
  out : Int
  int : Int
  sat : Bool
deriving DecidableEq, Repr

/-- R106, in its own order. -/
def piStep (f : Nat) (kp ki hi0 lo i x : Int) : PiStep :=
  let p := rshr (kp * x) f
  let di := rshr (ki * x) f
  let (u, sat) := clampTo 47 (p + i + di)
  let hi := if hi0 < lo then lo else hi0
  let (y, i1) := if hi < u then (hi, hi - p) else if u < lo then (lo, lo - p) else (u, i + di)
  let (i2, sat2) := clampTo 31 i1
  ⟨y, i2, sat || sat2⟩

/-- A coefficient of the latched region's bank (R70). -/
def State.coefOf (s : State) (e : Nat) (v : Inv) (k : Nat) : Word :=
  match (s.eng e).prog with
  | some p => p.coef.getD (16 * v.region + k) 0
  | none => 0

/-! ### Sines (R97) -/

/-- 2π in 2^-60. -/
def twoPi60 : Nat := 7244019458077122842

/-- The sine of `r` au in the first quadrant, in 2^-31: the Taylor series in 2^-60. -/
def sinQuarter (r : Nat) : Nat :=
  let x := r * twoPi60 / 2 ^ 32
  let x2 := x * x / 2 ^ 60
  let h := [506, 420, 342, 272, 210, 156, 110, 72, 42, 20, 6].foldl (fun a d => 2 ^ 60 - x2 * a / 2 ^ 60 / d) (2 ^ 60)
  (x * h / 2 ^ 60 + 2 ^ 28) / 2 ^ 29

/-- sin(2π a / 2^32) in 2^-31, to within one unit. -/
def sinRef (a : Word) : Int :=
  let r := a.toNat % 2 ^ 30
  match a.toNat / 2 ^ 30 with
  | 0 => sinQuarter r
  | 1 => sinQuarter (2 ^ 30 - r)
  | 2 => -(sinQuarter r : Int)
  | _ => -(sinQuarter (2 ^ 30 - r) : Int)

/-- A sine or cosine that SCS writes (R97): the value, off by the implementation's error of at most 2^-24, +1.0 written as the largest. -/
def scsValue (a : Word) (cosine : Bool) : Int :=
  let x := sinRef (if cosine then a + 0x40000000#32 else a) + (Config.scsError a cosine % 255 - 127)
  (clampTo 31 x).1

/-! ### Transforms (R98) -/

def kR3 : Int := 1239850262
def k2R3 : Int := 2479700525
def kThird : Int := 715827883
def kTwoThirds : Int := 1431655765
def kHalf : Int := 1073741824
def kR32 : Int := 1859775393

/-! ### Sensing reads (R67, R94, R95) -/

/-- The entry `n` of an engine's SLICEMAP (R67). -/
def State.sliceEntry (s : State) (e n : Nat) : Nat := bits (if n < 4 then s.rdw .PK_SLICEMAP0 e else s.rdw .PK_SLICEMAP1 e) (8 * (n % 4)) 8

/-- The channel and slice of an entry that names an accumulator slice. -/
def State.entrySlice (s : State) (e n : Nat) : Option (Nat × Nat) :=
  let x := s.sliceEntry e n
  if x < 8 then (s.channelAt (e / 2) (x % 4)).map (fun c => (c, x / 4)) else none

/-- The channel of an entry that names a tracker. -/
def State.entryTracker (s : State) (e n : Nat) : Option Nat :=
  let x := s.sliceEntry e n
  if 8 ≤ x ∧ x < 12 then s.channelAt (e / 2) (x % 4) else none

/-- A published window of an entry. -/
def State.entryWindow (s : State) (e n : Nat) : Option (Nat × Nat × WinRes) :=
  match s.entrySlice e n with
  | some (c, j) => (s.slice c j).shown.map (fun r => (c, j, r))
  | none => none

/-- The published record of a tracker entry. -/
def State.entryRecord (s : State) (e n : Nat) : Option (Int × Int) :=
  match s.entryTracker e n with
  | some c => if s.on SN_MMINFO_NOT_READY c then none else some ((s.rdw .SN_MMMIN c).toInt, (s.rdw .SN_MMMAX c).toInt)
  | none => none

/-! ### Exchange (R112) -/

/-- What XCH reads of cell `c`: the value, and whether it is not ready. A split target shows its E0. -/
def State.xchRead (s : State) (c item idx : Nat) : Word × Bool :=
  match item with
  | 0 => match s.entryWindow (2 * c) idx with
    | some (_, _, r) => (wordOfInt (windowMean r.sum r.count), false)
    | none => (0, true)
  | 1 => if (s.arb c).delivered then (s.rdw .PK_ARBOUT c, false) else (0, true)
  | 2 => (s.trackOf c, false)
  | _ => (dataWord (s.eng (2 * c)).data (384 + idx), false)

/-! ### Outputs (R108, R109) -/

/-- An OUT to a contender slot of cell `c` (R108); a slot that a route feeds refuses it (R74). -/
def State.slotOut (s : State) (c j : Nat) (v : Word) : State :=
  if s.routedIn c j then s.put PK_ARBCTL_OUT_DENIED 1 c else s.slotWrite c j v

/-- A domain form of OUT from cell `c` (R108): the increment, and a step in signed au. -/
def State.outDomain (s : State) (c d : Nat) (inc : Word) (step : Int) : State :=
  if (s.dom d).src = srcPick ∧ s.get HF_DOMCTL_PICKCELL d = c ∧ s.cellLive c then
    let move (s : State) : State := if step = 0 then s else s.stepDomain d step
    (s.setInc d inc.toNat true).validEvent d move move
  else s.put PK_ARBCTL_OUT_DENIED 1 c

/-- A DUTY of cell `c` (R109) with the option and value of the instruction; under an arbiter duty destination it is refused (R74). -/
def State.dutyOut (s : State) (c opt : Nat) (x : Word) : State :=
  if s.get PK_ARBCTL_DEST c = 1 ∨ s.get PK_ARBCTL_DEST c = 2 then s.put PK_ARBCTL_DUTY_DENIED 1 c
  else if opt = 2 then s.deliverDuty c true (absDuty x)
  else s.deliverDuty c false (ratioDuty (decide (opt = 1)) x)

/-- A marker record of an engine (R110). -/
def State.markerOut (s : State) (e : Nat) (v : Word) : State :=
  s.record (e / 2) 4 8 (e / 2) [s.rdw .PK_ICOUNT e, v, 0]

end Sys2Proof.Machine
end

