-- ==== Sys2Proof/Machine/RefBase.lean ====
section
/-! DEFINITION. What the reference programs share (R194, R204, R222, R223, R240): their parameters, numbers and reads. Their words are no part
of the spec: an engine that runs one does what the rules say of it, in stages (log entry 104). -/

namespace Sys2Proof.Machine

/-! ### Numbers (R204) -/

/-- 1.0 pu of the AC programs. -/
def onePu : Int := 2 ^ 30

/-- Thousandths of 1.0 pu. -/
def puMilli (n : Int) : Int := (n * 2 ^ 30 + 500).fdiv 1000

/-- sat32. -/
def sat32 (x : Int) : Int := (clampTo 31 x).1

/-- Products in Q1.31, in per unit and with a Q16.16 factor, saturated. -/
def mul31 (a b : Int) : Int := sat32 (rshr (a * b) 31)
def mulPu (a b : Int) : Int := sat32 (rshr (a * b) 30)
def mul16 (k x : Int) : Int := sat32 (rshr (k * x) 16)

/-- A quotient in 2^-`f`, saturated as R104 does. -/
def quotient (f : Nat) (a b : Int) : Int :=
  if b = 0 then (if a = 0 then 0 else if 0 < a then 2147483647 else -2147483648) else sat32 ((a * 2 ^ f).tdiv b)

/-- A quotient that R104 saturates; by 0 it saturates without SAT. -/
def quotientSat (f : Nat) (a b : Int) : Bool := decide (b ≠ 0) && (clampTo 31 ((a * 2 ^ f).tdiv b)).2

/-- The length of a vector. -/
def magnitude (x y : Int) : Int := isqrt (x.natAbs * x.natAbs + y.natAbs * y.natAbs)

/-- The angle of a vector of the first quadrant, by its bits from bit `k - 1` down. -/
def quarterAngle (x y : Nat) : Nat → Nat → Nat
  | 0, r => r
  | k + 1, r => quarterAngle x y k (if x * sinQuarter (r + 2 ^ k) ≤ y * sinQuarter (2 ^ 30 - (r + 2 ^ k)) then r + 2 ^ k else r)

/-- The angle of a vector in au. -/
def vectorAngle (x y : Int) : Word :=
  if x = 0 ∧ y = 0 then 0
  else if 0 ≤ x ∧ 0 ≤ y then BitVec.ofNat 32 (quarterAngle x.natAbs y.natAbs 30 0)
  else if 0 ≤ y then BitVec.ofNat 32 (2 ^ 30 + quarterAngle y.natAbs x.natAbs 30 0)
  else if x < 0 then BitVec.ofNat 32 (2 ^ 31 + quarterAngle x.natAbs y.natAbs 30 0)
  else BitVec.ofNat 32 (3 * 2 ^ 30 + quarterAngle y.natAbs x.natAbs 30 0)

/-- Degrees, or tenths of one with `d` 3600, in au, to the nearest (R7). -/
def degreeAu (n d : Nat) : Nat := (2 * n * 2 ^ 32 + d) / (2 * d)

/-- A vector in a frame of the sine and cosine given, and back (R98): with -`sn` the negative sequence. -/
def toFrame (al be sn cs : Int) : Int × Int := (sat32 (rshr (al * cs + be * sn) 31), sat32 (rshr (be * cs - al * sn) 31))
def fromFrame (d q sn cs : Int) : Int × Int := (sat32 (rshr (d * cs - q * sn) 31), sat32 (rshr (d * sn + q * cs) 31))

/-- Phase A, B or C of a vector of the frame (R98). -/
def phaseOf (x : Nat) (d q sn cs : Int) : Int :=
  let al := d * cs - q * sn
  let be := d * sn + q * cs
  if x = 0 then sat32 (rshr al 31)
  else if x = 1 then sat32 (rshr (be * kR32 - al * kHalf) 62)
  else sat32 (rshr (-(be * kR32) - al * kHalf) 62)

/-- The format of the reference programs' PI steps. -/
def refF : Nat := if Config.refQ16 then 16 else 31

/-! ### Parameters (R194, R222, R223, R240) -/

/-- The range of parameter word `a`, the words being `d`; I_MAX bounds three of ACR's, NW one. -/
def RefProg.range (k : RefProg) (d : Nat → Int) (a : Nat) : Option (Int × Int) :=
  let follower : Option (Int × Int) := match a with
    | 448 => some (0, 42)
    | 449 => some (0, 5)
    | 450 => some (0, 3)
    | _ => none
  match k with
  | .dcb => match a with
    | 448 | 459 | 460 | 461 | 466 | 468 => some (0, 2147483647)
    | 449 => some (0, 3)
    | 454 => some (1, 65535)
    | 455 | 456 | 458 => some (0, 2 ^ 28)
    | 457 | 467 => some (0, 2 ^ 24)
    | 462 => some (1, 2 ^ 28)
    | _ => none
  | .acu | .acw => follower
  | .aco => match a with
    | 452 => some (0, puMilli 1900)
    | 455 | 456 => some (0, puMilli 1500)
    | 457 => some (0, 3)
    | 458 => some (0, 2 ^ 29)
    | 459 => some (0, 7)
    | _ => follower
  | .acr =>
    let iMax := min (puMilli 1500) (max 0 (d 452))
    let nw := min 16 (max 1 (d 485))
    match a with
    | 448 | 450 | 451 => some (-iMax, iMax)
    | 449 => some (0, 524288)
    | 452 => some (0, puMilli 1500)
    | 454 => some (0, 7)
    | 455 => some (puMilli 500, puMilli 950)
    | 456 => some (puMilli 1050, puMilli 1500)
    | 457 => some (0, puMilli 50)
    | 458 => some (0, puMilli 900)
    | 459 | 460 => some (0, 393216)
    | 461 => some (0, puMilli 200)
    | 462 => some (100, 60000)
    | 463 => some (0, 150)
    | 464 => some (0, 1000)
    | 465 => some (6554, 6553600)
    | 466 => some (10, 60)
    | 467 => some (8, 64)
    | 468 | 469 | 480 => some (0, 3)
    | 470 => some (0, 2)
    | 471 => some (-puMilli 1500, puMilli 1500)
    | 472 => some (32768, 1310720)
    | 473 => some (0, 6553600)
    | 474 => some (655, 13107)
    | 475 => some (0, 13107)
    | 476 => some (puMilli 50, puMilli 500)
    | 477 => some (puMilli 800, puMilli 1200)
    | 478 | 481 => some (45035996, 81064793)
    | 479 => some (0, 15)
    | 484 => some (0, 16 * nw - 1)
    | 485 => some (1, 16)
    | 487 => some (2, 10)
    | 488 | 489 => some (0, puMilli 1900)
    | 490 | 502 => some (1, 4)
    | 491 | 492 => some (100, 10000)
    | 493 => some (0, 1000)
    | 494 | 495 => some (10, 600)
    | 496 | 497 => some (puMilli 500, puMilli 1500)
    | 498 | 501 => some (0, 10000)
    | 499 | 500 => some (400000, 720000)
    | 504 => some (0, 240)
    | 506 => some (1, 1000)
    | _ => none

/-- A parameter as it acts: outside its range the nearer limit; K_POS and K_NEG above 0 and below 2 as 2 (R218). -/
def RefProg.acts (k : RefProg) (d : Nat → Int) (a : Nat) : Int :=
  match k.range d a with
  | none => d a
  | some (lo, hi) =>
    let x := min hi (max lo (d a))
    if k = .acr ∧ (a = 459 ∨ a = 460) ∧ 0 < x ∧ x < 131072 then 131072 else x

/-- A word of bits outside its range (R240): a chip 0b10 of PATTERN, a bit that VOTE_AUX, VOTERS or ISL_PEERS does not have. What the word's other bits say
acts. -/
def RefProg.strayBits (k : RefProg) (d : Nat → Int) : Bool :=
  let w (a : Nat) : Word := wordOfInt (d a)
  k == .acr && ((List.range 16).any (fun j => bits (w 486) (2 * j) 2 == 2) || w 503 &&& 0xFFFFFF0E != 0 || w 505 &&& 0xFFFF0000 != 0
    || w 507 &&& 0xFFC00000 != 0)

/-- PARAM_CLAMP (R194, R222, R240): a parameter does not act as it stands. -/
def RefProg.clamps (k : RefProg) (d : Nat → Int) : Bool := (List.range 60).any (fun n => k.acts d (448 + n) != d (448 + n)) || k.strayBits d

/-- A data word of the working copy, signed. -/
def Inv.word (v : Inv) (a : Nat) : Int := (dataWord v.data a).toInt

/-- A parameter as it acts in the running invocation. -/
def Inv.par (v : Inv) (k : RefProg) (a : Nat) : Int := k.acts v.word a

/-- Write data words of the working copy. -/
def Inv.putWords (v : Inv) (ws : List (Nat × Int)) : Inv :=
  { v with data := ws.foldl (fun l x => setData l x.1 (wordOfInt x.2)) v.data }

/-! ### Reads (R94, R112) -/

/-- The mean of slice `j` of the channel at local index `loc` of cell `c`, and NR: by the entry of the cell's SLICEMAP that names it (R67, R94, R121). -/
def State.meanAt (s : State) (c loc j : Nat) : Int × Bool :=
  match (List.range 8).find? (fun n => s.sliceEntry (2 * c) n == 4 * j + loc) with
  | some n => match s.entryWindow (2 * c) n with
    | some (_, _, r) => (windowMean r.sum r.count, false)
    | none => (0, true)
  | none => (0, true)

/-- A report word of cell `c`. -/
def State.reportOf (s : State) (c a : Nat) : Int := (s.xchRead c 3 (a - 384)).1.toInt

/-- Whether a cell runs one of the AC programs. -/
def State.acCell (s : State) (c : Nat) : Bool :=
  match (s.eng (2 * c)).prog with
  | some p => p.ref == some .acr || p.ref == some .acu || p.ref == some .aco || p.ref == some .acw
  | none => false

end Sys2Proof.Machine
end

