-- ==== Sys2Proof/Machine/RefDcb.lean ====
section
/-! DEFINITION. The reference program DCB (R189, R193 to R198): a DC input with maximum-power tracking. 1.0 pu is 2^31. -/

namespace Sys2Proof.Machine

/-- Whether a ramp generator names the cell (R189). -/
def State.rampNames (s : State) (c : Nat) : Bool := (List.range 24).any (fun r => s.rampOn r c)

/-- The conditions of R189 under which a cell runs as a DC input; the first two hold of every cell (R120). -/
def State.dcInput (s : State) (c : Nat) : Bool :=
  s.rampNames c && match s.blockOf c with
    | some b => !(s.cellsOf b).any s.acCell
    | none => false

/-- A change of MODE (R198): MODE 2 left for 0 or 1 starts tracking from VREF_EXT, the direction reset to decreasing voltage. -/
def DcbMem.setMode (m : DcbMem) (mode ext : Int) : DcbMem :=
  let m1 := if m.mode = 2 ∧ mode < 2 then { m with vref := ext, sumP := 0, count := 0, rising := false } else m
  { m1 with mode := mode }

/-- A reference within V_MIN to V_MAX (R197). -/
def dcbWindow (par : Nat → Int) (x : Int) : Int := limValue 3 x (par 459) (par 460)

/-- The used reference after one invocation (R197): toward VREF by at most V_SLEW. -/
def slewTo (used vref step : Int) : Int := max (used - step) (min (used + step) vref)

/-- The DC-link limit (R196), and NO_LINK. -/
def State.dcbLink (s : State) (par : Nat → Int) : Int × Bool :=
  let src := (wordOfInt (par 463))
  let (w, nr) := s.xchRead (bits src 0 6) 0 (bits src 6 3)
  if nr then (0, true) else (max 0 (mul16 (par 467) (par 466 - sat32 (rshr (w.toInt * par 464) 31 + par 465))), false)

/-- DCB reads its inputs and has its slots' values (R193, R196 to R198). On a cell that is no DC input it writes 0 to slot 0, so that the cell draws no input
current (R189). -/
def State.dcbAcquire (s : State) (e : Nat) (v : Inv) (r : RefRun) : Inv :=
  let c := e / 2
  let par := v.par .dcb
  let (mv, nv) := s.meanAt c 0 0
  let (mi, ni) := s.meanAt c 1 0
  let vpu := sat32 (rshr (mv * par 450) 31 + par 451)
  let ipu := sat32 (rshr (mi * par 452) 31 + par 453)
  let m := r.mem.dcb.setMode (par 449) (par 448)
  let vref := dcbWindow par (if par 449 = 2 then par 448 else m.vref)
  let used := slewTo m.used vref (par 462)
  let k (n : Nat) : Int := (s.coefOf e v n).toInt
  let pi := piStep refF (k 0) (k 1) (s.trackOf c).toInt (k 3) m.intV (vpu - used)
  let (link, noLink) := s.dcbLink par
  let out : List RefOut :=
    [.slot 0 (wordOfInt (if s.dcInput c then pi.out else 0)), .slot 1 (wordOfInt (par 461)), .slot 2 (wordOfInt link)
     , .slot 3 (wordOfInt (quotient 31 (par 468) vpu))]
  let scan : List (Nat × Int) := if par 449 = 2 ∧ r.mem.dcb.mode ≠ 2 then [(389, 0)] else []
  let v1 := v.putWords ([(384, vpu), (385, ipu), (387, used)] ++ scan)
  { v1 with
    sat := v.sat || pi.sat || quotientSat 31 (par 468) vpu, nr := v.nr || nv || ni || noLink, dz := v.dz || vpu == 0
    opv0 := wordOfInt (rshr vpu 15), opv1 := wordOfInt (rshr ipu 15)
    ref := some { r with
      stage := .control, out := out, cur := #v[ipu, 0, 0], volt := #v[vpu, 0, 0], mark := noLink
      mem := { r.mem with dcb := { m with vref := vref, used := used, intV := pi.int } } } }

/-- DCB's current loop (R193, R196): T is its reference, the ratio the PWMH share (R189). -/
def State.dcbControl (s : State) (e : Nat) (v : Inv) (r : RefRun) : Inv × Int :=
  let k (n : Nat) : Int := (s.coefOf e v n).toInt
  let pi := piStep refF (k 4) (k 5) (k 6) (k 7) r.mem.dcb.intI (r.cur[0] - (s.trackOf (e / 2)).toInt)
  ({ v with
     sat := v.sat || pi.sat
     ref := some { r with stage := .report, mem := { r.mem with dcb := { r.mem.dcb with intI := pi.int } } } }, pi.out)

/-- How far a tracking step moves (R197): K_STEP times a size, within DV_MIN to DV_MAX. -/
def dcbMove (par : Nat → Int) (size : Int) : Int := limValue 3 (mul16 (par 457) size) (par 455) (par 456)

/-- The MODE 0 step (R197). -/
def DcbMem.perturb (m : DcbMem) (par : Nat → Int) (dp : Int) : DcbMem :=
  if (dp.natAbs : Int) < par 458 ∨ dp = 0 then m
  else
    let up := if 0 < dp then m.rising else !m.rising
    let d := dcbMove par dp.natAbs
    { m with vref := if up then m.vref + d else m.vref - d, rising := up }

/-- The MODE 1 step (R197): by dP/dV, and by MODE 0 where dV is 0. -/
def DcbMem.conductance (m : DcbMem) (par : Nat → Int) (dp dv : Int) : DcbMem :=
  if dv = 0 then m.perturb par dp
  else
    let g := quotient 31 dp dv
    if (g.natAbs : Int) < par 458 ∨ g = 0 then m
    else
      let d := dcbMove par g.natAbs
      { m with vref := if 0 < g then m.vref + d else m.vref - d, rising := decide (0 < g) }

/-- One invocation of tracking (R196, R197): the power joins the step's sum; the step is taken after TSTEP invocations, but not while limited. The mean
power of a step that ended, if one did, and whether the step was taken. -/
def DcbMem.track (m : DcbMem) (par : Nat → Int) (limited : Bool) (v p : Int) : DcbMem × Option (Int × Bool) :=
  let sum := m.sumP + p
  let n := m.count + 1
  if 2 ≤ m.mode then ({ m with sumP := 0, count := 0 }, none)
  else if (n : Int) < par 454 then ({ m with sumP := sum, count := n }, none)
  else
    let mean := sum.tdiv n
    let m1 := { m with sumP := 0, count := 0 }
    if limited then (m1, some (mean, false))
    else
      let m2 := if m.mode = 0 then m1.perturb par (mean - m.lastP) else m1.conductance par (mean - m.lastP) (v - m.lastV)
      ({ m2 with lastP := mean, lastV := v }, some (mean, true))

/-- The scan's maximum (R198): in MODE 2 slice 1 of both channels; and NR. -/
def State.dcbScan (s : State) (c : Nat) (v : Inv) : List (Nat × Int) × Bool :=
  let par := v.par .dcb
  let (mv, nv) := s.meanAt c 0 1
  let (mi, ni) := s.meanAt c 1 1
  let x := sat32 (rshr (mv * par 450) 31 + par 451)
  let y := sat32 (rshr (mi * par 452) 31 + par 453)
  if par 449 ≠ 2 then ([], false)
  else (if !nv ∧ !ni ∧ v.word 389 < mul31 x y then [(389, mul31 x y), (390, x), (391, y)] else [], nv || ni)

/-- DCB's STATUS (R195). -/
def State.dcbStatus (s : State) (c : Nat) (v : Inv) (limited noLink : Bool) (want : Int) : Int :=
  let par := v.par .dcb
  let b (x : Bool) (k : Nat) : Int := if x then 2 ^ k else 0
  b limited 0 + b (decide (want ≤ par 459)) 1 + b (decide (par 460 ≤ want)) 2 + b noLink 3 + b (!s.rampNames c) 4
    + b (RefProg.dcb.clamps v.word) 5 + b (decide (par 449 = 2)) 6

/-- DCB after DUTY: tracking, the scan and the report words, as they stand at END (R195 to R198). -/
def State.dcbReport (s : State) (e : Nat) (v : Inv) (r : RefRun) : Inv :=
  let c := e / 2
  let par := v.par .dcb
  let limited := s.rdw .PK_ARBOUT c != s.rdw .PK_SLOTVAL c 0
  let (m, step) := r.mem.dcb.track par limited r.volt[0] (mul31 r.volt[0] r.cur[0])
  let (scan, nr) := s.dcbScan c v
  let dv := r.volt[0] - r.mem.dcb.lastV
  let divides := r.mem.dcb.mode == 1 && step.any Prod.snd
  let dp := (step.map Prod.fst).getD 0 - r.mem.dcb.lastP
  let words : List (Nat × Int) := match step with
    | some (mean, taken) => (386, mean) :: if taken then [(392, v.word 392 + 1)] else []
    | none => []
  let v1 := v.putWords (words ++ scan ++ [(388, s.dcbStatus c v limited r.mark m.vref)])
  { v1 with
    nr := v.nr || nr, dz := v.dz || (divides && dv == 0), sat := v.sat || (divides && quotientSat 31 dp dv)
    ref := some { r with mem := { r.mem with dcb := { m with vref := dcbWindow par m.vref } } } }

end Sys2Proof.Machine
end

