-- ==== Sys2Proof/Machine/RefAc.lean ====
section
/-! DEFINITION. The AC reference programs up to DUTY, and what ACO does after it (R203 to R211). 1.0 pu is 2^30; the modulation index is Q1.31. -/

namespace Sys2Proof.Machine

/-! ### The layout (R203, R205) -/

/-- Where a program's cell stands in its block: c0, its leg, whether it is the lower cell (R203, R223). -/
structure AcPlace where
  c0 : Nat
  leg : Nat
  lower : Bool
deriving DecidableEq, Repr

/-- The place of cell `c` under program `k` (R202, R223). -/
def acPlace (k : RefProg) (par : Nat → Int) (c : Nat) : AcPlace :=
  match k with
  | .aco => ⟨(par 448).toNat, 0, true⟩
  | .acu | .acw => ⟨(par 448).toNat, (par 449).toNat / 2, (par 449).toNat % 2 == 1⟩
  | _ => ⟨c, 0, false⟩

/-- The bitstream channels a program reads (R203). -/
def acStreams (k : RefProg) (c0 c : Nat) : List (Nat × Nat) :=
  match k with
  | .acr => [(c0, 2), (c0 + 2, 2), (c0 + 4, 2)]
  | .aco => [(c, 2), (c, 3)]
  | _ => []

/-- Whether the layout is that of R203: six cells of one block from an even c0, the cell in its place, the channels there. -/
def State.acLayout (s : State) (k : RefProg) (c : Nat) (p : AcPlace) : Bool :=
  p.c0 % 2 == 0 && decide (p.c0 + 5 < 48) && c == p.c0 + 2 * p.leg + p.lower.toNat && (s.blockOf p.c0).isSome
    && (List.range 6).all (fun n => s.blockOf (p.c0 + n) == s.blockOf p.c0)
    && (acStreams k p.c0 c).all (fun x => (s.channelAt x.1 x.2).isSome)

/-- DOM_CTRL (R222, R223). -/
def ctrlDomain (k : RefProg) (par : Nat → Int) : Nat := (par (if k = RefProg.acr then 468 else 450)).toNat

/-- The words of R205: ACR reads its own working copy, a follower ACR's committed words; V1 and P_E after them. -/
def State.acShared (s : State) (k : RefProg) (c0 : Nat) (v : Inv) : List Int :=
  ((List.range 12).map (· + 384) ++ [398, 409]).map (fun a => if k = RefProg.acr then v.word a else s.reportOf c0 a)

/-- The voltages a program reads: ACR the three phases, ACO the half voltages of the DC link (R203). -/
def State.acVolts (s : State) (k : RefProg) (c : Nat) : List (Int × Bool) :=
  match k with
  | .acr => [s.meanAt c 2 1, s.meanAt (c + 2) 2 1, s.meanAt (c + 4) 2 1]
  | .aco => [s.meanAt c 2 1, s.meanAt c 3 1]
  | _ => []

/-- The slots before DUTY (R206, R209, R218): ACR's rated and ride-through limits, ACO's three contenders, a follower's reference and limit. -/
def acSlots (k : RefProg) (par : Nat → Int) (mem : RefMem) (shared : List Int) (dc : Int) : List RefOut :=
  let w (n : Nat) : Int := shared.getD n 0
  match k with
  | .acr => [.slot 0 (wordOfInt (if par 470 = 0 then par 452 else min (par 452) mem.acr.idFf)), .slot 4 (wordOfInt (w 11))]
  | .aco => [.slot 0 (wordOfInt dc), .slot 1 (wordOfInt (quotient 30 (par 455) (w 12))), .slot 2 (wordOfInt (par 456))]
  | _ => [.slot 0 (wordOfInt (w 0)), .slot 4 (wordOfInt (w 11))]

/-- ACO's DC-link loop (R209): a PIS of option 0b01 on V_DC - VDC_REF. -/
def acoLink (par : Nat → Int) (track int vp vn : Int) : PiStep :=
  piStep refF (Config.acoCoef 0 0) (Config.acoCoef 0 1) track (Config.acoCoef 0 3) int (sat32 (rshr ((vp + vn) * par 453) 31 + par 454) - par 452)

/-- The reads of an AC program (R203): the currents, and the voltages. -/
def State.acReads (s : State) (k : RefProg) (c : Nat) (p : AcPlace) : List (Int × Bool) × List (Int × Bool) :=
  let u := c - p.lower.toNat
  ([s.meanAt u 0 0, s.meanAt u 1 0] ++ (if k = RefProg.aco then [s.meanAt (p.c0 + 4) 0 0] else []), s.acVolts k c)

/-- An AC program reads its inputs (R203, R205). A broken layout, a missing entry and a channel without a window, which the program reads as 0 with NR, end by
END DISCARD; ACR writes 0 to slot 4 before it. -/
def State.acAcquire (s : State) (e : Nat) (v : Inv) (r : RefRun) : Inv :=
  let c := e / 2
  let k := r.prog
  let par := v.par k
  let p := acPlace k par c
  let (reads, volts) := s.acReads k c p
  if !s.acLayout k c p || (reads ++ volts).any Prod.snd then
    { v with nr := true, ref := some { r with stage := .broken, mark := true, out := if k = RefProg.acr then [.slot 4 0] else [] } }
  else
    let x (l : List (Int × Bool)) (n : Nat) : Int := (l.getD n (0, false)).1
    let shared := s.acShared k p.c0 v
    let link := acoLink par (s.trackOf c).toInt r.mem.aco.dc (x volts 0) (x volts 1)
    { v with
      nr := v.nr || !s.usable (ctrlDomain k par)
      sat := v.sat || (k == .aco && (link.sat || quotientSat 30 (par 455) (shared.getD 12 0)))
      dz := v.dz || (k == .aco && shared.getD 12 0 == 0)
      ref := some { r with
        stage := .control, out := acSlots k par r.mem shared link.out
        cur := #v[x reads 0, x reads 1, x reads 2], volt := #v[x volts 0, x volts 1, x volts 2]
        shared := shared, u0 := s.reportOf (p.c0 + 1) 384, mark := false
        mem := if k = RefProg.aco then { r.mem with aco := { r.mem.aco with dc := link.int } } else r.mem } }

/-! ### The current loops (R204 to R206) -/

/-- The leg's part of the control angle (R205). -/
def legAngle (leg : Nat) : Word := if leg = 0 then 0 else if leg = 1 then -1431655765#32 else 1431655765#32

/-- What the loops of one invocation give: the current in the positive frame, the voltage commands in both frames, the new integrators, the sine and cosine of
the cell's angle, the modulation index, i_d1* without the probe's part. -/
structure AcLoop where
  i1 : Int × Int
  u1 : Int × Int
  u2 : Int × Int
  ints : List Int
  sn : Int
  cs : Int
  m : Int
  idRef : Int
  sat : Bool
deriving DecidableEq, Repr

/-- The feed-forward of a phase (R206): words 392 and 393 are those of phases A and B. -/
def feedForward (shared : List Int) (x : Nat) : Int :=
  if x = 0 then shared.getD 8 0 else if x = 1 then shared.getD 9 0 else -(shared.getD 8 0 + shared.getD 9 0)

/-- The loops of one cell (R205, R206): i_d1* is T, bounded from below at -RT_LIM. -/
def State.acLoops (s : State) (e : Nat) (v : Inv) (r : RefRun) : AcLoop :=
  let par := v.par r.prog
  let p := acPlace r.prog par (e / 2)
  let th := v.angs.toList.getD (ctrlDomain r.prog par) 0 + legAngle p.leg
  let sn := scsValue th false
  let cs := scsValue th true
  let al := r.cur[0]
  let be := sat32 (rshr (r.cur[0] * kR3 + r.cur[1] * k2R3) 31)
  let i1 := toFrame al be sn cs
  let i2 := toFrame al be (-sn) cs
  let w (n : Nat) : Int := r.shared.getD n 0
  let ref := max (s.trackOf (e / 2)).toInt (-(w 11))
  let id := ref + (if r.prog = RefProg.acr then r.mem.acr.probeD else 0)
  let k (n : Nat) : Int := (s.coefOf e v n).toInt
  let pi (n : Nat) (x : Int) : PiStep := piStep refF (k (4 * n)) (k (4 * n + 1)) (k (4 * n + 2)) (k (4 * n + 3)) (w (4 + n)) (sat32 x)
  let d1 := pi 0 (id - i1.1)
  let q1 := pi 1 (w 1 - i1.2)
  let d2 := pi 2 (w 2 - i2.1)
  let q2 := pi 3 (w 3 - i2.2)
  let vx := sat32 (phaseOf 0 d1.out q1.out sn cs + phaseOf 0 d2.out q2.out (-sn) cs + feedForward r.shared p.leg)
  { i1 := i1, u1 := (d1.out, q1.out), u2 := (d2.out, q2.out), ints := [d1.int, q1.int, d2.int, q2.int], sn := sn, cs := cs
    m := sat32 (mul16 (w 10) vx + r.u0), idRef := sat32 ref, sat := d1.sat || q1.sat || d2.sat || q2.sat }

/-- The ratio of a cell (R204). -/
def acRatio (lower : Bool) (m : Int) : Int := if lower then min 2147483647 (2147483648 + min m 0) else max m 0

/-! ### ACO after DUTY (R210, R211) -/

/-- A participant's entry in the list (R211, R223), if it names one. -/
def Inv.participant (v : Inv) (j : Nat) : Option Word :=
  let w := dataWord v.data (460 + j)
  if w = 0xFFFFFFFF then none else some w

/-- u_circ of another participant, with NR (R211). -/
def State.peerCirc (s : State) (w : Word) : Int × Bool :=
  let (x, nr) := if bit w 8 then s.sharedRead (bits w 0 8) else s.xchRead (bits w 0 6) 3 2
  (x.toInt, nr)

/-- What the other participants' reads give. -/
def State.peerReads (s : State) (v : Inv) (self : Nat) : List (Int × Bool) :=
  ((List.range 8).filter (· != self)).filterMap (fun j => (v.participant j).map s.peerCirc)

/-- The publication of u_circ (R211): when the own entry names a shared value assigned to the cell. -/
def State.circPublish (s : State) (c : Nat) (v : Inv) (self : Nat) (u : Int) : List RefOut :=
  match v.participant self with
  | some w =>
    let k := bits w 0 8
    if bit w 8 && s.sources k && !s.on UH_USVCFG_SRC k && s.get UH_USVCFG_ID k == c then [.publish k (wordOfInt u)] else []
  | none => []

/-- The largest modulation index of the three phases without u0 (R210). -/
def AcLoop.peakIndex (l : AcLoop) (shared : List Int) : Int :=
  ((List.range 3).map (fun x =>
    let vx := sat32 (phaseOf x l.u1.1 l.u1.2 l.sn l.cs + phaseOf x l.u2.1 l.u2.2 (-l.sn) l.cs + feedForward shared x)
    ((mul16 (shared.getD 10 0) vx).natAbs : Int))).foldl max 0

/-- ACO after DUTY (R210, R211): u_np, u_circ, u0, and what it publishes. At its limit u0 is what the circulating term makes of it last. -/
def State.acoReport (s : State) (e : Nat) (v : Inv) (r : RefRun) (l : AcLoop) : Inv :=
  let c := e / 2
  let par := v.par .aco
  let bal := wordOfInt (par 457)
  let self := (par 459).toNat
  let m := r.mem.aco
  let k := Config.acoCoef
  let diff := sat32 (rshr ((r.volt[0] - r.volt[1]) * par 453) 31)
  let np := piStep refF (k 1 0) (k 1 1) (k 1 2) (k 1 3) m.np (if r.shared.getD 13 0 < 0 then -diff else diff)
  let circ := piStep refF (k 2 0) (k 2 1) (k 2 2) (k 2 3) m.circ (-((r.cur[0] + r.cur[1] + r.cur[2]).tdiv 3))
  let reads := s.peerReads v self
  let peers := (reads.filter (fun x => !x.2)).map Prod.fst
  let alone := bit bal 1 && peers.isEmpty
  let uNp := if bit bal 0 then np.out else 0
  let uCirc := if bit bal 1 then circ.out else 0
  let term := if !bit bal 1 || alone then 0 else uCirc - (uCirc + peers.sum).tdiv (peers.length + 1 : Nat)
  let lim := min (par 458) (max 0 (2147483647 - l.peakIndex r.shared))
  let u0 := max (-lim) (min lim (uNp + term))
  let status : Int := (RefProg.aco.clamps v.word).toInt + 8 * alone.toInt + 32 * (s.rdw .PK_ARBOUT c != s.rdw .PK_SLOTVAL c 0).toInt
  let v1 := v.putWords [(384, u0), (385, uNp), (386, uCirc), (407, status)]
  { v1 with
    sat := v.sat || (bit bal 0 && np.sat) || (bit bal 1 && circ.sat), nr := v.nr || (bit bal 1 && reads.any Prod.snd)
    ref := some { r with
      out := if bit bal 1 then s.circPublish c v self uCirc else []
      mem := { r.mem with aco := { m with
        np := if bit bal 0 then np.int else m.np, circ := if bit bal 1 && !alone then circ.int else m.circ } } } }

end Sys2Proof.Machine
end

