-- ==== Sys2Proof/Machine/RefAcr.lean ====
section
/-! DEFINITION. ACR after DUTY: the measures, the ride-through state and its references (R214 to R221, R224), islanding evidence, the probe and the
votes (R227 to R236, R241). -/

namespace Sys2Proof.Machine

/-! ### What it reads -/

/-- What ACR reads of the module after DUTY, besides its data words: the control, grid and probe angles, the domains' states and increments, FREQ and
ROCOF of DOM_GRID, the phase voltages in pu, the sine and cosine of the control angle and the current in its frame, T, whether the arbiter limits i_d1*,
whether a read returned NR. -/
structure AcrIn where
  thC : Word
  thG : Word
  thP : Word
  gridSt : Nat
  probeSt : Nat
  gridInc : Int
  ctrlInc : Int
  freq : Int
  rocof : Int
  v : Vector Int 3
  sn : Int
  cs : Int
  i1 : Int × Int
  idRef : Int
  al : Int
  be : Int
  limited : Bool
  nr : Bool
deriving DecidableEq, Repr

/-- ACR's reads after DUTY. -/
def State.acrIn (s : State) (e : Nat) (v : Inv) (r : RefRun) (l : AcLoop) : AcrIn :=
  let c := e / 2
  let par := v.par .acr
  let g := (par 469).toNat
  let p := (par 480).toNat
  let ang (d : Nat) : Word := v.angs.toList.getD d 0
  { thC := ang (par 468).toNat, thG := ang g, thP := ang p + ang p, gridSt := s.domSt g, probeSt := s.domSt p
    gridInc := s.get HF_INC_INC g, ctrlInc := s.get HF_INC_INC (par 468).toNat
    freq := s.get HF_FREQ_FREQ g, rocof := sgn (s.rdw .HF_ROCOF g)
    v := #v[mul31 r.volt[0] (par 453), mul31 r.volt[1] (par 453), mul31 r.volt[2] (par 453)]
    sn := l.sn, cs := l.cs, i1 := l.i1, idRef := l.idRef, al := r.cur[0], be := sat32 (rshr (r.cur[0] * kR3 + r.cur[1] * k2R3) 31)
    limited := s.rdw .PK_ARBOUT c != s.rdw .PK_SLOTVAL c 0, nr := r.mark }

/-- The voltage vector (R98, the three phases), and its positive and negative frames. -/
def AcrIn.vector (x : AcrIn) : Int × Int :=
  (sat32 (rshr (x.v[0] * kTwoThirds - x.v[1] * kThird - x.v[2] * kThird) 31), sat32 (rshr (x.v[1] * kR3 - x.v[2] * kR3) 31))
def AcrIn.v1 (x : AcrIn) : Int × Int := toFrame x.vector.1 x.vector.2 x.sn x.cs
def AcrIn.v2 (x : AcrIn) : Int × Int := toFrame x.vector.1 x.vector.2 (-x.sn) x.cs

/-! ### The measures (R216, R221) -/

/-- A mean of the first elements of a list, 0 of none. -/
def meanOf (l : List Int) : Int := l.sum.tdiv (atLeast1 l.length : Nat)

/-- The measures of this invocation join the memory (R216): K_RMS squares and vectors are kept, half turns and parts of 9° of DOM_GRID close. -/
def AcrMem.measure (m : AcrMem) (k : Nat) (x : AcrIn) : AcrMem :=
  let half := x.thG.toNat / 2 ^ 31
  let part := x.thG.toNat * 40 / 2 ^ 32
  let sqs := x.v.map (fun y => y * y)
  let turned := half != m.half
  { m with
    sq := Vector.ofFn (fun n : Fin 3 => (sqs[n] :: m.sq[n]).take k)
    dq := (x.v1 :: m.dq).take k
    half := half, part := part
    hc := if turned then m.hcSum.map (fun y => (isqrt (2 * y.toNat / atLeast1 m.hcN) : Int)) else m.hc
    hcSum := if turned then sqs else Vector.ofFn (fun n : Fin 3 => m.hcSum[n] + sqs[n])
    hcN := if turned then 1 else m.hcN + 1
    parts := match m.parts with
      | (a, b, n) :: rest => if part = m.part then (a + x.v2.1, b + x.v2.2, n + 1) :: rest else ((x.v2.1, x.v2.2, 1) :: m.parts).take 21
      | [] => [(x.v2.1, x.v2.2, 1)] }

/-- V_x,1ms (R216), over the invocations there are up to K_RMS; voltages are in pu of the peak, an RMS of 1.0 pu is the nominal RMS (R204). -/
def AcrMem.vMs (m : AcrMem) (x : Fin 3) : Int := isqrt (2 * meanOf m.sq[x]).toNat

/-- The lowest and the highest V_x,1ms. -/
def AcrMem.vLow (m : AcrMem) : Int := min (m.vMs 0) (min (m.vMs 1) (m.vMs 2))
def AcrMem.vHigh (m : AcrMem) : Int := max (m.vMs 0) (max (m.vMs 1) (m.vMs 2))

/-- V1 (R216). -/
def AcrMem.v1 (m : AcrMem) : Int := magnitude (meanOf (m.dq.map Prod.fst)) (meanOf (m.dq.map Prod.snd))

/-- The mean of the negative-frame voltage over the last 20 closed parts (R216), and V2. -/
def AcrMem.v2Vector (m : AcrMem) : Int × Int :=
  let l := m.parts.tail
  let n := atLeast1 (l.map (fun (p : Int × Int × Nat) => p.2.2)).sum
  ((l.map (fun (p : Int × Int × Nat) => p.1)).sum.tdiv n, (l.map (fun (p : Int × Int × Nat) => p.2.1)).sum.tdiv n)
def AcrMem.v2 (m : AcrMem) : Int := magnitude m.v2Vector.1 m.v2Vector.2

/-- V1_PRE (R216). -/
def AcrMem.v1Pre (m : AcrMem) : Int := m.pre.fdiv (2 ^ 24)

/-- The change of the grid angle's advance, signed (R221); 0 until two angles are known. -/
def AcrMem.phi (m : AcrMem) (x : AcrIn) : Int :=
  match m.th1, m.th2 with
  | some a, some b => ((x.thG - a) - (a - b)).toInt
  | _, _ => 0

/-- A jump (R221), and one above JMAX. -/
def isJump (phi : Int) : Bool := decide (degreeAu 2 360 ≤ phi.natAbs)
def bigJump (par : Nat → Int) (phi : Int) : Bool := isJump phi && decide (degreeAu (par 466).toNat 360 < phi.natAbs)

/-! ### The ride-through state (R217, R220) -/

def rtNormal : Nat := 0
def rtLv : Nat := 1
def rtHv : Nat := 2
def rtZv : Nat := 3
def rtCease : Nat := 4
def rtRecover : Nat := 5
def rtLost : Nat := 6

/-- Invocations in a time of `t` ms (R216). -/
def ticksOfMs (par : Nat → Int) (t : Int) : Nat := (t * par 467).toNat

/-- Every V_x,1ms within the RECOVER band (R217). -/
def AcrMem.inBand (m : AcrMem) (par : Nat → Int) : Bool :=
  decide (par 455 + par 457 ≤ m.vLow) && decide (m.vHigh ≤ par 456 - par 457)

/-- The angle of DOM_GRID since the last invocation, signed. -/
def AcrMem.advance (m : AcrMem) (x : AcrIn) : Int :=
  match m.th1 with
  | some a => (x.thG - a).toInt
  | none => 0

/-- The next ride-through state (R217): the first row that matches. With this invocation the state has lasted one more, and the angle turned on. `lim` is
RT_LIM as the last invocation left it, which is the limit in force now (the worked example of R221). -/
def AcrMem.next (m : AcrMem) (par : Nat → Int) (x : AcrIn) (phi lim : Int) : Nat :=
  let st := m.state
  let mode := wordOfInt (par 454)
  let live := x.gridSt == domLive
  if x.gridSt = domLost then rtLost
  else if st ≠ rtLost ∧ (bigJump par phi ∨ (st = rtZv ∧ ticksOfMs par (par 463) ≤ m.stay + 1) ∨ (bit mode 1 ∧ m.vLow < par 458)) then rtCease
  else if (st = rtNormal ∨ st = rtLv ∨ st = rtHv ∨ st = rtRecover) ∧ x.gridSt = domCoast then rtZv
  else if (st = rtNormal ∨ st = rtHv ∨ st = rtRecover) ∧ m.vLow < par 455 then rtLv
  else if (st = rtNormal ∨ st = rtRecover) ∧ par 456 < m.vHigh ∧ par 455 ≤ m.vLow then rtHv
  else if (st = rtLv ∨ st = rtHv ∨ st = rtZv ∨ st = rtCease) ∧ live ∧ m.inBand par ∧ (st = rtCease ∧ m.jumped → 2 ^ 31 ≤ m.turned + m.advance x) then rtRecover
  else if st = rtRecover ∧ ticksOfMs par (par 464) ≤ m.stay + 1 ∧ par 452 ≤ lim then rtNormal
  else if st = rtLost ∧ live ∧ m.inBand par then rtRecover
  else st

/-- The state and its times after this invocation's transition (R217, R221): a CEASE entered by a jump counts the angle turned since. -/
def AcrMem.enter (m : AcrMem) (par : Nat → Int) (x : AcrIn) (phi lim : Int) : AcrMem :=
  let st := m.next par x phi lim
  let jump := decide (st = rtCease) && bigJump par phi
  { m with
    state := st
    stay := if st = m.state then m.stay + 1 else 0
    jumped := jump || (decide (st = m.state) && m.jumped)
    turned := if jump || decide (st ≠ m.state) then 0 else (m.turned + m.advance x).toNat
    limFrom := if st = rtRecover ∧ m.state ≠ rtRecover then lim else m.limFrom }

/-! ### The references (R218) -/

/-- The references and RT_LIM of one invocation: i_q1*, i_2*, RT_LIM. -/
structure AcrRefs where
  iq : Int
  neg : Int × Int
  lim : Int
deriving DecidableEq, Repr

/-- The positive-sequence injection in LV, HV and ZV (R218). -/
def AcrMem.injection (m : AcrMem) (par : Nat → Int) : Int :=
  let du := m.v1 - m.v1Pre
  let i := if par 461 < du.natAbs then par 448 + mul16 (par 459) du else par 448
  max (-(par 452)) (min (par 452) i)

/-- The negative-sequence injection (R218): K_NEG × V2, a quarter turn ahead of the voltage in its own rotation, within what i_q1* leaves of I_MAX. -/
def AcrMem.negInjection (m : AcrMem) (par : Nat → Int) (iq : Int) : Int × Int :=
  let size := min (mul16 (par 460) m.v2) (max 0 (par 452 - iq.natAbs))
  if !bit (wordOfInt (par 454)) 2 || m.v2 = 0 then (0, 0) else ((m.v2Vector.2 * size).tdiv m.v2, (-(m.v2Vector.1) * size).tdiv m.v2)

/-- RT_LIM in RECOVER (R218): held for T_HOLD, then raised by P_RAMP × T_s per invocation up to I_MAX. -/
def AcrMem.recoverLim (m : AcrMem) (par : Nat → Int) : Int :=
  let n : Int := (m.stay - ticksOfMs par (par 464) : Nat)
  min (par 452) (m.limFrom + (par 465 * n * 2 ^ 14).tdiv (1000 * par 467))

/-- What the state applies (R217, R218): with RT_MODE.EN 0 the NORMAL row. -/
def AcrMem.refs (m : AcrMem) (par : Nat → Int) : AcrRefs :=
  let st := if bit (wordOfInt (par 454)) 0 then m.state else rtNormal
  if st = rtNormal then ⟨par 448, (par 450, par 451), par 452⟩
  else if st = rtCease ∨ st = rtLost then ⟨0, (0, 0), 0⟩
  else if st = rtRecover then ⟨par 448, (0, 0), m.recoverLim par⟩
  else
    let iq := m.injection par
    let neg := m.negInjection par iq
    let left := max 0 (par 452 - magnitude neg.1 neg.2)
    ⟨iq, neg, isqrt (left * left - iq * iq).toNat⟩

/-! ### Forming (R214, R215) -/

/-- p_e and the reactive power (R214, R224). -/
def AcrIn.power (x : AcrIn) : Int := sat32 (mulPu x.v1.1 x.i1.1 + mulPu x.v1.2 x.i1.2)
def AcrIn.reactive (x : AcrIn) : Int := sat32 (mulPu x.v1.2 x.i1.1 - mulPu x.v1.1 x.i1.2)

/-- The forming law (R214, R215): the new increment of DOM_CTRL, i_d1_ff and i_q1_ff. While the arbiter limits or the state is not NORMAL p_set is
p_e; without a LIVE DOM_GRID w_g is 1. -/
def AcrMem.form (m : AcrMem) (par : Nat → Int) (x : AcrIn) : Int × Int × Int :=
  let wv := quotient 16 x.ctrlInc (par 478)
  let wg := if x.gridSt = domLive then quotient 16 x.gridInc (par 478) else 65536
  let pe := x.power
  let set := if x.limited ∨ m.state ≠ rtNormal then pe else par 471
  let dp := rshr (set - pe) 14
  let w1 :=
    if par 470 = 1 then wv + ((dp - rshr (par 473 * (wv - wg)) 16) * 65536).tdiv (2000 * par 467 * par 472)
    else wv + (65536 + rshr (par 474 * dp) 16 - wv).tdiv (20 * par 467)
  let e := sat32 (par 477 + mul16 (par 475) (par 448 - x.i1.2))
  (rshr (par 478 * w1) 16, quotient 30 (-x.v1.2) (par 476), quotient 30 (-(e - x.v1.1)) (par 476))

/-! ### The probe (R231 to R234) -/

/-- The chip of a window (R230, R240). -/
def chipOf (pattern : Word) (n : Nat) : Int :=
  match bits pattern (2 * (n % 16)) 2 with
  | 1 => 1
  | 3 => -1
  | _ => 0

/-- The probe angle passes 0. -/
def ProbeMem.wraps (m : ProbeMem) (x : AcrIn) : Bool := decide (x.thP.toNat < m.last.toNat) && decide (0 ≤ (x.thP - m.last).toInt)

/-- The window in progress, closed (R233). -/
def ProbeMem.closed (m : ProbeMem) (nw : Nat) : ProbeWin :=
  let f (a : Int) : Int := (2 * a).tdiv (atLeast1 m.n : Nat)
  let k := m.cyc / nw
  ⟨k, chipOf m.cfg.2.1 k, m.valid, (f m.v.1, f m.v.2), (f m.i.1, f m.i.2)⟩

/-- Window `u` is one of the four before `w`, by their indices modulo 16 (R234). -/
def ProbeWin.before (u w : ProbeWin) : Bool :=
  let d := (w.index + 16 - u.index % 16) % 16
  decide (1 ≤ d) && decide (d ≤ 4)

/-- The estimate from a window that ended (R234). -/
def ProbeMem.estimate (m : ProbeMem) (par : Nat → Int) (w : ProbeWin) : ProbeMem :=
  let m0 := { m with weak := false, noPair := false }
  if !w.valid ∨ w.chip = 0 then m0
  else match m.wins.find? (fun u => u.valid && u.chip == -w.chip && u.before w) with
    | none => { m0 with noPair := true }
    | some u =>
      let dv := (w.v.1 - u.v.1, w.v.2 - u.v.2)
      let di := (w.i.1 - u.i.1, w.i.2 - u.i.2)
      let iMag := magnitude di.1 di.2
      if iMag * 1000 < par 487 * onePu then { m0 with weak := true }
      else
        let z := quotient 30 (magnitude dv.1 dv.2) iMag
        { m0 with
          zEst := z, zAng := (vectorAngle dv.1 dv.2 - vectorAngle di.1 di.2).toInt
          conf := if par 488 ≤ z then m.conf + 1 else 0, hard := decide (par 489 ≤ z) }

/-- A new window begins. -/
def ProbeMem.begin (m : ProbeMem) (par : Nat → Int) (pattern : Word) : ProbeMem :=
  { m with v := (0, 0), i := (0, 0), n := 0, valid := true, lost := false, cfg := (par 485, pattern, par 487) }

/-- The probe-cycle counter and the windows in one invocation (R231, R233, R234): a change of P_SEQ loads the counter and makes the window in progress
invalid; a wrap of the probe angle counts a cycle, modulo 16 windows, and ends a window with its last. -/
def ProbeMem.turn (m : ProbeMem) (par : Nat → Int) (pattern : Word) (x : AcrIn) : ProbeMem :=
  let nw := (par 485).toNat
  if wordOfInt (par 483) ≠ m.seq then
    let m1 := m.begin par pattern
    { m1 with seq := wordOfInt (par 483), cyc := (par 484).toNat, last := x.thP + wordOfInt (2 * par 482), valid := false, lost := m.lost }
  else if m.wraps x then
    let cyc := (m.cyc + 1) % (16 * nw)
    if cyc % nw = 0 then
      let w := m.closed nw
      let m1 := m.estimate par w
      { (m1.begin par pattern) with cyc := cyc, last := x.thP, wins := (w :: m.wins).take 4, probeLost := !m.valid && m.lost }
    else { m with cyc := cyc, last := x.thP }
  else { m with last := x.thP }

/-- The sums of the window in progress take this invocation (R233). -/
def ProbeMem.gather (m : ProbeMem) (par : Nat → Int) (pattern : Word) (x : AcrIn) (state : Nat) : ProbeMem :=
  let sn := scsValue x.thP false
  let cs := scsValue x.thP true
  let dv := toFrame x.vector.1 x.vector.2 sn cs
  let di := toFrame x.al x.be sn cs
  let live := x.probeSt == domLive
  { m with
    v := (m.v.1 + dv.1, m.v.2 + dv.2), i := (m.i.1 + di.1, m.i.2 + di.2), n := m.n + 1
    valid := m.valid && decide (state = rtNormal) && decide (x.gridSt = domLive) && live && !x.nr && m.cfg == (par 485, pattern, par 487)
    lost := m.lost || !live }

/-- The probe's part of the references (R232): c × AMP × 10^-3 at the probe angle, seen from the control frame. -/
def probeRefs (par : Nat → Int) (chip : Int) (x : AcrIn) (state : Nat) : Int × Int :=
  if bit (wordOfInt (par 479)) 1 && decide (state = rtNormal) then
    let a := (chip * par 487 * onePu).tdiv 1000
    (mul31 a (scsValue (x.thP - x.thC) true), mul31 a (scsValue (x.thP - x.thC) false))
  else (0, 0)

/-! ### Islanding evidence (R227 to R229) -/

/-- A condition has held without a break for `t` invocations; `n` counts those in which it held. -/
def heldFor (n t : Nat) : Bool := decide (0 < n) && decide (t + 1 ≤ n)

/-- The holds of this invocation (R227, R228): they restart where a condition lapses, and all of them outside NORMAL and RECOVER. -/
def IslMem.gather (m : IslMem) (par : Nat → Int) (x : AcrIn) (q : AcrMem) (phi : Int) (run : Bool) : IslMem :=
  let step (n : Nat) (c : Bool) : Nat := if run && c then n + 1 else 0
  { m with
    rocof := step m.rocof (decide (par 491 ≤ x.rocof.natAbs))
    rocofHard := step m.rocofHard (decide (par 492 ≤ x.rocof.natAbs))
    volt := step m.volt (decide (q.vLow < par 496) || decide (par 497 < q.vHigh))
    freq := step m.freq (decide (x.freq < par 499) || decide (par 500 < x.freq))
    shift := if !run then 0 else if degreeAu (par 494).toNat 3600 ≤ phi.natAbs then ticksOfMs par 100 else m.shift - 1 }

/-- EVIDENCE (R227, R241). -/
def evidenceOf (m : IslMem) (p : ProbeMem) (par : Nat → Int) (run : Bool) : Nat :=
  let ctl := wordOfInt (par 479)
  (heldFor m.rocof (ticksOfMs par (par 493))).toNat + 2 * (decide (0 < m.shift)).toNat + 4 * (heldFor m.volt (ticksOfMs par (par 498))).toNat
    + 8 * (heldFor m.freq (ticksOfMs par (par 501))).toNat + 16 * (run && bit ctl 1 && decide (par 490 ≤ p.conf)).toNat

/-- HARDBITS (R227, R241). -/
def hardOf (m : IslMem) (p : ProbeMem) (par : Nat → Int) (phi : Int) (run : Bool) : Nat :=
  let ctl := wordOfInt (par 479)
  (heldFor m.rocofHard (ticksOfMs par (par 493))).toNat
    + 2 * (run && bit ctl 0 && decide (degreeAu (par 495).toNat 3600 ≤ phi.natAbs)).toNat + 16 * (run && bit ctl 1 && p.hard).toNat

/-- LOCAL (R229): the impedance bit, or PASS_N of the four passive bits. -/
def localOf (par : Nat → Int) (evidence : Nat) : Bool :=
  let w := BitVec.ofNat 32 evidence
  bit w 4 || decide (par 502 ≤ ((List.range 4).filter (fun k => bit w k)).length)

/-! ### Agreement (R236) -/

/-- The votes of one invocation: the fresh ranks, those of them with LOCAL or DEMANDED. -/
structure Votes where
  fresh : List Nat
  yes : List Nat
deriving DecidableEq, Repr

/-- The vote word of a rank, and STALE. -/
def State.voteOf (s : State) (par : Nat → Int) (r : Nat) : Word × Bool := s.sharedRead (((par 504).toNat + r) % 256)

/-- The votes that ACR reads (R236): the own device's is always fresh, another's with its SEQ and a window within ±1, both modulo the 16 windows that the probe-cycle
counter tells apart. -/
def State.readVotes (s : State) (par : Nat → Int) (win : Nat) : Votes :=
  let seq := bits (wordOfInt (par 503)) 4 4
  let fresh := ((List.range 16).filter (fun r => bit (wordOfInt (par 505)) r)).filter (fun r =>
    let (w, stale) := s.voteOf par r
    r == s.rank || (!stale && bits w 4 4 == seq && (bits w 8 8 + 17 - win % 16) % 16 ≤ 2))
  ⟨fresh, fresh.filter (fun r => bit (s.voteOf par r).1 0 || bit (s.voteOf par r).1 2)⟩

/-- ISL_STATUS of the peers that ISL_PEERS names (R236). -/
def State.peerStatus (s : State) (par : Nat → Int) : List Word :=
  ((List.range 22).filter (fun j => bit (wordOfInt (par 507)) j)).map (fun j => wordOfInt (s.reportOf (2 * j) 411))

/-- The vote word of the driving ACR (R236). -/
def voteWord (par : Nat → Int) (here hard : Bool) (peers : List Word) (win : Nat) : Word :=
  let aux := wordOfInt (par 503)
  BitVec.ofNat 32 ((here || peers.any (fun w => bit w 0)).toNat + 2 * (hard || peers.any (fun w => bit w 1)).toNat + 4 * (bit aux 0).toNat
    + 16 * bits aux 4 4 + 256 * (win % 256))

/-- AGREED, and the wait for it (R236). -/
def IslMem.agree (m : IslMem) (par : Nat → Int) (here voting : Bool) (votes : Votes) : IslMem × Bool :=
  let maj := here && voting && decide (votes.fresh.length < 2 * votes.yes.length) && !m.dissent
  let n := if here && voting && !maj then m.waiting + 1 else 0
  ({ m with waiting := n, dissent := here && voting && (m.dissent || decide (ticksOfMs par (par 506) < n)) }, maj)

/-! ### The whole of it -/

/-- A bit of a status word. -/
def flagAt (b : Bool) (k : Nat) : Int := if b then 2 ^ k else 0

/-- The outputs of ACR after DUTY: the event and the marker of a change of state (R217), the domains' increments (R214, R231), its vote (R236). -/
def acrOutputs (par : Nat → Int) (was : AcrMem) (m : AcrMem) (seqNew : Bool) (inc : Int) (vote : Word) (rank : Nat) : List RefOut :=
  let ctl := wordOfInt (par 479)
  let change : List RefOut := if was.state = m.state then [] else [.event, .marker (BitVec.ofNat 32 m.state)]
  let form : List RefOut := if par 470 = 0 then [] else [.inc (par 468).toNat (wordOfInt inc)]
  let drive : List RefOut :=
    if !bit ctl 2 then []
    else if seqNew then [.step (par 480).toNat (wordOfInt (par 481)) (par 482)] else [.inc (par 480).toNat (wordOfInt (par 481))]
  let voting : List RefOut := if bit ctl 2 && bit ctl 3 then [.publish (((par 504).toNat + rank) % 256) vote] else []
  change ++ form ++ drive ++ voting

/-- The report words of the ride-through part (R224) and of the references (R205). -/
def acrWords (par : Nat → Int) (clamp : Bool) (m : AcrMem) (x : AcrIn) (f : AcrRefs) (iq : Int) (probe : Int × Int) (ints : List Int) (phi old : Int) :
    List (Nat × Int) :=
  [(384, sat32 (x.idRef + probe.1)), (385, sat32 (iq + probe.2)), (386, f.neg.1), (387, f.neg.2)] ++ (List.range 4).map (fun n => (388 + n, ints.getD n 0))
    ++ [(392, x.v[0]), (393, x.v[1]), (394, par 449), (395, f.lim), (396, (m.state : Int)), (397, min (2 ^ 32 - 1) (m.stay / (par 467).toNat : Nat))
        , (398, m.v1), (399, m.v2), (400, m.v1Pre), (401, m.vMs 0), (402, m.vMs 1), (403, m.vMs 2), (404, m.hc[0]), (405, m.hc[1]), (406, m.hc[2])
        , (407, flagAt clamp 0 + flagAt (decide (m.state = rtLost)) 1 + flagAt (decide (par 470 ≠ 0) && decide (x.gridSt ≠ domLive)) 2 + flagAt x.limited 5)
        , (408, if isJump phi then phi else old), (409, x.power), (410, x.reactive)]

/-- The report words of the islanding part (R241). -/
def islWords (p : ProbeMem) (par : Nat → Int) (here hard agreed dissent suppressed : Bool) (evidence hards : Nat) (votes : Votes) : List (Nat × Int) :=
  [(411, flagAt here 0 + flagAt hard 1 + flagAt agreed 2 + flagAt dissent 3 + flagAt suppressed 4 + flagAt p.probeLost 5 + flagAt p.weak 6 + flagAt p.noPair 7)
   , (412, p.zEst), (413, p.zAng), (414, (p.cyc / (par 485).toNat : Nat)), (415, (evidence : Int)), (416, (hards : Int))
   , (417, (maskOf votes.fresh + 65536 * maskOf votes.yes : Nat))]

/-- ACR's ride-through part (R216 to R218, R221): its memory after this invocation, and phi. -/
def AcrMem.ride (m : AcrMem) (par : Nat → Int) (x : AcrIn) (lim : Int) : AcrMem × Int :=
  let m1 := m.measure (par 467).toNat x
  let phi := m.phi x
  let m2 := m1.enter par x phi lim
  let pre := if m2.state = rtNormal then m2.pre + (m2.v1 * 2 ^ 24 - m2.pre).fdiv (par 462 * par 467) else m2.pre
  ({ m2 with th1 := some x.thG, th2 := m.th1, pre := pre }, phi)

/-- ACR after DUTY. -/
def State.acrReport (s : State) (e : Nat) (v : Inv) (r : RefRun) (l : AcLoop) : Inv :=
  let par := v.par .acr
  let x := s.acrIn e v r l
  let was := r.mem.acr
  let (m, phi) := was.ride par x (v.word 395)
  let f := m.refs par
  let ctl := wordOfInt (par 479)
  let pattern := dataWord v.data 486
  let run := m.state == rtNormal || m.state == rtRecover
  let turned := was.probe.turn par pattern x
  let probe0 := turned.gather par pattern x m.state
  let probe := if run && bit ctl 1 then probe0 else { probe0 with conf := 0, hard := false }
  let isl := was.isl.gather par x m phi (run && bit ctl 0)
  let evidence := evidenceOf isl probe par run
  let hards := hardOf isl probe par phi run
  let here := localOf par evidence
  let win := probe.cyc / (par 485).toNat
  let voting := bit ctl 3 && bit ctl 1
  let votes := if voting then s.readVotes par win else ⟨[], []⟩
  let (isl1, agreed) := isl.agree par here voting votes
  let (inc, idFf, iqFf) := m.form par x
  let forming := par 470 != 0
  let stopped := bit (wordOfInt (par 454)) 0 && (m.state == rtCease || m.state == rtLost)
  let iq := if forming && !stopped then iqFf else f.iq
  let add := probeRefs par (chipOf pattern win) x m.state
  let vote := voteWord par here (hards != 0) (s.peerStatus par) win
  let v1 := v.putWords (acrWords par (RefProg.acr.clamps v.word) m x f iq add l.ints phi (v.word 408)
    ++ islWords probe par here (hards != 0) agreed isl1.dissent (!run) evidence hards votes)
  { v1 with
    ref := some { r with
      out := acrOutputs par was m (wordOfInt (par 483) != was.probe.seq) inc vote s.rank
      mem := { r.mem with acr := { m with isl := isl1, probe := probe, idFf := if forming then idFf else 0, probeD := add.1 } } } }

end Sys2Proof.Machine
end

