-- ==== Sys2Proof/Machine/RefRun.lean ====
section
/-! DEFINITION. An invocation of a reference program by its stages (R189, R193 to R241): each row of the Pick instruction set that its rules name does here what they say;
and the commit of an invocation (R60, R118). -/

namespace Sys2Proof.Machine

/-- Replace a running invocation that comes to its next word. -/
def State.setRun (s : State) (e : Nat) (v : Inv) : State := s.updEng e (fun u => { u with run := some { v with asked := (s.port e).grants } })

/-! ### Commit (R60, R69, R118) -/

/-- The region selector's new index (R69). -/
def moveIndex (bp : Vector Word 8) (h : Word) (i : Nat) (x : Word) : Nat :=
  let b (k : Nat) : Int := (bp.toList.getD k 0).toInt
  if i < 7 ∧ b (i + 1) + h.toInt ≤ x.toInt then
    (((List.range 8).filter (fun k => decide (i < k) && decide (b k + h.toInt ≤ x.toInt))).getLast?).getD i
  else if 0 < i ∧ x.toInt < b i - h.toInt then
    (((List.range 8).filter (fun k => decide (k < i) && decide (x.toInt < b (k + 1) - h.toInt))).head?).getD i
  else i

/-- The sticky flags go to PSTAT (R91, R118). -/
def State.stickyOut (s : State) (e : Nat) (v : Inv) : State :=
  let s1 := if v.sat then s.put PK_PSTAT_SAT_SEEN 1 e else s
  let s2 := if v.dz then s1.put PK_PSTAT_DZ_SEEN 1 e else s1
  if v.nr then s2.put PK_PSTAT_NR_SEEN 1 e else s2

/-- The working copy becomes the committed copy, and the region selector moves (R60, R69). -/
def State.commitInv (s : State) (e : Nat) (v : Inv) : State :=
  match (s.eng e).prog with
  | none => s
  | some p =>
    let x0 := s.rdw .PK_OPV e 0
    let x1 := s.rdw .PK_OPV e 1
    let s1 := ((s.updEng e (fun u => { u with data := v.data, mem := match v.ref with
      | some r => r.mem
      | none => u.mem })).wrw .PK_OPV v.opv0 e 0).wrw .PK_OPV v.opv1 e 1
    let s2 := if v.opv0 = x0 then s1 else s1.put PK_REGION_IX (moveIndex p.bpX p.hX (s1.get PK_REGION_IX e) v.opv0) e
    if v.opv1 = x1 then s2 else s2.put PK_REGION_IY (moveIndex p.bpY p.hY (s2.get PK_REGION_IY e) v.opv1) e

/-! ### Stages -/

/-- The row that releases an output. -/
def RefOut.row : RefOut → PickOp
  | .slot _ _ => .outSlot
  | .inc _ _ => .outInc
  | .step _ _ _ => .outStep
  | .event => .evtEvent
  | .marker _ => .evtMarker
  | .publish _ _ => .uhxWrite

/-- Release an output of engine `e`'s reference program, as its row does (R108, R110, R114). -/
def State.refRelease (s : State) (e : Nat) : RefOut → State
  | .slot j v => s.slotOut (e / 2) j v
  | .inc d v => s.outDomain (e / 2) d v 0
  | .step d v k => s.outDomain (e / 2) d v k
  | .event => s.raise (64 + e / 2)
  | .marker v => s.markerOut e v
  | .publish k v => s.uhxPublish (e / 2) k v

/-- The inputs are read and the contenders computed (R193, R203). A request of a class that the program does not serve ends by END DISCARD (DEDUCED, log entry
104). -/
def State.refAcquire (s : State) (e : Nat) (v : Inv) (r : RefRun) : Inv :=
  if v.cls ≠ clsAcc ∧ v.cls ≠ clsResync then { v with ref := some { r with stage := .broken, mark := false } }
  else if r.prog = RefProg.dcb then s.dcbAcquire e v r else s.acAcquire e v r

/-- The invocation after its DUTY, with its reports, and the ratio that DUTY gives the cell (R189, R204). -/
def State.refControl (s : State) (e : Nat) (v : Inv) (r : RefRun) : Inv × Int :=
  if r.prog = RefProg.dcb then s.dcbControl e v r
  else
    let l := s.acLoops e v r
    let v1 := { v with sat := v.sat || l.sat }
    let r1 := { r with stage := .report }
    let v2 := match r.prog with
      | .acr => s.acrReport e v1 r1 l
      | .aco => s.acoReport e v1 r1 l
      | _ => { v1 with ref := some r1 }
    (v2, acRatio (acPlace r.prog (v.par r.prog) (e / 2)).lower l.m)

/-- The invocation as it is committed: DCB's tracking and report words are those of its END (R195 to R198). -/
def State.refFinal (s : State) (e : Nat) (v : Inv) (r : RefRun) : Inv :=
  if r.prog = RefProg.dcb then s.dcbReport e v r else v

/-- A broken layout shows in STATUS bit 4 of ACR and ACO (R224), though END DISCARD commits nothing else (DEDUCED, log entry 104). -/
def State.layoutShow (s : State) (e : Nat) (r : RefRun) : State :=
  if r.mark && (r.prog == .acr || r.prog == .aco) then
    s.updEng e (fun u => { u with data := setData u.data 407 (dataWord u.data 407 ||| 16#32) })
  else s

/-- What a row does to an engine that runs a reference program: the output that stands first if it is the row's, or, with none outstanding, the stage's own row. -/
def State.refStep (s : State) (e : Nat) (op : PickOp) : State :=
  match (s.eng e).run with
  | none => s
  | some v => match v.ref with
    | none => s
    | some r => match r.out with
      | o :: rest => if o.row = op then (s.setRun e { v with ref := some { r with out := rest } }).refRelease e o else s
      | [] => match r.stage, op with
        | .acquire, .acq => s.setRun e (s.refAcquire e v r)
        | .control, .duty =>
          let (v1, x) := s.refControl e v r
          (s.setRun e v1).dutyOut (e / 2) 0 (wordOfInt x)
        | .report, .end_ =>
          let v1 := s.refFinal e v r
          ((s.stickyOut e v1).dropInv e).commitInv e v1
        | .broken, .discard => ((s.stickyOut e v).dropInv e).layoutShow e r
        | _, _ => s

end Sys2Proof.Machine
end

