-- ==== Sys2Proof/Machine/PickIsa.lean ====
section
/-! DEFINITION. The Pick instruction set (R84 to R119). A command of an engine is the execution of the instruction at its program counter; it is no
event while the engine's next word is another row or needs more cycles than its budget has left. -/

namespace Sys2Proof.Machine

/-! ### Fetch and completion (R66, R85, R117) -/

/-- The word an engine executes next, with its invocation; a reference program runs in stages instead. -/
def State.pickWord (s : State) (e : Nat) : Option (Inv × Word) :=
  match (s.eng e).run, (s.eng e).prog with
  | some v, some p => if v.ref.isSome then none else some (v, p.words.getD v.pc 0)
  | _, _ => none

/-- The invocation and word, when the word is of the row `op`. -/
def State.pickFetch (s : State) (e : Nat) (op : PickOp) : Option (Inv × Word) :=
  match s.pickWord e with
  | some (v, w) => if pickDecode w v.pc v.loop.isSome = some op then some (v, w) else none
  | none => none

/-- Count a completed instruction's cycles and go on to address `pc`; `single` tells R116 whether a BRF may follow for nothing. -/
def Inv.spend (v : Inv) (cyc pc : Nat) (single : Bool) : Inv :=
  { v with
    left := v.left - cyc, pc := pc, single := single
    unseen := (v.unseen.filter (fun x => decide (cyc < x.1))).map (fun x => (x.1 - cyc, x.2)) }

/-- Go on to the next address in order: at the end of an active body, back to its start while iterations are left (R117). -/
def Inv.onward (v : Inv) (cyc : Nat) (single : Bool) : Inv :=
  match v.loop with
  | some l =>
    if v.pc = l.last then
      if 1 < l.left then { v.spend cyc l.first single with loop := some { l with left := l.left - 1 } }
      else { v.spend cyc (v.pc + 1) single with loop := none }
    else v.spend cyc (v.pc + 1) single
  | none => v.spend cyc (v.pc + 1) single

/-- Execute an instruction of row `op` that takes `cyc` cycles: `f` computes the new registers, `out` releases its output (R111). A reference program
takes the row as its stage has it. -/
def State.pickDo (s : State) (e : Nat) (op : PickOp) (cyc : Nat) (f : Inv → Word → Inv) (out : State → Inv → Word → State) : State :=
  match s.pickFetch e op with
  | none => s.refStep e op
  | some (v, w) => if v.left < cyc then s else out (s.setRun e ((f v w).onward cyc (decide (cyc = 1)))) v w

/-- An instruction without an output. -/
def State.pickAlu (s : State) (e : Nat) (op : PickOp) (f : Inv → Word → Inv) : State :=
  s.pickDo e op (op.cycles false) f (fun s _ _ => s)

/-- The words that engine `e` executes within the next 2 cycles do not yet read what `l` names (R111). -/
def State.hide (s : State) (e : Nat) (l : List Unseen) : State :=
  s.updEng e (fun u => { u with run := u.run.map (fun v => { v with unseen := v.unseen ++ l.map (fun x => (2, x)) }) })

/-- An output instruction; `old` names what it changes that its own engine can read (R111). -/
def State.pickOut (s : State) (e : Nat) (op : PickOp) (out : State → Inv → Word → State) (old : State → Word → List Unseen := fun _ _ => []) : State :=
  s.pickDo e op (op.cycles false) (fun v _ => v) (fun t v w => (out t v w).hide e (old (out t v w) w))

/-- What its outputs of the last 2 cycles changed in a contender slot, a domain or a shared value (R111). -/
def Inv.oldSlot (v : Inv) (j : Nat) : Option Word :=
  v.unseen.findSome? (fun x => match x.2 with
    | .slot k o => if k = j then some o else none
    | _ => none)
def Inv.oldDom (v : Inv) (d : Nat) : Option (Word × Word) :=
  v.unseen.findSome? (fun x => match x.2 with
    | .dom k _ i st => if k = d then some (i, st) else none
    | _ => none)
def Inv.moved (v : Inv) (d : Nat) : BitVec 80 :=
  v.unseen.foldl (fun m x => match x.2 with
    | .dom k y _ _ => if k = d then m + y else m
    | _ => m) 0
def Inv.oldShared (v : Inv) (n : Nat) : Option (Word × Bool) :=
  v.unseen.findSome? (fun x => match x.2 with
    | .shared k o st => if k = n then some (o, st) else none
    | _ => none)

/-! ### Registers, flags and arithmetic (R90, R91) -/

/-- A G register, signed. -/
def Inv.gs (v : Inv) (k : Nat) : Int := (v.g.toList.getD k 0).toInt

/-- Write a G register of a pair, flags unchanged. -/
def Inv.pokeG (v : Inv) (k : Nat) (x : Int) : Inv := if h : k < 16 then { v with g := v.g.set k (wordOfInt x) h } else v

/-- Write Gd: N is bit 31 of the value, Z tells 0 (R91). -/
def Inv.setG (v : Inv) (k : Nat) (x : Int) : Inv := { v.pokeG k x with n := bit (wordOfInt x) 31, z := wordOfInt x == 0 }

/-- Set SAT when a value was clamped. -/
def Inv.noteSat (v : Inv) (b : Bool) : Inv := { v with sat := v.sat || b }

/-- Write Gd through sat32. -/
def Inv.setSat (v : Inv) (k : Nat) (x : Int) : Inv := (v.noteSat (clampTo 31 x).2).setG k (clampTo 31 x).1

/-- Write the pair Gd, Gd+1 through sat32; the flags come from Gd (R91). -/
def Inv.setPair (v : Inv) (k : Nat) (x y : Int) : Inv :=
  ((v.noteSat (clampTo 31 y).2).pokeG (k + 1) (clampTo 31 y).1).setSat k x

/-- An immediate, signed Q4.6 (R87). -/
def immOf (w : Word) : Int := (BitVec.ofNat 10 (pwLow w)).toInt

/-! ### Operands (R86 to R89) -/

/-- The word at an address of R88. -/
def State.pickPort (s : State) (e : Nat) (v : Inv) (a : Nat) : Word :=
  let c := e / 2
  if a < 512 then dataWord v.data a
  else match a with
    | 512 => s.trackOf c
    | 513 => s.rdw .PK_ARBOUT c
    | 514 => v.opv0
    | 515 => v.opv1
    | 516 => BitVec.ofNat 32 v.region
    | 517 => s.rdw .PK_ICOUNT e
    | 518 => match s.groupOf c with
      | some g => s.rdw .PW_GRPACT g
      | none => 0
    | 519 => BitVec.ofNat 32 v.left
    | _ => (v.oldSlot (a - 520)).getD (s.rdw .PK_SLOTVAL c (a - 520))

/-- val(b) of R90, and whether converting an immediate saturated (R87); `plus` takes the second of a pair, `q16` the format. -/
def State.operand (s : State) (e : Nat) (v : Inv) (w : Word) (q16 : Bool) (plus : Nat := 0) : Int × Bool :=
  match pwSel w with
  | 0 => (v.gs (pwB w + plus), false)
  | 1 => ((s.coefOf e v (pwB w + plus)).toInt, false)
  | 2 => ((s.pickPort e v (pwLow w + plus)).toInt, false)
  | _ => if q16 then (immOf w * 1024, false) else clampTo 31 (immOf w * 2 ^ 25)

/-- An instruction over Ga and val(b). -/
def State.binOp (s : State) (e : Nat) (v : Inv) (w : Word) (f : Inv → Int → Int → Inv) : Inv :=
  let (b, sat) := s.operand e v w (pwQ16 w)
  f (v.noteSat sat) (v.gs (pwA w)) b

/-! ### Sensing reads (R94, R95) -/

/-- What ACQ reads of a published window (R94). -/
def State.acqValue (s : State) (c j opt : Nat) (r : WinRes) : Word :=
  match opt with
  | 0 => wordOfInt (windowMean r.sum r.count)
  | 1 => wordOfInt (r.sum.fdiv 256)
  | 2 => BitVec.ofNat 32 r.count
  | _ => BitVec.ofNat 32 (min (2 ^ 32 - 1) (s.now - (s.slice c j).shownAt))

/-- R94: ACQ. -/
def execAcq (e : Eng) (s : State) : Out :=
  .next (s.pickAlu e.val .acq (fun v w =>
    match s.entryWindow e.val (pwB w) with
    | some (c, j, r) => v.setG (pwD w) (s.acqValue c j (pwOpt w) r).toInt
    | none => { v.setG (pwD w) 0 with nr := true }))

/-- R95: MMX. -/
def execMmx (e : Eng) (s : State) : Out :=
  .next (s.pickAlu e.val .mmx (fun v w =>
    let r := s.entryRecord e.val (pwB w)
    let (mn, mx) := r.getD (0, 0)
    let v1 := { v with nr := v.nr || r.isNone }
    match pwOpt w with
    | 0 => v1.setG (pwD w) mn
    | 1 => v1.setG (pwD w) mx
    | 2 => v1.setPair (pwD w) mn mx
    | _ => v1.setSat (pwD w) (mx - mn)))

/-! ### Angle (R96, R97) -/

/-- The offset of ANG in au (R87, R96). -/
def State.angOffset (s : State) (e : Nat) (v : Inv) (w : Word) : Word :=
  if pwSel w = 3 then wordOfInt (immOf w * 2 ^ 22) else wordOfInt (s.operand e v w false).1

/-- R96: ANG. -/
def execAng (e : Eng) (s : State) : Out :=
  .next (s.pickAlu e.val .ang (fun v w =>
    let d := pwA w
    let v1 := { v with nr := v.nr || (pwOpt w != 3 && !s.usable d) }
    let x : Word := match pwOpt w with
      | 0 => v.angs.toList.getD d 0 + s.angOffset e.val v w
      | 1 => posAng ((s.dom d).pos - v.moved d) + s.angOffset e.val v w
      | 2 => ((v.oldDom d).map Prod.fst).getD (s.rdw .HF_INC d)
      | _ => ((v.oldDom d).map Prod.snd).getD (BitVec.ofNat 32 (s.domSt d))
    v1.setG (pwD w) x.toInt))

/-- R97: SCS. -/
def execScs (e : Eng) (s : State) : Out :=
  .next (s.pickAlu e.val .scs (fun v w =>
    let a := v.g.toList.getD (pwA w) 0
    v.setPair (pwD w) (scsValue a false) (scsValue a true)))

/-! ### Transforms (R98, R99) -/

/-- R98: CLK. -/
def execClk (e : Eng) (s : State) : Out :=
  .next (s.pickAlu e.val .clk (fun v w =>
    let a := v.gs (pwA w)
    let b := v.gs (pwB w)
    let c := v.gs (pwB w + 1)
    if pwOpt w = 0 then v.setPair (pwD w) a (rshr (a * kR3 + b * k2R3) 31)
    else v.setPair (pwD w) (rshr (a * kTwoThirds - b * kThird - c * kThird) 31) (rshr (b * kR3 - c * kR3) 31)))

/-- NEG: the negative-sequence rotation (R99), as the sign of s. -/
def rotSign (w : Word) : Int := if bit w 9 then -1 else 1

/-- R98: PRK. -/
def execPrk (e : Eng) (s : State) : Out :=
  .next (s.pickAlu e.val .prk (fun v w =>
    let al := v.gs (pwA w)
    let be := v.gs (pwA w + 1)
    let sn := rotSign w * v.gs (pwB w)
    let cs := v.gs (pwB w + 1)
    v.setPair (pwD w) (rshr (al * cs + be * sn) 31) (rshr (be * cs - al * sn) 31)))

/-- R98: IPK. -/
def execIpk (e : Eng) (s : State) : Out :=
  .next (s.pickAlu e.val .ipk (fun v w =>
    let d := v.gs (pwA w)
    let q := v.gs (pwA w + 1)
    let sn := rotSign w * v.gs (pwB w)
    let cs := v.gs (pwB w + 1)
    let al := d * cs - q * sn
    let be := d * sn + q * cs
    match pwOpt w with
    | 0 => v.setPair (pwD w) (rshr al 31) (rshr be 31)
    | 1 => v.setSat (pwD w) (rshr al 31)
    | 2 => v.setSat (pwD w) (rshr (be * kR32 - al * kHalf) 62)
    | _ => v.setSat (pwD w) (rshr (-(be * kR32) - al * kHalf) 62)))

/-! ### Arithmetic (R100 to R105) -/

/-- The product of R90: an immediate multiplies exactly. -/
def State.pickProduct (s : State) (e : Nat) (v : Inv) (w : Word) : Int :=
  if pwSel w = 3 then rshr (v.gs (pwA w) * immOf w) 6
  else rshr (v.gs (pwA w) * (s.operand e v w (pwQ16 w)).1) (pwF w)

/-- MAC and MSU (R100): `sign` is 1 or -1. -/
def State.macOp (s : State) (e : Nat) (sign : Int) (v : Inv) (w : Word) : Inv :=
  let opt := pwOpt w
  let acc : Int := match opt with
    | 0 => 0
    | 1 => v.gs (pwD w)
    | 2 => v.a0
    | _ => v.a1
  let (res, sat) := clampTo 47 (acc + sign * s.pickProduct e v w)
  let v1 := { v.noteSat sat with a0 := if opt = 2 then res else v.a0, a1 := if opt = 3 then res else v.a1 }
  v1.setSat (pwD w) res

/-- R100: MAC. -/
def execMac (e : Eng) (s : State) : Out := .next (s.pickAlu e.val .mac (s.macOp e.val 1))

/-- R100: MSU. -/
def execMsu (e : Eng) (s : State) : Out := .next (s.pickAlu e.val .msu (s.macOp e.val (-1)))

/-- R101: SAT, move. -/
def execSatMove (e : Eng) (s : State) : Out :=
  .next (s.pickAlu e.val .satMove (fun v w => s.binOp e.val v w (fun v _ b => v.setG (pwD w) b)))

/-- R101: SAT, accumulator read. -/
def execSatAccumulatorRead (e : Eng) (s : State) : Out :=
  .next (s.pickAlu e.val .satRead (fun v w =>
    if pwOpt w = 1 then { v.setSat (pwD w) v.a0 with a0 := 0 } else { v.setSat (pwD w) v.a1 with a1 := 0 }))

/-- R101: SAT, store; N and Z unchanged. -/
def execSatStore (e : Eng) (s : State) : Out :=
  .next (s.pickAlu e.val .satStore (fun v w => { v with data := setData v.data (pwLow w) (v.g.toList.getD (pwA w) 0) }))

/-- R102: LIM. -/
def execLim (e : Eng) (s : State) : Out :=
  .next (s.pickAlu e.val .lim (fun v w => s.binOp e.val v w (fun v a b =>
    v.setG (pwD w) (limValue (pwOpt w) a b (s.operand e.val v w (pwQ16 w) 1).1))))

/-- R103: ABS. -/
def execAbs (e : Eng) (s : State) : Out :=
  .next (s.pickAlu e.val .abs (fun v w => s.binOp e.val v w (fun v _ b => v.setSat (pwD w) b.natAbs)))

/-- R103: ABS, negate. -/
def execNegate (e : Eng) (s : State) : Out :=
  .next (s.pickAlu e.val .neg (fun v w => s.binOp e.val v w (fun v _ b => v.setSat (pwD w) (-b))))

/-- R104: DIV. -/
def execDiv (e : Eng) (s : State) : Out :=
  .next (s.pickAlu e.val .div (fun v w => s.binOp e.val v w (fun v a b =>
    if b = 0 then { v.setG (pwD w) (if a = 0 then 0 else if 0 < a then 2147483647 else -2147483648) with dz := true }
    else v.setSat (pwD w) ((a * 2 ^ pwF w).tdiv b))))

/-- R105: SQT, square root. -/
def execSqt (e : Eng) (s : State) : Out :=
  .next (s.pickAlu e.val .sqt (fun v w => s.binOp e.val v w (fun v _ b =>
    if b < 0 then (v.noteSat true).setG (pwD w) 0 else v.setSat (pwD w) (isqrt (b.toNat * 2 ^ pwF w)))))

/-- R105: SQT, magnitude. -/
def execSqtMagnitude (e : Eng) (s : State) : Out :=
  .next (s.pickAlu e.val .mag (fun v w => s.binOp e.val v w (fun v a b =>
    v.setSat (pwD w) (isqrt (a.natAbs * a.natAbs + b.natAbs * b.natAbs)))))

/-! ### Control (R106, R107) -/

/-- R106: PIS. -/
def State.pisOp (s : State) (e : Nat) (v : Inv) (w : Word) : Inv :=
  let c (k : Nat) : Int := (s.coefOf e v (pwB w + k)).toInt
  let x := v.gs (pwA w)
  let i := (dataWord v.data (pwLow w)).toInt
  let r := piStep (pwF w) (c 0) (c 1) (if pwOpt w = 1 then (s.trackOf (e / 2)).toInt else c 2) (c 3) i x
  { (v.noteSat r.sat).setG (pwD w) r.out with data := setData v.data (pwLow w) (wordOfInt r.int) }

/-- R106: PIS. -/
def execPis (e : Eng) (s : State) : Out := .next (s.pickAlu e.val .pis (s.pisOp e.val))

/-- R107: RSC. -/
def execRsc (e : Eng) (s : State) : Out :=
  .next (s.pickAlu e.val .rsc (fun v w =>
    let x := wordOfInt (s.operand e.val v w true).1
    if pwD w = 0 then { v with opv0 := x } else { v with opv1 := x }))

/-! ### Output (R108 to R111) -/

/-- R108: OUT to a contender slot. -/
def execOutSlot (e : Eng) (s : State) : Out :=
  .next (s.pickOut e.val .outSlot (fun s v w =>
    s.slotOut (e.val / 2) (pwD w) (v.g.toList.getD (pwA w) 0))
    (fun _ w => [.slot (pwD w) (s.rdw .PK_SLOTVAL (e.val / 2) (pwD w))]))

/-- What an OUT to a domain changes that ANG reads. -/
def State.domUnseen (s t : State) (d : Nat) : List Unseen :=
  [.dom d ((t.dom d).pos - (s.dom d).pos) (s.rdw .HF_INC d) (BitVec.ofNat 32 (s.domSt d))]

/-- R108: OUT to a domain's increment. -/
def execOutDomainInc (e : Eng) (s : State) : Out :=
  .next (s.pickOut e.val .outInc (fun s v w => s.outDomain (e.val / 2) (pwD w) (v.g.toList.getD (pwA w) 0) 0)
    (fun t w => s.domUnseen t (pwD w)))

/-- R108: OUT to a domain's increment, with a step. -/
def execOutDomainStep (e : Eng) (s : State) : Out :=
  .next (s.pickOut e.val .outStep (fun s v w => s.outDomain (e.val / 2) (pwD w) (v.g.toList.getD (pwA w) 0) (v.gs (pwB w)))
    (fun t w => s.domUnseen t (pwD w)))

/-- R109: DUTY; under an arbiter duty destination it is refused (R74). -/
def execDuty (e : Eng) (s : State) : Out :=
  .next (s.pickOut e.val .duty (fun s v w =>
    s.dutyOut (e.val / 2) (pwOpt w) (v.g.toList.getD (pwA w) 0)))

/-- R110: EVT, the cell's Pick program event source. -/
def execEvtEvent (e : Eng) (s : State) : Out :=
  .next (s.pickOut e.val .evtEvent (fun s _ _ => s.raise (64 + e.val / 2)))

/-- R110: EVT, a Seam trigger. -/
def execEvtSeamTrigger (e : Eng) (s : State) : Out :=
  .next (s.pickOut e.val .evtTrigger (fun s _ w => s.fire (bits w 0 4)))

/-- R110: EVT, a marker record. -/
def execEvtMarker (e : Eng) (s : State) : Out :=
  .next (s.pickOut e.val .evtMarker (fun s v w =>
    s.markerOut e.val (v.g.toList.getD (pwA w) 0)))

/-! ### Exchange (R112 to R114) -/

/-- Cycles of an XCH (R113). -/
def xchCycles (waits : Nat) (fresh : Bool) : Nat := 6 + 2 * waits + 2 * fresh.toNat

/-- Whether an engine waits at its exchange port (R113). -/
def State.xchAsks (s : State) (e : Nat) : Bool := !s.on PK_PSTAT_RESYNC e && (s.pickFetch e .xch).isSome

/-- The engine that the port of cell `c` serves next (R113): in rotating order over its 16 cells, the two engines of a split pair alternately. -/
def State.xchNext (s : State) (c : Nat) : Option Nat :=
  let u := s.port (2 * c)
  let cells := (List.range 16).map (fun k => c / 16 * 16 + (u.last + 1 + k) % 16)
  (cells.find? (fun k => s.xchAsks (2 * k) || s.xchAsks (2 * k + 1))).map (fun k =>
    if s.xchAsks (2 * k) && (!s.xchAsks (2 * k + 1) || !u.twins.contains k) then 2 * k else 2 * k + 1)

/-- The port grants the request of engine `e`. -/
def State.xchGranted (s : State) (e : Nat) : State :=
  let c := e / 2
  let s1 := s.updPort e (fun u =>
    { grants := u.grants + 1, last := c % 16, twins := if e % 2 = 0 then c :: u.twins.filter (· != c) else u.twins.filter (· != c) })
  s1.updEng e (fun u => { u with run := u.run.map (fun v => { v with asked := (s1.port e).grants }) })

/-- The requests that its port granted ahead of an engine's XCH (R113). -/
def State.xchWaits (s : State) (e : Nat) : Nat := (s.port e).grants - (((s.eng e).run.map (fun v => v.asked)).getD 0)

/-- R112, R113: XCH, granted after `waits` other requests of its port; `fresh` when the item is refreshed in the cycle of the grant. Out of its turn, or after
another number of grants, there is no such event. -/
def execXch (e : Eng) (waits : Fin 17) (fresh : Bool) (s : State) : Out :=
  .next (if s.xchNext (e.val / 2) = some e.val ∧ s.xchWaits e.val = waits.val then
    s.pickDo e.val .xch (xchCycles waits.val fresh) (fun v w =>
      let (x, nr) := s.xchRead (bits w 0 6) (pwSel w) (bits w 6 6)
      { v.setG (pwD w) x.toInt with nr := v.nr || nr }) (fun s _ _ => s.xchGranted e.val)
  else s)

/-- R114: UHX, read. -/
def execUhxRead (e : Eng) (s : State) : Out :=
  .next (s.pickAlu e.val .uhxRead (fun v w =>
    let (x, stale) := (v.oldShared (bits w 0 8)).getD (s.sharedRead (bits w 0 8))
    { v.setG (pwD w) x.toInt with nr := v.nr || stale }))

/-- R114: UHX, publish. -/
def execUhxWrite (e : Eng) (s : State) : Out :=
  .next (s.pickOut e.val .uhxWrite (fun s v w => s.uhxPublish (e.val / 2) (bits w 0 8) (v.g.toList.getD (pwA w) 0))
    (fun _ w => [.shared (bits w 0 8) (s.sharedRead (bits w 0 8)).1 (s.sharedRead (bits w 0 8)).2]))

/-! ### Flow (R115 to R118) -/

/-- The condition of a BRF (R115). -/
def Inv.takes (v : Inv) (cond : Nat) : Bool :=
  match cond with
  | 0 => true
  | 1 => v.z
  | 2 => !v.z
  | 3 => v.n
  | 4 => !v.n
  | 5 => !v.n && !v.z
  | 6 => v.n || v.z
  | 7 => v.sat
  | 8 => v.dz
  | 9 => v.nr
  | _ => v.merged

/-- A BRF's effect (R115 to R117): a branch beyond the body's last word leaves the loop. -/
def Inv.branch (v : Inv) (w : Word) : Inv :=
  let cyc := PickOp.brf.cycles v.single
  if v.takes (bits w 10 4) then
    let t := v.pc + 1 + pwLow w
    { v.spend cyc t false with loop := v.loop.filter (fun l => decide (t ≤ l.last)) }
  else v.onward cyc false

/-- R115: BRF. -/
def execBrf (e : Eng) (s : State) : Out :=
  .next (match s.pickFetch e.val .brf with
    | none => s
    | some (v, w) => if v.left < PickOp.brf.cycles v.single then s else s.setRun e.val (v.branch w))

/-- R117: LOOP. -/
def execLoop (e : Eng) (s : State) : Out :=
  .next (match s.pickFetch e.val .loop with
    | none => s
    | some (v, w) =>
      if v.left < 1 then s
      else s.setRun e.val { v.spend 1 (v.pc + 1) false with loop := some ⟨v.pc + 1, v.pc + 1 + bits w 6 8, bits w 0 6 + 1⟩ })

/-- END in either form (R118). -/
def State.endInv (s : State) (e : Nat) (op : PickOp) (commit : Bool) : State :=
  match s.pickFetch e op with
  | none => s.refStep e op
  | some (v, _) =>
    if v.left < 1 then s
    else
      let s1 := (s.stickyOut e v).dropInv e
      if commit then s1.commitInv e v else s1

/-- R118: END. -/
def execEndRun (e : Eng) (s : State) : Out := .next (s.endInv e.val .end_ true)

/-- R118: END DISCARD. -/
def execEndDiscard (e : Eng) (s : State) : Out := .next (s.endInv e.val .discard false)

/-! ### Endings without END (R66, R92) -/

/-- R92: an illegal word takes one cycle and ends the invocation as a budget exhaustion. -/
def execIllegalWord (e : Eng) (s : State) : Out :=
  .next (match s.pickWord e.val with
    | some (v, w) => if 1 ≤ v.left ∧ pickDecode w v.pc v.loop.isSome = none then s.exhaust e.val else s
    | none => s)

/-- Whether the next instruction needs a cycle beyond the count (R66); an XCH under the given contention. -/
def State.outOfBudget (s : State) (e waits : Nat) (fresh : Bool) : Bool :=
  match s.pickWord e with
  | some (v, w) => match pickDecode w v.pc v.loop.isSome with
    | none => v.left == 0
    | some .xch => decide (s.xchWaits e = waits) && decide (v.left < xchCycles waits fresh)
    | some op => decide (v.left < op.cycles v.single)
  | none => false

/-- R66: the budget count reaches 0 before the instruction completes; of an XCH, with its contention. -/
def execBudgetExh (e : Eng) (waits : Fin 17) (fresh : Bool) (s : State) : Out :=
  .next (if s.outOfBudget e.val waits.val fresh then s.exhaust e.val else s)

end Sys2Proof.Machine
end

