-- ==== Sys2Proof/Machine/HostLinks.lean ====
section
/-! DEFINITION. The host links: Ethernet and the PTP clock (R470 to R474), CAN FD, UART, SPI and I2C (R475), GPIO (R476), and the SRAM scrubber
(R439). -/

namespace Sys2Proof.Machine

/-- Change the host links. -/
def State.updHost (s : State) (f : HostU → HostU) : State := { s with host := f s.host }

/-! ### Fields of a frame -/

/-- Two bytes, most significant first. -/
def be16 (l : List Byte) (k : Nat) : Nat := (l.getD k 0).toNat * 256 + (l.getD (k + 1) 0).toNat

/-- The number that `n` bytes spell, most significant first. -/
def beNat (l : List Byte) (k n : Nat) : Nat := ((l.drop k).take n).foldl (fun a b => 256 * a + b.toNat) 0

/-- Replace two bytes, most significant first. -/
def putBe16 (l : List Byte) (k v : Nat) : List Byte := (l.set k (BitVec.ofNat 8 (v / 256))).set (k + 1) (BitVec.ofNat 8 v)

/-- Where a frame's EtherType stands, after at most one IEEE 802.1Q tag. -/
def etherAt (l : List Byte) : Nat := if be16 l 12 = 0x8100 then 16 else 12

/-- Where the UDP header of a UDP/IPv4 or UDP/IPv6 frame stands. -/
def udpAt (l : List Byte) : Option Nat :=
  let e := etherAt l
  let ip := e + 2
  if be16 l e = 0x0800 ∧ (l.getD ip 0).toNat / 16 = 4 ∧ l.getD (ip + 9) 0 = 17 then some (ip + (l.getD ip 0).toNat % 16 * 4)
  else if be16 l e = 0x86DD ∧ l.getD (ip + 6) 0 = 17 then some (ip + 40)
  else none

/-- Where a frame's PTP message stands: EtherType 0x88F7, or UDP to port 319 or 320 (R471). -/
def ptpAt (l : List Byte) : Option Nat :=
  if be16 l (etherAt l) = 0x88F7 then some (etherAt l + 2)
  else match udpAt l with
    | some u => if be16 l (u + 2) = 319 ∨ be16 l (u + 2) = 320 then some (u + 8) else none
    | none => none

/-- The one's complement sum of 16-bit words. -/
def onesSum : List Byte → Nat
  | [] => 0
  | [a] => a.toNat * 256
  | a :: b :: l => a.toNat * 256 + b.toNat + onesSum l

/-- The 16-bit one's complement of such a sum. -/
def inetSum (l : List Byte) : Nat :=
  let f (x : Nat) : Nat := x % 65536 + x / 65536
  65535 - f (f (onesSum l))

/-- The MAC fills in total length and checksum of an IPv4 header, and length and checksum of its UDP header (R472). -/
def macFill (header frame : List Byte) : List Byte :=
  let ip := etherAt header + 2
  match udpAt header with
  | none => frame
  | some u =>
    if be16 header (etherAt header) ≠ 0x0800 ∨ header.length < u + 8 then frame
    else
      let n := frame.length
      let f1 := putBe16 (putBe16 frame (ip + 2) (n - ip)) (ip + 10) 0
      let f2 := putBe16 f1 (ip + 10) (inetSum ((f1.drop ip).take (u - ip)))
      let f3 := putBe16 (putBe16 f2 (u + 4) (n - u)) (u + 6) 0
      let len := [BitVec.ofNat 8 ((n - u) / 256), BitVec.ofNat 8 (n - u)]
      let c := inetSum ((f3.drop (ip + 12)).take 8 ++ [0#8, 17#8] ++ len ++ f3.drop u)
      putBe16 f3 (u + 6) (if c = 0 then 65535 else c)

/-! ### The PTP clock and trust (R473, R474) -/

/-- Two seconds in ticks. -/
def twoSeconds : Nat := 2000 * ms

/-- Whether something came within the last 2 s. -/
def State.recent (s : State) (t : Option Nat) : Bool :=
  match t with
  | some t => decide (s.now < t + twoSeconds)
  | none => false

/-- The conditions of trust (R474). -/
def State.trustHolds (s : State) : Bool := s.on ET_PTPTRUST_EN && s.recent s.host.syncAt && s.recent s.host.lockAt

/-- The PTP time lies within u of the Lamp clock, while that is set (R474); both in 2^-15 ns. -/
def State.lampAgrees (s : State) : Bool :=
  s.lamp.rtcSet.isNone ||
    decide (((s.ptpNs * 32768 : Nat) - (s.rtcNow * 1000000000 : Nat) : Int).natAbs ≤ s.timeTol)

/-- Trust begins, ends or is denied (R474); each change raises source 736. From its begin on the Lamp clock is set once a second (R367). -/
def State.trustEval (s : State) : State :=
  if s.trusted then (if s.trustHolds then s else ((s.put ET_PTPTRUST_TRUSTED 0).raise 736).disarm .lampSet)
  else if s.trustHolds ∧ !s.host.barred then
    if s.lampAgrees then ((s.put ET_PTPTRUST_TRUSTED 1).raise 736).arm .lampSet (1000 * ms)
    else (s.put ET_PTPTRUST_TRUST_DENIED 1).updHost (fun u => { u with barred := true })
  else s

/-- A write to PTPTRUST (R474): EN written 1 lifts a denial; LOCK renews. -/
def State.trustWrite (s : State) (v : Word) : State :=
  let s1 := s.regWrite .ET_PTPTRUST v
  let s2 := if ET_PTPTRUST_EN.of v = 1 then s1.updHost (fun u => { u with barred := false }) else s1
  let s3 := if ET_PTPTRUST_LOCK.of v = 1 then s2.updHost (fun u => { u with lockAt := some s.now }) else s2
  s3.trustEval

/-- R474: 2 s have passed since the last qualifying Sync, or since the last LOCK write. -/
def execPtpTrustLost (s : State) : Out :=
  .next (if s.trusted then
    match s.host.syncAt, s.host.lockAt with
    | some a, some b => (s.advanceTo (min a b + twoSeconds)).trustEval
    | _, _ => s.trustEval
  else s)

/-- Time passes TARGET (R473): source 737, and with PPSEN the pulse of 1 ms on GPIO63. -/
def State.targetPassed (s : State) : State :=
  (if s.on ET_PTPTRUST_PPSEN then s.updHost (fun u => { u with pps := some (s.now + ms) }) else s).raise 737

/-- The way to TARGET, in 2^-32 ns: above 0, modulo the 2^32 seconds that TARGETHI holds. -/
def State.toTarget (s : State) : Nat :=
  let t : Int := ((s.get ET_TARGET_TIME 1 * 1000000000 + s.get ET_TARGET_TIME 0) * 2 ^ 32 : Nat)
  ((t - s.ptpNow - 1) % (2 ^ 64 * 1000000000)).toNat + 1

/-- Set the clock. -/
def State.ptpPut (s : State) (x : Nat) : State := s.updHost (fun u => { u with ptp := x, ptpAt := s.now })

/-- R473: the signed ns of STEP are added in one tick; a step across TARGET passes it. -/
def State.ptpStep (s : State) (v : Word) : State :=
  let far := s.toTarget
  let s1 := s.ptpPut (ptpWrap (s.ptpNow + sgn v * 2 ^ 32))
  if (far : Int) ≤ sgn v * 2 ^ 32 then s1.targetPassed else s1

/-- A write to PTPADJ: the time so far is kept. -/
def State.adjWrite (s : State) (v : Word) : State := (s.ptpPut s.ptpNow).regWrite .ET_PTPADJ v

/-- R473: PTP time passes TARGET, at the first tick at or after it. -/
def execPtpTarget (s : State) : Out :=
  .next (if s.released uEth ∧ 0 < s.ptpRate then
    (s.advance ((s.toTarget + s.ptpRate.toNat - 1) / s.ptpRate.toNat)).targetPassed
  else s)

/-- R367: once a second while PTP time is trusted, the Banksman sets the Lamp clock. -/
def execLampClockSet (s : State) : Out :=
  .next (s.every .lampSet (1000 * ms) (fun s =>
    if s.trusted && s.lamp.powered then s.rtcPut (s.ptpNs * 32768 / 1000000000) else s))

/-! ### Receiving (R470, R471) -/

/-- The interrupt source of event `k` of port `p` (R480). -/
def ethSource (p k : Nat) : Nat := 704 + 16 * p + k

/-- The enabled GOOSE entry of the lowest number that names an APPID. -/
def State.gooseEntry (s : State) (p appid : Nat) : Option Nat :=
  (List.range 32).find? (fun n => s.on ET_GFLT_EN p n && s.get ET_GFLT_APPID p n == appid)

/-- Where a frame goes (R471): a queue, or nowhere; with `true` it is a GOOSE frame dropped. -/
def State.rxRoute (s : State) (p : Nat) (f : List Byte) (listed : Bool) : Option Nat × Bool :=
  let e := etherAt f
  if be16 f e = 0x88B8 then
    match s.gooseEntry p (be16 f (e + 2)) with
    | some n => (some (s.get ET_GFLT_QUEUE p n), false)
    | none => if s.on ET_ETHCTL_GNOMATCH p then (some (s.get ET_ETHCTL_GDEFQ p), false) else (none, true)
  else if (ptpAt f).isSome then (some (s.get ET_ETHCTL_PTPQ p), false)
  else if listed || (f.take 6).all (· == 0xFF#8) then (some 0, false)
  else (none, false)

/-- The timestamp at the MAC interface now, in 0.1 ns: the PTP time of the tick, on SGMII with the fifth of it (R473). -/
def State.macStamp (s : State) (p fifth : Nat) : Int :=
  (s.ptpNow * 10 / 2 ^ 32 + (if s.get ET_ETHCTL_MODE p = 1 then 8 * fifth else 0) : Nat)

/-- The clock identity of a GMID register. -/
def State.gmid (s : State) (n : Nat) : Nat := s.get ET_GMID_ID n 1 * 2 ^ 32 + s.get ET_GMID_ID n 0

/-- Whether a frame is a Sync of a grandmaster that GMID0 or GMID1 names (R474). -/
def State.goodSync (s : State) (f : List Byte) : Bool :=
  match ptpAt f with
  | some k =>
    let id := beNat f (k + 20) 8
    (f.getD k 1).toNat % 16 == 0 && decide (k + 28 ≤ f.length) && (id == s.gmid 0 || id == s.gmid 1)
  | none => false

/-- Put a frame into receive queue `k` of port `p`, `taken` frames of it having been taken out. -/
def HostU.rxPut (u : HostU) (p k taken : Nat) (f : RxFrame) : HostU :=
  { u with rxq := upd u.rxq ⟨(4 * p + k) % 8, Nat.mod_lt _ (by decide)⟩ (fun l => l.drop taken ++ [f]) }

/-- A frame that is neither too long nor broken arrives (R471, R473, R474). -/
def State.rxFrame (s : State) (p : Fin 2) (f : List Byte) (listed : Bool) (fifth : Nat) (taken : Vector Nat 4) : State :=
  let r := s.rxRoute p.val f listed
  let s1 := match r.1 with
    | some k => (s.updHost (·.rxPut p.val k (taken.toList.getD k 0) ⟨f, s.macStamp p.val fifth - s.get ET_RXLAT_LAT p.val⟩)).raise (ethSource p.val k)
    | none => if r.2 then (s.bumpSat ET_ETHSTAT_GDROP p.val).raise (ethSource p.val 12) else s
  if s.goodSync f then (s1.updHost (fun u => { u with syncAt := some s.now })).trustEval else s1

/-- A port's MAC runs: the unit is out of reset and has the port's clock (R385, R407). -/
def State.ethRuns (s : State) (p : Nat) : Bool :=
  s.released uEth && (s.get ET_ETHCTL_MODE p != 1 || s.on WI_SSTAT_LOCKED synSerdes)

/-- R471: a frame arrives at port `p`. `listed`: it is addressed to the port's unicast address or one of its multicast entries; `fifth`: the fifth of
the tick; `taken`: the frames taken out of each queue since the last arrival. -/
def execEthFrameReceive (p : Fin 2) (f : List Byte) (fcsOk listed : Bool) (fifth : Fin 5) (taken : Vector Nat 4) (s : State) : Out :=
  .next (if !s.ethRuns p.val then s
  else if !fcsOk || decide (1522 < f.length + 4) then
    (s.updHost (fun u => { u with rxErrors := upd u.rxErrors p (· + 1) })).raise (ethSource p.val 15)
  else s.rxFrame p f listed fifth.val taken)

/-! ### Transmitting (R472) -/

/-- Firmware hands a transmit queue its crew, its template and perhaps a frame. -/
def State.txPost (s : State) (p : Nat) (x : TxPost) : State :=
  let q := (8 * p + x.queue.val) % 16
  let s1 := { s with host := { s.host with
    txq := upd s.host.txq ⟨q, Nat.mod_lt _ (by decide)⟩ (fun u => { u with crew := x.crew.val, header := x.header.take 64 }) } }
  match x.frame with
  | some f => s1.queueFrame q ⟨f, x.stamped, x.oneStep, false⟩
  | none => s1

/-- A transmit queue. -/
def State.txQueue (s : State) (q : Nat) : TxQueue := s.host.txq.toList.getD q ⟨0, [], []⟩

/-- A crew's pair releases its outputs (R27, R285, R287). -/
def State.crewOutput (s : State) (c : Nat) : Bool :=
  let n := (s.crew c).pair
  if h : n < 16 then s.busOpen (.pair ⟨n, h⟩) else true

/-- Whether queue `q` of port `p` may send: it holds a frame, its crew holds budget for the port (R50, R472), and the frame is a drain's block or that of
a pair whose outputs are released (R27). -/
def State.txReady (s : State) (p q : Nat) : Bool :=
  let u := s.txQueue (8 * p + q)
  s.hasBudget u.crew .eth && (s.crew u.crew).ethPort == p &&
    match u.frames with
    | f :: _ => f.drain || s.crewOutput u.crew
    | [] => false

/-- The queue of port `p` that sends next: essential crews' queues ahead of all others (R52), of them the highest (R472); of the others the highest
queue of the crew whose turn it is, round robin (R52). -/
def State.txPick (s : State) (p : Nat) : Option Nat :=
  let ready := (List.range 8).filter (s.txReady p)
  let crewAt (q : Nat) : Nat := (s.txQueue (8 * p + q)).crew
  match (ready.filter (fun q => (s.crew (crewAt q)).essential)).getLast? with
  | some q => some q
  | none =>
    match nextCrew (s.plan.ethLast.toList.getD p 0) (ready.map crewAt) with
    | some c => (ready.filter (fun q => crewAt q == c)).getLast?
    | none => none

/-- Frame `f` of queue `u` as the MAC sends it (R472, R473). -/
def txBytes (u : TxQueue) (f : TxFrame) (stamp : Int) : List Byte :=
  if f.drain then macFill u.header (u.header ++ f.data)
  else if f.oneStep then
    match ptpAt f.data with
    | some k => f.data.take (k + 8) ++ (leBytes 8 (Config.oneStepCorrection f.data stamp)).reverse ++ f.data.drop (k + 16)
    | none => f.data
  else f.data

/-- Queue `q` of port `p` sends frame `f`, its first. A drain's block has been charged to the drain's crew (R450). -/
def State.txSend (s : State) (p : Fin 2) (q : Nat) (u : TxQueue) (f : TxFrame) : State :=
  let stamp := s.macStamp p.val 0 + s.get ET_TXLAT_LAT p.val
  let b := txBytes u f stamp
  let k := (8 * p.val + q) % 16
  let s1 := s.updHost (fun h => { h with
    txq := upd h.txq ⟨k, Nat.mod_lt _ (by decide)⟩ (fun u => { u with frames := u.frames.drop 1 })
    sent := upd h.sent p (fun _ => b)
    txStamp := if f.stamped then upd h.txStamp p (fun _ => stamp) else h.txStamp })
  let s2 := if f.drain then s1 else s1.charge u.crew .eth ((b.length + 63) / 64)
  let s3 := if (s.crew u.crew).essential then s2 else s2.updPlan (fun v => { v with ethLast := upd v.ethLast p (fun _ => u.crew) })
  (s3.raise (ethSource p.val (4 + q))).raiseIf f.stamped (ethSource p.val 14)

/-- R472: firmware has handed over `posts`, but for crews whose pair is isolated (R285); of the queues of port `p` whose crews hold budget one sends its next
frame. -/
def execEthFrameTransmit (p : Fin 2) (posts : List TxPost) (s : State) : Out :=
  let s1 := s.each (posts.filter (fun x => s.crewOutput x.crew.val)) (fun s x => s.txPost p.val x)
  .next (if s.ethRuns p.val then
    match s1.txPick p.val with
    | some q =>
      match (s1.txQueue (8 * p.val + q)).frames with
      | f :: _ => s1.txSend p q (s1.txQueue (8 * p.val + q)) f
      | [] => s1
    | none => s1
  else s1)

/-- R480: the PHY link of port `p` goes up or down. -/
def execEthLinkChange (p : Fin 2) (up : Bool) (s : State) : Out :=
  .next (if s.ethRuns p.val && (s.on ET_ETHSTAT_LINK p.val != up) then
    (s.put ET_ETHSTAT_LINK up.toNat p.val).raise (ethSource p.val 13)
  else s)

/-- A write to ETHCTL (R470, R478): MODE only while ETH is in reset, and no MODE above 1. In SGMII mode the port's RGMII outputs are low (R493). -/
def State.ethctlWrite (s : State) (p : Nat) (v : Word) : State :=
  let s1 := s.condWrite .ET_ETHCTL v ET_ETHCTL_MODE.mask (!s.released uEth && decide (ET_ETHCTL_MODE.of v ≤ 1)) id p
  { s1 with host := { s1.host with rgmiiLow := Vector.ofFn (fun q : Fin 2 => s1.get ET_ETHCTL_MODE q.val == 1) } }

/-! ### CAN FD, UART, SPI and I2C (R475) -/

/-- Whether a CAN frame is one of ISO 11898-1:2015. -/
def canLegal (f : CanMsg) : Bool :=
  (f.ext || decide (f.id.toNat < 2048)) &&
    (decide (f.data.length ≤ 8) || (f.fd && [12, 16, 20, 24, 32, 48, 64].contains f.data.length))

/-- R475: CAN `n` receives a frame into buffer `buf`, if its acceptance filters accept it. -/
def execCanFrameReceive (n : Fin 4) (buf : Fin 64) (f : CanMsg) (accepted : Bool) (s : State) : Out :=
  .next (if s.released uHostx && accepted && canLegal f then
    (s.updHost (fun u => { u with canRx := upd u.canRx n (sparseInsert buf.val f) })).raise (768 + 4 * n.val)
  else s)

/-- Whether what a pair originates on a serial link goes out: not while its outputs are held or suppressed (R27, R285, R287). -/
def State.sends (s : State) (p : Option (Fin 16)) : Bool := p.all (fun n => s.busOpen (.pair n))

/-- R475: CAN `n` has sent the frame of buffer `buf`. -/
def execCanFrameTransmit (n : Fin 4) (buf : Fin 64) (f : CanSend) (s : State) : Out :=
  .next (if s.released uHostx && canLegal f.msg && s.sends f.sender then
    (s.updHost (fun u => { u with canTx := upd u.canTx n (sparseInsert buf.val f.msg) })).raise (769 + 4 * n.val)
  else s)

/-- R480: CAN `n` changes its error state: 0 error active, 1 error passive, 2 bus off. -/
def execCanErrorStateChange (n : Fin 4) (st : Fin 3) (s : State) : Out :=
  .next (if s.released uHostx && s.host.canErr[n] != st.val then
    (s.updHost (fun u => { u with canErr := upd u.canErr n (fun _ => st.val) })).raise ((if st.val = 2 then 771 else 770) + 4 * n.val)
  else s)

/-- Change a UART. -/
def State.updUart (s : State) (n : Fin 6) (f : UartU → UartU) : State := s.updHost (fun u => { u with uarts := upd u.uarts n f })

/-- The length of an envelope whose first 56 bytes are here (R358), at most what a buffer holds. -/
def uartNeeds (l : List Byte) : Nat :=
  if l.length < 56 then 56
  else
    let flags := (l.getD 5 0).toNat
    min 4608 (56 + 192 * (flags / 2 % 2) + leNat ((l.drop 52).take 2) + 96 * (1 + flags / 4 % 2))

/-- The Banksman takes a character on UART0 (R348): a whole envelope is submitted in buffer 0. -/
def State.bankUart (s : State) (c : Byte) : State :=
  let l := s.bank.uartIn ++ [c]
  let s1 := { s with bank := { s.bank with uartIn := if uartNeeds l ≤ l.length then [] else l } }
  if uartNeeds l ≤ l.length ∧ !s.on EX_MBSTAT_BUSY 0 then
    (((s1.mbPut 0 l).put EX_MBLEN_INLEN l.length 0).put EX_MBCTL_KIND 0 0).submit 0
  else s1

/-- A character enters the FIFO of UART `n`; at a full FIFO which character is lost is open, and the error source is raised. -/
def State.uartPut (s : State) (n : Fin 6) (c : Byte) (modbus : Bool) (taken : Nat) : State :=
  let l := s.host.uarts[n].rx.drop taken
  let s1 := s.updUart n (fun u => { u with frame := if modbus then u.frame ++ [c] else [] })
  if l.length < 64 then (s1.updUart n (fun u => { u with rx := l ++ [c] })).raise (784 + 2 * n.val)
  else
    let (w, s2) := s1.free
    (s2.updUart n (fun u => { u with rx := if bit w 0 then l.drop 1 ++ [c] else l })).raise (785 + 2 * n.val)

/-- R475: UART `n` receives a character; `taken` characters have been read out of its FIFO since the last one. -/
def execUartReceive (n : Fin 6) (c : Byte) (modbus : Bool) (taken : Nat) (s : State) : Out :=
  .next (if n = 0 ∧ s.bank.uart then s.bankUart c else if s.released uHostx then s.uartPut n c modbus taken else s)

/-- R475: UART `n` has sent the bytes of `l`, in Modbus RTU mode with its CRC-16 appended, or has met an error. -/
def execUartTransmitDone (n : Fin 6) (l : UartSend) (modbus err : Bool) (s : State) : Out :=
  .next (if s.released uHostx && s.sends l.sender then
    (s.updUart n (fun u => if err then u else { u with sent := if modbus then l.data ++ leBytes 2 (crc16 l.data).toNat else l.data })).raise (785 + 2 * n.val)
  else s)

/-- R475: 3.5 characters of silence end a Modbus RTU frame on UART `n`; `gap`: it held a gap of 1.5 characters. -/
def execModbusFrameEnd (n : Fin 6) (gap : Bool) (s : State) : Out :=
  .next (if s.released uHostx && !s.host.uarts[n].frame.isEmpty then
    (s.updUart n (fun u => { u with frame := [], gap := gap, crcOk := decide (2 < u.frame.length) && crc16 u.frame == 0#16 })).raise (784 + 2 * n.val)
  else s)

/-- R475: SPI `n` completes a frame of `len` bits, 4 to 32. -/
def execSpiTransfer (n : Fin 4) (len : Fin 33) (rx tx : Word) (s : State) : Out :=
  let low (w : Word) : Word := BitVec.ofNat 32 (bits w 0 len.val)
  .next (if s.released uHostx && decide (4 ≤ len.val) then
    (s.updHost (fun u => { u with spiRx := upd u.spiRx n (fun _ => low rx), spiTx := upd u.spiTx n (fun _ => low tx) })).raise (796 + n.val)
  else s)

/-- R475: I2C `n` completes a transfer. -/
def execI2cTransfer (n : Fin 2) (l : List Byte) (s : State) : Out :=
  .next (if s.released uHostx then (s.updHost (fun u => { u with i2c := upd u.i2c n (fun _ => l) })).raise (800 + n.val) else s)

/-! ### GPIO (R476, R479) -/

/-- Whether IRQ selects a change from `old` to `new`: rising, falling, both, high, low. -/
def irqSelects (irq : Nat) (old new : Bool) : Bool :=
  match irq with
  | 1 => !old && new
  | 2 => old && !new
  | 3 => old != new
  | 4 => new
  | 5 => !new
  | _ => false

/-- R476: pin `g` is at `level`, for a dual-sampled pin on both samples. -/
def execGpioEvent (g : Fin 64) (level : Bool) (s : State) : Out :=
  let w := s.rdw .GP_GPIOIN (g.val / 32)
  .next (if s.released uHostx then
    (s.wrw .GP_GPIOIN (setBits w (g.val % 32) 1 level.toNat) (g.val / 32)).raiseIf
      (irqSelects (s.get GP_GPIOCFG_IRQ g.val) (bit w (g.val % 32)) level) (832 + g.val)
  else s)

/-- A write to GPIOCFG (R479): an IRQ of 6 or 7 is refused. -/
def State.gpiocfgWrite (s : State) (g : Nat) (v : Word) : State :=
  s.condWrite .GP_GPIOCFG v GP_GPIOCFG_IRQ.mask (decide (GP_GPIOCFG_IRQ.of v ≤ 5)) id g

/-! ### Memory errors (R439, R441) -/

/-- Flash ECC at the sector of address `a`. -/
def State.flashEcc (s : State) (a ecc : Nat) : State :=
  if ecc = 1 then (s.put SE_MEMSTAT_FLASH_CORR 1).bumpSat SE_MEMSTAT_FLASHCNT
  else if ecc = 2 then ((s.put SE_MEMSTAT_FLASH_UNCORR 1).put SE_MEMERRA_ADDR (a / 512 * 512)).raise 661
  else s

/-- R439: the scrubber reads and rewrites 64-bit word `k` of the SRAM. -/
def execSramScrub (k : Fin 1048576) (ecc : Fin 3) (s : State) : Out := .next (s.sramEcc (0x10000000 + 8 * k.val) ecc.val)

end Sys2Proof.Machine
end

