-- ==== Sys2Proof/Machine/Registers.lean ====
section
/-! DEFINITION. Writing a register: one operation for every register of the module (R3, R4, R502), and the commands that are a write of one field or
register. -/

namespace Sys2Proof.Machine

/-- Run `f` for a register of engine `e`; the E1 half of a pair that is not split is unmapped (R58). -/
def State.engWrite (s : State) (m : Master) (e : Nat) (f : State → State) : State :=
  if s.engExists e then s.asCellOwner m (e / 2) f else s.put PK_PSTAT_ADDR_UNMAPPED 1 (e - 1)

/-- Run `f` for a register of slice `i`, addressed by its number. -/
def State.sliceStore (s : State) (m : Master) (i : Nat) (f : State → Nat → State) : State :=
  if h : i < 17 then s.sliceWrite m (some ⟨i, h⟩) f else s

/-! ### The units -/

/-- A write to a register of the Pick engines (R19, R58); one to a read-only register changes nothing, but for the status of a master that is not the
owner. -/
def State.pickStore (s : State) (m : Master) (r : RegId) (v : Word) (i j : Nat) : State :=
  match r with
  | .PK_PCTL => s.engWrite m i (fun s => s.pctlPickWrite i v)
  | .PK_PSTAT | .PK_INVSRC => s.engWrite m i (fun s => s.pickPlainWrite i r v)
  | .PK_BUDGET => s.engWrite m i (fun s => s.budgetWrite i v)
  | .PK_SLICEMAP0 | .PK_SLICEMAP1 => s.engWrite m i (fun s => s.slicemapWrite i r v)
  | .PK_PARAMGO => s.engWrite m i (fun s => s.paramgoWrite i v)
  | .PK_PARAM => s.engWrite m i (fun s => s.paramWrite i j v)
  | .PK_REPLATCH => s.engWrite m i (fun s => s.replatchWrite i v)
  | .PK_ARBCTL => s.asCellOwner m i (fun s => s.arbctlWrite i v)
  | .PK_ARBSTAT | .PK_ARBOUT | .PK_TRACK | .PK_SLOTVAL => s.asCellOwner m i id
  | _ => s.engWrite m i id

/-- The read-only registers of a channel (R140). -/
def readOnlyChan (r : RegId) : Bool :=
  match r with
  | .SN_SLMEAN | .SN_SLINFO | .SN_MMMIN | .SN_MMMAX | .SN_MMINFO => true
  | _ => false

/-- A write to a sensing register (R122); one to a read-only register changes nothing, but for the status of a master that may write none. -/
def State.senseStore (s : State) (m : Master) (r : RegId) (v : Word) (i j : Nat) : State :=
  match r with
  | .SN_CTL => s.senseWrite m (fun s => s.ctlSenseWrite v)
  | .SN_DIAGSEL => s.senseWrite m (fun s => s.diagselWrite v)
  | .SN_DIAGSTAT => s.senseWrite m (fun s => s.regWrite r v)
  | .SN_SDMCK => s.senseWrite m (fun s => s.sdmckWrite i v)
  | .SN_SEQCTL => s.senseWrite m (fun s => s.seqctlWrite i v)
  | .SN_SEQDLY | .SN_SEQMASK | .SN_SEQSTAT => s.senseWrite m (fun s => s.seqPlainWrite r i v)
  | .SN_SEQGO => s.senseWrite m (fun s => s.seqgoWrite i v)
  | .SN_CHCTL | .SN_SDCTL => s.chanWrite m i (fun s => s.chctlSenseWrite i v)
  | .SN_CHSTAT | .SN_SLGAP => s.chanWrite m i (fun s => s.regWrite r v i j)
  | .SN_SLCTL => s.chanWrite m i (fun s => s.slctlWrite i j v)
  | .SN_MMCTL => s.chanWrite m i (fun s => s.mmctlWrite i v)
  | _ => if readOnlyChan r then s.chanWrite m i id else s.senseWrite m id

/-- A write to a register of the power stage: Canary, PWM, Cage, ramps (R152, R176, R188, R190); one to a read-only register of a cell or group changes
nothing, but for the status of a master that is not the owner (R19). -/
def State.stageStore (s : State) (m : Master) (r : RegId) (v : Word) (i j : Nat) : State :=
  match r with
  | .CN_CCTL | .CN_CSTAT => s.canaryPlainWrite m r v
  | .CN_WCTL => s.asCellOwner m (i / 2) (fun s => s.wctlWrite i v)
  | .CN_WTHR => s.asCellOwner m (i / 2) (fun s => s.wthrWrite i v)
  | .CN_WSTAT => s.asCellOwner m (i / 2) (fun s => s.wstatWrite i v)
  | .PW_GSTAT => s.regWrite r v
  | .PW_GATESTAT => s.gatestatWrite v
  | .PW_GRPCTL => s.asOwner m i (fun s => s.grpctlWrite i v)
  | .PW_GRPPRD | .PW_GRPPHASE | .PW_GRPSTAT => s.asOwner m i (fun s => s.regWrite r v i)
  | .PW_GRPCOMMIT => s.asOwner m i (fun s => s.grpcommitWrite i v)
  | .PW_CHCTL => s.asCellOwner m i (fun s => s.chctlPwmWrite i v)
  | .PW_DUTY => s.asCellOwner m i (fun s => s.setDuty i v)
  | .PW_DT | .PW_CHSTAT | .PW_DRIVE | .CG_PSTAT => s.asCellOwner m i (fun s => s.regWrite r v i)
  | .PW_OVR => s.asCellOwner m i (fun s => s.ovrWrite i v)
  | .PW_SAFE => s.asCellOwner m i (fun s => s.safeWrite i v)
  | .CG_PCTL => s.asCellOwner m i (fun s => s.pctlCageWrite i v)
  | .CG_BCTL => s.asOwner m i (fun s => s.bctlWrite i v)
  | .CG_BSTAT => s.asOwner m i (fun s => s.regWrite r v i)
  | .CG_CGSTAT => s.cgstatWrite m v
  | .RG_RCTL => s.asRampOwner m i (fun s => s.rctlRampWrite i v)
  | .RG_RSTAT | .RG_RSTART | .RG_SEGEND | .RG_SEGDUR => s.asRampOwner m i (fun s => s.rampPlainWrite r i j v)
  | .CN_WSTAMP => s.asCellOwner m (i / 2) id
  | .PW_GRPACT | .PW_SYNCERR => s.asOwner m i id
  | .PW_ACTCMP | .CG_DSSTAMP | .CG_FBSTAMP => s.asCellOwner m i id
  | .RG_RVAL => s.asRampOwner m i id
  | _ => s

/-- A write to a register of the blocks, the Headframe or the Shift plan (R22, R54 to R56). -/
def State.headStore (s : State) (m : Master) (r : RegId) (v : Word) (i : Nat) : State :=
  match r with
  | .BLK_BLKCTL => s.blkctlWrite m i v
  | .BLK_BLKCELLS0 => s.blkcellsWrite m i false v
  | .BLK_BLKCELLS1 => s.blkcellsWrite m i true v
  | .HF_DOMCTL | .HF_DOMSTAT | .HF_TRKIN | .HF_TRKTHR | .HF_NOMMAG => s.domainWrite i r v
  | .EV_EVTANG => s.evtangWrite i v
  | .EV_EVTCTL => s.evtctlWrite i v
  | .SP_CTL => s.shiftCtlWrite v
  | .SP_COMMIT => s.commitWrite v
  | _ => s.regWrite r v i

/-- A write to a register of the Drift pairs or the interrupt slices (R298, R302, R309). -/
def State.driftStore (s : State) (m : Master) (r : RegId) (v : Word) (i j : Nat) : State :=
  match r with
  | .DR_PCTL => s.pctlPairWrite m i v
  | .DR_PLOG => s.plogWrite m i v
  | .DR_OWNRGN => s.ownrgnWrite m i j v
  | .DR_DSTAT | .DR_TESTCTL => s.driftPlainWrite m r v i
  | .IC_SRCCFG => s.srccfgWrite m i v
  | .IC_GCFG => s.gcfgWrite m i v
  | .IC_SCTL | .IC_SSTAT | .IC_GSTAT => s.icPlainWrite m r i v
  | .DR_PSTATE | .DR_PFAULT | .DR_PSTAMP | .DR_PCOUNT => s.pairShowWrite m
  | .IC_CLAIM => s.sliceStore m i (fun s _ => s)
  | .IC_COMPLETE => s.sliceStore m i (fun s k => s.complete k v)
  | .IC_PEND => s.sliceStore m i (fun s k => s.pendWrite k j v)
  | _ => s

/-- A write to a register of the Foreman, the Banksman or Exvia (R311, R356, R361); a direct write to an EXV field is refused (R3). -/
def State.guardStore (s : State) (m : Master) (r : RegId) (v : Word) (i j : Nat) : State :=
  match r with
  | .FM_FSAFEN => s.asSafety m (fun s => s.fsafenWrite v)
  | .FM_FCMD => s.asSafety m (fun s => s.fcmdWrite v)
  | .FM_FCLR => s.asSafety m (fun s => s.fclrWrite v)
  | .FM_BTEST => s.asSafety m (fun s => s.btestWrite v)
  | .FM_FCAUSE => s.asSafety m (fun s => s.regWrite r v)
  | .EX_MBCTL => s.mbctlWrite m i v
  | .EX_MBSTAT | .EX_MBLEN | .EX_MBDATA => s.mbWrite m r v i j
  | .EX_CFGVAL | .EX_CFGMIN | .EX_CFGMAX | .EX_CFGSRC => s.put EX_EXSTAT_WRITE_DENIED 1
  | _ => s.regWrite r v i j

/-- A write to a register of the Winder, the supplies, the resets or the Lamp domain (R391, R405, R421, R437). -/
def State.supplyStore (s : State) (m : Master) (r : RegId) (v : Word) (i : Nat) : State :=
  match r with
  | .WI_WCTL => s.wctlSrcWrite v
  | .WI_SCTL => s.sctlSynthWrite i v
  | .WI_SSCFG => s.sscfgWrite i v
  | .WI_RCTL => s.rctlWinderWrite v
  | .WI_RSEG => s.rsegWrite i v
  | .WI_OCTL => s.octlWrite i v
  | .PR_PWRCTL | .PR_PWRSTAT | .PR_WAKECFG | .PR_WAKEAT | .PR_RAILSTAT => s.powerWrite m r v
  | .RS_RSTCTL => s.rstctlWrite m v
  | .RS_RSTREL => s.rstrelWrite v
  | .RS_WDTCTL => s.wdtctlWrite m i v
  | .RS_WDTKICK => s.wdtkickWrite m i v
  | .RS_PADREL => s.padWrite v
  | .LA_LCTL | .LA_LSTAT | .LA_GFLOOR | .LA_RETAIN => s.lampWrite m r v i
  | _ => s.regWrite r v i

/-- A write to a register of the Seam recorder, Uhla, the host links or the Assay (R265, R452, R477 to R479). -/
def State.linkStore (s : State) (m : Master) (r : RegId) (v : Word) (i j : Nat) : State :=
  match r with
  | .SE_STRCFG => s.seamWrite m (fun s => s.strcfgWrite i v)
  | .SE_STRPUT => s.seamWrite m (fun s => s.strput i v)
  | .SE_TRGCTL => s.seamWrite m (fun s => s.trgctlWrite i v)
  | .SE_DRCFG => s.seamWrite m (fun s => s.drcfgWrite i v)
  | .UH_UCTL => s.uhlaWrite m (fun s => s.uctlWrite v)
  | .UH_UGID => s.uhlaWrite m (fun s => s.ugidWrite v)
  | .UH_UTRIPGO => s.uhlaWrite m (fun s => s.utripgoWrite v)
  | .UH_UTRIP => s.uhlaWrite m (fun s => s.utripWrite v)
  | .UH_USVCFG => s.uhlaWrite m (fun s => s.usvcfgWrite i v)
  | .UH_USVPUT => s.usvputWrite m i v
  | .ET_ETHCTL => s.ethctlWrite i v
  | .ET_PTPADJ => s.adjWrite v
  | .ET_PTPSTEP => s.ptpStep v
  | .ET_PTPTRUST => s.trustWrite v
  | .GP_GPIOCFG => s.gpiocfgWrite i v
  | .SE_SCTL | .SE_SSTAT | .SE_MEMSTAT | .SE_TRGCFG | .SE_CAPSTAT | .SE_DRSRC | .SE_DRLEN | .SE_DRDST | .SE_DRSTAT =>
    s.seamWrite m (fun s => s.regWrite r v i)
  | .UH_USTAT | .UH_UPORT | .UH_UTRIPCFG | .UH_UPROBE => s.uhlaWrite m (fun s => s.regWrite r v i)
  | _ => if regsAS.contains r then s.assayWrite r v i else s.regWrite r v i j

/-! ### Every register -/

/-- The part of the module that a register belongs to. -/
inductive RegUnit where
  | head
  | pick
  | sense
  | stage
  | drift
  | guard
  | supply
  | link
deriving DecidableEq, Repr

/-- The unit of a register. -/
def RegId.unit (r : RegId) : RegUnit :=
  let p := r.reg.base / 0x10000
  if p = 0x4000 ∨ p = 0x4001 ∨ (p = 0x4033 ∧ r.reg.base < 0x40330800) then .head
  else if p = 0x4002 ∨ p = 0x4081 ∨ r = .RS_PADREL ∨ (p = 0x4080 ∧ r.reg.base < 0x40801000) then .supply
  else if p = 0x4020 then .sense
  else if p = 0x4030 ∨ p = 0x4031 ∨ p = 0x4032 then .pick
  else if p = 0x4010 ∨ p = 0x4012 ∨ p = 0x4013 ∨ p = 0x4014 ∨ p = 0x4028 ∨ p = 0x4033 then .stage
  else if p = 0x4048 ∨ p = 0x4080 then .drift
  else if p = 0x4090 ∨ p = 0x40A0 then .guard
  else .link

/-- What a write of `v` by master `m` to copy `(i, j)` of a register does. -/
def State.store (s : State) (m : Master) (r : RegId) (v : Word) (i j : Nat) : State :=
  match r.unit with
  | .head => s.headStore m r v i
  | .pick => s.pickStore m r v i j
  | .sense => s.senseStore m r v i j
  | .stage => s.stageStore m r v i j
  | .drift => s.driftStore m r v i j
  | .guard => s.guardStore m r v i j
  | .supply => s.supplyStore m r v i
  | .link => s.linkStore m r v i j

/-- A write by a master: what it releases is noted (R282), then the register acts; a W1C bit set in this tick is not cleared (R3). -/
def State.regStore (s : State) (m : Master) (r : RegId) (v : Word) (i : Nat := 0) (j : Nat := 0) : State :=
  if s.busOpen m then (s.noteWrite m (r.addr i j) (leBytes 4 v.toNat)).store m r (s.settle r v i j) i j else s

/-! ### The commands that write one register -/

/-- CHCTL of a channel is SDCTL for a bitstream channel (R140). -/
def chctlReg (c : Chan) : RegId := if c.val < 96 then .SN_CHCTL else .SN_SDCTL

/-- The address of a register of a slice, by its number or through SELF (R309). -/
def sliceAddr (n : Option Slice) (off : Nat) : Nat :=
  match n with
  | some k => 0x40481000 + k.val * 0x100 + off
  | none => 0x40482800 + off

/-- R304: COMPLETE written, to a slice by its number or through SELF. -/
def execCompleteSource (m : Master) (n : Option Slice) (v : Word) (s : State) : Out :=
  .next (if s.busOpen m then (s.noteWrite m (sliceAddr n 8) (leBytes 4 v.toNat)).sliceWrite m n (fun s k => s.complete k v) else s)

/-- R306: PEND word `j` written. -/
def execPendClear (m : Master) (n : Option Slice) (j : Fin 32) (v : Word) (s : State) : Out :=
  .next (if s.busOpen m then
    (s.noteWrite m (sliceAddr n (0x80 + 4 * j.val)) (leBytes 4 v.toNat)).sliceWrite m n (fun s k => s.pendWrite k j.val (s.settle .IC_PEND v k j.val))
  else s)

/-- R21: REQ = ARMED, with the other bits of `v`. -/
def execReqArmed (m : Master) (b : Block) (v : Word) (s : State) : Out :=
  .next (s.regStore m .BLK_BLKCTL (BLK_BLKCTL_REQ.into v blkArmed) b.val)

/-- R21: REQ = RUNNING. -/
def execReqRunning (m : Master) (b : Block) (v : Word) (s : State) : Out :=
  .next (s.regStore m .BLK_BLKCTL (BLK_BLKCTL_REQ.into v blkRunning) b.val)

/-- R21: REQ = STOPPED. -/
def execReqStopped (m : Master) (b : Block) (v : Word) (s : State) : Out :=
  .next (s.regStore m .BLK_BLKCTL (BLK_BLKCTL_REQ.into v blkStopped) b.val)

/-- R18: OWNER, OWNED, DOMAIN and LOCK written, requesting no state (REQ = 0b11, R22). -/
def execOwnershipWrite (m : Master) (b : Block) (v : Word) (s : State) : Out :=
  .next (s.regStore m .BLK_BLKCTL (BLK_BLKCTL_REQ.into v 3) b.val)

/-- R22: BLKCELLS0, or BLKCELLS1 when `hi`, written. -/
def execCellBindingWrite (m : Master) (b : Block) (hi : Bool) (v : Word) (s : State) : Out :=
  .next (s.regStore m (cellsReg hi) v b.val)

/-- R45: EVTCTL written. -/
def execEvtctlWrite (m : Master) (k : EvSlot) (v : Word) (s : State) : Out :=
  .next (s.regStore m .EV_EVTCTL v k.val)

/-- R45: EVTANG written. -/
def execEvtangWrite (m : Master) (k : EvSlot) (v : Word) (s : State) : Out :=
  .next (s.regStore m .EV_EVTANG v k.val)

/-- R51: GO, with the other bits of `v`. -/
def execPlanGo (m : Master) (v : Word) (s : State) : Out :=
  .next (s.regStore m .SP_COMMIT (SP_COMMIT_GO.into v 1))

/-- R76: ARBCTL written. -/
def execArbctlWrite (m : Master) (c : Cell) (v : Word) (s : State) : Out :=
  .next (s.regStore m .PK_ARBCTL v c.val)

/-- R67: SLICEMAP0, or SLICEMAP1 when `hi`, written. -/
def execSlicemapWrite (m : Master) (e : Eng) (hi : Bool) (v : Word) (s : State) : Out :=
  .next (s.regStore m (if hi then .PK_SLICEMAP1 else .PK_SLICEMAP0) v e.val)

/-- R61: PARAMGO.GO written 1, with the other bits of `v`. -/
def execParamgo (m : Master) (e : Eng) (v : Word) (s : State) : Out :=
  .next (s.regStore m .PK_PARAMGO (PK_PARAMGO_GO.into v 1) e.val)

/-- R61: PARAM written. -/
def execParamWrite (m : Master) (e : Eng) (n : Fin 64) (v : Word) (s : State) : Out :=
  .next (s.regStore m .PK_PARAM v e.val n.val)

/-- R62: REPLATCH written 1. -/
def execReplatch (m : Master) (e : Eng) (v : Word) (s : State) : Out :=
  .next (s.regStore m .PK_REPLATCH (PK_REPLATCH_LATCH.into v 1) e.val)

/-- R81: BUDGET written. -/
def execBudgetWrite (m : Master) (e : Eng) (v : Word) (s : State) : Out :=
  .next (s.regStore m .PK_BUDGET v e.val)

/-- R80: LOAD written, with the other bits of `v`. -/
def execLoadProgram (m : Master) (e : Eng) (v : Word) (s : State) : Out :=
  .next (s.regStore m .PK_PCTL (PK_PCTL_LOAD.into v 1) e.val)

/-- R128: CTL written. -/
def execRefenWrite (m : Master) (v : Word) (s : State) : Out :=
  .next (s.regStore m .SN_CTL v)

/-- R130: SEQGO written 1. -/
def execSeqgo (m : Master) (q : Sequ) (v : Word) (s : State) : Out :=
  .next (s.regStore m .SN_SEQGO (SN_SEQGO_GO.into v 1) q.val)

/-- R131: SEQCTL written. -/
def execSeqctlWrite (m : Master) (q : Sequ) (v : Word) (s : State) : Out :=
  .next (s.regStore m .SN_SEQCTL v q.val)

/-- R120: CHCTL written. -/
def execChctlWrite (m : Master) (c : Chan) (v : Word) (s : State) : Out :=
  .next (s.regStore m (chctlReg c) v c.val)

/-- R135: MMCTL.RESET written 1, with the other bits of `v`. -/
def execMmReset (m : Master) (c : Chan) (v : Word) (s : State) : Out :=
  .next (s.regStore m .SN_MMCTL (SN_MMCTL_RESET.into v 1) c.val)

/-- R136: GO written, with the other bits of `v`. -/
def execDiagGo (m : Master) (v : Word) (s : State) : Out :=
  .next (s.regStore m .SN_DIAGSEL (SN_DIAGSEL_GO.into v 1))

/-- R147: WSTAT written. -/
def execLatchClear (m : Master) (w : Win) (v : Word) (s : State) : Out :=
  .next (s.regStore m .CN_WSTAT v w.val)

/-- R142: WTHR written. -/
def execWthrWrite (m : Master) (w : Win) (v : Word) (s : State) : Out :=
  .next (s.regStore m .CN_WTHR v w.val)

/-- R143: WCTL written. -/
def execWctlWrite (m : Master) (w : Win) (v : Word) (s : State) : Out :=
  .next (s.regStore m .CN_WCTL v w.val)

/-- R151: WCTL written with RBFAIL as `b` says. -/
def execRbfailWrite (m : Master) (w : Win) (b : Bool) (v : Word) (s : State) : Out :=
  .next (s.regStore m .CN_WCTL (CN_WCTL_RBFAIL.into v b.toNat) w.val)

/-- R162: COMMIT, with the other bits of `v`. -/
def execGrpCommit (m : Master) (g : Block) (v : Word) (s : State) : Out :=
  .next (s.regStore m .PW_GRPCOMMIT (PW_GRPCOMMIT_COMMIT.into v 1) g.val)

/-- R163: EN = 1 written, with the other bits of `v`. -/
def execCarrierEnable (m : Master) (g : Block) (v : Word) (s : State) : Out :=
  .next (s.regStore m .PW_GRPCTL (PW_GRPCTL_EN.into v 1) g.val)

/-- R164: a firmware write to DUTY. -/
def execDutyWrite (m : Master) (c : Cell) (v : Word) (s : State) : Out :=
  .next (s.regStore m .PW_DUTY v c.val)

/-- R171: OVR written. -/
def execOvrWrite (m : Master) (c : Cell) (v : Word) (s : State) : Out :=
  .next (s.regStore m .PW_OVR v c.val)

/-- R172: SAFE written. -/
def execSafeWrite (m : Master) (c : Cell) (v : Word) (s : State) : Out :=
  .next (s.regStore m .PW_SAFE v c.val)

/-- R187: CLR written 1, with the other bits of `v`. -/
def execClr (m : Master) (c : Cell) (v : Word) (s : State) : Out :=
  .next (s.regStore m .CG_PCTL (CG_PCTL_CLR.into v 1) c.val)

/-- R191: GO written, with the other bits of `v`. -/
def execRampGo (m : Master) (r : Gen) (v : Word) (s : State) : Out :=
  .next (s.regStore m .RG_RCTL (RG_RCTL_GO.into v 1) r.val)

/-- R191: STOP written. -/
def execRampStop (m : Master) (r : Gen) (v : Word) (s : State) : Out :=
  .next (s.regStore m .RG_RCTL (RG_RCTL_STOP.into v 1) r.val)

/-- R191: RELEASE written. -/
def execRampRelease (m : Master) (r : Gen) (v : Word) (s : State) : Out :=
  .next (s.regStore m .RG_RCTL (RG_RCTL_RELEASE.into v 1) r.val)

/-- R190: RCTL written, with CELL and the other fields of `v`. -/
def execRampCellWrite (m : Master) (r : Gen) (v : Word) (s : State) : Out :=
  .next (s.regStore m .RG_RCTL v r.val)

/-- R254: 1 written to SNAP. -/
def execSnap (m : Master) (v : Word) (s : State) : Out :=
  .next (s.regStore m .AS_ACTL (AS_ACTL_SNAP.into v 1))

/-- R299: MODEREQ = TEST, with the other bits of `v`. -/
def execModereqTest (m : Master) (n : Pair) (v : Word) (s : State) : Out :=
  .next (s.regStore m .DR_PCTL (DR_PCTL_MODEREQ.into v 1) n.val)

/-- R295: MODEREQ = SPLIT. -/
def execModereqSplit (m : Master) (n : Pair) (v : Word) (s : State) : Out :=
  .next (s.regStore m .DR_PCTL (DR_PCTL_MODEREQ.into v 2) n.val)

/-- R299: MODEREQ = SERVICE. -/
def execModereqService (m : Master) (n : Pair) (v : Word) (s : State) : Out :=
  .next (s.regStore m .DR_PCTL (DR_PCTL_MODEREQ.into v 4) n.val)

/-- R299: MODEREQ = SPARE. -/
def execModereqSpare (m : Master) (n : Pair) (v : Word) (s : State) : Out :=
  .next (s.regStore m .DR_PCTL (DR_PCTL_MODEREQ.into v 5) n.val)

/-- R296: MODEREQ = JOIN. -/
def execJoin (m : Master) (n : Pair) (v : Word) (s : State) : Out :=
  .next (s.regStore m .DR_PCTL (DR_PCTL_MODEREQ.into v 3) n.val)

/-- R271: OWNRGN written. -/
def execOwnrgnWrite (m : Master) (n : Pair) (j : Fin 4) (v : Word) (s : State) : Out :=
  .next (s.regStore m .DR_OWNRGN v n.val j.val)

/-- R299: CLRMAX written. -/
def execClrmax (m : Master) (n : Pair) (v : Word) (s : State) : Out :=
  .next (s.regStore m .DR_PLOG (DR_PLOG_CLRMAX.into v 1) n.val)

/-- R302: SRCCFG written. -/
def execSrccfgWrite (m : Master) (src : Source) (v : Word) (s : State) : Out :=
  .next (s.regStore m .IC_SRCCFG v src.val)

/-- R308: GCFG written. -/
def execGcfgWrite (m : Master) (g : IcGroup) (v : Word) (s : State) : Out :=
  .next (s.regStore m .IC_GCFG v g.val)

/-- R308: a write of 1 to FLUSH, with the other bits of `v`. -/
def execFlush (m : Master) (g : IcGroup) (v : Word) (s : State) : Out :=
  .next (s.regStore m .IC_GCFG (IC_GCFG_FLUSH.into v 1) g.val)

/-- R311: FSAFEN written. -/
def execFsafenWrite (m : Master) (v : Word) (s : State) : Out :=
  .next (s.regStore m .FM_FSAFEN v)

/-- R318: FCMD written. -/
def execFcmdWrite (m : Master) (v : Word) (s : State) : Out :=
  .next (s.regStore m .FM_FCMD v)

/-- R317: 1 written to FCLR.CLR. -/
def execFclr (m : Master) (v : Word) (s : State) : Out :=
  .next (s.regStore m .FM_FCLR (FM_FCLR_CLR.into v 1))

/-- R321: 1 written to BTEST.REQn. -/
def execBtestReq (m : Master) (n : Fin 2) (v : Word) (s : State) : Out :=
  .next (s.regStore m .FM_BTEST (setBits v n.val 1 1))

/-- R361: MBCTL written with CLAIM. -/
def execMailboxClaim (m : Master) (b : Mbox) (v : Word) (s : State) : Out :=
  .next (s.regStore m .EX_MBCTL (EX_MBCTL_CLAIM.into v 1) b.val)

/-- R361: MBCTL written with GO. -/
def execMailboxGo (m : Master) (b : Mbox) (v : Word) (s : State) : Out :=
  .next (s.regStore m .EX_MBCTL (EX_MBCTL_GO.into v 1) b.val)

/-- R361: MBCTL written with RELEASE. -/
def execMailboxRelease (m : Master) (b : Mbox) (v : Word) (s : State) : Out :=
  .next (s.regStore m .EX_MBCTL (EX_MBCTL_RELEASE.into v 1) b.val)

/-- R407: RSTREL written. -/
def execRstrelWrite (m : Master) (v : Word) (s : State) : Out :=
  .next (s.regStore m .RS_RSTREL v)

/-- R385: SCTL written. -/
def execSynthEnable (m : Master) (n : Fin 4) (v : Word) (s : State) : Out :=
  .next (s.regStore m .WI_SCTL v n.val)

/-- R382: SRC written. -/
def execRefSourceWrite (m : Master) (v : Word) (s : State) : Out :=
  .next (s.regStore m .WI_WCTL v)

/-- R387: SSCFG written. -/
def execSpreadWrite (m : Master) (n : Fin 4) (v : Word) (s : State) : Out :=
  .next (s.regStore m .WI_SSCFG v n.val)

/-- R388: GO written, with the other bits of `v`. -/
def execWinderRampGo (m : Master) (v : Word) (s : State) : Out :=
  .next (s.regStore m .WI_RCTL (WI_RCTL_GO.into v 1))

/-- R389: STOP written, with the other bits of `v`. -/
def execWinderRampStop (m : Master) (v : Word) (s : State) : Out :=
  .next (s.regStore m .WI_RCTL (WI_RCTL_STOP.into v 1))

/-- R401: PWRCTL written with REQ = NIGHT. -/
def execPwrctlReqNight (m : Master) (v : Word) (s : State) : Out :=
  .next (s.regStore m .PR_PWRCTL (PR_PWRCTL_REQ.into v 1))

/-- R401: REQ = PARK. -/
def execPwrctlReqPark (m : Master) (v : Word) (s : State) : Out :=
  .next (s.regStore m .PR_PWRCTL (PR_PWRCTL_REQ.into v 2))

/-- R401: REQ = RUN. -/
def execPwrctlReqRun (m : Master) (v : Word) (s : State) : Out :=
  .next (s.regStore m .PR_PWRCTL (PR_PWRCTL_REQ.into v 3))

/-- R419: PAD.RELEASE written. -/
def execPadRelease (m : Master) (v : Word) (s : State) : Out :=
  .next (s.regStore m .RS_PADREL v)

/-- R413: RSTCTL written with SCOPE device warm. -/
def execRstctlDeviceWarm (m : Master) (v : Word) (s : State) : Out :=
  .next (s.regStore m .RS_RSTCTL (RS_RSTCTL_SCOPE.into v 1))

/-- R413: RSTCTL written with SCOPE pair warm. -/
def execRstctlPairWarm (m : Master) (v : Word) (s : State) : Out :=
  .next (s.regStore m .RS_RSTCTL (RS_RSTCTL_SCOPE.into v 2))

/-- R412: WDTKICK written. -/
def execWdtkick (m : Master) (n : Pair) (v : Word) (s : State) : Out :=
  .next (s.regStore m .RS_WDTKICK v n.val)

/-- R452: STRPUT. -/
def execStrput (m : Master) (t : Stream) (v : Word) (s : State) : Out :=
  .next (s.regStore m .SE_STRPUT v t.val)

/-- R448: FIRE written, with the other bits of `v`. -/
def execFireTrigger (m : Master) (n : Trig) (v : Word) (s : State) : Out :=
  .next (s.regStore m .SE_TRGCTL (SE_TRGCTL_FIRE.into v 1) n.val)

/-- R448: RELEASE written, with the other bits of `v`. -/
def execCaptureRelease (m : Master) (n : Trig) (v : Word) (s : State) : Out :=
  .next (s.regStore m .SE_TRGCTL (SE_TRGCTL_RELEASE.into v 1) n.val)

/-- R450: GO written, with the other bits of `v`. -/
def execDrainGo (m : Master) (d : Drain) (v : Word) (s : State) : Out :=
  .next (s.regStore m .SE_DRCFG (SE_DRCFG_GO.into v 1) d.val)

/-- R450: STOP written, with the other bits of `v`. -/
def execDrainStop (m : Master) (d : Drain) (v : Word) (s : State) : Out :=
  .next (s.regStore m .SE_DRCFG (SE_DRCFG_STOP.into v 1) d.val)

/-- R455: EN = 1 written, with the other bits of `v`. -/
def execUhlaEnable (m : Master) (v : Word) (s : State) : Out :=
  .next (s.regStore m .UH_UCTL (UH_UCTL_EN.into v 1))

/-- R465: GO written, with the other bits of `v`. -/
def execUtripgo (m : Master) (v : Word) (s : State) : Out :=
  .next (s.regStore m .UH_UTRIPGO (UH_UTRIPGO_GO.into v 1))

/-- R466: UTRIP written. -/
def execUtripClear (m : Master) (v : Word) (s : State) : Out :=
  .next (s.regStore m .UH_UTRIP v)

/-- R474: PTPTRUST written with LOCK, and the other bits of `v`. -/
def execPtpLock (m : Master) (v : Word) (s : State) : Out :=
  .next (s.regStore m .ET_PTPTRUST (ET_PTPTRUST_LOCK.into v 1))

/-- R473: PTPSTEP written. -/
def execPtpstep (m : Master) (v : Word) (s : State) : Out :=
  .next (s.regStore m .ET_PTPSTEP v)

/-- R460: USVPUT. -/
def execUsvput (m : Master) (v : Fin 256) (w : Word) (s : State) : Out := .next (s.regStore m .UH_USVPUT w v.val)

/-- R460: USVCFG. -/
def execUsvcfgWrite (m : Master) (v : Fin 256) (w : Word) (s : State) : Out := .next (s.regStore m .UH_USVCFG w v.val)

end Sys2Proof.Machine
end

