-- ==== Sys2Proof/Machine/Bus.lean ====
section
/-! DEFINITION. Accesses by address: registers, latches and unmapped addresses (R3, R4, R309, R503), the memories (R270, R271, R438 to R441), and
the debugger (R297). -/

namespace Sys2Proof.Machine

/-! ### Which register an address names -/

/-- The SELF window (R309). -/
def inSelf (a : Nat) : Bool := decide (0x40482800 ≤ a) && decide (a < 0x40482900)

/-- The register copy that an address names for a master: through SELF that of its own slice; the E1 half of a pair that is not split has none (R58). -/
def State.regFor (s : State) (m : Master) (a : Nat) : Option (RegId × Nat × Nat) :=
  if inSelf a then
    match s.selfSlice m with
    | some k => regAt (a - 0x40482800 + 0x40481000 + k * 0x100)
    | none => none
  else
    match regAt a with
    | some (r, i, j) => if s.regThere r i then some (r, i, j) else none
    | none => none

/-- The peripheral windows (R438). -/
def inPeriph (a : Nat) : Bool := decide (0x40000000 ≤ a) && decide (a ≤ 0x40A0FFFF)

/-- The ADDR_UNMAPPED field of an address, with its copy (R4); none where the window's chapter names none. -/
def unmappedFld (a : Nat) : Option (Fld × Nat) :=
  if a < 0x40010000 then some (HF_DOMSTAT_ADDR_UNMAPPED, 0)
  else if a < 0x40020000 then some (SP_STAT_ADDR_UNMAPPED, 0)
  else if a < 0x40100000 then some (WI_WSTAT_ADDR_UNMAPPED, 0)
  else if a < 0x40140000 then some (PW_GSTAT_ADDR_UNMAPPED, 0)
  else if a < 0x40200000 then some (CG_CGSTAT_ADDR_UNMAPPED, 0)
  else if a < 0x40280000 then some (SN_CTL_ADDR_UNMAPPED, 0)
  else if a < 0x40300000 then some (CN_CSTAT_ADDR_UNMAPPED, 0)
  else if a < 0x40330000 then some (PK_PSTAT_ADDR_UNMAPPED, 2 * ((a - 0x40300000) / 0x1000))
  else if a < 0x40400000 then some (BLK_BLKCTL_ADDR_UNMAPPED, 0)
  else if a < 0x40480000 then some (AS_ASTAT_ADDR_UNMAPPED, 0)
  else if a < 0x40500000 then none
  else if a < 0x40600000 then some (SE_SSTAT_ADDR_UNMAPPED, 0)
  else if a < 0x40700000 then none
  else if a < 0x40800000 then some (UH_USTAT_ADDR_UNMAPPED, 0)
  else if a < 0x40800800 then some (RS_RSTSTAT_ADDR_UNMAPPED, 0)
  else if a < 0x40801000 then some (PR_PWRSTAT_ADDR_UNMAPPED, 0)
  else if a < 0x40810000 then some (DR_DSTAT_ADDR_UNMAPPED, 0)
  else if a < 0x40900000 then some (LA_LSTAT_ADDR_UNMAPPED, 0)
  else if a < 0x40A00000 then some (FM_FCAUSE_ADDR_UNMAPPED, 0)
  else some (EX_EXSTAT_ADDR_UNMAPPED, 0)

/-- An access to an unmapped address of a window (R4); through SELF, one by a master without a slice sets no status (R309). -/
def State.unmapped (s : State) (m : Master) (a : Nat) : State :=
  if inSelf a && (s.selfSlice m).isNone then s
  else match unmappedFld a with
    | some (f, i) => s.put f 1 i
    | none => s

/-! ### Registers (R3, R4, R502, R503) -/

/-- A read of a register: CLAIM claims (R304), the first register of a group latches its partners (R503). The retention memory and, while the
spec names no other reader, what others read of it: open (R425). -/
def State.readReg (s : State) (m : Master) (r : RegId) (i j : Nat) : Word × State :=
  if r = .IC_CLAIM then
    let s1 := s.claim i
    (s1.bus.data, s1)
  else if r = .LA_RETAIN ∧ !s.lockstep m then s.free
  else
    let s1 := s.latch r i j
    (s1.view r i j, s1)

/-- A read at an address of the peripheral windows. -/
def State.readAt (s : State) (m : Master) (a : Nat) : State :=
  match s.regFor m a with
  | some (r, i, j) =>
    let (v, s1) := s.readReg m r i j
    s1.busLoad m v
  | none => (s.unmapped m a).busLoad m 0

/-- A write through SELF (R302, R309). -/
def State.selfStore (s : State) (m : Master) (r : RegId) (v : Word) (j : Nat) : State :=
  s.sliceWrite m none (fun s k =>
    match r with
    | .IC_COMPLETE => s.complete k v
    | .IC_PEND => s.pendWrite k j (s.settle r v k j)
    | .IC_SCTL | .IC_SSTAT => (s.regWrite r (s.settle r v k) k).wakeSlice k
    | _ => s)

/-- A write at an address of the peripheral windows. -/
def State.writeAt (s : State) (m : Master) (a : Nat) (v : Word) : State :=
  let t := match s.regFor m a with
    | some (r, i, j) =>
      if inSelf a then (s.noteWrite m a (leBytes 4 v.toNat)).selfStore m r v j else s.regStore m r v i j
    | none => (s.noteWrite m a (leBytes 4 v.toNat)).unmapped m a
  t.busAnswer 0

/-- R502: a write of `v` to the register at address `a`. -/
def execRegisterWrite (m : Master) (a v : Word) (s : State) : Out :=
  .next (if s.busOpen m && inPeriph a.toNat && (s.regFor m a.toNat).isSome then s.writeAt m a.toNat v else s)

/-- R503: a read of the register at address `a`, of a group's first or any other. -/
def execLatchingRead (m : Master) (a : Word) (s : State) : Out :=
  .next (if s.busOpen m && inPeriph a.toNat && (s.regFor m a.toNat).isSome then s.readAt m a.toNat else s)

/-- R4: a read, or with `w` a write, at an address of a window that names no register. -/
def execAddrUnmapped (m : Master) (a : Word) (w : Option Word) (s : State) : Out :=
  .next (if s.busOpen m && inPeriph a.toNat && (s.regFor m a.toNat).isNone then
    match w with
    | some v => s.writeAt m a.toNat v
    | none => s.readAt m a.toNat
  else s)

/-- R304: CLAIM read, of a slice by its number or through SELF; through SELF a master without a slice reads 0 (R309). -/
def execClaim (m : Master) (n : Option Slice) (s : State) : Out :=
  .next (if s.busOpen m then s.readAt m (sliceAddr n 4) else s)

/-! ### Memories -/

/-- The ranges of R438 that are memories. -/
inductive Range where
  | rom
  | sram
  | tcm
  | flash
  | ring
  | dram
deriving DecidableEq, Repr

/-- The memory that an address lies in. -/
def rangeOf (a : Nat) : Option Range :=
  if a < 0x10000 then some .rom
  else if 0x10000000 ≤ a ∧ a < 0x10800000 then some .sram
  else if 0x20000000 ≤ a ∧ a < 0x20400000 then some .tcm
  else if 0x30000000 ≤ a ∧ a < 0x38000000 then some .flash
  else if 0x80000000 ≤ a ∧ a < 0x98000000 then some .ring
  else if 0x98000000 ≤ a ∧ a < 0xA0000000 then some .dram
  else none

/-- Whether a master addresses a TCM address as its own: a pair its window, core 0 of a split pair the lower half and core 1 the upper (R270, R294). -/
def State.ownsTcm (s : State) (m : Master) (a : Nat) : Bool :=
  let n := (a - 0x20000000) / 0x40000
  match m with
  | .pair p => p.val == n && s.lockstep m
  | .core p k => p.val == n && s.isSplit n && (a / 0x20000) % 2 == k.val
  | _ => false

/-- An access to a TCM (R268, R270, R294). -/
def State.tcmAccess (s : State) (m : Master) (a : Nat) (op : MemOp) (ecc : Nat) : State :=
  let n := (a - 0x20000000) / 0x40000
  if !s.ownsTcm m a then
    match op with
    | .write be v => ((s.noteWrite m a (beBytes be v)).put DR_DSTAT_TCM_DENIED 1).busAnswer 0
    | .read => (s.put DR_DSTAT_TCM_DENIED 1).busLoad m 0
  else match op with
    | .write be v => s.memWrite m a be v
    | .read =>
      if ecc = 2 then
        match m with
        | .core _ k => s.splitCoreStop n k.val
        | _ => s.pairFault n 2 0
      else (if ecc = 1 then s.bumpSat DR_PCOUNT_ECCCORR n else s).memRead m a

/-- The word of the Drift application in force (R371) at a flash address, for execute-in-place (R441). -/
def State.appWord (s : State) (a : Nat) : Option Word :=
  match s.imageIn 2 s.bank.startB[1] with
  | some im =>
    let b := Config.appSlotBase s.bank.startB[1]
    if b ≤ a ∧ a < b + im.payload.length then some (BitVec.ofNat 32 (leNat ((im.payload.drop (a - b)).take 4))) else none
  | none => none

/-- An access to the flash window (R441). -/
def State.flashAccess (s : State) (m : Master) (a : Nat) (op : MemOp) (ecc : Nat) : State :=
  match op with
  | .write be v => ((s.noteWrite m a (beBytes be v)).put SE_MEMSTAT_FLASH_DENIED 1).busAnswer 0
  | .read =>
    let s1 := s.flashEcc a ecc
    if a < 0x36000000 then
      match s.appWord a with
      | some w => if ecc = 2 then s1.accessFault m a op else s1.busLoad m w
      | none => (s.put SE_MEMSTAT_FLASH_DENIED 1).busLoad m 0
    else if !s.lockstep m then (s.put SE_MEMSTAT_FLASH_DENIED 1).busAnswer 0
    else if ecc = 2 then s1.accessFault m a op
    else s1.memRead m a

/-- An access to the boot ROM: the Banksman alone reads its contents, which the spec does not give; a write changes nothing. -/
def State.romAccess (s : State) (m : Master) (a : Nat) (op : MemOp) : State :=
  match op with
  | .write be v => (s.noteWrite m a (beBytes be v)).busAnswer 0
  | .read =>
    if m = .banksman then
      let (w, s1) := s.free
      s1.busAnswer w
    else s.busLoad m 0

/-- An access to a memory. A held crew's access to shared memory waits (R53). -/
def State.memAccess (s : State) (m : Master) (c a : Nat) (op : MemOp) (ecc : Nat) : State :=
  match rangeOf a with
  | some .rom => s.romAccess m a op
  | some .tcm => s.tcmAccess m a op ecc
  | some .flash => s.flashAccess m a op ecc
  | some _ => s.sharedRequest ⟨m, s.accessCrew m c, a, op, ecc⟩
  | none => s

/-- R271: an access to the word of memory at `a`; `c`: the crew of a DMA channel; `ecc`: 0 no error, 1 corrected, 2 uncorrectable. -/
def execMemoryAccess (m : Master) (c : Crew) (a : Word) (op : MemOp) (ecc : Fin 3) (s : State) : Out :=
  .next (if s.busOpen m then s.memAccess m c.val (a.toNat / 4 * 4) op ecc.val else s)

/-- R438: an access to an address in no range of the map changes no memory and no register. -/
def execAccessFault (m : Master) (a : Word) (op : MemOp) (s : State) : Out :=
  .next (if !s.busOpen m || inPeriph a.toNat || (rangeOf a.toNat).isSome then s else s.accessFault m a.toNat op)

/-! ### The debugger (R297, R354) -/

/-- An access at any address. -/
def State.anyAccess (s : State) (m : Master) (a : Nat) (op : MemOp) : State :=
  if inPeriph a then
    match op with
    | .read => s.readAt m a
    | .write _ v => s.writeAt m a v
  else if (rangeOf a).isSome then s.memAccess m 0 a op 0
  else { s with bus := ⟨0, .accessFault⟩ }

/-- The port halts a pair: no checkpoint is taken, it reads UNPROTECTED, its blocks go to their safe states. -/
def State.dbgHalt (s : State) (n : Nat) : State :=
  if s.on DR_PSTATE_DEBUG n then s
  else
    let s1 := ((s.put DR_PSTATE_DEBUG 1 n).put DR_PSTATE_UNPROTECTED 1 n).updPair n (fun p => { p with storing := none })
    let s2 := s1.updBank (fun b => { b with adit := b.adit.map (fun a => { a with halted := if a.halted.contains n then a.halted else a.halted ++ [n] }) })
    (s2.disarm (.checkpoint n)).wdtFollow n |>.regateAll

/-- The port lets a pair run on: it reads UNPROTECTED until its next checkpoint, and its watchdog restarts (R412). -/
def State.dbgResume (s : State) (n : Nat) : State :=
  if s.on DR_PSTATE_DEBUG n then ((((s.put DR_PSTATE_DEBUG 0 n).arm (.checkpoint n) (100 * us)).wdtFollow n).regateAll).stopSpentPair n |>.coreIrq n 0 else s

/-- A single step of a halted pair: one instruction retires; where the program goes on is the base instruction set's, which the spec does not give. -/
def State.dbgStep (s : State) (n : Nat) : State :=
  if s.on DR_PSTATE_DEBUG n then
    let (w, s1) := s.free
    (s1.updCore n 0 (fun c => { c with regs := { c.regs with pc := w } })).updPair n (fun p => { p with retired := p.retired + 1 })
  else s

/-- Change the registers of a pair's main core. -/
def State.updRegs (s : State) (n : Nat) (f : CoreRegs → CoreRegs) : State := s.updCore n 0 (fun c => { c with regs := f c.regs })

/-- What a request does at the main core. -/
def State.dbg (s : State) (n : Pair) (op : DbgOp) : State :=
  let r := (s.pairU n.val).core0.regs
  match op with
  | .halt => s.dbgHalt n.val
  | .resume => s.dbgResume n.val
  | .step => s.dbgStep n.val
  | .readX k => s.busAnswer (r.getX k.val)
  | .writeX k v => s.updRegs n.val (fun r => r.setX k.val v)
  | .readF k => s.busAnswer r.f[k]
  | .writeF k v => s.updRegs n.val (fun r => { r with f := upd r.f k (fun _ => v) })
  | .readPc => s.busAnswer r.pc
  | .writePc v => s.updRegs n.val (fun r => { r with pc := v })
  | .readCsr k => s.busAnswer (if k.toNat = 0x344 then s.mip n.val 0 else r.csr k.toNat)
  | .writeCsr k v => (s.updRegs n.val (fun r => r.setCsr k.toNat v)).coreIrq n.val 0
  | .mem a op => if s.busOpen (.pair n) then s.anyAccess (.pair n) (a.toNat / 4 * 4) op else s

/-- The word of a request that the ingress log keeps. -/
def dbgWord : DbgOp → Word
  | .writeX _ v | .writeF _ v | .writePc v | .writeCsr _ v => v
  | .mem _ (.write _ v) => v
  | _ => 0

/-- R297: a request of the debugger to the main core of a pair in lock-step, while the port is open; an ingress input. -/
def execDebugRequest (n : Pair) (op : DbgOp) (s : State) : Out :=
  .next (if s.aditOpen && !s.isSplit n.val && s.pst n.val != pairOff && s.pst n.val != pairFailed then
    (s.ingress n.val inDebug (dbgWord op)).dbg n op
  else s)

end Sys2Proof.Machine
end

