-- ==== Sys2Proof/Machine/Dispatch.lean ====
section
/-! DEFINITION. The dispatch: one arm for each command, a direct call of its meaning. -/

namespace Sys2Proof.Machine

def exec (i : Instr) (s : State) : Host.Outcome State Fault Refusal :=
  match i with
  | .registerWrite m a v => Sys2Proof.Machine.execRegisterWrite m a v s
  | .addrUnmapped m a w => Sys2Proof.Machine.execAddrUnmapped m a w s
  | .accessFault m a op => Sys2Proof.Machine.execAccessFault m a op s
  | .latchingRead m a => Sys2Proof.Machine.execLatchingRead m a s
  | .reqArmed m b v => Sys2Proof.Machine.execReqArmed m b v s
  | .reqRunning m b v => Sys2Proof.Machine.execReqRunning m b v s
  | .reqStopped m b v => Sys2Proof.Machine.execReqStopped m b v s
  | .ownershipWrite m b v => Sys2Proof.Machine.execOwnershipWrite m b v s
  | .cellBindingWrite m b hi v => Sys2Proof.Machine.execCellBindingWrite m b hi v s
  | .runningExitAtValley b => Sys2Proof.Machine.execRunningExitAtValley b s
  | .angleWrap d => Sys2Proof.Machine.execAngleWrap d s
  | .trackerUpdate d t => Sys2Proof.Machine.execTrackerUpdate d t s
  | .domainSrcApply d => Sys2Proof.Machine.execDomainSrcApply d s
  | .coastTimeout d => Sys2Proof.Machine.execCoastTimeout d s
  | .uhlaSourceLoss d => Sys2Proof.Machine.execUhlaSourceLoss d s
  | .pickSourceTimeout d => Sys2Proof.Machine.execPickSourceTimeout d s
  | .slotFire k => Sys2Proof.Machine.execSlotFire k s
  | .evtctlWrite m k v => Sys2Proof.Machine.execEvtctlWrite m k v s
  | .evtangWrite m k v => Sys2Proof.Machine.execEvtangWrite m k v s
  | .frameBoundary => Sys2Proof.Machine.execFrameBoundary s
  | .fillerBoundary => Sys2Proof.Machine.execFillerBoundary s
  | .frameSourceSwitch => Sys2Proof.Machine.execFrameSourceSwitch s
  | .planGo m v => Sys2Proof.Machine.execPlanGo m v s
  | .overrun c b => Sys2Proof.Machine.execOverrun c b s
  | .floor n => Sys2Proof.Machine.execFloor n s
  | .invocationStart e => Sys2Proof.Machine.execInvocationStart e s
  | .budgetExh e waits fresh => Sys2Proof.Machine.execBudgetExh e waits fresh s
  | .illegalWord e => Sys2Proof.Machine.execIllegalWord e s
  | .acq e => Sys2Proof.Machine.execAcq e s
  | .mmx e => Sys2Proof.Machine.execMmx e s
  | .ang e => Sys2Proof.Machine.execAng e s
  | .scs e => Sys2Proof.Machine.execScs e s
  | .clk e => Sys2Proof.Machine.execClk e s
  | .prk e => Sys2Proof.Machine.execPrk e s
  | .ipk e => Sys2Proof.Machine.execIpk e s
  | .mac e => Sys2Proof.Machine.execMac e s
  | .msu e => Sys2Proof.Machine.execMsu e s
  | .satMove e => Sys2Proof.Machine.execSatMove e s
  | .satAccumulatorRead e => Sys2Proof.Machine.execSatAccumulatorRead e s
  | .satStore e => Sys2Proof.Machine.execSatStore e s
  | .lim e => Sys2Proof.Machine.execLim e s
  | .abs e => Sys2Proof.Machine.execAbs e s
  | .negate e => Sys2Proof.Machine.execNegate e s
  | .div e => Sys2Proof.Machine.execDiv e s
  | .sqt e => Sys2Proof.Machine.execSqt e s
  | .sqtMagnitude e => Sys2Proof.Machine.execSqtMagnitude e s
  | .pis e => Sys2Proof.Machine.execPis e s
  | .rsc e => Sys2Proof.Machine.execRsc e s
  | .outSlot e => Sys2Proof.Machine.execOutSlot e s
  | .outDomainInc e => Sys2Proof.Machine.execOutDomainInc e s
  | .outDomainStep e => Sys2Proof.Machine.execOutDomainStep e s
  | .duty e => Sys2Proof.Machine.execDuty e s
  | .evtEvent e => Sys2Proof.Machine.execEvtEvent e s
  | .evtSeamTrigger e => Sys2Proof.Machine.execEvtSeamTrigger e s
  | .evtMarker e => Sys2Proof.Machine.execEvtMarker e s
  | .xch e waits fresh => Sys2Proof.Machine.execXch e waits fresh s
  | .uhxRead e => Sys2Proof.Machine.execUhxRead e s
  | .uhxWrite e => Sys2Proof.Machine.execUhxWrite e s
  | .brf e => Sys2Proof.Machine.execBrf e s
  | .loop e => Sys2Proof.Machine.execLoop e s
  | .endRun e => Sys2Proof.Machine.execEndRun e s
  | .endDiscard e => Sys2Proof.Machine.execEndDiscard e s
  | .arbiterEvaluation c => Sys2Proof.Machine.execArbiterEvaluation c s
  | .arbctlWrite m c v => Sys2Proof.Machine.execArbctlWrite m c v s
  | .slicemapWrite m e hi v => Sys2Proof.Machine.execSlicemapWrite m e hi v s
  | .paramgo m e v => Sys2Proof.Machine.execParamgo m e v s
  | .paramWrite m e n v => Sys2Proof.Machine.execParamWrite m e n v s
  | .replatch m e v => Sys2Proof.Machine.execReplatch m e v s
  | .loadProgram m e v => Sys2Proof.Machine.execLoadProgram m e v s
  | .loadComplete e => Sys2Proof.Machine.execLoadComplete e s
  | .budgetWrite m e v => Sys2Proof.Machine.execBudgetWrite m e v s
  | .pairMismatch e cause => Sys2Proof.Machine.execPairMismatch e cause s
  | .resyncComplete e bad => Sys2Proof.Machine.execResyncComplete e bad s
  | .refenWrite m v => Sys2Proof.Machine.execRefenWrite m v s
  | .refrdy => Sys2Proof.Machine.execRefrdy s
  | .referenceFault => Sys2Proof.Machine.execReferenceFault s
  | .seqgo m q v => Sys2Proof.Machine.execSeqgo m q v s
  | .sequenceRunStart q => Sys2Proof.Machine.execSequenceRunStart q s
  | .dropped q => Sys2Proof.Machine.execDropped q s
  | .conversionEnd q codes => Sys2Proof.Machine.execConversionEnd q codes s
  | .windowPublish c j => Sys2Proof.Machine.execWindowPublish c j s
  | .mmReset m c v => Sys2Proof.Machine.execMmReset m c v s
  | .sinc3Output k y => Sys2Proof.Machine.execSinc3Output k y s
  | .sdmStuck k => Sys2Proof.Machine.execSdmStuck k s
  | .diagGo m v => Sys2Proof.Machine.execDiagGo m v s
  | .diagDone codes => Sys2Proof.Machine.execDiagDone codes s
  | .diagTimeout => Sys2Proof.Machine.execDiagTimeout s
  | .seqctlWrite m q v => Sys2Proof.Machine.execSeqctlWrite m q v s
  | .chctlWrite m c v => Sys2Proof.Machine.execChctlWrite m c v s
  | .canaryCrossing w hi => Sys2Proof.Machine.execCanaryCrossing w hi s
  | .wthrWrite m w v => Sys2Proof.Machine.execWthrWrite m w v s
  | .settlingEnd w => Sys2Proof.Machine.execSettlingEnd w s
  | .wctlWrite m w v => Sys2Proof.Machine.execWctlWrite m w v s
  | .latchClear m w v => Sys2Proof.Machine.execLatchClear m w v s
  | .rbfailWrite m w b v => Sys2Proof.Machine.execRbfailWrite m w b v s
  | .carrierValley g => Sys2Proof.Machine.execCarrierValley g s
  | .carrierPeak g => Sys2Proof.Machine.execCarrierPeak g s
  | .modulationEdge c => Sys2Proof.Machine.execModulationEdge c s
  | .turnOnDelayEnd c hi => Sys2Proof.Machine.execTurnOnDelayEnd c hi s
  | .grpCommit m g v => Sys2Proof.Machine.execGrpCommit m g v s
  | .carrierEnable m g v => Sys2Proof.Machine.execCarrierEnable m g v s
  | .dutyWrite m c v => Sys2Proof.Machine.execDutyWrite m c v s
  | .ovrWrite m c v => Sys2Proof.Machine.execOvrWrite m c v s
  | .safeWrite m c v => Sys2Proof.Machine.execSafeWrite m c v s
  | .syncLost g => Sys2Proof.Machine.execSyncLost g s
  | .pwmclkLost => Sys2Proof.Machine.execPwmclkLost s
  | .feedbackChange c hi level => Sys2Proof.Machine.execFeedbackChange c hi level s
  | .fbTimeout c hi => Sys2Proof.Machine.execFbTimeout c hi s
  | .blankingEnd c => Sys2Proof.Machine.execBlankingEnd c s
  | .dsLatch c => Sys2Proof.Machine.execDsLatch c s
  | .softStepEnd b => Sys2Proof.Machine.execSoftStepEnd b s
  | .clr m c v => Sys2Proof.Machine.execClr m c v s
  | .rampGo m r v => Sys2Proof.Machine.execRampGo m r v s
  | .rampStop m r v => Sys2Proof.Machine.execRampStop m r v s
  | .rampRelease m r v => Sys2Proof.Machine.execRampRelease m r v s
  | .rampCellWrite m r v => Sys2Proof.Machine.execRampCellWrite m r v s
  | .alignTimeout r => Sys2Proof.Machine.execAlignTimeout r s
  | .rampUpdate r => Sys2Proof.Machine.execRampUpdate r s
  | .assaySample x => Sys2Proof.Machine.execAssaySample x s
  | .zxLost x => Sys2Proof.Machine.execZxLost x s
  | .snap m v => Sys2Proof.Machine.execSnap m v s
  | .periodic => Sys2Proof.Machine.execPeriodic s
  | .saveReadback ok => Sys2Proof.Machine.execSaveReadback ok s
  | .assayStart => Sys2Proof.Machine.execAssayStart s
  | .clkLost => Sys2Proof.Machine.execClkLost s
  | .pulseStart o => Sys2Proof.Machine.execPulseStart o s
  | .s0Pulse n active => Sys2Proof.Machine.execS0Pulse n active s
  | .s0Check n => Sys2Proof.Machine.execS0Check n s
  | .xang n k w => Sys2Proof.Machine.execXang n k w s
  | .xyld n k w => Sys2Proof.Machine.execXyld n k w s
  | .xfwt n k w => Sys2Proof.Machine.execXfwt n k w s
  | .icpar n => Sys2Proof.Machine.execIcpar n s
  | .dualSampleResample g a b => Sys2Proof.Machine.execDualSampleResample g a b s
  | .checkpoint n => Sys2Proof.Machine.execCheckpoint n s
  | .checkpointComplete n cyc => Sys2Proof.Machine.execCheckpointComplete n cyc s
  | .journalEntry n a => Sys2Proof.Machine.execJournalEntry n a s
  | .pairFault n cause lane => Sys2Proof.Machine.execPairFault n cause lane s
  | .pairEnterFailed n => Sys2Proof.Machine.execPairEnterFailed n s
  | .takeoverStart n => Sys2Proof.Machine.execTakeoverStart n s
  | .recoveryComplete n o => Sys2Proof.Machine.execRecoveryComplete n o s
  | .comparatorTestComplete n fail march => Sys2Proof.Machine.execComparatorTestComplete n fail march s
  | .testWindowOpen n => Sys2Proof.Machine.execTestWindowOpen n s
  | .modereqTest m n v => Sys2Proof.Machine.execModereqTest m n v s
  | .modereqSplit m n v => Sys2Proof.Machine.execModereqSplit m n v s
  | .modereqService m n v => Sys2Proof.Machine.execModereqService m n v s
  | .modereqSpare m n v => Sys2Proof.Machine.execModereqSpare m n v s
  | .join m n v => Sys2Proof.Machine.execJoin m n v s
  | .joinApply n => Sys2Proof.Machine.execJoinApply n s
  | .ownrgnWrite m n j v => Sys2Proof.Machine.execOwnrgnWrite m n j v s
  | .clrmax m n v => Sys2Proof.Machine.execClrmax m n v s
  | .debugRequest n op => Sys2Proof.Machine.execDebugRequest n op s
  | .claim m n => Sys2Proof.Machine.execClaim m n s
  | .completeSource m n v => Sys2Proof.Machine.execCompleteSource m n v s
  | .pendClear m n j v => Sys2Proof.Machine.execPendClear m n j v s
  | .srccfgWrite m src v => Sys2Proof.Machine.execSrccfgWrite m src v s
  | .flush m g v => Sys2Proof.Machine.execFlush m g v s
  | .gcfgWrite m g v => Sys2Proof.Machine.execGcfgWrite m g v s
  | .coalesceTimeout g => Sys2Proof.Machine.execCoalesceTimeout g s
  | .monitorSample a b c frac node krb brb halves => Sys2Proof.Machine.execMonitorSample a b c frac node krb brb halves s
  | .foremanWindowDemand w f => Sys2Proof.Machine.execForemanWindowDemand w f s
  | .fsafenWrite m v => Sys2Proof.Machine.execFsafenWrite m v s
  | .safenExpired => Sys2Proof.Machine.execSafenExpired s
  | .fcmdWrite m v => Sys2Proof.Machine.execFcmdWrite m v s
  | .fclr m v => Sys2Proof.Machine.execFclr m v s
  | .btestReq m n v => Sys2Proof.Machine.execBtestReq m n v s
  | .brakeTestReengage n => Sys2Proof.Machine.execBrakeTestReengage n s
  | .brakeTestPass n => Sys2Proof.Machine.execBrakeTestPass n s
  | .btFail n => Sys2Proof.Machine.execBtFail n s
  | .btDue n hours => Sys2Proof.Machine.execBtDue n hours s
  | .offPulseStart k off => Sys2Proof.Machine.execOffPulseStart k off s
  | .offPulseEnd k on => Sys2Proof.Machine.execOffPulseEnd k on s
  | .mirFail k closed => Sys2Proof.Machine.execMirFail k closed s
  | .sealRead v => Sys2Proof.Machine.execSealRead v s
  | .foremanSelfTest monitors windows store => Sys2Proof.Machine.execForemanSelfTest monitors windows store s
  | .clockCheck rc canary crystal => Sys2Proof.Machine.execClockCheck rc canary crystal s
  | .foremanParamTakeEffect => Sys2Proof.Machine.execForemanParamTakeEffect s
  | .secureBoot => Sys2Proof.Machine.execSecureBoot s
  | .returnEntryComplete => Sys2Proof.Machine.execReturnEntryComplete s
  | .lcFuseProgrammed => Sys2Proof.Machine.execLcFuseProgrammed s
  | .meshCheck ok => Sys2Proof.Machine.execMeshCheck ok s
  | .voltageGlitch => Sys2Proof.Machine.execVoltageGlitch s
  | .clockGlitch => Sys2Proof.Machine.execClockGlitch s
  | .temperatureEvent => Sys2Proof.Machine.execTemperatureEvent s
  | .zeroisationComplete => Sys2Proof.Machine.execZeroisationComplete s
  | .aditSessionEnd => Sys2Proof.Machine.execAditSessionEnd s
  | .idcode => Sys2Proof.Machine.execIdcode s
  | .bypass => Sys2Proof.Machine.execBypass s
  | .samplePreload => Sys2Proof.Machine.execSamplePreload s
  | .extest => Sys2Proof.Machine.execExtest s
  | .aditResetRequest => Sys2Proof.Machine.execAditResetRequest s
  | .mailboxClaim m b v => Sys2Proof.Machine.execMailboxClaim m b v s
  | .mailboxGo m b v => Sys2Proof.Machine.execMailboxGo m b v s
  | .mailboxRelease m b v => Sys2Proof.Machine.execMailboxRelease m b v s
  | .envelopeStart => Sys2Proof.Machine.execEnvelopeStart s
  | .verdictRelease => Sys2Proof.Machine.execVerdictRelease s
  | .applicationReplyRelease => Sys2Proof.Machine.execApplicationReplyRelease s
  | .readItem => Sys2Proof.Machine.execReadItem s
  | .setEntries => Sys2Proof.Machine.execSetEntries s
  | .limits => Sys2Proof.Machine.execLimits s
  | .islSchedule => Sys2Proof.Machine.execIslSchedule s
  | .assaySet => Sys2Proof.Machine.execAssaySet s
  | .assayAck => Sys2Proof.Machine.execAssayAck s
  | .counterClear => Sys2Proof.Machine.execCounterClear s
  | .certRevoke => Sys2Proof.Machine.execCertRevoke s
  | .groupSet => Sys2Proof.Machine.execGroupSet s
  | .enrol => Sys2Proof.Machine.execEnrol s
  | .revoke => Sys2Proof.Machine.execRevoke s
  | .generate => Sys2Proof.Machine.execGenerate s
  | .importKey => Sys2Proof.Machine.execImportKey s
  | .sealAck => Sys2Proof.Machine.execSealAck s
  | .tamperAck => Sys2Proof.Machine.execTamperAck s
  | .aditOpen => Sys2Proof.Machine.execAditOpen s
  | .aditClose => Sys2Proof.Machine.execAditClose s
  | .image => Sys2Proof.Machine.execImage s
  | .imageReplyRelease changed => Sys2Proof.Machine.execImageReplyRelease changed s
  | .activate => Sys2Proof.Machine.execActivate s
  | .lcAdvance => Sys2Proof.Machine.execLcAdvance s
  | .exportRecords => Sys2Proof.Machine.execExportRecords s
  | .sign b => Sys2Proof.Machine.execSign b s
  | .ecdh b => Sys2Proof.Machine.execEcdh b s
  | .encrypt b => Sys2Proof.Machine.execEncrypt b s
  | .decrypt b => Sys2Proof.Machine.execDecrypt b s
  | .hmac b => Sys2Proof.Machine.execHmac b s
  | .random b => Sys2Proof.Machine.execRandom b s
  | .counter b => Sys2Proof.Machine.execCounter b s
  | .highWaterMarkWrite k => Sys2Proof.Machine.execHighWaterMarkWrite k s
  | .synthEnable m n v => Sys2Proof.Machine.execSynthEnable m n v s
  | .synthLocked n => Sys2Proof.Machine.execSynthLocked n s
  | .fmonErr n => Sys2Proof.Machine.execFmonErr n s
  | .refLost => Sys2Proof.Machine.execRefLost s
  | .refSourceWrite m v => Sys2Proof.Machine.execRefSourceWrite m v s
  | .spreadWrite m n v => Sys2Proof.Machine.execSpreadWrite m n v s
  | .winderRampGo m v => Sys2Proof.Machine.execWinderRampGo m v s
  | .winderRampStop m v => Sys2Proof.Machine.execWinderRampStop m v s
  | .winderRampUpdate => Sys2Proof.Machine.execWinderRampUpdate s
  | .realignComplete => Sys2Proof.Machine.execRealignComplete s
  | .pwrctlReqNight m v => Sys2Proof.Machine.execPwrctlReqNight m v s
  | .pwrctlReqPark m v => Sys2Proof.Machine.execPwrctlReqPark m v s
  | .pwrctlReqRun m v => Sys2Proof.Machine.execPwrctlReqRun m v s
  | .powerStateChange => Sys2Proof.Machine.execPowerStateChange s
  | .wakeClock => Sys2Proof.Machine.execWakeClock s
  | .wakeGrid => Sys2Proof.Machine.execWakeGrid s
  | .vauxValid => Sys2Proof.Machine.execVauxValid s
  | .brownout => Sys2Proof.Machine.execBrownout s
  | .railFault r => Sys2Proof.Machine.execRailFault r s
  | .resetN => Sys2Proof.Machine.execResetN s
  | .rstctlDeviceWarm m v => Sys2Proof.Machine.execRstctlDeviceWarm m v s
  | .rstctlPairWarm m v => Sys2Proof.Machine.execRstctlPairWarm m v s
  | .wdtkick m n v => Sys2Proof.Machine.execWdtkick m n v s
  | .warned n => Sys2Proof.Machine.execWarned n s
  | .watchdogTimeout n => Sys2Proof.Machine.execWatchdogTimeout n s
  | .banksmanLockstepFault => Sys2Proof.Machine.execBanksmanLockstepFault s
  | .rstrelWrite m v => Sys2Proof.Machine.execRstrelWrite m v s
  | .pendingRelease => Sys2Proof.Machine.execPendingRelease s
  | .optionLoadComplete => Sys2Proof.Machine.execOptionLoadComplete s
  | .padRelease m v => Sys2Proof.Machine.execPadRelease m v s
  | .lampPowerLoss => Sys2Proof.Machine.execLampPowerLoss s
  | .lampStart present lstart => Sys2Proof.Machine.execLampStart present lstart s
  | .gaugeUpdate v => Sys2Proof.Machine.execGaugeUpdate v s
  | .capMeasureComplete t overlap => Sys2Proof.Machine.execCapMeasureComplete t overlap s
  | .harvestOcvSample v => Sys2Proof.Machine.execHarvestOcvSample v s
  | .grantComplete c => Sys2Proof.Machine.execGrantComplete c s
  | .grantRetry => Sys2Proof.Machine.execGrantRetry s
  | .burstFlush t => Sys2Proof.Machine.execBurstFlush t s
  | .strput m t v => Sys2Proof.Machine.execStrput m t v s
  | .fireTrigger m n v => Sys2Proof.Machine.execFireTrigger m n v s
  | .captureHeld n => Sys2Proof.Machine.execCaptureHeld n s
  | .captureRelease m n v => Sys2Proof.Machine.execCaptureRelease m n v s
  | .drainGo m d v => Sys2Proof.Machine.execDrainGo m d v s
  | .drainStop m d v => Sys2Proof.Machine.execDrainStop m d v s
  | .drainDone d => Sys2Proof.Machine.execDrainDone d s
  | .drainOverrun d => Sys2Proof.Machine.execDrainOverrun d s
  | .sramScrub k ecc => Sys2Proof.Machine.execSramScrub k ecc s
  | .uhlaEnable m v => Sys2Proof.Machine.execUhlaEnable m v s
  | .portUp p => Sys2Proof.Machine.execPortUp p s
  | .portDown p gid => Sys2Proof.Machine.execPortDown p gid s
  | .superframeOriginate => Sys2Proof.Machine.execSuperframeOriginate s
  | .superframeReceive p sub f => Sys2Proof.Machine.execSuperframeReceive p sub f s
  | .linkDelayMeasure p d => Sys2Proof.Machine.execLinkDelayMeasure p d s
  | .masterLoss => Sys2Proof.Machine.execMasterLoss s
  | .reqm => Sys2Proof.Machine.execReqm s
  | .tripRepeat => Sys2Proof.Machine.execTripRepeat s
  | .tripBlockReceive p origin tseq mask gid crcOk => Sys2Proof.Machine.execTripBlockReceive p origin tseq mask gid crcOk s
  | .utripgo m v => Sys2Proof.Machine.execUtripgo m v s
  | .utripClear m v => Sys2Proof.Machine.execUtripClear m v s
  | .usvput m v w => Sys2Proof.Machine.execUsvput m v w s
  | .usvcfgWrite m v w => Sys2Proof.Machine.execUsvcfgWrite m v w s
  | .ethFrameReceive p f fcsOk listed fifth taken => Sys2Proof.Machine.execEthFrameReceive p f fcsOk listed fifth taken s
  | .ethFrameTransmit p posts => Sys2Proof.Machine.execEthFrameTransmit p posts s
  | .ptpstep m v => Sys2Proof.Machine.execPtpstep m v s
  | .ptpTarget => Sys2Proof.Machine.execPtpTarget s
  | .ptpLock m v => Sys2Proof.Machine.execPtpLock m v s
  | .ptpTrustLost => Sys2Proof.Machine.execPtpTrustLost s
  | .canFrameReceive n buf f accepted => Sys2Proof.Machine.execCanFrameReceive n buf f accepted s
  | .canFrameTransmit n buf f => Sys2Proof.Machine.execCanFrameTransmit n buf f s
  | .uartReceive n c modbus taken => Sys2Proof.Machine.execUartReceive n c modbus taken s
  | .modbusFrameEnd n gap => Sys2Proof.Machine.execModbusFrameEnd n gap s
  | .spiTransfer n len rx tx => Sys2Proof.Machine.execSpiTransfer n len rx tx s
  | .i2cTransfer n l => Sys2Proof.Machine.execI2cTransfer n l s
  | .gpioEvent g level => Sys2Proof.Machine.execGpioEvent g level s
  | .canaryStateDeassert w hi => Sys2Proof.Machine.execCanaryStateDeassert w hi s
  | .dsatLevelChange c level => Sys2Proof.Machine.execDsatLevelChange c level s
  | .peakDwellEnd g => Sys2Proof.Machine.execPeakDwellEnd g s
  | .splitCoreUncorrectableTcm n k => Sys2Proof.Machine.execSplitCoreUncorrectableTcm n k s
  | .memoryAccess m c a op ecc => Sys2Proof.Machine.execMemoryAccess m c a op ecc s
  | .railsWithinLimits => Sys2Proof.Machine.execRailsWithinLimits s
  | .lampClockSet => Sys2Proof.Machine.execLampClockSet s
  | .chargeTargetReached => Sys2Proof.Machine.execChargeTargetReached s
  | .harvestPathSelect vstore hvin => Sys2Proof.Machine.execHarvestPathSelect vstore hvin s
  | .portRetrain p => Sys2Proof.Machine.execPortRetrain p s
  | .ethLinkChange p up => Sys2Proof.Machine.execEthLinkChange p up s
  | .uartTransmitDone n l modbus err => Sys2Proof.Machine.execUartTransmitDone n l modbus err s
  | .canErrorStateChange n st => Sys2Proof.Machine.execCanErrorStateChange n st s
  | .itotonProductionTest => Sys2Proof.Machine.execItotonProductionTest s

end Sys2Proof.Machine
end

