-- ==== Sys2Proof/Safety.lean ====
section
/-! DEFINITION. What claims about runs are stated in: the form that every state keeps, and the outputs that are off. -/

namespace Sys2Proof.Machine

/-- The canonical form of the state's tables (registers, latches, memory). -/
def State.wf (s : State) : Bool := regsWf s.regs && s.memWf

/-- Both outputs of a cell's channel are off at the output gate (R14, R172). -/
def State.cellOff (s : State) (c : Nat) : Bool := !(s.chan c).hi.pin && !(s.chan c).lo.pin

/-- Every cell of a block is off. -/
def State.blockOff (s : State) (b : Nat) : Bool := (s.cellsOf b).all s.cellOff

/-- Whether R19 lets a master change a cell's registers: a cell bound to no block has no owner. -/
def State.mayWriteCell (s : State) (m : Master) (c : Nat) : Bool :=
  match s.blockOf c with
  | some b => s.mayWriteBlock m b
  | none => true

/-- The registers of the shadow plan, which take a write field by field (R51, R56). -/
def planRegs : List RegId :=
  [.SP_CREWCTL, .SP_GRANTA0, .SP_GRANTA1, .SP_GRANTA2, .SP_GRANTB0, .SP_GRANTB1, .SP_GRANTB2, .SP_MAP0, .SP_MAP1]

/-- A source goes to a slice that exists (R302). -/
def State.routed (s : State) (src : Nat) : Bool := decide (s.get IC_SRCCFG_TARGET src ≤ 16)

/-- A source is pending in its slice (R301). -/
def State.raised (s : State) (src : Nat) : Bool := s.isPending (s.get IC_SRCCFG_TARGET src) src

/-- The running invocation of an engine; `v` where none runs. -/
def State.invOf (s : State) (e : Nat) (v : Inv) : Inv := (s.eng e).run.getD v

/-- What an instruction that writes one register leaves (R91): Gd is `x`, N and Z follow it, SAT and DZ are set where `sat` and `dz` hold, and every
other register, flag, accumulator, data word and operating-point word is as it was. -/
def Inv.onlyWrote (v u : Inv) (d : Nat) (x : Int) (sat dz : Bool) : Bool :=
  decide (u.gs d = x) && (List.range 16).all (fun k => k == d || decide (u.gs k = v.gs k)) && u.n == decide (x < 0) && u.z == decide (x = 0)
    && u.sat == (v.sat || sat) && u.dz == (v.dz || dz) && u.nr == v.nr && u.a0 == v.a0 && u.a1 == v.a1 && u.data == v.data
    && u.opv0 == v.opv0 && u.opv1 == v.opv1 && u.region == v.region && u.angs == v.angs && u.cls == v.cls && u.merged == v.merged

/-- The fields of ARBCTL that route a cell's output (R76). -/
def arbRouteMask : Word := PK_ARBCTL_FMT.mask ||| PK_ARBCTL_DEST.mask ||| PK_ARBCTL_DESTCELL.mask ||| PK_ARBCTL_DESTSLOT.mask

/-! ### Parts of the state

What a command leaves unchanged is said part by part: a register with all its copies, memory, time, or the state of one unit. -/

/-- A part of the state. The queue of commands is no part: no command touches it. -/
inductive Part where
  | reg (r : RegId)
  | fresh | latched | mem | timers | bus | freeIdx | now | head | plan | drift | intc | seam | power | pick | sense | fm | lamp | assay | bank | uhla
  | winder | supply | host
deriving DecidableEq, Repr

/-- A part is the same in two states: every copy of the register reads the same, every byte of memory reads the same, the unit's state is equal. -/
def Part.same (p : Part) (s t : State) : Prop :=
  match p with
  | .reg r => ∀ i j, r.has i j = true → t.rdw r i j = s.rdw r i j
  | .mem => ∀ a, t.byte a = s.byte a
  | .fresh => t.fresh = s.fresh
  | .latched => t.latched = s.latched
  | .timers => t.timers = s.timers
  | .bus => t.bus = s.bus
  | .freeIdx => t.freeIdx = s.freeIdx
  | .now => t.now = s.now
  | .head => t.head = s.head
  | .plan => t.plan = s.plan
  | .drift => t.drift = s.drift
  | .intc => t.intc = s.intc
  | .seam => t.seam = s.seam
  | .power => t.power = s.power
  | .pick => t.pick = s.pick
  | .sense => t.sense = s.sense
  | .fm => t.fm = s.fm
  | .lamp => t.lamp = s.lamp
  | .assay => t.assay = s.assay
  | .bank => t.bank = s.bank
  | .uhla => t.uhla = s.uhla
  | .winder => t.winder = s.winder
  | .supply => t.supply = s.supply
  | .host => t.host = s.host

/-- Every part. -/
def Part.all : List Part :=
  RegId.all.map .reg ++ [.fresh, .latched, .mem, .timers, .bus, .freeIdx, .now, .head, .plan, .drift, .intc, .seam, .power, .pick, .sense, .fm, .lamp,
    .assay, .bank, .uhla, .winder, .supply, .host]

/-! ### What each command may change

The parts of the state that a command may write; each command leaves every other part as it is. A command that can reset a domain, or that reaches
any register by its address, may change every part. -/

/-- Applying an Exvia envelope (R369). -/
def exviaParts : List Part :=
  [.fresh, .latched, .mem, .timers, .freeIdx, .plan, .drift, .intc, .power, .pick, .fm, .lamp, .assay, .bank, .supply, .reg .PW_CHSTAT,
   .reg .CG_PSTAT, .reg .AS_ASTAT, .reg .AS_LOSS, .reg .AS_WCFG, .reg .AS_EWIN, .reg .AS_WRAPS, .reg .AS_S0CTL, .reg .AS_S0WGT, .reg .AS_S0TOL,
   .reg .AS_TPOCTL, .reg .AS_TPOCONST, .reg .DR_DSTAT, .reg .DR_PCTL, .reg .DR_PSTATE, .reg .DR_PFAULT, .reg .DR_PSTAMP, .reg .DR_PCOUNT,
   .reg .DR_PLOG, .reg .DR_OWNRGN, .reg .IC_SSTAT, .reg .IC_PEND, .reg .IC_GSTAT, .reg .FM_FSTAT, .reg .FM_SEAL, .reg .BK_BKSTAT, .reg .BK_SLOTMAP0,
   .reg .BK_SLOTMAP1, .reg .BK_TAMPSTAT, .reg .BK_TAMPCNT, .reg .BK_ADITSTAT, .reg .EX_EXSTAT, .reg .EX_EXCNT, .reg .EX_ARBSTEP0, .reg .EX_ARBSTEP1,
   .reg .EX_CFGVAL, .reg .EX_CFGMIN, .reg .EX_CFGMAX, .reg .EX_CFGSRC, .reg .RS_RSTSTAT, .reg .RS_RSTCNT, .reg .RS_RSTTOT, .reg .RS_WDTCTL,
   .reg .RS_WDTKICK, .reg .LA_LSTAT, .reg .LA_GHELD]

/-- Raising an interrupt source (R301, R308), with the wait it can end (R274). -/
def raiseParts : List Part :=
  [.fresh, .timers, .drift, .intc, .reg .DR_PLOG, .reg .IC_SSTAT, .reg .IC_PEND, .reg .IC_GSTAT]

/-- Admitting a seam record, with the budget of its crew (R443 to R448, R53). -/
def seamParts : List Part :=
  [.fresh, .mem, .timers, .freeIdx, .drift, .intc, .seam, .reg .SP_OVERRUN0, .reg .SP_OVERRUN1, .reg .SP_REMAIN0, .reg .SP_REMAIN1,
   .reg .SP_REMAIN2, .reg .SP_CREWSTAT, .reg .DR_PLOG, .reg .IC_SSTAT, .reg .IC_PEND, .reg .IC_GSTAT, .reg .SE_SSTAT, .reg .SE_STRSTAT,
   .reg .SE_STRDROP, .reg .SE_CAPEND, .reg .SE_CAPSTAT]

/-- A timed event: time moves to its deadline (R33, R46). -/
def onTimerParts : List Part :=
  [.fresh, .timers, .now, .head, .plan, .drift, .reg .HF_TURN, .reg .SP_REMAIN0]

/-- A latch of the second safety function and the trip of its blocks (R21, R316). -/
def sf2Parts : List Part :=
  [.fresh, .timers, .head, .plan, .drift, .intc, .power, .fm, .uhla, .reg .BLK_BLKCTL, .reg .HF_DOMSTAT, .reg .SP_STAT, .reg .SP_CNT,
   .reg .PW_CHSTAT, .reg .CG_PSTAT, .reg .CG_BSTAT, .reg .RG_RSTAT, .reg .DR_PLOG, .reg .IC_SSTAT, .reg .IC_PEND, .reg .IC_GSTAT, .reg .FM_FSTAT,
   .reg .FM_FSTAMP]

/-- The output gates of a block (R172). -/
def gateParts : List Part :=
  [.fresh, .timers, .power, .reg .PW_CHSTAT, .reg .CG_PSTAT]

/-- A step of a domain's angle and the slots it passes (R37, R42, R43). -/
def stepParts : List Part :=
  [.fresh, .latched, .mem, .timers, .bus, .freeIdx, .now, .head, .plan, .drift, .intc, .seam, .power, .pick, .fm, .lamp, .assay, .bank, .supply,
   .reg .HF_TURN, .reg .EV_EVTCTL, .reg .EV_EVTSTAT, .reg .SP_STAT, .reg .SP_CNT, .reg .SP_COMMIT, .reg .SP_OVERRUN0, .reg .SP_OVERRUN1,
   .reg .SP_REMAIN0, .reg .SP_REMAIN1, .reg .SP_REMAIN2, .reg .SP_CREWSTAT, .reg .PK_LATE, .reg .SN_SEQSTAT, .reg .PW_CHSTAT, .reg .CG_PSTAT,
   .reg .AS_ASTAT, .reg .AS_LOSS, .reg .AS_WCFG, .reg .AS_RES, .reg .AS_WNUM, .reg .AS_EWIN, .reg .AS_WRAPS, .reg .AS_S0CTL, .reg .AS_S0WGT,
   .reg .AS_S0TOL, .reg .AS_TPOCTL, .reg .AS_TPOCONST, .reg .DR_DSTAT, .reg .DR_PCTL, .reg .DR_PSTATE, .reg .DR_PFAULT, .reg .DR_PSTAMP,
   .reg .DR_PCOUNT, .reg .DR_PLOG, .reg .DR_OWNRGN, .reg .IC_SSTAT, .reg .IC_PEND, .reg .IC_GSTAT, .reg .FM_FSTAT, .reg .FM_SEAL, .reg .BK_BKSTAT,
   .reg .BK_SLOTMAP0, .reg .BK_SLOTMAP1, .reg .BK_TAMPSTAT, .reg .BK_TAMPCNT, .reg .BK_ADITSTAT, .reg .EX_EXSTAT, .reg .EX_EXCNT, .reg .EX_ARBSTEP0,
   .reg .EX_ARBSTEP1, .reg .EX_CFGVAL, .reg .EX_CFGMIN, .reg .EX_CFGMAX, .reg .EX_CFGSRC, .reg .RS_RSTSTAT, .reg .RS_RSTCNT, .reg .RS_RSTTOT,
   .reg .RS_WDTCTL, .reg .RS_WDTKICK, .reg .LA_LSTAT, .reg .LA_GHELD, .reg .SE_SSTAT, .reg .SE_MEMSTAT, .reg .SE_MEMERRA, .reg .SE_STRSTAT,
   .reg .SE_STRDROP, .reg .SE_CAPSTART, .reg .SE_CAPEND, .reg .SE_CAPSTAT]

/-- A write to a pair's control register (R289, R295). -/
def pairCtlParts : List Part :=
  [.fresh, .timers, .drift, .fm, .reg .DR_DSTAT, .reg .DR_PCTL, .reg .DR_PSTATE, .reg .FM_FSTAT]

/-- A read by a master: what it latches, what it logs, and the status of an unmapped one (R4, R279, R503). -/
def readParts : List Part :=
  [.fresh, .latched, .bus, .freeIdx, .drift, .intc, .reg .BLK_BLKCTL, .reg .HF_DOMSTAT, .reg .SP_STAT, .reg .PK_PSTAT, .reg .SN_CTL,
   .reg .CN_CSTAT, .reg .PW_GSTAT, .reg .CG_CGSTAT, .reg .AS_ASTAT, .reg .DR_DSTAT, .reg .DR_PLOG, .reg .IC_PEND, .reg .FM_FCAUSE, .reg .EX_EXSTAT,
   .reg .WI_WSTAT, .reg .PR_PWRSTAT, .reg .RS_RSTSTAT, .reg .LA_LSTAT, .reg .SE_SSTAT, .reg .UH_USTAT]

/-- A domain that goes on at its mean increment (R40). -/
def coastParts : List Part :=
  [.fresh, .timers, .head, .plan, .reg .HF_DOMSTAT, .reg .SP_STAT, .reg .SP_CNT]

/-- A charge of a crew's budget (R50, R53). -/
def chargeParts : List Part :=
  [.fresh, .timers, .drift, .intc, .reg .SP_OVERRUN0, .reg .SP_OVERRUN1, .reg .SP_REMAIN0, .reg .SP_REMAIN1, .reg .SP_REMAIN2, .reg .SP_CREWSTAT,
   .reg .DR_PLOG, .reg .IC_SSTAT, .reg .IC_PEND, .reg .IC_GSTAT]

/-- The reply of a local operation (R378). -/
def replyParts : List Part :=
  [.fresh, .timers, .freeIdx, .drift, .intc, .reg .DR_PLOG, .reg .IC_SSTAT, .reg .IC_PEND, .reg .IC_GSTAT, .reg .EX_MBSTAT, .reg .EX_MBLEN,
   .reg .EX_MBDATA]

/-- A valley of a carrier (R156 to R168). -/
def valleyParts : List Part :=
  [.fresh, .timers, .now, .head, .plan, .drift, .intc, .power, .pick, .sense, .uhla, .reg .BLK_BLKCTL, .reg .HF_DOMSTAT, .reg .HF_TURN,
   .reg .SP_STAT, .reg .SP_CNT, .reg .SP_REMAIN0, .reg .PK_LATE, .reg .SN_SEQSTAT, .reg .CN_WSTAT, .reg .PW_GRPCOMMIT, .reg .PW_GRPSTAT,
   .reg .PW_GRPACT, .reg .PW_ACTCMP, .reg .PW_CHSTAT, .reg .CG_PSTAT, .reg .RG_RSTAT, .reg .DR_PLOG, .reg .IC_SSTAT, .reg .IC_PEND, .reg .IC_GSTAT]

/-- What the Banksman shows (R356). -/
def bankParts : List Part :=
  [.fresh, .bank, .reg .BK_BKSTAT, .reg .BK_SLOTMAP0, .reg .BK_SLOTMAP1, .reg .BK_TAMPSTAT, .reg .BK_TAMPCNT, .reg .EX_EXSTAT, .reg .EX_ARBSTEP0,
   .reg .EX_ARBSTEP1]

/-- The closure of an Adit session (R355). -/
def aditParts : List Part :=
  [.fresh, .latched, .mem, .timers, .freeIdx, .plan, .drift, .power, .fm, .bank, .reg .PW_CHSTAT, .reg .CG_PSTAT, .reg .DR_DSTAT, .reg .DR_PCTL,
   .reg .DR_PSTATE, .reg .DR_PFAULT, .reg .DR_PSTAMP, .reg .DR_PCOUNT, .reg .DR_PLOG, .reg .DR_OWNRGN, .reg .FM_FSTAT, .reg .BK_ADITSTAT,
   .reg .RS_RSTSTAT, .reg .RS_RSTTOT, .reg .RS_WDTCTL, .reg .RS_WDTKICK]

/-- A sample of the Assay (R244 to R256). -/
def assayParts : List Part :=
  [.fresh, .mem, .timers, .freeIdx, .drift, .intc, .seam, .lamp, .assay, .reg .SP_OVERRUN0, .reg .SP_OVERRUN1, .reg .SP_REMAIN0, .reg .SP_REMAIN1,
   .reg .SP_REMAIN2, .reg .SP_CREWSTAT, .reg .AS_ASTAT, .reg .AS_SNAPNUM, .reg .AS_SAVESTAT, .reg .AS_MCFG, .reg .AS_SAVEINT, .reg .AS_PMAX,
   .reg .AS_PCONST, .reg .AS_ZXCFG, .reg .AS_CHGAIN, .reg .AS_CHOFS, .reg .AS_PHDLY, .reg .AS_QGAIN, .reg .AS_QOFS, .reg .AS_RES, .reg .AS_WNUM,
   .reg .AS_EMLO, .reg .AS_EMHI, .reg .AS_EWIN, .reg .AS_WRAPS, .reg .AS_TPOSTAT, .reg .AS_PSTAT, .reg .DR_PLOG, .reg .IC_SSTAT, .reg .IC_PEND,
   .reg .IC_GSTAT, .reg .SE_SSTAT, .reg .SE_STRSTAT, .reg .SE_STRDROP, .reg .SE_CAPEND, .reg .SE_CAPSTAT, .reg .AS_SNAPIMG]

/-- The parts of the state that a command may change. -/
def mayChange (c : Instr) : List Part :=
  match c with
  | .registerWrite _ _ _ => Part.all
  | .addrUnmapped _ _ _ => Part.all
  | .accessFault _ _ _ => [.fresh, .bus, .drift, .reg .DR_PLOG]
  | .latchingRead _ _ => readParts
  | .reqArmed _ _ _ => [Part.pick, .reg .BLK_BLKCTL, .reg .RG_RSTAT] ++ raiseParts ++ coastParts ++ gateParts
  | .reqRunning _ _ _ => [Part.pick, .reg .BLK_BLKCTL, .reg .RG_RSTAT] ++ raiseParts ++ coastParts ++ gateParts
  | .reqStopped _ _ _ => [Part.pick, .reg .BLK_BLKCTL, .reg .RG_RSTAT] ++ raiseParts ++ coastParts ++ gateParts
  | .ownershipWrite _ _ _ => [Part.pick, .reg .BLK_BLKCTL, .reg .RG_RSTAT] ++ raiseParts ++ coastParts ++ gateParts
  | .cellBindingWrite _ _ _ _ =>
    [Part.reg .BLK_BLKCELLS0, .reg .BLK_BLKCELLS1, .reg .PW_ACTCMP, .reg .CG_CGSTAT, .reg .FM_FCAUSE] ++ sf2Parts ++ seamParts
  | .runningExitAtValley _ => valleyParts
  | .angleWrap _ => [.fresh, .now, .head, .plan, .drift, .reg .HF_TURN, .reg .SP_REMAIN0]
  | .trackerUpdate _ _ =>
    [Part.sense, .reg .HF_DOMSTAT, .reg .HF_FREQ, .reg .HF_ROCOF, .reg .HF_PMAG, .reg .HF_NMAG, .reg .HF_NANG, .reg .HF_JUMPANG, .reg .HF_INC,
     .reg .SN_SLGAP] ++ stepParts
  | .domainSrcApply _ => [Part.reg .HF_INC] ++ coastParts
  | .coastTimeout _ => onTimerParts ++ coastParts
  | .uhlaSourceLoss _ => onTimerParts ++ coastParts
  | .pickSourceTimeout _ => onTimerParts ++ coastParts
  | .slotFire _ =>
    [Part.pick, .assay, .reg .EV_EVTCTL, .reg .EV_EVTSTAT, .reg .PK_LATE, .reg .SN_SEQSTAT, .reg .AS_ASTAT, .reg .AS_RES, .reg .AS_WNUM,
     .reg .SE_CAPSTART] ++ seamParts ++ onTimerParts
  | .evtctlWrite _ _ _ => [.fresh, .head, .drift, .reg .HF_DOMSTAT, .reg .EV_EVTCTL]
  | .evtangWrite _ _ _ => [.head, .drift, .reg .EV_EVTANG]
  | .frameBoundary =>
    [Part.bus, .reg .SP_STAT, .reg .SP_CNT, .reg .SP_COMMIT, .reg .SE_MEMSTAT, .reg .SE_MEMERRA] ++ exviaParts ++ seamParts ++ onTimerParts
  | .fillerBoundary => [Part.bus, .reg .SP_CNT, .reg .SP_COMMIT, .reg .SE_MEMSTAT, .reg .SE_MEMERRA] ++ exviaParts ++ seamParts ++ onTimerParts
  | .frameSourceSwitch =>
    [Part.bus, .reg .SP_STAT, .reg .SP_CNT, .reg .SP_COMMIT, .reg .SE_MEMSTAT, .reg .SE_MEMERRA] ++ exviaParts ++ seamParts ++ onTimerParts
  | .planGo _ _ => [Part.reg .SP_COMMIT] ++ raiseParts
  | .overrun _ _ => chargeParts
  | .floor _ => [Part.reg .SP_OVERRUN0, .reg .SP_OVERRUN1, .reg .SP_CREWSTAT] ++ raiseParts
  | .invocationStart _ => [.fresh, .pick, .reg .PK_PSTAT, .reg .PK_ICOUNT, .reg .PK_REGION, .reg .PK_PARAMGO]
  | .budgetExh _ _ _ => [Part.pick, .reg .PK_PSTAT, .reg .PK_LATE] ++ raiseParts
  | .illegalWord _ => [Part.pick, .reg .PK_PSTAT, .reg .PK_LATE] ++ raiseParts
  | .acq _ =>
    [Part.uhla, .reg .HF_DOMSTAT, .reg .HF_INC, .reg .PK_PSTAT, .reg .PK_REGION, .reg .PK_OPV, .reg .PK_ARBCTL, .reg .PK_SLOTVAL, .reg .PW_DUTY,
     .reg .PW_ACTCMP] ++ stepParts
  | .mmx _ =>
    [Part.uhla, .reg .HF_DOMSTAT, .reg .HF_INC, .reg .PK_PSTAT, .reg .PK_REGION, .reg .PK_OPV, .reg .PK_ARBCTL, .reg .PK_SLOTVAL, .reg .PW_DUTY,
     .reg .PW_ACTCMP] ++ stepParts
  | .ang _ =>
    [Part.uhla, .reg .HF_DOMSTAT, .reg .HF_INC, .reg .PK_PSTAT, .reg .PK_REGION, .reg .PK_OPV, .reg .PK_ARBCTL, .reg .PK_SLOTVAL, .reg .PW_DUTY,
     .reg .PW_ACTCMP] ++ stepParts
  | .scs _ =>
    [Part.uhla, .reg .HF_DOMSTAT, .reg .HF_INC, .reg .PK_PSTAT, .reg .PK_REGION, .reg .PK_OPV, .reg .PK_ARBCTL, .reg .PK_SLOTVAL, .reg .PW_DUTY,
     .reg .PW_ACTCMP] ++ stepParts
  | .clk _ =>
    [Part.uhla, .reg .HF_DOMSTAT, .reg .HF_INC, .reg .PK_PSTAT, .reg .PK_REGION, .reg .PK_OPV, .reg .PK_ARBCTL, .reg .PK_SLOTVAL, .reg .PW_DUTY,
     .reg .PW_ACTCMP] ++ stepParts
  | .prk _ =>
    [Part.uhla, .reg .HF_DOMSTAT, .reg .HF_INC, .reg .PK_PSTAT, .reg .PK_REGION, .reg .PK_OPV, .reg .PK_ARBCTL, .reg .PK_SLOTVAL, .reg .PW_DUTY,
     .reg .PW_ACTCMP] ++ stepParts
  | .ipk _ =>
    [Part.uhla, .reg .HF_DOMSTAT, .reg .HF_INC, .reg .PK_PSTAT, .reg .PK_REGION, .reg .PK_OPV, .reg .PK_ARBCTL, .reg .PK_SLOTVAL, .reg .PW_DUTY,
     .reg .PW_ACTCMP] ++ stepParts
  | .mac _ =>
    [Part.uhla, .reg .HF_DOMSTAT, .reg .HF_INC, .reg .PK_PSTAT, .reg .PK_REGION, .reg .PK_OPV, .reg .PK_ARBCTL, .reg .PK_SLOTVAL, .reg .PW_DUTY,
     .reg .PW_ACTCMP] ++ stepParts
  | .msu _ =>
    [Part.uhla, .reg .HF_DOMSTAT, .reg .HF_INC, .reg .PK_PSTAT, .reg .PK_REGION, .reg .PK_OPV, .reg .PK_ARBCTL, .reg .PK_SLOTVAL, .reg .PW_DUTY,
     .reg .PW_ACTCMP] ++ stepParts
  | .satMove _ =>
    [Part.uhla, .reg .HF_DOMSTAT, .reg .HF_INC, .reg .PK_PSTAT, .reg .PK_REGION, .reg .PK_OPV, .reg .PK_ARBCTL, .reg .PK_SLOTVAL, .reg .PW_DUTY,
     .reg .PW_ACTCMP] ++ stepParts
  | .satAccumulatorRead _ =>
    [Part.uhla, .reg .HF_DOMSTAT, .reg .HF_INC, .reg .PK_PSTAT, .reg .PK_REGION, .reg .PK_OPV, .reg .PK_ARBCTL, .reg .PK_SLOTVAL, .reg .PW_DUTY,
     .reg .PW_ACTCMP] ++ stepParts
  | .satStore _ =>
    [Part.uhla, .reg .HF_DOMSTAT, .reg .HF_INC, .reg .PK_PSTAT, .reg .PK_REGION, .reg .PK_OPV, .reg .PK_ARBCTL, .reg .PK_SLOTVAL, .reg .PW_DUTY,
     .reg .PW_ACTCMP] ++ stepParts
  | .lim _ =>
    [Part.uhla, .reg .HF_DOMSTAT, .reg .HF_INC, .reg .PK_PSTAT, .reg .PK_REGION, .reg .PK_OPV, .reg .PK_ARBCTL, .reg .PK_SLOTVAL, .reg .PW_DUTY,
     .reg .PW_ACTCMP] ++ stepParts
  | .abs _ =>
    [Part.uhla, .reg .HF_DOMSTAT, .reg .HF_INC, .reg .PK_PSTAT, .reg .PK_REGION, .reg .PK_OPV, .reg .PK_ARBCTL, .reg .PK_SLOTVAL, .reg .PW_DUTY,
     .reg .PW_ACTCMP] ++ stepParts
  | .negate _ =>
    [Part.uhla, .reg .HF_DOMSTAT, .reg .HF_INC, .reg .PK_PSTAT, .reg .PK_REGION, .reg .PK_OPV, .reg .PK_ARBCTL, .reg .PK_SLOTVAL, .reg .PW_DUTY,
     .reg .PW_ACTCMP] ++ stepParts
  | .div _ =>
    [Part.uhla, .reg .HF_DOMSTAT, .reg .HF_INC, .reg .PK_PSTAT, .reg .PK_REGION, .reg .PK_OPV, .reg .PK_ARBCTL, .reg .PK_SLOTVAL, .reg .PW_DUTY,
     .reg .PW_ACTCMP] ++ stepParts
  | .sqt _ =>
    [Part.uhla, .reg .HF_DOMSTAT, .reg .HF_INC, .reg .PK_PSTAT, .reg .PK_REGION, .reg .PK_OPV, .reg .PK_ARBCTL, .reg .PK_SLOTVAL, .reg .PW_DUTY,
     .reg .PW_ACTCMP] ++ stepParts
  | .sqtMagnitude _ =>
    [Part.uhla, .reg .HF_DOMSTAT, .reg .HF_INC, .reg .PK_PSTAT, .reg .PK_REGION, .reg .PK_OPV, .reg .PK_ARBCTL, .reg .PK_SLOTVAL, .reg .PW_DUTY,
     .reg .PW_ACTCMP] ++ stepParts
  | .pis _ =>
    [Part.uhla, .reg .HF_DOMSTAT, .reg .HF_INC, .reg .PK_PSTAT, .reg .PK_REGION, .reg .PK_OPV, .reg .PK_ARBCTL, .reg .PK_SLOTVAL, .reg .PW_DUTY,
     .reg .PW_ACTCMP] ++ stepParts
  | .rsc _ =>
    [Part.uhla, .reg .HF_DOMSTAT, .reg .HF_INC, .reg .PK_PSTAT, .reg .PK_REGION, .reg .PK_OPV, .reg .PK_ARBCTL, .reg .PK_SLOTVAL, .reg .PW_DUTY,
     .reg .PW_ACTCMP] ++ stepParts
  | .outSlot _ =>
    [Part.uhla, .reg .HF_DOMSTAT, .reg .HF_INC, .reg .PK_PSTAT, .reg .PK_REGION, .reg .PK_OPV, .reg .PK_ARBCTL, .reg .PK_SLOTVAL, .reg .PW_DUTY,
     .reg .PW_ACTCMP] ++ stepParts
  | .outDomainInc _ =>
    [Part.uhla, .reg .HF_DOMSTAT, .reg .HF_INC, .reg .PK_PSTAT, .reg .PK_REGION, .reg .PK_OPV, .reg .PK_ARBCTL, .reg .PK_SLOTVAL, .reg .PW_DUTY,
     .reg .PW_ACTCMP] ++ stepParts
  | .outDomainStep _ =>
    [Part.uhla, .reg .HF_DOMSTAT, .reg .HF_INC, .reg .PK_PSTAT, .reg .PK_REGION, .reg .PK_OPV, .reg .PK_ARBCTL, .reg .PK_SLOTVAL, .reg .PW_DUTY,
     .reg .PW_ACTCMP] ++ stepParts
  | .duty _ =>
    [Part.uhla, .reg .HF_DOMSTAT, .reg .HF_INC, .reg .PK_PSTAT, .reg .PK_REGION, .reg .PK_OPV, .reg .PK_ARBCTL, .reg .PK_SLOTVAL, .reg .PW_DUTY,
     .reg .PW_ACTCMP] ++ stepParts
  | .evtEvent _ =>
    [Part.uhla, .reg .HF_DOMSTAT, .reg .HF_INC, .reg .PK_PSTAT, .reg .PK_REGION, .reg .PK_OPV, .reg .PK_ARBCTL, .reg .PK_SLOTVAL, .reg .PW_DUTY,
     .reg .PW_ACTCMP] ++ stepParts
  | .evtSeamTrigger _ =>
    [Part.uhla, .reg .HF_DOMSTAT, .reg .HF_INC, .reg .PK_PSTAT, .reg .PK_REGION, .reg .PK_OPV, .reg .PK_ARBCTL, .reg .PK_SLOTVAL, .reg .PW_DUTY,
     .reg .PW_ACTCMP] ++ stepParts
  | .evtMarker _ =>
    [Part.uhla, .reg .HF_DOMSTAT, .reg .HF_INC, .reg .PK_PSTAT, .reg .PK_REGION, .reg .PK_OPV, .reg .PK_ARBCTL, .reg .PK_SLOTVAL, .reg .PW_DUTY,
     .reg .PW_ACTCMP] ++ stepParts
  | .xch _ _ _ =>
    [Part.uhla, .reg .HF_DOMSTAT, .reg .HF_INC, .reg .PK_PSTAT, .reg .PK_REGION, .reg .PK_OPV, .reg .PK_ARBCTL, .reg .PK_SLOTVAL, .reg .PW_DUTY,
     .reg .PW_ACTCMP] ++ stepParts
  | .uhxRead _ =>
    [Part.uhla, .reg .HF_DOMSTAT, .reg .HF_INC, .reg .PK_PSTAT, .reg .PK_REGION, .reg .PK_OPV, .reg .PK_ARBCTL, .reg .PK_SLOTVAL, .reg .PW_DUTY,
     .reg .PW_ACTCMP] ++ stepParts
  | .uhxWrite _ =>
    [Part.uhla, .reg .HF_DOMSTAT, .reg .HF_INC, .reg .PK_PSTAT, .reg .PK_REGION, .reg .PK_OPV, .reg .PK_ARBCTL, .reg .PK_SLOTVAL, .reg .PW_DUTY,
     .reg .PW_ACTCMP] ++ stepParts
  | .brf _ => [.pick]
  | .loop _ => [.pick]
  | .endRun _ =>
    [Part.uhla, .reg .HF_DOMSTAT, .reg .HF_INC, .reg .PK_PSTAT, .reg .PK_REGION, .reg .PK_OPV, .reg .PK_ARBCTL, .reg .PK_SLOTVAL, .reg .PW_DUTY,
     .reg .PW_ACTCMP] ++ stepParts
  | .endDiscard _ =>
    [Part.uhla, .reg .HF_DOMSTAT, .reg .HF_INC, .reg .PK_PSTAT, .reg .PK_REGION, .reg .PK_OPV, .reg .PK_ARBCTL, .reg .PK_SLOTVAL, .reg .PW_DUTY,
     .reg .PW_ACTCMP] ++ stepParts
  | .arbiterEvaluation _ =>
    [Part.power, .pick, .reg .PK_ARBSTAT, .reg .PK_ARBOUT, .reg .PK_SLOTVAL, .reg .PW_DUTY, .reg .PW_ACTCMP, .reg .PW_CHSTAT] ++ seamParts ++
     onTimerParts
  | .arbctlWrite _ _ _ => [.fresh, .drift, .pick, .reg .BLK_BLKCTL, .reg .PK_ARBCTL]
  | .slicemapWrite _ _ _ _ => [.fresh, .drift, .reg .BLK_BLKCTL, .reg .PK_PSTAT, .reg .PK_SLICEMAP0, .reg .PK_SLICEMAP1]
  | .paramgo _ _ _ => [.fresh, .drift, .reg .BLK_BLKCTL, .reg .PK_PSTAT, .reg .PK_PARAMGO]
  | .paramWrite _ _ _ _ => [.fresh, .drift, .reg .BLK_BLKCTL, .reg .PK_PSTAT, .reg .PK_PARAM]
  | .replatch _ _ _ => [.fresh, .drift, .reg .BLK_BLKCTL, .reg .PK_PSTAT, .reg .PK_REPORT]
  | .loadProgram _ _ _ => [.fresh, .drift, .pick, .reg .BLK_BLKCTL, .reg .PK_PCTL, .reg .PK_PSTAT]
  | .loadComplete _ => [.fresh, .timers, .pick, .reg .PK_PCTL, .reg .PK_PSTAT, .reg .PK_BUDGET, .reg .PK_REGION, .reg .PK_OPV]
  | .budgetWrite _ _ _ => [.fresh, .drift, .reg .BLK_BLKCTL, .reg .PK_PSTAT, .reg .PK_BUDGET]
  | .pairMismatch _ _ => [Part.pick, .reg .PK_PSTAT, .reg .PW_ACTCMP] ++ sf2Parts
  | .resyncComplete _ _ => [Part.pick, .reg .PK_PSTAT, .reg .PK_ICOUNT, .reg .PK_REGION, .reg .PK_PARAMGO] ++ sf2Parts ++ onTimerParts
  | .refenWrite _ _ =>
    [Part.sense, .reg .SN_CTL, .reg .SN_CHSTAT, .reg .SN_SLMEAN, .reg .SN_SLINFO, .reg .SN_MMMIN, .reg .SN_MMMAX, .reg .SN_MMINFO] ++ raiseParts
  | .refrdy => [Part.reg .SN_CTL] ++ raiseParts ++ onTimerParts
  | .referenceFault =>
    [Part.sense, .reg .SN_CTL, .reg .SN_CHSTAT, .reg .SN_SLMEAN, .reg .SN_SLINFO, .reg .SN_MMMIN, .reg .SN_MMMAX, .reg .SN_MMINFO] ++ raiseParts
  | .seqgo _ _ _ => [.fresh, .timers, .drift, .reg .SN_CTL, .reg .SN_SEQSTAT]
  | .sequenceRunStart _ => [Part.freeIdx, .sense, .reg .SN_SEQSTAT] ++ raiseParts ++ onTimerParts
  | .dropped _ => [Part.sense, .reg .SN_SEQSTAT] ++ raiseParts ++ onTimerParts
  | .conversionEnd _ _ => [Part.sense, .reg .SN_SEQSTAT, .reg .SN_CHSTAT, .reg .SN_SLGAP] ++ raiseParts ++ onTimerParts
  | .windowPublish _ _ =>
    [Part.power, .pick, .sense, .reg .PK_LATE, .reg .SN_CHSTAT, .reg .SN_SLMEAN, .reg .SN_SLINFO, .reg .SN_MMMIN, .reg .SN_MMMAX, .reg .SN_MMINFO,
     .reg .RG_RSTAT, .reg .RG_RVAL, .reg .SE_CAPSTART] ++ seamParts ++ onTimerParts
  | .mmReset _ _ _ => [.fresh, .timers, .drift, .sense, .reg .BLK_BLKCTL, .reg .SN_CHSTAT, .reg .SN_MMCTL]
  | .sinc3Output _ _ => [.fresh, .timers, .sense, .reg .SN_SLGAP]
  | .sdmStuck _ => [Part.reg .SN_CHSTAT] ++ raiseParts
  | .diagGo _ _ => [.fresh, .timers, .drift, .reg .SN_CTL, .reg .SN_DIAGSEL, .reg .SN_DIAGSTAT]
  | .diagDone _ => [Part.freeIdx, .reg .SN_DIAGRES, .reg .SN_DIAGSTAT] ++ raiseParts
  | .diagTimeout => [Part.reg .SN_DIAGSTAT] ++ raiseParts ++ onTimerParts
  | .seqctlWrite _ _ _ => [.fresh, .timers, .drift, .sense, .reg .SN_CTL, .reg .SN_SEQCTL, .reg .SN_SEQSTAT]
  | .chctlWrite _ _ _ => [.fresh, .drift, .sense, .reg .BLK_BLKCTL, .reg .SN_CHCTL, .reg .SN_SDCTL, .reg .SN_CHSTAT]
  | .canaryCrossing _ _ => [Part.reg .SN_SEQSTAT, .reg .CN_WSTAT, .reg .CN_WSTAMP] ++ seamParts ++ gateParts
  | .wthrWrite _ _ _ => [.fresh, .timers, .drift, .reg .BLK_BLKCTL, .reg .CN_WTHR, .reg .CN_WSTAT]
  | .settlingEnd _ => [Part.reg .CN_WSTAT] ++ onTimerParts
  | .wctlWrite _ _ _ => [Part.drift, .reg .BLK_BLKCTL, .reg .CN_WCTL, .reg .CN_WSTAT] ++ gateParts
  | .latchClear _ _ _ => [Part.drift, .reg .BLK_BLKCTL, .reg .CN_WSTAT] ++ gateParts
  | .rbfailWrite _ _ _ _ => [Part.drift, .reg .BLK_BLKCTL, .reg .CN_WCTL, .reg .CN_WSTAT] ++ gateParts
  | .carrierValley _ => valleyParts
  | .carrierPeak _ => [Part.pick, .reg .PK_LATE, .reg .SN_SEQSTAT, .reg .PW_GRPSTAT] ++ onTimerParts ++ gateParts
  | .modulationEdge _ => [Part.now, .reg .HF_TURN, .reg .CG_CGSTAT, .reg .FM_FCAUSE] ++ sf2Parts ++ seamParts
  | .turnOnDelayEnd _ _ => [Part.power, .reg .CG_PSTAT] ++ onTimerParts
  | .grpCommit _ _ _ => [.fresh, .drift, .power, .reg .BLK_BLKCTL, .reg .PW_GRPCOMMIT]
  | .carrierEnable _ _ _ =>
    [.fresh, .drift, .power, .reg .BLK_BLKCTL, .reg .PW_GRPCTL, .reg .PW_GRPCOMMIT, .reg .PW_GRPSTAT, .reg .PW_GRPACT, .reg .PW_ACTCMP,
     .reg .PW_CHSTAT]
  | .dutyWrite _ _ _ => [.fresh, .drift, .power, .reg .BLK_BLKCTL, .reg .PW_DUTY, .reg .PW_ACTCMP]
  | .ovrWrite _ _ _ => [Part.reg .BLK_BLKCTL, .reg .PW_OVR] ++ onTimerParts ++ gateParts
  | .safeWrite _ _ _ => [Part.drift, .reg .BLK_BLKCTL, .reg .PW_SAFE] ++ gateParts
  | .syncLost _ => [.fresh, .reg .PW_GRPSTAT]
  | .pwmclkLost => [Part.reg .PW_GATESTAT] ++ gateParts
  | .feedbackChange _ _ _ => [Part.reg .CG_FBSTAMP, .reg .CG_CGSTAT, .reg .FM_FCAUSE] ++ sf2Parts ++ seamParts
  | .fbTimeout _ _ => [Part.reg .CG_FBSTAMP] ++ seamParts ++ onTimerParts ++ gateParts
  | .blankingEnd _ => [Part.reg .CG_PSTAT] ++ onTimerParts
  | .dsLatch _ => [Part.now, .reg .HF_TURN, .reg .CG_DSSTAMP, .reg .CG_CGSTAT, .reg .FM_FCAUSE] ++ sf2Parts ++ seamParts
  | .softStepEnd _ => [Part.power, .reg .CG_BSTAT] ++ onTimerParts
  | .clr _ _ _ => [Part.reg .CG_PCTL, .reg .CG_FBSTAMP, .reg .CG_CGSTAT, .reg .FM_FCAUSE] ++ sf2Parts ++ seamParts
  | .rampGo _ _ _ => [Part.power, .reg .BLK_BLKCTL, .reg .RG_RCTL, .reg .RG_RSTAT, .reg .RG_RVAL, .reg .SE_CAPSTART] ++ seamParts
  | .rampStop _ _ _ => [Part.power, .reg .BLK_BLKCTL, .reg .RG_RCTL, .reg .RG_RSTAT, .reg .RG_RVAL, .reg .SE_CAPSTART] ++ seamParts
  | .rampRelease _ _ _ => [Part.power, .reg .BLK_BLKCTL, .reg .RG_RCTL, .reg .RG_RSTAT, .reg .RG_RVAL, .reg .SE_CAPSTART] ++ seamParts
  | .rampCellWrite _ _ _ => [Part.power, .reg .BLK_BLKCTL, .reg .RG_RCTL, .reg .RG_RSTAT, .reg .RG_RVAL, .reg .SE_CAPSTART] ++ seamParts
  | .alignTimeout _ => [Part.reg .RG_RSTAT] ++ onTimerParts
  | .rampUpdate _ => [Part.power, .reg .RG_RSTAT, .reg .RG_RVAL] ++ raiseParts ++ onTimerParts
  | .assaySample _ => assayParts ++ onTimerParts
  | .zxLost _ => [Part.assay, .reg .AS_ASTAT, .reg .AS_RES] ++ raiseParts
  | .snap _ _ => [.fresh, .drift, .assay, .reg .AS_ACTL, .reg .AS_ASTAT]
  | .periodic => [Part.assay] ++ onTimerParts
  | .saveReadback _ => [Part.lamp, .assay, .reg .AS_SAVESTAT] ++ raiseParts
  | .assayStart =>
    [.fresh, .latched, .timers, .assay, .reg .AS_ASTAT, .reg .AS_LOSS, .reg .AS_EMLO, .reg .AS_EMHI, .reg .AS_EWIN, .reg .AS_WRAPS, .reg .AS_S0CNT,
     .reg .AS_S0STAT, .reg .AS_TPOSTAT, .reg .AS_PSTAT]
  | .clkLost =>
    [Part.lamp, .assay, .reg .AS_ASTAT, .reg .AS_SAVESTAT, .reg .AS_EMLO, .reg .AS_EMHI, .reg .AS_EWIN, .reg .AS_WRAPS, .reg .AS_TPOSTAT,
     .reg .AS_PSTAT] ++ raiseParts
  | .pulseStart _ => [.fresh, .assay, .reg .AS_TPOSTAT, .reg .AS_PSTAT]
  | .s0Pulse _ _ => [.fresh, .assay, .reg .AS_S0CNT, .reg .AS_S0STAT]
  | .s0Check _ => [Part.assay, .reg .AS_S0CHK, .reg .AS_S0STAT] ++ raiseParts ++ onTimerParts
  | .xang _ _ _ => chargeParts
  | .xyld _ _ _ => chargeParts
  | .xfwt _ _ _ => chargeParts
  | .icpar _ => [.fresh, .reg .DR_PCOUNT]
  | .dualSampleResample _ _ _ => [Part.reg .DR_DSTAT, .reg .GP_GPIOIN] ++ raiseParts ++ onTimerParts
  | .checkpoint _ => onTimerParts
  | .checkpointComplete _ _ => [Part.reg .DR_PSTATE] ++ chargeParts
  | .journalEntry _ _ => [Part.mem] ++ chargeParts
  | .pairFault _ _ _ => Part.all
  | .pairEnterFailed _ => Part.all
  | .takeoverStart _ =>
    [Part.now, .fm, .reg .BLK_BLKCTL, .reg .HF_TURN, .reg .SP_PAIRSUP, .reg .SP_CREWCTL, .reg .CG_BSTAT, .reg .RG_RSTAT, .reg .DR_DSTAT,
     .reg .DR_PSTATE, .reg .FM_FSTAT, .reg .FM_FCAUSE, .reg .EX_MBCTL] ++ seamParts ++ coastParts ++ gateParts
  | .recoveryComplete _ _ => Part.all
  | .comparatorTestComplete _ _ _ =>
    [Part.mem, .fm, .supply, .reg .BLK_BLKCTL, .reg .CG_BSTAT, .reg .RG_RSTAT, .reg .DR_DSTAT, .reg .DR_PSTATE, .reg .DR_PFAULT, .reg .DR_PSTAMP,
     .reg .DR_PCOUNT, .reg .FM_FSTAT] ++ raiseParts ++ coastParts ++ gateParts
  | .testWindowOpen _ =>
    [Part.mem, .plan, .fm, .reg .BLK_BLKCTL, .reg .SP_PAIRSUP, .reg .SP_CREWCTL, .reg .DR_DSTAT, .reg .DR_PSTATE, .reg .FM_FSTAT,
     .reg .EX_MBCTL] ++ raiseParts ++ gateParts
  | .modereqTest _ _ _ => pairCtlParts
  | .modereqSplit _ _ _ => pairCtlParts
  | .modereqService _ _ _ => pairCtlParts
  | .modereqSpare _ _ _ => pairCtlParts
  | .join _ _ _ => pairCtlParts
  | .joinApply _ => pairCtlParts
  | .ownrgnWrite _ _ _ _ => [.fresh, .drift, .reg .DR_DSTAT, .reg .DR_PCTL, .reg .DR_OWNRGN]
  | .clrmax _ _ _ => [.fresh, .drift, .reg .DR_DSTAT, .reg .DR_PLOG]
  | .debugRequest _ _ => Part.all
  | .claim _ _ => readParts
  | .completeSource _ _ _ => [.fresh, .drift, .intc, .reg .DR_PLOG, .reg .IC_SSTAT]
  | .pendClear _ _ _ _ => [.fresh, .drift, .intc, .reg .DR_PLOG, .reg .IC_SSTAT, .reg .IC_PEND]
  | .srccfgWrite _ _ _ => [.fresh, .drift, .intc, .reg .BLK_BLKCTL, .reg .DR_PLOG, .reg .IC_SRCCFG, .reg .IC_SSTAT]
  | .flush _ _ _ => [.fresh, .timers, .drift, .intc, .reg .DR_PLOG, .reg .IC_SSTAT, .reg .IC_GCFG, .reg .IC_GSTAT]
  | .gcfgWrite _ _ _ => [.fresh, .timers, .drift, .intc, .reg .DR_PLOG, .reg .IC_SSTAT, .reg .IC_GCFG, .reg .IC_GSTAT]
  | .coalesceTimeout _ => [Part.intc, .reg .DR_PLOG, .reg .IC_GSTAT] ++ onTimerParts
  | .monitorSample _ _ _ _ _ _ _ _ => Part.all
  | .foremanWindowDemand _ _ => [Part.reg .FM_FCAUSE, .reg .FM_BTEST] ++ sf2Parts
  | .fsafenWrite _ _ => [Part.reg .FM_FSAFEN, .reg .FM_FCAUSE, .reg .FM_BTEST] ++ sf2Parts
  | .safenExpired => [Part.reg .FM_FSAFEN, .reg .FM_FCAUSE, .reg .FM_BTEST] ++ sf2Parts ++ onTimerParts
  | .fcmdWrite _ _ => [.fresh, .drift, .fm, .reg .FM_FCMD, .reg .FM_FCAUSE]
  | .fclr _ _ => [Part.drift, .fm, .reg .DR_DSTAT, .reg .FM_FSTAT, .reg .FM_FCAUSE] ++ gateParts
  | .btestReq _ _ _ => [.fresh, .timers, .drift, .fm, .reg .FM_FCAUSE, .reg .FM_BTEST]
  | .brakeTestReengage _ => [Part.fm] ++ onTimerParts
  | .brakeTestPass _ => [Part.fm, .reg .FM_FSTAT, .reg .FM_BTEST] ++ raiseParts
  | .btFail _ => [Part.fm, .reg .FM_FSTAT, .reg .FM_FCAUSE, .reg .FM_FSTAMP, .reg .FM_BTEST] ++ raiseParts ++ onTimerParts
  | .btDue _ _ => [Part.fm, .reg .FM_FSTAT, .reg .FM_BTEST] ++ raiseParts ++ onTimerParts
  | .offPulseStart _ _ => [Part.reg .DR_DSTAT, .reg .FM_FOUT, .reg .FM_BTEST] ++ sf2Parts ++ onTimerParts
  | .offPulseEnd _ _ => [Part.reg .DR_DSTAT, .reg .FM_FOUT, .reg .FM_BTEST] ++ sf2Parts ++ onTimerParts
  | .mirFail _ _ => [Part.reg .DR_DSTAT, .reg .FM_FOUT] ++ sf2Parts ++ onTimerParts
  | .sealRead _ => [Part.reg .DR_DSTAT, .reg .FM_FCAUSE, .reg .FM_SEAL] ++ sf2Parts ++ onTimerParts
  | .foremanSelfTest _ _ _ => Part.all
  | .clockCheck _ _ _ => Part.all
  | .foremanParamTakeEffect => [Part.fm, .reg .CN_WCTL, .reg .CN_WTHR, .reg .CN_WSTAT, .reg .DR_DSTAT, .reg .FM_FSTAT] ++ raiseParts ++ gateParts
  | .secureBoot =>
    [Part.pick, .lamp, .supply, .reg .CN_WCTL, .reg .CN_WTHR, .reg .CN_WSTAT, .reg .DR_DSTAT, .reg .DR_PSTATE, .reg .BK_DEVID, .reg .BK_ADITSTAT,
     .reg .LA_LSTAT, .reg .LA_GHELD] ++ sf2Parts ++ bankParts
  | .returnEntryComplete => Part.all
  | .lcFuseProgrammed => Part.all
  | .meshCheck _ =>
    [Part.now, .lamp, .supply, .reg .HF_TURN, .reg .PW_GSTAT, .reg .CG_CGSTAT, .reg .FM_FCAUSE, .reg .PR_PWRSTAT, .reg .LA_LSTAT,
     .reg .LA_GHELD] ++ aditParts ++ seamParts ++ sf2Parts ++ bankParts
  | .voltageGlitch => Part.all
  | .clockGlitch => Part.all
  | .temperatureEvent => Part.all
  | .zeroisationComplete => Part.all
  | .aditSessionEnd => aditParts ++ onTimerParts
  | .idcode => [.bank]
  | .bypass => [.bank]
  | .samplePreload => [.freeIdx, .bank]
  | .extest => [.freeIdx, .bank]
  | .aditResetRequest => Part.all
  | .mailboxClaim _ _ _ => [Part.bank, .reg .EX_MBCTL, .reg .EX_EXSTAT] ++ replyParts
  | .mailboxGo _ _ _ => [Part.bank, .reg .EX_MBCTL, .reg .EX_EXSTAT] ++ replyParts
  | .mailboxRelease _ _ _ => [Part.bank, .reg .EX_MBCTL, .reg .EX_EXSTAT] ++ replyParts
  | .envelopeStart => [.fresh, .freeIdx, .bank, .reg .EX_EXSTAT, .reg .LA_LSTAT]
  | .verdictRelease => [Part.lamp, .bank, .host, .reg .EX_EXCNT, .reg .LA_LSTAT, .reg .LA_GHELD] ++ replyParts ++ onTimerParts
  | .applicationReplyRelease => Part.all
  | .readItem => exviaParts ++ onTimerParts
  | .setEntries => exviaParts ++ onTimerParts
  | .limits => exviaParts ++ onTimerParts
  | .islSchedule => exviaParts ++ onTimerParts
  | .assaySet => exviaParts ++ onTimerParts
  | .assayAck => exviaParts ++ onTimerParts
  | .counterClear => exviaParts ++ onTimerParts
  | .certRevoke => exviaParts ++ onTimerParts
  | .groupSet => exviaParts ++ onTimerParts
  | .enrol => exviaParts ++ onTimerParts
  | .revoke => exviaParts ++ onTimerParts
  | .generate => exviaParts ++ onTimerParts
  | .importKey => exviaParts ++ onTimerParts
  | .sealAck => exviaParts ++ onTimerParts
  | .tamperAck => exviaParts ++ onTimerParts
  | .aditOpen => exviaParts ++ onTimerParts
  | .aditClose => exviaParts ++ onTimerParts
  | .image => exviaParts ++ onTimerParts
  | .imageReplyRelease _ => Part.all
  | .activate => exviaParts ++ onTimerParts
  | .lcAdvance => exviaParts ++ onTimerParts
  | .exportRecords => exviaParts ++ onTimerParts
  | .sign _ => replyParts
  | .ecdh _ => replyParts
  | .encrypt _ => replyParts
  | .decrypt _ => replyParts
  | .hmac _ => replyParts
  | .random _ => replyParts
  | .counter _ => [Part.lamp, .reg .EX_MBSTAT, .reg .EX_MBLEN, .reg .EX_MBDATA] ++ raiseParts
  | .highWaterMarkWrite _ => [.fresh, .timers, .lamp, .bank, .reg .LA_LSTAT, .reg .LA_GHELD]
  | .synthEnable _ _ _ =>
    [Part.sense, .uhla, .winder, .reg .PW_GSTAT, .reg .WI_WSTAT, .reg .WI_SCTL, .reg .WI_SSTAT, .reg .UH_USTAT, .reg .UH_UPORT,
     .reg .ET_ETHSTAT] ++ raiseParts
  | .synthLocked _ =>
    [Part.sense, .winder, .supply, .host, .reg .PW_GSTAT, .reg .WI_SSTAT, .reg .RS_RSTREL] ++ raiseParts ++ onTimerParts ++ gateParts
  | .fmonErr _ => [Part.winder, .reg .WI_SSTAT] ++ raiseParts ++ onTimerParts
  | .refLost => [Part.reg .WI_WSTAT] ++ raiseParts
  | .refSourceWrite _ _ => [.timers, .drift, .reg .WI_WCTL]
  | .spreadWrite _ _ _ => [.fresh, .timers, .drift, .winder, .reg .PW_GSTAT, .reg .WI_WSTAT, .reg .WI_SSTAT, .reg .WI_SSCFG]
  | .winderRampGo _ _ => [Part.uhla, .winder, .reg .PW_GSTAT, .reg .WI_WSTAT, .reg .WI_SSTAT, .reg .WI_RCTL, .reg .WI_RSTAT] ++ raiseParts
  | .winderRampStop _ _ => [Part.uhla, .winder, .reg .PW_GSTAT, .reg .WI_WSTAT, .reg .WI_SSTAT, .reg .WI_RCTL, .reg .WI_RSTAT] ++ raiseParts
  | .winderRampUpdate => [Part.winder, .reg .PW_GSTAT, .reg .WI_SSTAT, .reg .WI_RSTAT] ++ onTimerParts
  | .realignComplete => [Part.winder, .reg .PW_GSTAT, .reg .WI_SSTAT, .reg .WI_RSTAT] ++ raiseParts
  | .pwrctlReqNight _ _ => [Part.supply, .reg .PR_PWRCTL, .reg .PR_PWRSTAT] ++ raiseParts
  | .pwrctlReqPark _ _ => [Part.supply, .reg .PR_PWRCTL, .reg .PR_PWRSTAT] ++ raiseParts
  | .pwrctlReqRun _ _ => [Part.supply, .reg .PR_PWRCTL, .reg .PR_PWRSTAT] ++ raiseParts
  | .powerStateChange => Part.all
  | .wakeClock => [Part.supply, .reg .PW_GSTAT, .reg .CG_CGSTAT, .reg .DR_DSTAT, .reg .FM_FCAUSE, .reg .PR_PWRSTAT] ++ sf2Parts ++ seamParts
  | .wakeGrid =>
    [Part.now, .supply, .reg .HF_TURN, .reg .PW_GSTAT, .reg .CG_CGSTAT, .reg .DR_DSTAT, .reg .FM_FCAUSE, .reg .PR_PWRSTAT] ++ sf2Parts ++ seamParts
  | .vauxValid => Part.all
  | .brownout => Part.all
  | .railFault _ => Part.all
  | .resetN => Part.all
  | .rstctlDeviceWarm _ _ => Part.all
  | .rstctlPairWarm _ _ => Part.all
  | .wdtkick _ _ _ => [Part.reg .RS_RSTSTAT] ++ raiseParts
  | .warned _ => [Part.reg .RS_WDTCTL] ++ raiseParts ++ onTimerParts
  | .watchdogTimeout _ =>
    [Part.latched, .mem, .supply, .reg .DR_PFAULT, .reg .DR_PSTAMP, .reg .DR_PCOUNT, .reg .DR_PLOG, .reg .DR_OWNRGN, .reg .RS_RSTSTAT,
     .reg .RS_RSTCNT, .reg .RS_RSTTOT, .reg .RS_WDTCTL, .reg .RS_WDTKICK] ++ pairCtlParts ++ onTimerParts ++ gateParts
  | .banksmanLockstepFault => Part.all
  | .rstrelWrite _ _ => [Part.drift, .host, .reg .RS_RSTREL] ++ gateParts
  | .pendingRelease => [Part.host, .reg .RS_RSTREL] ++ raiseParts ++ gateParts
  | .optionLoadComplete => [Part.supply, .reg .RS_RSTSTAT, .reg .RS_OPTIMG] ++ raiseParts ++ onTimerParts
  | .padRelease _ _ => [.fresh, .drift, .reg .RS_PADREL]
  | .lampPowerLoss => [.fresh, .timers, .lamp, .reg .LA_LSTAT]
  | .lampStart _ _ => Part.all
  | .gaugeUpdate _ => [Part.freeIdx, .reg .LA_LSTAT, .reg .LA_GAUGE, .reg .LA_GHELD, .reg .LA_CAP] ++ onTimerParts
  | .capMeasureComplete _ _ => [.fresh, .freeIdx, .reg .LA_LSTAT, .reg .LA_GAUGE, .reg .LA_GHELD, .reg .LA_CAP]
  | .harvestOcvSample _ => [Part.lamp] ++ onTimerParts
  | .grantComplete _ => [.fresh, .lamp, .reg .LA_LSTAT, .reg .LA_GHELD]
  | .grantRetry => [Part.lamp, .bank, .reg .LA_LSTAT, .reg .LA_GHELD] ++ onTimerParts
  | .burstFlush _ => [Part.mem, .freeIdx, .seam, .reg .SE_SSTAT, .reg .SE_STRSTAT, .reg .SE_CAPEND, .reg .SE_CAPSTAT] ++ raiseParts ++ onTimerParts
  | .strput _ _ _ => seamParts
  | .fireTrigger _ _ _ => [Part.reg .SE_TRGCTL, .reg .SE_CAPSTART, .reg .SE_DRSTAT] ++ seamParts
  | .captureHeld _ => [Part.seam, .reg .SE_CAPEND, .reg .SE_CAPSTAT] ++ raiseParts ++ onTimerParts
  | .captureRelease _ _ _ => [Part.reg .SE_TRGCTL, .reg .SE_CAPSTART, .reg .SE_DRSTAT] ++ seamParts
  | .drainGo _ _ _ => [.fresh, .drift, .seam, .reg .SE_SSTAT, .reg .SE_DRCFG, .reg .SE_DRPTR, .reg .SE_DRSTAT]
  | .drainStop _ _ _ => [.fresh, .drift, .seam, .reg .SE_SSTAT, .reg .SE_DRCFG, .reg .SE_DRPTR, .reg .SE_DRSTAT]
  | .drainDone _ => [Part.mem, .seam, .host, .reg .SE_DRPTR, .reg .SE_DRSTAT] ++ chargeParts
  | .drainOverrun _ => [Part.seam, .reg .SE_DRPTR, .reg .SE_DRSTAT] ++ raiseParts
  | .sramScrub _ _ => [Part.reg .SE_MEMSTAT, .reg .SE_MEMERRA] ++ raiseParts
  | .uhlaEnable _ _ => [Part.uhla, .reg .UH_UCTL, .reg .UH_USTAT, .reg .UH_UPORT] ++ raiseParts
  | .portUp _ => [Part.uhla, .reg .UH_USTAT, .reg .UH_UPORT] ++ raiseParts ++ onTimerParts
  | .portDown _ _ => [Part.uhla, .reg .UH_USTAT, .reg .UH_UPORT] ++ raiseParts
  | .superframeOriginate =>
    [Part.uhla, .winder, .reg .PW_GSTAT, .reg .WI_SSTAT, .reg .WI_RSTAT, .reg .UH_USTAT, .reg .UH_UERR] ++ raiseParts ++ onTimerParts
  | .superframeReceive _ _ _ =>
    [Part.uhla, .winder, .reg .HF_DOMSTAT, .reg .HF_INC, .reg .PW_GSTAT, .reg .PW_GRPSTAT, .reg .PW_SYNCERR, .reg .WI_SSTAT, .reg .WI_RSTAT,
     .reg .UH_USTAT, .reg .UH_UPORT, .reg .UH_UPROBERX, .reg .UH_UERR, .reg .UH_USVVAL, .reg .UH_USVINFO] ++ stepParts
  | .linkDelayMeasure _ _ => [.fresh, .reg .UH_UPORT]
  | .masterLoss => [.fresh, .now, .head, .plan, .drift, .uhla, .reg .HF_TURN, .reg .SP_REMAIN0, .reg .UH_USTAT]
  | .reqm => [.fresh, .now, .head, .plan, .drift, .uhla, .reg .HF_TURN, .reg .SP_REMAIN0]
  | .tripRepeat => [Part.uhla, .reg .UH_USTAT] ++ raiseParts ++ onTimerParts
  | .tripBlockReceive _ _ _ _ _ _ =>
    [Part.freeIdx, .uhla, .reg .UH_USTAT, .reg .UH_UTRIP, .reg .UH_RINGLAT, .reg .UH_UERR] ++ raiseParts ++ gateParts
  | .utripgo _ _ => [Part.uhla, .reg .UH_USTAT, .reg .UH_UTRIPGO] ++ raiseParts
  | .utripClear _ _ => [Part.drift, .reg .UH_USTAT, .reg .UH_UTRIP] ++ gateParts
  | .usvput _ _ _ => [.fresh, .drift, .uhla, .reg .UH_USTAT]
  | .usvcfgWrite _ _ _ => [.fresh, .drift, .reg .UH_USTAT, .reg .UH_USVCFG]
  | .ethFrameReceive _ _ _ _ _ _ => [Part.host, .reg .ET_ETHSTAT, .reg .ET_PTPTRUST] ++ raiseParts
  | .ethFrameTransmit _ _ => [Part.plan, .host] ++ chargeParts
  | .ptpstep _ _ => [Part.host] ++ raiseParts
  | .ptpTarget => [Part.host] ++ raiseParts ++ onTimerParts
  | .ptpLock _ _ => [Part.host, .reg .ET_PTPTRUST] ++ raiseParts
  | .ptpTrustLost => [Part.host, .reg .ET_PTPTRUST] ++ raiseParts ++ onTimerParts
  | .canFrameReceive _ _ _ _ => [Part.host] ++ raiseParts
  | .canFrameTransmit _ _ _ => [Part.host] ++ raiseParts
  | .uartReceive _ _ _ _ => [Part.bank, .host, .reg .EX_MBCTL, .reg .EX_EXSTAT] ++ replyParts
  | .modbusFrameEnd _ _ => [Part.host] ++ raiseParts
  | .spiTransfer _ _ _ _ => [Part.host] ++ raiseParts
  | .i2cTransfer _ _ => [Part.host] ++ raiseParts
  | .gpioEvent _ _ => [Part.reg .GP_GPIOIN] ++ raiseParts
  | .canaryStateDeassert _ _ => [.fresh, .power, .reg .CN_WSTAT]
  | .dsatLevelChange _ _ => [.fresh, .power, .reg .CG_PSTAT]
  | .peakDwellEnd _ => [.fresh, .now, .head, .plan, .drift, .power, .reg .HF_TURN, .reg .SP_REMAIN0, .reg .PW_GRPSTAT]
  | .splitCoreUncorrectableTcm _ _ => [.fresh, .plan, .drift, .reg .DR_PSTATE]
  | .memoryAccess _ _ _ _ _ => Part.all
  | .railsWithinLimits => [Part.supply] ++ onTimerParts
  | .lampClockSet => [Part.lamp] ++ onTimerParts
  | .chargeTargetReached => [.fresh, .freeIdx, .reg .LA_LSTAT, .reg .LA_GAUGE, .reg .LA_GHELD, .reg .LA_CAP]
  | .harvestPathSelect _ _ => [.fresh, .timers, .reg .LA_LSTAT]
  | .portRetrain _ => [Part.uhla, .reg .UH_USTAT, .reg .UH_UPORT] ++ raiseParts ++ onTimerParts
  | .ethLinkChange _ _ => [Part.reg .ET_ETHSTAT] ++ raiseParts
  | .uartTransmitDone _ _ _ _ => [Part.host] ++ raiseParts
  | .canErrorStateChange _ _ => [Part.host] ++ raiseParts
  | .itotonProductionTest => [Part.freeIdx, .supply, .reg .BK_DEVID, .reg .BK_ADITSTAT] ++ bankParts

end Sys2Proof.Machine
end

