-- ==== Sys2Proof/Certificates/Slice0/Obligations.lean ====
section
/-! DEFINITION. What the provers are asked to show: the rules of spec/ as statements about the meanings of the commands. Every statement about a
command says for which states and operands it completes and what holds of the next state `t`. Where a statement rests on the model's own reading of a
rule, notes/assumptions has the reading and its mark. -/

section
open Sys2Proof Sys2Proof.Machine

/-- A step runs the command at the front of the queue, and an idle step passes one tick. With command c at the front of its queue, step is exec of c
on the state with the queue's rest; with an empty queue it passes one 4 ns tick, which is the model's choice (log entry 1). (00_scope.md,
02_headframe_angle_and_shift_plan.md) -/
def Obligations.StepTakesTheFront : Prop :=
  (∀ (s : State) (c : Instr) (rest : List Instr), s.pending = c :: rest → step s = exec c { s with pending := rest }) ∧
  (∀ (s : State), s.pending = [] → step s = .next (s.advance 1))

/-- Every command completes in every state and leaves the queue to its sender. For every command and every state, exec answers a next state, never a
fault or a refusal, and that state has the same queue of waiting commands. A step at a non-empty queue takes exactly one command off it.
(95_what_each_step_holds.md) -/
def Obligations.EveryCommandCompletes : Prop :=
  (∀ (c : Instr) (s : State), ∃ t, exec c s = .next t ∧ t.pending = s.pending) ∧
  (∀ (s : State) (c : Instr) (rest : List Instr), s.pending = c :: rest → ∃ t, step s = .next t ∧ t.pending = rest)

/-- Reset leaves every register at its Reset column and every block stopped. At reset every copy of every register holds its reset word, the queue is
empty and memory lists nothing; the fields of the tables whose reset value is not 0 hold it; every block is STOPPED, every cell's outputs are off, and
SF1, SF2 and SF3 are in their safe state. (R5, R54, R83, R140, R152, R176, R177, R188, R298, R309, R329, R391) -/
def Obligations.ResetMatchesTheTables : Prop :=
  (∀ (r : RegId) (i j : Nat), r.has i j = true → State.reset.rdw r i j = r.resetWord i j) ∧
  State.reset.pending = [] ∧ State.reset.mem = [] ∧
  (∀ d : Fin 4, State.reset.get HF_DOMCTL_BW d.val = 2 ∧ State.reset.get HF_DOMCTL_JTHR d.val = 10 ∧ State.reset.get HF_DOMCTL_COASTMAX d.val = 20 ∧
    State.reset.get HF_TRKTHR_COASTTHR d.val = 6553 ∧ State.reset.get HF_TRKTHR_RETTHR d.val = 13107) ∧
  (∀ e : Fin 96, State.reset.get PK_BUDGET_BUDGET e.val = 4096) ∧
  (∀ c : Fin 48, State.reset.get SN_SDCTL_CELL c.val = 63) ∧
  State.reset.get CN_CCTL_NTICK = 100 ∧
  (∀ g : Fin 8, State.reset.get PW_GRPPRD_PRD g.val = 512000000) ∧
  (∀ p : Fin 48, State.reset.get CG_PCTL_FBFILT p.val = 2 ∧ State.reset.get CG_PCTL_FBTO p.val = 20 ∧ State.reset.get CG_PCTL_BLANK p.val = 20) ∧
  State.reset.get DR_TESTCTL_TESTINT = 24 ∧ State.reset.get DR_TESTCTL_GRACE = 12 ∧
  State.reset.get FM_FSTAT_SF2INH = 255 ∧ State.reset.on FM_FSTAT_SF1OPEN = true ∧ State.reset.get FM_FSTAT_SF3DEM = 3 ∧
  State.reset.on FM_FSTAT_NOPARAM = true ∧
  State.reset.get WI_RSTAT_FREQ = 250000 ∧
  (∀ b : Fin 8, State.reset.blk b.val = blkStopped ∧ State.reset.on BLK_BLKCTL_OWNED b.val = false) ∧
  (∀ c : Fin 48, State.reset.cellOff c.val = true)

/-- The state after reset has the canonical form. At reset the register file and memory have their canonical form: keys strictly rising, no entry
equal to what an unlisted place reads as. (R5, R438) -/
def Obligations.ResetIsWellFormed : Prop :=
  State.reset.wf = true

/-- Every step keeps the canonical form. From every state whose register file and memory have the canonical form, a step, be it any command or an idle
tick, gives a state that has it: addresses strictly rising, and no entry equal to what an unlisted address reads as. (R5, R438) -/
def Obligations.StepKeepsTheForm : Prop :=
  ∀ (s t : State), s.wf = true → step s = .next t → t.wf = true

/-- A command changes no part of the state but those named for it. For every command, every register kind, memory, time and every unit's state that
mayChange does not name for it is the same after it: every copy of such a register reads the same, every byte of an unnamed memory reads the same. The
parts named are the registers, flags and units that the rules of the command's row say it writes. (95_what_each_step_holds.md, R3, R502) -/
def Obligations.CommandsChangeOnlyTheirParts : Prop :=
  ∀ (c : Instr) (s t : State) (p : Part), exec c s = .next t → p ∈ Part.all → p ∉ mayChange c → p.same s t

/-- Life-cycle state, anti-rollback counts, counter marks and time never go back. No step lowers the life-cycle state, a step count of the OTP or a
counter's high-water mark, and no step turns time back or takes a free value twice. (R11, R366, R375) -/
def Obligations.OneWayCountsNeverFall : Prop :=
  ∀ (s t : State), step s = .next t →
    s.lc ≤ t.lc ∧
    (∀ k : Fin 6, s.bank.arb[k] ≤ t.bank.arb[k]) ∧
    (∀ k : Fin 32, s.bank.marks[k] ≤ t.bank.marks[k]) ∧
    s.now ≤ t.now ∧
    s.freeIdx ≤ t.freeIdx

/-- What is stored in a register or field is read back, and no other place changes. A word stored in a copy of a register is read back there, and
every other copy of every register keeps its word. A value stored in a field reads back modulo the field's width, every other field of the same or any
other register keeps its value, and memory is untouched. (R2, R3) -/
def Obligations.RegistersAndFieldsReadBack : Prop :=
  (∀ (s : State) (r : RegId) (v : Word) (i j : Nat), r.has i j = true → (s.wrw r v i j).rdw r i j = v) ∧
  (∀ (s : State) (r q : RegId) (v : Word) (i j a b : Nat), q.has a b = true → (q ≠ r ∨ a ≠ i ∨ b ≠ j) →
    (s.wrw r v i j).rdw q a b = s.rdw q a b) ∧
  (∀ (s : State) (f : Fld) (v i j : Nat), f.reg.has i j = true → f.lo + f.width ≤ 32 → (s.put f v i j).get f i j = v % 2 ^ f.width) ∧
  (∀ (s : State) (f g : Fld) (v i j : Nat), f.reg.has i j = true → f.reg = g.reg → (f.lo + f.width ≤ g.lo ∨ g.lo + g.width ≤ f.lo) →
    (s.put f v i j).get g i j = s.get g i j) ∧
  (∀ (s : State) (f : Fld) (v i j a : Nat), (s.put f v i j).byte a = s.byte a)

/-- Bytes stored are read back little-endian, and no other byte changes. A byte stored is read back and every other byte stays. A run of bytes stored
from an address is read back in address order; the little-endian bytes of a number spell it again modulo their width. (R1, R438) -/
def Obligations.MemoryReadsBack : Prop :=
  (∀ (s : State) (a c : Nat) (v : Byte), (s.setByte a v).byte c = if c = a then v else s.byte c) ∧
  (∀ (s : State) (a : Nat) (l : List Byte), (s.setBytes a l).bytes a l.length = l) ∧
  (∀ (s : State) (a c : Nat) (l : List Byte), (c < a ∨ a + l.length ≤ c) → (s.setBytes a l).byte c = s.byte c) ∧
  (∀ (n v : Nat), leNat (leBytes n v) = v % 256 ^ n)

/-- A superframe sealed by one device is accepted by the next, a poisoned one is not. For every body of 2,956 bytes, the frame that sealFrame makes
has 2,960 bytes, its body and a CRC that the check of reception accepts; the frame that poisonFrame makes fails the check and is recognised as
poisoned. (R459, R469) -/
def Obligations.SealedFramesPass : Prop :=
  ∀ (body : List Byte), body.length = 2956 →
    (sealFrame body).length = 2960 ∧ (sealFrame body).take 2956 = body ∧
    fieldAt (sealFrame body) 2956 4 = (crc32 ((sealFrame body).take 2956)).toNat ∧
    (poisonFrame body).length = 2960 ∧ (poisonFrame body).take 2956 = body ∧
    fieldAt (poisonFrame body) 2956 4 = (~~~(crc32 ((poisonFrame body).take 2956))).toNat ∧
    fieldAt (poisonFrame body) 2956 4 ≠ (crc32 ((poisonFrame body).take 2956)).toNat

/-- SQT's root is the largest integer whose square does not exceed the operand. For every n below 2^128 the root r that SQT uses satisfies r·r ≤ n <
(r + 1)·(r + 1). (R105) -/
def Obligations.SquareRootsRoundDown : Prop :=
  ∀ (n : Nat), n < 2 ^ 128 → isqrt n * isqrt n ≤ n ∧ n < (isqrt n + 1) * (isqrt n + 1)

/-- A register write takes each field under its access code. A write to one of the shadow plan registers stores, bit by bit, the written value in the
RW bits, clears the W1C bits written 1, keeps every other bit, answers without error, and changes no other copy of any register and no byte of memory.
(R3, R502) -/
def Obligations.RegisterWriteTakesFields : Prop :=
  (∀ (s : State) (m : Master) (r : RegId) (i : Crew) (v : Word),
    s.busOpen m = true →
    r ∈ planRegs →
    ∃ t, exec (.registerWrite m (BitVec.ofNat 32 (r.addr i.val 0)) v) s = .next t ∧
      t.bus = ⟨0, .ok⟩ ∧
      (∀ k : Fin 32, (t.rdw r i.val).getLsbD k.val = if r.reg.rw.testBit k.val then v.getLsbD k.val else if r.reg.w1c.testBit k.val && v.getLsbD k.val && !(s.freshBits r i.val).getLsbD k.val then false else (s.rdw r i.val).getLsbD k.val) ∧
      (∀ q a b, q.has a b = true → (q ≠ r ∨ a ≠ i.val ∨ b ≠ 0) → t.rdw q a b = s.rdw q a b) ∧
      (∀ a, t.byte a = s.byte a))

/-- An unmapped address of a window reads 0 and sets ADDR_UNMAPPED; a memory access reads its word and writes its enabled bytes. A read or write at an
unmapped address of a peripheral window whose chapter names an ADDR_UNMAPPED field completes without a bus error, returns 0 and sets that field;
outside every range of the map it changes no register and no byte, and a core takes an access fault, any other master an error status. A write by a
pair whose bus ports are closed changes nothing. A write to shared memory that is neither held nor refused, or to the master's own TCM, stores the
enabled bytes of the word at the aligned address, and every other byte reads as before, but for a pair's journal area where the write is journaled;
such a read without an error answers the word and leaves every byte as it is. A write to another pair's TCM, the ring (by a crew that is not held) or
the flash window changes no byte and sets TCM_DENIED, RING_DENIED or FLASH_DENIED. A read of a first register of a group answers its value and latches
the partners. (R4, R268, R271, R281, R285, R438, R441, R503) -/
def Obligations.AccessesReachTheirTargets : Prop :=
  (∀ (s : State) (m : Master) (a : Word) (w : Option Word) (f : Fld) (i : Nat),
    s.busOpen m = true →
    inPeriph a.toNat = true →
    s.regFor m a.toNat = none →
    inSelf a.toNat = false →
    unmappedFld a.toNat = some (f, i) →
    ∃ t, exec (.addrUnmapped m a w) s = .next t ∧
      t.get f i = 1 ∧
      t.bus = ⟨0, .ok⟩) ∧
  (∀ (s : State) (m : Master) (a : Word) (op : MemOp),
    s.busOpen m = true →
    inPeriph a.toNat = false →
    rangeOf a.toNat = none →
    ∃ t, exec (.accessFault m a op) s = .next t ∧
      t.regs = s.regs ∧
      t.mem = s.mem ∧
      (t.bus = ⟨0, match m with | .pair _ | .core _ _ => .accessFault | _ => .errorStatus⟩) ∧
      (match m with | .pair n => (t.pairU n.val).core0.regs.csr 0x342 = (if op = .read then 5 else 7) ∧ (t.pairU n.val).core0.regs.csr 0x343 = a | _ => True)) ∧
  (∀ (s : State) (m : Master) (a : Word) (v : Word),
    s.busOpen m = false →
    ∃ t, exec (.registerWrite m a v) s = .next t ∧
      t = s) ∧
  (∀ (s : State) (m : Master) (c : Crew) (a : Word) (be : BitVec 4) (v : Word) (ecc : Fin 3),
    s.busOpen m = true →
    (((rangeOf (a.toNat / 4 * 4) = some .sram ∨ rangeOf (a.toNat / 4 * 4) = some .dram) ∧ s.heldCrew (s.accessCrew m c.val) = false ∧ s.writeDenied m (a.toNat / 4 * 4) = false) ∨ (rangeOf (a.toNat / 4 * 4) = some .tcm ∧ s.ownsTcm m (a.toNat / 4 * 4) = true)) →
    ∃ t, exec (.memoryAccess m c a (.write be v) ecc) s = .next t ∧
      t.bus = ⟨0, .ok⟩ ∧
      (∀ k : Fin 4, be.getLsbD k.val = true → t.byte (a.toNat / 4 * 4 + k.val) = BitVec.ofNat 8 (v.toNat / 256 ^ k.val)) ∧
      (∀ x, ¬ (a.toNat / 4 * 4 ≤ x ∧ x < a.toNat / 4 * 4 + 4 ∧ be.getLsbD (x - a.toNat / 4 * 4) = true) → (∀ n : Pair, m = .pair n → s.optSpares ≠ 0 → s.journaled n.val (a.toNat / 64 * 64) = true → x < journalBase n.val ∨ journalBase n.val + 0x18000 ≤ x) → t.byte x = s.byte x)) ∧
  (∀ (s : State) (m : Master) (c : Crew) (a : Word),
    s.busOpen m = true →
    (((rangeOf (a.toNat / 4 * 4) = some .sram ∨ rangeOf (a.toNat / 4 * 4) = some .dram) ∧ s.heldCrew (s.accessCrew m c.val) = false) ∨ (rangeOf (a.toNat / 4 * 4) = some .tcm ∧ s.ownsTcm m (a.toNat / 4 * 4) = true)) →
    ∃ t, exec (.memoryAccess m c a .read 0) s = .next t ∧
      t.bus = ⟨BitVec.ofNat 32 ((s.byte (a.toNat / 4 * 4)).toNat + 256 * (s.byte (a.toNat / 4 * 4 + 1)).toNat + 65536 * (s.byte (a.toNat / 4 * 4 + 2)).toNat + 16777216 * (s.byte (a.toNat / 4 * 4 + 3)).toNat), .ok⟩ ∧
      (∀ x, t.byte x = s.byte x)) ∧
  (∀ (s : State) (m : Master) (c : Crew) (a : Word) (be : BitVec 4) (v : Word) (ecc : Fin 3) (g : Range),
    s.busOpen m = true →
    rangeOf (a.toNat / 4 * 4) = some g →
    ((g = .tcm ∧ s.ownsTcm m (a.toNat / 4 * 4) = false) ∨ (g = .ring ∧ s.heldCrew (s.accessCrew m c.val) = false) ∨ g = .flash) →
    ∃ t, exec (.memoryAccess m c a (.write be v) ecc) s = .next t ∧
      t.mem = s.mem ∧
      t.bus = ⟨0, .ok⟩ ∧
      (g = .tcm → t.get DR_DSTAT_TCM_DENIED = 1) ∧
      (g = .ring → t.get SE_SSTAT_RING_DENIED = 1) ∧
      (g = .flash → t.get SE_MEMSTAT_FLASH_DENIED = 1)) ∧
  (∀ (s : State) (m : Master) (a : Word) (r q : RegId) (i : Nat),
    s.busOpen m = true →
    inPeriph a.toNat = true →
    s.regFor m a.toNat = some (r, i, 0) →
    q ∈ r.partners →
    ∃ t, exec (.latchingRead m a) s = .next t ∧
      t.bus = ⟨s.current r i 0 &&& ~~~(BitVec.ofNat 32 r.reg.wo), .ok⟩ ∧
      t.view q i 0 = s.current q i 0 &&& ~~~(BitVec.ofNat 32 q.reg.wo))

/-- The debugger reads and writes the registers of a halted or running pair; the Adit port ends its session, resets and scans. While an Adit session
is open, a request to a pair in lock-step that is neither OFF nor FAILED halts it, writes and reads its integer and floating registers and its pc as
asked; x0 stays 0. At its deadline a session ends: time has come to it, the port is closed with CLOSEWHY 1, the TAP is back at BYPASS and with no
reset in progress every pair halted through the port takes a pair warm reset. A reset request through the open port, no reset in progress, is a device
warm reset with cause 9; through a closed one it does nothing. With the port powered IDCODE shifts out 19648A5Bh and BYPASS 0, whatever the port's
state; SAMPLE/PRELOAD and EXTEST select themselves through an open port in BLANK, MAKER, INTEGRATE and RETURN, reaching all pins in the first two and
host-link and GPIO pins in the others, and act as BYPASS with a closed port and in FIELD and SCRAP. A TAP without power (PARK and LAMP-ONLY) answers
nothing. (R297, R353, R355, R410) -/
def Obligations.AditPortAndDebuggerWork : Prop :=
  (∀ (s : State) (n : Pair) (k : Fin 32) (v : Word),
    s.aditOpen = true →
    s.isSplit n.val = false →
    s.pst n.val ≠ pairOff →
    s.pst n.val ≠ pairFailed →
    ∃ t, exec (.debugRequest n (.writeX k v)) s = .next t ∧
      ((t.pairU n.val).core0.regs.getX k.val = if k.val = 0 then 0 else v)) ∧
  (∀ (s : State) (n : Pair) (k : Fin 32),
    s.aditOpen = true →
    s.isSplit n.val = false →
    s.pst n.val ≠ pairOff →
    s.pst n.val ≠ pairFailed →
    ∃ t, exec (.debugRequest n (.readX k)) s = .next t ∧
      t.bus = ⟨(s.pairU n.val).core0.regs.getX k.val, .ok⟩ ∧
      t.mem = s.mem) ∧
  (∀ (s : State) (n : Pair),
    s.aditOpen = true →
    s.isSplit n.val = false →
    s.pst n.val ≠ pairOff →
    s.pst n.val ≠ pairFailed →
    ∃ t, exec (.debugRequest n .halt) s = .next t ∧
      t.get DR_PSTATE_DEBUG n.val = 1) ∧
  (∀ (s : State) (n : Pair) (v : Word),
    s.aditOpen = true →
    s.isSplit n.val = false →
    s.pst n.val ≠ pairOff →
    s.pst n.val ≠ pairFailed →
    ∃ t, exec (.debugRequest n (.writePc v)) s = .next t ∧
      (t.pairU n.val).core0.regs.pc = v) ∧
  (∀ (s : State) (d : Nat) (a : AditU),
    s.deadline .aditEnd = some d →
    s.bank.adit = some a →
    ∃ t, exec .aditSessionEnd s = .next t ∧
      t.bank.adit = none ∧
      t.bank.tap = tapBypass ∧
      t.on BK_ADITSTAT_OPEN = false ∧
      t.get BK_ADITSTAT_CLOSEWHY = 1 ∧
      (∀ n ∈ a.halted, n < 16 → t.pst n = pairStart) ∧
      t.now = max s.now d) ∧
  (∀ (s : State),
    s.deadline .aditEnd = none →
    ∃ t, exec .aditSessionEnd s = .next t ∧
      t = s) ∧
  (∀ (s : State),
    s.aditOpen = true →
    s.resetting = false →
    ∃ t, exec .aditResetRequest s = .next t ∧
      t.get RS_RSTSTAT_LASTCAUSE = 9 ∧
      t.get RS_RSTSTAT_LASTSCOPE = scopeDevice ∧
      t.supply.step = 5) ∧
  (∀ (s : State),
    s.aditOpen = false →
    ∃ t, exec .aditResetRequest s = .next t ∧
      t = s) ∧
  (∀ (s : State),
    s.supply.place = 0 →
    ∃ t, exec .idcode s = .next t ∧
      t.bank.tap = tapIdcode ∧
      t.bank.tapOut = 0x19648A5B ∧
      t.bank.tapPins = 0 ∧
      t.bank.adit = s.bank.adit) ∧
  (∀ (s : State),
    s.supply.place = 0 →
    ∃ t, exec .bypass s = .next t ∧
      t.bank.tap = tapBypass ∧
      t.bank.tapOut = 0 ∧
      t.bank.tapPins = 0 ∧
      t.bank.adit = s.bank.adit) ∧
  (∀ (s : State),
    s.supply.place = 0 →
    ∃ t, exec .samplePreload s = .next t ∧
      (s.scanAllowed = true → t.bank.tap = tapSample ∧ t.bank.tapPins = if s.lc = lcBlank ∨ s.lc = lcMaker then 2 else 1) ∧
      (s.scanAllowed = false → t.bank.tap = tapBypass ∧ t.bank.tapOut = 0 ∧ t.bank.tapPins = 0)) ∧
  (∀ (s : State),
    s.supply.place = 0 →
    ∃ t, exec .extest s = .next t ∧
      (s.scanAllowed = true → t.bank.tap = tapExtest ∧ t.bank.tapPins = if s.lc = lcBlank ∨ s.lc = lcMaker then 2 else 1) ∧
      (s.scanAllowed = false → t.bank.tap = tapBypass ∧ t.bank.tapOut = 0 ∧ t.bank.tapPins = 0)) ∧
  (∀ (s : State),
    s.supply.place ≠ 0 →
    ∃ t, exec .idcode s = .next t ∧
      t = s) ∧
  (∀ (s : State),
    s.supply.place ≠ 0 →
    ∃ t, exec .bypass s = .next t ∧
      t = s) ∧
  (∀ (s : State),
    s.supply.place ≠ 0 →
    ∃ t, exec .samplePreload s = .next t ∧
      t.bank = s.bank ∧
      t.supply = s.supply) ∧
  (∀ (s : State),
    s.supply.place ≠ 0 →
    ∃ t, exec .extest s = .next t ∧
      t.bank = s.bank ∧
      t.supply = s.supply)

/-- A block moves between STOPPED, ARMED and RUNNING at its owner's request; a STOPPED unlocked block takes ownership and cells from a master that may
write it. At the request of its owner, in a tick without a trip of the block, the ownership fields of an arming write as they stand: a STOPPED block
that meets the conditions of R21 becomes ARMED; an ARMED block that meets those of RUNNING becomes RUNNING; an ARMED block becomes STOPPED; a RUNNING
block notes the exit and stays RUNNING until it takes effect, which outside a counting carrier is the next tick. A request in the tick of a trip
leaves the block's state and sets STATE_DENIED. While a block is STOPPED and not locked, a write by a lock-step pair that the owner rule admits stores
OWNER, OWNED, DOMAIN and LOCK, where the pair that would own it is fit to; a write of admissible cells stores them and nothing else of the bindings
changes. (R18, R19, R21, R22) -/
def Obligations.BlocksMoveAndAreOwned : Prop :=
  (∀ (s : State) (m : Master) (b : Block) (v : Word),
    s.busOpen m = true →
    s.isOwner m b.val = true →
    (s.blkU b.val).tripped ≠ some s.now →
    s.blk b.val = blkStopped →
    s.mayArm b.val = true →
    s.rdw .BLK_BLKCTL b.val &&& ownerMask = v &&& ownerMask →
    ∃ t, exec (.reqArmed m b v) s = .next t ∧
      t.blk b.val = blkArmed) ∧
  (∀ (s : State) (m : Master) (b : Block) (v : Word),
    s.busOpen m = true →
    s.isOwner m b.val = true →
    (s.blkU b.val).tripped ≠ some s.now →
    s.blk b.val = blkArmed →
    s.mayRun b.val = true →
    ∃ t, exec (.reqRunning m b v) s = .next t ∧
      t.blk b.val = blkRunning) ∧
  (∀ (s : State) (m : Master) (b : Block) (v : Word),
    s.busOpen m = true →
    s.isOwner m b.val = true →
    (s.blkU b.val).tripped ≠ some s.now →
    s.blk b.val = blkArmed →
    ∃ t, exec (.reqStopped m b v) s = .next t ∧
      t.blk b.val = blkStopped) ∧
  (∀ (s : State) (m : Master) (b : Block) (v : Word),
    s.busOpen m = true →
    s.isOwner m b.val = true →
    (s.blkU b.val).tripped ≠ some s.now →
    s.blk b.val = blkRunning →
    ∃ t, exec (.reqStopped m b v) s = .next t ∧
      t.blk b.val = blkRunning ∧
      (t.blkU b.val).exit = some blkStopped) ∧
  (∀ (s : State) (b : Block) (st : Nat),
    (s.blkU b.val).exit = some st →
    st < 4 →
    s.on PW_GRPSTAT_RUN b.val = false →
    ∃ t, exec (.runningExitAtValley b) s = .next t ∧
      t.blk b.val = st ∧
      t.now = s.now + 1 ∧
      (t.blkU b.val).exit = none) ∧
  (∀ (s : State) (m : Master) (b : Block) (v : Word),
    s.busOpen m = true →
    s.isOwner m b.val = true →
    (s.blkU b.val).tripped = some s.now →
    ∃ t, exec (.reqRunning m b v) s = .next t ∧
      t.blk b.val = s.blk b.val ∧
      t.get BLK_BLKCTL_STATE_DENIED b.val = 1) ∧
  (∀ (s : State) (m : Master) (b : Block) (v : Word),
    s.busOpen m = true →
    s.mayWriteBlock m b.val = true →
    s.lockstep m = true →
    s.blk b.val = blkStopped →
    s.on BLK_BLKCTL_LOCK b.val = false →
    s.unfitOwner (BLK_BLKCTL_OWNER.of v) = false →
    ∃ t, exec (.ownershipWrite m b v) s = .next t ∧
      t.get BLK_BLKCTL_OWNER b.val = BLK_BLKCTL_OWNER.of v ∧
      t.get BLK_BLKCTL_OWNED b.val = BLK_BLKCTL_OWNED.of v ∧
      t.get BLK_BLKCTL_DOMAIN b.val = BLK_BLKCTL_DOMAIN.of v ∧
      t.get BLK_BLKCTL_LOCK b.val = BLK_BLKCTL_LOCK.of v ∧
      t.blk b.val = blkStopped) ∧
  (∀ (s : State) (m : Master) (b : Block) (hi : Bool) (v : Word),
    s.busOpen m = true →
    s.mayWriteBlock m b.val = true →
    s.blk b.val = blkStopped →
    s.on BLK_BLKCTL_LOCK b.val = false →
    s.bindOk b.val hi (v &&& BitVec.ofNat 32 (cellsReg hi).reg.rw) = true →
    ∃ t, exec (.cellBindingWrite m b hi v) s = .next t ∧
      t.rdw (cellsReg hi) b.val &&& BitVec.ofNat 32 (cellsReg hi).reg.rw = v &&& BitVec.ofNat 32 (cellsReg hi).reg.rw ∧
      (∀ k : Block, k ≠ b → t.rdw (cellsReg hi) k.val = s.rdw (cellsReg hi) k.val) ∧
      (∀ k : Block, t.rdw (cellsReg (!hi)) k.val = s.rdw (cellsReg (!hi)) k.val))

/-- An angle domain wraps, takes a new source, is measured by its tracker, and coasts without its source; event slots are armed, moved and fired. A
domain that advances with an increment above 0 wraps: time moves on, TURN counts one more modulo 2^32 and the position lies less than one increment
past 0 au. A changed SRC takes effect and the position stays: under OFF the state is OFF, from OFF or from LOST it is ACQUIRE, from OFF at the nominal
increment within its limits. A tracker update whose TRKIN names slices writes FREQ, PMAG, NMAG and NANG as measured; ROCOF becomes the difference of
FREQ over ROCWIN turns where the measured angle has passed 0 forward since the last update and that many turn ends are kept, and else stays; with a
slice number above 239 all five read 0. Under TRACKER a LIVE domain takes the tracker's increment within the limits; at the third update in a row
below COASTTHR it coasts with COAST_SEEN. A Uhla domain of a device that is not the angle master, or a Pick domain, whose loss deadline comes while
LIVE coasts with SRC_LOST and COAST_SEEN, COASTMAX armed. COASTMAX in COAST ends in LOST. EVTCTL written while EN is 0 is stored, and where it sets
EN, NEXT takes the angle EVTANG and lies ahead of the position of the domain it names, by at most a turn; while EN is 1, DOMAIN stays and the rest is
stored, and a changed DOMAIN sets WRITE_DENIED of the domain that DOMAIN names. EVTANG is stored; of an enabled slot NEXT keeps its turn with the new
angle, one turn later where that is not ahead. An enabled slot of a domain in LIVE or COAST with an increment above 0 fires once its position has
reached NEXT: COUNT counts up, ONESHOT clears EN, else NEXT moves on by NTURN turns, at least 1. (R33, R34, R36, R37, R40, R41, R42, R45, R54) -/
def Obligations.DomainsAndEventSlotsAct : Prop :=
  (∀ (s : State) (d : Dom),
    domAdvances (s.domSt d.val) = true →
    0 < s.get HF_INC_INC d.val →
    ∃ t, exec (.angleWrap d) s = .next t ∧
      t.get HF_TURN_TURN d.val = (s.get HF_TURN_TURN d.val + 1) % 2 ^ 32 ∧
      (t.dom d.val).pos.toNat % 2 ^ 48 < s.get HF_INC_INC d.val ∧
      s.now < t.now) ∧
  (∀ (s : State) (d : Dom),
    s.get HF_DOMCTL_SRC d.val ≠ (s.dom d.val).src →
    ∃ t, exec (.domainSrcApply d) s = .next t ∧
      (t.dom d.val).src = s.get HF_DOMCTL_SRC d.val ∧
      (t.dom d.val).pos = (s.dom d.val).pos ∧
      (s.get HF_DOMCTL_SRC d.val = srcOff → t.domSt d.val = domOff) ∧
      ((s.dom d.val).src = srcOff → t.domSt d.val = domAcquire ∧ t.get HF_INC_INC d.val = max incMin (min incMax s.nomInc)) ∧
      (s.get HF_DOMCTL_SRC d.val ≠ srcOff → s.domSt d.val = domLost → t.domSt d.val = domAcquire)) ∧
  (∀ (s : State) (d : Dom) (m : TrkMeas),
    s.trkinOk d.val = true →
    ∃ t, exec (.trackerUpdate d m) s = .next t ∧
      t.rdw .HF_FREQ d.val = m.freq ∧
      (t.rdw .HF_ROCOF d.val = match (s.dom d.val).lastAng, (s.dom d.val).turnFreqs[s.rocWin d.val - 1]? with | some a, some (f₀, at_) => if m.ang.toNat < a.toNat ∧ 0 < (m.ang - a).toInt then wordOfInt (freqSlope m.freq.toNat f₀ (s.now - at_)) else s.rdw .HF_ROCOF d.val | _, _ => s.rdw .HF_ROCOF d.val) ∧
      t.rdw .HF_PMAG d.val = m.pmag ∧
      t.rdw .HF_NMAG d.val = m.nmag ∧
      t.rdw .HF_NANG d.val = m.nang) ∧
  (∀ (s : State) (d : Dom) (m : TrkMeas),
    s.trkinOk d.val = false →
    ∃ t, exec (.trackerUpdate d m) s = .next t ∧
      t.rdw .HF_FREQ d.val = 0 ∧
      t.rdw .HF_ROCOF d.val = 0 ∧
      t.rdw .HF_PMAG d.val = 0 ∧
      t.rdw .HF_NMAG d.val = 0 ∧
      t.rdw .HF_NANG d.val = 0) ∧
  (∀ (s : State) (d : Dom) (m : TrkMeas) (n : Nat),
    s.trkinOk d.val = true →
    (s.dom d.val).src = srcTracker →
    s.get HF_DOMCTL_SRC d.val = srcTracker →
    s.domSt d.val = domLive →
    s.magAtLeast d.val (s.get HF_TRKTHR_COASTTHR d.val) m.pmag = true →
    m.inc = some n →
    m.jump = none →
    ∃ t, exec (.trackerUpdate d m) s = .next t ∧
      t.domSt d.val = domLive ∧
      t.get HF_INC_INC d.val = max incMin (min incMax n)) ∧
  (∀ (s : State) (d : Dom) (m : TrkMeas) (n : Nat),
    s.trkinOk d.val = true →
    (s.dom d.val).src = srcTracker →
    s.get HF_DOMCTL_SRC d.val = srcTracker →
    s.domSt d.val = domLive →
    s.magAtLeast d.val (s.get HF_TRKTHR_COASTTHR d.val) m.pmag = false →
    (s.dom d.val).below = 2 →
    (s.dom d.val).coastMean = some n →
    m.jump = none →
    ∃ t, exec (.trackerUpdate d m) s = .next t ∧
      t.domSt d.val = domCoast ∧
      t.get HF_DOMSTAT_COAST_SEEN d.val = 1 ∧
      t.get HF_INC_INC d.val = max incMin (min incMax n) ∧
      t.deadline (.coast d.val) = some (s.now + s.coastMax d.val)) ∧
  (∀ (s : State) (d : Dom) (e : Nat),
    s.deadline (.coast d.val) = some e →
    s.domSt d.val = domCoast →
    ∃ t, exec (.coastTimeout d) s = .next t ∧
      t.domSt d.val = domLost ∧
      t.now = max s.now e ∧
      t.armed (.coast d.val) = false) ∧
  (∀ (s : State) (d : Dom) (e : Nat),
    s.deadline (.uhlaSource d.val) = some e →
    s.domSt d.val = domLive →
    (s.dom d.val).src = srcUhla →
    s.on UH_USTAT_MASTER = false →
    ∃ t, exec (.uhlaSourceLoss d) s = .next t ∧
      t.domSt d.val = domCoast ∧
      t.get HF_DOMSTAT_SRC_LOST d.val = 1 ∧
      t.get HF_DOMSTAT_COAST_SEEN d.val = 1 ∧
      t.now = max s.now e ∧
      t.deadline (.coast d.val) = some (t.now + s.coastMax d.val)) ∧
  (∀ (s : State) (d : Dom) (e : Nat),
    s.deadline (.pickSource d.val) = some e →
    s.domSt d.val = domLive →
    (s.dom d.val).src = srcPick →
    ∃ t, exec (.pickSourceTimeout d) s = .next t ∧
      t.domSt d.val = domCoast ∧
      t.get HF_DOMSTAT_SRC_LOST d.val = 1 ∧
      t.get HF_DOMSTAT_COAST_SEEN d.val = 1 ∧
      t.now = max s.now e ∧
      t.deadline (.coast d.val) = some (t.now + s.coastMax d.val)) ∧
  (∀ (s : State) (m : Master) (k : EvSlot) (v : Word),
    s.busOpen m = true →
    s.on EV_EVTCTL_EN k.val = false →
    ∃ t, exec (.evtctlWrite m k v) s = .next t ∧
      t.rdw .EV_EVTCTL k.val = RegId.EV_EVTCTL.written (s.rdw .EV_EVTCTL k.val) v ∧
      (EV_EVTCTL_EN.of v = 1 → 0 < (t.slotNext k.val - t.slotPos k.val).toInt ∧ (t.slotNext k.val - t.slotPos k.val).toInt ≤ 2 ^ 32 ∧ BitVec.ofNat 32 (t.slotNext k.val).toNat = s.rdw .EV_EVTANG k.val)) ∧
  (∀ (s : State) (m : Master) (k : EvSlot) (v : Word),
    s.busOpen m = true →
    s.on EV_EVTCTL_EN k.val = true →
    ∃ t, exec (.evtctlWrite m k v) s = .next t ∧
      t.rdw .EV_EVTCTL k.val = RegId.EV_EVTCTL.written (s.rdw .EV_EVTCTL k.val) (EV_EVTCTL_DOMAIN.into v (s.get EV_EVTCTL_DOMAIN k.val)) ∧
      (EV_EVTCTL_DOMAIN.of v ≠ s.get EV_EVTCTL_DOMAIN k.val → t.get HF_DOMSTAT_WRITE_DENIED (s.get EV_EVTCTL_DOMAIN k.val) = 1) ∧
      t.slotNext k.val = s.slotNext k.val) ∧
  (∀ (s : State) (m : Master) (k : EvSlot) (v : Word),
    s.busOpen m = true →
    s.on EV_EVTCTL_EN k.val = true →
    ∃ t, exec (.evtangWrite m k v) s = .next t ∧
      t.rdw .EV_EVTANG k.val = v ∧
      (t.slotNext k.val = if 0 < (BitVec.ofNat 64 ((s.slotNext k.val).toNat / 2 ^ 32 * 2 ^ 32 + v.toNat) - s.slotPos k.val).toInt then BitVec.ofNat 64 ((s.slotNext k.val).toNat / 2 ^ 32 * 2 ^ 32 + v.toNat) else BitVec.ofNat 64 ((s.slotNext k.val).toNat / 2 ^ 32 * 2 ^ 32 + v.toNat) + BitVec.ofNat 64 (2 ^ 32))) ∧
  (∀ (s : State) (m : Master) (k : EvSlot) (v : Word),
    s.busOpen m = true →
    s.on EV_EVTCTL_EN k.val = false →
    ∃ t, exec (.evtangWrite m k v) s = .next t ∧
      t.rdw .EV_EVTANG k.val = v ∧
      t.slotNext k.val = s.slotNext k.val) ∧
  (∀ (s : State) (k : EvSlot),
    s.on EV_EVTCTL_EN k.val = true →
    s.usable (s.get EV_EVTCTL_DOMAIN k.val) = true →
    0 < s.get HF_INC_INC (s.get EV_EVTCTL_DOMAIN k.val) →
    ∃ t, exec (.slotFire k) s = .next t ∧
      0 ≤ (t.slotPos k.val - s.slotNext k.val).toInt ∧
      t.get EV_EVTSTAT_COUNT k.val = (s.get EV_EVTSTAT_COUNT k.val + 1) % 2 ^ EV_EVTSTAT_COUNT.width ∧
      (s.on EV_EVTCTL_ONESHOT k.val = true → t.on EV_EVTCTL_EN k.val = false) ∧
      (s.on EV_EVTCTL_ONESHOT k.val = false → t.slotNext k.val = s.slotNext k.val + BitVec.ofNat 64 (atLeast1 (s.get EV_EVTCTL_NTURN k.val) * 2 ^ 32)))

/-- The Shift plan makes frame boundaries and takes an admissible plan; a crew that exhausts a budget or meets the floor is parked. With no switch
awaited, the frame source's position in its last boundary's frame or past it, and no accepted envelope to apply, a frame boundary comes at that
frame's end: FRAME is the frame of the source's position modulo 64, the frames passed over beyond one count in SKIP, a pending plan becomes each
crew's plan and PENDING clears, each crew's Drift budget is its grant of the frame, 0 of a crew that is not enabled, FLOORED clears, and the Drift bit
of EXHAUSTED is clear of a crew with a budget. A filler boundary, where the source does not come first, does the same at its tick without changing
FRAME, and counts FILLER. At an awaited usable domain's boundary that domain becomes the source, SRCCHG counts, and FRAME is the domain's frame. GO on
an admissible shadow plan sets PENDING; on another it clears PENDING and sets ADMIT_DENIED. An enabled crew that is not parked and has something left
of a budget, on exhausting it, has that budget at 0, its bits of EXHAUSTED and OVERRUN set and is parked; where it has Drift cycles left or exhausts
them, OVCOUNT counts one more, saturating, and EXHAUSTED holds that bit alone. A crew that core 0 of its pair runs and that is not its supervisor crew
leaves it to the supervisor crew; a supervisor crew that exhausts its Drift budget waits for the frame. An enabled non-essential crew that core 0 of
its pair runs, not parked and not the supervisor crew, is parked with FLOORED when the cycles left in the frame have fallen to the essential crews'
unspent grants; the supervisor crew takes the core, and the crew's OVERRUN bit stays. (R47, R48, R49, R50, R51, R52, R53) -/
def Obligations.FramesPlansAndCrews : Prop :=
  (∀ (s : State),
    s.plan.awaitFrame = none →
    s.plan.await = none →
    (s.get SP_STAT_SOURCE < 4 → s.usable (s.get SP_STAT_SOURCE) = true) →
    0 < s.sourcePos.2 →
    s.bank.accepted = [] →
    0 ≤ (frame38 s.sourcePos.1 - s.plan.lastFrame).toInt →
    ∃ t, exec .frameBoundary s = .next t ∧
      t.get SP_STAT_FRAME = (frame38 t.sourcePos.1).toNat % 64 ∧
      t.plan.lastFrame = frame38 t.sourcePos.1 ∧
      0 < (frame38 t.sourcePos.1 - s.plan.lastFrame).toInt ∧
      t.get SP_CNT_SKIP = (s.get SP_CNT_SKIP + ((frame38 t.sourcePos.1 - s.plan.lastFrame).toNat - 1)) % 2 ^ SP_CNT_SKIP.width ∧
      t.on SP_COMMIT_PENDING = false ∧
      (∀ c : Crew, t.crew c.val = if s.on SP_COMMIT_PENDING then s.shadowCrew c.val else s.crew c.val) ∧
      (∀ c : Crew, t.get SP_REMAIN0_DRIFT c.val = if (t.crew c.val).en then (t.crew c.val).grant (t.get SP_STAT_FRAME) .drift else 0) ∧
      (∀ c : Crew, t.get SP_CREWSTAT_FLOORED c.val = 0 ∧ (0 < t.get SP_REMAIN0_DRIFT c.val → t.get SP_CREWSTAT_EXHAUSTED c.val % 2 = 0)) ∧
      t.plan.wasFiller = false) ∧
  (∀ (s : State),
    s.sourceFirst = false →
    s.bank.accepted = [] →
    ∃ t, exec .fillerBoundary s = .next t ∧
      t.get SP_STAT_FRAME = s.get SP_STAT_FRAME ∧
      t.get SP_CNT_FILLER = (s.get SP_CNT_FILLER + 1) % 2 ^ SP_CNT_FILLER.width ∧
      t.now = max s.now s.fillerDue ∧
      t.on SP_COMMIT_PENDING = false ∧
      (∀ c : Crew, t.crew c.val = if s.on SP_COMMIT_PENDING then s.shadowCrew c.val else s.crew c.val) ∧
      (∀ c : Crew, t.get SP_REMAIN0_DRIFT c.val = if (t.crew c.val).en then (t.crew c.val).grant (t.get SP_STAT_FRAME) .drift else 0) ∧
      (∀ c : Crew, t.get SP_CREWSTAT_FLOORED c.val = 0 ∧ (0 < t.get SP_REMAIN0_DRIFT c.val → t.get SP_CREWSTAT_EXHAUSTED c.val % 2 = 0)) ∧
      t.plan.wasFiller = true) ∧
  (∀ (s : State) (d : Dom) (f : BitVec 38),
    s.plan.await = some d.val →
    s.plan.awaitFrame = some f →
    s.usable d.val = true →
    0 < s.get HF_INC_INC d.val →
    0 ≤ (frame38 (s.dom d.val).pos - f).toInt →
    s.bank.accepted = [] →
    ∃ t, exec .frameSourceSwitch s = .next t ∧
      t.get SP_STAT_SOURCE = d.val ∧
      t.get SP_CNT_SRCCHG = (s.get SP_CNT_SRCCHG + 1) % 2 ^ SP_CNT_SRCCHG.width ∧
      t.plan.await = none ∧
      t.plan.awaitFrame = none ∧
      t.get SP_STAT_FRAME = (frame38 (t.dom d.val).pos).toNat % 64 ∧
      0 < (frame38 (t.dom d.val).pos - f).toInt) ∧
  (∀ (s : State) (m : Master) (v : Word),
    s.busOpen m = true →
    s.admissible = true →
    ∃ t, exec (.planGo m v) s = .next t ∧
      t.get SP_COMMIT_PENDING = 1) ∧
  (∀ (s : State) (m : Master) (v : Word),
    s.busOpen m = true →
    s.admissible = false →
    ∃ t, exec (.planGo m v) s = .next t ∧
      t.get SP_COMMIT_PENDING = 0 ∧
      t.get SP_COMMIT_ADMIT_DENIED = 1) ∧
  (∀ (s : State) (c : Crew) (b : Fin 4) (k : Budget),
    k.bitNo = b.val →
    s.hasBudget c.val k = true →
    ∃ t, exec (.overrun c b) s = .next t ∧
      t.get k.remain c.val = 0 ∧
      bit (t.rdw .SP_CREWSTAT c.val) (SP_CREWSTAT_EXHAUSTED.lo + b.val) = true ∧
      bit (t.rdw (overrunFld c.val).reg) (c.val % 32) = true ∧
      t.parked c.val = true ∧
      (b.val = 0 ∨ 0 < s.get SP_REMAIN0_DRIFT c.val → t.get SP_CREWSTAT_EXHAUSTED c.val = 2 ^ b.val ∧ t.get SP_CREWSTAT_OVCOUNT c.val = min (s.get SP_CREWSTAT_OVCOUNT c.val + 1) (2 ^ SP_CREWSTAT_OVCOUNT.width - 1))) ∧
  (∀ (s : State) (c : Crew) (b : Fin 4) (k : Budget) (n : Pair),
    k.bitNo = b.val →
    s.hasBudget c.val k = true →
    (s.pairU n.val).core0.regs.crew = c.val →
    (s.pairU n.val).core0.waiting = none →
    (s.crew c.val).pair = n.val →
    c.val ≠ s.supCrew n.val →
    ∃ t, exec (.overrun c b) s = .next t ∧
      (t.pairU n.val).core0.regs.crew = s.supCrew n.val ∧
      (t.pairU n.val).core0.regs.csr 0x342 = Config.overrunCause) ∧
  (∀ (s : State) (c : Crew) (n : Pair),
    s.hasBudget c.val .drift = true →
    (s.pairU n.val).core0.regs.crew = c.val →
    (s.pairU n.val).core0.waiting = none →
    (s.crew c.val).pair = n.val →
    c.val = s.supCrew n.val →
    ∃ t, exec (.overrun c 0) s = .next t ∧
      (t.pairU n.val).core0.waiting.isSome = true ∧
      (t.pairU n.val).core0.regs.crew = c.val) ∧
  (∀ (s : State) (n : Pair) (c : Crew),
    (s.pairU n.val).core0.regs.crew = c.val →
    (s.crew c.val).en = true →
    (s.crew c.val).essential = false →
    (s.crew c.val).pair = n.val →
    (s.pairU n.val).core0.waiting = none →
    s.parked c.val = false →
    4 * frameTicksLeft s.sourcePos.1 s.plan.lastFrame s.sourcePos.2 ≤ s.essentialLeft n.val →
    c.val ≠ s.supCrew n.val →
    ∃ t, exec (.floor n) s = .next t ∧
      t.get SP_CREWSTAT_FLOORED c.val = 1 ∧
      (t.pairU n.val).core0.regs.crew = s.supCrew n.val ∧
      bit (t.rdw (overrunFld c.val).reg) (c.val % 32) = bit (s.rdw (overrunFld c.val).reg) (c.val % 32))

/-- Claiming, completing, clearing and configuring interrupts; a coalescing group is configured and released. A CLAIM answers the best deliverable
source of the slice, clears its pending bit and puts it in service; with none it answers 1,024. COMPLETE of a source in service ends that; of another
it sets COMPLETE_DENIED. Of a PEND word the bits written 1 are cleared, but for those set in the same tick, and no other word changes. A SRCCFG write
that its owner rule, the slice 16 rule and the group rule admit stores the word. A GCFG write that the slice 16 rule admits stores the word; FLUSH,
and the group's timer reaching TIME, release the group: no source is held by it, HELD is 0 and RELEASES counts. (R3, R302, R304, R306, R308) -/
def Obligations.InterruptsAreTakenAndGrouped : Prop :=
  (∀ (s : State) (m : Master) (n : Option Slice) (k src : Nat),
    s.busOpen m = true →
    s.sliceOf m n = some k →
    k < 17 →
    s.bestSource k = some src →
    ∃ t, exec (.claim m n) s = .next t ∧
      t.bus = ⟨BitVec.ofNat 32 src, .ok⟩ ∧
      t.isPending k src = false ∧
      t.intc.inService.contains (k, src) = true) ∧
  (∀ (s : State) (m : Master) (n : Option Slice) (k : Nat),
    s.busOpen m = true →
    s.sliceOf m n = some k →
    k < 17 →
    s.bestSource k = none →
    ∃ t, exec (.claim m n) s = .next t ∧
      t.bus = ⟨1024, .ok⟩ ∧
      (∀ j : Fin 32, t.rdw .IC_PEND k j.val = s.rdw .IC_PEND k j.val) ∧
      t.intc = s.intc) ∧
  (∀ (s : State) (m : Master) (n : Option Slice) (v : Word) (k : Nat),
    s.busOpen m = true →
    s.sliceOf m n = some k →
    s.mayWriteSlice m n = true →
    s.intc.inService.contains (k, IC_COMPLETE_ID.of v) = true →
    ∃ t, exec (.completeSource m n v) s = .next t ∧
      t.intc.inService.contains (k, IC_COMPLETE_ID.of v) = false ∧
      t.rdw .IC_SSTAT k = s.rdw .IC_SSTAT k) ∧
  (∀ (s : State) (m : Master) (n : Option Slice) (v : Word) (k : Nat),
    s.busOpen m = true →
    s.sliceOf m n = some k →
    k < 17 →
    s.mayWriteSlice m n = true →
    s.intc.inService.contains (k, IC_COMPLETE_ID.of v) = false →
    ∃ t, exec (.completeSource m n v) s = .next t ∧
      t.get IC_SSTAT_COMPLETE_DENIED k = 1 ∧
      t.intc = s.intc) ∧
  (∀ (s : State) (m : Master) (n : Option Slice) (j : Fin 32) (v : Word) (k : Nat),
    s.busOpen m = true →
    s.sliceOf m n = some k →
    k < 17 →
    s.mayWriteSlice m n = true →
    ∃ t, exec (.pendClear m n j v) s = .next t ∧
      t.rdw .IC_PEND k j.val = s.rdw .IC_PEND k j.val &&& ~~~(v &&& ~~~(s.freshBits .IC_PEND k j.val)) ∧
      (∀ i : Fin 32, i ≠ j → t.rdw .IC_PEND k i.val = s.rdw .IC_PEND k i.val)) ∧
  (∀ (s : State) (m : Master) (src : Source) (v : Word),
    s.busOpen m = true →
    (m = .banksman ∨ s.lockstep m = true) →
    (s.sourceBlock src.val).all (fun b => s.mayWriteBlock m b) = true →
    IC_SRCCFG_TARGET.of v ≤ 16 →
    slice16Refuses m (IC_SRCCFG_TARGET.of (s.rdw .IC_SRCCFG src.val)) (IC_SRCCFG_TARGET.of v) = false →
    (IC_SRCCFG_GROUPED.of v = 1 → s.get IC_GCFG_GSLICE (IC_SRCCFG_GROUP.of v) = IC_SRCCFG_TARGET.of v) →
    ∃ t, exec (.srccfgWrite m src v) s = .next t ∧
      t.rdw .IC_SRCCFG src.val = RegId.IC_SRCCFG.written (s.rdw .IC_SRCCFG src.val) v ∧
      t.get IC_SRCCFG_TARGET src.val = IC_SRCCFG_TARGET.of v) ∧
  (∀ (s : State) (m : Master) (g : IcGroup) (v : Word),
    s.busOpen m = true →
    (m = .banksman ∨ s.lockstep m = true) →
    IC_GCFG_GSLICE.of v ≤ 16 →
    slice16Refuses m (IC_GCFG_GSLICE.of (s.rdw .IC_GCFG g.val)) (IC_GCFG_GSLICE.of v) = false →
    ∃ t, exec (.gcfgWrite m g v) s = .next t ∧
      t.rdw .IC_GCFG g.val = RegId.IC_GCFG.written (s.rdw .IC_GCFG g.val) v) ∧
  (∀ (s : State) (m : Master) (g : IcGroup) (v : Word),
    s.busOpen m = true →
    (m = .banksman ∨ s.lockstep m = true) →
    IC_GCFG_GSLICE.of v ≤ 16 →
    slice16Refuses m (IC_GCFG_GSLICE.of (s.rdw .IC_GCFG g.val)) (IC_GCFG_GSLICE.of v) = false →
    ∃ t, exec (.flush m g v) s = .next t ∧
      t.get IC_GSTAT_HELD g.val = 0 ∧
      t.intc.held.all (fun p => p.group != g.val) = true ∧
      t.get IC_GSTAT_RELEASES g.val = (s.get IC_GSTAT_RELEASES g.val + 1) % 2 ^ IC_GSTAT_RELEASES.width) ∧
  (∀ (s : State) (g : IcGroup) (e : Nat),
    s.deadline (.icGroup g.val) = some e →
    ∃ t, exec (.coalesceTimeout g) s = .next t ∧
      t.get IC_GSTAT_HELD g.val = 0 ∧
      t.intc.held.all (fun p => p.group != g.val) = true ∧
      t.get IC_GSTAT_RELEASES g.val = (s.get IC_GSTAT_RELEASES g.val + 1) % 2 ^ IC_GSTAT_RELEASES.width ∧
      t.now = max s.now e ∧
      t.armed (.icGroup g.val) = false)

/-- Seam streams take firmware records and write bursts, and the scrubber counts SRAM errors. A word written to STRPUT of a stream from 54 on by a
lock-step pair is collected while its record is not complete; below 54 it sets WRITE_DENIED. A record that completes, on an enabled stream that
selects it, with no drop pending and its DT within range, joins the open burst where it does not fill it; where no burst is open it opens one, if the
stream may, and LEFT counts down; if it may not, the record is dropped: DROPS counts, saturating, DROPPING and DROPSEEN are set. The flush deadline
writes the open burst at the ring's place and no other byte, closes it and counts it. A corrected SRAM error sets SRAM_CORR and counts in SRAMCNT,
saturating; an uncorrectable one sets SRAM_UNCORR and its address; without an error nothing changes. (R439, R443, R444, R445, R446, R452) -/
def Obligations.SeamStreamsRecord : Prop :=
  (∀ (s : State) (m : Master) (k : Stream) (v : Word),
    s.busOpen m = true →
    s.lockstep m = true →
    54 ≤ k.val →
    ((s.streamU k.val).putBuf.length + 1 < (match (s.streamU k.val).putBuf ++ [v] with | h :: _ => 2 * 2 ^ bits h 4 2 | [] => 2)) →
    ∃ t, exec (.strput m k v) s = .next t ∧
      (t.streamU k.val).putBuf = (s.streamU k.val).putBuf ++ [v] ∧
      (t.streamU k.val).burst = (s.streamU k.val).burst ∧
      t.mem = s.mem) ∧
  (∀ (s : State) (m : Master) (k : Stream) (v : Word),
    s.busOpen m = true →
    s.lockstep m = true →
    k.val < 54 →
    ∃ t, exec (.strput m k v) s = .next t ∧
      t.get SE_SSTAT_WRITE_DENIED = 1 ∧
      t.seam = s.seam ∧
      t.mem = s.mem) ∧
  (∀ (s : State) (m : Master) (k : Stream) (v h : Word) (l : List Word) (x0 : Nat),
    s.busOpen m = true →
    s.lockstep m = true →
    54 ≤ k.val →
    (s.streamU k.val).putBuf = h :: l →
    l.length + 2 = 2 * 2 ^ bits h 4 2 →
    s.streamOn k.val = true →
    bit (BitVec.ofNat 32 (s.get SE_STRCFG_SEL k.val)) 0 = true →
    (s.streamU k.val).dropped = 0 →
    (s.streamU k.val).lastTime = some x0 →
    s.now - x0 ≤ 262143 →
    s.on SE_STRSTAT_OPEN k.val = true →
    (s.streamU k.val).burst.length + 4 * (l.length + 2) < 256 →
    ∃ t, exec (.strput m k v) s = .next t ∧
      (t.streamU k.val).burst = (s.streamU k.val).burst ++ wordBytes (recHeader 12 (bits h 4 2) k.val (s.now - x0) :: l ++ [v]) ∧
      (t.streamU k.val).putBuf = [] ∧
      t.mem = s.mem) ∧
  (∀ (s : State) (m : Master) (k : Stream) (v h : Word) (l : List Word) (x0 : Nat),
    s.busOpen m = true →
    s.lockstep m = true →
    54 ≤ k.val →
    (s.streamU k.val).putBuf = h :: l →
    l.length + 2 = 2 * 2 ^ bits h 4 2 →
    s.streamOn k.val = true →
    bit (BitVec.ofNat 32 (s.get SE_STRCFG_SEL k.val)) 0 = true →
    (s.streamU k.val).dropped = 0 →
    (s.streamU k.val).lastTime = some x0 →
    s.now - x0 ≤ 262143 →
    s.on SE_STRSTAT_OPEN k.val = false →
    s.mayOpen k.val = true →
    ∃ t, exec (.strput m k v) s = .next t ∧
      (t.streamU k.val).burst = wordBytes (recHeader 12 (bits h 4 2) k.val (s.now - x0) :: l ++ [v]) ∧
      t.on SE_STRSTAT_OPEN k.val = true ∧
      t.get SE_STRSTAT_LEFT k.val = s.get SE_STRSTAT_LEFT k.val - 1 ∧
      t.deadline (.burstFlush k.val) = some (s.now + atLeast1 (s.get SE_STRCFG_FLUSH k.val) * 40 * us) ∧
      t.mem = s.mem) ∧
  (∀ (s : State) (m : Master) (k : Stream) (v h : Word) (l : List Word) (x0 : Nat),
    s.busOpen m = true →
    s.lockstep m = true →
    54 ≤ k.val →
    (s.streamU k.val).putBuf = h :: l →
    l.length + 2 = 2 * 2 ^ bits h 4 2 →
    s.streamOn k.val = true →
    bit (BitVec.ofNat 32 (s.get SE_STRCFG_SEL k.val)) 0 = true →
    (s.streamU k.val).dropped = 0 →
    (s.streamU k.val).lastTime = some x0 →
    s.now - x0 ≤ 262143 →
    s.on SE_STRSTAT_OPEN k.val = false →
    s.mayOpen k.val = false →
    ∃ t, exec (.strput m k v) s = .next t ∧
      (t.streamU k.val).burst = (s.streamU k.val).burst ∧
      (t.streamU k.val).putBuf = [] ∧
      t.get SE_STRDROP_DROPS k.val = min (s.get SE_STRDROP_DROPS k.val + 1) (2 ^ SE_STRDROP_DROPS.width - 1) ∧
      t.get SE_STRSTAT_DROPPING k.val = 1 ∧
      t.get SE_SSTAT_DROPSEEN = 1 ∧
      t.mem = s.mem) ∧
  (∀ (s : State) (k : Stream) (e : Nat),
    s.deadline (.burstFlush k.val) = some e →
    s.on SE_STRSTAT_OPEN k.val = true →
    ∃ t, exec (.burstFlush k) s = .next t ∧
      t.on SE_STRSTAT_OPEN k.val = false ∧
      t.get SE_STRSTAT_BURSTS k.val = (s.get SE_STRSTAT_BURSTS k.val + 1) % 2 ^ SE_STRSTAT_BURSTS.width ∧
      t.seam.lastBurst = s.seam.ringPos ∧
      (t.streamU k.val).burst = [] ∧
      t.now = max s.now e ∧
      (∀ i : Fin 256, i.val < (s.streamU k.val).burst.length → t.byte (ringBase + s.seam.ringPos % ringBursts * 256 + i.val) = (s.streamU k.val).burst.getD i.val 0) ∧
      (∀ a, (a < ringBase + s.seam.ringPos % ringBursts * 256 ∨ ringBase + s.seam.ringPos % ringBursts * 256 + 256 ≤ a) → t.byte a = s.byte a)) ∧
  (∀ (s : State) (k : Fin 1048576),
    ∃ t, exec (.sramScrub k 0) s = .next t ∧
      t = s) ∧
  (∀ (s : State) (k : Fin 1048576),
    ∃ t, exec (.sramScrub k 1) s = .next t ∧
      t.get SE_MEMSTAT_SRAM_CORR = 1 ∧
      t.get SE_MEMSTAT_SRAMCNT = min (s.get SE_MEMSTAT_SRAMCNT + 1) (2 ^ SE_MEMSTAT_SRAMCNT.width - 1)) ∧
  (∀ (s : State) (k : Fin 1048576),
    ∃ t, exec (.sramScrub k 2) s = .next t ∧
      t.get SE_MEMSTAT_SRAM_UNCORR = 1 ∧
      t.get SE_MEMERRA_ADDR = 0x10000000 + 8 * k.val)

/-- Captures are fired, held and released; drains run and end. FIRE with EN by a lock-step pair, the recorder out of reset, starts the capture of an
IDLE trigger below the hold limit: POST until POST + 11 ms from now, counted in FIRES; of a HELD one it sets TRIG_BUSY; with EN 0 the state stays. The
end of a capture in POST makes it HELD with the last burst written and raises 640 + n, where a slice takes it; RELEASE without FIRE of a capture in
POST or HELD makes it IDLE. GO with EN of a drain that is not refused makes it BUSY with its span, a refused one sets DRAIN_DENIED; STOP without GO
clears BUSY. A completed drain of a crew that is not parked has passed all its bytes: BUSY clears, DONE is set, 656 + d is raised, where a slice takes
it. A live-ring drain that the writer has overtaken moves to the oldest burst with DRAIN_OVERRUN and SKIPPED. (R448, R449, R450, R451) -/
def Obligations.CapturesAndDrains : Prop :=
  (∀ (s : State) (m : Master) (n : Trig) (v : Word),
    s.busOpen m = true →
    s.lockstep m = true →
    s.released uSeam = true →
    SE_TRGCTL_EN.of v = 1 →
    SE_TRGCTL_RELEASE.of v = 0 →
    s.get SE_CAPSTAT_STATE n.val = capIdle →
    s.heldMb < 288 →
    ∃ t, exec (.fireTrigger m n v) s = .next t ∧
      t.get SE_CAPSTAT_STATE n.val = capPost ∧
      t.get SE_CAPSTAT_FIRES n.val = (s.get SE_CAPSTAT_FIRES n.val + 1) % 2 ^ SE_CAPSTAT_FIRES.width ∧
      (t.captureU n.val).endAt = s.now + (s.get SE_TRGCFG_POST n.val + 11) * ms) ∧
  (∀ (s : State) (m : Master) (n : Trig) (v : Word),
    s.busOpen m = true →
    s.lockstep m = true →
    s.released uSeam = true →
    SE_TRGCTL_EN.of v = 1 →
    SE_TRGCTL_RELEASE.of v = 0 →
    s.get SE_CAPSTAT_STATE n.val = capHeld →
    ∃ t, exec (.fireTrigger m n v) s = .next t ∧
      t.get SE_CAPSTAT_STATE n.val = capHeld ∧
      t.get SE_CAPSTAT_TRIG_BUSY n.val = 1 ∧
      t.captureU n.val = s.captureU n.val) ∧
  (∀ (s : State) (m : Master) (n : Trig) (v : Word),
    s.busOpen m = true →
    s.lockstep m = true →
    SE_TRGCTL_EN.of v = 0 →
    SE_TRGCTL_RELEASE.of v = 0 →
    ∃ t, exec (.fireTrigger m n v) s = .next t ∧
      t.get SE_CAPSTAT_STATE n.val = s.get SE_CAPSTAT_STATE n.val ∧
      t.captureU n.val = s.captureU n.val) ∧
  (∀ (s : State) (n : Trig),
    s.get SE_CAPSTAT_STATE n.val = capPost →
    s.routed (640 + n.val) = true →
    ∃ t, exec (.captureHeld n) s = .next t ∧
      t.get SE_CAPSTAT_STATE n.val = capHeld ∧
      t.now = max s.now (s.captureU n.val).endAt ∧
      (t.captureU n.val).last = max (s.captureU n.val).first s.seam.lastBurst ∧
      t.raised (640 + n.val) = true) ∧
  (∀ (s : State) (m : Master) (n : Trig) (v : Word),
    s.busOpen m = true →
    s.lockstep m = true →
    SE_TRGCTL_FIRE.of v = 0 →
    s.get SE_CAPSTAT_STATE n.val ≠ capIdle →
    ∃ t, exec (.captureRelease m n v) s = .next t ∧
      t.get SE_CAPSTAT_STATE n.val = capIdle) ∧
  (∀ (s : State) (m : Master) (d : Drain) (v : Word),
    s.busOpen m = true →
    s.lockstep m = true →
    SE_DRCFG_SRC.of v ≠ 3 →
    SE_DRCFG_EN.of v = 1 →
    SE_DRCFG_STOP.of v = 0 →
    s.drainRefused d.val v = false →
    ∃ t, exec (.drainGo m d v) s = .next t ∧
      t.on SE_DRSTAT_BUSY d.val = true ∧
      ((t.drainU d.val).next, (t.drainU d.val).left) = s.drainSpan d.val v ∧
      t.get SE_DRCFG_SRC d.val = SE_DRCFG_SRC.of v) ∧
  (∀ (s : State) (m : Master) (d : Drain) (v : Word),
    s.busOpen m = true →
    s.lockstep m = true →
    SE_DRCFG_SRC.of v ≠ 3 →
    SE_DRCFG_EN.of v = 1 →
    SE_DRCFG_STOP.of v = 0 →
    s.drainRefused d.val v = true →
    ∃ t, exec (.drainGo m d v) s = .next t ∧
      t.get SE_DRSTAT_DRAIN_DENIED d.val = 1 ∧
      t.get SE_DRSTAT_BUSY d.val = s.get SE_DRSTAT_BUSY d.val ∧
      t.drainU d.val = s.drainU d.val) ∧
  (∀ (s : State) (m : Master) (d : Drain) (v : Word),
    s.busOpen m = true →
    s.lockstep m = true →
    SE_DRCFG_SRC.of v ≠ 3 →
    SE_DRCFG_GO.of v = 0 →
    ∃ t, exec (.drainStop m d v) s = .next t ∧
      t.on SE_DRSTAT_BUSY d.val = false) ∧
  (∀ (s : State) (d : Drain),
    s.on SE_DRSTAT_BUSY d.val = true →
    s.parked (s.get SE_DRCFG_CREW d.val) = false →
    s.routed (656 + d.val) = true →
    ∃ t, exec (.drainDone d) s = .next t ∧
      t.on SE_DRSTAT_BUSY d.val = false ∧
      t.on SE_DRSTAT_DONE d.val = true ∧
      (t.drainU d.val).left = 0 ∧
      (t.drainU d.val).passed = (s.drainU d.val).passed + (s.drainU d.val).left ∧
      t.raised (656 + d.val) = true) ∧
  (∀ (s : State) (d : Drain),
    s.on SE_DRSTAT_BUSY d.val = true →
    s.get SE_DRCFG_SRC d.val = 1 →
    (s.drainU d.val).next < (s.seam.ringPos - ringBursts) * 256 →
    ∃ t, exec (.drainOverrun d) s = .next t ∧
      t.on SE_DRSTAT_DRAIN_OVERRUN d.val = true ∧
      (t.drainU d.val).next = (s.seam.ringPos - ringBursts) * 256 ∧
      t.get SE_DRSTAT_SKIPPED d.val = min (s.get SE_DRSTAT_SKIPPED d.val + min ((s.seam.ringPos - ringBursts) * 256 - (s.drainU d.val).next) (s.drainU d.val).left / 256) (2 ^ SE_DRSTAT_SKIPPED.width - 1) ∧
      t.on SE_DRSTAT_BUSY d.val = true)

/-- MAC, MSU and SAT work on the accumulators and data words. While the engine's next word is that row and its cycle is left, the row completes and
nothing but the invocation changes. MAC and MSU add or subtract the rounded product to 0, Gd, A0 or A1 by their option, clamp to 48 bits, keep the
result in the accumulator named and write it saturated to Gd; SAT moves its operand to Gd, or moves an accumulator, saturated, to Gd and clears it; N
and Z follow Gd and SAT is set where a value was clamped. SAT store puts Ga in a data word and changes no register or flag. The budget falls by 1 and
the program goes on at the next word or at the start of the active body. (R90, R91, R100, R101, R117) -/
def Obligations.PickAccumulates : Prop :=
  (∀ (s : State) (e : Eng) (v : Inv) (w : Word),
    s.pickFetch e.val .mac = some (v, w) →
    1 ≤ v.left →
    ∃ t, exec (.mac e) s = .next t ∧
      (t.eng e.val).run.isSome = true ∧
      (t.invOf e.val v).left = v.left - 1 ∧
      (v.loop = none → (t.invOf e.val v).pc = v.pc + 1) ∧
      ((t.invOf e.val v).pc = (match v.loop with | some l => if v.pc = l.last ∧ 1 < l.left then l.first else v.pc + 1 | none => v.pc + 1)) ∧
      t = s.setRun e.val (t.invOf e.val v) ∧
      (({ v with a0 := if pwOpt w = 2 then (clampTo 47 ((match pwOpt w with | 0 => 0 | 1 => v.gs (pwD w) | 2 => v.a0 | _ => v.a1) + s.pickProduct e.val v w)).1 else v.a0, a1 := if pwOpt w = 3 then (clampTo 47 ((match pwOpt w with | 0 => 0 | 1 => v.gs (pwD w) | 2 => v.a0 | _ => v.a1) + s.pickProduct e.val v w)).1 else v.a1 } : Inv).onlyWrote (t.invOf e.val v) (pwD w) (sat32 (clampTo 47 ((match pwOpt w with | 0 => 0 | 1 => v.gs (pwD w) | 2 => v.a0 | _ => v.a1) + s.pickProduct e.val v w)).1) ((clampTo 47 ((match pwOpt w with | 0 => 0 | 1 => v.gs (pwD w) | 2 => v.a0 | _ => v.a1) + s.pickProduct e.val v w)).2 || (clampTo 31 (clampTo 47 ((match pwOpt w with | 0 => 0 | 1 => v.gs (pwD w) | 2 => v.a0 | _ => v.a1) + s.pickProduct e.val v w)).1).2) false = true)) ∧
  (∀ (s : State) (e : Eng) (v : Inv) (w : Word),
    s.pickFetch e.val .msu = some (v, w) →
    1 ≤ v.left →
    ∃ t, exec (.msu e) s = .next t ∧
      (t.eng e.val).run.isSome = true ∧
      (t.invOf e.val v).left = v.left - 1 ∧
      (v.loop = none → (t.invOf e.val v).pc = v.pc + 1) ∧
      ((t.invOf e.val v).pc = (match v.loop with | some l => if v.pc = l.last ∧ 1 < l.left then l.first else v.pc + 1 | none => v.pc + 1)) ∧
      t = s.setRun e.val (t.invOf e.val v) ∧
      (({ v with a0 := if pwOpt w = 2 then (clampTo 47 ((match pwOpt w with | 0 => 0 | 1 => v.gs (pwD w) | 2 => v.a0 | _ => v.a1) - s.pickProduct e.val v w)).1 else v.a0, a1 := if pwOpt w = 3 then (clampTo 47 ((match pwOpt w with | 0 => 0 | 1 => v.gs (pwD w) | 2 => v.a0 | _ => v.a1) - s.pickProduct e.val v w)).1 else v.a1 } : Inv).onlyWrote (t.invOf e.val v) (pwD w) (sat32 (clampTo 47 ((match pwOpt w with | 0 => 0 | 1 => v.gs (pwD w) | 2 => v.a0 | _ => v.a1) - s.pickProduct e.val v w)).1) ((clampTo 47 ((match pwOpt w with | 0 => 0 | 1 => v.gs (pwD w) | 2 => v.a0 | _ => v.a1) - s.pickProduct e.val v w)).2 || (clampTo 31 (clampTo 47 ((match pwOpt w with | 0 => 0 | 1 => v.gs (pwD w) | 2 => v.a0 | _ => v.a1) - s.pickProduct e.val v w)).1).2) false = true)) ∧
  (∀ (s : State) (e : Eng) (v : Inv) (w : Word),
    s.pickFetch e.val .satMove = some (v, w) →
    1 ≤ v.left →
    ∃ t, exec (.satMove e) s = .next t ∧
      (t.eng e.val).run.isSome = true ∧
      (t.invOf e.val v).left = v.left - 1 ∧
      (v.loop = none → (t.invOf e.val v).pc = v.pc + 1) ∧
      ((t.invOf e.val v).pc = (match v.loop with | some l => if v.pc = l.last ∧ 1 < l.left then l.first else v.pc + 1 | none => v.pc + 1)) ∧
      t = s.setRun e.val (t.invOf e.val v) ∧
      v.onlyWrote (t.invOf e.val v) (pwD w) ((s.operand e.val v w (pwQ16 w)).1) ((s.operand e.val v w (pwQ16 w)).2) (false) = true) ∧
  (∀ (s : State) (e : Eng) (v : Inv) (w : Word),
    s.pickFetch e.val .satRead = some (v, w) →
    1 ≤ v.left →
    ∃ t, exec (.satAccumulatorRead e) s = .next t ∧
      (t.eng e.val).run.isSome = true ∧
      (t.invOf e.val v).left = v.left - 1 ∧
      (v.loop = none → (t.invOf e.val v).pc = v.pc + 1) ∧
      ((t.invOf e.val v).pc = (match v.loop with | some l => if v.pc = l.last ∧ 1 < l.left then l.first else v.pc + 1 | none => v.pc + 1)) ∧
      t = s.setRun e.val (t.invOf e.val v) ∧
      (pwOpt w = 1 → ({ v with a0 := 0 } : Inv).onlyWrote (t.invOf e.val v) (pwD w) (sat32 v.a0) (clampTo 31 v.a0).2 false = true) ∧
      (pwOpt w = 2 → ({ v with a1 := 0 } : Inv).onlyWrote (t.invOf e.val v) (pwD w) (sat32 v.a1) (clampTo 31 v.a1).2 false = true)) ∧
  (∀ (s : State) (e : Eng) (v : Inv) (w : Word),
    s.pickFetch e.val .satStore = some (v, w) →
    1 ≤ v.left →
    ∃ t, exec (.satStore e) s = .next t ∧
      (t.eng e.val).run.isSome = true ∧
      (t.invOf e.val v).left = v.left - 1 ∧
      (v.loop = none → (t.invOf e.val v).pc = v.pc + 1) ∧
      ((t.invOf e.val v).pc = (match v.loop with | some l => if v.pc = l.last ∧ 1 < l.left then l.first else v.pc + 1 | none => v.pc + 1)) ∧
      t = s.setRun e.val (t.invOf e.val v) ∧
      dataWord (t.invOf e.val v).data (pwLow w) = v.g.toList.getD (pwA w) 0 ∧
      (∀ a : Fin 512, a.val ≠ pwLow w → dataWord (t.invOf e.val v).data a.val = dataWord v.data a.val) ∧
      ((t.invOf e.val v).g = v.g ∧ (t.invOf e.val v).n = v.n ∧ (t.invOf e.val v).z = v.z ∧ (t.invOf e.val v).sat = v.sat ∧ (t.invOf e.val v).a0 = v.a0 ∧ (t.invOf e.val v).a1 = v.a1))

/-- LIM, ABS, DIV, SQT, PIS and RSC compute their results. While the engine's next word is that row and its cycles are left, the row completes: it
writes its result, N and Z follow it, SAT and DZ are set where its rule says, the budget falls by its cycles, the program goes on at the next word or
at the start of the active body, and nothing else of the module changes. LIM clamps Ga between its limits; ABS and its negate form saturate; DIV
truncates toward 0 and of a zero divisor gives the extreme of the dividend's sign with DZ; SQT takes the root, rounded down, of a non-negative operand
or the magnitude of two. PIS adds product, integrator and increment, limits the sum and stores the integrator, by back-calculation where it limits;
RSC writes its operand, as Q16.16, to an operating-point word of the working copy, flags unchanged. (R90, R91, R102, R103, R104, R105, R106, R107,
R117) -/
def Obligations.PickArithmetic : Prop :=
  (∀ (s : State) (e : Eng) (v : Inv) (w : Word),
    s.pickFetch e.val .lim = some (v, w) →
    1 ≤ v.left →
    ∃ t, exec (.lim e) s = .next t ∧
      (t.eng e.val).run.isSome = true ∧
      (t.invOf e.val v).left = v.left - 1 ∧
      (v.loop = none → (t.invOf e.val v).pc = v.pc + 1) ∧
      ((t.invOf e.val v).pc = (match v.loop with | some l => if v.pc = l.last ∧ 1 < l.left then l.first else v.pc + 1 | none => v.pc + 1)) ∧
      t = s.setRun e.val (t.invOf e.val v) ∧
      (pwOpt w = 0 → v.onlyWrote (t.invOf e.val v) (pwD w) (min (max (v.gs (pwA w)) (-(min ((s.operand e.val v w (pwQ16 w)).1.natAbs : Int) 2147483647))) (min ((s.operand e.val v w (pwQ16 w)).1.natAbs : Int) 2147483647)) ((s.operand e.val v w (pwQ16 w)).2) (false) = true) ∧
      (pwOpt w = 1 → v.onlyWrote (t.invOf e.val v) (pwD w) (min (v.gs (pwA w)) (s.operand e.val v w (pwQ16 w)).1) ((s.operand e.val v w (pwQ16 w)).2) (false) = true) ∧
      (pwOpt w = 2 → v.onlyWrote (t.invOf e.val v) (pwD w) (max (v.gs (pwA w)) (s.operand e.val v w (pwQ16 w)).1) ((s.operand e.val v w (pwQ16 w)).2) (false) = true) ∧
      (pwOpt w = 3 → v.onlyWrote (t.invOf e.val v) (pwD w) (min (max (v.gs (pwA w)) (s.operand e.val v w (pwQ16 w)).1) (max (s.operand e.val v w (pwQ16 w)).1 (s.operand e.val v w (pwQ16 w) 1).1)) ((s.operand e.val v w (pwQ16 w)).2) (false) = true)) ∧
  (∀ (s : State) (e : Eng) (v : Inv) (w : Word),
    s.pickFetch e.val .lim = some (v, w) →
    1 ≤ v.left →
    ∃ t, exec (.lim e) s = .next t ∧
      (t.eng e.val).run.isSome = true ∧
      (t.invOf e.val v).left = v.left - 1 ∧
      (v.loop = none → (t.invOf e.val v).pc = v.pc + 1) ∧
      ((t.invOf e.val v).pc = (match v.loop with | some l => if v.pc = l.last ∧ 1 < l.left then l.first else v.pc + 1 | none => v.pc + 1)) ∧
      t = s.setRun e.val (t.invOf e.val v) ∧
      (pwOpt w = 3 → v.onlyWrote (t.invOf e.val v) (pwD w) (min (max (v.gs (pwA w)) (s.operand e.val v w (pwQ16 w)).1) (max (s.operand e.val v w (pwQ16 w)).1 (s.operand e.val v w (pwQ16 w) 1).1)) ((s.operand e.val v w (pwQ16 w)).2) (false) = true)) ∧
  (∀ (s : State) (e : Eng) (v : Inv) (w : Word),
    s.pickFetch e.val .abs = some (v, w) →
    1 ≤ v.left →
    ∃ t, exec (.abs e) s = .next t ∧
      (t.eng e.val).run.isSome = true ∧
      (t.invOf e.val v).left = v.left - 1 ∧
      (v.loop = none → (t.invOf e.val v).pc = v.pc + 1) ∧
      ((t.invOf e.val v).pc = (match v.loop with | some l => if v.pc = l.last ∧ 1 < l.left then l.first else v.pc + 1 | none => v.pc + 1)) ∧
      t = s.setRun e.val (t.invOf e.val v) ∧
      (v.onlyWrote (t.invOf e.val v) (pwD w) (sat32 (((s.operand e.val v w (pwQ16 w)).1.natAbs : Int))) ((s.operand e.val v w (pwQ16 w)).2 || decide (2147483647 < (((s.operand e.val v w (pwQ16 w)).1.natAbs : Int)) ∨ (((s.operand e.val v w (pwQ16 w)).1.natAbs : Int)) < -2147483648)) (false) = true)) ∧
  (∀ (s : State) (e : Eng) (v : Inv) (w : Word),
    s.pickFetch e.val .neg = some (v, w) →
    1 ≤ v.left →
    ∃ t, exec (.negate e) s = .next t ∧
      (t.eng e.val).run.isSome = true ∧
      (t.invOf e.val v).left = v.left - 1 ∧
      (v.loop = none → (t.invOf e.val v).pc = v.pc + 1) ∧
      ((t.invOf e.val v).pc = (match v.loop with | some l => if v.pc = l.last ∧ 1 < l.left then l.first else v.pc + 1 | none => v.pc + 1)) ∧
      t = s.setRun e.val (t.invOf e.val v) ∧
      (v.onlyWrote (t.invOf e.val v) (pwD w) (sat32 (-(s.operand e.val v w (pwQ16 w)).1)) ((s.operand e.val v w (pwQ16 w)).2 || decide (2147483647 < (-(s.operand e.val v w (pwQ16 w)).1) ∨ (-(s.operand e.val v w (pwQ16 w)).1) < -2147483648)) (false) = true)) ∧
  (∀ (s : State) (e : Eng) (v : Inv) (w : Word),
    s.pickFetch e.val .div = some (v, w) →
    8 ≤ v.left →
    ∃ t, exec (.div e) s = .next t ∧
      (t.eng e.val).run.isSome = true ∧
      (t.invOf e.val v).left = v.left - 8 ∧
      (v.loop = none → (t.invOf e.val v).pc = v.pc + 1) ∧
      ((t.invOf e.val v).pc = (match v.loop with | some l => if v.pc = l.last ∧ 1 < l.left then l.first else v.pc + 1 | none => v.pc + 1)) ∧
      t = s.setRun e.val (t.invOf e.val v) ∧
      ((s.operand e.val v w (pwQ16 w)).1 ≠ 0 → v.onlyWrote (t.invOf e.val v) (pwD w) (sat32 ((v.gs (pwA w) * 2 ^ pwF w).tdiv (s.operand e.val v w (pwQ16 w)).1)) ((s.operand e.val v w (pwQ16 w)).2 || decide (2147483647 < ((v.gs (pwA w) * 2 ^ pwF w).tdiv (s.operand e.val v w (pwQ16 w)).1) ∨ ((v.gs (pwA w) * 2 ^ pwF w).tdiv (s.operand e.val v w (pwQ16 w)).1) < -2147483648)) (false) = true) ∧
      ((s.operand e.val v w (pwQ16 w)).1 = 0 → v.onlyWrote (t.invOf e.val v) (pwD w) (if v.gs (pwA w) = 0 then 0 else if 0 < v.gs (pwA w) then 2147483647 else -2147483648) ((s.operand e.val v w (pwQ16 w)).2) (true) = true)) ∧
  (∀ (s : State) (e : Eng) (v : Inv) (w : Word),
    s.pickFetch e.val .sqt = some (v, w) →
    8 ≤ v.left →
    ∃ t, exec (.sqt e) s = .next t ∧
      (t.eng e.val).run.isSome = true ∧
      (t.invOf e.val v).left = v.left - 8 ∧
      (v.loop = none → (t.invOf e.val v).pc = v.pc + 1) ∧
      ((t.invOf e.val v).pc = (match v.loop with | some l => if v.pc = l.last ∧ 1 < l.left then l.first else v.pc + 1 | none => v.pc + 1)) ∧
      t = s.setRun e.val (t.invOf e.val v) ∧
      ((s.operand e.val v w (pwQ16 w)).1 < 0 → v.onlyWrote (t.invOf e.val v) (pwD w) (0) (true) (false) = true) ∧
      (0 ≤ (s.operand e.val v w (pwQ16 w)).1 → v.onlyWrote (t.invOf e.val v) (pwD w) (sat32 ((isqrt ((s.operand e.val v w (pwQ16 w)).1.toNat * 2 ^ pwF w) : Int))) ((s.operand e.val v w (pwQ16 w)).2 || decide (2147483647 < ((isqrt ((s.operand e.val v w (pwQ16 w)).1.toNat * 2 ^ pwF w) : Int)) ∨ ((isqrt ((s.operand e.val v w (pwQ16 w)).1.toNat * 2 ^ pwF w) : Int)) < -2147483648)) (false) = true)) ∧
  (∀ (s : State) (e : Eng) (v : Inv) (w : Word),
    s.pickFetch e.val .mag = some (v, w) →
    8 ≤ v.left →
    ∃ t, exec (.sqtMagnitude e) s = .next t ∧
      (t.eng e.val).run.isSome = true ∧
      (t.invOf e.val v).left = v.left - 8 ∧
      (v.loop = none → (t.invOf e.val v).pc = v.pc + 1) ∧
      ((t.invOf e.val v).pc = (match v.loop with | some l => if v.pc = l.last ∧ 1 < l.left then l.first else v.pc + 1 | none => v.pc + 1)) ∧
      t = s.setRun e.val (t.invOf e.val v) ∧
      (v.onlyWrote (t.invOf e.val v) (pwD w) (sat32 ((isqrt ((v.gs (pwA w)).natAbs ^ 2 + (s.operand e.val v w (pwQ16 w)).1.natAbs ^ 2) : Int))) ((s.operand e.val v w (pwQ16 w)).2 || decide (2147483647 < ((isqrt ((v.gs (pwA w)).natAbs ^ 2 + (s.operand e.val v w (pwQ16 w)).1.natAbs ^ 2) : Int)) ∨ ((isqrt ((v.gs (pwA w)).natAbs ^ 2 + (s.operand e.val v w (pwQ16 w)).1.natAbs ^ 2) : Int)) < -2147483648)) (false) = true)) ∧
  (∀ (s : State) (e : Eng) (v : Inv) (w : Word),
    s.pickFetch e.val .pis = some (v, w) →
    1 ≤ v.left →
    ∃ t, exec (.pis e) s = .next t ∧
      (t.eng e.val).run.isSome = true ∧
      (t.invOf e.val v).left = v.left - 1 ∧
      (v.loop = none → (t.invOf e.val v).pc = v.pc + 1) ∧
      ((t.invOf e.val v).pc = (match v.loop with | some l => if v.pc = l.last ∧ 1 < l.left then l.first else v.pc + 1 | none => v.pc + 1)) ∧
      t = s.setRun e.val (t.invOf e.val v) ∧
      (({ v with data := setData v.data (pwLow w) (wordOfInt (sat32 ((if (max (if pwOpt w = 1 then (s.trackOf (e.val / 2)).toInt else (s.coefOf e.val v (pwB w + 2)).toInt) (s.coefOf e.val v (pwB w + 3)).toInt) < (clampTo 47 ((rshr ((s.coefOf e.val v (pwB w)).toInt * v.gs (pwA w)) (pwF w)) + (dataWord v.data (pwLow w)).toInt + (rshr ((s.coefOf e.val v (pwB w + 1)).toInt * v.gs (pwA w)) (pwF w)))).1 then (max (if pwOpt w = 1 then (s.trackOf (e.val / 2)).toInt else (s.coefOf e.val v (pwB w + 2)).toInt) (s.coefOf e.val v (pwB w + 3)).toInt) - (rshr ((s.coefOf e.val v (pwB w)).toInt * v.gs (pwA w)) (pwF w)) else if (clampTo 47 ((rshr ((s.coefOf e.val v (pwB w)).toInt * v.gs (pwA w)) (pwF w)) + (dataWord v.data (pwLow w)).toInt + (rshr ((s.coefOf e.val v (pwB w + 1)).toInt * v.gs (pwA w)) (pwF w)))).1 < (s.coefOf e.val v (pwB w + 3)).toInt then (s.coefOf e.val v (pwB w + 3)).toInt - (rshr ((s.coefOf e.val v (pwB w)).toInt * v.gs (pwA w)) (pwF w)) else (dataWord v.data (pwLow w)).toInt + (rshr ((s.coefOf e.val v (pwB w + 1)).toInt * v.gs (pwA w)) (pwF w)))))) }).onlyWrote (t.invOf e.val v) (pwD w) (if (max (if pwOpt w = 1 then (s.trackOf (e.val / 2)).toInt else (s.coefOf e.val v (pwB w + 2)).toInt) (s.coefOf e.val v (pwB w + 3)).toInt) < (clampTo 47 ((rshr ((s.coefOf e.val v (pwB w)).toInt * v.gs (pwA w)) (pwF w)) + (dataWord v.data (pwLow w)).toInt + (rshr ((s.coefOf e.val v (pwB w + 1)).toInt * v.gs (pwA w)) (pwF w)))).1 then (max (if pwOpt w = 1 then (s.trackOf (e.val / 2)).toInt else (s.coefOf e.val v (pwB w + 2)).toInt) (s.coefOf e.val v (pwB w + 3)).toInt) else if (clampTo 47 ((rshr ((s.coefOf e.val v (pwB w)).toInt * v.gs (pwA w)) (pwF w)) + (dataWord v.data (pwLow w)).toInt + (rshr ((s.coefOf e.val v (pwB w + 1)).toInt * v.gs (pwA w)) (pwF w)))).1 < (s.coefOf e.val v (pwB w + 3)).toInt then (s.coefOf e.val v (pwB w + 3)).toInt else (clampTo 47 ((rshr ((s.coefOf e.val v (pwB w)).toInt * v.gs (pwA w)) (pwF w)) + (dataWord v.data (pwLow w)).toInt + (rshr ((s.coefOf e.val v (pwB w + 1)).toInt * v.gs (pwA w)) (pwF w)))).1) ((clampTo 47 ((rshr ((s.coefOf e.val v (pwB w)).toInt * v.gs (pwA w)) (pwF w)) + (dataWord v.data (pwLow w)).toInt + (rshr ((s.coefOf e.val v (pwB w + 1)).toInt * v.gs (pwA w)) (pwF w)))).2 || (clampTo 31 ((if (max (if pwOpt w = 1 then (s.trackOf (e.val / 2)).toInt else (s.coefOf e.val v (pwB w + 2)).toInt) (s.coefOf e.val v (pwB w + 3)).toInt) < (clampTo 47 ((rshr ((s.coefOf e.val v (pwB w)).toInt * v.gs (pwA w)) (pwF w)) + (dataWord v.data (pwLow w)).toInt + (rshr ((s.coefOf e.val v (pwB w + 1)).toInt * v.gs (pwA w)) (pwF w)))).1 then (max (if pwOpt w = 1 then (s.trackOf (e.val / 2)).toInt else (s.coefOf e.val v (pwB w + 2)).toInt) (s.coefOf e.val v (pwB w + 3)).toInt) - (rshr ((s.coefOf e.val v (pwB w)).toInt * v.gs (pwA w)) (pwF w)) else if (clampTo 47 ((rshr ((s.coefOf e.val v (pwB w)).toInt * v.gs (pwA w)) (pwF w)) + (dataWord v.data (pwLow w)).toInt + (rshr ((s.coefOf e.val v (pwB w + 1)).toInt * v.gs (pwA w)) (pwF w)))).1 < (s.coefOf e.val v (pwB w + 3)).toInt then (s.coefOf e.val v (pwB w + 3)).toInt - (rshr ((s.coefOf e.val v (pwB w)).toInt * v.gs (pwA w)) (pwF w)) else (dataWord v.data (pwLow w)).toInt + (rshr ((s.coefOf e.val v (pwB w + 1)).toInt * v.gs (pwA w)) (pwF w))))).2) false = true) ∧
      (dataWord (t.invOf e.val v).data (pwLow w) = wordOfInt (sat32 ((if (max (if pwOpt w = 1 then (s.trackOf (e.val / 2)).toInt else (s.coefOf e.val v (pwB w + 2)).toInt) (s.coefOf e.val v (pwB w + 3)).toInt) < (clampTo 47 ((rshr ((s.coefOf e.val v (pwB w)).toInt * v.gs (pwA w)) (pwF w)) + (dataWord v.data (pwLow w)).toInt + (rshr ((s.coefOf e.val v (pwB w + 1)).toInt * v.gs (pwA w)) (pwF w)))).1 then (max (if pwOpt w = 1 then (s.trackOf (e.val / 2)).toInt else (s.coefOf e.val v (pwB w + 2)).toInt) (s.coefOf e.val v (pwB w + 3)).toInt) - (rshr ((s.coefOf e.val v (pwB w)).toInt * v.gs (pwA w)) (pwF w)) else if (clampTo 47 ((rshr ((s.coefOf e.val v (pwB w)).toInt * v.gs (pwA w)) (pwF w)) + (dataWord v.data (pwLow w)).toInt + (rshr ((s.coefOf e.val v (pwB w + 1)).toInt * v.gs (pwA w)) (pwF w)))).1 < (s.coefOf e.val v (pwB w + 3)).toInt then (s.coefOf e.val v (pwB w + 3)).toInt - (rshr ((s.coefOf e.val v (pwB w)).toInt * v.gs (pwA w)) (pwF w)) else (dataWord v.data (pwLow w)).toInt + (rshr ((s.coefOf e.val v (pwB w + 1)).toInt * v.gs (pwA w)) (pwF w)))))) ∧
      (∀ a : Fin 512, a.val ≠ pwLow w → dataWord (t.invOf e.val v).data a.val = dataWord v.data a.val)) ∧
  (∀ (s : State) (e : Eng) (v : Inv) (w : Word),
    s.pickFetch e.val .rsc = some (v, w) →
    1 ≤ v.left →
    ∃ t, exec (.rsc e) s = .next t ∧
      (t.eng e.val).run.isSome = true ∧
      (t.invOf e.val v).left = v.left - 1 ∧
      (v.loop = none → (t.invOf e.val v).pc = v.pc + 1) ∧
      ((t.invOf e.val v).pc = (match v.loop with | some l => if v.pc = l.last ∧ 1 < l.left then l.first else v.pc + 1 | none => v.pc + 1)) ∧
      t = s.setRun e.val (t.invOf e.val v) ∧
      ((if pwD w = 0 then (t.invOf e.val v).opv0 else (t.invOf e.val v).opv1) = wordOfInt (s.operand e.val v w true).1) ∧
      (if pwD w = 0 then (t.invOf e.val v).opv1 = v.opv1 else (t.invOf e.val v).opv0 = v.opv0) ∧
      ((t.invOf e.val v).g = v.g ∧ (t.invOf e.val v).n = v.n ∧ (t.invOf e.val v).z = v.z ∧ (t.invOf e.val v).sat = v.sat ∧ (t.invOf e.val v).data = v.data))

/-- The Pick read instructions bring in windows, trackers, angles and shared values; the Pick transforms compute the formulas of R97 and R98. While
the engine's next word is that row and its cycles are left: ACQ writes the selected result of a published window, or 0 with NR where the entry shows
none; MMX the minimum, the maximum, both, or the saturated range of a published record, or 0 with NR; ANG the latched or the present angle plus its
offset, the increment or the state of a domain, NR set but for the state while the domain is not usable; XCH, when its port serves this engine next
after w grants, an item of another cell with its NR; UHX read a shared value, with NR while it is stale. What the engine's own outputs of the last 2
cycles changed is read as before them. The budget falls by the row's cycles, of XCH 6 + 2 w + 2 k, and outside a loop the program goes on at the next
word. While the engine's next word is that row and its cycles are left: SCS writes sine and cosine to Gd and Gd+1, each within 129 units of 2^-31 of
the model's reference value sinRef; CLK, PRK and IPK write the rounded and saturated results that R98 gives for each option, PRK and IPK with the sine
negated under NEG. N and Z follow Gd, the budget falls by the row's cycles and, outside a loop, the program goes on at the next word. (R90, R94, R95,
R96, R97, R98, R99, R111, R112, R113, R114) -/
def Obligations.PickReadsAndTransforms : Prop :=
  (∀ (s : State) (e : Eng) (v : Inv) (w : Word),
    s.pickFetch e.val .acq = some (v, w) →
    1 ≤ v.left →
    ∃ t, exec (.acq e) s = .next t ∧
      (t.eng e.val).run.isSome = true ∧
      (t.invOf e.val v).left = v.left - 1 ∧
      (v.loop = none → (t.invOf e.val v).pc = v.pc + 1) ∧
      (s.entryWindow e.val (pwB w) = none → (t.invOf e.val v).gs (pwD w) = 0 ∧ (t.invOf e.val v).nr = true)) ∧
  (∀ (s : State) (e : Eng) (v : Inv) (w : Word) (c j : Nat) (r : WinRes),
    s.pickFetch e.val .acq = some (v, w) →
    1 ≤ v.left →
    s.entryWindow e.val (pwB w) = some (c, j, r) →
    ∃ t, exec (.acq e) s = .next t ∧
      (t.eng e.val).run.isSome = true ∧
      (t.invOf e.val v).left = v.left - 1 ∧
      (v.loop = none → (t.invOf e.val v).pc = v.pc + 1) ∧
      (t.invOf e.val v).gs (pwD w) = (s.acqValue c j (pwOpt w) r).toInt ∧
      (t.invOf e.val v).nr = v.nr) ∧
  (∀ (s : State) (e : Eng) (v : Inv) (w : Word),
    s.pickFetch e.val .mmx = some (v, w) →
    1 ≤ v.left →
    ∃ t, exec (.mmx e) s = .next t ∧
      (t.eng e.val).run.isSome = true ∧
      (t.invOf e.val v).left = v.left - 1 ∧
      (v.loop = none → (t.invOf e.val v).pc = v.pc + 1) ∧
      (s.entryRecord e.val (pwB w) = none → (t.invOf e.val v).nr = true ∧ (t.invOf e.val v).gs (pwD w) = 0) ∧
      ((s.entryRecord e.val (pwB w)).isSome = true → (t.invOf e.val v).nr = v.nr ∧ (t.invOf e.val v).gs (pwD w) = (match pwOpt w with | 1 => ((s.entryRecord e.val (pwB w)).getD (0, 0)).2 | 3 => sat32 (((s.entryRecord e.val (pwB w)).getD (0, 0)).2 - ((s.entryRecord e.val (pwB w)).getD (0, 0)).1) | _ => ((s.entryRecord e.val (pwB w)).getD (0, 0)).1) ∧ (pwOpt w = 2 → (t.invOf e.val v).gs (pwD w + 1) = ((s.entryRecord e.val (pwB w)).getD (0, 0)).2))) ∧
  (∀ (s : State) (e : Eng) (v : Inv) (w : Word),
    s.pickFetch e.val .ang = some (v, w) →
    1 ≤ v.left →
    ∃ t, exec (.ang e) s = .next t ∧
      (t.eng e.val).run.isSome = true ∧
      (t.invOf e.val v).left = v.left - 1 ∧
      (v.loop = none → (t.invOf e.val v).pc = v.pc + 1) ∧
      ((t.invOf e.val v).gs (pwD w) = (match pwOpt w with | 0 => v.angs.toList.getD (pwA w) 0 + s.angOffset e.val v w | 1 => posAng ((s.dom (pwA w)).pos - v.moved (pwA w)) + s.angOffset e.val v w | 2 => ((v.oldDom (pwA w)).map Prod.fst).getD (s.rdw .HF_INC (pwA w)) | _ => ((v.oldDom (pwA w)).map Prod.snd).getD (BitVec.ofNat 32 (s.domSt (pwA w)))).toInt) ∧
      (t.invOf e.val v).nr = (v.nr || (pwOpt w != 3 && !s.usable (pwA w)))) ∧
  (∀ (s : State) (e : Eng) (v : Inv) (w : Word) (waits : Fin 17) (fresh : Bool),
    s.pickFetch e.val .xch = some (v, w) →
    (6 + 2 * waits.val + 2 * fresh.toNat) ≤ v.left →
    s.xchNext (e.val / 2) = some e.val →
    s.xchWaits e.val = waits.val →
    ∃ t, exec (.xch e waits fresh) s = .next t ∧
      (t.eng e.val).run.isSome = true ∧
      (t.invOf e.val v).left = v.left - (6 + 2 * waits.val + 2 * fresh.toNat) ∧
      (v.loop = none → (t.invOf e.val v).pc = v.pc + 1) ∧
      (t.invOf e.val v).gs (pwD w) = (s.xchRead (bits w 0 6) (pwSel w) (bits w 6 6)).1.toInt ∧
      (t.invOf e.val v).nr = (v.nr || (s.xchRead (bits w 0 6) (pwSel w) (bits w 6 6)).2)) ∧
  (∀ (s : State) (e : Eng) (v : Inv) (w : Word),
    s.pickFetch e.val .uhxRead = some (v, w) →
    2 ≤ v.left →
    ∃ t, exec (.uhxRead e) s = .next t ∧
      (t.eng e.val).run.isSome = true ∧
      (t.invOf e.val v).left = v.left - 2 ∧
      (v.loop = none → (t.invOf e.val v).pc = v.pc + 1) ∧
      (t.invOf e.val v).gs (pwD w) = ((v.oldShared (bits w 0 8)).getD (s.sharedRead (bits w 0 8))).1.toInt ∧
      (t.invOf e.val v).nr = (v.nr || ((v.oldShared (bits w 0 8)).getD (s.sharedRead (bits w 0 8))).2)) ∧
  (∀ (s : State) (e : Eng) (v : Inv) (w : Word),
    s.pickFetch e.val .scs = some (v, w) →
    4 ≤ v.left →
    ∃ t, exec (.scs e) s = .next t ∧
      (t.eng e.val).run.isSome = true ∧
      (t.invOf e.val v).left = v.left - 4 ∧
      (v.loop = none → (t.invOf e.val v).pc = v.pc + 1) ∧
      (((t.invOf e.val v).gs (pwD w)) - sinRef (v.g.toList.getD (pwA w) 0)).natAbs ≤ 129 ∧
      (((t.invOf e.val v).gs (pwD w + 1)) - sinRef (v.g.toList.getD (pwA w) 0 + 0x40000000#32)).natAbs ≤ 129 ∧
      (t.invOf e.val v).n = decide ((t.invOf e.val v).gs (pwD w) < 0) ∧
      (t.invOf e.val v).z = decide ((t.invOf e.val v).gs (pwD w) = 0)) ∧
  (∀ (s : State) (e : Eng) (v : Inv) (w : Word),
    s.pickFetch e.val .clk = some (v, w) →
    1 ≤ v.left →
    ∃ t, exec (.clk e) s = .next t ∧
      (t.eng e.val).run.isSome = true ∧
      (t.invOf e.val v).left = v.left - 1 ∧
      (v.loop = none → (t.invOf e.val v).pc = v.pc + 1) ∧
      (pwOpt w = 0 → (t.invOf e.val v).gs (pwD w) = v.gs (pwA w) ∧ (t.invOf e.val v).gs (pwD w + 1) = sat32 (rshr (v.gs (pwA w) * kR3 + v.gs (pwB w) * k2R3) 31)) ∧
      (pwOpt w = 1 → (t.invOf e.val v).gs (pwD w) = sat32 (rshr (v.gs (pwA w) * kTwoThirds - v.gs (pwB w) * kThird - v.gs (pwB w + 1) * kThird) 31) ∧ (t.invOf e.val v).gs (pwD w + 1) = sat32 (rshr (v.gs (pwB w) * kR3 - v.gs (pwB w + 1) * kR3) 31)) ∧
      (t.invOf e.val v).n = decide ((t.invOf e.val v).gs (pwD w) < 0) ∧
      (t.invOf e.val v).z = decide ((t.invOf e.val v).gs (pwD w) = 0)) ∧
  (∀ (s : State) (e : Eng) (v : Inv) (w : Word),
    s.pickFetch e.val .prk = some (v, w) →
    1 ≤ v.left →
    ∃ t, exec (.prk e) s = .next t ∧
      (t.eng e.val).run.isSome = true ∧
      (t.invOf e.val v).left = v.left - 1 ∧
      (v.loop = none → (t.invOf e.val v).pc = v.pc + 1) ∧
      (t.invOf e.val v).gs (pwD w) = sat32 (rshr (v.gs (pwA w) * v.gs (pwB w + 1) + v.gs (pwA w + 1) * (rotSign w * v.gs (pwB w))) 31) ∧
      (t.invOf e.val v).gs (pwD w + 1) = sat32 (rshr (v.gs (pwA w + 1) * v.gs (pwB w + 1) - v.gs (pwA w) * (rotSign w * v.gs (pwB w))) 31) ∧
      (t.invOf e.val v).n = decide ((t.invOf e.val v).gs (pwD w) < 0) ∧
      (t.invOf e.val v).z = decide ((t.invOf e.val v).gs (pwD w) = 0)) ∧
  (∀ (s : State) (e : Eng) (v : Inv) (w : Word),
    s.pickFetch e.val .ipk = some (v, w) →
    1 ≤ v.left →
    ∃ t, exec (.ipk e) s = .next t ∧
      (t.eng e.val).run.isSome = true ∧
      (t.invOf e.val v).left = v.left - 1 ∧
      (v.loop = none → (t.invOf e.val v).pc = v.pc + 1) ∧
      (pwOpt w ≤ 1 → (t.invOf e.val v).gs (pwD w) = sat32 (rshr (v.gs (pwA w) * v.gs (pwB w + 1) - v.gs (pwA w + 1) * (rotSign w * v.gs (pwB w))) 31)) ∧
      (pwOpt w = 0 → (t.invOf e.val v).gs (pwD w + 1) = sat32 (rshr (v.gs (pwA w) * (rotSign w * v.gs (pwB w)) + v.gs (pwA w + 1) * v.gs (pwB w + 1)) 31)) ∧
      (pwOpt w = 2 → (t.invOf e.val v).gs (pwD w) = sat32 (rshr ((v.gs (pwA w) * (rotSign w * v.gs (pwB w)) + v.gs (pwA w + 1) * v.gs (pwB w + 1)) * kR32 - (v.gs (pwA w) * v.gs (pwB w + 1) - v.gs (pwA w + 1) * (rotSign w * v.gs (pwB w))) * kHalf) 62)) ∧
      (pwOpt w = 3 → (t.invOf e.val v).gs (pwD w) = sat32 (rshr (-((v.gs (pwA w) * (rotSign w * v.gs (pwB w)) + v.gs (pwA w + 1) * v.gs (pwB w + 1)) * kR32) - (v.gs (pwA w) * v.gs (pwB w + 1) - v.gs (pwA w + 1) * (rotSign w * v.gs (pwB w))) * kHalf) 62)) ∧
      (t.invOf e.val v).n = decide ((t.invOf e.val v).gs (pwD w) < 0) ∧
      (t.invOf e.val v).z = decide ((t.invOf e.val v).gs (pwD w) = 0))

/-- The Pick output instructions deliver to their destinations. While the engine's next word is that row and its cycles are left, it completes, the
budget falls by its cycles and, outside a loop, the program goes on. OUT writes a contender slot and makes an evaluation due 4 ns later, its own
engine reading the old value for 2 cycles; a routed slot refuses it with OUT_DENIED. A domain form on the live cell's PICK domain sets the increment,
clamped with FREQ_CLAMP, and its 1 ms deadline, moves the position by the signed step, and takes LOST to ACQUIRE, without a step also ACQUIRE and
COAST to LIVE; else it sets OUT_DENIED and the domain stays. DUTY in the channel's form is stored, under IMM also active; in the other form it sets
FORM_DENIED, under an arbiter duty destination DUTY_DENIED, the duty unchanged. EVT raises the cell's source, where a slice takes it; starts the
capture of an idle enabled trigger below the hold limit; or adds a marker to the cell's open, selecting stream with room. UHX publishes a value its
cell sources, else OUT_DENIED. (R71, R74, R108, R109, R110, R111, R114, R157) -/
def Obligations.PickOutputs : Prop :=
  (∀ (s : State) (e : Eng) (v : Inv) (w : Word),
    s.pickFetch e.val .outSlot = some (v, w) →
    1 ≤ v.left →
    ∃ t, exec (.outSlot e) s = .next t ∧
      (t.eng e.val).run.isSome = true ∧
      (t.invOf e.val v).left = v.left - 1 ∧
      (v.loop = none → (t.invOf e.val v).pc = v.pc + 1) ∧
      (s.routedIn (e.val / 2) (pwD w) = false → t.rdw .PK_SLOTVAL (e.val / 2) (pwD w) = (v.g.toList.getD (pwA w) 0) ∧ (t.arb (e.val / 2)).due.contains (s.now + 1) = true) ∧
      (s.routedIn (e.val / 2) (pwD w) = true → t.get PK_ARBCTL_OUT_DENIED (e.val / 2) = 1 ∧ ∀ j : Fin 8, t.rdw .PK_SLOTVAL (e.val / 2) j.val = s.rdw .PK_SLOTVAL (e.val / 2) j.val) ∧
      (v.unseen = [] → (t.invOf e.val v).oldSlot (pwD w) = some (s.rdw .PK_SLOTVAL (e.val / 2) (pwD w)))) ∧
  (∀ (s : State) (e : Eng) (v : Inv) (w : Word),
    s.pickFetch e.val .outInc = some (v, w) →
    1 ≤ v.left →
    (s.dom (pwD w)).src = srcPick →
    s.get HF_DOMCTL_PICKCELL (pwD w) = e.val / 2 →
    s.cellLive (e.val / 2) = true →
    ∃ t, exec (.outDomainInc e) s = .next t ∧
      (t.eng e.val).run.isSome = true ∧
      (t.invOf e.val v).left = v.left - 1 ∧
      (v.loop = none → (t.invOf e.val v).pc = v.pc + 1) ∧
      t.get HF_INC_INC (pwD w) = max incMin (min incMax (v.g.toList.getD (pwA w) 0).toNat) ∧
      ((v.g.toList.getD (pwA w) 0).toNat < incMin ∨ incMax < (v.g.toList.getD (pwA w) 0).toNat → t.get HF_DOMSTAT_FREQ_CLAMP (pwD w) = 1) ∧
      t.deadline (.pickSource (pwD w)) = some (s.now + ms) ∧
      (t.dom (pwD w)).pos = (s.dom (pwD w)).pos ∧
      (s.domSt (pwD w) = domAcquire ∨ s.domSt (pwD w) = domCoast ∨ s.domSt (pwD w) = domLive → t.domSt (pwD w) = domLive) ∧
      (s.domSt (pwD w) = domLost → t.domSt (pwD w) = domAcquire)) ∧
  (∀ (s : State) (e : Eng) (v : Inv) (w : Word),
    s.pickFetch e.val .outInc = some (v, w) →
    1 ≤ v.left →
    (¬ ((s.dom (pwD w)).src = srcPick ∧ s.get HF_DOMCTL_PICKCELL (pwD w) = e.val / 2 ∧ s.cellLive (e.val / 2) = true)) →
    ∃ t, exec (.outDomainInc e) s = .next t ∧
      (t.eng e.val).run.isSome = true ∧
      (t.invOf e.val v).left = v.left - 1 ∧
      (v.loop = none → (t.invOf e.val v).pc = v.pc + 1) ∧
      t.get PK_ARBCTL_OUT_DENIED (e.val / 2) = 1 ∧
      t.get HF_INC_INC (pwD w) = s.get HF_INC_INC (pwD w) ∧
      (t.dom (pwD w)).pos = (s.dom (pwD w)).pos ∧
      t.domSt (pwD w) = s.domSt (pwD w)) ∧
  (∀ (s : State) (e : Eng) (v : Inv) (w : Word),
    s.pickFetch e.val .outStep = some (v, w) →
    1 ≤ v.left →
    (s.dom (pwD w)).src = srcPick →
    s.get HF_DOMCTL_PICKCELL (pwD w) = e.val / 2 →
    s.cellLive (e.val / 2) = true →
    ∃ t, exec (.outDomainStep e) s = .next t ∧
      (t.eng e.val).run.isSome = true ∧
      (t.invOf e.val v).left = v.left - 1 ∧
      (v.loop = none → (t.invOf e.val v).pc = v.pc + 1) ∧
      t.get HF_INC_INC (pwD w) = max incMin (min incMax (v.g.toList.getD (pwA w) 0).toNat) ∧
      ((v.g.toList.getD (pwA w) 0).toNat < incMin ∨ incMax < (v.g.toList.getD (pwA w) 0).toNat → t.get HF_DOMSTAT_FREQ_CLAMP (pwD w) = 1) ∧
      t.deadline (.pickSource (pwD w)) = some (s.now + ms) ∧
      (t.dom (pwD w)).pos = (s.dom (pwD w)).pos + BitVec.ofInt 80 (v.gs (pwB w) * 65536) ∧
      (s.domSt (pwD w) = domLost → t.domSt (pwD w) = domAcquire)) ∧
  (∀ (s : State) (e : Eng) (v : Inv) (w : Word),
    s.pickFetch e.val .outStep = some (v, w) →
    1 ≤ v.left →
    (¬ ((s.dom (pwD w)).src = srcPick ∧ s.get HF_DOMCTL_PICKCELL (pwD w) = e.val / 2 ∧ s.cellLive (e.val / 2) = true)) →
    ∃ t, exec (.outDomainStep e) s = .next t ∧
      (t.eng e.val).run.isSome = true ∧
      (t.invOf e.val v).left = v.left - 1 ∧
      (v.loop = none → (t.invOf e.val v).pc = v.pc + 1) ∧
      t.get PK_ARBCTL_OUT_DENIED (e.val / 2) = 1 ∧
      t.get HF_INC_INC (pwD w) = s.get HF_INC_INC (pwD w) ∧
      (t.dom (pwD w)).pos = (s.dom (pwD w)).pos ∧
      t.domSt (pwD w) = s.domSt (pwD w)) ∧
  (∀ (s : State) (e : Eng) (v : Inv) (w : Word),
    s.pickFetch e.val .duty = some (v, w) →
    1 ≤ v.left →
    s.get PK_ARBCTL_DEST (e.val / 2) ≠ 1 →
    s.get PK_ARBCTL_DEST (e.val / 2) ≠ 2 →
    s.on PW_CHCTL_FORM (e.val / 2) = decide (pwOpt w = 2) →
    ∃ t, exec (.duty e) s = .next t ∧
      (t.eng e.val).run.isSome = true ∧
      (t.invOf e.val v).left = v.left - 1 ∧
      (v.loop = none → (t.invOf e.val v).pc = v.pc + 1) ∧
      (t.get PW_DUTY_DUTY (e.val / 2) = (if pwOpt w = 2 then absDuty (v.g.toList.getD (pwA w) 0) else ratioDuty (decide (pwOpt w = 1)) (v.g.toList.getD (pwA w) 0)).toNat) ∧
      (s.on PW_CHCTL_IMM (e.val / 2) = true → (t.chan (e.val / 2)).duty = (if pwOpt w = 2 then absDuty (v.g.toList.getD (pwA w) 0) else ratioDuty (decide (pwOpt w = 1)) (v.g.toList.getD (pwA w) 0))) ∧
      (s.on PW_CHCTL_IMM (e.val / 2) = false → (t.chan (e.val / 2)).duty = (s.chan (e.val / 2)).duty)) ∧
  (∀ (s : State) (e : Eng) (v : Inv) (w : Word),
    s.pickFetch e.val .duty = some (v, w) →
    1 ≤ v.left →
    s.get PK_ARBCTL_DEST (e.val / 2) ≠ 1 →
    s.get PK_ARBCTL_DEST (e.val / 2) ≠ 2 →
    s.on PW_CHCTL_FORM (e.val / 2) = !decide (pwOpt w = 2) →
    ∃ t, exec (.duty e) s = .next t ∧
      (t.eng e.val).run.isSome = true ∧
      (t.invOf e.val v).left = v.left - 1 ∧
      (v.loop = none → (t.invOf e.val v).pc = v.pc + 1) ∧
      t.get PW_CHSTAT_FORM_DENIED (e.val / 2) = 1 ∧
      t.rdw .PW_DUTY (e.val / 2) = s.rdw .PW_DUTY (e.val / 2) ∧
      (t.chan (e.val / 2)).duty = (s.chan (e.val / 2)).duty) ∧
  (∀ (s : State) (e : Eng) (v : Inv) (w : Word),
    s.pickFetch e.val .duty = some (v, w) →
    1 ≤ v.left →
    (s.get PK_ARBCTL_DEST (e.val / 2) = 1 ∨ s.get PK_ARBCTL_DEST (e.val / 2) = 2) →
    ∃ t, exec (.duty e) s = .next t ∧
      (t.eng e.val).run.isSome = true ∧
      (t.invOf e.val v).left = v.left - 1 ∧
      (v.loop = none → (t.invOf e.val v).pc = v.pc + 1) ∧
      t.get PK_ARBCTL_DUTY_DENIED (e.val / 2) = 1 ∧
      t.rdw .PW_DUTY (e.val / 2) = s.rdw .PW_DUTY (e.val / 2) ∧
      (t.chan (e.val / 2)).duty = (s.chan (e.val / 2)).duty) ∧
  (∀ (s : State) (e : Eng) (v : Inv) (w : Word),
    s.pickFetch e.val .evtEvent = some (v, w) →
    1 ≤ v.left →
    s.routed (64 + e.val / 2) = true →
    ∃ t, exec (.evtEvent e) s = .next t ∧
      (t.eng e.val).run.isSome = true ∧
      (t.invOf e.val v).left = v.left - 1 ∧
      (v.loop = none → (t.invOf e.val v).pc = v.pc + 1) ∧
      t.raised (64 + e.val / 2) = true) ∧
  (∀ (s : State) (e : Eng) (v : Inv) (w : Word),
    s.pickFetch e.val .evtTrigger = some (v, w) →
    1 ≤ v.left →
    s.released uSeam = true →
    s.on SE_TRGCTL_EN (bits w 0 4) = true →
    s.get SE_CAPSTAT_STATE (bits w 0 4) = capIdle →
    s.heldMb < 288 →
    ∃ t, exec (.evtSeamTrigger e) s = .next t ∧
      (t.eng e.val).run.isSome = true ∧
      (t.invOf e.val v).left = v.left - 1 ∧
      (v.loop = none → (t.invOf e.val v).pc = v.pc + 1) ∧
      t.get SE_CAPSTAT_STATE (bits w 0 4) = capPost ∧
      (t.captureU (bits w 0 4)).endAt = s.now + (s.get SE_TRGCFG_POST (bits w 0 4) + 11) * ms) ∧
  (∀ (s : State) (e : Eng) (v : Inv) (w : Word) (x0 : Nat),
    s.pickFetch e.val .evtMarker = some (v, w) →
    1 ≤ v.left →
    s.streamOn (e.val / 2) = true →
    bit (BitVec.ofNat 32 (s.get SE_STRCFG_SEL (e.val / 2))) 4 = true →
    (s.streamU (e.val / 2)).dropped = 0 →
    (s.streamU (e.val / 2)).lastTime = some x0 →
    s.now - x0 ≤ 262143 →
    s.on SE_STRSTAT_OPEN (e.val / 2) = true →
    (s.streamU (e.val / 2)).burst.length + 16 < 256 →
    ∃ t, exec (.evtMarker e) s = .next t ∧
      (t.eng e.val).run.isSome = true ∧
      (t.invOf e.val v).left = v.left - 1 ∧
      (v.loop = none → (t.invOf e.val v).pc = v.pc + 1) ∧
      (t.streamU (e.val / 2)).burst = (s.streamU (e.val / 2)).burst ++ wordBytes [recHeader 8 1 (e.val / 2) (s.now - x0), s.rdw .PK_ICOUNT e.val, (v.g.toList.getD (pwA w) 0), 0]) ∧
  (∀ (s : State) (e : Eng) (v : Inv) (w : Word),
    s.pickFetch e.val .uhxWrite = some (v, w) →
    2 ≤ v.left →
    s.sources (bits w 0 8) = true →
    s.on UH_USVCFG_SRC (bits w 0 8) = false →
    s.get UH_USVCFG_ID (bits w 0 8) = e.val / 2 →
    ∃ t, exec (.uhxWrite e) s = .next t ∧
      (t.eng e.val).run.isSome = true ∧
      (t.invOf e.val v).left = v.left - 2 ∧
      (v.loop = none → (t.invOf e.val v).pc = v.pc + 1) ∧
      (t.pub (bits w 0 8)).value = (v.g.toList.getD (pwA w) 0) ∧
      (t.pub (bits w 0 8)).at_ = some s.now) ∧
  (∀ (s : State) (e : Eng) (v : Inv) (w : Word),
    s.pickFetch e.val .uhxWrite = some (v, w) →
    2 ≤ v.left →
    (¬ (s.sources (bits w 0 8) = true ∧ s.on UH_USVCFG_SRC (bits w 0 8) = false ∧ s.get UH_USVCFG_ID (bits w 0 8) = e.val / 2)) →
    ∃ t, exec (.uhxWrite e) s = .next t ∧
      (t.eng e.val).run.isSome = true ∧
      (t.invOf e.val v).left = v.left - 2 ∧
      (v.loop = none → (t.invOf e.val v).pc = v.pc + 1) ∧
      t.get PK_ARBCTL_OUT_DENIED (e.val / 2) = 1 ∧
      t.pub (bits w 0 8) = s.pub (bits w 0 8))

/-- Branches, loops and the endings of an invocation. While the engine's next word is that row and its cycles are left: BRF goes to its target when
its condition holds, leaving a body that ends before it, and else on, at the end of an active body to its start; it takes no cycle after a one-cycle
instruction and else one, and changes no register. LOOP opens a body of its length and count. END commits the working data and operating-point words,
END DISCARD does not; both end the invocation, clear BUSY and set the sticky flags of SAT, DZ and NR. An illegal word with a cycle left, or an
instruction that needs more cycles than are left, ends the invocation uncommitted with BUDGET_EXH, EXHCOUNT one more, saturating, BUSY clear, and the
block's Pick fault raised where a slice takes it. (R66, R92, R115, R116, R117, R118) -/
def Obligations.PickFlow : Prop :=
  (∀ (s : State) (e : Eng) (v : Inv) (w : Word),
    s.pickFetch e.val .brf = some (v, w) →
    ((if v.single = true then 0 else 1) ≤ v.left) →
    ∃ t, exec (.brf e) s = .next t ∧
      (t.eng e.val).run.isSome = true ∧
      (v.takes (bits w 10 4) = true → (t.invOf e.val v).pc = v.pc + 1 + pwLow w ∧ (t.invOf e.val v).loop = v.loop.filter (fun l => decide (v.pc + 1 + pwLow w ≤ l.last))) ∧
      (v.takes (bits w 10 4) = false → (t.invOf e.val v).pc = (match v.loop with | some l => if v.pc = l.last ∧ 1 < l.left then l.first else v.pc + 1 | none => v.pc + 1)) ∧
      ((t.invOf e.val v).left = v.left - (if v.single = true then 0 else 1)) ∧
      (t.invOf e.val v).g = v.g) ∧
  (∀ (s : State) (e : Eng) (v : Inv) (w : Word),
    s.pickFetch e.val .loop = some (v, w) →
    1 ≤ v.left →
    ∃ t, exec (.loop e) s = .next t ∧
      (t.eng e.val).run.isSome = true ∧
      (t.invOf e.val v).pc = v.pc + 1 ∧
      (t.invOf e.val v).left = v.left - 1 ∧
      (t.invOf e.val v).loop = some ⟨v.pc + 1, v.pc + 1 + bits w 6 8, bits w 0 6 + 1⟩ ∧
      (t.invOf e.val v).g = v.g) ∧
  (∀ (s : State) (e : Eng) (v : Inv) (w : Word),
    s.pickFetch e.val .end_ = some (v, w) →
    1 ≤ v.left →
    ∃ t, exec (.endRun e) s = .next t ∧
      (t.eng e.val).run = none ∧
      (t.eng e.val).data = v.data ∧
      t.rdw .PK_OPV e.val 0 = v.opv0 ∧
      t.rdw .PK_OPV e.val 1 = v.opv1 ∧
      t.get PK_PSTAT_BUSY e.val = 0 ∧
      (v.sat = true → t.get PK_PSTAT_SAT_SEEN e.val = 1) ∧
      (v.dz = true → t.get PK_PSTAT_DZ_SEEN e.val = 1) ∧
      (v.nr = true → t.get PK_PSTAT_NR_SEEN e.val = 1)) ∧
  (∀ (s : State) (e : Eng) (v : Inv) (w : Word),
    s.pickFetch e.val .discard = some (v, w) →
    1 ≤ v.left →
    ∃ t, exec (.endDiscard e) s = .next t ∧
      (t.eng e.val).run = none ∧
      (t.eng e.val).data = (s.eng e.val).data ∧
      t.rdw .PK_OPV e.val 0 = s.rdw .PK_OPV e.val 0 ∧
      t.rdw .PK_OPV e.val 1 = s.rdw .PK_OPV e.val 1 ∧
      t.get PK_PSTAT_BUSY e.val = 0 ∧
      (v.sat = true → t.get PK_PSTAT_SAT_SEEN e.val = 1) ∧
      (v.dz = true → t.get PK_PSTAT_DZ_SEEN e.val = 1) ∧
      (v.nr = true → t.get PK_PSTAT_NR_SEEN e.val = 1)) ∧
  (∀ (s : State) (e : Eng) (v : Inv) (w : Word),
    s.pickWord e.val = some (v, w) →
    pickDecode w v.pc v.loop.isSome = none →
    1 ≤ v.left →
    ∃ t, exec (.illegalWord e) s = .next t ∧
      (t.eng e.val).run = none ∧
      (t.eng e.val).data = (s.eng e.val).data ∧
      t.rdw .PK_OPV e.val 0 = s.rdw .PK_OPV e.val 0 ∧
      t.rdw .PK_OPV e.val 1 = s.rdw .PK_OPV e.val 1 ∧
      t.get PK_PSTAT_BUDGET_EXH e.val = 1 ∧
      t.get PK_PSTAT_BUSY e.val = 0 ∧
      t.get PK_LATE_EXHCOUNT e.val = min (s.get PK_LATE_EXHCOUNT e.val + 1) (2 ^ PK_LATE_EXHCOUNT.width - 1) ∧
      (∀ b : Block, s.blockOf (e.val / 2) = some b.val → s.routed (112 + b.val) = true → t.raised (112 + b.val) = true)) ∧
  (∀ (s : State) (e : Eng) (waits : Fin 17) (fresh : Bool),
    s.outOfBudget e.val waits.val fresh = true →
    ∃ t, exec (.budgetExh e waits fresh) s = .next t ∧
      (t.eng e.val).run = none ∧
      (t.eng e.val).data = (s.eng e.val).data ∧
      t.rdw .PK_OPV e.val 0 = s.rdw .PK_OPV e.val 0 ∧
      t.rdw .PK_OPV e.val 1 = s.rdw .PK_OPV e.val 1 ∧
      t.get PK_PSTAT_BUDGET_EXH e.val = 1 ∧
      t.get PK_PSTAT_BUSY e.val = 0 ∧
      t.get PK_LATE_EXHCOUNT e.val = min (s.get PK_LATE_EXHCOUNT e.val + 1) (2 ^ PK_LATE_EXHCOUNT.width - 1) ∧
      (∀ b : Block, s.blockOf (e.val / 2) = some b.val → s.routed (112 + b.val) = true → t.raised (112 + b.val) = true))

/-- The registers of an engine take what R19 and their rules admit. From a master that R19 admits: PARAM takes a word while no PARAMGO is pending, and
one it does not take that would change it sets PARAM_DENIED; PARAMGO sets GO; each entry of SLICEMAP takes an admissible value in a STOPPED block and
keeps its own otherwise, with SLICE_DENIED; ARBCTL takes an admissible route in a STOPPED block, keeps its route otherwise, with ROUTE_DENIED, and
takes SLOTEN in any case, whose change makes an evaluation due 4 ns later; an absolute duty in Q1.31 is refused whole. (R61, R67, R71, R72, R73, R76,
R83, R502) -/
def Obligations.PickRegistersAreWritten : Prop :=
  (∀ (s : State) (m : Master) (e : Eng) (n : Fin 64) (v : Word),
    s.busOpen m = true →
    s.engExists e.val = true →
    s.mayWriteCell m (e.val / 2) = true →
    ∃ t, exec (.paramWrite m e n v) s = .next t ∧
      (s.on PK_PARAMGO_GO e.val = false → t.rdw .PK_PARAM e.val n.val = v) ∧
      (s.on PK_PARAMGO_GO e.val = true → t.rdw .PK_PARAM e.val n.val = s.rdw .PK_PARAM e.val n.val ∧ t.get PK_PSTAT_PARAM_DENIED e.val = if v = s.rdw .PK_PARAM e.val n.val then s.get PK_PSTAT_PARAM_DENIED e.val else 1) ∧
      (t.eng e.val).data = (s.eng e.val).data) ∧
  (∀ (s : State) (m : Master) (e : Eng) (v : Word),
    s.busOpen m = true →
    s.engExists e.val = true →
    s.mayWriteCell m (e.val / 2) = true →
    ∃ t, exec (.paramgo m e v) s = .next t ∧
      t.on PK_PARAMGO_GO e.val = true ∧
      (t.eng e.val).data = (s.eng e.val).data) ∧
  (∀ (s : State) (m : Master) (e : Eng) (hi : Bool) (v : Word),
    s.busOpen m = true →
    s.engExists e.val = true →
    s.mayWriteCell m (e.val / 2) = true →
    ∃ t, exec (.slicemapWrite m e hi v) s = .next t ∧
      (∀ k : Fin 4, bits (t.rdw (if hi then .PK_SLICEMAP1 else .PK_SLICEMAP0) e.val) (8 * k.val) 8 = if (bits v (8 * k.val) 8 = bits (s.rdw (if hi then .PK_SLICEMAP1 else .PK_SLICEMAP0) e.val) (8 * k.val) 8 ∨ (s.cellStopped (e.val / 2) = true ∧ s.sliceOk (e.val / 2) (bits v (8 * k.val) 8) = true)) then bits v (8 * k.val) 8 else bits (s.rdw (if hi then .PK_SLICEMAP1 else .PK_SLICEMAP0) e.val) (8 * k.val) 8) ∧
      (t.get PK_PSTAT_SLICE_DENIED e.val = if ∀ k : Fin 4, (bits v (8 * k.val) 8 = bits (s.rdw (if hi then .PK_SLICEMAP1 else .PK_SLICEMAP0) e.val) (8 * k.val) 8 ∨ (s.cellStopped (e.val / 2) = true ∧ s.sliceOk (e.val / 2) (bits v (8 * k.val) 8) = true)) then s.get PK_PSTAT_SLICE_DENIED e.val else 1)) ∧
  (∀ (s : State) (m : Master) (c : Cell) (v : Word),
    s.busOpen m = true →
    s.mayWriteCell m c.val = true →
    s.cellStopped c.val = true →
    (s.routesOk (fun k => if k = c.val then keeping (s.rdw .PK_ARBCTL c.val) v (~~~arbRouteMask) else s.rdw .PK_ARBCTL k) = true) →
    (¬ (PK_ARBCTL_DEST.of v = 2 ∧ PK_ARBCTL_FMT.of v = 0)) →
    ∃ t, exec (.arbctlWrite m c v) s = .next t ∧
      t.rdw .PK_ARBCTL c.val = RegId.PK_ARBCTL.written (s.rdw .PK_ARBCTL c.val) (s.settle .PK_ARBCTL v c.val) ∧
      (changes (s.rdw .PK_ARBCTL c.val) v PK_ARBCTL_SLOTEN.mask = true → (t.arb c.val).due.contains (s.now + 1) = true)) ∧
  (∀ (s : State) (m : Master) (c : Cell) (v : Word),
    s.busOpen m = true →
    s.mayWriteCell m c.val = true →
    (s.cellStopped c.val = false ∨ s.routesOk (fun k => if k = c.val then keeping (s.rdw .PK_ARBCTL c.val) v (~~~arbRouteMask) else s.rdw .PK_ARBCTL k) = false) →
    (¬ (PK_ARBCTL_DEST.of v = 2 ∧ PK_ARBCTL_FMT.of v = 0)) →
    ∃ t, exec (.arbctlWrite m c v) s = .next t ∧
      t.rdw .PK_ARBCTL c.val &&& arbRouteMask = s.rdw .PK_ARBCTL c.val &&& arbRouteMask ∧
      t.get PK_ARBCTL_SLOTEN c.val = PK_ARBCTL_SLOTEN.of v ∧
      (changes (s.rdw .PK_ARBCTL c.val) v arbRouteMask = true → t.get PK_ARBCTL_ROUTE_DENIED c.val = 1) ∧
      (changes (s.rdw .PK_ARBCTL c.val) v PK_ARBCTL_SLOTEN.mask = true → (t.arb c.val).due.contains (s.now + 1) = true)) ∧
  (∀ (s : State) (m : Master) (c : Cell) (v : Word),
    s.busOpen m = true →
    s.mayWriteCell m c.val = true →
    PK_ARBCTL_DEST.of v = 2 →
    PK_ARBCTL_FMT.of v = 0 →
    ∃ t, exec (.arbctlWrite m c v) s = .next t ∧
      t.rdw .PK_ARBCTL c.val = PK_ARBCTL_ROUTE_DENIED.into (s.rdw .PK_ARBCTL c.val) 1 ∧
      t.pick = s.pick)

/-- Programs load, requests start invocations, and arbiters evaluate and deliver. LOAD of a valid stored program in a STOPPED block, PICK out of
reset, makes the engine LOADING, last in the order of loads; any other sets LOAD_DENIED and changes no load. The load first in order completes: the
engine holds the program, its data and operating-point words, no invocation, and BUDGET and WCET at the longest path. The oldest pending request
starts an invocation at its class's entry with the budget, the cause word, the latched region and angles, cleared accumulators and flags, the
committed data and a pending PARAMGO applied. A due evaluation shows EMPTY, or finds the enabled slot of the lowest value, WINCHG, event source and
all, and unless a re-sync holds deliveries delivers its value to the destination: nowhere, the duty in its form, or a slot, which is evaluated 4 ns
later. (R60, R61, R64, R65, R70, R71, R72, R73, R74, R77, R80, R81) -/
def Obligations.PickProgramsLoadAndStart : Prop :=
  (∀ (s : State) (m : Master) (e : Eng) (v : Word) (k : Nat) (p : PickProgram),
    s.busOpen m = true →
    s.engExists e.val = true →
    s.mayWriteCell m (e.val / 2) = true →
    s.cellStopped (e.val / 2) = true →
    s.released uPick = true →
    s.pick.set.find? (fun x => x.1 == PK_PCTL_PROGSEL.of v) = some (k, p) →
    p.valid = true →
    ∃ t, exec (.loadProgram m e v) s = .next t ∧
      t.get PK_PCTL_LOADED e.val = 0 ∧
      t.get PK_PCTL_LOADING e.val = 1 ∧
      (t.eng e.val).load = some p ∧
      t.pick.loads.getLast? = some e.val) ∧
  (∀ (s : State) (m : Master) (e : Eng) (v : Word),
    s.busOpen m = true →
    s.engExists e.val = true →
    s.mayWriteCell m (e.val / 2) = true →
    (s.cellStopped (e.val / 2) = false ∨ s.released uPick = false ∨ (s.pick.set.find? (fun x => x.1 == PK_PCTL_PROGSEL.of v)).all (fun x => !x.2.valid) = true) →
    ∃ t, exec (.loadProgram m e v) s = .next t ∧
      t.get PK_PCTL_LOAD_DENIED e.val = 1 ∧
      t.get PK_PCTL_LOADED e.val = s.get PK_PCTL_LOADED e.val ∧
      (t.eng e.val).load = (s.eng e.val).load ∧
      t.pick.loads = s.pick.loads) ∧
  (∀ (s : State) (e : Eng) (p : PickProgram),
    s.pick.loads.head? = some e.val →
    (s.eng e.val).load = some p →
    ∃ t, exec (.loadComplete e) s = .next t ∧
      (t.eng e.val).prog = some p ∧
      (t.eng e.val).load = none ∧
      (t.eng e.val).run = none ∧
      t.get PK_PSTAT_BUSY e.val = 0 ∧
      (t.eng e.val).data = dataOf p.data ∧
      t.get PK_PCTL_LOADED e.val = 1 ∧
      t.get PK_PCTL_LOADING e.val = 0 ∧
      t.get PK_BUDGET_BUDGET e.val = p.wcet.toList.foldl max 0 % 2 ^ PK_BUDGET_BUDGET.width ∧
      t.get PK_BUDGET_WCET e.val = p.wcet.toList.foldl max 0 % 2 ^ PK_BUDGET_WCET.width ∧
      t.rdw .PK_OPV e.val 0 = p.opv0 ∧
      t.rdw .PK_OPV e.val 1 = p.opv1 ∧
      t.pick.loads.contains e.val = false) ∧
  (∀ (s : State) (e : Eng) (k : Fin 3) (r : Req) (p : PickProgram) (v0 : Inv),
    s.canStart e.val = true →
    (s.eng e.val).pend[k] = some r →
    (∀ j : Fin 3, (s.eng e.val).pend[j].all (fun q => j == k || decide (r.since < q.since) || decide (r.since = q.since ∧ k < j)) = true) →
    (s.eng e.val).prog = some p →
    ∃ t, exec (.invocationStart e) s = .next t ∧
      (t.eng e.val).run.isSome = true ∧
      ((t.invOf e.val v0).cls = k.val ∧ (t.invOf e.val v0).pc = p.entries.toList.getD k.val 0 ∧ (t.invOf e.val v0).left = s.get PK_BUDGET_BUDGET e.val) ∧
      ((t.invOf e.val v0).g.toList = BitVec.ofNat 32 (k.val + (if k.val = 1 ∧ r.peak = true then 4 else 0) + (if r.merged = true then 8 else 0) + (if k.val = 0 then r.slot % 256 * 256 else 0) + (s.get PK_ICOUNT_ICOUNT e.val + 1) % 65536 * 65536) :: List.replicate 15 0) ∧
      ((t.invOf e.val v0).a0 = 0 ∧ (t.invOf e.val v0).a1 = 0 ∧ (t.invOf e.val v0).n = false ∧ (t.invOf e.val v0).z = false ∧ (t.invOf e.val v0).sat = false ∧ (t.invOf e.val v0).dz = false ∧ (t.invOf e.val v0).nr = false ∧ (t.invOf e.val v0).loop = none) ∧
      ((t.invOf e.val v0).angs = r.angs ∧ (t.invOf e.val v0).merged = r.merged) ∧
      (t.invOf e.val v0).region = 8 * s.get PK_REGION_IY e.val + s.get PK_REGION_IX e.val ∧
      ((t.invOf e.val v0).opv0 = s.rdw .PK_OPV e.val 0 ∧ (t.invOf e.val v0).opv1 = s.rdw .PK_OPV e.val 1) ∧
      (∀ a : Fin 448, dataWord (t.invOf e.val v0).data a.val = dataWord (s.eng e.val).data a.val) ∧
      ((∀ q : Fin 24, s.rampOn q.val (e.val / 2) = false) → ∀ n : Fin 64, dataWord (t.invOf e.val v0).data (448 + n.val) = if s.on PK_PARAMGO_GO e.val = true then s.rdw .PK_PARAM e.val n.val else dataWord (s.eng e.val).data (448 + n.val)) ∧
      t.on PK_PARAMGO_GO e.val = false ∧
      t.get PK_PSTAT_BUSY e.val = 1 ∧
      t.get PK_ICOUNT_ICOUNT e.val = (s.get PK_ICOUNT_ICOUNT e.val + 1) % 2 ^ PK_ICOUNT_ICOUNT.width ∧
      (t.eng e.val).pend[k] = none ∧
      (∀ j : Fin 3, j ≠ k → (t.eng e.val).pend[j] = (s.eng e.val).pend[j])) ∧
  (∀ (s : State) (c : Cell) (d : Nat) (j : Fin 8),
    (s.arb c.val).due.head? = some d →
    s.deliveriesHeld c.val = false →
    s.bitOf PK_ARBCTL_SLOTEN j.val c.val = true →
    (∀ i : Fin 8, s.bitOf PK_ARBCTL_SLOTEN i.val c.val = true → (s.rdw .PK_SLOTVAL c.val j.val).toInt < (s.rdw .PK_SLOTVAL c.val i.val).toInt ∨ ((s.rdw .PK_SLOTVAL c.val j.val).toInt = (s.rdw .PK_SLOTVAL c.val i.val).toInt ∧ j ≤ i)) →
    ∃ t, exec (.arbiterEvaluation c) s = .next t ∧
      t.get PK_ARBSTAT_EMPTY c.val = 0 ∧
      (t.arb c.val).winner = some j.val ∧
      t.now = max s.now d ∧
      ((s.arb c.val).winner = some j.val → t.get PK_ARBSTAT_WINCHG c.val = s.get PK_ARBSTAT_WINCHG c.val) ∧
      ((s.arb c.val).winner ≠ some j.val → t.get PK_ARBSTAT_WINNER c.val = j.val ∧ t.get PK_ARBSTAT_WINCHG c.val = (s.get PK_ARBSTAT_WINCHG c.val + 1) % 2 ^ PK_ARBSTAT_WINCHG.width ∧ (s.routed (128 + c.val) = true → t.raised (128 + c.val) = true)) ∧
      t.rdw .PK_ARBOUT c.val = s.rdw .PK_SLOTVAL c.val j.val ∧
      (t.arb c.val).delivered = true ∧
      (s.get PK_ARBCTL_DEST c.val = 0 → t.rdw .PW_DUTY c.val = s.rdw .PW_DUTY c.val) ∧
      (s.get PK_ARBCTL_DEST c.val = 1 → if s.on PW_CHCTL_FORM c.val = true then t.get PW_CHSTAT_FORM_DENIED c.val = 1 else t.rdw .PW_DUTY c.val = ratioDuty (s.on PK_ARBCTL_FMT c.val) (s.rdw .PK_SLOTVAL c.val j.val)) ∧
      (s.get PK_ARBCTL_DEST c.val = 2 → if s.on PW_CHCTL_FORM c.val = true then t.rdw .PW_DUTY c.val = absDuty (s.rdw .PK_SLOTVAL c.val j.val) else t.get PW_CHSTAT_FORM_DENIED c.val = 1) ∧
      (s.get PK_ARBCTL_DEST c.val = 3 → s.get PK_ARBCTL_DESTCELL c.val < 48 → t.rdw .PK_SLOTVAL (s.get PK_ARBCTL_DESTCELL c.val) (s.get PK_ARBCTL_DESTSLOT c.val) = s.rdw .PK_SLOTVAL c.val j.val ∧ (t.arb (s.get PK_ARBCTL_DESTCELL c.val)).due.contains (t.now + 1) = true)) ∧
  (∀ (s : State) (c : Cell) (d : Nat) (j : Fin 8),
    (s.arb c.val).due.head? = some d →
    s.deliveriesHeld c.val = true →
    s.bitOf PK_ARBCTL_SLOTEN j.val c.val = true →
    (∀ i : Fin 8, s.bitOf PK_ARBCTL_SLOTEN i.val c.val = true → (s.rdw .PK_SLOTVAL c.val j.val).toInt < (s.rdw .PK_SLOTVAL c.val i.val).toInt ∨ ((s.rdw .PK_SLOTVAL c.val j.val).toInt = (s.rdw .PK_SLOTVAL c.val i.val).toInt ∧ j ≤ i)) →
    ∃ t, exec (.arbiterEvaluation c) s = .next t ∧
      t.get PK_ARBSTAT_EMPTY c.val = 0 ∧
      (t.arb c.val).winner = some j.val ∧
      t.now = max s.now d ∧
      ((s.arb c.val).winner = some j.val → t.get PK_ARBSTAT_WINCHG c.val = s.get PK_ARBSTAT_WINCHG c.val) ∧
      ((s.arb c.val).winner ≠ some j.val → t.get PK_ARBSTAT_WINNER c.val = j.val ∧ t.get PK_ARBSTAT_WINCHG c.val = (s.get PK_ARBSTAT_WINCHG c.val + 1) % 2 ^ PK_ARBSTAT_WINCHG.width ∧ (s.routed (128 + c.val) = true → t.raised (128 + c.val) = true)) ∧
      t.rdw .PK_ARBOUT c.val = s.rdw .PK_ARBOUT c.val ∧
      t.rdw .PW_DUTY c.val = s.rdw .PW_DUTY c.val) ∧
  (∀ (s : State) (c : Cell) (d : Nat),
    (s.arb c.val).due.head? = some d →
    s.get PK_ARBCTL_SLOTEN c.val = 0 →
    ∃ t, exec (.arbiterEvaluation c) s = .next t ∧
      t.get PK_ARBSTAT_EMPTY c.val = 1 ∧
      t.rdw .PK_ARBOUT c.val = s.rdw .PK_ARBOUT c.val ∧
      t.rdw .PW_DUTY c.val = s.rdw .PW_DUTY c.val ∧
      t.now = max s.now d)

/-- A mismatched pair re-syncs and goes on. A mismatch or an uncorrectable error outside a re-sync drops the invocation, its output with it, shows
MISMATCH and RESYNC, raises the block's Pick fault, holds the cell's deliveries and starts the 24.8 µs, without the 2 µs compare-lane test in a split
engine; a corrected error sets ECC_CORR alone; during a re-sync the fault is final: the pair stays stopped with ECC_UNCORR and its block is inhibited,
a split engine HALTED. At their end RESYNC clears, and the oldest pending request starts, or with none pending a re-sync invocation; where the copy
could not be restored the end is as that of the final fault. (R59, R79) -/
def Obligations.PickPairsResync : Prop :=
  (∀ (s : State) (e : Eng) (cause : Fin 3),
    s.engExists e.val = true →
    s.released uPick = true →
    (s.eng e.val).stopped = false →
    cause ≠ 2 →
    s.pickSplit (e.val / 2) = false →
    s.on PK_PSTAT_RESYNC e.val = false →
    ∃ t, exec (.pairMismatch e cause) s = .next t ∧
      t.get PK_PSTAT_RESYNC e.val = 1 ∧
      t.get PK_PSTAT_MISMATCH e.val = 1 ∧
      (t.eng e.val).run = none ∧
      t.get PK_PSTAT_BUSY e.val = 0 ∧
      (t.eng e.val).data = (s.eng e.val).data ∧
      (cause = 1 → t.get PK_PSTAT_ECC_UNCORR e.val = 1) ∧
      (s.blockOf (e.val / 2)).all (fun b => !s.routed (112 + b) || t.raised (112 + b)) = true ∧
      t.deliveriesHeld (e.val / 2) = true ∧
      t.deadline (.resync e.val) = some (s.now + 6200)) ∧
  (∀ (s : State) (e : Eng),
    s.engExists e.val = true →
    s.released uPick = true →
    (s.eng e.val).stopped = false →
    s.pickSplit (e.val / 2) = true →
    s.on PK_PSTAT_RESYNC e.val = false →
    ∃ t, exec (.pairMismatch e 1) s = .next t ∧
      t.get PK_PSTAT_RESYNC e.val = 1 ∧
      t.get PK_PSTAT_MISMATCH e.val = 1 ∧
      (t.eng e.val).run = none ∧
      t.get PK_PSTAT_BUSY e.val = 0 ∧
      (t.eng e.val).data = (s.eng e.val).data ∧
      (t.get PK_PSTAT_ECC_UNCORR e.val = 1) ∧
      (s.blockOf (e.val / 2)).all (fun b => !s.routed (112 + b) || t.raised (112 + b)) = true ∧
      t.deliveriesHeld (e.val / 2) = true ∧
      t.deadline (.resync e.val) = some (s.now + 5700)) ∧
  (∀ (s : State) (e : Eng),
    s.engExists e.val = true →
    s.released uPick = true →
    (s.eng e.val).stopped = false →
    ∃ t, exec (.pairMismatch e 2) s = .next t ∧
      t = s.put PK_PSTAT_ECC_CORR 1 e.val) ∧
  (∀ (s : State) (e : Eng) (cause : Fin 3),
    s.engExists e.val = true →
    s.released uPick = true →
    (s.eng e.val).stopped = false →
    cause ≠ 2 →
    s.pickSplit (e.val / 2) = false →
    s.on PK_PSTAT_RESYNC e.val = true →
    ∃ t, exec (.pairMismatch e cause) s = .next t ∧
      t.get PK_PSTAT_RESYNC e.val = 0 ∧
      t.get PK_PSTAT_ECC_UNCORR e.val = 1 ∧
      t.get PK_PSTAT_MISMATCH e.val = 1 ∧
      (t.eng e.val).stopped = true ∧
      t.armed (.resync e.val) = false ∧
      (s.blockOf (e.val / 2)).all (fun b => t.bitOf FM_FSTAT_SF2INH b) = true) ∧
  (∀ (s : State) (e : Eng),
    s.engExists e.val = true →
    s.released uPick = true →
    (s.eng e.val).stopped = false →
    s.pickSplit (e.val / 2) = true →
    s.on PK_PSTAT_RESYNC e.val = true →
    ∃ t, exec (.pairMismatch e 1) s = .next t ∧
      t.get PK_PSTAT_RESYNC e.val = 0 ∧
      t.get PK_PSTAT_ECC_UNCORR e.val = 1 ∧
      t.get PK_PSTAT_MISMATCH e.val = 1 ∧
      t.get PK_PSTAT_HALTED e.val = 1 ∧
      (t.eng e.val).stopped = true ∧
      t.armed (.resync e.val) = false) ∧
  (∀ (s : State) (e : Eng) (d : Nat),
    s.deadline (.resync e.val) = some d →
    ((s.eng e.val).prog = none ∨ s.pickRuns e.val = false) →
    ∃ t, exec (.resyncComplete e false) s = .next t ∧
      t.get PK_PSTAT_RESYNC e.val = 0 ∧
      t.now = max s.now d ∧
      t.armed (.resync e.val) = false) ∧
  (∀ (s : State) (e : Eng) (d : Nat) (k : Fin 3) (r : Req) (p : PickProgram) (v0 : Inv),
    s.deadline (.resync e.val) = some d →
    s.pickRuns e.val = true →
    (s.eng e.val).run = none →
    (s.eng e.val).stopped = false →
    (s.eng e.val).pend[k] = some r →
    (∀ j : Fin 3, (s.eng e.val).pend[j].all (fun q => j == k || decide (r.since < q.since) || decide (r.since = q.since ∧ k < j)) = true) →
    (s.eng e.val).prog = some p →
    ∃ t, exec (.resyncComplete e false) s = .next t ∧
      t.get PK_PSTAT_RESYNC e.val = 0 ∧
      t.now = max s.now d ∧
      t.armed (.resync e.val) = false ∧
      (t.eng e.val).run.isSome = true ∧
      ((t.invOf e.val v0).cls = k.val ∧ (t.invOf e.val v0).pc = p.entries.toList.getD k.val 0 ∧ (t.invOf e.val v0).left = s.get PK_BUDGET_BUDGET e.val) ∧
      ((t.invOf e.val v0).g.toList = BitVec.ofNat 32 (k.val + (if k.val = 1 ∧ r.peak = true then 4 else 0) + (if r.merged = true then 8 else 0) + (if k.val = 0 then r.slot % 256 * 256 else 0) + (s.get PK_ICOUNT_ICOUNT e.val + 1) % 65536 * 65536) :: List.replicate 15 0) ∧
      ((t.invOf e.val v0).a0 = 0 ∧ (t.invOf e.val v0).a1 = 0 ∧ (t.invOf e.val v0).n = false ∧ (t.invOf e.val v0).z = false ∧ (t.invOf e.val v0).sat = false ∧ (t.invOf e.val v0).dz = false ∧ (t.invOf e.val v0).nr = false ∧ (t.invOf e.val v0).loop = none) ∧
      ((t.invOf e.val v0).angs = r.angs ∧ (t.invOf e.val v0).merged = r.merged) ∧
      (t.invOf e.val v0).region = 8 * s.get PK_REGION_IY e.val + s.get PK_REGION_IX e.val ∧
      ((t.invOf e.val v0).opv0 = s.rdw .PK_OPV e.val 0 ∧ (t.invOf e.val v0).opv1 = s.rdw .PK_OPV e.val 1) ∧
      (∀ a : Fin 448, dataWord (t.invOf e.val v0).data a.val = dataWord (s.eng e.val).data a.val) ∧
      ((∀ q : Fin 24, s.rampOn q.val (e.val / 2) = false) → ∀ n : Fin 64, dataWord (t.invOf e.val v0).data (448 + n.val) = if s.on PK_PARAMGO_GO e.val = true then s.rdw .PK_PARAM e.val n.val else dataWord (s.eng e.val).data (448 + n.val)) ∧
      t.on PK_PARAMGO_GO e.val = false ∧
      t.get PK_PSTAT_BUSY e.val = 1 ∧
      t.get PK_ICOUNT_ICOUNT e.val = (s.get PK_ICOUNT_ICOUNT e.val + 1) % 2 ^ PK_ICOUNT_ICOUNT.width) ∧
  (∀ (s : State) (e : Eng) (d : Nat) (p : PickProgram) (v0 : Inv),
    s.deadline (.resync e.val) = some d →
    s.pickRuns e.val = true →
    (s.eng e.val).run = none →
    (s.eng e.val).stopped = false →
    (∀ j : Fin 3, (s.eng e.val).pend[j] = none) →
    (s.eng e.val).prog = some p →
    ∃ t, exec (.resyncComplete e false) s = .next t ∧
      t.get PK_PSTAT_RESYNC e.val = 0 ∧
      t.now = max s.now d ∧
      t.armed (.resync e.val) = false ∧
      (t.eng e.val).run.isSome = true ∧
      ((t.invOf e.val v0).cls = 3 ∧ (t.invOf e.val v0).pc = p.entries.toList.getD 3 0 ∧ (t.invOf e.val v0).left = s.get PK_BUDGET_BUDGET e.val) ∧
      ((t.invOf e.val v0).a0 = 0 ∧ (t.invOf e.val v0).a1 = 0 ∧ (t.invOf e.val v0).n = false ∧ (t.invOf e.val v0).z = false ∧ (t.invOf e.val v0).sat = false ∧ (t.invOf e.val v0).dz = false ∧ (t.invOf e.val v0).nr = false ∧ (t.invOf e.val v0).loop = none) ∧
      (t.invOf e.val v0).region = 8 * s.get PK_REGION_IY e.val + s.get PK_REGION_IX e.val ∧
      ((t.invOf e.val v0).opv0 = s.rdw .PK_OPV e.val 0 ∧ (t.invOf e.val v0).opv1 = s.rdw .PK_OPV e.val 1) ∧
      (∀ a : Fin 448, dataWord (t.invOf e.val v0).data a.val = dataWord (s.eng e.val).data a.val) ∧
      ((∀ q : Fin 24, s.rampOn q.val (e.val / 2) = false) → ∀ n : Fin 64, dataWord (t.invOf e.val v0).data (448 + n.val) = if s.on PK_PARAMGO_GO e.val = true then s.rdw .PK_PARAM e.val n.val else dataWord (s.eng e.val).data (448 + n.val)) ∧
      t.on PK_PARAMGO_GO e.val = false ∧
      t.get PK_PSTAT_BUSY e.val = 1 ∧
      t.get PK_ICOUNT_ICOUNT e.val = (s.get PK_ICOUNT_ICOUNT e.val + 1) % 2 ^ PK_ICOUNT_ICOUNT.width) ∧
  (∀ (s : State) (e : Eng) (d : Nat),
    s.deadline (.resync e.val) = some d →
    ∃ t, exec (.resyncComplete e true) s = .next t ∧
      t.get PK_PSTAT_RESYNC e.val = 0 ∧
      t.now = max s.now d ∧
      t.armed (.resync e.val) = false ∧
      t.get PK_PSTAT_ECC_UNCORR e.val = 1 ∧
      (t.eng e.val).stopped = true ∧
      (s.pickSplit (e.val / 2) = true → t.get PK_PSTAT_HALTED e.val = 1) ∧
      (s.pickSplit (e.val / 2) = false → (s.blockOf (e.val / 2)).all (fun b => t.bitOf FM_FSTAT_SF2INH b) = true))

/-- Conversion sequences are triggered, start, convert, wait, and are dropped; the reference buffer comes up and is lost. SEQGO of an enabled sequence
with a live converter clock makes it PENDING, its start 8 ns away; while it is PENDING or RUNNING it counts an OVERLAP only; disabled, or with no live
clock, it changes nothing of the sequence. At the start point, e the first CONV edge, the run starts if its converters are idle at e and no
lower-numbered rival can start; else it is DEFERRED, and waits until MAXDEF ticks from e, or with MAXDEF 0 is dropped. A run that waits starts once
its converters are idle within that time and no rival outranks it; at MAXDEF it starts if they were idle in time and is dropped otherwise. A run takes
mask, POS and BURST as they stand, occupies its converters for 20 CONV clocks per conversion, and its first conversion ends at that time. A conversion
counts, and gives the channel at its position of a converter of the mask its sample; one that is not the last is followed by the next, the last ends
RUNNING and raises 256 + q. A dropped run ends PENDING, sets DROPPED, counts DROPS and raises 256 + q. SEQCTL of a disabled sequence takes the word;
of an enabled one only EN, with CFG_DENIED for another change; EN 0 cancels a pending start. TRIGSRC 0b11 is refused whole. Another master than a
lock-step pair sets CFG_DENIED only. A write of a lock-step pair of REFEN 1 to CTL starts a wait of 2 ms (500,000 ticks); while REFRDY is 1 or the
wait runs it starts none. At the end of the wait REFRDY is 1 and source 290 is raised. REFEN written 0 while REFRDY is 0 ends the wait. REFEN written
0, or a reference fault, while REFRDY is 1 clears it, sets REF_LOST, returns every channel, slice and tracker to NOT_READY with its window and
extremes discarded, and raises source 289. A write of another master changes neither REFEN nor REFRDY and sets CFG_DENIED. A reference fault while
REFRDY is 0 changes nothing (log entry 97). (R122, R124, R125, R128, R129, R130, R131) -/
def Obligations.SequencesAndReferenceRun : Prop :=
  (∀ (s : State) (m : Master) (q : Sequ) (v : Word),
    s.busOpen m = true →
    s.lockstep m = true →
    s.on SN_SEQCTL_EN q.val = true →
    s.convLive = true →
    s.on SN_SEQSTAT_PENDING q.val = false →
    s.on SN_SEQSTAT_RUNNING q.val = false →
    ∃ t, exec (.seqgo m q v) s = .next t ∧
      t.on SN_SEQSTAT_PENDING q.val = true ∧
      t.deadline (.seqStart q.val) = some (s.now + 2) ∧
      t.get SN_SEQSTAT_OVERLAP q.val = s.get SN_SEQSTAT_OVERLAP q.val) ∧
  (∀ (s : State) (m : Master) (q : Sequ) (v : Word),
    s.busOpen m = true →
    s.lockstep m = true →
    s.on SN_SEQCTL_EN q.val = true →
    s.convLive = true →
    (s.on SN_SEQSTAT_PENDING q.val = true ∨ s.on SN_SEQSTAT_RUNNING q.val = true) →
    ∃ t, exec (.seqgo m q v) s = .next t ∧
      t.get SN_SEQSTAT_OVERLAP q.val = min (s.get SN_SEQSTAT_OVERLAP q.val + 1) (2 ^ SN_SEQSTAT_OVERLAP.width - 1) ∧
      t.on SN_SEQSTAT_RUNNING q.val = s.on SN_SEQSTAT_RUNNING q.val ∧
      t.on SN_SEQSTAT_PENDING q.val = s.on SN_SEQSTAT_PENDING q.val ∧
      t.timers = s.timers) ∧
  (∀ (s : State) (m : Master) (q : Sequ) (v : Word),
    s.busOpen m = true →
    s.lockstep m = true →
    (s.on SN_SEQCTL_EN q.val = false ∨ s.convLive = false) →
    ∃ t, exec (.seqgo m q v) s = .next t ∧
      t.rdw .SN_SEQSTAT q.val = s.rdw .SN_SEQSTAT q.val ∧
      t.timers = s.timers) ∧
  (∀ (s : State) (m : Master) (q : Sequ) (v : Word),
    s.busOpen m = true →
    s.lockstep m = false →
    ∃ t, exec (.seqgo m q v) s = .next t ∧
      t.get SN_CTL_CFG_DENIED = 1 ∧
      t.rdw .SN_SEQSTAT q.val = s.rdw .SN_SEQSTAT q.val ∧
      t.timers = s.timers) ∧
  (∀ (s : State) (q : Sequ) (d e : Nat),
    (s.seqU q.val).waiting = false →
    s.deadline (.seqStart q.val) = some d →
    (s.convEdge (max s.now d)).1 = e →
    (∀ v : Fin 32, bit (s.rdw .SN_SEQMASK q.val) v.val = true → s.sense.freeAt[v] ≤ e) →
    (s.advanceTo d).outranked q.val = false →
    ∃ t, exec (.sequenceRunStart q) s = .next t ∧
      t.on SN_SEQSTAT_RUNNING q.val = true ∧
      t.on SN_SEQSTAT_PENDING q.val = false ∧
      t.deadline (.conv q.val) = some ((e + 500 + 23) / 24) ∧
      (t.seqU q.val) = ⟨s.rdw .SN_SEQMASK q.val, s.get SN_SEQCTL_POS q.val, s.get SN_SEQCTL_BURST q.val, 0, false, e⟩ ∧
      (∀ v : Fin 32, bit (s.rdw .SN_SEQMASK q.val) v.val = true → t.sense.freeAt[v] = e + 500 * ((s.get SN_SEQCTL_BURST q.val + 1) * (if s.get SN_SEQCTL_POS q.val = 3 then 3 else 1))) ∧
      t.get SN_SEQSTAT_DROPS q.val = s.get SN_SEQSTAT_DROPS q.val) ∧
  (∀ (s : State) (q : Sequ) (d e : Nat),
    (s.seqU q.val).waiting = false →
    s.deadline (.seqStart q.val) = some d →
    (s.convEdge (max s.now d)).1 = e →
    ((∃ v : Fin 32, bit (s.rdw .SN_SEQMASK q.val) v.val = true ∧ e < s.sense.freeAt[v]) ∨ (s.advanceTo d).outranked q.val = true) →
    0 < s.get SN_SEQDLY_MAXDEF q.val →
    ∃ t, exec (.sequenceRunStart q) s = .next t ∧
      t.on SN_SEQSTAT_DEFERRED q.val = true ∧
      ((t.seqU q.val).waiting = true ∧ (t.seqU q.val).startAt = e) ∧
      t.on SN_SEQSTAT_PENDING q.val = s.on SN_SEQSTAT_PENDING q.val ∧
      t.on SN_SEQSTAT_RUNNING q.val = s.on SN_SEQSTAT_RUNNING q.val ∧
      t.deadline (.seqDrop q.val) = some (e / 24 + s.get SN_SEQDLY_MAXDEF q.val)) ∧
  (∀ (s : State) (q : Sequ) (d e : Nat),
    (s.seqU q.val).waiting = false →
    s.deadline (.seqStart q.val) = some d →
    (s.convEdge (max s.now d)).1 = e →
    ((∃ v : Fin 32, bit (s.rdw .SN_SEQMASK q.val) v.val = true ∧ e < s.sense.freeAt[v]) ∨ (s.advanceTo d).outranked q.val = true) →
    s.get SN_SEQDLY_MAXDEF q.val = 0 →
    s.routed (256 + q.val) = true →
    ∃ t, exec (.sequenceRunStart q) s = .next t ∧
      t.on SN_SEQSTAT_DEFERRED q.val = true ∧
      t.on SN_SEQSTAT_DROPPED q.val = true ∧
      t.on SN_SEQSTAT_PENDING q.val = false ∧
      (t.seqU q.val).waiting = false ∧
      t.get SN_SEQSTAT_DROPS q.val = min (s.get SN_SEQSTAT_DROPS q.val + 1) (2 ^ SN_SEQSTAT_DROPS.width - 1) ∧
      t.raised (256 + q.val) = true ∧
      t.on SN_SEQSTAT_RUNNING q.val = s.on SN_SEQSTAT_RUNNING q.val) ∧
  (∀ (s : State) (q : Sequ) (e : Nat),
    (s.seqU q.val).waiting = true →
    max (s.seqU q.val).startAt (s.idleEdge (s.rdw .SN_SEQMASK q.val)) = e →
    e ≤ (s.seqU q.val).startAt + 24 * s.get SN_SEQDLY_MAXDEF q.val →
    s.convLive = true →
    (s.advanceTo (e / 24)).outranked q.val = false →
    ∃ t, exec (.sequenceRunStart q) s = .next t ∧
      t.now = max s.now (e / 24) ∧
      t.armed (.seqDrop q.val) = false ∧
      t.on SN_SEQSTAT_RUNNING q.val = true ∧
      t.on SN_SEQSTAT_PENDING q.val = false ∧
      t.deadline (.conv q.val) = some ((e + 500 + 23) / 24) ∧
      (t.seqU q.val) = ⟨s.rdw .SN_SEQMASK q.val, s.get SN_SEQCTL_POS q.val, s.get SN_SEQCTL_BURST q.val, 0, false, e⟩ ∧
      (∀ v : Fin 32, bit (s.rdw .SN_SEQMASK q.val) v.val = true → t.sense.freeAt[v] = e + 500 * ((s.get SN_SEQCTL_BURST q.val + 1) * (if s.get SN_SEQCTL_POS q.val = 3 then 3 else 1))) ∧
      t.get SN_SEQSTAT_DROPS q.val = s.get SN_SEQSTAT_DROPS q.val) ∧
  (∀ (s : State) (q : Sequ) (d : Nat),
    s.deadline (.seqDrop q.val) = some d →
    (s.seqU q.val).waiting = true →
    (s.get SN_SEQDLY_MAXDEF q.val * 24 + (s.seqU q.val).startAt < s.idleEdge (s.rdw .SN_SEQMASK q.val) ∨ (s.advanceTo d).outranked q.val = true) →
    s.routed (256 + q.val) = true →
    ∃ t, exec (.dropped q) s = .next t ∧
      t.now = max s.now d ∧
      t.on SN_SEQSTAT_DROPPED q.val = true ∧
      t.on SN_SEQSTAT_PENDING q.val = false ∧
      (t.seqU q.val).waiting = false ∧
      t.get SN_SEQSTAT_DROPS q.val = min (s.get SN_SEQSTAT_DROPS q.val + 1) (2 ^ SN_SEQSTAT_DROPS.width - 1) ∧
      t.raised (256 + q.val) = true ∧
      t.on SN_SEQSTAT_RUNNING q.val = s.on SN_SEQSTAT_RUNNING q.val) ∧
  (∀ (s : State) (q : Sequ) (d e : Nat),
    s.deadline (.seqDrop q.val) = some d →
    (s.seqU q.val).waiting = true →
    max (s.seqU q.val).startAt (s.idleEdge (s.rdw .SN_SEQMASK q.val)) = e →
    e ≤ (s.seqU q.val).startAt + 24 * s.get SN_SEQDLY_MAXDEF q.val →
    (s.advanceTo d).outranked q.val = false →
    ∃ t, exec (.dropped q) s = .next t ∧
      t.now = max s.now d ∧
      t.on SN_SEQSTAT_RUNNING q.val = true ∧
      t.on SN_SEQSTAT_PENDING q.val = false ∧
      t.deadline (.conv q.val) = some ((e + 500 + 23) / 24) ∧
      (t.seqU q.val) = ⟨s.rdw .SN_SEQMASK q.val, s.get SN_SEQCTL_POS q.val, s.get SN_SEQCTL_BURST q.val, 0, false, e⟩ ∧
      (∀ v : Fin 32, bit (s.rdw .SN_SEQMASK q.val) v.val = true → t.sense.freeAt[v] = e + 500 * ((s.get SN_SEQCTL_BURST q.val + 1) * (if s.get SN_SEQCTL_POS q.val = 3 then 3 else 1))) ∧
      t.get SN_SEQSTAT_DROPS q.val = s.get SN_SEQSTAT_DROPS q.val) ∧
  (∀ (s : State) (q : Sequ) (codes : Vector (BitVec 16) 32) (d : Nat),
    s.deadline (.conv q.val) = some d →
    ((s.seqU q.val).made + 1 = ((s.seqU q.val).burst + 1) * (if (s.seqU q.val).pos = 3 then 3 else 1)) →
    s.routed (256 + q.val) = true →
    ∃ t, exec (.conversionEnd q codes) s = .next t ∧
      t.on SN_SEQSTAT_RUNNING q.val = false ∧
      t.raised (256 + q.val) = true ∧
      (t.seqU q.val).made = (s.seqU q.val).made + 1 ∧
      t.now = max s.now d) ∧
  (∀ (s : State) (q : Sequ) (codes : Vector (BitVec 16) 32) (d : Nat) (v : Fin 32) (c : Chan) (n : Int),
    s.deadline (.conv q.val) = some d →
    ((s.seqU q.val).made + 1 ≠ ((s.seqU q.val).burst + 1) * (if (s.seqU q.val).pos = 3 then 3 else 1)) →
    bit (s.seqU q.val).mask v.val = true →
    (c.val = v.val + 32 * (if (s.seqU q.val).pos = 3 then (s.seqU q.val).made % 3 else (s.seqU q.val).pos)) →
    n = max (-8388608) (min 8388607 (((codes[v]).toNat - 32768 - (BitVec.ofNat 16 (s.get SN_CHCTL_OFFSET c.val)).toInt) * 256)) →
    ∃ t, exec (.conversionEnd q codes) s = .next t ∧
      t.on SN_SEQSTAT_RUNNING q.val = s.on SN_SEQSTAT_RUNNING q.val ∧
      t.deadline (.conv q.val) = some (((s.seqU q.val).startAt + 500 * ((s.seqU q.val).made + 2) + 23) / 24) ∧
      (t.seqU q.val).made = (s.seqU q.val).made + 1 ∧
      t.now = max s.now d ∧
      (s.on SN_CHCTL_EN c.val = true ∧ s.on SN_CTL_REFRDY = true ∧ s.on SN_MMCTL_EN c.val = true ∧ 2 ≤ s.get SN_MMCTL_RST c.val ∧ (s.trk c.val).closed = [] → (t.trk c.val).cur = some (widen n (s.trk c.val).cur))) ∧
  (∀ (s : State) (m : Master) (q : Sequ) (v : Word),
    s.busOpen m = true →
    s.lockstep m = true →
    s.on SN_SEQCTL_EN q.val = false →
    SN_SEQCTL_TRIGSRC.of v ≠ 3 →
    ∃ t, exec (.seqctlWrite m q v) s = .next t ∧
      t.rdw .SN_SEQCTL q.val = RegId.SN_SEQCTL.written (s.rdw .SN_SEQCTL q.val) v) ∧
  (∀ (s : State) (m : Master) (q : Sequ) (v : Word),
    s.busOpen m = true →
    s.lockstep m = true →
    s.on SN_SEQCTL_EN q.val = true →
    SN_SEQCTL_TRIGSRC.of v ≠ 3 →
    ∃ t, exec (.seqctlWrite m q v) s = .next t ∧
      t.get SN_SEQCTL_EN q.val = SN_SEQCTL_EN.of v ∧
      (∀ f ∈ [SN_SEQCTL_TRIGSRC, SN_SEQCTL_POS, SN_SEQCTL_BURST, SN_SEQCTL_PWMGRP, SN_SEQCTL_PWMEV, SN_SEQCTL_CANWIN], t.get f q.val = s.get f q.val) ∧
      (changes (s.rdw .SN_SEQCTL q.val) v (BitVec.ofNat 32 RegId.SN_SEQCTL.reg.rw &&& ~~~SN_SEQCTL_EN.mask) = true → t.get SN_CTL_CFG_DENIED = 1) ∧
      (SN_SEQCTL_EN.of v = 0 → s.on SN_SEQSTAT_RUNNING q.val = false → t.on SN_SEQSTAT_PENDING q.val = false ∧ t.armed (.seqStart q.val) = false ∧ t.armed (.seqDrop q.val) = false) ∧
      (s.on SN_SEQSTAT_RUNNING q.val = true → t.on SN_SEQSTAT_RUNNING q.val = true)) ∧
  (∀ (s : State) (m : Master) (q : Sequ) (v : Word),
    s.busOpen m = true →
    s.lockstep m = true →
    SN_SEQCTL_TRIGSRC.of v = 3 →
    ∃ t, exec (.seqctlWrite m q v) s = .next t ∧
      t.rdw .SN_SEQCTL q.val = s.rdw .SN_SEQCTL q.val ∧
      t.get SN_CTL_CFG_DENIED = 1 ∧
      t.timers = s.timers) ∧
  (∀ (s : State) (m : Master) (q : Sequ) (v : Word),
    s.busOpen m = true →
    s.lockstep m = false →
    ∃ t, exec (.seqctlWrite m q v) s = .next t ∧
      t.rdw .SN_SEQCTL q.val = s.rdw .SN_SEQCTL q.val ∧
      t.get SN_CTL_CFG_DENIED = 1 ∧
      t.timers = s.timers) ∧
  (∀ (s : State) (m : Master) (v : Word),
    s.busOpen m = true →
    s.lockstep m = true →
    SN_CTL_REFEN.of v = 1 →
    s.on SN_CTL_REFRDY = false →
    s.armed .refReady = false →
    ∃ t, exec (.refenWrite m v) s = .next t ∧
      t.deadline .refReady = some (s.now + 500000) ∧
      t.get SN_CTL_REFEN = 1 ∧
      t.on SN_CTL_REFRDY = false) ∧
  (∀ (s : State) (m : Master) (v : Word),
    s.busOpen m = true →
    s.lockstep m = true →
    SN_CTL_REFEN.of v = 1 →
    (s.on SN_CTL_REFRDY = true ∨ s.armed .refReady = true) →
    ∃ t, exec (.refenWrite m v) s = .next t ∧
      t.deadline .refReady = s.deadline .refReady ∧
      t.get SN_CTL_REFEN = 1 ∧
      t.on SN_CTL_REFRDY = s.on SN_CTL_REFRDY) ∧
  (∀ (s : State) (m : Master) (v : Word),
    s.busOpen m = true →
    s.lockstep m = true →
    SN_CTL_REFEN.of v = 0 →
    s.on SN_CTL_REFRDY = true →
    s.routed 289 = true →
    ∃ t, exec (.refenWrite m v) s = .next t ∧
      t.get SN_CTL_REFEN = 0 ∧
      t.get SN_CTL_REFRDY = 0 ∧
      t.get SN_CTL_REF_LOST = 1 ∧
      t.raised 289 = true ∧
      (∀ c : Chan, t.get SN_CHSTAT_NOT_READY c.val = 1) ∧
      (∀ c : Chan, ∀ j : Fin 2, t.get SN_SLINFO_NOT_READY c.val j.val = 1 ∧ (t.slice c.val j.val).count = 0 ∧ (t.slice c.val j.val).closed = none) ∧
      (∀ c : Chan, t.get SN_MMINFO_NOT_READY c.val = 1 ∧ (t.trk c.val).cur = none ∧ (t.trk c.val).closed = [])) ∧
  (∀ (s : State) (m : Master) (v : Word),
    s.busOpen m = true →
    s.lockstep m = true →
    SN_CTL_REFEN.of v = 0 →
    s.on SN_CTL_REFRDY = false →
    ∃ t, exec (.refenWrite m v) s = .next t ∧
      t.get SN_CTL_REFEN = 0 ∧
      t.get SN_CTL_REFRDY = 0 ∧
      t.armed .refReady = false) ∧
  (∀ (s : State) (m : Master) (v : Word),
    s.busOpen m = true →
    s.lockstep m = false →
    ∃ t, exec (.refenWrite m v) s = .next t ∧
      t.get SN_CTL_CFG_DENIED = 1 ∧
      t.get SN_CTL_REFEN = s.get SN_CTL_REFEN ∧
      t.get SN_CTL_REFRDY = s.get SN_CTL_REFRDY ∧
      t.deadline .refReady = s.deadline .refReady) ∧
  (∀ (s : State) (d : Nat),
    s.deadline .refReady = some d →
    s.routed 290 = true →
    ∃ t, exec .refrdy s = .next t ∧
      t.get SN_CTL_REFRDY = 1 ∧
      t.raised 290 = true ∧
      t.now = max s.now d) ∧
  (∀ (s : State),
    s.on SN_CTL_REFRDY = true →
    s.routed 289 = true →
    ∃ t, exec .referenceFault s = .next t ∧
      t.get SN_CTL_REFRDY = 0 ∧
      t.get SN_CTL_REF_LOST = 1 ∧
      t.raised 289 = true ∧
      (∀ c : Chan, t.get SN_CHSTAT_NOT_READY c.val = 1) ∧
      (∀ c : Chan, ∀ j : Fin 2, t.get SN_SLINFO_NOT_READY c.val j.val = 1 ∧ (t.slice c.val j.val).count = 0 ∧ (t.slice c.val j.val).closed = none) ∧
      (∀ c : Chan, t.get SN_MMINFO_NOT_READY c.val = 1 ∧ (t.trk c.val).cur = none ∧ (t.trk c.val).closed = [])) ∧
  (∀ (s : State),
    s.on SN_CTL_REFRDY = false →
    ∃ t, exec .referenceFault s = .next t ∧
      t = s)

/-- Channels are configured; windows and records close and are published; bitstream outputs are delivered; a diagnostic request is made, done or times
out. From a lock-step pair that R19 admits: CHCTL of an AIN channel takes the word; of a bitstream channel it takes the word when the assignment is
admissible, keeps CELL and LOCAL and sets CFG_DENIED when it is not, with CKSEL over 5 is refused whole, and discards two outputs anew when EN rises
or OSRSEL or CKSEL changes with EN 1. Another master than a lock-step pair changes nothing of the register and sets CFG_DENIED. MMCTL.RESET with EN 1
while REFRDY is 1 closes a record of the extremes and count, due 16 ns later; with EN 0 it discards them. At its time a window is published with mean,
COUNT, FULL and WNUM, no longer NOT_READY; a record with MIN, MAX, COUNT and RNUM. A bitstream output of a running channel, not cut short by a
restart, is discarded while outputs remain to discard, and otherwise widens the extremes of its enabled tracker. A stuck modulator sets SDM_STUCK and
raises source 291. GO of an existing internal channel (ICH below 15, or from 64) while BUSY is 0 sets BUSY, takes ICH and CONV and allows 1 ms; a GO
while BUSY is 1, or of an ICH from 15 to 63, sets CFG_DENIED and changes neither DIAGSEL (log entry 119) nor BUSY. The sixteen conversions, their
converter idle and its clock live, end BUSY, set DONE and raise source 288; while REFRDY is 1 DIAGRES is their rounded mean. After 1 ms without them
BUSY ends, TIMEOUT is set, DIAGRES stays, and source 288 is raised. (R19, R120, R122, R126, R127, R134, R135, R136) -/
def Obligations.SamplesWindowsAndDiagnostics : Prop :=
  (∀ (s : State) (m : Master) (c : Chan) (v : Word),
    s.busOpen m = true →
    s.lockstep m = true →
    (s.chanCell c.val).all (fun k => s.mayWriteCell m k) = true →
    c.val < 96 →
    ∃ t, exec (.chctlWrite m c v) s = .next t ∧
      t.rdw .SN_CHCTL c.val = RegId.SN_CHCTL.written (s.rdw .SN_CHCTL c.val) v) ∧
  (∀ (s : State) (m : Master) (c : Chan) (v : Word),
    s.busOpen m = true →
    s.lockstep m = true →
    (s.chanCell c.val).all (fun k => s.mayWriteCell m k) = true →
    96 ≤ c.val →
    SN_SDCTL_CKSEL.of v ≤ 5 →
    s.assignOk c.val (SN_SDCTL_CELL.of v) (SN_SDCTL_LOCAL.of v) = true →
    ∃ t, exec (.chctlWrite m c v) s = .next t ∧
      t.rdw .SN_SDCTL c.val = RegId.SN_SDCTL.written (s.rdw .SN_SDCTL c.val) v ∧
      (t.discards c.val = if SN_SDCTL_EN.of v = 1 ∧ (s.get SN_SDCTL_EN c.val = 0 ∨ changes (s.rdw .SN_SDCTL c.val) v (SN_SDCTL_OSRSEL.mask ||| SN_SDCTL_CKSEL.mask) = true) then 2 else s.discards c.val)) ∧
  (∀ (s : State) (m : Master) (c : Chan) (v : Word),
    s.busOpen m = true →
    s.lockstep m = true →
    (s.chanCell c.val).all (fun k => s.mayWriteCell m k) = true →
    96 ≤ c.val →
    SN_SDCTL_CKSEL.of v ≤ 5 →
    s.assignOk c.val (SN_SDCTL_CELL.of v) (SN_SDCTL_LOCAL.of v) = false →
    ∃ t, exec (.chctlWrite m c v) s = .next t ∧
      t.get SN_SDCTL_CELL c.val = s.get SN_SDCTL_CELL c.val ∧
      t.get SN_SDCTL_LOCAL c.val = s.get SN_SDCTL_LOCAL c.val ∧
      (∀ f ∈ [SN_SDCTL_EN, SN_SDCTL_OSRSEL, SN_SDCTL_CKSEL, SN_SDCTL_EDGE, SN_SDCTL_SYNC, SN_SDCTL_SYNCGRP], t.get f c.val = f.of v) ∧
      (changes (s.rdw .SN_SDCTL c.val) v (SN_SDCTL_CELL.mask ||| SN_SDCTL_LOCAL.mask) = true → t.get SN_CHSTAT_CFG_DENIED c.val = 1)) ∧
  (∀ (s : State) (m : Master) (c : Chan) (v : Word),
    s.busOpen m = true →
    s.lockstep m = true →
    (s.chanCell c.val).all (fun k => s.mayWriteCell m k) = true →
    96 ≤ c.val →
    5 < SN_SDCTL_CKSEL.of v →
    ∃ t, exec (.chctlWrite m c v) s = .next t ∧
      t.rdw .SN_SDCTL c.val = s.rdw .SN_SDCTL c.val ∧
      t.get SN_CHSTAT_CFG_DENIED c.val = 1 ∧
      t.discards c.val = s.discards c.val) ∧
  (∀ (s : State) (m : Master) (c : Chan) (v : Word),
    s.busOpen m = true →
    s.lockstep m = false →
    ∃ t, exec (.chctlWrite m c v) s = .next t ∧
      t.rdw .SN_CHCTL c.val = s.rdw .SN_CHCTL c.val ∧
      t.rdw .SN_SDCTL c.val = s.rdw .SN_SDCTL c.val ∧
      t.get SN_CHSTAT_CFG_DENIED c.val = 1) ∧
  (∀ (s : State) (c : Chan) (j : Fin 2) (d : Nat) (r : WinRes),
    s.deadline (.publish c.val j.val) = some d →
    (s.slice c.val j.val).closed = some r →
    ∃ t, exec (.windowPublish c j) s = .next t ∧
      t.rdw .SN_SLMEAN c.val j.val = wordOfInt (windowMean r.sum r.count) ∧
      t.get SN_SLINFO_COUNT c.val j.val = r.count % 2 ^ SN_SLINFO_COUNT.width ∧
      t.get SN_SLINFO_FULL c.val j.val = r.full.toNat ∧
      t.get SN_SLINFO_WNUM c.val j.val = (s.get SN_SLINFO_WNUM c.val j.val + 1) % 2 ^ SN_SLINFO_WNUM.width ∧
      t.get SN_SLINFO_NOT_READY c.val j.val = 0 ∧
      (t.slice c.val j.val).shown = some r ∧
      (t.slice c.val j.val).closed = none ∧
      t.get SN_CHSTAT_NOT_READY c.val = 0 ∧
      t.now = max s.now d) ∧
  (∀ (s : State) (c : Chan) (j : Fin 2) (d : Nat) (a b : Int) (n u : Nat) (rest : List ((Int × Int × Nat) × Nat)),
    s.armed (.publish c.val j.val) = false →
    s.deadline (.record c.val) = some d →
    (s.trk c.val).closed = ((a, b, n), u) :: rest →
    ∃ t, exec (.windowPublish c j) s = .next t ∧
      t.rdw .SN_MMMIN c.val = wordOfInt (a * 256) ∧
      t.rdw .SN_MMMAX c.val = wordOfInt (b * 256) ∧
      t.get SN_MMINFO_COUNT c.val = min n 131071 ∧
      t.get SN_MMINFO_RNUM c.val = (s.get SN_MMINFO_RNUM c.val + 1) % 2 ^ SN_MMINFO_RNUM.width ∧
      t.get SN_MMINFO_NOT_READY c.val = 0 ∧
      (t.trk c.val).closed = rest ∧
      (t.trk c.val).cur = (s.trk c.val).cur ∧
      t.now = max s.now d) ∧
  (∀ (s : State) (m : Master) (c : Chan) (v : Word) (a b : Int) (n : Nat),
    s.busOpen m = true →
    s.lockstep m = true →
    (s.chanCell c.val).all (fun k => s.mayWriteCell m k) = true →
    SN_MMCTL_EN.of v = 1 →
    s.on SN_CTL_REFRDY = true →
    (s.trk c.val).cur = some (a, b, n) →
    ∃ t, exec (.mmReset m c v) s = .next t ∧
      (t.trk c.val).cur = none ∧
      (t.trk c.val).closed = (s.trk c.val).closed ++ [((a, b, n), s.now)] ∧
      (s.armed (.record c.val) = false → t.deadline (.record c.val) = some (s.now + 4)) ∧
      t.get SN_MMCTL_EN c.val = 1) ∧
  (∀ (s : State) (m : Master) (c : Chan) (v : Word),
    s.busOpen m = true →
    s.lockstep m = true →
    (s.chanCell c.val).all (fun k => s.mayWriteCell m k) = true →
    SN_MMCTL_EN.of v = 0 →
    ∃ t, exec (.mmReset m c v) s = .next t ∧
      (t.trk c.val).cur = none ∧
      (t.trk c.val).closed = (s.trk c.val).closed ∧
      t.rdw .SN_MMMIN c.val = s.rdw .SN_MMMIN c.val ∧
      t.get SN_MMCTL_EN c.val = 0) ∧
  (∀ (s : State) (k : Fin 24) (y : Fin 16777217),
    s.convLive = true →
    s.on SN_SDCTL_EN (96 + k.val) = true →
    s.on SN_SDMCK_EN (s.get SN_SDCTL_CKSEL (96 + k.val)) = true →
    y.val ≤ s.osr (96 + k.val) ^ 3 →
    s.cutShort (96 + k.val) = false →
    0 < s.discards (96 + k.val) →
    ∃ t, exec (.sinc3Output k y) s = .next t ∧
      t.discards (96 + k.val) = s.discards (96 + k.val) - 1 ∧
      t.sense.trackers = s.sense.trackers ∧
      t.sense.slices = s.sense.slices) ∧
  (∀ (s : State) (k : Fin 24) (y : Fin 16777217),
    s.convLive = true →
    s.on SN_SDCTL_EN (96 + k.val) = true →
    s.on SN_SDMCK_EN (s.get SN_SDCTL_CKSEL (96 + k.val)) = true →
    y.val ≤ s.osr (96 + k.val) ^ 3 →
    s.cutShort (96 + k.val) = false →
    s.discards (96 + k.val) = 0 →
    s.on SN_CTL_REFRDY = true →
    s.on SN_MMCTL_EN (96 + k.val) = true →
    2 ≤ s.get SN_MMCTL_RST (96 + k.val) →
    (s.trk (96 + k.val)).closed = [] →
    ∃ t, exec (.sinc3Output k y) s = .next t ∧
      (t.trk (96 + k.val)).cur = some (widen (sincSample (s.osr (96 + k.val)) y.val) (s.trk (96 + k.val)).cur) ∧
      t.discards (96 + k.val) = 0) ∧
  (∀ (s : State) (k : Fin 24) (y : Fin 16777217),
    s.cutShort (96 + k.val) = true →
    ∃ t, exec (.sinc3Output k y) s = .next t ∧
      t = s) ∧
  (∀ (s : State) (k : Fin 24),
    s.convLive = true →
    s.on SN_SDCTL_EN (96 + k.val) = true →
    s.on SN_SDMCK_EN (s.get SN_SDCTL_CKSEL (96 + k.val)) = true →
    s.on SN_CHSTAT_SDM_STUCK (96 + k.val) = false →
    s.routed 291 = true →
    ∃ t, exec (.sdmStuck k) s = .next t ∧
      t.get SN_CHSTAT_SDM_STUCK (96 + k.val) = 1 ∧
      t.raised 291 = true) ∧
  (∀ (s : State) (m : Master) (v : Word),
    s.busOpen m = true →
    s.lockstep m = true →
    s.on SN_DIAGSTAT_BUSY = false →
    (SN_DIAGSEL_ICH.of v < 15 ∨ 64 ≤ SN_DIAGSEL_ICH.of v) →
    ∃ t, exec (.diagGo m v) s = .next t ∧
      t.on SN_DIAGSTAT_BUSY = true ∧
      t.deadline .diag = some (s.now + 250000) ∧
      t.get SN_DIAGSEL_ICH = SN_DIAGSEL_ICH.of v ∧
      t.get SN_DIAGSEL_CONV = SN_DIAGSEL_CONV.of v) ∧
  (∀ (s : State) (m : Master) (v : Word),
    s.busOpen m = true →
    s.lockstep m = true →
    (s.on SN_DIAGSTAT_BUSY = true ∨ (15 ≤ SN_DIAGSEL_ICH.of v ∧ SN_DIAGSEL_ICH.of v ≤ 63)) →
    ∃ t, exec (.diagGo m v) s = .next t ∧
      t.get SN_CTL_CFG_DENIED = 1 ∧
      t.rdw .SN_DIAGSEL = s.rdw .SN_DIAGSEL ∧
      t.rdw .SN_DIAGSTAT = s.rdw .SN_DIAGSTAT ∧
      t.timers = s.timers) ∧
  (∀ (s : State) (codes : Vector (BitVec 16) 16),
    s.on SN_DIAGSTAT_BUSY = true →
    s.convLive = true →
    bit s.busyConvs (s.get SN_DIAGSEL_CONV) = false →
    s.routed 288 = true →
    s.on SN_CTL_REFRDY = true →
    ∃ t, exec (.diagDone codes) s = .next t ∧
      t.rdw .SN_DIAGRES = wordOfInt (diagMean codes) ∧
      t.on SN_DIAGSTAT_BUSY = false ∧
      t.on SN_DIAGSTAT_DONE = true ∧
      t.raised 288 = true ∧
      t.armed .diag = false) ∧
  (∀ (s : State) (codes : Vector (BitVec 16) 16),
    s.on SN_DIAGSTAT_BUSY = true →
    s.convLive = true →
    bit s.busyConvs (s.get SN_DIAGSEL_CONV) = false →
    s.routed 288 = true →
    s.on SN_CTL_REFRDY = false →
    ∃ t, exec (.diagDone codes) s = .next t ∧
      t.on SN_DIAGSTAT_BUSY = false ∧
      t.on SN_DIAGSTAT_DONE = true ∧
      t.raised 288 = true ∧
      t.armed .diag = false) ∧
  (∀ (s : State) (d : Nat),
    s.deadline .diag = some d →
    s.routed 288 = true →
    ∃ t, exec .diagTimeout s = .next t ∧
      t.on SN_DIAGSTAT_BUSY = false ∧
      t.on SN_DIAGSTAT_TIMEOUT = true ∧
      t.raised 288 = true ∧
      t.rdw .SN_DIAGRES = s.rdw .SN_DIAGRES ∧
      t.now = max s.now d)

/-- Canary windows latch crossings and clear; canary thresholds and modes are written. Let a running window not SETTLING be read n times with its pin
at one voltage, n at least the reads its filter asks for and within the time since its last read. Beyond the voltage of the code of an enabled
threshold whose state is off, that filtered state and its latch are set, COUNT counts, saturating, WSTAMP takes the time when both latches were clear
and else stays, and a routed source 320 + w is raised; the other threshold's state and latch stay when its own comparator is off. Of a state that is
on, a pin past its code by a code, back, ends the state; the latch stays. While SETTLING states and latches stay. A latch written 1 (but for one set
in the same tick, R3) clears when its state is inactive, RBFAIL is 0 and the window is not SETTLING; while its state is active it stays and
CLEAR_DENIED is set. A window that does not run changes nothing. From a master that R19 admits, of a window without FGUARD: new threshold codes with
LO not above HI are stored and settle for 500 ns from the next tick, whose end clears SETTLING; LO above HI changes no code and sets WRITE_DENIED;
codes that change nothing start no settling. WCTL takes the word while EN is 0 (RBFAIL 0 or its block STOPPED); with EN 1 MODE, FILT and TICK stay,
with WRITE_DENIED where the write would change one, and every other field but RBFAIL is applied; EN written 0 ends both states and keeps the latches
(RBFAIL 0). RBFAIL written 1 sets both latches; written 0 it ends only where the cell's block is STOPPED or absent, and otherwise stays with
WRITE_DENIED. A write to a guarded window that would change it leaves it and sets WRITE_DENIED. (R3, R141, R142, R143, R146, R147, R151, R502) -/
def Obligations.CanaryTripsAndThresholds : Prop :=
  (∀ (s : State) (w : WinRead) (k nv n : Nat),
    k = w.win.val →
    w.pins = [(nv, n)] →
    s.winRuns k = true →
    s.on CN_WSTAT_SETTLING k = false →
    s.winNeed k ≤ n →
    n * s.winSpacing k ≤ s.now - (s.win k).readAt →
    s.on CN_WCTL_ENHI k = true →
    s.on CN_WSTAT_HIGH k = false →
    (2 * (s.get CN_WTHR_HI k : Int) + 1) * 2500000000 < 2048 * nv →
    s.routed (320 + k) = true →
    ∃ t, exec (.canaryCrossing w true) s = .next t ∧
      t.on CN_WSTAT_HIGH k = true ∧
      t.on CN_WSTAT_LATCH_HI k = true ∧
      t.get CN_WSTAT_COUNT k = min (s.get CN_WSTAT_COUNT k + 1) (2 ^ CN_WSTAT_COUNT.width - 1) ∧
      (s.on CN_WSTAT_LATCH_LO k = false → s.on CN_WSTAT_LATCH_HI k = false → t.get CN_WSTAMP_STAMP k = s.stamp) ∧
      ((s.on CN_WSTAT_LATCH_LO k = true ∨ s.on CN_WSTAT_LATCH_HI k = true) → t.get CN_WSTAMP_STAMP k = s.get CN_WSTAMP_STAMP k) ∧
      t.on CN_WSTAT_LOW k = s.on CN_WSTAT_LOW k ∧
      t.on CN_WSTAT_LATCH_LO k = s.on CN_WSTAT_LATCH_LO k ∧
      t.now = s.now ∧
      t.raised (320 + k) = true) ∧
  (∀ (s : State) (w : WinRead) (k nv n : Nat),
    k = w.win.val →
    w.pins = [(nv, n)] →
    s.winRuns k = true →
    s.on CN_WSTAT_SETTLING k = false →
    s.winNeed k ≤ n →
    n * s.winSpacing k ≤ s.now - (s.win k).readAt →
    s.on CN_WCTL_ENLO k = true →
    s.on CN_WSTAT_LOW k = false →
    2048 * (nv : Int) < (2 * (s.get CN_WTHR_LO k : Int) + 1) * 2500000000 →
    s.routed (320 + k) = true →
    ∃ t, exec (.canaryCrossing w false) s = .next t ∧
      t.on CN_WSTAT_LOW k = true ∧
      t.on CN_WSTAT_LATCH_LO k = true ∧
      t.get CN_WSTAT_COUNT k = min (s.get CN_WSTAT_COUNT k + 1) (2 ^ CN_WSTAT_COUNT.width - 1) ∧
      (s.on CN_WSTAT_LATCH_LO k = false → s.on CN_WSTAT_LATCH_HI k = false → t.get CN_WSTAMP_STAMP k = s.stamp) ∧
      ((s.on CN_WSTAT_LATCH_LO k = true ∨ s.on CN_WSTAT_LATCH_HI k = true) → t.get CN_WSTAMP_STAMP k = s.get CN_WSTAMP_STAMP k) ∧
      t.on CN_WSTAT_HIGH k = s.on CN_WSTAT_HIGH k ∧
      t.on CN_WSTAT_LATCH_HI k = s.on CN_WSTAT_LATCH_HI k ∧
      t.now = s.now ∧
      t.raised (320 + k) = true) ∧
  (∀ (s : State) (w : WinRead) (hi : Bool) (k : Nat),
    k = w.win.val →
    (s.winRuns k = false ∨ s.on CN_WSTAT_SETTLING k = true) →
    ∃ t, exec (.canaryCrossing w hi) s = .next t ∧
      t.rdw .CN_WSTAT k = s.rdw .CN_WSTAT k ∧
      t.rdw .CN_WSTAMP k = s.rdw .CN_WSTAMP k ∧
      (s.winRuns k = false → t = s)) ∧
  (∀ (s : State) (w : WinRead) (k nv n : Nat),
    k = w.win.val →
    w.pins = [(nv, n)] →
    s.winRuns k = true →
    s.on CN_WSTAT_SETTLING k = false →
    s.winNeed k ≤ n →
    n * s.winSpacing k ≤ s.now - (s.win k).readAt →
    s.on CN_WSTAT_HIGH k = true →
    2048 * (nv : Int) < (2 * (s.get CN_WTHR_HI k : Int) - 1) * 2500000000 →
    0 < n →
    ∃ t, exec (.canaryStateDeassert w true) s = .next t ∧
      t.on CN_WSTAT_HIGH k = false ∧
      t.on CN_WSTAT_LATCH_HI k = s.on CN_WSTAT_LATCH_HI k ∧
      t.rdw .CN_WSTAMP k = s.rdw .CN_WSTAMP k) ∧
  (∀ (s : State) (w : WinRead) (k nv n : Nat),
    k = w.win.val →
    w.pins = [(nv, n)] →
    s.winRuns k = true →
    s.on CN_WSTAT_SETTLING k = false →
    s.winNeed k ≤ n →
    n * s.winSpacing k ≤ s.now - (s.win k).readAt →
    s.on CN_WSTAT_LOW k = true →
    (2 * (s.get CN_WTHR_LO k : Int) + 3) * 2500000000 < 2048 * (nv : Int) →
    0 < n →
    ∃ t, exec (.canaryStateDeassert w false) s = .next t ∧
      t.on CN_WSTAT_LOW k = false ∧
      t.on CN_WSTAT_LATCH_LO k = s.on CN_WSTAT_LATCH_LO k ∧
      t.rdw .CN_WSTAMP k = s.rdw .CN_WSTAMP k) ∧
  (∀ (s : State) (w : WinRead) (hi : Bool) (k : Nat),
    k = w.win.val →
    s.on CN_WSTAT_SETTLING k = true →
    ∃ t, exec (.canaryStateDeassert w hi) s = .next t ∧
      t.rdw .CN_WSTAT k = s.rdw .CN_WSTAT k) ∧
  (∀ (s : State) (m : Master) (w : Win) (hi : Bool) (v : Word),
    s.busOpen m = true →
    s.mayWriteCell m (w.val / 2) = true →
    (winLatch hi).of (s.settle .CN_WSTAT v w.val) = 1 →
    s.on (winState hi) w.val = false →
    s.on CN_WCTL_RBFAIL w.val = false →
    s.on CN_WSTAT_SETTLING w.val = false →
    ∃ t, exec (.latchClear m w v) s = .next t ∧
      t.on (winLatch hi) w.val = false ∧
      t.get (winState (!hi)) w.val = s.get (winState (!hi)) w.val) ∧
  (∀ (s : State) (m : Master) (w : Win) (hi : Bool) (v : Word),
    s.busOpen m = true →
    s.mayWriteCell m (w.val / 2) = true →
    (winLatch hi).of (s.settle .CN_WSTAT v w.val) = 1 →
    s.on (winState hi) w.val = true →
    s.on (winLatch hi) w.val = true →
    ∃ t, exec (.latchClear m w v) s = .next t ∧
      t.on (winLatch hi) w.val = true ∧
      t.on CN_WSTAT_CLEAR_DENIED w.val = true) ∧
  (∀ (s : State) (m : Master) (w : Win) (hi : Bool) (v : Word),
    s.busOpen m = true →
    s.mayWriteCell m (w.val / 2) = true →
    ((winLatch hi).of v = 0 ∨ s.on CN_WSTAT_SETTLING w.val = true) →
    ∃ t, exec (.latchClear m w v) s = .next t ∧
      t.on (winLatch hi) w.val = s.on (winLatch hi) w.val) ∧
  (∀ (s : State) (m : Master) (w : Win) (v : Word),
    s.busOpen m = true →
    s.mayWriteCell m (w.val / 2) = true →
    s.on CN_WCTL_FGUARD w.val = false →
    CN_WTHR_LO.of v ≤ CN_WTHR_HI.of v →
    changes (s.rdw .CN_WTHR w.val) v (BitVec.ofNat 32 RegId.CN_WTHR.reg.rw) = true →
    ∃ t, exec (.wthrWrite m w v) s = .next t ∧
      t.rdw .CN_WTHR w.val = RegId.CN_WTHR.written (s.rdw .CN_WTHR w.val) v ∧
      t.on CN_WSTAT_SETTLING w.val = true ∧
      t.deadline (.settle w.val) = some (s.now + 126)) ∧
  (∀ (s : State) (m : Master) (w : Win) (v : Word),
    s.busOpen m = true →
    s.mayWriteCell m (w.val / 2) = true →
    (s.on CN_WCTL_FGUARD w.val = true ∨ CN_WTHR_HI.of v < CN_WTHR_LO.of v) →
    changes (s.rdw .CN_WTHR w.val) v (BitVec.ofNat 32 RegId.CN_WTHR.reg.rw) = true →
    ∃ t, exec (.wthrWrite m w v) s = .next t ∧
      t.rdw .CN_WTHR w.val = s.rdw .CN_WTHR w.val ∧
      t.on CN_WSTAT_WRITE_DENIED w.val = true ∧
      t.timers = s.timers) ∧
  (∀ (s : State) (m : Master) (w : Win) (v : Word),
    s.busOpen m = true →
    s.mayWriteCell m (w.val / 2) = true →
    changes (s.rdw .CN_WTHR w.val) v (BitVec.ofNat 32 RegId.CN_WTHR.reg.rw) = false →
    ∃ t, exec (.wthrWrite m w v) s = .next t ∧
      t.rdw .CN_WTHR w.val = s.rdw .CN_WTHR w.val ∧
      t.timers = s.timers ∧
      t.rdw .CN_WSTAT w.val = s.rdw .CN_WSTAT w.val) ∧
  (∀ (s : State) (w : Win) (d : Nat),
    s.deadline (.settle w.val) = some d →
    ∃ t, exec (.settlingEnd w) s = .next t ∧
      t.on CN_WSTAT_SETTLING w.val = false ∧
      t.now = max s.now d) ∧
  (∀ (s : State) (m : Master) (w : Win) (v : Word),
    s.busOpen m = true →
    s.mayWriteCell m (w.val / 2) = true →
    s.on CN_WCTL_FGUARD w.val = false →
    s.on CN_WCTL_EN w.val = false →
    (s.on CN_WCTL_RBFAIL w.val = false ∨ s.cellStopped (w.val / 2) = true) →
    ∃ t, exec (.wctlWrite m w v) s = .next t ∧
      t.rdw .CN_WCTL w.val = RegId.CN_WCTL.written (s.rdw .CN_WCTL w.val) v) ∧
  (∀ (s : State) (m : Master) (w : Win) (v : Word),
    s.busOpen m = true →
    s.mayWriteCell m (w.val / 2) = true →
    s.on CN_WCTL_FGUARD w.val = false →
    s.on CN_WCTL_EN w.val = true →
    ∃ t, exec (.wctlWrite m w v) s = .next t ∧
      (∀ f ∈ [CN_WCTL_MODE, CN_WCTL_FILT, CN_WCTL_TICK], t.get f w.val = s.get f w.val) ∧
      (∀ f ∈ [CN_WCTL_EN, CN_WCTL_ENLO, CN_WCTL_ENHI, CN_WCTL_CLRMODE, CN_WCTL_TSCOPE, CN_WCTL_TRIPEN, CN_WCTL_GRP], t.get f w.val = f.of v) ∧
      (changes (s.rdw .CN_WCTL w.val) v (CN_WCTL_MODE.mask ||| CN_WCTL_FILT.mask ||| CN_WCTL_TICK.mask) = true → t.on CN_WSTAT_WRITE_DENIED w.val = true) ∧
      (CN_WCTL_EN.of v = 0 → t.on CN_WSTAT_LOW w.val = false ∧ t.on CN_WSTAT_HIGH w.val = false) ∧
      (CN_WCTL_RBFAIL.of v = 0 ∧ s.on CN_WCTL_RBFAIL w.val = false → t.on CN_WSTAT_LATCH_LO w.val = s.on CN_WSTAT_LATCH_LO w.val ∧ t.on CN_WSTAT_LATCH_HI w.val = s.on CN_WSTAT_LATCH_HI w.val)) ∧
  (∀ (s : State) (m : Master) (w : Win) (v : Word),
    s.busOpen m = true →
    s.mayWriteCell m (w.val / 2) = true →
    s.on CN_WCTL_FGUARD w.val = true →
    changes (s.rdw .CN_WCTL w.val) v (BitVec.ofNat 32 RegId.CN_WCTL.reg.rw) = true →
    ∃ t, exec (.wctlWrite m w v) s = .next t ∧
      t.rdw .CN_WCTL w.val = s.rdw .CN_WCTL w.val ∧
      t.on CN_WSTAT_WRITE_DENIED w.val = true) ∧
  (∀ (s : State) (m : Master) (w : Win) (v : Word),
    s.busOpen m = true →
    s.mayWriteCell m (w.val / 2) = true →
    s.on CN_WCTL_FGUARD w.val = false →
    ∃ t, exec (.rbfailWrite m w true v) s = .next t ∧
      t.on CN_WCTL_RBFAIL w.val = true ∧
      t.on CN_WSTAT_LATCH_LO w.val = true ∧
      t.on CN_WSTAT_LATCH_HI w.val = true) ∧
  (∀ (s : State) (m : Master) (w : Win) (v : Word),
    s.busOpen m = true →
    s.mayWriteCell m (w.val / 2) = true →
    s.on CN_WCTL_FGUARD w.val = false →
    s.cellStopped (w.val / 2) = true →
    ∃ t, exec (.rbfailWrite m w false v) s = .next t ∧
      t.on CN_WCTL_RBFAIL w.val = false ∧
      t.on CN_WSTAT_LATCH_LO w.val = s.on CN_WSTAT_LATCH_LO w.val) ∧
  (∀ (s : State) (m : Master) (w : Win) (v : Word),
    s.busOpen m = true →
    s.mayWriteCell m (w.val / 2) = true →
    s.on CN_WCTL_FGUARD w.val = false →
    s.cellStopped (w.val / 2) = false →
    s.on CN_WCTL_RBFAIL w.val = true →
    ∃ t, exec (.rbfailWrite m w false v) s = .next t ∧
      t.on CN_WCTL_RBFAIL w.val = true ∧
      t.on CN_WSTAT_WRITE_DENIED w.val = true ∧
      (t.on CN_WSTAT_LATCH_LO w.val = true ∧ t.on CN_WSTAT_LATCH_HI w.val = true))

/-- Carriers reach their valleys and peaks and dwell. The next valley of a falling carrier comes at its turn's instant and makes it rise from there
with no correction left; NCOUNT counts it modulo NSKIP + 1, one-pulse flags of the block's channels end, and a pending exit of its block takes effect.
At NCOUNT 0 without AUTOC a pending set copied in an earlier tick becomes the active period and phase and counts APPLIED; with AUTOC a shadow period
R154 admits does. At another NCOUNT neither PRD nor the pending set changes. The next peak comes at its instant, gives each channel of the block its
waiting override, ends one-pulse flags and makes the carrier fall, or dwell where a dwell is due; the end of the dwell makes it fall from that
instant. A placed first valley starts an enabled carrier. Where no valley, or no peak, is to come the command changes nothing. After eight missing
markers SYNCLOCK ends with SYNC_LOST, the group running on as placed. (R21, R154, R156, R158, R163, R167, R168, R170) -/
def Obligations.CarriersTurn : Prop :=
  (∀ (s : State) (g : Block),
    s.valleyNext g.val = true →
    ∃ t, exec (.carrierValley g) s = .next t ∧
      (t.grp g.val).falling = false ∧
      (t.grp g.val).lastAt = s.turnInstant g.val ∧
      (t.grp g.val).adjust = 0 ∧
      t.now = max s.now (s.tickOf (s.turnInstant g.val)) ∧
      t.get PW_GRPSTAT_NCOUNT g.val = (s.get PW_GRPSTAT_NCOUNT g.val + 1) % (s.get PW_GRPCTL_NSKIP g.val + 1) ∧
      (∀ st : Fin 4, (s.blkU g.val).exit = some st.val → t.blk g.val = st.val) ∧
      (t.blkU g.val).exit = none) ∧
  (∀ (s : State) (g : Block) (u : UpdateSet),
    s.valleyNext g.val = true →
    s.get PW_GRPSTAT_NCOUNT g.val = 0 →
    s.on PW_GRPCTL_AUTOC g.val = false →
    (s.grp g.val).pend = some u →
    u.copied < s.now →
    ∃ t, exec (.carrierValley g) s = .next t ∧
      t.get PW_GRPACT_PRD g.val = u.prd.toNat % 2 ^ PW_GRPACT_PRD.width ∧
      (t.grp g.val).pend = none ∧
      t.on PW_GRPCOMMIT_PENDING g.val = false ∧
      t.get PW_GRPSTAT_APPLIED g.val = (s.get PW_GRPSTAT_APPLIED g.val + 1) % 2 ^ PW_GRPSTAT_APPLIED.width ∧
      (t.grp g.val).phase = u.phase) ∧
  (∀ (s : State) (g : Block) (i : Nat),
    s.on PW_GRPSTAT_RUN g.val = false →
    (s.grp g.val).startAt = some i →
    s.on PW_GRPCTL_EN g.val = true →
    s.pwmClock = true →
    ∃ t, exec (.carrierValley g) s = .next t ∧
      t.on PW_GRPSTAT_RUN g.val = true ∧
      (t.grp g.val).falling = false ∧
      (t.grp g.val).lastAt = i ∧
      (t.grp g.val).startAt = none ∧
      t.now = max s.now (s.tickOf i)) ∧
  (∀ (s : State) (g : Block),
    s.on PW_GRPSTAT_RUN g.val = true →
    s.pwmClock = true →
    (s.grp g.val).falling = false →
    s.on PW_GRPSTAT_DWELL g.val = false →
    ∃ t, exec (.carrierPeak g) s = .next t ∧
      (t.grp g.val).lastAt = s.turnInstant g.val ∧
      t.now = max s.now (s.tickOf (s.turnInstant g.val)) ∧
      (t.grp g.val).falling = decide (s.peakDwell g.val (s.turnInstant g.val) = 0) ∧
      t.on PW_GRPSTAT_DWELL g.val = decide (s.peakDwell g.val (s.turnInstant g.val) ≠ 0) ∧
      (t.grp g.val).dwellEnd = s.turnInstant g.val + s.peakDwell g.val (s.turnInstant g.val) ∧
      (∀ c : Cell, s.blockOf c.val = some g.val → (s.chan c.val).ovrWait.isSome = true → some (t.chan c.val).ovr = (s.chan c.val).ovrWait ∧ (t.chan c.val).ovrWait = none)) ∧
  (∀ (s : State) (g : Block),
    s.on PW_GRPSTAT_DWELL g.val = true →
    s.pwmClock = true →
    ∃ t, exec (.peakDwellEnd g) s = .next t ∧
      t.on PW_GRPSTAT_DWELL g.val = false ∧
      (t.grp g.val).falling = true ∧
      (t.grp g.val).lastAt = (s.grp g.val).dwellEnd ∧
      t.now = max s.now (s.tickOf (s.grp g.val).dwellEnd)) ∧
  (∀ (s : State) (g : Block),
    s.get PW_GRPCTL_SYNCSRC g.val = 2 →
    8 ≤ (s.grp g.val).missing →
    ∃ t, exec (.syncLost g) s = .next t ∧
      t.get PW_GRPSTAT_SYNCLOCK g.val = 0 ∧
      t.get PW_GRPSTAT_SYNC_LOST g.val = 1 ∧
      t.grp g.val = s.grp g.val) ∧
  (∀ (s : State) (g : Block),
    s.valleyNext g.val = true →
    s.get PW_GRPSTAT_NCOUNT g.val ≠ 0 →
    ∃ t, exec (.carrierValley g) s = .next t ∧
      t.get PW_GRPACT_PRD g.val = s.get PW_GRPACT_PRD g.val ∧
      (t.grp g.val).pend = (s.grp g.val).pend ∧
      t.get PW_GRPSTAT_APPLIED g.val = s.get PW_GRPSTAT_APPLIED g.val) ∧
  (∀ (s : State) (g : Block),
    s.valleyNext g.val = true →
    s.get PW_GRPSTAT_NCOUNT g.val = 0 →
    s.on PW_GRPCTL_AUTOC g.val = true →
    prdOk (s.get PW_GRPPRD_PRD g.val) (s.get PW_GRPCTL_PRE g.val) = true →
    (s.blkU g.val).exit = none →
    ∃ t, exec (.carrierValley g) s = .next t ∧
      t.get PW_GRPACT_PRD g.val = s.get PW_GRPPRD_PRD g.val ∧
      t.get PW_GRPSTAT_APPLIED g.val = (s.get PW_GRPSTAT_APPLIED g.val + 1) % 2 ^ PW_GRPSTAT_APPLIED.width) ∧
  (∀ (s : State) (g : Block) (c : Cell),
    s.valleyNext g.val = true →
    (s.blkU g.val).exit = none →
    s.blockOf c.val = some g.val →
    ∃ t, exec (.carrierValley g) s = .next t ∧
      (t.chan c.val).done = false) ∧
  (∀ (s : State) (g : Block),
    s.valleyNext g.val = false →
    ((s.grp g.val).startAt = none ∨ s.on PW_GRPCTL_EN g.val = false ∨ s.on PW_GRPSTAT_RUN g.val = true ∨ s.pwmClock = false) →
    ∃ t, exec (.carrierValley g) s = .next t ∧
      t = s) ∧
  (∀ (s : State) (g : Block),
    (s.on PW_GRPSTAT_RUN g.val = false ∨ s.pwmClock = false ∨ (s.grp g.val).falling = true ∨ s.on PW_GRPSTAT_DWELL g.val = true) →
    ∃ t, exec (.carrierPeak g) s = .next t ∧
      t = s) ∧
  (∀ (s : State) (g : Block),
    (s.on PW_GRPSTAT_DWELL g.val = false ∨ s.pwmClock = false) →
    ∃ t, exec (.peakDwellEnd g) s = .next t ∧
      t = s) ∧
  (∀ (s : State) (g : Block),
    (s.get PW_GRPCTL_SYNCSRC g.val ≠ 2 ∨ (s.grp g.val).missing < 8) →
    ∃ t, exec (.syncLost g) s = .next t ∧
      t = s)

/-- A channel follows its carrier, its interlock and its gate. At the next edge of m of a channel of a block, m toggles, both commands follow m and
the overrides in force, and an output whose command ends turns off at that instant, no turn-on waiting. With a compare inside the period, FINE 1 and
no compare written since, m turns on where a falling carrier falls below the compare and off where a rising one reaches it. Without a next edge the
command changes nothing. At the end of a turn-on delay, with no edge of m by the instant the dead time ends, a waiting output whose partner is
commanded off turns on, if the partner is reported off, and else waits on; one that does not wait changes nothing of its channel. Losing the PWM clock
for 16 ns sets PWMCLK_LOST; no upper output is on, a lower one is only where its SAFE state is low-side on and firmware has written SAFE. SAFE of a
stopped cell takes a permitted value; a change otherwise is refused with SAFE_DENIED; the value SAFE has is accepted always. (R155, R157, R158, R159,
R170, R172, R502) -/
def Obligations.ChannelsModulate : Prop :=
  (∀ (s : State) (c : Cell) (e : Nat),
    s.nextEdge c.val = some e →
    (s.blockOf c.val).isSome = true →
    ∃ t, exec (.modulationEdge c) s = .next t ∧
      (t.chan c.val).m = !(s.chan c.val).m ∧
      (t.chan c.val).hi.cmd = (ovrCommands (s.chan c.val).ovr (!(s.chan c.val).m)).1 ∧
      (t.chan c.val).lo.cmd = (ovrCommands (s.chan c.val).ovr (!(s.chan c.val).m)).2 ∧
      t.now = max s.now (s.tickOf e) ∧
      (∀ hi : Bool, (s.outU c.val hi).cmd = true → (t.outU c.val hi).cmd = false → (t.outU c.val hi).out = false ∧ (t.outU c.val hi).waiting = false ∧ (t.outU c.val hi).offAt = some e)) ∧
  (∀ (s : State) (c : Cell) (g : Block) (up : Bool) (e : Nat),
    s.blockOf c.val = some g.val →
    s.on PW_GRPSTAT_RUN g.val = true →
    s.on PW_GRPSTAT_DWELL g.val = false →
    s.fine = true →
    (s.chan c.val).cmpWas = none →
    (s.chan c.val).m = up →
    (s.grp g.val).falling = !up →
    0 < countSteps (s.cmpOf c.val) (s.get PW_GRPCTL_PRE g.val) →
    countSteps (s.cmpOf c.val) (s.get PW_GRPCTL_PRE g.val) < s.halfSteps g.val →
    (e = (s.grp g.val).lastAt + (if up then countSteps (s.cmpOf c.val) (s.get PW_GRPCTL_PRE g.val) else s.halfSteps g.val - countSteps (s.cmpOf c.val) (s.get PW_GRPCTL_PRE g.val))) →
    ∃ t, exec (.modulationEdge c) s = .next t ∧
      (t.chan c.val).m = !up ∧
      t.now = max s.now (s.tickOf (max s.instant e))) ∧
  (∀ (s : State) (c : Cell),
    s.nextEdge c.val = none →
    ∃ t, exec (.modulationEdge c) s = .next t ∧
      t = s) ∧
  (∀ (s : State) (c : Cell) (hi : Bool) (d : Nat),
    s.deadline (.turnOn c.val hi) = some d →
    ((s.outU c.val hi).waiting = false ∨ (s.outU c.val (!hi)).cmd = true) →
    ∃ t, exec (.turnOnDelayEnd c hi) s = .next t ∧
      t.chan c.val = s.chan c.val ∧
      t.now = max s.now d) ∧
  (∀ (s : State) (c : Cell) (hi : Bool) (d : Nat),
    s.deadline (.turnOn c.val hi) = some d →
    (s.outU c.val hi).waiting = true →
    s.readyAt c.val hi ≤ (s.advanceTo d).instant →
    s.partnerOff c.val hi = false →
    ∃ t, exec (.turnOnDelayEnd c hi) s = .next t ∧
      t.chan c.val = s.chan c.val ∧
      t.now = max s.now d) ∧
  (∀ (s : State) (c : Cell) (hi : Bool) (d : Nat),
    s.deadline (.turnOn c.val hi) = some d →
    (s.outU c.val hi).waiting = true →
    (s.outU c.val (!hi)).cmd = false →
    s.readyAt c.val hi ≤ 64 * max s.now d →
    s.partnerOff c.val hi = true →
    ((s.advanceTo d).nextEdge c.val = none ∨ s.readyAt c.val hi < ((s.advanceTo d).nextEdge c.val).getD 0) →
    ∃ t, exec (.turnOnDelayEnd c hi) s = .next t ∧
      (t.outU c.val hi).out = true ∧
      (t.outU c.val hi).pin = true ∧
      (t.outU c.val hi).waiting = false ∧
      t.now = max s.now d) ∧
  (∀ (s : State),
    ∃ t, exec .pwmclkLost s = .next t ∧
      t.on PW_GATESTAT_PWMCLK_LOST = true ∧
      (∀ c : Cell, (t.chan c.val).hi.pin = false) ∧
      (∀ c : Cell, (t.chan c.val).lo.pin = true → t.get PW_SAFE_SAFE c.val = 1 ∧ (t.chan c.val).safeSet = true)) ∧
  (∀ (s : State) (m : Master) (c : Cell) (v : Word),
    s.busOpen m = true →
    s.mayWriteCell m c.val = true →
    s.cellStopped c.val = true →
    (PW_SAFE_SAFE.of v = 0 ∨ (PW_SAFE_SAFE.of v = 1 ∧ s.safeLow c.val = true)) →
    ∃ t, exec (.safeWrite m c v) s = .next t ∧
      t.get PW_SAFE_SAFE c.val = PW_SAFE_SAFE.of v ∧
      (t.chan c.val).safeSet = true) ∧
  (∀ (s : State) (m : Master) (c : Cell) (v : Word),
    s.busOpen m = true →
    s.mayWriteCell m c.val = true →
    PW_SAFE_SAFE.of v ≠ s.get PW_SAFE_SAFE c.val →
    (s.cellStopped c.val = false ∨ 2 ≤ PW_SAFE_SAFE.of v ∨ (PW_SAFE_SAFE.of v = 1 ∧ s.safeLow c.val = false)) →
    ∃ t, exec (.safeWrite m c v) s = .next t ∧
      t.get PW_SAFE_SAFE c.val = s.get PW_SAFE_SAFE c.val ∧
      t.on PW_SAFE_SAFE_DENIED c.val = true)

/-- Update sets, duties and overrides are written. From a master that R19 admits: COMMIT without AUTOC of a shadow R154 admits copies it as the
pending set, a duty noted written in a set it replaces still so, with COMMIT_MERGED where one was pending; another shadow sets PRD_DENIED, and PENDING
and the pending set stay; with AUTOC it changes neither. EN written 1 where it is 0, SYNCSRC not 0b11, of a STOPPED block with a period R154 admits
makes the shadow active in every channel, drops a pending set and starts NCOUNT at 0, and a free carrier in the next tick; where refused, EN and
period stay, with PRD_DENIED or WRITE_DENIED. EN 1 where it is 1 changes nothing of group or channels when no other field changes. DUTY takes the word
in the channel's form (bits [15:0] in ratio form): at once with IMM, otherwise to the shadow alone. An override that forces an output on while its
partner is not forced off, or names a force of 3, is refused with SHOOT_ATTEMPT; another is stored, its force-off commands the output off one tick
later, and what else it changes waits for the peak. (R154, R157, R161, R162, R163, R164, R170, R171) -/
def Obligations.ChannelSettingsAreWritten : Prop :=
  (∀ (s : State) (m : Master) (g : Block) (v : Word),
    s.busOpen m = true →
    s.mayWriteBlock m g.val = true →
    s.on PW_GRPCTL_AUTOC g.val = false →
    prdOk (s.get PW_GRPPRD_PRD g.val) (s.get PW_GRPCTL_PRE g.val) = true →
    ∃ t, exec (.grpCommit m g v) s = .next t ∧
      (t.grp g.val).pend = some ((s.shadowSet g.val).merge (s.grp g.val).pend) ∧
      t.on PW_GRPCOMMIT_PENDING g.val = true ∧
      (s.on PW_GRPCOMMIT_PENDING g.val = true → t.on PW_GRPCOMMIT_COMMIT_MERGED g.val = true) ∧
      (∀ c : Cell, s.blockOf c.val = some g.val → (t.chan c.val).written = false)) ∧
  (∀ (s : State) (m : Master) (g : Block) (v : Word),
    s.busOpen m = true →
    s.mayWriteBlock m g.val = true →
    s.on PW_GRPCTL_AUTOC g.val = false →
    prdOk (s.get PW_GRPPRD_PRD g.val) (s.get PW_GRPCTL_PRE g.val) = false →
    ∃ t, exec (.grpCommit m g v) s = .next t ∧
      (t.grp g.val).pend = (s.grp g.val).pend ∧
      t.on PW_GRPCOMMIT_PRD_DENIED g.val = true ∧
      t.on PW_GRPCOMMIT_PENDING g.val = s.on PW_GRPCOMMIT_PENDING g.val) ∧
  (∀ (s : State) (m : Master) (g : Block) (v : Word),
    s.busOpen m = true →
    s.mayWriteBlock m g.val = true →
    s.on PW_GRPCTL_AUTOC g.val = true →
    ∃ t, exec (.grpCommit m g v) s = .next t ∧
      t.grp g.val = s.grp g.val ∧
      t.on PW_GRPCOMMIT_PENDING g.val = s.on PW_GRPCOMMIT_PENDING g.val ∧
      t.get PW_GRPACT_PRD g.val = s.get PW_GRPACT_PRD g.val) ∧
  (∀ (s : State) (m : Master) (g : Block) (v : Word),
    s.busOpen m = true →
    s.mayWriteBlock m g.val = true →
    s.blk g.val = blkStopped →
    PW_GRPCTL_SYNCSRC.of v ≠ 3 →
    s.on PW_GRPCTL_EN g.val = false →
    prdOk (s.get PW_GRPPRD_PRD g.val) (PW_GRPCTL_PRE.of v) = true →
    ∃ t, exec (.carrierEnable m g v) s = .next t ∧
      t.on PW_GRPCTL_EN g.val = true ∧
      t.get PW_GRPSTAT_NCOUNT g.val = 0 ∧
      t.on PW_GRPCOMMIT_PENDING g.val = false ∧
      t.get PW_GRPACT_PRD g.val = (s.rdw .PW_GRPPRD g.val).toNat % 2 ^ PW_GRPACT_PRD.width ∧
      (t.grp g.val).pend = none ∧
      (PW_GRPCTL_SYNCSRC.of v = 0 → (t.grp g.val).startAt = some (s.instant + 64)) ∧
      (∀ c : Cell, s.blockOf c.val = some g.val → (t.chan c.val).dt = s.get PW_DT_DT c.val ∧ (s.on PW_CHCTL_IMM c.val = false → (t.chan c.val).duty = s.rdw .PW_DUTY c.val))) ∧
  (∀ (s : State) (m : Master) (g : Block) (v : Word),
    s.busOpen m = true →
    s.mayWriteBlock m g.val = true →
    s.on PW_GRPCTL_EN g.val = false →
    (s.blk g.val ≠ blkStopped ∨ PW_GRPCTL_SYNCSRC.of v = 3) →
    ∃ t, exec (.carrierEnable m g v) s = .next t ∧
      t.on PW_GRPCTL_EN g.val = false ∧
      t.get PW_GRPACT_PRD g.val = s.get PW_GRPACT_PRD g.val ∧
      t.on PW_GRPCOMMIT_WRITE_DENIED g.val = true) ∧
  (∀ (s : State) (m : Master) (g : Block) (v : Word),
    s.busOpen m = true →
    s.mayWriteBlock m g.val = true →
    s.on PW_GRPCTL_EN g.val = false →
    s.blk g.val = blkStopped →
    PW_GRPCTL_SYNCSRC.of v ≠ 3 →
    prdOk (s.get PW_GRPPRD_PRD g.val) (PW_GRPCTL_PRE.of v) = false →
    ∃ t, exec (.carrierEnable m g v) s = .next t ∧
      t.on PW_GRPCTL_EN g.val = false ∧
      t.get PW_GRPACT_PRD g.val = s.get PW_GRPACT_PRD g.val ∧
      t.on PW_GRPCOMMIT_PRD_DENIED g.val = true) ∧
  (∀ (s : State) (m : Master) (g : Block) (v : Word),
    s.busOpen m = true →
    s.mayWriteBlock m g.val = true →
    s.on PW_GRPCTL_EN g.val = true →
    changes (s.rdw .PW_GRPCTL g.val) (PW_GRPCTL_EN.into v 1) (BitVec.ofNat 32 RegId.PW_GRPCTL.reg.rw) = false →
    ∃ t, exec (.carrierEnable m g v) s = .next t ∧
      t.grp g.val = s.grp g.val ∧
      t.get PW_GRPACT_PRD g.val = s.get PW_GRPACT_PRD g.val ∧
      t.power.chans = s.power.chans) ∧
  (∀ (s : State) (m : Master) (c : Cell) (v : Word),
    s.busOpen m = true →
    s.mayWriteCell m c.val = true →
    ∃ t, exec (.dutyWrite m c v) s = .next t ∧
      (t.get PW_DUTY_DUTY c.val = if s.on PW_CHCTL_FORM c.val then v.toNat else v.toNat % 65536) ∧
      (s.on PW_CHCTL_IMM c.val = true → (t.chan c.val).duty = if s.on PW_CHCTL_FORM c.val then v else v &&& 0xFFFF) ∧
      (s.on PW_CHCTL_IMM c.val = false → (t.chan c.val).duty = (s.chan c.val).duty) ∧
      (t.chan c.val).written = true) ∧
  (∀ (s : State) (m : Master) (c : Cell) (v : Word),
    s.busOpen m = true →
    s.mayWriteCell m c.val = true →
    shoots v = true →
    ∃ t, exec (.ovrWrite m c v) s = .next t ∧
      t.on PW_CHSTAT_SHOOT_ATTEMPT c.val = true ∧
      t.rdw .PW_OVR c.val = s.rdw .PW_OVR c.val ∧
      (t.chan c.val).ovr = (s.chan c.val).ovr) ∧
  (∀ (s : State) (m : Master) (c : Cell) (v : Word),
    s.busOpen m = true →
    s.mayWriteCell m c.val = true →
    shoots v = false →
    ∃ t, exec (.ovrWrite m c v) s = .next t ∧
      t.rdw .PW_OVR c.val = RegId.PW_OVR.written (s.rdw .PW_OVR c.val) v ∧
      (PW_OVR_FRCH.of v = 1 → PW_OVR_FRCH.of (s.chan c.val).ovr ≠ 1 → (t.outU c.val true).cmd = false ∧ t.now = s.now + 1) ∧
      (PW_OVR_FRCL.of v = 1 → PW_OVR_FRCL.of (s.chan c.val).ovr ≠ 1 → (t.outU c.val false).cmd = false ∧ t.now = s.now + 1) ∧
      (PW_OVR_FRCH.of v = 1 → PW_OVR_FRCH.of (t.chan c.val).ovr = 1) ∧
      (PW_OVR_FRCL.of v = 1 → PW_OVR_FRCL.of (t.chan c.val).ovr = 1) ∧
      (PW_OVR_FRCH.of v ≠ 1 → PW_OVR_FRCL.of v ≠ 1 → (t.chan c.val).ovr = (s.chan c.val).ovr) ∧
      ((t.chan c.val).ovrWait = if (t.chan c.val).ovr = t.rdw .PW_OVR c.val then none else some (t.rdw .PW_OVR c.val)))

/-- Cage ports latch faults and turn their block off; blanking ends, the two-step sequence ends, latches are cleared. The filtered level of a feedback
input shows, after its polarity, on FBH or FBL; with FBEN 0 nothing else changes. With FBEN 1 and no turn-on waiting on that report, a change to
another state than the pin's outside a check window sets FB_MISMATCH, and at its end a check window in which the feedback never reported the pin's
state sets FB_TIMEOUT: both write FBSTAMP, raise 448 + c and, in a bound cell, hold both outputs off; a window in which it did report it, or of a port
with FBEN 0, changes only the time. A report that makes both switches on sets FB_BOTHON and turns the block off; so does the qualified level of DSAT
of a port with DSEN when it has held DSFILT x 4 ns, with DS_LATCH, DSSTAMP, DS_HL, DSCOUNT, source 496 + b and, if no turn-off is active, SOFT. The
turn-off sets TURNOFF, makes a RUNNING block TRIPPED and holds every output of the block off. The level of DSAT shows, after its polarity; with no
output qualified, or DSEN 0, no latch is set. Blanking ends at its time. SOFT deasserts at the end of step 1, its pin at the level SOFTPOL gives it,
and step 2 begins. From a master that R19 admits, and with polarities and DSFILT as they are, CLR clears all four latches of a port whose filtered
DSAT level is inactive and whose feedback reports both switches off, and the turn-off of its block ends when no other of its cells holds one; DS_LATCH
with the filtered level active, and a feedback latch with a switch reported on, stays and sets CLEAR_DENIED. (R178, R179, R180, R181, R182, R183,
R187) -/
def Obligations.CagePortsLatchAndSequence : Prop :=
  (∀ (s : State) (c : Cell) (hi level : Bool),
    s.on CG_PCTL_FBEN c.val = false →
    ∃ t, exec (.feedbackChange c hi level) s = .next t ∧
      t.on (fbField hi) c.val = s.fbLevel c.val level ∧
      t.on (fbField (!hi)) c.val = s.on (fbField (!hi)) c.val ∧
      (∀ f ∈ [CG_PSTAT_FB_TIMEOUT, CG_PSTAT_FB_MISMATCH, CG_PSTAT_FB_BOTHON], t.get f c.val = s.get f c.val) ∧
      t.timers = s.timers) ∧
  (∀ (s : State) (c : Cell) (hi level : Bool),
    s.on (fbField hi) c.val = s.fbLevel c.val level →
    ∃ t, exec (.feedbackChange c hi level) s = .next t ∧
      t = s) ∧
  (∀ (s : State) (c : Cell) (hi level : Bool),
    ∃ t, exec (.feedbackChange c hi level) s = .next t ∧
      t.on (fbField hi) c.val = s.fbLevel c.val level) ∧
  (∀ (s : State) (c : Cell) (hi level : Bool),
    s.on CG_PCTL_FBEN c.val = true →
    s.on (fbField hi) c.val ≠ s.fbLevel c.val level →
    s.fbLevel c.val level ≠ (s.outU c.val hi).pin →
    s.armed (.fbCheck c.val hi) = false →
    (s.outU c.val (!hi)).waiting = false →
    s.on CG_PSTAT_FB_MISMATCH c.val = false →
    s.routed (448 + c.val) = true →
    ∃ t, exec (.feedbackChange c hi level) s = .next t ∧
      t.on CG_PSTAT_FB_MISMATCH c.val = true ∧
      t.get CG_FBSTAMP_STAMP c.val = s.stamp ∧
      t.raised (448 + c.val) = true ∧
      ((s.blockOf c.val).isSome = true → t.cellOff c.val = true)) ∧
  (∀ (s : State) (c : Cell) (hi level : Bool) (b : Block),
    s.on CG_PCTL_FBEN c.val = true →
    s.fbLevel c.val level = true →
    s.on (fbField hi) c.val = false →
    s.on (fbField (!hi)) c.val = true →
    s.on CG_PSTAT_FB_BOTHON c.val = false →
    s.blockOf c.val = some b.val →
    s.on CG_BSTAT_TURNOFF b.val = false →
    ∃ t, exec (.feedbackChange c hi level) s = .next t ∧
      t.on CG_PSTAT_FB_BOTHON c.val = true ∧
      t.on CG_BSTAT_TURNOFF b.val = true ∧
      (s.blk b.val = blkRunning → t.blk b.val = blkTripped) ∧
      (s.on CG_BSTAT_SOFT b.val = false → t.get CG_BSTAT_FIRSTCELL b.val = c.val) ∧
      (∀ k : Cell, s.blockOf k.val = some b.val → t.cellOff k.val = true)) ∧
  (∀ (s : State) (c : Cell) (hi : Bool) (d : Nat),
    s.deadline (.fbCheck c.val hi) = some d →
    s.on CG_PCTL_FBEN c.val = true →
    (s.outU c.val hi).reached = false →
    s.on CG_PSTAT_FB_TIMEOUT c.val = false →
    s.routed (448 + c.val) = true →
    ∃ t, exec (.fbTimeout c hi) s = .next t ∧
      t.on CG_PSTAT_FB_TIMEOUT c.val = true ∧
      t.get CG_FBSTAMP_STAMP c.val = t.stamp ∧
      t.raised (448 + c.val) = true ∧
      ((s.blockOf c.val).isSome = true → t.cellOff c.val = true) ∧
      t.now = max s.now d) ∧
  (∀ (s : State) (c : Cell) (hi : Bool) (d : Nat),
    s.deadline (.fbCheck c.val hi) = some d →
    (s.on CG_PCTL_FBEN c.val = false ∨ (s.outU c.val hi).reached = true) →
    ∃ t, exec (.fbTimeout c hi) s = .next t ∧
      t.rdw .CG_PSTAT c.val = s.rdw .CG_PSTAT c.val ∧
      t.chan c.val = s.chan c.val ∧
      t.now = max s.now d) ∧
  (∀ (s : State) (c : Cell) (u : Nat),
    u = (s.chan c.val).dsat.1 + s.get CG_PCTL_DSFILT c.val →
    (s.on CG_PCTL_DSEN c.val = false ∨ s.on CG_PSTAT_DSAT c.val = false ∨ s.on CG_PSTAT_DS_LATCH c.val = true ∨ (s.advanceTo u).dsOutput c.val = none) →
    ∃ t, exec (.dsLatch c) s = .next t ∧
      t.rdw .CG_PSTAT c.val = s.rdw .CG_PSTAT c.val ∧
      t.chan c.val = s.chan c.val ∧
      t.rdw .CG_DSSTAMP c.val = s.rdw .CG_DSSTAMP c.val) ∧
  (∀ (s : State) (c : Cell) (hi : Bool) (b : Block) (u : Nat),
    u = (s.chan c.val).dsat.1 + s.get CG_PCTL_DSFILT c.val →
    s.on CG_PCTL_DSEN c.val = true →
    s.on CG_PSTAT_DSAT c.val = true →
    s.on CG_PSTAT_DS_LATCH c.val = false →
    (s.advanceTo u).dsOutput c.val = some hi →
    s.blockOf c.val = some b.val →
    s.on CG_BSTAT_TURNOFF b.val = false →
    s.routed (496 + b.val) = true →
    ∃ t, exec (.dsLatch c) s = .next t ∧
      t.on CG_PSTAT_DS_LATCH c.val = true ∧
      t.now = max s.now u ∧
      t.get CG_DSSTAMP_STAMP c.val = max s.now u % 2 ^ 32 ∧
      t.get CG_PSTAT_DS_HL c.val = (!hi).toNat ∧
      t.get CG_PSTAT_DSCOUNT c.val = min (s.get CG_PSTAT_DSCOUNT c.val + 1) (2 ^ CG_PSTAT_DSCOUNT.width - 1) ∧
      t.on CG_BSTAT_TURNOFF b.val = true ∧
      t.on CG_BSTAT_SOFT b.val = true ∧
      (s.blk b.val = blkRunning → t.blk b.val = blkTripped) ∧
      t.raised (496 + b.val) = true ∧
      (∀ k : Cell, s.blockOf k.val = some b.val → t.cellOff k.val = true)) ∧
  (∀ (s : State) (c : Cell) (level : Bool),
    ∃ t, exec (.dsatLevelChange c level) s = .next t ∧
      t.on CG_PSTAT_DSAT c.val = (level != s.on CG_PCTL_DSPOL c.val) ∧
      t.on CG_PSTAT_DS_LATCH c.val = s.on CG_PSTAT_DS_LATCH c.val ∧
      ((t.chan c.val).dsat.1 = if s.on CG_PSTAT_DSAT c.val = (level != s.on CG_PCTL_DSPOL c.val) then (s.chan c.val).dsat.1 else s.now) ∧
      t.now = s.now) ∧
  (∀ (s : State) (c : Cell) (d : Nat),
    s.deadline (.blank c.val) = some d →
    ∃ t, exec (.blankingEnd c) s = .next t ∧
      t.on CG_PSTAT_BLANKING c.val = false ∧
      t.now = max s.now d ∧
      t.armed (.blank c.val) = false) ∧
  (∀ (s : State) (b : Block) (d : Nat),
    s.deadline (.softStep b.val) = some d →
    ∃ t, exec (.softStepEnd b) s = .next t ∧
      t.on CG_BSTAT_SOFT b.val = false ∧
      t.on CG_BSTAT_STEP2 b.val = true ∧
      (t.blkU b.val).softPin = s.on CG_BCTL_SOFTPOL b.val ∧
      t.now = max s.now d) ∧
  (∀ (s : State) (m : Master) (c : Cell) (b : Block) (v : Word),
    s.busOpen m = true →
    s.mayWriteCell m c.val = true →
    s.dsFiltered c.val = false →
    s.on CG_PSTAT_FBH c.val = false →
    s.on CG_PSTAT_FBL c.val = false →
    CG_PCTL_FBPOL.of v = s.get CG_PCTL_FBPOL c.val →
    CG_PCTL_DSPOL.of v = s.get CG_PCTL_DSPOL c.val →
    CG_PCTL_DSFILT.of v = s.get CG_PCTL_DSFILT c.val →
    s.blockOf c.val = some b.val →
    (∀ k : Cell, s.blockOf k.val = some b.val → k ≠ c → s.on CG_PSTAT_DS_LATCH k.val = false ∧ s.on CG_PSTAT_FB_BOTHON k.val = false) →
    (∃ k : Fin 4, s.on (portLatches.getD k.val CG_PSTAT_DS_LATCH) c.val = true) →
    ∃ t, exec (.clr m c v) s = .next t ∧
      t.on CG_BSTAT_TURNOFF b.val = false ∧
      t.on CG_PSTAT_DS_LATCH c.val = false ∧
      t.on CG_PSTAT_FB_BOTHON c.val = false) ∧
  (∀ (s : State) (m : Master) (c : Cell) (v : Word),
    s.busOpen m = true →
    s.mayWriteCell m c.val = true →
    s.dsFiltered c.val = false →
    CG_PCTL_DSFILT.of v = s.get CG_PCTL_DSFILT c.val →
    s.on CG_PSTAT_FBH c.val = false →
    s.on CG_PSTAT_FBL c.val = false →
    CG_PCTL_FBPOL.of v = s.get CG_PCTL_FBPOL c.val →
    CG_PCTL_DSPOL.of v = s.get CG_PCTL_DSPOL c.val →
    ∃ t, exec (.clr m c v) s = .next t ∧
      t.on CG_PSTAT_DS_LATCH c.val = false ∧
      t.on CG_PSTAT_FB_TIMEOUT c.val = false ∧
      t.on CG_PSTAT_FB_MISMATCH c.val = false ∧
      t.on CG_PSTAT_FB_BOTHON c.val = false) ∧
  (∀ (s : State) (m : Master) (c : Cell) (v : Word) (k : Fin 4),
    s.busOpen m = true →
    s.mayWriteCell m c.val = true →
    k ≠ 0 →
    (s.on CG_PSTAT_FBH c.val = true ∨ s.on CG_PSTAT_FBL c.val = true) →
    s.on (portLatches.getD k.val CG_PSTAT_DS_LATCH) c.val = true →
    CG_PCTL_FBPOL.of v = s.get CG_PCTL_FBPOL c.val →
    ∃ t, exec (.clr m c v) s = .next t ∧
      t.on (portLatches.getD k.val CG_PSTAT_DS_LATCH) c.val = true ∧
      t.on CG_PSTAT_CLEAR_DENIED c.val = true) ∧
  (∀ (s : State) (m : Master) (c : Cell) (v : Word),
    s.busOpen m = true →
    s.mayWriteCell m c.val = true →
    s.dsFiltered c.val = true →
    CG_PCTL_DSFILT.of v = s.get CG_PCTL_DSFILT c.val →
    s.on CG_PSTAT_DS_LATCH c.val = true →
    CG_PCTL_DSPOL.of v = s.get CG_PCTL_DSPOL c.val →
    CG_PCTL_FBPOL.of v = s.get CG_PCTL_FBPOL c.val →
    ∃ t, exec (.clr m c v) s = .next t ∧
      t.on CG_PSTAT_DS_LATCH c.val = true ∧
      t.on CG_PSTAT_CLEAR_DENIED c.val = true)

/-- Ramp generators start, step, hold and return. From a master that R19 admits, by a write whose CELL stays: GO in IDLE with EN 1, STOP 0 and a bound
cell enters WAIT for 10 ms with ALIGN, else RUN in segment 0 at RSTART or the parameter word, the next update 1 µs later; GO in another state, or
unbound, changes no state and sets RAMP_DENIED. STOP, and RELEASE in HELD, return to IDLE, RVAL staying; RELEASE elsewhere sets RAMP_DENIED. A CELL no
other generator names takes effect in IDLE with both blocks STOPPED or unbound; another, and one that is named, leaves CELL and sets RAMP_DENIED. Ten
milliseconds in WAIT return to IDLE with ALIGN_TIMEOUT. Each microsecond in RUN short of the segment's end gives RVAL its value on the line from the
segment's start to its end; the last gives the end exactly, and goes on to the next segment or, after segment NSEG, to HELD with DONE and source 192 +
cell. (R190, R191, R192) -/
def Obligations.RampsRun : Prop :=
  (∀ (s : State) (m : Master) (r : Gen) (v : Word),
    s.busOpen m = true →
    s.mayWriteCell m (s.rampCell r.val) = true →
    s.rampState r.val = rampIdle →
    RG_RCTL_CELL.of v = s.rampCell r.val →
    (s.blockOf (s.rampCell r.val)).isSome = true →
    RG_RCTL_EN.of v = 1 →
    RG_RCTL_ALIGN.of v = 1 →
    RG_RCTL_STOP.of v = 0 →
    ∃ t, exec (.rampGo m r v) s = .next t ∧
      t.rampState r.val = rampWait ∧
      t.deadline (.rampWait r.val) = some (s.now + 10 * ms)) ∧
  (∀ (s : State) (m : Master) (r : Gen) (v : Word),
    s.busOpen m = true →
    s.mayWriteCell m (s.rampCell r.val) = true →
    s.rampState r.val = rampIdle →
    RG_RCTL_CELL.of v = s.rampCell r.val →
    (s.blockOf (s.rampCell r.val)).isSome = true →
    RG_RCTL_EN.of v = 1 →
    RG_RCTL_ALIGN.of v = 0 →
    RG_RCTL_STOP.of v = 0 →
    ∃ t, exec (.rampGo m r v) s = .next t ∧
      t.rampState r.val = rampRun ∧
      (t.rdw .RG_RVAL r.val = if RG_RCTL_FROMWORD.of v = 1 then dataWord (s.eng (2 * s.rampCell r.val)).data (448 + RG_RCTL_WORD.of v) else s.rdw .RG_RSTART r.val) ∧
      t.get RG_RSTAT_SEG r.val = 0 ∧
      t.deadline (.ramp r.val) = some (s.now + us)) ∧
  (∀ (s : State) (m : Master) (r : Gen) (v : Word),
    s.busOpen m = true →
    s.mayWriteCell m (s.rampCell r.val) = true →
    RG_RCTL_CELL.of v = s.rampCell r.val →
    ∃ t, exec (.rampStop m r v) s = .next t ∧
      t.rdw .RG_RVAL r.val = s.rdw .RG_RVAL r.val ∧
      t.rampState r.val = rampIdle ∧
      t.armed (.ramp r.val) = false ∧
      t.armed (.rampWait r.val) = false) ∧
  (∀ (s : State) (m : Master) (r : Gen) (v : Word),
    s.busOpen m = true →
    s.mayWriteCell m (s.rampCell r.val) = true →
    RG_RCTL_CELL.of v = s.rampCell r.val →
    (s.rampState r.val ≠ rampIdle ∨ s.blockOf (s.rampCell r.val) = none) →
    RG_RCTL_STOP.of v = 0 →
    RG_RCTL_RELEASE.of v = 0 →
    ∃ t, exec (.rampGo m r v) s = .next t ∧
      t.rampState r.val = s.rampState r.val ∧
      t.on RG_RSTAT_RAMP_DENIED r.val = true ∧
      t.rdw .RG_RVAL r.val = s.rdw .RG_RVAL r.val) ∧
  (∀ (s : State) (m : Master) (r : Gen) (v : Word),
    s.busOpen m = true →
    s.mayWriteCell m (s.rampCell r.val) = true →
    RG_RCTL_CELL.of v = s.rampCell r.val →
    s.rampState r.val ≠ rampHeld →
    RG_RCTL_STOP.of v = 0 →
    RG_RCTL_GO.of v = 0 →
    ∃ t, exec (.rampRelease m r v) s = .next t ∧
      t.rampState r.val = s.rampState r.val ∧
      t.on RG_RSTAT_RAMP_DENIED r.val = true) ∧
  (∀ (s : State) (m : Master) (r : Gen) (v : Word),
    s.busOpen m = true →
    s.mayWriteCell m (s.rampCell r.val) = true →
    RG_RCTL_CELL.of v = s.rampCell r.val →
    s.rampState r.val = rampHeld →
    ∃ t, exec (.rampRelease m r v) s = .next t ∧
      t.rampState r.val = rampIdle ∧
      t.rdw .RG_RVAL r.val = s.rdw .RG_RVAL r.val) ∧
  (∀ (s : State) (m : Master) (r : Gen) (v : Word),
    s.busOpen m = true →
    s.mayWriteCell m (s.rampCell r.val) = true →
    s.rampTaken r.val (RG_RCTL_CELL.of v) = true →
    ∃ t, exec (.rampCellWrite m r v) s = .next t ∧
      t.rdw .RG_RCTL r.val = s.rdw .RG_RCTL r.val ∧
      t.rampState r.val = s.rampState r.val ∧
      t.on RG_RSTAT_RAMP_DENIED r.val = true) ∧
  (∀ (s : State) (m : Master) (r : Gen) (v : Word),
    s.busOpen m = true →
    s.mayWriteCell m (s.rampCell r.val) = true →
    s.rampTaken r.val (RG_RCTL_CELL.of v) = false →
    s.rampState r.val = rampIdle →
    s.rampCellOk r.val (RG_RCTL_CELL.of v) = true →
    ∃ t, exec (.rampCellWrite m r v) s = .next t ∧
      t.rampCell r.val = RG_RCTL_CELL.of v) ∧
  (∀ (s : State) (m : Master) (r : Gen) (v : Word),
    s.busOpen m = true →
    s.mayWriteCell m (s.rampCell r.val) = true →
    RG_RCTL_CELL.of v ≠ s.rampCell r.val →
    (s.rampState r.val ≠ rampIdle ∨ s.rampCellOk r.val (RG_RCTL_CELL.of v) = false) →
    ∃ t, exec (.rampCellWrite m r v) s = .next t ∧
      t.rampCell r.val = s.rampCell r.val ∧
      t.on RG_RSTAT_RAMP_DENIED r.val = true) ∧
  (∀ (s : State) (r : Gen) (d : Nat),
    s.deadline (.rampWait r.val) = some d →
    s.rampState r.val = rampWait →
    ∃ t, exec (.alignTimeout r) s = .next t ∧
      t.rampState r.val = rampIdle ∧
      t.on RG_RSTAT_ALIGN_TIMEOUT r.val = true ∧
      t.now = max s.now d) ∧
  (∀ (s : State) (r : Gen) (d : Nat),
    s.deadline (.ramp r.val) = some d →
    s.rampState r.val = rampRun →
    (s.rampU r.val).t + 1 < 10 * atLeast1 (s.get RG_SEGDUR_DUR r.val (s.get RG_RSTAT_SEG r.val)) →
    ∃ t, exec (.rampUpdate r) s = .next t ∧
      t.rdw .RG_RVAL r.val = rampValue (s.rampU r.val).start (s.rdw .RG_SEGEND r.val (s.get RG_RSTAT_SEG r.val)) ((s.rampU r.val).t + 1) (10 * atLeast1 (s.get RG_SEGDUR_DUR r.val (s.get RG_RSTAT_SEG r.val))) ∧
      (t.rampU r.val).t = (s.rampU r.val).t + 1 ∧
      t.rampState r.val = rampRun ∧
      t.now = max s.now d) ∧
  (∀ (s : State) (r : Gen) (d : Nat),
    s.deadline (.ramp r.val) = some d →
    s.rampState r.val = rampRun →
    10 * atLeast1 (s.get RG_SEGDUR_DUR r.val (s.get RG_RSTAT_SEG r.val)) ≤ (s.rampU r.val).t + 1 →
    ∃ t, exec (.rampUpdate r) s = .next t ∧
      t.rdw .RG_RVAL r.val = s.rdw .RG_SEGEND r.val (s.get RG_RSTAT_SEG r.val) ∧
      (s.get RG_RSTAT_SEG r.val < s.get RG_RCTL_NSEG r.val → t.get RG_RSTAT_SEG r.val = s.get RG_RSTAT_SEG r.val + 1 ∧ t.rampState r.val = rampRun) ∧
      (s.get RG_RCTL_NSEG r.val ≤ s.get RG_RSTAT_SEG r.val → t.rampState r.val = rampHeld ∧ t.on RG_RSTAT_DONE r.val = true ∧ (s.routed (192 + s.rampCell r.val) = true → t.raised (192 + s.rampCell r.val) = true)))

/-- The Assay samples, counts, pulses and takes snapshots; the Assay restores at its start, saves, and stops with an ORDERLY record. At a sample
boundary of a running Assay, 125 µs after the last, each corrected sample joins its channel's history, a clamp sets CLIP, the interval ends at 200
samples, and a snapshot that is due is taken and counted. SNAP makes one due. No crossing of a channel with ZXOK for ZXTO clears its ZXOK, sets its
ZX_LOST and raises the Assay's source; with no channel left FREQ reads 0; in time it changes nothing. A queued pulse whose output is free, 2 PW after
its last start, starts and leaves the backlog; else nothing changes. A level of an S0 input held for DEB after another as long becomes LEVEL, and an
active one of an enabled input counts; a level not held as long changes neither LEVEL nor the count. The end of a check window counts the check and
starts the next; without a deviation DEV is 0, and one above S0TOL and one pulse weight sets S0_MISMATCH and raises the source. Stopped, the Assay
keeps its state. With VAUX, in RUN and from release step 2 on, a stopped Assay starts, its first sample 125 µs later: with a valid record it restores
its masters, residues and S0 counts, with UNSAVED unless the record was a last gasp or orderly; without one they are 0 and RECORD_LOST is set. 0.9
SAVEINT after the last record a PERIODIC record is due. A save that reads back equal completes in its slot, LASTKIND shows its kind and PERIODIC
counts from its close; a first difference rewrites it; a second counts FAILCNT, raises source 513 and leaves the records as they were. A lost clock
sets CLK_LOST, raises source 515, closes an ORDERLY record of this boundary's masters for its save and stops the Assay. Where there is nothing to
start, save or lose, nothing changes. (R242, R244, R247, R251, R254, R255, R256, R258, R259, R260, R263, R264) -/
def Obligations.AssayMetersSavesAndRestores : Prop :=
  (∀ (s : State) (w : Vector (BitVec 24) 8) (d : Nat),
    s.assay.running = true →
    s.deadline .assaySample = some d →
    ∃ t, exec (.assaySample w) s = .next t ∧
      (∀ c : Fin 8, t.assay.hist[c] = ((s.assayCorrect c.val w[c]).1 :: s.assay.hist[c]).take 16) ∧
      (∀ c : Fin 8, (s.assayCorrect c.val w[c]).2 = true → t.bitOf AS_ASTAT_CLIP c.val = true) ∧
      t.assay.tick = s.assay.tick + 1 ∧
      t.now = max s.now d ∧
      (t.assay.running = true → t.deadline .assaySample = some (max s.now d + 31250)) ∧
      (199 ≤ s.assay.ivCount → t.assay.ivCount = 0) ∧
      (s.assay.snapDue = true → t.on AS_ASTAT_SNAPVALID = true ∧ t.assay.snapDue = false ∧ t.get AS_SNAPNUM_SNAPNUM = (s.get AS_SNAPNUM_SNAPNUM + 1) % 2 ^ AS_SNAPNUM_SNAPNUM.width)) ∧
  (∀ (s : State) (w : Vector (BitVec 24) 8),
    s.assay.running = false →
    ∃ t, exec (.assaySample w) s = .next t ∧
      t.assay = s.assay) ∧
  (∀ (s : State) (k : Fin 3),
    (s.assay.running = false ∨ s.bitOf AS_ASTAT_ZXOK k.val = false ∨ s.assay.cross[k].since < s.zxtoSamples) →
    ∃ t, exec (.zxLost k) s = .next t ∧
      t = s) ∧
  (∀ (s : State) (o : Fin 9),
    (s.assay.running = false ∨ s.backlog o.val = 0 ∨ s.assay.pulseAt[o].any (fun p => decide (s.now < p + 2 * s.pulseWidth o.val)) = true) →
    ∃ t, exec (.pulseStart o) s = .next t ∧
      t = s) ∧
  (∀ (s : State) (n : Fin 4) (a : S0Edge),
    a.high ≠ s.assay.s0pin[n].high →
    s.now < max s.assay.s0pin[n].since (s.now - a.held) + s.debounce n.val →
    ∃ t, exec (.s0Pulse n a) s = .next t ∧
      t.get AS_S0STAT_LEVEL n.val = s.get AS_S0STAT_LEVEL n.val ∧
      t.get AS_S0CNT_CNT n.val = s.get AS_S0CNT_CNT n.val) ∧
  (∀ (s : State) (n : Fin 4) (d : Nat) (da ds : Int),
    s.deadline (.s0Check n.val) = some d →
    s.assay.running = true →
    s.chkwin n.val ≠ 0 →
    da = s.master (s.get AS_S0CTL_CHKR n.val) - s.assay.s0win[n].master →
    ds = ((s.rdw .AS_S0CNT n.val - s.assay.s0win[n].count).toNat * s.get AS_S0WGT_WGT n.val : Nat) →
    da.natAbs * s.get AS_S0TOL_TOL n.val + 10000 * s.get AS_S0WGT_WGT n.val < 10000 * (ds - da).natAbs →
    s.routed assaySource = true →
    ∃ t, exec (.s0Check n) s = .next t ∧
      t.get AS_S0STAT_CHECKS n.val = min (s.get AS_S0STAT_CHECKS n.val + 1) (2 ^ AS_S0STAT_CHECKS.width - 1) ∧
      t.on AS_S0STAT_S0_MISMATCH n.val = true ∧
      t.raised assaySource = true ∧
      t.deadline (.s0Check n.val) = some (max s.now d + s.chkwin n.val * 60000 * ms) ∧
      t.assay.s0win[n] = ⟨s.master (s.get AS_S0CTL_CHKR n.val), s.rdw .AS_S0CNT n.val⟩) ∧
  (∀ (s : State) (m : Master) (v : Word),
    s.busOpen m = true →
    ∃ t, exec (.snap m v) s = .next t ∧
      t.assay.snapDue = true) ∧
  (∀ (s : State) (k : Fin 3),
    s.assay.running = true →
    s.bitOf AS_ASTAT_ZXOK k.val = true →
    s.zxtoSamples ≤ s.assay.cross[k].since →
    s.routed assaySource = true →
    ∃ t, exec (.zxLost k) s = .next t ∧
      t.bitOf AS_ASTAT_ZXOK k.val = false ∧
      t.bitOf AS_ASTAT_ZX_LOST k.val = true ∧
      t.raised assaySource = true ∧
      (s.get AS_ASTAT_ZXOK = 2 ^ k.val → t.get AS_RES_VALUE 24 = 0)) ∧
  (∀ (s : State) (o : Fin 9) (n : Nat),
    s.assay.running = true →
    s.backlog o.val = n + 1 →
    s.assay.pulseAt[o].all (fun p => decide (p + 2 * s.pulseWidth o.val ≤ s.now)) = true →
    ∃ t, exec (.pulseStart o) s = .next t ∧
      t.backlog o.val = n ∧
      t.assay.pulseAt[o] = some s.now ∧
      t.pulseLevel o = true) ∧
  (∀ (s : State) (n : Fin 4) (a : S0Edge) (l : Bool),
    s.assay.running = true →
    l = (a.high != s.on AS_S0CTL_POL n.val) →
    s.on AS_S0STAT_LEVEL n.val ≠ l →
    s.assay.s0pin[n].high ≠ a.high →
    s.debounce n.val ≤ a.held →
    s.assay.s0pin[n].since + s.debounce n.val + a.held ≤ s.now →
    ∃ t, exec (.s0Pulse n a) s = .next t ∧
      t.on AS_S0STAT_LEVEL n.val = l ∧
      (t.get AS_S0CNT_CNT n.val = if l && s.on AS_S0CTL_EN n.val then (s.get AS_S0CNT_CNT n.val + 1) % 2 ^ AS_S0CNT_CNT.width else s.get AS_S0CNT_CNT n.val)) ∧
  (∀ (s : State) (n : Fin 4) (d : Nat),
    s.deadline (.s0Check n.val) = some d →
    s.assay.running = true →
    s.chkwin n.val ≠ 0 →
    s.master (s.get AS_S0CTL_CHKR n.val) = s.assay.s0win[n].master →
    s.rdw .AS_S0CNT n.val = s.assay.s0win[n].count →
    ∃ t, exec (.s0Check n) s = .next t ∧
      t.get AS_S0STAT_CHECKS n.val = min (s.get AS_S0STAT_CHECKS n.val + 1) (2 ^ AS_S0STAT_CHECKS.width - 1) ∧
      t.get AS_S0CHK_DEV n.val = 0 ∧
      t.on AS_S0STAT_S0_MISMATCH n.val = s.on AS_S0STAT_S0_MISMATCH n.val ∧
      t.deadline (.s0Check n.val) = some (max s.now d + s.chkwin n.val * 60000 * ms) ∧
      t.now = max s.now d) ∧
  (∀ (s : State) (r : SaveRec),
    s.assay.running = false →
    s.supply.vaux = true →
    s.supply.place = 0 →
    2 ≤ s.supply.step →
    s.lamp.latest = some r →
    ∃ t, exec .assayStart s = .next t ∧
      t.assay.running = true ∧
      (∀ k : Fin 16, t.master k.val = r.masters[k] % 2 ^ 64) ∧
      (∀ n : Fin 4, t.rdw .AS_S0CNT n.val = r.s0[n]) ∧
      t.deadline .assaySample = some (s.now + 31250) ∧
      t.assay.residues = r.residues ∧
      (r.kind ≠ saveGasp → r.kind ≠ saveOrderly → t.on AS_ASTAT_UNSAVED = true)) ∧
  (∀ (s : State),
    s.assay.running = false →
    s.supply.vaux = true →
    s.supply.place = 0 →
    2 ≤ s.supply.step →
    s.lamp.latest = none →
    ∃ t, exec .assayStart s = .next t ∧
      t.assay.running = true ∧
      t.deadline .assaySample = some (s.now + 31250) ∧
      (∀ k : Fin 16, t.master k.val = 0) ∧
      (∀ n : Fin 4, t.rdw .AS_S0CNT n.val = 0) ∧
      t.on AS_ASTAT_RECORD_LOST = true) ∧
  (∀ (s : State) (d : Nat),
    s.deadline .savePeriod = some d →
    s.assay.running = true →
    ∃ t, exec .periodic s = .next t ∧
      t.assay.closeDue = some (s.assay.closeDue.getD savePeriodic) ∧
      t.now = max s.now d) ∧
  (∀ (s : State) (v : SaveU),
    s.assay.save = some v →
    ∃ t, exec (.saveReadback true) s = .next t ∧
      ((if v.slot then t.lamp.slot1 else t.lamp.slot0) = some v.body) ∧
      t.assay.save = none ∧
      t.get AS_SAVESTAT_LASTKIND = v.body.kind % 2 ^ AS_SAVESTAT_LASTKIND.width ∧
      (s.assay.running = true → t.deadline .savePeriod = some (v.closedAt + s.saveint * 225000))) ∧
  (∀ (s : State) (v : SaveU),
    s.assay.save = some v →
    s.routed 513 = true →
    ∃ t, exec (.saveReadback false) s = .next t ∧
      (v.rewritten = false → t.assay.save = some { v with rewritten := true }) ∧
      (v.rewritten = true → t.assay.save = none ∧ t.get AS_SAVESTAT_FAILCNT = min (s.get AS_SAVESTAT_FAILCNT + 1) (2 ^ AS_SAVESTAT_FAILCNT.width - 1) ∧ t.raised 513 = true) ∧
      t.lamp = s.lamp) ∧
  (∀ (s : State),
    (s.assay.running = true ∨ s.supply.vaux = false ∨ s.supply.place ≠ 0 ∨ s.supply.step < 2) →
    ∃ t, exec .assayStart s = .next t ∧
      t = s) ∧
  (∀ (s : State) (ok : Bool),
    s.assay.save = none →
    ∃ t, exec (.saveReadback ok) s = .next t ∧
      t = s) ∧
  (∀ (s : State),
    s.assay.running = true →
    s.routed 515 = true →
    ∃ t, exec .clkLost s = .next t ∧
      t.on AS_ASTAT_CLK_LOST = true ∧
      t.assay.running = false ∧
      t.raised 515 = true ∧
      t.assay.save.map (fun v => (v.body.kind, v.rewritten, v.closedAt)) = some (saveOrderly, false, s.now) ∧
      t.assay.save.map (fun v => v.body.masters) = some (Vector.ofFn (fun k : Fin 16 => t.master k.val)) ∧
      t.armed .assaySample = false) ∧
  (∀ (s : State),
    s.assay.running = false →
    ∃ t, exec .clkLost s = .next t ∧
      t = s)

/-- Custom instructions read angles, yield crews and wait for frames; checkpoints store the main core and the journal keeps prior lines. XANG in a
running core writes rd with the selected angle, TURN capture, increment or state, leaves the other registers and moves pc on. An encoding of XANG,
XYLD or XFWT with a field R272 does not give, and XYLD in user mode, traps as illegal: mcause 2, mepc, mtval the word, pc at the vector, machine mode.
XYLD writes its answer: 2 for a crew that is not the pair's or not enabled, or current on the other core of a split pair, 1 for a parked one, 0
otherwise, and on 0 with budget left the crew becomes current and pc moves on; on another answer the crew stays. XFWT makes the core wait, with its
WAKE bit, unless a frame boundary missed before or, with WAKE, an enabled interrupt ends it at once. A core that does not run executes none of them. A
parity error of an instruction cache of a lock-step pair counts. A checkpoint of a running pair in SERVICE begins when its log holds 3,072 entries or
its journal 1,024, or 100 µs after the last; of another pair none begins. Its completion stores the main core in the buffer that is not current, makes
that buffer current, empties the journal and the egress account, ends UNPROTECTED and starts the next 100 µs; where none is stored it changes nothing.
The first write to a line of the pair since the last checkpoint appends the line's prior 64 bytes with their CRC to a journal with room, whose highest
count JNLMAX keeps; a line it holds is not appended again. (R269, R272, R273, R274, R280, R281, R282) -/
def Obligations.CustomInstructionsAndCheckpoints : Prop :=
  (∀ (s : State) (n : Pair) (k : Fin 2) (w : Word),
    s.runs n.val k.val = true →
    isCustom w 0 = true →
    insRs1 w = 0 →
    insImm w / 16 = 0 →
    ∃ t, exec (.xang n k w) s = .next t ∧
      (((t.pairU n.val).core k.val).regs.getX (insRd w) = if insRd w = 0 then 0 else (s.xang n.val (insImm w % 4) (insImm w / 4 % 4)).1) ∧
      ((t.pairU n.val).core k.val).regs.pc = ((s.pairU n.val).core k.val).regs.pc + 4 ∧
      (∀ j : Fin 32, j.val ≠ insRd w → ((t.pairU n.val).core k.val).regs.getX j.val = ((s.pairU n.val).core k.val).regs.getX j.val)) ∧
  (∀ (s : State) (n : Pair) (k : Fin 2) (w : Word),
    s.runs n.val k.val = true →
    isCustom w 0 = true →
    (insRs1 w ≠ 0 ∨ insImm w / 16 ≠ 0) →
    ∃ t, exec (.xang n k w) s = .next t ∧
      ((t.pairU n.val).core k.val).regs.csr 0x342 = 2 ∧
      ((t.pairU n.val).core k.val).regs.csr 0x341 = ((s.pairU n.val).core k.val).regs.pc ∧
      ((t.pairU n.val).core k.val).regs.csr 0x343 = w ∧
      ((t.pairU n.val).core k.val).regs.pc = ((s.pairU n.val).core k.val).regs.csr 0x305 &&& ~~~3#32 ∧
      ((t.pairU n.val).core k.val).regs.user = false ∧
      ((t.pairU n.val).core k.val).regs.x = ((s.pairU n.val).core k.val).regs.x) ∧
  (∀ (s : State) (n : Pair) (k : Fin 2) (w : Word),
    s.runs n.val k.val = true →
    isCustom w 1 = true →
    (insImm w ≠ 0 ∨ ((s.pairU n.val).core k.val).regs.user = true) →
    ∃ t, exec (.xyld n k w) s = .next t ∧
      ((t.pairU n.val).core k.val).regs.csr 0x342 = 2 ∧
      ((t.pairU n.val).core k.val).regs.csr 0x341 = ((s.pairU n.val).core k.val).regs.pc ∧
      ((t.pairU n.val).core k.val).regs.csr 0x343 = w ∧
      ((t.pairU n.val).core k.val).regs.pc = ((s.pairU n.val).core k.val).regs.csr 0x305 &&& ~~~3#32 ∧
      ((t.pairU n.val).core k.val).regs.user = false ∧
      ((t.pairU n.val).core k.val).regs.x = ((s.pairU n.val).core k.val).regs.x) ∧
  (∀ (s : State) (n : Pair) (k : Fin 2) (w : Word),
    s.runs n.val k.val = true →
    isCustom w 2 = true →
    (insRs1 w ≠ 0 ∨ insImm w / 2 ≠ 0) →
    ∃ t, exec (.xfwt n k w) s = .next t ∧
      ((t.pairU n.val).core k.val).regs.csr 0x342 = 2 ∧
      ((t.pairU n.val).core k.val).regs.csr 0x341 = ((s.pairU n.val).core k.val).regs.pc ∧
      ((t.pairU n.val).core k.val).regs.csr 0x343 = w ∧
      ((t.pairU n.val).core k.val).regs.pc = ((s.pairU n.val).core k.val).regs.csr 0x305 &&& ~~~3#32 ∧
      ((t.pairU n.val).core k.val).regs.user = false ∧
      ((t.pairU n.val).core k.val).regs.x = ((s.pairU n.val).core k.val).regs.x) ∧
  (∀ (s : State) (n : Pair) (k : Fin 2) (w : Word),
    s.runs n.val k.val = false →
    ∃ t, exec (.xang n k w) s = .next t ∧
      t = s) ∧
  (∀ (s : State) (n : Pair) (k : Fin 2) (w : Word),
    s.runs n.val k.val = false →
    ∃ t, exec (.xyld n k w) s = .next t ∧
      t = s) ∧
  (∀ (s : State) (n : Pair) (k : Fin 2) (w : Word),
    s.runs n.val k.val = false →
    ∃ t, exec (.xfwt n k w) s = .next t ∧
      t = s) ∧
  (∀ (s : State) (n : Pair) (k : Fin 2) (w : Word) (c : Nat),
    s.runs n.val k.val = true →
    isCustom w 1 = true →
    insImm w = 0 →
    ((s.pairU n.val).core k.val).regs.user = false →
    bits (((s.pairU n.val).core k.val).regs.getX (insRs1 w)) 0 6 = c →
    ∃ t, exec (.xyld n k w) s = .next t ∧
      (((t.pairU n.val).core k.val).regs.getX (insRd w) = if insRd w = 0 then 0 else BitVec.ofNat 32 (s.xyldAnswer n.val k.val c)) ∧
      (s.xyldAnswer n.val k.val c = 0 → s.get SP_REMAIN0_DRIFT c ≠ 0 → c ≠ s.crewOf n.val k.val → t.crewOf n.val k.val = c) ∧
      (s.xyldAnswer n.val k.val c = 0 → s.get SP_REMAIN0_DRIFT c ≠ 0 → c ≠ s.crewOf n.val k.val → ((t.pairU n.val).core k.val).regs.pc = ((s.pairU n.val).core k.val).regs.pc + 4) ∧
      (s.xyldAnswer n.val k.val c ≠ 0 → 4 < s.get SP_REMAIN0_DRIFT (s.crewOf n.val k.val) → ((t.pairU n.val).core k.val).regs.pc = ((s.pairU n.val).core k.val).regs.pc + 4) ∧
      (s.xyldAnswer n.val k.val c ≠ 0 → t.crewOf n.val k.val = s.crewOf n.val k.val)) ∧
  (∀ (s : State) (n : Pair) (k : Fin 2) (w : Word),
    s.runs n.val k.val = true →
    isCustom w 2 = true →
    insRs1 w = 0 →
    insImm w / 2 = 0 →
    (k = 0 → (s.pairU n.val).missed = none) →
    (insImm w % 2 = 0 ∨ ((∀ j ∈ s.slicesOf n.val, s.reqLine j = false) ∧ ((s.pairU n.val).core k.val).regs.csr 0x344 &&& ((s.pairU n.val).core k.val).regs.csr 0x304 &&& 0x888 = 0)) →
    ∃ t, exec (.xfwt n k w) s = .next t ∧
      ((t.pairU n.val).core k.val).waiting = some (insImm w % 2 == 1, insRd w) ∧
      ((t.pairU n.val).core k.val).regs.pc = ((s.pairU n.val).core k.val).regs.pc) ∧
  (∀ (s : State) (n : Pair),
    s.isSplit n.val = false →
    s.pst n.val ≠ pairOff →
    ∃ t, exec (.icpar n) s = .next t ∧
      t.get DR_PCOUNT_ICPAR n.val = min (s.get DR_PCOUNT_ICPAR n.val + 1) (2 ^ DR_PCOUNT_ICPAR.width - 1)) ∧
  (∀ (s : State) (n : Pair),
    s.pst n.val = pairService →
    s.on DR_PSTATE_DEBUG n.val = false →
    (s.pairU n.val).faulted = false →
    (s.pairU n.val).storing = none →
    s.checkpointDue n.val = true →
    ∃ t, exec (.checkpoint n) s = .next t ∧
      (t.pairU n.val).storing = some false) ∧
  (∀ (s : State) (n : Pair) (d : Nat),
    s.pst n.val = pairService →
    s.on DR_PSTATE_DEBUG n.val = false →
    (s.pairU n.val).faulted = false →
    (s.pairU n.val).storing = none →
    s.checkpointDue n.val = false →
    s.deadline (.checkpoint n.val) = some d →
    ∃ t, exec (.checkpoint n) s = .next t ∧
      (t.pairU n.val).storing = some false ∧
      t.now = max s.now d) ∧
  (∀ (s : State) (n : Pair) (c : Fin 301) (f : Bool),
    (s.pairU n.val).storing = some f →
    ∃ t, exec (.checkpointComplete n c) s = .next t ∧
      (t.pairU n.val).current = !(s.pairU n.val).current ∧
      ((if (s.pairU n.val).current then (t.pairU n.val).buf0 else (t.pairU n.val).buf1) = some (s.pairU n.val).core0.regs) ∧
      (if (s.pairU n.val).current then (t.pairU n.val).buf1 = (s.pairU n.val).buf1 else (t.pairU n.val).buf0 = (s.pairU n.val).buf0) ∧
      (t.pairU n.val).storing = none ∧
      (t.pairU n.val).journal = [] ∧
      (t.pairU n.val).egress = 0 ∧
      t.on DR_PSTATE_UNPROTECTED n.val = false ∧
      t.deadline (.checkpoint n.val) = some (s.now + 100 * us)) ∧
  (∀ (s : State) (n : Pair),
    (s.pst n.val ≠ pairService ∨ s.on DR_PSTATE_DEBUG n.val = true ∨ (s.pairU n.val).faulted = true ∨ (s.pairU n.val).storing.isSome = true) →
    ∃ t, exec (.checkpoint n) s = .next t ∧
      (t.pairU n.val).storing = (s.pairU n.val).storing ∧
      (t.pairU n.val).buf0 = (s.pairU n.val).buf0 ∧
      (t.pairU n.val).buf1 = (s.pairU n.val).buf1) ∧
  (∀ (s : State) (n : Pair) (c : Fin 301),
    (s.pairU n.val).storing = none →
    ∃ t, exec (.checkpointComplete n c) s = .next t ∧
      t = s) ∧
  (∀ (s : State) (n : Pair) (a : Word) (line : Nat),
    line = a.toNat / 64 * 64 →
    (s.pst n.val ≠ pairService ∨ s.journaled n.val line = false ∨ (s.pairU n.val).journal.any (fun e => e.line == line) = true) →
    ∃ t, exec (.journalEntry n a) s = .next t ∧
      t = s) ∧
  (∀ (s : State) (n : Pair) (a : Word) (line : Nat),
    line = a.toNat / 64 * 64 →
    s.pst n.val = pairService →
    s.journaled n.val line = true →
    (s.pairU n.val).journal.any (fun e => e.line == line) = false →
    (s.pairU n.val).journal.length < 1344 →
    ∃ t, exec (.journalEntry n a) s = .next t ∧
      t.get DR_PLOG_JNLMAX n.val = max (s.get DR_PLOG_JNLMAX n.val) ((s.pairU n.val).journal.length + 1) ∧
      (t.pairU n.val).journal = (s.pairU n.val).journal ++ [⟨line, s.bytes line 64, crc32 (leBytes 4 line ++ s.bytes line 64)⟩])

/-- A faulty pair fails, a spare takes its work over and recovers. A first fault of a pair in SERVICE shows its cause, its lane and its stamp, drives
FAULT_N and leaves 0.1 µs to FAILED and 1.0 µs to the takeover; with no other fault of that tick, outside UNPROTECTED, the lowest free spare is
assigned. FAILED counts FAILCNT and raises 592 + n; with no spare assigned SPARE_EXHAUSTED is set too, another pair in SERVICE going on. At the
takeover the spare enters RECOVERY, holds the failed pair's interrupt slice and owns its blocks; with none PAIRFAULT is set, SF2 demanded for the
blocks of the failed pair and none of them ARMED or RUNNING. A replay that ends equal puts the spare in SERVICE, unassigned and counted in TAKEOVERS,
with the registers of the failed pair's core, in no frame wait; one after a log overflow, with a bad journal entry, or diverged, puts it in SERVICE
with a core as after reset, RECOVERY_FAILED, cause 7, 6 or 8, and PAIRFAULT. A second fault, or an uncorrectable line, in RECOVERY is cause 5, and the
spare FAILED, another pair in SERVICE going on. In other states a fault changes nothing. (R284, R285, R286, R287, R290) -/
def Obligations.PairFaultsTakeOver : Prop :=
  (∀ (s : State) (n : Pair) (c : Fin 3) (l : Fin 1024),
    s.pst n.val = pairService →
    (s.pairU n.val).faulted = false →
    ∃ t, exec (.pairFault n c l) s = .next t ∧
      t.get DR_PFAULT_CAUSE n.val = c.val + 1 ∧
      t.get DR_PSTAMP_STAMP n.val = s.stamp ∧
      (c.val = 0 → t.get DR_PFAULT_LANE n.val = l.val) ∧
      (t.pairU n.val).faulted = true ∧
      t.fm.faultN = true ∧
      t.deadline (.pairFail n.val) = some (s.now + 25) ∧
      t.deadline (.takeover n.val) = some (s.now + us)) ∧
  (∀ (s : State) (n : Pair) (c : Fin 3) (l : Fin 1024) (k : Pair),
    s.pst n.val = pairService →
    (s.pairU n.val).faulted = false →
    s.on DR_PSTATE_UNPROTECTED n.val = false →
    s.freshFaults = [] →
    s.freeSpares.head? = some k.val →
    (s.pairU n.val).mate = none →
    ∃ t, exec (.pairFault n c l) s = .next t ∧
      (t.pairU n.val).mate = some k.val ∧
      t.deadline (.takeover n.val) = some (s.now + us)) ∧
  (∀ (s : State) (n : Pair) (c : Fin 3) (l : Fin 1024),
    s.pst n.val ≠ pairRecovery →
    (s.pst n.val ≠ pairService ∨ (s.pairU n.val).faulted = true) →
    ∃ t, exec (.pairFault n c l) s = .next t ∧
      t = s) ∧
  (∀ (s : State) (n : Pair) (c : Fin 3) (l : Fin 1024) (k : Pair),
    s.pst n.val = pairRecovery →
    k ≠ n →
    s.pst k.val = pairService →
    ∃ t, exec (.pairFault n c l) s = .next t ∧
      t.pst n.val = pairFailed ∧
      t.on DR_PCTL_RECOVERY_FAILED n.val = true ∧
      t.get DR_PFAULT_CAUSE n.val = 5 ∧
      t.on FM_FCAUSE_PAIRFAULT = true ∧
      t.get DR_PCOUNT_FAILCNT n.val = min (s.get DR_PCOUNT_FAILCNT n.val + 1) (2 ^ DR_PCOUNT_FAILCNT.width - 1) ∧
      t.pst k.val = pairService) ∧
  (∀ (s : State) (n : Pair) (f : Pair) (k : Pair),
    s.pst n.val = pairRecovery →
    (s.pairU n.val).mate = some f.val →
    (s.pairU f.val).overflow = false →
    k ≠ n →
    s.pst k.val = pairService →
    ∃ t, exec (.recoveryComplete n 1) s = .next t ∧
      t.pst n.val = pairFailed ∧
      t.on DR_PCTL_RECOVERY_FAILED n.val = true ∧
      t.get DR_PFAULT_CAUSE n.val = 5 ∧
      t.pst k.val = pairService) ∧
  (∀ (s : State) (n : Pair) (d : Nat),
    s.deadline (.pairFail n.val) = some d →
    s.routed (592 + n.val) = true →
    (s.pairU n.val).mate.isSome = true →
    ∃ t, exec (.pairEnterFailed n) s = .next t ∧
      t.pst n.val = pairFailed ∧
      t.get DR_PCOUNT_FAILCNT n.val = min (s.get DR_PCOUNT_FAILCNT n.val + 1) (2 ^ DR_PCOUNT_FAILCNT.width - 1) ∧
      t.raised (592 + n.val) = true ∧
      t.now = max s.now d) ∧
  (∀ (s : State) (n : Pair) (d : Nat) (k : Pair),
    s.deadline (.pairFail n.val) = some d →
    (s.pairU n.val).mate = none →
    k ≠ n →
    s.pst k.val = pairService →
    ∃ t, exec (.pairEnterFailed n) s = .next t ∧
      t.pst n.val = pairFailed ∧
      t.on DR_DSTAT_SPARE_EXHAUSTED = true ∧
      t.pst k.val = pairService) ∧
  (∀ (s : State) (n : Pair) (d : Nat),
    s.deadline (.takeover n.val) = some d →
    (s.pairU n.val).mate = none →
    ∃ t, exec (.takeoverStart n) s = .next t ∧
      t.on FM_FCAUSE_PAIRFAULT = true ∧
      t.now = max s.now d ∧
      (∀ b : Block, s.pst n.val = pairFailed → s.on BLK_BLKCTL_OWNED b.val = true → s.get BLK_BLKCTL_OWNER b.val = n.val → t.sf2Demand b.val = true ∧ t.blk b.val ≠ blkRunning ∧ t.blk b.val ≠ blkArmed)) ∧
  (∀ (s : State) (n : Pair) (d : Nat) (k : Pair),
    s.deadline (.takeover n.val) = some d →
    (s.pairU n.val).mate = some k.val →
    k ≠ n →
    ∃ t, exec (.takeoverStart n) s = .next t ∧
      t.pst k.val = pairRecovery ∧
      (t.pairU k.val).mate = some n.val ∧
      (t.pairU k.val).routedSlice = some ((s.pairU n.val).routedSlice.getD n.val) ∧
      (∀ b : Block, s.on BLK_BLKCTL_OWNED b.val = true → s.get BLK_BLKCTL_OWNER b.val = n.val → t.get BLK_BLKCTL_OWNER b.val = k.val) ∧
      t.now = max s.now d) ∧
  (∀ (s : State) (n : Pair) (f : Pair),
    s.pst n.val = pairRecovery →
    (s.pairU n.val).mate = some f.val →
    f ≠ n →
    (s.pairU f.val).overflow = false →
    (s.pairU f.val).core0.waiting = none →
    ∃ t, exec (.recoveryComplete n 0) s = .next t ∧
      t.pst n.val = pairService ∧
      t.get DR_PCOUNT_TAKEOVERS n.val = min (s.get DR_PCOUNT_TAKEOVERS n.val + 1) (2 ^ DR_PCOUNT_TAKEOVERS.width - 1) ∧
      (t.pairU n.val).mate = none ∧
      (t.pairU f.val).mate = none ∧
      (t.pairU n.val).core0.regs.x = (s.pairU f.val).core0.regs.x ∧
      (t.pairU n.val).core0.regs.f = (s.pairU f.val).core0.regs.f ∧
      (t.pairU n.val).core0.regs.crew = (s.pairU f.val).core0.regs.crew ∧
      (t.pairU n.val).core0.waiting = none) ∧
  (∀ (s : State) (n : Pair) (o : Fin 4) (f : Pair),
    s.pst n.val = pairRecovery →
    (s.pairU n.val).mate = some f.val →
    ((s.pairU f.val).overflow = true ∨ 2 ≤ o.val) →
    ∃ t, exec (.recoveryComplete n o) s = .next t ∧
      t.pst n.val = pairService ∧
      t.on DR_PCTL_RECOVERY_FAILED n.val = true ∧
      (t.get DR_PFAULT_CAUSE n.val = if (s.pairU f.val).overflow then 7 else if o.val = 2 then 6 else 8) ∧
      t.on FM_FCAUSE_PAIRFAULT = true ∧
      (t.pairU n.val).core0 = CoreU.reset)

/-- Mode requests, tests, splits and joins move a pair. From a lock-step master: TEST from SERVICE, SERVICE and, for a pair that owns no block, SPARE
from TEST, SPLIT from TEST (no block owned, not from SPARE, the configured spares kept or no pair in SERVICE), JOIN from SPLIT (also from core 0 of
the pair) take effect; else the state stays, with MODE_DENIED. From another master WRITE_DENIED is set only. A JOIN that is due puts core 0 as it is
into TEST. OWNRGN takes a word within R271 in START and TEST; else it stays, with MODE_DENIED where it would change. CLRMAX clears both maxima. A
passed test puts a pair where it came from, one from FAILED to SPARE if its march test passed, FAILCNT is below 2 and it owns no block; a failed one
to FAILED with cause 4 and the lane; in START, a passed one to its destination. An in-place test ends with its pair in SERVICE, or with the fault. A
TEST window puts a SPARE or FAILED pair into TEST, hands a SERVICE pair's work to the lowest spare, or starts an in-place test; a pair halted by the
port, or FAILED for good, none. An uncorrectable word stops a split core and parks its crew. A dual-sampled pin takes a level both samples agree on
within three, 4 ns apart, else 0 with source 577. (R18, R271, R278, R291, R292, R293, R294, R295, R296, R297, R298, R299) -/
def Obligations.PairsAreTestedSplitAndJoined : Prop :=
  (∀ (s : State) (m : Master) (n : Pair) (v : Word),
    s.busOpen m = true →
    s.lockstep m = true →
    s.pst n.val = pairService →
    ∃ t, exec (.modereqTest m n v) s = .next t ∧
      t.pst n.val = pairTest ∧
      (t.pairU n.val).afterTest = pairTest) ∧
  (∀ (s : State) (m : Master) (n : Pair) (v : Word),
    s.busOpen m = true →
    s.lockstep m = true →
    s.pst n.val ≠ pairService →
    ∃ t, exec (.modereqTest m n v) s = .next t ∧
      t.pst n.val = s.pst n.val ∧
      t.on DR_PCTL_MODE_DENIED n.val = true) ∧
  (∀ (s : State) (m : Master) (n : Pair) (v : Word),
    s.busOpen m = true →
    s.lockstep m = true →
    s.pst n.val = pairTest →
    s.ownedBy n.val = [] →
    (s.pairU n.val).afterTest ≠ pairSpare →
    (s.optSpares ≤ (s.pairsIn pairSpare).length ∨ s.pairsIn pairService = []) →
    ∃ t, exec (.modereqSplit m n v) s = .next t ∧
      t.pst n.val = pairSplit ∧
      (t.pairU n.val).core1 = CoreU.reset ∧
      (t.pairU n.val).log = [] ∧
      (t.pairU n.val).journal = []) ∧
  (∀ (s : State) (m : Master) (n : Pair) (v : Word),
    s.busOpen m = true →
    s.lockstep m = true →
    (s.pst n.val ≠ pairTest ∨ s.ownedBy n.val ≠ [] ∨ (s.pairU n.val).afterTest = pairSpare) →
    ∃ t, exec (.modereqSplit m n v) s = .next t ∧
      t.pst n.val = s.pst n.val ∧
      t.on DR_PCTL_MODE_DENIED n.val = true ∧
      (t.pairU n.val).core1 = (s.pairU n.val).core1) ∧
  (∀ (s : State) (m : Master) (n : Pair) (v : Word),
    s.busOpen m = true →
    s.lockstep m = true →
    s.pst n.val ≠ pairTest →
    ∃ t, exec (.modereqService m n v) s = .next t ∧
      t.pst n.val = s.pst n.val ∧
      t.on DR_PCTL_MODE_DENIED n.val = true) ∧
  (∀ (s : State) (m : Master) (n : Pair) (v : Word),
    s.busOpen m = true →
    s.lockstep m = true →
    (s.pst n.val ≠ pairTest ∨ s.ownedBy n.val ≠ []) →
    ∃ t, exec (.modereqSpare m n v) s = .next t ∧
      t.pst n.val = s.pst n.val ∧
      t.on DR_PCTL_MODE_DENIED n.val = true) ∧
  (∀ (s : State) (m : Master) (n : Pair) (v : Word),
    s.busOpen m = true →
    s.lockstep m = false →
    ∃ t, exec (.modereqTest m n v) s = .next t ∧
      t.pst n.val = s.pst n.val ∧
      t.rdw .DR_PCTL n.val = s.rdw .DR_PCTL n.val ∧
      t.on DR_DSTAT_WRITE_DENIED = true) ∧
  (∀ (s : State) (m : Master) (n : Pair) (v : Word),
    s.busOpen m = true →
    s.lockstep m = true →
    s.pst n.val ≠ pairSplit →
    ∃ t, exec (.join m n v) s = .next t ∧
      t.pst n.val = s.pst n.val ∧
      t.on DR_PCTL_MODE_DENIED n.val = true ∧
      (t.pairU n.val).joining = (s.pairU n.val).joining) ∧
  (∀ (s : State) (n : Pair),
    (s.pst n.val ≠ pairSplit ∨ (s.pairU n.val).joining ≠ 2) →
    ∃ t, exec (.joinApply n) s = .next t ∧
      t = s) ∧
  (∀ (s : State) (m : Master) (n : Pair) (v : Word),
    s.busOpen m = true →
    s.lockstep m = true →
    s.pst n.val = pairTest →
    ∃ t, exec (.modereqService m n v) s = .next t ∧
      t.pst n.val = pairService) ∧
  (∀ (s : State) (m : Master) (n : Pair) (v : Word),
    s.busOpen m = true →
    s.lockstep m = true →
    s.pst n.val = pairTest →
    s.ownedBy n.val = [] →
    ∃ t, exec (.modereqSpare m n v) s = .next t ∧
      t.pst n.val = pairSpare) ∧
  (∀ (s : State) (m : Master) (n : Pair) (v : Word),
    s.busOpen m = true →
    (s.lockstep m = true ∨ m = .core n 0) →
    s.pst n.val = pairSplit →
    ∃ t, exec (.join m n v) s = .next t ∧
      (t.pairU n.val).joining = 1 ∧
      t.pst n.val = pairSplit) ∧
  (∀ (s : State) (n : Pair),
    s.pst n.val = pairSplit →
    (s.pairU n.val).joining = 2 →
    ∃ t, exec (.joinApply n) s = .next t ∧
      t.pst n.val = pairTest ∧
      (t.pairU n.val).core1 = CoreU.reset ∧
      (t.pairU n.val).joining = 0 ∧
      (t.pairU n.val).afterTest = pairService ∧
      (t.pairU n.val).core0 = (s.pairU n.val).core0) ∧
  (∀ (s : State) (n : Pair) (r : Bool),
    s.pst n.val = pairTest →
    ∃ t, exec (.comparatorTestComplete n none r) s = .next t ∧
      (t.pst n.val = if (s.pairU n.val).afterTest = pairFailed then (if r = true ∧ s.get DR_PCOUNT_FAILCNT n.val < 2 ∧ s.ownedBy n.val = [] then pairSpare else pairFailed) else if (s.pairU n.val).afterTest = pairSpare then pairSpare else if (s.pairU n.val).afterTest = pairService then pairService else pairTest) ∧
      (t.pairU n.val).lastTest = s.now) ∧
  (∀ (s : State) (n : Pair) (l : Fin 1024) (r : Bool),
    s.pst n.val = pairTest →
    ∃ t, exec (.comparatorTestComplete n (some l) r) s = .next t ∧
      t.pst n.val = pairFailed ∧
      t.get DR_PFAULT_CAUSE n.val = 4 ∧
      t.get DR_PFAULT_LANE n.val = l.val) ∧
  (∀ (s : State) (n : Pair) (r : Bool),
    s.pst n.val = pairStart →
    s.pairsMayStart = true →
    ∃ t, exec (.comparatorTestComplete n none r) s = .next t ∧
      t.pst n.val = s.startDest n.val) ∧
  (∀ (s : State) (n : Pair) (r : Bool),
    s.pst n.val = pairService →
    (s.pairU n.val).inPlace = true →
    ∃ t, exec (.comparatorTestComplete n none r) s = .next t ∧
      t.pst n.val = pairService ∧
      (t.pairU n.val).inPlace = false ∧
      (t.pairU n.val).lastTest = s.now) ∧
  (∀ (s : State) (n : Pair) (l : Fin 1024) (r : Bool),
    s.pst n.val = pairService →
    (s.pairU n.val).inPlace = true →
    ∃ t, exec (.comparatorTestComplete n (some l) r) s = .next t ∧
      (t.pairU n.val).inPlace = false ∧
      (t.pairU n.val).faulted = true ∧
      t.get DR_PFAULT_CAUSE n.val = 4 ∧
      t.get DR_PFAULT_LANE n.val = l.val ∧
      t.deadline (.pairFail n.val) = some (s.now + 25)) ∧
  (∀ (s : State) (n : Pair),
    s.windowDue n.val = true →
    s.on DR_PSTATE_DEBUG n.val = false →
    (s.pst n.val = pairSpare ∨ (s.pst n.val = pairFailed ∧ (s.pairU n.val).stuck = false)) →
    ∃ t, exec (.testWindowOpen n) s = .next t ∧
      t.pst n.val = pairTest ∧
      (t.pairU n.val).afterTest = s.pst n.val) ∧
  (∀ (s : State) (n : Pair) (k : Pair),
    s.windowDue n.val = true →
    s.on DR_PSTATE_DEBUG n.val = false →
    s.pst n.val = pairService →
    (s.pairU n.val).faulted = false →
    (s.pairsIn pairSpare).head? = some k.val →
    ∃ t, exec (.testWindowOpen n) s = .next t ∧
      t.pst n.val = pairTest ∧
      (t.pairU n.val).afterTest = pairSpare ∧
      t.pst k.val = pairService ∧
      (∀ b : Block, s.on BLK_BLKCTL_OWNED b.val = true → s.get BLK_BLKCTL_OWNER b.val = n.val → t.get BLK_BLKCTL_OWNER b.val = k.val)) ∧
  (∀ (s : State) (n : Pair),
    s.windowDue n.val = true →
    s.on DR_PSTATE_DEBUG n.val = false →
    s.pst n.val = pairService →
    (s.pairU n.val).faulted = false →
    s.pairsIn pairSpare = [] →
    ∃ t, exec (.testWindowOpen n) s = .next t ∧
      t.pst n.val = pairService ∧
      (t.pairU n.val).inPlace = true) ∧
  (∀ (s : State) (n : Pair),
    (s.windowDue n.val = false ∨ s.on DR_PSTATE_DEBUG n.val = true ∨ (s.pst n.val = pairFailed ∧ (s.pairU n.val).stuck = true)) →
    ∃ t, exec (.testWindowOpen n) s = .next t ∧
      t = s) ∧
  (∀ (s : State) (m : Master) (n : Pair) (j : Fin 4) (v : Word),
    s.busOpen m = true →
    s.lockstep m = true →
    ((s.pst n.val ≠ pairStart ∧ s.pst n.val ≠ pairTest) ∨ s.regionOk n.val j.val v = false) →
    ∃ t, exec (.ownrgnWrite m n j v) s = .next t ∧
      t.rdw .DR_OWNRGN n.val j.val = s.rdw .DR_OWNRGN n.val j.val ∧
      (changes (s.rdw .DR_OWNRGN n.val j.val) v (BitVec.ofNat 32 RegId.DR_OWNRGN.reg.rw) = true → t.on DR_PCTL_MODE_DENIED n.val = true)) ∧
  (∀ (s : State) (m : Master) (n : Pair) (j : Fin 4) (v : Word),
    s.busOpen m = true →
    s.lockstep m = true →
    (s.pst n.val = pairStart ∨ s.pst n.val = pairTest) →
    s.regionOk n.val j.val v = true →
    ∃ t, exec (.ownrgnWrite m n j v) s = .next t ∧
      t.rdw .DR_OWNRGN n.val j.val = RegId.DR_OWNRGN.written (s.rdw .DR_OWNRGN n.val j.val) v) ∧
  (∀ (s : State) (m : Master) (n : Pair) (v : Word),
    s.busOpen m = true →
    s.lockstep m = true →
    ∃ t, exec (.clrmax m n v) s = .next t ∧
      t.get DR_PLOG_LOGMAX n.val = 0 ∧
      t.get DR_PLOG_JNLMAX n.val = 0) ∧
  (∀ (s : State) (n : Pair) (k : Fin 2),
    s.isSplit n.val = true →
    ((s.pairU n.val).core k.val).stopped = false →
    ∃ t, exec (.splitCoreUncorrectableTcm n k) s = .next t ∧
      ((t.pairU n.val).core k.val).stopped = true ∧
      t.on DR_PSTATE_HALTED n.val = true ∧
      t.plan.haltedCrews.head? = some (s.crewOf n.val k.val)) ∧
  (∀ (s : State) (g : Fin 64) (a b : Vector Bool 3),
    s.on GP_GPIOCFG_DUAL g.val = true →
    a[0] = b[0] →
    ∃ t, exec (.dualSampleResample g a b) s = .next t ∧
      bit (t.rdw .GP_GPIOIN (g.val / 32)) (g.val % 32) = a[0] ∧
      t.now = s.now + 1) ∧
  (∀ (s : State) (g : Fin 64) (a b : Vector Bool 3),
    s.on GP_GPIOCFG_DUAL g.val = true →
    (∀ k : Fin 3, a[k] ≠ b[k]) →
    s.routed 577 = true →
    ∃ t, exec (.dualSampleResample g a b) s = .next t ∧
      bit (t.rdw .GP_GPIOIN (g.val / 32)) (g.val % 32) = false ∧
      t.raised 577 = true)

/-- The Foreman takes its demands and tests its outputs. Each in its time, with VAUX: a monitor sample joins the monitors' last 64 and shows the
nodes, and a used output that is off while its node reads on fails. A guarded window that reads of its pin show crossed for its time demands what its
entry names: inhibits of groups, SF1, or brakes, with FCAUSE.CANARY; one not guarded or not crossed so long demands nothing. Straps that differ from
SEALREF set SEAL_PENDING and demand SF1 and every group; equal ones change no latch. At T_DROP a mirror contact of a used output that still disagrees
sets MIR_FAIL and demands SF1; one that agrees or is not used changes nothing. At its time in the second an output that is on goes off for 300 µs, and
on again unless a demand came; a node that does not follow sets OUT_FAIL and its bit, and demands SF1 or its brake; an output that is off has no
off-pulse. A passed self-test and clocks within 1 % change no latch and no supply state; a failed one, or clocks that differ by more, take every
demand, no reset being in progress, and end in a cold reset of the control die with cause 6. (R312, R313, R315, R319, R320, R322, R325) -/
def Obligations.ForemanDemands : Prop :=
  (∀ (s : State) (a b c : BitVec 12) (f : Fin 65536) (d : BitVec 5) (krb brb : BitVec 2) (at_ : Nat),
    s.deadline .fmSample = some at_ →
    s.supply.vaux = true →
    ∃ t, exec (.monitorSample a b c f d krb brb true) s = .next t ∧
      t.now = max s.now at_ ∧
      t.deadline .fmSample = some (sampleAfter at_) ∧
      t.fm.va = (a.toInt :: s.fm.va).take 64 ∧
      t.fm.vb = (b.toInt :: s.fm.vb).take 64 ∧
      t.fm.vc = (c.toInt :: s.fm.vc).take 64 ∧
      t.get FM_FOUT_NODE = d.toNat ∧
      (∀ k : Fin 5, s.outUsed k.val = true → s.outOn k.val = false → d.getLsbD k.val = true → t.bitOf FM_FOUT_OUTFAILMAP k.val = true ∧ t.on FM_FSTAT_OUT_FAIL = true)) ∧
  (∀ (s : State) (w : WinRead) (f : Fin 3) (k : Nat),
    k = w.win.val →
    (s.winReads k w.pins).fgCrossed k f = true →
    s.guarded k = true →
    ((f.val = 0 ∧ bits (s.winParam k 2) 16 8 ≠ 0) ∨ (f.val = 1 ∧ bit (s.winParam k 2) 1 = true) ∨ (f.val = 2 ∧ bits (s.winParam k 2) 2 2 ≠ 0)) →
    ∃ t, exec (.foremanWindowDemand w f) s = .next t ∧
      (f.val = 0 → ∀ g : Block, bit (s.winParam k 2) (16 + g.val) = true → t.bitOf FM_FSTAT_SF2INH g.val = true) ∧
      (f.val = 1 → t.on FM_FSTAT_SF1OPEN = true) ∧
      (f.val = 2 → ∀ n : Fin 2, bit (s.winParam k 2) (2 + n.val) = true → t.bitOf FM_FSTAT_SF3DEM n.val = true) ∧
      t.on FM_FCAUSE_CANARY = true) ∧
  (∀ (s : State) (w : WinRead) (f : Fin 3) (k : Nat),
    k = w.win.val →
    (s.guarded k = false ∨ (s.winReads k w.pins).fgCrossed k f = false) →
    ∃ t, exec (.foremanWindowDemand w f) s = .next t ∧
      t.rdw .FM_FSTAT = s.rdw .FM_FSTAT ∧
      t.rdw .FM_FCAUSE = s.rdw .FM_FCAUSE) ∧
  (∀ (s : State) (k : Fin 2) (c : Bool) (d : Nat),
    s.deadline (.mirror k.val) = some d →
    (s.outUsed k.val = false ∨ c = s.outOn k.val) →
    ∃ t, exec (.mirFail k c) s = .next t ∧
      t.rdw .FM_FSTAT = s.rdw .FM_FSTAT ∧
      t.now = max s.now d) ∧
  (∀ (s : State) (k : Fin 5) (b : Bool),
    (s.outOn k.val = false ∨ s.armed (.offPulse k.val) = true) →
    ∃ t, exec (.offPulseStart k b) s = .next t ∧
      t = s) ∧
  (∀ (s : State) (v : BitVec 12) (d : Nat),
    s.deadline .fmSeal = some d →
    s.supply.vaux = true →
    v.toNat ≠ s.get FM_SEAL_SEALREF →
    ∃ t, exec (.sealRead v) s = .next t ∧
      t.now = max s.now d ∧
      t.deadline .fmSeal = some (d + 10 * ms) ∧
      t.get FM_SEAL_SEALIN = v.toNat ∧
      t.on FM_FSTAT_SEAL_PENDING = true ∧
      t.on FM_FCAUSE_SEAL_CHANGED = true ∧
      t.on FM_FSTAT_SF1OPEN = true ∧
      t.get FM_FSTAT_SF2INH = 255 ∧
      (t.fm.drive[0] = false ∧ t.fm.drive[1] = false ∧ t.fm.drive[2] = false)) ∧
  (∀ (s : State) (v : BitVec 12) (d : Nat),
    s.deadline .fmSeal = some d →
    s.supply.vaux = true →
    v.toNat = s.get FM_SEAL_SEALREF →
    ∃ t, exec (.sealRead v) s = .next t ∧
      t.now = max s.now d ∧
      t.get FM_SEAL_SEALIN = v.toNat ∧
      t.rdw .FM_FSTAT = s.rdw .FM_FSTAT) ∧
  (∀ (s : State) (k : Fin 2) (c : Bool) (d : Nat),
    s.deadline (.mirror k.val) = some d →
    s.outUsed k.val = true →
    c ≠ s.outOn k.val →
    ∃ t, exec (.mirFail k c) s = .next t ∧
      t.on FM_FSTAT_MIR_FAIL = true ∧
      t.on FM_FSTAT_SF1OPEN = true ∧
      t.bitOf FM_FOUT_KRB k.val = c ∧
      t.now = max s.now d) ∧
  (∀ (s : State) (k : Fin 5),
    s.outOn k.val = true →
    s.armed (.offPulse k.val) = false →
    ∃ t, exec (.offPulseStart k true) s = .next t ∧
      t.fm.pulse[k] = true ∧
      t.fm.drive[k] = false ∧
      t.now = pulseDue k.val s.now ∧
      t.deadline (.offPulse k.val) = some (t.now + 300 * us) ∧
      t.bitOf FM_FOUT_NODE k.val = false) ∧
  (∀ (s : State) (k : Fin 5),
    s.outOn k.val = true →
    s.armed (.offPulse k.val) = false →
    ∃ t, exec (.offPulseStart k false) s = .next t ∧
      t.on FM_FSTAT_OUT_FAIL = true ∧
      t.bitOf FM_FOUT_OUTFAILMAP k.val = true ∧
      (k.val < 3 → t.on FM_FSTAT_SF1OPEN = true) ∧
      (3 ≤ k.val → t.bitOf FM_FSTAT_SF3DEM (k.val - 3) = true)) ∧
  (∀ (s : State) (k : Fin 5) (on : Bool) (d : Nat),
    s.deadline (.offPulse k.val) = some d →
    on = s.outOn k.val →
    ∃ t, exec (.offPulseEnd k on) s = .next t ∧
      t.fm.pulse[k] = false ∧
      t.fm.drive[k] = on ∧
      t.bitOf FM_FOUT_NODE k.val = on ∧
      t.now = max s.now d) ∧
  (∀ (s : State) (k : Fin 5) (on : Bool) (d : Nat),
    s.deadline (.offPulse k.val) = some d →
    on ≠ s.outOn k.val →
    ∃ t, exec (.offPulseEnd k on) s = .next t ∧
      t.on FM_FSTAT_OUT_FAIL = true ∧
      t.bitOf FM_FOUT_OUTFAILMAP k.val = true) ∧
  (∀ (s : State) (d : Nat),
    s.deadline .fmTest = some d →
    s.supply.vaux = true →
    ∃ t, exec (.foremanSelfTest true true true) s = .next t ∧
      t.now = max s.now d ∧
      t.deadline .fmTest = some (d + 10 * ms) ∧
      t.rdw .FM_FSTAT = s.rdw .FM_FSTAT ∧
      t.supply = s.supply) ∧
  (∀ (s : State) (a b c : Bool) (d : Nat),
    s.deadline .fmTest = some d →
    s.supply.vaux = true →
    (a && b && c) = false →
    s.resetting = false →
    ∃ t, exec (.foremanSelfTest a b c) s = .next t ∧
      t.on FM_FSTAT_FST_FAIL = true ∧
      t.on FM_FSTAT_SF1OPEN = true ∧
      t.get FM_FSTAT_SF2INH = 255 ∧
      t.get FM_FSTAT_SF3DEM = 3 ∧
      t.get RS_RSTSTAT_LASTCAUSE = 6 ∧
      t.get RS_RSTSTAT_LASTSCOPE = scopeControl ∧
      t.supply.step = 2) ∧
  (∀ (s : State) (a b c : Nat) (d : Nat),
    s.deadline .fmClock = some d →
    s.supply.vaux = true →
    clocksDiffer a b = false →
    clocksDiffer a c = false →
    clocksDiffer b c = false →
    ∃ t, exec (.clockCheck a b c) s = .next t ∧
      t.rdw .FM_FSTAT = s.rdw .FM_FSTAT ∧
      t.supply = s.supply ∧
      t.now = max s.now d) ∧
  (∀ (s : State) (a b c : Nat) (d : Nat),
    s.deadline .fmClock = some d →
    s.supply.vaux = true →
    (clocksDiffer a b = true ∨ clocksDiffer a c = true ∨ clocksDiffer b c = true) →
    s.resetting = false →
    ∃ t, exec (.clockCheck a b c) s = .next t ∧
      t.on FM_FSTAT_FST_FAIL = true ∧
      t.on FM_FSTAT_SF1OPEN = true ∧
      t.get FM_FSTAT_SF2INH = 255 ∧
      t.get FM_FSTAT_SF3DEM = 3 ∧
      t.get RS_RSTSTAT_LASTCAUSE = 6 ∧
      t.get RS_RSTSTAT_LASTSCOPE = scopeControl ∧
      t.supply.step = 2)

/-- The safety pair enables, commands and clears; brakes are tested. From the safety pair in lock-step: an FSAFEN word whose halves are complements
sets the enables for 10 ms; another, or 10 ms without one, clears every enable, with FCAUSE and source 969. FCMD is stored and switches an enabled,
used, unlatched output on, and off where its bit is 0; one that sets KA, KB or DCD under an open port or RESTRICTED is refused. FCLR clears every
latch with no active source that was not demanded in this sample, sets CLEAR_DENIED if one stays, and clears MIR_FAIL when the contacts agree. BTEST
starts the test of a used brake that is off, enabled and has no SF3 latch; else BT_DENIED. Another master sets WRITE_DENIED and changes nothing of
these. 50 ms after its release a tested brake has T_ENG to engage; engaging passes the test; a time that passes sets BT_FAIL and demands the brake.
The hours since a pass count up to BTMAX, which sets BT_DUE for a used brake. An accepted parameter block takes effect in the tick of a frame boundary
with every block STOPPED and every SF1 output off, and waits otherwise. (R311, R317, R318, R321, R324) -/
def Obligations.ForemanObeysItsSafetyPair : Prop :=
  (∀ (s : State) (n : Pair) (v : Word),
    s.busOpen (.pair n) = true →
    s.lockstep (.pair n) = true →
    s.get FM_FSTAT_SAFEPAIR_ACT = n.val →
    v >>> 16 = ~~~v &&& 0xFFFF →
    ∃ t, exec (.fsafenWrite (.pair n) v) s = .next t ∧
      t.rdw .FM_FSAFEN = RegId.FM_FSAFEN.written (s.rdw .FM_FSAFEN) v ∧
      t.deadline .safen = some (s.now + 10 * ms)) ∧
  (∀ (s : State) (n : Pair) (v : Word),
    s.busOpen (.pair n) = true →
    s.lockstep (.pair n) = true →
    s.get FM_FSTAT_SAFEPAIR_ACT = n.val →
    v >>> 16 ≠ ~~~v &&& 0xFFFF →
    s.routed 969 = true →
    ∃ t, exec (.fsafenWrite (.pair n) v) s = .next t ∧
      t.get FM_FSAFEN_PR = 0 ∧
      t.on FM_FSAFEN_SF1 = false ∧
      t.get FM_FSAFEN_BRK = 0 ∧
      t.raised 969 = true ∧
      t.on FM_FCAUSE_SAFEN_DENIED = true) ∧
  (∀ (s : State) (d : Nat),
    s.deadline .safen = some d →
    s.routed 969 = true →
    ∃ t, exec .safenExpired s = .next t ∧
      t.get FM_FSAFEN_PR = 0 ∧
      t.on FM_FSAFEN_SF1 = false ∧
      t.get FM_FSAFEN_BRK = 0 ∧
      t.raised 969 = true ∧
      t.on FM_FCAUSE_SAFEN_EXPIRED = true ∧
      t.now = max s.now d) ∧
  (∀ (s : State) (n : Pair) (v : Word),
    s.busOpen (.pair n) = true →
    s.lockstep (.pair n) = true →
    s.get FM_FSTAT_SAFEPAIR_ACT = n.val →
    ((s.on BK_ADITSTAT_OPEN = false ∧ s.on BK_BKSTAT_RESTRICTED = false) ∨ v &&& 7 = 0) →
    ∃ t, exec (.fcmdWrite (.pair n) v) s = .next t ∧
      t.rdw .FM_FCMD = RegId.FM_FCMD.written (s.rdw .FM_FCMD) v ∧
      (∀ k : Fin 5, bit v k.val = true → s.outUsed k.val = true → s.lc ≠ lcScrap → s.supply.vaux = true → s.dieRuns = true → s.outEnable k.val = true → s.outLatch k.val = false → s.fm.pulse[k] = false → t.fm.drive[k] = true) ∧
      (∀ k : Fin 3, bit v k.val = false → t.outOn k.val = false)) ∧
  (∀ (s : State) (n : Pair) (v : Word),
    s.busOpen (.pair n) = true →
    s.lockstep (.pair n) = true →
    s.get FM_FSTAT_SAFEPAIR_ACT = n.val →
    (s.on BK_ADITSTAT_OPEN = true ∨ s.on BK_BKSTAT_RESTRICTED = true) →
    v &&& 7 ≠ 0 →
    ∃ t, exec (.fcmdWrite (.pair n) v) s = .next t ∧
      t.rdw .FM_FCMD = s.rdw .FM_FCMD ∧
      t.on FM_FCAUSE_CMD_DENIED = true) ∧
  (∀ (s : State) (n : Pair) (v : Word),
    s.busOpen (.pair n) = true →
    s.lockstep (.pair n) = true →
    s.get FM_FSTAT_SAFEPAIR_ACT = n.val →
    s.on FM_FSTAT_MIR_FAIL = true →
    ∃ t, exec (.fclr (.pair n) v) s = .next t ∧
      t.on FM_FSTAT_MIR_FAIL = !s.mirrorsAgree ∧
      (s.mirrorsAgree = false → t.on FM_FSTAT_SF1OPEN = s.on FM_FSTAT_SF1OPEN)) ∧
  (∀ (s : State) (n : Pair) (v : Word),
    s.busOpen (.pair n) = true →
    s.lockstep (.pair n) = true →
    s.get FM_FSTAT_SAFEPAIR_ACT = n.val →
    s.on FM_FSTAT_MIR_FAIL = false →
    ∃ t, exec (.fclr (.pair n) v) s = .next t ∧
      t.on FM_FSTAT_SF1OPEN = (s.on FM_FSTAT_SF1OPEN && (s.sf1Source || s.demandNow 0)) ∧
      (∀ g : Block, t.bitOf FM_FSTAT_SF2INH g.val = (s.bitOf FM_FSTAT_SF2INH g.val && (s.sf2Source g.val || s.demandNow (1 + g.val)))) ∧
      (∀ k : Fin 2, t.bitOf FM_FSTAT_SF3DEM k.val = (s.bitOf FM_FSTAT_SF3DEM k.val && (s.sf3Source k.val || s.demandNow (9 + k.val)))) ∧
      (t.anyLatch = true → t.on FM_FCAUSE_CLEAR_DENIED = true)) ∧
  (∀ (s : State) (n : Pair) (k : Fin 2) (v : Word),
    s.busOpen (.pair n) = true →
    s.lockstep (.pair n) = true →
    s.get FM_FSTAT_SAFEPAIR_ACT = n.val →
    s.brakeMayTest k.val = true →
    ∃ t, exec (.btestReq (.pair n) k v) s = .next t ∧
      t.bitOf FM_BTEST_BUSY k.val = true ∧
      t.bitOf FM_BTEST_PASS k.val = false ∧
      t.deadline (.brakeRelease k.val) = some (s.now + s.fmParam 0x50 2 * ms)) ∧
  (∀ (s : State) (n : Pair) (k : Fin 2) (v : Word),
    s.busOpen (.pair n) = true →
    s.lockstep (.pair n) = true →
    s.get FM_FSTAT_SAFEPAIR_ACT = n.val →
    s.brakeMayTest k.val = false →
    ∃ t, exec (.btestReq (.pair n) k v) s = .next t ∧
      t.on FM_FCAUSE_BT_DENIED = true ∧
      t.bitOf FM_BTEST_BUSY k.val = s.bitOf FM_BTEST_BUSY k.val) ∧
  (∀ (s : State) (m : Master) (n : Pair) (v : Word),
    s.busOpen m = true →
    (s.lockstep m = false ∨ m ≠ .pair n) →
    n.val = s.get FM_FSTAT_SAFEPAIR_ACT →
    ∃ t, exec (.fsafenWrite m v) s = .next t ∧
      t.on FM_FCAUSE_WRITE_DENIED = true ∧
      t.rdw .FM_FSAFEN = s.rdw .FM_FSAFEN ∧
      t.rdw .FM_FCMD = s.rdw .FM_FCMD ∧
      t.rdw .FM_FSTAT = s.rdw .FM_FSTAT ∧
      t.rdw .FM_BTEST = s.rdw .FM_BTEST) ∧
  (∀ (s : State) (m : Master) (n : Pair) (v : Word),
    s.busOpen m = true →
    (s.lockstep m = false ∨ m ≠ .pair n) →
    n.val = s.get FM_FSTAT_SAFEPAIR_ACT →
    ∃ t, exec (.fcmdWrite m v) s = .next t ∧
      t.on FM_FCAUSE_WRITE_DENIED = true ∧
      t.rdw .FM_FSAFEN = s.rdw .FM_FSAFEN ∧
      t.rdw .FM_FCMD = s.rdw .FM_FCMD ∧
      t.rdw .FM_FSTAT = s.rdw .FM_FSTAT ∧
      t.rdw .FM_BTEST = s.rdw .FM_BTEST) ∧
  (∀ (s : State) (m : Master) (n : Pair) (v : Word),
    s.busOpen m = true →
    (s.lockstep m = false ∨ m ≠ .pair n) →
    n.val = s.get FM_FSTAT_SAFEPAIR_ACT →
    ∃ t, exec (.fclr m v) s = .next t ∧
      t.on FM_FCAUSE_WRITE_DENIED = true ∧
      t.rdw .FM_FSAFEN = s.rdw .FM_FSAFEN ∧
      t.rdw .FM_FCMD = s.rdw .FM_FCMD ∧
      t.rdw .FM_FSTAT = s.rdw .FM_FSTAT ∧
      t.rdw .FM_BTEST = s.rdw .FM_BTEST) ∧
  (∀ (s : State) (m : Master) (n : Pair) (k : Fin 2) (v : Word),
    s.busOpen m = true →
    (s.lockstep m = false ∨ m ≠ .pair n) →
    n.val = s.get FM_FSTAT_SAFEPAIR_ACT →
    ∃ t, exec (.btestReq m k v) s = .next t ∧
      t.on FM_FCAUSE_WRITE_DENIED = true ∧
      t.rdw .FM_FSAFEN = s.rdw .FM_FSAFEN ∧
      t.rdw .FM_FCMD = s.rdw .FM_FCMD ∧
      t.rdw .FM_FSTAT = s.rdw .FM_FSTAT ∧
      t.rdw .FM_BTEST = s.rdw .FM_BTEST) ∧
  (∀ (s : State) (n : Fin 2) (d : Nat),
    s.deadline (.brakeHold n.val) = some d →
    ∃ t, exec (.brakeTestReengage n) s = .next t ∧
      t.deadline (.brakeEngage n.val) = some (max s.now d + s.fmParam 0x52 2 * ms) ∧
      t.armed (.brakeHold n.val) = false ∧
      t.now = max s.now d) ∧
  (∀ (s : State) (n : Fin 2),
    s.bitOf FM_BTEST_BUSY n.val = true →
    s.armed (.brakeEngage n.val) = true →
    ∃ t, exec (.brakeTestPass n) s = .next t ∧
      t.bitOf FM_BTEST_PASS n.val = true ∧
      t.bitOf FM_BTEST_BUSY n.val = false ∧
      t.get (btAge n.val) = 0 ∧
      t.armed (.brakeEngage n.val) = false) ∧
  (∀ (s : State) (n : Fin 2) (d : Nat),
    (s.deadline (.brakeRelease n.val) = some d ∨ (s.armed (.brakeRelease n.val) = false ∧ s.deadline (.brakeEngage n.val) = some d)) →
    ∃ t, exec (.btFail n) s = .next t ∧
      t.on FM_FCAUSE_BT_FAIL = true ∧
      t.bitOf FM_FSTAT_SF3DEM n.val = true ∧
      t.bitOf FM_BTEST_BUSY n.val = false ∧
      t.now = max s.now d) ∧
  (∀ (s : State) (n : Fin 2) (h : Nat) (d : Nat),
    s.deadline (.brakeHour n.val) = some d →
    ∃ t, exec (.btDue n h) s = .next t ∧
      t.fm.hours[n] = s.fm.hours[n] + 1 + h ∧
      t.get (btAge n.val) = min (s.fm.hours[n] + 1 + h) 255 ∧
      t.now = max s.now d + h * (3600000 * ms) ∧
      t.deadline (.brakeHour n.val) = some (t.now + 3600000 * ms) ∧
      (s.fm.param.isSome = true → s.outUsed (3 + n.val) = true → s.fmParam 0x54 4 ≤ s.fm.hours[n] + 1 + h → t.on FM_FSTAT_BT_DUE = true)) ∧
  (∀ (s : State),
    (s.fm.next = none ∨ s.plan.madeAt ≠ some s.now ∨ s.paramMayAct = false) →
    ∃ t, exec .foremanParamTakeEffect s = .next t ∧
      t = s) ∧
  (∀ (s : State) (b : List Byte),
    s.fm.next = some b →
    s.plan.madeAt = some s.now →
    s.paramMayAct = true →
    s.routed 971 = true →
    ∃ t, exec .foremanParamTakeEffect s = .next t ∧
      t.fm.param = some b ∧
      t.fm.next = none ∧
      t.on FM_FSTAT_PARAM_PENDING = false ∧
      t.on FM_FSTAT_NOPARAM = false ∧
      t.get FM_FSTAT_SAFEPAIR_ACT = leNat ((b.drop 0x58).take 4) % 16 ∧
      t.raised 971 = true)

/-- Tamper events are logged, close the port and reset the control die. Each mesh check, due every 100 µs in RUN and NIGHT and every 250 ms else,
compares TMESH_I with the bit TMESH_O drives and moves the sequence on: equal, it clears the fails; else it adds one, and fewer than three in a row,
or more once a breach stands, do no more. The third with the control die powered is a breach: TAMPERED and ZEROISING are set, the zeroisation begins,
the Adit port closes and an entry is logged; in PARK with a LOG grant and no wake it is latched and logged instead. A Lamp domain without power checks
nothing. In RUN and NIGHT, no reset in progress, a voltage, clock or powered temperature event closes the port, drops the operation in progress, is
counted, logged under its cause and shown in TAMPSTAT, asks for acknowledgement at the ninth within 24 hours and is followed by a control-die cold
reset with cause 7; outside RUN and NIGHT voltage and clock events do nothing. A Lamp temperature event in LAMP-ONLY with a LOG grant is latched as a
breach and logged; without power in the Lamp domain it does nothing. A completed zeroisation empties slots 1 and 4 to 63, the engines and the reload
store, ends ZEROISING and the breach, keeps the other slots and, outside start-up with no reset in progress, is followed by that reset; with none in
progress it does nothing. A disagreement of the Banksman's lock-step cores, no reset in progress, is followed by a control-die cold reset with cause
5, counted in RSTTOT. (R349, R350, R351, R352, R410) -/
def Obligations.TamperEventsAct : Prop :=
  (∀ (s : State) (level : Bool) (d : Nat),
    s.deadline .mesh = some d →
    s.lamp.powered = true →
    ((level == s.bank.mesh.getLsbD 0) = true ∨ s.bank.meshFails < 2 ∨ s.lamp.breach = true) →
    ∃ t, exec (.meshCheck level) s = .next t ∧
      (t.bank.meshFails = if level == s.bank.mesh.getLsbD 0 then 0 else s.bank.meshFails + 1) ∧
      t.lamp.breach = s.lamp.breach ∧
      t.bank.tampered = s.bank.tampered ∧
      t.lamp.entries = s.lamp.entries ∧
      t.bank.mesh = Config.meshNext s.bank.mesh ∧
      t.now = max s.now d ∧
      (t.deadline .mesh = some (d + (if s.supply.place = 0 then 25000 else 250 * ms)))) ∧
  (∀ (s : State) (level : Bool) (d : Nat),
    s.deadline .mesh = some d →
    s.lamp.powered = true →
    level ≠ s.bank.mesh.getLsbD 0 →
    2 ≤ s.bank.meshFails →
    s.lamp.breach = false →
    s.supply.place = 0 →
    ∃ t, exec (.meshCheck level) s = .next t ∧
      t.bank.tampered = true ∧
      t.bank.zeroising = true ∧
      t.bank.zeroise = true ∧
      t.lamp.breach = true ∧
      t.bank.adit = none ∧
      t.on BK_BKSTAT_TAMPERED = true ∧
      t.on BK_BKSTAT_ZEROISING = true ∧
      t.on BK_TAMPSTAT_MESH = true ∧
      t.lamp.entries = s.lamp.entries + 1 ∧
      t.lamp.log.head?.map (fun e => e.cause) = some tmMesh ∧
      t.bank.mesh = Config.meshNext s.bank.mesh ∧
      t.now = max s.now d ∧
      (t.deadline .mesh = some (d + (if s.supply.place = 0 then 25000 else 250 * ms)))) ∧
  (∀ (s : State) (level : Bool) (d : Nat),
    s.deadline .mesh = some d →
    s.lamp.powered = true →
    level ≠ s.bank.mesh.getLsbD 0 →
    2 ≤ s.bank.meshFails →
    s.lamp.breach = false →
    s.supply.place = 1 →
    s.supply.vaux = false →
    ∃ t, exec (.meshCheck level) s = .next t ∧
      t.lamp.breach = true ∧
      t.lamp.meshBreach = true ∧
      t.bank.tampered = s.bank.tampered ∧
      t.lamp.entries = s.lamp.entries + 1 ∧
      t.lamp.log.head?.map (fun e => e.cause) = some tmMesh ∧
      t.bank.mesh = Config.meshNext s.bank.mesh ∧
      t.now = max s.now d ∧
      (t.deadline .mesh = some (d + (if s.supply.place = 0 then 25000 else 250 * ms)))) ∧
  (∀ (s : State) (level : Bool) (d : Nat),
    s.deadline .mesh = some d →
    s.lamp.powered = false →
    ∃ t, exec (.meshCheck level) s = .next t ∧
      t.bank.mesh = s.bank.mesh ∧
      t.bank.meshFails = s.bank.meshFails ∧
      t.lamp.breach = s.lamp.breach) ∧
  (∀ (s : State),
    s.supply.place = 0 →
    s.resetting = false →
    ∃ t, exec .voltageGlitch s = .next t ∧
      t.bank.adit = none ∧
      t.bank.running = none ∧
      t.lamp.glitches = s.lamp.glitches + 1 ∧
      t.lamp.entries = s.lamp.entries + 1 ∧
      (8 ≤ (s.lamp.glitchAt.filter (fun e => decide (s.rtcNow < e + dayCounts))).length → t.lamp.ackNeeded = true) ∧
      t.get RS_RSTSTAT_LASTCAUSE = 7 ∧
      t.get RS_RSTSTAT_LASTSCOPE = scopeControl ∧
      t.supply.step = 2 ∧
      t.on BK_TAMPSTAT_VGLITCH = true ∧
      t.lamp.log.head?.map (fun e => e.cause) = some tmVolt) ∧
  (∀ (s : State),
    s.supply.place = 0 →
    s.resetting = false →
    ∃ t, exec .clockGlitch s = .next t ∧
      t.bank.adit = none ∧
      t.bank.running = none ∧
      t.lamp.glitches = s.lamp.glitches + 1 ∧
      t.lamp.entries = s.lamp.entries + 1 ∧
      (8 ≤ (s.lamp.glitchAt.filter (fun e => decide (s.rtcNow < e + dayCounts))).length → t.lamp.ackNeeded = true) ∧
      t.get RS_RSTSTAT_LASTCAUSE = 7 ∧
      t.get RS_RSTSTAT_LASTSCOPE = scopeControl ∧
      t.supply.step = 2 ∧
      t.on BK_TAMPSTAT_CGLITCH = true ∧
      t.lamp.log.head?.map (fun e => e.cause) = some tmClock) ∧
  (∀ (s : State),
    s.supply.place = 0 →
    s.resetting = false →
    ∃ t, exec .temperatureEvent s = .next t ∧
      t.bank.adit = none ∧
      t.bank.running = none ∧
      t.lamp.glitches = s.lamp.glitches + 1 ∧
      t.lamp.entries = s.lamp.entries + 1 ∧
      (8 ≤ (s.lamp.glitchAt.filter (fun e => decide (s.rtcNow < e + dayCounts))).length → t.lamp.ackNeeded = true) ∧
      t.get RS_RSTSTAT_LASTCAUSE = 7 ∧
      t.get RS_RSTSTAT_LASTSCOPE = scopeControl ∧
      t.supply.step = 2 ∧
      t.on BK_TAMPSTAT_TEMP = true ∧
      t.lamp.log.head?.map (fun e => e.cause) = some tmTemp) ∧
  (∀ (s : State),
    s.supply.place ≠ 0 →
    ∃ t, exec .voltageGlitch s = .next t ∧
      t = s) ∧
  (∀ (s : State),
    s.supply.place ≠ 0 →
    ∃ t, exec .clockGlitch s = .next t ∧
      t = s) ∧
  (∀ (s : State),
    s.supply.place = 2 →
    s.lamp.powered = true →
    s.grantable clsLog = true →
    ∃ t, exec .temperatureEvent s = .next t ∧
      t.lamp.breach = true ∧
      t.lamp.meshBreach = s.lamp.meshBreach ∧
      t.bank.tampered = s.bank.tampered) ∧
  (∀ (s : State),
    s.supply.place = 2 →
    s.lamp.powered = false →
    ∃ t, exec .temperatureEvent s = .next t ∧
      t = s) ∧
  (∀ (s : State),
    s.bank.zeroise = true →
    (s.supply.step = 4 ∨ s.resetting = false) →
    ∃ t, exec .zeroisationComplete s = .next t ∧
      (∀ k : Fin 64, t.bank.slots[k] = if k.val = 1 ∨ 4 ≤ k.val then none else s.bank.slots[k]) ∧
      (∀ e : Fin 96, t.pick.engs[e] = EngU.reset) ∧
      t.pick.set = [] ∧
      t.bank.zeroise = false ∧
      t.bank.zeroising = false ∧
      t.lamp.breach = false ∧
      (s.supply.step ≠ 4 → t.get RS_RSTSTAT_LASTCAUSE = 7 ∧ t.get RS_RSTSTAT_LASTSCOPE = scopeControl)) ∧
  (∀ (s : State),
    s.bank.zeroise = false →
    ∃ t, exec .zeroisationComplete s = .next t ∧
      t = s) ∧
  (∀ (s : State),
    s.resetting = false →
    ∃ t, exec .banksmanLockstepFault s = .next t ∧
      t.get RS_RSTSTAT_LASTCAUSE = 5 ∧
      t.get RS_RSTSTAT_LASTSCOPE = scopeControl ∧
      t.supply.step = 2 ∧
      t.get RS_RSTTOT_TOTAL = min (s.get RS_RSTTOT_TOTAL + 1) (2 ^ RS_RSTTOT_TOTAL.width - 1))

/-- Fuses, the return entry, production and secure boot. With no fuse group pending, or while the return entry runs, programming changes nothing. A
pending group other than RETURN is programmed: the state becomes the one the fuses then decode to and never goes back, INTEGRATE empties slots 48 to
63, SCRAP from RETURN every slot but 2 and 3, and a full cold reset follows. RETURN's group sets ZEROISING and begins the return entry with no reset.
A completed return entry empties slots 4 to 7 and 12 to 47 and keeps the others, drops every image, group and revocation, the engines and the option
block, clears ZEROISING and is followed by a full cold reset unless SCRAP is to be programmed; with no entry running it does nothing. The production
test of a BLANK module with no fuse programmed writes MAKER, the keys of slots 0 to 3, the test keys of slots 48 to 63, both option copies with their
defaults and the device identifier from slot 0's public key; in any other state it does nothing. Secure boot, once the option block is loaded and no
tamper or return work holds it, restores the counters to their marks after a Lamp loss; with a passing Banksman image it completes step 5, in
RESTRICTED after a tamper, an unacknowledged ninth glitch or a Lamp loss; without one the module stays held with FAULT_N. At any other step, or once
it has failed, it does nothing. (R332, R333, R335, R338, R339, R347, R376) -/
def Obligations.LifeCycleAdvances : Prop :=
  (∀ (s : State),
    (s.bank.fuse = none ∨ s.bank.returnEntry = true) →
    ∃ t, exec .lcFuseProgrammed s = .next t ∧
      t = s) ∧
  (∀ (s : State) (k : Nat),
    s.bank.fuse = some k →
    s.bank.returnEntry = false →
    k ≠ lcReturn →
    ∃ t, exec .lcFuseProgrammed s = .next t ∧
      t.bank.fuses = Vector.ofFn (fun j : Fin 5 => s.bank.fuses[j] || j.val + 1 == k) ∧
      t.lc = max s.lc (decodeFuses (Vector.ofFn (fun j : Fin 5 => s.bank.fuses[j] || j.val + 1 == k))) ∧
      t.bank.fuse = none ∧
      (k = lcIntegrate → ∀ j : Fin 64, t.bank.slots[j] = if 48 ≤ j.val then none else s.bank.slots[j]) ∧
      (k = lcScrap → s.lc = lcReturn → ∀ j : Fin 64, t.bank.slots[j] = if j.val = 2 ∨ j.val = 3 then s.bank.slots[j] else none) ∧
      t.get RS_RSTSTAT_LASTSCOPE = scopeFull ∧
      t.supply.step = 1) ∧
  (∀ (s : State),
    s.bank.fuse = some lcReturn →
    s.bank.returnEntry = false →
    ∃ t, exec .lcFuseProgrammed s = .next t ∧
      t.bank.fuses = Vector.ofFn (fun j : Fin 5 => s.bank.fuses[j] || j.val + 1 == lcReturn) ∧
      t.lc = max s.lc (decodeFuses (Vector.ofFn (fun j : Fin 5 => s.bank.fuses[j] || j.val + 1 == lcReturn))) ∧
      t.bank.zeroising = true ∧
      t.on BK_BKSTAT_ZEROISING = true ∧
      t.bank.returnEntry = true ∧
      t.bank.fuse = none ∧
      t.supply = s.supply) ∧
  (∀ (s : State),
    s.bank.returnEntry = true →
    ∃ t, exec .returnEntryComplete s = .next t ∧
      t.bank.returnEntry = false ∧
      t.bank.zeroising = false ∧
      (∀ j : Fin 64, t.bank.slots[j] = if (4 ≤ j.val ∧ j.val ≤ 7) ∨ (12 ≤ j.val ∧ j.val ≤ 47) then none else s.bank.slots[j]) ∧
      (∀ j : Fin 6, t.bank.imageA[j] = none ∧ t.bank.imageB[j] = none) ∧
      t.bank.groups = [] ∧
      t.bank.revoked = [] ∧
      (∀ e : Fin 96, t.pick.engs[e] = EngU.reset) ∧
      (t.supply.optA = [] ∧ t.supply.optB = []) ∧
      (s.bank.fuse ≠ some lcScrap → t.get RS_RSTSTAT_LASTSCOPE = scopeFull ∧ t.supply.step = 1) ∧
      (s.bank.fuse = some lcScrap → t.supply.step = s.supply.step)) ∧
  (∀ (s : State),
    s.bank.returnEntry = false →
    ∃ t, exec .returnEntryComplete s = .next t ∧
      t = s) ∧
  (∀ (s : State),
    s.lc = lcBlank →
    s.bank.fuses = Vector.replicate 5 false →
    ∃ t, exec .itotonProductionTest s = .next t ∧
      t.lc = lcMaker ∧
      (∀ j : Fin 64, j.val < 4 ∨ 48 ≤ j.val → t.filled j.val = true) ∧
      (∀ j : Fin 64, 48 ≤ j.val → t.bank.slots[j] = some ⟨Config.testKey j.val, 0, 0⟩) ∧
      (∀ j : Fin 64, 4 ≤ j.val → j.val < 48 → t.bank.slots[j] = s.bank.slots[j]) ∧
      (∀ q : KeySlot, t.bank.slots[0] = some q → t.bank.devId = (hash384 (Config.publicKey 2 q.key)).take 16) ∧
      t.supply.optA = defaultOption 1 ∧
      t.supply.optB = defaultOption 2) ∧
  (∀ (s : State),
    s.lc ≠ lcBlank →
    ∃ t, exec .itotonProductionTest s = .next t ∧
      t = s) ∧
  (∀ (s : State),
    s.supply.step = 4 →
    s.supply.bootFail = false →
    s.readFuses.idShow.bootPending.1 = false →
    ∃ t, exec .secureBoot s = .next t ∧
      ((s.readFuses.idShow.bootPending.2.restoreCounters.bootType 1).bootPasses 1 = true → t.supply.step = 5 ∧ (s.bank.tampered = true ∨ s.lamp.ackNeeded = true ∨ s.lamp.lost = true → t.on BK_BKSTAT_RESTRICTED = true)) ∧
      ((s.readFuses.idShow.bootPending.2.restoreCounters.bootType 1).bootPasses 1 = false → t.supply.bootFail = true ∧ t.fm.faultN = true ∧ t.supply.step = 4) ∧
      (t.lamp.counters = if s.lamp.lost then s.bank.marks else s.lamp.counters)) ∧
  (∀ (s : State),
    (s.supply.step ≠ 4 ∨ s.supply.bootFail = true) →
    ∃ t, exec .secureBoot s = .next t ∧
      t = s)

/-- Local operations of the key store answer in their buffer; mailbox buffers are claimed, submitted and released. A submitted local operation ends
with STATUS as its REASON, DONE, not BUSY, and OUTLEN 8 + LEN: SIGN of 32 or 48 bytes, ECDH, ENCRYPT with an IV, DECRYPT with IV and tag, and HMAC
with a slot 25 to 47 whose usage allows them are OK, or INPUT for an input of another length or one that ECDH or DECRYPT cannot take; without such a
key DENIED. RANDOM gives LEN bytes, taking as many random values. COUNTER 8 to 31 returns its value, or one more with LEN 1 and byte 1 below its mark,
waits at the mark, and is DENIED for another slot. In a buffer without that OP each does nothing. A due mark is written under a FLASH grant, never
lower, at least 2^16 above its counter; refused, it waits and is repeated after 100 ms; one not due is not written. A lock-step pair's CLAIM without
GO and RELEASE takes a free buffer with its KIND. Another master's write to a claimed buffer's MBCTL sets WRITE_DENIED and does no more. The claiming
pair's GO with an INLEN of 1 to 4,608 submits an idle buffer: BUSY, an envelope at the end of the queue, a local operation of a known OP beside it;
another INLEN is denied, a BUSY buffer keeps its state. Its RELEASE frees the buffer and withdraws an envelope not started. The queue's first envelope
starts, none running and 1.0 ms after the last start, unless its SEQ passes a mark; else nothing happens. Its verdict goes out 0.9 ms later, DSEQ
below its mark or a FLASH grant open: its roles' counters take a SEQ that passed the sequence check, it is counted as accepted or refused, and its
buffer shows DONE and REASON, source 976; without the grant it waits. (R361, R362, R363, R364, R365, R366, R378, R436) -/
def Obligations.MailboxAndLocalOperationsWork : Prop :=
  (∀ (s : State) (b : Mbox) (o : LocalOp) (k : KeySlot),
    s.localOp b.val = some o →
    o.op = 1 →
    s.localKey o.slot 0 = some k →
    o.lenOk = true →
    (o.data.length = 32 ∨ o.data.length = 48) →
    ∃ t, exec (.sign b) s = .next t ∧
      t.get EX_MBSTAT_REASON b.val = stOk ∧
      t.get EX_MBLEN_OUTLEN b.val = (8 + (Config.sign k.key o.data s.freeIdx).length) % 2 ^ EX_MBLEN_OUTLEN.width ∧
      t.on EX_MBSTAT_DONE b.val = true ∧
      t.on EX_MBSTAT_BUSY b.val = false) ∧
  (∀ (s : State) (b : Mbox) (o : LocalOp) (k : KeySlot),
    s.localOp b.val = some o →
    o.op = 1 →
    s.localKey o.slot 0 = some k →
    (o.lenOk = false ∨ (o.data.length ≠ 32 ∧ o.data.length ≠ 48)) →
    ∃ t, exec (.sign b) s = .next t ∧
      t.get EX_MBSTAT_REASON b.val = stInput ∧
      t.get EX_MBLEN_OUTLEN b.val = 8 ∧
      t.on EX_MBSTAT_DONE b.val = true ∧
      t.on EX_MBSTAT_BUSY b.val = false) ∧
  (∀ (s : State) (b : Mbox) (o : LocalOp),
    s.localOp b.val = some o →
    o.op = 1 →
    s.localKey o.slot 0 = none →
    ∃ t, exec (.sign b) s = .next t ∧
      t.get EX_MBSTAT_REASON b.val = stDenied ∧
      t.get EX_MBLEN_OUTLEN b.val = 8 ∧
      t.on EX_MBSTAT_DONE b.val = true ∧
      t.on EX_MBSTAT_BUSY b.val = false) ∧
  (∀ (s : State) (b : Mbox),
    (∀ o ∈ s.localOp b.val, o.op ≠ 1) →
    ∃ t, exec (.sign b) s = .next t ∧
      t = s) ∧
  (∀ (s : State) (b : Mbox) (o : LocalOp) (k : KeySlot),
    s.localOp b.val = some o →
    o.op = 2 →
    s.localKey o.slot 1 = some k →
    o.lenOk = true →
    ∃ t, exec (.ecdh b) s = .next t ∧
      (t.get EX_MBSTAT_REASON b.val = if (Config.ecdh k.key o.data).isSome then stOk else stInput) ∧
      t.get EX_MBLEN_OUTLEN b.val = (8 + ((Config.ecdh k.key o.data).getD []).length) % 2 ^ EX_MBLEN_OUTLEN.width ∧
      t.on EX_MBSTAT_DONE b.val = true ∧
      t.on EX_MBSTAT_BUSY b.val = false) ∧
  (∀ (s : State) (b : Mbox) (o : LocalOp) (k : KeySlot),
    s.localOp b.val = some o →
    o.op = 2 →
    s.localKey o.slot 1 = some k →
    o.lenOk = false →
    ∃ t, exec (.ecdh b) s = .next t ∧
      t.get EX_MBSTAT_REASON b.val = stInput ∧
      t.get EX_MBLEN_OUTLEN b.val = 8 ∧
      t.on EX_MBSTAT_DONE b.val = true ∧
      t.on EX_MBSTAT_BUSY b.val = false) ∧
  (∀ (s : State) (b : Mbox) (o : LocalOp),
    s.localOp b.val = some o →
    o.op = 2 →
    s.localKey o.slot 1 = none →
    ∃ t, exec (.ecdh b) s = .next t ∧
      t.get EX_MBSTAT_REASON b.val = stDenied ∧
      t.get EX_MBLEN_OUTLEN b.val = 8 ∧
      t.on EX_MBSTAT_DONE b.val = true ∧
      t.on EX_MBSTAT_BUSY b.val = false) ∧
  (∀ (s : State) (b : Mbox),
    (∀ o ∈ s.localOp b.val, o.op ≠ 2) →
    ∃ t, exec (.ecdh b) s = .next t ∧
      t = s) ∧
  (∀ (s : State) (b : Mbox) (o : LocalOp) (k : KeySlot),
    s.localOp b.val = some o →
    o.op = 3 →
    s.localKey o.slot 2 = some k →
    o.lenOk = true →
    12 ≤ o.data.length →
    ∃ t, exec (.encrypt b) s = .next t ∧
      t.get EX_MBSTAT_REASON b.val = stOk ∧
      t.get EX_MBLEN_OUTLEN b.val = (8 + (Config.gcmSeal k.key (o.data.take 12) (o.data.drop 12)).length) % 2 ^ EX_MBLEN_OUTLEN.width ∧
      t.on EX_MBSTAT_DONE b.val = true ∧
      t.on EX_MBSTAT_BUSY b.val = false) ∧
  (∀ (s : State) (b : Mbox) (o : LocalOp) (k : KeySlot),
    s.localOp b.val = some o →
    o.op = 3 →
    s.localKey o.slot 2 = some k →
    (o.lenOk = false ∨ (o.data.length < 12)) →
    ∃ t, exec (.encrypt b) s = .next t ∧
      t.get EX_MBSTAT_REASON b.val = stInput ∧
      t.get EX_MBLEN_OUTLEN b.val = 8 ∧
      t.on EX_MBSTAT_DONE b.val = true ∧
      t.on EX_MBSTAT_BUSY b.val = false) ∧
  (∀ (s : State) (b : Mbox) (o : LocalOp),
    s.localOp b.val = some o →
    o.op = 3 →
    s.localKey o.slot 2 = none →
    ∃ t, exec (.encrypt b) s = .next t ∧
      t.get EX_MBSTAT_REASON b.val = stDenied ∧
      t.get EX_MBLEN_OUTLEN b.val = 8 ∧
      t.on EX_MBSTAT_DONE b.val = true ∧
      t.on EX_MBSTAT_BUSY b.val = false) ∧
  (∀ (s : State) (b : Mbox),
    (∀ o ∈ s.localOp b.val, o.op ≠ 3) →
    ∃ t, exec (.encrypt b) s = .next t ∧
      t = s) ∧
  (∀ (s : State) (b : Mbox) (o : LocalOp) (k : KeySlot),
    s.localOp b.val = some o →
    o.op = 4 →
    s.localKey o.slot 3 = some k →
    o.lenOk = true →
    28 ≤ o.data.length →
    ∃ t, exec (.decrypt b) s = .next t ∧
      (t.get EX_MBSTAT_REASON b.val = if (Config.gcmOpen k.key (o.data.take 12) (o.data.drop 12)).isSome then stOk else stInput) ∧
      t.get EX_MBLEN_OUTLEN b.val = (8 + ((Config.gcmOpen k.key (o.data.take 12) (o.data.drop 12)).getD []).length) % 2 ^ EX_MBLEN_OUTLEN.width ∧
      t.on EX_MBSTAT_DONE b.val = true ∧
      t.on EX_MBSTAT_BUSY b.val = false) ∧
  (∀ (s : State) (b : Mbox) (o : LocalOp) (k : KeySlot),
    s.localOp b.val = some o →
    o.op = 4 →
    s.localKey o.slot 3 = some k →
    (o.lenOk = false ∨ (o.data.length < 28)) →
    ∃ t, exec (.decrypt b) s = .next t ∧
      t.get EX_MBSTAT_REASON b.val = stInput ∧
      t.get EX_MBLEN_OUTLEN b.val = 8 ∧
      t.on EX_MBSTAT_DONE b.val = true ∧
      t.on EX_MBSTAT_BUSY b.val = false) ∧
  (∀ (s : State) (b : Mbox) (o : LocalOp),
    s.localOp b.val = some o →
    o.op = 4 →
    s.localKey o.slot 3 = none →
    ∃ t, exec (.decrypt b) s = .next t ∧
      t.get EX_MBSTAT_REASON b.val = stDenied ∧
      t.get EX_MBLEN_OUTLEN b.val = 8 ∧
      t.on EX_MBSTAT_DONE b.val = true ∧
      t.on EX_MBSTAT_BUSY b.val = false) ∧
  (∀ (s : State) (b : Mbox),
    (∀ o ∈ s.localOp b.val, o.op ≠ 4) →
    ∃ t, exec (.decrypt b) s = .next t ∧
      t = s) ∧
  (∀ (s : State) (b : Mbox) (o : LocalOp) (k : KeySlot),
    s.localOp b.val = some o →
    o.op = 5 →
    s.localKey o.slot 4 = some k →
    o.lenOk = true →
    ∃ t, exec (.hmac b) s = .next t ∧
      t.get EX_MBSTAT_REASON b.val = stOk ∧
      t.get EX_MBLEN_OUTLEN b.val = (8 + 48) % 2 ^ EX_MBLEN_OUTLEN.width ∧
      t.on EX_MBSTAT_DONE b.val = true ∧
      t.on EX_MBSTAT_BUSY b.val = false) ∧
  (∀ (s : State) (b : Mbox) (o : LocalOp) (k : KeySlot),
    s.localOp b.val = some o →
    o.op = 5 →
    s.localKey o.slot 4 = some k →
    o.lenOk = false →
    ∃ t, exec (.hmac b) s = .next t ∧
      t.get EX_MBSTAT_REASON b.val = stInput ∧
      t.get EX_MBLEN_OUTLEN b.val = 8 ∧
      t.on EX_MBSTAT_DONE b.val = true ∧
      t.on EX_MBSTAT_BUSY b.val = false) ∧
  (∀ (s : State) (b : Mbox) (o : LocalOp),
    s.localOp b.val = some o →
    o.op = 5 →
    s.localKey o.slot 4 = none →
    ∃ t, exec (.hmac b) s = .next t ∧
      t.get EX_MBSTAT_REASON b.val = stDenied ∧
      t.get EX_MBLEN_OUTLEN b.val = 8 ∧
      t.on EX_MBSTAT_DONE b.val = true ∧
      t.on EX_MBSTAT_BUSY b.val = false) ∧
  (∀ (s : State) (b : Mbox),
    (∀ o ∈ s.localOp b.val, o.op ≠ 5) →
    ∃ t, exec (.hmac b) s = .next t ∧
      t = s) ∧
  (∀ (s : State) (b : Mbox) (o : LocalOp),
    s.localOp b.val = some o →
    o.op = 6 →
    o.lenOk = true →
    ∃ t, exec (.random b) s = .next t ∧
      t.get EX_MBSTAT_REASON b.val = stOk ∧
      t.get EX_MBLEN_OUTLEN b.val = (8 + o.len) % 2 ^ EX_MBLEN_OUTLEN.width ∧
      t.on EX_MBSTAT_DONE b.val = true ∧
      t.on EX_MBSTAT_BUSY b.val = false ∧
      t.freeIdx = s.freeIdx + o.len) ∧
  (∀ (s : State) (b : Mbox) (o : LocalOp),
    s.localOp b.val = some o →
    o.op = 6 →
    o.lenOk = false →
    ∃ t, exec (.random b) s = .next t ∧
      t.get EX_MBSTAT_REASON b.val = stInput ∧
      t.get EX_MBLEN_OUTLEN b.val = 8 ∧
      t.on EX_MBSTAT_DONE b.val = true ∧
      t.on EX_MBSTAT_BUSY b.val = false) ∧
  (∀ (s : State) (b : Mbox),
    (∀ o ∈ s.localOp b.val, o.op ≠ 6) →
    ∃ t, exec (.random b) s = .next t ∧
      t = s) ∧
  (∀ (s : State) (b : Mbox) (o : LocalOp),
    s.localOp b.val = some o →
    o.op = 7 →
    8 ≤ o.slot →
    o.slot < 32 →
    o.len = 0 →
    o.data = [] →
    ∃ t, exec (.counter b) s = .next t ∧
      t.get EX_MBSTAT_REASON b.val = stOk ∧
      t.get EX_MBLEN_OUTLEN b.val = (8 + 8) % 2 ^ EX_MBLEN_OUTLEN.width ∧
      t.on EX_MBSTAT_DONE b.val = true ∧
      t.on EX_MBSTAT_BUSY b.val = false ∧
      t.counter o.slot = s.counter o.slot ∧
      t.mbBytes b.val 16 = leBytes 4 stOk ++ leBytes 4 8 ++ leBytes 8 (s.counter o.slot)) ∧
  (∀ (s : State) (b : Mbox) (o : LocalOp),
    s.localOp b.val = some o →
    o.op = 7 →
    8 ≤ o.slot →
    o.slot < 32 →
    o.len = 1 →
    o.data = [1] →
    s.counter o.slot < s.mark o.slot →
    s.mark o.slot < 2 ^ 64 →
    ∃ t, exec (.counter b) s = .next t ∧
      t.get EX_MBSTAT_REASON b.val = stOk ∧
      t.get EX_MBLEN_OUTLEN b.val = (8 + 8) % 2 ^ EX_MBLEN_OUTLEN.width ∧
      t.on EX_MBSTAT_DONE b.val = true ∧
      t.on EX_MBSTAT_BUSY b.val = false ∧
      t.counter o.slot = s.counter o.slot + 1 ∧
      t.mbBytes b.val 16 = leBytes 4 stOk ++ leBytes 4 8 ++ leBytes 8 (s.counter o.slot + 1)) ∧
  (∀ (s : State) (b : Mbox) (o : LocalOp),
    s.localOp b.val = some o →
    o.op = 7 →
    8 ≤ o.slot →
    o.slot < 32 →
    o.len = 1 →
    o.data = [1] →
    s.counter o.slot = s.mark o.slot →
    s.mark o.slot < 2 ^ 64 - 1 →
    ∃ t, exec (.counter b) s = .next t ∧
      t = s) ∧
  (∀ (s : State) (b : Mbox) (o : LocalOp),
    s.localOp b.val = some o →
    o.op = 7 →
    (o.slot < 8 ∨ 32 ≤ o.slot) →
    ∃ t, exec (.counter b) s = .next t ∧
      t.get EX_MBSTAT_REASON b.val = stDenied ∧
      t.get EX_MBLEN_OUTLEN b.val = 8 ∧
      t.on EX_MBSTAT_DONE b.val = true ∧
      t.on EX_MBSTAT_BUSY b.val = false) ∧
  (∀ (s : State) (b : Mbox),
    (∀ o ∈ s.localOp b.val, o.op ≠ 7) →
    ∃ t, exec (.counter b) s = .next t ∧
      t = s) ∧
  (∀ (s : State) (k : Fin 32),
    s.markDue k.val = true →
    s.grantable clsFlash = true →
    ∃ t, exec (.highWaterMarkWrite k) s = .next t ∧
      t.mark k.val = max (s.mark k.val) (s.markFor k.val + 65536) ∧
      s.counter k.val + 65536 ≤ t.mark k.val ∧
      t.bank.waitMarks.contains k.val = false ∧
      t.lamp.grants = s.lamp.grants ++ [clsFlash]) ∧
  (∀ (s : State) (k : Fin 32),
    s.markDue k.val = true →
    s.grantable clsFlash = false →
    ∃ t, exec (.highWaterMarkWrite k) s = .next t ∧
      t.mark k.val = s.mark k.val ∧
      t.bank.waitMarks.head? = some k.val ∧
      t.on LA_LSTAT_GRANT_REFUSED = true ∧
      t.deadline .grantRetry = some (s.now + 100 * ms)) ∧
  (∀ (s : State) (k : Fin 32),
    s.markDue k.val = false →
    ∃ t, exec (.highWaterMarkWrite k) s = .next t ∧
      t = s) ∧
  (∀ (s : State) (n : Pair) (b : Mbox) (v : Word),
    s.busOpen (.pair n) = true →
    s.lockstep (.pair n) = true →
    s.on EX_MBCTL_CLAIMED b.val = false →
    EX_MBCTL_GO.of v = 0 →
    EX_MBCTL_RELEASE.of v = 0 →
    ∃ t, exec (.mailboxClaim (.pair n) b v) s = .next t ∧
      t.on EX_MBCTL_CLAIMED b.val = true ∧
      t.get EX_MBCTL_PAIR b.val = n.val ∧
      t.get EX_MBCTL_KIND b.val = EX_MBCTL_KIND.of v) ∧
  (∀ (s : State) (m : Master) (b : Mbox) (v : Word),
    s.busOpen m = true →
    s.mbOwner m b.val = false →
    s.on EX_MBCTL_CLAIMED b.val = true →
    ∃ t, exec (.mailboxClaim m b v) s = .next t ∧
      t.on EX_MBSTAT_WRITE_DENIED b.val = true ∧
      t.rdw .EX_MBCTL b.val = s.rdw .EX_MBCTL b.val ∧
      t.bank = s.bank) ∧
  (∀ (s : State) (m : Master) (b : Mbox) (v : Word),
    s.busOpen m = true →
    s.mbOwner m b.val = false →
    s.on EX_MBCTL_CLAIMED b.val = true →
    ∃ t, exec (.mailboxGo m b v) s = .next t ∧
      t.on EX_MBSTAT_WRITE_DENIED b.val = true ∧
      t.rdw .EX_MBCTL b.val = s.rdw .EX_MBCTL b.val ∧
      t.bank = s.bank) ∧
  (∀ (s : State) (m : Master) (b : Mbox) (v : Word),
    s.busOpen m = true →
    s.mbOwner m b.val = false →
    s.on EX_MBCTL_CLAIMED b.val = true →
    ∃ t, exec (.mailboxRelease m b v) s = .next t ∧
      t.on EX_MBSTAT_WRITE_DENIED b.val = true ∧
      t.rdw .EX_MBCTL b.val = s.rdw .EX_MBCTL b.val ∧
      t.bank = s.bank) ∧
  (∀ (s : State) (n : Pair) (b : Mbox) (v : Word),
    s.busOpen (.pair n) = true →
    s.mbOwner (.pair n) b.val = true →
    EX_MBCTL_KIND.of v = 0 →
    EX_MBCTL_RELEASE.of v = 0 →
    s.on EX_MBSTAT_BUSY b.val = false →
    0 < s.get EX_MBLEN_INLEN b.val →
    s.get EX_MBLEN_INLEN b.val ≤ 4608 →
    ∃ t, exec (.mailboxGo (.pair n) b v) s = .next t ∧
      t.on EX_MBSTAT_BUSY b.val = true ∧
      t.bank.queue = s.bank.queue ++ [b.val]) ∧
  (∀ (s : State) (n : Pair) (b : Mbox) (v : Word),
    s.busOpen (.pair n) = true →
    s.mbOwner (.pair n) b.val = true →
    EX_MBCTL_KIND.of v = 1 →
    EX_MBCTL_RELEASE.of v = 0 →
    s.on EX_MBSTAT_BUSY b.val = false →
    8 ≤ s.get EX_MBLEN_INLEN b.val →
    s.get EX_MBLEN_INLEN b.val ≤ 4608 →
    1 ≤ fieldAt (s.mbBytes b.val (s.get EX_MBLEN_INLEN b.val)) 0 2 →
    fieldAt (s.mbBytes b.val (s.get EX_MBLEN_INLEN b.val)) 0 2 ≤ 7 →
    ∃ t, exec (.mailboxGo (.pair n) b v) s = .next t ∧
      t.on EX_MBSTAT_BUSY b.val = true ∧
      t.bank.queue = s.bank.queue ∧
      (t.localOp b.val).isSome = true) ∧
  (∀ (s : State) (n : Pair) (b : Mbox) (v : Word),
    s.busOpen (.pair n) = true →
    s.mbOwner (.pair n) b.val = true →
    EX_MBCTL_RELEASE.of v = 0 →
    (s.get EX_MBLEN_INLEN b.val = 0 ∨ 4608 < s.get EX_MBLEN_INLEN b.val) →
    ∃ t, exec (.mailboxGo (.pair n) b v) s = .next t ∧
      t.on EX_MBSTAT_WRITE_DENIED b.val = true ∧
      t.on EX_MBSTAT_BUSY b.val = s.on EX_MBSTAT_BUSY b.val ∧
      t.bank = s.bank) ∧
  (∀ (s : State) (n : Pair) (b : Mbox) (v : Word),
    s.busOpen (.pair n) = true →
    s.mbOwner (.pair n) b.val = true →
    EX_MBCTL_RELEASE.of v = 0 →
    s.on EX_MBSTAT_BUSY b.val = true →
    ∃ t, exec (.mailboxGo (.pair n) b v) s = .next t ∧
      t.on EX_MBSTAT_BUSY b.val = true ∧
      t.bank = s.bank) ∧
  (∀ (s : State) (n : Pair) (b : Mbox) (v : Word),
    s.busOpen (.pair n) = true →
    s.mbOwner (.pair n) b.val = true →
    EX_MBCTL_GO.of v = 0 →
    ∃ t, exec (.mailboxRelease (.pair n) b v) s = .next t ∧
      t.on EX_MBCTL_CLAIMED b.val = false ∧
      t.on EX_MBSTAT_BUSY b.val = false ∧
      t.bank.queue = s.bank.queue.filter (· != b.val)) ∧
  (∀ (s : State) (b : Nat) (l : List Nat) (q : Nat × Bool),
    s.bank.queue = b :: l →
    s.mayStartEnvelope = true →
    (q = match envelopeOf (s.mbBytes b (s.get EX_MBLEN_INLEN b)) with | some e => s.verdict e | none => (exvFormat, false)) →
    (q.2 = false ∨ ∀ e ∈ envelopeOf (s.mbBytes b (s.get EX_MBLEN_INLEN b)), e.roles.all (fun r => decide (e.seq ≤ s.mark (roleCounter r))) = true) →
    ∃ t, exec .envelopeStart s = .next t ∧
      t.bank.running = some ⟨b, envelopeOf (s.mbBytes b (s.get EX_MBLEN_INLEN b)), q.1, q.2, s.now + replyTicks⟩ ∧
      t.bank.queue = l ∧
      t.bank.lastStart = some s.now) ∧
  (∀ (s : State),
    (s.bank.queue = [] ∨ s.mayStartEnvelope = false) →
    ∃ t, exec .envelopeStart s = .next t ∧
      t = s) ∧
  (∀ (s : State) (r : RunU),
    s.bank.running = some r →
    r.buf < 8 →
    s.routed 976 = true →
    (s.counter 6 < s.mark 6 ∨ s.grantable clsFlash = true) →
    ∃ t, exec .verdictRelease s = .next t ∧
      t.bank.running = none ∧
      t.now = max s.now r.due ∧
      t.on EX_MBSTAT_DONE r.buf = true ∧
      t.on EX_MBSTAT_BUSY r.buf = false ∧
      t.get EX_MBSTAT_REASON r.buf = r.reason % 2 ^ EX_MBSTAT_REASON.width ∧
      t.raised 976 = true ∧
      (∀ e ∈ r.env, r.seqPassed = true → ∀ q ∈ e.roles, 1 ≤ q → q ≤ 6 → t.counter (roleCounter q) = e.seq) ∧
      (r.reason = exvAccepted → t.get EX_EXCNT_ACCEPTED = min (s.get EX_EXCNT_ACCEPTED + 1) (2 ^ EX_EXCNT_ACCEPTED.width - 1) ∧ t.bank.accepted = s.bank.accepted ++ (r.env.map (fun e => (r.buf, e))).toList) ∧
      (r.reason ≠ exvAccepted → t.get EX_EXCNT_REFUSED = min (s.get EX_EXCNT_REFUSED + 1) (2 ^ EX_EXCNT_REFUSED.width - 1) ∧ t.bank.accepted = s.bank.accepted)) ∧
  (∀ (s : State),
    s.counter 6 = s.mark 6 →
    s.grantable clsFlash = false →
    ∃ t, exec .verdictRelease s = .next t ∧
      t.bank.running = s.bank.running ∧
      t.bank.accepted = s.bank.accepted ∧
      t.lamp.counters = s.lamp.counters)

/-- Accepted envelopes change the configuration table, the Assay and the lists. Each command applies the oldest accepted envelope, where it is of its
class, at the next frame boundary, no domain being awaited for it, and time comes to that boundary; with the oldest of another class, or none, it does
nothing. When the late checks pass, the reply EXV_APPLIED joins the replies in order of release, 0.9 ms after the boundary, and source 977 is raised
where it is routed. READ replies with its item. SET writes the value, role and SEQ of the last entry it names and leaves entries it does not name.
LIMITS writes the last entry's MIN and MAX, and its value then lies within them. ISL_SCHEDULE becomes the schedule. The last TLV of ASSAY_SET writes
the EXV fields of WCFG, of an S0 input's three registers or of a test output's two. ASSAY_ACK clears UNSAVED, RECORD_LOST and both LOSS words,
COUNTER_CLEAR the reset counters and their total. CERT_REVOKE puts its serials before the others in a list of 64; GROUP_SET replaces the groups. When
a late check fails, the Banksman's state changes in the accepted envelope and the reply with that check's code alone, EXCNT.REFUSED rises by one to
its limit, source 978 is raised where it is routed, and SET and LIMITS leave the whole configuration table. (R258, R265, R343, R344, R360, R369, R370,
R411) -/
def Obligations.AcceptedSettingsApply : Prop :=
  (∀ (s : State) (b : Nat) (e : Envelope) (l : List (Nat × Envelope)),
    s.bank.accepted = (b, e) :: l →
    e.cls = xRead →
    s.toNextBoundary.checksLate e = exvAccepted →
    (s.plan.await = none ∨ s.plan.awaitFrame.isSome = true) →
    ∃ t, exec .readItem s = .next t ∧
      t.bank.accepted = l ∧
      t.now = s.now + s.boundaryIn ∧
      t.bank.replies = s.bank.replies.filter (fun q => decide (q.due ≤ s.now + s.boundaryIn + replyTicks)) ++ ⟨b, exvApplied, s.toNextBoundary.readData e, e, s.now + s.boundaryIn + replyTicks⟩ :: s.bank.replies.filter (fun q => decide (s.now + s.boundaryIn + replyTicks < q.due)) ∧
      (s.routed 977 = true → t.raised 977 = true)) ∧
  (∀ (s : State) (b : Nat) (e : Envelope) (l : List (Nat × Envelope)),
    s.bank.accepted = (b, e) :: l →
    e.cls = xSet →
    s.toNextBoundary.checksLate e = exvAccepted →
    (s.plan.await = none ∨ s.plan.awaitFrame.isSome = true) →
    ∃ t, exec .setEntries s = .next t ∧
      t.bank.accepted = l ∧
      t.now = s.now + s.boundaryIn ∧
      t.bank.replies = s.bank.replies.filter (fun q => decide (q.due ≤ s.now + s.boundaryIn + replyTicks)) ++ ⟨b, exvApplied, [], e, s.now + s.boundaryIn + replyTicks⟩ :: s.bank.replies.filter (fun q => decide (s.now + s.boundaryIn + replyTicks < q.due)) ∧
      (s.routed 977 = true → t.raised 977 = true) ∧
      (∀ v ∈ (e.vals 0x0201).getLast?, byteAt v 0 < 64 → t.get EX_CFGVAL_VALUE (byteAt v 0) = fieldAt v 4 4 % 2 ^ EX_CFGVAL_VALUE.width ∧ t.get EX_CFGSRC_SEQLO (byteAt v 0) = e.seq % 65536 ∧ t.get EX_CFGSRC_ROLE (byteAt v 0) = e.role % 2 ^ EX_CFGSRC_ROLE.width) ∧
      (∀ k : Fin 64, (e.vals 0x0201).all (fun v => byteAt v 0 != k.val) = true → t.rdw .EX_CFGVAL k.val = s.rdw .EX_CFGVAL k.val)) ∧
  (∀ (s : State) (b : Nat) (e : Envelope) (l : List (Nat × Envelope)),
    s.bank.accepted = (b, e) :: l →
    e.cls = xLimits →
    s.toNextBoundary.checksLate e = exvAccepted →
    (s.plan.await = none ∨ s.plan.awaitFrame.isSome = true) →
    ∃ t, exec .limits s = .next t ∧
      t.bank.accepted = l ∧
      t.now = s.now + s.boundaryIn ∧
      t.bank.replies = s.bank.replies.filter (fun q => decide (q.due ≤ s.now + s.boundaryIn + replyTicks)) ++ ⟨b, exvApplied, [], e, s.now + s.boundaryIn + replyTicks⟩ :: s.bank.replies.filter (fun q => decide (s.now + s.boundaryIn + replyTicks < q.due)) ∧
      (s.routed 977 = true → t.raised 977 = true) ∧
      (∀ v ∈ (e.vals 0x0202).getLast?, byteAt v 0 < 64 → sField v 4 ≤ sField v 8 → sgn (t.rdw .EX_CFGMIN (byteAt v 0)) = sField v 4 ∧ sgn (t.rdw .EX_CFGMAX (byteAt v 0)) = sField v 8 ∧ sField v 4 ≤ sgn (t.rdw .EX_CFGVAL (byteAt v 0)) ∧ sgn (t.rdw .EX_CFGVAL (byteAt v 0)) ≤ sField v 8)) ∧
  (∀ (s : State) (b : Nat) (e : Envelope) (l : List (Nat × Envelope)),
    s.bank.accepted = (b, e) :: l →
    e.cls = xSchedule →
    s.toNextBoundary.checksLate e = exvAccepted →
    (s.plan.await = none ∨ s.plan.awaitFrame.isSome = true) →
    ∃ t, exec .islSchedule s = .next t ∧
      t.bank.accepted = l ∧
      t.now = s.now + s.boundaryIn ∧
      t.bank.replies = s.bank.replies.filter (fun q => decide (q.due ≤ s.now + s.boundaryIn + replyTicks)) ++ ⟨b, exvApplied, [], e, s.now + s.boundaryIn + replyTicks⟩ :: s.bank.replies.filter (fun q => decide (s.now + s.boundaryIn + replyTicks < q.due)) ∧
      (s.routed 977 = true → t.raised 977 = true) ∧
      t.bank.schedule = e.val 0x0C01) ∧
  (∀ (s : State) (b : Nat) (e : Envelope) (l : List (Nat × Envelope)),
    s.bank.accepted = (b, e) :: l →
    e.cls = xAssaySet →
    s.toNextBoundary.checksLate e = exvAccepted →
    (s.plan.await = none ∨ s.plan.awaitFrame.isSome = true) →
    ∃ t, exec .assaySet s = .next t ∧
      t.bank.accepted = l ∧
      t.now = s.now + s.boundaryIn ∧
      t.bank.replies = s.bank.replies.filter (fun q => decide (q.due ≤ s.now + s.boundaryIn + replyTicks)) ++ ⟨b, exvApplied, [], e, s.now + s.boundaryIn + replyTicks⟩ :: s.bank.replies.filter (fun q => decide (s.now + s.boundaryIn + replyTicks < q.due)) ∧
      (s.routed 977 = true → t.raised 977 = true) ∧
      (∀ q ∈ e.tlvs.getLast?, q.1 = 0x0501 → t.rdw .AS_WCFG = calWord q.2 0 &&& BitVec.ofNat 32 RegId.AS_WCFG.reg.exv)) ∧
  (∀ (s : State) (b : Nat) (e : Envelope) (l : List (Nat × Envelope)),
    s.bank.accepted = (b, e) :: l →
    e.cls = xAssaySet →
    s.toNextBoundary.checksLate e = exvAccepted →
    (s.plan.await = none ∨ s.plan.awaitFrame.isSome = true) →
    ∃ t, exec .assaySet s = .next t ∧
      t.bank.accepted = l ∧
      t.now = s.now + s.boundaryIn ∧
      t.bank.replies = s.bank.replies.filter (fun q => decide (q.due ≤ s.now + s.boundaryIn + replyTicks)) ++ ⟨b, exvApplied, [], e, s.now + s.boundaryIn + replyTicks⟩ :: s.bank.replies.filter (fun q => decide (s.now + s.boundaryIn + replyTicks < q.due)) ∧
      (s.routed 977 = true → t.raised 977 = true) ∧
      (∀ q ∈ e.tlvs.getLast?, q.1 = 0x0502 → fieldAt q.2 0 4 < 4 → t.rdw .AS_S0CTL (fieldAt q.2 0 4) = calWord q.2 4 &&& BitVec.ofNat 32 RegId.AS_S0CTL.reg.exv ∧ t.rdw .AS_S0WGT (fieldAt q.2 0 4) = calWord q.2 8 &&& BitVec.ofNat 32 RegId.AS_S0WGT.reg.exv ∧ t.rdw .AS_S0TOL (fieldAt q.2 0 4) = calWord q.2 12 &&& BitVec.ofNat 32 RegId.AS_S0TOL.reg.exv)) ∧
  (∀ (s : State) (b : Nat) (e : Envelope) (l : List (Nat × Envelope)),
    s.bank.accepted = (b, e) :: l →
    e.cls = xAssaySet →
    s.toNextBoundary.checksLate e = exvAccepted →
    (s.plan.await = none ∨ s.plan.awaitFrame.isSome = true) →
    ∃ t, exec .assaySet s = .next t ∧
      t.bank.accepted = l ∧
      t.now = s.now + s.boundaryIn ∧
      t.bank.replies = s.bank.replies.filter (fun q => decide (q.due ≤ s.now + s.boundaryIn + replyTicks)) ++ ⟨b, exvApplied, [], e, s.now + s.boundaryIn + replyTicks⟩ :: s.bank.replies.filter (fun q => decide (s.now + s.boundaryIn + replyTicks < q.due)) ∧
      (s.routed 977 = true → t.raised 977 = true) ∧
      (∀ q ∈ e.tlvs.getLast?, q.1 = 0x0503 → fieldAt q.2 0 4 < 8 → t.rdw .AS_TPOCTL (fieldAt q.2 0 4) = calWord q.2 4 &&& BitVec.ofNat 32 RegId.AS_TPOCTL.reg.exv ∧ t.rdw .AS_TPOCONST (fieldAt q.2 0 4) = calWord q.2 8 &&& BitVec.ofNat 32 RegId.AS_TPOCONST.reg.exv)) ∧
  (∀ (s : State) (b : Nat) (e : Envelope) (l : List (Nat × Envelope)),
    s.bank.accepted = (b, e) :: l →
    e.cls = xAssayAck →
    s.toNextBoundary.checksLate e = exvAccepted →
    (s.plan.await = none ∨ s.plan.awaitFrame.isSome = true) →
    ∃ t, exec .assayAck s = .next t ∧
      t.bank.accepted = l ∧
      t.now = s.now + s.boundaryIn ∧
      t.bank.replies = s.bank.replies.filter (fun q => decide (q.due ≤ s.now + s.boundaryIn + replyTicks)) ++ ⟨b, exvApplied, [], e, s.now + s.boundaryIn + replyTicks⟩ :: s.bank.replies.filter (fun q => decide (s.now + s.boundaryIn + replyTicks < q.due)) ∧
      (s.routed 977 = true → t.raised 977 = true) ∧
      t.on AS_ASTAT_UNSAVED = false ∧
      t.on AS_ASTAT_RECORD_LOST = false ∧
      t.rdw .AS_LOSS 0 = 0 ∧
      t.rdw .AS_LOSS 1 = 0) ∧
  (∀ (s : State) (b : Nat) (e : Envelope) (l : List (Nat × Envelope)),
    s.bank.accepted = (b, e) :: l →
    e.cls = xCounterClear →
    s.toNextBoundary.checksLate e = exvAccepted →
    (s.plan.await = none ∨ s.plan.awaitFrame.isSome = true) →
    ∃ t, exec .counterClear s = .next t ∧
      t.bank.accepted = l ∧
      t.now = s.now + s.boundaryIn ∧
      t.bank.replies = s.bank.replies.filter (fun q => decide (q.due ≤ s.now + s.boundaryIn + replyTicks)) ++ ⟨b, exvApplied, [], e, s.now + s.boundaryIn + replyTicks⟩ :: s.bank.replies.filter (fun q => decide (s.now + s.boundaryIn + replyTicks < q.due)) ∧
      (s.routed 977 = true → t.raised 977 = true) ∧
      (∀ k : Fin 4, t.rdw .RS_RSTCNT k.val = 0) ∧
      t.rdw .RS_RSTTOT = 0) ∧
  (∀ (s : State) (b : Nat) (e : Envelope) (l : List (Nat × Envelope)),
    s.bank.accepted = (b, e) :: l →
    e.cls = xCertRevoke →
    s.toNextBoundary.checksLate e = exvAccepted →
    (s.plan.await = none ∨ s.plan.awaitFrame.isSome = true) →
    ∃ t, exec .certRevoke s = .next t ∧
      t.bank.accepted = l ∧
      t.now = s.now + s.boundaryIn ∧
      t.bank.replies = s.bank.replies.filter (fun q => decide (q.due ≤ s.now + s.boundaryIn + replyTicks)) ++ ⟨b, exvApplied, [], e, s.now + s.boundaryIn + replyTicks⟩ :: s.bank.replies.filter (fun q => decide (s.now + s.boundaryIn + replyTicks < q.due)) ∧
      (s.routed 977 = true → t.raised 977 = true) ∧
      t.bank.revoked = (((e.vals 0x0801).map (fun v => fieldAt v 0 8)).reverse ++ s.bank.revoked).take 64) ∧
  (∀ (s : State) (b : Nat) (e : Envelope) (l : List (Nat × Envelope)),
    s.bank.accepted = (b, e) :: l →
    e.cls = xGroupSet →
    s.toNextBoundary.checksLate e = exvAccepted →
    (s.plan.await = none ∨ s.plan.awaitFrame.isSome = true) →
    ∃ t, exec .groupSet s = .next t ∧
      t.bank.accepted = l ∧
      t.now = s.now + s.boundaryIn ∧
      t.bank.replies = s.bank.replies.filter (fun q => decide (q.due ≤ s.now + s.boundaryIn + replyTicks)) ++ ⟨b, exvApplied, [], e, s.now + s.boundaryIn + replyTicks⟩ :: s.bank.replies.filter (fun q => decide (s.now + s.boundaryIn + replyTicks < q.due)) ∧
      (s.routed 977 = true → t.raised 977 = true) ∧
      t.bank.groups = e.vals 0x0901) ∧
  (∀ (s : State) (b : Nat) (e : Envelope) (l : List (Nat × Envelope)) (c : Nat),
    s.bank.accepted = (b, e) :: l →
    e.cls = xRead →
    s.toNextBoundary.checksLate e = c →
    (s.plan.await = none ∨ s.plan.awaitFrame.isSome = true) →
    c ≠ exvAccepted →
    ∃ t, exec .readItem s = .next t ∧
      t.bank = { s.bank with accepted := l, replies := s.bank.replies.filter (fun q => decide (q.due ≤ s.now + s.boundaryIn + replyTicks)) ++ ⟨b, c, [], e, s.now + s.boundaryIn + replyTicks⟩ :: s.bank.replies.filter (fun q => decide (s.now + s.boundaryIn + replyTicks < q.due)) } ∧
      t.now = s.now + s.boundaryIn ∧
      t.get EX_EXCNT_REFUSED = min (s.get EX_EXCNT_REFUSED + 1) (2 ^ EX_EXCNT_REFUSED.width - 1) ∧
      (s.routed 978 = true → t.raised 978 = true)) ∧
  (∀ (s : State),
    (∀ p ∈ s.bank.accepted.head?, p.2.cls ≠ xRead) →
    ∃ t, exec .readItem s = .next t ∧
      t = s) ∧
  (∀ (s : State) (b : Nat) (e : Envelope) (l : List (Nat × Envelope)) (c : Nat),
    s.bank.accepted = (b, e) :: l →
    e.cls = xSet →
    s.toNextBoundary.checksLate e = c →
    (s.plan.await = none ∨ s.plan.awaitFrame.isSome = true) →
    c ≠ exvAccepted →
    ∃ t, exec .setEntries s = .next t ∧
      t.bank = { s.bank with accepted := l, replies := s.bank.replies.filter (fun q => decide (q.due ≤ s.now + s.boundaryIn + replyTicks)) ++ ⟨b, c, [], e, s.now + s.boundaryIn + replyTicks⟩ :: s.bank.replies.filter (fun q => decide (s.now + s.boundaryIn + replyTicks < q.due)) } ∧
      t.now = s.now + s.boundaryIn ∧
      t.get EX_EXCNT_REFUSED = min (s.get EX_EXCNT_REFUSED + 1) (2 ^ EX_EXCNT_REFUSED.width - 1) ∧
      (s.routed 978 = true → t.raised 978 = true) ∧
      (∀ k : Fin 64, t.rdw .EX_CFGVAL k.val = s.rdw .EX_CFGVAL k.val) ∧
      (∀ k : Fin 64, t.rdw .EX_CFGMIN k.val = s.rdw .EX_CFGMIN k.val) ∧
      (∀ k : Fin 64, t.rdw .EX_CFGMAX k.val = s.rdw .EX_CFGMAX k.val)) ∧
  (∀ (s : State),
    (∀ p ∈ s.bank.accepted.head?, p.2.cls ≠ xSet) →
    ∃ t, exec .setEntries s = .next t ∧
      t = s) ∧
  (∀ (s : State) (b : Nat) (e : Envelope) (l : List (Nat × Envelope)) (c : Nat),
    s.bank.accepted = (b, e) :: l →
    e.cls = xLimits →
    s.toNextBoundary.checksLate e = c →
    (s.plan.await = none ∨ s.plan.awaitFrame.isSome = true) →
    c ≠ exvAccepted →
    ∃ t, exec .limits s = .next t ∧
      t.bank = { s.bank with accepted := l, replies := s.bank.replies.filter (fun q => decide (q.due ≤ s.now + s.boundaryIn + replyTicks)) ++ ⟨b, c, [], e, s.now + s.boundaryIn + replyTicks⟩ :: s.bank.replies.filter (fun q => decide (s.now + s.boundaryIn + replyTicks < q.due)) } ∧
      t.now = s.now + s.boundaryIn ∧
      t.get EX_EXCNT_REFUSED = min (s.get EX_EXCNT_REFUSED + 1) (2 ^ EX_EXCNT_REFUSED.width - 1) ∧
      (s.routed 978 = true → t.raised 978 = true) ∧
      (∀ k : Fin 64, t.rdw .EX_CFGVAL k.val = s.rdw .EX_CFGVAL k.val) ∧
      (∀ k : Fin 64, t.rdw .EX_CFGMIN k.val = s.rdw .EX_CFGMIN k.val) ∧
      (∀ k : Fin 64, t.rdw .EX_CFGMAX k.val = s.rdw .EX_CFGMAX k.val)) ∧
  (∀ (s : State),
    (∀ p ∈ s.bank.accepted.head?, p.2.cls ≠ xLimits) →
    ∃ t, exec .limits s = .next t ∧
      t = s) ∧
  (∀ (s : State) (b : Nat) (e : Envelope) (l : List (Nat × Envelope)) (c : Nat),
    s.bank.accepted = (b, e) :: l →
    e.cls = xSchedule →
    s.toNextBoundary.checksLate e = c →
    (s.plan.await = none ∨ s.plan.awaitFrame.isSome = true) →
    c ≠ exvAccepted →
    ∃ t, exec .islSchedule s = .next t ∧
      t.bank = { s.bank with accepted := l, replies := s.bank.replies.filter (fun q => decide (q.due ≤ s.now + s.boundaryIn + replyTicks)) ++ ⟨b, c, [], e, s.now + s.boundaryIn + replyTicks⟩ :: s.bank.replies.filter (fun q => decide (s.now + s.boundaryIn + replyTicks < q.due)) } ∧
      t.now = s.now + s.boundaryIn ∧
      t.get EX_EXCNT_REFUSED = min (s.get EX_EXCNT_REFUSED + 1) (2 ^ EX_EXCNT_REFUSED.width - 1) ∧
      (s.routed 978 = true → t.raised 978 = true)) ∧
  (∀ (s : State),
    (∀ p ∈ s.bank.accepted.head?, p.2.cls ≠ xSchedule) →
    ∃ t, exec .islSchedule s = .next t ∧
      t = s) ∧
  (∀ (s : State) (b : Nat) (e : Envelope) (l : List (Nat × Envelope)) (c : Nat),
    s.bank.accepted = (b, e) :: l →
    e.cls = xAssaySet →
    s.toNextBoundary.checksLate e = c →
    (s.plan.await = none ∨ s.plan.awaitFrame.isSome = true) →
    c ≠ exvAccepted →
    ∃ t, exec .assaySet s = .next t ∧
      t.bank = { s.bank with accepted := l, replies := s.bank.replies.filter (fun q => decide (q.due ≤ s.now + s.boundaryIn + replyTicks)) ++ ⟨b, c, [], e, s.now + s.boundaryIn + replyTicks⟩ :: s.bank.replies.filter (fun q => decide (s.now + s.boundaryIn + replyTicks < q.due)) } ∧
      t.now = s.now + s.boundaryIn ∧
      t.get EX_EXCNT_REFUSED = min (s.get EX_EXCNT_REFUSED + 1) (2 ^ EX_EXCNT_REFUSED.width - 1) ∧
      (s.routed 978 = true → t.raised 978 = true)) ∧
  (∀ (s : State),
    (∀ p ∈ s.bank.accepted.head?, p.2.cls ≠ xAssaySet) →
    ∃ t, exec .assaySet s = .next t ∧
      t = s) ∧
  (∀ (s : State) (b : Nat) (e : Envelope) (l : List (Nat × Envelope)) (c : Nat),
    s.bank.accepted = (b, e) :: l →
    e.cls = xAssayAck →
    s.toNextBoundary.checksLate e = c →
    (s.plan.await = none ∨ s.plan.awaitFrame.isSome = true) →
    c ≠ exvAccepted →
    ∃ t, exec .assayAck s = .next t ∧
      t.bank = { s.bank with accepted := l, replies := s.bank.replies.filter (fun q => decide (q.due ≤ s.now + s.boundaryIn + replyTicks)) ++ ⟨b, c, [], e, s.now + s.boundaryIn + replyTicks⟩ :: s.bank.replies.filter (fun q => decide (s.now + s.boundaryIn + replyTicks < q.due)) } ∧
      t.now = s.now + s.boundaryIn ∧
      t.get EX_EXCNT_REFUSED = min (s.get EX_EXCNT_REFUSED + 1) (2 ^ EX_EXCNT_REFUSED.width - 1) ∧
      (s.routed 978 = true → t.raised 978 = true)) ∧
  (∀ (s : State),
    (∀ p ∈ s.bank.accepted.head?, p.2.cls ≠ xAssayAck) →
    ∃ t, exec .assayAck s = .next t ∧
      t = s) ∧
  (∀ (s : State) (b : Nat) (e : Envelope) (l : List (Nat × Envelope)) (c : Nat),
    s.bank.accepted = (b, e) :: l →
    e.cls = xCounterClear →
    s.toNextBoundary.checksLate e = c →
    (s.plan.await = none ∨ s.plan.awaitFrame.isSome = true) →
    c ≠ exvAccepted →
    ∃ t, exec .counterClear s = .next t ∧
      t.bank = { s.bank with accepted := l, replies := s.bank.replies.filter (fun q => decide (q.due ≤ s.now + s.boundaryIn + replyTicks)) ++ ⟨b, c, [], e, s.now + s.boundaryIn + replyTicks⟩ :: s.bank.replies.filter (fun q => decide (s.now + s.boundaryIn + replyTicks < q.due)) } ∧
      t.now = s.now + s.boundaryIn ∧
      t.get EX_EXCNT_REFUSED = min (s.get EX_EXCNT_REFUSED + 1) (2 ^ EX_EXCNT_REFUSED.width - 1) ∧
      (s.routed 978 = true → t.raised 978 = true)) ∧
  (∀ (s : State),
    (∀ p ∈ s.bank.accepted.head?, p.2.cls ≠ xCounterClear) →
    ∃ t, exec .counterClear s = .next t ∧
      t = s) ∧
  (∀ (s : State) (b : Nat) (e : Envelope) (l : List (Nat × Envelope)) (c : Nat),
    s.bank.accepted = (b, e) :: l →
    e.cls = xCertRevoke →
    s.toNextBoundary.checksLate e = c →
    (s.plan.await = none ∨ s.plan.awaitFrame.isSome = true) →
    c ≠ exvAccepted →
    ∃ t, exec .certRevoke s = .next t ∧
      t.bank = { s.bank with accepted := l, replies := s.bank.replies.filter (fun q => decide (q.due ≤ s.now + s.boundaryIn + replyTicks)) ++ ⟨b, c, [], e, s.now + s.boundaryIn + replyTicks⟩ :: s.bank.replies.filter (fun q => decide (s.now + s.boundaryIn + replyTicks < q.due)) } ∧
      t.now = s.now + s.boundaryIn ∧
      t.get EX_EXCNT_REFUSED = min (s.get EX_EXCNT_REFUSED + 1) (2 ^ EX_EXCNT_REFUSED.width - 1) ∧
      (s.routed 978 = true → t.raised 978 = true)) ∧
  (∀ (s : State),
    (∀ p ∈ s.bank.accepted.head?, p.2.cls ≠ xCertRevoke) →
    ∃ t, exec .certRevoke s = .next t ∧
      t = s) ∧
  (∀ (s : State) (b : Nat) (e : Envelope) (l : List (Nat × Envelope)) (c : Nat),
    s.bank.accepted = (b, e) :: l →
    e.cls = xGroupSet →
    s.toNextBoundary.checksLate e = c →
    (s.plan.await = none ∨ s.plan.awaitFrame.isSome = true) →
    c ≠ exvAccepted →
    ∃ t, exec .groupSet s = .next t ∧
      t.bank = { s.bank with accepted := l, replies := s.bank.replies.filter (fun q => decide (q.due ≤ s.now + s.boundaryIn + replyTicks)) ++ ⟨b, c, [], e, s.now + s.boundaryIn + replyTicks⟩ :: s.bank.replies.filter (fun q => decide (s.now + s.boundaryIn + replyTicks < q.due)) } ∧
      t.now = s.now + s.boundaryIn ∧
      t.get EX_EXCNT_REFUSED = min (s.get EX_EXCNT_REFUSED + 1) (2 ^ EX_EXCNT_REFUSED.width - 1) ∧
      (s.routed 978 = true → t.raised 978 = true)) ∧
  (∀ (s : State),
    (∀ p ∈ s.bank.accepted.head?, p.2.cls ≠ xGroupSet) →
    ∃ t, exec .groupSet s = .next t ∧
      t = s)

/-- Accepted envelopes change key slots, seals, the port, images and the life cycle. Each class command applies the oldest accepted envelope, where it
is of its class, at the next frame boundary, no domain being awaited for it, and time comes to that boundary; with another class, or none, it does
nothing. When the late checks pass, EXV_APPLIED joins the replies in order of release, 0.9 ms after the boundary (an IMAGE's waits for its copy), and
source 977 is raised where routed (not by IMAGE). ENROL fills its slot with a P-384 key and REVOKE empties it, each with a FLASH grant; GENERATE fills
its slot with a new key of its ALG and USAGE and replies with a pair's public key; IMPORT fills it with the key it wraps. SEAL_ACK takes its straps as
SEALREF and ends SEAL_PENDING. TAMPER_ACK ends LAMP_LOST and the acknowledgement, and asks for a reset in RESTRICTED. ADIT_OPEN opens a session with
its OPENER, ADIT_CLOSE ends it with CLOSEWHY 2. IMAGE empties the slot of its type that is not active and starts its copy there. ACTIVATE turns the
active slots of its types, and OTP steps rise to theirs. LC_ADVANCE closes the port and begins its fuse group. EXPORT replies with the records. When a
late check fails, the Banksman's state changes in the envelope and the reply with that code alone, an IMAGE's when its copy would end; EXCNT.REFUSED
rises to its limit, source 978 is raised where routed. A reply is released when due, its mark above DSEQ or a FLASH grant open, with DONE, REASON and
source 976 in a buffer still claimed and idle; the last one asked for ends in a full cold reset. An IMAGE's release ends IMGBUSY, with the image in
its slot or, changed during the copy, none, and source 979. (R323, R332, R333, R336, R340, R341, R350, R353, R355, R369, R373, R374) -/
def Obligations.AcceptedKeysImagesAndStatesApply : Prop :=
  (∀ (s : State) (b : Nat) (e : Envelope) (l : List (Nat × Envelope)),
    s.bank.accepted = (b, e) :: l →
    e.cls = xEnrol →
    s.toNextBoundary.checksLate e = exvAccepted →
    (s.plan.await = none ∨ s.plan.awaitFrame.isSome = true) →
    ∃ t, exec .enrol s = .next t ∧
      t.bank.accepted = l ∧
      t.now = s.now + s.boundaryIn ∧
      t.bank.replies = s.bank.replies.filter (fun q => decide (q.due ≤ s.now + s.boundaryIn + replyTicks)) ++ ⟨b, exvApplied, [], e, s.now + s.boundaryIn + replyTicks⟩ :: s.bank.replies.filter (fun q => decide (s.now + s.boundaryIn + replyTicks < q.due)) ∧
      (s.routed 977 = true → t.raised 977 = true) ∧
      (byteAt (e.val 0x1001) 0 < 64 → t.bank.slots.toList[byteAt (e.val 0x1001) 0]? = some (some ⟨sliceAt (e.val 0x1001) 3 97, 2, 0⟩)) ∧
      t.lamp.grants.length = s.lamp.grants.length + 1) ∧
  (∀ (s : State) (b : Nat) (e : Envelope) (l : List (Nat × Envelope)),
    s.bank.accepted = (b, e) :: l →
    e.cls = xRevoke →
    s.toNextBoundary.checksLate e = exvAccepted →
    (s.plan.await = none ∨ s.plan.awaitFrame.isSome = true) →
    ∃ t, exec .revoke s = .next t ∧
      t.bank.accepted = l ∧
      t.now = s.now + s.boundaryIn ∧
      t.bank.replies = s.bank.replies.filter (fun q => decide (q.due ≤ s.now + s.boundaryIn + replyTicks)) ++ ⟨b, exvApplied, [], e, s.now + s.boundaryIn + replyTicks⟩ :: s.bank.replies.filter (fun q => decide (s.now + s.boundaryIn + replyTicks < q.due)) ∧
      (s.routed 977 = true → t.raised 977 = true) ∧
      (byteAt (e.val 0x1101) 0 < 64 → t.filled (byteAt (e.val 0x1101) 0) = false) ∧
      t.lamp.grants.length = s.lamp.grants.length + 1) ∧
  (∀ (s : State) (b : Nat) (e : Envelope) (l : List (Nat × Envelope)),
    s.bank.accepted = (b, e) :: l →
    e.cls = xGenerate →
    s.toNextBoundary.checksLate e = exvAccepted →
    (s.plan.await = none ∨ s.plan.awaitFrame.isSome = true) →
    ∃ t, exec .generate s = .next t ∧
      t.bank.accepted = l ∧
      (byteAt (e.val 0x1201) 0 < 64 → t.bank.slots.toList[byteAt (e.val 0x1201) 0]? = some (some ⟨Config.newKey (byteAt (e.val 0x1201) 1) s.freeIdx, byteAt (e.val 0x1201) 1, byteAt (e.val 0x1201) 2⟩)) ∧
      (t.bank.replies = s.bank.replies.filter (fun q => decide (q.due ≤ s.now + s.boundaryIn + replyTicks)) ++ ⟨b, exvApplied, (if byteAt (e.val 0x1201) 1 ≤ 2 then Config.publicKey (byteAt (e.val 0x1201) 1) (Config.newKey (byteAt (e.val 0x1201) 1) s.freeIdx) else []), e, s.now + s.boundaryIn + replyTicks⟩ :: s.bank.replies.filter (fun q => decide (s.now + s.boundaryIn + replyTicks < q.due)))) ∧
  (∀ (s : State) (b : Nat) (e : Envelope) (l : List (Nat × Envelope)),
    s.bank.accepted = (b, e) :: l →
    e.cls = xImport →
    s.toNextBoundary.checksLate e = exvAccepted →
    (s.plan.await = none ∨ s.plan.awaitFrame.isSome = true) →
    ∃ t, exec .importKey s = .next t ∧
      t.bank.accepted = l ∧
      t.now = s.now + s.boundaryIn ∧
      t.bank.replies = s.bank.replies.filter (fun q => decide (q.due ≤ s.now + s.boundaryIn + replyTicks)) ++ ⟨b, exvApplied, [], e, s.now + s.boundaryIn + replyTicks⟩ :: s.bank.replies.filter (fun q => decide (s.now + s.boundaryIn + replyTicks < q.due)) ∧
      (s.routed 977 = true → t.raised 977 = true) ∧
      (∀ k ∈ s.unwrap (e.val 0x1301), byteAt (e.val 0x1301) 0 < 64 → t.bank.slots.toList[byteAt (e.val 0x1301) 0]? = some (some ⟨k, byteAt (e.val 0x1301) 1, byteAt (e.val 0x1301) 2⟩))) ∧
  (∀ (s : State) (b : Nat) (e : Envelope) (l : List (Nat × Envelope)),
    s.bank.accepted = (b, e) :: l →
    e.cls = xSealAck →
    s.toNextBoundary.checksLate e = exvAccepted →
    (s.plan.await = none ∨ s.plan.awaitFrame.isSome = true) →
    ∃ t, exec .sealAck s = .next t ∧
      t.bank.accepted = l ∧
      t.now = s.now + s.boundaryIn ∧
      t.bank.replies = s.bank.replies.filter (fun q => decide (q.due ≤ s.now + s.boundaryIn + replyTicks)) ++ ⟨b, exvApplied, [], e, s.now + s.boundaryIn + replyTicks⟩ :: s.bank.replies.filter (fun q => decide (s.now + s.boundaryIn + replyTicks < q.due)) ∧
      (s.routed 977 = true → t.raised 977 = true) ∧
      t.get FM_SEAL_SEALREF = fieldAt (e.val 0x2001) 0 2 % 2 ^ FM_SEAL_SEALREF.width ∧
      t.on FM_FSTAT_SEAL_PENDING = false ∧
      t.bank.sealSet = true) ∧
  (∀ (s : State) (b : Nat) (e : Envelope) (l : List (Nat × Envelope)),
    s.bank.accepted = (b, e) :: l →
    e.cls = xTamperAck →
    s.toNextBoundary.checksLate e = exvAccepted →
    (s.plan.await = none ∨ s.plan.awaitFrame.isSome = true) →
    ∃ t, exec .tamperAck s = .next t ∧
      t.bank.accepted = l ∧
      t.now = s.now + s.boundaryIn ∧
      t.bank.replies = s.bank.replies.filter (fun q => decide (q.due ≤ s.now + s.boundaryIn + replyTicks)) ++ ⟨b, exvApplied, [], e, s.now + s.boundaryIn + replyTicks⟩ :: s.bank.replies.filter (fun q => decide (s.now + s.boundaryIn + replyTicks < q.due)) ∧
      (s.routed 977 = true → t.raised 977 = true) ∧
      t.lamp.lost = false ∧
      t.lamp.ackNeeded = false ∧
      t.on BK_BKSTAT_LAMP_LOST = false ∧
      (s.on BK_BKSTAT_RESTRICTED = true → t.bank.resetAsked = true)) ∧
  (∀ (s : State) (b : Nat) (e : Envelope) (l : List (Nat × Envelope)),
    s.bank.accepted = (b, e) :: l →
    e.cls = xAditOpen →
    s.toNextBoundary.checksLate e = exvAccepted →
    (s.plan.await = none ∨ s.plan.awaitFrame.isSome = true) →
    ∃ t, exec .aditOpen s = .next t ∧
      t.bank.accepted = l ∧
      t.now = s.now + s.boundaryIn ∧
      t.bank.replies = s.bank.replies.filter (fun q => decide (q.due ≤ s.now + s.boundaryIn + replyTicks)) ++ ⟨b, exvApplied, [], e, s.now + s.boundaryIn + replyTicks⟩ :: s.bank.replies.filter (fun q => decide (s.now + s.boundaryIn + replyTicks < q.due)) ∧
      (s.routed 977 = true → t.raised 977 = true) ∧
      t.bank.adit.isSome = true ∧
      t.on BK_ADITSTAT_OPEN = true ∧
      t.get BK_ADITSTAT_OPENER = openerCode e.role % 2 ^ BK_ADITSTAT_OPENER.width ∧
      t.armed .aditEnd = true) ∧
  (∀ (s : State) (b : Nat) (e : Envelope) (l : List (Nat × Envelope)),
    s.bank.accepted = (b, e) :: l →
    e.cls = xAditClose →
    s.toNextBoundary.checksLate e = exvAccepted →
    (s.plan.await = none ∨ s.plan.awaitFrame.isSome = true) →
    ∃ t, exec .aditClose s = .next t ∧
      t.bank.accepted = l ∧
      t.now = s.now + s.boundaryIn ∧
      t.bank.replies = s.bank.replies.filter (fun q => decide (q.due ≤ s.now + s.boundaryIn + replyTicks)) ++ ⟨b, exvApplied, [], e, s.now + s.boundaryIn + replyTicks⟩ :: s.bank.replies.filter (fun q => decide (s.now + s.boundaryIn + replyTicks < q.due)) ∧
      (s.routed 977 = true → t.raised 977 = true) ∧
      t.bank.adit = none ∧
      t.on BK_ADITSTAT_OPEN = false ∧
      t.get BK_ADITSTAT_CLOSEWHY = 2) ∧
  (∀ (s : State) (b : Nat) (e : Envelope) (l : List (Nat × Envelope)),
    s.bank.accepted = (b, e) :: l →
    e.cls = xImage →
    s.toNextBoundary.checksLate e = exvAccepted →
    (s.plan.await = none ∨ s.plan.awaitFrame.isSome = true) →
    1 ≤ descType (e.val 0x3001) →
    descType (e.val 0x3001) ≤ 6 →
    ∃ t, exec .image s = .next t ∧
      t.bank.accepted = l ∧
      t.bank.writing.map (fun w => (w.typ, w.slotB)) = some (descType (e.val 0x3001), !s.activeIs (descType (e.val 0x3001))) ∧
      t.storedImage (descType (e.val 0x3001)) = none ∧
      t.activeImage (descType (e.val 0x3001)) = s.activeImage (descType (e.val 0x3001)) ∧
      t.on EX_EXSTAT_IMGBUSY = true ∧
      t.bank.replies = s.bank.replies) ∧
  (∀ (s : State) (b : Nat) (e : Envelope) (l : List (Nat × Envelope)),
    s.bank.accepted = (b, e) :: l →
    e.cls = xActivate →
    s.toNextBoundary.checksLate e = exvAccepted →
    (s.plan.await = none ∨ s.plan.awaitFrame.isSome = true) →
    ∃ t, exec .activate s = .next t ∧
      t.bank.accepted = l ∧
      t.now = s.now + s.boundaryIn ∧
      t.bank.replies = s.bank.replies.filter (fun q => decide (q.due ≤ s.now + s.boundaryIn + replyTicks)) ++ ⟨b, exvApplied, [], e, s.now + s.boundaryIn + replyTicks⟩ :: s.bank.replies.filter (fun q => decide (s.now + s.boundaryIn + replyTicks < q.due)) ∧
      (s.routed 977 = true → t.raised 977 = true) ∧
      (∀ k : Fin 6, t.bank.activeB[k] = (s.bank.activeB[k] != e.mask.contains (k.val + 1))) ∧
      (∀ k : Fin 6, s.bank.arb[k] ≤ t.bank.arb[k]) ∧
      (∀ k : Fin 6, e.mask.contains (k.val + 1) = true → ∀ i ∈ s.storedImage (k.val + 1), descArb i.desc ≤ t.bank.arb[k])) ∧
  (∀ (s : State) (b : Nat) (e : Envelope) (l : List (Nat × Envelope)),
    s.bank.accepted = (b, e) :: l →
    e.cls = xLcAdvance →
    s.toNextBoundary.checksLate e = exvAccepted →
    (s.plan.await = none ∨ s.plan.awaitFrame.isSome = true) →
    ∃ t, exec .lcAdvance s = .next t ∧
      t.bank.accepted = l ∧
      t.now = s.now + s.boundaryIn ∧
      t.bank.replies = s.bank.replies.filter (fun q => decide (q.due ≤ s.now + s.boundaryIn + replyTicks)) ++ ⟨b, exvApplied, [], e, s.now + s.boundaryIn + replyTicks⟩ :: s.bank.replies.filter (fun q => decide (s.now + s.boundaryIn + replyTicks < q.due)) ∧
      (s.routed 977 = true → t.raised 977 = true) ∧
      t.bank.fuse = some (byteAt (e.val 0x4001) 0) ∧
      t.bank.adit = none) ∧
  (∀ (s : State) (b : Nat) (e : Envelope) (l : List (Nat × Envelope)),
    s.bank.accepted = (b, e) :: l →
    e.cls = xExport →
    s.toNextBoundary.checksLate e = exvAccepted →
    (s.plan.await = none ∨ s.plan.awaitFrame.isSome = true) →
    ∃ t, exec .exportRecords s = .next t ∧
      t.bank.accepted = l ∧
      t.now = s.now + s.boundaryIn ∧
      t.bank.replies = s.bank.replies.filter (fun q => decide (q.due ≤ s.now + s.boundaryIn + replyTicks)) ++ ⟨b, exvApplied, s.toNextBoundary.exportData, e, s.now + s.boundaryIn + replyTicks⟩ :: s.bank.replies.filter (fun q => decide (s.now + s.boundaryIn + replyTicks < q.due)) ∧
      (s.routed 977 = true → t.raised 977 = true)) ∧
  (∀ (s : State) (r : ReplyU) (l : List ReplyU),
    s.bank.replies = r :: l →
    (s.counter 6 < s.mark 6 ∨ s.grantable clsFlash = true) →
    s.bank.resetAsked = false →
    s.routed 976 = true →
    r.buf < 8 →
    s.on EX_MBCTL_CLAIMED r.buf = true →
    s.on EX_MBSTAT_BUSY r.buf = false →
    ∃ t, exec .applicationReplyRelease s = .next t ∧
      t.bank.replies = l ∧
      t.now = max s.now r.due ∧
      t.on EX_MBSTAT_DONE r.buf = true ∧
      t.get EX_MBSTAT_REASON r.buf = r.reason % 2 ^ EX_MBSTAT_REASON.width ∧
      t.raised 976 = true) ∧
  (∀ (s : State) (b : Nat) (e : Envelope) (l : List (Nat × Envelope)) (c : Nat),
    s.bank.accepted = (b, e) :: l →
    e.cls = xEnrol →
    s.toNextBoundary.checksLate e = c →
    (s.plan.await = none ∨ s.plan.awaitFrame.isSome = true) →
    c ≠ exvAccepted →
    ∃ t, exec .enrol s = .next t ∧
      t.bank = { s.bank with accepted := l, replies := s.bank.replies.filter (fun q => decide (q.due ≤ s.now + s.boundaryIn + replyTicks)) ++ ⟨b, c, [], e, s.now + s.boundaryIn + replyTicks⟩ :: s.bank.replies.filter (fun q => decide (s.now + s.boundaryIn + replyTicks < q.due)) } ∧
      t.now = s.now + s.boundaryIn ∧
      t.get EX_EXCNT_REFUSED = min (s.get EX_EXCNT_REFUSED + 1) (2 ^ EX_EXCNT_REFUSED.width - 1) ∧
      (s.routed 978 = true → t.raised 978 = true)) ∧
  (∀ (s : State),
    (∀ p ∈ s.bank.accepted.head?, p.2.cls ≠ xEnrol) →
    ∃ t, exec .enrol s = .next t ∧
      t = s) ∧
  (∀ (s : State) (b : Nat) (e : Envelope) (l : List (Nat × Envelope)) (c : Nat),
    s.bank.accepted = (b, e) :: l →
    e.cls = xRevoke →
    s.toNextBoundary.checksLate e = c →
    (s.plan.await = none ∨ s.plan.awaitFrame.isSome = true) →
    c ≠ exvAccepted →
    ∃ t, exec .revoke s = .next t ∧
      t.bank = { s.bank with accepted := l, replies := s.bank.replies.filter (fun q => decide (q.due ≤ s.now + s.boundaryIn + replyTicks)) ++ ⟨b, c, [], e, s.now + s.boundaryIn + replyTicks⟩ :: s.bank.replies.filter (fun q => decide (s.now + s.boundaryIn + replyTicks < q.due)) } ∧
      t.now = s.now + s.boundaryIn ∧
      t.get EX_EXCNT_REFUSED = min (s.get EX_EXCNT_REFUSED + 1) (2 ^ EX_EXCNT_REFUSED.width - 1) ∧
      (s.routed 978 = true → t.raised 978 = true)) ∧
  (∀ (s : State),
    (∀ p ∈ s.bank.accepted.head?, p.2.cls ≠ xRevoke) →
    ∃ t, exec .revoke s = .next t ∧
      t = s) ∧
  (∀ (s : State) (b : Nat) (e : Envelope) (l : List (Nat × Envelope)) (c : Nat),
    s.bank.accepted = (b, e) :: l →
    e.cls = xGenerate →
    s.toNextBoundary.checksLate e = c →
    (s.plan.await = none ∨ s.plan.awaitFrame.isSome = true) →
    c ≠ exvAccepted →
    ∃ t, exec .generate s = .next t ∧
      t.bank = { s.bank with accepted := l, replies := s.bank.replies.filter (fun q => decide (q.due ≤ s.now + s.boundaryIn + replyTicks)) ++ ⟨b, c, [], e, s.now + s.boundaryIn + replyTicks⟩ :: s.bank.replies.filter (fun q => decide (s.now + s.boundaryIn + replyTicks < q.due)) } ∧
      t.now = s.now + s.boundaryIn ∧
      t.get EX_EXCNT_REFUSED = min (s.get EX_EXCNT_REFUSED + 1) (2 ^ EX_EXCNT_REFUSED.width - 1) ∧
      (s.routed 978 = true → t.raised 978 = true)) ∧
  (∀ (s : State),
    (∀ p ∈ s.bank.accepted.head?, p.2.cls ≠ xGenerate) →
    ∃ t, exec .generate s = .next t ∧
      t = s) ∧
  (∀ (s : State) (b : Nat) (e : Envelope) (l : List (Nat × Envelope)) (c : Nat),
    s.bank.accepted = (b, e) :: l →
    e.cls = xImport →
    s.toNextBoundary.checksLate e = c →
    (s.plan.await = none ∨ s.plan.awaitFrame.isSome = true) →
    c ≠ exvAccepted →
    ∃ t, exec .importKey s = .next t ∧
      t.bank = { s.bank with accepted := l, replies := s.bank.replies.filter (fun q => decide (q.due ≤ s.now + s.boundaryIn + replyTicks)) ++ ⟨b, c, [], e, s.now + s.boundaryIn + replyTicks⟩ :: s.bank.replies.filter (fun q => decide (s.now + s.boundaryIn + replyTicks < q.due)) } ∧
      t.now = s.now + s.boundaryIn ∧
      t.get EX_EXCNT_REFUSED = min (s.get EX_EXCNT_REFUSED + 1) (2 ^ EX_EXCNT_REFUSED.width - 1) ∧
      (s.routed 978 = true → t.raised 978 = true)) ∧
  (∀ (s : State),
    (∀ p ∈ s.bank.accepted.head?, p.2.cls ≠ xImport) →
    ∃ t, exec .importKey s = .next t ∧
      t = s) ∧
  (∀ (s : State) (b : Nat) (e : Envelope) (l : List (Nat × Envelope)) (c : Nat),
    s.bank.accepted = (b, e) :: l →
    e.cls = xSealAck →
    s.toNextBoundary.checksLate e = c →
    (s.plan.await = none ∨ s.plan.awaitFrame.isSome = true) →
    c ≠ exvAccepted →
    ∃ t, exec .sealAck s = .next t ∧
      t.bank = { s.bank with accepted := l, replies := s.bank.replies.filter (fun q => decide (q.due ≤ s.now + s.boundaryIn + replyTicks)) ++ ⟨b, c, [], e, s.now + s.boundaryIn + replyTicks⟩ :: s.bank.replies.filter (fun q => decide (s.now + s.boundaryIn + replyTicks < q.due)) } ∧
      t.now = s.now + s.boundaryIn ∧
      t.get EX_EXCNT_REFUSED = min (s.get EX_EXCNT_REFUSED + 1) (2 ^ EX_EXCNT_REFUSED.width - 1) ∧
      (s.routed 978 = true → t.raised 978 = true)) ∧
  (∀ (s : State),
    (∀ p ∈ s.bank.accepted.head?, p.2.cls ≠ xSealAck) →
    ∃ t, exec .sealAck s = .next t ∧
      t = s) ∧
  (∀ (s : State) (b : Nat) (e : Envelope) (l : List (Nat × Envelope)) (c : Nat),
    s.bank.accepted = (b, e) :: l →
    e.cls = xTamperAck →
    s.toNextBoundary.checksLate e = c →
    (s.plan.await = none ∨ s.plan.awaitFrame.isSome = true) →
    c ≠ exvAccepted →
    ∃ t, exec .tamperAck s = .next t ∧
      t.bank = { s.bank with accepted := l, replies := s.bank.replies.filter (fun q => decide (q.due ≤ s.now + s.boundaryIn + replyTicks)) ++ ⟨b, c, [], e, s.now + s.boundaryIn + replyTicks⟩ :: s.bank.replies.filter (fun q => decide (s.now + s.boundaryIn + replyTicks < q.due)) } ∧
      t.now = s.now + s.boundaryIn ∧
      t.get EX_EXCNT_REFUSED = min (s.get EX_EXCNT_REFUSED + 1) (2 ^ EX_EXCNT_REFUSED.width - 1) ∧
      (s.routed 978 = true → t.raised 978 = true)) ∧
  (∀ (s : State),
    (∀ p ∈ s.bank.accepted.head?, p.2.cls ≠ xTamperAck) →
    ∃ t, exec .tamperAck s = .next t ∧
      t = s) ∧
  (∀ (s : State) (b : Nat) (e : Envelope) (l : List (Nat × Envelope)) (c : Nat),
    s.bank.accepted = (b, e) :: l →
    e.cls = xAditOpen →
    s.toNextBoundary.checksLate e = c →
    (s.plan.await = none ∨ s.plan.awaitFrame.isSome = true) →
    c ≠ exvAccepted →
    ∃ t, exec .aditOpen s = .next t ∧
      t.bank = { s.bank with accepted := l, replies := s.bank.replies.filter (fun q => decide (q.due ≤ s.now + s.boundaryIn + replyTicks)) ++ ⟨b, c, [], e, s.now + s.boundaryIn + replyTicks⟩ :: s.bank.replies.filter (fun q => decide (s.now + s.boundaryIn + replyTicks < q.due)) } ∧
      t.now = s.now + s.boundaryIn ∧
      t.get EX_EXCNT_REFUSED = min (s.get EX_EXCNT_REFUSED + 1) (2 ^ EX_EXCNT_REFUSED.width - 1) ∧
      (s.routed 978 = true → t.raised 978 = true)) ∧
  (∀ (s : State),
    (∀ p ∈ s.bank.accepted.head?, p.2.cls ≠ xAditOpen) →
    ∃ t, exec .aditOpen s = .next t ∧
      t = s) ∧
  (∀ (s : State) (b : Nat) (e : Envelope) (l : List (Nat × Envelope)) (c : Nat),
    s.bank.accepted = (b, e) :: l →
    e.cls = xAditClose →
    s.toNextBoundary.checksLate e = c →
    (s.plan.await = none ∨ s.plan.awaitFrame.isSome = true) →
    c ≠ exvAccepted →
    ∃ t, exec .aditClose s = .next t ∧
      t.bank = { s.bank with accepted := l, replies := s.bank.replies.filter (fun q => decide (q.due ≤ s.now + s.boundaryIn + replyTicks)) ++ ⟨b, c, [], e, s.now + s.boundaryIn + replyTicks⟩ :: s.bank.replies.filter (fun q => decide (s.now + s.boundaryIn + replyTicks < q.due)) } ∧
      t.now = s.now + s.boundaryIn ∧
      t.get EX_EXCNT_REFUSED = min (s.get EX_EXCNT_REFUSED + 1) (2 ^ EX_EXCNT_REFUSED.width - 1) ∧
      (s.routed 978 = true → t.raised 978 = true)) ∧
  (∀ (s : State),
    (∀ p ∈ s.bank.accepted.head?, p.2.cls ≠ xAditClose) →
    ∃ t, exec .aditClose s = .next t ∧
      t = s) ∧
  (∀ (s : State) (b : Nat) (e : Envelope) (l : List (Nat × Envelope)) (c : Nat),
    s.bank.accepted = (b, e) :: l →
    e.cls = xImage →
    s.toNextBoundary.checksLate e = c →
    (s.plan.await = none ∨ s.plan.awaitFrame.isSome = true) →
    c ≠ exvAccepted →
    ∃ t, exec .image s = .next t ∧
      t.bank = { s.bank with accepted := l, replies := s.bank.replies.filter (fun q => decide (q.due ≤ s.now + s.boundaryIn + replyTicks + copyMs (descLength (e.val 0x3001)) * ms)) ++ ⟨b, c, [], e, s.now + s.boundaryIn + replyTicks + copyMs (descLength (e.val 0x3001)) * ms⟩ :: s.bank.replies.filter (fun q => decide (s.now + s.boundaryIn + replyTicks + copyMs (descLength (e.val 0x3001)) * ms < q.due)) } ∧
      t.now = s.now + s.boundaryIn ∧
      t.get EX_EXCNT_REFUSED = min (s.get EX_EXCNT_REFUSED + 1) (2 ^ EX_EXCNT_REFUSED.width - 1) ∧
      (s.routed 978 = true → t.raised 978 = true)) ∧
  (∀ (s : State),
    (∀ p ∈ s.bank.accepted.head?, p.2.cls ≠ xImage) →
    ∃ t, exec .image s = .next t ∧
      t = s) ∧
  (∀ (s : State) (b : Nat) (e : Envelope) (l : List (Nat × Envelope)) (c : Nat),
    s.bank.accepted = (b, e) :: l →
    e.cls = xActivate →
    s.toNextBoundary.checksLate e = c →
    (s.plan.await = none ∨ s.plan.awaitFrame.isSome = true) →
    c ≠ exvAccepted →
    ∃ t, exec .activate s = .next t ∧
      t.bank = { s.bank with accepted := l, replies := s.bank.replies.filter (fun q => decide (q.due ≤ s.now + s.boundaryIn + replyTicks)) ++ ⟨b, c, [], e, s.now + s.boundaryIn + replyTicks⟩ :: s.bank.replies.filter (fun q => decide (s.now + s.boundaryIn + replyTicks < q.due)) } ∧
      t.now = s.now + s.boundaryIn ∧
      t.get EX_EXCNT_REFUSED = min (s.get EX_EXCNT_REFUSED + 1) (2 ^ EX_EXCNT_REFUSED.width - 1) ∧
      (s.routed 978 = true → t.raised 978 = true)) ∧
  (∀ (s : State),
    (∀ p ∈ s.bank.accepted.head?, p.2.cls ≠ xActivate) →
    ∃ t, exec .activate s = .next t ∧
      t = s) ∧
  (∀ (s : State) (b : Nat) (e : Envelope) (l : List (Nat × Envelope)) (c : Nat),
    s.bank.accepted = (b, e) :: l →
    e.cls = xLcAdvance →
    s.toNextBoundary.checksLate e = c →
    (s.plan.await = none ∨ s.plan.awaitFrame.isSome = true) →
    c ≠ exvAccepted →
    ∃ t, exec .lcAdvance s = .next t ∧
      t.bank = { s.bank with accepted := l, replies := s.bank.replies.filter (fun q => decide (q.due ≤ s.now + s.boundaryIn + replyTicks)) ++ ⟨b, c, [], e, s.now + s.boundaryIn + replyTicks⟩ :: s.bank.replies.filter (fun q => decide (s.now + s.boundaryIn + replyTicks < q.due)) } ∧
      t.now = s.now + s.boundaryIn ∧
      t.get EX_EXCNT_REFUSED = min (s.get EX_EXCNT_REFUSED + 1) (2 ^ EX_EXCNT_REFUSED.width - 1) ∧
      (s.routed 978 = true → t.raised 978 = true)) ∧
  (∀ (s : State),
    (∀ p ∈ s.bank.accepted.head?, p.2.cls ≠ xLcAdvance) →
    ∃ t, exec .lcAdvance s = .next t ∧
      t = s) ∧
  (∀ (s : State) (b : Nat) (e : Envelope) (l : List (Nat × Envelope)) (c : Nat),
    s.bank.accepted = (b, e) :: l →
    e.cls = xExport →
    s.toNextBoundary.checksLate e = c →
    (s.plan.await = none ∨ s.plan.awaitFrame.isSome = true) →
    c ≠ exvAccepted →
    ∃ t, exec .exportRecords s = .next t ∧
      t.bank = { s.bank with accepted := l, replies := s.bank.replies.filter (fun q => decide (q.due ≤ s.now + s.boundaryIn + replyTicks)) ++ ⟨b, c, [], e, s.now + s.boundaryIn + replyTicks⟩ :: s.bank.replies.filter (fun q => decide (s.now + s.boundaryIn + replyTicks < q.due)) } ∧
      t.now = s.now + s.boundaryIn ∧
      t.get EX_EXCNT_REFUSED = min (s.get EX_EXCNT_REFUSED + 1) (2 ^ EX_EXCNT_REFUSED.width - 1) ∧
      (s.routed 978 = true → t.raised 978 = true)) ∧
  (∀ (s : State),
    (∀ p ∈ s.bank.accepted.head?, p.2.cls ≠ xExport) →
    ∃ t, exec .exportRecords s = .next t ∧
      t = s) ∧
  (∀ (s : State) (c : Bool) (w : ImageWrite),
    s.bank.writing = some w →
    (s.counter 6 < s.mark 6 ∨ s.grantable clsFlash = true) →
    s.bank.resetAsked = false →
    1 ≤ w.typ →
    w.typ ≤ 6 →
    s.routed 979 = true →
    ∃ t, exec (.imageReplyRelease c) s = .next t ∧
      t.bank.writing = none ∧
      t.on EX_EXSTAT_IMGBUSY = false ∧
      (t.imageIn w.typ w.slotB = if c then none else w.image) ∧
      t.now = max s.now w.reply.due ∧
      t.raised 979 = true) ∧
  (∀ (s : State) (r : ReplyU),
    s.bank.replies = [r] →
    (s.counter 6 < s.mark 6 ∨ s.grantable clsFlash = true) →
    s.bank.resetAsked = true →
    s.bank.writing = none →
    ∃ t, exec .applicationReplyRelease s = .next t ∧
      t.bank.replies = [] ∧
      t.get RS_RSTSTAT_LASTSCOPE = scopeFull ∧
      t.supply.step = 1) ∧
  (∀ (s : State),
    s.bank.replies = [] →
    ∃ t, exec .applicationReplyRelease s = .next t ∧
      t = s) ∧
  (∀ (s : State) (c : Bool),
    s.bank.writing = none →
    ∃ t, exec (.imageReplyRelease c) s = .next t ∧
      t = s)

/-- Synthesizers start and lock, spread is set, the PWM ramp runs, units leave reset. Enabling a synthesizer starts its 200 µs to lock (CONV and PWM
not in NIGHT); disabling ends LOCKED; disabling SYS, or changing PWM or CONV with a block not STOPPED, sets CFG_DENIED and keeps EN; a write of EN's
value does nothing. At the end of the 200 µs LOCKED is set, with source 1014 where routed, and SYS ends start-up step 2. A monitor window ends with
FMON_ERR and source 1008 + n where its mean is more than 2 % from the expected one, else without, and the next begins. REFCLK lost while selected sets
REF_LOST with source 1012; unselected it does nothing. A new SRC keeps LOCKED and starts the 200 µs of every enabled synthesizer with power; the same
SRC does nothing. SSCFG takes an admissible word; another sets CFG_DENIED and changes none. GO without STOP of an admissible profile runs it from
segment 0, or with STARTSRC waits, announced by a master; another sets CFG_DENIED and keeps STATE. STOP without GO ends WAIT in IDLE at 250 MHz,
source 1013 where routed, RUN in REALIGN, and keeps other states. Each update gives FREQ its value: in RUN the segment goes on, steps, repeats, ends
in REALIGN from 250 MHz or holds; in REALIGN 0.1 MHz nearer 250 MHz. There IDLE follows, source 1013; elsewhere nothing. A unit written or pending
leaves reset when its clock is locked and PICK released; without lock it waits; others keep theirs. (R382, R383, R384, R385, R387, R388, R389, R407)
-/
def Obligations.WinderClocksStartAndRamp : Prop :=
  (∀ (s : State) (m : Master) (n : Fin 4) (v : Word),
    s.busOpen m = true →
    s.get WI_SCTL_EN n.val = 0 →
    WI_SCTL_EN.of v = 1 →
    (n.val = synSys ∨ n.val = synSerdes ∨ s.allStopped = true) →
    ∃ t, exec (.synthEnable m n v) s = .next t ∧
      t.get WI_SCTL_EN n.val = 1 ∧
      (n.val = synSys ∨ n.val = synSerdes ∨ s.on PR_PWRSTAT_STATE = false → t.deadline (.synthLock n.val) = some (s.now + lockTicks))) ∧
  (∀ (s : State) (m : Master) (n : Fin 4) (v : Word),
    s.busOpen m = true →
    s.get WI_SCTL_EN n.val = 1 →
    WI_SCTL_EN.of v = 0 →
    n.val ≠ synSys →
    (n.val = synSerdes ∨ s.allStopped = true) →
    ∃ t, exec (.synthEnable m n v) s = .next t ∧
      t.get WI_SCTL_EN n.val = 0 ∧
      t.on WI_SSTAT_LOCKED n.val = false ∧
      t.armed (.synthLock n.val) = false) ∧
  (∀ (s : State) (m : Master) (n : Fin 4) (v : Word),
    s.busOpen m = true →
    WI_SCTL_EN.of v ≠ s.get WI_SCTL_EN n.val →
    ((n.val = synSys ∧ WI_SCTL_EN.of v = 0) ∨ ((n.val = synPwm ∨ n.val = synConv) ∧ s.allStopped = false)) →
    ∃ t, exec (.synthEnable m n v) s = .next t ∧
      t.get WI_SCTL_EN n.val = s.get WI_SCTL_EN n.val ∧
      t.on WI_WSTAT_CFG_DENIED = true ∧
      (∀ k : Fin 4, t.on WI_SSTAT_LOCKED k.val = s.on WI_SSTAT_LOCKED k.val)) ∧
  (∀ (s : State) (m : Master) (n : Fin 4) (v : Word),
    s.busOpen m = true →
    WI_SCTL_EN.of v = s.get WI_SCTL_EN n.val →
    ∃ t, exec (.synthEnable m n v) s = .next t ∧
      t = s) ∧
  (∀ (s : State) (n : Fin 4) (d : Nat),
    s.deadline (.synthLock n.val) = some d →
    ∃ t, exec (.synthLocked n) s = .next t ∧
      t.on WI_SSTAT_LOCKED n.val = true ∧
      (s.routed 1014 = true → t.raised 1014 = true) ∧
      t.now = max s.now d ∧
      t.deadline (.fmon n.val) = some (t.now + 100 * us) ∧
      (n.val = synSys → s.supply.step = 2 → t.supply.step = 3)) ∧
  (∀ (s : State) (n : Fin 4),
    s.deadline (.synthLock n.val) = none →
    ∃ t, exec (.synthLocked n) s = .next t ∧
      t = s) ∧
  (∀ (s : State) (w : FmonMean) (d : Nat) (e : Nat),
    s.deadline (.fmon w.synth.val) = some d →
    (e = if w.synth.val = synSys then 1000000 - (if s.get WI_SSCFG_MODE synSys = 1 then 500 * s.get WI_SSCFG_SSAMT synSys else 0) else if w.synth.val = synPwm then ((s.advanceTo d).pwmPhase - s.winder.fmonFrom) / (16 * 100 * us) else 1000000) →
    e < 50 * (max w.mean e - min w.mean e) →
    s.routed (1008 + w.synth.val) = true →
    ∃ t, exec (.fmonErr w) s = .next t ∧
      t.on WI_SSTAT_FMON_ERR w.synth.val = true ∧
      t.raised (1008 + w.synth.val) = true ∧
      t.now = max s.now d ∧
      t.deadline (.fmon w.synth.val) = some (t.now + 100 * us)) ∧
  (∀ (s : State) (w : FmonMean) (d : Nat) (e : Nat),
    s.deadline (.fmon w.synth.val) = some d →
    (e = if w.synth.val = synSys then 1000000 - (if s.get WI_SSCFG_MODE synSys = 1 then 500 * s.get WI_SSCFG_SSAMT synSys else 0) else if w.synth.val = synPwm then ((s.advanceTo d).pwmPhase - s.winder.fmonFrom) / (16 * 100 * us) else 1000000) →
    50 * (max w.mean e - min w.mean e) ≤ e →
    ∃ t, exec (.fmonErr w) s = .next t ∧
      (∀ k : Fin 4, t.rdw .WI_SSTAT k.val = s.rdw .WI_SSTAT k.val) ∧
      t.now = max s.now d ∧
      t.deadline (.fmon w.synth.val) = some (t.now + 100 * us)) ∧
  (∀ (s : State) (w : FmonMean),
    s.deadline (.fmon w.synth.val) = none →
    ∃ t, exec (.fmonErr w) s = .next t ∧
      t = s) ∧
  (∀ (s : State),
    s.get WI_WCTL_SRC = 1 →
    s.routed 1012 = true →
    ∃ t, exec .refLost s = .next t ∧
      t.on WI_WSTAT_REF_LOST = true ∧
      t.raised 1012 = true) ∧
  (∀ (s : State),
    s.get WI_WCTL_SRC = 0 →
    ∃ t, exec .refLost s = .next t ∧
      t = s) ∧
  (∀ (s : State) (m : Master) (v : Word),
    s.busOpen m = true →
    WI_WCTL_SRC.of v ≠ s.get WI_WCTL_SRC →
    ∃ t, exec (.refSourceWrite m v) s = .next t ∧
      t.get WI_WCTL_SRC = WI_WCTL_SRC.of v ∧
      (∀ n : Fin 4, s.on WI_SCTL_EN n.val = true → (n.val = synSys ∨ n.val = synSerdes ∨ s.on PR_PWRSTAT_STATE = false) → t.deadline (.synthLock n.val) = some (s.now + lockTicks)) ∧
      (∀ n : Fin 4, t.on WI_SSTAT_LOCKED n.val = s.on WI_SSTAT_LOCKED n.val)) ∧
  (∀ (s : State) (m : Master) (v : Word),
    s.busOpen m = true →
    WI_WCTL_SRC.of v = s.get WI_WCTL_SRC →
    ∃ t, exec (.refSourceWrite m v) s = .next t ∧
      t = s) ∧
  (∀ (s : State) (m : Master) (n : Fin 4) (v : Word),
    s.busOpen m = true →
    s.spreadRefused n.val v = false →
    ∃ t, exec (.spreadWrite m n v) s = .next t ∧
      t.rdw .WI_SSCFG n.val = RegId.WI_SSCFG.written (s.rdw .WI_SSCFG n.val) v) ∧
  (∀ (s : State) (m : Master) (n : Fin 4) (v : Word),
    s.busOpen m = true →
    s.spreadRefused n.val v = true →
    v &&& BitVec.ofNat 32 RegId.WI_SSCFG.reg.rw ≠ s.rdw .WI_SSCFG n.val →
    ∃ t, exec (.spreadWrite m n v) s = .next t ∧
      t.rdw .WI_SSCFG n.val = s.rdw .WI_SSCFG n.val ∧
      t.on WI_WSTAT_CFG_DENIED = true) ∧
  (∀ (s : State) (m : Master) (v : Word),
    s.busOpen m = true →
    WI_RCTL_STOP.of v = 0 →
    (s.regWrite .WI_RCTL (WI_RCTL_GO.into v 1)).winderGoRefused = false →
    ∃ t, exec (.winderRampGo m v) s = .next t ∧
      (WI_RCTL_STARTSRC.of v = 0 → t.get WI_RSTAT_STATE = wrRun ∧ t.get WI_RSTAT_SEG = 0 ∧ t.winder.segStart = 250000 ∧ t.winder.t = 0 ∧ t.deadline .winderRamp = some (s.now + us)) ∧
      (WI_RCTL_STARTSRC.of v = 1 → t.get WI_RSTAT_STATE = wrWait ∧ (s.on UH_USTAT_MASTER = true → t.uhla.pstart = true))) ∧
  (∀ (s : State) (m : Master) (v : Word),
    s.busOpen m = true →
    WI_RCTL_STOP.of v = 0 →
    (s.regWrite .WI_RCTL (WI_RCTL_GO.into v 1)).winderGoRefused = true →
    ∃ t, exec (.winderRampGo m v) s = .next t ∧
      t.on WI_WSTAT_CFG_DENIED = true ∧
      t.get WI_RSTAT_STATE = s.get WI_RSTAT_STATE) ∧
  (∀ (s : State) (m : Master) (v : Word),
    s.busOpen m = true →
    WI_RCTL_GO.of v = 0 →
    ∃ t, exec (.winderRampStop m v) s = .next t ∧
      (s.get WI_RSTAT_STATE = wrWait → t.get WI_RSTAT_STATE = wrIdle ∧ t.get WI_RSTAT_FREQ = 250000 ∧ (s.routed 1013 = true → t.raised 1013 = true)) ∧
      (s.get WI_RSTAT_STATE = wrRun → t.get WI_RSTAT_STATE = wrRealign ∧ t.deadline .winderRamp = some (s.now + us)) ∧
      (s.get WI_RSTAT_STATE ≠ wrWait → s.get WI_RSTAT_STATE ≠ wrRun → t.get WI_RSTAT_STATE = s.get WI_RSTAT_STATE)) ∧
  (∀ (s : State) (d : Nat),
    s.deadline .winderRamp = some d →
    s.get WI_RSTAT_STATE = wrRun →
    ∃ t, exec .winderRampUpdate s = .next t ∧
      (t.get WI_RSTAT_FREQ = (if s.winder.t + 1 < s.winderDur (s.get WI_RSTAT_SEG) then rampFreq s.winder.segStart (s.get WI_RSEG_RFEND (s.get WI_RSTAT_SEG)) (s.winder.t + 1) (s.winderDur (s.get WI_RSTAT_SEG)) else s.get WI_RSEG_RFEND (s.get WI_RSTAT_SEG)) % 2 ^ WI_RSTAT_FREQ.width) ∧
      t.now = max s.now d ∧
      (s.winder.t + 1 < s.winderDur (s.get WI_RSTAT_SEG) → t.winder.t = s.winder.t + 1 ∧ t.get WI_RSTAT_SEG = s.get WI_RSTAT_SEG ∧ t.get WI_RSTAT_STATE = wrRun ∧ t.deadline .winderRamp = some (t.now + us)) ∧
      (s.winderDur (s.get WI_RSTAT_SEG) ≤ s.winder.t + 1 → t.winder.t = 0 ∧ t.winder.segStart = s.get WI_RSEG_RFEND (s.get WI_RSTAT_SEG)) ∧
      (s.winderDur (s.get WI_RSTAT_SEG) ≤ s.winder.t + 1 → s.get WI_RSTAT_SEG < s.get WI_RCTL_NSEG → t.get WI_RSTAT_SEG = s.get WI_RSTAT_SEG + 1 ∧ t.deadline .winderRamp = some (t.now + us)) ∧
      (s.winderDur (s.get WI_RSTAT_SEG) ≤ s.winder.t + 1 → s.get WI_RCTL_NSEG ≤ s.get WI_RSTAT_SEG → s.on WI_RCTL_REPEAT = true → t.get WI_RSTAT_SEG = 0 ∧ t.deadline .winderRamp = some (t.now + us)) ∧
      (s.winderDur (s.get WI_RSTAT_SEG) ≤ s.winder.t + 1 → s.get WI_RCTL_NSEG ≤ s.get WI_RSTAT_SEG → s.on WI_RCTL_REPEAT = false → t.get WI_RSTAT_STATE = if s.get WI_RSEG_RFEND (s.get WI_RSTAT_SEG) = 250000 then wrRealign else wrRun)) ∧
  (∀ (s : State) (d : Nat),
    s.deadline .winderRamp = some d →
    s.get WI_RSTAT_STATE = wrRealign →
    ∃ t, exec .winderRampUpdate s = .next t ∧
      (t.get WI_RSTAT_FREQ = if s.get WI_RSTAT_FREQ < 250000 then min 250000 (s.get WI_RSTAT_FREQ + 100) else max 250000 (s.get WI_RSTAT_FREQ - 100)) ∧
      t.now = max s.now d ∧
      (t.get WI_RSTAT_FREQ ≠ 250000 → t.deadline .winderRamp = some (t.now + us))) ∧
  (∀ (s : State),
    s.deadline .winderRamp = none →
    ∃ t, exec .winderRampUpdate s = .next t ∧
      t = s) ∧
  (∀ (s : State),
    s.get WI_RSTAT_STATE = wrRealign →
    s.get WI_RSTAT_FREQ = 250000 →
    ∃ t, exec .realignComplete s = .next t ∧
      t.get WI_RSTAT_STATE = wrIdle ∧
      t.get WI_RSTAT_FREQ = 250000 ∧
      (s.routed 1013 = true → t.raised 1013 = true)) ∧
  (∀ (s : State),
    (s.get WI_RSTAT_STATE ≠ wrRealign ∨ s.get WI_RSTAT_FREQ ≠ 250000) →
    ∃ t, exec .realignComplete s = .next t ∧
      t = s) ∧
  (∀ (s : State) (m : Master) (v : Word),
    s.busOpen m = true →
    ∃ t, exec (.rstrelWrite m v) s = .next t ∧
      (∀ k : Fin 7, bit v k.val = true → s.canRelease k.val = true → t.released k.val = true) ∧
      (∀ k : Fin 7, bit v k.val = true → s.released k.val = false → s.on WI_SSTAT_LOCKED (s.unitClock k.val) = false → t.released k.val = false ∧ t.bitOf RS_RSTREL_CLK_WAIT k.val = true) ∧
      (∀ k : Fin 7, bit v k.val = false → t.released k.val = s.released k.val) ∧
      (∀ k : Fin 7, s.released k.val = true → t.released k.val = true)) ∧
  (∀ (s : State),
    ∃ t, exec .pendingRelease s = .next t ∧
      (∀ k : Fin 7, s.bitOf RS_RSTREL_CLK_WAIT k.val = true → s.canRelease k.val = true → t.released k.val = true ∧ t.bitOf RS_RSTREL_CLK_WAIT k.val = false ∧ (s.routed 996 = true → t.raised 996 = true)) ∧
      (∀ k : Fin 7, s.bitOf RS_RSTREL_CLK_WAIT k.val = false ∨ s.on WI_SSTAT_LOCKED (s.unitClock k.val) = false → t.released k.val = s.released k.val ∧ t.bitOf RS_RSTREL_CLK_WAIT k.val = s.bitOf RS_RSTREL_CLK_WAIT k.val))

/-- Power requests are taken at a boundary; supplies and wake sources move the module. A lock-step master's request is stored and pending; another
master's sets PWR_DENIED and is not stored. At the boundary of a later tick NIGHT is entered with every block STOPPED and an admissible pair choice
(source 992, the reference off, the engines unloaded), else denied; PARK with every block STOPPED, mailbox and image writer idle (the control die off,
the Assay stopped, the cells' pins off), denied with a block not STOPPED or after 100 ms, else it waits; RUN ends NIGHT (source 992, its pairs start)
and is denied outside NIGHT; at another time nothing happens. In PARK with VAUX an enabled wake source starts the control die and is shown as
LASTWAKE; a source disabled or elsewhere changes no supply state. RESET_N in RUN and NIGHT, and in PARK without RSTEN, is a full cold reset with cause
3; in LAMP-ONLY it does nothing. VAUX becoming valid is a full cold start with cause 0, or 1 after a brown-out; a brown-out turns every output and the
control die off and closes a GASP record of a running Assay; each does nothing twice. A powered rail's fault, no reset in progress, is a full cold
reset for the first five of R396 and a control-die one for the others, with cause 2; an unpowered rail's does nothing. The rails within their limits,
one after the other, end start-up step 1 and start SYS; otherwise nothing happens. The option load takes the newer valid copy, the valid one with
OPTFALLBACK, or the defaults with OPTFAIL. PAD.RELEASE releases the banks written, but none in the tick of a device warm reset. (R393, R394, R397,
R401, R402, R403, R404, R406, R410, R415, R419) -/
def Obligations.PowerStatesChange : Prop :=
  (∀ (s : State) (m : Master) (v : Word),
    s.busOpen m = true →
    s.lockstep m = true →
    ∃ t, exec (.pwrctlReqNight m v) s = .next t ∧
      t.supply.request = some 1 ∧
      t.supply.requestAt = s.now ∧
      t.on PR_PWRSTAT_PENDING = true) ∧
  (∀ (s : State) (m : Master) (v : Word),
    s.busOpen m = true →
    s.lockstep m = true →
    ∃ t, exec (.pwrctlReqPark m v) s = .next t ∧
      t.supply.request = some 2 ∧
      t.supply.requestAt = s.now ∧
      t.on PR_PWRSTAT_PENDING = true) ∧
  (∀ (s : State) (m : Master) (v : Word),
    s.busOpen m = true →
    s.lockstep m = true →
    ∃ t, exec (.pwrctlReqRun m v) s = .next t ∧
      t.supply.request = some 3 ∧
      t.supply.requestAt = s.now ∧
      t.on PR_PWRSTAT_PENDING = true) ∧
  (∀ (s : State) (m : Master) (v : Word),
    s.busOpen m = true →
    s.lockstep m = false →
    ∃ t, exec (.pwrctlReqRun m v) s = .next t ∧
      t.supply = s.supply ∧
      t.on PR_PWRSTAT_PWR_DENIED = true ∧
      t.rdw .PR_PWRCTL = s.rdw .PR_PWRCTL) ∧
  (∀ (s : State) (m : Master) (v : Word),
    s.busOpen m = true →
    s.lockstep m = false →
    ∃ t, exec (.pwrctlReqNight m v) s = .next t ∧
      t.supply = s.supply ∧
      t.on PR_PWRSTAT_PWR_DENIED = true ∧
      t.rdw .PR_PWRCTL = s.rdw .PR_PWRCTL) ∧
  (∀ (s : State) (m : Master) (v : Word),
    s.busOpen m = true →
    s.lockstep m = false →
    ∃ t, exec (.pwrctlReqPark m v) s = .next t ∧
      t.supply = s.supply ∧
      t.on PR_PWRSTAT_PWR_DENIED = true ∧
      t.rdw .PR_PWRCTL = s.rdw .PR_PWRCTL) ∧
  (∀ (s : State),
    (s.plan.madeAt ≠ some s.now ∨ s.supply.requestAt = s.now ∨ s.supply.request = none) →
    ∃ t, exec .powerStateChange s = .next t ∧
      t = s) ∧
  (∀ (s : State),
    s.plan.madeAt = some s.now →
    s.supply.requestAt ≠ s.now →
    s.supply.request = some 2 →
    s.allStopped = true →
    (s.get EX_EXSTAT_QUEUED ≠ 0 ∨ s.get EX_EXSTAT_IMGBUSY ≠ 0) →
    s.now < s.supply.requestAt + 100 * ms →
    ∃ t, exec .powerStateChange s = .next t ∧
      t = s) ∧
  (∀ (s : State),
    s.plan.madeAt = some s.now →
    s.supply.requestAt ≠ s.now →
    s.supply.request = some 3 →
    s.night = false →
    ∃ t, exec .powerStateChange s = .next t ∧
      t.supply.request = none ∧
      t.on PR_PWRSTAT_PENDING = false ∧
      t.on PR_PWRSTAT_PWR_DENIED = true ∧
      t.supply.place = s.supply.place ∧
      t.night = s.night) ∧
  (∀ (s : State),
    s.plan.madeAt = some s.now →
    s.supply.requestAt ≠ s.now →
    s.supply.request = some 2 →
    (s.allStopped = false ∨ s.supply.requestAt + 100 * ms < s.now ∨ ((s.get EX_EXSTAT_QUEUED ≠ 0 ∨ s.get EX_EXSTAT_IMGBUSY ≠ 0) ∧ s.now = s.supply.requestAt + 100 * ms)) →
    ∃ t, exec .powerStateChange s = .next t ∧
      t.supply.request = none ∧
      t.on PR_PWRSTAT_PENDING = false ∧
      t.on PR_PWRSTAT_PWR_DENIED = true ∧
      t.supply.place = s.supply.place ∧
      t.night = s.night) ∧
  (∀ (s : State),
    s.plan.madeAt = some s.now →
    s.supply.requestAt ≠ s.now →
    s.supply.request = some 1 →
    s.night = false →
    s.nightAllowed = true →
    s.routed 992 = true →
    ∃ t, exec .powerStateChange s = .next t ∧
      t.night = true ∧
      t.supply.request = none ∧
      t.on PR_PWRSTAT_PENDING = false ∧
      t.raised 992 = true ∧
      t.on SN_CTL_REFEN = false ∧
      (∀ e : Eng, t.on PK_PCTL_LOADED e.val = false)) ∧
  (∀ (s : State),
    s.plan.madeAt = some s.now →
    s.supply.requestAt ≠ s.now →
    s.supply.request = some 1 →
    (s.night = true ∨ s.nightAllowed = false) →
    ∃ t, exec .powerStateChange s = .next t ∧
      t.supply.request = none ∧
      t.on PR_PWRSTAT_PENDING = false ∧
      t.on PR_PWRSTAT_PWR_DENIED = true ∧
      t.supply.place = s.supply.place ∧
      t.night = s.night) ∧
  (∀ (s : State),
    s.plan.madeAt = some s.now →
    s.supply.requestAt ≠ s.now →
    s.supply.request = some 2 →
    s.allStopped = true →
    s.get EX_EXSTAT_QUEUED = 0 →
    s.get EX_EXSTAT_IMGBUSY = 0 →
    s.now ≤ s.supply.requestAt + 100 * ms →
    ∃ t, exec .powerStateChange s = .next t ∧
      t.supply.place = 1 ∧
      t.supply.request = none ∧
      t.supply.step = 0 ∧
      t.assay.running = false ∧
      t.get FM_FSAFEN_PR = 0 ∧
      (∀ c : Cell, t.cellOff c.val = true)) ∧
  (∀ (s : State),
    s.plan.madeAt = some s.now →
    s.supply.requestAt ≠ s.now →
    s.supply.request = some 3 →
    s.night = true →
    s.routed 992 = true →
    ∃ t, exec .powerStateChange s = .next t ∧
      t.night = false ∧
      t.supply.request = none ∧
      (∀ n : Pair, s.nightHeld n.val = true → t.pst n.val = pairStart) ∧
      t.raised 992 = true) ∧
  (∀ (s : State),
    s.supply.place = 1 →
    s.supply.vaux = true →
    s.on PR_WAKECFG_CLKEN = true →
    s.get PR_WAKEAT_SECONDS ≤ s.rtcSeconds % 2 ^ 32 →
    ∃ t, exec .wakeClock s = .next t ∧
      t.supply.place = 0 ∧
      t.supply.step = 2 ∧
      t.get PR_PWRSTAT_LASTWAKE = 1 ∧
      t.deadline (.synthLock synSys) = some (s.now + lockTicks)) ∧
  (∀ (s : State),
    (s.supply.place ≠ 1 ∨ s.supply.vaux = false ∨ s.on PR_WAKECFG_CLKEN = false ∨ s.rtcSeconds % 2 ^ 32 < s.get PR_WAKEAT_SECONDS) →
    ∃ t, exec .wakeClock s = .next t ∧
      t = s) ∧
  (∀ (s : State) (d : Nat),
    s.deadline .wakeGrid = some d →
    (s.supply.place ≠ 1 ∨ s.supply.vaux = false ∨ s.on PR_WAKECFG_GRIDEN = false) →
    ∃ t, exec .wakeGrid s = .next t ∧
      t.supply = s.supply ∧
      t.now = max s.now d) ∧
  (∀ (s : State),
    s.deadline .wakeGrid = none →
    ∃ t, exec .wakeGrid s = .next t ∧
      t = s) ∧
  (∀ (s : State) (d : Nat),
    s.deadline .wakeGrid = some d →
    s.supply.place = 1 →
    s.supply.vaux = true →
    s.on PR_WAKECFG_GRIDEN = true →
    ∃ t, exec .wakeGrid s = .next t ∧
      t.supply.place = 0 ∧
      t.supply.step = 2 ∧
      t.get PR_PWRSTAT_LASTWAKE = 2 ∧
      t.now = max s.now d) ∧
  (∀ (s : State),
    s.supply.place = 1 →
    s.supply.vaux = true →
    s.on PR_WAKECFG_RSTEN = true →
    ∃ t, exec .resetN s = .next t ∧
      t.supply.place = 0 ∧
      t.supply.step = 2 ∧
      t.get PR_PWRSTAT_LASTWAKE = 3) ∧
  (∀ (s : State),
    s.supply.place = 0 →
    s.resetting = false →
    ∃ t, exec .resetN s = .next t ∧
      t.get RS_RSTSTAT_LASTCAUSE = 3 ∧
      t.get RS_RSTSTAT_LASTSCOPE = scopeFull ∧
      t.supply.step = 1) ∧
  (∀ (s : State),
    s.supply.place = 1 →
    s.on PR_WAKECFG_RSTEN = false →
    s.supply.scope = scopeControl →
    ∃ t, exec .resetN s = .next t ∧
      t.get RS_RSTSTAT_LASTCAUSE = 3 ∧
      t.get RS_RSTSTAT_LASTSCOPE = scopeFull ∧
      t.supply.step = 1 ∧
      t.supply.place = 0) ∧
  (∀ (s : State),
    s.supply.place = 2 →
    ∃ t, exec .resetN s = .next t ∧
      t = s) ∧
  (∀ (s : State),
    s.supply.vaux = true →
    ∃ t, exec .vauxValid s = .next t ∧
      t = s) ∧
  (∀ (s : State),
    s.supply.vaux = false →
    ∃ t, exec .brownout s = .next t ∧
      t = s) ∧
  (∀ (s : State) (r : Fin 10),
    s.railPowered r.val = false →
    ∃ t, exec (.railFault r) s = .next t ∧
      t = s) ∧
  (∀ (s : State),
    (s.supply.step ≠ 1 ∨ s.supply.vaux = false) →
    ∃ t, exec .railsWithinLimits s = .next t ∧
      t = s) ∧
  (∀ (s : State),
    s.deadline .optLoad = none →
    ∃ t, exec .optionLoadComplete s = .next t ∧
      t = s) ∧
  (∀ (s : State),
    s.supply.vaux = false →
    ∃ t, exec .vauxValid s = .next t ∧
      t.supply.vaux = true ∧
      t.supply.place = 0 ∧
      t.supply.step = 1 ∧
      t.get RS_RSTSTAT_LASTCAUSE = s.supply.brownout.toNat ∧
      t.get RS_RSTSTAT_LASTSCOPE = scopeFull) ∧
  (∀ (s : State),
    s.supply.vaux = true →
    ∃ t, exec .brownout s = .next t ∧
      t.supply.vaux = false ∧
      t.supply.place = 2 ∧
      t.supply.brownout = true ∧
      t.on PR_RAILSTAT_BROWNOUT = true ∧
      (∀ c : Cell, t.cellOff c.val = true) ∧
      (∀ k : Fin 5, t.fm.drive[k] = false) ∧
      (s.assay.running = true → t.assay.closeDue = some saveGasp)) ∧
  (∀ (s : State) (r : Fin 10),
    s.railPowered r.val = true →
    s.resetting = false →
    ∃ t, exec (.railFault r) s = .next t ∧
      t.get RS_RSTSTAT_LASTCAUSE = 2 ∧
      (t.get RS_RSTSTAT_LASTSCOPE = (if r.val < 5 then scopeFull else scopeControl)) ∧
      (5 ≤ r.val → t.bitOf PR_RAILSTAT_FAULT r.val = true) ∧
      (t.supply.step = (if r.val < 5 then 1 else 2))) ∧
  (∀ (s : State),
    s.supply.step = 1 →
    s.supply.vaux = true →
    ∃ t, exec .railsWithinLimits s = .next t ∧
      t.supply.step = 2 ∧
      t.now = s.now + 2500 * s.supply.railFrom.toList.countP Option.isNone ∧
      (∀ r : Fin 10, t.supply.railFrom[r].isSome = true) ∧
      t.deadline (.synthLock synSys) = some (t.now + lockTicks)) ∧
  (∀ (s : State) (d : Nat),
    s.deadline .optLoad = some d →
    s.supply.step = 3 →
    ∃ t, exec .optionLoadComplete s = .next t ∧
      t.now = max s.now d ∧
      t.supply.step = 4 ∧
      t.on RS_RSTSTAT_OPTFAIL = (!optValid s.supply.optA && !optValid s.supply.optB) ∧
      t.on RS_RSTSTAT_OPTFALLBACK = (optValid s.supply.optA != optValid s.supply.optB) ∧
      (∀ j : Fin 16, t.rdw .RS_OPTIMG j.val = BitVec.ofNat 32 (optField (if optValid s.supply.optA then (if optValid s.supply.optB && newerB s.supply.optA s.supply.optB then s.supply.optB else s.supply.optA) else if optValid s.supply.optB then s.supply.optB else defaultOption 0) (4 * j.val) 4))) ∧
  (∀ (s : State) (m : Master) (v : Word),
    s.busOpen m = true →
    s.supply.resetAt = s.now →
    s.supply.scope = scopeDevice →
    ∃ t, exec (.padRelease m v) s = .next t ∧
      t.get RS_PADREL_HELD = s.get RS_PADREL_HELD) ∧
  (∀ (s : State) (m : Master) (v : Word),
    s.busOpen m = true →
    (s.supply.resetAt ≠ s.now ∨ s.supply.scope ≠ scopeDevice) →
    ∃ t, exec (.padRelease m v) s = .next t ∧
      t.get RS_PADREL_HELD = s.get RS_PADREL_HELD &&& (63 ^^^ RS_PADREL_BANK.of v))

/-- Watchdogs and RSTCTL reset their scope. From a lock-step master with the key and no reset in progress, SCOPE device warm resets the device with
cause 8 and stops every block; SCOPE pair warm resets the master's own pair, or a FAILED one, that is not in START or OFF, with cause 8, its number in
LASTPAIR, the lower cause where another pair's came in the same tick, and keeps its failure count. Another key, another master, or another pair that
is not FAILED sets RST_DENIED and changes no pair and no supply state. A kick by a pair's own core with the key restarts its running watchdog and the
time to WARNED, and does nothing to one that does not run; another master's, or another key, sets RST_DENIED and restarts nothing. Half the period
without a kick sets WARNED, source 994 where routed; the whole of it, no reset in progress and the pair not in START or OFF, is a pair warm reset with
cause 4, the lower cause where another came in the same tick, counted in RSTTOT; a pair in START merges it, counted alone. A watchdog that does not
run ends nothing. (R410, R412, R413) -/
def Obligations.ResetsAndWatchdogsAct : Prop :=
  (∀ (s : State) (m : Master) (v : Word),
    s.busOpen m = true →
    s.lockstep m = true →
    RS_RSTCTL_KEY.of v = 0x5A17 →
    s.resetting = false →
    ∃ t, exec (.rstctlDeviceWarm m v) s = .next t ∧
      t.get RS_RSTSTAT_LASTCAUSE = 8 ∧
      t.get RS_RSTSTAT_LASTSCOPE = scopeDevice ∧
      t.supply.step = 5 ∧
      (∀ b : Block, t.blk b.val = blkStopped)) ∧
  (∀ (s : State) (m : Master) (v : Word),
    s.busOpen m = true →
    (s.lockstep m = false ∨ RS_RSTCTL_KEY.of v ≠ 0x5A17) →
    ∃ t, exec (.rstctlDeviceWarm m v) s = .next t ∧
      t.on RS_RSTSTAT_RST_DENIED = true ∧
      t.supply = s.supply ∧
      (∀ k : Pair, t.pst k.val = s.pst k.val)) ∧
  (∀ (s : State) (n : Pair) (v : Word),
    s.busOpen (.pair n) = true →
    s.lockstep (.pair n) = true →
    RS_RSTCTL_PAIR.of v ≠ n.val →
    s.pst (RS_RSTCTL_PAIR.of v) ≠ pairFailed →
    ∃ t, exec (.rstctlPairWarm (.pair n) v) s = .next t ∧
      t.on RS_RSTSTAT_RST_DENIED = true ∧
      t.supply = s.supply ∧
      (∀ k : Pair, t.pst k.val = s.pst k.val)) ∧
  (∀ (s : State) (m : Master) (v : Word),
    s.busOpen m = true →
    (s.lockstep m = false ∨ RS_RSTCTL_KEY.of v ≠ 0x5A17) →
    ∃ t, exec (.rstctlPairWarm m v) s = .next t ∧
      t.on RS_RSTSTAT_RST_DENIED = true ∧
      t.supply = s.supply ∧
      (∀ k : Pair, t.pst k.val = s.pst k.val)) ∧
  (∀ (s : State) (n : Pair) (v : Word),
    s.busOpen (.pair n) = true →
    s.lockstep (.pair n) = true →
    RS_RSTCTL_KEY.of v = 0x5A17 →
    (RS_RSTCTL_PAIR.of v = n.val ∨ s.pst (RS_RSTCTL_PAIR.of v) = pairFailed) →
    RS_RSTCTL_PAIR.of v < 16 →
    s.resetting = false →
    s.pst (RS_RSTCTL_PAIR.of v) ≠ pairStart →
    s.pst (RS_RSTCTL_PAIR.of v) ≠ pairOff →
    ∃ t, exec (.rstctlPairWarm (.pair n) v) s = .next t ∧
      (t.get RS_RSTSTAT_LASTCAUSE = if s.supply.pairAt = some s.now then min 8 (s.get RS_RSTSTAT_LASTCAUSE) else 8) ∧
      t.get RS_RSTSTAT_LASTSCOPE = scopePair ∧
      t.get RS_RSTSTAT_LASTPAIR = RS_RSTCTL_PAIR.of v ∧
      t.pst (RS_RSTCTL_PAIR.of v) = pairStart ∧
      (t.pairU (RS_RSTCTL_PAIR.of v)).core0 = CoreU.reset ∧
      t.get DR_PCOUNT_FAILCNT (RS_RSTCTL_PAIR.of v) = s.get DR_PCOUNT_FAILCNT (RS_RSTCTL_PAIR.of v)) ∧
  (∀ (s : State) (m : Master) (n : Pair) (v : Word),
    s.busOpen m = true →
    masterPair m = some n.val →
    RS_WDTKICK_KEY.of v = 0xC3A5 →
    s.armed (.watchdog n.val) = true →
    ∃ t, exec (.wdtkick m n v) s = .next t ∧
      t.deadline (.watchdog n.val) = some (s.now + s.wdtPeriod n.val) ∧
      t.deadline (.warn n.val) = some (s.now + s.wdtPeriod n.val / 2)) ∧
  (∀ (s : State) (m : Master) (n : Pair) (v : Word),
    s.busOpen m = true →
    masterPair m = some n.val →
    RS_WDTKICK_KEY.of v = 0xC3A5 →
    s.armed (.watchdog n.val) = false →
    ∃ t, exec (.wdtkick m n v) s = .next t ∧
      t = s) ∧
  (∀ (s : State) (m : Master) (n : Pair) (v : Word),
    s.busOpen m = true →
    (masterPair m ≠ some n.val ∨ RS_WDTKICK_KEY.of v ≠ 0xC3A5) →
    ∃ t, exec (.wdtkick m n v) s = .next t ∧
      t.on RS_RSTSTAT_RST_DENIED = true ∧
      t.timers = s.timers) ∧
  (∀ (s : State) (n : Pair),
    s.deadline (.warn n.val) = none →
    ∃ t, exec (.warned n) s = .next t ∧
      t = s) ∧
  (∀ (s : State) (n : Pair),
    s.deadline (.watchdog n.val) = none →
    ∃ t, exec (.watchdogTimeout n) s = .next t ∧
      t = s) ∧
  (∀ (s : State) (n : Pair) (d : Nat),
    s.deadline (.watchdog n.val) = some d →
    s.pst n.val = pairStart →
    ∃ t, exec (.watchdogTimeout n) s = .next t ∧
      t.pst n.val = pairStart ∧
      t.get RS_RSTTOT_TOTAL = min (s.get RS_RSTTOT_TOTAL + 1) (2 ^ RS_RSTTOT_TOTAL.width - 1) ∧
      t.get RS_RSTSTAT_LASTPAIR = s.get RS_RSTSTAT_LASTPAIR ∧
      t.now = max s.now d) ∧
  (∀ (s : State) (n : Pair) (d : Nat),
    s.deadline (.warn n.val) = some d →
    ∃ t, exec (.warned n) s = .next t ∧
      t.on RS_WDTCTL_WARNED n.val = true ∧
      (s.routed 994 = true → t.raised 994 = true) ∧
      t.now = max s.now d) ∧
  (∀ (s : State) (n : Pair) (d : Nat),
    s.deadline (.watchdog n.val) = some d →
    s.resetting = false →
    s.pst n.val ≠ pairStart →
    s.pst n.val ≠ pairOff →
    ∃ t, exec (.watchdogTimeout n) s = .next t ∧
      (t.get RS_RSTSTAT_LASTCAUSE = if s.supply.pairAt = some (max s.now d) then min 4 (s.get RS_RSTSTAT_LASTCAUSE) else 4) ∧
      t.get RS_RSTSTAT_LASTSCOPE = scopePair ∧
      t.get RS_RSTSTAT_LASTPAIR = n.val ∧
      t.pst n.val = pairStart ∧
      t.now = max s.now d ∧
      t.get RS_RSTTOT_TOTAL = min (s.get RS_RSTTOT_TOTAL + 1) (2 ^ RS_RSTTOT_TOTAL.width - 1))

/-- The Lamp domain starts, meters its store and grants its energy. The domain loses its power without VAUX, its clock standing and no path in use;
with VAUX nothing happens. It starts, not powered, with its pattern as it was, without it every item at its reset value and LAMP_LOST set, LSTART the
strap; powered it stays as it is. Each second the powered domain's clock takes trusted PTP time; without either it keeps its own. Each gauge period, 1
ms with VAUX and 1 s without, E follows VSTORE and C, and the charger runs below its target with VAUX and a current; an unpowered domain keeps them. A
100 mV rise under the running charger from 1.60 V up, within the target, no burst overlapping and no grant outstanding, measures C; another measures
nothing. The charger stops at its target. A crossing selects the path of R428 and R429 for VSTORE, HVIN and the strap, none in an unpowered domain,
and the main path samples HVIN every 16 s, next from its selection. A completed burst ends one outstanding grant of its class and HELD follows; one
not outstanding ends nothing. Each 100 ms a waiting zeroisation asks again: granted it begins, refused it waits on and GRANT_REFUSED is set; with no
request waiting nothing happens. (R367, R424, R426, R427, R428, R429, R432, R433, R435, R436) -/
def Obligations.LampDomainKeepsItsStore : Prop :=
  (∀ (s : State),
    s.supply.vaux = false →
    ∃ t, exec .lampPowerLoss s = .next t ∧
      t.lamp.powered = false ∧
      t.rtcNow = s.rtcNow ∧
      t.get LA_LSTAT_PATH = pathNone) ∧
  (∀ (s : State),
    s.supply.vaux = true →
    ∃ t, exec .lampPowerLoss s = .next t ∧
      t = s) ∧
  (∀ (s : State) (p l : Bool),
    s.lamp.powered = true →
    ∃ t, exec (.lampStart p l) s = .next t ∧
      t = s) ∧
  (∀ (s : State) (p l : Bool),
    s.lamp.powered = false →
    ∃ t, exec (.lampStart p l) s = .next t ∧
      t.lamp.powered = true ∧
      t.on LA_LSTAT_LSTART = l ∧
      (p = true → t.lamp.counters = s.lamp.counters ∧ t.lamp.lost = s.lamp.lost) ∧
      (p = false → t.lamp.lost = true ∧ ∀ k : Fin 32, t.counter k.val = 0)) ∧
  (∀ (s : State) (d : Nat),
    s.deadline .lampSet = some d →
    s.trusted = true →
    s.lamp.powered = true →
    ∃ t, exec .lampClockSet s = .next t ∧
      t.now = max s.now d ∧
      t.lamp.rtcSet = some ((s.advanceTo d).ptpNs * 32768 / 1000000000 % 2 ^ 64) ∧
      t.rtcNow = (s.advanceTo d).ptpNs * 32768 / 1000000000 % 2 ^ 64 ∧
      t.deadline .lampSet = some (d + 1000 * ms)) ∧
  (∀ (s : State) (d : Nat),
    s.deadline .lampSet = some d →
    (s.trusted = false ∨ s.lamp.powered = false) →
    ∃ t, exec .lampClockSet s = .next t ∧
      t.lamp = s.lamp ∧
      t.now = max s.now d ∧
      t.deadline .lampSet = some (d + 1000 * ms)) ∧
  (∀ (s : State) (v : Nat) (d : Nat),
    s.deadline .gauge = some d →
    s.lamp.powered = false →
    ∃ t, exec (.gaugeUpdate v) s = .next t ∧
      t.rdw .LA_GAUGE = s.rdw .LA_GAUGE ∧
      t.rdw .LA_CAP = s.rdw .LA_CAP ∧
      t.rdw .LA_LSTAT = s.rdw .LA_LSTAT ∧
      t.deadline .gauge = some (d + s.gaugePeriod) ∧
      t.now = max s.now d) ∧
  (∀ (s : State) (v : Nat) (d : Nat),
    s.deadline .gauge = some d →
    s.lamp.powered = true →
    v < 2 ^ LA_CAP_VSTORE.width →
    gaugeEnergy (s.get LA_CAP_C) v < 2 ^ LA_GAUGE_E.width →
    ∃ t, exec (.gaugeUpdate v) s = .next t ∧
      t.get LA_CAP_VSTORE = v ∧
      t.get LA_GAUGE_E = gaugeEnergy (s.get LA_CAP_C) v ∧
      t.on LA_LSTAT_CHARGING = (s.supply.vaux && s.get LA_LCTL_CHGI != 0 && decide (v < s.vmax)) ∧
      t.deadline .gauge = some (d + s.gaugePeriod) ∧
      t.now = max s.now d) ∧
  (∀ (s : State) (u : Nat) (o : Bool),
    s.lamp.powered = true →
    s.on LA_LSTAT_CHARGING = true →
    1600 ≤ s.get LA_CAP_VSTORE →
    s.get LA_CAP_VSTORE + 100 ≤ s.vmax →
    o = false →
    s.lamp.grants = [] →
    divOpen (s.chargeCurrent * u) 100000 < 2 ^ LA_CAP_C.width →
    ∃ t, exec (.capMeasureComplete u o) s = .next t ∧
      t.get LA_CAP_C = divOpen (s.chargeCurrent * u) 100000 ∧
      t.on LA_LSTAT_CAPVALID = true ∧
      t.on LA_LSTAT_STORE_SMALL = decide (divOpen (s.chargeCurrent * u) 100000 < 400)) ∧
  (∀ (s : State) (u : Nat) (o : Bool),
    (s.lamp.powered = false ∨ s.on LA_LSTAT_CHARGING = false ∨ s.get LA_CAP_VSTORE < 1600 ∨ s.vmax < s.get LA_CAP_VSTORE + 100 ∨ o = true ∨ s.lamp.grants ≠ []) →
    ∃ t, exec (.capMeasureComplete u o) s = .next t ∧
      t = s) ∧
  (∀ (s : State),
    s.on LA_LSTAT_CHARGING = false →
    ∃ t, exec .chargeTargetReached s = .next t ∧
      t = s) ∧
  (∀ (s : State) (v h : Nat),
    s.lamp.powered = false →
    ∃ t, exec (.harvestPathSelect v h) s = .next t ∧
      t = s) ∧
  (∀ (s : State) (c : Fin 4),
    c.val ∉ s.lamp.grants →
    ∃ t, exec (.grantComplete c) s = .next t ∧
      t = s) ∧
  (∀ (s : State),
    s.deadline .grantRetry = none →
    ∃ t, exec .grantRetry s = .next t ∧
      t = s) ∧
  (∀ (s : State) (v : Nat),
    s.deadline .ocv = none →
    ∃ t, exec (.harvestOcvSample v) s = .next t ∧
      t = s) ∧
  (∀ (s : State),
    s.on LA_LSTAT_CHARGING = true →
    ∃ t, exec .chargeTargetReached s = .next t ∧
      t.on LA_LSTAT_CHARGING = false ∧
      t.get LA_CAP_VSTORE = s.vmax) ∧
  (∀ (s : State) (v : Nat) (d : Nat),
    s.deadline .ocv = some d →
    ∃ t, exec (.harvestOcvSample v) s = .next t ∧
      t.lamp.ocv = v ∧
      t.deadline .ocv = some (d + 16000 * ms) ∧
      t.now = max s.now d) ∧
  (∀ (s : State) (v h : Nat),
    s.lamp.powered = true →
    ∃ t, exec (.harvestPathSelect v h) s = .next t ∧
      t.get LA_LSTAT_PATH = harvestPath (s.on LA_LSTAT_LSTART) v h ∧
      t.armed .ocv = decide (harvestPath (s.on LA_LSTAT_LSTART) v h = pathMain) ∧
      (s.deadline .ocv = none → harvestPath (s.on LA_LSTAT_LSTART) v h = pathMain → t.deadline .ocv = some (s.now + 16000 * ms))) ∧
  (∀ (s : State) (c : Fin 4),
    c.val ∈ s.lamp.grants →
    ∃ t, exec (.grantComplete c) s = .next t ∧
      t.lamp.grants = s.lamp.grants.erase c.val ∧
      t.get LA_GHELD_HELD = ((s.lamp.grants.erase c.val).map grantCost).sum % 2 ^ LA_GHELD_HELD.width) ∧
  (∀ (s : State) (d : Nat),
    s.deadline .grantRetry = some d →
    s.bank.zeroWait = true →
    s.grantable clsZero = true →
    ∃ t, exec .grantRetry s = .next t ∧
      t.bank.zeroWait = false ∧
      t.bank.zeroise = true ∧
      t.now = max s.now d) ∧
  (∀ (s : State) (d : Nat),
    s.deadline .grantRetry = some d →
    s.bank.zeroWait = true →
    s.grantable clsZero = false →
    ∃ t, exec .grantRetry s = .next t ∧
      t.bank.zeroWait = true ∧
      t.bank.zeroise = s.bank.zeroise ∧
      t.armed .grantRetry = true ∧
      t.on LA_LSTAT_GRANT_REFUSED = true)

/-- Uhla: enabling, ports, link delays, shared values. A lock-step master that sets EN of the released unit starts both ports in TRAIN and locks RANK
and MFLAG, which take the written values unless they were locked before; while EN is 1 a write keeps them and takes MAXAGE. A port in TRAIN becomes UP
at its time, RINGOK following where the other port is UP and a trip returned; a port not DOWN that fails becomes DOWN, loops back and ends RINGOK,
with GID_MISMATCH where its neighbour is of another gallery; a DOWN port retrains at its time; each raises source 898 or 899. The link delay enters
UPORT of a port not DOWN. In another state, or with the unit not running, each changes nothing. USVPUT publishes, for this tick, an enabled value that
names a pair, its own; another's, or one not enabled or not sourced by a pair, is refused. USVCFG takes the word, but enabling a value beyond 21 is
refused. A master that is not a lock-step pair sets CFG_DENIED and changes no register or link state by EN, USVPUT and USVCFG. (R407, R455, R456,
R458, R460, R468, R477, R480) -/
def Obligations.UhlaPortsTrainAndShareValues : Prop :=
  (∀ (s : State) (m : Master) (v : Word),
    s.busOpen m = true →
    s.lockstep m = true →
    s.on UH_UCTL_EN = false →
    s.released uUhla = true →
    ∃ t, exec (.uhlaEnable m v) s = .next t ∧
      t.on UH_UCTL_EN = true ∧
      t.uhla.locked = true ∧
      t.get UH_UPORT_STATE 0 = portTrain ∧
      t.get UH_UPORT_STATE 1 = portTrain ∧
      t.uhla.lastValid = s.now ∧
      (t.get UH_UCTL_RANK = (if s.uhla.locked = true then s.get UH_UCTL_RANK else UH_UCTL_RANK.of v)) ∧
      (t.get UH_UCTL_MFLAG = (if s.uhla.locked = true then s.get UH_UCTL_MFLAG else UH_UCTL_MFLAG.of v))) ∧
  (∀ (s : State) (m : Master) (v : Word),
    s.busOpen m = true →
    s.lockstep m = true →
    s.on UH_UCTL_EN = true →
    ∃ t, exec (.uhlaEnable m v) s = .next t ∧
      t.get UH_UCTL_RANK = s.get UH_UCTL_RANK ∧
      t.get UH_UCTL_MFLAG = s.get UH_UCTL_MFLAG ∧
      t.get UH_UCTL_MAXAGE = UH_UCTL_MAXAGE.of v) ∧
  (∀ (s : State) (m : Master) (v : Word),
    s.busOpen m = true →
    s.lockstep m = false →
    ∃ t, exec (.uhlaEnable m v) s = .next t ∧
      t.on UH_USTAT_CFG_DENIED = true ∧
      t.rdw .UH_UCTL = s.rdw .UH_UCTL ∧
      t.uhla = s.uhla) ∧
  (∀ (s : State) (p : Fin 2),
    s.uhlaRuns = true →
    s.get UH_UPORT_STATE p.val = portTrain →
    s.routed (898 + p.val) = true →
    ∃ t, exec (.portUp p) s = .next t ∧
      t.get UH_UPORT_STATE p.val = portUp ∧
      t.now = max s.now s.uhla.portAt[p] ∧
      t.on UH_UPORT_LOOPBACK p.val = false ∧
      t.raised (898 + p.val) = true ∧
      (s.portIsUp (1 - p.val) = true ∧ s.uhla.returned = true → t.on UH_USTAT_RINGOK = true)) ∧
  (∀ (s : State) (p : Fin 2),
    (s.uhlaRuns = false ∨ s.get UH_UPORT_STATE p.val ≠ portTrain) →
    ∃ t, exec (.portUp p) s = .next t ∧
      t = s) ∧
  (∀ (s : State) (p : Fin 2) (gid : Bool),
    (s.uhlaRuns = false ∨ s.get UH_UPORT_STATE p.val = portDown) →
    ∃ t, exec (.portDown p gid) s = .next t ∧
      t = s) ∧
  (∀ (s : State) (p : Fin 2),
    (s.uhlaRuns = false ∨ s.get UH_UPORT_STATE p.val ≠ portDown) →
    ∃ t, exec (.portRetrain p) s = .next t ∧
      t = s) ∧
  (∀ (s : State) (p : Fin 2) (d : BitVec 24),
    (s.uhlaRuns = false ∨ s.get UH_UPORT_STATE p.val = portDown) →
    ∃ t, exec (.linkDelayMeasure p d) s = .next t ∧
      t = s) ∧
  (∀ (s : State) (p : Fin 2) (gid : Bool),
    s.uhlaRuns = true →
    s.get UH_UPORT_STATE p.val ≠ portDown →
    s.routed (898 + p.val) = true →
    ∃ t, exec (.portDown p gid) s = .next t ∧
      t.get UH_UPORT_STATE p.val = portDown ∧
      t.on UH_UPORT_LOOPBACK p.val = true ∧
      t.raised (898 + p.val) = true ∧
      t.on UH_USTAT_RINGOK = false ∧
      t.uhla.upSince = none ∧
      (gid = true → t.on UH_UPORT_GID_MISMATCH p.val = true)) ∧
  (∀ (s : State) (p : Fin 2),
    s.uhlaRuns = true →
    s.get UH_UPORT_STATE p.val = portDown →
    s.routed (898 + p.val) = true →
    ∃ t, exec (.portRetrain p) s = .next t ∧
      t.get UH_UPORT_STATE p.val = portTrain ∧
      t.now = max s.now s.uhla.portAt[p] ∧
      t.on UH_UPORT_LOOPBACK p.val = false ∧
      t.raised (898 + p.val) = true) ∧
  (∀ (s : State) (p : Fin 2) (d : BitVec 24),
    s.uhlaRuns = true →
    s.get UH_UPORT_STATE p.val ≠ portDown →
    ∃ t, exec (.linkDelayMeasure p d) s = .next t ∧
      t.get UH_UPORT_DELAY p.val = d.toNat) ∧
  (∀ (s : State) (m : Master) (v : Fin 256) (w : Word),
    s.busOpen m = true →
    s.lockstep m = true →
    s.on UH_USVCFG_EN v.val = true →
    s.on UH_USVCFG_SRC v.val = true →
    masterPair m = some (s.get UH_USVCFG_ID v.val) →
    ∃ t, exec (.usvput m v w) s = .next t ∧
      t.pub v.val = (s.pub v.val).put w s.now ∧
      ((t.pub v.val).value = w ∧ (t.pub v.val).at_ = some s.now) ∧
      (∀ k : Fin 256, k ≠ v → t.pub k.val = s.pub k.val)) ∧
  (∀ (s : State) (m : Master) (v : Fin 256) (w : Word),
    s.busOpen m = true →
    (s.on UH_USVCFG_EN v.val = false ∨ s.on UH_USVCFG_SRC v.val = false ∨ masterPair m ≠ some (s.get UH_USVCFG_ID v.val) ∨ s.lockstep m = false) →
    ∃ t, exec (.usvput m v w) s = .next t ∧
      t.on UH_USTAT_CFG_DENIED = true ∧
      t.uhla = s.uhla) ∧
  (∀ (s : State) (m : Master) (v : Fin 256) (w : Word),
    s.busOpen m = true →
    s.lockstep m = false →
    ∃ t, exec (.usvcfgWrite m v w) s = .next t ∧
      t.on UH_USTAT_CFG_DENIED = true ∧
      t.rdw .UH_USVCFG v.val = s.rdw .UH_USVCFG v.val ∧
      t.uhla = s.uhla) ∧
  (∀ (s : State) (m : Master) (v : Fin 256) (w : Word),
    s.busOpen m = true →
    s.lockstep m = true →
    (UH_USVCFG_EN.of w = 0 ∨ s.on UH_USVCFG_EN v.val = true ∨ s.sourced v.val < 21) →
    ∃ t, exec (.usvcfgWrite m v w) s = .next t ∧
      t.rdw .UH_USVCFG v.val = RegId.UH_USVCFG.written (s.rdw .UH_USVCFG v.val) w) ∧
  (∀ (s : State) (m : Master) (v : Fin 256) (w : Word),
    s.busOpen m = true →
    s.lockstep m = true →
    UH_USVCFG_EN.of w = 1 →
    s.on UH_USVCFG_EN v.val = false →
    21 ≤ s.sourced v.val →
    ∃ t, exec (.usvcfgWrite m v w) s = .next t ∧
      t.on UH_USTAT_CFG_DENIED = true ∧
      t.rdw .UH_USVCFG v.val = s.rdw .UH_USVCFG v.val)

/-- Uhla: superframes, mastership, trips. With the unit running, not isolated, at the time set: the master originates the superframe of the next SFN
and its next 1 µs on, a profile start announced for 4 SFN later, or ends its mastership at the hand-over; a device whose turn has come becomes master,
SFN continuing by elapsed time, MCHG and source 900; else nothing is sent. On an UP port a superframe of right CRC is valid at that tick: a follower
forwards it with its own section, the delay and a new CRC, taking SFN and MRANK of a newer one, and a value of another rank it does not source; a
master stays master, forwards nothing and sets a hand-over 64 SFN on for a flagged lower rank's REQM; another device of the own rank isolates this
one, source 901. One of wrong CRC is counted, POISONED or CRCERR with source 902, a follower forwards it poisoned, and the 16th in 1 ms takes the port
DOWN. After 8 µs of silence a follower takes the lowest rank that may lead as MRANK, itself to originate 16 µs after the last arrival. REQM is set 1 s
after both ports are UP by a lower flagged rank. Trip blocks of other ranks latch, once for a TSEQ, the groups of RXMASK (source 896), each arrival
noted; the own one closes the ring and gives LAT; of a bad CRC they are counted, of another GID dropped. UTRIPGO of an enabled cause sends one (source
897), each µs again while its cause holds; disabled it sends none. UTRIP clears what no block named for 4 µs, else CLEAR_DENIED. Elsewhere, and from
other masters, nothing of the trips changes. (R455, R457, R458, R459, R461, R463, R464, R465, R466, R467, R468, R469) -/
def Obligations.UhlaSuperframesAndTrips : Prop :=
  (∀ (s : State) (d : Nat),
    s.uhlaRuns = true →
    s.on UH_USTAT_ISOLATED = false →
    s.on UH_USTAT_MASTER = true →
    s.uhla.txAt = some d →
    s.uhla.handover ≠ some (s.uhla.sfn + 1) →
    ∃ t, exec .superframeOriginate s = .next t ∧
      t.uhla.sfn = s.uhla.sfn + 1 ∧
      t.now = max s.now d ∧
      t.uhla.txAt = some (t.now + us) ∧
      t.uhla.sent = ((s.advanceTo d).updUhla (fun u => { u with sfn := u.sfn + 1 })).newFrame s.uhla.pstart ∧
      t.uhla.pstart = false ∧
      (s.uhla.pstart = true → t.uhla.profileAt = some (s.uhla.sfn + 5))) ∧
  (∀ (s : State) (d : Nat),
    s.uhlaRuns = true →
    s.on UH_USTAT_ISOLATED = false →
    s.on UH_USTAT_MASTER = true →
    s.uhla.txAt = some d →
    s.uhla.handover = some (s.uhla.sfn + 1) →
    ∃ t, exec .superframeOriginate s = .next t ∧
      t.on UH_USTAT_MASTER = false ∧
      t.uhla.txAt = none ∧
      t.uhla.handover = none ∧
      t.now = max s.now d) ∧
  (∀ (s : State) (d : Nat),
    s.uhlaRuns = true →
    s.on UH_USTAT_ISOLATED = false →
    s.on UH_USTAT_MASTER = false →
    s.uhla.txAt = some d →
    s.routed 900 = true →
    ∃ t, exec .superframeOriginate s = .next t ∧
      t.on UH_USTAT_MASTER = true ∧
      t.get UH_USTAT_MRANK = s.rank ∧
      t.get UH_UERR_MCHG = (s.get UH_UERR_MCHG + 1) % 256 ∧
      t.raised 900 = true ∧
      t.uhla.sfn = s.uhla.sfn + BitVec.ofNat 32 ((max s.now d - s.uhla.lastValid) / us) ∧
      t.uhla.txAt = some (max s.now d + us)) ∧
  (∀ (s : State),
    (s.uhlaRuns = false ∨ s.on UH_USTAT_ISOLATED = true ∨ s.uhla.txAt = none) →
    ∃ t, exec .superframeOriginate s = .next t ∧
      t = s) ∧
  (∀ (s : State) (p : Fin 2) (sub : Fin 64) (f : List Byte),
    (s.uhlaRuns = false ∨ s.portIsUp p.val = false ∨ f.length ≠ 2960) →
    ∃ t, exec (.superframeReceive p sub f) s = .next t ∧
      t = s) ∧
  (∀ (s : State) (p : Fin 2) (sub : Fin 64) (f : List Byte),
    s.uhlaRuns = true →
    s.portIsUp p.val = true →
    f.length = 2960 →
    fieldAt f 2956 4 = (crc32 (f.take 2956)).toNat →
    s.on UH_USTAT_MASTER = true →
    s.rankConflict f = false →
    ∃ t, exec (.superframeReceive p sub f) s = .next t ∧
      t.on UH_USTAT_MASTER = true ∧
      t.uhla.sent = s.uhla.sent ∧
      t.uhla.sfn = s.uhla.sfn ∧
      t.uhla.lastValid = s.now ∧
      (∀ q : Fin 16, q.val < s.rank → (sectionStatOf f q.val &&& 19#32) = 19#32 → s.uhla.handover = none → t.uhla.handover = some (s.uhla.sfn + 64))) ∧
  (∀ (s : State) (p : Fin 2) (sub : Fin 64) (f : List Byte),
    s.uhlaRuns = true →
    s.portIsUp p.val = true →
    f.length = 2960 →
    fieldAt f 2956 4 = (crc32 (f.take 2956)).toNat →
    s.on UH_USTAT_MASTER = false →
    s.rankConflict f = false →
    ∃ t, exec (.superframeReceive p sub f) s = .next t ∧
      t.uhla.received = true ∧
      t.uhla.lastValid = s.now ∧
      t.uhla.sent = sealFrame (t.withSection (patch (f.take 2956) 8 (leBytes 4 (fieldAt f 8 4 + s.get UH_UPORT_DELAY p.val + 2720)))) ∧
      (s.newer f = true → t.uhla.sfn = BitVec.ofNat 32 (fieldAt f 0 4) ∧ t.get UH_USTAT_MRANK = fieldAt f 6 1 % 16)) ∧
  (∀ (s : State) (p : Fin 2) (sub : Fin 64) (f : List Byte) (r : Nat) (v : Fin 256) (stale : Bool) (w : Word),
    s.uhlaRuns = true →
    s.portIsUp p.val = true →
    f.length = 2960 →
    fieldAt f 2956 4 = (crc32 (f.take 2956)).toNat →
    sectionEntries f = [(r, v.val, stale, w)] →
    r ≠ s.rank →
    s.sources v.val = false →
    ∃ t, exec (.superframeReceive p sub f) s = .next t ∧
      t.rdw .UH_USVVAL v.val = w ∧
      t.get UH_USVINFO_RANK v.val = r ∧
      t.on UH_USVINFO_STALE v.val = stale ∧
      t.uhla.receivedAt.toList.getD v.val none = some s.now) ∧
  (∀ (s : State) (p : Fin 2) (sub : Fin 64) (f : List Byte),
    s.uhlaRuns = true →
    s.portIsUp p.val = true →
    f.length = 2960 →
    fieldAt f 2956 4 = (crc32 (f.take 2956)).toNat →
    s.rankConflict f = true →
    s.on UH_USTAT_ISOLATED = false →
    s.routed 901 = true →
    ∃ t, exec (.superframeReceive p sub f) s = .next t ∧
      t.on UH_USTAT_RANK_CONFLICT = true ∧
      t.on UH_USTAT_ISOLATED = true ∧
      t.on UH_USTAT_MASTER = false ∧
      t.raised 901 = true) ∧
  (∀ (s : State) (p : Fin 2) (sub : Fin 64) (f : List Byte),
    s.uhlaRuns = true →
    s.portIsUp p.val = true →
    f.length = 2960 →
    fieldAt f 2956 4 ≠ (crc32 (f.take 2956)).toNat →
    fieldAt f 2956 4 ≠ (~~~(crc32 (f.take 2956))).toNat →
    s.routed 902 = true →
    ∃ t, exec (.superframeReceive p sub f) s = .next t ∧
      t.get UH_UERR_CRCERR = min (s.get UH_UERR_CRCERR + 1) 255 ∧
      t.raised 902 = true ∧
      (s.on UH_USTAT_MASTER = false → t.uhla.sent = poisonFrame (f.take 2956)) ∧
      (let k := (s.uhla.badAt[p].filter (fun e => decide (s.now < e + ms))).length; t.get UH_UPORT_STATE p.val = if 15 ≤ k then portDown else portUp)) ∧
  (∀ (s : State) (p : Fin 2) (sub : Fin 64) (f : List Byte),
    s.uhlaRuns = true →
    s.portIsUp p.val = true →
    f.length = 2960 →
    fieldAt f 2956 4 = (~~~(crc32 (f.take 2956))).toNat →
    ∃ t, exec (.superframeReceive p sub f) s = .next t ∧
      t.get UH_UERR_POISONED = min (s.get UH_UERR_POISONED + 1) 255 ∧
      t.get UH_UERR_CRCERR = s.get UH_UERR_CRCERR ∧
      (s.on UH_USTAT_MASTER = false → t.uhla.sent = poisonFrame (f.take 2956)) ∧
      (let k := (s.uhla.badAt[p].filter (fun e => decide (s.now < e + ms))).length; t.get UH_UPORT_STATE p.val = if 15 ≤ k then portDown else portUp)) ∧
  (∀ (s : State),
    s.uhlaRuns = true →
    s.on UH_USTAT_MASTER = false →
    s.mayLead = true →
    s.rank < 16 →
    s.uhla.txAt = none →
    (s.portIsUp 0 = true ∨ s.portIsUp 1 = true) →
    (∀ r : Fin 16, r.val ∈ s.flaggedRanks → r.val ≠ s.rank → ¬ (s.uhla.received = true ∧ r.val = s.oldMaster) → s.rank < r.val) →
    ∃ t, exec .masterLoss s = .next t ∧
      t.uhla.txAt = some (s.uhla.lastValid + 16 * us) ∧
      t.get UH_USTAT_MRANK = s.rank ∧
      t.on UH_USTAT_MASTER = false ∧
      t.now = max s.now (s.uhla.lastValid + 8 * us)) ∧
  (∀ (s : State) (q : Nat) (l : List Nat),
    s.uhlaRuns = true →
    s.on UH_USTAT_MASTER = false →
    s.uhla.txAt = none →
    (s.portIsUp 0 = true ∨ s.portIsUp 1 = true) →
    s.nextMasters = q :: l →
    q ≠ s.rank →
    ∃ t, exec .masterLoss s = .next t ∧
      t.get UH_USTAT_MRANK = q ∧
      t.uhla.txAt = none ∧
      t.now = max s.now (s.uhla.lastValid + 8 * us) ∧
      (t.uhla.lost = if s.uhla.received then some s.oldMaster else none)) ∧
  (∀ (s : State),
    (s.uhlaRuns = false ∨ s.on UH_USTAT_MASTER = true ∨ s.uhla.txAt ≠ none ∨ (s.portIsUp 0 = false ∧ s.portIsUp 1 = false)) →
    ∃ t, exec .masterLoss s = .next t ∧
      t = s) ∧
  (∀ (s : State),
    (s.uhlaRuns = false ∨ s.uhla.upSince = none ∨ s.on UH_USTAT_MASTER = true ∨ s.mayLead = false ∨ s.uhla.received = false ∨ s.get UH_USTAT_MRANK ≤ s.rank) →
    ∃ t, exec .reqm s = .next t ∧
      t = s) ∧
  (∀ (s : State),
    s.deadline .tripRepeat = none →
    ∃ t, exec .tripRepeat s = .next t ∧
      t = s) ∧
  (∀ (s : State) (p : Fin 2) (origin : Fin 16) (tseq : Fin 16) (mask : BitVec 8) (gid : BitVec 8) (k : Bool),
    (s.uhlaRuns = false ∨ s.portIsUp p.val = false ∨ (k = true ∧ (gid.toNat ≠ s.get UH_UGID_GID % 256 ∨ (origin.val = s.rank ∧ s.uhla.returned = true)))) →
    ∃ t, exec (.tripBlockReceive p origin tseq mask gid k) s = .next t ∧
      t = s) ∧
  (∀ (s : State) (m : Master) (v : Word),
    s.busOpen m = true →
    s.lockstep m = true →
    (s.uhlaRuns = false ∨ s.on UH_USTAT_ISOLATED = true ∨ bit (BitVec.ofNat 32 (s.get UH_UTRIPCFG_TXSRC)) 2 = false ∨ UH_UTRIPGO_MASK.of v = 0) →
    ∃ t, exec (.utripgo m v) s = .next t ∧
      t.uhla = s.uhla ∧
      t.timers = s.timers) ∧
  (∀ (s : State) (m : Master) (v : Word),
    s.busOpen m = true →
    s.lockstep m = false →
    ∃ t, exec (.utripgo m v) s = .next t ∧
      t.on UH_USTAT_CFG_DENIED = true ∧
      t.rdw .UH_UTRIPGO = s.rdw .UH_UTRIPGO ∧
      t.uhla = s.uhla) ∧
  (∀ (s : State) (m : Master) (v : Word),
    s.busOpen m = true →
    s.lockstep m = false →
    ∃ t, exec (.utripClear m v) s = .next t ∧
      t.on UH_USTAT_CFG_DENIED = true ∧
      t.rdw .UH_UTRIP = s.rdw .UH_UTRIP ∧
      t.uhla = s.uhla) ∧
  (∀ (s : State) (d : Nat),
    s.uhlaRuns = true →
    s.uhla.upSince = some d →
    s.on UH_USTAT_MASTER = false →
    s.mayLead = true →
    s.uhla.received = true →
    s.rank < s.get UH_USTAT_MRANK →
    ∃ t, exec .reqm s = .next t ∧
      t.uhla.reqm = true ∧
      t.now = max s.now (d + 1000 * ms)) ∧
  (∀ (s : State) (d : Nat),
    s.deadline .tripRepeat = some d →
    ∃ t, exec .tripRepeat s = .next t ∧
      t.uhla.trips = s.uhla.trips.filter (s.advanceTo d).tripHolds ∧
      t.now = max s.now d ∧
      (t.uhla.trips ≠ [] → t.deadline .tripRepeat = some (t.now + us)) ∧
      (s.uhla.returned = false → 725 < t.now - s.uhla.sentAt → t.on UH_USTAT_RINGOK = false)) ∧
  (∀ (s : State) (p : Fin 2) (origin : Fin 16) (tseq : Fin 16) (mask : BitVec 8) (gid : BitVec 8),
    s.uhlaRuns = true →
    s.portIsUp p.val = true →
    s.routed 902 = true →
    ∃ t, exec (.tripBlockReceive p origin tseq mask gid false) s = .next t ∧
      t.get UH_UERR_TRIPERR = min (s.get UH_UERR_TRIPERR + 1) 255 ∧
      t.rdw .UH_UTRIP = s.rdw .UH_UTRIP ∧
      t.raised 902 = true) ∧
  (∀ (s : State) (p : Fin 2) (origin : Fin 16) (tseq : Fin 16) (mask : BitVec 8) (gid : BitVec 8),
    s.uhlaRuns = true →
    s.portIsUp p.val = true →
    gid.toNat = s.get UH_UGID_GID % 256 →
    origin.val = s.rank →
    s.uhla.returned = false →
    ∃ t, exec (.tripBlockReceive p origin tseq mask gid true) s = .next t ∧
      t.uhla.returned = true ∧
      t.rdw .UH_UTRIP = s.rdw .UH_UTRIP ∧
      t.on UH_USTAT_RINGOK = s.bothUp ∧
      ((s.now - s.uhla.sentAt) * 4 < 65536 → t.get UH_RINGLAT_LAT = (s.now - s.uhla.sentAt) * 4)) ∧
  (∀ (s : State) (p : Fin 2) (origin : Fin 16) (tseq : Fin 16) (mask : BitVec 8) (gid : BitVec 8),
    s.uhlaRuns = true →
    s.portIsUp p.val = true →
    gid.toNat = s.get UH_UGID_GID % 256 →
    origin.val ≠ s.rank →
    tseq.val ∉ s.uhla.seen[origin] →
    mask.toNat &&& s.get UH_UTRIPCFG_RXMASK ≠ 0 →
    s.routed 896 = true →
    ∃ t, exec (.tripBlockReceive p origin tseq mask gid true) s = .next t ∧
      t.get UH_UTRIP_UTRIP = s.get UH_UTRIP_UTRIP ||| (mask.toNat &&& s.get UH_UTRIPCFG_RXMASK) ∧
      tseq.val ∈ t.uhla.seen[origin] ∧
      (∀ g : Fin 8, mask.getLsbD g.val = true → t.uhla.arrived[g] = some s.now) ∧
      t.raised 896 = true) ∧
  (∀ (s : State) (p : Fin 2) (origin : Fin 16) (tseq : Fin 16) (mask : BitVec 8) (gid : BitVec 8),
    s.uhlaRuns = true →
    s.portIsUp p.val = true →
    gid.toNat = s.get UH_UGID_GID % 256 →
    origin.val ≠ s.rank →
    tseq.val ∈ s.uhla.seen[origin] →
    ∃ t, exec (.tripBlockReceive p origin tseq mask gid true) s = .next t ∧
      t.rdw .UH_UTRIP = s.rdw .UH_UTRIP ∧
      (∀ g : Fin 8, mask.getLsbD g.val = true → t.uhla.arrived[g] = some s.now)) ∧
  (∀ (s : State) (m : Master) (v : Word),
    s.busOpen m = true →
    s.lockstep m = true →
    s.uhlaRuns = true →
    s.on UH_USTAT_ISOLATED = false →
    bit (BitVec.ofNat 32 (s.get UH_UTRIPCFG_TXSRC)) 2 = true →
    UH_UTRIPGO_MASK.of v ≠ 0 →
    s.routed 897 = true →
    ∃ t, exec (.utripgo m v) s = .next t ∧
      t.uhla.seq = (s.uhla.seq + 1) % 16 ∧
      t.uhla.trips = ⟨(s.uhla.seq + 1) % 16, UH_UTRIPGO_MASK.of v, 2⟩ :: s.uhla.trips ∧
      t.uhla.sentAt = s.now ∧
      t.uhla.returned = false ∧
      t.deadline .tripRepeat = some (s.now + us) ∧
      t.raised 897 = true) ∧
  (∀ (s : State) (m : Master) (v : Word),
    s.busOpen m = true →
    s.lockstep m = true →
    ∃ t, exec (.utripClear m v) s = .next t ∧
      (∀ g : Fin 8, t.uhlaTrip g.val = (s.uhlaTrip g.val && !(bit (s.settle .UH_UTRIP v) g.val && !s.tripRecent g.val))) ∧
      ((∃ g : Fin 8, bit (s.settle .UH_UTRIP v) g.val = true ∧ s.uhlaTrip g.val = true ∧ s.tripRecent g.val = true) → t.on UH_USTAT_CLEAR_DENIED = true))

/-- Ethernet: receiving, transmitting, link changes; pTP: steps, the target, trust. On a running port a frame of wrong FCS or of more than 1,522 bytes
is counted in error; a good one goes to the queue of its route, behind those not taken out, with the timestamp less RXLAT; a GOOSE frame of no entry
and no default queue is dropped and counted; one of no route changes nothing; a Sync of a named grandmaster is noted; each with its source. Of the
queues whose crews hold budget for the port and whose pairs release their outputs one sends its first frame, PTP time plus TXLAT noted if asked; a
frame handed over waits in its queue, one of an isolated pair's crew does not. A link change enters ETHSTAT. A port that does not run does nothing.
PTPSTEP adds its signed ns to the clock, modulo 2^48 s, passing TARGET where it crosses it. TARGET is reached at the first tick of PTP time at or past
it, source 737 and, with PPSEN, a pulse of 1 ms; a clock in reset or stopped reaches none. A LOCK write with EN renews; a recent Sync and a Lamp clock
that agrees or is not set begin trust, source 736; one that disagrees denies it; without a recent Sync, or without EN, no trust begins, and trust that
holds stays. Two seconds from the older of Sync and LOCK end it, source 736; without trust nothing ends. (R367, R470, R471, R472, R473, R474, R478,
R480) -/
def Obligations.EthernetAndPtpWork : Prop :=
  (∀ (s : State) (p : Fin 2) (f : List Byte) (listed : Bool) (fifth : Fin 5) (taken : Vector Nat 4) (fcsOk : Bool),
    s.ethRuns p.val = true →
    (fcsOk = false ∨ 1522 < f.length + 4) →
    s.routed (719 + 16 * p.val) = true →
    ∃ t, exec (.ethFrameReceive p f fcsOk listed fifth taken) s = .next t ∧
      t.host.rxErrors[p] = s.host.rxErrors[p] + 1 ∧
      t.host.rxq = s.host.rxq ∧
      t.raised (719 + 16 * p.val) = true) ∧
  (∀ (s : State) (p : Fin 2) (f : List Byte) (listed : Bool) (fifth : Fin 5) (taken : Vector Nat 4) (k : Fin 4),
    s.ethRuns p.val = true →
    f.length + 4 ≤ 1522 →
    s.rxRoute p.val f listed = (some k.val, false) →
    s.routed (704 + 16 * p.val + k.val) = true →
    ∃ t, exec (.ethFrameReceive p f true listed fifth taken) s = .next t ∧
      t.host.rxq.toList.getD (4 * p.val + k.val) [] = (s.host.rxq.toList.getD (4 * p.val + k.val) []).drop taken[k] ++ [⟨f, s.macStamp p.val fifth.val - s.get ET_RXLAT_LAT p.val⟩] ∧
      t.raised (704 + 16 * p.val + k.val) = true) ∧
  (∀ (s : State) (p : Fin 2) (f : List Byte) (listed : Bool) (fifth : Fin 5) (taken : Vector Nat 4),
    s.ethRuns p.val = true →
    f.length + 4 ≤ 1522 →
    be16 f (etherAt f) = 0x88B8 →
    s.gooseEntry p.val (be16 f (etherAt f + 2)) = none →
    s.on ET_ETHCTL_GNOMATCH p.val = false →
    s.routed (716 + 16 * p.val) = true →
    ∃ t, exec (.ethFrameReceive p f true listed fifth taken) s = .next t ∧
      t.get ET_ETHSTAT_GDROP p.val = min (s.get ET_ETHSTAT_GDROP p.val + 1) 65535 ∧
      t.host.rxq = s.host.rxq ∧
      t.raised (716 + 16 * p.val) = true) ∧
  (∀ (s : State) (p : Fin 2) (f : List Byte) (listed : Bool) (fifth : Fin 5) (taken : Vector Nat 4),
    s.ethRuns p.val = true →
    f.length + 4 ≤ 1522 →
    s.rxRoute p.val f listed = (none, false) →
    s.goodSync f = false →
    ∃ t, exec (.ethFrameReceive p f true listed fifth taken) s = .next t ∧
      t = s) ∧
  (∀ (s : State) (p : Fin 2) (f : List Byte) (listed : Bool) (fifth : Fin 5) (taken : Vector Nat 4) (k : Bool),
    s.ethRuns p.val = false →
    ∃ t, exec (.ethFrameReceive p f k listed fifth taken) s = .next t ∧
      t = s) ∧
  (∀ (s : State) (p : Fin 2) (y : List TxPost),
    s.ethRuns p.val = false →
    y.all (fun q => !s.crewOutput q.crew.val) = true →
    ∃ t, exec (.ethFrameTransmit p y) s = .next t ∧
      t = s) ∧
  (∀ (s : State) (p : Fin 2) (y : List TxPost),
    y.all (fun q => !s.crewOutput q.crew.val) = true →
    (List.range 8).all (fun q => !s.txReady p.val q) = true →
    ∃ t, exec (.ethFrameTransmit p y) s = .next t ∧
      t = s) ∧
  (∀ (s : State) (p : Fin 2) (up : Bool),
    (s.ethRuns p.val = false ∨ s.on ET_ETHSTAT_LINK p.val = up) →
    ∃ t, exec (.ethLinkChange p up) s = .next t ∧
      t = s) ∧
  (∀ (s : State) (p : Fin 2) (f : List Byte) (listed : Bool) (fifth : Fin 5) (taken : Vector Nat 4),
    s.ethRuns p.val = true →
    f.length + 4 ≤ 1522 →
    s.goodSync f = true →
    ∃ t, exec (.ethFrameReceive p f true listed fifth taken) s = .next t ∧
      t.host.syncAt = some s.now) ∧
  (∀ (s : State) (p : Fin 2) (q : Fin 8) (f : TxFrame) (l : List TxFrame),
    s.ethRuns p.val = true →
    s.txPick p.val = some q.val →
    (s.txQueue (8 * p.val + q.val)).frames = f :: l →
    s.routed (708 + 16 * p.val + q.val) = true →
    ∃ t, exec (.ethFrameTransmit p []) s = .next t ∧
      t.host.sent[p] = txBytes (s.txQueue (8 * p.val + q.val)) f (s.macStamp p.val 0 + s.get ET_TXLAT_LAT p.val) ∧
      (t.txQueue (8 * p.val + q.val)).frames = l ∧
      (f.stamped = true → t.host.txStamp[p] = s.macStamp p.val 0 + s.get ET_TXLAT_LAT p.val) ∧
      t.raised (708 + 16 * p.val + q.val) = true) ∧
  (∀ (s : State) (p : Fin 2) (y : TxPost) (g : List Byte),
    y.frame = some g →
    s.crewOutput y.crew.val = true →
    (List.range 8).all (fun q => !s.txReady p.val q) = true →
    s.hasBudget y.crew.val .eth = false →
    ∃ t, exec (.ethFrameTransmit p [y]) s = .next t ∧
      (t.txQueue (8 * p.val + y.queue.val)).frames = (s.txQueue (8 * p.val + y.queue.val)).frames ++ [⟨g, y.stamped, y.oneStep, false⟩] ∧
      (t.txQueue (8 * p.val + y.queue.val)).crew = y.crew.val) ∧
  (∀ (s : State) (p : Fin 2) (up : Bool),
    s.ethRuns p.val = true →
    s.on ET_ETHSTAT_LINK p.val ≠ up →
    s.routed (717 + 16 * p.val) = true →
    ∃ t, exec (.ethLinkChange p up) s = .next t ∧
      t.on ET_ETHSTAT_LINK p.val = up ∧
      t.raised (717 + 16 * p.val) = true) ∧
  (∀ (s : State) (m : Master) (v : Word),
    s.busOpen m = true →
    s.released uEth = true →
    s.routed 737 = true →
    ∃ t, exec (.ptpstep m v) s = .next t ∧
      t.ptpNow = ptpWrap (s.ptpNow + sgn v * 2 ^ 32) ∧
      ((s.toTarget : Int) ≤ sgn v * 2 ^ 32 → t.raised 737 = true)) ∧
  (∀ (s : State),
    s.released uEth = true →
    0 < s.ptpRate →
    s.routed 737 = true →
    ∃ t, exec .ptpTarget s = .next t ∧
      t.now = s.now + (s.toTarget + s.ptpRate.toNat - 1) / s.ptpRate.toNat ∧
      t.raised 737 = true ∧
      (s.on ET_PTPTRUST_PPSEN = true → t.host.pps = some (t.now + ms))) ∧
  (∀ (s : State) (m : Master) (v : Word),
    s.busOpen m = true →
    ET_PTPTRUST_EN.of v = 1 →
    s.recent s.host.syncAt = true →
    s.trusted = false →
    s.lampAgrees = true →
    s.routed 736 = true →
    ∃ t, exec (.ptpLock m v) s = .next t ∧
      t.host.lockAt = some s.now ∧
      t.trusted = true ∧
      t.raised 736 = true) ∧
  (∀ (s : State) (m : Master) (v : Word),
    s.busOpen m = true →
    ET_PTPTRUST_EN.of v = 1 →
    s.recent s.host.syncAt = true →
    s.trusted = false →
    s.lampAgrees = false →
    ∃ t, exec (.ptpLock m v) s = .next t ∧
      t.host.lockAt = some s.now ∧
      t.trusted = false ∧
      t.on ET_PTPTRUST_TRUST_DENIED = true ∧
      t.host.barred = true) ∧
  (∀ (s : State),
    (s.released uEth = false ∨ s.ptpRate ≤ 0) →
    ∃ t, exec .ptpTarget s = .next t ∧
      t = s) ∧
  (∀ (s : State) (m : Master) (v : Word),
    s.busOpen m = true →
    (ET_PTPTRUST_EN.of v = 0 ∨ s.recent s.host.syncAt = false) →
    s.trusted = false →
    ∃ t, exec (.ptpLock m v) s = .next t ∧
      t.host.lockAt = some s.now ∧
      t.trusted = false ∧
      t.host.syncAt = s.host.syncAt) ∧
  (∀ (s : State) (m : Master) (v : Word),
    s.busOpen m = true →
    ET_PTPTRUST_EN.of v = 1 →
    s.recent s.host.syncAt = true →
    s.trusted = true →
    ∃ t, exec (.ptpLock m v) s = .next t ∧
      t.host.lockAt = some s.now ∧
      t.trusted = true) ∧
  (∀ (s : State),
    s.trusted = false →
    ∃ t, exec .ptpTrustLost s = .next t ∧
      t = s) ∧
  (∀ (s : State) (a : Nat) (b : Nat),
    s.trusted = true →
    s.host.syncAt = some a →
    s.host.lockAt = some b →
    s.routed 736 = true →
    ∃ t, exec .ptpTrustLost s = .next t ∧
      t.now = max s.now (min a b + twoSeconds) ∧
      t.trusted = false ∧
      t.raised 736 = true)

/-- CAN FD, UART, Modbus, SPI, I2C, GPIO. With the unit out of reset: CAN takes an accepted legal frame into its buffer, records a legal one sent by
no pair or one whose outputs are released, and takes another error state; an illegal, unaccepted or suppressed frame and the same error state change
nothing. A UART character enters its FIFO of 64, behind those not taken out, and the Modbus frame; at a full FIFO the error source is raised. While
the Banksman serves UART0 a character joins the envelope under way. Bytes sent are recorded, with their CRC-16 in Modbus mode, not after an error, and
none of a suppressed pair. 3.5 characters of silence end a Modbus frame begun and check its CRC. SPI keeps the low bits of a frame of 4 to 32 bits,
I2C its transfer. A pin takes its level, the other pins theirs, and raises its source when IRQ selects the change. Each raises its source. With the
unit in reset nothing happens. (R348, R475, R476, R479, R480) -/
def Obligations.SerialLinksAndPins : Prop :=
  (∀ (s : State) (n : Fin 4) (buf : Fin 64) (f : CanMsg),
    s.released uHostx = true →
    canLegal f = true →
    s.routed (768 + 4 * n.val) = true →
    ∃ t, exec (.canFrameReceive n buf f true) s = .next t ∧
      t.host.canRx[n] = sparseInsert buf.val f s.host.canRx[n] ∧
      t.raised (768 + 4 * n.val) = true) ∧
  (∀ (s : State) (n : Fin 4) (buf : Fin 64) (f : CanSend),
    s.released uHostx = true →
    canLegal f.msg = true →
    s.sends f.sender = true →
    s.routed (769 + 4 * n.val) = true →
    ∃ t, exec (.canFrameTransmit n buf f) s = .next t ∧
      t.host.canTx[n] = sparseInsert buf.val f.msg s.host.canTx[n] ∧
      t.raised (769 + 4 * n.val) = true) ∧
  (∀ (s : State) (n : Fin 4) (st : Fin 3),
    s.released uHostx = true →
    s.host.canErr[n] ≠ st.val →
    s.routed (770 + 4 * n.val) = true →
    s.routed (771 + 4 * n.val) = true →
    ∃ t, exec (.canErrorStateChange n st) s = .next t ∧
      t.host.canErr[n] = st.val ∧
      (st.val = 2 → t.raised (771 + 4 * n.val) = true) ∧
      (st.val ≠ 2 → t.raised (770 + 4 * n.val) = true)) ∧
  (∀ (s : State) (n : Fin 6) (c : Byte) (modbus : Bool) (taken : Nat),
    (n.val ≠ 0 ∨ s.bank.uart = false) →
    s.released uHostx = true →
    (s.host.uarts[n].rx.drop taken).length < 64 →
    s.routed (784 + 2 * n.val) = true →
    ∃ t, exec (.uartReceive n c modbus taken) s = .next t ∧
      t.host.uarts[n].rx = s.host.uarts[n].rx.drop taken ++ [c] ∧
      (t.host.uarts[n].frame = (if modbus = true then s.host.uarts[n].frame ++ [c] else [])) ∧
      t.raised (784 + 2 * n.val) = true) ∧
  (∀ (s : State) (n : Fin 6) (c : Byte) (modbus : Bool) (taken : Nat),
    (n.val ≠ 0 ∨ s.bank.uart = false) →
    s.released uHostx = true →
    64 ≤ (s.host.uarts[n].rx.drop taken).length →
    s.routed (785 + 2 * n.val) = true →
    ∃ t, exec (.uartReceive n c modbus taken) s = .next t ∧
      t.raised (785 + 2 * n.val) = true ∧
      (t.host.uarts[n].frame = (if modbus = true then s.host.uarts[n].frame ++ [c] else []))) ∧
  (∀ (s : State) (n : Fin 6) (c : Byte) (modbus : Bool) (taken : Nat),
    n.val = 0 →
    s.bank.uart = true →
    (s.bank.uartIn ++ [c]).length < uartNeeds (s.bank.uartIn ++ [c]) →
    ∃ t, exec (.uartReceive n c modbus taken) s = .next t ∧
      t.bank.uartIn = s.bank.uartIn ++ [c]) ∧
  (∀ (s : State) (n : Fin 6) (l : UartSend) (modbus : Bool) (err : Bool),
    s.released uHostx = true →
    s.sends l.sender = true →
    s.routed (785 + 2 * n.val) = true →
    ∃ t, exec (.uartTransmitDone n l modbus err) s = .next t ∧
      (err = false → t.host.uarts[n].sent = if modbus = true then l.data ++ leBytes 2 (crc16 l.data).toNat else l.data) ∧
      (err = true → t.host.uarts[n] = s.host.uarts[n]) ∧
      t.raised (785 + 2 * n.val) = true) ∧
  (∀ (s : State) (n : Fin 6) (gap : Bool),
    s.released uHostx = true →
    s.host.uarts[n].frame ≠ [] →
    s.routed (784 + 2 * n.val) = true →
    ∃ t, exec (.modbusFrameEnd n gap) s = .next t ∧
      t.host.uarts[n].frame = [] ∧
      t.host.uarts[n].gap = gap ∧
      t.host.uarts[n].crcOk = (decide (2 < s.host.uarts[n].frame.length) && crc16 s.host.uarts[n].frame == 0#16) ∧
      t.raised (784 + 2 * n.val) = true) ∧
  (∀ (s : State) (n : Fin 4) (len : Fin 33) (rx : Word) (tx : Word),
    s.released uHostx = true →
    4 ≤ len.val →
    s.routed (796 + n.val) = true →
    ∃ t, exec (.spiTransfer n len rx tx) s = .next t ∧
      t.host.spiRx[n] = BitVec.ofNat 32 (rx.toNat % 2 ^ len.val) ∧
      t.host.spiTx[n] = BitVec.ofNat 32 (tx.toNat % 2 ^ len.val) ∧
      t.raised (796 + n.val) = true) ∧
  (∀ (s : State) (n : Fin 2) (l : List Byte),
    s.released uHostx = true →
    s.routed (800 + n.val) = true →
    ∃ t, exec (.i2cTransfer n l) s = .next t ∧
      t.host.i2c[n] = l ∧
      t.raised (800 + n.val) = true) ∧
  (∀ (s : State) (g : Fin 64) (level : Bool),
    s.released uHostx = true →
    s.routed (832 + g.val) = true →
    ∃ t, exec (.gpioEvent g level) s = .next t ∧
      bit (t.rdw .GP_GPIOIN (g.val / 32)) (g.val % 32) = level ∧
      (∀ k : Fin 32, k.val ≠ g.val % 32 → bit (t.rdw .GP_GPIOIN (g.val / 32)) k.val = bit (s.rdw .GP_GPIOIN (g.val / 32)) k.val) ∧
      (irqSelects (s.get GP_GPIOCFG_IRQ g.val) (bit (s.rdw .GP_GPIOIN (g.val / 32)) (g.val % 32)) level = true → t.raised (832 + g.val) = true)) ∧
  (∀ (s : State) (n : Fin 4) (buf : Fin 64) (f : CanMsg) (k : Bool),
    (s.released uHostx = false ∨ k = false ∨ canLegal f = false) →
    ∃ t, exec (.canFrameReceive n buf f k) s = .next t ∧
      t = s) ∧
  (∀ (s : State) (n : Fin 4) (buf : Fin 64) (f : CanSend),
    (s.released uHostx = false ∨ canLegal f.msg = false ∨ s.sends f.sender = false) →
    ∃ t, exec (.canFrameTransmit n buf f) s = .next t ∧
      t = s) ∧
  (∀ (s : State) (n : Fin 4) (st : Fin 3),
    (s.released uHostx = false ∨ s.host.canErr[n] = st.val) →
    ∃ t, exec (.canErrorStateChange n st) s = .next t ∧
      t = s) ∧
  (∀ (s : State) (n : Fin 6) (l : UartSend) (modbus : Bool) (err : Bool),
    (s.released uHostx = false ∨ s.sends l.sender = false) →
    ∃ t, exec (.uartTransmitDone n l modbus err) s = .next t ∧
      t = s) ∧
  (∀ (s : State) (n : Fin 6) (gap : Bool),
    (s.released uHostx = false ∨ s.host.uarts[n].frame = []) →
    ∃ t, exec (.modbusFrameEnd n gap) s = .next t ∧
      t = s) ∧
  (∀ (s : State) (n : Fin 4) (len : Fin 33) (rx : Word) (tx : Word),
    (s.released uHostx = false ∨ len.val < 4) →
    ∃ t, exec (.spiTransfer n len rx tx) s = .next t ∧
      t = s) ∧
  (∀ (s : State) (n : Fin 2) (l : List Byte),
    s.released uHostx = false →
    ∃ t, exec (.i2cTransfer n l) s = .next t ∧
      t = s) ∧
  (∀ (s : State) (g : Fin 64) (level : Bool),
    s.released uHostx = false →
    ∃ t, exec (.gpioEvent g level) s = .next t ∧
      t = s) ∧
  (∀ (s : State) (n : Fin 6) (c : Byte) (modbus : Bool) (taken : Nat),
    s.released uHostx = false →
    (n.val ≠ 0 ∨ s.bank.uart = false) →
    ∃ t, exec (.uartReceive n c modbus taken) s = .next t ∧
      t = s)

/-- REPLATCH copies the committed report words into the read buffer. A write of 1 to REPLATCH by the owner of the cell copies the engine's committed
words 384 to 447 into the REPORT buffer, all of them at once, and a read of REPORT returns the copied word; the committed words stay as they are.
(R62) -/
def Obligations.ReportBufferIsLatched : Prop :=
  (∀ (s : State) (m : Master) (e : Eng) (v : Word),
    s.busOpen m = true →
    s.engExists e.val = true →
    s.mayWriteCell m (e.val / 2) = true →
    ∃ t, exec (.replatch m e v) s = .next t ∧
      (∀ n : Fin 64, t.rdw .PK_REPORT e.val n.val = dataWord (s.eng e.val).data (384 + n.val)) ∧
      (∀ n : Fin 64, t.current .PK_REPORT e.val n.val = dataWord (s.eng e.val).data (384 + n.val)) ∧
      (t.eng e.val).data = (s.eng e.val).data)

/-- BUDGET starts at WCET and stays from WCET to 4,096. A completed load sets BUDGET and WCET to the largest worst-case cycle count over the program's
entries; a write of BUDGET from WCET to 4,096 takes effect; one below WCET, above 4,096 or of 0 has no effect and sets BUDGET_DENIED. (R81) -/
def Obligations.BudgetIsHeldToWcet : Prop :=
  (∀ (s : State) (e : Eng) (p : PickProgram),
    s.pick.loads.contains e.val = true →
    (s.eng e.val).load = some p →
    ∃ t, exec (.loadComplete e) s = .next t ∧
      t.get PK_BUDGET_BUDGET e.val = p.wcet.toList.foldl max 0 % 2 ^ PK_BUDGET_BUDGET.width ∧
      t.get PK_BUDGET_WCET e.val = p.wcet.toList.foldl max 0 % 2 ^ PK_BUDGET_WCET.width) ∧
  (∀ (s : State) (m : Master) (e : Eng) (v : Word),
    s.busOpen m = true →
    s.engExists e.val = true →
    s.mayWriteCell m (e.val / 2) = true →
    s.get PK_BUDGET_WCET e.val ≤ PK_BUDGET_BUDGET.of v →
    PK_BUDGET_BUDGET.of v ≤ 4096 →
    PK_BUDGET_BUDGET.of v ≠ 0 →
    ∃ t, exec (.budgetWrite m e v) s = .next t ∧
      t.get PK_BUDGET_BUDGET e.val = PK_BUDGET_BUDGET.of v ∧
      t.get PK_BUDGET_WCET e.val = s.get PK_BUDGET_WCET e.val) ∧
  (∀ (s : State) (m : Master) (e : Eng) (v : Word),
    s.busOpen m = true →
    s.engExists e.val = true →
    s.mayWriteCell m (e.val / 2) = true →
    (PK_BUDGET_BUDGET.of v < s.get PK_BUDGET_WCET e.val ∨ 4096 < PK_BUDGET_BUDGET.of v ∨ PK_BUDGET_BUDGET.of v = 0) →
    PK_BUDGET_BUDGET.of v ≠ s.get PK_BUDGET_BUDGET e.val →
    ∃ t, exec (.budgetWrite m e v) s = .next t ∧
      t.rdw .PK_BUDGET e.val = s.rdw .PK_BUDGET e.val ∧
      t.on PK_PSTAT_BUDGET_DENIED e.val = true)

/-- Lock-step pairs read and write the retention memory, and no other master writes it. A lock-step pair writes a word of the retention memory,
whatever grants are held, and reads it; a write by any other master has no effect on it and sets WRITE_DENIED. That another master reads a free value
is the model's choice (log entry 85) and is not stated. (R425) -/
def Obligations.RetentionMemoryIsOfPairs : Prop :=
  (∀ (s : State) (m : Master) (k : Fin 1024) (v : Word),
    s.busOpen m = true →
    s.lockstep m = true →
    ∃ t, exec (.registerWrite m (BitVec.ofNat 32 (RegId.LA_RETAIN.addr k.val 0)) v) s = .next t ∧
      t.rdw .LA_RETAIN k.val = v ∧
      (∀ j : Fin 1024, j ≠ k → t.rdw .LA_RETAIN j.val = s.rdw .LA_RETAIN j.val)) ∧
  (∀ (s : State) (m : Master) (k : Fin 1024) (v : Word),
    s.busOpen m = true →
    s.lockstep m = false →
    ∃ t, exec (.registerWrite m (BitVec.ofNat 32 (RegId.LA_RETAIN.addr k.val 0)) v) s = .next t ∧
      (∀ j : Fin 1024, t.rdw .LA_RETAIN j.val = s.rdw .LA_RETAIN j.val) ∧
      t.on LA_LSTAT_WRITE_DENIED = true) ∧
  (∀ (s : State) (m : Master) (k : Fin 1024),
    s.busOpen m = true →
    s.lockstep m = true →
    ∃ t, exec (.latchingRead m (BitVec.ofNat 32 (RegId.LA_RETAIN.addr k.val 0))) s = .next t ∧
      t.bus = ⟨s.rdw .LA_RETAIN k.val, .ok⟩)

/-- A write by another master than the owner leaves a block's cells, port and carrier group as they are. While a block is owned, a register write by
any master but its owner to a PWM or Cage register of a cell bound to it, or of its carrier group or Cage sequence, completes without a bus error,
sets OWNER_DENIED in the block's BLKCTL, and changes no other register and nothing of the power stage. (R17, R18, R19) -/
def Obligations.OnlyOwnersWritePowerStage : Prop :=
  (∀ (s : State) (m : Master) (r : RegId) (c : Cell) (b : Block) (v : Word),
    s.busOpen m = true →
    r ∈ [RegId.PW_CHCTL, .PW_DUTY, .PW_DT, .PW_CHSTAT, .PW_DRIVE, .PW_OVR, .PW_SAFE, .CG_PCTL, .CG_PSTAT] →
    s.blockOf c.val = some b.val →
    s.on BLK_BLKCTL_OWNED b.val = true →
    s.isOwner m b.val = false →
    ∃ t, exec (.registerWrite m (BitVec.ofNat 32 (r.addr c.val 0)) v) s = .next t ∧
      t.bus = ⟨0, .ok⟩ ∧
      t.on BLK_BLKCTL_OWNER_DENIED b.val = true ∧
      t.blk b.val = s.blk b.val ∧
      t.get BLK_BLKCTL_OWNER b.val = s.get BLK_BLKCTL_OWNER b.val ∧
      t.power = s.power ∧
      (∀ q i j, q.has i j = true → (q ≠ .BLK_BLKCTL ∨ i ≠ b.val) → t.rdw q i j = s.rdw q i j)) ∧
  (∀ (s : State) (m : Master) (r : RegId) (b : Block) (v : Word),
    s.busOpen m = true →
    r ∈ [RegId.PW_GRPCTL, .PW_GRPPRD, .PW_GRPPHASE, .PW_GRPSTAT, .PW_GRPCOMMIT, .CG_BCTL, .CG_BSTAT] →
    s.on BLK_BLKCTL_OWNED b.val = true →
    s.isOwner m b.val = false →
    ∃ t, exec (.registerWrite m (BitVec.ofNat 32 (r.addr b.val 0)) v) s = .next t ∧
      t.bus = ⟨0, .ok⟩ ∧
      t.on BLK_BLKCTL_OWNER_DENIED b.val = true ∧
      t.blk b.val = s.blk b.val ∧
      t.get BLK_BLKCTL_OWNER b.val = s.get BLK_BLKCTL_OWNER b.val ∧
      t.power = s.power ∧
      (∀ q i j, q.has i j = true → (q ≠ .BLK_BLKCTL ∨ i ≠ b.val) → t.rdw q i j = s.rdw q i j))

/-- The reference programs read, contend, give their duty, report and end as their rules say. The stages of a reference program are the model's (log
entry 104). The read stage of an accumulator-window or resynchronisation request computes DCB's per-unit voltage and current, publishes them as
operating point and words 384 and 385 of the working copy, and leaves its four contenders to be released, slot 0 at 0 where the cell is no DC input;
NR where slice 0 has no window. A broken AC layout, or a missing window, sets NR and leaves only ACR's 0 to slot 4; an AC program with its layout and
windows leaves its contenders: ACR its rated and ride-through limits, ACO the DC link's, P_LIM / V1 and DERATE, a follower ACR's reference and limit,
with ACR's committed words. A request of another class goes to END DISCARD. A contender whose slot is not routed in is written and an evaluation made
due, else OUT_DENIED is set; the next output then stands first. DUTY of a control stage without outstanding outputs gives the cell its ratio,
elsewhere it does nothing. END commits the working copy and operating point, of DCB with the words of its END, shows the sticky flags and frees the
engine; END DISCARD commits nothing but LAYOUT in word 407 of ACR and ACO. (R60, R118, R189, R193, R196, R203, R204, R205, R206, R209) -/
def Obligations.ReferenceProgramsRun : Prop :=
  (∀ (s : State) (e : Eng) (r : RefRun) (v : Inv),
    (s.eng e.val).run = some v →
    v.ref = some r →
    r.stage = .acquire →
    r.out = [] →
    r.prog = .dcb →
    (v.cls = clsAcc ∨ v.cls = clsResync) →
    ∃ t, exec (.acq e) s = .next t ∧
      dataWord (t.invOf e.val v).data 384 = wordOfInt (sat32 (rshr ((s.meanAt (e.val / 2) 0 0).1 * v.word 450) 31 + v.word 451)) ∧
      dataWord (t.invOf e.val v).data 385 = wordOfInt (sat32 (rshr ((s.meanAt (e.val / 2) 1 0).1 * v.word 452) 31 + v.word 453)) ∧
      (t.invOf e.val v).opv0 = wordOfInt (rshr (sat32 (rshr ((s.meanAt (e.val / 2) 0 0).1 * v.word 450) 31 + v.word 451)) 15) ∧
      (t.invOf e.val v).opv1 = wordOfInt (rshr (sat32 (rshr ((s.meanAt (e.val / 2) 1 0).1 * v.word 452) 31 + v.word 453)) 15) ∧
      (s.dcInput (e.val / 2) = false → ((t.invOf e.val v).ref.map (fun q => q.out.take 1)) = some [.slot 0 0]) ∧
      ((t.invOf e.val v).ref.map (fun q => q.out.drop 1)) = some [.slot 1 (wordOfInt (RefProg.acts .dcb v.word 461)), .slot 2 (wordOfInt (s.dcbLink (v.par .dcb)).1), .slot 3 (wordOfInt (quotient 31 (RefProg.acts .dcb v.word 468) (sat32 (rshr ((s.meanAt (e.val / 2) 0 0).1 * v.word 450) 31 + v.word 451))))] ∧
      ((t.invOf e.val v).ref.map RefRun.stage) = some .control ∧
      t.rdw .PK_OPV e.val 0 = s.rdw .PK_OPV e.val 0 ∧
      ((s.meanAt (e.val / 2) 0 0).2 = true → (t.invOf e.val v).nr = true)) ∧
  (∀ (s : State) (e : Eng) (r : RefRun) (v : Inv),
    (s.eng e.val).run = some v →
    v.ref = some r →
    r.stage = .acquire →
    r.out = [] →
    v.cls ≠ clsAcc →
    v.cls ≠ clsResync →
    ∃ t, exec (.acq e) s = .next t ∧
      ((t.invOf e.val v).ref.map RefRun.stage) = some .broken ∧
      ((t.invOf e.val v).ref.map RefRun.out) = some [] ∧
      (t.invOf e.val v).nr = v.nr ∧
      (t.invOf e.val v).data = v.data ∧
      ((t.invOf e.val v).ref.map RefRun.mark) = some false) ∧
  (∀ (s : State) (e : Eng) (r : RefRun) (v : Inv),
    (s.eng e.val).run = some v →
    v.ref = some r →
    r.stage = .acquire →
    r.out = [] →
    r.prog ≠ .dcb →
    (v.cls = clsAcc ∨ v.cls = clsResync) →
    (s.acLayout r.prog (e.val / 2) (acPlace r.prog (v.par r.prog) (e.val / 2)) = false ∨ ((s.acReads r.prog (e.val / 2) (acPlace r.prog (v.par r.prog) (e.val / 2))).1 ++ (s.acReads r.prog (e.val / 2) (acPlace r.prog (v.par r.prog) (e.val / 2))).2).any Prod.snd = true) →
    ∃ t, exec (.acq e) s = .next t ∧
      (t.invOf e.val v).nr = true ∧
      (t.invOf e.val v).data = v.data ∧
      ((t.invOf e.val v).ref.map RefRun.stage) = some .broken ∧
      (((t.invOf e.val v).ref.map RefRun.out) = some (if r.prog = .acr then [.slot 4 0] else []))) ∧
  (∀ (s : State) (e : Eng) (r : RefRun) (v : Inv),
    (s.eng e.val).run = some v →
    v.ref = some r →
    r.stage = .acquire →
    r.out = [] →
    (r.prog = .acu ∨ r.prog = .acw) →
    (v.cls = clsAcc ∨ v.cls = clsResync) →
    s.acLayout r.prog (e.val / 2) (acPlace r.prog (v.par r.prog) (e.val / 2)) = true →
    ((s.acReads r.prog (e.val / 2) (acPlace r.prog (v.par r.prog) (e.val / 2))).1 ++ (s.acReads r.prog (e.val / 2) (acPlace r.prog (v.par r.prog) (e.val / 2))).2).any Prod.snd = false →
    ∃ t, exec (.acq e) s = .next t ∧
      (t.invOf e.val v).data = v.data ∧
      ((t.invOf e.val v).ref.map RefRun.stage) = some .control ∧
      ((t.invOf e.val v).ref.map RefRun.out) = some [.slot 0 (wordOfInt (s.reportOf (v.par r.prog 448).toNat 384)), .slot 4 (wordOfInt (s.reportOf (v.par r.prog 448).toNat 395))] ∧
      ((t.invOf e.val v).ref.map (fun q => q.shared.take 12)) = some ((List.range 12).map (fun k => s.reportOf (v.par r.prog 448).toNat (384 + k)))) ∧
  (∀ (s : State) (e : Eng) (r : RefRun) (v : Inv),
    (s.eng e.val).run = some v →
    v.ref = some r →
    r.stage = .acquire →
    r.out = [] →
    (r.prog = .acr ∨ r.prog = .aco) →
    (v.cls = clsAcc ∨ v.cls = clsResync) →
    s.acLayout r.prog (e.val / 2) (acPlace r.prog (v.par r.prog) (e.val / 2)) = true →
    ((s.acReads r.prog (e.val / 2) (acPlace r.prog (v.par r.prog) (e.val / 2))).1 ++ (s.acReads r.prog (e.val / 2) (acPlace r.prog (v.par r.prog) (e.val / 2))).2).any Prod.snd = false →
    ∃ t, exec (.acq e) s = .next t ∧
      (t.invOf e.val v).data = v.data ∧
      ((t.invOf e.val v).ref.map RefRun.stage) = some .control ∧
      (r.prog = .acr → ((t.invOf e.val v).ref.map RefRun.out) = some [.slot 0 (wordOfInt (if v.par .acr 470 = 0 then v.par .acr 452 else min (v.par .acr 452) r.mem.acr.idFf)), .slot 4 (wordOfInt (v.word 395))]) ∧
      (r.prog = .aco → ((t.invOf e.val v).ref.map (fun q => q.out.drop 1)) = some [.slot 1 (wordOfInt (quotient 30 (v.par .aco 455) (s.reportOf (acPlace r.prog (v.par r.prog) (e.val / 2)).c0 398))), .slot 2 (wordOfInt (v.par .aco 456))]) ∧
      (s.usable (ctrlDomain r.prog (v.par r.prog)) = false → (t.invOf e.val v).nr = true)) ∧
  (∀ (s : State) (e : Eng) (r : RefRun) (v : Inv) (j : Nat) (x0 : Word) (l : List RefOut),
    (s.eng e.val).run = some v →
    v.ref = some r →
    r.out = .slot j x0 :: l →
    j < 8 →
    ∃ t, exec (.outSlot e) s = .next t ∧
      (s.routedIn (e.val / 2) j = false → t.rdw .PK_SLOTVAL (e.val / 2) j = x0 ∧ (t.arb (e.val / 2)).due.contains (s.now + 1) = true) ∧
      (s.routedIn (e.val / 2) j = true → t.get PK_ARBCTL_OUT_DENIED (e.val / 2) = 1 ∧ t.rdw .PK_SLOTVAL (e.val / 2) j = s.rdw .PK_SLOTVAL (e.val / 2) j) ∧
      (t.eng e.val).run = some { v with ref := some { r with out := l } }) ∧
  (∀ (s : State) (e : Eng) (r : RefRun) (v : Inv),
    (s.eng e.val).run = some v →
    v.ref = some r →
    r.stage = .control →
    r.out = [] →
    s.get PK_ARBCTL_DEST (e.val / 2) ≠ 1 →
    s.get PK_ARBCTL_DEST (e.val / 2) ≠ 2 →
    s.on PW_CHCTL_FORM (e.val / 2) = false →
    ∃ t, exec (.duty e) s = .next t ∧
      t.rdw .PW_DUTY (e.val / 2) = (s.setDuty (e.val / 2) (ratioDuty false (wordOfInt (s.refControl e.val v r).2))).rdw .PW_DUTY (e.val / 2) ∧
      ((t.invOf e.val v).ref.map RefRun.stage) = some .report ∧
      (t.eng e.val).data = (s.eng e.val).data ∧
      (r.prog = .acr ∨ r.prog = .acu ∨ r.prog = .acw → (s.refControl e.val v r).2 = acRatio (acPlace r.prog (v.par r.prog) (e.val / 2)).lower (s.acLoops e.val v r).m)) ∧
  (∀ (s : State) (e : Eng) (r : RefRun) (v : Inv),
    (s.eng e.val).run = some v →
    v.ref = some r →
    (r.stage ≠ .control ∨ r.out ≠ []) →
    ∃ t, exec (.duty e) s = .next t ∧
      t = s) ∧
  (∀ (s : State) (e : Eng) (r : RefRun) (v : Inv),
    (s.eng e.val).run = some v →
    v.ref = some r →
    r.stage = .report →
    r.out = [] →
    r.prog ≠ .dcb →
    (s.eng e.val).prog.isSome = true →
    ∃ t, exec (.endRun e) s = .next t ∧
      (t.eng e.val).run = none ∧
      (t.eng e.val).data = v.data ∧
      (t.eng e.val).mem = r.mem ∧
      t.rdw .PK_OPV e.val 0 = v.opv0 ∧
      t.rdw .PK_OPV e.val 1 = v.opv1 ∧
      t.get PK_PSTAT_BUSY e.val = 0 ∧
      (v.sat = true → t.get PK_PSTAT_SAT_SEEN e.val = 1)) ∧
  (∀ (s : State) (e : Eng) (r : RefRun) (v : Inv),
    (s.eng e.val).run = some v →
    v.ref = some r →
    r.stage = .report →
    r.out = [] →
    r.prog = .dcb →
    (s.eng e.val).prog.isSome = true →
    ∃ t, exec (.endRun e) s = .next t ∧
      (t.eng e.val).run = none ∧
      (t.eng e.val).data = (s.dcbReport e.val v r).data ∧
      t.rdw .PK_OPV e.val 0 = v.opv0 ∧
      t.get PK_PSTAT_BUSY e.val = 0 ∧
      (s.rampNames (e.val / 2) = false → bit (dataWord (t.eng e.val).data 388) 4 = true) ∧
      dataWord (t.eng e.val).data 384 = dataWord v.data 384) ∧
  (∀ (s : State) (e : Eng) (r : RefRun) (v : Inv),
    (s.eng e.val).run = some v →
    v.ref = some r →
    r.stage = .broken →
    r.out = [] →
    ∃ t, exec (.endDiscard e) s = .next t ∧
      (t.eng e.val).run = none ∧
      ((t.eng e.val).data = if r.mark && (r.prog == .acr || r.prog == .aco) then setData (s.eng e.val).data 407 (dataWord (s.eng e.val).data 407 ||| 16#32) else (s.eng e.val).data) ∧
      (t.eng e.val).mem = (s.eng e.val).mem ∧
      t.rdw .PK_OPV e.val 0 = s.rdw .PK_OPV e.val 0 ∧
      t.get PK_PSTAT_BUSY e.val = 0 ∧
      (v.nr = true → t.get PK_PSTAT_NR_SEEN e.val = 1))

end
end

