-- ==== Sys2Proof/Laws/Sparse.lean ====
section
/-! SUPPORT. The laws of sparse tables: what is read after a write, and that the canonical form is kept. -/

namespace Sys2Proof.Machine

variable {α : Type}

/-- Strictly rising keys, as a pairwise relation. -/
theorem sparseSorted_iff (l : List (Nat × α)) : sparseSorted l = true ↔ l.Pairwise (fun p q => p.1 < q.1) := by
  induction l with
  | nil => simp [sparseSorted]
  | cons p l ih =>
    cases l with
    | nil => simp [sparseSorted]
    | cons q l =>
      obtain ⟨a, v⟩ := p
      obtain ⟨b, w⟩ := q
      simp only [sparseSorted, Bool.and_eq_true, decide_eq_true_eq, ih, List.pairwise_cons, List.mem_cons, forall_eq_or_imp]
      constructor
      · rintro ⟨h, h1, h2⟩
        exact ⟨⟨h, fun r hr => lt_trans h (h1 r hr)⟩, h1, h2⟩
      · rintro ⟨⟨h, -⟩, h1, h2⟩
        exact ⟨h, h1, h2⟩

/-- An inserted entry is the new one or an old one. -/
theorem mem_sparseInsert {a : Nat} {v : α} {l : List (Nat × α)} {p : Nat × α} (h : p ∈ sparseInsert a v l) : p = (a, v) ∨ p ∈ l := by
  induction l with
  | nil => simpa [sparseInsert] using h
  | cons q l ih =>
    obtain ⟨b, w⟩ := q
    simp only [sparseInsert] at h
    split at h
    · simpa using h
    · split at h
      · rcases List.mem_cons.1 h with h | h
        · exact .inl h
        · exact .inr (List.mem_cons_of_mem _ h)
      · rcases List.mem_cons.1 h with h | h
        · exact .inr (h ▸ List.mem_cons_self)
        · exact (ih h).imp id (List.mem_cons_of_mem _)

/-- Inserting keeps the keys strictly rising. -/
theorem sorted_sparseInsert (a : Nat) (v : α) {l : List (Nat × α)} (h : sparseSorted l = true) :
    sparseSorted (sparseInsert a v l) = true := by
  rw [sparseSorted_iff] at *
  induction l with
  | nil => simp [sparseInsert]
  | cons q l ih =>
    obtain ⟨b, w⟩ := q
    obtain ⟨h1, h2⟩ := List.pairwise_cons.1 h
    simp only [sparseInsert]
    split
    · rename_i hab
      exact List.pairwise_cons.2 ⟨fun r hr => by
        rcases List.mem_cons.1 hr with hr | hr
        · exact hr ▸ hab
        · exact lt_trans hab (h1 r hr), h⟩
    · split
      · rename_i hab
        exact List.pairwise_cons.2 ⟨fun r hr => hab ▸ h1 r hr, h2⟩
      · refine List.pairwise_cons.2 ⟨fun r hr => ?_, ih h2⟩
        rcases mem_sparseInsert hr with hr | hr
        · subst hr; simp only; omega
        · exact h1 r hr

/-- Filtering keeps the keys strictly rising. -/
theorem sorted_filter (p : Nat × α → Bool) {l : List (Nat × α)} (h : sparseSorted l = true) : sparseSorted (l.filter p) = true := by
  rw [sparseSorted_iff] at *
  exact h.filter p

/-- A key below every listed one is not listed. -/
theorem sparseFind_below {a : Nat} {l : List (Nat × α)} (h : ∀ r ∈ l, a < r.1) : sparseFind a l = none := by
  induction l with
  | nil => rfl
  | cons q l ih =>
    obtain ⟨b, w⟩ := q
    have hb : a < b := h (b, w) List.mem_cons_self
    simp only [sparseFind]
    rw [if_neg (by omega), ih (fun r hr => h r (List.mem_cons_of_mem _ hr))]

/-- What an inserted key reads as. -/
theorem sparseFind_insert_same (a : Nat) (v : α) (l : List (Nat × α)) : sparseFind a (sparseInsert a v l) = some v := by
  induction l with
  | nil => simp [sparseInsert, sparseFind]
  | cons q l ih =>
    obtain ⟨b, w⟩ := q
    simp only [sparseInsert]
    split
    · simp [sparseFind]
    · split
      · simp [sparseFind]
      · rename_i h
        simp [sparseFind, h, ih]

/-- Inserting changes no other key. -/
theorem sparseFind_insert_ne {a c : Nat} (h : c ≠ a) (v : α) (l : List (Nat × α)) :
    sparseFind c (sparseInsert a v l) = sparseFind c l := by
  induction l with
  | nil => simp [sparseInsert, sparseFind, h]
  | cons q l ih =>
    obtain ⟨b, w⟩ := q
    simp only [sparseInsert]
    split
    · simp [sparseFind, h]
    · split
      · rename_i hb
        subst hb
        simp [sparseFind, h]
      · simp only [sparseFind, ih]

/-- An erased key is not listed. -/
theorem sparseFind_erase_same (a : Nat) (l : List (Nat × α)) : sparseFind a (sparseErase a l) = none := by
  induction l with
  | nil => rfl
  | cons q l ih =>
    obtain ⟨b, w⟩ := q
    by_cases h : b = a
    · subst h; simpa [sparseErase] using ih
    · have hs : sparseErase a ((b, w) :: l) = (b, w) :: sparseErase a l := by simp [sparseErase, h]
      rw [hs, sparseFind, if_neg (Ne.symm h), ih]

/-- Erasing changes no other key. -/
theorem sparseFind_erase_ne {a c : Nat} (h : c ≠ a) (l : List (Nat × α)) : sparseFind c (sparseErase a l) = sparseFind c l := by
  induction l with
  | nil => rfl
  | cons q l ih =>
    obtain ⟨b, w⟩ := q
    by_cases hb : b = a
    · subst hb
      have hs : sparseErase b ((b, w) :: l) = sparseErase b l := by simp [sparseErase]
      rw [hs, ih, sparseFind, if_neg h]
    · have hs : sparseErase a ((b, w) :: l) = (b, w) :: sparseErase a l := by simp [sparseErase, hb]
      rw [hs, sparseFind, sparseFind, ih]

variable [DecidableEq α]

/-- A write keeps the keys strictly rising. -/
theorem sorted_sparseSet (a : Nat) (d v : α) {l : List (Nat × α)} (h : sparseSorted l = true) :
    sparseSorted (sparseSet a d v l) = true := by
  unfold sparseSet
  split
  · exact sorted_filter _ h
  · exact sorted_sparseInsert a v h

/-- An entry after a write is an old one or the value written, which is then not the default. -/
theorem mem_sparseSet {a : Nat} {d v : α} {l : List (Nat × α)} {p : Nat × α} (h : p ∈ sparseSet a d v l) :
    (p = (a, v) ∧ v ≠ d) ∨ p ∈ l := by
  unfold sparseSet at h
  split at h
  · exact .inr (List.mem_of_mem_filter h)
  · rename_i hv
    exact (mem_sparseInsert h).imp (fun e => ⟨e, hv⟩) id

/-- Read after write, the same key. -/
@[simp] theorem sparseFind_set_same (a : Nat) (d v : α) (l : List (Nat × α)) : (sparseFind a (sparseSet a d v l)).getD d = v := by
  unfold sparseSet
  split
  · rename_i h; simp [sparseFind_erase_same, h]
  · simp [sparseFind_insert_same]

/-- Read after write, another key. -/
theorem sparseFind_set_ne {a c : Nat} (h : c ≠ a) (d v : α) (l : List (Nat × α)) :
    sparseFind c (sparseSet a d v l) = sparseFind c l := by
  unfold sparseSet
  split
  · exact sparseFind_erase_ne h l
  · exact sparseFind_insert_ne h v l

end Sys2Proof.Machine
end

