-- ==== Sys2Proof/Laws/Registers.lean ====
section
/-! SUPPORT. The laws of the register file: places tell copies apart, a field reads what was stored in it, and a store changes no other
field. -/

namespace Sys2Proof.Machine

/-! ### Places -/

/-- No register has more than 4,096 copies in either direction. -/
theorem RegId.small (r : RegId) : r.reg.f1 + r.reg.n1 ≤ 2 ^ 12 ∧ r.reg.n2 ≤ 2 ^ 12 := by
  cases r <;> decide

/-- A copy's numbers are small. -/
theorem RegId.has_small {r : RegId} {i j : Nat} (h : r.has i j = true) : i < 2 ^ 12 ∧ j < 2 ^ 12 := by
  have := r.small
  simp only [RegId.has, decide_eq_true_eq] at h
  omega

/-- The place of a copy names the copy. -/
theorem regOfKey_key {r : RegId} {i j : Nat} (h : r.has i j = true) : regOfKey (r.key i j) = some (r, i, j) := by
  obtain ⟨hi, hj⟩ := RegId.has_small h
  have h1 : r.key i j / 2 ^ 24 = r.ctorIdx := by unfold RegId.key; omega
  have h2 : r.key i j / 2 ^ 12 % 2 ^ 12 = i := by unfold RegId.key; omega
  have h3 : r.key i j % 2 ^ 12 = j := by unfold RegId.key; omega
  simp only [regOfKey, h1, h2, h3, RegId.ofNat_ctorIdx, h, decide_true, Bool.and_true, if_true]

/-- Different copies have different places. -/
theorem key_inj {r q : RegId} {i j a b : Nat} (h : r.has i j = true) (h' : q.has a b = true) (e : r.key i j = q.key a b) :
    r = q ∧ i = a ∧ j = b := by
  have := regOfKey_key h
  rw [e, regOfKey_key h'] at this
  simp only [Option.some.injEq, Prod.mk.injEq] at this
  exact ⟨this.1.symm, this.2.1.symm, this.2.2.symm⟩

/-! ### Words -/

/-- A stored word is read back. -/
theorem State.rdw_wrw (s : State) (r : RegId) (v : Word) (i j : Nat) (h : r.has i j = true) : (s.wrw r v i j).rdw r i j = v := by
  simp [State.wrw, State.rdw, h]

/-- Storing in one copy changes no other. -/
theorem State.rdw_wrw_ne (s : State) (r q : RegId) (v : Word) (i j a b : Nat) (h : q.has a b = true) (hne : q ≠ r ∨ a ≠ i ∨ b ≠ j) :
    (s.wrw r v i j).rdw q a b = s.rdw q a b := by
  by_cases hr : r.has i j = true
  · have hk : q.key a b ≠ r.key i j := fun e => by
      obtain ⟨h1, h2, h3⟩ := key_inj h hr e
      rcases hne with hne | hne | hne <;> contradiction
    simp [State.wrw, State.rdw, hr, sparseFind_set_ne hk]
  · simp [State.wrw, State.rdw, hr]

/-! ### Fields -/

/-- A bit of a word with a field replaced. -/
theorem setBits_bit (w : Word) (lo width v k : Nat) :
    (setBits w lo width v).getLsbD k =
      if lo ≤ k ∧ k < lo + width ∧ k < 32 then v.testBit (k - lo) else w.getLsbD k := by
  simp only [setBits, BitVec.getLsbD_or, BitVec.getLsbD_and, BitVec.getLsbD_not, BitVec.getLsbD_shiftLeft, BitVec.getLsbD_ofNat]
  by_cases h : k < 32
  · by_cases h1 : lo ≤ k
    · by_cases h2 : k < lo + width
      · have e1 : k - lo < width := by omega
        have e2 : k - lo < 32 := by omega
        simp [h, h1, h2, e1, e2, Nat.not_lt.2 h1]
      · have e1 : ¬ k - lo < width := by omega
        simp [h, h1, h2, e1]
    · simp [h, h1, Nat.lt_of_not_le h1]
  · simp [h, BitVec.getLsbD_of_ge w k (by omega)]

/-- A bit of a field's value. -/
theorem bits_bit (w : Word) (lo width k : Nat) : (bits w lo width).testBit k = (decide (k < width) && w.getLsbD (lo + k)) := by
  unfold bits
  rw [Nat.testBit_mod_two_pow]
  congr 1
  rw [← BitVec.getLsbD, BitVec.getLsbD_ushiftRight]

/-- A field reads what was put in it, up to its width. -/
theorem bits_setBits (w : Word) (lo width v : Nat) (h : lo + width ≤ 32) : bits (setBits w lo width v) lo width = v % 2 ^ width := by
  apply Nat.eq_of_testBit_eq
  intro k
  rw [bits_bit, setBits_bit, Nat.testBit_mod_two_pow]
  by_cases hk : k < width
  · have e : lo ≤ lo + k ∧ lo + k < lo + width ∧ lo + k < 32 := by omega
    simp [hk, e]
  · simp [hk]

/-- A field reads as before when another was put. -/
theorem bits_setBits_ne (w : Word) (lo width lo' width' v : Nat) (h : lo' + width' ≤ lo ∨ lo + width ≤ lo') :
    bits (setBits w lo width v) lo' width' = bits w lo' width' := by
  apply Nat.eq_of_testBit_eq
  intro k
  rw [bits_bit, bits_bit, setBits_bit]
  by_cases hk : k < width'
  · have e : ¬ (lo ≤ lo' + k ∧ lo' + k < lo + width ∧ lo' + k < 32) := by omega
    simp [hk, e]
  · simp [hk]

/-- Storing a field stores its register's word. -/
theorem State.rdw_put (s : State) (f : Fld) (v i j : Nat) (q : RegId) (a b : Nat) :
    (s.put f v i j).rdw q a b = (s.wrw f.reg (f.into (s.rdw f.reg i j) v) i j).rdw q a b := rfl

/-- The field put reads as the value, up to its width. -/
theorem State.get_put (s : State) (f : Fld) (v i j : Nat) (h : f.reg.has i j = true) (hw : f.lo + f.width ≤ 32) :
    (s.put f v i j).get f i j = v % 2 ^ f.width := by
  simp [State.get, State.rdw_put, State.rdw_wrw _ _ _ _ _ h, Fld.of, Fld.into, bits_setBits _ _ _ _ hw]

/-- Another field of the same word, or a field of another copy or register, reads as before. -/
theorem State.get_put_ne (s : State) (f g : Fld) (v i j a b : Nat) (h : g.reg.has a b = true)
    (hne : g.reg ≠ f.reg ∨ a ≠ i ∨ b ≠ j ∨ g.lo + g.width ≤ f.lo ∨ f.lo + f.width ≤ g.lo) :
    (s.put f v i j).get g a b = s.get g a b := by
  by_cases hc : g.reg ≠ f.reg ∨ a ≠ i ∨ b ≠ j
  · simp only [State.rdw_put, State.get, State.rdw_wrw_ne _ _ _ _ _ _ _ _ h hc]
  · obtain ⟨hr, ha, hb⟩ : g.reg = f.reg ∧ a = i ∧ b = j := by simpa [not_or] using hc
    subst ha hb
    have hl : g.lo + g.width ≤ f.lo ∨ f.lo + f.width ≤ g.lo := by simpa [hr] using hne
    have hf : f.reg.has a b = true := hr ▸ h
    simp only [State.rdw_put, State.get, Fld.of, Fld.into]
    rw [hr, State.rdw_wrw _ _ _ _ _ hf, bits_setBits_ne _ _ _ _ _ _ hl]

/-- A word of another register or copy reads as before. -/
theorem State.rdw_put_ne (s : State) (f : Fld) (q : RegId) (v i j a b : Nat) (h : q.has a b = true)
    (hne : q ≠ f.reg ∨ a ≠ i ∨ b ≠ j) : (s.put f v i j).rdw q a b = s.rdw q a b :=
  State.rdw_wrw_ne _ _ _ _ _ _ _ _ h hne

end Sys2Proof.Machine
end

