-- ==== Sys2Proof/Laws/Evolves.lean ====
section
/-! SUPPORT. What every operation of the module keeps: the queue, time and the free values' counter never going back, the canonical forms,
the one-way counts of the OTP and of the counters' marks (R11, R366, R375), and every part of the state that is not named. Each shared
operation has one lemma that says so. -/

namespace Sys2Proof.Machine

/-! ### Lists of parts -/

/-- The number of a part. -/
def Part.num : Part → Nat
  | .reg r => r.ctorIdx + 32
  | .latched => 0 | .mem => 1 | .timers => 2 | .bus => 3 | .freeIdx => 4 | .now => 5 | .head => 6 | .plan => 7 | .drift => 8 | .intc => 9
  | .seam => 10 | .power => 11 | .pick => 12 | .sense => 13 | .fm => 14 | .lamp => 15 | .assay => 16 | .bank => 17 | .uhla => 18
  | .winder => 19 | .supply => 20 | .host => 21 | .fresh => 22

/-- Different parts have different numbers. -/
theorem Part.num_inj {p q : Part} (h : p.num = q.num) : p = q := by
  cases p <;> cases q <;> simp [Part.num] at h ⊢
  rename_i r r'
  have := congrArg RegId.ofNat h
  simpa only [RegId.ofNat_ctorIdx] using this

/-- A list of parts as a bit mask. -/
def partMask (l : List Part) : Nat := l.foldr (fun p m => 2 ^ p.num ||| m) 0

/-- A bit of the mask. -/
theorem testBit_partMask (l : List Part) (p : Part) : (partMask l).testBit p.num = true ↔ p ∈ l := by
  induction l with
  | nil => simp [partMask]
  | cons q l ih =>
    have e : partMask (q :: l) = 2 ^ q.num ||| partMask l := rfl
    rw [e, Nat.testBit_or, Bool.or_eq_true, ih, Nat.testBit_two_pow, List.mem_cons]
    simp only [decide_eq_true_eq]
    exact or_congr_left ⟨fun h => (Part.num_inj h).symm, fun h => by rw [h]⟩

/-- Every part of `A` is one of `B`. -/
def covers (A B : List Part) : Bool := (partMask A ||| partMask B) == partMask B

/-- What `covers` says. -/
theorem covers_mem {A B : List Part} (h : covers A B = true) {p : Part} (hp : p ∈ A) : p ∈ B := by
  have h := of_decide_eq_true h
  rw [← testBit_partMask, ← h, Nat.testBit_or, Bool.or_eq_true]
  exact .inl ((testBit_partMask A p).2 hp)

/-- Every list covers itself. -/
theorem covers_self (A : List Part) : covers A A = true := by
  simp [covers]

/-- Every list covers the empty one. -/
theorem covers_nil (A : List Part) : covers [] A = true := by
  simp [covers, partMask]

/-- The first part of a list is one of its parts. -/
theorem covers_head (p : Part) (l : List Part) : covers [p] (p :: l) = true := by
  simp [covers, partMask]

/-- Covering is transitive. -/
theorem covers_trans {A B C : List Part} (h : covers A B = true) (h' : covers B C = true) : covers A C = true := by
  have e := of_decide_eq_true h
  have e' := of_decide_eq_true h'
  have : partMask A ||| partMask C = partMask C := by rw [← e', ← Nat.or_assoc, e]
  simp [covers, this]

/-- A longer list covers as much. -/
theorem covers_cons {A B : List Part} (p : Part) (h : covers A B = true) : covers A (p :: B) = true := by
  have e := of_decide_eq_true h
  have : partMask (p :: B) = 2 ^ p.num ||| partMask B := rfl
  have e2 : partMask A ||| (2 ^ p.num ||| partMask B) = 2 ^ p.num ||| partMask B := by
    rw [← Nat.or_assoc, Nat.or_comm (partMask A), Nat.or_assoc, e]
  simp [covers, this, e2]

/-- Every register is one of the list. -/
theorem RegId.mem_all (r : RegId) : r ∈ RegId.all := by
  have h : ∀ n < 282, RegId.ofNat n ∈ RegId.all := by decide +kernel
  have hr : r.ctorIdx < 282 := by cases r <;> decide
  simpa only [RegId.ofNat_ctorIdx] using h _ hr

/-- Every part is one of the list. -/
theorem Part.mem_all (p : Part) : p ∈ Part.all := by
  cases p
  case reg r => exact List.mem_append_left _ (List.mem_map_of_mem r.mem_all)
  all_goals exact List.mem_append_right _ (by decide)

/-- The list of all parts covers every list. -/
theorem covers_all (A : List Part) : covers A Part.all = true := by
  have e : partMask A ||| partMask Part.all = partMask Part.all := by
    apply Nat.eq_of_testBit_eq
    intro n
    rw [Nat.testBit_or]
    by_cases h : (partMask A).testBit n = true
    · have : ∃ p ∈ A, p.num = n := by
        induction A with
        | nil => simp [partMask] at h
        | cons q l ih =>
          have e : partMask (q :: l) = 2 ^ q.num ||| partMask l := rfl
          rw [e, Nat.testBit_or, Bool.or_eq_true, Nat.testBit_two_pow, decide_eq_true_eq] at h
          rcases h with h | h
          · exact ⟨q, List.mem_cons_self, h⟩
          · obtain ⟨p, hp, e⟩ := ih h
            exact ⟨p, List.mem_cons_of_mem _ hp, e⟩
      obtain ⟨p, -, rfl⟩ := this
      rw [(testBit_partMask _ p).2 p.mem_all]
      simp
    · simp [h]
  simp [covers, e]

/-! ### The relation -/

/-- A part is the same as itself. -/
theorem Part.same_refl (p : Part) (s : State) : p.same s s := by
  cases p <;> simp [Part.same]

/-- A part that two changes leave alone. -/
theorem Part.same_trans {p : Part} {s t u : State} (h : p.same s t) (h' : p.same t u) : p.same s u := by
  cases p
  case reg r => exact fun i j hr => (h' i j hr).trans (h i j hr)
  case mem => exact fun a => (h' a).trans (h a)
  all_goals exact h'.trans h

/-- What a change of the parts `A` keeps. -/
structure Evolves (A : List Part) (s t : State) : Prop where
  /-- The queue of commands is the sender's. -/
  pending : t.pending = s.pending
  /-- Time does not go back. -/
  now : s.now ≤ t.now
  /-- No free value is taken twice. -/
  free : s.freeIdx ≤ t.freeIdx
  /-- The register file keeps its canonical form. -/
  regs : regsWf s.regs = true → regsWf t.regs = true
  /-- Memory keeps its canonical form. -/
  mem : s.memWf = true → t.memWf = true
  /-- The life-cycle state never goes back (R11). -/
  lc : s.bank.lc ≤ t.bank.lc
  /-- The step counts of the OTP only rise (R375). -/
  arb : ∀ k : Fin 6, s.bank.arb[k] ≤ t.bank.arb[k]
  /-- The high-water marks only rise (R366). -/
  marks : ∀ k : Fin 32, s.bank.marks[k] ≤ t.bank.marks[k]
  /-- Every other part is the same. -/
  kept : ∀ p, p ∉ A → p.same s t

/-- Nothing is lost by doing nothing. -/
theorem Evolves.refl (A : List Part) (s : State) : Evolves A s s :=
  ⟨rfl, le_refl _, le_refl _, id, id, le_refl _, fun _ => le_refl _, fun _ => le_refl _, fun p _ => p.same_refl s⟩

/-- One change after another. -/
theorem Evolves.step {A B : List Part} {s t u : State} (h : Evolves A s t) (h' : Evolves B t u) (c : covers B A = true) : Evolves A s u :=
  ⟨h'.pending.trans h.pending, h.now.trans h'.now, h.free.trans h'.free, fun w => h'.regs (h.regs w), fun w => h'.mem (h.mem w),
    h.lc.trans h'.lc, fun k => (h.arb k).trans (h'.arb k), fun k => (h.marks k).trans (h'.marks k),
    fun p hp => Part.same_trans (h.kept p hp) (h'.kept p (fun hB => hp (covers_mem c hB)))⟩

/-- A change of more parts. -/
theorem Evolves.mono {A B : List Part} {s t : State} (h : Evolves B s t) (c : covers B A = true) : Evolves A s t :=
  (Evolves.refl A s).step h c

/-- What an unlisted byte reads as depends on the images in TCM alone. -/
theorem memDefault_congr {s t : State} (h : t.tcms = s.tcms) (a : Nat) : t.memDefault a = s.memDefault a := by
  simp only [State.memDefault, h]

/-- Memory's form rests on the list and on the images in TCM. -/
theorem memWf_congr {s t : State} (hm : t.mem = s.mem) (h : t.tcms = s.tcms) : t.memWf = s.memWf := by
  simp only [State.memWf, hm, memDefault_congr h]

/-- So does what its bytes read as. -/
theorem byte_congr {s t : State} (hm : t.mem = s.mem) (h : t.tcms = s.tcms) (a : Nat) : t.byte a = s.byte a := by
  simp only [State.byte, hm, memDefault_congr h]

/-- A word of a register rests on the register file. -/
theorem rdw_congr {s t : State} (h : t.regs = s.regs) (r : RegId) (i j : Nat) : t.rdw r i j = s.rdw r i j := by
  simp only [State.rdw, h]

/-- A change of other parts than registers, memory, time, free values and the images in TCM. -/
theorem Evolves.of_parts {A : List Part} {s t : State} (h1 : t.pending = s.pending) (h2 : t.now = s.now) (h3 : t.freeIdx = s.freeIdx)
    (h4 : t.regs = s.regs) (h5 : t.mem = s.mem) (h6 : t.tcms = s.tcms) (h7 : t.bank.lc = s.bank.lc) (h8 : t.bank.arb = s.bank.arb)
    (h9 : t.bank.marks = s.bank.marks)
    (hk : ∀ p, p ∉ A → (∀ r, p ≠ .reg r) → p ≠ .mem → p ≠ .now → p ≠ .freeIdx → p.same s t) : Evolves A s t := by
  refine ⟨h1, h2.ge, h3.ge, fun w => by rw [h4]; exact w, fun w => by rw [memWf_congr h5 h6]; exact w, h7.ge, fun k => by rw [h8],
    fun k => by rw [h9], fun p hp => ?_⟩
  cases p
  case reg r => exact fun i j _ => rdw_congr h4 r i j
  case mem => exact byte_congr h5 h6
  case now => exact h2
  case freeIdx => exact h3
  all_goals exact hk _ hp (by simp) (by simp) (by simp) (by simp)

/-- A change of some units' state, the Banksman's one-way counts as before. -/
theorem mk_evolves {A : List Part} {s₀ s : State} (h₀ : Evolves A s₀ s) (latched : List (Nat × Word)) (timers : List (Timer × Nat)) (bus : Bus) (head : HeadU)
    (plan : PlanU) (intc : IntcU) (seam : SeamU) (power : PowerU) (pick : PickU) (sense : SenseU) (fm : FmU) (lamp : LampU) (assay : AssayU)
    (bank : BankU) (uhla : UhlaU) (winder : WinderU) (supply : SupplyU) (host : HostU)
    (h1 : latched = s.latched ∨ Part.latched ∈ A)
    (h2 : timers = s.timers ∨ Part.timers ∈ A)
    (h3 : bus = s.bus ∨ Part.bus ∈ A)
    (h4 : head = s.head ∨ Part.head ∈ A)
    (h5 : plan = s.plan ∨ Part.plan ∈ A)
    (h6 : intc = s.intc ∨ Part.intc ∈ A)
    (h7 : seam = s.seam ∨ Part.seam ∈ A)
    (h8 : power = s.power ∨ Part.power ∈ A)
    (h9 : pick = s.pick ∨ Part.pick ∈ A)
    (h10 : sense = s.sense ∨ Part.sense ∈ A)
    (h11 : fm = s.fm ∨ Part.fm ∈ A)
    (h12 : lamp = s.lamp ∨ Part.lamp ∈ A)
    (h13 : assay = s.assay ∨ Part.assay ∈ A)
    (h14 : bank = s.bank ∨ (Part.bank ∈ A ∧ bank.lc = s.bank.lc ∧ bank.arb = s.bank.arb ∧ bank.marks = s.bank.marks))
    (h15 : uhla = s.uhla ∨ Part.uhla ∈ A)
    (h16 : winder = s.winder ∨ Part.winder ∈ A)
    (h17 : supply = s.supply ∨ Part.supply ∈ A)
    (h18 : host = s.host ∨ Part.host ∈ A) :
    Evolves A s₀ ⟨s.pending, s.now, s.regs, s.fresh, latched, s.mem, timers, bus, s.freeIdx, head, plan, s.drift, intc, seam, power, pick, sense, fm,
      lamp, assay, bank, uhla, winder, supply, host⟩ := by
  have hb : bank.lc = s.bank.lc ∧ bank.arb = s.bank.arb ∧ bank.marks = s.bank.marks := by
    rcases h14 with h | h
    · rw [h]; exact ⟨rfl, rfl, rfl⟩
    · exact h.2
  refine h₀.step (Evolves.of_parts rfl rfl rfl rfl rfl rfl hb.1 hb.2.1 hb.2.2 (fun p hp h h' hn hf => ?_)) (covers_self A)
  cases p
  case reg r => exact absurd rfl (h r)
  case mem => exact absurd rfl h'
  case bank => exact h14.resolve_right (fun c => hp c.1)
  case drift => exact rfl
  case now => exact rfl
  case freeIdx => exact rfl
  case fresh => exact rfl
  case latched => exact h1.resolve_right hp
  case timers => exact h2.resolve_right hp
  case bus => exact h3.resolve_right hp
  case head => exact h4.resolve_right hp
  case plan => exact h5.resolve_right hp
  case intc => exact h6.resolve_right hp
  case seam => exact h7.resolve_right hp
  case power => exact h8.resolve_right hp
  case pick => exact h9.resolve_right hp
  case sense => exact h10.resolve_right hp
  case fm => exact h11.resolve_right hp
  case lamp => exact h12.resolve_right hp
  case assay => exact h13.resolve_right hp
  case uhla => exact h15.resolve_right hp
  case winder => exact h16.resolve_right hp
  case supply => exact h17.resolve_right hp
  case host => exact h18.resolve_right hp

/-! ### Control -/

/-- A repetition. -/
theorem State.each_evolves {α : Type} {A : List Part} {s₀ s : State} (h : Evolves A s₀ s) (l : List α) (f : State → α → State)
    (hf : ∀ t x, Evolves A s₀ t → Evolves A s₀ (f t x)) : Evolves A s₀ (s.each l f) := by
  unfold State.each
  induction l generalizing s with
  | nil => exact h
  | cons x l ih => exact ih (hf s x h)

/-- A conditional change. -/
theorem State.when_evolves {A : List Part} {s₀ s : State} (h : Evolves A s₀ s) (b : Bool) (f : State → State)
    (hf : ∀ t, Evolves A s₀ t → Evolves A s₀ (f t)) : Evolves A s₀ (s.when b f) := by
  unfold State.when
  split
  · exact hf s h
  · exact h

/-- An attempt, or what is done without it. -/
theorem getD_evolves {A : List Part} {s d : State} {o : Option State} (h : ∀ u, o = some u → Evolves A s u) (hd : Evolves A s d) :
    Evolves A s (o.getD d) := by
  cases o with
  | none => exact hd
  | some u => exact h u rfl

/-- A choice. -/
theorem ite_evolves {A : List Part} {s a b : State} {c : Prop} [Decidable c] (ha : Evolves A s a) (hb : Evolves A s b) :
    Evolves A s (if c then a else b) := by
  split <;> assumption

/-- A choice between results, the state first. -/
theorem fstIte_evolves {α : Type} {A : List Part} {s : State} {c : Prop} [Decidable c] {a b : State × α} (ha : Evolves A s a.1)
    (hb : Evolves A s b.1) : Evolves A s (if c then a else b).1 := by
  split <;> assumption

/-! ### Registers -/

/-- A place that is a register copy's takes a word. -/
theorem regsWf_set {k : Nat} {r : RegId} {i j : Nat} (hk : regOfKey k = some (r, i, j)) (v : Word) {l : List (Nat × Word)}
    (w : regsWf l = true) : regsWf (sparseSet k (r.resetWord i j) v l) = true := by
  simp only [regsWf, Bool.and_eq_true, List.all_eq_true] at w ⊢
  refine ⟨sorted_sparseSet _ _ _ w.1, fun p hp => ?_⟩
  rcases mem_sparseSet hp with ⟨e, hv⟩ | hp
  · rw [e]
    simpa [hk] using hv
  · exact w.2 p hp

/-- Storing a word changes only the register. -/
theorem State.wrw_kept (s : State) (r : RegId) (v : Word) (i j : Nat) (p : Part) (hp : p ≠ .reg r) : p.same s (s.wrw r v i j) := by
  cases p
  case reg q =>
    intro a b hq
    exact State.rdw_wrw_ne s r q v i j a b hq (.inl (fun e => hp (by rw [e])))
  case mem =>
    intro a
    exact byte_congr rfl rfl a
  all_goals rfl

/-- Storing a word. -/
theorem State.wrw_change (s : State) (r : RegId) (v : Word) (i j : Nat) : Evolves [.reg r] s (s.wrw r v i j) := by
  have hk := fun p (hp : p ∉ [Part.reg r]) => State.wrw_kept s r v i j p (by simpa using hp)
  refine ⟨rfl, le_refl _, le_refl _, fun w => ?_, id, le_refl _, fun _ => le_refl _, fun _ => le_refl _, hk⟩
  simp only [State.wrw]
  split
  · rename_i hr
    exact regsWf_set (regOfKey_key hr) v w
  · exact w

/-- Noting bits that are set. -/
theorem State.note_change (s : State) (r : RegId) (m : Word) (i j : Nat) : Evolves [.fresh] s (s.note r m i j) :=
  Evolves.of_parts rfl rfl rfl rfl rfl rfl rfl rfl rfl (fun p hp hr hm hn hf => by
    cases p <;> first | exact absurd List.mem_cons_self hp | rfl | exact absurd rfl (hr _) | contradiction)

/-- Storing a field. -/
theorem State.put_change (s : State) (f : Fld) (v i j : Nat) : Evolves [.fresh, .reg f.reg] s (s.put f v i j) :=
  ((State.wrw_change s _ _ i j).mono (covers_cons _ (covers_self _))).step (State.note_change _ _ _ _ _) (covers_head _ _)

/-- Keeping some registers only. -/
theorem regsWf_filter (p : Nat × Word → Bool) {l : List (Nat × Word)} (w : regsWf l = true) : regsWf (l.filter p) = true := by
  simp only [regsWf, Bool.and_eq_true, List.all_eq_true] at w ⊢
  exact ⟨sorted_filter p w.1, fun q hq => w.2 q (List.mem_of_mem_filter hq)⟩

/-- A kept place reads as before. -/
theorem sparseFind_filter {α : Type} (p : Nat × α → Bool) (k : Nat) (l : List (Nat × α)) (h : ∀ v, p (k, v) = true) :
    sparseFind k (l.filter p) = sparseFind k l := by
  induction l with
  | nil => rfl
  | cons q l ih =>
    obtain ⟨b, w⟩ := q
    by_cases e : k = b
    · subst e
      simp [h w, sparseFind]
    · by_cases hp : p (b, w) = true
      · simp [hp, sparseFind, e, ih]
      · simp [hp, sparseFind, e, ih]

/-- A register that is not among those returned to their reset values reads as before. -/
theorem resetRegs_find {k : Nat} {r : RegId} {i j : Nat} (hk : regOfKey k = some (r, i, j)) (p : RegId → Nat → Bool) (hp : p r i = false)
    (l : List (Nat × Word)) :
    sparseFind k (l.filter (fun e => match regOfKey e.1 with
      | some (r, i, _) => !p r i
      | none => false)) = sparseFind k l :=
  sparseFind_filter _ k l (fun v => by simp [hk, hp])

/-- Returning registers to their reset values, those that a list names at most. -/
theorem State.resetRegsWhere_change {A : List Part} (s : State) (p : RegId → Nat → Bool) (hA : ∀ r i, p r i = true → Part.reg r ∈ A)
    (hL : Part.latched ∈ A) :
    Evolves A s (s.resetRegsWhere p) := by
  refine ⟨rfl, le_refl _, le_refl _, regsWf_filter _, id, le_refl _, fun _ => le_refl _, fun _ => le_refl _, fun q hq => ?_⟩
  cases q
  case reg r =>
    intro i j hr
    have hp : p r i = false := by
      by_contra c
      exact hq (hA r i (by simpa using c))
    exact congrArg (fun o => o.getD (r.resetWord i j)) (resetRegs_find (regOfKey_key hr) p hp s.regs)
  case mem => exact byte_congr rfl rfl
  case latched => exact absurd hL hq
  all_goals rfl

/-- Returning the registers of some classes to their reset values. -/
theorem State.resetRegs_change (s : State) (cs : RegClass → Bool) : Evolves Part.all s (s.resetRegs cs) :=
  ⟨rfl, le_refl _, le_refl _, regsWf_filter _, id, le_refl _, fun _ => le_refl _, fun _ => le_refl _, fun p hp => absurd p.mem_all hp⟩

/-! ### Memory -/

/-- Storing a byte. -/
theorem State.setByte_change (s : State) (a : Nat) (v : Byte) : Evolves [.mem] s (s.setByte a v) := by
  refine ⟨rfl, le_refl _, le_refl _, id, fun w => ?_, le_refl _, fun _ => le_refl _, fun _ => le_refl _, fun p hp => ?_⟩
  · have hd : ∀ x, (s.setByte a v).memDefault x = s.memDefault x := memDefault_congr rfl
    simp only [State.memWf, Bool.and_eq_true, List.all_eq_true, hd] at w ⊢
    refine ⟨sorted_sparseSet _ _ _ w.1, fun p hp => ?_⟩
    rcases mem_sparseSet hp with ⟨e, hv⟩ | hp
    · subst e
      simpa using hv
    · exact w.2 p hp
  · cases p
    case reg r => exact fun i j _ => rdw_congr rfl r i j
    case mem => exact absurd List.mem_cons_self hp
    all_goals rfl

/-- Storing bytes. -/
theorem State.setBytes_change (s : State) (a : Nat) (l : List Byte) : Evolves [.mem] s (s.setBytes a l) := by
  induction l generalizing s a with
  | nil => exact Evolves.refl _ s
  | cons v l ih => exact (State.setByte_change s a v).step (ih (s.setByte a v) (a + 1)) (covers_self _)

/-- Emptying a window. -/
theorem State.clearMem_change (s : State) (base len : Nat) : Evolves [.mem] s (s.clearMem base len) := by
  refine ⟨rfl, le_refl _, le_refl _, id, fun w => ?_, le_refl _, fun _ => le_refl _, fun _ => le_refl _, fun p hp => ?_⟩
  · have hd : ∀ x, (s.clearMem base len).memDefault x = s.memDefault x := memDefault_congr rfl
    simp only [State.memWf, Bool.and_eq_true, List.all_eq_true, hd] at w ⊢
    exact ⟨sorted_filter _ w.1, fun q hq => w.2 q (List.mem_of_mem_filter hq)⟩
  · cases p
    case reg r => exact fun i j _ => rdw_congr rfl r i j
    case mem => exact absurd List.mem_cons_self hp
    all_goals rfl

/-! ### Free values and time -/

/-- Taking `n` free values. -/
theorem freeIdx_change (s : State) (n : Nat) : Evolves [.freeIdx] s { s with freeIdx := s.freeIdx + n } := by
  refine ⟨rfl, le_refl _, Nat.le_add_right _ _, id, id, le_refl _, fun _ => le_refl _, fun _ => le_refl _, fun p hp => ?_⟩
  cases p
  case reg r => exact fun i j _ => rdw_congr rfl r i j
  case mem => exact byte_congr rfl rfl
  case freeIdx => exact absurd List.mem_cons_self hp
  all_goals rfl

/-- Taking a free word. -/
theorem State.free_change (s : State) : Evolves [.freeIdx] s s.free.2 := freeIdx_change s 1

/-- Taking a nonce. -/
theorem State.nonce_change (s : State) : Evolves [.freeIdx] s s.nonce.2 := freeIdx_change s 1

/-- Time passes. -/
theorem now_change (s : State) (n : Nat) (p : PlanU) : Evolves [.now, .plan] s { s with now := s.now + n, plan := p } := by
  refine ⟨rfl, Nat.le_add_right _ _, le_refl _, id, id, le_refl _, fun _ => le_refl _, fun _ => le_refl _, fun q hq => ?_⟩
  cases q
  case reg r => exact fun i j _ => rdw_congr rfl r i j
  case mem => exact byte_congr rfl rfl
  case now => exact absurd List.mem_cons_self hq
  case plan => exact absurd (List.mem_cons_of_mem _ List.mem_cons_self) hq
  all_goals rfl

/-! ### The Drift pairs -/

/-- The images after a change of one pair's unit. -/
theorem updPair_tcms (s : State) (n : Nat) (f : DriftPairU → DriftPairU) (k : Nat) :
    (s.updPair n f).tcms.getD k none = if k = n ∧ n < 16 then (f (s.pairU n)).tcm else s.tcms.getD k none := by
  unfold State.updPair
  split
  · rename_i hn
    by_cases hk : k = n
    · subst hk
      simp [State.tcms, upd, State.pairU, hn]
    · simp [State.tcms, upd, hk, Vector.toList_set, Ne.symm hk]
  · rename_i hn
    simp [hn]

/-- A change of a pair's unit touches no other part but, with its image, memory. -/
theorem updPair_kept (s : State) (n : Nat) (f : DriftPairU → DriftPairU) (p : Part) (hp : p ≠ .drift) (hm : p ≠ .mem) :
    p.same s (s.updPair n f) := by
  cases p
  case reg r => exact fun i j _ => rdw_congr (by unfold State.updPair; split <;> rfl) r i j
  case mem => exact absurd rfl hm
  case drift => exact absurd rfl hp
  all_goals
    simp only [Part.same]
    unfold State.updPair
    split <;> rfl

/-- A pair's unit changes, its TCM's image as before. -/
theorem State.updPair_change (s : State) (n : Nat) (f : DriftPairU → DriftPairU) (hf : (f (s.pairU n)).tcm = (s.pairU n).tcm) :
    Evolves [.drift] s (s.updPair n f) := by
  have e : ∀ k, (s.updPair n f).tcms.getD k none = s.tcms.getD k none := by
    intro k
    rw [updPair_tcms]
    split
    · rename_i hk
      obtain ⟨rfl, hn⟩ := hk
      rw [hf]
      simp [State.tcms, State.pairU, hn]
    · rfl
  have hd : ∀ a, (s.updPair n f).memDefault a = s.memDefault a := fun a => by simp only [State.memDefault, e]
  have hl : (s.updPair n f).mem = s.mem := by unfold State.updPair; split <;> rfl
  have hm : (s.updPair n f).memWf = s.memWf := by simp only [State.memWf, hd, hl]
  refine ⟨?_, ?_, ?_, ?_, fun w => hm ▸ w, ?_, ?_, ?_, fun p hp => ?_⟩
  case refine_8 =>
    by_cases h : p = .mem
    · subst h
      intro a
      simp only [State.byte, hd, hl]
    · exact updPair_kept s n f p (by simpa using hp) h
  all_goals (unfold State.updPair; split <;> simp)

/-- A core changes. -/
theorem State.updCore_change (s : State) (n k : Nat) (f : CoreU → CoreU) : Evolves [.drift] s (s.updCore n k f) :=
  State.updPair_change s _ _ (by split <;> rfl)

/-- A pair's unit changes after its TCM has been emptied. -/
theorem updPair_clear_change (s : State) (n : Nat) (f : DriftPairU → DriftPairU) :
    Evolves [.mem, .drift] (s.clearMem (tcmBase n) 0x40000) ((s.clearMem (tcmBase n) 0x40000).updPair n f) := by
  refine ⟨?_, ?_, ?_, ?_, fun w => ?_, ?_, ?_, ?_, fun p hp => ?_⟩
  case refine_5 =>
    have hl : ((s.clearMem (tcmBase n) 0x40000).updPair n f).mem = (s.clearMem (tcmBase n) 0x40000).mem := by
      unfold State.updPair; split <;> rfl
    simp only [State.memWf, Bool.and_eq_true, List.all_eq_true, hl] at w ⊢
    refine ⟨w.1, fun q hq => ?_⟩
    have hout : ¬ (tcmBase n ≤ q.1 ∧ q.1 < tcmBase n + 0x40000) := by
      intro hc
      have := List.of_mem_filter hq
      simp [hc] at this
    have e : ((s.clearMem (tcmBase n) 0x40000).updPair n f).memDefault q.1 = (s.clearMem (tcmBase n) 0x40000).memDefault q.1 := by
      simp only [State.memDefault]
      split
      · have hne : (q.1 - 0x20000000) / 0x40000 ≠ n := by unfold tcmBase at hout; omega
        rw [updPair_tcms, if_neg (fun c => hne c.1)]
      · rfl
    rw [e]
    exact w.2 q hq
  case refine_9 => exact updPair_kept _ n _ p (fun c => hp (by simp [c])) (fun c => hp (by simp [c]))
  all_goals (unfold State.updPair; split <;> simp)

/-- An emptied TCM takes an image. -/
theorem State.setTcm_change (s : State) (n : Nat) (t : Option (Nat × Nat)) : Evolves [.mem, .drift] s (s.setTcm n t) :=
  ((State.clearMem_change s (tcmBase n) 0x40000).mono (A := [.mem, .drift]) (by decide)).step (updPair_clear_change s n _) (covers_self _)

/-! ### The Banksman -/

/-- The Banksman's unit changes, its one-way counts as before or higher. -/
theorem State.updBank_change (s : State) (f : BankU → BankU) (hl : s.bank.lc ≤ (f s.bank).lc)
    (ha : ∀ k : Fin 6, s.bank.arb[k] ≤ (f s.bank).arb[k]) (hm : ∀ k : Fin 32, s.bank.marks[k] ≤ (f s.bank).marks[k]) :
    Evolves [.bank] s (s.updBank f) := by
  refine ⟨rfl, le_refl _, le_refl _, id, id, hl, ha, hm, fun p hp => ?_⟩
  cases p
  case reg r => exact fun i j _ => rdw_congr rfl r i j
  case mem => exact byte_congr rfl rfl
  case bank => exact absurd List.mem_cons_self hp
  all_goals rfl

/-! ### The primitive changes, after others

Each lemma says of one operation that it adds to a change only the parts that it names. -/

variable {A : List Part} {s₀ s : State}

/-- Storing a word. -/
theorem State.wrw_evolves (h : Evolves A s₀ s) (r : RegId) (v : Word) (i j : Nat) (hA : covers [.reg r] A = true) :
    Evolves A s₀ (s.wrw r v i j) := h.step (State.wrw_change s r v i j) hA

/-- Storing a field. -/
theorem State.put_evolves (h : Evolves A s₀ s) (f : Fld) (v i j : Nat) (hA : covers [.fresh, .reg f.reg] A = true) :
    Evolves A s₀ (s.put f v i j) := h.step (State.put_change s f v i j) hA

/-- Noting bits that are set. -/
theorem State.note_evolves (h : Evolves A s₀ s) (r : RegId) (m : Word) (i j : Nat) (hA : covers [.fresh] A = true) :
    Evolves A s₀ (s.note r m i j) := h.step (State.note_change s r m i j) hA

/-- Returning registers to their reset values. -/
theorem State.resetRegsWhere_evolves (h : Evolves A s₀ s) (p : RegId → Nat → Bool) (hp : ∀ r i, p r i = true → Part.reg r ∈ A)
    (hL : Part.latched ∈ A) : Evolves A s₀ (s.resetRegsWhere p) := h.step (State.resetRegsWhere_change s p hp hL) (covers_self A)

/-- Returning the registers of some classes to their reset values. -/
theorem State.resetRegs_evolves (h : Evolves A s₀ s) (cs : RegClass → Bool) (hA : covers Part.all A = true) :
    Evolves A s₀ (s.resetRegs cs) := h.step (State.resetRegs_change s cs) hA

/-- Storing a byte. -/
theorem State.setByte_evolves (h : Evolves A s₀ s) (a : Nat) (v : Byte) (hA : covers [.mem] A = true) : Evolves A s₀ (s.setByte a v) :=
  h.step (State.setByte_change s a v) hA

/-- Storing bytes. -/
theorem State.setBytes_evolves (h : Evolves A s₀ s) (a : Nat) (l : List Byte) (hA : covers [.mem] A = true) :
    Evolves A s₀ (s.setBytes a l) := h.step (State.setBytes_change s a l) hA

/-- Emptying a window. -/
theorem State.clearMem_evolves (h : Evolves A s₀ s) (base len : Nat) (hA : covers [.mem] A = true) : Evolves A s₀ (s.clearMem base len) :=
  h.step (State.clearMem_change s base len) hA

/-- Taking free values. -/
theorem freeIdx_evolves (h : Evolves A s₀ s) (n : Nat) (hA : covers [.freeIdx] A = true) :
    Evolves A s₀ { s with freeIdx := s.freeIdx + n } := h.step (freeIdx_change s n) hA

/-- Taking a free word. -/
theorem State.free_evolves (h : Evolves A s₀ s) (hA : covers [.freeIdx] A = true) : Evolves A s₀ s.free.2 :=
  h.step (State.free_change s) hA

/-- Taking a nonce. -/
theorem State.nonce_evolves (h : Evolves A s₀ s) (hA : covers [.freeIdx] A = true) : Evolves A s₀ s.nonce.2 :=
  h.step (State.nonce_change s) hA

/-- A pair's unit changes, its TCM's image as before. -/
theorem State.updPair_evolves (h : Evolves A s₀ s) (n : Nat) (f : DriftPairU → DriftPairU) (hf : (f (s.pairU n)).tcm = (s.pairU n).tcm)
    (hA : covers [.drift] A = true) : Evolves A s₀ (s.updPair n f) := h.step (State.updPair_change s n f hf) hA

/-- A core changes. -/
theorem State.updCore_evolves (h : Evolves A s₀ s) (n k : Nat) (f : CoreU → CoreU) (hA : covers [.drift] A = true) :
    Evolves A s₀ (s.updCore n k f) := h.step (State.updCore_change s n k f) hA

/-- An emptied TCM takes an image. -/
theorem State.setTcm_evolves (h : Evolves A s₀ s) (n : Nat) (t : Option (Nat × Nat)) (hA : covers [.mem, .drift] A = true) :
    Evolves A s₀ (s.setTcm n t) := h.step (State.setTcm_change s n t) hA

/-- The Banksman's unit changes, its one-way counts as before or higher. -/
theorem State.updBank_evolves_of_le (h : Evolves A s₀ s) (f : BankU → BankU) (hl : s.bank.lc ≤ (f s.bank).lc)
    (ha : ∀ k : Fin 6, s.bank.arb[k] ≤ (f s.bank).arb[k]) (hm : ∀ k : Fin 32, s.bank.marks[k] ≤ (f s.bank).marks[k])
    (hA : covers [.bank] A = true) : Evolves A s₀ (s.updBank f) := h.step (State.updBank_change s f hl ha hm) hA

/-- The Banksman's unit changes, its one-way counts as before. -/
theorem State.updBank_evolves (h : Evolves A s₀ s) (f : BankU → BankU)
    (hf : (f s.bank).lc = s.bank.lc ∧ (f s.bank).arb = s.bank.arb ∧ (f s.bank).marks = s.bank.marks)
    (hA : covers [.bank] A = true) : Evolves A s₀ (s.updBank f) :=
  State.updBank_evolves_of_le h f hf.1.ge (fun k => by rw [hf.2.1]) (fun k => by rw [hf.2.2]) hA

/-! ### The state of one unit -/

/-- A change of `latched`. -/
theorem latched_evolves (h : Evolves A s₀ s) (x : List (Nat × Word)) (hA : covers [.latched] A = true) : Evolves A s₀ { s with latched := x } :=
  h.step (Evolves.of_parts rfl rfl rfl rfl rfl rfl rfl rfl rfl (fun p hp hr hm hn hf => by
    cases p <;> first | exact absurd List.mem_cons_self hp | rfl | exact absurd rfl (hr _) | contradiction)) hA

/-- A change of `timers`. -/
theorem timers_evolves (h : Evolves A s₀ s) (x : List (Timer × Nat)) (hA : covers [.timers] A = true) : Evolves A s₀ { s with timers := x } :=
  h.step (Evolves.of_parts rfl rfl rfl rfl rfl rfl rfl rfl rfl (fun p hp hr hm hn hf => by
    cases p <;> first | exact absurd List.mem_cons_self hp | rfl | exact absurd rfl (hr _) | contradiction)) hA

/-- A change of `bus`. -/
theorem bus_evolves (h : Evolves A s₀ s) (x : Bus) (hA : covers [.bus] A = true) : Evolves A s₀ { s with bus := x } :=
  h.step (Evolves.of_parts rfl rfl rfl rfl rfl rfl rfl rfl rfl (fun p hp hr hm hn hf => by
    cases p <;> first | exact absurd List.mem_cons_self hp | rfl | exact absurd rfl (hr _) | contradiction)) hA

/-- A change of `head`. -/
theorem head_evolves (h : Evolves A s₀ s) (x : HeadU) (hA : covers [.head] A = true) : Evolves A s₀ { s with head := x } :=
  h.step (Evolves.of_parts rfl rfl rfl rfl rfl rfl rfl rfl rfl (fun p hp hr hm hn hf => by
    cases p <;> first | exact absurd List.mem_cons_self hp | rfl | exact absurd rfl (hr _) | contradiction)) hA

/-- A change of `plan`. -/
theorem plan_evolves (h : Evolves A s₀ s) (x : PlanU) (hA : covers [.plan] A = true) : Evolves A s₀ { s with plan := x } :=
  h.step (Evolves.of_parts rfl rfl rfl rfl rfl rfl rfl rfl rfl (fun p hp hr hm hn hf => by
    cases p <;> first | exact absurd List.mem_cons_self hp | rfl | exact absurd rfl (hr _) | contradiction)) hA

/-- A change of `intc`. -/
theorem intc_evolves (h : Evolves A s₀ s) (x : IntcU) (hA : covers [.intc] A = true) : Evolves A s₀ { s with intc := x } :=
  h.step (Evolves.of_parts rfl rfl rfl rfl rfl rfl rfl rfl rfl (fun p hp hr hm hn hf => by
    cases p <;> first | exact absurd List.mem_cons_self hp | rfl | exact absurd rfl (hr _) | contradiction)) hA

/-- A change of `seam`. -/
theorem seam_evolves (h : Evolves A s₀ s) (x : SeamU) (hA : covers [.seam] A = true) : Evolves A s₀ { s with seam := x } :=
  h.step (Evolves.of_parts rfl rfl rfl rfl rfl rfl rfl rfl rfl (fun p hp hr hm hn hf => by
    cases p <;> first | exact absurd List.mem_cons_self hp | rfl | exact absurd rfl (hr _) | contradiction)) hA

/-- A change of `power`. -/
theorem power_evolves (h : Evolves A s₀ s) (x : PowerU) (hA : covers [.power] A = true) : Evolves A s₀ { s with power := x } :=
  h.step (Evolves.of_parts rfl rfl rfl rfl rfl rfl rfl rfl rfl (fun p hp hr hm hn hf => by
    cases p <;> first | exact absurd List.mem_cons_self hp | rfl | exact absurd rfl (hr _) | contradiction)) hA

/-- A change of `pick`. -/
theorem pick_evolves (h : Evolves A s₀ s) (x : PickU) (hA : covers [.pick] A = true) : Evolves A s₀ { s with pick := x } :=
  h.step (Evolves.of_parts rfl rfl rfl rfl rfl rfl rfl rfl rfl (fun p hp hr hm hn hf => by
    cases p <;> first | exact absurd List.mem_cons_self hp | rfl | exact absurd rfl (hr _) | contradiction)) hA

/-- A change of `sense`. -/
theorem sense_evolves (h : Evolves A s₀ s) (x : SenseU) (hA : covers [.sense] A = true) : Evolves A s₀ { s with sense := x } :=
  h.step (Evolves.of_parts rfl rfl rfl rfl rfl rfl rfl rfl rfl (fun p hp hr hm hn hf => by
    cases p <;> first | exact absurd List.mem_cons_self hp | rfl | exact absurd rfl (hr _) | contradiction)) hA

/-- A change of `fm`. -/
theorem fm_evolves (h : Evolves A s₀ s) (x : FmU) (hA : covers [.fm] A = true) : Evolves A s₀ { s with fm := x } :=
  h.step (Evolves.of_parts rfl rfl rfl rfl rfl rfl rfl rfl rfl (fun p hp hr hm hn hf => by
    cases p <;> first | exact absurd List.mem_cons_self hp | rfl | exact absurd rfl (hr _) | contradiction)) hA

/-- A change of `lamp`. -/
theorem lamp_evolves (h : Evolves A s₀ s) (x : LampU) (hA : covers [.lamp] A = true) : Evolves A s₀ { s with lamp := x } :=
  h.step (Evolves.of_parts rfl rfl rfl rfl rfl rfl rfl rfl rfl (fun p hp hr hm hn hf => by
    cases p <;> first | exact absurd List.mem_cons_self hp | rfl | exact absurd rfl (hr _) | contradiction)) hA

/-- A change of `assay`. -/
theorem assay_evolves (h : Evolves A s₀ s) (x : AssayU) (hA : covers [.assay] A = true) : Evolves A s₀ { s with assay := x } :=
  h.step (Evolves.of_parts rfl rfl rfl rfl rfl rfl rfl rfl rfl (fun p hp hr hm hn hf => by
    cases p <;> first | exact absurd List.mem_cons_self hp | rfl | exact absurd rfl (hr _) | contradiction)) hA

/-- A change of `uhla`. -/
theorem uhla_evolves (h : Evolves A s₀ s) (x : UhlaU) (hA : covers [.uhla] A = true) : Evolves A s₀ { s with uhla := x } :=
  h.step (Evolves.of_parts rfl rfl rfl rfl rfl rfl rfl rfl rfl (fun p hp hr hm hn hf => by
    cases p <;> first | exact absurd List.mem_cons_self hp | rfl | exact absurd rfl (hr _) | contradiction)) hA

/-- A change of `winder`. -/
theorem winder_evolves (h : Evolves A s₀ s) (x : WinderU) (hA : covers [.winder] A = true) : Evolves A s₀ { s with winder := x } :=
  h.step (Evolves.of_parts rfl rfl rfl rfl rfl rfl rfl rfl rfl (fun p hp hr hm hn hf => by
    cases p <;> first | exact absurd List.mem_cons_self hp | rfl | exact absurd rfl (hr _) | contradiction)) hA

/-- A change of `supply`. -/
theorem supply_evolves (h : Evolves A s₀ s) (x : SupplyU) (hA : covers [.supply] A = true) : Evolves A s₀ { s with supply := x } :=
  h.step (Evolves.of_parts rfl rfl rfl rfl rfl rfl rfl rfl rfl (fun p hp hr hm hn hf => by
    cases p <;> first | exact absurd List.mem_cons_self hp | rfl | exact absurd rfl (hr _) | contradiction)) hA

/-- A change of `host`. -/
theorem host_evolves (h : Evolves A s₀ s) (x : HostU) (hA : covers [.host] A = true) : Evolves A s₀ { s with host := x } :=
  h.step (Evolves.of_parts rfl rfl rfl rfl rfl rfl rfl rfl rfl (fun p hp hr hm hn hf => by
    cases p <;> first | exact absurd List.mem_cons_self hp | rfl | exact absurd rfl (hr _) | contradiction)) hA

/-- A change of `bank`, its one-way counts as before. -/
theorem bank_evolves (h : Evolves A s₀ s) (x : BankU) (hx : x.lc = s.bank.lc ∧ x.arb = s.bank.arb ∧ x.marks = s.bank.marks)
    (hA : covers [.bank] A = true) : Evolves A s₀ { s with bank := x } :=
  State.updBank_evolves h (fun _ => x) hx hA

end Sys2Proof.Machine
end

