-- ==== Sys2Proof/Laws/Moves.lean ====
section
/-! SUPPORT. What each operation of time, cores, interrupts, the Shift plan, the domains and the Seam recorder keeps: one lemma per function (`Evolves`). -/

set_option Elab.async false
set_option linter.unusedTactic false
set_option linter.unreachableTactic false
set_option linter.unusedVariables false

namespace Sys2Proof.Machine

theorem winState_reg (hi : Bool) : (winState hi).reg = .CN_WSTAT := by cases hi <;> rfl
theorem winLatch_reg (hi : Bool) : (winLatch hi).reg = .CN_WSTAT := by cases hi <;> rfl
theorem fbField_reg (hi : Bool) : (fbField hi).reg = .CG_PSTAT := by cases hi <;> rfl
theorem portLatches_reg (k : Nat) : (portLatches.getD k CG_PSTAT_DS_LATCH).reg = .CG_PSTAT := by
  have h : ∀ f ∈ portLatches, f.reg = .CG_PSTAT := by decide
  by_cases c : k < portLatches.length
  · simpa [List.getD, c] using h _ (List.getElem_mem c)
  · simp [List.getD, Nat.le_of_not_lt c]
    rfl
theorem btAge_reg (n : Nat) : (btAge n).reg = .FM_BTEST := by unfold btAge; split <;> rfl

/-- What holds of both branches holds of a conditional option. -/
theorem ite_some {α : Type} {P : α → Prop} {c : Prop} [Decidable c] {x y : Option α} (hx : ∀ v, x = some v → P v)
    (hy : ∀ v, y = some v → P v) : ∀ v, (if c then x else y) = some v → P v := by
  intro v e
  split at e
  · exact hx v e
  · exact hy v e

/-- The first accepted envelope leaves the list. -/
theorem dropAccepted_evolves {A : List Part} {s₀ s : State} (h : Evolves A s₀ s) (rest : List (Nat × Envelope)) (hA : covers [.bank] A = true) :
    Evolves A s₀ (s.updBank (fun u => { u with accepted := rest })) :=
  State.updBank_evolves h _ ⟨rfl, rfl, rfl⟩ hA

/-! ### Machine/Ops -/

/-- What `State.bump` keeps. -/
theorem State.bump_evolves {A : List Part} {s₀ s : State} (h : Evolves A s₀ s) (f : Fld) (i : Nat) (j : Nat) (n : Nat) (hf : covers [.fresh, .reg f.reg] A = true) :
    Evolves A s₀ (s.bump f i j n) := by
  unfold State.bump
  with_reducible repeat (first
      | assumption
      | apply State.put_evolves
      | exact covers_nil _
      | intro _ | rfl | dsimp only | split)

/-- What `State.bumpSat` keeps. -/
theorem State.bumpSat_evolves {A : List Part} {s₀ s : State} (h : Evolves A s₀ s) (f : Fld) (i : Nat) (j : Nat) (n : Nat) (hf : covers [.fresh, .reg f.reg] A = true) :
    Evolves A s₀ (s.bumpSat f i j n) := by
  unfold State.bumpSat
  with_reducible repeat (first
      | assumption
      | apply State.put_evolves
      | exact covers_nil _
      | intro _ | rfl | dsimp only | split)

/-- What `State.orPut` keeps. -/
theorem State.orPut_evolves {A : List Part} {s₀ s : State} (h : Evolves A s₀ s) (f : Fld) (v : Nat) (i : Nat) (j : Nat) (hf : covers [.fresh, .reg f.reg] A = true) :
    Evolves A s₀ (s.orPut f v i j) := by
  unfold State.orPut
  exact State.note_evolves (State.wrw_evolves h _ _ _ _ (covers_trans (covers_cons _ (covers_self _)) hf)) _ _ _ _
    (covers_trans (covers_head _ _) hf)

/-- What `State.disarm` keeps. -/
theorem State.disarm_evolves {A : List Part} {s₀ s : State} (h : Evolves A s₀ s) (t : Timer) (hA : covers [.timers] A = true) :
    Evolves A s₀ (s.disarm t) := by
  unfold State.disarm
  with_reducible repeat (first
      | assumption
      | (apply covers_trans _ hA; decide +kernel)
      | intro _ | rfl | dsimp only | split
      | (apply timers_evolves; first | assumption | intro _ | rfl | dsimp only | split))

/-- What `State.arm` keeps. -/
theorem State.arm_evolves {A : List Part} {s₀ s : State} (h : Evolves A s₀ s) (t : Timer) (d : Nat) (hA : covers [.timers] A = true) :
    Evolves A s₀ (s.arm t d) := by
  unfold State.arm
  with_reducible repeat (first
      | assumption
      | (apply covers_trans _ hA; decide +kernel)
      | intro _ | rfl | dsimp only | split
      | (apply timers_evolves; first | assumption | intro _ | rfl | dsimp only | split))

/-- What `State.putFit` keeps. -/
theorem State.putFit_evolves {A : List Part} {s₀ s : State} (h : Evolves A s₀ s) (f : Fld) (v : Nat) (i : Nat) (j : Nat) (hf : covers [.fresh, .reg f.reg] A = true)
    (hA : covers [.freeIdx] A = true) :
    Evolves A s₀ (s.putFit f v i j) := by
  unfold State.putFit
  with_reducible repeat (first
      | assumption
      | apply State.put_evolves
      | apply State.free_evolves
      | (apply covers_trans _ hA; decide +kernel)
      | intro _ | rfl | dsimp only | split)

/-! ### Machine/Access -/

/-- What `State.asOwner` keeps. -/
theorem State.asOwner_evolves {A : List Part} {s₀ s : State} (h : Evolves A s₀ s) (m : Master) (b : Nat) (f : State → State) (hf : ∀ x0, Evolves A s₀ x0 → Evolves A s₀ (f x0))
    (hA : covers [.fresh, .reg .BLK_BLKCTL] A = true) :
    Evolves A s₀ (s.asOwner m b f) := by
  unfold State.asOwner
  with_reducible repeat (first
      | assumption
      | apply hf
      | apply State.put_evolves
      | (apply covers_trans _ hA; decide +kernel)
      | intro _ | rfl | dsimp only | split)

/-- What `State.asCellOwner` keeps. -/
theorem State.asCellOwner_evolves {A : List Part} {s₀ s : State} (h : Evolves A s₀ s) (m : Master) (c : Nat) (f : State → State) (hf : ∀ x0, Evolves A s₀ x0 → Evolves A s₀ (f x0))
    (hA : covers [.fresh, .reg .BLK_BLKCTL] A = true) :
    Evolves A s₀ (s.asCellOwner m c f) := by
  unfold State.asCellOwner
  with_reducible repeat (first
      | assumption
      | apply hf
      | apply State.asOwner_evolves
      | (apply covers_trans _ hA; decide +kernel)
      | intro _ | rfl | dsimp only | split)

/-- What `State.regWrite` keeps. -/
theorem State.regWrite_evolves {A : List Part} {s₀ s : State} (h : Evolves A s₀ s) (r : RegId) (v : Word) (i : Nat) (j : Nat) (hf : covers [.reg r] A = true) :
    Evolves A s₀ (s.regWrite r v i j) := by
  unfold State.regWrite
  with_reducible repeat (first
      | assumption
      | apply State.wrw_evolves
      | exact covers_nil _
      | intro _ | rfl | dsimp only | split)

/-- What `State.condWrite` keeps. -/
theorem State.condWrite_evolves {A : List Part} {s₀ s : State} (h : Evolves A s₀ s) (r : RegId) (v : Word) (mask : Word) (ok : Bool) (denied : State → State) (i : Nat) (j : Nat) (hdenied : ∀ x0, Evolves A s₀ x0 → Evolves A s₀ (denied x0))
    (hA : covers [.reg r] A = true) :
    Evolves A s₀ (s.condWrite r v mask ok denied i j) := by
  have h' : ∀ x, Evolves A s₀ (s.regWrite r x i j) := fun x => State.regWrite_evolves h r x i j hA
  unfold State.condWrite
  dsimp only
  split
  · exact h' v
  · split
    · exact hdenied _ (h' _)
    · exact h' _

/-! ### Machine/Clock -/

/-- What `State.advanceDom` keeps. -/
theorem State.advanceDom_evolves {A : List Part} {s₀ s : State} (h : Evolves A s₀ s) (n : Nat) (d : Fin 4)
    (hA : covers [.fresh, .head, .reg .HF_TURN] A = true) :
    Evolves A s₀ (s.advanceDom n d) := by
  unfold State.advanceDom
  with_reducible repeat (first
      | assumption
      | apply State.bump_evolves
      | (apply covers_trans _ hA; decide +kernel)
      | intro _ | rfl | dsimp only | split
      | (apply head_evolves; first | assumption | apply State.bump_evolves | intro _ | rfl | dsimp only | split))

/-- What `State.chargeCore` keeps. -/
theorem State.chargeCore_evolves {A : List Part} {s₀ s : State} (h : Evolves A s₀ s) (t : Nat) (n : Nat) (k : Nat)
    (hA : covers [.fresh, .drift, .reg .SP_REMAIN0] A = true) :
    Evolves A s₀ (s.chargeCore t n k) := by
  unfold State.chargeCore
  with_reducible repeat (first
      | assumption
      | apply State.updCore_evolves
      | apply State.put_evolves
      | (apply covers_trans _ hA; decide +kernel)
      | intro _ | rfl | dsimp only | split)

/-- What `State.chargeCores` keeps. -/
theorem State.chargeCores_evolves {A : List Part} {s₀ s : State} (h : Evolves A s₀ s) (t : Nat)
    (hA : covers [.fresh, .drift, .reg .SP_REMAIN0] A = true) :
    Evolves A s₀ (s.chargeCores t) := by
  unfold State.chargeCores
  with_reducible repeat (first
      | assumption
      | apply State.each_evolves
      | apply State.chargeCore_evolves
      | (apply covers_trans _ hA; decide +kernel)
      | intro _ | rfl | dsimp only | split)

/-- What `State.advance` keeps. -/
theorem State.advance_evolves {A : List Part} {s₀ s : State} (h : Evolves A s₀ s) (n : Nat)
    (hA : covers [.fresh, .now, .head, .plan, .drift, .reg .HF_TURN, .reg .SP_REMAIN0] A = true) :
    Evolves A s₀ (s.advance n) := by
  have h' : Evolves A s₀ ((s.each [0, 1, 2, 3] (fun s d => s.advanceDom n d)).chargeCores n) :=
    State.chargeCores_evolves (State.each_evolves h _ _ (fun _ _ ht => State.advanceDom_evolves ht _ _ (covers_trans (by decide +kernel) hA))) _
      (covers_trans (by decide +kernel) hA)
  unfold State.advance
  generalize (s.each [0, 1, 2, 3] (fun s d => s.advanceDom n d)).chargeCores n = t at h'
  exact h'.step (now_change t _ _) (covers_trans (by decide +kernel) hA)

/-- What `State.advanceTo` keeps. -/
theorem State.advanceTo_evolves {A : List Part} {s₀ s : State} (h : Evolves A s₀ s) (d : Nat)
    (hA : covers [.fresh, .now, .head, .plan, .drift, .reg .HF_TURN, .reg .SP_REMAIN0] A = true) :
    Evolves A s₀ (s.advanceTo d) := by
  unfold State.advanceTo
  with_reducible repeat (first
      | assumption
      | apply State.advance_evolves
      | (apply covers_trans _ hA; decide +kernel)
      | intro _ | rfl | dsimp only | split)

/-- What `State.onTimer` keeps. -/
theorem State.onTimer_evolves {A : List Part} {s₀ s : State} (h : Evolves A s₀ s) (t : Timer) (f : State → State) (hf : ∀ x0, Evolves A s₀ x0 → Evolves A s₀ (f x0))
    (hA : covers onTimerParts A = true) :
    Evolves A s₀ (s.onTimer t f) := by
  unfold State.onTimer
  with_reducible repeat (first
      | assumption
      | apply hf
      | apply State.disarm_evolves
      | apply State.advanceTo_evolves
      | (apply covers_trans _ hA; decide +kernel)
      | intro _ | rfl | dsimp only | split)

/-! ### Machine/Cores -/

/-- What `State.takeTrap` keeps. -/
theorem State.takeTrap_evolves {A : List Part} {s₀ s : State} (h : Evolves A s₀ s) (n : Nat) (k : Nat) (cause : Word) (tval : Word)
    (hA : covers [.drift] A = true) :
    Evolves A s₀ (s.takeTrap n k cause tval) := by
  unfold State.takeTrap
  with_reducible repeat (first
      | assumption
      | apply State.updCore_evolves
      | (apply covers_trans _ hA; decide +kernel)
      | intro _ | rfl | dsimp only | split)

/-- What `State.ingress` keeps. -/
theorem State.ingress_evolves {A : List Part} {s₀ s : State} (h : Evolves A s₀ s) (n : Nat) (kind : Nat) (v : Word)
    (hA : covers [.fresh, .drift, .reg .DR_PLOG] A = true) :
    Evolves A s₀ (s.ingress n kind v) := by
  unfold State.ingress
  with_reducible repeat (first
      | assumption
      | apply State.updPair_evolves
      | apply State.put_evolves
      | (apply covers_trans _ hA; decide +kernel)
      | intro _ | rfl | dsimp only | split)

/-- What `State.retire` keeps. -/
theorem State.retire_evolves {A : List Part} {s₀ s : State} (h : Evolves A s₀ s) (n : Nat) (k : Nat) (hA : covers [.drift] A = true) :
    Evolves A s₀ (s.retire n k) := by
  unfold State.retire
  with_reducible repeat (first
      | assumption
      | apply State.updPair_evolves
      | apply State.updCore_evolves
      | (apply covers_trans _ hA; decide +kernel)
      | intro _ | rfl | dsimp only | split)

/-- What `State.endWait` keeps. -/
theorem State.endWait_evolves {A : List Part} {s₀ s : State} (h : Evolves A s₀ s) (n : Nat) (k : Nat) (woken : Bool) (filler : Bool)
    (hA : covers [.fresh, .drift, .reg .DR_PLOG] A = true) :
    Evolves A s₀ (s.endWait n k woken filler) := by
  unfold State.endWait
  with_reducible repeat (first
      | assumption
      | apply State.ingress_evolves
      | apply State.updCore_evolves
      | apply State.retire_evolves
      | (apply covers_trans _ hA; decide +kernel)
      | intro _ | rfl | dsimp only | split)

/-! ### Machine/Interrupts -/

/-- What `State.setPending` keeps. -/
theorem State.setPending_evolves {A : List Part} {s₀ s : State} (h : Evolves A s₀ s) (n : Nat) (src : Nat) (b : Bool)
    (hA : covers [.fresh, .reg .IC_PEND] A = true) :
    Evolves A s₀ (s.setPending n src b) := by
  unfold State.setPending
  with_reducible repeat (first
      | assumption
      | apply State.note_evolves
      | apply State.wrw_evolves
      | (apply covers_trans _ hA; decide +kernel)
      | intro _ | rfl | dsimp only | split)

/-- What `State.lineFollow` keeps. -/
theorem State.lineFollow_evolves {A : List Part} {s₀ s : State} (h : Evolves A s₀ s) (k : Nat)
    (hA : covers [.fresh, .drift, .intc, .reg .DR_PLOG] A = true) :
    Evolves A s₀ (s.lineFollow k) := by
  unfold State.lineFollow
  with_reducible repeat (first
      | assumption
      | apply State.each_evolves
      | apply State.ingress_evolves
      | (apply covers_trans _ hA; decide +kernel)
      | intro _ | rfl | dsimp only | split
      | (apply intc_evolves; first | assumption | apply State.each_evolves | apply State.ingress_evolves | intro _ | rfl | dsimp only | split))

/-- What `State.coreIrq` keeps. -/
theorem State.coreIrq_evolves {A : List Part} {s₀ s : State} (h : Evolves A s₀ s) (n : Nat) (k : Nat)
    (hA : covers [.fresh, .drift, .reg .DR_PLOG] A = true) :
    Evolves A s₀ (s.coreIrq n k) := by
  unfold State.coreIrq
  with_reducible repeat (first
      | assumption
      | apply State.endWait_evolves
      | apply State.takeTrap_evolves
      | (apply covers_trans _ hA; decide +kernel)
      | intro _ | rfl | dsimp only | split)

/-- What `State.wakeSlice` keeps. -/
theorem State.wakeSlice_evolves {A : List Part} {s₀ s : State} (h : Evolves A s₀ s) (k : Nat)
    (hA : covers [.fresh, .drift, .intc, .reg .DR_PLOG] A = true) :
    Evolves A s₀ (s.wakeSlice k) := by
  unfold State.wakeSlice
  with_reducible repeat (first
      | assumption
      | apply State.lineFollow_evolves
      | apply State.each_evolves
      | apply State.coreIrq_evolves
      | (apply covers_trans _ hA; decide +kernel)
      | intro _ | rfl | dsimp only | split)

/-- What `State.releaseGroup` keeps. -/
theorem State.releaseGroup_evolves {A : List Part} {s₀ s : State} (h : Evolves A s₀ s) (g : Nat)
    (hA : covers [.fresh, .timers, .drift, .intc, .reg .DR_PLOG, .reg .IC_GSTAT] A = true) :
    Evolves A s₀ (s.releaseGroup g) := by
  unfold State.releaseGroup
  with_reducible repeat (first
      | assumption
      | apply State.disarm_evolves
      | apply State.bump_evolves
      | apply State.put_evolves
      | apply State.each_evolves
      | apply State.wakeSlice_evolves
      | (apply covers_trans _ hA; decide +kernel)
      | intro _ | rfl | dsimp only | split
      | (apply intc_evolves; first | assumption | apply State.disarm_evolves | apply State.bump_evolves | apply State.put_evolves | apply State.each_evolves | apply State.wakeSlice_evolves | intro _ | rfl | dsimp only | split))

/-- What `State.raise` keeps. -/
theorem State.raise_evolves {A : List Part} {s₀ s : State} (h : Evolves A s₀ s) (src : Nat) (hA : covers raiseParts A = true) :
    Evolves A s₀ (s.raise src) := by
  unfold State.raise
  with_reducible repeat (first
      | assumption
      | apply State.setPending_evolves
      | apply State.bumpSat_evolves
      | apply State.arm_evolves
      | apply State.releaseGroup_evolves
      | apply State.put_evolves
      | apply State.wakeSlice_evolves
      | (apply covers_trans _ hA; decide +kernel)
      | intro _ | rfl | dsimp only | split
      | (apply intc_evolves; first | assumption | apply State.setPending_evolves | apply State.bumpSat_evolves | apply State.arm_evolves | apply State.releaseGroup_evolves | apply State.put_evolves | apply State.wakeSlice_evolves | intro _ | rfl | dsimp only | split))

/-- What `State.raiseIf` keeps. -/
theorem State.raiseIf_evolves {A : List Part} {s₀ s : State} (h : Evolves A s₀ s) (b : Bool) (src : Nat) (hA : covers raiseParts A = true) :
    Evolves A s₀ (s.raiseIf b src) := by
  unfold State.raiseIf
  with_reducible repeat (first
      | assumption
      | apply State.raise_evolves
      | (apply covers_trans _ hA; decide +kernel)
      | intro _ | rfl | dsimp only | split)

/-- What `State.icDenied` keeps. -/
theorem State.icDenied_evolves {A : List Part} {s₀ s : State} (h : Evolves A s₀ s) (m : Master) (hA : covers [.fresh, .reg .IC_SSTAT] A = true) :
    Evolves A s₀ (s.icDenied m) := by
  unfold State.icDenied
  with_reducible repeat (first
      | assumption
      | apply State.put_evolves
      | (apply covers_trans _ hA; decide +kernel)
      | intro _ | rfl | dsimp only | split)

/-- What `State.sliceWrite` keeps. -/
theorem State.sliceWrite_evolves {A : List Part} {s₀ s : State} (h : Evolves A s₀ s) (m : Master) (n : Option Slice) (f : State → Nat → State) (hf : ∀ x0 x1, Evolves A s₀ x0 → Evolves A s₀ (f x0 x1))
    (hA : covers [.fresh, .reg .IC_SSTAT] A = true) :
    Evolves A s₀ (s.sliceWrite m n f) := by
  unfold State.sliceWrite
  with_reducible repeat (first
      | assumption
      | apply hf
      | apply State.icDenied_evolves
      | (apply covers_trans _ hA; decide +kernel)
      | intro _ | rfl | dsimp only | split)

/-- What `State.claim` keeps. -/
theorem State.claim_evolves {A : List Part} {s₀ s : State} (h : Evolves A s₀ s) (k : Nat)
    (hA : covers [.fresh, .bus, .drift, .intc, .reg .DR_PLOG, .reg .IC_PEND] A = true) :
    Evolves A s₀ (s.claim k) := by
  unfold State.claim
  with_reducible repeat (first
      | assumption
      | apply State.setPending_evolves
      | apply State.lineFollow_evolves
      | (apply covers_trans _ hA; decide +kernel)
      | intro _ | rfl | dsimp only | split
      | (apply mk_evolves; first | assumption | apply State.setPending_evolves | apply State.lineFollow_evolves | intro _ | rfl | dsimp only | split)
      | exact .inl rfl | exact .inr (covers_mem hA (by decide +kernel)))

/-- What `State.complete` keeps. -/
theorem State.complete_evolves {A : List Part} {s₀ s : State} (h : Evolves A s₀ s) (k : Nat) (v : Word)
    (hA : covers [.fresh, .drift, .intc, .reg .DR_PLOG, .reg .IC_SSTAT] A = true) :
    Evolves A s₀ (s.complete k v) := by
  unfold State.complete
  with_reducible repeat (first
      | assumption
      | apply State.wakeSlice_evolves
      | apply State.put_evolves
      | (apply covers_trans _ hA; decide +kernel)
      | intro _ | rfl | dsimp only | split
      | (apply intc_evolves; first | assumption | apply State.wakeSlice_evolves | apply State.put_evolves | intro _ | rfl | dsimp only | split))

/-- What `State.pendWrite` keeps. -/
theorem State.pendWrite_evolves {A : List Part} {s₀ s : State} (h : Evolves A s₀ s) (k : Nat) (j : Nat) (v : Word)
    (hA : covers [.fresh, .drift, .intc, .reg .DR_PLOG, .reg .IC_PEND] A = true) :
    Evolves A s₀ (s.pendWrite k j v) := by
  unfold State.pendWrite
  with_reducible repeat (first
      | assumption
      | apply State.regWrite_evolves
      | apply State.lineFollow_evolves
      | (apply covers_trans _ hA; decide +kernel)
      | intro _ | rfl | dsimp only | split
      | (apply intc_evolves; first | assumption | apply State.regWrite_evolves | apply State.lineFollow_evolves | intro _ | rfl | dsimp only | split))

/-- What `State.srccfgWrite` keeps. -/
theorem State.srccfgWrite_evolves {A : List Part} {s₀ s : State} (h : Evolves A s₀ s) (m : Master) (src : Nat) (v : Word)
    (hA : covers [.fresh, .drift, .intc, .reg .BLK_BLKCTL, .reg .DR_PLOG, .reg .IC_SRCCFG, .reg .IC_SSTAT] A = true) :
    Evolves A s₀ (s.srccfgWrite m src v) := by
  unfold State.srccfgWrite
  with_reducible repeat (first
      | assumption
      | apply State.icDenied_evolves
      | apply State.put_evolves
      | apply State.regWrite_evolves
      | apply State.each_evolves
      | apply State.wakeSlice_evolves
      | (apply covers_trans _ hA; decide +kernel)
      | intro _ | rfl | dsimp only | split)

/-- What `State.gcfgWrite` keeps. -/
theorem State.gcfgWrite_evolves {A : List Part} {s₀ s : State} (h : Evolves A s₀ s) (m : Master) (g : Nat) (v : Word)
    (hA : covers [.fresh, .timers, .drift, .intc, .reg .DR_PLOG, .reg .IC_SSTAT, .reg .IC_GCFG, .reg .IC_GSTAT] A = true) :
    Evolves A s₀ (s.gcfgWrite m g v) := by
  unfold State.gcfgWrite
  with_reducible repeat (first
      | assumption
      | apply State.icDenied_evolves
      | apply State.regWrite_evolves
      | apply State.releaseGroup_evolves
      | (apply covers_trans _ hA; decide +kernel)
      | intro _ | rfl | dsimp only | split)

/-- What `execCoalesceTimeout` keeps. -/
theorem execCoalesceTimeout_evolves {A : List Part} {s₀ s : State} (h : Evolves A s₀ s) (g : IcGroup)
    (hA : covers ([Part.intc, .reg .DR_PLOG, .reg .IC_GSTAT] ++ onTimerParts) A = true) :
    ∃ u, execCoalesceTimeout g s = .next u ∧ Evolves A s₀ u := by
  unfold execCoalesceTimeout
  refine ⟨_, rfl, ?_⟩
  with_reducible repeat (first
      | assumption
      | apply State.onTimer_evolves
      | apply State.releaseGroup_evolves
      | (apply covers_trans _ hA; decide +kernel)
      | intro _ | rfl | dsimp only | split)

/-- What `State.icPlainWrite` keeps. -/
theorem State.icPlainWrite_evolves {A : List Part} {s₀ s : State} (h : Evolves A s₀ s) (m : Master) (r : RegId) (i : Nat) (v : Word) (hf : covers [.reg r] A = true)
    (hA : covers [.fresh, .drift, .intc, .reg .DR_PLOG, .reg .IC_SSTAT] A = true) :
    Evolves A s₀ (s.icPlainWrite m r i v) := by
  unfold State.icPlainWrite
  with_reducible repeat (first
      | assumption
      | apply State.wakeSlice_evolves
      | apply State.regWrite_evolves
      | apply State.icDenied_evolves
      | (apply covers_trans _ hA; decide +kernel)
      | intro _ | rfl | dsimp only | split)

/-! ### Machine/ShiftPlan -/

/-- What `State.reloadCrew` keeps. -/
theorem State.reloadCrew_evolves {A : List Part} {s₀ s : State} (h : Evolves A s₀ s) (f : Nat) (c : Nat)
    (hA : covers [.fresh, .reg .SP_REMAIN0, .reg .SP_REMAIN1, .reg .SP_REMAIN2] A = true) :
    Evolves A s₀ (s.reloadCrew f c) := by
  unfold State.reloadCrew
  with_reducible repeat (first
      | assumption
      | apply State.put_evolves
      | (apply covers_trans _ hA; decide +kernel)
      | intro _ | rfl | dsimp only | split)

/-- What `State.reloadBudgets` keeps. -/
theorem State.reloadBudgets_evolves {A : List Part} {s₀ s : State} (h : Evolves A s₀ s) (f : Nat)
    (hA : covers [.fresh, .reg .SP_REMAIN0, .reg .SP_REMAIN1, .reg .SP_REMAIN2] A = true) :
    Evolves A s₀ (s.reloadBudgets f) := by
  unfold State.reloadBudgets
  with_reducible repeat (first
      | assumption
      | apply State.each_evolves
      | apply State.reloadCrew_evolves
      | (apply covers_trans _ hA; decide +kernel)
      | intro _ | rfl | dsimp only | split)

/-- What `State.releaseCrews` keeps. -/
theorem State.releaseCrews_evolves {A : List Part} {s₀ s : State} (h : Evolves A s₀ s) (hA : covers [.fresh, .reg .SP_CREWSTAT] A = true) :
    Evolves A s₀ (s.releaseCrews) := by
  unfold State.releaseCrews
  with_reducible repeat (first
      | assumption
      | apply State.each_evolves
      | apply State.put_evolves
      | (apply covers_trans _ hA; decide +kernel)
      | intro _ | rfl | dsimp only | split)

/-- What `State.leaveCrew` keeps. -/
theorem State.leaveCrew_evolves {A : List Part} {s₀ s : State} (h : Evolves A s₀ s) (c : Nat) (b : Option Budget) (hA : covers [.drift] A = true) :
    Evolves A s₀ (s.leaveCrew c b) := by
  unfold State.leaveCrew
  with_reducible repeat (first
      | assumption
      | apply State.updPair_evolves
      | (apply covers_trans _ hA; decide +kernel)
      | intro _ | rfl | dsimp only | split)

/-- What `State.setOverrun` keeps. -/
theorem State.setOverrun_evolves {A : List Part} {s₀ s : State} (h : Evolves A s₀ s) (c : Nat)
    (hA : covers ([Part.reg .SP_OVERRUN0, .reg .SP_OVERRUN1] ++ raiseParts) A = true) :
    Evolves A s₀ (s.setOverrun c) := by
  unfold State.setOverrun
  with_reducible repeat (first
      | assumption
      | apply State.orPut_evolves
      | apply State.raise_evolves
      | (apply covers_trans _ hA; first | decide +kernel | (unfold overrunFld; split <;> decide +kernel))
      | intro _ | rfl | dsimp only | split)

/-- What `State.overrunOne` keeps. -/
theorem State.overrunOne_evolves {A : List Part} {s₀ s : State} (h : Evolves A s₀ s) (c : Nat) (b : Budget)
    (hA : covers ([Part.reg .SP_OVERRUN0, .reg .SP_OVERRUN1, .reg .SP_CREWSTAT] ++ raiseParts) A = true) :
    Evolves A s₀ (s.overrunOne c b) := by
  unfold State.overrunOne
  with_reducible repeat (first
      | assumption
      | apply State.orPut_evolves
      | apply State.bumpSat_evolves
      | apply State.setOverrun_evolves
      | apply State.leaveCrew_evolves
      | (apply covers_trans _ hA; decide +kernel)
      | intro _ | rfl | dsimp only | split)

/-- What `State.stopSpent` keeps. -/
theorem State.stopSpent_evolves {A : List Part} {s₀ s : State} (h : Evolves A s₀ s) (n : Nat) (k : Nat)
    (hA : covers ([Part.reg .SP_OVERRUN0, .reg .SP_OVERRUN1, .reg .SP_CREWSTAT] ++ raiseParts) A = true) :
    Evolves A s₀ (s.stopSpent n k) := by
  unfold State.stopSpent
  with_reducible repeat (first
      | assumption
      | apply State.overrunOne_evolves
      | (apply covers_trans _ hA; decide +kernel)
      | intro _ | rfl | dsimp only | split)

/-- What `State.stopSpentPair` keeps. -/
theorem State.stopSpentPair_evolves {A : List Part} {s₀ s : State} (h : Evolves A s₀ s) (n : Nat)
    (hA : covers ([Part.reg .SP_OVERRUN0, .reg .SP_OVERRUN1, .reg .SP_CREWSTAT] ++ raiseParts) A = true) :
    Evolves A s₀ (s.stopSpentPair n) := by
  unfold State.stopSpentPair
  with_reducible repeat (first
      | assumption
      | apply State.each_evolves
      | apply State.stopSpent_evolves
      | (apply covers_trans _ hA; decide +kernel)
      | intro _ | rfl | dsimp only | split)

/-- What `State.overrun` keeps. -/
theorem State.overrun_evolves {A : List Part} {s₀ s : State} (h : Evolves A s₀ s) (c : Nat) (b : Budget)
    (hA : covers ([Part.reg .SP_OVERRUN0, .reg .SP_OVERRUN1, .reg .SP_CREWSTAT] ++ raiseParts) A = true) :
    Evolves A s₀ (s.overrun c b) := by
  unfold State.overrun
  with_reducible repeat (first
      | assumption
      | apply State.stopSpentPair_evolves
      | apply State.overrunOne_evolves
      | (apply covers_trans _ hA; decide +kernel)
      | intro _ | rfl | dsimp only | split)

/-- What `State.charge` keeps. -/
theorem State.charge_evolves {A : List Part} {s₀ s : State} (h : Evolves A s₀ s) (c : Nat) (b : Budget) (n : Nat) (hA : covers chargeParts A = true) :
    Evolves A s₀ (s.charge c b n) := by
  unfold State.charge
  with_reducible repeat (first
      | assumption
      | apply State.put_evolves
      | apply State.overrun_evolves
      | (apply covers_trans _ hA; first | decide +kernel | (cases b <;> decide +kernel))
      | intro _ | rfl | dsimp only | split)

/-- What `execOverrun` keeps. -/
theorem execOverrun_evolves {A : List Part} {s₀ s : State} (h : Evolves A s₀ s) (c : Crew) (b : Fin 4) (hA : covers chargeParts A = true) :
    ∃ u, execOverrun c b s = .next u ∧ Evolves A s₀ u := by
  unfold execOverrun
  refine ⟨_, rfl, ?_⟩
  with_reducible repeat (first
      | assumption
      | apply State.overrun_evolves
      | apply State.put_evolves
      | (apply covers_trans _ hA; decide +kernel)
      | intro _ | rfl | dsimp only | split)

/-- What `State.goWrite` keeps. -/
theorem State.goWrite_evolves {A : List Part} {s₀ s : State} (h : Evolves A s₀ s) (hA : covers ([Part.reg .SP_COMMIT] ++ raiseParts) A = true) :
    Evolves A s₀ (s.goWrite) := by
  unfold State.goWrite
  with_reducible repeat (first
      | assumption
      | apply State.put_evolves
      | apply State.raise_evolves
      | (apply covers_trans _ hA; decide +kernel)
      | intro _ | rfl | dsimp only | split)

/-- What `State.commitWrite` keeps. -/
theorem State.commitWrite_evolves {A : List Part} {s₀ s : State} (h : Evolves A s₀ s) (v : Word)
    (hA : covers ([Part.reg .SP_COMMIT] ++ raiseParts) A = true) :
    Evolves A s₀ (s.commitWrite v) := by
  unfold State.commitWrite
  with_reducible repeat (first
      | assumption
      | apply State.regWrite_evolves
      | apply State.goWrite_evolves
      | (apply covers_trans _ hA; decide +kernel)
      | intro _ | rfl | dsimp only | split)

/-- What `State.commitPlan` keeps. -/
theorem State.commitPlan_evolves {A : List Part} {s₀ s : State} (h : Evolves A s₀ s) (hA : covers [.fresh, .plan, .reg .SP_COMMIT] A = true) :
    Evolves A s₀ (s.commitPlan) := by
  unfold State.commitPlan
  with_reducible repeat (first
      | assumption
      | apply State.put_evolves
      | (apply covers_trans _ hA; decide +kernel)
      | intro _ | rfl | dsimp only | split
      | (apply plan_evolves; first | assumption | apply State.put_evolves | intro _ | rfl | dsimp only | split))

/-- What `State.floor` keeps. -/
theorem State.floor_evolves {A : List Part} {s₀ s : State} (h : Evolves A s₀ s) (n : Nat)
    (hA : covers ([Part.reg .SP_OVERRUN0, .reg .SP_OVERRUN1, .reg .SP_CREWSTAT] ++ raiseParts) A = true) :
    Evolves A s₀ (s.floor n) := by
  unfold State.floor
  with_reducible repeat (first
      | assumption
      | apply State.each_evolves
      | apply State.stopSpent_evolves
      | apply State.leaveCrew_evolves
      | apply State.put_evolves
      | (apply covers_trans _ hA; decide +kernel)
      | intro _ | rfl | dsimp only | split)

/-- What `execFloor` keeps. -/
theorem execFloor_evolves {A : List Part} {s₀ s : State} (h : Evolves A s₀ s) (n : Pair)
    (hA : covers ([Part.reg .SP_OVERRUN0, .reg .SP_OVERRUN1, .reg .SP_CREWSTAT] ++ raiseParts) A = true) :
    ∃ u, execFloor n s = .next u ∧ Evolves A s₀ u := by
  unfold execFloor
  refine ⟨_, rfl, ?_⟩
  with_reducible repeat (first
      | assumption
      | apply State.floor_evolves
      | (apply covers_trans _ hA; decide +kernel)
      | intro _ | rfl | dsimp only | split)

/-! ### Machine/DomState -/

/-- What `State.updDom` keeps. -/
theorem State.updDom_evolves {A : List Part} {s₀ s : State} (h : Evolves A s₀ s) (d : Nat) (f : DomU → DomU) (hA : covers [.head] A = true) :
    Evolves A s₀ (s.updDom d f) := by
  unfold State.updDom
  with_reducible repeat (first
      | assumption
      | (apply covers_trans _ hA; decide +kernel)
      | intro _ | rfl | dsimp only | split
      | (apply head_evolves; first | assumption | intro _ | rfl | dsimp only | split))

/-- What `State.updPlan` keeps. -/
theorem State.updPlan_evolves {A : List Part} {s₀ s : State} (h : Evolves A s₀ s) (f : PlanU → PlanU) (hA : covers [.plan] A = true) :
    Evolves A s₀ (s.updPlan f) := by
  unfold State.updPlan
  with_reducible repeat (first
      | assumption
      | (apply covers_trans _ hA; decide +kernel)
      | intro _ | rfl | dsimp only | split
      | (apply plan_evolves; first | assumption | intro _ | rfl | dsimp only | split))

/-- What `State.abandonSwitch` keeps. -/
theorem State.abandonSwitch_evolves {A : List Part} {s₀ s : State} (h : Evolves A s₀ s) (hA : covers [.plan] A = true) :
    Evolves A s₀ (s.abandonSwitch) := by
  unfold State.abandonSwitch
  with_reducible repeat (first
      | assumption
      | apply State.updPlan_evolves
      | (apply covers_trans _ hA; decide +kernel)
      | intro _ | rfl | dsimp only | split)

/-- What `State.awaitDomain` keeps. -/
theorem State.awaitDomain_evolves {A : List Part} {s₀ s : State} (h : Evolves A s₀ s) (d : Nat) (hA : covers [.plan] A = true) :
    Evolves A s₀ (s.awaitDomain d) := by
  unfold State.awaitDomain
  with_reducible repeat (first
      | assumption
      | apply State.updPlan_evolves
      | apply State.abandonSwitch_evolves
      | (apply covers_trans _ hA; decide +kernel)
      | intro _ | rfl | dsimp only | split)

/-- What `State.reevalSource` keeps. -/
theorem State.reevalSource_evolves {A : List Part} {s₀ s : State} (h : Evolves A s₀ s)
    (hA : covers [.fresh, .plan, .reg .SP_STAT, .reg .SP_CNT] A = true) :
    Evolves A s₀ (s.reevalSource) := by
  unfold State.reevalSource
  with_reducible repeat (first
      | assumption
      | apply State.bump_evolves
      | apply State.put_evolves
      | apply State.updPlan_evolves
      | apply State.abandonSwitch_evolves
      | apply State.awaitDomain_evolves
      | (apply covers_trans _ hA; decide +kernel)
      | intro _ | rfl | dsimp only | split)

/-- What `State.shiftCtlWrite` keeps. -/
theorem State.shiftCtlWrite_evolves {A : List Part} {s₀ s : State} (h : Evolves A s₀ s) (v : Word)
    (hA : covers [.fresh, .plan, .reg .SP_CTL, .reg .SP_STAT, .reg .SP_CNT] A = true) :
    Evolves A s₀ (s.shiftCtlWrite v) := by
  unfold State.shiftCtlWrite
  with_reducible repeat (first
      | assumption
      | apply State.reevalSource_evolves
      | apply State.regWrite_evolves
      | (apply covers_trans _ hA; decide +kernel)
      | intro _ | rfl | dsimp only | split)

/-- What `State.setNext` keeps. -/
theorem State.setNext_evolves {A : List Part} {s₀ s : State} (h : Evolves A s₀ s) (k : Nat) (v : BitVec 64) (hA : covers [.head] A = true) :
    Evolves A s₀ (s.setNext k v) := by
  unfold State.setNext
  with_reducible repeat (first
      | assumption
      | (apply covers_trans _ hA; decide +kernel)
      | intro _ | rfl | dsimp only | split
      | (apply head_evolves; first | assumption | intro _ | rfl | dsimp only | split))

/-- What `State.armSlot` keeps. -/
theorem State.armSlot_evolves {A : List Part} {s₀ s : State} (h : Evolves A s₀ s) (k : Nat) (hA : covers [.head] A = true) :
    Evolves A s₀ (s.armSlot k) := by
  unfold State.armSlot
  with_reducible repeat (first
      | assumption
      | apply State.setNext_evolves
      | (apply covers_trans _ hA; decide +kernel)
      | intro _ | rfl | dsimp only | split)

/-- What `State.setInc` keeps. -/
theorem State.setInc_evolves {A : List Part} {s₀ s : State} (h : Evolves A s₀ s) (d : Nat) (n : Nat) (flag : Bool)
    (hA : covers [.fresh, .reg .HF_DOMSTAT, .reg .HF_INC] A = true) :
    Evolves A s₀ (s.setInc d n flag) := by
  unfold State.setInc
  with_reducible repeat (first
      | assumption
      | apply State.put_evolves
      | (apply covers_trans _ hA; decide +kernel)
      | intro _ | rfl | dsimp only | split)

/-- What `State.setDomState` keeps. -/
theorem State.setDomState_evolves {A : List Part} {s₀ s : State} (h : Evolves A s₀ s) (d : Nat) (st : Nat) (hA : covers coastParts A = true) :
    Evolves A s₀ (s.setDomState d st) := by
  unfold State.setDomState
  with_reducible repeat (first
      | assumption
      | apply State.disarm_evolves
      | apply State.put_evolves
      | apply State.updDom_evolves
      | apply State.each_evolves
      | apply State.armSlot_evolves
      | apply State.reevalSource_evolves
      | (apply covers_trans _ hA; decide +kernel)
      | intro _ | rfl | dsimp only | split)

/-- What `State.coast` keeps. -/
theorem State.coast_evolves {A : List Part} {s₀ s : State} (h : Evolves A s₀ s) (d : Nat) (hA : covers coastParts A = true) :
    Evolves A s₀ (s.coast d) := by
  unfold State.coast
  with_reducible repeat (first
      | assumption
      | apply State.arm_evolves
      | apply State.put_evolves
      | apply State.setDomState_evolves
      | apply State.updDom_evolves
      | (apply covers_trans _ hA; decide +kernel)
      | intro _ | rfl | dsimp only | split)

/-- What `State.srcLost` keeps. -/
theorem State.srcLost_evolves {A : List Part} {s₀ s : State} (h : Evolves A s₀ s) (d : Nat) (src : Nat) (hA : covers coastParts A = true) :
    Evolves A s₀ (s.srcLost d src) := by
  unfold State.srcLost
  with_reducible repeat (first
      | assumption
      | apply State.put_evolves
      | apply State.coast_evolves
      | (apply covers_trans _ hA; decide +kernel)
      | intro _ | rfl | dsimp only | split)

/-- What `State.coastPick` keeps. -/
theorem State.coastPick_evolves {A : List Part} {s₀ s : State} (h : Evolves A s₀ s) (hA : covers coastParts A = true) :
    Evolves A s₀ (s.coastPick) := by
  unfold State.coastPick
  with_reducible repeat (first
      | assumption
      | apply State.each_evolves
      | apply State.srcLost_evolves
      | (apply covers_trans _ hA; decide +kernel)
      | intro _ | rfl | dsimp only | split)

/-! ### Machine/Seam -/

/-- What `State.updStream` keeps. -/
theorem State.updStream_evolves {A : List Part} {s₀ s : State} (h : Evolves A s₀ s) (t : Nat) (f : StreamU → StreamU) (hA : covers [.seam] A = true) :
    Evolves A s₀ (s.updStream t f) := by
  unfold State.updStream
  with_reducible repeat (first
      | assumption
      | (apply covers_trans _ hA; decide +kernel)
      | intro _ | rfl | dsimp only | split
      | (apply seam_evolves; first | assumption | intro _ | rfl | dsimp only | split))

/-- What `State.updCapture` keeps. -/
theorem State.updCapture_evolves {A : List Part} {s₀ s : State} (h : Evolves A s₀ s) (n : Nat) (f : CaptureU → CaptureU)
    (hA : covers [.seam] A = true) :
    Evolves A s₀ (s.updCapture n f) := by
  unfold State.updCapture
  with_reducible repeat (first
      | assumption
      | (apply covers_trans _ hA; decide +kernel)
      | intro _ | rfl | dsimp only | split
      | (apply seam_evolves; first | assumption | intro _ | rfl | dsimp only | split))

/-- What `State.endCapture` keeps. -/
theorem State.endCapture_evolves {A : List Part} {s₀ s : State} (h : Evolves A s₀ s) (n : Nat)
    (hA : covers ([Part.seam, .reg .SE_CAPEND, .reg .SE_CAPSTAT] ++ raiseParts) A = true) :
    Evolves A s₀ (s.endCapture n) := by
  unfold State.endCapture
  with_reducible repeat (first
      | assumption
      | apply State.raise_evolves
      | apply State.put_evolves
      | apply State.wrw_evolves
      | apply State.updCapture_evolves
      | (apply covers_trans _ hA; decide +kernel)
      | intro _ | rfl | dsimp only | split)

/-- What `State.holdLimit` keeps. -/
theorem State.holdLimit_evolves {A : List Part} {s₀ s : State} (h : Evolves A s₀ s)
    (hA : covers ([Part.seam, .reg .SE_SSTAT, .reg .SE_CAPEND, .reg .SE_CAPSTAT] ++ raiseParts) A = true) :
    Evolves A s₀ (s.holdLimit) := by
  unfold State.holdLimit
  with_reducible repeat (first
      | assumption
      | apply State.each_evolves
      | apply State.put_evolves
      | apply State.endCapture_evolves
      | (apply covers_trans _ hA; decide +kernel)
      | intro _ | rfl | dsimp only | split)

/-- What `State.capturesDue` keeps. -/
theorem State.capturesDue_evolves {A : List Part} {s₀ s : State} (h : Evolves A s₀ s)
    (hA : covers ([Part.seam, .reg .SE_CAPEND, .reg .SE_CAPSTAT] ++ raiseParts) A = true) :
    Evolves A s₀ (s.capturesDue) := by
  unfold State.capturesDue
  with_reducible repeat (first
      | assumption
      | apply State.each_evolves
      | apply State.endCapture_evolves
      | (apply covers_trans _ hA; decide +kernel)
      | intro _ | rfl | dsimp only | split)

/-- What `State.closeBurst` keeps. -/
theorem State.closeBurst_evolves {A : List Part} {s₀ s : State} (h : Evolves A s₀ s) (t : Nat)
    (hA : covers ([Part.mem, .freeIdx, .seam, .reg .SE_SSTAT, .reg .SE_STRSTAT, .reg .SE_CAPEND, .reg .SE_CAPSTAT] ++ raiseParts) A = true) :
    Evolves A s₀ (s.closeBurst t) := by
  unfold State.closeBurst
  with_reducible repeat (first
      | assumption
      | apply State.free_evolves
      | apply State.capturesDue_evolves
      | apply State.setBytes_evolves
      | apply State.bump_evolves
      | apply State.put_evolves
      | apply State.updStream_evolves
      | apply State.holdLimit_evolves
      | apply State.disarm_evolves
      | (apply covers_trans _ hA; decide +kernel)
      | intro _ | rfl | dsimp only | split
      | (apply seam_evolves; first | assumption | apply State.free_evolves | apply State.capturesDue_evolves | apply State.setBytes_evolves | apply State.bump_evolves | apply State.put_evolves | apply State.updStream_evolves | apply State.holdLimit_evolves | apply State.disarm_evolves | intro _ | rfl | dsimp only | split))

/-- What `State.openBurst` keeps. -/
theorem State.openBurst_evolves {A : List Part} {s₀ s : State} (h : Evolves A s₀ s) (t : Nat) (b : List Byte)
    (hA : covers ([Part.seam, .reg .SE_STRSTAT] ++ chargeParts) A = true) :
    Evolves A s₀ (s.openBurst t b) := by
  unfold State.openBurst
  with_reducible repeat (first
      | assumption
      | apply State.put_evolves
      | apply State.updStream_evolves
      | apply State.arm_evolves
      | apply State.charge_evolves
      | (apply covers_trans _ hA; decide +kernel)
      | intro _ | rfl | dsimp only | split)

/-- What `State.dropRecord` keeps. -/
theorem State.dropRecord_evolves {A : List Part} {s₀ s : State} (h : Evolves A s₀ s) (t : Nat) (r : List Word)
    (hA : covers ([Part.seam, .reg .SE_SSTAT, .reg .SE_STRSTAT, .reg .SE_STRDROP] ++ raiseParts) A = true) :
    Evolves A s₀ (s.dropRecord t r) := by
  unfold State.dropRecord
  with_reducible repeat (first
      | assumption
      | apply State.put_evolves
      | apply State.bumpSat_evolves
      | apply State.updStream_evolves
      | apply State.raise_evolves
      | (apply covers_trans _ hA; decide +kernel)
      | intro _ | rfl | dsimp only | split)

/-- What `State.storeRecord` keeps. -/
theorem State.storeRecord_evolves {A : List Part} {s₀ s : State} (h : Evolves A s₀ s) (t : Nat) (b : List Byte) {u : State} (e : s.storeRecord t b = some u)
    (hA : covers ([Part.mem, .freeIdx, .seam, .reg .SE_SSTAT, .reg .SE_STRSTAT, .reg .SE_CAPEND, .reg .SE_CAPSTAT] ++ chargeParts) A = true) :
    Evolves A s₀ u := by
  simp only [State.storeRecord] at e
  split at e
  · rw [← Option.some.inj e]
    exact ite_evolves (State.closeBurst_evolves (State.updStream_evolves h _ _ (covers_trans (by decide +kernel) hA)) _ (covers_trans (by decide +kernel) hA))
      (State.updStream_evolves h _ _ (covers_trans (by decide +kernel) hA))
  · split at e
    · rw [← Option.some.inj e]
      exact State.openBurst_evolves (State.closeBurst_evolves h _ (covers_trans (by decide +kernel) hA)) _ _ (covers_trans (by decide +kernel) hA)
    · cases e

/-- What `State.admitRecord` keeps. -/
theorem State.admitRecord_evolves {A : List Part} {s₀ s : State} (h : Evolves A s₀ s) (t : Nat) (mk : Nat → List Word)
    (hA : covers seamParts A = true) :
    Evolves A s₀ (s.admitRecord t mk) := by
  unfold State.admitRecord
  with_reducible repeat (first
      | assumption
      | (apply State.storeRecord_evolves (e := by assumption))
      | apply getD_evolves
      | apply State.put_evolves
      | apply State.updStream_evolves
      | apply State.dropRecord_evolves
      | (apply covers_trans _ hA; decide +kernel)
      | intro _ | rfl | dsimp only | split)

/-- What `State.record` keeps. -/
theorem State.record_evolves {A : List Part} {s₀ s : State} (h : Evolves A s₀ s) (t : Nat) (sel : Nat) (ty : Nat) (src : Nat) (body : List Word)
    (hA : covers seamParts A = true) :
    Evolves A s₀ (s.record t sel ty src body) := by
  unfold State.record
  with_reducible repeat (first
      | assumption
      | apply State.admitRecord_evolves
      | (apply covers_trans _ hA; decide +kernel)
      | intro _ | rfl | dsimp only | split)

/-- What `execBurstFlush` keeps. -/
theorem execBurstFlush_evolves {A : List Part} {s₀ s : State} (h : Evolves A s₀ s) (t : Sys2Proof.Stream)
    (hA : covers ([Part.mem, .freeIdx, .seam, .reg .SE_SSTAT, .reg .SE_STRSTAT, .reg .SE_CAPEND, .reg .SE_CAPSTAT] ++ raiseParts ++
      onTimerParts) A = true) :
    ∃ u, execBurstFlush t s = .next u ∧ Evolves A s₀ u := by
  unfold execBurstFlush
  refine ⟨_, rfl, ?_⟩
  with_reducible repeat (first
      | assumption
      | apply State.onTimer_evolves
      | apply State.closeBurst_evolves
      | (apply covers_trans _ hA; decide +kernel)
      | intro _ | rfl | dsimp only | split)

/-- What `State.strput` keeps. -/
theorem State.strput_evolves {A : List Part} {s₀ s : State} (h : Evolves A s₀ s) (t : Nat) (v : Word) (hA : covers seamParts A = true) :
    Evolves A s₀ (s.strput t v) := by
  unfold State.strput
  with_reducible repeat (first
      | assumption
      | apply State.put_evolves
      | apply State.updStream_evolves
      | apply State.admitRecord_evolves
      | (apply covers_trans _ hA; decide +kernel)
      | intro _ | rfl | dsimp only | split)

/-- What `State.seamWrite` keeps. -/
theorem State.seamWrite_evolves {A : List Part} {s₀ s : State} (h : Evolves A s₀ s) (m : Master) (f : State → State) (hf : ∀ x0, Evolves A s₀ x0 → Evolves A s₀ (f x0))
    (hA : covers [.fresh, .reg .SE_SSTAT] A = true) :
    Evolves A s₀ (s.seamWrite m f) := by
  unfold State.seamWrite
  with_reducible repeat (first
      | assumption
      | apply hf
      | apply State.put_evolves
      | (apply covers_trans _ hA; decide +kernel)
      | intro _ | rfl | dsimp only | split)

/-- What `State.strcfgWrite` keeps. -/
theorem State.strcfgWrite_evolves {A : List Part} {s₀ s : State} (h : Evolves A s₀ s) (t : Nat) (v : Word)
    (hA : covers ([Part.mem, .freeIdx, .seam, .reg .SE_SSTAT, .reg .SE_STRCFG, .reg .SE_STRSTAT, .reg .SE_CAPEND, .reg .SE_CAPSTAT] ++
      raiseParts) A = true) :
    Evolves A s₀ (s.strcfgWrite t v) := by
  unfold State.strcfgWrite
  with_reducible repeat (first
      | assumption
      | apply State.regWrite_evolves
      | apply State.closeBurst_evolves
      | apply State.updStream_evolves
      | (apply covers_trans _ hA; decide +kernel)
      | intro _ | rfl | dsimp only | split)

/-- What `State.fire` keeps. -/
theorem State.fire_evolves {A : List Part} {s₀ s : State} (h : Evolves A s₀ s) (n : Nat)
    (hA : covers ([Part.reg .SE_CAPSTART] ++ seamParts) A = true) :
    Evolves A s₀ (s.fire n) := by
  unfold State.fire
  with_reducible repeat (first
      | assumption
      | apply State.put_evolves
      | apply State.raise_evolves
      | apply State.bump_evolves
      | apply State.updCapture_evolves
      | apply State.wrw_evolves
      | apply State.free_evolves
      | apply State.record_evolves
      | (apply covers_trans _ hA; decide +kernel)
      | intro _ | rfl | dsimp only | split)

/-- What `State.updDrain` keeps. -/
theorem State.updDrain_evolves {A : List Part} {s₀ s : State} (h : Evolves A s₀ s) (d : Nat) (f : DrainU → DrainU) (hA : covers [.seam] A = true) :
    Evolves A s₀ (s.updDrain d f) := by
  unfold State.updDrain
  with_reducible repeat (first
      | assumption
      | (apply covers_trans _ hA; decide +kernel)
      | intro _ | rfl | dsimp only | split
      | (apply seam_evolves; first | assumption | intro _ | rfl | dsimp only | split))

/-- What `State.endDrainsOf` keeps. -/
theorem State.endDrainsOf_evolves {A : List Part} {s₀ s : State} (h : Evolves A s₀ s) (n : Nat)
    (hA : covers ([Part.reg .SE_DRSTAT] ++ raiseParts) A = true) :
    Evolves A s₀ (s.endDrainsOf n) := by
  unfold State.endDrainsOf
  with_reducible repeat (first
      | assumption
      | apply State.each_evolves
      | apply State.raise_evolves
      | apply State.put_evolves
      | (apply covers_trans _ hA; decide +kernel)
      | intro _ | rfl | dsimp only | split)

/-- What `State.releaseCapture` keeps. -/
theorem State.releaseCapture_evolves {A : List Part} {s₀ s : State} (h : Evolves A s₀ s) (n : Nat)
    (hA : covers ([Part.reg .SE_CAPSTAT, .reg .SE_DRSTAT] ++ raiseParts) A = true) :
    Evolves A s₀ (s.releaseCapture n) := by
  unfold State.releaseCapture
  with_reducible repeat (first
      | assumption
      | apply State.endDrainsOf_evolves
      | apply State.put_evolves
      | (apply covers_trans _ hA; decide +kernel)
      | intro _ | rfl | dsimp only | split)

/-- What `State.trgctlWrite` keeps. -/
theorem State.trgctlWrite_evolves {A : List Part} {s₀ s : State} (h : Evolves A s₀ s) (n : Nat) (v : Word)
    (hA : covers ([Part.reg .SE_TRGCTL, .reg .SE_CAPSTART, .reg .SE_DRSTAT] ++ seamParts) A = true) :
    Evolves A s₀ (s.trgctlWrite n v) := by
  unfold State.trgctlWrite
  with_reducible repeat (first
      | assumption
      | apply State.regWrite_evolves
      | apply State.releaseCapture_evolves
      | apply State.fire_evolves
      | (apply covers_trans _ hA; decide +kernel)
      | intro _ | rfl | dsimp only | split)

/-- What `execCaptureHeld` keeps. -/
theorem execCaptureHeld_evolves {A : List Part} {s₀ s : State} (h : Evolves A s₀ s) (n : Trig)
    (hA : covers ([Part.seam, .reg .SE_CAPEND, .reg .SE_CAPSTAT] ++ raiseParts ++ onTimerParts) A = true) :
    ∃ u, execCaptureHeld n s = .next u ∧ Evolves A s₀ u := by
  unfold execCaptureHeld
  refine ⟨_, rfl, ?_⟩
  with_reducible repeat (first
      | assumption
      | apply State.endCapture_evolves
      | apply State.advanceTo_evolves
      | (apply covers_trans _ hA; decide +kernel)
      | intro _ | rfl | dsimp only | split)

/-- What `State.drainGo` keeps. -/
theorem State.drainGo_evolves {A : List Part} {s₀ s : State} (h : Evolves A s₀ s) (d : Nat) (v : Word)
    (hA : covers [.fresh, .seam, .reg .SE_DRPTR, .reg .SE_DRSTAT] A = true) :
    Evolves A s₀ (s.drainGo d v) := by
  unfold State.drainGo
  with_reducible repeat (first
      | assumption
      | apply State.put_evolves
      | apply State.wrw_evolves
      | apply State.updDrain_evolves
      | (apply covers_trans _ hA; decide +kernel)
      | intro _ | rfl | dsimp only | split)

/-- What `State.drcfgWrite` keeps. -/
theorem State.drcfgWrite_evolves {A : List Part} {s₀ s : State} (h : Evolves A s₀ s) (d : Nat) (v : Word)
    (hA : covers [.fresh, .seam, .reg .SE_SSTAT, .reg .SE_DRCFG, .reg .SE_DRPTR, .reg .SE_DRSTAT] A = true) :
    Evolves A s₀ (s.drcfgWrite d v) := by
  unfold State.drcfgWrite
  with_reducible repeat (first
      | assumption
      | apply State.put_evolves
      | apply State.drainGo_evolves
      | apply State.regWrite_evolves
      | (apply covers_trans _ hA; decide +kernel)
      | intro _ | rfl | dsimp only | split)

/-- What `State.eraseSector` keeps. -/
theorem State.eraseSector_evolves {A : List Part} {s₀ s : State} (h : Evolves A s₀ s) (x : Nat) (hA : covers [.mem] A = true) :
    Evolves A s₀ (s.eraseSector x) := by
  unfold State.eraseSector
  with_reducible repeat (first
      | assumption
      | apply State.setBytes_evolves
      | (apply covers_trans _ hA; decide +kernel)
      | intro _ | rfl | dsimp only | split)

/-- What `State.queueFrame` keeps. -/
theorem State.queueFrame_evolves {A : List Part} {s₀ s : State} (h : Evolves A s₀ s) (q : Nat) (f : TxFrame) (hA : covers [.host] A = true) :
    Evolves A s₀ (s.queueFrame q f) := by
  unfold State.queueFrame
  with_reducible repeat (first
      | assumption
      | (apply covers_trans _ hA; decide +kernel)
      | intro _ | rfl | dsimp only | split
      | (apply host_evolves; first | assumption | intro _ | rfl | dsimp only | split))

/-- What `State.drainToEth` keeps. -/
theorem State.drainToEth_evolves {A : List Part} {s₀ s : State} (h : Evolves A s₀ s) (d : Nat) (n : Nat) (off : Nat) (b : List Byte)
    (hA : covers [.host] A = true) :
    Evolves A s₀ (s.drainToEth d n off b) := by
  unfold State.drainToEth
  with_reducible repeat (first
      | assumption
      | apply State.queueFrame_evolves
      | (apply covers_trans _ hA; decide +kernel)
      | intro _ | rfl | dsimp only | split)

/-- What `State.drainPass` keeps. -/
theorem State.drainPass_evolves {A : List Part} {s₀ s : State} (h : Evolves A s₀ s) (d : Nat)
    (hA : covers ([Part.mem, .seam, .host, .reg .SE_DRPTR] ++ chargeParts) A = true) :
    Evolves A s₀ (s.drainPass d) := by
  unfold State.drainPass
  with_reducible repeat (first
      | assumption
      | apply State.charge_evolves
      | apply State.updDrain_evolves
      | apply State.setBytes_evolves
      | apply State.each_evolves
      | apply State.eraseSector_evolves
      | apply State.drainToEth_evolves
      | apply State.wrw_evolves
      | (apply covers_trans _ hA; decide +kernel)
      | intro _ | rfl | dsimp only | split)

/-- What `execDrainDone` keeps. -/
theorem execDrainDone_evolves {A : List Part} {s₀ s : State} (h : Evolves A s₀ s) (d : Drain)
    (hA : covers ([Part.mem, .seam, .host, .reg .SE_DRPTR, .reg .SE_DRSTAT] ++ chargeParts) A = true) :
    ∃ u, execDrainDone d s = .next u ∧ Evolves A s₀ u := by
  unfold execDrainDone
  refine ⟨_, rfl, ?_⟩
  with_reducible repeat (first
      | assumption
      | apply State.raise_evolves
      | apply State.put_evolves
      | apply State.drainPass_evolves
      | (apply covers_trans _ hA; decide +kernel)
      | intro _ | rfl | dsimp only | split)

/-- What `execDrainOverrun` keeps. -/
theorem execDrainOverrun_evolves {A : List Part} {s₀ s : State} (h : Evolves A s₀ s) (d : Drain)
    (hA : covers ([Part.seam, .reg .SE_DRPTR, .reg .SE_DRSTAT] ++ raiseParts) A = true) :
    ∃ u, execDrainOverrun d s = .next u ∧ Evolves A s₀ u := by
  unfold execDrainOverrun
  refine ⟨_, rfl, ?_⟩
  with_reducible repeat (first
      | assumption
      | apply State.raise_evolves
      | apply State.bumpSat_evolves
      | apply State.put_evolves
      | apply State.wrw_evolves
      | apply State.updDrain_evolves
      | (apply covers_trans _ hA; decide +kernel)
      | intro _ | rfl | dsimp only | split)

/-- What `State.reloadCredit` keeps. -/
theorem State.reloadCredit_evolves {A : List Part} {s₀ s : State} (h : Evolves A s₀ s) (hA : covers [.fresh, .reg .SE_STRSTAT] A = true) :
    Evolves A s₀ (s.reloadCredit) := by
  unfold State.reloadCredit
  with_reducible repeat (first
      | assumption
      | apply State.each_evolves
      | apply State.put_evolves
      | (apply covers_trans _ hA; decide +kernel)
      | intro _ | rfl | dsimp only | split)

/-- What `State.undrop` keeps. -/
theorem State.undrop_evolves {A : List Part} {s₀ s : State} (h : Evolves A s₀ s) (t : Nat) (x : StreamTick)
    (hA : covers [.fresh, .seam, .reg .SE_SSTAT, .reg .SE_STRSTAT, .reg .SE_STRDROP] A = true) :
    Evolves A s₀ (s.undrop t x) := by
  unfold State.undrop
  with_reducible repeat (first
      | assumption
      | apply State.wrw_evolves
      | apply State.updStream_evolves
      | apply State.put_evolves
      | (apply covers_trans _ hA; decide +kernel)
      | intro _ | rfl | dsimp only | split)

/-- What `State.streamAnew` keeps. -/
theorem State.streamAnew_evolves {A : List Part} {s₀ s : State} (h : Evolves A s₀ s) (t : Nat) (hA : covers seamParts A = true) :
    Evolves A s₀ (s.streamAnew t) := by
  unfold State.streamAnew
  with_reducible repeat (first
      | assumption
      | apply State.updStream_evolves
      | apply State.charge_evolves
      | apply State.put_evolves
      | apply State.each_evolves
      | apply State.undrop_evolves
      | apply State.admitRecord_evolves
      | (apply covers_trans _ hA; decide +kernel)
      | intro _ | rfl | dsimp only | split)

end Sys2Proof.Machine
end

