-- ==== Sys2Proof/Laws/MovesStage.lean ====
section
/-! SUPPORT. What each operation of the power stage, the pairs, the Pick engines and the sensing keeps: one lemma per function (`Evolves`). -/

set_option Elab.async false
set_option linter.unusedTactic false
set_option linter.unreachableTactic false
set_option linter.unusedVariables false

namespace Sys2Proof.Machine

/-! ### Machine/Gate -/

/-- What `State.updChan` keeps. -/
theorem State.updChan_evolves {A : List Part} {s₀ s : State} (h : Evolves A s₀ s) (c : Nat) (f : ChanU → ChanU) (hA : covers [.power] A = true) :
    Evolves A s₀ (s.updChan c f) := by
  unfold State.updChan
  with_reducible repeat (first
      | assumption
      | (apply covers_trans _ hA; decide +kernel)
      | intro _ | rfl | dsimp only | split
      | (apply power_evolves; first | assumption | intro _ | rfl | dsimp only | split))

/-- What `State.updOut` keeps. -/
theorem State.updOut_evolves {A : List Part} {s₀ s : State} (h : Evolves A s₀ s) (c : Nat) (hi : Bool) (f : OutU → OutU)
    (hA : covers [.power] A = true) :
    Evolves A s₀ (s.updOut c hi f) := by
  unfold State.updOut
  with_reducible repeat (first
      | assumption
      | apply State.updChan_evolves
      | (apply covers_trans _ hA; decide +kernel)
      | intro _ | rfl | dsimp only | split)

/-- What `State.updGrp` keeps. -/
theorem State.updGrp_evolves {A : List Part} {s₀ s : State} (h : Evolves A s₀ s) (g : Nat) (f : GroupU → GroupU) (hA : covers [.power] A = true) :
    Evolves A s₀ (s.updGrp g f) := by
  unfold State.updGrp
  with_reducible repeat (first
      | assumption
      | (apply covers_trans _ hA; decide +kernel)
      | intro _ | rfl | dsimp only | split
      | (apply power_evolves; first | assumption | intro _ | rfl | dsimp only | split))

/-- What `State.updBlk` keeps. -/
theorem State.updBlk_evolves {A : List Part} {s₀ s : State} (h : Evolves A s₀ s) (b : Nat) (f : BlockU → BlockU) (hA : covers [.power] A = true) :
    Evolves A s₀ (s.updBlk b f) := by
  unfold State.updBlk
  with_reducible repeat (first
      | assumption
      | (apply covers_trans _ hA; decide +kernel)
      | intro _ | rfl | dsimp only | split
      | (apply power_evolves; first | assumption | intro _ | rfl | dsimp only | split))

/-- What `State.rebase` keeps. -/
theorem State.rebase_evolves {A : List Part} {s₀ s : State} (h : Evolves A s₀ s) (hA : covers [.winder] A = true) :
    Evolves A s₀ (s.rebase) := by
  unfold State.rebase
  with_reducible repeat (first
      | assumption
      | (apply covers_trans _ hA; decide +kernel)
      | intro _ | rfl | dsimp only | split
      | (apply winder_evolves; first | assumption | intro _ | rfl | dsimp only | split))

/-- What `State.realigned` keeps. -/
theorem State.realigned_evolves {A : List Part} {s₀ s : State} (h : Evolves A s₀ s) (hA : covers [.winder] A = true) :
    Evolves A s₀ (s.realigned) := by
  unfold State.realigned
  with_reducible repeat (first
      | assumption
      | (apply covers_trans _ hA; decide +kernel)
      | intro _ | rfl | dsimp only | split
      | (apply winder_evolves; first | assumption | intro _ | rfl | dsimp only | split))

/-- What `State.pinEdge` keeps. -/
theorem State.pinEdge_evolves {A : List Part} {s₀ s : State} (h : Evolves A s₀ s) (c : Nat) (hi : Bool) (v : Bool) (hA : covers [.power] A = true) :
    Evolves A s₀ (s.pinEdge c hi v) := by
  unfold State.pinEdge
  with_reducible repeat (first
      | assumption
      | apply State.updOut_evolves
      | (apply covers_trans _ hA; decide +kernel)
      | intro _ | rfl | dsimp only | split)

/-- What `State.setPin` keeps. -/
theorem State.setPin_evolves {A : List Part} {s₀ s : State} (h : Evolves A s₀ s) (c : Nat) (hi : Bool) (v : Bool)
    (hA : covers [.fresh, .timers, .power, .reg .CG_PSTAT] A = true) :
    Evolves A s₀ (s.setPin c hi v) := by
  unfold State.setPin
  with_reducible repeat (first
      | assumption
      | apply State.pinEdge_evolves
      | apply State.arm_evolves
      | apply State.put_evolves
      | apply State.disarm_evolves
      | (apply covers_trans _ hA; decide +kernel)
      | intro _ | rfl | dsimp only | split)

/-- What `State.unwait` keeps. -/
theorem State.unwait_evolves {A : List Part} {s₀ s : State} (h : Evolves A s₀ s) (c : Nat) (hi : Bool) (hA : covers [.timers, .power] A = true) :
    Evolves A s₀ (s.unwait c hi) := by
  unfold State.unwait
  with_reducible repeat (first
      | assumption
      | apply State.disarm_evolves
      | apply State.updOut_evolves
      | (apply covers_trans _ hA; decide +kernel)
      | intro _ | rfl | dsimp only | split)

/-- What `State.regate` keeps. -/
theorem State.regate_evolves {A : List Part} {s₀ s : State} (h : Evolves A s₀ s) (c : Nat) (hA : covers gateParts A = true) :
    Evolves A s₀ (s.regate c) := by
  unfold State.regate
  with_reducible repeat (first
      | assumption
      | apply State.setPin_evolves
      | apply State.put_evolves
      | apply State.unwait_evolves
      | (apply covers_trans _ hA; decide +kernel)
      | intro _ | rfl | dsimp only | split)

/-- What `State.regateBlock` keeps. -/
theorem State.regateBlock_evolves {A : List Part} {s₀ s : State} (h : Evolves A s₀ s) (b : Nat) (hA : covers gateParts A = true) :
    Evolves A s₀ (s.regateBlock b) := by
  unfold State.regateBlock
  with_reducible repeat (first
      | assumption
      | apply State.each_evolves
      | apply State.regate_evolves
      | (apply covers_trans _ hA; decide +kernel)
      | intro _ | rfl | dsimp only | split)

/-- What `State.regateAll` keeps. -/
theorem State.regateAll_evolves {A : List Part} {s₀ s : State} (h : Evolves A s₀ s) (hA : covers gateParts A = true) :
    Evolves A s₀ (s.regateAll) := by
  unfold State.regateAll
  with_reducible repeat (first
      | assumption
      | apply State.each_evolves
      | apply State.regate_evolves
      | (apply covers_trans _ hA; decide +kernel)
      | intro _ | rfl | dsimp only | split)

/-- What `State.abortRamps` keeps. -/
theorem State.abortRamps_evolves {A : List Part} {s₀ s : State} (h : Evolves A s₀ s) (b : Nat)
    (hA : covers ([Part.reg .RG_RSTAT] ++ raiseParts) A = true) :
    Evolves A s₀ (s.abortRamps b) := by
  unfold State.abortRamps
  with_reducible repeat (first
      | assumption
      | apply State.each_evolves
      | apply State.raise_evolves
      | apply State.put_evolves
      | (apply covers_trans _ hA; decide +kernel)
      | intro _ | rfl | dsimp only | split)

/-- What `State.tripBlock` keeps. -/
theorem State.tripBlock_evolves {A : List Part} {s₀ s : State} (h : Evolves A s₀ s) (b : Nat)
    (hA : covers ([Part.power, .reg .BLK_BLKCTL, .reg .RG_RSTAT] ++ raiseParts ++ coastParts) A = true) :
    Evolves A s₀ (s.tripBlock b) := by
  unfold State.tripBlock
  with_reducible repeat (first
      | assumption
      | apply State.updBlk_evolves
      | apply State.put_evolves
      | apply State.coastPick_evolves
      | apply State.abortRamps_evolves
      | (apply covers_trans _ hA; decide +kernel)
      | intro _ | rfl | dsimp only | split)

/-- What `State.driveSoft` keeps. -/
theorem State.driveSoft_evolves {A : List Part} {s₀ s : State} (h : Evolves A s₀ s) (b : Nat) (hA : covers [.power] A = true) :
    Evolves A s₀ (s.driveSoft b) := by
  unfold State.driveSoft
  with_reducible repeat (first
      | assumption
      | apply State.updBlk_evolves
      | (apply covers_trans _ hA; decide +kernel)
      | intro _ | rfl | dsimp only | split)

/-- What `State.softStart` keeps. -/
theorem State.softStart_evolves {A : List Part} {s₀ s : State} (h : Evolves A s₀ s) (b : Nat)
    (hA : covers [.fresh, .timers, .power, .reg .CG_BSTAT] A = true) :
    Evolves A s₀ (s.softStart b) := by
  unfold State.softStart
  with_reducible repeat (first
      | assumption
      | apply State.arm_evolves
      | apply State.bumpSat_evolves
      | apply State.put_evolves
      | apply State.driveSoft_evolves
      | (apply covers_trans _ hA; decide +kernel)
      | intro _ | rfl | dsimp only | split)

/-- What `State.cageRecord` keeps. -/
theorem State.cageRecord_evolves {A : List Part} {s₀ s : State} (h : Evolves A s₀ s) (c : Nat) (kind : Nat) (stamp : Nat)
    (hA : covers seamParts A = true) :
    Evolves A s₀ (s.cageRecord c kind stamp) := by
  unfold State.cageRecord
  with_reducible repeat (first
      | assumption
      | apply State.record_evolves
      | (apply covers_trans _ hA; decide +kernel)
      | intro _ | rfl | dsimp only | split)

/-- What `State.tripSend` keeps. -/
theorem State.tripSend_evolves {A : List Part} {s₀ s : State} (h : Evolves A s₀ s) (k : Nat) (mask : Nat)
    (hA : covers ([Part.uhla] ++ raiseParts) A = true) :
    Evolves A s₀ (s.tripSend k mask) := by
  unfold State.tripSend
  with_reducible repeat (first
      | assumption
      | apply State.raise_evolves
      | apply State.arm_evolves
      | (apply covers_trans _ hA; decide +kernel)
      | intro _ | rfl | dsimp only | split
      | (apply uhla_evolves; first | assumption | apply State.raise_evolves | apply State.arm_evolves | intro _ | rfl | dsimp only | split))

/-- What `State.fmStamp` keeps. -/
theorem State.fmStamp_evolves {A : List Part} {s₀ s : State} (h : Evolves A s₀ s) (hA : covers [.fresh, .reg .FM_FSTAMP] A = true) :
    Evolves A s₀ (s.fmStamp) := by
  unfold State.fmStamp
  with_reducible repeat (first
      | assumption
      | apply State.put_evolves
      | (apply covers_trans _ hA; decide +kernel)
      | intro _ | rfl | dsimp only | split)

/-- What `State.fmOutputs` keeps. -/
theorem State.fmOutputs_evolves {A : List Part} {s₀ s : State} (h : Evolves A s₀ s) (hA : covers [.fm] A = true) :
    Evolves A s₀ (s.fmOutputs) := by
  unfold State.fmOutputs
  with_reducible repeat (first
      | assumption
      | (apply covers_trans _ hA; decide +kernel)
      | intro _ | rfl | dsimp only | split
      | (apply fm_evolves; first | assumption | intro _ | rfl | dsimp only | split))

/-- What `State.dropLive` keeps. -/
theorem State.dropLive_evolves {A : List Part} {s₀ s : State} (h : Evolves A s₀ s) (ks : List Nat) (hA : covers [.fm] A = true) :
    Evolves A s₀ (s.dropLive ks) := by
  unfold State.dropLive
  with_reducible repeat (first
      | assumption
      | (apply covers_trans _ hA; decide +kernel)
      | intro _ | rfl | dsimp only | split
      | (apply fm_evolves; first | assumption | intro _ | rfl | dsimp only | split))

/-- What `State.inhibitMore` keeps. -/
theorem State.inhibitMore_evolves {A : List Part} {s₀ s : State} (h : Evolves A s₀ s) (g : Nat)
    (hA : covers ([Part.reg .BLK_BLKCTL, .reg .RG_RSTAT] ++ raiseParts ++ coastParts ++ gateParts) A = true) :
    Evolves A s₀ (s.inhibitMore g) := by
  unfold State.inhibitMore
  with_reducible repeat (first
      | assumption
      | apply State.regateBlock_evolves
      | apply State.tripBlock_evolves
      | (apply covers_trans _ hA; decide +kernel)
      | intro _ | rfl | dsimp only | split)

/-- What `State.pulseInhibit` keeps. -/
theorem State.pulseInhibit_evolves {A : List Part} {s₀ s : State} (h : Evolves A s₀ s) (g : Nat)
    (hA : covers ([Part.reg .BLK_BLKCTL, .reg .CG_BSTAT, .reg .RG_RSTAT] ++ raiseParts ++ coastParts ++ gateParts) A = true) :
    Evolves A s₀ (s.pulseInhibit g) := by
  unfold State.pulseInhibit
  with_reducible repeat (first
      | assumption
      | apply State.regateBlock_evolves
      | apply State.tripBlock_evolves
      | apply State.softStart_evolves
      | (apply covers_trans _ hA; decide +kernel)
      | intro _ | rfl | dsimp only | split)

/-- What `State.demand` keeps. -/
theorem State.demand_evolves {A : List Part} {s₀ s : State} (h : Evolves A s₀ s) (k : Nat) (hA : covers [.fm] A = true) :
    Evolves A s₀ (s.demand k) := by
  unfold State.demand
  with_reducible repeat (first
      | assumption
      | (apply covers_trans _ hA; decide +kernel)
      | intro _ | rfl | dsimp only | split
      | (apply fm_evolves; first | assumption | intro _ | rfl | dsimp only | split))

/-- What `State.sf2Latch` keeps. -/
theorem State.sf2Latch_evolves {A : List Part} {s₀ s : State} (h : Evolves A s₀ s) (g : Nat) (hA : covers sf2Parts A = true) :
    Evolves A s₀ (s.sf2Latch g) := by
  unfold State.sf2Latch
  with_reducible repeat (first
      | assumption
      | apply State.demand_evolves
      | apply State.inhibitMore_evolves
      | apply State.tripSend_evolves
      | apply State.raise_evolves
      | apply State.orPut_evolves
      | apply State.fmStamp_evolves
      | apply State.pulseInhibit_evolves
      | (apply covers_trans _ hA; decide +kernel)
      | intro _ | rfl | dsimp only | split)

/-- What `State.sf2LatchMask` keeps. -/
theorem State.sf2LatchMask_evolves {A : List Part} {s₀ s : State} (h : Evolves A s₀ s) (mask : Nat) (hA : covers sf2Parts A = true) :
    Evolves A s₀ (s.sf2LatchMask mask) := by
  unfold State.sf2LatchMask
  with_reducible repeat (first
      | assumption
      | apply State.each_evolves
      | apply State.sf2Latch_evolves
      | (apply covers_trans _ hA; decide +kernel)
      | intro _ | rfl | dsimp only | split)

/-- What `State.sf2Drift` keeps. -/
theorem State.sf2Drift_evolves {A : List Part} {s₀ s : State} (h : Evolves A s₀ s) (before : State)
    (hA : covers ([Part.reg .BLK_BLKCTL, .reg .CG_BSTAT, .reg .RG_RSTAT] ++ raiseParts ++ coastParts ++ gateParts) A = true) :
    Evolves A s₀ (s.sf2Drift before) := by
  unfold State.sf2Drift
  with_reducible repeat (first
      | assumption
      | apply State.each_evolves
      | apply State.pulseInhibit_evolves
      | apply State.inhibitMore_evolves
      | apply State.regateBlock_evolves
      | (apply covers_trans _ hA; decide +kernel)
      | intro _ | rfl | dsimp only | split)

/-- What `State.sf1Inhibit` keeps. -/
theorem State.sf1Inhibit_evolves {A : List Part} {s₀ s : State} (h : Evolves A s₀ s) (hA : covers sf2Parts A = true) :
    Evolves A s₀ (s.sf1Inhibit) := by
  unfold State.sf1Inhibit
  with_reducible repeat (first
      | assumption
      | apply State.sf2LatchMask_evolves
      | (apply covers_trans _ hA; decide +kernel)
      | intro _ | rfl | dsimp only | split)

/-- What `State.sf1Latch` keeps. -/
theorem State.sf1Latch_evolves {A : List Part} {s₀ s : State} (h : Evolves A s₀ s) (hA : covers sf2Parts A = true) :
    Evolves A s₀ (s.sf1Latch) := by
  unfold State.sf1Latch
  with_reducible repeat (first
      | assumption
      | apply State.demand_evolves
      | apply State.raise_evolves
      | apply State.put_evolves
      | apply State.fmStamp_evolves
      | apply State.sf1Inhibit_evolves
      | apply State.fmOutputs_evolves
      | apply State.dropLive_evolves
      | (apply covers_trans _ hA; decide +kernel)
      | intro _ | rfl | dsimp only | split)

/-- What `State.brakeTestStop` keeps. -/
theorem State.brakeTestStop_evolves {A : List Part} {s₀ s : State} (h : Evolves A s₀ s) (n : Nat)
    (hA : covers ([Part.reg .FM_BTEST] ++ raiseParts) A = true) :
    Evolves A s₀ (s.brakeTestStop n) := by
  unfold State.brakeTestStop
  with_reducible repeat (first
      | assumption
      | apply State.raise_evolves
      | apply State.disarm_evolves
      | apply State.put_evolves
      | (apply covers_trans _ hA; decide +kernel)
      | intro _ | rfl | dsimp only | split)

/-- What `State.sf3Latch` keeps. -/
theorem State.sf3Latch_evolves {A : List Part} {s₀ s : State} (h : Evolves A s₀ s) (n : Nat)
    (hA : covers ([Part.fm, .reg .FM_FSTAT, .reg .FM_FSTAMP, .reg .FM_BTEST] ++ raiseParts) A = true) :
    Evolves A s₀ (s.sf3Latch n) := by
  unfold State.sf3Latch
  with_reducible repeat (first
      | assumption
      | apply State.demand_evolves
      | apply State.raise_evolves
      | apply State.orPut_evolves
      | apply State.fmStamp_evolves
      | apply State.fmOutputs_evolves
      | apply State.dropLive_evolves
      | apply State.brakeTestStop_evolves
      | (apply covers_trans _ hA; decide +kernel)
      | intro _ | rfl | dsimp only | split)

/-- What `State.faultLine` keeps. -/
theorem State.faultLine_evolves {A : List Part} {s₀ s : State} (h : Evolves A s₀ s)
    (hA : covers [.fresh, .fm, .reg .DR_DSTAT, .reg .FM_FSTAT] A = true) :
    Evolves A s₀ (s.faultLine) := by
  unfold State.faultLine
  with_reducible repeat (first
      | assumption
      | apply State.put_evolves
      | (apply covers_trans _ hA; decide +kernel)
      | intro _ | rfl | dsimp only | split
      | (apply fm_evolves; first | assumption | apply State.put_evolves | intro _ | rfl | dsimp only | split))

/-- What `State.noteOn` keeps. -/
theorem State.noteOn_evolves {A : List Part} {s₀ s : State} (h : Evolves A s₀ s) (b : Nat) (hA : covers [.power] A = true) :
    Evolves A s₀ (s.noteOn b) := by
  unfold State.noteOn
  with_reducible repeat (first
      | assumption
      | apply State.each_evolves
      | apply State.updChan_evolves
      | (apply covers_trans _ hA; decide +kernel)
      | intro _ | rfl | dsimp only | split)

/-- What `State.turnoffStart` keeps. -/
theorem State.turnoffStart_evolves {A : List Part} {s₀ s : State} (h : Evolves A s₀ s) (b : Nat) (c : Nat)
    (hA : covers ([Part.reg .CG_CGSTAT, .reg .FM_FCAUSE] ++ sf2Parts ++ seamParts) A = true) :
    Evolves A s₀ (s.turnoffStart b c) := by
  unfold State.turnoffStart
  with_reducible repeat (first
      | assumption
      | apply State.noteOn_evolves
      | apply State.put_evolves
      | apply State.cageRecord_evolves
      | apply State.softStart_evolves
      | apply State.tripSend_evolves
      | apply State.raise_evolves
      | apply State.updBlk_evolves
      | apply State.tripBlock_evolves
      | apply State.regateBlock_evolves
      | apply State.sf2LatchMask_evolves
      | (apply covers_trans _ hA; decide +kernel)
      | intro _ | rfl | dsimp only | split)

/-- What `State.followTurnoff` keeps. -/
theorem State.followTurnoff_evolves {A : List Part} {s₀ s : State} (h : Evolves A s₀ s) (b : Nat)
    (hA : covers ([Part.reg .CG_CGSTAT, .reg .FM_FCAUSE] ++ sf2Parts ++ seamParts) A = true) :
    Evolves A s₀ (s.followTurnoff b) := by
  unfold State.followTurnoff
  with_reducible repeat (first
      | assumption
      | apply State.turnoffStart_evolves
      | apply State.regateBlock_evolves
      | apply State.put_evolves
      | (apply covers_trans _ hA; decide +kernel)
      | intro _ | rfl | dsimp only | split)

/-- What `State.portLatch` keeps. -/
theorem State.portLatch_evolves {A : List Part} {s₀ s : State} (h : Evolves A s₀ s) (c : Nat) (k : Nat)
    (hA : covers [.fresh, .power, .reg .CG_PSTAT] A = true) :
    Evolves A s₀ (s.portLatch c k) := by
  unfold State.portLatch
  with_reducible repeat (first
      | assumption
      | apply State.updChan_evolves
      | apply State.put_evolves
      | (apply covers_trans _ hA; first | decide +kernel | (simp only [portLatches_reg]; decide +kernel))
      | intro _ | rfl | dsimp only | split)

/-- What `State.clearAttempt` keeps. -/
theorem State.clearAttempt_evolves {A : List Part} {s₀ s : State} (h : Evolves A s₀ s) (c : Nat) (edge : Bool)
    (hA : covers ([Part.reg .CG_CGSTAT, .reg .FM_FCAUSE] ++ sf2Parts ++ seamParts) A = true) :
    Evolves A s₀ (s.clearAttempt c edge) := by
  unfold State.clearAttempt
  with_reducible repeat (first
      | assumption
      | apply State.each_evolves
      | apply State.put_evolves
      | apply State.regateBlock_evolves
      | apply State.followTurnoff_evolves
      | apply State.regate_evolves
      | (apply covers_trans _ hA; first | decide +kernel | (simp only [portLatches_reg]; decide +kernel))
      | intro _ | rfl | dsimp only | split)

/-! ### Machine/Pwm -/

/-- What `State.showCmp` keeps. -/
theorem State.showCmp_evolves {A : List Part} {s₀ s : State} (h : Evolves A s₀ s) (c : Nat) (hA : covers [.fresh, .reg .PW_ACTCMP] A = true) :
    Evolves A s₀ (s.showCmp c) := by
  unfold State.showCmp
  with_reducible repeat (first
      | assumption
      | apply State.put_evolves
      | (apply covers_trans _ hA; decide +kernel)
      | intro _ | rfl | dsimp only | split)

/-- What `State.advanceToInstant` keeps. -/
theorem State.advanceToInstant_evolves {A : List Part} {s₀ s : State} (h : Evolves A s₀ s) (t : Nat)
    (hA : covers [.fresh, .now, .head, .plan, .drift, .reg .HF_TURN, .reg .SP_REMAIN0] A = true) :
    Evolves A s₀ (s.advanceToInstant t) := by
  unfold State.advanceToInstant
  with_reducible repeat (first
      | assumption
      | apply State.advanceTo_evolves
      | (apply covers_trans _ hA; decide +kernel)
      | intro _ | rfl | dsimp only | split)

/-- What `State.tryOn` keeps. -/
theorem State.tryOn_evolves {A : List Part} {s₀ s : State} (h : Evolves A s₀ s) (c : Nat) (hi : Bool) (t : Nat)
    (hA : covers [.fresh, .timers, .power, .reg .CG_PSTAT] A = true) :
    Evolves A s₀ (s.tryOn c hi t) := by
  unfold State.tryOn
  with_reducible repeat (first
      | assumption
      | apply State.disarm_evolves
      | apply State.setPin_evolves
      | apply State.updOut_evolves
      | apply State.unwait_evolves
      | (apply covers_trans _ hA; decide +kernel)
      | intro _ | rfl | dsimp only | split
      | (apply timers_evolves; first | assumption | apply State.disarm_evolves | apply State.setPin_evolves | apply State.updOut_evolves | apply State.unwait_evolves | intro _ | rfl | dsimp only | split))

/-- What `State.cmdOff` keeps. -/
theorem State.cmdOff_evolves {A : List Part} {s₀ s : State} (h : Evolves A s₀ s) (c : Nat) (hi : Bool) (t : Nat) (hA : covers gateParts A = true) :
    Evolves A s₀ (s.cmdOff c hi t) := by
  unfold State.cmdOff
  with_reducible repeat (first
      | assumption
      | apply State.put_evolves
      | apply State.unwait_evolves
      | apply State.updOut_evolves
      | apply State.setPin_evolves
      | (apply covers_trans _ hA; decide +kernel)
      | intro _ | rfl | dsimp only | split)

/-- What `State.cmdOn` keeps. -/
theorem State.cmdOn_evolves {A : List Part} {s₀ s : State} (h : Evolves A s₀ s) (c : Nat) (hi : Bool) (t : Nat)
    (hA : covers [.fresh, .timers, .power, .reg .CG_PSTAT] A = true) :
    Evolves A s₀ (s.cmdOn c hi t) := by
  unfold State.cmdOn
  with_reducible repeat (first
      | assumption
      | apply State.updOut_evolves
      | apply State.tryOn_evolves
      | (apply covers_trans _ hA; decide +kernel)
      | intro _ | rfl | dsimp only | split)

/-- What `State.emit` keeps. -/
theorem State.emit_evolves {A : List Part} {s₀ s : State} (h : Evolves A s₀ s) (c : Nat) (t₀ : Nat) (hA : covers gateParts A = true) :
    Evolves A s₀ (s.emit c t₀) := by
  unfold State.emit
  with_reducible repeat (first
      | assumption
      | apply State.cmdOff_evolves
      | apply State.cmdOn_evolves
      | (apply covers_trans _ hA; decide +kernel)
      | intro _ | rfl | dsimp only | split)

/-- What `State.mEdge` keeps. -/
theorem State.mEdge_evolves {A : List Part} {s₀ s : State} (h : Evolves A s₀ s) (c : Nat) (t : Nat) (v : Bool)
    (hA : covers ([Part.reg .CG_CGSTAT, .reg .FM_FCAUSE] ++ sf2Parts ++ seamParts) A = true) :
    Evolves A s₀ (s.mEdge c t v) := by
  unfold State.mEdge
  with_reducible repeat (first
      | assumption
      | apply State.updChan_evolves
      | apply State.emit_evolves
      | apply State.clearAttempt_evolves
      | (apply covers_trans _ hA; decide +kernel)
      | intro _ | rfl | dsimp only | split)

/-- What `execModulationEdge` keeps. -/
theorem execModulationEdge_evolves {A : List Part} {s₀ s : State} (h : Evolves A s₀ s) (c : Cell)
    (hA : covers ([Part.now, .reg .HF_TURN, .reg .CG_CGSTAT, .reg .FM_FCAUSE] ++ sf2Parts ++ seamParts) A = true) :
    ∃ u, execModulationEdge c s = .next u ∧ Evolves A s₀ u := by
  unfold execModulationEdge
  refine ⟨_, rfl, ?_⟩
  with_reducible repeat (first
      | assumption
      | apply State.mEdge_evolves
      | apply State.advanceToInstant_evolves
      | (apply covers_trans _ hA; decide +kernel)
      | intro _ | rfl | dsimp only | split)

/-- What `execTurnOnDelayEnd` keeps. -/
theorem execTurnOnDelayEnd_evolves {A : List Part} {s₀ s : State} (h : Evolves A s₀ s) (c : Cell) (hi : Bool)
    (hA : covers ([Part.power, .reg .CG_PSTAT] ++ onTimerParts) A = true) :
    ∃ u, execTurnOnDelayEnd c hi s = .next u ∧ Evolves A s₀ u := by
  unfold execTurnOnDelayEnd
  refine ⟨_, rfl, ?_⟩
  with_reducible repeat (first
      | assumption
      | apply State.onTimer_evolves
      | apply State.tryOn_evolves
      | (apply covers_trans _ hA; decide +kernel)
      | intro _ | rfl | dsimp only | split)

/-- What `State.clearWritten` keeps. -/
theorem State.clearWritten_evolves {A : List Part} {s₀ s : State} (h : Evolves A s₀ s) (g : Nat) (hA : covers [.power] A = true) :
    Evolves A s₀ (s.clearWritten g) := by
  unfold State.clearWritten
  with_reducible repeat (first
      | assumption
      | apply State.each_evolves
      | apply State.updChan_evolves
      | (apply covers_trans _ hA; decide +kernel)
      | intro _ | rfl | dsimp only | split)

/-- What `State.applyChan` keeps. -/
theorem State.applyChan_evolves {A : List Part} {s₀ s : State} (h : Evolves A s₀ s) (g : Nat) (oldPrd : Nat) (k : ChanSet)
    (hA : covers [.fresh, .power, .reg .PW_ACTCMP, .reg .PW_CHSTAT] A = true) :
    Evolves A s₀ (s.applyChan g oldPrd k) := by
  unfold State.applyChan
  with_reducible repeat (first
      | assumption
      | apply State.updChan_evolves
      | apply State.put_evolves
      | apply State.showCmp_evolves
      | (apply covers_trans _ hA; decide +kernel)
      | intro _ | rfl | dsimp only | split)

/-- What `State.applySet` keeps. -/
theorem State.applySet_evolves {A : List Part} {s₀ s : State} (h : Evolves A s₀ s) (g : Nat) (u : UpdateSet)
    (hA : covers [.fresh, .power, .reg .PW_GRPACT, .reg .PW_ACTCMP, .reg .PW_CHSTAT] A = true) :
    Evolves A s₀ (s.applySet g u) := by
  unfold State.applySet
  with_reducible repeat (first
      | assumption
      | apply State.put_evolves
      | apply State.updGrp_evolves
      | apply State.each_evolves
      | apply State.applyChan_evolves
      | (apply covers_trans _ hA; decide +kernel)
      | intro _ | rfl | dsimp only | split)

/-- What `State.commitSet` keeps. -/
theorem State.commitSet_evolves {A : List Part} {s₀ s : State} (h : Evolves A s₀ s) (g : Nat)
    (hA : covers [.fresh, .power, .reg .PW_GRPCOMMIT] A = true) :
    Evolves A s₀ (s.commitSet g) := by
  unfold State.commitSet
  with_reducible repeat (first
      | assumption
      | apply State.put_evolves
      | apply State.clearWritten_evolves
      | apply State.updGrp_evolves
      | (apply covers_trans _ hA; decide +kernel)
      | intro _ | rfl | dsimp only | split)

/-- What `State.grpcommitWrite` keeps. -/
theorem State.grpcommitWrite_evolves {A : List Part} {s₀ s : State} (h : Evolves A s₀ s) (g : Nat) (v : Word)
    (hA : covers [.fresh, .power, .reg .PW_GRPCOMMIT] A = true) :
    Evolves A s₀ (s.grpcommitWrite g v) := by
  unfold State.grpcommitWrite
  with_reducible repeat (first
      | assumption
      | apply State.put_evolves
      | apply State.regWrite_evolves
      | apply State.commitSet_evolves
      | (apply covers_trans _ hA; decide +kernel)
      | intro _ | rfl | dsimp only | split)

/-- What `State.carrierStop` keeps. -/
theorem State.carrierStop_evolves {A : List Part} {s₀ s : State} (h : Evolves A s₀ s) (g : Nat)
    (hA : covers [.fresh, .power, .reg .PW_GRPSTAT] A = true) :
    Evolves A s₀ (s.carrierStop g) := by
  unfold State.carrierStop
  with_reducible repeat (first
      | assumption
      | apply State.updGrp_evolves
      | apply State.put_evolves
      | (apply covers_trans _ hA; decide +kernel)
      | intro _ | rfl | dsimp only | split)

/-- What `State.carrierEnable` keeps. -/
theorem State.carrierEnable_evolves {A : List Part} {s₀ s : State} (h : Evolves A s₀ s) (g : Nat)
    (hA : covers [.fresh, .power, .reg .PW_GRPCOMMIT, .reg .PW_GRPSTAT, .reg .PW_GRPACT, .reg .PW_ACTCMP, .reg .PW_CHSTAT] A = true) :
    Evolves A s₀ (s.carrierEnable g) := by
  unfold State.carrierEnable
  with_reducible repeat (first
      | assumption
      | apply State.put_evolves
      | apply State.clearWritten_evolves
      | apply State.applySet_evolves
      | apply State.updGrp_evolves
      | (apply covers_trans _ hA; decide +kernel)
      | intro _ | rfl | dsimp only | split)

/-- What `State.autocDrop` keeps. -/
theorem State.autocDrop_evolves {A : List Part} {s₀ s : State} (h : Evolves A s₀ s) (g : Nat)
    (hA : covers [.fresh, .power, .reg .PW_GRPCOMMIT] A = true) :
    Evolves A s₀ (s.autocDrop g) := by
  unfold State.autocDrop
  with_reducible repeat (first
      | assumption
      | apply State.put_evolves
      | apply State.updGrp_evolves
      | (apply covers_trans _ hA; decide +kernel)
      | intro _ | rfl | dsimp only | split)

/-- What `State.grpctlWrite` keeps. -/
theorem State.grpctlWrite_evolves {A : List Part} {s₀ s : State} (h : Evolves A s₀ s) (g : Nat) (v : Word)
    (hA : covers [.fresh, .power, .reg .PW_GRPCTL, .reg .PW_GRPCOMMIT, .reg .PW_GRPSTAT, .reg .PW_GRPACT, .reg .PW_ACTCMP,
      .reg .PW_CHSTAT] A = true) :
    Evolves A s₀ (s.grpctlWrite g v) := by
  unfold State.grpctlWrite
  with_reducible repeat (first
      | assumption
      | apply State.put_evolves
      | apply State.autocDrop_evolves
      | apply State.regWrite_evolves
      | apply State.each_evolves
      | apply State.showCmp_evolves
      | apply State.carrierEnable_evolves
      | apply State.carrierStop_evolves
      | (apply covers_trans _ hA; decide +kernel)
      | intro _ | rfl | dsimp only | split)

/-- What `State.setDuty` keeps. -/
theorem State.setDuty_evolves {A : List Part} {s₀ s : State} (h : Evolves A s₀ s) (c : Nat) (v : Word)
    (hA : covers [.fresh, .power, .reg .PW_DUTY, .reg .PW_ACTCMP] A = true) :
    Evolves A s₀ (s.setDuty c v) := by
  unfold State.setDuty
  with_reducible repeat (first
      | assumption
      | apply State.updChan_evolves
      | apply State.put_evolves
      | apply State.showCmp_evolves
      | (apply covers_trans _ hA; decide +kernel)
      | intro _ | rfl | dsimp only | split)

/-- What `State.deliverDuty` keeps. -/
theorem State.deliverDuty_evolves {A : List Part} {s₀ s : State} (h : Evolves A s₀ s) (c : Nat) (absolute : Bool) (v : Word)
    (hA : covers [.fresh, .power, .reg .PW_DUTY, .reg .PW_ACTCMP, .reg .PW_CHSTAT] A = true) :
    Evolves A s₀ (s.deliverDuty c absolute v) := by
  unfold State.deliverDuty
  with_reducible repeat (first
      | assumption
      | apply State.setDuty_evolves
      | apply State.put_evolves
      | (apply covers_trans _ hA; decide +kernel)
      | intro _ | rfl | dsimp only | split)

/-- What `State.chctlPwmWrite` keeps. -/
theorem State.chctlPwmWrite_evolves {A : List Part} {s₀ s : State} (h : Evolves A s₀ s) (c : Nat) (v : Word)
    (hA : covers [.fresh, .reg .PW_CHCTL, .reg .PW_DUTY, .reg .PW_ACTCMP, .reg .PW_CHSTAT] A = true) :
    Evolves A s₀ (s.chctlPwmWrite c v) := by
  unfold State.chctlPwmWrite
  with_reducible repeat (first
      | assumption
      | apply State.condWrite_evolves
      | apply State.put_evolves
      | apply State.showCmp_evolves
      | (apply covers_trans _ hA; decide +kernel)
      | intro _ | rfl | dsimp only | split)

/-- What `State.ovrWrite` keeps. -/
theorem State.ovrWrite_evolves {A : List Part} {s₀ s : State} (h : Evolves A s₀ s) (c : Nat) (v : Word)
    (hA : covers ([Part.reg .PW_OVR] ++ onTimerParts ++ gateParts) A = true) :
    Evolves A s₀ (s.ovrWrite c v) := by
  unfold State.ovrWrite
  with_reducible repeat (first
      | assumption
      | apply State.put_evolves
      | apply State.regWrite_evolves
      | apply State.updChan_evolves
      | apply State.advance_evolves
      | apply State.emit_evolves
      | (apply covers_trans _ hA; decide +kernel)
      | intro _ | rfl | dsimp only | split)

/-- What `State.safeWrite` keeps. -/
theorem State.safeWrite_evolves {A : List Part} {s₀ s : State} (h : Evolves A s₀ s) (c : Nat) (v : Word)
    (hA : covers ([Part.reg .PW_SAFE] ++ gateParts) A = true) :
    Evolves A s₀ (s.safeWrite c v) := by
  unfold State.safeWrite
  with_reducible repeat (first
      | assumption
      | apply State.condWrite_evolves
      | apply State.put_evolves
      | apply State.regate_evolves
      | apply State.updChan_evolves
      | (apply covers_trans _ hA; decide +kernel)
      | intro _ | rfl | dsimp only | split)

/-- What `execPwmclkLost` keeps. -/
theorem execPwmclkLost_evolves {A : List Part} {s₀ s : State} (h : Evolves A s₀ s) (hA : covers ([Part.reg .PW_GATESTAT] ++ gateParts) A = true) :
    ∃ u, execPwmclkLost s = .next u ∧ Evolves A s₀ u := by
  unfold execPwmclkLost
  refine ⟨_, rfl, ?_⟩
  with_reducible repeat (first
      | assumption
      | apply State.regateAll_evolves
      | apply State.put_evolves
      | (apply covers_trans _ hA; decide +kernel)
      | intro _ | rfl | dsimp only | split)

/-- What `State.gatestatWrite` keeps. -/
theorem State.gatestatWrite_evolves {A : List Part} {s₀ s : State} (h : Evolves A s₀ s) (v : Word)
    (hA : covers ([Part.reg .PW_GATESTAT] ++ gateParts) A = true) :
    Evolves A s₀ (s.gatestatWrite v) := by
  unfold State.gatestatWrite
  with_reducible repeat (first
      | assumption
      | apply State.regateAll_evolves
      | apply State.regWrite_evolves
      | (apply covers_trans _ hA; decide +kernel)
      | intro _ | rfl | dsimp only | split)

/-! ### Machine/Drift -/

/-- What `State.spareMap` keeps. -/
theorem State.spareMap_evolves {A : List Part} {s₀ s : State} (h : Evolves A s₀ s) (hA : covers [.fresh, .reg .DR_DSTAT] A = true) :
    Evolves A s₀ (s.spareMap) := by
  unfold State.spareMap
  with_reducible repeat (first
      | assumption
      | apply State.put_evolves
      | (apply covers_trans _ hA; decide +kernel)
      | intro _ | rfl | dsimp only | split)

/-- What `State.wdtStart` keeps. -/
theorem State.wdtStart_evolves {A : List Part} {s₀ s : State} (h : Evolves A s₀ s) (n : Nat) (hA : covers [.timers] A = true) :
    Evolves A s₀ (s.wdtStart n) := by
  unfold State.wdtStart
  with_reducible repeat (first
      | assumption
      | apply State.arm_evolves
      | (apply covers_trans _ hA; decide +kernel)
      | intro _ | rfl | dsimp only | split)

/-- What `State.wdtFollow` keeps. -/
theorem State.wdtFollow_evolves {A : List Part} {s₀ s : State} (h : Evolves A s₀ s) (n : Nat) (hA : covers [.timers] A = true) :
    Evolves A s₀ (s.wdtFollow n) := by
  unfold State.wdtFollow
  with_reducible repeat (first
      | assumption
      | apply State.wdtStart_evolves
      | apply State.disarm_evolves
      | (apply covers_trans _ hA; decide +kernel)
      | intro _ | rfl | dsimp only | split)

/-- What `State.setPst` keeps. -/
theorem State.setPst_evolves {A : List Part} {s₀ s : State} (h : Evolves A s₀ s) (n : Nat) (st : Nat)
    (hA : covers [.fresh, .timers, .fm, .reg .DR_DSTAT, .reg .DR_PSTATE, .reg .FM_FSTAT] A = true) :
    Evolves A s₀ (s.setPst n st) := by
  unfold State.setPst
  with_reducible repeat (first
      | assumption
      | apply State.wdtFollow_evolves
      | apply State.faultLine_evolves
      | apply State.spareMap_evolves
      | apply State.put_evolves
      | (apply covers_trans _ hA; decide +kernel)
      | intro _ | rfl | dsimp only | split)

/-- What `State.cycles` keeps. -/
theorem State.cycles_evolves {A : List Part} {s₀ s : State} (h : Evolves A s₀ s) (n : Nat) (k : Nat) (cyc : Nat) (hA : covers chargeParts A = true) :
    Evolves A s₀ (s.cycles n k cyc) := by
  unfold State.cycles
  with_reducible repeat (first
      | assumption
      | apply State.updCore_evolves
      | apply State.charge_evolves
      | (apply covers_trans _ hA; decide +kernel)
      | intro _ | rfl | dsimp only | split)

/-- What `State.illegal` keeps. -/
theorem State.illegal_evolves {A : List Part} {s₀ s : State} (h : Evolves A s₀ s) (n : Nat) (k : Nat) (w : Word) (hA : covers [.drift] A = true) :
    Evolves A s₀ (s.illegal n k w) := by
  unfold State.illegal
  with_reducible repeat (first
      | assumption
      | apply State.takeTrap_evolves
      | (apply covers_trans _ hA; decide +kernel)
      | intro _ | rfl | dsimp only | split)

/-- What `State.custom` keeps. -/
theorem State.custom_evolves {A : List Part} {s₀ s : State} (h : Evolves A s₀ s) (n : Nat) (k : Nat) (w : Word) (f3 : Nat) (legal : Bool) (f : State → State) (hf : ∀ x0, Evolves A s₀ x0 → Evolves A s₀ (f x0))
    (hA : covers [.drift] A = true) :
    Evolves A s₀ (s.custom n k w f3 legal f) := by
  unfold State.custom
  with_reducible repeat (first
      | assumption
      | apply hf
      | apply State.illegal_evolves
      | (apply covers_trans _ hA; decide +kernel)
      | intro _ | rfl | dsimp only | split)

/-- What `State.xang` keeps. -/
theorem State.xang_evolves {A : List Part} {s₀ s : State} (h : Evolves A s₀ s) (n : Nat) (d : Nat) (sel : Nat) (hA : covers [.drift] A = true) :
    Evolves A s₀ (s.xang n d sel).2 := by
  unfold State.xang
  with_reducible repeat (first
      | assumption
      | apply State.updPair_evolves
      | (apply covers_trans _ hA; decide +kernel)
      | intro _ | rfl | dsimp only | split)

/-- What `execXang` keeps. -/
theorem execXang_evolves {A : List Part} {s₀ s : State} (h : Evolves A s₀ s) (n : Pair) (k : Fin 2) (w : Word) (hA : covers chargeParts A = true) :
    ∃ u, execXang n k w s = .next u ∧ Evolves A s₀ u := by
  unfold execXang
  refine ⟨_, rfl, ?_⟩
  with_reducible repeat (first
      | assumption
      | apply State.custom_evolves
      | apply State.xang_evolves
      | apply State.updCore_evolves
      | apply State.cycles_evolves
      | apply State.retire_evolves
      | apply State.ingress_evolves
      | (apply covers_trans _ hA; decide +kernel)
      | intro _ | rfl | dsimp only | split)

/-- What `execXyld` keeps. -/
theorem execXyld_evolves {A : List Part} {s₀ s : State} (h : Evolves A s₀ s) (n : Pair) (k : Fin 2) (w : Word) (hA : covers chargeParts A = true) :
    ∃ u, execXyld n k w s = .next u ∧ Evolves A s₀ u := by
  unfold execXyld
  refine ⟨_, rfl, ?_⟩
  with_reducible repeat (first
      | assumption
      | apply State.custom_evolves
      | apply State.updCore_evolves
      | apply State.retire_evolves
      | apply State.stopSpentPair_evolves
      | apply State.charge_evolves
      | apply State.cycles_evolves
      | (apply covers_trans _ hA; decide +kernel)
      | intro _ | rfl | dsimp only | split)

/-- What `State.passMissed` keeps. -/
theorem State.passMissed_evolves {A : List Part} {s₀ s : State} (h : Evolves A s₀ s) (n : Nat)
    (hA : covers [.fresh, .drift, .reg .DR_PLOG] A = true) :
    Evolves A s₀ (s.passMissed n) := by
  unfold State.passMissed
  with_reducible repeat (first
      | assumption
      | apply State.coreIrq_evolves
      | apply State.endWait_evolves
      | apply State.updPair_evolves
      | (apply covers_trans _ hA; decide +kernel)
      | intro _ | rfl | dsimp only | split)

/-- What `execXfwt` keeps. -/
theorem execXfwt_evolves {A : List Part} {s₀ s : State} (h : Evolves A s₀ s) (n : Pair) (k : Fin 2) (w : Word) (hA : covers chargeParts A = true) :
    ∃ u, execXfwt n k w s = .next u ∧ Evolves A s₀ u := by
  unfold execXfwt
  refine ⟨_, rfl, ?_⟩
  with_reducible repeat (first
      | assumption
      | apply State.custom_evolves
      | apply State.updCore_evolves
      | apply State.cycles_evolves
      | apply State.passMissed_evolves
      | apply State.coreIrq_evolves
      | apply State.each_evolves
      | apply State.lineFollow_evolves
      | (apply covers_trans _ hA; decide +kernel)
      | intro _ | rfl | dsimp only | split)

/-- What `execIcpar` keeps. -/
theorem execIcpar_evolves {A : List Part} {s₀ s : State} (h : Evolves A s₀ s) (n : Pair) (hA : covers [.fresh, .reg .DR_PCOUNT] A = true) :
    ∃ u, execIcpar n s = .next u ∧ Evolves A s₀ u := by
  unfold execIcpar
  refine ⟨_, rfl, ?_⟩
  with_reducible repeat (first
      | assumption
      | apply State.bumpSat_evolves
      | (apply covers_trans _ hA; decide +kernel)
      | intro _ | rfl | dsimp only | split)

/-- What `State.beginCheckpoint` keeps. -/
theorem State.beginCheckpoint_evolves {A : List Part} {s₀ s : State} (h : Evolves A s₀ s) (n : Nat) (atFrame : Bool) (hA : covers [.drift] A = true) :
    Evolves A s₀ (s.beginCheckpoint n atFrame) := by
  unfold State.beginCheckpoint
  with_reducible repeat (first
      | assumption
      | apply State.updPair_evolves
      | (apply covers_trans _ hA; decide +kernel)
      | intro _ | rfl | dsimp only | split)

/-- What `execCheckpoint` keeps. -/
theorem execCheckpoint_evolves {A : List Part} {s₀ s : State} (h : Evolves A s₀ s) (n : Pair) (hA : covers onTimerParts A = true) :
    ∃ u, execCheckpoint n s = .next u ∧ Evolves A s₀ u := by
  unfold execCheckpoint
  refine ⟨_, rfl, ?_⟩
  with_reducible repeat (first
      | assumption
      | apply State.beginCheckpoint_evolves
      | apply State.onTimer_evolves
      | (apply covers_trans _ hA; decide +kernel)
      | intro _ | rfl | dsimp only | split)

/-- What `State.checkpointed` keeps. -/
theorem State.checkpointed_evolves {A : List Part} {s₀ s : State} (h : Evolves A s₀ s) (n : Nat)
    (hA : covers [.fresh, .timers, .drift, .reg .DR_PSTATE, .reg .DR_PLOG] A = true) :
    Evolves A s₀ (s.checkpointed n) := by
  unfold State.checkpointed
  with_reducible repeat (first
      | assumption
      | apply State.updPair_evolves
      | apply State.coreIrq_evolves
      | apply State.arm_evolves
      | apply State.put_evolves
      | (apply covers_trans _ hA; decide +kernel)
      | intro _ | rfl | dsimp only | split)

/-- What `execCheckpointComplete` keeps. -/
theorem execCheckpointComplete_evolves {A : List Part} {s₀ s : State} (h : Evolves A s₀ s) (n : Pair) (cyc : Fin 301)
    (hA : covers ([Part.reg .DR_PSTATE] ++ chargeParts) A = true) :
    ∃ u, execCheckpointComplete n cyc s = .next u ∧ Evolves A s₀ u := by
  unfold execCheckpointComplete
  refine ⟨_, rfl, ?_⟩
  with_reducible repeat (first
      | assumption
      | apply State.charge_evolves
      | apply State.checkpointed_evolves
      | (apply covers_trans _ hA; decide +kernel)
      | intro _ | rfl | dsimp only | split)

/-- What `State.journalLine` keeps. -/
theorem State.journalLine_evolves {A : List Part} {s₀ s : State} (h : Evolves A s₀ s) (n : Nat) (a : Nat)
    (hA : covers ([Part.mem] ++ chargeParts) A = true) :
    Evolves A s₀ (s.journalLine n a) := by
  unfold State.journalLine
  with_reducible repeat (first
      | assumption
      | apply State.updPair_evolves
      | apply State.setBytes_evolves
      | apply State.charge_evolves
      | apply State.put_evolves
      | (apply covers_trans _ hA; decide +kernel)
      | intro _ | rfl | dsimp only | split)

/-- What `execJournalEntry` keeps. -/
theorem execJournalEntry_evolves {A : List Part} {s₀ s : State} (h : Evolves A s₀ s) (n : Pair) (a : Word)
    (hA : covers ([Part.mem] ++ chargeParts) A = true) :
    ∃ u, execJournalEntry n a s = .next u ∧ Evolves A s₀ u := by
  unfold execJournalEntry
  refine ⟨_, rfl, ?_⟩
  with_reducible repeat (first
      | assumption
      | apply State.journalLine_evolves
      | (apply covers_trans _ hA; decide +kernel)
      | intro _ | rfl | dsimp only | split)

/-- What `State.countEgress` keeps. -/
theorem State.countEgress_evolves {A : List Part} {s₀ s : State} (h : Evolves A s₀ s) (n : Nat) (a : Nat) (b : List Byte)
    (hA : covers [.drift] A = true) :
    Evolves A s₀ (s.countEgress n a b) := by
  unfold State.countEgress
  with_reducible repeat (first
      | assumption
      | apply State.updPair_evolves
      | (apply covers_trans _ hA; decide +kernel)
      | intro _ | rfl | dsimp only | split)

/-- What `State.copyWindow` keeps. -/
theorem State.copyWindow_evolves {A : List Part} {s₀ s : State} (h : Evolves A s₀ s) (src : Nat) (dst : Nat) (len : Nat)
    (hA : covers [.mem] A = true) :
    Evolves A s₀ (s.copyWindow src dst len) := by
  unfold State.copyWindow
  with_reducible repeat (first
      | assumption
      | apply State.each_evolves
      | apply State.clearMem_evolves
      | apply State.setByte_evolves
      | (apply covers_trans _ hA; decide +kernel)
      | intro _ | rfl | dsimp only | split)

/-- What `State.rewriteOwner` keeps. -/
theorem State.rewriteOwner_evolves {A : List Part} {s₀ s : State} (h : Evolves A s₀ s) (n : Nat) (k : Nat)
    (hA : covers [.fresh, .reg .BLK_BLKCTL, .reg .FM_FSTAT] A = true) :
    Evolves A s₀ (s.rewriteOwner n k) := by
  unfold State.rewriteOwner
  with_reducible repeat (first
      | assumption
      | apply State.each_evolves
      | apply State.put_evolves
      | (apply covers_trans _ hA; decide +kernel)
      | intro _ | rfl | dsimp only | split)

/-- What `State.moveCrews` keeps. -/
theorem State.moveCrews_evolves {A : List Part} {s₀ s : State} (h : Evolves A s₀ s) (n : Nat) (k : Nat)
    (hA : covers [.fresh, .plan, .reg .SP_PAIRSUP, .reg .SP_CREWCTL] A = true) :
    Evolves A s₀ (s.moveCrews n k) := by
  unfold State.moveCrews
  with_reducible repeat (first
      | assumption
      | apply State.each_evolves
      | apply State.put_evolves
      | (apply covers_trans _ hA; decide +kernel)
      | intro _ | rfl | dsimp only | split
      | (apply plan_evolves; first | assumption | apply State.each_evolves | apply State.put_evolves | intro _ | rfl | dsimp only | split))

/-- What `State.moveMailbox` keeps. -/
theorem State.moveMailbox_evolves {A : List Part} {s₀ s : State} (h : Evolves A s₀ s) (n : Nat) (k : Nat)
    (hA : covers [.fresh, .reg .EX_MBCTL] A = true) :
    Evolves A s₀ (s.moveMailbox n k) := by
  unfold State.moveMailbox
  with_reducible repeat (first
      | assumption
      | apply State.each_evolves
      | apply State.put_evolves
      | (apply covers_trans _ hA; decide +kernel)
      | intro _ | rfl | dsimp only | split)

/-- What `State.moveWork` keeps. -/
theorem State.moveWork_evolves {A : List Part} {s₀ s : State} (h : Evolves A s₀ s) (n : Nat) (k : Nat)
    (hA : covers ([Part.plan, .reg .BLK_BLKCTL, .reg .SP_PAIRSUP, .reg .SP_CREWCTL, .reg .DR_PSTATE, .reg .FM_FSTAT, .reg .EX_MBCTL] ++
      raiseParts ++ gateParts) A = true) :
    Evolves A s₀ (s.moveWork n k) := by
  unfold State.moveWork
  with_reducible repeat (first
      | assumption
      | apply State.moveMailbox_evolves
      | apply State.moveCrews_evolves
      | apply State.rewriteOwner_evolves
      | apply State.updPair_evolves
      | apply State.regateAll_evolves
      | apply State.raise_evolves
      | apply State.put_evolves
      | (apply covers_trans _ hA; decide +kernel)
      | intro _ | rfl | dsimp only | split)

/-- What `State.copyTcm` keeps. -/
theorem State.copyTcm_evolves {A : List Part} {s₀ s : State} (h : Evolves A s₀ s) (n : Nat) (k : Nat) (hA : covers [.mem, .drift] A = true) :
    Evolves A s₀ (s.copyTcm n k) := by
  unfold State.copyTcm
  with_reducible repeat (first
      | assumption
      | apply State.copyWindow_evolves
      | apply State.setTcm_evolves
      | (apply covers_trans _ hA; decide +kernel)
      | intro _ | rfl | dsimp only | split)

/-- What `State.applyJournal` keeps. -/
theorem State.applyJournal_evolves {A : List Part} {s₀ s : State} (h : Evolves A s₀ s) (n : Nat) (k : Nat) (hA : covers [.mem] A = true) :
    Evolves A s₀ (s.applyJournal n k) := by
  unfold State.applyJournal
  with_reducible repeat (first
      | assumption
      | apply State.each_evolves
      | apply State.setBytes_evolves
      | (apply covers_trans _ hA; decide +kernel)
      | intro _ | rfl | dsimp only | split)

/-- What `State.copyWork` keeps. -/
theorem State.copyWork_evolves {A : List Part} {s₀ s : State} (h : Evolves A s₀ s) (n : Nat) (k : Nat) (hA : covers [.mem, .drift] A = true) :
    Evolves A s₀ (s.copyWork n k) := by
  unfold State.copyWork
  with_reducible repeat (first
      | assumption
      | apply State.updPair_evolves
      | apply State.copyTcm_evolves
      | (apply covers_trans _ hA; decide +kernel)
      | intro _ | rfl | dsimp only | split)

/-- What `execTakeoverStart` keeps. -/
theorem execTakeoverStart_evolves {A : List Part} {s₀ s : State} (h : Evolves A s₀ s) (n : Pair)
    (hA : covers ([Part.now, .fm, .reg .BLK_BLKCTL, .reg .HF_TURN, .reg .SP_PAIRSUP, .reg .SP_CREWCTL, .reg .CG_BSTAT, .reg .RG_RSTAT,
      .reg .DR_DSTAT, .reg .DR_PSTATE, .reg .FM_FSTAT, .reg .FM_FCAUSE, .reg .EX_MBCTL] ++ seamParts ++ coastParts ++ gateParts) A = true) :
    ∃ u, execTakeoverStart n s = .next u ∧ Evolves A s₀ u := by
  unfold execTakeoverStart
  refine ⟨_, rfl, ?_⟩
  with_reducible repeat (first
      | assumption
      | apply State.onTimer_evolves
      | apply State.sf2Drift_evolves
      | apply State.put_evolves
      | apply State.record_evolves
      | apply State.moveWork_evolves
      | apply State.setPst_evolves
      | apply State.updPair_evolves
      | (apply covers_trans _ hA; decide +kernel)
      | intro _ | rfl | dsimp only | split
      | (apply timers_evolves; first | assumption | apply State.onTimer_evolves | apply State.sf2Drift_evolves | apply State.put_evolves | apply State.record_evolves | apply State.moveWork_evolves | apply State.setPst_evolves | apply State.updPair_evolves | intro _ | rfl | dsimp only | split))

/-- What `State.modeDenied` keeps. -/
theorem State.modeDenied_evolves {A : List Part} {s₀ s : State} (h : Evolves A s₀ s) (n : Nat) (hA : covers [.fresh, .reg .DR_PCTL] A = true) :
    Evolves A s₀ (s.modeDenied n) := by
  unfold State.modeDenied
  with_reducible repeat (first
      | assumption
      | apply State.put_evolves
      | (apply covers_trans _ hA; decide +kernel)
      | intro _ | rfl | dsimp only | split)

/-- What `State.reqTest` keeps. -/
theorem State.reqTest_evolves {A : List Part} {s₀ s : State} (h : Evolves A s₀ s) (n : Nat) (hA : covers pairCtlParts A = true) :
    Evolves A s₀ (s.reqTest n) := by
  unfold State.reqTest
  with_reducible repeat (first
      | assumption
      | apply State.setPst_evolves
      | apply State.updPair_evolves
      | apply State.modeDenied_evolves
      | (apply covers_trans _ hA; decide +kernel)
      | intro _ | rfl | dsimp only | split)

/-- What `State.reqSplit` keeps. -/
theorem State.reqSplit_evolves {A : List Part} {s₀ s : State} (h : Evolves A s₀ s) (n : Nat) (hA : covers pairCtlParts A = true) :
    Evolves A s₀ (s.reqSplit n) := by
  unfold State.reqSplit
  with_reducible repeat (first
      | assumption
      | apply State.modeDenied_evolves
      | apply State.setPst_evolves
      | apply State.updPair_evolves
      | (apply covers_trans _ hA; decide +kernel)
      | intro _ | rfl | dsimp only | split)

/-- What `State.reqLeaveTest` keeps. -/
theorem State.reqLeaveTest_evolves {A : List Part} {s₀ s : State} (h : Evolves A s₀ s) (n : Nat) (dest : Nat)
    (hA : covers [.fresh, .timers, .fm, .reg .DR_DSTAT, .reg .DR_PCTL, .reg .DR_PSTATE, .reg .FM_FSTAT] A = true) :
    Evolves A s₀ (s.reqLeaveTest n dest) := by
  unfold State.reqLeaveTest
  with_reducible repeat (first
      | assumption
      | apply State.setPst_evolves
      | apply State.modeDenied_evolves
      | (apply covers_trans _ hA; decide +kernel)
      | intro _ | rfl | dsimp only | split)

/-- What `State.reqJoin` keeps. -/
theorem State.reqJoin_evolves {A : List Part} {s₀ s : State} (h : Evolves A s₀ s) (n : Nat) (hA : covers [.fresh, .drift, .reg .DR_PCTL] A = true) :
    Evolves A s₀ (s.reqJoin n) := by
  unfold State.reqJoin
  with_reducible repeat (first
      | assumption
      | apply State.updPair_evolves
      | apply State.modeDenied_evolves
      | (apply covers_trans _ hA; decide +kernel)
      | intro _ | rfl | dsimp only | split)

/-- What `State.pctlPairWrite` keeps. -/
theorem State.pctlPairWrite_evolves {A : List Part} {s₀ s : State} (h : Evolves A s₀ s) (m : Master) (n : Nat) (v : Word)
    (hA : covers pairCtlParts A = true) :
    Evolves A s₀ (s.pctlPairWrite m n v) := by
  unfold State.pctlPairWrite
  with_reducible repeat (first
      | assumption
      | apply State.regWrite_evolves
      | apply State.reqTest_evolves
      | apply State.reqSplit_evolves
      | apply State.reqJoin_evolves
      | apply State.reqLeaveTest_evolves
      | apply State.modeDenied_evolves
      | apply State.put_evolves
      | (apply covers_trans _ hA; decide +kernel)
      | intro _ | rfl | dsimp only | split)

/-- What `execJoinApply` keeps. -/
theorem execJoinApply_evolves {A : List Part} {s₀ s : State} (h : Evolves A s₀ s) (n : Pair) (hA : covers pairCtlParts A = true) :
    ∃ u, execJoinApply n s = .next u ∧ Evolves A s₀ u := by
  unfold execJoinApply
  refine ⟨_, rfl, ?_⟩
  with_reducible repeat (first
      | assumption
      | apply State.put_evolves
      | apply State.setPst_evolves
      | apply State.updPair_evolves
      | (apply covers_trans _ hA; decide +kernel)
      | intro _ | rfl | dsimp only | split)

/-- What `State.ownrgnWrite` keeps. -/
theorem State.ownrgnWrite_evolves {A : List Part} {s₀ s : State} (h : Evolves A s₀ s) (m : Master) (n : Nat) (j : Nat) (v : Word)
    (hA : covers [.fresh, .reg .DR_DSTAT, .reg .DR_PCTL, .reg .DR_OWNRGN] A = true) :
    Evolves A s₀ (s.ownrgnWrite m n j v) := by
  unfold State.ownrgnWrite
  with_reducible repeat (first
      | assumption
      | apply State.put_evolves
      | apply State.regWrite_evolves
      | apply State.modeDenied_evolves
      | (apply covers_trans _ hA; decide +kernel)
      | intro _ | rfl | dsimp only | split)

/-- What `State.plogWrite` keeps. -/
theorem State.plogWrite_evolves {A : List Part} {s₀ s : State} (h : Evolves A s₀ s) (m : Master) (n : Nat) (v : Word)
    (hA : covers [.fresh, .reg .DR_DSTAT, .reg .DR_PLOG] A = true) :
    Evolves A s₀ (s.plogWrite m n v) := by
  unfold State.plogWrite
  with_reducible repeat (first
      | assumption
      | apply State.put_evolves
      | (apply covers_trans _ hA; decide +kernel)
      | intro _ | rfl | dsimp only | split)

/-- What `State.pairShowWrite` keeps. -/
theorem State.pairShowWrite_evolves {A : List Part} {s₀ s : State} (h : Evolves A s₀ s) (m : Master) (hA : covers [.fresh, .reg .DR_DSTAT] A = true) :
    Evolves A s₀ (s.pairShowWrite m) := by
  unfold State.pairShowWrite
  with_reducible repeat (first
      | assumption
      | apply State.put_evolves
      | (apply covers_trans _ hA; decide +kernel)
      | intro _ | rfl | dsimp only | split)

/-- What `State.driftPlainWrite` keeps. -/
theorem State.driftPlainWrite_evolves {A : List Part} {s₀ s : State} (h : Evolves A s₀ s) (m : Master) (r : RegId) (v : Word) (i : Nat) (hf : covers [.reg r] A = true)
    (hA : covers [.fresh, .reg .DR_DSTAT] A = true) :
    Evolves A s₀ (s.driftPlainWrite m r v i) := by
  unfold State.driftPlainWrite
  with_reducible repeat (first
      | assumption
      | apply State.put_evolves
      | apply State.condWrite_evolves
      | apply State.regWrite_evolves
      | (apply covers_trans _ hA; decide +kernel)
      | intro _ | rfl | dsimp only | split)

/-- What `execDualSampleResample` keeps. -/
theorem execDualSampleResample_evolves {A : List Part} {s₀ s : State} (h : Evolves A s₀ s) (g : Fin 64) (a : Vector Bool 3) (b : Vector Bool 3)
    (hA : covers ([Part.reg .DR_DSTAT, .reg .GP_GPIOIN] ++ raiseParts ++ onTimerParts) A = true) :
    ∃ u, execDualSampleResample g a b s = .next u ∧ Evolves A s₀ u := by
  unfold execDualSampleResample
  refine ⟨_, rfl, ?_⟩
  with_reducible repeat (first
      | assumption
      | apply State.wrw_evolves
      | apply State.advance_evolves
      | apply State.raise_evolves
      | apply State.put_evolves
      | (apply covers_trans _ hA; decide +kernel)
      | intro _ | rfl | dsimp only | split)

/-- What `State.splitCoreStop` keeps. -/
theorem State.splitCoreStop_evolves {A : List Part} {s₀ s : State} (h : Evolves A s₀ s) (n : Nat) (k : Nat)
    (hA : covers [.fresh, .plan, .drift, .reg .DR_PSTATE] A = true) :
    Evolves A s₀ (s.splitCoreStop n k) := by
  unfold State.splitCoreStop
  with_reducible repeat (first
      | assumption
      | apply State.put_evolves
      | apply State.updCore_evolves
      | (apply covers_trans _ hA; decide +kernel)
      | intro _ | rfl | dsimp only | split
      | (apply plan_evolves; first | assumption | apply State.put_evolves | apply State.updCore_evolves | intro _ | rfl | dsimp only | split))

/-- What `execSplitCoreUncorrectableTcm` keeps. -/
theorem execSplitCoreUncorrectableTcm_evolves {A : List Part} {s₀ s : State} (h : Evolves A s₀ s) (n : Pair) (k : Fin 2)
    (hA : covers [.fresh, .plan, .drift, .reg .DR_PSTATE] A = true) :
    ∃ u, execSplitCoreUncorrectableTcm n k s = .next u ∧ Evolves A s₀ u := by
  unfold execSplitCoreUncorrectableTcm
  refine ⟨_, rfl, ?_⟩
  with_reducible repeat (first
      | assumption
      | apply State.splitCoreStop_evolves
      | (apply covers_trans _ hA; decide +kernel)
      | intro _ | rfl | dsimp only | split)

/-! ### Machine/Winder -/

/-- What `State.winderDenied` keeps. -/
theorem State.winderDenied_evolves {A : List Part} {s₀ s : State} (h : Evolves A s₀ s) (hA : covers [.fresh, .reg .WI_WSTAT] A = true) :
    Evolves A s₀ (s.winderDenied) := by
  unfold State.winderDenied
  with_reducible repeat (first
      | assumption
      | apply State.put_evolves
      | (apply covers_trans _ hA; decide +kernel)
      | intro _ | rfl | dsimp only | split)

/-- What `State.clkDrive` keeps. -/
theorem State.clkDrive_evolves {A : List Part} {s₀ s : State} (h : Evolves A s₀ s) (hA : covers [.winder] A = true) :
    Evolves A s₀ (s.clkDrive) := by
  unfold State.clkDrive
  with_reducible repeat (first
      | assumption
      | (apply covers_trans _ hA; decide +kernel)
      | intro _ | rfl | dsimp only | split
      | (apply winder_evolves; first | assumption | intro _ | rfl | dsimp only | split))

/-- What `State.phaseShow` keeps. -/
theorem State.phaseShow_evolves {A : List Part} {s₀ s : State} (h : Evolves A s₀ s)
    (hA : covers [.fresh, .winder, .reg .PW_GSTAT, .reg .WI_SSTAT] A = true) :
    Evolves A s₀ (s.phaseShow) := by
  unfold State.phaseShow
  with_reducible repeat (first
      | assumption
      | apply State.each_evolves
      | apply State.put_evolves
      | apply State.clkDrive_evolves
      | (apply covers_trans _ hA; decide +kernel)
      | intro _ | rfl | dsimp only | split)

/-- What `State.releaseUnit` keeps. -/
theorem State.releaseUnit_evolves {A : List Part} {s₀ s : State} (h : Evolves A s₀ s) (k : Nat)
    (hA : covers ([Part.host, .reg .RS_RSTREL] ++ gateParts) A = true) :
    Evolves A s₀ (s.releaseUnit k) := by
  unfold State.releaseUnit
  with_reducible repeat (first
      | assumption
      | apply State.put_evolves
      | apply State.orPut_evolves
      | apply State.regateAll_evolves
      | (apply covers_trans _ hA; decide +kernel)
      | intro _ | rfl | dsimp only | split
      | (apply host_evolves; first | assumption | apply State.put_evolves | apply State.orPut_evolves | apply State.regateAll_evolves | intro _ | rfl | dsimp only | split))

/-- What `State.tryReleases` keeps. -/
theorem State.tryReleases_evolves {A : List Part} {s₀ s : State} (h : Evolves A s₀ s)
    (hA : covers ([Part.host, .reg .RS_RSTREL] ++ raiseParts ++ gateParts) A = true) :
    Evolves A s₀ (s.tryReleases) := by
  unfold State.tryReleases
  with_reducible repeat (first
      | assumption
      | apply State.each_evolves
      | apply State.raise_evolves
      | apply State.releaseUnit_evolves
      | (apply covers_trans _ hA; decide +kernel)
      | intro _ | rfl | dsimp only | split)

/-- What `execPendingRelease` keeps. -/
theorem execPendingRelease_evolves {A : List Part} {s₀ s : State} (h : Evolves A s₀ s)
    (hA : covers ([Part.host, .reg .RS_RSTREL] ++ raiseParts ++ gateParts) A = true) :
    ∃ u, execPendingRelease s = .next u ∧ Evolves A s₀ u := by
  unfold execPendingRelease
  refine ⟨_, rfl, ?_⟩
  with_reducible repeat (first
      | assumption
      | apply State.tryReleases_evolves
      | (apply covers_trans _ hA; decide +kernel)
      | intro _ | rfl | dsimp only | split)

/-- What `State.rstrelWrite` keeps. -/
theorem State.rstrelWrite_evolves {A : List Part} {s₀ s : State} (h : Evolves A s₀ s) (v : Word)
    (hA : covers ([Part.host, .reg .RS_RSTREL] ++ gateParts) A = true) :
    Evolves A s₀ (s.rstrelWrite v) := by
  unfold State.rstrelWrite
  with_reducible repeat (first
      | assumption
      | apply State.each_evolves
      | apply State.releaseUnit_evolves
      | apply State.orPut_evolves
      | (apply covers_trans _ hA; decide +kernel)
      | intro _ | rfl | dsimp only | split)

/-- What `State.updUhla` keeps. -/
theorem State.updUhla_evolves {A : List Part} {s₀ s : State} (h : Evolves A s₀ s) (f : UhlaU → UhlaU) (hA : covers [.uhla] A = true) :
    Evolves A s₀ (s.updUhla f) := by
  unfold State.updUhla
  with_reducible repeat (first
      | assumption
      | (apply covers_trans _ hA; decide +kernel)
      | intro _ | rfl | dsimp only | split
      | (apply uhla_evolves; first | assumption | intro _ | rfl | dsimp only | split))

/-- What `State.setRing` keeps. -/
theorem State.setRing_evolves {A : List Part} {s₀ s : State} (h : Evolves A s₀ s) (b : Bool)
    (hA : covers ([Part.reg .UH_USTAT] ++ raiseParts) A = true) :
    Evolves A s₀ (s.setRing b) := by
  unfold State.setRing
  with_reducible repeat (first
      | assumption
      | apply State.raise_evolves
      | apply State.put_evolves
      | (apply covers_trans _ hA; decide +kernel)
      | intro _ | rfl | dsimp only | split)

/-- What `State.setPort` keeps. -/
theorem State.setPort_evolves {A : List Part} {s₀ s : State} (h : Evolves A s₀ s) (p : Nat) (st : Nat)
    (hA : covers ([Part.uhla, .reg .UH_USTAT, .reg .UH_UPORT] ++ raiseParts) A = true) :
    Evolves A s₀ (s.setPort p st) := by
  unfold State.setPort
  with_reducible repeat (first
      | assumption
      | apply State.raise_evolves
      | apply State.put_evolves
      | apply State.updUhla_evolves
      | apply State.setRing_evolves
      | (apply covers_trans _ hA; decide +kernel)
      | intro _ | rfl | dsimp only | split)

/-- What `State.linksDrop` keeps. -/
theorem State.linksDrop_evolves {A : List Part} {s₀ s : State} (h : Evolves A s₀ s)
    (hA : covers ([Part.uhla, .reg .UH_USTAT, .reg .UH_UPORT, .reg .ET_ETHSTAT] ++ raiseParts) A = true) :
    Evolves A s₀ (s.linksDrop) := by
  unfold State.linksDrop
  with_reducible repeat (first
      | assumption
      | apply State.each_evolves
      | apply State.setPort_evolves
      | apply State.raise_evolves
      | apply State.put_evolves
      | (apply covers_trans _ hA; decide +kernel)
      | intro _ | rfl | dsimp only | split)

/-- What `State.convStop` keeps. -/
theorem State.convStop_evolves {A : List Part} {s₀ s : State} (h : Evolves A s₀ s) (hA : covers [.timers, .sense] A = true) :
    Evolves A s₀ (s.convStop) := by
  unfold State.convStop
  with_reducible repeat (first
      | assumption
      | (apply covers_trans _ hA; decide +kernel)
      | intro _ | rfl | dsimp only | split
      | (apply mk_evolves; first | assumption | intro _ | rfl | dsimp only | split)
      | exact .inl rfl | exact .inr (covers_mem hA (by decide +kernel)))

/-- What `State.convLock` keeps. -/
theorem State.convLock_evolves {A : List Part} {s₀ s : State} (h : Evolves A s₀ s) (hA : covers [.timers, .sense, .winder] A = true) :
    Evolves A s₀ (s.convLock) := by
  unfold State.convLock
  with_reducible repeat (first
      | assumption
      | (apply covers_trans _ hA; decide +kernel)
      | intro _ | rfl | dsimp only | split
      | (apply mk_evolves; first | assumption | intro _ | rfl | dsimp only | split)
      | exact .inl rfl | exact .inr (covers_mem hA (by decide +kernel)))

/-- What `State.synthStop` keeps. -/
theorem State.synthStop_evolves {A : List Part} {s₀ s : State} (h : Evolves A s₀ s) (n : Nat)
    (hA : covers ([Part.sense, .uhla, .winder, .reg .PW_GSTAT, .reg .WI_SSTAT, .reg .UH_USTAT, .reg .UH_UPORT, .reg .ET_ETHSTAT] ++
      raiseParts) A = true) :
    Evolves A s₀ (s.synthStop n) := by
  unfold State.synthStop
  with_reducible repeat (first
      | assumption
      | apply State.rebase_evolves
      | apply State.convStop_evolves
      | apply State.phaseShow_evolves
      | apply State.disarm_evolves
      | apply State.put_evolves
      | apply State.linksDrop_evolves
      | (apply covers_trans _ hA; decide +kernel)
      | intro _ | rfl | dsimp only | split)

/-- What `State.sctlSynthWrite` keeps. -/
theorem State.sctlSynthWrite_evolves {A : List Part} {s₀ s : State} (h : Evolves A s₀ s) (n : Nat) (v : Word)
    (hA : covers ([Part.sense, .uhla, .winder, .reg .PW_GSTAT, .reg .WI_WSTAT, .reg .WI_SCTL, .reg .WI_SSTAT, .reg .UH_USTAT, .reg .UH_UPORT,
      .reg .ET_ETHSTAT] ++ raiseParts) A = true) :
    Evolves A s₀ (s.sctlSynthWrite n v) := by
  unfold State.sctlSynthWrite
  with_reducible repeat (first
      | assumption
      | apply State.winderDenied_evolves
      | apply State.regWrite_evolves
      | apply State.synthStop_evolves
      | apply State.arm_evolves
      | (apply covers_trans _ hA; decide +kernel)
      | intro _ | rfl | dsimp only | split)

/-- What `State.fmonStart` keeps. -/
theorem State.fmonStart_evolves {A : List Part} {s₀ s : State} (h : Evolves A s₀ s) (n : Nat) (hA : covers [.timers, .winder] A = true) :
    Evolves A s₀ (s.fmonStart n) := by
  unfold State.fmonStart
  with_reducible repeat (first
      | assumption
      | apply State.arm_evolves
      | (apply covers_trans _ hA; decide +kernel)
      | intro _ | rfl | dsimp only | split
      | (apply winder_evolves; first | assumption | apply State.arm_evolves | intro _ | rfl | dsimp only | split))

/-- What `State.declareLock` keeps. -/
theorem State.declareLock_evolves {A : List Part} {s₀ s : State} (h : Evolves A s₀ s) (n : Nat)
    (hA : covers ([Part.sense, .winder, .supply, .host, .reg .PW_GSTAT, .reg .WI_SSTAT, .reg .RS_RSTREL] ++ raiseParts ++ gateParts) A = true) :
    Evolves A s₀ (s.declareLock n) := by
  unfold State.declareLock
  with_reducible repeat (first
      | assumption
      | apply State.fmonStart_evolves
      | apply State.rebase_evolves
      | apply State.convLock_evolves
      | apply State.raise_evolves
      | apply State.phaseShow_evolves
      | apply State.put_evolves
      | apply State.arm_evolves
      | apply State.tryReleases_evolves
      | (apply covers_trans _ hA; decide +kernel)
      | intro _ | rfl | dsimp only | split
      | (apply supply_evolves; first | assumption | apply State.fmonStart_evolves | apply State.rebase_evolves | apply State.convLock_evolves | apply State.raise_evolves | apply State.phaseShow_evolves | apply State.put_evolves | apply State.arm_evolves | apply State.tryReleases_evolves | intro _ | rfl | dsimp only | split))

/-- What `execSynthLocked` keeps. -/
theorem execSynthLocked_evolves {A : List Part} {s₀ s : State} (h : Evolves A s₀ s) (n : Fin 4)
    (hA : covers ([Part.sense, .winder, .supply, .host, .reg .PW_GSTAT, .reg .WI_SSTAT, .reg .RS_RSTREL] ++ raiseParts ++ onTimerParts ++
      gateParts) A = true) :
    ∃ u, execSynthLocked n s = .next u ∧ Evolves A s₀ u := by
  unfold execSynthLocked
  refine ⟨_, rfl, ?_⟩
  with_reducible repeat (first
      | assumption
      | apply State.onTimer_evolves
      | apply State.declareLock_evolves
      | (apply covers_trans _ hA; decide +kernel)
      | intro _ | rfl | dsimp only | split)

/-- What `execFmonErr` keeps. -/
theorem execFmonErr_evolves {A : List Part} {s₀ s : State} (h : Evolves A s₀ s) (w : FmonMean)
    (hA : covers ([Part.winder, .reg .WI_SSTAT] ++ raiseParts ++ onTimerParts) A = true) :
    ∃ u, execFmonErr w s = .next u ∧ Evolves A s₀ u := by
  unfold execFmonErr
  refine ⟨_, rfl, ?_⟩
  with_reducible repeat (first
      | assumption
      | apply State.onTimer_evolves
      | apply State.raise_evolves
      | apply State.put_evolves
      | apply State.fmonStart_evolves
      | (apply covers_trans _ hA; decide +kernel)
      | intro _ | rfl | dsimp only | split)

/-- What `execRefLost` keeps. -/
theorem execRefLost_evolves {A : List Part} {s₀ s : State} (h : Evolves A s₀ s) (hA : covers ([Part.reg .WI_WSTAT] ++ raiseParts) A = true) :
    ∃ u, execRefLost s = .next u ∧ Evolves A s₀ u := by
  unfold execRefLost
  refine ⟨_, rfl, ?_⟩
  with_reducible repeat (first
      | assumption
      | apply State.raise_evolves
      | apply State.put_evolves
      | (apply covers_trans _ hA; decide +kernel)
      | intro _ | rfl | dsimp only | split)

/-- What `State.wctlSrcWrite` keeps. -/
theorem State.wctlSrcWrite_evolves {A : List Part} {s₀ s : State} (h : Evolves A s₀ s) (v : Word) (hA : covers [.timers, .reg .WI_WCTL] A = true) :
    Evolves A s₀ (s.wctlSrcWrite v) := by
  unfold State.wctlSrcWrite
  with_reducible repeat (first
      | assumption
      | apply State.each_evolves
      | apply State.regWrite_evolves
      | apply State.arm_evolves
      | (apply covers_trans _ hA; decide +kernel)
      | intro _ | rfl | dsimp only | split)

/-- What `State.retime` keeps. -/
theorem State.retime_evolves {A : List Part} {s₀ s : State} (h : Evolves A s₀ s) (hA : covers [.timers] A = true) :
    Evolves A s₀ (s.retime) := by
  unfold State.retime
  with_reducible repeat (first
      | assumption
      | apply State.each_evolves
      | apply State.disarm_evolves
      | (apply covers_trans _ hA; decide +kernel)
      | intro _ | rfl | dsimp only | split
      | (apply timers_evolves; first | assumption | apply State.each_evolves | apply State.disarm_evolves | intro _ | rfl | dsimp only | split))

/-- What `State.sscfgWrite` keeps. -/
theorem State.sscfgWrite_evolves {A : List Part} {s₀ s : State} (h : Evolves A s₀ s) (n : Nat) (v : Word)
    (hA : covers [.fresh, .timers, .winder, .reg .PW_GSTAT, .reg .WI_WSTAT, .reg .WI_SSTAT, .reg .WI_SSCFG] A = true) :
    Evolves A s₀ (s.sscfgWrite n v) := by
  unfold State.sscfgWrite
  with_reducible repeat (first
      | assumption
      | apply State.winderDenied_evolves
      | apply State.realigned_evolves
      | apply State.rebase_evolves
      | apply State.retime_evolves
      | apply State.phaseShow_evolves
      | apply State.regWrite_evolves
      | (apply covers_trans _ hA; decide +kernel)
      | intro _ | rfl | dsimp only | split)

/-- What `State.setFreq` keeps. -/
theorem State.setFreq_evolves {A : List Part} {s₀ s : State} (h : Evolves A s₀ s) (f : Nat)
    (hA : covers [.fresh, .timers, .winder, .reg .WI_RSTAT] A = true) :
    Evolves A s₀ (s.setFreq f) := by
  unfold State.setFreq
  with_reducible repeat (first
      | assumption
      | apply State.retime_evolves
      | apply State.put_evolves
      | apply State.rebase_evolves
      | (apply covers_trans _ hA; decide +kernel)
      | intro _ | rfl | dsimp only | split)

/-- What `State.setSeg` keeps. -/
theorem State.setSeg_evolves {A : List Part} {s₀ s : State} (h : Evolves A s₀ s) (from_ : Nat) (t : Nat) (hA : covers [.winder] A = true) :
    Evolves A s₀ (s.setSeg from_ t) := by
  unfold State.setSeg
  with_reducible repeat (first
      | assumption
      | (apply covers_trans _ hA; decide +kernel)
      | intro _ | rfl | dsimp only | split
      | (apply winder_evolves; first | assumption | intro _ | rfl | dsimp only | split))

/-- What `State.winderRun` keeps. -/
theorem State.winderRun_evolves {A : List Part} {s₀ s : State} (h : Evolves A s₀ s)
    (hA : covers [.fresh, .timers, .winder, .reg .PW_GSTAT, .reg .WI_SSTAT, .reg .WI_RSTAT] A = true) :
    Evolves A s₀ (s.winderRun) := by
  unfold State.winderRun
  with_reducible repeat (first
      | assumption
      | apply State.arm_evolves
      | apply State.phaseShow_evolves
      | apply State.put_evolves
      | apply State.setSeg_evolves
      | (apply covers_trans _ hA; decide +kernel)
      | intro _ | rfl | dsimp only | split)

/-- What `State.winderIdle` keeps. -/
theorem State.winderIdle_evolves {A : List Part} {s₀ s : State} (h : Evolves A s₀ s)
    (hA : covers ([Part.winder, .reg .PW_GSTAT, .reg .WI_SSTAT, .reg .WI_RSTAT] ++ raiseParts) A = true) :
    Evolves A s₀ (s.winderIdle) := by
  unfold State.winderIdle
  with_reducible repeat (first
      | assumption
      | apply State.raise_evolves
      | apply State.phaseShow_evolves
      | apply State.disarm_evolves
      | apply State.realigned_evolves
      | apply State.setFreq_evolves
      | apply State.put_evolves
      | (apply covers_trans _ hA; decide +kernel)
      | intro _ | rfl | dsimp only | split)

/-- What `State.winderStop` keeps. -/
theorem State.winderStop_evolves {A : List Part} {s₀ s : State} (h : Evolves A s₀ s)
    (hA : covers ([Part.winder, .reg .PW_GSTAT, .reg .WI_SSTAT, .reg .WI_RSTAT] ++ raiseParts) A = true) :
    Evolves A s₀ (s.winderStop) := by
  unfold State.winderStop
  with_reducible repeat (first
      | assumption
      | apply State.winderIdle_evolves
      | apply State.arm_evolves
      | apply State.phaseShow_evolves
      | apply State.put_evolves
      | (apply covers_trans _ hA; decide +kernel)
      | intro _ | rfl | dsimp only | split)

/-- What `State.rctlWinderWrite` keeps. -/
theorem State.rctlWinderWrite_evolves {A : List Part} {s₀ s : State} (h : Evolves A s₀ s) (v : Word)
    (hA : covers ([Part.uhla, .winder, .reg .PW_GSTAT, .reg .WI_WSTAT, .reg .WI_SSTAT, .reg .WI_RCTL, .reg .WI_RSTAT] ++ raiseParts) A = true) :
    Evolves A s₀ (s.rctlWinderWrite v) := by
  unfold State.rctlWinderWrite
  with_reducible repeat (first
      | assumption
      | apply State.regWrite_evolves
      | apply State.winderStop_evolves
      | apply State.winderDenied_evolves
      | apply State.phaseShow_evolves
      | apply State.put_evolves
      | apply State.winderRun_evolves
      | (apply covers_trans _ hA; decide +kernel)
      | intro _ | rfl | dsimp only | split
      | (apply uhla_evolves; first | assumption | apply State.regWrite_evolves | apply State.winderStop_evolves | apply State.winderDenied_evolves | apply State.phaseShow_evolves | apply State.put_evolves | apply State.winderRun_evolves | intro _ | rfl | dsimp only | split))

/-- What `State.winderTick` keeps. -/
theorem State.winderTick_evolves {A : List Part} {s₀ s : State} (h : Evolves A s₀ s)
    (hA : covers [.fresh, .timers, .winder, .reg .PW_GSTAT, .reg .WI_SSTAT, .reg .WI_RSTAT] A = true) :
    Evolves A s₀ (s.winderTick) := by
  unfold State.winderTick
  with_reducible repeat (first
      | assumption
      | apply State.arm_evolves
      | apply State.setFreq_evolves
      | apply State.setSeg_evolves
      | apply State.put_evolves
      | apply State.phaseShow_evolves
      | (apply covers_trans _ hA; decide +kernel)
      | intro _ | rfl | dsimp only | split)

/-- What `State.realignTick` keeps. -/
theorem State.realignTick_evolves {A : List Part} {s₀ s : State} (h : Evolves A s₀ s)
    (hA : covers [.fresh, .timers, .winder, .reg .WI_RSTAT] A = true) :
    Evolves A s₀ (s.realignTick) := by
  unfold State.realignTick
  with_reducible repeat (first
      | assumption
      | apply State.setFreq_evolves
      | apply State.arm_evolves
      | (apply covers_trans _ hA; decide +kernel)
      | intro _ | rfl | dsimp only | split)

/-- What `execWinderRampUpdate` keeps. -/
theorem execWinderRampUpdate_evolves {A : List Part} {s₀ s : State} (h : Evolves A s₀ s)
    (hA : covers ([Part.winder, .reg .PW_GSTAT, .reg .WI_SSTAT, .reg .WI_RSTAT] ++ onTimerParts) A = true) :
    ∃ u, execWinderRampUpdate s = .next u ∧ Evolves A s₀ u := by
  unfold execWinderRampUpdate
  refine ⟨_, rfl, ?_⟩
  with_reducible repeat (first
      | assumption
      | apply State.onTimer_evolves
      | apply State.winderTick_evolves
      | apply State.realignTick_evolves
      | (apply covers_trans _ hA; decide +kernel)
      | intro _ | rfl | dsimp only | split)

/-- What `execRealignComplete` keeps. -/
theorem execRealignComplete_evolves {A : List Part} {s₀ s : State} (h : Evolves A s₀ s)
    (hA : covers ([Part.winder, .reg .PW_GSTAT, .reg .WI_SSTAT, .reg .WI_RSTAT] ++ raiseParts) A = true) :
    ∃ u, execRealignComplete s = .next u ∧ Evolves A s₀ u := by
  unfold execRealignComplete
  refine ⟨_, rfl, ?_⟩
  with_reducible repeat (first
      | assumption
      | apply State.winderIdle_evolves
      | (apply covers_trans _ hA; decide +kernel)
      | intro _ | rfl | dsimp only | split)

/-- What `State.octlWrite` keeps. -/
theorem State.octlWrite_evolves {A : List Part} {s₀ s : State} (h : Evolves A s₀ s) (i : Nat) (v : Word)
    (hA : covers [.fresh, .winder, .reg .WI_WSTAT, .reg .WI_OCTL] A = true) :
    Evolves A s₀ (s.octlWrite i v) := by
  unfold State.octlWrite
  with_reducible repeat (first
      | assumption
      | apply State.winderDenied_evolves
      | apply State.clkDrive_evolves
      | apply State.condWrite_evolves
      | (apply covers_trans _ hA; decide +kernel)
      | intro _ | rfl | dsimp only | split)

/-- What `State.rsegWrite` keeps. -/
theorem State.rsegWrite_evolves {A : List Part} {s₀ s : State} (h : Evolves A s₀ s) (i : Nat) (v : Word)
    (hA : covers [.fresh, .reg .WI_WSTAT, .reg .WI_RSEG] A = true) :
    Evolves A s₀ (s.rsegWrite i v) := by
  unfold State.rsegWrite
  with_reducible repeat (first
      | assumption
      | apply State.condWrite_evolves
      | apply State.winderDenied_evolves
      | (apply covers_trans _ hA; decide +kernel)
      | intro _ | rfl | dsimp only | split)

/-! ### Machine/PickCore -/

/-- What `State.updEng` keeps. -/
theorem State.updEng_evolves {A : List Part} {s₀ s : State} (h : Evolves A s₀ s) (e : Nat) (f : EngU → EngU) (hA : covers [.pick] A = true) :
    Evolves A s₀ (s.updEng e f) := by
  unfold State.updEng
  with_reducible repeat (first
      | assumption
      | (apply covers_trans _ hA; decide +kernel)
      | intro _ | rfl | dsimp only | split
      | (apply pick_evolves; first | assumption | intro _ | rfl | dsimp only | split))

/-- What `State.updArb` keeps. -/
theorem State.updArb_evolves {A : List Part} {s₀ s : State} (h : Evolves A s₀ s) (c : Nat) (f : ArbU → ArbU) (hA : covers [.pick] A = true) :
    Evolves A s₀ (s.updArb c f) := by
  unfold State.updArb
  with_reducible repeat (first
      | assumption
      | (apply covers_trans _ hA; decide +kernel)
      | intro _ | rfl | dsimp only | split
      | (apply pick_evolves; first | assumption | intro _ | rfl | dsimp only | split))

/-- What `State.pickFault` keeps. -/
theorem State.pickFault_evolves {A : List Part} {s₀ s : State} (h : Evolves A s₀ s) (e : Nat) (hA : covers raiseParts A = true) :
    Evolves A s₀ (s.pickFault e) := by
  unfold State.pickFault
  with_reducible repeat (first
      | assumption
      | apply State.raise_evolves
      | (apply covers_trans _ hA; decide +kernel)
      | intro _ | rfl | dsimp only | split)

/-- What `State.updPort` keeps. -/
theorem State.updPort_evolves {A : List Part} {s₀ s : State} (h : Evolves A s₀ s) (e : Nat) (f : XchPort → XchPort) (hA : covers [.pick] A = true) :
    Evolves A s₀ (s.updPort e f) := by
  unfold State.updPort
  with_reducible repeat (first
      | assumption
      | (apply covers_trans _ hA; decide +kernel)
      | intro _ | rfl | dsimp only | split
      | (apply pick_evolves; first | assumption | intro _ | rfl | dsimp only | split))

/-- What `State.request` keeps. -/
theorem State.request_evolves {A : List Part} {s₀ s : State} (h : Evolves A s₀ s) (e : Nat) (cls : Nat) (slot : Nat) (peak : Bool) (angs : Vector Word 4)
    (hA : covers [.fresh, .pick, .reg .PK_LATE] A = true) :
    Evolves A s₀ (s.request e cls slot peak angs) := by
  unfold State.request
  with_reducible repeat (first
      | assumption
      | apply State.updEng_evolves
      | apply State.bumpSat_evolves
      | (apply covers_trans _ hA; decide +kernel)
      | intro _ | rfl | dsimp only | split)

/-- What `State.requestCell` keeps. -/
theorem State.requestCell_evolves {A : List Part} {s₀ s : State} (h : Evolves A s₀ s) (c : Nat) (cls : Nat) (slot : Nat) (peak : Bool) (late : Nat)
    (hA : covers [.fresh, .now, .head, .plan, .drift, .pick, .reg .HF_TURN, .reg .SP_REMAIN0, .reg .PK_LATE] A = true) :
    Evolves A s₀ (s.requestCell c cls slot peak late) := by
  unfold State.requestCell
  with_reducible repeat (first
      | assumption
      | apply State.advance_evolves
      | apply State.request_evolves
      | (apply covers_trans _ hA; decide +kernel)
      | intro _ | rfl | dsimp only | split)

/-- What `State.dropRequests` keeps. -/
theorem State.dropRequests_evolves {A : List Part} {s₀ s : State} (h : Evolves A s₀ s) (b : Nat) (hA : covers [.pick] A = true) :
    Evolves A s₀ (s.dropRequests b) := by
  unfold State.dropRequests
  with_reducible repeat (first
      | assumption
      | apply State.each_evolves
      | apply State.updEng_evolves
      | (apply covers_trans _ hA; decide +kernel)
      | intro _ | rfl | dsimp only | split)

/-- What `State.paramCopy` keeps. -/
theorem State.paramCopy_evolves {A : List Part} {s₀ s : State} (h : Evolves A s₀ s) (e : Nat)
    (hA : covers [.fresh, .pick, .reg .PK_PARAMGO] A = true) :
    Evolves A s₀ (s.paramCopy e) := by
  unfold State.paramCopy
  with_reducible repeat (first
      | assumption
      | apply State.put_evolves
      | apply State.updEng_evolves
      | (apply covers_trans _ hA; decide +kernel)
      | intro _ | rfl | dsimp only | split)

/-- What `State.rampOverride` keeps. -/
theorem State.rampOverride_evolves {A : List Part} {s₀ s : State} (h : Evolves A s₀ s) (e : Nat) (hA : covers [.pick] A = true) :
    Evolves A s₀ (s.rampOverride e) := by
  unfold State.rampOverride
  with_reducible repeat (first
      | assumption
      | apply State.each_evolves
      | apply State.updEng_evolves
      | (apply covers_trans _ hA; decide +kernel)
      | intro _ | rfl | dsimp only | split)

/-- What `State.startInv` keeps. -/
theorem State.startInv_evolves {A : List Part} {s₀ s : State} (h : Evolves A s₀ s) (e : Nat) (cls : Nat) (r : Req)
    (hA : covers [.fresh, .pick, .reg .PK_PSTAT, .reg .PK_ICOUNT, .reg .PK_REGION, .reg .PK_PARAMGO] A = true) :
    Evolves A s₀ (s.startInv e cls r) := by
  unfold State.startInv
  with_reducible repeat (first
      | assumption
      | apply State.bump_evolves
      | apply State.rampOverride_evolves
      | apply State.paramCopy_evolves
      | apply State.put_evolves
      | apply State.updEng_evolves
      | (apply covers_trans _ hA; decide +kernel)
      | intro _ | rfl | dsimp only | split)

/-- What `State.startNext` keeps. -/
theorem State.startNext_evolves {A : List Part} {s₀ s : State} (h : Evolves A s₀ s) (e : Nat)
    (hA : covers [.fresh, .pick, .reg .PK_PSTAT, .reg .PK_ICOUNT, .reg .PK_REGION, .reg .PK_PARAMGO] A = true) :
    Evolves A s₀ (s.startNext e) := by
  unfold State.startNext
  with_reducible repeat (first
      | assumption
      | apply State.startInv_evolves
      | (apply covers_trans _ hA; decide +kernel)
      | intro _ | rfl | dsimp only | split)

/-- What `execInvocationStart` keeps. -/
theorem execInvocationStart_evolves {A : List Part} {s₀ s : State} (h : Evolves A s₀ s) (e : Eng)
    (hA : covers [.fresh, .pick, .reg .PK_PSTAT, .reg .PK_ICOUNT, .reg .PK_REGION, .reg .PK_PARAMGO] A = true) :
    ∃ u, execInvocationStart e s = .next u ∧ Evolves A s₀ u := by
  unfold execInvocationStart
  refine ⟨_, rfl, ?_⟩
  with_reducible repeat (first
      | assumption
      | apply State.startNext_evolves
      | (apply covers_trans _ hA; decide +kernel)
      | intro _ | rfl | dsimp only | split)

/-- What `State.dropInv` keeps. -/
theorem State.dropInv_evolves {A : List Part} {s₀ s : State} (h : Evolves A s₀ s) (e : Nat) (hA : covers [.fresh, .pick, .reg .PK_PSTAT] A = true) :
    Evolves A s₀ (s.dropInv e) := by
  unfold State.dropInv
  with_reducible repeat (first
      | assumption
      | apply State.put_evolves
      | apply State.updEng_evolves
      | (apply covers_trans _ hA; decide +kernel)
      | intro _ | rfl | dsimp only | split)

/-- What `State.exhaust` keeps. -/
theorem State.exhaust_evolves {A : List Part} {s₀ s : State} (h : Evolves A s₀ s) (e : Nat)
    (hA : covers ([Part.pick, .reg .PK_PSTAT, .reg .PK_LATE] ++ raiseParts) A = true) :
    Evolves A s₀ (s.exhaust e) := by
  unfold State.exhaust
  with_reducible repeat (first
      | assumption
      | apply State.pickFault_evolves
      | apply State.bumpSat_evolves
      | apply State.put_evolves
      | apply State.dropInv_evolves
      | (apply covers_trans _ hA; decide +kernel)
      | intro _ | rfl | dsimp only | split)

/-- What `State.evalLater` keeps. -/
theorem State.evalLater_evolves {A : List Part} {s₀ s : State} (h : Evolves A s₀ s) (c : Nat) (hA : covers [.pick] A = true) :
    Evolves A s₀ (s.evalLater c) := by
  unfold State.evalLater
  with_reducible repeat (first
      | assumption
      | apply State.updArb_evolves
      | (apply covers_trans _ hA; decide +kernel)
      | intro _ | rfl | dsimp only | split)

/-- What `State.slotWrite` keeps. -/
theorem State.slotWrite_evolves {A : List Part} {s₀ s : State} (h : Evolves A s₀ s) (c : Nat) (j : Nat) (v : Word)
    (hA : covers [.pick, .reg .PK_SLOTVAL] A = true) :
    Evolves A s₀ (s.slotWrite c j v) := by
  unfold State.slotWrite
  with_reducible repeat (first
      | assumption
      | apply State.evalLater_evolves
      | apply State.wrw_evolves
      | (apply covers_trans _ hA; decide +kernel)
      | intro _ | rfl | dsimp only | split)

/-- What `State.deliver` keeps. -/
theorem State.deliver_evolves {A : List Part} {s₀ s : State} (h : Evolves A s₀ s) (c : Nat) (v : Word)
    (hA : covers [.fresh, .power, .pick, .reg .PK_ARBOUT, .reg .PK_SLOTVAL, .reg .PW_DUTY, .reg .PW_ACTCMP, .reg .PW_CHSTAT] A = true) :
    Evolves A s₀ (s.deliver c v) := by
  unfold State.deliver
  with_reducible repeat (first
      | assumption
      | apply State.updArb_evolves
      | apply State.wrw_evolves
      | apply State.deliverDuty_evolves
      | apply State.slotWrite_evolves
      | (apply covers_trans _ hA; decide +kernel)
      | intro _ | rfl | dsimp only | split)

/-- What `State.winnerIs` keeps. -/
theorem State.winnerIs_evolves {A : List Part} {s₀ s : State} (h : Evolves A s₀ s) (c : Nat) (j : Nat) (v : Word)
    (hA : covers ([Part.pick, .reg .PK_ARBSTAT] ++ seamParts) A = true) :
    Evolves A s₀ (s.winnerIs c j v) := by
  unfold State.winnerIs
  with_reducible repeat (first
      | assumption
      | apply State.updArb_evolves
      | apply State.bump_evolves
      | apply State.put_evolves
      | apply State.raise_evolves
      | apply State.record_evolves
      | (apply covers_trans _ hA; decide +kernel)
      | intro _ | rfl | dsimp only | split)

/-- What `State.evaluate` keeps. -/
theorem State.evaluate_evolves {A : List Part} {s₀ s : State} (h : Evolves A s₀ s) (c : Nat)
    (hA : covers ([Part.power, .pick, .reg .PK_ARBSTAT, .reg .PK_ARBOUT, .reg .PK_SLOTVAL, .reg .PW_DUTY, .reg .PW_ACTCMP, .reg .PW_CHSTAT] ++
      seamParts) A = true) :
    Evolves A s₀ (s.evaluate c) := by
  unfold State.evaluate
  with_reducible repeat (first
      | assumption
      | apply State.updArb_evolves
      | apply State.put_evolves
      | apply State.deliver_evolves
      | apply State.winnerIs_evolves
      | (apply covers_trans _ hA; decide +kernel)
      | intro _ | rfl | dsimp only | split)

/-- What `execArbiterEvaluation` keeps. -/
theorem execArbiterEvaluation_evolves {A : List Part} {s₀ s : State} (h : Evolves A s₀ s) (c : Cell)
    (hA : covers ([Part.power, .pick, .reg .PK_ARBSTAT, .reg .PK_ARBOUT, .reg .PK_SLOTVAL, .reg .PW_DUTY, .reg .PW_ACTCMP, .reg .PW_CHSTAT] ++
      seamParts ++ onTimerParts) A = true) :
    ∃ u, execArbiterEvaluation c s = .next u ∧ Evolves A s₀ u := by
  unfold execArbiterEvaluation
  refine ⟨_, rfl, ?_⟩
  with_reducible repeat (first
      | assumption
      | apply State.evaluate_evolves
      | apply State.updArb_evolves
      | apply State.advanceTo_evolves
      | (apply covers_trans _ hA; decide +kernel)
      | intro _ | rfl | dsimp only | split)

/-- What `State.arbctlWrite` keeps. -/
theorem State.arbctlWrite_evolves {A : List Part} {s₀ s : State} (h : Evolves A s₀ s) (c : Nat) (v : Word)
    (hA : covers [.fresh, .pick, .reg .PK_ARBCTL] A = true) :
    Evolves A s₀ (s.arbctlWrite c v) := by
  unfold State.arbctlWrite
  with_reducible repeat (first
      | assumption
      | apply State.put_evolves
      | apply State.condWrite_evolves
      | apply State.evalLater_evolves
      | (apply covers_trans _ hA; decide +kernel)
      | intro _ | rfl | dsimp only | split)

/-- What `State.slicemapWrite` keeps. -/
theorem State.slicemapWrite_evolves {A : List Part} {s₀ s : State} (h : Evolves A s₀ s) (e : Nat) (r : RegId) (v : Word) (hf : covers [.reg r] A = true)
    (hA : covers [.fresh, .reg .PK_PSTAT] A = true) :
    Evolves A s₀ (s.slicemapWrite e r v) := by
  unfold State.slicemapWrite
  with_reducible repeat (first
      | assumption
      | apply State.wrw_evolves
      | apply State.put_evolves
      | (apply covers_trans _ hA; decide +kernel)
      | intro _ | rfl | dsimp only | split)

/-- What `State.paramgoWrite` keeps. -/
theorem State.paramgoWrite_evolves {A : List Part} {s₀ s : State} (h : Evolves A s₀ s) (e : Nat) (v : Word)
    (hA : covers [.fresh, .reg .PK_PARAMGO] A = true) :
    Evolves A s₀ (s.paramgoWrite e v) := by
  unfold State.paramgoWrite
  with_reducible repeat (first
      | assumption
      | apply State.put_evolves
      | (apply covers_trans _ hA; decide +kernel)
      | intro _ | rfl | dsimp only | split)

/-- What `State.paramWrite` keeps. -/
theorem State.paramWrite_evolves {A : List Part} {s₀ s : State} (h : Evolves A s₀ s) (e : Nat) (n : Nat) (v : Word)
    (hA : covers [.fresh, .reg .PK_PSTAT, .reg .PK_PARAM] A = true) :
    Evolves A s₀ (s.paramWrite e n v) := by
  unfold State.paramWrite
  with_reducible repeat (first
      | assumption
      | apply State.condWrite_evolves
      | apply State.put_evolves
      | (apply covers_trans _ hA; decide +kernel)
      | intro _ | rfl | dsimp only | split)

/-- What `State.replatchWrite` keeps. -/
theorem State.replatchWrite_evolves {A : List Part} {s₀ s : State} (h : Evolves A s₀ s) (e : Nat) (v : Word)
    (hA : covers [.reg .PK_REPORT] A = true) :
    Evolves A s₀ (s.replatchWrite e v) := by
  unfold State.replatchWrite
  with_reducible repeat (first
      | assumption
      | apply State.each_evolves
      | apply State.wrw_evolves
      | (apply covers_trans _ hA; decide +kernel)
      | intro _ | rfl | dsimp only | split)

/-- What `State.budgetWrite` keeps. -/
theorem State.budgetWrite_evolves {A : List Part} {s₀ s : State} (h : Evolves A s₀ s) (e : Nat) (v : Word)
    (hA : covers [.fresh, .reg .PK_PSTAT, .reg .PK_BUDGET] A = true) :
    Evolves A s₀ (s.budgetWrite e v) := by
  unfold State.budgetWrite
  with_reducible repeat (first
      | assumption
      | apply State.condWrite_evolves
      | apply State.put_evolves
      | (apply covers_trans _ hA; decide +kernel)
      | intro _ | rfl | dsimp only | split)

/-- What `State.load` keeps. -/
theorem State.load_evolves {A : List Part} {s₀ s : State} (h : Evolves A s₀ s) (e : Nat) (hA : covers [.fresh, .pick, .reg .PK_PCTL] A = true) :
    Evolves A s₀ (s.load e) := by
  unfold State.load
  with_reducible repeat (first
      | assumption
      | apply State.updEng_evolves
      | apply State.put_evolves
      | (apply covers_trans _ hA; decide +kernel)
      | intro _ | rfl | dsimp only | split
      | (apply pick_evolves; first | assumption | apply State.updEng_evolves | apply State.put_evolves | intro _ | rfl | dsimp only | split))

/-- What `State.pctlPickWrite` keeps. -/
theorem State.pctlPickWrite_evolves {A : List Part} {s₀ s : State} (h : Evolves A s₀ s) (e : Nat) (v : Word)
    (hA : covers [.fresh, .pick, .reg .PK_PCTL] A = true) :
    Evolves A s₀ (s.pctlPickWrite e v) := by
  unfold State.pctlPickWrite
  with_reducible repeat (first
      | assumption
      | apply State.regWrite_evolves
      | apply State.load_evolves
      | (apply covers_trans _ hA; decide +kernel)
      | intro _ | rfl | dsimp only | split)

/-- What `State.loaded` keeps. -/
theorem State.loaded_evolves {A : List Part} {s₀ s : State} (h : Evolves A s₀ s) (e : Nat) (p : PickProgram)
    (hA : covers [.fresh, .timers, .pick, .reg .PK_PCTL, .reg .PK_PSTAT, .reg .PK_BUDGET, .reg .PK_REGION, .reg .PK_OPV] A = true) :
    Evolves A s₀ (s.loaded e p) := by
  unfold State.loaded
  with_reducible repeat (first
      | assumption
      | apply State.updEng_evolves
      | apply State.put_evolves
      | apply State.disarm_evolves
      | apply State.wrw_evolves
      | (apply covers_trans _ hA; decide +kernel)
      | intro _ | rfl | dsimp only | split
      | (apply pick_evolves; first | assumption | apply State.updEng_evolves | apply State.put_evolves | apply State.disarm_evolves | apply State.wrw_evolves | intro _ | rfl | dsimp only | split))

/-- What `execLoadComplete` keeps. -/
theorem execLoadComplete_evolves {A : List Part} {s₀ s : State} (h : Evolves A s₀ s) (e : Eng)
    (hA : covers [.fresh, .timers, .pick, .reg .PK_PCTL, .reg .PK_PSTAT, .reg .PK_BUDGET, .reg .PK_REGION, .reg .PK_OPV] A = true) :
    ∃ u, execLoadComplete e s = .next u ∧ Evolves A s₀ u := by
  unfold execLoadComplete
  refine ⟨_, rfl, ?_⟩
  with_reducible repeat (first
      | assumption
      | apply State.loaded_evolves
      | (apply covers_trans _ hA; decide +kernel)
      | intro _ | rfl | dsimp only | split)

/-- What `State.holdDuty` keeps. -/
theorem State.holdDuty_evolves {A : List Part} {s₀ s : State} (h : Evolves A s₀ s) (c : Nat)
    (hA : covers [.fresh, .power, .reg .PW_ACTCMP] A = true) :
    Evolves A s₀ (s.holdDuty c) := by
  unfold State.holdDuty
  with_reducible repeat (first
      | assumption
      | apply State.showCmp_evolves
      | apply State.updChan_evolves
      | (apply covers_trans _ hA; decide +kernel)
      | intro _ | rfl | dsimp only | split)

/-- What `State.resyncFailed` keeps. -/
theorem State.resyncFailed_evolves {A : List Part} {s₀ s : State} (h : Evolves A s₀ s) (e : Nat)
    (hA : covers ([Part.pick, .reg .PK_PSTAT] ++ sf2Parts) A = true) :
    Evolves A s₀ (s.resyncFailed e) := by
  unfold State.resyncFailed
  with_reducible repeat (first
      | assumption
      | apply State.disarm_evolves
      | apply State.put_evolves
      | apply State.updEng_evolves
      | apply State.pickFault_evolves
      | apply State.sf2Latch_evolves
      | (apply covers_trans _ hA; decide +kernel)
      | intro _ | rfl | dsimp only | split)

/-- What `execPairMismatch` keeps. -/
theorem execPairMismatch_evolves {A : List Part} {s₀ s : State} (h : Evolves A s₀ s) (e : Eng) (cause : Fin 3)
    (hA : covers ([Part.pick, .reg .PK_PSTAT, .reg .PW_ACTCMP] ++ sf2Parts) A = true) :
    ∃ u, execPairMismatch e cause s = .next u ∧ Evolves A s₀ u := by
  unfold execPairMismatch
  refine ⟨_, rfl, ?_⟩
  with_reducible repeat (first
      | assumption
      | apply State.put_evolves
      | apply State.resyncFailed_evolves
      | apply State.dropInv_evolves
      | apply State.each_evolves
      | apply State.holdDuty_evolves
      | apply State.coastPick_evolves
      | apply State.arm_evolves
      | apply State.pickFault_evolves
      | (apply covers_trans _ hA; decide +kernel)
      | intro _ | rfl | dsimp only | split)

/-- What `execResyncComplete` keeps. -/
theorem execResyncComplete_evolves {A : List Part} {s₀ s : State} (h : Evolves A s₀ s) (e : Eng) (bad : Bool)
    (hA : covers ([Part.pick, .reg .PK_PSTAT, .reg .PK_ICOUNT, .reg .PK_REGION, .reg .PK_PARAMGO] ++ sf2Parts ++ onTimerParts) A = true) :
    ∃ u, execResyncComplete e bad s = .next u ∧ Evolves A s₀ u := by
  unfold execResyncComplete
  refine ⟨_, rfl, ?_⟩
  with_reducible repeat (first
      | assumption
      | apply State.onTimer_evolves
      | apply State.resyncFailed_evolves
      | apply State.put_evolves
      | apply State.startNext_evolves
      | apply State.startInv_evolves
      | (apply covers_trans _ hA; decide +kernel)
      | intro _ | rfl | dsimp only | split)

/-- What `State.pickPlainWrite` keeps. -/
theorem State.pickPlainWrite_evolves {A : List Part} {s₀ s : State} (h : Evolves A s₀ s) (e : Nat) (r : RegId) (v : Word) (hf : covers [.reg r] A = true) :
    Evolves A s₀ (s.pickPlainWrite e r v) := by
  unfold State.pickPlainWrite
  with_reducible repeat (first
      | assumption
      | apply State.regWrite_evolves
      | exact covers_nil _
      | intro _ | rfl | dsimp only | split)

/-! ### Machine/Ramp -/

/-- What `State.setRamp` keeps. -/
theorem State.setRamp_evolves {A : List Part} {s₀ s : State} (h : Evolves A s₀ s) (r : Nat) (u : RampU) (hA : covers [.power] A = true) :
    Evolves A s₀ (s.setRamp r u) := by
  unfold State.setRamp
  with_reducible repeat (first
      | assumption
      | (apply covers_trans _ hA; decide +kernel)
      | intro _ | rfl | dsimp only | split
      | (apply power_evolves; first | assumption | intro _ | rfl | dsimp only | split))

/-- What `State.rampDenied` keeps. -/
theorem State.rampDenied_evolves {A : List Part} {s₀ s : State} (h : Evolves A s₀ s) (r : Nat) (hA : covers [.fresh, .reg .RG_RSTAT] A = true) :
    Evolves A s₀ (s.rampDenied r) := by
  unfold State.rampDenied
  with_reducible repeat (first
      | assumption
      | apply State.put_evolves
      | (apply covers_trans _ hA; decide +kernel)
      | intro _ | rfl | dsimp only | split)

/-- What `State.rampEnter` keeps. -/
theorem State.rampEnter_evolves {A : List Part} {s₀ s : State} (h : Evolves A s₀ s) (r : Nat)
    (hA : covers ([Part.power, .reg .RG_RSTAT, .reg .RG_RVAL, .reg .SE_CAPSTART] ++ seamParts) A = true) :
    Evolves A s₀ (s.rampEnter r) := by
  unfold State.rampEnter
  with_reducible repeat (first
      | assumption
      | apply State.wrw_evolves
      | apply State.put_evolves
      | apply State.fire_evolves
      | apply State.arm_evolves
      | apply State.disarm_evolves
      | apply State.setRamp_evolves
      | (apply covers_trans _ hA; decide +kernel)
      | intro _ | rfl | dsimp only | split)

/-- What `State.rampHold` keeps. -/
theorem State.rampHold_evolves {A : List Part} {s₀ s : State} (h : Evolves A s₀ s) (r : Nat)
    (hA : covers ([Part.reg .RG_RSTAT] ++ raiseParts) A = true) :
    Evolves A s₀ (s.rampHold r) := by
  unfold State.rampHold
  with_reducible repeat (first
      | assumption
      | apply State.raise_evolves
      | apply State.disarm_evolves
      | apply State.put_evolves
      | (apply covers_trans _ hA; decide +kernel)
      | intro _ | rfl | dsimp only | split)

/-- What `State.rampToIdle` keeps. -/
theorem State.rampToIdle_evolves {A : List Part} {s₀ s : State} (h : Evolves A s₀ s) (r : Nat)
    (hA : covers [.fresh, .timers, .reg .RG_RSTAT] A = true) :
    Evolves A s₀ (s.rampToIdle r) := by
  unfold State.rampToIdle
  with_reducible repeat (first
      | assumption
      | apply State.disarm_evolves
      | apply State.put_evolves
      | (apply covers_trans _ hA; decide +kernel)
      | intro _ | rfl | dsimp only | split)

/-- What `State.rampGo` keeps. -/
theorem State.rampGo_evolves {A : List Part} {s₀ s : State} (h : Evolves A s₀ s) (r : Nat)
    (hA : covers ([Part.power, .reg .RG_RSTAT, .reg .RG_RVAL, .reg .SE_CAPSTART] ++ seamParts) A = true) :
    Evolves A s₀ (s.rampGo r) := by
  unfold State.rampGo
  with_reducible repeat (first
      | assumption
      | apply State.arm_evolves
      | apply State.put_evolves
      | apply State.rampEnter_evolves
      | apply State.rampDenied_evolves
      | (apply covers_trans _ hA; decide +kernel)
      | intro _ | rfl | dsimp only | split)

/-- What `State.rampFields` keeps. -/
theorem State.rampFields_evolves {A : List Part} {s₀ s : State} (h : Evolves A s₀ s) (r : Nat) (v : Word)
    (hA : covers [.fresh, .reg .RG_RCTL, .reg .RG_RSTAT] A = true) :
    Evolves A s₀ (s.rampFields r v) := by
  unfold State.rampFields
  with_reducible repeat (first
      | assumption
      | apply State.condWrite_evolves
      | apply State.rampDenied_evolves
      | (apply covers_trans _ hA; decide +kernel)
      | intro _ | rfl | dsimp only | split)

/-- What `State.rctlRampWrite` keeps. -/
theorem State.rctlRampWrite_evolves {A : List Part} {s₀ s : State} (h : Evolves A s₀ s) (r : Nat) (v : Word)
    (hA : covers ([Part.power, .reg .RG_RCTL, .reg .RG_RSTAT, .reg .RG_RVAL, .reg .SE_CAPSTART] ++ seamParts) A = true) :
    Evolves A s₀ (s.rctlRampWrite r v) := by
  unfold State.rctlRampWrite
  with_reducible repeat (first
      | assumption
      | apply State.rampDenied_evolves
      | apply State.rampFields_evolves
      | apply State.rampGo_evolves
      | apply State.rampToIdle_evolves
      | (apply covers_trans _ hA; decide +kernel)
      | intro _ | rfl | dsimp only | split)

/-- What `State.asRampOwner` keeps. -/
theorem State.asRampOwner_evolves {A : List Part} {s₀ s : State} (h : Evolves A s₀ s) (m : Master) (r : Nat) (f : State → State) (hf : ∀ x0, Evolves A s₀ x0 → Evolves A s₀ (f x0))
    (hA : covers [.fresh, .reg .BLK_BLKCTL] A = true) :
    Evolves A s₀ (s.asRampOwner m r f) := by
  unfold State.asRampOwner
  with_reducible repeat (first
      | assumption
      | apply hf
      | apply State.asCellOwner_evolves
      | (apply covers_trans _ hA; decide +kernel)
      | intro _ | rfl | dsimp only | split)

/-- What `State.rampPlainWrite` keeps. -/
theorem State.rampPlainWrite_evolves {A : List Part} {s₀ s : State} (h : Evolves A s₀ s) (g : RegId) (r : Nat) (n : Nat) (v : Word) (hf : covers [.reg g] A = true)
    (hA : covers [.fresh, .reg .RG_RSTAT] A = true) :
    Evolves A s₀ (s.rampPlainWrite g r n v) := by
  unfold State.rampPlainWrite
  with_reducible repeat (first
      | assumption
      | apply State.regWrite_evolves
      | apply State.condWrite_evolves
      | apply State.rampDenied_evolves
      | (apply covers_trans _ hA; decide +kernel)
      | intro _ | rfl | dsimp only | split)

/-- What `execAlignTimeout` keeps. -/
theorem execAlignTimeout_evolves {A : List Part} {s₀ s : State} (h : Evolves A s₀ s) (r : Gen)
    (hA : covers ([Part.reg .RG_RSTAT] ++ onTimerParts) A = true) :
    ∃ u, execAlignTimeout r s = .next u ∧ Evolves A s₀ u := by
  unfold execAlignTimeout
  refine ⟨_, rfl, ?_⟩
  with_reducible repeat (first
      | assumption
      | apply State.onTimer_evolves
      | apply State.put_evolves
      | apply State.rampToIdle_evolves
      | (apply covers_trans _ hA; decide +kernel)
      | intro _ | rfl | dsimp only | split)

/-- What `State.rampTick` keeps. -/
theorem State.rampTick_evolves {A : List Part} {s₀ s : State} (h : Evolves A s₀ s) (r : Nat)
    (hA : covers ([Part.power, .reg .RG_RSTAT, .reg .RG_RVAL] ++ raiseParts) A = true) :
    Evolves A s₀ (s.rampTick r) := by
  unfold State.rampTick
  with_reducible repeat (first
      | assumption
      | apply State.arm_evolves
      | apply State.setRamp_evolves
      | apply State.wrw_evolves
      | apply State.put_evolves
      | apply State.rampHold_evolves
      | (apply covers_trans _ hA; decide +kernel)
      | intro _ | rfl | dsimp only | split)

/-- What `execRampUpdate` keeps. -/
theorem execRampUpdate_evolves {A : List Part} {s₀ s : State} (h : Evolves A s₀ s) (r : Gen)
    (hA : covers ([Part.power, .reg .RG_RSTAT, .reg .RG_RVAL] ++ raiseParts ++ onTimerParts) A = true) :
    ∃ u, execRampUpdate r s = .next u ∧ Evolves A s₀ u := by
  unfold execRampUpdate
  refine ⟨_, rfl, ?_⟩
  with_reducible repeat (first
      | assumption
      | apply State.onTimer_evolves
      | apply State.rampTick_evolves
      | (apply covers_trans _ hA; decide +kernel)
      | intro _ | rfl | dsimp only | split)

/-- What `State.rampAlign` keeps. -/
theorem State.rampAlign_evolves {A : List Part} {s₀ s : State} (h : Evolves A s₀ s) (c : Nat)
    (hA : covers ([Part.power, .reg .RG_RSTAT, .reg .RG_RVAL, .reg .SE_CAPSTART] ++ seamParts) A = true) :
    Evolves A s₀ (s.rampAlign c) := by
  unfold State.rampAlign
  with_reducible repeat (first
      | assumption
      | apply State.each_evolves
      | apply State.rampEnter_evolves
      | (apply covers_trans _ hA; decide +kernel)
      | intro _ | rfl | dsimp only | split)

/-! ### Machine/Sensing -/

/-- What `State.setSeq` keeps. -/
theorem State.setSeq_evolves {A : List Part} {s₀ s : State} (h : Evolves A s₀ s) (q : Nat) (u : SeqU) (hA : covers [.sense] A = true) :
    Evolves A s₀ (s.setSeq q u) := by
  unfold State.setSeq
  with_reducible repeat (first
      | assumption
      | (apply covers_trans _ hA; decide +kernel)
      | intro _ | rfl | dsimp only | split
      | (apply sense_evolves; first | assumption | intro _ | rfl | dsimp only | split))

/-- What `State.updSlice` keeps. -/
theorem State.updSlice_evolves {A : List Part} {s₀ s : State} (h : Evolves A s₀ s) (c : Nat) (j : Nat) (f : SliceU → SliceU)
    (hA : covers [.sense] A = true) :
    Evolves A s₀ (s.updSlice c j f) := by
  unfold State.updSlice
  with_reducible repeat (first
      | assumption
      | (apply covers_trans _ hA; decide +kernel)
      | intro _ | rfl | dsimp only | split
      | (apply sense_evolves; first | assumption | intro _ | rfl | dsimp only | split))

/-- What `State.updTrk` keeps. -/
theorem State.updTrk_evolves {A : List Part} {s₀ s : State} (h : Evolves A s₀ s) (c : Nat) (f : TrackU → TrackU) (hA : covers [.sense] A = true) :
    Evolves A s₀ (s.updTrk c f) := by
  unfold State.updTrk
  with_reducible repeat (first
      | assumption
      | (apply covers_trans _ hA; decide +kernel)
      | intro _ | rfl | dsimp only | split
      | (apply sense_evolves; first | assumption | intro _ | rfl | dsimp only | split))

/-- What `State.armAt` keeps. -/
theorem State.armAt_evolves {A : List Part} {s₀ s : State} (h : Evolves A s₀ s) (t : Timer) (d : Nat) (hA : covers [.timers] A = true) :
    Evolves A s₀ (s.armAt t d) := by
  unfold State.armAt
  with_reducible repeat (first
      | assumption
      | apply State.disarm_evolves
      | (apply covers_trans _ hA; decide +kernel)
      | intro _ | rfl | dsimp only | split
      | (apply timers_evolves; first | assumption | apply State.disarm_evolves | intro _ | rfl | dsimp only | split))

/-- What `State.publishRecord` keeps. -/
theorem State.publishRecord_evolves {A : List Part} {s₀ s : State} (h : Evolves A s₀ s) (c : Nat) (r : Int × Int × Nat)
    (hA : covers ([Part.reg .SN_MMMIN, .reg .SN_MMMAX, .reg .SN_MMINFO] ++ seamParts) A = true) :
    Evolves A s₀ (s.publishRecord c r) := by
  unfold State.publishRecord
  with_reducible repeat (first
      | assumption
      | apply State.put_evolves
      | apply State.wrw_evolves
      | apply State.bump_evolves
      | apply State.record_evolves
      | (apply covers_trans _ hA; decide +kernel)
      | intro _ | rfl | dsimp only | split)

/-- What `State.mmClose` keeps. -/
theorem State.mmClose_evolves {A : List Part} {s₀ s : State} (h : Evolves A s₀ s) (c : Nat) (hA : covers [.timers, .sense] A = true) :
    Evolves A s₀ (s.mmClose c) := by
  unfold State.mmClose
  with_reducible repeat (first
      | assumption
      | apply State.updTrk_evolves
      | apply State.arm_evolves
      | (apply covers_trans _ hA; decide +kernel)
      | intro _ | rfl | dsimp only | split)

/-- What `State.mmEvent` keeps. -/
theorem State.mmEvent_evolves {A : List Part} {s₀ s : State} (h : Evolves A s₀ s) (c : Nat) (hA : covers [.timers, .sense] A = true) :
    Evolves A s₀ (s.mmEvent c) := by
  unfold State.mmEvent
  with_reducible repeat (first
      | assumption
      | apply State.mmClose_evolves
      | (apply covers_trans _ hA; decide +kernel)
      | intro _ | rfl | dsimp only | split)

/-- What `State.mmSlice` keeps. -/
theorem State.mmSlice_evolves {A : List Part} {s₀ s : State} (h : Evolves A s₀ s) (c : Nat) (j : Nat) (hA : covers [.timers, .sense] A = true) :
    Evolves A s₀ (s.mmSlice c j) := by
  unfold State.mmSlice
  with_reducible repeat (first
      | assumption
      | apply State.mmClose_evolves
      | (apply covers_trans _ hA; decide +kernel)
      | intro _ | rfl | dsimp only | split)

/-- What `State.publishDue` keeps. -/
theorem State.publishDue_evolves {A : List Part} {s₀ s : State} (h : Evolves A s₀ s) (c : Nat)
    (hA : covers ([Part.sense, .reg .SN_MMMIN, .reg .SN_MMMAX, .reg .SN_MMINFO] ++ seamParts) A = true) :
    Evolves A s₀ (s.publishDue c) := by
  unfold State.publishDue
  with_reducible repeat (first
      | assumption
      | apply State.publishRecord_evolves
      | apply State.updTrk_evolves
      | apply State.arm_evolves
      | (apply covers_trans _ hA; decide +kernel)
      | intro _ | rfl | dsimp only | split)

/-- What `State.closeWindow` keeps. -/
theorem State.closeWindow_evolves {A : List Part} {s₀ s : State} (h : Evolves A s₀ s) (c : Nat) (j : Nat) (hA : covers [.timers, .sense] A = true) :
    Evolves A s₀ (s.closeWindow c j) := by
  unfold State.closeWindow
  with_reducible repeat (first
      | assumption
      | apply State.mmSlice_evolves
      | apply State.arm_evolves
      | apply State.updSlice_evolves
      | (apply covers_trans _ hA; decide +kernel)
      | intro _ | rfl | dsimp only | split)

/-- What `State.closeSlice` keeps. -/
theorem State.closeSlice_evolves {A : List Part} {s₀ s : State} (h : Evolves A s₀ s) (c : Nat) (j : Nat)
    (hA : covers [.fresh, .timers, .sense, .reg .SN_SLGAP] A = true) :
    Evolves A s₀ (s.closeSlice c j) := by
  unfold State.closeSlice
  with_reducible repeat (first
      | assumption
      | apply State.updSlice_evolves
      | apply State.bumpSat_evolves
      | apply State.closeWindow_evolves
      | (apply covers_trans _ hA; decide +kernel)
      | intro _ | rfl | dsimp only | split)

/-- What `State.enterSample` keeps. -/
theorem State.enterSample_evolves {A : List Part} {s₀ s : State} (h : Evolves A s₀ s) (c : Nat) (j : Nat) (x : Int)
    (hA : covers [.fresh, .timers, .sense, .reg .SN_SLGAP] A = true) :
    Evolves A s₀ (s.enterSample c j x) := by
  unfold State.enterSample
  with_reducible repeat (first
      | assumption
      | apply State.bumpSat_evolves
      | apply State.updSlice_evolves
      | apply State.closeWindow_evolves
      | (apply covers_trans _ hA; decide +kernel)
      | intro _ | rfl | dsimp only | split)

/-- What `State.joinSample` keeps. -/
theorem State.joinSample_evolves {A : List Part} {s₀ s : State} (h : Evolves A s₀ s) (c : Nat) (j : Nat) (x : Int)
    (hA : covers [.fresh, .timers, .sense, .reg .SN_SLGAP] A = true) :
    Evolves A s₀ (s.joinSample c j x) := by
  unfold State.joinSample
  with_reducible repeat (first
      | assumption
      | apply State.updSlice_evolves
      | apply State.enterSample_evolves
      | apply State.closeWindow_evolves
      | apply State.put_evolves
      | (apply covers_trans _ hA; decide +kernel)
      | intro _ | rfl | dsimp only | split)

/-- What `State.addSample` keeps. -/
theorem State.addSample_evolves {A : List Part} {s₀ s : State} (h : Evolves A s₀ s) (c : Nat) (j : Nat) (x : Int)
    (hA : covers [.fresh, .timers, .sense, .reg .SN_SLGAP] A = true) :
    Evolves A s₀ (s.addSample c j x) := by
  unfold State.addSample
  with_reducible repeat (first
      | assumption
      | apply State.joinSample_evolves
      | apply State.enterSample_evolves
      | (apply covers_trans _ hA; decide +kernel)
      | intro _ | rfl | dsimp only | split)

/-- What `State.trackSample` keeps. -/
theorem State.trackSample_evolves {A : List Part} {s₀ s : State} (h : Evolves A s₀ s) (c : Nat) (x : Int) (hA : covers [.sense] A = true) :
    Evolves A s₀ (s.trackSample c x) := by
  unfold State.trackSample
  with_reducible repeat (first
      | assumption
      | apply State.updTrk_evolves
      | (apply covers_trans _ hA; decide +kernel)
      | intro _ | rfl | dsimp only | split)

/-- What `State.deliverSample` keeps. -/
theorem State.deliverSample_evolves {A : List Part} {s₀ s : State} (h : Evolves A s₀ s) (c : Nat) (x : Int)
    (hA : covers [.fresh, .timers, .sense, .reg .SN_SLGAP] A = true) :
    Evolves A s₀ (s.deliverSample c x) := by
  unfold State.deliverSample
  with_reducible repeat (first
      | assumption
      | apply State.addSample_evolves
      | apply State.trackSample_evolves
      | (apply covers_trans _ hA; decide +kernel)
      | intro _ | rfl | dsimp only | split)

/-- What `State.closeBy` keeps. -/
theorem State.closeBy_evolves {A : List Part} {s₀ s : State} (h : Evolves A s₀ s) (mode : Nat) (src : Nat)
    (hA : covers [.fresh, .timers, .sense, .reg .SN_SLGAP] A = true) :
    Evolves A s₀ (s.closeBy mode src) := by
  unfold State.closeBy
  with_reducible repeat (first
      | assumption
      | apply State.each_evolves
      | apply State.closeSlice_evolves
      | (apply covers_trans _ hA; decide +kernel)
      | intro _ | rfl | dsimp only | split)

/-- What `State.accRequests` keeps. -/
theorem State.accRequests_evolves {A : List Part} {s₀ s : State} (h : Evolves A s₀ s) (c : Nat) (j : Nat)
    (hA : covers [.fresh, .now, .head, .plan, .drift, .pick, .reg .HF_TURN, .reg .SP_REMAIN0, .reg .PK_LATE] A = true) :
    Evolves A s₀ (s.accRequests c j) := by
  unfold State.accRequests
  with_reducible repeat (first
      | assumption
      | apply State.advance_evolves
      | apply State.each_evolves
      | apply State.request_evolves
      | (apply covers_trans _ hA; decide +kernel)
      | intro _ | rfl | dsimp only | split)

/-- What `State.publishWindow` keeps. -/
theorem State.publishWindow_evolves {A : List Part} {s₀ s : State} (h : Evolves A s₀ s) (c : Nat) (j : Nat)
    (hA : covers ([Part.power, .pick, .sense, .reg .PK_LATE, .reg .SN_CHSTAT, .reg .SN_SLMEAN, .reg .SN_SLINFO, .reg .RG_RSTAT, .reg .RG_RVAL,
      .reg .SE_CAPSTART] ++ seamParts ++ onTimerParts) A = true) :
    Evolves A s₀ (s.publishWindow c j) := by
  unfold State.publishWindow
  with_reducible repeat (first
      | assumption
      | apply State.updSlice_evolves
      | apply State.put_evolves
      | apply State.wrw_evolves
      | apply State.bump_evolves
      | apply State.accRequests_evolves
      | apply State.record_evolves
      | apply State.rampAlign_evolves
      | (apply covers_trans _ hA; decide +kernel)
      | intro _ | rfl | dsimp only | split)

/-- What `State.recordDue` keeps. -/
theorem State.recordDue_evolves {A : List Part} {s₀ s : State} (h : Evolves A s₀ s) (c : Nat)
    (hA : covers ([Part.sense, .reg .SN_MMMIN, .reg .SN_MMMAX, .reg .SN_MMINFO] ++ seamParts) A = true) :
    Evolves A s₀ (s.recordDue c) := by
  unfold State.recordDue
  with_reducible repeat (first
      | assumption
      | apply State.publishDue_evolves
      | apply State.disarm_evolves
      | (apply covers_trans _ hA; decide +kernel)
      | intro _ | rfl | dsimp only | split)

/-- What `execWindowPublish` keeps. -/
theorem execWindowPublish_evolves {A : List Part} {s₀ s : State} (h : Evolves A s₀ s) (c : Chan) (j : Fin 2)
    (hA : covers ([Part.power, .pick, .sense, .reg .PK_LATE, .reg .SN_CHSTAT, .reg .SN_SLMEAN, .reg .SN_SLINFO, .reg .SN_MMMIN, .reg .SN_MMMAX,
      .reg .SN_MMINFO, .reg .RG_RSTAT, .reg .RG_RVAL, .reg .SE_CAPSTART] ++ seamParts ++ onTimerParts) A = true) :
    ∃ u, execWindowPublish c j s = .next u ∧ Evolves A s₀ u := by
  unfold execWindowPublish
  refine ⟨_, rfl, ?_⟩
  with_reducible repeat (first
      | assumption
      | apply State.onTimer_evolves
      | apply State.recordDue_evolves
      | apply State.publishWindow_evolves
      | apply State.publishDue_evolves
      | (apply covers_trans _ hA; decide +kernel)
      | intro _ | rfl | dsimp only | split)

/-- What `State.sliceNotReady` keeps. -/
theorem State.sliceNotReady_evolves {A : List Part} {s₀ s : State} (h : Evolves A s₀ s) (c : Nat) (j : Nat)
    (hA : covers [.fresh, .timers, .sense, .reg .SN_SLMEAN, .reg .SN_SLINFO] A = true) :
    Evolves A s₀ (s.sliceNotReady c j) := by
  unfold State.sliceNotReady
  with_reducible repeat (first
      | assumption
      | apply State.disarm_evolves
      | apply State.updSlice_evolves
      | apply State.put_evolves
      | (apply covers_trans _ hA; decide +kernel)
      | intro _ | rfl | dsimp only | split)

/-- What `State.chanNotReady` keeps. -/
theorem State.chanNotReady_evolves {A : List Part} {s₀ s : State} (h : Evolves A s₀ s) (c : Nat)
    (hA : covers [.fresh, .timers, .sense, .reg .SN_CHSTAT, .reg .SN_SLMEAN, .reg .SN_SLINFO, .reg .SN_MMMIN, .reg .SN_MMMAX,
      .reg .SN_MMINFO] A = true) :
    Evolves A s₀ (s.chanNotReady c) := by
  unfold State.chanNotReady
  with_reducible repeat (first
      | assumption
      | apply State.disarm_evolves
      | apply State.updTrk_evolves
      | apply State.sliceNotReady_evolves
      | apply State.put_evolves
      | (apply covers_trans _ hA; decide +kernel)
      | intro _ | rfl | dsimp only | split)

/-- What `State.refDrop` keeps. -/
theorem State.refDrop_evolves {A : List Part} {s₀ s : State} (h : Evolves A s₀ s)
    (hA : covers ([Part.sense, .reg .SN_CTL, .reg .SN_CHSTAT, .reg .SN_SLMEAN, .reg .SN_SLINFO, .reg .SN_MMMIN, .reg .SN_MMMAX,
      .reg .SN_MMINFO] ++ raiseParts) A = true) :
    Evolves A s₀ (s.refDrop) := by
  unfold State.refDrop
  with_reducible repeat (first
      | assumption
      | apply State.raise_evolves
      | apply State.each_evolves
      | apply State.put_evolves
      | apply State.chanNotReady_evolves
      | (apply covers_trans _ hA; decide +kernel)
      | intro _ | rfl | dsimp only | split)

/-- What `State.ctlSenseWrite` keeps. -/
theorem State.ctlSenseWrite_evolves {A : List Part} {s₀ s : State} (h : Evolves A s₀ s) (v : Word)
    (hA : covers ([Part.sense, .reg .SN_CTL, .reg .SN_CHSTAT, .reg .SN_SLMEAN, .reg .SN_SLINFO, .reg .SN_MMMIN, .reg .SN_MMMAX,
      .reg .SN_MMINFO] ++ raiseParts) A = true) :
    Evolves A s₀ (s.ctlSenseWrite v) := by
  unfold State.ctlSenseWrite
  with_reducible repeat (first
      | assumption
      | apply State.regWrite_evolves
      | apply State.arm_evolves
      | apply State.refDrop_evolves
      | apply State.disarm_evolves
      | (apply covers_trans _ hA; decide +kernel)
      | intro _ | rfl | dsimp only | split)

/-- What `State.senseWrite` keeps. -/
theorem State.senseWrite_evolves {A : List Part} {s₀ s : State} (h : Evolves A s₀ s) (m : Master) (f : State → State) (hf : ∀ x0, Evolves A s₀ x0 → Evolves A s₀ (f x0))
    (hA : covers [.fresh, .reg .SN_CTL] A = true) :
    Evolves A s₀ (s.senseWrite m f) := by
  unfold State.senseWrite
  with_reducible repeat (first
      | assumption
      | apply hf
      | apply State.put_evolves
      | (apply covers_trans _ hA; decide +kernel)
      | intro _ | rfl | dsimp only | split)

/-- What `execRefrdy` keeps. -/
theorem execRefrdy_evolves {A : List Part} {s₀ s : State} (h : Evolves A s₀ s)
    (hA : covers ([Part.reg .SN_CTL] ++ raiseParts ++ onTimerParts) A = true) :
    ∃ u, execRefrdy s = .next u ∧ Evolves A s₀ u := by
  unfold execRefrdy
  refine ⟨_, rfl, ?_⟩
  with_reducible repeat (first
      | assumption
      | apply State.onTimer_evolves
      | apply State.raise_evolves
      | apply State.put_evolves
      | (apply covers_trans _ hA; decide +kernel)
      | intro _ | rfl | dsimp only | split)

/-- What `execReferenceFault` keeps. -/
theorem execReferenceFault_evolves {A : List Part} {s₀ s : State} (h : Evolves A s₀ s)
    (hA : covers ([Part.sense, .reg .SN_CTL, .reg .SN_CHSTAT, .reg .SN_SLMEAN, .reg .SN_SLINFO, .reg .SN_MMMIN, .reg .SN_MMMAX,
      .reg .SN_MMINFO] ++ raiseParts) A = true) :
    ∃ u, execReferenceFault s = .next u ∧ Evolves A s₀ u := by
  unfold execReferenceFault
  refine ⟨_, rfl, ?_⟩
  with_reducible repeat (first
      | assumption
      | apply State.refDrop_evolves
      | (apply covers_trans _ hA; decide +kernel)
      | intro _ | rfl | dsimp only | split)

/-- What `State.seqTrigger` keeps. -/
theorem State.seqTrigger_evolves {A : List Part} {s₀ s : State} (h : Evolves A s₀ s) (q : Nat) (pwm : Bool)
    (hA : covers [.fresh, .timers, .reg .SN_SEQSTAT] A = true) :
    Evolves A s₀ (s.seqTrigger q pwm) := by
  unfold State.seqTrigger
  with_reducible repeat (first
      | assumption
      | apply State.bumpSat_evolves
      | apply State.arm_evolves
      | apply State.put_evolves
      | (apply covers_trans _ hA; decide +kernel)
      | intro _ | rfl | dsimp only | split)

/-- What `State.seqCarrier` keeps. -/
theorem State.seqCarrier_evolves {A : List Part} {s₀ s : State} (h : Evolves A s₀ s) (g : Nat) (peak : Bool)
    (hA : covers [.fresh, .timers, .reg .SN_SEQSTAT] A = true) :
    Evolves A s₀ (s.seqCarrier g peak) := by
  unfold State.seqCarrier
  with_reducible repeat (first
      | assumption
      | apply State.each_evolves
      | apply State.seqTrigger_evolves
      | (apply covers_trans _ hA; decide +kernel)
      | intro _ | rfl | dsimp only | split)

/-- What `State.seqCanary` keeps. -/
theorem State.seqCanary_evolves {A : List Part} {s₀ s : State} (h : Evolves A s₀ s) (w : Nat)
    (hA : covers [.fresh, .timers, .reg .SN_SEQSTAT] A = true) :
    Evolves A s₀ (s.seqCanary w) := by
  unfold State.seqCanary
  with_reducible repeat (first
      | assumption
      | apply State.each_evolves
      | apply State.seqTrigger_evolves
      | (apply covers_trans _ hA; decide +kernel)
      | intro _ | rfl | dsimp only | split)

/-- What `State.convEdge` keeps. -/
theorem State.convEdge_evolves {A : List Part} {s₀ s : State} (h : Evolves A s₀ s) (d : Nat) (hA : covers [.freeIdx] A = true) :
    Evolves A s₀ (s.convEdge d).2 := by
  unfold State.convEdge
  with_reducible repeat (first
      | assumption
      | apply State.free_evolves
      | (apply covers_trans _ hA; decide +kernel)
      | intro _ | rfl | dsimp only | split)

/-- What `State.seqRun` keeps. -/
theorem State.seqRun_evolves {A : List Part} {s₀ s : State} (h : Evolves A s₀ s) (q : Nat) (e : Nat)
    (hA : covers [.fresh, .timers, .sense, .reg .SN_SEQSTAT] A = true) :
    Evolves A s₀ (s.seqRun q e) := by
  unfold State.seqRun
  with_reducible repeat (first
      | assumption
      | apply State.put_evolves
      | apply State.armAt_evolves
      | apply State.disarm_evolves
      | apply State.setSeq_evolves
      | (apply covers_trans _ hA; decide +kernel)
      | intro _ | rfl | dsimp only | split
      | (apply sense_evolves; first | assumption | apply State.put_evolves | apply State.armAt_evolves | apply State.disarm_evolves | apply State.setSeq_evolves | intro _ | rfl | dsimp only | split))

/-- What `State.seqDropped` keeps. -/
theorem State.seqDropped_evolves {A : List Part} {s₀ s : State} (h : Evolves A s₀ s) (q : Nat)
    (hA : covers ([Part.sense, .reg .SN_SEQSTAT] ++ raiseParts) A = true) :
    Evolves A s₀ (s.seqDropped q) := by
  unfold State.seqDropped
  with_reducible repeat (first
      | assumption
      | apply State.setSeq_evolves
      | apply State.put_evolves
      | apply State.raise_evolves
      | apply State.bumpSat_evolves
      | (apply covers_trans _ hA; decide +kernel)
      | intro _ | rfl | dsimp only | split)

/-- What `State.seqPoint` keeps. -/
theorem State.seqPoint_evolves {A : List Part} {s₀ s : State} (h : Evolves A s₀ s) (q : Nat) (rival : Bool)
    (hA : covers ([Part.freeIdx, .sense, .reg .SN_SEQSTAT] ++ raiseParts) A = true) :
    Evolves A s₀ (s.seqPoint q rival) := by
  unfold State.seqPoint
  with_reducible repeat (first
      | assumption
      | apply State.convEdge_evolves
      | apply State.seqRun_evolves
      | apply State.put_evolves
      | apply State.seqDropped_evolves
      | apply State.armAt_evolves
      | apply State.setSeq_evolves
      | (apply covers_trans _ hA; decide +kernel)
      | intro _ | rfl | dsimp only | split)

/-- What `execSequenceRunStart` keeps. -/
theorem execSequenceRunStart_evolves {A : List Part} {s₀ s : State} (h : Evolves A s₀ s) (q : Sequ)
    (hA : covers ([Part.freeIdx, .sense, .reg .SN_SEQSTAT] ++ raiseParts ++ onTimerParts) A = true) :
    ∃ u, execSequenceRunStart q s = .next u ∧ Evolves A s₀ u := by
  unfold execSequenceRunStart
  refine ⟨_, rfl, ?_⟩
  with_reducible repeat (first
      | assumption
      | apply State.advanceTo_evolves
      | apply State.seqRun_evolves
      | apply State.seqPoint_evolves
      | apply State.disarm_evolves
      | (apply covers_trans _ hA; decide +kernel)
      | intro _ | rfl | dsimp only | split)

/-- What `execDropped` keeps. -/
theorem execDropped_evolves {A : List Part} {s₀ s : State} (h : Evolves A s₀ s) (q : Sequ)
    (hA : covers ([Part.sense, .reg .SN_SEQSTAT] ++ raiseParts ++ onTimerParts) A = true) :
    ∃ u, execDropped q s = .next u ∧ Evolves A s₀ u := by
  unfold execDropped
  refine ⟨_, rfl, ?_⟩
  with_reducible repeat (first
      | assumption
      | apply State.onTimer_evolves
      | apply State.seqDropped_evolves
      | apply State.seqRun_evolves
      | (apply covers_trans _ hA; decide +kernel)
      | intro _ | rfl | dsimp only | split)

/-- What `State.sarSample` keeps. -/
theorem State.sarSample_evolves {A : List Part} {s₀ s : State} (h : Evolves A s₀ s) (c : Nat) (n : BitVec 16)
    (hA : covers ([Part.sense, .reg .SN_CHSTAT, .reg .SN_SLGAP] ++ raiseParts) A = true) :
    Evolves A s₀ (s.sarSample c n) := by
  unfold State.sarSample
  with_reducible repeat (first
      | assumption
      | apply State.raise_evolves
      | apply State.put_evolves
      | apply State.deliverSample_evolves
      | (apply covers_trans _ hA; decide +kernel)
      | intro _ | rfl | dsimp only | split)

/-- What `State.stepResults` keeps. -/
theorem State.stepResults_evolves {A : List Part} {s₀ s : State} (h : Evolves A s₀ s) (mask : Word) (p : Nat) (codes : Vector (BitVec 16) 32)
    (hA : covers ([Part.sense, .reg .SN_CHSTAT, .reg .SN_SLGAP] ++ raiseParts) A = true) :
    Evolves A s₀ (s.stepResults mask p codes) := by
  unfold State.stepResults
  with_reducible repeat (first
      | assumption
      | apply State.each_evolves
      | apply State.sarSample_evolves
      | (apply covers_trans _ hA; decide +kernel)
      | intro _ | rfl | dsimp only | split)

/-- What `State.seqEnd` keeps. -/
theorem State.seqEnd_evolves {A : List Part} {s₀ s : State} (h : Evolves A s₀ s) (q : Nat)
    (hA : covers ([Part.sense, .reg .SN_SEQSTAT, .reg .SN_SLGAP] ++ raiseParts) A = true) :
    Evolves A s₀ (s.seqEnd q) := by
  unfold State.seqEnd
  with_reducible repeat (first
      | assumption
      | apply State.raise_evolves
      | apply State.closeBy_evolves
      | apply State.put_evolves
      | (apply covers_trans _ hA; decide +kernel)
      | intro _ | rfl | dsimp only | split)

/-- What `execConversionEnd` keeps. -/
theorem execConversionEnd_evolves {A : List Part} {s₀ s : State} (h : Evolves A s₀ s) (q : Sequ) (codes : Vector (BitVec 16) 32)
    (hA : covers ([Part.sense, .reg .SN_SEQSTAT, .reg .SN_CHSTAT, .reg .SN_SLGAP] ++ raiseParts ++ onTimerParts) A = true) :
    ∃ u, execConversionEnd q codes s = .next u ∧ Evolves A s₀ u := by
  unfold execConversionEnd
  refine ⟨_, rfl, ?_⟩
  with_reducible repeat (first
      | assumption
      | apply State.onTimer_evolves
      | apply State.setSeq_evolves
      | apply State.stepResults_evolves
      | apply State.seqEnd_evolves
      | apply State.armAt_evolves
      | (apply covers_trans _ hA; decide +kernel)
      | intro _ | rfl | dsimp only | split)

/-- What `State.seqgoWrite` keeps. -/
theorem State.seqgoWrite_evolves {A : List Part} {s₀ s : State} (h : Evolves A s₀ s) (q : Nat) (v : Word)
    (hA : covers [.fresh, .timers, .reg .SN_SEQSTAT] A = true) :
    Evolves A s₀ (s.seqgoWrite q v) := by
  unfold State.seqgoWrite
  with_reducible repeat (first
      | assumption
      | apply State.seqTrigger_evolves
      | (apply covers_trans _ hA; decide +kernel)
      | intro _ | rfl | dsimp only | split)

/-- What `State.seqCancel` keeps. -/
theorem State.seqCancel_evolves {A : List Part} {s₀ s : State} (h : Evolves A s₀ s) (q : Nat)
    (hA : covers [.fresh, .timers, .sense, .reg .SN_SEQSTAT] A = true) :
    Evolves A s₀ (s.seqCancel q) := by
  unfold State.seqCancel
  with_reducible repeat (first
      | assumption
      | apply State.disarm_evolves
      | apply State.setSeq_evolves
      | apply State.put_evolves
      | (apply covers_trans _ hA; decide +kernel)
      | intro _ | rfl | dsimp only | split)

/-- What `State.seqctlWrite` keeps. -/
theorem State.seqctlWrite_evolves {A : List Part} {s₀ s : State} (h : Evolves A s₀ s) (q : Nat) (v : Word)
    (hA : covers [.fresh, .timers, .sense, .reg .SN_CTL, .reg .SN_SEQCTL, .reg .SN_SEQSTAT] A = true) :
    Evolves A s₀ (s.seqctlWrite q v) := by
  unfold State.seqctlWrite
  with_reducible repeat (first
      | assumption
      | apply State.put_evolves
      | apply State.condWrite_evolves
      | apply State.seqCancel_evolves
      | (apply covers_trans _ hA; decide +kernel)
      | intro _ | rfl | dsimp only | split)

/-- What `State.seqPlainWrite` keeps. -/
theorem State.seqPlainWrite_evolves {A : List Part} {s₀ s : State} (h : Evolves A s₀ s) (r : RegId) (q : Nat) (v : Word) (hf : covers [.reg r] A = true)
    (hA : covers [.fresh, .reg .SN_CTL] A = true) :
    Evolves A s₀ (s.seqPlainWrite r q v) := by
  unfold State.seqPlainWrite
  with_reducible repeat (first
      | assumption
      | apply State.regWrite_evolves
      | apply State.condWrite_evolves
      | apply State.put_evolves
      | (apply covers_trans _ hA; decide +kernel)
      | intro _ | rfl | dsimp only | split)

/-- What `State.setDiscard` keeps. -/
theorem State.setDiscard_evolves {A : List Part} {s₀ s : State} (h : Evolves A s₀ s) (c : Nat) (n : Nat) (hA : covers [.sense] A = true) :
    Evolves A s₀ (s.setDiscard c n) := by
  unfold State.setDiscard
  with_reducible repeat (first
      | assumption
      | (apply covers_trans _ hA; decide +kernel)
      | intro _ | rfl | dsimp only | split
      | (apply sense_evolves; first | assumption | intro _ | rfl | dsimp only | split))

/-- What `State.setRestart` keeps. -/
theorem State.setRestart_evolves {A : List Part} {s₀ s : State} (h : Evolves A s₀ s) (c : Nat) (t : Option Nat) (hA : covers [.sense] A = true) :
    Evolves A s₀ (s.setRestart c t) := by
  unfold State.setRestart
  with_reducible repeat (first
      | assumption
      | (apply covers_trans _ hA; decide +kernel)
      | intro _ | rfl | dsimp only | split
      | (apply sense_evolves; first | assumption | intro _ | rfl | dsimp only | split))

/-- What `State.sdValley` keeps. -/
theorem State.sdValley_evolves {A : List Part} {s₀ s : State} (h : Evolves A s₀ s) (g : Nat) (hA : covers [.sense] A = true) :
    Evolves A s₀ (s.sdValley g) := by
  unfold State.sdValley
  with_reducible repeat (first
      | assumption
      | apply State.each_evolves
      | apply State.setRestart_evolves
      | (apply covers_trans _ hA; decide +kernel)
      | intro _ | rfl | dsimp only | split)

/-- What `execSinc3Output` keeps. -/
theorem execSinc3Output_evolves {A : List Part} {s₀ s : State} (h : Evolves A s₀ s) (k : Fin 24) (y : Fin 16777217)
    (hA : covers [.fresh, .timers, .sense, .reg .SN_SLGAP] A = true) :
    ∃ u, execSinc3Output k y s = .next u ∧ Evolves A s₀ u := by
  unfold execSinc3Output
  refine ⟨_, rfl, ?_⟩
  with_reducible repeat (first
      | assumption
      | apply State.setRestart_evolves
      | apply State.setDiscard_evolves
      | apply State.deliverSample_evolves
      | (apply covers_trans _ hA; decide +kernel)
      | intro _ | rfl | dsimp only | split)

/-- What `execSdmStuck` keeps. -/
theorem execSdmStuck_evolves {A : List Part} {s₀ s : State} (h : Evolves A s₀ s) (k : Fin 24)
    (hA : covers ([Part.reg .SN_CHSTAT] ++ raiseParts) A = true) :
    ∃ u, execSdmStuck k s = .next u ∧ Evolves A s₀ u := by
  unfold execSdmStuck
  refine ⟨_, rfl, ?_⟩
  with_reducible repeat (first
      | assumption
      | apply State.raise_evolves
      | apply State.put_evolves
      | (apply covers_trans _ hA; decide +kernel)
      | intro _ | rfl | dsimp only | split)

/-- What `State.sdmckWrite` keeps. -/
theorem State.sdmckWrite_evolves {A : List Part} {s₀ s : State} (h : Evolves A s₀ s) (i : Nat) (v : Word)
    (hA : covers [.sense, .reg .SN_SDMCK] A = true) :
    Evolves A s₀ (s.sdmckWrite i v) := by
  unfold State.sdmckWrite
  with_reducible repeat (first
      | assumption
      | apply State.regWrite_evolves
      | apply State.each_evolves
      | apply State.setDiscard_evolves
      | (apply covers_trans _ hA; decide +kernel)
      | intro _ | rfl | dsimp only | split)

/-- What `State.chanDenied` keeps. -/
theorem State.chanDenied_evolves {A : List Part} {s₀ s : State} (h : Evolves A s₀ s) (c : Nat) (hA : covers [.fresh, .reg .SN_CHSTAT] A = true) :
    Evolves A s₀ (s.chanDenied c) := by
  unfold State.chanDenied
  with_reducible repeat (first
      | assumption
      | apply State.put_evolves
      | (apply covers_trans _ hA; decide +kernel)
      | intro _ | rfl | dsimp only | split)

/-- What `State.chanWrite` keeps. -/
theorem State.chanWrite_evolves {A : List Part} {s₀ s : State} (h : Evolves A s₀ s) (m : Master) (c : Nat) (f : State → State) (hf : ∀ x0, Evolves A s₀ x0 → Evolves A s₀ (f x0))
    (hA : covers [.fresh, .reg .BLK_BLKCTL, .reg .SN_CHSTAT] A = true) :
    Evolves A s₀ (s.chanWrite m c f) := by
  unfold State.chanWrite
  with_reducible repeat (first
      | assumption
      | apply hf
      | apply State.asCellOwner_evolves
      | apply State.chanDenied_evolves
      | (apply covers_trans _ hA; decide +kernel)
      | intro _ | rfl | dsimp only [id] | dsimp only | split)

/-- What `State.sdctlWrite` keeps. -/
theorem State.sdctlWrite_evolves {A : List Part} {s₀ s : State} (h : Evolves A s₀ s) (c : Nat) (v : Word)
    (hA : covers [.fresh, .sense, .reg .SN_SDCTL, .reg .SN_CHSTAT] A = true) :
    Evolves A s₀ (s.sdctlWrite c v) := by
  unfold State.sdctlWrite
  with_reducible repeat (first
      | assumption
      | apply State.chanDenied_evolves
      | apply State.condWrite_evolves
      | apply State.setDiscard_evolves
      | (apply covers_trans _ hA; decide +kernel)
      | intro _ | rfl | dsimp only | split)

/-- What `State.chctlSenseWrite` keeps. -/
theorem State.chctlSenseWrite_evolves {A : List Part} {s₀ s : State} (h : Evolves A s₀ s) (c : Nat) (v : Word)
    (hA : covers [.fresh, .sense, .reg .SN_CHCTL, .reg .SN_SDCTL, .reg .SN_CHSTAT] A = true) :
    Evolves A s₀ (s.chctlSenseWrite c v) := by
  unfold State.chctlSenseWrite
  with_reducible repeat (first
      | assumption
      | apply State.regWrite_evolves
      | apply State.sdctlWrite_evolves
      | (apply covers_trans _ hA; decide +kernel)
      | intro _ | rfl | dsimp only | split)

/-- What `State.slctlWrite` keeps. -/
theorem State.slctlWrite_evolves {A : List Part} {s₀ s : State} (h : Evolves A s₀ s) (c : Nat) (j : Nat) (v : Word)
    (hA : covers [.fresh, .sense, .reg .SN_CHSTAT, .reg .SN_SLCTL] A = true) :
    Evolves A s₀ (s.slctlWrite c j v) := by
  unfold State.slctlWrite
  with_reducible repeat (first
      | assumption
      | apply State.chanDenied_evolves
      | apply State.regWrite_evolves
      | apply State.updSlice_evolves
      | (apply covers_trans _ hA; decide +kernel)
      | intro _ | rfl | dsimp only | split)

/-- What `State.mmctlWrite` keeps. -/
theorem State.mmctlWrite_evolves {A : List Part} {s₀ s : State} (h : Evolves A s₀ s) (c : Nat) (v : Word)
    (hA : covers [.timers, .sense, .reg .SN_MMCTL] A = true) :
    Evolves A s₀ (s.mmctlWrite c v) := by
  unfold State.mmctlWrite
  with_reducible repeat (first
      | assumption
      | apply State.regWrite_evolves
      | apply State.updTrk_evolves
      | apply State.mmEvent_evolves
      | (apply covers_trans _ hA; decide +kernel)
      | intro _ | rfl | dsimp only | split)

/-- What `State.mmValley` keeps. -/
theorem State.mmValley_evolves {A : List Part} {s₀ s : State} (h : Evolves A s₀ s) (g : Nat) (hA : covers [.timers, .sense] A = true) :
    Evolves A s₀ (s.mmValley g) := by
  unfold State.mmValley
  with_reducible repeat (first
      | assumption
      | apply State.each_evolves
      | apply State.mmEvent_evolves
      | (apply covers_trans _ hA; decide +kernel)
      | intro _ | rfl | dsimp only | split)

/-- What `State.diagselWrite` keeps. -/
theorem State.diagselWrite_evolves {A : List Part} {s₀ s : State} (h : Evolves A s₀ s) (v : Word)
    (hA : covers [.fresh, .timers, .reg .SN_CTL, .reg .SN_DIAGSEL, .reg .SN_DIAGSTAT] A = true) :
    Evolves A s₀ (s.diagselWrite v) := by
  unfold State.diagselWrite
  with_reducible repeat (first
      | assumption
      | apply State.put_evolves
      | apply State.arm_evolves
      | apply State.regWrite_evolves
      | (apply covers_trans _ hA; decide +kernel)
      | intro _ | rfl | dsimp only | split)

/-- What `execDiagDone` keeps. -/
theorem execDiagDone_evolves {A : List Part} {s₀ s : State} (h : Evolves A s₀ s) (codes : Vector (BitVec 16) 16)
    (hA : covers ([Part.freeIdx, .reg .SN_DIAGRES, .reg .SN_DIAGSTAT] ++ raiseParts) A = true) :
    ∃ u, execDiagDone codes s = .next u ∧ Evolves A s₀ u := by
  unfold execDiagDone
  refine ⟨_, rfl, ?_⟩
  with_reducible repeat (first
      | assumption
      | apply State.free_evolves
      | apply State.raise_evolves
      | apply State.disarm_evolves
      | apply State.put_evolves
      | apply State.wrw_evolves
      | (apply covers_trans _ hA; decide +kernel)
      | intro _ | rfl | dsimp only | split)

/-- What `execDiagTimeout` keeps. -/
theorem execDiagTimeout_evolves {A : List Part} {s₀ s : State} (h : Evolves A s₀ s)
    (hA : covers ([Part.reg .SN_DIAGSTAT] ++ raiseParts ++ onTimerParts) A = true) :
    ∃ u, execDiagTimeout s = .next u ∧ Evolves A s₀ u := by
  unfold execDiagTimeout
  refine ⟨_, rfl, ?_⟩
  with_reducible repeat (first
      | assumption
      | apply State.onTimer_evolves
      | apply State.raise_evolves
      | apply State.put_evolves
      | (apply covers_trans _ hA; decide +kernel)
      | intro _ | rfl | dsimp only | split)

/-! ### Machine/Blocks -/

/-- What `State.enterBlk` keeps. -/
theorem State.enterBlk_evolves {A : List Part} {s₀ s : State} (h : Evolves A s₀ s) (b : Nat) (st : Nat)
    (hA : covers ([Part.pick, .reg .BLK_BLKCTL, .reg .RG_RSTAT] ++ raiseParts ++ coastParts ++ gateParts) A = true) :
    Evolves A s₀ (s.enterBlk b st) := by
  unfold State.enterBlk
  with_reducible repeat (first
      | assumption
      | apply State.updBlk_evolves
      | apply State.put_evolves
      | apply State.abortRamps_evolves
      | apply State.dropRequests_evolves
      | apply State.coastPick_evolves
      | apply State.regateBlock_evolves
      | (apply covers_trans _ hA; decide +kernel)
      | intro _ | rfl | dsimp only | split)

/-- What `State.stateDenied` keeps. -/
theorem State.stateDenied_evolves {A : List Part} {s₀ s : State} (h : Evolves A s₀ s) (b : Nat) (hA : covers [.fresh, .reg .BLK_BLKCTL] A = true) :
    Evolves A s₀ (s.stateDenied b) := by
  unfold State.stateDenied
  with_reducible repeat (first
      | assumption
      | apply State.put_evolves
      | (apply covers_trans _ hA; decide +kernel)
      | intro _ | rfl | dsimp only | split)

/-- What `State.noteAsked` keeps. -/
theorem State.noteAsked_evolves {A : List Part} {s₀ s : State} (h : Evolves A s₀ s) (b : Nat) (hA : covers [.power] A = true) :
    Evolves A s₀ (s.noteAsked b) := by
  unfold State.noteAsked
  with_reducible repeat (first
      | assumption
      | apply State.updBlk_evolves
      | (apply covers_trans _ hA; decide +kernel)
      | intro _ | rfl | dsimp only | split)

/-- What `State.blkAsk` keeps. -/
theorem State.blkAsk_evolves {A : List Part} {s₀ s : State} (h : Evolves A s₀ s) (m : Master) (b : Nat) (req : Nat)
    (hA : covers ([Part.pick, .reg .BLK_BLKCTL, .reg .RG_RSTAT] ++ raiseParts ++ coastParts ++ gateParts) A = true) :
    Evolves A s₀ (s.blkAsk m b req) := by
  unfold State.blkAsk
  with_reducible repeat (first
      | assumption
      | apply State.updBlk_evolves
      | apply State.stateDenied_evolves
      | apply State.enterBlk_evolves
      | (apply covers_trans _ hA; decide +kernel)
      | intro _ | rfl | dsimp only | split)

/-- What `State.blkRequest` keeps. -/
theorem State.blkRequest_evolves {A : List Part} {s₀ s : State} (h : Evolves A s₀ s) (m : Master) (b : Nat) (req : Nat)
    (hA : covers ([Part.pick, .reg .BLK_BLKCTL, .reg .RG_RSTAT] ++ raiseParts ++ coastParts ++ gateParts) A = true) :
    Evolves A s₀ (s.blkRequest m b req) := by
  unfold State.blkRequest
  with_reducible repeat (first
      | assumption
      | apply State.stateDenied_evolves
      | apply State.blkAsk_evolves
      | apply State.noteAsked_evolves
      | (apply covers_trans _ hA; decide +kernel)
      | intro _ | rfl | dsimp only | split)

/-- What `State.blkctlWrite` keeps. -/
theorem State.blkctlWrite_evolves {A : List Part} {s₀ s : State} (h : Evolves A s₀ s) (m : Master) (b : Nat) (v : Word)
    (hA : covers ([Part.pick, .reg .BLK_BLKCTL, .reg .RG_RSTAT] ++ raiseParts ++ coastParts ++ gateParts) A = true) :
    Evolves A s₀ (s.blkctlWrite m b v) := by
  unfold State.blkctlWrite
  with_reducible repeat (first
      | assumption
      | apply State.asOwner_evolves
      | apply State.condWrite_evolves
      | apply State.put_evolves
      | apply State.blkRequest_evolves
      | (apply covers_trans _ hA; decide +kernel)
      | intro _ | rfl | dsimp only | split)

/-- What `State.blkcellsWrite` keeps. -/
theorem State.blkcellsWrite_evolves {A : List Part} {s₀ s : State} (h : Evolves A s₀ s) (m : Master) (b : Nat) (hi : Bool) (v : Word)
    (hA : covers ([Part.reg .BLK_BLKCELLS0, .reg .BLK_BLKCELLS1, .reg .PW_ACTCMP, .reg .CG_CGSTAT, .reg .FM_FCAUSE] ++ sf2Parts ++
      seamParts) A = true) :
    Evolves A s₀ (s.blkcellsWrite m b hi v) := by
  unfold State.blkcellsWrite
  with_reducible repeat (first
      | assumption
      | apply State.asOwner_evolves
      | apply State.put_evolves
      | apply State.regWrite_evolves
      | apply State.followTurnoff_evolves
      | apply State.each_evolves
      | apply State.regate_evolves
      | apply State.showCmp_evolves
      | apply State.emit_evolves
      | (apply covers_trans _ hA; first | decide +kernel | (unfold cellsReg; split <;> decide +kernel))
      | intro _ | rfl | dsimp only | split)

/-! ### Machine/Canary -/

/-- What `State.regateWindow` keeps. -/
theorem State.regateWindow_evolves {A : List Part} {s₀ s : State} (h : Evolves A s₀ s) (w : Nat) (hA : covers gateParts A = true) :
    Evolves A s₀ (s.regateWindow w) := by
  unfold State.regateWindow
  with_reducible repeat (first
      | assumption
      | apply State.regateBlock_evolves
      | apply State.regate_evolves
      | (apply covers_trans _ hA; decide +kernel)
      | intro _ | rfl | dsimp only | split)

/-- What `State.updWin` keeps. -/
theorem State.updWin_evolves {A : List Part} {s₀ s : State} (h : Evolves A s₀ s) (w : Nat) (f : WinU → WinU) (hA : covers [.power] A = true) :
    Evolves A s₀ (s.updWin w f) := by
  unfold State.updWin
  with_reducible repeat (first
      | assumption
      | (apply covers_trans _ hA; decide +kernel)
      | intro _ | rfl | dsimp only | split
      | (apply power_evolves; first | assumption | intro _ | rfl | dsimp only | split))

/-- What `State.winReads` keeps. -/
theorem State.winReads_evolves {A : List Part} {s₀ s : State} (h : Evolves A s₀ s) (w : Nat) (pins : PinReads) (hA : covers [.power] A = true) :
    Evolves A s₀ (s.winReads w pins) := by
  unfold State.winReads
  with_reducible repeat (first
      | assumption
      | apply State.updWin_evolves
      | (apply covers_trans _ hA; decide +kernel)
      | intro _ | rfl | dsimp only | split)

/-- What `State.winAnew` keeps. -/
theorem State.winAnew_evolves {A : List Part} {s₀ s : State} (h : Evolves A s₀ s) (w : Nat) (hA : covers [.power] A = true) :
    Evolves A s₀ (s.winAnew w) := by
  unfold State.winAnew
  with_reducible repeat (first
      | assumption
      | apply State.updWin_evolves
      | (apply covers_trans _ hA; decide +kernel)
      | intro _ | rfl | dsimp only | split)

/-- What `State.winFollow` keeps. -/
theorem State.winFollow_evolves {A : List Part} {s₀ s : State} (h : Evolves A s₀ s) (before : State) (w : Nat) (hA : covers [.power] A = true) :
    Evolves A s₀ (s.winFollow before w) := by
  unfold State.winFollow
  with_reducible repeat (first
      | assumption
      | apply State.winAnew_evolves
      | (apply covers_trans _ hA; decide +kernel)
      | intro _ | rfl | dsimp only | split)

/-- What `State.winsFollow` keeps. -/
theorem State.winsFollow_evolves {A : List Part} {s₀ s : State} (h : Evolves A s₀ s) (before : State) (hA : covers [.power] A = true) :
    Evolves A s₀ (s.winsFollow before) := by
  unfold State.winsFollow
  with_reducible repeat (first
      | assumption
      | apply State.each_evolves
      | apply State.winFollow_evolves
      | (apply covers_trans _ hA; decide +kernel)
      | intro _ | rfl | dsimp only | split)

/-- What `State.winCross` keeps. -/
theorem State.winCross_evolves {A : List Part} {s₀ s : State} (h : Evolves A s₀ s) (k : Nat) (hi : Bool)
    (hA : covers ([Part.reg .SN_SEQSTAT, .reg .CN_WSTAT, .reg .CN_WSTAMP] ++ seamParts ++ gateParts) A = true) :
    Evolves A s₀ (s.winCross k hi) := by
  unfold State.winCross
  with_reducible repeat (first
      | assumption
      | apply State.put_evolves
      | apply State.raise_evolves
      | apply State.bumpSat_evolves
      | apply State.record_evolves
      | apply State.regateWindow_evolves
      | apply State.seqCanary_evolves
      | (apply covers_trans _ hA; first | decide +kernel | (simp only [winState_reg, winLatch_reg]; decide +kernel))
      | intro _ | rfl | dsimp only | split)

/-- What `execCanaryCrossing` keeps. -/
theorem execCanaryCrossing_evolves {A : List Part} {s₀ s : State} (h : Evolves A s₀ s) (w : WinRead) (hi : Bool)
    (hA : covers ([Part.reg .SN_SEQSTAT, .reg .CN_WSTAT, .reg .CN_WSTAMP] ++ seamParts ++ gateParts) A = true) :
    ∃ u, execCanaryCrossing w hi s = .next u ∧ Evolves A s₀ u := by
  unfold execCanaryCrossing
  refine ⟨_, rfl, ?_⟩
  with_reducible repeat (first
      | assumption
      | apply State.winReads_evolves
      | apply State.winCross_evolves
      | (apply covers_trans _ hA; decide +kernel)
      | intro _ | rfl | dsimp only | split)

/-- What `execCanaryStateDeassert` keeps. -/
theorem execCanaryStateDeassert_evolves {A : List Part} {s₀ s : State} (h : Evolves A s₀ s) (w : WinRead) (hi : Bool)
    (hA : covers [.fresh, .power, .reg .CN_WSTAT] A = true) :
    ∃ u, execCanaryStateDeassert w hi s = .next u ∧ Evolves A s₀ u := by
  unfold execCanaryStateDeassert
  refine ⟨_, rfl, ?_⟩
  with_reducible repeat (first
      | assumption
      | apply State.winReads_evolves
      | apply State.put_evolves
      | (apply covers_trans _ hA; first | decide +kernel | (simp only [winState_reg]; decide +kernel))
      | intro _ | rfl | dsimp only | split)

/-- What `State.latchClear` keeps. -/
theorem State.latchClear_evolves {A : List Part} {s₀ s : State} (h : Evolves A s₀ s) (w : Nat) (hi : Bool)
    (hA : covers [.fresh, .reg .CN_WSTAT] A = true) :
    Evolves A s₀ (s.latchClear w hi) := by
  unfold State.latchClear
  with_reducible repeat (first
      | assumption
      | apply State.put_evolves
      | (apply covers_trans _ hA; first | decide +kernel | (cases hi <;> decide +kernel))
      | intro _ | rfl | dsimp only | split)

/-- What `State.wstatWrite` keeps. -/
theorem State.wstatWrite_evolves {A : List Part} {s₀ s : State} (h : Evolves A s₀ s) (w : Nat) (v : Word)
    (hA : covers ([Part.reg .CN_WSTAT] ++ gateParts) A = true) :
    Evolves A s₀ (s.wstatWrite w v) := by
  unfold State.wstatWrite
  with_reducible repeat (first
      | assumption
      | apply State.put_evolves
      | apply State.latchClear_evolves
      | apply State.regateWindow_evolves
      | (apply covers_trans _ hA; decide +kernel)
      | intro _ | rfl | dsimp only | split)

/-- What `State.canaryValley` keeps. -/
theorem State.canaryValley_evolves {A : List Part} {s₀ s : State} (h : Evolves A s₀ s) (g : Nat)
    (hA : covers ([Part.reg .CN_WSTAT] ++ gateParts) A = true) :
    Evolves A s₀ (s.canaryValley g) := by
  unfold State.canaryValley
  with_reducible repeat (first
      | assumption
      | apply State.each_evolves
      | apply State.put_evolves
      | apply State.regateWindow_evolves
      | (apply covers_trans _ hA; decide +kernel)
      | intro _ | rfl | dsimp only | split)

/-- What `State.winDenied` keeps. -/
theorem State.winDenied_evolves {A : List Part} {s₀ s : State} (h : Evolves A s₀ s) (w : Nat) (hA : covers [.fresh, .reg .CN_WSTAT] A = true) :
    Evolves A s₀ (s.winDenied w) := by
  unfold State.winDenied
  with_reducible repeat (first
      | assumption
      | apply State.put_evolves
      | (apply covers_trans _ hA; decide +kernel)
      | intro _ | rfl | dsimp only | split)

/-- What `State.winSettle` keeps. -/
theorem State.winSettle_evolves {A : List Part} {s₀ s : State} (h : Evolves A s₀ s) (w : Nat)
    (hA : covers [.fresh, .timers, .reg .CN_WSTAT] A = true) :
    Evolves A s₀ (s.winSettle w) := by
  unfold State.winSettle
  with_reducible repeat (first
      | assumption
      | apply State.arm_evolves
      | apply State.put_evolves
      | (apply covers_trans _ hA; decide +kernel)
      | intro _ | rfl | dsimp only | split)

/-- What `State.wthrWrite` keeps. -/
theorem State.wthrWrite_evolves {A : List Part} {s₀ s : State} (h : Evolves A s₀ s) (w : Nat) (v : Word)
    (hA : covers [.fresh, .timers, .reg .CN_WTHR, .reg .CN_WSTAT] A = true) :
    Evolves A s₀ (s.wthrWrite w v) := by
  unfold State.wthrWrite
  with_reducible repeat (first
      | assumption
      | apply State.winDenied_evolves
      | apply State.winSettle_evolves
      | apply State.regWrite_evolves
      | (apply covers_trans _ hA; decide +kernel)
      | intro _ | rfl | dsimp only | split)

/-- What `execSettlingEnd` keeps. -/
theorem execSettlingEnd_evolves {A : List Part} {s₀ s : State} (h : Evolves A s₀ s) (w : Win)
    (hA : covers ([Part.reg .CN_WSTAT] ++ onTimerParts) A = true) :
    ∃ u, execSettlingEnd w s = .next u ∧ Evolves A s₀ u := by
  unfold execSettlingEnd
  refine ⟨_, rfl, ?_⟩
  with_reducible repeat (first
      | assumption
      | apply State.onTimer_evolves
      | apply State.put_evolves
      | (apply covers_trans _ hA; decide +kernel)
      | intro _ | rfl | dsimp only | split)

/-- What `State.winIdle` keeps. -/
theorem State.winIdle_evolves {A : List Part} {s₀ s : State} (h : Evolves A s₀ s) (w : Nat) (hA : covers [.fresh, .power, .reg .CN_WSTAT] A = true) :
    Evolves A s₀ (s.winIdle w) := by
  unfold State.winIdle
  with_reducible repeat (first
      | assumption
      | apply State.put_evolves
      | apply State.updWin_evolves
      | (apply covers_trans _ hA; first | decide +kernel | (simp only [winState_reg]; decide +kernel))
      | intro _ | rfl | dsimp only | split)

/-- What `State.winHold` keeps. -/
theorem State.winHold_evolves {A : List Part} {s₀ s : State} (h : Evolves A s₀ s) (w : Nat) (hA : covers [.fresh, .reg .CN_WSTAT] A = true) :
    Evolves A s₀ (s.winHold w) := by
  unfold State.winHold
  with_reducible repeat (first
      | assumption
      | apply State.put_evolves
      | (apply covers_trans _ hA; decide +kernel)
      | intro _ | rfl | dsimp only | split)

/-- What `State.wctlWrite` keeps. -/
theorem State.wctlWrite_evolves {A : List Part} {s₀ s : State} (h : Evolves A s₀ s) (w : Nat) (v : Word)
    (hA : covers ([Part.reg .CN_WCTL, .reg .CN_WSTAT] ++ gateParts) A = true) :
    Evolves A s₀ (s.wctlWrite w v) := by
  unfold State.wctlWrite
  with_reducible repeat (first
      | assumption
      | apply State.winDenied_evolves
      | apply State.condWrite_evolves
      | apply State.regateWindow_evolves
      | apply State.winHold_evolves
      | apply State.winIdle_evolves
      | apply State.winFollow_evolves
      | (apply covers_trans _ hA; decide +kernel)
      | intro _ | rfl | dsimp only | split)

/-- What `State.canaryPlainWrite` keeps. -/
theorem State.canaryPlainWrite_evolves {A : List Part} {s₀ s : State} (h : Evolves A s₀ s) (m : Master) (r : RegId) (v : Word) (hf : covers [.reg r] A = true)
    (hA : covers [.fresh, .power, .reg .CN_CSTAT] A = true) :
    Evolves A s₀ (s.canaryPlainWrite m r v) := by
  unfold State.canaryPlainWrite
  with_reducible repeat (first
      | assumption
      | apply State.winsFollow_evolves
      | apply State.regWrite_evolves
      | apply State.put_evolves
      | (apply covers_trans _ hA; decide +kernel)
      | intro _ | rfl | dsimp only | split)

/-! ### Machine/Carrier -/

/-- What `State.pwmRequests` keeps. -/
theorem State.pwmRequests_evolves {A : List Part} {s₀ s : State} (h : Evolves A s₀ s) (g : Nat) (peak : Bool)
    (hA : covers [.fresh, .now, .head, .plan, .drift, .pick, .reg .HF_TURN, .reg .SP_REMAIN0, .reg .PK_LATE] A = true) :
    Evolves A s₀ (s.pwmRequests g peak) := by
  unfold State.pwmRequests
  with_reducible repeat (first
      | assumption
      | apply State.each_evolves
      | apply State.requestCell_evolves
      | (apply covers_trans _ hA; decide +kernel)
      | intro _ | rfl | dsimp only | split)

/-- What `State.takeSet` keeps. -/
theorem State.takeSet_evolves {A : List Part} {s₀ s : State} (h : Evolves A s₀ s) (g : Nat) (u : UpdateSet)
    (hA : covers [.fresh, .power, .reg .PW_GRPSTAT, .reg .PW_GRPACT, .reg .PW_ACTCMP, .reg .PW_CHSTAT] A = true) :
    Evolves A s₀ (s.takeSet g u) := by
  unfold State.takeSet
  with_reducible repeat (first
      | assumption
      | apply State.bump_evolves
      | apply State.applySet_evolves
      | (apply covers_trans _ hA; decide +kernel)
      | intro _ | rfl | dsimp only | split)

/-- What `State.applyDue` keeps. -/
theorem State.applyDue_evolves {A : List Part} {s₀ s : State} (h : Evolves A s₀ s) (g : Nat)
    (hA : covers [.fresh, .power, .reg .PW_GRPCOMMIT, .reg .PW_GRPSTAT, .reg .PW_GRPACT, .reg .PW_ACTCMP, .reg .PW_CHSTAT] A = true) :
    Evolves A s₀ (s.applyDue g) := by
  unfold State.applyDue
  with_reducible repeat (first
      | assumption
      | apply State.clearWritten_evolves
      | apply State.takeSet_evolves
      | apply State.put_evolves
      | apply State.updGrp_evolves
      | (apply covers_trans _ hA; decide +kernel)
      | intro _ | rfl | dsimp only | split)

/-- What `State.countValley` keeps. -/
theorem State.countValley_evolves {A : List Part} {s₀ s : State} (h : Evolves A s₀ s) (g : Nat) (hA : covers [.fresh, .reg .PW_GRPSTAT] A = true) :
    Evolves A s₀ (s.countValley g) := by
  unfold State.countValley
  with_reducible repeat (first
      | assumption
      | apply State.put_evolves
      | (apply covers_trans _ hA; decide +kernel)
      | intro _ | rfl | dsimp only | split)

/-- What `State.followCheck` keeps. -/
theorem State.followCheck_evolves {A : List Part} {s₀ s : State} (h : Evolves A s₀ s) (g : Nat) (hA : covers [.fresh, .reg .PW_GRPSTAT] A = true) :
    Evolves A s₀ (s.followCheck g) := by
  unfold State.followCheck
  with_reducible repeat (first
      | assumption
      | apply State.put_evolves
      | (apply covers_trans _ hA; decide +kernel)
      | intro _ | rfl | dsimp only | split)

/-- What `State.startFollowers` keeps. -/
theorem State.startFollowers_evolves {A : List Part} {s₀ s : State} (h : Evolves A s₀ s) (g : Nat) (t : Nat) (hA : covers [.power] A = true) :
    Evolves A s₀ (s.startFollowers g t) := by
  unfold State.startFollowers
  with_reducible repeat (first
      | assumption
      | apply State.each_evolves
      | apply State.updGrp_evolves
      | (apply covers_trans _ hA; decide +kernel)
      | intro _ | rfl | dsimp only | split)

/-- What `State.takeExit` keeps. -/
theorem State.takeExit_evolves {A : List Part} {s₀ s : State} (h : Evolves A s₀ s) (b : Nat)
    (hA : covers ([Part.pick, .reg .BLK_BLKCTL, .reg .RG_RSTAT] ++ raiseParts ++ coastParts ++ gateParts) A = true) :
    Evolves A s₀ (s.takeExit b) := by
  unfold State.takeExit
  with_reducible repeat (first
      | assumption
      | apply State.enterBlk_evolves
      | (apply covers_trans _ hA; decide +kernel)
      | intro _ | rfl | dsimp only | split)

/-- What `State.markValley` keeps. -/
theorem State.markValley_evolves {A : List Part} {s₀ s : State} (h : Evolves A s₀ s) (g : Nat) (t : Nat) (hA : covers [.uhla] A = true) :
    Evolves A s₀ (s.markValley g t) := by
  unfold State.markValley
  with_reducible repeat (first
      | assumption
      | (apply covers_trans _ hA; decide +kernel)
      | intro _ | rfl | dsimp only | split
      | (apply uhla_evolves; first | assumption | intro _ | rfl | dsimp only | split))

/-- What `State.countMissing` keeps. -/
theorem State.countMissing_evolves {A : List Part} {s₀ s : State} (h : Evolves A s₀ s) (g : Nat) (hA : covers [.power] A = true) :
    Evolves A s₀ (s.countMissing g) := by
  unfold State.countMissing
  with_reducible repeat (first
      | assumption
      | apply State.updGrp_evolves
      | (apply covers_trans _ hA; decide +kernel)
      | intro _ | rfl | dsimp only | split)

/-- What `State.valley` keeps. -/
theorem State.valley_evolves {A : List Part} {s₀ s : State} (h : Evolves A s₀ s) (g : Nat) (t : Nat) (hA : covers valleyParts A = true) :
    Evolves A s₀ (s.valley g t) := by
  unfold State.valley
  with_reducible repeat (first
      | assumption
      | apply State.countValley_evolves
      | apply State.applyDue_evolves
      | apply State.updGrp_evolves
      | apply State.each_evolves
      | apply State.updChan_evolves
      | apply State.canaryValley_evolves
      | apply State.pwmRequests_evolves
      | apply State.seqCarrier_evolves
      | apply State.takeExit_evolves
      | apply State.countMissing_evolves
      | apply State.markValley_evolves
      | apply State.startFollowers_evolves
      | apply State.followCheck_evolves
      | apply State.mmValley_evolves
      | apply State.sdValley_evolves
      | (apply covers_trans _ hA; decide +kernel)
      | intro _ | rfl | dsimp only | split)

/-- What `State.nextValley` keeps. -/
theorem State.nextValley_evolves {A : List Part} {s₀ s : State} (h : Evolves A s₀ s) (g : Nat) (hA : covers valleyParts A = true) :
    Evolves A s₀ (s.nextValley g) := by
  unfold State.nextValley
  with_reducible repeat (first
      | assumption
      | apply State.valley_evolves
      | apply State.advanceToInstant_evolves
      | apply State.put_evolves
      | (apply covers_trans _ hA; decide +kernel)
      | intro _ | rfl | dsimp only | split)

/-- What `execCarrierValley` keeps. -/
theorem execCarrierValley_evolves {A : List Part} {s₀ s : State} (h : Evolves A s₀ s) (g : Block) (hA : covers valleyParts A = true) :
    ∃ u, execCarrierValley g s = .next u ∧ Evolves A s₀ u := by
  unfold execCarrierValley
  refine ⟨_, rfl, ?_⟩
  with_reducible repeat (first
      | assumption
      | apply State.nextValley_evolves
      | (apply covers_trans _ hA; decide +kernel)
      | intro _ | rfl | dsimp only | split)

/-- What `execRunningExitAtValley` keeps. -/
theorem execRunningExitAtValley_evolves {A : List Part} {s₀ s : State} (h : Evolves A s₀ s) (b : Block) (hA : covers valleyParts A = true) :
    ∃ u, execRunningExitAtValley b s = .next u ∧ Evolves A s₀ u := by
  unfold execRunningExitAtValley
  refine ⟨_, rfl, ?_⟩
  with_reducible repeat (first
      | assumption
      | apply State.nextValley_evolves
      | apply State.takeExit_evolves
      | apply State.advance_evolves
      | (apply covers_trans _ hA; decide +kernel)
      | intro _ | rfl | dsimp only | split)

/-- What `State.takeOvr` keeps. -/
theorem State.takeOvr_evolves {A : List Part} {s₀ s : State} (h : Evolves A s₀ s) (c : Nat) (t : Nat) (hA : covers gateParts A = true) :
    Evolves A s₀ (s.takeOvr c t) := by
  unfold State.takeOvr
  with_reducible repeat (first
      | assumption
      | apply State.emit_evolves
      | apply State.updChan_evolves
      | (apply covers_trans _ hA; decide +kernel)
      | intro _ | rfl | dsimp only | split)

/-- What `State.peak` keeps. -/
theorem State.peak_evolves {A : List Part} {s₀ s : State} (h : Evolves A s₀ s) (g : Nat) (t : Nat)
    (hA : covers ([Part.pick, .reg .PK_LATE, .reg .SN_SEQSTAT, .reg .PW_GRPSTAT] ++ onTimerParts ++ gateParts) A = true) :
    Evolves A s₀ (s.peak g t) := by
  unfold State.peak
  with_reducible repeat (first
      | assumption
      | apply State.each_evolves
      | apply State.takeOvr_evolves
      | apply State.updChan_evolves
      | apply State.pwmRequests_evolves
      | apply State.seqCarrier_evolves
      | apply State.updGrp_evolves
      | apply State.put_evolves
      | (apply covers_trans _ hA; decide +kernel)
      | intro _ | rfl | dsimp only | split)

/-- What `execCarrierPeak` keeps. -/
theorem execCarrierPeak_evolves {A : List Part} {s₀ s : State} (h : Evolves A s₀ s) (g : Block)
    (hA : covers ([Part.pick, .reg .PK_LATE, .reg .SN_SEQSTAT, .reg .PW_GRPSTAT] ++ onTimerParts ++ gateParts) A = true) :
    ∃ u, execCarrierPeak g s = .next u ∧ Evolves A s₀ u := by
  unfold execCarrierPeak
  refine ⟨_, rfl, ?_⟩
  with_reducible repeat (first
      | assumption
      | apply State.peak_evolves
      | apply State.advanceToInstant_evolves
      | (apply covers_trans _ hA; decide +kernel)
      | intro _ | rfl | dsimp only | split)

/-- What `execPeakDwellEnd` keeps. -/
theorem execPeakDwellEnd_evolves {A : List Part} {s₀ s : State} (h : Evolves A s₀ s) (g : Block)
    (hA : covers [.fresh, .now, .head, .plan, .drift, .power, .reg .HF_TURN, .reg .SP_REMAIN0, .reg .PW_GRPSTAT] A = true) :
    ∃ u, execPeakDwellEnd g s = .next u ∧ Evolves A s₀ u := by
  unfold execPeakDwellEnd
  refine ⟨_, rfl, ?_⟩
  with_reducible repeat (first
      | assumption
      | apply State.updGrp_evolves
      | apply State.put_evolves
      | apply State.advanceToInstant_evolves
      | (apply covers_trans _ hA; decide +kernel)
      | intro _ | rfl | dsimp only | split)

/-- What `execSyncLost` keeps. -/
theorem execSyncLost_evolves {A : List Part} {s₀ s : State} (h : Evolves A s₀ s) (g : Block) (hA : covers [.fresh, .reg .PW_GRPSTAT] A = true) :
    ∃ u, execSyncLost g s = .next u ∧ Evolves A s₀ u := by
  unfold execSyncLost
  refine ⟨_, rfl, ?_⟩
  with_reducible repeat (first
      | assumption
      | apply State.put_evolves
      | (apply covers_trans _ hA; decide +kernel)
      | intro _ | rfl | dsimp only | split)

/-! ### Machine/Cage -/

/-- What `State.fbFault` keeps. -/
theorem State.fbFault_evolves {A : List Part} {s₀ s : State} (h : Evolves A s₀ s) (c : Nat) (k : Nat)
    (hA : covers ([Part.power, .reg .CG_PSTAT, .reg .CG_FBSTAMP] ++ seamParts) A = true) :
    Evolves A s₀ (s.fbFault c k) := by
  unfold State.fbFault
  with_reducible repeat (first
      | assumption
      | apply State.cageRecord_evolves
      | apply State.put_evolves
      | apply State.portLatch_evolves
      | (apply covers_trans _ hA; decide +kernel)
      | intro _ | rfl | dsimp only | split)

/-- What `State.portFaultSet` keeps. -/
theorem State.portFaultSet_evolves {A : List Part} {s₀ s : State} (h : Evolves A s₀ s) (c : Nat) (k : Nat)
    (hA : covers ([Part.reg .CG_FBSTAMP] ++ seamParts ++ gateParts) A = true) :
    Evolves A s₀ (s.portFaultSet c k) := by
  unfold State.portFaultSet
  with_reducible repeat (first
      | assumption
      | apply State.raise_evolves
      | apply State.regate_evolves
      | apply State.unwait_evolves
      | apply State.fbFault_evolves
      | (apply covers_trans _ hA; decide +kernel)
      | intro _ | rfl | dsimp only | split)

/-- What `State.bothOn` keeps. -/
theorem State.bothOn_evolves {A : List Part} {s₀ s : State} (h : Evolves A s₀ s) (c : Nat)
    (hA : covers ([Part.reg .CG_FBSTAMP, .reg .CG_CGSTAT, .reg .FM_FCAUSE] ++ sf2Parts ++ seamParts) A = true) :
    Evolves A s₀ (s.bothOn c) := by
  unfold State.bothOn
  with_reducible repeat (first
      | assumption
      | apply State.fbFault_evolves
      | apply State.turnoffStart_evolves
      | (apply covers_trans _ hA; decide +kernel)
      | intro _ | rfl | dsimp only | split)

/-- What `State.noteReached` keeps. -/
theorem State.noteReached_evolves {A : List Part} {s₀ s : State} (h : Evolves A s₀ s) (c : Nat) (hi : Bool) (on : Bool)
    (hA : covers [.power] A = true) :
    Evolves A s₀ (s.noteReached c hi on) := by
  unfold State.noteReached
  with_reducible repeat (first
      | assumption
      | apply State.updOut_evolves
      | (apply covers_trans _ hA; decide +kernel)
      | intro _ | rfl | dsimp only | split)

/-- What `State.feedback` keeps. -/
theorem State.feedback_evolves {A : List Part} {s₀ s : State} (h : Evolves A s₀ s) (c : Nat) (hi : Bool) (on : Bool)
    (hA : covers ([Part.reg .CG_FBSTAMP, .reg .CG_CGSTAT, .reg .FM_FCAUSE] ++ sf2Parts ++ seamParts) A = true) :
    Evolves A s₀ (s.feedback c hi on) := by
  unfold State.feedback
  with_reducible repeat (first
      | assumption
      | apply State.noteReached_evolves
      | apply State.put_evolves
      | apply State.tryOn_evolves
      | apply State.portFaultSet_evolves
      | apply State.bothOn_evolves
      | (apply covers_trans _ hA; first | decide +kernel | (simp only [fbField_reg]; decide +kernel))
      | intro _ | rfl | dsimp only | split)

/-- What `execFeedbackChange` keeps. -/
theorem execFeedbackChange_evolves {A : List Part} {s₀ s : State} (h : Evolves A s₀ s) (c : Cell) (hi : Bool) (level : Bool)
    (hA : covers ([Part.reg .CG_FBSTAMP, .reg .CG_CGSTAT, .reg .FM_FCAUSE] ++ sf2Parts ++ seamParts) A = true) :
    ∃ u, execFeedbackChange c hi level s = .next u ∧ Evolves A s₀ u := by
  unfold execFeedbackChange
  refine ⟨_, rfl, ?_⟩
  with_reducible repeat (first
      | assumption
      | apply State.feedback_evolves
      | (apply covers_trans _ hA; decide +kernel)
      | intro _ | rfl | dsimp only | split)

/-- What `execFbTimeout` keeps. -/
theorem execFbTimeout_evolves {A : List Part} {s₀ s : State} (h : Evolves A s₀ s) (c : Cell) (hi : Bool)
    (hA : covers ([Part.reg .CG_FBSTAMP] ++ seamParts ++ onTimerParts ++ gateParts) A = true) :
    ∃ u, execFbTimeout c hi s = .next u ∧ Evolves A s₀ u := by
  unfold execFbTimeout
  refine ⟨_, rfl, ?_⟩
  with_reducible repeat (first
      | assumption
      | apply State.onTimer_evolves
      | apply State.portFaultSet_evolves
      | (apply covers_trans _ hA; decide +kernel)
      | intro _ | rfl | dsimp only | split)

/-- What `State.dsLevel` keeps. -/
theorem State.dsLevel_evolves {A : List Part} {s₀ s : State} (h : Evolves A s₀ s) (c : Nat) (on : Bool)
    (hA : covers [.fresh, .power, .reg .CG_PSTAT] A = true) :
    Evolves A s₀ (s.dsLevel c on) := by
  unfold State.dsLevel
  with_reducible repeat (first
      | assumption
      | apply State.put_evolves
      | apply State.updChan_evolves
      | (apply covers_trans _ hA; decide +kernel)
      | intro _ | rfl | dsimp only | split)

/-- What `execDsatLevelChange` keeps. -/
theorem execDsatLevelChange_evolves {A : List Part} {s₀ s : State} (h : Evolves A s₀ s) (c : Cell) (level : Bool)
    (hA : covers [.fresh, .power, .reg .CG_PSTAT] A = true) :
    ∃ u, execDsatLevelChange c level s = .next u ∧ Evolves A s₀ u := by
  unfold execDsatLevelChange
  refine ⟨_, rfl, ?_⟩
  with_reducible repeat (first
      | assumption
      | apply State.dsLevel_evolves
      | (apply covers_trans _ hA; decide +kernel)
      | intro _ | rfl | dsimp only | split)

/-- What `execBlankingEnd` keeps. -/
theorem execBlankingEnd_evolves {A : List Part} {s₀ s : State} (h : Evolves A s₀ s) (c : Cell)
    (hA : covers ([Part.reg .CG_PSTAT] ++ onTimerParts) A = true) :
    ∃ u, execBlankingEnd c s = .next u ∧ Evolves A s₀ u := by
  unfold execBlankingEnd
  refine ⟨_, rfl, ?_⟩
  with_reducible repeat (first
      | assumption
      | apply State.onTimer_evolves
      | apply State.put_evolves
      | (apply covers_trans _ hA; decide +kernel)
      | intro _ | rfl | dsimp only | split)

/-- What `execDsLatch` keeps. -/
theorem execDsLatch_evolves {A : List Part} {s₀ s : State} (h : Evolves A s₀ s) (c : Cell)
    (hA : covers ([Part.now, .reg .HF_TURN, .reg .CG_DSSTAMP, .reg .CG_CGSTAT, .reg .FM_FCAUSE] ++ sf2Parts ++ seamParts) A = true) :
    ∃ u, execDsLatch c s = .next u ∧ Evolves A s₀ u := by
  unfold execDsLatch
  refine ⟨_, rfl, ?_⟩
  with_reducible repeat (first
      | assumption
      | apply State.advanceTo_evolves
      | apply State.put_evolves
      | apply State.portLatch_evolves
      | apply State.cageRecord_evolves
      | apply State.bumpSat_evolves
      | apply State.turnoffStart_evolves
      | (apply covers_trans _ hA; decide +kernel)
      | intro _ | rfl | dsimp only | split)

/-- What `execSoftStepEnd` keeps. -/
theorem execSoftStepEnd_evolves {A : List Part} {s₀ s : State} (h : Evolves A s₀ s) (b : Block)
    (hA : covers ([Part.power, .reg .CG_BSTAT] ++ onTimerParts) A = true) :
    ∃ u, execSoftStepEnd b s = .next u ∧ Evolves A s₀ u := by
  unfold execSoftStepEnd
  refine ⟨_, rfl, ?_⟩
  with_reducible repeat (first
      | assumption
      | apply State.onTimer_evolves
      | apply State.put_evolves
      | apply State.driveSoft_evolves
      | (apply covers_trans _ hA; decide +kernel)
      | intro _ | rfl | dsimp only | split)

/-- What `State.repolarise` keeps. -/
theorem State.repolarise_evolves {A : List Part} {s₀ s : State} (h : Evolves A s₀ s) (c : Nat) (old : Word)
    (hA : covers [.fresh, .power, .reg .CG_PSTAT] A = true) :
    Evolves A s₀ (s.repolarise c old) := by
  unfold State.repolarise
  with_reducible repeat (first
      | assumption
      | apply State.put_evolves
      | apply State.dsLevel_evolves
      | (apply covers_trans _ hA; decide +kernel)
      | intro _ | rfl | dsimp only | split)

/-- What `State.pctlCageWrite` keeps. -/
theorem State.pctlCageWrite_evolves {A : List Part} {s₀ s : State} (h : Evolves A s₀ s) (c : Nat) (v : Word)
    (hA : covers ([Part.reg .CG_PCTL, .reg .CG_FBSTAMP, .reg .CG_CGSTAT, .reg .FM_FCAUSE] ++ sf2Parts ++ seamParts) A = true) :
    Evolves A s₀ (s.pctlCageWrite c v) := by
  unfold State.pctlCageWrite
  with_reducible repeat (first
      | assumption
      | apply State.repolarise_evolves
      | apply State.condWrite_evolves
      | apply State.put_evolves
      | apply State.bothOn_evolves
      | apply State.clearAttempt_evolves
      | (apply covers_trans _ hA; decide +kernel)
      | intro _ | rfl | dsimp only | split)

/-- What `State.bctlWrite` keeps. -/
theorem State.bctlWrite_evolves {A : List Part} {s₀ s : State} (h : Evolves A s₀ s) (b : Nat) (v : Word)
    (hA : covers [.fresh, .power, .reg .CG_BCTL, .reg .CG_BSTAT] A = true) :
    Evolves A s₀ (s.bctlWrite b v) := by
  unfold State.bctlWrite
  with_reducible repeat (first
      | assumption
      | apply State.driveSoft_evolves
      | apply State.condWrite_evolves
      | apply State.put_evolves
      | (apply covers_trans _ hA; decide +kernel)
      | intro _ | rfl | dsimp only | split)

/-- What `State.cgstatWrite` keeps. -/
theorem State.cgstatWrite_evolves {A : List Part} {s₀ s : State} (h : Evolves A s₀ s) (m : Master) (v : Word)
    (hA : covers [.fresh, .reg .CG_CGSTAT] A = true) :
    Evolves A s₀ (s.cgstatWrite m v) := by
  unfold State.cgstatWrite
  with_reducible repeat (first
      | assumption
      | apply State.regWrite_evolves
      | apply State.put_evolves
      | (apply covers_trans _ hA; decide +kernel)
      | intro _ | rfl | dsimp only | split)

end Sys2Proof.Machine
end

