-- ==== Sys2Proof/Laws/MovesSafety.lean ====
section
/-! SUPPORT. What each operation of the Foreman, the Lamp domain, the Assay, resets and power keeps: one lemma per function (`Evolves`). -/

set_option Elab.async false
set_option linter.unusedTactic false
set_option linter.unreachableTactic false
set_option linter.unusedVariables false

namespace Sys2Proof.Machine

/-! ### Machine/Foreman -/

/-- What `State.asSafety` keeps. -/
theorem State.asSafety_evolves {A : List Part} {s₀ s : State} (h : Evolves A s₀ s) (m : Master) (f : State → State) (hf : ∀ x0, Evolves A s₀ x0 → Evolves A s₀ (f x0))
    (hA : covers [.fresh, .reg .FM_FCAUSE] A = true) :
    Evolves A s₀ (s.asSafety m f) := by
  unfold State.asSafety
  with_reducible repeat (first
      | assumption
      | apply hf
      | apply State.put_evolves
      | (apply covers_trans _ hA; decide +kernel)
      | intro _ | rfl | dsimp only | split)

/-- What `State.enablesFrom` keeps. -/
theorem State.enablesFrom_evolves {A : List Part} {s₀ s : State} (h : Evolves A s₀ s) (before : State)
    (hA : covers ([Part.reg .FM_BTEST] ++ sf2Parts) A = true) :
    Evolves A s₀ (s.enablesFrom before) := by
  unfold State.enablesFrom
  with_reducible repeat (first
      | assumption
      | apply State.sf2Drift_evolves
      | apply State.sf1Inhibit_evolves
      | apply State.each_evolves
      | apply State.brakeTestStop_evolves
      | apply State.fmOutputs_evolves
      | (apply covers_trans _ hA; decide +kernel)
      | intro _ | rfl | dsimp only | split)

/-- What `State.enablesClear` keeps. -/
theorem State.enablesClear_evolves {A : List Part} {s₀ s : State} (h : Evolves A s₀ s)
    (hA : covers ([Part.reg .FM_FSAFEN, .reg .FM_BTEST] ++ sf2Parts) A = true) :
    Evolves A s₀ (s.enablesClear) := by
  unfold State.enablesClear
  with_reducible repeat (first
      | assumption
      | apply State.put_evolves
      | apply State.enablesFrom_evolves
      | (apply covers_trans _ hA; decide +kernel)
      | intro _ | rfl | dsimp only | split)

/-- What `State.fsafenWrite` keeps. -/
theorem State.fsafenWrite_evolves {A : List Part} {s₀ s : State} (h : Evolves A s₀ s) (v : Word)
    (hA : covers ([Part.reg .FM_FSAFEN, .reg .FM_FCAUSE, .reg .FM_BTEST] ++ sf2Parts) A = true) :
    Evolves A s₀ (s.fsafenWrite v) := by
  unfold State.fsafenWrite
  with_reducible repeat (first
      | assumption
      | apply State.arm_evolves
      | apply State.enablesFrom_evolves
      | apply State.regWrite_evolves
      | apply State.raise_evolves
      | apply State.put_evolves
      | apply State.enablesClear_evolves
      | (apply covers_trans _ hA; decide +kernel)
      | intro _ | rfl | dsimp only | split)

/-- What `execSafenExpired` keeps. -/
theorem execSafenExpired_evolves {A : List Part} {s₀ s : State} (h : Evolves A s₀ s)
    (hA : covers ([Part.reg .FM_FSAFEN, .reg .FM_FCAUSE, .reg .FM_BTEST] ++ sf2Parts ++ onTimerParts) A = true) :
    ∃ u, execSafenExpired s = .next u ∧ Evolves A s₀ u := by
  unfold execSafenExpired
  refine ⟨_, rfl, ?_⟩
  with_reducible repeat (first
      | assumption
      | apply State.onTimer_evolves
      | apply State.raise_evolves
      | apply State.put_evolves
      | apply State.enablesClear_evolves
      | (apply covers_trans _ hA; decide +kernel)
      | intro _ | rfl | dsimp only | split)

/-- What `State.fcmdWrite` keeps. -/
theorem State.fcmdWrite_evolves {A : List Part} {s₀ s : State} (h : Evolves A s₀ s) (v : Word)
    (hA : covers [.fresh, .fm, .reg .FM_FCMD, .reg .FM_FCAUSE] A = true) :
    Evolves A s₀ (s.fcmdWrite v) := by
  unfold State.fcmdWrite
  with_reducible repeat (first
      | assumption
      | apply State.put_evolves
      | apply State.regWrite_evolves
      | apply State.fmOutputs_evolves
      | (apply covers_trans _ hA; decide +kernel)
      | intro _ | rfl | dsimp only | split
      | (apply fm_evolves; first | assumption | apply State.put_evolves | apply State.regWrite_evolves | apply State.fmOutputs_evolves | intro _ | rfl | dsimp only | split))

/-- What `execForemanWindowDemand` keeps. -/
theorem execForemanWindowDemand_evolves {A : List Part} {s₀ s : State} (h : Evolves A s₀ s) (w : WinRead) (f : Fin 3)
    (hA : covers ([Part.reg .FM_FCAUSE, .reg .FM_BTEST] ++ sf2Parts) A = true) :
    ∃ u, execForemanWindowDemand w f s = .next u ∧ Evolves A s₀ u := by
  unfold execForemanWindowDemand
  refine ⟨_, rfl, ?_⟩
  with_reducible repeat (first
      | assumption
      | apply State.winReads_evolves
      | apply State.put_evolves
      | apply State.sf2LatchMask_evolves
      | apply State.sf1Latch_evolves
      | apply State.each_evolves
      | apply State.sf3Latch_evolves
      | (apply covers_trans _ hA; decide +kernel)
      | intro _ | rfl | dsimp only | split)

/-- What `State.fclr` keeps. -/
theorem State.fclr_evolves {A : List Part} {s₀ s : State} (h : Evolves A s₀ s)
    (hA : covers ([Part.fm, .reg .DR_DSTAT, .reg .FM_FSTAT, .reg .FM_FCAUSE] ++ gateParts) A = true) :
    Evolves A s₀ (s.fclr) := by
  unfold State.fclr
  with_reducible repeat (first
      | assumption
      | apply State.faultLine_evolves
      | apply State.put_evolves
      | apply State.regateAll_evolves
      | apply State.fmOutputs_evolves
      | (apply covers_trans _ hA; decide +kernel)
      | intro _ | rfl | dsimp only | split)

/-- What `State.fclrWrite` keeps. -/
theorem State.fclrWrite_evolves {A : List Part} {s₀ s : State} (h : Evolves A s₀ s) (v : Word)
    (hA : covers ([Part.fm, .reg .DR_DSTAT, .reg .FM_FSTAT, .reg .FM_FCAUSE] ++ gateParts) A = true) :
    Evolves A s₀ (s.fclrWrite v) := by
  unfold State.fclrWrite
  with_reducible repeat (first
      | assumption
      | apply State.fclr_evolves
      | (apply covers_trans _ hA; decide +kernel)
      | intro _ | rfl | dsimp only | split)

/-- What `State.outFail` keeps. -/
theorem State.outFail_evolves {A : List Part} {s₀ s : State} (h : Evolves A s₀ s) (k : Nat)
    (hA : covers ([Part.reg .DR_DSTAT, .reg .FM_FOUT, .reg .FM_BTEST] ++ sf2Parts) A = true) :
    Evolves A s₀ (s.outFail k) := by
  unfold State.outFail
  with_reducible repeat (first
      | assumption
      | apply State.orPut_evolves
      | apply State.raise_evolves
      | apply State.put_evolves
      | apply State.faultLine_evolves
      | apply State.sf1Latch_evolves
      | apply State.sf3Latch_evolves
      | (apply covers_trans _ hA; decide +kernel)
      | intro _ | rfl | dsimp only | split)

/-- What `State.nodeShow` keeps. -/
theorem State.nodeShow_evolves {A : List Part} {s₀ s : State} (h : Evolves A s₀ s) (k : Nat) (v : Bool)
    (hA : covers [.fresh, .reg .FM_FOUT] A = true) :
    Evolves A s₀ (s.nodeShow k v) := by
  unfold State.nodeShow
  with_reducible repeat (first
      | assumption
      | apply State.put_evolves
      | (apply covers_trans _ hA; decide +kernel)
      | intro _ | rfl | dsimp only | split)

/-- What `State.setPulse` keeps. -/
theorem State.setPulse_evolves {A : List Part} {s₀ s : State} (h : Evolves A s₀ s) (k : Fin 5) (v : Bool) (hA : covers [.fm] A = true) :
    Evolves A s₀ (s.setPulse k v) := by
  unfold State.setPulse
  with_reducible repeat (first
      | assumption
      | apply State.fmOutputs_evolves
      | (apply covers_trans _ hA; decide +kernel)
      | intro _ | rfl | dsimp only | split
      | (apply fm_evolves; first | assumption | apply State.fmOutputs_evolves | intro _ | rfl | dsimp only | split))

/-- What `execOffPulseStart` keeps. -/
theorem execOffPulseStart_evolves {A : List Part} {s₀ s : State} (h : Evolves A s₀ s) (k : Fin 5) (off : Bool)
    (hA : covers ([Part.reg .DR_DSTAT, .reg .FM_FOUT, .reg .FM_BTEST] ++ sf2Parts ++ onTimerParts) A = true) :
    ∃ u, execOffPulseStart k off s = .next u ∧ Evolves A s₀ u := by
  unfold execOffPulseStart
  refine ⟨_, rfl, ?_⟩
  with_reducible repeat (first
      | assumption
      | apply State.advanceTo_evolves
      | apply State.nodeShow_evolves
      | apply State.arm_evolves
      | apply State.setPulse_evolves
      | apply State.outFail_evolves
      | (apply covers_trans _ hA; decide +kernel)
      | intro _ | rfl | dsimp only | split)

/-- What `execOffPulseEnd` keeps. -/
theorem execOffPulseEnd_evolves {A : List Part} {s₀ s : State} (h : Evolves A s₀ s) (k : Fin 5) (on : Bool)
    (hA : covers ([Part.reg .DR_DSTAT, .reg .FM_FOUT, .reg .FM_BTEST] ++ sf2Parts ++ onTimerParts) A = true) :
    ∃ u, execOffPulseEnd k on s = .next u ∧ Evolves A s₀ u := by
  unfold execOffPulseEnd
  refine ⟨_, rfl, ?_⟩
  with_reducible repeat (first
      | assumption
      | apply State.onTimer_evolves
      | apply State.nodeShow_evolves
      | apply State.setPulse_evolves
      | apply State.outFail_evolves
      | (apply covers_trans _ hA; decide +kernel)
      | intro _ | rfl | dsimp only | split)

/-- What `State.mirrorShow` keeps. -/
theorem State.mirrorShow_evolves {A : List Part} {s₀ s : State} (h : Evolves A s₀ s) (v : BitVec 2)
    (hA : covers [.fresh, .timers, .reg .FM_FOUT] A = true) :
    Evolves A s₀ (s.mirrorShow v) := by
  unfold State.mirrorShow
  with_reducible repeat (first
      | assumption
      | apply State.put_evolves
      | apply State.each_evolves
      | apply State.armAt_evolves
      | apply State.disarm_evolves
      | (apply covers_trans _ hA; decide +kernel)
      | intro _ | rfl | dsimp only | split)

/-- What `execMirFail` keeps. -/
theorem execMirFail_evolves {A : List Part} {s₀ s : State} (h : Evolves A s₀ s) (k : Fin 2) (closed : Bool)
    (hA : covers ([Part.reg .DR_DSTAT, .reg .FM_FOUT] ++ sf2Parts ++ onTimerParts) A = true) :
    ∃ u, execMirFail k closed s = .next u ∧ Evolves A s₀ u := by
  unfold execMirFail
  refine ⟨_, rfl, ?_⟩
  with_reducible repeat (first
      | assumption
      | apply State.onTimer_evolves
      | apply State.put_evolves
      | apply State.raise_evolves
      | apply State.faultLine_evolves
      | apply State.sf1Latch_evolves
      | (apply covers_trans _ hA; decide +kernel)
      | intro _ | rfl | dsimp only | split)

/-- What `State.brakeRequest` keeps. -/
theorem State.brakeRequest_evolves {A : List Part} {s₀ s : State} (h : Evolves A s₀ s) (n : Nat)
    (hA : covers [.fresh, .timers, .fm, .reg .FM_FCAUSE, .reg .FM_BTEST] A = true) :
    Evolves A s₀ (s.brakeRequest n) := by
  unfold State.brakeRequest
  with_reducible repeat (first
      | assumption
      | apply State.put_evolves
      | apply State.orPut_evolves
      | apply State.arm_evolves
      | apply State.disarm_evolves
      | apply State.fmOutputs_evolves
      | (apply covers_trans _ hA; decide +kernel)
      | intro _ | rfl | dsimp only | split)

/-- What `State.btestWrite` keeps. -/
theorem State.btestWrite_evolves {A : List Part} {s₀ s : State} (h : Evolves A s₀ s) (v : Word)
    (hA : covers [.fresh, .timers, .fm, .reg .FM_FCAUSE, .reg .FM_BTEST] A = true) :
    Evolves A s₀ (s.btestWrite v) := by
  unfold State.btestWrite
  with_reducible repeat (first
      | assumption
      | apply State.each_evolves
      | apply State.regWrite_evolves
      | apply State.brakeRequest_evolves
      | (apply covers_trans _ hA; decide +kernel)
      | intro _ | rfl | dsimp only | split)

/-- What `State.brakeReleased` keeps. -/
theorem State.brakeReleased_evolves {A : List Part} {s₀ s : State} (h : Evolves A s₀ s) (n : Nat) (hA : covers [.timers] A = true) :
    Evolves A s₀ (s.brakeReleased n) := by
  unfold State.brakeReleased
  with_reducible repeat (first
      | assumption
      | apply State.arm_evolves
      | apply State.disarm_evolves
      | (apply covers_trans _ hA; decide +kernel)
      | intro _ | rfl | dsimp only | split)

/-- What `execBrakeTestReengage` keeps. -/
theorem execBrakeTestReengage_evolves {A : List Part} {s₀ s : State} (h : Evolves A s₀ s) (n : Fin 2)
    (hA : covers ([Part.fm] ++ onTimerParts) A = true) :
    ∃ u, execBrakeTestReengage n s = .next u ∧ Evolves A s₀ u := by
  unfold execBrakeTestReengage
  refine ⟨_, rfl, ?_⟩
  with_reducible repeat (first
      | assumption
      | apply State.onTimer_evolves
      | apply State.fmOutputs_evolves
      | apply State.arm_evolves
      | (apply covers_trans _ hA; decide +kernel)
      | intro _ | rfl | dsimp only | split)

/-- What `State.brakeAge` keeps. -/
theorem State.brakeAge_evolves {A : List Part} {s₀ s : State} (h : Evolves A s₀ s) (n : Fin 2) (h' : Nat)
    (hA : covers [.fresh, .timers, .fm, .reg .FM_BTEST] A = true) :
    Evolves A s₀ (s.brakeAge n h') := by
  unfold State.brakeAge
  with_reducible repeat (first
      | assumption
      | apply State.arm_evolves
      | apply State.put_evolves
      | (apply covers_trans _ hA; first | decide +kernel | (simp only [btAge_reg]; decide +kernel))
      | intro _ | rfl | dsimp only | split
      | (apply fm_evolves; first | assumption | apply State.arm_evolves | apply State.put_evolves | intro _ | rfl | dsimp only | split))

/-- What `execBrakeTestPass` keeps. -/
theorem execBrakeTestPass_evolves {A : List Part} {s₀ s : State} (h : Evolves A s₀ s) (n : Fin 2)
    (hA : covers ([Part.fm, .reg .FM_FSTAT, .reg .FM_BTEST] ++ raiseParts) A = true) :
    ∃ u, execBrakeTestPass n s = .next u ∧ Evolves A s₀ u := by
  unfold execBrakeTestPass
  refine ⟨_, rfl, ?_⟩
  with_reducible repeat (first
      | assumption
      | apply State.brakeAge_evolves
      | apply State.orPut_evolves
      | apply State.brakeTestStop_evolves
      | apply State.fmOutputs_evolves
      | apply State.put_evolves
      | (apply covers_trans _ hA; decide +kernel)
      | intro _ | rfl | dsimp only | split)

/-- What `State.brakeMissed` keeps. -/
theorem State.brakeMissed_evolves {A : List Part} {s₀ s : State} (h : Evolves A s₀ s) (n : Nat)
    (hA : covers ([Part.fm, .reg .FM_FSTAT, .reg .FM_FCAUSE, .reg .FM_FSTAMP, .reg .FM_BTEST] ++ raiseParts) A = true) :
    Evolves A s₀ (s.brakeMissed n) := by
  unfold State.brakeMissed
  with_reducible repeat (first
      | assumption
      | apply State.sf3Latch_evolves
      | apply State.put_evolves
      | (apply covers_trans _ hA; decide +kernel)
      | intro _ | rfl | dsimp only | split)

/-- What `execBtFail` keeps. -/
theorem execBtFail_evolves {A : List Part} {s₀ s : State} (h : Evolves A s₀ s) (n : Fin 2)
    (hA : covers ([Part.fm, .reg .FM_FSTAT, .reg .FM_FCAUSE, .reg .FM_FSTAMP, .reg .FM_BTEST] ++ raiseParts ++ onTimerParts) A = true) :
    ∃ u, execBtFail n s = .next u ∧ Evolves A s₀ u := by
  unfold execBtFail
  refine ⟨_, rfl, ?_⟩
  with_reducible repeat (first
      | assumption
      | apply State.onTimer_evolves
      | apply State.brakeMissed_evolves
      | (apply covers_trans _ hA; decide +kernel)
      | intro _ | rfl | dsimp only | split)

/-- What `execBtDue` keeps. -/
theorem execBtDue_evolves {A : List Part} {s₀ s : State} (h : Evolves A s₀ s) (n : Fin 2) (hours : Nat)
    (hA : covers ([Part.fm, .reg .FM_FSTAT, .reg .FM_BTEST] ++ raiseParts ++ onTimerParts) A = true) :
    ∃ u, execBtDue n hours s = .next u ∧ Evolves A s₀ u := by
  unfold execBtDue
  refine ⟨_, rfl, ?_⟩
  with_reducible repeat (first
      | assumption
      | apply State.onTimer_evolves
      | apply State.brakeAge_evolves
      | apply State.advance_evolves
      | apply State.raise_evolves
      | apply State.put_evolves
      | (apply covers_trans _ hA; decide +kernel)
      | intro _ | rfl | dsimp only | split)

/-- What `State.sealRead` keeps. -/
theorem State.sealRead_evolves {A : List Part} {s₀ s : State} (h : Evolves A s₀ s) (v : BitVec 12)
    (hA : covers ([Part.reg .DR_DSTAT, .reg .FM_FCAUSE, .reg .FM_SEAL] ++ sf2Parts) A = true) :
    Evolves A s₀ (s.sealRead v) := by
  unfold State.sealRead
  with_reducible repeat (first
      | assumption
      | apply State.put_evolves
      | apply State.raise_evolves
      | apply State.faultLine_evolves
      | apply State.sf2LatchMask_evolves
      | apply State.sf1Latch_evolves
      | (apply covers_trans _ hA; decide +kernel)
      | intro _ | rfl | dsimp only | split
      | (apply fm_evolves; first | assumption | apply State.put_evolves | apply State.raise_evolves | apply State.faultLine_evolves | apply State.sf2LatchMask_evolves | apply State.sf1Latch_evolves | intro _ | rfl | dsimp only | split))

/-- What `State.fmEvery` keeps. -/
theorem State.fmEvery_evolves {A : List Part} {s₀ s : State} (h : Evolves A s₀ s) (t : Timer) (d : Nat) (f : State → State) (hf : ∀ x0, Evolves A s₀ x0 → Evolves A s₀ (f x0))
    (hA : covers onTimerParts A = true) :
    Evolves A s₀ (s.fmEvery t d f) := by
  unfold State.fmEvery
  with_reducible repeat (first
      | assumption
      | apply hf
      | apply State.onTimer_evolves
      | apply State.armAt_evolves
      | (apply covers_trans _ hA; decide +kernel)
      | intro _ | rfl | dsimp only | split)

/-- What `execSealRead` keeps. -/
theorem execSealRead_evolves {A : List Part} {s₀ s : State} (h : Evolves A s₀ s) (v : BitVec 12)
    (hA : covers ([Part.reg .DR_DSTAT, .reg .FM_FCAUSE, .reg .FM_SEAL] ++ sf2Parts ++ onTimerParts) A = true) :
    ∃ u, execSealRead v s = .next u ∧ Evolves A s₀ u := by
  unfold execSealRead
  refine ⟨_, rfl, ?_⟩
  with_reducible repeat (first
      | assumption
      | apply State.fmEvery_evolves
      | apply State.sealRead_evolves
      | (apply covers_trans _ hA; decide +kernel)
      | intro _ | rfl | dsimp only | split)

/-- What `State.selfTestFail` keeps. -/
theorem State.selfTestFail_evolves {A : List Part} {s₀ s : State} (h : Evolves A s₀ s)
    (hA : covers ([Part.reg .DR_DSTAT, .reg .FM_BTEST] ++ sf2Parts) A = true) :
    Evolves A s₀ (s.selfTestFail) := by
  unfold State.selfTestFail
  with_reducible repeat (first
      | assumption
      | apply State.raise_evolves
      | apply State.put_evolves
      | apply State.sf3Latch_evolves
      | apply State.sf2LatchMask_evolves
      | apply State.sf1Latch_evolves
      | apply State.faultLine_evolves
      | (apply covers_trans _ hA; decide +kernel)
      | intro _ | rfl | dsimp only | split
      | (apply fm_evolves; first | assumption | apply State.raise_evolves | apply State.put_evolves | apply State.sf3Latch_evolves | apply State.sf2LatchMask_evolves | apply State.sf1Latch_evolves | apply State.faultLine_evolves | intro _ | rfl | dsimp only | split))

/-- What `State.freqSample` keeps. -/
theorem State.freqSample_evolves {A : List Part} {s₀ s : State} (h : Evolves A s₀ s) (frac : Nat) (hA : covers [.fm] A = true) :
    Evolves A s₀ (s.freqSample frac) := by
  unfold State.freqSample
  with_reducible repeat (first
      | assumption
      | (apply covers_trans _ hA; decide +kernel)
      | intro _ | rfl | dsimp only | split
      | (apply fm_evolves; first | assumption | intro _ | rfl | dsimp only | split))

/-- What `State.wakeFollow` keeps. -/
theorem State.wakeFollow_evolves {A : List Part} {s₀ s : State} (h : Evolves A s₀ s) (hA : covers [.timers] A = true) :
    Evolves A s₀ (s.wakeFollow) := by
  unfold State.wakeFollow
  with_reducible repeat (first
      | assumption
      | apply State.arm_evolves
      | apply State.disarm_evolves
      | (apply covers_trans _ hA; decide +kernel)
      | intro _ | rfl | dsimp only | split)

/-- What `State.limitSample` keeps. -/
theorem State.limitSample_evolves {A : List Part} {s₀ s : State} (h : Evolves A s₀ s) (n : Fin 8) (viol : Option Bool)
    (hA : covers ([Part.reg .FM_FCAUSE, .reg .FM_FLIM] ++ sf2Parts) A = true) :
    Evolves A s₀ (s.limitSample n viol) := by
  unfold State.limitSample
  with_reducible repeat (first
      | assumption
      | apply State.orPut_evolves
      | apply State.sf1Latch_evolves
      | apply State.put_evolves
      | (apply covers_trans _ hA; decide +kernel)
      | intro _ | rfl | dsimp only | split
      | (apply fm_evolves; first | assumption | apply State.orPut_evolves | apply State.sf1Latch_evolves | apply State.put_evolves | intro _ | rfl | dsimp only | split))

/-- What `State.rmsShow` keeps. -/
theorem State.rmsShow_evolves {A : List Part} {s₀ s : State} (h : Evolves A s₀ s) (sq : Nat) (f : Fld) (hf : covers [.fresh, .reg f.reg] A = true)
    (hA : covers [.freeIdx] A = true) :
    Evolves A s₀ (s.rmsShow sq f) := by
  unfold State.rmsShow
  with_reducible repeat (first
      | assumption
      | apply State.putFit_evolves
      | (apply covers_trans _ hA; decide +kernel)
      | intro _ | rfl | dsimp only | split)

/-- What `State.nodesTest` keeps. -/
theorem State.nodesTest_evolves {A : List Part} {s₀ s : State} (h : Evolves A s₀ s) (node : BitVec 5)
    (hA : covers ([Part.reg .DR_DSTAT, .reg .FM_FOUT, .reg .FM_BTEST] ++ sf2Parts) A = true) :
    Evolves A s₀ (s.nodesTest node) := by
  unfold State.nodesTest
  with_reducible repeat (first
      | assumption
      | apply State.each_evolves
      | apply State.outFail_evolves
      | (apply covers_trans _ hA; decide +kernel)
      | intro _ | rfl | dsimp only | split)

/-- What `State.monitorSample` keeps. -/
theorem State.monitorSample_evolves {A : List Part} {s₀ s : State} (h : Evolves A s₀ s) (a : BitVec 12) (b : BitVec 12) (c : BitVec 12) (frac : Nat) (node : BitVec 5) (krb : BitVec 2) (brb : BitVec 2)
    (hA : covers ([Part.freeIdx, .reg .DR_DSTAT, .reg .FM_FOUT, .reg .FM_FCAUSE, .reg .FM_BTEST, .reg .FM_FLIM, .reg .FM_FMONV0, .reg .FM_FMONV1,
      .reg .FM_FMONF] ++ sf2Parts) A = true) :
    Evolves A s₀ (s.monitorSample a b c frac node krb brb) := by
  unfold State.monitorSample
  with_reducible repeat (first
      | assumption
      | apply State.wakeFollow_evolves
      | apply State.freqSample_evolves
      | apply State.rmsShow_evolves
      | apply State.put_evolves
      | apply State.each_evolves
      | apply State.limitSample_evolves
      | apply State.mirrorShow_evolves
      | apply State.nodesTest_evolves
      | apply State.brakeReleased_evolves
      | (apply covers_trans _ hA; decide +kernel)
      | intro _ | rfl | dsimp only | split
      | (apply fm_evolves; first | assumption | apply State.wakeFollow_evolves | apply State.freqSample_evolves | apply State.rmsShow_evolves | apply State.put_evolves | apply State.each_evolves | apply State.limitSample_evolves | apply State.mirrorShow_evolves | apply State.nodesTest_evolves | apply State.brakeReleased_evolves | intro _ | rfl | dsimp only | split))

/-- What `State.guardWindow` keeps. -/
theorem State.guardWindow_evolves {A : List Part} {s₀ s : State} (h : Evolves A s₀ s) (w : Nat)
    (hA : covers ([Part.reg .CN_WCTL, .reg .CN_WTHR, .reg .CN_WSTAT] ++ gateParts) A = true) :
    Evolves A s₀ (s.guardWindow w) := by
  unfold State.guardWindow
  with_reducible repeat (first
      | assumption
      | apply State.regWrite_evolves
      | apply State.put_evolves
      | apply State.winSettle_evolves
      | apply State.regateWindow_evolves
      | apply State.winHold_evolves
      | apply State.winIdle_evolves
      | apply State.winFollow_evolves
      | (apply covers_trans _ hA; decide +kernel)
      | intro _ | rfl | dsimp only | split)

/-- What `State.paramInForce` keeps. -/
theorem State.paramInForce_evolves {A : List Part} {s₀ s : State} (h : Evolves A s₀ s) (b : List Byte)
    (hA : covers ([Part.fm, .reg .CN_WCTL, .reg .CN_WTHR, .reg .CN_WSTAT, .reg .DR_DSTAT, .reg .FM_FSTAT] ++ gateParts) A = true) :
    Evolves A s₀ (s.paramInForce b) := by
  unfold State.paramInForce
  with_reducible repeat (first
      | assumption
      | apply State.put_evolves
      | apply State.each_evolves
      | apply State.guardWindow_evolves
      | apply State.faultLine_evolves
      | apply State.fmOutputs_evolves
      | (apply covers_trans _ hA; decide +kernel)
      | intro _ | rfl | dsimp only | split
      | (apply fm_evolves; first | assumption | apply State.put_evolves | apply State.each_evolves | apply State.guardWindow_evolves | apply State.faultLine_evolves | apply State.fmOutputs_evolves | intro _ | rfl | dsimp only | split))

/-- What `State.paramNone` keeps. -/
theorem State.paramNone_evolves {A : List Part} {s₀ s : State} (h : Evolves A s₀ s)
    (hA : covers ([Part.reg .CN_WCTL, .reg .CN_WTHR, .reg .CN_WSTAT, .reg .DR_DSTAT] ++ sf2Parts) A = true) :
    Evolves A s₀ (s.paramNone) := by
  unfold State.paramNone
  with_reducible repeat (first
      | assumption
      | apply State.each_evolves
      | apply State.put_evolves
      | apply State.guardWindow_evolves
      | apply State.faultLine_evolves
      | apply State.sf1Latch_evolves
      | (apply covers_trans _ hA; decide +kernel)
      | intro _ | rfl | dsimp only | split
      | (apply fm_evolves; first | assumption | apply State.each_evolves | apply State.put_evolves | apply State.guardWindow_evolves | apply State.faultLine_evolves | apply State.sf1Latch_evolves | intro _ | rfl | dsimp only | split))

/-- What `execForemanParamTakeEffect` keeps. -/
theorem execForemanParamTakeEffect_evolves {A : List Part} {s₀ s : State} (h : Evolves A s₀ s)
    (hA : covers ([Part.fm, .reg .CN_WCTL, .reg .CN_WTHR, .reg .CN_WSTAT, .reg .DR_DSTAT, .reg .FM_FSTAT] ++ raiseParts ++ gateParts) A = true) :
    ∃ u, execForemanParamTakeEffect s = .next u ∧ Evolves A s₀ u := by
  unfold execForemanParamTakeEffect
  refine ⟨_, rfl, ?_⟩
  with_reducible repeat (first
      | assumption
      | apply State.paramInForce_evolves
      | apply State.raise_evolves
      | apply State.put_evolves
      | (apply covers_trans _ hA; decide +kernel)
      | intro _ | rfl | dsimp only | split
      | (apply fm_evolves; first | assumption | apply State.paramInForce_evolves | apply State.raise_evolves | apply State.put_evolves | intro _ | rfl | dsimp only | split))

/-! ### Machine/Lamp -/

/-- What `State.updLamp` keeps. -/
theorem State.updLamp_evolves {A : List Part} {s₀ s : State} (h : Evolves A s₀ s) (f : LampU → LampU) (hA : covers [.lamp] A = true) :
    Evolves A s₀ (s.updLamp f) := by
  unfold State.updLamp
  with_reducible repeat (first
      | assumption
      | (apply covers_trans _ hA; decide +kernel)
      | intro _ | rfl | dsimp only | split
      | (apply lamp_evolves; first | assumption | intro _ | rfl | dsimp only | split))

/-- What `State.rtcPut` keeps. -/
theorem State.rtcPut_evolves {A : List Part} {s₀ s : State} (h : Evolves A s₀ s) (v : Nat) (hA : covers [.lamp] A = true) :
    Evolves A s₀ (s.rtcPut v) := by
  unfold State.rtcPut
  with_reducible repeat (first
      | assumption
      | apply State.updLamp_evolves
      | (apply covers_trans _ hA; decide +kernel)
      | intro _ | rfl | dsimp only | split)

/-- What `State.lampRate` keeps. -/
theorem State.lampRate_evolves {A : List Part} {s₀ s : State} (h : Evolves A s₀ s) (hA : covers [.timers] A = true) :
    Evolves A s₀ (s.lampRate) := by
  unfold State.lampRate
  with_reducible repeat (first
      | assumption
      | apply State.arm_evolves
      | (apply covers_trans _ hA; decide +kernel)
      | intro _ | rfl | dsimp only | split)

/-- What `State.every` keeps. -/
theorem State.every_evolves {A : List Part} {s₀ s : State} (h : Evolves A s₀ s) (t : Timer) (d : Nat) (f : State → State) (hf : ∀ x0, Evolves A s₀ x0 → Evolves A s₀ (f x0))
    (hA : covers onTimerParts A = true) :
    Evolves A s₀ (s.every t d f) := by
  unfold State.every
  with_reducible repeat (first
      | assumption
      | apply hf
      | apply State.onTimer_evolves
      | apply State.armAt_evolves
      | (apply covers_trans _ hA; decide +kernel)
      | intro _ | rfl | dsimp only | split)

/-- What `State.gaugeShow` keeps. -/
theorem State.gaugeShow_evolves {A : List Part} {s₀ s : State} (h : Evolves A s₀ s) (hA : covers [.fresh, .reg .LA_LSTAT, .reg .LA_GHELD] A = true) :
    Evolves A s₀ (s.gaugeShow) := by
  unfold State.gaugeShow
  with_reducible repeat (first
      | assumption
      | apply State.put_evolves
      | (apply covers_trans _ hA; decide +kernel)
      | intro _ | rfl | dsimp only | split)

/-- What `State.grant` keeps. -/
theorem State.grant_evolves {A : List Part} {s₀ s : State} (h : Evolves A s₀ s) (c : Nat)
    (hA : covers [.fresh, .lamp, .reg .LA_LSTAT, .reg .LA_GHELD] A = true) :
    Evolves A s₀ (s.grant c).2 := by
  unfold State.grant
  with_reducible repeat (first
      | assumption
      | apply State.gaugeShow_evolves
      | apply State.updLamp_evolves
      | apply State.put_evolves
      | (apply covers_trans _ hA; decide +kernel)
      | intro _ | rfl | dsimp only | split)

/-- What `execGrantComplete` keeps. -/
theorem execGrantComplete_evolves {A : List Part} {s₀ s : State} (h : Evolves A s₀ s) (c : Fin 4)
    (hA : covers [.fresh, .lamp, .reg .LA_LSTAT, .reg .LA_GHELD] A = true) :
    ∃ u, execGrantComplete c s = .next u ∧ Evolves A s₀ u := by
  unfold execGrantComplete
  refine ⟨_, rfl, ?_⟩
  with_reducible repeat (first
      | assumption
      | apply State.gaugeShow_evolves
      | apply State.updLamp_evolves
      | (apply covers_trans _ hA; decide +kernel)
      | intro _ | rfl | dsimp only | split)

/-- What `State.chargeShow` keeps. -/
theorem State.chargeShow_evolves {A : List Part} {s₀ s : State} (h : Evolves A s₀ s) (hA : covers [.fresh, .reg .LA_LSTAT] A = true) :
    Evolves A s₀ (s.chargeShow) := by
  unfold State.chargeShow
  with_reducible repeat (first
      | assumption
      | apply State.put_evolves
      | (apply covers_trans _ hA; decide +kernel)
      | intro _ | rfl | dsimp only | split)

/-- What `State.gaugeAt` keeps. -/
theorem State.gaugeAt_evolves {A : List Part} {s₀ s : State} (h : Evolves A s₀ s) (v : Nat)
    (hA : covers [.fresh, .freeIdx, .reg .LA_LSTAT, .reg .LA_GAUGE, .reg .LA_GHELD, .reg .LA_CAP] A = true) :
    Evolves A s₀ (s.gaugeAt v) := by
  unfold State.gaugeAt
  with_reducible repeat (first
      | assumption
      | apply State.chargeShow_evolves
      | apply State.gaugeShow_evolves
      | apply State.putFit_evolves
      | (apply covers_trans _ hA; decide +kernel)
      | intro _ | rfl | dsimp only | split)

/-- What `execGaugeUpdate` keeps. -/
theorem execGaugeUpdate_evolves {A : List Part} {s₀ s : State} (h : Evolves A s₀ s) (v : Nat)
    (hA : covers ([Part.freeIdx, .reg .LA_LSTAT, .reg .LA_GAUGE, .reg .LA_GHELD, .reg .LA_CAP] ++ onTimerParts) A = true) :
    ∃ u, execGaugeUpdate v s = .next u ∧ Evolves A s₀ u := by
  unfold execGaugeUpdate
  refine ⟨_, rfl, ?_⟩
  with_reducible repeat (first
      | assumption
      | apply State.every_evolves
      | apply State.gaugeAt_evolves
      | (apply covers_trans _ hA; decide +kernel)
      | intro _ | rfl | dsimp only | split)

/-- What `execCapMeasureComplete` keeps. -/
theorem execCapMeasureComplete_evolves {A : List Part} {s₀ s : State} (h : Evolves A s₀ s) (t : Nat) (overlap : Bool)
    (hA : covers [.fresh, .freeIdx, .reg .LA_LSTAT, .reg .LA_GAUGE, .reg .LA_GHELD, .reg .LA_CAP] A = true) :
    ∃ u, execCapMeasureComplete t overlap s = .next u ∧ Evolves A s₀ u := by
  unfold execCapMeasureComplete
  refine ⟨_, rfl, ?_⟩
  with_reducible repeat (first
      | assumption
      | apply State.gaugeAt_evolves
      | apply State.put_evolves
      | apply State.putFit_evolves
      | (apply covers_trans _ hA; decide +kernel)
      | intro _ | rfl | dsimp only | split)

/-- What `execChargeTargetReached` keeps. -/
theorem execChargeTargetReached_evolves {A : List Part} {s₀ s : State} (h : Evolves A s₀ s)
    (hA : covers [.fresh, .freeIdx, .reg .LA_LSTAT, .reg .LA_GAUGE, .reg .LA_GHELD, .reg .LA_CAP] A = true) :
    ∃ u, execChargeTargetReached s = .next u ∧ Evolves A s₀ u := by
  unfold execChargeTargetReached
  refine ⟨_, rfl, ?_⟩
  with_reducible repeat (first
      | assumption
      | apply State.gaugeAt_evolves
      | (apply covers_trans _ hA; decide +kernel)
      | intro _ | rfl | dsimp only | split)

/-- What `State.pathPut` keeps. -/
theorem State.pathPut_evolves {A : List Part} {s₀ s : State} (h : Evolves A s₀ s) (p : Nat) (hA : covers [.fresh, .timers, .reg .LA_LSTAT] A = true) :
    Evolves A s₀ (s.pathPut p) := by
  unfold State.pathPut
  with_reducible repeat (first
      | assumption
      | apply State.put_evolves
      | apply State.disarm_evolves
      | apply State.arm_evolves
      | (apply covers_trans _ hA; decide +kernel)
      | intro _ | rfl | dsimp only | split)

/-- What `execHarvestPathSelect` keeps. -/
theorem execHarvestPathSelect_evolves {A : List Part} {s₀ s : State} (h : Evolves A s₀ s) (vstore : Nat) (hvin : Nat)
    (hA : covers [.fresh, .timers, .reg .LA_LSTAT] A = true) :
    ∃ u, execHarvestPathSelect vstore hvin s = .next u ∧ Evolves A s₀ u := by
  unfold execHarvestPathSelect
  refine ⟨_, rfl, ?_⟩
  with_reducible repeat (first
      | assumption
      | apply State.pathPut_evolves
      | (apply covers_trans _ hA; decide +kernel)
      | intro _ | rfl | dsimp only | split)

/-- What `execHarvestOcvSample` keeps. -/
theorem execHarvestOcvSample_evolves {A : List Part} {s₀ s : State} (h : Evolves A s₀ s) (v : Nat)
    (hA : covers ([Part.lamp] ++ onTimerParts) A = true) :
    ∃ u, execHarvestOcvSample v s = .next u ∧ Evolves A s₀ u := by
  unfold execHarvestOcvSample
  refine ⟨_, rfl, ?_⟩
  with_reducible repeat (first
      | assumption
      | apply State.every_evolves
      | apply State.updLamp_evolves
      | (apply covers_trans _ hA; decide +kernel)
      | intro _ | rfl | dsimp only | split)

/-- What `State.lampWrite` keeps. -/
theorem State.lampWrite_evolves {A : List Part} {s₀ s : State} (h : Evolves A s₀ s) (m : Master) (r : RegId) (v : Word) (i : Nat) (hf : covers [.reg r] A = true)
    (hA : covers [.fresh, .reg .LA_LSTAT, .reg .LA_GHELD] A = true) :
    Evolves A s₀ (s.lampWrite m r v i) := by
  unfold State.lampWrite
  with_reducible repeat (first
      | assumption
      | apply State.put_evolves
      | apply State.chargeShow_evolves
      | apply State.gaugeShow_evolves
      | apply State.regWrite_evolves
      | (apply covers_trans _ hA; decide +kernel)
      | intro _ | rfl | dsimp only | split)

/-- What `execLampPowerLoss` keeps. -/
theorem execLampPowerLoss_evolves {A : List Part} {s₀ s : State} (h : Evolves A s₀ s)
    (hA : covers [.fresh, .timers, .lamp, .reg .LA_LSTAT] A = true) :
    ∃ u, execLampPowerLoss s = .next u ∧ Evolves A s₀ u := by
  unfold execLampPowerLoss
  refine ⟨_, rfl, ?_⟩
  with_reducible repeat (first
      | assumption
      | apply State.updLamp_evolves
      | apply State.pathPut_evolves
      | (apply covers_trans _ hA; decide +kernel)
      | intro _ | rfl | dsimp only | split)

/-- What `execLampStart` keeps. -/
theorem execLampStart_evolves {A : List Part} {s₀ s : State} (h : Evolves A s₀ s) (present : Bool) (lstart : Bool) (hA : covers Part.all A = true) :
    ∃ u, execLampStart present lstart s = .next u ∧ Evolves A s₀ u := by
  unfold execLampStart
  refine ⟨_, rfl, ?_⟩
  with_reducible repeat (first
      | assumption
      | apply State.updLamp_evolves
      | apply State.resetRegs_evolves
      | apply State.chargeShow_evolves
      | apply State.gaugeShow_evolves
      | apply State.put_evolves
      | (apply covers_trans _ hA; exact covers_all _)
      | intro _ | rfl | dsimp only | split
      | (apply lamp_evolves; first | assumption | apply State.updLamp_evolves | apply State.resetRegs_evolves | apply State.chargeShow_evolves | apply State.gaugeShow_evolves | apply State.put_evolves | intro _ | rfl | dsimp only | split))

/-! ### Machine/Assay -/

/-- What `State.updAssay` keeps. -/
theorem State.updAssay_evolves {A : List Part} {s₀ s : State} (h : Evolves A s₀ s) (f : AssayU → AssayU) (hA : covers [.assay] A = true) :
    Evolves A s₀ (s.updAssay f) := by
  unfold State.updAssay
  with_reducible repeat (first
      | assumption
      | (apply covers_trans _ hA; decide +kernel)
      | intro _ | rfl | dsimp only | split
      | (apply assay_evolves; first | assumption | intro _ | rfl | dsimp only | split))

/-- What `State.putInt` keeps. -/
theorem State.putInt_evolves {A : List Part} {s₀ s : State} (h : Evolves A s₀ s) (f : Fld) (v : Int) (i : Nat) (hf : covers [.fresh, .reg f.reg] A = true)
    (hA : covers [.freeIdx] A = true) :
    Evolves A s₀ (s.putInt f v i) := by
  unfold State.putInt
  with_reducible repeat (first
      | assumption
      | apply State.put_evolves
      | apply State.free_evolves
      | (apply covers_trans _ hA; decide +kernel)
      | intro _ | rfl | dsimp only | split)

/-- What `State.assayTake` keeps. -/
theorem State.assayTake_evolves {A : List Part} {s₀ s : State} (h : Evolves A s₀ s) (x : Vector (BitVec 24) 8)
    (hA : covers [.fresh, .assay, .reg .AS_ASTAT] A = true) :
    Evolves A s₀ (s.assayTake x) := by
  unfold State.assayTake
  with_reducible repeat (first
      | assumption
      | apply State.each_evolves
      | apply State.updAssay_evolves
      | apply State.orPut_evolves
      | (apply covers_trans _ hA; decide +kernel)
      | intro _ | rfl | dsimp only | split)

/-- What `State.windowShow` keeps. -/
theorem State.windowShow_evolves {A : List Part} {s₀ s : State} (h : Evolves A s₀ s) (r : Nat)
    (hA : covers [.fresh, .reg .AS_EWIN, .reg .AS_WRAPS] A = true) :
    Evolves A s₀ (s.windowShow r) := by
  unfold State.windowShow
  with_reducible repeat (first
      | assumption
      | apply State.wrw_evolves
      | apply State.put_evolves
      | (apply covers_trans _ hA; decide +kernel)
      | intro _ | rfl | dsimp only | split)

/-- What `State.putMaster` keeps. -/
theorem State.putMaster_evolves {A : List Part} {s₀ s : State} (h : Evolves A s₀ s) (r : Nat) (m : Nat)
    (hA : covers [.fresh, .reg .AS_EMLO, .reg .AS_EMHI, .reg .AS_EWIN, .reg .AS_WRAPS] A = true) :
    Evolves A s₀ (s.putMaster r m) := by
  unfold State.putMaster
  with_reducible repeat (first
      | assumption
      | apply State.windowShow_evolves
      | apply State.put_evolves
      | (apply covers_trans _ hA; decide +kernel)
      | intro _ | rfl | dsimp only | split)

/-- What `State.putBacklog` keeps. -/
theorem State.putBacklog_evolves {A : List Part} {s₀ s : State} (h : Evolves A s₀ s) (o : Nat) (v : Nat)
    (hA : covers [.fresh, .reg .AS_TPOSTAT, .reg .AS_PSTAT] A = true) :
    Evolves A s₀ (s.putBacklog o v) := by
  unfold State.putBacklog
  with_reducible repeat (first
      | assumption
      | apply State.put_evolves
      | (apply covers_trans _ hA; decide +kernel)
      | intro _ | rfl | dsimp only | split)

/-- What `State.pulseOverflow` keeps. -/
theorem State.pulseOverflow_evolves {A : List Part} {s₀ s : State} (h : Evolves A s₀ s) (o : Nat)
    (hA : covers ([Part.reg .AS_TPOSTAT, .reg .AS_PSTAT] ++ raiseParts) A = true) :
    Evolves A s₀ (s.pulseOverflow o) := by
  unfold State.pulseOverflow
  with_reducible repeat (first
      | assumption
      | apply State.raise_evolves
      | apply State.put_evolves
      | (apply covers_trans _ hA; decide +kernel)
      | intro _ | rfl | dsimp only | split)

/-- What `State.queuePulses` keeps. -/
theorem State.queuePulses_evolves {A : List Part} {s₀ s : State} (h : Evolves A s₀ s) (o : Nat) (k : Nat)
    (hA : covers ([Part.reg .AS_TPOSTAT, .reg .AS_PSTAT] ++ raiseParts) A = true) :
    Evolves A s₀ (s.queuePulses o k) := by
  unfold State.queuePulses
  with_reducible repeat (first
      | assumption
      | apply State.pulseOverflow_evolves
      | apply State.putBacklog_evolves
      | (apply covers_trans _ hA; decide +kernel)
      | intro _ | rfl | dsimp only | split)

/-- What `State.pulsesFor` keeps. -/
theorem State.pulsesFor_evolves {A : List Part} {s₀ s : State} (h : Evolves A s₀ s) (r : Nat) (n : Nat)
    (hA : covers ([Part.assay, .reg .AS_TPOSTAT, .reg .AS_PSTAT] ++ raiseParts) A = true) :
    Evolves A s₀ (s.pulsesFor r n) := by
  unfold State.pulsesFor
  with_reducible repeat (first
      | assumption
      | apply State.each_evolves
      | apply State.queuePulses_evolves
      | apply State.updAssay_evolves
      | (apply covers_trans _ hA; decide +kernel)
      | intro _ | rfl | dsimp only | split)

/-- What `State.energyAdd` keeps. -/
theorem State.energyAdd_evolves {A : List Part} {s₀ s : State} (h : Evolves A s₀ s) (r : Fin 16) (e : Nat)
    (hA : covers ([Part.assay, .reg .AS_EMLO, .reg .AS_EMHI, .reg .AS_EWIN, .reg .AS_WRAPS, .reg .AS_TPOSTAT, .reg .AS_PSTAT] ++
      raiseParts) A = true) :
    Evolves A s₀ (s.energyAdd r e) := by
  unfold State.energyAdd
  with_reducible repeat (first
      | assumption
      | apply State.updAssay_evolves
      | apply State.pulsesFor_evolves
      | apply State.putMaster_evolves
      | (apply covers_trans _ hA; decide +kernel)
      | intro _ | rfl | dsimp only | split)

/-- What `State.direct` keeps. -/
theorem State.direct_evolves {A : List Part} {s₀ s : State} (h : Evolves A s₀ s) (phase : Nat) (kind : Nat) (sum : Int)
    (hA : covers ([Part.assay, .reg .AS_EMLO, .reg .AS_EMHI, .reg .AS_EWIN, .reg .AS_WRAPS, .reg .AS_TPOSTAT, .reg .AS_PSTAT] ++
      raiseParts) A = true) :
    Evolves A s₀ (s.direct phase kind sum) := by
  unfold State.direct
  with_reducible repeat (first
      | assumption
      | apply State.energyAdd_evolves
      | (apply covers_trans _ hA; decide +kernel)
      | intro _ | rfl | dsimp only | split)

/-- What `State.intervalEnd` keeps. -/
theorem State.intervalEnd_evolves {A : List Part} {s₀ s : State} (h : Evolves A s₀ s)
    (hA : covers ([Part.assay, .reg .AS_EMLO, .reg .AS_EMHI, .reg .AS_EWIN, .reg .AS_WRAPS, .reg .AS_TPOSTAT, .reg .AS_PSTAT] ++
      raiseParts) A = true) :
    Evolves A s₀ (s.intervalEnd) := by
  unfold State.intervalEnd
  with_reducible repeat (first
      | assumption
      | apply State.each_evolves
      | apply State.direct_evolves
      | apply State.updAssay_evolves
      | (apply covers_trans _ hA; decide +kernel)
      | intro _ | rfl | dsimp only | split)

/-- What `State.putSlot` keeps. -/
theorem State.putSlot_evolves {A : List Part} {s₀ s : State} (h : Evolves A s₀ s) (slot : Bool) (r : Option SaveRec) (hA : covers [.lamp] A = true) :
    Evolves A s₀ (s.putSlot slot r) := by
  unfold State.putSlot
  with_reducible repeat (first
      | assumption
      | apply State.updLamp_evolves
      | (apply covers_trans _ hA; decide +kernel)
      | intro _ | rfl | dsimp only | split)

/-- What `State.closeRecord` keeps. -/
theorem State.closeRecord_evolves {A : List Part} {s₀ s : State} (h : Evolves A s₀ s) (kind : Nat)
    (hA : covers ([Part.lamp, .assay, .reg .AS_SAVESTAT, .reg .AS_EMLO, .reg .AS_EMHI, .reg .AS_EWIN, .reg .AS_WRAPS, .reg .AS_TPOSTAT,
      .reg .AS_PSTAT] ++ raiseParts) A = true) :
    Evolves A s₀ (s.closeRecord kind) := by
  unfold State.closeRecord
  with_reducible repeat (first
      | assumption
      | apply State.intervalEnd_evolves
      | apply State.updAssay_evolves
      | apply State.putSlot_evolves
      | apply State.bumpSat_evolves
      | (apply covers_trans _ hA; decide +kernel)
      | intro _ | rfl | dsimp only | split)

/-- What `State.saveValid` keeps. -/
theorem State.saveValid_evolves {A : List Part} {s₀ s : State} (h : Evolves A s₀ s) (v : SaveU)
    (hA : covers [.fresh, .timers, .lamp, .assay, .reg .AS_SAVESTAT] A = true) :
    Evolves A s₀ (s.saveValid v) := by
  unfold State.saveValid
  with_reducible repeat (first
      | assumption
      | apply State.put_evolves
      | apply State.putSlot_evolves
      | apply State.updAssay_evolves
      | apply State.armAt_evolves
      | (apply covers_trans _ hA; decide +kernel)
      | intro _ | rfl | dsimp only | split)

/-- What `State.saveFails` keeps. -/
theorem State.saveFails_evolves {A : List Part} {s₀ s : State} (h : Evolves A s₀ s)
    (hA : covers ([Part.assay, .reg .AS_SAVESTAT] ++ raiseParts) A = true) :
    Evolves A s₀ (s.saveFails) := by
  unfold State.saveFails
  with_reducible repeat (first
      | assumption
      | apply State.raise_evolves
      | apply State.bumpSat_evolves
      | apply State.updAssay_evolves
      | (apply covers_trans _ hA; decide +kernel)
      | intro _ | rfl | dsimp only | split)

/-- What `State.orderly` keeps. -/
theorem State.orderly_evolves {A : List Part} {s₀ s : State} (h : Evolves A s₀ s)
    (hA : covers ([Part.lamp, .assay, .reg .AS_SAVESTAT, .reg .AS_EMLO, .reg .AS_EMHI, .reg .AS_EWIN, .reg .AS_WRAPS, .reg .AS_TPOSTAT,
      .reg .AS_PSTAT] ++ raiseParts) A = true) :
    Evolves A s₀ (s.orderly) := by
  unfold State.orderly
  with_reducible repeat (first
      | assumption
      | apply State.closeRecord_evolves
      | (apply covers_trans _ hA; decide +kernel)
      | intro _ | rfl | dsimp only | split)

/-- What `State.orderlyDone` keeps. -/
theorem State.orderlyDone_evolves {A : List Part} {s₀ s : State} (h : Evolves A s₀ s)
    (hA : covers ([Part.freeIdx, .lamp, .assay, .reg .AS_SAVESTAT, .reg .AS_EMLO, .reg .AS_EMHI, .reg .AS_EWIN, .reg .AS_WRAPS, .reg .AS_TPOSTAT,
      .reg .AS_PSTAT] ++ raiseParts) A = true) :
    Evolves A s₀ (s.orderlyDone) := by
  unfold State.orderlyDone
  with_reducible repeat (first
      | assumption
      | apply State.orderly_evolves
      | apply State.free_evolves
      | apply State.saveValid_evolves
      | apply State.saveFails_evolves
      | (apply covers_trans _ hA; decide +kernel)
      | intro _ | rfl | dsimp only | split)

/-- What `execSaveReadback` keeps. -/
theorem execSaveReadback_evolves {A : List Part} {s₀ s : State} (h : Evolves A s₀ s) (ok : Bool)
    (hA : covers ([Part.lamp, .assay, .reg .AS_SAVESTAT] ++ raiseParts) A = true) :
    ∃ u, execSaveReadback ok s = .next u ∧ Evolves A s₀ u := by
  unfold execSaveReadback
  refine ⟨_, rfl, ?_⟩
  with_reducible repeat (first
      | assumption
      | apply State.saveValid_evolves
      | apply State.saveFails_evolves
      | apply State.updAssay_evolves
      | (apply covers_trans _ hA; decide +kernel)
      | intro _ | rfl | dsimp only | split)

/-- What `execPeriodic` keeps. -/
theorem execPeriodic_evolves {A : List Part} {s₀ s : State} (h : Evolves A s₀ s) (hA : covers ([Part.assay] ++ onTimerParts) A = true) :
    ∃ u, execPeriodic s = .next u ∧ Evolves A s₀ u := by
  unfold execPeriodic
  refine ⟨_, rfl, ?_⟩
  with_reducible repeat (first
      | assumption
      | apply State.onTimer_evolves
      | apply State.updAssay_evolves
      | (apply covers_trans _ hA; decide +kernel)
      | intro _ | rfl | dsimp only | split)

/-- What `State.calApply` keeps. -/
theorem State.calApply_evolves {A : List Part} {s₀ s : State} (h : Evolves A s₀ s) (b : List Byte) (arb : Nat)
    (hA : covers [.assay, .reg .AS_MCFG, .reg .AS_SAVEINT, .reg .AS_PMAX, .reg .AS_PCONST, .reg .AS_ZXCFG, .reg .AS_CHGAIN, .reg .AS_CHOFS,
      .reg .AS_PHDLY, .reg .AS_QGAIN, .reg .AS_QOFS] A = true) :
    Evolves A s₀ (s.calApply b arb) := by
  unfold State.calApply
  with_reducible repeat (first
      | assumption
      | apply State.wrw_evolves
      | apply State.each_evolves
      | apply State.updAssay_evolves
      | (apply covers_trans _ hA; decide +kernel)
      | intro _ | rfl | dsimp only | split)

/-- What `State.s0Restart` keeps. -/
theorem State.s0Restart_evolves {A : List Part} {s₀ s : State} (h : Evolves A s₀ s) (n : Fin 4) (hA : covers [.timers, .assay] A = true) :
    Evolves A s₀ (s.s0Restart n) := by
  unfold State.s0Restart
  with_reducible repeat (first
      | assumption
      | apply State.updAssay_evolves
      | apply State.disarm_evolves
      | apply State.arm_evolves
      | (apply covers_trans _ hA; decide +kernel)
      | intro _ | rfl | dsimp only | split)

/-- What `execS0Pulse` keeps. -/
theorem execS0Pulse_evolves {A : List Part} {s₀ s : State} (h : Evolves A s₀ s) (n : Fin 4) (active : S0Edge)
    (hA : covers [.fresh, .assay, .reg .AS_S0CNT, .reg .AS_S0STAT] A = true) :
    ∃ u, execS0Pulse n active s = .next u ∧ Evolves A s₀ u := by
  unfold execS0Pulse
  refine ⟨_, rfl, ?_⟩
  with_reducible repeat (first
      | assumption
      | apply State.updAssay_evolves
      | apply State.put_evolves
      | apply State.bump_evolves
      | (apply covers_trans _ hA; decide +kernel)
      | intro _ | rfl | dsimp only | split)

/-- What `State.s0Check` keeps. -/
theorem State.s0Check_evolves {A : List Part} {s₀ s : State} (h : Evolves A s₀ s) (n : Fin 4)
    (hA : covers ([Part.assay, .reg .AS_S0CHK, .reg .AS_S0STAT] ++ raiseParts) A = true) :
    Evolves A s₀ (s.s0Check n) := by
  unfold State.s0Check
  with_reducible repeat (first
      | assumption
      | apply State.bumpSat_evolves
      | apply State.put_evolves
      | apply State.raise_evolves
      | apply State.s0Restart_evolves
      | (apply covers_trans _ hA; decide +kernel)
      | intro _ | rfl | dsimp only | split)

/-- What `execS0Check` keeps. -/
theorem execS0Check_evolves {A : List Part} {s₀ s : State} (h : Evolves A s₀ s) (n : Fin 4)
    (hA : covers ([Part.assay, .reg .AS_S0CHK, .reg .AS_S0STAT] ++ raiseParts ++ onTimerParts) A = true) :
    ∃ u, execS0Check n s = .next u ∧ Evolves A s₀ u := by
  unfold execS0Check
  refine ⟨_, rfl, ?_⟩
  with_reducible repeat (first
      | assumption
      | apply State.onTimer_evolves
      | apply State.s0Check_evolves
      | (apply covers_trans _ hA; decide +kernel)
      | intro _ | rfl | dsimp only | split)

/-- What `State.restore` keeps. -/
theorem State.restore_evolves {A : List Part} {s₀ s : State} (h : Evolves A s₀ s) (masters : Vector Nat 16) (residues : Vector Nat 16) (s0 : Vector Word 4)
    (hA : covers [.fresh, .latched, .assay, .reg .AS_EMLO, .reg .AS_EMHI, .reg .AS_EWIN, .reg .AS_WRAPS, .reg .AS_S0CNT] A = true) :
    Evolves A s₀ (s.restore masters residues s0) := by
  unfold State.restore
  with_reducible repeat (first
      | assumption
      | apply State.each_evolves
      | apply State.putMaster_evolves
      | apply State.put_evolves
      | apply State.updAssay_evolves
      | (apply covers_trans _ hA; decide +kernel)
      | intro _ | rfl | dsimp only | split
      | (apply latched_evolves; first | assumption | apply State.each_evolves | apply State.putMaster_evolves | apply State.put_evolves | apply State.updAssay_evolves | intro _ | rfl | dsimp only | split))

/-- What `State.assayStart` keeps. -/
theorem State.assayStart_evolves {A : List Part} {s₀ s : State} (h : Evolves A s₀ s)
    (hA : covers [.fresh, .latched, .timers, .assay, .reg .AS_ASTAT, .reg .AS_LOSS, .reg .AS_EMLO, .reg .AS_EMHI, .reg .AS_EWIN, .reg .AS_WRAPS,
      .reg .AS_S0CNT, .reg .AS_S0STAT, .reg .AS_TPOSTAT, .reg .AS_PSTAT] A = true) :
    Evolves A s₀ (s.assayStart) := by
  unfold State.assayStart
  with_reducible repeat (first
      | assumption
      | apply State.updAssay_evolves
      | apply State.restore_evolves
      | apply State.put_evolves
      | apply State.arm_evolves
      | apply State.each_evolves
      | apply State.putBacklog_evolves
      | apply State.s0Restart_evolves
      | (apply covers_trans _ hA; decide +kernel)
      | intro _ | rfl | dsimp only | split)

/-- What `execAssayStart` keeps. -/
theorem execAssayStart_evolves {A : List Part} {s₀ s : State} (h : Evolves A s₀ s)
    (hA : covers [.fresh, .latched, .timers, .assay, .reg .AS_ASTAT, .reg .AS_LOSS, .reg .AS_EMLO, .reg .AS_EMHI, .reg .AS_EWIN, .reg .AS_WRAPS,
      .reg .AS_S0CNT, .reg .AS_S0STAT, .reg .AS_TPOSTAT, .reg .AS_PSTAT] A = true) :
    ∃ u, execAssayStart s = .next u ∧ Evolves A s₀ u := by
  unfold execAssayStart
  refine ⟨_, rfl, ?_⟩
  with_reducible repeat (first
      | assumption
      | apply State.assayStart_evolves
      | (apply covers_trans _ hA; decide +kernel)
      | intro _ | rfl | dsimp only | split)

/-- What `State.assayStop` keeps. -/
theorem State.assayStop_evolves {A : List Part} {s₀ s : State} (h : Evolves A s₀ s) (hA : covers [.timers, .assay] A = true) :
    Evolves A s₀ (s.assayStop) := by
  unfold State.assayStop
  with_reducible repeat (first
      | assumption
      | apply State.disarm_evolves
      | apply State.updAssay_evolves
      | (apply covers_trans _ hA; decide +kernel)
      | intro _ | rfl | dsimp only | split)

/-- What `execClkLost` keeps. -/
theorem execClkLost_evolves {A : List Part} {s₀ s : State} (h : Evolves A s₀ s)
    (hA : covers ([Part.lamp, .assay, .reg .AS_ASTAT, .reg .AS_SAVESTAT, .reg .AS_EMLO, .reg .AS_EMHI, .reg .AS_EWIN, .reg .AS_WRAPS,
      .reg .AS_TPOSTAT, .reg .AS_PSTAT] ++ raiseParts) A = true) :
    ∃ u, execClkLost s = .next u ∧ Evolves A s₀ u := by
  unfold execClkLost
  refine ⟨_, rfl, ?_⟩
  with_reducible repeat (first
      | assumption
      | apply State.assayStop_evolves
      | apply State.orderly_evolves
      | apply State.raise_evolves
      | apply State.put_evolves
      | (apply covers_trans _ hA; decide +kernel)
      | intro _ | rfl | dsimp only | split)

/-- What `State.refShow` keeps. -/
theorem State.refShow_evolves {A : List Part} {s₀ s : State} (h : Evolves A s₀ s) (hA : covers [.fresh, .assay, .reg .AS_ASTAT] A = true) :
    Evolves A s₀ (s.refShow) := by
  unfold State.refShow
  with_reducible repeat (first
      | assumption
      | apply State.put_evolves
      | apply State.updAssay_evolves
      | (apply covers_trans _ hA; decide +kernel)
      | intro _ | rfl | dsimp only | split)

/-- What `State.rmsResult` keeps. -/
theorem State.rmsResult_evolves {A : List Part} {s₀ s : State} (h : Evolves A s₀ s) (q : Nat) (sum : Int) (k : Nat)
    (hA : covers [.fresh, .freeIdx, .reg .AS_RES] A = true) :
    Evolves A s₀ (s.rmsResult q sum k) := by
  unfold State.rmsResult
  with_reducible repeat (first
      | assumption
      | apply State.putFit_evolves
      | (apply covers_trans _ hA; decide +kernel)
      | intro _ | rfl | dsimp only | split)

/-- What `State.powerResult` keeps. -/
theorem State.powerResult_evolves {A : List Part} {s₀ s : State} (h : Evolves A s₀ s) (q : Nat) (sum : Int) (k : Nat)
    (hA : covers [.fresh, .freeIdx, .reg .AS_RES] A = true) :
    Evolves A s₀ (s.powerResult q sum k) := by
  unfold State.powerResult
  with_reducible repeat (first
      | assumption
      | apply State.putInt_evolves
      | (apply covers_trans _ hA; decide +kernel)
      | intro _ | rfl | dsimp only | split)

/-- What `State.freqResult` keeps. -/
theorem State.freqResult_evolves {A : List Part} {s₀ s : State} (h : Evolves A s₀ s) (hA : covers [.fresh, .freeIdx, .reg .AS_RES] A = true) :
    Evolves A s₀ (s.freqResult) := by
  unfold State.freqResult
  with_reducible repeat (first
      | assumption
      | apply State.put_evolves
      | apply State.free_evolves
      | apply State.putFit_evolves
      | (apply covers_trans _ hA; decide +kernel)
      | intro _ | rfl | dsimp only | split)

/-- What `State.angleResults` keeps. -/
theorem State.angleResults_evolves {A : List Part} {s₀ s : State} (h : Evolves A s₀ s) (hA : covers [.fresh, .reg .AS_RES] A = true) :
    Evolves A s₀ (s.angleResults) := by
  unfold State.angleResults
  with_reducible repeat (first
      | assumption
      | apply State.each_evolves
      | apply State.put_evolves
      | (apply covers_trans _ hA; decide +kernel)
      | intro _ | rfl | dsimp only | split)

/-- What `State.retuneFilters` keeps. -/
theorem State.retuneFilters_evolves {A : List Part} {s₀ s : State} (h : Evolves A s₀ s) (hA : covers [.assay] A = true) :
    Evolves A s₀ (s.retuneFilters) := by
  unfold State.retuneFilters
  with_reducible repeat (first
      | assumption
      | apply State.updAssay_evolves
      | (apply covers_trans _ hA; decide +kernel)
      | intro _ | rfl | dsimp only | split)

/-- What `State.windowResults` keeps. -/
theorem State.windowResults_evolves {A : List Part} {s₀ s : State} (h : Evolves A s₀ s)
    (hA : covers [.fresh, .freeIdx, .assay, .reg .AS_RES] A = true) :
    Evolves A s₀ (s.windowResults) := by
  unfold State.windowResults
  with_reducible repeat (first
      | assumption
      | apply State.each_evolves
      | apply State.rmsResult_evolves
      | apply State.powerResult_evolves
      | apply State.putInt_evolves
      | apply State.putFit_evolves
      | apply State.retuneFilters_evolves
      | apply State.angleResults_evolves
      | apply State.freqResult_evolves
      | (apply covers_trans _ hA; decide +kernel)
      | intro _ | rfl | dsimp only | split)

/-- What `State.windowRestart` keeps. -/
theorem State.windowRestart_evolves {A : List Part} {s₀ s : State} (h : Evolves A s₀ s) (first : Option (Nat × Nat)) (hA : covers [.assay] A = true) :
    Evolves A s₀ (s.windowRestart first) := by
  unfold State.windowRestart
  with_reducible repeat (first
      | assumption
      | apply State.updAssay_evolves
      | (apply covers_trans _ hA; decide +kernel)
      | intro _ | rfl | dsimp only | split)

/-- What `State.windowPublish` keeps. -/
theorem State.windowPublish_evolves {A : List Part} {s₀ s : State} (h : Evolves A s₀ s) (first : Option (Nat × Nat))
    (hA : covers ([Part.assay, .reg .AS_RES, .reg .AS_WNUM] ++ seamParts) A = true) :
    Evolves A s₀ (s.windowPublish first) := by
  unfold State.windowPublish
  with_reducible repeat (first
      | assumption
      | apply State.raise_evolves
      | apply State.bump_evolves
      | apply State.windowResults_evolves
      | apply State.windowRestart_evolves
      | apply State.record_evolves
      | (apply covers_trans _ hA; decide +kernel)
      | intro _ | rfl | dsimp only | split)

/-- What `State.windowClose` keeps. -/
theorem State.windowClose_evolves {A : List Part} {s₀ s : State} (h : Evolves A s₀ s) (first : Option (Nat × Nat))
    (hA : covers ([Part.assay, .reg .AS_ASTAT, .reg .AS_RES, .reg .AS_WNUM] ++ seamParts) A = true) :
    Evolves A s₀ (s.windowClose first) := by
  unfold State.windowClose
  with_reducible repeat (first
      | assumption
      | apply State.updAssay_evolves
      | apply State.put_evolves
      | apply State.windowPublish_evolves
      | (apply covers_trans _ hA; decide +kernel)
      | intro _ | rfl | dsimp only | split)

/-- What `State.assaySlot` keeps. -/
theorem State.assaySlot_evolves {A : List Part} {s₀ s : State} (h : Evolves A s₀ s)
    (hA : covers ([Part.assay, .reg .AS_ASTAT, .reg .AS_RES, .reg .AS_WNUM] ++ seamParts) A = true) :
    Evolves A s₀ (s.assaySlot) := by
  unfold State.assaySlot
  with_reducible repeat (first
      | assumption
      | apply State.windowClose_evolves
      | (apply covers_trans _ hA; decide +kernel)
      | intro _ | rfl | dsimp only | split)

/-- What `State.assayFilter` keeps. -/
theorem State.assayFilter_evolves {A : List Part} {s₀ s : State} (h : Evolves A s₀ s) (hA : covers [.assay] A = true) :
    Evolves A s₀ (s.assayFilter) := by
  unfold State.assayFilter
  with_reducible repeat (first
      | assumption
      | apply State.each_evolves
      | apply State.updAssay_evolves
      | (apply covers_trans _ hA; decide +kernel)
      | intro _ | rfl | dsimp only | split)

/-- What `State.assaySum` keeps. -/
theorem State.assaySum_evolves {A : List Part} {s₀ s : State} (h : Evolves A s₀ s) (hA : covers [.assay] A = true) :
    Evolves A s₀ (s.assaySum) := by
  unfold State.assaySum
  with_reducible repeat (first
      | assumption
      | apply State.updAssay_evolves
      | apply State.each_evolves
      | (apply covers_trans _ hA; decide +kernel)
      | intro _ | rfl | dsimp only | split)

/-- What `State.crossStep` keeps. -/
theorem State.crossStep_evolves {A : List Part} {s₀ s : State} (h : Evolves A s₀ s) (x : Fin 3)
    (hA : covers [.fresh, .assay, .reg .AS_ASTAT] A = true) :
    Evolves A s₀ (s.crossStep x).1 := by
  unfold State.crossStep
  with_reducible repeat (first
      | assumption
      | apply State.updAssay_evolves
      | apply State.orPut_evolves
      | (apply covers_trans _ hA; decide +kernel)
      | intro _ | rfl | apply fstIte_evolves | dsimp only | split)

/-- What `State.closeDue` keeps. -/
theorem State.closeDue_evolves {A : List Part} {s₀ s : State} (h : Evolves A s₀ s)
    (hA : covers ([Part.lamp, .assay, .reg .AS_SAVESTAT, .reg .AS_MCFG, .reg .AS_SAVEINT, .reg .AS_PMAX, .reg .AS_PCONST, .reg .AS_ZXCFG,
      .reg .AS_CHGAIN, .reg .AS_CHOFS, .reg .AS_PHDLY, .reg .AS_QGAIN, .reg .AS_QOFS, .reg .AS_EMLO, .reg .AS_EMHI, .reg .AS_EWIN, .reg .AS_WRAPS,
      .reg .AS_TPOSTAT, .reg .AS_PSTAT] ++ raiseParts) A = true) :
    Evolves A s₀ (s.closeDue) := by
  unfold State.closeDue
  with_reducible repeat (first
      | assumption
      | apply State.assayStop_evolves
      | apply State.closeRecord_evolves
      | apply State.calApply_evolves
      | (apply covers_trans _ hA; decide +kernel)
      | intro _ | rfl | dsimp only | split)

/-- What `State.snapTake` keeps. -/
theorem State.snapTake_evolves {A : List Part} {s₀ s : State} (h : Evolves A s₀ s)
    (hA : covers [.fresh, .assay, .reg .AS_ASTAT, .reg .AS_SNAPNUM, .reg .AS_SNAPIMG] A = true) :
    Evolves A s₀ (s.snapTake) := by
  unfold State.snapTake
  with_reducible repeat (first
      | assumption
      | apply State.each_evolves
      | apply State.wrw_evolves
      | apply State.updAssay_evolves
      | apply State.bump_evolves
      | apply State.put_evolves
      | (apply covers_trans _ hA; decide +kernel)
      | intro _ | rfl | dsimp only | split)

/-- What `State.crossSteps` keeps. -/
theorem State.crossSteps_evolves {A : List Part} {s₀ s : State} (h : Evolves A s₀ s) (hA : covers [.fresh, .assay, .reg .AS_ASTAT] A = true) :
    Evolves A s₀ (s.crossSteps).1 := by
  unfold State.crossSteps
  with_reducible repeat (first
      | assumption
      | apply State.crossStep_evolves
      | apply State.refShow_evolves
      | (apply covers_trans _ hA; decide +kernel)
      | intro _ | rfl | apply fstIte_evolves | dsimp only | split)

/-- What `State.assaySample` keeps. -/
theorem State.assaySample_evolves {A : List Part} {s₀ s : State} (h : Evolves A s₀ s) (x : Vector (BitVec 24) 8) (hA : covers assayParts A = true) :
    Evolves A s₀ (s.assaySample x) := by
  unfold State.assaySample
  with_reducible repeat (first
      | assumption
      | apply State.crossSteps_evolves
      | apply State.assaySum_evolves
      | apply State.assayFilter_evolves
      | apply State.assayTake_evolves
      | apply State.updAssay_evolves
      | apply State.intervalEnd_evolves
      | apply State.put_evolves
      | apply State.windowClose_evolves
      | apply State.windowPublish_evolves
      | apply State.snapTake_evolves
      | apply State.closeDue_evolves
      | (apply covers_trans _ hA; decide +kernel)
      | intro _ | rfl | dsimp only | split)

/-- What `execAssaySample` keeps. -/
theorem execAssaySample_evolves {A : List Part} {s₀ s : State} (h : Evolves A s₀ s) (x : Vector (BitVec 24) 8)
    (hA : covers (assayParts ++ onTimerParts) A = true) :
    ∃ u, execAssaySample x s = .next u ∧ Evolves A s₀ u := by
  unfold execAssaySample
  refine ⟨_, rfl, ?_⟩
  with_reducible repeat (first
      | assumption
      | apply State.onTimer_evolves
      | apply State.assaySample_evolves
      | apply State.arm_evolves
      | (apply covers_trans _ hA; decide +kernel)
      | intro _ | rfl | dsimp only | split)

/-- What `execZxLost` keeps. -/
theorem execZxLost_evolves {A : List Part} {s₀ s : State} (h : Evolves A s₀ s) (x : Fin 3)
    (hA : covers ([Part.assay, .reg .AS_ASTAT, .reg .AS_RES] ++ raiseParts) A = true) :
    ∃ u, execZxLost x s = .next u ∧ Evolves A s₀ u := by
  unfold execZxLost
  refine ⟨_, rfl, ?_⟩
  with_reducible repeat (first
      | assumption
      | apply State.raise_evolves
      | apply State.orPut_evolves
      | apply State.put_evolves
      | apply State.refShow_evolves
      | (apply covers_trans _ hA; decide +kernel)
      | intro _ | rfl | dsimp only | split)

/-- What `State.assayWrite` keeps. -/
theorem State.assayWrite_evolves {A : List Part} {s₀ s : State} (h : Evolves A s₀ s) (r : RegId) (v : Word) (i : Nat) (hf : covers [.reg r] A = true)
    (hA : covers [.fresh, .assay, .reg .AS_ASTAT] A = true) :
    Evolves A s₀ (s.assayWrite r v i) := by
  unfold State.assayWrite
  with_reducible repeat (first
      | assumption
      | apply State.updAssay_evolves
      | apply State.regWrite_evolves
      | apply State.put_evolves
      | (apply covers_trans _ hA; decide +kernel)
      | intro _ | rfl | dsimp only | split)

/-- What `execPulseStart` keeps. -/
theorem execPulseStart_evolves {A : List Part} {s₀ s : State} (h : Evolves A s₀ s) (o : Fin 9)
    (hA : covers [.fresh, .assay, .reg .AS_TPOSTAT, .reg .AS_PSTAT] A = true) :
    ∃ u, execPulseStart o s = .next u ∧ Evolves A s₀ u := by
  unfold execPulseStart
  refine ⟨_, rfl, ?_⟩
  with_reducible repeat (first
      | assumption
      | apply State.updAssay_evolves
      | apply State.putBacklog_evolves
      | (apply covers_trans _ hA; decide +kernel)
      | intro _ | rfl | dsimp only | split)

/-- What `State.lastGasp` keeps. -/
theorem State.lastGasp_evolves {A : List Part} {s₀ s : State} (h : Evolves A s₀ s)
    (hA : covers [.fresh, .assay, .reg .AS_TPOSTAT, .reg .AS_PSTAT] A = true) :
    Evolves A s₀ (s.lastGasp) := by
  unfold State.lastGasp
  with_reducible repeat (first
      | assumption
      | apply State.each_evolves
      | apply State.putBacklog_evolves
      | apply State.updAssay_evolves
      | (apply covers_trans _ hA; decide +kernel)
      | intro _ | rfl | dsimp only | split)

/-! ### Machine/Reset -/

/-- What `State.keepTimers` keeps. -/
theorem State.keepTimers_evolves {A : List Part} {s₀ s : State} (h : Evolves A s₀ s) (p : Timer → Bool) (hA : covers [.timers] A = true) :
    Evolves A s₀ (s.keepTimers p) := by
  unfold State.keepTimers
  with_reducible repeat (first
      | assumption
      | (apply covers_trans _ hA; decide +kernel)
      | intro _ | rfl | dsimp only | split
      | (apply timers_evolves; first | assumption | intro _ | rfl | dsimp only | split))

/-- What `State.pairUnitReset` keeps. -/
theorem State.pairUnitReset_evolves {A : List Part} {s₀ s : State} (h : Evolves A s₀ s) (n : Nat) (hA : covers [.mem, .drift] A = true) :
    Evolves A s₀ (s.pairUnitReset n) := by
  unfold State.pairUnitReset
  with_reducible repeat (first
      | assumption
      | apply State.each_evolves
      | apply State.updPair_evolves
      | apply State.setTcm_evolves
      | (apply covers_trans _ hA; decide +kernel)
      | intro _ | rfl | dsimp only | split)

/-- What `State.regateOwned` keeps. -/
theorem State.regateOwned_evolves {A : List Part} {s₀ s : State} (h : Evolves A s₀ s) (n : Nat) (hA : covers gateParts A = true) :
    Evolves A s₀ (s.regateOwned n) := by
  unfold State.regateOwned
  with_reducible repeat (first
      | assumption
      | apply State.each_evolves
      | apply State.regateBlock_evolves
      | (apply covers_trans _ hA; decide +kernel)
      | intro _ | rfl | dsimp only | split)

/-- What `State.pairWarm` keeps. -/
theorem State.pairWarm_evolves {A : List Part} {s₀ s : State} (h : Evolves A s₀ s) (n : Nat)
    (hA : covers ([Part.latched, .mem, .plan, .reg .DR_PFAULT, .reg .DR_PSTAMP, .reg .DR_PCOUNT, .reg .DR_PLOG, .reg .DR_OWNRGN, .reg .RS_WDTCTL,
      .reg .RS_WDTKICK] ++ pairCtlParts ++ gateParts) A = true) :
    Evolves A s₀ (s.pairWarm n) := by
  unfold State.pairWarm
  extract_lets f s1 s2
  have c := fun {B : List Part} => covers_trans (A := B) (h' := hA)
  have h1 : Evolves A s₀ s1 := by
    refine State.put_evolves (State.resetRegsWhere_evolves h _ (fun r i hr => ?_) (covers_mem hA (by decide))) _ _ _ _ (c (by decide +kernel))
    have hr' : r.ofPair = true := (Bool.and_eq_true _ _ ▸ hr).1
    refine covers_mem hA ?_
    revert hr'
    cases r <;> decide
  have h2 : Evolves A s₀ s2 := State.updPlan_evolves (State.keepTimers_evolves (State.pairUnitReset_evolves h1 _ (c (by decide +kernel))) _
    (c (by decide +kernel))) _ (c (by decide +kernel))
  clear_value s2
  exact State.regateOwned_evolves (State.setPst_evolves (State.updPair_evolves h2 _ _ rfl (c (by decide +kernel))) _ _ (c (by decide +kernel))) _
    (c (by decide +kernel))

/-- What `State.stageReset` keeps. -/
theorem State.stageReset_evolves {A : List Part} {s₀ s : State} (h : Evolves A s₀ s) (hA : covers [.power] A = true) :
    Evolves A s₀ (s.stageReset) := by
  unfold State.stageReset
  with_reducible repeat (first
      | assumption
      | (apply covers_trans _ hA; decide +kernel)
      | intro _ | rfl | dsimp only | split
      | (apply power_evolves; first | assumption | intro _ | rfl | dsimp only | split))

/-- What `State.deviceUnits` keeps. -/
theorem State.deviceUnits_evolves {A : List Part} {s₀ s : State} (h : Evolves A s₀ s)
    (hA : covers [.mem, .head, .plan, .drift, .intc, .seam, .power, .pick, .sense, .host] A = true) :
    Evolves A s₀ (s.deviceUnits) := by
  unfold State.deviceUnits
  with_reducible repeat (first
      | assumption
      | apply State.stageReset_evolves
      | apply State.each_evolves
      | apply State.pairUnitReset_evolves
      | (apply covers_trans _ hA; decide +kernel)
      | intro _ | rfl | dsimp only | split
      | (apply mk_evolves; first | assumption | apply State.stageReset_evolves | apply State.each_evolves | apply State.pairUnitReset_evolves | intro _ | rfl | dsimp only | split)
      | exact .inl rfl | exact .inr (covers_mem hA (by decide +kernel)))

/-- What `State.afterReset` keeps. -/
theorem State.afterReset_evolves {A : List Part} {s₀ s : State} (h : Evolves A s₀ s)
    (hA : covers ([Part.reg .PW_GSTAT, .reg .CG_CGSTAT, .reg .DR_DSTAT, .reg .FM_FCAUSE] ++ sf2Parts ++ seamParts) A = true) :
    Evolves A s₀ (s.afterReset) := by
  unfold State.afterReset
  with_reducible repeat (first
      | assumption
      | apply State.each_evolves
      | apply State.put_evolves
      | apply State.followTurnoff_evolves
      | apply State.faultLine_evolves
      | apply State.fmOutputs_evolves
      | apply State.regateAll_evolves
      | (apply covers_trans _ hA; decide +kernel)
      | intro _ | rfl | dsimp only | split)

/-- What `State.safeForget` keeps. -/
theorem State.safeForget_evolves {A : List Part} {s₀ s : State} (h : Evolves A s₀ s) (hA : covers [.power] A = true) :
    Evolves A s₀ (s.safeForget) := by
  unfold State.safeForget
  with_reducible repeat (first
      | assumption
      | (apply covers_trans _ hA; decide +kernel)
      | intro _ | rfl | dsimp only | split
      | (apply power_evolves; first | assumption | intro _ | rfl | dsimp only | split))

/-- What `State.deviceRegs` keeps. -/
theorem State.deviceRegs_evolves {A : List Part} {s₀ s : State} (h : Evolves A s₀ s) (hA : covers Part.all A = true) :
    Evolves A s₀ (s.deviceRegs) := by
  unfold State.deviceRegs
  with_reducible repeat (first
      | assumption
      | apply State.wrw_evolves
      | apply State.resetRegs_evolves
      | apply State.each_evolves
      | apply State.put_evolves
      | (apply covers_trans _ hA; exact covers_all _)
      | intro _ | rfl | dsimp only | split)

/-- What `State.deviceWarm` keeps. -/
theorem State.deviceWarm_evolves {A : List Part} {s₀ s : State} (h : Evolves A s₀ s) (hA : covers Part.all A = true) :
    Evolves A s₀ (s.deviceWarm) := by
  unfold State.deviceWarm
  with_reducible repeat (first
      | assumption
      | apply State.keepTimers_evolves
      | apply State.deviceUnits_evolves
      | apply State.deviceRegs_evolves
      | apply State.afterReset_evolves
      | apply State.each_evolves
      | apply State.setPst_evolves
      | (apply covers_trans _ hA; exact covers_all _)
      | intro _ | rfl | dsimp only | split
      | (apply supply_evolves; first | assumption | apply State.keepTimers_evolves | apply State.deviceUnits_evolves | apply State.deviceRegs_evolves | apply State.afterReset_evolves | apply State.each_evolves | apply State.setPst_evolves | intro _ | rfl | dsimp only | split))

/-- What `State.bankShow` keeps. -/
theorem State.bankShow_evolves {A : List Part} {s₀ s : State} (h : Evolves A s₀ s)
    (hA : covers [.fresh, .reg .BK_BKSTAT, .reg .BK_SLOTMAP0, .reg .BK_SLOTMAP1, .reg .BK_TAMPSTAT, .reg .BK_TAMPCNT, .reg .EX_EXSTAT,
      .reg .EX_ARBSTEP0, .reg .EX_ARBSTEP1] A = true) :
    Evolves A s₀ (s.bankShow) := by
  unfold State.bankShow
  with_reducible repeat (first
      | assumption
      | apply State.put_evolves
      | (apply covers_trans _ hA; decide +kernel)
      | intro _ | rfl | dsimp only | split)

/-- What `State.bankReset` keeps. -/
theorem State.bankReset_evolves {A : List Part} {s₀ s : State} (h : Evolves A s₀ s) (hA : covers [.bank] A = true) :
    Evolves A s₀ (s.bankReset) := by
  unfold State.bankReset
  with_reducible repeat (first
      | assumption
      | (apply covers_trans _ hA; decide +kernel)
      | intro _ | rfl | dsimp only | split
      | (apply bank_evolves; first | assumption | intro _ | rfl | dsimp only | split)
      | exact ⟨rfl, rfl, rfl⟩)

/-- What `State.controlCold` keeps. -/
theorem State.controlCold_evolves {A : List Part} {s₀ s : State} (h : Evolves A s₀ s) (hA : covers Part.all A = true) :
    Evolves A s₀ (s.controlCold) := by
  unfold State.controlCold
  with_reducible repeat (first
      | assumption
      | apply State.resetRegs_evolves
      | apply State.keepTimers_evolves
      | apply State.bankReset_evolves
      | apply State.safeForget_evolves
      | apply State.deviceUnits_evolves
      | apply State.clearMem_evolves
      | apply State.put_evolves
      | apply State.arm_evolves
      | apply State.winsFollow_evolves
      | apply State.bankShow_evolves
      | apply State.afterReset_evolves
      | (apply covers_trans _ hA; exact covers_all _)
      | intro _ | rfl | dsimp only | split
      | (apply mk_evolves; first | assumption | apply State.resetRegs_evolves | apply State.keepTimers_evolves | apply State.bankReset_evolves | apply State.safeForget_evolves | apply State.deviceUnits_evolves | apply State.clearMem_evolves | apply State.put_evolves | apply State.arm_evolves | apply State.winsFollow_evolves | apply State.bankShow_evolves | apply State.afterReset_evolves | intro _ | rfl | dsimp only | split)
      | exact .inr (covers_mem hA (Part.mem_all _)) | exact .inl rfl)

/-- What `State.fullCold` keeps. -/
theorem State.fullCold_evolves {A : List Part} {s₀ s : State} (h : Evolves A s₀ s) (hA : covers Part.all A = true) :
    Evolves A s₀ (s.fullCold) := by
  unfold State.fullCold
  with_reducible repeat (first
      | assumption
      | apply State.controlCold_evolves
      | apply State.keepTimers_evolves
      | apply State.resetRegs_evolves
      | apply State.put_evolves
      | apply State.afterReset_evolves
      | (apply covers_trans _ hA; exact covers_all _)
      | intro _ | rfl | dsimp only | split
      | (apply mk_evolves; first | assumption | apply State.controlCold_evolves | apply State.keepTimers_evolves | apply State.resetRegs_evolves | apply State.put_evolves | apply State.afterReset_evolves | intro _ | rfl | dsimp only | split)
      | exact .inr (covers_mem hA (Part.mem_all _)) | exact .inl rfl)

/-- What `State.countReset` keeps. -/
theorem State.countReset_evolves {A : List Part} {s₀ s : State} (h : Evolves A s₀ s) (cause : Nat)
    (hA : covers [.fresh, .reg .RS_RSTCNT, .reg .RS_RSTTOT] A = true) :
    Evolves A s₀ (s.countReset cause) := by
  unfold State.countReset
  with_reducible repeat (first
      | assumption
      | apply State.wrw_evolves
      | apply State.bumpSat_evolves
      | (apply covers_trans _ hA; decide +kernel)
      | intro _ | rfl | dsimp only | split)

/-- What `State.lastReset` keeps. -/
theorem State.lastReset_evolves {A : List Part} {s₀ s : State} (h : Evolves A s₀ s) (cause : Nat) (scope : Nat)
    (hA : covers [.fresh, .reg .RS_RSTSTAT] A = true) :
    Evolves A s₀ (s.lastReset cause scope) := by
  unfold State.lastReset
  with_reducible repeat (first
      | assumption
      | apply State.put_evolves
      | (apply covers_trans _ hA; decide +kernel)
      | intro _ | rfl | dsimp only | split)

/-- What `State.reset3` keeps. -/
theorem State.reset3_evolves {A : List Part} {s₀ s : State} (h : Evolves A s₀ s) (scope : Nat) (cause : Nat) (hA : covers Part.all A = true) :
    Evolves A s₀ (s.reset3 scope cause) := by
  unfold State.reset3
  with_reducible repeat (first
      | assumption
      | apply State.countReset_evolves
      | apply State.put_evolves
      | apply State.lastReset_evolves
      | apply State.fullCold_evolves
      | apply State.orderlyDone_evolves
      | apply State.controlCold_evolves
      | apply State.deviceWarm_evolves
      | (apply covers_trans _ hA; exact covers_all _)
      | intro _ | rfl | dsimp only | split)

/-- What `State.resetPair` keeps. -/
theorem State.resetPair_evolves {A : List Part} {s₀ s : State} (h : Evolves A s₀ s) (n : Nat) (cause : Nat)
    (hA : covers ([Part.latched, .mem, .plan, .supply, .reg .DR_PFAULT, .reg .DR_PSTAMP, .reg .DR_PCOUNT, .reg .DR_PLOG, .reg .DR_OWNRGN,
      .reg .RS_RSTSTAT, .reg .RS_RSTCNT, .reg .RS_RSTTOT, .reg .RS_WDTCTL, .reg .RS_WDTKICK] ++ pairCtlParts ++ gateParts) A = true) :
    Evolves A s₀ (s.resetPair n cause) := by
  unfold State.resetPair
  with_reducible repeat (first
      | assumption
      | apply State.countReset_evolves
      | apply State.put_evolves
      | apply State.lastReset_evolves
      | apply State.pairWarm_evolves
      | (apply covers_trans _ hA; decide +kernel)
      | intro _ | rfl | dsimp only | split
      | (apply supply_evolves; first | assumption | apply State.countReset_evolves | apply State.put_evolves | apply State.lastReset_evolves | apply State.pairWarm_evolves | intro _ | rfl | dsimp only | split))

/-- What `State.rstDenied` keeps. -/
theorem State.rstDenied_evolves {A : List Part} {s₀ s : State} (h : Evolves A s₀ s) (hA : covers ([Part.reg .RS_RSTSTAT] ++ raiseParts) A = true) :
    Evolves A s₀ (s.rstDenied) := by
  unfold State.rstDenied
  with_reducible repeat (first
      | assumption
      | apply State.raise_evolves
      | apply State.put_evolves
      | (apply covers_trans _ hA; decide +kernel)
      | intro _ | rfl | dsimp only | split)

/-- What `State.rstctlWrite` keeps. -/
theorem State.rstctlWrite_evolves {A : List Part} {s₀ s : State} (h : Evolves A s₀ s) (m : Master) (v : Word) (hA : covers Part.all A = true) :
    Evolves A s₀ (s.rstctlWrite m v) := by
  unfold State.rstctlWrite
  with_reducible repeat (first
      | assumption
      | apply State.rstDenied_evolves
      | apply State.reset3_evolves
      | apply State.resetPair_evolves
      | (apply covers_trans _ hA; exact covers_all _)
      | intro _ | rfl | dsimp only | split)

/-- What `State.wdtctlWrite` keeps. -/
theorem State.wdtctlWrite_evolves {A : List Part} {s₀ s : State} (h : Evolves A s₀ s) (m : Master) (n : Nat) (v : Word)
    (hA : covers ([Part.reg .RS_RSTSTAT, .reg .RS_WDTCTL] ++ raiseParts) A = true) :
    Evolves A s₀ (s.wdtctlWrite m n v) := by
  unfold State.wdtctlWrite
  with_reducible repeat (first
      | assumption
      | apply State.rstDenied_evolves
      | apply State.wdtFollow_evolves
      | apply State.regWrite_evolves
      | (apply covers_trans _ hA; decide +kernel)
      | intro _ | rfl | dsimp only | split)

/-- What `State.wdtkickWrite` keeps. -/
theorem State.wdtkickWrite_evolves {A : List Part} {s₀ s : State} (h : Evolves A s₀ s) (m : Master) (n : Nat) (v : Word)
    (hA : covers ([Part.reg .RS_RSTSTAT] ++ raiseParts) A = true) :
    Evolves A s₀ (s.wdtkickWrite m n v) := by
  unfold State.wdtkickWrite
  with_reducible repeat (first
      | assumption
      | apply State.rstDenied_evolves
      | apply State.wdtStart_evolves
      | (apply covers_trans _ hA; decide +kernel)
      | intro _ | rfl | dsimp only | split)

/-- What `execWarned` keeps. -/
theorem execWarned_evolves {A : List Part} {s₀ s : State} (h : Evolves A s₀ s) (n : Pair)
    (hA : covers ([Part.reg .RS_WDTCTL] ++ raiseParts ++ onTimerParts) A = true) :
    ∃ u, execWarned n s = .next u ∧ Evolves A s₀ u := by
  unfold execWarned
  refine ⟨_, rfl, ?_⟩
  with_reducible repeat (first
      | assumption
      | apply State.onTimer_evolves
      | apply State.raise_evolves
      | apply State.put_evolves
      | (apply covers_trans _ hA; decide +kernel)
      | intro _ | rfl | dsimp only | split)

/-- What `execWatchdogTimeout` keeps. -/
theorem execWatchdogTimeout_evolves {A : List Part} {s₀ s : State} (h : Evolves A s₀ s) (n : Pair)
    (hA : covers ([Part.latched, .mem, .supply, .reg .DR_PFAULT, .reg .DR_PSTAMP, .reg .DR_PCOUNT, .reg .DR_PLOG, .reg .DR_OWNRGN,
      .reg .RS_RSTSTAT, .reg .RS_RSTCNT, .reg .RS_RSTTOT, .reg .RS_WDTCTL, .reg .RS_WDTKICK] ++ pairCtlParts ++ onTimerParts ++
      gateParts) A = true) :
    ∃ u, execWatchdogTimeout n s = .next u ∧ Evolves A s₀ u := by
  unfold execWatchdogTimeout
  refine ⟨_, rfl, ?_⟩
  with_reducible repeat (first
      | assumption
      | apply State.onTimer_evolves
      | apply State.resetPair_evolves
      | (apply covers_trans _ hA; decide +kernel)
      | intro _ | rfl | dsimp only | split)

/-- What `execBanksmanLockstepFault` keeps. -/
theorem execBanksmanLockstepFault_evolves {A : List Part} {s₀ s : State} (h : Evolves A s₀ s) (hA : covers Part.all A = true) :
    ∃ u, execBanksmanLockstepFault s = .next u ∧ Evolves A s₀ u := by
  unfold execBanksmanLockstepFault
  refine ⟨_, rfl, ?_⟩
  with_reducible repeat (first
      | assumption
      | apply State.reset3_evolves
      | (apply covers_trans _ hA; exact covers_all _)
      | intro _ | rfl | dsimp only | split)

/-- What `State.selfTest` keeps. -/
theorem State.selfTest_evolves {A : List Part} {s₀ s : State} (h : Evolves A s₀ s) (pass : Bool) (hA : covers Part.all A = true) :
    Evolves A s₀ (s.selfTest pass) := by
  unfold State.selfTest
  with_reducible repeat (first
      | assumption
      | apply State.reset3_evolves
      | apply State.selfTestFail_evolves
      | (apply covers_trans _ hA; exact covers_all _)
      | intro _ | rfl | dsimp only | split)

/-- What `execForemanSelfTest` keeps. -/
theorem execForemanSelfTest_evolves {A : List Part} {s₀ s : State} (h : Evolves A s₀ s) (monitors : Bool) (windows : Bool) (store : Bool)
    (hA : covers Part.all A = true) :
    ∃ u, execForemanSelfTest monitors windows store s = .next u ∧ Evolves A s₀ u := by
  unfold execForemanSelfTest
  refine ⟨_, rfl, ?_⟩
  with_reducible repeat (first
      | assumption
      | apply State.fmEvery_evolves
      | apply State.selfTest_evolves
      | (apply covers_trans _ hA; exact covers_all _)
      | intro _ | rfl | dsimp only | split)

/-- What `execClockCheck` keeps. -/
theorem execClockCheck_evolves {A : List Part} {s₀ s : State} (h : Evolves A s₀ s) (rc : Nat) (canary : Nat) (crystal : Nat)
    (hA : covers Part.all A = true) :
    ∃ u, execClockCheck rc canary crystal s = .next u ∧ Evolves A s₀ u := by
  unfold execClockCheck
  refine ⟨_, rfl, ?_⟩
  with_reducible repeat (first
      | assumption
      | apply State.fmEvery_evolves
      | apply State.selfTest_evolves
      | (apply covers_trans _ hA; exact covers_all _)
      | intro _ | rfl | dsimp only | split)

/-- What `execMonitorSample` keeps. -/
theorem execMonitorSample_evolves {A : List Part} {s₀ s : State} (h : Evolves A s₀ s) (a : BitVec 12) (b : BitVec 12) (c : BitVec 12) (frac : Fin 65536) (node : BitVec 5) (krb : BitVec 2) (brb : BitVec 2) (halves : Bool)
    (hA : covers Part.all A = true) :
    ∃ u, execMonitorSample a b c frac node krb brb halves s = .next u ∧ Evolves A s₀ u := by
  unfold execMonitorSample
  refine ⟨_, rfl, ?_⟩
  with_reducible repeat (first
      | assumption
      | apply State.fmEvery_evolves
      | apply State.selfTest_evolves
      | apply State.monitorSample_evolves
      | (apply covers_trans _ hA; exact covers_all _)
      | intro _ | rfl | dsimp only | split)

/-! ### Machine/PairFault -/

/-- What `State.holdPair` keeps. -/
theorem State.holdPair_evolves {A : List Part} {s₀ s : State} (h : Evolves A s₀ s) (n : Nat)
    (hA : covers ([Part.latched, .mem, .plan, .reg .DR_PFAULT, .reg .DR_PSTAMP, .reg .DR_PCOUNT, .reg .DR_PLOG, .reg .DR_OWNRGN, .reg .RS_WDTCTL,
      .reg .RS_WDTKICK] ++ pairCtlParts ++ gateParts) A = true) :
    Evolves A s₀ (s.holdPair n) := by
  unfold State.holdPair
  with_reducible repeat (first
      | assumption
      | apply State.setPst_evolves
      | apply State.pairWarm_evolves
      | (apply covers_trans _ hA; decide +kernel)
      | intro _ | rfl | dsimp only | split)

/-- What `State.pickPowerOff` keeps. -/
theorem State.pickPowerOff_evolves {A : List Part} {s₀ s : State} (h : Evolves A s₀ s) (hA : covers [.fresh, .pick, .reg .PK_PCTL] A = true) :
    Evolves A s₀ (s.pickPowerOff) := by
  unfold State.pickPowerOff
  with_reducible repeat (first
      | assumption
      | apply State.each_evolves
      | apply State.put_evolves
      | (apply covers_trans _ hA; decide +kernel)
      | intro _ | rfl | dsimp only | split
      | (apply pick_evolves; first | assumption | apply State.each_evolves | apply State.put_evolves | intro _ | rfl | dsimp only | split))

/-- What `State.nightEnter` keeps. -/
theorem State.nightEnter_evolves {A : List Part} {s₀ s : State} (h : Evolves A s₀ s)
    (hA : covers ([Part.latched, .mem, .plan, .pick, .sense, .uhla, .winder, .reg .PK_PCTL, .reg .PK_PSTAT, .reg .PK_BUDGET, .reg .PK_INVSRC,
      .reg .PK_SLICEMAP0, .reg .PK_SLICEMAP1, .reg .PK_ICOUNT, .reg .PK_LATE, .reg .PK_REGION, .reg .PK_OPV, .reg .PK_PARAMGO, .reg .PK_PARAM,
      .reg .PK_REPORT, .reg .PK_REPLATCH, .reg .SN_CTL, .reg .SN_CHSTAT, .reg .SN_SLMEAN, .reg .SN_SLINFO, .reg .SN_MMMIN, .reg .SN_MMMAX,
      .reg .SN_MMINFO, .reg .PW_GSTAT, .reg .DR_PFAULT, .reg .DR_PSTAMP, .reg .DR_PCOUNT, .reg .DR_OWNRGN, .reg .WI_SSTAT, .reg .PR_PWRSTAT,
      .reg .RS_WDTCTL, .reg .RS_WDTKICK, .reg .UH_USTAT, .reg .UH_UPORT, .reg .ET_ETHSTAT] ++ raiseParts ++ pairCtlParts ++ gateParts) A = true) :
    Evolves A s₀ (s.nightEnter) := by
  unfold State.nightEnter
  with_reducible repeat (first
      | assumption
      | apply State.resetRegsWhere_evolves
      | apply State.pickPowerOff_evolves
      | apply State.each_evolves
      | apply State.disarm_evolves
      | apply State.put_evolves
      | apply State.chanNotReady_evolves
      | apply State.synthStop_evolves
      | apply State.winsFollow_evolves
      | apply State.holdPair_evolves
      | (apply covers_trans _ hA; decide +kernel)
      | intro _ | rfl | (refine covers_mem hA ?_; rename_i r _ hr; revert hr; cases r <;> decide) | (exact covers_mem hA (by decide +kernel)) | dsimp only | split
      | (apply uhla_evolves; first | assumption | apply State.resetRegsWhere_evolves | apply State.pickPowerOff_evolves | apply State.each_evolves | apply State.disarm_evolves | apply State.put_evolves | apply State.chanNotReady_evolves | apply State.synthStop_evolves | apply State.winsFollow_evolves | apply State.holdPair_evolves | intro _ | rfl | (refine covers_mem hA ?_; rename_i r _ hr; revert hr; cases r <;> decide) | (exact covers_mem hA (by decide +kernel)) | dsimp only | split))

/-- What `State.nightSynths` keeps. -/
theorem State.nightSynths_evolves {A : List Part} {s₀ s : State} (h : Evolves A s₀ s) (hA : covers [.timers] A = true) :
    Evolves A s₀ (s.nightSynths) := by
  unfold State.nightSynths
  with_reducible repeat (first
      | assumption
      | apply State.each_evolves
      | apply State.arm_evolves
      | (apply covers_trans _ hA; decide +kernel)
      | intro _ | rfl | dsimp only | split)

/-- What `State.nightExit` keeps. -/
theorem State.nightExit_evolves {A : List Part} {s₀ s : State} (h : Evolves A s₀ s) (fault : Bool)
    (hA : covers ([Part.latched, .mem, .plan, .uhla, .reg .DR_PFAULT, .reg .DR_PSTAMP, .reg .DR_PCOUNT, .reg .DR_OWNRGN, .reg .PR_PWRSTAT,
      .reg .RS_WDTCTL, .reg .RS_WDTKICK] ++ raiseParts ++ pairCtlParts ++ gateParts) A = true) :
    Evolves A s₀ (s.nightExit fault) := by
  unfold State.nightExit
  with_reducible repeat (first
      | assumption
      | apply State.winsFollow_evolves
      | apply State.nightSynths_evolves
      | apply State.put_evolves
      | apply State.raise_evolves
      | apply State.each_evolves
      | apply State.pairWarm_evolves
      | (apply covers_trans _ hA; decide +kernel)
      | intro _ | rfl | dsimp only | split
      | (apply uhla_evolves; first | assumption | apply State.winsFollow_evolves | apply State.nightSynths_evolves | apply State.put_evolves | apply State.raise_evolves | apply State.each_evolves | apply State.pairWarm_evolves | intro _ | rfl | dsimp only | split))

/-- What `State.assignSpares` keeps. -/
theorem State.assignSpares_evolves {A : List Part} {s₀ s : State} (h : Evolves A s₀ s) (hA : covers [.drift] A = true) :
    Evolves A s₀ (s.assignSpares) := by
  unfold State.assignSpares
  with_reducible repeat (first
      | assumption
      | apply State.each_evolves
      | apply State.updPair_evolves
      | (apply covers_trans _ hA; decide +kernel)
      | intro _ | rfl | dsimp only | split)

/-- What `State.putFault` keeps. -/
theorem State.putFault_evolves {A : List Part} {s₀ s : State} (h : Evolves A s₀ s) (n : Nat) (cause : Nat) (lane : Nat)
    (hA : covers [.fresh, .reg .DR_PFAULT, .reg .DR_PSTAMP] A = true) :
    Evolves A s₀ (s.putFault n cause lane) := by
  unfold State.putFault
  with_reducible repeat (first
      | assumption
      | apply State.put_evolves
      | (apply covers_trans _ hA; decide +kernel)
      | intro _ | rfl | dsimp only | split)

/-- What `State.detect` keeps. -/
theorem State.detect_evolves {A : List Part} {s₀ s : State} (h : Evolves A s₀ s) (n : Nat) (cause : Nat) (lane : Nat)
    (hA : covers [.fresh, .timers, .drift, .fm, .reg .DR_DSTAT, .reg .DR_PFAULT, .reg .DR_PSTAMP, .reg .FM_FSTAT] A = true) :
    Evolves A s₀ (s.detect n cause lane) := by
  unfold State.detect
  with_reducible repeat (first
      | assumption
      | apply State.putFault_evolves
      | apply State.updPair_evolves
      | apply State.arm_evolves
      | apply State.faultLine_evolves
      | apply State.assignSpares_evolves
      | (apply covers_trans _ hA; decide +kernel)
      | intro _ | rfl | dsimp only | split)

/-- What `State.enterFailed` keeps. -/
theorem State.enterFailed_evolves {A : List Part} {s₀ s : State} (h : Evolves A s₀ s) (n : Nat)
    (hA : covers ([Part.fm, .reg .BLK_BLKCTL, .reg .CG_BSTAT, .reg .RG_RSTAT, .reg .DR_DSTAT, .reg .DR_PSTATE, .reg .DR_PCOUNT, .reg .FM_FSTAT] ++
      raiseParts ++ coastParts ++ gateParts) A = true) :
    Evolves A s₀ (s.enterFailed n) := by
  unfold State.enterFailed
  with_reducible repeat (first
      | assumption
      | apply State.updPair_evolves
      | apply State.bumpSat_evolves
      | apply State.sf2Drift_evolves
      | apply State.raise_evolves
      | apply State.setPst_evolves
      | (apply covers_trans _ hA; decide +kernel)
      | intro _ | rfl | dsimp only | split)

/-- What `State.lastPairGone` keeps. -/
theorem State.lastPairGone_evolves {A : List Part} {s₀ s : State} (h : Evolves A s₀ s) (hA : covers Part.all A = true) :
    Evolves A s₀ (s.lastPairGone) := by
  unfold State.lastPairGone
  with_reducible repeat (first
      | assumption
      | apply State.nightExit_evolves
      | apply State.reset3_evolves
      | (apply covers_trans _ hA; exact covers_all _)
      | intro _ | rfl | dsimp only | split)

/-- What `State.recoveryCopied` keeps. -/
theorem State.recoveryCopied_evolves {A : List Part} {s₀ s : State} (h : Evolves A s₀ s) (n : Nat) (cause : Nat)
    (hA : covers [.mem, .drift] A = true) :
    Evolves A s₀ (s.recoveryCopied n cause) := by
  unfold State.recoveryCopied
  with_reducible repeat (first
      | assumption
      | apply State.copyTcm_evolves
      | apply State.updPair_evolves
      | apply State.applyJournal_evolves
      | (apply covers_trans _ hA; decide +kernel)
      | intro _ | rfl | dsimp only | split)

/-- What `State.recoveryFailed` keeps. -/
theorem State.recoveryFailed_evolves {A : List Part} {s₀ s : State} (h : Evolves A s₀ s) (n : Nat) (cause : Nat) (hA : covers Part.all A = true) :
    Evolves A s₀ (s.recoveryFailed n cause) := by
  unfold State.recoveryFailed
  with_reducible repeat (first
      | assumption
      | apply State.raise_evolves
      | apply State.put_evolves
      | apply State.recoveryCopied_evolves
      | apply State.each_evolves
      | apply State.pulseInhibit_evolves
      | apply State.updPair_evolves
      | apply State.lastPairGone_evolves
      | apply State.enterFailed_evolves
      | apply State.setPst_evolves
      | (apply covers_trans _ hA; exact covers_all _)
      | intro _ | rfl | dsimp only | split)

/-- What `State.pairFault` keeps. -/
theorem State.pairFault_evolves {A : List Part} {s₀ s : State} (h : Evolves A s₀ s) (k : Nat) (cause : Nat) (lane : Nat)
    (hA : covers Part.all A = true) :
    Evolves A s₀ (s.pairFault k cause lane) := by
  unfold State.pairFault
  with_reducible repeat (first
      | assumption
      | apply State.detect_evolves
      | apply State.put_evolves
      | apply State.recoveryFailed_evolves
      | (apply covers_trans _ hA; exact covers_all _)
      | intro _ | rfl | dsimp only | split)

/-- What `execPairFault` keeps. -/
theorem execPairFault_evolves {A : List Part} {s₀ s : State} (h : Evolves A s₀ s) (n : Pair) (cause : Fin 3) (lane : Fin 1024)
    (hA : covers Part.all A = true) :
    ∃ u, execPairFault n cause lane s = .next u ∧ Evolves A s₀ u := by
  unfold execPairFault
  refine ⟨_, rfl, ?_⟩
  with_reducible repeat (first
      | assumption
      | apply State.pairFault_evolves
      | (apply covers_trans _ hA; exact covers_all _)
      | intro _ | rfl | dsimp only | split)

/-- What `execPairEnterFailed` keeps. -/
theorem execPairEnterFailed_evolves {A : List Part} {s₀ s : State} (h : Evolves A s₀ s) (n : Pair) (hA : covers Part.all A = true) :
    ∃ u, execPairEnterFailed n s = .next u ∧ Evolves A s₀ u := by
  unfold execPairEnterFailed
  refine ⟨_, rfl, ?_⟩
  with_reducible repeat (first
      | assumption
      | apply State.onTimer_evolves
      | apply State.enterFailed_evolves
      | apply State.lastPairGone_evolves
      | apply State.raise_evolves
      | apply State.put_evolves
      | (apply covers_trans _ hA; exact covers_all _)
      | intro _ | rfl | dsimp only | split)

/-- What `execRecoveryComplete` keeps. -/
theorem execRecoveryComplete_evolves {A : List Part} {s₀ s : State} (h : Evolves A s₀ s) (n : Pair) (o : Fin 4) (hA : covers Part.all A = true) :
    ∃ u, execRecoveryComplete n o s = .next u ∧ Evolves A s₀ u := by
  unfold execRecoveryComplete
  refine ⟨_, rfl, ?_⟩
  with_reducible repeat (first
      | assumption
      | apply State.recoveryFailed_evolves
      | apply State.checkpointed_evolves
      | apply State.copyWork_evolves
      | apply State.setPst_evolves
      | apply State.updPair_evolves
      | apply State.bumpSat_evolves
      | apply State.coreIrq_evolves
      | apply State.passMissed_evolves
      | (apply covers_trans _ hA; exact covers_all _)
      | intro _ | rfl | dsimp only | split)

/-- What `State.loadTcm` keeps. -/
theorem State.loadTcm_evolves {A : List Part} {s₀ s : State} (h : Evolves A s₀ s) (n : Nat) (hA : covers [.mem, .drift] A = true) :
    Evolves A s₀ (s.loadTcm n) := by
  unfold State.loadTcm
  with_reducible repeat (first
      | assumption
      | apply State.setTcm_evolves
      | (apply covers_trans _ hA; decide +kernel)
      | intro _ | rfl | dsimp only | split)

/-- What `State.startDone` keeps. -/
theorem State.startDone_evolves {A : List Part} {s₀ s : State} (h : Evolves A s₀ s) (hA : covers [.fm, .supply] A = true) :
    Evolves A s₀ (s.startDone) := by
  unfold State.startDone
  with_reducible repeat (first
      | assumption
      | apply State.fmOutputs_evolves
      | (apply covers_trans _ hA; decide +kernel)
      | intro _ | rfl | dsimp only | split
      | (apply supply_evolves; first | assumption | apply State.fmOutputs_evolves | intro _ | rfl | dsimp only | split))

/-- What `State.testFailed` keeps. -/
theorem State.testFailed_evolves {A : List Part} {s₀ s : State} (h : Evolves A s₀ s) (n : Nat) (lane : Nat)
    (hA : covers ([Part.fm, .reg .BLK_BLKCTL, .reg .CG_BSTAT, .reg .RG_RSTAT, .reg .DR_DSTAT, .reg .DR_PSTATE, .reg .DR_PFAULT, .reg .DR_PSTAMP,
      .reg .DR_PCOUNT, .reg .FM_FSTAT] ++ raiseParts ++ coastParts ++ gateParts) A = true) :
    Evolves A s₀ (s.testFailed n lane) := by
  unfold State.testFailed
  with_reducible repeat (first
      | assumption
      | apply State.enterFailed_evolves
      | apply State.putFault_evolves
      | (apply covers_trans _ hA; decide +kernel)
      | intro _ | rfl | dsimp only | split)

/-- What `State.leaveStart` keeps. -/
theorem State.leaveStart_evolves {A : List Part} {s₀ s : State} (h : Evolves A s₀ s) (n : Nat) (fail : Option (Fin 1024))
    (hA : covers ([Part.mem, .fm, .supply, .reg .BLK_BLKCTL, .reg .CG_BSTAT, .reg .RG_RSTAT, .reg .DR_DSTAT, .reg .DR_PSTATE, .reg .DR_PFAULT,
      .reg .DR_PSTAMP, .reg .DR_PCOUNT, .reg .FM_FSTAT] ++ raiseParts ++ coastParts ++ gateParts) A = true) :
    Evolves A s₀ (s.leaveStart n fail) := by
  unfold State.leaveStart
  with_reducible repeat (first
      | assumption
      | apply State.loadTcm_evolves
      | apply State.testFailed_evolves
      | apply State.setPst_evolves
      | apply State.updPair_evolves
      | apply State.startDone_evolves
      | apply State.raise_evolves
      | (apply covers_trans _ hA; decide +kernel)
      | intro _ | rfl | dsimp only | split)

/-- What `State.joinResume` keeps. -/
theorem State.joinResume_evolves {A : List Part} {s₀ s : State} (h : Evolves A s₀ s) (n : Nat)
    (hA : covers [.fresh, .drift, .reg .DR_PLOG] A = true) :
    Evolves A s₀ (s.joinResume n) := by
  unfold State.joinResume
  with_reducible repeat (first
      | assumption
      | apply State.coreIrq_evolves
      | apply State.endWait_evolves
      | apply State.updPair_evolves
      | (apply covers_trans _ hA; decide +kernel)
      | intro _ | rfl | dsimp only | split)

/-- What `State.testPassed` keeps. -/
theorem State.testPassed_evolves {A : List Part} {s₀ s : State} (h : Evolves A s₀ s) (n : Nat) (march : Bool)
    (hA : covers ([Part.fm, .reg .DR_DSTAT, .reg .DR_PSTATE, .reg .FM_FSTAT] ++ raiseParts) A = true) :
    Evolves A s₀ (s.testPassed n march) := by
  unfold State.testPassed
  with_reducible repeat (first
      | assumption
      | apply State.updPair_evolves
      | apply State.raise_evolves
      | apply State.setPst_evolves
      | apply State.joinResume_evolves
      | (apply covers_trans _ hA; decide +kernel)
      | intro _ | rfl | dsimp only | split)

/-- What `execComparatorTestComplete` keeps. -/
theorem execComparatorTestComplete_evolves {A : List Part} {s₀ s : State} (h : Evolves A s₀ s) (n : Pair) (fail : Option (Fin 1024)) (march : Bool)
    (hA : covers ([Part.mem, .fm, .supply, .reg .BLK_BLKCTL, .reg .CG_BSTAT, .reg .RG_RSTAT, .reg .DR_DSTAT, .reg .DR_PSTATE, .reg .DR_PFAULT,
      .reg .DR_PSTAMP, .reg .DR_PCOUNT, .reg .FM_FSTAT] ++ raiseParts ++ coastParts ++ gateParts) A = true) :
    ∃ u, execComparatorTestComplete n fail march s = .next u ∧ Evolves A s₀ u := by
  unfold execComparatorTestComplete
  refine ⟨_, rfl, ?_⟩
  with_reducible repeat (first
      | assumption
      | apply State.leaveStart_evolves
      | apply State.raise_evolves
      | apply State.setPst_evolves
      | apply State.updPair_evolves
      | apply State.putFault_evolves
      | apply State.raiseIf_evolves
      | apply State.testFailed_evolves
      | apply State.testPassed_evolves
      | apply State.detect_evolves
      | apply State.coreIrq_evolves
      | (apply covers_trans _ hA; decide +kernel)
      | intro _ | rfl | dsimp only | split)

/-- What `State.handOver` keeps. -/
theorem State.handOver_evolves {A : List Part} {s₀ s : State} (h : Evolves A s₀ s) (n : Nat) (k : Nat)
    (hA : covers ([Part.mem, .plan, .fm, .reg .BLK_BLKCTL, .reg .SP_PAIRSUP, .reg .SP_CREWCTL, .reg .DR_DSTAT, .reg .DR_PSTATE, .reg .FM_FSTAT,
      .reg .EX_MBCTL] ++ raiseParts ++ gateParts) A = true) :
    Evolves A s₀ (s.handOver n k) := by
  unfold State.handOver
  with_reducible repeat (first
      | assumption
      | apply State.checkpointed_evolves
      | apply State.copyWork_evolves
      | apply State.moveWork_evolves
      | apply State.setPst_evolves
      | apply State.updPair_evolves
      | (apply covers_trans _ hA; decide +kernel)
      | intro _ | rfl | dsimp only | split)

/-- What `execTestWindowOpen` keeps. -/
theorem execTestWindowOpen_evolves {A : List Part} {s₀ s : State} (h : Evolves A s₀ s) (n : Pair)
    (hA : covers ([Part.mem, .plan, .fm, .reg .BLK_BLKCTL, .reg .SP_PAIRSUP, .reg .SP_CREWCTL, .reg .DR_DSTAT, .reg .DR_PSTATE, .reg .FM_FSTAT,
      .reg .EX_MBCTL] ++ raiseParts ++ gateParts) A = true) :
    ∃ u, execTestWindowOpen n s = .next u ∧ Evolves A s₀ u := by
  unfold execTestWindowOpen
  refine ⟨_, rfl, ?_⟩
  with_reducible repeat (first
      | assumption
      | apply State.setPst_evolves
      | apply State.updPair_evolves
      | apply State.handOver_evolves
      | apply State.checkpointed_evolves
      | (apply covers_trans _ hA; decide +kernel)
      | intro _ | rfl | dsimp only | split)

/-! ### Machine/Power -/

/-- What `State.updSupply` keeps. -/
theorem State.updSupply_evolves {A : List Part} {s₀ s : State} (h : Evolves A s₀ s) (f : SupplyU → SupplyU) (hA : covers [.supply] A = true) :
    Evolves A s₀ (s.updSupply f) := by
  unfold State.updSupply
  with_reducible repeat (first
      | assumption
      | (apply covers_trans _ hA; decide +kernel)
      | intro _ | rfl | dsimp only | split
      | (apply supply_evolves; first | assumption | intro _ | rfl | dsimp only | split))

/-- What `State.pwrDenied` keeps. -/
theorem State.pwrDenied_evolves {A : List Part} {s₀ s : State} (h : Evolves A s₀ s) (hA : covers ([Part.reg .PR_PWRSTAT] ++ raiseParts) A = true) :
    Evolves A s₀ (s.pwrDenied) := by
  unfold State.pwrDenied
  with_reducible repeat (first
      | assumption
      | apply State.raise_evolves
      | apply State.put_evolves
      | (apply covers_trans _ hA; decide +kernel)
      | intro _ | rfl | dsimp only | split)

/-- What `State.powerWrite` keeps. -/
theorem State.powerWrite_evolves {A : List Part} {s₀ s : State} (h : Evolves A s₀ s) (m : Master) (r : RegId) (v : Word) (hf : covers [.reg r] A = true)
    (hA : covers ([Part.supply, .reg .PR_PWRSTAT] ++ raiseParts) A = true) :
    Evolves A s₀ (s.powerWrite m r v) := by
  unfold State.powerWrite
  with_reducible repeat (first
      | assumption
      | apply State.pwrDenied_evolves
      | apply State.regWrite_evolves
      | apply State.put_evolves
      | apply State.updSupply_evolves
      | (apply covers_trans _ hA; decide +kernel)
      | intro _ | rfl | dsimp only | split)

/-- What `State.dieOff` keeps. -/
theorem State.dieOff_evolves {A : List Part} {s₀ s : State} (h : Evolves A s₀ s) (place : Nat) (hA : covers Part.all A = true) :
    Evolves A s₀ (s.dieOff place) := by
  unfold State.dieOff
  with_reducible repeat (first
      | assumption
      | apply State.controlCold_evolves
      | apply State.winsFollow_evolves
      | apply State.lampRate_evolves
      | apply State.afterReset_evolves
      | apply State.keepTimers_evolves
      | (apply covers_trans _ hA; exact covers_all _)
      | intro _ | rfl | dsimp only | split
      | (apply supply_evolves; first | assumption | apply State.controlCold_evolves | apply State.winsFollow_evolves | apply State.lampRate_evolves | apply State.afterReset_evolves | apply State.keepTimers_evolves | intro _ | rfl | dsimp only | split))

/-- What `State.parkEnter` keeps. -/
theorem State.parkEnter_evolves {A : List Part} {s₀ s : State} (h : Evolves A s₀ s) (hA : covers Part.all A = true) :
    Evolves A s₀ (s.parkEnter) := by
  unfold State.parkEnter
  with_reducible repeat (first
      | assumption
      | apply State.dieOff_evolves
      | apply State.disarm_evolves
      | apply State.enablesClear_evolves
      | apply State.assayStop_evolves
      | apply State.orderly_evolves
      | (apply covers_trans _ hA; exact covers_all _)
      | intro _ | rfl | dsimp only | split)

/-- What `State.parkExit` keeps. -/
theorem State.parkExit_evolves {A : List Part} {s₀ s : State} (h : Evolves A s₀ s) (k : Nat)
    (hA : covers ([Part.supply, .reg .PW_GSTAT, .reg .CG_CGSTAT, .reg .DR_DSTAT, .reg .FM_FCAUSE, .reg .PR_PWRSTAT] ++ sf2Parts ++
      seamParts) A = true) :
    Evolves A s₀ (s.parkExit k) := by
  unfold State.parkExit
  with_reducible repeat (first
      | assumption
      | apply State.winsFollow_evolves
      | apply State.updSupply_evolves
      | apply State.put_evolves
      | apply State.lampRate_evolves
      | apply State.afterReset_evolves
      | apply State.arm_evolves
      | (apply covers_trans _ hA; decide +kernel)
      | intro _ | rfl | dsimp only | split)

/-- What `State.wake` keeps. -/
theorem State.wake_evolves {A : List Part} {s₀ s : State} (h : Evolves A s₀ s) (enabled : Bool) (k : Nat)
    (hA : covers ([Part.supply, .reg .PW_GSTAT, .reg .CG_CGSTAT, .reg .DR_DSTAT, .reg .FM_FCAUSE, .reg .PR_PWRSTAT] ++ sf2Parts ++
      seamParts) A = true) :
    Evolves A s₀ (s.wake enabled k) := by
  unfold State.wake
  with_reducible repeat (first
      | assumption
      | apply State.parkExit_evolves
      | (apply covers_trans _ hA; decide +kernel)
      | intro _ | rfl | dsimp only | split)

/-- What `execWakeClock` keeps. -/
theorem execWakeClock_evolves {A : List Part} {s₀ s : State} (h : Evolves A s₀ s)
    (hA : covers ([Part.supply, .reg .PW_GSTAT, .reg .CG_CGSTAT, .reg .DR_DSTAT, .reg .FM_FCAUSE, .reg .PR_PWRSTAT] ++ sf2Parts ++
      seamParts) A = true) :
    ∃ u, execWakeClock s = .next u ∧ Evolves A s₀ u := by
  unfold execWakeClock
  refine ⟨_, rfl, ?_⟩
  with_reducible repeat (first
      | assumption
      | apply State.wake_evolves
      | (apply covers_trans _ hA; decide +kernel)
      | intro _ | rfl | dsimp only | split)

/-- What `execWakeGrid` keeps. -/
theorem execWakeGrid_evolves {A : List Part} {s₀ s : State} (h : Evolves A s₀ s)
    (hA : covers ([Part.now, .supply, .reg .HF_TURN, .reg .PW_GSTAT, .reg .CG_CGSTAT, .reg .DR_DSTAT, .reg .FM_FCAUSE, .reg .PR_PWRSTAT] ++
      sf2Parts ++ seamParts) A = true) :
    ∃ u, execWakeGrid s = .next u ∧ Evolves A s₀ u := by
  unfold execWakeGrid
  refine ⟨_, rfl, ?_⟩
  with_reducible repeat (first
      | assumption
      | apply State.onTimer_evolves
      | apply State.wake_evolves
      | (apply covers_trans _ hA; decide +kernel)
      | intro _ | rfl | dsimp only | split)

/-- What `execResetN` keeps. -/
theorem execResetN_evolves {A : List Part} {s₀ s : State} (h : Evolves A s₀ s) (hA : covers Part.all A = true) :
    ∃ u, execResetN s = .next u ∧ Evolves A s₀ u := by
  unfold execResetN
  refine ⟨_, rfl, ?_⟩
  with_reducible repeat (first
      | assumption
      | apply State.wake_evolves
      | apply State.lampRate_evolves
      | apply State.reset3_evolves
      | apply State.updSupply_evolves
      | (apply covers_trans _ hA; exact covers_all _)
      | intro _ | rfl | dsimp only | split)

/-- What `State.requestDone` keeps. -/
theorem State.requestDone_evolves {A : List Part} {s₀ s : State} (h : Evolves A s₀ s) (hA : covers [.fresh, .supply, .reg .PR_PWRSTAT] A = true) :
    Evolves A s₀ (s.requestDone) := by
  unfold State.requestDone
  with_reducible repeat (first
      | assumption
      | apply State.put_evolves
      | apply State.updSupply_evolves
      | (apply covers_trans _ hA; decide +kernel)
      | intro _ | rfl | dsimp only | split)

/-- What `execPowerStateChange` keeps. -/
theorem execPowerStateChange_evolves {A : List Part} {s₀ s : State} (h : Evolves A s₀ s) (hA : covers Part.all A = true) :
    ∃ u, execPowerStateChange s = .next u ∧ Evolves A s₀ u := by
  unfold execPowerStateChange
  refine ⟨_, rfl, ?_⟩
  with_reducible repeat (first
      | assumption
      | apply State.raise_evolves
      | apply State.nightEnter_evolves
      | apply State.requestDone_evolves
      | apply State.pwrDenied_evolves
      | apply State.parkEnter_evolves
      | apply State.nightExit_evolves
      | (apply covers_trans _ hA; exact covers_all _)
      | intro _ | rfl | dsimp only | split)

/-- What `execVauxValid` keeps. -/
theorem execVauxValid_evolves {A : List Part} {s₀ s : State} (h : Evolves A s₀ s) (hA : covers Part.all A = true) :
    ∃ u, execVauxValid s = .next u ∧ Evolves A s₀ u := by
  unfold execVauxValid
  refine ⟨_, rfl, ?_⟩
  with_reducible repeat (first
      | assumption
      | apply State.countReset_evolves
      | apply State.updSupply_evolves
      | apply State.lampRate_evolves
      | apply State.chargeShow_evolves
      | apply State.lastReset_evolves
      | apply State.fullCold_evolves
      | (apply covers_trans _ hA; exact covers_all _)
      | intro _ | rfl | dsimp only | split)

/-- What `execBrownout` keeps. -/
theorem execBrownout_evolves {A : List Part} {s₀ s : State} (h : Evolves A s₀ s) (hA : covers Part.all A = true) :
    ∃ u, execBrownout s = .next u ∧ Evolves A s₀ u := by
  unfold execBrownout
  refine ⟨_, rfl, ?_⟩
  with_reducible repeat (first
      | assumption
      | apply State.put_evolves
      | apply State.updSupply_evolves
      | apply State.lastGasp_evolves
      | apply State.chargeShow_evolves
      | apply State.dieOff_evolves
      | (apply covers_trans _ hA; exact covers_all _)
      | intro _ | rfl | dsimp only | split)

/-- What `execRailFault` keeps. -/
theorem execRailFault_evolves {A : List Part} {s₀ s : State} (h : Evolves A s₀ s) (r : Fin 10) (hA : covers Part.all A = true) :
    ∃ u, execRailFault r s = .next u ∧ Evolves A s₀ u := by
  unfold execRailFault
  refine ⟨_, rfl, ?_⟩
  with_reducible repeat (first
      | assumption
      | apply State.orPut_evolves
      | apply State.lampRate_evolves
      | apply State.reset3_evolves
      | apply State.updSupply_evolves
      | (apply covers_trans _ hA; exact covers_all _)
      | intro _ | rfl | dsimp only | split)

/-- What `execRailsWithinLimits` keeps. -/
theorem execRailsWithinLimits_evolves {A : List Part} {s₀ s : State} (h : Evolves A s₀ s) (hA : covers ([Part.supply] ++ onTimerParts) A = true) :
    ∃ u, execRailsWithinLimits s = .next u ∧ Evolves A s₀ u := by
  unfold execRailsWithinLimits
  refine ⟨_, rfl, ?_⟩
  with_reducible repeat (first
      | assumption
      | apply State.advance_evolves
      | apply State.updSupply_evolves
      | apply State.arm_evolves
      | (apply covers_trans _ hA; decide +kernel)
      | intro _ | rfl | dsimp only | split)

/-- What `State.optApply` keeps. -/
theorem State.optApply_evolves {A : List Part} {s₀ s : State} (h : Evolves A s₀ s) (b : List Byte) (fail : Bool) (fallback : Bool)
    (hA : covers ([Part.reg .RS_RSTSTAT, .reg .RS_OPTIMG] ++ raiseParts) A = true) :
    Evolves A s₀ (s.optApply b fail fallback) := by
  unfold State.optApply
  with_reducible repeat (first
      | assumption
      | apply State.each_evolves
      | apply State.wrw_evolves
      | apply State.put_evolves
      | apply State.raiseIf_evolves
      | (apply covers_trans _ hA; decide +kernel)
      | intro _ | rfl | dsimp only | split)

/-- What `execOptionLoadComplete` keeps. -/
theorem execOptionLoadComplete_evolves {A : List Part} {s₀ s : State} (h : Evolves A s₀ s)
    (hA : covers ([Part.supply, .reg .RS_RSTSTAT, .reg .RS_OPTIMG] ++ raiseParts ++ onTimerParts) A = true) :
    ∃ u, execOptionLoadComplete s = .next u ∧ Evolves A s₀ u := by
  unfold execOptionLoadComplete
  refine ⟨_, rfl, ?_⟩
  with_reducible repeat (first
      | assumption
      | apply State.onTimer_evolves
      | apply State.optApply_evolves
      | apply State.updSupply_evolves
      | (apply covers_trans _ hA; decide +kernel)
      | intro _ | rfl | dsimp only | split)

/-- What `State.padWrite` keeps. -/
theorem State.padWrite_evolves {A : List Part} {s₀ s : State} (h : Evolves A s₀ s) (v : Word) (hA : covers [.fresh, .reg .RS_PADREL] A = true) :
    Evolves A s₀ (s.padWrite v) := by
  unfold State.padWrite
  with_reducible repeat (first
      | assumption
      | apply State.put_evolves
      | (apply covers_trans _ hA; decide +kernel)
      | intro _ | rfl | dsimp only | split)

end Sys2Proof.Machine
end

