-- ==== Sys2Proof/Laws/MovesExvia.lean ====
section
/-! SUPPORT. What each operation of the Banksman and Exvia keeps: one lemma per function (`Evolves`). -/

set_option Elab.async false
set_option linter.unusedTactic false
set_option linter.unreachableTactic false
set_option linter.unusedVariables false

namespace Sys2Proof.Machine

/-! ### Machine/Reads -/

/-- What `State.latch` keeps. -/
theorem State.latch_evolves {A : List Part} {s₀ s : State} (h : Evolves A s₀ s) (r : RegId) (i : Nat) (j : Nat) (hA : covers [.latched] A = true) :
    Evolves A s₀ (s.latch r i j) := by
  unfold State.latch
  with_reducible repeat (first
      | assumption
      | apply State.each_evolves
      | (apply covers_trans _ hA; decide +kernel)
      | intro _ | rfl | dsimp only | split
      | (apply latched_evolves; first | assumption | apply State.each_evolves | intro _ | rfl | dsimp only | split))

/-! ### Machine/Envelope -/

/-- What `State.mbPut` keeps. -/
theorem State.mbPut_evolves {A : List Part} {s₀ s : State} (h : Evolves A s₀ s) (b : Nat) (l : List Byte) (hA : covers [.reg .EX_MBDATA] A = true) :
    Evolves A s₀ (s.mbPut b l) := by
  unfold State.mbPut
  with_reducible repeat (first
      | assumption
      | apply State.each_evolves
      | apply State.wrw_evolves
      | (apply covers_trans _ hA; decide +kernel)
      | intro _ | rfl | dsimp only | split)

/-- What `State.mbReply` keeps. -/
theorem State.mbReply_evolves {A : List Part} {s₀ s : State} (h : Evolves A s₀ s) (b : Nat) (reason : Nat) (l : List Byte)
    (hA : covers ([Part.reg .EX_MBSTAT, .reg .EX_MBLEN, .reg .EX_MBDATA] ++ raiseParts) A = true) :
    Evolves A s₀ (s.mbReply b reason l) := by
  unfold State.mbReply
  with_reducible repeat (first
      | assumption
      | apply State.put_evolves
      | apply State.mbPut_evolves
      | apply State.raise_evolves
      | (apply covers_trans _ hA; decide +kernel)
      | intro _ | rfl | dsimp only | split)

/-- What `State.queueShow` keeps. -/
theorem State.queueShow_evolves {A : List Part} {s₀ s : State} (h : Evolves A s₀ s) (hA : covers [.fresh, .freeIdx, .reg .EX_EXSTAT] A = true) :
    Evolves A s₀ (s.queueShow) := by
  unfold State.queueShow
  with_reducible repeat (first
      | assumption
      | apply State.putFit_evolves
      | (apply covers_trans _ hA; decide +kernel)
      | intro _ | rfl | dsimp only | split)

/-- What `State.setCounter` keeps. -/
theorem State.setCounter_evolves {A : List Part} {s₀ s : State} (h : Evolves A s₀ s) (k : Nat) (v : Nat) (hA : covers [.lamp] A = true) :
    Evolves A s₀ (s.setCounter k v) := by
  unfold State.setCounter
  with_reducible repeat (first
      | assumption
      | (apply covers_trans _ hA; decide +kernel)
      | intro _ | rfl | dsimp only | split
      | (apply lamp_evolves; first | assumption | intro _ | rfl | dsimp only | split))

/-- What `State.reply` keeps. -/
theorem State.reply_evolves {A : List Part} {s₀ s : State} (h : Evolves A s₀ s) (reason : Nat) (whole : List Byte) (data : List Byte)
    (hA : covers [.freeIdx, .lamp] A = true) :
    Evolves A s₀ (s.reply reason whole data).2 := by
  unfold State.reply
  with_reducible repeat (first
      | assumption
      | apply State.nonce_evolves
      | apply State.setCounter_evolves
      | (apply covers_trans _ hA; decide +kernel)
      | intro _ | rfl | dsimp only | split)

/-! ### Machine/Adit -/

/-- What `State.otherReset` keeps. -/
theorem State.otherReset_evolves {A : List Part} {s₀ s : State} (h : Evolves A s₀ s) (scope : Nat)
    (hA : covers [.fresh, .freeIdx, .reg .RS_RSTSTAT, .reg .RS_RSTTOT] A = true) :
    Evolves A s₀ (s.otherReset scope) := by
  unfold State.otherReset
  with_reducible repeat (first
      | assumption
      | apply State.free_evolves
      | apply State.lastReset_evolves
      | apply State.bumpSat_evolves
      | (apply covers_trans _ hA; decide +kernel)
      | intro _ | rfl | dsimp only | split)

/-- What `State.coldReset` keeps. -/
theorem State.coldReset_evolves {A : List Part} {s₀ s : State} (h : Evolves A s₀ s) (hA : covers Part.all A = true) :
    Evolves A s₀ (s.coldReset) := by
  unfold State.coldReset
  with_reducible repeat (first
      | assumption
      | apply State.otherReset_evolves
      | apply State.fullCold_evolves
      | apply State.orderlyDone_evolves
      | (apply covers_trans _ hA; exact covers_all _)
      | intro _ | rfl | dsimp only | split)

/-- What `State.idShow` keeps. -/
theorem State.idShow_evolves {A : List Part} {s₀ s : State} (h : Evolves A s₀ s)
    (hA : covers [.fresh, .reg .BK_BKSTAT, .reg .BK_DEVID, .reg .BK_SLOTMAP0, .reg .BK_SLOTMAP1, .reg .BK_TAMPSTAT, .reg .BK_TAMPCNT,
      .reg .BK_ADITSTAT, .reg .EX_EXSTAT, .reg .EX_ARBSTEP0, .reg .EX_ARBSTEP1] A = true) :
    Evolves A s₀ (s.idShow) := by
  unfold State.idShow
  with_reducible repeat (first
      | assumption
      | apply State.put_evolves
      | apply State.bankShow_evolves
      | apply State.each_evolves
      | apply State.wrw_evolves
      | (apply covers_trans _ hA; decide +kernel)
      | intro _ | rfl | dsimp only | split)

/-- What `State.eraseSlots` keeps. -/
theorem State.eraseSlots_evolves {A : List Part} {s₀ s : State} (h : Evolves A s₀ s) (p : Nat → Bool) (hA : covers [.bank] A = true) :
    Evolves A s₀ (s.eraseSlots p) := by
  unfold State.eraseSlots
  with_reducible repeat (first
      | assumption
      | apply State.updBank_evolves
      | (apply covers_trans _ hA; decide +kernel)
      | intro _ | rfl | exact ⟨rfl, rfl, rfl⟩ | dsimp only | split)

/-- What `State.aditPairReset` keeps. -/
theorem State.aditPairReset_evolves {A : List Part} {s₀ s : State} (h : Evolves A s₀ s) (n : Nat)
    (hA : covers ([Part.latched, .mem, .freeIdx, .plan, .reg .DR_PFAULT, .reg .DR_PSTAMP, .reg .DR_PCOUNT, .reg .DR_PLOG, .reg .DR_OWNRGN,
      .reg .RS_RSTSTAT, .reg .RS_RSTTOT, .reg .RS_WDTCTL, .reg .RS_WDTKICK] ++ pairCtlParts ++ gateParts) A = true) :
    Evolves A s₀ (s.aditPairReset n) := by
  unfold State.aditPairReset
  with_reducible repeat (first
      | assumption
      | apply State.put_evolves
      | apply State.otherReset_evolves
      | apply State.pairWarm_evolves
      | (apply covers_trans _ hA; decide +kernel)
      | intro _ | rfl | dsimp only | split)

/-- What `State.clearBreaks` keeps. -/
theorem State.clearBreaks_evolves {A : List Part} {s₀ s : State} (h : Evolves A s₀ s) (hA : covers [.drift] A = true) :
    Evolves A s₀ (s.clearBreaks) := by
  unfold State.clearBreaks
  with_reducible repeat (first
      | assumption
      | apply State.each_evolves
      | apply State.updCore_evolves
      | (apply covers_trans _ hA; decide +kernel)
      | intro _ | rfl | dsimp only | split)

/-- What `State.closeAdit` keeps. -/
theorem State.closeAdit_evolves {A : List Part} {s₀ s : State} (h : Evolves A s₀ s) (why : Nat) (hA : covers aditParts A = true) :
    Evolves A s₀ (s.closeAdit why) := by
  unfold State.closeAdit
  with_reducible repeat (first
      | assumption
      | apply State.disarm_evolves
      | apply State.updBank_evolves
      | apply State.clearBreaks_evolves
      | apply State.each_evolves
      | apply State.put_evolves
      | apply State.aditPairReset_evolves
      | (apply covers_trans _ hA; decide +kernel)
      | intro _ | rfl | exact ⟨rfl, rfl, rfl⟩ | dsimp only | split)

/-- What `State.openAdit` keeps. -/
theorem State.openAdit_evolves {A : List Part} {s₀ s : State} (h : Evolves A s₀ s) (e : Envelope) (minutes : Nat)
    (hA : covers [.fresh, .timers, .bank, .reg .BK_ADITSTAT] A = true) :
    Evolves A s₀ (s.openAdit e minutes) := by
  unfold State.openAdit
  with_reducible repeat (first
      | assumption
      | apply State.updBank_evolves
      | apply State.arm_evolves
      | apply State.put_evolves
      | (apply covers_trans _ hA; decide +kernel)
      | intro _ | rfl | exact ⟨rfl, rfl, rfl⟩ | dsimp only | split)

/-- What `execAditSessionEnd` keeps. -/
theorem execAditSessionEnd_evolves {A : List Part} {s₀ s : State} (h : Evolves A s₀ s) (hA : covers (aditParts ++ onTimerParts) A = true) :
    ∃ u, execAditSessionEnd s = .next u ∧ Evolves A s₀ u := by
  unfold execAditSessionEnd
  refine ⟨_, rfl, ?_⟩
  with_reducible repeat (first
      | assumption
      | apply State.onTimer_evolves
      | apply State.closeAdit_evolves
      | (apply covers_trans _ hA; decide +kernel)
      | intro _ | rfl | dsimp only | split)

/-- What `execAditResetRequest` keeps. -/
theorem execAditResetRequest_evolves {A : List Part} {s₀ s : State} (h : Evolves A s₀ s) (hA : covers Part.all A = true) :
    ∃ u, execAditResetRequest s = .next u ∧ Evolves A s₀ u := by
  unfold execAditResetRequest
  refine ⟨_, rfl, ?_⟩
  with_reducible repeat (first
      | assumption
      | apply State.reset3_evolves
      | (apply covers_trans _ hA; exact covers_all _)
      | intro _ | rfl | dsimp only | split)

/-- What `State.tapSelect` keeps. -/
theorem State.tapSelect_evolves {A : List Part} {s₀ s : State} (h : Evolves A s₀ s) (k : Nat) (w : Word) (pins : Nat) (hA : covers [.bank] A = true) :
    Evolves A s₀ (s.tapSelect k w pins) := by
  unfold State.tapSelect
  with_reducible repeat (first
      | assumption
      | apply State.updBank_evolves
      | (apply covers_trans _ hA; decide +kernel)
      | intro _ | rfl | exact ⟨rfl, rfl, rfl⟩ | dsimp only | split)

/-- What `State.scan` keeps. -/
theorem State.scan_evolves {A : List Part} {s₀ s : State} (h : Evolves A s₀ s) (k : Nat) (hA : covers [.freeIdx, .bank] A = true) :
    Evolves A s₀ (s.scan k) := by
  unfold State.scan
  with_reducible repeat (first
      | assumption
      | apply State.free_evolves
      | apply State.tapSelect_evolves
      | (apply covers_trans _ hA; decide +kernel)
      | intro _ | rfl | dsimp only | split)

/-- What `execIdcode` keeps. -/
theorem execIdcode_evolves {A : List Part} {s₀ s : State} (h : Evolves A s₀ s) (hA : covers [.bank] A = true) :
    ∃ u, execIdcode s = .next u ∧ Evolves A s₀ u := by
  unfold execIdcode
  refine ⟨_, rfl, ?_⟩
  with_reducible repeat (first
      | assumption
      | apply State.tapSelect_evolves
      | (apply covers_trans _ hA; decide +kernel)
      | intro _ | rfl | dsimp only | split)

/-- What `execBypass` keeps. -/
theorem execBypass_evolves {A : List Part} {s₀ s : State} (h : Evolves A s₀ s) (hA : covers [.bank] A = true) :
    ∃ u, execBypass s = .next u ∧ Evolves A s₀ u := by
  unfold execBypass
  refine ⟨_, rfl, ?_⟩
  with_reducible repeat (first
      | assumption
      | apply State.tapSelect_evolves
      | (apply covers_trans _ hA; decide +kernel)
      | intro _ | rfl | dsimp only | split)

/-- What `execSamplePreload` keeps. -/
theorem execSamplePreload_evolves {A : List Part} {s₀ s : State} (h : Evolves A s₀ s) (hA : covers [.freeIdx, .bank] A = true) :
    ∃ u, execSamplePreload s = .next u ∧ Evolves A s₀ u := by
  unfold execSamplePreload
  refine ⟨_, rfl, ?_⟩
  with_reducible repeat (first
      | assumption
      | apply State.scan_evolves
      | (apply covers_trans _ hA; decide +kernel)
      | intro _ | rfl | dsimp only | split)

/-- What `execExtest` keeps. -/
theorem execExtest_evolves {A : List Part} {s₀ s : State} (h : Evolves A s₀ s) (hA : covers [.freeIdx, .bank] A = true) :
    ∃ u, execExtest s = .next u ∧ Evolves A s₀ u := by
  unfold execExtest
  refine ⟨_, rfl, ?_⟩
  with_reducible repeat (first
      | assumption
      | apply State.scan_evolves
      | (apply covers_trans _ hA; decide +kernel)
      | intro _ | rfl | dsimp only | split)

/-! ### Machine/Apply -/

/-- What `State.setSlot` keeps. -/
theorem State.setSlot_evolves {A : List Part} {s₀ s : State} (h : Evolves A s₀ s) (k : Nat) (v : Option KeySlot) (hA : covers bankParts A = true) :
    Evolves A s₀ (s.setSlot k v) := by
  unfold State.setSlot
  with_reducible repeat (first
      | assumption
      | apply State.bankShow_evolves
      | apply State.updBank_evolves
      | (apply covers_trans _ hA; decide +kernel)
      | intro _ | rfl | exact ⟨rfl, rfl, rfl⟩ | dsimp only | split)

/-- What `State.pickShow` keeps. -/
theorem State.pickShow_evolves {A : List Part} {s₀ s : State} (h : Evolves A s₀ s) (hA : covers [.pick] A = true) :
    Evolves A s₀ (s.pickShow) := by
  unfold State.pickShow
  with_reducible repeat (first
      | assumption
      | (apply covers_trans _ hA; decide +kernel)
      | intro _ | rfl | dsimp only | split
      | (apply pick_evolves; first | assumption | intro _ | rfl | dsimp only | split))

/-- What `State.setEntry` keeps. -/
theorem State.setEntry_evolves {A : List Part} {s₀ s : State} (h : Evolves A s₀ s) (e : Envelope) (v : List Byte)
    (hA : covers [.fresh, .reg .EX_CFGVAL, .reg .EX_CFGSRC] A = true) :
    Evolves A s₀ (s.setEntry e v) := by
  unfold State.setEntry
  with_reducible repeat (first
      | assumption
      | apply State.put_evolves
      | (apply covers_trans _ hA; decide +kernel)
      | intro _ | rfl | dsimp only | split)

/-- What `State.limitEntry` keeps. -/
theorem State.limitEntry_evolves {A : List Part} {s₀ s : State} (h : Evolves A s₀ s) (e : Envelope) (v : List Byte)
    (hA : covers [.fresh, .reg .EX_CFGVAL, .reg .EX_CFGMIN, .reg .EX_CFGMAX, .reg .EX_CFGSRC] A = true) :
    Evolves A s₀ (s.limitEntry e v) := by
  unfold State.limitEntry
  with_reducible repeat (first
      | assumption
      | apply State.put_evolves
      | (apply covers_trans _ hA; decide +kernel)
      | intro _ | rfl | dsimp only | split)

/-- What `State.exvImage` keeps. -/
theorem State.exvImage_evolves {A : List Part} {s₀ s : State} (h : Evolves A s₀ s) (r : RegId) (v : List Byte) (off : Nat) (i : Nat) (hf : covers [.reg r] A = true) :
    Evolves A s₀ (s.exvImage r v off i) := by
  unfold State.exvImage
  with_reducible repeat (first
      | assumption
      | apply State.wrw_evolves
      | exact covers_nil _
      | intro _ | rfl | dsimp only | split)

/-- What `State.assayTlv` keeps. -/
theorem State.assayTlv_evolves {A : List Part} {s₀ s : State} (h : Evolves A s₀ s) (t : Nat × List Byte)
    (hA : covers [.fresh, .timers, .assay, .reg .AS_WCFG, .reg .AS_EWIN, .reg .AS_WRAPS, .reg .AS_S0CTL, .reg .AS_S0WGT, .reg .AS_S0TOL,
      .reg .AS_TPOCTL, .reg .AS_TPOCONST] A = true) :
    Evolves A s₀ (s.assayTlv t) := by
  unfold State.assayTlv
  with_reducible repeat (first
      | assumption
      | apply State.each_evolves
      | apply State.exvImage_evolves
      | apply State.windowShow_evolves
      | apply State.s0Restart_evolves
      | (apply covers_trans _ hA; decide +kernel)
      | intro _ | rfl | dsimp only | split)

/-- What `State.optWrite` keeps. -/
theorem State.optWrite_evolves {A : List Part} {s₀ s : State} (h : Evolves A s₀ s) (payload : List Byte) (hA : covers [.supply] A = true) :
    Evolves A s₀ (s.optWrite payload) := by
  unfold State.optWrite
  with_reducible repeat (first
      | assumption
      | apply State.updSupply_evolves
      | (apply covers_trans _ hA; decide +kernel)
      | intro _ | rfl | dsimp only | split)

/-- What `State.activated` keeps. -/
theorem State.activated_evolves {A : List Part} {s₀ s : State} (h : Evolves A s₀ s) (t : Nat) (i : ImageU)
    (hA : covers [.fresh, .pick, .fm, .assay, .supply, .reg .FM_FSTAT] A = true) :
    Evolves A s₀ (s.activated t i) := by
  unfold State.activated
  with_reducible repeat (first
      | assumption
      | apply State.optWrite_evolves
      | apply State.pickShow_evolves
      | apply State.put_evolves
      | apply State.updAssay_evolves
      | (apply covers_trans _ hA; decide +kernel)
      | intro _ | rfl | dsimp only | split
      | (apply fm_evolves; first | assumption | apply State.optWrite_evolves | apply State.pickShow_evolves | apply State.put_evolves | apply State.updAssay_evolves | intro _ | rfl | dsimp only | split))

/-- What `State.activate` keeps. -/
theorem State.activate_evolves {A : List Part} {s₀ s : State} (h : Evolves A s₀ s) (mask : List Nat)
    (hA : covers ([Part.pick, .fm, .assay, .supply, .reg .FM_FSTAT] ++ bankParts) A = true) :
    Evolves A s₀ (s.activate mask) := by
  unfold State.activate
  refine State.bankShow_evolves (State.each_evolves (State.updBank_evolves_of_le h _ (le_refl _) (fun k => ?_) (fun _ => le_refl _)
    (covers_trans (by decide +kernel) hA)) _ _ fun t x ht => ?_) (covers_trans (by decide +kernel) hA)
  · simp only [Fin.getElem_fin, Vector.getElem_ofFn]
    split
    · exact Nat.le_max_left _ _
    · exact le_refl _
  · split
    · exact State.activated_evolves ht _ _ (covers_trans (by decide +kernel) hA)
    · exact ht

/-- What `State.askReset` keeps. -/
theorem State.askReset_evolves {A : List Part} {s₀ s : State} (h : Evolves A s₀ s) (hA : covers [.bank] A = true) :
    Evolves A s₀ (s.askReset) := by
  unfold State.askReset
  with_reducible repeat (first
      | assumption
      | apply State.updBank_evolves
      | (apply covers_trans _ hA; decide +kernel)
      | intro _ | rfl | exact ⟨rfl, rfl, rfl⟩ | dsimp only | split)

/-- What `State.lcAdvance` keeps. -/
theorem State.lcAdvance_evolves {A : List Part} {s₀ s : State} (h : Evolves A s₀ s) (new : Nat) (hA : covers (aditParts ++ bankParts) A = true) :
    Evolves A s₀ (s.lcAdvance new) := by
  unfold State.lcAdvance
  with_reducible repeat (first
      | assumption
      | apply State.bankShow_evolves
      | apply State.updBank_evolves
      | apply State.closeAdit_evolves
      | (apply covers_trans _ hA; decide +kernel)
      | intro _ | rfl | exact ⟨rfl, rfl, rfl⟩ | dsimp only | split)

/-- What `State.generate` keeps. -/
theorem State.generate_evolves {A : List Part} {s₀ s : State} (h : Evolves A s₀ s) (v : List Byte)
    (hA : covers ([Part.freeIdx, .pick] ++ bankParts) A = true) :
    Evolves A s₀ (s.generate v).1 := by
  unfold State.generate
  with_reducible repeat (first
      | assumption
      | apply State.nonce_evolves
      | apply State.pickShow_evolves
      | apply State.setSlot_evolves
      | (apply covers_trans _ hA; decide +kernel)
      | intro _ | rfl | apply fstIte_evolves | dsimp only | split)

/-- What `State.importSlot` keeps. -/
theorem State.importSlot_evolves {A : List Part} {s₀ s : State} (h : Evolves A s₀ s) (v : List Byte)
    (hA : covers ([Part.pick] ++ bankParts) A = true) :
    Evolves A s₀ (s.importSlot v) := by
  unfold State.importSlot
  with_reducible repeat (first
      | assumption
      | apply State.pickShow_evolves
      | apply State.setSlot_evolves
      | (apply covers_trans _ hA; decide +kernel)
      | intro _ | rfl | dsimp only | split)

/-- What `State.sealAck` keeps. -/
theorem State.sealAck_evolves {A : List Part} {s₀ s : State} (h : Evolves A s₀ s) (v : Nat)
    (hA : covers ([Part.fm, .bank, .reg .DR_DSTAT, .reg .FM_FSTAT, .reg .FM_SEAL] ++ raiseParts) A = true) :
    Evolves A s₀ (s.sealAck v) := by
  unfold State.sealAck
  with_reducible repeat (first
      | assumption
      | apply State.raise_evolves
      | apply State.faultLine_evolves
      | apply State.updBank_evolves
      | apply State.put_evolves
      | (apply covers_trans _ hA; decide +kernel)
      | intro _ | rfl | exact ⟨rfl, rfl, rfl⟩ | dsimp only | split)

/-- What `State.effect` keeps. -/
theorem State.effect_evolves {A : List Part} {s₀ s : State} (h : Evolves A s₀ s) (e : Envelope)
    (hA : covers ([Part.pick, .lamp, .assay, .supply, .reg .AS_ASTAT, .reg .AS_LOSS, .reg .AS_WCFG, .reg .AS_EWIN, .reg .AS_WRAPS, .reg .AS_S0CTL,
      .reg .AS_S0WGT, .reg .AS_S0TOL, .reg .AS_TPOCTL, .reg .AS_TPOCONST, .reg .FM_SEAL, .reg .EX_CFGVAL, .reg .EX_CFGMIN, .reg .EX_CFGMAX,
      .reg .EX_CFGSRC, .reg .RS_RSTCNT] ++ aditParts ++ bankParts ++ raiseParts) A = true) :
    Evolves A s₀ (s.effect e).1 := by
  unfold State.effect
  with_reducible repeat (first
      | assumption
      | apply State.raise_evolves
      | apply State.each_evolves
      | apply State.setEntry_evolves
      | apply State.limitEntry_evolves
      | apply State.updBank_evolves
      | apply State.assayTlv_evolves
      | apply State.wrw_evolves
      | apply State.put_evolves
      | apply State.setSlot_evolves
      | apply State.pickShow_evolves
      | apply State.generate_evolves
      | apply State.importSlot_evolves
      | apply State.sealAck_evolves
      | apply State.askReset_evolves
      | apply State.bankShow_evolves
      | apply State.openAdit_evolves
      | apply State.closeAdit_evolves
      | apply State.activate_evolves
      | apply State.lcAdvance_evolves
      | (apply covers_trans _ hA; decide +kernel)
      | intro _ | rfl | exact ⟨rfl, rfl, rfl⟩ | apply fstIte_evolves | dsimp only | split
      | (apply lamp_evolves; first | assumption | apply State.raise_evolves | apply State.each_evolves | apply State.setEntry_evolves | apply State.limitEntry_evolves | apply State.updBank_evolves | apply State.assayTlv_evolves | apply State.wrw_evolves | apply State.put_evolves | apply State.setSlot_evolves | apply State.pickShow_evolves | apply State.generate_evolves | apply State.importSlot_evolves | apply State.sealAck_evolves | apply State.askReset_evolves | apply State.bankShow_evolves | apply State.openAdit_evolves | apply State.closeAdit_evolves | apply State.activate_evolves | apply State.lcAdvance_evolves | intro _ | rfl | exact ⟨rfl, rfl, rfl⟩ | apply fstIte_evolves | dsimp only | split))

/-- What `State.answer` keeps. -/
theorem State.answer_evolves {A : List Part} {s₀ s : State} (h : Evolves A s₀ s) (b : Nat) (e : Envelope) (reason : Nat) (data : List Byte)
    (hA : covers [.bank] A = true) :
    Evolves A s₀ (s.answer b e reason data) := by
  unfold State.answer
  with_reducible repeat (first
      | assumption
      | apply State.updBank_evolves
      | (apply covers_trans _ hA; decide +kernel)
      | intro _ | rfl | exact ⟨rfl, rfl, rfl⟩ | dsimp only | split)

/-- What `State.refuse` keeps. -/
theorem State.refuse_evolves {A : List Part} {s₀ s : State} (h : Evolves A s₀ s) (b : Nat) (e : Envelope) (code : Nat)
    (hA : covers ([Part.bank, .reg .EX_EXCNT] ++ raiseParts) A = true) :
    Evolves A s₀ (s.refuse b e code) := by
  unfold State.refuse
  with_reducible repeat (first
      | assumption
      | apply State.answer_evolves
      | apply State.raise_evolves
      | apply State.bumpSat_evolves
      | (apply covers_trans _ hA; decide +kernel)
      | intro _ | rfl | dsimp only | split)

/-- What `State.imageStart` keeps. -/
theorem State.imageStart_evolves {A : List Part} {s₀ s : State} (h : Evolves A s₀ s) (b : Nat) (e : Envelope)
    (hA : covers [.fresh, .bank, .reg .EX_EXSTAT] A = true) :
    Evolves A s₀ (s.imageStart b e) := by
  unfold State.imageStart
  with_reducible repeat (first
      | assumption
      | apply State.updBank_evolves
      | apply State.put_evolves
      | (apply covers_trans _ hA; decide +kernel)
      | intro _ | rfl | exact ⟨rfl, rfl, rfl⟩ | dsimp only | split)

/-- What `State.applyEnvelope` keeps. -/
theorem State.applyEnvelope_evolves {A : List Part} {s₀ s : State} (h : Evolves A s₀ s) (b : Nat) (e : Envelope) (hA : covers exviaParts A = true) :
    Evolves A s₀ (s.applyEnvelope b e) := by
  unfold State.applyEnvelope
  with_reducible repeat (first
      | assumption
      | apply State.refuse_evolves
      | apply State.imageStart_evolves
      | apply State.grant_evolves
      | apply State.effect_evolves
      | apply State.answer_evolves
      | apply State.raise_evolves
      | (apply covers_trans _ hA; decide +kernel)
      | intro _ | rfl | dsimp only | split)

/-- What `State.exviaBoundary` keeps. -/
theorem State.exviaBoundary_evolves {A : List Part} {s₀ s : State} (h : Evolves A s₀ s) (hA : covers exviaParts A = true) :
    Evolves A s₀ (s.exviaBoundary) := by
  unfold State.exviaBoundary
  with_reducible repeat (first
      | assumption
      | apply State.each_evolves
      | apply State.updBank_evolves
      | apply State.applyEnvelope_evolves
      | (apply covers_trans _ hA; decide +kernel)
      | intro _ | rfl | exact ⟨rfl, rfl, rfl⟩ | dsimp only | split)

/-- What `State.markWrite` keeps. -/
theorem State.markWrite_evolves {A : List Part} {s₀ s : State} (h : Evolves A s₀ s) (k : Fin 32)
    (hA : covers [.fresh, .timers, .lamp, .bank, .reg .LA_LSTAT, .reg .LA_GHELD] A = true) :
    Evolves A s₀ (s.markWrite k) := by
  unfold State.markWrite
  have h' := State.grant_evolves h clsFlash (covers_trans (by decide +kernel) hA)
  dsimp only
  split
  · refine State.updBank_evolves_of_le h' _ (le_refl _) (fun _ => le_refl _) (fun i => ?_) (covers_trans (by decide +kernel) hA)
    simp only [Fin.getElem_fin, Vector.getElem_set]
    split
    · rename_i e
      simp only [← e]
      exact Nat.le_max_left _ _
    · exact le_refl _
  · exact State.arm_evolves (State.updBank_evolves h' _ ⟨rfl, rfl, rfl⟩ (covers_trans (by decide +kernel) hA)) _ _
      (covers_trans (by decide +kernel) hA)

/-- What `State.dseqReady` keeps. -/
theorem State.dseqReady_evolves {A : List Part} {s₀ s : State} (h : Evolves A s₀ s)
    (hA : covers [.fresh, .timers, .lamp, .bank, .reg .LA_LSTAT, .reg .LA_GHELD] A = true) :
    Evolves A s₀ (s.dseqReady).2 := by
  unfold State.dseqReady
  with_reducible repeat (first
      | assumption
      | apply State.markWrite_evolves
      | (apply covers_trans _ hA; decide +kernel)
      | intro _ | rfl | dsimp only | split)

/-- What `State.uartReply` keeps. -/
theorem State.uartReply_evolves {A : List Part} {s₀ s : State} (h : Evolves A s₀ s) (l : List Byte) (hA : covers [.host] A = true) :
    Evolves A s₀ (s.uartReply l) := by
  unfold State.uartReply
  with_reducible repeat (first
      | assumption
      | (apply covers_trans _ hA; decide +kernel)
      | intro _ | rfl | dsimp only | split
      | (apply host_evolves; first | assumption | intro _ | rfl | dsimp only | split))

/-- What `State.release` keeps. -/
theorem State.release_evolves {A : List Part} {s₀ s : State} (h : Evolves A s₀ s) (r : ReplyU)
    (hA : covers ([Part.lamp, .host] ++ replyParts) A = true) :
    Evolves A s₀ (s.release r) := by
  unfold State.release
  with_reducible repeat (first
      | assumption
      | apply State.reply_evolves
      | apply State.uartReply_evolves
      | apply State.mbReply_evolves
      | (apply covers_trans _ hA; decide +kernel)
      | intro _ | rfl | dsimp only | split)

/-- What `State.resetIfAsked` keeps. -/
theorem State.resetIfAsked_evolves {A : List Part} {s₀ s : State} (h : Evolves A s₀ s) (hA : covers Part.all A = true) :
    Evolves A s₀ (s.resetIfAsked) := by
  unfold State.resetIfAsked
  with_reducible repeat (first
      | assumption
      | apply State.coldReset_evolves
      | (apply covers_trans _ hA; exact covers_all _)
      | intro _ | rfl | dsimp only | split)

/-- What `execApplicationReplyRelease` keeps. -/
theorem execApplicationReplyRelease_evolves {A : List Part} {s₀ s : State} (h : Evolves A s₀ s) (hA : covers Part.all A = true) :
    ∃ u, execApplicationReplyRelease s = .next u ∧ Evolves A s₀ u := by
  unfold execApplicationReplyRelease
  refine ⟨_, rfl, ?_⟩
  with_reducible repeat (first
      | assumption
      | apply State.dseqReady_evolves
      | apply State.advanceTo_evolves
      | apply State.resetIfAsked_evolves
      | apply State.release_evolves
      | apply State.updBank_evolves
      | (apply covers_trans _ hA; exact covers_all _)
      | intro _ | rfl | exact ⟨rfl, rfl, rfl⟩ | dsimp only | split)

/-- What `execImageReplyRelease` keeps. -/
theorem execImageReplyRelease_evolves {A : List Part} {s₀ s : State} (h : Evolves A s₀ s) (changed : Bool) (hA : covers Part.all A = true) :
    ∃ u, execImageReplyRelease changed s = .next u ∧ Evolves A s₀ u := by
  unfold execImageReplyRelease
  refine ⟨_, rfl, ?_⟩
  with_reducible repeat (first
      | assumption
      | apply State.dseqReady_evolves
      | apply State.advanceTo_evolves
      | apply State.updBank_evolves
      | apply State.raise_evolves
      | apply State.put_evolves
      | apply State.bumpSat_evolves
      | apply State.resetIfAsked_evolves
      | apply State.release_evolves
      | (apply covers_trans _ hA; exact covers_all _)
      | intro _ | rfl | exact ⟨rfl, rfl, rfl⟩ | dsimp only | split)

/-! ### Machine/Mailbox -/

/-- What `State.mbDenied` keeps. -/
theorem State.mbDenied_evolves {A : List Part} {s₀ s : State} (h : Evolves A s₀ s) (b : Nat) (hA : covers [.fresh, .reg .EX_MBSTAT] A = true) :
    Evolves A s₀ (s.mbDenied b) := by
  unfold State.mbDenied
  with_reducible repeat (first
      | assumption
      | apply State.put_evolves
      | (apply covers_trans _ hA; decide +kernel)
      | intro _ | rfl | dsimp only | split)

/-- What `State.localReply` keeps. -/
theorem State.localReply_evolves {A : List Part} {s₀ s : State} (h : Evolves A s₀ s) (b : Nat) (status : Nat) (data : List Byte)
    (hA : covers ([Part.reg .EX_MBSTAT, .reg .EX_MBLEN, .reg .EX_MBDATA] ++ raiseParts) A = true) :
    Evolves A s₀ (s.localReply b status data) := by
  unfold State.localReply
  with_reducible repeat (first
      | assumption
      | apply State.mbReply_evolves
      | (apply covers_trans _ hA; decide +kernel)
      | intro _ | rfl | dsimp only | split)

/-- What `State.submit` keeps. -/
theorem State.submit_evolves {A : List Part} {s₀ s : State} (h : Evolves A s₀ s) (b : Nat)
    (hA : covers ([Part.bank, .reg .EX_EXSTAT] ++ replyParts) A = true) :
    Evolves A s₀ (s.submit b) := by
  unfold State.submit
  with_reducible repeat (first
      | assumption
      | apply State.put_evolves
      | apply State.queueShow_evolves
      | apply State.updBank_evolves
      | apply State.localReply_evolves
      | apply State.free_evolves
      | (apply covers_trans _ hA; decide +kernel)
      | intro _ | rfl | exact ⟨rfl, rfl, rfl⟩ | dsimp only | split)

/-- What `State.mbGo` keeps. -/
theorem State.mbGo_evolves {A : List Part} {s₀ s : State} (h : Evolves A s₀ s) (b : Nat)
    (hA : covers ([Part.bank, .reg .EX_EXSTAT] ++ replyParts) A = true) :
    Evolves A s₀ (s.mbGo b) := by
  unfold State.mbGo
  with_reducible repeat (first
      | assumption
      | apply State.mbDenied_evolves
      | apply State.submit_evolves
      | (apply covers_trans _ hA; decide +kernel)
      | intro _ | rfl | dsimp only | split)

/-- What `State.mbRelease` keeps. -/
theorem State.mbRelease_evolves {A : List Part} {s₀ s : State} (h : Evolves A s₀ s) (b : Nat)
    (hA : covers [.fresh, .freeIdx, .bank, .reg .EX_MBCTL, .reg .EX_MBSTAT, .reg .EX_EXSTAT] A = true) :
    Evolves A s₀ (s.mbRelease b) := by
  unfold State.mbRelease
  with_reducible repeat (first
      | assumption
      | apply State.updBank_evolves
      | apply State.queueShow_evolves
      | apply State.put_evolves
      | (apply covers_trans _ hA; decide +kernel)
      | intro _ | rfl | exact ⟨rfl, rfl, rfl⟩ | dsimp only | split)

/-- What `State.mbctlAct` keeps. -/
theorem State.mbctlAct_evolves {A : List Part} {s₀ s : State} (h : Evolves A s₀ s) (b : Nat) (v : Word)
    (hA : covers ([Part.bank, .reg .EX_MBCTL, .reg .EX_EXSTAT] ++ replyParts) A = true) :
    Evolves A s₀ (s.mbctlAct b v) := by
  unfold State.mbctlAct
  with_reducible repeat (first
      | assumption
      | apply State.put_evolves
      | apply State.mbGo_evolves
      | apply State.mbRelease_evolves
      | (apply covers_trans _ hA; decide +kernel)
      | intro _ | rfl | dsimp only | split)

/-- What `State.mbctlWrite` keeps. -/
theorem State.mbctlWrite_evolves {A : List Part} {s₀ s : State} (h : Evolves A s₀ s) (m : Master) (b : Nat) (v : Word)
    (hA : covers ([Part.bank, .reg .EX_MBCTL, .reg .EX_EXSTAT] ++ replyParts) A = true) :
    Evolves A s₀ (s.mbctlWrite m b v) := by
  unfold State.mbctlWrite
  with_reducible repeat (first
      | assumption
      | apply State.mbctlAct_evolves
      | apply State.put_evolves
      | apply State.mbDenied_evolves
      | (apply covers_trans _ hA; decide +kernel)
      | intro _ | rfl | dsimp only | split)

/-- What `State.mbWrite` keeps. -/
theorem State.mbWrite_evolves {A : List Part} {s₀ s : State} (h : Evolves A s₀ s) (m : Master) (r : RegId) (v : Word) (b : Nat) (j : Nat) (hf : covers [.reg r] A = true)
    (hA : covers [.fresh, .reg .EX_MBSTAT] A = true) :
    Evolves A s₀ (s.mbWrite m r v b j) := by
  unfold State.mbWrite
  with_reducible repeat (first
      | assumption
      | apply State.regWrite_evolves
      | apply State.mbDenied_evolves
      | (apply covers_trans _ hA; decide +kernel)
      | intro _ | rfl | dsimp only | split)

/-- What `execHighWaterMarkWrite` keeps. -/
theorem execHighWaterMarkWrite_evolves {A : List Part} {s₀ s : State} (h : Evolves A s₀ s) (k : Fin 32)
    (hA : covers [.fresh, .timers, .lamp, .bank, .reg .LA_LSTAT, .reg .LA_GHELD] A = true) :
    ∃ u, execHighWaterMarkWrite k s = .next u ∧ Evolves A s₀ u := by
  unfold execHighWaterMarkWrite
  refine ⟨_, rfl, ?_⟩
  with_reducible repeat (first
      | assumption
      | apply State.markWrite_evolves
      | (apply covers_trans _ hA; decide +kernel)
      | intro _ | rfl | dsimp only | split)

/-- What `execGrantRetry` keeps. -/
theorem execGrantRetry_evolves {A : List Part} {s₀ s : State} (h : Evolves A s₀ s)
    (hA : covers ([Part.lamp, .bank, .reg .LA_LSTAT, .reg .LA_GHELD] ++ onTimerParts) A = true) :
    ∃ u, execGrantRetry s = .next u ∧ Evolves A s₀ u := by
  unfold execGrantRetry
  refine ⟨_, rfl, ?_⟩
  with_reducible repeat (first
      | assumption
      | apply State.onTimer_evolves
      | apply State.grant_evolves
      | apply State.updBank_evolves
      | apply State.arm_evolves
      | apply State.each_evolves
      | apply State.markWrite_evolves
      | (apply covers_trans _ hA; decide +kernel)
      | intro _ | rfl | exact ⟨rfl, rfl, rfl⟩ | dsimp only | split)

/-- What `State.startEnvelope` keeps. -/
theorem State.startEnvelope_evolves {A : List Part} {s₀ s : State} (h : Evolves A s₀ s) (b : Nat) (rest : List Nat)
    (hA : covers [.fresh, .freeIdx, .bank, .reg .EX_EXSTAT, .reg .LA_LSTAT] A = true) :
    Evolves A s₀ (s.startEnvelope b rest) := by
  unfold State.startEnvelope
  with_reducible repeat (first
      | assumption
      | apply State.queueShow_evolves
      | apply State.updBank_evolves
      | apply State.put_evolves
      | (apply covers_trans _ hA; decide +kernel)
      | intro _ | rfl | exact ⟨rfl, rfl, rfl⟩ | dsimp only | split)

/-- What `execEnvelopeStart` keeps. -/
theorem execEnvelopeStart_evolves {A : List Part} {s₀ s : State} (h : Evolves A s₀ s)
    (hA : covers [.fresh, .freeIdx, .bank, .reg .EX_EXSTAT, .reg .LA_LSTAT] A = true) :
    ∃ u, execEnvelopeStart s = .next u ∧ Evolves A s₀ u := by
  unfold execEnvelopeStart
  refine ⟨_, rfl, ?_⟩
  with_reducible repeat (first
      | assumption
      | apply State.startEnvelope_evolves
      | (apply covers_trans _ hA; decide +kernel)
      | intro _ | rfl | dsimp only | split)

/-- What `State.releaseVerdict` keeps. -/
theorem State.releaseVerdict_evolves {A : List Part} {s₀ s : State} (h : Evolves A s₀ s) (r : RunU)
    (hA : covers ([Part.lamp, .bank, .host, .reg .EX_EXCNT] ++ replyParts) A = true) :
    Evolves A s₀ (s.releaseVerdict r) := by
  unfold State.releaseVerdict
  with_reducible repeat (first
      | assumption
      | apply State.each_evolves
      | apply State.setCounter_evolves
      | apply State.bumpSat_evolves
      | apply State.updBank_evolves
      | apply State.reply_evolves
      | apply State.uartReply_evolves
      | apply State.mbReply_evolves
      | (apply covers_trans _ hA; decide +kernel)
      | intro _ | rfl | exact ⟨rfl, rfl, rfl⟩ | dsimp only | split)

/-- What `execVerdictRelease` keeps. -/
theorem execVerdictRelease_evolves {A : List Part} {s₀ s : State} (h : Evolves A s₀ s)
    (hA : covers ([Part.lamp, .bank, .host, .reg .EX_EXCNT, .reg .LA_LSTAT, .reg .LA_GHELD] ++ replyParts ++ onTimerParts) A = true) :
    ∃ u, execVerdictRelease s = .next u ∧ Evolves A s₀ u := by
  unfold execVerdictRelease
  refine ⟨_, rfl, ?_⟩
  with_reducible repeat (first
      | assumption
      | apply State.dseqReady_evolves
      | apply State.advanceTo_evolves
      | apply State.releaseVerdict_evolves
      | (apply covers_trans _ hA; decide +kernel)
      | intro _ | rfl | dsimp only | split)

/-- What `State.keyOp` keeps. -/
theorem State.keyOp_evolves {A : List Part} {s₀ s : State} (h : Evolves A s₀ s) (b : Nat) (op : Nat) (u : Nat) (f : KeySlot → List Byte → Nat → Option (List Byte))
    (hA : covers replyParts A = true) :
    Evolves A s₀ (s.keyOp b op u f) := by
  unfold State.keyOp
  with_reducible repeat (first
      | assumption
      | apply State.localReply_evolves
      | apply State.nonce_evolves
      | (apply covers_trans _ hA; decide +kernel)
      | intro _ | rfl | dsimp only | split)

/-- What `execSign` keeps. -/
theorem execSign_evolves {A : List Part} {s₀ s : State} (h : Evolves A s₀ s) (b : Mbox) (hA : covers replyParts A = true) :
    ∃ u, execSign b s = .next u ∧ Evolves A s₀ u := by
  unfold execSign
  refine ⟨_, rfl, ?_⟩
  with_reducible repeat (first
      | assumption
      | apply State.keyOp_evolves
      | (apply covers_trans _ hA; decide +kernel)
      | intro _ | rfl | dsimp only | split)

/-- What `execEcdh` keeps. -/
theorem execEcdh_evolves {A : List Part} {s₀ s : State} (h : Evolves A s₀ s) (b : Mbox) (hA : covers replyParts A = true) :
    ∃ u, execEcdh b s = .next u ∧ Evolves A s₀ u := by
  unfold execEcdh
  refine ⟨_, rfl, ?_⟩
  with_reducible repeat (first
      | assumption
      | apply State.keyOp_evolves
      | (apply covers_trans _ hA; decide +kernel)
      | intro _ | rfl | dsimp only | split)

/-- What `execEncrypt` keeps. -/
theorem execEncrypt_evolves {A : List Part} {s₀ s : State} (h : Evolves A s₀ s) (b : Mbox) (hA : covers replyParts A = true) :
    ∃ u, execEncrypt b s = .next u ∧ Evolves A s₀ u := by
  unfold execEncrypt
  refine ⟨_, rfl, ?_⟩
  with_reducible repeat (first
      | assumption
      | apply State.keyOp_evolves
      | (apply covers_trans _ hA; decide +kernel)
      | intro _ | rfl | dsimp only | split)

/-- What `execDecrypt` keeps. -/
theorem execDecrypt_evolves {A : List Part} {s₀ s : State} (h : Evolves A s₀ s) (b : Mbox) (hA : covers replyParts A = true) :
    ∃ u, execDecrypt b s = .next u ∧ Evolves A s₀ u := by
  unfold execDecrypt
  refine ⟨_, rfl, ?_⟩
  with_reducible repeat (first
      | assumption
      | apply State.keyOp_evolves
      | (apply covers_trans _ hA; decide +kernel)
      | intro _ | rfl | dsimp only | split)

/-- What `execHmac` keeps. -/
theorem execHmac_evolves {A : List Part} {s₀ s : State} (h : Evolves A s₀ s) (b : Mbox) (hA : covers replyParts A = true) :
    ∃ u, execHmac b s = .next u ∧ Evolves A s₀ u := by
  unfold execHmac
  refine ⟨_, rfl, ?_⟩
  with_reducible repeat (first
      | assumption
      | apply State.keyOp_evolves
      | (apply covers_trans _ hA; decide +kernel)
      | intro _ | rfl | dsimp only | split)

/-- What `execRandom` keeps. -/
theorem execRandom_evolves {A : List Part} {s₀ s : State} (h : Evolves A s₀ s) (b : Mbox) (hA : covers replyParts A = true) :
    ∃ u, execRandom b s = .next u ∧ Evolves A s₀ u := by
  unfold execRandom
  refine ⟨_, rfl, ?_⟩
  with_reducible repeat (first
      | assumption
      | apply State.localReply_evolves
      | (apply covers_trans _ hA; decide +kernel)
      | intro _ | rfl | apply freeIdx_evolves | dsimp only | split
      | (apply freeIdx_evolves; first | assumption | apply State.localReply_evolves | intro _ | rfl | apply freeIdx_evolves | dsimp only | split))

/-- What `State.counterOp` keeps. -/
theorem State.counterOp_evolves {A : List Part} {s₀ s : State} (h : Evolves A s₀ s) (b : Nat) (o : LocalOp)
    (hA : covers ([Part.lamp, .reg .EX_MBSTAT, .reg .EX_MBLEN, .reg .EX_MBDATA] ++ raiseParts) A = true) :
    Evolves A s₀ (s.counterOp b o) := by
  unfold State.counterOp
  with_reducible repeat (first
      | assumption
      | apply State.localReply_evolves
      | apply State.setCounter_evolves
      | (apply covers_trans _ hA; decide +kernel)
      | intro _ | rfl | dsimp only | split)

/-- What `execCounter` keeps. -/
theorem execCounter_evolves {A : List Part} {s₀ s : State} (h : Evolves A s₀ s) (b : Mbox)
    (hA : covers ([Part.lamp, .reg .EX_MBSTAT, .reg .EX_MBLEN, .reg .EX_MBDATA] ++ raiseParts) A = true) :
    ∃ u, execCounter b s = .next u ∧ Evolves A s₀ u := by
  unfold execCounter
  refine ⟨_, rfl, ?_⟩
  with_reducible repeat (first
      | assumption
      | apply State.counterOp_evolves
      | (apply covers_trans _ hA; decide +kernel)
      | intro _ | rfl | dsimp only | split)

/-! ### Machine/Tamper -/

/-- What `State.tamperLog` keeps. -/
theorem State.tamperLog_evolves {A : List Part} {s₀ s : State} (h : Evolves A s₀ s) (kind : Nat)
    (hA : covers [.fresh, .freeIdx, .lamp, .reg .LA_LSTAT, .reg .LA_GHELD] A = true) :
    Evolves A s₀ (s.tamperLog kind) := by
  unfold State.tamperLog
  with_reducible repeat (first
      | assumption
      | apply State.grant_evolves
      | apply State.free_evolves
      | apply State.updLamp_evolves
      | (apply covers_trans _ hA; decide +kernel)
      | intro _ | rfl | dsimp only | split)

/-- What `State.latchBreach` keeps. -/
theorem State.latchBreach_evolves {A : List Part} {s₀ s : State} (h : Evolves A s₀ s) (kind : Nat)
    (hA : covers [.fresh, .freeIdx, .lamp, .reg .LA_LSTAT, .reg .LA_GHELD] A = true) :
    Evolves A s₀ (s.latchBreach kind) := by
  unfold State.latchBreach
  with_reducible repeat (first
      | assumption
      | apply State.grant_evolves
      | apply State.tamperLog_evolves
      | apply State.updLamp_evolves
      | (apply covers_trans _ hA; decide +kernel)
      | intro _ | rfl | dsimp only | split)

/-- What `State.breach` keeps. -/
theorem State.breach_evolves {A : List Part} {s₀ s : State} (h : Evolves A s₀ s) (kind : Nat)
    (hA : covers ([Part.lamp, .supply, .reg .PW_GSTAT, .reg .CG_CGSTAT, .reg .FM_FCAUSE, .reg .PR_PWRSTAT, .reg .LA_LSTAT, .reg .LA_GHELD] ++
      aditParts ++ seamParts ++ sf2Parts ++ bankParts) A = true) :
    Evolves A s₀ (s.breach kind) := by
  unfold State.breach
  with_reducible repeat (first
      | assumption
      | apply State.updBank_evolves
      | apply State.updLamp_evolves
      | apply State.bankShow_evolves
      | apply State.grant_evolves
      | apply State.closeAdit_evolves
      | apply State.tamperLog_evolves
      | apply State.wake_evolves
      | apply State.latchBreach_evolves
      | (apply covers_trans _ hA; decide +kernel)
      | intro _ | rfl | exact ⟨rfl, rfl, rfl⟩ | dsimp only | split)

/-- What `execMeshCheck` keeps. -/
theorem execMeshCheck_evolves {A : List Part} {s₀ s : State} (h : Evolves A s₀ s) (level : Bool)
    (hA : covers ([Part.now, .lamp, .supply, .reg .HF_TURN, .reg .PW_GSTAT, .reg .CG_CGSTAT, .reg .FM_FCAUSE, .reg .PR_PWRSTAT, .reg .LA_LSTAT,
      .reg .LA_GHELD] ++ aditParts ++ seamParts ++ sf2Parts ++ bankParts) A = true) :
    ∃ u, execMeshCheck level s = .next u ∧ Evolves A s₀ u := by
  unfold execMeshCheck
  refine ⟨_, rfl, ?_⟩
  with_reducible repeat (first
      | assumption
      | apply State.every_evolves
      | apply State.updBank_evolves
      | apply State.breach_evolves
      | (apply covers_trans _ hA; decide +kernel)
      | intro _ | rfl | exact ⟨rfl, rfl, rfl⟩ | dsimp only | split)

/-- What `execZeroisationComplete` keeps. -/
theorem execZeroisationComplete_evolves {A : List Part} {s₀ s : State} (h : Evolves A s₀ s) (hA : covers Part.all A = true) :
    ∃ u, execZeroisationComplete s = .next u ∧ Evolves A s₀ u := by
  unfold execZeroisationComplete
  refine ⟨_, rfl, ?_⟩
  with_reducible repeat (first
      | assumption
      | apply State.pickShow_evolves
      | apply State.pickPowerOff_evolves
      | apply State.eraseSlots_evolves
      | apply State.updLamp_evolves
      | apply State.updBank_evolves
      | apply State.bankShow_evolves
      | apply State.reset3_evolves
      | (apply covers_trans _ hA; exact covers_all _)
      | intro _ | rfl | exact ⟨rfl, rfl, rfl⟩ | dsimp only | split)

/-- What `State.glitch` keeps. -/
theorem State.glitch_evolves {A : List Part} {s₀ s : State} (h : Evolves A s₀ s) (kind : Nat) (f : Fld) (hA : covers Part.all A = true) :
    Evolves A s₀ (s.glitch kind f) := by
  unfold State.glitch
  with_reducible repeat (first
      | assumption
      | apply State.tamperLog_evolves
      | apply State.updLamp_evolves
      | apply State.updBank_evolves
      | apply State.closeAdit_evolves
      | apply State.reset3_evolves
      | apply State.wake_evolves
      | apply State.bankShow_evolves
      | apply State.put_evolves
      | (apply covers_trans _ hA; exact covers_all _)
      | intro _ | rfl | exact ⟨rfl, rfl, rfl⟩ | dsimp only | split)

/-- What `execVoltageGlitch` keeps. -/
theorem execVoltageGlitch_evolves {A : List Part} {s₀ s : State} (h : Evolves A s₀ s) (hA : covers Part.all A = true) :
    ∃ u, execVoltageGlitch s = .next u ∧ Evolves A s₀ u := by
  unfold execVoltageGlitch
  refine ⟨_, rfl, ?_⟩
  with_reducible repeat (first
      | assumption
      | apply State.glitch_evolves
      | (apply covers_trans _ hA; exact covers_all _)
      | intro _ | rfl | dsimp only | split)

/-- What `execClockGlitch` keeps. -/
theorem execClockGlitch_evolves {A : List Part} {s₀ s : State} (h : Evolves A s₀ s) (hA : covers Part.all A = true) :
    ∃ u, execClockGlitch s = .next u ∧ Evolves A s₀ u := by
  unfold execClockGlitch
  refine ⟨_, rfl, ?_⟩
  with_reducible repeat (first
      | assumption
      | apply State.glitch_evolves
      | (apply covers_trans _ hA; exact covers_all _)
      | intro _ | rfl | dsimp only | split)

/-- What `execTemperatureEvent` keeps. -/
theorem execTemperatureEvent_evolves {A : List Part} {s₀ s : State} (h : Evolves A s₀ s) (hA : covers Part.all A = true) :
    ∃ u, execTemperatureEvent s = .next u ∧ Evolves A s₀ u := by
  unfold execTemperatureEvent
  refine ⟨_, rfl, ?_⟩
  with_reducible repeat (first
      | assumption
      | apply State.breach_evolves
      | apply State.glitch_evolves
      | (apply covers_trans _ hA; exact covers_all _)
      | intro _ | rfl | dsimp only | split)

/-- What `execLcFuseProgrammed` keeps. -/
theorem execLcFuseProgrammed_evolves {A : List Part} {s₀ s : State} (h : Evolves A s₀ s) (hA : covers Part.all A = true) :
    ∃ u, execLcFuseProgrammed s = .next u ∧ Evolves A s₀ u := by
  refine ⟨_, rfl, ?_⟩
  split
  · exact h
  · rename_i new _
    split
    · exact h
    · have h1 : Evolves A s₀ (s.updBank (fun u => { u.burn new with fuse := none })) :=
        State.updBank_evolves_of_le h _ (Nat.le_max_left _ _) (fun _ => le_refl _) (fun _ => le_refl _) (covers_trans (covers_all _) hA)
      dsimp only
      split
      · exact State.bankShow_evolves (State.updBank_evolves h1 _ ⟨rfl, rfl, rfl⟩ (covers_trans (covers_all _) hA)) (covers_trans (covers_all _) hA)
      · exact State.coldReset_evolves (ite_evolves (State.eraseSlots_evolves h1 _ (covers_trans (covers_all _) hA))
          (ite_evolves (State.eraseSlots_evolves h1 _ (covers_trans (covers_all _) hA)) h1)) (covers_trans (covers_all _) hA)

/-- What `State.gaugeKeep` keeps. -/
theorem State.gaugeKeep_evolves {A : List Part} {s₀ s : State} (h : Evolves A s₀ s) (old : State)
    (hA : covers [.fresh, .freeIdx, .reg .LA_LSTAT, .reg .LA_GAUGE, .reg .LA_GHELD, .reg .LA_CAP] A = true) :
    Evolves A s₀ (s.gaugeKeep old) := by
  unfold State.gaugeKeep
  with_reducible repeat (first
      | assumption
      | apply State.gaugeAt_evolves
      | apply State.put_evolves
      | (apply covers_trans _ hA; decide +kernel)
      | intro _ | rfl | dsimp only | split)

/-- What `State.returnErase` keeps. -/
theorem State.returnErase_evolves {A : List Part} {s₀ s : State} (h : Evolves A s₀ s)
    (hA : covers [.fresh, .latched, .mem, .freeIdx, .pick, .assay, .bank, .supply, .reg .PK_PCTL, .reg .AS_LOSS, .reg .AS_SAVESTAT, .reg .AS_MCFG,
      .reg .AS_SAVEINT, .reg .AS_PMAX, .reg .AS_PCONST, .reg .AS_ZXCFG, .reg .AS_WCFG, .reg .AS_CHGAIN, .reg .AS_CHOFS, .reg .AS_PHDLY,
      .reg .AS_QGAIN, .reg .AS_QOFS, .reg .AS_EMLO, .reg .AS_EMHI, .reg .AS_EWIN, .reg .AS_WRAPS, .reg .AS_S0CTL, .reg .AS_S0WGT, .reg .AS_S0TOL,
      .reg .AS_S0CNT, .reg .AS_TPOCTL, .reg .AS_TPOCONST, .reg .FM_SEAL, .reg .EX_CFGVAL, .reg .EX_CFGMIN, .reg .EX_CFGMAX, .reg .EX_CFGSRC,
      .reg .RS_RSTCNT, .reg .RS_RSTTOT, .reg .LA_LCTL, .reg .LA_LSTAT, .reg .LA_GAUGE, .reg .LA_GHELD, .reg .LA_GFLOOR, .reg .LA_CAP,
      .reg .LA_RTCLO, .reg .LA_RTCHI, .reg .LA_RETAIN] A = true) :
    Evolves A s₀ (s.returnErase) := by
  unfold State.returnErase
  with_reducible repeat (first
      | assumption
      | apply State.pickPowerOff_evolves
      | apply State.eraseSlots_evolves
      | apply State.clearMem_evolves
      | apply State.updBank_evolves
      | apply State.resetRegsWhere_evolves
      | apply State.updSupply_evolves
      | apply State.updAssay_evolves
      | apply State.pickShow_evolves
      | apply State.each_evolves
      | apply State.gaugeKeep_evolves
      | apply State.windowShow_evolves
      | (apply covers_trans _ hA; decide +kernel)
      | intro _ | rfl | exact ⟨rfl, rfl, rfl⟩ | (refine covers_mem hA ?_; rename_i r _ hr; revert hr; cases r <;> decide) | (exact covers_mem hA (by decide +kernel)) | dsimp only | split)

/-- What `execReturnEntryComplete` keeps. -/
theorem execReturnEntryComplete_evolves {A : List Part} {s₀ s : State} (h : Evolves A s₀ s) (hA : covers Part.all A = true) :
    ∃ u, execReturnEntryComplete s = .next u ∧ Evolves A s₀ u := by
  unfold execReturnEntryComplete
  refine ⟨_, rfl, ?_⟩
  with_reducible repeat (first
      | assumption
      | apply State.returnErase_evolves
      | apply State.bankShow_evolves
      | apply State.coldReset_evolves
      | (apply covers_trans _ hA; exact covers_all _)
      | intro _ | rfl | dsimp only | split)

/-- What `execItotonProductionTest` keeps. -/
theorem execItotonProductionTest_evolves {A : List Part} {s₀ s : State} (h : Evolves A s₀ s)
    (hA : covers ([Part.freeIdx, .supply, .reg .BK_DEVID, .reg .BK_ADITSTAT] ++ bankParts) A = true) :
    ∃ u, execItotonProductionTest s = .next u ∧ Evolves A s₀ u := by
  refine ⟨_, rfl, ?_⟩
  split
  · exact State.idShow_evolves (State.updSupply_evolves (State.updBank_evolves_of_le (State.nonce_evolves (State.nonce_evolves h
      (covers_trans (by decide +kernel) hA)) (covers_trans (by decide +kernel) hA)) _ (Nat.le_max_left _ _)
      (fun _ => le_refl _) (fun _ => le_refl _) (covers_trans (by decide +kernel) hA)) _ (covers_trans (by decide +kernel) hA)) (covers_trans (by decide +kernel) hA)
  · exact h

/-- What `State.bootType` keeps. -/
theorem State.bootType_evolves {A : List Part} {s₀ s : State} (h : Evolves A s₀ s) (t : Nat) (hA : covers [.fresh, .bank, .reg .EX_EXSTAT] A = true) :
    Evolves A s₀ (s.bootType t) := by
  unfold State.bootType
  with_reducible repeat (first
      | assumption
      | apply State.put_evolves
      | apply State.updBank_evolves
      | (apply covers_trans _ hA; decide +kernel)
      | intro _ | rfl | exact ⟨rfl, rfl, rfl⟩ | dsimp only | split)

/-- What `State.bootParam` keeps. -/
theorem State.bootParam_evolves {A : List Part} {s₀ s : State} (h : Evolves A s₀ s)
    (hA : covers ([Part.reg .CN_WCTL, .reg .CN_WTHR, .reg .CN_WSTAT, .reg .DR_DSTAT] ++ sf2Parts) A = true) :
    Evolves A s₀ (s.bootParam) := by
  unfold State.bootParam
  with_reducible repeat (first
      | assumption
      | apply State.paramInForce_evolves
      | apply State.put_evolves
      | apply State.paramNone_evolves
      | (apply covers_trans _ hA; decide +kernel)
      | intro _ | rfl | dsimp only | split
      | (apply fm_evolves; first | assumption | apply State.paramInForce_evolves | apply State.put_evolves | apply State.paramNone_evolves | intro _ | rfl | dsimp only | split))

/-- What `State.readFuses` keeps. -/
theorem State.readFuses_evolves {A : List Part} {s₀ s : State} (h : Evolves A s₀ s) (hA : covers [.bank] A = true) :
    Evolves A s₀ (s.readFuses) := by
  unfold State.readFuses
  exact State.updBank_evolves_of_le h _ (Nat.le_max_left _ _) (fun _ => le_refl _) (fun _ => le_refl _) hA

/-- What `State.bootImages` keeps. -/
theorem State.bootImages_evolves {A : List Part} {s₀ s : State} (h : Evolves A s₀ s)
    (hA : covers ([Part.pick, .supply, .reg .CN_WCTL, .reg .CN_WTHR, .reg .CN_WSTAT, .reg .DR_DSTAT, .reg .DR_PSTATE] ++ sf2Parts ++
      bankParts) A = true) :
    Evolves A s₀ (s.bootImages) := by
  unfold State.bootImages
  with_reducible repeat (first
      | assumption
      | apply State.bootType_evolves
      | apply State.faultLine_evolves
      | apply State.updSupply_evolves
      | apply State.each_evolves
      | apply State.put_evolves
      | apply State.pickShow_evolves
      | apply State.updBank_evolves
      | apply State.bootParam_evolves
      | apply State.bankShow_evolves
      | apply State.raiseIf_evolves
      | apply State.setPst_evolves
      | (apply covers_trans _ hA; decide +kernel)
      | intro _ | rfl | exact ⟨rfl, rfl, rfl⟩ | dsimp only | split
      | (apply pick_evolves; first | assumption | apply State.bootType_evolves | apply State.faultLine_evolves | apply State.updSupply_evolves | apply State.each_evolves | apply State.put_evolves | apply State.pickShow_evolves | apply State.updBank_evolves | apply State.bootParam_evolves | apply State.bankShow_evolves | apply State.raiseIf_evolves | apply State.setPst_evolves | intro _ | rfl | exact ⟨rfl, rfl, rfl⟩ | dsimp only | split))

/-- What `State.bootPending` keeps. -/
theorem State.bootPending_evolves {A : List Part} {s₀ s : State} (h : Evolves A s₀ s)
    (hA : covers ([Part.timers, .lamp, .reg .LA_LSTAT, .reg .LA_GHELD] ++ bankParts) A = true) :
    Evolves A s₀ (s.bootPending).2 := by
  unfold State.bootPending
  with_reducible repeat (first
      | assumption
      | apply State.updBank_evolves
      | apply State.grant_evolves
      | apply State.bankShow_evolves
      | apply State.arm_evolves
      | (apply covers_trans _ hA; decide +kernel)
      | intro _ | rfl | exact ⟨rfl, rfl, rfl⟩ | dsimp only | split)

/-- What `State.restoreCounters` keeps. -/
theorem State.restoreCounters_evolves {A : List Part} {s₀ s : State} (h : Evolves A s₀ s) (hA : covers [.lamp] A = true) :
    Evolves A s₀ (s.restoreCounters) := by
  unfold State.restoreCounters
  with_reducible repeat (first
      | assumption
      | apply State.updLamp_evolves
      | (apply covers_trans _ hA; decide +kernel)
      | intro _ | rfl | dsimp only | split)

/-- What `execSecureBoot` keeps. -/
theorem execSecureBoot_evolves {A : List Part} {s₀ s : State} (h : Evolves A s₀ s)
    (hA : covers ([Part.pick, .lamp, .supply, .reg .CN_WCTL, .reg .CN_WTHR, .reg .CN_WSTAT, .reg .DR_DSTAT, .reg .DR_PSTATE, .reg .BK_DEVID,
      .reg .BK_ADITSTAT, .reg .LA_LSTAT, .reg .LA_GHELD] ++ sf2Parts ++ bankParts) A = true) :
    ∃ u, execSecureBoot s = .next u ∧ Evolves A s₀ u := by
  unfold execSecureBoot
  refine ⟨_, rfl, ?_⟩
  with_reducible repeat (first
      | assumption
      | apply State.bootPending_evolves
      | apply State.idShow_evolves
      | apply State.readFuses_evolves
      | apply State.bootImages_evolves
      | apply State.restoreCounters_evolves
      | (apply covers_trans _ hA; decide +kernel)
      | intro _ | rfl | dsimp only | split)

/-! ### Machine/SharedMem -/

/-- What `State.busAnswer` keeps. -/
theorem State.busAnswer_evolves {A : List Part} {s₀ s : State} (h : Evolves A s₀ s) (v : Word) (hA : covers [.bus] A = true) :
    Evolves A s₀ (s.busAnswer v) := by
  unfold State.busAnswer
  with_reducible repeat (first
      | assumption
      | (apply covers_trans _ hA; decide +kernel)
      | intro _ | rfl | dsimp only | split
      | (apply bus_evolves; first | assumption | intro _ | rfl | dsimp only | split))

/-- What `State.busLoad` keeps. -/
theorem State.busLoad_evolves {A : List Part} {s₀ s : State} (h : Evolves A s₀ s) (m : Master) (v : Word)
    (hA : covers [.fresh, .bus, .drift, .reg .DR_PLOG] A = true) :
    Evolves A s₀ (s.busLoad m v) := by
  unfold State.busLoad
  with_reducible repeat (first
      | assumption
      | apply State.busAnswer_evolves
      | apply State.ingress_evolves
      | (apply covers_trans _ hA; decide +kernel)
      | intro _ | rfl | dsimp only | split)

/-- What `State.accessFault` keeps. -/
theorem State.accessFault_evolves {A : List Part} {s₀ s : State} (h : Evolves A s₀ s) (m : Master) (a : Nat) (op : MemOp)
    (hA : covers [.fresh, .bus, .drift, .reg .DR_PLOG] A = true) :
    Evolves A s₀ (s.accessFault m a op) := by
  unfold State.accessFault
  with_reducible repeat (first
      | assumption
      | apply State.ingress_evolves
      | apply State.takeTrap_evolves
      | (apply covers_trans _ hA; decide +kernel)
      | intro _ | rfl | dsimp only | split
      | (apply bus_evolves; first | assumption | apply State.ingress_evolves | apply State.takeTrap_evolves | intro _ | rfl | dsimp only | split))

/-- What `State.noteWrite` keeps. -/
theorem State.noteWrite_evolves {A : List Part} {s₀ s : State} (h : Evolves A s₀ s) (m : Master) (a : Nat) (b : List Byte)
    (hA : covers [.drift] A = true) :
    Evolves A s₀ (s.noteWrite m a b) := by
  unfold State.noteWrite
  with_reducible repeat (first
      | assumption
      | apply State.countEgress_evolves
      | (apply covers_trans _ hA; decide +kernel)
      | intro _ | rfl | dsimp only | split)

/-- What `State.sramEcc` keeps. -/
theorem State.sramEcc_evolves {A : List Part} {s₀ s : State} (h : Evolves A s₀ s) (a : Nat) (ecc : Nat)
    (hA : covers ([Part.reg .SE_MEMSTAT, .reg .SE_MEMERRA] ++ raiseParts) A = true) :
    Evolves A s₀ (s.sramEcc a ecc) := by
  unfold State.sramEcc
  with_reducible repeat (first
      | assumption
      | apply State.bumpSat_evolves
      | apply State.put_evolves
      | apply State.raise_evolves
      | (apply covers_trans _ hA; decide +kernel)
      | intro _ | rfl | dsimp only | split)

/-- What `State.putWord` keeps. -/
theorem State.putWord_evolves {A : List Part} {s₀ s : State} (h : Evolves A s₀ s) (a : Nat) (be : BitVec 4) (v : Word) (hA : covers [.mem] A = true) :
    Evolves A s₀ (s.putWord a be v) := by
  unfold State.putWord
  with_reducible repeat (first
      | assumption
      | apply State.each_evolves
      | apply State.setByte_evolves
      | (apply covers_trans _ hA; decide +kernel)
      | intro _ | rfl | dsimp only | split)

/-- What `State.chargeBeat` keeps. -/
theorem State.chargeBeat_evolves {A : List Part} {s₀ s : State} (h : Evolves A s₀ s) (c : Option Nat) (hA : covers chargeParts A = true) :
    Evolves A s₀ (s.chargeBeat c) := by
  unfold State.chargeBeat
  with_reducible repeat (first
      | assumption
      | apply State.charge_evolves
      | (apply covers_trans _ hA; decide +kernel)
      | intro _ | rfl | dsimp only | split)

/-- What `State.memRead` keeps. -/
theorem State.memRead_evolves {A : List Part} {s₀ s : State} (h : Evolves A s₀ s) (m : Master) (a : Nat)
    (hA : covers [.fresh, .bus, .drift, .reg .DR_PLOG] A = true) :
    Evolves A s₀ (s.memRead m a) := by
  unfold State.memRead
  with_reducible repeat (first
      | assumption
      | apply State.busAnswer_evolves
      | apply State.busLoad_evolves
      | (apply covers_trans _ hA; decide +kernel)
      | intro _ | rfl | dsimp only | split)

/-- What `State.memWrite` keeps. -/
theorem State.memWrite_evolves {A : List Part} {s₀ s : State} (h : Evolves A s₀ s) (m : Master) (a : Nat) (be : BitVec 4) (v : Word)
    (hA : covers ([Part.mem, .bus] ++ chargeParts) A = true) :
    Evolves A s₀ (s.memWrite m a be v) := by
  unfold State.memWrite
  with_reducible repeat (first
      | assumption
      | apply State.journalLine_evolves
      | apply State.noteWrite_evolves
      | apply State.busAnswer_evolves
      | apply State.putWord_evolves
      | (apply covers_trans _ hA; decide +kernel)
      | intro _ | rfl | dsimp only | split)

/-- What `State.sharedAccess` keeps. -/
theorem State.sharedAccess_evolves {A : List Part} {s₀ s : State} (h : Evolves A s₀ s) (m : Master) (c : Option Nat) (a : Nat) (op : MemOp) (ecc : Nat)
    (hA : covers ([Part.mem, .bus, .reg .DR_DSTAT, .reg .SE_MEMSTAT, .reg .SE_MEMERRA] ++ chargeParts) A = true) :
    Evolves A s₀ (s.sharedAccess m c a op ecc) := by
  unfold State.sharedAccess
  with_reducible repeat (first
      | assumption
      | apply State.chargeBeat_evolves
      | apply State.busAnswer_evolves
      | apply State.put_evolves
      | apply State.noteWrite_evolves
      | apply State.memWrite_evolves
      | apply State.sramEcc_evolves
      | apply State.accessFault_evolves
      | apply State.memRead_evolves
      | (apply covers_trans _ hA; decide +kernel)
      | intro _ | rfl | dsimp only | split)

/-- What `State.ringAccess` keeps. -/
theorem State.ringAccess_evolves {A : List Part} {s₀ s : State} (h : Evolves A s₀ s) (m : Master) (c : Option Nat) (a : Nat) (op : MemOp)
    (hA : covers ([Part.bus, .freeIdx, .reg .SE_SSTAT] ++ chargeParts) A = true) :
    Evolves A s₀ (s.ringAccess m c a op) := by
  unfold State.ringAccess
  with_reducible repeat (first
      | assumption
      | apply State.chargeBeat_evolves
      | apply State.busAnswer_evolves
      | apply State.put_evolves
      | apply State.noteWrite_evolves
      | apply State.memRead_evolves
      | apply State.free_evolves
      | (apply covers_trans _ hA; decide +kernel)
      | intro _ | rfl | dsimp only | split)

/-- What `State.sharedAct` keeps. -/
theorem State.sharedAct_evolves {A : List Part} {s₀ s : State} (h : Evolves A s₀ s) (q : HeldReq)
    (hA : covers ([Part.mem, .bus, .freeIdx, .reg .DR_DSTAT, .reg .SE_SSTAT, .reg .SE_MEMSTAT, .reg .SE_MEMERRA] ++ chargeParts) A = true) :
    Evolves A s₀ (s.sharedAct q) := by
  unfold State.sharedAct
  with_reducible repeat (first
      | assumption
      | apply State.ringAccess_evolves
      | apply State.sharedAccess_evolves
      | (apply covers_trans _ hA; decide +kernel)
      | intro _ | rfl | dsimp only | split)

/-- What `State.sharedRequest` keeps. -/
theorem State.sharedRequest_evolves {A : List Part} {s₀ s : State} (h : Evolves A s₀ s) (q : HeldReq)
    (hA : covers ([Part.mem, .bus, .freeIdx, .plan, .reg .DR_DSTAT, .reg .SE_SSTAT, .reg .SE_MEMSTAT, .reg .SE_MEMERRA] ++
      chargeParts) A = true) :
    Evolves A s₀ (s.sharedRequest q) := by
  unfold State.sharedRequest
  with_reducible repeat (first
      | assumption
      | apply State.updPlan_evolves
      | apply State.sharedAct_evolves
      | (apply covers_trans _ hA; decide +kernel)
      | intro _ | rfl | dsimp only | split)

/-- What `State.serveHeld` keeps. -/
theorem State.serveHeld_evolves {A : List Part} {s₀ s : State} (h : Evolves A s₀ s)
    (hA : covers ([Part.mem, .bus, .freeIdx, .plan, .reg .DR_DSTAT, .reg .SE_SSTAT, .reg .SE_MEMSTAT, .reg .SE_MEMERRA] ++
      chargeParts) A = true) :
    Evolves A s₀ (s.serveHeld) := by
  unfold State.serveHeld
  with_reducible repeat (first
      | assumption
      | apply State.each_evolves
      | apply State.updPlan_evolves
      | apply State.sharedRequest_evolves
      | (apply covers_trans _ hA; decide +kernel)
      | intro _ | rfl | dsimp only | split)

end Sys2Proof.Machine
end

