-- ==== Sys2Proof/Laws/MovesLinks.lean ====
section
/-! SUPPORT. What each operation of the Headframe, Uhla, the Pick instructions and the host links keeps: one lemma per function (`Evolves`). -/

set_option Elab.async false
set_option linter.unusedTactic false
set_option linter.unreachableTactic false
set_option linter.unusedVariables false

namespace Sys2Proof.Machine

/-! ### Machine/Headframe -/

/-- What `State.evtctlWrite` keeps. -/
theorem State.evtctlWrite_evolves {A : List Part} {s₀ s : State} (h : Evolves A s₀ s) (k : Nat) (v : Word)
    (hA : covers [.fresh, .head, .reg .HF_DOMSTAT, .reg .EV_EVTCTL] A = true) :
    Evolves A s₀ (s.evtctlWrite k v) := by
  unfold State.evtctlWrite
  with_reducible repeat (first
      | assumption
      | apply State.condWrite_evolves
      | apply State.put_evolves
      | apply State.armSlot_evolves
      | (apply covers_trans _ hA; decide +kernel)
      | intro _ | rfl | dsimp only | split)

/-- What `State.evtangWrite` keeps. -/
theorem State.evtangWrite_evolves {A : List Part} {s₀ s : State} (h : Evolves A s₀ s) (k : Nat) (v : Word)
    (hA : covers [.head, .reg .EV_EVTANG] A = true) :
    Evolves A s₀ (s.evtangWrite k v) := by
  unfold State.evtangWrite
  with_reducible repeat (first
      | assumption
      | apply State.regWrite_evolves
      | apply State.setNext_evolves
      | (apply covers_trans _ hA; decide +kernel)
      | intro _ | rfl | dsimp only | split)

/-- What `State.slotAct` keeps. -/
theorem State.slotAct_evolves {A : List Part} {s₀ s : State} (h : Evolves A s₀ s) (k : Nat) (t : SlotTarget)
    (hA : covers ([Part.pick, .assay, .reg .PK_LATE, .reg .SN_SEQSTAT, .reg .AS_ASTAT, .reg .AS_RES, .reg .AS_WNUM, .reg .SE_CAPSTART] ++
      seamParts ++ onTimerParts) A = true) :
    Evolves A s₀ (s.slotAct k t) := by
  unfold State.slotAct
  with_reducible repeat (first
      | assumption
      | apply State.seqTrigger_evolves
      | apply State.requestCell_evolves
      | apply State.assaySlot_evolves
      | apply State.fire_evolves
      | apply State.raise_evolves
      | (apply covers_trans _ hA; decide +kernel)
      | intro _ | rfl | dsimp only | split)

/-- What `State.slotDeliver` keeps. -/
theorem State.slotDeliver_evolves {A : List Part} {s₀ s : State} (h : Evolves A s₀ s) (d : Nat) (k : Nat) (t : SlotTarget)
    (hA : covers ([Part.pick, .assay, .reg .EV_EVTSTAT, .reg .PK_LATE, .reg .SN_SEQSTAT, .reg .AS_ASTAT, .reg .AS_RES, .reg .AS_WNUM,
      .reg .SE_CAPSTART] ++ seamParts ++ onTimerParts) A = true) :
    Evolves A s₀ (s.slotDeliver d k t) := by
  unfold State.slotDeliver
  with_reducible repeat (first
      | assumption
      | apply State.put_evolves
      | apply State.slotAct_evolves
      | (apply covers_trans _ hA; decide +kernel)
      | intro _ | rfl | dsimp only | split
      | (apply head_evolves; first | assumption | apply State.put_evolves | apply State.slotAct_evolves | intro _ | rfl | dsimp only | split))

/-- What `State.fireSlot` keeps. -/
theorem State.fireSlot_evolves {A : List Part} {s₀ s : State} (h : Evolves A s₀ s) (skipped : Bool) (k : Nat)
    (hA : covers ([Part.pick, .assay, .reg .EV_EVTCTL, .reg .EV_EVTSTAT, .reg .PK_LATE, .reg .SN_SEQSTAT, .reg .AS_ASTAT, .reg .AS_RES,
      .reg .AS_WNUM, .reg .SE_CAPSTART] ++ seamParts ++ onTimerParts) A = true) :
    Evolves A s₀ (s.fireSlot skipped k) := by
  unfold State.fireSlot
  with_reducible repeat (first
      | assumption
      | apply State.bump_evolves
      | apply State.put_evolves
      | apply State.setNext_evolves
      | apply State.each_evolves
      | apply State.slotDeliver_evolves
      | (apply covers_trans _ hA; decide +kernel)
      | intro _ | rfl | dsimp only | split)

/-- What `State.fireSlots` keeps. -/
theorem State.fireSlots_evolves {A : List Part} {s₀ s : State} (h : Evolves A s₀ s) (skipped : Bool) (l : List Nat)
    (hA : covers ([Part.pick, .assay, .reg .EV_EVTCTL, .reg .EV_EVTSTAT, .reg .PK_LATE, .reg .SN_SEQSTAT, .reg .AS_ASTAT, .reg .AS_RES,
      .reg .AS_WNUM, .reg .SE_CAPSTART] ++ seamParts ++ onTimerParts) A = true) :
    Evolves A s₀ (s.fireSlots skipped l) := by
  unfold State.fireSlots
  with_reducible repeat (first
      | assumption
      | apply State.each_evolves
      | apply State.fireSlot_evolves
      | (apply covers_trans _ hA; decide +kernel)
      | intro _ | rfl | dsimp only | split)

/-- What `execSlotFire` keeps. -/
theorem execSlotFire_evolves {A : List Part} {s₀ s : State} (h : Evolves A s₀ s) (k : EvSlot)
    (hA : covers ([Part.pick, .assay, .reg .EV_EVTCTL, .reg .EV_EVTSTAT, .reg .PK_LATE, .reg .SN_SEQSTAT, .reg .AS_ASTAT, .reg .AS_RES,
      .reg .AS_WNUM, .reg .SE_CAPSTART] ++ seamParts ++ onTimerParts) A = true) :
    ∃ u, execSlotFire k s = .next u ∧ Evolves A s₀ u := by
  unfold execSlotFire
  refine ⟨_, rfl, ?_⟩
  with_reducible repeat (first
      | assumption
      | apply State.advance_evolves
      | apply State.fireSlots_evolves
      | (apply covers_trans _ hA; decide +kernel)
      | intro _ | rfl | dsimp only | split)

/-- What `State.releaseWaits` keeps. -/
theorem State.releaseWaits_evolves {A : List Part} {s₀ s : State} (h : Evolves A s₀ s) (filler : Bool)
    (hA : covers [.fresh, .drift, .reg .DR_PLOG] A = true) :
    Evolves A s₀ (s.releaseWaits filler) := by
  unfold State.releaseWaits
  with_reducible repeat (first
      | assumption
      | apply State.each_evolves
      | apply State.updPair_evolves
      | apply State.coreIrq_evolves
      | apply State.endWait_evolves
      | (apply covers_trans _ hA; decide +kernel)
      | intro _ | rfl | dsimp only | split)

/-- What `State.joinsDue` keeps. -/
theorem State.joinsDue_evolves {A : List Part} {s₀ s : State} (h : Evolves A s₀ s) (hA : covers [.drift] A = true) :
    Evolves A s₀ (s.joinsDue) := by
  unfold State.joinsDue
  with_reducible repeat (first
      | assumption
      | apply State.each_evolves
      | apply State.updPair_evolves
      | (apply covers_trans _ hA; decide +kernel)
      | intro _ | rfl | dsimp only | split)

/-- What `State.boundarySteps` keeps. -/
theorem State.boundarySteps_evolves {A : List Part} {s₀ s : State} (h : Evolves A s₀ s) (filler : Bool)
    (hA : covers ([Part.bus, .reg .SP_COMMIT, .reg .SE_MEMSTAT, .reg .SE_MEMERRA] ++ exviaParts ++ seamParts) A = true) :
    Evolves A s₀ (s.boundarySteps filler) := by
  unfold State.boundarySteps
  with_reducible repeat (first
      | assumption
      | apply State.commitPlan_evolves
      | apply State.exviaBoundary_evolves
      | apply State.reloadCredit_evolves
      | apply State.reloadBudgets_evolves
      | apply State.each_evolves
      | apply State.beginCheckpoint_evolves
      | apply State.releaseWaits_evolves
      | apply State.joinsDue_evolves
      | apply State.serveHeld_evolves
      | apply State.releaseCrews_evolves
      | apply State.streamAnew_evolves
      | apply State.updPlan_evolves
      | apply State.stopSpentPair_evolves
      | (apply covers_trans _ hA; decide +kernel)
      | intro _ | rfl | dsimp only | split)

/-- What `State.boundaryAt` keeps. -/
theorem State.boundaryAt_evolves {A : List Part} {s₀ s : State} (h : Evolves A s₀ s) (f : BitVec 38)
    (hA : covers ([Part.bus, .reg .SP_STAT, .reg .SP_COMMIT, .reg .SE_MEMSTAT, .reg .SE_MEMERRA] ++ exviaParts ++ seamParts) A = true) :
    Evolves A s₀ (s.boundaryAt f) := by
  unfold State.boundaryAt
  with_reducible repeat (first
      | assumption
      | apply State.boundarySteps_evolves
      | apply State.updPlan_evolves
      | apply State.put_evolves
      | (apply covers_trans _ hA; decide +kernel)
      | intro _ | rfl | dsimp only | split)

/-- What `State.movePos` keeps. -/
theorem State.movePos_evolves {A : List Part} {s₀ s : State} (h : Evolves A s₀ s) (d : Nat) (y : Int)
    (hA : covers [.fresh, .head, .reg .HF_TURN] A = true) :
    Evolves A s₀ (s.movePos d y) := by
  unfold State.movePos
  with_reducible repeat (first
      | assumption
      | apply State.updDom_evolves
      | apply State.bump_evolves
      | (apply covers_trans _ hA; decide +kernel)
      | intro _ | rfl | dsimp only | split)

/-- What `State.stepBoundary` keeps. -/
theorem State.stepBoundary_evolves {A : List Part} {s₀ s : State} (h : Evolves A s₀ s) (f : BitVec 38) (n : Nat)
    (hA : covers ([Part.bus, .reg .SP_STAT, .reg .SP_CNT, .reg .SP_COMMIT, .reg .SE_MEMSTAT, .reg .SE_MEMERRA] ++ exviaParts ++
      seamParts) A = true) :
    Evolves A s₀ (s.stepBoundary f n) := by
  unfold State.stepBoundary
  with_reducible repeat (first
      | assumption
      | apply State.updPlan_evolves
      | apply State.boundaryAt_evolves
      | apply State.bump_evolves
      | (apply covers_trans _ hA; decide +kernel)
      | intro _ | rfl | dsimp only | split)

/-- What `State.stepFine` keeps. -/
theorem State.stepFine_evolves {A : List Part} {s₀ s : State} (h : Evolves A s₀ s) (d : Nat) (y : Int) (hA : covers stepParts A = true) :
    Evolves A s₀ (s.stepFine d y) := by
  unfold State.stepFine
  with_reducible repeat (first
      | assumption
      | apply State.movePos_evolves
      | apply State.fireSlots_evolves
      | apply State.stepBoundary_evolves
      | (apply covers_trans _ hA; decide +kernel)
      | intro _ | rfl | dsimp only | split)

/-- What `State.stepDomain` keeps. -/
theorem State.stepDomain_evolves {A : List Part} {s₀ s : State} (h : Evolves A s₀ s) (d : Nat) (x : Int) (hA : covers stepParts A = true) :
    Evolves A s₀ (s.stepDomain d x) := by
  unfold State.stepDomain
  with_reducible repeat (first
      | assumption
      | apply State.stepFine_evolves
      | (apply covers_trans _ hA; decide +kernel)
      | intro _ | rfl | dsimp only | split)

/-- What `execCoastTimeout` keeps. -/
theorem execCoastTimeout_evolves {A : List Part} {s₀ s : State} (h : Evolves A s₀ s) (d : Dom) (hA : covers (onTimerParts ++ coastParts) A = true) :
    ∃ u, execCoastTimeout d s = .next u ∧ Evolves A s₀ u := by
  unfold execCoastTimeout
  refine ⟨_, rfl, ?_⟩
  with_reducible repeat (first
      | assumption
      | apply State.onTimer_evolves
      | apply State.setDomState_evolves
      | (apply covers_trans _ hA; decide +kernel)
      | intro _ | rfl | dsimp only | split)

/-- What `execUhlaSourceLoss` keeps. -/
theorem execUhlaSourceLoss_evolves {A : List Part} {s₀ s : State} (h : Evolves A s₀ s) (d : Dom) (hA : covers (onTimerParts ++ coastParts) A = true) :
    ∃ u, execUhlaSourceLoss d s = .next u ∧ Evolves A s₀ u := by
  unfold execUhlaSourceLoss
  refine ⟨_, rfl, ?_⟩
  with_reducible repeat (first
      | assumption
      | apply State.onTimer_evolves
      | apply State.srcLost_evolves
      | (apply covers_trans _ hA; decide +kernel)
      | intro _ | rfl | dsimp only | split)

/-- What `execPickSourceTimeout` keeps. -/
theorem execPickSourceTimeout_evolves {A : List Part} {s₀ s : State} (h : Evolves A s₀ s) (d : Dom)
    (hA : covers (onTimerParts ++ coastParts) A = true) :
    ∃ u, execPickSourceTimeout d s = .next u ∧ Evolves A s₀ u := by
  unfold execPickSourceTimeout
  refine ⟨_, rfl, ?_⟩
  with_reducible repeat (first
      | assumption
      | apply State.onTimer_evolves
      | apply State.srcLost_evolves
      | (apply covers_trans _ hA; decide +kernel)
      | intro _ | rfl | dsimp only | split)

/-- What `State.restartLoss` keeps. -/
theorem State.restartLoss_evolves {A : List Part} {s₀ s : State} (h : Evolves A s₀ s) (d : Nat) (hA : covers [.timers] A = true) :
    Evolves A s₀ (s.restartLoss d) := by
  unfold State.restartLoss
  with_reducible repeat (first
      | assumption
      | apply State.disarm_evolves
      | apply State.arm_evolves
      | (apply covers_trans _ hA; decide +kernel)
      | intro _ | rfl | dsimp only | split)

/-- What `State.validEvent` keeps. -/
theorem State.validEvent_evolves {A : List Part} {s₀ s : State} (h : Evolves A s₀ s) (d : Nat) (live : State → State) (back : State → State) (hlive : ∀ x0, Evolves A s₀ x0 → Evolves A s₀ (live x0)) (hback : ∀ x0, Evolves A s₀ x0 → Evolves A s₀ (back x0))
    (hA : covers coastParts A = true) :
    Evolves A s₀ (s.validEvent d live back) := by
  unfold State.validEvent
  with_reducible repeat (first
      | assumption
      | apply hlive
      | apply hback
      | apply State.setDomState_evolves
      | apply State.restartLoss_evolves
      | (apply covers_trans _ hA; decide +kernel)
      | intro _ | rfl | dsimp only | split)

/-- What `State.applySrc` keeps. -/
theorem State.applySrc_evolves {A : List Part} {s₀ s : State} (h : Evolves A s₀ s) (d : Nat)
    (hA : covers ([Part.reg .HF_INC] ++ coastParts) A = true) :
    Evolves A s₀ (s.applySrc d) := by
  unfold State.applySrc
  with_reducible repeat (first
      | assumption
      | apply State.updDom_evolves
      | apply State.setDomState_evolves
      | apply State.setInc_evolves
      | apply State.coastPick_evolves
      | apply State.restartLoss_evolves
      | (apply covers_trans _ hA; decide +kernel)
      | intro _ | rfl | dsimp only | split)

/-- What `execDomainSrcApply` keeps. -/
theorem execDomainSrcApply_evolves {A : List Part} {s₀ s : State} (h : Evolves A s₀ s) (d : Dom)
    (hA : covers ([Part.reg .HF_INC] ++ coastParts) A = true) :
    ∃ u, execDomainSrcApply d s = .next u ∧ Evolves A s₀ u := by
  unfold execDomainSrcApply
  refine ⟨_, rfl, ?_⟩
  with_reducible repeat (first
      | assumption
      | apply State.applySrc_evolves
      | (apply covers_trans _ hA; decide +kernel)
      | intro _ | rfl | dsimp only | split)

/-- What `State.trkInc` keeps. -/
theorem State.trkInc_evolves {A : List Part} {s₀ s : State} (h : Evolves A s₀ s) (d : Nat) (inc : Option Nat)
    (hA : covers [.fresh, .reg .HF_DOMSTAT, .reg .HF_INC] A = true) :
    Evolves A s₀ (s.trkInc d inc) := by
  unfold State.trkInc
  with_reducible repeat (first
      | assumption
      | apply State.setInc_evolves
      | (apply covers_trans _ hA; decide +kernel)
      | intro _ | rfl | dsimp only | split)

/-- What `State.trkLock` keeps. -/
theorem State.trkLock_evolves {A : List Part} {s₀ s : State} (h : Evolves A s₀ s) (d : Nat) (t : TrkMeas) (hA : covers coastParts A = true) :
    Evolves A s₀ (s.trkLock d t) := by
  unfold State.trkLock
  with_reducible repeat (first
      | assumption
      | apply State.updDom_evolves
      | apply State.setDomState_evolves
      | (apply covers_trans _ hA; decide +kernel)
      | intro _ | rfl | dsimp only | split)

/-- What `State.trkJump` keeps. -/
theorem State.trkJump_evolves {A : List Part} {s₀ s : State} (h : Evolves A s₀ s) (d : Nat) (jump : Option Word)
    (hA : covers ([Part.reg .HF_DOMSTAT, .reg .HF_JUMPANG] ++ stepParts) A = true) :
    Evolves A s₀ (s.trkJump d jump) := by
  unfold State.trkJump
  with_reducible repeat (first
      | assumption
      | apply State.put_evolves
      | apply State.wrw_evolves
      | apply State.stepDomain_evolves
      | (apply covers_trans _ hA; decide +kernel)
      | intro _ | rfl | dsimp only | split)

/-- What `State.coastInc` keeps. -/
theorem State.coastInc_evolves {A : List Part} {s₀ s : State} (h : Evolves A s₀ s) (d : Nat)
    (hA : covers [.fresh, .freeIdx, .reg .HF_DOMSTAT, .reg .HF_INC] A = true) :
    Evolves A s₀ (s.coastInc d) := by
  unfold State.coastInc
  with_reducible repeat (first
      | assumption
      | apply State.setInc_evolves
      | apply State.free_evolves
      | (apply covers_trans _ hA; decide +kernel)
      | intro _ | rfl | dsimp only | split)

/-- What `State.trkReturn` keeps. -/
theorem State.trkReturn_evolves {A : List Part} {s₀ s : State} (h : Evolves A s₀ s) (d : Nat) (ang : Word)
    (hA : covers ([Part.reg .HF_DOMSTAT, .reg .HF_JUMPANG] ++ stepParts) A = true) :
    Evolves A s₀ (s.trkReturn d ang) := by
  unfold State.trkReturn
  with_reducible repeat (first
      | assumption
      | apply State.stepDomain_evolves
      | apply State.put_evolves
      | apply State.wrw_evolves
      | apply State.setDomState_evolves
      | (apply covers_trans _ hA; decide +kernel)
      | intro _ | rfl | dsimp only | split)

/-- What `State.trackerRules` keeps. -/
theorem State.trackerRules_evolves {A : List Part} {s₀ s : State} (h : Evolves A s₀ s) (d : Nat) (t : TrkMeas)
    (hA : covers ([Part.reg .HF_DOMSTAT, .reg .HF_JUMPANG, .reg .HF_INC] ++ stepParts) A = true) :
    Evolves A s₀ (s.trackerRules d t) := by
  unfold State.trackerRules
  with_reducible repeat (first
      | assumption
      | apply State.updDom_evolves
      | apply State.trkJump_evolves
      | apply State.trkLock_evolves
      | apply State.trkInc_evolves
      | apply State.coast_evolves
      | apply State.coastInc_evolves
      | apply State.trkReturn_evolves
      | apply State.setDomState_evolves
      | (apply covers_trans _ hA; decide +kernel)
      | intro _ | rfl | dsimp only | split)

/-- What `State.hfRecord` keeps. -/
theorem State.hfRecord_evolves {A : List Part} {s₀ s : State} (h : Evolves A s₀ s) (d : Dom) (hA : covers seamParts A = true) :
    Evolves A s₀ (s.hfRecord d) := by
  unfold State.hfRecord
  with_reducible repeat (first
      | assumption
      | apply State.record_evolves
      | (apply covers_trans _ hA; decide +kernel)
      | intro _ | rfl | dsimp only | split
      | (apply seam_evolves; first | assumption | apply State.record_evolves | intro _ | rfl | dsimp only | split))

/-- What `State.trkRocof` keeps. -/
theorem State.trkRocof_evolves {A : List Part} {s₀ s : State} (h : Evolves A s₀ s) (d : Nat) (t : TrkMeas)
    (hA : covers [.head, .reg .HF_ROCOF] A = true) :
    Evolves A s₀ (s.trkRocof d t) := by
  unfold State.trkRocof
  with_reducible repeat (first
      | assumption
      | apply State.updDom_evolves
      | apply State.wrw_evolves
      | (apply covers_trans _ hA; decide +kernel)
      | intro _ | rfl | dsimp only | split)

/-- What `execTrackerUpdate` keeps. -/
theorem execTrackerUpdate_evolves {A : List Part} {s₀ s : State} (h : Evolves A s₀ s) (d : Dom) (t : TrkMeas)
    (hA : covers ([Part.sense, .reg .HF_DOMSTAT, .reg .HF_FREQ, .reg .HF_ROCOF, .reg .HF_PMAG, .reg .HF_NMAG, .reg .HF_NANG, .reg .HF_JUMPANG,
      .reg .HF_INC, .reg .SN_SLGAP] ++ stepParts) A = true) :
    ∃ u, execTrackerUpdate d t s = .next u ∧ Evolves A s₀ u := by
  unfold execTrackerUpdate
  refine ⟨_, rfl, ?_⟩
  with_reducible repeat (first
      | assumption
      | apply State.applySrc_evolves
      | apply State.closeBy_evolves
      | apply State.wrw_evolves
      | apply State.trkRocof_evolves
      | apply State.trackerRules_evolves
      | apply State.hfRecord_evolves
      | (apply covers_trans _ hA; decide +kernel)
      | intro _ | rfl | dsimp only | split)

/-- What `execAngleWrap` keeps. -/
theorem execAngleWrap_evolves {A : List Part} {s₀ s : State} (h : Evolves A s₀ s) (d : Dom)
    (hA : covers [.fresh, .now, .head, .plan, .drift, .reg .HF_TURN, .reg .SP_REMAIN0] A = true) :
    ∃ u, execAngleWrap d s = .next u ∧ Evolves A s₀ u := by
  unfold execAngleWrap
  refine ⟨_, rfl, ?_⟩
  with_reducible repeat (first
      | assumption
      | apply State.advance_evolves
      | (apply covers_trans _ hA; decide +kernel)
      | intro _ | rfl | dsimp only | split)

/-- What `State.domainWrite` keeps. -/
theorem State.domainWrite_evolves {A : List Part} {s₀ s : State} (h : Evolves A s₀ s) (d : Nat) (r : RegId) (v : Word) (hf : covers [.reg r] A = true)
    (hA : covers coastParts A = true) :
    Evolves A s₀ (s.domainWrite d r v) := by
  unfold State.domainWrite
  with_reducible repeat (first
      | assumption
      | apply State.coastPick_evolves
      | apply State.regWrite_evolves
      | (apply covers_trans _ hA; decide +kernel)
      | intro _ | rfl | dsimp only | split)

/-! ### Machine/Frames -/

/-- What `State.toBoundary` keeps. -/
theorem State.toBoundary_evolves {A : List Part} {s₀ s : State} (h : Evolves A s₀ s) (pos : BitVec 80) (inc : Nat) (f : BitVec 38)
    (hA : covers [.fresh, .now, .head, .plan, .drift, .reg .HF_TURN, .reg .SP_REMAIN0] A = true) :
    Evolves A s₀ (s.toBoundary pos inc f) := by
  unfold State.toBoundary
  with_reducible repeat (first
      | assumption
      | apply State.advance_evolves
      | (apply covers_trans _ hA; decide +kernel)
      | intro _ | rfl | dsimp only | split)

/-- What `State.frameBoundary` keeps. -/
theorem State.frameBoundary_evolves {A : List Part} {s₀ s : State} (h : Evolves A s₀ s)
    (hA : covers ([Part.bus, .reg .SP_STAT, .reg .SP_CNT, .reg .SP_COMMIT, .reg .SE_MEMSTAT, .reg .SE_MEMERRA] ++ exviaParts ++ seamParts ++
      onTimerParts) A = true) :
    Evolves A s₀ (s.frameBoundary) := by
  unfold State.frameBoundary
  with_reducible repeat (first
      | assumption
      | apply State.toBoundary_evolves
      | apply State.updPlan_evolves
      | apply State.boundaryAt_evolves
      | apply State.bump_evolves
      | (apply covers_trans _ hA; decide +kernel)
      | intro _ | rfl | dsimp only | split)

/-- What `execFrameBoundary` keeps. -/
theorem execFrameBoundary_evolves {A : List Part} {s₀ s : State} (h : Evolves A s₀ s)
    (hA : covers ([Part.bus, .reg .SP_STAT, .reg .SP_CNT, .reg .SP_COMMIT, .reg .SE_MEMSTAT, .reg .SE_MEMERRA] ++ exviaParts ++ seamParts ++
      onTimerParts) A = true) :
    ∃ u, execFrameBoundary s = .next u ∧ Evolves A s₀ u := by
  unfold execFrameBoundary
  refine ⟨_, rfl, ?_⟩
  with_reducible repeat (first
      | assumption
      | apply State.frameBoundary_evolves
      | (apply covers_trans _ hA; decide +kernel)
      | intro _ | rfl | dsimp only | split)

/-- What `execFrameSourceSwitch` keeps. -/
theorem execFrameSourceSwitch_evolves {A : List Part} {s₀ s : State} (h : Evolves A s₀ s)
    (hA : covers ([Part.bus, .reg .SP_STAT, .reg .SP_CNT, .reg .SP_COMMIT, .reg .SE_MEMSTAT, .reg .SE_MEMERRA] ++ exviaParts ++ seamParts ++
      onTimerParts) A = true) :
    ∃ u, execFrameSourceSwitch s = .next u ∧ Evolves A s₀ u := by
  unfold execFrameSourceSwitch
  refine ⟨_, rfl, ?_⟩
  with_reducible repeat (first
      | assumption
      | apply State.toBoundary_evolves
      | apply State.boundaryAt_evolves
      | apply State.updPlan_evolves
      | apply State.bump_evolves
      | apply State.put_evolves
      | (apply covers_trans _ hA; decide +kernel)
      | intro _ | rfl | dsimp only | split)

/-- What `execFillerBoundary` keeps. -/
theorem execFillerBoundary_evolves {A : List Part} {s₀ s : State} (h : Evolves A s₀ s)
    (hA : covers ([Part.bus, .reg .SP_CNT, .reg .SP_COMMIT, .reg .SE_MEMSTAT, .reg .SE_MEMERRA] ++ exviaParts ++ seamParts ++
      onTimerParts) A = true) :
    ∃ u, execFillerBoundary s = .next u ∧ Evolves A s₀ u := by
  unfold execFillerBoundary
  refine ⟨_, rfl, ?_⟩
  with_reducible repeat (first
      | assumption
      | apply State.advanceTo_evolves
      | apply State.boundarySteps_evolves
      | apply State.updPlan_evolves
      | apply State.bump_evolves
      | (apply covers_trans _ hA; decide +kernel)
      | intro _ | rfl | dsimp only | split)

/-- What `State.toNextBoundary` keeps. -/
theorem State.toNextBoundary_evolves {A : List Part} {s₀ s : State} (h : Evolves A s₀ s)
    (hA : covers [.fresh, .now, .head, .plan, .drift, .reg .HF_TURN, .reg .SP_REMAIN0] A = true) :
    Evolves A s₀ (s.toNextBoundary) := by
  unfold State.toNextBoundary
  with_reducible repeat (first
      | assumption
      | apply State.advanceTo_evolves
      | (apply covers_trans _ hA; decide +kernel)
      | intro _ | rfl | dsimp only | split)

/-- What `State.applyClass` keeps. -/
theorem State.applyClass_evolves {A : List Part} {s₀ s : State} (h : Evolves A s₀ s) (cls : Nat) (hA : covers (exviaParts ++ onTimerParts) A = true) :
    Evolves A s₀ (s.applyClass cls) := by
  unfold State.applyClass
  split
  · split
    · exact State.applyEnvelope_evolves (dropAccepted_evolves (State.toNextBoundary_evolves h (covers_trans (by decide +kernel) hA)) _
        (covers_trans (by decide +kernel) hA)) _ _ (covers_trans (by decide +kernel) hA)
    · exact h
  · exact h

/-- What `execReadItem` keeps. -/
theorem execReadItem_evolves {A : List Part} {s₀ s : State} (h : Evolves A s₀ s) (hA : covers (exviaParts ++ onTimerParts) A = true) :
    ∃ u, execReadItem s = .next u ∧ Evolves A s₀ u := by
  unfold execReadItem
  refine ⟨_, rfl, ?_⟩
  with_reducible repeat (first
      | assumption
      | apply State.applyClass_evolves
      | (apply covers_trans _ hA; decide +kernel)
      | intro _ | rfl | dsimp only | split)

/-- What `execSetEntries` keeps. -/
theorem execSetEntries_evolves {A : List Part} {s₀ s : State} (h : Evolves A s₀ s) (hA : covers (exviaParts ++ onTimerParts) A = true) :
    ∃ u, execSetEntries s = .next u ∧ Evolves A s₀ u := by
  unfold execSetEntries
  refine ⟨_, rfl, ?_⟩
  with_reducible repeat (first
      | assumption
      | apply State.applyClass_evolves
      | (apply covers_trans _ hA; decide +kernel)
      | intro _ | rfl | dsimp only | split)

/-- What `execLimits` keeps. -/
theorem execLimits_evolves {A : List Part} {s₀ s : State} (h : Evolves A s₀ s) (hA : covers (exviaParts ++ onTimerParts) A = true) :
    ∃ u, execLimits s = .next u ∧ Evolves A s₀ u := by
  unfold execLimits
  refine ⟨_, rfl, ?_⟩
  with_reducible repeat (first
      | assumption
      | apply State.applyClass_evolves
      | (apply covers_trans _ hA; decide +kernel)
      | intro _ | rfl | dsimp only | split)

/-- What `execIslSchedule` keeps. -/
theorem execIslSchedule_evolves {A : List Part} {s₀ s : State} (h : Evolves A s₀ s) (hA : covers (exviaParts ++ onTimerParts) A = true) :
    ∃ u, execIslSchedule s = .next u ∧ Evolves A s₀ u := by
  unfold execIslSchedule
  refine ⟨_, rfl, ?_⟩
  with_reducible repeat (first
      | assumption
      | apply State.applyClass_evolves
      | (apply covers_trans _ hA; decide +kernel)
      | intro _ | rfl | dsimp only | split)

/-- What `execAssaySet` keeps. -/
theorem execAssaySet_evolves {A : List Part} {s₀ s : State} (h : Evolves A s₀ s) (hA : covers (exviaParts ++ onTimerParts) A = true) :
    ∃ u, execAssaySet s = .next u ∧ Evolves A s₀ u := by
  unfold execAssaySet
  refine ⟨_, rfl, ?_⟩
  with_reducible repeat (first
      | assumption
      | apply State.applyClass_evolves
      | (apply covers_trans _ hA; decide +kernel)
      | intro _ | rfl | dsimp only | split)

/-- What `execAssayAck` keeps. -/
theorem execAssayAck_evolves {A : List Part} {s₀ s : State} (h : Evolves A s₀ s) (hA : covers (exviaParts ++ onTimerParts) A = true) :
    ∃ u, execAssayAck s = .next u ∧ Evolves A s₀ u := by
  unfold execAssayAck
  refine ⟨_, rfl, ?_⟩
  with_reducible repeat (first
      | assumption
      | apply State.applyClass_evolves
      | (apply covers_trans _ hA; decide +kernel)
      | intro _ | rfl | dsimp only | split)

/-- What `execCounterClear` keeps. -/
theorem execCounterClear_evolves {A : List Part} {s₀ s : State} (h : Evolves A s₀ s) (hA : covers (exviaParts ++ onTimerParts) A = true) :
    ∃ u, execCounterClear s = .next u ∧ Evolves A s₀ u := by
  unfold execCounterClear
  refine ⟨_, rfl, ?_⟩
  with_reducible repeat (first
      | assumption
      | apply State.applyClass_evolves
      | (apply covers_trans _ hA; decide +kernel)
      | intro _ | rfl | dsimp only | split)

/-- What `execCertRevoke` keeps. -/
theorem execCertRevoke_evolves {A : List Part} {s₀ s : State} (h : Evolves A s₀ s) (hA : covers (exviaParts ++ onTimerParts) A = true) :
    ∃ u, execCertRevoke s = .next u ∧ Evolves A s₀ u := by
  unfold execCertRevoke
  refine ⟨_, rfl, ?_⟩
  with_reducible repeat (first
      | assumption
      | apply State.applyClass_evolves
      | (apply covers_trans _ hA; decide +kernel)
      | intro _ | rfl | dsimp only | split)

/-- What `execGroupSet` keeps. -/
theorem execGroupSet_evolves {A : List Part} {s₀ s : State} (h : Evolves A s₀ s) (hA : covers (exviaParts ++ onTimerParts) A = true) :
    ∃ u, execGroupSet s = .next u ∧ Evolves A s₀ u := by
  unfold execGroupSet
  refine ⟨_, rfl, ?_⟩
  with_reducible repeat (first
      | assumption
      | apply State.applyClass_evolves
      | (apply covers_trans _ hA; decide +kernel)
      | intro _ | rfl | dsimp only | split)

/-- What `execEnrol` keeps. -/
theorem execEnrol_evolves {A : List Part} {s₀ s : State} (h : Evolves A s₀ s) (hA : covers (exviaParts ++ onTimerParts) A = true) :
    ∃ u, execEnrol s = .next u ∧ Evolves A s₀ u := by
  unfold execEnrol
  refine ⟨_, rfl, ?_⟩
  with_reducible repeat (first
      | assumption
      | apply State.applyClass_evolves
      | (apply covers_trans _ hA; decide +kernel)
      | intro _ | rfl | dsimp only | split)

/-- What `execRevoke` keeps. -/
theorem execRevoke_evolves {A : List Part} {s₀ s : State} (h : Evolves A s₀ s) (hA : covers (exviaParts ++ onTimerParts) A = true) :
    ∃ u, execRevoke s = .next u ∧ Evolves A s₀ u := by
  unfold execRevoke
  refine ⟨_, rfl, ?_⟩
  with_reducible repeat (first
      | assumption
      | apply State.applyClass_evolves
      | (apply covers_trans _ hA; decide +kernel)
      | intro _ | rfl | dsimp only | split)

/-- What `execGenerate` keeps. -/
theorem execGenerate_evolves {A : List Part} {s₀ s : State} (h : Evolves A s₀ s) (hA : covers (exviaParts ++ onTimerParts) A = true) :
    ∃ u, execGenerate s = .next u ∧ Evolves A s₀ u := by
  unfold execGenerate
  refine ⟨_, rfl, ?_⟩
  with_reducible repeat (first
      | assumption
      | apply State.applyClass_evolves
      | (apply covers_trans _ hA; decide +kernel)
      | intro _ | rfl | dsimp only | split)

/-- What `execImportKey` keeps. -/
theorem execImportKey_evolves {A : List Part} {s₀ s : State} (h : Evolves A s₀ s) (hA : covers (exviaParts ++ onTimerParts) A = true) :
    ∃ u, execImportKey s = .next u ∧ Evolves A s₀ u := by
  unfold execImportKey
  refine ⟨_, rfl, ?_⟩
  with_reducible repeat (first
      | assumption
      | apply State.applyClass_evolves
      | (apply covers_trans _ hA; decide +kernel)
      | intro _ | rfl | dsimp only | split)

/-- What `execSealAck` keeps. -/
theorem execSealAck_evolves {A : List Part} {s₀ s : State} (h : Evolves A s₀ s) (hA : covers (exviaParts ++ onTimerParts) A = true) :
    ∃ u, execSealAck s = .next u ∧ Evolves A s₀ u := by
  unfold execSealAck
  refine ⟨_, rfl, ?_⟩
  with_reducible repeat (first
      | assumption
      | apply State.applyClass_evolves
      | (apply covers_trans _ hA; decide +kernel)
      | intro _ | rfl | dsimp only | split)

/-- What `execTamperAck` keeps. -/
theorem execTamperAck_evolves {A : List Part} {s₀ s : State} (h : Evolves A s₀ s) (hA : covers (exviaParts ++ onTimerParts) A = true) :
    ∃ u, execTamperAck s = .next u ∧ Evolves A s₀ u := by
  unfold execTamperAck
  refine ⟨_, rfl, ?_⟩
  with_reducible repeat (first
      | assumption
      | apply State.applyClass_evolves
      | (apply covers_trans _ hA; decide +kernel)
      | intro _ | rfl | dsimp only | split)

/-- What `execAditOpen` keeps. -/
theorem execAditOpen_evolves {A : List Part} {s₀ s : State} (h : Evolves A s₀ s) (hA : covers (exviaParts ++ onTimerParts) A = true) :
    ∃ u, execAditOpen s = .next u ∧ Evolves A s₀ u := by
  unfold execAditOpen
  refine ⟨_, rfl, ?_⟩
  with_reducible repeat (first
      | assumption
      | apply State.applyClass_evolves
      | (apply covers_trans _ hA; decide +kernel)
      | intro _ | rfl | dsimp only | split)

/-- What `execAditClose` keeps. -/
theorem execAditClose_evolves {A : List Part} {s₀ s : State} (h : Evolves A s₀ s) (hA : covers (exviaParts ++ onTimerParts) A = true) :
    ∃ u, execAditClose s = .next u ∧ Evolves A s₀ u := by
  unfold execAditClose
  refine ⟨_, rfl, ?_⟩
  with_reducible repeat (first
      | assumption
      | apply State.applyClass_evolves
      | (apply covers_trans _ hA; decide +kernel)
      | intro _ | rfl | dsimp only | split)

/-- What `execImage` keeps. -/
theorem execImage_evolves {A : List Part} {s₀ s : State} (h : Evolves A s₀ s) (hA : covers (exviaParts ++ onTimerParts) A = true) :
    ∃ u, execImage s = .next u ∧ Evolves A s₀ u := by
  unfold execImage
  refine ⟨_, rfl, ?_⟩
  with_reducible repeat (first
      | assumption
      | apply State.applyClass_evolves
      | (apply covers_trans _ hA; decide +kernel)
      | intro _ | rfl | dsimp only | split)

/-- What `execActivate` keeps. -/
theorem execActivate_evolves {A : List Part} {s₀ s : State} (h : Evolves A s₀ s) (hA : covers (exviaParts ++ onTimerParts) A = true) :
    ∃ u, execActivate s = .next u ∧ Evolves A s₀ u := by
  unfold execActivate
  refine ⟨_, rfl, ?_⟩
  with_reducible repeat (first
      | assumption
      | apply State.applyClass_evolves
      | (apply covers_trans _ hA; decide +kernel)
      | intro _ | rfl | dsimp only | split)

/-- What `execLcAdvance` keeps. -/
theorem execLcAdvance_evolves {A : List Part} {s₀ s : State} (h : Evolves A s₀ s) (hA : covers (exviaParts ++ onTimerParts) A = true) :
    ∃ u, execLcAdvance s = .next u ∧ Evolves A s₀ u := by
  unfold execLcAdvance
  refine ⟨_, rfl, ?_⟩
  with_reducible repeat (first
      | assumption
      | apply State.applyClass_evolves
      | (apply covers_trans _ hA; decide +kernel)
      | intro _ | rfl | dsimp only | split)

/-- What `execExportRecords` keeps. -/
theorem execExportRecords_evolves {A : List Part} {s₀ s : State} (h : Evolves A s₀ s) (hA : covers (exviaParts ++ onTimerParts) A = true) :
    ∃ u, execExportRecords s = .next u ∧ Evolves A s₀ u := by
  unfold execExportRecords
  refine ⟨_, rfl, ?_⟩
  with_reducible repeat (first
      | assumption
      | apply State.applyClass_evolves
      | (apply covers_trans _ hA; decide +kernel)
      | intro _ | rfl | dsimp only | split)

/-! ### Machine/Uhla -/

/-- What `State.uhlaDenied` keeps. -/
theorem State.uhlaDenied_evolves {A : List Part} {s₀ s : State} (h : Evolves A s₀ s) (hA : covers [.fresh, .reg .UH_USTAT] A = true) :
    Evolves A s₀ (s.uhlaDenied) := by
  unfold State.uhlaDenied
  with_reducible repeat (first
      | assumption
      | apply State.put_evolves
      | (apply covers_trans _ hA; decide +kernel)
      | intro _ | rfl | dsimp only | split)

/-- What `State.uhlaWrite` keeps. -/
theorem State.uhlaWrite_evolves {A : List Part} {s₀ s : State} (h : Evolves A s₀ s) (m : Master) (f : State → State) (hf : ∀ x0, Evolves A s₀ x0 → Evolves A s₀ (f x0))
    (hA : covers [.fresh, .reg .UH_USTAT] A = true) :
    Evolves A s₀ (s.uhlaWrite m f) := by
  unfold State.uhlaWrite
  with_reducible repeat (first
      | assumption
      | apply hf
      | apply State.uhlaDenied_evolves
      | (apply covers_trans _ hA; decide +kernel)
      | intro _ | rfl | dsimp only | split)

/-- What `execPortUp` keeps. -/
theorem execPortUp_evolves {A : List Part} {s₀ s : State} (h : Evolves A s₀ s) (p : Fin 2)
    (hA : covers ([Part.uhla, .reg .UH_USTAT, .reg .UH_UPORT] ++ raiseParts ++ onTimerParts) A = true) :
    ∃ u, execPortUp p s = .next u ∧ Evolves A s₀ u := by
  unfold execPortUp
  refine ⟨_, rfl, ?_⟩
  with_reducible repeat (first
      | assumption
      | apply State.advanceTo_evolves
      | apply State.updUhla_evolves
      | apply State.setPort_evolves
      | (apply covers_trans _ hA; decide +kernel)
      | intro _ | rfl | dsimp only | split)

/-- What `execPortDown` keeps. -/
theorem execPortDown_evolves {A : List Part} {s₀ s : State} (h : Evolves A s₀ s) (p : Fin 2) (gid : Bool)
    (hA : covers ([Part.uhla, .reg .UH_USTAT, .reg .UH_UPORT] ++ raiseParts) A = true) :
    ∃ u, execPortDown p gid s = .next u ∧ Evolves A s₀ u := by
  unfold execPortDown
  refine ⟨_, rfl, ?_⟩
  with_reducible repeat (first
      | assumption
      | apply State.setPort_evolves
      | apply State.updUhla_evolves
      | apply State.put_evolves
      | (apply covers_trans _ hA; decide +kernel)
      | intro _ | rfl | dsimp only | split)

/-- What `execPortRetrain` keeps. -/
theorem execPortRetrain_evolves {A : List Part} {s₀ s : State} (h : Evolves A s₀ s) (p : Fin 2)
    (hA : covers ([Part.uhla, .reg .UH_USTAT, .reg .UH_UPORT] ++ raiseParts ++ onTimerParts) A = true) :
    ∃ u, execPortRetrain p s = .next u ∧ Evolves A s₀ u := by
  unfold execPortRetrain
  refine ⟨_, rfl, ?_⟩
  with_reducible repeat (first
      | assumption
      | apply State.setPort_evolves
      | apply State.advanceTo_evolves
      | (apply covers_trans _ hA; decide +kernel)
      | intro _ | rfl | dsimp only | split)

/-- What `execLinkDelayMeasure` keeps. -/
theorem execLinkDelayMeasure_evolves {A : List Part} {s₀ s : State} (h : Evolves A s₀ s) (p : Fin 2) (d : BitVec 24)
    (hA : covers [.fresh, .reg .UH_UPORT] A = true) :
    ∃ u, execLinkDelayMeasure p d s = .next u ∧ Evolves A s₀ u := by
  unfold execLinkDelayMeasure
  refine ⟨_, rfl, ?_⟩
  with_reducible repeat (first
      | assumption
      | apply State.put_evolves
      | (apply covers_trans _ hA; decide +kernel)
      | intro _ | rfl | dsimp only | split)

/-- What `State.uctlWrite` keeps. -/
theorem State.uctlWrite_evolves {A : List Part} {s₀ s : State} (h : Evolves A s₀ s) (v : Word)
    (hA : covers ([Part.uhla, .reg .UH_UCTL, .reg .UH_USTAT, .reg .UH_UPORT] ++ raiseParts) A = true) :
    Evolves A s₀ (s.uctlWrite v) := by
  unfold State.uctlWrite
  with_reducible repeat (first
      | assumption
      | apply State.condWrite_evolves
      | apply State.uhlaDenied_evolves
      | apply State.updUhla_evolves
      | apply State.setPort_evolves
      | apply State.put_evolves
      | apply State.each_evolves
      | apply State.restartLoss_evolves
      | (apply covers_trans _ hA; decide +kernel)
      | intro _ | rfl | dsimp only | split)

/-- What `State.ugidWrite` keeps. -/
theorem State.ugidWrite_evolves {A : List Part} {s₀ s : State} (h : Evolves A s₀ s) (v : Word)
    (hA : covers [.fresh, .reg .UH_UGID, .reg .UH_USTAT] A = true) :
    Evolves A s₀ (s.ugidWrite v) := by
  unfold State.ugidWrite
  with_reducible repeat (first
      | assumption
      | apply State.condWrite_evolves
      | apply State.uhlaDenied_evolves
      | (apply covers_trans _ hA; decide +kernel)
      | intro _ | rfl | dsimp only | split)

/-- What `State.publish` keeps. -/
theorem State.publish_evolves {A : List Part} {s₀ s : State} (h : Evolves A s₀ s) (v : Nat) (w : Word) (hA : covers [.uhla] A = true) :
    Evolves A s₀ (s.publish v w) := by
  unfold State.publish
  with_reducible repeat (first
      | assumption
      | apply State.updUhla_evolves
      | (apply covers_trans _ hA; decide +kernel)
      | intro _ | rfl | dsimp only | split)

/-- What `State.uhxPublish` keeps. -/
theorem State.uhxPublish_evolves {A : List Part} {s₀ s : State} (h : Evolves A s₀ s) (c : Nat) (v : Nat) (w : Word)
    (hA : covers [.fresh, .uhla, .reg .PK_ARBCTL] A = true) :
    Evolves A s₀ (s.uhxPublish c v w) := by
  unfold State.uhxPublish
  with_reducible repeat (first
      | assumption
      | apply State.publish_evolves
      | apply State.put_evolves
      | (apply covers_trans _ hA; decide +kernel)
      | intro _ | rfl | dsimp only | split)

/-- What `State.usvputWrite` keeps. -/
theorem State.usvputWrite_evolves {A : List Part} {s₀ s : State} (h : Evolves A s₀ s) (m : Master) (v : Nat) (w : Word)
    (hA : covers [.fresh, .uhla, .reg .UH_USTAT] A = true) :
    Evolves A s₀ (s.usvputWrite m v w) := by
  unfold State.usvputWrite
  with_reducible repeat (first
      | assumption
      | apply State.publish_evolves
      | apply State.uhlaDenied_evolves
      | (apply covers_trans _ hA; decide +kernel)
      | intro _ | rfl | dsimp only | split)

/-- What `State.usvcfgWrite` keeps. -/
theorem State.usvcfgWrite_evolves {A : List Part} {s₀ s : State} (h : Evolves A s₀ s) (v : Nat) (w : Word)
    (hA : covers [.fresh, .reg .UH_USTAT, .reg .UH_USVCFG] A = true) :
    Evolves A s₀ (s.usvcfgWrite v w) := by
  unfold State.usvcfgWrite
  with_reducible repeat (first
      | assumption
      | apply State.uhlaDenied_evolves
      | apply State.regWrite_evolves
      | (apply covers_trans _ hA; decide +kernel)
      | intro _ | rfl | dsimp only | split)

/-- What `execTripRepeat` keeps. -/
theorem execTripRepeat_evolves {A : List Part} {s₀ s : State} (h : Evolves A s₀ s)
    (hA : covers ([Part.uhla, .reg .UH_USTAT] ++ raiseParts ++ onTimerParts) A = true) :
    ∃ u, execTripRepeat s = .next u ∧ Evolves A s₀ u := by
  unfold execTripRepeat
  refine ⟨_, rfl, ?_⟩
  with_reducible repeat (first
      | assumption
      | apply State.onTimer_evolves
      | apply State.updUhla_evolves
      | apply State.setRing_evolves
      | apply State.arm_evolves
      | (apply covers_trans _ hA; decide +kernel)
      | intro _ | rfl | dsimp only | split)

/-- What `State.utripgoWrite` keeps. -/
theorem State.utripgoWrite_evolves {A : List Part} {s₀ s : State} (h : Evolves A s₀ s) (v : Word)
    (hA : covers ([Part.uhla, .reg .UH_UTRIPGO] ++ raiseParts) A = true) :
    Evolves A s₀ (s.utripgoWrite v) := by
  unfold State.utripgoWrite
  with_reducible repeat (first
      | assumption
      | apply State.regWrite_evolves
      | apply State.tripSend_evolves
      | (apply covers_trans _ hA; decide +kernel)
      | intro _ | rfl | dsimp only | split)

/-- What `State.tripReturned` keeps. -/
theorem State.tripReturned_evolves {A : List Part} {s₀ s : State} (h : Evolves A s₀ s)
    (hA : covers ([Part.freeIdx, .uhla, .reg .UH_USTAT, .reg .UH_RINGLAT] ++ raiseParts) A = true) :
    Evolves A s₀ (s.tripReturned) := by
  unfold State.tripReturned
  with_reducible repeat (first
      | assumption
      | apply State.putFit_evolves
      | apply State.updUhla_evolves
      | apply State.setRing_evolves
      | (apply covers_trans _ hA; decide +kernel)
      | intro _ | rfl | dsimp only | split)

/-- What `State.actTrip` keeps. -/
theorem State.actTrip_evolves {A : List Part} {s₀ s : State} (h : Evolves A s₀ s) (mask : Nat)
    (hA : covers ([Part.reg .UH_UTRIP] ++ raiseParts ++ gateParts) A = true) :
    Evolves A s₀ (s.actTrip mask) := by
  unfold State.actTrip
  with_reducible repeat (first
      | assumption
      | apply State.raise_evolves
      | apply State.each_evolves
      | apply State.orPut_evolves
      | apply State.regateBlock_evolves
      | (apply covers_trans _ hA; decide +kernel)
      | intro _ | rfl | dsimp only | split)

/-- What `State.noteTrip` keeps. -/
theorem State.noteTrip_evolves {A : List Part} {s₀ s : State} (h : Evolves A s₀ s) (mask : BitVec 8) (hA : covers [.uhla] A = true) :
    Evolves A s₀ (s.noteTrip mask) := by
  unfold State.noteTrip
  with_reducible repeat (first
      | assumption
      | apply State.updUhla_evolves
      | (apply covers_trans _ hA; decide +kernel)
      | intro _ | rfl | dsimp only | split)

/-- What `execTripBlockReceive` keeps. -/
theorem execTripBlockReceive_evolves {A : List Part} {s₀ s : State} (h : Evolves A s₀ s) (p : Fin 2) (origin : Fin 16) (tseq : Fin 16) (mask : BitVec 8) (gid : BitVec 8) (crcOk : Bool)
    (hA : covers ([Part.freeIdx, .uhla, .reg .UH_USTAT, .reg .UH_UTRIP, .reg .UH_RINGLAT, .reg .UH_UERR] ++ raiseParts ++ gateParts) A = true) :
    ∃ u, execTripBlockReceive p origin tseq mask gid crcOk s = .next u ∧ Evolves A s₀ u := by
  unfold execTripBlockReceive
  refine ⟨_, rfl, ?_⟩
  with_reducible repeat (first
      | assumption
      | apply State.raise_evolves
      | apply State.bumpSat_evolves
      | apply State.tripReturned_evolves
      | apply State.noteTrip_evolves
      | apply State.actTrip_evolves
      | apply State.updUhla_evolves
      | (apply covers_trans _ hA; decide +kernel)
      | intro _ | rfl | dsimp only | split)

/-- What `State.utripWrite` keeps. -/
theorem State.utripWrite_evolves {A : List Part} {s₀ s : State} (h : Evolves A s₀ s) (v : Word)
    (hA : covers ([Part.reg .UH_USTAT, .reg .UH_UTRIP] ++ gateParts) A = true) :
    Evolves A s₀ (s.utripWrite v) := by
  unfold State.utripWrite
  with_reducible repeat (first
      | assumption
      | apply State.wrw_evolves
      | apply State.each_evolves
      | apply State.regateBlock_evolves
      | apply State.put_evolves
      | (apply covers_trans _ hA; decide +kernel)
      | intro _ | rfl | dsimp only | split)

/-! ### Machine/Superframe -/

/-- What `State.profileStart` keeps. -/
theorem State.profileStart_evolves {A : List Part} {s₀ s : State} (h : Evolves A s₀ s)
    (hA : covers [.fresh, .timers, .uhla, .winder, .reg .PW_GSTAT, .reg .WI_SSTAT, .reg .WI_RSTAT] A = true) :
    Evolves A s₀ (s.profileStart) := by
  unfold State.profileStart
  with_reducible repeat (first
      | assumption
      | apply State.updUhla_evolves
      | apply State.winderRun_evolves
      | (apply covers_trans _ hA; decide +kernel)
      | intro _ | rfl | dsimp only | split)

/-- What `State.becomeMaster` keeps. -/
theorem State.becomeMaster_evolves {A : List Part} {s₀ s : State} (h : Evolves A s₀ s)
    (hA : covers ([Part.head, .uhla, .reg .UH_USTAT, .reg .UH_UERR] ++ raiseParts) A = true) :
    Evolves A s₀ (s.becomeMaster) := by
  unfold State.becomeMaster
  with_reducible repeat (first
      | assumption
      | apply State.raise_evolves
      | apply State.bump_evolves
      | apply State.put_evolves
      | apply State.updUhla_evolves
      | apply State.each_evolves
      | apply State.updDom_evolves
      | (apply covers_trans _ hA; decide +kernel)
      | intro _ | rfl | dsimp only | split)

/-- What `State.stepDown` keeps. -/
theorem State.stepDown_evolves {A : List Part} {s₀ s : State} (h : Evolves A s₀ s) (hA : covers [.fresh, .timers, .uhla, .reg .UH_USTAT] A = true) :
    Evolves A s₀ (s.stepDown) := by
  unfold State.stepDown
  with_reducible repeat (first
      | assumption
      | apply State.updUhla_evolves
      | apply State.put_evolves
      | apply State.each_evolves
      | apply State.restartLoss_evolves
      | (apply covers_trans _ hA; decide +kernel)
      | intro _ | rfl | dsimp only | split)

/-- What `State.sendFrame` keeps. -/
theorem State.sendFrame_evolves {A : List Part} {s₀ s : State} (h : Evolves A s₀ s)
    (hA : covers [.fresh, .timers, .uhla, .winder, .reg .PW_GSTAT, .reg .WI_SSTAT, .reg .WI_RSTAT] A = true) :
    Evolves A s₀ (s.sendFrame) := by
  unfold State.sendFrame
  with_reducible repeat (first
      | assumption
      | apply State.updUhla_evolves
      | apply State.profileStart_evolves
      | (apply covers_trans _ hA; decide +kernel)
      | intro _ | rfl | dsimp only | split)

/-- What `execSuperframeOriginate` keeps. -/
theorem execSuperframeOriginate_evolves {A : List Part} {s₀ s : State} (h : Evolves A s₀ s)
    (hA : covers ([Part.uhla, .winder, .reg .PW_GSTAT, .reg .WI_SSTAT, .reg .WI_RSTAT, .reg .UH_USTAT, .reg .UH_UERR] ++ raiseParts ++
      onTimerParts) A = true) :
    ∃ u, execSuperframeOriginate s = .next u ∧ Evolves A s₀ u := by
  unfold execSuperframeOriginate
  refine ⟨_, rfl, ?_⟩
  with_reducible repeat (first
      | assumption
      | apply State.advanceTo_evolves
      | apply State.sendFrame_evolves
      | apply State.becomeMaster_evolves
      | apply State.stepDown_evolves
      | apply State.updUhla_evolves
      | (apply covers_trans _ hA; decide +kernel)
      | intro _ | rfl | dsimp only | split)

/-- What `execMasterLoss` keeps. -/
theorem execMasterLoss_evolves {A : List Part} {s₀ s : State} (h : Evolves A s₀ s)
    (hA : covers [.fresh, .now, .head, .plan, .drift, .uhla, .reg .HF_TURN, .reg .SP_REMAIN0, .reg .UH_USTAT] A = true) :
    ∃ u, execMasterLoss s = .next u ∧ Evolves A s₀ u := by
  unfold execMasterLoss
  refine ⟨_, rfl, ?_⟩
  with_reducible repeat (first
      | assumption
      | apply State.advanceTo_evolves
      | apply State.put_evolves
      | apply State.updUhla_evolves
      | (apply covers_trans _ hA; decide +kernel)
      | intro _ | rfl | dsimp only | split)

/-- What `execReqm` keeps. -/
theorem execReqm_evolves {A : List Part} {s₀ s : State} (h : Evolves A s₀ s)
    (hA : covers [.fresh, .now, .head, .plan, .drift, .uhla, .reg .HF_TURN, .reg .SP_REMAIN0] A = true) :
    ∃ u, execReqm s = .next u ∧ Evolves A s₀ u := by
  unfold execReqm
  refine ⟨_, rfl, ?_⟩
  with_reducible repeat (first
      | assumption
      | apply State.updUhla_evolves
      | apply State.advanceTo_evolves
      | (apply covers_trans _ hA; decide +kernel)
      | intro _ | rfl | dsimp only | split)

/-- What `State.syncMarker` keeps. -/
theorem State.syncMarker_evolves {A : List Part} {s₀ s : State} (h : Evolves A s₀ s) (h' : Nat) (at_ : Int)
    (hA : covers [.fresh, .power, .reg .PW_GRPSTAT, .reg .PW_SYNCERR] A = true) :
    Evolves A s₀ (s.syncMarker h' at_) := by
  unfold State.syncMarker
  with_reducible repeat (first
      | assumption
      | apply State.put_evolves
      | apply State.wrw_evolves
      | apply State.updGrp_evolves
      | (apply covers_trans _ hA; decide +kernel)
      | intro _ | rfl | dsimp only | split)

/-- What `State.takeMarkers` keeps. -/
theorem State.takeMarkers_evolves {A : List Part} {s₀ s : State} (h : Evolves A s₀ s) (f : List Byte) (start : Int)
    (hA : covers [.fresh, .power, .reg .PW_GRPSTAT, .reg .PW_SYNCERR] A = true) :
    Evolves A s₀ (s.takeMarkers f start) := by
  unfold State.takeMarkers
  with_reducible repeat (first
      | assumption
      | apply State.each_evolves
      | apply State.syncMarker_evolves
      | (apply covers_trans _ hA; decide +kernel)
      | intro _ | rfl | dsimp only | split)

/-- What `State.takeAngle` keeps. -/
theorem State.takeAngle_evolves {A : List Part} {s₀ s : State} (h : Evolves A s₀ s) (f : List Byte) (ago : Int) (d : Fin 4)
    (hA : covers ([Part.uhla, .reg .HF_DOMSTAT, .reg .HF_INC] ++ stepParts) A = true) :
    Evolves A s₀ (s.takeAngle f ago d) := by
  unfold State.takeAngle
  with_reducible repeat (first
      | assumption
      | apply State.setInc_evolves
      | apply State.updUhla_evolves
      | apply State.validEvent_evolves
      | apply State.stepFine_evolves
      | apply State.movePos_evolves
      | (apply covers_trans _ hA; decide +kernel)
      | intro _ | rfl | dsimp only | split)

/-- What `State.svDup` keeps. -/
theorem State.svDup_evolves {A : List Part} {s₀ s : State} (h : Evolves A s₀ s) (hA : covers ([Part.reg .UH_USTAT] ++ raiseParts) A = true) :
    Evolves A s₀ (s.svDup) := by
  unfold State.svDup
  with_reducible repeat (first
      | assumption
      | apply State.raise_evolves
      | apply State.put_evolves
      | (apply covers_trans _ hA; decide +kernel)
      | intro _ | rfl | dsimp only | split)

/-- What `State.takeValue` keeps. -/
theorem State.takeValue_evolves {A : List Part} {s₀ s : State} (h : Evolves A s₀ s) (r : Nat) (v : Nat) (stale : Bool) (w : Word)
    (hA : covers [.fresh, .uhla, .reg .UH_USVVAL, .reg .UH_USVINFO] A = true) :
    Evolves A s₀ (s.takeValue r v stale w) := by
  unfold State.takeValue
  with_reducible repeat (first
      | assumption
      | apply State.put_evolves
      | apply State.wrw_evolves
      | apply State.updUhla_evolves
      | (apply covers_trans _ hA; decide +kernel)
      | intro _ | rfl | dsimp only | split)

/-- What `State.takeValues` keeps. -/
theorem State.takeValues_evolves {A : List Part} {s₀ s : State} (h : Evolves A s₀ s) (f : List Byte)
    (hA : covers ([Part.uhla, .reg .UH_USTAT, .reg .UH_USVVAL, .reg .UH_USVINFO] ++ raiseParts) A = true) :
    Evolves A s₀ (s.takeValues f) := by
  unfold State.takeValues
  generalize sectionEntries f = l
  generalize ([] : List Nat) = d
  induction l generalizing s d with
  | nil => exact h
  | cons e l ih =>
    simp only [List.foldl_cons]
    split
    · exact ih h _
    · split
      · exact ih (State.svDup_evolves h (covers_trans (by decide +kernel) hA)) _
      · split
        · exact ih (State.svDup_evolves h (covers_trans (by decide +kernel) hA)) _
        · exact ih (State.takeValue_evolves h _ _ _ _ (covers_trans (by decide +kernel) hA)) _

/-- What `State.takeRanks` keeps. -/
theorem State.takeRanks_evolves {A : List Part} {s₀ s : State} (h : Evolves A s₀ s) (f : List Byte) (p : Fin 2)
    (hA : covers [.fresh, .uhla, .reg .UH_USTAT] A = true) :
    Evolves A s₀ (s.takeRanks f p) := by
  unfold State.takeRanks
  with_reducible repeat (first
      | assumption
      | apply State.updUhla_evolves
      | apply State.put_evolves
      | (apply covers_trans _ hA; decide +kernel)
      | intro _ | rfl | dsimp only | split)

/-- What `State.isolate` keeps. -/
theorem State.isolate_evolves {A : List Part} {s₀ s : State} (h : Evolves A s₀ s) (hA : covers ([Part.uhla, .reg .UH_USTAT] ++ raiseParts) A = true) :
    Evolves A s₀ (s.isolate) := by
  unfold State.isolate
  with_reducible repeat (first
      | assumption
      | apply State.raise_evolves
      | apply State.updUhla_evolves
      | apply State.put_evolves
      | apply State.each_evolves
      | apply State.restartLoss_evolves
      | (apply covers_trans _ hA; decide +kernel)
      | intro _ | rfl | dsimp only | split)

/-- What `State.grantHandover` keeps. -/
theorem State.grantHandover_evolves {A : List Part} {s₀ s : State} (h : Evolves A s₀ s) (f : List Byte) (hA : covers [.uhla] A = true) :
    Evolves A s₀ (s.grantHandover f) := by
  unfold State.grantHandover
  with_reducible repeat (first
      | assumption
      | apply State.updUhla_evolves
      | (apply covers_trans _ hA; decide +kernel)
      | intro _ | rfl | dsimp only | split)

/-- What `State.follow` keeps. -/
theorem State.follow_evolves {A : List Part} {s₀ s : State} (h : Evolves A s₀ s) (f : List Byte) (start : Int)
    (hA : covers ([Part.uhla, .winder, .reg .HF_DOMSTAT, .reg .HF_INC, .reg .PW_GSTAT, .reg .PW_GRPSTAT, .reg .PW_SYNCERR, .reg .WI_SSTAT,
      .reg .WI_RSTAT, .reg .UH_USTAT, .reg .UH_UPROBERX, .reg .UH_UERR] ++ stepParts) A = true) :
    Evolves A s₀ (s.follow f start) := by
  unfold State.follow
  with_reducible repeat (first
      | assumption
      | apply State.put_evolves
      | apply State.raise_evolves
      | apply State.updUhla_evolves
      | apply State.bump_evolves
      | apply State.each_evolves
      | apply State.takeAngle_evolves
      | apply State.profileStart_evolves
      | apply State.wrw_evolves
      | apply State.takeMarkers_evolves
      | (apply covers_trans _ hA; decide +kernel)
      | intro _ | rfl | dsimp only | split)

/-- What `State.forward` keeps. -/
theorem State.forward_evolves {A : List Part} {s₀ s : State} (h : Evolves A s₀ s) (f : List Byte) (p : Nat) (hA : covers [.uhla] A = true) :
    Evolves A s₀ (s.forward f p) := by
  unfold State.forward
  with_reducible repeat (first
      | assumption
      | apply State.updUhla_evolves
      | (apply covers_trans _ hA; decide +kernel)
      | intro _ | rfl | dsimp only | split)

/-- What `State.noteBad` keeps. -/
theorem State.noteBad_evolves {A : List Part} {s₀ s : State} (h : Evolves A s₀ s) (p : Fin 2)
    (hA : covers ([Part.uhla, .reg .UH_USTAT, .reg .UH_UPORT] ++ raiseParts) A = true) :
    Evolves A s₀ (s.noteBad p) := by
  unfold State.noteBad
  with_reducible repeat (first
      | assumption
      | apply State.updUhla_evolves
      | apply State.setPort_evolves
      | (apply covers_trans _ hA; decide +kernel)
      | intro _ | rfl | dsimp only | split)

/-- What `State.badFrame` keeps. -/
theorem State.badFrame_evolves {A : List Part} {s₀ s : State} (h : Evolves A s₀ s) (f : List Byte) (p : Fin 2)
    (hA : covers ([Part.uhla, .reg .UH_USTAT, .reg .UH_UPORT, .reg .UH_UERR] ++ raiseParts) A = true) :
    Evolves A s₀ (s.badFrame f p) := by
  unfold State.badFrame
  with_reducible repeat (first
      | assumption
      | apply State.bumpSat_evolves
      | apply State.raise_evolves
      | apply State.noteBad_evolves
      | apply State.updUhla_evolves
      | (apply covers_trans _ hA; decide +kernel)
      | intro _ | rfl | dsimp only | split)

/-- What `State.goodFrame` keeps. -/
theorem State.goodFrame_evolves {A : List Part} {s₀ s : State} (h : Evolves A s₀ s) (f : List Byte) (p : Fin 2) (sub : Nat)
    (hA : covers ([Part.uhla, .winder, .reg .HF_DOMSTAT, .reg .HF_INC, .reg .PW_GSTAT, .reg .PW_GRPSTAT, .reg .PW_SYNCERR, .reg .WI_SSTAT,
      .reg .WI_RSTAT, .reg .UH_USTAT, .reg .UH_UPROBERX, .reg .UH_UERR, .reg .UH_USVVAL, .reg .UH_USVINFO] ++ stepParts) A = true) :
    Evolves A s₀ (s.goodFrame f p sub) := by
  unfold State.goodFrame
  with_reducible repeat (first
      | assumption
      | apply State.isolate_evolves
      | apply State.takeValues_evolves
      | apply State.takeRanks_evolves
      | apply State.grantHandover_evolves
      | apply State.follow_evolves
      | apply State.updUhla_evolves
      | apply State.forward_evolves
      | (apply covers_trans _ hA; decide +kernel)
      | intro _ | rfl | dsimp only | split)

/-- What `execSuperframeReceive` keeps. -/
theorem execSuperframeReceive_evolves {A : List Part} {s₀ s : State} (h : Evolves A s₀ s) (p : Fin 2) (sub : Fin 64) (f : List Byte)
    (hA : covers ([Part.uhla, .winder, .reg .HF_DOMSTAT, .reg .HF_INC, .reg .PW_GSTAT, .reg .PW_GRPSTAT, .reg .PW_SYNCERR, .reg .WI_SSTAT,
      .reg .WI_RSTAT, .reg .UH_USTAT, .reg .UH_UPORT, .reg .UH_UPROBERX, .reg .UH_UERR, .reg .UH_USVVAL, .reg .UH_USVINFO] ++ stepParts) A = true) :
    ∃ u, execSuperframeReceive p sub f s = .next u ∧ Evolves A s₀ u := by
  unfold execSuperframeReceive
  refine ⟨_, rfl, ?_⟩
  with_reducible repeat (first
      | assumption
      | apply State.goodFrame_evolves
      | apply State.badFrame_evolves
      | (apply covers_trans _ hA; decide +kernel)
      | intro _ | rfl | dsimp only | split)

/-! ### Machine/PickRead -/

/-- What `State.slotOut` keeps. -/
theorem State.slotOut_evolves {A : List Part} {s₀ s : State} (h : Evolves A s₀ s) (c : Nat) (j : Nat) (v : Word)
    (hA : covers [.fresh, .pick, .reg .PK_ARBCTL, .reg .PK_SLOTVAL] A = true) :
    Evolves A s₀ (s.slotOut c j v) := by
  unfold State.slotOut
  with_reducible repeat (first
      | assumption
      | apply State.put_evolves
      | apply State.slotWrite_evolves
      | (apply covers_trans _ hA; decide +kernel)
      | intro _ | rfl | dsimp only | split)

/-- What `State.outDomain` keeps. -/
theorem State.outDomain_evolves {A : List Part} {s₀ s : State} (h : Evolves A s₀ s) (c : Nat) (d : Nat) (inc : Word) (step : Int)
    (hA : covers ([Part.reg .HF_DOMSTAT, .reg .HF_INC, .reg .PK_ARBCTL] ++ stepParts) A = true) :
    Evolves A s₀ (s.outDomain c d inc step) := by
  unfold State.outDomain
  with_reducible repeat (first
      | assumption
      | apply State.stepDomain_evolves
      | apply State.validEvent_evolves
      | apply State.setInc_evolves
      | apply State.put_evolves
      | (apply covers_trans _ hA; decide +kernel)
      | intro _ | rfl | dsimp only | split)

/-- What `State.dutyOut` keeps. -/
theorem State.dutyOut_evolves {A : List Part} {s₀ s : State} (h : Evolves A s₀ s) (c : Nat) (opt : Nat) (x : Word)
    (hA : covers [.fresh, .power, .reg .PK_ARBCTL, .reg .PW_DUTY, .reg .PW_ACTCMP, .reg .PW_CHSTAT] A = true) :
    Evolves A s₀ (s.dutyOut c opt x) := by
  unfold State.dutyOut
  with_reducible repeat (first
      | assumption
      | apply State.put_evolves
      | apply State.deliverDuty_evolves
      | (apply covers_trans _ hA; decide +kernel)
      | intro _ | rfl | dsimp only | split)

/-- What `State.markerOut` keeps. -/
theorem State.markerOut_evolves {A : List Part} {s₀ s : State} (h : Evolves A s₀ s) (e : Nat) (v : Word) (hA : covers seamParts A = true) :
    Evolves A s₀ (s.markerOut e v) := by
  unfold State.markerOut
  with_reducible repeat (first
      | assumption
      | apply State.record_evolves
      | (apply covers_trans _ hA; decide +kernel)
      | intro _ | rfl | dsimp only | split)

/-! ### Machine/RefRun -/

/-- What `State.setRun` keeps. -/
theorem State.setRun_evolves {A : List Part} {s₀ s : State} (h : Evolves A s₀ s) (e : Nat) (v : Inv) (hA : covers [.pick] A = true) :
    Evolves A s₀ (s.setRun e v) := by
  unfold State.setRun
  with_reducible repeat (first
      | assumption
      | apply State.updEng_evolves
      | (apply covers_trans _ hA; decide +kernel)
      | intro _ | rfl | dsimp only | split)

/-- What `State.stickyOut` keeps. -/
theorem State.stickyOut_evolves {A : List Part} {s₀ s : State} (h : Evolves A s₀ s) (e : Nat) (v : Inv)
    (hA : covers [.fresh, .reg .PK_PSTAT] A = true) :
    Evolves A s₀ (s.stickyOut e v) := by
  unfold State.stickyOut
  with_reducible repeat (first
      | assumption
      | apply State.put_evolves
      | (apply covers_trans _ hA; decide +kernel)
      | intro _ | rfl | dsimp only | split)

/-- What `State.commitInv` keeps. -/
theorem State.commitInv_evolves {A : List Part} {s₀ s : State} (h : Evolves A s₀ s) (e : Nat) (v : Inv)
    (hA : covers [.fresh, .pick, .reg .PK_REGION, .reg .PK_OPV] A = true) :
    Evolves A s₀ (s.commitInv e v) := by
  unfold State.commitInv
  with_reducible repeat (first
      | assumption
      | apply State.wrw_evolves
      | apply State.updEng_evolves
      | apply State.put_evolves
      | (apply covers_trans _ hA; decide +kernel)
      | intro _ | rfl | dsimp only | split)

/-- What `State.refRelease` keeps. -/
theorem State.refRelease_evolves {A : List Part} {s₀ s : State} (h : Evolves A s₀ s) (e : Nat) (x : RefOut)
    (hA : covers ([Part.uhla, .reg .HF_DOMSTAT, .reg .HF_INC, .reg .PK_ARBCTL, .reg .PK_SLOTVAL] ++ stepParts) A = true) :
    Evolves A s₀ (s.refRelease e x) := by
  unfold State.refRelease
  with_reducible repeat (first
      | assumption
      | apply State.slotOut_evolves
      | apply State.outDomain_evolves
      | apply State.raise_evolves
      | apply State.markerOut_evolves
      | apply State.uhxPublish_evolves
      | (apply covers_trans _ hA; decide +kernel)
      | intro _ | rfl | dsimp only | split)

/-- What `State.layoutShow` keeps. -/
theorem State.layoutShow_evolves {A : List Part} {s₀ s : State} (h : Evolves A s₀ s) (e : Nat) (r : RefRun) (hA : covers [.pick] A = true) :
    Evolves A s₀ (s.layoutShow e r) := by
  unfold State.layoutShow
  with_reducible repeat (first
      | assumption
      | apply State.updEng_evolves
      | (apply covers_trans _ hA; decide +kernel)
      | intro _ | rfl | dsimp only | split)

/-- What `State.refStep` keeps. -/
theorem State.refStep_evolves {A : List Part} {s₀ s : State} (h : Evolves A s₀ s) (e : Nat) (op : PickOp)
    (hA : covers ([Part.uhla, .reg .HF_DOMSTAT, .reg .HF_INC, .reg .PK_PSTAT, .reg .PK_REGION, .reg .PK_OPV, .reg .PK_ARBCTL, .reg .PK_SLOTVAL,
      .reg .PW_DUTY, .reg .PW_ACTCMP] ++ stepParts) A = true) :
    Evolves A s₀ (s.refStep e op) := by
  unfold State.refStep
  with_reducible repeat (first
      | assumption
      | apply State.refRelease_evolves
      | apply State.setRun_evolves
      | apply State.dutyOut_evolves
      | apply State.commitInv_evolves
      | apply State.dropInv_evolves
      | apply State.stickyOut_evolves
      | apply State.layoutShow_evolves
      | (apply covers_trans _ hA; decide +kernel)
      | intro _ | rfl | dsimp only | split)

/-! ### Machine/PickIsa -/

/-- What `State.pickDo` keeps. -/
theorem State.pickDo_evolves {A : List Part} {s₀ s : State} (h : Evolves A s₀ s) (e : Nat) (op : PickOp) (cyc : Nat) (f : Inv → Word → Inv) (out : State → Inv → Word → State) (hout : ∀ x0 x1 x2, Evolves A s₀ x0 → Evolves A s₀ (out x0 x1 x2))
    (hA : covers ([Part.uhla, .reg .HF_DOMSTAT, .reg .HF_INC, .reg .PK_PSTAT, .reg .PK_REGION, .reg .PK_OPV, .reg .PK_ARBCTL, .reg .PK_SLOTVAL,
      .reg .PW_DUTY, .reg .PW_ACTCMP] ++ stepParts) A = true) :
    Evolves A s₀ (s.pickDo e op cyc f out) := by
  unfold State.pickDo
  with_reducible repeat (first
      | assumption
      | apply hout
      | apply State.refStep_evolves
      | apply State.setRun_evolves
      | (apply covers_trans _ hA; decide +kernel)
      | intro _ | rfl | dsimp only | split)

/-- What `State.pickAlu` keeps. -/
theorem State.pickAlu_evolves {A : List Part} {s₀ s : State} (h : Evolves A s₀ s) (e : Nat) (op : PickOp) (f : Inv → Word → Inv)
    (hA : covers ([Part.uhla, .reg .HF_DOMSTAT, .reg .HF_INC, .reg .PK_PSTAT, .reg .PK_REGION, .reg .PK_OPV, .reg .PK_ARBCTL, .reg .PK_SLOTVAL,
      .reg .PW_DUTY, .reg .PW_ACTCMP] ++ stepParts) A = true) :
    Evolves A s₀ (s.pickAlu e op f) := by
  unfold State.pickAlu
  with_reducible repeat (first
      | assumption
      | apply State.pickDo_evolves
      | (apply covers_trans _ hA; decide +kernel)
      | intro _ | rfl | dsimp only | split)

/-- What `State.hide` keeps. -/
theorem State.hide_evolves {A : List Part} {s₀ s : State} (h : Evolves A s₀ s) (e : Nat) (l : List Unseen) (hA : covers [.pick] A = true) :
    Evolves A s₀ (s.hide e l) := by
  unfold State.hide
  with_reducible repeat (first
      | assumption
      | apply State.updEng_evolves
      | (apply covers_trans _ hA; decide +kernel)
      | intro _ | rfl | dsimp only | split)

/-- What `State.pickOut` keeps. -/
theorem State.pickOut_evolves {A : List Part} {s₀ s : State} (h : Evolves A s₀ s) (e : Nat) (op : PickOp) (out : State → Inv → Word → State) (old : State → Word → List Unseen) (hout : ∀ x0 x1 x2, Evolves A s₀ x0 → Evolves A s₀ (out x0 x1 x2))
    (hA : covers ([Part.uhla, .reg .HF_DOMSTAT, .reg .HF_INC, .reg .PK_PSTAT, .reg .PK_REGION, .reg .PK_OPV, .reg .PK_ARBCTL, .reg .PK_SLOTVAL,
      .reg .PW_DUTY, .reg .PW_ACTCMP] ++ stepParts) A = true) :
    Evolves A s₀ (s.pickOut e op out old) := by
  unfold State.pickOut
  with_reducible repeat (first
      | assumption
      | apply hout
      | apply State.pickDo_evolves
      | apply State.hide_evolves
      | (apply covers_trans _ hA; decide +kernel)
      | intro _ | rfl | dsimp only | split)

/-- What `execAcq` keeps. -/
theorem execAcq_evolves {A : List Part} {s₀ s : State} (h : Evolves A s₀ s) (e : Eng)
    (hA : covers ([Part.uhla, .reg .HF_DOMSTAT, .reg .HF_INC, .reg .PK_PSTAT, .reg .PK_REGION, .reg .PK_OPV, .reg .PK_ARBCTL, .reg .PK_SLOTVAL,
      .reg .PW_DUTY, .reg .PW_ACTCMP] ++ stepParts) A = true) :
    ∃ u, execAcq e s = .next u ∧ Evolves A s₀ u := by
  unfold execAcq
  refine ⟨_, rfl, ?_⟩
  with_reducible repeat (first
      | assumption
      | apply State.pickAlu_evolves
      | (apply covers_trans _ hA; decide +kernel)
      | intro _ | rfl | dsimp only | split)

/-- What `execMmx` keeps. -/
theorem execMmx_evolves {A : List Part} {s₀ s : State} (h : Evolves A s₀ s) (e : Eng)
    (hA : covers ([Part.uhla, .reg .HF_DOMSTAT, .reg .HF_INC, .reg .PK_PSTAT, .reg .PK_REGION, .reg .PK_OPV, .reg .PK_ARBCTL, .reg .PK_SLOTVAL,
      .reg .PW_DUTY, .reg .PW_ACTCMP] ++ stepParts) A = true) :
    ∃ u, execMmx e s = .next u ∧ Evolves A s₀ u := by
  unfold execMmx
  refine ⟨_, rfl, ?_⟩
  with_reducible repeat (first
      | assumption
      | apply State.pickAlu_evolves
      | (apply covers_trans _ hA; decide +kernel)
      | intro _ | rfl | dsimp only | split)

/-- What `execAng` keeps. -/
theorem execAng_evolves {A : List Part} {s₀ s : State} (h : Evolves A s₀ s) (e : Eng)
    (hA : covers ([Part.uhla, .reg .HF_DOMSTAT, .reg .HF_INC, .reg .PK_PSTAT, .reg .PK_REGION, .reg .PK_OPV, .reg .PK_ARBCTL, .reg .PK_SLOTVAL,
      .reg .PW_DUTY, .reg .PW_ACTCMP] ++ stepParts) A = true) :
    ∃ u, execAng e s = .next u ∧ Evolves A s₀ u := by
  unfold execAng
  refine ⟨_, rfl, ?_⟩
  with_reducible repeat (first
      | assumption
      | apply State.pickAlu_evolves
      | (apply covers_trans _ hA; decide +kernel)
      | intro _ | rfl | dsimp only | split)

/-- What `execScs` keeps. -/
theorem execScs_evolves {A : List Part} {s₀ s : State} (h : Evolves A s₀ s) (e : Eng)
    (hA : covers ([Part.uhla, .reg .HF_DOMSTAT, .reg .HF_INC, .reg .PK_PSTAT, .reg .PK_REGION, .reg .PK_OPV, .reg .PK_ARBCTL, .reg .PK_SLOTVAL,
      .reg .PW_DUTY, .reg .PW_ACTCMP] ++ stepParts) A = true) :
    ∃ u, execScs e s = .next u ∧ Evolves A s₀ u := by
  unfold execScs
  refine ⟨_, rfl, ?_⟩
  with_reducible repeat (first
      | assumption
      | apply State.pickAlu_evolves
      | (apply covers_trans _ hA; decide +kernel)
      | intro _ | rfl | dsimp only | split)

/-- What `execClk` keeps. -/
theorem execClk_evolves {A : List Part} {s₀ s : State} (h : Evolves A s₀ s) (e : Eng)
    (hA : covers ([Part.uhla, .reg .HF_DOMSTAT, .reg .HF_INC, .reg .PK_PSTAT, .reg .PK_REGION, .reg .PK_OPV, .reg .PK_ARBCTL, .reg .PK_SLOTVAL,
      .reg .PW_DUTY, .reg .PW_ACTCMP] ++ stepParts) A = true) :
    ∃ u, execClk e s = .next u ∧ Evolves A s₀ u := by
  unfold execClk
  refine ⟨_, rfl, ?_⟩
  with_reducible repeat (first
      | assumption
      | apply State.pickAlu_evolves
      | (apply covers_trans _ hA; decide +kernel)
      | intro _ | rfl | dsimp only | split)

/-- What `execPrk` keeps. -/
theorem execPrk_evolves {A : List Part} {s₀ s : State} (h : Evolves A s₀ s) (e : Eng)
    (hA : covers ([Part.uhla, .reg .HF_DOMSTAT, .reg .HF_INC, .reg .PK_PSTAT, .reg .PK_REGION, .reg .PK_OPV, .reg .PK_ARBCTL, .reg .PK_SLOTVAL,
      .reg .PW_DUTY, .reg .PW_ACTCMP] ++ stepParts) A = true) :
    ∃ u, execPrk e s = .next u ∧ Evolves A s₀ u := by
  unfold execPrk
  refine ⟨_, rfl, ?_⟩
  with_reducible repeat (first
      | assumption
      | apply State.pickAlu_evolves
      | (apply covers_trans _ hA; decide +kernel)
      | intro _ | rfl | dsimp only | split)

/-- What `execIpk` keeps. -/
theorem execIpk_evolves {A : List Part} {s₀ s : State} (h : Evolves A s₀ s) (e : Eng)
    (hA : covers ([Part.uhla, .reg .HF_DOMSTAT, .reg .HF_INC, .reg .PK_PSTAT, .reg .PK_REGION, .reg .PK_OPV, .reg .PK_ARBCTL, .reg .PK_SLOTVAL,
      .reg .PW_DUTY, .reg .PW_ACTCMP] ++ stepParts) A = true) :
    ∃ u, execIpk e s = .next u ∧ Evolves A s₀ u := by
  unfold execIpk
  refine ⟨_, rfl, ?_⟩
  with_reducible repeat (first
      | assumption
      | apply State.pickAlu_evolves
      | (apply covers_trans _ hA; decide +kernel)
      | intro _ | rfl | dsimp only | split)

/-- What `execMac` keeps. -/
theorem execMac_evolves {A : List Part} {s₀ s : State} (h : Evolves A s₀ s) (e : Eng)
    (hA : covers ([Part.uhla, .reg .HF_DOMSTAT, .reg .HF_INC, .reg .PK_PSTAT, .reg .PK_REGION, .reg .PK_OPV, .reg .PK_ARBCTL, .reg .PK_SLOTVAL,
      .reg .PW_DUTY, .reg .PW_ACTCMP] ++ stepParts) A = true) :
    ∃ u, execMac e s = .next u ∧ Evolves A s₀ u := by
  unfold execMac
  refine ⟨_, rfl, ?_⟩
  with_reducible repeat (first
      | assumption
      | apply State.pickAlu_evolves
      | (apply covers_trans _ hA; decide +kernel)
      | intro _ | rfl | dsimp only | split)

/-- What `execMsu` keeps. -/
theorem execMsu_evolves {A : List Part} {s₀ s : State} (h : Evolves A s₀ s) (e : Eng)
    (hA : covers ([Part.uhla, .reg .HF_DOMSTAT, .reg .HF_INC, .reg .PK_PSTAT, .reg .PK_REGION, .reg .PK_OPV, .reg .PK_ARBCTL, .reg .PK_SLOTVAL,
      .reg .PW_DUTY, .reg .PW_ACTCMP] ++ stepParts) A = true) :
    ∃ u, execMsu e s = .next u ∧ Evolves A s₀ u := by
  unfold execMsu
  refine ⟨_, rfl, ?_⟩
  with_reducible repeat (first
      | assumption
      | apply State.pickAlu_evolves
      | (apply covers_trans _ hA; decide +kernel)
      | intro _ | rfl | dsimp only | split)

/-- What `execSatMove` keeps. -/
theorem execSatMove_evolves {A : List Part} {s₀ s : State} (h : Evolves A s₀ s) (e : Eng)
    (hA : covers ([Part.uhla, .reg .HF_DOMSTAT, .reg .HF_INC, .reg .PK_PSTAT, .reg .PK_REGION, .reg .PK_OPV, .reg .PK_ARBCTL, .reg .PK_SLOTVAL,
      .reg .PW_DUTY, .reg .PW_ACTCMP] ++ stepParts) A = true) :
    ∃ u, execSatMove e s = .next u ∧ Evolves A s₀ u := by
  unfold execSatMove
  refine ⟨_, rfl, ?_⟩
  with_reducible repeat (first
      | assumption
      | apply State.pickAlu_evolves
      | (apply covers_trans _ hA; decide +kernel)
      | intro _ | rfl | dsimp only | split)

/-- What `execSatAccumulatorRead` keeps. -/
theorem execSatAccumulatorRead_evolves {A : List Part} {s₀ s : State} (h : Evolves A s₀ s) (e : Eng)
    (hA : covers ([Part.uhla, .reg .HF_DOMSTAT, .reg .HF_INC, .reg .PK_PSTAT, .reg .PK_REGION, .reg .PK_OPV, .reg .PK_ARBCTL, .reg .PK_SLOTVAL,
      .reg .PW_DUTY, .reg .PW_ACTCMP] ++ stepParts) A = true) :
    ∃ u, execSatAccumulatorRead e s = .next u ∧ Evolves A s₀ u := by
  unfold execSatAccumulatorRead
  refine ⟨_, rfl, ?_⟩
  with_reducible repeat (first
      | assumption
      | apply State.pickAlu_evolves
      | (apply covers_trans _ hA; decide +kernel)
      | intro _ | rfl | dsimp only | split)

/-- What `execSatStore` keeps. -/
theorem execSatStore_evolves {A : List Part} {s₀ s : State} (h : Evolves A s₀ s) (e : Eng)
    (hA : covers ([Part.uhla, .reg .HF_DOMSTAT, .reg .HF_INC, .reg .PK_PSTAT, .reg .PK_REGION, .reg .PK_OPV, .reg .PK_ARBCTL, .reg .PK_SLOTVAL,
      .reg .PW_DUTY, .reg .PW_ACTCMP] ++ stepParts) A = true) :
    ∃ u, execSatStore e s = .next u ∧ Evolves A s₀ u := by
  unfold execSatStore
  refine ⟨_, rfl, ?_⟩
  with_reducible repeat (first
      | assumption
      | apply State.pickAlu_evolves
      | (apply covers_trans _ hA; decide +kernel)
      | intro _ | rfl | dsimp only | split)

/-- What `execLim` keeps. -/
theorem execLim_evolves {A : List Part} {s₀ s : State} (h : Evolves A s₀ s) (e : Eng)
    (hA : covers ([Part.uhla, .reg .HF_DOMSTAT, .reg .HF_INC, .reg .PK_PSTAT, .reg .PK_REGION, .reg .PK_OPV, .reg .PK_ARBCTL, .reg .PK_SLOTVAL,
      .reg .PW_DUTY, .reg .PW_ACTCMP] ++ stepParts) A = true) :
    ∃ u, execLim e s = .next u ∧ Evolves A s₀ u := by
  unfold execLim
  refine ⟨_, rfl, ?_⟩
  with_reducible repeat (first
      | assumption
      | apply State.pickAlu_evolves
      | (apply covers_trans _ hA; decide +kernel)
      | intro _ | rfl | dsimp only | split)

/-- What `execAbs` keeps. -/
theorem execAbs_evolves {A : List Part} {s₀ s : State} (h : Evolves A s₀ s) (e : Eng)
    (hA : covers ([Part.uhla, .reg .HF_DOMSTAT, .reg .HF_INC, .reg .PK_PSTAT, .reg .PK_REGION, .reg .PK_OPV, .reg .PK_ARBCTL, .reg .PK_SLOTVAL,
      .reg .PW_DUTY, .reg .PW_ACTCMP] ++ stepParts) A = true) :
    ∃ u, execAbs e s = .next u ∧ Evolves A s₀ u := by
  unfold execAbs
  refine ⟨_, rfl, ?_⟩
  with_reducible repeat (first
      | assumption
      | apply State.pickAlu_evolves
      | (apply covers_trans _ hA; decide +kernel)
      | intro _ | rfl | dsimp only | split)

/-- What `execNegate` keeps. -/
theorem execNegate_evolves {A : List Part} {s₀ s : State} (h : Evolves A s₀ s) (e : Eng)
    (hA : covers ([Part.uhla, .reg .HF_DOMSTAT, .reg .HF_INC, .reg .PK_PSTAT, .reg .PK_REGION, .reg .PK_OPV, .reg .PK_ARBCTL, .reg .PK_SLOTVAL,
      .reg .PW_DUTY, .reg .PW_ACTCMP] ++ stepParts) A = true) :
    ∃ u, execNegate e s = .next u ∧ Evolves A s₀ u := by
  unfold execNegate
  refine ⟨_, rfl, ?_⟩
  with_reducible repeat (first
      | assumption
      | apply State.pickAlu_evolves
      | (apply covers_trans _ hA; decide +kernel)
      | intro _ | rfl | dsimp only | split)

/-- What `execDiv` keeps. -/
theorem execDiv_evolves {A : List Part} {s₀ s : State} (h : Evolves A s₀ s) (e : Eng)
    (hA : covers ([Part.uhla, .reg .HF_DOMSTAT, .reg .HF_INC, .reg .PK_PSTAT, .reg .PK_REGION, .reg .PK_OPV, .reg .PK_ARBCTL, .reg .PK_SLOTVAL,
      .reg .PW_DUTY, .reg .PW_ACTCMP] ++ stepParts) A = true) :
    ∃ u, execDiv e s = .next u ∧ Evolves A s₀ u := by
  unfold execDiv
  refine ⟨_, rfl, ?_⟩
  with_reducible repeat (first
      | assumption
      | apply State.pickAlu_evolves
      | (apply covers_trans _ hA; decide +kernel)
      | intro _ | rfl | dsimp only | split)

/-- What `execSqt` keeps. -/
theorem execSqt_evolves {A : List Part} {s₀ s : State} (h : Evolves A s₀ s) (e : Eng)
    (hA : covers ([Part.uhla, .reg .HF_DOMSTAT, .reg .HF_INC, .reg .PK_PSTAT, .reg .PK_REGION, .reg .PK_OPV, .reg .PK_ARBCTL, .reg .PK_SLOTVAL,
      .reg .PW_DUTY, .reg .PW_ACTCMP] ++ stepParts) A = true) :
    ∃ u, execSqt e s = .next u ∧ Evolves A s₀ u := by
  unfold execSqt
  refine ⟨_, rfl, ?_⟩
  with_reducible repeat (first
      | assumption
      | apply State.pickAlu_evolves
      | (apply covers_trans _ hA; decide +kernel)
      | intro _ | rfl | dsimp only | split)

/-- What `execSqtMagnitude` keeps. -/
theorem execSqtMagnitude_evolves {A : List Part} {s₀ s : State} (h : Evolves A s₀ s) (e : Eng)
    (hA : covers ([Part.uhla, .reg .HF_DOMSTAT, .reg .HF_INC, .reg .PK_PSTAT, .reg .PK_REGION, .reg .PK_OPV, .reg .PK_ARBCTL, .reg .PK_SLOTVAL,
      .reg .PW_DUTY, .reg .PW_ACTCMP] ++ stepParts) A = true) :
    ∃ u, execSqtMagnitude e s = .next u ∧ Evolves A s₀ u := by
  unfold execSqtMagnitude
  refine ⟨_, rfl, ?_⟩
  with_reducible repeat (first
      | assumption
      | apply State.pickAlu_evolves
      | (apply covers_trans _ hA; decide +kernel)
      | intro _ | rfl | dsimp only | split)

/-- What `execPis` keeps. -/
theorem execPis_evolves {A : List Part} {s₀ s : State} (h : Evolves A s₀ s) (e : Eng)
    (hA : covers ([Part.uhla, .reg .HF_DOMSTAT, .reg .HF_INC, .reg .PK_PSTAT, .reg .PK_REGION, .reg .PK_OPV, .reg .PK_ARBCTL, .reg .PK_SLOTVAL,
      .reg .PW_DUTY, .reg .PW_ACTCMP] ++ stepParts) A = true) :
    ∃ u, execPis e s = .next u ∧ Evolves A s₀ u := by
  unfold execPis
  refine ⟨_, rfl, ?_⟩
  with_reducible repeat (first
      | assumption
      | apply State.pickAlu_evolves
      | (apply covers_trans _ hA; decide +kernel)
      | intro _ | rfl | dsimp only | split)

/-- What `execRsc` keeps. -/
theorem execRsc_evolves {A : List Part} {s₀ s : State} (h : Evolves A s₀ s) (e : Eng)
    (hA : covers ([Part.uhla, .reg .HF_DOMSTAT, .reg .HF_INC, .reg .PK_PSTAT, .reg .PK_REGION, .reg .PK_OPV, .reg .PK_ARBCTL, .reg .PK_SLOTVAL,
      .reg .PW_DUTY, .reg .PW_ACTCMP] ++ stepParts) A = true) :
    ∃ u, execRsc e s = .next u ∧ Evolves A s₀ u := by
  unfold execRsc
  refine ⟨_, rfl, ?_⟩
  with_reducible repeat (first
      | assumption
      | apply State.pickAlu_evolves
      | (apply covers_trans _ hA; decide +kernel)
      | intro _ | rfl | dsimp only | split)

/-- What `execOutSlot` keeps. -/
theorem execOutSlot_evolves {A : List Part} {s₀ s : State} (h : Evolves A s₀ s) (e : Eng)
    (hA : covers ([Part.uhla, .reg .HF_DOMSTAT, .reg .HF_INC, .reg .PK_PSTAT, .reg .PK_REGION, .reg .PK_OPV, .reg .PK_ARBCTL, .reg .PK_SLOTVAL,
      .reg .PW_DUTY, .reg .PW_ACTCMP] ++ stepParts) A = true) :
    ∃ u, execOutSlot e s = .next u ∧ Evolves A s₀ u := by
  unfold execOutSlot
  refine ⟨_, rfl, ?_⟩
  with_reducible repeat (first
      | assumption
      | apply State.pickOut_evolves
      | apply State.slotOut_evolves
      | (apply covers_trans _ hA; decide +kernel)
      | intro _ | rfl | dsimp only | split)

/-- What `execOutDomainInc` keeps. -/
theorem execOutDomainInc_evolves {A : List Part} {s₀ s : State} (h : Evolves A s₀ s) (e : Eng)
    (hA : covers ([Part.uhla, .reg .HF_DOMSTAT, .reg .HF_INC, .reg .PK_PSTAT, .reg .PK_REGION, .reg .PK_OPV, .reg .PK_ARBCTL, .reg .PK_SLOTVAL,
      .reg .PW_DUTY, .reg .PW_ACTCMP] ++ stepParts) A = true) :
    ∃ u, execOutDomainInc e s = .next u ∧ Evolves A s₀ u := by
  unfold execOutDomainInc
  refine ⟨_, rfl, ?_⟩
  with_reducible repeat (first
      | assumption
      | apply State.pickOut_evolves
      | apply State.outDomain_evolves
      | (apply covers_trans _ hA; decide +kernel)
      | intro _ | rfl | dsimp only | split)

/-- What `execOutDomainStep` keeps. -/
theorem execOutDomainStep_evolves {A : List Part} {s₀ s : State} (h : Evolves A s₀ s) (e : Eng)
    (hA : covers ([Part.uhla, .reg .HF_DOMSTAT, .reg .HF_INC, .reg .PK_PSTAT, .reg .PK_REGION, .reg .PK_OPV, .reg .PK_ARBCTL, .reg .PK_SLOTVAL,
      .reg .PW_DUTY, .reg .PW_ACTCMP] ++ stepParts) A = true) :
    ∃ u, execOutDomainStep e s = .next u ∧ Evolves A s₀ u := by
  unfold execOutDomainStep
  refine ⟨_, rfl, ?_⟩
  with_reducible repeat (first
      | assumption
      | apply State.pickOut_evolves
      | apply State.outDomain_evolves
      | (apply covers_trans _ hA; decide +kernel)
      | intro _ | rfl | dsimp only | split)

/-- What `execDuty` keeps. -/
theorem execDuty_evolves {A : List Part} {s₀ s : State} (h : Evolves A s₀ s) (e : Eng)
    (hA : covers ([Part.uhla, .reg .HF_DOMSTAT, .reg .HF_INC, .reg .PK_PSTAT, .reg .PK_REGION, .reg .PK_OPV, .reg .PK_ARBCTL, .reg .PK_SLOTVAL,
      .reg .PW_DUTY, .reg .PW_ACTCMP] ++ stepParts) A = true) :
    ∃ u, execDuty e s = .next u ∧ Evolves A s₀ u := by
  unfold execDuty
  refine ⟨_, rfl, ?_⟩
  with_reducible repeat (first
      | assumption
      | apply State.pickOut_evolves
      | apply State.dutyOut_evolves
      | (apply covers_trans _ hA; decide +kernel)
      | intro _ | rfl | dsimp only | split)

/-- What `execEvtEvent` keeps. -/
theorem execEvtEvent_evolves {A : List Part} {s₀ s : State} (h : Evolves A s₀ s) (e : Eng)
    (hA : covers ([Part.uhla, .reg .HF_DOMSTAT, .reg .HF_INC, .reg .PK_PSTAT, .reg .PK_REGION, .reg .PK_OPV, .reg .PK_ARBCTL, .reg .PK_SLOTVAL,
      .reg .PW_DUTY, .reg .PW_ACTCMP] ++ stepParts) A = true) :
    ∃ u, execEvtEvent e s = .next u ∧ Evolves A s₀ u := by
  unfold execEvtEvent
  refine ⟨_, rfl, ?_⟩
  with_reducible repeat (first
      | assumption
      | apply State.pickOut_evolves
      | apply State.raise_evolves
      | (apply covers_trans _ hA; decide +kernel)
      | intro _ | rfl | dsimp only | split)

/-- What `execEvtSeamTrigger` keeps. -/
theorem execEvtSeamTrigger_evolves {A : List Part} {s₀ s : State} (h : Evolves A s₀ s) (e : Eng)
    (hA : covers ([Part.uhla, .reg .HF_DOMSTAT, .reg .HF_INC, .reg .PK_PSTAT, .reg .PK_REGION, .reg .PK_OPV, .reg .PK_ARBCTL, .reg .PK_SLOTVAL,
      .reg .PW_DUTY, .reg .PW_ACTCMP] ++ stepParts) A = true) :
    ∃ u, execEvtSeamTrigger e s = .next u ∧ Evolves A s₀ u := by
  unfold execEvtSeamTrigger
  refine ⟨_, rfl, ?_⟩
  with_reducible repeat (first
      | assumption
      | apply State.pickOut_evolves
      | apply State.fire_evolves
      | (apply covers_trans _ hA; decide +kernel)
      | intro _ | rfl | dsimp only | split)

/-- What `execEvtMarker` keeps. -/
theorem execEvtMarker_evolves {A : List Part} {s₀ s : State} (h : Evolves A s₀ s) (e : Eng)
    (hA : covers ([Part.uhla, .reg .HF_DOMSTAT, .reg .HF_INC, .reg .PK_PSTAT, .reg .PK_REGION, .reg .PK_OPV, .reg .PK_ARBCTL, .reg .PK_SLOTVAL,
      .reg .PW_DUTY, .reg .PW_ACTCMP] ++ stepParts) A = true) :
    ∃ u, execEvtMarker e s = .next u ∧ Evolves A s₀ u := by
  unfold execEvtMarker
  refine ⟨_, rfl, ?_⟩
  with_reducible repeat (first
      | assumption
      | apply State.pickOut_evolves
      | apply State.markerOut_evolves
      | (apply covers_trans _ hA; decide +kernel)
      | intro _ | rfl | dsimp only | split)

/-- What `State.xchGranted` keeps. -/
theorem State.xchGranted_evolves {A : List Part} {s₀ s : State} (h : Evolves A s₀ s) (e : Nat) (hA : covers [.pick] A = true) :
    Evolves A s₀ (s.xchGranted e) := by
  unfold State.xchGranted
  with_reducible repeat (first
      | assumption
      | apply State.updPort_evolves
      | apply State.updEng_evolves
      | (apply covers_trans _ hA; decide +kernel)
      | intro _ | rfl | dsimp only | split)

/-- What `execXch` keeps. -/
theorem execXch_evolves {A : List Part} {s₀ s : State} (h : Evolves A s₀ s) (e : Eng) (waits : Fin 17) (fresh : Bool)
    (hA : covers ([Part.uhla, .reg .HF_DOMSTAT, .reg .HF_INC, .reg .PK_PSTAT, .reg .PK_REGION, .reg .PK_OPV, .reg .PK_ARBCTL, .reg .PK_SLOTVAL,
      .reg .PW_DUTY, .reg .PW_ACTCMP] ++ stepParts) A = true) :
    ∃ u, execXch e waits fresh s = .next u ∧ Evolves A s₀ u := by
  unfold execXch
  refine ⟨_, rfl, ?_⟩
  with_reducible repeat (first
      | assumption
      | apply State.pickDo_evolves
      | apply State.xchGranted_evolves
      | (apply covers_trans _ hA; decide +kernel)
      | intro _ | rfl | dsimp only | split)

/-- What `execUhxRead` keeps. -/
theorem execUhxRead_evolves {A : List Part} {s₀ s : State} (h : Evolves A s₀ s) (e : Eng)
    (hA : covers ([Part.uhla, .reg .HF_DOMSTAT, .reg .HF_INC, .reg .PK_PSTAT, .reg .PK_REGION, .reg .PK_OPV, .reg .PK_ARBCTL, .reg .PK_SLOTVAL,
      .reg .PW_DUTY, .reg .PW_ACTCMP] ++ stepParts) A = true) :
    ∃ u, execUhxRead e s = .next u ∧ Evolves A s₀ u := by
  unfold execUhxRead
  refine ⟨_, rfl, ?_⟩
  with_reducible repeat (first
      | assumption
      | apply State.pickAlu_evolves
      | (apply covers_trans _ hA; decide +kernel)
      | intro _ | rfl | dsimp only | split)

/-- What `execUhxWrite` keeps. -/
theorem execUhxWrite_evolves {A : List Part} {s₀ s : State} (h : Evolves A s₀ s) (e : Eng)
    (hA : covers ([Part.uhla, .reg .HF_DOMSTAT, .reg .HF_INC, .reg .PK_PSTAT, .reg .PK_REGION, .reg .PK_OPV, .reg .PK_ARBCTL, .reg .PK_SLOTVAL,
      .reg .PW_DUTY, .reg .PW_ACTCMP] ++ stepParts) A = true) :
    ∃ u, execUhxWrite e s = .next u ∧ Evolves A s₀ u := by
  unfold execUhxWrite
  refine ⟨_, rfl, ?_⟩
  with_reducible repeat (first
      | assumption
      | apply State.pickOut_evolves
      | apply State.uhxPublish_evolves
      | (apply covers_trans _ hA; decide +kernel)
      | intro _ | rfl | dsimp only | split)

/-- What `execBrf` keeps. -/
theorem execBrf_evolves {A : List Part} {s₀ s : State} (h : Evolves A s₀ s) (e : Eng) (hA : covers [.pick] A = true) :
    ∃ u, execBrf e s = .next u ∧ Evolves A s₀ u := by
  unfold execBrf
  refine ⟨_, rfl, ?_⟩
  with_reducible repeat (first
      | assumption
      | apply State.setRun_evolves
      | (apply covers_trans _ hA; decide +kernel)
      | intro _ | rfl | dsimp only | split)

/-- What `execLoop` keeps. -/
theorem execLoop_evolves {A : List Part} {s₀ s : State} (h : Evolves A s₀ s) (e : Eng) (hA : covers [.pick] A = true) :
    ∃ u, execLoop e s = .next u ∧ Evolves A s₀ u := by
  unfold execLoop
  refine ⟨_, rfl, ?_⟩
  with_reducible repeat (first
      | assumption
      | apply State.setRun_evolves
      | (apply covers_trans _ hA; decide +kernel)
      | intro _ | rfl | dsimp only | split)

/-- What `State.endInv` keeps. -/
theorem State.endInv_evolves {A : List Part} {s₀ s : State} (h : Evolves A s₀ s) (e : Nat) (op : PickOp) (commit : Bool)
    (hA : covers ([Part.uhla, .reg .HF_DOMSTAT, .reg .HF_INC, .reg .PK_PSTAT, .reg .PK_REGION, .reg .PK_OPV, .reg .PK_ARBCTL, .reg .PK_SLOTVAL,
      .reg .PW_DUTY, .reg .PW_ACTCMP] ++ stepParts) A = true) :
    Evolves A s₀ (s.endInv e op commit) := by
  unfold State.endInv
  with_reducible repeat (first
      | assumption
      | apply State.refStep_evolves
      | apply State.dropInv_evolves
      | apply State.stickyOut_evolves
      | apply State.commitInv_evolves
      | (apply covers_trans _ hA; decide +kernel)
      | intro _ | rfl | dsimp only | split)

/-- What `execEndRun` keeps. -/
theorem execEndRun_evolves {A : List Part} {s₀ s : State} (h : Evolves A s₀ s) (e : Eng)
    (hA : covers ([Part.uhla, .reg .HF_DOMSTAT, .reg .HF_INC, .reg .PK_PSTAT, .reg .PK_REGION, .reg .PK_OPV, .reg .PK_ARBCTL, .reg .PK_SLOTVAL,
      .reg .PW_DUTY, .reg .PW_ACTCMP] ++ stepParts) A = true) :
    ∃ u, execEndRun e s = .next u ∧ Evolves A s₀ u := by
  unfold execEndRun
  refine ⟨_, rfl, ?_⟩
  with_reducible repeat (first
      | assumption
      | apply State.endInv_evolves
      | (apply covers_trans _ hA; decide +kernel)
      | intro _ | rfl | dsimp only | split)

/-- What `execEndDiscard` keeps. -/
theorem execEndDiscard_evolves {A : List Part} {s₀ s : State} (h : Evolves A s₀ s) (e : Eng)
    (hA : covers ([Part.uhla, .reg .HF_DOMSTAT, .reg .HF_INC, .reg .PK_PSTAT, .reg .PK_REGION, .reg .PK_OPV, .reg .PK_ARBCTL, .reg .PK_SLOTVAL,
      .reg .PW_DUTY, .reg .PW_ACTCMP] ++ stepParts) A = true) :
    ∃ u, execEndDiscard e s = .next u ∧ Evolves A s₀ u := by
  unfold execEndDiscard
  refine ⟨_, rfl, ?_⟩
  with_reducible repeat (first
      | assumption
      | apply State.endInv_evolves
      | (apply covers_trans _ hA; decide +kernel)
      | intro _ | rfl | dsimp only | split)

/-- What `execIllegalWord` keeps. -/
theorem execIllegalWord_evolves {A : List Part} {s₀ s : State} (h : Evolves A s₀ s) (e : Eng)
    (hA : covers ([Part.pick, .reg .PK_PSTAT, .reg .PK_LATE] ++ raiseParts) A = true) :
    ∃ u, execIllegalWord e s = .next u ∧ Evolves A s₀ u := by
  unfold execIllegalWord
  refine ⟨_, rfl, ?_⟩
  with_reducible repeat (first
      | assumption
      | apply State.exhaust_evolves
      | (apply covers_trans _ hA; decide +kernel)
      | intro _ | rfl | dsimp only | split)

/-- What `execBudgetExh` keeps. -/
theorem execBudgetExh_evolves {A : List Part} {s₀ s : State} (h : Evolves A s₀ s) (e : Eng) (waits : Fin 17) (fresh : Bool)
    (hA : covers ([Part.pick, .reg .PK_PSTAT, .reg .PK_LATE] ++ raiseParts) A = true) :
    ∃ u, execBudgetExh e waits fresh s = .next u ∧ Evolves A s₀ u := by
  unfold execBudgetExh
  refine ⟨_, rfl, ?_⟩
  with_reducible repeat (first
      | assumption
      | apply State.exhaust_evolves
      | (apply covers_trans _ hA; decide +kernel)
      | intro _ | rfl | dsimp only | split)

/-! ### Machine/HostLinks -/

/-- What `State.updHost` keeps. -/
theorem State.updHost_evolves {A : List Part} {s₀ s : State} (h : Evolves A s₀ s) (f : HostU → HostU) (hA : covers [.host] A = true) :
    Evolves A s₀ (s.updHost f) := by
  unfold State.updHost
  with_reducible repeat (first
      | assumption
      | (apply covers_trans _ hA; decide +kernel)
      | intro _ | rfl | dsimp only | split
      | (apply host_evolves; first | assumption | intro _ | rfl | dsimp only | split))

/-- What `State.trustEval` keeps. -/
theorem State.trustEval_evolves {A : List Part} {s₀ s : State} (h : Evolves A s₀ s)
    (hA : covers ([Part.host, .reg .ET_PTPTRUST] ++ raiseParts) A = true) :
    Evolves A s₀ (s.trustEval) := by
  unfold State.trustEval
  with_reducible repeat (first
      | assumption
      | apply State.disarm_evolves
      | apply State.raise_evolves
      | apply State.put_evolves
      | apply State.arm_evolves
      | apply State.updHost_evolves
      | (apply covers_trans _ hA; decide +kernel)
      | intro _ | rfl | dsimp only | split)

/-- What `State.trustWrite` keeps. -/
theorem State.trustWrite_evolves {A : List Part} {s₀ s : State} (h : Evolves A s₀ s) (v : Word)
    (hA : covers ([Part.host, .reg .ET_PTPTRUST] ++ raiseParts) A = true) :
    Evolves A s₀ (s.trustWrite v) := by
  unfold State.trustWrite
  with_reducible repeat (first
      | assumption
      | apply State.regWrite_evolves
      | apply State.updHost_evolves
      | apply State.trustEval_evolves
      | (apply covers_trans _ hA; decide +kernel)
      | intro _ | rfl | dsimp only | split)

/-- What `execPtpTrustLost` keeps. -/
theorem execPtpTrustLost_evolves {A : List Part} {s₀ s : State} (h : Evolves A s₀ s)
    (hA : covers ([Part.host, .reg .ET_PTPTRUST] ++ raiseParts ++ onTimerParts) A = true) :
    ∃ u, execPtpTrustLost s = .next u ∧ Evolves A s₀ u := by
  unfold execPtpTrustLost
  refine ⟨_, rfl, ?_⟩
  with_reducible repeat (first
      | assumption
      | apply State.trustEval_evolves
      | apply State.advanceTo_evolves
      | (apply covers_trans _ hA; decide +kernel)
      | intro _ | rfl | dsimp only | split)

/-- What `State.targetPassed` keeps. -/
theorem State.targetPassed_evolves {A : List Part} {s₀ s : State} (h : Evolves A s₀ s) (hA : covers ([Part.host] ++ raiseParts) A = true) :
    Evolves A s₀ (s.targetPassed) := by
  unfold State.targetPassed
  with_reducible repeat (first
      | assumption
      | apply State.raise_evolves
      | apply State.updHost_evolves
      | (apply covers_trans _ hA; decide +kernel)
      | intro _ | rfl | dsimp only | split)

/-- What `State.ptpPut` keeps. -/
theorem State.ptpPut_evolves {A : List Part} {s₀ s : State} (h : Evolves A s₀ s) (x : Nat) (hA : covers [.host] A = true) :
    Evolves A s₀ (s.ptpPut x) := by
  unfold State.ptpPut
  with_reducible repeat (first
      | assumption
      | apply State.updHost_evolves
      | (apply covers_trans _ hA; decide +kernel)
      | intro _ | rfl | dsimp only | split)

/-- What `State.ptpStep` keeps. -/
theorem State.ptpStep_evolves {A : List Part} {s₀ s : State} (h : Evolves A s₀ s) (v : Word) (hA : covers ([Part.host] ++ raiseParts) A = true) :
    Evolves A s₀ (s.ptpStep v) := by
  unfold State.ptpStep
  with_reducible repeat (first
      | assumption
      | apply State.ptpPut_evolves
      | apply State.targetPassed_evolves
      | (apply covers_trans _ hA; decide +kernel)
      | intro _ | rfl | dsimp only | split)

/-- What `State.adjWrite` keeps. -/
theorem State.adjWrite_evolves {A : List Part} {s₀ s : State} (h : Evolves A s₀ s) (v : Word) (hA : covers [.host, .reg .ET_PTPADJ] A = true) :
    Evolves A s₀ (s.adjWrite v) := by
  unfold State.adjWrite
  with_reducible repeat (first
      | assumption
      | apply State.regWrite_evolves
      | apply State.ptpPut_evolves
      | (apply covers_trans _ hA; decide +kernel)
      | intro _ | rfl | dsimp only | split)

/-- What `execPtpTarget` keeps. -/
theorem execPtpTarget_evolves {A : List Part} {s₀ s : State} (h : Evolves A s₀ s) (hA : covers ([Part.host] ++ raiseParts ++ onTimerParts) A = true) :
    ∃ u, execPtpTarget s = .next u ∧ Evolves A s₀ u := by
  unfold execPtpTarget
  refine ⟨_, rfl, ?_⟩
  with_reducible repeat (first
      | assumption
      | apply State.targetPassed_evolves
      | apply State.advance_evolves
      | (apply covers_trans _ hA; decide +kernel)
      | intro _ | rfl | dsimp only | split)

/-- What `execLampClockSet` keeps. -/
theorem execLampClockSet_evolves {A : List Part} {s₀ s : State} (h : Evolves A s₀ s) (hA : covers ([Part.lamp] ++ onTimerParts) A = true) :
    ∃ u, execLampClockSet s = .next u ∧ Evolves A s₀ u := by
  unfold execLampClockSet
  refine ⟨_, rfl, ?_⟩
  with_reducible repeat (first
      | assumption
      | apply State.every_evolves
      | apply State.rtcPut_evolves
      | (apply covers_trans _ hA; decide +kernel)
      | intro _ | rfl | dsimp only | split)

/-- What `State.rxFrame` keeps. -/
theorem State.rxFrame_evolves {A : List Part} {s₀ s : State} (h : Evolves A s₀ s) (p : Fin 2) (f : List Byte) (listed : Bool) (fifth : Nat) (taken : Vector Nat 4)
    (hA : covers ([Part.host, .reg .ET_ETHSTAT, .reg .ET_PTPTRUST] ++ raiseParts) A = true) :
    Evolves A s₀ (s.rxFrame p f listed fifth taken) := by
  unfold State.rxFrame
  with_reducible repeat (first
      | assumption
      | apply State.raise_evolves
      | apply State.updHost_evolves
      | apply State.bumpSat_evolves
      | apply State.trustEval_evolves
      | (apply covers_trans _ hA; decide +kernel)
      | intro _ | rfl | dsimp only | split)

/-- What `execEthFrameReceive` keeps. -/
theorem execEthFrameReceive_evolves {A : List Part} {s₀ s : State} (h : Evolves A s₀ s) (p : Fin 2) (f : List Byte) (fcsOk : Bool) (listed : Bool) (fifth : Fin 5) (taken : Vector Nat 4)
    (hA : covers ([Part.host, .reg .ET_ETHSTAT, .reg .ET_PTPTRUST] ++ raiseParts) A = true) :
    ∃ u, execEthFrameReceive p f fcsOk listed fifth taken s = .next u ∧ Evolves A s₀ u := by
  unfold execEthFrameReceive
  refine ⟨_, rfl, ?_⟩
  with_reducible repeat (first
      | assumption
      | apply State.raise_evolves
      | apply State.updHost_evolves
      | apply State.rxFrame_evolves
      | (apply covers_trans _ hA; decide +kernel)
      | intro _ | rfl | dsimp only | split)

/-- What `State.txPost` keeps. -/
theorem State.txPost_evolves {A : List Part} {s₀ s : State} (h : Evolves A s₀ s) (p : Nat) (x : TxPost) (hA : covers [.host] A = true) :
    Evolves A s₀ (s.txPost p x) := by
  unfold State.txPost
  with_reducible repeat (first
      | assumption
      | apply State.queueFrame_evolves
      | (apply covers_trans _ hA; decide +kernel)
      | intro _ | rfl | dsimp only | split
      | (apply host_evolves; first | assumption | apply State.queueFrame_evolves | intro _ | rfl | dsimp only | split))

/-- What `State.txSend` keeps. -/
theorem State.txSend_evolves {A : List Part} {s₀ s : State} (h : Evolves A s₀ s) (p : Fin 2) (q : Nat) (u : TxQueue) (f : TxFrame)
    (hA : covers ([Part.plan, .host] ++ chargeParts) A = true) :
    Evolves A s₀ (s.txSend p q u f) := by
  unfold State.txSend
  with_reducible repeat (first
      | assumption
      | apply State.updHost_evolves
      | apply State.charge_evolves
      | apply State.updPlan_evolves
      | apply State.raiseIf_evolves
      | apply State.raise_evolves
      | (apply covers_trans _ hA; decide +kernel)
      | intro _ | rfl | dsimp only | split)

/-- What `execEthFrameTransmit` keeps. -/
theorem execEthFrameTransmit_evolves {A : List Part} {s₀ s : State} (h : Evolves A s₀ s) (p : Fin 2) (posts : List TxPost)
    (hA : covers ([Part.plan, .host] ++ chargeParts) A = true) :
    ∃ u, execEthFrameTransmit p posts s = .next u ∧ Evolves A s₀ u := by
  unfold execEthFrameTransmit
  refine ⟨_, rfl, ?_⟩
  with_reducible repeat (first
      | assumption
      | apply State.each_evolves
      | apply State.txPost_evolves
      | apply State.txSend_evolves
      | (apply covers_trans _ hA; decide +kernel)
      | intro _ | rfl | dsimp only | split)

/-- What `execEthLinkChange` keeps. -/
theorem execEthLinkChange_evolves {A : List Part} {s₀ s : State} (h : Evolves A s₀ s) (p : Fin 2) (up : Bool)
    (hA : covers ([Part.reg .ET_ETHSTAT] ++ raiseParts) A = true) :
    ∃ u, execEthLinkChange p up s = .next u ∧ Evolves A s₀ u := by
  unfold execEthLinkChange
  refine ⟨_, rfl, ?_⟩
  with_reducible repeat (first
      | assumption
      | apply State.raise_evolves
      | apply State.put_evolves
      | (apply covers_trans _ hA; decide +kernel)
      | intro _ | rfl | dsimp only | split)

/-- What `State.ethctlWrite` keeps. -/
theorem State.ethctlWrite_evolves {A : List Part} {s₀ s : State} (h : Evolves A s₀ s) (p : Nat) (v : Word)
    (hA : covers [.host, .reg .ET_ETHCTL] A = true) :
    Evolves A s₀ (s.ethctlWrite p v) := by
  unfold State.ethctlWrite
  with_reducible repeat (first
      | assumption
      | apply State.condWrite_evolves
      | (apply covers_trans _ hA; decide +kernel)
      | intro _ | rfl | dsimp only [id] | dsimp only | split
      | (apply host_evolves; first | assumption | apply State.condWrite_evolves | intro _ | rfl | dsimp only [id] | dsimp only | split))

/-- What `execCanFrameReceive` keeps. -/
theorem execCanFrameReceive_evolves {A : List Part} {s₀ s : State} (h : Evolves A s₀ s) (n : Fin 4) (buf : Fin 64) (f : CanMsg) (accepted : Bool)
    (hA : covers ([Part.host] ++ raiseParts) A = true) :
    ∃ u, execCanFrameReceive n buf f accepted s = .next u ∧ Evolves A s₀ u := by
  unfold execCanFrameReceive
  refine ⟨_, rfl, ?_⟩
  with_reducible repeat (first
      | assumption
      | apply State.raise_evolves
      | apply State.updHost_evolves
      | (apply covers_trans _ hA; decide +kernel)
      | intro _ | rfl | dsimp only | split)

/-- What `execCanFrameTransmit` keeps. -/
theorem execCanFrameTransmit_evolves {A : List Part} {s₀ s : State} (h : Evolves A s₀ s) (n : Fin 4) (buf : Fin 64) (f : CanSend)
    (hA : covers ([Part.host] ++ raiseParts) A = true) :
    ∃ u, execCanFrameTransmit n buf f s = .next u ∧ Evolves A s₀ u := by
  unfold execCanFrameTransmit
  refine ⟨_, rfl, ?_⟩
  with_reducible repeat (first
      | assumption
      | apply State.raise_evolves
      | apply State.updHost_evolves
      | (apply covers_trans _ hA; decide +kernel)
      | intro _ | rfl | dsimp only | split)

/-- What `execCanErrorStateChange` keeps. -/
theorem execCanErrorStateChange_evolves {A : List Part} {s₀ s : State} (h : Evolves A s₀ s) (n : Fin 4) (st : Fin 3)
    (hA : covers ([Part.host] ++ raiseParts) A = true) :
    ∃ u, execCanErrorStateChange n st s = .next u ∧ Evolves A s₀ u := by
  unfold execCanErrorStateChange
  refine ⟨_, rfl, ?_⟩
  with_reducible repeat (first
      | assumption
      | apply State.raise_evolves
      | apply State.updHost_evolves
      | (apply covers_trans _ hA; decide +kernel)
      | intro _ | rfl | dsimp only | split)

/-- What `State.updUart` keeps. -/
theorem State.updUart_evolves {A : List Part} {s₀ s : State} (h : Evolves A s₀ s) (n : Fin 6) (f : UartU → UartU) (hA : covers [.host] A = true) :
    Evolves A s₀ (s.updUart n f) := by
  unfold State.updUart
  with_reducible repeat (first
      | assumption
      | apply State.updHost_evolves
      | (apply covers_trans _ hA; decide +kernel)
      | intro _ | rfl | dsimp only | split)

/-- What `State.bankUart` keeps. -/
theorem State.bankUart_evolves {A : List Part} {s₀ s : State} (h : Evolves A s₀ s) (c : Byte)
    (hA : covers ([Part.bank, .reg .EX_MBCTL, .reg .EX_EXSTAT] ++ replyParts) A = true) :
    Evolves A s₀ (s.bankUart c) := by
  unfold State.bankUart
  with_reducible repeat (first
      | assumption
      | apply State.submit_evolves
      | apply State.put_evolves
      | apply State.mbPut_evolves
      | (apply covers_trans _ hA; decide +kernel)
      | intro _ | rfl | dsimp only | split
      | (apply bank_evolves; first | assumption | apply State.submit_evolves | apply State.put_evolves | apply State.mbPut_evolves | intro _ | rfl | dsimp only | split)
      | exact ⟨rfl, rfl, rfl⟩)

/-- What `State.uartPut` keeps. -/
theorem State.uartPut_evolves {A : List Part} {s₀ s : State} (h : Evolves A s₀ s) (n : Fin 6) (c : Byte) (modbus : Bool) (taken : Nat)
    (hA : covers ([Part.freeIdx, .host] ++ raiseParts) A = true) :
    Evolves A s₀ (s.uartPut n c modbus taken) := by
  unfold State.uartPut
  with_reducible repeat (first
      | assumption
      | apply State.updUart_evolves
      | apply State.raise_evolves
      | apply State.free_evolves
      | (apply covers_trans _ hA; decide +kernel)
      | intro _ | rfl | dsimp only | split)

/-- What `execUartReceive` keeps. -/
theorem execUartReceive_evolves {A : List Part} {s₀ s : State} (h : Evolves A s₀ s) (n : Fin 6) (c : Byte) (modbus : Bool) (taken : Nat)
    (hA : covers ([Part.bank, .host, .reg .EX_MBCTL, .reg .EX_EXSTAT] ++ replyParts) A = true) :
    ∃ u, execUartReceive n c modbus taken s = .next u ∧ Evolves A s₀ u := by
  unfold execUartReceive
  refine ⟨_, rfl, ?_⟩
  with_reducible repeat (first
      | assumption
      | apply State.bankUart_evolves
      | apply State.uartPut_evolves
      | (apply covers_trans _ hA; decide +kernel)
      | intro _ | rfl | dsimp only | split)

/-- What `execUartTransmitDone` keeps. -/
theorem execUartTransmitDone_evolves {A : List Part} {s₀ s : State} (h : Evolves A s₀ s) (n : Fin 6) (l : UartSend) (modbus : Bool) (err : Bool)
    (hA : covers ([Part.host] ++ raiseParts) A = true) :
    ∃ u, execUartTransmitDone n l modbus err s = .next u ∧ Evolves A s₀ u := by
  unfold execUartTransmitDone
  refine ⟨_, rfl, ?_⟩
  with_reducible repeat (first
      | assumption
      | apply State.raise_evolves
      | apply State.updUart_evolves
      | (apply covers_trans _ hA; decide +kernel)
      | intro _ | rfl | dsimp only | split)

/-- What `execModbusFrameEnd` keeps. -/
theorem execModbusFrameEnd_evolves {A : List Part} {s₀ s : State} (h : Evolves A s₀ s) (n : Fin 6) (gap : Bool)
    (hA : covers ([Part.host] ++ raiseParts) A = true) :
    ∃ u, execModbusFrameEnd n gap s = .next u ∧ Evolves A s₀ u := by
  unfold execModbusFrameEnd
  refine ⟨_, rfl, ?_⟩
  with_reducible repeat (first
      | assumption
      | apply State.raise_evolves
      | apply State.updUart_evolves
      | (apply covers_trans _ hA; decide +kernel)
      | intro _ | rfl | dsimp only | split)

/-- What `execSpiTransfer` keeps. -/
theorem execSpiTransfer_evolves {A : List Part} {s₀ s : State} (h : Evolves A s₀ s) (n : Fin 4) (len : Fin 33) (rx : Word) (tx : Word)
    (hA : covers ([Part.host] ++ raiseParts) A = true) :
    ∃ u, execSpiTransfer n len rx tx s = .next u ∧ Evolves A s₀ u := by
  unfold execSpiTransfer
  refine ⟨_, rfl, ?_⟩
  with_reducible repeat (first
      | assumption
      | apply State.raise_evolves
      | apply State.updHost_evolves
      | (apply covers_trans _ hA; decide +kernel)
      | intro _ | rfl | dsimp only | split)

/-- What `execI2cTransfer` keeps. -/
theorem execI2cTransfer_evolves {A : List Part} {s₀ s : State} (h : Evolves A s₀ s) (n : Fin 2) (l : List Byte)
    (hA : covers ([Part.host] ++ raiseParts) A = true) :
    ∃ u, execI2cTransfer n l s = .next u ∧ Evolves A s₀ u := by
  unfold execI2cTransfer
  refine ⟨_, rfl, ?_⟩
  with_reducible repeat (first
      | assumption
      | apply State.raise_evolves
      | apply State.updHost_evolves
      | (apply covers_trans _ hA; decide +kernel)
      | intro _ | rfl | dsimp only | split)

/-- What `execGpioEvent` keeps. -/
theorem execGpioEvent_evolves {A : List Part} {s₀ s : State} (h : Evolves A s₀ s) (g : Fin 64) (level : Bool)
    (hA : covers ([Part.reg .GP_GPIOIN] ++ raiseParts) A = true) :
    ∃ u, execGpioEvent g level s = .next u ∧ Evolves A s₀ u := by
  unfold execGpioEvent
  refine ⟨_, rfl, ?_⟩
  with_reducible repeat (first
      | assumption
      | apply State.raiseIf_evolves
      | apply State.wrw_evolves
      | (apply covers_trans _ hA; decide +kernel)
      | intro _ | rfl | dsimp only | split)

/-- What `State.gpiocfgWrite` keeps. -/
theorem State.gpiocfgWrite_evolves {A : List Part} {s₀ s : State} (h : Evolves A s₀ s) (g : Nat) (v : Word)
    (hA : covers [.reg .GP_GPIOCFG] A = true) :
    Evolves A s₀ (s.gpiocfgWrite g v) := by
  unfold State.gpiocfgWrite
  with_reducible repeat (first
      | assumption
      | apply State.condWrite_evolves
      | (apply covers_trans _ hA; decide +kernel)
      | intro _ | rfl | dsimp only [id] | dsimp only | split)

/-- What `State.flashEcc` keeps. -/
theorem State.flashEcc_evolves {A : List Part} {s₀ s : State} (h : Evolves A s₀ s) (a : Nat) (ecc : Nat)
    (hA : covers ([Part.reg .SE_MEMSTAT, .reg .SE_MEMERRA] ++ raiseParts) A = true) :
    Evolves A s₀ (s.flashEcc a ecc) := by
  unfold State.flashEcc
  with_reducible repeat (first
      | assumption
      | apply State.bumpSat_evolves
      | apply State.put_evolves
      | apply State.raise_evolves
      | (apply covers_trans _ hA; decide +kernel)
      | intro _ | rfl | dsimp only | split)

/-- What `execSramScrub` keeps. -/
theorem execSramScrub_evolves {A : List Part} {s₀ s : State} (h : Evolves A s₀ s) (k : Fin 1048576) (ecc : Fin 3)
    (hA : covers ([Part.reg .SE_MEMSTAT, .reg .SE_MEMERRA] ++ raiseParts) A = true) :
    ∃ u, execSramScrub k ecc s = .next u ∧ Evolves A s₀ u := by
  unfold execSramScrub
  refine ⟨_, rfl, ?_⟩
  with_reducible repeat (first
      | assumption
      | apply State.sramEcc_evolves
      | (apply covers_trans _ hA; decide +kernel)
      | intro _ | rfl | dsimp only | split)

end Sys2Proof.Machine
end

