-- ==== Sys2Proof/Laws/MovesBus.lean ====
section
/-! SUPPORT. What each operation of accesses to registers and memory keeps: one lemma per function (`Evolves`). -/

set_option Elab.async false
set_option linter.unusedTactic false
set_option linter.unreachableTactic false
set_option linter.unusedVariables false

namespace Sys2Proof.Machine

/-! ### Machine/Registers -/

/-- What `State.engWrite` keeps. -/
theorem State.engWrite_evolves {A : List Part} {s₀ s : State} (h : Evolves A s₀ s) (m : Master) (e : Nat) (f : State → State) (hf : ∀ x0, Evolves A s₀ x0 → Evolves A s₀ (f x0))
    (hA : covers [.fresh, .reg .BLK_BLKCTL, .reg .PK_PSTAT] A = true) :
    Evolves A s₀ (s.engWrite m e f) := by
  unfold State.engWrite
  with_reducible repeat (first
      | assumption
      | apply hf
      | apply State.asCellOwner_evolves
      | apply State.put_evolves
      | (apply covers_trans _ hA; decide +kernel)
      | intro _ | rfl | dsimp only | split)

/-- What `State.sliceStore` keeps. -/
theorem State.sliceStore_evolves {A : List Part} {s₀ s : State} (h : Evolves A s₀ s) (m : Master) (i : Nat) (f : State → Nat → State) (hf : ∀ x0 x1, Evolves A s₀ x0 → Evolves A s₀ (f x0 x1))
    (hA : covers [.fresh, .reg .IC_SSTAT] A = true) :
    Evolves A s₀ (s.sliceStore m i f) := by
  unfold State.sliceStore
  with_reducible repeat (first
      | assumption
      | apply hf
      | apply State.sliceWrite_evolves
      | (apply covers_trans _ hA; decide +kernel)
      | intro _ | rfl | dsimp only | split)

/-- What `State.pickStore` keeps. -/
theorem State.pickStore_evolves {A : List Part} {s₀ s : State} (h : Evolves A s₀ s) (m : Master) (r : RegId) (v : Word) (i : Nat) (j : Nat)
    (hA : covers Part.all A = true) :
    Evolves A s₀ (s.pickStore m r v i j) := by
  unfold State.pickStore
  with_reducible repeat (first
      | assumption
      | apply State.engWrite_evolves
      | apply State.pctlPickWrite_evolves
      | apply State.pickPlainWrite_evolves
      | apply State.budgetWrite_evolves
      | apply State.slicemapWrite_evolves
      | apply State.paramgoWrite_evolves
      | apply State.paramWrite_evolves
      | apply State.replatchWrite_evolves
      | apply State.asCellOwner_evolves
      | apply State.arbctlWrite_evolves
      | (apply covers_trans _ hA; exact covers_all _)
      | intro _ | rfl | dsimp only [id] | dsimp only | split)

/-- What `State.senseStore` keeps. -/
theorem State.senseStore_evolves {A : List Part} {s₀ s : State} (h : Evolves A s₀ s) (m : Master) (r : RegId) (v : Word) (i : Nat) (j : Nat)
    (hA : covers Part.all A = true) :
    Evolves A s₀ (s.senseStore m r v i j) := by
  unfold State.senseStore
  with_reducible repeat (first
      | assumption
      | apply State.senseWrite_evolves
      | apply State.ctlSenseWrite_evolves
      | apply State.diagselWrite_evolves
      | apply State.regWrite_evolves
      | apply State.sdmckWrite_evolves
      | apply State.seqctlWrite_evolves
      | apply State.seqPlainWrite_evolves
      | apply State.seqgoWrite_evolves
      | apply State.chanWrite_evolves
      | apply State.chctlSenseWrite_evolves
      | apply State.slctlWrite_evolves
      | apply State.mmctlWrite_evolves
      | (apply covers_trans _ hA; exact covers_all _)
      | intro _ | rfl | dsimp only [id] | dsimp only | split)

/-- What `State.stageStore` keeps. -/
theorem State.stageStore_evolves {A : List Part} {s₀ s : State} (h : Evolves A s₀ s) (m : Master) (r : RegId) (v : Word) (i : Nat) (j : Nat)
    (hA : covers Part.all A = true) :
    Evolves A s₀ (s.stageStore m r v i j) := by
  unfold State.stageStore
  with_reducible repeat (first
      | assumption
      | apply State.canaryPlainWrite_evolves
      | apply State.asCellOwner_evolves
      | apply State.wctlWrite_evolves
      | apply State.wthrWrite_evolves
      | apply State.wstatWrite_evolves
      | apply State.regWrite_evolves
      | apply State.gatestatWrite_evolves
      | apply State.asOwner_evolves
      | apply State.grpctlWrite_evolves
      | apply State.grpcommitWrite_evolves
      | apply State.chctlPwmWrite_evolves
      | apply State.setDuty_evolves
      | apply State.ovrWrite_evolves
      | apply State.safeWrite_evolves
      | apply State.pctlCageWrite_evolves
      | apply State.bctlWrite_evolves
      | apply State.cgstatWrite_evolves
      | apply State.asRampOwner_evolves
      | apply State.rctlRampWrite_evolves
      | apply State.rampPlainWrite_evolves
      | (apply covers_trans _ hA; exact covers_all _)
      | intro _ | rfl | dsimp only [id] | dsimp only | split)

/-- What `State.headStore` keeps. -/
theorem State.headStore_evolves {A : List Part} {s₀ s : State} (h : Evolves A s₀ s) (m : Master) (r : RegId) (v : Word) (i : Nat)
    (hA : covers Part.all A = true) :
    Evolves A s₀ (s.headStore m r v i) := by
  unfold State.headStore
  with_reducible repeat (first
      | assumption
      | apply State.blkctlWrite_evolves
      | apply State.blkcellsWrite_evolves
      | apply State.domainWrite_evolves
      | apply State.evtangWrite_evolves
      | apply State.evtctlWrite_evolves
      | apply State.shiftCtlWrite_evolves
      | apply State.commitWrite_evolves
      | apply State.regWrite_evolves
      | (apply covers_trans _ hA; exact covers_all _)
      | intro _ | rfl | dsimp only | split)

/-- What `State.driftStore` keeps. -/
theorem State.driftStore_evolves {A : List Part} {s₀ s : State} (h : Evolves A s₀ s) (m : Master) (r : RegId) (v : Word) (i : Nat) (j : Nat)
    (hA : covers Part.all A = true) :
    Evolves A s₀ (s.driftStore m r v i j) := by
  unfold State.driftStore
  with_reducible repeat (first
      | assumption
      | apply State.pctlPairWrite_evolves
      | apply State.plogWrite_evolves
      | apply State.ownrgnWrite_evolves
      | apply State.driftPlainWrite_evolves
      | apply State.srccfgWrite_evolves
      | apply State.gcfgWrite_evolves
      | apply State.icPlainWrite_evolves
      | apply State.pairShowWrite_evolves
      | apply State.sliceStore_evolves
      | apply State.complete_evolves
      | apply State.pendWrite_evolves
      | (apply covers_trans _ hA; exact covers_all _)
      | intro _ | rfl | dsimp only | split)

/-- What `State.guardStore` keeps. -/
theorem State.guardStore_evolves {A : List Part} {s₀ s : State} (h : Evolves A s₀ s) (m : Master) (r : RegId) (v : Word) (i : Nat) (j : Nat)
    (hA : covers Part.all A = true) :
    Evolves A s₀ (s.guardStore m r v i j) := by
  unfold State.guardStore
  with_reducible repeat (first
      | assumption
      | apply State.asSafety_evolves
      | apply State.fsafenWrite_evolves
      | apply State.fcmdWrite_evolves
      | apply State.fclrWrite_evolves
      | apply State.btestWrite_evolves
      | apply State.regWrite_evolves
      | apply State.mbctlWrite_evolves
      | apply State.mbWrite_evolves
      | apply State.put_evolves
      | (apply covers_trans _ hA; exact covers_all _)
      | intro _ | rfl | dsimp only | split)

/-- What `State.supplyStore` keeps. -/
theorem State.supplyStore_evolves {A : List Part} {s₀ s : State} (h : Evolves A s₀ s) (m : Master) (r : RegId) (v : Word) (i : Nat)
    (hA : covers Part.all A = true) :
    Evolves A s₀ (s.supplyStore m r v i) := by
  unfold State.supplyStore
  with_reducible repeat (first
      | assumption
      | apply State.wctlSrcWrite_evolves
      | apply State.sctlSynthWrite_evolves
      | apply State.sscfgWrite_evolves
      | apply State.rctlWinderWrite_evolves
      | apply State.rsegWrite_evolves
      | apply State.octlWrite_evolves
      | apply State.powerWrite_evolves
      | apply State.rstctlWrite_evolves
      | apply State.rstrelWrite_evolves
      | apply State.wdtctlWrite_evolves
      | apply State.wdtkickWrite_evolves
      | apply State.padWrite_evolves
      | apply State.lampWrite_evolves
      | apply State.regWrite_evolves
      | (apply covers_trans _ hA; exact covers_all _)
      | intro _ | rfl | dsimp only | split)

/-- What `State.linkStore` keeps. -/
theorem State.linkStore_evolves {A : List Part} {s₀ s : State} (h : Evolves A s₀ s) (m : Master) (r : RegId) (v : Word) (i : Nat) (j : Nat)
    (hA : covers Part.all A = true) :
    Evolves A s₀ (s.linkStore m r v i j) := by
  unfold State.linkStore
  with_reducible repeat (first
      | assumption
      | apply State.seamWrite_evolves
      | apply State.strcfgWrite_evolves
      | apply State.strput_evolves
      | apply State.trgctlWrite_evolves
      | apply State.drcfgWrite_evolves
      | apply State.uhlaWrite_evolves
      | apply State.uctlWrite_evolves
      | apply State.ugidWrite_evolves
      | apply State.utripgoWrite_evolves
      | apply State.utripWrite_evolves
      | apply State.usvcfgWrite_evolves
      | apply State.usvputWrite_evolves
      | apply State.ethctlWrite_evolves
      | apply State.adjWrite_evolves
      | apply State.ptpStep_evolves
      | apply State.trustWrite_evolves
      | apply State.gpiocfgWrite_evolves
      | apply State.regWrite_evolves
      | apply State.assayWrite_evolves
      | (apply covers_trans _ hA; exact covers_all _)
      | intro _ | rfl | dsimp only | split)

/-- What `State.store` keeps. -/
theorem State.store_evolves {A : List Part} {s₀ s : State} (h : Evolves A s₀ s) (m : Master) (r : RegId) (v : Word) (i : Nat) (j : Nat)
    (hA : covers Part.all A = true) :
    Evolves A s₀ (s.store m r v i j) := by
  unfold State.store
  with_reducible repeat (first
      | assumption
      | apply State.headStore_evolves
      | apply State.pickStore_evolves
      | apply State.senseStore_evolves
      | apply State.stageStore_evolves
      | apply State.driftStore_evolves
      | apply State.guardStore_evolves
      | apply State.supplyStore_evolves
      | apply State.linkStore_evolves
      | (apply covers_trans _ hA; exact covers_all _)
      | intro _ | rfl | dsimp only | split)

/-- What `State.regStore` keeps. -/
theorem State.regStore_evolves {A : List Part} {s₀ s : State} (h : Evolves A s₀ s) (m : Master) (r : RegId) (v : Word) (i : Nat) (j : Nat)
    (hA : covers Part.all A = true) :
    Evolves A s₀ (s.regStore m r v i j) := by
  unfold State.regStore
  with_reducible repeat (first
      | assumption
      | apply State.store_evolves
      | apply State.noteWrite_evolves
      | (apply covers_trans _ hA; exact covers_all _)
      | intro _ | rfl | dsimp only | split)

/-- A write to AS_ACTL. -/
theorem State.store_AS_ACTL (s : State) (m : Master) (v : Word) (i j : Nat) :
    s.store m .AS_ACTL v i j = s.assayWrite .AS_ACTL v i := rfl

/-- What a write to AS_ACTL keeps. -/
theorem State.store_AS_ACTL_evolves {A : List Part} {s₀ s : State} (h : Evolves A s₀ s) (m : Master) (v : Word) (i j : Nat)
    (hA : covers [.fresh, .assay, .reg .AS_ACTL, .reg .AS_ASTAT] A = true) :
    Evolves A s₀ (s.store m .AS_ACTL v i j) := by
  rw [State.store_AS_ACTL]
  with_reducible repeat (first
      | assumption
      | apply State.assayWrite_evolves
      | (apply covers_trans _ hA; decide +kernel)
      | intro _ | dsimp only | split)

/-- A write to BLK_BLKCELLS0. -/
theorem State.store_BLK_BLKCELLS0 (s : State) (m : Master) (v : Word) (i j : Nat) :
    s.store m .BLK_BLKCELLS0 v i j = s.blkcellsWrite m i false v := rfl

/-- What a write to BLK_BLKCELLS0 keeps. -/
theorem State.store_BLK_BLKCELLS0_evolves {A : List Part} {s₀ s : State} (h : Evolves A s₀ s) (m : Master) (v : Word) (i j : Nat)
    (hA : covers ([Part.reg .BLK_BLKCELLS0, .reg .BLK_BLKCELLS1, .reg .PW_ACTCMP, .reg .CG_CGSTAT, .reg .FM_FCAUSE] ++ sf2Parts ++
      seamParts) A = true) :
    Evolves A s₀ (s.store m .BLK_BLKCELLS0 v i j) := by
  rw [State.store_BLK_BLKCELLS0]
  with_reducible repeat (first
      | assumption
      | apply State.blkcellsWrite_evolves
      | (apply covers_trans _ hA; decide +kernel)
      | intro _ | dsimp only | split)

/-- A write to BLK_BLKCELLS1. -/
theorem State.store_BLK_BLKCELLS1 (s : State) (m : Master) (v : Word) (i j : Nat) :
    s.store m .BLK_BLKCELLS1 v i j = s.blkcellsWrite m i true v := rfl

/-- What a write to BLK_BLKCELLS1 keeps. -/
theorem State.store_BLK_BLKCELLS1_evolves {A : List Part} {s₀ s : State} (h : Evolves A s₀ s) (m : Master) (v : Word) (i j : Nat)
    (hA : covers ([Part.reg .BLK_BLKCELLS0, .reg .BLK_BLKCELLS1, .reg .PW_ACTCMP, .reg .CG_CGSTAT, .reg .FM_FCAUSE] ++ sf2Parts ++
      seamParts) A = true) :
    Evolves A s₀ (s.store m .BLK_BLKCELLS1 v i j) := by
  rw [State.store_BLK_BLKCELLS1]
  with_reducible repeat (first
      | assumption
      | apply State.blkcellsWrite_evolves
      | (apply covers_trans _ hA; decide +kernel)
      | intro _ | dsimp only | split)

/-- A write to BLK_BLKCTL. -/
theorem State.store_BLK_BLKCTL (s : State) (m : Master) (v : Word) (i j : Nat) :
    s.store m .BLK_BLKCTL v i j = s.blkctlWrite m i v := rfl

/-- What a write to BLK_BLKCTL keeps. -/
theorem State.store_BLK_BLKCTL_evolves {A : List Part} {s₀ s : State} (h : Evolves A s₀ s) (m : Master) (v : Word) (i j : Nat)
    (hA : covers ([Part.pick, .reg .BLK_BLKCTL, .reg .RG_RSTAT] ++ raiseParts ++ coastParts ++ gateParts) A = true) :
    Evolves A s₀ (s.store m .BLK_BLKCTL v i j) := by
  rw [State.store_BLK_BLKCTL]
  with_reducible repeat (first
      | assumption
      | apply State.blkctlWrite_evolves
      | (apply covers_trans _ hA; decide +kernel)
      | intro _ | dsimp only | split)

/-- A write to CG_PCTL. -/
theorem State.store_CG_PCTL (s : State) (m : Master) (v : Word) (i j : Nat) :
    s.store m .CG_PCTL v i j = s.asCellOwner m i (fun s => s.pctlCageWrite i v) := rfl

/-- What a write to CG_PCTL keeps. -/
theorem State.store_CG_PCTL_evolves {A : List Part} {s₀ s : State} (h : Evolves A s₀ s) (m : Master) (v : Word) (i j : Nat)
    (hA : covers ([Part.reg .CG_PCTL, .reg .CG_FBSTAMP, .reg .CG_CGSTAT, .reg .FM_FCAUSE] ++ sf2Parts ++ seamParts) A = true) :
    Evolves A s₀ (s.store m .CG_PCTL v i j) := by
  rw [State.store_CG_PCTL]
  with_reducible repeat (first
      | assumption
      | apply State.asCellOwner_evolves
      | apply State.pctlCageWrite_evolves
      | (apply covers_trans _ hA; decide +kernel)
      | intro _ | dsimp only | split)

/-- A write to CN_WCTL. -/
theorem State.store_CN_WCTL (s : State) (m : Master) (v : Word) (i j : Nat) :
    s.store m .CN_WCTL v i j = s.asCellOwner m (i / 2) (fun s => s.wctlWrite i v) := rfl

/-- What a write to CN_WCTL keeps. -/
theorem State.store_CN_WCTL_evolves {A : List Part} {s₀ s : State} (h : Evolves A s₀ s) (m : Master) (v : Word) (i j : Nat)
    (hA : covers ([Part.reg .BLK_BLKCTL, .reg .CN_WCTL, .reg .CN_WSTAT] ++ gateParts) A = true) :
    Evolves A s₀ (s.store m .CN_WCTL v i j) := by
  rw [State.store_CN_WCTL]
  with_reducible repeat (first
      | assumption
      | apply State.asCellOwner_evolves
      | apply State.wctlWrite_evolves
      | (apply covers_trans _ hA; decide +kernel)
      | intro _ | dsimp only | split)

/-- A write to CN_WSTAT. -/
theorem State.store_CN_WSTAT (s : State) (m : Master) (v : Word) (i j : Nat) :
    s.store m .CN_WSTAT v i j = s.asCellOwner m (i / 2) (fun s => s.wstatWrite i v) := rfl

/-- What a write to CN_WSTAT keeps. -/
theorem State.store_CN_WSTAT_evolves {A : List Part} {s₀ s : State} (h : Evolves A s₀ s) (m : Master) (v : Word) (i j : Nat)
    (hA : covers ([Part.reg .BLK_BLKCTL, .reg .CN_WSTAT] ++ gateParts) A = true) :
    Evolves A s₀ (s.store m .CN_WSTAT v i j) := by
  rw [State.store_CN_WSTAT]
  with_reducible repeat (first
      | assumption
      | apply State.asCellOwner_evolves
      | apply State.wstatWrite_evolves
      | (apply covers_trans _ hA; decide +kernel)
      | intro _ | dsimp only | split)

/-- A write to CN_WTHR. -/
theorem State.store_CN_WTHR (s : State) (m : Master) (v : Word) (i j : Nat) :
    s.store m .CN_WTHR v i j = s.asCellOwner m (i / 2) (fun s => s.wthrWrite i v) := rfl

/-- What a write to CN_WTHR keeps. -/
theorem State.store_CN_WTHR_evolves {A : List Part} {s₀ s : State} (h : Evolves A s₀ s) (m : Master) (v : Word) (i j : Nat)
    (hA : covers [.fresh, .timers, .reg .BLK_BLKCTL, .reg .CN_WTHR, .reg .CN_WSTAT] A = true) :
    Evolves A s₀ (s.store m .CN_WTHR v i j) := by
  rw [State.store_CN_WTHR]
  with_reducible repeat (first
      | assumption
      | apply State.asCellOwner_evolves
      | apply State.wthrWrite_evolves
      | (apply covers_trans _ hA; decide +kernel)
      | intro _ | dsimp only | split)

/-- A write to DR_OWNRGN. -/
theorem State.store_DR_OWNRGN (s : State) (m : Master) (v : Word) (i j : Nat) :
    s.store m .DR_OWNRGN v i j = s.ownrgnWrite m i j v := rfl

/-- What a write to DR_OWNRGN keeps. -/
theorem State.store_DR_OWNRGN_evolves {A : List Part} {s₀ s : State} (h : Evolves A s₀ s) (m : Master) (v : Word) (i j : Nat)
    (hA : covers [.fresh, .reg .DR_DSTAT, .reg .DR_PCTL, .reg .DR_OWNRGN] A = true) :
    Evolves A s₀ (s.store m .DR_OWNRGN v i j) := by
  rw [State.store_DR_OWNRGN]
  with_reducible repeat (first
      | assumption
      | apply State.ownrgnWrite_evolves
      | (apply covers_trans _ hA; decide +kernel)
      | intro _ | dsimp only | split)

/-- A write to DR_PCTL. -/
theorem State.store_DR_PCTL (s : State) (m : Master) (v : Word) (i j : Nat) :
    s.store m .DR_PCTL v i j = s.pctlPairWrite m i v := rfl

/-- What a write to DR_PCTL keeps. -/
theorem State.store_DR_PCTL_evolves {A : List Part} {s₀ s : State} (h : Evolves A s₀ s) (m : Master) (v : Word) (i j : Nat)
    (hA : covers pairCtlParts A = true) :
    Evolves A s₀ (s.store m .DR_PCTL v i j) := by
  rw [State.store_DR_PCTL]
  with_reducible repeat (first
      | assumption
      | apply State.pctlPairWrite_evolves
      | (apply covers_trans _ hA; decide +kernel)
      | intro _ | dsimp only | split)

/-- A write to DR_PLOG. -/
theorem State.store_DR_PLOG (s : State) (m : Master) (v : Word) (i j : Nat) :
    s.store m .DR_PLOG v i j = s.plogWrite m i v := rfl

/-- What a write to DR_PLOG keeps. -/
theorem State.store_DR_PLOG_evolves {A : List Part} {s₀ s : State} (h : Evolves A s₀ s) (m : Master) (v : Word) (i j : Nat)
    (hA : covers [.fresh, .reg .DR_DSTAT, .reg .DR_PLOG] A = true) :
    Evolves A s₀ (s.store m .DR_PLOG v i j) := by
  rw [State.store_DR_PLOG]
  with_reducible repeat (first
      | assumption
      | apply State.plogWrite_evolves
      | (apply covers_trans _ hA; decide +kernel)
      | intro _ | dsimp only | split)

/-- A write to ET_PTPSTEP. -/
theorem State.store_ET_PTPSTEP (s : State) (m : Master) (v : Word) (i j : Nat) :
    s.store m .ET_PTPSTEP v i j = s.ptpStep v := rfl

/-- What a write to ET_PTPSTEP keeps. -/
theorem State.store_ET_PTPSTEP_evolves {A : List Part} {s₀ s : State} (h : Evolves A s₀ s) (m : Master) (v : Word) (i j : Nat)
    (hA : covers ([Part.host] ++ raiseParts) A = true) :
    Evolves A s₀ (s.store m .ET_PTPSTEP v i j) := by
  rw [State.store_ET_PTPSTEP]
  with_reducible repeat (first
      | assumption
      | apply State.ptpStep_evolves
      | (apply covers_trans _ hA; decide +kernel)
      | intro _ | dsimp only | split)

/-- A write to ET_PTPTRUST. -/
theorem State.store_ET_PTPTRUST (s : State) (m : Master) (v : Word) (i j : Nat) :
    s.store m .ET_PTPTRUST v i j = s.trustWrite v := rfl

/-- What a write to ET_PTPTRUST keeps. -/
theorem State.store_ET_PTPTRUST_evolves {A : List Part} {s₀ s : State} (h : Evolves A s₀ s) (m : Master) (v : Word) (i j : Nat)
    (hA : covers ([Part.host, .reg .ET_PTPTRUST] ++ raiseParts) A = true) :
    Evolves A s₀ (s.store m .ET_PTPTRUST v i j) := by
  rw [State.store_ET_PTPTRUST]
  with_reducible repeat (first
      | assumption
      | apply State.trustWrite_evolves
      | (apply covers_trans _ hA; decide +kernel)
      | intro _ | dsimp only | split)

/-- A write to EV_EVTANG. -/
theorem State.store_EV_EVTANG (s : State) (m : Master) (v : Word) (i j : Nat) :
    s.store m .EV_EVTANG v i j = s.evtangWrite i v := rfl

/-- What a write to EV_EVTANG keeps. -/
theorem State.store_EV_EVTANG_evolves {A : List Part} {s₀ s : State} (h : Evolves A s₀ s) (m : Master) (v : Word) (i j : Nat)
    (hA : covers [.head, .reg .EV_EVTANG] A = true) :
    Evolves A s₀ (s.store m .EV_EVTANG v i j) := by
  rw [State.store_EV_EVTANG]
  with_reducible repeat (first
      | assumption
      | apply State.evtangWrite_evolves
      | (apply covers_trans _ hA; decide +kernel)
      | intro _ | dsimp only | split)

/-- A write to EV_EVTCTL. -/
theorem State.store_EV_EVTCTL (s : State) (m : Master) (v : Word) (i j : Nat) :
    s.store m .EV_EVTCTL v i j = s.evtctlWrite i v := rfl

/-- What a write to EV_EVTCTL keeps. -/
theorem State.store_EV_EVTCTL_evolves {A : List Part} {s₀ s : State} (h : Evolves A s₀ s) (m : Master) (v : Word) (i j : Nat)
    (hA : covers [.fresh, .head, .reg .HF_DOMSTAT, .reg .EV_EVTCTL] A = true) :
    Evolves A s₀ (s.store m .EV_EVTCTL v i j) := by
  rw [State.store_EV_EVTCTL]
  with_reducible repeat (first
      | assumption
      | apply State.evtctlWrite_evolves
      | (apply covers_trans _ hA; decide +kernel)
      | intro _ | dsimp only | split)

/-- A write to EX_MBCTL. -/
theorem State.store_EX_MBCTL (s : State) (m : Master) (v : Word) (i j : Nat) :
    s.store m .EX_MBCTL v i j = s.mbctlWrite m i v := rfl

/-- What a write to EX_MBCTL keeps. -/
theorem State.store_EX_MBCTL_evolves {A : List Part} {s₀ s : State} (h : Evolves A s₀ s) (m : Master) (v : Word) (i j : Nat)
    (hA : covers ([Part.bank, .reg .EX_MBCTL, .reg .EX_EXSTAT] ++ replyParts) A = true) :
    Evolves A s₀ (s.store m .EX_MBCTL v i j) := by
  rw [State.store_EX_MBCTL]
  with_reducible repeat (first
      | assumption
      | apply State.mbctlWrite_evolves
      | (apply covers_trans _ hA; decide +kernel)
      | intro _ | dsimp only | split)

/-- A write to FM_BTEST. -/
theorem State.store_FM_BTEST (s : State) (m : Master) (v : Word) (i j : Nat) :
    s.store m .FM_BTEST v i j = s.asSafety m (fun s => s.btestWrite v) := rfl

/-- What a write to FM_BTEST keeps. -/
theorem State.store_FM_BTEST_evolves {A : List Part} {s₀ s : State} (h : Evolves A s₀ s) (m : Master) (v : Word) (i j : Nat)
    (hA : covers [.fresh, .timers, .fm, .reg .FM_FCAUSE, .reg .FM_BTEST] A = true) :
    Evolves A s₀ (s.store m .FM_BTEST v i j) := by
  rw [State.store_FM_BTEST]
  with_reducible repeat (first
      | assumption
      | apply State.asSafety_evolves
      | apply State.btestWrite_evolves
      | (apply covers_trans _ hA; decide +kernel)
      | intro _ | dsimp only | split)

/-- A write to FM_FCLR. -/
theorem State.store_FM_FCLR (s : State) (m : Master) (v : Word) (i j : Nat) :
    s.store m .FM_FCLR v i j = s.asSafety m (fun s => s.fclrWrite v) := rfl

/-- What a write to FM_FCLR keeps. -/
theorem State.store_FM_FCLR_evolves {A : List Part} {s₀ s : State} (h : Evolves A s₀ s) (m : Master) (v : Word) (i j : Nat)
    (hA : covers ([Part.fm, .reg .DR_DSTAT, .reg .FM_FSTAT, .reg .FM_FCAUSE] ++ gateParts) A = true) :
    Evolves A s₀ (s.store m .FM_FCLR v i j) := by
  rw [State.store_FM_FCLR]
  with_reducible repeat (first
      | assumption
      | apply State.asSafety_evolves
      | apply State.fclrWrite_evolves
      | (apply covers_trans _ hA; decide +kernel)
      | intro _ | dsimp only | split)

/-- A write to FM_FCMD. -/
theorem State.store_FM_FCMD (s : State) (m : Master) (v : Word) (i j : Nat) :
    s.store m .FM_FCMD v i j = s.asSafety m (fun s => s.fcmdWrite v) := rfl

/-- What a write to FM_FCMD keeps. -/
theorem State.store_FM_FCMD_evolves {A : List Part} {s₀ s : State} (h : Evolves A s₀ s) (m : Master) (v : Word) (i j : Nat)
    (hA : covers [.fresh, .fm, .reg .FM_FCMD, .reg .FM_FCAUSE] A = true) :
    Evolves A s₀ (s.store m .FM_FCMD v i j) := by
  rw [State.store_FM_FCMD]
  with_reducible repeat (first
      | assumption
      | apply State.asSafety_evolves
      | apply State.fcmdWrite_evolves
      | (apply covers_trans _ hA; decide +kernel)
      | intro _ | dsimp only | split)

/-- A write to FM_FSAFEN. -/
theorem State.store_FM_FSAFEN (s : State) (m : Master) (v : Word) (i j : Nat) :
    s.store m .FM_FSAFEN v i j = s.asSafety m (fun s => s.fsafenWrite v) := rfl

/-- What a write to FM_FSAFEN keeps. -/
theorem State.store_FM_FSAFEN_evolves {A : List Part} {s₀ s : State} (h : Evolves A s₀ s) (m : Master) (v : Word) (i j : Nat)
    (hA : covers ([Part.reg .FM_FSAFEN, .reg .FM_FCAUSE, .reg .FM_BTEST] ++ sf2Parts) A = true) :
    Evolves A s₀ (s.store m .FM_FSAFEN v i j) := by
  rw [State.store_FM_FSAFEN]
  with_reducible repeat (first
      | assumption
      | apply State.asSafety_evolves
      | apply State.fsafenWrite_evolves
      | (apply covers_trans _ hA; decide +kernel)
      | intro _ | dsimp only | split)

/-- A write to IC_GCFG. -/
theorem State.store_IC_GCFG (s : State) (m : Master) (v : Word) (i j : Nat) :
    s.store m .IC_GCFG v i j = s.gcfgWrite m i v := rfl

/-- What a write to IC_GCFG keeps. -/
theorem State.store_IC_GCFG_evolves {A : List Part} {s₀ s : State} (h : Evolves A s₀ s) (m : Master) (v : Word) (i j : Nat)
    (hA : covers [.fresh, .timers, .drift, .intc, .reg .DR_PLOG, .reg .IC_SSTAT, .reg .IC_GCFG, .reg .IC_GSTAT] A = true) :
    Evolves A s₀ (s.store m .IC_GCFG v i j) := by
  rw [State.store_IC_GCFG]
  with_reducible repeat (first
      | assumption
      | apply State.gcfgWrite_evolves
      | (apply covers_trans _ hA; decide +kernel)
      | intro _ | dsimp only | split)

/-- A write to IC_SRCCFG. -/
theorem State.store_IC_SRCCFG (s : State) (m : Master) (v : Word) (i j : Nat) :
    s.store m .IC_SRCCFG v i j = s.srccfgWrite m i v := rfl

/-- What a write to IC_SRCCFG keeps. -/
theorem State.store_IC_SRCCFG_evolves {A : List Part} {s₀ s : State} (h : Evolves A s₀ s) (m : Master) (v : Word) (i j : Nat)
    (hA : covers [.fresh, .drift, .intc, .reg .BLK_BLKCTL, .reg .DR_PLOG, .reg .IC_SRCCFG, .reg .IC_SSTAT] A = true) :
    Evolves A s₀ (s.store m .IC_SRCCFG v i j) := by
  rw [State.store_IC_SRCCFG]
  with_reducible repeat (first
      | assumption
      | apply State.srccfgWrite_evolves
      | (apply covers_trans _ hA; decide +kernel)
      | intro _ | dsimp only | split)

/-- A write to PK_ARBCTL. -/
theorem State.store_PK_ARBCTL (s : State) (m : Master) (v : Word) (i j : Nat) :
    s.store m .PK_ARBCTL v i j = s.asCellOwner m i (fun s => s.arbctlWrite i v) := rfl

/-- What a write to PK_ARBCTL keeps. -/
theorem State.store_PK_ARBCTL_evolves {A : List Part} {s₀ s : State} (h : Evolves A s₀ s) (m : Master) (v : Word) (i j : Nat)
    (hA : covers [.fresh, .pick, .reg .BLK_BLKCTL, .reg .PK_ARBCTL] A = true) :
    Evolves A s₀ (s.store m .PK_ARBCTL v i j) := by
  rw [State.store_PK_ARBCTL]
  with_reducible repeat (first
      | assumption
      | apply State.asCellOwner_evolves
      | apply State.arbctlWrite_evolves
      | (apply covers_trans _ hA; decide +kernel)
      | intro _ | dsimp only | split)

/-- A write to PK_BUDGET. -/
theorem State.store_PK_BUDGET (s : State) (m : Master) (v : Word) (i j : Nat) :
    s.store m .PK_BUDGET v i j = s.engWrite m i (fun s => s.budgetWrite i v) := rfl

/-- What a write to PK_BUDGET keeps. -/
theorem State.store_PK_BUDGET_evolves {A : List Part} {s₀ s : State} (h : Evolves A s₀ s) (m : Master) (v : Word) (i j : Nat)
    (hA : covers [.fresh, .reg .BLK_BLKCTL, .reg .PK_PSTAT, .reg .PK_BUDGET] A = true) :
    Evolves A s₀ (s.store m .PK_BUDGET v i j) := by
  rw [State.store_PK_BUDGET]
  with_reducible repeat (first
      | assumption
      | apply State.engWrite_evolves
      | apply State.budgetWrite_evolves
      | (apply covers_trans _ hA; decide +kernel)
      | intro _ | dsimp only | split)

/-- A write to PK_PARAM. -/
theorem State.store_PK_PARAM (s : State) (m : Master) (v : Word) (i j : Nat) :
    s.store m .PK_PARAM v i j = s.engWrite m i (fun s => s.paramWrite i j v) := rfl

/-- What a write to PK_PARAM keeps. -/
theorem State.store_PK_PARAM_evolves {A : List Part} {s₀ s : State} (h : Evolves A s₀ s) (m : Master) (v : Word) (i j : Nat)
    (hA : covers [.fresh, .reg .BLK_BLKCTL, .reg .PK_PSTAT, .reg .PK_PARAM] A = true) :
    Evolves A s₀ (s.store m .PK_PARAM v i j) := by
  rw [State.store_PK_PARAM]
  with_reducible repeat (first
      | assumption
      | apply State.engWrite_evolves
      | apply State.paramWrite_evolves
      | (apply covers_trans _ hA; decide +kernel)
      | intro _ | dsimp only | split)

/-- A write to PK_PARAMGO. -/
theorem State.store_PK_PARAMGO (s : State) (m : Master) (v : Word) (i j : Nat) :
    s.store m .PK_PARAMGO v i j = s.engWrite m i (fun s => s.paramgoWrite i v) := rfl

/-- What a write to PK_PARAMGO keeps. -/
theorem State.store_PK_PARAMGO_evolves {A : List Part} {s₀ s : State} (h : Evolves A s₀ s) (m : Master) (v : Word) (i j : Nat)
    (hA : covers [.fresh, .reg .BLK_BLKCTL, .reg .PK_PSTAT, .reg .PK_PARAMGO] A = true) :
    Evolves A s₀ (s.store m .PK_PARAMGO v i j) := by
  rw [State.store_PK_PARAMGO]
  with_reducible repeat (first
      | assumption
      | apply State.engWrite_evolves
      | apply State.paramgoWrite_evolves
      | (apply covers_trans _ hA; decide +kernel)
      | intro _ | dsimp only | split)

/-- A write to PK_PCTL. -/
theorem State.store_PK_PCTL (s : State) (m : Master) (v : Word) (i j : Nat) :
    s.store m .PK_PCTL v i j = s.engWrite m i (fun s => s.pctlPickWrite i v) := rfl

/-- What a write to PK_PCTL keeps. -/
theorem State.store_PK_PCTL_evolves {A : List Part} {s₀ s : State} (h : Evolves A s₀ s) (m : Master) (v : Word) (i j : Nat)
    (hA : covers [.fresh, .pick, .reg .BLK_BLKCTL, .reg .PK_PCTL, .reg .PK_PSTAT] A = true) :
    Evolves A s₀ (s.store m .PK_PCTL v i j) := by
  rw [State.store_PK_PCTL]
  with_reducible repeat (first
      | assumption
      | apply State.engWrite_evolves
      | apply State.pctlPickWrite_evolves
      | (apply covers_trans _ hA; decide +kernel)
      | intro _ | dsimp only | split)

/-- A write to PK_REPLATCH. -/
theorem State.store_PK_REPLATCH (s : State) (m : Master) (v : Word) (i j : Nat) :
    s.store m .PK_REPLATCH v i j = s.engWrite m i (fun s => s.replatchWrite i v) := rfl

/-- What a write to PK_REPLATCH keeps. -/
theorem State.store_PK_REPLATCH_evolves {A : List Part} {s₀ s : State} (h : Evolves A s₀ s) (m : Master) (v : Word) (i j : Nat)
    (hA : covers [.fresh, .reg .BLK_BLKCTL, .reg .PK_PSTAT, .reg .PK_REPORT] A = true) :
    Evolves A s₀ (s.store m .PK_REPLATCH v i j) := by
  rw [State.store_PK_REPLATCH]
  with_reducible repeat (first
      | assumption
      | apply State.engWrite_evolves
      | apply State.replatchWrite_evolves
      | (apply covers_trans _ hA; decide +kernel)
      | intro _ | dsimp only | split)

/-- A write to PK_SLICEMAP0. -/
theorem State.store_PK_SLICEMAP0 (s : State) (m : Master) (v : Word) (i j : Nat) :
    s.store m .PK_SLICEMAP0 v i j = s.engWrite m i (fun s => s.slicemapWrite i .PK_SLICEMAP0 v) := rfl

/-- What a write to PK_SLICEMAP0 keeps. -/
theorem State.store_PK_SLICEMAP0_evolves {A : List Part} {s₀ s : State} (h : Evolves A s₀ s) (m : Master) (v : Word) (i j : Nat)
    (hA : covers [.fresh, .reg .BLK_BLKCTL, .reg .PK_PSTAT, .reg .PK_SLICEMAP0] A = true) :
    Evolves A s₀ (s.store m .PK_SLICEMAP0 v i j) := by
  rw [State.store_PK_SLICEMAP0]
  with_reducible repeat (first
      | assumption
      | apply State.engWrite_evolves
      | apply State.slicemapWrite_evolves
      | (apply covers_trans _ hA; decide +kernel)
      | intro _ | dsimp only | split)

/-- A write to PK_SLICEMAP1. -/
theorem State.store_PK_SLICEMAP1 (s : State) (m : Master) (v : Word) (i j : Nat) :
    s.store m .PK_SLICEMAP1 v i j = s.engWrite m i (fun s => s.slicemapWrite i .PK_SLICEMAP1 v) := rfl

/-- What a write to PK_SLICEMAP1 keeps. -/
theorem State.store_PK_SLICEMAP1_evolves {A : List Part} {s₀ s : State} (h : Evolves A s₀ s) (m : Master) (v : Word) (i j : Nat)
    (hA : covers [.fresh, .reg .BLK_BLKCTL, .reg .PK_PSTAT, .reg .PK_SLICEMAP1] A = true) :
    Evolves A s₀ (s.store m .PK_SLICEMAP1 v i j) := by
  rw [State.store_PK_SLICEMAP1]
  with_reducible repeat (first
      | assumption
      | apply State.engWrite_evolves
      | apply State.slicemapWrite_evolves
      | (apply covers_trans _ hA; decide +kernel)
      | intro _ | dsimp only | split)

/-- A write to PR_PWRCTL. -/
theorem State.store_PR_PWRCTL (s : State) (m : Master) (v : Word) (i j : Nat) :
    s.store m .PR_PWRCTL v i j = s.powerWrite m .PR_PWRCTL v := rfl

/-- What a write to PR_PWRCTL keeps. -/
theorem State.store_PR_PWRCTL_evolves {A : List Part} {s₀ s : State} (h : Evolves A s₀ s) (m : Master) (v : Word) (i j : Nat)
    (hA : covers ([Part.supply, .reg .PR_PWRCTL, .reg .PR_PWRSTAT] ++ raiseParts) A = true) :
    Evolves A s₀ (s.store m .PR_PWRCTL v i j) := by
  rw [State.store_PR_PWRCTL]
  with_reducible repeat (first
      | assumption
      | apply State.powerWrite_evolves
      | (apply covers_trans _ hA; decide +kernel)
      | intro _ | dsimp only | split)

/-- A write to PW_DUTY. -/
theorem State.store_PW_DUTY (s : State) (m : Master) (v : Word) (i j : Nat) :
    s.store m .PW_DUTY v i j = s.asCellOwner m i (fun s => s.setDuty i v) := rfl

/-- What a write to PW_DUTY keeps. -/
theorem State.store_PW_DUTY_evolves {A : List Part} {s₀ s : State} (h : Evolves A s₀ s) (m : Master) (v : Word) (i j : Nat)
    (hA : covers [.fresh, .power, .reg .BLK_BLKCTL, .reg .PW_DUTY, .reg .PW_ACTCMP] A = true) :
    Evolves A s₀ (s.store m .PW_DUTY v i j) := by
  rw [State.store_PW_DUTY]
  with_reducible repeat (first
      | assumption
      | apply State.asCellOwner_evolves
      | apply State.setDuty_evolves
      | (apply covers_trans _ hA; decide +kernel)
      | intro _ | dsimp only | split)

/-- A write to PW_GRPCOMMIT. -/
theorem State.store_PW_GRPCOMMIT (s : State) (m : Master) (v : Word) (i j : Nat) :
    s.store m .PW_GRPCOMMIT v i j = s.asOwner m i (fun s => s.grpcommitWrite i v) := rfl

/-- What a write to PW_GRPCOMMIT keeps. -/
theorem State.store_PW_GRPCOMMIT_evolves {A : List Part} {s₀ s : State} (h : Evolves A s₀ s) (m : Master) (v : Word) (i j : Nat)
    (hA : covers [.fresh, .power, .reg .BLK_BLKCTL, .reg .PW_GRPCOMMIT] A = true) :
    Evolves A s₀ (s.store m .PW_GRPCOMMIT v i j) := by
  rw [State.store_PW_GRPCOMMIT]
  with_reducible repeat (first
      | assumption
      | apply State.asOwner_evolves
      | apply State.grpcommitWrite_evolves
      | (apply covers_trans _ hA; decide +kernel)
      | intro _ | dsimp only | split)

/-- A write to PW_GRPCTL. -/
theorem State.store_PW_GRPCTL (s : State) (m : Master) (v : Word) (i j : Nat) :
    s.store m .PW_GRPCTL v i j = s.asOwner m i (fun s => s.grpctlWrite i v) := rfl

/-- What a write to PW_GRPCTL keeps. -/
theorem State.store_PW_GRPCTL_evolves {A : List Part} {s₀ s : State} (h : Evolves A s₀ s) (m : Master) (v : Word) (i j : Nat)
    (hA : covers [.fresh, .power, .reg .BLK_BLKCTL, .reg .PW_GRPCTL, .reg .PW_GRPCOMMIT, .reg .PW_GRPSTAT, .reg .PW_GRPACT, .reg .PW_ACTCMP,
      .reg .PW_CHSTAT] A = true) :
    Evolves A s₀ (s.store m .PW_GRPCTL v i j) := by
  rw [State.store_PW_GRPCTL]
  with_reducible repeat (first
      | assumption
      | apply State.asOwner_evolves
      | apply State.grpctlWrite_evolves
      | (apply covers_trans _ hA; decide +kernel)
      | intro _ | dsimp only | split)

/-- A write to PW_OVR. -/
theorem State.store_PW_OVR (s : State) (m : Master) (v : Word) (i j : Nat) :
    s.store m .PW_OVR v i j = s.asCellOwner m i (fun s => s.ovrWrite i v) := rfl

/-- What a write to PW_OVR keeps. -/
theorem State.store_PW_OVR_evolves {A : List Part} {s₀ s : State} (h : Evolves A s₀ s) (m : Master) (v : Word) (i j : Nat)
    (hA : covers ([Part.reg .BLK_BLKCTL, .reg .PW_OVR] ++ onTimerParts ++ gateParts) A = true) :
    Evolves A s₀ (s.store m .PW_OVR v i j) := by
  rw [State.store_PW_OVR]
  with_reducible repeat (first
      | assumption
      | apply State.asCellOwner_evolves
      | apply State.ovrWrite_evolves
      | (apply covers_trans _ hA; decide +kernel)
      | intro _ | dsimp only | split)

/-- A write to PW_SAFE. -/
theorem State.store_PW_SAFE (s : State) (m : Master) (v : Word) (i j : Nat) :
    s.store m .PW_SAFE v i j = s.asCellOwner m i (fun s => s.safeWrite i v) := rfl

/-- What a write to PW_SAFE keeps. -/
theorem State.store_PW_SAFE_evolves {A : List Part} {s₀ s : State} (h : Evolves A s₀ s) (m : Master) (v : Word) (i j : Nat)
    (hA : covers ([Part.reg .BLK_BLKCTL, .reg .PW_SAFE] ++ gateParts) A = true) :
    Evolves A s₀ (s.store m .PW_SAFE v i j) := by
  rw [State.store_PW_SAFE]
  with_reducible repeat (first
      | assumption
      | apply State.asCellOwner_evolves
      | apply State.safeWrite_evolves
      | (apply covers_trans _ hA; decide +kernel)
      | intro _ | dsimp only | split)

/-- A write to RG_RCTL. -/
theorem State.store_RG_RCTL (s : State) (m : Master) (v : Word) (i j : Nat) :
    s.store m .RG_RCTL v i j = s.asRampOwner m i (fun s => s.rctlRampWrite i v) := rfl

/-- What a write to RG_RCTL keeps. -/
theorem State.store_RG_RCTL_evolves {A : List Part} {s₀ s : State} (h : Evolves A s₀ s) (m : Master) (v : Word) (i j : Nat)
    (hA : covers ([Part.power, .reg .BLK_BLKCTL, .reg .RG_RCTL, .reg .RG_RSTAT, .reg .RG_RVAL, .reg .SE_CAPSTART] ++ seamParts) A = true) :
    Evolves A s₀ (s.store m .RG_RCTL v i j) := by
  rw [State.store_RG_RCTL]
  with_reducible repeat (first
      | assumption
      | apply State.asRampOwner_evolves
      | apply State.rctlRampWrite_evolves
      | (apply covers_trans _ hA; decide +kernel)
      | intro _ | dsimp only | split)

/-- A write to RS_PADREL. -/
theorem State.store_RS_PADREL (s : State) (m : Master) (v : Word) (i j : Nat) :
    s.store m .RS_PADREL v i j = s.padWrite v := rfl

/-- What a write to RS_PADREL keeps. -/
theorem State.store_RS_PADREL_evolves {A : List Part} {s₀ s : State} (h : Evolves A s₀ s) (m : Master) (v : Word) (i j : Nat)
    (hA : covers [.fresh, .reg .RS_PADREL] A = true) :
    Evolves A s₀ (s.store m .RS_PADREL v i j) := by
  rw [State.store_RS_PADREL]
  with_reducible repeat (first
      | assumption
      | apply State.padWrite_evolves
      | (apply covers_trans _ hA; decide +kernel)
      | intro _ | dsimp only | split)

/-- A write to RS_RSTCTL. -/
theorem State.store_RS_RSTCTL (s : State) (m : Master) (v : Word) (i j : Nat) :
    s.store m .RS_RSTCTL v i j = s.rstctlWrite m v := rfl

/-- What a write to RS_RSTCTL keeps. -/
theorem State.store_RS_RSTCTL_evolves {A : List Part} {s₀ s : State} (h : Evolves A s₀ s) (m : Master) (v : Word) (i j : Nat)
    (hA : covers Part.all A = true) :
    Evolves A s₀ (s.store m .RS_RSTCTL v i j) := by
  rw [State.store_RS_RSTCTL]
  with_reducible repeat (first
      | assumption
      | apply State.rstctlWrite_evolves
      | (apply covers_trans _ hA; exact covers_all _)
      | intro _ | dsimp only | split)

/-- A write to RS_RSTREL. -/
theorem State.store_RS_RSTREL (s : State) (m : Master) (v : Word) (i j : Nat) :
    s.store m .RS_RSTREL v i j = s.rstrelWrite v := rfl

/-- What a write to RS_RSTREL keeps. -/
theorem State.store_RS_RSTREL_evolves {A : List Part} {s₀ s : State} (h : Evolves A s₀ s) (m : Master) (v : Word) (i j : Nat)
    (hA : covers ([Part.host, .reg .RS_RSTREL] ++ gateParts) A = true) :
    Evolves A s₀ (s.store m .RS_RSTREL v i j) := by
  rw [State.store_RS_RSTREL]
  with_reducible repeat (first
      | assumption
      | apply State.rstrelWrite_evolves
      | (apply covers_trans _ hA; decide +kernel)
      | intro _ | dsimp only | split)

/-- A write to RS_WDTKICK. -/
theorem State.store_RS_WDTKICK (s : State) (m : Master) (v : Word) (i j : Nat) :
    s.store m .RS_WDTKICK v i j = s.wdtkickWrite m i v := rfl

/-- What a write to RS_WDTKICK keeps. -/
theorem State.store_RS_WDTKICK_evolves {A : List Part} {s₀ s : State} (h : Evolves A s₀ s) (m : Master) (v : Word) (i j : Nat)
    (hA : covers ([Part.reg .RS_RSTSTAT] ++ raiseParts) A = true) :
    Evolves A s₀ (s.store m .RS_WDTKICK v i j) := by
  rw [State.store_RS_WDTKICK]
  with_reducible repeat (first
      | assumption
      | apply State.wdtkickWrite_evolves
      | (apply covers_trans _ hA; decide +kernel)
      | intro _ | dsimp only | split)

/-- A write to SE_DRCFG. -/
theorem State.store_SE_DRCFG (s : State) (m : Master) (v : Word) (i j : Nat) :
    s.store m .SE_DRCFG v i j = s.seamWrite m (fun s => s.drcfgWrite i v) := rfl

/-- What a write to SE_DRCFG keeps. -/
theorem State.store_SE_DRCFG_evolves {A : List Part} {s₀ s : State} (h : Evolves A s₀ s) (m : Master) (v : Word) (i j : Nat)
    (hA : covers [.fresh, .seam, .reg .SE_SSTAT, .reg .SE_DRCFG, .reg .SE_DRPTR, .reg .SE_DRSTAT] A = true) :
    Evolves A s₀ (s.store m .SE_DRCFG v i j) := by
  rw [State.store_SE_DRCFG]
  with_reducible repeat (first
      | assumption
      | apply State.seamWrite_evolves
      | apply State.drcfgWrite_evolves
      | (apply covers_trans _ hA; decide +kernel)
      | intro _ | dsimp only | split)

/-- A write to SE_STRPUT. -/
theorem State.store_SE_STRPUT (s : State) (m : Master) (v : Word) (i j : Nat) :
    s.store m .SE_STRPUT v i j = s.seamWrite m (fun s => s.strput i v) := rfl

/-- What a write to SE_STRPUT keeps. -/
theorem State.store_SE_STRPUT_evolves {A : List Part} {s₀ s : State} (h : Evolves A s₀ s) (m : Master) (v : Word) (i j : Nat)
    (hA : covers seamParts A = true) :
    Evolves A s₀ (s.store m .SE_STRPUT v i j) := by
  rw [State.store_SE_STRPUT]
  with_reducible repeat (first
      | assumption
      | apply State.seamWrite_evolves
      | apply State.strput_evolves
      | (apply covers_trans _ hA; decide +kernel)
      | intro _ | dsimp only | split)

/-- A write to SE_TRGCTL. -/
theorem State.store_SE_TRGCTL (s : State) (m : Master) (v : Word) (i j : Nat) :
    s.store m .SE_TRGCTL v i j = s.seamWrite m (fun s => s.trgctlWrite i v) := rfl

/-- What a write to SE_TRGCTL keeps. -/
theorem State.store_SE_TRGCTL_evolves {A : List Part} {s₀ s : State} (h : Evolves A s₀ s) (m : Master) (v : Word) (i j : Nat)
    (hA : covers ([Part.reg .SE_TRGCTL, .reg .SE_CAPSTART, .reg .SE_DRSTAT] ++ seamParts) A = true) :
    Evolves A s₀ (s.store m .SE_TRGCTL v i j) := by
  rw [State.store_SE_TRGCTL]
  with_reducible repeat (first
      | assumption
      | apply State.seamWrite_evolves
      | apply State.trgctlWrite_evolves
      | (apply covers_trans _ hA; decide +kernel)
      | intro _ | dsimp only | split)

/-- A write to SN_CHCTL. -/
theorem State.store_SN_CHCTL (s : State) (m : Master) (v : Word) (i j : Nat) :
    s.store m .SN_CHCTL v i j = s.chanWrite m i (fun s => s.chctlSenseWrite i v) := rfl

/-- What a write to SN_CHCTL keeps. -/
theorem State.store_SN_CHCTL_evolves {A : List Part} {s₀ s : State} (h : Evolves A s₀ s) (m : Master) (v : Word) (i j : Nat)
    (hA : covers [.fresh, .sense, .reg .BLK_BLKCTL, .reg .SN_CHCTL, .reg .SN_SDCTL, .reg .SN_CHSTAT] A = true) :
    Evolves A s₀ (s.store m .SN_CHCTL v i j) := by
  rw [State.store_SN_CHCTL]
  with_reducible repeat (first
      | assumption
      | apply State.chanWrite_evolves
      | apply State.chctlSenseWrite_evolves
      | (apply covers_trans _ hA; decide +kernel)
      | intro _ | dsimp only | split)

/-- A write to SN_CTL. -/
theorem State.store_SN_CTL (s : State) (m : Master) (v : Word) (i j : Nat) :
    s.store m .SN_CTL v i j = s.senseWrite m (fun s => s.ctlSenseWrite v) := rfl

/-- What a write to SN_CTL keeps. -/
theorem State.store_SN_CTL_evolves {A : List Part} {s₀ s : State} (h : Evolves A s₀ s) (m : Master) (v : Word) (i j : Nat)
    (hA : covers ([Part.sense, .reg .SN_CTL, .reg .SN_CHSTAT, .reg .SN_SLMEAN, .reg .SN_SLINFO, .reg .SN_MMMIN, .reg .SN_MMMAX,
      .reg .SN_MMINFO] ++ raiseParts) A = true) :
    Evolves A s₀ (s.store m .SN_CTL v i j) := by
  rw [State.store_SN_CTL]
  with_reducible repeat (first
      | assumption
      | apply State.senseWrite_evolves
      | apply State.ctlSenseWrite_evolves
      | (apply covers_trans _ hA; decide +kernel)
      | intro _ | dsimp only | split)

/-- A write to SN_DIAGSEL. -/
theorem State.store_SN_DIAGSEL (s : State) (m : Master) (v : Word) (i j : Nat) :
    s.store m .SN_DIAGSEL v i j = s.senseWrite m (fun s => s.diagselWrite v) := rfl

/-- What a write to SN_DIAGSEL keeps. -/
theorem State.store_SN_DIAGSEL_evolves {A : List Part} {s₀ s : State} (h : Evolves A s₀ s) (m : Master) (v : Word) (i j : Nat)
    (hA : covers [.fresh, .timers, .reg .SN_CTL, .reg .SN_DIAGSEL, .reg .SN_DIAGSTAT] A = true) :
    Evolves A s₀ (s.store m .SN_DIAGSEL v i j) := by
  rw [State.store_SN_DIAGSEL]
  with_reducible repeat (first
      | assumption
      | apply State.senseWrite_evolves
      | apply State.diagselWrite_evolves
      | (apply covers_trans _ hA; decide +kernel)
      | intro _ | dsimp only | split)

/-- A write to SN_MMCTL. -/
theorem State.store_SN_MMCTL (s : State) (m : Master) (v : Word) (i j : Nat) :
    s.store m .SN_MMCTL v i j = s.chanWrite m i (fun s => s.mmctlWrite i v) := rfl

/-- What a write to SN_MMCTL keeps. -/
theorem State.store_SN_MMCTL_evolves {A : List Part} {s₀ s : State} (h : Evolves A s₀ s) (m : Master) (v : Word) (i j : Nat)
    (hA : covers [.fresh, .timers, .sense, .reg .BLK_BLKCTL, .reg .SN_CHSTAT, .reg .SN_MMCTL] A = true) :
    Evolves A s₀ (s.store m .SN_MMCTL v i j) := by
  rw [State.store_SN_MMCTL]
  with_reducible repeat (first
      | assumption
      | apply State.chanWrite_evolves
      | apply State.mmctlWrite_evolves
      | (apply covers_trans _ hA; decide +kernel)
      | intro _ | dsimp only | split)

/-- A write to SN_SDCTL. -/
theorem State.store_SN_SDCTL (s : State) (m : Master) (v : Word) (i j : Nat) :
    s.store m .SN_SDCTL v i j = s.chanWrite m i (fun s => s.chctlSenseWrite i v) := rfl

/-- What a write to SN_SDCTL keeps. -/
theorem State.store_SN_SDCTL_evolves {A : List Part} {s₀ s : State} (h : Evolves A s₀ s) (m : Master) (v : Word) (i j : Nat)
    (hA : covers [.fresh, .sense, .reg .BLK_BLKCTL, .reg .SN_CHCTL, .reg .SN_SDCTL, .reg .SN_CHSTAT] A = true) :
    Evolves A s₀ (s.store m .SN_SDCTL v i j) := by
  rw [State.store_SN_SDCTL]
  with_reducible repeat (first
      | assumption
      | apply State.chanWrite_evolves
      | apply State.chctlSenseWrite_evolves
      | (apply covers_trans _ hA; decide +kernel)
      | intro _ | dsimp only | split)

/-- A write to SN_SEQCTL. -/
theorem State.store_SN_SEQCTL (s : State) (m : Master) (v : Word) (i j : Nat) :
    s.store m .SN_SEQCTL v i j = s.senseWrite m (fun s => s.seqctlWrite i v) := rfl

/-- What a write to SN_SEQCTL keeps. -/
theorem State.store_SN_SEQCTL_evolves {A : List Part} {s₀ s : State} (h : Evolves A s₀ s) (m : Master) (v : Word) (i j : Nat)
    (hA : covers [.fresh, .timers, .sense, .reg .SN_CTL, .reg .SN_SEQCTL, .reg .SN_SEQSTAT] A = true) :
    Evolves A s₀ (s.store m .SN_SEQCTL v i j) := by
  rw [State.store_SN_SEQCTL]
  with_reducible repeat (first
      | assumption
      | apply State.senseWrite_evolves
      | apply State.seqctlWrite_evolves
      | (apply covers_trans _ hA; decide +kernel)
      | intro _ | dsimp only | split)

/-- A write to SN_SEQGO. -/
theorem State.store_SN_SEQGO (s : State) (m : Master) (v : Word) (i j : Nat) :
    s.store m .SN_SEQGO v i j = s.senseWrite m (fun s => s.seqgoWrite i v) := rfl

/-- What a write to SN_SEQGO keeps. -/
theorem State.store_SN_SEQGO_evolves {A : List Part} {s₀ s : State} (h : Evolves A s₀ s) (m : Master) (v : Word) (i j : Nat)
    (hA : covers [.fresh, .timers, .reg .SN_CTL, .reg .SN_SEQSTAT] A = true) :
    Evolves A s₀ (s.store m .SN_SEQGO v i j) := by
  rw [State.store_SN_SEQGO]
  with_reducible repeat (first
      | assumption
      | apply State.senseWrite_evolves
      | apply State.seqgoWrite_evolves
      | (apply covers_trans _ hA; decide +kernel)
      | intro _ | dsimp only | split)

/-- A write to SP_COMMIT. -/
theorem State.store_SP_COMMIT (s : State) (m : Master) (v : Word) (i j : Nat) :
    s.store m .SP_COMMIT v i j = s.commitWrite v := rfl

/-- What a write to SP_COMMIT keeps. -/
theorem State.store_SP_COMMIT_evolves {A : List Part} {s₀ s : State} (h : Evolves A s₀ s) (m : Master) (v : Word) (i j : Nat)
    (hA : covers ([Part.reg .SP_COMMIT] ++ raiseParts) A = true) :
    Evolves A s₀ (s.store m .SP_COMMIT v i j) := by
  rw [State.store_SP_COMMIT]
  with_reducible repeat (first
      | assumption
      | apply State.commitWrite_evolves
      | (apply covers_trans _ hA; decide +kernel)
      | intro _ | dsimp only | split)

/-- A write to UH_UCTL. -/
theorem State.store_UH_UCTL (s : State) (m : Master) (v : Word) (i j : Nat) :
    s.store m .UH_UCTL v i j = s.uhlaWrite m (fun s => s.uctlWrite v) := rfl

/-- What a write to UH_UCTL keeps. -/
theorem State.store_UH_UCTL_evolves {A : List Part} {s₀ s : State} (h : Evolves A s₀ s) (m : Master) (v : Word) (i j : Nat)
    (hA : covers ([Part.uhla, .reg .UH_UCTL, .reg .UH_USTAT, .reg .UH_UPORT] ++ raiseParts) A = true) :
    Evolves A s₀ (s.store m .UH_UCTL v i j) := by
  rw [State.store_UH_UCTL]
  with_reducible repeat (first
      | assumption
      | apply State.uhlaWrite_evolves
      | apply State.uctlWrite_evolves
      | (apply covers_trans _ hA; decide +kernel)
      | intro _ | dsimp only | split)

/-- A write to UH_USVCFG. -/
theorem State.store_UH_USVCFG (s : State) (m : Master) (v : Word) (i j : Nat) :
    s.store m .UH_USVCFG v i j = s.uhlaWrite m (fun s => s.usvcfgWrite i v) := rfl

/-- What a write to UH_USVCFG keeps. -/
theorem State.store_UH_USVCFG_evolves {A : List Part} {s₀ s : State} (h : Evolves A s₀ s) (m : Master) (v : Word) (i j : Nat)
    (hA : covers [.fresh, .reg .UH_USTAT, .reg .UH_USVCFG] A = true) :
    Evolves A s₀ (s.store m .UH_USVCFG v i j) := by
  rw [State.store_UH_USVCFG]
  with_reducible repeat (first
      | assumption
      | apply State.uhlaWrite_evolves
      | apply State.usvcfgWrite_evolves
      | (apply covers_trans _ hA; decide +kernel)
      | intro _ | dsimp only | split)

/-- A write to UH_USVPUT. -/
theorem State.store_UH_USVPUT (s : State) (m : Master) (v : Word) (i j : Nat) :
    s.store m .UH_USVPUT v i j = s.usvputWrite m i v := rfl

/-- What a write to UH_USVPUT keeps. -/
theorem State.store_UH_USVPUT_evolves {A : List Part} {s₀ s : State} (h : Evolves A s₀ s) (m : Master) (v : Word) (i j : Nat)
    (hA : covers [.fresh, .uhla, .reg .UH_USTAT] A = true) :
    Evolves A s₀ (s.store m .UH_USVPUT v i j) := by
  rw [State.store_UH_USVPUT]
  with_reducible repeat (first
      | assumption
      | apply State.usvputWrite_evolves
      | (apply covers_trans _ hA; decide +kernel)
      | intro _ | dsimp only | split)

/-- A write to UH_UTRIP. -/
theorem State.store_UH_UTRIP (s : State) (m : Master) (v : Word) (i j : Nat) :
    s.store m .UH_UTRIP v i j = s.uhlaWrite m (fun s => s.utripWrite v) := rfl

/-- What a write to UH_UTRIP keeps. -/
theorem State.store_UH_UTRIP_evolves {A : List Part} {s₀ s : State} (h : Evolves A s₀ s) (m : Master) (v : Word) (i j : Nat)
    (hA : covers ([Part.reg .UH_USTAT, .reg .UH_UTRIP] ++ gateParts) A = true) :
    Evolves A s₀ (s.store m .UH_UTRIP v i j) := by
  rw [State.store_UH_UTRIP]
  with_reducible repeat (first
      | assumption
      | apply State.uhlaWrite_evolves
      | apply State.utripWrite_evolves
      | (apply covers_trans _ hA; decide +kernel)
      | intro _ | dsimp only | split)

/-- A write to UH_UTRIPGO. -/
theorem State.store_UH_UTRIPGO (s : State) (m : Master) (v : Word) (i j : Nat) :
    s.store m .UH_UTRIPGO v i j = s.uhlaWrite m (fun s => s.utripgoWrite v) := rfl

/-- What a write to UH_UTRIPGO keeps. -/
theorem State.store_UH_UTRIPGO_evolves {A : List Part} {s₀ s : State} (h : Evolves A s₀ s) (m : Master) (v : Word) (i j : Nat)
    (hA : covers ([Part.uhla, .reg .UH_USTAT, .reg .UH_UTRIPGO] ++ raiseParts) A = true) :
    Evolves A s₀ (s.store m .UH_UTRIPGO v i j) := by
  rw [State.store_UH_UTRIPGO]
  with_reducible repeat (first
      | assumption
      | apply State.uhlaWrite_evolves
      | apply State.utripgoWrite_evolves
      | (apply covers_trans _ hA; decide +kernel)
      | intro _ | dsimp only | split)

/-- A write to WI_RCTL. -/
theorem State.store_WI_RCTL (s : State) (m : Master) (v : Word) (i j : Nat) :
    s.store m .WI_RCTL v i j = s.rctlWinderWrite v := rfl

/-- What a write to WI_RCTL keeps. -/
theorem State.store_WI_RCTL_evolves {A : List Part} {s₀ s : State} (h : Evolves A s₀ s) (m : Master) (v : Word) (i j : Nat)
    (hA : covers ([Part.uhla, .winder, .reg .PW_GSTAT, .reg .WI_WSTAT, .reg .WI_SSTAT, .reg .WI_RCTL, .reg .WI_RSTAT] ++ raiseParts) A = true) :
    Evolves A s₀ (s.store m .WI_RCTL v i j) := by
  rw [State.store_WI_RCTL]
  with_reducible repeat (first
      | assumption
      | apply State.rctlWinderWrite_evolves
      | (apply covers_trans _ hA; decide +kernel)
      | intro _ | dsimp only | split)

/-- A write to WI_SCTL. -/
theorem State.store_WI_SCTL (s : State) (m : Master) (v : Word) (i j : Nat) :
    s.store m .WI_SCTL v i j = s.sctlSynthWrite i v := rfl

/-- What a write to WI_SCTL keeps. -/
theorem State.store_WI_SCTL_evolves {A : List Part} {s₀ s : State} (h : Evolves A s₀ s) (m : Master) (v : Word) (i j : Nat)
    (hA : covers ([Part.sense, .uhla, .winder, .reg .PW_GSTAT, .reg .WI_WSTAT, .reg .WI_SCTL, .reg .WI_SSTAT, .reg .UH_USTAT, .reg .UH_UPORT,
      .reg .ET_ETHSTAT] ++ raiseParts) A = true) :
    Evolves A s₀ (s.store m .WI_SCTL v i j) := by
  rw [State.store_WI_SCTL]
  with_reducible repeat (first
      | assumption
      | apply State.sctlSynthWrite_evolves
      | (apply covers_trans _ hA; decide +kernel)
      | intro _ | dsimp only | split)

/-- A write to WI_SSCFG. -/
theorem State.store_WI_SSCFG (s : State) (m : Master) (v : Word) (i j : Nat) :
    s.store m .WI_SSCFG v i j = s.sscfgWrite i v := rfl

/-- What a write to WI_SSCFG keeps. -/
theorem State.store_WI_SSCFG_evolves {A : List Part} {s₀ s : State} (h : Evolves A s₀ s) (m : Master) (v : Word) (i j : Nat)
    (hA : covers [.fresh, .timers, .winder, .reg .PW_GSTAT, .reg .WI_WSTAT, .reg .WI_SSTAT, .reg .WI_SSCFG] A = true) :
    Evolves A s₀ (s.store m .WI_SSCFG v i j) := by
  rw [State.store_WI_SSCFG]
  with_reducible repeat (first
      | assumption
      | apply State.sscfgWrite_evolves
      | (apply covers_trans _ hA; decide +kernel)
      | intro _ | dsimp only | split)

/-- A write to WI_WCTL. -/
theorem State.store_WI_WCTL (s : State) (m : Master) (v : Word) (i j : Nat) :
    s.store m .WI_WCTL v i j = s.wctlSrcWrite v := rfl

/-- What a write to WI_WCTL keeps. -/
theorem State.store_WI_WCTL_evolves {A : List Part} {s₀ s : State} (h : Evolves A s₀ s) (m : Master) (v : Word) (i j : Nat)
    (hA : covers [.timers, .reg .WI_WCTL] A = true) :
    Evolves A s₀ (s.store m .WI_WCTL v i j) := by
  rw [State.store_WI_WCTL]
  with_reducible repeat (first
      | assumption
      | apply State.wctlSrcWrite_evolves
      | (apply covers_trans _ hA; decide +kernel)
      | intro _ | dsimp only | split)

/-- What `execCompleteSource` keeps. -/
theorem execCompleteSource_evolves {A : List Part} {s₀ s : State} (h : Evolves A s₀ s) (m : Master) (n : Option Slice) (v : Word)
    (hA : covers [.fresh, .drift, .intc, .reg .DR_PLOG, .reg .IC_SSTAT] A = true) :
    ∃ u, execCompleteSource m n v s = .next u ∧ Evolves A s₀ u := by
  unfold execCompleteSource
  refine ⟨_, rfl, ?_⟩
  with_reducible repeat (first
      | assumption
      | apply State.sliceWrite_evolves
      | apply State.noteWrite_evolves
      | apply State.complete_evolves
      | (apply covers_trans _ hA; decide +kernel)
      | intro _ | rfl | dsimp only | split)

/-- What `execPendClear` keeps. -/
theorem execPendClear_evolves {A : List Part} {s₀ s : State} (h : Evolves A s₀ s) (m : Master) (n : Option Slice) (j : Fin 32) (v : Word)
    (hA : covers [.fresh, .drift, .intc, .reg .DR_PLOG, .reg .IC_SSTAT, .reg .IC_PEND] A = true) :
    ∃ u, execPendClear m n j v s = .next u ∧ Evolves A s₀ u := by
  unfold execPendClear
  refine ⟨_, rfl, ?_⟩
  with_reducible repeat (first
      | assumption
      | apply State.sliceWrite_evolves
      | apply State.noteWrite_evolves
      | apply State.pendWrite_evolves
      | (apply covers_trans _ hA; decide +kernel)
      | intro _ | rfl | dsimp only | split)

/-- What `execReqArmed` keeps. -/
theorem execReqArmed_evolves {A : List Part} {s₀ s : State} (h : Evolves A s₀ s) (m : Master) (b : Block) (v : Word)
    (hA : covers ([Part.pick, .reg .BLK_BLKCTL, .reg .RG_RSTAT] ++ raiseParts ++ coastParts ++ gateParts) A = true) :
    ∃ u, execReqArmed m b v s = .next u ∧ Evolves A s₀ u := by
  unfold execReqArmed
  unfold State.regStore
  refine ⟨_, rfl, ?_⟩
  with_reducible repeat (first
      | assumption
      | apply State.noteWrite_evolves
      | apply State.store_BLK_BLKCTL_evolves
      | (apply covers_trans _ hA; decide +kernel)
      | intro _ | rfl | dsimp only | split)

/-- What `execReqRunning` keeps. -/
theorem execReqRunning_evolves {A : List Part} {s₀ s : State} (h : Evolves A s₀ s) (m : Master) (b : Block) (v : Word)
    (hA : covers ([Part.pick, .reg .BLK_BLKCTL, .reg .RG_RSTAT] ++ raiseParts ++ coastParts ++ gateParts) A = true) :
    ∃ u, execReqRunning m b v s = .next u ∧ Evolves A s₀ u := by
  unfold execReqRunning
  unfold State.regStore
  refine ⟨_, rfl, ?_⟩
  with_reducible repeat (first
      | assumption
      | apply State.noteWrite_evolves
      | apply State.store_BLK_BLKCTL_evolves
      | (apply covers_trans _ hA; decide +kernel)
      | intro _ | rfl | dsimp only | split)

/-- What `execReqStopped` keeps. -/
theorem execReqStopped_evolves {A : List Part} {s₀ s : State} (h : Evolves A s₀ s) (m : Master) (b : Block) (v : Word)
    (hA : covers ([Part.pick, .reg .BLK_BLKCTL, .reg .RG_RSTAT] ++ raiseParts ++ coastParts ++ gateParts) A = true) :
    ∃ u, execReqStopped m b v s = .next u ∧ Evolves A s₀ u := by
  unfold execReqStopped
  unfold State.regStore
  refine ⟨_, rfl, ?_⟩
  with_reducible repeat (first
      | assumption
      | apply State.noteWrite_evolves
      | apply State.store_BLK_BLKCTL_evolves
      | (apply covers_trans _ hA; decide +kernel)
      | intro _ | rfl | dsimp only | split)

/-- What `execOwnershipWrite` keeps. -/
theorem execOwnershipWrite_evolves {A : List Part} {s₀ s : State} (h : Evolves A s₀ s) (m : Master) (b : Block) (v : Word)
    (hA : covers ([Part.pick, .reg .BLK_BLKCTL, .reg .RG_RSTAT] ++ raiseParts ++ coastParts ++ gateParts) A = true) :
    ∃ u, execOwnershipWrite m b v s = .next u ∧ Evolves A s₀ u := by
  unfold execOwnershipWrite
  unfold State.regStore
  refine ⟨_, rfl, ?_⟩
  with_reducible repeat (first
      | assumption
      | apply State.noteWrite_evolves
      | apply State.store_BLK_BLKCTL_evolves
      | (apply covers_trans _ hA; decide +kernel)
      | intro _ | rfl | dsimp only | split)

/-- What `execCellBindingWrite` keeps. -/
theorem execCellBindingWrite_evolves {A : List Part} {s₀ s : State} (h : Evolves A s₀ s) (m : Master) (b : Block) (hi : Bool) (v : Word)
    (hA : covers ([Part.reg .BLK_BLKCELLS0, .reg .BLK_BLKCELLS1, .reg .PW_ACTCMP, .reg .CG_CGSTAT, .reg .FM_FCAUSE] ++ sf2Parts ++
      seamParts) A = true) :
    ∃ u, execCellBindingWrite m b hi v s = .next u ∧ Evolves A s₀ u := by
  unfold execCellBindingWrite
  unfold State.regStore
  refine ⟨_, rfl, ?_⟩
  with_reducible repeat (first
      | assumption
      | apply State.noteWrite_evolves
      | apply State.store_BLK_BLKCELLS0_evolves
      | apply State.store_BLK_BLKCELLS1_evolves
      | (apply covers_trans _ hA; decide +kernel)
      | intro _ | rfl | unfold cellsReg | dsimp only | split)

/-- What `execEvtctlWrite` keeps. -/
theorem execEvtctlWrite_evolves {A : List Part} {s₀ s : State} (h : Evolves A s₀ s) (m : Master) (k : EvSlot) (v : Word)
    (hA : covers [.fresh, .head, .drift, .reg .HF_DOMSTAT, .reg .EV_EVTCTL] A = true) :
    ∃ u, execEvtctlWrite m k v s = .next u ∧ Evolves A s₀ u := by
  unfold execEvtctlWrite
  unfold State.regStore
  refine ⟨_, rfl, ?_⟩
  with_reducible repeat (first
      | assumption
      | apply State.noteWrite_evolves
      | apply State.store_EV_EVTCTL_evolves
      | (apply covers_trans _ hA; decide +kernel)
      | intro _ | rfl | dsimp only | split)

/-- What `execEvtangWrite` keeps. -/
theorem execEvtangWrite_evolves {A : List Part} {s₀ s : State} (h : Evolves A s₀ s) (m : Master) (k : EvSlot) (v : Word)
    (hA : covers [.head, .drift, .reg .EV_EVTANG] A = true) :
    ∃ u, execEvtangWrite m k v s = .next u ∧ Evolves A s₀ u := by
  unfold execEvtangWrite
  unfold State.regStore
  refine ⟨_, rfl, ?_⟩
  with_reducible repeat (first
      | assumption
      | apply State.noteWrite_evolves
      | apply State.store_EV_EVTANG_evolves
      | (apply covers_trans _ hA; decide +kernel)
      | intro _ | rfl | dsimp only | split)

/-- What `execPlanGo` keeps. -/
theorem execPlanGo_evolves {A : List Part} {s₀ s : State} (h : Evolves A s₀ s) (m : Master) (v : Word)
    (hA : covers ([Part.reg .SP_COMMIT] ++ raiseParts) A = true) :
    ∃ u, execPlanGo m v s = .next u ∧ Evolves A s₀ u := by
  unfold execPlanGo
  unfold State.regStore
  refine ⟨_, rfl, ?_⟩
  with_reducible repeat (first
      | assumption
      | apply State.noteWrite_evolves
      | apply State.store_SP_COMMIT_evolves
      | (apply covers_trans _ hA; decide +kernel)
      | intro _ | rfl | dsimp only | split)

/-- What `execArbctlWrite` keeps. -/
theorem execArbctlWrite_evolves {A : List Part} {s₀ s : State} (h : Evolves A s₀ s) (m : Master) (c : Cell) (v : Word)
    (hA : covers [.fresh, .drift, .pick, .reg .BLK_BLKCTL, .reg .PK_ARBCTL] A = true) :
    ∃ u, execArbctlWrite m c v s = .next u ∧ Evolves A s₀ u := by
  unfold execArbctlWrite
  unfold State.regStore
  refine ⟨_, rfl, ?_⟩
  with_reducible repeat (first
      | assumption
      | apply State.noteWrite_evolves
      | apply State.store_PK_ARBCTL_evolves
      | (apply covers_trans _ hA; decide +kernel)
      | intro _ | rfl | dsimp only | split)

/-- What `execSlicemapWrite` keeps. -/
theorem execSlicemapWrite_evolves {A : List Part} {s₀ s : State} (h : Evolves A s₀ s) (m : Master) (e : Eng) (hi : Bool) (v : Word)
    (hA : covers [.fresh, .drift, .reg .BLK_BLKCTL, .reg .PK_PSTAT, .reg .PK_SLICEMAP0, .reg .PK_SLICEMAP1] A = true) :
    ∃ u, execSlicemapWrite m e hi v s = .next u ∧ Evolves A s₀ u := by
  unfold execSlicemapWrite
  unfold State.regStore
  refine ⟨_, rfl, ?_⟩
  with_reducible repeat (first
      | assumption
      | apply State.noteWrite_evolves
      | apply State.store_PK_SLICEMAP0_evolves
      | apply State.store_PK_SLICEMAP1_evolves
      | (apply covers_trans _ hA; decide +kernel)
      | intro _ | rfl | dsimp only | split)

/-- What `execParamgo` keeps. -/
theorem execParamgo_evolves {A : List Part} {s₀ s : State} (h : Evolves A s₀ s) (m : Master) (e : Eng) (v : Word)
    (hA : covers [.fresh, .drift, .reg .BLK_BLKCTL, .reg .PK_PSTAT, .reg .PK_PARAMGO] A = true) :
    ∃ u, execParamgo m e v s = .next u ∧ Evolves A s₀ u := by
  unfold execParamgo
  unfold State.regStore
  refine ⟨_, rfl, ?_⟩
  with_reducible repeat (first
      | assumption
      | apply State.noteWrite_evolves
      | apply State.store_PK_PARAMGO_evolves
      | (apply covers_trans _ hA; decide +kernel)
      | intro _ | rfl | dsimp only | split)

/-- What `execParamWrite` keeps. -/
theorem execParamWrite_evolves {A : List Part} {s₀ s : State} (h : Evolves A s₀ s) (m : Master) (e : Eng) (n : Fin 64) (v : Word)
    (hA : covers [.fresh, .drift, .reg .BLK_BLKCTL, .reg .PK_PSTAT, .reg .PK_PARAM] A = true) :
    ∃ u, execParamWrite m e n v s = .next u ∧ Evolves A s₀ u := by
  unfold execParamWrite
  unfold State.regStore
  refine ⟨_, rfl, ?_⟩
  with_reducible repeat (first
      | assumption
      | apply State.noteWrite_evolves
      | apply State.store_PK_PARAM_evolves
      | (apply covers_trans _ hA; decide +kernel)
      | intro _ | rfl | dsimp only | split)

/-- What `execReplatch` keeps. -/
theorem execReplatch_evolves {A : List Part} {s₀ s : State} (h : Evolves A s₀ s) (m : Master) (e : Eng) (v : Word)
    (hA : covers [.fresh, .drift, .reg .BLK_BLKCTL, .reg .PK_PSTAT, .reg .PK_REPORT] A = true) :
    ∃ u, execReplatch m e v s = .next u ∧ Evolves A s₀ u := by
  unfold execReplatch
  unfold State.regStore
  refine ⟨_, rfl, ?_⟩
  with_reducible repeat (first
      | assumption
      | apply State.noteWrite_evolves
      | apply State.store_PK_REPLATCH_evolves
      | (apply covers_trans _ hA; decide +kernel)
      | intro _ | rfl | dsimp only | split)

/-- What `execBudgetWrite` keeps. -/
theorem execBudgetWrite_evolves {A : List Part} {s₀ s : State} (h : Evolves A s₀ s) (m : Master) (e : Eng) (v : Word)
    (hA : covers [.fresh, .drift, .reg .BLK_BLKCTL, .reg .PK_PSTAT, .reg .PK_BUDGET] A = true) :
    ∃ u, execBudgetWrite m e v s = .next u ∧ Evolves A s₀ u := by
  unfold execBudgetWrite
  unfold State.regStore
  refine ⟨_, rfl, ?_⟩
  with_reducible repeat (first
      | assumption
      | apply State.noteWrite_evolves
      | apply State.store_PK_BUDGET_evolves
      | (apply covers_trans _ hA; decide +kernel)
      | intro _ | rfl | dsimp only | split)

/-- What `execLoadProgram` keeps. -/
theorem execLoadProgram_evolves {A : List Part} {s₀ s : State} (h : Evolves A s₀ s) (m : Master) (e : Eng) (v : Word)
    (hA : covers [.fresh, .drift, .pick, .reg .BLK_BLKCTL, .reg .PK_PCTL, .reg .PK_PSTAT] A = true) :
    ∃ u, execLoadProgram m e v s = .next u ∧ Evolves A s₀ u := by
  unfold execLoadProgram
  unfold State.regStore
  refine ⟨_, rfl, ?_⟩
  with_reducible repeat (first
      | assumption
      | apply State.noteWrite_evolves
      | apply State.store_PK_PCTL_evolves
      | (apply covers_trans _ hA; decide +kernel)
      | intro _ | rfl | dsimp only | split)

/-- What `execRefenWrite` keeps. -/
theorem execRefenWrite_evolves {A : List Part} {s₀ s : State} (h : Evolves A s₀ s) (m : Master) (v : Word)
    (hA : covers ([Part.sense, .reg .SN_CTL, .reg .SN_CHSTAT, .reg .SN_SLMEAN, .reg .SN_SLINFO, .reg .SN_MMMIN, .reg .SN_MMMAX,
      .reg .SN_MMINFO] ++ raiseParts) A = true) :
    ∃ u, execRefenWrite m v s = .next u ∧ Evolves A s₀ u := by
  unfold execRefenWrite
  unfold State.regStore
  refine ⟨_, rfl, ?_⟩
  with_reducible repeat (first
      | assumption
      | apply State.noteWrite_evolves
      | apply State.store_SN_CTL_evolves
      | (apply covers_trans _ hA; decide +kernel)
      | intro _ | rfl | dsimp only | split)

/-- What `execSeqgo` keeps. -/
theorem execSeqgo_evolves {A : List Part} {s₀ s : State} (h : Evolves A s₀ s) (m : Master) (q : Sequ) (v : Word)
    (hA : covers [.fresh, .timers, .drift, .reg .SN_CTL, .reg .SN_SEQSTAT] A = true) :
    ∃ u, execSeqgo m q v s = .next u ∧ Evolves A s₀ u := by
  unfold execSeqgo
  unfold State.regStore
  refine ⟨_, rfl, ?_⟩
  with_reducible repeat (first
      | assumption
      | apply State.noteWrite_evolves
      | apply State.store_SN_SEQGO_evolves
      | (apply covers_trans _ hA; decide +kernel)
      | intro _ | rfl | dsimp only | split)

/-- What `execSeqctlWrite` keeps. -/
theorem execSeqctlWrite_evolves {A : List Part} {s₀ s : State} (h : Evolves A s₀ s) (m : Master) (q : Sequ) (v : Word)
    (hA : covers [.fresh, .timers, .drift, .sense, .reg .SN_CTL, .reg .SN_SEQCTL, .reg .SN_SEQSTAT] A = true) :
    ∃ u, execSeqctlWrite m q v s = .next u ∧ Evolves A s₀ u := by
  unfold execSeqctlWrite
  unfold State.regStore
  refine ⟨_, rfl, ?_⟩
  with_reducible repeat (first
      | assumption
      | apply State.noteWrite_evolves
      | apply State.store_SN_SEQCTL_evolves
      | (apply covers_trans _ hA; decide +kernel)
      | intro _ | rfl | dsimp only | split)

/-- What `execChctlWrite` keeps. -/
theorem execChctlWrite_evolves {A : List Part} {s₀ s : State} (h : Evolves A s₀ s) (m : Master) (c : Chan) (v : Word)
    (hA : covers [.fresh, .drift, .sense, .reg .BLK_BLKCTL, .reg .SN_CHCTL, .reg .SN_SDCTL, .reg .SN_CHSTAT] A = true) :
    ∃ u, execChctlWrite m c v s = .next u ∧ Evolves A s₀ u := by
  unfold execChctlWrite
  unfold State.regStore
  refine ⟨_, rfl, ?_⟩
  with_reducible repeat (first
      | assumption
      | apply State.noteWrite_evolves
      | apply State.store_SN_CHCTL_evolves
      | apply State.store_SN_SDCTL_evolves
      | (apply covers_trans _ hA; decide +kernel)
      | intro _ | rfl | unfold chctlReg | dsimp only | split)

/-- What `execMmReset` keeps. -/
theorem execMmReset_evolves {A : List Part} {s₀ s : State} (h : Evolves A s₀ s) (m : Master) (c : Chan) (v : Word)
    (hA : covers [.fresh, .timers, .drift, .sense, .reg .BLK_BLKCTL, .reg .SN_CHSTAT, .reg .SN_MMCTL] A = true) :
    ∃ u, execMmReset m c v s = .next u ∧ Evolves A s₀ u := by
  unfold execMmReset
  unfold State.regStore
  refine ⟨_, rfl, ?_⟩
  with_reducible repeat (first
      | assumption
      | apply State.noteWrite_evolves
      | apply State.store_SN_MMCTL_evolves
      | (apply covers_trans _ hA; decide +kernel)
      | intro _ | rfl | dsimp only | split)

/-- What `execDiagGo` keeps. -/
theorem execDiagGo_evolves {A : List Part} {s₀ s : State} (h : Evolves A s₀ s) (m : Master) (v : Word)
    (hA : covers [.fresh, .timers, .drift, .reg .SN_CTL, .reg .SN_DIAGSEL, .reg .SN_DIAGSTAT] A = true) :
    ∃ u, execDiagGo m v s = .next u ∧ Evolves A s₀ u := by
  unfold execDiagGo
  unfold State.regStore
  refine ⟨_, rfl, ?_⟩
  with_reducible repeat (first
      | assumption
      | apply State.noteWrite_evolves
      | apply State.store_SN_DIAGSEL_evolves
      | (apply covers_trans _ hA; decide +kernel)
      | intro _ | rfl | dsimp only | split)

/-- What `execLatchClear` keeps. -/
theorem execLatchClear_evolves {A : List Part} {s₀ s : State} (h : Evolves A s₀ s) (m : Master) (w : Win) (v : Word)
    (hA : covers ([Part.drift, .reg .BLK_BLKCTL, .reg .CN_WSTAT] ++ gateParts) A = true) :
    ∃ u, execLatchClear m w v s = .next u ∧ Evolves A s₀ u := by
  unfold execLatchClear
  unfold State.regStore
  refine ⟨_, rfl, ?_⟩
  with_reducible repeat (first
      | assumption
      | apply State.noteWrite_evolves
      | apply State.store_CN_WSTAT_evolves
      | (apply covers_trans _ hA; decide +kernel)
      | intro _ | rfl | dsimp only | split)

/-- What `execWthrWrite` keeps. -/
theorem execWthrWrite_evolves {A : List Part} {s₀ s : State} (h : Evolves A s₀ s) (m : Master) (w : Win) (v : Word)
    (hA : covers [.fresh, .timers, .drift, .reg .BLK_BLKCTL, .reg .CN_WTHR, .reg .CN_WSTAT] A = true) :
    ∃ u, execWthrWrite m w v s = .next u ∧ Evolves A s₀ u := by
  unfold execWthrWrite
  unfold State.regStore
  refine ⟨_, rfl, ?_⟩
  with_reducible repeat (first
      | assumption
      | apply State.noteWrite_evolves
      | apply State.store_CN_WTHR_evolves
      | (apply covers_trans _ hA; decide +kernel)
      | intro _ | rfl | dsimp only | split)

/-- What `execWctlWrite` keeps. -/
theorem execWctlWrite_evolves {A : List Part} {s₀ s : State} (h : Evolves A s₀ s) (m : Master) (w : Win) (v : Word)
    (hA : covers ([Part.drift, .reg .BLK_BLKCTL, .reg .CN_WCTL, .reg .CN_WSTAT] ++ gateParts) A = true) :
    ∃ u, execWctlWrite m w v s = .next u ∧ Evolves A s₀ u := by
  unfold execWctlWrite
  unfold State.regStore
  refine ⟨_, rfl, ?_⟩
  with_reducible repeat (first
      | assumption
      | apply State.noteWrite_evolves
      | apply State.store_CN_WCTL_evolves
      | (apply covers_trans _ hA; decide +kernel)
      | intro _ | rfl | dsimp only | split)

/-- What `execRbfailWrite` keeps. -/
theorem execRbfailWrite_evolves {A : List Part} {s₀ s : State} (h : Evolves A s₀ s) (m : Master) (w : Win) (b : Bool) (v : Word)
    (hA : covers ([Part.drift, .reg .BLK_BLKCTL, .reg .CN_WCTL, .reg .CN_WSTAT] ++ gateParts) A = true) :
    ∃ u, execRbfailWrite m w b v s = .next u ∧ Evolves A s₀ u := by
  unfold execRbfailWrite
  unfold State.regStore
  refine ⟨_, rfl, ?_⟩
  with_reducible repeat (first
      | assumption
      | apply State.noteWrite_evolves
      | apply State.store_CN_WCTL_evolves
      | (apply covers_trans _ hA; decide +kernel)
      | intro _ | rfl | dsimp only | split)

/-- What `execGrpCommit` keeps. -/
theorem execGrpCommit_evolves {A : List Part} {s₀ s : State} (h : Evolves A s₀ s) (m : Master) (g : Block) (v : Word)
    (hA : covers [.fresh, .drift, .power, .reg .BLK_BLKCTL, .reg .PW_GRPCOMMIT] A = true) :
    ∃ u, execGrpCommit m g v s = .next u ∧ Evolves A s₀ u := by
  unfold execGrpCommit
  unfold State.regStore
  refine ⟨_, rfl, ?_⟩
  with_reducible repeat (first
      | assumption
      | apply State.noteWrite_evolves
      | apply State.store_PW_GRPCOMMIT_evolves
      | (apply covers_trans _ hA; decide +kernel)
      | intro _ | rfl | dsimp only | split)

/-- What `execCarrierEnable` keeps. -/
theorem execCarrierEnable_evolves {A : List Part} {s₀ s : State} (h : Evolves A s₀ s) (m : Master) (g : Block) (v : Word)
    (hA : covers [.fresh, .drift, .power, .reg .BLK_BLKCTL, .reg .PW_GRPCTL, .reg .PW_GRPCOMMIT, .reg .PW_GRPSTAT, .reg .PW_GRPACT,
      .reg .PW_ACTCMP, .reg .PW_CHSTAT] A = true) :
    ∃ u, execCarrierEnable m g v s = .next u ∧ Evolves A s₀ u := by
  unfold execCarrierEnable
  unfold State.regStore
  refine ⟨_, rfl, ?_⟩
  with_reducible repeat (first
      | assumption
      | apply State.noteWrite_evolves
      | apply State.store_PW_GRPCTL_evolves
      | (apply covers_trans _ hA; decide +kernel)
      | intro _ | rfl | dsimp only | split)

/-- What `execDutyWrite` keeps. -/
theorem execDutyWrite_evolves {A : List Part} {s₀ s : State} (h : Evolves A s₀ s) (m : Master) (c : Cell) (v : Word)
    (hA : covers [.fresh, .drift, .power, .reg .BLK_BLKCTL, .reg .PW_DUTY, .reg .PW_ACTCMP] A = true) :
    ∃ u, execDutyWrite m c v s = .next u ∧ Evolves A s₀ u := by
  unfold execDutyWrite
  unfold State.regStore
  refine ⟨_, rfl, ?_⟩
  with_reducible repeat (first
      | assumption
      | apply State.noteWrite_evolves
      | apply State.store_PW_DUTY_evolves
      | (apply covers_trans _ hA; decide +kernel)
      | intro _ | rfl | dsimp only | split)

/-- What `execOvrWrite` keeps. -/
theorem execOvrWrite_evolves {A : List Part} {s₀ s : State} (h : Evolves A s₀ s) (m : Master) (c : Cell) (v : Word)
    (hA : covers ([Part.reg .BLK_BLKCTL, .reg .PW_OVR] ++ onTimerParts ++ gateParts) A = true) :
    ∃ u, execOvrWrite m c v s = .next u ∧ Evolves A s₀ u := by
  unfold execOvrWrite
  unfold State.regStore
  refine ⟨_, rfl, ?_⟩
  with_reducible repeat (first
      | assumption
      | apply State.noteWrite_evolves
      | apply State.store_PW_OVR_evolves
      | (apply covers_trans _ hA; decide +kernel)
      | intro _ | rfl | dsimp only | split)

/-- What `execSafeWrite` keeps. -/
theorem execSafeWrite_evolves {A : List Part} {s₀ s : State} (h : Evolves A s₀ s) (m : Master) (c : Cell) (v : Word)
    (hA : covers ([Part.drift, .reg .BLK_BLKCTL, .reg .PW_SAFE] ++ gateParts) A = true) :
    ∃ u, execSafeWrite m c v s = .next u ∧ Evolves A s₀ u := by
  unfold execSafeWrite
  unfold State.regStore
  refine ⟨_, rfl, ?_⟩
  with_reducible repeat (first
      | assumption
      | apply State.noteWrite_evolves
      | apply State.store_PW_SAFE_evolves
      | (apply covers_trans _ hA; decide +kernel)
      | intro _ | rfl | dsimp only | split)

/-- What `execClr` keeps. -/
theorem execClr_evolves {A : List Part} {s₀ s : State} (h : Evolves A s₀ s) (m : Master) (c : Cell) (v : Word)
    (hA : covers ([Part.reg .CG_PCTL, .reg .CG_FBSTAMP, .reg .CG_CGSTAT, .reg .FM_FCAUSE] ++ sf2Parts ++ seamParts) A = true) :
    ∃ u, execClr m c v s = .next u ∧ Evolves A s₀ u := by
  unfold execClr
  unfold State.regStore
  refine ⟨_, rfl, ?_⟩
  with_reducible repeat (first
      | assumption
      | apply State.noteWrite_evolves
      | apply State.store_CG_PCTL_evolves
      | (apply covers_trans _ hA; decide +kernel)
      | intro _ | rfl | dsimp only | split)

/-- What `execRampGo` keeps. -/
theorem execRampGo_evolves {A : List Part} {s₀ s : State} (h : Evolves A s₀ s) (m : Master) (r : Gen) (v : Word)
    (hA : covers ([Part.power, .reg .BLK_BLKCTL, .reg .RG_RCTL, .reg .RG_RSTAT, .reg .RG_RVAL, .reg .SE_CAPSTART] ++ seamParts) A = true) :
    ∃ u, execRampGo m r v s = .next u ∧ Evolves A s₀ u := by
  unfold execRampGo
  unfold State.regStore
  refine ⟨_, rfl, ?_⟩
  with_reducible repeat (first
      | assumption
      | apply State.noteWrite_evolves
      | apply State.store_RG_RCTL_evolves
      | (apply covers_trans _ hA; decide +kernel)
      | intro _ | rfl | dsimp only | split)

/-- What `execRampStop` keeps. -/
theorem execRampStop_evolves {A : List Part} {s₀ s : State} (h : Evolves A s₀ s) (m : Master) (r : Gen) (v : Word)
    (hA : covers ([Part.power, .reg .BLK_BLKCTL, .reg .RG_RCTL, .reg .RG_RSTAT, .reg .RG_RVAL, .reg .SE_CAPSTART] ++ seamParts) A = true) :
    ∃ u, execRampStop m r v s = .next u ∧ Evolves A s₀ u := by
  unfold execRampStop
  unfold State.regStore
  refine ⟨_, rfl, ?_⟩
  with_reducible repeat (first
      | assumption
      | apply State.noteWrite_evolves
      | apply State.store_RG_RCTL_evolves
      | (apply covers_trans _ hA; decide +kernel)
      | intro _ | rfl | dsimp only | split)

/-- What `execRampRelease` keeps. -/
theorem execRampRelease_evolves {A : List Part} {s₀ s : State} (h : Evolves A s₀ s) (m : Master) (r : Gen) (v : Word)
    (hA : covers ([Part.power, .reg .BLK_BLKCTL, .reg .RG_RCTL, .reg .RG_RSTAT, .reg .RG_RVAL, .reg .SE_CAPSTART] ++ seamParts) A = true) :
    ∃ u, execRampRelease m r v s = .next u ∧ Evolves A s₀ u := by
  unfold execRampRelease
  unfold State.regStore
  refine ⟨_, rfl, ?_⟩
  with_reducible repeat (first
      | assumption
      | apply State.noteWrite_evolves
      | apply State.store_RG_RCTL_evolves
      | (apply covers_trans _ hA; decide +kernel)
      | intro _ | rfl | dsimp only | split)

/-- What `execRampCellWrite` keeps. -/
theorem execRampCellWrite_evolves {A : List Part} {s₀ s : State} (h : Evolves A s₀ s) (m : Master) (r : Gen) (v : Word)
    (hA : covers ([Part.power, .reg .BLK_BLKCTL, .reg .RG_RCTL, .reg .RG_RSTAT, .reg .RG_RVAL, .reg .SE_CAPSTART] ++ seamParts) A = true) :
    ∃ u, execRampCellWrite m r v s = .next u ∧ Evolves A s₀ u := by
  unfold execRampCellWrite
  unfold State.regStore
  refine ⟨_, rfl, ?_⟩
  with_reducible repeat (first
      | assumption
      | apply State.noteWrite_evolves
      | apply State.store_RG_RCTL_evolves
      | (apply covers_trans _ hA; decide +kernel)
      | intro _ | rfl | dsimp only | split)

/-- What `execSnap` keeps. -/
theorem execSnap_evolves {A : List Part} {s₀ s : State} (h : Evolves A s₀ s) (m : Master) (v : Word)
    (hA : covers [.fresh, .drift, .assay, .reg .AS_ACTL, .reg .AS_ASTAT] A = true) :
    ∃ u, execSnap m v s = .next u ∧ Evolves A s₀ u := by
  unfold execSnap
  unfold State.regStore
  refine ⟨_, rfl, ?_⟩
  with_reducible repeat (first
      | assumption
      | apply State.noteWrite_evolves
      | apply State.store_AS_ACTL_evolves
      | (apply covers_trans _ hA; decide +kernel)
      | intro _ | rfl | dsimp only | split)

/-- What `execModereqTest` keeps. -/
theorem execModereqTest_evolves {A : List Part} {s₀ s : State} (h : Evolves A s₀ s) (m : Master) (n : Pair) (v : Word)
    (hA : covers pairCtlParts A = true) :
    ∃ u, execModereqTest m n v s = .next u ∧ Evolves A s₀ u := by
  unfold execModereqTest
  unfold State.regStore
  refine ⟨_, rfl, ?_⟩
  with_reducible repeat (first
      | assumption
      | apply State.noteWrite_evolves
      | apply State.store_DR_PCTL_evolves
      | (apply covers_trans _ hA; decide +kernel)
      | intro _ | rfl | dsimp only | split)

/-- What `execModereqSplit` keeps. -/
theorem execModereqSplit_evolves {A : List Part} {s₀ s : State} (h : Evolves A s₀ s) (m : Master) (n : Pair) (v : Word)
    (hA : covers pairCtlParts A = true) :
    ∃ u, execModereqSplit m n v s = .next u ∧ Evolves A s₀ u := by
  unfold execModereqSplit
  unfold State.regStore
  refine ⟨_, rfl, ?_⟩
  with_reducible repeat (first
      | assumption
      | apply State.noteWrite_evolves
      | apply State.store_DR_PCTL_evolves
      | (apply covers_trans _ hA; decide +kernel)
      | intro _ | rfl | dsimp only | split)

/-- What `execModereqService` keeps. -/
theorem execModereqService_evolves {A : List Part} {s₀ s : State} (h : Evolves A s₀ s) (m : Master) (n : Pair) (v : Word)
    (hA : covers pairCtlParts A = true) :
    ∃ u, execModereqService m n v s = .next u ∧ Evolves A s₀ u := by
  unfold execModereqService
  unfold State.regStore
  refine ⟨_, rfl, ?_⟩
  with_reducible repeat (first
      | assumption
      | apply State.noteWrite_evolves
      | apply State.store_DR_PCTL_evolves
      | (apply covers_trans _ hA; decide +kernel)
      | intro _ | rfl | dsimp only | split)

/-- What `execModereqSpare` keeps. -/
theorem execModereqSpare_evolves {A : List Part} {s₀ s : State} (h : Evolves A s₀ s) (m : Master) (n : Pair) (v : Word)
    (hA : covers pairCtlParts A = true) :
    ∃ u, execModereqSpare m n v s = .next u ∧ Evolves A s₀ u := by
  unfold execModereqSpare
  unfold State.regStore
  refine ⟨_, rfl, ?_⟩
  with_reducible repeat (first
      | assumption
      | apply State.noteWrite_evolves
      | apply State.store_DR_PCTL_evolves
      | (apply covers_trans _ hA; decide +kernel)
      | intro _ | rfl | dsimp only | split)

/-- What `execJoin` keeps. -/
theorem execJoin_evolves {A : List Part} {s₀ s : State} (h : Evolves A s₀ s) (m : Master) (n : Pair) (v : Word) (hA : covers pairCtlParts A = true) :
    ∃ u, execJoin m n v s = .next u ∧ Evolves A s₀ u := by
  unfold execJoin
  unfold State.regStore
  refine ⟨_, rfl, ?_⟩
  with_reducible repeat (first
      | assumption
      | apply State.noteWrite_evolves
      | apply State.store_DR_PCTL_evolves
      | (apply covers_trans _ hA; decide +kernel)
      | intro _ | rfl | dsimp only | split)

/-- What `execOwnrgnWrite` keeps. -/
theorem execOwnrgnWrite_evolves {A : List Part} {s₀ s : State} (h : Evolves A s₀ s) (m : Master) (n : Pair) (j : Fin 4) (v : Word)
    (hA : covers [.fresh, .drift, .reg .DR_DSTAT, .reg .DR_PCTL, .reg .DR_OWNRGN] A = true) :
    ∃ u, execOwnrgnWrite m n j v s = .next u ∧ Evolves A s₀ u := by
  unfold execOwnrgnWrite
  unfold State.regStore
  refine ⟨_, rfl, ?_⟩
  with_reducible repeat (first
      | assumption
      | apply State.noteWrite_evolves
      | apply State.store_DR_OWNRGN_evolves
      | (apply covers_trans _ hA; decide +kernel)
      | intro _ | rfl | dsimp only | split)

/-- What `execClrmax` keeps. -/
theorem execClrmax_evolves {A : List Part} {s₀ s : State} (h : Evolves A s₀ s) (m : Master) (n : Pair) (v : Word)
    (hA : covers [.fresh, .drift, .reg .DR_DSTAT, .reg .DR_PLOG] A = true) :
    ∃ u, execClrmax m n v s = .next u ∧ Evolves A s₀ u := by
  unfold execClrmax
  unfold State.regStore
  refine ⟨_, rfl, ?_⟩
  with_reducible repeat (first
      | assumption
      | apply State.noteWrite_evolves
      | apply State.store_DR_PLOG_evolves
      | (apply covers_trans _ hA; decide +kernel)
      | intro _ | rfl | dsimp only | split)

/-- What `execSrccfgWrite` keeps. -/
theorem execSrccfgWrite_evolves {A : List Part} {s₀ s : State} (h : Evolves A s₀ s) (m : Master) (src : Source) (v : Word)
    (hA : covers [.fresh, .drift, .intc, .reg .BLK_BLKCTL, .reg .DR_PLOG, .reg .IC_SRCCFG, .reg .IC_SSTAT] A = true) :
    ∃ u, execSrccfgWrite m src v s = .next u ∧ Evolves A s₀ u := by
  unfold execSrccfgWrite
  unfold State.regStore
  refine ⟨_, rfl, ?_⟩
  with_reducible repeat (first
      | assumption
      | apply State.noteWrite_evolves
      | apply State.store_IC_SRCCFG_evolves
      | (apply covers_trans _ hA; decide +kernel)
      | intro _ | rfl | dsimp only | split)

/-- What `execGcfgWrite` keeps. -/
theorem execGcfgWrite_evolves {A : List Part} {s₀ s : State} (h : Evolves A s₀ s) (m : Master) (g : IcGroup) (v : Word)
    (hA : covers [.fresh, .timers, .drift, .intc, .reg .DR_PLOG, .reg .IC_SSTAT, .reg .IC_GCFG, .reg .IC_GSTAT] A = true) :
    ∃ u, execGcfgWrite m g v s = .next u ∧ Evolves A s₀ u := by
  unfold execGcfgWrite
  unfold State.regStore
  refine ⟨_, rfl, ?_⟩
  with_reducible repeat (first
      | assumption
      | apply State.noteWrite_evolves
      | apply State.store_IC_GCFG_evolves
      | (apply covers_trans _ hA; decide +kernel)
      | intro _ | rfl | dsimp only | split)

/-- What `execFlush` keeps. -/
theorem execFlush_evolves {A : List Part} {s₀ s : State} (h : Evolves A s₀ s) (m : Master) (g : IcGroup) (v : Word)
    (hA : covers [.fresh, .timers, .drift, .intc, .reg .DR_PLOG, .reg .IC_SSTAT, .reg .IC_GCFG, .reg .IC_GSTAT] A = true) :
    ∃ u, execFlush m g v s = .next u ∧ Evolves A s₀ u := by
  unfold execFlush
  unfold State.regStore
  refine ⟨_, rfl, ?_⟩
  with_reducible repeat (first
      | assumption
      | apply State.noteWrite_evolves
      | apply State.store_IC_GCFG_evolves
      | (apply covers_trans _ hA; decide +kernel)
      | intro _ | rfl | dsimp only | split)

/-- What `execFsafenWrite` keeps. -/
theorem execFsafenWrite_evolves {A : List Part} {s₀ s : State} (h : Evolves A s₀ s) (m : Master) (v : Word)
    (hA : covers ([Part.reg .FM_FSAFEN, .reg .FM_FCAUSE, .reg .FM_BTEST] ++ sf2Parts) A = true) :
    ∃ u, execFsafenWrite m v s = .next u ∧ Evolves A s₀ u := by
  unfold execFsafenWrite
  unfold State.regStore
  refine ⟨_, rfl, ?_⟩
  with_reducible repeat (first
      | assumption
      | apply State.noteWrite_evolves
      | apply State.store_FM_FSAFEN_evolves
      | (apply covers_trans _ hA; decide +kernel)
      | intro _ | rfl | dsimp only | split)

/-- What `execFcmdWrite` keeps. -/
theorem execFcmdWrite_evolves {A : List Part} {s₀ s : State} (h : Evolves A s₀ s) (m : Master) (v : Word)
    (hA : covers [.fresh, .drift, .fm, .reg .FM_FCMD, .reg .FM_FCAUSE] A = true) :
    ∃ u, execFcmdWrite m v s = .next u ∧ Evolves A s₀ u := by
  unfold execFcmdWrite
  unfold State.regStore
  refine ⟨_, rfl, ?_⟩
  with_reducible repeat (first
      | assumption
      | apply State.noteWrite_evolves
      | apply State.store_FM_FCMD_evolves
      | (apply covers_trans _ hA; decide +kernel)
      | intro _ | rfl | dsimp only | split)

/-- What `execFclr` keeps. -/
theorem execFclr_evolves {A : List Part} {s₀ s : State} (h : Evolves A s₀ s) (m : Master) (v : Word)
    (hA : covers ([Part.drift, .fm, .reg .DR_DSTAT, .reg .FM_FSTAT, .reg .FM_FCAUSE] ++ gateParts) A = true) :
    ∃ u, execFclr m v s = .next u ∧ Evolves A s₀ u := by
  unfold execFclr
  unfold State.regStore
  refine ⟨_, rfl, ?_⟩
  with_reducible repeat (first
      | assumption
      | apply State.noteWrite_evolves
      | apply State.store_FM_FCLR_evolves
      | (apply covers_trans _ hA; decide +kernel)
      | intro _ | rfl | dsimp only | split)

/-- What `execBtestReq` keeps. -/
theorem execBtestReq_evolves {A : List Part} {s₀ s : State} (h : Evolves A s₀ s) (m : Master) (n : Fin 2) (v : Word)
    (hA : covers [.fresh, .timers, .drift, .fm, .reg .FM_FCAUSE, .reg .FM_BTEST] A = true) :
    ∃ u, execBtestReq m n v s = .next u ∧ Evolves A s₀ u := by
  unfold execBtestReq
  unfold State.regStore
  refine ⟨_, rfl, ?_⟩
  with_reducible repeat (first
      | assumption
      | apply State.noteWrite_evolves
      | apply State.store_FM_BTEST_evolves
      | (apply covers_trans _ hA; decide +kernel)
      | intro _ | rfl | dsimp only | split)

/-- What `execMailboxClaim` keeps. -/
theorem execMailboxClaim_evolves {A : List Part} {s₀ s : State} (h : Evolves A s₀ s) (m : Master) (b : Mbox) (v : Word)
    (hA : covers ([Part.bank, .reg .EX_MBCTL, .reg .EX_EXSTAT] ++ replyParts) A = true) :
    ∃ u, execMailboxClaim m b v s = .next u ∧ Evolves A s₀ u := by
  unfold execMailboxClaim
  unfold State.regStore
  refine ⟨_, rfl, ?_⟩
  with_reducible repeat (first
      | assumption
      | apply State.noteWrite_evolves
      | apply State.store_EX_MBCTL_evolves
      | (apply covers_trans _ hA; decide +kernel)
      | intro _ | rfl | dsimp only | split)

/-- What `execMailboxGo` keeps. -/
theorem execMailboxGo_evolves {A : List Part} {s₀ s : State} (h : Evolves A s₀ s) (m : Master) (b : Mbox) (v : Word)
    (hA : covers ([Part.bank, .reg .EX_MBCTL, .reg .EX_EXSTAT] ++ replyParts) A = true) :
    ∃ u, execMailboxGo m b v s = .next u ∧ Evolves A s₀ u := by
  unfold execMailboxGo
  unfold State.regStore
  refine ⟨_, rfl, ?_⟩
  with_reducible repeat (first
      | assumption
      | apply State.noteWrite_evolves
      | apply State.store_EX_MBCTL_evolves
      | (apply covers_trans _ hA; decide +kernel)
      | intro _ | rfl | dsimp only | split)

/-- What `execMailboxRelease` keeps. -/
theorem execMailboxRelease_evolves {A : List Part} {s₀ s : State} (h : Evolves A s₀ s) (m : Master) (b : Mbox) (v : Word)
    (hA : covers ([Part.bank, .reg .EX_MBCTL, .reg .EX_EXSTAT] ++ replyParts) A = true) :
    ∃ u, execMailboxRelease m b v s = .next u ∧ Evolves A s₀ u := by
  unfold execMailboxRelease
  unfold State.regStore
  refine ⟨_, rfl, ?_⟩
  with_reducible repeat (first
      | assumption
      | apply State.noteWrite_evolves
      | apply State.store_EX_MBCTL_evolves
      | (apply covers_trans _ hA; decide +kernel)
      | intro _ | rfl | dsimp only | split)

/-- What `execRstrelWrite` keeps. -/
theorem execRstrelWrite_evolves {A : List Part} {s₀ s : State} (h : Evolves A s₀ s) (m : Master) (v : Word)
    (hA : covers ([Part.drift, .host, .reg .RS_RSTREL] ++ gateParts) A = true) :
    ∃ u, execRstrelWrite m v s = .next u ∧ Evolves A s₀ u := by
  unfold execRstrelWrite
  unfold State.regStore
  refine ⟨_, rfl, ?_⟩
  with_reducible repeat (first
      | assumption
      | apply State.noteWrite_evolves
      | apply State.store_RS_RSTREL_evolves
      | (apply covers_trans _ hA; decide +kernel)
      | intro _ | rfl | dsimp only | split)

/-- What `execSynthEnable` keeps. -/
theorem execSynthEnable_evolves {A : List Part} {s₀ s : State} (h : Evolves A s₀ s) (m : Master) (n : Fin 4) (v : Word)
    (hA : covers ([Part.sense, .uhla, .winder, .reg .PW_GSTAT, .reg .WI_WSTAT, .reg .WI_SCTL, .reg .WI_SSTAT, .reg .UH_USTAT, .reg .UH_UPORT,
      .reg .ET_ETHSTAT] ++ raiseParts) A = true) :
    ∃ u, execSynthEnable m n v s = .next u ∧ Evolves A s₀ u := by
  unfold execSynthEnable
  unfold State.regStore
  refine ⟨_, rfl, ?_⟩
  with_reducible repeat (first
      | assumption
      | apply State.noteWrite_evolves
      | apply State.store_WI_SCTL_evolves
      | (apply covers_trans _ hA; decide +kernel)
      | intro _ | rfl | dsimp only | split)

/-- What `execRefSourceWrite` keeps. -/
theorem execRefSourceWrite_evolves {A : List Part} {s₀ s : State} (h : Evolves A s₀ s) (m : Master) (v : Word)
    (hA : covers [.timers, .drift, .reg .WI_WCTL] A = true) :
    ∃ u, execRefSourceWrite m v s = .next u ∧ Evolves A s₀ u := by
  unfold execRefSourceWrite
  unfold State.regStore
  refine ⟨_, rfl, ?_⟩
  with_reducible repeat (first
      | assumption
      | apply State.noteWrite_evolves
      | apply State.store_WI_WCTL_evolves
      | (apply covers_trans _ hA; decide +kernel)
      | intro _ | rfl | dsimp only | split)

/-- What `execSpreadWrite` keeps. -/
theorem execSpreadWrite_evolves {A : List Part} {s₀ s : State} (h : Evolves A s₀ s) (m : Master) (n : Fin 4) (v : Word)
    (hA : covers [.fresh, .timers, .drift, .winder, .reg .PW_GSTAT, .reg .WI_WSTAT, .reg .WI_SSTAT, .reg .WI_SSCFG] A = true) :
    ∃ u, execSpreadWrite m n v s = .next u ∧ Evolves A s₀ u := by
  unfold execSpreadWrite
  unfold State.regStore
  refine ⟨_, rfl, ?_⟩
  with_reducible repeat (first
      | assumption
      | apply State.noteWrite_evolves
      | apply State.store_WI_SSCFG_evolves
      | (apply covers_trans _ hA; decide +kernel)
      | intro _ | rfl | dsimp only | split)

/-- What `execWinderRampGo` keeps. -/
theorem execWinderRampGo_evolves {A : List Part} {s₀ s : State} (h : Evolves A s₀ s) (m : Master) (v : Word)
    (hA : covers ([Part.uhla, .winder, .reg .PW_GSTAT, .reg .WI_WSTAT, .reg .WI_SSTAT, .reg .WI_RCTL, .reg .WI_RSTAT] ++ raiseParts) A = true) :
    ∃ u, execWinderRampGo m v s = .next u ∧ Evolves A s₀ u := by
  unfold execWinderRampGo
  unfold State.regStore
  refine ⟨_, rfl, ?_⟩
  with_reducible repeat (first
      | assumption
      | apply State.noteWrite_evolves
      | apply State.store_WI_RCTL_evolves
      | (apply covers_trans _ hA; decide +kernel)
      | intro _ | rfl | dsimp only | split)

/-- What `execWinderRampStop` keeps. -/
theorem execWinderRampStop_evolves {A : List Part} {s₀ s : State} (h : Evolves A s₀ s) (m : Master) (v : Word)
    (hA : covers ([Part.uhla, .winder, .reg .PW_GSTAT, .reg .WI_WSTAT, .reg .WI_SSTAT, .reg .WI_RCTL, .reg .WI_RSTAT] ++ raiseParts) A = true) :
    ∃ u, execWinderRampStop m v s = .next u ∧ Evolves A s₀ u := by
  unfold execWinderRampStop
  unfold State.regStore
  refine ⟨_, rfl, ?_⟩
  with_reducible repeat (first
      | assumption
      | apply State.noteWrite_evolves
      | apply State.store_WI_RCTL_evolves
      | (apply covers_trans _ hA; decide +kernel)
      | intro _ | rfl | dsimp only | split)

/-- What `execPwrctlReqNight` keeps. -/
theorem execPwrctlReqNight_evolves {A : List Part} {s₀ s : State} (h : Evolves A s₀ s) (m : Master) (v : Word)
    (hA : covers ([Part.supply, .reg .PR_PWRCTL, .reg .PR_PWRSTAT] ++ raiseParts) A = true) :
    ∃ u, execPwrctlReqNight m v s = .next u ∧ Evolves A s₀ u := by
  unfold execPwrctlReqNight
  unfold State.regStore
  refine ⟨_, rfl, ?_⟩
  with_reducible repeat (first
      | assumption
      | apply State.noteWrite_evolves
      | apply State.store_PR_PWRCTL_evolves
      | (apply covers_trans _ hA; decide +kernel)
      | intro _ | rfl | dsimp only | split)

/-- What `execPwrctlReqPark` keeps. -/
theorem execPwrctlReqPark_evolves {A : List Part} {s₀ s : State} (h : Evolves A s₀ s) (m : Master) (v : Word)
    (hA : covers ([Part.supply, .reg .PR_PWRCTL, .reg .PR_PWRSTAT] ++ raiseParts) A = true) :
    ∃ u, execPwrctlReqPark m v s = .next u ∧ Evolves A s₀ u := by
  unfold execPwrctlReqPark
  unfold State.regStore
  refine ⟨_, rfl, ?_⟩
  with_reducible repeat (first
      | assumption
      | apply State.noteWrite_evolves
      | apply State.store_PR_PWRCTL_evolves
      | (apply covers_trans _ hA; decide +kernel)
      | intro _ | rfl | dsimp only | split)

/-- What `execPwrctlReqRun` keeps. -/
theorem execPwrctlReqRun_evolves {A : List Part} {s₀ s : State} (h : Evolves A s₀ s) (m : Master) (v : Word)
    (hA : covers ([Part.supply, .reg .PR_PWRCTL, .reg .PR_PWRSTAT] ++ raiseParts) A = true) :
    ∃ u, execPwrctlReqRun m v s = .next u ∧ Evolves A s₀ u := by
  unfold execPwrctlReqRun
  unfold State.regStore
  refine ⟨_, rfl, ?_⟩
  with_reducible repeat (first
      | assumption
      | apply State.noteWrite_evolves
      | apply State.store_PR_PWRCTL_evolves
      | (apply covers_trans _ hA; decide +kernel)
      | intro _ | rfl | dsimp only | split)

/-- What `execPadRelease` keeps. -/
theorem execPadRelease_evolves {A : List Part} {s₀ s : State} (h : Evolves A s₀ s) (m : Master) (v : Word)
    (hA : covers [.fresh, .drift, .reg .RS_PADREL] A = true) :
    ∃ u, execPadRelease m v s = .next u ∧ Evolves A s₀ u := by
  unfold execPadRelease
  unfold State.regStore
  refine ⟨_, rfl, ?_⟩
  with_reducible repeat (first
      | assumption
      | apply State.noteWrite_evolves
      | apply State.store_RS_PADREL_evolves
      | (apply covers_trans _ hA; decide +kernel)
      | intro _ | rfl | dsimp only | split)

/-- What `execRstctlDeviceWarm` keeps. -/
theorem execRstctlDeviceWarm_evolves {A : List Part} {s₀ s : State} (h : Evolves A s₀ s) (m : Master) (v : Word) (hA : covers Part.all A = true) :
    ∃ u, execRstctlDeviceWarm m v s = .next u ∧ Evolves A s₀ u := by
  unfold execRstctlDeviceWarm
  unfold State.regStore
  refine ⟨_, rfl, ?_⟩
  with_reducible repeat (first
      | assumption
      | apply State.noteWrite_evolves
      | apply State.store_RS_RSTCTL_evolves
      | (apply covers_trans _ hA; exact covers_all _)
      | intro _ | rfl | dsimp only | split)

/-- What `execRstctlPairWarm` keeps. -/
theorem execRstctlPairWarm_evolves {A : List Part} {s₀ s : State} (h : Evolves A s₀ s) (m : Master) (v : Word) (hA : covers Part.all A = true) :
    ∃ u, execRstctlPairWarm m v s = .next u ∧ Evolves A s₀ u := by
  unfold execRstctlPairWarm
  unfold State.regStore
  refine ⟨_, rfl, ?_⟩
  with_reducible repeat (first
      | assumption
      | apply State.noteWrite_evolves
      | apply State.store_RS_RSTCTL_evolves
      | (apply covers_trans _ hA; exact covers_all _)
      | intro _ | rfl | dsimp only | split)

/-- What `execWdtkick` keeps. -/
theorem execWdtkick_evolves {A : List Part} {s₀ s : State} (h : Evolves A s₀ s) (m : Master) (n : Pair) (v : Word)
    (hA : covers ([Part.reg .RS_RSTSTAT] ++ raiseParts) A = true) :
    ∃ u, execWdtkick m n v s = .next u ∧ Evolves A s₀ u := by
  unfold execWdtkick
  unfold State.regStore
  refine ⟨_, rfl, ?_⟩
  with_reducible repeat (first
      | assumption
      | apply State.noteWrite_evolves
      | apply State.store_RS_WDTKICK_evolves
      | (apply covers_trans _ hA; decide +kernel)
      | intro _ | rfl | dsimp only | split)

/-- What `execStrput` keeps. -/
theorem execStrput_evolves {A : List Part} {s₀ s : State} (h : Evolves A s₀ s) (m : Master) (t : Sys2Proof.Stream) (v : Word)
    (hA : covers seamParts A = true) :
    ∃ u, execStrput m t v s = .next u ∧ Evolves A s₀ u := by
  unfold execStrput
  unfold State.regStore
  refine ⟨_, rfl, ?_⟩
  with_reducible repeat (first
      | assumption
      | apply State.noteWrite_evolves
      | apply State.store_SE_STRPUT_evolves
      | (apply covers_trans _ hA; decide +kernel)
      | intro _ | rfl | dsimp only | split)

/-- What `execFireTrigger` keeps. -/
theorem execFireTrigger_evolves {A : List Part} {s₀ s : State} (h : Evolves A s₀ s) (m : Master) (n : Trig) (v : Word)
    (hA : covers ([Part.reg .SE_TRGCTL, .reg .SE_CAPSTART, .reg .SE_DRSTAT] ++ seamParts) A = true) :
    ∃ u, execFireTrigger m n v s = .next u ∧ Evolves A s₀ u := by
  unfold execFireTrigger
  unfold State.regStore
  refine ⟨_, rfl, ?_⟩
  with_reducible repeat (first
      | assumption
      | apply State.noteWrite_evolves
      | apply State.store_SE_TRGCTL_evolves
      | (apply covers_trans _ hA; decide +kernel)
      | intro _ | rfl | dsimp only | split)

/-- What `execCaptureRelease` keeps. -/
theorem execCaptureRelease_evolves {A : List Part} {s₀ s : State} (h : Evolves A s₀ s) (m : Master) (n : Trig) (v : Word)
    (hA : covers ([Part.reg .SE_TRGCTL, .reg .SE_CAPSTART, .reg .SE_DRSTAT] ++ seamParts) A = true) :
    ∃ u, execCaptureRelease m n v s = .next u ∧ Evolves A s₀ u := by
  unfold execCaptureRelease
  unfold State.regStore
  refine ⟨_, rfl, ?_⟩
  with_reducible repeat (first
      | assumption
      | apply State.noteWrite_evolves
      | apply State.store_SE_TRGCTL_evolves
      | (apply covers_trans _ hA; decide +kernel)
      | intro _ | rfl | dsimp only | split)

/-- What `execDrainGo` keeps. -/
theorem execDrainGo_evolves {A : List Part} {s₀ s : State} (h : Evolves A s₀ s) (m : Master) (d : Drain) (v : Word)
    (hA : covers [.fresh, .drift, .seam, .reg .SE_SSTAT, .reg .SE_DRCFG, .reg .SE_DRPTR, .reg .SE_DRSTAT] A = true) :
    ∃ u, execDrainGo m d v s = .next u ∧ Evolves A s₀ u := by
  unfold execDrainGo
  unfold State.regStore
  refine ⟨_, rfl, ?_⟩
  with_reducible repeat (first
      | assumption
      | apply State.noteWrite_evolves
      | apply State.store_SE_DRCFG_evolves
      | (apply covers_trans _ hA; decide +kernel)
      | intro _ | rfl | dsimp only | split)

/-- What `execDrainStop` keeps. -/
theorem execDrainStop_evolves {A : List Part} {s₀ s : State} (h : Evolves A s₀ s) (m : Master) (d : Drain) (v : Word)
    (hA : covers [.fresh, .drift, .seam, .reg .SE_SSTAT, .reg .SE_DRCFG, .reg .SE_DRPTR, .reg .SE_DRSTAT] A = true) :
    ∃ u, execDrainStop m d v s = .next u ∧ Evolves A s₀ u := by
  unfold execDrainStop
  unfold State.regStore
  refine ⟨_, rfl, ?_⟩
  with_reducible repeat (first
      | assumption
      | apply State.noteWrite_evolves
      | apply State.store_SE_DRCFG_evolves
      | (apply covers_trans _ hA; decide +kernel)
      | intro _ | rfl | dsimp only | split)

/-- What `execUhlaEnable` keeps. -/
theorem execUhlaEnable_evolves {A : List Part} {s₀ s : State} (h : Evolves A s₀ s) (m : Master) (v : Word)
    (hA : covers ([Part.uhla, .reg .UH_UCTL, .reg .UH_USTAT, .reg .UH_UPORT] ++ raiseParts) A = true) :
    ∃ u, execUhlaEnable m v s = .next u ∧ Evolves A s₀ u := by
  unfold execUhlaEnable
  unfold State.regStore
  refine ⟨_, rfl, ?_⟩
  with_reducible repeat (first
      | assumption
      | apply State.noteWrite_evolves
      | apply State.store_UH_UCTL_evolves
      | (apply covers_trans _ hA; decide +kernel)
      | intro _ | rfl | dsimp only | split)

/-- What `execUtripgo` keeps. -/
theorem execUtripgo_evolves {A : List Part} {s₀ s : State} (h : Evolves A s₀ s) (m : Master) (v : Word)
    (hA : covers ([Part.uhla, .reg .UH_USTAT, .reg .UH_UTRIPGO] ++ raiseParts) A = true) :
    ∃ u, execUtripgo m v s = .next u ∧ Evolves A s₀ u := by
  unfold execUtripgo
  unfold State.regStore
  refine ⟨_, rfl, ?_⟩
  with_reducible repeat (first
      | assumption
      | apply State.noteWrite_evolves
      | apply State.store_UH_UTRIPGO_evolves
      | (apply covers_trans _ hA; decide +kernel)
      | intro _ | rfl | dsimp only | split)

/-- What `execUtripClear` keeps. -/
theorem execUtripClear_evolves {A : List Part} {s₀ s : State} (h : Evolves A s₀ s) (m : Master) (v : Word)
    (hA : covers ([Part.drift, .reg .UH_USTAT, .reg .UH_UTRIP] ++ gateParts) A = true) :
    ∃ u, execUtripClear m v s = .next u ∧ Evolves A s₀ u := by
  unfold execUtripClear
  unfold State.regStore
  refine ⟨_, rfl, ?_⟩
  with_reducible repeat (first
      | assumption
      | apply State.noteWrite_evolves
      | apply State.store_UH_UTRIP_evolves
      | (apply covers_trans _ hA; decide +kernel)
      | intro _ | rfl | dsimp only | split)

/-- What `execPtpLock` keeps. -/
theorem execPtpLock_evolves {A : List Part} {s₀ s : State} (h : Evolves A s₀ s) (m : Master) (v : Word)
    (hA : covers ([Part.host, .reg .ET_PTPTRUST] ++ raiseParts) A = true) :
    ∃ u, execPtpLock m v s = .next u ∧ Evolves A s₀ u := by
  unfold execPtpLock
  unfold State.regStore
  refine ⟨_, rfl, ?_⟩
  with_reducible repeat (first
      | assumption
      | apply State.noteWrite_evolves
      | apply State.store_ET_PTPTRUST_evolves
      | (apply covers_trans _ hA; decide +kernel)
      | intro _ | rfl | dsimp only | split)

/-- What `execPtpstep` keeps. -/
theorem execPtpstep_evolves {A : List Part} {s₀ s : State} (h : Evolves A s₀ s) (m : Master) (v : Word)
    (hA : covers ([Part.host] ++ raiseParts) A = true) :
    ∃ u, execPtpstep m v s = .next u ∧ Evolves A s₀ u := by
  unfold execPtpstep
  unfold State.regStore
  refine ⟨_, rfl, ?_⟩
  with_reducible repeat (first
      | assumption
      | apply State.noteWrite_evolves
      | apply State.store_ET_PTPSTEP_evolves
      | (apply covers_trans _ hA; decide +kernel)
      | intro _ | rfl | dsimp only | split)

/-- What `execUsvput` keeps. -/
theorem execUsvput_evolves {A : List Part} {s₀ s : State} (h : Evolves A s₀ s) (m : Master) (v : Fin 256) (w : Word)
    (hA : covers [.fresh, .drift, .uhla, .reg .UH_USTAT] A = true) :
    ∃ u, execUsvput m v w s = .next u ∧ Evolves A s₀ u := by
  unfold execUsvput
  unfold State.regStore
  refine ⟨_, rfl, ?_⟩
  with_reducible repeat (first
      | assumption
      | apply State.noteWrite_evolves
      | apply State.store_UH_USVPUT_evolves
      | (apply covers_trans _ hA; decide +kernel)
      | intro _ | rfl | dsimp only | split)

/-- What `execUsvcfgWrite` keeps. -/
theorem execUsvcfgWrite_evolves {A : List Part} {s₀ s : State} (h : Evolves A s₀ s) (m : Master) (v : Fin 256) (w : Word)
    (hA : covers [.fresh, .drift, .reg .UH_USTAT, .reg .UH_USVCFG] A = true) :
    ∃ u, execUsvcfgWrite m v w s = .next u ∧ Evolves A s₀ u := by
  unfold execUsvcfgWrite
  unfold State.regStore
  refine ⟨_, rfl, ?_⟩
  with_reducible repeat (first
      | assumption
      | apply State.noteWrite_evolves
      | apply State.store_UH_USVCFG_evolves
      | (apply covers_trans _ hA; decide +kernel)
      | intro _ | rfl | dsimp only | split)

/-! ### Machine/Bus -/

/-- The registers that note an access to an unmapped address. -/
theorem unmappedFld_covers (a : Nat) : ∀ v, unmappedFld a = some v → covers [.fresh, .reg v.1.reg] [.fresh, .reg .BLK_BLKCTL, .reg .HF_DOMSTAT, .reg .SP_STAT, .reg .PK_PSTAT, .reg .SN_CTL, .reg .CN_CSTAT, .reg .PW_GSTAT, .reg .CG_CGSTAT, .reg .AS_ASTAT, .reg .DR_DSTAT, .reg .FM_FCAUSE, .reg .EX_EXSTAT, .reg .WI_WSTAT, .reg .PR_PWRSTAT, .reg .RS_RSTSTAT, .reg .LA_LSTAT, .reg .SE_SSTAT, .reg .UH_USTAT] = true := by
  unfold unmappedFld
  repeat refine ite_some (fun _ e => by cases e <;> (dsimp only; decide +kernel)) ?_
  exact fun _ e => by cases e; decide +kernel

/-- What `State.unmapped` keeps. -/
theorem State.unmapped_evolves {A : List Part} {s₀ s : State} (h : Evolves A s₀ s) (m : Master) (a : Nat)
    (hA : covers [.fresh, .reg .BLK_BLKCTL, .reg .HF_DOMSTAT, .reg .SP_STAT, .reg .PK_PSTAT, .reg .SN_CTL, .reg .CN_CSTAT, .reg .PW_GSTAT,
      .reg .CG_CGSTAT, .reg .AS_ASTAT, .reg .DR_DSTAT, .reg .FM_FCAUSE, .reg .EX_EXSTAT, .reg .WI_WSTAT, .reg .PR_PWRSTAT, .reg .RS_RSTSTAT,
      .reg .LA_LSTAT, .reg .SE_SSTAT, .reg .UH_USTAT] A = true) :
    Evolves A s₀ (s.unmapped m a) := by
  unfold State.unmapped
  split
  · exact h
  · split
    · rename_i f i e
      exact State.put_evolves h f 1 i 0 (covers_trans (unmappedFld_covers a (f, i) e) hA)
    · exact h

/-- What `State.readReg` keeps. -/
theorem State.readReg_evolves {A : List Part} {s₀ s : State} (h : Evolves A s₀ s) (m : Master) (r : RegId) (i : Nat) (j : Nat)
    (hA : covers [.fresh, .latched, .bus, .freeIdx, .drift, .intc, .reg .DR_PLOG, .reg .IC_PEND] A = true) :
    Evolves A s₀ (s.readReg m r i j).2 := by
  unfold State.readReg
  with_reducible repeat (first
      | assumption
      | apply State.claim_evolves
      | apply State.free_evolves
      | apply State.latch_evolves
      | (apply covers_trans _ hA; decide +kernel)
      | intro _ | rfl | dsimp only | split)

/-- What `State.readAt` keeps. -/
theorem State.readAt_evolves {A : List Part} {s₀ s : State} (h : Evolves A s₀ s) (m : Master) (a : Nat) (hA : covers readParts A = true) :
    Evolves A s₀ (s.readAt m a) := by
  unfold State.readAt
  with_reducible repeat (first
      | assumption
      | apply State.readReg_evolves
      | apply State.busLoad_evolves
      | apply State.unmapped_evolves
      | (apply covers_trans _ hA; decide +kernel)
      | intro _ | rfl | dsimp only | split)

/-- What `State.selfStore` keeps. -/
theorem State.selfStore_evolves {A : List Part} {s₀ s : State} (h : Evolves A s₀ s) (m : Master) (r : RegId) (v : Word) (j : Nat)
    (hA : covers Part.all A = true) :
    Evolves A s₀ (s.selfStore m r v j) := by
  unfold State.selfStore
  with_reducible repeat (first
      | assumption
      | apply State.sliceWrite_evolves
      | apply State.complete_evolves
      | apply State.pendWrite_evolves
      | apply State.wakeSlice_evolves
      | apply State.regWrite_evolves
      | (apply covers_trans _ hA; exact covers_all _)
      | intro _ | rfl | dsimp only | split)

/-- What `State.writeAt` keeps. -/
theorem State.writeAt_evolves {A : List Part} {s₀ s : State} (h : Evolves A s₀ s) (m : Master) (a : Nat) (v : Word) (hA : covers Part.all A = true) :
    Evolves A s₀ (s.writeAt m a v) := by
  unfold State.writeAt
  with_reducible repeat (first
      | assumption
      | apply State.selfStore_evolves
      | apply State.noteWrite_evolves
      | apply State.regStore_evolves
      | apply State.unmapped_evolves
      | apply State.busAnswer_evolves
      | (apply covers_trans _ hA; exact covers_all _)
      | intro _ | rfl | dsimp only | split)

/-- What `execRegisterWrite` keeps. -/
theorem execRegisterWrite_evolves {A : List Part} {s₀ s : State} (h : Evolves A s₀ s) (m : Master) (a : Word) (v : Word)
    (hA : covers Part.all A = true) :
    ∃ u, execRegisterWrite m a v s = .next u ∧ Evolves A s₀ u := by
  unfold execRegisterWrite
  refine ⟨_, rfl, ?_⟩
  with_reducible repeat (first
      | assumption
      | apply State.writeAt_evolves
      | (apply covers_trans _ hA; exact covers_all _)
      | intro _ | rfl | dsimp only | split)

/-- What `execLatchingRead` keeps. -/
theorem execLatchingRead_evolves {A : List Part} {s₀ s : State} (h : Evolves A s₀ s) (m : Master) (a : Word) (hA : covers readParts A = true) :
    ∃ u, execLatchingRead m a s = .next u ∧ Evolves A s₀ u := by
  unfold execLatchingRead
  refine ⟨_, rfl, ?_⟩
  with_reducible repeat (first
      | assumption
      | apply State.readAt_evolves
      | (apply covers_trans _ hA; decide +kernel)
      | intro _ | rfl | dsimp only | split)

/-- What `execAddrUnmapped` keeps. -/
theorem execAddrUnmapped_evolves {A : List Part} {s₀ s : State} (h : Evolves A s₀ s) (m : Master) (a : Word) (w : Option Word)
    (hA : covers Part.all A = true) :
    ∃ u, execAddrUnmapped m a w s = .next u ∧ Evolves A s₀ u := by
  unfold execAddrUnmapped
  refine ⟨_, rfl, ?_⟩
  with_reducible repeat (first
      | assumption
      | apply State.writeAt_evolves
      | apply State.readAt_evolves
      | (apply covers_trans _ hA; exact covers_all _)
      | intro _ | rfl | dsimp only | split)

/-- What `execClaim` keeps. -/
theorem execClaim_evolves {A : List Part} {s₀ s : State} (h : Evolves A s₀ s) (m : Master) (n : Option Slice) (hA : covers readParts A = true) :
    ∃ u, execClaim m n s = .next u ∧ Evolves A s₀ u := by
  unfold execClaim
  refine ⟨_, rfl, ?_⟩
  with_reducible repeat (first
      | assumption
      | apply State.readAt_evolves
      | (apply covers_trans _ hA; decide +kernel)
      | intro _ | rfl | dsimp only | split)

/-- What `State.tcmAccess` keeps. -/
theorem State.tcmAccess_evolves {A : List Part} {s₀ s : State} (h : Evolves A s₀ s) (m : Master) (a : Nat) (op : MemOp) (ecc : Nat)
    (hA : covers Part.all A = true) :
    Evolves A s₀ (s.tcmAccess m a op ecc) := by
  unfold State.tcmAccess
  with_reducible repeat (first
      | assumption
      | apply State.busAnswer_evolves
      | apply State.put_evolves
      | apply State.noteWrite_evolves
      | apply State.busLoad_evolves
      | apply State.memWrite_evolves
      | apply State.splitCoreStop_evolves
      | apply State.pairFault_evolves
      | apply State.memRead_evolves
      | apply State.bumpSat_evolves
      | (apply covers_trans _ hA; exact covers_all _)
      | intro _ | rfl | dsimp only | split)

/-- What `State.flashAccess` keeps. -/
theorem State.flashAccess_evolves {A : List Part} {s₀ s : State} (h : Evolves A s₀ s) (m : Master) (a : Nat) (op : MemOp) (ecc : Nat)
    (hA : covers ([Part.bus, .reg .SE_MEMSTAT, .reg .SE_MEMERRA] ++ raiseParts) A = true) :
    Evolves A s₀ (s.flashAccess m a op ecc) := by
  unfold State.flashAccess
  with_reducible repeat (first
      | assumption
      | apply State.busAnswer_evolves
      | apply State.put_evolves
      | apply State.noteWrite_evolves
      | apply State.flashEcc_evolves
      | apply State.accessFault_evolves
      | apply State.busLoad_evolves
      | apply State.memRead_evolves
      | (apply covers_trans _ hA; decide +kernel)
      | intro _ | rfl | dsimp only | split)

/-- What `State.romAccess` keeps. -/
theorem State.romAccess_evolves {A : List Part} {s₀ s : State} (h : Evolves A s₀ s) (m : Master) (a : Nat) (op : MemOp)
    (hA : covers [.fresh, .bus, .freeIdx, .drift, .reg .DR_PLOG] A = true) :
    Evolves A s₀ (s.romAccess m a op) := by
  unfold State.romAccess
  with_reducible repeat (first
      | assumption
      | apply State.busAnswer_evolves
      | apply State.noteWrite_evolves
      | apply State.free_evolves
      | apply State.busLoad_evolves
      | (apply covers_trans _ hA; decide +kernel)
      | intro _ | rfl | dsimp only | split)

/-- What `State.memAccess` keeps. -/
theorem State.memAccess_evolves {A : List Part} {s₀ s : State} (h : Evolves A s₀ s) (m : Master) (c : Nat) (a : Nat) (op : MemOp) (ecc : Nat)
    (hA : covers Part.all A = true) :
    Evolves A s₀ (s.memAccess m c a op ecc) := by
  unfold State.memAccess
  with_reducible repeat (first
      | assumption
      | apply State.romAccess_evolves
      | apply State.tcmAccess_evolves
      | apply State.flashAccess_evolves
      | apply State.sharedRequest_evolves
      | (apply covers_trans _ hA; exact covers_all _)
      | intro _ | rfl | dsimp only | split)

/-- What `execMemoryAccess` keeps. -/
theorem execMemoryAccess_evolves {A : List Part} {s₀ s : State} (h : Evolves A s₀ s) (m : Master) (c : Crew) (a : Word) (op : MemOp) (ecc : Fin 3)
    (hA : covers Part.all A = true) :
    ∃ u, execMemoryAccess m c a op ecc s = .next u ∧ Evolves A s₀ u := by
  unfold execMemoryAccess
  refine ⟨_, rfl, ?_⟩
  with_reducible repeat (first
      | assumption
      | apply State.memAccess_evolves
      | (apply covers_trans _ hA; exact covers_all _)
      | intro _ | rfl | dsimp only | split)

/-- What `execAccessFault` keeps. -/
theorem execAccessFault_evolves {A : List Part} {s₀ s : State} (h : Evolves A s₀ s) (m : Master) (a : Word) (op : MemOp)
    (hA : covers [.fresh, .bus, .drift, .reg .DR_PLOG] A = true) :
    ∃ u, execAccessFault m a op s = .next u ∧ Evolves A s₀ u := by
  unfold execAccessFault
  refine ⟨_, rfl, ?_⟩
  with_reducible repeat (first
      | assumption
      | apply State.accessFault_evolves
      | (apply covers_trans _ hA; decide +kernel)
      | intro _ | rfl | dsimp only | split)

/-- What `State.anyAccess` keeps. -/
theorem State.anyAccess_evolves {A : List Part} {s₀ s : State} (h : Evolves A s₀ s) (m : Master) (a : Nat) (op : MemOp)
    (hA : covers Part.all A = true) :
    Evolves A s₀ (s.anyAccess m a op) := by
  unfold State.anyAccess
  with_reducible repeat (first
      | assumption
      | apply State.readAt_evolves
      | apply State.writeAt_evolves
      | apply State.memAccess_evolves
      | (apply covers_trans _ hA; exact covers_all _)
      | intro _ | rfl | dsimp only | split
      | (apply bus_evolves; first | assumption | apply State.readAt_evolves | apply State.writeAt_evolves | apply State.memAccess_evolves | intro _ | rfl | dsimp only | split))

/-- What `State.dbgHalt` keeps. -/
theorem State.dbgHalt_evolves {A : List Part} {s₀ s : State} (h : Evolves A s₀ s) (n : Nat)
    (hA : covers ([Part.drift, .bank, .reg .DR_PSTATE] ++ gateParts) A = true) :
    Evolves A s₀ (s.dbgHalt n) := by
  unfold State.dbgHalt
  with_reducible repeat (first
      | assumption
      | apply State.updPair_evolves
      | apply State.put_evolves
      | apply State.updBank_evolves
      | apply State.regateAll_evolves
      | apply State.wdtFollow_evolves
      | apply State.disarm_evolves
      | (apply covers_trans _ hA; decide +kernel)
      | intro _ | rfl | exact ⟨rfl, rfl, rfl⟩ | dsimp only | split)

/-- What `State.dbgResume` keeps. -/
theorem State.dbgResume_evolves {A : List Part} {s₀ s : State} (h : Evolves A s₀ s) (n : Nat)
    (hA : covers ([Part.reg .SP_OVERRUN0, .reg .SP_OVERRUN1, .reg .SP_CREWSTAT, .reg .DR_PSTATE] ++ raiseParts ++ gateParts) A = true) :
    Evolves A s₀ (s.dbgResume n) := by
  unfold State.dbgResume
  with_reducible repeat (first
      | assumption
      | apply State.coreIrq_evolves
      | apply State.stopSpentPair_evolves
      | apply State.regateAll_evolves
      | apply State.wdtFollow_evolves
      | apply State.arm_evolves
      | apply State.put_evolves
      | (apply covers_trans _ hA; decide +kernel)
      | intro _ | rfl | dsimp only | split)

/-- What `State.dbgStep` keeps. -/
theorem State.dbgStep_evolves {A : List Part} {s₀ s : State} (h : Evolves A s₀ s) (n : Nat) (hA : covers [.freeIdx, .drift] A = true) :
    Evolves A s₀ (s.dbgStep n) := by
  unfold State.dbgStep
  with_reducible repeat (first
      | assumption
      | apply State.free_evolves
      | apply State.updPair_evolves
      | apply State.updCore_evolves
      | (apply covers_trans _ hA; decide +kernel)
      | intro _ | rfl | dsimp only | split)

/-- What `State.updRegs` keeps. -/
theorem State.updRegs_evolves {A : List Part} {s₀ s : State} (h : Evolves A s₀ s) (n : Nat) (f : CoreRegs → CoreRegs)
    (hA : covers [.drift] A = true) :
    Evolves A s₀ (s.updRegs n f) := by
  unfold State.updRegs
  with_reducible repeat (first
      | assumption
      | apply State.updCore_evolves
      | (apply covers_trans _ hA; decide +kernel)
      | intro _ | rfl | dsimp only | split)

/-- What `State.dbg` keeps. -/
theorem State.dbg_evolves {A : List Part} {s₀ s : State} (h : Evolves A s₀ s) (n : Pair) (op : DbgOp) (hA : covers Part.all A = true) :
    Evolves A s₀ (s.dbg n op) := by
  unfold State.dbg
  with_reducible repeat (first
      | assumption
      | apply State.dbgHalt_evolves
      | apply State.dbgResume_evolves
      | apply State.dbgStep_evolves
      | apply State.busAnswer_evolves
      | apply State.updRegs_evolves
      | apply State.coreIrq_evolves
      | apply State.anyAccess_evolves
      | (apply covers_trans _ hA; exact covers_all _)
      | intro _ | rfl | dsimp only | split)

/-- What `execDebugRequest` keeps. -/
theorem execDebugRequest_evolves {A : List Part} {s₀ s : State} (h : Evolves A s₀ s) (n : Pair) (op : DbgOp) (hA : covers Part.all A = true) :
    ∃ u, execDebugRequest n op s = .next u ∧ Evolves A s₀ u := by
  unfold execDebugRequest
  refine ⟨_, rfl, ?_⟩
  with_reducible repeat (first
      | assumption
      | apply State.dbg_evolves
      | apply State.ingress_evolves
      | (apply covers_trans _ hA; exact covers_all _)
      | intro _ | rfl | dsimp only | split)

end Sys2Proof.Machine
end

