-- ==== Sys2Proof/Laws/State.lean ====
section
/-! SUPPORT. What the primitive updates of the state leave as it is: one lemma per field per update, so that no later proof unfolds one. -/

namespace Sys2Proof.Machine

/-! ### State.note -/

@[simp] theorem State.note_pending (s : State) (r : RegId) (m : Word) (i j : Nat) : (s.note r m i j).pending = s.pending := rfl
@[simp] theorem State.note_now (s : State) (r : RegId) (m : Word) (i j : Nat) : (s.note r m i j).now = s.now := rfl
@[simp] theorem State.note_regs (s : State) (r : RegId) (m : Word) (i j : Nat) : (s.note r m i j).regs = s.regs := rfl
@[simp] theorem State.note_latched (s : State) (r : RegId) (m : Word) (i j : Nat) : (s.note r m i j).latched = s.latched := rfl
@[simp] theorem State.note_mem (s : State) (r : RegId) (m : Word) (i j : Nat) : (s.note r m i j).mem = s.mem := rfl
@[simp] theorem State.note_timers (s : State) (r : RegId) (m : Word) (i j : Nat) : (s.note r m i j).timers = s.timers := rfl
@[simp] theorem State.note_bus (s : State) (r : RegId) (m : Word) (i j : Nat) : (s.note r m i j).bus = s.bus := rfl
@[simp] theorem State.note_freeIdx (s : State) (r : RegId) (m : Word) (i j : Nat) : (s.note r m i j).freeIdx = s.freeIdx := rfl
@[simp] theorem State.note_head (s : State) (r : RegId) (m : Word) (i j : Nat) : (s.note r m i j).head = s.head := rfl
@[simp] theorem State.note_plan (s : State) (r : RegId) (m : Word) (i j : Nat) : (s.note r m i j).plan = s.plan := rfl
@[simp] theorem State.note_drift (s : State) (r : RegId) (m : Word) (i j : Nat) : (s.note r m i j).drift = s.drift := rfl
@[simp] theorem State.note_intc (s : State) (r : RegId) (m : Word) (i j : Nat) : (s.note r m i j).intc = s.intc := rfl
@[simp] theorem State.note_seam (s : State) (r : RegId) (m : Word) (i j : Nat) : (s.note r m i j).seam = s.seam := rfl
@[simp] theorem State.note_power (s : State) (r : RegId) (m : Word) (i j : Nat) : (s.note r m i j).power = s.power := rfl
@[simp] theorem State.note_pick (s : State) (r : RegId) (m : Word) (i j : Nat) : (s.note r m i j).pick = s.pick := rfl
@[simp] theorem State.note_sense (s : State) (r : RegId) (m : Word) (i j : Nat) : (s.note r m i j).sense = s.sense := rfl
@[simp] theorem State.note_fm (s : State) (r : RegId) (m : Word) (i j : Nat) : (s.note r m i j).fm = s.fm := rfl
@[simp] theorem State.note_lamp (s : State) (r : RegId) (m : Word) (i j : Nat) : (s.note r m i j).lamp = s.lamp := rfl
@[simp] theorem State.note_assay (s : State) (r : RegId) (m : Word) (i j : Nat) : (s.note r m i j).assay = s.assay := rfl
@[simp] theorem State.note_bank (s : State) (r : RegId) (m : Word) (i j : Nat) : (s.note r m i j).bank = s.bank := rfl
@[simp] theorem State.note_uhla (s : State) (r : RegId) (m : Word) (i j : Nat) : (s.note r m i j).uhla = s.uhla := rfl
@[simp] theorem State.note_winder (s : State) (r : RegId) (m : Word) (i j : Nat) : (s.note r m i j).winder = s.winder := rfl
@[simp] theorem State.note_supply (s : State) (r : RegId) (m : Word) (i j : Nat) : (s.note r m i j).supply = s.supply := rfl
@[simp] theorem State.note_host (s : State) (r : RegId) (m : Word) (i j : Nat) : (s.note r m i j).host = s.host := rfl
@[simp] theorem State.note_rdw (s : State) (r : RegId) (m : Word) (i j : Nat) (q : RegId) (a b : Nat) : (s.note r m i j).rdw q a b = s.rdw q a b := rfl
@[simp] theorem State.note_get (s : State) (r : RegId) (m : Word) (i j : Nat) (g : Fld) (a b : Nat) : (s.note r m i j).get g a b = s.get g a b := rfl

/-! ### State.wrw -/

@[simp] theorem State.wrw_pending (s : State) (r : RegId) (v : Word) (i j : Nat) : (s.wrw r v i j).pending = s.pending := rfl
@[simp] theorem State.wrw_now (s : State) (r : RegId) (v : Word) (i j : Nat) : (s.wrw r v i j).now = s.now := rfl
@[simp] theorem State.wrw_fresh (s : State) (r : RegId) (v : Word) (i j : Nat) : (s.wrw r v i j).fresh = s.fresh := rfl
@[simp] theorem State.wrw_latched (s : State) (r : RegId) (v : Word) (i j : Nat) : (s.wrw r v i j).latched = s.latched := rfl
@[simp] theorem State.wrw_mem (s : State) (r : RegId) (v : Word) (i j : Nat) : (s.wrw r v i j).mem = s.mem := rfl
@[simp] theorem State.wrw_timers (s : State) (r : RegId) (v : Word) (i j : Nat) : (s.wrw r v i j).timers = s.timers := rfl
@[simp] theorem State.wrw_bus (s : State) (r : RegId) (v : Word) (i j : Nat) : (s.wrw r v i j).bus = s.bus := rfl
@[simp] theorem State.wrw_freeIdx (s : State) (r : RegId) (v : Word) (i j : Nat) : (s.wrw r v i j).freeIdx = s.freeIdx := rfl
@[simp] theorem State.wrw_head (s : State) (r : RegId) (v : Word) (i j : Nat) : (s.wrw r v i j).head = s.head := rfl
@[simp] theorem State.wrw_plan (s : State) (r : RegId) (v : Word) (i j : Nat) : (s.wrw r v i j).plan = s.plan := rfl
@[simp] theorem State.wrw_drift (s : State) (r : RegId) (v : Word) (i j : Nat) : (s.wrw r v i j).drift = s.drift := rfl
@[simp] theorem State.wrw_intc (s : State) (r : RegId) (v : Word) (i j : Nat) : (s.wrw r v i j).intc = s.intc := rfl
@[simp] theorem State.wrw_seam (s : State) (r : RegId) (v : Word) (i j : Nat) : (s.wrw r v i j).seam = s.seam := rfl
@[simp] theorem State.wrw_power (s : State) (r : RegId) (v : Word) (i j : Nat) : (s.wrw r v i j).power = s.power := rfl
@[simp] theorem State.wrw_pick (s : State) (r : RegId) (v : Word) (i j : Nat) : (s.wrw r v i j).pick = s.pick := rfl
@[simp] theorem State.wrw_sense (s : State) (r : RegId) (v : Word) (i j : Nat) : (s.wrw r v i j).sense = s.sense := rfl
@[simp] theorem State.wrw_fm (s : State) (r : RegId) (v : Word) (i j : Nat) : (s.wrw r v i j).fm = s.fm := rfl
@[simp] theorem State.wrw_lamp (s : State) (r : RegId) (v : Word) (i j : Nat) : (s.wrw r v i j).lamp = s.lamp := rfl
@[simp] theorem State.wrw_assay (s : State) (r : RegId) (v : Word) (i j : Nat) : (s.wrw r v i j).assay = s.assay := rfl
@[simp] theorem State.wrw_bank (s : State) (r : RegId) (v : Word) (i j : Nat) : (s.wrw r v i j).bank = s.bank := rfl
@[simp] theorem State.wrw_uhla (s : State) (r : RegId) (v : Word) (i j : Nat) : (s.wrw r v i j).uhla = s.uhla := rfl
@[simp] theorem State.wrw_winder (s : State) (r : RegId) (v : Word) (i j : Nat) : (s.wrw r v i j).winder = s.winder := rfl
@[simp] theorem State.wrw_supply (s : State) (r : RegId) (v : Word) (i j : Nat) : (s.wrw r v i j).supply = s.supply := rfl
@[simp] theorem State.wrw_host (s : State) (r : RegId) (v : Word) (i j : Nat) : (s.wrw r v i j).host = s.host := rfl

/-! ### State.put -/

@[simp] theorem State.put_pending (s : State) (f : Fld) (v i j : Nat) : (s.put f v i j).pending = s.pending := rfl
@[simp] theorem State.put_now (s : State) (f : Fld) (v i j : Nat) : (s.put f v i j).now = s.now := rfl
@[simp] theorem State.put_fresh (s : State) (f : Fld) (v i j : Nat) :
    (s.put f v i j).fresh = freshAdd s.now (f.reg.key i j) (if f.width = 1 then f.sets v else 0) s.fresh := rfl
@[simp] theorem State.put_latched (s : State) (f : Fld) (v i j : Nat) : (s.put f v i j).latched = s.latched := rfl
@[simp] theorem State.put_mem (s : State) (f : Fld) (v i j : Nat) : (s.put f v i j).mem = s.mem := rfl
@[simp] theorem State.put_timers (s : State) (f : Fld) (v i j : Nat) : (s.put f v i j).timers = s.timers := rfl
@[simp] theorem State.put_bus (s : State) (f : Fld) (v i j : Nat) : (s.put f v i j).bus = s.bus := rfl
@[simp] theorem State.put_freeIdx (s : State) (f : Fld) (v i j : Nat) : (s.put f v i j).freeIdx = s.freeIdx := rfl
@[simp] theorem State.put_head (s : State) (f : Fld) (v i j : Nat) : (s.put f v i j).head = s.head := rfl
@[simp] theorem State.put_plan (s : State) (f : Fld) (v i j : Nat) : (s.put f v i j).plan = s.plan := rfl
@[simp] theorem State.put_drift (s : State) (f : Fld) (v i j : Nat) : (s.put f v i j).drift = s.drift := rfl
@[simp] theorem State.put_intc (s : State) (f : Fld) (v i j : Nat) : (s.put f v i j).intc = s.intc := rfl
@[simp] theorem State.put_seam (s : State) (f : Fld) (v i j : Nat) : (s.put f v i j).seam = s.seam := rfl
@[simp] theorem State.put_power (s : State) (f : Fld) (v i j : Nat) : (s.put f v i j).power = s.power := rfl
@[simp] theorem State.put_pick (s : State) (f : Fld) (v i j : Nat) : (s.put f v i j).pick = s.pick := rfl
@[simp] theorem State.put_sense (s : State) (f : Fld) (v i j : Nat) : (s.put f v i j).sense = s.sense := rfl
@[simp] theorem State.put_fm (s : State) (f : Fld) (v i j : Nat) : (s.put f v i j).fm = s.fm := rfl
@[simp] theorem State.put_lamp (s : State) (f : Fld) (v i j : Nat) : (s.put f v i j).lamp = s.lamp := rfl
@[simp] theorem State.put_assay (s : State) (f : Fld) (v i j : Nat) : (s.put f v i j).assay = s.assay := rfl
@[simp] theorem State.put_bank (s : State) (f : Fld) (v i j : Nat) : (s.put f v i j).bank = s.bank := rfl
@[simp] theorem State.put_uhla (s : State) (f : Fld) (v i j : Nat) : (s.put f v i j).uhla = s.uhla := rfl
@[simp] theorem State.put_winder (s : State) (f : Fld) (v i j : Nat) : (s.put f v i j).winder = s.winder := rfl
@[simp] theorem State.put_supply (s : State) (f : Fld) (v i j : Nat) : (s.put f v i j).supply = s.supply := rfl
@[simp] theorem State.put_host (s : State) (f : Fld) (v i j : Nat) : (s.put f v i j).host = s.host := rfl

/-! ### State.setByte -/

@[simp] theorem State.setByte_pending (s : State) (a : Nat) (v : Byte) : (s.setByte a v).pending = s.pending := rfl
@[simp] theorem State.setByte_now (s : State) (a : Nat) (v : Byte) : (s.setByte a v).now = s.now := rfl
@[simp] theorem State.setByte_regs (s : State) (a : Nat) (v : Byte) : (s.setByte a v).regs = s.regs := rfl
@[simp] theorem State.setByte_fresh (s : State) (a : Nat) (v : Byte) : (s.setByte a v).fresh = s.fresh := rfl
@[simp] theorem State.setByte_latched (s : State) (a : Nat) (v : Byte) : (s.setByte a v).latched = s.latched := rfl
@[simp] theorem State.setByte_timers (s : State) (a : Nat) (v : Byte) : (s.setByte a v).timers = s.timers := rfl
@[simp] theorem State.setByte_bus (s : State) (a : Nat) (v : Byte) : (s.setByte a v).bus = s.bus := rfl
@[simp] theorem State.setByte_freeIdx (s : State) (a : Nat) (v : Byte) : (s.setByte a v).freeIdx = s.freeIdx := rfl
@[simp] theorem State.setByte_head (s : State) (a : Nat) (v : Byte) : (s.setByte a v).head = s.head := rfl
@[simp] theorem State.setByte_plan (s : State) (a : Nat) (v : Byte) : (s.setByte a v).plan = s.plan := rfl
@[simp] theorem State.setByte_drift (s : State) (a : Nat) (v : Byte) : (s.setByte a v).drift = s.drift := rfl
@[simp] theorem State.setByte_intc (s : State) (a : Nat) (v : Byte) : (s.setByte a v).intc = s.intc := rfl
@[simp] theorem State.setByte_seam (s : State) (a : Nat) (v : Byte) : (s.setByte a v).seam = s.seam := rfl
@[simp] theorem State.setByte_power (s : State) (a : Nat) (v : Byte) : (s.setByte a v).power = s.power := rfl
@[simp] theorem State.setByte_pick (s : State) (a : Nat) (v : Byte) : (s.setByte a v).pick = s.pick := rfl
@[simp] theorem State.setByte_sense (s : State) (a : Nat) (v : Byte) : (s.setByte a v).sense = s.sense := rfl
@[simp] theorem State.setByte_fm (s : State) (a : Nat) (v : Byte) : (s.setByte a v).fm = s.fm := rfl
@[simp] theorem State.setByte_lamp (s : State) (a : Nat) (v : Byte) : (s.setByte a v).lamp = s.lamp := rfl
@[simp] theorem State.setByte_assay (s : State) (a : Nat) (v : Byte) : (s.setByte a v).assay = s.assay := rfl
@[simp] theorem State.setByte_bank (s : State) (a : Nat) (v : Byte) : (s.setByte a v).bank = s.bank := rfl
@[simp] theorem State.setByte_uhla (s : State) (a : Nat) (v : Byte) : (s.setByte a v).uhla = s.uhla := rfl
@[simp] theorem State.setByte_winder (s : State) (a : Nat) (v : Byte) : (s.setByte a v).winder = s.winder := rfl
@[simp] theorem State.setByte_supply (s : State) (a : Nat) (v : Byte) : (s.setByte a v).supply = s.supply := rfl
@[simp] theorem State.setByte_host (s : State) (a : Nat) (v : Byte) : (s.setByte a v).host = s.host := rfl
@[simp] theorem State.setByte_rdw (s : State) (a : Nat) (v : Byte) (r : RegId) (i j : Nat) : (s.setByte a v).rdw r i j = s.rdw r i j := rfl
@[simp] theorem State.setByte_get (s : State) (a : Nat) (v : Byte) (g : Fld) (i j : Nat) : (s.setByte a v).get g i j = s.get g i j := rfl

/-! ### State.arm -/

@[simp] theorem State.arm_pending (s : State) (t : Timer) (d : Nat) : (s.arm t d).pending = s.pending := rfl
@[simp] theorem State.arm_now (s : State) (t : Timer) (d : Nat) : (s.arm t d).now = s.now := rfl
@[simp] theorem State.arm_regs (s : State) (t : Timer) (d : Nat) : (s.arm t d).regs = s.regs := rfl
@[simp] theorem State.arm_fresh (s : State) (t : Timer) (d : Nat) : (s.arm t d).fresh = s.fresh := rfl
@[simp] theorem State.arm_latched (s : State) (t : Timer) (d : Nat) : (s.arm t d).latched = s.latched := rfl
@[simp] theorem State.arm_mem (s : State) (t : Timer) (d : Nat) : (s.arm t d).mem = s.mem := rfl
@[simp] theorem State.arm_bus (s : State) (t : Timer) (d : Nat) : (s.arm t d).bus = s.bus := rfl
@[simp] theorem State.arm_freeIdx (s : State) (t : Timer) (d : Nat) : (s.arm t d).freeIdx = s.freeIdx := rfl
@[simp] theorem State.arm_head (s : State) (t : Timer) (d : Nat) : (s.arm t d).head = s.head := rfl
@[simp] theorem State.arm_plan (s : State) (t : Timer) (d : Nat) : (s.arm t d).plan = s.plan := rfl
@[simp] theorem State.arm_drift (s : State) (t : Timer) (d : Nat) : (s.arm t d).drift = s.drift := rfl
@[simp] theorem State.arm_intc (s : State) (t : Timer) (d : Nat) : (s.arm t d).intc = s.intc := rfl
@[simp] theorem State.arm_seam (s : State) (t : Timer) (d : Nat) : (s.arm t d).seam = s.seam := rfl
@[simp] theorem State.arm_power (s : State) (t : Timer) (d : Nat) : (s.arm t d).power = s.power := rfl
@[simp] theorem State.arm_pick (s : State) (t : Timer) (d : Nat) : (s.arm t d).pick = s.pick := rfl
@[simp] theorem State.arm_sense (s : State) (t : Timer) (d : Nat) : (s.arm t d).sense = s.sense := rfl
@[simp] theorem State.arm_fm (s : State) (t : Timer) (d : Nat) : (s.arm t d).fm = s.fm := rfl
@[simp] theorem State.arm_lamp (s : State) (t : Timer) (d : Nat) : (s.arm t d).lamp = s.lamp := rfl
@[simp] theorem State.arm_assay (s : State) (t : Timer) (d : Nat) : (s.arm t d).assay = s.assay := rfl
@[simp] theorem State.arm_bank (s : State) (t : Timer) (d : Nat) : (s.arm t d).bank = s.bank := rfl
@[simp] theorem State.arm_uhla (s : State) (t : Timer) (d : Nat) : (s.arm t d).uhla = s.uhla := rfl
@[simp] theorem State.arm_winder (s : State) (t : Timer) (d : Nat) : (s.arm t d).winder = s.winder := rfl
@[simp] theorem State.arm_supply (s : State) (t : Timer) (d : Nat) : (s.arm t d).supply = s.supply := rfl
@[simp] theorem State.arm_host (s : State) (t : Timer) (d : Nat) : (s.arm t d).host = s.host := rfl
@[simp] theorem State.arm_rdw (s : State) (t : Timer) (d : Nat) (r : RegId) (i j : Nat) : (s.arm t d).rdw r i j = s.rdw r i j := rfl
@[simp] theorem State.arm_get (s : State) (t : Timer) (d : Nat) (g : Fld) (i j : Nat) : (s.arm t d).get g i j = s.get g i j := rfl

/-! ### State.disarm -/

@[simp] theorem State.disarm_pending (s : State) (t : Timer) : (s.disarm t).pending = s.pending := rfl
@[simp] theorem State.disarm_now (s : State) (t : Timer) : (s.disarm t).now = s.now := rfl
@[simp] theorem State.disarm_regs (s : State) (t : Timer) : (s.disarm t).regs = s.regs := rfl
@[simp] theorem State.disarm_fresh (s : State) (t : Timer) : (s.disarm t).fresh = s.fresh := rfl
@[simp] theorem State.disarm_latched (s : State) (t : Timer) : (s.disarm t).latched = s.latched := rfl
@[simp] theorem State.disarm_mem (s : State) (t : Timer) : (s.disarm t).mem = s.mem := rfl
@[simp] theorem State.disarm_bus (s : State) (t : Timer) : (s.disarm t).bus = s.bus := rfl
@[simp] theorem State.disarm_freeIdx (s : State) (t : Timer) : (s.disarm t).freeIdx = s.freeIdx := rfl
@[simp] theorem State.disarm_head (s : State) (t : Timer) : (s.disarm t).head = s.head := rfl
@[simp] theorem State.disarm_plan (s : State) (t : Timer) : (s.disarm t).plan = s.plan := rfl
@[simp] theorem State.disarm_drift (s : State) (t : Timer) : (s.disarm t).drift = s.drift := rfl
@[simp] theorem State.disarm_intc (s : State) (t : Timer) : (s.disarm t).intc = s.intc := rfl
@[simp] theorem State.disarm_seam (s : State) (t : Timer) : (s.disarm t).seam = s.seam := rfl
@[simp] theorem State.disarm_power (s : State) (t : Timer) : (s.disarm t).power = s.power := rfl
@[simp] theorem State.disarm_pick (s : State) (t : Timer) : (s.disarm t).pick = s.pick := rfl
@[simp] theorem State.disarm_sense (s : State) (t : Timer) : (s.disarm t).sense = s.sense := rfl
@[simp] theorem State.disarm_fm (s : State) (t : Timer) : (s.disarm t).fm = s.fm := rfl
@[simp] theorem State.disarm_lamp (s : State) (t : Timer) : (s.disarm t).lamp = s.lamp := rfl
@[simp] theorem State.disarm_assay (s : State) (t : Timer) : (s.disarm t).assay = s.assay := rfl
@[simp] theorem State.disarm_bank (s : State) (t : Timer) : (s.disarm t).bank = s.bank := rfl
@[simp] theorem State.disarm_uhla (s : State) (t : Timer) : (s.disarm t).uhla = s.uhla := rfl
@[simp] theorem State.disarm_winder (s : State) (t : Timer) : (s.disarm t).winder = s.winder := rfl
@[simp] theorem State.disarm_supply (s : State) (t : Timer) : (s.disarm t).supply = s.supply := rfl
@[simp] theorem State.disarm_host (s : State) (t : Timer) : (s.disarm t).host = s.host := rfl
@[simp] theorem State.disarm_rdw (s : State) (t : Timer) (r : RegId) (i j : Nat) : (s.disarm t).rdw r i j = s.rdw r i j := rfl
@[simp] theorem State.disarm_get (s : State) (t : Timer) (g : Fld) (i j : Nat) : (s.disarm t).get g i j = s.get g i j := rfl

/-! ### State.updPlan -/

@[simp] theorem State.updPlan_pending (s : State) (f : PlanU → PlanU) : (s.updPlan f).pending = s.pending := rfl
@[simp] theorem State.updPlan_now (s : State) (f : PlanU → PlanU) : (s.updPlan f).now = s.now := rfl
@[simp] theorem State.updPlan_regs (s : State) (f : PlanU → PlanU) : (s.updPlan f).regs = s.regs := rfl
@[simp] theorem State.updPlan_fresh (s : State) (f : PlanU → PlanU) : (s.updPlan f).fresh = s.fresh := rfl
@[simp] theorem State.updPlan_latched (s : State) (f : PlanU → PlanU) : (s.updPlan f).latched = s.latched := rfl
@[simp] theorem State.updPlan_mem (s : State) (f : PlanU → PlanU) : (s.updPlan f).mem = s.mem := rfl
@[simp] theorem State.updPlan_timers (s : State) (f : PlanU → PlanU) : (s.updPlan f).timers = s.timers := rfl
@[simp] theorem State.updPlan_bus (s : State) (f : PlanU → PlanU) : (s.updPlan f).bus = s.bus := rfl
@[simp] theorem State.updPlan_freeIdx (s : State) (f : PlanU → PlanU) : (s.updPlan f).freeIdx = s.freeIdx := rfl
@[simp] theorem State.updPlan_head (s : State) (f : PlanU → PlanU) : (s.updPlan f).head = s.head := rfl
@[simp] theorem State.updPlan_plan (s : State) (f : PlanU → PlanU) : (s.updPlan f).plan = f s.plan := rfl
@[simp] theorem State.updPlan_drift (s : State) (f : PlanU → PlanU) : (s.updPlan f).drift = s.drift := rfl
@[simp] theorem State.updPlan_intc (s : State) (f : PlanU → PlanU) : (s.updPlan f).intc = s.intc := rfl
@[simp] theorem State.updPlan_seam (s : State) (f : PlanU → PlanU) : (s.updPlan f).seam = s.seam := rfl
@[simp] theorem State.updPlan_power (s : State) (f : PlanU → PlanU) : (s.updPlan f).power = s.power := rfl
@[simp] theorem State.updPlan_pick (s : State) (f : PlanU → PlanU) : (s.updPlan f).pick = s.pick := rfl
@[simp] theorem State.updPlan_sense (s : State) (f : PlanU → PlanU) : (s.updPlan f).sense = s.sense := rfl
@[simp] theorem State.updPlan_fm (s : State) (f : PlanU → PlanU) : (s.updPlan f).fm = s.fm := rfl
@[simp] theorem State.updPlan_lamp (s : State) (f : PlanU → PlanU) : (s.updPlan f).lamp = s.lamp := rfl
@[simp] theorem State.updPlan_assay (s : State) (f : PlanU → PlanU) : (s.updPlan f).assay = s.assay := rfl
@[simp] theorem State.updPlan_bank (s : State) (f : PlanU → PlanU) : (s.updPlan f).bank = s.bank := rfl
@[simp] theorem State.updPlan_uhla (s : State) (f : PlanU → PlanU) : (s.updPlan f).uhla = s.uhla := rfl
@[simp] theorem State.updPlan_winder (s : State) (f : PlanU → PlanU) : (s.updPlan f).winder = s.winder := rfl
@[simp] theorem State.updPlan_supply (s : State) (f : PlanU → PlanU) : (s.updPlan f).supply = s.supply := rfl
@[simp] theorem State.updPlan_host (s : State) (f : PlanU → PlanU) : (s.updPlan f).host = s.host := rfl
@[simp] theorem State.updPlan_rdw (s : State) (f : PlanU → PlanU) (r : RegId) (i j : Nat) : (s.updPlan f).rdw r i j = s.rdw r i j := rfl
@[simp] theorem State.updPlan_get (s : State) (f : PlanU → PlanU) (g : Fld) (i j : Nat) : (s.updPlan f).get g i j = s.get g i j := rfl

/-! ### State.updLamp -/

@[simp] theorem State.updLamp_pending (s : State) (f : LampU → LampU) : (s.updLamp f).pending = s.pending := rfl
@[simp] theorem State.updLamp_now (s : State) (f : LampU → LampU) : (s.updLamp f).now = s.now := rfl
@[simp] theorem State.updLamp_regs (s : State) (f : LampU → LampU) : (s.updLamp f).regs = s.regs := rfl
@[simp] theorem State.updLamp_fresh (s : State) (f : LampU → LampU) : (s.updLamp f).fresh = s.fresh := rfl
@[simp] theorem State.updLamp_latched (s : State) (f : LampU → LampU) : (s.updLamp f).latched = s.latched := rfl
@[simp] theorem State.updLamp_mem (s : State) (f : LampU → LampU) : (s.updLamp f).mem = s.mem := rfl
@[simp] theorem State.updLamp_timers (s : State) (f : LampU → LampU) : (s.updLamp f).timers = s.timers := rfl
@[simp] theorem State.updLamp_bus (s : State) (f : LampU → LampU) : (s.updLamp f).bus = s.bus := rfl
@[simp] theorem State.updLamp_freeIdx (s : State) (f : LampU → LampU) : (s.updLamp f).freeIdx = s.freeIdx := rfl
@[simp] theorem State.updLamp_head (s : State) (f : LampU → LampU) : (s.updLamp f).head = s.head := rfl
@[simp] theorem State.updLamp_plan (s : State) (f : LampU → LampU) : (s.updLamp f).plan = s.plan := rfl
@[simp] theorem State.updLamp_drift (s : State) (f : LampU → LampU) : (s.updLamp f).drift = s.drift := rfl
@[simp] theorem State.updLamp_intc (s : State) (f : LampU → LampU) : (s.updLamp f).intc = s.intc := rfl
@[simp] theorem State.updLamp_seam (s : State) (f : LampU → LampU) : (s.updLamp f).seam = s.seam := rfl
@[simp] theorem State.updLamp_power (s : State) (f : LampU → LampU) : (s.updLamp f).power = s.power := rfl
@[simp] theorem State.updLamp_pick (s : State) (f : LampU → LampU) : (s.updLamp f).pick = s.pick := rfl
@[simp] theorem State.updLamp_sense (s : State) (f : LampU → LampU) : (s.updLamp f).sense = s.sense := rfl
@[simp] theorem State.updLamp_fm (s : State) (f : LampU → LampU) : (s.updLamp f).fm = s.fm := rfl
@[simp] theorem State.updLamp_lamp (s : State) (f : LampU → LampU) : (s.updLamp f).lamp = f s.lamp := rfl
@[simp] theorem State.updLamp_assay (s : State) (f : LampU → LampU) : (s.updLamp f).assay = s.assay := rfl
@[simp] theorem State.updLamp_bank (s : State) (f : LampU → LampU) : (s.updLamp f).bank = s.bank := rfl
@[simp] theorem State.updLamp_uhla (s : State) (f : LampU → LampU) : (s.updLamp f).uhla = s.uhla := rfl
@[simp] theorem State.updLamp_winder (s : State) (f : LampU → LampU) : (s.updLamp f).winder = s.winder := rfl
@[simp] theorem State.updLamp_supply (s : State) (f : LampU → LampU) : (s.updLamp f).supply = s.supply := rfl
@[simp] theorem State.updLamp_host (s : State) (f : LampU → LampU) : (s.updLamp f).host = s.host := rfl
@[simp] theorem State.updLamp_rdw (s : State) (f : LampU → LampU) (r : RegId) (i j : Nat) : (s.updLamp f).rdw r i j = s.rdw r i j := rfl
@[simp] theorem State.updLamp_get (s : State) (f : LampU → LampU) (g : Fld) (i j : Nat) : (s.updLamp f).get g i j = s.get g i j := rfl

/-! ### State.updAssay -/

@[simp] theorem State.updAssay_pending (s : State) (f : AssayU → AssayU) : (s.updAssay f).pending = s.pending := rfl
@[simp] theorem State.updAssay_now (s : State) (f : AssayU → AssayU) : (s.updAssay f).now = s.now := rfl
@[simp] theorem State.updAssay_regs (s : State) (f : AssayU → AssayU) : (s.updAssay f).regs = s.regs := rfl
@[simp] theorem State.updAssay_fresh (s : State) (f : AssayU → AssayU) : (s.updAssay f).fresh = s.fresh := rfl
@[simp] theorem State.updAssay_latched (s : State) (f : AssayU → AssayU) : (s.updAssay f).latched = s.latched := rfl
@[simp] theorem State.updAssay_mem (s : State) (f : AssayU → AssayU) : (s.updAssay f).mem = s.mem := rfl
@[simp] theorem State.updAssay_timers (s : State) (f : AssayU → AssayU) : (s.updAssay f).timers = s.timers := rfl
@[simp] theorem State.updAssay_bus (s : State) (f : AssayU → AssayU) : (s.updAssay f).bus = s.bus := rfl
@[simp] theorem State.updAssay_freeIdx (s : State) (f : AssayU → AssayU) : (s.updAssay f).freeIdx = s.freeIdx := rfl
@[simp] theorem State.updAssay_head (s : State) (f : AssayU → AssayU) : (s.updAssay f).head = s.head := rfl
@[simp] theorem State.updAssay_plan (s : State) (f : AssayU → AssayU) : (s.updAssay f).plan = s.plan := rfl
@[simp] theorem State.updAssay_drift (s : State) (f : AssayU → AssayU) : (s.updAssay f).drift = s.drift := rfl
@[simp] theorem State.updAssay_intc (s : State) (f : AssayU → AssayU) : (s.updAssay f).intc = s.intc := rfl
@[simp] theorem State.updAssay_seam (s : State) (f : AssayU → AssayU) : (s.updAssay f).seam = s.seam := rfl
@[simp] theorem State.updAssay_power (s : State) (f : AssayU → AssayU) : (s.updAssay f).power = s.power := rfl
@[simp] theorem State.updAssay_pick (s : State) (f : AssayU → AssayU) : (s.updAssay f).pick = s.pick := rfl
@[simp] theorem State.updAssay_sense (s : State) (f : AssayU → AssayU) : (s.updAssay f).sense = s.sense := rfl
@[simp] theorem State.updAssay_fm (s : State) (f : AssayU → AssayU) : (s.updAssay f).fm = s.fm := rfl
@[simp] theorem State.updAssay_lamp (s : State) (f : AssayU → AssayU) : (s.updAssay f).lamp = s.lamp := rfl
@[simp] theorem State.updAssay_assay (s : State) (f : AssayU → AssayU) : (s.updAssay f).assay = f s.assay := rfl
@[simp] theorem State.updAssay_bank (s : State) (f : AssayU → AssayU) : (s.updAssay f).bank = s.bank := rfl
@[simp] theorem State.updAssay_uhla (s : State) (f : AssayU → AssayU) : (s.updAssay f).uhla = s.uhla := rfl
@[simp] theorem State.updAssay_winder (s : State) (f : AssayU → AssayU) : (s.updAssay f).winder = s.winder := rfl
@[simp] theorem State.updAssay_supply (s : State) (f : AssayU → AssayU) : (s.updAssay f).supply = s.supply := rfl
@[simp] theorem State.updAssay_host (s : State) (f : AssayU → AssayU) : (s.updAssay f).host = s.host := rfl
@[simp] theorem State.updAssay_rdw (s : State) (f : AssayU → AssayU) (r : RegId) (i j : Nat) : (s.updAssay f).rdw r i j = s.rdw r i j := rfl
@[simp] theorem State.updAssay_get (s : State) (f : AssayU → AssayU) (g : Fld) (i j : Nat) : (s.updAssay f).get g i j = s.get g i j := rfl

/-! ### State.updBank -/

@[simp] theorem State.updBank_pending (s : State) (f : BankU → BankU) : (s.updBank f).pending = s.pending := rfl
@[simp] theorem State.updBank_now (s : State) (f : BankU → BankU) : (s.updBank f).now = s.now := rfl
@[simp] theorem State.updBank_regs (s : State) (f : BankU → BankU) : (s.updBank f).regs = s.regs := rfl
@[simp] theorem State.updBank_fresh (s : State) (f : BankU → BankU) : (s.updBank f).fresh = s.fresh := rfl
@[simp] theorem State.updBank_latched (s : State) (f : BankU → BankU) : (s.updBank f).latched = s.latched := rfl
@[simp] theorem State.updBank_mem (s : State) (f : BankU → BankU) : (s.updBank f).mem = s.mem := rfl
@[simp] theorem State.updBank_timers (s : State) (f : BankU → BankU) : (s.updBank f).timers = s.timers := rfl
@[simp] theorem State.updBank_bus (s : State) (f : BankU → BankU) : (s.updBank f).bus = s.bus := rfl
@[simp] theorem State.updBank_freeIdx (s : State) (f : BankU → BankU) : (s.updBank f).freeIdx = s.freeIdx := rfl
@[simp] theorem State.updBank_head (s : State) (f : BankU → BankU) : (s.updBank f).head = s.head := rfl
@[simp] theorem State.updBank_plan (s : State) (f : BankU → BankU) : (s.updBank f).plan = s.plan := rfl
@[simp] theorem State.updBank_drift (s : State) (f : BankU → BankU) : (s.updBank f).drift = s.drift := rfl
@[simp] theorem State.updBank_intc (s : State) (f : BankU → BankU) : (s.updBank f).intc = s.intc := rfl
@[simp] theorem State.updBank_seam (s : State) (f : BankU → BankU) : (s.updBank f).seam = s.seam := rfl
@[simp] theorem State.updBank_power (s : State) (f : BankU → BankU) : (s.updBank f).power = s.power := rfl
@[simp] theorem State.updBank_pick (s : State) (f : BankU → BankU) : (s.updBank f).pick = s.pick := rfl
@[simp] theorem State.updBank_sense (s : State) (f : BankU → BankU) : (s.updBank f).sense = s.sense := rfl
@[simp] theorem State.updBank_fm (s : State) (f : BankU → BankU) : (s.updBank f).fm = s.fm := rfl
@[simp] theorem State.updBank_lamp (s : State) (f : BankU → BankU) : (s.updBank f).lamp = s.lamp := rfl
@[simp] theorem State.updBank_assay (s : State) (f : BankU → BankU) : (s.updBank f).assay = s.assay := rfl
@[simp] theorem State.updBank_bank (s : State) (f : BankU → BankU) : (s.updBank f).bank = f s.bank := rfl
@[simp] theorem State.updBank_uhla (s : State) (f : BankU → BankU) : (s.updBank f).uhla = s.uhla := rfl
@[simp] theorem State.updBank_winder (s : State) (f : BankU → BankU) : (s.updBank f).winder = s.winder := rfl
@[simp] theorem State.updBank_supply (s : State) (f : BankU → BankU) : (s.updBank f).supply = s.supply := rfl
@[simp] theorem State.updBank_host (s : State) (f : BankU → BankU) : (s.updBank f).host = s.host := rfl
@[simp] theorem State.updBank_rdw (s : State) (f : BankU → BankU) (r : RegId) (i j : Nat) : (s.updBank f).rdw r i j = s.rdw r i j := rfl
@[simp] theorem State.updBank_get (s : State) (f : BankU → BankU) (g : Fld) (i j : Nat) : (s.updBank f).get g i j = s.get g i j := rfl

/-! ### State.updUhla -/

@[simp] theorem State.updUhla_pending (s : State) (f : UhlaU → UhlaU) : (s.updUhla f).pending = s.pending := rfl
@[simp] theorem State.updUhla_now (s : State) (f : UhlaU → UhlaU) : (s.updUhla f).now = s.now := rfl
@[simp] theorem State.updUhla_regs (s : State) (f : UhlaU → UhlaU) : (s.updUhla f).regs = s.regs := rfl
@[simp] theorem State.updUhla_fresh (s : State) (f : UhlaU → UhlaU) : (s.updUhla f).fresh = s.fresh := rfl
@[simp] theorem State.updUhla_latched (s : State) (f : UhlaU → UhlaU) : (s.updUhla f).latched = s.latched := rfl
@[simp] theorem State.updUhla_mem (s : State) (f : UhlaU → UhlaU) : (s.updUhla f).mem = s.mem := rfl
@[simp] theorem State.updUhla_timers (s : State) (f : UhlaU → UhlaU) : (s.updUhla f).timers = s.timers := rfl
@[simp] theorem State.updUhla_bus (s : State) (f : UhlaU → UhlaU) : (s.updUhla f).bus = s.bus := rfl
@[simp] theorem State.updUhla_freeIdx (s : State) (f : UhlaU → UhlaU) : (s.updUhla f).freeIdx = s.freeIdx := rfl
@[simp] theorem State.updUhla_head (s : State) (f : UhlaU → UhlaU) : (s.updUhla f).head = s.head := rfl
@[simp] theorem State.updUhla_plan (s : State) (f : UhlaU → UhlaU) : (s.updUhla f).plan = s.plan := rfl
@[simp] theorem State.updUhla_drift (s : State) (f : UhlaU → UhlaU) : (s.updUhla f).drift = s.drift := rfl
@[simp] theorem State.updUhla_intc (s : State) (f : UhlaU → UhlaU) : (s.updUhla f).intc = s.intc := rfl
@[simp] theorem State.updUhla_seam (s : State) (f : UhlaU → UhlaU) : (s.updUhla f).seam = s.seam := rfl
@[simp] theorem State.updUhla_power (s : State) (f : UhlaU → UhlaU) : (s.updUhla f).power = s.power := rfl
@[simp] theorem State.updUhla_pick (s : State) (f : UhlaU → UhlaU) : (s.updUhla f).pick = s.pick := rfl
@[simp] theorem State.updUhla_sense (s : State) (f : UhlaU → UhlaU) : (s.updUhla f).sense = s.sense := rfl
@[simp] theorem State.updUhla_fm (s : State) (f : UhlaU → UhlaU) : (s.updUhla f).fm = s.fm := rfl
@[simp] theorem State.updUhla_lamp (s : State) (f : UhlaU → UhlaU) : (s.updUhla f).lamp = s.lamp := rfl
@[simp] theorem State.updUhla_assay (s : State) (f : UhlaU → UhlaU) : (s.updUhla f).assay = s.assay := rfl
@[simp] theorem State.updUhla_bank (s : State) (f : UhlaU → UhlaU) : (s.updUhla f).bank = s.bank := rfl
@[simp] theorem State.updUhla_uhla (s : State) (f : UhlaU → UhlaU) : (s.updUhla f).uhla = f s.uhla := rfl
@[simp] theorem State.updUhla_winder (s : State) (f : UhlaU → UhlaU) : (s.updUhla f).winder = s.winder := rfl
@[simp] theorem State.updUhla_supply (s : State) (f : UhlaU → UhlaU) : (s.updUhla f).supply = s.supply := rfl
@[simp] theorem State.updUhla_host (s : State) (f : UhlaU → UhlaU) : (s.updUhla f).host = s.host := rfl
@[simp] theorem State.updUhla_rdw (s : State) (f : UhlaU → UhlaU) (r : RegId) (i j : Nat) : (s.updUhla f).rdw r i j = s.rdw r i j := rfl
@[simp] theorem State.updUhla_get (s : State) (f : UhlaU → UhlaU) (g : Fld) (i j : Nat) : (s.updUhla f).get g i j = s.get g i j := rfl

/-! ### State.updSupply -/

@[simp] theorem State.updSupply_pending (s : State) (f : SupplyU → SupplyU) : (s.updSupply f).pending = s.pending := rfl
@[simp] theorem State.updSupply_now (s : State) (f : SupplyU → SupplyU) : (s.updSupply f).now = s.now := rfl
@[simp] theorem State.updSupply_regs (s : State) (f : SupplyU → SupplyU) : (s.updSupply f).regs = s.regs := rfl
@[simp] theorem State.updSupply_fresh (s : State) (f : SupplyU → SupplyU) : (s.updSupply f).fresh = s.fresh := rfl
@[simp] theorem State.updSupply_latched (s : State) (f : SupplyU → SupplyU) : (s.updSupply f).latched = s.latched := rfl
@[simp] theorem State.updSupply_mem (s : State) (f : SupplyU → SupplyU) : (s.updSupply f).mem = s.mem := rfl
@[simp] theorem State.updSupply_timers (s : State) (f : SupplyU → SupplyU) : (s.updSupply f).timers = s.timers := rfl
@[simp] theorem State.updSupply_bus (s : State) (f : SupplyU → SupplyU) : (s.updSupply f).bus = s.bus := rfl
@[simp] theorem State.updSupply_freeIdx (s : State) (f : SupplyU → SupplyU) : (s.updSupply f).freeIdx = s.freeIdx := rfl
@[simp] theorem State.updSupply_head (s : State) (f : SupplyU → SupplyU) : (s.updSupply f).head = s.head := rfl
@[simp] theorem State.updSupply_plan (s : State) (f : SupplyU → SupplyU) : (s.updSupply f).plan = s.plan := rfl
@[simp] theorem State.updSupply_drift (s : State) (f : SupplyU → SupplyU) : (s.updSupply f).drift = s.drift := rfl
@[simp] theorem State.updSupply_intc (s : State) (f : SupplyU → SupplyU) : (s.updSupply f).intc = s.intc := rfl
@[simp] theorem State.updSupply_seam (s : State) (f : SupplyU → SupplyU) : (s.updSupply f).seam = s.seam := rfl
@[simp] theorem State.updSupply_power (s : State) (f : SupplyU → SupplyU) : (s.updSupply f).power = s.power := rfl
@[simp] theorem State.updSupply_pick (s : State) (f : SupplyU → SupplyU) : (s.updSupply f).pick = s.pick := rfl
@[simp] theorem State.updSupply_sense (s : State) (f : SupplyU → SupplyU) : (s.updSupply f).sense = s.sense := rfl
@[simp] theorem State.updSupply_fm (s : State) (f : SupplyU → SupplyU) : (s.updSupply f).fm = s.fm := rfl
@[simp] theorem State.updSupply_lamp (s : State) (f : SupplyU → SupplyU) : (s.updSupply f).lamp = s.lamp := rfl
@[simp] theorem State.updSupply_assay (s : State) (f : SupplyU → SupplyU) : (s.updSupply f).assay = s.assay := rfl
@[simp] theorem State.updSupply_bank (s : State) (f : SupplyU → SupplyU) : (s.updSupply f).bank = s.bank := rfl
@[simp] theorem State.updSupply_uhla (s : State) (f : SupplyU → SupplyU) : (s.updSupply f).uhla = s.uhla := rfl
@[simp] theorem State.updSupply_winder (s : State) (f : SupplyU → SupplyU) : (s.updSupply f).winder = s.winder := rfl
@[simp] theorem State.updSupply_supply (s : State) (f : SupplyU → SupplyU) : (s.updSupply f).supply = f s.supply := rfl
@[simp] theorem State.updSupply_host (s : State) (f : SupplyU → SupplyU) : (s.updSupply f).host = s.host := rfl
@[simp] theorem State.updSupply_rdw (s : State) (f : SupplyU → SupplyU) (r : RegId) (i j : Nat) : (s.updSupply f).rdw r i j = s.rdw r i j := rfl
@[simp] theorem State.updSupply_get (s : State) (f : SupplyU → SupplyU) (g : Fld) (i j : Nat) : (s.updSupply f).get g i j = s.get g i j := rfl

/-! ### State.updHost -/

@[simp] theorem State.updHost_pending (s : State) (f : HostU → HostU) : (s.updHost f).pending = s.pending := rfl
@[simp] theorem State.updHost_now (s : State) (f : HostU → HostU) : (s.updHost f).now = s.now := rfl
@[simp] theorem State.updHost_regs (s : State) (f : HostU → HostU) : (s.updHost f).regs = s.regs := rfl
@[simp] theorem State.updHost_fresh (s : State) (f : HostU → HostU) : (s.updHost f).fresh = s.fresh := rfl
@[simp] theorem State.updHost_latched (s : State) (f : HostU → HostU) : (s.updHost f).latched = s.latched := rfl
@[simp] theorem State.updHost_mem (s : State) (f : HostU → HostU) : (s.updHost f).mem = s.mem := rfl
@[simp] theorem State.updHost_timers (s : State) (f : HostU → HostU) : (s.updHost f).timers = s.timers := rfl
@[simp] theorem State.updHost_bus (s : State) (f : HostU → HostU) : (s.updHost f).bus = s.bus := rfl
@[simp] theorem State.updHost_freeIdx (s : State) (f : HostU → HostU) : (s.updHost f).freeIdx = s.freeIdx := rfl
@[simp] theorem State.updHost_head (s : State) (f : HostU → HostU) : (s.updHost f).head = s.head := rfl
@[simp] theorem State.updHost_plan (s : State) (f : HostU → HostU) : (s.updHost f).plan = s.plan := rfl
@[simp] theorem State.updHost_drift (s : State) (f : HostU → HostU) : (s.updHost f).drift = s.drift := rfl
@[simp] theorem State.updHost_intc (s : State) (f : HostU → HostU) : (s.updHost f).intc = s.intc := rfl
@[simp] theorem State.updHost_seam (s : State) (f : HostU → HostU) : (s.updHost f).seam = s.seam := rfl
@[simp] theorem State.updHost_power (s : State) (f : HostU → HostU) : (s.updHost f).power = s.power := rfl
@[simp] theorem State.updHost_pick (s : State) (f : HostU → HostU) : (s.updHost f).pick = s.pick := rfl
@[simp] theorem State.updHost_sense (s : State) (f : HostU → HostU) : (s.updHost f).sense = s.sense := rfl
@[simp] theorem State.updHost_fm (s : State) (f : HostU → HostU) : (s.updHost f).fm = s.fm := rfl
@[simp] theorem State.updHost_lamp (s : State) (f : HostU → HostU) : (s.updHost f).lamp = s.lamp := rfl
@[simp] theorem State.updHost_assay (s : State) (f : HostU → HostU) : (s.updHost f).assay = s.assay := rfl
@[simp] theorem State.updHost_bank (s : State) (f : HostU → HostU) : (s.updHost f).bank = s.bank := rfl
@[simp] theorem State.updHost_uhla (s : State) (f : HostU → HostU) : (s.updHost f).uhla = s.uhla := rfl
@[simp] theorem State.updHost_winder (s : State) (f : HostU → HostU) : (s.updHost f).winder = s.winder := rfl
@[simp] theorem State.updHost_supply (s : State) (f : HostU → HostU) : (s.updHost f).supply = s.supply := rfl
@[simp] theorem State.updHost_host (s : State) (f : HostU → HostU) : (s.updHost f).host = f s.host := rfl
@[simp] theorem State.updHost_rdw (s : State) (f : HostU → HostU) (r : RegId) (i j : Nat) : (s.updHost f).rdw r i j = s.rdw r i j := rfl
@[simp] theorem State.updHost_get (s : State) (f : HostU → HostU) (g : Fld) (i j : Nat) : (s.updHost f).get g i j = s.get g i j := rfl

/-! ### Free values -/

/-- A free value changes the counter of free values alone. -/
@[simp] theorem State.free_next (s : State) : s.free.2 = { s with freeIdx := s.freeIdx + 1 } := rfl

end Sys2Proof.Machine
end

