-- ==== Sys2Proof/WellFormed.lean ====
section
/-! DEFINITION. Which commands the hardware can meet: the checks on operands whose type allows more than the spec does. A command that is not
well formed has no effect but where a rule gives it one (a frame too long is dropped and counted). -/

namespace Sys2Proof

/-- A CAN frame of ISO 11898-1:2015 (R475). -/
def canFrameOk (f : CanMsg) : Bool := Machine.canLegal f

/-- Whether every operand of a command is one that the spec allows. -/
def Instr.wellFormed : Instr → Bool
  | .canFrameReceive _ _ f _ => canFrameOk f
  | .canFrameTransmit _ _ f => canFrameOk f.msg
  | .spiTransfer _ len _ _ => decide (4 ≤ len.val)
  | .superframeReceive _ _ f => decide (f.length = 2960)
  | .ethFrameReceive _ f _ _ _ _ => decide (14 ≤ f.length)
  | .registerWrite _ a _ => Machine.inPeriph a.toNat
  | .latchingRead _ a => Machine.inPeriph a.toNat
  | .addrUnmapped _ a _ => Machine.inPeriph a.toNat
  | .accessFault _ a _ => !Machine.inPeriph a.toNat && (Machine.rangeOf a.toNat).isNone
  | .memoryAccess _ _ a _ _ => (Machine.rangeOf a.toNat).isSome
  | _ => true

end Sys2Proof
end

