-- ==== Sys2Proof/Tests/Slice0.lean ====
section
/-! SUPPORT. The model's own tests: the checks of WellFormed, the spec's worked examples, and for every clause of every statement with hypotheses a
state and operands that meet all of them. -/

set_option maxRecDepth 4000
set_option Elab.async false
set_option linter.unusedVariables false

namespace Sys2Proof.Tests
open Sys2Proof.Machine

/-! ### The checks of WellFormed: each refuses an ill-formed command and lets a well-formed one pass -/

theorem test_wf_can_id : Instr.wellFormed (.canFrameReceive 0 0 ⟨2048#29, false, false, []⟩ true) = false ∧
    Instr.wellFormed (.canFrameReceive 0 0 ⟨2047#29, false, false, []⟩ true) = true := by decide
theorem test_wf_can_length : Instr.wellFormed (.canFrameTransmit 0 0 ⟨none, ⟨1#29, false, true, List.replicate 9 0#8⟩⟩) = false ∧
    Instr.wellFormed (.canFrameTransmit 0 0 ⟨none, ⟨1#29, false, true, List.replicate 12 0#8⟩⟩) = true := by decide
theorem test_wf_spi_length : Instr.wellFormed (.spiTransfer 0 3 0 0) = false ∧ Instr.wellFormed (.spiTransfer 0 4 0 0) = true := by decide
theorem test_wf_superframe_length : Instr.wellFormed (.superframeReceive 0 0 [1#8]) = false := by decide
theorem test_wf_frame_length : Instr.wellFormed (.ethFrameReceive 0 [1#8] true true 0 (Vector.replicate 4 0)) = false := by decide
theorem test_wf_register_window : Instr.wellFormed (.registerWrite .dma 0#32 0#32) = false ∧
    Instr.wellFormed (.registerWrite .dma 0x40000000#32 0#32) = true := by decide +kernel
theorem test_wf_read_window : Instr.wellFormed (.latchingRead .dma 0#32) = false := by decide +kernel
theorem test_wf_unmapped_window : Instr.wellFormed (.addrUnmapped .dma 0#32 none) = false := by decide +kernel
theorem test_wf_access_fault : Instr.wellFormed (.accessFault .dma 0x40000000#32 .read) = false ∧
    Instr.wellFormed (.accessFault .dma 0x0F000000#32 .read) = true := by decide +kernel
theorem test_wf_memory_range : Instr.wellFormed (.memoryAccess .dma 0 0x0F000000#32 .read 0) = false ∧
    Instr.wellFormed (.memoryAccess .dma 0 0x10000000#32 .read 0) = true := by decide +kernel

/-! ### The spec's worked examples and tables, and known answers of the named codes -/

/-- Whether `p` holds of the state after a command. -/
def after (c : Instr) (s : State) (p : State → Bool) : Bool :=
  match exec c s with
  | .next t => p t
  | _ => false

/-- The check value of CRC-32, of the bytes of "123456789" (R459). -/
theorem test_crc32_check : crc32 [0x31, 0x32, 0x33, 0x34, 0x35, 0x36, 0x37, 0x38, 0x39] = 0xCBF43926#32 := by decide +kernel
/-- The check value of CRC-16/MODBUS (R475). -/
theorem test_crc16_check : crc16 [0x31, 0x32, 0x33, 0x34, 0x35, 0x36, 0x37, 0x38, 0x39] = 0x4B37#16 := by decide +kernel

/-- The breakpoints of the example of R69 in Q16.16: 0, 0.10, 0.20, 0.35, 0.50, 0.70, 0.90, 1.10 pu. -/
def exampleBp : Vector Word 8 := #v[0, 6554, 13107, 22938, 32768, 45875, 58982, 72090]
/-- "Worked example: region selection with hysteresis" (03_pick_engines.md): 0.36, 0.38, 0.34, 0.32, 0.95, 0.05 pu with H 0.02. -/
theorem test_region_example :
    moveIndex exampleBp 1311 2 23593 = 2 ∧ moveIndex exampleBp 1311 2 24904 = 3 ∧ moveIndex exampleBp 1311 3 22282 = 3 ∧
    moveIndex exampleBp 1311 3 20972 = 2 ∧ moveIndex exampleBp 1311 2 62259 = 6 ∧ moveIndex exampleBp 1311 6 3277 = 0 := by decide +kernel
/-- "Worked example: Marl Hill duty" (07_pwm_carriers.md): ratio 0x9999 of PRD 7,812.5 gives ACTCMP 0x124F_6C00. -/
theorem test_duty_example : truncCount (0x9999 * 512000000 / 65536) 0 = 0x124F6C00 := by decide +kernel
/-- R154: the period of the example is admissible, 62 counts are not. -/
theorem test_period_limits : prdOk 512000000 0 = true ∧ prdOk 4063232 0 = false := by decide +kernel
/-- "Worked example: a grant after a long outage" (21_lamp_domain.md): 1.00 F gives 226 mJ at 1.75 V and 501 mJ at 1.9167 V. -/
theorem test_gauge_example : gaugeEnergy 1000 1750 = 226 ∧ gaugeEnergy 1000 1917 = 501 := by decide +kernel
/-- "Worked example: a Marl Hill ramp" (18_winder_clocks.md): segment 0 falls 5 kHz in each µs. -/
theorem test_ramp_example : rampFreq 250000 225000 1 5000 = 249995 ∧ rampFreq 250000 225000 5000 5000 = 225000 := by decide +kernel
/-- "Worked example: a Marl Hill current loop" (04_pick_instruction_set.md): words of its listing. -/
theorem test_pick_listing :
    pickDecode 0x04800000#32 2 false = some .acq ∧ pickDecode 0x11021000#32 2 false = some .ang ∧ pickDecode 0x15500000#32 2 false = some .scs ∧ pickDecode 0x21C8C000#32 2 false = some .clk ∧
    pickDecode 0x265D4000#32 2 false = some .prk ∧ pickDecode 0x52C02200#32 2 false = some .satMove ∧ pickDecode 0x4AE43440#32 2 false = some .msu ∧ pickDecode 0x836C1000#32 2 false = some .pis ∧
    pickDecode 0x28754400#32 2 false = some .ipk ∧ pickDecode 0x404421C1#32 2 false = some .mac ∧ pickDecode 0x58443800#32 2 false = some .lim ∧ pickDecode 0xA4040000#32 2 false = some .duty ∧
    pickDecode 0x50342D80#32 2 false = some .satStore ∧ pickDecode 0xFC000000#32 2 false = some .end_ ∧ pickDecode 0xFC000001#32 2 false = some .discard ∧
    pickDecode 0xE0002410#32 2 false = some .brf := by decide +kernel
/-- The word at address 8 of that listing: D 11, A 9, B 0, MOD 0x3440 with OPT 0b01. -/
theorem test_pick_fields : pwD 0x4AE43440 = 11 ∧ pwA 0x4AE43440 = 9 ∧ pwB 0x4AE43440 = 0 ∧ pwMod 0x4AE43440 = 0x3440 ∧ pwSel 0x4AE43440 = 3 ∧
    pwOpt 0x4AE43440 = 1 := by decide +kernel
/-- R105: the root is rounded down. -/
theorem test_isqrt : isqrt 99 = 9 ∧ isqrt 100 = 10 ∧ isqrt (2 ^ 62) = 2 ^ 31 := by decide +kernel
/-- R1: bytes in memory are little-endian. -/
theorem test_little_endian : leBytes 4 0x12345678 = [0x78#8, 0x56, 0x34, 0x12] ∧ leNat [0x78#8, 0x56, 0x34, 0x12] = 0x12345678 := by decide +kernel
/-- R353: IDCODE shifts out the module's code. -/
theorem test_idcode : after .idcode State.reset (fun t => t.bank.tapOut == 0x19648A5B) = true := by decide +kernel
/-- R4: an unmapped address of the Headframe window reads 0 and sets its status. -/
theorem test_unmapped : after (.addrUnmapped .dma 0x4000FFFC#32 none) State.reset (fun t => t.bus.data == 0 && t.on HF_DOMSTAT_ADDR_UNMAPPED) = true := by
  decide +kernel
/-- An idle step passes one tick (log entry 1). -/
theorem test_step_idle : (match step State.reset with | .next t => t.now == 1 && t.pending.isEmpty | _ => false) = true := by decide +kernel
/-- A step takes the front command and leaves the rest. -/
theorem test_step_front : (match step { State.reset with pending := [.idcode, .bypass] } with
    | .next t => t.bank.tapOut == 0x19648A5B && t.pending == [.bypass] | _ => false) = true := by decide +kernel
/-- No word spells a command. -/
theorem test_no_words : decodeTableWord 32 0xFFFFFFFF = none ∧ State.reset.withFetchWord 32 7 = State.reset := ⟨rfl, rfl⟩
/-- R475: a frame of 5 bits keeps its 5 low bits. -/
theorem test_spi_bits : after (.spiTransfer 1 5 0xFFFFFFFF#32 0x3F#32) (State.reset.wrw .RS_RSTREL 0xFFFFFF)
    (fun t => t.host.spiRx[1] == 0x1F#32 && t.host.spiTx[1] == 0x1F#32) = true := by decide +kernel
/-- R473: a step of one second back moves the clock back by 10^9 ns. -/
theorem test_ptp_step : after (.ptpstep .dma (BitVec.ofInt 32 (-1000000000)))
    { State.reset.wrw .RS_RSTREL 0xFFFFFF with host := { State.reset.host with ptp := 5000000000 * 2 ^ 32 } }
    (fun t => t.ptpNs == 4000000000) = true := by decide +kernel
/-- R350: three failed mesh checks in a row are a breach, two are none. -/
theorem test_mesh_breach :
    after (.meshCheck true) { State.reset with bank := { State.reset.bank with meshFails := 1 } } (fun t => !t.lamp.breach) = true ∧
    after (.meshCheck true) { State.reset with bank := { State.reset.bank with meshFails := 2 } } (fun t => t.lamp.breach) = true := by decide +kernel

/-! ### Witnesses: a state and operands that meet the hypotheses of each statement about every state -/

theorem witness_StepTakesTheFront : (∃ (s : State) (c : Instr) (rest : List Instr), s.pending = c :: rest) ∧ (∃ s : State, s.pending = []) :=
  ⟨⟨{ State.reset with pending := [.idcode, .bypass] }, .idcode, [.bypass], rfl⟩, ⟨State.reset, rfl⟩⟩
theorem witness_EveryCommandCompletes : ∃ (s : State) (c : Instr) (rest : List Instr), s.pending = c :: rest :=
  ⟨{ State.reset with pending := [.idcode, .bypass] }, .idcode, [.bypass], rfl⟩
theorem witness_ResetMatchesTheTables : ∃ (r : RegId) (i j : Nat), r.has i j = true := ⟨.HF_DOMCTL, 3, 0, by decide +kernel⟩
theorem witness_StepKeepsTheForm : ∃ (s t : State), s.wf = true ∧ step s = .next t :=
  ⟨(State.reset.setByte 0x10000000 5).wrw .HF_DOMCTL 7 2, _, by decide +kernel, rfl⟩
theorem witness_CommandsChangeOnlyTheirParts : ∃ (c : Instr) (s t : State) (p : Part), exec c s = .next t ∧ p ∈ Part.all ∧ p ∉ mayChange c :=
  ⟨.idcode, State.reset, _, .reg .HF_DOMCTL, rfl, by decide +kernel, by decide +kernel⟩
theorem witness_OneWayCountsNeverFall : ∃ (s t : State), step s = .next t := ⟨State.reset, _, rfl⟩
theorem witness_RegistersAndFieldsReadBack :
    (∃ (r : RegId) (i j : Nat), r.has i j = true) ∧
    (∃ (r q : RegId) (i j a b : Nat), q.has a b = true ∧ (q ≠ r ∨ a ≠ i ∨ b ≠ j)) ∧
    (∃ (f : Fld) (i j : Nat), f.reg.has i j = true ∧ f.lo + f.width ≤ 32) ∧
    (∃ (f g : Fld) (i j : Nat), f.reg.has i j = true ∧ f.reg = g.reg ∧ (f.lo + f.width ≤ g.lo ∨ g.lo + g.width ≤ f.lo)) :=
  ⟨⟨.PK_PARAM, 95, 63, by decide +kernel⟩, ⟨.HF_DOMCTL, .HF_DOMCTL, 0, 0, 3, 0, by decide +kernel⟩,
   ⟨BLK_BLKCTL_LOCK, 7, 0, by decide +kernel⟩, ⟨BLK_BLKCTL_STATE, BLK_BLKCTL_LOCK, 7, 0, by decide +kernel⟩⟩
theorem witness_MemoryReadsBack : (∃ (a c : Nat) (l : List Byte), c < a ∨ a + l.length ≤ c) := ⟨8, 7, [1], by decide⟩
theorem witness_SealedFramesPass : ∃ body : List Byte, body.length = 2956 := ⟨List.replicate 2956 0#8, by decide +kernel⟩
theorem witness_SquareRootsRoundDown : ∃ n : Nat, n < 2 ^ 128 := ⟨2 ^ 128 - 1, by decide⟩

/-! ### States for the witnesses -/

/-- The numbers that the witnesses below are filled with. -/
def rn (k : Nat) : Nat := k % 7
/-- An open Adit session that lets pair `n` be debugged. -/
def adit (b : State) (n : Nat) : State := ({ b with bank := { b.bank with adit := some ⟨10^12, []⟩ } }.put DR_PSTATE_STATE 2 n).put DR_PSTATE_DEBUG 0 n
/-- Block `k` owned by pair `n`, in state `st`, with cell `6 * k` bound. -/
def owned (b : State) (n k st : Nat) : State :=
  let b1 := ((((((b.put DR_PSTATE_STATE 2 n).put BLK_BLKCTL_OWNED 1 k).put BLK_BLKCTL_OWNER n k).put BLK_BLKCTL_STATE st k).put BLK_BLKCTL_LOCK 0 k))
  let b2 := (List.range 8).foldl (fun b j => (b.wrw .BLK_BLKCELLS0 (if j = k then 1#32 <<< (3 * j) else 0) j).wrw .BLK_BLKCELLS1 0 j) b1
  (((b2.put BK_BKSTAT_RESTRICTED 0).put BK_ADITSTAT_OPEN 0).put CG_BSTAT_TURNOFF 0 k)
/-- Pair `n` in SERVICE, lock-step. -/
def lock (b : State) (n : Nat) : State := b.put DR_PSTATE_STATE 2 n
/-- A Pick word from its fields (R84). -/
def enc (op d a b m : Nat) : Word := BitVec.ofNat 32 (op * 2^26 + (d % 16) * 2^22 + (a % 16) * 2^18 + (b % 16) * 2^14 + m % 2^14)
/-- A Pick program of one word. -/
def prog1 (w : Word) (rn : Nat → Nat) : PickProgram := ⟨none, [w], Vector.replicate 4 0, Vector.replicate 4 100, (List.range 256).map (fun k => BitVec.ofNat 32 (rn (k + 300))), Vector.replicate 8 0x7FFFFFFF, Vector.replicate 8 0x7FFFFFFF, 0, 0, 0, 0, [1,2,3]⟩
/-- A running invocation. -/
def inv1 (rn : Nat → Nat) : Inv := { cls := 0, left := 200, pc := 0, g := Vector.ofFn (fun k : Fin 16 => if rn 50 % 3 = 0 then BitVec.ofNat 32 (rn (k.val + 100) % 70000) else BitVec.ofNat 32 (rn (k.val + 100))), a0 := (rn 40 % 2^40 : Nat), a1 := -(rn 41 % 2^40 : Nat), n := false, z := rn 42 % 2 == 0, sat := rn 43 % 2 == 0, dz := false, nr := false, merged := rn 44 % 2 == 0, region := rn 45 % 16, angs := Vector.ofFn (fun k : Fin 4 => BitVec.ofNat 32 (rn (k.val + 200))), single := rn 46 % 2 == 0, loop := none, data := [(3, 77#32), (9, BitVec.ofNat 32 (rn 47))], opv0 := 4, opv1 := 5, unseen := [], asked := 0, ref := none }
/-- Engine `e` running the word `w`. -/
def pk (x : State) (e : Nat) (w : Word) (v : Inv) (rn : Nat → Nat) : State := x.updEng e (fun u => { u with prog := some (prog1 w rn), run := some v })
/-- A parameter block of the Foreman (R327). -/
def parB (rn : Nat → Nat) : List Byte := (List.range 1280).map (fun k => if k = 0x48 then 0x1F#8 else if k < 3 then 0x20#8 else if k < 8 then 0 else if k < 0x50 then 0 else if k < 0x60 then (if k % 2 = 0 then BitVec.ofNat 8 (5 + rn 90 % 20) else 0) else match (k - 0x60) % 12 with | 8 => 0x0F#8 | 10 => 0x21#8 | 4 => 3#8 | _ => 0)
/-- A Foreman with that block and VAUX. -/
def fmw (x : State) (rn : Nat → Nat) : State := { x with fm := { x.fm with param := some (parB rn), live := Vector.replicate 5 true, pulse := Vector.replicate 5 false, drive := Vector.replicate 5 false }, supply := { x.supply with vaux := true, place := 0, step := 6 }, bank := { x.bank with lc := 3 } }
/-- A TLV item (R359). -/
def tlv (ty : Nat) (v : List Byte) : List Byte := leBytes 2 ty ++ leBytes 2 v.length ++ v ++ List.replicate ((4 - v.length % 4) % 4) 0
/-- An envelope with a body. -/
def envx (cls role : Nat) (body : List Byte) : Envelope := { flags := 0, cls := cls, role := role, slot := 8, role2 := 0, slot2 := 0, target := [], seq := 9, notBefore := 0, notAfter := 2^63, cert := [], body := body, sig := [], sig2 := [], covered := [], whole := [1, 2] }
/-- A Banksman in life-cycle state `lc` with an accepted envelope. -/
def bkx (x : State) (lc : Nat) (e : Envelope) : State := ({x with bank := {x.bank with replies := if x.freeIdx % 3 = 0 then [] else [⟨9, 1, [], default, x.now + 5⟩, ⟨2, 1, [], default, x.now + 10 ^ 13⟩], lc := lc, uart := false, accepted := [(3, e), (4, e)], adit := none, writing := none, resetAsked := false}}.put LA_GAUGE_E 60000 |>.put LA_GFLOOR_KEEP 0 |>.put LA_GHELD_HELD 0 |>.put BK_BKSTAT_RESTRICTED 0)
/-- Every block STOPPED. -/
def stop8 (x : State) : State := (List.range 8).foldl (fun (s : State) b => s.put BLK_BLKCTL_STATE 0 b) x
def refMem0 : RefMem := RefMem.initial
def rp (k : Nat) : RefProg := match k % 5 with | 0 => .dcb | 1 => .acr | 2 => .acu | 3 => .aco | _ => .acw
def ref1 (k : Nat) (st : RefStage) (out : List RefOut) (rn : Nat → Nat) : RefRun := ⟨rp k, st, out, #v[5, -9, (rn 60 % 2^30 : Nat)], #v[(rn 61 % 2^30 : Nat), 7, 1000], [(rn 62 % 2^30 : Nat), 3, 4, 5, 6, 7, 8, 9, 65536, 2, 65536, (rn 63 % 2^30 : Nat), 9, 1], 3, rn 64 % 2 == 0, refMem0⟩
def rpk (x : State) (e : Nat) (v : Inv) (r : RefRun) (rn : Nat → Nat) : State := x.updEng e (fun u => { u with prog := some { prog1 0 rn with ref := some r.prog }, run := some { v with ref := some r } })
def later (y : State) : State := { y with now := y.now + 9, supply := { y.supply with place := 0 } }
def calm (y : State) : State := { y with fresh := (0, []) }
def bnow (y : State) : State := { y with now := y.now + 9, plan := { y.plan with madeAt := some (y.now + 9) } }
def busyF (y : State) (n : Nat) : State := { y with sense := { y.sense with freeAt := Vector.ofFn (fun k : Fin 32 => if k.val = 3 then 24 * (y.now + n) else 0) } }

/-! ### Witnesses: for clause k of a statement, a state and operands that meet its hypotheses together -/

theorem witness_RegisterWriteTakesFields_1 : ∃ (s : State) (m : Master) (r : RegId) (i : Crew) (v : Word),
    s.busOpen m = true ∧
    r ∈ planRegs :=
  let x : State := State.reset
  let m : Master := .pair ⟨rn 110 % 16, by omega⟩
  let r : RegId := planRegs.getD (rn 3 % 9) .SP_MAP0
  let i : Crew := ⟨rn 106 % 64, by omega⟩
  let v : Word := BitVec.ofNat 32 (rn 91)
  let s : State := x
  ⟨s, m, r, i, v, by decide +kernel⟩

theorem witness_AccessesReachTheirTargets_1 : ∃ (s : State) (m : Master) (a : Word) (w : Option Word) (f : Fld) (i : Nat),
    s.busOpen m = true ∧
    inPeriph a.toNat = true ∧
    s.regFor m a.toNat = none ∧
    inSelf a.toNat = false ∧
    unmappedFld a.toNat = some (f, i) :=
  let x : State := State.reset
  let m : Master := .pair ⟨rn 110 % 16, by omega⟩
  let a : Word := BitVec.ofNat 32 ([0x4000FFFC,0x4001FFFC,0x4002FFF0,0x4013FFF0,0x4014FFF0,0x4020FFF0,0x40280FF0,0x40310FF0,0x40338000,0x4040FFF0,0x4050FFF0,0x4070FFF0,0x408007F0,0x40800FF0,0x4080FFF0,0x4081FFF0,0x4090FFF0,0x40A0FFF0].getD (rn 4 % 18) 0)
  let w : Option Word := if rn 5 % 2 = 0 then none else some 7
  let f : Fld := ((unmappedFld a.toNat).getD (HF_DOMSTAT_ADDR_UNMAPPED,0)).1
  let i : Nat := ((unmappedFld a.toNat).getD (HF_DOMSTAT_ADDR_UNMAPPED,0)).2
  let s : State := x
  ⟨s, m, a, w, f, i, by decide +kernel⟩

theorem witness_AccessesReachTheirTargets_2 : ∃ (s : State) (m : Master) (a : Word) (op : MemOp),
    s.busOpen m = true ∧
    inPeriph a.toNat = false ∧
    rangeOf a.toNat = none :=
  let x : State := State.reset
  let m : Master := .pair ⟨rn 110 % 16, by omega⟩
  let a : Word := 0x0F000000#32
  let op : MemOp := if rn 5 % 2 = 0 then .read else .write 3 9
  let s : State := x
  ⟨s, m, a, op, by decide +kernel⟩

theorem witness_AccessesReachTheirTargets_3 : ∃ (s : State) (m : Master) (a : Word) (v : Word),
    s.busOpen m = false :=
  let x : State := State.reset
  let m : Master := .pair 3
  let a : Word := BitVec.ofNat 32 (0x40000000 + 4 * (rn 4 % 0x10000))
  let v : Word := BitVec.ofNat 32 (rn 91)
  let s : State := x.put DR_PSTATE_STATE pairFailed 3
  ⟨s, m, a, v, by decide +kernel⟩

theorem witness_AccessesReachTheirTargets_4 : ∃ (s : State) (m : Master) (c : Crew) (a : Word) (be : BitVec 4) (v : Word) (ecc : Fin 3),
    s.busOpen m = true ∧
    (((rangeOf (a.toNat / 4 * 4) = some .sram ∨ rangeOf (a.toNat / 4 * 4) = some .dram) ∧ s.heldCrew (s.accessCrew m c.val) = false ∧ s.writeDenied m (a.toNat / 4 * 4) = false) ∨ (rangeOf (a.toNat / 4 * 4) = some .tcm ∧ s.ownsTcm m (a.toNat / 4 * 4) = true)) :=
  let x : State := State.reset
  let m : Master := .pair 3
  let c : Crew := ⟨rn 100 % 64, by omega⟩
  let a : Word := BitVec.ofNat 32 (if rn 9 % 2 = 0 then 0x10000000 + rn 5 % 0x600000 else 0x200C0000 + rn 5 % 0x40000)
  let be : BitVec 4 := BitVec.ofNat 4 (rn 6)
  let v : Word := BitVec.ofNat 32 (rn 91)
  let ecc : Fin 3 := ⟨rn 7 % 3, by omega⟩
  let s : State := if rn 9 % 2 = 0 then x else lock x 3
  ⟨s, m, c, a, be, v, ecc, by decide +kernel⟩

theorem witness_AccessesReachTheirTargets_5 : ∃ (s : State) (m : Master) (c : Crew) (a : Word),
    s.busOpen m = true ∧
    (((rangeOf (a.toNat / 4 * 4) = some .sram ∨ rangeOf (a.toNat / 4 * 4) = some .dram) ∧ s.heldCrew (s.accessCrew m c.val) = false) ∨ (rangeOf (a.toNat / 4 * 4) = some .tcm ∧ s.ownsTcm m (a.toNat / 4 * 4) = true)) :=
  let x : State := State.reset
  let m : Master := .pair 3
  let c : Crew := ⟨rn 100 % 64, by omega⟩
  let a : Word := BitVec.ofNat 32 (if rn 9 % 2 = 0 then 0x10000000 + rn 5 % 0x600000 else 0x200C0000 + rn 5 % 0x40000)
  let s : State := (if rn 9 % 2 = 0 then x else lock x 3).setBytes (if rn 9 % 2 = 0 then 0x10000000 + rn 5 % 0x600000 else 0x200C0000 + rn 5 % 0x40000) [1,2,3,4,5,6]
  ⟨s, m, c, a, by decide +kernel⟩

theorem witness_AccessesReachTheirTargets_6 : ∃ (s : State) (m : Master) (c : Crew) (a : Word) (be : BitVec 4) (v : Word) (ecc : Fin 3) (g : Range),
    s.busOpen m = true ∧
    rangeOf (a.toNat / 4 * 4) = some g ∧
    ((g = .tcm ∧ s.ownsTcm m (a.toNat / 4 * 4) = false) ∨ (g = .ring ∧ s.heldCrew (s.accessCrew m c.val) = false) ∨ g = .flash) :=
  let x : State := State.reset
  let m : Master := .pair 3
  let c : Crew := ⟨rn 100 % 64, by omega⟩
  let a : Word := BitVec.ofNat 32 ([0x20000000 + rn 5 % 0xC0000, 0x80000000 + rn 5 % 0x18000000, 0x30000000 + rn 5 % 0x8000000].getD (rn 9 % 3) 0)
  let be : BitVec 4 := BitVec.ofNat 4 (rn 6)
  let v : Word := BitVec.ofNat 32 (rn 91)
  let ecc : Fin 3 := ⟨rn 7 % 3, by omega⟩
  let g : Range := [Range.tcm, .ring, .flash].getD (rn 9 % 3) .tcm
  let s : State := lock x 3
  ⟨s, m, c, a, be, v, ecc, g, by decide +kernel⟩

theorem witness_AccessesReachTheirTargets_7 : ∃ (s : State) (m : Master) (a : Word) (r q : RegId) (i : Nat),
    s.busOpen m = true ∧
    inPeriph a.toNat = true ∧
    s.regFor m a.toNat = some (r, i, 0) ∧
    q ∈ r.partners :=
  let x : State := State.reset
  let m : Master := .pair ⟨rn 110 % 16, by omega⟩
  let a : Word := BitVec.ofNat 32 (match rn 3 % 5 with | 0 => RegId.HF_ANG.addr 2 0 | 1 => RegId.SN_SLMEAN.addr 100 0 | 2 => RegId.SN_MMMIN.addr 17 0 | 3 => RegId.AS_EMLO.addr (RegId.AS_EMLO.reg.f1) 0 | _ => RegId.LA_RTCLO.addr 0 0)
  let r : RegId := match x.regFor m a.toNat with | some (r,_,_) => r | none => .HF_ANG
  let q : RegId := r.partners.getD (rn 8 % r.partners.length) .HF_TURN
  let i : Nat := match x.regFor m a.toNat with | some (_,i,_) => i | none => 0
  let s : State := x
  ⟨s, m, a, r, q, i, by decide +kernel⟩

theorem witness_AditPortAndDebuggerWork_1 : ∃ (s : State) (n : Pair) (k : Fin 32) (v : Word),
    s.aditOpen = true ∧
    s.isSplit n.val = false ∧
    s.pst n.val ≠ pairOff ∧
    s.pst n.val ≠ pairFailed :=
  let x : State := State.reset
  let n : Pair := ⟨rn 111 % 16, by omega⟩
  let k : Fin 32 := default
  let v : Word := BitVec.ofNat 32 (rn 91)
  let s : State := adit x n.val
  ⟨s, n, k, v, by decide +kernel⟩

theorem witness_AditPortAndDebuggerWork_2 : ∃ (s : State) (n : Pair) (k : Fin 32),
    s.aditOpen = true ∧
    s.isSplit n.val = false ∧
    s.pst n.val ≠ pairOff ∧
    s.pst n.val ≠ pairFailed :=
  let x : State := State.reset
  let n : Pair := ⟨rn 111 % 16, by omega⟩
  let k : Fin 32 := default
  let s : State := adit x n.val
  ⟨s, n, k, by decide +kernel⟩

theorem witness_AditPortAndDebuggerWork_3 : ∃ (s : State) (n : Pair),
    s.aditOpen = true ∧
    s.isSplit n.val = false ∧
    s.pst n.val ≠ pairOff ∧
    s.pst n.val ≠ pairFailed :=
  let x : State := State.reset
  let n : Pair := ⟨rn 111 % 16, by omega⟩
  let s : State := adit x n.val
  ⟨s, n, by decide +kernel⟩

theorem witness_AditPortAndDebuggerWork_4 : ∃ (s : State) (n : Pair) (v : Word),
    s.aditOpen = true ∧
    s.isSplit n.val = false ∧
    s.pst n.val ≠ pairOff ∧
    s.pst n.val ≠ pairFailed :=
  let x : State := State.reset
  let n : Pair := ⟨rn 111 % 16, by omega⟩
  let v : Word := BitVec.ofNat 32 (rn 91)
  let s : State := adit x n.val
  ⟨s, n, v, by decide +kernel⟩

theorem witness_AditPortAndDebuggerWork_5 : ∃ (s : State) (d : Nat) (a : AditU),
    s.deadline .aditEnd = some d ∧
    s.bank.adit = some a :=
  let x : State := State.reset
  let d : Nat := x.now + 5
  let a : AditU := ⟨5, [2, 7]⟩
  let s : State := {x with bank := {x.bank with adit := some ⟨5, [2, 7]⟩}}.arm .aditEnd 5
  ⟨s, d, a, by decide +kernel⟩

theorem witness_AditPortAndDebuggerWork_6 : ∃ (s : State),
    s.deadline .aditEnd = none :=
  let x : State := State.reset
  let s : State := {x with supply := {x.supply with place := 0, step := 6, resetAt := 0, vaux := true}, lamp := {x.lamp with powered := true, breach := false}, bank := {x.bank with adit := some ⟨10^12, [3]⟩, zeroise := false}}
  ⟨s, by decide +kernel⟩

theorem witness_AditPortAndDebuggerWork_7 : ∃ (s : State),
    s.aditOpen = true ∧
    s.resetting = false :=
  let x : State := State.reset
  let s : State := {x with supply := {x.supply with place := 0, step := 6, resetAt := 0, vaux := true}, lamp := {x.lamp with powered := true, breach := false}, bank := {x.bank with adit := some ⟨10^12, [3]⟩, zeroise := false}}
  ⟨s, by decide +kernel⟩

theorem witness_AditPortAndDebuggerWork_8 : ∃ (s : State),
    s.aditOpen = false :=
  let x : State := State.reset
  let s : State := let y := {x with supply := {x.supply with place := 0, step := 6, resetAt := 0, vaux := true}, lamp := {x.lamp with powered := true, breach := false}, bank := {x.bank with adit := some ⟨10^12, [3]⟩, zeroise := false}}; {y with bank := {y.bank with adit := none, lc := 3}}
  ⟨s, by decide +kernel⟩

theorem witness_AditPortAndDebuggerWork_9 : ∃ (s : State),
    s.supply.place = 0 :=
  let x : State := State.reset
  let s : State := (let y := x; {y with supply := {y.supply with place := 0}})
  ⟨s, by decide +kernel⟩

theorem witness_AditPortAndDebuggerWork_10 : ∃ (s : State),
    s.supply.place = 0 :=
  let x : State := State.reset
  let s : State := (let y := x; {y with supply := {y.supply with place := 0}})
  ⟨s, by decide +kernel⟩

theorem witness_AditPortAndDebuggerWork_11 : ∃ (s : State),
    s.supply.place = 0 :=
  let x : State := State.reset
  let s : State := (let y := {x with bank := {x.bank with adit := if rn 4 % 3 = 0 then none else some ⟨5, [2, 7]⟩, lc := rn 3 % 6}}; {y with supply := {y.supply with place := 0}})
  ⟨s, by decide +kernel⟩

theorem witness_AditPortAndDebuggerWork_12 : ∃ (s : State),
    s.supply.place = 0 :=
  let x : State := State.reset
  let s : State := (let y := {x with bank := {x.bank with adit := if rn 4 % 3 = 0 then none else some ⟨5, [2, 7]⟩, lc := rn 3 % 6}}; {y with supply := {y.supply with place := 0}})
  ⟨s, by decide +kernel⟩

theorem witness_AditPortAndDebuggerWork_13 : ∃ (s : State),
    s.supply.place ≠ 0 :=
  let x : State := State.reset
  let s : State := (let y := {x with supply := {x.supply with place := 0, step := 6, resetAt := 0, vaux := true}, lamp := {x.lamp with powered := true, breach := false}, bank := {x.bank with adit := some ⟨10^12, [3]⟩, zeroise := false}}; {y with supply := {y.supply with place := 1 + rn 3 % 2}})
  ⟨s, by decide +kernel⟩

theorem witness_AditPortAndDebuggerWork_14 : ∃ (s : State),
    s.supply.place ≠ 0 :=
  let x : State := State.reset
  let s : State := (let y := {x with supply := {x.supply with place := 0, step := 6, resetAt := 0, vaux := true}, lamp := {x.lamp with powered := true, breach := false}, bank := {x.bank with adit := some ⟨10^12, [3]⟩, zeroise := false}}; {y with supply := {y.supply with place := 1 + rn 3 % 2}})
  ⟨s, by decide +kernel⟩

theorem witness_AditPortAndDebuggerWork_15 : ∃ (s : State),
    s.supply.place ≠ 0 :=
  let x : State := State.reset
  let s : State := (let y := {x with supply := {x.supply with place := 0, step := 6, resetAt := 0, vaux := true}, lamp := {x.lamp with powered := true, breach := false}, bank := {x.bank with adit := some ⟨10^12, [3]⟩, zeroise := false}}; {y with supply := {y.supply with place := 1 + rn 3 % 2}})
  ⟨s, by decide +kernel⟩

theorem witness_AditPortAndDebuggerWork_16 : ∃ (s : State),
    s.supply.place ≠ 0 :=
  let x : State := State.reset
  let s : State := (let y := {x with supply := {x.supply with place := 0, step := 6, resetAt := 0, vaux := true}, lamp := {x.lamp with powered := true, breach := false}, bank := {x.bank with adit := some ⟨10^12, [3]⟩, zeroise := false}}; {y with supply := {y.supply with place := 1 + rn 3 % 2}})
  ⟨s, by decide +kernel⟩

theorem witness_BlocksMoveAndAreOwned_1 : ∃ (s : State) (m : Master) (b : Block) (v : Word),
    s.busOpen m = true ∧
    s.isOwner m b.val = true ∧
    (s.blkU b.val).tripped ≠ some s.now ∧
    s.blk b.val = blkStopped ∧
    s.mayArm b.val = true ∧
    s.rdw .BLK_BLKCTL b.val &&& ownerMask = v &&& ownerMask :=
  let x : State := State.reset
  let m : Master := .pair 3
  let b : Block := ⟨rn 4 % 8, by omega⟩
  let s0 : State := owned x 3 b.val 0
  let v : Word := (BitVec.ofNat 32 (rn 5) &&& ~~~ownerMask) ||| (s0.rdw .BLK_BLKCTL b.val &&& ownerMask)
  let s : State := owned x 3 b.val 0
  ⟨s, m, b, v, by decide +kernel⟩

theorem witness_BlocksMoveAndAreOwned_2 : ∃ (s : State) (m : Master) (b : Block) (v : Word),
    s.busOpen m = true ∧
    s.isOwner m b.val = true ∧
    (s.blkU b.val).tripped ≠ some s.now ∧
    s.blk b.val = blkArmed ∧
    s.mayRun b.val = true :=
  let x : State := State.reset
  let m : Master := .pair 3
  let b : Block := ⟨rn 4 % 8, by omega⟩
  let s0 : State := ((owned x 3 b.val 1).put PK_PCTL_LOADED 1 (6*b.val)).put PK_PCTL_LOADED 1 (6*b.val+1) |>.put FM_FSTAT_SF2INH 0 |>.put FM_FSAFEN_PR 255
  let v : Word := (BitVec.ofNat 32 (rn 5) &&& ~~~ownerMask) ||| (s0.rdw .BLK_BLKCTL b.val &&& ownerMask)
  let s : State := ((owned x 3 b.val 1).put PK_PCTL_LOADED 1 (6*b.val)).put PK_PCTL_LOADED 1 (6*b.val+1) |>.put FM_FSTAT_SF2INH 0 |>.put FM_FSAFEN_PR 255
  ⟨s, m, b, v, by decide +kernel⟩

theorem witness_BlocksMoveAndAreOwned_3 : ∃ (s : State) (m : Master) (b : Block) (v : Word),
    s.busOpen m = true ∧
    s.isOwner m b.val = true ∧
    (s.blkU b.val).tripped ≠ some s.now ∧
    s.blk b.val = blkArmed :=
  let x : State := State.reset
  let m : Master := .pair 3
  let b : Block := ⟨rn 4 % 8, by omega⟩
  let s0 : State := owned x 3 b.val 1
  let v : Word := (BitVec.ofNat 32 (rn 5) &&& ~~~ownerMask) ||| (s0.rdw .BLK_BLKCTL b.val &&& ownerMask)
  let s : State := owned x 3 b.val 1
  ⟨s, m, b, v, by decide +kernel⟩

theorem witness_BlocksMoveAndAreOwned_4 : ∃ (s : State) (m : Master) (b : Block) (v : Word),
    s.busOpen m = true ∧
    s.isOwner m b.val = true ∧
    (s.blkU b.val).tripped ≠ some s.now ∧
    s.blk b.val = blkRunning :=
  let x : State := State.reset
  let m : Master := .pair 3
  let b : Block := ⟨rn 4 % 8, by omega⟩
  let s0 : State := owned x 3 b.val 2
  let v : Word := (BitVec.ofNat 32 (rn 5) &&& ~~~ownerMask) ||| (s0.rdw .BLK_BLKCTL b.val &&& ownerMask)
  let s : State := owned x 3 b.val 2
  ⟨s, m, b, v, by decide +kernel⟩

theorem witness_BlocksMoveAndAreOwned_5 : ∃ (s : State) (b : Block) (st : Nat),
    (s.blkU b.val).exit = some st ∧
    st < 4 ∧
    s.on PW_GRPSTAT_RUN b.val = false :=
  let x : State := State.reset
  let b : Block := ⟨rn 4 % 8, by omega⟩
  let st : Nat := rn 9 % 2
  let s : State := ((owned x 3 b.val 2).updBlk b.val (fun u => { u with exit := some (rn 9 % 2) })).put PW_GRPSTAT_RUN 0 b.val
  ⟨s, b, st, by decide +kernel⟩

theorem witness_BlocksMoveAndAreOwned_6 : ∃ (s : State) (m : Master) (b : Block) (v : Word),
    s.busOpen m = true ∧
    s.isOwner m b.val = true ∧
    (s.blkU b.val).tripped = some s.now :=
  let x : State := State.reset
  let m : Master := .pair 3
  let b : Block := ⟨rn 4 % 8, by omega⟩
  let s0 : State := (owned x 3 b.val 3).updBlk b.val (fun u => { u with tripped := some x.now })
  let v : Word := (BitVec.ofNat 32 (rn 5) &&& ~~~ownerMask) ||| (s0.rdw .BLK_BLKCTL b.val &&& ownerMask)
  let s : State := (owned x 3 b.val 3).updBlk b.val (fun u => { u with tripped := some x.now })
  ⟨s, m, b, v, by decide +kernel⟩

theorem witness_BlocksMoveAndAreOwned_7 : ∃ (s : State) (m : Master) (b : Block) (v : Word),
    s.busOpen m = true ∧
    s.mayWriteBlock m b.val = true ∧
    s.lockstep m = true ∧
    s.blk b.val = blkStopped ∧
    s.on BLK_BLKCTL_LOCK b.val = false ∧
    s.unfitOwner (BLK_BLKCTL_OWNER.of v) = false :=
  let x : State := State.reset
  let m : Master := .pair 3
  let b : Block := ⟨rn 4 % 8, by omega⟩
  let v : Word := BitVec.ofNat 32 (rn 5)
  let s : State := (owned x 3 b.val 0).put DR_PSTATE_STATE 2 (BLK_BLKCTL_OWNER.of v)
  ⟨s, m, b, v, by decide +kernel⟩

theorem witness_BlocksMoveAndAreOwned_8 : ∃ (s : State) (m : Master) (b : Block) (hi : Bool) (v : Word),
    s.busOpen m = true ∧
    s.mayWriteBlock m b.val = true ∧
    s.blk b.val = blkStopped ∧
    s.on BLK_BLKCTL_LOCK b.val = false ∧
    s.bindOk b.val hi (v &&& BitVec.ofNat 32 (cellsReg hi).reg.rw) = true :=
  let x : State := State.reset
  let m : Master := .pair 3
  let b : Block := ⟨rn 4 % 8, by omega⟩
  let hi : Bool := false
  let v : Word := BitVec.ofNat 32 (2^(3*b.val+rn 7%3))
  let s : State := (List.range 48).foldl (fun s c => s.wrw .PK_ARBCTL 0 c) (owned x 3 b.val 0)
  ⟨s, m, b, hi, v, by decide +kernel⟩

theorem witness_DomainsAndEventSlotsAct_1 : ∃ (s : State) (d : Dom),
    domAdvances (s.domSt d.val) = true ∧
    0 < s.get HF_INC_INC d.val :=
  let x : State := State.reset
  let d : Dom := ⟨rn 4 % 4, by omega⟩
  let s : State := ((x.put HF_DOMSTAT_STATE (1 + rn 5 % 3) d.val).put HF_INC_INC (45035996 + rn 6 % 1000000) d.val).updDom d.val (fun u => { u with pos := BitVec.ofNat 80 (rn 7 * rn 8) })
  ⟨s, d, by decide +kernel⟩

theorem witness_DomainsAndEventSlotsAct_2 : ∃ (s : State) (d : Dom),
    s.get HF_DOMCTL_SRC d.val ≠ (s.dom d.val).src :=
  let x : State := State.reset
  let d : Dom := ⟨rn 4 % 4, by omega⟩
  let s : State := ((x.put HF_DOMSTAT_STATE (rn 8 % 5) d.val).put HF_DOMCTL_SRC (rn 5 % 4) d.val).updDom d.val (fun u => { u with src := (rn 5 + 1 + rn 6 % 3) % 4, pos := 77 })
  ⟨s, d, by decide +kernel⟩

theorem witness_DomainsAndEventSlotsAct_3 : ∃ (s : State) (d : Dom) (m : TrkMeas),
    s.trkinOk d.val = true :=
  let x : State := State.reset
  let d : Dom := ⟨rn 4 % 4, by omega⟩
  let m : TrkMeas := ⟨if rn 5 % 2 = 0 then 5 else 3000000000, BitVec.ofNat 32 (rn 4), 7, 8, BitVec.ofNat 32 (rn 6), some (rn 7), some (BitVec.ofNat 32 (rn 8)), true⟩
  let s : State := ((x.wrw .HF_TRKIN 0 d.val).put HF_DOMSTAT_STATE (rn 5 % 5) d.val).updDom d.val (fun u => { u with src := 1, below := rn 8 % 4, above := rn 9 % 6, coastMean := some 50000000, lastAng := some 4000000000, turnFreqs := [(3, x.now - 5), (4, x.now - 9000)] })
  ⟨s, d, m, by decide +kernel⟩

theorem witness_DomainsAndEventSlotsAct_4 : ∃ (s : State) (d : Dom) (m : TrkMeas),
    s.trkinOk d.val = false :=
  let x : State := State.reset
  let d : Dom := ⟨rn 4 % 4, by omega⟩
  let m : TrkMeas := ⟨if rn 5 % 2 = 0 then 5 else 3000000000, BitVec.ofNat 32 (rn 4), 7, 8, BitVec.ofNat 32 (rn 6), some (rn 7), some (BitVec.ofNat 32 (rn 8)), true⟩
  let s : State := ((x.wrw .HF_TRKIN 0xFFFFFF d.val).put HF_DOMSTAT_STATE (rn 5 % 5) d.val).updDom d.val (fun u => { u with src := 1, below := rn 8 % 4, above := rn 9 % 6 })
  ⟨s, d, m, by decide +kernel⟩

theorem witness_DomainsAndEventSlotsAct_5 : ∃ (s : State) (d : Dom) (m : TrkMeas) (n : Nat),
    s.trkinOk d.val = true ∧
    (s.dom d.val).src = srcTracker ∧
    s.get HF_DOMCTL_SRC d.val = srcTracker ∧
    s.domSt d.val = domLive ∧
    s.magAtLeast d.val (s.get HF_TRKTHR_COASTTHR d.val) m.pmag = true ∧
    m.inc = some n ∧
    m.jump = none :=
  let x : State := State.reset
  let d : Dom := ⟨rn 4 % 4, by omega⟩
  let m : TrkMeas := ⟨5, BitVec.ofNat 32 (rn 4), 7, 8, BitVec.ofNat 32 (rn 6), some (rn 7), none, true⟩
  let n : Nat := rn 7
  let s : State := ((((x.wrw .HF_TRKIN 0 d.val).put HF_DOMSTAT_STATE 2 d.val).put HF_DOMCTL_SRC 1 d.val).wrw .HF_NOMMAG 0 d.val).updDom d.val (fun u => { u with src := 1, below := rn 8 % 4, above := rn 9 % 6 })
  ⟨s, d, m, n, by decide +kernel⟩

theorem witness_DomainsAndEventSlotsAct_6 : ∃ (s : State) (d : Dom) (m : TrkMeas) (n : Nat),
    s.trkinOk d.val = true ∧
    (s.dom d.val).src = srcTracker ∧
    s.get HF_DOMCTL_SRC d.val = srcTracker ∧
    s.domSt d.val = domLive ∧
    s.magAtLeast d.val (s.get HF_TRKTHR_COASTTHR d.val) m.pmag = false ∧
    (s.dom d.val).below = 2 ∧
    (s.dom d.val).coastMean = some n ∧
    m.jump = none :=
  let x : State := State.reset
  let d : Dom := ⟨rn 4 % 4, by omega⟩
  let m : TrkMeas := ⟨5, BitVec.ofNat 32 (rn 4), 7, 8, BitVec.ofNat 32 (rn 6), some (rn 7), none, true⟩
  let n : Nat := rn 7
  let s : State := ((((x.wrw .HF_TRKIN 0 d.val).put HF_DOMSTAT_STATE 2 d.val).put HF_DOMCTL_SRC 1 d.val).wrw .HF_NOMMAG 0xFFFFFFFF d.val |>.put HF_TRKTHR_COASTTHR 65535 d.val).updDom d.val (fun u => { u with src := 1, below := 2, coastMean := some (rn 7) })
  ⟨s, d, m, n, by decide +kernel⟩

theorem witness_DomainsAndEventSlotsAct_7 : ∃ (s : State) (d : Dom) (e : Nat),
    s.deadline (.coast d.val) = some e ∧
    s.domSt d.val = domCoast :=
  let x : State := State.reset
  let d : Dom := ⟨rn 4 % 4, by omega⟩
  let e : Nat := x.now + rn 5 % 1000
  let s : State := (x.put HF_DOMSTAT_STATE 3 d.val).arm (.coast d.val) (rn 5 % 1000)
  ⟨s, d, e, by decide +kernel⟩

theorem witness_DomainsAndEventSlotsAct_8 : ∃ (s : State) (d : Dom) (e : Nat),
    s.deadline (.uhlaSource d.val) = some e ∧
    s.domSt d.val = domLive ∧
    (s.dom d.val).src = srcUhla ∧
    s.on UH_USTAT_MASTER = false :=
  let x : State := State.reset
  let d : Dom := ⟨rn 4 % 4, by omega⟩
  let e : Nat := x.now + rn 5 % 1000
  let s : State := (((x.put HF_DOMSTAT_STATE 2 d.val).put UH_USTAT_MASTER 0).updDom d.val (fun u => { u with src := 3 })).arm (.uhlaSource d.val) (rn 5 % 1000)
  ⟨s, d, e, by decide +kernel⟩

theorem witness_DomainsAndEventSlotsAct_9 : ∃ (s : State) (d : Dom) (e : Nat),
    s.deadline (.pickSource d.val) = some e ∧
    s.domSt d.val = domLive ∧
    (s.dom d.val).src = srcPick :=
  let x : State := State.reset
  let d : Dom := ⟨rn 4 % 4, by omega⟩
  let e : Nat := x.now + rn 5 % 1000
  let s : State := ((x.put HF_DOMSTAT_STATE 2 d.val).updDom d.val (fun u => { u with src := 2 })).arm (.pickSource d.val) (rn 5 % 1000)
  ⟨s, d, e, by decide +kernel⟩

theorem witness_DomainsAndEventSlotsAct_10 : ∃ (s : State) (m : Master) (k : EvSlot) (v : Word),
    s.busOpen m = true ∧
    s.on EV_EVTCTL_EN k.val = false :=
  let x : State := State.reset
  let m : Master := .pair ⟨rn 110 % 16, by omega⟩
  let k : EvSlot := ⟨rn 4 % 256, by omega⟩
  let v : Word := BitVec.ofNat 32 (rn 91)
  let s : State := x.put EV_EVTCTL_EN 0 k.val |>.updDom (rn 7 % 4) (fun u => {u with pos := BitVec.ofNat 80 (rn 8 * rn 9 % 2^79)})
  ⟨s, m, k, v, by decide +kernel⟩

theorem witness_DomainsAndEventSlotsAct_11 : ∃ (s : State) (m : Master) (k : EvSlot) (v : Word),
    s.busOpen m = true ∧
    s.on EV_EVTCTL_EN k.val = true :=
  let x : State := State.reset
  let m : Master := .pair ⟨rn 110 % 16, by omega⟩
  let k : EvSlot := ⟨rn 4 % 256, by omega⟩
  let v : Word := BitVec.ofNat 32 (rn 91)
  let s : State := x.put EV_EVTCTL_EN 1 k.val
  ⟨s, m, k, v, by decide +kernel⟩

theorem witness_DomainsAndEventSlotsAct_12 : ∃ (s : State) (m : Master) (k : EvSlot) (v : Word),
    s.busOpen m = true ∧
    s.on EV_EVTCTL_EN k.val = true :=
  let x : State := State.reset
  let m : Master := .pair ⟨rn 110 % 16, by omega⟩
  let k : EvSlot := ⟨rn 4 % 256, by omega⟩
  let v : Word := BitVec.ofNat 32 (rn 91)
  let s : State := x.put EV_EVTCTL_EN 1 k.val
  ⟨s, m, k, v, by decide +kernel⟩

theorem witness_DomainsAndEventSlotsAct_13 : ∃ (s : State) (m : Master) (k : EvSlot) (v : Word),
    s.busOpen m = true ∧
    s.on EV_EVTCTL_EN k.val = false :=
  let x : State := State.reset
  let m : Master := .pair ⟨rn 110 % 16, by omega⟩
  let k : EvSlot := ⟨rn 4 % 256, by omega⟩
  let v : Word := BitVec.ofNat 32 (rn 91)
  let s : State := x.put EV_EVTCTL_EN 0 k.val
  ⟨s, m, k, v, by decide +kernel⟩

theorem witness_DomainsAndEventSlotsAct_14 : ∃ (s : State) (k : EvSlot),
    s.on EV_EVTCTL_EN k.val = true ∧
    s.usable (s.get EV_EVTCTL_DOMAIN k.val) = true ∧
    0 < s.get HF_INC_INC (s.get EV_EVTCTL_DOMAIN k.val) :=
  let x : State := State.reset
  let k : EvSlot := ⟨rn 4 % 256, by omega⟩
  let s : State := (((x.put EV_EVTCTL_EN 1 k.val).put EV_EVTCTL_DOMAIN 2 k.val).put HF_DOMSTAT_STATE 2 2 |>.put HF_INC_INC 50000000 2 |>.updDom 2 (fun u => {u with pos := BitVec.ofNat 80 (rn 5 * rn 6)})).setNext k.val (BitVec.ofNat 64 (rn 5 * rn 6 / 2^16 + rn 7 % 2^33))
  ⟨s, k, by decide +kernel⟩

theorem witness_FramesPlansAndCrews_1 : ∃ (s : State),
    s.plan.awaitFrame = none ∧
    s.plan.await = none ∧
    (s.get SP_STAT_SOURCE < 4 → s.usable (s.get SP_STAT_SOURCE) = true) ∧
    0 < s.sourcePos.2 ∧
    s.bank.accepted = [] ∧
    0 ≤ (frame38 s.sourcePos.1 - s.plan.lastFrame).toInt :=
  let x : State := State.reset
  let s : State := (({ x with bank := {x.bank with accepted := []}}.put SP_COMMIT_PENDING (rn 8 % 2))).wrw .RS_OPTIMG 500000 4 |>.put SP_STAT_SOURCE 4 |>.updPlan (fun u => {u with tb := BitVec.ofNat 80 (2^42 * (5 + rn 4 % 1000) + rn 5), lastFrame := BitVec.ofNat 38 (4 + rn 4 % 1000 + rn 6 % 2), await := none, awaitFrame := none, crews := Vector.ofFn (fun k : Fin 64 => ⟨BitVec.ofNat 32 (rn k.val), 1,2,3,4,5,6,7,8⟩)})
  ⟨s, by decide +kernel⟩

theorem witness_FramesPlansAndCrews_2 : ∃ (s : State),
    s.sourceFirst = false ∧
    s.bank.accepted = [] :=
  let x : State := State.reset
  let s : State := ({ x with bank := {x.bank with accepted := []}}.put SP_COMMIT_PENDING (rn 8 % 2)).put SP_STAT_SOURCE 4 |>.updPlan (fun u => {u with tb := 0, lastFrame := 3, lastAt := x.now, await := none, awaitFrame := none, crews := Vector.ofFn (fun k : Fin 64 => ⟨BitVec.ofNat 32 (rn k.val), 1,2,3,4,5,6,7,8⟩)})
  ⟨s, by decide +kernel⟩

theorem witness_FramesPlansAndCrews_3 : ∃ (s : State) (d : Dom) (f : BitVec 38),
    s.plan.await = some d.val ∧
    s.plan.awaitFrame = some f ∧
    s.usable d.val = true ∧
    0 < s.get HF_INC_INC d.val ∧
    0 ≤ (frame38 (s.dom d.val).pos - f).toInt ∧
    s.bank.accepted = [] :=
  let x : State := State.reset
  let d : Dom := ⟨rn 4 % 4, by omega⟩
  let f : BitVec 38 := 8
  let s : State := (((({ x with bank := {x.bank with accepted := []}}).put HF_DOMSTAT_STATE (2 + rn 7 % 2) d.val).put HF_INC_INC 50000000 d.val).updDom d.val (fun u => {u with pos := BitVec.ofNat 80 (2^42*(8 + rn 5 % 1000) + rn 8)})).updPlan (fun u => {u with await := some d.val, awaitFrame := some 8})
  ⟨s, d, f, by decide +kernel⟩

theorem witness_FramesPlansAndCrews_4 : ∃ (s : State) (m : Master) (v : Word),
    s.busOpen m = true ∧
    s.admissible = true :=
  let x : State := State.reset
  let m : Master := .pair ⟨rn 110 % 16, by omega⟩
  let v : Word := BitVec.ofNat 32 (rn 91)
  let s : State := (List.range 64).foldl (fun s c => (s.wrw .SP_CREWCTL (if c = 0 then 3 else 0) c)) (if rn 3 % 2 = 0 then State.reset else (List.range 16).foldl (fun s c => s.put SP_PAIRSUP_SUPCREW 0 c) x) |>.wrw .SP_GRANTA0 5 0 |>.wrw .SP_GRANTA1 5 0 |>.wrw .SP_GRANTA2 5 0 |>.wrw .SP_GRANTB0 5 0 |>.wrw .SP_GRANTB1 5 0 |>.wrw .SP_GRANTB2 5 0
  ⟨s, m, v, by decide +kernel⟩

theorem witness_FramesPlansAndCrews_5 : ∃ (s : State) (m : Master) (v : Word),
    s.busOpen m = true ∧
    s.admissible = false :=
  let x : State := State.reset
  let m : Master := .pair ⟨rn 110 % 16, by omega⟩
  let v : Word := BitVec.ofNat 32 (rn 91)
  let s : State := (x.wrw .SP_CREWCTL 0 0).put SP_PAIRSUP_SUPCREW 0 1
  ⟨s, m, v, by decide +kernel⟩

theorem witness_FramesPlansAndCrews_6 : ∃ (s : State) (c : Crew) (b : Fin 4) (k : Budget),
    k.bitNo = b.val ∧
    s.hasBudget c.val k = true :=
  let x : State := State.reset
  let c : Crew := ⟨rn 4 % 63, by omega⟩
  let b : Fin 4 := ⟨rn 5 % 4, by omega⟩
  let k : Budget := match rn 5 % 4 with | 0 => .drift | 1 => .beats | 2 => .seam | _ => .eth
  let s : State := (((x.wrw .SP_CREWSTAT (BitVec.ofNat 32 (rn 9) &&& 0xFF00#32) c.val).put k.remain (5 + rn 7 % 50) c.val).put SP_REMAIN0_DRIFT (5 + rn 7 % 50) c.val |>.put SP_CREWSTAT_EXHAUSTED 0 c.val |>.put SP_CREWSTAT_FLOORED 0 c.val).put DR_PSTATE_STATE 2 3 |>.updPair 3 (fun p => {p with core0 := {p.core0 with waiting := none, stopped := false, regs := {p.core0.regs with crew := if rn 8 % 2 = 0 then c.val else 9}}}) |>.updPlan (fun u => {u with haltedCrews := [], sup := Vector.replicate 16 (if rn 6 % 2 = 0 then c.val else 63), crews := Vector.replicate 64 ⟨SP_CREWCTL_EN.into (SP_CREWCTL_PAIR.into 0 3) 1,1,1,1,1,1,1,1,1⟩})
  ⟨s, c, b, k, by decide +kernel⟩

theorem witness_FramesPlansAndCrews_7 : ∃ (s : State) (c : Crew) (b : Fin 4) (k : Budget) (n : Pair),
    k.bitNo = b.val ∧
    s.hasBudget c.val k = true ∧
    (s.pairU n.val).core0.regs.crew = c.val ∧
    (s.pairU n.val).core0.waiting = none ∧
    (s.crew c.val).pair = n.val ∧
    c.val ≠ s.supCrew n.val :=
  let x : State := State.reset
  let c : Crew := ⟨rn 4 % 63, by omega⟩
  let b : Fin 4 := ⟨rn 5 % 4, by omega⟩
  let k : Budget := match rn 5 % 4 with | 0 => .drift | 1 => .beats | 2 => .seam | _ => .eth
  let n : Pair := ⟨rn 111 % 16, by omega⟩
  let s : State := (((x.put SP_REMAIN0_DRIFT 9 c.val).put SP_CREWSTAT_EXHAUSTED 0 c.val |>.put SP_CREWSTAT_FLOORED 0 c.val).put DR_PSTATE_STATE 2 n.val |>.updPair n.val (fun p => {p with core0 := {p.core0 with waiting := none, stopped := false, regs := {p.core0.regs with crew := c.val}}}) |>.updPlan (fun u => {u with haltedCrews := [], sup := Vector.replicate 16 63, crews := Vector.replicate 64 ⟨SP_CREWCTL_EN.into (SP_CREWCTL_PAIR.into 0 n.val) 1,1,1,1,1,1,1,1,1⟩})).put k.remain 9 c.val
  ⟨s, c, b, k, n, by decide +kernel⟩

theorem witness_FramesPlansAndCrews_8 : ∃ (s : State) (c : Crew) (n : Pair),
    s.hasBudget c.val .drift = true ∧
    (s.pairU n.val).core0.regs.crew = c.val ∧
    (s.pairU n.val).core0.waiting = none ∧
    (s.crew c.val).pair = n.val ∧
    c.val = s.supCrew n.val :=
  let x : State := State.reset
  let c : Crew := ⟨rn 4 % 63, by omega⟩
  let n : Pair := ⟨rn 111 % 16, by omega⟩
  let s : State := ((x.put SP_REMAIN0_DRIFT 9 c.val).put SP_CREWSTAT_EXHAUSTED 0 c.val |>.put SP_CREWSTAT_FLOORED 0 c.val).put DR_PSTATE_STATE 2 n.val |>.updPair n.val (fun p => {p with core0 := {p.core0 with waiting := none, stopped := false, regs := {p.core0.regs with crew := c.val}}}) |>.updPlan (fun u => {u with haltedCrews := [], sup := Vector.replicate 16 c.val, crews := Vector.replicate 64 ⟨SP_CREWCTL_EN.into (SP_CREWCTL_PAIR.into 0 n.val) 1,1,1,1,1,1,1,1,1⟩})
  ⟨s, c, n, by decide +kernel⟩

theorem witness_FramesPlansAndCrews_9 : ∃ (s : State) (n : Pair) (c : Crew),
    (s.pairU n.val).core0.regs.crew = c.val ∧
    (s.crew c.val).en = true ∧
    (s.crew c.val).essential = false ∧
    (s.crew c.val).pair = n.val ∧
    (s.pairU n.val).core0.waiting = none ∧
    s.parked c.val = false ∧
    4 * frameTicksLeft s.sourcePos.1 s.plan.lastFrame s.sourcePos.2 ≤ s.essentialLeft n.val ∧
    c.val ≠ s.supCrew n.val :=
  let x : State := State.reset
  let n : Pair := ⟨rn 111 % 16, by omega⟩
  let c : Crew := ⟨rn 4 % 63, by omega⟩
  let s : State := ((((x.put SP_STAT_SOURCE 4).wrw .SP_CREWSTAT 0 c.val).put DR_PSTATE_STATE 2 n.val).updPair n.val (fun p => {p with core0 := {p.core0 with waiting := none, regs := {p.core0.regs with crew := c.val}}})).updPlan (fun u => {u with haltedCrews := [], tb := BitVec.ofNat 80 (2^42 * 4 - 1), lastFrame := 3, sup := Vector.replicate 16 63, crews := Vector.replicate 64 ⟨SP_CREWCTL_EN.into (SP_CREWCTL_PAIR.into 0 n.val) 1,1,1,1,1,1,1,1,1⟩})
  ⟨s, n, c, by decide +kernel⟩

theorem witness_InterruptsAreTakenAndGrouped_1 : ∃ (s : State) (m : Master) (n : Option Slice) (k src : Nat),
    s.busOpen m = true ∧
    s.sliceOf m n = some k ∧
    k < 17 ∧
    s.bestSource k = some src :=
  let x : State := State.reset
  let m : Master := .pair 3
  let n : Option Slice := some 5
  let k : Nat := 5
  let s0 : State := ((lock x 3).setPending 5 77 true).put IC_SRCCFG_PRIO 7 77 |>.put IC_SCTL_THRESH 0 5
  let src : Nat := (s0.bestSource 5).getD 0
  let s : State := ((lock x 3).setPending 5 77 true).put IC_SRCCFG_PRIO 7 77 |>.put IC_SCTL_THRESH 0 5
  ⟨s, m, n, k, src, by decide +kernel⟩

theorem witness_InterruptsAreTakenAndGrouped_2 : ∃ (s : State) (m : Master) (n : Option Slice) (k : Nat),
    s.busOpen m = true ∧
    s.sliceOf m n = some k ∧
    k < 17 ∧
    s.bestSource k = none :=
  let x : State := State.reset
  let m : Master := .pair 3
  let n : Option Slice := some 5
  let k : Nat := 5
  let s : State := (List.range 32).foldl (fun s j => s.wrw .IC_PEND 0 5 j) (lock x 3)
  ⟨s, m, n, k, by decide +kernel⟩

theorem witness_InterruptsAreTakenAndGrouped_3 : ∃ (s : State) (m : Master) (n : Option Slice) (v : Word) (k : Nat),
    s.busOpen m = true ∧
    s.sliceOf m n = some k ∧
    s.mayWriteSlice m n = true ∧
    s.intc.inService.contains (k, IC_COMPLETE_ID.of v) = true :=
  let x : State := State.reset
  let m : Master := .pair 3
  let n : Option Slice := some 5
  let v : Word := BitVec.ofNat 32 (rn 4 % 1024)
  let k : Nat := 5
  let s : State := ({ lock x 3 with intc := { x.intc with inService := [(5, rn 4 % 1024), (6, 2)] }})
  ⟨s, m, n, v, k, by decide +kernel⟩

theorem witness_InterruptsAreTakenAndGrouped_4 : ∃ (s : State) (m : Master) (n : Option Slice) (v : Word) (k : Nat),
    s.busOpen m = true ∧
    s.sliceOf m n = some k ∧
    k < 17 ∧
    s.mayWriteSlice m n = true ∧
    s.intc.inService.contains (k, IC_COMPLETE_ID.of v) = false :=
  let x : State := State.reset
  let m : Master := .pair 3
  let n : Option Slice := some 5
  let v : Word := BitVec.ofNat 32 ((rn 4 + 1) % 1024)
  let k : Nat := 5
  let s : State := ({ lock x 3 with intc := { x.intc with inService := [(5, rn 4 % 1024), (6, 2)] }})
  ⟨s, m, n, v, k, by decide +kernel⟩

theorem witness_InterruptsAreTakenAndGrouped_5 : ∃ (s : State) (m : Master) (n : Option Slice) (j : Fin 32) (v : Word) (k : Nat),
    s.busOpen m = true ∧
    s.sliceOf m n = some k ∧
    k < 17 ∧
    s.mayWriteSlice m n = true :=
  let x : State := State.reset
  let m : Master := .pair 3
  let n : Option Slice := some 5
  let j : Fin 32 := default
  let v : Word := BitVec.ofNat 32 (rn 91)
  let k : Nat := 5
  let s : State := lock x 3
  ⟨s, m, n, j, v, k, by decide +kernel⟩

theorem witness_InterruptsAreTakenAndGrouped_6 : ∃ (s : State) (m : Master) (src : Source) (v : Word),
    s.busOpen m = true ∧
    (m = .banksman ∨ s.lockstep m = true) ∧
    (s.sourceBlock src.val).all (fun b => s.mayWriteBlock m b) = true ∧
    IC_SRCCFG_TARGET.of v ≤ 16 ∧
    slice16Refuses m (IC_SRCCFG_TARGET.of (s.rdw .IC_SRCCFG src.val)) (IC_SRCCFG_TARGET.of v) = false ∧
    (IC_SRCCFG_GROUPED.of v = 1 → s.get IC_GCFG_GSLICE (IC_SRCCFG_GROUP.of v) = IC_SRCCFG_TARGET.of v) :=
  let x : State := State.reset
  let m : Master := if rn 7 % 2 = 0 then .pair 3 else .banksman
  let src : Source := ⟨rn 118 % 1024, by omega⟩
  let v : Word := IC_SRCCFG_GROUPED.into (IC_SRCCFG_TARGET.into (BitVec.ofNat 32 (rn 9)) (rn 8 % 16)) 0
  let s : State := (List.range 8).foldl (fun s b => s.put BLK_BLKCTL_OWNED 0 b) (lock x 3) |>.put IC_SRCCFG_TARGET (if rn 7 % 2 = 0 then 2 else 16) src.val
  ⟨s, m, src, v, by decide +kernel⟩

theorem witness_InterruptsAreTakenAndGrouped_7 : ∃ (s : State) (m : Master) (g : IcGroup) (v : Word),
    s.busOpen m = true ∧
    (m = .banksman ∨ s.lockstep m = true) ∧
    IC_GCFG_GSLICE.of v ≤ 16 ∧
    slice16Refuses m (IC_GCFG_GSLICE.of (s.rdw .IC_GCFG g.val)) (IC_GCFG_GSLICE.of v) = false :=
  let x : State := State.reset
  let m : Master := if rn 7 % 2 = 0 then .pair 3 else .banksman
  let g : IcGroup := ⟨rn 104 % 64, by omega⟩
  let v : Word := IC_GCFG_GSLICE.into (BitVec.ofNat 32 (rn 9)) (rn 8 % 16)
  let s : State := (lock x 3).put IC_GCFG_GSLICE (if rn 7 % 2 = 0 then 2 else 16) g.val
  ⟨s, m, g, v, by decide +kernel⟩

theorem witness_InterruptsAreTakenAndGrouped_8 : ∃ (s : State) (m : Master) (g : IcGroup) (v : Word),
    s.busOpen m = true ∧
    (m = .banksman ∨ s.lockstep m = true) ∧
    IC_GCFG_GSLICE.of v ≤ 16 ∧
    slice16Refuses m (IC_GCFG_GSLICE.of (s.rdw .IC_GCFG g.val)) (IC_GCFG_GSLICE.of v) = false :=
  let x : State := State.reset
  let m : Master := if rn 7 % 2 = 0 then .pair 3 else .banksman
  let g : IcGroup := ⟨rn 104 % 64, by omega⟩
  let v : Word := IC_GCFG_GSLICE.into (BitVec.ofNat 32 (rn 9)) (rn 8 % 16)
  let s : State := {((lock x 3).put IC_GCFG_GSLICE (if rn 7 % 2 = 0 then 2 else 16) g.val) with intc := { x.intc with held := [⟨4, 9, g.val⟩, ⟨5, 9, g.val + 1⟩] }}
  ⟨s, m, g, v, by decide +kernel⟩

theorem witness_InterruptsAreTakenAndGrouped_9 : ∃ (s : State) (g : IcGroup) (e : Nat),
    s.deadline (.icGroup g.val) = some e :=
  let x : State := State.reset
  let g : IcGroup := ⟨rn 104 % 64, by omega⟩
  let e : Nat := x.now + 55
  let s : State := { x with intc := { x.intc with held := [⟨4, 9, g.val⟩, ⟨5, 9, g.val + 1⟩] }}.arm (.icGroup g.val) 55
  ⟨s, g, e, by decide +kernel⟩

theorem witness_SeamStreamsRecord_1 : ∃ (s : State) (m : Master) (k : Stream) (v : Word),
    s.busOpen m = true ∧
    s.lockstep m = true ∧
    54 ≤ k.val ∧
    ((s.streamU k.val).putBuf.length + 1 < (match (s.streamU k.val).putBuf ++ [v] with | h :: _ => 2 * 2 ^ bits h 4 2 | [] => 2)) :=
  let x : State := State.reset
  let m : Master := .pair 3
  let k : Stream := ⟨54 + rn 4 % 10, by omega⟩
  let v : Word := BitVec.ofNat 32 (rn 91)
  let s : State := (lock x 3).updStream k.val (fun u => {u with putBuf := if rn 5 % 2 = 0 then [] else [0x30#32, 7]})
  ⟨s, m, k, v, by decide +kernel⟩

theorem witness_SeamStreamsRecord_2 : ∃ (s : State) (m : Master) (k : Stream) (v : Word),
    s.busOpen m = true ∧
    s.lockstep m = true ∧
    k.val < 54 :=
  let x : State := State.reset
  let m : Master := .pair 3
  let k : Stream := ⟨rn 4 % 54, by omega⟩
  let v : Word := BitVec.ofNat 32 (rn 91)
  let s : State := (lock x 3)
  ⟨s, m, k, v, by decide +kernel⟩

theorem witness_SeamStreamsRecord_3 : ∃ (s : State) (m : Master) (k : Stream) (v h : Word) (l : List Word) (x0 : Nat),
    s.busOpen m = true ∧
    s.lockstep m = true ∧
    54 ≤ k.val ∧
    (s.streamU k.val).putBuf = h :: l ∧
    l.length + 2 = 2 * 2 ^ bits h 4 2 ∧
    s.streamOn k.val = true ∧
    bit (BitVec.ofNat 32 (s.get SE_STRCFG_SEL k.val)) 0 = true ∧
    (s.streamU k.val).dropped = 0 ∧
    (s.streamU k.val).lastTime = some x0 ∧
    s.now - x0 ≤ 262143 ∧
    s.on SE_STRSTAT_OPEN k.val = true ∧
    (s.streamU k.val).burst.length + 4 * (l.length + 2) < 256 :=
  let x : State := State.reset
  let m : Master := .pair 3
  let k : Stream := ⟨54 + rn 4 % 10, by omega⟩
  let v : Word := BitVec.ofNat 32 (rn 91)
  let h : Word := if rn 5 % 2 = 0 then 0xC#32 else 0x1C#32
  let l : List Word := if rn 5 % 2 = 0 then [] else [5#32, 6]
  let x0 : Nat := x.now
  let s : State := (((((lock x 3).put SE_SCTL_EN 1).put SE_STRCFG_EN 1 k.val).put SE_STRCFG_SEL 1 k.val).put SE_STRSTAT_OPEN 1 k.val |>.wrw .RS_RSTREL 0xFFFFFF).updStream k.val (fun u => {u with putBuf := if rn 5 % 2 = 0 then [0xC#32] else [0x1C#32, 5, 6], dropped := 0, lastTime := some x.now, burst := List.replicate (rn 6 % 236) 3})
  ⟨s, m, k, v, h, l, x0, by decide +kernel⟩

theorem witness_SeamStreamsRecord_4 : ∃ (s : State) (m : Master) (k : Stream) (v h : Word) (l : List Word) (x0 : Nat),
    s.busOpen m = true ∧
    s.lockstep m = true ∧
    54 ≤ k.val ∧
    (s.streamU k.val).putBuf = h :: l ∧
    l.length + 2 = 2 * 2 ^ bits h 4 2 ∧
    s.streamOn k.val = true ∧
    bit (BitVec.ofNat 32 (s.get SE_STRCFG_SEL k.val)) 0 = true ∧
    (s.streamU k.val).dropped = 0 ∧
    (s.streamU k.val).lastTime = some x0 ∧
    s.now - x0 ≤ 262143 ∧
    s.on SE_STRSTAT_OPEN k.val = false ∧
    s.mayOpen k.val = true :=
  let x : State := State.reset
  let m : Master := .pair 3
  let k : Stream := ⟨54 + rn 4 % 10, by omega⟩
  let v : Word := BitVec.ofNat 32 (rn 91)
  let h : Word := if rn 5 % 2 = 0 then 0xC#32 else 0x1C#32
  let l : List Word := if rn 5 % 2 = 0 then [] else [5#32, 6]
  let x0 : Nat := x.now
  let s : State := ((((((((lock x 3).put SE_SCTL_EN 1).put SE_STRCFG_EN 1 k.val).put SE_STRCFG_SEL 1 k.val).put SE_STRSTAT_OPEN 0 k.val |>.wrw .RS_RSTREL 0xFFFFFF).updStream k.val (fun u => {u with putBuf := if rn 5 % 2 = 0 then [0xC#32] else [0x1C#32, 5, 6], dropped := 0, lastTime := some x.now, burst := List.replicate (rn 6 % 236) 3})).put SE_STRCFG_CREDIT 0 k.val |>.put SE_STRCFG_CREW 9 k.val).put SP_REMAIN2_SEAM (1 + rn 7 % 30) 9 |>.wrw .SP_CREWSTAT 0 9).updPlan (fun u => {u with haltedCrews := [], crews := Vector.replicate 64 ⟨SP_CREWCTL_EN.into (SP_CREWCTL_PAIR.into 0 3) 1,1,1,1,1,1,1,1,1⟩})
  ⟨s, m, k, v, h, l, x0, by decide +kernel⟩

theorem witness_SeamStreamsRecord_5 : ∃ (s : State) (m : Master) (k : Stream) (v h : Word) (l : List Word) (x0 : Nat),
    s.busOpen m = true ∧
    s.lockstep m = true ∧
    54 ≤ k.val ∧
    (s.streamU k.val).putBuf = h :: l ∧
    l.length + 2 = 2 * 2 ^ bits h 4 2 ∧
    s.streamOn k.val = true ∧
    bit (BitVec.ofNat 32 (s.get SE_STRCFG_SEL k.val)) 0 = true ∧
    (s.streamU k.val).dropped = 0 ∧
    (s.streamU k.val).lastTime = some x0 ∧
    s.now - x0 ≤ 262143 ∧
    s.on SE_STRSTAT_OPEN k.val = false ∧
    s.mayOpen k.val = false :=
  let x : State := State.reset
  let m : Master := .pair 3
  let k : Stream := ⟨54 + rn 4 % 10, by omega⟩
  let v : Word := BitVec.ofNat 32 (rn 91)
  let h : Word := if rn 5 % 2 = 0 then 0xC#32 else 0x1C#32
  let l : List Word := if rn 5 % 2 = 0 then [] else [5#32, 6]
  let x0 : Nat := x.now
  let s : State := ((((((lock x 3).put SE_SCTL_EN 1).put SE_STRCFG_EN 1 k.val).put SE_STRCFG_SEL 1 k.val).put SE_STRSTAT_OPEN 0 k.val |>.wrw .RS_RSTREL 0xFFFFFF).updStream k.val (fun u => {u with putBuf := if rn 5 % 2 = 0 then [0xC#32] else [0x1C#32, 5, 6], dropped := 0, lastTime := some x.now, burst := List.replicate (rn 6 % 236) 3})).put SE_STRCFG_CREW 9 k.val |>.put SP_REMAIN2_SEAM 0 9
  ⟨s, m, k, v, h, l, x0, by decide +kernel⟩

theorem witness_SeamStreamsRecord_6 : ∃ (s : State) (k : Stream) (e : Nat),
    s.deadline (.burstFlush k.val) = some e ∧
    s.on SE_STRSTAT_OPEN k.val = true :=
  let x : State := State.reset
  let k : Stream := ⟨rn 108 % 64, by omega⟩
  let e : Nat := x.now + 9
  let s : State := ((x.put SE_STRSTAT_OPEN 1 k.val).updStream k.val (fun u => {u with burst := List.replicate (rn 6 % 257) 3})).arm (.burstFlush k.val) 9
  ⟨s, k, e, by decide +kernel⟩

theorem witness_CapturesAndDrains_1 : ∃ (s : State) (m : Master) (n : Trig) (v : Word),
    s.busOpen m = true ∧
    s.lockstep m = true ∧
    s.released uSeam = true ∧
    SE_TRGCTL_EN.of v = 1 ∧
    SE_TRGCTL_RELEASE.of v = 0 ∧
    s.get SE_CAPSTAT_STATE n.val = capIdle ∧
    s.heldMb < 288 :=
  let x : State := State.reset
  let m : Master := .pair 3
  let n : Trig := ⟨rn 111 % 16, by omega⟩
  let v : Word := SE_TRGCTL_RELEASE.into (SE_TRGCTL_EN.into (BitVec.ofNat 32 (rn 9)) 1) 0
  let s : State := (List.range 16).foldl (fun s k => s.put SE_CAPSTAT_STATE 0 k) (lock x 3) |>.wrw .RS_RSTREL 0xFFFFFF
  ⟨s, m, n, v, by decide +kernel⟩

theorem witness_CapturesAndDrains_2 : ∃ (s : State) (m : Master) (n : Trig) (v : Word),
    s.busOpen m = true ∧
    s.lockstep m = true ∧
    s.released uSeam = true ∧
    SE_TRGCTL_EN.of v = 1 ∧
    SE_TRGCTL_RELEASE.of v = 0 ∧
    s.get SE_CAPSTAT_STATE n.val = capHeld :=
  let x : State := State.reset
  let m : Master := .pair 3
  let n : Trig := ⟨rn 111 % 16, by omega⟩
  let v : Word := SE_TRGCTL_RELEASE.into (SE_TRGCTL_EN.into (BitVec.ofNat 32 (rn 9)) 1) 0
  let s : State := (lock x 3 |>.put SE_CAPSTAT_STATE 2 n.val) |>.wrw .RS_RSTREL 0xFFFFFF
  ⟨s, m, n, v, by decide +kernel⟩

theorem witness_CapturesAndDrains_3 : ∃ (s : State) (m : Master) (n : Trig) (v : Word),
    s.busOpen m = true ∧
    s.lockstep m = true ∧
    SE_TRGCTL_EN.of v = 0 ∧
    SE_TRGCTL_RELEASE.of v = 0 :=
  let x : State := State.reset
  let m : Master := .pair 3
  let n : Trig := ⟨rn 111 % 16, by omega⟩
  let v : Word := SE_TRGCTL_RELEASE.into (SE_TRGCTL_EN.into (BitVec.ofNat 32 (rn 9)) 0) 0
  let s : State := (lock x 3 |>.put SE_CAPSTAT_STATE (rn 7 % 3) n.val)
  ⟨s, m, n, v, by decide +kernel⟩

theorem witness_CapturesAndDrains_4 : ∃ (s : State) (n : Trig),
    s.get SE_CAPSTAT_STATE n.val = capPost ∧
    s.routed (640 + n.val) = true :=
  let x : State := State.reset
  let n : Trig := ⟨rn 111 % 16, by omega⟩
  let s : State := x.put SE_CAPSTAT_STATE 1 n.val |>.put IC_SRCCFG_TARGET (rn 5 % 17) (640+n.val)
  ⟨s, n, by decide +kernel⟩

theorem witness_CapturesAndDrains_5 : ∃ (s : State) (m : Master) (n : Trig) (v : Word),
    s.busOpen m = true ∧
    s.lockstep m = true ∧
    SE_TRGCTL_FIRE.of v = 0 ∧
    s.get SE_CAPSTAT_STATE n.val ≠ capIdle :=
  let x : State := State.reset
  let m : Master := .pair 3
  let n : Trig := ⟨rn 111 % 16, by omega⟩
  let v : Word := SE_TRGCTL_FIRE.into (BitVec.ofNat 32 (rn 9)) 0
  let s : State := (lock x 3).put SE_CAPSTAT_STATE (1 + rn 5 % 2) n.val
  ⟨s, m, n, v, by decide +kernel⟩

theorem witness_CapturesAndDrains_6 : ∃ (s : State) (m : Master) (d : Drain) (v : Word),
    s.busOpen m = true ∧
    s.lockstep m = true ∧
    SE_DRCFG_SRC.of v ≠ 3 ∧
    SE_DRCFG_EN.of v = 1 ∧
    SE_DRCFG_STOP.of v = 0 ∧
    s.drainRefused d.val v = false :=
  let x : State := State.reset
  let m : Master := .pair 3
  let d : Drain := ⟨rn 101 % 2, by omega⟩
  let v : Word := SE_DRCFG_DEST.into (SE_DRCFG_SRC.into (SE_DRCFG_STOP.into (SE_DRCFG_EN.into (SE_DRCFG_GO.into (BitVec.ofNat 32 (rn 9)) 1) 1) 0) (rn 8 % 2)) 0
  let s : State := (((lock x 3 |>.wrw .RS_RSTREL 0xFFFFFF).put SE_DRSTAT_BUSY 0 d.val).wrw .SE_DRLEN 0x400 d.val).put SE_CAPSTAT_STATE 2 (SE_DRCFG_CAP.of v)
  ⟨s, m, d, v, by decide +kernel⟩

theorem witness_CapturesAndDrains_7 : ∃ (s : State) (m : Master) (d : Drain) (v : Word),
    s.busOpen m = true ∧
    s.lockstep m = true ∧
    SE_DRCFG_SRC.of v ≠ 3 ∧
    SE_DRCFG_EN.of v = 1 ∧
    SE_DRCFG_STOP.of v = 0 ∧
    s.drainRefused d.val v = true :=
  let x : State := State.reset
  let m : Master := .pair 3
  let d : Drain := ⟨rn 101 % 2, by omega⟩
  let v : Word := SE_DRCFG_DEST.into (SE_DRCFG_SRC.into (SE_DRCFG_STOP.into (SE_DRCFG_EN.into (SE_DRCFG_GO.into (BitVec.ofNat 32 (rn 9)) 1) 1) 0) (rn 8 % 3)) 0
  let s : State := (lock x 3 |>.put SE_DRSTAT_BUSY 1 d.val)
  ⟨s, m, d, v, by decide +kernel⟩

theorem witness_CapturesAndDrains_8 : ∃ (s : State) (m : Master) (d : Drain) (v : Word),
    s.busOpen m = true ∧
    s.lockstep m = true ∧
    SE_DRCFG_SRC.of v ≠ 3 ∧
    SE_DRCFG_GO.of v = 0 :=
  let x : State := State.reset
  let m : Master := .pair 3
  let d : Drain := ⟨rn 101 % 2, by omega⟩
  let v : Word := SE_DRCFG_GO.into (SE_DRCFG_SRC.into (BitVec.ofNat 32 (rn 9)) (rn 8 % 3)) 0
  let s : State := (lock x 3).put SE_DRSTAT_BUSY 1 d.val
  ⟨s, m, d, v, by decide +kernel⟩

theorem witness_CapturesAndDrains_9 : ∃ (s : State) (d : Drain),
    s.on SE_DRSTAT_BUSY d.val = true ∧
    s.parked (s.get SE_DRCFG_CREW d.val) = false ∧
    s.routed (656 + d.val) = true :=
  let x : State := State.reset
  let d : Drain := ⟨rn 101 % 2, by omega⟩
  let s : State := ((((x.put SE_DRSTAT_BUSY 1 d.val).put SE_DRCFG_CREW 9 d.val).wrw .SP_CREWSTAT 0 9).updDrain d.val (fun _ => ⟨rn 5 % 100000, rn 6 % 3000, 0, []⟩)) |>.put DR_PSTATE_STATE 2 0 |>.updPlan (fun u => {u with haltedCrews := [], crews := Vector.replicate 64 ⟨0,1,1,1,1,1,1,1,1⟩}) |>.put IC_SRCCFG_TARGET (rn 5 % 17) (656+d.val) |>.put SE_DRCFG_DEST 0 d.val
  ⟨s, d, by decide +kernel⟩

theorem witness_CapturesAndDrains_10 : ∃ (s : State) (d : Drain),
    s.on SE_DRSTAT_BUSY d.val = true ∧
    s.get SE_DRCFG_SRC d.val = 1 ∧
    (s.drainU d.val).next < (s.seam.ringPos - ringBursts) * 256 :=
  let x : State := State.reset
  let d : Drain := ⟨rn 101 % 2, by omega⟩
  let s : State := {((x.put SE_DRSTAT_BUSY 1 d.val).put SE_DRCFG_SRC 1 d.val) with seam := {x.seam with ringPos := 1600000 }}
  ⟨s, d, by decide +kernel⟩

theorem witness_PickAccumulates_1 : ∃ (s : State) (e : Eng) (v : Inv) (w : Word),
    s.pickFetch e.val .mac = some (v, w) ∧
    1 ≤ v.left :=
  let x : State := State.reset
  let e : Eng := ⟨rn 4 % 96, by omega⟩
  let v : Inv := inv1 rn
  let w : Word := match rn 6 % 4 with | 0 => enc (0x10 + rn 3 % 2) (rn 5) (rn 7) (rn 8) ((rn 11 % 4)*1024) | 1 => enc (0x10 + rn 3 % 2) (rn 5) (rn 7) (rn 8) (4096 + (rn 11 % 4)*1024) | 2 => enc (0x10 + rn 3 % 2) (rn 5) (rn 7) 0 (8192 + (rn 11 % 4)*1024 + rn 9 % 500) | _ => enc (0x10 + rn 3 % 2) (rn 5) (rn 7) 0 (12288 + (rn 11 % 4)*1024 + rn 9 % 1024)
  let s : State := pk x e.val w v rn
  ⟨s, e, v, w, by decide +kernel⟩

theorem witness_PickAccumulates_2 : ∃ (s : State) (e : Eng) (v : Inv) (w : Word),
    s.pickFetch e.val .msu = some (v, w) ∧
    1 ≤ v.left :=
  let x : State := State.reset
  let e : Eng := ⟨rn 4 % 96, by omega⟩
  let v : Inv := inv1 rn
  let w : Word := match rn 6 % 4 with | 0 => enc (0x12 + rn 3 % 2) (rn 5) (rn 7) (rn 8) ((rn 11 % 4)*1024) | 1 => enc (0x12 + rn 3 % 2) (rn 5) (rn 7) (rn 8) (4096 + (rn 11 % 4)*1024) | 2 => enc (0x12 + rn 3 % 2) (rn 5) (rn 7) 0 (8192 + (rn 11 % 4)*1024 + rn 9 % 500) | _ => enc (0x12 + rn 3 % 2) (rn 5) (rn 7) 0 (12288 + (rn 11 % 4)*1024 + rn 9 % 1024)
  let s : State := pk x e.val w v rn
  ⟨s, e, v, w, by decide +kernel⟩

theorem witness_PickAccumulates_3 : ∃ (s : State) (e : Eng) (v : Inv) (w : Word),
    s.pickFetch e.val .satMove = some (v, w) ∧
    1 ≤ v.left :=
  let x : State := State.reset
  let e : Eng := ⟨rn 4 % 96, by omega⟩
  let v : Inv := inv1 rn
  let w : Word := match rn 6 % 4 with | 0 => enc (0x14 + rn 3 % 2) (rn 5) 0 (rn 8) (0*1024) | 1 => enc (0x14 + rn 3 % 2) (rn 5) 0 (rn 8) (4096 + 0*1024) | 2 => enc (0x14 + rn 3 % 2) (rn 5) 0 0 (8192 + 0*1024 + rn 9 % 500) | _ => enc (0x14 + rn 3 % 2) (rn 5) 0 0 (12288 + 0*1024 + rn 9 % 1024)
  let s : State := pk x e.val w v rn
  ⟨s, e, v, w, by decide +kernel⟩

theorem witness_PickAccumulates_4 : ∃ (s : State) (e : Eng) (v : Inv) (w : Word),
    s.pickFetch e.val .satRead = some (v, w) ∧
    1 ≤ v.left :=
  let x : State := State.reset
  let e : Eng := ⟨rn 4 % 96, by omega⟩
  let v : Inv := inv1 rn
  let w : Word := enc (0x14 + rn 3 % 2) (rn 5) (0) (0) ((1 + rn 9 % 2) * 1024)
  let s : State := pk x e.val w v rn
  ⟨s, e, v, w, by decide +kernel⟩

theorem witness_PickAccumulates_5 : ∃ (s : State) (e : Eng) (v : Inv) (w : Word),
    s.pickFetch e.val .satStore = some (v, w) ∧
    1 ≤ v.left :=
  let x : State := State.reset
  let e : Eng := ⟨rn 4 % 96, by omega⟩
  let v : Inv := inv1 rn
  let w : Word := enc (0x14 + rn 3 % 2) (0) (rn 7) (0) (8192 + 3072 + rn 9 % 448)
  let s : State := pk x e.val w v rn
  ⟨s, e, v, w, by decide +kernel⟩

theorem witness_PickArithmetic_1 : ∃ (s : State) (e : Eng) (v : Inv) (w : Word),
    s.pickFetch e.val .lim = some (v, w) ∧
    1 ≤ v.left :=
  let x : State := State.reset
  let e : Eng := ⟨rn 4 % 96, by omega⟩
  let v : Inv := inv1 rn
  let w : Word := match rn 6 % 4 with | 0 => enc (0x16 + rn 3 % 2) (rn 5) (rn 7) (rn 8) ((rn 11 % 3)*1024) | 1 => enc (0x16 + rn 3 % 2) (rn 5) (rn 7) (rn 8) (4096 + (rn 11 % 3)*1024) | 2 => enc (0x16 + rn 3 % 2) (rn 5) (rn 7) 0 (8192 + (rn 11 % 3)*1024 + rn 9 % 500) | _ => enc (0x16 + rn 3 % 2) (rn 5) (rn 7) 0 (12288 + (rn 11 % 3)*1024 + rn 9 % 1024)
  let s : State := pk x e.val w v rn
  ⟨s, e, v, w, by decide +kernel⟩

theorem witness_PickArithmetic_2 : ∃ (s : State) (e : Eng) (v : Inv) (w : Word),
    s.pickFetch e.val .lim = some (v, w) ∧
    1 ≤ v.left :=
  let x : State := State.reset
  let e : Eng := ⟨rn 4 % 96, by omega⟩
  let v : Inv := inv1 rn
  let w : Word := match rn 6 % 3 with | 0 => enc (0x16 + rn 3 % 2) (rn 5) (rn 7) (rn 8 % 15) 3072 | 1 => enc (0x16 + rn 3 % 2) (rn 5) (rn 7) (rn 8 % 15) (4096 + 3072) | _ => enc (0x16 + rn 3 % 2) (rn 5) (rn 7) 0 (8192 + 3072 + rn 9 % 500)
  let s : State := pk x e.val w v rn
  ⟨s, e, v, w, by decide +kernel⟩

theorem witness_PickArithmetic_3 : ∃ (s : State) (e : Eng) (v : Inv) (w : Word),
    s.pickFetch e.val .abs = some (v, w) ∧
    1 ≤ v.left :=
  let x : State := State.reset
  let e : Eng := ⟨rn 4 % 96, by omega⟩
  let v : Inv := inv1 rn
  let w : Word := match rn 6 % 4 with | 0 => enc (0x18 + rn 3 % 2) (rn 5) 0 (rn 8) (0*1024) | 1 => enc (0x18 + rn 3 % 2) (rn 5) 0 (rn 8) (4096 + 0*1024) | 2 => enc (0x18 + rn 3 % 2) (rn 5) 0 0 (8192 + 0*1024 + rn 9 % 500) | _ => enc (0x18 + rn 3 % 2) (rn 5) 0 0 (12288 + 0*1024 + rn 9 % 1024)
  let s : State := pk x e.val w v rn
  ⟨s, e, v, w, by decide +kernel⟩

theorem witness_PickArithmetic_4 : ∃ (s : State) (e : Eng) (v : Inv) (w : Word),
    s.pickFetch e.val .neg = some (v, w) ∧
    1 ≤ v.left :=
  let x : State := State.reset
  let e : Eng := ⟨rn 4 % 96, by omega⟩
  let v : Inv := inv1 rn
  let w : Word := match rn 6 % 4 with | 0 => enc (0x18 + rn 3 % 2) (rn 5) 0 (rn 8) (1*1024) | 1 => enc (0x18 + rn 3 % 2) (rn 5) 0 (rn 8) (4096 + 1*1024) | 2 => enc (0x18 + rn 3 % 2) (rn 5) 0 0 (8192 + 1*1024 + rn 9 % 500) | _ => enc (0x18 + rn 3 % 2) (rn 5) 0 0 (12288 + 1*1024 + rn 9 % 1024)
  let s : State := pk x e.val w v rn
  ⟨s, e, v, w, by decide +kernel⟩

theorem witness_PickArithmetic_5 : ∃ (s : State) (e : Eng) (v : Inv) (w : Word),
    s.pickFetch e.val .div = some (v, w) ∧
    8 ≤ v.left :=
  let x : State := State.reset
  let e : Eng := ⟨rn 4 % 96, by omega⟩
  let v : Inv := inv1 rn
  let w : Word := match rn 6 % 4 with | 0 => enc (0x1A + rn 3 % 2) (rn 5) (rn 7) (rn 8) (0*1024) | 1 => enc (0x1A + rn 3 % 2) (rn 5) (rn 7) (rn 8) (4096 + 0*1024) | 2 => enc (0x1A + rn 3 % 2) (rn 5) (rn 7) 0 (8192 + 0*1024 + rn 9 % 500) | _ => enc (0x1A + rn 3 % 2) (rn 5) (rn 7) 0 (12288 + 0*1024 + rn 9 % 1024)
  let s : State := pk x e.val w v rn
  ⟨s, e, v, w, by decide +kernel⟩

theorem witness_PickArithmetic_6 : ∃ (s : State) (e : Eng) (v : Inv) (w : Word),
    s.pickFetch e.val .sqt = some (v, w) ∧
    8 ≤ v.left :=
  let x : State := State.reset
  let e : Eng := ⟨rn 4 % 96, by omega⟩
  let v : Inv := inv1 rn
  let w : Word := match rn 6 % 4 with | 0 => enc (0x1C + rn 3 % 2) (rn 5) 0 (rn 8) (0*1024) | 1 => enc (0x1C + rn 3 % 2) (rn 5) 0 (rn 8) (4096 + 0*1024) | 2 => enc (0x1C + rn 3 % 2) (rn 5) 0 0 (8192 + 0*1024 + rn 9 % 500) | _ => enc (0x1C + rn 3 % 2) (rn 5) 0 0 (12288 + 0*1024 + rn 9 % 1024)
  let s : State := pk x e.val w v rn
  ⟨s, e, v, w, by decide +kernel⟩

theorem witness_PickArithmetic_7 : ∃ (s : State) (e : Eng) (v : Inv) (w : Word),
    s.pickFetch e.val .mag = some (v, w) ∧
    8 ≤ v.left :=
  let x : State := State.reset
  let e : Eng := ⟨rn 4 % 96, by omega⟩
  let v : Inv := inv1 rn
  let w : Word := match rn 6 % 4 with | 0 => enc (0x1C + rn 3 % 2) (rn 5) (rn 7) (rn 8) (1*1024) | 1 => enc (0x1C + rn 3 % 2) (rn 5) (rn 7) (rn 8) (4096 + 1*1024) | 2 => enc (0x1C + rn 3 % 2) (rn 5) (rn 7) 0 (8192 + 1*1024 + rn 9 % 500) | _ => enc (0x1C + rn 3 % 2) (rn 5) (rn 7) 0 (12288 + 1*1024 + rn 9 % 1024)
  let s : State := pk x e.val w v rn
  ⟨s, e, v, w, by decide +kernel⟩

theorem witness_PickArithmetic_8 : ∃ (s : State) (e : Eng) (v : Inv) (w : Word),
    s.pickFetch e.val .pis = some (v, w) ∧
    1 ≤ v.left :=
  let x : State := State.reset
  let e : Eng := ⟨rn 4 % 96, by omega⟩
  let v : Inv := inv1 rn
  let w : Word := enc (0x20 + rn 3 % 2) (rn 5) (rn 7) (rn 8 % 13) (4096 + (rn 10 % 2) * 1024 + rn 9 % 448)
  let s : State := pk x e.val w v rn
  ⟨s, e, v, w, by decide +kernel⟩

theorem witness_PickArithmetic_9 : ∃ (s : State) (e : Eng) (v : Inv) (w : Word),
    s.pickFetch e.val .rsc = some (v, w) ∧
    1 ≤ v.left :=
  let x : State := State.reset
  let e : Eng := ⟨rn 4 % 96, by omega⟩
  let v : Inv := inv1 rn
  let w : Word := match rn 6 % 4 with | 0 => enc 0x22 (rn 5 % 2) 0 (rn 8) (0*1024) | 1 => enc 0x22 (rn 5 % 2) 0 (rn 8) (4096 + 0*1024) | 2 => enc 0x22 (rn 5 % 2) 0 0 (8192 + 0*1024 + rn 9 % 500) | _ => enc 0x22 (rn 5 % 2) 0 0 (12288 + 0*1024 + rn 9 % 1024)
  let s : State := pk x e.val w v rn
  ⟨s, e, v, w, by decide +kernel⟩

theorem witness_PickReadsAndTransforms_1 : ∃ (s : State) (e : Eng) (v : Inv) (w : Word),
    s.pickFetch e.val .acq = some (v, w) ∧
    1 ≤ v.left :=
  let x : State := State.reset
  let e : Eng := ⟨rn 4 % 96, by omega⟩
  let v : Inv := inv1 rn
  let w : Word := enc 0x01 (rn 5) (0) (rn 8 % 8) ((rn 9 % 4) * 1024)
  let s : State := (pk x e.val w v rn).wrw .PK_SLICEMAP0 (BitVec.ofNat 32 (rn 12)) e.val
  ⟨s, e, v, w, by decide +kernel⟩

theorem witness_PickReadsAndTransforms_2 : ∃ (s : State) (e : Eng) (v : Inv) (w : Word) (c j : Nat) (r : WinRes),
    s.pickFetch e.val .acq = some (v, w) ∧
    1 ≤ v.left ∧
    s.entryWindow e.val (pwB w) = some (c, j, r) :=
  let x : State := State.reset
  let e : Eng := ⟨rn 4 % 96, by omega⟩
  let v : Inv := inv1 rn
  let w : Word := enc 0x01 (rn 5) (0) (rn 8 % 4) ((rn 9 % 4) * 1024)
  let s0 : State := {((pk x e.val w v rn).wrw .PK_SLICEMAP0 0x05010400 e.val) with sense := {x.sense with slices := Vector.replicate 240 {SliceU.reset with shown := some ⟨((rn 13 % 2^31 : Nat) : Int) - 2^30, 5, false⟩}}}
  let c : Nat := ((s0.entryWindow e.val (pwB w)).getD (0,0,⟨0,0,false⟩)).1
  let j : Nat := ((s0.entryWindow e.val (pwB w)).getD (0,0,⟨0,0,false⟩)).2.1
  let r : WinRes := ((s0.entryWindow e.val (pwB w)).getD (0,0,⟨0,0,false⟩)).2.2
  let s : State := {((pk x e.val w v rn).wrw .PK_SLICEMAP0 0x05010400 e.val) with sense := {x.sense with slices := Vector.replicate 240 {SliceU.reset with shown := some ⟨((rn 13 % 2^31 : Nat) : Int) - 2^30, 5, false⟩}}}
  ⟨s, e, v, w, c, j, r, by decide +kernel⟩

theorem witness_PickReadsAndTransforms_3 : ∃ (s : State) (e : Eng) (v : Inv) (w : Word),
    s.pickFetch e.val .mmx = some (v, w) ∧
    1 ≤ v.left :=
  let x : State := State.reset
  let e : Eng := ⟨rn 4 % 96, by omega⟩
  let v : Inv := inv1 rn
  let w : Word := enc 0x02 (rn 5 % 15) (0) (rn 8 % 4) ((rn 9 % 4) * 1024)
  let s : State := (pk x e.val w v rn).wrw .PK_SLICEMAP0 0x09080908 e.val |>.wrw .SN_MMINFO 0 (2*(e.val/2)) |>.wrw .SN_MMMIN (BitVec.ofNat 32 (rn 13)) (2*(e.val/2))
  ⟨s, e, v, w, by decide +kernel⟩

theorem witness_PickReadsAndTransforms_4 : ∃ (s : State) (e : Eng) (v : Inv) (w : Word),
    s.pickFetch e.val .ang = some (v, w) ∧
    1 ≤ v.left :=
  let x : State := State.reset
  let e : Eng := ⟨rn 4 % 96, by omega⟩
  let v : Inv := inv1 rn
  let w : Word := enc 0x04 (rn 5) (rn 7 % 4) (0) (match rn 9 % 4 with | 0 => 12288 + rn 10 % 1024 | 1 => 12288 + 1024 + rn 10 % 1024 | 2 => 2048 | _ => 3072)
  let s : State := pk x e.val w v rn
  ⟨s, e, v, w, by decide +kernel⟩

theorem witness_PickReadsAndTransforms_5 : ∃ (s : State) (e : Eng) (v : Inv) (w : Word) (waits : Fin 17) (fresh : Bool),
    s.pickFetch e.val .xch = some (v, w) ∧
    (6 + 2 * waits.val + 2 * fresh.toNat) ≤ v.left ∧
    s.xchNext (e.val / 2) = some e.val ∧
    s.xchWaits e.val = waits.val :=
  let x : State := State.reset
  let e : Eng := ⟨rn 4 % 96, by omega⟩
  let v : Inv := inv1 rn
  let w : Word := enc 0x30 (rn 5) (0) (0) (rn 8 % 48 + (match rn 9 % 4 with | 0 => (rn 10 % 8) * 64 | 1 => 4096 | 2 => 8192 | _ => 12288 + (rn 10 % 64) * 64))
  let waits : Fin 17 := ⟨rn 14 % 17, by omega⟩
  let fresh : Bool := rn 92 % 2 == 0
  let s : State := (pk x e.val w v rn).updPort e.val (fun _ => ⟨waits.val, rn 15 % 16, []⟩)
  ⟨s, e, v, w, waits, fresh, by decide +kernel⟩

theorem witness_PickReadsAndTransforms_6 : ∃ (s : State) (e : Eng) (v : Inv) (w : Word),
    s.pickFetch e.val .uhxRead = some (v, w) ∧
    2 ≤ v.left :=
  let x : State := State.reset
  let e : Eng := ⟨rn 4 % 96, by omega⟩
  let v : Inv := inv1 rn
  let w : Word := enc 0x31 (rn 5) (0) (0) (rn 8 % 256)
  let s : State := pk x e.val w v rn
  ⟨s, e, v, w, by decide +kernel⟩

theorem witness_PickReadsAndTransforms_7 : ∃ (s : State) (e : Eng) (v : Inv) (w : Word),
    s.pickFetch e.val .scs = some (v, w) ∧
    4 ≤ v.left :=
  let x : State := State.reset
  let e : Eng := ⟨rn 4 % 96, by omega⟩
  let v : Inv := inv1 rn
  let w : Word := enc 0x05 (rn 5 % 15) (rn 7) (0) (0)
  let s : State := pk x e.val w v rn
  ⟨s, e, v, w, by decide +kernel⟩

theorem witness_PickReadsAndTransforms_8 : ∃ (s : State) (e : Eng) (v : Inv) (w : Word),
    s.pickFetch e.val .clk = some (v, w) ∧
    1 ≤ v.left :=
  let x : State := State.reset
  let e : Eng := ⟨rn 4 % 96, by omega⟩
  let v : Inv := inv1 rn
  let w : Word := enc 0x08 (rn 5 % 15) (rn 7) (rn 8 % 15) ((rn 9 % 2) * 1024)
  let s : State := pk x e.val w v rn
  ⟨s, e, v, w, by decide +kernel⟩

theorem witness_PickReadsAndTransforms_9 : ∃ (s : State) (e : Eng) (v : Inv) (w : Word),
    s.pickFetch e.val .prk = some (v, w) ∧
    1 ≤ v.left :=
  let x : State := State.reset
  let e : Eng := ⟨rn 4 % 96, by omega⟩
  let v : Inv := inv1 rn
  let w : Word := enc 0x09 (rn 5 % 15) (rn 7 % 15) (rn 8 % 15) ((rn 9 % 2) * 512)
  let s : State := pk x e.val w v rn
  ⟨s, e, v, w, by decide +kernel⟩

theorem witness_PickReadsAndTransforms_10 : ∃ (s : State) (e : Eng) (v : Inv) (w : Word),
    s.pickFetch e.val .ipk = some (v, w) ∧
    1 ≤ v.left :=
  let x : State := State.reset
  let e : Eng := ⟨rn 4 % 96, by omega⟩
  let v : Inv := inv1 rn
  let w : Word := enc 0x0A (rn 5 % 15) (rn 7 % 15) (rn 8 % 15) ((rn 9 % 2) * 512 + (rn 10 % 4) * 1024)
  let s : State := pk x e.val w v rn
  ⟨s, e, v, w, by decide +kernel⟩

theorem witness_PickOutputs_1 : ∃ (s : State) (e : Eng) (v : Inv) (w : Word),
    s.pickFetch e.val .outSlot = some (v, w) ∧
    1 ≤ v.left :=
  let x : State := State.reset
  let e : Eng := ⟨rn 4 % 96, by omega⟩
  let v : Inv := inv1 rn
  let w : Word := enc 0x28 (rn 5 % 8) (rn 7) (0) (0)
  let s : State := pk x e.val w v rn
  ⟨s, e, v, w, by decide +kernel⟩

theorem witness_PickOutputs_2 : ∃ (s : State) (e : Eng) (v : Inv) (w : Word),
    s.pickFetch e.val .outInc = some (v, w) ∧
    1 ≤ v.left ∧
    (s.dom (pwD w)).src = srcPick ∧
    s.get HF_DOMCTL_PICKCELL (pwD w) = e.val / 2 ∧
    s.cellLive (e.val / 2) = true :=
  let x : State := State.reset
  let e : Eng := ⟨rn 4 % 96, by omega⟩
  let v : Inv := inv1 rn
  let w : Word := enc 0x28 (rn 5 % 4) (rn 7) (0) (4096)
  let s : State := (((pk x e.val w v rn).updDom (pwD w) (fun u => {u with src := 2})).put HF_DOMCTL_PICKCELL (e.val/2) (pwD w)).put HF_DOMSTAT_STATE (1 + rn 12 % 4) (pwD w) |>.wrw .BLK_BLKCELLS0 0xFFFFFFFF 0 |>.wrw .BLK_BLKCELLS1 0xFFFF 0 |>.put BLK_BLKCTL_STATE 2 0
  ⟨s, e, v, w, by decide +kernel⟩

theorem witness_PickOutputs_3 : ∃ (s : State) (e : Eng) (v : Inv) (w : Word),
    s.pickFetch e.val .outInc = some (v, w) ∧
    1 ≤ v.left ∧
    (¬ ((s.dom (pwD w)).src = srcPick ∧ s.get HF_DOMCTL_PICKCELL (pwD w) = e.val / 2 ∧ s.cellLive (e.val / 2) = true)) :=
  let x : State := State.reset
  let e : Eng := ⟨rn 4 % 96, by omega⟩
  let v : Inv := inv1 rn
  let w : Word := enc 0x28 (rn 5 % 4) (rn 7) (0) (4096)
  let s : State := (pk x e.val w v rn).updDom (pwD w) (fun u => {u with src := 3})
  ⟨s, e, v, w, by decide +kernel⟩

theorem witness_PickOutputs_4 : ∃ (s : State) (e : Eng) (v : Inv) (w : Word),
    s.pickFetch e.val .outStep = some (v, w) ∧
    1 ≤ v.left ∧
    (s.dom (pwD w)).src = srcPick ∧
    s.get HF_DOMCTL_PICKCELL (pwD w) = e.val / 2 ∧
    s.cellLive (e.val / 2) = true :=
  let x : State := State.reset
  let e : Eng := ⟨rn 4 % 96, by omega⟩
  let v : Inv := inv1 rn
  let w : Word := enc 0x28 (rn 5 % 4) (rn 7) (rn 8) (8192)
  let s : State := (((pk x e.val w v rn).updDom (pwD w) (fun u => {u with src := 2})).put HF_DOMCTL_PICKCELL (e.val/2) (pwD w)).put HF_DOMSTAT_STATE (1 + rn 12 % 4) (pwD w) |>.wrw .BLK_BLKCELLS0 0xFFFFFFFF 0 |>.wrw .BLK_BLKCELLS1 0xFFFF 0 |>.put BLK_BLKCTL_STATE 2 0
  ⟨s, e, v, w, by decide +kernel⟩

theorem witness_PickOutputs_5 : ∃ (s : State) (e : Eng) (v : Inv) (w : Word),
    s.pickFetch e.val .outStep = some (v, w) ∧
    1 ≤ v.left ∧
    (¬ ((s.dom (pwD w)).src = srcPick ∧ s.get HF_DOMCTL_PICKCELL (pwD w) = e.val / 2 ∧ s.cellLive (e.val / 2) = true)) :=
  let x : State := State.reset
  let e : Eng := ⟨rn 4 % 96, by omega⟩
  let v : Inv := inv1 rn
  let w : Word := enc 0x28 (rn 5 % 4) (rn 7) (rn 8) (8192)
  let s : State := (pk x e.val w v rn).updDom (pwD w) (fun u => {u with src := 3})
  ⟨s, e, v, w, by decide +kernel⟩

theorem witness_PickOutputs_6 : ∃ (s : State) (e : Eng) (v : Inv) (w : Word),
    s.pickFetch e.val .duty = some (v, w) ∧
    1 ≤ v.left ∧
    s.get PK_ARBCTL_DEST (e.val / 2) ≠ 1 ∧
    s.get PK_ARBCTL_DEST (e.val / 2) ≠ 2 ∧
    s.on PW_CHCTL_FORM (e.val / 2) = decide (pwOpt w = 2) :=
  let x : State := State.reset
  let e : Eng := ⟨rn 4 % 96, by omega⟩
  let v : Inv := inv1 rn
  let w : Word := enc 0x29 (0) (rn 7) (0) ((rn 9 % 3) * 1024)
  let s : State := (pk x e.val w v rn).put PK_ARBCTL_DEST 0 (e.val/2) |>.put PW_CHCTL_FORM (decide (pwOpt w = 2)).toNat (e.val/2)
  ⟨s, e, v, w, by decide +kernel⟩

theorem witness_PickOutputs_7 : ∃ (s : State) (e : Eng) (v : Inv) (w : Word),
    s.pickFetch e.val .duty = some (v, w) ∧
    1 ≤ v.left ∧
    s.get PK_ARBCTL_DEST (e.val / 2) ≠ 1 ∧
    s.get PK_ARBCTL_DEST (e.val / 2) ≠ 2 ∧
    s.on PW_CHCTL_FORM (e.val / 2) = !decide (pwOpt w = 2) :=
  let x : State := State.reset
  let e : Eng := ⟨rn 4 % 96, by omega⟩
  let v : Inv := inv1 rn
  let w : Word := enc 0x29 (0) (rn 7) (0) ((rn 9 % 3) * 1024)
  let s : State := (pk x e.val w v rn).put PK_ARBCTL_DEST 0 (e.val/2) |>.put PW_CHCTL_FORM (1 - (decide (pwOpt w = 2)).toNat) (e.val/2)
  ⟨s, e, v, w, by decide +kernel⟩

theorem witness_PickOutputs_8 : ∃ (s : State) (e : Eng) (v : Inv) (w : Word),
    s.pickFetch e.val .duty = some (v, w) ∧
    1 ≤ v.left ∧
    (s.get PK_ARBCTL_DEST (e.val / 2) = 1 ∨ s.get PK_ARBCTL_DEST (e.val / 2) = 2) :=
  let x : State := State.reset
  let e : Eng := ⟨rn 4 % 96, by omega⟩
  let v : Inv := inv1 rn
  let w : Word := enc 0x29 (0) (rn 7) (0) ((rn 9 % 3) * 1024)
  let s : State := (pk x e.val w v rn).put PK_ARBCTL_DEST (1 + rn 12 % 2) (e.val/2)
  ⟨s, e, v, w, by decide +kernel⟩

theorem witness_PickOutputs_9 : ∃ (s : State) (e : Eng) (v : Inv) (w : Word),
    s.pickFetch e.val .evtEvent = some (v, w) ∧
    1 ≤ v.left ∧
    s.routed (64 + e.val / 2) = true :=
  let x : State := State.reset
  let e : Eng := ⟨rn 4 % 96, by omega⟩
  let v : Inv := inv1 rn
  let w : Word := enc 0x2A (0) (0) (0) (0)
  let s : State := (pk x e.val w v rn).put IC_SRCCFG_TARGET (rn 9 % 17) (64 + e.val/2)
  ⟨s, e, v, w, by decide +kernel⟩

theorem witness_PickOutputs_10 : ∃ (s : State) (e : Eng) (v : Inv) (w : Word),
    s.pickFetch e.val .evtTrigger = some (v, w) ∧
    1 ≤ v.left ∧
    s.released uSeam = true ∧
    s.on SE_TRGCTL_EN (bits w 0 4) = true ∧
    s.get SE_CAPSTAT_STATE (bits w 0 4) = capIdle ∧
    s.heldMb < 288 :=
  let x : State := State.reset
  let e : Eng := ⟨rn 4 % 96, by omega⟩
  let v : Inv := inv1 rn
  let w : Word := enc 0x2A (0) (0) (0) (4096 + rn 9 % 16)
  let s : State := (List.range 16).foldl (fun s k => s.put SE_CAPSTAT_STATE 0 k) (pk x e.val w v rn) |>.wrw .RS_RSTREL 0xFFFFFF |>.put SE_TRGCTL_EN 1 (bits w 0 4)
  ⟨s, e, v, w, by decide +kernel⟩

theorem witness_PickOutputs_11 : ∃ (s : State) (e : Eng) (v : Inv) (w : Word) (x0 : Nat),
    s.pickFetch e.val .evtMarker = some (v, w) ∧
    1 ≤ v.left ∧
    s.streamOn (e.val / 2) = true ∧
    bit (BitVec.ofNat 32 (s.get SE_STRCFG_SEL (e.val / 2))) 4 = true ∧
    (s.streamU (e.val / 2)).dropped = 0 ∧
    (s.streamU (e.val / 2)).lastTime = some x0 ∧
    s.now - x0 ≤ 262143 ∧
    s.on SE_STRSTAT_OPEN (e.val / 2) = true ∧
    (s.streamU (e.val / 2)).burst.length + 16 < 256 :=
  let x : State := State.reset
  let e : Eng := ⟨rn 4 % 96, by omega⟩
  let v : Inv := inv1 rn
  let w : Word := enc 0x2A (0) (rn 7) (0) (8192)
  let x0 : Nat := x.now
  let s : State := (((((pk x e.val w v rn).put SE_SCTL_EN 1).put SE_STRCFG_EN 1 (e.val/2)).put SE_STRCFG_SEL 31 (e.val/2)).put SE_STRSTAT_OPEN 1 (e.val/2) |>.wrw .RS_RSTREL 0xFFFFFF).updStream (e.val/2) (fun u => {u with dropped := 0, lastTime := some x.now, burst := List.replicate (rn 6 % 240) 3})
  ⟨s, e, v, w, x0, by decide +kernel⟩

theorem witness_PickOutputs_12 : ∃ (s : State) (e : Eng) (v : Inv) (w : Word),
    s.pickFetch e.val .uhxWrite = some (v, w) ∧
    2 ≤ v.left ∧
    s.sources (bits w 0 8) = true ∧
    s.on UH_USVCFG_SRC (bits w 0 8) = false ∧
    s.get UH_USVCFG_ID (bits w 0 8) = e.val / 2 :=
  let x : State := State.reset
  let e : Eng := ⟨rn 4 % 96, by omega⟩
  let v : Inv := inv1 rn
  let w : Word := enc 0x31 (0) (rn 7) (0) (4096 + rn 8 % 256)
  let s : State := (pk x e.val w v rn).put UH_USVCFG_EN 1 (bits w 0 8) |>.put UH_USVCFG_SRC 0 (bits w 0 8) |>.put UH_USVCFG_ID (e.val/2) (bits w 0 8)
  ⟨s, e, v, w, by decide +kernel⟩

theorem witness_PickOutputs_13 : ∃ (s : State) (e : Eng) (v : Inv) (w : Word),
    s.pickFetch e.val .uhxWrite = some (v, w) ∧
    2 ≤ v.left ∧
    (¬ (s.sources (bits w 0 8) = true ∧ s.on UH_USVCFG_SRC (bits w 0 8) = false ∧ s.get UH_USVCFG_ID (bits w 0 8) = e.val / 2)) :=
  let x : State := State.reset
  let e : Eng := ⟨rn 4 % 96, by omega⟩
  let v : Inv := inv1 rn
  let w : Word := enc 0x31 (0) (rn 7) (0) (4096 + rn 8 % 256)
  let s : State := (pk x e.val w v rn).put UH_USVCFG_EN 0 (bits w 0 8)
  ⟨s, e, v, w, by decide +kernel⟩

theorem witness_PickFlow_1 : ∃ (s : State) (e : Eng) (v : Inv) (w : Word),
    s.pickFetch e.val .brf = some (v, w) ∧
    ((if v.single = true then 0 else 1) ≤ v.left) :=
  let x : State := State.reset
  let e : Eng := ⟨rn 4 % 96, by omega⟩
  let v : Inv := inv1 rn
  let w : Word := enc 0x38 (0) (0) (0) ((rn 9 % 11) * 1024 + rn 8 % 1000)
  let s : State := pk x e.val w v rn
  ⟨s, e, v, w, by decide +kernel⟩

theorem witness_PickFlow_2 : ∃ (s : State) (e : Eng) (v : Inv) (w : Word),
    s.pickFetch e.val .loop = some (v, w) ∧
    1 ≤ v.left :=
  let x : State := State.reset
  let e : Eng := ⟨rn 4 % 96, by omega⟩
  let v : Inv := inv1 rn
  let w : Word := enc 0x39 (0) (0) (0) (rn 9 % 16384)
  let s : State := pk x e.val w v rn
  ⟨s, e, v, w, by decide +kernel⟩

theorem witness_PickFlow_3 : ∃ (s : State) (e : Eng) (v : Inv) (w : Word),
    s.pickFetch e.val .end_ = some (v, w) ∧
    1 ≤ v.left :=
  let x : State := State.reset
  let e : Eng := ⟨rn 4 % 96, by omega⟩
  let v : Inv := inv1 rn
  let w : Word := enc 0x3F (0) (0) (0) (0)
  let s : State := pk x e.val w v rn
  ⟨s, e, v, w, by decide +kernel⟩

theorem witness_PickFlow_4 : ∃ (s : State) (e : Eng) (v : Inv) (w : Word),
    s.pickFetch e.val .discard = some (v, w) ∧
    1 ≤ v.left :=
  let x : State := State.reset
  let e : Eng := ⟨rn 4 % 96, by omega⟩
  let v : Inv := inv1 rn
  let w : Word := enc 0x3F (0) (0) (0) (1)
  let s : State := pk x e.val w v rn
  ⟨s, e, v, w, by decide +kernel⟩

theorem witness_PickFlow_5 : ∃ (s : State) (e : Eng) (v : Inv) (w : Word),
    s.pickWord e.val = some (v, w) ∧
    pickDecode w v.pc v.loop.isSome = none ∧
    1 ≤ v.left :=
  let x : State := State.reset
  let e : Eng := ⟨rn 4 % 96, by omega⟩
  let v : Inv := inv1 rn
  let w : Word := 0
  let s : State := (pk x e.val w v rn).put IC_SRCCFG_TARGET (rn 9 % 17) 112
  ⟨s, e, v, w, by decide +kernel⟩

theorem witness_PickFlow_6 : ∃ (s : State) (e : Eng) (waits : Fin 17) (fresh : Bool),
    s.outOfBudget e.val waits.val fresh = true :=
  let x : State := State.reset
  let e : Eng := ⟨rn 4 % 96, by omega⟩
  let waits : Fin 17 := ⟨rn 14 % 17, by omega⟩
  let fresh : Bool := rn 92 % 2 == 0
  let s : State := (pk x e.val (enc 0x1A 0 0 0 0) {inv1 rn with left := rn 9 % 8} rn).put IC_SRCCFG_TARGET (rn 9 % 17) 112
  ⟨s, e, waits, fresh, by decide +kernel⟩

theorem witness_PickRegistersAreWritten_1 : ∃ (s : State) (m : Master) (e : Eng) (n : Fin 64) (v : Word),
    s.busOpen m = true ∧
    s.engExists e.val = true ∧
    s.mayWriteCell m (e.val / 2) = true :=
  let x : State := State.reset
  let m : Master := .pair ⟨rn 110 % 16, by omega⟩
  let e : Eng := ⟨2 * (rn 4 % 48), by omega⟩
  let n : Fin 64 := ⟨rn 5 % 64, by omega⟩
  let v : Word := BitVec.ofNat 32 (rn 91)
  let s : State := (List.range 8).foldl (fun s b => (s.put BLK_BLKCTL_OWNED 0 b).put BLK_BLKCTL_STATE 0 b) (x.wrw .RS_RSTREL 0xFFFFFF) |>.put PK_PARAMGO_GO (rn 6 % 2) e.val
  ⟨s, m, e, n, v, by decide +kernel⟩

theorem witness_PickRegistersAreWritten_2 : ∃ (s : State) (m : Master) (e : Eng) (v : Word),
    s.busOpen m = true ∧
    s.engExists e.val = true ∧
    s.mayWriteCell m (e.val / 2) = true :=
  let x : State := State.reset
  let m : Master := .pair ⟨rn 110 % 16, by omega⟩
  let e : Eng := ⟨2 * (rn 4 % 48), by omega⟩
  let v : Word := BitVec.ofNat 32 (rn 91)
  let s : State := (List.range 8).foldl (fun s b => (s.put BLK_BLKCTL_OWNED 0 b).put BLK_BLKCTL_STATE 0 b) (x.wrw .RS_RSTREL 0xFFFFFF)
  ⟨s, m, e, v, by decide +kernel⟩

theorem witness_PickRegistersAreWritten_3 : ∃ (s : State) (m : Master) (e : Eng) (hi : Bool) (v : Word),
    s.busOpen m = true ∧
    s.engExists e.val = true ∧
    s.mayWriteCell m (e.val / 2) = true :=
  let x : State := State.reset
  let m : Master := .pair ⟨rn 110 % 16, by omega⟩
  let e : Eng := ⟨2 * (rn 4 % 48), by omega⟩
  let hi : Bool := rn 92 % 2 == 0
  let v : Word := if rn 8 % 3 = 0 then 0xFF010405#32 else if rn 8 % 3 = 1 then 0x0001FF08#32 else BitVec.ofNat 32 (rn 9)
  let s : State := (List.range 8).foldl (fun s b => (s.put BLK_BLKCTL_OWNED 0 b).put BLK_BLKCTL_STATE 0 b) (x.wrw .RS_RSTREL 0xFFFFFF)
  ⟨s, m, e, hi, v, by decide +kernel⟩

theorem witness_PickRegistersAreWritten_4 : ∃ (s : State) (m : Master) (c : Cell) (v : Word),
    s.busOpen m = true ∧
    s.mayWriteCell m c.val = true ∧
    s.cellStopped c.val = true ∧
    (s.routesOk (fun k => if k = c.val then keeping (s.rdw .PK_ARBCTL c.val) v (~~~arbRouteMask) else s.rdw .PK_ARBCTL k) = true) ∧
    (¬ (PK_ARBCTL_DEST.of v = 2 ∧ PK_ARBCTL_FMT.of v = 0)) :=
  let x : State := State.reset
  let m : Master := .pair ⟨rn 110 % 16, by omega⟩
  let c : Cell := ⟨rn 4 % 48, by omega⟩
  let v : Word := PK_ARBCTL_DEST.into (BitVec.ofNat 32 (rn 6)) 1
  let s : State := (List.range 48).foldl (fun s c => s.wrw .PK_ARBCTL 0 c) ((List.range 8).foldl (fun s b => (s.put BLK_BLKCTL_OWNED 0 b).put BLK_BLKCTL_STATE 0 b) (x.wrw .RS_RSTREL 0xFFFFFF))
  ⟨s, m, c, v, by decide +kernel⟩

theorem witness_PickRegistersAreWritten_5 : ∃ (s : State) (m : Master) (c : Cell) (v : Word),
    s.busOpen m = true ∧
    s.mayWriteCell m c.val = true ∧
    (s.cellStopped c.val = false ∨ s.routesOk (fun k => if k = c.val then keeping (s.rdw .PK_ARBCTL c.val) v (~~~arbRouteMask) else s.rdw .PK_ARBCTL k) = false) ∧
    (¬ (PK_ARBCTL_DEST.of v = 2 ∧ PK_ARBCTL_FMT.of v = 0)) :=
  let x : State := State.reset
  let m : Master := .pair ⟨rn 110 % 16, by omega⟩
  let c : Cell := ⟨rn 4 % 48, by omega⟩
  let v : Word := PK_ARBCTL_DEST.into (BitVec.ofNat 32 (rn 6)) 1
  let s : State := (List.range 8).foldl (fun s b => (s.put BLK_BLKCTL_OWNED 0 b).put BLK_BLKCTL_STATE 2 b) (x.wrw .RS_RSTREL 0xFFFFFF) |>.wrw .BLK_BLKCELLS0 0xFFFFFFFF 0 |>.wrw .BLK_BLKCELLS1 0xFFFF 0
  ⟨s, m, c, v, by decide +kernel⟩

theorem witness_PickRegistersAreWritten_6 : ∃ (s : State) (m : Master) (c : Cell) (v : Word),
    s.busOpen m = true ∧
    s.mayWriteCell m c.val = true ∧
    PK_ARBCTL_DEST.of v = 2 ∧
    PK_ARBCTL_FMT.of v = 0 :=
  let x : State := State.reset
  let m : Master := .pair ⟨rn 110 % 16, by omega⟩
  let c : Cell := ⟨rn 4 % 48, by omega⟩
  let v : Word := PK_ARBCTL_FMT.into (PK_ARBCTL_DEST.into (BitVec.ofNat 32 (rn 6)) 2) 0
  let s : State := (List.range 48).foldl (fun s c => s.wrw .PK_ARBCTL 0 c) ((List.range 8).foldl (fun s b => (s.put BLK_BLKCTL_OWNED 0 b).put BLK_BLKCTL_STATE 0 b) (x.wrw .RS_RSTREL 0xFFFFFF))
  ⟨s, m, c, v, by decide +kernel⟩

theorem witness_PickProgramsLoadAndStart_1 : ∃ (s : State) (m : Master) (e : Eng) (v : Word) (k : Nat) (p : PickProgram),
    s.busOpen m = true ∧
    s.engExists e.val = true ∧
    s.mayWriteCell m (e.val / 2) = true ∧
    s.cellStopped (e.val / 2) = true ∧
    s.released uPick = true ∧
    s.pick.set.find? (fun x => x.1 == PK_PCTL_PROGSEL.of v) = some (k, p) ∧
    p.valid = true :=
  let x : State := State.reset
  let m : Master := .pair ⟨rn 110 % 16, by omega⟩
  let e : Eng := ⟨2 * (rn 4 % 48), by omega⟩
  let v : Word := BitVec.ofNat 32 (rn 91)
  let k : Nat := PK_PCTL_PROGSEL.of v
  let p : PickProgram := prog1 9 rn
  let s : State := {(List.range 8).foldl (fun s b => (s.put BLK_BLKCTL_OWNED 0 b).put BLK_BLKCTL_STATE 0 b) (x.wrw .RS_RSTREL 0xFFFFFF) with pick := {x.pick with set := [(PK_PCTL_PROGSEL.of v, prog1 9 rn)], loads := [3, 5] }}
  ⟨s, m, e, v, k, p, by decide +kernel⟩

theorem witness_PickProgramsLoadAndStart_2 : ∃ (s : State) (m : Master) (e : Eng) (v : Word),
    s.busOpen m = true ∧
    s.engExists e.val = true ∧
    s.mayWriteCell m (e.val / 2) = true ∧
    (s.cellStopped (e.val / 2) = false ∨ s.released uPick = false ∨ (s.pick.set.find? (fun x => x.1 == PK_PCTL_PROGSEL.of v)).all (fun x => !x.2.valid) = true) :=
  let x : State := State.reset
  let m : Master := .pair ⟨rn 110 % 16, by omega⟩
  let e : Eng := ⟨2 * (rn 4 % 48), by omega⟩
  let v : Word := BitVec.ofNat 32 (rn 91)
  let s : State := {(List.range 8).foldl (fun s b => (s.put BLK_BLKCTL_OWNED 0 b).put BLK_BLKCTL_STATE 0 b) (x.wrw .RS_RSTREL 0xFFFFFF) with pick := {x.pick with set := [], loads := [3, 5] }}
  ⟨s, m, e, v, by decide +kernel⟩

theorem witness_PickProgramsLoadAndStart_3 : ∃ (s : State) (e : Eng) (p : PickProgram),
    s.pick.loads.head? = some e.val ∧
    (s.eng e.val).load = some p :=
  let x : State := State.reset
  let e : Eng := ⟨2 * (rn 4 % 48), by omega⟩
  let p : PickProgram := prog1 9 rn
  let s : State := {x.updEng e.val (fun u => {u with load := some (prog1 9 rn)}) with pick := {(x.updEng e.val (fun u => {u with load := some (prog1 9 rn)})).pick with loads := [e.val, 5]}}
  ⟨s, e, p, by decide +kernel⟩

theorem witness_PickProgramsLoadAndStart_4 : ∃ (s : State) (e : Eng) (k : Fin 3) (r : Req) (p : PickProgram) (v0 : Inv),
    s.canStart e.val = true ∧
    (s.eng e.val).pend[k] = some r ∧
    (∀ j : Fin 3, (s.eng e.val).pend[j].all (fun q => j == k || decide (r.since < q.since) || decide (r.since = q.since ∧ k < j)) = true) ∧
    (s.eng e.val).prog = some p :=
  let x : State := State.reset
  let e : Eng := ⟨2 * (rn 4 % 48), by omega⟩
  let k : Fin 3 := ⟨rn 5 % 3, by omega⟩
  let r : Req := ⟨5, rn 6 % 2 == 0, 3, true, Vector.replicate 4 9⟩
  let p : PickProgram := prog1 9 rn
  let v0 : Inv := inv1 rn
  let s : State := ((((x.wrw .RS_RSTREL 0xFFFFFF).put PK_PCTL_LOADED 1 e.val).put PK_PSTAT_RESYNC 0 e.val).wrw .BLK_BLKCELLS0 0xFFFFFFFF 0 |>.wrw .BLK_BLKCELLS1 0xFFFF 0 |>.put BLK_BLKCTL_STATE (1 + rn 7 % 3) 0).updEng e.val (fun u => {u with run := none, stopped := false, prog := some (prog1 9 rn), data := [(5, 7#32), (450, 8#32)], pend := ((Vector.replicate 3 none).set 2 (some ⟨9, false, 3, true, Vector.replicate 4 9⟩)).set k.val (some ⟨5, rn 6 % 2 == 0, 3, true, Vector.replicate 4 9⟩)})
  ⟨s, e, k, r, p, v0, by decide +kernel⟩

theorem witness_PickProgramsLoadAndStart_5 : ∃ (s : State) (c : Cell) (d : Nat) (j : Fin 8),
    (s.arb c.val).due.head? = some d ∧
    s.deliveriesHeld c.val = false ∧
    s.bitOf PK_ARBCTL_SLOTEN j.val c.val = true ∧
    (∀ i : Fin 8, s.bitOf PK_ARBCTL_SLOTEN i.val c.val = true → (s.rdw .PK_SLOTVAL c.val j.val).toInt < (s.rdw .PK_SLOTVAL c.val i.val).toInt ∨ ((s.rdw .PK_SLOTVAL c.val j.val).toInt = (s.rdw .PK_SLOTVAL c.val i.val).toInt ∧ j ≤ i)) :=
  let x : State := State.reset
  let c : Cell := ⟨rn 4 % 48, by omega⟩
  let d : Nat := x.now + rn 6 % 9
  let s0 : State := ((x.put PK_ARBCTL_SLOTEN (1 + rn 5 % 255) c.val).put PK_PSTAT_RESYNC 0 (2*c.val) |>.put PK_PSTAT_RESYNC 0 (2*c.val+1) |>.put PK_ARBCTL_DEST (rn 8 % 4) c.val |>.put PK_ARBCTL_DESTCELL (rn 9 % 48) c.val |>.put PW_CHCTL_FORM (rn 10 % 2) c.val).updArb c.val (fun u => {u with due := [x.now + rn 6 % 9, x.now + 50], winner := if rn 11 % 2 = 0 then none else some 3})
  let j : Fin 8 := ⟨(s0.winnerOf c.val).getD 0 % 8, by omega⟩
  let s : State := ((x.put PK_ARBCTL_SLOTEN (1 + rn 5 % 255) c.val).put PK_PSTAT_RESYNC 0 (2*c.val) |>.put PK_PSTAT_RESYNC 0 (2*c.val+1) |>.put PK_ARBCTL_DEST (rn 8 % 4) c.val |>.put PK_ARBCTL_DESTCELL (rn 9 % 48) c.val |>.put PW_CHCTL_FORM (rn 10 % 2) c.val).updArb c.val (fun u => {u with due := [x.now + rn 6 % 9, x.now + 50], winner := if rn 11 % 2 = 0 then none else some 3})
  ⟨s, c, d, j, by decide +kernel⟩

theorem witness_PickProgramsLoadAndStart_6 : ∃ (s : State) (c : Cell) (d : Nat) (j : Fin 8),
    (s.arb c.val).due.head? = some d ∧
    s.deliveriesHeld c.val = true ∧
    s.bitOf PK_ARBCTL_SLOTEN j.val c.val = true ∧
    (∀ i : Fin 8, s.bitOf PK_ARBCTL_SLOTEN i.val c.val = true → (s.rdw .PK_SLOTVAL c.val j.val).toInt < (s.rdw .PK_SLOTVAL c.val i.val).toInt ∨ ((s.rdw .PK_SLOTVAL c.val j.val).toInt = (s.rdw .PK_SLOTVAL c.val i.val).toInt ∧ j ≤ i)) :=
  let x : State := State.reset
  let c : Cell := ⟨rn 4 % 48, by omega⟩
  let d : Nat := x.now + rn 6 % 9
  let s0 : State := ((x.put PK_ARBCTL_SLOTEN (1 + rn 5 % 255) c.val).put PK_PSTAT_RESYNC 1 (2*c.val) |>.put PK_PSTAT_RESYNC 0 (2*c.val+1) |>.put PK_ARBCTL_DEST (rn 8 % 4) c.val |>.put PK_ARBCTL_DESTCELL (rn 9 % 48) c.val |>.put PW_CHCTL_FORM (rn 10 % 2) c.val).updArb c.val (fun u => {u with due := [x.now + rn 6 % 9, x.now + 50], winner := if rn 11 % 2 = 0 then none else some 3})
  let j : Fin 8 := ⟨(s0.winnerOf c.val).getD 0 % 8, by omega⟩
  let s : State := ((x.put PK_ARBCTL_SLOTEN (1 + rn 5 % 255) c.val).put PK_PSTAT_RESYNC 1 (2*c.val) |>.put PK_PSTAT_RESYNC 0 (2*c.val+1) |>.put PK_ARBCTL_DEST (rn 8 % 4) c.val |>.put PK_ARBCTL_DESTCELL (rn 9 % 48) c.val |>.put PW_CHCTL_FORM (rn 10 % 2) c.val).updArb c.val (fun u => {u with due := [x.now + rn 6 % 9, x.now + 50], winner := if rn 11 % 2 = 0 then none else some 3})
  ⟨s, c, d, j, by decide +kernel⟩

theorem witness_PickProgramsLoadAndStart_7 : ∃ (s : State) (c : Cell) (d : Nat),
    (s.arb c.val).due.head? = some d ∧
    s.get PK_ARBCTL_SLOTEN c.val = 0 :=
  let x : State := State.reset
  let c : Cell := ⟨rn 4 % 48, by omega⟩
  let d : Nat := x.now + rn 6 % 9
  let s : State := (x.put PK_ARBCTL_SLOTEN 0 c.val).updArb c.val (fun u => {u with due := [x.now + rn 6 % 9, x.now + 50]})
  ⟨s, c, d, by decide +kernel⟩

theorem witness_PickPairsResync_1 : ∃ (s : State) (e : Eng) (cause : Fin 3),
    s.engExists e.val = true ∧
    s.released uPick = true ∧
    (s.eng e.val).stopped = false ∧
    cause ≠ 2 ∧
    s.pickSplit (e.val / 2) = false ∧
    s.on PK_PSTAT_RESYNC e.val = false :=
  let x : State := State.reset
  let e : Eng := ⟨2 * (rn 4 % 48), by omega⟩
  let cause : Fin 3 := ⟨rn 5 % 2, by omega⟩
  let s : State := (x.wrw .RS_RSTREL 0xFFFFFF).put PK_PSTAT_RESYNC 0 e.val |>.wrw .BLK_BLKCELLS0 0xFFFFFFFF 0 |>.wrw .BLK_BLKCELLS1 0xFFFF 0 |>.wrw .RS_OPTIMG 0 1 |>.wrw .RS_OPTIMG 0 2
  ⟨s, e, cause, by decide +kernel⟩

theorem witness_PickPairsResync_2 : ∃ (s : State) (e : Eng),
    s.engExists e.val = true ∧
    s.released uPick = true ∧
    (s.eng e.val).stopped = false ∧
    s.pickSplit (e.val / 2) = true ∧
    s.on PK_PSTAT_RESYNC e.val = false :=
  let x : State := State.reset
  let e : Eng := ⟨rn 4 % 96, by omega⟩
  let s : State := (x.wrw .RS_RSTREL 0xFFFFFF).put PK_PSTAT_RESYNC 0 e.val |>.wrw .BLK_BLKCELLS0 0xFFFFFFFF 0 |>.wrw .BLK_BLKCELLS1 0xFFFF 0 |>.wrw .RS_OPTIMG 0xFFFFFFFF 1 |>.wrw .RS_OPTIMG 0xFFFFFFFF 2
  ⟨s, e, by decide +kernel⟩

theorem witness_PickPairsResync_3 : ∃ (s : State) (e : Eng),
    s.engExists e.val = true ∧
    s.released uPick = true ∧
    (s.eng e.val).stopped = false :=
  let x : State := State.reset
  let e : Eng := ⟨2 * (rn 4 % 48), by omega⟩
  let s : State := (x.wrw .RS_RSTREL 0xFFFFFF).put PK_PSTAT_RESYNC 0 e.val |>.wrw .BLK_BLKCELLS0 0xFFFFFFFF 0 |>.wrw .BLK_BLKCELLS1 0xFFFF 0
  ⟨s, e, by decide +kernel⟩

theorem witness_PickPairsResync_4 : ∃ (s : State) (e : Eng) (cause : Fin 3),
    s.engExists e.val = true ∧
    s.released uPick = true ∧
    (s.eng e.val).stopped = false ∧
    cause ≠ 2 ∧
    s.pickSplit (e.val / 2) = false ∧
    s.on PK_PSTAT_RESYNC e.val = true :=
  let x : State := State.reset
  let e : Eng := ⟨2 * (rn 4 % 48), by omega⟩
  let cause : Fin 3 := ⟨rn 5 % 2, by omega⟩
  let s : State := (x.wrw .RS_RSTREL 0xFFFFFF).put PK_PSTAT_RESYNC 1 e.val |>.wrw .BLK_BLKCELLS0 0xFFFFFFFF 0 |>.wrw .BLK_BLKCELLS1 0xFFFF 0 |>.wrw .RS_OPTIMG 0 1 |>.wrw .RS_OPTIMG 0 2
  ⟨s, e, cause, by decide +kernel⟩

theorem witness_PickPairsResync_5 : ∃ (s : State) (e : Eng),
    s.engExists e.val = true ∧
    s.released uPick = true ∧
    (s.eng e.val).stopped = false ∧
    s.pickSplit (e.val / 2) = true ∧
    s.on PK_PSTAT_RESYNC e.val = true :=
  let x : State := State.reset
  let e : Eng := ⟨rn 4 % 96, by omega⟩
  let s : State := (x.wrw .RS_RSTREL 0xFFFFFF).put PK_PSTAT_RESYNC 1 e.val |>.wrw .BLK_BLKCELLS0 0xFFFFFFFF 0 |>.wrw .BLK_BLKCELLS1 0xFFFF 0 |>.wrw .RS_OPTIMG 0xFFFFFFFF 1 |>.wrw .RS_OPTIMG 0xFFFFFFFF 2
  ⟨s, e, by decide +kernel⟩

theorem witness_PickPairsResync_6 : ∃ (s : State) (e : Eng) (d : Nat),
    s.deadline (.resync e.val) = some d ∧
    ((s.eng e.val).prog = none ∨ s.pickRuns e.val = false) :=
  let x : State := State.reset
  let e : Eng := ⟨2 * (rn 4 % 48), by omega⟩
  let d : Nat := x.now + 44
  let s : State := x.arm (.resync e.val) 44
  ⟨s, e, d, by decide +kernel⟩

theorem witness_PickPairsResync_7 : ∃ (s : State) (e : Eng) (d : Nat) (k : Fin 3) (r : Req) (p : PickProgram) (v0 : Inv),
    s.deadline (.resync e.val) = some d ∧
    s.pickRuns e.val = true ∧
    (s.eng e.val).run = none ∧
    (s.eng e.val).stopped = false ∧
    (s.eng e.val).pend[k] = some r ∧
    (∀ j : Fin 3, (s.eng e.val).pend[j].all (fun q => j == k || decide (r.since < q.since) || decide (r.since = q.since ∧ k < j)) = true) ∧
    (s.eng e.val).prog = some p :=
  let x : State := State.reset
  let e : Eng := ⟨2 * (rn 4 % 48), by omega⟩
  let d : Nat := x.now + 44
  let k : Fin 3 := ⟨rn 5 % 3, by omega⟩
  let r : Req := ⟨5, rn 6 % 2 == 0, 3, true, Vector.replicate 4 9⟩
  let p : PickProgram := prog1 9 rn
  let v0 : Inv := inv1 rn
  let s : State := (((((x.wrw .RS_RSTREL 0xFFFFFF).put PK_PCTL_LOADED 1 e.val).put PK_PSTAT_RESYNC 0 e.val).wrw .BLK_BLKCELLS0 0xFFFFFFFF 0 |>.wrw .BLK_BLKCELLS1 0xFFFF 0 |>.put BLK_BLKCTL_STATE (1 + rn 7 % 3) 0).updEng e.val (fun u => {u with run := none, stopped := false, prog := some (prog1 9 rn), data := [(5, 7#32), (450, 8#32)], pend := ((Vector.replicate 3 none).set 2 (some ⟨9, false, 3, true, Vector.replicate 4 9⟩)).set k.val (some ⟨5, rn 6 % 2 == 0, 3, true, Vector.replicate 4 9⟩)})).arm (.resync e.val) 44
  ⟨s, e, d, k, r, p, v0, by decide +kernel⟩

theorem witness_PickPairsResync_8 : ∃ (s : State) (e : Eng) (d : Nat) (p : PickProgram) (v0 : Inv),
    s.deadline (.resync e.val) = some d ∧
    s.pickRuns e.val = true ∧
    (s.eng e.val).run = none ∧
    (s.eng e.val).stopped = false ∧
    (∀ j : Fin 3, (s.eng e.val).pend[j] = none) ∧
    (s.eng e.val).prog = some p :=
  let x : State := State.reset
  let e : Eng := ⟨2 * (rn 4 % 48), by omega⟩
  let d : Nat := x.now + 44
  let p : PickProgram := prog1 9 rn
  let v0 : Inv := inv1 rn
  let s : State := (((((x.wrw .RS_RSTREL 0xFFFFFF).put PK_PCTL_LOADED 1 e.val).put PK_PSTAT_RESYNC 0 e.val).wrw .BLK_BLKCELLS0 0xFFFFFFFF 0 |>.wrw .BLK_BLKCELLS1 0xFFFF 0 |>.put BLK_BLKCTL_STATE (1 + rn 7 % 3) 0).updEng e.val (fun u => {u with run := none, stopped := false, prog := some (prog1 9 rn), data := [(5, 7#32), (450, 8#32)], pend := Vector.replicate 3 none})).arm (.resync e.val) 44
  ⟨s, e, d, p, v0, by decide +kernel⟩

theorem witness_PickPairsResync_9 : ∃ (s : State) (e : Eng) (d : Nat),
    s.deadline (.resync e.val) = some d :=
  let x : State := State.reset
  let e : Eng := ⟨2 * (rn 4 % 48), by omega⟩
  let d : Nat := x.now + 44
  let s : State := x.arm (.resync e.val) 44
  ⟨s, e, d, by decide +kernel⟩

theorem witness_SequencesAndReferenceRun_1 : ∃ (s : State) (m : Master) (q : Sequ) (v : Word),
    s.busOpen m = true ∧
    s.lockstep m = true ∧
    s.on SN_SEQCTL_EN q.val = true ∧
    s.convLive = true ∧
    s.on SN_SEQSTAT_PENDING q.val = false ∧
    s.on SN_SEQSTAT_RUNNING q.val = false :=
  let x : State := State.reset
  let m : Master := .pair 3
  let q : Sequ := ⟨rn 4 % 32, by omega⟩
  let v : Word := BitVec.ofNat 32 (rn 91)
  let s : State := (lock x 3).put SN_SEQCTL_EN 1 q.val |>.put SN_SEQSTAT_PENDING 0 q.val |>.put SN_SEQSTAT_RUNNING 0 q.val |>.wrw .RS_RSTREL 0xFFFFFF |>.put WI_SSTAT_LOCKED 1 synConv |>.put WI_SCTL_EN 1 synConv
  ⟨s, m, q, v, by decide +kernel⟩

theorem witness_SequencesAndReferenceRun_2 : ∃ (s : State) (m : Master) (q : Sequ) (v : Word),
    s.busOpen m = true ∧
    s.lockstep m = true ∧
    s.on SN_SEQCTL_EN q.val = true ∧
    s.convLive = true ∧
    (s.on SN_SEQSTAT_PENDING q.val = true ∨ s.on SN_SEQSTAT_RUNNING q.val = true) :=
  let x : State := State.reset
  let m : Master := .pair 3
  let q : Sequ := ⟨rn 4 % 32, by omega⟩
  let v : Word := BitVec.ofNat 32 (rn 91)
  let s : State := (lock x 3).put SN_SEQCTL_EN 1 q.val |>.put SN_SEQSTAT_RUNNING (rn 6 % 2) q.val |>.put SN_SEQSTAT_PENDING 1 q.val |>.wrw .RS_RSTREL 0xFFFFFF |>.put WI_SSTAT_LOCKED 1 synConv |>.put WI_SCTL_EN 1 synConv
  ⟨s, m, q, v, by decide +kernel⟩

theorem witness_SequencesAndReferenceRun_3 : ∃ (s : State) (m : Master) (q : Sequ) (v : Word),
    s.busOpen m = true ∧
    s.lockstep m = true ∧
    (s.on SN_SEQCTL_EN q.val = false ∨ s.convLive = false) :=
  let x : State := State.reset
  let m : Master := .pair 3
  let q : Sequ := ⟨rn 4 % 32, by omega⟩
  let v : Word := BitVec.ofNat 32 (rn 91)
  let s : State := (lock x 3).put SN_SEQCTL_EN 0 q.val
  ⟨s, m, q, v, by decide +kernel⟩

theorem witness_SequencesAndReferenceRun_4 : ∃ (s : State) (m : Master) (q : Sequ) (v : Word),
    s.busOpen m = true ∧
    s.lockstep m = false :=
  let x : State := State.reset
  let m : Master := .dma
  let q : Sequ := ⟨rn 4 % 32, by omega⟩
  let v : Word := BitVec.ofNat 32 (rn 91)
  let s : State := ((x.put DR_PSTATE_STATE 0 3).put SN_CTL_CFG_DENIED 0)
  ⟨s, m, q, v, by decide +kernel⟩

theorem witness_SequencesAndReferenceRun_5 : ∃ (s : State) (q : Sequ) (d e : Nat),
    (s.seqU q.val).waiting = false ∧
    s.deadline (.seqStart q.val) = some d ∧
    (s.convEdge (max s.now d)).1 = e ∧
    (∀ v : Fin 32, bit (s.rdw .SN_SEQMASK q.val) v.val = true → s.sense.freeAt[v] ≤ e) ∧
    (s.advanceTo d).outranked q.val = false :=
  let x : State := State.reset
  let q : Sequ := ⟨rn 4 % 32, by omega⟩
  let d : Nat := x.now+2
  let s0 : State := ((((List.range 32).foldl (fun s k => (s.put SN_SEQSTAT_RUNNING 0 k).disarm (.seqStart k)) x).setSeq q.val ⟨0,0,0,0,false,0⟩ |>.put SN_SEQSTAT_PENDING 1 q.val |>.put WI_SSTAT_PHASELOCK 1 synPwm |>.put WI_SSTAT_PHASELOCK (1 - rn 21 % 2) synConv |>.wrw .SN_SEQMASK (BitVec.ofNat 32 (rn 22) ||| 8#32) q.val |>.put SN_SEQDLY_MAXDEF (rn 23 % 3) q.val |>.put IC_SRCCFG_TARGET (rn 15 % 17) (256+q.val)|>.wrw .RS_RSTREL 0xFFFFFF |>.put WI_SSTAT_LOCKED 1 synConv |>.put WI_SCTL_EN 1 synConv)).arm (.seqStart q.val) 2
  let e : Nat := (s0.convEdge (x.now+2)).1
  let s : State := ((((List.range 32).foldl (fun s k => (s.put SN_SEQSTAT_RUNNING 0 k).disarm (.seqStart k)) x).setSeq q.val ⟨0,0,0,0,false,0⟩ |>.put SN_SEQSTAT_PENDING 1 q.val |>.put WI_SSTAT_PHASELOCK 1 synPwm |>.put WI_SSTAT_PHASELOCK (1 - rn 21 % 2) synConv |>.wrw .SN_SEQMASK (BitVec.ofNat 32 (rn 22) ||| 8#32) q.val |>.put SN_SEQDLY_MAXDEF (rn 23 % 3) q.val |>.put IC_SRCCFG_TARGET (rn 15 % 17) (256+q.val)|>.wrw .RS_RSTREL 0xFFFFFF |>.put WI_SSTAT_LOCKED 1 synConv |>.put WI_SCTL_EN 1 synConv)).arm (.seqStart q.val) 2
  ⟨s, q, d, e, by decide +kernel⟩

theorem witness_SequencesAndReferenceRun_6 : ∃ (s : State) (q : Sequ) (d e : Nat),
    (s.seqU q.val).waiting = false ∧
    s.deadline (.seqStart q.val) = some d ∧
    (s.convEdge (max s.now d)).1 = e ∧
    ((∃ v : Fin 32, bit (s.rdw .SN_SEQMASK q.val) v.val = true ∧ e < s.sense.freeAt[v]) ∨ (s.advanceTo d).outranked q.val = true) ∧
    0 < s.get SN_SEQDLY_MAXDEF q.val :=
  let x : State := State.reset
  let q : Sequ := ⟨rn 4 % 32, by omega⟩
  let d : Nat := x.now+2
  let s0 : State := (((busyF ((List.range 32).foldl (fun s k => (s.put SN_SEQSTAT_RUNNING 0 k).disarm (.seqStart k)) x) 30).setSeq q.val ⟨0,0,0,0,false,0⟩ |>.put SN_SEQSTAT_PENDING 1 q.val |>.put WI_SSTAT_PHASELOCK 1 synPwm |>.put WI_SSTAT_PHASELOCK (1 - rn 21 % 2) synConv |>.wrw .SN_SEQMASK (BitVec.ofNat 32 (rn 22) ||| 8#32) q.val |>.put SN_SEQDLY_MAXDEF (5+rn 23 % 300) q.val |>.put IC_SRCCFG_TARGET (rn 15 % 17) (256+q.val)|>.wrw .RS_RSTREL 0xFFFFFF |>.put WI_SSTAT_LOCKED 1 synConv |>.put WI_SCTL_EN 1 synConv)).arm (.seqStart q.val) 2
  let e : Nat := (s0.convEdge (x.now+2)).1
  let s : State := (((busyF ((List.range 32).foldl (fun s k => (s.put SN_SEQSTAT_RUNNING 0 k).disarm (.seqStart k)) x) 30).setSeq q.val ⟨0,0,0,0,false,0⟩ |>.put SN_SEQSTAT_PENDING 1 q.val |>.put WI_SSTAT_PHASELOCK 1 synPwm |>.put WI_SSTAT_PHASELOCK (1 - rn 21 % 2) synConv |>.wrw .SN_SEQMASK (BitVec.ofNat 32 (rn 22) ||| 8#32) q.val |>.put SN_SEQDLY_MAXDEF (5+rn 23 % 300) q.val |>.put IC_SRCCFG_TARGET (rn 15 % 17) (256+q.val)|>.wrw .RS_RSTREL 0xFFFFFF |>.put WI_SSTAT_LOCKED 1 synConv |>.put WI_SCTL_EN 1 synConv)).arm (.seqStart q.val) 2
  ⟨s, q, d, e, by decide +kernel⟩

theorem witness_SequencesAndReferenceRun_7 : ∃ (s : State) (q : Sequ) (d e : Nat),
    (s.seqU q.val).waiting = false ∧
    s.deadline (.seqStart q.val) = some d ∧
    (s.convEdge (max s.now d)).1 = e ∧
    ((∃ v : Fin 32, bit (s.rdw .SN_SEQMASK q.val) v.val = true ∧ e < s.sense.freeAt[v]) ∨ (s.advanceTo d).outranked q.val = true) ∧
    s.get SN_SEQDLY_MAXDEF q.val = 0 ∧
    s.routed (256 + q.val) = true :=
  let x : State := State.reset
  let q : Sequ := ⟨rn 4 % 32, by omega⟩
  let d : Nat := x.now+2
  let s0 : State := (((busyF ((List.range 32).foldl (fun s k => (s.put SN_SEQSTAT_RUNNING 0 k).disarm (.seqStart k)) x) 30).setSeq q.val ⟨0,0,0,0,false,0⟩ |>.put SN_SEQSTAT_PENDING 1 q.val |>.put WI_SSTAT_PHASELOCK 1 synPwm |>.put WI_SSTAT_PHASELOCK (1 - rn 21 % 2) synConv |>.wrw .SN_SEQMASK (BitVec.ofNat 32 (rn 22) ||| 8#32) q.val |>.put SN_SEQDLY_MAXDEF 0 q.val |>.put IC_SRCCFG_TARGET (rn 15 % 17) (256+q.val)|>.wrw .RS_RSTREL 0xFFFFFF |>.put WI_SSTAT_LOCKED 1 synConv |>.put WI_SCTL_EN 1 synConv)).arm (.seqStart q.val) 2
  let e : Nat := (s0.convEdge (x.now+2)).1
  let s : State := (((busyF ((List.range 32).foldl (fun s k => (s.put SN_SEQSTAT_RUNNING 0 k).disarm (.seqStart k)) x) 30).setSeq q.val ⟨0,0,0,0,false,0⟩ |>.put SN_SEQSTAT_PENDING 1 q.val |>.put WI_SSTAT_PHASELOCK 1 synPwm |>.put WI_SSTAT_PHASELOCK (1 - rn 21 % 2) synConv |>.wrw .SN_SEQMASK (BitVec.ofNat 32 (rn 22) ||| 8#32) q.val |>.put SN_SEQDLY_MAXDEF 0 q.val |>.put IC_SRCCFG_TARGET (rn 15 % 17) (256+q.val)|>.wrw .RS_RSTREL 0xFFFFFF |>.put WI_SSTAT_LOCKED 1 synConv |>.put WI_SCTL_EN 1 synConv)).arm (.seqStart q.val) 2
  ⟨s, q, d, e, by decide +kernel⟩

theorem witness_SequencesAndReferenceRun_8 : ∃ (s : State) (q : Sequ) (e : Nat),
    (s.seqU q.val).waiting = true ∧
    max (s.seqU q.val).startAt (s.idleEdge (s.rdw .SN_SEQMASK q.val)) = e ∧
    e ≤ (s.seqU q.val).startAt + 24 * s.get SN_SEQDLY_MAXDEF q.val ∧
    s.convLive = true ∧
    (s.advanceTo (e / 24)).outranked q.val = false :=
  let x : State := State.reset
  let q : Sequ := ⟨rn 4 % 32, by omega⟩
  let s0 : State := (((busyF ((List.range 32).foldl (fun s k => (s.put SN_SEQSTAT_RUNNING 0 k).disarm (.seqStart k)) x) 30).setSeq q.val ⟨0,0,0,0,true,(24*x.now+5)⟩ |>.put SN_SEQSTAT_PENDING 1 q.val |>.put WI_SSTAT_PHASELOCK 1 synPwm |>.put WI_SSTAT_PHASELOCK (1 - rn 21 % 2) synConv |>.wrw .SN_SEQMASK (BitVec.ofNat 32 (rn 22) ||| 8#32) q.val |>.put SN_SEQDLY_MAXDEF (35+rn 23 % 300) q.val |>.put IC_SRCCFG_TARGET (rn 15 % 17) (256+q.val)|>.wrw .RS_RSTREL 0xFFFFFF |>.put WI_SSTAT_LOCKED 1 synConv |>.put WI_SCTL_EN 1 synConv)).arm (.seqDrop q.val) 40
  let e : Nat := max (s0.seqU q.val).startAt (s0.idleEdge (s0.rdw .SN_SEQMASK q.val))
  let s : State := (((busyF ((List.range 32).foldl (fun s k => (s.put SN_SEQSTAT_RUNNING 0 k).disarm (.seqStart k)) x) 30).setSeq q.val ⟨0,0,0,0,true,(24*x.now+5)⟩ |>.put SN_SEQSTAT_PENDING 1 q.val |>.put WI_SSTAT_PHASELOCK 1 synPwm |>.put WI_SSTAT_PHASELOCK (1 - rn 21 % 2) synConv |>.wrw .SN_SEQMASK (BitVec.ofNat 32 (rn 22) ||| 8#32) q.val |>.put SN_SEQDLY_MAXDEF (35+rn 23 % 300) q.val |>.put IC_SRCCFG_TARGET (rn 15 % 17) (256+q.val)|>.wrw .RS_RSTREL 0xFFFFFF |>.put WI_SSTAT_LOCKED 1 synConv |>.put WI_SCTL_EN 1 synConv)).arm (.seqDrop q.val) 40
  ⟨s, q, e, by decide +kernel⟩

theorem witness_SequencesAndReferenceRun_9 : ∃ (s : State) (q : Sequ) (d : Nat),
    s.deadline (.seqDrop q.val) = some d ∧
    (s.seqU q.val).waiting = true ∧
    (s.get SN_SEQDLY_MAXDEF q.val * 24 + (s.seqU q.val).startAt < s.idleEdge (s.rdw .SN_SEQMASK q.val) ∨ (s.advanceTo d).outranked q.val = true) ∧
    s.routed (256 + q.val) = true :=
  let x : State := State.reset
  let q : Sequ := ⟨rn 4 % 32, by omega⟩
  let d : Nat := x.now+4
  let s : State := (((busyF ((List.range 32).foldl (fun s k => (s.put SN_SEQSTAT_RUNNING 0 k).disarm (.seqStart k)) x) 30).setSeq q.val ⟨0,0,0,0,true,(24*x.now+5)⟩ |>.put SN_SEQSTAT_PENDING 1 q.val |>.put WI_SSTAT_PHASELOCK 1 synPwm |>.put WI_SSTAT_PHASELOCK (1 - rn 21 % 2) synConv |>.wrw .SN_SEQMASK (BitVec.ofNat 32 (rn 22) ||| 8#32) q.val |>.put SN_SEQDLY_MAXDEF 4 q.val |>.put IC_SRCCFG_TARGET (rn 15 % 17) (256+q.val)|>.wrw .RS_RSTREL 0xFFFFFF |>.put WI_SSTAT_LOCKED 1 synConv |>.put WI_SCTL_EN 1 synConv)).arm (.seqDrop q.val) 4
  ⟨s, q, d, by decide +kernel⟩

theorem witness_SequencesAndReferenceRun_10 : ∃ (s : State) (q : Sequ) (d e : Nat),
    s.deadline (.seqDrop q.val) = some d ∧
    (s.seqU q.val).waiting = true ∧
    max (s.seqU q.val).startAt (s.idleEdge (s.rdw .SN_SEQMASK q.val)) = e ∧
    e ≤ (s.seqU q.val).startAt + 24 * s.get SN_SEQDLY_MAXDEF q.val ∧
    (s.advanceTo d).outranked q.val = false :=
  let x : State := State.reset
  let q : Sequ := ⟨rn 4 % 32, by omega⟩
  let d : Nat := x.now+40
  let s0 : State := (((busyF ((List.range 32).foldl (fun s k => (s.put SN_SEQSTAT_RUNNING 0 k).disarm (.seqStart k)) x) 30).setSeq q.val ⟨0,0,0,0,true,(24*x.now+5)⟩ |>.put SN_SEQSTAT_PENDING 1 q.val |>.put WI_SSTAT_PHASELOCK 1 synPwm |>.put WI_SSTAT_PHASELOCK (1 - rn 21 % 2) synConv |>.wrw .SN_SEQMASK (BitVec.ofNat 32 (rn 22) ||| 8#32) q.val |>.put SN_SEQDLY_MAXDEF 40 q.val |>.put IC_SRCCFG_TARGET (rn 15 % 17) (256+q.val)|>.wrw .RS_RSTREL 0xFFFFFF |>.put WI_SSTAT_LOCKED 1 synConv |>.put WI_SCTL_EN 1 synConv)).arm (.seqDrop q.val) 40
  let e : Nat := max (s0.seqU q.val).startAt (s0.idleEdge (s0.rdw .SN_SEQMASK q.val))
  let s : State := (((busyF ((List.range 32).foldl (fun s k => (s.put SN_SEQSTAT_RUNNING 0 k).disarm (.seqStart k)) x) 30).setSeq q.val ⟨0,0,0,0,true,(24*x.now+5)⟩ |>.put SN_SEQSTAT_PENDING 1 q.val |>.put WI_SSTAT_PHASELOCK 1 synPwm |>.put WI_SSTAT_PHASELOCK (1 - rn 21 % 2) synConv |>.wrw .SN_SEQMASK (BitVec.ofNat 32 (rn 22) ||| 8#32) q.val |>.put SN_SEQDLY_MAXDEF 40 q.val |>.put IC_SRCCFG_TARGET (rn 15 % 17) (256+q.val)|>.wrw .RS_RSTREL 0xFFFFFF |>.put WI_SSTAT_LOCKED 1 synConv |>.put WI_SCTL_EN 1 synConv)).arm (.seqDrop q.val) 40
  ⟨s, q, d, e, by decide +kernel⟩

theorem witness_SequencesAndReferenceRun_11 : ∃ (s : State) (q : Sequ) (codes : Vector (BitVec 16) 32) (d : Nat),
    s.deadline (.conv q.val) = some d ∧
    ((s.seqU q.val).made + 1 = ((s.seqU q.val).burst + 1) * (if (s.seqU q.val).pos = 3 then 3 else 1)) ∧
    s.routed (256 + q.val) = true :=
  let x : State := State.reset
  let q : Sequ := ⟨rn 4 % 32, by omega⟩
  let codes : Vector (BitVec 16) 32 := Vector.ofFn (fun k : Fin 32 => BitVec.ofNat 16 (rn k.val))
  let d : Nat := x.now+2
  let s : State := (x.setSeq q.val ⟨BitVec.ofNat 32 (rn 9),rn 8 % 4,0,(if rn 8 % 4 = 3 then 2 else 0),false,0⟩).arm (.conv q.val) 2 |>.put IC_SRCCFG_TARGET (rn 15 % 17) (256+q.val)
  ⟨s, q, codes, d, by decide +kernel⟩

theorem witness_SequencesAndReferenceRun_12 : ∃ (s : State) (q : Sequ) (codes : Vector (BitVec 16) 32) (d : Nat) (v : Fin 32) (c : Chan) (n : Int),
    s.deadline (.conv q.val) = some d ∧
    ((s.seqU q.val).made + 1 ≠ ((s.seqU q.val).burst + 1) * (if (s.seqU q.val).pos = 3 then 3 else 1)) ∧
    bit (s.seqU q.val).mask v.val = true ∧
    (c.val = v.val + 32 * (if (s.seqU q.val).pos = 3 then (s.seqU q.val).made % 3 else (s.seqU q.val).pos)) ∧
    n = max (-8388608) (min 8388607 (((codes[v]).toNat - 32768 - (BitVec.ofNat 16 (s.get SN_CHCTL_OFFSET c.val)).toInt) * 256)) :=
  let x : State := State.reset
  let q : Sequ := ⟨rn 4 % 32, by omega⟩
  let codes : Vector (BitVec 16) 32 := Vector.ofFn (fun k : Fin 32 => BitVec.ofNat 16 (rn k.val))
  let d : Nat := x.now+2
  let s0 : State := (x.setSeq q.val ⟨BitVec.ofNat 32 (rn 9),rn 8 % 4,2,1,false,24 * x.now⟩ |>.put SN_CTL_REFRDY 1 |> fun y => (List.range 96).foldl (fun y k => (y.put SN_MMCTL_EN 1 k).put SN_CHCTL_EN 1 k) y).arm (.conv q.val) 2
  let v : Fin 32 := ⟨((List.range 32).find? (fun k => bit (s0.seqU q.val).mask k)).getD 0 % 32, by omega⟩
  let c : Chan := ⟨(v.val + 32 * (if (s0.seqU q.val).pos = 3 then 1 else (s0.seqU q.val).pos)) % 120, by omega⟩
  let n : Int := sat24 (((codes[v]).toNat - 32768 - (BitVec.ofNat 16 (s0.get SN_CHCTL_OFFSET c.val)).toInt) * 256)
  let s : State := (x.setSeq q.val ⟨BitVec.ofNat 32 (rn 9),rn 8 % 4,2,1,false,24 * x.now⟩ |>.put SN_CTL_REFRDY 1 |> fun y => (List.range 96).foldl (fun y k => (y.put SN_MMCTL_EN 1 k).put SN_CHCTL_EN 1 k) y).arm (.conv q.val) 2
  ⟨s, q, codes, d, v, c, n, by decide +kernel⟩

theorem witness_SequencesAndReferenceRun_13 : ∃ (s : State) (m : Master) (q : Sequ) (v : Word),
    s.busOpen m = true ∧
    s.lockstep m = true ∧
    s.on SN_SEQCTL_EN q.val = false ∧
    SN_SEQCTL_TRIGSRC.of v ≠ 3 :=
  let x : State := State.reset
  let m : Master := .pair 3
  let q : Sequ := ⟨rn 4 % 32, by omega⟩
  let v : Word := SN_SEQCTL_TRIGSRC.into (BitVec.ofNat 32 (rn 5)) (rn 6 % 3)
  let s : State := (lock x 3).put SN_SEQCTL_EN 0 q.val
  ⟨s, m, q, v, by decide +kernel⟩

theorem witness_SequencesAndReferenceRun_14 : ∃ (s : State) (m : Master) (q : Sequ) (v : Word),
    s.busOpen m = true ∧
    s.lockstep m = true ∧
    s.on SN_SEQCTL_EN q.val = true ∧
    SN_SEQCTL_TRIGSRC.of v ≠ 3 :=
  let x : State := State.reset
  let m : Master := .pair 3
  let q : Sequ := ⟨rn 4 % 32, by omega⟩
  let v : Word := SN_SEQCTL_TRIGSRC.into (BitVec.ofNat 32 (rn 5)) (rn 6 % 3)
  let s : State := (lock x 3).put SN_SEQCTL_EN 1 q.val |>.put SN_SEQSTAT_RUNNING (rn 9 % 2) q.val |>.arm (.seqStart q.val) 1
  ⟨s, m, q, v, by decide +kernel⟩

theorem witness_SequencesAndReferenceRun_15 : ∃ (s : State) (m : Master) (q : Sequ) (v : Word),
    s.busOpen m = true ∧
    s.lockstep m = true ∧
    SN_SEQCTL_TRIGSRC.of v = 3 :=
  let x : State := State.reset
  let m : Master := .pair 3
  let q : Sequ := ⟨rn 4 % 32, by omega⟩
  let v : Word := SN_SEQCTL_TRIGSRC.into (BitVec.ofNat 32 (rn 5)) 3
  let s : State := lock x 3
  ⟨s, m, q, v, by decide +kernel⟩

theorem witness_SequencesAndReferenceRun_16 : ∃ (s : State) (m : Master) (q : Sequ) (v : Word),
    s.busOpen m = true ∧
    s.lockstep m = false :=
  let x : State := State.reset
  let m : Master := .dma
  let q : Sequ := ⟨rn 4 % 32, by omega⟩
  let v : Word := BitVec.ofNat 32 (rn 91)
  let s : State := ((x.put DR_PSTATE_STATE 0 3).put SN_CTL_CFG_DENIED 0)
  ⟨s, m, q, v, by decide +kernel⟩

theorem witness_SequencesAndReferenceRun_17 : ∃ (s : State) (m : Master) (v : Word),
    s.busOpen m = true ∧
    s.lockstep m = true ∧
    SN_CTL_REFEN.of v = 1 ∧
    s.on SN_CTL_REFRDY = false ∧
    s.armed .refReady = false :=
  let x : State := State.reset
  let m : Master := .pair 3
  let v : Word := SN_CTL_REFEN.into (BitVec.ofNat 32 (rn 5)) 1
  let s : State := (lock x 3).put SN_CTL_REFRDY 0
  ⟨s, m, v, by decide +kernel⟩

theorem witness_SequencesAndReferenceRun_18 : ∃ (s : State) (m : Master) (v : Word),
    s.busOpen m = true ∧
    s.lockstep m = true ∧
    SN_CTL_REFEN.of v = 1 ∧
    (s.on SN_CTL_REFRDY = true ∨ s.armed .refReady = true) :=
  let x : State := State.reset
  let m : Master := .pair 3
  let v : Word := SN_CTL_REFEN.into (BitVec.ofNat 32 (rn 5)) 1
  let s : State := ((lock x 3).put SN_CTL_REFRDY (rn 6 % 2)).arm .refReady 12
  ⟨s, m, v, by decide +kernel⟩

theorem witness_SequencesAndReferenceRun_19 : ∃ (s : State) (m : Master) (v : Word),
    s.busOpen m = true ∧
    s.lockstep m = true ∧
    SN_CTL_REFEN.of v = 0 ∧
    s.on SN_CTL_REFRDY = true ∧
    s.routed 289 = true :=
  let x : State := State.reset
  let m : Master := .pair 3
  let v : Word := SN_CTL_REFEN.into (BitVec.ofNat 32 (rn 5)) 0
  let s : State := (lock x 3).put SN_CTL_REFRDY 1 |>.put IC_SRCCFG_TARGET (rn 15 % 17) 289
  ⟨s, m, v, by decide +kernel⟩

theorem witness_SequencesAndReferenceRun_20 : ∃ (s : State) (m : Master) (v : Word),
    s.busOpen m = true ∧
    s.lockstep m = true ∧
    SN_CTL_REFEN.of v = 0 ∧
    s.on SN_CTL_REFRDY = false :=
  let x : State := State.reset
  let m : Master := .pair 3
  let v : Word := SN_CTL_REFEN.into (BitVec.ofNat 32 (rn 5)) 0
  let s : State := ((lock x 3).put SN_CTL_REFRDY 0).arm .refReady 9
  ⟨s, m, v, by decide +kernel⟩

theorem witness_SequencesAndReferenceRun_21 : ∃ (s : State) (m : Master) (v : Word),
    s.busOpen m = true ∧
    s.lockstep m = false :=
  let x : State := State.reset
  let m : Master := .dma
  let v : Word := BitVec.ofNat 32 (rn 91)
  let s : State := ((x.put DR_PSTATE_STATE 0 3).put SN_CTL_CFG_DENIED 0)
  ⟨s, m, v, by decide +kernel⟩

theorem witness_SequencesAndReferenceRun_22 : ∃ (s : State) (d : Nat),
    s.deadline .refReady = some d ∧
    s.routed 290 = true :=
  let x : State := State.reset
  let d : Nat := x.now+7
  let s : State := x.arm .refReady 7 |>.put IC_SRCCFG_TARGET (rn 15 % 17) 290
  ⟨s, d, by decide +kernel⟩

theorem witness_SequencesAndReferenceRun_23 : ∃ (s : State),
    s.on SN_CTL_REFRDY = true ∧
    s.routed 289 = true :=
  let x : State := State.reset
  let s : State := x.put SN_CTL_REFRDY 1 |>.put IC_SRCCFG_TARGET (rn 15 % 17) 289
  ⟨s, by decide +kernel⟩

theorem witness_SequencesAndReferenceRun_24 : ∃ (s : State),
    s.on SN_CTL_REFRDY = false :=
  let x : State := State.reset
  let s : State := x.put SN_CTL_REFRDY 0
  ⟨s, by decide +kernel⟩

theorem witness_SamplesWindowsAndDiagnostics_1 : ∃ (s : State) (m : Master) (c : Chan) (v : Word),
    s.busOpen m = true ∧
    s.lockstep m = true ∧
    (s.chanCell c.val).all (fun k => s.mayWriteCell m k) = true ∧
    c.val < 96 :=
  let x : State := State.reset
  let m : Master := .pair 3
  let c : Chan := ⟨rn 4 % 96, by omega⟩
  let v : Word := BitVec.ofNat 32 (rn 91)
  let s : State := lock x 3 |> fun y => (List.range 8).foldl (fun s b => (s.put BLK_BLKCTL_OWNED 0 b).put BLK_BLKCTL_STATE 0 b) y
  ⟨s, m, c, v, by decide +kernel⟩

theorem witness_SamplesWindowsAndDiagnostics_2 : ∃ (s : State) (m : Master) (c : Chan) (v : Word),
    s.busOpen m = true ∧
    s.lockstep m = true ∧
    (s.chanCell c.val).all (fun k => s.mayWriteCell m k) = true ∧
    96 ≤ c.val ∧
    SN_SDCTL_CKSEL.of v ≤ 5 ∧
    s.assignOk c.val (SN_SDCTL_CELL.of v) (SN_SDCTL_LOCAL.of v) = true :=
  let x : State := State.reset
  let m : Master := .pair 3
  let c : Chan := ⟨96 + rn 4 % 24, by omega⟩
  let v : Word := SN_SDCTL_CKSEL.into (SN_SDCTL_LOCAL.into (SN_SDCTL_CELL.into (BitVec.ofNat 32 (rn 5)) 63) 2) 3
  let s : State := lock x 3 |> fun y => (List.range 8).foldl (fun s b => (s.put BLK_BLKCTL_OWNED 0 b).put BLK_BLKCTL_STATE 0 b) y |>.put SN_SDCTL_CELL 5 c.val
  ⟨s, m, c, v, by decide +kernel⟩

theorem witness_SamplesWindowsAndDiagnostics_3 : ∃ (s : State) (m : Master) (c : Chan) (v : Word),
    s.busOpen m = true ∧
    s.lockstep m = true ∧
    (s.chanCell c.val).all (fun k => s.mayWriteCell m k) = true ∧
    96 ≤ c.val ∧
    SN_SDCTL_CKSEL.of v ≤ 5 ∧
    s.assignOk c.val (SN_SDCTL_CELL.of v) (SN_SDCTL_LOCAL.of v) = false :=
  let x : State := State.reset
  let m : Master := .pair 3
  let c : Chan := ⟨96 + rn 4 % 24, by omega⟩
  let v : Word := SN_SDCTL_CKSEL.into (SN_SDCTL_LOCAL.into (SN_SDCTL_CELL.into (BitVec.ofNat 32 (rn 5)) 7) 1) 3
  let s : State := lock x 3 |> fun y => (List.range 8).foldl (fun s b => (s.put BLK_BLKCTL_OWNED 0 b).put BLK_BLKCTL_STATE 0 b) y |>.put SN_SDCTL_CELL 5 c.val
  ⟨s, m, c, v, by decide +kernel⟩

theorem witness_SamplesWindowsAndDiagnostics_4 : ∃ (s : State) (m : Master) (c : Chan) (v : Word),
    s.busOpen m = true ∧
    s.lockstep m = true ∧
    (s.chanCell c.val).all (fun k => s.mayWriteCell m k) = true ∧
    96 ≤ c.val ∧
    5 < SN_SDCTL_CKSEL.of v :=
  let x : State := State.reset
  let m : Master := .pair 3
  let c : Chan := ⟨96 + rn 4 % 24, by omega⟩
  let v : Word := SN_SDCTL_CKSEL.into (BitVec.ofNat 32 (rn 5)) (6+rn 7 % 2)
  let s : State := lock x 3 |> fun y => (List.range 8).foldl (fun s b => (s.put BLK_BLKCTL_OWNED 0 b).put BLK_BLKCTL_STATE 0 b) y
  ⟨s, m, c, v, by decide +kernel⟩

theorem witness_SamplesWindowsAndDiagnostics_5 : ∃ (s : State) (m : Master) (c : Chan) (v : Word),
    s.busOpen m = true ∧
    s.lockstep m = false :=
  let x : State := State.reset
  let m : Master := .dma
  let c : Chan := ⟨rn 4 % 120, by omega⟩
  let v : Word := BitVec.ofNat 32 (rn 91)
  let s : State := ((x.put DR_PSTATE_STATE 0 3).put SN_CTL_CFG_DENIED 0)
  ⟨s, m, c, v, by decide +kernel⟩

theorem witness_SamplesWindowsAndDiagnostics_6 : ∃ (s : State) (c : Chan) (j : Fin 2) (d : Nat) (r : WinRes),
    s.deadline (.publish c.val j.val) = some d ∧
    (s.slice c.val j.val).closed = some r :=
  let x : State := State.reset
  let c : Chan := ⟨rn 4 % 120, by omega⟩
  let j : Fin 2 := ⟨rn 5 % 2, by omega⟩
  let d : Nat := x.now+3
  let r : WinRes := ⟨rn 6 % 2^30 - 2^29, rn 7 % 300000, rn 8 % 2 == 0⟩
  let s : State := (x.updSlice c.val j.val (fun u => {u with closed := some ⟨rn 6 % 2^30 - 2^29, rn 7 % 300000, rn 8 % 2 == 0⟩})).arm (.publish c.val j.val) 3
  ⟨s, c, j, d, r, by decide +kernel⟩

theorem witness_SamplesWindowsAndDiagnostics_7 : ∃ (s : State) (c : Chan) (j : Fin 2) (d : Nat) (a b : Int) (n u : Nat) (rest : List ((Int × Int × Nat) × Nat)),
    s.armed (.publish c.val j.val) = false ∧
    s.deadline (.record c.val) = some d ∧
    (s.trk c.val).closed = ((a, b, n), u) :: rest :=
  let x : State := State.reset
  let c : Chan := ⟨rn 4 % 120, by omega⟩
  let j : Fin 2 := ⟨rn 5 % 2, by omega⟩
  let d : Nat := x.now+3
  let a : Int := -5
  let b : Int := 9
  let n : Nat := 3
  let u : Nat := 1
  let rest : List ((Int × Int × Nat) × Nat) := []
  let s : State := ((x.updTrk c.val (fun u => {u with closed := [((-5, 9, 3), 1)]})).arm (.record c.val) 3).disarm (.publish c.val j.val)
  ⟨s, c, j, d, a, b, n, u, rest, by decide +kernel⟩

theorem witness_SamplesWindowsAndDiagnostics_8 : ∃ (s : State) (m : Master) (c : Chan) (v : Word) (a b : Int) (n : Nat),
    s.busOpen m = true ∧
    s.lockstep m = true ∧
    (s.chanCell c.val).all (fun k => s.mayWriteCell m k) = true ∧
    SN_MMCTL_EN.of v = 1 ∧
    s.on SN_CTL_REFRDY = true ∧
    (s.trk c.val).cur = some (a, b, n) :=
  let x : State := State.reset
  let m : Master := .pair 3
  let c : Chan := ⟨rn 4 % 120, by omega⟩
  let v : Word := SN_MMCTL_EN.into (BitVec.ofNat 32 (rn 5)) 1
  let a : Int := -5
  let b : Int := 9
  let n : Nat := 3
  let s : State := (lock x 3 |> fun y => (List.range 8).foldl (fun s b => (s.put BLK_BLKCTL_OWNED 0 b).put BLK_BLKCTL_STATE 0 b) y).updTrk c.val (fun u => {u with cur := some (-5, 9, 3)}) |>.put SN_CTL_REFRDY 1
  ⟨s, m, c, v, a, b, n, by decide +kernel⟩

theorem witness_SamplesWindowsAndDiagnostics_9 : ∃ (s : State) (m : Master) (c : Chan) (v : Word),
    s.busOpen m = true ∧
    s.lockstep m = true ∧
    (s.chanCell c.val).all (fun k => s.mayWriteCell m k) = true ∧
    SN_MMCTL_EN.of v = 0 :=
  let x : State := State.reset
  let m : Master := .pair 3
  let c : Chan := ⟨rn 4 % 120, by omega⟩
  let v : Word := SN_MMCTL_EN.into (BitVec.ofNat 32 (rn 5)) 0
  let s : State := (lock x 3 |> fun y => (List.range 8).foldl (fun s b => (s.put BLK_BLKCTL_OWNED 0 b).put BLK_BLKCTL_STATE 0 b) y).updTrk c.val (fun u => {u with cur := some (-5, 9, 3)}) |>.put SN_CTL_REFRDY 1
  ⟨s, m, c, v, by decide +kernel⟩

theorem witness_SamplesWindowsAndDiagnostics_10 : ∃ (s : State) (k : Fin 24) (y : Fin 16777217),
    s.convLive = true ∧
    s.on SN_SDCTL_EN (96 + k.val) = true ∧
    s.on SN_SDMCK_EN (s.get SN_SDCTL_CKSEL (96 + k.val)) = true ∧
    y.val ≤ s.osr (96 + k.val) ^ 3 ∧
    s.cutShort (96 + k.val) = false ∧
    0 < s.discards (96 + k.val) :=
  let x : State := State.reset
  let k : Fin 24 := ⟨rn 4 % 24, by omega⟩
  let y : Fin 16777217 := ⟨rn 6 % 16777217, by omega⟩
  let s : State := ((x.put SN_SDCTL_EN 1 (96+k.val) |>.put SN_SDCTL_CKSEL 2 (96+k.val) |>.put SN_SDMCK_EN 1 2 |>.put SN_SDCTL_OSRSEL 30 (96+k.val) |>.put SN_CTL_REFRDY 1 |>.put SN_MMCTL_EN 1 (96+k.val) |>.put SN_SLCTL_EN 0 (96+k.val) 0 |>.put SN_SLCTL_EN 0 (96+k.val) 1|>.wrw .RS_RSTREL 0xFFFFFF |>.put WI_SSTAT_LOCKED 1 synConv |>.put WI_SCTL_EN 1 synConv).setDiscard (96+k.val) 2)
  ⟨s, k, y, by decide +kernel⟩

theorem witness_SamplesWindowsAndDiagnostics_11 : ∃ (s : State) (k : Fin 24) (y : Fin 16777217),
    s.convLive = true ∧
    s.on SN_SDCTL_EN (96 + k.val) = true ∧
    s.on SN_SDMCK_EN (s.get SN_SDCTL_CKSEL (96 + k.val)) = true ∧
    y.val ≤ s.osr (96 + k.val) ^ 3 ∧
    s.cutShort (96 + k.val) = false ∧
    s.discards (96 + k.val) = 0 ∧
    s.on SN_CTL_REFRDY = true ∧
    s.on SN_MMCTL_EN (96 + k.val) = true ∧
    2 ≤ s.get SN_MMCTL_RST (96 + k.val) ∧
    (s.trk (96 + k.val)).closed = [] :=
  let x : State := State.reset
  let k : Fin 24 := ⟨rn 4 % 24, by omega⟩
  let y : Fin 16777217 := ⟨rn 6 % 16777217, by omega⟩
  let s : State := ((x.put SN_SDCTL_EN 1 (96+k.val) |>.put SN_SDCTL_CKSEL 2 (96+k.val) |>.put SN_SDMCK_EN 1 2 |>.put SN_SDCTL_OSRSEL 30 (96+k.val) |>.put SN_CTL_REFRDY 1 |>.put SN_MMCTL_EN 1 (96+k.val) |>.put SN_SLCTL_EN 0 (96+k.val) 0 |>.put SN_SLCTL_EN 0 (96+k.val) 1|>.wrw .RS_RSTREL 0xFFFFFF |>.put WI_SSTAT_LOCKED 1 synConv |>.put WI_SCTL_EN 1 synConv).setDiscard (96+k.val) 0).put SN_MMCTL_RST 2 (96+k.val)
  ⟨s, k, y, by decide +kernel⟩

theorem witness_SamplesWindowsAndDiagnostics_12 : ∃ (s : State) (k : Fin 24) (y : Fin 16777217),
    s.cutShort (96 + k.val) = true :=
  let x : State := State.reset
  let k : Fin 24 := ⟨rn 4 % 24, by omega⟩
  let y : Fin 16777217 := ⟨rn 6 % 16777217, by omega⟩
  let s : State := (((x.put SN_SDCTL_EN 1 (96+k.val) |>.put SN_SDCTL_CKSEL 2 (96+k.val) |>.put SN_SDMCK_EN 1 2 |>.put SN_SDCTL_OSRSEL 30 (96+k.val) |>.put SN_CTL_REFRDY 1 |>.put SN_MMCTL_EN 1 (96+k.val) |>.put SN_SLCTL_EN 0 (96+k.val) 0 |>.put SN_SLCTL_EN 0 (96+k.val) 1|>.wrw .RS_RSTREL 0xFFFFFF |>.put WI_SSTAT_LOCKED 1 synConv |>.put WI_SCTL_EN 1 synConv).setDiscard (96+k.val) 2)).setRestart (96+k.val) (some x.now)
  ⟨s, k, y, by decide +kernel⟩

theorem witness_SamplesWindowsAndDiagnostics_13 : ∃ (s : State) (k : Fin 24),
    s.convLive = true ∧
    s.on SN_SDCTL_EN (96 + k.val) = true ∧
    s.on SN_SDMCK_EN (s.get SN_SDCTL_CKSEL (96 + k.val)) = true ∧
    s.on SN_CHSTAT_SDM_STUCK (96 + k.val) = false ∧
    s.routed 291 = true :=
  let x : State := State.reset
  let k : Fin 24 := ⟨rn 4 % 24, by omega⟩
  let s : State := ((x.put SN_SDCTL_EN 1 (96+k.val) |>.put SN_SDCTL_CKSEL 2 (96+k.val) |>.put SN_SDMCK_EN 1 2 |>.put SN_SDCTL_OSRSEL 30 (96+k.val) |>.put SN_CTL_REFRDY 1 |>.put SN_MMCTL_EN 1 (96+k.val) |>.put SN_SLCTL_EN 0 (96+k.val) 0 |>.put SN_SLCTL_EN 0 (96+k.val) 1|>.wrw .RS_RSTREL 0xFFFFFF |>.put WI_SSTAT_LOCKED 1 synConv |>.put WI_SCTL_EN 1 synConv).setDiscard (96+k.val) 0).put SN_CHSTAT_SDM_STUCK 0 (96+k.val) |>.put IC_SRCCFG_TARGET (rn 15 % 17) 291
  ⟨s, k, by decide +kernel⟩

theorem witness_SamplesWindowsAndDiagnostics_14 : ∃ (s : State) (m : Master) (v : Word),
    s.busOpen m = true ∧
    s.lockstep m = true ∧
    s.on SN_DIAGSTAT_BUSY = false ∧
    (SN_DIAGSEL_ICH.of v < 15 ∨ 64 ≤ SN_DIAGSEL_ICH.of v) :=
  let x : State := State.reset
  let m : Master := .pair 3
  let v : Word := SN_DIAGSEL_ICH.into (BitVec.ofNat 32 (rn 5)) (if rn 7 % 2 = 0 then rn 6 % 15 else 64 + rn 6 % 192)
  let s : State := (lock x 3).put SN_DIAGSTAT_BUSY 0
  ⟨s, m, v, by decide +kernel⟩

theorem witness_SamplesWindowsAndDiagnostics_15 : ∃ (s : State) (m : Master) (v : Word),
    s.busOpen m = true ∧
    s.lockstep m = true ∧
    (s.on SN_DIAGSTAT_BUSY = true ∨ (15 ≤ SN_DIAGSEL_ICH.of v ∧ SN_DIAGSEL_ICH.of v ≤ 63)) :=
  let x : State := State.reset
  let m : Master := .pair 3
  let v : Word := SN_DIAGSEL_ICH.into (BitVec.ofNat 32 (rn 5)) (15+rn 6 % 49)
  let s : State := (lock x 3).put SN_DIAGSTAT_BUSY (rn 8 % 2)
  ⟨s, m, v, by decide +kernel⟩

theorem witness_SamplesWindowsAndDiagnostics_16 : ∃ (s : State) (codes : Vector (BitVec 16) 16),
    s.on SN_DIAGSTAT_BUSY = true ∧
    s.convLive = true ∧
    bit s.busyConvs (s.get SN_DIAGSEL_CONV) = false ∧
    s.routed 288 = true ∧
    s.on SN_CTL_REFRDY = true :=
  let x : State := State.reset
  let codes : Vector (BitVec 16) 16 := Vector.ofFn (fun k : Fin 16 => BitVec.ofNat 16 (rn k.val))
  let s : State := (List.range 32).foldl (fun s k => s.put SN_SEQSTAT_RUNNING 0 k) (x.put SN_DIAGSTAT_BUSY 1 |>.put SN_CTL_REFRDY 1 |>.arm .diag 50 |>.wrw .RS_RSTREL 0xFFFFFF |>.put WI_SSTAT_LOCKED 1 synConv |>.put WI_SCTL_EN 1 synConv|>.put IC_SRCCFG_TARGET (rn 15 % 17) 288)
  ⟨s, codes, by decide +kernel⟩

theorem witness_SamplesWindowsAndDiagnostics_17 : ∃ (s : State) (codes : Vector (BitVec 16) 16),
    s.on SN_DIAGSTAT_BUSY = true ∧
    s.convLive = true ∧
    bit s.busyConvs (s.get SN_DIAGSEL_CONV) = false ∧
    s.routed 288 = true ∧
    s.on SN_CTL_REFRDY = false :=
  let x : State := State.reset
  let codes : Vector (BitVec 16) 16 := Vector.ofFn (fun k : Fin 16 => BitVec.ofNat 16 (rn k.val))
  let s : State := (List.range 32).foldl (fun s k => s.put SN_SEQSTAT_RUNNING 0 k) (x.put SN_DIAGSTAT_BUSY 1 |>.put SN_CTL_REFRDY 0 |>.arm .diag 50 |>.wrw .RS_RSTREL 0xFFFFFF |>.put WI_SSTAT_LOCKED 1 synConv |>.put WI_SCTL_EN 1 synConv|>.put IC_SRCCFG_TARGET (rn 15 % 17) 288)
  ⟨s, codes, by decide +kernel⟩

theorem witness_SamplesWindowsAndDiagnostics_18 : ∃ (s : State) (d : Nat),
    s.deadline .diag = some d ∧
    s.routed 288 = true :=
  let x : State := State.reset
  let d : Nat := x.now+9
  let s : State := x.arm .diag 9 |>.put IC_SRCCFG_TARGET (rn 15 % 17) 288
  ⟨s, d, by decide +kernel⟩

theorem witness_CanaryTripsAndThresholds_1 : ∃ (s : State) (w : WinRead) (k nv n : Nat),
    k = w.win.val ∧
    w.pins = [(nv, n)] ∧
    s.winRuns k = true ∧
    s.on CN_WSTAT_SETTLING k = false ∧
    s.winNeed k ≤ n ∧
    n * s.winSpacing k ≤ s.now - (s.win k).readAt ∧
    s.on CN_WCTL_ENHI k = true ∧
    s.on CN_WSTAT_HIGH k = false ∧
    (2 * (s.get CN_WTHR_HI k : Int) + 1) * 2500000000 < 2048 * nv ∧
    s.routed (320 + k) = true :=
  let x : State := State.reset
  let w : WinRead := ⟨⟨rn 4 % 96, by omega⟩, [(2600000000, (if rn 11 % 2 = 0 then 10 + rn 14 % 100 else 4))]⟩
  let k : Nat := w.win.val
  let nv : Nat := 2600000000
  let n : Nat := (if rn 11 % 2 = 0 then 10 + rn 14 % 100 else 4)
  let s : State := (later (x.put CN_WCTL_EN 1 w.win.val |>.put CN_WCTL_MODE 0 w.win.val |>.put CN_WCTL_FILT 0 w.win.val |>.put CN_WCTL_FGUARD 0 w.win.val |>.put PR_PWRSTAT_STATE 0 |>.put CN_WSTAT_SETTLING 0 w.win.val |>.put CN_WTHR_LO 1020 w.win.val |>.put CN_WTHR_HI 300 w.win.val |>.updWin w.win.val (fun u => {lo := ⟨true, 900⟩, hi := ⟨true, 900⟩, seen := none, readAt := x.now}))) |>.put CN_WCTL_MODE (rn 11 % 2) w.win.val |>.put CN_WCTL_TICK (rn 13 % 3) w.win.val |>.put CN_WCTL_FILT (rn 12 % 9) w.win.val |> fun y => { y with now := y.now + 5000 } |>.put CN_WTHR_HI (rn 8 % 900) w.win.val |>.put CN_WSTAT_HIGH 0 w.win.val |>.put CN_WCTL_ENHI 1 w.win.val |>.put CN_WSTAT_LATCH_LO (rn 17 % 2) w.win.val |>.put CN_WSTAT_LATCH_HI 0 w.win.val |>.put IC_SRCCFG_TARGET (rn 9 % 17) (320+w.win.val)
  ⟨s, w, k, nv, n, by decide +kernel⟩

theorem witness_CanaryTripsAndThresholds_2 : ∃ (s : State) (w : WinRead) (k nv n : Nat),
    k = w.win.val ∧
    w.pins = [(nv, n)] ∧
    s.winRuns k = true ∧
    s.on CN_WSTAT_SETTLING k = false ∧
    s.winNeed k ≤ n ∧
    n * s.winSpacing k ≤ s.now - (s.win k).readAt ∧
    s.on CN_WCTL_ENLO k = true ∧
    s.on CN_WSTAT_LOW k = false ∧
    2048 * (nv : Int) < (2 * (s.get CN_WTHR_LO k : Int) + 1) * 2500000000 ∧
    s.routed (320 + k) = true :=
  let x : State := State.reset
  let w : WinRead := ⟨⟨rn 4 % 96, by omega⟩, [(1000000, (if rn 11 % 2 = 0 then 10 + rn 14 % 100 else 4))]⟩
  let k : Nat := w.win.val
  let nv : Nat := 1000000
  let n : Nat := (if rn 11 % 2 = 0 then 10 + rn 14 % 100 else 4)
  let s : State := (later (x.put CN_WCTL_EN 1 w.win.val |>.put CN_WCTL_MODE 0 w.win.val |>.put CN_WCTL_FILT 0 w.win.val |>.put CN_WCTL_FGUARD 0 w.win.val |>.put PR_PWRSTAT_STATE 0 |>.put CN_WSTAT_SETTLING 0 w.win.val |>.put CN_WTHR_LO 1020 w.win.val |>.put CN_WTHR_HI 300 w.win.val |>.updWin w.win.val (fun u => {lo := ⟨true, 900⟩, hi := ⟨true, 900⟩, seen := none, readAt := x.now}))) |>.put CN_WCTL_MODE (rn 11 % 2) w.win.val |>.put CN_WCTL_TICK (rn 13 % 3) w.win.val |>.put CN_WCTL_FILT (rn 12 % 9) w.win.val |> fun y => { y with now := y.now + 5000 } |>.put CN_WTHR_LO (9 + rn 8 % 900) w.win.val |>.put CN_WSTAT_LOW 0 w.win.val |>.put CN_WCTL_ENLO 1 w.win.val |>.put CN_WSTAT_LATCH_LO (rn 17 % 2) w.win.val |>.put CN_WSTAT_LATCH_HI 0 w.win.val |>.put IC_SRCCFG_TARGET (rn 9 % 17) (320+w.win.val)
  ⟨s, w, k, nv, n, by decide +kernel⟩

theorem witness_CanaryTripsAndThresholds_3 : ∃ (s : State) (w : WinRead) (hi : Bool) (k : Nat),
    k = w.win.val ∧
    (s.winRuns k = false ∨ s.on CN_WSTAT_SETTLING k = true) :=
  let x : State := State.reset
  let w : WinRead := ⟨⟨rn 4 % 96, by omega⟩, [(1000000000, 1)]⟩
  let hi : Bool := rn 92 % 2 == 0
  let k : Nat := w.win.val
  let s : State := (later (x.put CN_WCTL_EN 1 w.win.val |>.put CN_WCTL_MODE 0 w.win.val |>.put CN_WCTL_FILT 0 w.win.val |>.put CN_WCTL_FGUARD 0 w.win.val |>.put PR_PWRSTAT_STATE 0 |>.put (winEnable hi) 1 w.win.val |>.put CN_WSTAT_SETTLING 0 w.win.val |>.put (winState hi) 0 w.win.val |>.put CN_WTHR_LO 1020 w.win.val |>.put CN_WTHR_HI 300 w.win.val |>.updWin w.win.val (fun u => {lo := ⟨true, 900⟩, hi := ⟨true, 900⟩, seen := none, readAt := x.now}))) |>.put CN_WSTAT_SETTLING 1 w.win.val |>.put CN_WCTL_EN (rn 9 % 2) w.win.val
  ⟨s, w, hi, k, by decide +kernel⟩

theorem witness_CanaryTripsAndThresholds_4 : ∃ (s : State) (w : WinRead) (k nv n : Nat),
    k = w.win.val ∧
    w.pins = [(nv, n)] ∧
    s.winRuns k = true ∧
    s.on CN_WSTAT_SETTLING k = false ∧
    s.winNeed k ≤ n ∧
    n * s.winSpacing k ≤ s.now - (s.win k).readAt ∧
    s.on CN_WSTAT_HIGH k = true ∧
    2048 * (nv : Int) < (2 * (s.get CN_WTHR_HI k : Int) - 1) * 2500000000 ∧
    0 < n :=
  let x : State := State.reset
  let w : WinRead := ⟨⟨rn 4 % 96, by omega⟩, [(1000000, (if rn 11 % 2 = 0 then 10 + rn 14 % 100 else 4))]⟩
  let k : Nat := w.win.val
  let nv : Nat := 1000000
  let n : Nat := (if rn 11 % 2 = 0 then 10 + rn 14 % 100 else 4)
  let s : State := (later (x.put CN_WCTL_EN 1 w.win.val |>.put CN_WCTL_MODE 0 w.win.val |>.put CN_WCTL_FILT 0 w.win.val |>.put CN_WCTL_FGUARD 0 w.win.val |>.put PR_PWRSTAT_STATE 0 |>.put CN_WSTAT_SETTLING 0 w.win.val |>.put CN_WTHR_LO 1020 w.win.val |>.put CN_WTHR_HI 300 w.win.val |>.updWin w.win.val (fun u => {lo := ⟨true, 900⟩, hi := ⟨true, 900⟩, seen := none, readAt := x.now}))) |>.put CN_WCTL_MODE (rn 11 % 2) w.win.val |>.put CN_WCTL_TICK (rn 13 % 3) w.win.val |>.put CN_WCTL_FILT (rn 12 % 9) w.win.val |> fun y => { y with now := y.now + 5000 } |>.put CN_WTHR_HI (9 + rn 8 % 900) w.win.val |>.put CN_WSTAT_HIGH 1 w.win.val
  ⟨s, w, k, nv, n, by decide +kernel⟩

theorem witness_CanaryTripsAndThresholds_5 : ∃ (s : State) (w : WinRead) (k nv n : Nat),
    k = w.win.val ∧
    w.pins = [(nv, n)] ∧
    s.winRuns k = true ∧
    s.on CN_WSTAT_SETTLING k = false ∧
    s.winNeed k ≤ n ∧
    n * s.winSpacing k ≤ s.now - (s.win k).readAt ∧
    s.on CN_WSTAT_LOW k = true ∧
    (2 * (s.get CN_WTHR_LO k : Int) + 3) * 2500000000 < 2048 * (nv : Int) ∧
    0 < n :=
  let x : State := State.reset
  let w : WinRead := ⟨⟨rn 4 % 96, by omega⟩, [(2600000000, (if rn 11 % 2 = 0 then 10 + rn 14 % 100 else 4))]⟩
  let k : Nat := w.win.val
  let nv : Nat := 2600000000
  let n : Nat := (if rn 11 % 2 = 0 then 10 + rn 14 % 100 else 4)
  let s : State := (later (x.put CN_WCTL_EN 1 w.win.val |>.put CN_WCTL_MODE 0 w.win.val |>.put CN_WCTL_FILT 0 w.win.val |>.put CN_WCTL_FGUARD 0 w.win.val |>.put PR_PWRSTAT_STATE 0 |>.put CN_WSTAT_SETTLING 0 w.win.val |>.put CN_WTHR_LO 1020 w.win.val |>.put CN_WTHR_HI 300 w.win.val |>.updWin w.win.val (fun u => {lo := ⟨true, 900⟩, hi := ⟨true, 900⟩, seen := none, readAt := x.now}))) |>.put CN_WCTL_MODE (rn 11 % 2) w.win.val |>.put CN_WCTL_TICK (rn 13 % 3) w.win.val |>.put CN_WCTL_FILT (rn 12 % 9) w.win.val |> fun y => { y with now := y.now + 5000 } |>.put CN_WTHR_LO (9 + rn 8 % 900) w.win.val |>.put CN_WSTAT_LOW 1 w.win.val
  ⟨s, w, k, nv, n, by decide +kernel⟩

theorem witness_CanaryTripsAndThresholds_6 : ∃ (s : State) (w : WinRead) (hi : Bool) (k : Nat),
    k = w.win.val ∧
    s.on CN_WSTAT_SETTLING k = true :=
  let x : State := State.reset
  let w : WinRead := ⟨⟨rn 4 % 96, by omega⟩, [(1000000000, 1)]⟩
  let hi : Bool := rn 92 % 2 == 0
  let k : Nat := w.win.val
  let s : State := (later (x.put CN_WCTL_EN 1 w.win.val |>.put CN_WCTL_MODE 0 w.win.val |>.put CN_WCTL_FILT 0 w.win.val |>.put CN_WCTL_FGUARD 0 w.win.val |>.put PR_PWRSTAT_STATE 0 |>.put (winEnable hi) 1 w.win.val |>.put CN_WSTAT_SETTLING 0 w.win.val |>.put (winState hi) 0 w.win.val |>.put CN_WTHR_LO 1020 w.win.val |>.put CN_WTHR_HI 300 w.win.val |>.updWin w.win.val (fun u => {lo := ⟨true, 900⟩, hi := ⟨true, 900⟩, seen := none, readAt := x.now}))) |>.put CN_WSTAT_SETTLING 1 w.win.val |>.put (winState hi) 1 w.win.val
  ⟨s, w, hi, k, by decide +kernel⟩

theorem witness_CanaryTripsAndThresholds_7 : ∃ (s : State) (m : Master) (w : Win) (hi : Bool) (v : Word),
    s.busOpen m = true ∧
    s.mayWriteCell m (w.val / 2) = true ∧
    (winLatch hi).of (s.settle .CN_WSTAT v w.val) = 1 ∧
    s.on (winState hi) w.val = false ∧
    s.on CN_WCTL_RBFAIL w.val = false ∧
    s.on CN_WSTAT_SETTLING w.val = false :=
  let x : State := State.reset
  let m : Master := .pair 3
  let w : Win := ⟨rn 4 % 96, by omega⟩
  let hi : Bool := rn 92 % 2 == 0
  let v : Word := if hi then CN_WSTAT_LATCH_HI.into (BitVec.ofNat 32 (rn 5)) 1 else CN_WSTAT_LATCH_LO.into (BitVec.ofNat 32 (rn 5)) 1
  let s : State := calm ((List.range 8).foldl (fun s b => (s.put BLK_BLKCTL_OWNED 0 b).put BLK_BLKCTL_STATE 0 b) x |>.put CN_WSTAT_LATCH_LO 1 w.val |>.put CN_WSTAT_LATCH_HI 1 w.val |>.put CN_WSTAT_LOW (if hi then rn 7 % 2 else 0) w.val |>.put CN_WSTAT_HIGH (if hi then 0 else rn 7 % 2) w.val |>.put CN_WCTL_RBFAIL 0 w.val |>.put CN_WSTAT_SETTLING 0 w.val)
  ⟨s, m, w, hi, v, by decide +kernel⟩

theorem witness_CanaryTripsAndThresholds_8 : ∃ (s : State) (m : Master) (w : Win) (hi : Bool) (v : Word),
    s.busOpen m = true ∧
    s.mayWriteCell m (w.val / 2) = true ∧
    (winLatch hi).of (s.settle .CN_WSTAT v w.val) = 1 ∧
    s.on (winState hi) w.val = true ∧
    s.on (winLatch hi) w.val = true :=
  let x : State := State.reset
  let m : Master := .pair 3
  let w : Win := ⟨rn 4 % 96, by omega⟩
  let hi : Bool := rn 92 % 2 == 0
  let v : Word := if hi then CN_WSTAT_LATCH_HI.into (BitVec.ofNat 32 (rn 5)) 1 else CN_WSTAT_LATCH_LO.into (BitVec.ofNat 32 (rn 5)) 1
  let s : State := calm ((List.range 8).foldl (fun s b => (s.put BLK_BLKCTL_OWNED 0 b).put BLK_BLKCTL_STATE 0 b) x |>.put CN_WSTAT_LATCH_LO 1 w.val |>.put CN_WSTAT_LATCH_HI 1 w.val |>.put CN_WSTAT_LOW (if hi then rn 7 % 2 else 1) w.val |>.put CN_WSTAT_HIGH (if hi then 1 else rn 7 % 2) w.val |>.put CN_WCTL_RBFAIL 0 w.val |>.put CN_WSTAT_SETTLING 0 w.val)
  ⟨s, m, w, hi, v, by decide +kernel⟩

theorem witness_CanaryTripsAndThresholds_9 : ∃ (s : State) (m : Master) (w : Win) (hi : Bool) (v : Word),
    s.busOpen m = true ∧
    s.mayWriteCell m (w.val / 2) = true ∧
    ((winLatch hi).of v = 0 ∨ s.on CN_WSTAT_SETTLING w.val = true) :=
  let x : State := State.reset
  let m : Master := .pair 3
  let w : Win := ⟨rn 4 % 96, by omega⟩
  let hi : Bool := rn 92 % 2 == 0
  let v : Word := BitVec.ofNat 32 (rn 91)
  let s : State := calm ((List.range 8).foldl (fun s b => (s.put BLK_BLKCTL_OWNED 0 b).put BLK_BLKCTL_STATE 0 b) x |>.put CN_WSTAT_LATCH_LO 1 w.val |>.put CN_WSTAT_LATCH_HI 1 w.val |>.put CN_WSTAT_LOW 0 w.val |>.put CN_WSTAT_HIGH 0 w.val |>.put CN_WCTL_RBFAIL 0 w.val |>.put CN_WSTAT_SETTLING 0 w.val) |>.put CN_WSTAT_SETTLING 1 w.val
  ⟨s, m, w, hi, v, by decide +kernel⟩

theorem witness_CanaryTripsAndThresholds_10 : ∃ (s : State) (m : Master) (w : Win) (v : Word),
    s.busOpen m = true ∧
    s.mayWriteCell m (w.val / 2) = true ∧
    s.on CN_WCTL_FGUARD w.val = false ∧
    CN_WTHR_LO.of v ≤ CN_WTHR_HI.of v ∧
    changes (s.rdw .CN_WTHR w.val) v (BitVec.ofNat 32 RegId.CN_WTHR.reg.rw) = true :=
  let x : State := State.reset
  let m : Master := .pair 3
  let w : Win := ⟨rn 4 % 96, by omega⟩
  let v : Word := CN_WTHR_HI.into (CN_WTHR_LO.into 0 (rn 5 % 100)) (100 + rn 6 % 155)
  let s : State := (List.range 8).foldl (fun s b => (s.put BLK_BLKCTL_OWNED 0 b).put BLK_BLKCTL_STATE 0 b) x |>.put CN_WCTL_FGUARD 0 w.val
  ⟨s, m, w, v, by decide +kernel⟩

theorem witness_CanaryTripsAndThresholds_11 : ∃ (s : State) (m : Master) (w : Win) (v : Word),
    s.busOpen m = true ∧
    s.mayWriteCell m (w.val / 2) = true ∧
    (s.on CN_WCTL_FGUARD w.val = true ∨ CN_WTHR_HI.of v < CN_WTHR_LO.of v) ∧
    changes (s.rdw .CN_WTHR w.val) v (BitVec.ofNat 32 RegId.CN_WTHR.reg.rw) = true :=
  let x : State := State.reset
  let m : Master := .pair 3
  let w : Win := ⟨rn 4 % 96, by omega⟩
  let v : Word := CN_WTHR_LO.into (CN_WTHR_HI.into 0 (rn 5 % 100)) (100 + rn 6 % 155)
  let s : State := (List.range 8).foldl (fun s b => (s.put BLK_BLKCTL_OWNED 0 b).put BLK_BLKCTL_STATE 0 b) x |>.put CN_WCTL_FGUARD (rn 7 % 2) w.val
  ⟨s, m, w, v, by decide +kernel⟩

theorem witness_CanaryTripsAndThresholds_12 : ∃ (s : State) (m : Master) (w : Win) (v : Word),
    s.busOpen m = true ∧
    s.mayWriteCell m (w.val / 2) = true ∧
    changes (s.rdw .CN_WTHR w.val) v (BitVec.ofNat 32 RegId.CN_WTHR.reg.rw) = false :=
  let x : State := State.reset
  let m : Master := .pair 3
  let w : Win := ⟨rn 4 % 96, by omega⟩
  let s0 : State := (List.range 8).foldl (fun s b => (s.put BLK_BLKCTL_OWNED 0 b).put BLK_BLKCTL_STATE 0 b) x
  let v : Word := s0.rdw .CN_WTHR w.val
  let s : State := (List.range 8).foldl (fun s b => (s.put BLK_BLKCTL_OWNED 0 b).put BLK_BLKCTL_STATE 0 b) x
  ⟨s, m, w, v, by decide +kernel⟩

theorem witness_CanaryTripsAndThresholds_13 : ∃ (s : State) (w : Win) (d : Nat),
    s.deadline (.settle w.val) = some d :=
  let x : State := State.reset
  let w : Win := ⟨rn 4 % 96, by omega⟩
  let d : Nat := x.now+9
  let s : State := x.arm (.settle w.val) 9
  ⟨s, w, d, by decide +kernel⟩

theorem witness_CanaryTripsAndThresholds_14 : ∃ (s : State) (m : Master) (w : Win) (v : Word),
    s.busOpen m = true ∧
    s.mayWriteCell m (w.val / 2) = true ∧
    s.on CN_WCTL_FGUARD w.val = false ∧
    s.on CN_WCTL_EN w.val = false ∧
    (s.on CN_WCTL_RBFAIL w.val = false ∨ s.cellStopped (w.val / 2) = true) :=
  let x : State := State.reset
  let m : Master := .pair 3
  let w : Win := ⟨rn 4 % 96, by omega⟩
  let v : Word := BitVec.ofNat 32 (rn 91)
  let s : State := (List.range 8).foldl (fun s b => (s.put BLK_BLKCTL_OWNED 0 b).put BLK_BLKCTL_STATE 0 b) x |>.put CN_WCTL_FGUARD 0 w.val |>.put CN_WCTL_EN 0 w.val
  ⟨s, m, w, v, by decide +kernel⟩

theorem witness_CanaryTripsAndThresholds_15 : ∃ (s : State) (m : Master) (w : Win) (v : Word),
    s.busOpen m = true ∧
    s.mayWriteCell m (w.val / 2) = true ∧
    s.on CN_WCTL_FGUARD w.val = false ∧
    s.on CN_WCTL_EN w.val = true :=
  let x : State := State.reset
  let m : Master := .pair 3
  let w : Win := ⟨rn 4 % 96, by omega⟩
  let v : Word := BitVec.ofNat 32 (rn 91)
  let s : State := (List.range 8).foldl (fun s b => (s.put BLK_BLKCTL_OWNED 0 b).put BLK_BLKCTL_STATE 0 b) x |>.put CN_WCTL_FGUARD 0 w.val |>.put CN_WCTL_EN 1 w.val
  ⟨s, m, w, v, by decide +kernel⟩

theorem witness_CanaryTripsAndThresholds_16 : ∃ (s : State) (m : Master) (w : Win) (v : Word),
    s.busOpen m = true ∧
    s.mayWriteCell m (w.val / 2) = true ∧
    s.on CN_WCTL_FGUARD w.val = true ∧
    changes (s.rdw .CN_WCTL w.val) v (BitVec.ofNat 32 RegId.CN_WCTL.reg.rw) = true :=
  let x : State := State.reset
  let m : Master := .pair 3
  let w : Win := ⟨rn 4 % 96, by omega⟩
  let s0 : State := (List.range 8).foldl (fun s b => (s.put BLK_BLKCTL_OWNED 0 b).put BLK_BLKCTL_STATE 0 b) x |>.put CN_WCTL_FGUARD 1 w.val
  let v : Word := ~~~ (s0.rdw .CN_WCTL w.val)
  let s : State := (List.range 8).foldl (fun s b => (s.put BLK_BLKCTL_OWNED 0 b).put BLK_BLKCTL_STATE 0 b) x |>.put CN_WCTL_FGUARD 1 w.val
  ⟨s, m, w, v, by decide +kernel⟩

theorem witness_CanaryTripsAndThresholds_17 : ∃ (s : State) (m : Master) (w : Win) (v : Word),
    s.busOpen m = true ∧
    s.mayWriteCell m (w.val / 2) = true ∧
    s.on CN_WCTL_FGUARD w.val = false :=
  let x : State := State.reset
  let m : Master := .pair 3
  let w : Win := ⟨rn 4 % 96, by omega⟩
  let v : Word := BitVec.ofNat 32 (rn 91)
  let s : State := (List.range 8).foldl (fun s b => (s.put BLK_BLKCTL_OWNED 0 b).put BLK_BLKCTL_STATE 0 b) x |>.put CN_WCTL_FGUARD 0 w.val |>.put CN_WCTL_RBFAIL 0 w.val
  ⟨s, m, w, v, by decide +kernel⟩

theorem witness_CanaryTripsAndThresholds_18 : ∃ (s : State) (m : Master) (w : Win) (v : Word),
    s.busOpen m = true ∧
    s.mayWriteCell m (w.val / 2) = true ∧
    s.on CN_WCTL_FGUARD w.val = false ∧
    s.cellStopped (w.val / 2) = true :=
  let x : State := State.reset
  let m : Master := .pair 3
  let w : Win := ⟨rn 4 % 96, by omega⟩
  let v : Word := BitVec.ofNat 32 (rn 91)
  let s : State := (List.range 8).foldl (fun s b => (s.put BLK_BLKCTL_OWNED 0 b).put BLK_BLKCTL_STATE 0 b) x |>.put CN_WCTL_FGUARD 0 w.val
  ⟨s, m, w, v, by decide +kernel⟩

theorem witness_CanaryTripsAndThresholds_19 : ∃ (s : State) (m : Master) (w : Win) (v : Word),
    s.busOpen m = true ∧
    s.mayWriteCell m (w.val / 2) = true ∧
    s.on CN_WCTL_FGUARD w.val = false ∧
    s.cellStopped (w.val / 2) = false ∧
    s.on CN_WCTL_RBFAIL w.val = true :=
  let x : State := State.reset
  let m : Master := .pair 3
  let w : Win := ⟨rn 4 % 96, by omega⟩
  let v : Word := BitVec.ofNat 32 (rn 91)
  let s : State := (List.range 8).foldl (fun s b => (s.put BLK_BLKCTL_OWNED 0 b).put BLK_BLKCTL_STATE 2 b) x |>.wrw .BLK_BLKCELLS0 0xFFFFFFFF 0 |>.wrw .BLK_BLKCELLS1 0xFFFF 0 |>.put CN_WCTL_FGUARD 0 w.val |>.put CN_WCTL_RBFAIL 1 w.val
  ⟨s, m, w, v, by decide +kernel⟩

theorem witness_CarriersTurn_1 : ∃ (s : State) (g : Block),
    s.valleyNext g.val = true :=
  let x : State := State.reset
  let g : Block := ⟨rn 4 % 8, by omega⟩
  let s : State := ((x.put PW_GRPSTAT_RUN 1 g.val |>.put PW_GRPSTAT_DWELL 0 g.val |>.put WI_SSTAT_LOCKED 1 synPwm |>.put WI_SCTL_EN 1 synPwm |>.wrw .RS_RSTREL 0xFFFFFF)).updGrp g.val (fun u => {u with falling := true, lastAt := x.now * 64}) |>.updBlk g.val (fun u => {u with exit := some 0})
  ⟨s, g, by decide +kernel⟩

theorem witness_CarriersTurn_2 : ∃ (s : State) (g : Block) (u : UpdateSet),
    s.valleyNext g.val = true ∧
    s.get PW_GRPSTAT_NCOUNT g.val = 0 ∧
    s.on PW_GRPCTL_AUTOC g.val = false ∧
    (s.grp g.val).pend = some u ∧
    u.copied < s.now :=
  let x : State := State.reset
  let g : Block := ⟨rn 4 % 8, by omega⟩
  let u : UpdateSet := ⟨BitVec.ofNat 32 (70*65536 + rn 5 % 100000), 7, [], x.now⟩
  let s : State := ((x.put PW_GRPSTAT_RUN 1 g.val |>.put PW_GRPSTAT_DWELL 0 g.val |>.put WI_SSTAT_LOCKED 1 synPwm |>.put WI_SCTL_EN 1 synPwm |>.wrw .RS_RSTREL 0xFFFFFF) |>.put PW_GRPCTL_AUTOC 0 g.val |>.put PW_GRPSTAT_NCOUNT 0 g.val |> later).updGrp g.val (fun y => {y with falling := true, lastAt := x.now * 64, pend := some u}) |>.updBlk g.val (fun u => {u with exit := none})
  ⟨s, g, u, by decide +kernel⟩

theorem witness_CarriersTurn_3 : ∃ (s : State) (g : Block) (i : Nat),
    s.on PW_GRPSTAT_RUN g.val = false ∧
    (s.grp g.val).startAt = some i ∧
    s.on PW_GRPCTL_EN g.val = true ∧
    s.pwmClock = true :=
  let x : State := State.reset
  let g : Block := ⟨rn 4 % 8, by omega⟩
  let i : Nat := x.now * 64 + 128
  let s : State := ((x.put PW_GRPSTAT_RUN 1 g.val |>.put PW_GRPSTAT_DWELL 0 g.val |>.put WI_SSTAT_LOCKED 1 synPwm |>.put WI_SCTL_EN 1 synPwm |>.wrw .RS_RSTREL 0xFFFFFF) |>.put PW_GRPSTAT_RUN 0 g.val |>.put PW_GRPCTL_EN 1 g.val).updGrp g.val (fun u => {u with startAt := some i})
  ⟨s, g, i, by decide +kernel⟩

theorem witness_CarriersTurn_4 : ∃ (s : State) (g : Block),
    s.on PW_GRPSTAT_RUN g.val = true ∧
    s.pwmClock = true ∧
    (s.grp g.val).falling = false ∧
    s.on PW_GRPSTAT_DWELL g.val = false :=
  let x : State := State.reset
  let g : Block := ⟨rn 4 % 8, by omega⟩
  let s : State := ((x.put PW_GRPSTAT_RUN 1 g.val |>.put PW_GRPSTAT_DWELL 0 g.val |>.put WI_SSTAT_LOCKED 1 synPwm |>.put WI_SCTL_EN 1 synPwm |>.wrw .RS_RSTREL 0xFFFFFF)).updGrp g.val (fun u => {u with falling := false, lastAt := x.now * 64, dwell := rn 7 % 2 * 50}) |> fun y => (y.updChan 5 (fun u => {u with ovrWait := some 2})).wrw .BLK_BLKCELLS0 0x20 g.val
  ⟨s, g, by decide +kernel⟩

theorem witness_CarriersTurn_5 : ∃ (s : State) (g : Block),
    s.on PW_GRPSTAT_DWELL g.val = true ∧
    s.pwmClock = true :=
  let x : State := State.reset
  let g : Block := ⟨rn 4 % 8, by omega⟩
  let s : State := (x.put PW_GRPSTAT_DWELL 1 g.val |>.put WI_SSTAT_LOCKED 1 synPwm |>.put WI_SCTL_EN 1 synPwm |>.wrw .RS_RSTREL 0xFFFFFF).updGrp g.val (fun u => {u with dwellEnd := x.now * 64 + 100})
  ⟨s, g, by decide +kernel⟩

theorem witness_CarriersTurn_6 : ∃ (s : State) (g : Block),
    s.get PW_GRPCTL_SYNCSRC g.val = 2 ∧
    8 ≤ (s.grp g.val).missing :=
  let x : State := State.reset
  let g : Block := ⟨rn 4 % 8, by omega⟩
  let s : State := (x.put PW_GRPCTL_SYNCSRC 2 g.val).updGrp g.val (fun u => {u with missing := 8 + rn 5 % 4})
  ⟨s, g, by decide +kernel⟩

theorem witness_CarriersTurn_7 : ∃ (s : State) (g : Block),
    s.valleyNext g.val = true ∧
    s.get PW_GRPSTAT_NCOUNT g.val ≠ 0 :=
  let x : State := State.reset
  let g : Block := ⟨rn 4 % 8, by omega⟩
  let s : State := (((x.put PW_GRPSTAT_RUN 1 g.val |>.put PW_GRPSTAT_DWELL 0 g.val |>.put WI_SSTAT_LOCKED 1 synPwm |>.put WI_SCTL_EN 1 synPwm |>.wrw .RS_RSTREL 0xFFFFFF)) |>.put PW_GRPSTAT_NCOUNT 2 g.val).updGrp g.val (fun y => {y with falling := true, lastAt := x.now * 64})
  ⟨s, g, by decide +kernel⟩

theorem witness_CarriersTurn_8 : ∃ (s : State) (g : Block),
    s.valleyNext g.val = true ∧
    s.get PW_GRPSTAT_NCOUNT g.val = 0 ∧
    s.on PW_GRPCTL_AUTOC g.val = true ∧
    prdOk (s.get PW_GRPPRD_PRD g.val) (s.get PW_GRPCTL_PRE g.val) = true ∧
    (s.blkU g.val).exit = none :=
  let x : State := State.reset
  let g : Block := ⟨rn 4 % 8, by omega⟩
  let s : State := (((x.put PW_GRPSTAT_RUN 1 g.val |>.put PW_GRPSTAT_DWELL 0 g.val |>.put WI_SSTAT_LOCKED 1 synPwm |>.put WI_SCTL_EN 1 synPwm |>.wrw .RS_RSTREL 0xFFFFFF)) |>.put PW_GRPSTAT_NCOUNT 0 g.val |>.put PW_GRPCTL_AUTOC 1 g.val |>.put PW_GRPCTL_PRE 0 g.val |>.put PW_GRPPRD_PRD (70*65536 + rn 5 % 100000) g.val).updGrp g.val (fun y => {y with falling := true, lastAt := x.now * 64}) |>.updBlk g.val (fun u => {u with exit := none})
  ⟨s, g, by decide +kernel⟩

theorem witness_CarriersTurn_9 : ∃ (s : State) (g : Block) (c : Cell),
    s.valleyNext g.val = true ∧
    (s.blkU g.val).exit = none ∧
    s.blockOf c.val = some g.val :=
  let x : State := State.reset
  let g : Block := ⟨rn 4 % 8, by omega⟩
  let c : Cell := ⟨5, by omega⟩
  let s : State := (((x.put PW_GRPSTAT_RUN 1 g.val |>.put PW_GRPSTAT_DWELL 0 g.val |>.put WI_SSTAT_LOCKED 1 synPwm |>.put WI_SCTL_EN 1 synPwm |>.wrw .RS_RSTREL 0xFFFFFF)) |>.wrw .BLK_BLKCELLS0 0x20 g.val).updGrp g.val (fun y => {y with falling := true, lastAt := x.now * 64}) |>.updBlk g.val (fun u => {u with exit := none}) |>.updChan c.val (fun u => {u with done := true})
  ⟨s, g, c, by decide +kernel⟩

theorem witness_CarriersTurn_10 : ∃ (s : State) (g : Block),
    s.valleyNext g.val = false ∧
    ((s.grp g.val).startAt = none ∨ s.on PW_GRPCTL_EN g.val = false ∨ s.on PW_GRPSTAT_RUN g.val = true ∨ s.pwmClock = false) :=
  let x : State := State.reset
  let g : Block := ⟨rn 4 % 8, by omega⟩
  let s : State := ((x.put PW_GRPSTAT_RUN 1 g.val |>.put PW_GRPSTAT_DWELL 0 g.val |>.put WI_SSTAT_LOCKED 1 synPwm |>.put WI_SCTL_EN 1 synPwm |>.wrw .RS_RSTREL 0xFFFFFF)).updGrp g.val (fun y => {y with falling := false, startAt := some 9})
  ⟨s, g, by decide +kernel⟩

theorem witness_CarriersTurn_11 : ∃ (s : State) (g : Block),
    (s.on PW_GRPSTAT_RUN g.val = false ∨ s.pwmClock = false ∨ (s.grp g.val).falling = true ∨ s.on PW_GRPSTAT_DWELL g.val = true) :=
  let x : State := State.reset
  let g : Block := ⟨rn 4 % 8, by omega⟩
  let s : State := ((x.put PW_GRPSTAT_RUN 1 g.val |>.put PW_GRPSTAT_DWELL 0 g.val |>.put WI_SSTAT_LOCKED 1 synPwm |>.put WI_SCTL_EN 1 synPwm |>.wrw .RS_RSTREL 0xFFFFFF)).updGrp g.val (fun y => {y with falling := true, startAt := some 9})
  ⟨s, g, by decide +kernel⟩

theorem witness_CarriersTurn_12 : ∃ (s : State) (g : Block),
    (s.on PW_GRPSTAT_DWELL g.val = false ∨ s.pwmClock = false) :=
  let x : State := State.reset
  let g : Block := ⟨rn 4 % 8, by omega⟩
  let s : State := ((x.put PW_GRPSTAT_RUN 1 g.val |>.put PW_GRPSTAT_DWELL 0 g.val |>.put WI_SSTAT_LOCKED 1 synPwm |>.put WI_SCTL_EN 1 synPwm |>.wrw .RS_RSTREL 0xFFFFFF))
  ⟨s, g, by decide +kernel⟩

theorem witness_CarriersTurn_13 : ∃ (s : State) (g : Block),
    (s.get PW_GRPCTL_SYNCSRC g.val ≠ 2 ∨ (s.grp g.val).missing < 8) :=
  let x : State := State.reset
  let g : Block := ⟨rn 4 % 8, by omega⟩
  let s : State := x.updGrp g.val (fun y => {y with missing := rn 5 % 8})
  ⟨s, g, by decide +kernel⟩

theorem witness_ChannelsModulate_1 : ∃ (s : State) (c : Cell) (e : Nat),
    s.nextEdge c.val = some e ∧
    (s.blockOf c.val).isSome = true :=
  let x : State := State.reset
  let c : Cell := ⟨6, by omega⟩
  let s0 : State := ((owned x 3 2 2).put PW_GRPSTAT_RUN 1 2 |>.put PW_GRPSTAT_DWELL 0 2 |>.put WI_SSTAT_LOCKED 1 synPwm |>.put PW_GRPCTL_PRE 0 2 |>.put PW_GRPACT_PRD (1000*65536) 2).updChan c.val (fun _ => {(⟨⟨rn 20 % 2 == 0, false, some 5, false, false, rn 24 % 2 == 0, 5, 7⟩, ⟨rn 21 % 2 == 0, false, some 6, false, true, rn 24 % 2 == 0, 5, 7⟩, rn 22 % 2 == 0, false, BitVec.ofNat 32 (rn 23 % 65536), 64, 0, none, false, Vector.replicate 4 0, none, none, none, true, (0, false)⟩ : ChanU) with m := true}) |>.updGrp 2 (fun u => {u with falling := false, lastAt := x.now * 64})
  let e : Nat := (s0.nextEdge 6).getD 0
  let s : State := ((owned x 3 2 2).put PW_GRPSTAT_RUN 1 2 |>.put PW_GRPSTAT_DWELL 0 2 |>.put WI_SSTAT_LOCKED 1 synPwm |>.put PW_GRPCTL_PRE 0 2 |>.put PW_GRPACT_PRD (1000*65536) 2).updChan c.val (fun _ => {(⟨⟨rn 20 % 2 == 0, false, some 5, false, false, rn 24 % 2 == 0, 5, 7⟩, ⟨rn 21 % 2 == 0, false, some 6, false, true, rn 24 % 2 == 0, 5, 7⟩, rn 22 % 2 == 0, false, BitVec.ofNat 32 (rn 23 % 65536), 64, 0, none, false, Vector.replicate 4 0, none, none, none, true, (0, false)⟩ : ChanU) with m := true}) |>.updGrp 2 (fun u => {u with falling := false, lastAt := x.now * 64})
  ⟨s, c, e, by decide +kernel⟩

theorem witness_ChannelsModulate_2 : ∃ (s : State) (c : Cell) (g : Block) (up : Bool) (e : Nat),
    s.blockOf c.val = some g.val ∧
    s.on PW_GRPSTAT_RUN g.val = true ∧
    s.on PW_GRPSTAT_DWELL g.val = false ∧
    s.fine = true ∧
    (s.chan c.val).cmpWas = none ∧
    (s.chan c.val).m = up ∧
    (s.grp g.val).falling = !up ∧
    0 < countSteps (s.cmpOf c.val) (s.get PW_GRPCTL_PRE g.val) ∧
    countSteps (s.cmpOf c.val) (s.get PW_GRPCTL_PRE g.val) < s.halfSteps g.val ∧
    (e = (s.grp g.val).lastAt + (if up then countSteps (s.cmpOf c.val) (s.get PW_GRPCTL_PRE g.val) else s.halfSteps g.val - countSteps (s.cmpOf c.val) (s.get PW_GRPCTL_PRE g.val))) :=
  let x : State := State.reset
  let c : Cell := ⟨6, by omega⟩
  let g : Block := ⟨2, by omega⟩
  let up : Bool := rn 19 % 2 == 0
  let s0 : State := ((owned x 3 2 2).put PW_GRPSTAT_RUN 1 2 |>.put PW_GRPSTAT_DWELL 0 2 |>.put WI_SSTAT_LOCKED 1 synPwm |>.put PW_GRPCTL_PRE 0 2 |>.put PW_GRPACT_PRD (1000*65536) 2).updChan c.val (fun _ => {(⟨⟨rn 20 % 2 == 0, false, some 5, false, false, rn 24 % 2 == 0, 5, 7⟩, ⟨rn 21 % 2 == 0, false, some 6, false, true, rn 24 % 2 == 0, 5, 7⟩, rn 22 % 2 == 0, false, BitVec.ofNat 32 (rn 23 % 65536), 64, 0, none, false, Vector.replicate 4 0, none, none, none, true, (0, false)⟩ : ChanU) with m := up, duty := 0x4000}) |>.updGrp 2 (fun u => {u with falling := !up, lastAt := x.now * 64}) |>.put PW_CHCTL_FORM 0 6 |>.put WI_RSTAT_STATE 0 |>.put WI_SSCFG_MODE 0 synPwm
  let e : Nat := x.now * 64 + (if up then countSteps (s0.cmpOf 6) 0 else s0.halfSteps 2 - countSteps (s0.cmpOf 6) 0)
  let s : State := ((owned x 3 2 2).put PW_GRPSTAT_RUN 1 2 |>.put PW_GRPSTAT_DWELL 0 2 |>.put WI_SSTAT_LOCKED 1 synPwm |>.put PW_GRPCTL_PRE 0 2 |>.put PW_GRPACT_PRD (1000*65536) 2).updChan c.val (fun _ => {(⟨⟨rn 20 % 2 == 0, false, some 5, false, false, rn 24 % 2 == 0, 5, 7⟩, ⟨rn 21 % 2 == 0, false, some 6, false, true, rn 24 % 2 == 0, 5, 7⟩, rn 22 % 2 == 0, false, BitVec.ofNat 32 (rn 23 % 65536), 64, 0, none, false, Vector.replicate 4 0, none, none, none, true, (0, false)⟩ : ChanU) with m := up, duty := 0x4000}) |>.updGrp 2 (fun u => {u with falling := !up, lastAt := x.now * 64}) |>.put PW_CHCTL_FORM 0 6 |>.put WI_RSTAT_STATE 0 |>.put WI_SSCFG_MODE 0 synPwm
  ⟨s, c, g, up, e, by decide +kernel⟩

theorem witness_ChannelsModulate_3 : ∃ (s : State) (c : Cell),
    s.nextEdge c.val = none :=
  let x : State := State.reset
  let c : Cell := ⟨rn 4 % 48, by omega⟩
  let s : State := x.wrw .BLK_BLKCELLS0 0 |> fun y => (List.range 8).foldl (fun y g => y.put PW_GRPSTAT_RUN 0 g) y
  ⟨s, c, by decide +kernel⟩

theorem witness_ChannelsModulate_4 : ∃ (s : State) (c : Cell) (hi : Bool) (d : Nat),
    s.deadline (.turnOn c.val hi) = some d ∧
    ((s.outU c.val hi).waiting = false ∨ (s.outU c.val (!hi)).cmd = true) :=
  let x : State := State.reset
  let c : Cell := ⟨rn 4 % 48, by omega⟩
  let hi : Bool := rn 92 % 2 == 0
  let d : Nat := x.now + 9
  let s : State := (x.updChan c.val (fun u => {u with hi := {u.hi with waiting := false}, lo := {u.lo with waiting := false}})).arm (.turnOn c.val hi) 9
  ⟨s, c, hi, d, by decide +kernel⟩

theorem witness_ChannelsModulate_5 : ∃ (s : State) (c : Cell) (hi : Bool) (d : Nat),
    s.deadline (.turnOn c.val hi) = some d ∧
    (s.outU c.val hi).waiting = true ∧
    s.readyAt c.val hi ≤ (s.advanceTo d).instant ∧
    s.partnerOff c.val hi = false :=
  let x : State := State.reset
  let c : Cell := ⟨rn 4 % 48, by omega⟩
  let hi : Bool := rn 92 % 2 == 0
  let d : Nat := x.now + 9
  let s : State := (((x.put CG_PCTL_FBEN 1 c.val).put CG_PSTAT_FBH 1 c.val).put CG_PSTAT_FBL 1 c.val |>.updChan c.val (fun u => {u with hi := {u.hi with waiting := hi, cmd := hi, offAt := some (x.now*64 - 500)}, lo := {u.lo with waiting := !hi, cmd := !hi, offAt := some (x.now * 64 - 500)}, dt := 5 })).arm (.turnOn c.val hi) 9 |> fun y => {y with winder := {y.winder with base := (y.now+20) * 16000000}}
  ⟨s, c, hi, d, by decide +kernel⟩

theorem witness_ChannelsModulate_6 : ∃ (s : State) (c : Cell) (hi : Bool) (d : Nat),
    s.deadline (.turnOn c.val hi) = some d ∧
    (s.outU c.val hi).waiting = true ∧
    (s.outU c.val (!hi)).cmd = false ∧
    s.readyAt c.val hi ≤ 64 * max s.now d ∧
    s.partnerOff c.val hi = true ∧
    ((s.advanceTo d).nextEdge c.val = none ∨ s.readyAt c.val hi < ((s.advanceTo d).nextEdge c.val).getD 0) :=
  let x : State := State.reset
  let c : Cell := ⟨rn 4 % 48, by omega⟩
  let hi : Bool := rn 92 % 2 == 0
  let d : Nat := x.now + 9
  let s : State := (((x.put CG_PCTL_FBEN 0 c.val).put PW_GRPSTAT_RUN 0 2).wrw .BLK_BLKCELLS0 0 0 |>.updChan c.val (fun u => {u with hi := {u.hi with waiting := hi, cmd := hi, offAt := some (x.now*64)}, lo := {u.lo with waiting := !hi, cmd := !hi, offAt := some (x.now * 64)}, dt := 5, m := true })).arm (.turnOn c.val hi) 9 |> fun y => (List.range 8).foldl (fun y g => y.put PW_GRPSTAT_RUN 0 g) y
  ⟨s, c, hi, d, by decide +kernel⟩

theorem witness_ChannelsModulate_8 : ∃ (s : State) (m : Master) (c : Cell) (v : Word),
    s.busOpen m = true ∧
    s.mayWriteCell m c.val = true ∧
    s.cellStopped c.val = true ∧
    (PW_SAFE_SAFE.of v = 0 ∨ (PW_SAFE_SAFE.of v = 1 ∧ s.safeLow c.val = true)) :=
  let x : State := State.reset
  let m : Master := .pair ⟨rn 110 % 16, by omega⟩
  let c : Cell := ⟨rn 4 % 48, by omega⟩
  let v : Word := PW_SAFE_SAFE.into 0 (rn 7 % 2)
  let s : State := (List.range 8).foldl (fun s b => (s.put BLK_BLKCTL_OWNED 0 b).put BLK_BLKCTL_STATE 0 b) x |>.wrw .RS_OPTIMG 0xFFFFFFFF 2 |>.wrw .RS_OPTIMG 0xFFFFFFFF 3
  ⟨s, m, c, v, by decide +kernel⟩

theorem witness_ChannelsModulate_9 : ∃ (s : State) (m : Master) (c : Cell) (v : Word),
    s.busOpen m = true ∧
    s.mayWriteCell m c.val = true ∧
    PW_SAFE_SAFE.of v ≠ s.get PW_SAFE_SAFE c.val ∧
    (s.cellStopped c.val = false ∨ 2 ≤ PW_SAFE_SAFE.of v ∨ (PW_SAFE_SAFE.of v = 1 ∧ s.safeLow c.val = false)) :=
  let x : State := State.reset
  let m : Master := .pair ⟨rn 110 % 16, by omega⟩
  let c : Cell := ⟨rn 4 % 48, by omega⟩
  let v : Word := PW_SAFE_SAFE.into 0 (1 + rn 7 % 3)
  let s : State := (List.range 8).foldl (fun s b => (s.put BLK_BLKCTL_OWNED 0 b).put BLK_BLKCTL_STATE 0 b) x |>.put PW_SAFE_SAFE 0 c.val |>.wrw .RS_OPTIMG 0 2 |>.wrw .RS_OPTIMG 0 3
  ⟨s, m, c, v, by decide +kernel⟩

theorem witness_ChannelSettingsAreWritten_1 : ∃ (s : State) (m : Master) (g : Block) (v : Word),
    s.busOpen m = true ∧
    s.mayWriteBlock m g.val = true ∧
    s.on PW_GRPCTL_AUTOC g.val = false ∧
    prdOk (s.get PW_GRPPRD_PRD g.val) (s.get PW_GRPCTL_PRE g.val) = true :=
  let x : State := State.reset
  let m : Master := .pair ⟨rn 110 % 16, by omega⟩
  let g : Block := ⟨rn 4 % 8, by omega⟩
  let v : Word := BitVec.ofNat 32 (rn 91)
  let s : State := (List.range 8).foldl (fun s b => (s.put BLK_BLKCTL_OWNED 0 b).put BLK_BLKCTL_STATE 0 b) x |>.put PW_GRPCTL_AUTOC 0 g.val |>.put PW_GRPPRD_PRD (70*65536 + rn 5 % 100000) g.val |>.put PW_GRPCOMMIT_PENDING (rn 6 % 2) g.val
  ⟨s, m, g, v, by decide +kernel⟩

theorem witness_ChannelSettingsAreWritten_2 : ∃ (s : State) (m : Master) (g : Block) (v : Word),
    s.busOpen m = true ∧
    s.mayWriteBlock m g.val = true ∧
    s.on PW_GRPCTL_AUTOC g.val = false ∧
    prdOk (s.get PW_GRPPRD_PRD g.val) (s.get PW_GRPCTL_PRE g.val) = false :=
  let x : State := State.reset
  let m : Master := .pair ⟨rn 110 % 16, by omega⟩
  let g : Block := ⟨rn 4 % 8, by omega⟩
  let v : Word := BitVec.ofNat 32 (rn 91)
  let s : State := (List.range 8).foldl (fun s b => (s.put BLK_BLKCTL_OWNED 0 b).put BLK_BLKCTL_STATE 0 b) x |>.put PW_GRPCTL_AUTOC 0 g.val |>.put PW_GRPPRD_PRD 7 g.val |>.put PW_GRPCOMMIT_PENDING (rn 6 % 2) g.val
  ⟨s, m, g, v, by decide +kernel⟩

theorem witness_ChannelSettingsAreWritten_3 : ∃ (s : State) (m : Master) (g : Block) (v : Word),
    s.busOpen m = true ∧
    s.mayWriteBlock m g.val = true ∧
    s.on PW_GRPCTL_AUTOC g.val = true :=
  let x : State := State.reset
  let m : Master := .pair ⟨rn 110 % 16, by omega⟩
  let g : Block := ⟨rn 4 % 8, by omega⟩
  let v : Word := BitVec.ofNat 32 (rn 91)
  let s : State := (List.range 8).foldl (fun s b => (s.put BLK_BLKCTL_OWNED 0 b).put BLK_BLKCTL_STATE 0 b) x |>.put PW_GRPCTL_AUTOC 1 g.val
  ⟨s, m, g, v, by decide +kernel⟩

theorem witness_ChannelSettingsAreWritten_4 : ∃ (s : State) (m : Master) (g : Block) (v : Word),
    s.busOpen m = true ∧
    s.mayWriteBlock m g.val = true ∧
    s.blk g.val = blkStopped ∧
    PW_GRPCTL_SYNCSRC.of v ≠ 3 ∧
    s.on PW_GRPCTL_EN g.val = false ∧
    prdOk (s.get PW_GRPPRD_PRD g.val) (PW_GRPCTL_PRE.of v) = true :=
  let x : State := State.reset
  let m : Master := .pair ⟨rn 110 % 16, by omega⟩
  let g : Block := ⟨rn 4 % 8, by omega⟩
  let v : Word := PW_GRPCTL_PRE.into (PW_GRPCTL_SYNCSRC.into (BitVec.ofNat 32 (rn 8)) (rn 7 % 3)) 1
  let s : State := (List.range 8).foldl (fun s b => (s.put BLK_BLKCTL_OWNED 0 b).put BLK_BLKCTL_STATE 0 b) x |>.put PW_GRPCTL_EN 0 g.val |>.put PW_GRPPRD_PRD (70*65536 + rn 5 % 100000) g.val |>.wrw .BLK_BLKCELLS0 0x70 g.val
  ⟨s, m, g, v, by decide +kernel⟩

theorem witness_ChannelSettingsAreWritten_5 : ∃ (s : State) (m : Master) (g : Block) (v : Word),
    s.busOpen m = true ∧
    s.mayWriteBlock m g.val = true ∧
    s.on PW_GRPCTL_EN g.val = false ∧
    (s.blk g.val ≠ blkStopped ∨ PW_GRPCTL_SYNCSRC.of v = 3) :=
  let x : State := State.reset
  let m : Master := .pair ⟨rn 110 % 16, by omega⟩
  let g : Block := ⟨rn 4 % 8, by omega⟩
  let v : Word := PW_GRPCTL_SYNCSRC.into (BitVec.ofNat 32 (rn 8)) 3
  let s : State := (List.range 8).foldl (fun s b => (s.put BLK_BLKCTL_OWNED 0 b).put BLK_BLKCTL_STATE 0 b) x |>.put PW_GRPCTL_EN 0 g.val
  ⟨s, m, g, v, by decide +kernel⟩

theorem witness_ChannelSettingsAreWritten_6 : ∃ (s : State) (m : Master) (g : Block) (v : Word),
    s.busOpen m = true ∧
    s.mayWriteBlock m g.val = true ∧
    s.on PW_GRPCTL_EN g.val = false ∧
    s.blk g.val = blkStopped ∧
    PW_GRPCTL_SYNCSRC.of v ≠ 3 ∧
    prdOk (s.get PW_GRPPRD_PRD g.val) (PW_GRPCTL_PRE.of v) = false :=
  let x : State := State.reset
  let m : Master := .pair ⟨rn 110 % 16, by omega⟩
  let g : Block := ⟨rn 4 % 8, by omega⟩
  let v : Word := PW_GRPCTL_SYNCSRC.into (BitVec.ofNat 32 (rn 8)) 1
  let s : State := (List.range 8).foldl (fun s b => (s.put BLK_BLKCTL_OWNED 0 b).put BLK_BLKCTL_STATE 0 b) x |>.put PW_GRPCTL_EN 0 g.val |>.put PW_GRPPRD_PRD 7 g.val
  ⟨s, m, g, v, by decide +kernel⟩

theorem witness_ChannelSettingsAreWritten_7 : ∃ (s : State) (m : Master) (g : Block) (v : Word),
    s.busOpen m = true ∧
    s.mayWriteBlock m g.val = true ∧
    s.on PW_GRPCTL_EN g.val = true ∧
    changes (s.rdw .PW_GRPCTL g.val) (PW_GRPCTL_EN.into v 1) (BitVec.ofNat 32 RegId.PW_GRPCTL.reg.rw) = false :=
  let x : State := State.reset
  let m : Master := .pair ⟨rn 110 % 16, by omega⟩
  let g : Block := ⟨rn 4 % 8, by omega⟩
  let s0 : State := (List.range 8).foldl (fun s b => (s.put BLK_BLKCTL_OWNED 0 b).put BLK_BLKCTL_STATE 0 b) x |>.put PW_GRPCTL_EN 1 g.val
  let v : Word := s0.rdw .PW_GRPCTL g.val
  let s : State := (List.range 8).foldl (fun s b => (s.put BLK_BLKCTL_OWNED 0 b).put BLK_BLKCTL_STATE 0 b) x |>.put PW_GRPCTL_EN 1 g.val
  ⟨s, m, g, v, by decide +kernel⟩

theorem witness_ChannelSettingsAreWritten_8 : ∃ (s : State) (m : Master) (c : Cell) (v : Word),
    s.busOpen m = true ∧
    s.mayWriteCell m c.val = true :=
  let x : State := State.reset
  let m : Master := .pair ⟨rn 110 % 16, by omega⟩
  let c : Cell := ⟨rn 4 % 48, by omega⟩
  let v : Word := BitVec.ofNat 32 (rn 91)
  let s : State := (List.range 8).foldl (fun s b => (s.put BLK_BLKCTL_OWNED 0 b).put BLK_BLKCTL_STATE 0 b) x
  ⟨s, m, c, v, by decide +kernel⟩

theorem witness_ChannelSettingsAreWritten_9 : ∃ (s : State) (m : Master) (c : Cell) (v : Word),
    s.busOpen m = true ∧
    s.mayWriteCell m c.val = true ∧
    shoots v = true :=
  let x : State := State.reset
  let m : Master := .pair ⟨rn 110 % 16, by omega⟩
  let c : Cell := ⟨rn 4 % 48, by omega⟩
  let v : Word := PW_OVR_FRCL.into (PW_OVR_FRCH.into (BitVec.ofNat 32 (rn 6)) 2) 0
  let s : State := (List.range 8).foldl (fun s b => (s.put BLK_BLKCTL_OWNED 0 b).put BLK_BLKCTL_STATE 0 b) x
  ⟨s, m, c, v, by decide +kernel⟩

theorem witness_ChannelSettingsAreWritten_10 : ∃ (s : State) (m : Master) (c : Cell) (v : Word),
    s.busOpen m = true ∧
    s.mayWriteCell m c.val = true ∧
    shoots v = false :=
  let x : State := State.reset
  let m : Master := .pair ⟨rn 110 % 16, by omega⟩
  let c : Cell := ⟨rn 4 % 48, by omega⟩
  let v : Word := PW_OVR_FRCL.into (PW_OVR_FRCH.into (BitVec.ofNat 32 (rn 6)) (rn 7 % 2)) (rn 8 % 2)
  let s : State := (List.range 8).foldl (fun s b => (s.put BLK_BLKCTL_OWNED 0 b).put BLK_BLKCTL_STATE 0 b) x |>.updChan c.val (fun _ => ⟨⟨rn 20 % 2 == 0, false, some 5, false, false, rn 24 % 2 == 0, 5, 7⟩, ⟨rn 21 % 2 == 0, false, some 6, false, true, rn 24 % 2 == 0, 5, 7⟩, rn 22 % 2 == 0, false, BitVec.ofNat 32 (rn 23 % 65536), 64, 0, none, false, Vector.replicate 4 0, none, none, none, true, (0, false)⟩)
  ⟨s, m, c, v, by decide +kernel⟩

theorem witness_CagePortsLatchAndSequence_1 : ∃ (s : State) (c : Cell) (hi level : Bool),
    s.on CG_PCTL_FBEN c.val = false :=
  let x : State := State.reset
  let c : Cell := ⟨rn 4 % 48, by omega⟩
  let hi : Bool := rn 5 % 2 == 0
  let level : Bool := rn 6 % 2 == 0
  let s : State := x.put CG_PCTL_FBEN 0 c.val
  ⟨s, c, hi, level, by decide +kernel⟩

theorem witness_CagePortsLatchAndSequence_2 : ∃ (s : State) (c : Cell) (hi level : Bool),
    s.on (fbField hi) c.val = s.fbLevel c.val level :=
  let x : State := State.reset
  let c : Cell := ⟨rn 4 % 48, by omega⟩
  let hi : Bool := rn 5 % 2 == 0
  let level : Bool := rn 6 % 2 == 0
  let s : State := x.put (fbField hi) (x.fbLevel c.val level).toNat c.val
  ⟨s, c, hi, level, by decide +kernel⟩

theorem witness_CagePortsLatchAndSequence_4 : ∃ (s : State) (c : Cell) (hi level : Bool),
    s.on CG_PCTL_FBEN c.val = true ∧
    s.on (fbField hi) c.val ≠ s.fbLevel c.val level ∧
    s.fbLevel c.val level ≠ (s.outU c.val hi).pin ∧
    s.armed (.fbCheck c.val hi) = false ∧
    (s.outU c.val (!hi)).waiting = false ∧
    s.on CG_PSTAT_FB_MISMATCH c.val = false ∧
    s.routed (448 + c.val) = true :=
  let x : State := State.reset
  let c : Cell := ⟨rn 4 % 48, by omega⟩
  let hi : Bool := rn 5 % 2 == 0
  let level : Bool := rn 6 % 2 == 0
  let s : State := (((x.put CG_PCTL_FBEN 1 c.val).put (fbField hi) (1 - (x.fbLevel c.val level).toNat) c.val).put CG_PSTAT_FB_MISMATCH 0 c.val |>.updChan c.val (fun u => {u with hi := {u.hi with pin := !(x.fbLevel c.val level), waiting := false}, lo := {u.lo with pin := !(x.fbLevel c.val level), waiting := false}})).put IC_SRCCFG_TARGET (rn 15 % 17) (448 + c.val) |>.put IC_SRCCFG_TARGET (rn 16 % 17) 498 
  ⟨s, c, hi, level, by decide +kernel⟩

theorem witness_CagePortsLatchAndSequence_5 : ∃ (s : State) (c : Cell) (hi level : Bool) (b : Block),
    s.on CG_PCTL_FBEN c.val = true ∧
    s.fbLevel c.val level = true ∧
    s.on (fbField hi) c.val = false ∧
    s.on (fbField (!hi)) c.val = true ∧
    s.on CG_PSTAT_FB_BOTHON c.val = false ∧
    s.blockOf c.val = some b.val ∧
    s.on CG_BSTAT_TURNOFF b.val = false :=
  let x : State := State.reset
  let c : Cell := ⟨6, by omega⟩
  let hi : Bool := rn 5 % 2 == 0
  let level : Bool := rn 6 % 2 == 0
  let b : Block := ⟨2, by omega⟩
  let s : State := ((((owned x 3 2 2).put CG_PCTL_FBEN 1 6).put (fbField hi) 0 6).put (fbField (!hi)) 1 6 |>.put CG_PSTAT_FB_BOTHON 0 6 |>.put CG_BSTAT_TURNOFF 0 2 |>.put CG_PCTL_FBPOL (if level then 0 else 1) 6)
  ⟨s, c, hi, level, b, by decide +kernel⟩

theorem witness_CagePortsLatchAndSequence_6 : ∃ (s : State) (c : Cell) (hi : Bool) (d : Nat),
    s.deadline (.fbCheck c.val hi) = some d ∧
    s.on CG_PCTL_FBEN c.val = true ∧
    (s.outU c.val hi).reached = false ∧
    s.on CG_PSTAT_FB_TIMEOUT c.val = false ∧
    s.routed (448 + c.val) = true :=
  let x : State := State.reset
  let c : Cell := ⟨rn 4 % 48, by omega⟩
  let hi : Bool := rn 5 % 2 == 0
  let d : Nat := x.now + 30
  let s : State := (((x.put CG_PCTL_FBEN 1 c.val).put (fbField hi) 1 c.val).put CG_PSTAT_FB_TIMEOUT 0 c.val |>.updChan c.val (fun u => {u with hi := {u.hi with reached := false}, lo := {u.lo with reached := false}})).arm (.fbCheck c.val hi) 30|>.put IC_SRCCFG_TARGET (rn 15 % 17) (448 + c.val) |>.put IC_SRCCFG_TARGET (rn 16 % 17) 498 
  ⟨s, c, hi, d, by decide +kernel⟩

theorem witness_CagePortsLatchAndSequence_7 : ∃ (s : State) (c : Cell) (hi : Bool) (d : Nat),
    s.deadline (.fbCheck c.val hi) = some d ∧
    (s.on CG_PCTL_FBEN c.val = false ∨ (s.outU c.val hi).reached = true) :=
  let x : State := State.reset
  let c : Cell := ⟨rn 4 % 48, by omega⟩
  let hi : Bool := rn 5 % 2 == 0
  let d : Nat := x.now + 30
  let s : State := (x.put CG_PCTL_FBEN 0 c.val).arm (.fbCheck c.val hi) 30
  ⟨s, c, hi, d, by decide +kernel⟩

theorem witness_CagePortsLatchAndSequence_8 : ∃ (s : State) (c : Cell) (u : Nat),
    u = (s.chan c.val).dsat.1 + s.get CG_PCTL_DSFILT c.val ∧
    (s.on CG_PCTL_DSEN c.val = false ∨ s.on CG_PSTAT_DSAT c.val = false ∨ s.on CG_PSTAT_DS_LATCH c.val = true ∨ (s.advanceTo u).dsOutput c.val = none) :=
  let x : State := State.reset
  let c : Cell := ⟨rn 4 % 48, by omega⟩
  let s0 : State := x.put CG_PCTL_DSEN 0 c.val
  let u : Nat := (s0.chan c.val).dsat.1 + s0.get CG_PCTL_DSFILT c.val
  let s : State := x.put CG_PCTL_DSEN 0 c.val
  ⟨s, c, u, by decide +kernel⟩

theorem witness_CagePortsLatchAndSequence_9 : ∃ (s : State) (c : Cell) (hi : Bool) (b : Block) (u : Nat),
    u = (s.chan c.val).dsat.1 + s.get CG_PCTL_DSFILT c.val ∧
    s.on CG_PCTL_DSEN c.val = true ∧
    s.on CG_PSTAT_DSAT c.val = true ∧
    s.on CG_PSTAT_DS_LATCH c.val = false ∧
    (s.advanceTo u).dsOutput c.val = some hi ∧
    s.blockOf c.val = some b.val ∧
    s.on CG_BSTAT_TURNOFF b.val = false ∧
    s.routed (496 + b.val) = true :=
  let x : State := State.reset
  let c : Cell := ⟨6, by omega⟩
  let hi : Bool := rn 5 % 2 == 0
  let b : Block := ⟨2, by omega⟩
  let s0 : State := (((owned x 3 2 2).put CG_PCTL_DSEN 1 6).put CG_PSTAT_DSAT 1 6 |>.put CG_PSTAT_DS_LATCH 0 6 |>.put CG_BSTAT_TURNOFF 0 2 |>.put CG_PSTAT_BLANKING 0 6 |>.updChan 6 (fun u => {u with hi := {u.hi with pin := hi}, lo := {u.lo with pin := !hi}, dsat := (x.now, false)})).put IC_SRCCFG_TARGET (rn 15 % 17) (448 + c.val) |>.put IC_SRCCFG_TARGET (rn 16 % 17) 498 
  let u : Nat := (s0.chan c.val).dsat.1 + s0.get CG_PCTL_DSFILT c.val
  let s : State := (((owned x 3 2 2).put CG_PCTL_DSEN 1 6).put CG_PSTAT_DSAT 1 6 |>.put CG_PSTAT_DS_LATCH 0 6 |>.put CG_BSTAT_TURNOFF 0 2 |>.put CG_PSTAT_BLANKING 0 6 |>.updChan 6 (fun u => {u with hi := {u.hi with pin := hi}, lo := {u.lo with pin := !hi}, dsat := (x.now, false)})).put IC_SRCCFG_TARGET (rn 15 % 17) (448 + c.val) |>.put IC_SRCCFG_TARGET (rn 16 % 17) 498 
  ⟨s, c, hi, b, u, by decide +kernel⟩

theorem witness_CagePortsLatchAndSequence_11 : ∃ (s : State) (c : Cell) (d : Nat),
    s.deadline (.blank c.val) = some d :=
  let x : State := State.reset
  let c : Cell := ⟨rn 4 % 48, by omega⟩
  let d : Nat := x.now+8
  let s : State := (x.put CG_PSTAT_BLANKING 1 c.val).arm (.blank c.val) 8
  ⟨s, c, d, by decide +kernel⟩

theorem witness_CagePortsLatchAndSequence_12 : ∃ (s : State) (b : Block) (d : Nat),
    s.deadline (.softStep b.val) = some d :=
  let x : State := State.reset
  let b : Block := ⟨rn 4 % 8, by omega⟩
  let d : Nat := x.now+8
  let s : State := (x.put CG_BSTAT_SOFT 1 b.val).arm (.softStep b.val) 8
  ⟨s, b, d, by decide +kernel⟩

theorem witness_CagePortsLatchAndSequence_13 : ∃ (s : State) (m : Master) (c : Cell) (b : Block) (v : Word),
    s.busOpen m = true ∧
    s.mayWriteCell m c.val = true ∧
    s.dsFiltered c.val = false ∧
    s.on CG_PSTAT_FBH c.val = false ∧
    s.on CG_PSTAT_FBL c.val = false ∧
    CG_PCTL_FBPOL.of v = s.get CG_PCTL_FBPOL c.val ∧
    CG_PCTL_DSPOL.of v = s.get CG_PCTL_DSPOL c.val ∧
    CG_PCTL_DSFILT.of v = s.get CG_PCTL_DSFILT c.val ∧
    s.blockOf c.val = some b.val ∧
    (∀ k : Cell, s.blockOf k.val = some b.val → k ≠ c → s.on CG_PSTAT_DS_LATCH k.val = false ∧ s.on CG_PSTAT_FB_BOTHON k.val = false) ∧
    (∃ k : Fin 4, s.on (portLatches.getD k.val CG_PSTAT_DS_LATCH) c.val = true) :=
  let x : State := State.reset
  let m : Master := .pair ⟨rn 110 % 16, by omega⟩
  let c : Cell := ⟨6, by omega⟩
  let b : Block := ⟨2, by omega⟩
  let v : Word := CG_PCTL_DSFILT.into (CG_PCTL_FBPOL.into (CG_PCTL_DSPOL.into (BitVec.ofNat 32 (rn 7)) (x.get CG_PCTL_DSPOL c.val)) (x.get CG_PCTL_FBPOL c.val)) (x.get CG_PCTL_DSFILT c.val)
  let s : State := ((List.range 8).foldl (fun s b => (s.put BLK_BLKCTL_OWNED 0 b).put BLK_BLKCTL_STATE 0 b) x).wrw .CG_PSTAT 0xFFFF c.val |>.put CG_PSTAT_DSAT 0 c.val |>.put CG_PSTAT_FBH 0 c.val |>.put CG_PSTAT_FBL 0 c.val |>.updChan c.val (fun u => {u with dsat := (0, false)}) |> fun y => (owned y 3 2 0).put BLK_BLKCTL_OWNED 0 2 |>.wrw .BLK_BLKCELLS0 0x40 2
  ⟨s, m, c, b, v, by decide +kernel⟩

theorem witness_CagePortsLatchAndSequence_14 : ∃ (s : State) (m : Master) (c : Cell) (v : Word),
    s.busOpen m = true ∧
    s.mayWriteCell m c.val = true ∧
    s.dsFiltered c.val = false ∧
    CG_PCTL_DSFILT.of v = s.get CG_PCTL_DSFILT c.val ∧
    s.on CG_PSTAT_FBH c.val = false ∧
    s.on CG_PSTAT_FBL c.val = false ∧
    CG_PCTL_FBPOL.of v = s.get CG_PCTL_FBPOL c.val ∧
    CG_PCTL_DSPOL.of v = s.get CG_PCTL_DSPOL c.val :=
  let x : State := State.reset
  let m : Master := .pair ⟨rn 110 % 16, by omega⟩
  let c : Cell := ⟨rn 4 % 48, by omega⟩
  let v : Word := CG_PCTL_DSFILT.into (CG_PCTL_FBPOL.into (CG_PCTL_DSPOL.into (BitVec.ofNat 32 (rn 7)) (x.get CG_PCTL_DSPOL c.val)) (x.get CG_PCTL_FBPOL c.val)) (x.get CG_PCTL_DSFILT c.val)
  let s : State := ((List.range 8).foldl (fun s b => (s.put BLK_BLKCTL_OWNED 0 b).put BLK_BLKCTL_STATE 0 b) x).wrw .CG_PSTAT 0xFFFF c.val |>.put CG_PSTAT_DSAT 0 c.val |>.put CG_PSTAT_FBH 0 c.val |>.put CG_PSTAT_FBL 0 c.val |>.updChan c.val (fun u => {u with dsat := (0, false)})
  ⟨s, m, c, v, by decide +kernel⟩

theorem witness_CagePortsLatchAndSequence_15 : ∃ (s : State) (m : Master) (c : Cell) (v : Word) (k : Fin 4),
    s.busOpen m = true ∧
    s.mayWriteCell m c.val = true ∧
    k ≠ 0 ∧
    (s.on CG_PSTAT_FBH c.val = true ∨ s.on CG_PSTAT_FBL c.val = true) ∧
    s.on (portLatches.getD k.val CG_PSTAT_DS_LATCH) c.val = true ∧
    CG_PCTL_FBPOL.of v = s.get CG_PCTL_FBPOL c.val :=
  let x : State := State.reset
  let m : Master := .pair ⟨rn 110 % 16, by omega⟩
  let c : Cell := ⟨rn 4 % 48, by omega⟩
  let v : Word := CG_PCTL_FBPOL.into (CG_PCTL_DSPOL.into (BitVec.ofNat 32 (rn 7)) (x.get CG_PCTL_DSPOL c.val)) (x.get CG_PCTL_FBPOL c.val)
  let k : Fin 4 := ⟨1 + rn 9 % 3, by omega⟩
  let s : State := ((List.range 8).foldl (fun s b => (s.put BLK_BLKCTL_OWNED 0 b).put BLK_BLKCTL_STATE 0 b) x).wrw .CG_PSTAT 0xFFFF c.val |>.put CG_PSTAT_FBH 1 c.val
  ⟨s, m, c, v, k, by decide +kernel⟩

theorem witness_CagePortsLatchAndSequence_16 : ∃ (s : State) (m : Master) (c : Cell) (v : Word),
    s.busOpen m = true ∧
    s.mayWriteCell m c.val = true ∧
    s.dsFiltered c.val = true ∧
    CG_PCTL_DSFILT.of v = s.get CG_PCTL_DSFILT c.val ∧
    s.on CG_PSTAT_DS_LATCH c.val = true ∧
    CG_PCTL_DSPOL.of v = s.get CG_PCTL_DSPOL c.val ∧
    CG_PCTL_FBPOL.of v = s.get CG_PCTL_FBPOL c.val :=
  let x : State := State.reset
  let m : Master := .pair ⟨rn 110 % 16, by omega⟩
  let c : Cell := ⟨rn 4 % 48, by omega⟩
  let v : Word := CG_PCTL_DSFILT.into (CG_PCTL_FBPOL.into (CG_PCTL_DSPOL.into (BitVec.ofNat 32 (rn 7)) (x.get CG_PCTL_DSPOL c.val)) (x.get CG_PCTL_FBPOL c.val)) (x.get CG_PCTL_DSFILT c.val)
  let s : State := ((List.range 8).foldl (fun s b => (s.put BLK_BLKCTL_OWNED 0 b).put BLK_BLKCTL_STATE 0 b) x).wrw .CG_PSTAT 0xFFFF c.val |>.put CG_PSTAT_DSAT 1 c.val |>.put CG_PSTAT_DS_LATCH 1 c.val |>.updChan c.val (fun u => {u with dsat := (0, true)})
  ⟨s, m, c, v, by decide +kernel⟩

theorem witness_RampsRun_1 : ∃ (s : State) (m : Master) (r : Gen) (v : Word),
    s.busOpen m = true ∧
    s.mayWriteCell m (s.rampCell r.val) = true ∧
    s.rampState r.val = rampIdle ∧
    RG_RCTL_CELL.of v = s.rampCell r.val ∧
    (s.blockOf (s.rampCell r.val)).isSome = true ∧
    RG_RCTL_EN.of v = 1 ∧
    RG_RCTL_ALIGN.of v = 1 ∧
    RG_RCTL_STOP.of v = 0 :=
  let x : State := State.reset
  let m : Master := .pair ⟨rn 110 % 16, by omega⟩
  let r : Gen := ⟨rn 4 % 24, by omega⟩
  let v : Word := RG_RCTL_CELL.into (RG_RCTL_EN.into (RG_RCTL_ALIGN.into (RG_RCTL_STOP.into (BitVec.ofNat 32 (rn 6)) 0) 1) 1) 6
  let s : State := (((owned x 3 2 0).put BLK_BLKCTL_OWNED 0 2).put RG_RCTL_CELL 6 r.val).put RG_RSTAT_STATE 0 r.val
  ⟨s, m, r, v, by decide +kernel⟩

theorem witness_RampsRun_2 : ∃ (s : State) (m : Master) (r : Gen) (v : Word),
    s.busOpen m = true ∧
    s.mayWriteCell m (s.rampCell r.val) = true ∧
    s.rampState r.val = rampIdle ∧
    RG_RCTL_CELL.of v = s.rampCell r.val ∧
    (s.blockOf (s.rampCell r.val)).isSome = true ∧
    RG_RCTL_EN.of v = 1 ∧
    RG_RCTL_ALIGN.of v = 0 ∧
    RG_RCTL_STOP.of v = 0 :=
  let x : State := State.reset
  let m : Master := .pair ⟨rn 110 % 16, by omega⟩
  let r : Gen := ⟨rn 4 % 24, by omega⟩
  let v : Word := RG_RCTL_CELL.into (RG_RCTL_EN.into (RG_RCTL_ALIGN.into (RG_RCTL_STOP.into (BitVec.ofNat 32 (rn 6)) 0) 0) 1) 6
  let s : State := (((owned x 3 2 0).put BLK_BLKCTL_OWNED 0 2).put RG_RCTL_CELL 6 r.val).put RG_RSTAT_STATE 0 r.val
  ⟨s, m, r, v, by decide +kernel⟩

theorem witness_RampsRun_3 : ∃ (s : State) (m : Master) (r : Gen) (v : Word),
    s.busOpen m = true ∧
    s.mayWriteCell m (s.rampCell r.val) = true ∧
    RG_RCTL_CELL.of v = s.rampCell r.val :=
  let x : State := State.reset
  let m : Master := .pair ⟨rn 110 % 16, by omega⟩
  let r : Gen := ⟨rn 4 % 24, by omega⟩
  let v : Word := RG_RCTL_CELL.into (BitVec.ofNat 32 (rn 6)) (x.put RG_RCTL_CELL 63 r.val |>.rampCell r.val)
  let s : State := (((List.range 8).foldl (fun s b => (s.put BLK_BLKCTL_OWNED 0 b).put BLK_BLKCTL_STATE 0 b) x).put RG_RSTAT_STATE (1 + rn 6 % 3) r.val).put RG_RCTL_CELL 63 r.val
  ⟨s, m, r, v, by decide +kernel⟩

theorem witness_RampsRun_4 : ∃ (s : State) (m : Master) (r : Gen) (v : Word),
    s.busOpen m = true ∧
    s.mayWriteCell m (s.rampCell r.val) = true ∧
    RG_RCTL_CELL.of v = s.rampCell r.val ∧
    (s.rampState r.val ≠ rampIdle ∨ s.blockOf (s.rampCell r.val) = none) ∧
    RG_RCTL_STOP.of v = 0 ∧
    RG_RCTL_RELEASE.of v = 0 :=
  let x : State := State.reset
  let m : Master := .pair ⟨rn 110 % 16, by omega⟩
  let r : Gen := ⟨rn 4 % 24, by omega⟩
  let v : Word := RG_RCTL_RELEASE.into (RG_RCTL_STOP.into (RG_RCTL_CELL.into (BitVec.ofNat 32 (rn 6)) 63) 0) 0
  let s : State := (((List.range 8).foldl (fun s b => (s.put BLK_BLKCTL_OWNED 0 b).put BLK_BLKCTL_STATE 0 b) x).put RG_RSTAT_STATE (1 + rn 6 % 3) r.val).put RG_RCTL_CELL 63 r.val
  ⟨s, m, r, v, by decide +kernel⟩

theorem witness_RampsRun_5 : ∃ (s : State) (m : Master) (r : Gen) (v : Word),
    s.busOpen m = true ∧
    s.mayWriteCell m (s.rampCell r.val) = true ∧
    RG_RCTL_CELL.of v = s.rampCell r.val ∧
    s.rampState r.val ≠ rampHeld ∧
    RG_RCTL_STOP.of v = 0 ∧
    RG_RCTL_GO.of v = 0 :=
  let x : State := State.reset
  let m : Master := .pair ⟨rn 110 % 16, by omega⟩
  let r : Gen := ⟨rn 4 % 24, by omega⟩
  let v : Word := RG_RCTL_GO.into (RG_RCTL_STOP.into (RG_RCTL_CELL.into (BitVec.ofNat 32 (rn 6)) 63) 0) 0
  let s : State := (((List.range 8).foldl (fun s b => (s.put BLK_BLKCTL_OWNED 0 b).put BLK_BLKCTL_STATE 0 b) x).put RG_RSTAT_STATE (rn 6 % 3) r.val).put RG_RCTL_CELL 63 r.val
  ⟨s, m, r, v, by decide +kernel⟩

theorem witness_RampsRun_6 : ∃ (s : State) (m : Master) (r : Gen) (v : Word),
    s.busOpen m = true ∧
    s.mayWriteCell m (s.rampCell r.val) = true ∧
    RG_RCTL_CELL.of v = s.rampCell r.val ∧
    s.rampState r.val = rampHeld :=
  let x : State := State.reset
  let m : Master := .pair ⟨rn 110 % 16, by omega⟩
  let r : Gen := ⟨rn 4 % 24, by omega⟩
  let v : Word := RG_RCTL_CELL.into (BitVec.ofNat 32 (rn 6)) 63
  let s : State := (((List.range 8).foldl (fun s b => (s.put BLK_BLKCTL_OWNED 0 b).put BLK_BLKCTL_STATE 0 b) x).put RG_RSTAT_STATE 3 r.val).put RG_RCTL_CELL 63 r.val
  ⟨s, m, r, v, by decide +kernel⟩

theorem witness_RampsRun_7 : ∃ (s : State) (m : Master) (r : Gen) (v : Word),
    s.busOpen m = true ∧
    s.mayWriteCell m (s.rampCell r.val) = true ∧
    s.rampTaken r.val (RG_RCTL_CELL.of v) = true :=
  let x : State := State.reset
  let m : Master := .pair ⟨rn 110 % 16, by omega⟩
  let r : Gen := ⟨rn 4 % 24, by omega⟩
  let v : Word := RG_RCTL_CELL.into (BitVec.ofNat 32 (rn 6)) 7
  let s : State := (((List.range 8).foldl (fun s b => (s.put BLK_BLKCTL_OWNED 0 b).put BLK_BLKCTL_STATE 0 b) x).put RG_RCTL_CELL 63 r.val).put RG_RCTL_CELL 7 ((r.val + 1) % 24)
  ⟨s, m, r, v, by decide +kernel⟩

theorem witness_RampsRun_8 : ∃ (s : State) (m : Master) (r : Gen) (v : Word),
    s.busOpen m = true ∧
    s.mayWriteCell m (s.rampCell r.val) = true ∧
    s.rampTaken r.val (RG_RCTL_CELL.of v) = false ∧
    s.rampState r.val = rampIdle ∧
    s.rampCellOk r.val (RG_RCTL_CELL.of v) = true :=
  let x : State := State.reset
  let m : Master := .pair ⟨rn 110 % 16, by omega⟩
  let r : Gen := ⟨rn 4 % 24, by omega⟩
  let v : Word := BitVec.ofNat 32 (rn 91)
  let s : State := (List.range 24).foldl (fun s k => s.put RG_RCTL_CELL 63 k) (((List.range 8).foldl (fun s b => (s.put BLK_BLKCTL_OWNED 0 b).put BLK_BLKCTL_STATE 0 b) x).put RG_RSTAT_STATE 0 r.val)
  ⟨s, m, r, v, by decide +kernel⟩

theorem witness_RampsRun_9 : ∃ (s : State) (m : Master) (r : Gen) (v : Word),
    s.busOpen m = true ∧
    s.mayWriteCell m (s.rampCell r.val) = true ∧
    RG_RCTL_CELL.of v ≠ s.rampCell r.val ∧
    (s.rampState r.val ≠ rampIdle ∨ s.rampCellOk r.val (RG_RCTL_CELL.of v) = false) :=
  let x : State := State.reset
  let m : Master := .pair ⟨rn 110 % 16, by omega⟩
  let r : Gen := ⟨rn 4 % 24, by omega⟩
  let v : Word := RG_RCTL_CELL.into (BitVec.ofNat 32 (rn 6)) (rn 8 % 48)
  let s : State := (((List.range 8).foldl (fun s b => (s.put BLK_BLKCTL_OWNED 0 b).put BLK_BLKCTL_STATE 0 b) x).put RG_RSTAT_STATE (1 + rn 7 % 3) r.val).put RG_RCTL_CELL 63 r.val
  ⟨s, m, r, v, by decide +kernel⟩

theorem witness_RampsRun_10 : ∃ (s : State) (r : Gen) (d : Nat),
    s.deadline (.rampWait r.val) = some d ∧
    s.rampState r.val = rampWait :=
  let x : State := State.reset
  let r : Gen := ⟨rn 4 % 24, by omega⟩
  let d : Nat := x.now + 88
  let s : State := (x.put RG_RSTAT_STATE 1 r.val).arm (.rampWait r.val) 88
  ⟨s, r, d, by decide +kernel⟩

theorem witness_RampsRun_11 : ∃ (s : State) (r : Gen) (d : Nat),
    s.deadline (.ramp r.val) = some d ∧
    s.rampState r.val = rampRun ∧
    (s.rampU r.val).t + 1 < 10 * atLeast1 (s.get RG_SEGDUR_DUR r.val (s.get RG_RSTAT_SEG r.val)) :=
  let x : State := State.reset
  let r : Gen := ⟨rn 4 % 24, by omega⟩
  let d : Nat := x.now + 88
  let s : State := ((x.put RG_RSTAT_STATE 2 r.val).setRamp r.val ⟨BitVec.ofNat 32 (rn 6), rn 7 % 9⟩).arm (.ramp r.val) 88
  ⟨s, r, d, by decide +kernel⟩

theorem witness_RampsRun_12 : ∃ (s : State) (r : Gen) (d : Nat),
    s.deadline (.ramp r.val) = some d ∧
    s.rampState r.val = rampRun ∧
    10 * atLeast1 (s.get RG_SEGDUR_DUR r.val (s.get RG_RSTAT_SEG r.val)) ≤ (s.rampU r.val).t + 1 :=
  let x : State := State.reset
  let r : Gen := ⟨rn 4 % 24, by omega⟩
  let d : Nat := x.now + 88
  let s : State := ((x.put RG_RSTAT_STATE 2 r.val).setRamp r.val ⟨BitVec.ofNat 32 (rn 6), 2000000⟩).arm (.ramp r.val) 88
  ⟨s, r, d, by decide +kernel⟩

theorem witness_AssayMetersSavesAndRestores_1 : ∃ (s : State) (w : Vector (BitVec 24) 8) (d : Nat),
    s.assay.running = true ∧
    s.deadline .assaySample = some d :=
  let x : State := State.reset
  let w : Vector (BitVec 24) 8 := Vector.ofFn (fun k => BitVec.ofNat 24 (rn (80 + k.val)))
  let d : Nat := x.now + 31250
  let s : State := x.updAssay (fun a => {a with running := true, cal := none, closeDue := none, snapDue := true, ivCount := rn 5 % 2 * 199, hist := Vector.ofFn (fun k => [(rn (50+k.val) : Int) - 2^42])}) |>.arm .assaySample 31250
  ⟨s, w, d, by decide +kernel⟩

theorem witness_AssayMetersSavesAndRestores_2 : ∃ (s : State) (w : Vector (BitVec 24) 8),
    s.assay.running = false :=
  let x : State := State.reset
  let w : Vector (BitVec 24) 8 := Vector.ofFn (fun k => BitVec.ofNat 24 (rn (80 + k.val)))
  let s : State := x.updAssay (fun a => {a with running := false}) |>.arm .assaySample 9
  ⟨s, w, by decide +kernel⟩

theorem witness_AssayMetersSavesAndRestores_3 : ∃ (s : State) (k : Fin 3),
    (s.assay.running = false ∨ s.bitOf AS_ASTAT_ZXOK k.val = false ∨ s.assay.cross[k].since < s.zxtoSamples) :=
  let x : State := State.reset
  let k : Fin 3 := ⟨rn 4 % 3, by omega⟩
  let s : State := x
  ⟨s, k, by decide +kernel⟩

theorem witness_AssayMetersSavesAndRestores_4 : ∃ (s : State) (o : Fin 9),
    (s.assay.running = false ∨ s.backlog o.val = 0 ∨ s.assay.pulseAt[o].any (fun p => decide (s.now < p + 2 * s.pulseWidth o.val)) = true) :=
  let x : State := State.reset
  let o : Fin 9 := ⟨rn 4 % 9, by omega⟩
  let s : State := (x.updAssay (fun a => {a with running := true, cal := none, closeDue := none})).putBacklog o.val (rn 5 % 3) |>.updAssay (fun a => {a with pulseAt := Vector.replicate 9 (some x.now)})
  ⟨s, o, by decide +kernel⟩

theorem witness_AssayMetersSavesAndRestores_5 : ∃ (s : State) (n : Fin 4) (a : S0Edge),
    a.high ≠ s.assay.s0pin[n].high ∧
    s.now < max s.assay.s0pin[n].since (s.now - a.held) + s.debounce n.val :=
  let x : State := State.reset
  let n : Fin 4 := ⟨rn 4 % 4, by omega⟩
  let a : S0Edge := ⟨rn 8 % 2 == 0, 9⟩
  let s : State := {((x.updAssay (fun a => {a with running := true, cal := none, closeDue := none})).updAssay (fun q => {q with s0pin := Vector.replicate 4 ⟨!a.high, 0, false⟩})) with now := 100000000}
  ⟨s, n, a, by decide +kernel⟩

theorem witness_AssayMetersSavesAndRestores_6 : ∃ (s : State) (n : Fin 4) (d : Nat) (da ds : Int),
    s.deadline (.s0Check n.val) = some d ∧
    s.assay.running = true ∧
    s.chkwin n.val ≠ 0 ∧
    da = s.master (s.get AS_S0CTL_CHKR n.val) - s.assay.s0win[n].master ∧
    ds = ((s.rdw .AS_S0CNT n.val - s.assay.s0win[n].count).toNat * s.get AS_S0WGT_WGT n.val : Nat) ∧
    da.natAbs * s.get AS_S0TOL_TOL n.val + 10000 * s.get AS_S0WGT_WGT n.val < 10000 * (ds - da).natAbs ∧
    s.routed assaySource = true :=
  let x : State := State.reset
  let n : Fin 4 := ⟨rn 4 % 4, by omega⟩
  let d : Nat := x.now + 70
  let da : Int := 0
  let ds : Int := 20000
  let s : State := let y := ((x.updAssay (fun a => {a with running := true, cal := none, closeDue := none})).put AS_S0CTL_CHKWIN 5 n.val |>.put AS_S0WGT_WGT 1000 n.val |>.put AS_S0TOL_TOL 50 n.val |>.put AS_S0CNT_CNT 500 n.val |>.put IC_SRCCFG_TARGET (rn 15 % 17) (assaySource)); (y.updAssay (fun a => {a with s0win := Vector.replicate 4 ⟨y.master (y.get AS_S0CTL_CHKR n.val), 480⟩})).arm (.s0Check n.val) 70
  ⟨s, n, d, da, ds, by decide +kernel⟩

theorem witness_AssayMetersSavesAndRestores_7 : ∃ (s : State) (m : Master) (v : Word),
    s.busOpen m = true :=
  let x : State := State.reset
  let m : Master := .pair ⟨rn 110 % 16, by omega⟩
  let v : Word := BitVec.ofNat 32 (rn 91)
  let s : State := x
  ⟨s, m, v, by decide +kernel⟩

theorem witness_AssayMetersSavesAndRestores_8 : ∃ (s : State) (k : Fin 3),
    s.assay.running = true ∧
    s.bitOf AS_ASTAT_ZXOK k.val = true ∧
    s.zxtoSamples ≤ s.assay.cross[k].since ∧
    s.routed assaySource = true :=
  let x : State := State.reset
  let k : Fin 3 := ⟨rn 4 % 3, by omega⟩
  let s : State := (x.updAssay (fun a => {a with running := true, cal := none, closeDue := none})).put AS_ASTAT_ZXOK (if rn 6 % 2 = 0 then 2^k.val else 7) |>.updAssay (fun a => {a with cross := Vector.replicate 3 ⟨0,false,0,1,90000,none⟩}) |>.put IC_SRCCFG_TARGET (rn 15 % 17) (assaySource)
  ⟨s, k, by decide +kernel⟩

theorem witness_AssayMetersSavesAndRestores_9 : ∃ (s : State) (o : Fin 9) (n : Nat),
    s.assay.running = true ∧
    s.backlog o.val = n + 1 ∧
    s.assay.pulseAt[o].all (fun p => decide (p + 2 * s.pulseWidth o.val ≤ s.now)) = true :=
  let x : State := State.reset
  let o : Fin 9 := ⟨rn 4 % 9, by omega⟩
  let n : Nat := rn 5 % 100
  let s : State := (x.updAssay (fun a => {a with running := true, cal := none, closeDue := none})).putBacklog o.val (n+1) |>.updAssay (fun a => {a with pulseAt := Vector.replicate 9 none})
  ⟨s, o, n, by decide +kernel⟩

theorem witness_AssayMetersSavesAndRestores_10 : ∃ (s : State) (n : Fin 4) (a : S0Edge) (l : Bool),
    s.assay.running = true ∧
    l = (a.high != s.on AS_S0CTL_POL n.val) ∧
    s.on AS_S0STAT_LEVEL n.val ≠ l ∧
    s.assay.s0pin[n].high ≠ a.high ∧
    s.debounce n.val ≤ a.held ∧
    s.assay.s0pin[n].since + s.debounce n.val + a.held ≤ s.now :=
  let x : State := State.reset
  let n : Fin 4 := ⟨rn 4 % 4, by omega⟩
  let a : S0Edge := ⟨rn 8 % 2 == 0, 13000000⟩
  let l : Bool := (a.high != x.on AS_S0CTL_POL n.val)
  let s : State := {((x.updAssay (fun a => {a with running := true, cal := none, closeDue := none})).put AS_S0STAT_LEVEL (1 - l.toNat) n.val |>.put AS_S0CTL_EN (rn 9 % 2) n.val |>.updAssay (fun q => {q with s0pin := Vector.replicate 4 ⟨!a.high, 0, false⟩})) with now := 100000000}
  ⟨s, n, a, l, by decide +kernel⟩

theorem witness_AssayMetersSavesAndRestores_11 : ∃ (s : State) (n : Fin 4) (d : Nat),
    s.deadline (.s0Check n.val) = some d ∧
    s.assay.running = true ∧
    s.chkwin n.val ≠ 0 ∧
    s.master (s.get AS_S0CTL_CHKR n.val) = s.assay.s0win[n].master ∧
    s.rdw .AS_S0CNT n.val = s.assay.s0win[n].count :=
  let x : State := State.reset
  let n : Fin 4 := ⟨rn 4 % 4, by omega⟩
  let d : Nat := x.now + 70
  let s : State := let y := ((x.updAssay (fun a => {a with running := true, cal := none, closeDue := none})).put AS_S0CTL_CHKWIN 5 n.val); (y.updAssay (fun a => {a with s0win := Vector.replicate 4 ⟨y.master (y.get AS_S0CTL_CHKR n.val), y.rdw .AS_S0CNT n.val⟩})).arm (.s0Check n.val) 70
  ⟨s, n, d, by decide +kernel⟩

theorem witness_AssayMetersSavesAndRestores_12 : ∃ (s : State) (r : SaveRec),
    s.assay.running = false ∧
    s.supply.vaux = true ∧
    s.supply.place = 0 ∧
    2 ≤ s.supply.step ∧
    s.lamp.latest = some r :=
  let x : State := State.reset
  let r : SaveRec := (⟨rn 5 % 50, rn 6 % 6, rn 7, 1000#32, BitVec.ofNat 32 (rn 8), 3, Vector.ofFn (fun k => rn (30 + k.val)), Vector.ofFn (fun k => rn (60+k.val) % 2^32), Vector.ofFn (fun k => BitVec.ofNat 32 (rn (70+k.val)))⟩ : SaveRec)
  let s : State := {(x.updLamp (fun l => {l with slot0 := some (⟨rn 5 % 50, rn 6 % 6, rn 7, 1000#32, BitVec.ofNat 32 (rn 8), 3, Vector.ofFn (fun k => rn (30 + k.val)), Vector.ofFn (fun k => rn (60+k.val) % 2^32), Vector.ofFn (fun k => BitVec.ofNat 32 (rn (70+k.val)))⟩ : SaveRec), slot1 := none})) with supply := {x.supply with vaux := true, place := 0, step := 3}} |>.updAssay (fun a => {a with running := false})
  ⟨s, r, by decide +kernel⟩

theorem witness_AssayMetersSavesAndRestores_13 : ∃ (s : State),
    s.assay.running = false ∧
    s.supply.vaux = true ∧
    s.supply.place = 0 ∧
    2 ≤ s.supply.step ∧
    s.lamp.latest = none :=
  let x : State := State.reset
  let s : State := {x with supply := {x.supply with vaux := true, place := 0, step := 3}} |>.updAssay (fun a => {a with running := false}) |>.updLamp (fun l => {l with slot0 := none, slot1 := none})
  ⟨s, by decide +kernel⟩

theorem witness_AssayMetersSavesAndRestores_14 : ∃ (s : State) (d : Nat),
    s.deadline .savePeriod = some d ∧
    s.assay.running = true :=
  let x : State := State.reset
  let d : Nat := x.now + 20
  let s : State := (x.updAssay (fun a => {a with running := true, cal := none, closeDue := none})).arm .savePeriod 20
  ⟨s, d, by decide +kernel⟩

theorem witness_AssayMetersSavesAndRestores_15 : ∃ (s : State) (v : SaveU),
    s.assay.save = some v :=
  let x : State := State.reset
  let v : SaveU := ⟨(⟨rn 5 % 50, rn 6 % 6, rn 7, 1000#32, BitVec.ofNat 32 (rn 8), 3, Vector.ofFn (fun k => rn (30 + k.val)), Vector.ofFn (fun k => rn (60+k.val) % 2^32), Vector.ofFn (fun k => BitVec.ofNat 32 (rn (70+k.val)))⟩ : SaveRec), rn 11 % 2 == 0, rn 12 % 2 == 0, x.now⟩
  let s : State := (x.updAssay (fun a => {a with running := true, cal := none, closeDue := none})).updAssay (fun a => {a with save := some ⟨(⟨rn 5 % 50, rn 6 % 6, rn 7, 1000#32, BitVec.ofNat 32 (rn 8), 3, Vector.ofFn (fun k => rn (30 + k.val)), Vector.ofFn (fun k => rn (60+k.val) % 2^32), Vector.ofFn (fun k => BitVec.ofNat 32 (rn (70+k.val)))⟩ : SaveRec), rn 11 % 2 == 0, rn 12 % 2 == 0, x.now⟩})
  ⟨s, v, by decide +kernel⟩

theorem witness_AssayMetersSavesAndRestores_16 : ∃ (s : State) (v : SaveU),
    s.assay.save = some v ∧
    s.routed 513 = true :=
  let x : State := State.reset
  let v : SaveU := ⟨(⟨rn 5 % 50, rn 6 % 6, rn 7, 1000#32, BitVec.ofNat 32 (rn 8), 3, Vector.ofFn (fun k => rn (30 + k.val)), Vector.ofFn (fun k => rn (60+k.val) % 2^32), Vector.ofFn (fun k => BitVec.ofNat 32 (rn (70+k.val)))⟩ : SaveRec), rn 11 % 2 == 0, rn 12 % 2 == 0, x.now⟩
  let s : State := (x.updAssay (fun a => {a with running := true, cal := none, closeDue := none})).updAssay (fun a => {a with save := some ⟨(⟨rn 5 % 50, rn 6 % 6, rn 7, 1000#32, BitVec.ofNat 32 (rn 8), 3, Vector.ofFn (fun k => rn (30 + k.val)), Vector.ofFn (fun k => rn (60+k.val) % 2^32), Vector.ofFn (fun k => BitVec.ofNat 32 (rn (70+k.val)))⟩ : SaveRec), rn 11 % 2 == 0, rn 12 % 2 == 0, x.now⟩}) |>.put IC_SRCCFG_TARGET (rn 15 % 17) (513)
  ⟨s, v, by decide +kernel⟩

theorem witness_AssayMetersSavesAndRestores_17 : ∃ (s : State),
    (s.assay.running = true ∨ s.supply.vaux = false ∨ s.supply.place ≠ 0 ∨ s.supply.step < 2) :=
  let x : State := State.reset
  let s : State := x.updAssay (fun a => {a with running := true, cal := none, closeDue := none})
  ⟨s, by decide +kernel⟩

theorem witness_AssayMetersSavesAndRestores_18 : ∃ (s : State) (ok : Bool),
    s.assay.save = none :=
  let x : State := State.reset
  let ok : Bool := rn 92 % 2 == 0
  let s : State := x.updAssay (fun a => {a with save := none})
  ⟨s, ok, by decide +kernel⟩

theorem witness_AssayMetersSavesAndRestores_19 : ∃ (s : State),
    s.assay.running = true ∧
    s.routed 515 = true :=
  let x : State := State.reset
  let s : State := x.updAssay (fun a => {a with running := true, cal := none, closeDue := none}) |>.put IC_SRCCFG_TARGET (rn 15 % 17) (515)
  ⟨s, by decide +kernel⟩

theorem witness_AssayMetersSavesAndRestores_20 : ∃ (s : State),
    s.assay.running = false :=
  let x : State := State.reset
  let s : State := x.updAssay (fun a => {a with running := false})
  ⟨s, by decide +kernel⟩

theorem witness_CustomInstructionsAndCheckpoints_1 : ∃ (s : State) (n : Pair) (k : Fin 2) (w : Word),
    s.runs n.val k.val = true ∧
    isCustom w 0 = true ∧
    insRs1 w = 0 ∧
    insImm w / 16 = 0 :=
  let x : State := State.reset
  let n : Pair := ⟨rn 4 % 16, by omega⟩
  let k : Fin 2 := 0
  let w : Word := BitVec.ofNat 32 (0x0B + 0 * 4096 + (rn 8 % 32) * 128 + (0) * 32768 + (rn 9 % 16) * 1048576)
  let s : State := ((x.put DR_PSTATE_STATE 2 n.val).put DR_PSTATE_DEBUG 0 n.val).updPair n.val (fun p => {p with faulted := false, inPlace := false, storing := none, core0 := {p.core0 with waiting := none, stopped := false, regs := {p.core0.regs with x := Vector.ofFn (fun k => BitVec.ofNat 32 (rn (60 + k.val))), pc := BitVec.ofNat 32 (rn 33), crew := rn 34 % 64}}})
  ⟨s, n, k, w, by decide +kernel⟩

theorem witness_CustomInstructionsAndCheckpoints_2 : ∃ (s : State) (n : Pair) (k : Fin 2) (w : Word),
    s.runs n.val k.val = true ∧
    isCustom w 0 = true ∧
    (insRs1 w ≠ 0 ∨ insImm w / 16 ≠ 0) :=
  let x : State := State.reset
  let n : Pair := ⟨rn 4 % 16, by omega⟩
  let k : Fin 2 := 0
  let w : Word := BitVec.ofNat 32 (0x0B + 0 * 4096 + (rn 8 % 32) * 128 + (1) * 32768 + (rn 9 % 16) * 1048576)
  let s : State := ((x.put DR_PSTATE_STATE 2 n.val).put DR_PSTATE_DEBUG 0 n.val).updPair n.val (fun p => {p with faulted := false, inPlace := false, storing := none, core0 := {p.core0 with waiting := none, stopped := false, regs := {p.core0.regs with x := Vector.ofFn (fun k => BitVec.ofNat 32 (rn (60 + k.val))), pc := BitVec.ofNat 32 (rn 33), crew := rn 34 % 64}}})
  ⟨s, n, k, w, by decide +kernel⟩

theorem witness_CustomInstructionsAndCheckpoints_3 : ∃ (s : State) (n : Pair) (k : Fin 2) (w : Word),
    s.runs n.val k.val = true ∧
    isCustom w 1 = true ∧
    (insImm w ≠ 0 ∨ ((s.pairU n.val).core k.val).regs.user = true) :=
  let x : State := State.reset
  let n : Pair := ⟨rn 4 % 16, by omega⟩
  let k : Fin 2 := 0
  let w : Word := BitVec.ofNat 32 (0x0B + 1 * 4096 + (rn 8 % 32) * 128 + (1) * 32768 + (1 + rn 9 % 16) * 1048576)
  let s : State := ((x.put DR_PSTATE_STATE 2 n.val).put DR_PSTATE_DEBUG 0 n.val).updPair n.val (fun p => {p with faulted := false, inPlace := false, storing := none, core0 := {p.core0 with waiting := none, stopped := false, regs := {p.core0.regs with x := Vector.ofFn (fun k => BitVec.ofNat 32 (rn (60 + k.val))), pc := BitVec.ofNat 32 (rn 33), crew := rn 34 % 64}}})
  ⟨s, n, k, w, by decide +kernel⟩

theorem witness_CustomInstructionsAndCheckpoints_4 : ∃ (s : State) (n : Pair) (k : Fin 2) (w : Word),
    s.runs n.val k.val = true ∧
    isCustom w 2 = true ∧
    (insRs1 w ≠ 0 ∨ insImm w / 2 ≠ 0) :=
  let x : State := State.reset
  let n : Pair := ⟨rn 4 % 16, by omega⟩
  let k : Fin 2 := 0
  let w : Word := BitVec.ofNat 32 (0x0B + 2 * 4096 + (rn 8 % 32) * 128 + (1) * 32768 + (rn 9 % 16) * 1048576)
  let s : State := ((x.put DR_PSTATE_STATE 2 n.val).put DR_PSTATE_DEBUG 0 n.val).updPair n.val (fun p => {p with faulted := false, inPlace := false, storing := none, core0 := {p.core0 with waiting := none, stopped := false, regs := {p.core0.regs with x := Vector.ofFn (fun k => BitVec.ofNat 32 (rn (60 + k.val))), pc := BitVec.ofNat 32 (rn 33), crew := rn 34 % 64}}})
  ⟨s, n, k, w, by decide +kernel⟩

theorem witness_CustomInstructionsAndCheckpoints_5 : ∃ (s : State) (n : Pair) (k : Fin 2) (w : Word),
    s.runs n.val k.val = false :=
  let x : State := State.reset
  let n : Pair := ⟨rn 4 % 16, by omega⟩
  let k : Fin 2 := 0
  let w : Word := BitVec.ofNat 32 (0x0B + 0 * 4096 + (rn 8 % 32) * 128 + (0) * 32768 + (rn 9 % 16) * 1048576)
  let s : State := (((x.put DR_PSTATE_STATE 2 n.val).put DR_PSTATE_DEBUG 0 n.val).updPair n.val (fun p => {p with faulted := false, inPlace := false, storing := none, core0 := {p.core0 with waiting := none, stopped := false, regs := {p.core0.regs with x := Vector.ofFn (fun k => BitVec.ofNat 32 (rn (60 + k.val))), pc := BitVec.ofNat 32 (rn 33), crew := rn 34 % 64}}})).updPair n.val (fun p => {p with core0 := {p.core0 with waiting := some (false, 3)}})
  ⟨s, n, k, w, by decide +kernel⟩

theorem witness_CustomInstructionsAndCheckpoints_6 : ∃ (s : State) (n : Pair) (k : Fin 2) (w : Word),
    s.runs n.val k.val = false :=
  let x : State := State.reset
  let n : Pair := ⟨rn 4 % 16, by omega⟩
  let k : Fin 2 := 0
  let w : Word := BitVec.ofNat 32 (0x0B + 1 * 4096 + (rn 8 % 32) * 128 + (0) * 32768 + (rn 9 % 16) * 1048576)
  let s : State := (((x.put DR_PSTATE_STATE 2 n.val).put DR_PSTATE_DEBUG 0 n.val).updPair n.val (fun p => {p with faulted := false, inPlace := false, storing := none, core0 := {p.core0 with waiting := none, stopped := false, regs := {p.core0.regs with x := Vector.ofFn (fun k => BitVec.ofNat 32 (rn (60 + k.val))), pc := BitVec.ofNat 32 (rn 33), crew := rn 34 % 64}}})).updPair n.val (fun p => {p with core0 := {p.core0 with waiting := some (false, 3)}})
  ⟨s, n, k, w, by decide +kernel⟩

theorem witness_CustomInstructionsAndCheckpoints_7 : ∃ (s : State) (n : Pair) (k : Fin 2) (w : Word),
    s.runs n.val k.val = false :=
  let x : State := State.reset
  let n : Pair := ⟨rn 4 % 16, by omega⟩
  let k : Fin 2 := 0
  let w : Word := BitVec.ofNat 32 (0x0B + 2 * 4096 + (rn 8 % 32) * 128 + (0) * 32768 + (rn 9 % 16) * 1048576)
  let s : State := (((x.put DR_PSTATE_STATE 2 n.val).put DR_PSTATE_DEBUG 0 n.val).updPair n.val (fun p => {p with faulted := false, inPlace := false, storing := none, core0 := {p.core0 with waiting := none, stopped := false, regs := {p.core0.regs with x := Vector.ofFn (fun k => BitVec.ofNat 32 (rn (60 + k.val))), pc := BitVec.ofNat 32 (rn 33), crew := rn 34 % 64}}})).updPair n.val (fun p => {p with core0 := {p.core0 with waiting := some (false, 3)}})
  ⟨s, n, k, w, by decide +kernel⟩

theorem witness_CustomInstructionsAndCheckpoints_8 : ∃ (s : State) (n : Pair) (k : Fin 2) (w : Word) (c : Nat),
    s.runs n.val k.val = true ∧
    isCustom w 1 = true ∧
    insImm w = 0 ∧
    ((s.pairU n.val).core k.val).regs.user = false ∧
    bits (((s.pairU n.val).core k.val).regs.getX (insRs1 w)) 0 6 = c :=
  let x : State := State.reset
  let n : Pair := ⟨rn 4 % 16, by omega⟩
  let k : Fin 2 := 0
  let w : Word := BitVec.ofNat 32 (0x0B + 1 * 4096 + (rn 8 % 32) * 128 + (rn 10 % 32) * 32768 + (0) * 1048576)
  let s0 : State := ((x.put DR_PSTATE_STATE 2 n.val).put DR_PSTATE_DEBUG 0 n.val).updPair n.val (fun p => {p with faulted := false, inPlace := false, storing := none, core0 := {p.core0 with waiting := none, stopped := false, regs := {p.core0.regs with x := Vector.ofFn (fun k => BitVec.ofNat 32 (rn (60 + k.val))), pc := BitVec.ofNat 32 (rn 33), crew := rn 34 % 64}}})|>.updPlan (fun u => {u with crews := Vector.ofFn (fun j => ⟨SP_CREWCTL_PAIR.into (BitVec.ofNat 32 (rn (200+j.val))) n.val,1,1,1,1,1,1,1,1⟩)})
  let c : Nat := bits (((s0.pairU n.val).core k.val).regs.getX (insRs1 w)) 0 6
  let s : State := ((x.put DR_PSTATE_STATE 2 n.val).put DR_PSTATE_DEBUG 0 n.val).updPair n.val (fun p => {p with faulted := false, inPlace := false, storing := none, core0 := {p.core0 with waiting := none, stopped := false, regs := {p.core0.regs with x := Vector.ofFn (fun k => BitVec.ofNat 32 (rn (60 + k.val))), pc := BitVec.ofNat 32 (rn 33), crew := rn 34 % 64}}})|>.updPlan (fun u => {u with crews := Vector.ofFn (fun j => ⟨SP_CREWCTL_PAIR.into (BitVec.ofNat 32 (rn (200+j.val))) n.val,1,1,1,1,1,1,1,1⟩)})
  ⟨s, n, k, w, c, by decide +kernel⟩

theorem witness_CustomInstructionsAndCheckpoints_9 : ∃ (s : State) (n : Pair) (k : Fin 2) (w : Word),
    s.runs n.val k.val = true ∧
    isCustom w 2 = true ∧
    insRs1 w = 0 ∧
    insImm w / 2 = 0 ∧
    (k = 0 → (s.pairU n.val).missed = none) ∧
    (insImm w % 2 = 0 ∨ ((∀ j ∈ s.slicesOf n.val, s.reqLine j = false) ∧ ((s.pairU n.val).core k.val).regs.csr 0x344 &&& ((s.pairU n.val).core k.val).regs.csr 0x304 &&& 0x888 = 0)) :=
  let x : State := State.reset
  let n : Pair := ⟨rn 4 % 16, by omega⟩
  let k : Fin 2 := 0
  let w : Word := BitVec.ofNat 32 (0x0B + 2 * 4096 + (rn 8 % 32) * 128 + (0) * 32768 + (rn 9 % 2) * 1048576)
  let s : State := (((x.put DR_PSTATE_STATE 2 n.val).put DR_PSTATE_DEBUG 0 n.val).updPair n.val (fun p => {p with faulted := false, inPlace := false, storing := none, core0 := {p.core0 with waiting := none, stopped := false, regs := {p.core0.regs with x := Vector.ofFn (fun k => BitVec.ofNat 32 (rn (60 + k.val))), pc := BitVec.ofNat 32 (rn 33), crew := rn 34 % 64}}})).updPair n.val (fun p => {p with missed := none})
  ⟨s, n, k, w, by decide +kernel⟩

theorem witness_CustomInstructionsAndCheckpoints_10 : ∃ (s : State) (n : Pair),
    s.isSplit n.val = false ∧
    s.pst n.val ≠ pairOff :=
  let x : State := State.reset
  let n : Pair := ⟨rn 4 % 16, by omega⟩
  let s : State := ((x.put DR_PSTATE_STATE 2 n.val).put DR_PSTATE_DEBUG 0 n.val).updPair n.val (fun p => {p with faulted := false, inPlace := false, storing := none, core0 := {p.core0 with waiting := none, stopped := false, regs := {p.core0.regs with x := Vector.ofFn (fun k => BitVec.ofNat 32 (rn (60 + k.val))), pc := BitVec.ofNat 32 (rn 33), crew := rn 34 % 64}}})
  ⟨s, n, by decide +kernel⟩

theorem witness_CustomInstructionsAndCheckpoints_11 : ∃ (s : State) (n : Pair),
    s.pst n.val = pairService ∧
    s.on DR_PSTATE_DEBUG n.val = false ∧
    (s.pairU n.val).faulted = false ∧
    (s.pairU n.val).storing = none ∧
    s.checkpointDue n.val = true :=
  let x : State := State.reset
  let n : Pair := ⟨rn 4 % 16, by omega⟩
  let s : State := ((x.put DR_PSTATE_STATE 2 n.val).put DR_PSTATE_DEBUG 0 n.val).updPair n.val (fun p => {p with faulted := false, inPlace := false, storing := none, core0 := {p.core0 with waiting := none, stopped := false, regs := {p.core0.regs with x := Vector.ofFn (fun k => BitVec.ofNat 32 (rn (60 + k.val))), pc := BitVec.ofNat 32 (rn 33), crew := rn 34 % 64}}})|>.updPair n.val (fun p => {p with log := List.replicate 3072 ⟨0,0,0⟩})
  ⟨s, n, by decide +kernel⟩

theorem witness_CustomInstructionsAndCheckpoints_12 : ∃ (s : State) (n : Pair) (d : Nat),
    s.pst n.val = pairService ∧
    s.on DR_PSTATE_DEBUG n.val = false ∧
    (s.pairU n.val).faulted = false ∧
    (s.pairU n.val).storing = none ∧
    s.checkpointDue n.val = false ∧
    s.deadline (.checkpoint n.val) = some d :=
  let x : State := State.reset
  let n : Pair := ⟨rn 4 % 16, by omega⟩
  let d : Nat := x.now + 5
  let s : State := (((x.put DR_PSTATE_STATE 2 n.val).put DR_PSTATE_DEBUG 0 n.val).updPair n.val (fun p => {p with faulted := false, inPlace := false, storing := none, core0 := {p.core0 with waiting := none, stopped := false, regs := {p.core0.regs with x := Vector.ofFn (fun k => BitVec.ofNat 32 (rn (60 + k.val))), pc := BitVec.ofNat 32 (rn 33), crew := rn 34 % 64}}})).updPair n.val (fun p => {p with log := [], journal := []}) |>.arm (.checkpoint n.val) 5
  ⟨s, n, d, by decide +kernel⟩

theorem witness_CustomInstructionsAndCheckpoints_13 : ∃ (s : State) (n : Pair) (c : Fin 301) (f : Bool),
    (s.pairU n.val).storing = some f :=
  let x : State := State.reset
  let n : Pair := ⟨rn 4 % 16, by omega⟩
  let c : Fin 301 := ⟨rn 7 % 301, by omega⟩
  let f : Bool := rn 5 % 2 == 0
  let s : State := ((x.put DR_PSTATE_STATE 2 n.val).put DR_PSTATE_DEBUG 0 n.val).updPair n.val (fun p => {p with faulted := false, inPlace := false, storing := none, core0 := {p.core0 with waiting := none, stopped := false, regs := {p.core0.regs with x := Vector.ofFn (fun k => BitVec.ofNat 32 (rn (60 + k.val))), pc := BitVec.ofNat 32 (rn 33), crew := rn 34 % 64}}})|>.updPair n.val (fun p => {p with storing := some (rn 5 % 2 == 0), current := rn 6 % 2 == 0, log := [⟨1,2,3⟩], egress := 9})
  ⟨s, n, c, f, by decide +kernel⟩

theorem witness_CustomInstructionsAndCheckpoints_14 : ∃ (s : State) (n : Pair),
    (s.pst n.val ≠ pairService ∨ s.on DR_PSTATE_DEBUG n.val = true ∨ (s.pairU n.val).faulted = true ∨ (s.pairU n.val).storing.isSome = true) :=
  let x : State := State.reset
  let n : Pair := ⟨rn 4 % 16, by omega⟩
  let s : State := (((x.put DR_PSTATE_STATE 2 n.val).put DR_PSTATE_DEBUG 0 n.val).updPair n.val (fun p => {p with faulted := false, inPlace := false, storing := none, core0 := {p.core0 with waiting := none, stopped := false, regs := {p.core0.regs with x := Vector.ofFn (fun k => BitVec.ofNat 32 (rn (60 + k.val))), pc := BitVec.ofNat 32 (rn 33), crew := rn 34 % 64}}})).put DR_PSTATE_DEBUG 1 n.val |>.updPair n.val (fun p => {p with log := List.replicate 3072 ⟨0,0,0⟩})
  ⟨s, n, by decide +kernel⟩

theorem witness_CustomInstructionsAndCheckpoints_15 : ∃ (s : State) (n : Pair) (c : Fin 301),
    (s.pairU n.val).storing = none :=
  let x : State := State.reset
  let n : Pair := ⟨rn 4 % 16, by omega⟩
  let c : Fin 301 := ⟨rn 7 % 301, by omega⟩
  let s : State := ((x.put DR_PSTATE_STATE 2 n.val).put DR_PSTATE_DEBUG 0 n.val).updPair n.val (fun p => {p with faulted := false, inPlace := false, storing := none, core0 := {p.core0 with waiting := none, stopped := false, regs := {p.core0.regs with x := Vector.ofFn (fun k => BitVec.ofNat 32 (rn (60 + k.val))), pc := BitVec.ofNat 32 (rn 33), crew := rn 34 % 64}}})
  ⟨s, n, c, by decide +kernel⟩

theorem witness_CustomInstructionsAndCheckpoints_16 : ∃ (s : State) (n : Pair) (a : Word) (line : Nat),
    line = a.toNat / 64 * 64 ∧
    (s.pst n.val ≠ pairService ∨ s.journaled n.val line = false ∨ (s.pairU n.val).journal.any (fun e => e.line == line) = true) :=
  let x : State := State.reset
  let n : Pair := ⟨rn 4 % 16, by omega⟩
  let a : Word := BitVec.ofNat 32 (0x20000000 + n.val * 0x40000 + 64 + rn 5 % 64)
  let line : Nat := 0x20000000 + n.val * 0x40000 + 64
  let s : State := (((x.put DR_PSTATE_STATE 2 n.val).put DR_PSTATE_DEBUG 0 n.val).updPair n.val (fun p => {p with faulted := false, inPlace := false, storing := none, core0 := {p.core0 with waiting := none, stopped := false, regs := {p.core0.regs with x := Vector.ofFn (fun k => BitVec.ofNat 32 (rn (60 + k.val))), pc := BitVec.ofNat 32 (rn 33), crew := rn 34 % 64}}})).updPair n.val (fun p => {p with journal := [⟨0x20000000 + n.val * 0x40000 + 64,[],0⟩]})
  ⟨s, n, a, line, by decide +kernel⟩

theorem witness_CustomInstructionsAndCheckpoints_17 : ∃ (s : State) (n : Pair) (a : Word) (line : Nat),
    line = a.toNat / 64 * 64 ∧
    s.pst n.val = pairService ∧
    s.journaled n.val line = true ∧
    (s.pairU n.val).journal.any (fun e => e.line == line) = false ∧
    (s.pairU n.val).journal.length < 1344 :=
  let x : State := State.reset
  let n : Pair := ⟨rn 4 % 16, by omega⟩
  let a : Word := BitVec.ofNat 32 (0x20000000 + n.val * 0x40000 + 64 + rn 5 % 64)
  let line : Nat := 0x20000000 + n.val * 0x40000 + 64
  let s : State := {(((x.put DR_PSTATE_STATE 2 n.val).put DR_PSTATE_DEBUG 0 n.val).updPair n.val (fun p => {p with faulted := false, inPlace := false, storing := none, core0 := {p.core0 with waiting := none, stopped := false, regs := {p.core0.regs with x := Vector.ofFn (fun k => BitVec.ofNat 32 (rn (60 + k.val))), pc := BitVec.ofNat 32 (rn 33), crew := rn 34 % 64}}})) with mem := [(0x20000000 + n.val * 0x40000 + 65, 7)]} |>.updPair n.val (fun p => {p with journal := [⟨0x100,[],0⟩]})
  ⟨s, n, a, line, by decide +kernel⟩

theorem witness_PairFaultsTakeOver_1 : ∃ (s : State) (n : Pair) (c : Fin 3) (l : Fin 1024),
    s.pst n.val = pairService ∧
    (s.pairU n.val).faulted = false :=
  let x : State := State.reset
  let n : Pair := ⟨rn 4 % 16, by omega⟩
  let c : Fin 3 := default
  let l : Fin 1024 := default
  let s : State := ((x.put DR_PSTATE_STATE 2 n.val).put DR_PSTATE_DEBUG 0 n.val).updPair n.val (fun p => {p with faulted := false, inPlace := false, storing := none, core0 := {p.core0 with waiting := none, stopped := false, regs := {p.core0.regs with x := Vector.ofFn (fun k => BitVec.ofNat 32 (rn (60 + k.val))), pc := BitVec.ofNat 32 (rn 33), crew := rn 34 % 64}}})
  ⟨s, n, c, l, by decide +kernel⟩

theorem witness_PairFaultsTakeOver_2 : ∃ (s : State) (n : Pair) (c : Fin 3) (l : Fin 1024) (k : Pair),
    s.pst n.val = pairService ∧
    (s.pairU n.val).faulted = false ∧
    s.on DR_PSTATE_UNPROTECTED n.val = false ∧
    s.freshFaults = [] ∧
    s.freeSpares.head? = some k.val ∧
    (s.pairU n.val).mate = none :=
  let x : State := State.reset
  let n : Pair := ⟨rn 4 % 16, by omega⟩
  let c : Fin 3 := default
  let l : Fin 1024 := default
  let k : Pair := ⟨(n.val+1)%16, by omega⟩
  let s : State := (((x.put DR_PSTATE_STATE 2 n.val).put DR_PSTATE_DEBUG 0 n.val).updPair n.val (fun p => {p with faulted := false, inPlace := false, storing := none, core0 := {p.core0 with waiting := none, stopped := false, regs := {p.core0.regs with x := Vector.ofFn (fun k => BitVec.ofNat 32 (rn (60 + k.val))), pc := BitVec.ofNat 32 (rn 33), crew := rn 34 % 64}}})).put DR_PSTATE_UNPROTECTED 0 n.val |> (fun y => (List.range 16).foldl (fun y j => if y.pst j = 4 then y.put DR_PSTATE_STATE 5 j else y) y) |>.put DR_PSTATE_STATE 4 k.val |> fun y => (List.range 16).foldl (fun y j => y.updPair j (fun p => {p with mate := none, faulted := false})) y
  ⟨s, n, c, l, k, by decide +kernel⟩

theorem witness_PairFaultsTakeOver_3 : ∃ (s : State) (n : Pair) (c : Fin 3) (l : Fin 1024),
    s.pst n.val ≠ pairRecovery ∧
    (s.pst n.val ≠ pairService ∨ (s.pairU n.val).faulted = true) :=
  let x : State := State.reset
  let n : Pair := ⟨rn 4 % 16, by omega⟩
  let c : Fin 3 := default
  let l : Fin 1024 := default
  let s : State := (((x.put DR_PSTATE_STATE 2 n.val).put DR_PSTATE_DEBUG 0 n.val).updPair n.val (fun p => {p with faulted := false, inPlace := false, storing := none, core0 := {p.core0 with waiting := none, stopped := false, regs := {p.core0.regs with x := Vector.ofFn (fun k => BitVec.ofNat 32 (rn (60 + k.val))), pc := BitVec.ofNat 32 (rn 33), crew := rn 34 % 64}}})).updPair n.val (fun p => {p with faulted := true})
  ⟨s, n, c, l, by decide +kernel⟩

theorem witness_PairFaultsTakeOver_4 : ∃ (s : State) (n : Pair) (c : Fin 3) (l : Fin 1024) (k : Pair),
    s.pst n.val = pairRecovery ∧
    k ≠ n ∧
    s.pst k.val = pairService :=
  let x : State := State.reset
  let n : Pair := ⟨rn 4 % 16, by omega⟩
  let c : Fin 3 := default
  let l : Fin 1024 := default
  let k : Pair := ⟨(n.val + 1 + rn 6 % 15) % 16, by omega⟩
  let s : State := (x.put DR_PSTATE_STATE 6 n.val).put DR_PSTATE_STATE 2 k.val |>.updPair n.val (fun p => {p with mate := some 7})
  ⟨s, n, c, l, k, by decide +kernel⟩

theorem witness_PairFaultsTakeOver_5 : ∃ (s : State) (n : Pair) (f : Pair) (k : Pair),
    s.pst n.val = pairRecovery ∧
    (s.pairU n.val).mate = some f.val ∧
    (s.pairU f.val).overflow = false ∧
    k ≠ n ∧
    s.pst k.val = pairService :=
  let x : State := State.reset
  let n : Pair := ⟨rn 4 % 16, by omega⟩
  let f : Pair := ⟨(n.val + 1 + rn 7 % 15) % 16, by omega⟩
  let k : Pair := ⟨(n.val + 1 + rn 6 % 15) % 16, by omega⟩
  let s : State := (x.put DR_PSTATE_STATE 6 n.val).put DR_PSTATE_STATE 2 k.val |>.updPair n.val (fun p => {p with mate := some f.val}) |>.updPair f.val (fun p => {p with overflow := false})
  ⟨s, n, f, k, by decide +kernel⟩

theorem witness_PairFaultsTakeOver_6 : ∃ (s : State) (n : Pair) (d : Nat),
    s.deadline (.pairFail n.val) = some d ∧
    s.routed (592 + n.val) = true ∧
    (s.pairU n.val).mate.isSome = true :=
  let x : State := State.reset
  let n : Pair := ⟨rn 4 % 16, by omega⟩
  let d : Nat := x.now + 25
  let s : State := (((x.put DR_PSTATE_STATE 2 n.val).put DR_PSTATE_DEBUG 0 n.val).updPair n.val (fun p => {p with faulted := false, inPlace := false, storing := none, core0 := {p.core0 with waiting := none, stopped := false, regs := {p.core0.regs with x := Vector.ofFn (fun k => BitVec.ofNat 32 (rn (60 + k.val))), pc := BitVec.ofNat 32 (rn 33), crew := rn 34 % 64}}})).updPair n.val (fun p => {p with mate := some 3, faulted := true}) |>.arm (.pairFail n.val) 25 |>.put IC_SRCCFG_TARGET (rn 15 % 17) (592 + n.val)
  ⟨s, n, d, by decide +kernel⟩

theorem witness_PairFaultsTakeOver_7 : ∃ (s : State) (n : Pair) (d : Nat) (k : Pair),
    s.deadline (.pairFail n.val) = some d ∧
    (s.pairU n.val).mate = none ∧
    k ≠ n ∧
    s.pst k.val = pairService :=
  let x : State := State.reset
  let n : Pair := ⟨rn 4 % 16, by omega⟩
  let d : Nat := x.now + 25
  let k : Pair := ⟨(n.val + 1) % 16, by omega⟩
  let s : State := (((x.put DR_PSTATE_STATE 2 n.val).put DR_PSTATE_DEBUG 0 n.val).updPair n.val (fun p => {p with faulted := false, inPlace := false, storing := none, core0 := {p.core0 with waiting := none, stopped := false, regs := {p.core0.regs with x := Vector.ofFn (fun k => BitVec.ofNat 32 (rn (60 + k.val))), pc := BitVec.ofNat 32 (rn 33), crew := rn 34 % 64}}})).updPair n.val (fun p => {p with mate := none, faulted := true}) |>.arm (.pairFail n.val) 25 |>.put DR_PSTATE_STATE 2 k.val
  ⟨s, n, d, k, by decide +kernel⟩

theorem witness_PairFaultsTakeOver_8 : ∃ (s : State) (n : Pair) (d : Nat),
    s.deadline (.takeover n.val) = some d ∧
    (s.pairU n.val).mate = none :=
  let x : State := State.reset
  let n : Pair := ⟨rn 4 % 16, by omega⟩
  let d : Nat := x.now + 9
  let s : State := ((owned x n.val 2 2).put DR_PSTATE_STATE 7 n.val).updPair n.val (fun p => {p with mate := none}) |>.arm (.takeover n.val) 9
  ⟨s, n, d, by decide +kernel⟩

theorem witness_PairFaultsTakeOver_9 : ∃ (s : State) (n : Pair) (d : Nat) (k : Pair),
    s.deadline (.takeover n.val) = some d ∧
    (s.pairU n.val).mate = some k.val ∧
    k ≠ n :=
  let x : State := State.reset
  let n : Pair := ⟨rn 4 % 16, by omega⟩
  let d : Nat := x.now + 9
  let k : Pair := ⟨(n.val + 1 + rn 6 % 15) % 16, by omega⟩
  let s : State := (owned x n.val 2 2).updPair n.val (fun p => {p with mate := some k.val}) |>.arm (.takeover n.val) 9
  ⟨s, n, d, k, by decide +kernel⟩

theorem witness_PairFaultsTakeOver_10 : ∃ (s : State) (n : Pair) (f : Pair),
    s.pst n.val = pairRecovery ∧
    (s.pairU n.val).mate = some f.val ∧
    f ≠ n ∧
    (s.pairU f.val).overflow = false ∧
    (s.pairU f.val).core0.waiting = none :=
  let x : State := State.reset
  let n : Pair := ⟨rn 4 % 16, by omega⟩
  let f : Pair := ⟨(n.val + 1 + rn 6 % 15) % 16, by omega⟩
  let s : State := (x.put DR_PSTATE_STATE 6 n.val).updPair n.val (fun p => {p with mate := some f.val}) |>.updPair f.val (fun p => {p with overflow := false, core0 := {p.core0 with waiting := none, regs := {p.core0.regs with pc := 77, x := Vector.ofFn (fun k => BitVec.ofNat 32 (rn (60 + k.val)))}}})
  ⟨s, n, f, by decide +kernel⟩

theorem witness_PairFaultsTakeOver_11 : ∃ (s : State) (n : Pair) (o : Fin 4) (f : Pair),
    s.pst n.val = pairRecovery ∧
    (s.pairU n.val).mate = some f.val ∧
    ((s.pairU f.val).overflow = true ∨ 2 ≤ o.val) :=
  let x : State := State.reset
  let n : Pair := ⟨rn 4 % 16, by omega⟩
  let o : Fin 4 := ⟨2 + rn 5 % 2, by omega⟩
  let f : Pair := ⟨(n.val + 1 + rn 6 % 15) % 16, by omega⟩
  let s : State := (x.put DR_PSTATE_STATE 6 n.val).updPair n.val (fun p => {p with mate := some f.val}) |>.updPair f.val (fun p => {p with overflow := rn 7 % 2 == 0})
  ⟨s, n, o, f, by decide +kernel⟩

theorem witness_PairsAreTestedSplitAndJoined_1 : ∃ (s : State) (m : Master) (n : Pair) (v : Word),
    s.busOpen m = true ∧
    s.lockstep m = true ∧
    s.pst n.val = pairService :=
  let x : State := State.reset
  let m : Master := .pair 3
  let n : Pair := ⟨4 + rn 4 % 12, by omega⟩
  let v : Word := BitVec.ofNat 32 (rn 91)
  let s : State := (x.put DR_PSTATE_STATE 2 3).put DR_PSTATE_STATE 2 n.val
  ⟨s, m, n, v, by decide +kernel⟩

theorem witness_PairsAreTestedSplitAndJoined_2 : ∃ (s : State) (m : Master) (n : Pair) (v : Word),
    s.busOpen m = true ∧
    s.lockstep m = true ∧
    s.pst n.val ≠ pairService :=
  let x : State := State.reset
  let m : Master := .pair 3
  let n : Pair := ⟨4 + rn 4 % 12, by omega⟩
  let v : Word := BitVec.ofNat 32 (rn 91)
  let s : State := (x.put DR_PSTATE_STATE 2 3).put DR_PSTATE_STATE (3 + rn 7 % 5) n.val
  ⟨s, m, n, v, by decide +kernel⟩

theorem witness_PairsAreTestedSplitAndJoined_3 : ∃ (s : State) (m : Master) (n : Pair) (v : Word),
    s.busOpen m = true ∧
    s.lockstep m = true ∧
    s.pst n.val = pairTest ∧
    s.ownedBy n.val = [] ∧
    (s.pairU n.val).afterTest ≠ pairSpare ∧
    (s.optSpares ≤ (s.pairsIn pairSpare).length ∨ s.pairsIn pairService = []) :=
  let x : State := State.reset
  let m : Master := .pair 3
  let n : Pair := ⟨4 + rn 4 % 12, by omega⟩
  let v : Word := BitVec.ofNat 32 (rn 91)
  let s : State := (((x.put DR_PSTATE_STATE 2 3).put DR_PSTATE_STATE 5 n.val).wrw .RS_OPTIMG 0 0 |>.updPair n.val (fun p => {p with afterTest := 5})) |> fun y => (List.range 8).foldl (fun y b => y.put BLK_BLKCTL_OWNED 0 b) y
  ⟨s, m, n, v, by decide +kernel⟩

theorem witness_PairsAreTestedSplitAndJoined_4 : ∃ (s : State) (m : Master) (n : Pair) (v : Word),
    s.busOpen m = true ∧
    s.lockstep m = true ∧
    (s.pst n.val ≠ pairTest ∨ s.ownedBy n.val ≠ [] ∨ (s.pairU n.val).afterTest = pairSpare) :=
  let x : State := State.reset
  let m : Master := .pair 3
  let n : Pair := ⟨4 + rn 4 % 12, by omega⟩
  let v : Word := BitVec.ofNat 32 (rn 91)
  let s : State := (x.put DR_PSTATE_STATE 2 3).put DR_PSTATE_STATE (3 + rn 7 % 5) n.val |>.updPair n.val (fun p => {p with afterTest := 4})
  ⟨s, m, n, v, by decide +kernel⟩

theorem witness_PairsAreTestedSplitAndJoined_5 : ∃ (s : State) (m : Master) (n : Pair) (v : Word),
    s.busOpen m = true ∧
    s.lockstep m = true ∧
    s.pst n.val ≠ pairTest :=
  let x : State := State.reset
  let m : Master := .pair 3
  let n : Pair := ⟨4 + rn 4 % 12, by omega⟩
  let v : Word := BitVec.ofNat 32 (rn 91)
  let s : State := (x.put DR_PSTATE_STATE 2 3).put DR_PSTATE_STATE (6 + rn 7 % 2) n.val
  ⟨s, m, n, v, by decide +kernel⟩

theorem witness_PairsAreTestedSplitAndJoined_6 : ∃ (s : State) (m : Master) (n : Pair) (v : Word),
    s.busOpen m = true ∧
    s.lockstep m = true ∧
    (s.pst n.val ≠ pairTest ∨ s.ownedBy n.val ≠ []) :=
  let x : State := State.reset
  let m : Master := .pair 3
  let n : Pair := ⟨4 + rn 4 % 12, by omega⟩
  let v : Word := BitVec.ofNat 32 (rn 91)
  let s : State := (x.put DR_PSTATE_STATE 2 3).put DR_PSTATE_STATE (6 + rn 7 % 2) n.val
  ⟨s, m, n, v, by decide +kernel⟩

theorem witness_PairsAreTestedSplitAndJoined_7 : ∃ (s : State) (m : Master) (n : Pair) (v : Word),
    s.busOpen m = true ∧
    s.lockstep m = false :=
  let x : State := State.reset
  let m : Master := .dma
  let n : Pair := ⟨4 + rn 4 % 12, by omega⟩
  let v : Word := BitVec.ofNat 32 (rn 91)
  let s : State := (x.put DR_PSTATE_STATE 2 3)
  ⟨s, m, n, v, by decide +kernel⟩

theorem witness_PairsAreTestedSplitAndJoined_8 : ∃ (s : State) (m : Master) (n : Pair) (v : Word),
    s.busOpen m = true ∧
    s.lockstep m = true ∧
    s.pst n.val ≠ pairSplit :=
  let x : State := State.reset
  let m : Master := .pair 3
  let n : Pair := ⟨4 + rn 4 % 12, by omega⟩
  let v : Word := BitVec.ofNat 32 (rn 91)
  let s : State := (x.put DR_PSTATE_STATE 2 3).put DR_PSTATE_STATE (5 + rn 7 % 3) n.val
  ⟨s, m, n, v, by decide +kernel⟩

theorem witness_PairsAreTestedSplitAndJoined_9 : ∃ (s : State) (n : Pair),
    (s.pst n.val ≠ pairSplit ∨ (s.pairU n.val).joining ≠ 2) :=
  let x : State := State.reset
  let n : Pair := ⟨rn 4 % 16, by omega⟩
  let s : State := (x.put DR_PSTATE_STATE 3 n.val).updPair n.val (fun p => {p with joining := rn 6 % 2})
  ⟨s, n, by decide +kernel⟩

theorem witness_PairsAreTestedSplitAndJoined_10 : ∃ (s : State) (m : Master) (n : Pair) (v : Word),
    s.busOpen m = true ∧
    s.lockstep m = true ∧
    s.pst n.val = pairTest :=
  let x : State := State.reset
  let m : Master := .pair 3
  let n : Pair := ⟨4 + rn 4 % 12, by omega⟩
  let v : Word := BitVec.ofNat 32 (rn 91)
  let s : State := (x.put DR_PSTATE_STATE 2 3).put DR_PSTATE_STATE 5 n.val
  ⟨s, m, n, v, by decide +kernel⟩

theorem witness_PairsAreTestedSplitAndJoined_11 : ∃ (s : State) (m : Master) (n : Pair) (v : Word),
    s.busOpen m = true ∧
    s.lockstep m = true ∧
    s.pst n.val = pairTest ∧
    s.ownedBy n.val = [] :=
  let x : State := State.reset
  let m : Master := .pair 3
  let n : Pair := ⟨4 + rn 4 % 12, by omega⟩
  let v : Word := BitVec.ofNat 32 (rn 91)
  let s : State := ((x.put DR_PSTATE_STATE 2 3).put DR_PSTATE_STATE 5 n.val) |> fun y => (List.range 8).foldl (fun y b => y.put BLK_BLKCTL_OWNED 0 b) y
  ⟨s, m, n, v, by decide +kernel⟩

theorem witness_PairsAreTestedSplitAndJoined_12 : ∃ (s : State) (m : Master) (n : Pair) (v : Word),
    s.busOpen m = true ∧
    (s.lockstep m = true ∨ m = .core n 0) ∧
    s.pst n.val = pairSplit :=
  let x : State := State.reset
  let m : Master := if rn 6 % 2 = 0 then .pair 3 else .core ⟨4 + rn 4 % 12, by omega⟩ 0
  let n : Pair := ⟨4 + rn 4 % 12, by omega⟩
  let v : Word := BitVec.ofNat 32 (rn 91)
  let s : State := (x.put DR_PSTATE_STATE 2 3).put DR_PSTATE_STATE 3 n.val
  ⟨s, m, n, v, by decide +kernel⟩

theorem witness_PairsAreTestedSplitAndJoined_13 : ∃ (s : State) (n : Pair),
    s.pst n.val = pairSplit ∧
    (s.pairU n.val).joining = 2 :=
  let x : State := State.reset
  let n : Pair := ⟨rn 4 % 16, by omega⟩
  let s : State := (x.put DR_PSTATE_STATE 3 n.val).updPair n.val (fun p => {p with joining := 2})
  ⟨s, n, by decide +kernel⟩

theorem witness_PairsAreTestedSplitAndJoined_14 : ∃ (s : State) (n : Pair) (r : Bool),
    s.pst n.val = pairTest :=
  let x : State := State.reset
  let n : Pair := ⟨rn 4 % 16, by omega⟩
  let r : Bool := rn 92 % 2 == 0
  let s : State := (x.put DR_PSTATE_STATE 5 n.val).put DR_PCOUNT_FAILCNT (rn 6 % 3) n.val |>.updPair n.val (fun p => {p with afterTest := [2,4,5,7].getD (rn 7 % 4) 0})
  ⟨s, n, r, by decide +kernel⟩

theorem witness_PairsAreTestedSplitAndJoined_15 : ∃ (s : State) (n : Pair) (l : Fin 1024) (r : Bool),
    s.pst n.val = pairTest :=
  let x : State := State.reset
  let n : Pair := ⟨rn 4 % 16, by omega⟩
  let l : Fin 1024 := default
  let r : Bool := rn 92 % 2 == 0
  let s : State := (x.put DR_PSTATE_STATE 5 n.val).updPair n.val (fun p => {p with afterTest := [2,4,5,7].getD (rn 7 % 4) 0})
  ⟨s, n, l, r, by decide +kernel⟩

theorem witness_PairsAreTestedSplitAndJoined_16 : ∃ (s : State) (n : Pair) (r : Bool),
    s.pst n.val = pairStart ∧
    s.pairsMayStart = true :=
  let x : State := State.reset
  let n : Pair := ⟨rn 4 % 16, by omega⟩
  let r : Bool := rn 92 % 2 == 0
  let s : State := {(x.put DR_PSTATE_STATE 1 n.val) with supply := {x.supply with step := 5}, bank := {x.bank with lc := 3, uart := false, zeroWait := false}}
  ⟨s, n, r, by decide +kernel⟩

theorem witness_PairsAreTestedSplitAndJoined_17 : ∃ (s : State) (n : Pair) (r : Bool),
    s.pst n.val = pairService ∧
    (s.pairU n.val).inPlace = true :=
  let x : State := State.reset
  let n : Pair := ⟨rn 4 % 16, by omega⟩
  let r : Bool := rn 92 % 2 == 0
  let s : State := (x.put DR_PSTATE_STATE 2 n.val).updPair n.val (fun p => {p with inPlace := true})
  ⟨s, n, r, by decide +kernel⟩

theorem witness_PairsAreTestedSplitAndJoined_18 : ∃ (s : State) (n : Pair) (l : Fin 1024) (r : Bool),
    s.pst n.val = pairService ∧
    (s.pairU n.val).inPlace = true :=
  let x : State := State.reset
  let n : Pair := ⟨rn 4 % 16, by omega⟩
  let l : Fin 1024 := default
  let r : Bool := rn 92 % 2 == 0
  let s : State := (x.put DR_PSTATE_STATE 2 n.val).updPair n.val (fun p => {p with inPlace := true})
  ⟨s, n, l, r, by decide +kernel⟩

theorem witness_PairsAreTestedSplitAndJoined_19 : ∃ (s : State) (n : Pair),
    s.windowDue n.val = true ∧
    s.on DR_PSTATE_DEBUG n.val = false ∧
    (s.pst n.val = pairSpare ∨ (s.pst n.val = pairFailed ∧ (s.pairU n.val).stuck = false)) :=
  let x : State := State.reset
  let n : Pair := ⟨rn 4 % 16, by omega⟩
  let s : State := ((((x.put DR_PSTATE_STATE (if rn 6 % 2 = 0 then 4 else 7) n.val).put DR_PSTATE_DEBUG 0 n.val).put DR_TESTCTL_TESTINT 1 |>.put DR_TESTCTL_TESTFRAME (x.get SP_STAT_FRAME) |>.put DR_TESTCTL_NIGHTPREF 0) |> fun y => bnow {y with now := 10^13}) |>.updPair n.val (fun p => {p with lastTest := 5, stuck := false, faulted := false})
  ⟨s, n, by decide +kernel⟩

theorem witness_PairsAreTestedSplitAndJoined_20 : ∃ (s : State) (n : Pair) (k : Pair),
    s.windowDue n.val = true ∧
    s.on DR_PSTATE_DEBUG n.val = false ∧
    s.pst n.val = pairService ∧
    (s.pairU n.val).faulted = false ∧
    (s.pairsIn pairSpare).head? = some k.val :=
  let x : State := State.reset
  let n : Pair := ⟨rn 4 % 16, by omega⟩
  let k : Pair := ⟨(n.val + 1 + rn 7 % 15) % 16, by omega⟩
  let s : State := ((((x.put DR_PSTATE_STATE 2 n.val).put DR_PSTATE_DEBUG 0 n.val).put DR_TESTCTL_TESTINT 1 |>.put DR_TESTCTL_TESTFRAME (x.get SP_STAT_FRAME) |>.put DR_TESTCTL_NIGHTPREF 0) |> fun y => bnow {y with now := 10^13}) |>.updPair n.val (fun p => {p with lastTest := 5, stuck := false, faulted := false}) |> fun y => (List.range 16).foldl (fun y j => if y.pst j = 4 then y.put DR_PSTATE_STATE 5 j else y) y |>.put DR_PSTATE_STATE 4 k.val |>.put BLK_BLKCTL_OWNED 1 2 |>.put BLK_BLKCTL_OWNER n.val 2
  ⟨s, n, k, by decide +kernel⟩

theorem witness_PairsAreTestedSplitAndJoined_21 : ∃ (s : State) (n : Pair),
    s.windowDue n.val = true ∧
    s.on DR_PSTATE_DEBUG n.val = false ∧
    s.pst n.val = pairService ∧
    (s.pairU n.val).faulted = false ∧
    s.pairsIn pairSpare = [] :=
  let x : State := State.reset
  let n : Pair := ⟨rn 4 % 16, by omega⟩
  let s : State := ((((x.put DR_PSTATE_STATE 2 n.val).put DR_PSTATE_DEBUG 0 n.val).put DR_TESTCTL_TESTINT 1 |>.put DR_TESTCTL_TESTFRAME (x.get SP_STAT_FRAME) |>.put DR_TESTCTL_NIGHTPREF 0) |> fun y => bnow {y with now := 10^13}) |>.updPair n.val (fun p => {p with lastTest := 5, stuck := false, faulted := false}) |> fun y => (List.range 16).foldl (fun y j => if y.pst j = 4 then y.put DR_PSTATE_STATE 5 j else y) y
  ⟨s, n, by decide +kernel⟩

theorem witness_PairsAreTestedSplitAndJoined_22 : ∃ (s : State) (n : Pair),
    (s.windowDue n.val = false ∨ s.on DR_PSTATE_DEBUG n.val = true ∨ (s.pst n.val = pairFailed ∧ (s.pairU n.val).stuck = true)) :=
  let x : State := State.reset
  let n : Pair := ⟨rn 4 % 16, by omega⟩
  let s : State := ((((x.put DR_PSTATE_STATE 7 n.val).put DR_PSTATE_DEBUG 0 n.val).put DR_TESTCTL_TESTINT 1 |>.put DR_TESTCTL_TESTFRAME (x.get SP_STAT_FRAME) |>.put DR_TESTCTL_NIGHTPREF 0) |> fun y => bnow {y with now := 10^13}) |>.updPair n.val (fun p => {p with lastTest := 5, stuck := false, faulted := false})|>.put DR_PSTATE_DEBUG 1 n.val
  ⟨s, n, by decide +kernel⟩

theorem witness_PairsAreTestedSplitAndJoined_23 : ∃ (s : State) (m : Master) (n : Pair) (j : Fin 4) (v : Word),
    s.busOpen m = true ∧
    s.lockstep m = true ∧
    ((s.pst n.val ≠ pairStart ∧ s.pst n.val ≠ pairTest) ∨ s.regionOk n.val j.val v = false) :=
  let x : State := State.reset
  let m : Master := .pair 3
  let n : Pair := ⟨4 + rn 4 % 12, by omega⟩
  let j : Fin 4 := default
  let v : Word := BitVec.ofNat 32 (rn 91)
  let s : State := (x.put DR_PSTATE_STATE 2 3).put DR_PSTATE_STATE 7 n.val
  ⟨s, m, n, j, v, by decide +kernel⟩

theorem witness_PairsAreTestedSplitAndJoined_24 : ∃ (s : State) (m : Master) (n : Pair) (j : Fin 4) (v : Word),
    s.busOpen m = true ∧
    s.lockstep m = true ∧
    (s.pst n.val = pairStart ∨ s.pst n.val = pairTest) ∧
    s.regionOk n.val j.val v = true :=
  let x : State := State.reset
  let m : Master := .pair 3
  let n : Pair := ⟨4 + rn 4 % 12, by omega⟩
  let j : Fin 4 := default
  let v : Word := DR_OWNRGN_SIZE.into (DR_OWNRGN_BASE.into (DR_OWNRGN_EN.into 0 1) (0x1000 + rn 6 % 32)) (rn 7 % 4)
  let s : State := (x.put DR_PSTATE_STATE 2 3).put DR_PSTATE_STATE (if rn 6 % 2 = 0 then 1 else 5) n.val |> fun y => (List.range 16).foldl (fun y k => y.each (List.range 4) (fun y i => y.wrw .DR_OWNRGN 0 k i)) y
  ⟨s, m, n, j, v, by decide +kernel⟩

theorem witness_PairsAreTestedSplitAndJoined_25 : ∃ (s : State) (m : Master) (n : Pair) (v : Word),
    s.busOpen m = true ∧
    s.lockstep m = true :=
  let x : State := State.reset
  let m : Master := .pair 3
  let n : Pair := ⟨4 + rn 4 % 12, by omega⟩
  let v : Word := BitVec.ofNat 32 (rn 91)
  let s : State := (x.put DR_PSTATE_STATE 2 3)
  ⟨s, m, n, v, by decide +kernel⟩

theorem witness_PairsAreTestedSplitAndJoined_26 : ∃ (s : State) (n : Pair) (k : Fin 2),
    s.isSplit n.val = true ∧
    ((s.pairU n.val).core k.val).stopped = false :=
  let x : State := State.reset
  let n : Pair := ⟨rn 4 % 16, by omega⟩
  let k : Fin 2 := default
  let s : State := x.put DR_PSTATE_STATE 3 n.val
  ⟨s, n, k, by decide +kernel⟩

theorem witness_PairsAreTestedSplitAndJoined_27 : ∃ (s : State) (g : Fin 64) (a b : Vector Bool 3),
    s.on GP_GPIOCFG_DUAL g.val = true ∧
    a[0] = b[0] :=
  let x : State := State.reset
  let g : Fin 64 := ⟨rn 4 % 64, by omega⟩
  let a : Vector Bool 3 := #v[rn 5 % 2 == 0, true, false]
  let b : Vector Bool 3 := #v[rn 5 % 2 == 0, rn 6 % 2 == 0, false]
  let s : State := x.put GP_GPIOCFG_DUAL 1 g.val
  ⟨s, g, a, b, by decide +kernel⟩

theorem witness_PairsAreTestedSplitAndJoined_28 : ∃ (s : State) (g : Fin 64) (a b : Vector Bool 3),
    s.on GP_GPIOCFG_DUAL g.val = true ∧
    (∀ k : Fin 3, a[k] ≠ b[k]) ∧
    s.routed 577 = true :=
  let x : State := State.reset
  let g : Fin 64 := ⟨rn 4 % 64, by omega⟩
  let a : Vector Bool 3 := #v[true, false, true]
  let b : Vector Bool 3 := #v[false, true, false]
  let s : State := x.put GP_GPIOCFG_DUAL 1 g.val |>.put IC_SRCCFG_TARGET (rn 15 % 17) (577)
  ⟨s, g, a, b, by decide +kernel⟩

theorem witness_ForemanDemands_1 : ∃ (s : State) (a b c : BitVec 12) (f : Fin 65536) (d : BitVec 5) (krb brb : BitVec 2) (at_ : Nat),
    s.deadline .fmSample = some at_ ∧
    s.supply.vaux = true :=
  let x : State := State.reset
  let a : BitVec 12 := BitVec.ofNat 12 (rn 4)
  let b : BitVec 12 := BitVec.ofNat 12 (rn 5)
  let c : BitVec 12 := BitVec.ofNat 12 (rn 6)
  let f : Fin 65536 := ⟨rn 7 % 65536, by omega⟩
  let d : BitVec 5 := BitVec.ofNat 5 (rn 8)
  let krb : BitVec 2 := BitVec.ofNat 2 (rn 9)
  let brb : BitVec 2 := BitVec.ofNat 2 (rn 10)
  let at_ : Nat := x.now + 1000
  let s : State := (fmw x rn).arm .fmSample 1000
  ⟨s, a, b, c, f, d, krb, brb, at_, by decide +kernel⟩

theorem witness_ForemanDemands_2 : ∃ (s : State) (w : WinRead) (f : Fin 3) (k : Nat),
    k = w.win.val ∧
    (s.winReads k w.pins).fgCrossed k f = true ∧
    s.guarded k = true ∧
    ((f.val = 0 ∧ bits (s.winParam k 2) 16 8 ≠ 0) ∨ (f.val = 1 ∧ bit (s.winParam k 2) 1 = true) ∨ (f.val = 2 ∧ bits (s.winParam k 2) 2 2 ≠ 0)) :=
  let x : State := State.reset
  let w : WinRead := ⟨⟨rn 4 % 96, by omega⟩, [(2600000000, 1)]⟩
  let f : Fin 3 := default
  let k : Nat := w.win.val
  let s : State := (fmw x rn)|>.put CN_WCTL_RBFAIL (rn 19 % 2) w.win.val |>.put CN_WCTL_FGUARD 1 w.win.val |>.put CN_WCTL_EN 1 w.win.val |>.put CN_WCTL_MODE 0 w.win.val |>.put CN_WCTL_ENHI 1 w.win.val |>.put CN_WTHR_HI 100 w.win.val |>.put PR_PWRSTAT_STATE 0 |> later |>.updWin w.win.val (fun u => ⟨⟨true, 900⟩, ⟨true, 900⟩, some 0, x.now⟩) |> fun y => {y with now := y.now + 900000}
  ⟨s, w, f, k, by decide +kernel⟩

theorem witness_ForemanDemands_3 : ∃ (s : State) (w : WinRead) (f : Fin 3) (k : Nat),
    k = w.win.val ∧
    (s.guarded k = false ∨ (s.winReads k w.pins).fgCrossed k f = false) :=
  let x : State := State.reset
  let w : WinRead := ⟨⟨rn 4 % 96, by omega⟩, [(2600000000, 1)]⟩
  let f : Fin 3 := default
  let k : Nat := w.win.val
  let s : State := (fmw x rn)
  ⟨s, w, f, k, by decide +kernel⟩

theorem witness_ForemanDemands_4 : ∃ (s : State) (k : Fin 2) (c : Bool) (d : Nat),
    s.deadline (.mirror k.val) = some d ∧
    (s.outUsed k.val = false ∨ c = s.outOn k.val) :=
  let x : State := State.reset
  let k : Fin 2 := ⟨rn 4 % 2, by omega⟩
  let s0 : State := (fmw x rn).arm (.mirror (rn 4 % 2)) 77
  let c : Bool := (s0.outOn (rn 4 % 2))
  let d : Nat := x.now + 77
  let s : State := (fmw x rn).arm (.mirror (rn 4 % 2)) 77
  ⟨s, k, c, d, by decide +kernel⟩

theorem witness_ForemanDemands_5 : ∃ (s : State) (k : Fin 5) (b : Bool),
    (s.outOn k.val = false ∨ s.armed (.offPulse k.val) = true) :=
  let x : State := State.reset
  let k : Fin 5 := ⟨rn 4 % 5, by omega⟩
  let b : Bool := rn 92 % 2 == 0
  let s : State := (fmw x rn).put FM_FSAFEN_SF1 0 |>.put FM_FSAFEN_BRK 0
  ⟨s, k, b, by decide +kernel⟩

theorem witness_ForemanDemands_6 : ∃ (s : State) (v : BitVec 12) (d : Nat),
    s.deadline .fmSeal = some d ∧
    s.supply.vaux = true ∧
    v.toNat ≠ s.get FM_SEAL_SEALREF :=
  let x : State := State.reset
  let v : BitVec 12 := BitVec.ofNat 12 (x.get FM_SEAL_SEALREF + 1)
  let d : Nat := x.now + 77
  let s : State := (fmw x rn).arm .fmSeal 77
  ⟨s, v, d, by decide +kernel⟩

theorem witness_ForemanDemands_7 : ∃ (s : State) (v : BitVec 12) (d : Nat),
    s.deadline .fmSeal = some d ∧
    s.supply.vaux = true ∧
    v.toNat = s.get FM_SEAL_SEALREF :=
  let x : State := State.reset
  let v : BitVec 12 := BitVec.ofNat 12 (x.get FM_SEAL_SEALREF)
  let d : Nat := x.now + 77
  let s : State := (fmw x rn).arm .fmSeal 77
  ⟨s, v, d, by decide +kernel⟩

theorem witness_ForemanDemands_8 : ∃ (s : State) (k : Fin 2) (c : Bool) (d : Nat),
    s.deadline (.mirror k.val) = some d ∧
    s.outUsed k.val = true ∧
    c ≠ s.outOn k.val :=
  let x : State := State.reset
  let k : Fin 2 := ⟨rn 4 % 2, by omega⟩
  let s0 : State := (fmw x rn).arm (.mirror (rn 4 % 2)) 77
  let c : Bool := !(s0.outOn (rn 4 % 2))
  let d : Nat := x.now + 77
  let s : State := (fmw x rn).arm (.mirror (rn 4 % 2)) 77
  ⟨s, k, c, d, by decide +kernel⟩

theorem witness_ForemanDemands_9 : ∃ (s : State) (k : Fin 5),
    s.outOn k.val = true ∧
    s.armed (.offPulse k.val) = false :=
  let x : State := State.reset
  let k : Fin 5 := ⟨rn 4 % 5, by omega⟩
  let s : State := (fmw x rn).put FM_FSAFEN_SF1 1 |>.put FM_FSAFEN_BRK 3 |>.put FM_FSTAT_SF1OPEN 0 |>.put FM_FSTAT_SF3DEM 0 |>.wrw .FM_FCMD 0x1F |>.put FM_BTEST_BUSY 0 |> (fun (y : State) => {y with timers := []})
  ⟨s, k, by decide +kernel⟩

theorem witness_ForemanDemands_10 : ∃ (s : State) (k : Fin 5),
    s.outOn k.val = true ∧
    s.armed (.offPulse k.val) = false :=
  let x : State := State.reset
  let k : Fin 5 := ⟨rn 4 % 5, by omega⟩
  let s : State := (fmw x rn).put FM_FSAFEN_SF1 1 |>.put FM_FSAFEN_BRK 3 |>.put FM_FSTAT_SF1OPEN 0 |>.put FM_FSTAT_SF3DEM 0 |>.wrw .FM_FCMD 0x1F |>.put FM_BTEST_BUSY 0 |> (fun (y : State) => {y with timers := []})
  ⟨s, k, by decide +kernel⟩

theorem witness_ForemanDemands_11 : ∃ (s : State) (k : Fin 5) (on : Bool) (d : Nat),
    s.deadline (.offPulse k.val) = some d ∧
    on = s.outOn k.val :=
  let x : State := State.reset
  let k : Fin 5 := ⟨rn 4 % 5, by omega⟩
  let s0 : State := ((fmw x rn).put FM_FSAFEN_SF1 1 |>.put FM_FSAFEN_BRK 3 |>.put FM_FSTAT_SF1OPEN 0 |>.put FM_FSTAT_SF3DEM 0 |>.wrw .FM_FCMD 0x1F |>.put FM_BTEST_BUSY 0 |> (fun (y : State) => {y with timers := []})) |>.arm (.offPulse k.val) 44
  let on : Bool := s0.outOn k.val
  let d : Nat := x.now + 44
  let s : State := ((fmw x rn).put FM_FSAFEN_SF1 1 |>.put FM_FSAFEN_BRK 3 |>.put FM_FSTAT_SF1OPEN 0 |>.put FM_FSTAT_SF3DEM 0 |>.wrw .FM_FCMD 0x1F |>.put FM_BTEST_BUSY 0 |> (fun (y : State) => {y with timers := []})) |>.arm (.offPulse k.val) 44
  ⟨s, k, on, d, by decide +kernel⟩

theorem witness_ForemanDemands_12 : ∃ (s : State) (k : Fin 5) (on : Bool) (d : Nat),
    s.deadline (.offPulse k.val) = some d ∧
    on ≠ s.outOn k.val :=
  let x : State := State.reset
  let k : Fin 5 := ⟨rn 4 % 5, by omega⟩
  let s0 : State := ((fmw x rn).put FM_FSAFEN_SF1 1 |>.put FM_FSAFEN_BRK 3 |>.put FM_FSTAT_SF1OPEN 0 |>.put FM_FSTAT_SF3DEM 0 |>.wrw .FM_FCMD 0x1F |>.put FM_BTEST_BUSY 0 |> (fun (y : State) => {y with timers := []})) |>.arm (.offPulse k.val) 44
  let on : Bool := !(s0.outOn k.val)
  let d : Nat := x.now + 44
  let s : State := ((fmw x rn).put FM_FSAFEN_SF1 1 |>.put FM_FSAFEN_BRK 3 |>.put FM_FSTAT_SF1OPEN 0 |>.put FM_FSTAT_SF3DEM 0 |>.wrw .FM_FCMD 0x1F |>.put FM_BTEST_BUSY 0 |> (fun (y : State) => {y with timers := []})) |>.arm (.offPulse k.val) 44
  ⟨s, k, on, d, by decide +kernel⟩

theorem witness_ForemanDemands_13 : ∃ (s : State) (d : Nat),
    s.deadline .fmTest = some d ∧
    s.supply.vaux = true :=
  let x : State := State.reset
  let d : Nat := x.now + 77
  let s : State := (fmw x rn).arm .fmTest 77
  ⟨s, d, by decide +kernel⟩

theorem witness_ForemanDemands_14 : ∃ (s : State) (a b c : Bool) (d : Nat),
    s.deadline .fmTest = some d ∧
    s.supply.vaux = true ∧
    (a && b && c) = false ∧
    s.resetting = false :=
  let x : State := State.reset
  let a : Bool := rn 4 % 2 == 0
  let b : Bool := rn 5 % 2 == 0
  let c : Bool := false
  let d : Nat := x.now + 77
  let s : State := let y := ((fmw x rn).arm .fmTest 77); {y with supply := {y.supply with vaux := true, step := 6, resetAt := 0}} 
  ⟨s, a, b, c, d, by decide +kernel⟩

theorem witness_ForemanDemands_15 : ∃ (s : State) (a b c : Nat) (d : Nat),
    s.deadline .fmClock = some d ∧
    s.supply.vaux = true ∧
    clocksDiffer a b = false ∧
    clocksDiffer a c = false ∧
    clocksDiffer b c = false :=
  let x : State := State.reset
  let a : Nat := 1000000
  let b : Nat := 1000000 + rn 5 % 5000
  let c : Nat := 1000000 - rn 6 % 5000
  let d : Nat := x.now + 77
  let s : State := (fmw x rn).arm .fmClock 77
  ⟨s, a, b, c, d, by decide +kernel⟩

theorem witness_ForemanDemands_16 : ∃ (s : State) (a b c : Nat) (d : Nat),
    s.deadline .fmClock = some d ∧
    s.supply.vaux = true ∧
    (clocksDiffer a b = true ∨ clocksDiffer a c = true ∨ clocksDiffer b c = true) ∧
    s.resetting = false :=
  let x : State := State.reset
  let a : Nat := 1000000
  let b : Nat := 1000000 + rn 5 % 5000
  let c : Nat := 1020000
  let d : Nat := x.now + 77
  let s : State := let y := ((fmw x rn).arm .fmClock 77); {y with supply := {y.supply with vaux := true, step := 6, resetAt := 0}} 
  ⟨s, a, b, c, d, by decide +kernel⟩

theorem witness_ForemanObeysItsSafetyPair_1 : ∃ (s : State) (n : Pair) (v : Word),
    s.busOpen (.pair n) = true ∧
    s.lockstep (.pair n) = true ∧
    s.get FM_FSTAT_SAFEPAIR_ACT = n.val ∧
    v >>> 16 = ~~~v &&& 0xFFFF :=
  let x : State := State.reset
  let n : Pair := ⟨rn 14 % 16, by omega⟩
  let v : Word := let a := BitVec.ofNat 32 (rn 6 % 65536); a ||| ((~~~a) <<< 16)
  let s : State := (fmw x rn).put DR_PSTATE_STATE 2 n.val |>.put FM_FSTAT_SAFEPAIR_ACT n.val
  ⟨s, n, v, by decide +kernel⟩

theorem witness_ForemanObeysItsSafetyPair_2 : ∃ (s : State) (n : Pair) (v : Word),
    s.busOpen (.pair n) = true ∧
    s.lockstep (.pair n) = true ∧
    s.get FM_FSTAT_SAFEPAIR_ACT = n.val ∧
    v >>> 16 ≠ ~~~v &&& 0xFFFF ∧
    s.routed 969 = true :=
  let x : State := State.reset
  let n : Pair := ⟨rn 14 % 16, by omega⟩
  let v : Word := BitVec.ofNat 32 (rn 6 % 65536)
  let s : State := (fmw x rn).put DR_PSTATE_STATE 2 n.val |>.put FM_FSTAT_SAFEPAIR_ACT n.val |>.put IC_SRCCFG_TARGET (rn 15 % 17) (969)
  ⟨s, n, v, by decide +kernel⟩

theorem witness_ForemanObeysItsSafetyPair_3 : ∃ (s : State) (d : Nat),
    s.deadline .safen = some d ∧
    s.routed 969 = true :=
  let x : State := State.reset
  let d : Nat := x.now + 12
  let s : State := (fmw x rn).arm .safen 12 |>.put IC_SRCCFG_TARGET (rn 15 % 17) (969)
  ⟨s, d, by decide +kernel⟩

theorem witness_ForemanObeysItsSafetyPair_4 : ∃ (s : State) (n : Pair) (v : Word),
    s.busOpen (.pair n) = true ∧
    s.lockstep (.pair n) = true ∧
    s.get FM_FSTAT_SAFEPAIR_ACT = n.val ∧
    ((s.on BK_ADITSTAT_OPEN = false ∧ s.on BK_BKSTAT_RESTRICTED = false) ∨ v &&& 7 = 0) :=
  let x : State := State.reset
  let n : Pair := ⟨rn 14 % 16, by omega⟩
  let v : Word := BitVec.ofNat 32 (rn 6 % 32)
  let s : State := (fmw x rn).put DR_PSTATE_STATE 2 n.val |>.put FM_FSTAT_SAFEPAIR_ACT n.val|>.put BK_ADITSTAT_OPEN 0 |>.put BK_BKSTAT_RESTRICTED 0 |>.put FM_FSAFEN_SF1 1 |>.put FM_FSAFEN_BRK 3 |>.put FM_FSTAT_SF1OPEN 0
  ⟨s, n, v, by decide +kernel⟩

theorem witness_ForemanObeysItsSafetyPair_5 : ∃ (s : State) (n : Pair) (v : Word),
    s.busOpen (.pair n) = true ∧
    s.lockstep (.pair n) = true ∧
    s.get FM_FSTAT_SAFEPAIR_ACT = n.val ∧
    (s.on BK_ADITSTAT_OPEN = true ∨ s.on BK_BKSTAT_RESTRICTED = true) ∧
    v &&& 7 ≠ 0 :=
  let x : State := State.reset
  let n : Pair := ⟨rn 14 % 16, by omega⟩
  let v : Word := BitVec.ofNat 32 (1 + rn 6 % 7)
  let s : State := (fmw x rn).put DR_PSTATE_STATE 2 n.val |>.put FM_FSTAT_SAFEPAIR_ACT n.val|>.put BK_ADITSTAT_OPEN (rn 7 % 2) |>.put BK_BKSTAT_RESTRICTED (1 - rn 7 % 2)
  ⟨s, n, v, by decide +kernel⟩

theorem witness_ForemanObeysItsSafetyPair_6 : ∃ (s : State) (n : Pair) (v : Word),
    s.busOpen (.pair n) = true ∧
    s.lockstep (.pair n) = true ∧
    s.get FM_FSTAT_SAFEPAIR_ACT = n.val ∧
    s.on FM_FSTAT_MIR_FAIL = true :=
  let x : State := State.reset
  let n : Pair := ⟨rn 14 % 16, by omega⟩
  let v : Word := BitVec.ofNat 32 (rn 91)
  let s : State := (fmw x rn).put DR_PSTATE_STATE 2 n.val |>.put FM_FSTAT_SAFEPAIR_ACT n.val|>.put FM_FSTAT_SF1OPEN 1 |>.put FM_FSTAT_MIR_FAIL 1 |>.put FM_FOUT_KRB (rn 9 % 4)
  ⟨s, n, v, by decide +kernel⟩

theorem witness_ForemanObeysItsSafetyPair_7 : ∃ (s : State) (n : Pair) (v : Word),
    s.busOpen (.pair n) = true ∧
    s.lockstep (.pair n) = true ∧
    s.get FM_FSTAT_SAFEPAIR_ACT = n.val ∧
    s.on FM_FSTAT_MIR_FAIL = false :=
  let x : State := State.reset
  let n : Pair := ⟨rn 14 % 16, by omega⟩
  let v : Word := BitVec.ofNat 32 (rn 91)
  let s : State := (fmw x rn).put DR_PSTATE_STATE 2 n.val |>.put FM_FSTAT_SAFEPAIR_ACT n.val|>.wrw .FM_FSTAT (BitVec.ofNat 32 (rn 8)) |>.put FM_FSTAT_SAFEPAIR_ACT n.val |>.put FM_FSTAT_MIR_FAIL 0 |> fun y => {y with fm := {y.fm with fresh := if rn 9 % 2 = 0 then 0 else rn 10 % 2048}}
  ⟨s, n, v, by decide +kernel⟩

theorem witness_ForemanObeysItsSafetyPair_8 : ∃ (s : State) (n : Pair) (k : Fin 2) (v : Word),
    s.busOpen (.pair n) = true ∧
    s.lockstep (.pair n) = true ∧
    s.get FM_FSTAT_SAFEPAIR_ACT = n.val ∧
    s.brakeMayTest k.val = true :=
  let x : State := State.reset
  let n : Pair := ⟨rn 14 % 16, by omega⟩
  let k : Fin 2 := ⟨rn 4 % 2, by omega⟩
  let v : Word := BitVec.ofNat 32 (rn 91)
  let s : State := ((fmw x rn).put DR_PSTATE_STATE 2 n.val |>.put FM_FSTAT_SAFEPAIR_ACT n.val) |>.put FM_FSAFEN_BRK 3 |>.put FM_FSTAT_SF3DEM 0 |>.put FM_BTEST_BUSY 0 |>.wrw .FM_FCMD 0 
  ⟨s, n, k, v, by decide +kernel⟩

theorem witness_ForemanObeysItsSafetyPair_9 : ∃ (s : State) (n : Pair) (k : Fin 2) (v : Word),
    s.busOpen (.pair n) = true ∧
    s.lockstep (.pair n) = true ∧
    s.get FM_FSTAT_SAFEPAIR_ACT = n.val ∧
    s.brakeMayTest k.val = false :=
  let x : State := State.reset
  let n : Pair := ⟨rn 14 % 16, by omega⟩
  let k : Fin 2 := ⟨rn 4 % 2, by omega⟩
  let v : Word := BitVec.ofNat 32 (rn 91)
  let s : State := ((fmw x rn).put DR_PSTATE_STATE 2 n.val |>.put FM_FSTAT_SAFEPAIR_ACT n.val) |>.put FM_FSAFEN_BRK 0
  ⟨s, n, k, v, by decide +kernel⟩

theorem witness_ForemanObeysItsSafetyPair_10 : ∃ (s : State) (m : Master) (n : Pair) (v : Word),
    s.busOpen m = true ∧
    (s.lockstep m = false ∨ m ≠ .pair n) ∧
    n.val = s.get FM_FSTAT_SAFEPAIR_ACT :=
  let x : State := State.reset
  let m : Master := .dma
  let n : Pair := ⟨rn 14 % 16, by omega⟩
  let v : Word := BitVec.ofNat 32 (rn 91)
  let s : State := (fmw x rn).put DR_PSTATE_STATE 2 n.val |>.put FM_FSTAT_SAFEPAIR_ACT n.val
  ⟨s, m, n, v, by decide +kernel⟩

theorem witness_ForemanObeysItsSafetyPair_11 : ∃ (s : State) (m : Master) (n : Pair) (v : Word),
    s.busOpen m = true ∧
    (s.lockstep m = false ∨ m ≠ .pair n) ∧
    n.val = s.get FM_FSTAT_SAFEPAIR_ACT :=
  let x : State := State.reset
  let m : Master := .dma
  let n : Pair := ⟨rn 14 % 16, by omega⟩
  let v : Word := BitVec.ofNat 32 (rn 91)
  let s : State := (fmw x rn).put DR_PSTATE_STATE 2 n.val |>.put FM_FSTAT_SAFEPAIR_ACT n.val
  ⟨s, m, n, v, by decide +kernel⟩

theorem witness_ForemanObeysItsSafetyPair_12 : ∃ (s : State) (m : Master) (n : Pair) (v : Word),
    s.busOpen m = true ∧
    (s.lockstep m = false ∨ m ≠ .pair n) ∧
    n.val = s.get FM_FSTAT_SAFEPAIR_ACT :=
  let x : State := State.reset
  let m : Master := .dma
  let n : Pair := ⟨rn 14 % 16, by omega⟩
  let v : Word := BitVec.ofNat 32 (rn 91)
  let s : State := (fmw x rn).put DR_PSTATE_STATE 2 n.val |>.put FM_FSTAT_SAFEPAIR_ACT n.val
  ⟨s, m, n, v, by decide +kernel⟩

theorem witness_ForemanObeysItsSafetyPair_13 : ∃ (s : State) (m : Master) (n : Pair) (k : Fin 2) (v : Word),
    s.busOpen m = true ∧
    (s.lockstep m = false ∨ m ≠ .pair n) ∧
    n.val = s.get FM_FSTAT_SAFEPAIR_ACT :=
  let x : State := State.reset
  let m : Master := .dma
  let n : Pair := ⟨rn 14 % 16, by omega⟩
  let k : Fin 2 := ⟨rn 4 % 2, by omega⟩
  let v : Word := BitVec.ofNat 32 (rn 91)
  let s : State := (fmw x rn).put DR_PSTATE_STATE 2 n.val |>.put FM_FSTAT_SAFEPAIR_ACT n.val
  ⟨s, m, n, k, v, by decide +kernel⟩

theorem witness_ForemanObeysItsSafetyPair_14 : ∃ (s : State) (n : Fin 2) (d : Nat),
    s.deadline (.brakeHold n.val) = some d :=
  let x : State := State.reset
  let n : Fin 2 := ⟨rn 4 % 2, by omega⟩
  let d : Nat := x.now + 12
  let s : State := (fmw x rn).arm (.brakeHold n.val) 12
  ⟨s, n, d, by decide +kernel⟩

theorem witness_ForemanObeysItsSafetyPair_15 : ∃ (s : State) (n : Fin 2),
    s.bitOf FM_BTEST_BUSY n.val = true ∧
    s.armed (.brakeEngage n.val) = true :=
  let x : State := State.reset
  let n : Fin 2 := ⟨rn 4 % 2, by omega⟩
  let s : State := (fmw x rn).put FM_BTEST_BUSY 3 |>.arm (.brakeEngage n.val) 12
  ⟨s, n, by decide +kernel⟩

theorem witness_ForemanObeysItsSafetyPair_16 : ∃ (s : State) (n : Fin 2) (d : Nat),
    (s.deadline (.brakeRelease n.val) = some d ∨ (s.armed (.brakeRelease n.val) = false ∧ s.deadline (.brakeEngage n.val) = some d)) :=
  let x : State := State.reset
  let n : Fin 2 := ⟨rn 4 % 2, by omega⟩
  let d : Nat := x.now + 12
  let s : State := (fmw x rn).put FM_BTEST_BUSY 3 |> (fun (y : State) => {y with timers := []}) |>.arm (if rn 5 % 2 = 0 then .brakeEngage n.val else .brakeRelease n.val) 12
  ⟨s, n, d, by decide +kernel⟩

theorem witness_ForemanObeysItsSafetyPair_17 : ∃ (s : State) (n : Fin 2) (h : Nat) (d : Nat),
    s.deadline (.brakeHour n.val) = some d :=
  let x : State := State.reset
  let n : Fin 2 := ⟨rn 4 % 2, by omega⟩
  let h : Nat := rn 5 % 30
  let d : Nat := x.now + 66
  let s : State := (fmw x rn).wrw .FM_BTEST 0 |>.arm (.brakeHour n.val) 66
  ⟨s, n, h, d, by decide +kernel⟩

theorem witness_ForemanObeysItsSafetyPair_18 : ∃ (s : State),
    (s.fm.next = none ∨ s.plan.madeAt ≠ some s.now ∨ s.paramMayAct = false) :=
  let x : State := State.reset
  let s : State := {x with fm := {x.fm with next := some (parB rn)}, plan := {x.plan with madeAt := none}}
  ⟨s, by decide +kernel⟩

theorem witness_ForemanObeysItsSafetyPair_19 : ∃ (s : State) (b : List Byte),
    s.fm.next = some b ∧
    s.plan.madeAt = some s.now ∧
    s.paramMayAct = true ∧
    s.routed 971 = true :=
  let x : State := State.reset
  let b : List Byte := parB rn
  let s : State := let y := ((fmw x rn)).wrw .FM_FCMD 0 |>.put FM_BTEST_BUSY 0; {(List.range 8).foldl (fun (s : State) b => s.put BLK_BLKCTL_STATE 0 b) y with fm := {y.fm with next := some (parB rn)}, plan := {y.plan with madeAt := some y.now}} |>.put IC_SRCCFG_TARGET (rn 15 % 17) (971)
  ⟨s, b, by decide +kernel⟩

theorem witness_TamperEventsAct_1 : ∃ (s : State) (level : Bool) (d : Nat),
    s.deadline .mesh = some d ∧
    s.lamp.powered = true ∧
    ((level == s.bank.mesh.getLsbD 0) = true ∨ s.bank.meshFails < 2 ∨ s.lamp.breach = true) :=
  let x : State := State.reset
  let s0 : State := let s0 : State := (let y := {x with supply := {x.supply with place := 0, step := 6, resetAt := 0, vaux := true}, lamp := {x.lamp with powered := true, breach := false}, bank := {x.bank with adit := some ⟨10^12, [3]⟩, zeroise := false}}; {y with bank := {y.bank with meshFails := rn 4 % 2}}).arm .mesh 9; s0
  let level : Bool := (if rn 5 % 2 = 0 then s0.bank.mesh.getLsbD 0 else !s0.bank.mesh.getLsbD 0)
  let d : Nat := x.now + 9
  let s : State := let s0 : State := (let y := {x with supply := {x.supply with place := 0, step := 6, resetAt := 0, vaux := true}, lamp := {x.lamp with powered := true, breach := false}, bank := {x.bank with adit := some ⟨10^12, [3]⟩, zeroise := false}}; {y with bank := {y.bank with meshFails := rn 4 % 2}}).arm .mesh 9; s0
  ⟨s, level, d, by decide +kernel⟩

theorem witness_TamperEventsAct_2 : ∃ (s : State) (level : Bool) (d : Nat),
    s.deadline .mesh = some d ∧
    s.lamp.powered = true ∧
    level ≠ s.bank.mesh.getLsbD 0 ∧
    2 ≤ s.bank.meshFails ∧
    s.lamp.breach = false ∧
    s.supply.place = 0 :=
  let x : State := State.reset
  let s0 : State := (let y := {x with supply := {x.supply with place := 0, step := 6, resetAt := 0, vaux := true}, lamp := {x.lamp with powered := true, breach := false}, bank := {x.bank with adit := some ⟨10^12, [3]⟩, zeroise := false}}; {y with bank := {y.bank with meshFails := 2}}).arm .mesh 9
  let level : Bool := (!s0.bank.mesh.getLsbD 0)
  let d : Nat := x.now + 9
  let s : State := (let y := {x with supply := {x.supply with place := 0, step := 6, resetAt := 0, vaux := true}, lamp := {x.lamp with powered := true, breach := false}, bank := {x.bank with adit := some ⟨10^12, [3]⟩, zeroise := false}}; {y with bank := {y.bank with meshFails := 2}}).arm .mesh 9
  ⟨s, level, d, by decide +kernel⟩

theorem witness_TamperEventsAct_3 : ∃ (s : State) (level : Bool) (d : Nat),
    s.deadline .mesh = some d ∧
    s.lamp.powered = true ∧
    level ≠ s.bank.mesh.getLsbD 0 ∧
    2 ≤ s.bank.meshFails ∧
    s.lamp.breach = false ∧
    s.supply.place = 1 ∧
    s.supply.vaux = false :=
  let x : State := State.reset
  let s0 : State := (let y := (let y := {x with supply := {x.supply with place := 0, step := 6, resetAt := 0, vaux := true}, lamp := {x.lamp with powered := true, breach := false}, bank := {x.bank with adit := some ⟨10^12, [3]⟩, zeroise := false}}; {y with supply := {y.supply with place := 1, vaux := false}}); {y with bank := {y.bank with meshFails := 2}}).arm .mesh 9
  let level : Bool := (!s0.bank.mesh.getLsbD 0)
  let d : Nat := x.now + 9
  let s : State := (let y := (let y := {x with supply := {x.supply with place := 0, step := 6, resetAt := 0, vaux := true}, lamp := {x.lamp with powered := true, breach := false}, bank := {x.bank with adit := some ⟨10^12, [3]⟩, zeroise := false}}; {y with supply := {y.supply with place := 1, vaux := false}}); {y with bank := {y.bank with meshFails := 2}}).arm .mesh 9
  ⟨s, level, d, by decide +kernel⟩

theorem witness_TamperEventsAct_4 : ∃ (s : State) (level : Bool) (d : Nat),
    s.deadline .mesh = some d ∧
    s.lamp.powered = false :=
  let x : State := State.reset
  let level : Bool := rn 92 % 2 == 0
  let d : Nat := x.now + 9
  let s : State := (let y := {x with supply := {x.supply with place := 0, step := 6, resetAt := 0, vaux := true}, lamp := {x.lamp with powered := true, breach := false}, bank := {x.bank with adit := some ⟨10^12, [3]⟩, zeroise := false}}; {y with lamp := {y.lamp with powered := false}}).arm .mesh 9
  ⟨s, level, d, by decide +kernel⟩

theorem witness_TamperEventsAct_5 : ∃ (s : State),
    s.supply.place = 0 ∧
    s.resetting = false :=
  let x : State := State.reset
  let s : State := {x with supply := {x.supply with place := 0, step := 6, resetAt := 0, vaux := true}, lamp := {x.lamp with powered := true, breach := false}, bank := {x.bank with adit := some ⟨10^12, [3]⟩, zeroise := false}}
  ⟨s, by decide +kernel⟩

theorem witness_TamperEventsAct_6 : ∃ (s : State),
    s.supply.place = 0 ∧
    s.resetting = false :=
  let x : State := State.reset
  let s : State := {x with supply := {x.supply with place := 0, step := 6, resetAt := 0, vaux := true}, lamp := {x.lamp with powered := true, breach := false}, bank := {x.bank with adit := some ⟨10^12, [3]⟩, zeroise := false}}
  ⟨s, by decide +kernel⟩

theorem witness_TamperEventsAct_7 : ∃ (s : State),
    s.supply.place = 0 ∧
    s.resetting = false :=
  let x : State := State.reset
  let s : State := {x with supply := {x.supply with place := 0, step := 6, resetAt := 0, vaux := true}, lamp := {x.lamp with powered := true, breach := false}, bank := {x.bank with adit := some ⟨10^12, [3]⟩, zeroise := false}}
  ⟨s, by decide +kernel⟩

theorem witness_TamperEventsAct_8 : ∃ (s : State),
    s.supply.place ≠ 0 :=
  let x : State := State.reset
  let s : State := (let y := {x with supply := {x.supply with place := 0, step := 6, resetAt := 0, vaux := true}, lamp := {x.lamp with powered := true, breach := false}, bank := {x.bank with adit := some ⟨10^12, [3]⟩, zeroise := false}}; {y with supply := {y.supply with place := 1 + rn 3 % 2}})
  ⟨s, by decide +kernel⟩

theorem witness_TamperEventsAct_9 : ∃ (s : State),
    s.supply.place ≠ 0 :=
  let x : State := State.reset
  let s : State := (let y := {x with supply := {x.supply with place := 0, step := 6, resetAt := 0, vaux := true}, lamp := {x.lamp with powered := true, breach := false}, bank := {x.bank with adit := some ⟨10^12, [3]⟩, zeroise := false}}; {y with supply := {y.supply with place := 1 + rn 3 % 2}})
  ⟨s, by decide +kernel⟩

theorem witness_TamperEventsAct_10 : ∃ (s : State),
    s.supply.place = 2 ∧
    s.lamp.powered = true ∧
    s.grantable clsLog = true :=
  let x : State := State.reset
  let s : State := (let y := {x with supply := {x.supply with place := 0, step := 6, resetAt := 0, vaux := true}, lamp := {x.lamp with powered := true, breach := false}, bank := {x.bank with adit := some ⟨10^12, [3]⟩, zeroise := false}}; {y with supply := {y.supply with place := 2}}).put LA_GAUGE_E 60000 |>.put LA_GFLOOR_KEEP 0 |>.put LA_GHELD_HELD 0
  ⟨s, by decide +kernel⟩

theorem witness_TamperEventsAct_11 : ∃ (s : State),
    s.supply.place = 2 ∧
    s.lamp.powered = false :=
  let x : State := State.reset
  let s : State := let y := (let y := {x with supply := {x.supply with place := 0, step := 6, resetAt := 0, vaux := true}, lamp := {x.lamp with powered := true, breach := false}, bank := {x.bank with adit := some ⟨10^12, [3]⟩, zeroise := false}}; {y with supply := {y.supply with place := 2}}); {y with lamp := {y.lamp with powered := false}}
  ⟨s, by decide +kernel⟩

theorem witness_TamperEventsAct_12 : ∃ (s : State),
    s.bank.zeroise = true ∧
    (s.supply.step = 4 ∨ s.resetting = false) :=
  let x : State := State.reset
  let s : State := let y := {x with supply := {x.supply with place := 0, step := 6, resetAt := 0, vaux := true}, lamp := {x.lamp with powered := true, breach := false}, bank := {x.bank with adit := some ⟨10^12, [3]⟩, zeroise := false}}; {y with bank := {y.bank with zeroise := true}, supply := {y.supply with step := if rn 3 % 2 = 0 then 6 else 4}}
  ⟨s, by decide +kernel⟩

theorem witness_TamperEventsAct_13 : ∃ (s : State),
    s.bank.zeroise = false :=
  let x : State := State.reset
  let s : State := {x with supply := {x.supply with place := 0, step := 6, resetAt := 0, vaux := true}, lamp := {x.lamp with powered := true, breach := false}, bank := {x.bank with adit := some ⟨10^12, [3]⟩, zeroise := false}}
  ⟨s, by decide +kernel⟩

theorem witness_TamperEventsAct_14 : ∃ (s : State),
    s.resetting = false :=
  let x : State := State.reset
  let s : State := {x with supply := {x.supply with place := 0, step := 6, resetAt := 0, vaux := true}, lamp := {x.lamp with powered := true, breach := false}, bank := {x.bank with adit := some ⟨10^12, [3]⟩, zeroise := false}}
  ⟨s, by decide +kernel⟩

theorem witness_LifeCycleAdvances_1 : ∃ (s : State),
    (s.bank.fuse = none ∨ s.bank.returnEntry = true) :=
  let x : State := State.reset
  let s : State := let y := {x with supply := {x.supply with place := 0, step := 6, resetAt := 0, vaux := true}, lamp := {x.lamp with powered := true, breach := false}, bank := {x.bank with adit := some ⟨10^12, [3]⟩, zeroise := false}}; {y with bank := {y.bank with lc := 3, returnEntry := true, fuse := if rn 3 % 2 = 0 then none else some 4}}
  ⟨s, by decide +kernel⟩

theorem witness_LifeCycleAdvances_2 : ∃ (s : State) (k : Nat),
    s.bank.fuse = some k ∧
    s.bank.returnEntry = false ∧
    k ≠ lcReturn :=
  let x : State := State.reset
  let k : Nat := [2, 3, 5].getD (rn 5 % 3) 2
  let s : State := let y := {x with supply := {x.supply with place := 0, step := 6, resetAt := 0, vaux := true}, lamp := {x.lamp with powered := true, breach := false}, bank := {x.bank with adit := some ⟨10^12, [3]⟩, zeroise := false}}; {y with bank := {y.bank with lc := [3, 1, 2, 4].getD (rn 4 % 4) 0, fuses := ⟨#[true, rn 6 % 2 == 0, rn 7 % 2 == 0, rn 8 % 4 == 0, false], rfl⟩, fuse := some ([2, 3, 5].getD (rn 5 % 3) 2)}}
  ⟨s, k, by decide +kernel⟩

theorem witness_LifeCycleAdvances_3 : ∃ (s : State),
    s.bank.fuse = some lcReturn ∧
    s.bank.returnEntry = false :=
  let x : State := State.reset
  let s : State := let y := {x with supply := {x.supply with place := 0, step := 6, resetAt := 0, vaux := true}, lamp := {x.lamp with powered := true, breach := false}, bank := {x.bank with adit := some ⟨10^12, [3]⟩, zeroise := false}}; {y with bank := {y.bank with lc := 3, fuses := ⟨#[true, true, rn 7 % 2 == 0, false, false], rfl⟩, fuse := some 4}}
  ⟨s, by decide +kernel⟩

theorem witness_LifeCycleAdvances_4 : ∃ (s : State),
    s.bank.returnEntry = true :=
  let x : State := State.reset
  let s : State := let y := {x with supply := {x.supply with place := 0, step := 6, resetAt := 0, vaux := true}, lamp := {x.lamp with powered := true, breach := false}, bank := {x.bank with adit := some ⟨10^12, [3]⟩, zeroise := false}}; {y with bank := {y.bank with lc := 4, returnEntry := true, groups := [[1]], revoked := [4], fuse := if rn 6 % 2 = 0 then some 5 else none}}
  ⟨s, by decide +kernel⟩

theorem witness_LifeCycleAdvances_5 : ∃ (s : State),
    s.bank.returnEntry = false :=
  let x : State := State.reset
  let s : State := {x with supply := {x.supply with place := 0, step := 6, resetAt := 0, vaux := true}, lamp := {x.lamp with powered := true, breach := false}, bank := {x.bank with adit := some ⟨10^12, [3]⟩, zeroise := false}}
  ⟨s, by decide +kernel⟩

theorem witness_LifeCycleAdvances_6 : ∃ (s : State),
    s.lc = lcBlank ∧
    s.bank.fuses = Vector.replicate 5 false :=
  let x : State := State.reset
  let s : State := let y := {x with supply := {x.supply with place := 0, step := 6, resetAt := 0, vaux := true}, lamp := {x.lamp with powered := true, breach := false}, bank := {x.bank with adit := some ⟨10^12, [3]⟩, zeroise := false}}; {y with bank := {y.bank with lc := 0, fuses := Vector.replicate 5 false}}
  ⟨s, by decide +kernel⟩

theorem witness_LifeCycleAdvances_7 : ∃ (s : State),
    s.lc ≠ lcBlank :=
  let x : State := State.reset
  let s : State := let y := {x with supply := {x.supply with place := 0, step := 6, resetAt := 0, vaux := true}, lamp := {x.lamp with powered := true, breach := false}, bank := {x.bank with adit := some ⟨10^12, [3]⟩, zeroise := false}}; {y with bank := {y.bank with lc := 1}}
  ⟨s, by decide +kernel⟩

theorem witness_LifeCycleAdvances_8 : ∃ (s : State),
    s.supply.step = 4 ∧
    s.supply.bootFail = false ∧
    s.readFuses.idShow.bootPending.1 = false :=
  let x : State := State.reset
  let s : State := {x with supply := {x.supply with step := 4, bootFail := false}, bank := {x.bank with zeroise := false, zeroWait := false, returnEntry := false, zeroising := false, tampered := rn 3 % 2 == 0, lc := 3}, lamp := {x.lamp with breach := false, lost := rn 4 % 2 == 0}}
  ⟨s, by decide +kernel⟩

theorem witness_LifeCycleAdvances_9 : ∃ (s : State),
    (s.supply.step ≠ 4 ∨ s.supply.bootFail = true) :=
  let x : State := State.reset
  let s : State := {x with supply := {x.supply with place := 0, step := 6, resetAt := 0, vaux := true}, lamp := {x.lamp with powered := true, breach := false}, bank := {x.bank with adit := some ⟨10^12, [3]⟩, zeroise := false}}
  ⟨s, by decide +kernel⟩

theorem witness_MailboxAndLocalOperationsWork_1 : ∃ (s : State) (b : Mbox) (o : LocalOp) (k : KeySlot),
    s.localOp b.val = some o ∧
    o.op = 1 ∧
    s.localKey o.slot 0 = some k ∧
    o.lenOk = true ∧
    (o.data.length = 32 ∨ o.data.length = 48) :=
  let x : State := State.reset
  let b : Mbox := ⟨rn 4 % 8, by omega⟩
  let s0 : State := {(((x).put EX_MBSTAT_BUSY 1 b.val).put EX_MBCTL_KIND 1 b.val |>.put EX_MBLEN_INLEN (8 + 32) b.val |>.wrw .EX_MBDATA (BitVec.ofNat 32 (1 + (30) * 65536)) b.val 0 |>.wrw .EX_MBDATA (BitVec.ofNat 32 (32)) b.val 1) with bank := {x.bank with slots := Vector.replicate 64 (some ⟨[1], 2, 31⟩)}}
  let o : LocalOp := (s0.localOp b.val).getD ⟨0,0,0,[]⟩
  let k : KeySlot := ⟨[1], 2, 31⟩
  let s : State := {(((x).put EX_MBSTAT_BUSY 1 b.val).put EX_MBCTL_KIND 1 b.val |>.put EX_MBLEN_INLEN (8 + 32) b.val |>.wrw .EX_MBDATA (BitVec.ofNat 32 (1 + (30) * 65536)) b.val 0 |>.wrw .EX_MBDATA (BitVec.ofNat 32 (32)) b.val 1) with bank := {x.bank with slots := Vector.replicate 64 (some ⟨[1], 2, 31⟩)}}
  ⟨s, b, o, k, by decide +kernel⟩

theorem witness_MailboxAndLocalOperationsWork_2 : ∃ (s : State) (b : Mbox) (o : LocalOp) (k : KeySlot),
    s.localOp b.val = some o ∧
    o.op = 1 ∧
    s.localKey o.slot 0 = some k ∧
    (o.lenOk = false ∨ (o.data.length ≠ 32 ∧ o.data.length ≠ 48)) :=
  let x : State := State.reset
  let b : Mbox := ⟨rn 4 % 8, by omega⟩
  let s0 : State := {(((x).put EX_MBSTAT_BUSY 1 b.val).put EX_MBCTL_KIND 1 b.val |>.put EX_MBLEN_INLEN (8 + 9) b.val |>.wrw .EX_MBDATA (BitVec.ofNat 32 (1 + (30) * 65536)) b.val 0 |>.wrw .EX_MBDATA (BitVec.ofNat 32 (9)) b.val 1) with bank := {x.bank with slots := Vector.replicate 64 (some ⟨[1], 2, 31⟩)}}
  let o : LocalOp := (s0.localOp b.val).getD ⟨0,0,0,[]⟩
  let k : KeySlot := ⟨[1], 2, 31⟩
  let s : State := {(((x).put EX_MBSTAT_BUSY 1 b.val).put EX_MBCTL_KIND 1 b.val |>.put EX_MBLEN_INLEN (8 + 9) b.val |>.wrw .EX_MBDATA (BitVec.ofNat 32 (1 + (30) * 65536)) b.val 0 |>.wrw .EX_MBDATA (BitVec.ofNat 32 (9)) b.val 1) with bank := {x.bank with slots := Vector.replicate 64 (some ⟨[1], 2, 31⟩)}}
  ⟨s, b, o, k, by decide +kernel⟩

theorem witness_MailboxAndLocalOperationsWork_3 : ∃ (s : State) (b : Mbox) (o : LocalOp),
    s.localOp b.val = some o ∧
    o.op = 1 ∧
    s.localKey o.slot 0 = none :=
  let x : State := State.reset
  let b : Mbox := ⟨rn 4 % 8, by omega⟩
  let s0 : State := {(((x).put EX_MBSTAT_BUSY 1 b.val).put EX_MBCTL_KIND 1 b.val |>.put EX_MBLEN_INLEN (8 + 32) b.val |>.wrw .EX_MBDATA (BitVec.ofNat 32 (1 + (30) * 65536)) b.val 0 |>.wrw .EX_MBDATA (BitVec.ofNat 32 (32)) b.val 1) with bank := {x.bank with slots := Vector.replicate 64 (some ⟨[1], 2, 30⟩)}}
  let o : LocalOp := (s0.localOp b.val).getD ⟨0,0,0,[]⟩
  let s : State := {(((x).put EX_MBSTAT_BUSY 1 b.val).put EX_MBCTL_KIND 1 b.val |>.put EX_MBLEN_INLEN (8 + 32) b.val |>.wrw .EX_MBDATA (BitVec.ofNat 32 (1 + (30) * 65536)) b.val 0 |>.wrw .EX_MBDATA (BitVec.ofNat 32 (32)) b.val 1) with bank := {x.bank with slots := Vector.replicate 64 (some ⟨[1], 2, 30⟩)}}
  ⟨s, b, o, by decide +kernel⟩

theorem witness_MailboxAndLocalOperationsWork_4 : ∃ (s : State) (b : Mbox),
    (∀ o ∈ s.localOp b.val, o.op ≠ 1) :=
  let x : State := State.reset
  let b : Mbox := ⟨rn 4 % 8, by omega⟩
  let s : State := {(((x).put EX_MBSTAT_BUSY 1 b.val).put EX_MBCTL_KIND 1 b.val |>.put EX_MBLEN_INLEN (8 + 9) b.val |>.wrw .EX_MBDATA (BitVec.ofNat 32 (2 + (30) * 65536)) b.val 0 |>.wrw .EX_MBDATA (BitVec.ofNat 32 (9)) b.val 1) with bank := {x.bank with slots := Vector.replicate 64 (some ⟨[1], 2, 31⟩)}}
  ⟨s, b, by decide +kernel⟩

theorem witness_MailboxAndLocalOperationsWork_5 : ∃ (s : State) (b : Mbox) (o : LocalOp) (k : KeySlot),
    s.localOp b.val = some o ∧
    o.op = 2 ∧
    s.localKey o.slot 1 = some k ∧
    o.lenOk = true :=
  let x : State := State.reset
  let b : Mbox := ⟨rn 4 % 8, by omega⟩
  let s0 : State := {(((x).put EX_MBSTAT_BUSY 1 b.val).put EX_MBCTL_KIND 1 b.val |>.put EX_MBLEN_INLEN (8 + 32) b.val |>.wrw .EX_MBDATA (BitVec.ofNat 32 (2 + (30) * 65536)) b.val 0 |>.wrw .EX_MBDATA (BitVec.ofNat 32 (32)) b.val 1) with bank := {x.bank with slots := Vector.replicate 64 (some ⟨[1], 2, 31⟩)}}
  let o : LocalOp := (s0.localOp b.val).getD ⟨0,0,0,[]⟩
  let k : KeySlot := ⟨[1], 2, 31⟩
  let s : State := {(((x).put EX_MBSTAT_BUSY 1 b.val).put EX_MBCTL_KIND 1 b.val |>.put EX_MBLEN_INLEN (8 + 32) b.val |>.wrw .EX_MBDATA (BitVec.ofNat 32 (2 + (30) * 65536)) b.val 0 |>.wrw .EX_MBDATA (BitVec.ofNat 32 (32)) b.val 1) with bank := {x.bank with slots := Vector.replicate 64 (some ⟨[1], 2, 31⟩)}}
  ⟨s, b, o, k, by decide +kernel⟩

theorem witness_MailboxAndLocalOperationsWork_6 : ∃ (s : State) (b : Mbox) (o : LocalOp) (k : KeySlot),
    s.localOp b.val = some o ∧
    o.op = 2 ∧
    s.localKey o.slot 1 = some k ∧
    o.lenOk = false :=
  let x : State := State.reset
  let b : Mbox := ⟨rn 4 % 8, by omega⟩
  let s0 : State := {(((x).put EX_MBSTAT_BUSY 1 b.val).put EX_MBCTL_KIND 1 b.val |>.put EX_MBLEN_INLEN (8 + 8) b.val |>.wrw .EX_MBDATA (BitVec.ofNat 32 (2 + (30) * 65536)) b.val 0 |>.wrw .EX_MBDATA (BitVec.ofNat 32 (9)) b.val 1) with bank := {x.bank with slots := Vector.replicate 64 (some ⟨[1], 2, 31⟩)}}
  let o : LocalOp := (s0.localOp b.val).getD ⟨0,0,0,[]⟩
  let k : KeySlot := ⟨[1], 2, 31⟩
  let s : State := {(((x).put EX_MBSTAT_BUSY 1 b.val).put EX_MBCTL_KIND 1 b.val |>.put EX_MBLEN_INLEN (8 + 8) b.val |>.wrw .EX_MBDATA (BitVec.ofNat 32 (2 + (30) * 65536)) b.val 0 |>.wrw .EX_MBDATA (BitVec.ofNat 32 (9)) b.val 1) with bank := {x.bank with slots := Vector.replicate 64 (some ⟨[1], 2, 31⟩)}}
  ⟨s, b, o, k, by decide +kernel⟩

theorem witness_MailboxAndLocalOperationsWork_7 : ∃ (s : State) (b : Mbox) (o : LocalOp),
    s.localOp b.val = some o ∧
    o.op = 2 ∧
    s.localKey o.slot 1 = none :=
  let x : State := State.reset
  let b : Mbox := ⟨rn 4 % 8, by omega⟩
  let s0 : State := {(((x).put EX_MBSTAT_BUSY 1 b.val).put EX_MBCTL_KIND 1 b.val |>.put EX_MBLEN_INLEN (8 + 32) b.val |>.wrw .EX_MBDATA (BitVec.ofNat 32 (2 + (30) * 65536)) b.val 0 |>.wrw .EX_MBDATA (BitVec.ofNat 32 (32)) b.val 1) with bank := {x.bank with slots := Vector.replicate 64 (some ⟨[1], 2, 29⟩)}}
  let o : LocalOp := (s0.localOp b.val).getD ⟨0,0,0,[]⟩
  let s : State := {(((x).put EX_MBSTAT_BUSY 1 b.val).put EX_MBCTL_KIND 1 b.val |>.put EX_MBLEN_INLEN (8 + 32) b.val |>.wrw .EX_MBDATA (BitVec.ofNat 32 (2 + (30) * 65536)) b.val 0 |>.wrw .EX_MBDATA (BitVec.ofNat 32 (32)) b.val 1) with bank := {x.bank with slots := Vector.replicate 64 (some ⟨[1], 2, 29⟩)}}
  ⟨s, b, o, by decide +kernel⟩

theorem witness_MailboxAndLocalOperationsWork_8 : ∃ (s : State) (b : Mbox),
    (∀ o ∈ s.localOp b.val, o.op ≠ 2) :=
  let x : State := State.reset
  let b : Mbox := ⟨rn 4 % 8, by omega⟩
  let s : State := {(((x).put EX_MBSTAT_BUSY 1 b.val).put EX_MBCTL_KIND 1 b.val |>.put EX_MBLEN_INLEN (8 + 9) b.val |>.wrw .EX_MBDATA (BitVec.ofNat 32 (3 + (30) * 65536)) b.val 0 |>.wrw .EX_MBDATA (BitVec.ofNat 32 (9)) b.val 1) with bank := {x.bank with slots := Vector.replicate 64 (some ⟨[1], 2, 31⟩)}}
  ⟨s, b, by decide +kernel⟩

theorem witness_MailboxAndLocalOperationsWork_9 : ∃ (s : State) (b : Mbox) (o : LocalOp) (k : KeySlot),
    s.localOp b.val = some o ∧
    o.op = 3 ∧
    s.localKey o.slot 2 = some k ∧
    o.lenOk = true ∧
    12 ≤ o.data.length :=
  let x : State := State.reset
  let b : Mbox := ⟨rn 4 % 8, by omega⟩
  let s0 : State := {(((x).put EX_MBSTAT_BUSY 1 b.val).put EX_MBCTL_KIND 1 b.val |>.put EX_MBLEN_INLEN (8 + 20) b.val |>.wrw .EX_MBDATA (BitVec.ofNat 32 (3 + (30) * 65536)) b.val 0 |>.wrw .EX_MBDATA (BitVec.ofNat 32 (20)) b.val 1) with bank := {x.bank with slots := Vector.replicate 64 (some ⟨[1], 2, 31⟩)}}
  let o : LocalOp := (s0.localOp b.val).getD ⟨0,0,0,[]⟩
  let k : KeySlot := ⟨[1], 2, 31⟩
  let s : State := {(((x).put EX_MBSTAT_BUSY 1 b.val).put EX_MBCTL_KIND 1 b.val |>.put EX_MBLEN_INLEN (8 + 20) b.val |>.wrw .EX_MBDATA (BitVec.ofNat 32 (3 + (30) * 65536)) b.val 0 |>.wrw .EX_MBDATA (BitVec.ofNat 32 (20)) b.val 1) with bank := {x.bank with slots := Vector.replicate 64 (some ⟨[1], 2, 31⟩)}}
  ⟨s, b, o, k, by decide +kernel⟩

theorem witness_MailboxAndLocalOperationsWork_10 : ∃ (s : State) (b : Mbox) (o : LocalOp) (k : KeySlot),
    s.localOp b.val = some o ∧
    o.op = 3 ∧
    s.localKey o.slot 2 = some k ∧
    (o.lenOk = false ∨ (o.data.length < 12)) :=
  let x : State := State.reset
  let b : Mbox := ⟨rn 4 % 8, by omega⟩
  let s0 : State := {(((x).put EX_MBSTAT_BUSY 1 b.val).put EX_MBCTL_KIND 1 b.val |>.put EX_MBLEN_INLEN (8 + 9) b.val |>.wrw .EX_MBDATA (BitVec.ofNat 32 (3 + (30) * 65536)) b.val 0 |>.wrw .EX_MBDATA (BitVec.ofNat 32 (9)) b.val 1) with bank := {x.bank with slots := Vector.replicate 64 (some ⟨[1], 2, 31⟩)}}
  let o : LocalOp := (s0.localOp b.val).getD ⟨0,0,0,[]⟩
  let k : KeySlot := ⟨[1], 2, 31⟩
  let s : State := {(((x).put EX_MBSTAT_BUSY 1 b.val).put EX_MBCTL_KIND 1 b.val |>.put EX_MBLEN_INLEN (8 + 9) b.val |>.wrw .EX_MBDATA (BitVec.ofNat 32 (3 + (30) * 65536)) b.val 0 |>.wrw .EX_MBDATA (BitVec.ofNat 32 (9)) b.val 1) with bank := {x.bank with slots := Vector.replicate 64 (some ⟨[1], 2, 31⟩)}}
  ⟨s, b, o, k, by decide +kernel⟩

theorem witness_MailboxAndLocalOperationsWork_11 : ∃ (s : State) (b : Mbox) (o : LocalOp),
    s.localOp b.val = some o ∧
    o.op = 3 ∧
    s.localKey o.slot 2 = none :=
  let x : State := State.reset
  let b : Mbox := ⟨rn 4 % 8, by omega⟩
  let s0 : State := {(((x).put EX_MBSTAT_BUSY 1 b.val).put EX_MBCTL_KIND 1 b.val |>.put EX_MBLEN_INLEN (8 + 20) b.val |>.wrw .EX_MBDATA (BitVec.ofNat 32 (3 + (30) * 65536)) b.val 0 |>.wrw .EX_MBDATA (BitVec.ofNat 32 (20)) b.val 1) with bank := {x.bank with slots := Vector.replicate 64 (some ⟨[1], 2, 27⟩)}}
  let o : LocalOp := (s0.localOp b.val).getD ⟨0,0,0,[]⟩
  let s : State := {(((x).put EX_MBSTAT_BUSY 1 b.val).put EX_MBCTL_KIND 1 b.val |>.put EX_MBLEN_INLEN (8 + 20) b.val |>.wrw .EX_MBDATA (BitVec.ofNat 32 (3 + (30) * 65536)) b.val 0 |>.wrw .EX_MBDATA (BitVec.ofNat 32 (20)) b.val 1) with bank := {x.bank with slots := Vector.replicate 64 (some ⟨[1], 2, 27⟩)}}
  ⟨s, b, o, by decide +kernel⟩

theorem witness_MailboxAndLocalOperationsWork_12 : ∃ (s : State) (b : Mbox),
    (∀ o ∈ s.localOp b.val, o.op ≠ 3) :=
  let x : State := State.reset
  let b : Mbox := ⟨rn 4 % 8, by omega⟩
  let s : State := {(((x).put EX_MBSTAT_BUSY 1 b.val).put EX_MBCTL_KIND 1 b.val |>.put EX_MBLEN_INLEN (8 + 9) b.val |>.wrw .EX_MBDATA (BitVec.ofNat 32 (4 + (30) * 65536)) b.val 0 |>.wrw .EX_MBDATA (BitVec.ofNat 32 (9)) b.val 1) with bank := {x.bank with slots := Vector.replicate 64 (some ⟨[1], 2, 31⟩)}}
  ⟨s, b, by decide +kernel⟩

theorem witness_MailboxAndLocalOperationsWork_13 : ∃ (s : State) (b : Mbox) (o : LocalOp) (k : KeySlot),
    s.localOp b.val = some o ∧
    o.op = 4 ∧
    s.localKey o.slot 3 = some k ∧
    o.lenOk = true ∧
    28 ≤ o.data.length :=
  let x : State := State.reset
  let b : Mbox := ⟨rn 4 % 8, by omega⟩
  let s0 : State := {(((x).put EX_MBSTAT_BUSY 1 b.val).put EX_MBCTL_KIND 1 b.val |>.put EX_MBLEN_INLEN (8 + 30) b.val |>.wrw .EX_MBDATA (BitVec.ofNat 32 (4 + (30) * 65536)) b.val 0 |>.wrw .EX_MBDATA (BitVec.ofNat 32 (30)) b.val 1) with bank := {x.bank with slots := Vector.replicate 64 (some ⟨[1], 2, 31⟩)}}
  let o : LocalOp := (s0.localOp b.val).getD ⟨0,0,0,[]⟩
  let k : KeySlot := ⟨[1], 2, 31⟩
  let s : State := {(((x).put EX_MBSTAT_BUSY 1 b.val).put EX_MBCTL_KIND 1 b.val |>.put EX_MBLEN_INLEN (8 + 30) b.val |>.wrw .EX_MBDATA (BitVec.ofNat 32 (4 + (30) * 65536)) b.val 0 |>.wrw .EX_MBDATA (BitVec.ofNat 32 (30)) b.val 1) with bank := {x.bank with slots := Vector.replicate 64 (some ⟨[1], 2, 31⟩)}}
  ⟨s, b, o, k, by decide +kernel⟩

theorem witness_MailboxAndLocalOperationsWork_14 : ∃ (s : State) (b : Mbox) (o : LocalOp) (k : KeySlot),
    s.localOp b.val = some o ∧
    o.op = 4 ∧
    s.localKey o.slot 3 = some k ∧
    (o.lenOk = false ∨ (o.data.length < 28)) :=
  let x : State := State.reset
  let b : Mbox := ⟨rn 4 % 8, by omega⟩
  let s0 : State := {(((x).put EX_MBSTAT_BUSY 1 b.val).put EX_MBCTL_KIND 1 b.val |>.put EX_MBLEN_INLEN (8 + 9) b.val |>.wrw .EX_MBDATA (BitVec.ofNat 32 (4 + (30) * 65536)) b.val 0 |>.wrw .EX_MBDATA (BitVec.ofNat 32 (9)) b.val 1) with bank := {x.bank with slots := Vector.replicate 64 (some ⟨[1], 2, 31⟩)}}
  let o : LocalOp := (s0.localOp b.val).getD ⟨0,0,0,[]⟩
  let k : KeySlot := ⟨[1], 2, 31⟩
  let s : State := {(((x).put EX_MBSTAT_BUSY 1 b.val).put EX_MBCTL_KIND 1 b.val |>.put EX_MBLEN_INLEN (8 + 9) b.val |>.wrw .EX_MBDATA (BitVec.ofNat 32 (4 + (30) * 65536)) b.val 0 |>.wrw .EX_MBDATA (BitVec.ofNat 32 (9)) b.val 1) with bank := {x.bank with slots := Vector.replicate 64 (some ⟨[1], 2, 31⟩)}}
  ⟨s, b, o, k, by decide +kernel⟩

theorem witness_MailboxAndLocalOperationsWork_15 : ∃ (s : State) (b : Mbox) (o : LocalOp),
    s.localOp b.val = some o ∧
    o.op = 4 ∧
    s.localKey o.slot 3 = none :=
  let x : State := State.reset
  let b : Mbox := ⟨rn 4 % 8, by omega⟩
  let s0 : State := {(((x).put EX_MBSTAT_BUSY 1 b.val).put EX_MBCTL_KIND 1 b.val |>.put EX_MBLEN_INLEN (8 + 30) b.val |>.wrw .EX_MBDATA (BitVec.ofNat 32 (4 + (30) * 65536)) b.val 0 |>.wrw .EX_MBDATA (BitVec.ofNat 32 (30)) b.val 1) with bank := {x.bank with slots := Vector.replicate 64 (some ⟨[1], 2, 23⟩)}}
  let o : LocalOp := (s0.localOp b.val).getD ⟨0,0,0,[]⟩
  let s : State := {(((x).put EX_MBSTAT_BUSY 1 b.val).put EX_MBCTL_KIND 1 b.val |>.put EX_MBLEN_INLEN (8 + 30) b.val |>.wrw .EX_MBDATA (BitVec.ofNat 32 (4 + (30) * 65536)) b.val 0 |>.wrw .EX_MBDATA (BitVec.ofNat 32 (30)) b.val 1) with bank := {x.bank with slots := Vector.replicate 64 (some ⟨[1], 2, 23⟩)}}
  ⟨s, b, o, by decide +kernel⟩

theorem witness_MailboxAndLocalOperationsWork_16 : ∃ (s : State) (b : Mbox),
    (∀ o ∈ s.localOp b.val, o.op ≠ 4) :=
  let x : State := State.reset
  let b : Mbox := ⟨rn 4 % 8, by omega⟩
  let s : State := {(((x).put EX_MBSTAT_BUSY 1 b.val).put EX_MBCTL_KIND 1 b.val |>.put EX_MBLEN_INLEN (8 + 9) b.val |>.wrw .EX_MBDATA (BitVec.ofNat 32 (5 + (30) * 65536)) b.val 0 |>.wrw .EX_MBDATA (BitVec.ofNat 32 (9)) b.val 1) with bank := {x.bank with slots := Vector.replicate 64 (some ⟨[1], 2, 31⟩)}}
  ⟨s, b, by decide +kernel⟩

theorem witness_MailboxAndLocalOperationsWork_17 : ∃ (s : State) (b : Mbox) (o : LocalOp) (k : KeySlot),
    s.localOp b.val = some o ∧
    o.op = 5 ∧
    s.localKey o.slot 4 = some k ∧
    o.lenOk = true :=
  let x : State := State.reset
  let b : Mbox := ⟨rn 4 % 8, by omega⟩
  let s0 : State := {(((x).put EX_MBSTAT_BUSY 1 b.val).put EX_MBCTL_KIND 1 b.val |>.put EX_MBLEN_INLEN (8 + 20) b.val |>.wrw .EX_MBDATA (BitVec.ofNat 32 (5 + (30) * 65536)) b.val 0 |>.wrw .EX_MBDATA (BitVec.ofNat 32 (20)) b.val 1) with bank := {x.bank with slots := Vector.replicate 64 (some ⟨[1], 2, 31⟩)}}
  let o : LocalOp := (s0.localOp b.val).getD ⟨0,0,0,[]⟩
  let k : KeySlot := ⟨[1], 2, 31⟩
  let s : State := {(((x).put EX_MBSTAT_BUSY 1 b.val).put EX_MBCTL_KIND 1 b.val |>.put EX_MBLEN_INLEN (8 + 20) b.val |>.wrw .EX_MBDATA (BitVec.ofNat 32 (5 + (30) * 65536)) b.val 0 |>.wrw .EX_MBDATA (BitVec.ofNat 32 (20)) b.val 1) with bank := {x.bank with slots := Vector.replicate 64 (some ⟨[1], 2, 31⟩)}}
  ⟨s, b, o, k, by decide +kernel⟩

theorem witness_MailboxAndLocalOperationsWork_18 : ∃ (s : State) (b : Mbox) (o : LocalOp) (k : KeySlot),
    s.localOp b.val = some o ∧
    o.op = 5 ∧
    s.localKey o.slot 4 = some k ∧
    o.lenOk = false :=
  let x : State := State.reset
  let b : Mbox := ⟨rn 4 % 8, by omega⟩
  let s0 : State := {(((x).put EX_MBSTAT_BUSY 1 b.val).put EX_MBCTL_KIND 1 b.val |>.put EX_MBLEN_INLEN (8 + 8) b.val |>.wrw .EX_MBDATA (BitVec.ofNat 32 (5 + (30) * 65536)) b.val 0 |>.wrw .EX_MBDATA (BitVec.ofNat 32 (9)) b.val 1) with bank := {x.bank with slots := Vector.replicate 64 (some ⟨[1], 2, 31⟩)}}
  let o : LocalOp := (s0.localOp b.val).getD ⟨0,0,0,[]⟩
  let k : KeySlot := ⟨[1], 2, 31⟩
  let s : State := {(((x).put EX_MBSTAT_BUSY 1 b.val).put EX_MBCTL_KIND 1 b.val |>.put EX_MBLEN_INLEN (8 + 8) b.val |>.wrw .EX_MBDATA (BitVec.ofNat 32 (5 + (30) * 65536)) b.val 0 |>.wrw .EX_MBDATA (BitVec.ofNat 32 (9)) b.val 1) with bank := {x.bank with slots := Vector.replicate 64 (some ⟨[1], 2, 31⟩)}}
  ⟨s, b, o, k, by decide +kernel⟩

theorem witness_MailboxAndLocalOperationsWork_19 : ∃ (s : State) (b : Mbox) (o : LocalOp),
    s.localOp b.val = some o ∧
    o.op = 5 ∧
    s.localKey o.slot 4 = none :=
  let x : State := State.reset
  let b : Mbox := ⟨rn 4 % 8, by omega⟩
  let s0 : State := {(((x).put EX_MBSTAT_BUSY 1 b.val).put EX_MBCTL_KIND 1 b.val |>.put EX_MBLEN_INLEN (8 + 20) b.val |>.wrw .EX_MBDATA (BitVec.ofNat 32 (5 + (30) * 65536)) b.val 0 |>.wrw .EX_MBDATA (BitVec.ofNat 32 (20)) b.val 1) with bank := {x.bank with slots := Vector.replicate 64 (some ⟨[1], 2, 15⟩)}}
  let o : LocalOp := (s0.localOp b.val).getD ⟨0,0,0,[]⟩
  let s : State := {(((x).put EX_MBSTAT_BUSY 1 b.val).put EX_MBCTL_KIND 1 b.val |>.put EX_MBLEN_INLEN (8 + 20) b.val |>.wrw .EX_MBDATA (BitVec.ofNat 32 (5 + (30) * 65536)) b.val 0 |>.wrw .EX_MBDATA (BitVec.ofNat 32 (20)) b.val 1) with bank := {x.bank with slots := Vector.replicate 64 (some ⟨[1], 2, 15⟩)}}
  ⟨s, b, o, by decide +kernel⟩

theorem witness_MailboxAndLocalOperationsWork_20 : ∃ (s : State) (b : Mbox),
    (∀ o ∈ s.localOp b.val, o.op ≠ 5) :=
  let x : State := State.reset
  let b : Mbox := ⟨rn 4 % 8, by omega⟩
  let s : State := {(((x).put EX_MBSTAT_BUSY 1 b.val).put EX_MBCTL_KIND 1 b.val |>.put EX_MBLEN_INLEN (8 + 9) b.val |>.wrw .EX_MBDATA (BitVec.ofNat 32 (6 + (30) * 65536)) b.val 0 |>.wrw .EX_MBDATA (BitVec.ofNat 32 (9)) b.val 1) with bank := {x.bank with slots := Vector.replicate 64 (some ⟨[1], 2, 31⟩)}}
  ⟨s, b, by decide +kernel⟩

theorem witness_MailboxAndLocalOperationsWork_21 : ∃ (s : State) (b : Mbox) (o : LocalOp),
    s.localOp b.val = some o ∧
    o.op = 6 ∧
    o.lenOk = true :=
  let x : State := State.reset
  let b : Mbox := ⟨rn 4 % 8, by omega⟩
  let s0 : State := (((x).put EX_MBSTAT_BUSY 1 b.val).put EX_MBCTL_KIND 1 b.val |>.put EX_MBLEN_INLEN (8 + 0) b.val |>.wrw .EX_MBDATA (BitVec.ofNat 32 (6 + (30) * 65536)) b.val 0 |>.wrw .EX_MBDATA (BitVec.ofNat 32 (rn 9 % 60)) b.val 1)
  let o : LocalOp := (s0.localOp b.val).getD ⟨0,0,0,[]⟩
  let s : State := (((x).put EX_MBSTAT_BUSY 1 b.val).put EX_MBCTL_KIND 1 b.val |>.put EX_MBLEN_INLEN (8 + 0) b.val |>.wrw .EX_MBDATA (BitVec.ofNat 32 (6 + (30) * 65536)) b.val 0 |>.wrw .EX_MBDATA (BitVec.ofNat 32 (rn 9 % 60)) b.val 1)
  ⟨s, b, o, by decide +kernel⟩

theorem witness_MailboxAndLocalOperationsWork_22 : ∃ (s : State) (b : Mbox) (o : LocalOp),
    s.localOp b.val = some o ∧
    o.op = 6 ∧
    o.lenOk = false :=
  let x : State := State.reset
  let b : Mbox := ⟨rn 4 % 8, by omega⟩
  let s0 : State := (((x).put EX_MBSTAT_BUSY 1 b.val).put EX_MBCTL_KIND 1 b.val |>.put EX_MBLEN_INLEN (8 + 4) b.val |>.wrw .EX_MBDATA (BitVec.ofNat 32 (6 + (30) * 65536)) b.val 0 |>.wrw .EX_MBDATA (BitVec.ofNat 32 (rn 9 % 60)) b.val 1)
  let o : LocalOp := (s0.localOp b.val).getD ⟨0,0,0,[]⟩
  let s : State := (((x).put EX_MBSTAT_BUSY 1 b.val).put EX_MBCTL_KIND 1 b.val |>.put EX_MBLEN_INLEN (8 + 4) b.val |>.wrw .EX_MBDATA (BitVec.ofNat 32 (6 + (30) * 65536)) b.val 0 |>.wrw .EX_MBDATA (BitVec.ofNat 32 (rn 9 % 60)) b.val 1)
  ⟨s, b, o, by decide +kernel⟩

theorem witness_MailboxAndLocalOperationsWork_23 : ∃ (s : State) (b : Mbox),
    (∀ o ∈ s.localOp b.val, o.op ≠ 6) :=
  let x : State := State.reset
  let b : Mbox := ⟨rn 4 % 8, by omega⟩
  let s : State := (((x).put EX_MBSTAT_BUSY 1 b.val).put EX_MBCTL_KIND 1 b.val |>.put EX_MBLEN_INLEN (8 + 9) b.val |>.wrw .EX_MBDATA (BitVec.ofNat 32 (5 + (30) * 65536)) b.val 0 |>.wrw .EX_MBDATA (BitVec.ofNat 32 (9)) b.val 1)
  ⟨s, b, by decide +kernel⟩

theorem witness_MailboxAndLocalOperationsWork_24 : ∃ (s : State) (b : Mbox) (o : LocalOp),
    s.localOp b.val = some o ∧
    o.op = 7 ∧
    8 ≤ o.slot ∧
    o.slot < 32 ∧
    o.len = 0 ∧
    o.data = [] :=
  let x : State := State.reset
  let b : Mbox := ⟨rn 4 % 8, by omega⟩
  let s0 : State := (((x).put EX_MBSTAT_BUSY 1 b.val).put EX_MBCTL_KIND 1 b.val |>.put EX_MBLEN_INLEN (8 + 0) b.val |>.wrw .EX_MBDATA (BitVec.ofNat 32 (7 + (30) * 65536)) b.val 0 |>.wrw .EX_MBDATA (BitVec.ofNat 32 (0)) b.val 1)
  let o : LocalOp := (s0.localOp b.val).getD ⟨0,0,0,[]⟩
  let s : State := (((x).put EX_MBSTAT_BUSY 1 b.val).put EX_MBCTL_KIND 1 b.val |>.put EX_MBLEN_INLEN (8 + 0) b.val |>.wrw .EX_MBDATA (BitVec.ofNat 32 (7 + (30) * 65536)) b.val 0 |>.wrw .EX_MBDATA (BitVec.ofNat 32 (0)) b.val 1)
  ⟨s, b, o, by decide +kernel⟩

theorem witness_MailboxAndLocalOperationsWork_25 : ∃ (s : State) (b : Mbox) (o : LocalOp),
    s.localOp b.val = some o ∧
    o.op = 7 ∧
    8 ≤ o.slot ∧
    o.slot < 32 ∧
    o.len = 1 ∧
    o.data = [1] ∧
    s.counter o.slot < s.mark o.slot ∧
    s.mark o.slot < 2 ^ 64 :=
  let x : State := State.reset
  let b : Mbox := ⟨rn 4 % 8, by omega⟩
  let s0 : State := ((((x).put EX_MBSTAT_BUSY 1 b.val).put EX_MBCTL_KIND 1 b.val |>.put EX_MBLEN_INLEN (8 + 1) b.val |>.wrw .EX_MBDATA (BitVec.ofNat 32 (7 + (30) * 65536)) b.val 0 |>.wrw .EX_MBDATA (BitVec.ofNat 32 (1)) b.val 1)).wrw .EX_MBDATA 1 b.val 2
  let o : LocalOp := (s0.localOp b.val).getD ⟨0,0,0,[]⟩
  let s : State := ((((x).put EX_MBSTAT_BUSY 1 b.val).put EX_MBCTL_KIND 1 b.val |>.put EX_MBLEN_INLEN (8 + 1) b.val |>.wrw .EX_MBDATA (BitVec.ofNat 32 (7 + (30) * 65536)) b.val 0 |>.wrw .EX_MBDATA (BitVec.ofNat 32 (1)) b.val 1)).wrw .EX_MBDATA 1 b.val 2
  ⟨s, b, o, by decide +kernel⟩

theorem witness_MailboxAndLocalOperationsWork_26 : ∃ (s : State) (b : Mbox) (o : LocalOp),
    s.localOp b.val = some o ∧
    o.op = 7 ∧
    8 ≤ o.slot ∧
    o.slot < 32 ∧
    o.len = 1 ∧
    o.data = [1] ∧
    s.counter o.slot = s.mark o.slot ∧
    s.mark o.slot < 2 ^ 64 - 1 :=
  let x : State := State.reset
  let b : Mbox := ⟨rn 4 % 8, by omega⟩
  let s0 : State := {((((x).put EX_MBSTAT_BUSY 1 b.val).put EX_MBCTL_KIND 1 b.val |>.put EX_MBLEN_INLEN (8 + 1) b.val |>.wrw .EX_MBDATA (BitVec.ofNat 32 (7 + (30) * 65536)) b.val 0 |>.wrw .EX_MBDATA (BitVec.ofNat 32 (1)) b.val 1)).wrw .EX_MBDATA 1 b.val 2 with lamp := {x.lamp with counters := Vector.replicate 32 65536}, bank := {x.bank with marks := Vector.replicate 32 65536}}
  let o : LocalOp := (s0.localOp b.val).getD ⟨0,0,0,[]⟩
  let s : State := {((((x).put EX_MBSTAT_BUSY 1 b.val).put EX_MBCTL_KIND 1 b.val |>.put EX_MBLEN_INLEN (8 + 1) b.val |>.wrw .EX_MBDATA (BitVec.ofNat 32 (7 + (30) * 65536)) b.val 0 |>.wrw .EX_MBDATA (BitVec.ofNat 32 (1)) b.val 1)).wrw .EX_MBDATA 1 b.val 2 with lamp := {x.lamp with counters := Vector.replicate 32 65536}, bank := {x.bank with marks := Vector.replicate 32 65536}}
  ⟨s, b, o, by decide +kernel⟩

theorem witness_MailboxAndLocalOperationsWork_27 : ∃ (s : State) (b : Mbox) (o : LocalOp),
    s.localOp b.val = some o ∧
    o.op = 7 ∧
    (o.slot < 8 ∨ 32 ≤ o.slot) :=
  let x : State := State.reset
  let b : Mbox := ⟨rn 4 % 8, by omega⟩
  let s0 : State := (((x).put EX_MBSTAT_BUSY 1 b.val).put EX_MBCTL_KIND 1 b.val |>.put EX_MBLEN_INLEN (8 + 0) b.val |>.wrw .EX_MBDATA (BitVec.ofNat 32 (7 + (7 + 25 * (rn 5 % 2)) * 65536)) b.val 0 |>.wrw .EX_MBDATA (BitVec.ofNat 32 (0)) b.val 1)
  let o : LocalOp := (s0.localOp b.val).getD ⟨0,0,0,[]⟩
  let s : State := (((x).put EX_MBSTAT_BUSY 1 b.val).put EX_MBCTL_KIND 1 b.val |>.put EX_MBLEN_INLEN (8 + 0) b.val |>.wrw .EX_MBDATA (BitVec.ofNat 32 (7 + (7 + 25 * (rn 5 % 2)) * 65536)) b.val 0 |>.wrw .EX_MBDATA (BitVec.ofNat 32 (0)) b.val 1)
  ⟨s, b, o, by decide +kernel⟩

theorem witness_MailboxAndLocalOperationsWork_28 : ∃ (s : State) (b : Mbox),
    (∀ o ∈ s.localOp b.val, o.op ≠ 7) :=
  let x : State := State.reset
  let b : Mbox := ⟨rn 4 % 8, by omega⟩
  let s : State := (((x).put EX_MBSTAT_BUSY 1 b.val).put EX_MBCTL_KIND 1 b.val |>.put EX_MBLEN_INLEN (8 + 9) b.val |>.wrw .EX_MBDATA (BitVec.ofNat 32 (5 + (30) * 65536)) b.val 0 |>.wrw .EX_MBDATA (BitVec.ofNat 32 (9)) b.val 1)
  ⟨s, b, by decide +kernel⟩

theorem witness_MailboxAndLocalOperationsWork_29 : ∃ (s : State) (k : Fin 32),
    s.markDue k.val = true ∧
    s.grantable clsFlash = true :=
  let x : State := State.reset
  let k : Fin 32 := ⟨rn 4 % 32, by omega⟩
  let s : State := {bkx x 3 default with lamp := {x.lamp with counters := Vector.replicate 32 65000}}
  ⟨s, k, by decide +kernel⟩

theorem witness_MailboxAndLocalOperationsWork_30 : ∃ (s : State) (k : Fin 32),
    s.markDue k.val = true ∧
    s.grantable clsFlash = false :=
  let x : State := State.reset
  let k : Fin 32 := ⟨rn 4 % 32, by omega⟩
  let s : State := {x with lamp := {x.lamp with counters := Vector.replicate 32 65000}}.put LA_GAUGE_E 0
  ⟨s, k, by decide +kernel⟩

theorem witness_MailboxAndLocalOperationsWork_31 : ∃ (s : State) (k : Fin 32),
    s.markDue k.val = false :=
  let x : State := State.reset
  let k : Fin 32 := ⟨rn 4 % 32, by omega⟩
  let s : State := {x with lamp := {x.lamp with counters := Vector.replicate 32 5}, bank := {x.bank with marks := Vector.replicate 32 65536, queue := []}}
  ⟨s, k, by decide +kernel⟩

theorem witness_MailboxAndLocalOperationsWork_32 : ∃ (s : State) (n : Pair) (b : Mbox) (v : Word),
    s.busOpen (.pair n) = true ∧
    s.lockstep (.pair n) = true ∧
    s.on EX_MBCTL_CLAIMED b.val = false ∧
    EX_MBCTL_GO.of v = 0 ∧
    EX_MBCTL_RELEASE.of v = 0 :=
  let x : State := State.reset
  let n : Pair := ⟨rn 14 % 16, by omega⟩
  let b : Mbox := ⟨rn 4 % 8, by omega⟩
  let v : Word := EX_MBCTL_KIND.into 0 (rn 8 % 2)
  let s : State := x.put DR_PSTATE_STATE 4 n.val |>.put EX_MBCTL_CLAIMED 0 b.val
  ⟨s, n, b, v, by decide +kernel⟩

theorem witness_MailboxAndLocalOperationsWork_33 : ∃ (s : State) (m : Master) (b : Mbox) (v : Word),
    s.busOpen m = true ∧
    s.mbOwner m b.val = false ∧
    s.on EX_MBCTL_CLAIMED b.val = true :=
  let x : State := State.reset
  let m : Master := .dma
  let b : Mbox := ⟨rn 4 % 8, by omega⟩
  let v : Word := BitVec.ofNat 32 (rn 8)
  let s : State := x.put DR_PSTATE_STATE 4 (rn 14 % 16) |>.put EX_MBCTL_CLAIMED 1 b.val |>.put EX_MBCTL_PAIR (rn 14 % 16) b.val |>.put EX_MBSTAT_BUSY 0 b.val |>.put EX_MBLEN_INLEN (8 + rn 7 % 40) b.val
  ⟨s, m, b, v, by decide +kernel⟩

theorem witness_MailboxAndLocalOperationsWork_34 : ∃ (s : State) (m : Master) (b : Mbox) (v : Word),
    s.busOpen m = true ∧
    s.mbOwner m b.val = false ∧
    s.on EX_MBCTL_CLAIMED b.val = true :=
  let x : State := State.reset
  let m : Master := .dma
  let b : Mbox := ⟨rn 4 % 8, by omega⟩
  let v : Word := BitVec.ofNat 32 (rn 8)
  let s : State := x.put DR_PSTATE_STATE 4 (rn 14 % 16) |>.put EX_MBCTL_CLAIMED 1 b.val |>.put EX_MBCTL_PAIR (rn 14 % 16) b.val |>.put EX_MBSTAT_BUSY 0 b.val |>.put EX_MBLEN_INLEN (8 + rn 7 % 40) b.val
  ⟨s, m, b, v, by decide +kernel⟩

theorem witness_MailboxAndLocalOperationsWork_35 : ∃ (s : State) (m : Master) (b : Mbox) (v : Word),
    s.busOpen m = true ∧
    s.mbOwner m b.val = false ∧
    s.on EX_MBCTL_CLAIMED b.val = true :=
  let x : State := State.reset
  let m : Master := .dma
  let b : Mbox := ⟨rn 4 % 8, by omega⟩
  let v : Word := BitVec.ofNat 32 (rn 8)
  let s : State := x.put DR_PSTATE_STATE 4 (rn 14 % 16) |>.put EX_MBCTL_CLAIMED 1 b.val |>.put EX_MBCTL_PAIR (rn 14 % 16) b.val |>.put EX_MBSTAT_BUSY 0 b.val |>.put EX_MBLEN_INLEN (8 + rn 7 % 40) b.val
  ⟨s, m, b, v, by decide +kernel⟩

theorem witness_MailboxAndLocalOperationsWork_36 : ∃ (s : State) (n : Pair) (b : Mbox) (v : Word),
    s.busOpen (.pair n) = true ∧
    s.mbOwner (.pair n) b.val = true ∧
    EX_MBCTL_KIND.of v = 0 ∧
    EX_MBCTL_RELEASE.of v = 0 ∧
    s.on EX_MBSTAT_BUSY b.val = false ∧
    0 < s.get EX_MBLEN_INLEN b.val ∧
    s.get EX_MBLEN_INLEN b.val ≤ 4608 :=
  let x : State := State.reset
  let n : Pair := ⟨rn 14 % 16, by omega⟩
  let b : Mbox := ⟨rn 4 % 8, by omega⟩
  let v : Word := 0
  let s : State := x.put DR_PSTATE_STATE 4 n.val |>.put EX_MBCTL_CLAIMED 1 b.val |>.put EX_MBCTL_PAIR n.val b.val |>.put EX_MBSTAT_BUSY 0 b.val |>.put EX_MBLEN_INLEN (8 + rn 7 % 40) b.val
  ⟨s, n, b, v, by decide +kernel⟩

theorem witness_MailboxAndLocalOperationsWork_37 : ∃ (s : State) (n : Pair) (b : Mbox) (v : Word),
    s.busOpen (.pair n) = true ∧
    s.mbOwner (.pair n) b.val = true ∧
    EX_MBCTL_KIND.of v = 1 ∧
    EX_MBCTL_RELEASE.of v = 0 ∧
    s.on EX_MBSTAT_BUSY b.val = false ∧
    8 ≤ s.get EX_MBLEN_INLEN b.val ∧
    s.get EX_MBLEN_INLEN b.val ≤ 4608 ∧
    1 ≤ fieldAt (s.mbBytes b.val (s.get EX_MBLEN_INLEN b.val)) 0 2 ∧
    fieldAt (s.mbBytes b.val (s.get EX_MBLEN_INLEN b.val)) 0 2 ≤ 7 :=
  let x : State := State.reset
  let n : Pair := ⟨rn 14 % 16, by omega⟩
  let b : Mbox := ⟨rn 4 % 8, by omega⟩
  let v : Word := EX_MBCTL_KIND.into 0 1
  let s : State := (x.put DR_PSTATE_STATE 4 n.val |>.put EX_MBCTL_CLAIMED 1 b.val |>.put EX_MBCTL_PAIR n.val b.val |>.put EX_MBSTAT_BUSY 0 b.val |>.put EX_MBLEN_INLEN (8 + rn 7 % 40) b.val).wrw .EX_MBDATA (BitVec.ofNat 32 (1 + rn 9 % 7)) b.val 0
  ⟨s, n, b, v, by decide +kernel⟩

theorem witness_MailboxAndLocalOperationsWork_38 : ∃ (s : State) (n : Pair) (b : Mbox) (v : Word),
    s.busOpen (.pair n) = true ∧
    s.mbOwner (.pair n) b.val = true ∧
    EX_MBCTL_RELEASE.of v = 0 ∧
    (s.get EX_MBLEN_INLEN b.val = 0 ∨ 4608 < s.get EX_MBLEN_INLEN b.val) :=
  let x : State := State.reset
  let n : Pair := ⟨rn 14 % 16, by omega⟩
  let b : Mbox := ⟨rn 4 % 8, by omega⟩
  let v : Word := EX_MBCTL_KIND.into 0 (rn 8 % 2)
  let s : State := x.put DR_PSTATE_STATE 4 n.val |>.put EX_MBCTL_CLAIMED 1 b.val |>.put EX_MBCTL_PAIR n.val b.val |>.put EX_MBSTAT_BUSY 0 b.val |>.put EX_MBLEN_INLEN (8 + rn 7 % 40) b.val|>.put EX_MBLEN_INLEN (if rn 9 % 2 = 0 then 0 else 4609) b.val
  ⟨s, n, b, v, by decide +kernel⟩

theorem witness_MailboxAndLocalOperationsWork_39 : ∃ (s : State) (n : Pair) (b : Mbox) (v : Word),
    s.busOpen (.pair n) = true ∧
    s.mbOwner (.pair n) b.val = true ∧
    EX_MBCTL_RELEASE.of v = 0 ∧
    s.on EX_MBSTAT_BUSY b.val = true :=
  let x : State := State.reset
  let n : Pair := ⟨rn 14 % 16, by omega⟩
  let b : Mbox := ⟨rn 4 % 8, by omega⟩
  let v : Word := EX_MBCTL_KIND.into 0 (rn 8 % 2)
  let s : State := x.put DR_PSTATE_STATE 4 n.val |>.put EX_MBCTL_CLAIMED 1 b.val |>.put EX_MBCTL_PAIR n.val b.val |>.put EX_MBSTAT_BUSY 0 b.val |>.put EX_MBLEN_INLEN (8 + rn 7 % 40) b.val|>.put EX_MBSTAT_BUSY 1 b.val
  ⟨s, n, b, v, by decide +kernel⟩

theorem witness_MailboxAndLocalOperationsWork_40 : ∃ (s : State) (n : Pair) (b : Mbox) (v : Word),
    s.busOpen (.pair n) = true ∧
    s.mbOwner (.pair n) b.val = true ∧
    EX_MBCTL_GO.of v = 0 :=
  let x : State := State.reset
  let n : Pair := ⟨rn 14 % 16, by omega⟩
  let b : Mbox := ⟨rn 4 % 8, by omega⟩
  let v : Word := 0
  let s : State := x.put DR_PSTATE_STATE 4 n.val |>.put EX_MBCTL_CLAIMED 1 b.val |>.put EX_MBCTL_PAIR n.val b.val |>.put EX_MBSTAT_BUSY 0 b.val |>.put EX_MBLEN_INLEN (8 + rn 7 % 40) b.val
  ⟨s, n, b, v, by decide +kernel⟩

theorem witness_MailboxAndLocalOperationsWork_41 : ∃ (s : State) (b : Nat) (l : List Nat) (q : Nat × Bool),
    s.bank.queue = b :: l ∧
    s.mayStartEnvelope = true ∧
    (q = match envelopeOf (s.mbBytes b (s.get EX_MBLEN_INLEN b)) with | some e => s.verdict e | none => (exvFormat, false)) ∧
    (q.2 = false ∨ ∀ e ∈ envelopeOf (s.mbBytes b (s.get EX_MBLEN_INLEN b)), e.roles.all (fun r => decide (e.seq ≤ s.mark (roleCounter r))) = true) :=
  let x : State := State.reset
  let b : Nat := 2
  let l : List Nat := [5]
  let q : Nat × Bool := (exvFormat, false)
  let s : State := {x with bank := {x.bank with queue := [2, 5], running := none, lastStart := none}}.put EX_MBLEN_INLEN (rn 6 % 30) 2
  ⟨s, b, l, q, by decide +kernel⟩

theorem witness_MailboxAndLocalOperationsWork_42 : ∃ (s : State),
    (s.bank.queue = [] ∨ s.mayStartEnvelope = false) :=
  let x : State := State.reset
  let s : State := {x with bank := {x.bank with queue := if rn 3 % 2 = 0 then [] else [4], running := none, lastStart := some x.now}}
  ⟨s, by decide +kernel⟩

theorem witness_MailboxAndLocalOperationsWork_43 : ∃ (s : State) (r : RunU),
    s.bank.running = some r ∧
    r.buf < 8 ∧
    s.routed 976 = true ∧
    (s.counter 6 < s.mark 6 ∨ s.grantable clsFlash = true) :=
  let x : State := State.reset
  let r : RunU := ⟨3, some (envx 2 3 []), if rn 6 % 2 = 0 then 0 else 0x16, true, x.now + 20⟩
  let s : State := {x with bank := {x.bank with running := some ⟨3, some (envx 2 3 []), if rn 6 % 2 = 0 then 0 else 0x16, true, x.now + 20⟩}, lamp := {x.lamp with counters := Vector.replicate 32 (if rn 7 % 2 = 0 then 5 else 65536)}}.put LA_GAUGE_E 60000 |>.put LA_GFLOOR_KEEP 0 |>.put LA_GHELD_HELD 0 |>.put IC_SRCCFG_TARGET (rn 15 % 17) (976)
  ⟨s, r, by decide +kernel⟩

theorem witness_MailboxAndLocalOperationsWork_44 : ∃ (s : State),
    s.counter 6 = s.mark 6 ∧
    s.grantable clsFlash = false :=
  let x : State := State.reset
  let s : State := {x with bank := {x.bank with running := some ⟨3, some (envx 2 3 []), 0, true, x.now + 20⟩, marks := Vector.replicate 32 7}, lamp := {x.lamp with counters := Vector.replicate 32 7}}.put LA_GAUGE_E 0
  ⟨s, by decide +kernel⟩

theorem witness_AcceptedSettingsApply_1 : ∃ (s : State) (b : Nat) (e : Envelope) (l : List (Nat × Envelope)),
    s.bank.accepted = (b, e) :: l ∧
    e.cls = xRead ∧
    s.toNextBoundary.checksLate e = exvAccepted ∧
    (s.plan.await = none ∨ s.plan.awaitFrame.isSome = true) :=
  let x : State := State.reset
  let b : Nat := 3
  let e : Envelope := envx xRead 3 (tlv 0x0101 [0x11, 0, 0, 0, 0, 0, 0, 0])
  let l : List (Nat × Envelope) := [(4, envx xRead 3 (tlv 0x0101 [0x11, 0, 0, 0, 0, 0, 0, 0]))]
  let s : State := bkx x 3 (envx xRead 3 (tlv 0x0101 [0x11, 0, 0, 0, 0, 0, 0, 0]))
  ⟨s, b, e, l, by decide +kernel⟩

theorem witness_AcceptedSettingsApply_2 : ∃ (s : State) (b : Nat) (e : Envelope) (l : List (Nat × Envelope)),
    s.bank.accepted = (b, e) :: l ∧
    e.cls = xSet ∧
    s.toNextBoundary.checksLate e = exvAccepted ∧
    (s.plan.await = none ∨ s.plan.awaitFrame.isSome = true) :=
  let x : State := State.reset
  let b : Nat := 3
  let e : Envelope := envx xSet 3 (tlv 0x0201 [41, 0, 0, 0, 9, 9, 0, 1] ++ tlv 0x0201 ([40, 0, 0, 0] ++ leBytes 4 (rn 7)))
  let l : List (Nat × Envelope) := [(4, envx xSet 3 (tlv 0x0201 [41, 0, 0, 0, 9, 9, 0, 1] ++ tlv 0x0201 ([40, 0, 0, 0] ++ leBytes 4 (rn 7))))]
  let s : State := bkx x 3 (envx xSet 3 (tlv 0x0201 [41, 0, 0, 0, 9, 9, 0, 1] ++ tlv 0x0201 ([40, 0, 0, 0] ++ leBytes 4 (rn 7))))
  ⟨s, b, e, l, by decide +kernel⟩

theorem witness_AcceptedSettingsApply_3 : ∃ (s : State) (b : Nat) (e : Envelope) (l : List (Nat × Envelope)),
    s.bank.accepted = (b, e) :: l ∧
    e.cls = xLimits ∧
    s.toNextBoundary.checksLate e = exvAccepted ∧
    (s.plan.await = none ∨ s.plan.awaitFrame.isSome = true) :=
  let x : State := State.reset
  let b : Nat := 3
  let e : Envelope := envx xLimits 3 (tlv 0x0202 ([4, 0, 0, 0] ++ leBytes 4 (rn 7 % 1000) ++ leBytes 4 (2000 + rn 8 % 1000)))
  let l : List (Nat × Envelope) := [(4, envx xLimits 3 (tlv 0x0202 ([4, 0, 0, 0] ++ leBytes 4 (rn 7 % 1000) ++ leBytes 4 (2000 + rn 8 % 1000))))]
  let s : State := bkx x 3 (envx xLimits 3 (tlv 0x0202 ([4, 0, 0, 0] ++ leBytes 4 (rn 7 % 1000) ++ leBytes 4 (2000 + rn 8 % 1000))))
  ⟨s, b, e, l, by decide +kernel⟩

theorem witness_AcceptedSettingsApply_4 : ∃ (s : State) (b : Nat) (e : Envelope) (l : List (Nat × Envelope)),
    s.bank.accepted = (b, e) :: l ∧
    e.cls = xSchedule ∧
    s.toNextBoundary.checksLate e = exvAccepted ∧
    (s.plan.await = none ∨ s.plan.awaitFrame.isSome = true) :=
  let x : State := State.reset
  let b : Nat := 3
  let e : Envelope := envx xSchedule 3 (tlv 0x0C01 (List.replicate 40 7))
  let l : List (Nat × Envelope) := [(4, envx xSchedule 3 (tlv 0x0C01 (List.replicate 40 7)))]
  let s : State := bkx x 3 (envx xSchedule 3 (tlv 0x0C01 (List.replicate 40 7)))
  ⟨s, b, e, l, by decide +kernel⟩

theorem witness_AcceptedSettingsApply_5 : ∃ (s : State) (b : Nat) (e : Envelope) (l : List (Nat × Envelope)),
    s.bank.accepted = (b, e) :: l ∧
    e.cls = xAssaySet ∧
    s.toNextBoundary.checksLate e = exvAccepted ∧
    (s.plan.await = none ∨ s.plan.awaitFrame.isSome = true) :=
  let x : State := State.reset
  let b : Nat := 3
  let e : Envelope := envx xAssaySet 3 (tlv 0x0501 (leBytes 4 (rn 7 % 16)))
  let l : List (Nat × Envelope) := [(4, envx xAssaySet 3 (tlv 0x0501 (leBytes 4 (rn 7 % 16))))]
  let s : State := bkx x 3 (envx xAssaySet 3 (tlv 0x0501 (leBytes 4 (rn 7 % 16))))
  ⟨s, b, e, l, by decide +kernel⟩

theorem witness_AcceptedSettingsApply_6 : ∃ (s : State) (b : Nat) (e : Envelope) (l : List (Nat × Envelope)),
    s.bank.accepted = (b, e) :: l ∧
    e.cls = xAssaySet ∧
    s.toNextBoundary.checksLate e = exvAccepted ∧
    (s.plan.await = none ∨ s.plan.awaitFrame.isSome = true) :=
  let x : State := State.reset
  let b : Nat := 3
  let e : Envelope := envx xAssaySet 3 (tlv 0x0502 (leBytes 4 (rn 7 % 4) ++ leBytes 4 (rn 8) ++ leBytes 4 (rn 9) ++ leBytes 4 (rn 10)))
  let l : List (Nat × Envelope) := [(4, envx xAssaySet 3 (tlv 0x0502 (leBytes 4 (rn 7 % 4) ++ leBytes 4 (rn 8) ++ leBytes 4 (rn 9) ++ leBytes 4 (rn 10))))]
  let s : State := bkx x 3 (envx xAssaySet 3 (tlv 0x0502 (leBytes 4 (rn 7 % 4) ++ leBytes 4 (rn 8) ++ leBytes 4 (rn 9) ++ leBytes 4 (rn 10))))
  ⟨s, b, e, l, by decide +kernel⟩

theorem witness_AcceptedSettingsApply_7 : ∃ (s : State) (b : Nat) (e : Envelope) (l : List (Nat × Envelope)),
    s.bank.accepted = (b, e) :: l ∧
    e.cls = xAssaySet ∧
    s.toNextBoundary.checksLate e = exvAccepted ∧
    (s.plan.await = none ∨ s.plan.awaitFrame.isSome = true) :=
  let x : State := State.reset
  let b : Nat := 3
  let e : Envelope := envx xAssaySet 3 (tlv 0x0503 (leBytes 4 (rn 7 % 8) ++ leBytes 4 (rn 8) ++ leBytes 4 (rn 9)))
  let l : List (Nat × Envelope) := [(4, envx xAssaySet 3 (tlv 0x0503 (leBytes 4 (rn 7 % 8) ++ leBytes 4 (rn 8) ++ leBytes 4 (rn 9))))]
  let s : State := bkx x 3 (envx xAssaySet 3 (tlv 0x0503 (leBytes 4 (rn 7 % 8) ++ leBytes 4 (rn 8) ++ leBytes 4 (rn 9))))
  ⟨s, b, e, l, by decide +kernel⟩

theorem witness_AcceptedSettingsApply_8 : ∃ (s : State) (b : Nat) (e : Envelope) (l : List (Nat × Envelope)),
    s.bank.accepted = (b, e) :: l ∧
    e.cls = xAssayAck ∧
    s.toNextBoundary.checksLate e = exvAccepted ∧
    (s.plan.await = none ∨ s.plan.awaitFrame.isSome = true) :=
  let x : State := State.reset
  let b : Nat := 3
  let e : Envelope := envx xAssayAck 3 []
  let l : List (Nat × Envelope) := [(4, envx xAssayAck 3 [])]
  let s : State := bkx x 3 (envx xAssayAck 3 [])
  ⟨s, b, e, l, by decide +kernel⟩

theorem witness_AcceptedSettingsApply_9 : ∃ (s : State) (b : Nat) (e : Envelope) (l : List (Nat × Envelope)),
    s.bank.accepted = (b, e) :: l ∧
    e.cls = xCounterClear ∧
    s.toNextBoundary.checksLate e = exvAccepted ∧
    (s.plan.await = none ∨ s.plan.awaitFrame.isSome = true) :=
  let x : State := State.reset
  let b : Nat := 3
  let e : Envelope := envx xCounterClear 3 []
  let l : List (Nat × Envelope) := [(4, envx xCounterClear 3 [])]
  let s : State := bkx x 3 (envx xCounterClear 3 [])
  ⟨s, b, e, l, by decide +kernel⟩

theorem witness_AcceptedSettingsApply_10 : ∃ (s : State) (b : Nat) (e : Envelope) (l : List (Nat × Envelope)),
    s.bank.accepted = (b, e) :: l ∧
    e.cls = xCertRevoke ∧
    s.toNextBoundary.checksLate e = exvAccepted ∧
    (s.plan.await = none ∨ s.plan.awaitFrame.isSome = true) :=
  let x : State := State.reset
  let b : Nat := 3
  let e : Envelope := envx xCertRevoke 3 (tlv 0x0801 (leBytes 8 (rn 7)) ++ tlv 0x0801 (leBytes 8 (rn 8)))
  let l : List (Nat × Envelope) := [(4, envx xCertRevoke 3 (tlv 0x0801 (leBytes 8 (rn 7)) ++ tlv 0x0801 (leBytes 8 (rn 8))))]
  let s : State := bkx x 3 (envx xCertRevoke 3 (tlv 0x0801 (leBytes 8 (rn 7)) ++ tlv 0x0801 (leBytes 8 (rn 8))))
  ⟨s, b, e, l, by decide +kernel⟩

theorem witness_AcceptedSettingsApply_11 : ∃ (s : State) (b : Nat) (e : Envelope) (l : List (Nat × Envelope)),
    s.bank.accepted = (b, e) :: l ∧
    e.cls = xGroupSet ∧
    s.toNextBoundary.checksLate e = exvAccepted ∧
    (s.plan.await = none ∨ s.plan.awaitFrame.isSome = true) :=
  let x : State := State.reset
  let b : Nat := 3
  let e : Envelope := envx xGroupSet 3 (tlv 0x0901 (leBytes 16 (rn 7)))
  let l : List (Nat × Envelope) := [(4, envx xGroupSet 3 (tlv 0x0901 (leBytes 16 (rn 7))))]
  let s : State := bkx x 3 (envx xGroupSet 3 (tlv 0x0901 (leBytes 16 (rn 7))))
  ⟨s, b, e, l, by decide +kernel⟩

theorem witness_AcceptedSettingsApply_12 : ∃ (s : State) (b : Nat) (e : Envelope) (l : List (Nat × Envelope)) (c : Nat),
    s.bank.accepted = (b, e) :: l ∧
    e.cls = xRead ∧
    s.toNextBoundary.checksLate e = c ∧
    (s.plan.await = none ∨ s.plan.awaitFrame.isSome = true) ∧
    c ≠ exvAccepted :=
  let x : State := State.reset
  let b : Nat := 3
  let e : Envelope := envx xRead 3 (tlv 0x0101 [0x11, 0, 0, 0, 0, 0, 0, 0])
  let l : List (Nat × Envelope) := [(4, envx xRead 3 (tlv 0x0101 [0x11, 0, 0, 0, 0, 0, 0, 0]))]
  let s0 : State := bkx x 5 (envx xRead 3 (tlv 0x0101 [0x11, 0, 0, 0, 0, 0, 0, 0]))
  let c : Nat := s0.toNextBoundary.checksLate (envx xRead 3 (tlv 0x0101 [0x11, 0, 0, 0, 0, 0, 0, 0]))
  let s : State := bkx x 5 (envx xRead 3 (tlv 0x0101 [0x11, 0, 0, 0, 0, 0, 0, 0]))
  ⟨s, b, e, l, c, by decide +kernel⟩

theorem witness_AcceptedSettingsApply_13 : ∃ (s : State),
    (∀ p ∈ s.bank.accepted.head?, p.2.cls ≠ xRead) :=
  let x : State := State.reset
  let s : State := bkx x 5 ((envx xRead 3 (tlv 0x0101 [0x11, 0, 0, 0, 0, 0, 0, 0]) : Envelope)) |> fun (y : State) => {y with bank := {y.bank with accepted := []}}
  ⟨s, by decide +kernel⟩

theorem witness_AcceptedSettingsApply_14 : ∃ (s : State) (b : Nat) (e : Envelope) (l : List (Nat × Envelope)) (c : Nat),
    s.bank.accepted = (b, e) :: l ∧
    e.cls = xSet ∧
    s.toNextBoundary.checksLate e = c ∧
    (s.plan.await = none ∨ s.plan.awaitFrame.isSome = true) ∧
    c ≠ exvAccepted :=
  let x : State := State.reset
  let b : Nat := 3
  let e : Envelope := envx xSet 3 (tlv 0x0201 [41, 0, 0, 0, 9, 9, 0, 1] ++ tlv 0x0201 ([40, 0, 0, 0] ++ leBytes 4 (rn 7)))
  let l : List (Nat × Envelope) := [(4, envx xSet 3 (tlv 0x0201 [41, 0, 0, 0, 9, 9, 0, 1] ++ tlv 0x0201 ([40, 0, 0, 0] ++ leBytes 4 (rn 7))))]
  let s0 : State := bkx x 5 (envx xSet 3 (tlv 0x0201 [41, 0, 0, 0, 9, 9, 0, 1] ++ tlv 0x0201 ([40, 0, 0, 0] ++ leBytes 4 (rn 7))))
  let c : Nat := s0.toNextBoundary.checksLate (envx xSet 3 (tlv 0x0201 [41, 0, 0, 0, 9, 9, 0, 1] ++ tlv 0x0201 ([40, 0, 0, 0] ++ leBytes 4 (rn 7))))
  let s : State := bkx x 5 (envx xSet 3 (tlv 0x0201 [41, 0, 0, 0, 9, 9, 0, 1] ++ tlv 0x0201 ([40, 0, 0, 0] ++ leBytes 4 (rn 7))))
  ⟨s, b, e, l, c, by decide +kernel⟩

theorem witness_AcceptedSettingsApply_15 : ∃ (s : State),
    (∀ p ∈ s.bank.accepted.head?, p.2.cls ≠ xSet) :=
  let x : State := State.reset
  let s : State := bkx x 5 ((envx xSet 3 (tlv 0x0201 [41, 0, 0, 0, 9, 9, 0, 1] ++ tlv 0x0201 ([40, 0, 0, 0] ++ leBytes 4 (rn 7))) : Envelope)) |> fun (y : State) => {y with bank := {y.bank with accepted := []}}
  ⟨s, by decide +kernel⟩

theorem witness_AcceptedSettingsApply_16 : ∃ (s : State) (b : Nat) (e : Envelope) (l : List (Nat × Envelope)) (c : Nat),
    s.bank.accepted = (b, e) :: l ∧
    e.cls = xLimits ∧
    s.toNextBoundary.checksLate e = c ∧
    (s.plan.await = none ∨ s.plan.awaitFrame.isSome = true) ∧
    c ≠ exvAccepted :=
  let x : State := State.reset
  let b : Nat := 3
  let e : Envelope := envx xLimits 3 (tlv 0x0202 ([4, 0, 0, 0] ++ leBytes 4 (rn 7 % 1000) ++ leBytes 4 (2000 + rn 8 % 1000)))
  let l : List (Nat × Envelope) := [(4, envx xLimits 3 (tlv 0x0202 ([4, 0, 0, 0] ++ leBytes 4 (rn 7 % 1000) ++ leBytes 4 (2000 + rn 8 % 1000))))]
  let s0 : State := bkx x 5 (envx xLimits 3 (tlv 0x0202 ([4, 0, 0, 0] ++ leBytes 4 (rn 7 % 1000) ++ leBytes 4 (2000 + rn 8 % 1000))))
  let c : Nat := s0.toNextBoundary.checksLate (envx xLimits 3 (tlv 0x0202 ([4, 0, 0, 0] ++ leBytes 4 (rn 7 % 1000) ++ leBytes 4 (2000 + rn 8 % 1000))))
  let s : State := bkx x 5 (envx xLimits 3 (tlv 0x0202 ([4, 0, 0, 0] ++ leBytes 4 (rn 7 % 1000) ++ leBytes 4 (2000 + rn 8 % 1000))))
  ⟨s, b, e, l, c, by decide +kernel⟩

theorem witness_AcceptedSettingsApply_17 : ∃ (s : State),
    (∀ p ∈ s.bank.accepted.head?, p.2.cls ≠ xLimits) :=
  let x : State := State.reset
  let s : State := bkx x 5 ((envx xLimits 3 (tlv 0x0202 ([4, 0, 0, 0] ++ leBytes 4 (rn 7 % 1000) ++ leBytes 4 (2000 + rn 8 % 1000))) : Envelope)) |> fun (y : State) => {y with bank := {y.bank with accepted := []}}
  ⟨s, by decide +kernel⟩

theorem witness_AcceptedSettingsApply_18 : ∃ (s : State) (b : Nat) (e : Envelope) (l : List (Nat × Envelope)) (c : Nat),
    s.bank.accepted = (b, e) :: l ∧
    e.cls = xSchedule ∧
    s.toNextBoundary.checksLate e = c ∧
    (s.plan.await = none ∨ s.plan.awaitFrame.isSome = true) ∧
    c ≠ exvAccepted :=
  let x : State := State.reset
  let b : Nat := 3
  let e : Envelope := envx xSchedule 3 (tlv 0x0C01 (List.replicate 40 7))
  let l : List (Nat × Envelope) := [(4, envx xSchedule 3 (tlv 0x0C01 (List.replicate 40 7)))]
  let s0 : State := bkx x 5 (envx xSchedule 3 (tlv 0x0C01 (List.replicate 40 7)))
  let c : Nat := s0.toNextBoundary.checksLate (envx xSchedule 3 (tlv 0x0C01 (List.replicate 40 7)))
  let s : State := bkx x 5 (envx xSchedule 3 (tlv 0x0C01 (List.replicate 40 7)))
  ⟨s, b, e, l, c, by decide +kernel⟩

theorem witness_AcceptedSettingsApply_19 : ∃ (s : State),
    (∀ p ∈ s.bank.accepted.head?, p.2.cls ≠ xSchedule) :=
  let x : State := State.reset
  let s : State := bkx x 5 ((envx xSchedule 3 (tlv 0x0C01 (List.replicate 40 7)) : Envelope)) |> fun (y : State) => {y with bank := {y.bank with accepted := []}}
  ⟨s, by decide +kernel⟩

theorem witness_AcceptedSettingsApply_20 : ∃ (s : State) (b : Nat) (e : Envelope) (l : List (Nat × Envelope)) (c : Nat),
    s.bank.accepted = (b, e) :: l ∧
    e.cls = xAssaySet ∧
    s.toNextBoundary.checksLate e = c ∧
    (s.plan.await = none ∨ s.plan.awaitFrame.isSome = true) ∧
    c ≠ exvAccepted :=
  let x : State := State.reset
  let b : Nat := 3
  let e : Envelope := envx xAssaySet 3 (tlv 0x0501 (leBytes 4 (rn 7 % 16)))
  let l : List (Nat × Envelope) := [(4, envx xAssaySet 3 (tlv 0x0501 (leBytes 4 (rn 7 % 16))))]
  let s0 : State := bkx x 5 (envx xAssaySet 3 (tlv 0x0501 (leBytes 4 (rn 7 % 16))))
  let c : Nat := s0.toNextBoundary.checksLate (envx xAssaySet 3 (tlv 0x0501 (leBytes 4 (rn 7 % 16))))
  let s : State := bkx x 5 (envx xAssaySet 3 (tlv 0x0501 (leBytes 4 (rn 7 % 16))))
  ⟨s, b, e, l, c, by decide +kernel⟩

theorem witness_AcceptedSettingsApply_21 : ∃ (s : State),
    (∀ p ∈ s.bank.accepted.head?, p.2.cls ≠ xAssaySet) :=
  let x : State := State.reset
  let s : State := bkx x 5 ((envx xAssaySet 3 (tlv 0x0501 (leBytes 4 (rn 7 % 16))) : Envelope)) |> fun (y : State) => {y with bank := {y.bank with accepted := []}}
  ⟨s, by decide +kernel⟩

theorem witness_AcceptedSettingsApply_22 : ∃ (s : State) (b : Nat) (e : Envelope) (l : List (Nat × Envelope)) (c : Nat),
    s.bank.accepted = (b, e) :: l ∧
    e.cls = xAssayAck ∧
    s.toNextBoundary.checksLate e = c ∧
    (s.plan.await = none ∨ s.plan.awaitFrame.isSome = true) ∧
    c ≠ exvAccepted :=
  let x : State := State.reset
  let b : Nat := 3
  let e : Envelope := envx xAssayAck 3 []
  let l : List (Nat × Envelope) := [(4, envx xAssayAck 3 [])]
  let s0 : State := bkx x 5 (envx xAssayAck 3 [])
  let c : Nat := s0.toNextBoundary.checksLate (envx xAssayAck 3 [])
  let s : State := bkx x 5 (envx xAssayAck 3 [])
  ⟨s, b, e, l, c, by decide +kernel⟩

theorem witness_AcceptedSettingsApply_23 : ∃ (s : State),
    (∀ p ∈ s.bank.accepted.head?, p.2.cls ≠ xAssayAck) :=
  let x : State := State.reset
  let s : State := bkx x 5 ((envx xAssayAck 3 [] : Envelope)) |> fun (y : State) => {y with bank := {y.bank with accepted := []}}
  ⟨s, by decide +kernel⟩

theorem witness_AcceptedSettingsApply_24 : ∃ (s : State) (b : Nat) (e : Envelope) (l : List (Nat × Envelope)) (c : Nat),
    s.bank.accepted = (b, e) :: l ∧
    e.cls = xCounterClear ∧
    s.toNextBoundary.checksLate e = c ∧
    (s.plan.await = none ∨ s.plan.awaitFrame.isSome = true) ∧
    c ≠ exvAccepted :=
  let x : State := State.reset
  let b : Nat := 3
  let e : Envelope := envx xCounterClear 3 []
  let l : List (Nat × Envelope) := [(4, envx xCounterClear 3 [])]
  let s0 : State := bkx x 5 (envx xCounterClear 3 [])
  let c : Nat := s0.toNextBoundary.checksLate (envx xCounterClear 3 [])
  let s : State := bkx x 5 (envx xCounterClear 3 [])
  ⟨s, b, e, l, c, by decide +kernel⟩

theorem witness_AcceptedSettingsApply_25 : ∃ (s : State),
    (∀ p ∈ s.bank.accepted.head?, p.2.cls ≠ xCounterClear) :=
  let x : State := State.reset
  let s : State := bkx x 5 ((envx xCounterClear 3 [] : Envelope)) |> fun (y : State) => {y with bank := {y.bank with accepted := []}}
  ⟨s, by decide +kernel⟩

theorem witness_AcceptedSettingsApply_26 : ∃ (s : State) (b : Nat) (e : Envelope) (l : List (Nat × Envelope)) (c : Nat),
    s.bank.accepted = (b, e) :: l ∧
    e.cls = xCertRevoke ∧
    s.toNextBoundary.checksLate e = c ∧
    (s.plan.await = none ∨ s.plan.awaitFrame.isSome = true) ∧
    c ≠ exvAccepted :=
  let x : State := State.reset
  let b : Nat := 3
  let e : Envelope := envx xCertRevoke 3 (tlv 0x0801 (leBytes 8 (rn 7)) ++ tlv 0x0801 (leBytes 8 (rn 8)))
  let l : List (Nat × Envelope) := [(4, envx xCertRevoke 3 (tlv 0x0801 (leBytes 8 (rn 7)) ++ tlv 0x0801 (leBytes 8 (rn 8))))]
  let s0 : State := bkx x 5 (envx xCertRevoke 3 (tlv 0x0801 (leBytes 8 (rn 7)) ++ tlv 0x0801 (leBytes 8 (rn 8))))
  let c : Nat := s0.toNextBoundary.checksLate (envx xCertRevoke 3 (tlv 0x0801 (leBytes 8 (rn 7)) ++ tlv 0x0801 (leBytes 8 (rn 8))))
  let s : State := bkx x 5 (envx xCertRevoke 3 (tlv 0x0801 (leBytes 8 (rn 7)) ++ tlv 0x0801 (leBytes 8 (rn 8))))
  ⟨s, b, e, l, c, by decide +kernel⟩

theorem witness_AcceptedSettingsApply_27 : ∃ (s : State),
    (∀ p ∈ s.bank.accepted.head?, p.2.cls ≠ xCertRevoke) :=
  let x : State := State.reset
  let s : State := bkx x 5 ((envx xCertRevoke 3 (tlv 0x0801 (leBytes 8 (rn 7)) ++ tlv 0x0801 (leBytes 8 (rn 8))) : Envelope)) |> fun (y : State) => {y with bank := {y.bank with accepted := []}}
  ⟨s, by decide +kernel⟩

theorem witness_AcceptedSettingsApply_28 : ∃ (s : State) (b : Nat) (e : Envelope) (l : List (Nat × Envelope)) (c : Nat),
    s.bank.accepted = (b, e) :: l ∧
    e.cls = xGroupSet ∧
    s.toNextBoundary.checksLate e = c ∧
    (s.plan.await = none ∨ s.plan.awaitFrame.isSome = true) ∧
    c ≠ exvAccepted :=
  let x : State := State.reset
  let b : Nat := 3
  let e : Envelope := envx xGroupSet 3 (tlv 0x0901 (leBytes 16 (rn 7)))
  let l : List (Nat × Envelope) := [(4, envx xGroupSet 3 (tlv 0x0901 (leBytes 16 (rn 7))))]
  let s0 : State := bkx x 5 (envx xGroupSet 3 (tlv 0x0901 (leBytes 16 (rn 7))))
  let c : Nat := s0.toNextBoundary.checksLate (envx xGroupSet 3 (tlv 0x0901 (leBytes 16 (rn 7))))
  let s : State := bkx x 5 (envx xGroupSet 3 (tlv 0x0901 (leBytes 16 (rn 7))))
  ⟨s, b, e, l, c, by decide +kernel⟩

theorem witness_AcceptedSettingsApply_29 : ∃ (s : State),
    (∀ p ∈ s.bank.accepted.head?, p.2.cls ≠ xGroupSet) :=
  let x : State := State.reset
  let s : State := bkx x 5 ((envx xGroupSet 3 (tlv 0x0901 (leBytes 16 (rn 7))) : Envelope)) |> fun (y : State) => {y with bank := {y.bank with accepted := []}}
  ⟨s, by decide +kernel⟩

theorem witness_AcceptedKeysImagesAndStatesApply_1 : ∃ (s : State) (b : Nat) (e : Envelope) (l : List (Nat × Envelope)),
    s.bank.accepted = (b, e) :: l ∧
    e.cls = xEnrol ∧
    s.toNextBoundary.checksLate e = exvAccepted ∧
    (s.plan.await = none ∨ s.plan.awaitFrame.isSome = true) :=
  let x : State := State.reset
  let b : Nat := 3
  let e : Envelope := envx xEnrol 2 (tlv 0x1001 ([5, 0, 0] ++ List.replicate 97 6))
  let l : List (Nat × Envelope) := [(4, envx xEnrol 2 (tlv 0x1001 ([5, 0, 0] ++ List.replicate 97 6)))]
  let s : State := bkx x 2 (envx xEnrol 2 (tlv 0x1001 ([5, 0, 0] ++ List.replicate 97 6)))
  ⟨s, b, e, l, by decide +kernel⟩

theorem witness_AcceptedKeysImagesAndStatesApply_2 : ∃ (s : State) (b : Nat) (e : Envelope) (l : List (Nat × Envelope)),
    s.bank.accepted = (b, e) :: l ∧
    e.cls = xRevoke ∧
    s.toNextBoundary.checksLate e = exvAccepted ∧
    (s.plan.await = none ∨ s.plan.awaitFrame.isSome = true) :=
  let x : State := State.reset
  let b : Nat := 3
  let e : Envelope := envx xRevoke 3 (tlv 0x1101 [30, 0, 0, 0])
  let l : List (Nat × Envelope) := [(4, envx xRevoke 3 (tlv 0x1101 [30, 0, 0, 0]))]
  let s : State := bkx x 3 (envx xRevoke 3 (tlv 0x1101 [30, 0, 0, 0]))
  ⟨s, b, e, l, by decide +kernel⟩

theorem witness_AcceptedKeysImagesAndStatesApply_3 : ∃ (s : State) (b : Nat) (e : Envelope) (l : List (Nat × Envelope)),
    s.bank.accepted = (b, e) :: l ∧
    e.cls = xGenerate ∧
    s.toNextBoundary.checksLate e = exvAccepted ∧
    (s.plan.await = none ∨ s.plan.awaitFrame.isSome = true) :=
  let x : State := State.reset
  let b : Nat := 3
  let e : Envelope := envx xGenerate 3 (tlv 0x1201 [30, 2, 3, 0])
  let l : List (Nat × Envelope) := [(4, envx xGenerate 3 (tlv 0x1201 [30, 2, 3, 0]))]
  let s : State := (let y := bkx x 3 (envx xGenerate 3 (tlv 0x1201 [30, 2, 3, 0])); {y with bank := {y.bank with slots := Vector.replicate 64 none}})
  ⟨s, b, e, l, by decide +kernel⟩

theorem witness_AcceptedKeysImagesAndStatesApply_4 : ∃ (s : State) (b : Nat) (e : Envelope) (l : List (Nat × Envelope)),
    s.bank.accepted = (b, e) :: l ∧
    e.cls = xImport ∧
    s.toNextBoundary.checksLate e = exvAccepted ∧
    (s.plan.await = none ∨ s.plan.awaitFrame.isSome = true) :=
  let x : State := State.reset
  let b : Nat := 3
  let e : Envelope := envx xImport 3 (tlv 0x1301 ([30, 2, 3, 0] ++ List.replicate 128 1))
  let l : List (Nat × Envelope) := [(4, envx xImport 3 (tlv 0x1301 ([30, 2, 3, 0] ++ List.replicate 128 1)))]
  let s : State := (let y := bkx x 3 (envx xImport 3 (tlv 0x1301 ([30, 2, 3, 0] ++ List.replicate 128 1))); {y with bank := {y.bank with slots := Vector.replicate 64 none}})
  ⟨s, b, e, l, by decide +kernel⟩

theorem witness_AcceptedKeysImagesAndStatesApply_5 : ∃ (s : State) (b : Nat) (e : Envelope) (l : List (Nat × Envelope)),
    s.bank.accepted = (b, e) :: l ∧
    e.cls = xSealAck ∧
    s.toNextBoundary.checksLate e = exvAccepted ∧
    (s.plan.await = none ∨ s.plan.awaitFrame.isSome = true) :=
  let x : State := State.reset
  let b : Nat := 3
  let e : Envelope := envx xSealAck 2 (tlv 0x2001 [0x34, 0x2])
  let l : List (Nat × Envelope) := [(4, envx xSealAck 2 (tlv 0x2001 [0x34, 0x2]))]
  let s : State := (let y := bkx x 2 (envx xSealAck 2 (tlv 0x2001 [0x34, 0x2])); {y with fm := {y.fm with straps := List.replicate 100 0x234}})
  ⟨s, b, e, l, by decide +kernel⟩

theorem witness_AcceptedKeysImagesAndStatesApply_6 : ∃ (s : State) (b : Nat) (e : Envelope) (l : List (Nat × Envelope)),
    s.bank.accepted = (b, e) :: l ∧
    e.cls = xTamperAck ∧
    s.toNextBoundary.checksLate e = exvAccepted ∧
    (s.plan.await = none ∨ s.plan.awaitFrame.isSome = true) :=
  let x : State := State.reset
  let b : Nat := 3
  let e : Envelope := envx xTamperAck 3 []
  let l : List (Nat × Envelope) := [(4, envx xTamperAck 3 [])]
  let s : State := (bkx x 3 (envx xTamperAck 3 [])).put BK_BKSTAT_RESTRICTED (rn 9 % 2)
  ⟨s, b, e, l, by decide +kernel⟩

theorem witness_AcceptedKeysImagesAndStatesApply_7 : ∃ (s : State) (b : Nat) (e : Envelope) (l : List (Nat × Envelope)),
    s.bank.accepted = (b, e) :: l ∧
    e.cls = xAditOpen ∧
    s.toNextBoundary.checksLate e = exvAccepted ∧
    (s.plan.await = none ∨ s.plan.awaitFrame.isSome = true) :=
  let x : State := State.reset
  let b : Nat := 3
  let e : Envelope := envx xAditOpen 2 (tlv 0x2201 [30, 0])
  let l : List (Nat × Envelope) := [(4, envx xAditOpen 2 (tlv 0x2201 [30, 0]))]
  let s : State := (stop8 (bkx x 2 (envx xAditOpen 2 (tlv 0x2201 [30, 0])))).put FM_FSTAT_SF1OPEN 1
  ⟨s, b, e, l, by decide +kernel⟩

theorem witness_AcceptedKeysImagesAndStatesApply_8 : ∃ (s : State) (b : Nat) (e : Envelope) (l : List (Nat × Envelope)),
    s.bank.accepted = (b, e) :: l ∧
    e.cls = xAditClose ∧
    s.toNextBoundary.checksLate e = exvAccepted ∧
    (s.plan.await = none ∨ s.plan.awaitFrame.isSome = true) :=
  let x : State := State.reset
  let b : Nat := 3
  let e : Envelope := envx xAditClose 3 []
  let l : List (Nat × Envelope) := [(4, envx xAditClose 3 [])]
  let s : State := (let y := bkx x 3 (envx xAditClose 3 []); {y with bank := {y.bank with adit := some ⟨10^9, [3]⟩}})
  ⟨s, b, e, l, by decide +kernel⟩

theorem witness_AcceptedKeysImagesAndStatesApply_9 : ∃ (s : State) (b : Nat) (e : Envelope) (l : List (Nat × Envelope)),
    s.bank.accepted = (b, e) :: l ∧
    e.cls = xImage ∧
    s.toNextBoundary.checksLate e = exvAccepted ∧
    (s.plan.await = none ∨ s.plan.awaitFrame.isSome = true) ∧
    1 ≤ descType (e.val 0x3001) ∧
    descType (e.val 0x3001) ≤ 6 :=
  let x : State := State.reset
  let b : Nat := 3
  let e : Envelope := envx xImage 2 (tlv 0x3001 ([2, 1, 0, 0] ++ List.replicate 68 1) ++ tlv 0x3002 [0, 0, 0, 0x10])
  let l : List (Nat × Envelope) := [(4, envx xImage 2 (tlv 0x3001 ([2, 1, 0, 0] ++ List.replicate 68 1) ++ tlv 0x3002 [0, 0, 0, 0x10]))]
  let s : State := (let y := bkx x 3 (envx xImage 2 (tlv 0x3001 ([2, 1, 0, 0] ++ List.replicate 68 1) ++ tlv 0x3002 [0, 0, 0, 0x10])); {y with bank := {y.bank with imageA := Vector.replicate 6 (some ⟨[2, 3] ++ List.replicate 10 0 ++ [0x21, 0x21, 0, 0], [], default, 4⟩), imageB := Vector.replicate 6 (some ⟨[2, 3] ++ List.replicate 10 0 ++ [0x21, 0x21, 0, 0], [], default, 4⟩), arb := Vector.replicate 6 1, activeB := Vector.ofFn (fun k => rn (k.val) % 2 == 0)}})
  ⟨s, b, e, l, by decide +kernel⟩

theorem witness_AcceptedKeysImagesAndStatesApply_10 : ∃ (s : State) (b : Nat) (e : Envelope) (l : List (Nat × Envelope)),
    s.bank.accepted = (b, e) :: l ∧
    e.cls = xActivate ∧
    s.toNextBoundary.checksLate e = exvAccepted ∧
    (s.plan.await = none ∨ s.plan.awaitFrame.isSome = true) :=
  let x : State := State.reset
  let b : Nat := 3
  let e : Envelope := envx xActivate 2 (tlv 0x3101 [2, 0, 0, 0])
  let l : List (Nat × Envelope) := [(4, envx xActivate 2 (tlv 0x3101 [2, 0, 0, 0]))]
  let s : State := (let y := bkx x 2 (envx xActivate 2 (tlv 0x3101 [2, 0, 0, 0])); {y with bank := {y.bank with imageA := Vector.replicate 6 (some ⟨[2, 3] ++ List.replicate 10 0 ++ [0x21, 0x21, 0, 0], [], default, 4⟩), imageB := Vector.replicate 6 (some ⟨[2, 3] ++ List.replicate 10 0 ++ [0x21, 0x21, 0, 0], [], default, 4⟩), stepLetter := 2, stepDigit := 1, arb := Vector.replicate 6 1}})
  ⟨s, b, e, l, by decide +kernel⟩

theorem witness_AcceptedKeysImagesAndStatesApply_11 : ∃ (s : State) (b : Nat) (e : Envelope) (l : List (Nat × Envelope)),
    s.bank.accepted = (b, e) :: l ∧
    e.cls = xLcAdvance ∧
    s.toNextBoundary.checksLate e = exvAccepted ∧
    (s.plan.await = none ∨ s.plan.awaitFrame.isSome = true) :=
  let x : State := State.reset
  let b : Nat := 3
  let e : Envelope := envx xLcAdvance 2 (tlv 0x4001 [5, 0, 0, 0])
  let l : List (Nat × Envelope) := [(4, envx xLcAdvance 2 (tlv 0x4001 [5, 0, 0, 0]))]
  let s : State := (stop8 (bkx x 2 (envx xLcAdvance 2 (tlv 0x4001 [5, 0, 0, 0])))).put FM_FSTAT_SF1OPEN 1
  ⟨s, b, e, l, by decide +kernel⟩

theorem witness_AcceptedKeysImagesAndStatesApply_12 : ∃ (s : State) (b : Nat) (e : Envelope) (l : List (Nat × Envelope)),
    s.bank.accepted = (b, e) :: l ∧
    e.cls = xExport ∧
    s.toNextBoundary.checksLate e = exvAccepted ∧
    (s.plan.await = none ∨ s.plan.awaitFrame.isSome = true) :=
  let x : State := State.reset
  let b : Nat := 3
  let e : Envelope := envx xExport 1 []
  let l : List (Nat × Envelope) := [(4, envx xExport 1 [])]
  let s : State := bkx x 4 (envx xExport 1 [])
  ⟨s, b, e, l, by decide +kernel⟩

theorem witness_AcceptedKeysImagesAndStatesApply_13 : ∃ (s : State) (r : ReplyU) (l : List ReplyU),
    s.bank.replies = r :: l ∧
    (s.counter 6 < s.mark 6 ∨ s.grantable clsFlash = true) ∧
    s.bank.resetAsked = false ∧
    s.routed 976 = true ∧
    r.buf < 8 ∧
    s.on EX_MBCTL_CLAIMED r.buf = true ∧
    s.on EX_MBSTAT_BUSY r.buf = false :=
  let x : State := State.reset
  let r : ReplyU := ⟨3, 1, [5], default, x.now + 8⟩
  let l : List ReplyU := []
  let s : State := {x with bank := {x.bank with replies := [⟨3, 1, [5], default, x.now + 8⟩], resetAsked := false}}.put EX_MBCTL_CLAIMED 1 3 |>.put EX_MBSTAT_BUSY 0 3 |>.put IC_SRCCFG_TARGET (rn 15 % 17) (976)
  ⟨s, r, l, by decide +kernel⟩

theorem witness_AcceptedKeysImagesAndStatesApply_14 : ∃ (s : State) (b : Nat) (e : Envelope) (l : List (Nat × Envelope)) (c : Nat),
    s.bank.accepted = (b, e) :: l ∧
    e.cls = xEnrol ∧
    s.toNextBoundary.checksLate e = c ∧
    (s.plan.await = none ∨ s.plan.awaitFrame.isSome = true) ∧
    c ≠ exvAccepted :=
  let x : State := State.reset
  let b : Nat := 3
  let e : Envelope := envx xEnrol 2 (tlv 0x1001 ([5, 0, 0] ++ List.replicate 97 6))
  let l : List (Nat × Envelope) := [(4, envx xEnrol 2 (tlv 0x1001 ([5, 0, 0] ++ List.replicate 97 6)))]
  let s0 : State := bkx x 5 (envx xEnrol 2 (tlv 0x1001 ([5, 0, 0] ++ List.replicate 97 6)))
  let c : Nat := s0.toNextBoundary.checksLate (envx xEnrol 2 (tlv 0x1001 ([5, 0, 0] ++ List.replicate 97 6)))
  let s : State := bkx x 5 (envx xEnrol 2 (tlv 0x1001 ([5, 0, 0] ++ List.replicate 97 6)))
  ⟨s, b, e, l, c, by decide +kernel⟩

theorem witness_AcceptedKeysImagesAndStatesApply_15 : ∃ (s : State),
    (∀ p ∈ s.bank.accepted.head?, p.2.cls ≠ xEnrol) :=
  let x : State := State.reset
  let s : State := bkx x 5 ((envx xEnrol 2 (tlv 0x1001 ([5, 0, 0] ++ List.replicate 97 6)) : Envelope)) |> fun (y : State) => {y with bank := {y.bank with accepted := []}}
  ⟨s, by decide +kernel⟩

theorem witness_AcceptedKeysImagesAndStatesApply_16 : ∃ (s : State) (b : Nat) (e : Envelope) (l : List (Nat × Envelope)) (c : Nat),
    s.bank.accepted = (b, e) :: l ∧
    e.cls = xRevoke ∧
    s.toNextBoundary.checksLate e = c ∧
    (s.plan.await = none ∨ s.plan.awaitFrame.isSome = true) ∧
    c ≠ exvAccepted :=
  let x : State := State.reset
  let b : Nat := 3
  let e : Envelope := envx xRevoke 3 (tlv 0x1101 [30, 0, 0, 0])
  let l : List (Nat × Envelope) := [(4, envx xRevoke 3 (tlv 0x1101 [30, 0, 0, 0]))]
  let s0 : State := bkx x 5 (envx xRevoke 3 (tlv 0x1101 [30, 0, 0, 0]))
  let c : Nat := s0.toNextBoundary.checksLate (envx xRevoke 3 (tlv 0x1101 [30, 0, 0, 0]))
  let s : State := bkx x 5 (envx xRevoke 3 (tlv 0x1101 [30, 0, 0, 0]))
  ⟨s, b, e, l, c, by decide +kernel⟩

theorem witness_AcceptedKeysImagesAndStatesApply_17 : ∃ (s : State),
    (∀ p ∈ s.bank.accepted.head?, p.2.cls ≠ xRevoke) :=
  let x : State := State.reset
  let s : State := bkx x 5 ((envx xRevoke 3 (tlv 0x1101 [30, 0, 0, 0]) : Envelope)) |> fun (y : State) => {y with bank := {y.bank with accepted := []}}
  ⟨s, by decide +kernel⟩

theorem witness_AcceptedKeysImagesAndStatesApply_18 : ∃ (s : State) (b : Nat) (e : Envelope) (l : List (Nat × Envelope)) (c : Nat),
    s.bank.accepted = (b, e) :: l ∧
    e.cls = xGenerate ∧
    s.toNextBoundary.checksLate e = c ∧
    (s.plan.await = none ∨ s.plan.awaitFrame.isSome = true) ∧
    c ≠ exvAccepted :=
  let x : State := State.reset
  let b : Nat := 3
  let e : Envelope := envx xGenerate 3 (tlv 0x1201 [30, 2, 3, 0])
  let l : List (Nat × Envelope) := [(4, envx xGenerate 3 (tlv 0x1201 [30, 2, 3, 0]))]
  let s0 : State := bkx x 5 (envx xGenerate 3 (tlv 0x1201 [30, 2, 3, 0]))
  let c : Nat := s0.toNextBoundary.checksLate (envx xGenerate 3 (tlv 0x1201 [30, 2, 3, 0]))
  let s : State := bkx x 5 (envx xGenerate 3 (tlv 0x1201 [30, 2, 3, 0]))
  ⟨s, b, e, l, c, by decide +kernel⟩

theorem witness_AcceptedKeysImagesAndStatesApply_19 : ∃ (s : State),
    (∀ p ∈ s.bank.accepted.head?, p.2.cls ≠ xGenerate) :=
  let x : State := State.reset
  let s : State := bkx x 5 ((envx xGenerate 3 (tlv 0x1201 [30, 2, 3, 0]) : Envelope)) |> fun (y : State) => {y with bank := {y.bank with accepted := []}}
  ⟨s, by decide +kernel⟩

theorem witness_AcceptedKeysImagesAndStatesApply_20 : ∃ (s : State) (b : Nat) (e : Envelope) (l : List (Nat × Envelope)) (c : Nat),
    s.bank.accepted = (b, e) :: l ∧
    e.cls = xImport ∧
    s.toNextBoundary.checksLate e = c ∧
    (s.plan.await = none ∨ s.plan.awaitFrame.isSome = true) ∧
    c ≠ exvAccepted :=
  let x : State := State.reset
  let b : Nat := 3
  let e : Envelope := envx xImport 3 (tlv 0x1301 ([30, 2, 3, 0] ++ List.replicate 128 1))
  let l : List (Nat × Envelope) := [(4, envx xImport 3 (tlv 0x1301 ([30, 2, 3, 0] ++ List.replicate 128 1)))]
  let s0 : State := bkx x 5 (envx xImport 3 (tlv 0x1301 ([30, 2, 3, 0] ++ List.replicate 128 1)))
  let c : Nat := s0.toNextBoundary.checksLate (envx xImport 3 (tlv 0x1301 ([30, 2, 3, 0] ++ List.replicate 128 1)))
  let s : State := bkx x 5 (envx xImport 3 (tlv 0x1301 ([30, 2, 3, 0] ++ List.replicate 128 1)))
  ⟨s, b, e, l, c, by decide +kernel⟩

theorem witness_AcceptedKeysImagesAndStatesApply_21 : ∃ (s : State),
    (∀ p ∈ s.bank.accepted.head?, p.2.cls ≠ xImport) :=
  let x : State := State.reset
  let s : State := bkx x 5 ((envx xImport 3 (tlv 0x1301 ([30, 2, 3, 0] ++ List.replicate 128 1)) : Envelope)) |> fun (y : State) => {y with bank := {y.bank with accepted := []}}
  ⟨s, by decide +kernel⟩

theorem witness_AcceptedKeysImagesAndStatesApply_22 : ∃ (s : State) (b : Nat) (e : Envelope) (l : List (Nat × Envelope)) (c : Nat),
    s.bank.accepted = (b, e) :: l ∧
    e.cls = xSealAck ∧
    s.toNextBoundary.checksLate e = c ∧
    (s.plan.await = none ∨ s.plan.awaitFrame.isSome = true) ∧
    c ≠ exvAccepted :=
  let x : State := State.reset
  let b : Nat := 3
  let e : Envelope := envx xSealAck 2 (tlv 0x2001 [0x34, 0x2])
  let l : List (Nat × Envelope) := [(4, envx xSealAck 2 (tlv 0x2001 [0x34, 0x2]))]
  let s0 : State := bkx x 5 (envx xSealAck 2 (tlv 0x2001 [0x34, 0x2]))
  let c : Nat := s0.toNextBoundary.checksLate (envx xSealAck 2 (tlv 0x2001 [0x34, 0x2]))
  let s : State := bkx x 5 (envx xSealAck 2 (tlv 0x2001 [0x34, 0x2]))
  ⟨s, b, e, l, c, by decide +kernel⟩

theorem witness_AcceptedKeysImagesAndStatesApply_23 : ∃ (s : State),
    (∀ p ∈ s.bank.accepted.head?, p.2.cls ≠ xSealAck) :=
  let x : State := State.reset
  let s : State := bkx x 5 ((envx xSealAck 2 (tlv 0x2001 [0x34, 0x2]) : Envelope)) |> fun (y : State) => {y with bank := {y.bank with accepted := []}}
  ⟨s, by decide +kernel⟩

theorem witness_AcceptedKeysImagesAndStatesApply_24 : ∃ (s : State) (b : Nat) (e : Envelope) (l : List (Nat × Envelope)) (c : Nat),
    s.bank.accepted = (b, e) :: l ∧
    e.cls = xTamperAck ∧
    s.toNextBoundary.checksLate e = c ∧
    (s.plan.await = none ∨ s.plan.awaitFrame.isSome = true) ∧
    c ≠ exvAccepted :=
  let x : State := State.reset
  let b : Nat := 3
  let e : Envelope := envx xTamperAck 3 []
  let l : List (Nat × Envelope) := [(4, envx xTamperAck 3 [])]
  let s0 : State := bkx x 5 (envx xTamperAck 3 [])
  let c : Nat := s0.toNextBoundary.checksLate (envx xTamperAck 3 [])
  let s : State := bkx x 5 (envx xTamperAck 3 [])
  ⟨s, b, e, l, c, by decide +kernel⟩

theorem witness_AcceptedKeysImagesAndStatesApply_25 : ∃ (s : State),
    (∀ p ∈ s.bank.accepted.head?, p.2.cls ≠ xTamperAck) :=
  let x : State := State.reset
  let s : State := bkx x 5 ((envx xTamperAck 3 [] : Envelope)) |> fun (y : State) => {y with bank := {y.bank with accepted := []}}
  ⟨s, by decide +kernel⟩

theorem witness_AcceptedKeysImagesAndStatesApply_26 : ∃ (s : State) (b : Nat) (e : Envelope) (l : List (Nat × Envelope)) (c : Nat),
    s.bank.accepted = (b, e) :: l ∧
    e.cls = xAditOpen ∧
    s.toNextBoundary.checksLate e = c ∧
    (s.plan.await = none ∨ s.plan.awaitFrame.isSome = true) ∧
    c ≠ exvAccepted :=
  let x : State := State.reset
  let b : Nat := 3
  let e : Envelope := envx xAditOpen 2 (tlv 0x2201 [30, 0])
  let l : List (Nat × Envelope) := [(4, envx xAditOpen 2 (tlv 0x2201 [30, 0]))]
  let s0 : State := bkx x 5 (envx xAditOpen 2 (tlv 0x2201 [30, 0]))
  let c : Nat := s0.toNextBoundary.checksLate (envx xAditOpen 2 (tlv 0x2201 [30, 0]))
  let s : State := bkx x 5 (envx xAditOpen 2 (tlv 0x2201 [30, 0]))
  ⟨s, b, e, l, c, by decide +kernel⟩

theorem witness_AcceptedKeysImagesAndStatesApply_27 : ∃ (s : State),
    (∀ p ∈ s.bank.accepted.head?, p.2.cls ≠ xAditOpen) :=
  let x : State := State.reset
  let s : State := bkx x 5 ((envx xAditOpen 2 (tlv 0x2201 [30, 0]) : Envelope)) |> fun (y : State) => {y with bank := {y.bank with accepted := []}}
  ⟨s, by decide +kernel⟩

theorem witness_AcceptedKeysImagesAndStatesApply_28 : ∃ (s : State) (b : Nat) (e : Envelope) (l : List (Nat × Envelope)) (c : Nat),
    s.bank.accepted = (b, e) :: l ∧
    e.cls = xAditClose ∧
    s.toNextBoundary.checksLate e = c ∧
    (s.plan.await = none ∨ s.plan.awaitFrame.isSome = true) ∧
    c ≠ exvAccepted :=
  let x : State := State.reset
  let b : Nat := 3
  let e : Envelope := envx xAditClose 3 []
  let l : List (Nat × Envelope) := [(4, envx xAditClose 3 [])]
  let s0 : State := bkx x 5 (envx xAditClose 3 [])
  let c : Nat := s0.toNextBoundary.checksLate (envx xAditClose 3 [])
  let s : State := bkx x 5 (envx xAditClose 3 [])
  ⟨s, b, e, l, c, by decide +kernel⟩

theorem witness_AcceptedKeysImagesAndStatesApply_29 : ∃ (s : State),
    (∀ p ∈ s.bank.accepted.head?, p.2.cls ≠ xAditClose) :=
  let x : State := State.reset
  let s : State := bkx x 5 ((envx xAditClose 3 [] : Envelope)) |> fun (y : State) => {y with bank := {y.bank with accepted := []}}
  ⟨s, by decide +kernel⟩

theorem witness_AcceptedKeysImagesAndStatesApply_30 : ∃ (s : State) (b : Nat) (e : Envelope) (l : List (Nat × Envelope)) (c : Nat),
    s.bank.accepted = (b, e) :: l ∧
    e.cls = xImage ∧
    s.toNextBoundary.checksLate e = c ∧
    (s.plan.await = none ∨ s.plan.awaitFrame.isSome = true) ∧
    c ≠ exvAccepted :=
  let x : State := State.reset
  let b : Nat := 3
  let e : Envelope := envx xImage 2 (tlv 0x3001 ([2, 1, 0, 0] ++ List.replicate 68 1) ++ tlv 0x3002 [0, 0, 0, 0x10])
  let l : List (Nat × Envelope) := [(4, envx xImage 2 (tlv 0x3001 ([2, 1, 0, 0] ++ List.replicate 68 1) ++ tlv 0x3002 [0, 0, 0, 0x10]))]
  let s0 : State := bkx x 5 (envx xImage 2 (tlv 0x3001 ([2, 1, 0, 0] ++ List.replicate 68 1) ++ tlv 0x3002 [0, 0, 0, 0x10]))
  let c : Nat := s0.toNextBoundary.checksLate (envx xImage 2 (tlv 0x3001 ([2, 1, 0, 0] ++ List.replicate 68 1) ++ tlv 0x3002 [0, 0, 0, 0x10]))
  let s : State := bkx x 5 (envx xImage 2 (tlv 0x3001 ([2, 1, 0, 0] ++ List.replicate 68 1) ++ tlv 0x3002 [0, 0, 0, 0x10]))
  ⟨s, b, e, l, c, by decide +kernel⟩

theorem witness_AcceptedKeysImagesAndStatesApply_31 : ∃ (s : State),
    (∀ p ∈ s.bank.accepted.head?, p.2.cls ≠ xImage) :=
  let x : State := State.reset
  let s : State := bkx x 5 ((envx xImage 2 (tlv 0x3001 ([2, 1, 0, 0] ++ List.replicate 68 1) ++ tlv 0x3002 [0, 0, 0, 0x10]) : Envelope)) |> fun (y : State) => {y with bank := {y.bank with accepted := []}}
  ⟨s, by decide +kernel⟩

theorem witness_AcceptedKeysImagesAndStatesApply_32 : ∃ (s : State) (b : Nat) (e : Envelope) (l : List (Nat × Envelope)) (c : Nat),
    s.bank.accepted = (b, e) :: l ∧
    e.cls = xActivate ∧
    s.toNextBoundary.checksLate e = c ∧
    (s.plan.await = none ∨ s.plan.awaitFrame.isSome = true) ∧
    c ≠ exvAccepted :=
  let x : State := State.reset
  let b : Nat := 3
  let e : Envelope := envx xActivate 2 (tlv 0x3101 [2, 0, 0, 0])
  let l : List (Nat × Envelope) := [(4, envx xActivate 2 (tlv 0x3101 [2, 0, 0, 0]))]
  let s0 : State := bkx x 5 (envx xActivate 2 (tlv 0x3101 [2, 0, 0, 0]))
  let c : Nat := s0.toNextBoundary.checksLate (envx xActivate 2 (tlv 0x3101 [2, 0, 0, 0]))
  let s : State := bkx x 5 (envx xActivate 2 (tlv 0x3101 [2, 0, 0, 0]))
  ⟨s, b, e, l, c, by decide +kernel⟩

theorem witness_AcceptedKeysImagesAndStatesApply_33 : ∃ (s : State),
    (∀ p ∈ s.bank.accepted.head?, p.2.cls ≠ xActivate) :=
  let x : State := State.reset
  let s : State := bkx x 5 ((envx xActivate 2 (tlv 0x3101 [2, 0, 0, 0]) : Envelope)) |> fun (y : State) => {y with bank := {y.bank with accepted := []}}
  ⟨s, by decide +kernel⟩

theorem witness_AcceptedKeysImagesAndStatesApply_34 : ∃ (s : State) (b : Nat) (e : Envelope) (l : List (Nat × Envelope)) (c : Nat),
    s.bank.accepted = (b, e) :: l ∧
    e.cls = xLcAdvance ∧
    s.toNextBoundary.checksLate e = c ∧
    (s.plan.await = none ∨ s.plan.awaitFrame.isSome = true) ∧
    c ≠ exvAccepted :=
  let x : State := State.reset
  let b : Nat := 3
  let e : Envelope := envx xLcAdvance 2 (tlv 0x4001 [5, 0, 0, 0])
  let l : List (Nat × Envelope) := [(4, envx xLcAdvance 2 (tlv 0x4001 [5, 0, 0, 0]))]
  let s0 : State := bkx x 5 (envx xLcAdvance 2 (tlv 0x4001 [5, 0, 0, 0]))
  let c : Nat := s0.toNextBoundary.checksLate (envx xLcAdvance 2 (tlv 0x4001 [5, 0, 0, 0]))
  let s : State := bkx x 5 (envx xLcAdvance 2 (tlv 0x4001 [5, 0, 0, 0]))
  ⟨s, b, e, l, c, by decide +kernel⟩

theorem witness_AcceptedKeysImagesAndStatesApply_35 : ∃ (s : State),
    (∀ p ∈ s.bank.accepted.head?, p.2.cls ≠ xLcAdvance) :=
  let x : State := State.reset
  let s : State := bkx x 5 ((envx xLcAdvance 2 (tlv 0x4001 [5, 0, 0, 0]) : Envelope)) |> fun (y : State) => {y with bank := {y.bank with accepted := []}}
  ⟨s, by decide +kernel⟩

theorem witness_AcceptedKeysImagesAndStatesApply_36 : ∃ (s : State) (b : Nat) (e : Envelope) (l : List (Nat × Envelope)) (c : Nat),
    s.bank.accepted = (b, e) :: l ∧
    e.cls = xExport ∧
    s.toNextBoundary.checksLate e = c ∧
    (s.plan.await = none ∨ s.plan.awaitFrame.isSome = true) ∧
    c ≠ exvAccepted :=
  let x : State := State.reset
  let b : Nat := 3
  let e : Envelope := envx xExport 1 []
  let l : List (Nat × Envelope) := [(4, envx xExport 1 [])]
  let s0 : State := bkx x 3 (envx xExport 1 [])
  let c : Nat := s0.toNextBoundary.checksLate (envx xExport 1 [])
  let s : State := bkx x 3 (envx xExport 1 [])
  ⟨s, b, e, l, c, by decide +kernel⟩

theorem witness_AcceptedKeysImagesAndStatesApply_37 : ∃ (s : State),
    (∀ p ∈ s.bank.accepted.head?, p.2.cls ≠ xExport) :=
  let x : State := State.reset
  let s : State := bkx x 5 ((envx xExport 1 [] : Envelope)) |> fun (y : State) => {y with bank := {y.bank with accepted := []}}
  ⟨s, by decide +kernel⟩

theorem witness_AcceptedKeysImagesAndStatesApply_38 : ∃ (s : State) (c : Bool) (w : ImageWrite),
    s.bank.writing = some w ∧
    (s.counter 6 < s.mark 6 ∨ s.grantable clsFlash = true) ∧
    s.bank.resetAsked = false ∧
    1 ≤ w.typ ∧
    w.typ ≤ 6 ∧
    s.routed 979 = true :=
  let x : State := State.reset
  let c : Bool := rn 7 % 2 == 0
  let w : ImageWrite := ⟨4, rn 6 % 2 == 0, some default, ⟨3, 1, [], default, x.now + 8⟩⟩
  let s : State := {x with bank := {x.bank with writing := some ⟨4, rn 6 % 2 == 0, some default, ⟨3, 1, [], default, x.now + 8⟩⟩, resetAsked := false}} |>.put IC_SRCCFG_TARGET (rn 15 % 17) (979)
  ⟨s, c, w, by decide +kernel⟩

theorem witness_AcceptedKeysImagesAndStatesApply_39 : ∃ (s : State) (r : ReplyU),
    s.bank.replies = [r] ∧
    (s.counter 6 < s.mark 6 ∨ s.grantable clsFlash = true) ∧
    s.bank.resetAsked = true ∧
    s.bank.writing = none :=
  let x : State := State.reset
  let r : ReplyU := ⟨3, 1, [5], default, x.now + 8⟩
  let s : State := {x with bank := {x.bank with replies := [⟨3, 1, [5], default, x.now + 8⟩], resetAsked := true, writing := none}}
  ⟨s, r, by decide +kernel⟩

theorem witness_AcceptedKeysImagesAndStatesApply_40 : ∃ (s : State),
    s.bank.replies = [] :=
  let x : State := State.reset
  let s : State := {x with bank := {x.bank with replies := []}}
  ⟨s, by decide +kernel⟩

theorem witness_AcceptedKeysImagesAndStatesApply_41 : ∃ (s : State) (c : Bool),
    s.bank.writing = none :=
  let x : State := State.reset
  let c : Bool := rn 7 % 2 == 0
  let s : State := {x with bank := {x.bank with writing := none}}
  ⟨s, c, by decide +kernel⟩

theorem witness_WinderClocksStartAndRamp_1 : ∃ (s : State) (m : Master) (n : Fin 4) (v : Word),
    s.busOpen m = true ∧
    s.get WI_SCTL_EN n.val = 0 ∧
    WI_SCTL_EN.of v = 1 ∧
    (n.val = synSys ∨ n.val = synSerdes ∨ s.allStopped = true) :=
  let x : State := State.reset
  let m : Master := .pair ⟨rn 110 % 16, by omega⟩
  let n : Fin 4 := ⟨rn 4 % 4, by omega⟩
  let v : Word := WI_SCTL_EN.into (BitVec.ofNat 32 (rn 5)) 1
  let s : State := (stop8 x).put WI_SCTL_EN 0 n.val
  ⟨s, m, n, v, by decide +kernel⟩

theorem witness_WinderClocksStartAndRamp_2 : ∃ (s : State) (m : Master) (n : Fin 4) (v : Word),
    s.busOpen m = true ∧
    s.get WI_SCTL_EN n.val = 1 ∧
    WI_SCTL_EN.of v = 0 ∧
    n.val ≠ synSys ∧
    (n.val = synSerdes ∨ s.allStopped = true) :=
  let x : State := State.reset
  let m : Master := .pair ⟨rn 110 % 16, by omega⟩
  let n : Fin 4 := ⟨1 + rn 4 % 3, by omega⟩
  let v : Word := WI_SCTL_EN.into (BitVec.ofNat 32 (rn 5)) 0
  let s : State := (stop8 x).put WI_SCTL_EN 1 n.val
  ⟨s, m, n, v, by decide +kernel⟩

theorem witness_WinderClocksStartAndRamp_3 : ∃ (s : State) (m : Master) (n : Fin 4) (v : Word),
    s.busOpen m = true ∧
    WI_SCTL_EN.of v ≠ s.get WI_SCTL_EN n.val ∧
    ((n.val = synSys ∧ WI_SCTL_EN.of v = 0) ∨ ((n.val = synPwm ∨ n.val = synConv) ∧ s.allStopped = false)) :=
  let x : State := State.reset
  let m : Master := .pair ⟨rn 110 % 16, by omega⟩
  let n : Fin 4 := ⟨rn 4 % 3, by omega⟩
  let v : Word := WI_SCTL_EN.into (BitVec.ofNat 32 (rn 5)) (if n.val = 0 then 0 else 1 - rn 6 % 2)
  let s : State := (x.put BLK_BLKCTL_STATE 2 5).put WI_SCTL_EN (if n.val = 0 then 1 else rn 6 % 2) n.val
  ⟨s, m, n, v, by decide +kernel⟩

theorem witness_WinderClocksStartAndRamp_4 : ∃ (s : State) (m : Master) (n : Fin 4) (v : Word),
    s.busOpen m = true ∧
    WI_SCTL_EN.of v = s.get WI_SCTL_EN n.val :=
  let x : State := State.reset
  let m : Master := .pair ⟨rn 110 % 16, by omega⟩
  let n : Fin 4 := ⟨rn 4 % 4, by omega⟩
  let v : Word := WI_SCTL_EN.into (BitVec.ofNat 32 (rn 5)) (rn 6 % 2)
  let s : State := x.put WI_SCTL_EN (rn 6 % 2) n.val
  ⟨s, m, n, v, by decide +kernel⟩

theorem witness_WinderClocksStartAndRamp_5 : ∃ (s : State) (n : Fin 4) (d : Nat),
    s.deadline (.synthLock n.val) = some d :=
  let x : State := State.reset
  let n : Fin 4 := ⟨rn 4 % 4, by omega⟩
  let d : Nat := x.now + 70
  let s : State := {x with supply := {x.supply with step := 2}}.arm (.synthLock n.val) 70 |>.put IC_SRCCFG_TARGET (rn 15 % 17) (1014)
  ⟨s, n, d, by decide +kernel⟩

theorem witness_WinderClocksStartAndRamp_6 : ∃ (s : State) (n : Fin 4),
    s.deadline (.synthLock n.val) = none :=
  let x : State := State.reset
  let n : Fin 4 := ⟨rn 4 % 4, by omega⟩
  let s : State := {x with timers := []}
  ⟨s, n, by decide +kernel⟩

theorem witness_WinderClocksStartAndRamp_7 : ∃ (s : State) (w : FmonMean) (d : Nat) (e : Nat),
    s.deadline (.fmon w.synth.val) = some d ∧
    (e = if w.synth.val = synSys then 1000000 - (if s.get WI_SSCFG_MODE synSys = 1 then 500 * s.get WI_SSCFG_SSAMT synSys else 0) else if w.synth.val = synPwm then ((s.advanceTo d).pwmPhase - s.winder.fmonFrom) / (16 * 100 * us) else 1000000) ∧
    e < 50 * (max w.mean e - min w.mean e) ∧
    s.routed (1008 + w.synth.val) = true :=
  let x : State := State.reset
  let w : FmonMean := ⟨⟨rn 4 % 4, by omega⟩, 2000000⟩
  let d : Nat := x.now + 70
  let s0 : State := let s0 : State := x.put WI_SSTAT_LOCKED 1 (rn 4 % 4) |>.put WI_SSCFG_MODE (rn 6 % 2) synSys |>.arm (.fmon (rn 4 % 4)) 70 |>.put IC_SRCCFG_TARGET (rn 15 % 17) (1008 + rn 4 % 4); s0
  let e : Nat := if (rn 4 % 4) = synSys then 1000000 - (if s0.get WI_SSCFG_MODE synSys = 1 then 500 * s0.get WI_SSCFG_SSAMT synSys else 0) else if (rn 4 % 4) = synPwm then ((s0.advanceTo (x.now + 70)).pwmPhase - s0.winder.fmonFrom) / (16 * 100 * us) else 1000000
  let s : State := let s0 : State := x.put WI_SSTAT_LOCKED 1 (rn 4 % 4) |>.put WI_SSCFG_MODE (rn 6 % 2) synSys |>.arm (.fmon (rn 4 % 4)) 70 |>.put IC_SRCCFG_TARGET (rn 15 % 17) (1008 + rn 4 % 4); s0
  ⟨s, w, d, e, by decide +kernel⟩

theorem witness_WinderClocksStartAndRamp_8 : ∃ (s : State) (w : FmonMean) (d : Nat) (e : Nat),
    s.deadline (.fmon w.synth.val) = some d ∧
    (e = if w.synth.val = synSys then 1000000 - (if s.get WI_SSCFG_MODE synSys = 1 then 500 * s.get WI_SSCFG_SSAMT synSys else 0) else if w.synth.val = synPwm then ((s.advanceTo d).pwmPhase - s.winder.fmonFrom) / (16 * 100 * us) else 1000000) ∧
    50 * (max w.mean e - min w.mean e) ≤ e :=
  let x : State := State.reset
  let s0 : State := let s0 : State := x.put WI_SSTAT_LOCKED 1 (rn 4 % 4) |>.put WI_SSCFG_MODE (rn 6 % 2) synSys |>.arm (.fmon (rn 4 % 4)) 70; s0
  let w : FmonMean := ⟨⟨rn 4 % 4, by omega⟩, if (rn 4 % 4) = synSys then 1000000 - (if s0.get WI_SSCFG_MODE synSys = 1 then 500 * s0.get WI_SSCFG_SSAMT synSys else 0) else if (rn 4 % 4) = synPwm then ((s0.advanceTo (x.now + 70)).pwmPhase - s0.winder.fmonFrom) / (16 * 100 * us) else 1000000⟩
  let d : Nat := x.now + 70
  let e : Nat := if (rn 4 % 4) = synSys then 1000000 - (if s0.get WI_SSCFG_MODE synSys = 1 then 500 * s0.get WI_SSCFG_SSAMT synSys else 0) else if (rn 4 % 4) = synPwm then ((s0.advanceTo (x.now + 70)).pwmPhase - s0.winder.fmonFrom) / (16 * 100 * us) else 1000000
  let s : State := let s0 : State := x.put WI_SSTAT_LOCKED 1 (rn 4 % 4) |>.put WI_SSCFG_MODE (rn 6 % 2) synSys |>.arm (.fmon (rn 4 % 4)) 70; s0
  ⟨s, w, d, e, by decide +kernel⟩

theorem witness_WinderClocksStartAndRamp_9 : ∃ (s : State) (w : FmonMean),
    s.deadline (.fmon w.synth.val) = none :=
  let x : State := State.reset
  let w : FmonMean := ⟨⟨rn 4 % 4, by omega⟩, 1000000 + rn 5 % 60000 - 30000⟩
  let s : State := {x with timers := []}
  ⟨s, w, by decide +kernel⟩

theorem witness_WinderClocksStartAndRamp_10 : ∃ (s : State),
    s.get WI_WCTL_SRC = 1 ∧
    s.routed 1012 = true :=
  let x : State := State.reset
  let s : State := x.put WI_WCTL_SRC 1 |>.put IC_SRCCFG_TARGET (rn 15 % 17) (1012)
  ⟨s, by decide +kernel⟩

theorem witness_WinderClocksStartAndRamp_11 : ∃ (s : State),
    s.get WI_WCTL_SRC = 0 :=
  let x : State := State.reset
  let s : State := x.put WI_WCTL_SRC 0
  ⟨s, by decide +kernel⟩

theorem witness_WinderClocksStartAndRamp_12 : ∃ (s : State) (m : Master) (v : Word),
    s.busOpen m = true ∧
    WI_WCTL_SRC.of v ≠ s.get WI_WCTL_SRC :=
  let x : State := State.reset
  let m : Master := .pair ⟨rn 110 % 16, by omega⟩
  let v : Word := WI_WCTL_SRC.into (BitVec.ofNat 32 (rn 5)) 1
  let s : State := x.put WI_WCTL_SRC 0 |>.put PR_PWRSTAT_STATE (rn 6 % 2)
  ⟨s, m, v, by decide +kernel⟩

theorem witness_WinderClocksStartAndRamp_13 : ∃ (s : State) (m : Master) (v : Word),
    s.busOpen m = true ∧
    WI_WCTL_SRC.of v = s.get WI_WCTL_SRC :=
  let x : State := State.reset
  let m : Master := .pair ⟨rn 110 % 16, by omega⟩
  let v : Word := WI_WCTL_SRC.into (BitVec.ofNat 32 (rn 5)) 0
  let s : State := x.put WI_WCTL_SRC 0
  ⟨s, m, v, by decide +kernel⟩

theorem witness_WinderClocksStartAndRamp_14 : ∃ (s : State) (m : Master) (n : Fin 4) (v : Word),
    s.busOpen m = true ∧
    s.spreadRefused n.val v = false :=
  let x : State := State.reset
  let m : Master := .pair ⟨rn 110 % 16, by omega⟩
  let n : Fin 4 := ⟨rn 4 % 4, by omega⟩
  let v : Word := WI_SSCFG_SSAMT.into (WI_SSCFG_SSRATE.into (WI_SSCFG_MODE.into 0 (if n.val = 1 then 1 else 0)) 310) 5
  let s : State := x.put WI_RSTAT_STATE 0
  ⟨s, m, n, v, by decide +kernel⟩

theorem witness_WinderClocksStartAndRamp_15 : ∃ (s : State) (m : Master) (n : Fin 4) (v : Word),
    s.busOpen m = true ∧
    s.spreadRefused n.val v = true ∧
    v &&& BitVec.ofNat 32 RegId.WI_SSCFG.reg.rw ≠ s.rdw .WI_SSCFG n.val :=
  let x : State := State.reset
  let m : Master := .pair ⟨rn 110 % 16, by omega⟩
  let n : Fin 4 := ⟨rn 4 % 4, by omega⟩
  let v : Word := WI_SSCFG_MODE.into (BitVec.ofNat 32 (rn 5)) 3
  let s : State := x.put WI_SSCFG_MODE 0 n.val
  ⟨s, m, n, v, by decide +kernel⟩

theorem witness_WinderClocksStartAndRamp_16 : ∃ (s : State) (m : Master) (v : Word),
    s.busOpen m = true ∧
    WI_RCTL_STOP.of v = 0 ∧
    (s.regWrite .WI_RCTL (WI_RCTL_GO.into v 1)).winderGoRefused = false :=
  let x : State := State.reset
  let m : Master := .pair ⟨rn 110 % 16, by omega⟩
  let v : Word := WI_RCTL_STOP.into (WI_RCTL_STARTSRC.into (BitVec.ofNat 32 (rn 5)) (rn 6 % 2)) 0
  let s : State := (x.put WI_RSTAT_STATE 0).put WI_SSCFG_MODE 0 synPwm |>.put UH_USTAT_MASTER (rn 7 % 2) |> fun y => (List.range 16).foldl (fun y k => (y.put WI_RSEG_RFEND (240000 + rn k % 9000) k).put WI_RSEG_RDUR (200 + rn 9 % 50) k) y
  ⟨s, m, v, by decide +kernel⟩

theorem witness_WinderClocksStartAndRamp_17 : ∃ (s : State) (m : Master) (v : Word),
    s.busOpen m = true ∧
    WI_RCTL_STOP.of v = 0 ∧
    (s.regWrite .WI_RCTL (WI_RCTL_GO.into v 1)).winderGoRefused = true :=
  let x : State := State.reset
  let m : Master := .pair ⟨rn 110 % 16, by omega⟩
  let v : Word := WI_RCTL_STOP.into (BitVec.ofNat 32 (rn 5)) 0
  let s : State := x.put WI_RSTAT_STATE 2
  ⟨s, m, v, by decide +kernel⟩

theorem witness_WinderClocksStartAndRamp_18 : ∃ (s : State) (m : Master) (v : Word),
    s.busOpen m = true ∧
    WI_RCTL_GO.of v = 0 :=
  let x : State := State.reset
  let m : Master := .pair ⟨rn 110 % 16, by omega⟩
  let v : Word := WI_RCTL_GO.into (BitVec.ofNat 32 (rn 5)) 0
  let s : State := x.put WI_RSTAT_STATE (rn 6 % 4) |>.put IC_SRCCFG_TARGET (rn 15 % 17) (1013)
  ⟨s, m, v, by decide +kernel⟩

theorem witness_WinderClocksStartAndRamp_19 : ∃ (s : State) (d : Nat),
    s.deadline .winderRamp = some d ∧
    s.get WI_RSTAT_STATE = wrRun :=
  let x : State := State.reset
  let d : Nat := x.now + 9
  let s : State := {(x.put WI_RSTAT_STATE 2).put WI_RSTAT_SEG (rn 8 % 4) |>.put WI_RSEG_RDUR (1 + rn 9 % 2) (rn 8 % 4) |>.put WI_RSEG_RFEND (if rn 10 % 2 = 0 then 250000 else 249000) (rn 8 % 4) |>.put WI_RCTL_NSEG (if rn 11 % 2 = 0 then rn 8 % 4 else 5) |>.put WI_RCTL_REPEAT (rn 12 % 2) with winder := {x.winder with segStart := 250000, t := rn 5 % 20}}.arm .winderRamp 9
  ⟨s, d, by decide +kernel⟩

theorem witness_WinderClocksStartAndRamp_20 : ∃ (s : State) (d : Nat),
    s.deadline .winderRamp = some d ∧
    s.get WI_RSTAT_STATE = wrRealign :=
  let x : State := State.reset
  let d : Nat := x.now + 9
  let s : State := (x.put WI_RSTAT_STATE 3).put WI_RSTAT_FREQ (249950 + rn 5 % 300) |>.arm .winderRamp 9
  ⟨s, d, by decide +kernel⟩

theorem witness_WinderClocksStartAndRamp_21 : ∃ (s : State),
    s.deadline .winderRamp = none :=
  let x : State := State.reset
  let s : State := {x with timers := []}
  ⟨s, by decide +kernel⟩

theorem witness_WinderClocksStartAndRamp_22 : ∃ (s : State),
    s.get WI_RSTAT_STATE = wrRealign ∧
    s.get WI_RSTAT_FREQ = 250000 :=
  let x : State := State.reset
  let s : State := (x.put WI_RSTAT_STATE 3).put WI_RSTAT_FREQ 250000 |>.put IC_SRCCFG_TARGET (rn 15 % 17) (1013)
  ⟨s, by decide +kernel⟩

theorem witness_WinderClocksStartAndRamp_23 : ∃ (s : State),
    (s.get WI_RSTAT_STATE ≠ wrRealign ∨ s.get WI_RSTAT_FREQ ≠ 250000) :=
  let x : State := State.reset
  let s : State := (x.put WI_RSTAT_STATE (rn 4 % 4)).put WI_RSTAT_FREQ 250100
  ⟨s, by decide +kernel⟩

theorem witness_WinderClocksStartAndRamp_24 : ∃ (s : State) (m : Master) (v : Word),
    s.busOpen m = true :=
  let x : State := State.reset
  let m : Master := .pair ⟨rn 110 % 16, by omega⟩
  let v : Word := BitVec.ofNat 32 (rn 5)
  let s : State := (x.put WI_SSTAT_LOCKED (rn 8 % 2) 0).wrw .RS_RSTREL (BitVec.ofNat 32 (rn 6) <<< 8)
  ⟨s, m, v, by decide +kernel⟩

theorem witness_PowerStatesChange_1 : ∃ (s : State) (m : Master) (v : Word),
    s.busOpen m = true ∧
    s.lockstep m = true :=
  let x : State := State.reset
  let m : Master := .pair 3
  let v : Word := BitVec.ofNat 32 (rn 91)
  let s : State := x.put DR_PSTATE_STATE 2 3
  ⟨s, m, v, by decide +kernel⟩

theorem witness_PowerStatesChange_2 : ∃ (s : State) (m : Master) (v : Word),
    s.busOpen m = true ∧
    s.lockstep m = true :=
  let x : State := State.reset
  let m : Master := .pair 3
  let v : Word := BitVec.ofNat 32 (rn 91)
  let s : State := x.put DR_PSTATE_STATE 2 3
  ⟨s, m, v, by decide +kernel⟩

theorem witness_PowerStatesChange_3 : ∃ (s : State) (m : Master) (v : Word),
    s.busOpen m = true ∧
    s.lockstep m = true :=
  let x : State := State.reset
  let m : Master := .pair 3
  let v : Word := BitVec.ofNat 32 (rn 91)
  let s : State := x.put DR_PSTATE_STATE 2 3
  ⟨s, m, v, by decide +kernel⟩

theorem witness_PowerStatesChange_4 : ∃ (s : State) (m : Master) (v : Word),
    s.busOpen m = true ∧
    s.lockstep m = false :=
  let x : State := State.reset
  let m : Master := .dma
  let v : Word := BitVec.ofNat 32 (rn 91)
  let s : State := x
  ⟨s, m, v, by decide +kernel⟩

theorem witness_PowerStatesChange_5 : ∃ (s : State) (m : Master) (v : Word),
    s.busOpen m = true ∧
    s.lockstep m = false :=
  let x : State := State.reset
  let m : Master := .dma
  let v : Word := BitVec.ofNat 32 (rn 91)
  let s : State := x
  ⟨s, m, v, by decide +kernel⟩

theorem witness_PowerStatesChange_6 : ∃ (s : State) (m : Master) (v : Word),
    s.busOpen m = true ∧
    s.lockstep m = false :=
  let x : State := State.reset
  let m : Master := .dma
  let v : Word := BitVec.ofNat 32 (rn 91)
  let s : State := x
  ⟨s, m, v, by decide +kernel⟩

theorem witness_PowerStatesChange_7 : ∃ (s : State),
    (s.plan.madeAt ≠ some s.now ∨ s.supply.requestAt = s.now ∨ s.supply.request = none) :=
  let x : State := State.reset
  let s : State := bnow ({(x) with supply := {x.supply with request := none}})
  ⟨s, by decide +kernel⟩

theorem witness_PowerStatesChange_8 : ∃ (s : State),
    s.plan.madeAt = some s.now ∧
    s.supply.requestAt ≠ s.now ∧
    s.supply.request = some 2 ∧
    s.allStopped = true ∧
    (s.get EX_EXSTAT_QUEUED ≠ 0 ∨ s.get EX_EXSTAT_IMGBUSY ≠ 0) ∧
    s.now < s.supply.requestAt + 100 * ms :=
  let x : State := State.reset
  let s : State := bnow ({((stop8 x).put EX_EXSTAT_IMGBUSY 1) with supply := {x.supply with request := some 2, requestAt := x.now}})
  ⟨s, by decide +kernel⟩

theorem witness_PowerStatesChange_9 : ∃ (s : State),
    s.plan.madeAt = some s.now ∧
    s.supply.requestAt ≠ s.now ∧
    s.supply.request = some 3 ∧
    s.night = false :=
  let x : State := State.reset
  let s : State := bnow ({(x.put PR_PWRSTAT_STATE 0) with supply := {x.supply with request := some 3, requestAt := x.now}})
  ⟨s, by decide +kernel⟩

theorem witness_PowerStatesChange_10 : ∃ (s : State),
    s.plan.madeAt = some s.now ∧
    s.supply.requestAt ≠ s.now ∧
    s.supply.request = some 2 ∧
    (s.allStopped = false ∨ s.supply.requestAt + 100 * ms < s.now ∨ ((s.get EX_EXSTAT_QUEUED ≠ 0 ∨ s.get EX_EXSTAT_IMGBUSY ≠ 0) ∧ s.now = s.supply.requestAt + 100 * ms)) :=
  let x : State := State.reset
  let s : State := bnow ({(x.put BLK_BLKCTL_STATE 2 3) with supply := {x.supply with request := some 2, requestAt := x.now}})
  ⟨s, by decide +kernel⟩

theorem witness_PowerStatesChange_11 : ∃ (s : State),
    s.plan.madeAt = some s.now ∧
    s.supply.requestAt ≠ s.now ∧
    s.supply.request = some 1 ∧
    s.night = false ∧
    s.nightAllowed = true ∧
    s.routed 992 = true :=
  let x : State := State.reset
  let s : State := bnow ({((stop8 x).put PR_PWRSTAT_STATE 0 |>.put PR_PWRCTL_NPAIR0 2 |>.put PR_PWRCTL_NPAIR1 5 |>.put DR_PSTATE_STATE 2 2 |>.put DR_PSTATE_STATE 4 5 |>.put IC_SRCCFG_TARGET (rn 15 % 17) (992)) with supply := {x.supply with request := some 1, requestAt := x.now}})
  ⟨s, by decide +kernel⟩

theorem witness_PowerStatesChange_12 : ∃ (s : State),
    s.plan.madeAt = some s.now ∧
    s.supply.requestAt ≠ s.now ∧
    s.supply.request = some 1 ∧
    (s.night = true ∨ s.nightAllowed = false) :=
  let x : State := State.reset
  let s : State := bnow ({(x.put BLK_BLKCTL_STATE 2 3) with supply := {x.supply with request := some 1, requestAt := x.now}})
  ⟨s, by decide +kernel⟩

theorem witness_PowerStatesChange_13 : ∃ (s : State),
    s.plan.madeAt = some s.now ∧
    s.supply.requestAt ≠ s.now ∧
    s.supply.request = some 2 ∧
    s.allStopped = true ∧
    s.get EX_EXSTAT_QUEUED = 0 ∧
    s.get EX_EXSTAT_IMGBUSY = 0 ∧
    s.now ≤ s.supply.requestAt + 100 * ms :=
  let x : State := State.reset
  let s : State := bnow ({((stop8 x).put EX_EXSTAT_QUEUED 0 |>.put EX_EXSTAT_IMGBUSY 0) with supply := {x.supply with request := some 2, requestAt := x.now}})
  ⟨s, by decide +kernel⟩

theorem witness_PowerStatesChange_14 : ∃ (s : State),
    s.plan.madeAt = some s.now ∧
    s.supply.requestAt ≠ s.now ∧
    s.supply.request = some 3 ∧
    s.night = true ∧
    s.routed 992 = true :=
  let x : State := State.reset
  let s : State := bnow ({(x.put PR_PWRSTAT_STATE 1 |>.put PR_PWRCTL_NPAIR0 2 |>.put PR_PWRCTL_NPAIR1 5 |>.put IC_SRCCFG_TARGET (rn 15 % 17) (992)) with supply := {x.supply with request := some 3, requestAt := x.now}})
  ⟨s, by decide +kernel⟩

theorem witness_PowerStatesChange_15 : ∃ (s : State),
    s.supply.place = 1 ∧
    s.supply.vaux = true ∧
    s.on PR_WAKECFG_CLKEN = true ∧
    s.get PR_WAKEAT_SECONDS ≤ s.rtcSeconds % 2 ^ 32 :=
  let x : State := State.reset
  let s : State := {(x.put PR_WAKECFG_CLKEN 1 |>.put PR_WAKEAT_SECONDS 0) with supply := {x.supply with place := 1, vaux := true}}
  ⟨s, by decide +kernel⟩

theorem witness_PowerStatesChange_16 : ∃ (s : State),
    (s.supply.place ≠ 1 ∨ s.supply.vaux = false ∨ s.on PR_WAKECFG_CLKEN = false ∨ s.rtcSeconds % 2 ^ 32 < s.get PR_WAKEAT_SECONDS) :=
  let x : State := State.reset
  let s : State := {(x.put PR_WAKECFG_CLKEN 0) with supply := {x.supply with place := rn 5 % 3, vaux := true}}
  ⟨s, by decide +kernel⟩

theorem witness_PowerStatesChange_17 : ∃ (s : State) (d : Nat),
    s.deadline .wakeGrid = some d ∧
    (s.supply.place ≠ 1 ∨ s.supply.vaux = false ∨ s.on PR_WAKECFG_GRIDEN = false) :=
  let x : State := State.reset
  let d : Nat := x.now + 6
  let s : State := {(x.put PR_WAKECFG_GRIDEN 0) with supply := {x.supply with place := rn 5 % 3, vaux := true}}.arm .wakeGrid 6
  ⟨s, d, by decide +kernel⟩

theorem witness_PowerStatesChange_18 : ∃ (s : State),
    s.deadline .wakeGrid = none :=
  let x : State := State.reset
  let s : State := {(x) with timers := []}
  ⟨s, by decide +kernel⟩

theorem witness_PowerStatesChange_19 : ∃ (s : State) (d : Nat),
    s.deadline .wakeGrid = some d ∧
    s.supply.place = 1 ∧
    s.supply.vaux = true ∧
    s.on PR_WAKECFG_GRIDEN = true :=
  let x : State := State.reset
  let d : Nat := x.now + 6
  let s : State := {(x.put PR_WAKECFG_GRIDEN 1) with supply := {x.supply with place := 1, vaux := true}}.arm .wakeGrid 6
  ⟨s, d, by decide +kernel⟩

theorem witness_PowerStatesChange_20 : ∃ (s : State),
    s.supply.place = 1 ∧
    s.supply.vaux = true ∧
    s.on PR_WAKECFG_RSTEN = true :=
  let x : State := State.reset
  let s : State := {(x.put PR_WAKECFG_RSTEN 1) with supply := {x.supply with place := 1, vaux := true}}
  ⟨s, by decide +kernel⟩

theorem witness_PowerStatesChange_21 : ∃ (s : State),
    s.supply.place = 0 ∧
    s.resetting = false :=
  let x : State := State.reset
  let s : State := {(x) with supply := {x.supply with place := 0, step := 6}}
  ⟨s, by decide +kernel⟩

theorem witness_PowerStatesChange_22 : ∃ (s : State),
    s.supply.place = 1 ∧
    s.on PR_WAKECFG_RSTEN = false ∧
    s.supply.scope = scopeControl :=
  let x : State := State.reset
  let s : State := {(x.put PR_WAKECFG_RSTEN 0) with supply := {x.supply with place := 1, vaux := true, step := 0, scope := scopeControl}}
  ⟨s, by decide +kernel⟩

theorem witness_PowerStatesChange_23 : ∃ (s : State),
    s.supply.place = 2 :=
  let x : State := State.reset
  let s : State := {(x) with supply := {x.supply with place := 2}}
  ⟨s, by decide +kernel⟩

theorem witness_PowerStatesChange_24 : ∃ (s : State),
    s.supply.vaux = true :=
  let x : State := State.reset
  let s : State := {(x) with supply := {x.supply with vaux := true}}
  ⟨s, by decide +kernel⟩

theorem witness_PowerStatesChange_25 : ∃ (s : State),
    s.supply.vaux = false :=
  let x : State := State.reset
  let s : State := {(x) with supply := {x.supply with vaux := false}}
  ⟨s, by decide +kernel⟩

theorem witness_PowerStatesChange_26 : ∃ (s : State) (r : Fin 10),
    s.railPowered r.val = false :=
  let x : State := State.reset
  let r : Fin 10 := default
  let s : State := {(x) with supply := {x.supply with vaux := false}}
  ⟨s, r, by decide +kernel⟩

theorem witness_PowerStatesChange_27 : ∃ (s : State),
    (s.supply.step ≠ 1 ∨ s.supply.vaux = false) :=
  let x : State := State.reset
  let s : State := {(x) with supply := {x.supply with step := 3}}
  ⟨s, by decide +kernel⟩

theorem witness_PowerStatesChange_28 : ∃ (s : State),
    s.deadline .optLoad = none :=
  let x : State := State.reset
  let s : State := {(x) with timers := []}
  ⟨s, by decide +kernel⟩

theorem witness_PowerStatesChange_29 : ∃ (s : State),
    s.supply.vaux = false :=
  let x : State := State.reset
  let s : State := {(x) with supply := {x.supply with place := 2, vaux := false, brownout := rn 5 % 2 == 0}}
  ⟨s, by decide +kernel⟩

theorem witness_PowerStatesChange_30 : ∃ (s : State),
    s.supply.vaux = true :=
  let x : State := State.reset
  let s : State := {({x with assay := {x.assay with running := true}}) with supply := {x.supply with vaux := true, place := 0}}
  ⟨s, by decide +kernel⟩

theorem witness_PowerStatesChange_31 : ∃ (s : State) (r : Fin 10),
    s.railPowered r.val = true ∧
    s.resetting = false :=
  let x : State := State.reset
  let r : Fin 10 := ⟨rn 4 % 10, by omega⟩
  let s : State := {(x) with supply := {x.supply with place := 0, step := 6, vaux := true, railFrom := Vector.replicate 10 (some x.now)}}
  ⟨s, r, by decide +kernel⟩

theorem witness_PowerStatesChange_32 : ∃ (s : State),
    s.supply.step = 1 ∧
    s.supply.vaux = true :=
  let x : State := State.reset
  let s : State := {(x) with supply := {x.supply with step := 1, vaux := true, railFrom := (Vector.replicate 10 none).set 0 (some x.now)}}
  ⟨s, by decide +kernel⟩

theorem witness_PowerStatesChange_33 : ∃ (s : State) (d : Nat),
    s.deadline .optLoad = some d ∧
    s.supply.step = 3 :=
  let x : State := State.reset
  let d : Nat := x.now + 6
  let s : State := {(x) with supply := {x.supply with step := 3, optA := if rn 5 % 2 = 0 then defaultOption 3 else [], optB := if rn 6 % 2 = 0 then defaultOption (rn 7 % 6) else []}}.arm .optLoad 6
  ⟨s, d, by decide +kernel⟩

theorem witness_PowerStatesChange_34 : ∃ (s : State) (m : Master) (v : Word),
    s.busOpen m = true ∧
    s.supply.resetAt = s.now ∧
    s.supply.scope = scopeDevice :=
  let x : State := State.reset
  let m : Master := .pair ⟨rn 110 % 16, by omega⟩
  let v : Word := BitVec.ofNat 32 (rn 91)
  let s : State := {(x.put RS_PADREL_HELD (rn 6 % 64)) with supply := {x.supply with resetAt := x.now, scope := scopeDevice}}
  ⟨s, m, v, by decide +kernel⟩

theorem witness_PowerStatesChange_35 : ∃ (s : State) (m : Master) (v : Word),
    s.busOpen m = true ∧
    (s.supply.resetAt ≠ s.now ∨ s.supply.scope ≠ scopeDevice) :=
  let x : State := State.reset
  let m : Master := .pair ⟨rn 110 % 16, by omega⟩
  let v : Word := BitVec.ofNat 32 (rn 91)
  let s : State := {(x.put RS_PADREL_HELD (rn 6 % 64)) with supply := {x.supply with scope := scopeFull}}
  ⟨s, m, v, by decide +kernel⟩

theorem witness_ResetsAndWatchdogsAct_1 : ∃ (s : State) (m : Master) (v : Word),
    s.busOpen m = true ∧
    s.lockstep m = true ∧
    RS_RSTCTL_KEY.of v = 0x5A17 ∧
    s.resetting = false :=
  let x : State := State.reset
  let m : Master := .pair 3
  let v : Word := RS_RSTCTL_KEY.into (BitVec.ofNat 32 (rn 5)) 0x5A17
  let s : State := {(x.put DR_PSTATE_STATE 2 3) with supply := {x.supply with step := 6}}
  ⟨s, m, v, by decide +kernel⟩

theorem witness_ResetsAndWatchdogsAct_2 : ∃ (s : State) (m : Master) (v : Word),
    s.busOpen m = true ∧
    (s.lockstep m = false ∨ RS_RSTCTL_KEY.of v ≠ 0x5A17) :=
  let x : State := State.reset
  let m : Master := .banksman
  let v : Word := BitVec.ofNat 32 (rn 91)
  let s : State := x
  ⟨s, m, v, by decide +kernel⟩

theorem witness_ResetsAndWatchdogsAct_3 : ∃ (s : State) (n : Pair) (v : Word),
    s.busOpen (.pair n) = true ∧
    s.lockstep (.pair n) = true ∧
    RS_RSTCTL_PAIR.of v ≠ n.val ∧
    s.pst (RS_RSTCTL_PAIR.of v) ≠ pairFailed :=
  let x : State := State.reset
  let n : Pair := ⟨rn 4 % 16, by omega⟩
  let v : Word := RS_RSTCTL_PAIR.into (RS_RSTCTL_KEY.into (BitVec.ofNat 32 (rn 5)) 0x5A17) ((n.val + 1) % 16)
  let s : State := x.put DR_PSTATE_STATE 2 n.val |>.put DR_PSTATE_STATE 2 ((n.val + 1) % 16)
  ⟨s, n, v, by decide +kernel⟩

theorem witness_ResetsAndWatchdogsAct_4 : ∃ (s : State) (m : Master) (v : Word),
    s.busOpen m = true ∧
    (s.lockstep m = false ∨ RS_RSTCTL_KEY.of v ≠ 0x5A17) :=
  let x : State := State.reset
  let m : Master := .banksman
  let v : Word := BitVec.ofNat 32 (rn 91)
  let s : State := x
  ⟨s, m, v, by decide +kernel⟩

theorem witness_ResetsAndWatchdogsAct_5 : ∃ (s : State) (n : Pair) (v : Word),
    s.busOpen (.pair n) = true ∧
    s.lockstep (.pair n) = true ∧
    RS_RSTCTL_KEY.of v = 0x5A17 ∧
    (RS_RSTCTL_PAIR.of v = n.val ∨ s.pst (RS_RSTCTL_PAIR.of v) = pairFailed) ∧
    RS_RSTCTL_PAIR.of v < 16 ∧
    s.resetting = false ∧
    s.pst (RS_RSTCTL_PAIR.of v) ≠ pairStart ∧
    s.pst (RS_RSTCTL_PAIR.of v) ≠ pairOff :=
  let x : State := State.reset
  let n : Pair := ⟨rn 4 % 16, by omega⟩
  let v : Word := RS_RSTCTL_PAIR.into (RS_RSTCTL_KEY.into (BitVec.ofNat 32 (rn 5)) 0x5A17) n.val
  let s : State := {(x.put DR_PSTATE_STATE 2 n.val) with supply := {x.supply with step := 6}}
  ⟨s, n, v, by decide +kernel⟩

theorem witness_ResetsAndWatchdogsAct_6 : ∃ (s : State) (m : Master) (n : Pair) (v : Word),
    s.busOpen m = true ∧
    masterPair m = some n.val ∧
    RS_WDTKICK_KEY.of v = 0xC3A5 ∧
    s.armed (.watchdog n.val) = true :=
  let x : State := State.reset
  let m : Master := .core ⟨rn 4 % 16, by omega⟩ 1
  let n : Pair := ⟨rn 4 % 16, by omega⟩
  let v : Word := RS_WDTKICK_KEY.into 0 0xC3A5
  let s : State := x.arm (.watchdog n.val) 50
  ⟨s, m, n, v, by decide +kernel⟩

theorem witness_ResetsAndWatchdogsAct_7 : ∃ (s : State) (m : Master) (n : Pair) (v : Word),
    s.busOpen m = true ∧
    masterPair m = some n.val ∧
    RS_WDTKICK_KEY.of v = 0xC3A5 ∧
    s.armed (.watchdog n.val) = false :=
  let x : State := State.reset
  let m : Master := .core ⟨rn 4 % 16, by omega⟩ 1
  let n : Pair := ⟨rn 4 % 16, by omega⟩
  let v : Word := RS_WDTKICK_KEY.into 0 0xC3A5
  let s : State := {x with timers := []}
  ⟨s, m, n, v, by decide +kernel⟩

theorem witness_ResetsAndWatchdogsAct_8 : ∃ (s : State) (m : Master) (n : Pair) (v : Word),
    s.busOpen m = true ∧
    (masterPair m ≠ some n.val ∨ RS_WDTKICK_KEY.of v ≠ 0xC3A5) :=
  let x : State := State.reset
  let m : Master := .dma
  let n : Pair := ⟨rn 4 % 16, by omega⟩
  let v : Word := BitVec.ofNat 32 (rn 91)
  let s : State := x.arm (.watchdog n.val) 50
  ⟨s, m, n, v, by decide +kernel⟩

theorem witness_ResetsAndWatchdogsAct_9 : ∃ (s : State) (n : Pair),
    s.deadline (.warn n.val) = none :=
  let x : State := State.reset
  let n : Pair := ⟨rn 4 % 16, by omega⟩
  let s : State := {x with timers := []}
  ⟨s, n, by decide +kernel⟩

theorem witness_ResetsAndWatchdogsAct_10 : ∃ (s : State) (n : Pair),
    s.deadline (.watchdog n.val) = none :=
  let x : State := State.reset
  let n : Pair := ⟨rn 4 % 16, by omega⟩
  let s : State := {x with timers := []}
  ⟨s, n, by decide +kernel⟩

theorem witness_ResetsAndWatchdogsAct_11 : ∃ (s : State) (n : Pair) (d : Nat),
    s.deadline (.watchdog n.val) = some d ∧
    s.pst n.val = pairStart :=
  let x : State := State.reset
  let n : Pair := ⟨rn 4 % 16, by omega⟩
  let d : Nat := x.now + 50
  let s : State := x.put DR_PSTATE_STATE 1 n.val |>.arm (.watchdog n.val) 50
  ⟨s, n, d, by decide +kernel⟩

theorem witness_ResetsAndWatchdogsAct_12 : ∃ (s : State) (n : Pair) (d : Nat),
    s.deadline (.warn n.val) = some d :=
  let x : State := State.reset
  let n : Pair := ⟨rn 4 % 16, by omega⟩
  let d : Nat := x.now + 50
  let s : State := x.arm (.warn n.val) 50 |>.put IC_SRCCFG_TARGET (rn 15 % 17) (994)
  ⟨s, n, d, by decide +kernel⟩

theorem witness_ResetsAndWatchdogsAct_13 : ∃ (s : State) (n : Pair) (d : Nat),
    s.deadline (.watchdog n.val) = some d ∧
    s.resetting = false ∧
    s.pst n.val ≠ pairStart ∧
    s.pst n.val ≠ pairOff :=
  let x : State := State.reset
  let n : Pair := ⟨rn 4 % 16, by omega⟩
  let d : Nat := x.now + 50
  let s : State := {(x.put DR_PSTATE_STATE 2 n.val) with supply := {x.supply with step := 6}}.arm (.watchdog n.val) 50
  ⟨s, n, d, by decide +kernel⟩

theorem witness_LampDomainKeepsItsStore_1 : ∃ (s : State),
    s.supply.vaux = false :=
  let x : State := State.reset
  let s : State := {(x) with supply := {x.supply with vaux := false}}
  ⟨s, by decide +kernel⟩

theorem witness_LampDomainKeepsItsStore_2 : ∃ (s : State),
    s.supply.vaux = true :=
  let x : State := State.reset
  let s : State := {(x) with supply := {x.supply with vaux := true}}
  ⟨s, by decide +kernel⟩

theorem witness_LampDomainKeepsItsStore_3 : ∃ (s : State) (p l : Bool),
    s.lamp.powered = true :=
  let x : State := State.reset
  let p : Bool := rn 92 % 2 == 0
  let l : Bool := rn 92 % 2 == 0
  let s : State := {x with lamp := {x.lamp with powered := true}}
  ⟨s, p, l, by decide +kernel⟩

theorem witness_LampDomainKeepsItsStore_4 : ∃ (s : State) (p l : Bool),
    s.lamp.powered = false :=
  let x : State := State.reset
  let p : Bool := rn 92 % 2 == 0
  let l : Bool := rn 92 % 2 == 0
  let s : State := {x with lamp := {x.lamp with powered := false, counters := Vector.replicate 32 7}}
  ⟨s, p, l, by decide +kernel⟩

theorem witness_LampDomainKeepsItsStore_5 : ∃ (s : State) (d : Nat),
    s.deadline .lampSet = some d ∧
    s.trusted = true ∧
    s.lamp.powered = true :=
  let x : State := State.reset
  let d : Nat := x.now + 9
  let s : State := {x.put ET_PTPTRUST_TRUSTED 1 with lamp := {x.lamp with powered := true}}.arm .lampSet 9
  ⟨s, d, by decide +kernel⟩

theorem witness_LampDomainKeepsItsStore_6 : ∃ (s : State) (d : Nat),
    s.deadline .lampSet = some d ∧
    (s.trusted = false ∨ s.lamp.powered = false) :=
  let x : State := State.reset
  let d : Nat := x.now + 9
  let s : State := {x.put ET_PTPTRUST_TRUSTED 0 with lamp := {x.lamp with powered := true}}.arm .lampSet 9
  ⟨s, d, by decide +kernel⟩

theorem witness_LampDomainKeepsItsStore_7 : ∃ (s : State) (v : Nat) (d : Nat),
    s.deadline .gauge = some d ∧
    s.lamp.powered = false :=
  let x : State := State.reset
  let v : Nat := 1500 + rn 5 % 3000
  let d : Nat := x.now + 9
  let s : State := {x with lamp := {x.lamp with powered := false}}.arm .gauge 9
  ⟨s, v, d, by decide +kernel⟩

theorem witness_LampDomainKeepsItsStore_8 : ∃ (s : State) (v : Nat) (d : Nat),
    s.deadline .gauge = some d ∧
    s.lamp.powered = true ∧
    v < 2 ^ LA_CAP_VSTORE.width ∧
    gaugeEnergy (s.get LA_CAP_C) v < 2 ^ LA_GAUGE_E.width :=
  let x : State := State.reset
  let v : Nat := 1500 + rn 5 % 3000
  let d : Nat := x.now + 9
  let s : State := {x with lamp := {x.lamp with powered := true}}.put LA_CAP_C (rn 6 % 1000) |>.arm .gauge 9
  ⟨s, v, d, by decide +kernel⟩

theorem witness_LampDomainKeepsItsStore_9 : ∃ (s : State) (u : Nat) (o : Bool),
    s.lamp.powered = true ∧
    s.on LA_LSTAT_CHARGING = true ∧
    1600 ≤ s.get LA_CAP_VSTORE ∧
    s.get LA_CAP_VSTORE + 100 ≤ s.vmax ∧
    o = false ∧
    s.lamp.grants = [] ∧
    divOpen (s.chargeCurrent * u) 100000 < 2 ^ LA_CAP_C.width :=
  let x : State := State.reset
  let u : Nat := 100000 * (1 + rn 5 % 40)
  let o : Bool := false
  let s : State := {x with lamp := {x.lamp with powered := true, grants := []}}.put LA_LSTAT_CHARGING 1 |>.put LA_CAP_VSTORE 2000 |>.put LA_LCTL_VMAX 50
  ⟨s, u, o, by decide +kernel⟩

theorem witness_LampDomainKeepsItsStore_10 : ∃ (s : State) (u : Nat) (o : Bool),
    (s.lamp.powered = false ∨ s.on LA_LSTAT_CHARGING = false ∨ s.get LA_CAP_VSTORE < 1600 ∨ s.vmax < s.get LA_CAP_VSTORE + 100 ∨ o = true ∨ s.lamp.grants ≠ []) :=
  let x : State := State.reset
  let u : Nat := 100000 * (1 + rn 5 % 40)
  let o : Bool := true
  let s : State := x
  ⟨s, u, o, by decide +kernel⟩

theorem witness_LampDomainKeepsItsStore_11 : ∃ (s : State),
    s.on LA_LSTAT_CHARGING = false :=
  let x : State := State.reset
  let s : State := x.put LA_LSTAT_CHARGING 0
  ⟨s, by decide +kernel⟩

theorem witness_LampDomainKeepsItsStore_12 : ∃ (s : State) (v h : Nat),
    s.lamp.powered = false :=
  let x : State := State.reset
  let v : Nat := rn 5 % 5000
  let h : Nat := rn 6 % 7000
  let s : State := {x with lamp := {x.lamp with powered := false}}
  ⟨s, v, h, by decide +kernel⟩

theorem witness_LampDomainKeepsItsStore_13 : ∃ (s : State) (c : Fin 4),
    c.val ∉ s.lamp.grants :=
  let x : State := State.reset
  let c : Fin 4 := ⟨rn 4 % 4, by omega⟩
  let s : State := {x with lamp := {x.lamp with grants := []}}
  ⟨s, c, by decide +kernel⟩

theorem witness_LampDomainKeepsItsStore_14 : ∃ (s : State),
    s.deadline .grantRetry = none :=
  let x : State := State.reset
  let s : State := {x with timers := []}
  ⟨s, by decide +kernel⟩

theorem witness_LampDomainKeepsItsStore_15 : ∃ (s : State) (v : Nat),
    s.deadline .ocv = none :=
  let x : State := State.reset
  let v : Nat := default
  let s : State := {x with timers := []}
  ⟨s, v, by decide +kernel⟩

theorem witness_LampDomainKeepsItsStore_16 : ∃ (s : State),
    s.on LA_LSTAT_CHARGING = true :=
  let x : State := State.reset
  let s : State := x.put LA_LSTAT_CHARGING 1
  ⟨s, by decide +kernel⟩

theorem witness_LampDomainKeepsItsStore_17 : ∃ (s : State) (v : Nat) (d : Nat),
    s.deadline .ocv = some d :=
  let x : State := State.reset
  let v : Nat := default
  let d : Nat := x.now + 9
  let s : State := x.put LA_LSTAT_PATH 2 |>.arm .ocv 9
  ⟨s, v, d, by decide +kernel⟩

theorem witness_LampDomainKeepsItsStore_18 : ∃ (s : State) (v h : Nat),
    s.lamp.powered = true :=
  let x : State := State.reset
  let v : Nat := rn 5 % 5000
  let h : Nat := rn 6 % 7000
  let s : State := {x with lamp := {x.lamp with powered := true}}
  ⟨s, v, h, by decide +kernel⟩

theorem witness_LampDomainKeepsItsStore_19 : ∃ (s : State) (c : Fin 4),
    c.val ∈ s.lamp.grants :=
  let x : State := State.reset
  let c : Fin 4 := ⟨rn 4 % 4, by omega⟩
  let s : State := {x with lamp := {x.lamp with grants := [1, 3, c.val]}}
  ⟨s, c, by decide +kernel⟩

theorem witness_LampDomainKeepsItsStore_20 : ∃ (s : State) (d : Nat),
    s.deadline .grantRetry = some d ∧
    s.bank.zeroWait = true ∧
    s.grantable clsZero = true :=
  let x : State := State.reset
  let d : Nat := x.now + 5
  let s : State := {bkx x 3 default with bank := {x.bank with zeroWait := true}}.arm .grantRetry 5
  ⟨s, d, by decide +kernel⟩

theorem witness_LampDomainKeepsItsStore_21 : ∃ (s : State) (d : Nat),
    s.deadline .grantRetry = some d ∧
    s.bank.zeroWait = true ∧
    s.grantable clsZero = false :=
  let x : State := State.reset
  let d : Nat := x.now + 5
  let s : State := {x.put LA_GAUGE_E 0 with bank := {x.bank with zeroWait := true}}.arm .grantRetry 5
  ⟨s, d, by decide +kernel⟩

theorem witness_UhlaPortsTrainAndShareValues_1 : ∃ (s : State) (m : Master) (v : Word),
    s.busOpen m = true ∧
    s.lockstep m = true ∧
    s.on UH_UCTL_EN = false ∧
    s.released uUhla = true :=
  let x : State := State.reset
  let m : Master := .pair 3
  let v : Word := BitVec.ofNat 32 (rn 5)
  let s : State := {((((lock x 3).wrw .RS_RSTREL 0xFFFFFF).put UH_UCTL_EN 1).put WI_SSTAT_LOCKED 1 synSerdes).put UH_UCTL_EN 0 with uhla := {x.uhla with locked := rn 6 % 2 == 0}}
  ⟨s, m, v, by decide +kernel⟩

theorem witness_UhlaPortsTrainAndShareValues_2 : ∃ (s : State) (m : Master) (v : Word),
    s.busOpen m = true ∧
    s.lockstep m = true ∧
    s.on UH_UCTL_EN = true :=
  let x : State := State.reset
  let m : Master := .pair 3
  let v : Word := BitVec.ofNat 32 (rn 5)
  let s : State := ((((lock x 3).wrw .RS_RSTREL 0xFFFFFF).put UH_UCTL_EN 1).put WI_SSTAT_LOCKED 1 synSerdes)
  ⟨s, m, v, by decide +kernel⟩

theorem witness_UhlaPortsTrainAndShareValues_3 : ∃ (s : State) (m : Master) (v : Word),
    s.busOpen m = true ∧
    s.lockstep m = false :=
  let x : State := State.reset
  let m : Master := .dma
  let v : Word := BitVec.ofNat 32 (rn 5)
  let s : State := x
  ⟨s, m, v, by decide +kernel⟩

theorem witness_UhlaPortsTrainAndShareValues_4 : ∃ (s : State) (p : Fin 2),
    s.uhlaRuns = true ∧
    s.get UH_UPORT_STATE p.val = portTrain ∧
    s.routed (898 + p.val) = true :=
  let x : State := State.reset
  let p : Fin 2 := ⟨rn 4 % 2, by omega⟩
  let s : State := ((((lock x 3).wrw .RS_RSTREL 0xFFFFFF).put UH_UCTL_EN 1).put WI_SSTAT_LOCKED 1 synSerdes).put UH_UPORT_STATE 1 p.val |>.put IC_SRCCFG_TARGET (rn 15 % 17) (898 + p.val)
  ⟨s, p, by decide +kernel⟩

theorem witness_UhlaPortsTrainAndShareValues_5 : ∃ (s : State) (p : Fin 2),
    (s.uhlaRuns = false ∨ s.get UH_UPORT_STATE p.val ≠ portTrain) :=
  let x : State := State.reset
  let p : Fin 2 := ⟨rn 4 % 2, by omega⟩
  let s : State := ((((lock x 3).wrw .RS_RSTREL 0xFFFFFF).put UH_UCTL_EN 1).put WI_SSTAT_LOCKED 1 synSerdes).put UH_UPORT_STATE 2 p.val
  ⟨s, p, by decide +kernel⟩

theorem witness_UhlaPortsTrainAndShareValues_6 : ∃ (s : State) (p : Fin 2) (gid : Bool),
    (s.uhlaRuns = false ∨ s.get UH_UPORT_STATE p.val = portDown) :=
  let x : State := State.reset
  let p : Fin 2 := ⟨rn 4 % 2, by omega⟩
  let gid : Bool := rn 92 % 2 == 0
  let s : State := ((((lock x 3).wrw .RS_RSTREL 0xFFFFFF).put UH_UCTL_EN 1).put WI_SSTAT_LOCKED 1 synSerdes).put UH_UPORT_STATE 0 p.val
  ⟨s, p, gid, by decide +kernel⟩

theorem witness_UhlaPortsTrainAndShareValues_7 : ∃ (s : State) (p : Fin 2),
    (s.uhlaRuns = false ∨ s.get UH_UPORT_STATE p.val ≠ portDown) :=
  let x : State := State.reset
  let p : Fin 2 := ⟨rn 4 % 2, by omega⟩
  let s : State := ((((lock x 3).wrw .RS_RSTREL 0xFFFFFF).put UH_UCTL_EN 1).put WI_SSTAT_LOCKED 1 synSerdes).put UH_UPORT_STATE 2 p.val
  ⟨s, p, by decide +kernel⟩

theorem witness_UhlaPortsTrainAndShareValues_8 : ∃ (s : State) (p : Fin 2) (d : BitVec 24),
    (s.uhlaRuns = false ∨ s.get UH_UPORT_STATE p.val = portDown) :=
  let x : State := State.reset
  let p : Fin 2 := ⟨rn 4 % 2, by omega⟩
  let d : BitVec 24 := BitVec.ofNat 24 (rn 7)
  let s : State := ((((lock x 3).wrw .RS_RSTREL 0xFFFFFF).put UH_UCTL_EN 1).put WI_SSTAT_LOCKED 1 synSerdes).put UH_UPORT_STATE 0 p.val
  ⟨s, p, d, by decide +kernel⟩

theorem witness_UhlaPortsTrainAndShareValues_9 : ∃ (s : State) (p : Fin 2) (gid : Bool),
    s.uhlaRuns = true ∧
    s.get UH_UPORT_STATE p.val ≠ portDown ∧
    s.routed (898 + p.val) = true :=
  let x : State := State.reset
  let p : Fin 2 := ⟨rn 4 % 2, by omega⟩
  let gid : Bool := rn 92 % 2 == 0
  let s : State := ((((lock x 3).wrw .RS_RSTREL 0xFFFFFF).put UH_UCTL_EN 1).put WI_SSTAT_LOCKED 1 synSerdes).put UH_UPORT_STATE (1 + rn 6 % 2) p.val |>.put IC_SRCCFG_TARGET (rn 15 % 17) (898 + p.val)
  ⟨s, p, gid, by decide +kernel⟩

theorem witness_UhlaPortsTrainAndShareValues_10 : ∃ (s : State) (p : Fin 2),
    s.uhlaRuns = true ∧
    s.get UH_UPORT_STATE p.val = portDown ∧
    s.routed (898 + p.val) = true :=
  let x : State := State.reset
  let p : Fin 2 := ⟨rn 4 % 2, by omega⟩
  let s : State := ((((lock x 3).wrw .RS_RSTREL 0xFFFFFF).put UH_UCTL_EN 1).put WI_SSTAT_LOCKED 1 synSerdes).put UH_UPORT_STATE 0 p.val |>.put IC_SRCCFG_TARGET (rn 15 % 17) (898 + p.val)
  ⟨s, p, by decide +kernel⟩

theorem witness_UhlaPortsTrainAndShareValues_11 : ∃ (s : State) (p : Fin 2) (d : BitVec 24),
    s.uhlaRuns = true ∧
    s.get UH_UPORT_STATE p.val ≠ portDown :=
  let x : State := State.reset
  let p : Fin 2 := ⟨rn 4 % 2, by omega⟩
  let d : BitVec 24 := BitVec.ofNat 24 (rn 7)
  let s : State := ((((lock x 3).wrw .RS_RSTREL 0xFFFFFF).put UH_UCTL_EN 1).put WI_SSTAT_LOCKED 1 synSerdes).put UH_UPORT_STATE (1 + rn 6 % 2) p.val
  ⟨s, p, d, by decide +kernel⟩

theorem witness_UhlaPortsTrainAndShareValues_12 : ∃ (s : State) (m : Master) (v : Fin 256) (w : Word),
    s.busOpen m = true ∧
    s.lockstep m = true ∧
    s.on UH_USVCFG_EN v.val = true ∧
    s.on UH_USVCFG_SRC v.val = true ∧
    masterPair m = some (s.get UH_USVCFG_ID v.val) :=
  let x : State := State.reset
  let m : Master := .pair 3
  let v : Fin 256 := ⟨rn 4 % 256, by omega⟩
  let w : Word := BitVec.ofNat 32 (rn 91)
  let s : State := (((lock x 3).put UH_USVCFG_EN 1 v.val).put UH_USVCFG_SRC 1 v.val).put UH_USVCFG_ID 3 v.val
  ⟨s, m, v, w, by decide +kernel⟩

theorem witness_UhlaPortsTrainAndShareValues_13 : ∃ (s : State) (m : Master) (v : Fin 256) (w : Word),
    s.busOpen m = true ∧
    (s.on UH_USVCFG_EN v.val = false ∨ s.on UH_USVCFG_SRC v.val = false ∨ masterPair m ≠ some (s.get UH_USVCFG_ID v.val) ∨ s.lockstep m = false) :=
  let x : State := State.reset
  let m : Master := .pair 3
  let v : Fin 256 := ⟨rn 4 % 256, by omega⟩
  let w : Word := BitVec.ofNat 32 (rn 91)
  let s : State := x.put UH_USVCFG_EN 0 v.val
  ⟨s, m, v, w, by decide +kernel⟩

theorem witness_UhlaPortsTrainAndShareValues_14 : ∃ (s : State) (m : Master) (v : Fin 256) (w : Word),
    s.busOpen m = true ∧
    s.lockstep m = false :=
  let x : State := State.reset
  let m : Master := .dma
  let v : Fin 256 := ⟨rn 4 % 256, by omega⟩
  let w : Word := BitVec.ofNat 32 (rn 91)
  let s : State := x
  ⟨s, m, v, w, by decide +kernel⟩

theorem witness_UhlaPortsTrainAndShareValues_15 : ∃ (s : State) (m : Master) (v : Fin 256) (w : Word),
    s.busOpen m = true ∧
    s.lockstep m = true ∧
    (UH_USVCFG_EN.of w = 0 ∨ s.on UH_USVCFG_EN v.val = true ∨ s.sourced v.val < 21) :=
  let x : State := State.reset
  let m : Master := .pair 3
  let v : Fin 256 := ⟨rn 4 % 256, by omega⟩
  let w : Word := BitVec.ofNat 32 (rn 91)
  let s : State := (lock x 3).put UH_USVCFG_EN 1 v.val
  ⟨s, m, v, w, by decide +kernel⟩

theorem witness_UhlaPortsTrainAndShareValues_16 : ∃ (s : State) (m : Master) (v : Fin 256) (w : Word),
    s.busOpen m = true ∧
    s.lockstep m = true ∧
    UH_USVCFG_EN.of w = 1 ∧
    s.on UH_USVCFG_EN v.val = false ∧
    21 ≤ s.sourced v.val :=
  let x : State := State.reset
  let m : Master := .pair 3
  let v : Fin 256 := ⟨30 + rn 4 % 100, by omega⟩
  let w : Word := UH_USVCFG_EN.into (BitVec.ofNat 32 (rn 5)) 1
  let s : State := ((List.range 21).foldl (fun y k => y.put UH_USVCFG_EN 1 k) (lock x 3)).put UH_USVCFG_EN 0 v.val
  ⟨s, m, v, w, by decide +kernel⟩

theorem witness_UhlaSuperframesAndTrips_1 : ∃ (s : State) (d : Nat),
    s.uhlaRuns = true ∧
    s.on UH_USTAT_ISOLATED = false ∧
    s.on UH_USTAT_MASTER = true ∧
    s.uhla.txAt = some d ∧
    s.uhla.handover ≠ some (s.uhla.sfn + 1) :=
  let x : State := State.reset
  let d : Nat := x.now + 70
  let s : State := ({((((lock x 3).wrw .RS_RSTREL 0xFFFFFF).put UH_UCTL_EN 1).put WI_SSTAT_LOCKED 1 synSerdes) with uhla := {x.uhla with txAt := some (x.now + 70), pstart := rn 6 % 2 == 0, handover := none}}.put UH_USTAT_MASTER 1).put UH_USTAT_ISOLATED 0
  ⟨s, d, by decide +kernel⟩

theorem witness_UhlaSuperframesAndTrips_2 : ∃ (s : State) (d : Nat),
    s.uhlaRuns = true ∧
    s.on UH_USTAT_ISOLATED = false ∧
    s.on UH_USTAT_MASTER = true ∧
    s.uhla.txAt = some d ∧
    s.uhla.handover = some (s.uhla.sfn + 1) :=
  let x : State := State.reset
  let d : Nat := x.now + 70
  let s : State := ({((((lock x 3).wrw .RS_RSTREL 0xFFFFFF).put UH_UCTL_EN 1).put WI_SSTAT_LOCKED 1 synSerdes) with uhla := {x.uhla with txAt := some (x.now + 70), handover := some (x.uhla.sfn + 1)}}.put UH_USTAT_MASTER 1).put UH_USTAT_ISOLATED 0
  ⟨s, d, by decide +kernel⟩

theorem witness_UhlaSuperframesAndTrips_3 : ∃ (s : State) (d : Nat),
    s.uhlaRuns = true ∧
    s.on UH_USTAT_ISOLATED = false ∧
    s.on UH_USTAT_MASTER = false ∧
    s.uhla.txAt = some d ∧
    s.routed 900 = true :=
  let x : State := State.reset
  let d : Nat := x.now + 70
  let s : State := ({((((lock x 3).wrw .RS_RSTREL 0xFFFFFF).put UH_UCTL_EN 1).put WI_SSTAT_LOCKED 1 synSerdes) with uhla := {x.uhla with txAt := some (x.now + 70), lastValid := x.now - 3000}}.put UH_USTAT_MASTER 0).put UH_USTAT_ISOLATED 0 |>.put IC_SRCCFG_TARGET (rn 15 % 17) (900)
  ⟨s, d, by decide +kernel⟩

theorem witness_UhlaSuperframesAndTrips_4 : ∃ (s : State),
    (s.uhlaRuns = false ∨ s.on UH_USTAT_ISOLATED = true ∨ s.uhla.txAt = none) :=
  let x : State := State.reset
  let s : State := ((((lock x 3).wrw .RS_RSTREL 0xFFFFFF).put UH_UCTL_EN 1).put WI_SSTAT_LOCKED 1 synSerdes).put UH_USTAT_ISOLATED 1
  ⟨s, by decide +kernel⟩

set_option maxRecDepth 100000 in
theorem witness_UhlaSuperframesAndTrips_5 : ∃ (s : State) (p : Fin 2) (sub : Fin 64) (f : List Byte),
    (s.uhlaRuns = false ∨ s.portIsUp p.val = false ∨ f.length ≠ 2960) :=
  let x : State := State.reset
  let p : Fin 2 := ⟨rn 4 % 2, by omega⟩
  let sub : Fin 64 := ⟨rn 8 % 64, by omega⟩
  let f : List Byte := (List.replicate 2960 9#8)
  let s : State := ((((lock x 3).wrw .RS_RSTREL 0xFFFFFF).put UH_UCTL_EN 1).put WI_SSTAT_LOCKED 1 synSerdes).put UH_UPORT_STATE 1 p.val
  ⟨s, p, sub, f, by decide +kernel⟩

set_option maxRecDepth 100000 in
theorem witness_UhlaSuperframesAndTrips_6 : ∃ (s : State) (p : Fin 2) (sub : Fin 64) (f : List Byte),
    s.uhlaRuns = true ∧
    s.portIsUp p.val = true ∧
    f.length = 2960 ∧
    fieldAt f 2956 4 = (crc32 (f.take 2956)).toNat ∧
    s.on UH_USTAT_MASTER = true ∧
    s.rankConflict f = false :=
  let x : State := State.reset
  let p : Fin 2 := ⟨rn 4 % 2, by omega⟩
  let sub : Fin 64 := ⟨rn 8 % 64, by omega⟩
  let f : List Byte := (sealFrame (patch (List.replicate sfBody 0#8) (sfSection 5) (leBytes 4 77 ++ [BitVec.ofNat 8 (3 + 16 * (rn 25 % 2))])))
  let s : State := (((((lock x 3).wrw .RS_RSTREL 0xFFFFFF).put UH_UCTL_EN 1).put WI_SSTAT_LOCKED 1 synSerdes).put UH_UPORT_STATE 2 p.val).put UH_USTAT_MASTER 1 |>.put UH_UCTL_RANK 9 |>.put UH_USVCFG_EN 0 40
  ⟨s, p, sub, f, by decide +kernel⟩

set_option maxRecDepth 100000 in
theorem witness_UhlaSuperframesAndTrips_7 : ∃ (s : State) (p : Fin 2) (sub : Fin 64) (f : List Byte),
    s.uhlaRuns = true ∧
    s.portIsUp p.val = true ∧
    f.length = 2960 ∧
    fieldAt f 2956 4 = (crc32 (f.take 2956)).toNat ∧
    s.on UH_USTAT_MASTER = false ∧
    s.rankConflict f = false :=
  let x : State := State.reset
  let p : Fin 2 := ⟨rn 4 % 2, by omega⟩
  let sub : Fin 64 := ⟨rn 8 % 64, by omega⟩
  let f : List Byte := (sealFrame (patch (patch (patch (patch (List.replicate sfBody 0#8) 0 (leBytes 4 (rn 20 % 2^32))) 6 [BitVec.ofNat 8 (rn 21 % 16)]) 8 (leBytes 4 (rn 22 % 90000))) (sfSection 5) (leBytes 4 77 ++ [3#8, 1#8, 0#8, 0#8] ++ [40#8, BitVec.ofNat 8 (rn 23 % 2), 0#8, 0#8] ++ leBytes 4 (rn 24 % 2^32))))
  let s : State := (((((lock x 3).wrw .RS_RSTREL 0xFFFFFF).put UH_UCTL_EN 1).put WI_SSTAT_LOCKED 1 synSerdes).put UH_UPORT_STATE 2 p.val).put UH_USTAT_MASTER 0 |>.put UH_UCTL_RANK 9 |>.put UH_USVCFG_EN 0 40
  ⟨s, p, sub, f, by decide +kernel⟩

set_option maxRecDepth 100000 in
theorem witness_UhlaSuperframesAndTrips_8 : ∃ (s : State) (p : Fin 2) (sub : Fin 64) (f : List Byte) (r : Nat) (v : Fin 256) (stale : Bool) (w : Word),
    s.uhlaRuns = true ∧
    s.portIsUp p.val = true ∧
    f.length = 2960 ∧
    fieldAt f 2956 4 = (crc32 (f.take 2956)).toNat ∧
    sectionEntries f = [(r, v.val, stale, w)] ∧
    r ≠ s.rank ∧
    s.sources v.val = false :=
  let x : State := State.reset
  let p : Fin 2 := ⟨rn 4 % 2, by omega⟩
  let sub : Fin 64 := ⟨rn 8 % 64, by omega⟩
  let f : List Byte := (sealFrame (patch (patch (patch (patch (List.replicate sfBody 0#8) 0 (leBytes 4 (rn 20 % 2^32))) 6 [BitVec.ofNat 8 (rn 21 % 16)]) 8 (leBytes 4 (rn 22 % 90000))) (sfSection 5) (leBytes 4 77 ++ [3#8, 1#8, 0#8, 0#8] ++ [40#8, BitVec.ofNat 8 (rn 23 % 2), 0#8, 0#8] ++ leBytes 4 (rn 24 % 2^32))))
  let r : Nat := 5
  let v : Fin 256 := 40
  let stale : Bool := rn 23 % 2 == 1
  let w : Word := BitVec.ofNat 32 (rn 24)
  let s : State := (((((lock x 3).wrw .RS_RSTREL 0xFFFFFF).put UH_UCTL_EN 1).put WI_SSTAT_LOCKED 1 synSerdes).put UH_UPORT_STATE 2 p.val).put UH_USTAT_MASTER 0 |>.put UH_UCTL_RANK 9 |>.put UH_USVCFG_EN 0 40
  ⟨s, p, sub, f, r, v, stale, w, by decide +kernel⟩

set_option maxRecDepth 100000 in
theorem witness_UhlaSuperframesAndTrips_9 : ∃ (s : State) (p : Fin 2) (sub : Fin 64) (f : List Byte),
    s.uhlaRuns = true ∧
    s.portIsUp p.val = true ∧
    f.length = 2960 ∧
    fieldAt f 2956 4 = (crc32 (f.take 2956)).toNat ∧
    s.rankConflict f = true ∧
    s.on UH_USTAT_ISOLATED = false ∧
    s.routed 901 = true :=
  let x : State := State.reset
  let p : Fin 2 := ⟨rn 4 % 2, by omega⟩
  let sub : Fin 64 := ⟨rn 8 % 64, by omega⟩
  let f : List Byte := (sealFrame (patch (List.replicate sfBody 0#8) (sfSection 5) [1#8, 2#8, 3#8, 4#8, 1#8]))
  let s : State := ((fun x : State => (((((lock x 3).wrw .RS_RSTREL 0xFFFFFF).put UH_UCTL_EN 1).put WI_SSTAT_LOCKED 1 synSerdes).put UH_UPORT_STATE 2 p.val)) {x with regs := sparseInsert (RegId.key .BK_DEVID 0 0) 7 x.regs}).put UH_UCTL_RANK 5 |>.put UH_USTAT_ISOLATED 0 |>.put IC_SRCCFG_TARGET (rn 15 % 17) (901)
  ⟨s, p, sub, f, by decide +kernel⟩

set_option maxRecDepth 100000 in
theorem witness_UhlaSuperframesAndTrips_10 : ∃ (s : State) (p : Fin 2) (sub : Fin 64) (f : List Byte),
    s.uhlaRuns = true ∧
    s.portIsUp p.val = true ∧
    f.length = 2960 ∧
    fieldAt f 2956 4 ≠ (crc32 (f.take 2956)).toNat ∧
    fieldAt f 2956 4 ≠ (~~~(crc32 (f.take 2956))).toNat ∧
    s.routed 902 = true :=
  let x : State := State.reset
  let p : Fin 2 := ⟨rn 4 % 2, by omega⟩
  let sub : Fin 64 := ⟨rn 8 % 64, by omega⟩
  let f : List Byte := (List.replicate 2960 9#8)
  let s : State := (let y := ((((((lock x 3).wrw .RS_RSTREL 0xFFFFFF).put UH_UCTL_EN 1).put WI_SSTAT_LOCKED 1 synSerdes).put UH_UPORT_STATE 2 p.val) |>.put IC_SRCCFG_TARGET (rn 15 % 17) (902)); {y with uhla := {y.uhla with badAt := Vector.replicate 2 (List.replicate (rn 26 % 20) y.now)}})
  ⟨s, p, sub, f, by decide +kernel⟩

set_option maxRecDepth 100000 in
theorem witness_UhlaSuperframesAndTrips_11 : ∃ (s : State) (p : Fin 2) (sub : Fin 64) (f : List Byte),
    s.uhlaRuns = true ∧
    s.portIsUp p.val = true ∧
    f.length = 2960 ∧
    fieldAt f 2956 4 = (~~~(crc32 (f.take 2956))).toNat :=
  let x : State := State.reset
  let p : Fin 2 := ⟨rn 4 % 2, by omega⟩
  let sub : Fin 64 := ⟨rn 8 % 64, by omega⟩
  let f : List Byte := (poisonFrame (List.replicate sfBody 7#8))
  let s : State := (((((lock x 3).wrw .RS_RSTREL 0xFFFFFF).put UH_UCTL_EN 1).put WI_SSTAT_LOCKED 1 synSerdes).put UH_UPORT_STATE 2 p.val)
  ⟨s, p, sub, f, by decide +kernel⟩

theorem witness_UhlaSuperframesAndTrips_12 : ∃ (s : State),
    s.uhlaRuns = true ∧
    s.on UH_USTAT_MASTER = false ∧
    s.mayLead = true ∧
    s.rank < 16 ∧
    s.uhla.txAt = none ∧
    (s.portIsUp 0 = true ∨ s.portIsUp 1 = true) ∧
    (∀ r : Fin 16, r.val ∈ s.flaggedRanks → r.val ≠ s.rank → ¬ (s.uhla.received = true ∧ r.val = s.oldMaster) → s.rank < r.val) :=
  let x : State := State.reset
  let s : State := {((((lock x 3).wrw .RS_RSTREL 0xFFFFFF).put UH_UCTL_EN 1).put WI_SSTAT_LOCKED 1 synSerdes) with uhla := {x.uhla with txAt := none, lastValid := x.now, flagged := #v[0, 0]}}.put UH_UPORT_STATE 2 |>.put UH_USTAT_MASTER 0 |>.put UH_UCTL_MFLAG 1 |>.put UH_USTAT_ISOLATED 0
  ⟨s, by decide +kernel⟩

theorem witness_UhlaSuperframesAndTrips_13 : ∃ (s : State) (q : Nat) (l : List Nat),
    s.uhlaRuns = true ∧
    s.on UH_USTAT_MASTER = false ∧
    s.uhla.txAt = none ∧
    (s.portIsUp 0 = true ∨ s.portIsUp 1 = true) ∧
    s.nextMasters = q :: l ∧
    q ≠ s.rank :=
  let x : State := State.reset
  let q : Nat := rn 5 % 3
  let l : List Nat := [9]
  let s : State := {((((lock x 3).wrw .RS_RSTREL 0xFFFFFF).put UH_UCTL_EN 1).put WI_SSTAT_LOCKED 1 synSerdes) with uhla := {x.uhla with txAt := none, lastValid := x.now, flagged := #v[BitVec.ofNat 32 (2 ^ (rn 5 % 3)), 0], received := true}}.put UH_UPORT_STATE 2 |>.put UH_USTAT_MASTER 0 |>.put UH_UCTL_MFLAG 1 |>.put UH_UCTL_RANK 9 |>.put UH_USTAT_MRANK 12 |>.put UH_USTAT_ISOLATED 0
  ⟨s, q, l, by decide +kernel⟩

theorem witness_UhlaSuperframesAndTrips_14 : ∃ (s : State),
    (s.uhlaRuns = false ∨ s.on UH_USTAT_MASTER = true ∨ s.uhla.txAt ≠ none ∨ (s.portIsUp 0 = false ∧ s.portIsUp 1 = false)) :=
  let x : State := State.reset
  let s : State := ((((lock x 3).wrw .RS_RSTREL 0xFFFFFF).put UH_UCTL_EN 1).put WI_SSTAT_LOCKED 1 synSerdes).put UH_USTAT_MASTER 1
  ⟨s, by decide +kernel⟩

theorem witness_UhlaSuperframesAndTrips_15 : ∃ (s : State),
    (s.uhlaRuns = false ∨ s.uhla.upSince = none ∨ s.on UH_USTAT_MASTER = true ∨ s.mayLead = false ∨ s.uhla.received = false ∨ s.get UH_USTAT_MRANK ≤ s.rank) :=
  let x : State := State.reset
  let s : State := ((((lock x 3).wrw .RS_RSTREL 0xFFFFFF).put UH_UCTL_EN 1).put WI_SSTAT_LOCKED 1 synSerdes).put UH_USTAT_MASTER 1
  ⟨s, by decide +kernel⟩

theorem witness_UhlaSuperframesAndTrips_16 : ∃ (s : State),
    s.deadline .tripRepeat = none :=
  let x : State := State.reset
  let s : State := {x with timers := []}
  ⟨s, by decide +kernel⟩

theorem witness_UhlaSuperframesAndTrips_17 : ∃ (s : State) (p : Fin 2) (origin : Fin 16) (tseq : Fin 16) (mask : BitVec 8) (gid : BitVec 8) (k : Bool),
    (s.uhlaRuns = false ∨ s.portIsUp p.val = false ∨ (k = true ∧ (gid.toNat ≠ s.get UH_UGID_GID % 256 ∨ (origin.val = s.rank ∧ s.uhla.returned = true)))) :=
  let x : State := State.reset
  let p : Fin 2 := ⟨rn 4 % 2, by omega⟩
  let origin : Fin 16 := default
  let tseq : Fin 16 := default
  let mask : BitVec 8 := default
  let gid : BitVec 8 := BitVec.ofNat 8 (x.get UH_UGID_GID + 1)
  let k : Bool := true
  let s : State := (((((lock x 3).wrw .RS_RSTREL 0xFFFFFF).put UH_UCTL_EN 1).put WI_SSTAT_LOCKED 1 synSerdes).put UH_UPORT_STATE 2 p.val)
  ⟨s, p, origin, tseq, mask, gid, k, by decide +kernel⟩

theorem witness_UhlaSuperframesAndTrips_18 : ∃ (s : State) (m : Master) (v : Word),
    s.busOpen m = true ∧
    s.lockstep m = true ∧
    (s.uhlaRuns = false ∨ s.on UH_USTAT_ISOLATED = true ∨ bit (BitVec.ofNat 32 (s.get UH_UTRIPCFG_TXSRC)) 2 = false ∨ UH_UTRIPGO_MASK.of v = 0) :=
  let x : State := State.reset
  let m : Master := .pair 3
  let v : Word := BitVec.ofNat 32 (rn 5)
  let s : State := ((((lock x 3).wrw .RS_RSTREL 0xFFFFFF).put UH_UCTL_EN 1).put WI_SSTAT_LOCKED 1 synSerdes).put UH_UTRIPCFG_TXSRC 3
  ⟨s, m, v, by decide +kernel⟩

theorem witness_UhlaSuperframesAndTrips_19 : ∃ (s : State) (m : Master) (v : Word),
    s.busOpen m = true ∧
    s.lockstep m = false :=
  let x : State := State.reset
  let m : Master := .dma
  let v : Word := BitVec.ofNat 32 (rn 5)
  let s : State := x
  ⟨s, m, v, by decide +kernel⟩

theorem witness_UhlaSuperframesAndTrips_20 : ∃ (s : State) (m : Master) (v : Word),
    s.busOpen m = true ∧
    s.lockstep m = false :=
  let x : State := State.reset
  let m : Master := .dma
  let v : Word := BitVec.ofNat 32 (rn 5)
  let s : State := x
  ⟨s, m, v, by decide +kernel⟩

theorem witness_UhlaSuperframesAndTrips_21 : ∃ (s : State) (d : Nat),
    s.uhlaRuns = true ∧
    s.uhla.upSince = some d ∧
    s.on UH_USTAT_MASTER = false ∧
    s.mayLead = true ∧
    s.uhla.received = true ∧
    s.rank < s.get UH_USTAT_MRANK :=
  let x : State := State.reset
  let d : Nat := x.now
  let s : State := {((((lock x 3).wrw .RS_RSTREL 0xFFFFFF).put UH_UCTL_EN 1).put WI_SSTAT_LOCKED 1 synSerdes) with uhla := {x.uhla with upSince := some x.now, received := true}}.put UH_USTAT_MASTER 0 |>.put UH_UCTL_MFLAG 1 |>.put UH_USTAT_ISOLATED 0 |>.put UH_UCTL_RANK (rn 5 % 7) |>.put UH_USTAT_MRANK (8 + rn 6 % 7)
  ⟨s, d, by decide +kernel⟩

theorem witness_UhlaSuperframesAndTrips_22 : ∃ (s : State) (d : Nat),
    s.deadline .tripRepeat = some d :=
  let x : State := State.reset
  let d : Nat := x.now + 9
  let s : State := {x with uhla := {x.uhla with trips := [⟨1, rn 4 % 256, rn 5 % 3⟩], returned := rn 6 % 2 == 0, sentAt := x.now - 720}}.arm .tripRepeat 9
  ⟨s, d, by decide +kernel⟩

theorem witness_UhlaSuperframesAndTrips_23 : ∃ (s : State) (p : Fin 2) (origin : Fin 16) (tseq : Fin 16) (mask : BitVec 8) (gid : BitVec 8),
    s.uhlaRuns = true ∧
    s.portIsUp p.val = true ∧
    s.routed 902 = true :=
  let x : State := State.reset
  let p : Fin 2 := ⟨rn 4 % 2, by omega⟩
  let origin : Fin 16 := default
  let tseq : Fin 16 := default
  let mask : BitVec 8 := default
  let gid : BitVec 8 := default
  let s : State := (((((lock x 3).wrw .RS_RSTREL 0xFFFFFF).put UH_UCTL_EN 1).put WI_SSTAT_LOCKED 1 synSerdes).put UH_UPORT_STATE 2 p.val) |>.put IC_SRCCFG_TARGET (rn 15 % 17) (902)
  ⟨s, p, origin, tseq, mask, gid, by decide +kernel⟩

theorem witness_UhlaSuperframesAndTrips_24 : ∃ (s : State) (p : Fin 2) (origin : Fin 16) (tseq : Fin 16) (mask : BitVec 8) (gid : BitVec 8),
    s.uhlaRuns = true ∧
    s.portIsUp p.val = true ∧
    gid.toNat = s.get UH_UGID_GID % 256 ∧
    origin.val = s.rank ∧
    s.uhla.returned = false :=
  let x : State := State.reset
  let p : Fin 2 := ⟨rn 4 % 2, by omega⟩
  let origin : Fin 16 := ⟨x.rank % 16, by omega⟩
  let tseq : Fin 16 := default
  let mask : BitVec 8 := default
  let gid : BitVec 8 := BitVec.ofNat 8 (x.get UH_UGID_GID)
  let s : State := {((((lock x 3).wrw .RS_RSTREL 0xFFFFFF).put UH_UCTL_EN 1).put WI_SSTAT_LOCKED 1 synSerdes) with uhla := {x.uhla with returned := false, sentAt := x.now - rn 7 % 900}}.put UH_UPORT_STATE 2 p.val
  ⟨s, p, origin, tseq, mask, gid, by decide +kernel⟩

theorem witness_UhlaSuperframesAndTrips_25 : ∃ (s : State) (p : Fin 2) (origin : Fin 16) (tseq : Fin 16) (mask : BitVec 8) (gid : BitVec 8),
    s.uhlaRuns = true ∧
    s.portIsUp p.val = true ∧
    gid.toNat = s.get UH_UGID_GID % 256 ∧
    origin.val ≠ s.rank ∧
    tseq.val ∉ s.uhla.seen[origin] ∧
    mask.toNat &&& s.get UH_UTRIPCFG_RXMASK ≠ 0 ∧
    s.routed 896 = true :=
  let x : State := State.reset
  let p : Fin 2 := ⟨rn 4 % 2, by omega⟩
  let origin : Fin 16 := ⟨(x.rank + 1) % 16, by omega⟩
  let tseq : Fin 16 := default
  let mask : BitVec 8 := BitVec.ofNat 8 (1 + rn 9 % 255)
  let gid : BitVec 8 := BitVec.ofNat 8 (x.get UH_UGID_GID)
  let s : State := (((((lock x 3).wrw .RS_RSTREL 0xFFFFFF).put UH_UCTL_EN 1).put WI_SSTAT_LOCKED 1 synSerdes).put UH_UPORT_STATE 2 p.val).put UH_UTRIPCFG_RXMASK 255 |>.put IC_SRCCFG_TARGET (rn 15 % 17) (896)
  ⟨s, p, origin, tseq, mask, gid, by decide +kernel⟩

theorem witness_UhlaSuperframesAndTrips_26 : ∃ (s : State) (p : Fin 2) (origin : Fin 16) (tseq : Fin 16) (mask : BitVec 8) (gid : BitVec 8),
    s.uhlaRuns = true ∧
    s.portIsUp p.val = true ∧
    gid.toNat = s.get UH_UGID_GID % 256 ∧
    origin.val ≠ s.rank ∧
    tseq.val ∈ s.uhla.seen[origin] :=
  let x : State := State.reset
  let p : Fin 2 := ⟨rn 4 % 2, by omega⟩
  let origin : Fin 16 := ⟨(x.rank + 1) % 16, by omega⟩
  let tseq : Fin 16 := 4
  let mask : BitVec 8 := default
  let gid : BitVec 8 := BitVec.ofNat 8 (x.get UH_UGID_GID)
  let s : State := {((((lock x 3).wrw .RS_RSTREL 0xFFFFFF).put UH_UCTL_EN 1).put WI_SSTAT_LOCKED 1 synSerdes) with uhla := {x.uhla with seen := Vector.replicate 16 [3, 4]}}.put UH_UPORT_STATE 2 p.val
  ⟨s, p, origin, tseq, mask, gid, by decide +kernel⟩

theorem witness_UhlaSuperframesAndTrips_27 : ∃ (s : State) (m : Master) (v : Word),
    s.busOpen m = true ∧
    s.lockstep m = true ∧
    s.uhlaRuns = true ∧
    s.on UH_USTAT_ISOLATED = false ∧
    bit (BitVec.ofNat 32 (s.get UH_UTRIPCFG_TXSRC)) 2 = true ∧
    UH_UTRIPGO_MASK.of v ≠ 0 ∧
    s.routed 897 = true :=
  let x : State := State.reset
  let m : Master := .pair 3
  let v : Word := UH_UTRIPGO_MASK.into (BitVec.ofNat 32 (rn 5)) (1 + rn 6 % 255)
  let s : State := ((((lock x 3).wrw .RS_RSTREL 0xFFFFFF).put UH_UCTL_EN 1).put WI_SSTAT_LOCKED 1 synSerdes).put UH_USTAT_ISOLATED 0 |>.put UH_UTRIPCFG_TXSRC 4 |>.put IC_SRCCFG_TARGET (rn 15 % 17) (897)
  ⟨s, m, v, by decide +kernel⟩

theorem witness_UhlaSuperframesAndTrips_28 : ∃ (s : State) (m : Master) (v : Word),
    s.busOpen m = true ∧
    s.lockstep m = true :=
  let x : State := State.reset
  let m : Master := .pair 3
  let v : Word := BitVec.ofNat 32 (rn 5)
  let s : State := {((((lock x 3).wrw .RS_RSTREL 0xFFFFFF).put UH_UCTL_EN 1).put WI_SSTAT_LOCKED 1 synSerdes) with uhla := {x.uhla with arrived := Vector.ofFn (fun g : Fin 8 => if rn (g.val + 20) % 2 = 0 then some x.now else none)}}.put UH_UTRIP_UTRIP (rn 6 % 256)
  ⟨s, m, v, by decide +kernel⟩

theorem witness_EthernetAndPtpWork_1 : ∃ (s : State) (p : Fin 2) (f : List Byte) (listed : Bool) (fifth : Fin 5) (taken : Vector Nat 4) (fcsOk : Bool),
    s.ethRuns p.val = true ∧
    (fcsOk = false ∨ 1522 < f.length + 4) ∧
    s.routed (719 + 16 * p.val) = true :=
  let x : State := State.reset
  let p : Fin 2 := ⟨rn 4 % 2, by omega⟩
  let f : List Byte := ((List.range 60).map (fun k => if k = 12 then 0x88#8 else if k = 13 then 0xB8#8 else if k = 14 then 0x12#8 else if k = 15 then 0x34#8 else BitVec.ofNat 8 (rn (k + 20))))
  let listed : Bool := rn 5 % 2 == 0
  let fifth : Fin 5 := ⟨rn 6 % 5, by omega⟩
  let taken : Vector Nat 4 := Vector.replicate 4 (rn 7 % 3)
  let fcsOk : Bool := false
  let s : State := {(x.wrw .RS_RSTREL 0xFFFFFF |>.put WI_SSTAT_LOCKED 1 synSerdes) with host := {x.host with rxq := Vector.replicate 8 [⟨[1], 2⟩, ⟨[3], 4⟩]}} |>.put IC_SRCCFG_TARGET (rn 15 % 17) (719 + 16 * p.val)
  ⟨s, p, f, listed, fifth, taken, fcsOk, by decide +kernel⟩

theorem witness_EthernetAndPtpWork_2 : ∃ (s : State) (p : Fin 2) (f : List Byte) (listed : Bool) (fifth : Fin 5) (taken : Vector Nat 4) (k : Fin 4),
    s.ethRuns p.val = true ∧
    f.length + 4 ≤ 1522 ∧
    s.rxRoute p.val f listed = (some k.val, false) ∧
    s.routed (704 + 16 * p.val + k.val) = true :=
  let x : State := State.reset
  let p : Fin 2 := ⟨rn 4 % 2, by omega⟩
  let f : List Byte := ((List.range 60).map (fun k => if k = 12 then 0x88#8 else if k = 13 then 0xB8#8 else if k = 14 then 0x12#8 else if k = 15 then 0x34#8 else BitVec.ofNat 8 (rn (k + 20))))
  let listed : Bool := rn 5 % 2 == 0
  let fifth : Fin 5 := ⟨rn 6 % 5, by omega⟩
  let taken : Vector Nat 4 := Vector.replicate 4 (rn 7 % 3)
  let k : Fin 4 := 2
  let s : State := {(x.wrw .RS_RSTREL 0xFFFFFF |>.put WI_SSTAT_LOCKED 1 synSerdes) with host := {x.host with rxq := Vector.replicate 8 [⟨[1], 2⟩, ⟨[3], 4⟩]}}.put ET_GFLT_EN 1 p.val 3 |>.put ET_GFLT_APPID 0x1234 p.val 3 |>.put ET_GFLT_QUEUE 2 p.val 3 |> (fun (y : State) => (List.range 3).foldl (fun (y : State) n => y.put ET_GFLT_EN 0 p.val n) y) |>.put IC_SRCCFG_TARGET (rn 15 % 17) (706 + 16 * p.val)
  ⟨s, p, f, listed, fifth, taken, k, by decide +kernel⟩

theorem witness_EthernetAndPtpWork_3 : ∃ (s : State) (p : Fin 2) (f : List Byte) (listed : Bool) (fifth : Fin 5) (taken : Vector Nat 4),
    s.ethRuns p.val = true ∧
    f.length + 4 ≤ 1522 ∧
    be16 f (etherAt f) = 0x88B8 ∧
    s.gooseEntry p.val (be16 f (etherAt f + 2)) = none ∧
    s.on ET_ETHCTL_GNOMATCH p.val = false ∧
    s.routed (716 + 16 * p.val) = true :=
  let x : State := State.reset
  let p : Fin 2 := ⟨rn 4 % 2, by omega⟩
  let f : List Byte := ((List.range 60).map (fun k => if k = 12 then 0x88#8 else if k = 13 then 0xB8#8 else if k = 14 then 0x12#8 else if k = 15 then 0x34#8 else BitVec.ofNat 8 (rn (k + 20))))
  let listed : Bool := rn 5 % 2 == 0
  let fifth : Fin 5 := ⟨rn 6 % 5, by omega⟩
  let taken : Vector Nat 4 := Vector.replicate 4 (rn 7 % 3)
  let s : State := (List.range 32).foldl (fun (y : State) n => y.put ET_GFLT_EN 0 p.val n) ({(x.wrw .RS_RSTREL 0xFFFFFF |>.put WI_SSTAT_LOCKED 1 synSerdes) with host := {x.host with rxq := Vector.replicate 8 [⟨[1], 2⟩, ⟨[3], 4⟩]}}.put ET_ETHCTL_GNOMATCH 0 p.val) |>.put IC_SRCCFG_TARGET (rn 15 % 17) (716 + 16 * p.val)
  ⟨s, p, f, listed, fifth, taken, by decide +kernel⟩

theorem witness_EthernetAndPtpWork_4 : ∃ (s : State) (p : Fin 2) (f : List Byte) (listed : Bool) (fifth : Fin 5) (taken : Vector Nat 4),
    s.ethRuns p.val = true ∧
    f.length + 4 ≤ 1522 ∧
    s.rxRoute p.val f listed = (none, false) ∧
    s.goodSync f = false :=
  let x : State := State.reset
  let p : Fin 2 := ⟨rn 4 % 2, by omega⟩
  let f : List Byte := (List.replicate 60 1#8)
  let listed : Bool := false
  let fifth : Fin 5 := ⟨rn 6 % 5, by omega⟩
  let taken : Vector Nat 4 := Vector.replicate 4 (rn 7 % 3)
  let s : State := {(x.wrw .RS_RSTREL 0xFFFFFF |>.put WI_SSTAT_LOCKED 1 synSerdes) with host := {x.host with rxq := Vector.replicate 8 [⟨[1], 2⟩, ⟨[3], 4⟩]}}
  ⟨s, p, f, listed, fifth, taken, by decide +kernel⟩

theorem witness_EthernetAndPtpWork_5 : ∃ (s : State) (p : Fin 2) (f : List Byte) (listed : Bool) (fifth : Fin 5) (taken : Vector Nat 4) (k : Bool),
    s.ethRuns p.val = false :=
  let x : State := State.reset
  let p : Fin 2 := ⟨rn 4 % 2, by omega⟩
  let f : List Byte := ((List.range 60).map (fun k => if k = 12 then 0x88#8 else if k = 13 then 0xB8#8 else if k = 14 then 0x12#8 else if k = 15 then 0x34#8 else BitVec.ofNat 8 (rn (k + 20))))
  let listed : Bool := rn 5 % 2 == 0
  let fifth : Fin 5 := ⟨rn 6 % 5, by omega⟩
  let taken : Vector Nat 4 := Vector.replicate 4 (rn 7 % 3)
  let k : Bool := rn 92 % 2 == 0
  let s : State := {x with regs := []}
  ⟨s, p, f, listed, fifth, taken, k, by decide +kernel⟩

theorem witness_EthernetAndPtpWork_6 : ∃ (s : State) (p : Fin 2) (y : List TxPost),
    s.ethRuns p.val = false ∧
    y.all (fun q => !s.crewOutput q.crew.val) = true :=
  let x : State := State.reset
  let p : Fin 2 := ⟨rn 4 % 2, by omega⟩
  let y : List TxPost := []
  let s : State := {x with regs := []}
  ⟨s, p, y, by decide +kernel⟩

theorem witness_EthernetAndPtpWork_7 : ∃ (s : State) (p : Fin 2) (y : List TxPost),
    y.all (fun q => !s.crewOutput q.crew.val) = true ∧
    (List.range 8).all (fun q => !s.txReady p.val q) = true :=
  let x : State := State.reset
  let p : Fin 2 := ⟨rn 4 % 2, by omega⟩
  let y : List TxPost := [⟨⟨rn 8 % 8, by omega⟩, 3, [], some [1,2], true, false⟩]
  let s : State := {(x.wrw .RS_RSTREL 0xFFFFFF |>.put WI_SSTAT_LOCKED 1 synSerdes) with host := {x.host with txq := Vector.replicate 16 ⟨3, [], []⟩}} |>.put DR_PSTATE_STATE 6 3 |>.updPlan (fun u => {u with crews := Vector.replicate 64 ⟨SP_CREWCTL_PAIR.into 0 3,1,1,1,1,1,1,1,1⟩})
  ⟨s, p, y, by decide +kernel⟩

theorem witness_EthernetAndPtpWork_8 : ∃ (s : State) (p : Fin 2) (up : Bool),
    (s.ethRuns p.val = false ∨ s.on ET_ETHSTAT_LINK p.val = up) :=
  let x : State := State.reset
  let p : Fin 2 := ⟨rn 4 % 2, by omega⟩
  let up : Bool := rn 5 % 2 == 0
  let s : State := {x with regs := []}
  ⟨s, p, up, by decide +kernel⟩

theorem witness_EthernetAndPtpWork_9 : ∃ (s : State) (p : Fin 2) (f : List Byte) (listed : Bool) (fifth : Fin 5) (taken : Vector Nat 4),
    s.ethRuns p.val = true ∧
    f.length + 4 ≤ 1522 ∧
    s.goodSync f = true :=
  let x : State := State.reset
  let p : Fin 2 := ⟨rn 4 % 2, by omega⟩
  let f : List Byte := ((List.range 60).map (fun k => if k = 12 then 0x88#8 else if k = 13 then 0xF7#8 else if k = 14 then 0#8 else if 34 ≤ k then 9#8 else BitVec.ofNat 8 (rn (k + 20))))
  let listed : Bool := rn 5 % 2 == 0
  let fifth : Fin 5 := ⟨rn 6 % 5, by omega⟩
  let taken : Vector Nat 4 := Vector.replicate 4 (rn 7 % 3)
  let s : State := {(x.wrw .RS_RSTREL 0xFFFFFF |>.put WI_SSTAT_LOCKED 1 synSerdes) with host := {x.host with rxq := Vector.replicate 8 [⟨[1], 2⟩, ⟨[3], 4⟩]}}.put ET_GMID_ID 0x09090909 0 0 |>.put ET_GMID_ID 0x09090909 0 1
  ⟨s, p, f, listed, fifth, taken, by decide +kernel⟩

theorem witness_EthernetAndPtpWork_10 : ∃ (s : State) (p : Fin 2) (q : Fin 8) (f : TxFrame) (l : List TxFrame),
    s.ethRuns p.val = true ∧
    s.txPick p.val = some q.val ∧
    (s.txQueue (8 * p.val + q.val)).frames = f :: l ∧
    s.routed (708 + 16 * p.val + q.val) = true :=
  let x : State := State.reset
  let p : Fin 2 := ⟨rn 4 % 2, by omega⟩
  let q : Fin 8 := ⟨rn 8 % 8, by omega⟩
  let f : TxFrame := ⟨((List.range 60).map (fun k => if k = 12 then 0x88#8 else if k = 13 then 0xB8#8 else if k = 14 then 0x12#8 else if k = 15 then 0x34#8 else BitVec.ofNat 8 (rn (k + 20)))), rn 9 % 2 == 0, false, false⟩
  let l : List TxFrame := [⟨[5], false, false, false⟩]
  let s : State := (({(x.wrw .RS_RSTREL 0xFFFFFF |>.put WI_SSTAT_LOCKED 1 synSerdes) with host := {x.host with txq := Vector.ofFn (fun k : Fin 16 => ⟨3, [], if k.val % 8 = rn 8 % 8 then [⟨((List.range 60).map (fun k => if k = 12 then 0x88#8 else if k = 13 then 0xB8#8 else if k = 14 then 0x12#8 else if k = 15 then 0x34#8 else BitVec.ofNat 8 (rn (k + 20)))), rn 9 % 2 == 0, false, false⟩, ⟨[5], false, false, false⟩] else []⟩)}} |>.updPlan (fun u => {u with haltedCrews := [], crews := Vector.replicate 64 ⟨SP_CREWCTL_ETHPORT.into (SP_CREWCTL_EN.into (SP_CREWCTL_PAIR.into 0 3) 1) p.val,1,1,1,1,1,1,1,1⟩}))).put SP_REMAIN2_ETH 9 3 |>.put SP_CREWSTAT_EXHAUSTED 0 3 |>.put SP_CREWSTAT_FLOORED 0 3 |>.put DR_PSTATE_STATE 2 3 |>.put IC_SRCCFG_TARGET (rn 15 % 17) (708 + 16 * p.val + rn 8 % 8)
  ⟨s, p, q, f, l, by decide +kernel⟩

theorem witness_EthernetAndPtpWork_11 : ∃ (s : State) (p : Fin 2) (y : TxPost) (g : List Byte),
    y.frame = some g ∧
    s.crewOutput y.crew.val = true ∧
    (List.range 8).all (fun q => !s.txReady p.val q) = true ∧
    s.hasBudget y.crew.val .eth = false :=
  let x : State := State.reset
  let p : Fin 2 := ⟨rn 4 % 2, by omega⟩
  let y : TxPost := ⟨⟨rn 8 % 8, by omega⟩, 3, [], some [1,2], true, false⟩
  let g : List Byte := [1,2]
  let s : State := {(x.wrw .RS_RSTREL 0xFFFFFF |>.put WI_SSTAT_LOCKED 1 synSerdes) with host := {x.host with txq := Vector.ofFn (fun k : Fin 16 => ⟨3, [], [⟨[5], false, false, false⟩]⟩)}}.put SP_REMAIN2_ETH 0 3
  ⟨s, p, y, g, by decide +kernel⟩

theorem witness_EthernetAndPtpWork_12 : ∃ (s : State) (p : Fin 2) (up : Bool),
    s.ethRuns p.val = true ∧
    s.on ET_ETHSTAT_LINK p.val ≠ up ∧
    s.routed (717 + 16 * p.val) = true :=
  let x : State := State.reset
  let p : Fin 2 := ⟨rn 4 % 2, by omega⟩
  let up : Bool := rn 5 % 2 == 0
  let s : State := (x.wrw .RS_RSTREL 0xFFFFFF |>.put WI_SSTAT_LOCKED 1 synSerdes).put ET_ETHSTAT_LINK (rn 5 % 2) p.val |>.put IC_SRCCFG_TARGET (rn 15 % 17) (717 + 16 * p.val)
  ⟨s, p, up, by decide +kernel⟩

theorem witness_EthernetAndPtpWork_13 : ∃ (s : State) (m : Master) (v : Word),
    s.busOpen m = true ∧
    s.released uEth = true ∧
    s.routed 737 = true :=
  let x : State := State.reset
  let m : Master := .pair ⟨rn 110 % 16, by omega⟩
  let v : Word := BitVec.ofNat 32 (rn 7)
  let s : State := {(x.wrw .RS_RSTREL 0xFFFFFF |>.put WI_SSTAT_LOCKED 1 synSerdes) with host := {x.host with ptp := rn 5 * 2^20, ptpAt := x.now - 7}}.wrw .ET_PTPADJ (BitVec.ofNat 32 (rn 6 % 1000000)) |>.put IC_SRCCFG_TARGET (rn 15 % 17) (737)
  ⟨s, m, v, by decide +kernel⟩

theorem witness_EthernetAndPtpWork_14 : ∃ (s : State),
    s.released uEth = true ∧
    0 < s.ptpRate ∧
    s.routed 737 = true :=
  let x : State := State.reset
  let s : State := {(x.wrw .RS_RSTREL 0xFFFFFF |>.put WI_SSTAT_LOCKED 1 synSerdes) with host := {x.host with ptp := rn 5 * 2^20, ptpAt := x.now - 7}}.wrw .ET_PTPADJ (BitVec.ofNat 32 (rn 6 % 1000000)) |>.put IC_SRCCFG_TARGET (rn 15 % 17) (737)
  ⟨s, by decide +kernel⟩

theorem witness_EthernetAndPtpWork_15 : ∃ (s : State) (m : Master) (v : Word),
    s.busOpen m = true ∧
    ET_PTPTRUST_EN.of v = 1 ∧
    s.recent s.host.syncAt = true ∧
    s.trusted = false ∧
    s.lampAgrees = true ∧
    s.routed 736 = true :=
  let x : State := State.reset
  let m : Master := .pair ⟨rn 110 % 16, by omega⟩
  let v : Word := ET_PTPTRUST_EN.into (BitVec.ofNat 32 (rn 5)) 1
  let s : State := {(x.wrw .RS_RSTREL 0xFFFFFF |>.put WI_SSTAT_LOCKED 1 synSerdes) with host := {x.host with syncAt := some (x.now), lockAt := some (x.now), barred := false}, lamp := {x.lamp with rtcSet := none}}.put ET_PTPTRUST_TRUSTED 0 |>.put IC_SRCCFG_TARGET (rn 15 % 17) (736)
  ⟨s, m, v, by decide +kernel⟩

theorem witness_EthernetAndPtpWork_16 : ∃ (s : State) (m : Master) (v : Word),
    s.busOpen m = true ∧
    ET_PTPTRUST_EN.of v = 1 ∧
    s.recent s.host.syncAt = true ∧
    s.trusted = false ∧
    s.lampAgrees = false :=
  let x : State := State.reset
  let m : Master := .pair ⟨rn 110 % 16, by omega⟩
  let v : Word := ET_PTPTRUST_EN.into (BitVec.ofNat 32 (rn 5)) 1
  let s : State := {(x.wrw .RS_RSTREL 0xFFFFFF |>.put WI_SSTAT_LOCKED 1 synSerdes) with host := {x.host with syncAt := some x.now, barred := false, ptp := 2^85 + 2^84, ptpAt := x.now}, lamp := {x.lamp with rtcSet := some 5, rtc := 5, rtcAt := x.now}}.put ET_PTPTRUST_TRUSTED 0
  ⟨s, m, v, by decide +kernel⟩

theorem witness_EthernetAndPtpWork_17 : ∃ (s : State),
    (s.released uEth = false ∨ s.ptpRate ≤ 0) :=
  let x : State := State.reset
  let s : State := x.wrw .RS_RSTREL 0
  ⟨s, by decide +kernel⟩

theorem witness_EthernetAndPtpWork_18 : ∃ (s : State) (m : Master) (v : Word),
    s.busOpen m = true ∧
    (ET_PTPTRUST_EN.of v = 0 ∨ s.recent s.host.syncAt = false) ∧
    s.trusted = false :=
  let x : State := State.reset
  let m : Master := .pair ⟨rn 110 % 16, by omega⟩
  let v : Word := BitVec.ofNat 32 (rn 5)
  let s : State := {(x.wrw .RS_RSTREL 0xFFFFFF |>.put WI_SSTAT_LOCKED 1 synSerdes) with host := {x.host with syncAt := none}}.put ET_PTPTRUST_TRUSTED 0
  ⟨s, m, v, by decide +kernel⟩

theorem witness_EthernetAndPtpWork_19 : ∃ (s : State) (m : Master) (v : Word),
    s.busOpen m = true ∧
    ET_PTPTRUST_EN.of v = 1 ∧
    s.recent s.host.syncAt = true ∧
    s.trusted = true :=
  let x : State := State.reset
  let m : Master := .pair ⟨rn 110 % 16, by omega⟩
  let v : Word := ET_PTPTRUST_EN.into (BitVec.ofNat 32 (rn 5)) 1
  let s : State := {(x.wrw .RS_RSTREL 0xFFFFFF |>.put WI_SSTAT_LOCKED 1 synSerdes) with host := {x.host with syncAt := some (x.now), lockAt := some (x.now), barred := false}, lamp := {x.lamp with rtcSet := none}}.put ET_PTPTRUST_TRUSTED 1
  ⟨s, m, v, by decide +kernel⟩

theorem witness_EthernetAndPtpWork_20 : ∃ (s : State),
    s.trusted = false :=
  let x : State := State.reset
  let s : State := x.put ET_PTPTRUST_TRUSTED 0
  ⟨s, by decide +kernel⟩

theorem witness_EthernetAndPtpWork_21 : ∃ (s : State) (a : Nat) (b : Nat),
    s.trusted = true ∧
    s.host.syncAt = some a ∧
    s.host.lockAt = some b ∧
    s.routed 736 = true :=
  let x : State := State.reset
  let a : Nat := x.now - 3
  let b : Nat := x.now - 9
  let s : State := {(x.wrw .RS_RSTREL 0xFFFFFF |>.put WI_SSTAT_LOCKED 1 synSerdes) with host := {x.host with syncAt := some (x.now - 3), lockAt := some (x.now - 9), barred := false}, lamp := {x.lamp with rtcSet := none}}.put ET_PTPTRUST_TRUSTED 1 |>.put IC_SRCCFG_TARGET (rn 15 % 17) (736)
  ⟨s, a, b, by decide +kernel⟩

theorem witness_SerialLinksAndPins_1 : ∃ (s : State) (n : Fin 4) (buf : Fin 64) (f : CanMsg),
    s.released uHostx = true ∧
    canLegal f = true ∧
    s.routed (768 + 4 * n.val) = true :=
  let x : State := State.reset
  let n : Fin 4 := ⟨rn 4 % 4, by omega⟩
  let buf : Fin 64 := ⟨rn 5 % 64, by omega⟩
  let f : CanMsg := ⟨BitVec.ofNat 29 (rn 7 % 2048), false, true, [1,2,3,4,5,6,7,8,9,10,11,12]⟩
  let s : State := (x.wrw .RS_RSTREL 0xFFFFFF |>.put WI_SSTAT_LOCKED 1 synSerdes) |>.put IC_SRCCFG_TARGET (rn 15 % 17) (768 + 4 * n.val)
  ⟨s, n, buf, f, by decide +kernel⟩

theorem witness_SerialLinksAndPins_2 : ∃ (s : State) (n : Fin 4) (buf : Fin 64) (f : CanSend),
    s.released uHostx = true ∧
    canLegal f.msg = true ∧
    s.sends f.sender = true ∧
    s.routed (769 + 4 * n.val) = true :=
  let x : State := State.reset
  let n : Fin 4 := ⟨rn 4 % 4, by omega⟩
  let buf : Fin 64 := ⟨rn 5 % 64, by omega⟩
  let f : CanSend := ⟨if rn 8 % 2 = 0 then none else some 5, ⟨BitVec.ofNat 29 (rn 7 % 2048), false, true, [1,2,3,4,5,6,7,8,9,10,11,12]⟩⟩
  let s : State := (x.wrw .RS_RSTREL 0xFFFFFF |>.put WI_SSTAT_LOCKED 1 synSerdes).put DR_PSTATE_STATE 2 5  |>.put IC_SRCCFG_TARGET (rn 15 % 17) (769 + 4 * n.val)
  ⟨s, n, buf, f, by decide +kernel⟩

theorem witness_SerialLinksAndPins_3 : ∃ (s : State) (n : Fin 4) (st : Fin 3),
    s.released uHostx = true ∧
    s.host.canErr[n] ≠ st.val ∧
    s.routed (770 + 4 * n.val) = true ∧
    s.routed (771 + 4 * n.val) = true :=
  let x : State := State.reset
  let n : Fin 4 := ⟨rn 4 % 4, by omega⟩
  let st : Fin 3 := ⟨(rn 5 + 1) % 3, by omega⟩
  let s : State := {(x.wrw .RS_RSTREL 0xFFFFFF |>.put WI_SSTAT_LOCKED 1 synSerdes) with host := {x.host with canErr := Vector.replicate 4 (rn 5 % 3)}} |>.put IC_SRCCFG_TARGET (rn 15 % 17) (770 + 4 * n.val) |>.put IC_SRCCFG_TARGET (rn 16 % 17) (771 + 4 * n.val)
  ⟨s, n, st, by decide +kernel⟩

theorem witness_SerialLinksAndPins_4 : ∃ (s : State) (n : Fin 6) (c : Byte) (modbus : Bool) (taken : Nat),
    (n.val ≠ 0 ∨ s.bank.uart = false) ∧
    s.released uHostx = true ∧
    (s.host.uarts[n].rx.drop taken).length < 64 ∧
    s.routed (784 + 2 * n.val) = true :=
  let x : State := State.reset
  let n : Fin 6 := ⟨1 + rn 4 % 5, by omega⟩
  let c : Byte := BitVec.ofNat 8 (rn 5)
  let modbus : Bool := rn 6 % 2 == 0
  let taken : Nat := rn 7 % 3
  let s : State := {(x.wrw .RS_RSTREL 0xFFFFFF |>.put WI_SSTAT_LOCKED 1 synSerdes) with host := {x.host with uarts := Vector.replicate 6 ⟨[1,2,3], [4], false, false, []⟩}} |>.put IC_SRCCFG_TARGET (rn 15 % 17) (784 + 2 * n.val)
  ⟨s, n, c, modbus, taken, by decide +kernel⟩

theorem witness_SerialLinksAndPins_5 : ∃ (s : State) (n : Fin 6) (c : Byte) (modbus : Bool) (taken : Nat),
    (n.val ≠ 0 ∨ s.bank.uart = false) ∧
    s.released uHostx = true ∧
    64 ≤ (s.host.uarts[n].rx.drop taken).length ∧
    s.routed (785 + 2 * n.val) = true :=
  let x : State := State.reset
  let n : Fin 6 := ⟨1 + rn 4 % 5, by omega⟩
  let c : Byte := BitVec.ofNat 8 (rn 5)
  let modbus : Bool := rn 6 % 2 == 0
  let taken : Nat := 0
  let s : State := {(x.wrw .RS_RSTREL 0xFFFFFF |>.put WI_SSTAT_LOCKED 1 synSerdes) with host := {x.host with uarts := Vector.replicate 6 ⟨List.replicate 64 3#8, [4], false, false, []⟩}} |>.put IC_SRCCFG_TARGET (rn 15 % 17) (785 + 2 * n.val)
  ⟨s, n, c, modbus, taken, by decide +kernel⟩

theorem witness_SerialLinksAndPins_6 : ∃ (s : State) (n : Fin 6) (c : Byte) (modbus : Bool) (taken : Nat),
    n.val = 0 ∧
    s.bank.uart = true ∧
    (s.bank.uartIn ++ [c]).length < uartNeeds (s.bank.uartIn ++ [c]) :=
  let x : State := State.reset
  let n : Fin 6 := 0
  let c : Byte := BitVec.ofNat 8 (rn 5)
  let modbus : Bool := rn 92 % 2 == 0
  let taken : Nat := 0
  let s : State := {x with bank := {x.bank with uart := true, uartIn := [1, 2]}}
  ⟨s, n, c, modbus, taken, by decide +kernel⟩

theorem witness_SerialLinksAndPins_7 : ∃ (s : State) (n : Fin 6) (l : UartSend) (modbus : Bool) (err : Bool),
    s.released uHostx = true ∧
    s.sends l.sender = true ∧
    s.routed (785 + 2 * n.val) = true :=
  let x : State := State.reset
  let n : Fin 6 := ⟨rn 4 % 6, by omega⟩
  let l : UartSend := ⟨none, [1, 2, BitVec.ofNat 8 (rn 5)]⟩
  let modbus : Bool := rn 92 % 2 == 0
  let err : Bool := rn 92 % 2 == 0
  let s : State := (x.wrw .RS_RSTREL 0xFFFFFF |>.put WI_SSTAT_LOCKED 1 synSerdes) |>.put IC_SRCCFG_TARGET (rn 15 % 17) (785 + 2 * n.val)
  ⟨s, n, l, modbus, err, by decide +kernel⟩

theorem witness_SerialLinksAndPins_8 : ∃ (s : State) (n : Fin 6) (gap : Bool),
    s.released uHostx = true ∧
    s.host.uarts[n].frame ≠ [] ∧
    s.routed (784 + 2 * n.val) = true :=
  let x : State := State.reset
  let n : Fin 6 := ⟨rn 4 % 6, by omega⟩
  let gap : Bool := rn 92 % 2 == 0
  let s : State := {(x.wrw .RS_RSTREL 0xFFFFFF |>.put WI_SSTAT_LOCKED 1 synSerdes) with host := {x.host with uarts := Vector.replicate 6 ⟨[1,2,3], [4, 5] ++ leBytes 2 (crc16 [4, 5]).toNat, false, false, []⟩}} |>.put IC_SRCCFG_TARGET (rn 15 % 17) (784 + 2 * n.val)
  ⟨s, n, gap, by decide +kernel⟩

theorem witness_SerialLinksAndPins_9 : ∃ (s : State) (n : Fin 4) (len : Fin 33) (rx : Word) (tx : Word),
    s.released uHostx = true ∧
    4 ≤ len.val ∧
    s.routed (796 + n.val) = true :=
  let x : State := State.reset
  let n : Fin 4 := ⟨rn 4 % 4, by omega⟩
  let len : Fin 33 := ⟨4 + rn 5 % 29, by omega⟩
  let rx : Word := BitVec.ofNat 32 (rn 6)
  let tx : Word := BitVec.ofNat 32 (rn 7)
  let s : State := (x.wrw .RS_RSTREL 0xFFFFFF |>.put WI_SSTAT_LOCKED 1 synSerdes) |>.put IC_SRCCFG_TARGET (rn 15 % 17) (796 + n.val)
  ⟨s, n, len, rx, tx, by decide +kernel⟩

theorem witness_SerialLinksAndPins_10 : ∃ (s : State) (n : Fin 2) (l : List Byte),
    s.released uHostx = true ∧
    s.routed (800 + n.val) = true :=
  let x : State := State.reset
  let n : Fin 2 := ⟨rn 4 % 2, by omega⟩
  let l : List Byte := [1, BitVec.ofNat 8 (rn 5)]
  let s : State := (x.wrw .RS_RSTREL 0xFFFFFF |>.put WI_SSTAT_LOCKED 1 synSerdes) |>.put IC_SRCCFG_TARGET (rn 15 % 17) (800 + n.val)
  ⟨s, n, l, by decide +kernel⟩

theorem witness_SerialLinksAndPins_11 : ∃ (s : State) (g : Fin 64) (level : Bool),
    s.released uHostx = true ∧
    s.routed (832 + g.val) = true :=
  let x : State := State.reset
  let g : Fin 64 := ⟨rn 4 % 64, by omega⟩
  let level : Bool := rn 92 % 2 == 0
  let s : State := (x.wrw .RS_RSTREL 0xFFFFFF |>.put WI_SSTAT_LOCKED 1 synSerdes).put GP_GPIOCFG_IRQ 3 g.val |>.put IC_SRCCFG_TARGET (rn 15 % 17) (832 + g.val)
  ⟨s, g, level, by decide +kernel⟩

theorem witness_SerialLinksAndPins_12 : ∃ (s : State) (n : Fin 4) (buf : Fin 64) (f : CanMsg) (k : Bool),
    (s.released uHostx = false ∨ k = false ∨ canLegal f = false) :=
  let x : State := State.reset
  let n : Fin 4 := ⟨rn 4 % 4, by omega⟩
  let buf : Fin 64 := ⟨rn 5 % 64, by omega⟩
  let f : CanMsg := ⟨BitVec.ofNat 29 (rn 7 % 2048), false, true, [1,2,3,4,5,6,7,8,9,10,11,12]⟩
  let k : Bool := rn 92 % 2 == 0
  let s : State := {(x.wrw .RS_RSTREL 0) with host := {x.host with uarts := Vector.replicate 6 ⟨[1,2,3], [4], false, false, []⟩}}
  ⟨s, n, buf, f, k, by decide +kernel⟩

theorem witness_SerialLinksAndPins_13 : ∃ (s : State) (n : Fin 4) (buf : Fin 64) (f : CanSend),
    (s.released uHostx = false ∨ canLegal f.msg = false ∨ s.sends f.sender = false) :=
  let x : State := State.reset
  let n : Fin 4 := ⟨rn 4 % 4, by omega⟩
  let buf : Fin 64 := ⟨rn 5 % 64, by omega⟩
  let f : CanSend := ⟨some 5, ⟨BitVec.ofNat 29 (rn 7 % 2048), false, true, [1,2,3,4,5,6,7,8,9,10,11,12]⟩⟩
  let s : State := (x.wrw .RS_RSTREL 0xFFFFFF |>.put WI_SSTAT_LOCKED 1 synSerdes).put DR_PSTATE_STATE 6 5
  ⟨s, n, buf, f, by decide +kernel⟩

theorem witness_SerialLinksAndPins_14 : ∃ (s : State) (n : Fin 4) (st : Fin 3),
    (s.released uHostx = false ∨ s.host.canErr[n] = st.val) :=
  let x : State := State.reset
  let n : Fin 4 := ⟨rn 4 % 4, by omega⟩
  let st : Fin 3 := 1
  let s : State := {(x.wrw .RS_RSTREL 0) with host := {x.host with uarts := Vector.replicate 6 ⟨[1,2,3], [4], false, false, []⟩}}
  ⟨s, n, st, by decide +kernel⟩

theorem witness_SerialLinksAndPins_15 : ∃ (s : State) (n : Fin 6) (l : UartSend) (modbus : Bool) (err : Bool),
    (s.released uHostx = false ∨ s.sends l.sender = false) :=
  let x : State := State.reset
  let n : Fin 6 := ⟨rn 4 % 6, by omega⟩
  let l : UartSend := ⟨some 5, [1]⟩
  let modbus : Bool := rn 92 % 2 == 0
  let err : Bool := rn 92 % 2 == 0
  let s : State := (x.wrw .RS_RSTREL 0xFFFFFF |>.put WI_SSTAT_LOCKED 1 synSerdes).put DR_PSTATE_STATE 6 5
  ⟨s, n, l, modbus, err, by decide +kernel⟩

theorem witness_SerialLinksAndPins_16 : ∃ (s : State) (n : Fin 6) (gap : Bool),
    (s.released uHostx = false ∨ s.host.uarts[n].frame = []) :=
  let x : State := State.reset
  let n : Fin 6 := ⟨rn 4 % 6, by omega⟩
  let gap : Bool := rn 92 % 2 == 0
  let s : State := {(x.wrw .RS_RSTREL 0) with host := {x.host with uarts := Vector.replicate 6 ⟨[1,2,3], [4], false, false, []⟩}}
  ⟨s, n, gap, by decide +kernel⟩

theorem witness_SerialLinksAndPins_17 : ∃ (s : State) (n : Fin 4) (len : Fin 33) (rx : Word) (tx : Word),
    (s.released uHostx = false ∨ len.val < 4) :=
  let x : State := State.reset
  let n : Fin 4 := ⟨rn 4 % 4, by omega⟩
  let len : Fin 33 := ⟨4 + rn 5 % 29, by omega⟩
  let rx : Word := BitVec.ofNat 32 (rn 91)
  let tx : Word := BitVec.ofNat 32 (rn 91)
  let s : State := {(x.wrw .RS_RSTREL 0) with host := {x.host with uarts := Vector.replicate 6 ⟨[1,2,3], [4], false, false, []⟩}}
  ⟨s, n, len, rx, tx, by decide +kernel⟩

theorem witness_SerialLinksAndPins_18 : ∃ (s : State) (n : Fin 2) (l : List Byte),
    s.released uHostx = false :=
  let x : State := State.reset
  let n : Fin 2 := ⟨rn 4 % 2, by omega⟩
  let l : List Byte := [1]
  let s : State := {(x.wrw .RS_RSTREL 0) with host := {x.host with uarts := Vector.replicate 6 ⟨[1,2,3], [4], false, false, []⟩}}
  ⟨s, n, l, by decide +kernel⟩

theorem witness_SerialLinksAndPins_19 : ∃ (s : State) (g : Fin 64) (level : Bool),
    s.released uHostx = false :=
  let x : State := State.reset
  let g : Fin 64 := ⟨rn 4 % 64, by omega⟩
  let level : Bool := rn 92 % 2 == 0
  let s : State := {(x.wrw .RS_RSTREL 0) with host := {x.host with uarts := Vector.replicate 6 ⟨[1,2,3], [4], false, false, []⟩}}
  ⟨s, g, level, by decide +kernel⟩

theorem witness_SerialLinksAndPins_20 : ∃ (s : State) (n : Fin 6) (c : Byte) (modbus : Bool) (taken : Nat),
    s.released uHostx = false ∧
    (n.val ≠ 0 ∨ s.bank.uart = false) :=
  let x : State := State.reset
  let n : Fin 6 := ⟨1 + rn 4 % 5, by omega⟩
  let c : Byte := BitVec.ofNat 8 (rn 5)
  let modbus : Bool := rn 92 % 2 == 0
  let taken : Nat := 0
  let s : State := {(x.wrw .RS_RSTREL 0) with host := {x.host with uarts := Vector.replicate 6 ⟨[1,2,3], [4], false, false, []⟩}}
  ⟨s, n, c, modbus, taken, by decide +kernel⟩

theorem witness_ReportBufferIsLatched_1 : ∃ (s : State) (m : Master) (e : Eng) (v : Word),
    s.busOpen m = true ∧
    s.engExists e.val = true ∧
    s.mayWriteCell m (e.val / 2) = true :=
  let x : State := State.reset
  let m : Master := .pair ⟨rn 110 % 16, by omega⟩
  let e : Eng := ⟨2 * (rn 4 % 48), by omega⟩
  let v : Word := BitVec.ofNat 32 (rn 91)
  let s : State := (List.range 8).foldl (fun s b => (s.put BLK_BLKCTL_OWNED 0 b).put BLK_BLKCTL_STATE 0 b) (x.wrw .RS_RSTREL 0xFFFFFF) |>.updEng e.val (fun u => {u with data := [(385, 9), (400, 11)]})
  ⟨s, m, e, v, by decide +kernel⟩

theorem witness_BudgetIsHeldToWcet_1 : ∃ (s : State) (e : Eng) (p : PickProgram),
    s.pick.loads.contains e.val = true ∧
    (s.eng e.val).load = some p :=
  let x : State := State.reset
  let e : Eng := ⟨2 * (rn 4 % 48), by omega⟩
  let p : PickProgram := prog1 9 rn
  let s : State := {x.updEng e.val (fun u => {u with load := some (prog1 9 rn)}) with pick := {(x.updEng e.val (fun u => {u with load := some (prog1 9 rn)})).pick with loads := [e.val, 5]}}
  ⟨s, e, p, by decide +kernel⟩

theorem witness_BudgetIsHeldToWcet_2 : ∃ (s : State) (m : Master) (e : Eng) (v : Word),
    s.busOpen m = true ∧
    s.engExists e.val = true ∧
    s.mayWriteCell m (e.val / 2) = true ∧
    s.get PK_BUDGET_WCET e.val ≤ PK_BUDGET_BUDGET.of v ∧
    PK_BUDGET_BUDGET.of v ≤ 4096 ∧
    PK_BUDGET_BUDGET.of v ≠ 0 :=
  let x : State := State.reset
  let m : Master := .pair ⟨rn 110 % 16, by omega⟩
  let e : Eng := ⟨2 * (rn 4 % 48), by omega⟩
  let v : Word := PK_BUDGET_BUDGET.into (BitVec.ofNat 32 (rn 6)) (5 + rn 7 % 4092)
  let s : State := (List.range 8).foldl (fun s b => (s.put BLK_BLKCTL_OWNED 0 b).put BLK_BLKCTL_STATE 0 b) (x.wrw .RS_RSTREL 0xFFFFFF) |>.put PK_BUDGET_WCET 5 e.val
  ⟨s, m, e, v, by decide +kernel⟩

theorem witness_BudgetIsHeldToWcet_3 : ∃ (s : State) (m : Master) (e : Eng) (v : Word),
    s.busOpen m = true ∧
    s.engExists e.val = true ∧
    s.mayWriteCell m (e.val / 2) = true ∧
    (PK_BUDGET_BUDGET.of v < s.get PK_BUDGET_WCET e.val ∨ 4096 < PK_BUDGET_BUDGET.of v ∨ PK_BUDGET_BUDGET.of v = 0) ∧
    PK_BUDGET_BUDGET.of v ≠ s.get PK_BUDGET_BUDGET e.val :=
  let x : State := State.reset
  let m : Master := .pair ⟨rn 110 % 16, by omega⟩
  let e : Eng := ⟨2 * (rn 4 % 48), by omega⟩
  let v : Word := PK_BUDGET_BUDGET.into (BitVec.ofNat 32 (rn 6)) (match rn 7 % 3 with | 0 => 49 | 1 => 4097 | _ => 0)
  let s : State := (List.range 8).foldl (fun s b => (s.put BLK_BLKCTL_OWNED 0 b).put BLK_BLKCTL_STATE 0 b) (x.wrw .RS_RSTREL 0xFFFFFF) |>.put PK_BUDGET_WCET 50 e.val |>.put PK_BUDGET_BUDGET 300 e.val
  ⟨s, m, e, v, by decide +kernel⟩

theorem witness_RetentionMemoryIsOfPairs_1 : ∃ (s : State) (m : Master) (k : Fin 1024) (v : Word),
    s.busOpen m = true ∧
    s.lockstep m = true :=
  let x : State := State.reset
  let m : Master := .pair 3
  let k : Fin 1024 := ⟨rn 4 % 1024, by omega⟩
  let v : Word := BitVec.ofNat 32 (rn 91)
  let s : State := lock x 3
  ⟨s, m, k, v, by decide +kernel⟩

theorem witness_RetentionMemoryIsOfPairs_2 : ∃ (s : State) (m : Master) (k : Fin 1024) (v : Word),
    s.busOpen m = true ∧
    s.lockstep m = false :=
  let x : State := State.reset
  let m : Master := if rn 5 % 2 = 0 then .dma else .core 3 0
  let k : Fin 1024 := ⟨rn 4 % 1024, by omega⟩
  let v : Word := BitVec.ofNat 32 (rn 91)
  let s : State := x
  ⟨s, m, k, v, by decide +kernel⟩

theorem witness_RetentionMemoryIsOfPairs_3 : ∃ (s : State) (m : Master) (k : Fin 1024),
    s.busOpen m = true ∧
    s.lockstep m = true :=
  let x : State := State.reset
  let m : Master := .pair 3
  let k : Fin 1024 := ⟨rn 4 % 1024, by omega⟩
  let s : State := (lock x 3).wrw .LA_RETAIN 77 k.val
  ⟨s, m, k, by decide +kernel⟩

theorem witness_OnlyOwnersWritePowerStage_1 : ∃ (s : State) (m : Master) (r : RegId) (c : Cell) (b : Block) (v : Word),
    s.busOpen m = true ∧
    r ∈ [RegId.PW_CHCTL, .PW_DUTY, .PW_DT, .PW_CHSTAT, .PW_DRIVE, .PW_OVR, .PW_SAFE, .CG_PCTL, .CG_PSTAT] ∧
    s.blockOf c.val = some b.val ∧
    s.on BLK_BLKCTL_OWNED b.val = true ∧
    s.isOwner m b.val = false :=
  let x : State := State.reset
  let m : Master := if rn 9 % 2 = 0 then .pair ⟨(rn 4 + 1) % 16, by omega⟩ else .dma
  let r : RegId := ([RegId.PW_CHCTL, .PW_DUTY, .PW_DT, .PW_CHSTAT, .PW_DRIVE, .PW_OVR, .PW_SAFE, .CG_PCTL, .CG_PSTAT]).getD (rn 6 % 9) .PW_DT
  let c : Cell := ⟨3 * (rn 5 % 8), by omega⟩
  let b : Block := ⟨rn 5 % 8, by omega⟩
  let v : Word := BitVec.ofNat 32 (rn 91)
  let s : State := owned x (rn 4 % 16) (rn 5 % 8) 2
  ⟨s, m, r, c, b, v, by decide +kernel⟩

theorem witness_OnlyOwnersWritePowerStage_2 : ∃ (s : State) (m : Master) (r : RegId) (b : Block) (v : Word),
    s.busOpen m = true ∧
    r ∈ [RegId.PW_GRPCTL, .PW_GRPPRD, .PW_GRPPHASE, .PW_GRPSTAT, .PW_GRPCOMMIT, .CG_BCTL, .CG_BSTAT] ∧
    s.on BLK_BLKCTL_OWNED b.val = true ∧
    s.isOwner m b.val = false :=
  let x : State := State.reset
  let m : Master := if rn 9 % 2 = 0 then .pair ⟨(rn 4 + 1) % 16, by omega⟩ else .dma
  let r : RegId := ([RegId.PW_GRPCTL, .PW_GRPPRD, .PW_GRPPHASE, .PW_GRPSTAT, .PW_GRPCOMMIT, .CG_BCTL, .CG_BSTAT]).getD (rn 6 % 7) .PW_GRPPRD
  let b : Block := ⟨rn 5 % 8, by omega⟩
  let v : Word := BitVec.ofNat 32 (rn 91)
  let s : State := owned x (rn 4 % 16) (rn 5 % 8) 2
  ⟨s, m, r, b, v, by decide +kernel⟩

theorem witness_ReferenceProgramsRun_1 : ∃ (s : State) (e : Eng) (r : RefRun) (v : Inv),
    (s.eng e.val).run = some v ∧
    v.ref = some r ∧
    r.stage = .acquire ∧
    r.out = [] ∧
    r.prog = .dcb ∧
    (v.cls = clsAcc ∨ v.cls = clsResync) :=
  let x : State := State.reset
  let e : Eng := ⟨rn 4 % 96, by omega⟩
  let r : RefRun := ref1 (0) .acquire ([]) rn
  let v : Inv := {inv1 rn with ref := some r, cls := if rn 75 % 2 = 0 then clsAcc else clsResync}
  let s : State := rpk x e.val v r rn
  ⟨s, e, r, v, by decide +kernel⟩

theorem witness_ReferenceProgramsRun_2 : ∃ (s : State) (e : Eng) (r : RefRun) (v : Inv),
    (s.eng e.val).run = some v ∧
    v.ref = some r ∧
    r.stage = .acquire ∧
    r.out = [] ∧
    v.cls ≠ clsAcc ∧
    v.cls ≠ clsResync :=
  let x : State := State.reset
  let e : Eng := ⟨rn 4 % 96, by omega⟩
  let r : RefRun := ref1 (rn 70) .acquire ([]) rn
  let v : Inv := {inv1 rn with ref := some r, cls := 0}
  let s : State := rpk x e.val v r rn
  ⟨s, e, r, v, by decide +kernel⟩

theorem witness_ReferenceProgramsRun_3 : ∃ (s : State) (e : Eng) (r : RefRun) (v : Inv),
    (s.eng e.val).run = some v ∧
    v.ref = some r ∧
    r.stage = .acquire ∧
    r.out = [] ∧
    r.prog ≠ .dcb ∧
    (v.cls = clsAcc ∨ v.cls = clsResync) ∧
    (s.acLayout r.prog (e.val / 2) (acPlace r.prog (v.par r.prog) (e.val / 2)) = false ∨ ((s.acReads r.prog (e.val / 2) (acPlace r.prog (v.par r.prog) (e.val / 2))).1 ++ (s.acReads r.prog (e.val / 2) (acPlace r.prog (v.par r.prog) (e.val / 2))).2).any Prod.snd = true) :=
  let x : State := State.reset
  let e : Eng := ⟨rn 4 % 96, by omega⟩
  let r : RefRun := ref1 (1 + rn 70 % 4) .acquire ([]) rn
  let v : Inv := {inv1 rn with ref := some r, cls := if rn 75 % 2 = 0 then clsAcc else clsResync}
  let s : State := rpk x e.val v r rn
  ⟨s, e, r, v, by decide +kernel⟩

theorem witness_ReferenceProgramsRun_4 : ∃ (s : State) (e : Eng) (r : RefRun) (v : Inv),
    (s.eng e.val).run = some v ∧
    v.ref = some r ∧
    r.stage = .acquire ∧
    r.out = [] ∧
    (r.prog = .acu ∨ r.prog = .acw) ∧
    (v.cls = clsAcc ∨ v.cls = clsResync) ∧
    s.acLayout r.prog (e.val / 2) (acPlace r.prog (v.par r.prog) (e.val / 2)) = true ∧
    ((s.acReads r.prog (e.val / 2) (acPlace r.prog (v.par r.prog) (e.val / 2))).1 ++ (s.acReads r.prog (e.val / 2) (acPlace r.prog (v.par r.prog) (e.val / 2))).2).any Prod.snd = false :=
  let x : State := State.reset
  let e : Eng := ⟨4, by omega⟩
  let r : RefRun := ref1 (2 + 2 * (rn 70 % 2)) .acquire ([]) rn
  let v : Inv := {inv1 rn with ref := some r, cls := clsAcc, data := [(449, 2#32)]}
  let s : State := (let y := (rpk x e.val v r rn).wrw .BLK_BLKCELLS0 0xFFFFFFFF 2; let y := [(96, 1, 2), (97, 1, 3), (98, 2, 2), (99, 4, 2), (100, 6, 2)].foldl (fun y q => (y.put SN_SDCTL_CELL q.2.1 q.1).put SN_SDCTL_LOCAL q.2.2 q.1) y; let y := (List.range 16).foldl (fun y c => (y.wrw .PK_SLICEMAP0 0x06020100 c).wrw .PK_SLICEMAP1 0xFFFFFF07 c) y; {y with sense := {y.sense with slices := Vector.replicate 240 ⟨0, 0, 0, 0, 0, none, some ⟨rn 80 % 9000, 4, false⟩, 0, none, none⟩}})
  ⟨s, e, r, v, by decide +kernel⟩

theorem witness_ReferenceProgramsRun_5 : ∃ (s : State) (e : Eng) (r : RefRun) (v : Inv),
    (s.eng e.val).run = some v ∧
    v.ref = some r ∧
    r.stage = .acquire ∧
    r.out = [] ∧
    (r.prog = .acr ∨ r.prog = .aco) ∧
    (v.cls = clsAcc ∨ v.cls = clsResync) ∧
    s.acLayout r.prog (e.val / 2) (acPlace r.prog (v.par r.prog) (e.val / 2)) = true ∧
    ((s.acReads r.prog (e.val / 2) (acPlace r.prog (v.par r.prog) (e.val / 2))).1 ++ (s.acReads r.prog (e.val / 2) (acPlace r.prog (v.par r.prog) (e.val / 2))).2).any Prod.snd = false :=
  let x : State := State.reset
  let e : Eng := if rn 70 % 2 = 0 then ⟨4, by omega⟩ else ⟨2, by omega⟩
  let r : RefRun := ref1 (1 + 2 * (rn 70 % 2)) .acquire ([]) rn
  let v : Inv := {inv1 rn with ref := some r, cls := clsAcc, data := [(449, 2#32)]}
  let s : State := (let y := (rpk x e.val v r rn).wrw .BLK_BLKCELLS0 0xFFFFFFFF 2; let y := [(96, 1, 2), (97, 1, 3), (98, 2, 2), (99, 4, 2), (100, 6, 2)].foldl (fun y q => (y.put SN_SDCTL_CELL q.2.1 q.1).put SN_SDCTL_LOCAL q.2.2 q.1) y; let y := (List.range 16).foldl (fun y c => (y.wrw .PK_SLICEMAP0 0x06020100 c).wrw .PK_SLICEMAP1 0xFFFFFF07 c) y; {y with sense := {y.sense with slices := Vector.replicate 240 ⟨0, 0, 0, 0, 0, none, some ⟨rn 80 % 9000, 4, false⟩, 0, none, none⟩}})
  ⟨s, e, r, v, by decide +kernel⟩

theorem witness_ReferenceProgramsRun_6 : ∃ (s : State) (e : Eng) (r : RefRun) (v : Inv) (j : Nat) (x0 : Word) (l : List RefOut),
    (s.eng e.val).run = some v ∧
    v.ref = some r ∧
    r.out = .slot j x0 :: l ∧
    j < 8 :=
  let x : State := State.reset
  let e : Eng := ⟨rn 4 % 96, by omega⟩
  let r : RefRun := ref1 (rn 70) .control ([.slot (rn 71 % 8) (BitVec.ofNat 32 (rn 72)), .slot 4 9]) rn
  let v : Inv := {inv1 rn with ref := some r}
  let j : Nat := rn 71 % 8
  let x0 : Word := BitVec.ofNat 32 (rn 72)
  let l : List RefOut := [.slot 4 9]
  let s : State := rpk x e.val v r rn
  ⟨s, e, r, v, j, x0, l, by decide +kernel⟩

theorem witness_ReferenceProgramsRun_7 : ∃ (s : State) (e : Eng) (r : RefRun) (v : Inv),
    (s.eng e.val).run = some v ∧
    v.ref = some r ∧
    r.stage = .control ∧
    r.out = [] ∧
    s.get PK_ARBCTL_DEST (e.val / 2) ≠ 1 ∧
    s.get PK_ARBCTL_DEST (e.val / 2) ≠ 2 ∧
    s.on PW_CHCTL_FORM (e.val / 2) = false :=
  let x : State := State.reset
  let e : Eng := ⟨rn 4 % 96, by omega⟩
  let r : RefRun := ref1 (rn 70) .control ([]) rn
  let v : Inv := {inv1 rn with ref := some r}
  let s : State := (rpk x e.val v r rn).put PK_ARBCTL_DEST 0 (e.val/2) |>.put PW_CHCTL_FORM 0 (e.val/2)
  ⟨s, e, r, v, by decide +kernel⟩

theorem witness_ReferenceProgramsRun_8 : ∃ (s : State) (e : Eng) (r : RefRun) (v : Inv),
    (s.eng e.val).run = some v ∧
    v.ref = some r ∧
    (r.stage ≠ .control ∨ r.out ≠ []) :=
  let x : State := State.reset
  let e : Eng := ⟨rn 4 % 96, by omega⟩
  let r : RefRun := ref1 (rn 70) .control ([.slot 4 9]) rn
  let v : Inv := {inv1 rn with ref := some r}
  let s : State := rpk x e.val v r rn
  ⟨s, e, r, v, by decide +kernel⟩

theorem witness_ReferenceProgramsRun_9 : ∃ (s : State) (e : Eng) (r : RefRun) (v : Inv),
    (s.eng e.val).run = some v ∧
    v.ref = some r ∧
    r.stage = .report ∧
    r.out = [] ∧
    r.prog ≠ .dcb ∧
    (s.eng e.val).prog.isSome = true :=
  let x : State := State.reset
  let e : Eng := ⟨rn 4 % 96, by omega⟩
  let r : RefRun := ref1 (1 + rn 70 % 4) .report ([]) rn
  let v : Inv := {inv1 rn with ref := some r}
  let s : State := rpk x e.val v r rn
  ⟨s, e, r, v, by decide +kernel⟩

theorem witness_ReferenceProgramsRun_10 : ∃ (s : State) (e : Eng) (r : RefRun) (v : Inv),
    (s.eng e.val).run = some v ∧
    v.ref = some r ∧
    r.stage = .report ∧
    r.out = [] ∧
    r.prog = .dcb ∧
    (s.eng e.val).prog.isSome = true :=
  let x : State := State.reset
  let e : Eng := ⟨rn 4 % 96, by omega⟩
  let r : RefRun := ref1 (0) .report ([]) rn
  let v : Inv := {inv1 rn with ref := some r}
  let s : State := rpk x e.val v r rn
  ⟨s, e, r, v, by decide +kernel⟩

theorem witness_ReferenceProgramsRun_11 : ∃ (s : State) (e : Eng) (r : RefRun) (v : Inv),
    (s.eng e.val).run = some v ∧
    v.ref = some r ∧
    r.stage = .broken ∧
    r.out = [] :=
  let x : State := State.reset
  let e : Eng := ⟨rn 4 % 96, by omega⟩
  let r : RefRun := ref1 (1 + rn 70 % 4) .broken ([]) rn
  let v : Inv := {inv1 rn with ref := some r}
  let s : State := rpk x e.val v r rn
  ⟨s, e, r, v, by decide +kernel⟩

end Sys2Proof.Tests
end

section
/-! SUPPORT. What every command and every step keeps: the dispatch of the `..._evolves` laws, and the statements about all commands that rest on it. -/

namespace Sys2Proof.Machine

/-- Every command completes, keeps what `Evolves` keeps and changes no part but those named for it: the law of its meaning, command by command. -/
theorem exec_evolves (c : Instr) (s : State) : ∃ t, exec c s = .next t ∧ Evolves (mayChange c) s t :=
  match c with
  | .registerWrite m a v => execRegisterWrite_evolves (.refl _ s) m a v (covers_self _)
  | .addrUnmapped m a w => execAddrUnmapped_evolves (.refl _ s) m a w (covers_self _)
  | .accessFault m a op => execAccessFault_evolves (.refl _ s) m a op (covers_self _)
  | .latchingRead m a => execLatchingRead_evolves (.refl _ s) m a (covers_self _)
  | .reqArmed m b v => execReqArmed_evolves (.refl _ s) m b v (covers_self _)
  | .reqRunning m b v => execReqRunning_evolves (.refl _ s) m b v (covers_self _)
  | .reqStopped m b v => execReqStopped_evolves (.refl _ s) m b v (covers_self _)
  | .ownershipWrite m b v => execOwnershipWrite_evolves (.refl _ s) m b v (covers_self _)
  | .cellBindingWrite m b hi v => execCellBindingWrite_evolves (.refl _ s) m b hi v (covers_self _)
  | .runningExitAtValley b => execRunningExitAtValley_evolves (.refl _ s) b (covers_self _)
  | .angleWrap d => execAngleWrap_evolves (.refl _ s) d (covers_self _)
  | .trackerUpdate d t => execTrackerUpdate_evolves (.refl _ s) d t (covers_self _)
  | .domainSrcApply d => execDomainSrcApply_evolves (.refl _ s) d (covers_self _)
  | .coastTimeout d => execCoastTimeout_evolves (.refl _ s) d (covers_self _)
  | .uhlaSourceLoss d => execUhlaSourceLoss_evolves (.refl _ s) d (covers_self _)
  | .pickSourceTimeout d => execPickSourceTimeout_evolves (.refl _ s) d (covers_self _)
  | .slotFire k => execSlotFire_evolves (.refl _ s) k (covers_self _)
  | .evtctlWrite m k v => execEvtctlWrite_evolves (.refl _ s) m k v (covers_self _)
  | .evtangWrite m k v => execEvtangWrite_evolves (.refl _ s) m k v (covers_self _)
  | .frameBoundary => execFrameBoundary_evolves (.refl _ s) (covers_self _)
  | .fillerBoundary => execFillerBoundary_evolves (.refl _ s) (covers_self _)
  | .frameSourceSwitch => execFrameSourceSwitch_evolves (.refl _ s) (covers_self _)
  | .planGo m v => execPlanGo_evolves (.refl _ s) m v (covers_self _)
  | .overrun c b => execOverrun_evolves (.refl _ s) c b (covers_self _)
  | .floor n => execFloor_evolves (.refl _ s) n (covers_self _)
  | .invocationStart e => execInvocationStart_evolves (.refl _ s) e (covers_self _)
  | .budgetExh e waits fresh => execBudgetExh_evolves (.refl _ s) e waits fresh (covers_self _)
  | .illegalWord e => execIllegalWord_evolves (.refl _ s) e (covers_self _)
  | .acq e => execAcq_evolves (.refl _ s) e (covers_self _)
  | .mmx e => execMmx_evolves (.refl _ s) e (covers_self _)
  | .ang e => execAng_evolves (.refl _ s) e (covers_self _)
  | .scs e => execScs_evolves (.refl _ s) e (covers_self _)
  | .clk e => execClk_evolves (.refl _ s) e (covers_self _)
  | .prk e => execPrk_evolves (.refl _ s) e (covers_self _)
  | .ipk e => execIpk_evolves (.refl _ s) e (covers_self _)
  | .mac e => execMac_evolves (.refl _ s) e (covers_self _)
  | .msu e => execMsu_evolves (.refl _ s) e (covers_self _)
  | .satMove e => execSatMove_evolves (.refl _ s) e (covers_self _)
  | .satAccumulatorRead e => execSatAccumulatorRead_evolves (.refl _ s) e (covers_self _)
  | .satStore e => execSatStore_evolves (.refl _ s) e (covers_self _)
  | .lim e => execLim_evolves (.refl _ s) e (covers_self _)
  | .abs e => execAbs_evolves (.refl _ s) e (covers_self _)
  | .negate e => execNegate_evolves (.refl _ s) e (covers_self _)
  | .div e => execDiv_evolves (.refl _ s) e (covers_self _)
  | .sqt e => execSqt_evolves (.refl _ s) e (covers_self _)
  | .sqtMagnitude e => execSqtMagnitude_evolves (.refl _ s) e (covers_self _)
  | .pis e => execPis_evolves (.refl _ s) e (covers_self _)
  | .rsc e => execRsc_evolves (.refl _ s) e (covers_self _)
  | .outSlot e => execOutSlot_evolves (.refl _ s) e (covers_self _)
  | .outDomainInc e => execOutDomainInc_evolves (.refl _ s) e (covers_self _)
  | .outDomainStep e => execOutDomainStep_evolves (.refl _ s) e (covers_self _)
  | .duty e => execDuty_evolves (.refl _ s) e (covers_self _)
  | .evtEvent e => execEvtEvent_evolves (.refl _ s) e (covers_self _)
  | .evtSeamTrigger e => execEvtSeamTrigger_evolves (.refl _ s) e (covers_self _)
  | .evtMarker e => execEvtMarker_evolves (.refl _ s) e (covers_self _)
  | .xch e waits fresh => execXch_evolves (.refl _ s) e waits fresh (covers_self _)
  | .uhxRead e => execUhxRead_evolves (.refl _ s) e (covers_self _)
  | .uhxWrite e => execUhxWrite_evolves (.refl _ s) e (covers_self _)
  | .brf e => execBrf_evolves (.refl _ s) e (covers_self _)
  | .loop e => execLoop_evolves (.refl _ s) e (covers_self _)
  | .endRun e => execEndRun_evolves (.refl _ s) e (covers_self _)
  | .endDiscard e => execEndDiscard_evolves (.refl _ s) e (covers_self _)
  | .arbiterEvaluation c => execArbiterEvaluation_evolves (.refl _ s) c (covers_self _)
  | .arbctlWrite m c v => execArbctlWrite_evolves (.refl _ s) m c v (covers_self _)
  | .slicemapWrite m e hi v => execSlicemapWrite_evolves (.refl _ s) m e hi v (covers_self _)
  | .paramgo m e v => execParamgo_evolves (.refl _ s) m e v (covers_self _)
  | .paramWrite m e n v => execParamWrite_evolves (.refl _ s) m e n v (covers_self _)
  | .replatch m e v => execReplatch_evolves (.refl _ s) m e v (covers_self _)
  | .loadProgram m e v => execLoadProgram_evolves (.refl _ s) m e v (covers_self _)
  | .loadComplete e => execLoadComplete_evolves (.refl _ s) e (covers_self _)
  | .budgetWrite m e v => execBudgetWrite_evolves (.refl _ s) m e v (covers_self _)
  | .pairMismatch e cause => execPairMismatch_evolves (.refl _ s) e cause (covers_self _)
  | .resyncComplete e bad => execResyncComplete_evolves (.refl _ s) e bad (covers_self _)
  | .refenWrite m v => execRefenWrite_evolves (.refl _ s) m v (covers_self _)
  | .refrdy => execRefrdy_evolves (.refl _ s) (covers_self _)
  | .referenceFault => execReferenceFault_evolves (.refl _ s) (covers_self _)
  | .seqgo m q v => execSeqgo_evolves (.refl _ s) m q v (covers_self _)
  | .sequenceRunStart q => execSequenceRunStart_evolves (.refl _ s) q (covers_self _)
  | .dropped q => execDropped_evolves (.refl _ s) q (covers_self _)
  | .conversionEnd q codes => execConversionEnd_evolves (.refl _ s) q codes (covers_self _)
  | .windowPublish c j => execWindowPublish_evolves (.refl _ s) c j (covers_self _)
  | .mmReset m c v => execMmReset_evolves (.refl _ s) m c v (covers_self _)
  | .sinc3Output k y => execSinc3Output_evolves (.refl _ s) k y (covers_self _)
  | .sdmStuck k => execSdmStuck_evolves (.refl _ s) k (covers_self _)
  | .diagGo m v => execDiagGo_evolves (.refl _ s) m v (covers_self _)
  | .diagDone codes => execDiagDone_evolves (.refl _ s) codes (covers_self _)
  | .diagTimeout => execDiagTimeout_evolves (.refl _ s) (covers_self _)
  | .seqctlWrite m q v => execSeqctlWrite_evolves (.refl _ s) m q v (covers_self _)
  | .chctlWrite m c v => execChctlWrite_evolves (.refl _ s) m c v (covers_self _)
  | .canaryCrossing w hi => execCanaryCrossing_evolves (.refl _ s) w hi (covers_self _)
  | .wthrWrite m w v => execWthrWrite_evolves (.refl _ s) m w v (covers_self _)
  | .settlingEnd w => execSettlingEnd_evolves (.refl _ s) w (covers_self _)
  | .wctlWrite m w v => execWctlWrite_evolves (.refl _ s) m w v (covers_self _)
  | .latchClear m w v => execLatchClear_evolves (.refl _ s) m w v (covers_self _)
  | .rbfailWrite m w b v => execRbfailWrite_evolves (.refl _ s) m w b v (covers_self _)
  | .carrierValley g => execCarrierValley_evolves (.refl _ s) g (covers_self _)
  | .carrierPeak g => execCarrierPeak_evolves (.refl _ s) g (covers_self _)
  | .modulationEdge c => execModulationEdge_evolves (.refl _ s) c (covers_self _)
  | .turnOnDelayEnd c hi => execTurnOnDelayEnd_evolves (.refl _ s) c hi (covers_self _)
  | .grpCommit m g v => execGrpCommit_evolves (.refl _ s) m g v (covers_self _)
  | .carrierEnable m g v => execCarrierEnable_evolves (.refl _ s) m g v (covers_self _)
  | .dutyWrite m c v => execDutyWrite_evolves (.refl _ s) m c v (covers_self _)
  | .ovrWrite m c v => execOvrWrite_evolves (.refl _ s) m c v (covers_self _)
  | .safeWrite m c v => execSafeWrite_evolves (.refl _ s) m c v (covers_self _)
  | .syncLost g => execSyncLost_evolves (.refl _ s) g (covers_self _)
  | .pwmclkLost => execPwmclkLost_evolves (.refl _ s) (covers_self _)
  | .feedbackChange c hi level => execFeedbackChange_evolves (.refl _ s) c hi level (covers_self _)
  | .fbTimeout c hi => execFbTimeout_evolves (.refl _ s) c hi (covers_self _)
  | .blankingEnd c => execBlankingEnd_evolves (.refl _ s) c (covers_self _)
  | .dsLatch c => execDsLatch_evolves (.refl _ s) c (covers_self _)
  | .softStepEnd b => execSoftStepEnd_evolves (.refl _ s) b (covers_self _)
  | .clr m c v => execClr_evolves (.refl _ s) m c v (covers_self _)
  | .rampGo m r v => execRampGo_evolves (.refl _ s) m r v (covers_self _)
  | .rampStop m r v => execRampStop_evolves (.refl _ s) m r v (covers_self _)
  | .rampRelease m r v => execRampRelease_evolves (.refl _ s) m r v (covers_self _)
  | .rampCellWrite m r v => execRampCellWrite_evolves (.refl _ s) m r v (covers_self _)
  | .alignTimeout r => execAlignTimeout_evolves (.refl _ s) r (covers_self _)
  | .rampUpdate r => execRampUpdate_evolves (.refl _ s) r (covers_self _)
  | .assaySample x => execAssaySample_evolves (.refl _ s) x (covers_self _)
  | .zxLost x => execZxLost_evolves (.refl _ s) x (covers_self _)
  | .snap m v => execSnap_evolves (.refl _ s) m v (covers_self _)
  | .periodic => execPeriodic_evolves (.refl _ s) (covers_self _)
  | .saveReadback ok => execSaveReadback_evolves (.refl _ s) ok (covers_self _)
  | .assayStart => execAssayStart_evolves (.refl _ s) (covers_self _)
  | .clkLost => execClkLost_evolves (.refl _ s) (covers_self _)
  | .pulseStart o => execPulseStart_evolves (.refl _ s) o (covers_self _)
  | .s0Pulse n active => execS0Pulse_evolves (.refl _ s) n active (covers_self _)
  | .s0Check n => execS0Check_evolves (.refl _ s) n (covers_self _)
  | .xang n k w => execXang_evolves (.refl _ s) n k w (covers_self _)
  | .xyld n k w => execXyld_evolves (.refl _ s) n k w (covers_self _)
  | .xfwt n k w => execXfwt_evolves (.refl _ s) n k w (covers_self _)
  | .icpar n => execIcpar_evolves (.refl _ s) n (covers_self _)
  | .dualSampleResample g a b => execDualSampleResample_evolves (.refl _ s) g a b (covers_self _)
  | .checkpoint n => execCheckpoint_evolves (.refl _ s) n (covers_self _)
  | .checkpointComplete n cyc => execCheckpointComplete_evolves (.refl _ s) n cyc (covers_self _)
  | .journalEntry n a => execJournalEntry_evolves (.refl _ s) n a (covers_self _)
  | .pairFault n cause lane => execPairFault_evolves (.refl _ s) n cause lane (covers_self _)
  | .pairEnterFailed n => execPairEnterFailed_evolves (.refl _ s) n (covers_self _)
  | .takeoverStart n => execTakeoverStart_evolves (.refl _ s) n (covers_self _)
  | .recoveryComplete n o => execRecoveryComplete_evolves (.refl _ s) n o (covers_self _)
  | .comparatorTestComplete n fail march => execComparatorTestComplete_evolves (.refl _ s) n fail march (covers_self _)
  | .testWindowOpen n => execTestWindowOpen_evolves (.refl _ s) n (covers_self _)
  | .modereqTest m n v => execModereqTest_evolves (.refl _ s) m n v (covers_self _)
  | .modereqSplit m n v => execModereqSplit_evolves (.refl _ s) m n v (covers_self _)
  | .modereqService m n v => execModereqService_evolves (.refl _ s) m n v (covers_self _)
  | .modereqSpare m n v => execModereqSpare_evolves (.refl _ s) m n v (covers_self _)
  | .join m n v => execJoin_evolves (.refl _ s) m n v (covers_self _)
  | .joinApply n => execJoinApply_evolves (.refl _ s) n (covers_self _)
  | .ownrgnWrite m n j v => execOwnrgnWrite_evolves (.refl _ s) m n j v (covers_self _)
  | .clrmax m n v => execClrmax_evolves (.refl _ s) m n v (covers_self _)
  | .debugRequest n op => execDebugRequest_evolves (.refl _ s) n op (covers_self _)
  | .claim m n => execClaim_evolves (.refl _ s) m n (covers_self _)
  | .completeSource m n v => execCompleteSource_evolves (.refl _ s) m n v (covers_self _)
  | .pendClear m n j v => execPendClear_evolves (.refl _ s) m n j v (covers_self _)
  | .srccfgWrite m src v => execSrccfgWrite_evolves (.refl _ s) m src v (covers_self _)
  | .flush m g v => execFlush_evolves (.refl _ s) m g v (covers_self _)
  | .gcfgWrite m g v => execGcfgWrite_evolves (.refl _ s) m g v (covers_self _)
  | .coalesceTimeout g => execCoalesceTimeout_evolves (.refl _ s) g (covers_self _)
  | .monitorSample a b c frac node krb brb halves => execMonitorSample_evolves (.refl _ s) a b c frac node krb brb halves (covers_self _)
  | .foremanWindowDemand w f => execForemanWindowDemand_evolves (.refl _ s) w f (covers_self _)
  | .fsafenWrite m v => execFsafenWrite_evolves (.refl _ s) m v (covers_self _)
  | .safenExpired => execSafenExpired_evolves (.refl _ s) (covers_self _)
  | .fcmdWrite m v => execFcmdWrite_evolves (.refl _ s) m v (covers_self _)
  | .fclr m v => execFclr_evolves (.refl _ s) m v (covers_self _)
  | .btestReq m n v => execBtestReq_evolves (.refl _ s) m n v (covers_self _)
  | .brakeTestReengage n => execBrakeTestReengage_evolves (.refl _ s) n (covers_self _)
  | .brakeTestPass n => execBrakeTestPass_evolves (.refl _ s) n (covers_self _)
  | .btFail n => execBtFail_evolves (.refl _ s) n (covers_self _)
  | .btDue n hours => execBtDue_evolves (.refl _ s) n hours (covers_self _)
  | .offPulseStart k off => execOffPulseStart_evolves (.refl _ s) k off (covers_self _)
  | .offPulseEnd k on => execOffPulseEnd_evolves (.refl _ s) k on (covers_self _)
  | .mirFail k closed => execMirFail_evolves (.refl _ s) k closed (covers_self _)
  | .sealRead v => execSealRead_evolves (.refl _ s) v (covers_self _)
  | .foremanSelfTest monitors windows store => execForemanSelfTest_evolves (.refl _ s) monitors windows store (covers_self _)
  | .clockCheck rc canary crystal => execClockCheck_evolves (.refl _ s) rc canary crystal (covers_self _)
  | .foremanParamTakeEffect => execForemanParamTakeEffect_evolves (.refl _ s) (covers_self _)
  | .secureBoot => execSecureBoot_evolves (.refl _ s) (covers_self _)
  | .returnEntryComplete => execReturnEntryComplete_evolves (.refl _ s) (covers_self _)
  | .lcFuseProgrammed => execLcFuseProgrammed_evolves (.refl _ s) (covers_self _)
  | .meshCheck ok => execMeshCheck_evolves (.refl _ s) ok (covers_self _)
  | .voltageGlitch => execVoltageGlitch_evolves (.refl _ s) (covers_self _)
  | .clockGlitch => execClockGlitch_evolves (.refl _ s) (covers_self _)
  | .temperatureEvent => execTemperatureEvent_evolves (.refl _ s) (covers_self _)
  | .zeroisationComplete => execZeroisationComplete_evolves (.refl _ s) (covers_self _)
  | .aditSessionEnd => execAditSessionEnd_evolves (.refl _ s) (covers_self _)
  | .idcode => execIdcode_evolves (.refl _ s) (covers_self _)
  | .bypass => execBypass_evolves (.refl _ s) (covers_self _)
  | .samplePreload => execSamplePreload_evolves (.refl _ s) (covers_self _)
  | .extest => execExtest_evolves (.refl _ s) (covers_self _)
  | .aditResetRequest => execAditResetRequest_evolves (.refl _ s) (covers_self _)
  | .mailboxClaim m b v => execMailboxClaim_evolves (.refl _ s) m b v (covers_self _)
  | .mailboxGo m b v => execMailboxGo_evolves (.refl _ s) m b v (covers_self _)
  | .mailboxRelease m b v => execMailboxRelease_evolves (.refl _ s) m b v (covers_self _)
  | .envelopeStart => execEnvelopeStart_evolves (.refl _ s) (covers_self _)
  | .verdictRelease => execVerdictRelease_evolves (.refl _ s) (covers_self _)
  | .applicationReplyRelease => execApplicationReplyRelease_evolves (.refl _ s) (covers_self _)
  | .readItem => execReadItem_evolves (.refl _ s) (covers_self _)
  | .setEntries => execSetEntries_evolves (.refl _ s) (covers_self _)
  | .limits => execLimits_evolves (.refl _ s) (covers_self _)
  | .islSchedule => execIslSchedule_evolves (.refl _ s) (covers_self _)
  | .assaySet => execAssaySet_evolves (.refl _ s) (covers_self _)
  | .assayAck => execAssayAck_evolves (.refl _ s) (covers_self _)
  | .counterClear => execCounterClear_evolves (.refl _ s) (covers_self _)
  | .certRevoke => execCertRevoke_evolves (.refl _ s) (covers_self _)
  | .groupSet => execGroupSet_evolves (.refl _ s) (covers_self _)
  | .enrol => execEnrol_evolves (.refl _ s) (covers_self _)
  | .revoke => execRevoke_evolves (.refl _ s) (covers_self _)
  | .generate => execGenerate_evolves (.refl _ s) (covers_self _)
  | .importKey => execImportKey_evolves (.refl _ s) (covers_self _)
  | .sealAck => execSealAck_evolves (.refl _ s) (covers_self _)
  | .tamperAck => execTamperAck_evolves (.refl _ s) (covers_self _)
  | .aditOpen => execAditOpen_evolves (.refl _ s) (covers_self _)
  | .aditClose => execAditClose_evolves (.refl _ s) (covers_self _)
  | .image => execImage_evolves (.refl _ s) (covers_self _)
  | .imageReplyRelease changed => execImageReplyRelease_evolves (.refl _ s) changed (covers_self _)
  | .activate => execActivate_evolves (.refl _ s) (covers_self _)
  | .lcAdvance => execLcAdvance_evolves (.refl _ s) (covers_self _)
  | .exportRecords => execExportRecords_evolves (.refl _ s) (covers_self _)
  | .sign b => execSign_evolves (.refl _ s) b (covers_self _)
  | .ecdh b => execEcdh_evolves (.refl _ s) b (covers_self _)
  | .encrypt b => execEncrypt_evolves (.refl _ s) b (covers_self _)
  | .decrypt b => execDecrypt_evolves (.refl _ s) b (covers_self _)
  | .hmac b => execHmac_evolves (.refl _ s) b (covers_self _)
  | .random b => execRandom_evolves (.refl _ s) b (covers_self _)
  | .counter b => execCounter_evolves (.refl _ s) b (covers_self _)
  | .highWaterMarkWrite k => execHighWaterMarkWrite_evolves (.refl _ s) k (covers_self _)
  | .synthEnable m n v => execSynthEnable_evolves (.refl _ s) m n v (covers_self _)
  | .synthLocked n => execSynthLocked_evolves (.refl _ s) n (covers_self _)
  | .fmonErr n => execFmonErr_evolves (.refl _ s) n (covers_self _)
  | .refLost => execRefLost_evolves (.refl _ s) (covers_self _)
  | .refSourceWrite m v => execRefSourceWrite_evolves (.refl _ s) m v (covers_self _)
  | .spreadWrite m n v => execSpreadWrite_evolves (.refl _ s) m n v (covers_self _)
  | .winderRampGo m v => execWinderRampGo_evolves (.refl _ s) m v (covers_self _)
  | .winderRampStop m v => execWinderRampStop_evolves (.refl _ s) m v (covers_self _)
  | .winderRampUpdate => execWinderRampUpdate_evolves (.refl _ s) (covers_self _)
  | .realignComplete => execRealignComplete_evolves (.refl _ s) (covers_self _)
  | .pwrctlReqNight m v => execPwrctlReqNight_evolves (.refl _ s) m v (covers_self _)
  | .pwrctlReqPark m v => execPwrctlReqPark_evolves (.refl _ s) m v (covers_self _)
  | .pwrctlReqRun m v => execPwrctlReqRun_evolves (.refl _ s) m v (covers_self _)
  | .powerStateChange => execPowerStateChange_evolves (.refl _ s) (covers_self _)
  | .wakeClock => execWakeClock_evolves (.refl _ s) (covers_self _)
  | .wakeGrid => execWakeGrid_evolves (.refl _ s) (covers_self _)
  | .vauxValid => execVauxValid_evolves (.refl _ s) (covers_self _)
  | .brownout => execBrownout_evolves (.refl _ s) (covers_self _)
  | .railFault r => execRailFault_evolves (.refl _ s) r (covers_self _)
  | .resetN => execResetN_evolves (.refl _ s) (covers_self _)
  | .rstctlDeviceWarm m v => execRstctlDeviceWarm_evolves (.refl _ s) m v (covers_self _)
  | .rstctlPairWarm m v => execRstctlPairWarm_evolves (.refl _ s) m v (covers_self _)
  | .wdtkick m n v => execWdtkick_evolves (.refl _ s) m n v (covers_self _)
  | .warned n => execWarned_evolves (.refl _ s) n (covers_self _)
  | .watchdogTimeout n => execWatchdogTimeout_evolves (.refl _ s) n (covers_self _)
  | .banksmanLockstepFault => execBanksmanLockstepFault_evolves (.refl _ s) (covers_self _)
  | .rstrelWrite m v => execRstrelWrite_evolves (.refl _ s) m v (covers_self _)
  | .pendingRelease => execPendingRelease_evolves (.refl _ s) (covers_self _)
  | .optionLoadComplete => execOptionLoadComplete_evolves (.refl _ s) (covers_self _)
  | .padRelease m v => execPadRelease_evolves (.refl _ s) m v (covers_self _)
  | .lampPowerLoss => execLampPowerLoss_evolves (.refl _ s) (covers_self _)
  | .lampStart present lstart => execLampStart_evolves (.refl _ s) present lstart (covers_self _)
  | .gaugeUpdate v => execGaugeUpdate_evolves (.refl _ s) v (covers_self _)
  | .capMeasureComplete t overlap => execCapMeasureComplete_evolves (.refl _ s) t overlap (covers_self _)
  | .harvestOcvSample v => execHarvestOcvSample_evolves (.refl _ s) v (covers_self _)
  | .grantComplete c => execGrantComplete_evolves (.refl _ s) c (covers_self _)
  | .grantRetry => execGrantRetry_evolves (.refl _ s) (covers_self _)
  | .burstFlush t => execBurstFlush_evolves (.refl _ s) t (covers_self _)
  | .strput m t v => execStrput_evolves (.refl _ s) m t v (covers_self _)
  | .fireTrigger m n v => execFireTrigger_evolves (.refl _ s) m n v (covers_self _)
  | .captureHeld n => execCaptureHeld_evolves (.refl _ s) n (covers_self _)
  | .captureRelease m n v => execCaptureRelease_evolves (.refl _ s) m n v (covers_self _)
  | .drainGo m d v => execDrainGo_evolves (.refl _ s) m d v (covers_self _)
  | .drainStop m d v => execDrainStop_evolves (.refl _ s) m d v (covers_self _)
  | .drainDone d => execDrainDone_evolves (.refl _ s) d (covers_self _)
  | .drainOverrun d => execDrainOverrun_evolves (.refl _ s) d (covers_self _)
  | .sramScrub k ecc => execSramScrub_evolves (.refl _ s) k ecc (covers_self _)
  | .uhlaEnable m v => execUhlaEnable_evolves (.refl _ s) m v (covers_self _)
  | .portUp p => execPortUp_evolves (.refl _ s) p (covers_self _)
  | .portDown p gid => execPortDown_evolves (.refl _ s) p gid (covers_self _)
  | .superframeOriginate => execSuperframeOriginate_evolves (.refl _ s) (covers_self _)
  | .superframeReceive p sub f => execSuperframeReceive_evolves (.refl _ s) p sub f (covers_self _)
  | .linkDelayMeasure p d => execLinkDelayMeasure_evolves (.refl _ s) p d (covers_self _)
  | .masterLoss => execMasterLoss_evolves (.refl _ s) (covers_self _)
  | .reqm => execReqm_evolves (.refl _ s) (covers_self _)
  | .tripRepeat => execTripRepeat_evolves (.refl _ s) (covers_self _)
  | .tripBlockReceive p origin tseq mask gid crcOk => execTripBlockReceive_evolves (.refl _ s) p origin tseq mask gid crcOk (covers_self _)
  | .utripgo m v => execUtripgo_evolves (.refl _ s) m v (covers_self _)
  | .utripClear m v => execUtripClear_evolves (.refl _ s) m v (covers_self _)
  | .usvput m v w => execUsvput_evolves (.refl _ s) m v w (covers_self _)
  | .usvcfgWrite m v w => execUsvcfgWrite_evolves (.refl _ s) m v w (covers_self _)
  | .ethFrameReceive p f fcsOk listed fifth taken => execEthFrameReceive_evolves (.refl _ s) p f fcsOk listed fifth taken (covers_self _)
  | .ethFrameTransmit p posts => execEthFrameTransmit_evolves (.refl _ s) p posts (covers_self _)
  | .ptpstep m v => execPtpstep_evolves (.refl _ s) m v (covers_self _)
  | .ptpTarget => execPtpTarget_evolves (.refl _ s) (covers_self _)
  | .ptpLock m v => execPtpLock_evolves (.refl _ s) m v (covers_self _)
  | .ptpTrustLost => execPtpTrustLost_evolves (.refl _ s) (covers_self _)
  | .canFrameReceive n buf f accepted => execCanFrameReceive_evolves (.refl _ s) n buf f accepted (covers_self _)
  | .canFrameTransmit n buf f => execCanFrameTransmit_evolves (.refl _ s) n buf f (covers_self _)
  | .uartReceive n c modbus taken => execUartReceive_evolves (.refl _ s) n c modbus taken (covers_self _)
  | .modbusFrameEnd n gap => execModbusFrameEnd_evolves (.refl _ s) n gap (covers_self _)
  | .spiTransfer n len rx tx => execSpiTransfer_evolves (.refl _ s) n len rx tx (covers_self _)
  | .i2cTransfer n l => execI2cTransfer_evolves (.refl _ s) n l (covers_self _)
  | .gpioEvent g level => execGpioEvent_evolves (.refl _ s) g level (covers_self _)
  | .canaryStateDeassert w hi => execCanaryStateDeassert_evolves (.refl _ s) w hi (covers_self _)
  | .dsatLevelChange c level => execDsatLevelChange_evolves (.refl _ s) c level (covers_self _)
  | .peakDwellEnd g => execPeakDwellEnd_evolves (.refl _ s) g (covers_self _)
  | .splitCoreUncorrectableTcm n k => execSplitCoreUncorrectableTcm_evolves (.refl _ s) n k (covers_self _)
  | .memoryAccess m c a op ecc => execMemoryAccess_evolves (.refl _ s) m c a op ecc (covers_self _)
  | .railsWithinLimits => execRailsWithinLimits_evolves (.refl _ s) (covers_self _)
  | .lampClockSet => execLampClockSet_evolves (.refl _ s) (covers_self _)
  | .chargeTargetReached => execChargeTargetReached_evolves (.refl _ s) (covers_self _)
  | .harvestPathSelect vstore hvin => execHarvestPathSelect_evolves (.refl _ s) vstore hvin (covers_self _)
  | .portRetrain p => execPortRetrain_evolves (.refl _ s) p (covers_self _)
  | .ethLinkChange p up => execEthLinkChange_evolves (.refl _ s) p up (covers_self _)
  | .uartTransmitDone n l modbus err => execUartTransmitDone_evolves (.refl _ s) n l modbus err (covers_self _)
  | .canErrorStateChange n st => execCanErrorStateChange_evolves (.refl _ s) n st (covers_self _)
  | .itotonProductionTest => execItotonProductionTest_evolves (.refl _ s) (covers_self _)

/-- The state a command answers is the one its law speaks of. -/
theorem evolves_of_exec {c : Instr} {s t : State} (h : exec c s = .next t) : Evolves (mayChange c) s t := by
  obtain ⟨u, hu, hev⟩ := exec_evolves c s
  obtain rfl : u = t := Host.Outcome.next.inj (hu.symm.trans h)
  exact hev

/-- A step evolves from the state it is taken in, up to the queue of commands. -/
theorem evolves_of_step {s t : State} (h : step s = .next t) :
    ∃ (A : List Part) (q : List Instr), Evolves A { s with pending := q } t := by
  unfold step at h
  split at h
  · obtain rfl := Host.Outcome.next.inj h
    exact ⟨_, s.pending, State.advance_evolves (.refl _ s) 1 (covers_self _)⟩
  · next rest _ => exact ⟨_, rest, evolves_of_exec h⟩

/-- Settles O4: at reset the register file and memory list nothing. -/
theorem resetIsWellFormed : Obligations.ResetIsWellFormed := by
  unfold Obligations.ResetIsWellFormed State.wf State.memWf
  have hregs : State.reset.regs = [] := rfl
  have hmem : State.reset.mem = [] := rfl
  simp [hregs, hmem, regsWf, sparseSorted]

/-- Settles O5: the canonical forms rest on registers, memory and TCM images, which the queue is no part of, and every step evolves. -/
theorem stepKeepsTheForm : Obligations.StepKeepsTheForm := by
  intro s t hwf hstep
  obtain ⟨A, q, hev⟩ := evolves_of_step hstep
  obtain ⟨hregs, hmem⟩ : regsWf s.regs = true ∧ s.memWf = true := by simpa [State.wf] using hwf
  simpa [State.wf] using And.intro (hev.regs hregs) (hev.mem hmem)

/-- Settles O6: a part that `mayChange` does not name is one that the command's law keeps. -/
theorem commandsChangeOnlyTheirParts : Obligations.CommandsChangeOnlyTheirParts :=
  fun _ _ _ p hexec _ hp => (evolves_of_exec hexec).kept p hp

/-- Settles O7: every step evolves, and to evolve is to lower none of these counts. -/
theorem oneWayCountsNeverFall : Obligations.OneWayCountsNeverFall := by
  intro s t hstep
  obtain ⟨A, q, hev⟩ := evolves_of_step hstep
  exact ⟨hev.lc, hev.arb, hev.marks, hev.now, hev.free⟩

end Sys2Proof.Machine
end

section
/-! SUPPORT. The laws of memory: what is read after bytes are stored, and little-endian numbers (R1, R438). -/

namespace Sys2Proof.Machine

/-- Storing a byte changes that byte alone; what an unlisted byte reads as stays. -/
theorem State.byte_setByte (s : State) (a c : Nat) (v : Byte) : (s.setByte a v).byte c = if c = a then v else s.byte c := by
  have hdef : (s.setByte a v).memDefault c = s.memDefault c := memDefault_congr rfl c
  unfold State.byte
  rw [hdef]
  split
  · next h => subst h; exact sparseFind_set_same c _ v s.mem
  · next h => rw [State.setByte, sparseFind_set_ne h]

/-- A byte outside a stored run reads as before. -/
theorem State.byte_setBytes_outside (s : State) (a c : Nat) (l : List Byte) (h : c < a ∨ a + l.length ≤ c) :
    (s.setBytes a l).byte c = s.byte c := by
  induction l generalizing s a with
  | nil => rfl
  | cons v l ih =>
    rw [List.length_cons] at h
    have hne : c ≠ a := by omega
    rw [State.setBytes, ih _ _ (by omega), State.byte_setByte, if_neg hne]

/-- A byte of a stored run is read back in its place. -/
theorem State.byte_setBytes_inside (s : State) (a k : Nat) (l : List Byte) (h : k < l.length) :
    (s.setBytes a l).byte (a + k) = l[k] := by
  induction l generalizing s a k with
  | nil => exact absurd h (Nat.not_lt_zero k)
  | cons v l ih =>
    cases k with
    | zero => rw [State.setBytes, State.byte_setBytes_outside _ _ _ _ (by omega), State.byte_setByte]; simp
    | succ k =>
      have hk : k < l.length := by simpa using h
      have hplace : a + (k + 1) = a + 1 + k := by omega
      rw [State.setBytes, hplace, ih _ _ _ hk, List.getElem_cons_succ]

/-- A stored run is read back in address order. -/
theorem State.bytes_setBytes (s : State) (a : Nat) (l : List Byte) : (s.setBytes a l).bytes a l.length = l := by
  apply List.ext_getElem
  · simp [State.bytes]
  · intro k _ hk
    simp [State.bytes, State.byte_setBytes_inside s a k l hk]

/-- The little-endian bytes of a number spell it, modulo their width. -/
theorem leNat_leBytes (n v : Nat) : leNat (leBytes n v) = v % 256 ^ n := by
  induction n generalizing v with
  | zero => simp [leBytes, leNat, Nat.mod_one]
  | succ n ih =>
    have hsplit : v % 256 ^ (n + 1) = v % 256 + 256 * (v / 256 % 256 ^ n) := by rw [pow_succ', Nat.mod_mul]
    rw [leBytes, leNat, ih, BitVec.toNat_ofNat, hsplit]

/-- Settles O9, by the laws of one stored byte and of a stored run. -/
theorem memoryReadsBack : Obligations.MemoryReadsBack :=
  ⟨State.byte_setByte, State.bytes_setBytes, State.byte_setBytes_outside, leNat_leBytes⟩

end Sys2Proof.Machine
end
section
/-! SUPPORT. What the bus does with an access that no range of the map takes (R277, R279, R438). -/

namespace Sys2Proof.Machine

/-- Refutes O13, in its clause of an address outside every range of the map: a lock-step pair in SERVICE takes its faulting load through the ingress
unit (R277, R279), whose log grows, so DR.PLOG.LOGMAX rises from 0 to 1 and the register file is not as before. -/
theorem not_accessesReachTheirTargets : ¬ Obligations.AccessesReachTheirTargets := by
  rintro ⟨-, hfault, -⟩
  let s : State := State.reset.put DR_PSTATE_STATE pairService
  have hopen : s.busOpen (.pair 0) = true := by decide +kernel
  obtain ⟨t, hexec, hregs, -⟩ := hfault s (.pair 0) 0x50000000 .read hopen (by decide) (by decide)
  have hbefore : s.get DR_PLOG_LOGMAX = 0 := by decide +kernel
  have hafter : t.get DR_PLOG_LOGMAX = 1 := by
    obtain rfl := Host.Outcome.next.inj hexec
    decide +kernel
  have hsame : t.get DR_PLOG_LOGMAX = s.get DR_PLOG_LOGMAX := congrArg DR_PLOG_LOGMAX.of (rdw_congr hregs _ _ _)
  omega

end Sys2Proof.Machine
end
section
/-! SUPPORT. What a part that a change does not name says of its registers and fields, what single fields read after a store, and which bits a
direct write takes (R3, R502). -/

namespace Sys2Proof.Machine

/-! ### Registers that a change leaves alone -/

/-- Which copies a register has. -/
theorem RegId.has_iff (r : RegId) (i j : Nat) : r.has i j = true ↔ r.reg.f1 ≤ i ∧ i < r.reg.f1 + r.reg.n1 ∧ j < r.reg.n2 :=
  decide_eq_true_iff

/-- The copies of a register that is indexed from 0 in one direction. -/
theorem RegId.has_of_lt {r : RegId} {i : Nat} (hi : i < r.reg.n1) (hf : r.reg.f1 = 0) (hn : 0 < r.reg.n2) : r.has i 0 = true :=
  (RegId.has_iff r i 0).2 ⟨by omega, by omega, hn⟩

/-- A word of a register that a change does not name. -/
theorem Evolves.rdw {A : List Part} {s t : State} (h : Evolves A s t) {r : RegId} {i j : Nat} (hr : r.has i j = true) (hp : Part.reg r ∉ A) :
    t.rdw r i j = s.rdw r i j := h.kept _ hp i j hr

/-- A field of a register that a change does not name. -/
theorem Evolves.get {A : List Part} {s t : State} (h : Evolves A s t) {f : Fld} {i j : Nat} (hr : f.reg.has i j = true)
    (hp : Part.reg f.reg ∉ A) : t.get f i j = s.get f i j := congrArg f.of (h.rdw hr hp)

/-- A flag of a register that a change does not name. -/
theorem Evolves.on {A : List Part} {s t : State} (h : Evolves A s t) {f : Fld} {i j : Nat} (hr : f.reg.has i j = true)
    (hp : Part.reg f.reg ∉ A) : t.on f i j = s.on f i j := by
  unfold State.on
  rw [h.get hr hp]

/-- What every change of a repetition leaves alone, the repetition does. -/
theorem State.each_keeps {α β : Type} (g : State → β) (l : List α) (f : State → α → State) (hf : ∀ t x, g (f t x) = g t) (s : State) :
    g (s.each l f) = g s := by
  unfold State.each
  induction l generalizing s with
  | nil => rfl
  | cons x l ih => exact (ih (f s x)).trans (hf s x)

/-! ### Fields -/

/-- A flag reads what is stored in it. -/
theorem State.on_put (s : State) (f : Fld) (v i j : Nat) (h : f.reg.has i j = true) (hw : f.lo + f.width ≤ 32) :
    (s.put f v i j).on f i j = (v % 2 ^ f.width != 0) := by
  unfold State.on
  rw [State.get_put s f v i j h hw]

/-- A field reads as before when another field of the same word is stored. -/
theorem State.get_put_apart (s : State) (f g : Fld) (v i j : Nat) (h : g.reg.has i j = true)
    (hne : g.lo + g.width ≤ f.lo ∨ f.lo + f.width ≤ g.lo) : (s.put f v i j).get g i j = s.get g i j :=
  State.get_put_ne s f g v i j i j h (.inr (.inr (.inr hne)))

/-- A flag reads as before when another field of the same word is stored. -/
theorem State.on_put_apart (s : State) (f g : Fld) (v i j : Nat) (h : g.reg.has i j = true)
    (hne : g.lo + g.width ≤ f.lo ∨ f.lo + f.width ≤ g.lo) : (s.put f v i j).on g i j = s.on g i j := by
  unfold State.on
  rw [State.get_put_apart s f g v i j h hne]

/-- Two fields that share no bit: of different registers, or one below the other. -/
abbrev Fld.Apart (f g : Fld) : Prop := g.reg ≠ f.reg ∨ g.lo + g.width ≤ f.lo ∨ f.lo + f.width ≤ g.lo

/-- A field that shares no bit with the one that is stored reads as before. -/
theorem State.get_put_of_apart (s : State) {f g : Fld} (v i j : Nat) (h : g.reg.has i j = true) (hne : f.Apart g) :
    (s.put f v i j).get g i j = s.get g i j :=
  State.get_put_ne s f g v i j i j h (by tauto)

/-- A flag that shares no bit with the field that is stored reads as before. -/
theorem State.on_put_of_apart (s : State) {f g : Fld} (v i j : Nat) (h : g.reg.has i j = true) (hne : f.Apart g) :
    (s.put f v i j).on g i j = s.on g i j := by
  unfold State.on
  rw [State.get_put_of_apart s v i j h hne]

/-- Two words that agree on a field's bits have the same field. -/
theorem Fld.of_congr {f : Fld} {a b : Word} (h : ∀ k < f.width, a.getLsbD (f.lo + k) = b.getLsbD (f.lo + k)) : f.of a = f.of b := by
  apply Nat.eq_of_testBit_eq
  intro k
  unfold Fld.of
  rw [bits_bit, bits_bit]
  by_cases hk : k < f.width
  · rw [h k hk]
  · simp [hk]

/-! ### The words of a direct write -/

/-- A bit after a direct write: a W1C bit written 1 is clear, an RW bit is as written, every other bit keeps its value (R3). -/
theorem RegId.written_bit (r : RegId) (old v : Word) {k : Nat} (hk : k < 32) :
    (r.written old v).getLsbD k = (!(r.reg.w1c.testBit k && v.getLsbD k) && if r.reg.rw.testBit k then v.getLsbD k else old.getLsbD k) := by
  unfold RegId.written
  simp only [BitVec.getLsbD_and, BitVec.getLsbD_or, BitVec.getLsbD_not, BitVec.getLsbD_ofNat, hk, decide_true, Bool.true_and]
  cases r.reg.rw.testBit k <;> cases r.reg.w1c.testBit k <;> cases v.getLsbD k <;> simp

/-- A field whose bits are all RW takes what is written. -/
theorem Fld.of_written (f : Fld) (old v : Word) (hw : f.lo + f.width ≤ 32)
    (hrw : ∀ k < f.width, f.reg.reg.rw.testBit (f.lo + k) = true ∧ f.reg.reg.w1c.testBit (f.lo + k) = false) :
    f.of (f.reg.written old v) = f.of v := by
  refine Fld.of_congr (fun k hk => ?_)
  obtain ⟨h1, h2⟩ := hrw k hk
  rw [RegId.written_bit _ _ _ (by omega), h1, h2]
  simp

/-- A bit that a refused change keeps is as it stood, any other is as written (R502). -/
theorem keeping_bit (old v mask : Word) {k : Nat} (hk : k < 32) :
    (keeping old v mask).getLsbD k = if mask.getLsbD k then old.getLsbD k else v.getLsbD k := by
  unfold keeping
  simp only [BitVec.getLsbD_or, BitVec.getLsbD_and, BitVec.getLsbD_not, hk, decide_true, Bool.true_and]
  cases mask.getLsbD k <;> simp

/-- A write that changes no RW bit of a register without W1C bits leaves its word. -/
theorem RegId.written_of_unchanged (r : RegId) (old v : Word) (hwc : r.reg.w1c = 0)
    (h : changes old v (BitVec.ofNat 32 r.reg.rw) = false) : r.written old v = old := by
  have hx : (old ^^^ v) &&& BitVec.ofNat 32 r.reg.rw = 0#32 := by simpa [changes] using h
  apply BitVec.eq_of_getLsbD_eq
  intro k hk
  have hbit : ((old.getLsbD k ^^ v.getLsbD k) && r.reg.rw.testBit k) = false := by
    have hk' := congrArg (fun w : Word => w.getLsbD k) hx
    simpa only [BitVec.getLsbD_and, BitVec.getLsbD_xor, BitVec.getLsbD_ofNat, hk, decide_true, Bool.true_and, Nat.zero_testBit]
      using hk'
  rw [RegId.written_bit _ _ _ hk, hwc, Nat.zero_testBit]
  revert hbit
  cases old.getLsbD k <;> cases v.getLsbD k <;> cases r.reg.rw.testBit k <;> simp

/-- A written word acts as it is on a register without W1C bits (R3). -/
theorem State.settle_of_no_w1c (s : State) (r : RegId) (v : Word) (i j : Nat) (hwc : r.reg.w1c = 0) : s.settle r v i j = v := by
  unfold State.settle
  rw [hwc, BitVec.and_zero, BitVec.not_zero, BitVec.and_allOnes]

/-! ### A master's write -/

/-- Changing a pair's unit changes the Drift pairs' state alone. -/
theorem State.updPair_eq (s : State) (n : Nat) (f : DriftPairU → DriftPairU) : ∃ d, s.updPair n f = { s with drift := d } := by
  unfold State.updPair
  split
  · exact ⟨_, rfl⟩
  · exact ⟨s.drift, rfl⟩

/-- A pair's unit after a change of one. -/
theorem State.pairU_updPair (s : State) (n k : Nat) (f : DriftPairU → DriftPairU) :
    (s.updPair n f).pairU k = if k = n ∧ n < 16 then f (s.pairU k) else s.pairU k := by
  unfold State.updPair
  split
  · next hn =>
    by_cases hk : k = n
    · subst hk
      simp [State.pairU, upd, hn]
    · simp [State.pairU, upd, hk, Vector.toList_set, Ne.symm hk]
  · next hn => simp [hn]

/-- Noting what a pair releases (R282) changes the Drift pairs' state alone, and no master's slice. -/
theorem State.noteWrite_eq (s : State) (m : Master) (a : Nat) (b : List Byte) :
    ∃ d, s.noteWrite m a b = { s with drift := d } ∧ ∀ q, State.selfSlice { s with drift := d } q = s.selfSlice q := by
  have hsame : ∃ d, s = { s with drift := d } ∧ ∀ q, State.selfSlice { s with drift := d } q = s.selfSlice q := ⟨s.drift, rfl, fun _ => rfl⟩
  unfold State.noteWrite
  split
  · split
    · obtain ⟨d, hd⟩ := State.updPair_eq s _ _
      refine ⟨d, hd, fun q => ?_⟩
      rw [← hd]
      cases q
      case pair p =>
        unfold State.selfSlice
        simp only [State.pairU_updPair]
        split <;> rfl
      all_goals rfl
    · exact hsame
  · exact hsame

/-- A write by a master whose ports are open: the register's store, after what it releases has been noted. -/
theorem State.regStore_eq (s : State) (m : Master) (r : RegId) (v : Word) (i j : Nat) (h : s.busOpen m = true) :
    ∃ d, s.regStore m r v i j = State.store { s with drift := d } m r (s.settle r v i j) i j := by
  obtain ⟨d, hd, -⟩ := State.noteWrite_eq s m (r.addr i j) (leBytes 4 v.toNat)
  exact ⟨d, by rw [State.regStore, if_pos h, hd]⟩

end Sys2Proof.Machine
end
section
/-! SUPPORT. The interrupt slices and coalescing groups (R301 to R309): what a request line that follows leaves alone, what CLAIM, COMPLETE, a PEND
write, the configuration writes and a release do. -/

namespace Sys2Proof.Machine

/-! ### Registers behind DR.PLOG

A request line that rises is an input of its pairs' ingress logs, which shows in DR.PLOG and in no other register. The laws below say so of every
place behind DR.PLOG, whether it is a register copy's or not, so that they hold of a slice that no register stands for too. -/

/-- A place of a register behind DR.PLOG is none of DR.PLOG's. -/
theorem RegId.key_ne_plog {r : RegId} (hr : RegId.DR_PLOG.ctorIdx < r.ctorIdx) {n : Nat} (hn : RegId.DR_PLOG.has n 0 = true) (i j : Nat) :
    r.key i j ≠ RegId.DR_PLOG.key n 0 := by
  obtain ⟨hsmall, -⟩ := RegId.has_small hn
  unfold RegId.key
  omega

section BehindPlog
variable {r : RegId} (hr : RegId.DR_PLOG.ctorIdx < r.ctorIdx) (i j : Nat)
include hr

/-- Storing a field of DR.PLOG. -/
theorem State.put_plog_rdw (s : State) (f : Fld) (hf : f.reg = .DR_PLOG) (v n : Nat) : (s.put f v n).rdw r i j = s.rdw r i j := by
  rw [State.rdw_put, hf]
  unfold State.wrw State.rdw
  split
  · next hn => rw [sparseFind_set_ne (RegId.key_ne_plog hr hn i j)]
  · rfl

/-- An input of an ingress log. -/
theorem State.ingress_rdw (s : State) (n kind : Nat) (v : Word) : (s.ingress n kind v).rdw r i j = s.rdw r i j := by
  have hpair : ∀ f, (s.updPair n f).rdw r i j = s.rdw r i j := fun f => by obtain ⟨d, hd⟩ := State.updPair_eq s n f; rw [hd]; rfl
  unfold State.ingress
  dsimp only
  split
  · split
    · exact hpair _
    · exact (State.put_plog_rdw hr i j _ DR_PLOG_LOGMAX rfl _ _).trans (hpair _)
  · rfl

/-- The end of a frame wait. -/
theorem State.endWait_rdw (s : State) (n k : Nat) (woken filler : Bool) : (s.endWait n k woken filler).rdw r i j = s.rdw r i j := by
  have hpair : ∀ (u : State) f, (u.updPair n f).rdw r i j = u.rdw r i j :=
    fun u f => by obtain ⟨d, hd⟩ := State.updPair_eq u n f; rw [hd]; rfl
  unfold State.endWait State.retire State.updCore
  split
  · rfl
  · dsimp only
    split <;> simp only [hpair, State.ingress_rdw hr]

/-- An interrupt that a core takes. -/
theorem State.coreIrq_rdw (s : State) (n k : Nat) : (s.coreIrq n k).rdw r i j = s.rdw r i j := by
  have htrap : ∀ (u : State) c x, (u.takeTrap n k c x).rdw r i j = u.rdw r i j :=
    fun u c x => by obtain ⟨d, hd⟩ := State.updPair_eq u n _; exact (congrArg (fun t : State => t.rdw r i j) hd).trans rfl
  have hwait : (if ((s.pairU n).core k).waiting.any (fun x => x.1) then s.endWait n k true false else s).rdw r i j = s.rdw r i j := by
    split
    · exact State.endWait_rdw hr i j s n k true false
    · rfl
  unfold State.coreIrq
  dsimp only
  generalize (if ((s.pairU n).core k).waiting.any (fun x => x.1) then s.endWait n k true false else s) = s1 at hwait ⊢
  split
  · rfl
  · split
    · rw [htrap, hwait]
    · exact hwait

/-- A request line that follows its sources. -/
theorem State.lineFollow_rdw (s : State) (k : Nat) : (s.lineFollow k).rdw r i j = s.rdw r i j := by
  unfold State.lineFollow
  dsimp only
  split
  · split
    · rfl
    · split
      · exact State.each_keeps (fun t => t.rdw r i j) _ _ (fun t n => State.ingress_rdw hr i j t n _ _) _
      · rfl
  · rfl

/-- A request line that is taken anew. -/
theorem State.wakeSlice_rdw (s : State) (k : Nat) : (s.wakeSlice k).rdw r i j = s.rdw r i j := by
  unfold State.wakeSlice
  dsimp only
  split
  · exact (State.each_keeps (fun t => t.rdw r i j) _ _ (fun t n => State.coreIrq_rdw hr i j t n 0) _).trans (State.lineFollow_rdw hr i j s k)
  · exact State.lineFollow_rdw hr i j s k

end BehindPlog

/-! ### What is in service and what is held -/

/-- A request line that follows changes of the interrupt unit the lines alone. -/
theorem State.lineFollow_intc (s : State) (k : Nat) : ∃ l, (s.lineFollow k).intc = { s.intc with line := l } := by
  unfold State.lineFollow
  dsimp only
  split
  · split
    · exact ⟨_, rfl⟩
    · split
      · exact ⟨_, State.each_keeps State.intc _ _ (fun t n => (State.ingress_evolves (.refl _ t) n _ _ (covers_self _)).kept .intc (by decide)) _⟩
      · exact ⟨_, rfl⟩
  · exact ⟨_, rfl⟩

/-- So does one that is taken anew. -/
theorem State.wakeSlice_intc (s : State) (k : Nat) : ∃ l, (s.wakeSlice k).intc = { s.intc with line := l } := by
  obtain ⟨l, hl⟩ := State.lineFollow_intc s k
  refine ⟨l, ?_⟩
  unfold State.wakeSlice
  dsimp only
  split
  · exact (State.each_keeps State.intc _ _ (fun t n => (State.coreIrq_evolves (.refl _ t) n 0 (covers_self _)).kept .intc (by decide)) _).trans hl
  · exact hl

/-- The sources in service stay. -/
@[simp] theorem State.wakeSlice_inService (s : State) (k : Nat) : (s.wakeSlice k).intc.inService = s.intc.inService := by
  obtain ⟨l, hl⟩ := State.wakeSlice_intc s k
  rw [hl]

/-- What groups hold stays. -/
@[simp] theorem State.wakeSlice_held (s : State) (k : Nat) : (s.wakeSlice k).intc.held = s.intc.held := by
  obtain ⟨l, hl⟩ := State.wakeSlice_intc s k
  rw [hl]

/-! ### CLAIM (R304) -/

/-- The best of a list is one of it. -/
theorem best_mem (p : Nat → Nat) (l : List Nat) (best : Option Nat) {x : Nat}
    (h : l.foldl (fun best src => match best with
      | none => some src
      | some b => if p src > p b then some src else best) best = some x) : best = some x ∨ x ∈ l := by
  induction l generalizing best with
  | nil => exact .inl h
  | cons y l ih =>
    rcases ih _ h with hb | hx
    · cases best with
      | none => exact .inr (by simp_all)
      | some b =>
        dsimp only at hb
        split at hb
        · exact .inr (by simp_all)
        · exact .inl hb
    · exact .inr (List.mem_cons_of_mem _ hx)

/-- A source that is pending in a slice is one of the 1,024. -/
theorem State.pendingIn_lt {s : State} {n src : Nat} (h : src ∈ s.pendingIn n) : src < 1024 := by
  obtain ⟨j, hj, h⟩ := List.mem_flatMap.1 h
  dsimp only at h
  split at h
  · simp at h
  · obtain ⟨i, hi, h⟩ := List.mem_filterMap.1 h
    rw [List.mem_range] at hi hj
    split at h
    · simp only [Option.some.injEq] at h
      omega
    · simp at h

/-- The best deliverable source is one of the 1,024. -/
theorem State.bestSource_lt {s : State} {n src : Nat} (h : s.bestSource n = some src) : src < 1024 := by
  rcases best_mem _ _ _ h with h | h
  · simp at h
  · exact State.pendingIn_lt (List.mem_of_mem_filter h)

/-- The 32 words of PEND of a slice. -/
theorem pendWord_has {k : Nat} (hk : k < 17) (j : Fin 32) : RegId.IC_PEND.has k j.val = true :=
  (RegId.has_iff _ _ _).2 ⟨Nat.zero_le k, hk, j.isLt⟩

/-- The word of PEND that shows a source in a slice. -/
theorem pend_has {k src : Nat} (hk : k < 17) (hs : src < 1024) : RegId.IC_PEND.has k (src / 32) = true :=
  pendWord_has hk ⟨src / 32, by omega⟩

/-- A pending bit that is cleared reads as clear. -/
theorem State.isPending_setPending_false (s : State) {k src : Nat} (hk : k < 17) (hs : src < 1024) :
    (s.setPending k src false).isPending k src = false := by
  unfold State.setPending State.isPending
  rw [State.note_rdw, State.rdw_wrw _ _ _ _ _ (pend_has hk hs), bit, setBits_bit]
  have : src % 32 < 32 := Nat.mod_lt _ (by omega)
  simp [this]

/-- A claim that finds a source answers it, clears its pending bit and puts it in service. -/
theorem State.claim_some (s : State) {k src : Nat} (hk : k < 17) (h : s.bestSource k = some src) :
    (s.claim k).bus = ⟨BitVec.ofNat 32 src, .ok⟩ ∧ (s.claim k).isPending k src = false ∧ (s.claim k).intc.inService = (k, src) :: s.intc.inService := by
  have hs := State.bestSource_lt h
  unfold State.claim
  rw [h]
  dsimp only
  refine ⟨(State.lineFollow_evolves (.refl _ _) k (covers_self _)).kept .bus (by decide), ?_, ?_⟩
  · unfold State.isPending
    rw [(State.lineFollow_evolves (.refl _ _) k (covers_self _)).rdw (pend_has hk hs) (by decide)]
    exact State.isPending_setPending_false s hk hs
  · obtain ⟨l, hl⟩ := State.lineFollow_intc _ k
    rw [hl]
    rfl

/-- What a load answers. -/
theorem State.busLoad_bus (s : State) (m : Master) (v : Word) : (s.busLoad m v).bus = ⟨v, .ok⟩ := by
  cases m <;> rfl

/-- The CLAIM register of each slice is at its address. -/
theorem regAt_claim (k : Slice) : regAt (0x40481004 + k.val * 0x100) = some (.IC_CLAIM, k.val, 0) := by
  revert k
  decide

/-- A master's CLAIM address names the CLAIM of the slice that it reaches. -/
theorem State.regFor_claim (s : State) (m : Master) (n : Option Slice) {k : Nat} (hk : k < 17) (hn : s.sliceOf m n = some k) :
    s.regFor m (sliceAddr n 4) = some (.IC_CLAIM, k, 0) := by
  cases n with
  | none =>
    have hself : s.selfSlice m = some k := hn
    unfold State.regFor
    rw [if_pos (by decide), hself]
    dsimp only [sliceAddr]
    exact regAt_claim ⟨k, hk⟩
  | some q =>
    obtain rfl : q.val = k := Option.some.inj hn
    have haddr : sliceAddr (some q) 4 = 0x40481004 + q.val * 0x100 := by dsimp only [sliceAddr]; omega
    have hout : inSelf (0x40481004 + q.val * 0x100) = false := by
      simp only [inSelf, Bool.and_eq_false_iff, decide_eq_false_iff_not]
      omega
    have hthere : s.regThere .IC_CLAIM q.val = true := rfl
    unfold State.regFor
    rw [haddr, if_neg (by simp [hout]), regAt_claim]
    simp [hthere]

/-- A claim is the slice's claim, its answer loaded by the master. -/
theorem execClaim_eq (s : State) (m : Master) (n : Option Slice) {k : Nat} (hopen : s.busOpen m = true) (hk : k < 17) (hn : s.sliceOf m n = some k) :
    exec (.claim m n) s = .next ((s.claim k).busLoad m (s.claim k).bus.data) := by
  have hread : s.readAt m (sliceAddr n 4) = (s.claim k).busLoad m (s.claim k).bus.data := by
    unfold State.readAt
    rw [State.regFor_claim s m n hk hn]
    rfl
  show execClaim m n s = _
  rw [execClaim, if_pos hopen, hread]

/-- R304: CLAIM answers the best deliverable source, clears its pending bit and puts it in service. -/
theorem claim_takes_best (s : State) (m : Master) (n : Option Slice) (k src : Nat) (hopen : s.busOpen m = true) (hn : s.sliceOf m n = some k)
    (hk : k < 17) (h : s.bestSource k = some src) :
    ∃ t, exec (.claim m n) s = .next t ∧ t.bus = ⟨BitVec.ofNat 32 src, .ok⟩ ∧ t.isPending k src = false ∧
      t.intc.inService.contains (k, src) = true := by
  obtain ⟨hbus, hpend, hserv⟩ := State.claim_some s hk h
  have hload := State.busLoad_evolves (.refl _ (s.claim k)) m (s.claim k).bus.data (covers_self _)
  refine ⟨_, execClaim_eq s m n hopen hk hn, ?_, ?_, ?_⟩
  · rw [State.busLoad_bus, hbus]
  · unfold State.isPending at hpend ⊢
    rw [hload.rdw (pend_has hk (State.bestSource_lt h)) (by decide)]
    exact hpend
  · have hintc : _ = (s.claim k).intc := hload.kept .intc (by decide)
    rw [hintc, hserv]
    simp

/-- R304: CLAIM of a slice without a deliverable source answers 1,024 and changes nothing of the slices. -/
theorem claim_finds_none (s : State) (m : Master) (n : Option Slice) (k : Nat) (hopen : s.busOpen m = true) (hn : s.sliceOf m n = some k)
    (hk : k < 17) (h : s.bestSource k = none) :
    ∃ t, exec (.claim m n) s = .next t ∧ t.bus = ⟨1024, .ok⟩ ∧ (∀ j : Fin 32, t.rdw .IC_PEND k j.val = s.rdw .IC_PEND k j.val) ∧
      t.intc = s.intc := by
  have hclaim : s.claim k = { s with bus := ⟨1024, .ok⟩ } := by rw [State.claim, h]
  have hload := State.busLoad_evolves (.refl _ (s.claim k)) m (s.claim k).bus.data (covers_self _)
  refine ⟨_, execClaim_eq s m n hopen hk hn, ?_, fun j => ?_, ?_⟩
  · rw [State.busLoad_bus, hclaim]
  · rw [hload.rdw (pendWord_has hk j) (by decide), hclaim]
    rfl
  · exact (hload.kept .intc (by decide)).trans (by rw [hclaim])

/-! ### Writes to a slice (R302, R304, R306) -/

/-- A write that a master may make to a slice acts on it. -/
theorem State.sliceWrite_eq (s : State) (m : Master) (n : Option Slice) (f : State → Nat → State) {k : Nat} (hn : s.sliceOf m n = some k)
    (hmay : s.mayWriteSlice m n = true) : s.sliceWrite m n f = f s k := by
  simp [State.sliceWrite, hn, hmay]

/-- The slice that an access names, and who may write it, rest on the registers and on the master's own slice. -/
theorem State.sliceWrite_noteWrite (s : State) (m : Master) (n : Option Slice) (a : Nat) (b : List Byte) (f : State → Nat → State) {k : Nat}
    (hn : s.sliceOf m n = some k) (hmay : s.mayWriteSlice m n = true) :
    ∃ d, (s.noteWrite m a b).sliceWrite m n f = f { s with drift := d } k := by
  obtain ⟨d, hd, hself⟩ := State.noteWrite_eq s m a b
  have hn' : State.sliceOf { s with drift := d } m n = s.sliceOf m n := by
    cases n with
    | none => exact hself m
    | some q => rfl
  have hmay' : State.mayWriteSlice { s with drift := d } m n = s.mayWriteSlice m n := by
    cases m with
    | banksman => unfold State.mayWriteSlice; rw [hn']
    | _ => rfl
  rw [hd]
  exact ⟨d, State.sliceWrite_eq _ m n f (hn'.trans hn) (hmay'.trans hmay)⟩

/-- R304: COMPLETE of a source in service ends its service. -/
theorem complete_ends_service (s : State) (m : Master) (n : Option Slice) (v : Word) (k : Nat) (hopen : s.busOpen m = true)
    (hn : s.sliceOf m n = some k) (hmay : s.mayWriteSlice m n = true) (h : s.intc.inService.contains (k, IC_COMPLETE_ID.of v) = true) :
    ∃ t, exec (.completeSource m n v) s = .next t ∧ t.intc.inService.contains (k, IC_COMPLETE_ID.of v) = false ∧
      t.rdw .IC_SSTAT k = s.rdw .IC_SSTAT k := by
  obtain ⟨d, hd⟩ := State.sliceWrite_noteWrite s m n (sliceAddr n 8) (leBytes 4 v.toNat) (fun s k => s.complete k v) hn hmay
  have hexec : exec (.completeSource m n v) s = .next (State.complete { s with drift := d } k v) := by
    show execCompleteSource m n v s = _
    rw [execCompleteSource, if_pos hopen, hd]
  refine ⟨_, hexec, ?_, ?_⟩ <;> unfold State.complete <;> dsimp only <;> rw [if_pos h]
  · simp
  · exact State.wakeSlice_rdw (by decide) k 0 _ k

/-- R304: COMPLETE of a source that is not in service sets COMPLETE_DENIED. -/
theorem complete_denied (s : State) (m : Master) (n : Option Slice) (v : Word) (k : Nat) (hopen : s.busOpen m = true)
    (hn : s.sliceOf m n = some k) (hk : k < 17) (hmay : s.mayWriteSlice m n = true)
    (h : s.intc.inService.contains (k, IC_COMPLETE_ID.of v) = false) :
    ∃ t, exec (.completeSource m n v) s = .next t ∧ t.get IC_SSTAT_COMPLETE_DENIED k = 1 ∧ t.intc = s.intc := by
  obtain ⟨d, hd⟩ := State.sliceWrite_noteWrite s m n (sliceAddr n 8) (leBytes 4 v.toNat) (fun s k => s.complete k v) hn hmay
  have hexec : exec (.completeSource m n v) s = .next (State.put { s with drift := d } IC_SSTAT_COMPLETE_DENIED 1 k) := by
    have hfalse : ¬ (State.intc { s with drift := d }).inService.contains (k, IC_COMPLETE_ID.of v) = true := fun c => Bool.false_ne_true (h.symm.trans c)
    show execCompleteSource m n v s = _
    rw [execCompleteSource, if_pos hopen, hd, State.complete]
    exact congrArg Host.Outcome.next (if_neg hfalse)
  have hhas : RegId.IC_SSTAT.has k 0 = true := RegId.has_of_lt hk rfl Nat.one_pos
  exact ⟨_, hexec, State.get_put _ IC_SSTAT_COMPLETE_DENIED 1 k 0 hhas (by decide), rfl⟩

/-- A PEND word after a write: each bit written 1 is clear. -/
theorem written_pend (old v : Word) : RegId.IC_PEND.written old v = old &&& ~~~v := by
  apply BitVec.eq_of_getLsbD_eq
  intro k hk
  have hwc : RegId.IC_PEND.reg.w1c.testBit k = true := by
    revert k
    decide
  rw [RegId.written_bit _ _ _ hk, hwc, show RegId.IC_PEND.reg.rw = 0 from rfl, Nat.zero_testBit]
  simp [hk, Bool.and_comm]

/-- R3, R306: a PEND write clears the bits written 1 that were not set in the same tick, and no other word. -/
theorem pend_write_clears (s : State) (m : Master) (n : Option Slice) (j : Fin 32) (v : Word) (k : Nat) (hopen : s.busOpen m = true)
    (hn : s.sliceOf m n = some k) (hk : k < 17) (hmay : s.mayWriteSlice m n = true) :
    ∃ t, exec (.pendClear m n j v) s = .next t ∧
      t.rdw .IC_PEND k j.val = s.rdw .IC_PEND k j.val &&& ~~~(v &&& ~~~(s.freshBits .IC_PEND k j.val)) ∧
      (∀ i : Fin 32, i ≠ j → t.rdw .IC_PEND k i.val = s.rdw .IC_PEND k i.val) := by
  obtain ⟨d, hd⟩ := State.sliceWrite_noteWrite s m n (sliceAddr n (0x80 + 4 * j.val)) (leBytes 4 v.toNat)
    (fun s k => s.pendWrite k j.val (s.settle .IC_PEND v k j.val)) hn hmay
  have hexec : exec (.pendClear m n j v) s = .next (State.pendWrite { s with drift := d } k j.val (s.settle .IC_PEND v k j.val)) := by
    show execPendClear m n j v s = _
    rw [execPendClear, if_pos hopen, hd]
    rfl
  have hline : ∀ (u : State) (i : Fin 32), (u.lineFollow k).rdw .IC_PEND k i.val = u.rdw .IC_PEND k i.val :=
    fun u i => State.lineFollow_rdw (by decide) k i.val u k
  have hsettle : s.settle .IC_PEND v k j.val = v &&& ~~~(s.freshBits .IC_PEND k j.val) := by
    unfold State.settle
    rw [show BitVec.ofNat 32 RegId.IC_PEND.reg.w1c = BitVec.allOnes 32 from rfl, BitVec.and_allOnes]
  refine ⟨_, hexec, ?_, fun i hij => ?_⟩
  · unfold State.pendWrite
    dsimp only
    rw [hline, ← hsettle, ← written_pend]
    exact State.rdw_wrw _ _ _ _ _ (pendWord_has hk j)
  · unfold State.pendWrite
    dsimp only
    rw [hline]
    exact State.rdw_wrw_ne _ _ _ _ _ _ _ _ (pendWord_has hk i) (.inr (.inr (fun e => hij (Fin.ext e))))

end Sys2Proof.Machine
end
section
/-! SUPPORT. The configuration of sources and coalescing groups, and the release of a group (R302, R308). -/

namespace Sys2Proof.Machine

/-! ### SRCCFG (R302) -/

/-- Every source has its SRCCFG. -/
theorem srccfg_has (src : Source) : RegId.IC_SRCCFG.has src.val 0 = true :=
  RegId.has_of_lt src.isLt rfl Nat.one_pos

/-- A master that may configure interrupts: the Banksman or a pair in lock-step (R302). -/
theorem mayConfigure {s : State} {m : Master} (hm : m = .banksman ∨ s.lockstep m = true) : (decide (m ≠ .banksman) && !s.lockstep m) = false := by
  rcases hm with rfl | hm
  · rfl
  · simp [hm]

/-- A SRCCFG write that the owner rule, the slice 16 rule and the group rule allow stores the word. -/
theorem State.srccfgWrite_admitted (s : State) (m : Master) (src : Source) (v : Word) (hm : m = .banksman ∨ s.lockstep m = true)
    (hown : (s.sourceBlock src.val).all (fun b => s.mayWriteBlock m b) = true) (ht : IC_SRCCFG_TARGET.of v ≤ 16)
    (h16 : slice16Refuses m (IC_SRCCFG_TARGET.of (s.rdw .IC_SRCCFG src.val)) (IC_SRCCFG_TARGET.of v) = false)
    (hgrp : IC_SRCCFG_GROUPED.of v = 1 → s.get IC_GCFG_GSLICE (IC_SRCCFG_GROUP.of v) = IC_SRCCFG_TARGET.of v) :
    (s.srccfgWrite m src.val v).rdw .IC_SRCCFG src.val = RegId.IC_SRCCFG.written (s.rdw .IC_SRCCFG src.val) v := by
  have htarget : decide (IC_SRCCFG_TARGET.of v > 16) = false := decide_eq_false (by omega)
  have hgroup : (IC_SRCCFG_GROUPED.of v == 1 && s.get IC_GCFG_GSLICE (IC_SRCCFG_GROUP.of v) != IC_SRCCFG_TARGET.of v) = false := by
    by_cases h : IC_SRCCFG_GROUPED.of v = 1
    · simp [hgrp h]
    · simp [h]
  have hstored : ∀ l, ((s.regWrite .IC_SRCCFG v src.val).each l State.wakeSlice).rdw .IC_SRCCFG src.val =
      RegId.IC_SRCCFG.written (s.rdw .IC_SRCCFG src.val) v := fun l =>
    (State.each_keeps (fun t => t.rdw .IC_SRCCFG src.val) _ _ (fun t k => State.wakeSlice_rdw (by decide) _ _ t k) _).trans
      (State.rdw_wrw _ _ _ _ _ (srccfg_has src))
  unfold State.srccfgWrite
  dsimp only
  rw [mayConfigure hm, h16, hgroup, htarget]
  split
  · next h => exact (RegId.written_of_unchanged _ _ _ rfl (by simpa using h)).symm
  · cases hb : s.sourceBlock src.val with
    | none => exact hstored _
    | some b =>
      have hmay : s.mayWriteBlock m b = true := by simpa [hb] using hown
      simpa [hmay] using hstored _

/-- R302: a SRCCFG write that its rules allow stores the word. -/
theorem srccfg_write_stores (s : State) (m : Master) (src : Source) (v : Word) (hopen : s.busOpen m = true)
    (hm : m = .banksman ∨ s.lockstep m = true) (hown : (s.sourceBlock src.val).all (fun b => s.mayWriteBlock m b) = true)
    (ht : IC_SRCCFG_TARGET.of v ≤ 16)
    (h16 : slice16Refuses m (IC_SRCCFG_TARGET.of (s.rdw .IC_SRCCFG src.val)) (IC_SRCCFG_TARGET.of v) = false)
    (hgrp : IC_SRCCFG_GROUPED.of v = 1 → s.get IC_GCFG_GSLICE (IC_SRCCFG_GROUP.of v) = IC_SRCCFG_TARGET.of v) :
    ∃ t, exec (.srccfgWrite m src v) s = .next t ∧ t.rdw .IC_SRCCFG src.val = RegId.IC_SRCCFG.written (s.rdw .IC_SRCCFG src.val) v ∧
      t.get IC_SRCCFG_TARGET src.val = IC_SRCCFG_TARGET.of v := by
  obtain ⟨d, hd⟩ := State.regStore_eq s m .IC_SRCCFG v src.val 0 hopen
  rw [State.settle_of_no_w1c _ _ _ _ _ rfl] at hd
  have hword := State.srccfgWrite_admitted { s with drift := d } m src v hm hown ht h16 hgrp
  refine ⟨_, congrArg Host.Outcome.next hd, hword, ?_⟩
  exact (congrArg IC_SRCCFG_TARGET.of hword).trans (Fld.of_written IC_SRCCFG_TARGET _ v (by decide) (by decide))

/-! ### The release of a group (R308) -/

/-- Every group has its GCFG and its GSTAT. -/
theorem gcfg_has (g : IcGroup) : RegId.IC_GCFG.has g.val 0 = true := RegId.has_of_lt g.isLt rfl Nat.one_pos

theorem gstat_has (g : IcGroup) : RegId.IC_GSTAT.has g.val 0 = true := RegId.has_of_lt g.isLt rfl Nat.one_pos

/-- What a group's release leaves: no source is held by it, HELD is 0, RELEASES has counted, its timer does not run. -/
theorem State.releaseGroup_released (s : State) (g : IcGroup) :
    (s.releaseGroup g.val).get IC_GSTAT_HELD g.val = 0 ∧
      (s.releaseGroup g.val).intc.held.all (fun p => p.group != g.val) = true ∧
      (s.releaseGroup g.val).get IC_GSTAT_RELEASES g.val = (s.get IC_GSTAT_RELEASES g.val + 1) % 2 ^ IC_GSTAT_RELEASES.width ∧
      (s.releaseGroup g.val).armed (.icGroup g.val) = false := by
  have hhas := gstat_has g
  have hget : ∀ (f : Fld) (_ : f.reg = .IC_GSTAT) l (u : State), (u.each l State.wakeSlice).get f g.val = u.get f g.val := fun f hf l u =>
    congrArg f.of (State.each_keeps (fun t => t.rdw f.reg g.val) _ _ (fun t k => State.wakeSlice_rdw (by rw [hf]; decide) _ _ t k) u)
  have htimers : ∀ l (u : State), (u.each l State.wakeSlice).timers = u.timers := fun l u =>
    State.each_keeps State.timers _ _ (fun t k => (State.wakeSlice_evolves (.refl _ t) k (covers_self _)).kept .timers (by decide)) u
  have hheld : ∀ l (u : State), (u.each l State.wakeSlice).intc.held = u.intc.held := fun l u =>
    State.each_keeps (fun t => t.intc.held) _ _ (fun t k => State.wakeSlice_held t k) u
  unfold State.releaseGroup
  dsimp only
  refine ⟨?_, ?_, ?_, ?_⟩
  · rw [hget _ rfl, State.disarm_get, State.bump, State.get_put_apart _ IC_GSTAT_RELEASES IC_GSTAT_HELD _ _ _ hhas (by decide)]
    exact State.get_put _ IC_GSTAT_HELD 0 g.val 0 hhas (by decide)
  · rw [hheld]
    simp only [State.disarm_intc, State.bump, State.put_intc, List.all_filter, List.all_eq_true]
    intro p hp
    by_cases hpg : p.group = g.val
    · have hany : ∃ q ∈ s.intc.held, q.group = g.val ∧ q.slice = p.slice ∧ q.source = p.source := ⟨p, hp, hpg, rfl, rfl⟩
      simpa [hpg] using hany
    · simp [hpg]
  · rw [hget _ rfl, State.disarm_get, State.bump, State.get_put _ IC_GSTAT_RELEASES _ _ _ hhas (by decide),
      State.get_put_apart _ IC_GSTAT_HELD IC_GSTAT_RELEASES _ _ _ hhas (by decide)]
    rfl
  · unfold State.armed State.deadline
    rw [htimers]
    simp [State.disarm, List.find?_filter]

/-- A release touches no GCFG. -/
theorem State.releaseGroup_gcfg (s : State) (g : IcGroup) : (s.releaseGroup g.val).rdw .IC_GCFG g.val = s.rdw .IC_GCFG g.val :=
  (State.releaseGroup_evolves (.refl _ s) g.val (covers_self _)).rdw (gcfg_has g) (by decide)

/-! ### GCFG (R308) -/

/-- What a GCFG write that its rules allow does: the word is stored, and FLUSH written 1 or EN written from 1 to 0 releases the group. -/
theorem State.gcfgWrite_admitted (s : State) (m : Master) (g : IcGroup) (v : Word) (hm : m = .banksman ∨ s.lockstep m = true)
    (ht : IC_GCFG_GSLICE.of v ≤ 16) (h16 : slice16Refuses m (IC_GCFG_GSLICE.of (s.rdw .IC_GCFG g.val)) (IC_GCFG_GSLICE.of v) = false) :
    s.gcfgWrite m g.val v =
      if IC_GCFG_FLUSH.of v == 1 || (IC_GCFG_EN.of (s.rdw .IC_GCFG g.val) == 1 && IC_GCFG_EN.of v == 0) then
        (s.regWrite .IC_GCFG v g.val).releaseGroup g.val
      else s.regWrite .IC_GCFG v g.val := by
  unfold State.gcfgWrite
  dsimp only
  rw [mayConfigure hm, h16, if_neg (by simpa using ht)]

/-- The GCFG commands are the group's write. -/
theorem State.regStore_gcfg (s : State) (m : Master) (g : IcGroup) (v : Word) (hopen : s.busOpen m = true) :
    ∃ d, s.regStore m .IC_GCFG v g.val = State.gcfgWrite { s with drift := d } m g.val v := by
  obtain ⟨d, hd⟩ := State.regStore_eq s m .IC_GCFG v g.val 0 hopen
  rw [State.settle_of_no_w1c _ _ _ _ _ rfl] at hd
  exact ⟨d, hd⟩

/-- R308: a GCFG write that its rules allow stores the word. -/
theorem gcfg_write_stores (s : State) (m : Master) (g : IcGroup) (v : Word) (hopen : s.busOpen m = true)
    (hm : m = .banksman ∨ s.lockstep m = true) (ht : IC_GCFG_GSLICE.of v ≤ 16)
    (h16 : slice16Refuses m (IC_GCFG_GSLICE.of (s.rdw .IC_GCFG g.val)) (IC_GCFG_GSLICE.of v) = false) :
    ∃ t, exec (.gcfgWrite m g v) s = .next t ∧ t.rdw .IC_GCFG g.val = RegId.IC_GCFG.written (s.rdw .IC_GCFG g.val) v := by
  obtain ⟨d, hd⟩ := State.regStore_gcfg s m g v hopen
  rw [State.gcfgWrite_admitted { s with drift := d } m g v hm ht h16] at hd
  have hstored : ∀ u : State, (u.regWrite .IC_GCFG v g.val).rdw .IC_GCFG g.val = RegId.IC_GCFG.written (u.rdw .IC_GCFG g.val) v :=
    fun u => State.rdw_wrw _ _ _ _ _ (gcfg_has g)
  refine ⟨_, congrArg Host.Outcome.next hd, ?_⟩
  split
  · rw [State.releaseGroup_gcfg, hstored]
    rfl
  · exact hstored _

/-- R308: FLUSH releases the group. -/
theorem flush_releases (s : State) (m : Master) (g : IcGroup) (v : Word) (hopen : s.busOpen m = true)
    (hm : m = .banksman ∨ s.lockstep m = true) (ht : IC_GCFG_GSLICE.of v ≤ 16)
    (h16 : slice16Refuses m (IC_GCFG_GSLICE.of (s.rdw .IC_GCFG g.val)) (IC_GCFG_GSLICE.of v) = false) :
    ∃ t, exec (.flush m g v) s = .next t ∧ t.get IC_GSTAT_HELD g.val = 0 ∧ t.intc.held.all (fun p => p.group != g.val) = true ∧
      t.get IC_GSTAT_RELEASES g.val = (s.get IC_GSTAT_RELEASES g.val + 1) % 2 ^ IC_GSTAT_RELEASES.width := by
  obtain ⟨d, hd⟩ := State.regStore_gcfg s m g (IC_GCFG_FLUSH.into v 1) hopen
  have hslice : IC_GCFG_GSLICE.of (IC_GCFG_FLUSH.into v 1) = IC_GCFG_GSLICE.of v := bits_setBits_ne _ _ _ _ _ _ (by decide)
  have hflush : IC_GCFG_FLUSH.of (IC_GCFG_FLUSH.into v 1) = 1 := bits_setBits _ _ _ _ (by decide)
  rw [State.gcfgWrite_admitted { s with drift := d } m g _ hm (hslice ▸ ht) (hslice ▸ h16), hflush, if_pos (by simp)] at hd
  obtain ⟨hheld, hnone, hcount, -⟩ := State.releaseGroup_released (State.regWrite { s with drift := d } .IC_GCFG (IC_GCFG_FLUSH.into v 1) g.val) g
  refine ⟨_, congrArg Host.Outcome.next hd, hheld, hnone, hcount.trans ?_⟩
  rw [(State.regWrite_evolves (.refl _ _) .IC_GCFG _ g.val 0 (covers_self _)).get (f := IC_GSTAT_RELEASES) (gstat_has g) (by decide)]
  rfl

/-! ### Timed events -/

/-- Time after it has moved up to a tick. -/
theorem State.advanceTo_now (s : State) (d : Nat) : (s.advanceTo d).now = max s.now d := by
  have hticks : ∀ n, (s.advance n).now = s.now + n := by
    intro n
    have hdoms : (s.each [0, 1, 2, 3] (fun s d => s.advanceDom n d)).now = s.now :=
      State.each_keeps State.now _ _ (fun t d => (State.advanceDom_evolves (.refl _ t) n d (covers_self _)).kept .now (by decide)) s
    have hcores := (State.chargeCores_evolves (.refl _ (s.each [0, 1, 2, 3] (fun s d => s.advanceDom n d))) n (covers_self _)).kept .now (by decide)
    exact congrArg (· + n) (hcores.trans hdoms)
  unfold State.advanceTo
  split
  · rw [hticks]
    omega
  · omega

/-- R308: the timer's end releases the group. -/
theorem timeout_releases (s : State) (g : IcGroup) (e : Nat) (h : s.deadline (.icGroup g.val) = some e) :
    ∃ t, exec (.coalesceTimeout g) s = .next t ∧ t.get IC_GSTAT_HELD g.val = 0 ∧ t.intc.held.all (fun p => p.group != g.val) = true ∧
      t.get IC_GSTAT_RELEASES g.val = (s.get IC_GSTAT_RELEASES g.val + 1) % 2 ^ IC_GSTAT_RELEASES.width ∧ t.now = max s.now e ∧
      t.armed (.icGroup g.val) = false := by
  have hexec : exec (.coalesceTimeout g) s = .next (((s.advanceTo e).disarm (.icGroup g.val)).releaseGroup g.val) := by
    show execCoalesceTimeout g s = _
    rw [execCoalesceTimeout, State.onTimer, h]
  obtain ⟨hheld, hnone, hcount, harmed⟩ := State.releaseGroup_released ((s.advanceTo e).disarm (.icGroup g.val)) g
  refine ⟨_, hexec, hheld, hnone, ?_, ?_, harmed⟩
  · rw [hcount, State.disarm_get, (State.advanceTo_evolves (.refl _ s) e (covers_self _)).get (f := IC_GSTAT_RELEASES) (gstat_has g)
      (by decide)]
  · have hnow := (State.releaseGroup_evolves (.refl _ ((s.advanceTo e).disarm (.icGroup g.val))) g.val (covers_self _)).kept .now (by decide)
    exact hnow.trans (State.advanceTo_now s e)

/-- Settles O18, clause by clause. -/
theorem interruptsAreTakenAndGrouped : Obligations.InterruptsAreTakenAndGrouped :=
  ⟨claim_takes_best, claim_finds_none, complete_ends_service, complete_denied, pend_write_clears, srccfg_write_stores, gcfg_write_stores,
    flush_releases, timeout_releases⟩

end Sys2Proof.Machine
end
section
/-! SUPPORT. A pending interrupt stays pending while the machine goes on: nothing but a claim or a write to PEND ends it (R301, R304, R306). The laws
below follow the operations that can raise sources of their own, up to the record of a producer. -/

namespace Sys2Proof.Machine

/-- What is pending in a slice in one state is pending there in another. -/
def PendingStays (s t : State) : Prop :=
  ∀ n src, n < 17 → src < 1024 → s.isPending n src = true → t.isPending n src = true

theorem PendingStays.refl (s : State) : PendingStays s s := fun _ _ _ _ h => h

theorem PendingStays.trans {s t u : State} (h : PendingStays s t) (h' : PendingStays t u) : PendingStays s u :=
  fun n src hn hs hp => h' n src hn hs (h n src hn hs hp)

/-- A change that does not name PEND keeps what is pending. -/
theorem Evolves.pendingStays {A : List Part} {s t : State} (h : Evolves A s t) (hp : Part.reg .IC_PEND ∉ A) : PendingStays s t := by
  intro n src hn hs hpend
  unfold State.isPending at hpend ⊢
  rw [h.rdw (pend_has hn hs) hp]
  exact hpend

/-- A repetition of changes that each keep what is pending. -/
theorem State.each_pendingStays {α : Type} (l : List α) (f : State → α → State) (hf : ∀ t x, PendingStays t (f t x)) (s : State) :
    PendingStays s (s.each l f) := by
  unfold State.each
  induction l generalizing s with
  | nil => exact .refl s
  | cons x l ih => exact (hf s x).trans (ih (f s x))

/-- A choice between changes that each keep what is pending. -/
theorem ite_pendingStays {s a b : State} {c : Prop} [Decidable c] (ha : PendingStays s a) (hb : PendingStays s b) :
    PendingStays s (if c then a else b) := by
  split <;> assumption

/-! ### Raising a source -/

/-- A pending bit that is set reads as set. -/
theorem State.isPending_setPending_true (s : State) {n src : Nat} (hn : n < 17) (hs : src < 1024) :
    (s.setPending n src true).isPending n src = true := by
  unfold State.setPending State.isPending
  rw [State.note_rdw, State.rdw_wrw _ _ _ _ _ (pend_has hn hs), bit, setBits_bit]
  have : src % 32 < 32 := Nat.mod_lt _ (by omega)
  simp [this]

/-- Setting a pending bit keeps every other. -/
theorem State.setPending_pendingStays (s : State) (n src : Nat) : PendingStays s (s.setPending n src true) := by
  intro n' src' hn hs hpend
  by_cases hsame : n' = n ∧ src' = src
  · obtain ⟨rfl, rfl⟩ := hsame
    exact State.isPending_setPending_true s hn hs
  · unfold State.setPending State.isPending at *
    rw [State.note_rdw]
    by_cases hword : n' = n ∧ src' / 32 = src / 32
    · obtain ⟨rfl, hj⟩ := hword
      have hbit : ¬ (src % 32 ≤ src' % 32 ∧ src' % 32 < src % 32 + 1 ∧ src' % 32 < 32) := by omega
      rw [← hj, State.rdw_wrw _ _ _ _ _ (pend_has hn hs), bit, setBits_bit, if_neg hbit]
      exact hpend
    · rw [State.rdw_wrw_ne _ _ _ _ _ _ _ _ (pend_has hn hs) (by omega)]
      exact hpend

/-- A raise sets the pending bit, after a merge may have been counted, and touches PEND no more. -/
theorem State.raise_after (s : State) (src : Nat) : ∃ u, Evolves [.fresh, .reg .IC_SSTAT] s u ∧
    Evolves [.fresh, .timers, .drift, .intc, .reg .DR_PLOG, .reg .IC_GSTAT] (u.setPending (s.get IC_SRCCFG_TARGET src) src true) (s.raise src) := by
  let n := s.get IC_SRCCFG_TARGET src
  refine ⟨if s.isPending n src then s.bumpSat IC_SSTAT_MERGECNT n else s,
    ite_evolves (State.bumpSat_evolves (.refl _ s) _ _ _ _ (covers_self _)) (.refl _ s), ?_⟩
  unfold State.raise
  dsimp only
  generalize State.setPending _ _ src true = s1
  split
  · have hheld : Evolves [.fresh, .timers, .drift, .intc, .reg .DR_PLOG, .reg .IC_GSTAT] s1
        (if s1.intc.held.contains ⟨n, src, s.get IC_SRCCFG_GROUP src⟩ then s1
          else { s1 with intc := { s1.intc with held := ⟨n, src, s.get IC_SRCCFG_GROUP src⟩ :: s1.intc.held } }) :=
      ite_evolves (.refl _ s1) (intc_evolves (.refl _ s1) _ (by decide +kernel))
    generalize (if s1.intc.held.contains ⟨n, src, s.get IC_SRCCFG_GROUP src⟩ then s1
      else { s1 with intc := { s1.intc with held := ⟨n, src, s.get IC_SRCCFG_GROUP src⟩ :: s1.intc.held } }) = s2 at hheld ⊢
    have htimer := fun d => ite_evolves (c := s1.get IC_GSTAT_HELD (s.get IC_SRCCFG_GROUP src) = 0)
      (State.arm_evolves hheld (.icGroup (s.get IC_SRCCFG_GROUP src)) d (by decide +kernel)) hheld
    exact ite_evolves (State.releaseGroup_evolves (htimer _) _ (by decide +kernel)) (State.put_evolves (htimer _) _ _ _ _ (by decide +kernel))
  · exact State.wakeSlice_evolves (.refl _ s1) _ (by decide +kernel)

/-- A raise keeps what is pending. -/
theorem State.raise_pendingStays (s : State) (src : Nat) : PendingStays s (s.raise src) := by
  obtain ⟨u, hu, hs⟩ := State.raise_after s src
  exact ((hu.pendingStays (by decide)).trans (State.setPending_pendingStays u _ src)).trans (hs.pendingStays (by decide))

/-- A source that goes to a slice is pending there once it is raised. -/
theorem State.raise_raises (s : State) {src : Nat} (hs : src < 1024) (h : s.routed src = true) :
    (s.raise src).isPending (s.get IC_SRCCFG_TARGET src) src = true := by
  have hn : s.get IC_SRCCFG_TARGET src ≤ 16 := by simpa [State.routed] using h
  obtain ⟨u, -, hev⟩ := State.raise_after s src
  exact hev.pendingStays (by decide) _ _ (by omega) hs (State.isPending_setPending_true u (by omega) hs)

/-! ### Budgets of the Shift plan -/

/-- An OVERRUN bit. -/
theorem State.setOverrun_pendingStays (s : State) (c : Nat) : PendingStays s (s.setOverrun c) := by
  have hreg : (overrunFld c).reg ≠ .IC_PEND := by
    unfold overrunFld
    split <;> decide
  have hput : PendingStays s (s.orPut (overrunFld c) (2 ^ (c % 32))) :=
    (State.orPut_evolves (.refl _ s) _ _ _ _ (covers_self _)).pendingStays (by simpa using hreg.symm)
  exact ite_pendingStays hput (hput.trans (State.raise_pendingStays _ _))

/-- An exhausted budget. -/
theorem State.overrunOne_pendingStays (s : State) (c : Nat) (b : Budget) : PendingStays s (s.overrunOne c b) := by
  have hshown : Evolves [.fresh, .drift, .reg .SP_CREWSTAT] (s.setOverrun c)
      (((s.setOverrun c).bumpSat SP_CREWSTAT_OVCOUNT c).orPut SP_CREWSTAT_EXHAUSTED (2 ^ b.bitNo) c) :=
    State.orPut_evolves (State.bumpSat_evolves (.refl _ _) _ _ _ _ (by decide +kernel)) _ _ _ _ (by decide +kernel)
  refine (State.setOverrun_pendingStays s c).trans (Evolves.pendingStays (A := [.fresh, .drift, .reg .SP_CREWSTAT]) ?_ (by decide))
  exact ite_evolves hshown (State.leaveCrew_evolves hshown _ _ (by decide +kernel))

/-- A charge of a crew, with the budgets that it exhausts. -/
theorem State.charge_pendingStays (s : State) (c : Nat) (b : Budget) (n : Nat) : PendingStays s (s.charge c b n) := by
  have hreg : b.remain.reg ≠ .IC_PEND := by cases b <;> decide
  have hput : ∀ v, PendingStays s (s.put b.remain v c) := fun v =>
    (State.put_evolves (.refl _ s) b.remain v c 0 (covers_self _)).pendingStays (by simpa using hreg.symm)
  have hspent : ∀ (u : State) (p k : Nat), PendingStays u (u.stopSpent p k) := fun u p k =>
    ite_pendingStays (State.overrunOne_pendingStays u _ _) (.refl u)
  have hover : ∀ u : State, PendingStays u (u.overrun c b) := fun u =>
    (State.overrunOne_pendingStays u c b).trans (State.each_pendingStays _ _ (fun t k => hspent t _ k) _)
  exact ite_pendingStays ((hput _).trans (hover _)) (hput _)

/-! ### Records of the Seam recorder -/

/-- The end of a capture. -/
theorem State.endCapture_pendingStays (s : State) (n : Nat) : PendingStays s (s.endCapture n) := by
  refine PendingStays.trans (Evolves.pendingStays (A := [.fresh, .seam, .reg .SE_CAPEND, .reg .SE_CAPSTAT]) ?_ (by decide))
    (State.raise_pendingStays _ (640 + n))
  exact State.put_evolves (State.wrw_evolves (State.updCapture_evolves (.refl _ s) _ _ (by decide +kernel)) _ _ _ _ (by decide +kernel)) _ _ _ _
    (by decide +kernel)

/-- The ends of captures that are due. -/
theorem State.capturesDue_pendingStays (s : State) : PendingStays s s.capturesDue :=
  State.each_pendingStays _ _ (fun t n => ite_pendingStays (State.endCapture_pendingStays t n) (.refl t)) s

/-- The hold limit. -/
theorem State.holdLimit_pendingStays (s : State) : PendingStays s s.holdLimit := by
  have hshort : ∀ (t : State) (n : Nat), PendingStays t ((t.endCapture n).put SE_CAPSTAT_END_SHORT 1 n) := fun t n =>
    (State.endCapture_pendingStays t n).trans ((State.put_evolves (.refl _ _) SE_CAPSTAT_END_SHORT 1 n 0 (covers_self _)).pendingStays (by decide))
  have hput := (State.put_evolves (.refl _ s) SE_SSTAT_HOLD_LIMIT 1 0 0 (covers_self _)).pendingStays (by decide)
  unfold State.holdLimit
  split
  · exact hput.trans (State.each_pendingStays _ _ (fun t n => ite_pendingStays (hshort t n) (.refl t)) _)
  · exact .refl s

/-- A burst that is closed. -/
theorem State.closeBurst_pendingStays (s : State) (t : Nat) : PendingStays s (s.closeBurst t) := by
  have hdue := State.capturesDue_pendingStays s
  have hpad : PendingStays s (if (s.streamU t).burst.length < 256 then s.capturesDue.free else (0, s.capturesDue)).2 := by
    split
    · exact hdue.trans ((State.free_evolves (.refl _ _) (covers_self _)).pendingStays (by decide))
    · simpa only using hdue
  unfold State.closeBurst
  dsimp only
  split
  · generalize (if (s.streamU t).burst.length < 256 then s.capturesDue.free else (0, s.capturesDue)) = r at hpad ⊢
    obtain ⟨fv, s1⟩ := r
    refine (hpad.trans (Evolves.pendingStays (A := [.fresh, .mem, .timers, .seam, .reg .SE_STRSTAT]) ?_ (by decide))).trans
      (State.holdLimit_pendingStays _)
    with_reducible
      refine State.disarm_evolves (seam_evolves (seam_evolves ?_ _ (by decide +kernel)) _ (by decide +kernel)) _ (by decide +kernel)
      refine State.bump_evolves (State.put_evolves (State.updStream_evolves ?_ _ _ (by decide +kernel)) _ _ _ _ (by decide +kernel)) _ _ _ _
        (by decide +kernel)
      exact State.setBytes_evolves (.refl _ s1) _ _ (by decide +kernel)
  · exact .refl s

/-- A burst that is opened. -/
theorem State.openBurst_pendingStays (s : State) (t : Nat) (b : List Byte) : PendingStays s (s.openBurst t b) := by
  refine PendingStays.trans (Evolves.pendingStays (A := [.fresh, .timers, .seam, .reg .SE_STRSTAT]) ?_ (by decide)) (State.charge_pendingStays _ _ _ _)
  exact State.arm_evolves (State.updStream_evolves (State.put_evolves (State.put_evolves (.refl _ s) _ _ _ _ (by decide +kernel)) _ _ _ _
    (by decide +kernel)) _ _ (by decide +kernel)) _ _ (by decide +kernel)

/-- A record that is dropped. -/
theorem State.dropRecord_pendingStays (s : State) (t : Nat) (r : List Word) : PendingStays s (s.dropRecord t r) := by
  have hdropped : ∀ f, PendingStays s (((s.updStream t f).bumpSat SE_STRDROP_DROPS t).put SE_STRSTAT_DROPPING 1 t) := fun f =>
    Evolves.pendingStays (A := [.fresh, .seam, .reg .SE_STRDROP, .reg .SE_STRSTAT])
      (State.put_evolves (State.bumpSat_evolves (State.updStream_evolves (.refl _ s) _ f (by decide +kernel)) _ _ _ _ (by decide +kernel)) _ _ _ _
        (by decide +kernel)) (by decide)
  have hseen : ∀ u : State, PendingStays u ((u.put SE_SSTAT_DROPSEEN 1).raise 659) := fun u =>
    ((State.put_evolves (.refl _ u) SE_SSTAT_DROPSEEN 1 0 0 (covers_self _)).pendingStays (by decide)).trans (State.raise_pendingStays _ _)
  exact ite_pendingStays (hdropped _) ((hdropped _).trans (hseen _))

/-- A change of a stream's unit. -/
theorem State.updStream_pendingStays (s : State) (t : Nat) (f : StreamU → StreamU) : PendingStays s (s.updStream t f) :=
  (State.updStream_evolves (.refl _ s) t f (covers_self _)).pendingStays (by decide)

/-- Bytes that a stream's burst takes. -/
theorem State.storeRecord_pendingStays (s : State) (t : Nat) (b : List Byte) {u : State} (h : s.storeRecord t b = some u) : PendingStays s u := by
  unfold State.storeRecord at h
  dsimp only at h
  split at h
  · obtain rfl := Option.some.inj h
    have hadded := State.updStream_pendingStays s t (fun u => { u with burst := u.burst ++ b })
    exact ite_pendingStays (hadded.trans (State.closeBurst_pendingStays _ t)) hadded
  · split at h
    · obtain rfl := Option.some.inj h
      exact (State.closeBurst_pendingStays s t).trans (State.openBurst_pendingStays _ t b)
    · simp at h

/-- A record that is stored, or dropped where it cannot be. -/
theorem State.storeOrDrop_pendingStays (s : State) (t : Nat) (b : List Byte) (r : List Word) :
    PendingStays s ((s.storeRecord t b).getD (s.dropRecord t r)) := by
  cases h : s.storeRecord t b with
  | none => exact State.dropRecord_pendingStays s t r
  | some u => exact State.storeRecord_pendingStays s t b h

/-- A record that is admitted. -/
theorem State.admitRecord_pendingStays (s : State) (t : Nat) (mk : Nat → List Word) : PendingStays s (s.admitRecord t mk) := by
  have hended : ∀ (u : State) f, PendingStays u ((u.updStream t f).put SE_STRSTAT_DROPPING 0 t) := fun u f =>
    (State.updStream_pendingStays u t f).trans
      ((State.put_evolves (.refl _ _) SE_STRSTAT_DROPPING 0 t 0 (covers_self _)).pendingStays (by decide))
  have hagain : ∀ (u : State) f b r, PendingStays u (((u.updStream t f).storeRecord t b).getD ((u.updStream t f).dropRecord t r)) := fun u f b r =>
    (State.updStream_pendingStays u t f).trans (State.storeOrDrop_pendingStays _ t b r)
  unfold State.admitRecord
  refine ite_pendingStays ?_ (ite_pendingStays ?_ (State.storeOrDrop_pendingStays s t _ _))
  · dsimp only
    split
    · next u hu => exact (State.storeRecord_pendingStays s t _ hu).trans (hended u _)
    · exact State.dropRecord_pendingStays s t _
  · split
    · exact State.dropRecord_pendingStays s t _
    · next u hu => exact (State.storeRecord_pendingStays s t _ hu).trans (hagain u _ _ _)

/-- A producer's record keeps what is pending. -/
theorem State.record_pendingStays (s : State) (t sel ty src : Nat) (body : List Word) : PendingStays s (s.record t sel ty src body) :=
  ite_pendingStays (State.admitRecord_pendingStays s t _) (.refl s)

end Sys2Proof.Machine
end
section
/-! SUPPORT. Canary windows read their pins (R141, R143): what a run of reads at one voltage leaves of a window's comparators, which crossings assert
and which states end, and what an assertion stores (R146). -/

namespace Sys2Proof.Machine

/-! ### Windows -/

/-- Every window has its registers. -/
theorem wstat_has (w : Win) : RegId.CN_WSTAT.has w.val 0 = true := RegId.has_of_lt w.isLt rfl Nat.one_pos

theorem wstamp_has (w : Win) : RegId.CN_WSTAMP.has w.val 0 = true := RegId.has_of_lt w.isLt rfl Nat.one_pos

theorem wthr_has (w : Win) : RegId.CN_WTHR.has w.val 0 = true := RegId.has_of_lt w.isLt rfl Nat.one_pos

theorem wctl_has (w : Win) : RegId.CN_WCTL.has w.val 0 = true := RegId.has_of_lt w.isLt rfl Nat.one_pos

/-- A window's states and latches are flags of WSTAT. -/
theorem winState_has (w : Win) (hi : Bool) : (winState hi).reg.has w.val 0 = true := by
  rw [winState_reg]
  exact wstat_has w

theorem winLatch_has (w : Win) (hi : Bool) : (winLatch hi).reg.has w.val 0 = true := by
  rw [winLatch_reg]
  exact wstat_has w

/-- A change of a window's unit changes the power stage's state alone. -/
theorem State.updWin_eq (s : State) (k : Nat) (f : WinU → WinU) : ∃ p, s.updWin k f = { s with power := p } := by
  unfold State.updWin
  split
  · exact ⟨_, rfl⟩
  · exact ⟨s.power, rfl⟩

/-- A window's unit after its change. -/
theorem State.win_updWin (s : State) (w : Win) (f : WinU → WinU) : (s.updWin w.val f).win w.val = f (s.win w.val) := by
  simp [State.updWin, State.win, upd, w.isLt]

/-- Reads of a window change the power stage's state alone. -/
theorem State.winReads_eq (s : State) (k : Nat) (pins : PinReads) : ∃ p, s.winReads k pins = { s with power := p } := by
  unfold State.winReads
  split
  · exact State.updWin_eq s k _
  · exact ⟨s.power, rfl⟩

/-- The reads of a window are at least a tick apart. -/
theorem State.winSpacing_pos (s : State) (k : Nat) : 0 < s.winSpacing k := by
  have htick : ∀ n, 0 < tickUs n * us := fun n => Nat.mul_pos (by unfold tickUs; omega) (by decide)
  unfold State.winSpacing
  split
  · exact htick _
  · split
    · exact htick _
    · split
      · exact htick _
      · exact Nat.one_pos

/-- A threshold asks for at least one read. -/
theorem State.winNeed_pos (s : State) (k : Nat) : 0 < s.winNeed k := Nat.succ_pos _

/-! ### Reads at one voltage (R141, R143) -/

/-- The code of a threshold. -/
def winCode (hi : Bool) : Fld := if hi then CN_WTHR_HI else CN_WTHR_LO

/-- A pin beyond the voltage of a threshold's code (R141). -/
def pinBeyond (hi : Bool) (nv k : Nat) : Bool := if hi then pinAbove nv k else pinBelow nv k

/-- A pin back past a threshold's code by a code, the hysteresis (R141). -/
def pinBack (hi : Bool) (nv k : Nat) : Bool := if hi then pinBelow nv (k - 1) else pinAbove nv (k + 1)

/-- At a pin beyond the code a comparator is on, and all the reads count. -/
theorem CmpU.read_beyond (u : CmpU) {hi : Bool} {k nv : Nat} (n : Nat) (h : pinBeyond hi nv k = true) : u.read hi k nv n = ⟨true, u.run + n⟩ := by
  cases hi <;> simp_all [CmpU.read, pinBeyond]

/-- A pin a code or more below a code's voltage is not above it. -/
theorem pinAbove_of_pinBelow_pred {nv : Nat} {k : Int} (h : pinBelow nv (k - 1) = true) : pinAbove nv k = false := by
  unfold pinBelow at h
  unfold pinAbove
  rw [decide_eq_true_eq] at h
  rw [decide_eq_false_iff_not]
  omega

/-- A pin a code or more above a code's voltage is not below it. -/
theorem pinBelow_of_pinAbove_succ {nv : Nat} {k : Int} (h : pinAbove nv (k + 1) = true) : pinBelow nv k = false := by
  unfold pinAbove at h
  unfold pinBelow
  rw [decide_eq_true_eq] at h
  rw [decide_eq_false_iff_not]
  omega

/-- At a pin that is back past the code a comparator is off. -/
theorem CmpU.read_back (u : CmpU) {hi : Bool} {k nv : Nat} (n : Nat) (h : pinBack hi nv k = true) : (u.read hi k nv n).raw = false := by
  cases hi
  case false =>
    rw [pinBack, if_neg Bool.false_ne_true] at h
    simp [CmpU.read, h, pinBelow_of_pinAbove_succ h]
  case true =>
    rw [pinBack, if_pos rfl] at h
    simp [CmpU.read, h, pinAbove_of_pinBelow_pred h]

/-- The codes and voltages of the thresholds, spelt out (R141). -/
theorem pinBeyond_upper {nv k : Nat} : pinBeyond true nv k = true ↔ (2 * (k : Int) + 1) * 2500000000 < 2048 * nv := by
  rw [pinBeyond, if_pos rfl, pinAbove, decide_eq_true_eq]

theorem pinBeyond_lower {nv k : Nat} : pinBeyond false nv k = true ↔ 2048 * (nv : Int) < (2 * (k : Int) + 1) * 2500000000 := by
  rw [pinBeyond, if_neg Bool.false_ne_true, pinBelow, decide_eq_true_eq]

theorem pinBack_upper {nv k : Nat} : pinBack true nv k = true ↔ 2048 * (nv : Int) < (2 * (k : Int) - 1) * 2500000000 := by
  rw [pinBack, if_pos rfl, pinBelow, decide_eq_true_eq]
  omega

theorem pinBack_lower {nv k : Nat} : pinBack false nv k = true ↔ (2 * (k : Int) + 3) * 2500000000 < 2048 * (nv : Int) := by
  rw [pinBack, if_neg Bool.false_ne_true, pinAbove, decide_eq_true_eq]
  omega

/-- A comparator after the reads of its window at one voltage: off where its threshold is not enabled. -/
theorem State.winRead_cmp (s : State) (k : Nat) (u : WinU) (nv n t : Nat) (hi : Bool) :
    (s.winRead k u nv n t).cmp hi = if s.on (winEnable hi) k then (u.cmp hi).read hi (s.get (winCode hi) k) nv n else ⟨false, 0⟩ := by
  cases hi <;> rfl

/-- The time of a window's last read is no part of its comparators. -/
theorem WinU.cmp_readAt (u : WinU) (t : Nat) (hi : Bool) : ({ u with readAt := t } : WinU).cmp hi = u.cmp hi := rfl

/-- A window that is read `n` times at one voltage, the reads having had their time. -/
theorem State.winReads_cmp (s : State) (w : Win) (nv n : Nat) (hi : Bool) (hruns : s.winRuns w.val = true) (hn : 0 < n)
    (htime : n * s.winSpacing w.val ≤ s.now - (s.win w.val).readAt) :
    ((s.winReads w.val [(nv, n)]).win w.val).cmp hi =
      if s.on (winEnable hi) w.val then ((s.win w.val).cmp hi).read hi (s.get (winCode hi) w.val) nv n else ⟨false, 0⟩ := by
  have hreads : n ≤ (s.now - (s.win w.val).readAt) / s.winSpacing w.val := (Nat.le_div_iff_mul_le (s.winSpacing_pos _)).2 htime
  have hnewest : newestReads ((s.now - (s.win w.val).readAt) / s.winSpacing w.val) [(nv, n)] = [(nv, n)] := by
    generalize (s.now - (s.win w.val).readAt) / s.winSpacing w.val = d at hreads ⊢
    simp [newestReads, show ¬ d = 0 by omega, Nat.min_eq_left hreads]
  unfold State.winReads
  dsimp only
  rw [if_pos hruns, State.win_updWin, hnewest, State.winFold, if_neg (by omega), State.winFold, WinU.cmp_readAt,
    State.winRead_cmp]

/-! ### The assertion of a filtered state (R146) -/

/-- State and latch of a threshold set. -/
def State.winSet (s : State) (k : Nat) (hi : Bool) : State := (s.put (winState hi) 1 k).put (winLatch hi) 1 k

/-- The flags that are set. -/
theorem State.winSet_on (s : State) (w : Win) (hi : Bool) :
    (s.winSet w.val hi).on (winState hi) w.val = true ∧ (s.winSet w.val hi).on (winLatch hi) w.val = true := by
  have hs := winState_has w hi
  have hl := winLatch_has w hi
  constructor
  · unfold State.winSet
    rw [State.on_put_apart _ _ _ _ _ _ hs (by cases hi <;> decide), State.on_put _ _ _ _ _ hs (by cases hi <;> decide)]
    cases hi <;> rfl
  · unfold State.winSet
    rw [State.on_put _ _ _ _ _ hl (by cases hi <;> decide)]
    cases hi <;> rfl

/-- Every field of the window apart from them is as it was. -/
theorem State.winSet_get (s : State) (w : Win) (hi : Bool) (g : Fld) (hg : g.reg.has w.val 0 = true)
    (hs : (winState hi).Apart g) (hl : (winLatch hi).Apart g) : (s.winSet w.val hi).get g w.val = s.get g w.val := by
  unfold State.winSet
  rw [State.get_put_of_apart _ _ _ _ hg hl, State.get_put_of_apart _ _ _ _ hg hs]

/-- What an assertion stores of its window: state, latch, COUNT, and STAMP where both latches were clear. -/
def State.winLatched (s : State) (k : Nat) (hi : Bool) : State :=
  (if !s.on CN_WSTAT_LATCH_LO k && !s.on CN_WSTAT_LATCH_HI k then (s.winSet k hi).put CN_WSTAMP_STAMP (s.winSet k hi).stamp k
    else s.winSet k hi).bumpSat CN_WSTAT_COUNT k

/-- A field of WSTAT below COUNT has what the two flags leave. -/
theorem State.winLatched_get (s : State) (w : Win) (hi : Bool) (g : Fld) (hg : g.reg = .CN_WSTAT) (hlo : g.lo + g.width ≤ 16) :
    (s.winLatched w.val hi).get g w.val = (s.winSet w.val hi).get g w.val := by
  have hhas : g.reg.has w.val 0 = true := hg ▸ wstat_has w
  unfold State.winLatched State.bumpSat
  rw [State.get_put_apart _ _ _ _ _ _ hhas (.inl hlo)]
  split
  · exact State.get_put_ne _ _ _ _ _ _ _ _ hhas (.inl (by rw [hg]; decide))
  · rfl

/-- COUNT counts, saturating. -/
theorem State.winLatched_count (s : State) (w : Win) (hi : Bool) :
    (s.winLatched w.val hi).get CN_WSTAT_COUNT w.val = min (s.get CN_WSTAT_COUNT w.val + 1) (2 ^ CN_WSTAT_COUNT.width - 1) := by
  have hcount : (s.winSet w.val hi).get CN_WSTAT_COUNT w.val = s.get CN_WSTAT_COUNT w.val :=
    State.winSet_get s w hi _ (wstat_has w) (by cases hi <;> decide) (by cases hi <;> decide)
  have hstamped : ∀ v, ((s.winSet w.val hi).put CN_WSTAMP_STAMP v w.val).get CN_WSTAT_COUNT w.val = (s.winSet w.val hi).get CN_WSTAT_COUNT w.val :=
    fun v => State.get_put_ne _ _ _ _ _ _ _ _ (wstat_has w) (.inl (by decide))
  unfold State.winLatched State.bumpSat
  rw [State.get_put _ CN_WSTAT_COUNT _ _ _ (wstat_has w) (by decide), apply_ite (fun t : State => t.get CN_WSTAT_COUNT w.val), hstamped, ite_self,
    hcount]
  exact Nat.mod_eq_of_lt (by have : 0 < 2 ^ CN_WSTAT_COUNT.width := Nat.two_pow_pos _; omega)

/-- STAMP takes the time where both latches were clear, and stays otherwise. -/
theorem State.winLatched_stamp (s : State) (w : Win) (hi : Bool) :
    (s.winLatched w.val hi).get CN_WSTAMP_STAMP w.val =
      if !s.on CN_WSTAT_LATCH_LO w.val && !s.on CN_WSTAT_LATCH_HI w.val then s.stamp else s.get CN_WSTAMP_STAMP w.val := by
  unfold State.winLatched State.bumpSat
  rw [State.get_put_ne _ _ CN_WSTAMP_STAMP _ _ _ _ _ (wstamp_has w) (.inl (by decide)), apply_ite (fun t : State => t.get CN_WSTAMP_STAMP w.val),
    State.get_put _ CN_WSTAMP_STAMP _ _ _ (wstamp_has w) (by decide),
    State.winSet_get s w hi _ (wstamp_has w) (by cases hi <;> decide) (by cases hi <;> decide)]
  exact congrArg (fun n => ite _ n _) (Nat.mod_mod _ _)

/-- What follows in an assertion: the source, the record, the sequencers and the gates. -/
theorem State.winCross_eq (s : State) (k : Nat) (hi : Bool) :
    s.winCross k hi = (((((s.winLatched k hi).raise (320 + k)).record 50 0 5 (k + if hi then 128 else 0)
      [((s.winLatched k hi).raise (320 + k)).rdw .CN_WSTAMP k]).seqCanary k).regateWindow k) := rfl

/-- None of that touches the registers of the windows. -/
theorem State.winCross_after (s : State) (k : Nat) (hi : Bool) :
    Evolves ([Part.reg .SN_SEQSTAT] ++ seamParts ++ gateParts) (s.winLatched k hi) (s.winCross k hi) := by
  rw [State.winCross_eq]
  with_reducible
    refine State.regateWindow_evolves (State.seqCanary_evolves ?_ _ (by decide +kernel)) _ (by decide +kernel)
    exact State.record_evolves (State.raise_evolves (.refl _ _) _ (by decide +kernel)) _ _ _ _ _ (by decide +kernel)

/-- A source of a window that goes to a slice is pending after the assertion. -/
theorem State.winCross_raised (s : State) (w : Win) (hi : Bool) (h : s.routed (320 + w.val) = true) :
    (s.winCross w.val hi).raised (320 + w.val) = true := by
  have hw := w.isLt
  have hcfg : RegId.IC_SRCCFG.has (320 + w.val) 0 = true := RegId.has_of_lt (by show 320 + w.val < 1024; omega) rfl Nat.one_pos
  have htarget : (s.winCross w.val hi).get IC_SRCCFG_TARGET (320 + w.val) = s.get IC_SRCCFG_TARGET (320 + w.val) :=
    (State.winCross_evolves (.refl _ s) w.val hi (covers_self _)).get (f := IC_SRCCFG_TARGET) hcfg (by decide)
  have hlatched : (s.winLatched w.val hi).get IC_SRCCFG_TARGET (320 + w.val) = s.get IC_SRCCFG_TARGET (320 + w.val) := by
    rw [← htarget]
    exact ((State.winCross_after s w.val hi).get (f := IC_SRCCFG_TARGET) hcfg (by decide)).symm
  have hrouted : (s.winLatched w.val hi).routed (320 + w.val) = true := by
    unfold State.routed at h ⊢
    rw [hlatched]
    exact h
  have hpend := State.raise_raises (s.winLatched w.val hi) (by omega) hrouted
  have hn : s.get IC_SRCCFG_TARGET (320 + w.val) ≤ 16 := by simpa [State.routed] using h
  unfold State.raised
  rw [htarget]
  rw [hlatched] at hpend
  have hgates : ∀ t : State, PendingStays t ((t.seqCanary w.val).regateWindow w.val) := fun t =>
    Evolves.pendingStays (A := [.fresh, .timers, .reg .SN_SEQSTAT] ++ gateParts)
      (State.regateWindow_evolves (State.seqCanary_evolves (.refl _ t) _ (by decide +kernel)) _ (by decide +kernel)) (by decide)
  rw [State.winCross_eq]
  exact (State.record_pendingStays _ _ _ _ _ _).trans (hgates _) _ _ (by omega) (by omega) hpend

/-! ### Crossings (R143, R146) -/

/-- Reads of an enabled threshold, at a pin beyond its code for as long as the filter asks, assert its state. -/
theorem State.winAsserts_of_beyond (s : State) (w : Win) (hi : Bool) (nv n : Nat) (hruns : s.winRuns w.val = true)
    (hset : s.on CN_WSTAT_SETTLING w.val = false) (hneed : s.winNeed w.val ≤ n) (htime : n * s.winSpacing w.val ≤ s.now - (s.win w.val).readAt)
    (hen : s.on (winEnable hi) w.val = true) (hoff : s.on (winState hi) w.val = false) (hpin : pinBeyond hi nv (s.get (winCode hi) w.val) = true) :
    (s.winReads w.val [(nv, n)]).winAsserts w.val hi = true := by
  have hn : 0 < n := (s.winNeed_pos w.val).trans_le hneed
  have hcmp : (((s.winReads w.val [(nv, n)]).win w.val).cmp hi).run = ((s.win w.val).cmp hi).run + n := by
    rw [State.winReads_cmp s w nv n hi hruns hn htime, if_pos hen, CmpU.read_beyond _ n hpin]
  unfold State.winAsserts
  rw [hcmp]
  obtain ⟨p, hp⟩ := s.winReads_eq w.val [(nv, n)]
  rw [hp]
  have hlong : ({ s with power := p } : State).winNeed w.val ≤ ((s.win w.val).cmp hi).run + n := hneed.trans (Nat.le_add_left _ _)
  simp only [decide_eq_true hlong, Bool.and_true]
  show (s.winRuns w.val && s.on (winEnable hi) w.val && !s.on CN_WSTAT_SETTLING w.val && !s.on (winState hi) w.val) = true
  simp [hruns, hen, hset, hoff]

/-- R143, R146: a crossing of either threshold. -/
theorem canary_crosses (s : State) (w : WinRead) (hi : Bool) (nv n : Nat) (hpins : w.pins = [(nv, n)]) (hruns : s.winRuns w.win.val = true)
    (hset : s.on CN_WSTAT_SETTLING w.win.val = false) (hneed : s.winNeed w.win.val ≤ n)
    (htime : n * s.winSpacing w.win.val ≤ s.now - (s.win w.win.val).readAt) (hen : s.on (winEnable hi) w.win.val = true)
    (hoff : s.on (winState hi) w.win.val = false) (hpin : pinBeyond hi nv (s.get (winCode hi) w.win.val) = true)
    (hsrc : s.routed (320 + w.win.val) = true) :
    ∃ t, exec (.canaryCrossing w hi) s = .next t ∧
      t.on (winState hi) w.win.val = true ∧
      t.on (winLatch hi) w.win.val = true ∧
      t.get CN_WSTAT_COUNT w.win.val = min (s.get CN_WSTAT_COUNT w.win.val + 1) (2 ^ CN_WSTAT_COUNT.width - 1) ∧
      (s.on CN_WSTAT_LATCH_LO w.win.val = false → s.on CN_WSTAT_LATCH_HI w.win.val = false → t.get CN_WSTAMP_STAMP w.win.val = s.stamp) ∧
      ((s.on CN_WSTAT_LATCH_LO w.win.val = true ∨ s.on CN_WSTAT_LATCH_HI w.win.val = true) →
        t.get CN_WSTAMP_STAMP w.win.val = s.get CN_WSTAMP_STAMP w.win.val) ∧
      t.on (winState (!hi)) w.win.val = s.on (winState (!hi)) w.win.val ∧
      t.on (winLatch (!hi)) w.win.val = s.on (winLatch (!hi)) w.win.val ∧
      t.now = s.now ∧
      t.raised (320 + w.win.val) = true := by
  have hasserts := s.winAsserts_of_beyond w.win hi nv n hruns hset hneed htime hen hoff hpin
  obtain ⟨p, hp⟩ := s.winReads_eq w.win.val [(nv, n)]
  have hexec : exec (.canaryCrossing w hi) s = .next (State.winCross { s with power := p } w.win.val hi) := by
    show execCanaryCrossing w hi s = _
    unfold execCanaryCrossing
    rw [hpins]
    dsimp only
    rw [if_pos hasserts, hp]
  have hafter := State.winCross_after { s with power := p } w.win.val hi
  have hwstat : ∀ g : Fld, g.reg = .CN_WSTAT →
      (State.winCross { s with power := p } w.win.val hi).get g w.win.val = (State.winLatched { s with power := p } w.win.val hi).get g w.win.val :=
    fun g hg => hafter.get (hg ▸ wstat_has w.win) (by rw [hg]; decide)
  have hflag : ∀ g : Fld, g.reg = .CN_WSTAT → g.lo + g.width ≤ 16 →
      (State.winCross { s with power := p } w.win.val hi).on g w.win.val = (State.winSet { s with power := p } w.win.val hi).on g w.win.val := by
    intro g hg hlo
    unfold State.on
    rw [hwstat g hg, State.winLatched_get _ _ _ g hg hlo]
  have hother : ∀ g : Fld, g.reg.has w.win.val 0 = true → (winState hi).Apart g → (winLatch hi).Apart g →
      (State.winSet { s with power := p } w.win.val hi).on g w.win.val = s.on g w.win.val := by
    intro g hg hs hl
    unfold State.on
    rw [State.winSet_get _ _ _ g hg hs hl]
    rfl
  have hstamp : (State.winCross { s with power := p } w.win.val hi).get CN_WSTAMP_STAMP w.win.val =
      if !s.on CN_WSTAT_LATCH_LO w.win.val && !s.on CN_WSTAT_LATCH_HI w.win.val then s.stamp else s.get CN_WSTAMP_STAMP w.win.val :=
    (hafter.get (f := CN_WSTAMP_STAMP) (wstamp_has w.win) (by decide)).trans (State.winLatched_stamp { s with power := p } w.win hi)
  obtain ⟨hstateSet, hlatchSet⟩ := State.winSet_on { s with power := p } w.win hi
  refine ⟨_, hexec, ?_, ?_, ?_, ?_, ?_, ?_, ?_, ?_, ?_⟩
  · rw [hflag _ (winState_reg hi) (by cases hi <;> decide), hstateSet]
  · rw [hflag _ (winLatch_reg hi) (by cases hi <;> decide), hlatchSet]
  · rw [hwstat _ rfl, State.winLatched_count]
    rfl
  · intro hlo hhi
    simp [hstamp, hlo, hhi]
  · rintro (hlatch | hlatch) <;> simp [hstamp, hlatch]
  · rw [hflag _ (winState_reg _) (by cases hi <;> decide), hother _ (winState_has _ _) (by cases hi <;> decide) (by cases hi <;> decide)]
  · rw [hflag _ (winLatch_reg _) (by cases hi <;> decide), hother _ (winLatch_has _ _) (by cases hi <;> decide) (by cases hi <;> decide)]
  · exact (State.winCross_evolves (.refl _ { s with power := p }) w.win.val hi (covers_self _)).kept .now (by decide)
  · exact State.winCross_raised { s with power := p } w.win hi hsrc

/-- While SETTLING, or of a window that does not run, no state asserts, and reads touch no register. -/
theorem canary_holds (s : State) (w : WinRead) (hi : Bool) (k : Nat) (hk : k = w.win.val)
    (hstill : s.winRuns k = false ∨ s.on CN_WSTAT_SETTLING k = true) :
    ∃ t, exec (.canaryCrossing w hi) s = .next t ∧ t.rdw .CN_WSTAT k = s.rdw .CN_WSTAT k ∧ t.rdw .CN_WSTAMP k = s.rdw .CN_WSTAMP k ∧
      (s.winRuns k = false → t = s) := by
  subst hk
  obtain ⟨p, hp⟩ := s.winReads_eq w.win.val w.pins
  have hnone : (s.winReads w.win.val w.pins).winAsserts w.win.val hi = false := by
    have hruns : (s.winReads w.win.val w.pins).winRuns w.win.val = s.winRuns w.win.val := by rw [hp]; rfl
    have hset : (s.winReads w.win.val w.pins).on CN_WSTAT_SETTLING w.win.val = s.on CN_WSTAT_SETTLING w.win.val := by rw [hp]; rfl
    unfold State.winAsserts
    rw [hruns, hset]
    rcases hstill with h | h <;> simp [h]
  have hexec : exec (.canaryCrossing w hi) s = .next (s.winReads w.win.val w.pins) := by
    show execCanaryCrossing w hi s = _
    unfold execCanaryCrossing
    dsimp only
    rw [if_neg (by rw [hnone]; exact Bool.false_ne_true)]
  refine ⟨_, hexec, by rw [hp]; rfl, by rw [hp]; rfl, fun h => ?_⟩
  unfold State.winReads
  rw [if_neg (by rw [h]; exact Bool.false_ne_true)]

/-! ### The end of a state (R141, R142) -/

/-- What a deassertion does of its window, after the reads. -/
theorem exec_canaryStateDeassert (s : State) (w : WinRead) (hi : Bool) :
    exec (.canaryStateDeassert w hi) s = .next (if (s.winReads w.win.val w.pins).on (winState hi) w.win.val &&
        !(s.winReads w.win.val w.pins).on CN_WSTAT_SETTLING w.win.val && !(((s.winReads w.win.val w.pins).win w.win.val).cmp hi).raw then
      (s.winReads w.win.val w.pins).put (winState hi) 0 w.win.val else s.winReads w.win.val w.pins) := rfl

/-- R141, R143: a pin past the code by a code, back, ends the state of either threshold; latches and stamp stay. -/
theorem state_ends (s : State) (w : WinRead) (hi : Bool) (nv n : Nat) (hpins : w.pins = [(nv, n)]) (hruns : s.winRuns w.win.val = true)
    (hset : s.on CN_WSTAT_SETTLING w.win.val = false) (htime : n * s.winSpacing w.win.val ≤ s.now - (s.win w.win.val).readAt)
    (hon : s.on (winState hi) w.win.val = true) (hpin : pinBack hi nv (s.get (winCode hi) w.win.val) = true) (hn : 0 < n) :
    ∃ t, exec (.canaryStateDeassert w hi) s = .next t ∧
      t.on (winState hi) w.win.val = false ∧
      t.on (winLatch hi) w.win.val = s.on (winLatch hi) w.win.val ∧
      t.rdw .CN_WSTAMP w.win.val = s.rdw .CN_WSTAMP w.win.val := by
  have hraw : (((s.winReads w.win.val [(nv, n)]).win w.win.val).cmp hi).raw = false := by
    rw [State.winReads_cmp s w.win nv n hi hruns hn htime]
    split
    · exact CmpU.read_back _ n hpin
    · rfl
  have hexec := exec_canaryStateDeassert s w hi
  rw [hpins, hraw] at hexec
  obtain ⟨p, hp⟩ := s.winReads_eq w.win.val [(nv, n)]
  have hon' : ({ s with power := p } : State).on (winState hi) w.win.val = true := hon
  have hset' : ({ s with power := p } : State).on CN_WSTAT_SETTLING w.win.val = false := hset
  rw [hp, hon', hset'] at hexec
  refine ⟨_, hexec, ?_, ?_, ?_⟩
  · exact (State.on_put _ _ _ _ _ (winState_has w.win hi) (by cases hi <;> decide)).trans (by cases hi <;> rfl)
  · exact State.on_put_apart _ _ _ _ _ _ (winLatch_has w.win hi) (by cases hi <;> decide)
  · exact State.rdw_put_ne _ _ _ _ _ _ _ _ (wstamp_has w.win) (.inl (by rw [winState_reg]; decide))

/-- While SETTLING no state ends. -/
theorem settling_keeps_states (s : State) (w : WinRead) (hi : Bool) (k : Nat) (hk : k = w.win.val) (hset : s.on CN_WSTAT_SETTLING k = true) :
    ∃ t, exec (.canaryStateDeassert w hi) s = .next t ∧ t.rdw .CN_WSTAT k = s.rdw .CN_WSTAT k := by
  subst hk
  have hexec := exec_canaryStateDeassert s w hi
  obtain ⟨p, hp⟩ := s.winReads_eq w.win.val w.pins
  have hset' : ({ s with power := p } : State).on CN_WSTAT_SETTLING w.win.val = true := hset
  rw [hp, hset', Bool.not_true, Bool.and_false, Bool.false_and, if_neg Bool.false_ne_true] at hexec
  exact ⟨_, hexec, rfl⟩

end Sys2Proof.Machine
end
section
/-! SUPPORT. Writes to a Canary window's WSTAT and WTHR (R142, R147), and the end of settling (R142). -/

namespace Sys2Proof.Machine

/-! ### A cell's owner writes -/

/-- A write that R19 admits is applied. -/
theorem State.asCellOwner_eq (s : State) (m : Master) (c : Nat) (f : State → State) (h : s.mayWriteCell m c = true) : s.asCellOwner m c f = f s := by
  unfold State.mayWriteCell at h
  unfold State.asCellOwner
  cases hb : s.blockOf c with
  | none => rfl
  | some b =>
    rw [hb] at h
    exact if_pos h

/-- An owner's write to a register of a cell: the register's rule, after what the write releases has been noted. -/
theorem State.regStore_cell (s : State) (m : Master) (r : RegId) (v : Word) (i c : Nat) (f : Word → State → State) (hopen : s.busOpen m = true)
    (hmay : s.mayWriteCell m c = true) (hstore : ∀ (t : State) (x : Word), t.store m r x i 0 = t.asCellOwner m c (f x)) :
    ∃ d, s.regStore m r v i = f (s.settle r v i) { s with drift := d } := by
  obtain ⟨d, hd⟩ := State.regStore_eq s m r v i 0 hopen
  exact ⟨d, by rw [hd, hstore, State.asCellOwner_eq { s with drift := d } m c _ hmay]⟩

/-- A field of a written word that is 0 is 0 as the word acts. -/
theorem State.settle_zero (s : State) (r : RegId) (f : Fld) (v : Word) (i j : Nat) (h : f.of v = 0) : f.of (s.settle r v i j) = 0 := by
  apply Nat.eq_of_testBit_eq
  intro k
  have hbit : (f.of v).testBit k = false := by rw [h, Nat.zero_testBit]
  unfold Fld.of at hbit ⊢
  rw [bits_bit] at hbit ⊢
  unfold State.settle
  rw [BitVec.getLsbD_and, ← Bool.and_assoc, hbit, Bool.false_and, Nat.zero_testBit]

/-! ### The clear of one latch (R142, R147, R151) -/

/-- The flags that say whether a latch can clear. -/
theorem State.latchFree_congr {s t : State} {k : Nat} {hi : Bool} (hstate : t.on (winState hi) k = s.on (winState hi) k)
    (hfail : t.on CN_WCTL_RBFAIL k = s.on CN_WCTL_RBFAIL k) (hset : t.on CN_WSTAT_SETTLING k = s.on CN_WSTAT_SETTLING k) :
    t.latchFree k hi = s.latchFree k hi := by
  unfold State.latchFree
  rw [hstate, hfail, hset]

/-- The clear of a latch, where the written word asks for it. -/
def State.clearIf (s : State) (k : Nat) (v : Word) (hi : Bool) : State := if (winLatch hi).of v = 1 then s.latchClear k hi else s

/-- A latch that is free and written 1 clears; else it stays. -/
theorem State.clearIf_latch (s : State) (w : Win) (v : Word) (hi : Bool) :
    (s.clearIf w.val v hi).on (winLatch hi) w.val = (s.on (winLatch hi) w.val && !(decide ((winLatch hi).of v = 1) && s.latchFree w.val hi)) := by
  have hhas := winLatch_has w hi
  have hzero : (s.put (winLatch hi) 0 w.val).on (winLatch hi) w.val = false := by
    rw [State.on_put _ _ _ _ _ hhas (by cases hi <;> decide)]
    cases hi <;> rfl
  unfold State.clearIf State.latchClear
  split
  · next h =>
    split
    · next hfree => simp [hzero, h, hfree]
    · next hfree =>
      have hkept : (s.put CN_WSTAT_CLEAR_DENIED 1 w.val).on (winLatch hi) w.val = s.on (winLatch hi) w.val :=
        State.on_put_of_apart _ _ _ _ hhas (by cases hi <;> decide)
      rw [apply_ite (fun t : State => t.on (winLatch hi) w.val), hkept, ite_self]
      simp [hfree]
  · next h => simp [h]

/-- A clear touches its latch and CLEAR_DENIED alone. -/
theorem State.clearIf_get (s : State) (w : Win) (v : Word) (hi : Bool) (g : Fld) (hg : g.reg.has w.val 0 = true) (hl : (winLatch hi).Apart g)
    (hd : CN_WSTAT_CLEAR_DENIED.Apart g) : (s.clearIf w.val v hi).get g w.val = s.get g w.val := by
  unfold State.clearIf State.latchClear
  split
  · split
    · exact State.get_put_of_apart _ _ _ _ hg hl
    · split
      · exact State.get_put_of_apart _ _ _ _ hg hd
      · rfl
  · rfl

/-- Its flags as truth values. -/
theorem State.clearIf_on (s : State) (w : Win) (v : Word) (hi : Bool) (g : Fld) (hg : g.reg.has w.val 0 = true) (hl : (winLatch hi).Apart g)
    (hd : CN_WSTAT_CLEAR_DENIED.Apart g) : (s.clearIf w.val v hi).on g w.val = s.on g w.val :=
  congrArg (· != 0) (s.clearIf_get w v hi g hg hl hd)

/-- A clear of another latch, or none, leaves a latch as free as it was. -/
theorem State.clearIf_latchFree (s : State) (w : Win) (v : Word) (hi hi' : Bool) : (s.clearIf w.val v hi').latchFree w.val hi = s.latchFree w.val hi := by
  have hon := s.clearIf_on w v hi'
  exact State.latchFree_congr (hon _ (winState_has w hi) (by cases hi <;> cases hi' <;> decide) (by cases hi <;> decide))
    (hon _ (wctl_has w) (by cases hi' <;> decide) (by decide)) (hon _ (wstat_has w) (by cases hi' <;> decide) (by decide))

/-- A clear of a latch that its state holds is denied. -/
theorem State.clearIf_denies (s : State) (w : Win) (v : Word) (hi : Bool) (hv : (winLatch hi).of v = 1) (hstate : s.on (winState hi) w.val = true)
    (hlatch : s.on (winLatch hi) w.val = true) : (s.clearIf w.val v hi).on CN_WSTAT_CLEAR_DENIED w.val = true := by
  have hfree : ¬ s.latchFree w.val hi = true := by simp [State.latchFree, hstate]
  unfold State.clearIf State.latchClear
  rw [if_pos hv, if_neg hfree, if_pos (by simp [hstate, hlatch])]
  exact State.on_put _ _ _ _ _ (wstat_has w) (by decide)

/-- No clear of a latch ends CLEAR_DENIED. -/
theorem State.clearIf_keeps_denied (s : State) (w : Win) (v : Word) (hi : Bool) (h : s.on CN_WSTAT_CLEAR_DENIED w.val = true) :
    (s.clearIf w.val v hi).on CN_WSTAT_CLEAR_DENIED w.val = true := by
  unfold State.clearIf State.latchClear
  split
  · split
    · rw [State.on_put_of_apart _ _ _ _ (wstat_has w) (by cases hi <;> decide), h]
    · split
      · exact State.on_put _ _ _ _ _ (wstat_has w) (by decide)
      · exact h
  · exact h

/-! ### WSTAT (R147) -/

/-- The denials that a write to WSTAT clears. -/
def State.deniedCleared (s : State) (k : Nat) (v : Word) : State :=
  let s1 := if CN_WSTAT_CLEAR_DENIED.of v = 1 then s.put CN_WSTAT_CLEAR_DENIED 0 k else s
  if CN_WSTAT_WRITE_DENIED.of v = 1 then s1.put CN_WSTAT_WRITE_DENIED 0 k else s1

/-- A write to WSTAT: the denials, the lower latch, the upper latch, the gates. -/
theorem State.wstatWrite_eq (s : State) (k : Nat) (v : Word) :
    s.wstatWrite k v = (((s.deniedCleared k v).clearIf k v false).clearIf k v true).regateWindow k := rfl

/-- The denials' clear touches them alone. -/
theorem State.deniedCleared_get (s : State) (w : Win) (v : Word) (g : Fld) (hg : g.reg.has w.val 0 = true) (hc : CN_WSTAT_CLEAR_DENIED.Apart g)
    (hw : CN_WSTAT_WRITE_DENIED.Apart g) : (s.deniedCleared w.val v).get g w.val = s.get g w.val := by
  have hclear : (if CN_WSTAT_CLEAR_DENIED.of v = 1 then s.put CN_WSTAT_CLEAR_DENIED 0 w.val else s).get g w.val = s.get g w.val := by
    split
    · exact State.get_put_of_apart _ _ _ _ hg hc
    · rfl
  unfold State.deniedCleared
  dsimp only
  split
  · exact (State.get_put_of_apart _ _ _ _ hg hw).trans hclear
  · exact hclear

/-- The other flags as truth values. -/
theorem State.deniedCleared_on (s : State) (w : Win) (v : Word) (g : Fld) (hg : g.reg.has w.val 0 = true) (hc : CN_WSTAT_CLEAR_DENIED.Apart g)
    (hw : CN_WSTAT_WRITE_DENIED.Apart g) : (s.deniedCleared w.val v).on g w.val = s.on g w.val :=
  congrArg (· != 0) (s.deniedCleared_get w v g hg hc hw)

/-- The denials' clear leaves a latch as free as it was. -/
theorem State.deniedCleared_latchFree (s : State) (w : Win) (v : Word) (hi : Bool) :
    (s.deniedCleared w.val v).latchFree w.val hi = s.latchFree w.val hi := by
  have hon := s.deniedCleared_on w v
  exact State.latchFree_congr (hon _ (winState_has w hi) (by cases hi <;> decide) (by cases hi <;> decide))
    (hon _ (wctl_has w) (by decide) (by decide)) (hon _ (wstat_has w) (by decide) (by decide))

/-- The gates of a window touch no field of its registers. -/
theorem State.regateWindow_get (s : State) (k : Nat) (w : Win) (g : Fld) (hg : g.reg.has w.val 0 = true) (hreg : Part.reg g.reg ∉ gateParts) :
    (s.regateWindow k).get g w.val = s.get g w.val := (State.regateWindow_evolves (.refl _ s) k (covers_self _)).get hg hreg

/-- A write to WSTAT leaves the states. -/
theorem State.wstatWrite_state (s : State) (w : Win) (v : Word) (hi : Bool) :
    (s.wstatWrite w.val v).get (winState hi) w.val = s.get (winState hi) w.val := by
  have hhas := winState_has w hi
  rw [State.wstatWrite_eq, State.regateWindow_get _ _ _ _ hhas (by cases hi <;> decide),
    State.clearIf_get _ _ _ _ _ hhas (by cases hi <;> decide) (by cases hi <;> decide),
    State.clearIf_get _ _ _ _ _ hhas (by cases hi <;> decide) (by cases hi <;> decide),
    State.deniedCleared_get _ _ _ _ hhas (by cases hi <;> decide) (by cases hi <;> decide)]

/-- A latch after a write to WSTAT: clear where it is free and written 1, else as it was. -/
theorem State.wstatWrite_latch (s : State) (w : Win) (v : Word) (hi : Bool) :
    (s.wstatWrite w.val v).on (winLatch hi) w.val = (s.on (winLatch hi) w.val && !(decide ((winLatch hi).of v = 1) && s.latchFree w.val hi)) := by
  have hhas := winLatch_has w hi
  have hdenied : (s.deniedCleared w.val v).on (winLatch hi) w.val = s.on (winLatch hi) w.val :=
    s.deniedCleared_on w v _ hhas (by cases hi <;> decide) (by cases hi <;> decide)
  rw [State.wstatWrite_eq, State.on, State.regateWindow_get _ _ _ _ hhas (by cases hi <;> decide), ← State.on]
  cases hi
  case false => rw [State.clearIf_on _ _ _ true _ hhas (by decide) (by decide), State.clearIf_latch, hdenied, State.deniedCleared_latchFree]
  case true => rw [State.clearIf_latch, State.clearIf_on _ _ _ false _ hhas (by decide) (by decide), hdenied, State.clearIf_latchFree,
    State.deniedCleared_latchFree]

/-- A write to WSTAT that asks for a latch which its state holds is denied. -/
theorem State.wstatWrite_denies (s : State) (w : Win) (v : Word) (hi : Bool) (hv : (winLatch hi).of v = 1)
    (hstate : s.on (winState hi) w.val = true) (hlatch : s.on (winLatch hi) w.val = true) :
    (s.wstatWrite w.val v).on CN_WSTAT_CLEAR_DENIED w.val = true := by
  have hstate' := (s.deniedCleared_on w v _ (winState_has w hi) (by cases hi <;> decide) (by cases hi <;> decide)).trans hstate
  have hlatch' := (s.deniedCleared_on w v _ (winLatch_has w hi) (by cases hi <;> decide) (by cases hi <;> decide)).trans hlatch
  rw [State.wstatWrite_eq, State.on, State.regateWindow_get _ _ _ _ (wstat_has w) (by decide), ← State.on]
  cases hi
  case false => exact State.clearIf_keeps_denied _ _ _ _ (State.clearIf_denies _ w v false hv hstate' hlatch')
  case true =>
    have hpast := State.clearIf_on (s.deniedCleared w.val v) w v false
    exact State.clearIf_denies _ w v true hv ((hpast _ (wstat_has w) (by decide) (by decide)).trans hstate')
      ((hpast _ (wstat_has w) (by decide) (by decide)).trans hlatch')

/-- The latch command is the window's write. -/
theorem exec_latchClear (s : State) (m : Master) (w : Win) (v : Word) (hopen : s.busOpen m = true) (hmay : s.mayWriteCell m (w.val / 2) = true) :
    ∃ d, exec (.latchClear m w v) s = .next (State.wstatWrite { s with drift := d } w.val (s.settle .CN_WSTAT v w.val)) := by
  obtain ⟨d, hd⟩ := State.regStore_cell s m .CN_WSTAT v w.val (w.val / 2) (fun x t => t.wstatWrite w.val x) hopen hmay (fun _ _ => rfl)
  exact ⟨d, congrArg Host.Outcome.next hd⟩

/-- R147: a latch written 1 clears when its state is inactive, RBFAIL is 0 and the window is not SETTLING. -/
theorem free_latch_clears (s : State) (m : Master) (w : Win) (hi : Bool) (v : Word) (hopen : s.busOpen m = true)
    (hmay : s.mayWriteCell m (w.val / 2) = true) (hv : (winLatch hi).of (s.settle .CN_WSTAT v w.val) = 1) (hstate : s.on (winState hi) w.val = false)
    (hfail : s.on CN_WCTL_RBFAIL w.val = false) (hset : s.on CN_WSTAT_SETTLING w.val = false) :
    ∃ t, exec (.latchClear m w v) s = .next t ∧ t.on (winLatch hi) w.val = false ∧
      t.get (winState (!hi)) w.val = s.get (winState (!hi)) w.val := by
  obtain ⟨d, hd⟩ := exec_latchClear s m w v hopen hmay
  have hfree : State.latchFree { s with drift := d } w.val hi = true := by
    show s.latchFree w.val hi = true
    simp [State.latchFree, hstate, hfail, hset]
  exact ⟨_, hd, by simp [State.wstatWrite_latch, hv, hfree], State.wstatWrite_state _ w _ _⟩

/-- R147: a latch written 1 while its state is active stays, and CLEAR_DENIED is set. -/
theorem held_latch_denied (s : State) (m : Master) (w : Win) (hi : Bool) (v : Word) (hopen : s.busOpen m = true)
    (hmay : s.mayWriteCell m (w.val / 2) = true) (hv : (winLatch hi).of (s.settle .CN_WSTAT v w.val) = 1) (hstate : s.on (winState hi) w.val = true)
    (hlatch : s.on (winLatch hi) w.val = true) :
    ∃ t, exec (.latchClear m w v) s = .next t ∧ t.on (winLatch hi) w.val = true ∧ t.on CN_WSTAT_CLEAR_DENIED w.val = true := by
  obtain ⟨d, hd⟩ := exec_latchClear s m w v hopen hmay
  have hfree : State.latchFree { s with drift := d } w.val hi = false := by
    show s.latchFree w.val hi = false
    simp [State.latchFree, hstate]
  have hlatch' : State.on { s with drift := d } (winLatch hi) w.val = true := hlatch
  exact ⟨_, hd, by simp [State.wstatWrite_latch, hfree, hlatch'], State.wstatWrite_denies _ w _ hi hv hstate hlatch⟩

/-- R142, R147: a latch that is not written 1 stays, and while SETTLING every latch does. -/
theorem other_latch_stays (s : State) (m : Master) (w : Win) (hi : Bool) (v : Word) (hopen : s.busOpen m = true)
    (hmay : s.mayWriteCell m (w.val / 2) = true) (hstill : (winLatch hi).of v = 0 ∨ s.on CN_WSTAT_SETTLING w.val = true) :
    ∃ t, exec (.latchClear m w v) s = .next t ∧ t.on (winLatch hi) w.val = s.on (winLatch hi) w.val := by
  obtain ⟨d, hd⟩ := exec_latchClear s m w v hopen hmay
  refine ⟨_, hd, ?_⟩
  have hnone : (decide ((winLatch hi).of (s.settle .CN_WSTAT v w.val) = 1) && State.latchFree { s with drift := d } w.val hi) = false := by
    rcases hstill with hv | hset
    · simp [State.settle_zero s .CN_WSTAT (winLatch hi) v w.val 0 hv]
    · have hfree : State.latchFree { s with drift := d } w.val hi = false := by
        show s.latchFree w.val hi = false
        simp [State.latchFree, hset]
      simp [hfree]
  rw [State.wstatWrite_latch, hnone, Bool.not_false, Bool.and_true]
  rfl

/-! ### WTHR and settling (R142) -/

/-- The threshold command is the window's write. -/
theorem exec_wthrWrite (s : State) (m : Master) (w : Win) (v : Word) (hopen : s.busOpen m = true) (hmay : s.mayWriteCell m (w.val / 2) = true) :
    ∃ d, exec (.wthrWrite m w v) s = .next (State.wthrWrite { s with drift := d } w.val v) := by
  obtain ⟨d, hd⟩ := State.regStore_cell s m .CN_WTHR v w.val (w.val / 2) (fun x t => t.wthrWrite w.val x) hopen hmay (fun _ _ => rfl)
  rw [State.settle_of_no_w1c _ _ _ _ _ rfl] at hd
  exact ⟨d, congrArg Host.Outcome.next hd⟩

/-- New codes in order are stored and settle. -/
theorem codes_stored (s : State) (m : Master) (w : Win) (v : Word) (hopen : s.busOpen m = true) (hmay : s.mayWriteCell m (w.val / 2) = true)
    (hguard : s.on CN_WCTL_FGUARD w.val = false) (hord : CN_WTHR_LO.of v ≤ CN_WTHR_HI.of v)
    (hnew : changes (s.rdw .CN_WTHR w.val) v (BitVec.ofNat 32 RegId.CN_WTHR.reg.rw) = true) :
    ∃ t, exec (.wthrWrite m w v) s = .next t ∧ t.rdw .CN_WTHR w.val = RegId.CN_WTHR.written (s.rdw .CN_WTHR w.val) v ∧
      t.on CN_WSTAT_SETTLING w.val = true ∧ t.deadline (.settle w.val) = some (s.now + 126) := by
  obtain ⟨d, hd⟩ := exec_wthrWrite s m w v hopen hmay
  have hwrite : State.wthrWrite { s with drift := d } w.val v = (State.regWrite { s with drift := d } .CN_WTHR v w.val).winSettle w.val := by
    have hguard' : State.on { s with drift := d } CN_WCTL_FGUARD w.val = false := hguard
    have hnew' : changes (State.rdw { s with drift := d } .CN_WTHR w.val) v (BitVec.ofNat 32 RegId.CN_WTHR.reg.rw) = true := hnew
    unfold State.wthrWrite
    rw [hnew', hguard', if_neg (by decide), if_neg (by simpa using hord)]
  rw [hwrite] at hd
  refine ⟨_, hd, ?_, ?_, ?_⟩
  · unfold State.winSettle
    rw [State.arm_rdw, State.rdw_put_ne _ _ _ _ _ _ _ _ (wthr_has w) (.inl (by decide))]
    exact State.rdw_wrw _ _ _ _ _ (wthr_has w)
  · exact State.on_put _ CN_WSTAT_SETTLING 1 _ _ (wstat_has w) (by decide)
  · simp [State.winSettle, State.deadline, State.arm, State.regWrite]

/-- Codes out of order, or of a guarded window, are refused. -/
theorem codes_refused (s : State) (m : Master) (w : Win) (v : Word) (hopen : s.busOpen m = true) (hmay : s.mayWriteCell m (w.val / 2) = true)
    (hbad : s.on CN_WCTL_FGUARD w.val = true ∨ CN_WTHR_HI.of v < CN_WTHR_LO.of v)
    (hnew : changes (s.rdw .CN_WTHR w.val) v (BitVec.ofNat 32 RegId.CN_WTHR.reg.rw) = true) :
    ∃ t, exec (.wthrWrite m w v) s = .next t ∧ t.rdw .CN_WTHR w.val = s.rdw .CN_WTHR w.val ∧ t.on CN_WSTAT_WRITE_DENIED w.val = true ∧
      t.timers = s.timers := by
  obtain ⟨d, hd⟩ := exec_wthrWrite s m w v hopen hmay
  have hwrite : State.wthrWrite { s with drift := d } w.val v = State.winDenied { s with drift := d } w.val := by
    have hbad' : (State.on { s with drift := d } CN_WCTL_FGUARD w.val || decide (CN_WTHR_LO.of v > CN_WTHR_HI.of v)) = true := by
      show (s.on CN_WCTL_FGUARD w.val || decide (CN_WTHR_LO.of v > CN_WTHR_HI.of v)) = true
      simpa using hbad
    have hnew' : changes (State.rdw { s with drift := d } .CN_WTHR w.val) v (BitVec.ofNat 32 RegId.CN_WTHR.reg.rw) = true := hnew
    unfold State.wthrWrite
    rw [hnew', if_neg (by decide), if_pos (by simpa using hbad')]
  rw [hwrite] at hd
  exact ⟨_, hd, State.rdw_put_ne _ _ _ _ _ _ _ _ (wthr_has w) (.inl (by decide)), State.on_put _ _ _ _ _ (wstat_has w) (by decide),
    State.put_timers _ _ _ _ _⟩

/-- Codes that change nothing do nothing. -/
theorem same_codes_stay (s : State) (m : Master) (w : Win) (v : Word) (hopen : s.busOpen m = true) (hmay : s.mayWriteCell m (w.val / 2) = true)
    (hsame : changes (s.rdw .CN_WTHR w.val) v (BitVec.ofNat 32 RegId.CN_WTHR.reg.rw) = false) :
    ∃ t, exec (.wthrWrite m w v) s = .next t ∧ t.rdw .CN_WTHR w.val = s.rdw .CN_WTHR w.val ∧ t.timers = s.timers ∧
      t.rdw .CN_WSTAT w.val = s.rdw .CN_WSTAT w.val := by
  obtain ⟨d, hd⟩ := exec_wthrWrite s m w v hopen hmay
  have hwrite : State.wthrWrite { s with drift := d } w.val v = { s with drift := d } := by
    have hsame' : changes (State.rdw { s with drift := d } .CN_WTHR w.val) v (BitVec.ofNat 32 RegId.CN_WTHR.reg.rw) = false := hsame
    unfold State.wthrWrite
    rw [hsame', if_pos (by decide)]
  rw [hwrite] at hd
  exact ⟨_, hd, rfl, rfl, rfl⟩

/-- R142: settling ends at its deadline. -/
theorem settling_ends (s : State) (w : Win) (d : Nat) (hd : s.deadline (.settle w.val) = some d) :
    ∃ t, exec (.settlingEnd w) s = .next t ∧ t.on CN_WSTAT_SETTLING w.val = false ∧ t.now = max s.now d := by
  have hexec : exec (.settlingEnd w) s = .next (((s.advanceTo d).disarm (.settle w.val)).put CN_WSTAT_SETTLING 0 w.val) := by
    show execSettlingEnd w s = _
    unfold execSettlingEnd State.onTimer
    rw [hd]
  exact ⟨_, hexec, State.on_put _ _ _ _ _ (wstat_has w) (by decide), by rw [State.put_now, State.disarm_now, State.advanceTo_now]⟩

end Sys2Proof.Machine
end
section
/-! SUPPORT. Writes to a Canary window's WCTL (R143, R147, R151), and the Canary's obligation. -/

namespace Sys2Proof.Machine

/-! ### The fields that a refused change keeps (R502) -/

/-- A field whose bits are all kept has its old value. -/
theorem Fld.of_keeping_kept (f : Fld) (old v mask : Word) (hw : f.lo + f.width ≤ 32) (h : ∀ k < f.width, mask.getLsbD (f.lo + k) = true) :
    f.of (keeping old v mask) = f.of old :=
  Fld.of_congr (fun k hk => by rw [keeping_bit _ _ _ (by omega), if_pos (h k hk)])

/-- A field none of whose bits is kept is as written. -/
theorem Fld.of_keeping_free (f : Fld) (old v mask : Word) (hw : f.lo + f.width ≤ 32) (h : ∀ k < f.width, mask.getLsbD (f.lo + k) = false) :
    f.of (keeping old v mask) = f.of v :=
  Fld.of_congr (fun k hk => by rw [keeping_bit _ _ _ (by omega), if_neg (by rw [h k hk]; exact Bool.false_ne_true)])

/-- A write that changes no bit of a mask leaves the fields in it. -/
theorem Fld.of_eq_of_unchanged {f : Fld} {old v mask : Word} (h : changes old v mask = false)
    (hm : ∀ k < f.width, mask.getLsbD (f.lo + k) = true) : f.of old = f.of v := by
  refine Fld.of_congr (fun k hk => ?_)
  have hx : (old ^^^ v) &&& mask = 0#32 := by simpa [changes] using h
  have hbit := congrArg (fun w : Word => w.getLsbD (f.lo + k)) hx
  simpa only [BitVec.getLsbD_and, BitVec.getLsbD_xor, hm k hk, Bool.and_true, BitVec.getLsbD_zero, bne_eq_false_iff_eq] using hbit

/-- A change of a mask's bits is a change of a wider mask's. -/
theorem changes_or_left {old v a : Word} (b : Word) (h : changes old v a = true) : changes old v (a ||| b) = true := by
  unfold changes at h ⊢
  rw [bne_iff_ne] at h ⊢
  intro hor
  have hnarrow : (old ^^^ v) &&& a = ((old ^^^ v) &&& (a ||| b)) &&& a := by
    ext k hk
    simp only [BitVec.getElem_and, BitVec.getElem_or]
    cases (old ^^^ v)[k] <;> cases a[k] <;> simp
  exact h (by rw [hnarrow, hor]; exact BitVec.zero_and)

/-! ### States and latches that follow WCTL (R141, R147, R151) -/

/-- A state that ends unless its threshold takes part. -/
def State.offUnless (s : State) (k : Nat) (hi live : Bool) : State := if live then s else s.put (winState hi) 0 k

/-- A state stands only while its threshold takes part. -/
theorem State.offUnless_state (s : State) (w : Win) (hi live : Bool) :
    (s.offUnless w.val hi live).on (winState hi) w.val = (live && s.on (winState hi) w.val) := by
  cases live
  case true => simp [State.offUnless]
  case false =>
    refine (State.on_put s _ 0 _ _ (winState_has w hi) (by cases hi <;> decide)).trans ?_
    simp

/-- Every other field stays. -/
theorem State.offUnless_get (s : State) (w : Win) (hi live : Bool) (g : Fld) (hg : g.reg.has w.val 0 = true) (h : (winState hi).Apart g) :
    (s.offUnless w.val hi live).get g w.val = s.get g w.val := by
  unfold State.offUnless
  split
  · rfl
  · exact State.get_put_of_apart _ _ _ _ hg h

/-- A threshold takes part while its window and it are enabled. -/
def State.winLive (s : State) (k : Nat) (hi : Bool) : Bool := s.on CN_WCTL_EN k && s.on (winEnable hi) k

/-- The registers after the states that do not take part have ended. -/
theorem State.winIdle_eq (s : State) (k : Nat) :
    ∃ p, s.winIdle k = { (s.offUnless k false (s.winLive k false)).offUnless k true (s.winLive k true) with power := p } :=
  State.updWin_eq _ _ _

/-- Only states end with it. -/
theorem State.winIdle_get (s : State) (w : Win) (g : Fld) (hg : g.reg.has w.val 0 = true) (h : ∀ hi, (winState hi).Apart g) :
    (s.winIdle w.val).get g w.val = s.get g w.val := by
  obtain ⟨p, hp⟩ := s.winIdle_eq w.val
  rw [hp]
  exact (State.offUnless_get _ w true _ g hg (h true)).trans (State.offUnless_get _ w false _ g hg (h false))

/-- A state ends where its threshold does not take part. -/
theorem State.winIdle_state (s : State) (w : Win) (hi : Bool) :
    (s.winIdle w.val).on (winState hi) w.val = (s.winLive w.val hi && s.on (winState hi) w.val) := by
  obtain ⟨p, hp⟩ := s.winIdle_eq w.val
  have hother : ∀ (t : State) (b : Bool), (t.offUnless w.val (!hi) b).on (winState hi) w.val = t.on (winState hi) w.val := fun t b =>
    congrArg (· != 0) (t.offUnless_get w (!hi) b _ (winState_has w hi) (by cases hi <;> decide))
  rw [hp]
  cases hi
  case false => exact (hother _ _).trans (State.offUnless_state s w false _)
  case true => exact (State.offUnless_state _ w true _).trans (congrArg _ (hother s _))

/-- RBFAIL touches the latches alone. -/
theorem State.winHold_get (s : State) (w : Win) (g : Fld) (hg : g.reg.has w.val 0 = true) (h : ∀ hi, (winLatch hi).Apart g) :
    (s.winHold w.val).get g w.val = s.get g w.val := by
  unfold State.winHold
  split
  · exact (State.get_put_of_apart _ _ _ _ hg (h true)).trans (State.get_put_of_apart _ _ _ _ hg (h false))
  · rfl

/-- A latch stands where it stood or RBFAIL holds it. -/
theorem State.winHold_latch (s : State) (w : Win) (hi : Bool) :
    (s.winHold w.val).on (winLatch hi) w.val = (s.on CN_WCTL_RBFAIL w.val || s.on (winLatch hi) w.val) := by
  have hset : ∀ (t : State) (b : Bool), (t.put (winLatch b) 1 w.val).on (winLatch b) w.val = true := by
    intro t b
    rw [State.on_put _ _ _ _ _ (winLatch_has w b) (by cases b <;> decide)]
    cases b <;> rfl
  unfold State.winHold
  split
  · next h =>
    rw [h, Bool.true_or]
    cases hi
    case false => exact (State.on_put_of_apart _ _ _ _ (winLatch_has w false) (by decide)).trans (hset s false)
    case true => exact hset _ true
  · next h => simp [h]

/-- What a window's states, latches and gates do after its WCTL was written. -/
def State.winApply (s : State) (k : Nat) : State := ((s.winIdle k).winHold k).regateWindow k

/-- Every field but the states and latches stays. -/
theorem State.winApply_get (s : State) (w : Win) (g : Fld) (hg : g.reg.has w.val 0 = true) (hreg : Part.reg g.reg ∉ gateParts)
    (hs : ∀ hi, (winState hi).Apart g) (hl : ∀ hi, (winLatch hi).Apart g) : (s.winApply w.val).get g w.val = s.get g w.val := by
  unfold State.winApply
  rw [State.regateWindow_get _ _ _ _ hg hreg, State.winHold_get _ _ _ hg hl, State.winIdle_get _ _ _ hg hs]

/-- A state stands where it stood and its threshold takes part. -/
theorem State.winApply_state (s : State) (w : Win) (hi : Bool) :
    (s.winApply w.val).on (winState hi) w.val = (s.winLive w.val hi && s.on (winState hi) w.val) := by
  unfold State.winApply
  rw [State.on, State.regateWindow_get _ _ _ _ (winState_has w hi) (by cases hi <;> decide),
    State.winHold_get _ _ _ (winState_has w hi) (by cases hi <;> decide), ← State.on, State.winIdle_state]

/-- A latch stands where it stood or RBFAIL holds it. -/
theorem State.winApply_latch (s : State) (w : Win) (hi : Bool) :
    (s.winApply w.val).on (winLatch hi) w.val = (s.on CN_WCTL_RBFAIL w.val || s.on (winLatch hi) w.val) := by
  unfold State.winApply
  have hidle : ∀ g : Fld, g.reg.has w.val 0 = true → (∀ hi, (winState hi).Apart g) → (s.winIdle w.val).on g w.val = s.on g w.val :=
    fun g hg h => congrArg (· != 0) (s.winIdle_get w g hg h)
  rw [State.on, State.regateWindow_get _ _ _ _ (winLatch_has w hi) (by cases hi <;> decide), ← State.on, State.winHold_latch,
    hidle _ (wctl_has w) (by decide), hidle _ (winLatch_has w hi) (by cases hi <;> decide)]

/-- WCTL itself stays. -/
theorem State.winApply_wctl (s : State) (w : Win) : (s.winApply w.val).rdw .CN_WCTL w.val = s.rdw .CN_WCTL w.val := by
  have hev : Evolves ([Part.fresh, .power, .reg .CN_WSTAT] ++ gateParts) s (s.winApply w.val) :=
    State.regateWindow_evolves (State.winHold_evolves (State.winIdle_evolves (.refl _ s) _ (by decide +kernel)) _ (by decide +kernel)) _
      (by decide +kernel)
  exact hev.rdw (wctl_has w) (by decide)

/-! ### WCTL (R143, R151) -/

/-- The fields that a write to an enabled window keeps (R143). -/
def wctlModes : Word := CN_WCTL_MODE.mask ||| CN_WCTL_FILT.mask ||| CN_WCTL_TICK.mask

/-- RBFAIL stands and its cell's block is not STOPPED (R151). -/
def State.failHeld (s : State) (k : Nat) : Bool := s.on CN_WCTL_RBFAIL k && !s.cellStopped (k / 2)

/-- The fields that a write keeps: those of an enabled window, and RBFAIL while it is held. -/
theorem State.wctlKeeps_eq (s : State) (k : Nat) :
    s.wctlKeeps k = (if s.on CN_WCTL_EN k then wctlModes else 0) ||| (if s.failHeld k then CN_WCTL_RBFAIL.mask else 0) := rfl

/-- A bit that a write keeps. -/
theorem State.wctlKeeps_bit (s : State) (k b : Nat) :
    (s.wctlKeeps k).getLsbD b = (s.on CN_WCTL_EN k && wctlModes.getLsbD b || s.failHeld k && CN_WCTL_RBFAIL.mask.getLsbD b) := by
  rw [State.wctlKeeps_eq, BitVec.getLsbD_or]
  cases s.on CN_WCTL_EN k <;> cases s.failHeld k <;> simp

/-- WCTL stored, and WRITE_DENIED set where a kept field would change. -/
def State.wctlStored (s : State) (k : Nat) (v : Word) : State :=
  let s1 := s.regWrite .CN_WCTL (keeping (s.rdw .CN_WCTL k) v (s.wctlKeeps k)) k
  if changes (s.rdw .CN_WCTL k) v (s.wctlKeeps k) then s1.winDenied k else s1

/-- The word stored. -/
theorem State.wctlStored_wctl (s : State) (w : Win) (v : Word) :
    (s.wctlStored w.val v).rdw .CN_WCTL w.val =
      RegId.CN_WCTL.written (s.rdw .CN_WCTL w.val) (keeping (s.rdw .CN_WCTL w.val) v (s.wctlKeeps w.val)) := by
  unfold State.wctlStored
  dsimp only
  split
  · exact (State.rdw_put_ne _ _ _ _ _ _ _ _ (wctl_has w) (.inl (by decide))).trans (State.rdw_wrw _ _ _ _ _ (wctl_has w))
  · exact State.rdw_wrw _ _ _ _ _ (wctl_has w)

/-- The flags of WSTAT apart from WRITE_DENIED stay. -/
theorem State.wctlStored_get (s : State) (w : Win) (v : Word) (g : Fld) (hg : g.reg = .CN_WSTAT) (h : CN_WSTAT_WRITE_DENIED.Apart g) :
    (s.wctlStored w.val v).get g w.val = s.get g w.val := by
  have hhas : g.reg.has w.val 0 = true := hg ▸ wstat_has w
  have hword : ∀ x, (s.regWrite .CN_WCTL x w.val).get g w.val = s.get g w.val := fun x =>
    congrArg g.of (State.rdw_wrw_ne _ _ _ _ _ _ _ _ hhas (.inl (by rw [hg]; decide)))
  unfold State.wctlStored
  dsimp only
  split
  · exact (State.get_put_of_apart _ _ _ _ hhas h).trans (hword _)
  · exact hword _

/-- A kept field that would change sets WRITE_DENIED. -/
theorem State.wctlStored_denied (s : State) (w : Win) (v : Word) (h : changes (s.rdw .CN_WCTL w.val) v (s.wctlKeeps w.val) = true) :
    (s.wctlStored w.val v).on CN_WSTAT_WRITE_DENIED w.val = true := by
  unfold State.wctlStored
  dsimp only
  rw [if_pos h]
  exact State.on_put _ _ _ _ _ (wstat_has w) (by decide)

/-- A write to the WCTL of a window without FGUARD. -/
theorem State.wctlWrite_unguarded (s : State) (k : Nat) (v : Word) (h : s.on CN_WCTL_FGUARD k = false) :
    ∃ p, s.wctlWrite k v = State.winApply { s.wctlStored k v with power := p } k := by
  have hfollow : ∃ p, (s.wctlStored k v).winFollow s k = { s.wctlStored k v with power := p } := by
    unfold State.winFollow
    split
    · exact ⟨_, rfl⟩
    · exact State.updWin_eq _ _ _
  obtain ⟨p, hp⟩ := hfollow
  refine ⟨p, ?_⟩
  rw [← hp]
  unfold State.wctlWrite
  dsimp only
  rw [if_neg (by rw [h]; exact Bool.false_ne_true)]
  rfl

section
variable {s : State} {w : Win} (v : Word) (hguard : s.on CN_WCTL_FGUARD w.val = false)
include hguard

/-- The word that an unguarded window's WCTL holds after a write. -/
theorem State.wctlWrite_wctl : (s.wctlWrite w.val v).rdw .CN_WCTL w.val =
    RegId.CN_WCTL.written (s.rdw .CN_WCTL w.val) (keeping (s.rdw .CN_WCTL w.val) v (s.wctlKeeps w.val)) := by
  obtain ⟨p, hp⟩ := s.wctlWrite_unguarded w.val v hguard
  rw [hp, State.winApply_wctl]
  exact State.wctlStored_wctl s w v

/-- A state after a write: it stands where it stood and its threshold takes part now. -/
theorem State.wctlWrite_state (hi : Bool) : (s.wctlWrite w.val v).on (winState hi) w.val =
    ((s.wctlWrite w.val v).on CN_WCTL_EN w.val && (s.wctlWrite w.val v).on (winEnable hi) w.val && s.on (winState hi) w.val) := by
  obtain ⟨p, hp⟩ := s.wctlWrite_unguarded w.val v hguard
  have hword : ∀ g : Fld, g.reg = .CN_WCTL → (s.wctlWrite w.val v).on g w.val = State.on { s.wctlStored w.val v with power := p } g w.val := by
    intro g hg
    unfold State.on State.get
    rw [hg, hp, State.winApply_wctl]
  have hstate : State.on { s.wctlStored w.val v with power := p } (winState hi) w.val = s.on (winState hi) w.val :=
    congrArg (· != 0) (s.wctlStored_get w v _ (winState_reg hi) (by cases hi <;> decide))
  rw [hword CN_WCTL_EN rfl, hword (winEnable hi) (by cases hi <;> rfl), hp, State.winApply_state, hstate]
  rfl

/-- A latch after a write: it stands where it stood or RBFAIL holds it now. -/
theorem State.wctlWrite_latch (hi : Bool) : (s.wctlWrite w.val v).on (winLatch hi) w.val =
    ((s.wctlWrite w.val v).on CN_WCTL_RBFAIL w.val || s.on (winLatch hi) w.val) := by
  obtain ⟨p, hp⟩ := s.wctlWrite_unguarded w.val v hguard
  have hfail : (s.wctlWrite w.val v).on CN_WCTL_RBFAIL w.val = State.on { s.wctlStored w.val v with power := p } CN_WCTL_RBFAIL w.val := by
    unfold State.on State.get
    rw [hp, show CN_WCTL_RBFAIL.reg = .CN_WCTL from rfl, State.winApply_wctl]
  have hlatch : State.on { s.wctlStored w.val v with power := p } (winLatch hi) w.val = s.on (winLatch hi) w.val :=
    congrArg (· != 0) (s.wctlStored_get w v _ (winLatch_reg hi) (by cases hi <;> decide))
  rw [hfail, hp, State.winApply_latch, hlatch]

/-- A write that would change a kept field is denied. -/
theorem State.wctlWrite_denied (h : changes (s.rdw .CN_WCTL w.val) v (s.wctlKeeps w.val) = true) :
    (s.wctlWrite w.val v).on CN_WSTAT_WRITE_DENIED w.val = true := by
  obtain ⟨p, hp⟩ := s.wctlWrite_unguarded w.val v hguard
  rw [hp, State.on, State.winApply_get _ _ _ (wstat_has w) (by decide) (by decide) (by decide)]
  exact s.wctlStored_denied w v h

/-- A field of WCTL after a write is that of the word with the kept fields. -/
theorem State.wctlWrite_get (f : Fld) (hreg : f.reg = .CN_WCTL) (hw : f.lo + f.width ≤ 32)
    (hrw : ∀ k < f.width, f.reg.reg.rw.testBit (f.lo + k) = true ∧ f.reg.reg.w1c.testBit (f.lo + k) = false) :
    (s.wctlWrite w.val v).get f w.val = f.of (keeping (s.rdw .CN_WCTL w.val) v (s.wctlKeeps w.val)) := by
  unfold State.get
  rw [hreg, State.wctlWrite_wctl v hguard, ← hreg, Fld.of_written f _ _ hw hrw]

/-- A field that no write keeps takes what is written. -/
theorem State.wctlWrite_free (f : Fld) (hreg : f.reg = .CN_WCTL) (hw : f.lo + f.width ≤ 32)
    (hrw : ∀ k < f.width, f.reg.reg.rw.testBit (f.lo + k) = true ∧ f.reg.reg.w1c.testBit (f.lo + k) = false)
    (hfree : ∀ k < f.width, wctlModes.getLsbD (f.lo + k) = false ∧ CN_WCTL_RBFAIL.mask.getLsbD (f.lo + k) = false) :
    (s.wctlWrite w.val v).get f w.val = f.of v := by
  rw [State.wctlWrite_get v hguard f hreg hw hrw]
  refine Fld.of_keeping_free f _ v _ hw (fun k hk => ?_)
  obtain ⟨hm, hr⟩ := hfree k hk
  simp [State.wctlKeeps_bit, hm, hr]

/-- A mode field of an enabled window stays. -/
theorem State.wctlWrite_mode (f : Fld) (hreg : f.reg = .CN_WCTL) (hw : f.lo + f.width ≤ 32)
    (hrw : ∀ k < f.width, f.reg.reg.rw.testBit (f.lo + k) = true ∧ f.reg.reg.w1c.testBit (f.lo + k) = false)
    (hmode : ∀ k < f.width, wctlModes.getLsbD (f.lo + k) = true) (hen : s.on CN_WCTL_EN w.val = true) :
    (s.wctlWrite w.val v).get f w.val = s.get f w.val := by
  rw [State.wctlWrite_get v hguard f hreg hw hrw, Fld.of_keeping_kept f _ v _ hw (fun k hk => by simp [State.wctlKeeps_bit, hen, hmode k hk]),
    State.get, hreg]

/-- RBFAIL after a write: written 1, or held. -/
theorem State.wctlWrite_rbfail : (s.wctlWrite w.val v).on CN_WCTL_RBFAIL w.val = (CN_WCTL_RBFAIL.of v != 0 || s.failHeld w.val) := by
  unfold State.on
  rw [State.wctlWrite_get v hguard CN_WCTL_RBFAIL rfl (by decide) (by decide)]
  cases hheld : s.failHeld w.val
  case false =>
    rw [Fld.of_keeping_free _ _ _ _ (by decide), Bool.or_false]
    intro k hk
    have hmode : ∀ k < CN_WCTL_RBFAIL.width, wctlModes.getLsbD (CN_WCTL_RBFAIL.lo + k) = false := by decide
    simp [State.wctlKeeps_bit, hheld, hmode k hk]
  case true =>
    have hmask : ∀ k < CN_WCTL_RBFAIL.width, CN_WCTL_RBFAIL.mask.getLsbD (CN_WCTL_RBFAIL.lo + k) = true := by decide
    rw [Fld.of_keeping_kept _ _ _ _ (by decide) (fun k hk => by simp [State.wctlKeeps_bit, hheld, hmask k hk]), Bool.or_true]
    have hfail : s.on CN_WCTL_RBFAIL w.val = true := (Bool.and_eq_true_iff.1 hheld).1
    exact hfail

end

/-- The WCTL command is the window's write. -/
theorem State.regStore_wctl (s : State) (m : Master) (w : Win) (v : Word) (hopen : s.busOpen m = true) (hmay : s.mayWriteCell m (w.val / 2) = true) :
    ∃ d, s.regStore m .CN_WCTL v w.val = State.wctlWrite { s with drift := d } w.val v := by
  obtain ⟨d, hd⟩ := State.regStore_cell s m .CN_WCTL v w.val (w.val / 2) (fun x t => t.wctlWrite w.val x) hopen hmay (fun _ _ => rfl)
  rw [State.settle_of_no_w1c _ _ _ _ _ rfl] at hd
  exact ⟨d, hd⟩

/-- R143: the WCTL of a disabled window takes the word. -/
theorem disabled_window_takes_word (s : State) (m : Master) (w : Win) (v : Word) (hopen : s.busOpen m = true)
    (hmay : s.mayWriteCell m (w.val / 2) = true) (hguard : s.on CN_WCTL_FGUARD w.val = false) (hen : s.on CN_WCTL_EN w.val = false)
    (hfail : s.on CN_WCTL_RBFAIL w.val = false ∨ s.cellStopped (w.val / 2) = true) :
    ∃ t, exec (.wctlWrite m w v) s = .next t ∧ t.rdw .CN_WCTL w.val = RegId.CN_WCTL.written (s.rdw .CN_WCTL w.val) v := by
  obtain ⟨d, hd⟩ := State.regStore_wctl s m w v hopen hmay
  have hheld : s.failHeld w.val = false := by
    unfold State.failHeld
    rcases hfail with h | h <;> simp [h]
  have hkeeps : State.wctlKeeps { s with drift := d } w.val = 0#32 := by
    show s.wctlKeeps w.val = 0#32
    rw [State.wctlKeeps_eq, hen, hheld]
    rfl
  refine ⟨_, congrArg Host.Outcome.next hd, (State.wctlWrite_wctl (s := { s with drift := d }) v hguard).trans ?_⟩
  rw [hkeeps]
  simp only [keeping, BitVec.not_zero, BitVec.and_allOnes, BitVec.and_zero, BitVec.or_zero]
  rfl

/-- R143: of an enabled window MODE, FILT and TICK stay, every other field but RBFAIL takes what is written. -/
theorem enabled_window_keeps_mode (s : State) (m : Master) (w : Win) (v : Word) (hopen : s.busOpen m = true)
    (hmay : s.mayWriteCell m (w.val / 2) = true) (hguard : s.on CN_WCTL_FGUARD w.val = false) (hen : s.on CN_WCTL_EN w.val = true) :
    ∃ t, exec (.wctlWrite m w v) s = .next t ∧
      (∀ f ∈ [CN_WCTL_MODE, CN_WCTL_FILT, CN_WCTL_TICK], t.get f w.val = s.get f w.val) ∧
      (∀ f ∈ [CN_WCTL_EN, CN_WCTL_ENLO, CN_WCTL_ENHI, CN_WCTL_CLRMODE, CN_WCTL_TSCOPE, CN_WCTL_TRIPEN, CN_WCTL_GRP], t.get f w.val = f.of v) ∧
      (changes (s.rdw .CN_WCTL w.val) v (CN_WCTL_MODE.mask ||| CN_WCTL_FILT.mask ||| CN_WCTL_TICK.mask) = true →
        t.on CN_WSTAT_WRITE_DENIED w.val = true) ∧
      (CN_WCTL_EN.of v = 0 → t.on CN_WSTAT_LOW w.val = false ∧ t.on CN_WSTAT_HIGH w.val = false) ∧
      (CN_WCTL_RBFAIL.of v = 0 ∧ s.on CN_WCTL_RBFAIL w.val = false →
        t.on CN_WSTAT_LATCH_LO w.val = s.on CN_WSTAT_LATCH_LO w.val ∧ t.on CN_WSTAT_LATCH_HI w.val = s.on CN_WSTAT_LATCH_HI w.val) := by
  obtain ⟨d, hd⟩ := State.regStore_wctl s m w v hopen hmay
  have hguard' : State.on { s with drift := d } CN_WCTL_FGUARD w.val = false := hguard
  have hfree : ∀ f ∈ [CN_WCTL_EN, CN_WCTL_ENLO, CN_WCTL_ENHI, CN_WCTL_CLRMODE, CN_WCTL_TSCOPE, CN_WCTL_TRIPEN, CN_WCTL_GRP],
      (State.wctlWrite { s with drift := d } w.val v).get f w.val = f.of v := by
    intro f hf
    simp only [List.mem_cons, List.not_mem_nil, or_false] at hf
    rcases hf with rfl | rfl | rfl | rfl | rfl | rfl | rfl <;>
      exact State.wctlWrite_free v hguard' _ rfl (by decide) (by decide) (by decide)
  refine ⟨_, congrArg Host.Outcome.next hd, ?_, hfree, ?_, ?_, ?_⟩
  · intro f hf
    have hkept : ∀ g : Fld, g ∈ [CN_WCTL_MODE, CN_WCTL_FILT, CN_WCTL_TICK] →
        (State.wctlWrite { s with drift := d } w.val v).get g w.val = State.get { s with drift := d } g w.val := by
      intro g hg
      simp only [List.mem_cons, List.not_mem_nil, or_false] at hg
      rcases hg with rfl | rfl | rfl <;> exact State.wctlWrite_mode v hguard' _ rfl (by decide) (by decide) (by decide) hen
    exact hkept f hf
  · intro hnew
    refine State.wctlWrite_denied v hguard' ?_
    show changes (s.rdw .CN_WCTL w.val) v (s.wctlKeeps w.val) = true
    rw [State.wctlKeeps_eq, if_pos hen]
    exact changes_or_left _ hnew
  · intro hoff
    have hen' : (State.wctlWrite { s with drift := d } w.val v).on CN_WCTL_EN w.val = false := by
      unfold State.on
      rw [hfree _ (by simp), hoff]
      rfl
    have hended : ∀ hi, (State.wctlWrite { s with drift := d } w.val v).on (winState hi) w.val = false := fun hi => by
      rw [State.wctlWrite_state v hguard', hen', Bool.false_and, Bool.false_and]
    exact ⟨hended false, hended true⟩
  · rintro ⟨hv, hfail⟩
    have hnone : (State.wctlWrite { s with drift := d } w.val v).on CN_WCTL_RBFAIL w.val = false := by
      rw [State.wctlWrite_rbfail v hguard', hv]
      show (false || s.failHeld w.val) = false
      simp [State.failHeld, hfail]
    have hstays : ∀ hi, (State.wctlWrite { s with drift := d } w.val v).on (winLatch hi) w.val = s.on (winLatch hi) w.val := fun hi => by
      rw [State.wctlWrite_latch v hguard', hnone, Bool.false_or]
      rfl
    exact ⟨hstays false, hstays true⟩

/-- A write to a guarded window that would change it is denied. -/
theorem guarded_window_denied (s : State) (m : Master) (w : Win) (v : Word) (hopen : s.busOpen m = true)
    (hmay : s.mayWriteCell m (w.val / 2) = true) (hguard : s.on CN_WCTL_FGUARD w.val = true)
    (hnew : changes (s.rdw .CN_WCTL w.val) v (BitVec.ofNat 32 RegId.CN_WCTL.reg.rw) = true) :
    ∃ t, exec (.wctlWrite m w v) s = .next t ∧ t.rdw .CN_WCTL w.val = s.rdw .CN_WCTL w.val ∧ t.on CN_WSTAT_WRITE_DENIED w.val = true := by
  obtain ⟨d, hd⟩ := State.regStore_wctl s m w v hopen hmay
  have hwrite : State.wctlWrite { s with drift := d } w.val v = State.winDenied { s with drift := d } w.val := by
    unfold State.wctlWrite
    dsimp only
    exact (if_pos hguard).trans (if_pos hnew)
  rw [hwrite] at hd
  exact ⟨_, congrArg Host.Outcome.next hd, State.rdw_put_ne _ _ _ _ _ _ _ _ (wctl_has w) (.inl (by decide)),
    State.on_put _ _ _ _ _ (wstat_has w) (by decide)⟩

/-! ### RBFAIL (R151) -/

/-- RBFAIL and the latches after RBFAIL is written in a window without FGUARD. -/
theorem rbfailWrite_spec (s : State) (m : Master) (w : Win) (b : Bool) (v : Word) (hopen : s.busOpen m = true)
    (hmay : s.mayWriteCell m (w.val / 2) = true) (hguard : s.on CN_WCTL_FGUARD w.val = false) :
    ∃ t, exec (.rbfailWrite m w b v) s = .next t ∧ t.on CN_WCTL_RBFAIL w.val = (b || s.failHeld w.val) ∧
      (∀ hi, t.on (winLatch hi) w.val = (b || s.failHeld w.val || s.on (winLatch hi) w.val)) ∧
      (b = false → s.failHeld w.val = true → t.on CN_WSTAT_WRITE_DENIED w.val = true) := by
  obtain ⟨d, hd⟩ := State.regStore_wctl s m w (CN_WCTL_RBFAIL.into v b.toNat) hopen hmay
  have hguard' : State.on { s with drift := d } CN_WCTL_FGUARD w.val = false := hguard
  have hbit : CN_WCTL_RBFAIL.of (CN_WCTL_RBFAIL.into v b.toNat) = b.toNat := by
    have hput := bits_setBits v CN_WCTL_RBFAIL.lo CN_WCTL_RBFAIL.width b.toNat (by decide)
    cases b <;> exact hput
  have hfail : (State.wctlWrite { s with drift := d } w.val (CN_WCTL_RBFAIL.into v b.toNat)).on CN_WCTL_RBFAIL w.val = (b || s.failHeld w.val) := by
    rw [State.wctlWrite_rbfail _ hguard', hbit]
    cases b <;> rfl
  refine ⟨_, congrArg Host.Outcome.next hd, hfail, fun hi => ?_, fun hb hheld => ?_⟩
  · rw [State.wctlWrite_latch _ hguard', hfail]
    rfl
  · refine State.wctlWrite_denied _ hguard' ?_
    show changes (s.rdw .CN_WCTL w.val) (CN_WCTL_RBFAIL.into v b.toNat) (s.wctlKeeps w.val) = true
    have hfailed : s.on CN_WCTL_RBFAIL w.val = true := (Bool.and_eq_true_iff.1 hheld).1
    have hmask : ∀ k < CN_WCTL_RBFAIL.width, CN_WCTL_RBFAIL.mask.getLsbD (CN_WCTL_RBFAIL.lo + k) = true := by decide
    by_contra hsame
    have hequal := Fld.of_eq_of_unchanged (f := CN_WCTL_RBFAIL) (Bool.eq_false_iff.2 hsame)
      (fun k hk => by simp [State.wctlKeeps_bit, hheld, hmask k hk])
    rw [hbit, hb] at hequal
    have hzero : s.on CN_WCTL_RBFAIL w.val = false := congrArg (· != 0) hequal
    exact Bool.false_ne_true (hzero.symm.trans hfailed)

/-- R151: RBFAIL written 1 sets both latches. -/
theorem rbfail_sets_latches (s : State) (m : Master) (w : Win) (v : Word) (hopen : s.busOpen m = true) (hmay : s.mayWriteCell m (w.val / 2) = true)
    (hguard : s.on CN_WCTL_FGUARD w.val = false) :
    ∃ t, exec (.rbfailWrite m w true v) s = .next t ∧ t.on CN_WCTL_RBFAIL w.val = true ∧ t.on CN_WSTAT_LATCH_LO w.val = true ∧
      t.on CN_WSTAT_LATCH_HI w.val = true := by
  obtain ⟨t, he, hfail, hlatch, -⟩ := rbfailWrite_spec s m w true v hopen hmay hguard
  exact ⟨t, he, hfail, hlatch false, hlatch true⟩

/-- R151: RBFAIL written 0 ends where the cell's block is STOPPED or absent. -/
theorem rbfail_ends_stopped (s : State) (m : Master) (w : Win) (v : Word) (hopen : s.busOpen m = true) (hmay : s.mayWriteCell m (w.val / 2) = true)
    (hguard : s.on CN_WCTL_FGUARD w.val = false) (hstop : s.cellStopped (w.val / 2) = true) :
    ∃ t, exec (.rbfailWrite m w false v) s = .next t ∧ t.on CN_WCTL_RBFAIL w.val = false ∧
      t.on CN_WSTAT_LATCH_LO w.val = s.on CN_WSTAT_LATCH_LO w.val := by
  obtain ⟨t, he, hfail, hlatch, -⟩ := rbfailWrite_spec s m w false v hopen hmay hguard
  have hheld : s.failHeld w.val = false := by simp [State.failHeld, hstop]
  rw [hheld] at hfail hlatch
  exact ⟨t, he, hfail, hlatch false⟩

/-- R151: RBFAIL written 0 otherwise stays, with both latches, and WRITE_DENIED is set. -/
theorem rbfail_stays_held (s : State) (m : Master) (w : Win) (v : Word) (hopen : s.busOpen m = true) (hmay : s.mayWriteCell m (w.val / 2) = true)
    (hguard : s.on CN_WCTL_FGUARD w.val = false) (hstop : s.cellStopped (w.val / 2) = false) (hfailed : s.on CN_WCTL_RBFAIL w.val = true) :
    ∃ t, exec (.rbfailWrite m w false v) s = .next t ∧ t.on CN_WCTL_RBFAIL w.val = true ∧ t.on CN_WSTAT_WRITE_DENIED w.val = true ∧
      (t.on CN_WSTAT_LATCH_LO w.val = true ∧ t.on CN_WSTAT_LATCH_HI w.val = true) := by
  obtain ⟨t, he, hfail, hlatch, hdenied⟩ := rbfailWrite_spec s m w false v hopen hmay hguard
  have hheld : s.failHeld w.val = true := by simp [State.failHeld, hstop, hfailed]
  rw [hheld] at hfail hlatch
  exact ⟨t, he, hfail, hdenied rfl hheld, hlatch false, hlatch true⟩

/-! ### The obligation -/

/-- Settles O31, clause by clause. -/
theorem canaryTripsAndThresholds : Obligations.CanaryTripsAndThresholds := by
  refine ⟨?_, ?_, canary_holds, ?_, ?_, settling_keeps_states, free_latch_clears, held_latch_denied, other_latch_stays,
    codes_stored, codes_refused, same_codes_stay, settling_ends, disabled_window_takes_word, enabled_window_keeps_mode, guarded_window_denied,
    rbfail_sets_latches, rbfail_ends_stopped, rbfail_stays_held⟩
  · rintro s w k nv n rfl hpins hruns hset hneed htime hen hoff hpin hsrc
    exact canary_crosses s w true nv n hpins hruns hset hneed htime hen hoff (pinBeyond_upper.2 hpin) hsrc
  · rintro s w k nv n rfl hpins hruns hset hneed htime hen hoff hpin hsrc
    exact canary_crosses s w false nv n hpins hruns hset hneed htime hen hoff (pinBeyond_lower.2 hpin) hsrc
  · rintro s w k nv n rfl hpins hruns hset - htime hon hpin hn
    exact state_ends s w true nv n hpins hruns hset htime hon (pinBack_upper.2 hpin) hn
  · rintro s w k nv n rfl hpins hruns hset - htime hon hpin hn
    exact state_ends s w false nv n hpins hruns hset htime hon (pinBack_lower.2 hpin) hn

end Sys2Proof.Machine
end
section
/-! SUPPORT. A write that R19 turns away (R17, R19): it leaves OWNER_DENIED in the block's BLKCTL and nothing else. -/

namespace Sys2Proof.Machine

/-- Every block has its BLKCTL. -/
theorem blkctl_has (b : Block) : RegId.BLK_BLKCTL.has b.val 0 = true := RegId.has_of_lt b.isLt rfl Nat.one_pos

/-- The PWM and Cage registers of a cell that R19 guards. -/
def cellRegs : List RegId := [.PW_CHCTL, .PW_DUTY, .PW_DT, .PW_CHSTAT, .PW_DRIVE, .PW_OVR, .PW_SAFE, .CG_PCTL, .CG_PSTAT]

/-- The registers of a block's carrier group and Cage sequence that R19 guards. -/
def groupRegs : List RegId := [.PW_GRPCTL, .PW_GRPPRD, .PW_GRPPHASE, .PW_GRPSTAT, .PW_GRPCOMMIT, .CG_BCTL, .CG_BSTAT]

/-- An address of the peripheral windows, outside SELF, that names copy `i` of a register which is there in every state. -/
def AddressOf (a : Word) (r : RegId) (i : Nat) : Prop :=
  inPeriph a.toNat = true ∧ inSelf a.toNat = false ∧ regAt a.toNat = some (r, i, 0) ∧ (r.reg.n1 == 96 && r.reg.base / 0x10000 == 0x4030) = false

/-- The address of a cell's register. -/
theorem addressOf_cellReg {r : RegId} (hr : r ∈ cellRegs) (c : Cell) : AddressOf (BitVec.ofNat 32 (r.addr c.val 0)) r c.val := by
  unfold AddressOf
  revert r c
  decide +kernel

/-- The address of a group's register. -/
theorem addressOf_groupReg {r : RegId} (hr : r ∈ groupRegs) (b : Block) : AddressOf (BitVec.ofNat 32 (r.addr b.val 0)) r b.val := by
  unfold AddressOf
  revert r b
  decide +kernel

/-- A write to a cell's register is its owner's. -/
theorem State.store_cellReg (s : State) (m : Master) {r : RegId} (v : Word) (i : Nat) (hr : r ∈ cellRegs) :
    ∃ f, s.store m r v i 0 = s.asCellOwner m i f := by
  simp only [cellRegs, List.mem_cons, List.not_mem_nil, or_false] at hr
  rcases hr with rfl | rfl | rfl | rfl | rfl | rfl | rfl | rfl | rfl <;> exact ⟨_, rfl⟩

/-- While a block is owned, another master may not write its registers. -/
theorem State.mayWriteBlock_other {s : State} {m : Master} {b : Nat} (howned : s.on BLK_BLKCTL_OWNED b = true) (hother : s.isOwner m b = false) :
    s.mayWriteBlock m b = false := by
  simp [State.mayWriteBlock, howned, hother]

/-- A write that R19 turns away sets OWNER_DENIED. -/
theorem State.asOwner_denied {s : State} {m : Master} {b : Nat} (f : State → State) (h : s.mayWriteBlock m b = false) :
    s.asOwner m b f = s.put BLK_BLKCTL_OWNER_DENIED 1 b :=
  if_neg (by rw [h]; exact Bool.false_ne_true)

/-- A write to a group's register that R19 turns away sets OWNER_DENIED. -/
theorem State.store_groupReg_denied {s : State} {m : Master} {r : RegId} {b : Nat} (v : Word) (hr : r ∈ groupRegs) (h : s.mayWriteBlock m b = false) :
    s.store m r v b 0 = s.put BLK_BLKCTL_OWNER_DENIED 1 b := by
  have hnot : ¬ s.mayWriteBlock m b = true := by rw [h]; exact Bool.false_ne_true
  simp only [groupRegs, List.mem_cons, List.not_mem_nil, or_false] at hr
  rcases hr with rfl | rfl | rfl | rfl | rfl | rfl | rfl <;> exact if_neg hnot

/-- A register write by address is the register's write, answered. -/
theorem exec_registerWrite {s : State} {m : Master} {a : Word} {r : RegId} {i : Nat} (v : Word) (hopen : s.busOpen m = true)
    (ha : AddressOf a r i) : exec (.registerWrite m a v) s = .next ((s.regStore m r v i).busAnswer 0) := by
  obtain ⟨hperiph, hself, hat, hthere⟩ := ha
  have hfor : s.regFor m a.toNat = some (r, i, 0) := by
    unfold State.regFor
    rw [if_neg (by rw [hself]; exact Bool.false_ne_true), hat]
    simp [State.regThere, hthere]
  show execRegisterWrite m a v s = _
  unfold execRegisterWrite State.writeAt
  rw [hopen, hperiph, hfor]
  dsimp only
  rw [hself]
  rfl

/-- A register write whose store R19 turns away answers, sets OWNER_DENIED, and changes no other register and nothing of the power stage. -/
theorem denied_write_changes_nothing {s : State} {m : Master} {a : Word} {r : RegId} {i : Nat} {b : Block} (v : Word)
    (hopen : s.busOpen m = true) (ha : AddressOf a r i)
    (hstore : ∀ d x, State.store { s with drift := d } m r x i 0 = State.put { s with drift := d } BLK_BLKCTL_OWNER_DENIED 1 b.val) :
    ∃ t, exec (.registerWrite m a v) s = .next t ∧
      t.bus = ⟨0, .ok⟩ ∧
      t.on BLK_BLKCTL_OWNER_DENIED b.val = true ∧
      t.blk b.val = s.blk b.val ∧
      t.get BLK_BLKCTL_OWNER b.val = s.get BLK_BLKCTL_OWNER b.val ∧
      t.power = s.power ∧
      (∀ q i j, q.has i j = true → (q ≠ .BLK_BLKCTL ∨ i ≠ b.val) → t.rdw q i j = s.rdw q i j) := by
  obtain ⟨d, hd⟩ := State.regStore_eq s m r v i 0 hopen
  rw [hstore] at hd
  refine ⟨_, exec_registerWrite v hopen ha, rfl, ?_⟩
  rw [hd]
  have hkept : ∀ f : Fld, f.reg = .BLK_BLKCTL → f.lo + f.width ≤ 17 →
      (State.put { s with drift := d } BLK_BLKCTL_OWNER_DENIED 1 b.val).get f b.val = s.get f b.val := fun f hf hlo =>
    State.get_put_apart _ _ _ _ _ _ (hf ▸ blkctl_has b) (.inl hlo)
  refine ⟨State.on_put _ BLK_BLKCTL_OWNER_DENIED 1 b.val 0 (blkctl_has b) (by decide), hkept _ rfl (by decide), hkept _ rfl (by decide), rfl,
    fun q i j hq hne => ?_⟩
  exact State.rdw_put_ne _ BLK_BLKCTL_OWNER_DENIED q 1 b.val 0 i j hq (hne.elim .inl (fun h => .inr (.inl h)))

/-- Settles O59: of a cell's registers and of a group's, the write is the owner's, and another master's is turned away. -/
theorem onlyOwnersWritePowerStage : Obligations.OnlyOwnersWritePowerStage := by
  constructor
  · intro s m r c b v hopen hr hbound howned hother
    refine denied_write_changes_nothing v hopen (addressOf_cellReg hr c) (fun d x => ?_)
    obtain ⟨f, hf⟩ := State.store_cellReg { s with drift := d } m x c.val hr
    have hcell : State.asCellOwner { s with drift := d } m c.val f = State.asOwner { s with drift := d } m b.val f := by
      unfold State.asCellOwner
      rw [show State.blockOf { s with drift := d } c.val = some b.val from hbound]
    rw [hf, hcell]
    exact State.asOwner_denied f (State.mayWriteBlock_other howned hother)
  · intro s m r b v hopen hr howned hother
    exact denied_write_changes_nothing v hopen (addressOf_groupReg hr b) (fun d x =>
      State.store_groupReg_denied (s := { s with drift := d }) x hr (State.mayWriteBlock_other howned hother))

end Sys2Proof.Machine
end
section
/-! SUPPORT. The power stage's units (R155 to R173): what a change of a group, a block or a channel does to each unit, and what the output gates leave of
them. The gates and the interlock move a channel's outputs alone. -/

namespace Sys2Proof.Machine

/-! ### Changes of one unit -/

/-- A change of a group changes the power stage's state alone. -/
theorem State.updGrp_eq (s : State) (g : Nat) (f : GroupU → GroupU) : ∃ p, s.updGrp g f = { s with power := p } := by
  unfold State.updGrp
  split
  · exact ⟨_, rfl⟩
  · exact ⟨s.power, rfl⟩

/-- So does a change of a block. -/
theorem State.updBlk_eq (s : State) (b : Nat) (f : BlockU → BlockU) : ∃ p, s.updBlk b f = { s with power := p } := by
  unfold State.updBlk
  split
  · exact ⟨_, rfl⟩
  · exact ⟨s.power, rfl⟩

/-- So does a change of a channel. -/
theorem State.updChan_eq (s : State) (c : Nat) (f : ChanU → ChanU) : ∃ p, s.updChan c f = { s with power := p } := by
  unfold State.updChan
  split
  · exact ⟨_, rfl⟩
  · exact ⟨s.power, rfl⟩

/-- A group after a change of one. -/
theorem State.grp_updGrp (s : State) (g k : Nat) (f : GroupU → GroupU) :
    (s.updGrp g f).grp k = if k = g ∧ g < 8 then f (s.grp k) else s.grp k := by
  unfold State.updGrp
  split
  · next hg =>
    by_cases hk : k = g
    · subst hk
      simp [State.grp, upd, hg]
    · simp [State.grp, upd, hk, Vector.toList_set, Ne.symm hk]
  · next hg => simp [hg]

/-- A block after a change of one. -/
theorem State.blkU_updBlk (s : State) (b k : Nat) (f : BlockU → BlockU) :
    (s.updBlk b f).blkU k = if k = b ∧ b < 8 then f (s.blkU k) else s.blkU k := by
  unfold State.updBlk
  split
  · next hb =>
    by_cases hk : k = b
    · subst hk
      simp [State.blkU, upd, hb]
    · simp [State.blkU, upd, hk, Vector.toList_set, Ne.symm hk]
  · next hb => simp [hb]

/-- A channel after a change of one. -/
theorem State.chan_updChan (s : State) (c k : Nat) (f : ChanU → ChanU) :
    (s.updChan c f).chan k = if k = c ∧ c < 48 then f (s.chan k) else s.chan k := by
  unfold State.updChan
  split
  · next hc =>
    by_cases hk : k = c
    · subst hk
      simp [State.chan, upd, hc]
    · simp [State.chan, upd, hk, Vector.toList_set, Ne.symm hk]
  · next hc => simp [hc]

/-- A group's change is of no block. -/
@[simp] theorem State.blkU_updGrp (s : State) (g b : Nat) (f : GroupU → GroupU) : (s.updGrp g f).blkU b = s.blkU b := by
  unfold State.updGrp
  split <;> rfl

/-- A group's change is of no channel. -/
@[simp] theorem State.chan_updGrp (s : State) (g c : Nat) (f : GroupU → GroupU) : (s.updGrp g f).chan c = s.chan c := by
  unfold State.updGrp
  split <;> rfl

/-- A block's change is of no group. -/
@[simp] theorem State.grp_updBlk (s : State) (b g : Nat) (f : BlockU → BlockU) : (s.updBlk b f).grp g = s.grp g := by
  unfold State.updBlk
  split <;> rfl

/-- A block's change is of no channel. -/
@[simp] theorem State.chan_updBlk (s : State) (b c : Nat) (f : BlockU → BlockU) : (s.updBlk b f).chan c = s.chan c := by
  unfold State.updBlk
  split <;> rfl

/-- A channel's change is of no group. -/
@[simp] theorem State.grp_updChan (s : State) (c g : Nat) (f : ChanU → ChanU) : (s.updChan c f).grp g = s.grp g := by
  unfold State.updChan
  split <;> rfl

/-- A channel's change is of no block. -/
@[simp] theorem State.blkU_updChan (s : State) (c b : Nat) (f : ChanU → ChanU) : (s.updChan c f).blkU b = s.blkU b := by
  unfold State.updChan
  split <;> rfl

/-! ### What the gates leave -/

/-- A channel's unit with its outputs left aside. -/
def ChanU.core (u : ChanU) : ChanU := { u with hi := OutU.reset, lo := OutU.reset }

/-- The groups, the blocks, and the channels with their outputs left aside: what neither gate nor interlock moves. -/
def State.stage (s : State) : (Nat → GroupU) × (Nat → BlockU) × (Nat → ChanU) := (s.grp, s.blkU, fun c => (s.chan c).core)

/-- A change that does not name the power stage leaves it. -/
theorem Evolves.stage {A : List Part} {s t : State} (h : Evolves A s t) (hp : Part.power ∉ A) : t.stage = s.stage := by
  have hpower : t.power = s.power := h.kept .power hp
  unfold State.stage State.grp State.blkU State.chan
  rw [hpower]

theorem State.grp_of_stage {s t : State} (h : t.stage = s.stage) (g : Nat) : t.grp g = s.grp g := congrArg (fun p => p.1 g) h

theorem State.blkU_of_stage {s t : State} (h : t.stage = s.stage) (b : Nat) : t.blkU b = s.blkU b := congrArg (fun p => p.2.1 b) h

theorem State.core_of_stage {s t : State} (h : t.stage = s.stage) (c : Nat) : (t.chan c).core = (s.chan c).core := congrArg (fun p => p.2.2 c) h

@[simp] theorem State.put_stage (s : State) (f : Fld) (v i j : Nat) : (s.put f v i j).stage = s.stage := rfl

@[simp] theorem State.arm_stage (s : State) (t : Timer) (d : Nat) : (s.arm t d).stage = s.stage := rfl

@[simp] theorem State.disarm_stage (s : State) (t : Timer) : (s.disarm t).stage = s.stage := rfl

/-- An output's change leaves the rest of its channel. -/
@[simp] theorem State.updOut_stage (s : State) (c : Nat) (hi : Bool) (f : OutU → OutU) : (s.updOut c hi f).stage = s.stage := by
  have hcore : ∀ k, ((s.updOut c hi f).chan k).core = (s.chan k).core := fun k => by
    unfold State.updOut
    rw [State.chan_updChan]
    cases hi <;> split <;> rfl
  have hgrp : (s.updOut c hi f).grp = s.grp := funext (fun g => State.grp_updChan s c g _)
  have hblk : (s.updOut c hi f).blkU = s.blkU := funext (fun b => State.blkU_updChan s c b _)
  unfold State.stage
  rw [hgrp, hblk, funext hcore]

@[simp] theorem State.unwait_stage (s : State) (c : Nat) (hi : Bool) : (s.unwait c hi).stage = s.stage := State.updOut_stage s c hi _

@[simp] theorem State.setPin_stage (s : State) (c : Nat) (hi v : Bool) : (s.setPin c hi v).stage = s.stage := by
  have hedge : (s.pinEdge c hi v).stage = s.stage := State.updOut_stage s c hi _
  unfold State.setPin
  dsimp only
  split
  · rfl
  · repeat' split
    all_goals simp [hedge]

@[simp] theorem State.regate_stage (s : State) (c : Nat) : (s.regate c).stage = s.stage := by
  unfold State.regate
  split
  · simp
  · split
    · simp
    · rfl

@[simp] theorem State.regateBlock_stage (s : State) (b : Nat) : (s.regateBlock b).stage = s.stage :=
  State.each_keeps State.stage _ _ State.regate_stage s

@[simp] theorem State.regateWindow_stage (s : State) (w : Nat) : (s.regateWindow w).stage = s.stage := by
  unfold State.regateWindow
  split <;> simp

/-! ### What the interlock leaves -/

@[simp] theorem State.tryOn_stage (s : State) (c : Nat) (hi : Bool) (t : Nat) : (s.tryOn c hi t).stage = s.stage := by
  unfold State.tryOn
  dsimp only
  split
  · rfl
  · split
    · rfl
    · split
      · simp
      · rfl

@[simp] theorem State.cmdOff_stage (s : State) (c : Nat) (hi : Bool) (t : Nat) : (s.cmdOff c hi t).stage = s.stage := by
  unfold State.cmdOff
  dsimp only
  repeat' split
  all_goals simp

@[simp] theorem State.cmdOn_stage (s : State) (c : Nat) (hi : Bool) (t : Nat) : (s.cmdOn c hi t).stage = s.stage := by
  unfold State.cmdOn
  dsimp only
  repeat' split
  all_goals simp

@[simp] theorem State.emit_stage (s : State) (c t : Nat) : (s.emit c t).stage = s.stage := by
  unfold State.emit
  dsimp only
  repeat' split
  all_goals simp

end Sys2Proof.Machine
end
section
/-! SUPPORT. A write to a block's BLKCTL (R18, R21, R22): the word as it acts, the fields that it stores, and what they leave to the request. -/

namespace Sys2Proof.Machine

/-! ### What a master's write leaves of the pairs -/

/-- Noting what a pair releases (R282) counts its egress, and changes nothing else of the pairs. -/
theorem State.noteWrite_pairs (s : State) (m : Master) (a : Nat) (b : List Byte) :
    ∃ d, s.noteWrite m a b = { s with drift := d } ∧
      ∀ k, ∃ e c, State.pairU { s with drift := d } k = { s.pairU k with egress := e, egressCrc := c } := by
  unfold State.noteWrite
  split
  · split
    · next n _ =>
      obtain ⟨d, hd⟩ := State.updPair_eq s n.val (fun p =>
        { p with egress := p.egress + 1, egressCrc := ~~~(crc32From (~~~p.egressCrc) (leBytes 4 a ++ b)) })
      refine ⟨d, hd, fun k => ?_⟩
      rw [← hd, State.pairU_updPair]
      split
      · exact ⟨_, _, rfl⟩
      · exact ⟨_, _, rfl⟩
    · exact ⟨s.drift, rfl, fun k => ⟨_, _, rfl⟩⟩
  · exact ⟨s.drift, rfl, fun k => ⟨_, _, rfl⟩⟩

/-- A write by a master whose ports are open: the register's store, after the egress has been counted. -/
theorem State.regStore_pairs (s : State) (m : Master) (r : RegId) (v : Word) (i j : Nat) (h : s.busOpen m = true) :
    ∃ d, s.regStore m r v i j = State.store { s with drift := d } m r (s.settle r v i j) i j ∧ Evolves [.drift] s { s with drift := d } ∧
      ∀ k, ∃ e c, State.pairU { s with drift := d } k = { s.pairU k with egress := e, egressCrc := c } := by
  obtain ⟨d, hd, hpairs⟩ := State.noteWrite_pairs s m (r.addr i j) (leBytes 4 v.toNat)
  have hdrift := State.noteWrite_evolves (.refl _ s) m (r.addr i j) (leBytes 4 v.toNat) (covers_self _)
  rw [hd] at hdrift
  exact ⟨d, by rw [State.regStore, if_pos h, hd], hdrift, hpairs⟩

/-- A bit that is no W1C bit acts as it is written (R3). -/
theorem State.settle_bit (s : State) (r : RegId) (v : Word) (i j : Nat) {k : Nat} (hk : k < 32) (hwc : r.reg.w1c.testBit k = false) :
    (s.settle r v i j).getLsbD k = v.getLsbD k := by
  unfold State.settle
  simp only [BitVec.getLsbD_and, BitVec.getLsbD_not, BitVec.getLsbD_ofNat, hk, hwc, decide_true, Bool.and_false, Bool.not_false, Bool.and_true]

/-- A field without W1C bits acts as it is written. -/
theorem State.settle_field (s : State) (f : Fld) (v : Word) (i j : Nat) (hw : f.lo + f.width ≤ 32)
    (hwc : ∀ k < f.width, f.reg.reg.w1c.testBit (f.lo + k) = false) : f.of (s.settle f.reg v i j) = f.of v :=
  Fld.of_congr (fun k hk => State.settle_bit s f.reg v i j (by omega) (hwc k hk))

/-- A bit outside a field is as it was in the word. -/
theorem Fld.into_bit_out (f : Fld) (w : Word) (v : Nat) {k : Nat} (h : k < f.lo ∨ f.lo + f.width ≤ k) : (f.into w v).getLsbD k = w.getLsbD k := by
  unfold Fld.into
  rw [setBits_bit, if_neg (by omega)]

/-! ### The fields of the write (R18, R22) -/

/-- What a write to BLKCTL does before its request. -/
def State.blkFields (s : State) (m : Master) (b : Nat) (v : Word) : State :=
  s.condWrite .BLK_BLKCTL v (s.blkKeeps m b v) false (fun s => s.put BLK_BLKCTL_OWNER_DENIED 1 b) b

/-- A write to BLKCTL that R19 admits: the fields, then the request. -/
theorem State.blkctlWrite_admitted {s : State} {m : Master} {b : Nat} (v : Word) (h : s.mayWriteBlock m b = true) :
    s.blkctlWrite m b v = (s.blkFields m b v).blkRequest m b (BLK_BLKCTL_REQ.of v) := if_pos h

/-- The fields are of BLKCTL alone. -/
theorem State.blkFields_evolves (s : State) (m : Master) (b : Nat) (v : Word) : Evolves [.fresh, .reg .BLK_BLKCTL] s (s.blkFields m b v) :=
  State.condWrite_evolves (.refl _ s) _ v _ false _ b 0 (fun _ hx => State.put_evolves hx BLK_BLKCTL_OWNER_DENIED 1 b 0 (by decide +kernel))
    (by decide +kernel)

/-- A field of BLKCTL after the fields of a write. -/
theorem State.blkFields_get (s : State) (m : Master) (b : Block) (v : Word) (f : Fld) (hf : f.reg = .BLK_BLKCTL)
    (hapart : BLK_BLKCTL_OWNER_DENIED.Apart f) :
    (s.blkFields m b.val v).get f b.val =
      f.of (RegId.BLK_BLKCTL.written (s.rdw .BLK_BLKCTL b.val) (keeping (s.rdw .BLK_BLKCTL b.val) v (s.blkKeeps m b.val v))) := by
  have hword : ∀ w, (s.regWrite .BLK_BLKCTL w b.val).get f b.val = f.of (RegId.BLK_BLKCTL.written (s.rdw .BLK_BLKCTL b.val) w) := fun w => by
    unfold State.get
    rw [hf]
    exact congrArg f.of (State.rdw_wrw _ _ _ _ _ (blkctl_has b))
  unfold State.blkFields State.condWrite
  dsimp only
  rw [if_neg Bool.false_ne_true]
  split
  · rw [State.get_put_of_apart _ _ _ _ (hf ▸ blkctl_has b) hapart, hword]
  · exact hword _

/-- A field of BLKCTL without W1C bits stays, where each of its bits is read-only, kept, or written as it stands. -/
theorem State.blkFields_stays (s : State) (m : Master) (b : Block) (v : Word) (f : Fld) (hf : f.reg = .BLK_BLKCTL) (hw : f.lo + f.width ≤ 32)
    (hapart : BLK_BLKCTL_OWNER_DENIED.Apart f) (hwc : ∀ k < f.width, RegId.BLK_BLKCTL.reg.w1c.testBit (f.lo + k) = false)
    (hkept : ∀ k < f.width, RegId.BLK_BLKCTL.reg.rw.testBit (f.lo + k) = false ∨ (s.blkKeeps m b.val v).getLsbD (f.lo + k) = true ∨
      v.getLsbD (f.lo + k) = (s.rdw .BLK_BLKCTL b.val).getLsbD (f.lo + k)) :
    (s.blkFields m b.val v).get f b.val = s.get f b.val := by
  rw [State.blkFields_get s m b v f hf hapart]
  refine (Fld.of_congr (fun k hk => ?_)).trans (by rw [State.get, hf] : f.of (s.rdw .BLK_BLKCTL b.val) = s.get f b.val)
  rw [RegId.written_bit _ _ _ (by omega), hwc k hk, keeping_bit _ _ _ (by omega)]
  rcases hkept k hk with h | h | h
  · simp [h]
  · simp [h]
  · simp [h]

/-- STATE is no field that a master writes. -/
theorem State.blkFields_blk (s : State) (m : Master) (b : Block) (v : Word) : (s.blkFields m b.val v).blk b.val = s.blk b.val :=
  State.blkFields_stays s m b v BLK_BLKCTL_STATE rfl (by decide) (by decide) (by decide) (fun k hk => .inl (by revert k; decide))

/-- A field that a write may change takes what is written. -/
theorem State.blkFields_takes (s : State) (m : Master) (b : Block) (v : Word) (f : Fld) (hf : f.reg = .BLK_BLKCTL) (hw : f.lo + f.width ≤ 32)
    (hapart : BLK_BLKCTL_OWNER_DENIED.Apart f)
    (hrw : ∀ k < f.width, f.reg.reg.rw.testBit (f.lo + k) = true ∧ f.reg.reg.w1c.testBit (f.lo + k) = false) (hfree : s.blkKeeps m b.val v = 0) :
    (s.blkFields m b.val v).get f b.val = f.of v := by
  rw [State.blkFields_get s m b v f hf hapart, ← hf, Fld.of_written f _ _ hw hrw, hfree]
  exact Fld.of_keeping_free f _ v 0 hw (fun k _ => BitVec.getLsbD_zero)

/-- Of a block that is not STOPPED every RWL field is kept. -/
theorem State.blkKeeps_of_not_stopped {s : State} {m : Master} {b : Nat} (v : Word) (h : s.blk b ≠ blkStopped) :
    s.blkKeeps m b v = BitVec.ofNat 32 RegId.BLK_BLKCTL.reg.rw := by
  unfold State.blkKeeps
  dsimp only
  rw [if_pos (by simp [h])]

end Sys2Proof.Machine
end
section
/-! SUPPORT. A block's state (R21): what a request for one finds after the fields of its write, and what a block that takes a state becomes. -/

namespace Sys2Proof.Machine

/-! ### A block takes a state -/

/-- What follows STATE and the end of a pending exit: requests dropped, ramps aborted, gates and Pick. -/
theorem State.enterBlk_after (s : State) (b st : Nat) :
    Evolves ([Part.pick, .reg .RG_RSTAT] ++ raiseParts ++ coastParts ++ gateParts)
      ((s.put BLK_BLKCTL_STATE st b).updBlk b (fun u => { u with exit := none })) (s.enterBlk b st) := by
  unfold State.enterBlk
  dsimp only
  generalize State.updBlk _ b _ = s1
  have hstop : Evolves ([Part.pick, .reg .RG_RSTAT] ++ raiseParts ++ coastParts ++ gateParts) s1
      (if st = blkStopped then (s1.dropRequests b).abortRamps b else s1) :=
    ite_evolves (State.abortRamps_evolves (State.dropRequests_evolves (.refl _ s1) b (by decide +kernel)) b (by decide +kernel)) (.refl _ s1)
  exact State.coastPick_evolves (State.regateBlock_evolves hstop b (by decide +kernel)) (by decide +kernel)

/-- A block takes the state that it enters. -/
theorem State.enterBlk_blk (s : State) (b : Block) (st : Fin 4) : (s.enterBlk b.val st.val).blk b.val = st.val := by
  obtain ⟨p, hp⟩ := State.updBlk_eq (s.put BLK_BLKCTL_STATE st.val b.val) b.val (fun u => { u with exit := none })
  have hafter := State.enterBlk_after s b.val st.val
  rw [hp] at hafter
  have hstored : (s.put BLK_BLKCTL_STATE st.val b.val).get BLK_BLKCTL_STATE b.val = st.val % 2 ^ 2 :=
    State.get_put s BLK_BLKCTL_STATE st.val b.val 0 (blkctl_has b) (by decide)
  exact ((hafter.get (f := BLK_BLKCTL_STATE) (blkctl_has b) (by decide)).trans hstored).trans (Nat.mod_eq_of_lt st.isLt)

/-- Of the power stage, the entry ends the block's pending exit and moves outputs alone. -/
theorem State.enterBlk_stage (s : State) (b st : Nat) : (s.enterBlk b st).stage = (s.updBlk b (fun u => { u with exit := none })).stage := by
  have hdrop : ∀ t : State, ((t.dropRequests b).abortRamps b).stage = t.stage := fun t =>
    ((State.abortRamps_evolves (.refl _ _) b (covers_self _)).stage (by decide)).trans
      ((State.dropRequests_evolves (.refl _ t) b (covers_self _)).stage (by decide))
  have hput : ((s.put BLK_BLKCTL_STATE st b).updBlk b (fun u => { u with exit := none })).stage = (s.updBlk b (fun u => { u with exit := none })).stage := by
    unfold State.updBlk
    split <;> rfl
  unfold State.enterBlk
  dsimp only
  rw [(State.coastPick_evolves (.refl _ _) (covers_self _)).stage (by decide), State.regateBlock_stage]
  split
  · rw [hdrop, hput]
  · exact hput

/-- The exit that was pending has ended. -/
theorem State.enterBlk_exit (s : State) (b : Block) (st : Nat) : ((s.enterBlk b.val st).blkU b.val).exit = none := by
  rw [State.blkU_of_stage (State.enterBlk_stage s b.val st), State.blkU_updBlk, if_pos ⟨rfl, b.isLt⟩]

/-! ### What a request finds (R21) -/

/-- `u` is a state that the fields of a write to block `b`'s BLKCTL can leave of `s`: BLKCTL's STATE as it was, and all but BLKCTL and what the master has
released. -/
structure State.AtRequest (s u : State) (b : Nat) : Prop where
  blk : u.blk b = s.blk b
  others : Evolves [.fresh, .drift, .reg .BLK_BLKCTL] s u
  mates : ∀ k, (u.pairU k).mate = (s.pairU k).mate

theorem State.AtRequest.blkU {s u : State} {b : Nat} (h : s.AtRequest u b) : u.blkU b = s.blkU b :=
  State.blkU_of_stage (h.others.stage (by decide)) b

theorem State.AtRequest.now {s u : State} {b : Nat} (h : s.AtRequest u b) : u.now = s.now := h.others.kept .now (by decide)

theorem State.AtRequest.timers {s u : State} {b : Nat} (h : s.AtRequest u b) : u.timers = s.timers := h.others.kept .timers (by decide)

/-- Every pair has its PSTATE. -/
theorem pstate_has {n : Nat} (h : n < 16) : RegId.DR_PSTATE.has n 0 = true := RegId.has_of_lt h rfl Nat.one_pos

/-- The pair that OWNER names is one of the sixteen. -/
theorem State.owner_lt (s : State) (b : Nat) : s.get BLK_BLKCTL_OWNER b < 16 := Nat.mod_lt _ (by decide)

/-- Whether a master is a pair in lock-step rests on PSTATE. -/
theorem Evolves.lockstep {A : List Part} {s t : State} (h : Evolves A s t) (hp : Part.reg .DR_PSTATE ∉ A) (m : Master) : t.lockstep m = s.lockstep m := by
  cases m
  case pair n => exact congrArg (fun k => !(k == pairSplit)) (h.get (f := DR_PSTATE_STATE) (pstate_has n.isLt) hp)
  all_goals rfl

section Bindings
variable {A : List Part} {s t : State} (h : Evolves A s t) (h0 : Part.reg .BLK_BLKCELLS0 ∉ A) (h1 : Part.reg .BLK_BLKCELLS1 ∉ A)
include h h0 h1

/-- Which cells are bound to a block rests on BLKCELLS. -/
theorem Evolves.bound {b : Nat} (hb : b < 8) (c : Nat) : t.bound b c = s.bound b c := by
  have hlow : RegId.BLK_BLKCELLS0.has b 0 = true := RegId.has_of_lt hb rfl Nat.one_pos
  have hhigh : RegId.BLK_BLKCELLS1.has b 0 = true := RegId.has_of_lt hb rfl Nat.one_pos
  unfold State.bound
  rw [h.rdw hlow h0, h.rdw hhigh h1]

/-- So do the cells of a block. -/
theorem Evolves.cellsOf (b : Block) : t.cellsOf b.val = s.cellsOf b.val := by
  unfold State.cellsOf
  rw [funext (h.bound h0 h1 b.isLt)]

/-- So does the block of a cell. -/
theorem Evolves.blockOf (c : Nat) : t.blockOf c = s.blockOf c :=
  List.find?_congr (fun _ hb => h.bound h0 h1 (List.mem_range.1 hb) c)

end Bindings

section Owner
variable {s u : State} {b : Block} (h : s.AtRequest u b.val) (howned : u.on BLK_BLKCTL_OWNED b.val = s.on BLK_BLKCTL_OWNED b.val)
include h howned

/-- An owner is still the owner. -/
theorem State.AtRequest.isOwner (hid : u.get BLK_BLKCTL_OWNER b.val = s.get BLK_BLKCTL_OWNER b.val) (m : Master) :
    u.isOwner m b.val = s.isOwner m b.val := by
  have hlock := h.others.lockstep (by decide) m
  cases m
  case pair n =>
    unfold State.isOwner
    dsimp only
    rw [howned, hid, hlock]
  all_goals rfl

/-- The conditions of ARMED are as they were. -/
theorem State.AtRequest.mayArm : u.mayArm b.val = s.mayArm b.val := by
  have hcage := h.others.on (f := CG_BSTAT_TURNOFF) (i := b.val) (j := 0) (RegId.has_of_lt b.isLt rfl Nat.one_pos) (by decide)
  have hbank := h.others.on (f := BK_BKSTAT_RESTRICTED) (i := 0) (j := 0) (by decide) (by decide)
  have hadit := h.others.on (f := BK_ADITSTAT_OPEN) (i := 0) (j := 0) (by decide) (by decide)
  unfold State.mayArm
  rw [howned, h.others.cellsOf (by decide) (by decide), hcage, hbank, hadit]

/-- The demand of SF2 on the block is as it was. -/
theorem State.AtRequest.sf2Demand (hid : u.get BLK_BLKCTL_OWNER b.val = s.get BLK_BLKCTL_OWNER b.val) : u.sf2Demand b.val = s.sf2Demand b.val := by
  have hstat := h.others.get (f := FM_FSTAT_SF2INH) (i := 0) (j := 0) (by decide) (by decide)
  have hen := h.others.get (f := FM_FSAFEN_PR) (i := 0) (j := 0) (by decide) (by decide)
  have hpst := h.others.get (f := DR_PSTATE_STATE) (j := 0) (pstate_has (s.owner_lt b.val)) (by decide)
  unfold State.sf2Demand State.ownerLost State.armed State.deadline
  rw [hstat, hen, howned, hid, hpst, h.mates, h.timers]

end Owner

/-- Whether a cell holds programs rests on PCTL and the option image. -/
theorem State.AtRequest.cellLoaded {s u : State} {b c : Nat} (h : s.AtRequest u b) (hc : c < 48) : u.cellLoaded c = s.cellLoaded c := by
  have hpctl : ∀ e < 96, u.on PK_PCTL_LOADED e = s.on PK_PCTL_LOADED e := fun e he =>
    h.others.on (f := PK_PCTL_LOADED) (RegId.has_of_lt he rfl Nat.one_pos) (by decide)
  have hopt : u.rdw .RS_OPTIMG ((4 + c / 8) / 4) = s.rdw .RS_OPTIMG ((4 + c / 8) / 4) :=
    h.others.rdw (RegId.has_of_lt (show (4 + c / 8) / 4 < RegId.RS_OPTIMG.reg.n1 by simp only [RegId.reg]; omega) rfl Nat.one_pos) (by decide)
  unfold State.cellLoaded State.pickSplit State.optByte
  rw [hpctl _ (by omega), hpctl _ (by omega), hopt]

/-- The conditions of RUNNING are as they were. -/
theorem State.AtRequest.mayRun {s u : State} {b : Block} (h : s.AtRequest u b.val) (howned : u.on BLK_BLKCTL_OWNED b.val = s.on BLK_BLKCTL_OWNED b.val)
    (hid : u.get BLK_BLKCTL_OWNER b.val = s.get BLK_BLKCTL_OWNER b.val) : u.mayRun b.val = s.mayRun b.val := by
  have hcells : (s.cellsOf b.val).all u.cellLoaded = (s.cellsOf b.val).all s.cellLoaded := by
    refine Bool.eq_iff_iff.2 ?_
    simp only [List.all_eq_true]
    refine forall₂_congr (fun c hc => ?_)
    rw [h.cellLoaded (List.mem_range.1 (List.mem_of_mem_filter hc))]
  have hbank := h.others.on (f := BK_BKSTAT_RESTRICTED) (i := 0) (j := 0) (by decide) (by decide)
  unfold State.mayRun
  rw [h.sf2Demand howned hid, h.others.cellsOf (by decide) (by decide), hcells, hbank]

end Sys2Proof.Machine
end
section
/-! SUPPORT. Requests for a block's state (R21): the write that carries one, and what each answers. -/

namespace Sys2Proof.Machine

/-! ### The write of a request -/

/-- A request's word as it acts (R3). -/
def State.requestWord (s : State) (b : Nat) (v : Word) (r : Nat) : Word := s.settle .BLK_BLKCTL (BLK_BLKCTL_REQ.into v r) b

/-- The bits of BLKCTL that are neither REQ's nor W1C bits act as they are written. -/
theorem State.requestWord_bit (s : State) (b : Nat) (v : Word) (r : Nat) {k : Nat} (hk : 6 ≤ k) (hk' : k < 32)
    (hwc : RegId.BLK_BLKCTL.reg.w1c.testBit k = false) : (s.requestWord b v r).getLsbD k = v.getLsbD k := by
  unfold State.requestWord
  rw [State.settle_bit s .BLK_BLKCTL _ _ _ hk' hwc, Fld.into_bit_out BLK_BLKCTL_REQ _ _ (.inr hk)]

/-- The request of the word is the one asked for. -/
theorem State.requestWord_req (s : State) (b : Nat) (v : Word) (r : Fin 4) : BLK_BLKCTL_REQ.of (s.requestWord b v r.val) = r.val := by
  have hset : BLK_BLKCTL_REQ.of (s.requestWord b v r.val) = BLK_BLKCTL_REQ.of (BLK_BLKCTL_REQ.into v r.val) :=
    State.settle_field s BLK_BLKCTL_REQ _ b 0 (by decide) (by decide)
  exact (hset.trans (bits_setBits _ _ _ _ (by decide))).trans (Nat.mod_eq_of_lt r.isLt)

/-- The fields of a write leave what its request needs. -/
theorem State.atRequest_fields {s : State} {d : DriftU} (m : Master) (b : Block) (w : Word) (hdrift : Evolves [.drift] s { s with drift := d })
    (hpairs : ∀ k, ∃ e c, State.pairU { s with drift := d } k = { s.pairU k with egress := e, egressCrc := c }) :
    s.AtRequest (State.blkFields { s with drift := d } m b.val w) b.val := by
  have hfields := State.blkFields_evolves { s with drift := d } m b.val w
  refine ⟨State.blkFields_blk { s with drift := d } m b w, (hdrift.mono (by decide +kernel)).step hfields (by decide +kernel), fun k => ?_⟩
  have hunits : (State.blkFields { s with drift := d } m b.val w).drift = d := hfields.kept .drift (by decide)
  obtain ⟨e, c, hk⟩ := hpairs k
  calc ((State.blkFields { s with drift := d } m b.val w).pairU k).mate
      = (State.pairU { s with drift := d } k).mate := by unfold State.pairU; rw [hunits]
    _ = (s.pairU k).mate := by rw [hk]

/-- Whether a pair may own no block rests on PSTATE and on where its test leads. -/
theorem State.unfitOwner_drift {s : State} {d : DriftU}
    (hpairs : ∀ k, ∃ e c, State.pairU { s with drift := d } k = { s.pairU k with egress := e, egressCrc := c }) (n : Nat) :
    State.unfitOwner { s with drift := d } n = s.unfitOwner n := by
  obtain ⟨e, c, hn⟩ := hpairs n
  have hafter : (State.pairU { s with drift := d } n).afterTest = (s.pairU n).afterTest := by rw [hn]
  unfold State.unfitOwner
  rw [hafter]
  rfl

/-- An admitted request: its fields, then what it asks for. -/
theorem State.regStore_request (s : State) (m : Master) (b : Block) (v : Word) (r : Fin 4) (hopen : s.busOpen m = true)
    (hmay : s.mayWriteBlock m b.val = true) :
    ∃ d, s.regStore m .BLK_BLKCTL (BLK_BLKCTL_REQ.into v r.val) b.val =
        (State.blkFields { s with drift := d } m b.val (s.requestWord b.val v r.val)).blkRequest m b.val r.val ∧
      s.AtRequest (State.blkFields { s with drift := d } m b.val (s.requestWord b.val v r.val)) b.val ∧
      ∀ n, State.unfitOwner { s with drift := d } n = s.unfitOwner n := by
  obtain ⟨d, hd, hdrift, hpairs⟩ := State.regStore_pairs s m .BLK_BLKCTL (BLK_BLKCTL_REQ.into v r.val) b.val 0 hopen
  refine ⟨d, hd.trans ?_, State.atRequest_fields m b _ hdrift hpairs, State.unfitOwner_drift hpairs⟩
  have hstore := State.blkctlWrite_admitted (s := { s with drift := d }) (m := m) (b := b.val) (s.requestWord b.val v r.val) hmay
  rw [State.requestWord_req s b.val v r] at hstore
  exact hstore

/-- The bits of an ownership field are bits 8 to 12, which no request touches. -/
theorem State.requestWord_ownership (s : State) (b : Nat) (v : Word) (r : Nat) {k : Nat} (hlo : 8 ≤ k) (hhi : k < 13) :
    (s.requestWord b v r).getLsbD k = v.getLsbD k :=
  State.requestWord_bit s b v r (by omega) (by omega) (by interval_cases k <;> decide)

/-- Words that agree on the ownership fields agree on each of their bits. -/
theorem ownerMask_bit {a v : Word} (h : a &&& ownerMask = v &&& ownerMask) {k : Nat} (hlo : 8 ≤ k) (hhi : k < 13) : a.getLsbD k = v.getLsbD k := by
  have hmask : ownerMask.getLsbD k = true := by interval_cases k <;> decide
  have hbit := congrArg (fun w : Word => w.getLsbD k) h
  simpa only [BitVec.getLsbD_and, hmask, Bool.and_true] using hbit

/-- An ownership field stays where the block is not STOPPED, or where the write has it as it stands. -/
theorem State.blkFields_ownership (s : State) (m : Master) (b : Block) (v : Word) (r : Nat) (f : Fld) (hf : f.reg = .BLK_BLKCTL)
    (hlo : 8 ≤ f.lo) (hhi : f.lo + f.width ≤ 13)
    (h : s.blk b.val ≠ blkStopped ∨ s.rdw .BLK_BLKCTL b.val &&& ownerMask = v &&& ownerMask) :
    (s.blkFields m b.val (s.requestWord b.val v r)).get f b.val = s.get f b.val := by
  have hrw : ∀ k, 8 ≤ k → k < 13 → (BitVec.ofNat 32 RegId.BLK_BLKCTL.reg.rw).getLsbD k = true := fun k h1 h2 => by interval_cases k <;> decide
  have hwc : ∀ k, 8 ≤ k → k < 13 → RegId.BLK_BLKCTL.reg.w1c.testBit k = false := fun k h1 h2 => by interval_cases k <;> decide
  have hapart : BLK_BLKCTL_OWNER_DENIED.Apart f := .inr (.inl (by show f.lo + f.width ≤ 17; omega))
  refine State.blkFields_stays s m b _ f hf (by omega) hapart (fun k hk => hwc _ (by omega) (by omega)) (fun k hk => .inr ?_)
  rcases h with h | h
  · exact .inl ((State.blkKeeps_of_not_stopped _ h).symm ▸ hrw _ (by omega) (by omega))
  · exact .inr ((State.requestWord_ownership s b.val v r (by omega) (by omega)).trans (ownerMask_bit h (by omega) (by omega)).symm)

/-! ### What a request asks (R21) -/

/-- Noting a request moves the power stage's state alone. -/
theorem State.noteAsked_eq (s : State) (b : Nat) : ∃ p, s.noteAsked b = { s with power := p } := State.updBlk_eq s b _

/-- A request in a tick without a trip of its block. -/
theorem State.blkRequest_asks {s : State} {m : Master} {b r : Nat} (hr : r ≠ 3) (htrip : (s.blkU b).tripped ≠ some s.now) :
    s.blkRequest m b r = (s.noteAsked b).blkAsk m b r := by
  unfold State.blkRequest
  rw [if_neg hr, if_neg htrip]

/-- From STOPPED to ARMED. -/
theorem State.blkAsk_armed {s : State} {m : Master} {b : Nat} (howner : s.isOwner m b = true) (hst : s.blk b = blkStopped) (hmay : s.mayArm b = true) :
    s.blkAsk m b blkArmed = s.enterBlk b blkArmed := by
  simp [State.blkAsk, howner, hst, hmay, blkStopped, blkArmed]

/-- From ARMED to RUNNING. -/
theorem State.blkAsk_running {s : State} {m : Master} {b : Nat} (howner : s.isOwner m b = true) (hst : s.blk b = blkArmed) (hmay : s.mayRun b = true) :
    s.blkAsk m b blkRunning = s.enterBlk b blkRunning := by
  simp [State.blkAsk, howner, hst, hmay, blkStopped, blkArmed, blkRunning]

/-- From ARMED to STOPPED. -/
theorem State.blkAsk_stopped {s : State} {m : Master} {b : Nat} (howner : s.isOwner m b = true) (hst : s.blk b = blkArmed) :
    s.blkAsk m b blkStopped = s.enterBlk b blkStopped := by
  simp [State.blkAsk, howner, hst, blkStopped, blkArmed, blkRunning]

/-- Out of RUNNING the exit is noted. -/
theorem State.blkAsk_exit {s : State} {m : Master} {b : Nat} (howner : s.isOwner m b = true) (hst : s.blk b = blkRunning) :
    s.blkAsk m b blkStopped = s.updBlk b (fun u => { u with exit := some blkStopped }) := by
  simp [State.blkAsk, howner, hst, blkStopped, blkArmed, blkRunning]

/-- Time moves by the ticks that pass. -/
theorem State.advance_now (s : State) (n : Nat) : (s.advance n).now = s.now + n := by
  have hdoms : (s.each [0, 1, 2, 3] (fun s d => s.advanceDom n d)).now = s.now :=
    State.each_keeps State.now _ _ (fun t d => (State.advanceDom_evolves (.refl _ t) n d (covers_self _)).kept .now (by decide)) s
  have hcores := (State.chargeCores_evolves (.refl _ (s.each [0, 1, 2, 3] (fun s d => s.advanceDom n d))) n (covers_self _)).kept .now (by decide)
  exact congrArg (· + n) (hcores.trans hdoms)

/-! ### The moves of a block (R21) -/

/-- An owner's request finds a state in which the block, its owner and the conditions of its moves are as they were. -/
theorem State.request_found (s : State) (m : Master) (b : Block) (v : Word) (r : Fin 4) (hopen : s.busOpen m = true)
    (howner : s.isOwner m b.val = true) (hr : r.val ≠ 3) (htrip : (s.blkU b.val).tripped ≠ some s.now)
    (hfields : s.blk b.val ≠ blkStopped ∨ s.rdw .BLK_BLKCTL b.val &&& ownerMask = v &&& ownerMask) :
    ∃ u : State, s.regStore m .BLK_BLKCTL (BLK_BLKCTL_REQ.into v r.val) b.val = u.blkAsk m b.val r.val ∧ u.blk b.val = s.blk b.val ∧
      u.isOwner m b.val = true ∧ u.mayArm b.val = s.mayArm b.val ∧ u.mayRun b.val = s.mayRun b.val := by
  obtain ⟨d, hd, hat, -⟩ := s.regStore_request m b v r hopen (by simp [State.mayWriteBlock, howner])
  have hkept := fun f hf hlo hhi => State.blkFields_ownership { s with drift := d } m b v r.val f hf hlo hhi hfields
  have hid := hkept BLK_BLKCTL_OWNER rfl (by decide) (by decide)
  have howned := congrArg (· != 0) (hkept BLK_BLKCTL_OWNED rfl (by decide) (by decide))
  change State.AtRequest s (State.blkFields { s with drift := d } m b.val (State.requestWord { s with drift := d } b.val v r.val)) b.val at hat
  change _ = State.blkRequest (State.blkFields { s with drift := d } m b.val (State.requestWord { s with drift := d } b.val v r.val)) m b.val r.val at hd
  generalize State.blkFields { s with drift := d } m b.val (State.requestWord { s with drift := d } b.val v r.val) = u at hd hat hid howned
  obtain ⟨p, hp⟩ := u.noteAsked_eq b.val
  refine ⟨u.noteAsked b.val, ?_, ?_, ?_, ?_, ?_⟩
  · rw [hd, State.blkRequest_asks hr (by rw [hat.blkU, hat.now]; exact htrip)]
  all_goals rw [hp]
  · exact hat.blk
  · exact (hat.isOwner howned hid m).trans howner
  · exact hat.mayArm howned
  · exact hat.mayRun howned hid

/-- R21: a STOPPED block that meets the conditions becomes ARMED. -/
theorem stopped_block_arms (s : State) (m : Master) (b : Block) (v : Word) (hopen : s.busOpen m = true) (howner : s.isOwner m b.val = true)
    (htrip : (s.blkU b.val).tripped ≠ some s.now) (hst : s.blk b.val = blkStopped) (hmay : s.mayArm b.val = true)
    (hsame : s.rdw .BLK_BLKCTL b.val &&& ownerMask = v &&& ownerMask) :
    ∃ t, exec (.reqArmed m b v) s = .next t ∧ t.blk b.val = blkArmed := by
  obtain ⟨u, hu, hblk, hown, harm, -⟩ := s.request_found m b v 1 hopen howner (by decide) htrip (.inr hsame)
  refine ⟨_, congrArg Host.Outcome.next (hu.trans (State.blkAsk_armed hown (hblk.trans hst) (harm.trans hmay))), ?_⟩
  exact State.enterBlk_blk u b 1

/-- R21: an ARMED block that meets the conditions becomes RUNNING. -/
theorem armed_block_runs (s : State) (m : Master) (b : Block) (v : Word) (hopen : s.busOpen m = true) (howner : s.isOwner m b.val = true)
    (htrip : (s.blkU b.val).tripped ≠ some s.now) (hst : s.blk b.val = blkArmed) (hmay : s.mayRun b.val = true) :
    ∃ t, exec (.reqRunning m b v) s = .next t ∧ t.blk b.val = blkRunning := by
  obtain ⟨u, hu, hblk, hown, -, hrun⟩ := s.request_found m b v 2 hopen howner (by decide) htrip (.inl (by rw [hst]; decide))
  refine ⟨_, congrArg Host.Outcome.next (hu.trans (State.blkAsk_running hown (hblk.trans hst) (hrun.trans hmay))), ?_⟩
  exact State.enterBlk_blk u b 2

/-- R21: an ARMED block becomes STOPPED. -/
theorem armed_block_stops (s : State) (m : Master) (b : Block) (v : Word) (hopen : s.busOpen m = true) (howner : s.isOwner m b.val = true)
    (htrip : (s.blkU b.val).tripped ≠ some s.now) (hst : s.blk b.val = blkArmed) :
    ∃ t, exec (.reqStopped m b v) s = .next t ∧ t.blk b.val = blkStopped := by
  obtain ⟨u, hu, hblk, hown, -, -⟩ := s.request_found m b v 0 hopen howner (by decide) htrip (.inl (by rw [hst]; decide))
  refine ⟨_, congrArg Host.Outcome.next (hu.trans (State.blkAsk_stopped hown (hblk.trans hst))), ?_⟩
  exact State.enterBlk_blk u b 0

/-- R21: a RUNNING block notes the exit and stays RUNNING. -/
theorem running_block_notes_exit (s : State) (m : Master) (b : Block) (v : Word) (hopen : s.busOpen m = true) (howner : s.isOwner m b.val = true)
    (htrip : (s.blkU b.val).tripped ≠ some s.now) (hst : s.blk b.val = blkRunning) :
    ∃ t, exec (.reqStopped m b v) s = .next t ∧ t.blk b.val = blkRunning ∧ (t.blkU b.val).exit = some blkStopped := by
  obtain ⟨u, hu, hblk, hown, -, -⟩ := s.request_found m b v 0 hopen howner (by decide) htrip (.inl (by rw [hst]; decide))
  obtain ⟨p, hp⟩ := State.updBlk_eq u b.val (fun x => { x with exit := some blkStopped })
  refine ⟨_, congrArg Host.Outcome.next (hu.trans (State.blkAsk_exit hown (hblk.trans hst))), ?_, ?_⟩
  · rw [hp]
    exact hblk.trans hst
  · rw [State.blkU_updBlk, if_pos ⟨rfl, b.isLt⟩]

/-- R21: an exit that is pending outside a counting carrier takes effect in the next tick. -/
theorem exit_takes_effect (s : State) (b : Block) (st : Nat) (hexit : (s.blkU b.val).exit = some st) (hlt : st < 4)
    (hrun : s.on PW_GRPSTAT_RUN b.val = false) :
    ∃ t, exec (.runningExitAtValley b) s = .next t ∧ t.blk b.val = st ∧ t.now = s.now + 1 ∧ (t.blkU b.val).exit = none := by
  have hlater : ((s.advance 1).blkU b.val).exit = some st := by
    rw [State.blkU_of_stage ((State.advance_evolves (.refl _ s) 1 (covers_self _)).stage (by decide)), hexit]
  have hexec : exec (.runningExitAtValley b) s = .next ((s.advance 1).enterBlk b.val st) := by
    show execRunningExitAtValley b s = _
    unfold execRunningExitAtValley
    rw [hexit, hrun]
    dsimp only
    rw [if_neg Bool.false_ne_true, State.takeExit, hlater]
  refine ⟨_, hexec, State.enterBlk_blk (s.advance 1) b ⟨st, hlt⟩, ?_, State.enterBlk_exit _ b st⟩
  exact ((State.enterBlk_evolves (.refl _ (s.advance 1)) b.val st (covers_self _)).kept .now (by decide)).trans (State.advance_now s 1)

/-- R21: in the tick of a trip a request leaves the state and sets STATE_DENIED. -/
theorem request_at_trip_is_denied (s : State) (m : Master) (b : Block) (v : Word) (hopen : s.busOpen m = true)
    (howner : s.isOwner m b.val = true) (htrip : (s.blkU b.val).tripped = some s.now) :
    ∃ t, exec (.reqRunning m b v) s = .next t ∧ t.blk b.val = s.blk b.val ∧ t.get BLK_BLKCTL_STATE_DENIED b.val = 1 := by
  obtain ⟨d, hd, hat, -⟩ := s.regStore_request m b v 2 hopen (by simp [State.mayWriteBlock, howner])
  generalize State.blkFields { s with drift := d } m b.val (s.requestWord b.val v (2 : Fin 4).val) = u at hd hat
  have hdenied : u.blkRequest m b.val (2 : Fin 4).val = u.stateDenied b.val := by
    unfold State.blkRequest
    rw [if_neg (by decide), if_pos (by rw [hat.blkU, hat.now]; exact htrip)]
  refine ⟨_, congrArg Host.Outcome.next (hd.trans hdenied), ?_, ?_⟩
  · exact (State.get_put_apart u BLK_BLKCTL_STATE_DENIED BLK_BLKCTL_STATE 1 b.val 0 (blkctl_has b) (by decide)).trans hat.blk
  · exact State.get_put u BLK_BLKCTL_STATE_DENIED 1 b.val 0 (blkctl_has b) (by decide)

/-! ### Ownership and cells (R18, R22) -/

/-- R18, R22: while a block is STOPPED and not locked a lock-step pair stores the ownership fields, where a fit pair would own it. -/
theorem ownership_is_stored (s : State) (m : Master) (b : Block) (v : Word) (hopen : s.busOpen m = true) (hmay : s.mayWriteBlock m b.val = true)
    (hlock : s.lockstep m = true) (hst : s.blk b.val = blkStopped) (hfree : s.on BLK_BLKCTL_LOCK b.val = false)
    (hfit : s.unfitOwner (BLK_BLKCTL_OWNER.of v) = false) :
    ∃ t, exec (.ownershipWrite m b v) s = .next t ∧
      t.get BLK_BLKCTL_OWNER b.val = BLK_BLKCTL_OWNER.of v ∧
      t.get BLK_BLKCTL_OWNED b.val = BLK_BLKCTL_OWNED.of v ∧
      t.get BLK_BLKCTL_DOMAIN b.val = BLK_BLKCTL_DOMAIN.of v ∧
      t.get BLK_BLKCTL_LOCK b.val = BLK_BLKCTL_LOCK.of v ∧
      t.blk b.val = blkStopped := by
  obtain ⟨d, hd, hat, hunfit⟩ := s.regStore_request m b v 3 hopen hmay
  have hword : ∀ f : Fld, f.reg = .BLK_BLKCTL → 6 ≤ f.lo → f.lo + f.width ≤ 32 →
      (∀ k < f.width, RegId.BLK_BLKCTL.reg.w1c.testBit (f.lo + k) = false) → f.of (s.requestWord b.val v 3) = f.of v := fun f _ hlo hw hwc =>
    Fld.of_congr (fun k hk => State.requestWord_bit s b.val v 3 (by omega) (by omega) (hwc k hk))
  have hkeeps : State.blkKeeps { s with drift := d } m b.val (s.requestWord b.val v 3) = 0 := by
    have hopenFields : (State.blk { s with drift := d } b.val != blkStopped || State.on { s with drift := d } BLK_BLKCTL_LOCK b.val ||
        !State.lockstep { s with drift := d } m) = false := by
      show (s.blk b.val != blkStopped || s.on BLK_BLKCTL_LOCK b.val || !s.lockstep m) = false
      simp [hst, hfree, hlock]
    unfold State.blkKeeps
    dsimp only
    rw [hopenFields, hword BLK_BLKCTL_OWNER rfl (by decide) (by decide) (by decide), hunfit, hfit, Bool.and_false]
    rfl
  have htakes := State.blkFields_takes { s with drift := d } m b (s.requestWord b.val v 3)
  refine ⟨_, congrArg Host.Outcome.next hd, ?_, ?_, ?_, ?_, hat.blk.trans hst⟩
  · exact (htakes BLK_BLKCTL_OWNER rfl (by decide) (by decide) (by decide) hkeeps).trans (hword _ rfl (by decide) (by decide) (by decide))
  · exact (htakes BLK_BLKCTL_OWNED rfl (by decide) (by decide) (by decide) hkeeps).trans (hword _ rfl (by decide) (by decide) (by decide))
  · exact (htakes BLK_BLKCTL_DOMAIN rfl (by decide) (by decide) (by decide) hkeeps).trans (hword _ rfl (by decide) (by decide) (by decide))
  · exact (htakes BLK_BLKCTL_LOCK rfl (by decide) (by decide) (by decide) hkeeps).trans (hword _ rfl (by decide) (by decide) (by decide))

/-- Every block has its cells words. -/
theorem cellsReg_has (hi : Bool) (b : Block) : (cellsReg hi).has b.val 0 = true := by
  cases hi <;> exact RegId.has_of_lt b.isLt rfl Nat.one_pos

/-- A word whose bits in a mask do not change has them as written. -/
theorem and_eq_of_unchanged {old v mask : Word} (h : changes old v mask = false) : old &&& mask = v &&& mask := by
  have hx : (old ^^^ v) &&& mask = 0#32 := by simpa [changes] using h
  apply BitVec.eq_of_getLsbD_eq
  intro k _
  have hbit := congrArg (fun w : Word => w.getLsbD k) hx
  simp only [BitVec.getLsbD_and, BitVec.getLsbD_xor, BitVec.getLsbD_zero] at hbit ⊢
  revert hbit
  cases old.getLsbD k <;> cases v.getLsbD k <;> simp

/-- The RW bits of a register without W1C bits are as written. -/
theorem RegId.written_and_rw (r : RegId) (old v : Word) (hwc : r.reg.w1c = 0) :
    r.written old v &&& BitVec.ofNat 32 r.reg.rw = v &&& BitVec.ofNat 32 r.reg.rw := by
  apply BitVec.eq_of_getLsbD_eq
  intro k hk
  rw [BitVec.getLsbD_and, BitVec.getLsbD_and, RegId.written_bit _ _ _ hk, hwc, Nat.zero_testBit]
  simp only [BitVec.getLsbD_ofNat, hk, decide_true, Bool.true_and]
  cases r.reg.rw.testBit k <;> simp

/-- What follows new bindings: the compares, the gates and the block's turn-off. -/
theorem State.bindings_after (s : State) (b : Nat) (l : List Nat) (c : Nat → Nat) :
    Evolves ([Part.reg .PW_ACTCMP, .reg .CG_CGSTAT, .reg .FM_FCAUSE] ++ sf2Parts ++ seamParts ++ gateParts) s
      ((s.each l (fun s k => ((s.emit (c k) s.instant).showCmp (c k)).regate (c k))).followTurnoff b) := by
  refine State.followTurnoff_evolves (State.each_evolves (.refl _ s) _ _ (fun t k ht => ?_)) b (by decide +kernel)
  exact State.regate_evolves (State.showCmp_evolves (State.emit_evolves ht _ _ (by decide +kernel)) _ (by decide +kernel)) _ (by decide +kernel)

/-- A write of admissible cells to an unlocked STOPPED block changes nothing where it has them, and else stores them. -/
theorem State.blkcellsWrite_admitted {s : State} {m : Master} {b : Nat} {hi : Bool} {v : Word} (hmay : s.mayWriteBlock m b = true)
    (hst : s.blk b = blkStopped) (hfree : s.on BLK_BLKCTL_LOCK b = false)
    (hok : s.bindOk b hi (v &&& BitVec.ofNat 32 (cellsReg hi).reg.rw) = true) :
    (changes (s.rdw (cellsReg hi) b) v (BitVec.ofNat 32 (cellsReg hi).reg.rw) = false ∧ s.blkcellsWrite m b hi v = s) ∨
      Evolves ([Part.reg .PW_ACTCMP, .reg .CG_CGSTAT, .reg .FM_FCAUSE] ++ sf2Parts ++ seamParts ++ gateParts) (s.regWrite (cellsReg hi) v b)
        (s.blkcellsWrite m b hi v) := by
  unfold State.blkcellsWrite State.asOwner
  rw [if_pos hmay]
  dsimp only
  by_cases h : changes (s.rdw (cellsReg hi) b) v (BitVec.ofNat 32 (cellsReg hi).reg.rw) = true
  · right
    rw [if_neg (by simp [h]), if_neg (by simp [hst, hfree, hok])]
    exact State.bindings_after _ b _ _
  · rw [Bool.not_eq_true] at h
    exact .inl ⟨h, if_pos (by simp [h])⟩

/-- R9, R22: admissible cells are stored, and nothing else of the bindings changes. -/
theorem cells_are_stored (s : State) (m : Master) (b : Block) (hi : Bool) (v : Word) (hopen : s.busOpen m = true)
    (hmay : s.mayWriteBlock m b.val = true) (hst : s.blk b.val = blkStopped) (hfree : s.on BLK_BLKCTL_LOCK b.val = false)
    (hok : s.bindOk b.val hi (v &&& BitVec.ofNat 32 (cellsReg hi).reg.rw) = true) :
    ∃ t, exec (.cellBindingWrite m b hi v) s = .next t ∧
      t.rdw (cellsReg hi) b.val &&& BitVec.ofNat 32 (cellsReg hi).reg.rw = v &&& BitVec.ofNat 32 (cellsReg hi).reg.rw ∧
      (∀ k : Block, k ≠ b → t.rdw (cellsReg hi) k.val = s.rdw (cellsReg hi) k.val) ∧
      (∀ k : Block, t.rdw (cellsReg (!hi)) k.val = s.rdw (cellsReg (!hi)) k.val) := by
  have hwc : (cellsReg hi).reg.w1c = 0 := by cases hi <;> rfl
  obtain ⟨d, hd⟩ := State.regStore_eq s m (cellsReg hi) v b.val 0 hopen
  rw [State.settle_of_no_w1c _ _ _ _ _ hwc] at hd
  have hstore : State.store { s with drift := d } m (cellsReg hi) v b.val 0 = State.blkcellsWrite { s with drift := d } m b.val hi v := by
    cases hi <;> rfl
  refine ⟨_, congrArg Host.Outcome.next (hd.trans hstore), ?_⟩
  rcases State.blkcellsWrite_admitted (s := { s with drift := d }) (m := m) hmay hst hfree hok with ⟨hsame, heq⟩ | hev
  · rw [heq]
    exact ⟨and_eq_of_unchanged hsame, fun _ _ => rfl, fun _ => rfl⟩
  · have hkept : ∀ (x : Bool) (k : Block), _ = State.rdw (State.regWrite { s with drift := d } (cellsReg hi) v b.val) (cellsReg x) k.val := fun x k =>
      hev.rdw (cellsReg_has x k) (by cases x <;> decide)
    refine ⟨?_, fun k hk => ?_, fun k => ?_⟩
    · rw [hkept hi b, State.regWrite, State.rdw_wrw _ _ _ _ _ (cellsReg_has hi b)]
      exact RegId.written_and_rw _ _ _ hwc
    · rw [hkept hi k]
      exact State.rdw_wrw_ne _ _ _ _ _ _ _ _ (cellsReg_has hi k) (.inr (.inl (fun e => hk (Fin.ext e))))
    · rw [hkept (!hi) k]
      exact State.rdw_wrw_ne _ _ _ _ _ _ _ _ (cellsReg_has (!hi) k) (.inl (by cases hi <;> decide))

/-- Settles O15, clause by clause. -/
theorem blocksMoveAndAreOwned : Obligations.BlocksMoveAndAreOwned :=
  ⟨stopped_block_arms, armed_block_runs, armed_block_stops, running_block_notes_exit, exit_takes_effect, request_at_trip_is_denied,
    ownership_is_stored, cells_are_stored⟩

end Sys2Proof.Machine
end
section
/-! SUPPORT. The parts of a carrier event (R156, R163, R167, R170): what a valley and a peak change of a group before, with and after an update set. -/

namespace Sys2Proof.Machine

/-! ### Registers of a group -/

theorem grpstat_has (g : Block) : RegId.PW_GRPSTAT.has g.val 0 = true := RegId.has_of_lt g.isLt rfl Nat.one_pos

theorem grpact_has (g : Block) : RegId.PW_GRPACT.has g.val 0 = true := RegId.has_of_lt g.isLt rfl Nat.one_pos

theorem grpcommit_has (g : Block) : RegId.PW_GRPCOMMIT.has g.val 0 = true := RegId.has_of_lt g.isLt rfl Nat.one_pos

theorem grpctl_has (g : Block) : RegId.PW_GRPCTL.has g.val 0 = true := RegId.has_of_lt g.isLt rfl Nat.one_pos

theorem grpprd_has (g : Block) : RegId.PW_GRPPRD.has g.val 0 = true := RegId.has_of_lt g.isLt rfl Nat.one_pos

/-! ### Time up to an instant of the carrier -/

/-- Time up to an instant moves the clock, the domains, the plan and the pairs. -/
theorem State.advanceToInstant_changes (s : State) (t : Nat) :
    Evolves [.fresh, .now, .head, .plan, .drift, .reg .HF_TURN, .reg .SP_REMAIN0] s (s.advanceToInstant t) :=
  State.advanceToInstant_evolves (.refl _ s) t (covers_self _)

theorem State.advanceToInstant_stage (s : State) (t : Nat) : (s.advanceToInstant t).stage = s.stage :=
  (s.advanceToInstant_changes t).stage (by decide)

theorem State.advanceToInstant_now (s : State) (t : Nat) : (s.advanceToInstant t).now = max s.now (s.tickOf t) := s.advanceTo_now _

/-! ### The requests of a carrier event (R63) -/

/-- Requests reach the Pick engines alone. -/
theorem State.pwmRequests_changes (s : State) (g : Nat) (peak : Bool) : Evolves [.fresh, .pick, .reg .PK_LATE] s (s.pwmRequests g peak) :=
  State.each_evolves (.refl _ s) _ _ (fun _ _ ht =>
    State.request_evolves (State.request_evolves ht _ _ _ _ _ (covers_self _)) _ _ _ _ _ (covers_self _))

/-! ### Channels of a group -/

/-- The cells of a block are its bound cells, each once. -/
theorem State.cellsOf_nodup (s : State) (b : Nat) : (s.cellsOf b).Nodup := List.nodup_range.filter _

/-- A cell that is bound to a block is one of its cells. -/
theorem State.mem_cellsOf {s : State} {c : Cell} {b : Nat} (h : s.blockOf c.val = some b) : c.val ∈ s.cellsOf b :=
  List.mem_filter.2 ⟨List.mem_range.2 c.isLt, List.find?_some (p := fun b => s.bound b c.val) h⟩

/-- A repetition over distinct channels, each step of which leaves the other channels' cores: a channel of the list has what its own step makes of it. -/
theorem State.each_core {f : State → Nat → State} {g : ChanU → ChanU} (hother : ∀ s c k, k ≠ c → ((f s c).chan k).core = (s.chan k).core)
    (hown : ∀ s c, c < 48 → ((f s c).chan c).core = g (s.chan c).core) {c : Nat} (hc : c < 48) :
    ∀ (l : List Nat) (s : State), l.Nodup → c ∈ l → ((s.each l f).chan c).core = g (s.chan c).core := by
  have hout : ∀ (l : List Nat) (s : State), c ∉ l → ((s.each l f).chan c).core = (s.chan c).core := by
    intro l
    induction l with
    | nil => exact fun _ _ => rfl
    | cons x l ih =>
      intro s hx
      rw [List.mem_cons, not_or] at hx
      exact (ih (f s x) hx.2).trans (hother s x c hx.1)
  intro l
  induction l with
  | nil => exact fun _ _ h => absurd h List.not_mem_nil
  | cons x l ih =>
    intro s hnodup hmem
    obtain ⟨hx, hl⟩ := List.nodup_cons.1 hnodup
    by_cases hcx : c = x
    · subst hcx
      exact (hout l (f s c) hx).trans (hown s c hc)
    · exact (ih (f s x) hl ((List.mem_cons.1 hmem).resolve_left hcx)).trans (congrArg g (hother s x c hcx))

/-! ### An update set (R163, R165, R167) -/

@[simp] theorem State.put_grp (s : State) (f : Fld) (v i j g : Nat) : (s.put f v i j).grp g = s.grp g := rfl

@[simp] theorem State.put_blkU (s : State) (f : Fld) (v i j b : Nat) : (s.put f v i j).blkU b = s.blkU b := rfl

/-- A channel that takes its part moves no group and no block. -/
theorem State.applyChan_units (s : State) (g old : Nat) (k : ChanSet) :
    (∀ x, (s.applyChan g old k).grp x = s.grp x) ∧ ∀ x, (s.applyChan g old k).blkU x = s.blkU x := by
  unfold State.applyChan State.showCmp
  dsimp only
  constructor <;> intro x
  all_goals
    split
    · split <;> simp
    · split <;> simp

/-- What a set leaves of a group's unit but its phase and its dwell. -/
def GroupU.run (u : GroupU) : GroupU := { u with phase := 0, dwell := 0, missing := 0, pend := none }

/-- A set gives its group the phase and a dwell. -/
theorem State.applySet_grp (s : State) (g : Block) (u : UpdateSet) :
    ∃ d, (s.applySet g.val u).grp g.val = { s.grp g.val with phase := u.phase, dwell := d } := by
  unfold State.applySet
  dsimp only
  rw [State.each_keeps (fun t => t.grp g.val) _ _ (fun t c => (State.applyChan_units t _ _ _).1 g.val), State.grp_updGrp, if_pos ⟨rfl, g.isLt⟩]
  exact ⟨_, rfl⟩

/-- A set is no matter of a block. -/
theorem State.applySet_blkU (s : State) (g x : Nat) (u : UpdateSet) : (s.applySet g u).blkU x = s.blkU x := by
  unfold State.applySet
  dsimp only
  rw [State.each_keeps (fun t => t.blkU x) _ _ (fun t c => (State.applyChan_units t _ _ _).2 x), State.blkU_updGrp]
  rfl

/-- What follows the period in a set: the phase and the channels. -/
theorem State.applySet_after (s : State) (g : Nat) (u : UpdateSet) :
    Evolves [.fresh, .power, .reg .PW_ACTCMP, .reg .PW_CHSTAT] (s.put PW_GRPACT_PRD u.prd.toNat g) (s.applySet g u) :=
  State.each_evolves (State.updGrp_evolves (.refl _ _) g _ (by decide +kernel)) _ _ (fun _ _ ht => State.applyChan_evolves ht _ _ _ (covers_self _))

/-- A set gives its group the period. -/
theorem State.applySet_prd (s : State) (g : Block) (u : UpdateSet) :
    (s.applySet g.val u).get PW_GRPACT_PRD g.val = u.prd.toNat % 2 ^ PW_GRPACT_PRD.width :=
  ((s.applySet_after g.val u).get (f := PW_GRPACT_PRD) (grpact_has g) (by decide)).trans
    (State.get_put s PW_GRPACT_PRD u.prd.toNat g.val 0 (grpact_has g) (by decide))

/-- A set that is taken: its period and phase, and one more APPLIED. -/
theorem State.takeSet_gives (s : State) (g : Block) (u : UpdateSet) :
    (s.takeSet g.val u).get PW_GRPACT_PRD g.val = u.prd.toNat % 2 ^ PW_GRPACT_PRD.width ∧
      (s.takeSet g.val u).get PW_GRPSTAT_APPLIED g.val = (s.get PW_GRPSTAT_APPLIED g.val + 1) % 2 ^ PW_GRPSTAT_APPLIED.width ∧
      ((s.takeSet g.val u).grp g.val).phase = u.phase ∧ ((s.takeSet g.val u).grp g.val).pend = (s.grp g.val).pend := by
  have hstat : (s.applySet g.val u).get PW_GRPSTAT_APPLIED g.val = s.get PW_GRPSTAT_APPLIED g.val :=
    (State.applySet_evolves (.refl _ s) g.val u (covers_self _)).get (f := PW_GRPSTAT_APPLIED) (grpstat_has g) (by decide)
  obtain ⟨d, hd⟩ := s.applySet_grp g u
  unfold State.takeSet State.bump
  refine ⟨?_, ?_, ?_, ?_⟩
  · rw [State.get_put_of_apart _ _ _ _ (grpact_has g) (by decide), State.applySet_prd]
  · rw [State.get_put _ PW_GRPSTAT_APPLIED _ _ _ (grpstat_has g) (by decide), hstat]
  · rw [State.put_grp, hd]
  · rw [State.put_grp, hd]

/-- A set that is taken leaves the group's run. -/
theorem State.takeSet_run (s : State) (g : Block) (u : UpdateSet) : ((s.takeSet g.val u).grp g.val).run = (s.grp g.val).run := by
  obtain ⟨d, hd⟩ := s.applySet_grp g u
  unfold State.takeSet State.bump
  rw [State.put_grp, hd]
  rfl

/-- The note of the written duties is no matter of a group or a block. -/
theorem State.clearWritten_units (s : State) (g : Nat) :
    (∀ x, (s.clearWritten g).grp x = s.grp x) ∧ ∀ x, (s.clearWritten g).blkU x = s.blkU x :=
  ⟨fun x => State.each_keeps (fun t => t.grp x) _ _ (fun t c => State.grp_updChan t c x _) s,
    fun x => State.each_keeps (fun t => t.blkU x) _ _ (fun t c => State.blkU_updChan t c x _) s⟩

/-! ### What a valley applies (R163) -/

/-- At another NCOUNT than 0 nothing is applied. -/
theorem State.applyDue_elsewhere {s : State} {g : Nat} (h : s.get PW_GRPSTAT_NCOUNT g ≠ 0) : s.applyDue g = s := if_pos h

/-- A pending set copied in an earlier tick is applied. -/
theorem State.applyDue_pending {s : State} {g : Nat} {u : UpdateSet} (hn : s.get PW_GRPSTAT_NCOUNT g = 0) (hauto : s.on PW_GRPCTL_AUTOC g = false)
    (hpend : (s.grp g).pend = some u) (hbefore : u.copied < s.now) :
    s.applyDue g = ((s.updGrp g (fun x => { x with pend := none })).put PW_GRPCOMMIT_PENDING 0 g).takeSet g u := by
  unfold State.applyDue
  rw [if_neg (not_not.2 hn), hauto, if_neg Bool.false_ne_true, hpend]
  exact if_pos hbefore

/-- With AUTOC a shadow that R154 admits is applied. -/
theorem State.applyDue_shadow {s : State} {g : Nat} (hn : s.get PW_GRPSTAT_NCOUNT g = 0) (hauto : s.on PW_GRPCTL_AUTOC g = true)
    (hok : prdOk (s.get PW_GRPPRD_PRD g) (s.get PW_GRPCTL_PRE g) = true) : s.applyDue g = (s.takeSet g (s.shadowSet g)).clearWritten g := by
  unfold State.applyDue
  rw [if_neg (not_not.2 hn), hauto, if_pos rfl, if_pos hok]

/-- Whatever it applies, a valley leaves the group's run. -/
theorem State.applyDue_run (s : State) (g : Block) : ((s.applyDue g.val).grp g.val).run = (s.grp g.val).run := by
  unfold State.applyDue
  split
  · rfl
  · split
    · split
      · rw [(State.clearWritten_units _ _).1, State.takeSet_run]
      · rfl
    · split
      · split
        · rw [State.takeSet_run, State.put_grp, State.grp_updGrp, if_pos ⟨rfl, g.isLt⟩]
          rfl
        · rfl
      · rfl

/-- And the blocks. -/
theorem State.applyDue_blkU (s : State) (g x : Nat) : (s.applyDue g).blkU x = s.blkU x := by
  have htake : ∀ (t : State) u, (t.takeSet g u).blkU x = t.blkU x := fun t u => State.applySet_blkU t g x u
  unfold State.applyDue
  split
  · rfl
  · split
    · split
      · rw [(State.clearWritten_units _ _).2, htake]
      · rfl
    · split
      · split
        · rw [htake, State.put_blkU, State.blkU_updGrp]
        · rfl
      · rfl

/-- Of GRPSTAT it changes APPLIED alone. -/
theorem State.applyDue_stat (s : State) (g : Block) (f : Fld) (hf : f.reg = .PW_GRPSTAT) (hlo : f.lo + f.width ≤ 16) :
    (s.applyDue g.val).get f g.val = s.get f g.val := by
  have hhas : f.reg.has g.val 0 = true := hf ▸ grpstat_has g
  have htake : ∀ (t : State) u, (t.takeSet g.val u).get f g.val = t.get f g.val := fun t u =>
    (State.get_put_of_apart _ _ _ _ hhas (.inr (.inl hlo))).trans
      ((State.applySet_evolves (.refl _ t) g.val u (covers_self _)).get hhas (by rw [hf]; decide))
  have hcommit : ∀ (t : State) (x : Fld) v, x.reg = .PW_GRPCOMMIT → (t.put x v g.val).get f g.val = t.get f g.val := fun t x v hx =>
    State.get_put_of_apart _ _ _ _ hhas (.inl (by rw [hf, hx]; decide))
  unfold State.applyDue
  split
  · rfl
  · split
    · split
      · rw [(State.clearWritten_evolves (.refl _ _) g.val (covers_self _)).get hhas (by rw [hf]; decide), htake]
      · exact hcommit _ _ _ rfl
    · split
      · split
        · rw [htake, hcommit _ _ _ rfl]
          exact (State.updGrp_evolves (.refl _ s) g.val _ (covers_self _)).get hhas (by rw [hf]; decide)
        · rfl
      · rfl

end Sys2Proof.Machine
end
section
/-! SUPPORT. A valley and a peak of a carrier (R21, R154, R156, R158, R163, R167, R168, R170): what each leaves of its group, its block and its channels. -/

namespace Sys2Proof.Machine

/-! ### The steps of a valley -/

/-- The carrier turns at a valley (R156). -/
def State.valleyTurn (s : State) (g t : Nat) : State :=
  s.updGrp g (fun u => { u with falling := false, lastAt := t, adjust := 0, startAt := none })

/-- The carrier turns, an update set is applied where one is due, and NCOUNT counts. -/
def State.valleyCount (s : State) (g t : Nat) : State :=
  ((s.valleyTurn g t).applyDue g).countValley g

/-- The one-pulse flags of a group's channels end (R158). -/
def State.clearDone (s : State) (g : Nat) : State := s.each (s.cellsOf g) (fun s c => s.updChan c (fun u => { u with done := false }))

/-- The conversions and requests of a carrier event. -/
def State.carrierEvents (s : State) (g : Nat) (peak : Bool) : State := (s.seqCarrier g peak).pwmRequests g peak

/-- What else a valley triggers. -/
def State.valleyEvents (s : State) (g : Nat) : State := ((((s.carrierEvents g false).canaryValley g).sdValley g).mmValley g).followCheck g

/-- What a valley is to other groups and devices. -/
def State.valleyEnd (s : State) (g t : Nat) : State := ((s.startFollowers g t).markValley g t).countMissing g

/-- A valley, step by step. -/
theorem State.valley_eq (s : State) (g t : Nat) :
    s.valley g t = ((((s.valleyCount g t).clearDone g).takeExit g).valleyEvents g).valleyEnd g t := rfl

/-! ### The turn, the set and the count -/

section Count
variable (s : State) (g : Block) (t : Nat)

/-- A valley makes the carrier rise from its instant, with no correction and no start left. -/
theorem State.valleyCount_run : ((s.valleyCount g.val t).grp g.val).run =
    ({ s.grp g.val with falling := false, lastAt := t, adjust := 0, startAt := none } : GroupU).run := by
  unfold State.valleyCount State.countValley State.valleyTurn
  rw [State.put_grp, State.applyDue_run, State.grp_updGrp, if_pos ⟨rfl, g.isLt⟩]

/-- The blocks are as they were. -/
theorem State.valleyCount_blkU (b : Nat) : (s.valleyCount g.val t).blkU b = s.blkU b := by
  unfold State.valleyCount State.countValley State.valleyTurn
  rw [State.put_blkU, State.applyDue_blkU, State.blkU_updGrp]

/-- It is the power stage and the registers of the carriers that change. -/
theorem State.valleyCount_changes :
    Evolves [.fresh, .power, .reg .PW_GRPCOMMIT, .reg .PW_GRPSTAT, .reg .PW_GRPACT, .reg .PW_ACTCMP, .reg .PW_CHSTAT] s (s.valleyCount g.val t) :=
  State.countValley_evolves (State.applyDue_evolves (State.updGrp_evolves (.refl _ s) g.val _ (by decide +kernel)) g.val (covers_self _)) g.val
    (by decide +kernel)

/-- NCOUNT counts modulo NSKIP + 1. -/
theorem State.valleyCount_ncount :
    (s.valleyCount g.val t).get PW_GRPSTAT_NCOUNT g.val = (s.get PW_GRPSTAT_NCOUNT g.val + 1) % (s.get PW_GRPCTL_NSKIP g.val + 1) := by
  obtain ⟨p, hp⟩ := State.updGrp_eq s g.val (fun u => { u with falling := false, lastAt := t, adjust := 0, startAt := none })
  have hcount := State.applyDue_stat { s with power := p } g PW_GRPSTAT_NCOUNT rfl (by decide)
  have hskip : (State.applyDue { s with power := p } g.val).get PW_GRPCTL_NSKIP g.val = s.get PW_GRPCTL_NSKIP g.val :=
    (State.applyDue_evolves (.refl _ { s with power := p }) g.val (covers_self _)).get (f := PW_GRPCTL_NSKIP) (grpctl_has g) (by decide)
  have hsmall : s.get PW_GRPCTL_NSKIP g.val < 2 ^ 6 := Nat.mod_lt _ (by decide)
  unfold State.valleyCount State.countValley State.valleyTurn
  rw [hp, State.get_put _ PW_GRPSTAT_NCOUNT _ _ _ (grpstat_has g) (by decide), hcount, hskip]
  exact Nat.mod_eq_of_lt (lt_of_lt_of_le (Nat.mod_lt _ (Nat.succ_pos _)) hsmall)

/-- The count of an update set leaves what it gives. -/
theorem State.valleyCount_applied {u : State}
    (h : (s.valleyTurn g.val t).applyDue g.val = u) :
    (s.valleyCount g.val t).grp g.val = u.grp g.val ∧ (s.valleyCount g.val t).rdw .PW_GRPACT g.val = u.rdw .PW_GRPACT g.val ∧
      (s.valleyCount g.val t).rdw .PW_GRPCOMMIT g.val = u.rdw .PW_GRPCOMMIT g.val ∧
      (s.valleyCount g.val t).get PW_GRPSTAT_APPLIED g.val = u.get PW_GRPSTAT_APPLIED g.val ∧
      (s.valleyCount g.val t).on PW_GRPSTAT_RUN g.val = u.on PW_GRPSTAT_RUN g.val := by
  unfold State.valleyCount State.countValley
  rw [h]
  exact ⟨rfl, State.rdw_put_ne _ _ _ _ _ _ _ _ (grpact_has g) (.inl (by decide)),
    State.rdw_put_ne _ _ _ _ _ _ _ _ (grpcommit_has g) (.inl (by decide)), State.get_put_of_apart _ _ _ _ (grpstat_has g) (by decide),
    State.on_put_of_apart _ _ _ _ (grpstat_has g) (by decide)⟩

end Count

/-! ### The one-pulse flags (R158) -/

/-- The flags are of the channels alone. -/
theorem State.clearDone_changes (s : State) (g : Nat) : Evolves [.power] s (s.clearDone g) :=
  State.each_evolves (.refl _ s) _ _ (fun _ _ ht => State.updChan_evolves ht _ _ (covers_self _))

theorem State.clearDone_grp (s : State) (g x : Nat) : (s.clearDone g).grp x = s.grp x :=
  State.each_keeps (fun t => t.grp x) _ _ (fun t c => State.grp_updChan t c x _) s

theorem State.clearDone_blkU (s : State) (g x : Nat) : (s.clearDone g).blkU x = s.blkU x :=
  State.each_keeps (fun t => t.blkU x) _ _ (fun t c => State.blkU_updChan t c x _) s

/-- The flag of a channel of the group is clear. -/
theorem State.clearDone_done {s : State} {g : Nat} {c : Cell} (h : c.val ∈ s.cellsOf g) : ((s.clearDone g).chan c.val).core.done = false := by
  have hcore := State.each_core (f := fun s c => s.updChan c (fun u => { u with done := false })) (g := fun u => { u with done := false })
    (fun s c k hk => by rw [State.chan_updChan, if_neg (fun h => hk h.1)])
    (fun s c hc => by rw [State.chan_updChan, if_pos ⟨rfl, hc⟩]; rfl) c.isLt (s.cellsOf g) s (s.cellsOf_nodup g) h
  rw [State.clearDone, hcore]

/-! ### A pending exit (R21) -/

/-- Of the power stage, a taken exit changes its block's unit and outputs alone. -/
theorem State.takeExit_units (s : State) (b : Nat) :
    (∀ g, (s.takeExit b).grp g = s.grp g) ∧ ∀ c, ((s.takeExit b).chan c).core = (s.chan c).core := by
  unfold State.takeExit
  split
  · exact ⟨fun g => (State.grp_of_stage (s.enterBlk_stage b _) g).trans (State.grp_updBlk s b g _),
      fun c => (State.core_of_stage (s.enterBlk_stage b _) c).trans (congrArg ChanU.core (State.chan_updBlk s b c _))⟩
  · exact ⟨fun _ => rfl, fun _ => rfl⟩

/-- No exit is pending after it. -/
theorem State.takeExit_exit (s : State) (b : Block) : ((s.takeExit b.val).blkU b.val).exit = none := by
  unfold State.takeExit
  split
  · exact s.enterBlk_exit b _
  · assumption

/-- A pending exit leads where it leads. -/
theorem State.takeExit_blk {s : State} {b : Block} {st : Fin 4} (h : (s.blkU b.val).exit = some st.val) : (s.takeExit b.val).blk b.val = st.val := by
  unfold State.takeExit
  rw [h]
  exact s.enterBlk_blk b st

/-! ### The events of a valley -/

/-- Conversions and requests leave the power stage. -/
theorem State.carrierEvents_changes (s : State) (g : Nat) (peak : Bool) :
    Evolves [.fresh, .timers, .pick, .reg .SN_SEQSTAT, .reg .PK_LATE] s (s.carrierEvents g peak) :=
  (State.seqCarrier_evolves (.refl _ s) g peak (by decide +kernel)).step (State.pwmRequests_changes _ g peak) (by decide +kernel)

/-- The clears of Canary windows move outputs alone. -/
theorem State.canaryValley_stage (s : State) (g : Nat) : (s.canaryValley g).stage = s.stage := by
  refine State.each_keeps State.stage _ _ (fun t w => ?_) s
  dsimp only
  repeat' split
  all_goals simp

/-- What a valley triggers leaves groups, blocks and channels. -/
theorem State.valleyEvents_stage (s : State) (g : Nat) : (s.valleyEvents g).stage = s.stage := by
  unfold State.valleyEvents
  rw [(State.followCheck_evolves (.refl _ _) g (covers_self _)).stage (by decide), (State.mmValley_evolves (.refl _ _) g (covers_self _)).stage (by decide),
    (State.sdValley_evolves (.refl _ _) g (covers_self _)).stage (by decide), State.canaryValley_stage,
    (State.carrierEvents_changes s g false).stage (by decide)]

/-- Up to SYNCLOCK it touches no register of a carrier. -/
theorem State.valleyEvents_before (s : State) (g : Nat) :
    Evolves ([Part.fresh, .timers, .pick, .sense, .reg .SN_SEQSTAT, .reg .PK_LATE, .reg .CN_WSTAT] ++ gateParts) s
      ((((s.carrierEvents g false).canaryValley g).sdValley g).mmValley g) :=
  State.mmValley_evolves (State.sdValley_evolves (State.canaryValley_evolves ((State.carrierEvents_changes s g false).mono (by decide +kernel)) g
    (by decide +kernel)) g (by decide +kernel)) g (by decide +kernel)

/-- With it, none but GRPSTAT. -/
theorem State.valleyEvents_changes (s : State) (g : Nat) :
    Evolves ([Part.fresh, .timers, .pick, .sense, .reg .SN_SEQSTAT, .reg .PK_LATE, .reg .CN_WSTAT, .reg .PW_GRPSTAT] ++ gateParts) s (s.valleyEvents g) :=
  State.followCheck_evolves ((s.valleyEvents_before g).mono (by decide +kernel)) g (by decide +kernel)

/-- And of GRPSTAT SYNCLOCK and SYNC_LOST alone. -/
theorem State.valleyEvents_stat (s : State) (g : Block) (f : Fld) (hf : f.reg = .PW_GRPSTAT) (hlock : PW_GRPSTAT_SYNCLOCK.Apart f)
    (hlost : PW_GRPSTAT_SYNC_LOST.Apart f) : (s.valleyEvents g.val).get f g.val = s.get f g.val := by
  have hhas : f.reg.has g.val 0 = true := hf ▸ grpstat_has g
  refine Eq.trans ?_ ((s.valleyEvents_before g.val).get hhas (by rw [hf]; decide))
  unfold State.valleyEvents State.followCheck
  split
  · split
    · exact State.get_put_of_apart _ _ _ _ hhas hlock
    · rw [State.get_put_of_apart _ _ _ _ hhas hlost, State.get_put_of_apart _ _ _ _ hhas hlock]
  · rfl

/-! ### What a valley is to others (R163, R167, R168, R463) -/

/-- A group's unit but for the markers it misses. -/
def GroupU.course (u : GroupU) : GroupU := { u with missing := 0 }

theorem State.valleyEnd_changes (s : State) (g t : Nat) : Evolves [.power, .uhla] s (s.valleyEnd g t) :=
  State.countMissing_evolves (State.markValley_evolves (State.startFollowers_evolves (.refl _ s) g t (by decide +kernel)) g t (by decide +kernel)) g
    (by decide +kernel)

/-- The marks leave the power stage. -/
theorem State.markValley_stage (s : State) (g t : Nat) : (s.markValley g t).stage = s.stage :=
  (State.markValley_evolves (.refl _ s) g t (covers_self _)).stage (by decide)

/-- The starts of other groups, and the missing markers, leave the group's course. -/
theorem State.valleyEnd_course (s : State) (g : Block) (t : Nat) : ((s.valleyEnd g.val t).grp g.val).course = (s.grp g.val).course := by
  have hstart : (s.startFollowers g.val t).grp g.val = s.grp g.val := by
    refine State.each_keeps (fun u => u.grp g.val) _ _ (fun u h => ?_) s
    split
    · next hcond =>
      have hne : h ≠ g.val := by simpa using (Bool.and_eq_true_iff.1 hcond).2
      rw [State.grp_updGrp, if_neg (fun e => hne e.1.symm)]
    · rfl
  have hmark := State.grp_of_stage ((s.startFollowers g.val t).markValley_stage g.val t) g.val
  unfold State.valleyEnd State.countMissing
  split
  · rw [State.grp_updGrp, if_pos ⟨rfl, g.isLt⟩, hmark, hstart]
    rfl
  · rw [hmark, hstart]

/-- And the blocks and channels. -/
theorem State.valleyEnd_units (s : State) (g t : Nat) :
    (∀ b, (s.valleyEnd g t).blkU b = s.blkU b) ∧ ∀ c, (s.valleyEnd g t).chan c = s.chan c := by
  have hstart : ∀ b c, (s.startFollowers g t).blkU b = s.blkU b ∧ (s.startFollowers g t).chan c = s.chan c := fun b c => by
    constructor
    · refine State.each_keeps (fun u => u.blkU b) _ _ (fun u h => ?_) s
      split <;> simp
    · refine State.each_keeps (fun u => u.chan c) _ _ (fun u h => ?_) s
      split <;> simp
  have hmark : ((s.startFollowers g t).markValley g t).power = (s.startFollowers g t).power :=
    (State.markValley_evolves (.refl _ _) g t (covers_self _)).kept .power (by decide)
  constructor
  · intro b
    have hcount : (s.valleyEnd g t).blkU b = ((s.startFollowers g t).markValley g t).blkU b := by
      unfold State.valleyEnd State.countMissing
      split <;> simp
    rw [hcount, State.blkU, hmark]
    exact (hstart b 0).1
  · intro c
    have hcount : (s.valleyEnd g t).chan c = ((s.startFollowers g t).markValley g t).chan c := by
      unfold State.valleyEnd State.countMissing
      split <;> simp
    rw [hcount, State.chan, hmark]
    exact (hstart 0 c).2

/-- What the steps of a valley after its count and its exit touch. -/
def valleyTailParts : List Part :=
  [Part.fresh, .timers, .power, .pick, .sense, .uhla, .reg .SN_SEQSTAT, .reg .PK_LATE, .reg .CN_WSTAT, .reg .PW_GRPSTAT] ++ gateParts

theorem State.valleyTail_changes (s : State) (g t : Nat) : Evolves valleyTailParts s ((s.valleyEvents g).valleyEnd g t) :=
  ((State.valleyEvents_changes s g).mono (by decide +kernel)).step (State.valleyEnd_changes _ g t) (by decide +kernel)

/-! ### A valley -/

section Valley
variable (s : State) (g : Block) (t : Nat)

/-- What the steps of a valley after its count touch. -/
theorem State.valley_after :
    Evolves (valleyTailParts ++ [Part.pick, .reg .BLK_BLKCTL, .reg .RG_RSTAT] ++ raiseParts ++ coastParts ++ gateParts) (s.valleyCount g.val t)
      (s.valley g.val t) := by
  have hdone := (State.clearDone_changes (s.valleyCount g.val t) g.val).mono
    (A := valleyTailParts ++ [Part.pick, .reg .BLK_BLKCTL, .reg .RG_RSTAT] ++ raiseParts ++ coastParts ++ gateParts) (by decide +kernel)
  exact (State.takeExit_evolves hdone g.val (by decide +kernel)).step (State.valleyTail_changes _ g.val t) (by decide +kernel)

/-- A valley's group has the course that the count left. -/
theorem State.valley_course : ((s.valley g.val t).grp g.val).course = ((s.valleyCount g.val t).grp g.val).course := by
  rw [State.valley_eq, State.valleyEnd_course, State.grp_of_stage (State.valleyEvents_stage _ _), (State.takeExit_units _ _).1, State.clearDone_grp]

/-- The carrier rises from the valley's instant, with no correction and no start left. -/
theorem State.valley_run : ((s.valley g.val t).grp g.val).run =
    ({ s.grp g.val with falling := false, lastAt := t, adjust := 0, startAt := none } : GroupU).run :=
  (congrArg GroupU.run (s.valley_course g t) :).trans (s.valleyCount_run g t)

/-- No exit of its block is pending. -/
theorem State.valley_exit : ((s.valley g.val t).blkU g.val).exit = none := by
  rw [State.valley_eq, (State.valleyEnd_units _ _ _).1, State.blkU_of_stage (State.valleyEvents_stage _ _), State.takeExit_exit]

/-- An exit that was pending has taken effect. -/
theorem State.valley_blk (st : Fin 4) (h : (s.blkU g.val).exit = some st.val) : (s.valley g.val t).blk g.val = st.val := by
  have hpending : (((s.valleyCount g.val t).clearDone g.val).blkU g.val).exit = some st.val := by
    rw [State.clearDone_blkU, State.valleyCount_blkU, h]
  exact ((State.valleyTail_changes _ g.val t).get (f := BLK_BLKCTL_STATE) (blkctl_has g) (by decide)).trans (State.takeExit_blk hpending)

/-- The one-pulse flags of the group's channels have ended. -/
theorem State.valley_done (c : Cell) (h : s.blockOf c.val = some g.val) : ((s.valley g.val t).chan c.val).done = false := by
  have hmem : c.val ∈ (s.valleyCount g.val t).cellsOf g.val := by
    rw [(s.valleyCount_changes g t).cellsOf (by decide) (by decide)]
    exact State.mem_cellsOf h
  have hcore : ((s.valley g.val t).chan c.val).core = (((s.valleyCount g.val t).clearDone g.val).chan c.val).core := by
    rw [State.valley_eq, (State.valleyEnd_units _ _ _).2, State.core_of_stage (State.valleyEvents_stage _ _), (State.takeExit_units _ _).2]
  exact (congrArg ChanU.done hcore :).trans (State.clearDone_done hmem)

/-- A valley takes no time. -/
theorem State.valley_now : (s.valley g.val t).now = s.now :=
  ((s.valley_after g t).kept .now (by decide)).trans ((s.valleyCount_changes g t).kept .now (by decide))

/-- The fields of GRPSTAT but SYNCLOCK and SYNC_LOST are what the count left. -/
theorem State.valley_stat (f : Fld) (hf : f.reg = .PW_GRPSTAT) (hlock : PW_GRPSTAT_SYNCLOCK.Apart f) (hlost : PW_GRPSTAT_SYNC_LOST.Apart f) :
    (s.valley g.val t).get f g.val = (s.valleyCount g.val t).get f g.val := by
  have hhas : f.reg.has g.val 0 = true := hf ▸ grpstat_has g
  rw [State.valley_eq, (State.valleyEnd_changes _ g.val t).get hhas (by rw [hf]; decide), State.valleyEvents_stat _ g f hf hlock hlost,
    (State.takeExit_evolves (.refl _ _) g.val (covers_self _)).get hhas (by rw [hf]; decide),
    (State.clearDone_changes _ g.val).get hhas (by rw [hf]; decide)]

/-- What an applied set gives is left as it is. -/
theorem State.valley_applied {u : State} (h : (s.valleyTurn g.val t).applyDue g.val = u) :
    ((s.valley g.val t).grp g.val).course = (u.grp g.val).course ∧ (s.valley g.val t).rdw .PW_GRPACT g.val = u.rdw .PW_GRPACT g.val ∧
      (s.valley g.val t).rdw .PW_GRPCOMMIT g.val = u.rdw .PW_GRPCOMMIT g.val ∧
      (s.valley g.val t).get PW_GRPSTAT_APPLIED g.val = u.get PW_GRPSTAT_APPLIED g.val := by
  obtain ⟨hgrp, hact, hcommit, happlied, -⟩ := s.valleyCount_applied g t h
  have hafter := s.valley_after g t
  refine ⟨(s.valley_course g t).trans (congrArg GroupU.course hgrp), (hafter.rdw (grpact_has g) (by decide)).trans hact,
    (hafter.rdw (grpcommit_has g) (by decide)).trans hcommit, (s.valley_stat g t PW_GRPSTAT_APPLIED rfl (by decide) (by decide)).trans happlied⟩

/-- RUN stays. -/
theorem State.valley_runs : (s.valley g.val t).on PW_GRPSTAT_RUN g.val = s.on PW_GRPSTAT_RUN g.val := by
  obtain ⟨-, -, -, -, hrun⟩ := s.valleyCount_applied g t rfl
  have hstat := congrArg (· != 0) (s.valley_stat g t PW_GRPSTAT_RUN rfl (by decide) (by decide))
  have hset := congrArg (· != 0) (State.applyDue_stat (s.valleyTurn g.val t) g PW_GRPSTAT_RUN rfl (by decide))
  exact ((hstat.trans hrun).trans hset).trans
    ((State.updGrp_evolves (.refl _ s) g.val _ (covers_self _)).on (f := PW_GRPSTAT_RUN) (grpstat_has g) (by decide))

end Valley

end Sys2Proof.Machine
end
section
/-! SUPPORT. A peak of a carrier (R156, R158, R167, R170). -/

namespace Sys2Proof.Machine

/-! ### What the plan of a peak rests on (R167, R168) -/

section Plan
variable {s u : State} (hgrp : ∀ x, u.grp x = s.grp x)
  (hget : ∀ (f : Fld) (x : Nat), x < 8 → f.reg = .PW_GRPCTL ∨ f.reg = .PW_GRPSTAT ∨ f.reg = .PW_GRPACT → u.get f x = s.get f x)
include hget

theorem State.carrierOn_congr (f : Fld) {x : Nat} (hx : x < 8) (hf : f.reg = .PW_GRPCTL ∨ f.reg = .PW_GRPSTAT ∨ f.reg = .PW_GRPACT) :
    u.on f x = s.on f x := congrArg (· != 0) (hget f x hx hf)

theorem State.halfSteps_congr {x : Nat} (hx : x < 8) : u.halfSteps x = s.halfSteps x := by
  unfold State.halfSteps State.actPrd
  rw [hget _ x hx (.inr (.inr rfl)), hget _ x hx (.inl rfl)]

theorem State.phaseSteps_congr {x : Nat} (hx : x < 8) (w : Word) : u.phaseSteps x w = s.phaseSteps x w := by
  unfold State.phaseSteps
  rw [State.halfSteps_congr hget hx, hget _ x hx (.inl rfl)]

/-- The group that a group follows is one of the eight. -/
theorem State.refMatches_congr {x : Nat} (hx : x < 8) : u.refMatches x = s.refMatches x := by
  have hr : s.get PW_GRPCTL_SYNCGRP x < 8 := Nat.mod_lt _ (by decide)
  unfold State.refMatches State.actPrd
  dsimp only
  rw [hget PW_GRPCTL_SYNCGRP x hx (.inl rfl), State.carrierOn_congr hget _ hr (.inr (.inl rfl)), hget _ _ hr (.inr (.inr rfl)),
    hget _ x hx (.inr (.inr rfl)), hget _ _ hr (.inl rfl), hget _ x hx (.inl rfl)]

include hgrp

theorem State.refValley_congr {x : Nat} (hx : x < 8) : u.refValley x = s.refValley x := by
  unfold State.refValley
  dsimp only
  rw [hgrp, State.halfSteps_congr hget hx, State.carrierOn_congr hget _ hx (.inr (.inl rfl))]

theorem State.lagPlaces_congr {x : Nat} (hx : x < 8) : u.lagPlaces x = s.lagPlaces x := by
  have hr : s.get PW_GRPCTL_SYNCGRP x < 8 := Nat.mod_lt _ (by decide)
  unfold State.lagPlaces
  dsimp only
  rw [hget PW_GRPCTL_SYNCGRP x hx (.inl rfl), hgrp, hgrp, State.phaseSteps_congr hget hx, State.refValley_congr hgrp hget hr,
    State.halfSteps_congr hget hr, State.carrierOn_congr hget _ hr (.inr (.inl rfl))]

/-- The plan of a peak rests on the groups and on their registers. -/
theorem State.peakPlan_congr {x : Nat} (hx : x < 8) (t : Nat) : u.peakPlan x t = s.peakPlan x t := by
  unfold State.peakPlan
  dsimp only
  rw [hgrp, hget _ x hx (.inl rfl), State.refMatches_congr hget hx, State.halfSteps_congr hget hx, State.lagPlaces_congr hgrp hget hx]

end Plan

/-! ### The steps of a peak -/

/-- A channel at its group's peak: its one-pulse flag ends, and a waiting override takes effect (R158, R170). -/
def State.peakChannel (s : State) (t c : Nat) : State := (s.updChan c (fun u => { u with done := false })).takeOvr c t

/-- The channels and the events of a peak. -/
def State.peakEvents (s : State) (g t : Nat) : State := (s.each (s.cellsOf g) (fun s c => s.peakChannel t c)).carrierEvents g true

/-- The carrier at a peak, with the dwell that it makes. -/
def State.peakTurn (s : State) (g t : Nat) (p : Nat × Int) : State :=
  s.updGrp g (fun u => { u with lastAt := t, falling := decide (p.1 = 0), dwell := 0, dwellEnd := t + p.1, adjust := p.2 })

/-- A peak, step by step. -/
theorem State.peak_eq (s : State) (g t : Nat) :
    s.peak g t = if ((s.peakEvents g t).peakPlan g t).1 = 0 then (s.peakEvents g t).peakTurn g t ((s.peakEvents g t).peakPlan g t)
      else ((s.peakEvents g t).peakTurn g t ((s.peakEvents g t).peakPlan g t)).put PW_GRPSTAT_DWELL 1 g := rfl

/-- A channel whose override takes effect. -/
def ChanU.atPeak (u : ChanU) : ChanU :=
  match u.ovrWait with
  | some v => { u with done := false, ovr := v, ovrWait := none }
  | none => { u with done := false }

/-- A channel at its group's peak, its outputs left aside. -/
theorem State.peakChannel_core (s : State) (t c : Nat) (hc : c < 48) : ((s.peakChannel t c).chan c).core = (s.chan c).core.atPeak := by
  have hdone : (s.updChan c (fun u => { u with done := false })).chan c = { s.chan c with done := false } := by
    rw [State.chan_updChan, if_pos ⟨rfl, hc⟩]
  unfold State.peakChannel State.takeOvr
  rw [hdone]
  dsimp only
  split
  · next v hv =>
    rw [State.core_of_stage (State.emit_stage _ c t), State.chan_updChan, if_pos ⟨rfl, hc⟩, hdone]
    simp [ChanU.atPeak, ChanU.core, hv]
  · next hv =>
    rw [hdone]
    simp [ChanU.atPeak, ChanU.core, hv]

/-- It is no matter of a group, nor of another channel. -/
theorem State.peakChannel_others (s : State) (t c : Nat) :
    (∀ g, (s.peakChannel t c).grp g = s.grp g) ∧ ∀ k, k ≠ c → ((s.peakChannel t c).chan k).core = (s.chan k).core := by
  unfold State.peakChannel State.takeOvr
  split
  · refine ⟨fun g => ?_, fun k hk => ?_⟩
    · rw [State.grp_of_stage (State.emit_stage _ c t)]
      simp
    · rw [State.core_of_stage (State.emit_stage _ c t), State.chan_updChan, if_neg (fun h => hk h.1), State.chan_updChan, if_neg (fun h => hk h.1)]
  · refine ⟨fun g => State.grp_updChan s c g _, fun k hk => ?_⟩
    rw [State.chan_updChan, if_neg (fun h => hk h.1)]

/-- The channels and the events touch no register of a carrier, and take no time. -/
theorem State.peakEvents_changes (s : State) (g t : Nat) :
    Evolves ([Part.fresh, .timers, .pick, .reg .SN_SEQSTAT, .reg .PK_LATE] ++ gateParts) s (s.peakEvents g t) :=
  Evolves.step (State.each_evolves (.refl _ s) _ _ (fun _ _ ht => State.takeOvr_evolves (State.updChan_evolves ht _ _ (by decide +kernel)) _ _
    (by decide +kernel))) (State.carrierEvents_changes _ g true) (by decide +kernel)

/-- Nor do they move a group. -/
theorem State.peakEvents_grp (s : State) (g t x : Nat) : (s.peakEvents g t).grp x = s.grp x :=
  (State.grp_of_stage ((State.carrierEvents_changes _ g true).stage (by decide)) x).trans
    (State.each_keeps (fun u => u.grp x) _ _ (fun u c => (u.peakChannel_others t c).1 x) s)

/-- The plan is the one that the state before had. -/
theorem State.peakEvents_plan (s : State) (g : Block) (t : Nat) : (s.peakEvents g.val t).peakPlan g.val t = s.peakPlan g.val t := by
  refine State.peakPlan_congr (s.peakEvents_grp g.val t) (fun f x hx hf => ?_) g.isLt t
  rcases hf with hf | hf | hf
  · exact (s.peakEvents_changes g.val t).get (hf ▸ grpctl_has ⟨x, hx⟩) (by rw [hf]; decide)
  · exact (s.peakEvents_changes g.val t).get (hf ▸ grpstat_has ⟨x, hx⟩) (by rw [hf]; decide)
  · exact (s.peakEvents_changes g.val t).get (hf ▸ grpact_has ⟨x, hx⟩) (by rw [hf]; decide)

/-! ### A peak -/

section Peak
variable (s : State) (g : Block) (t : Nat)

/-- Of the power stage, DWELL says nothing. -/
theorem State.peak_power : (s.peak g.val t).power = ((s.peakEvents g.val t).peakTurn g.val t (s.peakPlan g.val t)).power := by
  rw [State.peak_eq, State.peakEvents_plan]
  split <;> rfl

/-- The group after its peak. -/
theorem State.peak_grp : (s.peak g.val t).grp g.val =
    { s.grp g.val with lastAt := t, falling := decide (s.peakDwell g.val t = 0), dwell := 0, dwellEnd := t + s.peakDwell g.val t,
                       adjust := (s.peakPlan g.val t).2 } := by
  unfold State.grp
  rw [State.peak_power]
  change State.grp ((s.peakEvents g.val t).updGrp g.val _) g.val = _
  rw [State.grp_updGrp, if_pos ⟨rfl, g.isLt⟩, State.peakEvents_grp]
  rfl

/-- DWELL shows whether a dwell was made. -/
theorem State.peak_dwell (h : s.on PW_GRPSTAT_DWELL g.val = false) :
    (s.peak g.val t).on PW_GRPSTAT_DWELL g.val = decide (s.peakDwell g.val t ≠ 0) := by
  have hbefore : ((s.peakEvents g.val t).peakTurn g.val t (s.peakPlan g.val t)).on PW_GRPSTAT_DWELL g.val = false :=
    ((State.updGrp_evolves (.refl _ _) g.val _ (covers_self _)).on (f := PW_GRPSTAT_DWELL) (grpstat_has g) (by decide)).trans
      (((s.peakEvents_changes g.val t).on (f := PW_GRPSTAT_DWELL) (grpstat_has g) (by decide)).trans h)
  rw [State.peak_eq, State.peakEvents_plan]
  unfold State.peakDwell
  split
  · next hd => simp [hbefore, hd]
  · next hd =>
    rw [State.on_put _ PW_GRPSTAT_DWELL 1 g.val 0 (grpstat_has g) (by decide)]
    simp [hd, PW_GRPSTAT_DWELL]

/-- A channel of the group's block has its waiting override. -/
theorem State.peak_chan (c : Cell) (h : s.blockOf c.val = some g.val) : ((s.peak g.val t).chan c.val).core = (s.chan c.val).core.atPeak := by
  have hchan : (s.peak g.val t).chan c.val = (s.peakEvents g.val t).chan c.val := by
    unfold State.chan
    rw [State.peak_power]
    exact State.chan_updGrp (s.peakEvents g.val t) g.val c.val _
  have hevents : ((s.peakEvents g.val t).chan c.val).core = _ :=
    State.core_of_stage ((State.carrierEvents_changes (s.each (s.cellsOf g.val) (fun s c => s.peakChannel t c)) g.val true).stage (by decide)) c.val
  rw [hchan, hevents]
  exact State.each_core (f := fun s c => s.peakChannel t c) (fun s c k hk => (s.peakChannel_others t c).2 k hk)
    (fun s c hc => s.peakChannel_core t c hc) c.isLt _ s (s.cellsOf_nodup _) (State.mem_cellsOf h)

/-- A peak takes no time. -/
theorem State.peak_now : (s.peak g.val t).now = s.now := by
  rw [State.peak_eq, State.peakEvents_plan]
  have hturn : ((s.peakEvents g.val t).peakTurn g.val t (s.peakPlan g.val t)).now = s.now :=
    ((State.updGrp_evolves (.refl _ _) g.val _ (covers_self _)).kept .now (by decide)).trans ((s.peakEvents_changes g.val t).kept .now (by decide))
  split <;> exact hturn

end Peak

end Sys2Proof.Machine
end
section
/-! SUPPORT. The commands of a carrier (R154 to R168). -/

namespace Sys2Proof.Machine

/-! ### The next valley -/

/-- The next valley of a falling carrier comes at its turn's instant. -/
theorem exec_carrierValley {s : State} {g : Block} (h : s.valleyNext g.val = true) :
    exec (.carrierValley g) s = .next ((s.advanceToInstant (s.turnInstant g.val)).valley g.val (s.turnInstant g.val)) :=
  congrArg Host.Outcome.next (if_pos h)

section Instant
variable (s : State) (g : Block) (t : Nat)

/-- The units and the registers of a carrier at its instant. -/
theorem State.atInstant_grp (x : Nat) : (s.advanceToInstant t).grp x = s.grp x := State.grp_of_stage (s.advanceToInstant_stage t) x

theorem State.atInstant_blkU (x : Nat) : (s.advanceToInstant t).blkU x = s.blkU x := State.blkU_of_stage (s.advanceToInstant_stage t) x

theorem State.atInstant_stat (f : Fld) (hf : f.reg = .PW_GRPSTAT) : (s.advanceToInstant t).get f g.val = s.get f g.val :=
  (s.advanceToInstant_changes t).get (hf ▸ grpstat_has g) (by rw [hf]; decide)

theorem State.atInstant_ctl (f : Fld) (hf : f.reg = .PW_GRPCTL) : (s.advanceToInstant t).get f g.val = s.get f g.val :=
  (s.advanceToInstant_changes t).get (hf ▸ grpctl_has g) (by rw [hf]; decide)

theorem State.atInstant_plan (i : Nat) : (s.advanceToInstant t).peakPlan g.val i = s.peakPlan g.val i := by
  refine State.peakPlan_congr (s.atInstant_grp t) (fun f x hx hf => ?_) g.isLt i
  rcases hf with hf | hf | hf
  · exact s.atInstant_ctl ⟨x, hx⟩ t f hf
  · exact s.atInstant_stat ⟨x, hx⟩ t f hf
  · exact (s.advanceToInstant_changes t).get (hf ▸ grpact_has ⟨x, hx⟩) (by rw [hf]; decide)

/-- The turn of a carrier changes its unit alone. -/
theorem State.valleyTurn_eq : ∃ p, s.valleyTurn g.val t = { s with power := p } := State.updGrp_eq s g.val _

theorem State.valleyTurn_grp : (s.valleyTurn g.val t).grp g.val = { s.grp g.val with falling := false, lastAt := t, adjust := 0, startAt := none } := by
  unfold State.valleyTurn
  rw [State.grp_updGrp, if_pos ⟨rfl, g.isLt⟩]

end Instant

/-- R156, R163, R21: the valley of a falling carrier. -/
theorem valley_comes (s : State) (g : Block) (h : s.valleyNext g.val = true) :
    ∃ t, exec (.carrierValley g) s = .next t ∧
      (t.grp g.val).falling = false ∧
      (t.grp g.val).lastAt = s.turnInstant g.val ∧
      (t.grp g.val).adjust = 0 ∧
      t.now = max s.now (s.tickOf (s.turnInstant g.val)) ∧
      t.get PW_GRPSTAT_NCOUNT g.val = (s.get PW_GRPSTAT_NCOUNT g.val + 1) % (s.get PW_GRPCTL_NSKIP g.val + 1) ∧
      (∀ st : Fin 4, (s.blkU g.val).exit = some st.val → t.blk g.val = st.val) ∧
      (t.blkU g.val).exit = none := by
  have hrun := (s.advanceToInstant (s.turnInstant g.val)).valley_run g (s.turnInstant g.val)
  refine ⟨_, exec_carrierValley h, (congrArg GroupU.falling hrun :), (congrArg GroupU.lastAt hrun :), (congrArg GroupU.adjust hrun :), ?_, ?_,
    fun st hst => ?_, State.valley_exit _ g _⟩
  · rw [State.valley_now, State.advanceToInstant_now]
  · rw [State.valley_stat _ g _ PW_GRPSTAT_NCOUNT rfl (by decide) (by decide), State.valleyCount_ncount, State.atInstant_stat _ g _ _ rfl,
      State.atInstant_ctl _ g _ _ rfl]
  · exact State.valley_blk _ g _ st (by rw [State.atInstant_blkU, hst])

/-- R163: a pending set copied in an earlier tick becomes active. -/
theorem valley_applies_pending (s : State) (g : Block) (u : UpdateSet) (h : s.valleyNext g.val = true) (hn : s.get PW_GRPSTAT_NCOUNT g.val = 0)
    (hauto : s.on PW_GRPCTL_AUTOC g.val = false) (hpend : (s.grp g.val).pend = some u) (hbefore : u.copied < s.now) :
    ∃ t, exec (.carrierValley g) s = .next t ∧
      t.get PW_GRPACT_PRD g.val = u.prd.toNat % 2 ^ PW_GRPACT_PRD.width ∧
      (t.grp g.val).pend = none ∧
      t.on PW_GRPCOMMIT_PENDING g.val = false ∧
      t.get PW_GRPSTAT_APPLIED g.val = (s.get PW_GRPSTAT_APPLIED g.val + 1) % 2 ^ PW_GRPSTAT_APPLIED.width ∧
      (t.grp g.val).phase = u.phase := by
  refine ⟨_, exec_carrierValley h, ?_⟩
  generalize s.turnInstant g.val = i
  have hturn := (s.advanceToInstant i).valleyTurn_grp g i
  obtain ⟨p, hp⟩ := (s.advanceToInstant i).valleyTurn_eq g i
  have hpend' : (((s.advanceToInstant i).valleyTurn g.val i).grp g.val).pend = some u := by
    rw [hturn, State.atInstant_grp]
    exact hpend
  have hn' : ((s.advanceToInstant i).valleyTurn g.val i).get PW_GRPSTAT_NCOUNT g.val = 0 := by
    rw [hp]
    exact (s.atInstant_stat g i _ rfl).trans hn
  have hauto' : ((s.advanceToInstant i).valleyTurn g.val i).on PW_GRPCTL_AUTOC g.val = false := by
    rw [hp]
    exact (congrArg (· != 0) (s.atInstant_ctl g i PW_GRPCTL_AUTOC rfl) :).trans hauto
  have hbefore' : u.copied < ((s.advanceToInstant i).valleyTurn g.val i).now := by
    rw [hp]
    exact lt_of_lt_of_le hbefore (s.advanceToInstant_changes i).now
  have hdue := State.applyDue_pending hn' hauto' hpend' hbefore'
  obtain ⟨hcourse, hact, hcommit, happlied⟩ := State.valley_applied _ g i hdue
  generalize hq : (((s.advanceToInstant i).valleyTurn g.val i).updGrp g.val (fun x => { x with pend := none })).put PW_GRPCOMMIT_PENDING 0 g.val = q
    at hcourse hact hcommit happlied
  obtain ⟨hprd, hcount, hphase, hkept⟩ := q.takeSet_gives g u
  have hqpend : (q.grp g.val).pend = none := by
    rw [← hq, State.put_grp, State.grp_updGrp, if_pos ⟨rfl, g.isLt⟩]
  have hqcommit : q.on PW_GRPCOMMIT_PENDING g.val = false := by
    rw [← hq]
    exact State.on_put _ PW_GRPCOMMIT_PENDING 0 g.val 0 (grpcommit_has g) (by decide)
  have hqstat : q.get PW_GRPSTAT_APPLIED g.val = s.get PW_GRPSTAT_APPLIED g.val := by
    rw [← hq, State.get_put_of_apart _ _ _ _ (grpstat_has g) (by decide),
      (State.updGrp_evolves (.refl _ _) g.val _ (covers_self _)).get (f := PW_GRPSTAT_APPLIED) (grpstat_has g) (by decide), hp]
    exact s.atInstant_stat g i _ rfl
  refine ⟨(congrArg PW_GRPACT_PRD.of hact :).trans hprd, (congrArg GroupU.pend hcourse :).trans (hkept.trans hqpend), ?_, ?_,
    (congrArg GroupU.phase hcourse :).trans hphase⟩
  · have htake := (State.takeSet_evolves (.refl _ q) g.val u (covers_self _)).on (f := PW_GRPCOMMIT_PENDING) (grpcommit_has g) (by decide)
    exact (congrArg (fun w => PW_GRPCOMMIT_PENDING.of w != 0) hcommit :).trans (htake.trans hqcommit)
  · rw [happlied, hcount, hqstat]

/-- R163, R167: a placed first valley starts an enabled carrier. -/
theorem placed_valley_starts (s : State) (g : Block) (i : Nat) (hrun : s.on PW_GRPSTAT_RUN g.val = false) (hstart : (s.grp g.val).startAt = some i)
    (hen : s.on PW_GRPCTL_EN g.val = true) (hclk : s.pwmClock = true) :
    ∃ t, exec (.carrierValley g) s = .next t ∧
      t.on PW_GRPSTAT_RUN g.val = true ∧
      (t.grp g.val).falling = false ∧
      (t.grp g.val).lastAt = i ∧
      (t.grp g.val).startAt = none ∧
      t.now = max s.now (s.tickOf i) := by
  have hexec : exec (.carrierValley g) s = .next (((s.advanceToInstant i).put PW_GRPSTAT_RUN 1 g.val).valley g.val i) := by
    show Host.Outcome.next (s.nextValley g.val) = _
    simp [State.nextValley, State.valleyNext, hrun, hstart, hen, hclk]
  have hrise := ((s.advanceToInstant i).put PW_GRPSTAT_RUN 1 g.val).valley_run g i
  refine ⟨_, hexec, ?_, (congrArg GroupU.falling hrise :), (congrArg GroupU.lastAt hrise :), (congrArg GroupU.startAt hrise :), ?_⟩
  · rw [State.valley_runs]
    exact State.on_put _ PW_GRPSTAT_RUN 1 g.val 0 (grpstat_has g) (by decide)
  · rw [State.valley_now]
    exact s.advanceToInstant_now i

/-- R163: at another NCOUNT than 0 neither the period nor the pending set changes. -/
theorem valley_between_applies_none (s : State) (g : Block) (h : s.valleyNext g.val = true) (hn : s.get PW_GRPSTAT_NCOUNT g.val ≠ 0) :
    ∃ t, exec (.carrierValley g) s = .next t ∧
      t.get PW_GRPACT_PRD g.val = s.get PW_GRPACT_PRD g.val ∧
      (t.grp g.val).pend = (s.grp g.val).pend ∧
      t.get PW_GRPSTAT_APPLIED g.val = s.get PW_GRPSTAT_APPLIED g.val := by
  refine ⟨_, exec_carrierValley h, ?_⟩
  generalize s.turnInstant g.val = i
  obtain ⟨p, hp⟩ := (s.advanceToInstant i).valleyTurn_eq g i
  have hnone : ((s.advanceToInstant i).valleyTurn g.val i).applyDue g.val = (s.advanceToInstant i).valleyTurn g.val i :=
    State.applyDue_elsewhere (by rw [hp]; exact fun e => hn ((s.atInstant_stat g i _ rfl).symm.trans e))
  obtain ⟨hcourse, hact, -, happlied⟩ := State.valley_applied _ g i hnone
  rw [hp] at hact happlied
  refine ⟨(congrArg PW_GRPACT_PRD.of hact :).trans ((s.advanceToInstant_changes i).get (f := PW_GRPACT_PRD) (grpact_has g) (by decide)), ?_,
    happlied.trans (s.atInstant_stat g i _ rfl)⟩
  rw [State.valleyTurn_grp, State.atInstant_grp] at hcourse
  exact (congrArg GroupU.pend hcourse :)

/-- R163: with AUTOC a shadow that R154 admits becomes active. -/
theorem valley_applies_shadow (s : State) (g : Block) (h : s.valleyNext g.val = true) (hn : s.get PW_GRPSTAT_NCOUNT g.val = 0)
    (hauto : s.on PW_GRPCTL_AUTOC g.val = true) (hok : prdOk (s.get PW_GRPPRD_PRD g.val) (s.get PW_GRPCTL_PRE g.val) = true)
    (_hexit : (s.blkU g.val).exit = none) :
    ∃ t, exec (.carrierValley g) s = .next t ∧
      t.get PW_GRPACT_PRD g.val = s.get PW_GRPPRD_PRD g.val ∧
      t.get PW_GRPSTAT_APPLIED g.val = (s.get PW_GRPSTAT_APPLIED g.val + 1) % 2 ^ PW_GRPSTAT_APPLIED.width := by
  refine ⟨_, exec_carrierValley h, ?_⟩
  generalize s.turnInstant g.val = i
  obtain ⟨p, hp⟩ := (s.advanceToInstant i).valleyTurn_eq g i
  generalize hq : (s.advanceToInstant i).valleyTurn g.val i = q at hp
  have hprd : q.get PW_GRPPRD_PRD g.val = s.get PW_GRPPRD_PRD g.val := by
    rw [hp]
    exact (s.advanceToInstant_changes i).get (f := PW_GRPPRD_PRD) (grpprd_has g) (by decide)
  have hstat : ∀ f : Fld, f.reg = .PW_GRPSTAT → q.get f g.val = s.get f g.val := fun f hf => by
    rw [hp]
    exact s.atInstant_stat g i f hf
  have hctl : ∀ f : Fld, f.reg = .PW_GRPCTL → q.get f g.val = s.get f g.val := fun f hf => by
    rw [hp]
    exact s.atInstant_ctl g i f hf
  have hdue := State.applyDue_shadow ((hstat PW_GRPSTAT_NCOUNT rfl).trans hn) ((congrArg (· != 0) (hctl PW_GRPCTL_AUTOC rfl) :).trans hauto)
    (by rw [hprd, hctl _ rfl]; exact hok)
  obtain ⟨hgive, hcount, -, -⟩ := q.takeSet_gives g (q.shadowSet g.val)
  rw [← hq] at hdue
  obtain ⟨-, hact, -, happlied⟩ := State.valley_applied _ g i hdue
  rw [hq] at hact happlied
  have hwritten : Evolves [.power] _ ((q.takeSet g.val (q.shadowSet g.val)).clearWritten g.val) :=
    State.clearWritten_evolves (.refl _ (q.takeSet g.val (q.shadowSet g.val))) g.val (covers_self _)
  refine ⟨(congrArg PW_GRPACT_PRD.of hact :).trans (((hwritten.get (f := PW_GRPACT_PRD) (grpact_has g) (by decide)).trans hgive).trans ?_), ?_⟩
  · rw [← hprd]
    simp [State.get, Fld.of, bits, PW_GRPPRD_PRD, PW_GRPACT_PRD, State.shadowSet]
  · rw [happlied, hwritten.get (f := PW_GRPSTAT_APPLIED) (grpstat_has g) (by decide), hcount, hstat _ rfl]

/-- R158: one-pulse flags end at a valley. -/
theorem valley_ends_pulses (s : State) (g : Block) (c : Cell) (h : s.valleyNext g.val = true) (_hexit : (s.blkU g.val).exit = none)
    (hbound : s.blockOf c.val = some g.val) : ∃ t, exec (.carrierValley g) s = .next t ∧ (t.chan c.val).done = false := by
  refine ⟨_, exec_carrierValley h, State.valley_done _ g _ c ?_⟩
  rw [(s.advanceToInstant_changes _).blockOf (by decide) (by decide), hbound]

/-- Where no valley is to come the command changes nothing. -/
theorem no_valley_to_come (s : State) (g : Block) (h : s.valleyNext g.val = false)
    (hnone : (s.grp g.val).startAt = none ∨ s.on PW_GRPCTL_EN g.val = false ∨ s.on PW_GRPSTAT_RUN g.val = true ∨ s.pwmClock = false) :
    ∃ t, exec (.carrierValley g) s = .next t ∧ t = s := by
  refine ⟨s, ?_, rfl⟩
  show Host.Outcome.next (s.nextValley g.val) = _
  unfold State.nextValley
  rw [h, if_neg Bool.false_ne_true]
  rcases hnone with hstart | hoff
  · rw [hstart]
  · split
    · rw [if_neg (by rcases hoff with hen | hrun | hclk <;> simp [*])]
    · rfl

/-! ### The next peak and the dwell -/

/-- R156, R167, R170: the peak of a rising carrier. -/
theorem peak_comes (s : State) (g : Block) (hrun : s.on PW_GRPSTAT_RUN g.val = true) (hclk : s.pwmClock = true)
    (hrise : (s.grp g.val).falling = false) (hdwell : s.on PW_GRPSTAT_DWELL g.val = false) :
    ∃ t, exec (.carrierPeak g) s = .next t ∧
      (t.grp g.val).lastAt = s.turnInstant g.val ∧
      t.now = max s.now (s.tickOf (s.turnInstant g.val)) ∧
      (t.grp g.val).falling = decide (s.peakDwell g.val (s.turnInstant g.val) = 0) ∧
      t.on PW_GRPSTAT_DWELL g.val = decide (s.peakDwell g.val (s.turnInstant g.val) ≠ 0) ∧
      (t.grp g.val).dwellEnd = s.turnInstant g.val + s.peakDwell g.val (s.turnInstant g.val) ∧
      (∀ c : Cell, s.blockOf c.val = some g.val → (s.chan c.val).ovrWait.isSome = true →
        some (t.chan c.val).ovr = (s.chan c.val).ovrWait ∧ (t.chan c.val).ovrWait = none) := by
  have hexec : exec (.carrierPeak g) s = .next ((s.advanceToInstant (s.turnInstant g.val)).peak g.val (s.turnInstant g.val)) :=
    congrArg Host.Outcome.next (if_pos (by simp [hrun, hclk, hrise, hdwell]))
  refine ⟨_, hexec, ?_⟩
  generalize s.turnInstant g.val = i
  have hplan : (s.advanceToInstant i).peakDwell g.val i = s.peakDwell g.val i := congrArg Prod.fst (s.atInstant_plan g i i)
  have hgrp := (s.advanceToInstant i).peak_grp g i
  rw [hplan] at hgrp
  refine ⟨(congrArg GroupU.lastAt hgrp :), ?_, (congrArg GroupU.falling hgrp :), ?_, (congrArg GroupU.dwellEnd hgrp :), fun c hc hwait => ?_⟩
  · rw [State.peak_now, State.advanceToInstant_now]
  · rw [State.peak_dwell _ g i ((congrArg (· != 0) (s.atInstant_stat g i PW_GRPSTAT_DWELL rfl) :).trans hdwell), hplan]
  · have hcore := (s.advanceToInstant i).peak_chan g i c (((s.advanceToInstant_changes i).blockOf (by decide) (by decide) c.val).trans hc)
    rw [State.core_of_stage (s.advanceToInstant_stage i)] at hcore
    obtain ⟨w, hw⟩ := Option.isSome_iff_exists.1 hwait
    have hatPeak : (s.chan c.val).core.atPeak = { (s.chan c.val).core with done := false, ovr := w, ovrWait := none } := by
      simp [ChanU.atPeak, ChanU.core, hw]
    rw [hatPeak] at hcore
    rw [hw]
    exact ⟨congrArg some (congrArg ChanU.ovr hcore :), (congrArg ChanU.ovrWait hcore :)⟩

/-- R167: the end of a dwell makes the carrier fall. -/
theorem dwell_ends (s : State) (g : Block) (hdwell : s.on PW_GRPSTAT_DWELL g.val = true) (hclk : s.pwmClock = true) :
    ∃ t, exec (.peakDwellEnd g) s = .next t ∧
      t.on PW_GRPSTAT_DWELL g.val = false ∧
      (t.grp g.val).falling = true ∧
      (t.grp g.val).lastAt = (s.grp g.val).dwellEnd ∧
      t.now = max s.now (s.tickOf (s.grp g.val).dwellEnd) := by
  refine ⟨_, congrArg Host.Outcome.next (if_pos (by rw [hdwell, hclk]; rfl)), ?_⟩
  dsimp only
  generalize (s.grp g.val).dwellEnd = i
  generalize hq : (s.advanceToInstant i).put PW_GRPSTAT_DWELL 0 g.val = q
  have hfall : (q.updGrp g.val (fun u => { u with falling := true, lastAt := i })).grp g.val = { q.grp g.val with falling := true, lastAt := i } := by
    rw [State.grp_updGrp, if_pos ⟨rfl, g.isLt⟩]
  refine ⟨?_, (congrArg GroupU.falling hfall :), (congrArg GroupU.lastAt hfall :), ?_⟩
  · rw [(State.updGrp_evolves (.refl _ q) g.val _ (covers_self _)).on (f := PW_GRPSTAT_DWELL) (grpstat_has g) (by decide), ← hq]
    exact State.on_put _ PW_GRPSTAT_DWELL 0 g.val 0 (grpstat_has g) (by decide)
  · have hnow := (State.updGrp_evolves (.refl _ q) g.val (fun u => { u with falling := true, lastAt := i }) (covers_self _)).kept .now (by decide)
    refine Eq.trans hnow ?_
    rw [← hq]
    exact s.advanceToInstant_now i

/-- Where no peak is to come the command changes nothing. -/
theorem no_peak_to_come (s : State) (g : Block)
    (h : s.on PW_GRPSTAT_RUN g.val = false ∨ s.pwmClock = false ∨ (s.grp g.val).falling = true ∨ s.on PW_GRPSTAT_DWELL g.val = true) :
    ∃ t, exec (.carrierPeak g) s = .next t ∧ t = s :=
  ⟨s, congrArg Host.Outcome.next (if_neg (by rcases h with h | h | h | h <;> simp [h])), rfl⟩

/-- Nor where no dwell is made. -/
theorem no_dwell_to_end (s : State) (g : Block) (h : s.on PW_GRPSTAT_DWELL g.val = false ∨ s.pwmClock = false) :
    ∃ t, exec (.peakDwellEnd g) s = .next t ∧ t = s :=
  ⟨s, congrArg Host.Outcome.next (if_neg (by rcases h with h | h <;> simp [h])), rfl⟩

/-! ### Missing markers (R168) -/

/-- R168: after eight missing markers SYNCLOCK ends, the group running on as placed. -/
theorem sync_is_lost (s : State) (g : Block) (hsrc : s.get PW_GRPCTL_SYNCSRC g.val = 2) (hmiss : 8 ≤ (s.grp g.val).missing) :
    ∃ t, exec (.syncLost g) s = .next t ∧
      t.get PW_GRPSTAT_SYNCLOCK g.val = 0 ∧
      t.get PW_GRPSTAT_SYNC_LOST g.val = 1 ∧
      t.grp g.val = s.grp g.val := by
  refine ⟨_, congrArg Host.Outcome.next (if_pos ⟨hsrc, hmiss⟩), ?_, ?_, rfl⟩
  · rw [State.get_put_of_apart _ _ _ _ (grpstat_has g) (by decide)]
    exact State.get_put s PW_GRPSTAT_SYNCLOCK 0 g.val 0 (grpstat_has g) (by decide)
  · exact State.get_put _ PW_GRPSTAT_SYNC_LOST 1 g.val 0 (grpstat_has g) (by decide)

/-- With fewer, or of another source, nothing changes. -/
theorem sync_is_not_lost (s : State) (g : Block) (h : s.get PW_GRPCTL_SYNCSRC g.val ≠ 2 ∨ (s.grp g.val).missing < 8) :
    ∃ t, exec (.syncLost g) s = .next t ∧ t = s :=
  ⟨s, congrArg Host.Outcome.next (if_neg (fun hc => h.elim (· hc.1) (by omega))), rfl⟩

/-- Settles O32, clause by clause. -/
theorem carriersTurn : Obligations.CarriersTurn :=
  ⟨valley_comes, valley_applies_pending, placed_valley_starts, peak_comes, dwell_ends, sync_is_lost, valley_between_applies_none, valley_applies_shadow,
    valley_ends_pulses, no_valley_to_come, no_peak_to_come, no_dwell_to_end, sync_is_not_lost⟩

end Sys2Proof.Machine
end
section
/-! SUPPORT. What a raise and a record leave (R301, R308): the deadlines of others, and a source raised for its slice; a stored field and the places of
other registers. -/

namespace Sys2Proof.Machine

/-! ### Deadlines -/

/-- A deadline that is armed. -/
theorem State.deadline_arm (s : State) (t : Timer) (d : Nat) : (s.arm t d).deadline t = some (s.now + d) := by
  simp [State.arm, State.deadline]

/-- Another deadline is as it was. -/
theorem State.deadline_arm_ne (s : State) {t u : Timer} (d : Nat) (h : u ≠ t) : (s.arm t d).deadline u = s.deadline u := by
  unfold State.arm State.deadline
  rw [List.find?_cons_of_neg (by simpa using Ne.symm h), List.find?_filter]
  refine congrArg _ (List.find?_congr (fun p _ => ?_))
  by_cases hp : p.1 = u <;> simp [hp, h]

/-- A deadline that is disarmed is not armed. -/
theorem State.armed_disarm (s : State) (t : Timer) : (s.disarm t).armed t = false := by
  unfold State.disarm State.armed State.deadline
  rw [List.find?_filter]
  simp

/-- Another deadline is as it was. -/
theorem State.deadline_disarm_ne (s : State) {t u : Timer} (h : u ≠ t) : (s.disarm t).deadline u = s.deadline u := by
  unfold State.disarm State.deadline
  rw [List.find?_filter]
  refine congrArg _ (List.find?_congr (fun p _ => ?_))
  by_cases hp : p.1 = u <;> simp [hp, h]

/-- A change that does not name the deadlines leaves each. -/
theorem Evolves.deadline {A : List Part} {s t : State} (h : Evolves A s t) (hp : Part.timers ∉ A) (u : Timer) : t.deadline u = s.deadline u := by
  have htimers : t.timers = s.timers := h.kept .timers hp
  unfold State.deadline
  rw [htimers]

/-! ### What a raise leaves (R301, R308) -/

/-- The pending bit of a raised source, a merge counted (R301). -/
def State.setRaised (s : State) (src : Nat) : State :=
  (if s.isPending (s.get IC_SRCCFG_TARGET src) src then s.bumpSat IC_SSTAT_MERGECNT (s.get IC_SRCCFG_TARGET src) else s).setPending
    (s.get IC_SRCCFG_TARGET src) src true

/-- A source is noted as held by its group. -/
def State.noteHeld (s : State) (n src g : Nat) : State :=
  if s.intc.held.contains ⟨n, src, g⟩ then s else { s with intc := { s.intc with held := ⟨n, src, g⟩ :: s.intc.held } }

/-- A raised source that its group `g` holds (R308): the first starts the group's time, the last of COUNT releases it. -/
def State.holdRaised (s : State) (n src g : Nat) : State :=
  let h := s.get IC_GSTAT_HELD g
  let s2 := s.noteHeld n src g
  let s3 := if h = 0 then s2.arm (.icGroup g) (atLeast1 (s2.get IC_GSTAT_TIME g) * us) else s2
  if h + 1 ≥ atLeast1 (s3.get IC_GCFG_COUNT g) then s3.releaseGroup g else s3.put IC_GSTAT_HELD (h + 1) g

/-- A raise, step by step. -/
theorem State.raise_eq (s : State) (src : Nat) :
    s.raise src = if s.on IC_SRCCFG_GROUPED src && s.on IC_GCFG_EN (s.get IC_SRCCFG_GROUP src) &&
        (!s.isPending (s.get IC_SRCCFG_TARGET src) src || s.isHeld (s.get IC_SRCCFG_TARGET src) src) then
      (s.setRaised src).holdRaised (s.get IC_SRCCFG_TARGET src) src (s.get IC_SRCCFG_GROUP src)
    else (s.setRaised src).wakeSlice (s.get IC_SRCCFG_TARGET src) := rfl

section Raise
variable {β : Type} (p : State → β) (hregs : ∀ (t : State) r f c, p { t with regs := r, fresh := f, intc := c } = p t)
  (hwake : ∀ (t : State) k, p (t.wakeSlice k) = p t) (harm : ∀ (t : State) k d, p (t.arm (.icGroup k) d) = p t)
  (hdisarm : ∀ (t : State) k, p (t.disarm (.icGroup k)) = p t)
include hregs hwake hdisarm

/-- What neither registers, slices nor group deadlines show, the release of a group leaves. -/
theorem State.releaseGroup_keeps (s : State) (g : Nat) : p (s.releaseGroup g) = p s := by
  unfold State.releaseGroup
  dsimp only
  rw [State.each_keeps p _ _ hwake, hdisarm]
  exact hregs s _ _ _

include harm

/-- So does a raise. -/
theorem State.raise_keeps (s : State) (src : Nat) : p (s.raise src) = p s := by
  have hset : p (s.setRaised src) = p s := by
    unfold State.setRaised
    split
    · exact hregs s _ _ s.intc
    · exact hregs s _ _ s.intc
  have hnoted : ∀ (t : State) n g, p (t.noteHeld n src g) = p t := fun t n g => by
    unfold State.noteHeld
    split
    · rfl
    · exact hregs t t.regs t.fresh _
  have hheld : ∀ (t : State) n g, p (t.holdRaised n src g) = p t := fun t n g => by
    have hput : ∀ (u : State) v, p (u.put IC_GSTAT_HELD v g) = p u := fun u v => hregs u _ _ u.intc
    unfold State.holdRaised
    dsimp only
    repeat' split
    all_goals simp only [State.releaseGroup_keeps p hregs hwake hdisarm, hput, harm, hnoted]
  rw [State.raise_eq]
  split
  · rw [hheld, hset]
  · rw [hwake, hset]

end Raise

/-- A raise leaves every deadline but those of the coalescing groups. -/
theorem State.raise_deadline (s : State) (src : Nat) {u : Timer} (h : ∀ k, u ≠ .icGroup k) : (s.raise src).deadline u = s.deadline u :=
  State.raise_keeps (fun t => t.deadline u) (fun _ _ _ _ => rfl)
    (fun t k => (State.wakeSlice_evolves (.refl _ t) k (covers_self _)).deadline (by decide) u) (fun t k d => t.deadline_arm_ne d (h k))
    (fun t k => t.deadline_disarm_ne (h k)) s src

/-! ### A raised source -/

/-- Every source has its SRCCFG. -/
theorem srccfg_has_of_lt {src : Nat} (h : src < 1024) : RegId.IC_SRCCFG.has src 0 = true := RegId.has_of_lt h rfl Nat.one_pos

/-- Whether a source goes to a slice rests on its SRCCFG. -/
theorem Evolves.routed {A : List Part} {s t : State} (h : Evolves A s t) (hp : Part.reg .IC_SRCCFG ∉ A) {src : Nat} (hs : src < 1024) :
    t.routed src = s.routed src := by
  unfold State.routed
  rw [h.get (f := IC_SRCCFG_TARGET) (srccfg_has_of_lt hs) hp]

/-- A source that goes to a slice is raised for it. -/
theorem State.raise_raised (s : State) {src : Nat} (hs : src < 1024) (h : s.routed src = true) : (s.raise src).raised src = true := by
  unfold State.raised
  rw [(State.raise_evolves (.refl _ s) src (covers_self _)).get (f := IC_SRCCFG_TARGET) (srccfg_has_of_lt hs) (by decide)]
  exact s.raise_raises hs h

/-! ### Places of other registers -/

/-- A field that is stored in a register leaves every place of another, whether it is a copy's or not. -/
theorem State.rdw_put_other (s : State) (f : Fld) (v i j : Nat) {r : RegId} (hr : r ≠ f.reg) {a b : Nat} (ha : a < 2 ^ 12) (hb : b < 2 ^ 12) :
    (s.put f v i j).rdw r a b = s.rdw r a b := by
  rw [State.rdw_put]
  unfold State.wrw State.rdw
  split
  · next hf =>
    obtain ⟨hi, hj⟩ := RegId.has_small hf
    have hkey : r.key a b ≠ f.reg.key i j := fun e => by
      have hidx : r.ctorIdx = f.reg.ctorIdx := by
        unfold RegId.key at e
        omega
      exact hr (by rw [← RegId.ofNat_ctorIdx r, hidx, RegId.ofNat_ctorIdx])
    dsimp only
    rw [sparseFind_set_ne hkey]
  · rfl

end Sys2Proof.Machine
end
section
/-! SUPPORT. Sensing units and the writes of channel registers (R19, R120, R122, R127, R135). -/

namespace Sys2Proof.Machine

/-! ### Units -/

/-- A slice after a change of one. -/
theorem State.slice_updSlice (s : State) (c j : Nat) (f : SliceU → SliceU) (h : 2 * c + j < 240) :
    (s.updSlice c j f).slice c j = f (s.slice c j) := by
  simp [State.updSlice, State.slice, upd, h]

/-- A tracker after a change of one. -/
theorem State.trk_updTrk (s : State) (c : Nat) (f : TrackU → TrackU) (h : c < 120) : (s.updTrk c f).trk c = f (s.trk c) := by
  simp [State.updTrk, State.trk, upd, h]

/-- A slice's change is of no tracker. -/
@[simp] theorem State.updSlice_trackers (s : State) (c j : Nat) (f : SliceU → SliceU) : (s.updSlice c j f).sense.trackers = s.sense.trackers := by
  unfold State.updSlice
  split <;> rfl

/-- Nor of a filter's discards. -/
@[simp] theorem State.updSlice_discard (s : State) (c j : Nat) (f : SliceU → SliceU) : (s.updSlice c j f).sense.discard = s.sense.discard := by
  unfold State.updSlice
  split <;> rfl

/-- A tracker's change is of no filter's discards. -/
@[simp] theorem State.updTrk_discard (s : State) (c : Nat) (f : TrackU → TrackU) : (s.updTrk c f).sense.discard = s.sense.discard := by
  unfold State.updTrk
  split <;> rfl

/-- A tracker's change is of no slice. -/
@[simp] theorem State.updTrk_slices (s : State) (c : Nat) (f : TrackU → TrackU) : (s.updTrk c f).sense.slices = s.sense.slices := by
  unfold State.updTrk
  split <;> rfl

/-- A change of a tracker changes the sensing unit's state alone. -/
theorem State.updTrk_eq (s : State) (c : Nat) (f : TrackU → TrackU) : ∃ x, s.updTrk c f = { s with sense := x } := by
  unfold State.updTrk
  split
  · exact ⟨_, rfl⟩
  · exact ⟨s.sense, rfl⟩

/-- A change of a slice changes the sensing unit's state alone. -/
theorem State.updSlice_eq (s : State) (c j : Nat) (f : SliceU → SliceU) : ∃ x, s.updSlice c j f = { s with sense := x } := by
  unfold State.updSlice
  split
  · exact ⟨_, rfl⟩
  · exact ⟨s.sense, rfl⟩

/-- A filter's discards that are set change the sensing unit's state alone. -/
theorem State.setDiscard_eq (s : State) (c n : Nat) : ∃ x, s.setDiscard c n = { s with sense := x } := by
  unfold State.setDiscard
  split
  · exact ⟨_, rfl⟩
  · exact ⟨s.sense, rfl⟩

/-- The discards that are set are the filter's. -/
theorem State.discards_setDiscard (s : State) (c n : Nat) (h : c - 96 < 24) : (s.setDiscard c n).discards c = n := by
  simp [State.setDiscard, State.discards, h]

/-! ### A channel's registers -/

theorem chctl_has {c : Chan} (h : c.val < 96) : RegId.SN_CHCTL.has c.val 0 = true := RegId.has_of_lt h rfl Nat.one_pos

theorem sdctl_has {c : Chan} (h : 96 ≤ c.val) : RegId.SN_SDCTL.has c.val 0 = true :=
  (RegId.has_iff _ _ _).2 ⟨h, c.isLt, Nat.one_pos⟩

theorem chstat_has (c : Chan) : RegId.SN_CHSTAT.has c.val 0 = true := RegId.has_of_lt c.isLt rfl Nat.one_pos

theorem mmctl_has (c : Chan) : RegId.SN_MMCTL.has c.val 0 = true := RegId.has_of_lt c.isLt rfl Nat.one_pos

theorem mmmin_has (c : Chan) : RegId.SN_MMMIN.has c.val 0 = true := RegId.has_of_lt c.isLt rfl Nat.one_pos

theorem mmmax_has (c : Chan) : RegId.SN_MMMAX.has c.val 0 = true := RegId.has_of_lt c.isLt rfl Nat.one_pos

theorem mminfo_has (c : Chan) : RegId.SN_MMINFO.has c.val 0 = true := RegId.has_of_lt c.isLt rfl Nat.one_pos

theorem slmean_has (c : Chan) (j : Fin 2) : RegId.SN_SLMEAN.has c.val j.val = true :=
  (RegId.has_iff _ _ _).2 ⟨Nat.zero_le _, (Nat.zero_add 120).symm ▸ c.isLt, j.isLt⟩

theorem slinfo_has (c : Chan) (j : Fin 2) : RegId.SN_SLINFO.has c.val j.val = true :=
  (RegId.has_iff _ _ _).2 ⟨Nat.zero_le _, (Nat.zero_add 120).symm ▸ c.isLt, j.isLt⟩

/-- A write to a channel's register that R122 and R19 allow is applied. -/
theorem State.chanWrite_admitted {s : State} {m : Master} {c : Nat} (f : State → State) (hlock : s.lockstep m = true)
    (hown : (s.chanCell c).all (fun k => s.mayWriteCell m k) = true) : s.chanWrite m c f = f s := by
  unfold State.chanWrite
  rw [if_pos hlock]
  cases hk : s.chanCell c with
  | none => rfl
  | some k =>
    rw [hk] at hown
    exact State.asCellOwner_eq s m k f hown

/-- A channel's register written by a lock-step pair: the register's rule, after what the write releases has been noted. -/
theorem State.regStore_chan {s : State} {m : Master} {r : RegId} {c : Nat} (v : Word) (f : Word → State → State) (hopen : s.busOpen m = true)
    (hlock : s.lockstep m = true) (hown : (s.chanCell c).all (fun k => s.mayWriteCell m k) = true) (hwc : r.reg.w1c = 0)
    (hstore : ∀ (t : State) (x : Word), t.store m r x c 0 = t.chanWrite m c (f x)) : ∃ d, s.regStore m r v c = f v { s with drift := d } := by
  obtain ⟨d, hd⟩ := State.regStore_eq s m r v c 0 hopen
  rw [State.settle_of_no_w1c _ _ _ _ _ hwc, hstore] at hd
  exact ⟨d, hd.trans (State.chanWrite_admitted (s := { s with drift := d }) (f v) hlock hown)⟩

/-! ### CHCTL (R120, R122, R127) -/

section Chctl
variable {s : State} {m : Master} {c : Chan} (v : Word) (hopen : s.busOpen m = true) (hlock : s.lockstep m = true)
  (hown : (s.chanCell c.val).all (fun k => s.mayWriteCell m k) = true)
include hopen hlock hown

/-- CHCTL of an AIN channel. -/
theorem exec_chctlWrite_ain (h : c.val < 96) :
    ∃ d, exec (.chctlWrite m c v) s = .next (State.regWrite { s with drift := d } .SN_CHCTL v c.val) := by
  obtain ⟨d, hd⟩ := State.regStore_chan (r := .SN_CHCTL) v (fun x t => t.chctlSenseWrite c.val x) hopen hlock hown rfl (fun _ _ => rfl)
  refine ⟨d, congrArg Host.Outcome.next ?_⟩
  rw [chctlReg, if_pos h, hd]
  exact if_pos h

/-- CHCTL of a bitstream channel. -/
theorem exec_chctlWrite_sd (h : 96 ≤ c.val) :
    ∃ d, exec (.chctlWrite m c v) s = .next (State.sdctlWrite { s with drift := d } c.val v) := by
  obtain ⟨d, hd⟩ := State.regStore_chan (r := .SN_SDCTL) v (fun x t => t.chctlSenseWrite c.val x) hopen hlock hown rfl (fun _ _ => rfl)
  refine ⟨d, congrArg Host.Outcome.next ?_⟩
  rw [chctlReg, if_neg (by omega), hd]
  exact if_neg (by omega)

end Chctl

/-- R122: CHCTL of an AIN channel takes the word. -/
theorem ain_chctl_is_stored (s : State) (m : Master) (c : Chan) (v : Word) (hopen : s.busOpen m = true) (hlock : s.lockstep m = true)
    (hown : (s.chanCell c.val).all (fun k => s.mayWriteCell m k) = true) (h : c.val < 96) :
    ∃ t, exec (.chctlWrite m c v) s = .next t ∧ t.rdw .SN_CHCTL c.val = RegId.SN_CHCTL.written (s.rdw .SN_CHCTL c.val) v := by
  obtain ⟨d, hd⟩ := exec_chctlWrite_ain v hopen hlock hown h
  exact ⟨_, hd, State.rdw_wrw _ _ _ _ _ (chctl_has h)⟩

/-- The fields of a bitstream channel's CHCTL, before the filter is restarted (R120). -/
def State.sdctlFields (s : State) (c : Nat) (v : Word) : State :=
  s.condWrite .SN_SDCTL v (SN_SDCTL_CELL.mask ||| SN_SDCTL_LOCAL.mask) (s.assignOk c (SN_SDCTL_CELL.of v) (SN_SDCTL_LOCAL.of v))
    (fun s => s.chanDenied c) c

/-- A write whose CKSEL names a clock: its fields, and two discards where the filter starts anew (R127). -/
theorem State.sdctlWrite_eq {s : State} {c : Nat} {v : Word} (h : SN_SDCTL_CKSEL.of v ≤ 5) :
    s.sdctlWrite c v = if SN_SDCTL_EN.of v = 1 ∧ (s.get SN_SDCTL_EN c = 0 ∨
        changes (s.rdw .SN_SDCTL c) v (SN_SDCTL_OSRSEL.mask ||| SN_SDCTL_CKSEL.mask) = true) then (s.sdctlFields c v).setDiscard c 2
      else s.sdctlFields c v := by
  unfold State.sdctlWrite
  rw [if_neg (by omega)]
  refine if_congr ?_ rfl rfl
  rw [Bool.and_eq_true, Bool.or_eq_true, beq_iff_eq, beq_iff_eq]
  rfl

/-- Its registers are those of its fields. -/
theorem State.sdctlWrite_rdw {s : State} {c : Nat} {v : Word} (h : SN_SDCTL_CKSEL.of v ≤ 5) (r : RegId) (i : Nat) :
    (s.sdctlWrite c v).rdw r i = (s.sdctlFields c v).rdw r i := by
  obtain ⟨x, hx⟩ := (s.sdctlFields c v).setDiscard_eq c 2
  rw [State.sdctlWrite_eq h, hx]
  split <;> rfl

/-- R120, R127: an admissible assignment is stored, and the filter discards anew where it starts anew. -/
theorem sd_chctl_is_stored (s : State) (m : Master) (c : Chan) (v : Word) (hopen : s.busOpen m = true) (hlock : s.lockstep m = true)
    (hown : (s.chanCell c.val).all (fun k => s.mayWriteCell m k) = true) (h : 96 ≤ c.val) (hck : SN_SDCTL_CKSEL.of v ≤ 5)
    (hok : s.assignOk c.val (SN_SDCTL_CELL.of v) (SN_SDCTL_LOCAL.of v) = true) :
    ∃ t, exec (.chctlWrite m c v) s = .next t ∧
      t.rdw .SN_SDCTL c.val = RegId.SN_SDCTL.written (s.rdw .SN_SDCTL c.val) v ∧
      (t.discards c.val = if SN_SDCTL_EN.of v = 1 ∧ (s.get SN_SDCTL_EN c.val = 0 ∨
        changes (s.rdw .SN_SDCTL c.val) v (SN_SDCTL_OSRSEL.mask ||| SN_SDCTL_CKSEL.mask) = true) then 2 else s.discards c.val) := by
  obtain ⟨d, hd⟩ := exec_chctlWrite_sd v hopen hlock hown h
  have hfields : State.sdctlFields { s with drift := d } c.val v = State.regWrite { s with drift := d } .SN_SDCTL v c.val := if_pos hok
  refine ⟨_, hd, ?_, ?_⟩
  · rw [State.sdctlWrite_rdw hck, hfields]
    exact State.rdw_wrw _ _ _ _ _ (sdctl_has h)
  · rw [State.sdctlWrite_eq hck, hfields]
    refine (apply_ite (fun t : State => t.discards c.val) _ _ _).trans ?_
    rw [State.discards_setDiscard _ _ _ (by have := c.isLt; omega)]
    rfl

/-- The assignment's bits of CHCTL. -/
theorem assignment_bit {k : Nat} (hk : k < 32) : (SN_SDCTL_CELL.mask ||| SN_SDCTL_LOCAL.mask).getLsbD k = decide (14 ≤ k ∧ k < 22) := by
  revert k
  decide

/-- R120: an assignment that is not admissible stays, every other field is stored, and CFG_DENIED says so. -/
theorem sd_assignment_is_denied (s : State) (m : Master) (c : Chan) (v : Word) (hopen : s.busOpen m = true) (hlock : s.lockstep m = true)
    (hown : (s.chanCell c.val).all (fun k => s.mayWriteCell m k) = true) (h : 96 ≤ c.val) (hck : SN_SDCTL_CKSEL.of v ≤ 5)
    (hbad : s.assignOk c.val (SN_SDCTL_CELL.of v) (SN_SDCTL_LOCAL.of v) = false) :
    ∃ t, exec (.chctlWrite m c v) s = .next t ∧
      t.get SN_SDCTL_CELL c.val = s.get SN_SDCTL_CELL c.val ∧
      t.get SN_SDCTL_LOCAL c.val = s.get SN_SDCTL_LOCAL c.val ∧
      (∀ f ∈ [SN_SDCTL_EN, SN_SDCTL_OSRSEL, SN_SDCTL_CKSEL, SN_SDCTL_EDGE, SN_SDCTL_SYNC, SN_SDCTL_SYNCGRP], t.get f c.val = f.of v) ∧
      (changes (s.rdw .SN_SDCTL c.val) v (SN_SDCTL_CELL.mask ||| SN_SDCTL_LOCAL.mask) = true → t.get SN_CHSTAT_CFG_DENIED c.val = 1) := by
  obtain ⟨d, hd⟩ := exec_chctlWrite_sd v hopen hlock hown h
  have hfields : State.sdctlFields { s with drift := d } c.val v = _ :=
    if_neg (by rw [show State.assignOk { s with drift := d } c.val _ _ = _ from hbad]; exact Bool.false_ne_true)
  have hword : (State.sdctlWrite { s with drift := d } c.val v).rdw .SN_SDCTL c.val =
      RegId.SN_SDCTL.written (s.rdw .SN_SDCTL c.val) (keeping (s.rdw .SN_SDCTL c.val) v (SN_SDCTL_CELL.mask ||| SN_SDCTL_LOCAL.mask)) := by
    rw [State.sdctlWrite_rdw hck, hfields]
    split
    · exact (State.rdw_put_ne _ SN_CHSTAT_CFG_DENIED .SN_SDCTL 1 c.val 0 c.val 0 (sdctl_has h) (.inl (by decide))).trans
        (State.rdw_wrw _ _ _ _ _ (sdctl_has h))
    · exact State.rdw_wrw _ _ _ _ _ (sdctl_has h)
  have hfield : ∀ f : Fld, f.reg = .SN_SDCTL → f.lo + f.width ≤ 22 →
      (State.sdctlWrite { s with drift := d } c.val v).get f c.val =
        f.of (keeping (s.rdw .SN_SDCTL c.val) v (SN_SDCTL_CELL.mask ||| SN_SDCTL_LOCAL.mask)) := fun f hf hw => by
    rw [State.get, hf, hword, ← hf]
    refine Fld.of_written f _ _ (by omega) (fun k hk => ?_)
    rw [hf]
    have hbit : f.lo + k < 22 := by omega
    generalize f.lo + k = b at hbit
    revert b
    decide
  have hkept : ∀ f : Fld, f.reg = .SN_SDCTL → 14 ≤ f.lo → f.lo + f.width ≤ 22 →
      (State.sdctlWrite { s with drift := d } c.val v).get f c.val = s.get f c.val := fun f hf hlo hw => by
    rw [hfield f hf hw, Fld.of_keeping_kept f _ _ _ (by omega) (fun k hk => by rw [assignment_bit (by omega)]; exact decide_eq_true ⟨by omega, by omega⟩),
      State.get, hf]
  have hfree : ∀ f : Fld, f.reg = .SN_SDCTL → f.lo + f.width ≤ 14 → (State.sdctlWrite { s with drift := d } c.val v).get f c.val = f.of v :=
    fun f hf hw => by
      rw [hfield f hf (by omega), Fld.of_keeping_free f _ _ _ (by omega) (fun k hk => by
        rw [assignment_bit (by omega)]; exact decide_eq_false (by omega))]
  refine ⟨_, hd, hkept _ rfl (by decide) (by decide), hkept _ rfl (by decide) (by decide), ?_, fun hch => ?_⟩
  · simp only [List.forall_mem_cons, List.not_mem_nil, false_imp_iff, implies_true, and_true]
    exact ⟨hfree _ rfl (by decide), hfree _ rfl (by decide), hfree _ rfl (by decide), hfree _ rfl (by decide), hfree _ rfl (by decide),
      hfree _ rfl (by decide)⟩
  · have hdenied := congrArg SN_CHSTAT_CFG_DENIED.of ((State.sdctlWrite_rdw (s := { s with drift := d }) (c := c.val) hck .SN_CHSTAT c.val).trans
      (congrArg (fun t : State => t.rdw .SN_CHSTAT c.val) (hfields.trans (if_pos hch))))
    exact hdenied.trans (State.get_put _ SN_CHSTAT_CFG_DENIED 1 c.val 0 (chstat_has c) (by decide))

/-- R127: a CKSEL that names no clock refuses the whole write. -/
theorem sd_clock_is_denied (s : State) (m : Master) (c : Chan) (v : Word) (hopen : s.busOpen m = true) (hlock : s.lockstep m = true)
    (hown : (s.chanCell c.val).all (fun k => s.mayWriteCell m k) = true) (h : 96 ≤ c.val) (hck : 5 < SN_SDCTL_CKSEL.of v) :
    ∃ t, exec (.chctlWrite m c v) s = .next t ∧
      t.rdw .SN_SDCTL c.val = s.rdw .SN_SDCTL c.val ∧
      t.get SN_CHSTAT_CFG_DENIED c.val = 1 ∧
      t.discards c.val = s.discards c.val := by
  obtain ⟨d, hd⟩ := exec_chctlWrite_sd v hopen hlock hown h
  have hdenied : State.sdctlWrite { s with drift := d } c.val v = State.chanDenied { s with drift := d } c.val := if_pos hck
  rw [hdenied] at hd
  exact ⟨_, hd, State.rdw_put_ne _ SN_CHSTAT_CFG_DENIED .SN_SDCTL 1 c.val 0 c.val 0 (sdctl_has h) (.inl (by decide)),
    State.get_put _ SN_CHSTAT_CFG_DENIED 1 c.val 0 (chstat_has c) (by decide), rfl⟩

/-- A write to a channel's register by another master sets CFG_DENIED, and OWNER_DENIED where the cell's block has another owner. -/
theorem State.chanWrite_denied {s : State} {m : Master} {c : Nat} (f : State → State) (hlock : s.lockstep m = false) :
    s.chanWrite m c f = s.chanDenied c ∨ ∃ b, s.chanWrite m c f = (s.chanDenied c).put BLK_BLKCTL_OWNER_DENIED 1 b := by
  unfold State.chanWrite
  rw [if_neg (by rw [hlock]; exact Bool.false_ne_true)]
  dsimp only
  split
  · unfold State.asCellOwner State.asOwner
    split
    · split
      · exact .inl rfl
      · exact .inr ⟨_, rfl⟩
    · exact .inl rfl
  · exact .inl rfl

/-- R122: another master than a lock-step pair changes nothing of CHCTL. -/
theorem chctl_of_others_is_denied (s : State) (m : Master) (c : Chan) (v : Word) (hopen : s.busOpen m = true) (hlock : s.lockstep m = false) :
    ∃ t, exec (.chctlWrite m c v) s = .next t ∧
      t.rdw .SN_CHCTL c.val = s.rdw .SN_CHCTL c.val ∧
      t.rdw .SN_SDCTL c.val = s.rdw .SN_SDCTL c.val ∧
      t.get SN_CHSTAT_CFG_DENIED c.val = 1 := by
  have hc : c.val < 2 ^ 12 := lt_of_lt_of_le c.isLt (by decide)
  have hstat : ∀ u : State, (u.chanDenied c.val).get SN_CHSTAT_CFG_DENIED c.val = 1 := fun u =>
    State.get_put u SN_CHSTAT_CFG_DENIED 1 c.val 0 (chstat_has c) (by decide)
  have hplace : ∀ (u : State) (r : RegId), r ≠ .SN_CHSTAT → (u.chanDenied c.val).rdw r c.val = u.rdw r c.val := fun u r hr =>
    State.rdw_put_other u SN_CHSTAT_CFG_DENIED 1 c.val 0 hr hc (by decide)
  have hblock : ∀ (u : State) b (r : RegId), r ≠ .BLK_BLKCTL → (u.put BLK_BLKCTL_OWNER_DENIED 1 b).rdw r c.val = u.rdw r c.val := fun u b r hr =>
    State.rdw_put_other u BLK_BLKCTL_OWNER_DENIED 1 b 0 hr hc (by decide)
  obtain ⟨d, hd⟩ := State.regStore_eq s m (chctlReg c) v c.val 0 hopen
  have hstore : ∃ x, State.store { s with drift := d } m (chctlReg c) (s.settle (chctlReg c) v c.val) c.val 0 =
      State.chanWrite { s with drift := d } m c.val (fun t => t.chctlSenseWrite c.val x) := by
    unfold chctlReg
    split <;> exact ⟨_, rfl⟩
  obtain ⟨x, hx⟩ := hstore
  refine ⟨_, congrArg Host.Outcome.next (hd.trans hx), ?_⟩
  rcases State.chanWrite_denied (s := { s with drift := d }) (c := c.val) (fun t => t.chctlSenseWrite c.val x) hlock with hden | ⟨b, hden⟩
  · rw [hden]
    exact ⟨hplace _ _ (by decide), hplace _ _ (by decide), hstat _⟩
  · rw [hden]
    exact ⟨(hblock _ b _ (by decide)).trans (hplace _ _ (by decide)), (hblock _ b _ (by decide)).trans (hplace _ _ (by decide)),
      (congrArg SN_CHSTAT_CFG_DENIED.of (hblock _ b .SN_CHSTAT (by decide)) :).trans (hstat _)⟩

end Sys2Proof.Machine
end
section
/-! SUPPORT. Windows and records are published, reset events close records, and bitstream outputs are delivered (R126, R127, R132 to R135). -/

namespace Sys2Proof.Machine

/-! ### A min-max record (R135, R442) -/

/-- The registers of a published record. -/
def State.showRecord (s : State) (c : Nat) (r : Int × Int × Nat) : State :=
  (((((s.wrw .SN_MMMIN (wordOfInt (r.1 * 256)) c).wrw .SN_MMMAX (wordOfInt (r.2.1 * 256)) c).put SN_MMINFO_COUNT (min r.2.2 131071) c).put
    SN_MMINFO_NOT_READY 0 c).bump SN_MMINFO_RNUM c)

/-- What a published record shows. -/
theorem State.showRecord_gives (s : State) (c : Chan) (a b : Int) (n : Nat) :
    (s.showRecord c.val (a, b, n)).rdw .SN_MMMIN c.val = wordOfInt (a * 256) ∧
      (s.showRecord c.val (a, b, n)).rdw .SN_MMMAX c.val = wordOfInt (b * 256) ∧
      (s.showRecord c.val (a, b, n)).get SN_MMINFO_COUNT c.val = min n 131071 ∧
      (s.showRecord c.val (a, b, n)).get SN_MMINFO_RNUM c.val = (s.get SN_MMINFO_RNUM c.val + 1) % 2 ^ SN_MMINFO_RNUM.width ∧
      (s.showRecord c.val (a, b, n)).get SN_MMINFO_NOT_READY c.val = 0 := by
  have hinfo := mminfo_has c
  have hwords : ∀ (u : State) (f : Fld) v (r : RegId), f.reg = .SN_MMINFO → r ≠ .SN_MMINFO → r.has c.val 0 = true →
      (u.put f v c.val).rdw r c.val = u.rdw r c.val := fun u f v r hf hr hhas => State.rdw_put_ne u f r v c.val 0 c.val 0 hhas (.inl (hf ▸ hr))
  have hmin : ((s.wrw .SN_MMMIN (wordOfInt (a * 256)) c.val).wrw .SN_MMMAX (wordOfInt (b * 256)) c.val).rdw .SN_MMMIN c.val = wordOfInt (a * 256) :=
    (State.rdw_wrw_ne _ _ _ _ _ _ _ _ (mmmin_has c) (.inl (by decide))).trans (State.rdw_wrw _ _ _ _ _ (mmmin_has c))
  have hmax : ((s.wrw .SN_MMMIN (wordOfInt (a * 256)) c.val).wrw .SN_MMMAX (wordOfInt (b * 256)) c.val).rdw .SN_MMMAX c.val = wordOfInt (b * 256) :=
    State.rdw_wrw _ _ _ _ _ (mmmax_has c)
  have hkept : ((s.wrw .SN_MMMIN (wordOfInt (a * 256)) c.val).wrw .SN_MMMAX (wordOfInt (b * 256)) c.val).rdw .SN_MMINFO c.val = s.rdw .SN_MMINFO c.val :=
    (State.rdw_wrw_ne _ _ _ _ _ _ _ _ hinfo (.inl (by decide))).trans (State.rdw_wrw_ne _ _ _ _ _ _ _ _ hinfo (.inl (by decide)))
  unfold State.showRecord State.bump
  dsimp only
  generalize (s.wrw .SN_MMMIN (wordOfInt (a * 256)) c.val).wrw .SN_MMMAX (wordOfInt (b * 256)) c.val = u at hmin hmax hkept
  refine ⟨?_, ?_, ?_, ?_, ?_⟩
  · rw [hwords _ _ _ _ rfl (by decide) (mmmin_has c), hwords _ _ _ _ rfl (by decide) (mmmin_has c), hwords _ _ _ _ rfl (by decide) (mmmin_has c), hmin]
  · rw [hwords _ _ _ _ rfl (by decide) (mmmax_has c), hwords _ _ _ _ rfl (by decide) (mmmax_has c), hwords _ _ _ _ rfl (by decide) (mmmax_has c), hmax]
  · rw [State.get_put_of_apart _ _ _ _ hinfo (by decide), State.get_put_of_apart _ _ _ _ hinfo (by decide),
      State.get_put u SN_MMINFO_COUNT _ _ _ hinfo (by decide)]
    exact Nat.mod_eq_of_lt (by simp only [SN_MMINFO_COUNT]; omega)
  · rw [State.get_put _ SN_MMINFO_RNUM _ _ _ hinfo (by decide), State.get_put_of_apart _ _ _ _ hinfo (by decide),
      State.get_put_of_apart _ _ _ _ hinfo (by decide)]
    exact congrArg (fun w => (SN_MMINFO_RNUM.of w + 1) % _) hkept
  · rw [State.get_put_of_apart _ _ _ _ hinfo (by decide)]
    exact State.get_put _ SN_MMINFO_NOT_READY 0 c.val 0 hinfo (by decide)

/-- The registers of a record are no matter of the units, and take no time. -/
theorem State.showRecord_sense (s : State) (c : Nat) (r : Int × Int × Nat) : (s.showRecord c r).sense = s.sense := by
  simp [State.showRecord, State.bump]

theorem State.showRecord_now (s : State) (c : Nat) (r : Int × Int × Nat) : (s.showRecord c r).now = s.now := by
  simp [State.showRecord, State.bump]

/-- A published record: its registers, then the producer's record. -/
theorem State.publishRecord_after (s : State) (c : Nat) (r : Int × Int × Nat) : Evolves seamParts (s.showRecord c r) (s.publishRecord c r) :=
  State.record_evolves (.refl _ _) _ _ _ _ _ (covers_self _)

/-- The record that is due: its tracker holds the later ones, and its registers show it. -/
theorem State.publishDue_after {s : State} {c : Nat} {r : Int × Int × Nat} {at_ : Nat} {rest : List ((Int × Int × Nat) × Nat)}
    (h : (s.trk c).closed = (r, at_) :: rest) :
    Evolves seamParts ((s.updTrk c (fun u => { u with closed := rest })).showRecord c r) (s.publishDue c) := by
  have hafter := State.publishRecord_after (s.updTrk c (fun u => { u with closed := rest })) c r
  unfold State.publishDue
  rw [h]
  dsimp only
  split
  · exact State.arm_evolves hafter _ _ (by decide +kernel)
  · exact hafter

/-- R135: with no window outstanding the record that is due is published. -/
theorem record_is_published (s : State) (c : Chan) (j : Fin 2) (d : Nat) (a b : Int) (n u : Nat) (rest : List ((Int × Int × Nat) × Nat))
    (hwindow : s.armed (.publish c.val j.val) = false) (hdue : s.deadline (.record c.val) = some d)
    (hclosed : (s.trk c.val).closed = ((a, b, n), u) :: rest) :
    ∃ t, exec (.windowPublish c j) s = .next t ∧
      t.rdw .SN_MMMIN c.val = wordOfInt (a * 256) ∧
      t.rdw .SN_MMMAX c.val = wordOfInt (b * 256) ∧
      t.get SN_MMINFO_COUNT c.val = min n 131071 ∧
      t.get SN_MMINFO_RNUM c.val = (s.get SN_MMINFO_RNUM c.val + 1) % 2 ^ SN_MMINFO_RNUM.width ∧
      t.get SN_MMINFO_NOT_READY c.val = 0 ∧
      (t.trk c.val).closed = rest ∧
      (t.trk c.val).cur = (s.trk c.val).cur ∧
      t.now = max s.now d := by
  have hexec : exec (.windowPublish c j) s = .next (((s.advanceTo d).disarm (.record c.val)).publishDue c.val) := by
    show execWindowPublish c j s = _
    unfold execWindowPublish State.onTimer
    rw [hwindow, if_neg Bool.false_ne_true, hdue]
  have hadv := State.advanceTo_evolves (.refl _ s) d (covers_self _)
  have hsense : ((s.advanceTo d).disarm (.record c.val)).sense = s.sense := hadv.kept .sense (by decide)
  have htrk : ((s.advanceTo d).disarm (.record c.val)).trk c.val = s.trk c.val := by
    unfold State.trk
    rw [hsense]
  generalize hq : (s.advanceTo d).disarm (.record c.val) = q at htrk hexec
  have hafter := State.publishDue_after (htrk ▸ hclosed : (q.trk c.val).closed = ((a, b, n), u) :: rest)
  have hunit : (q.publishDue c.val).trk c.val = { s.trk c.val with closed := rest } := by
    have hsame : (q.publishDue c.val).sense = _ := hafter.kept .sense (by decide)
    rw [State.trk, hsame, State.showRecord_sense]
    exact (State.trk_updTrk q c.val _ c.isLt).trans (by rw [htrk])
  obtain ⟨x, hx⟩ := q.updTrk_eq c.val (fun u => { u with closed := rest })
  obtain ⟨hmin, hmax, hcount, hrnum, hready⟩ := State.showRecord_gives (q.updTrk c.val (fun u => { u with closed := rest })) c a b n
  refine ⟨_, hexec, ?_, ?_, ?_, ?_, ?_, ?_, ?_, ?_⟩
  · exact (hafter.rdw (mmmin_has c) (by decide)).trans hmin
  · exact (hafter.rdw (mmmax_has c) (by decide)).trans hmax
  · exact (hafter.get (f := SN_MMINFO_COUNT) (mminfo_has c) (by decide)).trans hcount
  · rw [hafter.get (f := SN_MMINFO_RNUM) (mminfo_has c) (by decide), hrnum, hx, ← hq]
    exact congrArg (fun k => (k + 1) % _) (hadv.get (f := SN_MMINFO_RNUM) (mminfo_has c) (by decide))
  · exact (hafter.get (f := SN_MMINFO_NOT_READY) (mminfo_has c) (by decide)).trans hready
  · rw [hunit]
  · rw [hunit]
  · have hnow : (q.publishDue c.val).now = _ := hafter.kept .now (by decide)
    rw [hnow, State.showRecord_now, hx, ← hq]
    exact s.advanceTo_now d

/-! ### Reset events (R135) -/

/-- MMCTL written with RESET 1, by a lock-step pair that R19 admits. -/
theorem exec_mmReset {s : State} {m : Master} {c : Chan} (v : Word) (hopen : s.busOpen m = true) (hlock : s.lockstep m = true)
    (hown : (s.chanCell c.val).all (fun k => s.mayWriteCell m k) = true) :
    ∃ d, exec (.mmReset m c v) s = .next (State.mmctlWrite { s with drift := d } c.val (SN_MMCTL_RESET.into v 1)) := by
  obtain ⟨d, hd⟩ := State.regStore_chan (r := .SN_MMCTL) (SN_MMCTL_RESET.into v 1) (fun x t => t.mmctlWrite c.val x) hopen hlock hown rfl (fun _ _ => rfl)
  exact ⟨d, congrArg Host.Outcome.next hd⟩

/-- The word's EN is stored. -/
theorem State.mmctl_en (s : State) (c : Chan) (v : Word) :
    (s.regWrite .SN_MMCTL (SN_MMCTL_RESET.into v 1) c.val).get SN_MMCTL_EN c.val = SN_MMCTL_EN.of v := by
  have hword : (s.regWrite .SN_MMCTL (SN_MMCTL_RESET.into v 1) c.val).get SN_MMCTL_EN c.val = SN_MMCTL_EN.of (RegId.SN_MMCTL.written _ _) :=
    congrArg SN_MMCTL_EN.of (State.rdw_wrw _ _ _ _ _ (mmctl_has c))
  rw [hword]
  exact (Fld.of_written SN_MMCTL_EN _ _ (by decide) (by decide)).trans (bits_setBits_ne _ _ _ _ _ _ (by decide))

/-- R135: RESET with EN 1 while REFRDY is 1 closes a record, due 16 ns later. -/
theorem reset_closes_record (s : State) (m : Master) (c : Chan) (v : Word) (a b : Int) (n : Nat) (hopen : s.busOpen m = true)
    (hlock : s.lockstep m = true) (hown : (s.chanCell c.val).all (fun k => s.mayWriteCell m k) = true) (hen : SN_MMCTL_EN.of v = 1)
    (href : s.on SN_CTL_REFRDY = true) (hcur : (s.trk c.val).cur = some (a, b, n)) :
    ∃ t, exec (.mmReset m c v) s = .next t ∧
      (t.trk c.val).cur = none ∧
      (t.trk c.val).closed = (s.trk c.val).closed ++ [((a, b, n), s.now)] ∧
      (s.armed (.record c.val) = false → t.deadline (.record c.val) = some (s.now + 4)) ∧
      t.get SN_MMCTL_EN c.val = 1 := by
  obtain ⟨d, hd⟩ := exec_mmReset v hopen hlock hown
  have hword := State.mmctl_en { s with drift := d } c v
  have hchange := State.regWrite_evolves (.refl _ { s with drift := d }) .SN_MMCTL (SN_MMCTL_RESET.into v 1) c.val 0 (covers_self _)
  have hwrite : State.mmctlWrite { s with drift := d } c.val (SN_MMCTL_RESET.into v 1) =
      (State.regWrite { s with drift := d } .SN_MMCTL (SN_MMCTL_RESET.into v 1) c.val).mmClose c.val := by
    have hen' : SN_MMCTL_EN.of (SN_MMCTL_RESET.into v 1) = 1 := (bits_setBits_ne _ _ _ _ _ _ (by decide)).trans hen
    have hreset : SN_MMCTL_RESET.of (SN_MMCTL_RESET.into v 1) = 1 := bits_setBits _ _ _ _ (by decide)
    unfold State.mmctlWrite State.mmEvent
    dsimp only
    rw [hen', hreset, if_neg (by decide), if_pos rfl, if_pos ((hchange.on (f := SN_CTL_REFRDY) (by decide) (by decide)).trans href)]
  rw [hwrite] at hd
  generalize State.regWrite { s with drift := d } .SN_MMCTL (SN_MMCTL_RESET.into v 1) c.val = q at hd hword hchange
  have hsense : q.sense = s.sense := hchange.kept .sense (by decide)
  have htimers : q.timers = s.timers := hchange.kept .timers (by decide)
  have hnow : q.now = s.now := hchange.kept .now (by decide)
  have htrk : q.trk c.val = s.trk c.val := by rw [State.trk, hsense]; rfl
  obtain ⟨x, hx⟩ := q.updTrk_eq c.val (fun u => { cur := none, closed := u.closed ++ [((a, b, n), q.now)] })
  have hunit : (q.updTrk c.val (fun u => { cur := none, closed := u.closed ++ [((a, b, n), q.now)] })).trk c.val =
      ⟨none, (s.trk c.val).closed ++ [((a, b, n), s.now)]⟩ := by
    rw [State.trk_updTrk _ _ _ c.isLt, htrk, hnow]
  rw [hx] at hunit
  have hclose : q.mmClose c.val = if ({ q with sense := x } : State).armed (.record c.val) then { q with sense := x }
      else State.arm { q with sense := x } (.record c.val) 4 := by
    unfold State.mmClose
    rw [htrk, hcur]
    dsimp only
    rw [hx]
  have harmed : ({ q with sense := x } : State).armed (.record c.val) = s.armed (.record c.val) := by
    unfold State.armed State.deadline
    rw [← htimers]
  have hunit' : (q.mmClose c.val).trk c.val = ⟨none, (s.trk c.val).closed ++ [((a, b, n), s.now)]⟩ := by
    rw [hclose]
    split <;> exact hunit
  refine ⟨_, hd, by rw [hunit'], by rw [hunit'], fun hfree => ?_, ?_⟩
  · rw [hclose, harmed, hfree, if_neg Bool.false_ne_true, State.deadline_arm]
    exact congrArg (fun k => some (k + 4)) hnow
  · refine Eq.trans ?_ (hword.trans hen)
    rw [hclose]
    split <;> rfl

/-- R135: RESET with EN 0 discards the extremes. -/
theorem reset_discards_extremes (s : State) (m : Master) (c : Chan) (v : Word) (hopen : s.busOpen m = true) (hlock : s.lockstep m = true)
    (hown : (s.chanCell c.val).all (fun k => s.mayWriteCell m k) = true) (hen : SN_MMCTL_EN.of v = 0) :
    ∃ t, exec (.mmReset m c v) s = .next t ∧
      (t.trk c.val).cur = none ∧
      (t.trk c.val).closed = (s.trk c.val).closed ∧
      t.rdw .SN_MMMIN c.val = s.rdw .SN_MMMIN c.val ∧
      t.get SN_MMCTL_EN c.val = 0 := by
  obtain ⟨d, hd⟩ := exec_mmReset v hopen hlock hown
  have hword := State.mmctl_en { s with drift := d } c v
  have hwrite : State.mmctlWrite { s with drift := d } c.val (SN_MMCTL_RESET.into v 1) =
      (State.regWrite { s with drift := d } .SN_MMCTL (SN_MMCTL_RESET.into v 1) c.val).updTrk c.val (fun u => { u with cur := none }) :=
    if_pos ((bits_setBits_ne _ _ _ _ _ _ (by decide)).trans hen)
  have hchange := State.regWrite_evolves (.refl _ { s with drift := d }) .SN_MMCTL (SN_MMCTL_RESET.into v 1) c.val 0 (covers_self _)
  rw [hwrite] at hd
  generalize State.regWrite { s with drift := d } .SN_MMCTL (SN_MMCTL_RESET.into v 1) c.val = q at hd hword hchange
  have hsense : q.sense = s.sense := hchange.kept .sense (by decide)
  have hunit : (q.updTrk c.val (fun u => { u with cur := none })).trk c.val = { s.trk c.val with cur := none } := by
    rw [State.trk_updTrk _ _ _ c.isLt, State.trk, hsense]
    rfl
  obtain ⟨x, hx⟩ := q.updTrk_eq c.val (fun u => { u with cur := none })
  refine ⟨_, hd, by rw [hunit], by rw [hunit], ?_, ?_⟩
  · rw [hx]
    exact hchange.rdw (mmmin_has c) (by decide)
  · rw [hx]
    exact hword.trans hen

end Sys2Proof.Machine
end
section
/-! SUPPORT. The publication of a window (R134), and the samples of bitstream channels (R126, R127, R133, R135). -/

namespace Sys2Proof.Machine

/-! ### A window is published (R134) -/

/-- The registers of a published window. -/
def State.showWindow (s : State) (c j : Nat) (w : WinRes) : State :=
  (((((s.wrw .SN_SLMEAN (wordOfInt (windowMean w.sum w.count)) c j).put SN_SLINFO_COUNT w.count c j).put SN_SLINFO_FULL w.full.toNat c j).put
    SN_SLINFO_NOT_READY 0 c j).bump SN_SLINFO_WNUM c j).put SN_CHSTAT_NOT_READY 0 c

/-- They are no matter of the units, and take no time. -/
theorem State.showWindow_sense (s : State) (c j : Nat) (w : WinRes) : (s.showWindow c j w).sense = s.sense := by
  simp [State.showWindow, State.bump]

theorem State.showWindow_now (s : State) (c j : Nat) (w : WinRes) : (s.showWindow c j w).now = s.now := by
  simp [State.showWindow, State.bump]

/-- What a published window shows. -/
theorem State.showWindow_gives (s : State) (c : Chan) (j : Fin 2) (w : WinRes) :
    (s.showWindow c.val j.val w).rdw .SN_SLMEAN c.val j.val = wordOfInt (windowMean w.sum w.count) ∧
      (s.showWindow c.val j.val w).get SN_SLINFO_COUNT c.val j.val = w.count % 2 ^ SN_SLINFO_COUNT.width ∧
      (s.showWindow c.val j.val w).get SN_SLINFO_FULL c.val j.val = w.full.toNat ∧
      (s.showWindow c.val j.val w).get SN_SLINFO_WNUM c.val j.val = (s.get SN_SLINFO_WNUM c.val j.val + 1) % 2 ^ SN_SLINFO_WNUM.width ∧
      (s.showWindow c.val j.val w).get SN_SLINFO_NOT_READY c.val j.val = 0 ∧
      (s.showWindow c.val j.val w).get SN_CHSTAT_NOT_READY c.val = 0 := by
  have hinfo := slinfo_has c j
  have hmean := slmean_has c j
  have hword : ∀ (u : State) (f : Fld) v, f.reg = .SN_SLINFO → (u.put f v c.val j.val).rdw .SN_SLMEAN c.val j.val = u.rdw .SN_SLMEAN c.val j.val :=
    fun u f v hf => State.rdw_put_ne u f .SN_SLMEAN v _ _ _ _ hmean (.inl (by rw [hf]; decide))
  have hstat : ∀ (u : State) (f : Fld), f.reg = .SN_SLINFO → (u.put SN_CHSTAT_NOT_READY 0 c.val).get f c.val j.val = u.get f c.val j.val :=
    fun u f hf => State.get_put_ne u SN_CHSTAT_NOT_READY f 0 _ _ _ _ (hf ▸ hinfo) (.inl (by rw [hf]; decide))
  have hkept : (s.wrw .SN_SLMEAN (wordOfInt (windowMean w.sum w.count)) c.val j.val).rdw .SN_SLINFO c.val j.val = s.rdw .SN_SLINFO c.val j.val :=
    State.rdw_wrw_ne _ _ _ _ _ _ _ _ hinfo (.inl (by decide))
  have hstored : (s.wrw .SN_SLMEAN (wordOfInt (windowMean w.sum w.count)) c.val j.val).rdw .SN_SLMEAN c.val j.val = _ := State.rdw_wrw _ _ _ _ _ hmean
  unfold State.showWindow State.bump
  generalize s.wrw .SN_SLMEAN (wordOfInt (windowMean w.sum w.count)) c.val j.val = u at hkept hstored
  refine ⟨?_, ?_, ?_, ?_, ?_, ?_⟩
  · rw [State.rdw_put_ne _ SN_CHSTAT_NOT_READY .SN_SLMEAN 0 _ _ _ _ hmean (.inl (by decide)), hword _ _ _ rfl, hword _ _ _ rfl, hword _ _ _ rfl,
      hword _ _ _ rfl, hstored]
  · rw [hstat _ _ rfl, State.get_put_of_apart _ _ _ _ hinfo (by decide), State.get_put_of_apart _ _ _ _ hinfo (by decide),
      State.get_put_of_apart _ _ _ _ hinfo (by decide), State.get_put u SN_SLINFO_COUNT _ _ _ hinfo (by decide)]
  · rw [hstat _ _ rfl, State.get_put_of_apart _ _ _ _ hinfo (by decide), State.get_put_of_apart _ _ _ _ hinfo (by decide),
      State.get_put _ SN_SLINFO_FULL _ _ _ hinfo (by decide)]
    cases w.full <;> rfl
  · rw [hstat _ _ rfl, State.get_put _ SN_SLINFO_WNUM _ _ _ hinfo (by decide), State.get_put_of_apart _ _ _ _ hinfo (by decide),
      State.get_put_of_apart _ _ _ _ hinfo (by decide), State.get_put_of_apart _ _ _ _ hinfo (by decide)]
    exact congrArg (fun x => (SN_SLINFO_WNUM.of x + 1) % _) hkept
  · rw [hstat _ _ rfl, State.get_put_of_apart _ _ _ _ hinfo (by decide)]
    exact State.get_put _ SN_SLINFO_NOT_READY 0 c.val j.val hinfo (by decide)
  · exact State.get_put _ SN_CHSTAT_NOT_READY 0 c.val 0 (chstat_has c) (by decide)

/-- The accumulator-ready requests reach the Pick engines alone. -/
theorem State.accRequests_changes (s : State) (c j : Nat) : Evolves [.fresh, .pick, .reg .PK_LATE] s (s.accRequests c j) := by
  unfold State.accRequests
  split
  · exact .refl _ s
  · refine State.each_evolves (.refl _ s) _ _ (fun t e ht => ?_)
    split
    · exact State.request_evolves ht _ _ _ _ _ (covers_self _)
    · exact ht

/-- What a publication touches after the window's registers: the producer's record, the requests, the ramps that wait. -/
def publishParts : List Part := [Part.power, .pick, .reg .PK_LATE, .reg .RG_RSTAT, .reg .RG_RVAL, .reg .SE_CAPSTART] ++ seamParts

/-- A published window: its slice, its registers, and what follows. -/
theorem State.publishWindow_after {s : State} {c j : Nat} {w : WinRes} (h : (s.slice c j).closed = some w) :
    Evolves publishParts ((s.updSlice c j (fun u => { u with closed := none, shown := some w, shownAt := s.now })).showWindow c j w)
      (s.publishWindow c j) := by
  unfold State.publishWindow
  rw [h]
  dsimp only
  have hrecord : ∀ (t : State) k, Evolves publishParts t ((t.record (t.chanStream c) j 1 k [wordOfInt (windowMean w.sum w.count)]).accRequests c j) :=
    fun t k => (State.record_evolves (.refl _ t) _ _ _ _ _ (by decide +kernel)).step (State.accRequests_changes _ c j) (by decide +kernel)
  split
  · exact State.rampAlign_evolves (hrecord _ _) _ (by decide +kernel)
  · exact hrecord _ _

/-- The publication of a record is no matter of the slices. -/
theorem State.publishDue_slices (s : State) (c : Nat) : (s.publishDue c).sense.slices = s.sense.slices := by
  cases h : (s.trk c).closed with
  | nil =>
    unfold State.publishDue
    rw [h]
  | cons r rest =>
    have hsame : (s.publishDue c).sense = _ := (State.publishDue_after h).kept .sense (by decide)
    rw [hsame, State.showRecord_sense, State.updTrk_slices]

theorem State.recordDue_slices (s : State) (c : Nat) : (s.recordDue c).sense.slices = s.sense.slices := by
  unfold State.recordDue
  split
  · split
    · exact State.publishDue_slices _ c
    · rfl
  · rfl

/-- A slice rests on the slices. -/
theorem State.slice_congr {s t : State} (h : t.sense.slices = s.sense.slices) (c j : Nat) : t.slice c j = s.slice c j := by
  unfold State.slice
  rw [h]

/-- A slice of a channel is one of the 240. -/
theorem slice_lt (c : Chan) (j : Fin 2) : 2 * c.val + j.val < 240 := by
  have := c.isLt
  have := j.isLt
  omega

/-- R134: at its time a window is published. -/
theorem window_is_published (s : State) (c : Chan) (j : Fin 2) (d : Nat) (r : WinRes) (hdue : s.deadline (.publish c.val j.val) = some d)
    (hclosed : (s.slice c.val j.val).closed = some r) :
    ∃ t, exec (.windowPublish c j) s = .next t ∧
      t.rdw .SN_SLMEAN c.val j.val = wordOfInt (windowMean r.sum r.count) ∧
      t.get SN_SLINFO_COUNT c.val j.val = r.count % 2 ^ SN_SLINFO_COUNT.width ∧
      t.get SN_SLINFO_FULL c.val j.val = r.full.toNat ∧
      t.get SN_SLINFO_WNUM c.val j.val = (s.get SN_SLINFO_WNUM c.val j.val + 1) % 2 ^ SN_SLINFO_WNUM.width ∧
      t.get SN_SLINFO_NOT_READY c.val j.val = 0 ∧
      (t.slice c.val j.val).shown = some r ∧
      (t.slice c.val j.val).closed = none ∧
      t.get SN_CHSTAT_NOT_READY c.val = 0 ∧
      t.now = max s.now d := by
  have hexec : exec (.windowPublish c j) s =
      .next ((((s.advanceTo d).disarm (.publish c.val j.val)).publishWindow c.val j.val).recordDue c.val) := by
    show execWindowPublish c j s = _
    unfold execWindowPublish State.onTimer State.armed
    rw [hdue]
    rfl
  have hadv := State.advanceTo_evolves (.refl _ s) d (covers_self _)
  have hslices : ((s.advanceTo d).disarm (.publish c.val j.val)).sense.slices = s.sense.slices :=
    (congrArg SenseU.slices (hadv.kept .sense (by decide)) :)
  have hslice := State.slice_congr hslices c.val j.val
  generalize hq : (s.advanceTo d).disarm (.publish c.val j.val) = q at hslice hexec
  generalize hv : q.updSlice c.val j.val (fun u => { u with closed := none, shown := some r, shownAt := q.now }) = v
  have hafter : Evolves publishParts (v.showWindow c.val j.val r) (q.publishWindow c.val j.val) := by
    rw [← hv]
    exact State.publishWindow_after (hslice ▸ hclosed)
  have hrecord := State.recordDue_evolves (.refl _ (q.publishWindow c.val j.val)) c.val (covers_self _)
  obtain ⟨x, hx⟩ := q.updSlice_eq c.val j.val (fun u => { u with closed := none, shown := some r, shownAt := q.now })
  obtain ⟨hmean, hcount, hfull, hwnum, hready, hchan⟩ := v.showWindow_gives c j r
  have hunit : ((q.publishWindow c.val j.val).recordDue c.val).slice c.val j.val =
      { s.slice c.val j.val with closed := none, shown := some r, shownAt := q.now } := by
    have hsame : (q.publishWindow c.val j.val).sense = _ := hafter.kept .sense (by decide)
    have hkept : ((q.publishWindow c.val j.val).recordDue c.val).sense.slices = v.sense.slices := by
      rw [State.recordDue_slices, hsame, State.showWindow_sense]
    rw [State.slice_congr hkept, ← hv, State.slice_updSlice _ _ _ _ (slice_lt c j), hslice]
  refine ⟨_, hexec, ?_, ?_, ?_, ?_, ?_, ?_, ?_, ?_, ?_⟩
  · exact (hrecord.rdw (slmean_has c j) (by decide)).trans ((hafter.rdw (slmean_has c j) (by decide)).trans hmean)
  · exact (hrecord.get (f := SN_SLINFO_COUNT) (slinfo_has c j) (by decide)).trans
      ((hafter.get (f := SN_SLINFO_COUNT) (slinfo_has c j) (by decide)).trans hcount)
  · exact (hrecord.get (f := SN_SLINFO_FULL) (slinfo_has c j) (by decide)).trans ((hafter.get (f := SN_SLINFO_FULL) (slinfo_has c j) (by decide)).trans hfull)
  · rw [hrecord.get (f := SN_SLINFO_WNUM) (slinfo_has c j) (by decide), hafter.get (f := SN_SLINFO_WNUM) (slinfo_has c j) (by decide),
      hwnum, ← hv, hx, ← hq]
    exact congrArg (fun k => (k + 1) % _) (hadv.get (f := SN_SLINFO_WNUM) (slinfo_has c j) (by decide))
  · exact (hrecord.get (f := SN_SLINFO_NOT_READY) (slinfo_has c j) (by decide)).trans
      ((hafter.get (f := SN_SLINFO_NOT_READY) (slinfo_has c j) (by decide)).trans hready)
  · rw [hunit]
  · rw [hunit]
  · exact (hrecord.get (f := SN_CHSTAT_NOT_READY) (chstat_has c) (by decide)).trans
      ((hafter.get (f := SN_CHSTAT_NOT_READY) (chstat_has c) (by decide)).trans hchan)
  · have hlast : ((q.publishWindow c.val j.val).recordDue c.val).now = _ := hrecord.kept .now (by decide)
    have hnow : (q.publishWindow c.val j.val).now = _ := hafter.kept .now (by decide)
    rw [hlast, hnow, State.showWindow_now, ← hv, hx, ← hq]
    exact s.advanceTo_now d

/-! ### Samples in the slices leave the tracker, where no window's close resets it (R133, R135) -/

/-- The trackers and the discards. -/
def State.tracks (s : State) : Vector TrackU 120 × Vector Nat 24 := (s.sense.trackers, s.sense.discard)

/-- A slice's change is no matter of them. -/
theorem State.updSlice_tracks (s : State) (c j : Nat) (f : SliceU → SliceU) : (s.updSlice c j f).tracks = s.tracks := by
  simp [State.tracks]

/-- Counts of a slice are no matter of them. -/
theorem State.put_tracks (s : State) (f : Fld) (v i j : Nat) : (s.put f v i j).tracks = s.tracks := rfl

/-- Whether a sample comes after a gap that starts its window anew (R133). -/
def State.lateSample (s : State) (c j : Nat) : Bool :=
  decide ((s.slice c j).count > 0) && SN_SLCTL_MODE.of (s.slice c j).ctl == 0 && SN_SLGAP_GAP.of (s.slice c j).gap != 0 &&
    decide (s.now - (s.slice c j).lastAt > SN_SLGAP_GAP.of (s.slice c j).gap * us)

/-- A gap is counted. -/
def State.countGap (s : State) (c j : Nat) : State := if s.lateSample c j then s.bumpSat SN_SLGAP_GAPRST c j else s

/-- The window that a sample enters. -/
def State.windowFor (s : State) (c j : Nat) : SliceU :=
  if s.lateSample c j || (s.slice c j).count = 0 then
    { s.slice c j with ctl := (s.countGap c j).rdw .SN_SLCTL c j, gap := (s.countGap c j).rdw .SN_SLGAP c j, sum := 0, count := 0 }
  else s.slice c j

/-- A slice with one more sample. -/
def State.withSample (s : State) (c j : Nat) (x : Int) : State :=
  (s.countGap c j).updSlice c j (fun _ => { s.windowFor c j with
    sum := (s.windowFor c j).sum + x, count := (s.windowFor c j).count + 1, lastAt := (s.countGap c j).now })

/-- A sample that enters a window, step by step. -/
theorem State.enterSample_eq (s : State) (c j : Nat) (x : Int) :
    s.enterSample c j x = if (s.windowFor c j).count ≥ windowLen (s.windowFor c j).ctl then s.countGap c j
      else if SN_SLCTL_MODE.of (s.windowFor c j).ctl = 0 ∧ (s.windowFor c j).count + 1 = windowLen (s.windowFor c j).ctl then
        (s.withSample c j x).closeWindow c j
      else s.withSample c j x := rfl

section Quiet
variable {s : State} {c : Chan} {j : Nat} (hquiet : s.get SN_MMCTL_RST c.val ≠ j)
include hquiet

/-- A change of the slices and of their counts leaves RST. -/
theorem Evolves.quiet {t : State} (h : Evolves [.fresh, .timers, .sense, .reg .SN_SLGAP] s t) : t.get SN_MMCTL_RST c.val ≠ j := by
  rw [h.get (f := SN_MMCTL_RST) (mmctl_has c) (by decide)]
  exact hquiet

/-- The close of a window that is no reset event. -/
theorem State.closeWindow_tracks : (s.closeWindow c.val j).tracks = s.tracks := by
  have hclose : ∀ f, (((s.updSlice c.val j f).arm (.publish c.val j) 4).mmSlice c.val j).tracks = s.tracks := fun f => by
    have hrst := Evolves.quiet hquiet (State.arm_evolves (State.updSlice_evolves (.refl _ s) c.val j f (by decide +kernel)) (.publish c.val j) 4
      (by decide +kernel))
    rw [State.mmSlice, if_neg hrst]
    exact s.updSlice_tracks c.val j f
  exact hclose _

/-- A sample that enters the window in progress. -/
theorem State.enterSample_tracks (x : Int) : (s.enterSample c.val j x).tracks = s.tracks := by
  have hcount : Evolves [.fresh, .timers, .sense, .reg .SN_SLGAP] s (s.countGap c.val j) ∧ (s.countGap c.val j).tracks = s.tracks := by
    unfold State.countGap
    split
    · exact ⟨State.bumpSat_evolves (.refl _ s) _ _ _ _ (by decide +kernel), rfl⟩
    · exact ⟨.refl _ s, rfl⟩
  have hsample : (s.withSample c.val j x).tracks = s.tracks := (State.updSlice_tracks _ _ _ _).trans hcount.2
  rw [State.enterSample_eq]
  split
  · exact hcount.2
  · split
    · exact (State.closeWindow_tracks (Evolves.quiet hquiet (State.updSlice_evolves hcount.1 _ _ _ (by decide +kernel)))).trans hsample
    · exact hsample

/-- A sample in the tick of its slice's close event. -/
theorem State.joinSample_tracks (x : Int) : (s.joinSample c.val j x).tracks = s.tracks := by
  have henter := State.enterSample_tracks hquiet x
  have hev : Evolves [.fresh, .timers, .sense, .reg .SN_SLGAP] s (s.enterSample c.val j x) :=
    State.enterSample_evolves (.refl _ s) _ _ _ (by decide +kernel)
  unfold State.joinSample
  dsimp only
  split
  · split
    · exact State.updSlice_tracks _ _ _ _
    · rfl
  · exact henter
  · split
    · exact henter
    · refine (State.closeWindow_tracks (Evolves.quiet hquiet ?_)).trans ((State.updSlice_tracks _ _ _ _).trans henter)
      exact State.updSlice_evolves (State.put_evolves hev _ _ _ _ (by decide +kernel)) _ _ _ (by decide +kernel)

/-- A sample of the slice's channel. -/
theorem State.addSample_tracks (x : Int) : (s.addSample c.val j x).tracks = s.tracks := by
  unfold State.addSample
  split
  · rfl
  · split
    · exact State.joinSample_tracks hquiet x
    · exact State.enterSample_tracks hquiet x

end Quiet

/-! ### Bitstream outputs (R126, R127) -/

/-- A channel that converts (R126). -/
theorem State.sdRuns_intro {s : State} {c : Nat} (hlive : s.convLive = true) (hen : s.on SN_SDCTL_EN c = true)
    (hck : s.on SN_SDMCK_EN (s.get SN_SDCTL_CKSEL c) = true) : s.sdRuns c = true := by
  simp [State.sdRuns, hlive, hen, hck]

/-- The note of a restart ends with an output; nothing else changes. -/
theorem State.setRestart_eq (s : State) (c : Nat) (t : Option Nat) : ∃ r, s.setRestart c t = { s with sense := { s.sense with restart := r } } := by
  unfold State.setRestart
  split
  · exact ⟨_, rfl⟩
  · exact ⟨s.sense.restart, rfl⟩

section Output
variable {s : State} {k : Fin 24} {y : Fin 16777217} (hlive : s.convLive = true) (hen : s.on SN_SDCTL_EN (96 + k.val) = true)
  (hck : s.on SN_SDMCK_EN (s.get SN_SDCTL_CKSEL (96 + k.val)) = true) (hy : y.val ≤ s.osr (96 + k.val) ^ 3)
  (hcut : s.cutShort (96 + k.val) = false)
include hlive hen hck hy hcut

/-- An output of a running channel, not cut short by a restart. -/
theorem exec_sinc3Output : ∃ r, exec (.sinc3Output k y) s = .next (
    if s.discards (96 + k.val) > 0 then State.setDiscard { s with sense := { s.sense with restart := r } } (96 + k.val) (s.discards (96 + k.val) - 1)
    else State.deliverSample { s with sense := { s.sense with restart := r } } (96 + k.val) (sincSample (s.osr (96 + k.val)) y.val)) := by
  obtain ⟨r, hr⟩ := s.setRestart_eq (96 + k.val) none
  refine ⟨r, ?_⟩
  show execSinc3Output k y s = _
  unfold execSinc3Output
  dsimp only
  rw [State.sdRuns_intro hlive hen hck, hcut, decide_eq_true hy, if_pos (by decide), hr]
  rfl

end Output

/-- R127: while outputs remain to discard, an output is discarded. -/
theorem sd_output_is_discarded (s : State) (k : Fin 24) (y : Fin 16777217) (hlive : s.convLive = true) (hen : s.on SN_SDCTL_EN (96 + k.val) = true)
    (hck : s.on SN_SDMCK_EN (s.get SN_SDCTL_CKSEL (96 + k.val)) = true) (hy : y.val ≤ s.osr (96 + k.val) ^ 3)
    (hcut : s.cutShort (96 + k.val) = false) (hmore : 0 < s.discards (96 + k.val)) :
    ∃ t, exec (.sinc3Output k y) s = .next t ∧
      t.discards (96 + k.val) = s.discards (96 + k.val) - 1 ∧
      t.sense.trackers = s.sense.trackers ∧
      t.sense.slices = s.sense.slices := by
  obtain ⟨r, hexec⟩ := exec_sinc3Output hlive hen hck hy hcut
  rw [if_pos hmore] at hexec
  refine ⟨_, hexec, State.discards_setDiscard _ _ _ (by have := k.isLt; omega), ?_, ?_⟩
  all_goals
    unfold State.setDiscard
    split <;> rfl

/-- The tracker's channel of a bitstream output. -/
def sdChan (k : Fin 24) : Chan := ⟨96 + k.val, by have := k.isLt; omega⟩

/-- A sample widens the extremes of an enabled tracker that no record waits at (R135). -/
theorem State.trackSample_widens {s : State} {c : Chan} (hen : s.on SN_MMCTL_EN c.val = true) (hclosed : (s.trk c.val).closed = []) (x : Int) :
    (s.trackSample c.val x).trk c.val = { s.trk c.val with cur := some (widen x (s.trk c.val).cur) } := by
  unfold State.trackSample
  rw [if_pos hen, State.trk_updTrk _ _ _ c.isLt]
  simp [hclosed]

/-- R126, R135: else it widens the extremes of its enabled tracker. -/
theorem sd_output_is_tracked (s : State) (k : Fin 24) (y : Fin 16777217) (hlive : s.convLive = true) (hen : s.on SN_SDCTL_EN (96 + k.val) = true)
    (hck : s.on SN_SDMCK_EN (s.get SN_SDCTL_CKSEL (96 + k.val)) = true) (hy : y.val ≤ s.osr (96 + k.val) ^ 3)
    (hcut : s.cutShort (96 + k.val) = false) (hnone : s.discards (96 + k.val) = 0) (href : s.on SN_CTL_REFRDY = true)
    (htrk : s.on SN_MMCTL_EN (96 + k.val) = true) (hrst : 2 ≤ s.get SN_MMCTL_RST (96 + k.val)) (hclosed : (s.trk (96 + k.val)).closed = []) :
    ∃ t, exec (.sinc3Output k y) s = .next t ∧
      (t.trk (96 + k.val)).cur = some (widen (sincSample (s.osr (96 + k.val)) y.val) (s.trk (96 + k.val)).cur) ∧
      t.discards (96 + k.val) = 0 := by
  obtain ⟨r, hexec⟩ := exec_sinc3Output hlive hen hck hy hcut
  rw [if_neg (by omega)] at hexec
  generalize hq : ({ s with sense := { s.sense with restart := r } } : State) = q at hexec
  generalize sincSample (s.osr (96 + k.val)) y.val = x at hexec ⊢
  have hqen : q.on SN_MMCTL_EN (sdChan k).val = true := by rw [← hq]; exact htrk
  have hqclosed : (q.trk (sdChan k).val).closed = [] := by rw [← hq]; exact hclosed
  have hqrst : 2 ≤ q.get SN_MMCTL_RST (sdChan k).val := by rw [← hq]; exact hrst
  have hdeliver : q.deliverSample (96 + k.val) x = ((q.trackSample (sdChan k).val x).addSample (sdChan k).val 0 x).addSample (sdChan k).val 1 x :=
    if_pos (by rw [← hq]; exact href)
  have htracks : (q.deliverSample (96 + k.val) x).tracks = (q.trackSample (sdChan k).val x).tracks := by
    have hrst' : ∀ j, j < 2 → (q.trackSample (sdChan k).val x).get SN_MMCTL_RST (sdChan k).val ≠ j := fun j hj => by
      rw [(State.trackSample_evolves (.refl _ q) (sdChan k).val x (covers_self _)).get (f := SN_MMCTL_RST) (mmctl_has _) (by decide)]
      omega
    have hfirst := State.addSample_evolves (.refl _ (q.trackSample (sdChan k).val x)) (sdChan k).val 0 x (covers_self _)
    rw [hdeliver, State.addSample_tracks (Evolves.quiet (hrst' 1 (by omega)) hfirst), State.addSample_tracks (hrst' 0 (by omega))]
  have htracked := State.trackSample_widens hqen hqclosed x
  refine ⟨_, hexec, ?_, ?_⟩
  · have hunit : (q.deliverSample (96 + k.val) x).trk (96 + k.val) = (q.trackSample (sdChan k).val x).trk (sdChan k).val :=
      congrArg (fun p : Vector TrackU 120 × Vector Nat 24 => p.1.toList.getD (96 + k.val) ⟨none, []⟩) htracks
    rw [hunit, htracked, ← hq]
    rfl
  · have hdisc : (q.deliverSample (96 + k.val) x).discards (96 + k.val) = (q.trackSample (sdChan k).val x).discards (96 + k.val) :=
      congrArg (fun p : Vector TrackU 120 × Vector Nat 24 => p.2.toList.getD (96 + k.val - 96) 0) htracks
    rw [hdisc, State.trackSample, if_pos hqen, State.discards, State.updTrk_discard, ← hq]
    exact hnone

/-- R127: an output that a restart cut short is not counted. -/
theorem cut_short_output_is_dropped (s : State) (k : Fin 24) (y : Fin 16777217) (hcut : s.cutShort (96 + k.val) = true) :
    ∃ t, exec (.sinc3Output k y) s = .next t ∧ t = s :=
  ⟨s, congrArg Host.Outcome.next (if_neg (by simp [hcut])), rfl⟩

/-- R127: a stuck modulator raises source 291. -/
theorem modulator_is_stuck (s : State) (k : Fin 24) (hlive : s.convLive = true) (hen : s.on SN_SDCTL_EN (96 + k.val) = true)
    (hck : s.on SN_SDMCK_EN (s.get SN_SDCTL_CKSEL (96 + k.val)) = true) (hfree : s.on SN_CHSTAT_SDM_STUCK (96 + k.val) = false)
    (hsrc : s.routed 291 = true) :
    ∃ t, exec (.sdmStuck k) s = .next t ∧ t.get SN_CHSTAT_SDM_STUCK (96 + k.val) = 1 ∧ t.raised 291 = true := by
  have hexec : exec (.sdmStuck k) s = .next ((s.put SN_CHSTAT_SDM_STUCK 1 (96 + k.val)).raise 291) := by
    show execSdmStuck k s = _
    unfold execSdmStuck
    dsimp only
    rw [if_pos (State.sdRuns_intro hlive hen hck), hfree, if_neg Bool.false_ne_true]
  have hput := State.put_evolves (.refl _ s) SN_CHSTAT_SDM_STUCK 1 (96 + k.val) 0 (covers_self _)
  refine ⟨_, hexec, ?_, State.raise_raised _ (by decide) ((hput.routed (by decide) (by decide)).trans hsrc)⟩
  exact ((State.raise_evolves (.refl _ _) 291 (covers_self _)).get (f := SN_CHSTAT_SDM_STUCK) (chstat_has (sdChan k)) (by decide)).trans
    (State.get_put s SN_CHSTAT_SDM_STUCK 1 _ 0 (chstat_has (sdChan k)) (by decide))

end Sys2Proof.Machine
end
section
/-! SUPPORT. Diagnostic channels (R136): a request, its result, its timeout. -/

namespace Sys2Proof.Machine

theorem diagsel_has : RegId.SN_DIAGSEL.has 0 0 = true := by decide

theorem diagstat_has : RegId.SN_DIAGSTAT.has 0 0 = true := by decide

theorem diagres_has : RegId.SN_DIAGRES.has 0 0 = true := by decide

theorem senseCtl_has : RegId.SN_CTL.has 0 0 = true := by decide

/-! ### A request -/

/-- A GO from a lock-step pair is DIAGSEL's write. -/
theorem exec_diagGo {s : State} {m : Master} (v : Word) (hopen : s.busOpen m = true) (hlock : s.lockstep m = true) :
    ∃ d, exec (.diagGo m v) s = .next (State.diagselWrite { s with drift := d } (SN_DIAGSEL_GO.into v 1)) := by
  obtain ⟨d, hd⟩ := State.regStore_eq s m .SN_DIAGSEL (SN_DIAGSEL_GO.into v 1) 0 0 hopen
  rw [State.settle_of_no_w1c _ _ _ _ _ rfl] at hd
  exact ⟨d, congrArg Host.Outcome.next (hd.trans (if_pos hlock))⟩

/-- A GO keeps the other fields of its word. -/
theorem diagGo_word (v : Word) : SN_DIAGSEL_GO.of (SN_DIAGSEL_GO.into v 1) = 1 ∧ SN_DIAGSEL_ICH.of (SN_DIAGSEL_GO.into v 1) = SN_DIAGSEL_ICH.of v ∧
    SN_DIAGSEL_CONV.of (SN_DIAGSEL_GO.into v 1) = SN_DIAGSEL_CONV.of v :=
  ⟨bits_setBits _ _ _ _ (by decide), bits_setBits_ne _ _ _ _ _ _ (by decide), bits_setBits_ne _ _ _ _ _ _ (by decide)⟩

/-- R136: GO of an existing channel while BUSY is 0 is accepted. -/
theorem diag_request_is_made (s : State) (m : Master) (v : Word) (hopen : s.busOpen m = true) (hlock : s.lockstep m = true)
    (hfree : s.on SN_DIAGSTAT_BUSY = false) (hich : SN_DIAGSEL_ICH.of v < 15 ∨ 64 ≤ SN_DIAGSEL_ICH.of v) :
    ∃ t, exec (.diagGo m v) s = .next t ∧
      t.on SN_DIAGSTAT_BUSY = true ∧
      t.deadline .diag = some (s.now + 250000) ∧
      t.get SN_DIAGSEL_ICH = SN_DIAGSEL_ICH.of v ∧
      t.get SN_DIAGSEL_CONV = SN_DIAGSEL_CONV.of v := by
  obtain ⟨d, hd⟩ := exec_diagGo v hopen hlock
  obtain ⟨hgo, hi, hc⟩ := diagGo_word v
  have hbusy : State.on { s with drift := d } SN_DIAGSTAT_BUSY = false := hfree
  have hwrite : State.diagselWrite { s with drift := d } (SN_DIAGSEL_GO.into v 1) =
      ((State.regWrite { s with drift := d } .SN_DIAGSEL (SN_DIAGSEL_GO.into v 1)).put SN_DIAGSTAT_BUSY 1).arm .diag ms := by
    have hexists : (decide (15 ≤ SN_DIAGSEL_ICH.of v) && decide (SN_DIAGSEL_ICH.of v ≤ 63)) = false := by
      rw [Bool.and_eq_false_iff, decide_eq_false_iff_not, decide_eq_false_iff_not]
      omega
    unfold State.diagselWrite
    dsimp only
    rw [hgo, hi, hbusy, hexists, if_pos rfl, Bool.or_self, if_neg Bool.false_ne_true]
  rw [hwrite] at hd
  have hfield : ∀ f : Fld, f.reg = .SN_DIAGSEL → f.lo + f.width ≤ 13 →
      (((State.regWrite { s with drift := d } .SN_DIAGSEL (SN_DIAGSEL_GO.into v 1)).put SN_DIAGSTAT_BUSY 1).arm .diag ms).get f =
        f.of (SN_DIAGSEL_GO.into v 1) := fun f hf hw => by
    rw [State.arm_get, State.get_put_of_apart _ _ _ _ (hf ▸ diagsel_has) (.inl (by rw [hf]; decide)), State.get, hf]
    have hword : (State.regWrite { s with drift := d } .SN_DIAGSEL (SN_DIAGSEL_GO.into v 1)).rdw .SN_DIAGSEL = f.reg.written _ _ :=
      (State.rdw_wrw _ _ _ _ _ diagsel_has).trans (by rw [hf])
    rw [hword]
    refine Fld.of_written f _ _ (by omega) (fun k hk => ?_)
    rw [hf]
    have hbit : f.lo + k < 13 := by omega
    generalize f.lo + k = b at hbit
    revert b
    decide
  refine ⟨_, hd, ?_, ?_, (hfield _ rfl (by decide)).trans hi, (hfield _ rfl (by decide)).trans hc⟩
  · exact State.on_put _ SN_DIAGSTAT_BUSY 1 0 0 diagstat_has (by decide)
  · exact State.deadline_arm _ _ _

/-- R136: GO while BUSY is 1, or of a channel that does not exist, is refused whole. -/
theorem diag_request_is_denied (s : State) (m : Master) (v : Word) (hopen : s.busOpen m = true) (hlock : s.lockstep m = true)
    (hbad : s.on SN_DIAGSTAT_BUSY = true ∨ (15 ≤ SN_DIAGSEL_ICH.of v ∧ SN_DIAGSEL_ICH.of v ≤ 63)) :
    ∃ t, exec (.diagGo m v) s = .next t ∧
      t.get SN_CTL_CFG_DENIED = 1 ∧
      t.rdw .SN_DIAGSEL = s.rdw .SN_DIAGSEL ∧
      t.rdw .SN_DIAGSTAT = s.rdw .SN_DIAGSTAT ∧
      t.timers = s.timers := by
  obtain ⟨d, hd⟩ := exec_diagGo v hopen hlock
  obtain ⟨hgo, hi, -⟩ := diagGo_word v
  have hwrite : State.diagselWrite { s with drift := d } (SN_DIAGSEL_GO.into v 1) = State.put { s with drift := d } SN_CTL_CFG_DENIED 1 := by
    have hrefused : (State.on { s with drift := d } SN_DIAGSTAT_BUSY ||
        (decide (15 ≤ SN_DIAGSEL_ICH.of v) && decide (SN_DIAGSEL_ICH.of v ≤ 63))) = true := by
      rw [Bool.or_eq_true, Bool.and_eq_true, decide_eq_true_eq, decide_eq_true_eq]
      exact hbad
    unfold State.diagselWrite
    dsimp only
    rw [hgo, hi, if_pos rfl, if_pos hrefused]
  rw [hwrite] at hd
  exact ⟨_, hd, State.get_put _ SN_CTL_CFG_DENIED 1 0 0 senseCtl_has (by decide),
    State.rdw_put_ne _ SN_CTL_CFG_DENIED .SN_DIAGSEL 1 0 0 0 0 diagsel_has (.inl (by decide)),
    State.rdw_put_ne _ SN_CTL_CFG_DENIED .SN_DIAGSTAT 1 0 0 0 0 diagstat_has (.inl (by decide)), rfl⟩

/-! ### Its result and its timeout -/

/-- The end of a request with result `w`: BUSY, DONE and source 288. -/
def State.diagEnd (s : State) (w : Word) : State :=
  ((((s.wrw .SN_DIAGRES w).put SN_DIAGSTAT_BUSY 0).put SN_DIAGSTAT_DONE 1).disarm .diag).raise 288

/-- What it leaves. -/
theorem State.diagEnd_gives (s : State) (w : Word) (hsrc : s.routed 288 = true) :
    (s.diagEnd w).rdw .SN_DIAGRES = w ∧ (s.diagEnd w).on SN_DIAGSTAT_BUSY = false ∧ (s.diagEnd w).on SN_DIAGSTAT_DONE = true ∧
      (s.diagEnd w).raised 288 = true ∧ (s.diagEnd w).armed .diag = false := by
  have hbefore : Evolves [.fresh, .timers, .reg .SN_DIAGRES, .reg .SN_DIAGSTAT] s
      ((((s.wrw .SN_DIAGRES w).put SN_DIAGSTAT_BUSY 0).put SN_DIAGSTAT_DONE 1).disarm .diag) :=
    State.disarm_evolves (State.put_evolves (State.put_evolves (State.wrw_evolves (.refl _ s) _ _ _ _ (by decide +kernel)) _ _ _ _ (by decide +kernel))
      _ _ _ _ (by decide +kernel)) _ (by decide +kernel)
  have hrouted := (hbefore.routed (by decide) (by decide : 288 < 1024)).trans hsrc
  have hres : ((((s.wrw .SN_DIAGRES w).put SN_DIAGSTAT_BUSY 0).put SN_DIAGSTAT_DONE 1).disarm .diag).rdw .SN_DIAGRES = w :=
    (State.rdw_put_ne _ SN_DIAGSTAT_DONE .SN_DIAGRES 1 0 0 0 0 diagres_has (.inl (by decide))).trans
      ((State.rdw_put_ne _ SN_DIAGSTAT_BUSY .SN_DIAGRES 0 0 0 0 0 diagres_has (.inl (by decide))).trans (State.rdw_wrw s _ w 0 0 diagres_has))
  have hbusy : ((((s.wrw .SN_DIAGRES w).put SN_DIAGSTAT_BUSY 0).put SN_DIAGSTAT_DONE 1).disarm .diag).on SN_DIAGSTAT_BUSY = false :=
    (State.on_put_of_apart _ 1 0 0 diagstat_has (by decide) : State.on (State.put _ SN_DIAGSTAT_DONE 1) SN_DIAGSTAT_BUSY = _).trans
      (State.on_put _ SN_DIAGSTAT_BUSY 0 0 0 diagstat_has (by decide))
  have hdone : ((((s.wrw .SN_DIAGRES w).put SN_DIAGSTAT_BUSY 0).put SN_DIAGSTAT_DONE 1).disarm .diag).on SN_DIAGSTAT_DONE = true :=
    State.on_put _ SN_DIAGSTAT_DONE 1 0 0 diagstat_has (by decide)
  have harmed : ((((s.wrw .SN_DIAGRES w).put SN_DIAGSTAT_BUSY 0).put SN_DIAGSTAT_DONE 1).disarm .diag).armed .diag = false := State.armed_disarm _ _
  unfold State.diagEnd
  generalize (((s.wrw .SN_DIAGRES w).put SN_DIAGSTAT_BUSY 0).put SN_DIAGSTAT_DONE 1).disarm .diag = u at hrouted hres hbusy hdone harmed
  have hraise := State.raise_evolves (.refl _ u) 288 (covers_self _)
  refine ⟨(hraise.rdw diagres_has (by decide)).trans hres, (hraise.on (f := SN_DIAGSTAT_BUSY) diagstat_has (by decide)).trans hbusy,
    (hraise.on (f := SN_DIAGSTAT_DONE) diagstat_has (by decide)).trans hdone, u.raise_raised (by decide) hrouted, ?_⟩
  rw [State.armed, u.raise_deadline 288 (fun k => by simp)]
  exact harmed

/-- R136: the sixteen conversions end the request, with their rounded mean. -/
theorem diag_request_is_done (s : State) (codes : Vector (BitVec 16) 16) (hbusy : s.on SN_DIAGSTAT_BUSY = true) (hlive : s.convLive = true)
    (hidle : bit s.busyConvs (s.get SN_DIAGSEL_CONV) = false) (hsrc : s.routed 288 = true) (href : s.on SN_CTL_REFRDY = true) :
    ∃ t, exec (.diagDone codes) s = .next t ∧
      t.rdw .SN_DIAGRES = wordOfInt (diagMean codes) ∧
      t.on SN_DIAGSTAT_BUSY = false ∧
      t.on SN_DIAGSTAT_DONE = true ∧
      t.raised 288 = true ∧
      t.armed .diag = false := by
  have hexec : exec (.diagDone codes) s = .next (s.diagEnd (wordOfInt (diagMean codes))) := by
    show execDiagDone codes s = _
    unfold execDiagDone
    rw [hbusy, hlive, hidle, href, if_pos (by decide), if_pos rfl]
    rfl
  exact ⟨_, hexec, s.diagEnd_gives _ hsrc⟩

/-- R128, R136: before REFRDY they end it with a result that is open. -/
theorem diag_request_is_done_unready (s : State) (codes : Vector (BitVec 16) 16) (hbusy : s.on SN_DIAGSTAT_BUSY = true) (hlive : s.convLive = true)
    (hidle : bit s.busyConvs (s.get SN_DIAGSEL_CONV) = false) (hsrc : s.routed 288 = true) (href : s.on SN_CTL_REFRDY = false) :
    ∃ t, exec (.diagDone codes) s = .next t ∧
      t.on SN_DIAGSTAT_BUSY = false ∧
      t.on SN_DIAGSTAT_DONE = true ∧
      t.raised 288 = true ∧
      t.armed .diag = false := by
  have hexec : exec (.diagDone codes) s = .next (s.free.2.diagEnd s.free.1) := by
    show execDiagDone codes s = _
    unfold execDiagDone
    rw [hbusy, hlive, hidle, href, if_pos (by decide), if_neg Bool.false_ne_true]
    rfl
  obtain ⟨-, hrest⟩ := State.diagEnd_gives s.free.2 s.free.1 hsrc
  exact ⟨_, hexec, hrest⟩

/-- R136: after 1 ms without them the request ends with TIMEOUT. -/
theorem diag_request_times_out (s : State) (d : Nat) (hdue : s.deadline .diag = some d) (hsrc : s.routed 288 = true) :
    ∃ t, exec .diagTimeout s = .next t ∧
      t.on SN_DIAGSTAT_BUSY = false ∧
      t.on SN_DIAGSTAT_TIMEOUT = true ∧
      t.raised 288 = true ∧
      t.rdw .SN_DIAGRES = s.rdw .SN_DIAGRES ∧
      t.now = max s.now d := by
  have hexec : exec .diagTimeout s = .next (((((s.advanceTo d).disarm .diag).put SN_DIAGSTAT_BUSY 0).put SN_DIAGSTAT_TIMEOUT 1).raise 288) := by
    show execDiagTimeout s = _
    unfold execDiagTimeout State.onTimer
    rw [hdue]
  have hbefore : Evolves ([Part.reg .SN_DIAGSTAT] ++ onTimerParts) s
      ((((s.advanceTo d).disarm .diag).put SN_DIAGSTAT_BUSY 0).put SN_DIAGSTAT_TIMEOUT 1) :=
    State.put_evolves (State.put_evolves (State.disarm_evolves (State.advanceTo_evolves (.refl _ s) d (by decide +kernel)) _ (by decide +kernel))
      _ _ _ _ (by decide +kernel)) _ _ _ _ (by decide +kernel)
  have hrouted := (hbefore.routed (by decide) (by decide : 288 < 1024)).trans hsrc
  have hres := hbefore.rdw diagres_has (by decide)
  have hbusy : ((((s.advanceTo d).disarm .diag).put SN_DIAGSTAT_BUSY 0).put SN_DIAGSTAT_TIMEOUT 1).on SN_DIAGSTAT_BUSY = false :=
    (State.on_put_of_apart _ 1 0 0 diagstat_has (by decide)).trans (State.on_put _ SN_DIAGSTAT_BUSY 0 0 0 diagstat_has (by decide))
  have htime : ((((s.advanceTo d).disarm .diag).put SN_DIAGSTAT_BUSY 0).put SN_DIAGSTAT_TIMEOUT 1).on SN_DIAGSTAT_TIMEOUT = true :=
    State.on_put _ SN_DIAGSTAT_TIMEOUT 1 0 0 diagstat_has (by decide)
  have hnow : ((((s.advanceTo d).disarm .diag).put SN_DIAGSTAT_BUSY 0).put SN_DIAGSTAT_TIMEOUT 1).now = max s.now d := s.advanceTo_now d
  generalize (((s.advanceTo d).disarm .diag).put SN_DIAGSTAT_BUSY 0).put SN_DIAGSTAT_TIMEOUT 1 = u at hexec hrouted hres hbusy htime hnow
  have hraise := State.raise_evolves (.refl _ u) 288 (covers_self _)
  exact ⟨_, hexec, (hraise.on (f := SN_DIAGSTAT_BUSY) diagstat_has (by decide)).trans hbusy,
    (hraise.on (f := SN_DIAGSTAT_TIMEOUT) diagstat_has (by decide)).trans htime, u.raise_raised (by decide) hrouted,
    (hraise.rdw diagres_has (by decide)).trans hres, (hraise.kept .now (by decide)).trans hnow⟩

/-- Settles O30, clause by clause. -/
theorem samplesWindowsAndDiagnostics : Obligations.SamplesWindowsAndDiagnostics :=
  ⟨ain_chctl_is_stored, sd_chctl_is_stored, sd_assignment_is_denied, sd_clock_is_denied, chctl_of_others_is_denied, window_is_published,
    record_is_published, reset_closes_record, reset_discards_extremes, sd_output_is_discarded, sd_output_is_tracked, cut_short_output_is_dropped,
    modulator_is_stuck, diag_request_is_made, diag_request_is_denied, diag_request_is_done, diag_request_is_done_unready, diag_request_times_out⟩

end Sys2Proof.Machine
end
section
/-! SUPPORT. A pair's state (R283, R298): what moves it and what leaves it; what a pair's unit keeps while its cores run and take interrupts. -/

namespace Sys2Proof.Machine

/-! ### What rests on which register -/

/-- Every pair has its PCTL. -/
theorem pctl_has (n : Pair) : RegId.DR_PCTL.has n.val 0 = true := RegId.has_of_lt n.isLt rfl Nat.one_pos

section Rests
variable {A : List Part} {s t : State} (h : Evolves A s t)
include h

/-- A pair's state rests on PSTATE. -/
theorem Evolves.pst (hp : Part.reg .DR_PSTATE ∉ A) {n : Nat} (hn : n < 16) : t.pst n = s.pst n :=
  h.get (f := DR_PSTATE_STATE) (pstate_has hn) hp

/-- So does which pairs are in a state. -/
theorem Evolves.pairsIn (hp : Part.reg .DR_PSTATE ∉ A) (st : Nat) : t.pairsIn st = s.pairsIn st :=
  List.filter_congr (fun _ hn => by rw [h.pst hp (List.mem_range.1 hn)])

/-- The blocks a pair owns rest on BLKCTL. -/
theorem Evolves.ownedBy (hp : Part.reg .BLK_BLKCTL ∉ A) (n : Nat) : t.ownedBy n = s.ownedBy n := by
  refine List.filter_congr (fun b hb => ?_)
  have hhas : RegId.BLK_BLKCTL.has b 0 = true := RegId.has_of_lt (List.mem_range.1 hb) rfl Nat.one_pos
  rw [h.on (f := BLK_BLKCTL_OWNED) hhas hp, h.get (f := BLK_BLKCTL_OWNER) hhas hp]

/-- The option block's settings rest on its image. -/
theorem Evolves.optByte (hp : Part.reg .RS_OPTIMG ∉ A) {k : Nat} (hk : k < 4) : t.optByte k = s.optByte k := by
  have hzero : k / 4 = 0 := by omega
  have hhas : RegId.RS_OPTIMG.has 0 0 = true := by decide
  unfold State.optByte
  rw [hzero, h.rdw hhas hp]

/-- Where a pair leaves START for rests on BLKCTL and the option block. -/
theorem Evolves.startDest (hb : Part.reg .BLK_BLKCTL ∉ A) (ho : Part.reg .RS_OPTIMG ∉ A) (n : Pair) : t.startDest n.val = s.startDest n.val := by
  have hsplit : ∀ {k : Nat}, k < 16 → t.optSplit k = s.optSplit k := fun hk => by
    unfold State.optSplit
    rw [h.optByte ho (by omega)]
  have hspares : t.optSpares = s.optSpares := congrArg (· % 4) (h.optByte ho (by decide))
  have hhigher : (List.range 16).filter (fun k => n.val < k && !t.optSplit k) = (List.range 16).filter (fun k => n.val < k && !s.optSplit k) :=
    List.filter_congr (fun k hk => by rw [hsplit (List.mem_range.1 hk)])
  unfold State.startDest
  rw [h.ownedBy hb, hsplit n.isLt, hspares, hhigher]

/-- A change that does not name the pairs leaves their units. -/
theorem Evolves.pairU (hp : Part.drift ∉ A) (n : Nat) : t.pairU n = s.pairU n := by
  have hdrift : t.drift = s.drift := h.kept .drift hp
  unfold State.pairU
  rw [hdrift]

end Rests

/-! ### A pair takes a state (R283) -/

/-- What follows STATE of a pair: SPAREMAP, FAULT_N and the watchdog. -/
theorem State.setPst_after (s : State) (n st : Nat) :
    Evolves [.fresh, .timers, .fm, .reg .DR_DSTAT, .reg .FM_FSTAT] (s.put DR_PSTATE_STATE st n) (s.setPst n st) :=
  State.wdtFollow_evolves (State.faultLine_evolves (State.spareMap_evolves (.refl _ _) (by decide +kernel)) (by decide +kernel)) n (by decide +kernel)

/-- A pair has the state that it takes. -/
theorem State.setPst_pst (s : State) (n : Pair) {st : Nat} (h : st < 8) : (s.setPst n.val st).pst n.val = st := by
  have hstored : (s.put DR_PSTATE_STATE st n.val).pst n.val = st % 2 ^ 3 :=
    State.get_put s DR_PSTATE_STATE st n.val 0 (pstate_has n.isLt) (by decide)
  exact ((State.setPst_after s n.val st).pst (by decide) n.isLt).trans (hstored.trans (Nat.mod_eq_of_lt h))

/-- The other pairs stay where they are. -/
theorem State.setPst_pst_ne (s : State) (n k : Pair) (st : Nat) (h : k ≠ n) : (s.setPst n.val st).pst k.val = s.pst k.val :=
  ((State.setPst_after s n.val st).pst (by decide) k.isLt).trans
    (State.get_put_ne s DR_PSTATE_STATE DR_PSTATE_STATE st n.val 0 k.val 0 (pstate_has k.isLt) (.inr (.inl (fun e => h (Fin.ext e)))))

/-- The pairs' units stay. -/
@[simp] theorem State.setPst_pairU (s : State) (n st k : Nat) : (s.setPst n st).pairU k = s.pairU k :=
  (State.setPst_evolves (.refl _ s) n st (covers_self _)).pairU (by decide) k

/-- A change of a pair's unit moves no pair. -/
@[simp] theorem State.updPair_pst (s : State) (n k : Nat) (f : DriftPairU → DriftPairU) : (s.updPair n f).pst k = s.pst k := by
  obtain ⟨d, hd⟩ := State.updPair_eq s n f
  rw [hd]
  rfl

/-- Storing a field is no change of a pair's unit. -/
@[simp] theorem State.put_pairU (s : State) (f : Fld) (v i j k : Nat) : (s.put f v i j).pairU k = s.pairU k := rfl

/-- A pair's unit, changed. -/
theorem State.pairU_updPair_same (s : State) (n : Pair) (f : DriftPairU → DriftPairU) : (s.updPair n.val f).pairU n.val = f (s.pairU n.val) := by
  rw [State.pairU_updPair, if_pos ⟨rfl, n.isLt⟩]

/-! ### What a pair keeps while its cores run -/

/-- A pair's unit with its cores and its log left aside: what an interrupt that a core takes does not move. -/
def DriftPairU.offCore (p : DriftPairU) : DriftPairU :=
  { p with core0 := CoreU.reset, core1 := CoreU.reset, log := [], overflow := false, retired := 0 }

/-- A change that leaves a pair's unit, its cores and its log aside, leaves it so in every pair. -/
theorem State.updPair_offCore (s : State) (n k : Nat) (f : DriftPairU → DriftPairU) (h : ∀ p, (f p).offCore = p.offCore) :
    ((s.updPair n f).pairU k).offCore = (s.pairU k).offCore := by
  rw [State.pairU_updPair]
  split
  · exact h _
  · rfl

/-- A core's change is left aside. -/
theorem State.updCore_offCore (s : State) (n c k : Nat) (f : CoreU → CoreU) : ((s.updCore n c f).pairU k).offCore = (s.pairU k).offCore :=
  State.updPair_offCore s n k _ (fun p => by split <;> rfl)

/-- So is an input of the ingress log. -/
theorem State.ingress_offCore (s : State) (n kind : Nat) (v : Word) (k : Nat) : ((s.ingress n kind v).pairU k).offCore = (s.pairU k).offCore := by
  unfold State.ingress
  dsimp only
  split
  · split
    · exact State.updPair_offCore s n k _ (fun _ => rfl)
    · exact State.updPair_offCore s n k _ (fun _ => rfl)
  · rfl

/-- So is the end of a frame wait. -/
theorem State.endWait_offCore (s : State) (n c : Nat) (woken filler : Bool) (k : Nat) :
    ((s.endWait n c woken filler).pairU k).offCore = (s.pairU k).offCore := by
  have hretire : ∀ t : State, ((t.retire n c).pairU k).offCore = (t.pairU k).offCore := fun t => by
    unfold State.retire
    rw [State.updPair_offCore, State.updCore_offCore]
    exact fun _ => rfl
  unfold State.endWait
  split
  · rfl
  · dsimp only
    split
    · rw [State.ingress_offCore, State.updCore_offCore]
    · rw [hretire, State.ingress_offCore, State.updCore_offCore]

/-- So is an interrupt that a core takes. -/
theorem State.coreIrq_offCore (s : State) (n c k : Nat) : ((s.coreIrq n c).pairU k).offCore = (s.pairU k).offCore := by
  have hwait : ((if ((s.pairU n).core c).waiting.any (fun x => x.1) then s.endWait n c true false else s).pairU k).offCore = (s.pairU k).offCore := by
    split
    · exact State.endWait_offCore s n c true false k
    · rfl
  unfold State.coreIrq
  dsimp only
  generalize (if ((s.pairU n).core c).waiting.any (fun x => x.1) then s.endWait n c true false else s) = s1 at hwait ⊢
  split
  · rfl
  · split
    · exact (State.updCore_offCore s1 n c k _).trans hwait
    · exact hwait

/-- A request line that follows its sources is an input of logs alone. -/
theorem State.lineFollow_offCore (s : State) (j k : Nat) : ((s.lineFollow j).pairU k).offCore = (s.pairU k).offCore := by
  unfold State.lineFollow
  dsimp only
  split
  · split
    · rfl
    · split
      · exact State.each_keeps (fun t => (t.pairU k).offCore) _ _ (fun t n => State.ingress_offCore t n _ _ k) _
      · rfl
  · rfl

/-- One that is taken anew moves cores and logs alone. -/
theorem State.wakeSlice_offCore (s : State) (j k : Nat) : ((s.wakeSlice j).pairU k).offCore = (s.pairU k).offCore := by
  unfold State.wakeSlice
  dsimp only
  split
  · exact (State.each_keeps (fun t => (t.pairU k).offCore) _ _ (fun t n => State.coreIrq_offCore t n 0 k) _).trans (State.lineFollow_offCore s j k)
  · exact State.lineFollow_offCore s j k

/-- So does a raise. -/
theorem State.raise_offCore (s : State) (src k : Nat) : ((s.raise src).pairU k).offCore = (s.pairU k).offCore :=
  State.raise_keeps (fun t => (t.pairU k).offCore) (fun _ _ _ _ => rfl) (fun t j => State.wakeSlice_offCore t j k) (fun _ _ _ => rfl)
    (fun _ _ => rfl) s src

end Sys2Proof.Machine
end
section
/-! SUPPORT. Mode requests (R294 to R296, R298, R299): what a request finds after the fields of its write, and what each one does to its pair. -/

namespace Sys2Proof.Machine

/-! ### The write (R298) -/

/-- A state that a write to a PCTL can leave of `s` before its request: all but PCTL and what the master has released. -/
structure State.AtMode (s u : State) : Prop where
  others : Evolves [.fresh, .drift, .reg .DR_PCTL] s u
  units : ∀ k, ∃ e c, u.pairU k = { s.pairU k with egress := e, egressCrc := c }

section AtMode
variable {s u : State} (h : s.AtMode u)
include h

theorem State.AtMode.pst (n : Pair) : u.pst n.val = s.pst n.val := h.others.pst (by decide) n.isLt

theorem State.AtMode.pairsIn (st : Nat) : u.pairsIn st = s.pairsIn st := h.others.pairsIn (by decide) st

theorem State.AtMode.ownedBy (n : Pair) : u.ownedBy n.val = s.ownedBy n.val := h.others.ownedBy (by decide) n.val

theorem State.AtMode.optSpares : u.optSpares = s.optSpares := congrArg (· % 4) (h.others.optByte (by decide) (by decide))

/-- What the write leaves of a pair's unit: all but the egress. -/
theorem State.AtMode.unit {β : Type} (p : DriftPairU → β) (hp : ∀ q e c, p { q with egress := e, egressCrc := c } = p q) (n : Nat) :
    p (u.pairU n) = p (s.pairU n) := by
  obtain ⟨e, c, hunit⟩ := h.units n
  rw [hunit, hp]

end AtMode

/-- What a request for a mode does. -/
def State.modeAct (s : State) (n : Nat) : Nat → State
  | 1 => s.reqTest n
  | 2 => s.reqSplit n
  | 3 => s.reqJoin n
  | 4 => s.reqLeaveTest n pairService
  | _ => s.reqLeaveTest n pairSpare

/-- A request's field of PCTL acts as it is written. -/
theorem modereq_settles (s : State) (n k : Nat) (v : Word) (hk : k < 8) :
    DR_PCTL_MODEREQ.of (s.settle .DR_PCTL (DR_PCTL_MODEREQ.into v k) n) = k :=
  (State.settle_field s DR_PCTL_MODEREQ _ n 0 (by decide) (by decide)).trans
    ((bits_setBits v 0 3 k (by decide)).trans (Nat.mod_eq_of_lt hk))

/-- A request that a master may make acts after the fields of its write. -/
theorem State.pctlPairWrite_taken {s : State} {m : Master} {n : Pair} {w : Word} {k : Nat} (hreq : DR_PCTL_MODEREQ.of w = k)
    (hm : s.lockstep m = true ∨ m = .core n 0 ∧ k = 3) (hk : 0 < k ∧ k < 6) :
    s.pctlPairWrite m n.val w = (s.regWrite .DR_PCTL w n.val).modeAct n.val k := by
  unfold State.pctlPairWrite
  dsimp only
  rw [hreq, if_pos]
  · obtain ⟨h0, h6⟩ := hk
    interval_cases k <;> rfl
  · rcases hm with hm | ⟨rfl, rfl⟩
    · simp [hm]
    · simp

/-- One that it may not make sets WRITE_DENIED. -/
theorem State.pctlPairWrite_of_other {s : State} {m : Master} {n : Nat} {w : Word} (hm : s.lockstep m = false) (hjoin : DR_PCTL_MODEREQ.of w ≠ 3) :
    s.pctlPairWrite m n w = s.put DR_DSTAT_WRITE_DENIED 1 := by
  unfold State.pctlPairWrite
  dsimp only
  rw [if_neg (by simp [hm, hjoin])]

/-- A request by a lock-step master, and a JOIN by core 0 of the pair, is taken up. -/
theorem State.modereq_taken {s : State} {m : Master} {n : Pair} (v : Word) {k : Nat} (hbus : s.busOpen m = true)
    (hm : s.lockstep m = true ∨ m = .core n 0 ∧ k = 3) (hk : 0 < k ∧ k < 6) :
    ∃ u, s.AtMode u ∧ s.regStore m .DR_PCTL (DR_PCTL_MODEREQ.into v k) n.val = u.modeAct n.val k := by
  obtain ⟨d, hstore, hev, hunits⟩ := State.regStore_pairs s m .DR_PCTL (DR_PCTL_MODEREQ.into v k) n.val 0 hbus
  have htaken := State.pctlPairWrite_taken (s := { s with drift := d }) (m := m) (modereq_settles s n.val k v (by omega))
    (by rwa [hev.lockstep (by decide)]) hk
  exact ⟨_, ⟨State.regWrite_evolves (hev.mono (by decide +kernel)) _ _ _ _ (by decide +kernel), hunits⟩, hstore.trans htaken⟩

/-- From another master it sets WRITE_DENIED only. -/
theorem State.modereq_of_other {s : State} {m : Master} (n : Pair) (v : Word) {k : Nat} (hbus : s.busOpen m = true) (hm : s.lockstep m = false)
    (hk : k < 8) (hjoin : k ≠ 3) :
    ∃ d, Evolves [.drift] s { s with drift := d } ∧
      s.regStore m .DR_PCTL (DR_PCTL_MODEREQ.into v k) n.val = State.put { s with drift := d } DR_DSTAT_WRITE_DENIED 1 := by
  obtain ⟨d, hstore, hev, -⟩ := State.regStore_pairs s m .DR_PCTL (DR_PCTL_MODEREQ.into v k) n.val 0 hbus
  exact ⟨d, hev, hstore.trans (State.pctlPairWrite_of_other ((hev.lockstep (by decide) m).trans hm) (by rwa [modereq_settles s n.val k v hk]))⟩

/-! ### A request that is refused -/

/-- MODE_DENIED is set. -/
theorem State.modeDenied_on (s : State) (n : Pair) : (s.modeDenied n.val).on DR_PCTL_MODE_DENIED n.val = true :=
  State.on_put s DR_PCTL_MODE_DENIED 1 n.val 0 (pctl_has n) (by decide)

/-- The pair stays where it is. -/
theorem State.modeDenied_pst (s : State) (n : Pair) : (s.modeDenied n.val).pst n.val = s.pst n.val :=
  (State.modeDenied_evolves (.refl _ s) n.val (covers_self _)).pst (by decide) n.isLt

/-- So do the pairs' units. -/
theorem State.modeDenied_pairU (s : State) (n k : Nat) : (s.modeDenied n).pairU k = s.pairU k := rfl

/-! ### TEST, SERVICE and SPARE (R18, R299) -/

/-- TEST from SERVICE. -/
theorem State.reqTest_of_service {s : State} {n : Nat} (h : s.pst n = pairService) :
    s.reqTest n = (s.updPair n (fun p => { p with afterTest := pairTest })).setPst n pairTest := if_pos h

/-- TEST from elsewhere. -/
theorem State.reqTest_refused {s : State} {n : Nat} (h : s.pst n ≠ pairService) : s.reqTest n = s.modeDenied n := if_neg h

/-- SERVICE or SPARE from TEST. -/
theorem State.reqLeaveTest_of_test {s : State} {n dest : Nat} (h : s.pst n = pairTest) (hdest : dest = pairSpare → s.ownedBy n = []) :
    s.reqLeaveTest n dest = s.setPst n dest := by
  unfold State.reqLeaveTest
  rw [if_pos]
  by_cases hd : dest = pairSpare
  · simp [h, hdest hd]
  · simp [h, hd]

/-- SERVICE or SPARE from elsewhere, and SPARE of a pair that owns a block. -/
theorem State.reqLeaveTest_refused {s : State} {n dest : Nat} (h : s.pst n ≠ pairTest ∨ dest = pairSpare ∧ s.ownedBy n ≠ []) :
    s.reqLeaveTest n dest = s.modeDenied n := by
  unfold State.reqLeaveTest
  rw [if_neg]
  rcases h with h | ⟨rfl, h⟩
  · simp [h]
  · simp [h]

/-! ### SPLIT and JOIN (R295, R296) -/

/-- SPLIT under the conditions of R295. -/
theorem State.reqSplit_of_test {s : State} {n : Nat} (h : s.pst n = pairTest) (hfree : s.ownedBy n = []) (hfrom : (s.pairU n).afterTest ≠ pairSpare)
    (hspares : s.optSpares ≤ (s.pairsIn pairSpare).length ∨ s.pairsIn pairService = []) :
    s.reqSplit n = (s.updPair n (fun p => { p with core1 := CoreU.reset, log := [], journal := [] })).setPst n pairSplit := by
  unfold State.reqSplit
  rw [if_neg]
  rcases hspares with hspares | hspares
  · simp [h, hfree, hfrom, Nat.not_lt.2 hspares]
  · simp [h, hfree, hfrom, hspares]

/-- SPLIT without them. -/
theorem State.reqSplit_refused {s : State} {n : Nat} (h : s.pst n ≠ pairTest ∨ s.ownedBy n ≠ [] ∨ (s.pairU n).afterTest = pairSpare) :
    s.reqSplit n = s.modeDenied n := by
  unfold State.reqSplit
  rw [if_pos]
  rcases h with h | h | h
  · simp [h]
  · simp [h]
  · simp [h]

/-- JOIN from SPLIT. -/
theorem State.reqJoin_of_split {s : State} {n : Nat} (h : s.pst n = pairSplit) : s.reqJoin n = s.updPair n (fun p => { p with joining := 1 }) := if_pos h

/-- JOIN from elsewhere. -/
theorem State.reqJoin_refused {s : State} {n : Nat} (h : s.pst n ≠ pairSplit) : s.reqJoin n = s.modeDenied n := if_neg h

/-! ### The clauses of O40 on requests -/

/-- A request that is refused leaves the pair's state and unit, and sets MODE_DENIED. -/
theorem mode_is_refused {s u : State} (hu : s.AtMode u) (n : Pair) {t : State} (ht : t = u.modeDenied n.val) :
    t.pst n.val = s.pst n.val ∧ t.on DR_PCTL_MODE_DENIED n.val = true ∧ t.pairU n.val = u.pairU n.val := by
  subst ht
  exact ⟨(u.modeDenied_pst n).trans (hu.pst n), u.modeDenied_on n, u.modeDenied_pairU n.val n.val⟩

section Requests
variable (s : State) (m : Master) (n : Pair) (v : Word) (hbus : s.busOpen m = true)
include hbus

/-- TEST takes a pair from SERVICE. -/
theorem test_from_service (hm : s.lockstep m = true) (h : s.pst n.val = pairService) :
    ∃ t, exec (.modereqTest m n v) s = .next t ∧ t.pst n.val = pairTest ∧ (t.pairU n.val).afterTest = pairTest := by
  obtain ⟨u, hu, hact⟩ := State.modereq_taken v (k := 1) hbus (.inl hm) (by decide)
  have hreq : u.modeAct n.val 1 = _ := State.reqTest_of_service ((hu.pst n).trans h)
  refine ⟨_, congrArg Host.Outcome.next (hact.trans hreq), State.setPst_pst _ n (by decide), ?_⟩
  rw [State.setPst_pairU, State.pairU_updPair_same]

/-- Elsewhere TEST is refused. -/
theorem test_is_refused (hm : s.lockstep m = true) (h : s.pst n.val ≠ pairService) :
    ∃ t, exec (.modereqTest m n v) s = .next t ∧ t.pst n.val = s.pst n.val ∧ t.on DR_PCTL_MODE_DENIED n.val = true := by
  obtain ⟨u, hu, hact⟩ := State.modereq_taken v (k := 1) hbus (.inl hm) (by decide)
  have hreq : u.modeAct n.val 1 = _ := State.reqTest_refused (by rwa [hu.pst n])
  obtain ⟨hpst, hdenied, -⟩ := mode_is_refused hu n hreq
  exact ⟨_, congrArg Host.Outcome.next hact, hpst, hdenied⟩

/-- SPLIT takes a pair from TEST, under the conditions of R295; core 1, the log and the journal begin anew. -/
theorem split_from_test (hm : s.lockstep m = true) (h : s.pst n.val = pairTest) (hfree : s.ownedBy n.val = [])
    (hfrom : (s.pairU n.val).afterTest ≠ pairSpare) (hspares : s.optSpares ≤ (s.pairsIn pairSpare).length ∨ s.pairsIn pairService = []) :
    ∃ t, exec (.modereqSplit m n v) s = .next t ∧ t.pst n.val = pairSplit ∧ (t.pairU n.val).core1 = CoreU.reset ∧
      (t.pairU n.val).log = [] ∧ (t.pairU n.val).journal = [] := by
  obtain ⟨u, hu, hact⟩ := State.modereq_taken v (k := 2) hbus (.inl hm) (by decide)
  have hreq : u.modeAct n.val 2 = _ := State.reqSplit_of_test ((hu.pst n).trans h) ((hu.ownedBy n).trans hfree)
    (by rwa [hu.unit DriftPairU.afterTest (fun _ _ _ => rfl)]) (by rwa [hu.optSpares, hu.pairsIn, hu.pairsIn])
  refine ⟨_, congrArg Host.Outcome.next (hact.trans hreq), State.setPst_pst _ n (by decide), ?_⟩
  rw [State.setPst_pairU, State.pairU_updPair_same]
  exact ⟨rfl, rfl, rfl⟩

/-- Elsewhere, with a block owned, or for a pair that came from SPARE, SPLIT is refused. -/
theorem split_is_refused (hm : s.lockstep m = true)
    (h : s.pst n.val ≠ pairTest ∨ s.ownedBy n.val ≠ [] ∨ (s.pairU n.val).afterTest = pairSpare) :
    ∃ t, exec (.modereqSplit m n v) s = .next t ∧ t.pst n.val = s.pst n.val ∧ t.on DR_PCTL_MODE_DENIED n.val = true ∧
      (t.pairU n.val).core1 = (s.pairU n.val).core1 := by
  obtain ⟨u, hu, hact⟩ := State.modereq_taken v (k := 2) hbus (.inl hm) (by decide)
  have hreq : u.modeAct n.val 2 = _ := State.reqSplit_refused
    (by rwa [hu.pst n, hu.ownedBy n, hu.unit DriftPairU.afterTest (fun _ _ _ => rfl)])
  obtain ⟨hpst, hdenied, hunit⟩ := mode_is_refused hu n hreq
  refine ⟨_, congrArg Host.Outcome.next hact, hpst, hdenied, ?_⟩
  rw [hunit, hu.unit DriftPairU.core1 (fun _ _ _ => rfl)]

/-- SERVICE is refused outside TEST. -/
theorem service_is_refused (hm : s.lockstep m = true) (h : s.pst n.val ≠ pairTest) :
    ∃ t, exec (.modereqService m n v) s = .next t ∧ t.pst n.val = s.pst n.val ∧ t.on DR_PCTL_MODE_DENIED n.val = true := by
  obtain ⟨u, hu, hact⟩ := State.modereq_taken v (k := 4) hbus (.inl hm) (by decide)
  have hreq : u.modeAct n.val 4 = _ := State.reqLeaveTest_refused (.inl (by rwa [hu.pst n]))
  obtain ⟨hpst, hdenied, -⟩ := mode_is_refused hu n hreq
  exact ⟨_, congrArg Host.Outcome.next hact, hpst, hdenied⟩

/-- So is SPARE, and for a pair that owns a block (R18). -/
theorem spare_is_refused (hm : s.lockstep m = true) (h : s.pst n.val ≠ pairTest ∨ s.ownedBy n.val ≠ []) :
    ∃ t, exec (.modereqSpare m n v) s = .next t ∧ t.pst n.val = s.pst n.val ∧ t.on DR_PCTL_MODE_DENIED n.val = true := by
  obtain ⟨u, hu, hact⟩ := State.modereq_taken v (k := 5) hbus (.inl hm) (by decide)
  have hreq : u.modeAct n.val 5 = _ := State.reqLeaveTest_refused
    (by rw [hu.pst n, hu.ownedBy n]; exact h.imp id (fun h => ⟨rfl, h⟩))
  obtain ⟨hpst, hdenied, -⟩ := mode_is_refused hu n hreq
  exact ⟨_, congrArg Host.Outcome.next hact, hpst, hdenied⟩

/-- A request of a master that is not in lock-step sets WRITE_DENIED alone. -/
theorem request_of_other_master (hm : s.lockstep m = false) :
    ∃ t, exec (.modereqTest m n v) s = .next t ∧ t.pst n.val = s.pst n.val ∧ t.rdw .DR_PCTL n.val = s.rdw .DR_PCTL n.val ∧
      t.on DR_DSTAT_WRITE_DENIED = true := by
  obtain ⟨d, hev, hdenied⟩ := State.modereq_of_other n v (k := 1) hbus hm (by decide) (by decide)
  have hall := State.put_evolves (hev.mono (A := [.fresh, .drift, .reg .DR_DSTAT]) (by decide +kernel)) DR_DSTAT_WRITE_DENIED 1 0 0 (by decide +kernel)
  exact ⟨_, congrArg Host.Outcome.next hdenied, hall.pst (by decide) n.isLt, hall.rdw (pctl_has n) (by decide),
    State.on_put _ DR_DSTAT_WRITE_DENIED 1 0 0 (by decide) (by decide)⟩

/-- JOIN is refused outside SPLIT. -/
theorem join_is_refused (hm : s.lockstep m = true) (h : s.pst n.val ≠ pairSplit) :
    ∃ t, exec (.join m n v) s = .next t ∧ t.pst n.val = s.pst n.val ∧ t.on DR_PCTL_MODE_DENIED n.val = true ∧
      (t.pairU n.val).joining = (s.pairU n.val).joining := by
  obtain ⟨u, hu, hact⟩ := State.modereq_taken v (k := 3) hbus (.inl hm) (by decide)
  have hreq : u.modeAct n.val 3 = _ := State.reqJoin_refused (by rwa [hu.pst n])
  obtain ⟨hpst, hdenied, hunit⟩ := mode_is_refused hu n hreq
  refine ⟨_, congrArg Host.Outcome.next hact, hpst, hdenied, ?_⟩
  rw [hunit, hu.unit DriftPairU.joining (fun _ _ _ => rfl)]

/-- SERVICE takes a pair from TEST. -/
theorem service_from_test (hm : s.lockstep m = true) (h : s.pst n.val = pairTest) :
    ∃ t, exec (.modereqService m n v) s = .next t ∧ t.pst n.val = pairService := by
  obtain ⟨u, hu, hact⟩ := State.modereq_taken v (k := 4) hbus (.inl hm) (by decide)
  have hreq : u.modeAct n.val 4 = _ := State.reqLeaveTest_of_test ((hu.pst n).trans h) (fun e => absurd e (by decide))
  exact ⟨_, congrArg Host.Outcome.next (hact.trans hreq), State.setPst_pst _ n (by decide)⟩

/-- SPARE takes a pair from TEST that owns no block. -/
theorem spare_from_test (hm : s.lockstep m = true) (h : s.pst n.val = pairTest) (hfree : s.ownedBy n.val = []) :
    ∃ t, exec (.modereqSpare m n v) s = .next t ∧ t.pst n.val = pairSpare := by
  obtain ⟨u, hu, hact⟩ := State.modereq_taken v (k := 5) hbus (.inl hm) (by decide)
  have hreq : u.modeAct n.val 5 = _ := State.reqLeaveTest_of_test ((hu.pst n).trans h) (fun _ => (hu.ownedBy n).trans hfree)
  exact ⟨_, congrArg Host.Outcome.next (hact.trans hreq), State.setPst_pst _ n (by decide)⟩

/-- JOIN is noted in SPLIT, of core 0 of the pair too. -/
theorem join_from_split (hm : s.lockstep m = true ∨ m = .core n 0) (h : s.pst n.val = pairSplit) :
    ∃ t, exec (.join m n v) s = .next t ∧ (t.pairU n.val).joining = 1 ∧ t.pst n.val = pairSplit := by
  obtain ⟨u, hu, hact⟩ := State.modereq_taken v (k := 3) hbus (hm.imp id (fun e => ⟨e, rfl⟩)) (by decide)
  have hreq : u.modeAct n.val 3 = _ := State.reqJoin_of_split ((hu.pst n).trans h)
  refine ⟨_, congrArg Host.Outcome.next (hact.trans hreq), ?_, ?_⟩
  · rw [State.pairU_updPair_same]
  · rw [State.updPair_pst, hu.pst n, h]

end Requests

/-- A JOIN that is not due changes nothing. -/
theorem join_not_due (s : State) (n : Pair) (h : s.pst n.val ≠ pairSplit ∨ (s.pairU n.val).joining ≠ 2) :
    ∃ t, exec (.joinApply n) s = .next t ∧ t = s :=
  ⟨_, congrArg Host.Outcome.next (if_neg (by tauto)), rfl⟩

/-- A JOIN that is due puts core 0 as it is into TEST (R296). -/
theorem join_applies (s : State) (n : Pair) (h : s.pst n.val = pairSplit) (hdue : (s.pairU n.val).joining = 2) :
    ∃ t, exec (.joinApply n) s = .next t ∧ t.pst n.val = pairTest ∧ (t.pairU n.val).core1 = CoreU.reset ∧ (t.pairU n.val).joining = 0 ∧
      (t.pairU n.val).afterTest = pairService ∧ (t.pairU n.val).core0 = (s.pairU n.val).core0 := by
  refine ⟨_, congrArg Host.Outcome.next (if_pos ⟨h, hdue⟩), State.setPst_pst _ n (by decide), ?_⟩
  rw [State.setPst_pairU, State.pairU_updPair_same]
  refine ⟨rfl, rfl, rfl, ?_⟩
  dsimp only
  split <;> rfl

end Sys2Proof.Machine
end
section
/-! SUPPORT. Comparator tests (R291 to R293): the end of a test in START, in TEST and in place. -/

namespace Sys2Proof.Machine

/-! ### What follows a move of a pair -/

/-- Every pair has its PFAULT. -/
theorem pfault_has (n : Pair) : RegId.DR_PFAULT.has n.val 0 = true := RegId.has_of_lt n.isLt rfl Nat.one_pos

/-- A raise moves no pair. -/
theorem State.raise_pst (s : State) (src : Nat) (n : Pair) : (s.raise src).pst n.val = s.pst n.val :=
  (State.raise_evolves (.refl _ s) src (covers_self _)).pst (by decide) n.isLt

/-- A joined pair that goes on keeps the time of its last test. -/
theorem State.joinResume_lastTest (s : State) (n k : Nat) : ((s.joinResume n).pairU k).lastTest = (s.pairU k).lastTest := by
  unfold State.joinResume
  split
  · have hcores := (State.coreIrq_offCore (s.endWait n 0 false s.plan.wasFiller) n 0 k).trans (State.endWait_offCore s n 0 false s.plan.wasFiller k)
    exact (congrArg DriftPairU.lastTest hcores :)
  · rw [State.pairU_updPair]
    split <;> rfl

/-- A raise leaves the time of a pair's last test. -/
theorem State.raise_lastTest (s : State) (src k : Nat) : ((s.raise src).pairU k).lastTest = (s.pairU k).lastTest :=
  (congrArg DriftPairU.lastTest (State.raise_offCore s src k) :)

/-! ### A fault's cause and lane (R298) -/

/-- CAUSE and LANE of a failed test. -/
theorem State.putFault_shows (s : State) (n : Pair) (l : Fin 1024) :
    (s.putFault n.val 4 l.val).get DR_PFAULT_CAUSE n.val = 4 ∧ (s.putFault n.val 4 l.val).get DR_PFAULT_LANE n.val = l.val := by
  have heq : s.putFault n.val 4 l.val = ((s.put DR_PFAULT_CAUSE 4 n.val).put DR_PSTAMP_STAMP s.stamp n.val).put DR_PFAULT_LANE l.val n.val := by
    unfold State.putFault
    dsimp only
    rw [if_pos (.inr rfl)]
  rw [heq]
  refine ⟨?_, (State.get_put _ DR_PFAULT_LANE l.val n.val 0 (pfault_has n) (by decide)).trans (Nat.mod_eq_of_lt l.isLt)⟩
  rw [State.get_put_of_apart (f := DR_PFAULT_LANE) (g := DR_PFAULT_CAUSE) _ _ n.val 0 (pfault_has n) (by decide),
    State.get_put_of_apart (f := DR_PSTAMP_STAMP) (g := DR_PFAULT_CAUSE) _ _ n.val 0 (pfault_has n) (by decide)]
  exact State.get_put s DR_PFAULT_CAUSE 4 n.val 0 (pfault_has n) (by decide)

section Fault
variable {A : List Part} {s t : State} (h : Evolves A s t)
include h

/-- CAUSE and LANE rest on PFAULT. -/
theorem Evolves.fault (hp : Part.reg .DR_PFAULT ∉ A) (n : Pair) {c l : Nat}
    (hs : s.get DR_PFAULT_CAUSE n.val = c ∧ s.get DR_PFAULT_LANE n.val = l) : t.get DR_PFAULT_CAUSE n.val = c ∧ t.get DR_PFAULT_LANE n.val = l :=
  ⟨(h.get (f := DR_PFAULT_CAUSE) (pfault_has n) hp).trans hs.1, (h.get (f := DR_PFAULT_LANE) (pfault_has n) hp).trans hs.2⟩

end Fault

/-! ### FAILED (R291, R292) -/

/-- A pair that enters FAILED is there. -/
theorem State.enterFailed_pst (s : State) (n : Pair) : (s.enterFailed n.val).pst n.val = pairFailed := by
  unfold State.enterFailed
  dsimp only
  rw [(State.sf2Drift_evolves (.refl _ _) s (covers_self _)).pst (by decide) n.isLt, State.raise_pst, State.setPst_pst _ n (by decide)]

/-- A failed test puts its pair into FAILED, with cause 4 and the lane. -/
theorem State.testFailed_shows (s : State) (n : Pair) (l : Fin 1024) :
    (s.testFailed n.val l.val).pst n.val = pairFailed ∧
      (s.testFailed n.val l.val).get DR_PFAULT_CAUSE n.val = 4 ∧ (s.testFailed n.val l.val).get DR_PFAULT_LANE n.val = l.val :=
  ⟨State.enterFailed_pst _ n, (State.enterFailed_evolves (.refl _ (s.putFault n.val 4 l.val)) n.val (covers_self _)).fault (by decide) n
    (s.putFault_shows n l)⟩

/-! ### The test of a pair in TEST (R291 to R293) -/

/-- Where a passed test puts a pair. -/
def State.testDest (s : State) (n : Nat) (march : Bool) : Nat :=
  if (s.pairU n).afterTest = pairFailed then (if s.mayLeaveFailed n march then pairSpare else pairFailed)
  else if (s.pairU n).afterTest = pairSpare then pairSpare
  else if (s.pairU n).afterTest = pairService then pairService
  else s.pst n

/-- A passed test notes its time and moves its pair. -/
theorem State.testPassed_shows (s : State) (n : Pair) (march : Bool) :
    (s.testPassed n.val march).pst n.val = s.testDest n.val march ∧ ((s.testPassed n.val march).pairU n.val).lastTest = s.now := by
  have hnoted : ((s.updPair n.val (fun p => { p with lastTest := s.now, afterTest := pairTest })).pairU n.val).lastTest = s.now := by
    rw [State.pairU_updPair_same]
  have hstuck : (((s.updPair n.val (fun p => { p with lastTest := s.now, afterTest := pairTest })).updPair n.val
      (fun p => { p with stuck := true })).pairU n.val).lastTest = s.now := by
    rw [State.pairU_updPair_same]
    exact hnoted
  unfold State.testPassed State.testDest
  dsimp only
  split
  · rw [State.raise_pst, State.raise_lastTest]
    split
    · exact ⟨State.setPst_pst _ n (by decide), by rw [State.setPst_pairU, hnoted]⟩
    · exact ⟨State.setPst_pst _ n (by decide), by rw [State.setPst_pairU, hstuck]⟩
  · split
    · rw [State.raise_pst, State.raise_lastTest]
      exact ⟨State.setPst_pst _ n (by decide), by rw [State.setPst_pairU, hnoted]⟩
    · split
      · rw [(State.joinResume_evolves (.refl _ _) n.val (covers_self _)).pst (by decide) n.isLt, State.joinResume_lastTest]
        exact ⟨State.setPst_pst _ n (by decide), by rw [State.setPst_pairU, hnoted]⟩
      · exact ⟨State.updPair_pst s n.val n.val _, hnoted⟩

/-! ### The end of a test -/

section TestEnds
variable (s : State) (n : Pair)

/-- In START a test ends once the pairs may start (R283, R347). -/
theorem test_ends_in_start (fail : Option (Fin 1024)) (march : Bool) (h : s.pst n.val = pairStart) (hmay : s.pairsMayStart = true) :
    exec (.comparatorTestComplete n fail march) s = .next (s.leaveStart n.val fail) :=
  congrArg Host.Outcome.next ((if_pos h).trans (if_pos hmay))

/-- In TEST a passed one moves the pair. -/
theorem test_passes_in_test (march : Bool) (h : s.pst n.val = pairTest) :
    exec (.comparatorTestComplete n none march) s = .next (s.testPassed n.val march) :=
  congrArg Host.Outcome.next ((if_neg (by simp [h, pairTest, pairStart])).trans (if_pos h))

/-- A failed one leaves it stuck in FAILED where it came from there (R291), and else puts it there. -/
theorem test_fails_in_test (l : Fin 1024) (march : Bool) (h : s.pst n.val = pairTest) :
    exec (.comparatorTestComplete n (some l) march) s =
      .next (if (s.pairU n.val).afterTest = pairFailed then
          (((s.putFault n.val 4 l.val).updPair n.val (fun p => { p with stuck := true })).setPst n.val pairFailed).raise 580
        else (s.testFailed n.val l.val).raiseIf ((s.pairU n.val).afterTest == pairSpare) 580) :=
  congrArg Host.Outcome.next ((if_neg (by simp [h, pairTest, pairStart])).trans (if_pos h))

/-- In place a passed one lets its pair go on. -/
theorem test_passes_in_place (march : Bool) (h : s.pst n.val = pairService) (hrun : (s.pairU n.val).inPlace = true) :
    exec (.comparatorTestComplete n none march) s =
      .next (((s.updPair n.val (fun p => { p with inPlace := false, lastTest := s.now })).raise 580).coreIrq n.val 0) :=
  congrArg Host.Outcome.next ((if_neg (by simp [h, pairService, pairStart])).trans
    ((if_neg (by simp [h, pairService, pairTest])).trans (if_pos hrun)))

/-- A failed one is a fault of its pair. -/
theorem test_fails_in_place (l : Fin 1024) (march : Bool) (h : s.pst n.val = pairService) (hrun : (s.pairU n.val).inPlace = true) :
    exec (.comparatorTestComplete n (some l) march) s = .next ((s.detect n.val 4 l.val).raise 580) :=
  congrArg Host.Outcome.next ((if_neg (by simp [h, pairService, pairStart])).trans
    ((if_neg (by simp [h, pairService, pairTest])).trans (if_pos hrun)))

end TestEnds

/-! ### The clauses of O40 on tests -/

/-- In TEST a passed one puts a pair where it came from, one from FAILED only when it may leave. -/
theorem passed_test_moves_pair (s : State) (n : Pair) (r : Bool) (h : s.pst n.val = pairTest) :
    ∃ t, exec (.comparatorTestComplete n none r) s = .next t ∧
      (t.pst n.val =
        if (s.pairU n.val).afterTest = pairFailed then
          (if r = true ∧ s.get DR_PCOUNT_FAILCNT n.val < 2 ∧ s.ownedBy n.val = [] then pairSpare else pairFailed)
        else if (s.pairU n.val).afterTest = pairSpare then pairSpare
        else if (s.pairU n.val).afterTest = pairService then pairService
        else pairTest) ∧
      (t.pairU n.val).lastTest = s.now := by
  obtain ⟨hpst, hnoted⟩ := s.testPassed_shows n r
  refine ⟨_, test_passes_in_test s n r h, ?_, hnoted⟩
  rw [hpst]
  unfold State.testDest State.mayLeaveFailed
  simp only [h, Bool.and_eq_true, decide_eq_true_eq, List.isEmpty_iff, and_assoc]

/-- A failed one puts it into FAILED with cause 4 and the lane. -/
theorem failed_test_fails_pair (s : State) (n : Pair) (l : Fin 1024) (r : Bool) (h : s.pst n.val = pairTest) :
    ∃ t, exec (.comparatorTestComplete n (some l) r) s = .next t ∧ t.pst n.val = pairFailed ∧
      t.get DR_PFAULT_CAUSE n.val = 4 ∧ t.get DR_PFAULT_LANE n.val = l.val := by
  refine ⟨_, test_fails_in_test s n l r h, ?_⟩
  split
  · have hmoved := State.setPst_evolves (State.updPair_evolves (A := [.fresh, .timers, .drift, .fm, .reg .DR_DSTAT, .reg .DR_PSTATE, .reg .FM_FSTAT])
      (.refl _ (s.putFault n.val 4 l.val)) n.val (fun p => { p with stuck := true }) rfl (by decide +kernel)) n.val pairFailed (by decide +kernel)
    have hraised := State.raise_evolves (.refl _ (((s.putFault n.val 4 l.val).updPair n.val (fun p => { p with stuck := true })).setPst n.val pairFailed))
      580 (covers_self _)
    exact ⟨(State.raise_pst _ 580 n).trans (State.setPst_pst _ n (by decide)),
      hraised.fault (by decide) n (hmoved.fault (by decide) n (s.putFault_shows n l))⟩
  · obtain ⟨hpst, hfault⟩ := s.testFailed_shows n l
    unfold State.raiseIf
    split
    · exact ⟨(State.raise_pst _ 580 n).trans hpst, (State.raise_evolves (.refl _ _) 580 (covers_self _)).fault (by decide) n hfault⟩
    · exact ⟨hpst, hfault⟩

/-- In START a passed one puts it to its destination. -/
theorem start_test_places_pair (s : State) (n : Pair) (r : Bool) (h : s.pst n.val = pairStart) (hmay : s.pairsMayStart = true) :
    ∃ t, exec (.comparatorTestComplete n none r) s = .next t ∧ t.pst n.val = s.startDest n.val := by
  refine ⟨_, test_ends_in_start s n none r h hmay, ?_⟩
  have hload := State.loadTcm_evolves (.refl _ s) n.val (covers_self _)
  have hdest : s.startDest n.val < 8 := by
    unfold State.startDest
    repeat' split
    all_goals decide
  have hplaced : ∀ f : DriftPairU → DriftPairU, (((s.loadTcm n.val).updPair n.val f).setPst n.val ((s.loadTcm n.val).startDest n.val)).pst n.val =
      s.startDest n.val := fun f => by
    rw [hload.startDest (by decide) (by decide), State.setPst_pst _ n hdest]
  unfold State.leaveStart
  dsimp only
  rw [(State.startDone_evolves (.refl _ _) (covers_self _)).pst (by decide) n.isLt, ite_self]
  split
  · rw [State.raise_pst]
    exact hplaced _
  · exact hplaced _

/-- In place a passed one ends with its pair in SERVICE. -/
theorem passed_test_in_place (s : State) (n : Pair) (r : Bool) (h : s.pst n.val = pairService) (hrun : (s.pairU n.val).inPlace = true) :
    ∃ t, exec (.comparatorTestComplete n none r) s = .next t ∧ t.pst n.val = pairService ∧ (t.pairU n.val).inPlace = false ∧
      (t.pairU n.val).lastTest = s.now := by
  refine ⟨_, test_passes_in_place s n r h hrun, ?_, ?_⟩
  · rw [(State.coreIrq_evolves (.refl _ _) n.val 0 (covers_self _)).pst (by decide) n.isLt, State.raise_pst, State.updPair_pst, h]
  · have hcores := (State.coreIrq_offCore ((s.updPair n.val (fun p => { p with inPlace := false, lastTest := s.now })).raise 580) n.val 0 n.val).trans
      (State.raise_offCore _ 580 n.val)
    rw [State.pairU_updPair_same] at hcores
    exact ⟨(congrArg DriftPairU.inPlace hcores :), (congrArg DriftPairU.lastTest hcores :)⟩

/-! ### A fault that is detected (R285) -/

/-- The assignment of spares is of the mates alone. -/
theorem State.assignSpares_unit (s : State) (k : Nat) : ∃ q, (s.assignSpares).pairU k = { s.pairU k with mate := q } := by
  have hunit : ({ (s.assignSpares).pairU k with mate := none } : DriftPairU) = { s.pairU k with mate := none } := by
    have hmate : ∀ (t : State) n q,
        ({ (t.updPair n (fun p => { p with mate := q })).pairU k with mate := none } : DriftPairU) = { t.pairU k with mate := none } :=
      fun t n q => by
        rw [State.pairU_updPair]
        split <;> rfl
    unfold State.assignSpares
    refine State.each_keeps (fun t => ({ t.pairU k with mate := none } : DriftPairU)) _ _ (fun t i => ?_) s
    dsimp only
    split
    · exact hmate t _ _
    · exact hmate t _ _
  exact ⟨((s.assignSpares).pairU k).mate, (congrArg (fun p : DriftPairU => { p with mate := ((s.assignSpares).pairU k).mate }) hunit :)⟩

/-- A detected fault: the pair is faulted and tested no more, CAUSE and LANE stand, and it enters FAILED 0.1 µs later. -/
theorem State.detect_shows (s : State) (n : Pair) (l : Fin 1024) :
    ((s.detect n.val 4 l.val).pairU n.val).inPlace = false ∧ ((s.detect n.val 4 l.val).pairU n.val).faulted = true ∧
      ((s.detect n.val 4 l.val).get DR_PFAULT_CAUSE n.val = 4 ∧ (s.detect n.val 4 l.val).get DR_PFAULT_LANE n.val = l.val) ∧
      (s.detect n.val 4 l.val).deadline (.pairFail n.val) = some (s.now + 25) := by
  have hev : Evolves [.fresh, .timers, .drift, .fm, .reg .DR_DSTAT, .reg .FM_FSTAT] (s.putFault n.val 4 l.val) (s.detect n.val 4 l.val) := by
    refine State.arm_evolves (State.arm_evolves (State.faultLine_evolves (State.assignSpares_evolves
      (State.updPair_evolves (.refl _ _) _ _ rfl ?_) ?_) ?_) _ _ ?_) _ _ ?_
    all_goals decide +kernel
  have hfault := hev.fault (by decide) n (s.putFault_shows n l)
  unfold State.detect at hfault ⊢
  dsimp only at hfault ⊢
  generalize hs2 : (s.putFault n.val 4 l.val).updPair n.val _ = s2 at hfault ⊢
  have hline : ∀ k, (s2.assignSpares.faultLine).pairU k = (s2.assignSpares).pairU k := fun k =>
    (State.faultLine_evolves (.refl _ _) (covers_self _)).pairU (by decide) k
  have hunit : ((s2.assignSpares.faultLine).pairU n.val).inPlace = false ∧ ((s2.assignSpares.faultLine).pairU n.val).faulted = true := by
    obtain ⟨q, hq⟩ := s2.assignSpares_unit n.val
    rw [hline, hq, ← hs2, State.pairU_updPair_same]
    exact ⟨rfl, rfl⟩
  have hnow : s2.assignSpares.faultLine.now = s.now := by
    have hwhole : Evolves [.fresh, .drift, .fm, .reg .DR_DSTAT, .reg .DR_PFAULT, .reg .DR_PSTAMP, .reg .FM_FSTAT] s s2.assignSpares.faultLine := by
      rw [← hs2]
      refine State.faultLine_evolves (State.assignSpares_evolves (State.updPair_evolves (State.putFault_evolves (.refl _ _) _ _ _ ?_) _ _ rfl ?_) ?_) ?_
      all_goals decide +kernel
    exact hwhole.kept .now (by decide)
  refine ⟨hunit.1, hunit.2, hfault, ?_⟩
  rw [State.deadline_arm_ne _ _ (by simp), State.deadline_arm, hnow]

/-- In place a failed one ends with the fault. -/
theorem failed_test_in_place (s : State) (n : Pair) (l : Fin 1024) (r : Bool) (h : s.pst n.val = pairService) (hrun : (s.pairU n.val).inPlace = true) :
    ∃ t, exec (.comparatorTestComplete n (some l) r) s = .next t ∧ (t.pairU n.val).inPlace = false ∧ (t.pairU n.val).faulted = true ∧
      t.get DR_PFAULT_CAUSE n.val = 4 ∧ t.get DR_PFAULT_LANE n.val = l.val ∧ t.deadline (.pairFail n.val) = some (s.now + 25) := by
  obtain ⟨hplace, hfaulted, hfault, hfail⟩ := s.detect_shows n l
  have hcores := State.raise_offCore (s.detect n.val 4 l.val) 580 n.val
  obtain ⟨hcause, hlane⟩ := (State.raise_evolves (.refl _ (s.detect n.val 4 l.val)) 580 (covers_self _)).fault (by decide) n hfault
  refine ⟨_, test_fails_in_place s n l r h hrun, (congrArg DriftPairU.inPlace hcores :).trans hplace,
    (congrArg DriftPairU.faulted hcores :).trans hfaulted, hcause, hlane, ?_⟩
  rw [State.raise_deadline _ _ (fun k => by simp), hfail]

end Sys2Proof.Machine
end
section
/-! SUPPORT. TEST windows (R293), owned regions and the log's maxima (R271, R299), a split core that stops (R294), dual-sampled pins (R278); O40. -/

namespace Sys2Proof.Machine

/-! ### TEST windows (R293) -/

/-- A completed checkpoint moves no pair. -/
theorem State.checkpointed_pst (s : State) (n : Pair) : (s.checkpointed n.val).pst n.val = s.pst n.val := by
  unfold State.checkpointed
  dsimp only
  rw [(State.coreIrq_evolves (.refl _ _) n.val 0 (covers_self _)).pst (by decide) n.isLt]
  exact (State.get_put_of_apart (f := DR_PSTATE_UNPROTECTED) (g := DR_PSTATE_STATE) _ 0 n.val 0 (pstate_has n.isLt) (by decide)).trans
    (State.updPair_pst s n.val n.val _)

/-- A block that has passed to a pair, or is among those that still pass to it, is that pair's when all have passed. -/
theorem State.owner_of_each (k : Pair) (b : Block) (l : List Nat) (hl : ∀ c ∈ l, c < 8) (s : State)
    (h : b.val ∈ l ∨ s.get BLK_BLKCTL_OWNER b.val = k.val) :
    (s.each l (fun s c => s.put BLK_BLKCTL_OWNER k.val c)).get BLK_BLKCTL_OWNER b.val = k.val := by
  unfold State.each
  induction l generalizing s with
  | nil => exact h.resolve_left List.not_mem_nil
  | cons c l ih =>
    refine ih (fun d hd => hl d (List.mem_cons_of_mem c hd)) (s.put BLK_BLKCTL_OWNER k.val c) ?_
    by_cases hc : b.val = c
    · right
      rw [← hc, State.get_put s BLK_BLKCTL_OWNER k.val b.val 0 (blkctl_has b) (by decide)]
      exact Nat.mod_eq_of_lt k.isLt
    · refine h.imp (fun hb => (List.mem_cons.1 hb).resolve_left hc) (fun hown => ?_)
      rw [State.get_put_ne s BLK_BLKCTL_OWNER BLK_BLKCTL_OWNER k.val c 0 b.val 0 (blkctl_has b) (.inr (.inl hc)), hown]

/-- What passes from a pair to its spare: its blocks are the spare's (R20). -/
theorem State.moveWork_owner (s : State) (n k : Pair) (b : Block) (hown : s.on BLK_BLKCTL_OWNED b.val = true)
    (hid : s.get BLK_BLKCTL_OWNER b.val = n.val) : (s.moveWork n.val k.val).get BLK_BLKCTL_OWNER b.val = k.val := by
  have hmoved : (s.rewriteOwner n.val k.val).get BLK_BLKCTL_OWNER b.val = k.val := by
    have heach := State.owner_of_each k b (s.ownedBy n.val) (fun c hc => List.mem_range.1 (List.mem_of_mem_filter hc)) s
      (.inl (List.mem_filter.2 ⟨List.mem_range.2 b.isLt, by simp [hown, hid]⟩))
    unfold State.rewriteOwner
    dsimp only
    split
    · rw [State.get_put_ne _ FM_FSTAT_SAFEPAIR_ACT BLK_BLKCTL_OWNER k.val 0 0 b.val 0 (blkctl_has b) (.inl (by decide)), heach]
    · exact heach
  have hrest : Evolves ([Part.plan, .reg .SP_PAIRSUP, .reg .SP_CREWCTL, .reg .DR_PSTATE, .reg .EX_MBCTL] ++ raiseParts ++ gateParts)
      (s.rewriteOwner n.val k.val) (s.moveWork n.val k.val) := by
    unfold State.moveWork
    refine State.regateAll_evolves (State.raise_evolves (State.put_evolves (State.put_evolves (State.updPair_evolves (State.updPair_evolves
      (State.moveMailbox_evolves (State.moveCrews_evolves (.refl _ _) _ _ ?_) _ _ ?_) _ _ rfl ?_) _ _ rfl ?_) _ _ _ _ ?_) _ _ _ _ ?_) _ ?_) ?_
    all_goals decide +kernel
  exact (hrest.get (f := BLK_BLKCTL_OWNER) (blkctl_has b) (by decide)).trans hmoved

/-- A hand-over gives the spare the pair's place and blocks, and puts the pair into TEST. -/
theorem State.handOver_shows (s : State) (n k : Pair) (hne : k ≠ n) :
    (s.handOver n.val k.val).pst n.val = pairTest ∧ ((s.handOver n.val k.val).pairU n.val).afterTest = pairSpare ∧
      (s.handOver n.val k.val).pst k.val = pairService ∧
      ∀ b : Block, s.on BLK_BLKCTL_OWNED b.val = true → s.get BLK_BLKCTL_OWNER b.val = n.val →
        (s.handOver n.val k.val).get BLK_BLKCTL_OWNER b.val = k.val := by
  have hbefore := State.checkpointed_evolves (.refl _ s) n.val (covers_self _)
  have hafter : Evolves [.fresh, .mem, .timers, .drift, .fm, .reg .DR_PSTATE, .reg .DR_PLOG, .reg .DR_DSTAT, .reg .FM_FSTAT]
      ((s.checkpointed n.val).moveWork n.val k.val) (s.handOver n.val k.val) := by
    unfold State.handOver
    refine State.setPst_evolves (State.updPair_evolves (State.setPst_evolves (State.checkpointed_evolves (State.copyWork_evolves (.refl _ _) _ _ ?_) _ ?_)
      _ _ ?_) _ _ rfl ?_) _ _ ?_
    all_goals decide +kernel
  refine ⟨State.setPst_pst _ n (by decide), ?_, ?_, fun b hown hid => ?_⟩
  · unfold State.handOver
    rw [State.setPst_pairU, State.pairU_updPair_same]
  · unfold State.handOver
    rw [State.setPst_pst_ne _ n k _ hne, State.updPair_pst, State.setPst_pst _ k (by decide)]
  · rw [hafter.get (f := BLK_BLKCTL_OWNER) (blkctl_has b) (by decide)]
    exact State.moveWork_owner _ n k b ((hbefore.on (f := BLK_BLKCTL_OWNED) (blkctl_has b) (by decide)).trans hown)
      ((hbefore.get (f := BLK_BLKCTL_OWNER) (blkctl_has b) (by decide)).trans hid)

/-- A pair that is not halted and not stuck in FAILED, its window due, is not passed over. -/
theorem window_opens {s : State} {n : Pair} (hdue : s.windowDue n.val = true) (hrun : s.on DR_PSTATE_DEBUG n.val = false)
    (hfree : s.pst n.val = pairFailed → (s.pairU n.val).stuck = false) :
    ¬ (!s.windowDue n.val || s.on DR_PSTATE_DEBUG n.val || (s.pst n.val == pairFailed && (s.pairU n.val).stuck)) = true := by
  by_cases hf : s.pst n.val = pairFailed
  · simp [hdue, hrun, hfree hf]
  · simp [hdue, hrun, hf]

section Windows
variable (s : State) (n : Pair)

/-- A SPARE or FAILED pair goes into TEST. -/
theorem window_tests_idle_pair (hdue : s.windowDue n.val = true) (hrun : s.on DR_PSTATE_DEBUG n.val = false)
    (h : s.pst n.val = pairSpare ∨ (s.pst n.val = pairFailed ∧ (s.pairU n.val).stuck = false)) :
    ∃ t, exec (.testWindowOpen n) s = .next t ∧ t.pst n.val = pairTest ∧ (t.pairU n.val).afterTest = s.pst n.val := by
  have hopen := window_opens hdue hrun (fun hf => by
    rcases h with h | ⟨-, h⟩
    · exact absurd (h.symm.trans hf) (by decide)
    · exact h)
  refine ⟨_, congrArg Host.Outcome.next ((if_neg hopen).trans (if_pos (h.imp id And.left))), State.setPst_pst _ n (by decide), ?_⟩
  rw [State.setPst_pairU, State.pairU_updPair_same]

/-- The window of a serving pair. -/
theorem window_of_serving_pair (hdue : s.windowDue n.val = true) (hrun : s.on DR_PSTATE_DEBUG n.val = false) (h : s.pst n.val = pairService)
    (hsound : (s.pairU n.val).faulted = false) :
    exec (.testWindowOpen n) s = .next (match s.pairsIn pairSpare with
      | j :: _ => s.handOver n.val j
      | [] => (s.checkpointed n.val).updPair n.val (fun p => { p with inPlace := true })) := by
  have hopen := window_opens hdue hrun (fun hf => absurd (h.symm.trans hf) (by decide))
  have hidle : ¬ (s.pst n.val = pairSpare ∨ s.pst n.val = pairFailed) := by
    rw [h]
    decide
  exact congrArg Host.Outcome.next ((if_neg hopen).trans ((if_neg hidle).trans (if_pos ⟨h, by simp [hsound]⟩)))

/-- It hands the pair's work to the lowest spare. -/
theorem window_hands_over (k : Pair) (hdue : s.windowDue n.val = true) (hrun : s.on DR_PSTATE_DEBUG n.val = false)
    (h : s.pst n.val = pairService) (hsound : (s.pairU n.val).faulted = false) (hspare : (s.pairsIn pairSpare).head? = some k.val) :
    ∃ t, exec (.testWindowOpen n) s = .next t ∧ t.pst n.val = pairTest ∧ (t.pairU n.val).afterTest = pairSpare ∧ t.pst k.val = pairService ∧
      (∀ b : Block, s.on BLK_BLKCTL_OWNED b.val = true → s.get BLK_BLKCTL_OWNER b.val = n.val → t.get BLK_BLKCTL_OWNER b.val = k.val) := by
  have hexec := window_of_serving_pair s n hdue hrun h hsound
  have hin : s.pst k.val = pairSpare := by simpa using (List.mem_filter.1 (List.mem_of_head? hspare)).2
  have hne : k ≠ n := fun e => absurd (hin.symm.trans (e ▸ h)) (by decide)
  obtain ⟨l, hl⟩ := List.head?_eq_some_iff.1 hspare
  rw [hl] at hexec
  exact ⟨_, hexec, s.handOver_shows n k hne⟩

/-- With no spare it starts a test in place. -/
theorem window_tests_in_place (hdue : s.windowDue n.val = true) (hrun : s.on DR_PSTATE_DEBUG n.val = false) (h : s.pst n.val = pairService)
    (hsound : (s.pairU n.val).faulted = false) (hspare : s.pairsIn pairSpare = []) :
    ∃ t, exec (.testWindowOpen n) s = .next t ∧ t.pst n.val = pairService ∧ (t.pairU n.val).inPlace = true := by
  have hexec := window_of_serving_pair s n hdue hrun h hsound
  rw [hspare] at hexec
  refine ⟨_, hexec, ?_, ?_⟩
  · rw [State.updPair_pst, State.checkpointed_pst, h]
  · rw [State.pairU_updPair_same]

/-- Of a pair halted by the port, or FAILED for good, none opens. -/
theorem window_stays_shut
    (h : s.windowDue n.val = false ∨ s.on DR_PSTATE_DEBUG n.val = true ∨ (s.pst n.val = pairFailed ∧ (s.pairU n.val).stuck = true)) :
    ∃ t, exec (.testWindowOpen n) s = .next t ∧ t = s := by
  refine ⟨_, congrArg Host.Outcome.next (if_pos ?_), rfl⟩
  rcases h with h | h | ⟨hf, hstuck⟩
  · simp [h]
  · simp [h]
  · simp [hf, hstuck]

end Windows

/-! ### Owned regions and the log's maxima (R271, R299) -/

/-- Every pair has its four regions. -/
theorem ownrgn_has (n : Pair) (j : Fin 4) : RegId.DR_OWNRGN.has n.val j.val = true :=
  (RegId.has_iff _ _ _).2 ⟨Nat.zero_le _, (Nat.zero_add 16).symm ▸ n.isLt, j.isLt⟩

section Writes
variable (s : State) (m : Master) (n : Pair) (j : Fin 4) (v : Word) (hbus : s.busOpen m = true) (hm : s.lockstep m = true)
include hbus hm

/-- A lock-step master's write to OWNRGN, its egress counted. -/
theorem State.ownrgn_store :
    ∃ u, Evolves [.drift] s u ∧
      exec (.ownrgnWrite m n j v) s = .next (if !changes (s.rdw .DR_OWNRGN n.val j.val) v (BitVec.ofNat 32 RegId.DR_OWNRGN.reg.rw) then u
        else if (s.pst n.val = pairStart || s.pst n.val = pairTest) && s.regionOk n.val j.val v then u.regWrite .DR_OWNRGN v n.val j.val
        else u.modeDenied n.val) := by
  obtain ⟨d, hstore, hev, -⟩ := State.regStore_pairs s m .DR_OWNRGN v n.val j.val hbus
  refine ⟨_, hev, congrArg Host.Outcome.next (hstore.trans ?_)⟩
  rw [State.settle_of_no_w1c s .DR_OWNRGN v n.val j.val rfl]
  exact if_neg (by rw [hev.lockstep (by decide), hm]; decide)

/-- Outside START and TEST, or beyond the limits, it is refused where it would change the region. -/
theorem region_is_refused
    (h : (s.pst n.val ≠ pairStart ∧ s.pst n.val ≠ pairTest) ∨ s.regionOk n.val j.val v = false) :
    ∃ t, exec (.ownrgnWrite m n j v) s = .next t ∧ t.rdw .DR_OWNRGN n.val j.val = s.rdw .DR_OWNRGN n.val j.val ∧
      (changes (s.rdw .DR_OWNRGN n.val j.val) v (BitVec.ofNat 32 RegId.DR_OWNRGN.reg.rw) = true → t.on DR_PCTL_MODE_DENIED n.val = true) := by
  obtain ⟨u, hev, hexec⟩ := State.ownrgn_store s m n j v hbus hm
  have hkept := hev.rdw (ownrgn_has n j) (by decide)
  have hrefused : ((s.pst n.val = pairStart || s.pst n.val = pairTest) && s.regionOk n.val j.val v) = false := by
    rcases h with ⟨hstart, htest⟩ | h
    · simp [hstart, htest]
    · simp [h]
  rw [hrefused] at hexec
  refine ⟨_, hexec, ?_, fun hch => ?_⟩
  · split
    · exact hkept
    · exact ((State.modeDenied_evolves (.refl _ u) n.val (covers_self _)).rdw (ownrgn_has n j) (by decide)).trans hkept
  · rw [hch]
    exact u.modeDenied_on n

/-- In START and TEST a word within the limits is taken. -/
theorem region_is_taken (hst : s.pst n.val = pairStart ∨ s.pst n.val = pairTest) (hok : s.regionOk n.val j.val v = true) :
    ∃ t, exec (.ownrgnWrite m n j v) s = .next t ∧
      t.rdw .DR_OWNRGN n.val j.val = RegId.DR_OWNRGN.written (s.rdw .DR_OWNRGN n.val j.val) v := by
  obtain ⟨u, hev, hexec⟩ := State.ownrgn_store s m n j v hbus hm
  have hkept := hev.rdw (ownrgn_has n j) (by decide)
  refine ⟨_, hexec, ?_⟩
  rw [hok]
  split
  · next hsame =>
    rw [hkept, RegId.written_of_unchanged .DR_OWNRGN _ v rfl (by simpa using hsame)]
  · rw [if_pos (by simpa using hst), State.regWrite, State.rdw_wrw _ _ _ _ _ (ownrgn_has n j), hkept]

/-- CLRMAX clears both maxima. -/
theorem maxima_are_cleared :
    ∃ t, exec (.clrmax m n v) s = .next t ∧ t.get DR_PLOG_LOGMAX n.val = 0 ∧ t.get DR_PLOG_JNLMAX n.val = 0 := by
  have hplog : RegId.DR_PLOG.has n.val 0 = true := RegId.has_of_lt n.isLt rfl Nat.one_pos
  obtain ⟨d, hstore, hev, -⟩ := State.regStore_pairs s m .DR_PLOG (DR_PLOG_CLRMAX.into v 1) n.val 0 hbus
  have hclr : DR_PLOG_CLRMAX.of (DR_PLOG_CLRMAX.into v 1) = 1 := bits_setBits v 31 1 1 (by decide)
  have htaken : State.plogWrite { s with drift := d } m n.val (DR_PLOG_CLRMAX.into v 1) =
      (State.put { s with drift := d } DR_PLOG_LOGMAX 0 n.val).put DR_PLOG_JNLMAX 0 n.val :=
    (if_neg (by rw [hev.lockstep (by decide), hm]; decide)).trans (if_pos hclr)
  rw [State.settle_of_no_w1c s .DR_PLOG _ n.val 0 rfl] at hstore
  refine ⟨_, congrArg Host.Outcome.next (hstore.trans htaken), ?_, State.get_put _ DR_PLOG_JNLMAX 0 n.val 0 hplog (by decide)⟩
  rw [State.get_put_of_apart (f := DR_PLOG_JNLMAX) (g := DR_PLOG_LOGMAX) _ _ n.val 0 hplog (by decide)]
  exact State.get_put _ DR_PLOG_LOGMAX 0 n.val 0 hplog (by decide)

end Writes

/-! ### A split core that stops (R294) -/

/-- An uncorrectable word stops a split core and parks its crew. -/
theorem uncorrectable_word_stops_core (s : State) (n : Pair) (k : Fin 2) (h : s.isSplit n.val = true)
    (hrun : ((s.pairU n.val).core k.val).stopped = false) :
    ∃ t, exec (.splitCoreUncorrectableTcm n k) s = .next t ∧ ((t.pairU n.val).core k.val).stopped = true ∧
      t.on DR_PSTATE_HALTED n.val = true ∧ t.plan.haltedCrews.head? = some (s.crewOf n.val k.val) := by
  refine ⟨_, congrArg Host.Outcome.next (if_pos (by simp [h, hrun])), ?_, ?_, rfl⟩
  · change (((s.updCore n.val k.val (fun u => { u with stopped := true })).pairU n.val).core k.val).stopped = true
    unfold State.updCore
    rw [State.pairU_updPair_same]
    by_cases hk : k.val = 0
    · simp [DriftPairU.core, hk]
    · simp [DriftPairU.core, hk]
  · exact State.on_put _ DR_PSTATE_HALTED 1 n.val 0 (pstate_has n.isLt) (by decide)

/-! ### Dual-sampled pins (R278) -/

/-- A pin shows a level. -/
def State.showPin (s : State) (g : Fin 64) (v : Bool) : State :=
  s.wrw .GP_GPIOIN (setBits (s.rdw .GP_GPIOIN (g.val / 32)) (g.val % 32) 1 v.toNat) (g.val / 32)

/-- Each bank of pins has its GPIOIN. -/
theorem gpioin_has (g : Fin 64) : RegId.GP_GPIOIN.has (g.val / 32) 0 = true := RegId.has_of_lt (by have := g.isLt; change _ < 2; omega) rfl Nat.one_pos

theorem State.showPin_evolves (s : State) (g : Fin 64) (v : Bool) : Evolves [.reg .GP_GPIOIN] s (s.showPin g v) :=
  State.wrw_evolves (.refl _ s) _ _ _ _ (covers_self _)

/-- Its bit of GPIOIN is the level. -/
theorem State.showPin_bit (s : State) (g : Fin 64) (v : Bool) : bit ((s.showPin g v).rdw .GP_GPIOIN (g.val / 32)) (g.val % 32) = v := by
  have hpos : g.val % 32 < 32 := Nat.mod_lt _ (by decide)
  unfold State.showPin bit
  rw [State.rdw_wrw _ _ _ _ _ (gpioin_has g), setBits_bit]
  cases v <;> simp [hpos]

/-- What resampling a pin of two samples does, with the first sample pair that agrees. -/
theorem dual_sample (s : State) (g : Fin 64) (a b : Vector Bool 3) (hdual : s.on GP_GPIOCFG_DUAL g.val = true) :
    exec (.dualSampleResample g a b) s = .next (match (List.range 3).find? (fun k => a.toList.getD k false == b.toList.getD k false) with
      | some k => (s.advance (k + 1)).showPin g (a.toList.getD k false)
      | none => ((((s.advance 3).showPin g false).put DR_DSTAT_PINFAULT 1).put DR_DSTAT_PINNUM g.val).raise 577) :=
  congrArg Host.Outcome.next (if_pos hdual)

/-- Samples that agree at once give the level, 4 ns later. -/
theorem agreed_level_is_read (s : State) (g : Fin 64) (a b : Vector Bool 3) (hdual : s.on GP_GPIOCFG_DUAL g.val = true) (h : a[0] = b[0]) :
    ∃ t, exec (.dualSampleResample g a b) s = .next t ∧ bit (t.rdw .GP_GPIOIN (g.val / 32)) (g.val % 32) = a[0] ∧ t.now = s.now + 1 := by
  have hexec := dual_sample s g a b hdual
  have hfirst : (List.range 3).find? (fun k => a.toList.getD k false == b.toList.getD k false) = some 0 :=
    List.find?_cons_of_pos (by simp [h])
  rw [hfirst] at hexec
  refine ⟨_, hexec, ?_, State.advance_now s 1⟩
  rw [State.showPin_bit]
  simp

/-- Samples that never agree give 0, with source 577. -/
theorem disagreeing_samples_read_zero (s : State) (g : Fin 64) (a b : Vector Bool 3) (hdual : s.on GP_GPIOCFG_DUAL g.val = true)
    (h : ∀ k : Fin 3, a[k] ≠ b[k]) (hto : s.routed 577 = true) :
    ∃ t, exec (.dualSampleResample g a b) s = .next t ∧ bit (t.rdw .GP_GPIOIN (g.val / 32)) (g.val % 32) = false ∧ t.raised 577 = true := by
  have hexec := dual_sample s g a b hdual
  have hnone : (List.range 3).find? (fun k => a.toList.getD k false == b.toList.getD k false) = none := by
    refine List.find?_eq_none.2 (fun k hk => ?_)
    have hlt := List.mem_range.1 hk
    simpa [List.getD_eq_getElem, hlt] using h ⟨k, hlt⟩
  rw [hnone] at hexec
  have hadv := State.advance_evolves (.refl _ s) 3 (covers_self _)
  have hshown := State.showPin_evolves (s.advance 3) g false
  have hput : Evolves [.fresh, .reg .DR_DSTAT] ((s.advance 3).showPin g false)
      ((((s.advance 3).showPin g false).put DR_DSTAT_PINFAULT 1).put DR_DSTAT_PINNUM g.val) :=
    State.put_evolves (State.put_evolves (.refl _ _) DR_DSTAT_PINFAULT 1 0 0 (by decide +kernel)) DR_DSTAT_PINNUM g.val 0 0 (by decide +kernel)
  refine ⟨_, hexec, ?_, State.raise_raised _ (by decide) ?_⟩
  · rw [(State.raise_evolves (.refl _ _) 577 (covers_self _)).rdw (gpioin_has g) (by decide), hput.rdw (gpioin_has g) (by decide),
      State.showPin_bit]
  · rw [hput.routed (by decide) (by decide), hshown.routed (by decide) (by decide), hadv.routed (by decide) (by decide), hto]

/-! ### O40 -/

/-- Settles O40, clause by clause. -/
theorem pairsAreTestedSplitAndJoined : Obligations.PairsAreTestedSplitAndJoined :=
  ⟨test_from_service, test_is_refused, split_from_test, split_is_refused, service_is_refused, spare_is_refused, request_of_other_master,
    join_is_refused, join_not_due, service_from_test, spare_from_test, join_from_split, join_applies, passed_test_moves_pair,
    failed_test_fails_pair, start_test_places_pair, passed_test_in_place, failed_test_in_place, window_tests_idle_pair, window_hands_over,
    window_tests_in_place, window_stays_shut, region_is_refused, region_is_taken, maxima_are_cleared, uncorrectable_word_stops_core,
    agreed_level_is_read, disagreeing_samples_read_zero⟩

end Sys2Proof.Machine
end
section
/-! SUPPORT. A slot half the range of positions from its NEXT (R42): neither ahead of it nor at it, so nothing fires. -/

namespace Sys2Proof.Machine

/-- Where NEXT does not lie ahead of the position and no slot of the domain has reached its own, SLOT_FIRE passes no time and fires none (R42). -/
theorem slotFire_of_none_due (s : State) (k : EvSlot)
    (hahead : (BitVec.ofNat 80 ((s.slotNext k.val).toNat * 2 ^ 16) - (s.dom (s.get EV_EVTCTL_DOMAIN k.val)).pos).toInt ≤ 0)
    (hdue : (s.slotsOf (s.get EV_EVTCTL_DOMAIN k.val)).filter s.slotDue = []) : exec (.slotFire k) s = .next s := by
  have hnone : s.fireSlots false [] = s := rfl
  refine congrArg Host.Outcome.next ?_
  simp only [hahead, if_true, hdue, hnone, ite_self]

/-- Refutes O16, in its clause of the slot that fires: R42 keeps NEXT within 256 turns of the position, and the clause has no such hypothesis. Domain 0
is LIVE at 50 Hz with its position 2^31 turns from NEXT of its enabled slot 0, where the 80-bit and the 64-bit differences are both the least
negative value: NEXT is not ahead, so no time passes, and it is not reached either, so the slot does not fire. -/
theorem not_domainsAndEventSlotsAct : ¬ Obligations.DomainsAndEventSlotsAct := by
  rintro ⟨-, -, -, -, -, -, -, -, -, -, -, -, -, hfires⟩
  let s : State :=
    (((State.reset.put HF_DOMSTAT_STATE domLive).put HF_INC_INC 56294995).put EV_EVTCTL_EN 1).updDom 0 (fun u => { u with pos := 2 ^ 79 })
  have hen : s.on EV_EVTCTL_EN 0 = true := by decide +kernel
  have huse : s.usable (s.get EV_EVTCTL_DOMAIN 0) = true := by decide +kernel
  have hinc : 0 < s.get HF_INC_INC (s.get EV_EVTCTL_DOMAIN 0) := by decide +kernel
  obtain ⟨t, hexec, hreached, -⟩ := hfires s 0 hen huse hinc
  have hstill : exec (.slotFire 0) s = .next s := slotFire_of_none_due s 0 (by decide +kernel) (by decide +kernel)
  obtain rfl : s = t := Host.Outcome.next.inj (hstill.symm.trans hexec)
  have hbehind : (s.slotPos (0 : EvSlot).val - s.slotNext (0 : EvSlot).val).toInt < 0 := by decide +kernel
  exact absurd hreached hbehind.not_ge

end Sys2Proof.Machine
end
section
/-! SUPPORT. The supervisor crew exhausts its Drift budget while its pair still runs a crew that has no Drift cycle left (R50, R53). -/

namespace Sys2Proof.Machine

/-- A crew that can exhaust its Drift budget does: what is left goes to 0, and then the cores of its pair follow (R53). -/
theorem exec_overrun_drift (s : State) (c : Crew) (n : Nat) (hmay : s.mayExhaust c.val .drift = true) (hpair : (s.crew c.val).pair = n) :
    exec (.overrun c 0) s = .next (((s.put SP_REMAIN0_DRIFT 0 c.val).overrunOne c.val .drift).stopSpentPair n) := by
  subst hpair
  exact congrArg Host.Outcome.next (if_pos hmay)

/-- A core whose crew has no Drift cycle left leaves it as at an exhausted budget (R50, R53). -/
theorem State.stopSpent_of_outOfCycles {s : State} {n k : Nat} (h : s.outOfCycles n k = true) :
    s.stopSpent n k = s.overrunOne (s.crewOf n k) .drift := if_pos h

/-- A pair that is not split lets its current crew leave, and then the supervisor crew that it runs instead. -/
theorem State.stopSpentPair_of_not_split {s : State} {n : Nat} (h : s.isSplit n = false) :
    s.stopSpentPair n = (s.stopSpent n 0).stopSpent n 0 := by
  simp [State.stopSpentPair, State.each, h]

/-- Refutes O17, in its clause of OVCOUNT at an exhausted budget. Pair 3 runs crew 9, whose Drift cycles time has counted down to 0 and whose own
OVERRUN has not come yet (R50); its supervisor crew 1 exhausts its Drift budget. Crew 1 counts that once; then the core leaves crew 9 for crew 1, which
has no cycle left either, and counts once more: OVCOUNT rises from 0 to 2. -/
theorem not_framesPlansAndCrews : ¬ Obligations.FramesPlansAndCrews := by
  rintro ⟨-, -, -, -, -, hexhausts, -⟩
  let s : State :=
    ((State.reset.put SP_REMAIN0_DRIFT 30000 1).updPair 3 (fun p =>
      { p with core0 := { p.core0 with regs := { p.core0.regs with crew := 9 } } })).updPlan (fun u =>
      { u with
        sup := u.sup.set 3 1
        crews := Vector.replicate 64 { CrewPlan.reset with ctl := SP_CREWCTL_EN.into (SP_CREWCTL_PAIR.into 0 3) 1 } })
  obtain ⟨t, hexec, -, -, -, -, hcounts⟩ := hexhausts s 1 0 .drift rfl (by decide +kernel)
  have hone : t.get SP_CREWSTAT_OVCOUNT 1 = 1 := (hcounts (.inl rfl)).2.trans (by decide +kernel)
  let u : State := (s.put SP_REMAIN0_DRIFT 0 1).overrunOne 1 .drift
  have hleaves9 : u.outOfCycles 3 0 = true ∧ u.crewOf 3 0 = 9 := by decide +kernel
  have hleaves1 : (u.overrunOne 9 .drift).outOfCycles 3 0 = true ∧ (u.overrunOne 9 .drift).crewOf 3 0 = 1 := by decide +kernel
  have hpair : u.stopSpentPair 3 = (u.overrunOne 9 .drift).overrunOne 1 .drift := by
    rw [State.stopSpentPair_of_not_split (by decide +kernel), State.stopSpent_of_outOfCycles hleaves9.1, hleaves9.2,
      State.stopSpent_of_outOfCycles hleaves1.1, hleaves1.2]
  have hrun : exec (.overrun 1 0) s = .next (u.stopSpentPair 3) := exec_overrun_drift s 1 3 (by decide +kernel) (by decide +kernel)
  obtain rfl : (u.overrunOne 9 .drift).overrunOne 1 .drift = t := hpair ▸ Host.Outcome.next.inj (hrun.symm.trans hexec)
  have htwo : ((u.overrunOne 9 .drift).overrunOne 1 .drift).get SP_CREWSTAT_OVCOUNT 1 = 2 := by decide +kernel
  omega

end Sys2Proof.Machine
end
section
/-! SUPPORT. A load that waits behind another engine's (R80, R81). -/

namespace Sys2Proof.Machine

/-- Loads complete in the order of their LOAD writes: while another engine's stands first, an engine's own does not complete (R80). -/
theorem exec_loadComplete_of_waiting (s : State) (e : Eng) {k : Nat} {l : List Nat} (hloads : s.pick.loads = k :: l) (hk : k ≠ e.val) :
    exec (.loadComplete e) s = .next s := by
  show execLoadComplete e s = _
  unfold execLoadComplete
  rw [hloads]
  split
  · next heads _ =>
    obtain ⟨rfl, -⟩ := List.cons.inj heads
    rw [if_neg hk]
  · rfl

/-- A program of no words whose longest path takes 1 cycle. -/
def PickProgram.oneCycle : PickProgram :=
  { ref := none, words := [], entries := Vector.replicate 4 0, wcet := Vector.replicate 4 1, coef := []
    bpX := Vector.replicate 8 0x7FFFFFFF, bpY := Vector.replicate 8 0x7FFFFFFF, hX := 0, hY := 0, opv0 := 0, opv1 := 0, data := [] }

/-- Refutes O57, in its clause of the load: the clause asks only that the load be one of those that wait or run. Engine 0's load waits behind that of
engine 2; it does not complete yet, and BUDGET stays at its reset value of 4,096 where the program's longest path is 1. -/
theorem not_budgetIsHeldToWcet : ¬ Obligations.BudgetIsHeldToWcet := by
  rintro ⟨hload, -⟩
  let s : State :=
    let waiting := State.reset.updEng 0 (fun u => { u with load := some .oneCycle })
    { waiting with pick := { waiting.pick with loads := [2, 0] } }
  obtain ⟨t, hexec, hbudget, -⟩ := hload s 0 .oneCycle (by decide +kernel) (by decide +kernel)
  have hwaits : exec (.loadComplete 0) s = .next s := exec_loadComplete_of_waiting s 0 (k := 2) (l := [0]) rfl (by decide)
  obtain rfl : s = t := Host.Outcome.next.inj (hwaits.symm.trans hexec)
  have hreset : s.get PK_BUDGET_BUDGET 0 = 4096 := by decide +kernel
  have hpath : PickProgram.oneCycle.wcet.toList.foldl max 0 % 2 ^ PK_BUDGET_BUDGET.width = 1 := by decide +kernel
  exact absurd (hreset.symm.trans (hbudget.trans hpath)) (by decide)

end Sys2Proof.Machine
end
section
/-! SUPPORT. An output that a reference program releases (R108, R113): the engine that comes to its next word notes its exchange port's grants anew. -/

namespace Sys2Proof.Machine

/-- An ACR invocation with one contender outstanding, the 0 for slot 0, that came to its present word when its exchange port had granted nothing. -/
def Inv.oneContender : Inv :=
  { cls := clsAcc, left := 600, pc := 0, g := Vector.replicate 16 0, a0 := 0, a1 := 0, n := false, z := false, sat := false, dz := false, nr := false
    merged := false, region := 0, angs := Vector.replicate 4 0, single := false, loop := none, data := [], opv0 := 0, opv1 := 0, unseen := [], asked := 0
    ref := some ⟨.acr, .control, [.slot 0 0], Vector.replicate 3 0, Vector.replicate 3 0, [], 0, false, RefMem.initial⟩ }

/-- Refutes O60, in its clause of a contender: the clause has the invocation as it was but for the output released. The exchange port of cell 0 has
granted one request since the engine came to its word; with the output released the engine comes to its next, from which it counts the grants ahead of it
(R113), so `asked` goes from 0 to 1. -/
theorem not_referenceProgramsRun : ¬ Obligations.ReferenceProgramsRun := by
  rintro ⟨-, -, -, -, -, hcontender, -⟩
  let s : State := (State.reset.updEng 0 (fun u => { u with run := some .oneContender })).updPort 0 (fun u => { u with grants := 1 })
  have hrun : (s.eng 0).run = some .oneContender := by decide +kernel
  obtain ⟨t, hexec, -, -, hsame⟩ := hcontender s 0 _ .oneContender 0 0 [] hrun rfl rfl (by decide)
  have hkept : (t.eng 0).run.map Inv.asked = some 0 := congrArg (Option.map Inv.asked) hsame
  have hnoted : (t.eng 0).run.map Inv.asked = some 1 := by
    obtain rfl := Host.Outcome.next.inj hexec
    decide +kernel
  exact absurd (hkept.symm.trans hnoted) (by decide)

end Sys2Proof.Machine
end
section
/-! SUPPORT. A trigger whose pre-trigger data fill the hold (R448, R449): its own TRIGGER record ends its capture. -/

namespace Sys2Proof.Machine

/-- A program whose only word is EVT, Seam trigger 0 (R93, R110). -/
def PickProgram.firesTrigger : PickProgram :=
  { ref := none, words := [0xA8001000], entries := Vector.replicate 4 0, wcet := Vector.replicate 4 1, coef := []
    bpX := Vector.replicate 8 0x7FFFFFFF, bpY := Vector.replicate 8 0x7FFFFFFF, hX := 0, hY := 0, opv0 := 0, opv1 := 0, data := [] }

/-- An invocation at its first word with one cycle left. -/
def Inv.oneCycleLeft : Inv :=
  { cls := clsAcc, left := 1, pc := 0, g := Vector.replicate 16 0, a0 := 0, a1 := 0, n := false, z := false, sat := false, dz := false, nr := false
    merged := false, region := 0, angs := Vector.replicate 4 0, single := false, loop := none, data := [], opv0 := 0, opv1 := 0, unseen := [], asked := 0
    ref := none }

/-- Refutes O24, in its clause of the Seam trigger: the clause has the capture in POST. The millisecond of the pre-trigger data began 1,200,000 bursts
before the last one, so that the capture holds 293 MiB as it starts, and its TRIGGER record fills a burst of stream 53 (R448). At that burst boundary
the held bytes are above 288 MiB, which ends every capture in POST (R449): the capture is HELD. -/
theorem not_pickOutputs : ¬ Obligations.PickOutputs := by
  rintro ⟨-, -, -, -, -, -, -, -, -, htrigger, -⟩
  let seam : State := ((((((State.reset.wrw .RS_RSTREL 0x800).put SE_SCTL_EN 1).put SE_TRGCTL_EN 1 0).put SE_STRCFG_EN 1 53).put SE_STRCFG_SEL 2
    53).put SE_STRSTAT_OPEN 1 53).updStream 53 (fun u => { u with burst := List.replicate 240 0, lastTime := some 0 })
  let full : State := { seam with seam := { seam.seam with index := [(0, 0)], ringPos := 1200001, lastBurst := 1200000 } }
  let s : State := full.updEng 0 (fun u => { u with prog := some .firesTrigger, run := some .oneCycleLeft })
  have hfetch : s.pickFetch 0 .evtTrigger = some (.oneCycleLeft, 0xA8001000) := by decide +kernel
  obtain ⟨t, hexec, -, -, -, hpost, -⟩ := htrigger s 0 .oneCycleLeft 0xA8001000 hfetch (by decide) (by decide +kernel) (by decide +kernel)
    (by decide +kernel) (by decide +kernel)
  have hheld : t.get SE_CAPSTAT_STATE 0 = capHeld := by
    obtain rfl := Host.Outcome.next.inj hexec
    decide +kernel
  exact absurd (hpost.symm.trans hheld) (by decide)

end Sys2Proof.Machine
end

section
/-! SUPPORT. The units of the Pick engines and arbiters (R57 to R77): what a change of one is to each, what leaves them all, and the places of their
registers. -/

namespace Sys2Proof.Machine

/-! ### Places -/

/-- A register of which each engine has a copy `j`. -/
abbrev EngReg (r : RegId) (j : Nat) : Prop := r.reg.n1 = 96 ∧ r.reg.f1 = 0 ∧ j < r.reg.n2

/-- A register of which each cell has a copy `j`. -/
abbrev CellReg (r : RegId) (j : Nat) : Prop := r.reg.n1 = 48 ∧ r.reg.f1 = 0 ∧ j < r.reg.n2

theorem EngReg.has {r : RegId} {j : Nat} (h : EngReg r j) (e : Eng) : r.has e.val j = true := by
  obtain ⟨hn, hf, hj⟩ := h
  exact (RegId.has_iff _ _ _).2 ⟨by omega, by have := e.isLt; omega, hj⟩

theorem CellReg.has {r : RegId} {j : Nat} (h : CellReg r j) (c : Cell) : r.has c.val j = true := by
  obtain ⟨hn, hf, hj⟩ := h
  exact (RegId.has_iff _ _ _).2 ⟨by omega, by have := c.isLt; omega, hj⟩

/-- The cell of an engine (R58). -/
def engCell (e : Eng) : Cell := ⟨e.val / 2, by have := e.isLt; omega⟩

/-! ### Changes of one unit -/

/-- A change of an engine's unit changes the Pick engines' state alone, and of it the engines. -/
theorem State.updEng_eq (s : State) (e : Nat) (f : EngU → EngU) : ∃ l, s.updEng e f = { s with pick := { s.pick with engs := l } } := by
  unfold State.updEng
  split
  · exact ⟨_, rfl⟩
  · exact ⟨s.pick.engs, rfl⟩

/-- A change of an arbiter's unit changes the Pick engines' state alone, and of it the arbiters. -/
theorem State.updArb_eq (s : State) (c : Nat) (f : ArbU → ArbU) : ∃ l, s.updArb c f = { s with pick := { s.pick with arbs := l } } := by
  unfold State.updArb
  split
  · exact ⟨_, rfl⟩
  · exact ⟨s.pick.arbs, rfl⟩

/-- An engine's unit after a change of one. -/
theorem State.eng_updEng (s : State) (e k : Nat) (f : EngU → EngU) :
    (s.updEng e f).eng k = if k = e ∧ e < 96 then f (s.eng k) else s.eng k := by
  unfold State.updEng
  split
  · next he =>
    by_cases hk : k = e
    · subst hk
      simp [State.eng, upd, he]
    · simp [State.eng, upd, hk, Vector.toList_set, Ne.symm hk]
  · next he => simp [he]

/-- The engine that changes. -/
@[simp] theorem State.eng_updEng_self (s : State) (e : Eng) (f : EngU → EngU) : (s.updEng e.val f).eng e.val = f (s.eng e.val) := by
  simp [State.eng_updEng, e.isLt]

/-- An arbiter's unit after a change of one. -/
theorem State.arb_updArb (s : State) (c k : Nat) (f : ArbU → ArbU) :
    (s.updArb c f).arb k = if k = c ∧ c < 48 then f (s.arb k) else s.arb k := by
  unfold State.updArb
  split
  · next hc =>
    by_cases hk : k = c
    · subst hk
      simp [State.arb, upd, hc]
    · simp [State.arb, upd, hk, Vector.toList_set, Ne.symm hk]
  · next hc => simp [hc]

@[simp] theorem State.updEng_rdw (s : State) (e : Nat) (f : EngU → EngU) (r : RegId) (i j : Nat) : (s.updEng e f).rdw r i j = s.rdw r i j := by
  obtain ⟨l, hl⟩ := s.updEng_eq e f
  rw [hl]
  rfl

@[simp] theorem State.updEng_get (s : State) (e : Nat) (f : EngU → EngU) (g : Fld) (i j : Nat) : (s.updEng e f).get g i j = s.get g i j :=
  congrArg g.of (s.updEng_rdw e f _ i j)

@[simp] theorem State.updArb_rdw (s : State) (c : Nat) (f : ArbU → ArbU) (r : RegId) (i j : Nat) : (s.updArb c f).rdw r i j = s.rdw r i j := by
  obtain ⟨l, hl⟩ := s.updArb_eq c f
  rw [hl]
  rfl

@[simp] theorem State.updArb_get (s : State) (c : Nat) (f : ArbU → ArbU) (g : Fld) (i j : Nat) : (s.updArb c f).get g i j = s.get g i j :=
  congrArg g.of (s.updArb_rdw c f _ i j)

@[simp] theorem State.updArb_eng (s : State) (c : Nat) (f : ArbU → ArbU) (e : Nat) : (s.updArb c f).eng e = s.eng e := by
  obtain ⟨l, hl⟩ := s.updArb_eq c f
  rw [hl]
  rfl

@[simp] theorem State.put_eng (s : State) (f : Fld) (v i j e : Nat) : (s.put f v i j).eng e = s.eng e := rfl

@[simp] theorem State.put_arb (s : State) (f : Fld) (v i j c : Nat) : (s.put f v i j).arb c = s.arb c := rfl

@[simp] theorem State.wrw_eng (s : State) (r : RegId) (v : Word) (i j e : Nat) : (s.wrw r v i j).eng e = s.eng e := rfl

@[simp] theorem State.wrw_arb (s : State) (r : RegId) (v : Word) (i j c : Nat) : (s.wrw r v i j).arb c = s.arb c := rfl

/-- A change that does not name the Pick engines leaves each. -/
theorem Evolves.engU {A : List Part} {s t : State} (h : Evolves A s t) (hp : Part.pick ∉ A) (e : Nat) : t.eng e = s.eng e := by
  have hpick : t.pick = s.pick := h.kept .pick hp
  unfold State.eng
  rw [hpick]

/-- It leaves each arbiter. -/
theorem Evolves.arbU {A : List Part} {s t : State} (h : Evolves A s t) (hp : Part.pick ∉ A) (c : Nat) : t.arb c = s.arb c := by
  have hpick : t.pick = s.pick := h.kept .pick hp
  unfold State.arb
  rw [hpick]

/-! ### Fields of an engine's and a cell's registers -/

section Fields
variable (s : State) (f g : Fld) (v : Nat) {j : Nat} (e : Eng) (c : Cell)

/-- A field of an engine reads what is stored in it. -/
theorem State.get_put_eng (h : EngReg f.reg j ∧ f.lo + f.width ≤ 32) : (s.put f v e.val j).get f e.val j = v % 2 ^ f.width :=
  State.get_put s f v e.val j (h.1.has e) h.2

/-- Another field of it reads as before. -/
theorem State.get_put_eng_apart (h : EngReg g.reg j ∧ f.Apart g) : (s.put f v e.val j).get g e.val j = s.get g e.val j :=
  State.get_put_of_apart s v e.val j (h.1.has e) h.2

/-- A word of another register of it reads as before. -/
theorem State.rdw_put_eng {r : RegId} (i k : Nat) (h : EngReg r j ∧ r ≠ f.reg) : (s.put f v i k).rdw r e.val j = s.rdw r e.val j :=
  State.rdw_put_ne s f r v i k e.val j (h.1.has e) (.inl h.2)

/-- A field of a cell reads what is stored in it. -/
theorem State.get_put_cell (h : CellReg f.reg j ∧ f.lo + f.width ≤ 32) : (s.put f v c.val j).get f c.val j = v % 2 ^ f.width :=
  State.get_put s f v c.val j (h.1.has c) h.2

/-- Another field of it reads as before. -/
theorem State.get_put_cell_apart (h : CellReg g.reg j ∧ f.Apart g) : (s.put f v c.val j).get g c.val j = s.get g c.val j :=
  State.get_put_of_apart s v c.val j (h.1.has c) h.2

end Fields

end Sys2Proof.Machine
end

section
/-! SUPPORT. The course of an invocation (R66, R92, R115 to R118): the word that an engine comes to, branches and loops, and the endings. -/

namespace Sys2Proof.Machine

/-! ### The next word (R85) -/

/-- An engine with a next word runs a loaded program. -/
theorem State.pickWord_some {s : State} {e : Nat} {v : Inv} {w : Word} (h : s.pickWord e = some (v, w)) :
    (s.eng e).run = some v ∧ ∃ p, (s.eng e).prog = some p := by
  unfold State.pickWord at h
  split at h
  · next u p hrun hprog =>
    split at h
    · simp at h
    · simp only [Option.some.injEq, Prod.mk.injEq] at h
      obtain ⟨rfl, -⟩ := h
      exact ⟨hrun, p, hprog⟩
  · simp at h

/-- The word of a row is the engine's next. -/
theorem State.pickFetch_some {s : State} {e : Nat} {op : PickOp} {v : Inv} {w : Word} (h : s.pickFetch e op = some (v, w)) :
    s.pickWord e = some (v, w) := by
  unfold State.pickFetch at h
  split at h
  · next hword =>
    split at h
    · exact hword.trans h
    · simp at h
  · simp at h

/-- An engine that comes to its next word runs, and counts the grants of its exchange port from there (R113). -/
theorem State.run_setRun (s : State) (e : Eng) (v : Inv) :
    ((s.setRun e.val v).eng e.val).run = some { v with asked := (s.port e.val).grants } := by
  unfold State.setRun
  rw [State.eng_updEng_self]

/-- The invocation that an engine runs on with. -/
theorem State.invOf_setRun (s : State) (e : Eng) (v u : Inv) : (s.setRun e.val v).invOf e.val u = { v with asked := (s.port e.val).grants } := by
  unfold State.invOf
  rw [State.run_setRun, Option.getD_some]

/-! ### Branches and loops (R115 to R117) -/

/-- Where the program goes on in order: at the end of an active body with iterations left, back to its start. -/
theorem Inv.onward_pc (v : Inv) (cyc : Nat) (single : Bool) : (v.onward cyc single).pc = match v.loop with
    | some l => if v.pc = l.last ∧ 1 < l.left then l.first else v.pc + 1
    | none => v.pc + 1 := by
  unfold Inv.onward
  cases v.loop with
  | none => rfl
  | some l =>
    dsimp only
    by_cases hlast : v.pc = l.last
    · by_cases hleft : 1 < l.left <;> simp [hlast, hleft, Inv.spend]
    · simp [hlast, Inv.spend]

/-- Its cycles are spent. -/
theorem Inv.onward_left (v : Inv) (cyc : Nat) (single : Bool) : (v.onward cyc single).left = v.left - cyc := by
  unfold Inv.onward
  repeat' split
  all_goals rfl

/-- No register changes. -/
theorem Inv.onward_g (v : Inv) (cyc : Nat) (single : Bool) : (v.onward cyc single).g = v.g := by
  unfold Inv.onward
  repeat' split
  all_goals rfl

/-- A branch whose condition holds. -/
theorem Inv.branch_taken {v : Inv} {w : Word} (h : v.takes (bits w 10 4) = true) :
    v.branch w = { v.spend (PickOp.brf.cycles v.single) (v.pc + 1 + pwLow w) false with
      loop := v.loop.filter (fun l => decide (v.pc + 1 + pwLow w ≤ l.last)) } := if_pos h

/-- A branch whose condition does not hold. -/
theorem Inv.branch_passed {v : Inv} {w : Word} (h : v.takes (bits w 10 4) = false) : v.branch w = v.onward (PickOp.brf.cycles v.single) false :=
  if_neg (by simp [h])

/-- R115, R116, R117: BRF. -/
theorem brf_branches (s : State) (e : Eng) (v : Inv) (w : Word) (hfetch : s.pickFetch e.val .brf = some (v, w))
    (hleft : (if v.single = true then 0 else 1) ≤ v.left) :
    ∃ t, exec (.brf e) s = .next t ∧
      (t.eng e.val).run.isSome = true ∧
      (v.takes (bits w 10 4) = true → (t.invOf e.val v).pc = v.pc + 1 + pwLow w ∧
        (t.invOf e.val v).loop = v.loop.filter (fun l => decide (v.pc + 1 + pwLow w ≤ l.last))) ∧
      (v.takes (bits w 10 4) = false → (t.invOf e.val v).pc = (match v.loop with
        | some l => if v.pc = l.last ∧ 1 < l.left then l.first else v.pc + 1
        | none => v.pc + 1)) ∧
      ((t.invOf e.val v).left = v.left - (if v.single = true then 0 else 1)) ∧
      (t.invOf e.val v).g = v.g := by
  have hexec : exec (.brf e) s = .next (s.setRun e.val (v.branch w)) := by
    show execBrf e s = _
    unfold execBrf
    rw [hfetch]
    exact congrArg Host.Outcome.next (if_neg (by simpa [PickOp.cycles] using hleft))
  refine ⟨_, hexec, by rw [State.run_setRun]; rfl, ?_⟩
  rw [State.invOf_setRun]
  cases h : v.takes (bits w 10 4)
  case true =>
    rw [Inv.branch_taken h]
    exact ⟨fun _ => ⟨rfl, rfl⟩, fun hno => absurd hno (by decide), rfl, rfl⟩
  case false =>
    rw [Inv.branch_passed h]
    exact ⟨fun hno => absurd hno (by decide), fun _ => Inv.onward_pc _ _ _, Inv.onward_left _ _ _, Inv.onward_g _ _ _⟩

/-- R117: LOOP. -/
theorem loop_opens_body (s : State) (e : Eng) (v : Inv) (w : Word) (hfetch : s.pickFetch e.val .loop = some (v, w)) (hleft : 1 ≤ v.left) :
    ∃ t, exec (.loop e) s = .next t ∧
      (t.eng e.val).run.isSome = true ∧
      (t.invOf e.val v).pc = v.pc + 1 ∧
      (t.invOf e.val v).left = v.left - 1 ∧
      (t.invOf e.val v).loop = some ⟨v.pc + 1, v.pc + 1 + bits w 6 8, bits w 0 6 + 1⟩ ∧
      (t.invOf e.val v).g = v.g := by
  have hexec : exec (.loop e) s = .next (s.setRun e.val
      { v.spend 1 (v.pc + 1) false with loop := some ⟨v.pc + 1, v.pc + 1 + bits w 6 8, bits w 0 6 + 1⟩ }) := by
    show execLoop e s = _
    unfold execLoop
    rw [hfetch]
    exact congrArg Host.Outcome.next (if_neg (by omega))
  refine ⟨_, hexec, by rw [State.run_setRun]; rfl, ?_⟩
  rw [State.invOf_setRun]
  exact ⟨rfl, rfl, rfl, rfl⟩

/-! ### Endings (R60, R66, R92, R118) -/

section Dropped
variable (s : State) (e : Eng)

/-- An invocation that ends without commit. -/
theorem State.dropInv_eng : (s.dropInv e.val).eng e.val = { s.eng e.val with run := none } := by
  unfold State.dropInv
  rw [State.put_eng, State.eng_updEng_self]

/-- It leaves every register but PSTAT. -/
theorem State.dropInv_rdw {r : RegId} {j : Nat} (h : EngReg r j ∧ r ≠ .PK_PSTAT) : (s.dropInv e.val).rdw r e.val j = s.rdw r e.val j := by
  unfold State.dropInv
  rw [State.rdw_put_eng _ PK_PSTAT_BUSY _ _ _ _ h, State.updEng_rdw]

/-- BUSY clears. -/
theorem State.dropInv_busy : (s.dropInv e.val).get PK_PSTAT_BUSY e.val = 0 := State.get_put_eng _ _ _ _ (by decide)

/-- Every other field of PSTAT stays. -/
theorem State.dropInv_get (g : Fld) (h : EngReg g.reg 0 ∧ PK_PSTAT_BUSY.Apart g) : (s.dropInv e.val).get g e.val = s.get g e.val := by
  unfold State.dropInv
  rw [State.get_put_eng_apart _ _ _ _ _ h, State.updEng_get]

end Dropped

section Sticky
variable (s : State) (e : Eng) (v : Inv)

/-- A flag of PSTAT that is set where `b` holds. -/
def State.setFlag (s : State) (e : Nat) (b : Bool) (f : Fld) : State := if b then s.put f 1 e else s

/-- The sticky flags that END shows, one by one (R91, R118). -/
theorem State.stickyOut_eq :
    s.stickyOut e.val v = ((s.setFlag e.val v.sat PK_PSTAT_SAT_SEEN).setFlag e.val v.dz PK_PSTAT_DZ_SEEN).setFlag e.val v.nr PK_PSTAT_NR_SEEN := rfl

/-- A flag that is set. -/
theorem State.setFlag_get {b : Bool} (f : Fld) (h : EngReg f.reg 0 ∧ f.lo + f.width ≤ 32 ∧ 1 < 2 ^ f.width) (hb : b = true) :
    (s.setFlag e.val b f).get f e.val = 1 := by
  subst hb
  exact (State.get_put_eng s f 1 e ⟨h.1, h.2.1⟩).trans (Nat.mod_eq_of_lt h.2.2)

/-- Another flag. -/
theorem State.setFlag_get_apart (b : Bool) (f g : Fld) (h : EngReg g.reg 0 ∧ f.Apart g) : (s.setFlag e.val b f).get g e.val = s.get g e.val := by
  unfold State.setFlag
  split
  · exact State.get_put_eng_apart s f g 1 e h
  · rfl

/-- SAT, DZ and NR of the invocation show in PSTAT. -/
theorem State.stickyOut_shows : (v.sat = true → (s.stickyOut e.val v).get PK_PSTAT_SAT_SEEN e.val = 1) ∧
    (v.dz = true → (s.stickyOut e.val v).get PK_PSTAT_DZ_SEEN e.val = 1) ∧
    (v.nr = true → (s.stickyOut e.val v).get PK_PSTAT_NR_SEEN e.val = 1) := by
  rw [State.stickyOut_eq]
  refine ⟨fun h => ?_, fun h => ?_, fun h => State.setFlag_get _ e _ (by decide) h⟩
  · rw [State.setFlag_get_apart _ _ _ _ _ (by decide), State.setFlag_get_apart _ _ _ _ _ (by decide)]
    exact State.setFlag_get _ e _ (by decide) h
  · rw [State.setFlag_get_apart _ _ _ _ _ (by decide)]
    exact State.setFlag_get _ e _ (by decide) h

end Sticky

section Ended
variable (s : State) (e : Eng) (v : Inv)

/-- An invocation that has shown its flags and leaves the engine: what END and END DISCARD have in common. -/
def State.endShown (s : State) (e : Nat) (v : Inv) : State := (s.stickyOut e v).dropInv e

/-- The engine is free, its committed words are as they were. -/
theorem State.endShown_eng : (s.endShown e.val v).eng e.val = { s.eng e.val with run := none } := by
  have hsticky : Evolves [.fresh, .reg .PK_PSTAT] s (s.stickyOut e.val v) := State.stickyOut_evolves (.refl _ s) _ _ (by decide +kernel)
  unfold State.endShown
  rw [State.dropInv_eng, hsticky.engU (by decide)]

/-- Every register but PSTAT is as it was. -/
theorem State.endShown_rdw {r : RegId} {j : Nat} (h : EngReg r j ∧ r ≠ .PK_PSTAT) : (s.endShown e.val v).rdw r e.val j = s.rdw r e.val j := by
  have hsticky : Evolves [.fresh, .reg .PK_PSTAT] s (s.stickyOut e.val v) := State.stickyOut_evolves (.refl _ s) _ _ (by decide +kernel)
  exact (State.dropInv_rdw _ e h).trans (hsticky.rdw (h.1.has e) (by simpa using h.2))

/-- BUSY clears and the flags show. -/
theorem State.endShown_pstat : (s.endShown e.val v).get PK_PSTAT_BUSY e.val = 0 ∧
    (v.sat = true → (s.endShown e.val v).get PK_PSTAT_SAT_SEEN e.val = 1) ∧
    (v.dz = true → (s.endShown e.val v).get PK_PSTAT_DZ_SEEN e.val = 1) ∧
    (v.nr = true → (s.endShown e.val v).get PK_PSTAT_NR_SEEN e.val = 1) := by
  obtain ⟨hsat, hdz, hnr⟩ := State.stickyOut_shows s e v
  have hkept := State.dropInv_get (s.stickyOut e.val v) e
  exact ⟨State.dropInv_busy _ e, fun h => (hkept _ (by decide)).trans (hsat h), fun h => (hkept _ (by decide)).trans (hdz h),
    fun h => (hkept _ (by decide)).trans (hnr h)⟩

/-- The words of the working copy, committed (R60). -/
def State.commitWords (s : State) (e : Nat) (v : Inv) : State :=
  ((s.updEng e (fun u => { u with
    data := v.data
    mem := match v.ref with
      | some r => r.mem
      | none => u.mem })).wrw .PK_OPV v.opv0 e 0).wrw .PK_OPV v.opv1 e 1

/-- A commit is that of the words, and of the region selector (R69). -/
theorem State.commitInv_changes {p : PickProgram} (h : (s.eng e.val).prog = some p) :
    Evolves [.fresh, .reg .PK_REGION] (s.commitWords e.val v) (s.commitInv e.val v) := by
  unfold State.commitInv
  rw [h]
  have hput : ∀ {t u : State} (f : Fld) (n : Nat), Evolves [.fresh, .reg .PK_REGION] t u → f.reg = .PK_REGION →
      Evolves [.fresh, .reg .PK_REGION] t (u.put f n e.val) := fun f n hu hf => State.put_evolves hu f n _ _ (by rw [hf]; decide +kernel)
  have hx := ite_evolves (c := v.opv0 = s.rdw .PK_OPV e.val 0) (.refl _ (s.commitWords e.val v))
    (hput PK_REGION_IX (moveIndex p.bpX p.hX ((s.commitWords e.val v).get PK_REGION_IX e.val) v.opv0) (.refl _ _) rfl)
  exact ite_evolves hx (hput PK_REGION_IY _ hx rfl)

/-- The committed words and operating-point words are the working copy's. -/
theorem State.commitInv_words {p : PickProgram} (h : (s.eng e.val).prog = some p) :
    ((s.commitInv e.val v).eng e.val).run = (s.eng e.val).run ∧ ((s.commitInv e.val v).eng e.val).data = v.data ∧
      (s.commitInv e.val v).rdw .PK_OPV e.val 0 = v.opv0 ∧ (s.commitInv e.val v).rdw .PK_OPV e.val 1 = v.opv1 := by
  have hev := State.commitInv_changes s e v h
  have heng : (s.commitWords e.val v).eng e.val = _ := State.eng_updEng_self s e _
  have hhas : EngReg .PK_OPV 0 ∧ EngReg .PK_OPV 1 := by decide
  rw [hev.engU (by decide), heng, hev.rdw (hhas.1.has e) (by decide), hev.rdw (hhas.2.has e) (by decide)]
  refine ⟨rfl, rfl, ?_, State.rdw_wrw _ _ _ _ _ (hhas.2.has e)⟩
  exact (State.rdw_wrw_ne _ _ _ _ _ _ _ _ (hhas.1.has e) (by simp)).trans (State.rdw_wrw _ _ _ _ _ (hhas.1.has e))

/-- It leaves PSTAT. -/
theorem State.commitInv_pstat (g : Fld) (h : g.reg = .PK_PSTAT) : (s.commitInv e.val v).get g e.val = s.get g e.val := by
  have hev : Evolves [.fresh, .pick, .reg .PK_REGION, .reg .PK_OPV] s (s.commitInv e.val v) := State.commitInv_evolves (.refl _ s) _ _ (by decide +kernel)
  have hhas : EngReg .PK_PSTAT 0 := by decide
  exact hev.get (by rw [h]; exact hhas.has e) (by rw [h]; decide)

end Ended

/-- R118: END. -/
theorem end_commits (s : State) (e : Eng) (v : Inv) (w : Word) (hfetch : s.pickFetch e.val .end_ = some (v, w)) (hleft : 1 ≤ v.left) :
    ∃ t, exec (.endRun e) s = .next t ∧
      (t.eng e.val).run = none ∧
      (t.eng e.val).data = v.data ∧
      t.rdw .PK_OPV e.val 0 = v.opv0 ∧
      t.rdw .PK_OPV e.val 1 = v.opv1 ∧
      t.get PK_PSTAT_BUSY e.val = 0 ∧
      (v.sat = true → t.get PK_PSTAT_SAT_SEEN e.val = 1) ∧
      (v.dz = true → t.get PK_PSTAT_DZ_SEEN e.val = 1) ∧
      (v.nr = true → t.get PK_PSTAT_NR_SEEN e.val = 1) := by
  have hexec : exec (.endRun e) s = .next ((s.endShown e.val v).commitInv e.val v) := by
    show execEndRun e s = _
    unfold execEndRun State.endInv
    rw [hfetch]
    exact congrArg Host.Outcome.next (if_neg (by omega))
  obtain ⟨-, p, hprog⟩ := State.pickWord_some (State.pickFetch_some hfetch)
  have heng := State.endShown_eng s e v
  obtain ⟨hrun, hdata, hopv0, hopv1⟩ := State.commitInv_words (s.endShown e.val v) e v (p := p) (by rw [heng]; exact hprog)
  obtain ⟨hbusy, hsat, hdz, hnr⟩ := State.endShown_pstat s e v
  have hkept := State.commitInv_pstat (s.endShown e.val v) e v
  exact ⟨_, hexec, by rw [hrun, heng], hdata, hopv0, hopv1, (hkept _ rfl).trans hbusy, fun h => (hkept _ rfl).trans (hsat h),
    fun h => (hkept _ rfl).trans (hdz h), fun h => (hkept _ rfl).trans (hnr h)⟩

/-- R118: END DISCARD. -/
theorem discard_commits_nothing (s : State) (e : Eng) (v : Inv) (w : Word) (hfetch : s.pickFetch e.val .discard = some (v, w)) (hleft : 1 ≤ v.left) :
    ∃ t, exec (.endDiscard e) s = .next t ∧
      (t.eng e.val).run = none ∧
      (t.eng e.val).data = (s.eng e.val).data ∧
      t.rdw .PK_OPV e.val 0 = s.rdw .PK_OPV e.val 0 ∧
      t.rdw .PK_OPV e.val 1 = s.rdw .PK_OPV e.val 1 ∧
      t.get PK_PSTAT_BUSY e.val = 0 ∧
      (v.sat = true → t.get PK_PSTAT_SAT_SEEN e.val = 1) ∧
      (v.dz = true → t.get PK_PSTAT_DZ_SEEN e.val = 1) ∧
      (v.nr = true → t.get PK_PSTAT_NR_SEEN e.val = 1) := by
  have hexec : exec (.endDiscard e) s = .next (s.endShown e.val v) := by
    show execEndDiscard e s = _
    unfold execEndDiscard State.endInv
    rw [hfetch]
    exact congrArg Host.Outcome.next (if_neg (by omega))
  have heng := State.endShown_eng s e v
  exact ⟨_, hexec, by rw [heng], by rw [heng], State.endShown_rdw s e v (by decide), State.endShown_rdw s e v (by decide), State.endShown_pstat s e v⟩

/-! ### Endings as a budget exhaustion (R66, R92) -/

section Exhausted
variable (s : State) (e : Eng)

/-- The Pick fault of an engine's block is raised where a slice takes it (R300). -/
theorem State.pickFault_raised {b : Nat} (hb : s.blockOf (e.val / 2) = some b) (hrouted : s.routed (112 + b) = true) :
    (s.pickFault e.val).raised (112 + b) = true := by
  have hlt : b < 8 := List.mem_range.1 (List.mem_of_find?_eq_some hb)
  unfold State.pickFault
  rw [hb]
  exact State.raise_raised s (by omega) hrouted

/-- The state before the block's Pick fault. -/
def State.exhausted (s : State) (e : Nat) : State := ((s.dropInv e).put PK_PSTAT_BUDGET_EXH 1 e).bumpSat PK_LATE_EXHCOUNT e

/-- It changes the engine, its PSTAT and its counts alone. -/
theorem State.exhausted_changes : Evolves [.fresh, .pick, .reg .PK_PSTAT, .reg .PK_LATE] s (s.exhausted e.val) :=
  State.bumpSat_evolves (State.put_evolves (State.dropInv_evolves (.refl _ s) _ (by decide +kernel)) _ _ _ _ (by decide +kernel)) _ _ _ _
    (by decide +kernel)

/-- An exhaustion shows in PSTAT and counts, saturating. -/
theorem State.exhausted_shows : (s.exhausted e.val).get PK_PSTAT_BUDGET_EXH e.val = 1 ∧ (s.exhausted e.val).get PK_PSTAT_BUSY e.val = 0 ∧
    (s.exhausted e.val).get PK_LATE_EXHCOUNT e.val = min (s.get PK_LATE_EXHCOUNT e.val + 1) (2 ^ PK_LATE_EXHCOUNT.width - 1) := by
  have hcount : ((s.dropInv e.val).put PK_PSTAT_BUDGET_EXH 1 e.val).get PK_LATE_EXHCOUNT e.val = s.get PK_LATE_EXHCOUNT e.val := by
    rw [State.get_put_eng_apart _ _ _ _ _ (by decide), State.dropInv_get _ _ _ (by decide)]
  unfold State.exhausted State.bumpSat
  rw [hcount]
  refine ⟨?_, ?_, ?_⟩
  · rw [State.get_put_eng_apart _ _ _ _ _ (by decide), State.get_put_eng _ _ _ _ (by decide)]
    rfl
  · rw [State.get_put_eng_apart _ _ _ _ _ (by decide), State.get_put_eng_apart _ _ _ _ _ (by decide), State.dropInv_busy]
  · rw [State.get_put_eng _ _ _ _ (by decide)]
    exact Nat.mod_eq_of_lt (lt_of_le_of_lt (Nat.min_le_right _ _) (by decide))

/-- The ending of R66 and R92. -/
theorem State.exhaust_ends : ((s.exhaust e.val).eng e.val).run = none ∧
    ((s.exhaust e.val).eng e.val).data = (s.eng e.val).data ∧
    (s.exhaust e.val).rdw .PK_OPV e.val 0 = s.rdw .PK_OPV e.val 0 ∧
    (s.exhaust e.val).rdw .PK_OPV e.val 1 = s.rdw .PK_OPV e.val 1 ∧
    (s.exhaust e.val).get PK_PSTAT_BUDGET_EXH e.val = 1 ∧
    (s.exhaust e.val).get PK_PSTAT_BUSY e.val = 0 ∧
    (s.exhaust e.val).get PK_LATE_EXHCOUNT e.val = min (s.get PK_LATE_EXHCOUNT e.val + 1) (2 ^ PK_LATE_EXHCOUNT.width - 1) ∧
    (∀ b : Block, s.blockOf (e.val / 2) = some b.val → s.routed (112 + b.val) = true → (s.exhaust e.val).raised (112 + b.val) = true) := by
  have heq : s.exhaust e.val = (s.exhausted e.val).pickFault e.val := rfl
  have hev := State.exhausted_changes s e
  have hfault : Evolves raiseParts (s.exhausted e.val) ((s.exhausted e.val).pickFault e.val) := State.pickFault_evolves (.refl _ _) _ (covers_self _)
  have heng : (s.exhausted e.val).eng e.val = { s.eng e.val with run := none } := State.dropInv_eng s e
  have hhas : EngReg .PK_OPV 0 ∧ EngReg .PK_OPV 1 ∧ EngReg .PK_PSTAT 0 ∧ EngReg .PK_LATE 0 := by decide
  obtain ⟨hopv0, hopv1, hpstat, hlate⟩ := hhas
  obtain ⟨hexh, hbusy, hcount⟩ := State.exhausted_shows s e
  rw [heq, hfault.engU (by decide), heng]
  refine ⟨rfl, rfl, ?_, ?_, (hfault.get (hpstat.has e) (by decide)).trans hexh, (hfault.get (hpstat.has e) (by decide)).trans hbusy,
    (hfault.get (hlate.has e) (by decide)).trans hcount, fun b hb hrouted => State.pickFault_raised _ e ?_ ?_⟩
  · rw [hfault.rdw (hopv0.has e) (by decide), hev.rdw (hopv0.has e) (by decide)]
  · rw [hfault.rdw (hopv1.has e) (by decide), hev.rdw (hopv1.has e) (by decide)]
  · rw [hev.blockOf (by decide) (by decide), hb]
  · rw [hev.routed (by decide) (by omega), hrouted]

end Exhausted

/-- R92: an illegal word. -/
theorem illegal_word_exhausts (s : State) (e : Eng) (v : Inv) (w : Word) (hword : s.pickWord e.val = some (v, w))
    (hillegal : pickDecode w v.pc v.loop.isSome = none) (hleft : 1 ≤ v.left) : exec (.illegalWord e) s = .next (s.exhaust e.val) := by
  show execIllegalWord e s = _
  unfold execIllegalWord
  rw [hword]
  exact congrArg Host.Outcome.next (if_pos ⟨hleft, hillegal⟩)

/-- R66: an instruction that needs more cycles than are left. -/
theorem spent_budget_exhausts (s : State) (e : Eng) (waits : Fin 17) (fresh : Bool) (h : s.outOfBudget e.val waits.val fresh = true) :
    exec (.budgetExh e waits fresh) s = .next (s.exhaust e.val) := congrArg Host.Outcome.next (if_pos h)

/-- Settles O25, clause by clause. -/
theorem pickFlow : Obligations.PickFlow :=
  ⟨brf_branches, loop_opens_body, end_commits, discard_commits_nothing,
    fun s e v w hword hillegal hleft => ⟨_, illegal_word_exhausts s e v w hword hillegal hleft, s.exhaust_ends e⟩,
    fun s e waits fresh h => ⟨_, spent_budget_exhausts s e waits fresh h, s.exhaust_ends e⟩⟩

end Sys2Proof.Machine
end

section
/-! SUPPORT. A master's write to a register of a Pick engine or an arbiter (R19, R58, R502): the rule it comes to, and the words of a direct write and
of a refused change bit by bit. -/

namespace Sys2Proof.Machine

/-! ### An owner's write -/

/-- An owner's write to a register of an engine that exists: the register's rule, after what the write releases has been noted. -/
theorem State.regStore_eng {s : State} {m : Master} {e : Eng} (hopen : s.busOpen m = true) (hexists : s.engExists e.val = true)
    (hmay : s.mayWriteCell m (e.val / 2) = true) {r : RegId} (f : Word → State → State) (v : Word) (j : Nat)
    (hstore : ∀ (t : State) (x : Word), t.store m r x e.val j = t.engWrite m e.val (f x)) :
    ∃ d, s.regStore m r v e.val j = f (s.settle r v e.val j) { s with drift := d } := by
  obtain ⟨d, hd⟩ := State.regStore_eq s m r v e.val j hopen
  have hthere : State.engExists { s with drift := d } e.val = true := hexists
  exact ⟨d, by rw [hd, hstore, State.engWrite, if_pos hthere, State.asCellOwner_eq { s with drift := d } m _ _ hmay]⟩

/-! ### Words bit by bit -/

/-- A register all of whose bits are RW takes the word. -/
theorem RegId.written_all (r : RegId) (old v : Word) (h : ∀ k < 32, r.reg.rw.testBit k = true ∧ r.reg.w1c.testBit k = false) :
    r.written old v = v := by
  apply BitVec.eq_of_getLsbD_eq
  intro k hk
  obtain ⟨hrw, hwc⟩ := h k hk
  rw [RegId.written_bit _ _ _ hk, hrw, hwc]
  simp

/-- A field that takes no write and is not cleared by one keeps its value. -/
theorem Fld.of_written_kept (f : Fld) (old v : Word) (hw : f.lo + f.width ≤ 32)
    (h : ∀ k < f.width, f.reg.reg.rw.testBit (f.lo + k) = false ∧ f.reg.reg.w1c.testBit (f.lo + k) = false) :
    f.of (f.reg.written old v) = f.of old := by
  refine Fld.of_congr (fun k hk => ?_)
  obtain ⟨hrw, hwc⟩ := h k hk
  rw [RegId.written_bit _ _ _ (by omega), hrw, hwc]
  simp

/-- A refused change of every bit keeps the word. -/
theorem keeping_all (old v mask : Word) (h : ∀ k < 32, mask.getLsbD k = true) : keeping old v mask = old :=
  BitVec.eq_of_getLsbD_eq (fun k hk => by rw [keeping_bit _ _ _ hk, if_pos (h k hk)])

/-- What a refused change keeps depends on the bits it does not keep alone. -/
theorem keeping_congr {old a b mask : Word} (h : ∀ k < 32, mask.getLsbD k = false → a.getLsbD k = b.getLsbD k) :
    keeping old a mask = keeping old b mask := by
  refine BitVec.eq_of_getLsbD_eq (fun k hk => ?_)
  rw [keeping_bit _ _ _ hk, keeping_bit _ _ _ hk]
  split
  · rfl
  · next hm => exact h k hk (by simpa using hm)

/-- Two words that agree on a mask's bits are the same under it. -/
theorem and_congr_bits {a b mask : Word} (h : ∀ k < 32, mask.getLsbD k = true → a.getLsbD k = b.getLsbD k) : a &&& mask = b &&& mask := by
  refine BitVec.eq_of_getLsbD_eq (fun k hk => ?_)
  rw [BitVec.getLsbD_and, BitVec.getLsbD_and]
  cases hm : mask.getLsbD k
  · simp
  · rw [h k hk hm]

/-- Whether a mask's bits change depends on them alone. -/
theorem changes_congr {old a b mask : Word} (h : ∀ k < 32, mask.getLsbD k = true → a.getLsbD k = b.getLsbD k) :
    changes old a mask = changes old b mask := by
  have hx : (old ^^^ a) &&& mask = (old ^^^ b) &&& mask :=
    and_congr_bits fun k hk hm => by rw [BitVec.getLsbD_xor, BitVec.getLsbD_xor, h k hk hm]
  unfold changes
  rw [hx]

/-- A mask of every bit changes where the word does. -/
theorem changes_all (old v mask : Word) (h : ∀ k < 32, mask.getLsbD k = true) : changes old v mask = true ↔ v ≠ old := by
  have hmask : mask = BitVec.allOnes 32 := BitVec.eq_of_getLsbD_eq (fun k hk => by rw [h k hk, BitVec.getLsbD_allOnes, decide_eq_true hk])
  unfold changes
  rw [hmask, BitVec.and_allOnes, bne_iff_ne, ne_eq, ne_eq, BitVec.ofNat_eq_ofNat, BitVec.xor_eq_zero_iff, eq_comm]

/-! ### A write with a condition (R502) -/

section Conditional
variable (s : State) (r : RegId) (v mask : Word) (denied : State → State) (i j : Nat)

/-- Its condition met, the write is a direct one. -/
theorem State.condWrite_met : s.condWrite r v mask true denied i j = s.regWrite r v i j := rfl

/-- Its condition not met, the bits of the mask stay, and a change of one is denied. -/
theorem State.condWrite_unmet : s.condWrite r v mask false denied i j =
    if changes (s.rdw r i j) v mask then denied (s.regWrite r (keeping (s.rdw r i j) v mask) i j)
    else s.regWrite r (keeping (s.rdw r i j) v mask) i j := rfl

/-- The word after a direct write. -/
theorem State.rdw_regWrite (h : r.has i j = true) : (s.regWrite r v i j).rdw r i j = r.written (s.rdw r i j) v := State.rdw_wrw _ _ _ _ _ h

/-- Another register after one. -/
theorem State.get_regWrite_ne (f : Fld) (a b : Nat) (h : f.reg.has a b = true) (hne : f.reg ≠ r) : (s.regWrite r v i j).get f a b = s.get f a b :=
  congrArg f.of (State.rdw_wrw_ne _ _ _ _ _ _ _ _ h (.inl hne))

end Conditional

end Sys2Proof.Machine
end

section
/-! SUPPORT. The registers of an engine and its cell's arbiter take what their rules allow (R61, R62, R67, R71 to R76, R83, R502). -/

namespace Sys2Proof.Machine

/-! ### PARAM, PARAMGO and REPLATCH (R61, R62) -/

/-- What PARAM takes, and what it does not. -/
theorem State.paramWrite_spec (s : State) (e : Eng) (n : Fin 64) (v : Word) :
    (s.on PK_PARAMGO_GO e.val = false → (s.paramWrite e.val n.val v).rdw .PK_PARAM e.val n.val = v) ∧
    (s.on PK_PARAMGO_GO e.val = true → (s.paramWrite e.val n.val v).rdw .PK_PARAM e.val n.val = s.rdw .PK_PARAM e.val n.val ∧
      (s.paramWrite e.val n.val v).get PK_PSTAT_PARAM_DENIED e.val =
        if v = s.rdw .PK_PARAM e.val n.val then s.get PK_PSTAT_PARAM_DENIED e.val else 1) := by
  have hparam : RegId.PK_PARAM.has e.val n.val = true := (RegId.has_iff _ _ _).2 ⟨Nat.zero_le _, e.isLt, n.isLt⟩
  have hpstat : RegId.PK_PSTAT.has e.val 0 = true := (by decide : EngReg .PK_PSTAT 0).has e
  have hall : ∀ k < 32, (BitVec.ofNat 32 RegId.PK_PARAM.reg.rw).getLsbD k = true := by decide
  unfold State.paramWrite
  refine ⟨fun hgo => ?_, fun hgo => ?_⟩ <;> rw [hgo]
  · rw [Bool.not_false, State.condWrite_met, State.rdw_regWrite _ _ _ _ _ hparam, RegId.written_all _ _ _ (by decide)]
  · rw [Bool.not_true, State.condWrite_unmet, keeping_all _ _ _ hall]
    by_cases hv : v = s.rdw .PK_PARAM e.val n.val
    · rw [if_pos hv, if_neg (by rw [changes_all _ _ _ hall]; exact fun h => h hv), State.rdw_regWrite _ _ _ _ _ hparam,
        RegId.written_all _ _ _ (by decide)]
      exact ⟨rfl, State.get_regWrite_ne _ _ _ _ _ _ _ _ hpstat (by decide)⟩
    · rw [if_neg hv, if_pos ((changes_all _ _ _ hall).2 hv), State.rdw_put_ne _ _ _ _ _ _ _ _ hparam (.inl (by decide)),
        State.rdw_regWrite _ _ _ _ _ hparam, RegId.written_all _ _ _ (by decide)]
      exact ⟨rfl, State.get_put_eng _ _ _ _ (by decide)⟩

/-- It leaves the engine's committed words. -/
theorem State.paramWrite_eng (s : State) (e : Eng) (n : Fin 64) (v : Word) : (s.paramWrite e.val n.val v).eng e.val = s.eng e.val := by
  have hev : Evolves [.fresh, .reg .PK_PARAM, .reg .PK_PSTAT] s (s.paramWrite e.val n.val v) :=
    State.condWrite_evolves (.refl _ s) _ _ _ _ _ _ _ (fun x h => State.put_evolves h _ _ _ _ (by decide +kernel)) (by decide +kernel)
  exact hev.engU (by decide) _

/-- R61: PARAM written. -/
theorem param_written (s : State) (m : Master) (e : Eng) (n : Fin 64) (v : Word) (hopen : s.busOpen m = true) (hexists : s.engExists e.val = true)
    (hmay : s.mayWriteCell m (e.val / 2) = true) :
    ∃ t, exec (.paramWrite m e n v) s = .next t ∧
      (s.on PK_PARAMGO_GO e.val = false → t.rdw .PK_PARAM e.val n.val = v) ∧
      (s.on PK_PARAMGO_GO e.val = true → t.rdw .PK_PARAM e.val n.val = s.rdw .PK_PARAM e.val n.val ∧
        t.get PK_PSTAT_PARAM_DENIED e.val = if v = s.rdw .PK_PARAM e.val n.val then s.get PK_PSTAT_PARAM_DENIED e.val else 1) ∧
      (t.eng e.val).data = (s.eng e.val).data := by
  obtain ⟨d, hd⟩ := State.regStore_eng hopen hexists hmay (r := .PK_PARAM) (fun x t => t.paramWrite e.val n.val x) v n.val (fun _ _ => rfl)
  rw [State.settle_of_no_w1c _ _ _ _ _ rfl] at hd
  obtain ⟨hfree, hpending⟩ := State.paramWrite_spec { s with drift := d } e n v
  exact ⟨_, congrArg Host.Outcome.next hd, hfree, hpending, congrArg EngU.data (State.paramWrite_eng _ e n v)⟩

/-- R61: PARAMGO written. -/
theorem paramgo_sets_go (s : State) (m : Master) (e : Eng) (v : Word) (hopen : s.busOpen m = true) (hexists : s.engExists e.val = true)
    (hmay : s.mayWriteCell m (e.val / 2) = true) :
    ∃ t, exec (.paramgo m e v) s = .next t ∧ t.on PK_PARAMGO_GO e.val = true ∧ (t.eng e.val).data = (s.eng e.val).data := by
  obtain ⟨d, hd⟩ := State.regStore_eng hopen hexists hmay (r := .PK_PARAMGO) (fun x t => t.paramgoWrite e.val x) (PK_PARAMGO_GO.into v 1) 0 (fun _ _ => rfl)
  have hgo : PK_PARAMGO_GO.of (PK_PARAMGO_GO.into v 1) = 1 := bits_setBits _ _ _ _ (by decide)
  rw [State.settle_of_no_w1c _ _ _ _ _ rfl, State.paramgoWrite, if_pos hgo] at hd
  exact ⟨_, congrArg Host.Outcome.next hd, State.on_put _ PK_PARAMGO_GO _ _ _ ((by decide : EngReg .PK_PARAMGO 0).has e) (by decide), rfl⟩

/-- The first `n` words of the read buffer, copied (R62). -/
def State.reportCopied (s : State) (e n : Nat) : State :=
  s.each (List.range n) (fun s n => s.wrw .PK_REPORT (dataWord (s.eng e).data (384 + n)) e n)

/-- One word more. -/
theorem State.reportCopied_succ (s : State) (e n : Nat) : s.reportCopied e (n + 1) =
    (s.reportCopied e n).wrw .PK_REPORT (dataWord ((s.reportCopied e n).eng e).data (384 + n)) e n := by
  unfold State.reportCopied State.each
  rw [List.range_succ, List.foldl_append]
  rfl

/-- Copying leaves the committed words. -/
theorem State.reportCopied_eng (s : State) (e n : Nat) : (s.reportCopied e n).eng e = s.eng e :=
  State.each_keeps (fun t => t.eng e) _ (fun s n => s.wrw .PK_REPORT (dataWord (s.eng e).data (384 + n)) e n) (fun _ _ => rfl) s

/-- A word that is copied is the committed one. -/
theorem State.reportCopied_rdw (s : State) (e : Eng) (k : Fin 64) (n : Nat) (h : k.val < n) :
    (s.reportCopied e.val n).rdw .PK_REPORT e.val k.val = dataWord (s.eng e.val).data (384 + k.val) := by
  have hreport : RegId.PK_REPORT.has e.val k.val = true := (RegId.has_iff _ _ _).2 ⟨Nat.zero_le _, e.isLt, k.isLt⟩
  induction n with
  | zero => omega
  | succ n ih =>
    rw [State.reportCopied_succ, State.reportCopied_eng]
    by_cases hk : k.val = n
    · rw [← hk, State.rdw_wrw _ _ _ _ _ hreport]
    · rw [State.rdw_wrw_ne _ _ _ _ _ _ _ _ hreport (.inr (.inr hk))]
      exact ih (by omega)

/-- Settles O56: the copy word by word, read where it stands. -/
theorem reportBufferIsLatched : Obligations.ReportBufferIsLatched := by
  intro s m e v hopen hexists hmay
  obtain ⟨d, hd⟩ := State.regStore_eng hopen hexists hmay (r := .PK_REPLATCH) (fun x t => t.replatchWrite e.val x) (PK_REPLATCH_LATCH.into v 1) 0
    (fun _ _ => rfl)
  have hlatch : PK_REPLATCH_LATCH.of (PK_REPLATCH_LATCH.into v 1) = 1 := bits_setBits _ _ _ _ (by decide)
  rw [State.settle_of_no_w1c _ _ _ _ _ rfl, State.replatchWrite, if_pos hlatch] at hd
  have hword (n : Fin 64) := State.reportCopied_rdw { s with drift := d } e n 64 n.isLt
  exact ⟨_, congrArg Host.Outcome.next hd, hword, hword, congrArg EngU.data (State.reportCopied_eng { s with drift := d } e.val 64)⟩

/-! ### SLICEMAP (R67, R83) -/

/-- The word of a SLICEMAP register with each entry that is refused as it stood. -/
def sliceEntries (old v : Word) (bad : Nat → Bool) : Word :=
  [0, 1, 2, 3].foldl (fun w k => if bad k then setBits w (8 * k) 8 (bits old (8 * k) 8) else w) v

/-- One entry kept or taken. -/
theorem bits_entry (old w : Word) (bad : Bool) (k i : Nat) (hk : k < 4) :
    bits (if bad then setBits w (8 * k) 8 (bits old (8 * k) 8) else w) (8 * i) 8 =
      if i = k ∧ bad = true then bits old (8 * i) 8 else bits w (8 * i) 8 := by
  cases bad
  case false => simp
  case true =>
    by_cases hi : i = k
    · subst hi
      rw [if_pos rfl, if_pos ⟨rfl, rfl⟩, bits_setBits _ _ _ _ (by omega)]
      exact Nat.mod_eq_of_lt (Nat.mod_lt _ (by decide))
    · rw [if_pos rfl, if_neg (by simp [hi]), bits_setBits_ne _ _ _ _ _ _ (by omega)]

/-- An entry is as it stood where it is refused, else as written. -/
theorem bits_sliceEntries (old v : Word) (bad : Nat → Bool) (k : Fin 4) :
    bits (sliceEntries old v bad) (8 * k.val) 8 = if bad k.val = true then bits old (8 * k.val) 8 else bits v (8 * k.val) 8 := by
  unfold sliceEntries
  simp only [List.foldl_cons, List.foldl_nil]
  rw [bits_entry _ _ _ 3 _ (by decide), bits_entry _ _ _ 2 _ (by decide), bits_entry _ _ _ 1 _ (by decide), bits_entry _ _ _ 0 _ (by decide)]
  match k with
  | 0 => simp
  | 1 => simp
  | 2 => simp
  | 3 => simp

/-- An entry of SLICEMAP that a write may give: one that stays, or an admissible one in a STOPPED block. -/
abbrev State.entryTaken (s : State) (e : Nat) (r : RegId) (v : Word) (k : Nat) : Prop :=
  bits v (8 * k) 8 = bits (s.rdw r e) (8 * k) 8 ∨ (s.cellStopped (e / 2) = true ∧ s.sliceOk (e / 2) (bits v (8 * k) 8) = true)

/-- An entry that a write may not give. -/
def State.entryBad (s : State) (e : Nat) (r : RegId) (v : Word) (k : Nat) : Bool :=
  bits v (8 * k) 8 != bits (s.rdw r e) (8 * k) 8 && !(s.cellStopped (e / 2) && s.sliceOk (e / 2) (bits v (8 * k) 8))

/-- Either one or the other. -/
theorem State.entryBad_eq (s : State) (e : Nat) (r : RegId) (v : Word) (k : Nat) : s.entryBad e r v k = true ↔ ¬ s.entryTaken e r v k := by
  unfold State.entryBad State.entryTaken
  cases s.cellStopped (e / 2) <;> simp

/-- No entry of the word is refused. -/
theorem State.entries_taken (s : State) (e : Nat) (r : RegId) (v : Word) :
    [0, 1, 2, 3].any (s.entryBad e r v) = true ↔ ¬ ∀ k : Fin 4, s.entryTaken e r v k.val := by
  simp only [List.any_eq_true, State.entryBad_eq, not_forall]
  refine ⟨fun ⟨k, hk, hbad⟩ => ⟨⟨k, ?_⟩, hbad⟩, fun ⟨k, hbad⟩ => ⟨k.val, ?_, hbad⟩⟩
  · simp only [List.mem_cons, List.not_mem_nil, or_false] at hk
    omega
  · have := k.isLt
    simp only [List.mem_cons, List.not_mem_nil, or_false]
    omega

/-- What SLICEMAP takes, and what shows that it did not. -/
theorem State.slicemapWrite_spec (s : State) (e : Eng) (r : RegId) (v : Word) (hr : EngReg r 0 ∧ r ≠ .PK_PSTAT) :
    (∀ k : Fin 4, bits ((s.slicemapWrite e.val r v).rdw r e.val) (8 * k.val) 8 =
      if s.entryTaken e.val r v k.val then bits v (8 * k.val) 8 else bits (s.rdw r e.val) (8 * k.val) 8) ∧
    (s.slicemapWrite e.val r v).get PK_PSTAT_SLICE_DENIED e.val =
      if ∀ k : Fin 4, s.entryTaken e.val r v k.val then s.get PK_PSTAT_SLICE_DENIED e.val else 1 := by
  have hpstat : EngReg .PK_PSTAT 0 := by decide
  have hword : ∀ t : State, t.rdw r e.val = sliceEntries (s.rdw r e.val) v (s.entryBad e.val r v) → ∀ k : Fin 4, bits (t.rdw r e.val) (8 * k.val) 8 =
      if s.entryTaken e.val r v k.val then bits v (8 * k.val) 8 else bits (s.rdw r e.val) (8 * k.val) 8 := by
    intro t ht k
    rw [ht, bits_sliceEntries]
    by_cases hk : s.entryTaken e.val r v k.val
    · rw [if_pos hk, if_neg (by rw [State.entryBad_eq]; exact fun h => h hk)]
    · rw [if_neg hk, if_pos ((State.entryBad_eq _ _ _ _ _).2 hk)]
  have hstored := State.rdw_wrw s r (sliceEntries (s.rdw r e.val) v (s.entryBad e.val r v)) e.val 0 (hr.1.has e)
  have heq : s.slicemapWrite e.val r v =
      if [0, 1, 2, 3].any (s.entryBad e.val r v) then
        (s.wrw r (sliceEntries (s.rdw r e.val) v (s.entryBad e.val r v)) e.val).put PK_PSTAT_SLICE_DENIED 1 e.val
      else s.wrw r (sliceEntries (s.rdw r e.val) v (s.entryBad e.val r v)) e.val := rfl
  rw [heq]
  by_cases hall : ∀ k : Fin 4, s.entryTaken e.val r v k.val
  · rw [if_pos hall, if_neg (by rw [State.entries_taken]; exact fun h => h hall)]
    exact ⟨hword _ hstored, congrArg PK_PSTAT_SLICE_DENIED.of (State.rdw_wrw_ne _ _ _ _ _ _ _ _ (hpstat.has e) (.inl (Ne.symm hr.2)))⟩
  · rw [if_neg hall, if_pos ((State.entries_taken _ _ _ _).2 hall)]
    exact ⟨hword _ ((State.rdw_put_eng _ PK_PSTAT_SLICE_DENIED _ _ _ _ hr).trans hstored), State.get_put_eng _ _ _ _ (by decide)⟩

/-- R67, R83: SLICEMAP0 or SLICEMAP1 written. -/
theorem slicemap_takes_entries (s : State) (m : Master) (e : Eng) (hi : Bool) (v : Word) (hopen : s.busOpen m = true)
    (hexists : s.engExists e.val = true) (hmay : s.mayWriteCell m (e.val / 2) = true) :
    ∃ t, exec (.slicemapWrite m e hi v) s = .next t ∧
      (∀ k : Fin 4, bits (t.rdw (if hi then .PK_SLICEMAP1 else .PK_SLICEMAP0) e.val) (8 * k.val) 8 =
        if s.entryTaken e.val (if hi then .PK_SLICEMAP1 else .PK_SLICEMAP0) v k.val then bits v (8 * k.val) 8
        else bits (s.rdw (if hi then .PK_SLICEMAP1 else .PK_SLICEMAP0) e.val) (8 * k.val) 8) ∧
      t.get PK_PSTAT_SLICE_DENIED e.val =
        if ∀ k : Fin 4, s.entryTaken e.val (if hi then .PK_SLICEMAP1 else .PK_SLICEMAP0) v k.val then s.get PK_PSTAT_SLICE_DENIED e.val else 1 := by
  obtain ⟨r, hr, hreg, hwc, hstore⟩ : ∃ r : RegId, (if hi then RegId.PK_SLICEMAP1 else .PK_SLICEMAP0) = r ∧ (EngReg r 0 ∧ r ≠ .PK_PSTAT) ∧
      r.reg.w1c = 0 ∧ ∀ (t : State) (x : Word), t.store m r x e.val 0 = t.engWrite m e.val (fun s => s.slicemapWrite e.val r x) := by
    cases hi
    · exact ⟨.PK_SLICEMAP0, rfl, by decide, rfl, fun _ _ => rfl⟩
    · exact ⟨.PK_SLICEMAP1, rfl, by decide, rfl, fun _ _ => rfl⟩
  obtain ⟨d, hd⟩ := State.regStore_eng hopen hexists hmay (fun x t => t.slicemapWrite e.val r x) v 0 hstore
  rw [State.settle_of_no_w1c _ _ _ _ _ hwc] at hd
  refine ⟨State.slicemapWrite { s with drift := d } e.val r v, ?_, ?_⟩
  · show execSlicemapWrite m e hi v s = _
    unfold execSlicemapWrite
    rw [hr, hd]
  · rw [hr]
    exact State.slicemapWrite_spec { s with drift := d } e r v hreg

/-! ### ARBCTL (R71 to R73, R76) -/

/-- An evaluation that has been put off is due 4 ns later (R71). -/
theorem State.evalLater_due (s : State) (c : Cell) : ((s.evalLater c.val).arb c.val).due.contains (s.now + 1) = true := by
  unfold State.evalLater
  rw [State.arb_updArb, if_pos ⟨rfl, c.isLt⟩]
  split
  · assumption
  · simp

/-- It leaves every register. -/
@[simp] theorem State.evalLater_rdw (s : State) (c : Nat) (r : RegId) (i j : Nat) : (s.evalLater c).rdw r i j = s.rdw r i j := State.updArb_rdw _ _ _ _ _ _

@[simp] theorem State.evalLater_get (s : State) (c : Nat) (f : Fld) (i j : Nat) : (s.evalLater c).get f i j = s.get f i j := State.updArb_get _ _ _ _ _ _

/-- Whether a written route is admitted: the block STOPPED, the routes of all arbiters in order (R72, R76). -/
def State.routeTaken (s : State) (c : Nat) (v : Word) : Bool :=
  s.cellStopped c && s.routesOk (fun k => if k = c then keeping (s.rdw .PK_ARBCTL c) v (~~~arbRouteMask) else s.rdw .PK_ARBCTL k)

/-- ARBCTL with the written word, its route where that is admitted (R72, R502). -/
def State.routeWritten (s : State) (c : Nat) (v : Word) : State :=
  s.condWrite .PK_ARBCTL v arbRouteMask (s.routeTaken c v) (fun s => s.put PK_ARBCTL_ROUTE_DENIED 1 c) c

/-- A write that does not ask for an absolute duty in Q1.31. -/
theorem State.arbctlWrite_routed (s : State) (c : Nat) (v : Word) (h : ¬ (PK_ARBCTL_DEST.of v = 2 ∧ PK_ARBCTL_FMT.of v = 0)) :
    s.arbctlWrite c v = if changes (s.rdw .PK_ARBCTL c) v PK_ARBCTL_SLOTEN.mask then (s.routeWritten c v).evalLater c else s.routeWritten c v :=
  if_neg h

/-- The time is the same after it. -/
theorem State.routeWritten_now (s : State) (c : Nat) (v : Word) : (s.routeWritten c v).now = s.now := by
  have hev : Evolves [.fresh, .reg .PK_ARBCTL] s (s.routeWritten c v) :=
    State.condWrite_evolves (.refl _ s) _ _ _ _ _ _ _ (fun x h => State.put_evolves h _ _ _ _ (by decide +kernel)) (by decide +kernel)
  exact hev.kept .now (by decide)

/-- A change of SLOTEN makes an evaluation due; the word is that of the write. -/
theorem State.arbctlWrite_due (s : State) (c : Cell) (v : Word) (h : ¬ (PK_ARBCTL_DEST.of v = 2 ∧ PK_ARBCTL_FMT.of v = 0)) :
    (s.arbctlWrite c.val v).rdw .PK_ARBCTL c.val = (s.routeWritten c.val v).rdw .PK_ARBCTL c.val ∧
    (changes (s.rdw .PK_ARBCTL c.val) v PK_ARBCTL_SLOTEN.mask = true → ((s.arbctlWrite c.val v).arb c.val).due.contains (s.now + 1) = true) := by
  rw [State.arbctlWrite_routed s c.val v h]
  refine ⟨by split <;> simp, fun hchange => ?_⟩
  rw [if_pos hchange, ← State.routeWritten_now s c.val v]
  exact State.evalLater_due _ c

/-- An admitted route is written with the rest. -/
theorem State.routeWritten_taken (s : State) (c : Cell) (v : Word) (h : s.routeTaken c.val v = true) :
    (s.routeWritten c.val v).rdw .PK_ARBCTL c.val = RegId.PK_ARBCTL.written (s.rdw .PK_ARBCTL c.val) v := by
  unfold State.routeWritten
  rw [h, State.condWrite_met, State.rdw_regWrite _ _ _ _ _ ((by decide : CellReg .PK_ARBCTL 0).has c)]

/-- A route that is not admitted stays, the rest is written (R502). -/
theorem State.routeWritten_refused (s : State) (c : Cell) (v : Word) (h : s.routeTaken c.val v = false) :
    (s.routeWritten c.val v).rdw .PK_ARBCTL c.val &&& arbRouteMask = s.rdw .PK_ARBCTL c.val &&& arbRouteMask ∧
    (s.routeWritten c.val v).get PK_ARBCTL_SLOTEN c.val = PK_ARBCTL_SLOTEN.of v ∧
    (changes (s.rdw .PK_ARBCTL c.val) v arbRouteMask = true → (s.routeWritten c.val v).get PK_ARBCTL_ROUTE_DENIED c.val = 1) := by
  have harb : RegId.PK_ARBCTL.has c.val 0 = true := (by decide : CellReg .PK_ARBCTL 0).has c
  have hroute : ∀ k < 32, arbRouteMask.getLsbD k = true →
      k ≠ 27 ∧ RegId.PK_ARBCTL.reg.rw.testBit k = true ∧ RegId.PK_ARBCTL.reg.w1c.testBit k = false := by
    decide
  unfold State.routeWritten
  rw [h, State.condWrite_unmet]
  generalize hw : s.regWrite .PK_ARBCTL (keeping (s.rdw .PK_ARBCTL c.val) v arbRouteMask) c.val = t
  have hword : t.rdw .PK_ARBCTL c.val = RegId.PK_ARBCTL.written (s.rdw .PK_ARBCTL c.val) (keeping (s.rdw .PK_ARBCTL c.val) v arbRouteMask) := by
    rw [← hw, State.rdw_regWrite _ _ _ _ _ harb]
  have hsloten : PK_ARBCTL_SLOTEN.of (t.rdw .PK_ARBCTL c.val) = PK_ARBCTL_SLOTEN.of v := by
    rw [hword]
    exact (Fld.of_written PK_ARBCTL_SLOTEN _ _ (by decide) (by decide)).trans (Fld.of_keeping_free _ _ _ _ (by decide) (by decide))
  have hkept : ∀ k < 32, arbRouteMask.getLsbD k = true → (t.rdw .PK_ARBCTL c.val).getLsbD k = (s.rdw .PK_ARBCTL c.val).getLsbD k := by
    intro k hk hmask
    obtain ⟨-, hrw, hwc⟩ := hroute k hk hmask
    rw [hword, RegId.written_bit _ _ _ hk, hrw, hwc, keeping_bit _ _ _ hk, if_pos hmask]
    simp
  split
  · have hdenied : (t.put PK_ARBCTL_ROUTE_DENIED 1 c.val).rdw .PK_ARBCTL c.val = PK_ARBCTL_ROUTE_DENIED.into (t.rdw .PK_ARBCTL c.val) 1 :=
      (State.rdw_put _ _ _ _ _ _ _ _).trans (State.rdw_wrw _ _ _ _ _ harb)
    refine ⟨and_congr_bits fun k hk hmask => ?_, (State.get_put_cell_apart _ _ _ _ _ (by decide)).trans hsloten,
      fun _ => State.get_put_cell _ _ _ _ (by decide)⟩
    have hne := (hroute k hk hmask).1
    rw [hdenied, Fld.into_bit_out _ _ _ (by show k < 27 ∨ 27 + 1 ≤ k; omega), hkept k hk hmask]
  · next hsame => exact ⟨and_congr_bits hkept, hsloten, fun hchange => absurd hchange hsame⟩

section Owner
variable (s : State) (m : Master) (c : Cell) (v : Word)

/-- ARBCTL written by a master that R19 admits: the rule of the register, on the word as it acts. -/
theorem arbctl_written (hopen : s.busOpen m = true) (hmay : s.mayWriteCell m c.val = true) :
    ∃ d, exec (.arbctlWrite m c v) s = .next (State.arbctlWrite { s with drift := d } c.val (s.settle .PK_ARBCTL v c.val)) := by
  obtain ⟨d, hd⟩ := State.regStore_cell s m .PK_ARBCTL v c.val c.val (fun x t => t.arbctlWrite c.val x) hopen hmay (fun _ _ => rfl)
  exact ⟨d, congrArg Host.Outcome.next hd⟩

/-- No bit of a route or of SLOTEN is W1C. -/
theorem settle_arbctl_bit {k : Nat} (hk : k < 32) (h : (arbRouteMask ||| PK_ARBCTL_SLOTEN.mask).getLsbD k = true) :
    (s.settle .PK_ARBCTL v c.val).getLsbD k = v.getLsbD k := by
  have hwc : ∀ k < 32, (arbRouteMask ||| PK_ARBCTL_SLOTEN.mask).getLsbD k = true → RegId.PK_ARBCTL.reg.w1c.testBit k = false := by decide
  exact State.settle_bit s .PK_ARBCTL v c.val 0 hk (hwc k hk h)

/-- The route asked for is that of the word as it acts. -/
theorem State.routeTaken_settle (d : DriftU) : State.routeTaken { s with drift := d } c.val (s.settle .PK_ARBCTL v c.val) = s.routeTaken c.val v := by
  have hroute : ∀ k < 32, (~~~arbRouteMask).getLsbD k = false → (arbRouteMask ||| PK_ARBCTL_SLOTEN.mask).getLsbD k = true := by decide
  have hkeep : keeping (s.rdw .PK_ARBCTL c.val) (s.settle .PK_ARBCTL v c.val) (~~~arbRouteMask) = keeping (s.rdw .PK_ARBCTL c.val) v (~~~arbRouteMask) :=
    keeping_congr fun k hk hmask => settle_arbctl_bit s c v hk (hroute k hk hmask)
  show (s.cellStopped c.val && s.routesOk (fun k => if k = c.val then keeping (s.rdw .PK_ARBCTL c.val) (s.settle .PK_ARBCTL v c.val) (~~~arbRouteMask)
    else s.rdw .PK_ARBCTL k)) = _
  rw [hkeep]
  rfl

/-- The form asked for too. -/
theorem settle_arbctl_form : PK_ARBCTL_DEST.of (s.settle .PK_ARBCTL v c.val) = PK_ARBCTL_DEST.of v ∧
    PK_ARBCTL_FMT.of (s.settle .PK_ARBCTL v c.val) = PK_ARBCTL_FMT.of v :=
  ⟨State.settle_field s PK_ARBCTL_DEST v _ _ (by decide) (by decide), State.settle_field s PK_ARBCTL_FMT v _ _ (by decide) (by decide)⟩

/-- The changes of the route and of SLOTEN are those of the word as it acts. -/
theorem changes_settle {mask : Word} (hmask : ∀ k < 32, mask.getLsbD k = true → (arbRouteMask ||| PK_ARBCTL_SLOTEN.mask).getLsbD k = true) :
    changes (s.rdw .PK_ARBCTL c.val) (s.settle .PK_ARBCTL v c.val) mask = changes (s.rdw .PK_ARBCTL c.val) v mask :=
  changes_congr fun k hk h => settle_arbctl_bit s c v hk (hmask k hk h)

end Owner

/-- R72, R76: an admissible route in a STOPPED block. -/
theorem arbctl_takes_route (s : State) (m : Master) (c : Cell) (v : Word) (hopen : s.busOpen m = true) (hmay : s.mayWriteCell m c.val = true)
    (hroute : s.routeTaken c.val v = true) (hform : ¬ (PK_ARBCTL_DEST.of v = 2 ∧ PK_ARBCTL_FMT.of v = 0)) :
    ∃ t, exec (.arbctlWrite m c v) s = .next t ∧
      t.rdw .PK_ARBCTL c.val = RegId.PK_ARBCTL.written (s.rdw .PK_ARBCTL c.val) (s.settle .PK_ARBCTL v c.val) ∧
      (changes (s.rdw .PK_ARBCTL c.val) v PK_ARBCTL_SLOTEN.mask = true → (t.arb c.val).due.contains (s.now + 1) = true) := by
  obtain ⟨d, hd⟩ := arbctl_written s m c v hopen hmay
  obtain ⟨hdest, hfmt⟩ := settle_arbctl_form s c v
  obtain ⟨hword, hdue⟩ := State.arbctlWrite_due { s with drift := d } c (s.settle .PK_ARBCTL v c.val) (by rw [hdest, hfmt]; exact hform)
  refine ⟨_, hd, hword.trans (State.routeWritten_taken { s with drift := d } c _ ?_), fun hchange => hdue ?_⟩
  · rw [State.routeTaken_settle, hroute]
  · exact (changes_settle s c v (by decide)).trans hchange

/-- R72, R76: a route that is not admitted, or a block not STOPPED. -/
theorem arbctl_keeps_route (s : State) (m : Master) (c : Cell) (v : Word) (hopen : s.busOpen m = true) (hmay : s.mayWriteCell m c.val = true)
    (hroute : s.routeTaken c.val v = false) (hform : ¬ (PK_ARBCTL_DEST.of v = 2 ∧ PK_ARBCTL_FMT.of v = 0)) :
    ∃ t, exec (.arbctlWrite m c v) s = .next t ∧
      t.rdw .PK_ARBCTL c.val &&& arbRouteMask = s.rdw .PK_ARBCTL c.val &&& arbRouteMask ∧
      t.get PK_ARBCTL_SLOTEN c.val = PK_ARBCTL_SLOTEN.of v ∧
      (changes (s.rdw .PK_ARBCTL c.val) v arbRouteMask = true → t.get PK_ARBCTL_ROUTE_DENIED c.val = 1) ∧
      (changes (s.rdw .PK_ARBCTL c.val) v PK_ARBCTL_SLOTEN.mask = true → (t.arb c.val).due.contains (s.now + 1) = true) := by
  obtain ⟨d, hd⟩ := arbctl_written s m c v hopen hmay
  obtain ⟨hdest, hfmt⟩ := settle_arbctl_form s c v
  obtain ⟨hword, hdue⟩ := State.arbctlWrite_due { s with drift := d } c (s.settle .PK_ARBCTL v c.val) (by rw [hdest, hfmt]; exact hform)
  obtain ⟨hkept, hsloten, hdenied⟩ := State.routeWritten_refused { s with drift := d } c (s.settle .PK_ARBCTL v c.val)
    (by rw [State.routeTaken_settle, hroute])
  refine ⟨_, hd, by rw [hword]; exact hkept, (congrArg PK_ARBCTL_SLOTEN.of hword).trans (hsloten.trans ?_),
    fun hchange => (congrArg PK_ARBCTL_ROUTE_DENIED.of hword).trans (hdenied ?_), fun hchange => hdue ?_⟩
  · exact State.settle_field s PK_ARBCTL_SLOTEN v _ _ (by decide) (by decide)
  · exact (changes_settle s c v (by decide)).trans hchange
  · exact (changes_settle s c v (by decide)).trans hchange

/-- R73: an absolute duty in Q1.31. -/
theorem arbctl_refuses_absolute (s : State) (m : Master) (c : Cell) (v : Word) (hopen : s.busOpen m = true) (hmay : s.mayWriteCell m c.val = true)
    (hform : PK_ARBCTL_DEST.of v = 2 ∧ PK_ARBCTL_FMT.of v = 0) :
    ∃ t, exec (.arbctlWrite m c v) s = .next t ∧
      t.rdw .PK_ARBCTL c.val = PK_ARBCTL_ROUTE_DENIED.into (s.rdw .PK_ARBCTL c.val) 1 ∧
      t.pick = s.pick := by
  obtain ⟨d, hd⟩ := arbctl_written s m c v hopen hmay
  obtain ⟨hdest, hfmt⟩ := settle_arbctl_form s c v
  rw [State.arbctlWrite, if_pos (by rw [hdest, hfmt]; exact hform)] at hd
  exact ⟨_, hd, (State.rdw_put _ _ _ _ _ _ _ _).trans (State.rdw_wrw _ _ _ _ _ ((by decide : CellReg .PK_ARBCTL 0).has c)), rfl⟩

/-- Settles O26, register by register. -/
theorem pickRegistersAreWritten : Obligations.PickRegistersAreWritten := by
  refine ⟨param_written, paramgo_sets_go, slicemap_takes_entries, fun s m c v hopen hmay hstopped hroutes hform => ?_,
    fun s m c v hopen hmay hroute hform => ?_, fun s m c v hopen hmay hdest hfmt => arbctl_refuses_absolute s m c v hopen hmay ⟨hdest, hfmt⟩⟩
  · exact arbctl_takes_route s m c v hopen hmay (by rw [State.routeTaken, hstopped, hroutes]; rfl) hform
  · refine arbctl_keeps_route s m c v hopen hmay ?_ hform
    unfold State.routeTaken
    obtain hstopped | hroutes := hroute
    · rw [hstopped, Bool.false_and]
    · rw [hroutes, Bool.and_false]

end Sys2Proof.Machine
end

section
/-! SUPPORT. The start of an invocation (R60, R61, R64, R65, R70): which request is the oldest, the working copy, and what the invocation starts with. -/

namespace Sys2Proof.Machine

/-! ### The first of the least -/

/-- The least element of a list in the order of an index is the one that a scan from its head keeps, if those as small come later. -/
theorem argmin_of_first {α β : Type} [LinearOrder β] [DecidableEq α] {key : α → β} {idx : α → Nat} {l : List α} {m : α}
    (hsorted : l.Pairwise (fun x y => idx x < idx y)) (hm : m ∈ l) (h : ∀ a ∈ l, key m < key a ∨ key m = key a ∧ idx m ≤ idx a) :
    l.argmin key = some m := by
  refine List.argmin_eq_some_iff.2 ⟨hm, fun a ha => (h a ha).elim le_of_lt (fun hm => hm.1.le), fun a ha hle => ?_⟩
  have hidx : idx m ≤ idx a := (h a ha).elim (fun hlt => absurd hle (not_le_of_gt hlt)) And.right
  by_contra hlater
  have hbefore := List.pairwise_iff_getElem.1 hsorted _ _ (List.idxOf_lt_length_of_mem ha) (List.idxOf_lt_length_of_mem hm) (Nat.lt_of_not_le hlater)
  rw [List.getElem_idxOf, List.getElem_idxOf] at hbefore
  omega

/-! ### The oldest request (R65) -/

/-- The pending requests of an engine, by class, with their ages. -/
def EngU.pendings (u : EngU) : List (Nat × Nat) := [0, 1, 2].filterMap (fun k => (u.pend.toList.getD k none).map (fun r => (k, r.since)))

/-- The class that starts next is that of the oldest, the lowest class among equals. -/
theorem EngU.nextClass_eq (u : EngU) : u.nextClass = (u.pendings.argmin Prod.snd).map Prod.fst := by
  have hstep : (fun best (x : Nat × Nat) => match best with
      | none => some x
      | some y => if x.2 < y.2 then some x else some y) = List.argAux (fun x y => x.2 < y.2) := by
    funext best x
    cases best <;> rfl
  unfold List.argmin
  rw [← hstep]
  rfl

/-- A class pends where its request does. -/
theorem EngU.pend_getD (u : EngU) (k : Fin 3) : u.pend.toList.getD k.val none = u.pend[k] := by
  rw [List.getD_eq_getElem _ _ (by simp)]
  rfl

/-- The pending requests are those of the three classes. -/
theorem EngU.mem_pendings (u : EngU) (x : Nat × Nat) : x ∈ u.pendings ↔ ∃ (k : Fin 3) (r : Req), u.pend[k] = some r ∧ x = (k.val, r.since) := by
  unfold EngU.pendings
  simp only [List.mem_filterMap, Option.map_eq_some_iff]
  constructor
  · rintro ⟨k, hk, r, hr, rfl⟩
    have hlt : k < 3 := by
      simp only [List.mem_cons, List.not_mem_nil, or_false] at hk
      omega
    exact ⟨⟨k, hlt⟩, r, (u.pend_getD ⟨k, hlt⟩).symm.trans hr, rfl⟩
  · rintro ⟨k, r, hr, rfl⟩
    have := k.isLt
    refine ⟨k.val, ?_, r, (u.pend_getD k).trans hr, rfl⟩
    simp only [List.mem_cons, List.not_mem_nil, or_false]
    omega

/-- They stand in the order of the classes. -/
theorem EngU.pendings_sorted (u : EngU) : u.pendings.Pairwise (fun x y => x.1 < y.1) := by
  unfold EngU.pendings
  refine List.pairwise_filterMap.2 (List.Pairwise.imp (R := (· < ·)) (fun hlt x hx y hy => ?_) (by decide))
  simp only [Option.map_eq_some_iff] at hx hy
  obtain ⟨_, _, rfl⟩ := hx
  obtain ⟨_, _, rfl⟩ := hy
  exact hlt

/-- The oldest request of an engine is that of the class that starts next. -/
theorem EngU.nextClass_oldest (u : EngU) (k : Fin 3) (r : Req) (hr : u.pend[k] = some r)
    (h : ∀ j : Fin 3, u.pend[j].all (fun q => j == k || decide (r.since < q.since) || decide (r.since = q.since ∧ k < j)) = true) :
    u.nextClass = some k.val := by
  have hmin : u.pendings.argmin Prod.snd = some (k.val, r.since) := by
    refine argmin_of_first (idx := Prod.fst) u.pendings_sorted ((u.mem_pendings _).2 ⟨k, r, hr, rfl⟩) (fun x hx => ?_)
    obtain ⟨j, q, hq, rfl⟩ := (u.mem_pendings x).1 hx
    have hj := h j
    rw [hq, Option.all_some, Bool.or_eq_true, Bool.or_eq_true, beq_iff_eq, decide_eq_true_iff, decide_eq_true_iff] at hj
    obtain (rfl | hlt) | ⟨heq, hlt⟩ := hj
    · rw [hr, Option.some.injEq] at hq
      exact .inr ⟨by rw [hq], Nat.le_refl _⟩
    · exact .inl hlt
    · exact .inr ⟨heq, Nat.le_of_lt hlt⟩
  rw [EngU.nextClass_eq, hmin]
  rfl

/-- With none pending, none starts. -/
theorem EngU.nextClass_none (u : EngU) (h : ∀ j : Fin 3, u.pend[j] = none) : u.nextClass = none := by
  have hnil : u.pendings = [] := List.eq_nil_iff_forall_not_mem.2 fun x hx => by
    obtain ⟨k, r, hr, -⟩ := (u.mem_pendings x).1 hx
    rw [h k] at hr
    exact absurd hr (by simp)
  rw [EngU.nextClass_eq, hnil]
  rfl

/-! ### The working copy (R61, R190, R191) -/

/-- A data word after one was written. -/
theorem dataWord_setData (l : List (Nat × Word)) (a b : Nat) (v : Word) : dataWord (setData l a v) b = if b = a then v else dataWord l b := by
  unfold dataWord setData
  split
  · next h => rw [h, sparseFind_set_same]
  · next h => rw [sparseFind_set_ne h]

/-- The parameter window with the first `n` words of the shadow. -/
def paramWindow (s : State) (e n : Nat) (l : List (Nat × Word)) : List (Nat × Word) :=
  (List.range n).foldl (fun l n => setData l (448 + n) (s.rdw .PK_PARAM e n)) l

/-- A word of it: the shadow's where it has been copied. -/
theorem dataWord_paramWindow (s : State) (e n a : Nat) (l : List (Nat × Word)) :
    dataWord (paramWindow s e n l) a = if 448 ≤ a ∧ a < 448 + n then s.rdw .PK_PARAM e (a - 448) else dataWord l a := by
  induction n with
  | zero => rw [if_neg (by omega)]; rfl
  | succ n ih =>
    have hsucc : paramWindow s e (n + 1) l = setData (paramWindow s e n l) (448 + n) (s.rdw .PK_PARAM e n) := by
      unfold paramWindow
      rw [List.range_succ, List.foldl_append]
      rfl
    rw [hsucc, dataWord_setData, ih]
    by_cases ha : a = 448 + n
    · subst ha
      rw [if_pos rfl, if_pos ⟨by omega, by omega⟩, Nat.add_sub_cancel_left]
    · rw [if_neg ha]
      exact if_congr (by omega) rfl rfl

section Copies
variable (s : State) (e : Eng)

/-- The engine after a pending PARAMGO: its data words alone have changed, and of them the parameter window. -/
theorem State.paramCopy_eng : (s.paramCopy e.val).eng e.val =
    { s.eng e.val with data := if s.on PK_PARAMGO_GO e.val = true then paramWindow s e.val 64 (s.eng e.val).data else (s.eng e.val).data } := by
  unfold State.paramCopy
  split
  · rw [State.put_eng, State.eng_updEng_self]
    rfl
  · rfl

/-- GO has cleared. -/
theorem State.paramCopy_go : (s.paramCopy e.val).on PK_PARAMGO_GO e.val = false := by
  have hgo : EngReg .PK_PARAMGO 0 := by decide
  unfold State.paramCopy
  split
  · exact State.on_put _ PK_PARAMGO_GO _ _ _ (hgo.has e) (by decide)
  · next h => simpa using h

/-- Serving ramp generators changes the engine's data words alone, and none below the parameter window. -/
theorem State.rampOverride_eng : ∃ l, (s.rampOverride e.val).eng e.val = { s.eng e.val with data := l } ∧
    ∀ a < 448, dataWord l a = dataWord (s.eng e.val).data a := by
  unfold State.rampOverride
  split
  · exact ⟨_, rfl, fun _ _ => rfl⟩
  · unfold State.each
    induction List.range 24 generalizing s with
    | nil => exact ⟨_, rfl, fun _ _ => rfl⟩
    | cons r rs ih =>
      rw [List.foldl_cons]
      dsimp only
      split
      · obtain ⟨l, hl, hlow⟩ := ih _
        rw [State.eng_updEng_self] at hl hlow
        refine ⟨l, hl, fun a ha => (hlow a ha).trans ?_⟩
        rw [dataWord_setData, if_neg (by omega)]
      · exact ih s

/-- Without a generator of the cell it changes nothing. -/
theorem State.rampOverride_none (h : ∀ q : Fin 24, s.rampOn q.val (e.val / 2) = false) : s.rampOverride e.val = s := by
  have hrest : ∀ l : List Nat, (∀ r ∈ l, r < 24) → s.each l (fun s r =>
      let st := s.get RG_RSTAT_STATE r
      if s.rampOn r (e.val / 2) && (st == rampRun || st == rampHeld) then
        s.updEng e.val (fun u => { u with data := setData u.data (448 + s.get RG_RCTL_WORD r) (s.rdw .RG_RVAL r) })
      else s) = s := by
    intro l
    unfold State.each
    induction l with
    | nil => exact fun _ => rfl
    | cons r rs ih =>
      intro hl
      have hoff : s.rampOn r (e.val / 2) = false := h ⟨r, hl r List.mem_cons_self⟩
      rw [List.foldl_cons]
      dsimp only
      rw [hoff, Bool.false_and, if_neg Bool.false_ne_true]
      exact ih fun q hq => hl q (List.mem_cons_of_mem _ hq)
  unfold State.rampOverride
  split
  · rfl
  · exact hrest _ fun r hr => List.mem_range.1 hr

end Copies

/-! ### The start (R60, R64, R70) -/

/-- The invocation `v` of class `cls` that engine `e` starts for request `r` of program `p`, in a state `t` that comes of `s`. -/
structure State.Started (s t : State) (e : Eng) (cls : Nat) (r : Req) (p : PickProgram) (v : Inv) : Prop where
  run : (t.eng e.val).run = some v
  entry : v.cls = cls ∧ v.pc = p.entries.toList.getD cls 0 ∧ v.left = s.get PK_BUDGET_BUDGET e.val
  cause : v.g.toList = causeWord cls r (s.get PK_ICOUNT_ICOUNT e.val + 1) :: List.replicate 15 0
  cleared : v.a0 = 0 ∧ v.a1 = 0 ∧ v.n = false ∧ v.z = false ∧ v.sat = false ∧ v.dz = false ∧ v.nr = false ∧ v.loop = none
  latched : v.angs = r.angs ∧ v.merged = r.merged
  region : v.region = 8 * s.get PK_REGION_IY e.val + s.get PK_REGION_IX e.val
  opv : v.opv0 = s.rdw .PK_OPV e.val 0 ∧ v.opv1 = s.rdw .PK_OPV e.val 1
  committed : ∀ a : Fin 448, dataWord v.data a.val = dataWord (s.eng e.val).data a.val
  params : (∀ q : Fin 24, s.rampOn q.val (e.val / 2) = false) → ∀ n : Fin 64, dataWord v.data (448 + n.val) =
    if s.on PK_PARAMGO_GO e.val = true then s.rdw .PK_PARAM e.val n.val else dataWord (s.eng e.val).data (448 + n.val)
  go : t.on PK_PARAMGO_GO e.val = false
  busy : t.get PK_PSTAT_BUSY e.val = 1
  icount : t.get PK_ICOUNT_ICOUNT e.val = (s.get PK_ICOUNT_ICOUNT e.val + 1) % 2 ^ PK_ICOUNT_ICOUNT.width
  pend : (t.eng e.val).pend = if h : cls < 3 then (s.eng e.val).pend.set cls none else (s.eng e.val).pend

/-- The cause word shows the low half of ICOUNT. -/
theorem causeWord_mod (cls : Nat) (r : Req) (n : Nat) : causeWord cls r (n % 2 ^ PK_ICOUNT_ICOUNT.width) = causeWord cls r n := by
  unfold causeWord
  rw [Nat.mod_mod_of_dvd n (by decide : 65536 ∣ 2 ^ PK_ICOUNT_ICOUNT.width)]

section Start
variable (s : State) (e : Eng) (cls : Nat) (r : Req)

/-- The state that an invocation starts in: its copies made, ICOUNT counted, the region latched, BUSY. -/
def State.starting (s : State) (e : Nat) : State :=
  let u := ((s.paramCopy e).rampOverride e).bump PK_ICOUNT_ICOUNT e
  (u.put PK_REGION_REGION (8 * u.get PK_REGION_IY e + u.get PK_REGION_IX e) e).put PK_PSTAT_BUSY 1 e

/-- The registers of the copies. -/
theorem State.copied_changes : Evolves [.fresh, .pick, .reg .PK_PARAMGO] s ((s.paramCopy e.val).rampOverride e.val) :=
  State.rampOverride_evolves (State.paramCopy_evolves (.refl _ s) _ (by decide +kernel)) _ (by decide +kernel)

/-- The region that is latched is that of the selector. -/
theorem State.counted_region : (((s.paramCopy e.val).rampOverride e.val).bump PK_ICOUNT_ICOUNT e.val).get PK_REGION_IY e.val = s.get PK_REGION_IY e.val ∧
    (((s.paramCopy e.val).rampOverride e.val).bump PK_ICOUNT_ICOUNT e.val).get PK_REGION_IX e.val = s.get PK_REGION_IX e.val := by
  have hev : Evolves [.fresh, .pick, .reg .PK_PARAMGO, .reg .PK_ICOUNT] s (((s.paramCopy e.val).rampOverride e.val).bump PK_ICOUNT_ICOUNT e.val) :=
    State.bump_evolves ((State.copied_changes s e).mono (by decide +kernel)) _ _ _ _ (by decide +kernel)
  have hregion : EngReg .PK_REGION 0 := by decide
  exact ⟨hev.get (hregion.has e) (by decide), hev.get (hregion.has e) (by decide)⟩

/-- What changes up to there. -/
theorem State.starting_changes : Evolves [.fresh, .pick, .reg .PK_PARAMGO, .reg .PK_ICOUNT, .reg .PK_REGION, .reg .PK_PSTAT] s (s.starting e.val) :=
  State.put_evolves (State.put_evolves (State.bump_evolves ((State.copied_changes s e).mono (by decide +kernel)) _ _ _ _ (by decide +kernel))
    _ _ _ _ (by decide +kernel)) _ _ _ _ (by decide +kernel)

/-- What the state that an invocation starts in shows. -/
theorem State.starting_shows : (s.starting e.val).on PK_PARAMGO_GO e.val = false ∧ (s.starting e.val).get PK_PSTAT_BUSY e.val = 1 ∧
    (s.starting e.val).get PK_ICOUNT_ICOUNT e.val = (s.get PK_ICOUNT_ICOUNT e.val + 1) % 2 ^ PK_ICOUNT_ICOUNT.width := by
  have hgo : EngReg .PK_PARAMGO 0 := by decide
  have hicount : EngReg .PK_ICOUNT 0 := by decide
  have hcount : ((s.paramCopy e.val).rampOverride e.val).get PK_ICOUNT_ICOUNT e.val = s.get PK_ICOUNT_ICOUNT e.val :=
    (State.copied_changes s e).get (hicount.has e) (by decide)
  have hpending : Evolves [.fresh, .pick, .reg .PK_ICOUNT, .reg .PK_REGION, .reg .PK_PSTAT] (s.paramCopy e.val) (s.starting e.val) :=
    State.put_evolves (State.put_evolves (State.bump_evolves (State.rampOverride_evolves (.refl _ _) _ (by decide +kernel)) _ _ _ _ (by decide +kernel))
      _ _ _ _ (by decide +kernel)) _ _ _ _ (by decide +kernel)
  refine ⟨(hpending.on (f := PK_PARAMGO_GO) (hgo.has e) (by decide)).trans (State.paramCopy_go s e), State.get_put_eng _ _ _ _ (by decide), ?_⟩
  unfold State.starting State.bump
  dsimp only
  rw [State.get_put_eng_apart _ _ _ _ _ (by decide), State.get_put_eng_apart _ _ _ _ _ (by decide), State.get_put_eng _ _ _ _ (by decide), hcount]

/-- The engine in it: its data words are the working copy. -/
theorem State.starting_eng : ∃ l, (s.starting e.val).eng e.val = { s.eng e.val with data := l } ∧
    (∀ a : Fin 448, dataWord l a.val = dataWord (s.eng e.val).data a.val) ∧
    ((∀ q : Fin 24, s.rampOn q.val (e.val / 2) = false) → ∀ n : Fin 64, dataWord l (448 + n.val) =
      if s.on PK_PARAMGO_GO e.val = true then s.rdw .PK_PARAM e.val n.val else dataWord (s.eng e.val).data (448 + n.val)) := by
  have hcopy := State.paramCopy_eng s e
  have heng : (s.starting e.val).eng e.val = ((s.paramCopy e.val).rampOverride e.val).eng e.val := rfl
  obtain ⟨l, hl, hlow⟩ := State.rampOverride_eng (s.paramCopy e.val) e
  refine ⟨l, by rw [heng, hl, hcopy], fun a => ?_, fun hramps n => ?_⟩
  · rw [hlow a.val a.isLt, hcopy]
    split
    · rw [dataWord_paramWindow, if_neg (by omega)]
    · rfl
  · have hoff : ∀ q : Fin 24, (s.paramCopy e.val).rampOn q.val (e.val / 2) = false := fun q => by
      have hev : Evolves [.fresh, .pick, .reg .PK_PARAMGO] s (s.paramCopy e.val) := State.paramCopy_evolves (.refl _ s) _ (by decide +kernel)
      have hrctl : RegId.RG_RCTL.has q.val 0 = true := (RegId.has_iff _ _ _).2 ⟨Nat.zero_le _, q.isLt, Nat.one_pos⟩
      rw [← hramps q]
      unfold State.rampOn
      rw [hev.get (f := RG_RCTL_CELL) hrctl (by decide)]
    rw [State.rampOverride_none _ e hoff, hcopy] at hl
    have hdata : l = if s.on PK_PARAMGO_GO e.val = true then paramWindow s e.val 64 (s.eng e.val).data else (s.eng e.val).data :=
      (congrArg EngU.data hl).symm
    rw [hdata]
    split
    · rw [dataWord_paramWindow, if_pos (by omega), Nat.add_sub_cancel_left]
    · rfl

/-- The invocation as it starts, in the engine `u` of the state that it starts in. -/
def State.firstInv (s : State) (e cls : Nat) (r : Req) (p : PickProgram) (u : EngU) : Inv :=
  let s1 := ((s.paramCopy e).rampOverride e).bump PK_ICOUNT_ICOUNT e
  let s2 := s.starting e
  { cls := cls, left := s2.get PK_BUDGET_BUDGET e, pc := p.entries.toList.getD cls 0
    g := (Vector.replicate 16 0).set 0 (causeWord cls r (s2.get PK_ICOUNT_ICOUNT e))
    a0 := 0, a1 := 0, n := false, z := false, sat := false, dz := false, nr := false, merged := r.merged
    region := 8 * s1.get PK_REGION_IY e + s1.get PK_REGION_IX e
    angs := r.angs, single := false, loop := none, data := u.data, unseen := [], asked := (s2.port e).grants
    opv0 := s2.rdw .PK_OPV e 0, opv1 := s2.rdw .PK_OPV e 1
    ref := p.ref.map (fun k => ⟨k, .acquire, [], Vector.replicate 3 0, Vector.replicate 3 0, [], 0, false, u.mem⟩) }

/-- A start, step by step. -/
theorem State.startInv_eq {p : PickProgram} (hprog : (s.eng e.val).prog = some p) :
    s.startInv e.val cls r = (s.starting e.val).updEng e.val (fun u => { u with
      pend := if h : cls < 3 then u.pend.set cls none else u.pend
      run := some (s.firstInv e.val cls r p u) }) := by
  unfold State.startInv
  rw [hprog]
  rfl

/-- Without a program nothing starts. -/
theorem State.startInv_unloaded (hprog : (s.eng e.val).prog = none) : s.startInv e.val cls r = s := by
  unfold State.startInv
  rw [hprog]

/-- The start of an invocation of a loaded engine. -/
theorem State.startInv_started {p : PickProgram} (hprog : (s.eng e.val).prog = some p) :
    ∃ v, s.Started (s.startInv e.val cls r) e cls r p v := by
  have hev := State.starting_changes s e
  have hregs : EngReg .PK_BUDGET 0 ∧ EngReg .PK_OPV 0 ∧ EngReg .PK_OPV 1 := by decide
  obtain ⟨hbudget, hopv0, hopv1⟩ := hregs
  obtain ⟨hgo, hbusy, hicount⟩ := State.starting_shows s e
  obtain ⟨l, hl, hcommitted, hparams⟩ := State.starting_eng s e
  obtain ⟨hiy, hix⟩ := State.counted_region s e
  rw [State.startInv_eq s e cls r hprog]
  refine ⟨s.firstInv e.val cls r p ((s.starting e.val).eng e.val), ?_⟩
  constructor
  case run => rw [State.eng_updEng_self]
  case entry => exact ⟨rfl, rfl, hev.get (hbudget.has e) (by decide)⟩
  case cause =>
    rw [← causeWord_mod, ← hicount]
    rfl
  case cleared => exact ⟨rfl, rfl, rfl, rfl, rfl, rfl, rfl, rfl⟩
  case latched => exact ⟨rfl, rfl⟩
  case region =>
    rw [← hiy, ← hix]
    rfl
  case opv => exact ⟨hev.rdw (hopv0.has e) (by decide), hev.rdw (hopv1.has e) (by decide)⟩
  case committed =>
    rw [hl]
    exact hcommitted
  case params =>
    rw [hl]
    exact hparams
  case go => exact (congrArg (· != 0) (State.updEng_get _ _ _ PK_PARAMGO_GO _ _)).trans hgo
  case busy => rw [State.updEng_get, hbusy]
  case icount => rw [State.updEng_get, hicount]
  case pend => rw [State.eng_updEng_self, hl]

/-- The oldest pending request is the one that starts. -/
theorem State.startNext_oldest {k : Fin 3} (hr : (s.eng e.val).pend[k] = some r) (h : ∀ j : Fin 3, (s.eng e.val).pend[j].all
    (fun q => j == k || decide (r.since < q.since) || decide (r.since = q.since ∧ k < j)) = true) : s.startNext e.val = s.startInv e.val k.val r := by
  unfold State.startNext
  rw [EngU.nextClass_oldest _ k r hr h]
  dsimp only
  rw [EngU.pend_getD, hr]

/-- Without a program no request starts. -/
theorem State.startNext_unloaded (hprog : (s.eng e.val).prog = none) : s.startNext e.val = s := by
  unfold State.startNext
  split
  · rfl
  · split
    · exact State.startInv_unloaded s e _ _ hprog
    · rfl

end Start

/-- What the start of an invocation reads. -/
def startReads : List Part :=
  [.pick, .reg .PK_BUDGET, .reg .PK_ICOUNT, .reg .PK_REGION, .reg .PK_OPV, .reg .PK_PARAMGO, .reg .PK_PARAM, .reg .RG_RCTL]

namespace State.Started
variable {s t : State} {e : Eng} {cls : Nat} {r : Req} {p : PickProgram} {v : Inv} (h : s.Started t e cls r p v)
include h

/-- The engine runs it. -/
theorem invOf (u : Inv) : t.invOf e.val u = v := by
  unfold State.invOf
  rw [h.run, Option.getD_some]

/-- Its request pends no more, those of other classes do. -/
theorem pend_one {k : Fin 3} (hk : cls = k.val) : (t.eng e.val).pend[k] = none ∧
    ∀ j : Fin 3, j ≠ k → (t.eng e.val).pend[j] = (s.eng e.val).pend[j] := by
  subst hk
  rw [h.pend, dif_pos k.isLt]
  refine ⟨Vector.getElem_set_self _, fun j hj => Vector.getElem_set_ne _ _ fun heq => hj (Fin.ext heq.symm)⟩

/-- What the start of an invocation reads may have been read before what came first, if that left it. -/
theorem of_evolves {A : List Part} {s₀ : State} (hev : Evolves A s₀ s) (hA : ∀ q ∈ startReads, q ∉ A) : s₀.Started t e cls r p v := by
  have hregs : EngReg .PK_BUDGET 0 ∧ EngReg .PK_ICOUNT 0 ∧ EngReg .PK_REGION 0 ∧ EngReg .PK_PARAMGO 0 := by decide
  have hwords : EngReg .PK_OPV 0 ∧ EngReg .PK_OPV 1 := by decide
  have heng := hev.engU (hA _ (by decide)) e.val
  have hparams (n : Fin 64) : s.rdw .PK_PARAM e.val n.val = s₀.rdw .PK_PARAM e.val n.val :=
    hev.rdw ((RegId.has_iff _ _ _).2 ⟨Nat.zero_le _, e.isLt, n.isLt⟩) (hA _ (by decide))
  have hramps (q : Fin 24) : s.rampOn q.val (e.val / 2) = s₀.rampOn q.val (e.val / 2) := by
    unfold State.rampOn
    rw [hev.get (f := RG_RCTL_CELL) ((RegId.has_iff _ _ _).2 ⟨Nat.zero_le _, q.isLt, Nat.one_pos⟩) (hA _ (by decide))]
  have hcount : s.get PK_ICOUNT_ICOUNT e.val = s₀.get PK_ICOUNT_ICOUNT e.val := hev.get (hregs.2.1.has e) (hA _ (by decide))
  constructor
  case run => exact h.run
  case entry => rw [← hev.get (f := PK_BUDGET_BUDGET) (hregs.1.has e) (hA _ (by decide))]; exact h.entry
  case cause => rw [← hcount]; exact h.cause
  case cleared => exact h.cleared
  case latched => exact h.latched
  case region =>
    rw [← hev.get (f := PK_REGION_IY) (hregs.2.2.1.has e) (hA _ (by decide)), ← hev.get (f := PK_REGION_IX) (hregs.2.2.1.has e) (hA _ (by decide))]
    exact h.region
  case opv => rw [← hev.rdw (hwords.1.has e) (hA _ (by decide)), ← hev.rdw (hwords.2.has e) (hA _ (by decide))]; exact h.opv
  case committed => rw [← heng]; exact h.committed
  case params =>
    simp only [← heng, ← hparams, ← hramps, ← hev.on (f := PK_PARAMGO_GO) (hregs.2.2.2.has e) (hA _ (by decide))]
    exact h.params
  case go => exact h.go
  case busy => exact h.busy
  case icount => rw [← hcount]; exact h.icount
  case pend => rw [← heng]; exact h.pend

end State.Started

end Sys2Proof.Machine
end

section
/-! SUPPORT. Re-sync (R79): what a trip and an inhibit leave of its deadline, the state of a pair that re-syncs, and how a re-sync ends. -/

namespace Sys2Proof.Machine

/-! ### The deadline of a re-sync -/

section Deadline
variable (s : State) (e : Nat)

/-- When a re-sync ends is a matter of the deadlines alone. -/
@[simp] theorem State.put_deadline (f : Fld) (v i j : Nat) (u : Timer) : (s.put f v i j).deadline u = s.deadline u := rfl

@[simp] theorem State.orPut_deadline (f : Fld) (v i j : Nat) (u : Timer) : (s.orPut f v i j).deadline u = s.deadline u := rfl

@[simp] theorem State.bumpSat_deadline (f : Fld) (i j n : Nat) (u : Timer) : (s.bumpSat f i j n).deadline u = s.deadline u := rfl

@[simp] theorem State.updChan_deadline (c : Nat) (f : ChanU → ChanU) (u : Timer) : (s.updChan c f).deadline u = s.deadline u := by
  obtain ⟨p, hp⟩ := s.updChan_eq c f
  rw [hp]
  rfl

@[simp] theorem State.updBlk_deadline (b : Nat) (f : BlockU → BlockU) (u : Timer) : (s.updBlk b f).deadline u = s.deadline u := by
  obtain ⟨p, hp⟩ := s.updBlk_eq b f
  rw [hp]
  rfl

@[simp] theorem State.updDom_deadline (d : Nat) (f : DomU → DomU) (u : Timer) : (s.updDom d f).deadline u = s.deadline u :=
  (State.updDom_evolves (.refl _ s) d f (covers_self _)).deadline (by decide) u

/-- A fault of a block is raised, and its deadline is no group's. -/
@[simp] theorem State.raise_resync (src : Nat) : (s.raise src).deadline (.resync e) = s.deadline (.resync e) := s.raise_deadline src (by simp)

@[simp] theorem State.arm_resync {u : Timer} (h : Timer.resync e ≠ u) (d : Nat) : (s.arm u d).deadline (.resync e) = s.deadline (.resync e) :=
  s.deadline_arm_ne d h

@[simp] theorem State.disarm_resync {u : Timer} (h : Timer.resync e ≠ u) : (s.disarm u).deadline (.resync e) = s.deadline (.resync e) :=
  s.deadline_disarm_ne h

/-- The output gate leaves it. -/
@[simp] theorem State.setPin_resync (c : Nat) (hi v : Bool) : (s.setPin c hi v).deadline (.resync e) = s.deadline (.resync e) := by
  unfold State.setPin State.pinEdge State.updOut
  dsimp only
  repeat' split
  all_goals simp

@[simp] theorem State.unwait_resync (c : Nat) (hi : Bool) : (s.unwait c hi).deadline (.resync e) = s.deadline (.resync e) := by
  unfold State.unwait State.updOut
  simp

@[simp] theorem State.regateBlock_resync (b : Nat) : (s.regateBlock b).deadline (.resync e) = s.deadline (.resync e) := by
  refine State.each_keeps (fun t => t.deadline (.resync e)) _ State.regate (fun t c => ?_) s
  unfold State.regate
  repeat' split
  all_goals simp

/-- So does a coast. -/
@[simp] theorem State.coastPick_resync : s.coastPick.deadline (.resync e) = s.deadline (.resync e) := by
  have hsource : ∀ t : State, t.reevalSource.deadline (.resync e) = t.deadline (.resync e) := fun t =>
    (State.reevalSource_evolves (.refl _ t) (covers_self _)).deadline (by decide) _
  have hslots : ∀ (t : State) (l : List Nat), (t.each l State.armSlot).deadline (.resync e) = t.deadline (.resync e) := fun t l =>
    State.each_keeps (fun t => t.deadline (.resync e)) l _ (fun t k => (State.armSlot_evolves (.refl _ t) k (covers_self _)).deadline (by decide) _) t
  have hstate : ∀ (t : State) (d st : Nat), (t.setDomState d st).deadline (.resync e) = t.deadline (.resync e) := fun t d st => by
    unfold State.setDomState
    dsimp only
    rw [hsource]
    repeat' split
    all_goals simp [hslots]
  refine State.each_keeps (fun t => t.deadline (.resync e)) _ _ (fun t d => ?_) s
  unfold State.srcLost State.coast
  repeat' split
  all_goals simp [hstate]

/-- So does a trip. -/
@[simp] theorem State.tripBlock_resync (b : Nat) : (s.tripBlock b).deadline (.resync e) = s.deadline (.resync e) := by
  have hramps : ∀ t : State, (t.abortRamps b).deadline (.resync e) = t.deadline (.resync e) := fun t =>
    State.each_keeps (fun t => t.deadline (.resync e)) _ _ (fun t r => by dsimp only; split <;> simp) t
  unfold State.tripBlock
  dsimp only
  repeat' split
  all_goals simp [hramps]

/-- So does an inhibit. -/
theorem State.sf2Latch_resync (b : Nat) : (s.sf2Latch b).deadline (.resync e) = s.deadline (.resync e) := by
  have hstamp : ∀ t : State, t.fmStamp.deadline (.resync e) = t.deadline (.resync e) := fun t => by
    unfold State.fmStamp
    split <;> simp
  have hsend : ∀ (t : State) k m, (t.tripSend k m).deadline (.resync e) = t.deadline (.resync e) := fun t k m => by
    unfold State.tripSend
    generalize (if k = 2 then m else m &&& t.get UH_UTRIPCFG_TXMASK) = sent
    dsimp only
    split
    · exact (State.raise_resync _ e 897).trans (State.arm_resync _ e (by simp) us)
    · rfl
  have hsoft : ∀ t : State, (t.softStart b).deadline (.resync e) = t.deadline (.resync e) := fun t => by
    unfold State.softStart State.driveSoft
    split <;> simp
  have hdemand : (s.demand (1 + b)).deadline (.resync e) = s.deadline (.resync e) := rfl
  unfold State.sf2Latch State.pulseInhibit State.inhibitMore
  dsimp only
  repeat' split
  all_goals simp [hstamp, hsend, hsoft, hdemand]

end Deadline

/-! ### What the rules of a pair rest on -/

section Rests
variable {A : List Part} {s t : State} (h : Evolves A s t)
include h

/-- Whether a cell's pair is split rests on the option block. -/
theorem Evolves.pickSplit (hp : Part.reg .RS_OPTIMG ∉ A) (c : Cell) : t.pickSplit c.val = s.pickSplit c.val := by
  have hlt : (4 + c.val / 8) / 4 < 0 + 16 := by have := c.isLt; omega
  have hhas : RegId.RS_OPTIMG.has ((4 + c.val / 8) / 4) 0 = true := (RegId.has_iff _ _ _).2 ⟨Nat.zero_le _, hlt, Nat.one_pos⟩
  unfold State.pickSplit State.optByte
  rw [h.rdw hhas hp]

/-- Whether a unit is out of reset rests on RSTREL. -/
theorem Evolves.released (hp : Part.reg .RS_RSTREL ∉ A) (k : Nat) : t.released k = s.released k := by
  have hhas : RegId.RS_RSTREL.has 0 0 = true := by decide
  unfold State.released
  rw [h.rdw hhas hp]

/-- What decides whether an engine accepts requests. -/
def runsReads : List Part := [.reg .RS_OPTIMG, .reg .RS_RSTREL, .reg .PK_PCTL, .reg .BLK_BLKCELLS0, .reg .BLK_BLKCELLS1, .reg .BLK_BLKCTL]

/-- Whether it does rests on that. -/
theorem Evolves.pickRuns (hA : ∀ q ∈ runsReads, q ∉ A) (e : Eng) : t.pickRuns e.val = s.pickRuns e.val := by
  have hpctl : EngReg .PK_PCTL 0 := by decide
  have hsplit : t.pickSplit (e.val / 2) = s.pickSplit (e.val / 2) := h.pickSplit (hA _ (by decide)) (engCell e)
  unfold State.pickRuns State.engExists
  rw [h.released (hA _ (by decide)), h.on (f := PK_PCTL_LOADED) (hpctl.has e) (hA _ (by decide)), h.blockOf (hA _ (by decide)) (hA _ (by decide)),
    hsplit]
  cases hb : s.blockOf (e.val / 2) with
  | none => rfl
  | some b =>
    have hlt : b < 8 := List.mem_range.1 (List.mem_of_find?_eq_some hb)
    have hblk : t.blk b = s.blk b := h.get (f := BLK_BLKCTL_STATE) (RegId.has_of_lt hlt rfl Nat.one_pos) (hA _ (by decide))
    dsimp only
    rw [hblk]

end Rests

/-! ### The end of a re-sync (R79) -/

section Ends
variable (s : State) (e : Eng) {d : Nat}

/-- The state in which a re-sync's end finds the engine. -/
def State.resyncOver (s : State) (e d : Nat) : State := ((s.advanceTo d).disarm (.resync e)).put PK_PSTAT_RESYNC 0 e

/-- What has changed by then: time, and the end of the re-sync. -/
theorem State.resyncOver_changes : Evolves [.fresh, .timers, .now, .head, .plan, .drift, .reg .HF_TURN, .reg .SP_REMAIN0, .reg .PK_PSTAT] s
    (s.resyncOver e.val d) :=
  State.put_evolves (State.disarm_evolves (State.advanceTo_evolves (.refl _ s) _ (by decide +kernel)) _ (by decide +kernel)) _ _ _ _ (by decide +kernel)

/-- What it shows. -/
theorem State.resyncOver_shows : (s.resyncOver e.val d).get PK_PSTAT_RESYNC e.val = 0 ∧ (s.resyncOver e.val d).now = max s.now d ∧
    (s.resyncOver e.val d).armed (.resync e.val) = false :=
  ⟨State.get_put_eng _ _ _ _ (by decide), s.advanceTo_now d, State.armed_disarm _ _⟩

/-- The start of an invocation leaves that. -/
theorem State.startInv_leaves (cls : Nat) (r : Req) : (s.startInv e.val cls r).get PK_PSTAT_RESYNC e.val = s.get PK_PSTAT_RESYNC e.val ∧
    (s.startInv e.val cls r).now = s.now ∧ (s.startInv e.val cls r).armed (.resync e.val) = s.armed (.resync e.val) := by
  have hev : Evolves [.fresh, .pick, .reg .PK_PSTAT, .reg .PK_ICOUNT, .reg .PK_REGION, .reg .PK_PARAMGO] s (s.startInv e.val cls r) :=
    State.startInv_evolves (.refl _ s) _ _ _ (by decide +kernel)
  refine ⟨?_, hev.kept .now (by decide), congrArg Option.isSome (hev.deadline (by decide) _)⟩
  have hpstat : EngReg .PK_PSTAT 0 := by decide
  cases hprog : (s.eng e.val).prog with
  | none => rw [State.startInv_unloaded s e cls r hprog]
  | some p =>
    have hcounted : Evolves [.fresh, .pick, .reg .PK_PARAMGO, .reg .PK_ICOUNT] s (((s.paramCopy e.val).rampOverride e.val).bump PK_ICOUNT_ICOUNT e.val) :=
      State.bump_evolves ((State.copied_changes s e).mono (by decide +kernel)) _ _ _ _ (by decide +kernel)
    rw [State.startInv_eq s e cls r hprog, State.updEng_get]
    unfold State.starting
    dsimp only
    rw [State.get_put_eng_apart _ _ _ _ _ (by decide), State.get_put_eng_apart _ _ _ _ _ (by decide), hcounted.get (hpstat.has e) (by decide)]

/-- What the engine does as the re-sync ends with its copy restored. -/
def State.resyncGoesOn (s : State) (e : Nat) : State :=
  if !s.canStart e then s
  else if (s.eng e).nextClass.isSome then s.startNext e
  else s.startInv e clsResync ⟨s.now, false, 0, false, s.angles⟩

/-- The end of a re-sync. -/
theorem resync_ends (hd : s.deadline (.resync e.val) = some d) : exec (.resyncComplete e false) s = .next ((s.resyncOver e.val d).resyncGoesOn e.val) := by
  show execResyncComplete e false s = _
  unfold execResyncComplete State.onTimer
  dsimp only
  rw [hd]
  rfl

/-- An engine that cannot start, or has no program, stays as it is. -/
theorem State.resyncGoesOn_idle (h : (s.eng e.val).prog = none ∨ s.pickRuns e.val = false) : s.resyncGoesOn e.val = s := by
  unfold State.resyncGoesOn
  obtain hprog | hruns := h
  · rw [State.startNext_unloaded s e hprog, State.startInv_unloaded s e _ _ hprog]
    split
    · rfl
    · split <;> rfl
  · have hstop : s.canStart e.val = false := by
      unfold State.canStart
      rw [hruns, Bool.false_and, Bool.false_and, Bool.false_and]
    rw [hstop]
    rfl

/-- An idle engine that runs can start once the re-sync is over. -/
theorem State.resyncOver_canStart (hruns : s.pickRuns e.val = true) (hidle : (s.eng e.val).run = none) (hgood : (s.eng e.val).stopped = false) :
    (s.resyncOver e.val d).canStart e.val = true := by
  have hev := State.resyncOver_changes s e (d := d)
  have hresync : (s.resyncOver e.val d).on PK_PSTAT_RESYNC e.val = false := by
    unfold State.on
    rw [(State.resyncOver_shows s e).1]
    rfl
  unfold State.canStart
  rw [hev.pickRuns (by decide) e, hev.engU (by decide), hruns, hidle, hresync, hgood]
  rfl

/-- An invocation that starts at the end of a re-sync. -/
theorem State.resyncOver_started {cls : Nat} {r : Req} {p : PickProgram} (hprog : (s.eng e.val).prog = some p) :
    ∃ v, s.Started ((s.resyncOver e.val d).startInv e.val cls r) e cls r p v := by
  have hev := State.resyncOver_changes s e (d := d)
  obtain ⟨v, hv⟩ := State.startInv_started (s.resyncOver e.val d) e cls r (p := p) (by rw [hev.engU (by decide)]; exact hprog)
  exact ⟨v, hv.of_evolves hev (by decide)⟩

/-- What it shows of the re-sync. -/
theorem State.resyncOver_startInv (cls : Nat) (r : Req) :
    ((s.resyncOver e.val d).startInv e.val cls r).get PK_PSTAT_RESYNC e.val = 0 ∧
    ((s.resyncOver e.val d).startInv e.val cls r).now = max s.now d ∧
    ((s.resyncOver e.val d).startInv e.val cls r).armed (.resync e.val) = false := by
  obtain ⟨hresync, hnow, harmed⟩ := State.startInv_leaves (s.resyncOver e.val d) e cls r
  obtain ⟨hresync', hnow', harmed'⟩ := State.resyncOver_shows s e (d := d)
  exact ⟨hresync.trans hresync', hnow.trans hnow', harmed.trans harmed'⟩

end Ends

/-- R79: the end of a re-sync in an engine that starts nothing. -/
theorem resync_ends_idle (s : State) (e : Eng) (d : Nat) (hd : s.deadline (.resync e.val) = some d)
    (h : (s.eng e.val).prog = none ∨ s.pickRuns e.val = false) :
    ∃ t, exec (.resyncComplete e false) s = .next t ∧ t.get PK_PSTAT_RESYNC e.val = 0 ∧ t.now = max s.now d ∧ t.armed (.resync e.val) = false := by
  have hev := State.resyncOver_changes s e (d := d)
  have hstay : (s.resyncOver e.val d).resyncGoesOn e.val = s.resyncOver e.val d :=
    State.resyncGoesOn_idle _ e (by rw [hev.engU (by decide), hev.pickRuns (by decide)]; exact h)
  exact ⟨_, (resync_ends s e hd).trans (congrArg Host.Outcome.next hstay), State.resyncOver_shows s e⟩

/-- R79: the oldest pending request starts. -/
theorem resync_starts_oldest (s : State) (e : Eng) (d : Nat) (k : Fin 3) (r : Req) (p : PickProgram) (hd : s.deadline (.resync e.val) = some d)
    (hruns : s.pickRuns e.val = true) (hidle : (s.eng e.val).run = none) (hgood : (s.eng e.val).stopped = false) (hr : (s.eng e.val).pend[k] = some r)
    (hfirst : ∀ j : Fin 3, (s.eng e.val).pend[j].all (fun q => j == k || decide (r.since < q.since) || decide (r.since = q.since ∧ k < j)) = true)
    (hprog : (s.eng e.val).prog = some p) :
    ∃ t v, exec (.resyncComplete e false) s = .next t ∧
      (t.get PK_PSTAT_RESYNC e.val = 0 ∧ t.now = max s.now d ∧ t.armed (.resync e.val) = false) ∧ s.Started t e k.val r p v := by
  have heng := (State.resyncOver_changes s e (d := d)).engU (by decide) e.val
  obtain ⟨v, hv⟩ := State.resyncOver_started s e (d := d) (cls := k.val) (r := r) hprog
  have hgo : (s.resyncOver e.val d).resyncGoesOn e.val = (s.resyncOver e.val d).startInv e.val k.val r := by
    unfold State.resyncGoesOn
    rw [State.resyncOver_canStart s e hruns hidle hgood, heng, EngU.nextClass_oldest _ k r hr hfirst]
    exact State.startNext_oldest _ e r (by rw [heng]; exact hr) (by rw [heng]; exact hfirst)
  exact ⟨_, v, (resync_ends s e hd).trans (congrArg Host.Outcome.next hgo), State.resyncOver_startInv s e _ _, hv⟩

/-- R79: with none pending, a re-sync invocation starts. -/
theorem resync_starts_own (s : State) (e : Eng) (d : Nat) (p : PickProgram) (hd : s.deadline (.resync e.val) = some d)
    (hruns : s.pickRuns e.val = true) (hidle : (s.eng e.val).run = none) (hgood : (s.eng e.val).stopped = false)
    (hnone : ∀ j : Fin 3, (s.eng e.val).pend[j] = none) (hprog : (s.eng e.val).prog = some p) :
    ∃ t r v, exec (.resyncComplete e false) s = .next t ∧
      (t.get PK_PSTAT_RESYNC e.val = 0 ∧ t.now = max s.now d ∧ t.armed (.resync e.val) = false) ∧ s.Started t e 3 r p v := by
  have heng := (State.resyncOver_changes s e (d := d)).engU (by decide) e.val
  obtain ⟨v, hv⟩ := State.resyncOver_started s e (d := d) (cls := clsResync)
    (r := ⟨(s.resyncOver e.val d).now, false, 0, false, (s.resyncOver e.val d).angles⟩) hprog
  have hgo : (s.resyncOver e.val d).resyncGoesOn e.val = (s.resyncOver e.val d).startInv e.val clsResync
      ⟨(s.resyncOver e.val d).now, false, 0, false, (s.resyncOver e.val d).angles⟩ := by
    unfold State.resyncGoesOn
    rw [State.resyncOver_canStart s e hruns hidle hgood, heng, EngU.nextClass_none _ hnone]
    rfl
  exact ⟨_, _, v, (resync_ends s e hd).trans (congrArg Host.Outcome.next hgo), State.resyncOver_startInv s e _ _, hv⟩

end Sys2Proof.Machine
end

section
/-! SUPPORT. A mismatch, and a re-sync that fails (R59, R79). -/

namespace Sys2Proof.Machine

/-! ### An SF2 demand of a group shows (R317) -/

/-- A bit of a field is a bit of its value. -/
theorem State.bitOf_eq (s : State) (f : Fld) {k : Nat} (hk : k < 32) (i j : Nat) : s.bitOf f k i j = (s.get f i j).testBit k := by
  unfold State.bitOf bit
  rw [BitVec.getLsbD_ofNat, decide_eq_true hk, Bool.true_and]

/-- A bit that is set in a field reads 1. -/
theorem State.bitOf_orPut (s : State) (f : Fld) {k : Nat} (hk : k < f.width) (hw : f.lo + f.width ≤ 32) (i j : Nat) (h : f.reg.has i j = true) :
    (s.orPut f (2 ^ k) i j).bitOf f k i j = true := by
  have hget : (s.orPut f (2 ^ k) i j).get f i j = (s.get f i j ||| 2 ^ k) % 2 ^ f.width := State.get_put s f (s.get f i j ||| 2 ^ k) i j h hw
  rw [State.bitOf_eq _ _ (by omega), hget, Nat.testBit_mod_two_pow, decide_eq_true hk, Bool.true_and, Nat.testBit_or, Nat.testBit_two_pow_self,
    Bool.or_true]

/-- A group whose latch is set keeps it while nothing changes FSTAT. -/
theorem Evolves.sf2inh {A : List Part} {s t : State} (h : Evolves A s t) (hp : Part.reg .FM_FSTAT ∉ A) (b : Nat) :
    t.bitOf FM_FSTAT_SF2INH b = s.bitOf FM_FSTAT_SF2INH b := by
  have hhas : RegId.FM_FSTAT.has 0 0 = true := by decide
  unfold State.bitOf
  rw [h.get (f := FM_FSTAT_SF2INH) hhas hp]

/-- A demand on a group sets its latch, or it was set. -/
theorem State.sf2Latch_latches (s : State) (b : Block) : (s.sf2Latch b.val).bitOf FM_FSTAT_SF2INH b.val = true := by
  have hmore : ∀ t : State, (t.inhibitMore b.val).bitOf FM_FSTAT_SF2INH b.val = t.bitOf FM_FSTAT_SF2INH b.val := fun t =>
    (State.inhibitMore_evolves (.refl _ t) b.val (covers_self _)).sf2inh (by decide) _
  have hpulse : ∀ t : State, (t.pulseInhibit b.val).bitOf FM_FSTAT_SF2INH b.val = t.bitOf FM_FSTAT_SF2INH b.val := fun t =>
    (State.pulseInhibit_evolves (.refl _ t) b.val (covers_self _)).sf2inh (by decide) _
  have hlatched : ∀ t : State, (((t.orPut FM_FSTAT_SF2INH (2 ^ b.val)).raise 961).tripSend 1 (2 ^ b.val)).bitOf FM_FSTAT_SF2INH b.val = true := fun t => by
    have hev : Evolves ([Part.uhla] ++ raiseParts) (t.orPut FM_FSTAT_SF2INH (2 ^ b.val))
        (((t.orPut FM_FSTAT_SF2INH (2 ^ b.val)).raise 961).tripSend 1 (2 ^ b.val)) :=
      State.tripSend_evolves (State.raise_evolves (.refl _ _) _ (by decide +kernel)) _ _ (by decide +kernel)
    rw [hev.sf2inh (by decide)]
    exact State.bitOf_orPut t FM_FSTAT_SF2INH b.isLt (by decide) 0 0 (by decide)
  unfold State.sf2Latch
  dsimp only
  split
  · next hset => rw [hmore, hset]
  · split
    · rw [hmore, hlatched]
    · rw [hpulse, hlatched]

/-! ### A re-sync that fails -/

section Failed
variable (s : State) (e : Eng)

/-- The engine stays stopped, its copy lost. -/
def State.resyncGone (s : State) (e : Nat) : State :=
  (((s.updEng e (fun u => { u with stopped := true })).put PK_PSTAT_RESYNC 0 e).put PK_PSTAT_ECC_UNCORR 1 e).disarm (.resync e)

/-- What that changes. -/
theorem State.resyncGone_changes : Evolves [.fresh, .pick, .timers, .reg .PK_PSTAT] s (s.resyncGone e.val) :=
  State.disarm_evolves (State.put_evolves (State.put_evolves (State.updEng_evolves (.refl _ s) _ _ (by decide +kernel)) _ _ _ _ (by decide +kernel))
    _ _ _ _ (by decide +kernel)) _ (by decide +kernel)

/-- What it shows. -/
theorem State.resyncGone_shows : (s.resyncGone e.val).get PK_PSTAT_RESYNC e.val = 0 ∧ (s.resyncGone e.val).get PK_PSTAT_ECC_UNCORR e.val = 1 ∧
    (s.resyncGone e.val).get PK_PSTAT_MISMATCH e.val = s.get PK_PSTAT_MISMATCH e.val ∧ ((s.resyncGone e.val).eng e.val).stopped = true := by
  refine ⟨?_, State.get_put_eng _ _ _ _ (by decide), ?_, ?_⟩
  · exact (State.get_put_eng_apart _ _ _ _ _ (by decide)).trans (State.get_put_eng _ _ _ _ (by decide))
  · exact (State.get_put_eng_apart _ _ _ _ _ (by decide)).trans
      ((State.get_put_eng_apart _ _ _ _ _ (by decide)).trans (State.updEng_get _ _ _ _ _ _))
  · exact congrArg EngU.stopped (State.eng_updEng_self s e _)

/-- The fault of a lock-step pair inhibits its block. -/
def State.pairInhibit (s : State) (e : Nat) : State :=
  match s.blockOf (e / 2) with
  | some b => s.sf2Latch b
  | none => s

/-- A failed re-sync of a split engine, and of a lock-step pair. -/
theorem State.resyncFailed_eq : s.resyncFailed e.val = if s.pickSplit (e.val / 2) = true then ((s.resyncGone e.val).put PK_PSTAT_HALTED 1 e.val).pickFault e.val
    else ((s.resyncGone e.val).pickFault e.val).pairInhibit e.val := by
  have hsplit : (s.resyncGone e.val).pickSplit (e.val / 2) = s.pickSplit (e.val / 2) := (State.resyncGone_changes s e).pickSplit (by decide) (engCell e)
  rw [← hsplit]
  rfl

/-- The inhibit of a pair's block changes what an SF2 demand does. -/
theorem State.pairInhibit_changes : Evolves sf2Parts s (s.pairInhibit e.val) := by
  unfold State.pairInhibit
  split
  · exact State.sf2Latch_evolves (.refl _ s) _ (covers_self _)
  · exact .refl _ s

/-- It leaves the re-sync's deadline. -/
theorem State.pairInhibit_resync : (s.pairInhibit e.val).deadline (.resync e.val) = s.deadline (.resync e.val) := by
  unfold State.pairInhibit
  split
  · exact State.sf2Latch_resync s e.val _
  · rfl

/-- The block's latch is set. -/
theorem State.pairInhibit_latches : (s.blockOf (e.val / 2)).all (fun b => (s.pairInhibit e.val).bitOf FM_FSTAT_SF2INH b) = true := by
  unfold State.pairInhibit
  split
  · next b hb =>
    rw [hb]
    exact State.sf2Latch_latches s ⟨b, List.mem_range.1 (List.mem_of_find?_eq_some hb)⟩
  · next hb => rw [hb]; rfl

/-- The Pick fault leaves the re-sync's deadline. -/
theorem State.pickFault_resync : (s.pickFault e.val).deadline (.resync e.val) = s.deadline (.resync e.val) := by
  unfold State.pickFault
  split
  · exact State.raise_resync s e.val _
  · rfl

/-- What comes after the engine has stopped leaves what that shows. -/
theorem State.resyncFailed_after : ∃ w, (w = s.resyncGone e.val ∨ w = (s.resyncGone e.val).put PK_PSTAT_HALTED 1 e.val) ∧
    Evolves sf2Parts w (s.resyncFailed e.val) ∧ (s.resyncFailed e.val).deadline (.resync e.val) = w.deadline (.resync e.val) := by
  rw [State.resyncFailed_eq]
  split
  · exact ⟨_, .inr rfl, State.pickFault_evolves (.refl _ _) _ (by decide +kernel), State.pickFault_resync _ e⟩
  · have hfault : Evolves sf2Parts (s.resyncGone e.val) ((s.resyncGone e.val).pickFault e.val) := State.pickFault_evolves (.refl _ _) _ (by decide +kernel)
    exact ⟨_, .inl rfl, hfault.step (State.pairInhibit_changes _ e) (covers_self _), (State.pairInhibit_resync _ e).trans (State.pickFault_resync _ e)⟩

/-- A failed re-sync, split or not. -/
theorem State.resyncFailed_shows : (s.resyncFailed e.val).get PK_PSTAT_RESYNC e.val = 0 ∧ (s.resyncFailed e.val).get PK_PSTAT_ECC_UNCORR e.val = 1 ∧
    (s.resyncFailed e.val).get PK_PSTAT_MISMATCH e.val = s.get PK_PSTAT_MISMATCH e.val ∧ ((s.resyncFailed e.val).eng e.val).stopped = true ∧
    (s.resyncFailed e.val).armed (.resync e.val) = false ∧ (s.resyncFailed e.val).now = s.now := by
  have hpstat : RegId.PK_PSTAT.has e.val 0 = true := (by decide : EngReg .PK_PSTAT 0).has e
  obtain ⟨hresync, hecc, hmismatch, hstopped⟩ := State.resyncGone_shows s e
  have harmed : (s.resyncGone e.val).armed (.resync e.val) = false := State.armed_disarm _ _
  obtain ⟨w, hw, hev, hdeadline⟩ := State.resyncFailed_after s e
  have hkept : ∀ g : Fld, EngReg g.reg 0 ∧ PK_PSTAT_HALTED.Apart g → w.get g e.val = (s.resyncGone e.val).get g e.val := by
    obtain rfl | rfl := hw
    · exact fun _ _ => rfl
    · exact fun g hg => State.get_put_eng_apart _ _ _ _ _ hg
  have hgone : (s.resyncGone e.val).now = s.now := (State.resyncGone_changes s e).kept .now (by decide)
  have hrest : (w.eng e.val).stopped = true ∧ w.deadline (.resync e.val) = (s.resyncGone e.val).deadline (.resync e.val) ∧ w.now = s.now := by
    obtain rfl | rfl := hw
    · exact ⟨hstopped, rfl, hgone⟩
    · exact ⟨hstopped, rfl, hgone⟩
  obtain ⟨hstopped', hdeadline', hnow⟩ := hrest
  refine ⟨?_, ?_, ?_, ?_, ?_, (hev.kept .now (by decide)).trans hnow⟩
  · rw [hev.get hpstat (by decide), hkept _ (by decide), hresync]
  · rw [hev.get hpstat (by decide), hkept _ (by decide), hecc]
  · rw [hev.get hpstat (by decide), hkept _ (by decide), hmismatch]
  · rw [hev.engU (by decide), hstopped']
  · rw [State.armed, hdeadline, hdeadline']
    exact harmed

/-- A split engine halts. -/
theorem State.resyncFailed_halts (h : s.pickSplit (e.val / 2) = true) : (s.resyncFailed e.val).get PK_PSTAT_HALTED e.val = 1 := by
  have hpstat : RegId.PK_PSTAT.has e.val 0 = true := (by decide : EngReg .PK_PSTAT 0).has e
  have hfault : Evolves raiseParts ((s.resyncGone e.val).put PK_PSTAT_HALTED 1 e.val) (((s.resyncGone e.val).put PK_PSTAT_HALTED 1 e.val).pickFault e.val) :=
    State.pickFault_evolves (.refl _ _) _ (covers_self _)
  rw [State.resyncFailed_eq, if_pos h, hfault.get hpstat (by decide)]
  exact State.get_put_eng _ _ _ _ (by decide)

/-- The block of a lock-step pair is inhibited. -/
theorem State.resyncFailed_inhibits (h : s.pickSplit (e.val / 2) = false) :
    (s.blockOf (e.val / 2)).all (fun b => (s.resyncFailed e.val).bitOf FM_FSTAT_SF2INH b) = true := by
  have hev : Evolves ([.fresh, .pick, .timers, .reg .PK_PSTAT] ++ raiseParts) s ((s.resyncGone e.val).pickFault e.val) :=
    State.pickFault_evolves ((State.resyncGone_changes s e).mono (by decide +kernel)) _ (by decide +kernel)
  rw [State.resyncFailed_eq, if_neg (by rw [h]; exact Bool.false_ne_true), ← hev.blockOf (by decide) (by decide)]
  exact State.pairInhibit_latches _ e

end Failed

/-- R79: the end of a re-sync whose copy could not be restored. -/
theorem resync_ends_bad (s : State) (e : Eng) (d : Nat) (hd : s.deadline (.resync e.val) = some d) :
    ∃ t, exec (.resyncComplete e true) s = .next t ∧
      t.get PK_PSTAT_RESYNC e.val = 0 ∧
      t.now = max s.now d ∧
      t.armed (.resync e.val) = false ∧
      t.get PK_PSTAT_ECC_UNCORR e.val = 1 ∧
      (t.eng e.val).stopped = true ∧
      (s.pickSplit (e.val / 2) = true → t.get PK_PSTAT_HALTED e.val = 1) ∧
      (s.pickSplit (e.val / 2) = false → (s.blockOf (e.val / 2)).all (fun b => t.bitOf FM_FSTAT_SF2INH b) = true) := by
  have hexec : exec (.resyncComplete e true) s = .next (((s.advanceTo d).disarm (.resync e.val)).resyncFailed e.val) := by
    show execResyncComplete e true s = _
    unfold execResyncComplete State.onTimer
    dsimp only
    rw [hd]
    rfl
  have hev : Evolves onTimerParts s ((s.advanceTo d).disarm (.resync e.val)) :=
    State.disarm_evolves (State.advanceTo_evolves (.refl _ s) _ (by decide +kernel)) _ (by decide +kernel)
  have hsplit : ((s.advanceTo d).disarm (.resync e.val)).pickSplit (e.val / 2) = s.pickSplit (e.val / 2) := hev.pickSplit (by decide) (engCell e)
  obtain ⟨hresync, hecc, -, hstopped, harmed, hnow⟩ := State.resyncFailed_shows ((s.advanceTo d).disarm (.resync e.val)) e
  refine ⟨_, hexec, hresync, hnow.trans (s.advanceTo_now d), harmed, hecc, hstopped, fun h => State.resyncFailed_halts _ e (hsplit.trans h), fun h => ?_⟩
  rw [← hev.blockOf (by decide) (by decide)]
  exact State.resyncFailed_inhibits _ e (hsplit.trans h)

/-! ### A mismatch (R59, R79) -/

section Mismatch
variable (s : State) (e : Eng)

/-- The invocation is dropped, the mismatch and the re-sync show. -/
def State.resyncShown (s : State) (e : Nat) (ecc : Bool) : State :=
  let s1 := ((s.dropInv e).put PK_PSTAT_MISMATCH 1 e).put PK_PSTAT_RESYNC 1 e
  if ecc then s1.put PK_PSTAT_ECC_UNCORR 1 e else s1

/-- The cell's duty is held, its running ramp generators show the re-sync. -/
def State.resyncHeld (s : State) (e : Nat) : State :=
  (s.holdDuty (e / 2)).each (List.range 24) (fun s r =>
    if s.rampOn r (e / 2) && s.get RG_RSTAT_STATE r == rampRun && e % 2 == 0 then s.put RG_RSTAT_RESYNC_SEEN 1 r else s)

/-- A re-sync of `n` ticks begins. -/
def State.resyncBegun (s : State) (e : Nat) (ecc : Bool) (n : Nat) : State :=
  ((((s.resyncShown e ecc).resyncHeld e).pickFault e).arm (.resync e) n).coastPick

/-- What shows of it. -/
theorem State.resyncShown_shows (ecc : Bool) : (s.resyncShown e.val ecc).get PK_PSTAT_RESYNC e.val = 1 ∧
    (s.resyncShown e.val ecc).get PK_PSTAT_MISMATCH e.val = 1 ∧ (s.resyncShown e.val ecc).get PK_PSTAT_BUSY e.val = 0 ∧
    (ecc = true → (s.resyncShown e.val ecc).get PK_PSTAT_ECC_UNCORR e.val = 1) ∧
    (s.resyncShown e.val ecc).eng e.val = { s.eng e.val with run := none } := by
  have hrest : ∀ f : Fld, EngReg f.reg 0 ∧ PK_PSTAT_ECC_UNCORR.Apart f →
      (s.resyncShown e.val ecc).get f e.val = (((s.dropInv e.val).put PK_PSTAT_MISMATCH 1 e.val).put PK_PSTAT_RESYNC 1 e.val).get f e.val := fun f hf => by
    unfold State.resyncShown
    dsimp only
    split
    · exact State.get_put_eng_apart _ _ _ _ _ hf
    · rfl
  refine ⟨?_, ?_, ?_, fun hecc => ?_, ?_⟩
  · rw [hrest _ (by decide), State.get_put_eng _ _ _ _ (by decide)]
    rfl
  · rw [hrest _ (by decide), State.get_put_eng_apart _ _ _ _ _ (by decide), State.get_put_eng _ _ _ _ (by decide)]
    rfl
  · rw [hrest _ (by decide), State.get_put_eng_apart _ _ _ _ _ (by decide), State.get_put_eng_apart _ _ _ _ _ (by decide), State.dropInv_busy]
  · subst hecc
    exact State.get_put_eng _ _ _ _ (by decide)
  · rw [← State.dropInv_eng]
    unfold State.resyncShown
    split <;> rfl

/-- What showing it changes. -/
theorem State.resyncShown_changes (ecc : Bool) : Evolves [.fresh, .pick, .reg .PK_PSTAT] s (s.resyncShown e.val ecc) := by
  have hev : Evolves [.fresh, .pick, .reg .PK_PSTAT] s (((s.dropInv e.val).put PK_PSTAT_MISMATCH 1 e.val).put PK_PSTAT_RESYNC 1 e.val) :=
    State.put_evolves (State.put_evolves (State.dropInv_evolves (.refl _ s) _ (by decide +kernel)) _ _ _ _ (by decide +kernel)) _ _ _ _
      (by decide +kernel)
  exact ite_evolves (State.put_evolves hev _ _ _ _ (by decide +kernel)) hev

/-- What holding the duty and the ramps changes. -/
theorem State.resyncHeld_changes : Evolves [.fresh, .power, .reg .PW_ACTCMP, .reg .RG_RSTAT] s (s.resyncHeld e.val) :=
  State.each_evolves (State.holdDuty_evolves (.refl _ s) _ (by decide +kernel)) _ _ fun _ _ ht =>
    ite_evolves (State.put_evolves ht _ _ _ _ (by decide +kernel)) ht

/-- What changes after a re-sync shows. -/
def resyncBeginParts : List Part := [.power, .reg .PW_ACTCMP, .reg .RG_RSTAT] ++ raiseParts ++ coastParts

/-- The re-sync begins with what shows. -/
theorem State.resyncBegun_changes (ecc : Bool) (n : Nat) : Evolves resyncBeginParts (s.resyncShown e.val ecc) (s.resyncBegun e.val ecc n) :=
  State.coastPick_evolves (State.arm_evolves (State.pickFault_evolves ((State.resyncHeld_changes _ e).mono (by decide +kernel)) _ (by decide +kernel))
    _ _ (by decide +kernel)) (by decide +kernel)

/-- Its end is armed. -/
theorem State.resyncBegun_deadline (ecc : Bool) (n : Nat) : (s.resyncBegun e.val ecc n).deadline (.resync e.val) = some (s.now + n) := by
  have hfault : Evolves raiseParts ((s.resyncShown e.val ecc).resyncHeld e.val) (((s.resyncShown e.val ecc).resyncHeld e.val).pickFault e.val) :=
    State.pickFault_evolves (.refl _ _) _ (covers_self _)
  have hnow : (((s.resyncShown e.val ecc).resyncHeld e.val).pickFault e.val).now = s.now :=
    (hfault.kept .now (by decide)).trans (((State.resyncHeld_changes _ e).kept .now (by decide)).trans
      ((State.resyncShown_changes s e ecc).kept .now (by decide)))
  unfold State.resyncBegun
  rw [State.coastPick_resync, State.deadline_arm, hnow]

/-- A source that goes to a slice and is raised stays so while neither PEND nor its SRCCFG changes. -/
theorem Evolves.raised {A : List Part} {s t : State} (h : Evolves A s t) (hpend : Part.reg .IC_PEND ∉ A) (hcfg : Part.reg .IC_SRCCFG ∉ A) {src : Nat}
    (hs : src < 1024) (hrouted : s.routed src = true) (hraised : s.raised src = true) : t.raised src = true := by
  have htarget : s.get IC_SRCCFG_TARGET src ≤ 16 := by simpa [State.routed] using hrouted
  unfold State.raised
  rw [h.get (f := IC_SRCCFG_TARGET) (srccfg_has_of_lt hs) hcfg]
  exact h.pendingStays hpend _ _ (by omega) hs hraised

/-- The block's Pick fault is raised where a slice takes it. -/
theorem State.resyncBegun_raises (ecc : Bool) (n : Nat) :
    (s.blockOf (e.val / 2)).all (fun b => !s.routed (112 + b) || (s.resyncBegun e.val ecc n).raised (112 + b)) = true := by
  have hheld : Evolves [.fresh, .pick, .power, .reg .PK_PSTAT, .reg .PW_ACTCMP, .reg .RG_RSTAT] s ((s.resyncShown e.val ecc).resyncHeld e.val) :=
    ((State.resyncShown_changes s e ecc).mono (by decide +kernel)).step (State.resyncHeld_changes _ e) (by decide +kernel)
  cases hb : s.blockOf (e.val / 2) with
  | none => rfl
  | some b =>
    have hlt : b < 8 := List.mem_range.1 (List.mem_of_find?_eq_some hb)
    rw [Option.all_some]
    cases hrouted : s.routed (112 + b) with
    | false => rfl
    | true =>
      have hrouted' := (hheld.routed (by decide) (by omega)).trans hrouted
      have hraised := State.pickFault_raised _ e ((hheld.blockOf (by decide) (by decide) _).trans hb) hrouted'
      have hfault : Evolves raiseParts ((s.resyncShown e.val ecc).resyncHeld e.val) (((s.resyncShown e.val ecc).resyncHeld e.val).pickFault e.val) :=
        State.pickFault_evolves (.refl _ _) _ (covers_self _)
      have hcoast : Evolves coastParts (((s.resyncShown e.val ecc).resyncHeld e.val).pickFault e.val) (s.resyncBegun e.val ecc n) :=
        State.coastPick_evolves (State.arm_evolves (.refl _ _) _ _ (by decide +kernel)) (covers_self _)
      rw [Bool.not_true, Bool.false_or]
      exact hcoast.raised (by decide) (by decide) (by omega) ((hfault.routed (by decide) (by omega)).trans hrouted') hraised

/-- A cell whose engine re-syncs delivers nothing. -/
theorem State.deliveriesHeld_of_resync (hexists : s.engExists e.val = true) (h : s.on PK_PSTAT_RESYNC e.val = true) :
    s.deliveriesHeld (e.val / 2) = true := by
  unfold State.deliveriesHeld
  unfold State.engExists at hexists
  rcases Nat.mod_two_eq_zero_or_one e.val with heven | hodd
  · rw [show 2 * (e.val / 2) = e.val by omega, h, Bool.true_or]
  · have hsplit : s.pickSplit (e.val / 2) = true := by simpa [hodd] using hexists
    rw [show 2 * (e.val / 2) + 1 = e.val by omega, hsplit, if_pos rfl, h, Bool.or_true]

/-- A re-sync that begins. -/
theorem State.resyncBegun_shows (hexists : s.engExists e.val = true) (ecc : Bool) (n : Nat) :
    (s.resyncBegun e.val ecc n).get PK_PSTAT_RESYNC e.val = 1 ∧
    (s.resyncBegun e.val ecc n).get PK_PSTAT_MISMATCH e.val = 1 ∧
    ((s.resyncBegun e.val ecc n).eng e.val).run = none ∧
    (s.resyncBegun e.val ecc n).get PK_PSTAT_BUSY e.val = 0 ∧
    ((s.resyncBegun e.val ecc n).eng e.val).data = (s.eng e.val).data ∧
    (ecc = true → (s.resyncBegun e.val ecc n).get PK_PSTAT_ECC_UNCORR e.val = 1) ∧
    (s.blockOf (e.val / 2)).all (fun b => !s.routed (112 + b) || (s.resyncBegun e.val ecc n).raised (112 + b)) = true ∧
    (s.resyncBegun e.val ecc n).deliveriesHeld (e.val / 2) = true ∧
    (s.resyncBegun e.val ecc n).deadline (.resync e.val) = some (s.now + n) := by
  have hpstat : RegId.PK_PSTAT.has e.val 0 = true := (by decide : EngReg .PK_PSTAT 0).has e
  have hev := State.resyncBegun_changes s e ecc n
  have hall : Evolves ([.pick, .reg .PK_PSTAT] ++ resyncBeginParts) s (s.resyncBegun e.val ecc n) :=
    ((State.resyncShown_changes s e ecc).mono (by decide +kernel)).step hev (by decide +kernel)
  obtain ⟨hresync, hmismatch, hbusy, hecc, heng⟩ := State.resyncShown_shows s e ecc
  have hresync' : (s.resyncBegun e.val ecc n).get PK_PSTAT_RESYNC e.val = 1 := (hev.get hpstat (by decide)).trans hresync
  have hsplit : (s.resyncBegun e.val ecc n).pickSplit (e.val / 2) = s.pickSplit (e.val / 2) := hall.pickSplit (by decide) (engCell e)
  refine ⟨hresync', (hev.get hpstat (by decide)).trans hmismatch, ?_, (hev.get hpstat (by decide)).trans hbusy, ?_,
    fun h => (hev.get hpstat (by decide)).trans (hecc h), State.resyncBegun_raises s e ecc n, State.deliveriesHeld_of_resync _ e ?_ ?_,
    State.resyncBegun_deadline s e ecc n⟩
  · rw [hev.engU (by decide), heng]
  · rw [hev.engU (by decide), heng]
  · unfold State.engExists
    rw [hsplit]
    exact hexists
  · unfold State.on
    rw [hresync']
    rfl

end Mismatch

section Errors
variable (s : State) (e : Eng) (cause : Fin 3) (hexists : s.engExists e.val = true) (hreleased : s.released uPick = true)
  (hgood : (s.eng e.val).stopped = false)
include hexists hreleased hgood

/-- A corrected error (R59). -/
theorem corrected_error : exec (.pairMismatch e 2) s = .next (s.put PK_PSTAT_ECC_CORR 1 e.val) := by
  show execPairMismatch e 2 s = _
  unfold execPairMismatch
  dsimp only
  rw [hexists, hreleased, hgood]
  simp

variable (hcause : cause ≠ 2) (hlanes : (s.pickSplit (e.val / 2) && cause == 0) = false)
include hcause hlanes

/-- A mismatch or an uncorrectable error outside a re-sync begins one. -/
theorem mismatch_begins (hresync : s.on PK_PSTAT_RESYNC e.val = false) :
    exec (.pairMismatch e cause) s = .next (s.resyncBegun e.val (cause == 1) (s.resyncTicks e.val)) := by
  show execPairMismatch e cause s = _
  unfold execPairMismatch
  dsimp only
  rw [hexists, hreleased, hgood, hlanes, hresync, if_neg (by decide), if_neg hcause, if_neg Bool.false_ne_true]
  rfl

/-- During one it is final. -/
theorem mismatch_is_final (hresync : s.on PK_PSTAT_RESYNC e.val = true) :
    exec (.pairMismatch e cause) s = .next ((s.put PK_PSTAT_MISMATCH 1 e.val).resyncFailed e.val) := by
  show execPairMismatch e cause s = _
  unfold execPairMismatch
  dsimp only
  rw [hexists, hreleased, hgood, hlanes, hresync, if_neg (by decide), if_neg hcause, if_pos rfl]

end Errors

/-- The final fault shows the mismatch too. -/
theorem State.final_shows (s : State) (e : Eng) :
    ((s.put PK_PSTAT_MISMATCH 1 e.val).resyncFailed e.val).get PK_PSTAT_RESYNC e.val = 0 ∧
    ((s.put PK_PSTAT_MISMATCH 1 e.val).resyncFailed e.val).get PK_PSTAT_ECC_UNCORR e.val = 1 ∧
    ((s.put PK_PSTAT_MISMATCH 1 e.val).resyncFailed e.val).get PK_PSTAT_MISMATCH e.val = 1 ∧
    (((s.put PK_PSTAT_MISMATCH 1 e.val).resyncFailed e.val).eng e.val).stopped = true ∧
    ((s.put PK_PSTAT_MISMATCH 1 e.val).resyncFailed e.val).armed (.resync e.val) = false := by
  obtain ⟨hresync, hecc, hmismatch, hstopped, harmed, -⟩ := State.resyncFailed_shows (s.put PK_PSTAT_MISMATCH 1 e.val) e
  exact ⟨hresync, hecc, hmismatch.trans (State.get_put_eng _ _ _ _ (by decide)), hstopped, harmed⟩

/-- A split engine halts, the block of a lock-step pair is inhibited. -/
theorem State.final_stops (s : State) (e : Eng) :
    (s.pickSplit (e.val / 2) = true → ((s.put PK_PSTAT_MISMATCH 1 e.val).resyncFailed e.val).get PK_PSTAT_HALTED e.val = 1) ∧
    (s.pickSplit (e.val / 2) = false →
      (s.blockOf (e.val / 2)).all (fun b => ((s.put PK_PSTAT_MISMATCH 1 e.val).resyncFailed e.val).bitOf FM_FSTAT_SF2INH b) = true) := by
  have hev : Evolves [.fresh, .reg .PK_PSTAT] s (s.put PK_PSTAT_MISMATCH 1 e.val) := State.put_evolves (.refl _ s) _ _ _ _ (by decide +kernel)
  have hsplit : (s.put PK_PSTAT_MISMATCH 1 e.val).pickSplit (e.val / 2) = s.pickSplit (e.val / 2) := hev.pickSplit (by decide) (engCell e)
  refine ⟨fun h => State.resyncFailed_halts _ e (hsplit.trans h), fun h => ?_⟩
  rw [← hev.blockOf (by decide) (by decide)]
  exact State.resyncFailed_inhibits _ e (hsplit.trans h)

/-- Settles O28: a mismatch begins a re-sync or ends one for good; a re-sync that ends goes on as the start of an invocation does. -/
theorem pickPairsResync : Obligations.PickPairsResync := by
  refine ⟨fun s e cause hexists hreleased hgood hcause hsplit hresync => ?_, fun s e hexists hreleased hgood hsplit hresync => ?_,
    fun s e hexists hreleased hgood => ⟨_, corrected_error s e hexists hreleased hgood, rfl⟩,
    fun s e cause hexists hreleased hgood hcause hsplit hresync => ?_, fun s e hexists hreleased hgood hsplit hresync => ?_,
    resync_ends_idle, fun s e d k r p v0 hd hruns hidle hgood hr hfirst hprog => ?_, fun s e d p v0 hd hruns hidle hgood hnone hprog => ?_,
    resync_ends_bad⟩
  · have hticks : s.resyncTicks e.val = 6200 := if_neg (by rw [hsplit]; exact Bool.false_ne_true)
    have hexec := mismatch_begins s e cause hexists hreleased hgood hcause (by rw [hsplit]; rfl) hresync
    obtain ⟨h1, h2, h3, h4, h5, hecc, hrest⟩ := State.resyncBegun_shows s e hexists (cause == 1) (s.resyncTicks e.val)
    rw [hticks] at hexec h1 h2 h3 h4 h5 hecc hrest
    exact ⟨_, hexec, h1, h2, h3, h4, h5, fun h => hecc (by rw [h]; rfl), hrest⟩
  · have hticks : s.resyncTicks e.val = 5700 := if_pos hsplit
    have hexec := mismatch_begins s e 1 hexists hreleased hgood (by decide) (by rw [hsplit]; rfl) hresync
    obtain ⟨h1, h2, h3, h4, h5, hecc, hrest⟩ := State.resyncBegun_shows s e hexists ((1 : Fin 3) == 1) (s.resyncTicks e.val)
    rw [hticks] at hexec h1 h2 h3 h4 h5 hecc hrest
    exact ⟨_, hexec, h1, h2, h3, h4, h5, hecc rfl, hrest⟩
  · obtain ⟨h1, h2, h3, h4, h5⟩ := State.final_shows s e
    exact ⟨_, mismatch_is_final s e cause hexists hreleased hgood hcause (by rw [hsplit]; rfl) hresync, h1, h2, h3, h4, h5,
      (State.final_stops s e).2 hsplit⟩
  · obtain ⟨h1, h2, h3, h4, h5⟩ := State.final_shows s e
    exact ⟨_, mismatch_is_final s e 1 hexists hreleased hgood (by decide) (by rw [hsplit]; rfl) hresync, h1, h2, h3,
      (State.final_stops s e).1 hsplit, h4, h5⟩
  · obtain ⟨t, v, hexec, ⟨hresync, hnow, harmed⟩, h⟩ := resync_starts_oldest s e d k r p hd hruns hidle hgood hr hfirst hprog
    rw [← h.invOf v0] at h
    exact ⟨t, hexec, hresync, hnow, harmed, by rw [h.run]; rfl, h.entry, h.cause, h.cleared, h.latched, h.region, h.opv, h.committed, h.params, h.go,
      h.busy, h.icount⟩
  · obtain ⟨t, r, v, hexec, ⟨hresync, hnow, harmed⟩, h⟩ := resync_starts_own s e d p hd hruns hidle hgood hnone hprog
    rw [← h.invOf v0] at h
    exact ⟨t, hexec, hresync, hnow, harmed, by rw [h.run]; rfl, h.entry, h.cleared, h.region, h.opv, h.committed, h.params, h.go, h.busy, h.icount⟩

end Sys2Proof.Machine
end

section
/-! SUPPORT. The loads of the Pick engines (R80, R81): LOAD written, and a load that completes. -/

namespace Sys2Proof.Machine

/-! ### LOAD written (R80) -/

/-- Whether a cell's block is STOPPED rests on its binding and its state. -/
theorem Evolves.cellStopped {A : List Part} {s t : State} (h : Evolves A s t) (h0 : Part.reg .BLK_BLKCELLS0 ∉ A) (h1 : Part.reg .BLK_BLKCELLS1 ∉ A)
    (hc : Part.reg .BLK_BLKCTL ∉ A) (c : Nat) : t.cellStopped c = s.cellStopped c := by
  unfold State.cellStopped
  rw [h.blockOf h0 h1]
  cases hb : s.blockOf c with
  | none => rfl
  | some b =>
    have hlt : b < 8 := List.mem_range.1 (List.mem_of_find?_eq_some hb)
    have hblk : t.blk b = s.blk b := h.get (f := BLK_BLKCTL_STATE) (RegId.has_of_lt hlt rfl Nat.one_pos) hc
    dsimp only
    rw [hblk]

section Load
variable (s : State) (e : Eng)

/-- The program that PROGSEL names. -/
def State.selected (s : State) (e : Nat) : Option PickProgram := (s.pick.set.find? (fun x => x.1 == s.get PK_PCTL_PROGSEL e)).map Prod.snd

/-- Whether a LOAD finds its conditions met. -/
def State.mayLoad (s : State) (e : Nat) (p : PickProgram) : Bool := s.cellStopped (e / 2) && s.released uPick && p.valid

/-- A LOAD that is taken: the engine LOADING, last in the order of loads. -/
theorem State.load_taken {p : PickProgram} (hp : s.selected e.val = some p) (hmay : s.mayLoad e.val p = true) :
    (s.load e.val).get PK_PCTL_LOADED e.val = 0 ∧ (s.load e.val).get PK_PCTL_LOADING e.val = 1 ∧ ((s.load e.val).eng e.val).load = some p ∧
      (s.load e.val).pick.loads.getLast? = some e.val := by
  unfold State.selected at hp
  unfold State.mayLoad at hmay
  unfold State.load
  rw [hp]
  dsimp only
  rw [if_pos hmay]
  have hpctl : RegId.PK_PCTL.has e.val 0 = true := (by decide : EngReg .PK_PCTL 0).has e
  generalize hshown : (s.put PK_PCTL_LOADED 0 e.val).put PK_PCTL_LOADING 1 e.val = u
  have hev := pick_evolves (State.updEng_evolves (.refl [.pick] u) e.val (fun u => { u with load := some p }) (covers_self _))
    { (u.updEng e.val (fun u => { u with load := some p })).pick with
      loads := (u.updEng e.val (fun u => { u with load := some p })).pick.loads.filter (· != e.val) ++ [e.val] } (covers_self _)
  refine ⟨(hev.get hpctl (by decide)).trans ?_, (hev.get hpctl (by decide)).trans ?_, ?_, List.getLast?_concat⟩
  · rw [← hshown, State.get_put_eng_apart _ _ _ _ _ (by decide), State.get_put_eng _ _ _ _ (by decide)]
    rfl
  · rw [← hshown, State.get_put_eng _ _ _ _ (by decide)]
    rfl
  · exact congrArg EngU.load (State.eng_updEng_self u e (fun u => { u with load := some p }))

/-- One that is not. -/
theorem State.load_denied (h : (s.selected e.val).all (fun p => !s.mayLoad e.val p) = true) : s.load e.val = s.put PK_PCTL_LOAD_DENIED 1 e.val := by
  unfold State.selected at h
  unfold State.load
  dsimp only
  split
  · next p hp =>
    rw [hp, Option.all_some, Bool.not_eq_true'] at h
    exact if_neg (by rw [show (s.cellStopped (e.val / 2) && s.released uPick && p.valid) = false from h]; exact Bool.false_ne_true)
  · rfl

/-- The state in which LOAD finds PCTL written. -/
theorem load_written {m : Master} (v : Word) (hopen : s.busOpen m = true) (hexists : s.engExists e.val = true)
    (hmay : s.mayWriteCell m (e.val / 2) = true) : ∃ d u, exec (.loadProgram m e v) s = .next (u.load e.val) ∧
      Evolves [.reg .PK_PCTL] { s with drift := d } u ∧ u.get PK_PCTL_PROGSEL e.val = PK_PCTL_PROGSEL.of v ∧
      u.get PK_PCTL_LOADED e.val = s.get PK_PCTL_LOADED e.val := by
  have hpctl : RegId.PK_PCTL.has e.val 0 = true := (by decide : EngReg .PK_PCTL 0).has e
  obtain ⟨d, hd⟩ := State.regStore_eng hopen hexists hmay (r := .PK_PCTL) (fun x t => t.pctlPickWrite e.val x) (PK_PCTL_LOAD.into v 1) 0 (fun _ _ => rfl)
  generalize hx : s.settle .PK_PCTL (PK_PCTL_LOAD.into v 1) e.val = x at hd
  have hload : PK_PCTL_LOAD.of x = 1 := by
    rw [← hx]
    exact (State.settle_field s PK_PCTL_LOAD _ _ _ (by decide) (by decide)).trans (bits_setBits _ _ _ _ (by decide))
  have hprogsel : PK_PCTL_PROGSEL.of x = PK_PCTL_PROGSEL.of v := by
    rw [← hx]
    exact (State.settle_field s PK_PCTL_PROGSEL _ _ _ (by decide) (by decide)).trans (bits_setBits_ne _ _ _ _ _ _ (by decide))
  rw [State.pctlPickWrite, if_pos hload] at hd
  have hword : (State.regWrite { s with drift := d } .PK_PCTL x e.val).rdw .PK_PCTL e.val = RegId.PK_PCTL.written (s.rdw .PK_PCTL e.val) x :=
    State.rdw_regWrite { s with drift := d } _ _ _ _ hpctl
  refine ⟨d, _, congrArg Host.Outcome.next hd, State.regWrite_evolves (.refl _ _) _ _ _ _ (by decide +kernel), ?_, ?_⟩
  · exact (congrArg PK_PCTL_PROGSEL.of hword).trans ((Fld.of_written PK_PCTL_PROGSEL _ _ (by decide) (by decide)).trans hprogsel)
  · exact (congrArg PK_PCTL_LOADED.of hword).trans (Fld.of_written_kept PK_PCTL_LOADED _ _ (by decide) (by decide))

end Load

/-- R80: LOAD of a valid program in a STOPPED block. -/
theorem load_makes_loading (s : State) (m : Master) (e : Eng) (v : Word) (k : Nat) (p : PickProgram) (hopen : s.busOpen m = true)
    (hexists : s.engExists e.val = true) (hmay : s.mayWriteCell m (e.val / 2) = true) (hstopped : s.cellStopped (e.val / 2) = true)
    (hreleased : s.released uPick = true) (hfound : s.pick.set.find? (fun x => x.1 == PK_PCTL_PROGSEL.of v) = some (k, p)) (hvalid : p.valid = true) :
    ∃ t, exec (.loadProgram m e v) s = .next t ∧ t.get PK_PCTL_LOADED e.val = 0 ∧ t.get PK_PCTL_LOADING e.val = 1 ∧
      (t.eng e.val).load = some p ∧ t.pick.loads.getLast? = some e.val := by
  obtain ⟨d, u, hexec, hev, hprogsel, -⟩ := load_written s e v hopen hexists hmay
  have hpick : u.pick = s.pick := hev.kept .pick (by decide)
  refine ⟨_, hexec, State.load_taken u e (p := p) ?_ ?_⟩
  · unfold State.selected
    rw [hpick, hprogsel, hfound]
    rfl
  · unfold State.mayLoad
    rw [hev.cellStopped (by decide) (by decide) (by decide), hev.released (by decide)]
    show (s.cellStopped (e.val / 2) && s.released uPick && p.valid) = true
    rw [hstopped, hreleased, hvalid]
    rfl

/-- R80: any other. -/
theorem load_is_denied (s : State) (m : Master) (e : Eng) (v : Word) (hopen : s.busOpen m = true) (hexists : s.engExists e.val = true)
    (hmay : s.mayWriteCell m (e.val / 2) = true) (hcond : s.cellStopped (e.val / 2) = false ∨ s.released uPick = false ∨
      (s.pick.set.find? (fun x => x.1 == PK_PCTL_PROGSEL.of v)).all (fun x => !x.2.valid) = true) :
    ∃ t, exec (.loadProgram m e v) s = .next t ∧ t.get PK_PCTL_LOAD_DENIED e.val = 1 ∧
      t.get PK_PCTL_LOADED e.val = s.get PK_PCTL_LOADED e.val ∧ (t.eng e.val).load = (s.eng e.val).load ∧ t.pick.loads = s.pick.loads := by
  obtain ⟨d, u, hexec, hev, hprogsel, hloaded⟩ := load_written s e v hopen hexists hmay
  have hpick : u.pick = s.pick := hev.kept .pick (by decide)
  have hdenied : (u.selected e.val).all (fun p => !u.mayLoad e.val p) = true := by
    unfold State.selected State.mayLoad
    rw [hpick, hprogsel, hev.cellStopped (by decide) (by decide) (by decide), hev.released (by decide)]
    show ((s.pick.set.find? (fun x => x.1 == PK_PCTL_PROGSEL.of v)).map Prod.snd).all
      (fun p => !(s.cellStopped (e.val / 2) && s.released uPick && p.valid)) = true
    obtain hrunning | hreset | hinvalid := hcond
    · simp [hrunning]
    · simp [hreset]
    · cases hfind : s.pick.set.find? (fun x => x.1 == PK_PCTL_PROGSEL.of v) with
      | none => rfl
      | some x =>
        rw [hfind, Option.all_some, Bool.not_eq_true'] at hinvalid
        simp [hinvalid]
  refine ⟨_, by rw [hexec, State.load_denied u e hdenied], State.get_put_eng u PK_PCTL_LOAD_DENIED 1 e (by decide),
    (State.get_put_eng_apart _ _ _ _ _ (by decide)).trans hloaded, ?_, congrArg PickU.loads hpick⟩
  rw [State.put_eng, hev.engU (by decide)]
  rfl

/-! ### A load that completes (R80, R81) -/

section Complete
variable (s : State) (e : Eng) (p : PickProgram)

/-- The engine holds the program and runs nothing. -/
def State.progLoaded (s : State) (e : Nat) (p : PickProgram) : State :=
  let s1 := s.updEng e (fun u => { u with prog := some p, load := none, run := none, data := dataOf p.data, mem := RefMem.initial, stopped := false })
  { s1 with pick := { s1.pick with loads := s1.pick.loads.filter (· != e) } }

/-- PCTL and PSTAT show it. -/
def State.loadShown (s : State) (e : Nat) : State :=
  ((((s.put PK_PCTL_LOADED 1 e).put PK_PCTL_LOADING 0 e).put PK_PSTAT_BUSY 0 e).put PK_PSTAT_RESYNC 0 e).put PK_PSTAT_HALTED 0 e

/-- Its budget, and its operating point with the region it lies in. -/
def State.loadSet (s : State) (e : Nat) (p : PickProgram) : State :=
  let s1 := (((s.put PK_BUDGET_WCET (p.wcet.toList.foldl max 0) e).put PK_BUDGET_BUDGET (p.wcet.toList.foldl max 0) e).disarm (.resync e))
  let s2 := (s1.wrw .PK_OPV p.opv0 e 0).wrw .PK_OPV p.opv1 e 1
  (s2.put PK_REGION_IX (indexAt p.bpX p.opv0) e).put PK_REGION_IY (indexAt p.bpY p.opv1) e

/-- A load's completion, step by step. -/
theorem State.loaded_eq : s.loaded e.val p = ((s.progLoaded e.val p).loadShown e.val).loadSet e.val p := rfl

/-- It is in the order of loads no more. -/
theorem State.loaded_loads : (s.loaded e.val p).pick.loads.contains e.val = false := by
  have hloads : (s.loaded e.val p).pick.loads = (s.updEng e.val (fun u => { u with
      prog := some p, load := none, run := none, data := dataOf p.data, mem := RefMem.initial, stopped := false })).pick.loads.filter (· != e.val) := rfl
  rw [hloads]
  simp

/-- PCTL and PSTAT. -/
theorem State.loadShown_shows : (s.loadShown e.val).get PK_PCTL_LOADED e.val = 1 ∧ (s.loadShown e.val).get PK_PCTL_LOADING e.val = 0 ∧
    (s.loadShown e.val).get PK_PSTAT_BUSY e.val = 0 := by
  have hpctl : RegId.PK_PCTL.has e.val 0 = true := (by decide : EngReg .PK_PCTL 0).has e
  have hev : Evolves [.fresh, .reg .PK_PSTAT] ((s.put PK_PCTL_LOADED 1 e.val).put PK_PCTL_LOADING 0 e.val) (s.loadShown e.val) :=
    State.put_evolves (State.put_evolves (State.put_evolves (.refl _ _) _ _ _ _ (by decide +kernel)) _ _ _ _ (by decide +kernel)) _ _ _ _
      (by decide +kernel)
  refine ⟨?_, ?_, ?_⟩
  · rw [hev.get hpctl (by decide), State.get_put_eng_apart _ _ _ _ _ (by decide), State.get_put_eng _ _ _ _ (by decide)]
    rfl
  · rw [hev.get hpctl (by decide), State.get_put_eng _ _ _ _ (by decide)]
    rfl
  · unfold State.loadShown
    rw [State.get_put_eng_apart _ _ _ _ _ (by decide), State.get_put_eng_apart _ _ _ _ _ (by decide), State.get_put_eng _ _ _ _ (by decide)]
    rfl

/-- BUDGET, WCET and the operating point. -/
theorem State.loadSet_shows : (s.loadSet e.val p).get PK_BUDGET_BUDGET e.val = p.wcet.toList.foldl max 0 % 2 ^ PK_BUDGET_BUDGET.width ∧
    (s.loadSet e.val p).get PK_BUDGET_WCET e.val = p.wcet.toList.foldl max 0 % 2 ^ PK_BUDGET_WCET.width ∧
    (s.loadSet e.val p).rdw .PK_OPV e.val 0 = p.opv0 ∧ (s.loadSet e.val p).rdw .PK_OPV e.val 1 = p.opv1 := by
  have hregs : EngReg .PK_BUDGET 0 ∧ EngReg .PK_OPV 0 ∧ EngReg .PK_OPV 1 := by decide
  obtain ⟨hbudget, hopv0, hopv1⟩ := hregs
  generalize hw : p.wcet.toList.foldl max 0 = w
  have hbegin : Evolves [.fresh, .timers, .reg .PK_OPV, .reg .PK_REGION] ((s.put PK_BUDGET_WCET w e.val).put PK_BUDGET_BUDGET w e.val)
      (s.loadSet e.val p) := by
    subst hw
    exact State.put_evolves (State.put_evolves (State.wrw_evolves (State.wrw_evolves (State.disarm_evolves (.refl _ _) _ (by decide +kernel)) _ _ _ _
      (by decide +kernel)) _ _ _ _ (by decide +kernel)) _ _ _ _ (by decide +kernel)) _ _ _ _ (by decide +kernel)
  refine ⟨?_, ?_, ?_, ?_⟩
  · rw [hbegin.get (hbudget.has e) (by decide), State.get_put_eng _ _ _ _ (by decide)]
  · rw [hbegin.get (hbudget.has e) (by decide), State.get_put_eng_apart _ _ _ _ _ (by decide), State.get_put_eng _ _ _ _ (by decide)]
  · unfold State.loadSet
    dsimp only
    rw [State.rdw_put_eng _ _ _ _ _ _ ⟨hopv0, by decide⟩, State.rdw_put_eng _ _ _ _ _ _ ⟨hopv0, by decide⟩,
      State.rdw_wrw_ne _ _ _ _ _ _ _ _ (hopv0.has e) (by simp), State.rdw_wrw _ _ _ _ _ (hopv0.has e)]
  · unfold State.loadSet
    dsimp only
    rw [State.rdw_put_eng _ _ _ _ _ _ ⟨hopv1, by decide⟩, State.rdw_put_eng _ _ _ _ _ _ ⟨hopv1, by decide⟩, State.rdw_wrw _ _ _ _ _ (hopv1.has e)]

/-- What setting them changes. -/
theorem State.loadSet_changes : Evolves [.fresh, .timers, .reg .PK_BUDGET, .reg .PK_OPV, .reg .PK_REGION] s (s.loadSet e.val p) :=
  State.put_evolves (State.put_evolves (State.wrw_evolves (State.wrw_evolves (State.disarm_evolves (State.put_evolves (State.put_evolves (.refl _ _)
    _ _ _ _ (by decide +kernel)) _ _ _ _ (by decide +kernel)) _ (by decide +kernel)) _ _ _ _ (by decide +kernel)) _ _ _ _ (by decide +kernel))
    _ _ _ _ (by decide +kernel)) _ _ _ _ (by decide +kernel)

/-- The engine. -/
theorem State.loaded_eng : (s.loaded e.val p).eng e.val =
    { s.eng e.val with prog := some p, load := none, run := none, data := dataOf p.data, mem := RefMem.initial, stopped := false } := by
  have hshown : Evolves [.fresh, .reg .PK_PCTL, .reg .PK_PSTAT] (s.progLoaded e.val p) ((s.progLoaded e.val p).loadShown e.val) :=
    State.put_evolves (State.put_evolves (State.put_evolves (State.put_evolves (State.put_evolves (.refl _ _) _ _ _ _ (by decide +kernel))
      _ _ _ _ (by decide +kernel)) _ _ _ _ (by decide +kernel)) _ _ _ _ (by decide +kernel)) _ _ _ _ (by decide +kernel)
  have horder : ∀ (t : State) (l : List Nat), State.eng { t with pick := { t.pick with loads := l } } e.val = t.eng e.val := fun _ _ => rfl
  rw [State.loaded_eq, (State.loadSet_changes _ e p).engU (by decide), hshown.engU (by decide)]
  unfold State.progLoaded
  dsimp only
  rw [horder, State.eng_updEng_self]

end Complete

/-- R80, R81: the load that is first in order. -/
theorem load_completes (s : State) (e : Eng) (p : PickProgram) (hfirst : s.pick.loads.head? = some e.val) (hload : (s.eng e.val).load = some p) :
    ∃ t, exec (.loadComplete e) s = .next t ∧
      (t.eng e.val).prog = some p ∧
      (t.eng e.val).load = none ∧
      (t.eng e.val).run = none ∧
      t.get PK_PSTAT_BUSY e.val = 0 ∧
      (t.eng e.val).data = dataOf p.data ∧
      t.get PK_PCTL_LOADED e.val = 1 ∧
      t.get PK_PCTL_LOADING e.val = 0 ∧
      t.get PK_BUDGET_BUDGET e.val = p.wcet.toList.foldl max 0 % 2 ^ PK_BUDGET_BUDGET.width ∧
      t.get PK_BUDGET_WCET e.val = p.wcet.toList.foldl max 0 % 2 ^ PK_BUDGET_WCET.width ∧
      t.rdw .PK_OPV e.val 0 = p.opv0 ∧
      t.rdw .PK_OPV e.val 1 = p.opv1 ∧
      t.pick.loads.contains e.val = false := by
  have hexec : exec (.loadComplete e) s = .next (s.loaded e.val p) := by
    obtain ⟨rest, hrest⟩ := List.head?_eq_some_iff.1 hfirst
    show execLoadComplete e s = _
    unfold execLoadComplete
    rw [hrest, hload]
    exact congrArg Host.Outcome.next (if_pos rfl)
  have hregs : EngReg .PK_PSTAT 0 ∧ EngReg .PK_PCTL 0 := by decide
  have heng := State.loaded_eng s e p
  obtain ⟨hloaded, hloading, hbusy⟩ := State.loadShown_shows (s.progLoaded e.val p) e
  have hset := State.loadSet_changes ((s.progLoaded e.val p).loadShown e.val) e p
  obtain ⟨hbudget, hwcet, hopv0, hopv1⟩ := State.loadSet_shows ((s.progLoaded e.val p).loadShown e.val) e p
  rw [← State.loaded_eq] at hset hbudget hwcet hopv0 hopv1
  exact ⟨_, hexec, by rw [heng], by rw [heng], by rw [heng], (hset.get (hregs.1.has e) (by decide)).trans hbusy, by rw [heng],
    (hset.get (hregs.2.has e) (by decide)).trans hloaded, (hset.get (hregs.2.has e) (by decide)).trans hloading, hbudget, hwcet, hopv0, hopv1,
    State.loaded_loads s e p⟩

end Sys2Proof.Machine
end

section
/-! SUPPORT. The evaluations of a cell's arbiter (R71 to R74, R77): the winner, its change, and the delivery of its value. -/

namespace Sys2Proof.Machine

/-! ### The winner (R71, R72) -/

section Winner
variable (s : State) (c : Cell)

/-- The slots that take part. -/
def State.enabledSlots (s : State) (c : Nat) : List Nat := (List.range 8).filter (fun j => s.bitOf PK_ARBCTL_SLOTEN j c)

/-- The winner is the enabled slot of the least value, the lowest among equals. -/
theorem State.winnerOf_eq : s.winnerOf c.val = (s.enabledSlots c.val).argmin (fun j => (s.rdw .PK_SLOTVAL c.val j).toInt) := by
  have hstep : (fun best j => match best with
      | none => some j
      | some k => if (s.rdw .PK_SLOTVAL c.val j).toInt < (s.rdw .PK_SLOTVAL c.val k).toInt then some j else best) =
      List.argAux (fun j k => (s.rdw .PK_SLOTVAL c.val j).toInt < (s.rdw .PK_SLOTVAL c.val k).toInt) := by
    funext best j
    cases best <;> rfl
  unfold List.argmin
  rw [← hstep]
  rfl

/-- The slot that wins. -/
theorem State.winnerOf_least (j : Fin 8) (hj : s.bitOf PK_ARBCTL_SLOTEN j.val c.val = true)
    (h : ∀ i : Fin 8, s.bitOf PK_ARBCTL_SLOTEN i.val c.val = true → (s.rdw .PK_SLOTVAL c.val j.val).toInt < (s.rdw .PK_SLOTVAL c.val i.val).toInt ∨
      ((s.rdw .PK_SLOTVAL c.val j.val).toInt = (s.rdw .PK_SLOTVAL c.val i.val).toInt ∧ j ≤ i)) : s.winnerOf c.val = some j.val := by
  rw [State.winnerOf_eq]
  refine argmin_of_first (idx := id) (List.pairwise_lt_range.filter _) (List.mem_filter.2 ⟨List.mem_range.2 j.isLt, hj⟩) (fun i hi => ?_)
  obtain ⟨hlt, hen⟩ := List.mem_filter.1 hi
  exact h ⟨i, List.mem_range.1 hlt⟩ hen

/-- With no slot enabled there is none. -/
theorem State.winnerOf_empty (h : s.get PK_ARBCTL_SLOTEN c.val = 0) : s.winnerOf c.val = none := by
  have hnil : s.enabledSlots c.val = [] := List.filter_eq_nil_iff.2 fun j hj => by
    rw [State.bitOf_eq _ _ (by have := List.mem_range.1 hj; omega), h, Nat.zero_testBit]
    exact Bool.false_ne_true
  rw [State.winnerOf_eq, hnil]
  rfl

end Winner

/-! ### A change of the winner (R77) -/

section Change
variable (s : State) (c : Cell) (j : Fin 8) (v : Word)

/-- The state that shows a new winner. -/
def State.winnerShown (s : State) (c j : Nat) : State :=
  ((s.put PK_ARBSTAT_WINNER j c).bump PK_ARBSTAT_WINCHG c).updArb c (fun u => { u with winner := some j })

/-- A new winner is recorded and its event source raised. -/
theorem State.winnerIs_new (h : (s.arb c.val).winner ≠ some j.val) : s.winnerIs c.val j.val v =
    ((s.winnerShown c.val j.val).record c.val 3 3 c.val [BitVec.ofNat 32 (s.get PK_ARBSTAT_WINNER c.val + 16 * j.val), v,
      BitVec.ofNat 32 ((s.winnerShown c.val j.val).get PK_ARBSTAT_WINCHG c.val)]).raise (128 + c.val) := if_neg h

/-- What shows it changes. -/
theorem State.winnerShown_changes : Evolves [.fresh, .pick, .reg .PK_ARBSTAT] s (s.winnerShown c.val j.val) :=
  State.updArb_evolves (State.bump_evolves (State.put_evolves (.refl _ s) _ _ _ _ (by decide +kernel)) _ _ _ _ (by decide +kernel)) _ _
    (by decide +kernel)

/-- What follows leaves it. -/
theorem State.winnerIs_after (h : (s.arb c.val).winner ≠ some j.val) : Evolves seamParts (s.winnerShown c.val j.val) (s.winnerIs c.val j.val v) := by
  rw [State.winnerIs_new s c j v h]
  exact State.raise_evolves (State.record_evolves (.refl _ _) _ _ _ _ _ (covers_self _)) _ (by decide +kernel)

/-- The winner is `j` then, the engines as they were. -/
theorem State.winnerIs_units : ((s.winnerIs c.val j.val v).arb c.val) = { s.arb c.val with winner := some j.val } ∧
    ∀ e, (s.winnerIs c.val j.val v).eng e = s.eng e := by
  by_cases h : (s.arb c.val).winner = some j.val
  · rw [State.winnerIs, if_pos h, ← h]
    exact ⟨rfl, fun _ => rfl⟩
  · have hev := State.winnerIs_after s c j v h
    refine ⟨?_, fun e => ?_⟩
    · rw [hev.arbU (by decide)]
      unfold State.winnerShown
      rw [State.arb_updArb, if_pos ⟨rfl, c.isLt⟩]
      rfl
    · rw [hev.engU (by decide)]
      exact State.updArb_eng _ _ _ _

/-- What a winner that stays, and one that is new, show. -/
theorem State.winnerIs_shows : (s.winnerIs c.val j.val v).get PK_ARBSTAT_EMPTY c.val = s.get PK_ARBSTAT_EMPTY c.val ∧
    ((s.arb c.val).winner = some j.val → (s.winnerIs c.val j.val v).get PK_ARBSTAT_WINCHG c.val = s.get PK_ARBSTAT_WINCHG c.val) ∧
    ((s.arb c.val).winner ≠ some j.val → (s.winnerIs c.val j.val v).get PK_ARBSTAT_WINNER c.val = j.val ∧
      (s.winnerIs c.val j.val v).get PK_ARBSTAT_WINCHG c.val = (s.get PK_ARBSTAT_WINCHG c.val + 1) % 2 ^ PK_ARBSTAT_WINCHG.width ∧
      (s.routed (128 + c.val) = true → (s.winnerIs c.val j.val v).raised (128 + c.val) = true)) := by
  by_cases h : (s.arb c.val).winner = some j.val
  · rw [State.winnerIs, if_pos h]
    exact ⟨rfl, fun _ => rfl, fun hne => absurd h hne⟩
  · have harbstat : RegId.PK_ARBSTAT.has c.val 0 = true := (by decide : CellReg .PK_ARBSTAT 0).has c
    have hev := State.winnerIs_after s c j v h
    have hcount : (s.put PK_ARBSTAT_WINNER j.val c.val).get PK_ARBSTAT_WINCHG c.val = s.get PK_ARBSTAT_WINCHG c.val :=
      State.get_put_cell_apart _ _ _ _ _ (by decide)
    refine ⟨?_, fun heq => absurd heq h, fun _ => ⟨?_, ?_, fun hrouted => ?_⟩⟩
    · rw [hev.get harbstat (by decide), State.winnerShown, State.updArb_get, State.bump, State.get_put_cell_apart _ _ _ _ _ (by decide),
        State.get_put_cell_apart _ _ _ _ _ (by decide)]
    · rw [hev.get harbstat (by decide), State.winnerShown, State.updArb_get, State.bump, State.get_put_cell_apart _ _ _ _ _ (by decide),
        State.get_put_cell _ _ _ _ (by decide)]
      exact Nat.mod_eq_of_lt j.isLt
    · rw [hev.get harbstat (by decide), State.winnerShown, State.updArb_get, State.bump, State.get_put_cell _ _ _ _ (by decide), hcount]
    · have hshown : Evolves ([.pick, .reg .PK_ARBSTAT] ++ seamParts) s (s.winnerShown c.val j.val) :=
        (State.winnerShown_changes s c j).mono (by decide +kernel)
      have hrecord := State.record_evolves hshown c.val 3 3 c.val [BitVec.ofNat 32 (s.get PK_ARBSTAT_WINNER c.val + 16 * j.val), v,
          BitVec.ofNat 32 ((s.winnerShown c.val j.val).get PK_ARBSTAT_WINCHG c.val)] (by decide +kernel)
      rw [State.winnerIs_new s c j v h]
      exact State.raise_raised _ (by have := c.isLt; omega) ((hrecord.routed (by decide) (by have := c.isLt; omega)).trans hrouted)

end Change

/-! ### Deliveries (R71, R73, R74, R79) -/

/-- Whether a cell's deliveries stop rests on the pair. -/
theorem Evolves.deliveriesHeld {A : List Part} {s t : State} (h : Evolves A s t) (hp : Part.reg .PK_PSTAT ∉ A) (ho : Part.reg .RS_OPTIMG ∉ A)
    (heng : ∀ e, t.eng e = s.eng e) (c : Cell) : t.deliveriesHeld c.val = s.deliveriesHeld c.val := by
  have hpstat : ∀ e < 96, RegId.PK_PSTAT.has e 0 = true := fun e he => (RegId.has_iff _ _ _).2 ⟨Nat.zero_le _, he, Nat.one_pos⟩
  have hc := c.isLt
  unfold State.deliveriesHeld
  rw [h.on (f := PK_PSTAT_RESYNC) (hpstat (2 * c.val) (by omega)) hp, h.on (f := PK_PSTAT_RESYNC) (hpstat (2 * c.val + 1) (by omega)) hp,
    h.pickSplit ho c, heng]

/-- A ratio is 16 bits wide. -/
theorem ratioDuty_low (q16 : Bool) (v : Word) : ratioDuty q16 v &&& 0xFFFF = ratioDuty q16 v := by
  have hlow : ∀ w : Word, w.toNat < 65536 → w &&& 0xFFFF = w := fun w hw => by
    apply BitVec.eq_of_toNat_eq
    rw [BitVec.toNat_and]
    exact (Nat.and_two_pow_sub_one_eq_mod w.toNat 16).trans (Nat.mod_eq_of_lt hw)
  have hbits : bits v 15 16 < 65536 := Nat.mod_lt _ (by decide)
  unfold ratioDuty
  repeat' split
  · rfl
  · rfl
  · exact hlow _ (by omega)
  · exact hlow _ (by rw [BitVec.toNat_ofNat]; omega)

/-- A word put in a field of 32 bits is the register's word. -/
theorem Fld.into_word (f : Fld) (old v : Word) (h : f.lo = 0 ∧ f.width = 32) : f.into old v.toNat = v := by
  apply BitVec.eq_of_getLsbD_eq
  intro k hk
  unfold Fld.into
  rw [setBits_bit, h.1, h.2, if_pos (by omega)]
  rfl

section Duty
variable (s : State) (c : Cell) (v : Word)

/-- DUTY after a duty is set: the low half where the channel is in ratio form. -/
theorem State.setDuty_duty : (s.setDuty c.val v).rdw .PW_DUTY c.val = if s.on PW_CHCTL_FORM c.val = true then v else v &&& 0xFFFF := by
  have hduty : RegId.PW_DUTY.has c.val 0 = true := (by decide : CellReg .PW_DUTY 0).has c
  generalize hw : (if s.on PW_CHCTL_FORM c.val = true then v else v &&& 0xFFFF) = w
  have hev : Evolves [.fresh, .power, .reg .PW_ACTCMP] (s.put PW_DUTY_DUTY w.toNat c.val) (s.setDuty c.val v) := by
    rw [← hw]
    exact State.put_evolves (State.updChan_evolves (.refl _ _) _ _ (by decide +kernel)) _ _ _ _ (by decide +kernel)
  rw [hev.rdw hduty (by decide), State.rdw_put]
  exact (State.rdw_wrw _ _ _ _ _ hduty).trans (Fld.into_word _ _ _ (by decide))

/-- A delivery to a channel of the same form, and of the other. -/
theorem State.deliverDuty_eq (absolute : Bool) : s.deliverDuty c.val absolute v =
    if s.on PW_CHCTL_FORM c.val = absolute then s.setDuty c.val v else s.put PW_CHSTAT_FORM_DENIED 1 c.val := rfl

end Duty

section Delivery
variable (s : State) (c : Cell) (v : Word)

/-- ARBOUT shows the value, the arbiter has delivered. -/
def State.outShown (s : State) (c : Nat) (v : Word) : State := (s.wrw .PK_ARBOUT v c).updArb c (fun u => { u with delivered := true })

/-- What that changes. -/
theorem State.outShown_changes : Evolves [.fresh, .pick, .reg .PK_ARBOUT] s (s.outShown c.val v) :=
  State.updArb_evolves (State.wrw_evolves (.refl _ s) _ _ _ _ (by decide +kernel)) _ _ (by decide +kernel)

/-- What a destination takes. -/
def State.destTakes (s : State) (c : Nat) (v : Word) : State :=
  match s.get PK_ARBCTL_DEST c with
  | 1 => s.deliverDuty c false (ratioDuty (s.on PK_ARBCTL_FMT c) v)
  | 2 => s.deliverDuty c true (absDuty v)
  | 3 => s.slotWrite (s.get PK_ARBCTL_DESTCELL c) (s.get PK_ARBCTL_DESTSLOT c) v
  | _ => s

/-- A delivery, while none is held. -/
theorem State.deliver_free (h : s.deliveriesHeld c.val = false) : s.deliver c.val v = (s.outShown c.val v).destTakes c.val v := by
  unfold State.deliver
  rw [h]
  rfl

/-- None, while they are held. -/
theorem State.deliver_held (h : s.deliveriesHeld c.val = true) : s.deliver c.val v = s := by
  unfold State.deliver
  rw [h]
  rfl

/-- What a destination takes changes. -/
theorem State.destTakes_changes :
    Evolves [.fresh, .power, .pick, .reg .PK_SLOTVAL, .reg .PW_DUTY, .reg .PW_ACTCMP, .reg .PW_CHSTAT] s (s.destTakes c.val v) := by
  unfold State.destTakes
  split
  · exact State.deliverDuty_evolves (.refl _ s) _ _ _ (by decide +kernel)
  · exact State.deliverDuty_evolves (.refl _ s) _ _ _ (by decide +kernel)
  · exact State.slotWrite_evolves (.refl _ s) _ _ _ (by decide +kernel)
  · exact .refl _ s

/-- It leaves what the arbiter has found. -/
theorem State.destTakes_arb (k : Nat) : ((s.destTakes c.val v).arb k).winner = (s.arb k).winner ∧
    ((s.destTakes c.val v).arb k).delivered = (s.arb k).delivered := by
  have hduty : ∀ a w, (s.deliverDuty c.val a w).arb k = s.arb k := fun a w =>
    (State.deliverDuty_evolves (.refl _ s) c.val a w (covers_self _)).arbU (by decide) k
  unfold State.destTakes
  split
  · rw [hduty]; exact ⟨rfl, rfl⟩
  · rw [hduty]; exact ⟨rfl, rfl⟩
  · unfold State.slotWrite State.evalLater
    rw [State.arb_updArb, State.wrw_arb]
    repeat' split
    all_goals exact ⟨rfl, rfl⟩
  · exact ⟨rfl, rfl⟩

/-- A duty in the channel's form is set, one in the other is refused (R73). -/
theorem State.deliverDuty_shows (absolute : Bool) : if s.on PW_CHCTL_FORM c.val = absolute then
      (s.deliverDuty c.val absolute v).rdw .PW_DUTY c.val = (if s.on PW_CHCTL_FORM c.val = true then v else v &&& 0xFFFF)
    else (s.deliverDuty c.val absolute v).get PW_CHSTAT_FORM_DENIED c.val = 1 := by
  rw [State.deliverDuty_eq]
  split
  · exact State.setDuty_duty s c v
  · exact State.get_put_cell _ _ _ _ (by decide)

/-- What each destination takes. -/
theorem State.destTakes_shows :
    (s.get PK_ARBCTL_DEST c.val = 0 → (s.destTakes c.val v).rdw .PW_DUTY c.val = s.rdw .PW_DUTY c.val) ∧
    (s.get PK_ARBCTL_DEST c.val = 1 → if s.on PW_CHCTL_FORM c.val = true then (s.destTakes c.val v).get PW_CHSTAT_FORM_DENIED c.val = 1
      else (s.destTakes c.val v).rdw .PW_DUTY c.val = ratioDuty (s.on PK_ARBCTL_FMT c.val) v) ∧
    (s.get PK_ARBCTL_DEST c.val = 2 → if s.on PW_CHCTL_FORM c.val = true then (s.destTakes c.val v).rdw .PW_DUTY c.val = absDuty v
      else (s.destTakes c.val v).get PW_CHSTAT_FORM_DENIED c.val = 1) ∧
    (s.get PK_ARBCTL_DEST c.val = 3 → s.get PK_ARBCTL_DESTCELL c.val < 48 →
      (s.destTakes c.val v).rdw .PK_SLOTVAL (s.get PK_ARBCTL_DESTCELL c.val) (s.get PK_ARBCTL_DESTSLOT c.val) = v ∧
      ((s.destTakes c.val v).arb (s.get PK_ARBCTL_DESTCELL c.val)).due.contains (s.now + 1) = true) := by
  unfold State.destTakes
  refine ⟨fun h => ?_, fun h => ?_, fun h => ?_, fun h hcell => ?_⟩ <;> rw [h]
  · rfl
  · have hratio := State.deliverDuty_shows s c (ratioDuty (s.on PK_ARBCTL_FMT c.val) v) false
    cases hform : s.on PW_CHCTL_FORM c.val <;> rw [hform] at hratio
    · exact hratio.trans (ratioDuty_low _ _)
    · exact hratio
  · have habs := State.deliverDuty_shows s c (absDuty v) true
    cases hform : s.on PW_CHCTL_FORM c.val <;> rw [hform] at habs
    · exact habs
    · exact habs
  · have hslot : s.get PK_ARBCTL_DESTSLOT c.val < 8 := Nat.mod_lt _ (by decide)
    have hhas : RegId.PK_SLOTVAL.has (s.get PK_ARBCTL_DESTCELL c.val) (s.get PK_ARBCTL_DESTSLOT c.val) = true :=
      (RegId.has_iff _ _ _).2 ⟨Nat.zero_le _, hcell, hslot⟩
    exact ⟨(State.evalLater_rdw _ _ _ _ _).trans (State.rdw_wrw _ _ _ _ _ hhas), State.evalLater_due (s.wrw .PK_SLOTVAL v _ _) ⟨_, hcell⟩⟩

end Delivery

/-! ### An evaluation (R71) -/

section Evaluation
variable (s : State) (c : Cell) (d : Nat) (rest : List Nat)

/-- The state in which an evaluation takes place. -/
def State.evaluating (s : State) (c d : Nat) (rest : List Nat) : State := (s.advanceTo d).updArb c (fun u => { u with due := rest })

/-- What has changed by then. -/
theorem State.evaluating_changes : Evolves ([.pick] ++ onTimerParts) s (s.evaluating c.val d rest) :=
  State.updArb_evolves (State.advanceTo_evolves (.refl _ s) _ (by decide +kernel)) _ _ (by decide +kernel)

/-- The evaluation that is due. -/
theorem evaluation_due (h : (s.arb c.val).due.head? = some d) :
    ∃ rest, exec (.arbiterEvaluation c) s = .next ((s.evaluating c.val d rest).evaluate c.val) := by
  obtain ⟨rest, hrest⟩ := List.head?_eq_some_iff.1 h
  refine ⟨rest, ?_⟩
  show execArbiterEvaluation c s = _
  unfold execArbiterEvaluation
  rw [hrest]
  rfl

/-- Its time, the engines, and the winner of the last evaluation. -/
theorem State.evaluating_shows : (s.evaluating c.val d rest).now = max s.now d ∧ (∀ e, (s.evaluating c.val d rest).eng e = s.eng e) ∧
    ((s.evaluating c.val d rest).arb c.val).winner = (s.arb c.val).winner := by
  have hadvance : Evolves onTimerParts s (s.advanceTo d) := State.advanceTo_evolves (.refl _ s) d (by decide +kernel)
  refine ⟨?_, fun e => ?_, ?_⟩
  · exact ((State.updArb_evolves (.refl [.pick] (s.advanceTo d)) c.val _ (covers_self _)).kept .now (by decide)).trans (s.advanceTo_now d)
  · exact (State.updArb_eng _ _ _ _).trans (hadvance.engU (by decide) e)
  · unfold State.evaluating
    rw [State.arb_updArb, if_pos ⟨rfl, c.isLt⟩, hadvance.arbU (by decide)]

/-- The slots and their values are those of before. -/
theorem State.evaluating_winner (j : Fin 8) (hj : s.bitOf PK_ARBCTL_SLOTEN j.val c.val = true)
    (h : ∀ i : Fin 8, s.bitOf PK_ARBCTL_SLOTEN i.val c.val = true → (s.rdw .PK_SLOTVAL c.val j.val).toInt < (s.rdw .PK_SLOTVAL c.val i.val).toInt ∨
      ((s.rdw .PK_SLOTVAL c.val j.val).toInt = (s.rdw .PK_SLOTVAL c.val i.val).toInt ∧ j ≤ i)) :
    (s.evaluating c.val d rest).winnerOf c.val = some j.val ∧
      (s.evaluating c.val d rest).rdw .PK_SLOTVAL c.val j.val = s.rdw .PK_SLOTVAL c.val j.val := by
  have hev := State.evaluating_changes s c d rest
  have harbctl : RegId.PK_ARBCTL.has c.val 0 = true := (by decide : CellReg .PK_ARBCTL 0).has c
  have hval (i : Fin 8) : (s.evaluating c.val d rest).rdw .PK_SLOTVAL c.val i.val = s.rdw .PK_SLOTVAL c.val i.val :=
    hev.rdw ((RegId.has_iff _ _ _).2 ⟨Nat.zero_le _, c.isLt, i.isLt⟩) (by decide)
  have hen (i : Fin 8) : (s.evaluating c.val d rest).bitOf PK_ARBCTL_SLOTEN i.val c.val = s.bitOf PK_ARBCTL_SLOTEN i.val c.val := by
    unfold State.bitOf
    rw [hev.get (f := PK_ARBCTL_SLOTEN) harbctl (by decide)]
  refine ⟨State.winnerOf_least _ c j ((hen j).trans hj) fun i hi => ?_, hval j⟩
  rw [hval, hval]
  exact h i ((hen i).symm.trans hi)

/-- The winner found and shown, before its value is delivered. -/
def State.winnerFound (s : State) (c d j : Nat) (rest : List Nat) : State :=
  ((s.evaluating c d rest).put PK_ARBSTAT_EMPTY 0 c).winnerIs c j (s.rdw .PK_SLOTVAL c j)

/-- An evaluation that finds a winner. -/
theorem State.evaluate_winner (j : Fin 8) (h : (s.evaluating c.val d rest).winnerOf c.val = some j.val ∧
      (s.evaluating c.val d rest).rdw .PK_SLOTVAL c.val j.val = s.rdw .PK_SLOTVAL c.val j.val) :
    (s.evaluating c.val d rest).evaluate c.val = (s.winnerFound c.val d j.val rest).deliver c.val (s.rdw .PK_SLOTVAL c.val j.val) := by
  obtain ⟨hwinner, hval⟩ := h
  unfold State.evaluate
  rw [hwinner]
  dsimp only
  rw [hval]
  rfl

/-- What has changed by then. -/
theorem State.winnerFound_changes (j : Fin 8) : Evolves ([.pick, .reg .PK_ARBSTAT] ++ onTimerParts ++ seamParts) s (s.winnerFound c.val d j.val rest) :=
  State.winnerIs_evolves (State.put_evolves ((State.evaluating_changes s c d rest).mono (by decide +kernel)) _ _ _ _ (by decide +kernel)) _ _ _
    (by decide +kernel)

/-- What every evaluation with the winner `j` shows in a state `t` that comes of `s`. -/
structure State.Evaluated (s t : State) (c : Cell) (d : Nat) (j : Fin 8) : Prop where
  empty : t.get PK_ARBSTAT_EMPTY c.val = 0
  winner : (t.arb c.val).winner = some j.val
  now : t.now = max s.now d
  same : (s.arb c.val).winner = some j.val → t.get PK_ARBSTAT_WINCHG c.val = s.get PK_ARBSTAT_WINCHG c.val
  new : (s.arb c.val).winner ≠ some j.val → t.get PK_ARBSTAT_WINNER c.val = j.val ∧
    t.get PK_ARBSTAT_WINCHG c.val = (s.get PK_ARBSTAT_WINCHG c.val + 1) % 2 ^ PK_ARBSTAT_WINCHG.width ∧
    (s.routed (128 + c.val) = true → t.raised (128 + c.val) = true)

/-- The state with the winner found shows it. -/
theorem State.winnerFound_evaluated (j : Fin 8) : s.Evaluated (s.winnerFound c.val d j.val rest) c d j := by
  have harbstat : RegId.PK_ARBSTAT.has c.val 0 = true := (by decide : CellReg .PK_ARBSTAT 0).has c
  have hev := State.evaluating_changes s c d rest
  obtain ⟨hnow, -, hwas⟩ := State.evaluating_shows s c d rest
  have hwinchg : ((s.evaluating c.val d rest).put PK_ARBSTAT_EMPTY 0 c.val).get PK_ARBSTAT_WINCHG c.val = s.get PK_ARBSTAT_WINCHG c.val :=
    (State.get_put_cell_apart _ _ _ _ _ (by decide)).trans (hev.get harbstat (by decide))
  have hrouted : ((s.evaluating c.val d rest).put PK_ARBSTAT_EMPTY 0 c.val).routed (128 + c.val) = s.routed (128 + c.val) :=
    (State.put_evolves (hev.mono (A := [.pick, .reg .PK_ARBSTAT] ++ onTimerParts) (by decide +kernel)) PK_ARBSTAT_EMPTY 0 c.val 0
      (by decide +kernel)).routed (by decide) (by have := c.isLt; omega)
  have hchange : Evolves ([.pick, .reg .PK_ARBSTAT] ++ seamParts) ((s.evaluating c.val d rest).put PK_ARBSTAT_EMPTY 0 c.val)
      (s.winnerFound c.val d j.val rest) := State.winnerIs_evolves (.refl _ _) _ _ _ (covers_self _)
  obtain ⟨hunit, -⟩ := State.winnerIs_units ((s.evaluating c.val d rest).put PK_ARBSTAT_EMPTY 0 c.val) c j (s.rdw .PK_SLOTVAL c.val j.val)
  obtain ⟨hempty, hsame, hnew⟩ := State.winnerIs_shows ((s.evaluating c.val d rest).put PK_ARBSTAT_EMPTY 0 c.val) c j (s.rdw .PK_SLOTVAL c.val j.val)
  rw [State.put_arb, hwas, hwinchg] at hsame
  rw [State.put_arb, hwas, hwinchg, hrouted] at hnew
  constructor
  case empty => exact hempty.trans (State.get_put_cell _ _ _ _ (by decide))
  case winner => exact congrArg ArbU.winner hunit
  case now => exact (hchange.kept .now (by decide)).trans hnow
  case same => exact hsame
  case new => exact hnew

/-- What a delivery changes. -/
def deliverParts : List Part :=
  [.fresh, .power, .pick, .reg .PK_ARBOUT, .reg .PK_SLOTVAL, .reg .PW_DUTY, .reg .PW_ACTCMP, .reg .PW_CHSTAT]

/-- A delivery leaves it. -/
theorem State.Evaluated.of_delivery {s t u : State} {c : Cell} {d : Nat} {j : Fin 8} (h : s.Evaluated t c d j) (hev : Evolves deliverParts t u)
    (harb : (u.arb c.val).winner = (t.arb c.val).winner) (hrouted : t.routed (128 + c.val) = s.routed (128 + c.val)) : s.Evaluated u c d j := by
  have harbstat : RegId.PK_ARBSTAT.has c.val 0 = true := (by decide : CellReg .PK_ARBSTAT 0).has c
  constructor
  case empty => exact (hev.get harbstat (by decide)).trans h.empty
  case winner => exact harb.trans h.winner
  case now => exact (hev.kept .now (by decide)).trans h.now
  case same => exact fun hw => (hev.get harbstat (by decide)).trans (h.same hw)
  case new =>
    intro hw
    obtain ⟨hwinner, hwinchg, hraised⟩ := h.new hw
    exact ⟨(hev.get harbstat (by decide)).trans hwinner, (hev.get harbstat (by decide)).trans hwinchg, fun hr =>
      hev.raised (by decide) (by decide) (by have := c.isLt; omega) (hrouted.trans hr) (hraised hr)⟩

/-- Whether deliveries stop is as it was before the winner was found. -/
theorem State.winnerFound_held (j : Fin 8) : (s.winnerFound c.val d j.val rest).deliveriesHeld c.val = s.deliveriesHeld c.val := by
  obtain ⟨-, heng, -⟩ := State.evaluating_shows s c d rest
  obtain ⟨-, heng'⟩ := State.winnerIs_units ((s.evaluating c.val d rest).put PK_ARBSTAT_EMPTY 0 c.val) c j (s.rdw .PK_SLOTVAL c.val j.val)
  exact (State.winnerFound_changes s c d rest j).deliveriesHeld (by decide) (by decide) (fun e => (heng' e).trans (heng e)) c

end Evaluation

end Sys2Proof.Machine
end

section
/-! SUPPORT. An evaluation that finds a winner delivers its value, or none while deliveries are held; one that finds none shows EMPTY (R71, R73, R74,
R77, R79). -/

namespace Sys2Proof.Machine

section Evaluates
variable (s : State) (c : Cell) (d : Nat) (j : Fin 8)

/-- An evaluation that finds no slot enabled. -/
theorem evaluation_finds_none (hdue : (s.arb c.val).due.head? = some d) (hnone : s.get PK_ARBCTL_SLOTEN c.val = 0) :
    ∃ t, exec (.arbiterEvaluation c) s = .next t ∧
      t.get PK_ARBSTAT_EMPTY c.val = 1 ∧
      t.rdw .PK_ARBOUT c.val = s.rdw .PK_ARBOUT c.val ∧
      t.rdw .PW_DUTY c.val = s.rdw .PW_DUTY c.val ∧
      t.now = max s.now d := by
  have hregs : CellReg .PK_ARBCTL 0 ∧ CellReg .PK_ARBOUT 0 ∧ CellReg .PW_DUTY 0 := by decide
  obtain ⟨harbctl, harbout, hduty⟩ := hregs
  obtain ⟨rest, hexec⟩ := evaluation_due s c d hdue
  obtain ⟨hnow, -, -⟩ := State.evaluating_shows s c d rest
  have hev := State.evaluating_changes s c d rest
  have hnone' : (s.evaluating c.val d rest).winnerOf c.val = none :=
    State.winnerOf_empty _ c ((hev.get (f := PK_ARBCTL_SLOTEN) (harbctl.has c) (by decide)).trans hnone)
  have heval : (s.evaluating c.val d rest).evaluate c.val =
      ((s.evaluating c.val d rest).put PK_ARBSTAT_EMPTY 1 c.val).updArb c.val (fun u => { u with winner := none }) := by
    unfold State.evaluate
    rw [hnone']
  have hshown : Evolves [.fresh, .pick, .reg .PK_ARBSTAT] (s.evaluating c.val d rest) ((s.evaluating c.val d rest).evaluate c.val) := by
    rw [heval]
    exact State.updArb_evolves (State.put_evolves (.refl _ _) _ _ _ _ (by decide +kernel)) _ _ (by decide +kernel)
  have hall := (hev.mono (A := [.pick, .reg .PK_ARBSTAT] ++ onTimerParts) (by decide +kernel)).step hshown (by decide +kernel)
  refine ⟨_, hexec, ?_, hall.rdw (harbout.has c) (by decide), hall.rdw (hduty.has c) (by decide), (hshown.kept .now (by decide)).trans hnow⟩
  rw [heval, State.updArb_get]
  exact State.get_put_cell _ _ _ _ (by decide)

variable (hj : s.bitOf PK_ARBCTL_SLOTEN j.val c.val = true)
  (hleast : ∀ i : Fin 8, s.bitOf PK_ARBCTL_SLOTEN i.val c.val = true →
    (s.rdw .PK_SLOTVAL c.val j.val).toInt < (s.rdw .PK_SLOTVAL c.val i.val).toInt ∨
      ((s.rdw .PK_SLOTVAL c.val j.val).toInt = (s.rdw .PK_SLOTVAL c.val i.val).toInt ∧ j ≤ i))
include hj hleast

/-- The evaluation that is due finds the winner and delivers its value. -/
theorem evaluation_finds (hdue : (s.arb c.val).due.head? = some d) : ∃ rest, exec (.arbiterEvaluation c) s =
    .next ((s.winnerFound c.val d j.val rest).deliver c.val (s.rdw .PK_SLOTVAL c.val j.val)) := by
  obtain ⟨rest, hexec⟩ := evaluation_due s c d hdue
  exact ⟨rest, hexec.trans (congrArg Host.Outcome.next (State.evaluate_winner s c d rest j (State.evaluating_winner s c d rest j hj hleast)))⟩

/-- While deliveries are held. -/
theorem evaluation_held (hdue : (s.arb c.val).due.head? = some d) (hheld : s.deliveriesHeld c.val = true) :
    ∃ t, exec (.arbiterEvaluation c) s = .next t ∧ s.Evaluated t c d j ∧ t.rdw .PK_ARBOUT c.val = s.rdw .PK_ARBOUT c.val ∧
      t.rdw .PW_DUTY c.val = s.rdw .PW_DUTY c.val := by
  have hregs : CellReg .PK_ARBOUT 0 ∧ CellReg .PW_DUTY 0 := by decide
  obtain ⟨rest, hexec⟩ := evaluation_finds s c d j hj hleast hdue
  have hev := State.winnerFound_changes s c d rest j
  rw [State.deliver_held _ _ _ ((State.winnerFound_held s c d rest j).trans hheld)] at hexec
  exact ⟨_, hexec, State.winnerFound_evaluated s c d rest j, hev.rdw (hregs.1.has c) (by decide), hev.rdw (hregs.2.has c) (by decide)⟩

/-- While they are not. -/
theorem evaluation_delivers (hdue : (s.arb c.val).due.head? = some d) (hfree : s.deliveriesHeld c.val = false) :
    ∃ t, exec (.arbiterEvaluation c) s = .next t ∧ s.Evaluated t c d j ∧
      t.rdw .PK_ARBOUT c.val = s.rdw .PK_SLOTVAL c.val j.val ∧
      (t.arb c.val).delivered = true ∧
      (s.get PK_ARBCTL_DEST c.val = 0 → t.rdw .PW_DUTY c.val = s.rdw .PW_DUTY c.val) ∧
      (s.get PK_ARBCTL_DEST c.val = 1 → if s.on PW_CHCTL_FORM c.val = true then t.get PW_CHSTAT_FORM_DENIED c.val = 1
        else t.rdw .PW_DUTY c.val = ratioDuty (s.on PK_ARBCTL_FMT c.val) (s.rdw .PK_SLOTVAL c.val j.val)) ∧
      (s.get PK_ARBCTL_DEST c.val = 2 → if s.on PW_CHCTL_FORM c.val = true then t.rdw .PW_DUTY c.val = absDuty (s.rdw .PK_SLOTVAL c.val j.val)
        else t.get PW_CHSTAT_FORM_DENIED c.val = 1) ∧
      (s.get PK_ARBCTL_DEST c.val = 3 → s.get PK_ARBCTL_DESTCELL c.val < 48 →
        t.rdw .PK_SLOTVAL (s.get PK_ARBCTL_DESTCELL c.val) (s.get PK_ARBCTL_DESTSLOT c.val) = s.rdw .PK_SLOTVAL c.val j.val ∧
        (t.arb (s.get PK_ARBCTL_DESTCELL c.val)).due.contains (t.now + 1) = true) := by
  have hregs : CellReg .PK_ARBCTL 0 ∧ CellReg .PK_ARBOUT 0 ∧ CellReg .PW_DUTY 0 ∧ CellReg .PW_CHCTL 0 := by decide
  obtain ⟨harbctl, harbout, hduty, hchctl⟩ := hregs
  obtain ⟨rest, hexec⟩ := evaluation_finds s c d j hj hleast hdue
  rw [State.deliver_free _ _ _ ((State.winnerFound_held s c d rest j).trans hfree)] at hexec
  generalize hv : s.rdw .PK_SLOTVAL c.val j.val = v at hexec ⊢
  generalize hw : (s.winnerFound c.val d j.val rest).outShown c.val v = w at hexec
  have hfound := State.winnerFound_changes s c d rest j
  have hshown := State.outShown_changes (s.winnerFound c.val d j.val rest) c v
  rw [hw] at hshown
  have htaken := State.destTakes_changes w c v
  have hwhole : Evolves ([.pick, .reg .PK_ARBSTAT, .reg .PK_ARBOUT] ++ onTimerParts ++ seamParts) s w :=
    (hfound.mono (by decide +kernel)).step hshown (by decide +kernel)
  have harb : (w.arb c.val).winner = ((s.winnerFound c.val d j.val rest).arb c.val).winner ∧ (w.arb c.val).delivered = true := by
    rw [← hw, State.outShown, State.arb_updArb, if_pos ⟨rfl, c.isLt⟩]
    exact ⟨rfl, rfl⟩
  have hout : w.rdw .PK_ARBOUT c.val = v := by
    rw [← hw, State.outShown, State.updArb_rdw, State.rdw_wrw _ _ _ _ _ (harbout.has c)]
  obtain ⟨hwinner', hdelivered'⟩ := State.destTakes_arb w c v c.val
  have hdelivery : Evolves deliverParts (s.winnerFound c.val d j.val rest) (w.destTakes c.val v) :=
    (hshown.mono (by decide +kernel)).step htaken (by decide +kernel)
  have hevaluated : s.Evaluated (w.destTakes c.val v) c d j :=
    (State.winnerFound_evaluated s c d rest j).of_delivery hdelivery (hwinner'.trans harb.1) (hfound.routed (by decide) (by have := c.isLt; omega))
  have hdest : w.get PK_ARBCTL_DEST c.val = s.get PK_ARBCTL_DEST c.val := hwhole.get (harbctl.has c) (by decide)
  have hfmt : w.on PK_ARBCTL_FMT c.val = s.on PK_ARBCTL_FMT c.val := hwhole.on (harbctl.has c) (by decide)
  have hcell : w.get PK_ARBCTL_DESTCELL c.val = s.get PK_ARBCTL_DESTCELL c.val := hwhole.get (harbctl.has c) (by decide)
  have hslot : w.get PK_ARBCTL_DESTSLOT c.val = s.get PK_ARBCTL_DESTSLOT c.val := hwhole.get (harbctl.has c) (by decide)
  have hform : w.on PW_CHCTL_FORM c.val = s.on PW_CHCTL_FORM c.val := hwhole.on (hchctl.has c) (by decide)
  have hnow : (w.destTakes c.val v).now = w.now := htaken.kept .now (by decide)
  obtain ⟨hnowhere, hratio, habs, hroute⟩ := State.destTakes_shows w c v
  rw [hdest, hwhole.rdw (hduty.has c) (by decide)] at hnowhere
  rw [hdest, hform, hfmt] at hratio
  rw [hdest, hform] at habs
  rw [hdest, hcell, hslot, ← hnow] at hroute
  exact ⟨_, hexec, hevaluated, (htaken.rdw (harbout.has c) (by decide)).trans hout, hdelivered'.trans harb.2, hnowhere, hratio, habs, hroute⟩

end Evaluates

/-! ### The start of an invocation (R64) -/

/-- R64: the oldest pending request of an engine that can start. -/
theorem oldest_request_starts (s : State) (e : Eng) (k : Fin 3) (r : Req) (p : PickProgram) (hcan : s.canStart e.val = true)
    (hr : (s.eng e.val).pend[k] = some r)
    (hfirst : ∀ j : Fin 3, (s.eng e.val).pend[j].all (fun q => j == k || decide (r.since < q.since) || decide (r.since = q.since ∧ k < j)) = true)
    (hprog : (s.eng e.val).prog = some p) : ∃ t v, exec (.invocationStart e) s = .next t ∧ s.Started t e k.val r p v := by
  obtain ⟨v, hv⟩ := State.startInv_started s e k.val r hprog
  refine ⟨_, v, ?_, hv⟩
  rw [← State.startNext_oldest s e r hr hfirst]
  exact congrArg Host.Outcome.next (if_pos hcan)

/-- Settles O27: loads, starts and evaluations, each by what it leaves in its unit and what it shows. -/
theorem pickProgramsLoadAndStart : Obligations.PickProgramsLoadAndStart := by
  refine ⟨load_makes_loading, load_is_denied, load_completes, fun s e k r p v0 hcan hr hfirst hprog => ?_,
    fun s c d j hdue hfree hj hleast => ?_, fun s c d j hdue hheld hj hleast => ?_, evaluation_finds_none⟩
  · obtain ⟨t, v, hexec, h⟩ := oldest_request_starts s e k r p hcan hr hfirst hprog
    obtain ⟨hgone, hothers⟩ := h.pend_one rfl
    rw [← h.invOf v0] at h
    exact ⟨t, hexec, by rw [h.run]; rfl, h.entry, h.cause, h.cleared, h.latched, h.region, h.opv, h.committed, h.params, h.go, h.busy, h.icount,
      hgone, hothers⟩
  · obtain ⟨t, hexec, h, hrest⟩ := evaluation_delivers s c d j hj hleast hdue hfree
    exact ⟨t, hexec, h.empty, h.winner, h.now, h.same, h.new, hrest⟩
  · obtain ⟨t, hexec, h, hrest⟩ := evaluation_held s c d j hj hleast hdue hheld
    exact ⟨t, hexec, h.empty, h.winner, h.now, h.same, h.new, hrest⟩

end Sys2Proof.Machine
end

section
/-! SUPPORT. The integer root of SQT (R105), by its bits. -/

namespace Sys2Proof.Machine

/-- A root whose bits below `k` are still to be found: what is found is no larger than the root, which it misses by less than `2^k`. -/
theorem isqrtFrom_spec (n k r : Nat) (hlo : r * r ≤ n) (hhi : n < (r + 2 ^ k) * (r + 2 ^ k)) :
    isqrtFrom n k r * isqrtFrom n k r ≤ n ∧ n < (isqrtFrom n k r + 1) * (isqrtFrom n k r + 1) := by
  induction k generalizing r with
  | zero => exact ⟨hlo, hhi⟩
  | succ k ih =>
    unfold isqrtFrom
    by_cases hbit : (r + 2 ^ k) * (r + 2 ^ k) ≤ n
    · rw [if_pos hbit]
      refine ih _ hbit ?_
      rwa [Nat.add_assoc, ← Nat.two_mul, ← Nat.pow_succ']
    · rw [if_neg hbit]
      exact ih _ hlo (Nat.lt_of_not_le hbit)

/-- Settles O11: 64 bits of the root are found from the highest down. -/
theorem squareRootsRoundDown : Obligations.SquareRootsRoundDown := fun n hn => isqrtFrom_spec n 64 0 (Nat.zero_le _) (by omega)

end Sys2Proof.Machine
end

section
/-! SUPPORT. What a Pick instruction writes (R90, R91): values of 32 bits, the clamps, the G registers and the flags that follow them. -/

namespace Sys2Proof.Machine

/-! ### Values of 32 bits (R90) -/

/-- A value that a register holds, signed. -/
def Fits32 (x : Int) : Prop := -2147483648 ≤ x ∧ x ≤ 2147483647

theorem fits32_toInt (y : Word) : Fits32 y.toInt := ⟨BitVec.le_toInt y, Int.le_of_lt_add_one (BitVec.toInt_lt (x := y))⟩

theorem toInt_wordOfInt {x : Int} (h : Fits32 x) : (wordOfInt x).toInt = x := by
  obtain ⟨hlo, hhi⟩ := h
  exact (BitVec.toInt_ofInt x).trans (Int.bmod_eq_of_le (by omega) (by omega))

theorem bit_wordOfInt {x : Int} (h : Fits32 x) : bit (wordOfInt x) 31 = decide (x < 0) := by
  rw [← toInt_wordOfInt h, ← BitVec.msb_eq_toInt, toInt_wordOfInt h]
  rfl

theorem wordOfInt_beq_zero {x : Int} (h : Fits32 x) : (wordOfInt x == 0) = decide (x = 0) := by
  have hiff : wordOfInt x = 0 ↔ x = 0 := by
    rw [← BitVec.toInt_inj, toInt_wordOfInt h]
    rfl
  rw [beq_eq_decide]
  exact decide_eq_decide.2 hiff

/-- The clamp to 32 bits tells whether the value was beyond them. -/
theorem clampTo_31_snd (x : Int) : (clampTo 31 x).2 = decide (2147483647 < x ∨ x < -2147483648) := by
  unfold clampTo
  dsimp only
  split
  · simp_all
  · split <;> simp_all

theorem fits32_sat32 (x : Int) : Fits32 (sat32 x) := by
  unfold sat32 clampTo Fits32
  dsimp only
  split
  · decide
  · split <;> omega

/-- A value of 32 bits is not clamped. -/
theorem clampTo_31_of_fits {x : Int} (h : Fits32 x) : clampTo 31 x = (x, false) := by
  obtain ⟨hlo, hhi⟩ := h
  unfold clampTo
  dsimp only
  rw [if_neg (by omega), if_neg (by omega)]

theorem sat32_of_fits {x : Int} (h : Fits32 x) : sat32 x = x := congrArg Prod.fst (clampTo_31_of_fits h)

/-! ### G registers and flags (R91) -/

theorem bits_lt (w : Word) (lo width : Nat) : bits w lo width < 2 ^ width := Nat.mod_lt _ (Nat.two_pow_pos width)

theorem pwD_lt (w : Word) : pwD w < 16 := bits_lt w 22 4

theorem Inv.fits32_gs (v : Inv) (k : Nat) : Fits32 (v.gs k) := fits32_toInt _

section Writes
variable (v : Inv) {k : Nat} (hk : k < 16) (x : Int)
include hk

/-- A register that is written, flags unchanged. -/
theorem Inv.pokeG_eq : v.pokeG k x = { v with g := v.g.set k (wordOfInt x) hk } := dif_pos hk

/-- A register that is written, with N and Z. -/
theorem Inv.setG_eq : v.setG k x = { v with g := v.g.set k (wordOfInt x) hk, n := bit (wordOfInt x) 31, z := wordOfInt x == 0 } := by
  unfold Inv.setG
  rw [Inv.pokeG_eq v hk]

/-- What the registers read then. -/
theorem Inv.gs_pokeG (j : Nat) (h : Fits32 x) : (v.pokeG k x).gs j = if j = k then x else v.gs j := by
  rw [Inv.pokeG_eq v hk]
  unfold Inv.gs
  by_cases hj : j = k
  · subst hj
    simp [hk, toInt_wordOfInt h]
  · simp [hj, Vector.toList_set, Ne.symm hj]

theorem Inv.gs_setG (j : Nat) (h : Fits32 x) : (v.setG k x).gs j = if j = k then x else v.gs j := Inv.gs_pokeG v hk x j h

theorem Inv.gs_setSat (j : Nat) : (v.setSat k x).gs j = if j = k then sat32 x else v.gs j := Inv.gs_setG _ hk _ j (fits32_sat32 x)

end Writes

/-- The pair of registers that is written. -/
theorem Inv.gs_setPair (v : Inv) {k : Nat} (hk : k ≤ 14) (x y : Int) :
    (v.setPair k x y).gs k = sat32 x ∧ (v.setPair k x y).gs (k + 1) = sat32 y := by
  unfold Inv.setPair
  rw [Inv.gs_setSat _ (by omega), Inv.gs_setSat _ (by omega), if_pos rfl, if_neg (by omega)]
  exact ⟨rfl, (Inv.gs_pokeG _ (by omega) _ _ (fits32_sat32 y)).trans (if_pos rfl)⟩

/-- N and Z of a written register. -/
theorem Inv.setG_flags (v : Inv) (k : Nat) {x : Int} (h : Fits32 x) : (v.setG k x).n = decide (x < 0) ∧ (v.setG k x).z = decide (x = 0) :=
  ⟨bit_wordOfInt h, wordOfInt_beq_zero h⟩

/-- N and Z follow Gd. -/
def Inv.FlagsFollow (v : Inv) (k : Nat) : Prop := v.n = decide (v.gs k < 0) ∧ v.z = decide (v.gs k = 0)

theorem Inv.setSat_flagsFollow (v : Inv) {k : Nat} (hk : k < 16) (x : Int) : (v.setSat k x).FlagsFollow k := by
  unfold Inv.FlagsFollow
  rw [Inv.gs_setSat v hk, if_pos rfl]
  exact Inv.setG_flags _ _ (fits32_sat32 x)

/-- A write of one register leaves the rest, but for the sticky flags that come with it. -/
theorem Inv.setG_onlyWrote (v : Inv) {d : Nat} (hd : d < 16) {x : Int} (h : Fits32 x) (sat dz : Bool) :
    v.onlyWrote ({ v with sat := v.sat || sat, dz := v.dz || dz }.setG d x) d x sat dz = true := by
  have hgs (j : Nat) : ({ v with sat := v.sat || sat, dz := v.dz || dz }.setG d x).gs j = if j = d then x else v.gs j := Inv.gs_setG _ hd x j h
  obtain ⟨hn, hz⟩ := Inv.setG_flags { v with sat := v.sat || sat, dz := v.dz || dz } d h
  have hkept : (List.range 16).all (fun j =>
      j == d || decide (({ v with sat := v.sat || sat, dz := v.dz || dz }.setG d x).gs j = v.gs j)) = true :=
    List.all_eq_true.2 fun j _ => by
      rw [hgs]
      by_cases hj : j = d <;> simp [hj]
  unfold Inv.onlyWrote
  rw [hkept, hgs, hn, hz, if_pos rfl, Inv.setG_eq _ hd]
  simp

/-- One through sat32 sets SAT where it clamps. -/
theorem Inv.setSat_onlyWrote (v : Inv) {d : Nat} (hd : d < 16) (x : Int) (sat : Bool) :
    v.onlyWrote ((v.noteSat sat).setSat d x) d (sat32 x) (sat || (clampTo 31 x).2) false = true := by
  have h := Inv.setG_onlyWrote v hd (fits32_sat32 x) (sat || (clampTo 31 x).2) false
  rw [Bool.or_false, ← Bool.or_assoc] at h
  exact h

theorem Inv.setSat_onlyWrote_alone (v : Inv) {d : Nat} (hd : d < 16) (x : Int) :
    v.onlyWrote (v.setSat d x) d (sat32 x) (clampTo 31 x).2 false = true := by
  have h := Inv.setSat_onlyWrote v hd x false
  unfold Inv.noteSat at h
  rwa [Bool.or_false, Bool.false_or] at h

/-- The same, the clamp told by the limits. -/
theorem Inv.setSat_onlyWrote_limits (v : Inv) {d : Nat} (hd : d < 16) (x : Int) (sat : Bool) :
    v.onlyWrote ((v.noteSat sat).setSat d x) d (sat32 x) (sat || decide (2147483647 < x ∨ x < -2147483648)) false = true := by
  rw [← clampTo_31_snd]
  exact Inv.setSat_onlyWrote v hd x sat

/-- A value of 32 bits is written as it is. -/
theorem Inv.setG_onlyWrote_noteSat (v : Inv) {d : Nat} (hd : d < 16) {x : Int} (h : Fits32 x) (sat : Bool) :
    v.onlyWrote ((v.noteSat sat).setG d x) d x sat false = true := by
  have h := Inv.setG_onlyWrote v hd h sat false
  rw [Bool.or_false] at h
  exact h

/-! ### The course of an invocation (R66, R117) -/

/-- Where an invocation stands: the program counter, the cycles left, the active body. -/
def Inv.course (v : Inv) : Nat × Nat × Option LoopU := (v.pc, v.left, v.loop)

theorem Inv.setG_course (v : Inv) (k : Nat) (x : Int) : (v.setG k x).course = v.course := by
  unfold Inv.setG Inv.pokeG
  split <;> rfl

theorem Inv.setPair_course (v : Inv) (k : Nat) (x y : Int) : (v.setPair k x y).course = v.course := by
  refine (Inv.setG_course _ _ _).trans ?_
  unfold Inv.pokeG
  split <;> rfl

/-- What an invocation holds apart from its course and what its outputs changed. -/
def Inv.results (v : Inv) : Inv := { v with left := 0, pc := 0, single := false, loop := none, unseen := [], asked := 0 }

/-- Going on changes none of it. -/
theorem Inv.onward_results (v : Inv) (cyc : Nat) (single : Bool) : (v.onward cyc single).results = v.results := by
  unfold Inv.onward
  repeat' split
  all_goals rfl

/-- Where the program goes on in order (R117). -/
def Inv.nextPc (v : Inv) : Nat :=
  match v.loop with
  | some l => if v.pc = l.last ∧ 1 < l.left then l.first else v.pc + 1
  | none => v.pc + 1

/-! ### Rows that complete -/

section Completion
variable {s t : State} {e : Eng} {v u : Inv} {w : Word} {op : PickOp}

/-- A state in which engine `e`, which ran `v`, has completed a row in `n` cycles with the results of `u`. -/
structure State.Completed (t : State) (e : Eng) (v : Inv) (n : Nat) (u : Inv) : Prop where
  runs : (t.eng e.val).run.isSome = true
  left : (t.invOf e.val v).left = v.left - n
  pc : (t.invOf e.val v).pc = v.nextPc
  results : (t.invOf e.val v).results = u.results

namespace State.Completed
variable {n : Nat} (h : t.Completed e v n u)
include h

/-- Outside a loop the program goes on at the next word. -/
theorem straight (hloop : v.loop = none) : (t.invOf e.val v).pc = v.pc + 1 := by
  rw [h.pc]
  unfold Inv.nextPc
  rw [hloop]

/-- What is no part of the course reads as in the results. -/
theorem reads {α : Sort*} (p : Inv → α) (hp : ∀ x : Inv, p x.results = p x) : p (t.invOf e.val v) = p u := by
  rw [← hp, h.results, hp]

theorem gs (k : Nat) : (t.invOf e.val v).gs k = u.gs k := h.reads (fun x => x.gs k) fun _ => rfl

theorem nr : (t.invOf e.val v).nr = u.nr := h.reads Inv.nr fun _ => rfl

theorem data : (t.invOf e.val v).data = u.data := h.reads Inv.data fun _ => rfl

theorem onlyWrote {v' : Inv} {d : Nat} {x : Int} {sat dz : Bool} (hu : v'.onlyWrote u d x sat dz = true) :
    v'.onlyWrote (t.invOf e.val v) d x sat dz = true := (h.reads (fun y => v'.onlyWrote y d x sat dz) fun _ => rfl).trans hu

theorem flagsFollow {k : Nat} (hu : u.FlagsFollow k) : (t.invOf e.val v).FlagsFollow k := (h.reads (fun x => x.FlagsFollow k) fun _ => rfl).mpr hu

end State.Completed

/-- An engine that runs on with the results of a row has completed it. -/
theorem State.Completed.of_run {n asked : Nat} {single : Bool} (hrun : (t.eng e.val).run = some { u.onward n single with asked := asked })
    (hcourse : u.course = v.course) : t.Completed e v n u := by
  simp only [Inv.course, Prod.mk.injEq] at hcourse
  obtain ⟨hpc, hleft, hloop⟩ := hcourse
  have hinv : t.invOf e.val v = { u.onward n single with asked := asked } := by
    unfold State.invOf
    rw [hrun, Option.getD_some]
  constructor
  case runs => rw [hrun, Option.isSome_some]
  case left =>
    rw [hinv, ← hleft]
    exact Inv.onward_left _ _ _
  case pc =>
    rw [hinv]
    refine (Inv.onward_pc u n single).trans ?_
    rw [hpc, hloop]
    rfl
  case results =>
    rw [hinv]
    exact Inv.onward_results _ _ _

/-- The row that an engine comes to with its cycles left. -/
theorem State.pickDo_eq {e cyc : Nat} {f : Inv → Word → Inv} {out : State → Inv → Word → State} (hfetch : s.pickFetch e op = some (v, w))
    (hleft : cyc ≤ v.left) : s.pickDo e op cyc f out = out (s.setRun e ((f v w).onward cyc (decide (cyc = 1)))) v w := by
  unfold State.pickDo
  rw [hfetch]
  exact if_neg (Nat.not_lt.2 hleft)

/-- A row without an output completes, and changes nothing but the invocation. -/
theorem exec_alu {c : Instr} {f : Inv → Word → Inv} (hexec : exec c s = .next (s.pickAlu e.val op f))
    (hfetch : s.pickFetch e.val op = some (v, w)) (hleft : op.cycles false ≤ v.left) (hcourse : (f v w).course = v.course) :
    ∃ t, exec c s = .next t ∧ t.Completed e v (op.cycles false) (f v w) ∧ t = s.setRun e.val (t.invOf e.val v) := by
  have heq : s.pickAlu e.val op f = _ := State.pickDo_eq hfetch hleft
  refine ⟨_, hexec.trans (congrArg Host.Outcome.next heq), .of_run (State.run_setRun _ _ _) hcourse, ?_⟩
  rw [State.invOf_setRun]
  rfl

/-- The fields of a row's word are those of R92. -/
theorem State.pickFetch_fields (hfetch : s.pickFetch e.val op = some (v, w)) : pickFieldsOk op w v.pc = true := by
  have hdecode : pickDecode w v.pc v.loop.isSome = some op := by
    unfold State.pickFetch at hfetch
    rw [State.pickFetch_some hfetch] at hfetch
    dsimp only at hfetch
    split at hfetch
    · assumption
    · simp at hfetch
  unfold pickDecode at hdecode
  split at hdecode
  · simp at hdecode
  · split at hdecode
    · split at hdecode
      · next hok =>
        obtain rfl := Option.some.inj hdecode
        exact (Bool.and_eq_true_iff.1 hok).1
      · simp at hdecode
    · simp at hdecode

end Completion

end Sys2Proof.Machine
end

section
/-! SUPPORT. The accumulators (R100, R101): MAC, MSU and SAT. -/

namespace Sys2Proof.Machine

/-! ### Operands (R86 to R89) -/

theorem pwOpt_lt (w : Word) : pwOpt w < 4 := bits_lt w 10 2

/-- An operand is a value of 32 bits, an immediate saturated to them. -/
theorem State.fits32_operand (s : State) (e : Nat) (v : Inv) (w : Word) (q16 : Bool) (plus : Nat) : Fits32 (s.operand e v w q16 plus).1 := by
  unfold State.operand
  split
  · exact v.fits32_gs _
  · exact fits32_toInt _
  · exact fits32_toInt _
  · cases q16 with
    | false => exact fits32_sat32 _
    | true =>
      have hlo := BitVec.le_toInt (BitVec.ofNat 10 (pwLow w))
      have hhi := BitVec.toInt_lt (x := BitVec.ofNat 10 (pwLow w))
      show Fits32 (immOf w * 1024)
      unfold Fits32 immOf
      omega

/-- A row over Ga and val(b) notes the saturation of its operand first. -/
theorem State.binOp_eq (s : State) (e : Nat) (v : Inv) (w : Word) (f : Inv → Int → Int → Inv) :
    s.binOp e v w f = f (v.noteSat (s.operand e v w (pwQ16 w)).2) (v.gs (pwA w)) (s.operand e v w (pwQ16 w)).1 := rfl

/-! ### MAC and MSU (R100) -/

/-- What MAC and MSU add to. -/
def Inv.macBase (v : Inv) (w : Word) : Int :=
  match pwOpt w with
  | 0 => 0
  | 1 => v.gs (pwD w)
  | 2 => v.a0
  | _ => v.a1

/-- The sum `x`, clamped to 48 bits, goes to the accumulator named and, saturated, to Gd. -/
theorem State.macOp_onlyWrote (s : State) (e : Nat) (sign : Int) (v : Inv) (w : Word) {x : Int} (hx : v.macBase w + sign * s.pickProduct e v w = x) :
    ({ v with a0 := if pwOpt w = 2 then (clampTo 47 x).1 else v.a0, a1 := if pwOpt w = 3 then (clampTo 47 x).1 else v.a1 } : Inv).onlyWrote
      (s.macOp e sign v w) (pwD w) (sat32 (clampTo 47 x).1) ((clampTo 47 x).2 || (clampTo 31 (clampTo 47 x).1).2) false = true := by
  subst hx
  exact Inv.setSat_onlyWrote { v with
    a0 := if pwOpt w = 2 then (clampTo 47 (v.macBase w + sign * s.pickProduct e v w)).1 else v.a0
    a1 := if pwOpt w = 3 then (clampTo 47 (v.macBase w + sign * s.pickProduct e v w)).1 else v.a1 } (pwD_lt w) _ _

/-! ### SAT (R101) -/

/-- The accumulator read. -/
def Inv.satRead (v : Inv) (w : Word) : Inv :=
  if pwOpt w = 1 then { v.setSat (pwD w) v.a0 with a0 := 0 } else { v.setSat (pwD w) v.a1 with a1 := 0 }

/-- It writes Gd in the invocation whose accumulator is cleared. -/
theorem Inv.satRead_eq (v : Inv) (w : Word) : v.satRead w =
    if pwOpt w = 1 then ({ v with a0 := 0 } : Inv).setSat (pwD w) v.a0 else ({ v with a1 := 0 } : Inv).setSat (pwD w) v.a1 := by
  unfold Inv.satRead Inv.setSat
  simp only [Inv.setG_eq _ (pwD_lt w)]
  rfl

theorem Inv.satRead_course (v : Inv) (w : Word) : (v.satRead w).course = v.course := by
  rw [Inv.satRead_eq]
  split <;> exact Inv.setG_course _ _ _

theorem Inv.satRead_onlyWrote (v : Inv) (w : Word) :
    (pwOpt w = 1 → ({ v with a0 := 0 } : Inv).onlyWrote (v.satRead w) (pwD w) (sat32 v.a0) (clampTo 31 v.a0).2 false = true) ∧
    (pwOpt w = 2 → ({ v with a1 := 0 } : Inv).onlyWrote (v.satRead w) (pwD w) (sat32 v.a1) (clampTo 31 v.a1).2 false = true) := by
  rw [Inv.satRead_eq]
  refine ⟨fun hopt => ?_, fun hopt => ?_⟩
  · rw [if_pos hopt]
    exact Inv.setSat_onlyWrote_alone _ (pwD_lt w) _
  · rw [if_neg (by rw [hopt]; decide)]
    exact Inv.setSat_onlyWrote_alone _ (pwD_lt w) _

/-- Settles O21: each row by what it computes, completed as every row without an output. -/
theorem pickAccumulates : Obligations.PickAccumulates := by
  refine ⟨fun s e v w hfetch hleft => ?_, fun s e v w hfetch hleft => ?_, fun s e v w hfetch hleft => ?_, fun s e v w hfetch hleft => ?_,
    fun s e v w hfetch hleft => ?_⟩
  · obtain ⟨t, hexec, h, honly⟩ := exec_alu (c := .mac e) rfl hfetch hleft (Inv.setG_course _ _ _)
    exact ⟨t, hexec, h.runs, h.left, h.straight, h.pc, honly, h.onlyWrote (s.macOp_onlyWrote _ _ _ _ (congrArg _ (Int.one_mul _)))⟩
  · obtain ⟨t, hexec, h, honly⟩ := exec_alu (c := .msu e) rfl hfetch hleft (Inv.setG_course _ _ _)
    exact ⟨t, hexec, h.runs, h.left, h.straight, h.pc, honly, h.onlyWrote (s.macOp_onlyWrote _ _ _ _ (congrArg _ (Int.neg_one_mul _)))⟩
  · obtain ⟨t, hexec, h, honly⟩ := exec_alu (c := .satMove e) rfl hfetch hleft (Inv.setG_course _ _ _)
    exact ⟨t, hexec, h.runs, h.left, h.straight, h.pc, honly,
      h.onlyWrote (Inv.setG_onlyWrote_noteSat v (pwD_lt w) (s.fits32_operand _ _ _ _ _) _)⟩
  · obtain ⟨t, hexec, h, honly⟩ := exec_alu (c := .satAccumulatorRead e) rfl hfetch hleft (v.satRead_course w)
    obtain ⟨h0, h1⟩ := v.satRead_onlyWrote w
    exact ⟨t, hexec, h.runs, h.left, h.straight, h.pc, honly, fun hopt => h.onlyWrote (h0 hopt), fun hopt => h.onlyWrote (h1 hopt)⟩
  · obtain ⟨t, hexec, h, honly⟩ := exec_alu (c := .satStore e) rfl hfetch hleft rfl
    refine ⟨t, hexec, h.runs, h.left, h.straight, h.pc, honly, ?_, fun a ha => ?_,
      (h.reads (fun x => x.g = v.g ∧ x.n = v.n ∧ x.z = v.z ∧ x.sat = v.sat ∧ x.a0 = v.a0 ∧ x.a1 = v.a1) fun _ => rfl).mpr
        ⟨rfl, rfl, rfl, rfl, rfl, rfl⟩⟩
    · rw [h.data, dataWord_setData, if_pos rfl]
    · rw [h.data, dataWord_setData, if_neg ha]

end Sys2Proof.Machine
end

section
/-! SUPPORT. Arithmetic and control (R102 to R107): LIM, ABS, DIV, SQT, PIS and RSC. -/

namespace Sys2Proof.Machine

/-- A row over Ga and val(b) stands where its operation leaves it. -/
theorem State.binOp_course (s : State) (e : Nat) (v : Inv) (w : Word) {f : Inv → Int → Int → Inv} (h : ∀ v a b, (f v a b).course = v.course) :
    (s.binOp e v w f).course = v.course := h _ _ _

/-! ### LIM (R102) -/

/-- The limits by the option. -/
def limLow (opt : Nat) (b : Int) : Int :=
  match opt with
  | 0 => -(min (b.natAbs : Int) 2147483647)
  | 1 => -2147483648
  | _ => b
def limHigh (opt : Nat) (b b1 : Int) : Int :=
  match opt with
  | 0 => min (b.natAbs : Int) 2147483647
  | 1 => b
  | 2 => 2147483647
  | _ => b1

/-- LIM's result lies between them, the lower first. -/
theorem limValue_eq (opt : Nat) (a b b1 : Int) :
    limValue opt a b b1 = min (max a (limLow opt b)) (max (limLow opt b) (limHigh opt b b1)) := by
  have hhigh : (if limHigh opt b b1 < limLow opt b then limLow opt b else limHigh opt b b1) = max (limLow opt b) (limHigh opt b b1) := by omega
  rw [← hhigh]
  rfl

/-- The result by the option. -/
theorem limValue_cases {a b : Int} (ha : Fits32 a) (hb : Fits32 b) (b1 : Int) :
    limValue 0 a b b1 = min (max a (-(min (b.natAbs : Int) 2147483647))) (min (b.natAbs : Int) 2147483647) ∧
    limValue 1 a b b1 = min a b ∧
    limValue 2 a b b1 = max a b ∧
    limValue 3 a b b1 = min (max a b) (max b b1) := by
  unfold Fits32 at *
  simp only [limValue_eq, limLow, limHigh]
  exact ⟨by omega, by omega, by omega, trivial⟩

/-- It is a value of 32 bits. -/
theorem fits32_limValue (opt : Nat) {a b b1 : Int} (ha : Fits32 a) (hb : Fits32 b) (hb1 : Fits32 b1) : Fits32 (limValue opt a b b1) := by
  have hlow : Fits32 (limLow opt b) := by
    unfold Fits32 limLow at *
    split <;> omega
  have hhigh : Fits32 (limHigh opt b b1) := by
    unfold Fits32 limHigh at *
    split <;> omega
  rw [limValue_eq]
  unfold Fits32 at *
  omega

/-- An operand does not rest on SAT. -/
theorem State.operand_noteSat (s : State) (e : Nat) (v : Inv) (sat : Bool) (w : Word) (q16 : Bool) (plus : Nat) :
    s.operand e (v.noteSat sat) w q16 plus = s.operand e v w q16 plus := rfl

/-- LIM over Ga, val(b) and the second word of the operand. -/
def State.limOp (s : State) (e : Nat) (v : Inv) (w : Word) : Inv :=
  s.binOp e v w (fun v a b => v.setG (pwD w) (limValue (pwOpt w) a b (s.operand e v w (pwQ16 w) 1).1))

theorem State.limOp_course (s : State) (e : Nat) (v : Inv) (w : Word) : (s.limOp e v w).course = v.course :=
  s.binOp_course _ _ _ fun _ _ _ => Inv.setG_course _ _ _

/-- LIM writes the result of its option. -/
theorem State.lim_onlyWrote (s : State) (e : Nat) (v : Inv) (w : Word) :
    v.onlyWrote (s.limOp e v w) (pwD w) (limValue (pwOpt w) (v.gs (pwA w)) (s.operand e v w (pwQ16 w)).1 (s.operand e v w (pwQ16 w) 1).1)
      (s.operand e v w (pwQ16 w)).2 false = true := by
  unfold State.limOp
  rw [State.binOp_eq, State.operand_noteSat]
  exact Inv.setG_onlyWrote_noteSat v (pwD_lt w) (fits32_limValue _ (v.fits32_gs _) (s.fits32_operand _ _ _ _ _) (s.fits32_operand _ _ _ _ _)) _

/-! ### DIV and SQT (R104, R105) -/

/-- DIV over `a` and `b`. -/
def Inv.divide (w : Word) (v : Inv) (a b : Int) : Inv :=
  if b = 0 then { v.setG (pwD w) (if a = 0 then 0 else if 0 < a then 2147483647 else -2147483648) with dz := true }
  else v.setSat (pwD w) ((a * 2 ^ pwF w).tdiv b)

theorem Inv.divide_course (w : Word) (v : Inv) (a b : Int) : (v.divide w a b).course = v.course := by
  unfold Inv.divide
  split <;> exact Inv.setG_course _ _ _

/-- A zero divisor gives the extreme of the dividend's sign, with DZ. -/
theorem Inv.divide_zero (w : Word) (v : Inv) (sat : Bool) (a : Int) :
    v.onlyWrote ((v.noteSat sat).divide w a 0) (pwD w) (if a = 0 then 0 else if 0 < a then 2147483647 else -2147483648) sat true = true := by
  have hfits : Fits32 (if a = 0 then 0 else if 0 < a then 2147483647 else -2147483648) := by
    unfold Fits32
    split
    · decide
    · split <;> decide
  have h := Inv.setG_onlyWrote v (pwD_lt w) hfits sat true
  unfold Inv.divide Inv.noteSat
  rw [if_pos rfl]
  rw [Inv.setG_eq _ (pwD_lt w), Bool.or_true] at h
  rwa [Inv.setG_eq _ (pwD_lt w)]

/-- Any other gives the quotient. -/
theorem Inv.divide_nonzero (w : Word) (v : Inv) (sat : Bool) (a : Int) {b : Int} (hb : b ≠ 0) :
    v.onlyWrote ((v.noteSat sat).divide w a b) (pwD w) (sat32 ((a * 2 ^ pwF w).tdiv b))
      (sat || decide (2147483647 < (a * 2 ^ pwF w).tdiv b ∨ (a * 2 ^ pwF w).tdiv b < -2147483648)) false = true := by
  unfold Inv.divide
  rw [if_neg hb]
  exact Inv.setSat_onlyWrote_limits v (pwD_lt w) _ _

/-- SQT over `b`. -/
def Inv.root (w : Word) (v : Inv) (b : Int) : Inv :=
  if b < 0 then (v.noteSat true).setG (pwD w) 0 else v.setSat (pwD w) (isqrt (b.toNat * 2 ^ pwF w))

theorem Inv.root_course (w : Word) (v : Inv) (b : Int) : (v.root w b).course = v.course := by
  unfold Inv.root
  split <;> exact Inv.setG_course _ _ _

/-- A negative operand gives 0 with SAT. -/
theorem Inv.root_negative (w : Word) (v : Inv) (sat : Bool) {b : Int} (hb : b < 0) :
    v.onlyWrote ((v.noteSat sat).root w b) (pwD w) 0 true false = true := by
  have hsat : (v.noteSat sat).noteSat true = v.noteSat true := by
    unfold Inv.noteSat
    simp
  unfold Inv.root
  rw [if_pos hb, hsat]
  exact Inv.setG_onlyWrote_noteSat v (pwD_lt w) ⟨by decide, by decide⟩ true

/-- Any other gives its root. -/
theorem Inv.root_nonneg (w : Word) (v : Inv) (sat : Bool) {b : Int} (hb : 0 ≤ b) :
    v.onlyWrote ((v.noteSat sat).root w b) (pwD w) (sat32 (isqrt (b.toNat * 2 ^ pwF w)))
      (sat || decide (2147483647 < (isqrt (b.toNat * 2 ^ pwF w) : Int) ∨ (isqrt (b.toNat * 2 ^ pwF w) : Int) < -2147483648)) false = true := by
  unfold Inv.root
  rw [if_neg (Int.not_lt.2 hb)]
  exact Inv.setSat_onlyWrote_limits v (pwD_lt w) _ _

/-! ### PIS and RSC (R106, R107) -/

/-- The sum that PIS limits, clamped to 48 bits. -/
def piSum (f : Nat) (kp ki i x : Int) : Int × Bool := clampTo 47 (rshr (kp * x) f + i + rshr (ki * x) f)

/-- The integrator before its saturation: back-calculated where the sum is limited. -/
def piIntegrator (f : Nat) (kp ki hi lo i x : Int) : Int :=
  if max hi lo < (piSum f kp ki i x).1 then max hi lo - rshr (kp * x) f
  else if (piSum f kp ki i x).1 < lo then lo - rshr (kp * x) f else i + rshr (ki * x) f

/-- A step of a PI controller. -/
theorem piStep_eq (f : Nat) (kp ki hi lo i x : Int) : piStep f kp ki hi lo i x =
    ⟨if max hi lo < (piSum f kp ki i x).1 then max hi lo else if (piSum f kp ki i x).1 < lo then lo else (piSum f kp ki i x).1,
      sat32 (piIntegrator f kp ki hi lo i x), (piSum f kp ki i x).2 || (clampTo 31 (piIntegrator f kp ki hi lo i x)).2⟩ := by
  have hmax : (if hi < lo then lo else hi) = max hi lo := by omega
  unfold piStep piIntegrator piSum
  dsimp only
  rw [hmax]
  generalize clampTo 47 (rshr (kp * x) f + i + rshr (ki * x) f) = u
  by_cases hover : max hi lo < u.1
  · simp only [if_pos hover]
    rfl
  · by_cases hunder : u.1 < lo
    · simp only [if_neg hover, if_pos hunder]
      rfl
    · simp only [if_neg hover, if_neg hunder]
      rfl

/-- Its output is a value of 32 bits where its bounds are. -/
theorem fits32_piStep {hi lo : Int} (hhi : Fits32 hi) (hlo : Fits32 lo) (f : Nat) (kp ki i x : Int) : Fits32 (piStep f kp ki hi lo i x).out := by
  rw [piStep_eq]
  unfold Fits32 at *
  dsimp only
  split
  · omega
  · split <;> omega

/-- The step of PIS. -/
def State.pisStep (s : State) (e : Nat) (v : Inv) (w : Word) : PiStep :=
  piStep (pwF w) (s.coefOf e v (pwB w)).toInt (s.coefOf e v (pwB w + 1)).toInt
    (if pwOpt w = 1 then (s.trackOf (e / 2)).toInt else (s.coefOf e v (pwB w + 2)).toInt) (s.coefOf e v (pwB w + 3)).toInt
    (dataWord v.data (pwLow w)).toInt (v.gs (pwA w))

/-- PIS writes Gd in the invocation whose integrator is stored. -/
theorem State.pisOp_eq (s : State) (e : Nat) (v : Inv) (w : Word) : s.pisOp e v w =
    (({ v with data := setData v.data (pwLow w) (wordOfInt (s.pisStep e v w).int) } : Inv).noteSat (s.pisStep e v w).sat).setG (pwD w)
      (s.pisStep e v w).out := by
  rw [Inv.setG_eq _ (pwD_lt w)]
  unfold State.pisOp
  dsimp only
  rw [Inv.setG_eq _ (pwD_lt w)]
  rfl

theorem State.pisOp_onlyWrote (s : State) (e : Nat) (v : Inv) (w : Word) :
    ({ v with data := setData v.data (pwLow w) (wordOfInt (s.pisStep e v w).int) } : Inv).onlyWrote (s.pisOp e v w) (pwD w)
      (s.pisStep e v w).out (s.pisStep e v w).sat false = true := by
  have hhi : Fits32 (if pwOpt w = 1 then (s.trackOf (e / 2)).toInt else (s.coefOf e v (pwB w + 2)).toInt) := by
    split <;> exact fits32_toInt _
  rw [State.pisOp_eq]
  exact Inv.setG_onlyWrote_noteSat _ (pwD_lt w) (fits32_piStep hhi (fits32_toInt _) _ _ _ _ _) _

/-- The stored integrator. -/
theorem State.pisOp_data (s : State) (e : Nat) (v : Inv) (w : Word) :
    (s.pisOp e v w).data = setData v.data (pwLow w) (wordOfInt (s.pisStep e v w).int) := by
  rw [State.pisOp_eq, Inv.setG_eq _ (pwD_lt w)]
  rfl

/-- RSC over its operand `x`. -/
def Inv.rescale (w : Word) (v : Inv) (x : Word) : Inv := if pwD w = 0 then { v with opv0 := x } else { v with opv1 := x }

theorem Inv.rescale_course (w : Word) (v : Inv) (x : Word) : (v.rescale w x).course = v.course := by
  unfold Inv.rescale
  split <;> rfl

/-- It writes the operating-point word that the row names, and leaves the other and the registers. -/
theorem Inv.rescale_writes (w : Word) (v : Inv) (x : Word) :
    (if pwD w = 0 then (v.rescale w x).opv0 else (v.rescale w x).opv1) = x ∧
    (if pwD w = 0 then (v.rescale w x).opv1 = v.opv1 else (v.rescale w x).opv0 = v.opv0) ∧
    (v.rescale w x).g = v.g ∧ (v.rescale w x).n = v.n ∧ (v.rescale w x).z = v.z ∧ (v.rescale w x).sat = v.sat ∧
    (v.rescale w x).data = v.data := by
  unfold Inv.rescale
  by_cases hd : pwD w = 0
  · simp only [if_pos hd, and_self]
  · simp only [if_neg hd, and_self]

/-! ### The statement -/

/-- Settles O22: each row by what it computes, completed as every row without an output. -/
theorem pickArithmetic : Obligations.PickArithmetic := by
  refine ⟨fun s e v w hfetch hleft => ?_, fun s e v w hfetch hleft => ?_, fun s e v w hfetch hleft => ?_, fun s e v w hfetch hleft => ?_,
    fun s e v w hfetch hleft => ?_, fun s e v w hfetch hleft => ?_, fun s e v w hfetch hleft => ?_, fun s e v w hfetch hleft => ?_,
    fun s e v w hfetch hleft => ?_⟩
  · obtain ⟨t, hexec, h, honly⟩ := exec_alu (c := .lim e) (f := s.limOp e.val) rfl hfetch hleft (s.limOp_course e.val v w)
    have hlim := h.onlyWrote (s.lim_onlyWrote e.val v w)
    obtain ⟨hband, hmin, hmax, hpair⟩ := limValue_cases (v.fits32_gs (pwA w)) (s.fits32_operand e.val v w (pwQ16 w) 0)
      (s.operand e.val v w (pwQ16 w) 1).1
    refine ⟨t, hexec, h.runs, h.left, h.straight, h.pc, honly, fun hopt => ?_, fun hopt => ?_, fun hopt => ?_, fun hopt => ?_⟩
    · rwa [hopt, hband] at hlim
    · rwa [hopt, hmin] at hlim
    · rwa [hopt, hmax] at hlim
    · rwa [hopt, hpair] at hlim
  · obtain ⟨t, hexec, h, honly⟩ := exec_alu (c := .lim e) (f := s.limOp e.val) rfl hfetch hleft (s.limOp_course e.val v w)
    have hlim := h.onlyWrote (s.lim_onlyWrote e.val v w)
    obtain ⟨-, -, -, hpair⟩ := limValue_cases (v.fits32_gs (pwA w)) (s.fits32_operand e.val v w (pwQ16 w) 0)
      (s.operand e.val v w (pwQ16 w) 1).1
    exact ⟨t, hexec, h.runs, h.left, h.straight, h.pc, honly, fun hopt => by rwa [hopt, hpair] at hlim⟩
  · obtain ⟨t, hexec, h, honly⟩ := exec_alu (c := .abs e) rfl hfetch hleft (s.binOp_course _ _ _ fun _ _ _ => Inv.setG_course _ _ _)
    exact ⟨t, hexec, h.runs, h.left, h.straight, h.pc, honly, h.onlyWrote (Inv.setSat_onlyWrote_limits v (pwD_lt w) _ _)⟩
  · obtain ⟨t, hexec, h, honly⟩ := exec_alu (c := .negate e) rfl hfetch hleft (s.binOp_course _ _ _ fun _ _ _ => Inv.setG_course _ _ _)
    exact ⟨t, hexec, h.runs, h.left, h.straight, h.pc, honly, h.onlyWrote (Inv.setSat_onlyWrote_limits v (pwD_lt w) _ _)⟩
  · obtain ⟨t, hexec, h, honly⟩ := exec_alu (c := .div e) (f := fun v w => s.binOp e.val v w (Inv.divide w)) rfl hfetch hleft
      (s.binOp_course _ _ _ (Inv.divide_course w))
    rw [State.binOp_eq] at h
    refine ⟨t, hexec, h.runs, h.left, h.straight, h.pc, honly, fun hb => h.onlyWrote (Inv.divide_nonzero w v _ _ hb), fun hb => h.onlyWrote ?_⟩
    rw [hb]
    exact Inv.divide_zero w v _ _
  · obtain ⟨t, hexec, h, honly⟩ := exec_alu (c := .sqt e) (f := fun v w => s.binOp e.val v w (fun v _ b => v.root w b)) rfl hfetch hleft
      (s.binOp_course _ _ _ fun _ _ _ => Inv.root_course _ _ _)
    rw [State.binOp_eq] at h
    exact ⟨t, hexec, h.runs, h.left, h.straight, h.pc, honly, fun hb => h.onlyWrote (Inv.root_negative w v _ hb),
      fun hb => h.onlyWrote (Inv.root_nonneg w v _ hb)⟩
  · obtain ⟨t, hexec, h, honly⟩ := exec_alu (c := .sqtMagnitude e) rfl hfetch hleft (s.binOp_course _ _ _ fun _ _ _ => Inv.setG_course _ _ _)
    refine ⟨t, hexec, h.runs, h.left, h.straight, h.pc, honly, h.onlyWrote ?_⟩
    rw [Nat.pow_two, Nat.pow_two]
    exact Inv.setSat_onlyWrote_limits v (pwD_lt w) _ _
  · obtain ⟨t, hexec, h, honly⟩ := exec_alu (c := .pis e) rfl hfetch hleft (Inv.setG_course _ _ _)
    have hout := h.onlyWrote (s.pisOp_onlyWrote e.val v w)
    have hdata := h.data.trans (s.pisOp_data e.val v w)
    have hstep : s.pisStep e.val v w = _ := piStep_eq _ _ _ _ _ _ _
    rw [hstep] at hout hdata
    refine ⟨t, hexec, h.runs, h.left, h.straight, h.pc, honly, hout, ?_, fun a ha => ?_⟩
    · rw [hdata, dataWord_setData, if_pos rfl]
      rfl
    · rw [hdata, dataWord_setData, if_neg ha]
  · obtain ⟨t, hexec, h, honly⟩ := exec_alu (c := .rsc e) (f := fun v w => v.rescale w (wordOfInt (s.operand e.val v w true).1)) rfl hfetch hleft
      (Inv.rescale_course _ _ _)
    obtain ⟨hword, hother, hrest⟩ := Inv.rescale_writes w v (wordOfInt (s.operand e.val v w true).1)
    exact ⟨t, hexec, h.runs, h.left, h.straight, h.pc, honly,
      (h.reads (fun x => if pwD w = 0 then x.opv0 else x.opv1) fun _ => rfl).trans hword,
      (h.reads (fun x => if pwD w = 0 then x.opv1 = v.opv1 else x.opv0 = v.opv0) fun _ => rfl).mpr hother,
      (h.reads (fun x => x.g = v.g ∧ x.n = v.n ∧ x.z = v.z ∧ x.sat = v.sat ∧ x.data = v.data) fun _ => rfl).mpr hrest⟩

end Sys2Proof.Machine
end

section
/-! SUPPORT. The sine of the first quadrant (R97): its series does not exceed 1. -/

namespace Sys2Proof.Machine

/-! ### The series -/

/-- The terms of the sine's series in an argument of at most 2 fall from the first on. -/
theorem sineTerm_antitone {x : ℝ} (h0 : 0 ≤ x) (h2 : x ≤ 2) : Antitone fun n : ℕ => x ^ (2 * n + 1) / (2 * n + 1).factorial := by
  refine antitone_nat_of_succ_le fun n => ?_
  rw [show 2 * (n + 1) + 1 = 2 * n + 1 + 2 by ring, pow_add, div_le_div_iff₀ (by positivity) (by positivity)]
  have hfact : (4 : ℝ) * (2 * n + 1).factorial ≤ (2 * n + 1 + 2).factorial := by
    have hle : 4 * (2 * n + 1).factorial ≤ (2 * n + 1 + 2).factorial := calc
      4 * (2 * n + 1).factorial = (2 * n + 1).factorial * 2 ^ 2 := Nat.mul_comm _ _
      _ ≤ (2 * n + 1).factorial * (2 * n + 1 + 1) ^ 2 := Nat.mul_le_mul_left _ (Nat.pow_le_pow_left (by omega) 2)
      _ ≤ (2 * n + 1 + 2).factorial := Nat.factorial_mul_pow_le_factorial
    exact_mod_cast hle
  have hsq : x ^ 2 ≤ 4 := by nlinarith
  calc x ^ (2 * n + 1) * x ^ 2 * (2 * n + 1).factorial ≤ x ^ (2 * n + 1) * 4 * (2 * n + 1).factorial := by gcongr
    _ = x ^ (2 * n + 1) * (4 * (2 * n + 1).factorial) := by ring
    _ ≤ x ^ (2 * n + 1) * (2 * n + 1 + 2).factorial := by gcongr

/-- Its first 12 terms do not exceed 1: they do not exceed the sine. -/
theorem sineSeries_le_one {x : ℝ} (h0 : 0 ≤ x) (h2 : x ≤ 2) :
    ∑ n ∈ Finset.range 12, (-1) ^ n * (x ^ (2 * n + 1) / (2 * n + 1).factorial) ≤ 1 := by
  have hsum := (Real.hasSum_sin x).tendsto_sum_nat
  simp only [mul_div_assoc] at hsum
  exact ((sineTerm_antitone h0 h2).alternating_series_le_tendsto hsum 6).trans (Real.sin_le_one x)

/-- The divisors of the nested form of the series, innermost first. -/
def sineDivisors : List Nat := [506, 420, 342, 272, 210, 156, 110, 72, 42, 20, 6]

/-- One step of the nested form in units of 1/`m`, and in the reals. -/
def hornerWord (m x2 a d : Nat) : Nat := m - x2 * a / m / d
noncomputable def hornerReal (y b : ℝ) (d : Nat) : ℝ := 1 - y * b / d

/-- The angle of `r` au in 2^-60, and the model's sine by its nested form. -/
def angle60 (r : Nat) : Nat := r * twoPi60 / 2 ^ 32
theorem sinQuarter_eq (r : Nat) : sinQuarter r =
    (angle60 r * sineDivisors.foldl (hornerWord (2 ^ 60) (angle60 r * angle60 r / 2 ^ 60)) (2 ^ 60) / 2 ^ 60 + 2 ^ 28) / 2 ^ 29 := rfl

/-- The nested form is the sum of the first 12 terms. -/
theorem hornerReal_eq_series (x : ℝ) : x * sineDivisors.foldl (hornerReal (x ^ 2)) 1 =
    ∑ n ∈ Finset.range 12, (-1) ^ n * (x ^ (2 * n + 1) / (2 * n + 1).factorial) := by
  simp only [sineDivisors, List.foldl_cons, List.foldl_nil, hornerReal, Finset.sum_range_succ, Finset.sum_range_zero, Nat.factorial]
  push_cast
  ring

/-- A truncated quotient is less than 1 below the real one. -/
theorem natDiv_near (a b : ℕ) : (a : ℝ) / b - 1 ≤ (a / b : ℕ) ∧ ((a / b : ℕ) : ℝ) ≤ a / b := by
  refine ⟨?_, Nat.cast_div_le⟩
  rw [← Nat.floor_div_eq_div (K := ℝ)]
  exact (Nat.sub_one_lt_floor _).le

/-- A value in units of 1/`m` near its real number: at most 16 units off. -/
structure HornerNear (m a : ℕ) (b : ℝ) : Prop where
  near : |(a : ℝ) - m * b| ≤ 16
  le_one : a ≤ m
  nonneg : 0 ≤ b
  le_one' : b ≤ 1

section Horner
variable {m x2 : ℕ} {y : ℝ} (hm : 0 < m) (hx2 : |(x2 : ℝ) - m * y| ≤ 1) (hy0 : 0 ≤ y) (hy4 : y ≤ 4)
include hm hx2 hy0 hy4

/-- The product of a step, truncated. -/
theorem hornerProduct_near {a : ℕ} {b : ℝ} (h : HornerNear m a b) : |((x2 * a / m : ℕ) : ℝ) - m * (y * b)| ≤ 66 := by
  obtain ⟨hlo, hhi⟩ := natDiv_near (x2 * a) m
  have hm' : (0 : ℝ) < m := by exact_mod_cast hm
  have hle : (a : ℝ) ≤ m := by exact_mod_cast h.le_one
  have hsplit : ((x2 * a : ℕ) : ℝ) / m - m * (y * b) = (x2 - m * y) * (a / m) + y * (a - m * b) := by
    push_cast
    field_simp
    ring
  have hfirst : |((x2 : ℝ) - m * y) * (a / m)| ≤ 1 * 1 := by
    rw [abs_mul]
    refine mul_le_mul hx2 ?_ (abs_nonneg _) zero_le_one
    rw [abs_of_nonneg (by positivity)]
    exact (div_le_one hm').2 hle
  have hsecond : |y * ((a : ℝ) - m * b)| ≤ 4 * 16 := by
    rw [abs_mul, abs_of_nonneg hy0]
    exact mul_le_mul hy4 h.near (abs_nonneg _) (by norm_num)
  have hsum : |((x2 * a : ℕ) : ℝ) / m - m * (y * b)| ≤ 65 := by
    rw [hsplit]
    exact (abs_add_le _ _).trans (by linarith)
  rw [abs_le] at hsum ⊢
  exact ⟨by linarith, by linarith⟩

omit hy0 in
/-- The quotient of a step, which is taken from 1.0, does not exceed it. -/
theorem hornerQuotient_le {a d : ℕ} (ha : a ≤ m) (hd : 6 ≤ d) : x2 * a / m / d ≤ m := by
  have hsquare : x2 ≤ 4 * m + 1 := by
    have hnear := (abs_le.1 hx2).2
    have hm' : (0 : ℝ) < m := by exact_mod_cast hm
    exact_mod_cast (by nlinarith : (x2 : ℝ) ≤ 4 * m + 1)
  have hprod : x2 * a / m ≤ x2 := Nat.div_le_of_le_mul (by rw [Nat.mul_comm]; exact Nat.mul_le_mul_right _ ha)
  refine Nat.div_le_of_le_mul ?_
  nlinarith

/-- A step keeps near. -/
theorem HornerNear.step {a d : ℕ} {b : ℝ} (h : HornerNear m a b) (hd : 6 ≤ d) : HornerNear m (hornerWord m x2 a d) (hornerReal y b d) := by
  have hprod := hornerProduct_near hm hx2 hy0 hy4 h
  obtain ⟨hlo, hhi⟩ := natDiv_near (x2 * a / m) d
  have hd' : (6 : ℝ) ≤ d := by exact_mod_cast hd
  have hyb0 : 0 ≤ y * b := mul_nonneg hy0 h.nonneg
  have hyb4 : y * b ≤ 4 := by nlinarith [h.nonneg, h.le_one']
  have hdiv : y * b / d ≤ 1 := (div_le_one (by linarith)).2 (by linarith)
  have hle := hornerQuotient_le hm hx2 hy4 h.le_one hd
  have hoff : |((x2 * a / m : ℕ) : ℝ) / d - m * (y * b / d)| ≤ 11 := by
    rw [← mul_div_assoc, ← sub_div, abs_div, abs_of_nonneg (by linarith : (0 : ℝ) ≤ d), div_le_iff₀ (by linarith)]
    linarith
  constructor
  case near =>
    unfold hornerWord hornerReal
    rw [Nat.cast_sub hle, mul_sub, mul_one]
    rw [abs_le] at hoff ⊢
    exact ⟨by linarith, by linarith⟩
  case le_one => exact Nat.sub_le _ _
  case nonneg => exact sub_nonneg.2 hdiv
  case le_one' => exact sub_le_self _ (by positivity)

/-- So does a whole nested form. -/
theorem HornerNear.foldl {l : List ℕ} (hl : ∀ d ∈ l, 6 ≤ d) {a : ℕ} {b : ℝ} (h : HornerNear m a b) :
    HornerNear m (l.foldl (hornerWord m x2) a) (l.foldl (hornerReal y) b) := by
  induction l generalizing a b with
  | nil => exact h
  | cons d l ih =>
    rw [List.forall_mem_cons] at hl
    exact ih hl.2 (h.step hm hx2 hy0 hy4 hl.1)

end Horner

/-- An angle of the first quadrant is less than 2. -/
theorem angle60_le {r : Nat} (hr : r ≤ 2 ^ 30) : angle60 r ≤ 2 * 2 ^ 60 := by
  unfold angle60 twoPi60
  omega

/-- The square of an angle in units of 1/`m`, truncated. -/
theorem square_near {m : ℕ} (hm : 0 < m) (x : ℕ) : |((x * x / m : ℕ) : ℝ) - m * ((x : ℝ) / m) ^ 2| ≤ 1 := by
  obtain ⟨hlo, hhi⟩ := natDiv_near (x * x) m
  have hm' : (m : ℝ) ≠ 0 := by exact_mod_cast hm.ne'
  have heq : ((x * x : ℕ) : ℝ) / m = m * ((x : ℝ) / m) ^ 2 := by
    push_cast
    field_simp
  rw [heq] at hlo hhi
  rw [abs_le]
  exact ⟨by linarith, by linarith⟩

/-- The nested form in units of 1/`m`, times the angle `x`, exceeds 1 by at most 32 units. -/
theorem hornerWord_bound {m x : ℕ} (hm : 0 < m) (hx : x ≤ 2 * m) : x * sineDivisors.foldl (hornerWord m (x * x / m)) m / m ≤ m + 32 := by
  have hm' : (0 : ℝ) < m := by exact_mod_cast hm
  have hx' : (x : ℝ) / m ≤ 2 := (div_le_iff₀ hm').2 (by exact_mod_cast hx)
  have hx0 : 0 ≤ (x : ℝ) / m := by positivity
  have hnear : HornerNear m (sineDivisors.foldl (hornerWord m (x * x / m)) m) (sineDivisors.foldl (hornerReal (((x : ℝ) / m) ^ 2)) 1) :=
    HornerNear.foldl hm (square_near hm x) (by positivity) (by nlinarith) (by decide) ⟨by simp, le_rfl, zero_le_one, le_rfl⟩
  have hone : (x : ℝ) / m * sineDivisors.foldl (hornerReal (((x : ℝ) / m) ^ 2)) 1 ≤ 1 := by
    rw [hornerReal_eq_series]
    exact sineSeries_le_one hx0 hx'
  generalize sineDivisors.foldl (hornerWord m (x * x / m)) m = h at hnear ⊢
  generalize sineDivisors.foldl (hornerReal (((x : ℝ) / m) ^ 2)) 1 = b at hnear hone
  refine Nat.div_le_of_le_mul ?_
  have hh : (h : ℝ) ≤ m * b + 16 := by linarith [(abs_le.1 hnear.near).2]
  have hprod : (x : ℝ) * h ≤ m * (m + 32) := calc
    (x : ℝ) * h ≤ x * (m * b + 16) := by gcongr
    _ = m * (m * (x / m * b) + 16 * (x / m)) := by field_simp
    _ ≤ m * (m * 1 + 16 * 2) := by gcongr
    _ = m * (m + 32) := by ring
  exact_mod_cast hprod

/-- The sine of an angle of the first quadrant is at most 1.0. -/
theorem sinQuarter_le {r : Nat} (hr : r ≤ 2 ^ 30) : sinQuarter r ≤ 2 ^ 31 := by
  have hbound := hornerWord_bound (m := 2 ^ 60) (by decide) (angle60_le hr)
  rw [sinQuarter_eq]
  omega

/-- A sine is between -1.0 and 1.0. -/
theorem sinRef_natAbs_le (a : Word) : (sinRef a).natAbs ≤ 2 ^ 31 := by
  have hsum := sinQuarter_le (r := a.toNat % 2 ^ 30) (by omega)
  have hdiff := sinQuarter_le (r := 2 ^ 30 - a.toNat % 2 ^ 30) (by omega)
  unfold sinRef
  dsimp only
  split
  · exact (Int.natAbs_natCast _).trans_le hsum
  · exact (Int.natAbs_natCast _).trans_le hdiff
  · exact (Int.natAbs_neg _).trans_le ((Int.natAbs_natCast _).trans_le hsum)
  · exact (Int.natAbs_neg _).trans_le ((Int.natAbs_natCast _).trans_le hdiff)

end Sys2Proof.Machine
end

section
/-! SUPPORT. Sensing, angles, exchange and the transforms (R94 to R99, R112 to R114). -/

namespace Sys2Proof.Machine

/-! ### What the rows write (R91, R92) -/

theorem Inv.gs_setG_self (v : Inv) {k : Nat} (hk : k < 16) {x : Int} (h : Fits32 x) : (v.setG k x).gs k = x :=
  (Inv.gs_setG v hk x k h).trans (if_pos rfl)

theorem Inv.gs_setSat_self (v : Inv) {k : Nat} (hk : k < 16) (x : Int) : (v.setSat k x).gs k = sat32 x := (Inv.gs_setSat v hk x k).trans (if_pos rfl)

theorem Inv.setG_nr (v : Inv) (k : Nat) (x : Int) : (v.setG k x).nr = v.nr := by
  unfold Inv.setG Inv.pokeG
  split <;> rfl

theorem Inv.setPair_nr (v : Inv) (k : Nat) (x y : Int) : (v.setPair k x y).nr = v.nr := by
  refine (Inv.setG_nr _ _ _).trans ?_
  unfold Inv.pokeG
  split <;> rfl

theorem Inv.setPair_flagsFollow (v : Inv) {k : Nat} (hk : k < 16) (x y : Int) : (v.setPair k x y).FlagsFollow k := Inv.setSat_flagsFollow _ hk x

/-- A row that writes a pair of registers names one. -/
theorem pickFieldsOk_pair {op : PickOp} {w : Word} {pc : Nat} (h : pickFieldsOk op w pc = true)
    (hop : op = .scs ∨ op = .clk ∨ op = .prk ∨ op = .mmx ∧ pwOpt w = 2 ∨ op = .ipk ∧ pwOpt w = 0) : pwD w ≤ 14 := by
  rcases hop with rfl | rfl | rfl | ⟨rfl, hopt⟩ | ⟨rfl, hopt⟩
  all_goals
    simp only [pickFieldsOk, Bool.and_eq_true, Bool.or_eq_true, bne_iff_ne, decide_eq_true_eq] at h
    omega

/-! ### ACQ (R94) -/

/-- ACQ over what its entry shows. -/
def State.acquire (s : State) (v : Inv) (w : Word) (shown : Option (Nat × Nat × WinRes)) : Inv :=
  match shown with
  | some (c, j, r) => v.setG (pwD w) (s.acqValue c j (pwOpt w) r).toInt
  | none => { v.setG (pwD w) 0 with nr := true }

theorem State.acquire_course (s : State) (v : Inv) (w : Word) (shown : Option (Nat × Nat × WinRes)) : (s.acquire v w shown).course = v.course := by
  cases shown <;> exact Inv.setG_course _ _ _

/-- ACQ of an entry that shows no window. -/
theorem State.acquire_none (s : State) (v : Inv) (w : Word) : (s.acquire v w none).gs (pwD w) = 0 ∧ (s.acquire v w none).nr = true :=
  ⟨Inv.gs_setG_self v (pwD_lt w) ⟨by decide, by decide⟩, rfl⟩

/-- ACQ of a published window. -/
theorem State.acquire_some (s : State) (v : Inv) (w : Word) (c j : Nat) (r : WinRes) :
    (s.acquire v w (some (c, j, r))).gs (pwD w) = (s.acqValue c j (pwOpt w) r).toInt ∧ (s.acquire v w (some (c, j, r))).nr = v.nr :=
  ⟨Inv.gs_setG_self v (pwD_lt w) (fits32_toInt _), Inv.setG_nr _ _ _⟩

/-! ### MMX (R95) -/

/-- The numbers of a published record are values of 32 bits; where there is none, 0 stands for them. -/
theorem State.fits32_record (s : State) (e n : Nat) :
    Fits32 ((s.entryRecord e n).getD (0, 0)).1 ∧ Fits32 ((s.entryRecord e n).getD (0, 0)).2 := by
  have hzero : Fits32 0 := ⟨by decide, by decide⟩
  unfold State.entryRecord
  split
  · split
    · exact ⟨hzero, hzero⟩
    · exact ⟨fits32_toInt _, fits32_toInt _⟩
  · exact ⟨hzero, hzero⟩

/-- MMX over the numbers of a record. -/
def Inv.minMax (v : Inv) (w : Word) (mn mx : Int) : Inv :=
  match pwOpt w with
  | 0 => v.setG (pwD w) mn
  | 1 => v.setG (pwD w) mx
  | 2 => v.setPair (pwD w) mn mx
  | _ => v.setSat (pwD w) (mx - mn)

/-- MMX over the record of its entry. -/
def State.minMaxOp (s : State) (e : Nat) (v : Inv) (w : Word) : Inv :=
  Inv.minMax { v with nr := v.nr || (s.entryRecord e (pwB w)).isNone } w ((s.entryRecord e (pwB w)).getD (0, 0)).1
    ((s.entryRecord e (pwB w)).getD (0, 0)).2

/-- The number that the option selects. -/
def minMaxValue (w : Word) (mn mx : Int) : Int :=
  match pwOpt w with
  | 1 => mx
  | 3 => sat32 (mx - mn)
  | _ => mn

theorem minMaxValue_zero (w : Word) : minMaxValue w 0 0 = 0 := by
  unfold minMaxValue
  split <;> rfl

theorem Inv.minMax_course (v : Inv) (w : Word) (mn mx : Int) : (v.minMax w mn mx).course = v.course := by
  unfold Inv.minMax
  split
  · exact Inv.setG_course _ _ _
  · exact Inv.setG_course _ _ _
  · exact Inv.setPair_course _ _ _ _
  · exact Inv.setG_course _ _ _

theorem Inv.minMax_nr (v : Inv) (w : Word) (mn mx : Int) : (v.minMax w mn mx).nr = v.nr := by
  unfold Inv.minMax
  split
  · exact Inv.setG_nr _ _ _
  · exact Inv.setG_nr _ _ _
  · exact Inv.setPair_nr _ _ _ _
  · exact Inv.setG_nr _ _ _

theorem Inv.minMax_gs (v : Inv) {w : Word} (hpair : pwOpt w = 2 → pwD w ≤ 14) {mn mx : Int} (hmn : Fits32 mn) (hmx : Fits32 mx) :
    (v.minMax w mn mx).gs (pwD w) = minMaxValue w mn mx ∧ (pwOpt w = 2 → (v.minMax w mn mx).gs (pwD w + 1) = mx) := by
  have hlt := pwOpt_lt w
  have hd := pwD_lt w
  unfold Inv.minMax minMaxValue
  generalize pwOpt w = opt at hpair hlt
  match opt with
  | 0 => exact ⟨Inv.gs_setG_self v hd hmn, fun h => absurd h (by decide)⟩
  | 1 => exact ⟨Inv.gs_setG_self v hd hmx, fun h => absurd h (by decide)⟩
  | 2 =>
    obtain ⟨hfst, hsnd⟩ := Inv.gs_setPair v (hpair rfl) mn mx
    exact ⟨hfst.trans (sat32_of_fits hmn), fun _ => hsnd.trans (sat32_of_fits hmx)⟩
  | 3 => exact ⟨Inv.gs_setSat_self v hd _, fun h => absurd h (by decide)⟩

/-! ### SCS (R97) -/

/-- What SCS writes differs from the reference by its error, and where it clamps by 2 more at most. -/
theorem scsValue_near (a : Word) (cosine : Bool) : Fits32 (scsValue a cosine) ∧
    (scsValue a cosine - sinRef (if cosine then a + 0x40000000#32 else a)).natAbs ≤ 129 := by
  have href := sinRef_natAbs_le (if cosine then a + 0x40000000#32 else a)
  refine ⟨fits32_sat32 _, ?_⟩
  unfold scsValue
  dsimp only
  generalize sinRef (if cosine then a + 0x40000000#32 else a) = x at *
  generalize Config.scsError a cosine = err
  unfold clampTo
  dsimp only
  split
  · dsimp only
    omega
  · split
    · dsimp only
      omega
    · dsimp only
      omega

/-! ### CLK and IPK (R98) -/

/-- CLK by its option: from two phases, or from three. -/
def Inv.clarke (v : Inv) (w : Word) : Inv :=
  if pwOpt w = 0 then v.setPair (pwD w) (v.gs (pwA w)) (rshr (v.gs (pwA w) * kR3 + v.gs (pwB w) * k2R3) 31)
  else v.setPair (pwD w) (rshr (v.gs (pwA w) * kTwoThirds - v.gs (pwB w) * kThird - v.gs (pwB w + 1) * kThird) 31)
    (rshr (v.gs (pwB w) * kR3 - v.gs (pwB w + 1) * kR3) 31)

theorem Inv.clarke_course (v : Inv) (w : Word) : (v.clarke w).course = v.course := by
  unfold Inv.clarke
  split <;> exact Inv.setPair_course _ _ _ _

theorem Inv.clarke_flagsFollow (v : Inv) (w : Word) : (v.clarke w).FlagsFollow (pwD w) := by
  unfold Inv.clarke
  split <;> exact Inv.setPair_flagsFollow _ (pwD_lt w) _ _

theorem Inv.clarke_gs (v : Inv) {w : Word} (hd : pwD w ≤ 14) :
    (pwOpt w = 0 → (v.clarke w).gs (pwD w) = v.gs (pwA w) ∧
      (v.clarke w).gs (pwD w + 1) = sat32 (rshr (v.gs (pwA w) * kR3 + v.gs (pwB w) * k2R3) 31)) ∧
    (pwOpt w = 1 → (v.clarke w).gs (pwD w) = sat32 (rshr (v.gs (pwA w) * kTwoThirds - v.gs (pwB w) * kThird - v.gs (pwB w + 1) * kThird) 31) ∧
      (v.clarke w).gs (pwD w + 1) = sat32 (rshr (v.gs (pwB w) * kR3 - v.gs (pwB w + 1) * kR3) 31)) := by
  unfold Inv.clarke
  refine ⟨fun hopt => ?_, fun hopt => ?_⟩
  · rw [if_pos hopt]
    obtain ⟨hfst, hsnd⟩ := Inv.gs_setPair v hd (v.gs (pwA w)) (rshr (v.gs (pwA w) * kR3 + v.gs (pwB w) * k2R3) 31)
    exact ⟨hfst.trans (sat32_of_fits (v.fits32_gs _)), hsnd⟩
  · rw [if_neg (by rw [hopt]; decide)]
    exact Inv.gs_setPair v hd _ _

/-- IPK over the vector `al`, `be`: both components, or phase A, B or C. -/
def Inv.inversePark (v : Inv) (w : Word) (al be : Int) : Inv :=
  match pwOpt w with
  | 0 => v.setPair (pwD w) (rshr al 31) (rshr be 31)
  | 1 => v.setSat (pwD w) (rshr al 31)
  | 2 => v.setSat (pwD w) (rshr (be * kR32 - al * kHalf) 62)
  | _ => v.setSat (pwD w) (rshr (-(be * kR32) - al * kHalf) 62)

theorem Inv.inversePark_course (v : Inv) (w : Word) (al be : Int) : (v.inversePark w al be).course = v.course := by
  unfold Inv.inversePark
  split
  · exact Inv.setPair_course _ _ _ _
  all_goals exact Inv.setG_course _ _ _

theorem Inv.inversePark_flagsFollow (v : Inv) (w : Word) (al be : Int) : (v.inversePark w al be).FlagsFollow (pwD w) := by
  unfold Inv.inversePark
  split
  · exact Inv.setPair_flagsFollow _ (pwD_lt w) _ _
  all_goals exact Inv.setSat_flagsFollow _ (pwD_lt w) _

theorem Inv.inversePark_gs (v : Inv) {w : Word} (hpair : pwOpt w = 0 → pwD w ≤ 14) (al be : Int) :
    (pwOpt w ≤ 1 → (v.inversePark w al be).gs (pwD w) = sat32 (rshr al 31)) ∧
    (pwOpt w = 0 → (v.inversePark w al be).gs (pwD w + 1) = sat32 (rshr be 31)) ∧
    (pwOpt w = 2 → (v.inversePark w al be).gs (pwD w) = sat32 (rshr (be * kR32 - al * kHalf) 62)) ∧
    (pwOpt w = 3 → (v.inversePark w al be).gs (pwD w) = sat32 (rshr (-(be * kR32) - al * kHalf) 62)) := by
  have hlt := pwOpt_lt w
  have hd := pwD_lt w
  unfold Inv.inversePark
  generalize pwOpt w = opt at hpair hlt
  match opt with
  | 0 =>
    obtain ⟨hfst, hsnd⟩ := Inv.gs_setPair v (hpair rfl) (rshr al 31) (rshr be 31)
    exact ⟨fun _ => hfst, fun _ => hsnd, fun h => absurd h (by decide), fun h => absurd h (by decide)⟩
  | 1 => exact ⟨fun _ => Inv.gs_setSat_self v hd _, fun h => absurd h (by decide), fun h => absurd h (by decide), fun h => absurd h (by decide)⟩
  | 2 => exact ⟨fun h => absurd h (by decide), fun h => absurd h (by decide), fun _ => Inv.gs_setSat_self v hd _, fun h => absurd h (by decide)⟩
  | 3 => exact ⟨fun h => absurd h (by decide), fun h => absurd h (by decide), fun h => absurd h (by decide), fun _ => Inv.gs_setSat_self v hd _⟩

/-! ### XCH (R112, R113) -/

@[simp] theorem State.updPort_eng (s : State) (e : Nat) (f : XchPort → XchPort) (k : Nat) : (s.updPort e f).eng k = s.eng k := by
  unfold State.updPort
  split <;> rfl

/-- A grant leaves the invocation, but for the count of grants. -/
theorem State.xchGranted_run {s : State} {e : Eng} {v : Inv} (hrun : (s.eng e.val).run = some v) :
    ∃ asked, ((s.xchGranted e.val).eng e.val).run = some { v with asked := asked } := by
  unfold State.xchGranted
  dsimp only
  rw [State.eng_updEng_self, State.updPort_eng]
  dsimp only
  rw [hrun]
  exact ⟨_, rfl⟩

/-- XCH over the item `x` and its NR. -/
def Inv.exchange (v : Inv) (w : Word) (x : Word × Bool) : Inv := { v.setG (pwD w) x.1.toInt with nr := v.nr || x.2 }

theorem Inv.exchange_gs (v : Inv) (w : Word) (x : Word × Bool) : (v.exchange w x).gs (pwD w) = x.1.toInt :=
  Inv.gs_setG_self v (pwD_lt w) (fits32_toInt _)

/-- The exchange of an engine whose turn it is completes after its grants. -/
theorem xch_completes {s : State} {e : Eng} {v : Inv} {w : Word} {waits : Fin 17} {fresh : Bool} (hfetch : s.pickFetch e.val .xch = some (v, w))
    (hleft : xchCycles waits.val fresh ≤ v.left) (hnext : s.xchNext (e.val / 2) = some e.val) (hwaits : s.xchWaits e.val = waits.val) :
    ∃ t, exec (.xch e waits fresh) s = .next t ∧
      t.Completed e v (xchCycles waits.val fresh) (v.exchange w (s.xchRead (bits w 0 6) (pwSel w) (bits w 6 6))) := by
  obtain ⟨asked, hrun⟩ := State.xchGranted_run (State.run_setRun s e ((v.exchange w (s.xchRead (bits w 0 6) (pwSel w) (bits w 6 6))).onward
    (xchCycles waits.val fresh) (decide (xchCycles waits.val fresh = 1))))
  refine ⟨_, ?_, .of_run hrun (Inv.setG_course _ _ _)⟩
  show execXch e waits fresh s = _
  unfold execXch
  rw [if_pos ⟨hnext, hwaits⟩, State.pickDo_eq hfetch hleft]
  rfl

/-! ### The statement -/

/-- Settles O23: each row by what it reads or transforms, completed as every row without an output; XCH by its grant. -/
theorem pickReadsAndTransforms : Obligations.PickReadsAndTransforms := by
  refine ⟨fun s e v w hfetch hleft => ?_, fun s e v w c j r hfetch hleft hshown => ?_, fun s e v w hfetch hleft => ?_,
    fun s e v w hfetch hleft => ?_, fun s e v w waits fresh hfetch hleft hnext hwaits => ?_, fun s e v w hfetch hleft => ?_,
    fun s e v w hfetch hleft => ?_, fun s e v w hfetch hleft => ?_, fun s e v w hfetch hleft => ?_, fun s e v w hfetch hleft => ?_⟩
  · obtain ⟨t, hexec, h, -⟩ := exec_alu (c := .acq e) (f := fun v w => s.acquire v w (s.entryWindow e.val (pwB w))) rfl hfetch hleft
      (s.acquire_course _ _ _)
    refine ⟨t, hexec, h.runs, h.left, h.straight, fun hnone => ?_⟩
    rw [hnone] at h
    obtain ⟨hgs, hnr⟩ := s.acquire_none v w
    exact ⟨(h.gs _).trans hgs, h.nr.trans hnr⟩
  · obtain ⟨t, hexec, h, -⟩ := exec_alu (c := .acq e) (f := fun v w => s.acquire v w (s.entryWindow e.val (pwB w))) rfl hfetch hleft
      (s.acquire_course _ _ _)
    rw [hshown] at h
    obtain ⟨hgs, hnr⟩ := s.acquire_some v w c j r
    exact ⟨t, hexec, h.runs, h.left, h.straight, (h.gs _).trans hgs, h.nr.trans hnr⟩
  · obtain ⟨t, hexec, h, -⟩ := exec_alu (c := .mmx e) (f := fun v w => s.minMaxOp e.val v w) rfl hfetch hleft (Inv.minMax_course _ _ _ _)
    obtain ⟨hmn, hmx⟩ := s.fits32_record e.val (pwB w)
    obtain ⟨hgs, hsnd⟩ := Inv.minMax_gs { v with nr := v.nr || (s.entryRecord e.val (pwB w)).isNone }
      (fun hopt => pickFieldsOk_pair (State.pickFetch_fields hfetch) (by simp [hopt])) hmn hmx
    have hnr := h.nr.trans (Inv.minMax_nr _ _ _ _)
    have hgs := (h.gs _).trans hgs
    refine ⟨t, hexec, h.runs, h.left, h.straight, fun hnone => ⟨?_, ?_⟩, fun hsome => ⟨?_, hgs, fun hopt => (h.gs _).trans (hsnd hopt)⟩⟩
    · rw [hnr, hnone]
      exact Bool.or_true _
    · rw [hnone] at hgs
      exact hgs.trans (minMaxValue_zero w)
    · rw [hnr, ← Option.not_isSome, hsome]
      exact Bool.or_false _
  · obtain ⟨t, hexec, h, -⟩ := exec_alu (c := .ang e) rfl hfetch hleft (Inv.setG_course _ _ _)
    exact ⟨t, hexec, h.runs, h.left, h.straight, (h.gs _).trans (Inv.gs_setG_self _ (pwD_lt w) (fits32_toInt _)), h.nr.trans (Inv.setG_nr _ _ _)⟩
  · obtain ⟨t, hexec, h⟩ := xch_completes hfetch hleft hnext hwaits
    exact ⟨t, hexec, h.runs, h.left, h.straight, (h.gs _).trans (Inv.exchange_gs _ _ _), h.nr⟩
  · obtain ⟨t, hexec, h, -⟩ := exec_alu (c := .uhxRead e)
      (f := fun v w => v.exchange w ((v.oldShared (bits w 0 8)).getD (s.sharedRead (bits w 0 8)))) rfl hfetch hleft (Inv.setG_course _ _ _)
    exact ⟨t, hexec, h.runs, h.left, h.straight, (h.gs _).trans (Inv.exchange_gs _ _ _), h.nr⟩
  · obtain ⟨t, hexec, h, -⟩ := exec_alu (c := .scs e) rfl hfetch hleft (Inv.setPair_course _ _ _ _)
    obtain ⟨hsin, hsinNear⟩ := scsValue_near (v.g.toList.getD (pwA w) 0) false
    obtain ⟨hcos, hcosNear⟩ := scsValue_near (v.g.toList.getD (pwA w) 0) true
    obtain ⟨hfst, hsnd⟩ := Inv.gs_setPair v (pickFieldsOk_pair (State.pickFetch_fields hfetch) (by simp))
      (scsValue (v.g.toList.getD (pwA w) 0) false) (scsValue (v.g.toList.getD (pwA w) 0) true)
    obtain ⟨hn, hz⟩ := h.flagsFollow (Inv.setPair_flagsFollow _ (pwD_lt w) _ _)
    refine ⟨t, hexec, h.runs, h.left, h.straight, ?_, ?_, hn, hz⟩
    · rw [(h.gs _).trans hfst, sat32_of_fits hsin]
      exact hsinNear
    · rw [(h.gs _).trans hsnd, sat32_of_fits hcos]
      exact hcosNear
  · obtain ⟨t, hexec, h, -⟩ := exec_alu (c := .clk e) rfl hfetch hleft (v.clarke_course w)
    obtain ⟨hpower, hthree⟩ := v.clarke_gs (pickFieldsOk_pair (State.pickFetch_fields hfetch) (by simp))
    obtain ⟨hn, hz⟩ := h.flagsFollow (v.clarke_flagsFollow w)
    refine ⟨t, hexec, h.runs, h.left, h.straight, fun hopt => ?_, fun hopt => ?_, hn, hz⟩
    · obtain ⟨hfst, hsnd⟩ := hpower hopt
      exact ⟨(h.gs _).trans hfst, (h.gs _).trans hsnd⟩
    · obtain ⟨hfst, hsnd⟩ := hthree hopt
      exact ⟨(h.gs _).trans hfst, (h.gs _).trans hsnd⟩
  · obtain ⟨t, hexec, h, -⟩ := exec_alu (c := .prk e) rfl hfetch hleft (Inv.setPair_course _ _ _ _)
    obtain ⟨hfst, hsnd⟩ := Inv.gs_setPair v (pickFieldsOk_pair (State.pickFetch_fields hfetch) (by simp)) _ _
    obtain ⟨hn, hz⟩ := h.flagsFollow (Inv.setPair_flagsFollow _ (pwD_lt w) _ _)
    exact ⟨t, hexec, h.runs, h.left, h.straight, (h.gs _).trans hfst, (h.gs _).trans hsnd, hn, hz⟩
  · obtain ⟨t, hexec, h, -⟩ := exec_alu (c := .ipk e) (f := fun v w => v.inversePark w
      (v.gs (pwA w) * v.gs (pwB w + 1) - v.gs (pwA w + 1) * (rotSign w * v.gs (pwB w)))
      (v.gs (pwA w) * (rotSign w * v.gs (pwB w)) + v.gs (pwA w + 1) * v.gs (pwB w + 1))) rfl hfetch hleft (Inv.inversePark_course _ _ _ _)
    obtain ⟨halpha, hbeta, hb, hc⟩ := v.inversePark_gs (fun hopt => pickFieldsOk_pair (State.pickFetch_fields hfetch) (by simp [hopt]))
      (v.gs (pwA w) * v.gs (pwB w + 1) - v.gs (pwA w + 1) * (rotSign w * v.gs (pwB w)))
      (v.gs (pwA w) * (rotSign w * v.gs (pwB w)) + v.gs (pwA w + 1) * v.gs (pwB w + 1))
    obtain ⟨hn, hz⟩ := h.flagsFollow (Inv.inversePark_flagsFollow _ _ _ _)
    exact ⟨t, hexec, h.runs, h.left, h.straight, fun hopt => (h.gs _).trans (halpha hopt), fun hopt => (h.gs _).trans (hbeta hopt),
      fun hopt => (h.gs _).trans (hb hopt), fun hopt => (h.gs _).trans (hc hopt), hn, hz⟩

end Sys2Proof.Machine
end
section
/-! SUPPORT. Conversion sequences (R122, R129 to R131): their units, registers and deadlines, what they rest on, and a run that starts or is dropped. -/

namespace Sys2Proof.Machine

/-! ### Registers and units -/

theorem seqctl_has (q : Sequ) : RegId.SN_SEQCTL.has q.val 0 = true := RegId.has_of_lt q.isLt rfl Nat.one_pos

theorem seqdly_has (q : Sequ) : RegId.SN_SEQDLY.has q.val 0 = true := RegId.has_of_lt q.isLt rfl Nat.one_pos

theorem seqmask_has (q : Sequ) : RegId.SN_SEQMASK.has q.val 0 = true := RegId.has_of_lt q.isLt rfl Nat.one_pos

theorem seqstat_has (q : Sequ) : RegId.SN_SEQSTAT.has q.val 0 = true := RegId.has_of_lt q.isLt rfl Nat.one_pos

/-- A sequence's unit that is set is one entry of the sensing unit's table. -/
theorem State.setSeq_eq (s : State) (q : Sequ) (u : SeqU) :
    s.setSeq q.val u = { s with sense := { s.sense with seqs := s.sense.seqs.set q.val u q.isLt } } := dif_pos q.isLt

/-- The unit that is set is the sequence's. -/
@[simp] theorem State.seqU_setSeq (s : State) (q : Sequ) (u : SeqU) : (s.setSeq q.val u).seqU q.val = u := by
  rw [State.setSeq_eq]
  simp [State.seqU]

/-- It is no matter of the registers. -/
@[simp] theorem State.setSeq_rdw (s : State) (q : Sequ) (u : SeqU) (r : RegId) (i j : Nat) : (s.setSeq q.val u).rdw r i j = s.rdw r i j := by
  rw [State.setSeq_eq]
  rfl

@[simp] theorem State.setSeq_get (s : State) (q : Sequ) (u : SeqU) (f : Fld) (i j : Nat) : (s.setSeq q.val u).get f i j = s.get f i j :=
  congrArg f.of (s.setSeq_rdw q u f.reg i j)

/-- A sequence's unit rests on the sensing unit. -/
theorem Evolves.seqU {A : List Part} {s t : State} (h : Evolves A s t) (hp : Part.sense ∉ A) (q : Nat) : t.seqU q = s.seqU q := by
  have hsense : t.sense = s.sense := h.kept .sense hp
  unfold State.seqU
  rw [hsense]

/-! ### Deadlines -/

/-- A deadline that is armed at a tick. -/
theorem State.deadline_armAt (s : State) (t : Timer) (d : Nat) : (s.armAt t d).deadline t = some d := by
  simp [State.armAt, State.deadline]

/-- Another deadline is as it was. -/
theorem State.deadline_armAt_ne (s : State) {t u : Timer} (d : Nat) (h : u ≠ t) : (s.armAt t d).deadline u = s.deadline u := by
  rw [← State.deadline_disarm_ne s h]
  unfold State.armAt State.deadline
  rw [List.find?_cons_of_neg (by simpa using Ne.symm h)]

/-! ### The edges at which a run can start (R130, R131) -/

/-- The greatest of those numbers that count is at most `e` where each of them is. -/
theorem foldl_max_le_iff {α : Type} (p : α → Bool) (f : α → Nat) (l : List α) (a e : Nat) :
    l.foldl (fun m v => if p v then max m (f v) else m) a ≤ e ↔ a ≤ e ∧ ∀ v ∈ l, p v = true → f v ≤ e := by
  induction l generalizing a with
  | nil => simp
  | cons v l ih =>
    rw [List.foldl_cons, ih, List.forall_mem_cons]
    cases hv : p v
    · simp
    · simp [and_assoc]

/-- The converters of a mask are idle at an edge where each of them is. -/
theorem State.idleEdge_le_iff (s : State) (mask : Word) (e : Nat) :
    s.idleEdge mask ≤ e ↔ ∀ v : Fin 32, bit mask v.val = true → s.sense.freeAt[v] ≤ e := by
  have hentry : ∀ v : Fin 32, s.sense.freeAt.toList.getD v.val 0 = s.sense.freeAt[v] := fun v => by simp
  unfold State.idleEdge
  rw [foldl_max_le_iff]
  refine ⟨fun h v hv => hentry v ▸ h.2 v.val (List.mem_range.2 v.isLt) hv, fun h => ⟨Nat.zero_le _, fun v hv hbit => ?_⟩⟩
  exact (hentry ⟨v, List.mem_range.1 hv⟩).trans_le (h ⟨v, List.mem_range.1 hv⟩ hbit)

/-- One of them that is busy makes the mask busy. -/
theorem State.lt_idleEdge_of_busy {s : State} {mask : Word} {e : Nat} (h : ∃ v : Fin 32, bit mask v.val = true ∧ e < s.sense.freeAt[v]) :
    e < s.idleEdge mask := by
  obtain ⟨v, hv, hlt⟩ := h
  by_contra hle
  exact absurd ((s.idleEdge_le_iff mask e).1 (Nat.le_of_not_lt hle) v hv) (Nat.not_le_of_lt hlt)

/-- The idle edge rests on the sensing unit. -/
theorem Evolves.idleEdge {A : List Part} {s t : State} (h : Evolves A s t) (hp : Part.sense ∉ A) (mask : Word) : t.idleEdge mask = s.idleEdge mask := by
  have hsense : t.sense = s.sense := h.kept .sense hp
  unfold State.idleEdge
  rw [hsense]

/-- The edge at which a waiting run can start rests on the sensing unit, MAXDEF and the mask. -/
theorem Evolves.waitEdge {A : List Part} {s t : State} (h : Evolves A s t) (hs : Part.sense ∉ A) (hm : Part.reg .SN_SEQMASK ∉ A)
    (hd : Part.reg .SN_SEQDLY ∉ A) (q : Sequ) : t.waitEdge q.val = s.waitEdge q.val := by
  unfold State.waitEdge
  rw [h.seqU hs, h.rdw (seqmask_has q) hm, h.idleEdge hs, h.get (f := SN_SEQDLY_MAXDEF) (seqdly_has q) hd]

/-- The first CONV edge rests on the two phase locks, the epoch and the free values. -/
theorem Evolves.convEdge {A : List Part} {s t : State} (h : Evolves A s t) (hl : Part.reg .WI_SSTAT ∉ A) (hw : Part.winder ∉ A)
    (hf : Part.freeIdx ∉ A) (d : Nat) : (t.convEdge d).1 = (s.convEdge d).1 := by
  have hwinder : t.winder = s.winder := h.kept .winder hw
  have hfree : t.freeIdx = s.freeIdx := h.kept .freeIdx hf
  unfold State.convEdge State.free
  rw [h.on (f := WI_SSTAT_PHASELOCK) (by decide) hl, h.on (f := WI_SSTAT_PHASELOCK) (by decide) hl, hwinder, hfree]
  split <;> rfl

/-- A run that waits can start at the first edge that finds its converters idle, within MAXDEF (R131). -/
theorem State.waitEdge_some {s : State} {q e : Nat} (hwait : (s.seqU q).waiting = true)
    (he : max (s.seqU q).startAt (s.idleEdge (s.rdw .SN_SEQMASK q)) = e) (hle : e ≤ (s.seqU q).startAt + 24 * s.get SN_SEQDLY_MAXDEF q) :
    s.waitEdge q = some e := by
  unfold State.waitEdge
  dsimp only
  rw [he, hwait, decide_eq_true hle, if_pos (by decide)]

/-- One whose converters are busy beyond MAXDEF cannot. -/
theorem State.waitEdge_none {s : State} {q : Nat} (h : s.get SN_SEQDLY_MAXDEF q * 24 + (s.seqU q).startAt < s.idleEdge (s.rdw .SN_SEQMASK q)) :
    s.waitEdge q = none := by
  unfold State.waitEdge
  dsimp only
  rw [decide_eq_false (by omega), Bool.and_false, if_neg Bool.false_ne_true]

/-- The end of a deferral that is disarmed changes no rank. -/
theorem State.outranked_disarm_drop (s : State) (q k : Nat) : (s.disarm (.seqDrop k)).outranked q = s.outranked q := by
  have hstart : ∀ n, (s.disarm (.seqDrop k)).startable n = s.startable n := fun n => by
    unfold State.startable
    rw [State.deadline_disarm_ne s (by simp)]
    rfl
  unfold State.outranked
  simp only [hstart, State.disarm_rdw]

/-! ### A run starts (R129) -/

/-- The state `t` shows the run of a sequence that starts at CONV edge `e` under the settings of state `s`. -/
def RunStarted (s t : State) (q : Sequ) (e : Nat) : Prop :=
  t.on SN_SEQSTAT_RUNNING q.val = true ∧
    t.on SN_SEQSTAT_PENDING q.val = false ∧
    t.deadline (.conv q.val) = some (convTick e 0) ∧
    t.seqU q.val = ⟨s.rdw .SN_SEQMASK q.val, s.get SN_SEQCTL_POS q.val, s.get SN_SEQCTL_BURST q.val, 0, false, e⟩ ∧
    (∀ v : Fin 32, bit (s.rdw .SN_SEQMASK q.val) v.val = true →
      t.sense.freeAt[v] = e + 500 * runLen (s.get SN_SEQCTL_POS q.val) (s.get SN_SEQCTL_BURST q.val)) ∧
    t.get SN_SEQSTAT_DROPS q.val = s.get SN_SEQSTAT_DROPS q.val

/-- A change before the start that leaves the settings and DROPS alone is no matter of the run. -/
theorem Evolves.runStarted {A : List Part} {s u t : State} {q : Sequ} {e : Nat} (h : Evolves A s u) (hrun : RunStarted u t q e)
    (hm : Part.reg .SN_SEQMASK ∉ A) (hc : Part.reg .SN_SEQCTL ∉ A) (hs : Part.reg .SN_SEQSTAT ∉ A) : RunStarted s t q e := by
  unfold RunStarted at hrun ⊢
  rwa [h.rdw (seqmask_has q) hm, h.get (f := SN_SEQCTL_POS) (seqctl_has q) hc, h.get (f := SN_SEQCTL_BURST) (seqctl_has q) hc,
    h.get (f := SN_SEQSTAT_DROPS) (seqstat_has q) hs] at hrun

/-- The registers after the start of a run: PENDING 0, RUNNING 1. -/
theorem State.seqRun_rdw (s : State) (q : Sequ) (e : Nat) (r : RegId) (i j : Nat) :
    (s.seqRun q.val e).rdw r i j = ((s.put SN_SEQSTAT_PENDING 0 q.val).put SN_SEQSTAT_RUNNING 1 q.val).rdw r i j := by
  unfold State.seqRun
  dsimp only
  rw [State.setSeq_eq]
  rfl

/-- A run that starts. -/
theorem State.seqRun_starts (s : State) (q : Sequ) (e : Nat) : RunStarted s (s.seqRun q.val e) q e := by
  have hstat := seqstat_has q
  have hfield : ∀ f : Fld, (s.seqRun q.val e).get f q.val = ((s.put SN_SEQSTAT_PENDING 0 q.val).put SN_SEQSTAT_RUNNING 1 q.val).get f q.val :=
    fun f => congrArg f.of (s.seqRun_rdw q e f.reg q.val 0)
  have hflag : ∀ f : Fld, (s.seqRun q.val e).on f q.val = ((s.put SN_SEQSTAT_PENDING 0 q.val).put SN_SEQSTAT_RUNNING 1 q.val).on f q.val :=
    fun f => congrArg (· != 0) (hfield f)
  refine ⟨?_, ?_, State.deadline_armAt _ _ _, State.seqU_setSeq _ q _, fun v hv => ?_, ?_⟩
  · rw [hflag]
    exact State.on_put _ SN_SEQSTAT_RUNNING 1 q.val 0 hstat (by decide)
  · rw [hflag, State.on_put_of_apart _ _ _ _ hstat (by decide)]
    exact State.on_put _ SN_SEQSTAT_PENDING 0 q.val 0 hstat (by decide)
  · unfold State.seqRun
    dsimp only
    rw [State.setSeq_eq]
    show (Vector.ofFn _)[v] = _
    simp [hv]
  · rw [hfield, State.get_put_of_apart _ _ _ _ hstat (by decide), State.get_put_of_apart _ _ _ _ hstat (by decide)]

/-- Its deferral is over. -/
theorem State.seqRun_armed_drop (s : State) (q : Sequ) (e : Nat) : (s.seqRun q.val e).armed (.seqDrop q.val) = false := by
  unfold State.seqRun State.armed
  dsimp only
  rw [State.deadline_armAt_ne _ _ (by simp)]
  exact State.armed_disarm _ _

/-- It takes no time. -/
theorem State.seqRun_now (s : State) (q e : Nat) : (s.seqRun q e).now = s.now :=
  (State.seqRun_evolves (.refl _ s) q e (covers_self _)).kept .now (by decide)

/-! ### A run is dropped (R131) -/

/-- The state `t` shows the run of a sequence of state `s` as dropped. -/
def RunDropped (s t : State) (q : Sequ) : Prop :=
  t.on SN_SEQSTAT_DROPPED q.val = true ∧
    t.on SN_SEQSTAT_PENDING q.val = false ∧
    (t.seqU q.val).waiting = false ∧
    t.get SN_SEQSTAT_DROPS q.val = min (s.get SN_SEQSTAT_DROPS q.val + 1) (2 ^ SN_SEQSTAT_DROPS.width - 1) ∧
    t.raised (256 + q.val) = true ∧
    t.on SN_SEQSTAT_RUNNING q.val = s.on SN_SEQSTAT_RUNNING q.val

/-- A change before the drop that leaves SEQSTAT alone is no matter of it. -/
theorem Evolves.runDropped {A : List Part} {s u t : State} {q : Sequ} (h : Evolves A s u) (hdrop : RunDropped u t q)
    (hs : Part.reg .SN_SEQSTAT ∉ A) : RunDropped s t q := by
  unfold RunDropped at hdrop ⊢
  rwa [h.get (f := SN_SEQSTAT_DROPS) (seqstat_has q) hs, h.on (f := SN_SEQSTAT_RUNNING) (seqstat_has q) hs] at hdrop

/-- Every sequence has its source. -/
theorem seqSource_lt (q : Sequ) : 256 + q.val < 1024 := by
  have := q.isLt
  omega

/-- SEQSTAT and the unit of a dropped run, before its source is raised. -/
def State.dropShown (s : State) (q : Nat) : State :=
  (((s.put SN_SEQSTAT_PENDING 0 q).setSeq q { s.seqU q with waiting := false }).put SN_SEQSTAT_DROPPED 1 q).bumpSat SN_SEQSTAT_DROPS q

/-- A run that is dropped: its registers and unit, then its source. -/
theorem State.seqDropped_eq (s : State) (q : Nat) : s.seqDropped q = (s.dropShown q).raise (256 + q) := rfl

theorem State.dropShown_changes (s : State) (q : Nat) : Evolves [.fresh, .sense, .reg .SN_SEQSTAT] s (s.dropShown q) :=
  State.bumpSat_evolves (State.put_evolves (State.setSeq_evolves (State.put_evolves (.refl _ s) _ _ _ _ (by decide +kernel)) _ _ (by decide +kernel))
    _ _ _ _ (by decide +kernel)) _ _ _ _ (by decide +kernel)

/-- What a dropped run leaves. -/
theorem State.seqDropped_drops (s : State) (q : Sequ) (hsrc : s.routed (256 + q.val) = true) : RunDropped s (s.seqDropped q.val) q := by
  have hstat := seqstat_has q
  have hraise := State.raise_evolves (.refl _ (s.dropShown q.val)) (256 + q.val) (covers_self _)
  have hrouted := ((s.dropShown_changes q.val).routed (by decide) (seqSource_lt q)).trans hsrc
  have hdrops : (s.dropShown q.val).get SN_SEQSTAT_DROPS q.val = min (s.get SN_SEQSTAT_DROPS q.val + 1) (2 ^ SN_SEQSTAT_DROPS.width - 1) := by
    unfold State.dropShown State.bumpSat
    rw [State.get_put _ SN_SEQSTAT_DROPS _ _ _ hstat (by decide), State.get_put_of_apart _ _ _ _ hstat (by decide), State.setSeq_get,
      State.get_put_of_apart _ _ _ _ hstat (by decide)]
    exact Nat.mod_eq_of_lt (by simp only [SN_SEQSTAT_DROPS]; omega)
  have hdropped : (s.dropShown q.val).on SN_SEQSTAT_DROPPED q.val = true := by
    unfold State.dropShown State.bumpSat
    rw [State.on_put_of_apart _ _ _ _ hstat (by decide)]
    exact State.on_put _ SN_SEQSTAT_DROPPED 1 q.val 0 hstat (by decide)
  have hbefore : ∀ f : Fld, f.reg = .SN_SEQSTAT → SN_SEQSTAT_DROPPED.Apart f → SN_SEQSTAT_DROPS.Apart f →
      (s.dropShown q.val).on f q.val = (s.put SN_SEQSTAT_PENDING 0 q.val).on f q.val := fun f hf hd hn => by
    unfold State.dropShown State.bumpSat
    rw [State.on_put_of_apart _ _ _ _ (hf ▸ hstat) hn, State.on_put_of_apart _ _ _ _ (hf ▸ hstat) hd]
    unfold State.on
    rw [State.setSeq_get]
  rw [State.seqDropped_eq]
  refine ⟨(hraise.on (f := SN_SEQSTAT_DROPPED) hstat (by decide)).trans hdropped, ?_, ?_,
    (hraise.get (f := SN_SEQSTAT_DROPS) hstat (by decide)).trans hdrops, State.raise_raised _ (seqSource_lt q) hrouted, ?_⟩
  · rw [hraise.on (f := SN_SEQSTAT_PENDING) hstat (by decide), hbefore _ rfl (by decide) (by decide)]
    exact State.on_put _ SN_SEQSTAT_PENDING 0 q.val 0 hstat (by decide)
  · rw [hraise.seqU (by decide)]
    exact congrArg SeqU.waiting (State.seqU_setSeq (s.put SN_SEQSTAT_PENDING 0 q.val) q _)
  · rw [hraise.on (f := SN_SEQSTAT_RUNNING) hstat (by decide), hbefore _ rfl (by decide) (by decide), State.on_put_of_apart _ _ _ _ hstat (by decide)]

/-- DEFERRED is as it was. -/
theorem State.seqDropped_deferred (s : State) (q : Sequ) : (s.seqDropped q.val).on SN_SEQSTAT_DEFERRED q.val = s.on SN_SEQSTAT_DEFERRED q.val := by
  have hstat := seqstat_has q
  rw [State.seqDropped_eq, (State.raise_evolves (.refl _ _) _ (covers_self _)).on (f := SN_SEQSTAT_DEFERRED) hstat (by decide)]
  unfold State.dropShown State.bumpSat
  rw [State.on_put_of_apart _ _ _ _ hstat (by decide), State.on_put_of_apart _ _ _ _ hstat (by decide)]
  unfold State.on
  rw [State.setSeq_get, State.get_put_of_apart _ _ _ _ hstat (by decide)]

/-- It takes no time. -/
theorem State.seqDropped_now (s : State) (q : Nat) : (s.seqDropped q).now = s.now :=
  (State.seqDropped_evolves (.refl _ s) q (covers_self _)).kept .now (by decide)

end Sys2Proof.Machine
end
section
/-! SUPPORT. The start point of a sequence, a run that waits, and the end of its deferral (R129 to R131). -/

namespace Sys2Proof.Machine

/-! ### The start point -/

/-- A start point whose converters are idle and which no rival outranks: the run starts. -/
theorem State.seqPoint_starts {s : State} {q : Nat} (h : s.idleEdge (s.rdw .SN_SEQMASK q) ≤ (s.convEdge s.now).1) :
    s.seqPoint q false = (s.convEdge s.now).2.seqRun q (s.convEdge s.now).1 := by
  unfold State.seqPoint
  dsimp only
  rw [decide_eq_true h, if_pos (by decide)]

/-- A start point with a busy converter or a rival: the run is DEFERRED, and dropped where MAXDEF is 0. -/
theorem State.seqPoint_defers {s : State} {q : Nat} {rival : Bool} (h : (s.convEdge s.now).1 < s.idleEdge (s.rdw .SN_SEQMASK q) ∨ rival = true) :
    s.seqPoint q rival = if s.get SN_SEQDLY_MAXDEF q = 0 then ((s.convEdge s.now).2.put SN_SEQSTAT_DEFERRED 1 q).seqDropped q
      else (((s.convEdge s.now).2.put SN_SEQSTAT_DEFERRED 1 q).setSeq q
        { ((s.convEdge s.now).2.put SN_SEQSTAT_DEFERRED 1 q).seqU q with waiting := true, startAt := (s.convEdge s.now).1 }).armAt (.seqDrop q)
        ((s.convEdge s.now).1 / 24 + s.get SN_SEQDLY_MAXDEF q) := by
  have hno : (decide (s.idleEdge (s.rdw .SN_SEQMASK q) ≤ (s.convEdge s.now).1) && !rival) = false := by
    rcases h with hbusy | hrival
    · rw [decide_eq_false (Nat.not_le_of_lt hbusy), Bool.false_and]
    · rw [hrival, Bool.not_true, Bool.and_false]
  unfold State.seqPoint
  dsimp only
  rw [hno, if_neg Bool.false_ne_true]

section Point
variable {s : State} {q : Sequ} {d e : Nat} (hwait : (s.seqU q.val).waiting = false) (hdue : s.deadline (.seqStart q.val) = some d)
  (hedge : (s.convEdge (max s.now d)).1 = e)
include hwait hdue hedge

/-- The start point comes at its time, with `e` the first CONV edge from then. -/
theorem exec_seqPoint : ∃ p, Evolves onTimerParts s p ∧ (p.convEdge p.now).1 = e ∧ p.now = max s.now d ∧
    exec (.sequenceRunStart q) s = .next (p.seqPoint q.val ((s.advanceTo d).outranked q.val)) := by
  have hp : Evolves onTimerParts s ((s.advanceTo d).disarm (.seqStart q.val)) :=
    State.disarm_evolves (State.advanceTo_evolves (.refl _ s) d (by decide +kernel)) _ (by decide +kernel)
  have hnow : ((s.advanceTo d).disarm (.seqStart q.val)).now = max s.now d := s.advanceTo_now d
  refine ⟨_, hp, ?_, hnow, ?_⟩
  · rw [hnow, hp.convEdge (by decide) (by decide) (by decide), hedge]
  · show execSequenceRunStart q s = _
    unfold execSequenceRunStart
    rw [hwait, hdue, if_neg Bool.false_ne_true]

/-- R129: the run starts where its converters are idle at `e` and no lower-numbered rival can start. -/
theorem sequence_starts (hidle : ∀ v : Fin 32, bit (s.rdw .SN_SEQMASK q.val) v.val = true → s.sense.freeAt[v] ≤ e)
    (hrank : (s.advanceTo d).outranked q.val = false) : ∃ t, exec (.sequenceRunStart q) s = .next t ∧ RunStarted s t q e := by
  obtain ⟨p, hp, hpe, -, hexec⟩ := exec_seqPoint hwait hdue hedge
  have hready : p.idleEdge (p.rdw .SN_SEQMASK q.val) ≤ (p.convEdge p.now).1 := by
    rw [hp.idleEdge (by decide), hp.rdw (seqmask_has q) (by decide), hpe]
    exact (s.idleEdge_le_iff _ e).2 hidle
  rw [hrank, State.seqPoint_starts hready, hpe] at hexec
  have hbefore : Evolves ([Part.freeIdx] ++ onTimerParts) s (p.convEdge p.now).2 :=
    State.convEdge_evolves (hp.mono (by decide +kernel)) _ (by decide +kernel)
  exact ⟨_, hexec, hbefore.runStarted (State.seqRun_starts _ q e) (by decide) (by decide) (by decide)⟩

section Deferred
variable (hbusy : (∃ v : Fin 32, bit (s.rdw .SN_SEQMASK q.val) v.val = true ∧ e < s.sense.freeAt[v]) ∨ (s.advanceTo d).outranked q.val = true)
include hbusy

/-- A start point that defers its run, as its registers show. -/
theorem exec_seqPoint_deferred : ∃ u, Evolves ([Part.freeIdx] ++ onTimerParts) s u ∧ exec (.sequenceRunStart q) s = .next
    (if s.get SN_SEQDLY_MAXDEF q.val = 0 then (u.put SN_SEQSTAT_DEFERRED 1 q.val).seqDropped q.val
      else ((u.put SN_SEQSTAT_DEFERRED 1 q.val).setSeq q.val { (u.put SN_SEQSTAT_DEFERRED 1 q.val).seqU q.val with waiting := true, startAt := e }).armAt
        (.seqDrop q.val) (e / 24 + s.get SN_SEQDLY_MAXDEF q.val)) := by
  obtain ⟨p, hp, hpe, -, hexec⟩ := exec_seqPoint hwait hdue hedge
  have hlate : (p.convEdge p.now).1 < p.idleEdge (p.rdw .SN_SEQMASK q.val) ∨ (s.advanceTo d).outranked q.val = true := by
    rw [hp.idleEdge (by decide), hp.rdw (seqmask_has q) (by decide), hpe]
    exact hbusy.imp_left State.lt_idleEdge_of_busy
  rw [State.seqPoint_defers hlate, hpe, hp.get (f := SN_SEQDLY_MAXDEF) (seqdly_has q) (by decide)] at hexec
  exact ⟨_, State.convEdge_evolves (hp.mono (by decide +kernel)) _ (by decide +kernel), hexec⟩

/-- R131: else it waits until MAXDEF ticks from `e`. -/
theorem sequence_waits (hdef : 0 < s.get SN_SEQDLY_MAXDEF q.val) :
    ∃ t, exec (.sequenceRunStart q) s = .next t ∧
      t.on SN_SEQSTAT_DEFERRED q.val = true ∧
      ((t.seqU q.val).waiting = true ∧ (t.seqU q.val).startAt = e) ∧
      t.on SN_SEQSTAT_PENDING q.val = s.on SN_SEQSTAT_PENDING q.val ∧
      t.on SN_SEQSTAT_RUNNING q.val = s.on SN_SEQSTAT_RUNNING q.val ∧
      t.deadline (.seqDrop q.val) = some (e / 24 + s.get SN_SEQDLY_MAXDEF q.val) := by
  obtain ⟨u, hu, hexec⟩ := exec_seqPoint_deferred hwait hdue hedge hbusy
  rw [if_neg (by omega)] at hexec
  have hstat := seqstat_has q
  generalize hx : ({ (u.put SN_SEQSTAT_DEFERRED 1 q.val).seqU q.val with waiting := true, startAt := e } : SeqU) = x at hexec
  have hflag : ∀ (f : Fld) k, (((u.put SN_SEQSTAT_DEFERRED 1 q.val).setSeq q.val x).armAt (.seqDrop q.val) k).on f q.val =
      (u.put SN_SEQSTAT_DEFERRED 1 q.val).on f q.val := fun f k => congrArg (· != 0) (State.setSeq_get _ q x f q.val 0)
  have hunit : ∀ k, (((u.put SN_SEQSTAT_DEFERRED 1 q.val).setSeq q.val x).armAt (.seqDrop q.val) k).seqU q.val = x := fun k => State.seqU_setSeq _ q x
  refine ⟨_, hexec, ?_, ?_, ?_, ?_, State.deadline_armAt _ _ _⟩
  · rw [hflag]
    exact State.on_put _ SN_SEQSTAT_DEFERRED 1 q.val 0 hstat (by decide)
  · rw [hunit, ← hx]
    exact ⟨rfl, rfl⟩
  · rw [hflag, State.on_put_of_apart _ _ _ _ hstat (by decide), hu.on (f := SN_SEQSTAT_PENDING) hstat (by decide)]
  · rw [hflag, State.on_put_of_apart _ _ _ _ hstat (by decide), hu.on (f := SN_SEQSTAT_RUNNING) hstat (by decide)]

/-- R131: with MAXDEF 0 it is dropped. -/
theorem sequence_is_dropped_at_once (hdef : s.get SN_SEQDLY_MAXDEF q.val = 0) (hsrc : s.routed (256 + q.val) = true) :
    ∃ t, exec (.sequenceRunStart q) s = .next t ∧ t.on SN_SEQSTAT_DEFERRED q.val = true ∧ RunDropped s t q := by
  obtain ⟨u, hu, hexec⟩ := exec_seqPoint_deferred hwait hdue hedge hbusy
  rw [if_pos hdef] at hexec
  have hstat := seqstat_has q
  have hput : Evolves ([Part.reg .SN_SEQSTAT, .freeIdx] ++ onTimerParts) s (u.put SN_SEQSTAT_DEFERRED 1 q.val) :=
    State.put_evolves (hu.mono (by decide +kernel)) _ _ _ _ (by decide +kernel)
  obtain ⟨hdropped, hpending, hwaiting, hdrops, hraised, hrunning⟩ :=
    State.seqDropped_drops (u.put SN_SEQSTAT_DEFERRED 1 q.val) q ((hput.routed (by decide) (seqSource_lt q)).trans hsrc)
  refine ⟨_, hexec, ?_, hdropped, hpending, hwaiting, ?_, hraised, ?_⟩
  · rw [State.seqDropped_deferred]
    exact State.on_put _ SN_SEQSTAT_DEFERRED 1 q.val 0 hstat (by decide)
  · rw [hdrops, State.get_put_of_apart _ _ _ _ hstat (by decide), hu.get (f := SN_SEQSTAT_DROPS) hstat (by decide)]
  · rw [hrunning, State.on_put_of_apart _ _ _ _ hstat (by decide), hu.on (f := SN_SEQSTAT_RUNNING) hstat (by decide)]

end Deferred

end Point

/-! ### A run that waits -/

/-- R131: a run that waits starts once its converters are idle within MAXDEF and no rival outranks it. -/
theorem waiting_sequence_starts (s : State) (q : Sequ) (e : Nat) (hwait : (s.seqU q.val).waiting = true)
    (he : max (s.seqU q.val).startAt (s.idleEdge (s.rdw .SN_SEQMASK q.val)) = e)
    (hle : e ≤ (s.seqU q.val).startAt + 24 * s.get SN_SEQDLY_MAXDEF q.val) (hlive : s.convLive = true)
    (hrank : (s.advanceTo (e / 24)).outranked q.val = false) :
    ∃ t, exec (.sequenceRunStart q) s = .next t ∧ t.now = max s.now (e / 24) ∧ t.armed (.seqDrop q.val) = false ∧ RunStarted s t q e := by
  have hexec : exec (.sequenceRunStart q) s = .next ((s.advanceTo (e / 24)).seqRun q.val e) := by
    show execSequenceRunStart q s = _
    unfold execSequenceRunStart
    rw [if_pos hwait, State.waitEdge_some hwait he hle]
    dsimp only
    rw [hlive, hrank, if_pos (by decide)]
  have hadv := State.advanceTo_evolves (.refl _ s) (e / 24) (covers_self _)
  refine ⟨_, hexec, (State.seqRun_now _ _ _).trans (s.advanceTo_now _), State.seqRun_armed_drop _ q e, ?_⟩
  exact hadv.runStarted (State.seqRun_starts _ q e) (by decide) (by decide) (by decide)

/-! ### The end of a deferral -/

/-- At MAXDEF a run that waits starts at the edge that was found in time where no rival outranks it, and is dropped otherwise. -/
def State.deferralEnd (s : State) (q : Nat) (rival : Bool) : Option Nat → State
  | some e => if rival then s.seqDropped q else s.seqRun q e
  | none => s.seqDropped q

/-- The end of a deferral comes at its time. -/
theorem exec_dropped {s : State} {q : Sequ} {d : Nat} (hdue : s.deadline (.seqDrop q.val) = some d) (hwait : (s.seqU q.val).waiting = true) :
    ∃ p, Evolves onTimerParts s p ∧ p.now = max s.now d ∧ exec (.dropped q) s = .next
      (p.deferralEnd q.val ((s.advanceTo d).outranked q.val) (s.waitEdge q.val)) := by
  have hp : Evolves onTimerParts s ((s.advanceTo d).disarm (.seqDrop q.val)) :=
    State.disarm_evolves (State.advanceTo_evolves (.refl _ s) d (by decide +kernel)) _ (by decide +kernel)
  refine ⟨_, hp, s.advanceTo_now d, ?_⟩
  show execDropped q s = _
  unfold execDropped State.onTimer
  rw [hdue]
  dsimp only
  rw [hp.seqU (by decide), hwait, hp.waitEdge (by decide) (by decide) (by decide), State.outranked_disarm_drop, Bool.not_true,
    if_neg Bool.false_ne_true]
  rfl

/-- R131: at MAXDEF a run is dropped whose converters were not idle in time or which a rival outranks. -/
theorem deferred_sequence_is_dropped (s : State) (q : Sequ) (d : Nat) (hdue : s.deadline (.seqDrop q.val) = some d)
    (hwait : (s.seqU q.val).waiting = true)
    (hlate : s.get SN_SEQDLY_MAXDEF q.val * 24 + (s.seqU q.val).startAt < s.idleEdge (s.rdw .SN_SEQMASK q.val) ∨
      (s.advanceTo d).outranked q.val = true) (hsrc : s.routed (256 + q.val) = true) :
    ∃ t, exec (.dropped q) s = .next t ∧ t.now = max s.now d ∧ RunDropped s t q := by
  obtain ⟨p, hp, hnow, hexec⟩ := exec_dropped hdue hwait
  have hdrop : exec (.dropped q) s = .next (p.seqDropped q.val) := by
    rw [hexec]
    unfold State.deferralEnd
    rcases hlate with hbusy | hrank
    · rw [State.waitEdge_none hbusy]
    · cases s.waitEdge q.val with
      | none => rfl
      | some e => exact congrArg Host.Outcome.next (if_pos hrank)
  exact ⟨_, hdrop, (State.seqDropped_now _ _).trans hnow,
    hp.runDropped (State.seqDropped_drops p q ((hp.routed (by decide) (seqSource_lt q)).trans hsrc)) (by decide)⟩

/-- R131: it starts where they were idle in time. -/
theorem deferred_sequence_starts (s : State) (q : Sequ) (d e : Nat) (hdue : s.deadline (.seqDrop q.val) = some d)
    (hwait : (s.seqU q.val).waiting = true) (he : max (s.seqU q.val).startAt (s.idleEdge (s.rdw .SN_SEQMASK q.val)) = e)
    (hle : e ≤ (s.seqU q.val).startAt + 24 * s.get SN_SEQDLY_MAXDEF q.val) (hrank : (s.advanceTo d).outranked q.val = false) :
    ∃ t, exec (.dropped q) s = .next t ∧ t.now = max s.now d ∧ RunStarted s t q e := by
  obtain ⟨p, hp, hnow, hexec⟩ := exec_dropped hdue hwait
  rw [State.waitEdge_some hwait he hle, hrank] at hexec
  exact ⟨_, hexec, (State.seqRun_now _ _ _).trans hnow, hp.runStarted (State.seqRun_starts _ q e) (by decide) (by decide) (by decide)⟩

end Sys2Proof.Machine
end
section
/-! SUPPORT. Writes of the sequence registers (R122, R130, R131): which masters they are taken from, SEQGO and SEQCTL. -/

namespace Sys2Proof.Machine

/-! ### Who writes (R122) -/

/-- A sequence or global register is written by a lock-step pair; from another master the write sets CFG_DENIED. -/
theorem State.regStore_sense {s : State} {m : Master} {r : RegId} (v : Word) (i : Nat) (f : Word → State → State) (hopen : s.busOpen m = true)
    (hstore : ∀ (t : State) (x : Word), t.store m r x i 0 = t.senseWrite m (f x)) :
    ∃ d, s.regStore m r v i = if s.lockstep m then f (s.settle r v i) { s with drift := d } else State.put { s with drift := d } SN_CTL_CFG_DENIED 1 := by
  obtain ⟨d, hd⟩ := State.regStore_eq s m r v i 0 hopen
  exact ⟨d, hd.trans (hstore _ _)⟩

/-- CFG_DENIED alone is set. -/
theorem State.senseDenied_gives (s : State) (d : DriftU) :
    (State.put { s with drift := d } SN_CTL_CFG_DENIED 1).get SN_CTL_CFG_DENIED = 1 ∧
      (∀ (r : RegId) (i : Nat), r.has i 0 = true → r ≠ .SN_CTL → (State.put { s with drift := d } SN_CTL_CFG_DENIED 1).rdw r i = s.rdw r i) ∧
      (State.put { s with drift := d } SN_CTL_CFG_DENIED 1).timers = s.timers :=
  ⟨State.get_put _ SN_CTL_CFG_DENIED 1 0 0 senseCtl_has (by decide),
    fun r i h hne => State.rdw_put_ne _ SN_CTL_CFG_DENIED r 1 0 0 i 0 h (.inl hne), rfl⟩

/-! ### SEQGO (R130) -/

/-- SEQGO of a lock-step pair triggers its sequence; another master's write is denied. -/
theorem exec_seqgo {s : State} {m : Master} (q : Sequ) (v : Word) (hopen : s.busOpen m = true) :
    ∃ d, exec (.seqgo m q v) s = .next (if s.lockstep m then State.seqTrigger { s with drift := d } q.val false
      else State.put { s with drift := d } SN_CTL_CFG_DENIED 1) := by
  obtain ⟨d, hd⟩ := State.regStore_sense (r := .SN_SEQGO) (SN_SEQGO_GO.into v 1) q.val (fun x t => t.seqgoWrite q.val x) hopen (fun _ _ => rfl)
  refine ⟨d, congrArg Host.Outcome.next (hd.trans ?_)⟩
  have hgo : ∀ t : State, t.seqgoWrite q.val (SN_SEQGO_GO.into v 1) = t.seqTrigger q.val false := fun t => if_pos (bits_setBits _ _ _ _ (by decide))
  rw [State.settle_of_no_w1c _ _ _ _ _ rfl, hgo]

/-- A trigger of an enabled sequence with a live clock (R130, R131). -/
theorem State.seqTrigger_live {s : State} {q : Nat} (hen : s.on SN_SEQCTL_EN q = true) (hlive : s.convLive = true) :
    s.seqTrigger q false = if s.on SN_SEQSTAT_PENDING q || s.on SN_SEQSTAT_RUNNING q then s.bumpSat SN_SEQSTAT_OVERLAP q
      else (s.put SN_SEQSTAT_PENDING 1 q).arm (.seqStart q) 2 := by
  unfold State.seqTrigger
  rw [hen, hlive, if_pos (by decide)]
  rfl

section Go
variable (s : State) (m : Master) (q : Sequ) (v : Word) (hopen : s.busOpen m = true)
include hopen

section Lockstep
variable (hlock : s.lockstep m = true)
include hlock

/-- R130: SEQGO of an idle sequence makes it PENDING, its start 8 ns away. -/
theorem seqgo_makes_pending (hen : s.on SN_SEQCTL_EN q.val = true) (hlive : s.convLive = true) (hpend : s.on SN_SEQSTAT_PENDING q.val = false)
    (hrun : s.on SN_SEQSTAT_RUNNING q.val = false) :
    ∃ t, exec (.seqgo m q v) s = .next t ∧
      t.on SN_SEQSTAT_PENDING q.val = true ∧
      t.deadline (.seqStart q.val) = some (s.now + 2) ∧
      t.get SN_SEQSTAT_OVERLAP q.val = s.get SN_SEQSTAT_OVERLAP q.val := by
  obtain ⟨d, hd⟩ := exec_seqgo q v hopen
  rw [if_pos hlock, State.seqTrigger_live (s := { s with drift := d }) hen hlive, show State.on { s with drift := d } SN_SEQSTAT_PENDING q.val = _ from hpend,
    show State.on { s with drift := d } SN_SEQSTAT_RUNNING q.val = _ from hrun, Bool.or_self, if_neg Bool.false_ne_true] at hd
  exact ⟨_, hd, State.on_put _ SN_SEQSTAT_PENDING 1 q.val 0 (seqstat_has q) (by decide), State.deadline_arm _ _ _,
    State.get_put_of_apart { s with drift := d } 1 q.val 0 (seqstat_has q) (by decide)⟩

/-- R131: while the sequence is PENDING or RUNNING it counts an OVERLAP only. -/
theorem seqgo_counts_overlap (hen : s.on SN_SEQCTL_EN q.val = true) (hlive : s.convLive = true)
    (hbusy : s.on SN_SEQSTAT_PENDING q.val = true ∨ s.on SN_SEQSTAT_RUNNING q.val = true) :
    ∃ t, exec (.seqgo m q v) s = .next t ∧
      t.get SN_SEQSTAT_OVERLAP q.val = min (s.get SN_SEQSTAT_OVERLAP q.val + 1) (2 ^ SN_SEQSTAT_OVERLAP.width - 1) ∧
      t.on SN_SEQSTAT_RUNNING q.val = s.on SN_SEQSTAT_RUNNING q.val ∧
      t.on SN_SEQSTAT_PENDING q.val = s.on SN_SEQSTAT_PENDING q.val ∧
      t.timers = s.timers := by
  obtain ⟨d, hd⟩ := exec_seqgo q v hopen
  have hor : (State.on { s with drift := d } SN_SEQSTAT_PENDING q.val || State.on { s with drift := d } SN_SEQSTAT_RUNNING q.val) = true :=
    Bool.or_eq_true_iff.2 hbusy
  rw [if_pos hlock, State.seqTrigger_live (s := { s with drift := d }) hen hlive, if_pos hor] at hd
  refine ⟨_, hd, (State.get_put _ SN_SEQSTAT_OVERLAP _ q.val 0 (seqstat_has q) (by decide)).trans (Nat.mod_eq_of_lt ?_),
    State.on_put_of_apart { s with drift := d } _ q.val 0 (seqstat_has q) (by decide),
    State.on_put_of_apart { s with drift := d } _ q.val 0 (seqstat_has q) (by decide), rfl⟩
  simp only [SN_SEQSTAT_OVERLAP]
  omega

/-- R130: a sequence that is disabled, or whose clock is not live, takes no trigger. -/
theorem seqgo_without_effect (hdead : s.on SN_SEQCTL_EN q.val = false ∨ s.convLive = false) :
    ∃ t, exec (.seqgo m q v) s = .next t ∧ t.rdw .SN_SEQSTAT q.val = s.rdw .SN_SEQSTAT q.val ∧ t.timers = s.timers := by
  obtain ⟨d, hd⟩ := exec_seqgo q v hopen
  have hno : (State.on { s with drift := d } SN_SEQCTL_EN q.val && State.convLive { s with drift := d }) = false :=
    Bool.and_eq_false_iff.2 hdead
  rw [if_pos hlock, State.seqTrigger, hno, if_neg Bool.false_ne_true] at hd
  exact ⟨_, hd, rfl, rfl⟩

end Lockstep

/-- R122: SEQGO of another master. -/
theorem seqgo_of_others_is_denied (hlock : s.lockstep m = false) :
    ∃ t, exec (.seqgo m q v) s = .next t ∧ t.get SN_CTL_CFG_DENIED = 1 ∧ t.rdw .SN_SEQSTAT q.val = s.rdw .SN_SEQSTAT q.val ∧ t.timers = s.timers := by
  obtain ⟨d, hd⟩ := exec_seqgo q v hopen
  rw [hlock, if_neg Bool.false_ne_true] at hd
  obtain ⟨hdenied, hwords, htimers⟩ := s.senseDenied_gives d
  exact ⟨_, hd, hdenied, hwords _ _ (seqstat_has q) (by decide), htimers⟩

end Go

/-! ### SEQCTL (R131) -/

/-- SEQCTL of a lock-step pair; another master's write is denied. -/
theorem exec_seqctlWrite {s : State} {m : Master} (q : Sequ) (v : Word) (hopen : s.busOpen m = true) :
    ∃ d, exec (.seqctlWrite m q v) s = .next (if s.lockstep m then State.seqctlWrite { s with drift := d } q.val v
      else State.put { s with drift := d } SN_CTL_CFG_DENIED 1) := by
  obtain ⟨d, hd⟩ := State.regStore_sense (r := .SN_SEQCTL) v q.val (fun x t => t.seqctlWrite q.val x) hopen (fun _ _ => rfl)
  refine ⟨d, congrArg Host.Outcome.next (hd.trans ?_)⟩
  rw [State.settle_of_no_w1c _ _ _ _ _ rfl]

/-- Every bit of SEQCTL that a write takes but EN. -/
def seqctlHeld : Word := BitVec.ofNat 32 RegId.SN_SEQCTL.reg.rw &&& ~~~SN_SEQCTL_EN.mask

/-- They are bits 1 to 22. -/
theorem seqctlHeld_bit {k : Nat} (hk : k < 32) : seqctlHeld.getLsbD k = decide (1 ≤ k ∧ k < 23) := by
  revert k
  decide

/-- The fields of a SEQCTL write. -/
def State.seqctlFields (s : State) (q : Nat) (v : Word) : State :=
  s.condWrite .SN_SEQCTL v seqctlHeld (!s.on SN_SEQCTL_EN q) (fun s => s.put SN_CTL_CFG_DENIED 1) q

/-- A write whose TRIGSRC exists: its fields; EN 0 cancels a pending start. -/
theorem State.seqctlWrite_eq {s : State} {q : Nat} {v : Word} (h : SN_SEQCTL_TRIGSRC.of v ≠ 3) :
    s.seqctlWrite q v = if SN_SEQCTL_EN.of v = 0 then (s.seqctlFields q v).seqCancel q else s.seqctlFields q v := if_neg h

/-- Of SEQSTAT alone a cancelled start changes fields. -/
theorem State.seqctlWrite_rdw {s : State} {q : Nat} {v : Word} (h : SN_SEQCTL_TRIGSRC.of v ≠ 3) {r : RegId} {i : Nat} (hr : r.has i 0 = true)
    (hne : r ≠ .SN_SEQSTAT) : (s.seqctlWrite q v).rdw r i = (s.seqctlFields q v).rdw r i := by
  rw [State.seqctlWrite_eq h]
  split
  · exact (State.seqCancel_evolves (.refl _ _) q (covers_self _)).rdw hr (by simp [hne])
  · rfl

/-- Its fields are no matter of SEQSTAT. -/
theorem State.seqctlFields_changes (s : State) (q : Nat) (v : Word) : Evolves [.fresh, .reg .SN_CTL, .reg .SN_SEQCTL] s (s.seqctlFields q v) :=
  State.condWrite_evolves (.refl _ s) _ _ _ _ _ _ _ (fun _ h => State.put_evolves h _ _ _ _ (by decide +kernel)) (by decide +kernel)

/-- The fields of an enabled sequence: EN alone is taken, and CFG_DENIED says where another would change. -/
theorem State.seqctlFields_enabled {s : State} {q : Sequ} (hen : s.on SN_SEQCTL_EN q.val = true) (v : Word) :
    (s.seqctlFields q.val v).rdw .SN_SEQCTL q.val = RegId.SN_SEQCTL.written (s.rdw .SN_SEQCTL q.val) (keeping (s.rdw .SN_SEQCTL q.val) v seqctlHeld) ∧
      (changes (s.rdw .SN_SEQCTL q.val) v seqctlHeld = true → (s.seqctlFields q.val v).get SN_CTL_CFG_DENIED = 1) := by
  have hwritten := State.rdw_regWrite s .SN_SEQCTL (keeping (s.rdw .SN_SEQCTL q.val) v seqctlHeld) q.val 0 (seqctl_has q)
  unfold State.seqctlFields
  rw [hen, Bool.not_true, State.condWrite_unmet]
  refine ⟨?_, fun hch => ?_⟩
  · split
    · exact (State.rdw_put_ne _ SN_CTL_CFG_DENIED .SN_SEQCTL 1 0 0 q.val 0 (seqctl_has q) (.inl (by decide))).trans hwritten
    · exact hwritten
  · rw [if_pos hch]
    exact State.get_put _ SN_CTL_CFG_DENIED 1 0 0 senseCtl_has (by decide)

/-- A pending start that is cancelled (R131). -/
theorem State.seqCancel_pending {s : State} {q : Sequ} (h : s.on SN_SEQSTAT_RUNNING q.val = false) :
    (s.seqCancel q.val).on SN_SEQSTAT_PENDING q.val = false ∧ (s.seqCancel q.val).armed (.seqStart q.val) = false ∧
      (s.seqCancel q.val).armed (.seqDrop q.val) = false := by
  unfold State.seqCancel
  rw [h, if_neg Bool.false_ne_true]
  refine ⟨?_, ?_, State.armed_disarm _ _⟩
  · refine (congrArg (· != 0) (State.setSeq_get (s.put SN_SEQSTAT_PENDING 0 q.val) q _ SN_SEQSTAT_PENDING q.val 0)).trans ?_
    exact State.on_put s SN_SEQSTAT_PENDING 0 q.val 0 (seqstat_has q) (by decide)
  · rw [State.armed, State.deadline_disarm_ne _ (by simp)]
    exact State.armed_disarm _ _

section Seqctl
variable (s : State) (m : Master) (q : Sequ) (v : Word) (hopen : s.busOpen m = true)
include hopen

section Lockstep
variable (hlock : s.lockstep m = true)
include hlock

/-- SEQCTL of a lock-step pair. -/
theorem exec_seqctlWrite_lockstep : ∃ d, exec (.seqctlWrite m q v) s = .next (State.seqctlWrite { s with drift := d } q.val v) := by
  obtain ⟨d, hd⟩ := exec_seqctlWrite q v hopen
  rw [if_pos hlock] at hd
  exact ⟨d, hd⟩

/-- R131: SEQCTL of a disabled sequence takes the word. -/
theorem disabled_seqctl_is_stored (hen : s.on SN_SEQCTL_EN q.val = false) (htrig : SN_SEQCTL_TRIGSRC.of v ≠ 3) :
    ∃ t, exec (.seqctlWrite m q v) s = .next t ∧ t.rdw .SN_SEQCTL q.val = RegId.SN_SEQCTL.written (s.rdw .SN_SEQCTL q.val) v := by
  obtain ⟨d, hd⟩ := exec_seqctlWrite_lockstep s m q v hopen hlock
  refine ⟨_, hd, ?_⟩
  rw [State.seqctlWrite_rdw htrig (seqctl_has q) (by decide), State.seqctlFields, show State.on { s with drift := d } SN_SEQCTL_EN q.val = _ from hen]
  exact State.rdw_regWrite _ _ _ _ _ (seqctl_has q)

/-- R131: of an enabled one it takes EN only; EN 0 cancels a pending start, and a run goes on. -/
theorem enabled_seqctl_takes_en (hen : s.on SN_SEQCTL_EN q.val = true) (htrig : SN_SEQCTL_TRIGSRC.of v ≠ 3) :
    ∃ t, exec (.seqctlWrite m q v) s = .next t ∧
      t.get SN_SEQCTL_EN q.val = SN_SEQCTL_EN.of v ∧
      (∀ f ∈ [SN_SEQCTL_TRIGSRC, SN_SEQCTL_POS, SN_SEQCTL_BURST, SN_SEQCTL_PWMGRP, SN_SEQCTL_PWMEV, SN_SEQCTL_CANWIN],
        t.get f q.val = s.get f q.val) ∧
      (changes (s.rdw .SN_SEQCTL q.val) v seqctlHeld = true → t.get SN_CTL_CFG_DENIED = 1) ∧
      (SN_SEQCTL_EN.of v = 0 → s.on SN_SEQSTAT_RUNNING q.val = false →
        t.on SN_SEQSTAT_PENDING q.val = false ∧ t.armed (.seqStart q.val) = false ∧ t.armed (.seqDrop q.val) = false) ∧
      (s.on SN_SEQSTAT_RUNNING q.val = true → t.on SN_SEQSTAT_RUNNING q.val = true) := by
  obtain ⟨d, hd⟩ := exec_seqctlWrite_lockstep s m q v hopen hlock
  generalize hs : ({ s with drift := d } : State) = u at hd
  have hword : ∀ r i, u.rdw r i = s.rdw r i := fun r i => by
    rw [← hs]
    rfl
  have hflag : ∀ f : Fld, u.on f q.val = s.on f q.val := fun f => congrArg (fun w => f.of w != 0) (hword f.reg q.val)
  obtain ⟨hctl, hdenied⟩ := State.seqctlFields_enabled ((hflag SN_SEQCTL_EN).trans hen) v
  rw [hword] at hctl hdenied
  have hrunning := (u.seqctlFields_changes q.val v).on (f := SN_SEQSTAT_RUNNING) (seqstat_has q) (by decide)
  rw [hflag] at hrunning
  have hfield : ∀ f : Fld, f.reg = .SN_SEQCTL → f.lo + f.width ≤ 23 →
      (u.seqctlWrite q.val v).get f q.val = f.of (keeping (s.rdw .SN_SEQCTL q.val) v seqctlHeld) := fun f hf hw => by
    rw [State.get, State.seqctlWrite_rdw htrig (hf ▸ seqctl_has q) (by rw [hf]; decide), hf, hctl, ← hf]
    refine Fld.of_written f _ _ (by omega) (fun k hk => ?_)
    rw [hf]
    have hbit : f.lo + k < 23 := by omega
    generalize f.lo + k = b at hbit
    revert b
    decide
  have hkept : ∀ f : Fld, f.reg = .SN_SEQCTL → 1 ≤ f.lo → f.lo + f.width ≤ 23 → (u.seqctlWrite q.val v).get f q.val = s.get f q.val :=
    fun f hf hlo hw => by
      rw [hfield f hf hw, Fld.of_keeping_kept f _ _ _ (by omega) (fun k hk => by
        rw [seqctlHeld_bit (by omega)]
        exact decide_eq_true ⟨by omega, by omega⟩), State.get, hf]
  refine ⟨_, hd, ?_, ?_, fun hch => ?_, fun hoff hidle => ?_, fun hrun => ?_⟩
  · exact (hfield _ rfl (by decide)).trans (Fld.of_keeping_free _ _ _ _ (by decide) (by decide))
  · simp only [List.forall_mem_cons, List.not_mem_nil, false_imp_iff, implies_true, and_true]
    exact ⟨hkept _ rfl (by decide) (by decide), hkept _ rfl (by decide) (by decide), hkept _ rfl (by decide) (by decide),
      hkept _ rfl (by decide) (by decide), hkept _ rfl (by decide) (by decide), hkept _ rfl (by decide) (by decide)⟩
  · exact (congrArg SN_CTL_CFG_DENIED.of (State.seqctlWrite_rdw htrig senseCtl_has (by decide))).trans (hdenied hch)
  · rw [State.seqctlWrite_eq htrig, if_pos hoff]
    exact State.seqCancel_pending (hrunning.trans hidle)
  · have hgoes : (u.seqctlFields q.val v).on SN_SEQSTAT_RUNNING q.val = true := hrunning.trans hrun
    rw [State.seqctlWrite_eq htrig, State.seqCancel, if_pos hgoes, ite_self]
    exact hgoes

/-- R131: TRIGSRC 0b11 is refused whole. -/
theorem seqctl_of_no_trigger_is_denied (htrig : SN_SEQCTL_TRIGSRC.of v = 3) :
    ∃ t, exec (.seqctlWrite m q v) s = .next t ∧ t.rdw .SN_SEQCTL q.val = s.rdw .SN_SEQCTL q.val ∧ t.get SN_CTL_CFG_DENIED = 1 ∧
      t.timers = s.timers := by
  obtain ⟨d, hd⟩ := exec_seqctlWrite_lockstep s m q v hopen hlock
  have hrefused : State.seqctlWrite { s with drift := d } q.val v = State.put { s with drift := d } SN_CTL_CFG_DENIED 1 := if_pos htrig
  rw [hrefused] at hd
  obtain ⟨hdenied, hwords, htimers⟩ := s.senseDenied_gives d
  exact ⟨_, hd, hwords _ _ (seqctl_has q) (by decide), hdenied, htimers⟩

end Lockstep

/-- R122: SEQCTL of another master. -/
theorem seqctl_of_others_is_denied (hlock : s.lockstep m = false) :
    ∃ t, exec (.seqctlWrite m q v) s = .next t ∧ t.rdw .SN_SEQCTL q.val = s.rdw .SN_SEQCTL q.val ∧ t.get SN_CTL_CFG_DENIED = 1 ∧
      t.timers = s.timers := by
  obtain ⟨d, hd⟩ := exec_seqctlWrite q v hopen
  rw [hlock, if_neg Bool.false_ne_true] at hd
  obtain ⟨hdenied, hwords, htimers⟩ := s.senseDenied_gives d
  exact ⟨_, hd, hwords _ _ (seqctl_has q) (by decide), hdenied, htimers⟩

end Seqctl

end Sys2Proof.Machine
end
section
/-! SUPPORT. The reference buffer (R128): the wait for it, its loss, and the channels that return to NOT_READY with it. -/

namespace Sys2Proof.Machine

/-! ### Channels return to NOT_READY -/

/-- What a step of a repetition establishes, and every step keeps, holds after it. -/
theorem State.each_reaches {α : Type} (P : State → Prop) {f : State → α → State} {x : α} (hx : ∀ t, P (f t x)) (hkeep : ∀ t y, P t → P (f t y)) :
    ∀ (l : List α) (s : State), x ∈ l → P (s.each l f) := by
  have hafter : ∀ (l : List α) (s : State), P s → P (s.each l f) := by
    intro l
    induction l with
    | nil => exact fun _ h => h
    | cons y l ih => exact fun s h => ih (f s y) (hkeep s y h)
  intro l
  induction l with
  | nil => exact fun _ h => absurd h List.not_mem_nil
  | cons y l ih =>
    intro s hmem
    rcases List.mem_cons.1 hmem with rfl | hl
    · exact hafter l _ (hx s)
    · exact ih _ hl

/-- Another slice after a change of one. -/
theorem State.slice_updSlice_ne (s : State) (f : SliceU → SliceU) {c j a b : Nat} (h : 2 * a + b ≠ 2 * c + j) :
    (s.updSlice c j f).slice a b = s.slice a b := by
  unfold State.updSlice State.slice
  split
  · simp [upd, Vector.toList_set, Ne.symm h]
  · rfl

/-- Another tracker after a change of one. -/
theorem State.trk_updTrk_ne (s : State) (f : TrackU → TrackU) {c a : Nat} (h : a ≠ c) : (s.updTrk c f).trk a = s.trk a := by
  unfold State.updTrk State.trk
  split
  · simp [upd, Vector.toList_set, Ne.symm h]
  · rfl

/-- A slice is NOT_READY, with no sample and no window. -/
def State.SliceBare (s : State) (c : Chan) (j : Fin 2) : Prop :=
  s.get SN_SLINFO_NOT_READY c.val j.val = 1 ∧ (s.slice c.val j.val).count = 0 ∧ (s.slice c.val j.val).closed = none

/-- A tracker is NOT_READY, with no extremes and no record. -/
def State.TrackBare (s : State) (c : Chan) : Prop :=
  s.get SN_MMINFO_NOT_READY c.val = 1 ∧ (s.trk c.val).cur = none ∧ (s.trk c.val).closed = []

/-- A change of neither slices nor SLINFO leaves a slice bare. -/
theorem State.SliceBare.of_same {s t : State} {c : Chan} {j : Fin 2} (h : s.SliceBare c j) (hslices : t.sense.slices = s.sense.slices)
    (hinfo : t.rdw .SN_SLINFO c.val j.val = s.rdw .SN_SLINFO c.val j.val) : t.SliceBare c j := by
  unfold State.SliceBare at h ⊢
  rwa [State.slice_congr hslices, State.get, show SN_SLINFO_NOT_READY.reg = .SN_SLINFO from rfl, hinfo]

/-- A tracker rests on the trackers. -/
theorem State.trk_congr {s t : State} (h : t.sense.trackers = s.sense.trackers) (c : Nat) : t.trk c = s.trk c := by
  unfold State.trk
  rw [h]

/-- A slice's unit without samples, window or close event. -/
def SliceU.emptied (u : SliceU) : SliceU := { u with sum := 0, count := 0, closed := none, shown := none, closeAt := none, short := none }

/-- The sensing unit after a slice returns to NOT_READY: that slice is emptied. -/
theorem State.sliceNotReady_sense (s : State) (c j : Nat) : (s.sliceNotReady c j).sense = (s.updSlice c j SliceU.emptied).sense := by
  unfold State.sliceNotReady
  simp only [State.put_sense, State.disarm_sense]
  rfl

/-- The sensing unit after a channel does: both slices and the tracker are emptied. -/
theorem State.chanNotReady_sense (s : State) (c : Nat) :
    (s.chanNotReady c).sense = (((s.sliceNotReady c 0).sliceNotReady c 1).updTrk c (fun _ => ⟨none, []⟩)).sense := by
  unfold State.chanNotReady
  simp only [State.put_sense, State.disarm_sense]

/-- A slice after one returns to NOT_READY. -/
theorem State.slice_sliceNotReady (s : State) (c j a b : Nat) : (s.sliceNotReady c j).slice a b = (s.updSlice c j SliceU.emptied).slice a b :=
  State.slice_congr (congrArg SenseU.slices (s.sliceNotReady_sense c j)) a b

/-- A slice that returns to NOT_READY. -/
theorem State.sliceNotReady_bare (s : State) (c : Chan) (j : Fin 2) : (s.sliceNotReady c.val j.val).SliceBare c j := by
  have hunit : (s.sliceNotReady c.val j.val).slice c.val j.val = (s.slice c.val j.val).emptied :=
    (s.slice_sliceNotReady _ _ _ _).trans (State.slice_updSlice s c.val j.val _ (slice_lt c j))
  refine ⟨State.get_put _ SN_SLINFO_NOT_READY 1 _ _ (slinfo_has c j) (by decide), ?_, ?_⟩
  · rw [hunit]
    rfl
  · rw [hunit]
    rfl

/-- Any slice that does leaves it so. -/
theorem State.SliceBare.sliceNotReady {s : State} {c : Chan} {j : Fin 2} (h : s.SliceBare c j) (a : Nat) (b : Fin 2) :
    (s.sliceNotReady a b.val).SliceBare c j := by
  by_cases hsame : a = c.val ∧ b = j
  · obtain ⟨rfl, rfl⟩ := hsame
    exact s.sliceNotReady_bare c b
  · have hcopy : c.val ≠ a ∨ j.val ≠ b.val := by omega
    have hslice : (s.sliceNotReady a b.val).slice c.val j.val = s.slice c.val j.val :=
      (s.slice_sliceNotReady _ _ _ _).trans (State.slice_updSlice_ne s _ (by omega))
    have hput : ∀ (u : State) (f : Fld) v, (u.put f v a b.val).get SN_SLINFO_NOT_READY c.val j.val = u.get SN_SLINFO_NOT_READY c.val j.val :=
      fun u f v => State.get_put_ne u f SN_SLINFO_NOT_READY v _ _ _ _ (slinfo_has c j) (by tauto)
    have hupd : ∀ g, (s.updSlice a b.val g).get SN_SLINFO_NOT_READY c.val j.val = s.get SN_SLINFO_NOT_READY c.val j.val := fun g =>
      (State.updSlice_evolves (.refl _ s) a b.val g (covers_self _)).get (f := SN_SLINFO_NOT_READY) (slinfo_has c j) (by decide)
    have hinfo : (s.sliceNotReady a b.val).get SN_SLINFO_NOT_READY c.val j.val = s.get SN_SLINFO_NOT_READY c.val j.val := by
      unfold State.sliceNotReady
      dsimp only
      rw [hput, hput, hput, hput, State.disarm_get, hupd]
    unfold State.SliceBare at h ⊢
    rwa [hslice, hinfo]

/-- A channel that returns to NOT_READY, before its own flag and its tracker's are set. -/
def State.chanCleared (s : State) (c : Nat) : State :=
  (((((s.sliceNotReady c 0).sliceNotReady c 1).updTrk c (fun _ => ⟨none, []⟩)).disarm (.record c)).put SN_MMMIN_MIN 0 c |>.put SN_MMMAX_MAX 0 c).put
    SN_MMINFO_COUNT 0 c

theorem State.chanNotReady_eq (s : State) (c : Nat) :
    s.chanNotReady c = ((s.chanCleared c).put SN_MMINFO_NOT_READY 1 c).put SN_CHSTAT_NOT_READY 1 c := rfl

/-- The registers of the trackers and of the channels' status are written after the slices'. -/
theorem State.chanNotReady_after (s : State) (c : Nat) :
    Evolves [.fresh, .timers, .sense, .reg .SN_MMMIN, .reg .SN_MMMAX, .reg .SN_MMINFO, .reg .SN_CHSTAT] ((s.sliceNotReady c 0).sliceNotReady c 1)
      (s.chanNotReady c) := by
  rw [State.chanNotReady_eq]
  unfold State.chanCleared
  generalize (s.sliceNotReady c 0).sliceNotReady c 1 = u
  have htrk := State.disarm_evolves (A := [.fresh, .timers, .sense, .reg .SN_MMMIN, .reg .SN_MMMAX, .reg .SN_MMINFO, .reg .SN_CHSTAT])
    (State.updTrk_evolves (.refl _ u) c (fun _ => ⟨none, []⟩) (by decide +kernel)) (.record c) (by decide +kernel)
  have hextremes := State.put_evolves (State.put_evolves htrk SN_MMMIN_MIN 0 c 0 (by decide +kernel)) SN_MMMAX_MAX 0 c 0 (by decide +kernel)
  have hinfo := State.put_evolves (State.put_evolves hextremes SN_MMINFO_COUNT 0 c 0 (by decide +kernel)) SN_MMINFO_NOT_READY 1 c 0 (by decide +kernel)
  exact State.put_evolves hinfo SN_CHSTAT_NOT_READY 1 c 0 (by decide +kernel)

/-- A channel's slices change with its slices alone. -/
theorem State.SliceBare.after_slices {s : State} {c : Chan} {j : Fin 2} {a : Nat} (h : ((s.sliceNotReady a 0).sliceNotReady a 1).SliceBare c j) :
    (s.chanNotReady a).SliceBare c j :=
  h.of_same ((congrArg SenseU.slices (s.chanNotReady_sense a)).trans (State.updTrk_slices _ a _)) ((s.chanNotReady_after a).rdw (slinfo_has c j) (by decide))

/-- R128: the slices of a channel that returns to NOT_READY. -/
theorem State.chanNotReady_sliceBare (s : State) (c : Chan) (j : Fin 2) : (s.chanNotReady c.val).SliceBare c j := by
  refine State.SliceBare.after_slices ?_
  rcases Fin.exists_fin_two.1 ⟨j, rfl⟩ with rfl | rfl
  · exact (s.sliceNotReady_bare c 0).sliceNotReady c.val 1
  · exact (s.sliceNotReady c.val 0).sliceNotReady_bare c 1

theorem State.SliceBare.chanNotReady {s : State} {c : Chan} {j : Fin 2} (h : s.SliceBare c j) (a : Nat) : (s.chanNotReady a).SliceBare c j :=
  State.SliceBare.after_slices ((h.sliceNotReady a 0).sliceNotReady a 1)

/-- The trackers after a slice returns to NOT_READY. -/
theorem State.sliceNotReady_trackers (s : State) (c j : Nat) : (s.sliceNotReady c j).sense.trackers = s.sense.trackers :=
  (congrArg SenseU.trackers (s.sliceNotReady_sense c j)).trans (s.updSlice_trackers c j _)

/-- The tracker of a channel that returns to NOT_READY, and of another. -/
theorem State.chanNotReady_trk (s : State) (c : Chan) : (s.chanNotReady c.val).trk c.val = ⟨none, []⟩ :=
  (State.trk_congr (congrArg SenseU.trackers (s.chanNotReady_sense c.val)) c.val).trans (State.trk_updTrk _ _ _ c.isLt)

theorem State.chanNotReady_trk_ne (s : State) {c a : Nat} (h : c ≠ a) : (s.chanNotReady a).trk c = s.trk c := by
  rw [State.trk_congr (congrArg SenseU.trackers (s.chanNotReady_sense a)) c, State.trk_updTrk_ne _ _ h]
  exact State.trk_congr ((State.sliceNotReady_trackers _ a 1).trans (s.sliceNotReady_trackers a 0)) c

/-- A field of another channel, of the trackers' registers or of the channels' status. -/
theorem State.chanNotReady_get_ne (s : State) {f : Fld} {c a : Nat} (hhas : f.reg.has c 0 = true) (h : c ≠ a) (hmean : f.reg ≠ .SN_SLMEAN)
    (hinfo : f.reg ≠ .SN_SLINFO) : (s.chanNotReady a).get f c = s.get f c := by
  have hput : ∀ (u : State) (g : Fld) v, (u.put g v a).get f c = u.get f c := fun u g v => State.get_put_ne u g f v _ _ _ _ hhas (.inr (.inl h))
  have hslices : ((s.sliceNotReady a 0).sliceNotReady a 1).get f c = s.get f c :=
    (State.sliceNotReady_evolves (State.sliceNotReady_evolves (.refl _ s) a 0 (covers_self _)) a 1 (covers_self _)).get hhas (by simp [hmean, hinfo])
  have htrk : ∀ (u : State) g, (u.updTrk a g).get f c = u.get f c := fun u g =>
    (State.updTrk_evolves (.refl _ u) a g (covers_self _)).get hhas (by simp)
  rw [State.chanNotReady_eq, State.chanCleared, hput, hput, hput, hput, hput, State.disarm_get, htrk, hslices]

/-- R128: the tracker of a channel that returns to NOT_READY. -/
theorem State.chanNotReady_trackBare (s : State) (c : Chan) : (s.chanNotReady c.val).TrackBare c := by
  have hinfo := mminfo_has c
  refine ⟨?_, ?_, ?_⟩
  · rw [State.chanNotReady_eq, State.get_put_of_apart _ _ _ _ hinfo (by decide)]
    exact State.get_put _ SN_MMINFO_NOT_READY 1 c.val 0 hinfo (by decide)
  · rw [State.chanNotReady_trk]
  · rw [State.chanNotReady_trk]

theorem State.TrackBare.chanNotReady {s : State} {c : Chan} (h : s.TrackBare c) (a : Nat) : (s.chanNotReady a).TrackBare c := by
  by_cases hsame : c.val = a
  · subst hsame
    exact s.chanNotReady_trackBare c
  · unfold State.TrackBare at h ⊢
    rwa [State.chanNotReady_trk_ne s hsame, State.chanNotReady_get_ne s (f := SN_MMINFO_NOT_READY) (mminfo_has c) hsame (by decide) (by decide)]

/-- R128: a channel's own flag. -/
theorem State.chanNotReady_flag (s : State) (c : Chan) (a : Nat) (h : c.val = a ∨ s.get SN_CHSTAT_NOT_READY c.val = 1) :
    (s.chanNotReady a).get SN_CHSTAT_NOT_READY c.val = 1 := by
  by_cases hsame : c.val = a
  · subst hsame
    exact State.get_put _ SN_CHSTAT_NOT_READY 1 c.val 0 (chstat_has c) (by decide)
  · rw [State.chanNotReady_get_ne s (f := SN_CHSTAT_NOT_READY) (chstat_has c) hsame (by decide) (by decide)]
    exact h.resolve_left hsame

/-! ### REFRDY falls -/

/-- The state shows the reference buffer as lost (R128). -/
def RefLost (t : State) : Prop :=
  t.get SN_CTL_REFRDY = 0 ∧
    t.get SN_CTL_REF_LOST = 1 ∧
    t.raised 289 = true ∧
    (∀ c : Chan, t.get SN_CHSTAT_NOT_READY c.val = 1) ∧
    (∀ c : Chan, ∀ j : Fin 2, t.SliceBare c j) ∧
    (∀ c : Chan, t.TrackBare c)

/-- The registers and units of a buffer that is lost, before its source is raised. -/
def State.refCleared (s : State) : State :=
  ((s.put SN_CTL_REFRDY 0).put SN_CTL_REF_LOST 1).each (List.range 120) State.chanNotReady

theorem State.refDrop_eq (s : State) : s.refDrop = s.refCleared.raise 289 := rfl

/-- CTL is as its own fields leave it. -/
theorem State.refCleared_changes (s : State) :
    Evolves [.fresh, .timers, .sense, .reg .SN_CHSTAT, .reg .SN_SLMEAN, .reg .SN_SLINFO, .reg .SN_MMMIN, .reg .SN_MMMAX, .reg .SN_MMINFO]
      ((s.put SN_CTL_REFRDY 0).put SN_CTL_REF_LOST 1) s.refCleared :=
  State.each_evolves (.refl _ _) _ _ (fun _ _ ht => State.chanNotReady_evolves ht _ (covers_self _))

/-- Every channel is as a channel that returns to NOT_READY. -/
theorem State.refCleared_reaches (s : State) (P : State → Prop) (c : Chan) (hown : ∀ t : State, P (t.chanNotReady c.val))
    (hkeep : ∀ (t : State) a, P t → P (t.chanNotReady a)) : P s.refCleared :=
  State.each_reaches P hown hkeep _ _ (List.mem_range.2 c.isLt)

/-- REFEN is as it was. -/
theorem State.refDrop_refen (s : State) : s.refDrop.get SN_CTL_REFEN = s.get SN_CTL_REFEN := by
  rw [State.refDrop_eq, (State.raise_evolves (.refl _ _) 289 (covers_self _)).get (f := SN_CTL_REFEN) senseCtl_has (by decide),
    s.refCleared_changes.get (f := SN_CTL_REFEN) senseCtl_has (by decide), State.get_put_of_apart _ _ _ _ senseCtl_has (by decide),
    State.get_put_of_apart _ _ _ _ senseCtl_has (by decide)]

/-- R128: what a lost buffer leaves. -/
theorem State.refDrop_loses (s : State) (hsrc : s.routed 289 = true) : RefLost s.refDrop := by
  have hputs : Evolves [.fresh, .reg .SN_CTL] s ((s.put SN_CTL_REFRDY 0).put SN_CTL_REF_LOST 1) :=
    State.put_evolves (State.put_evolves (.refl _ s) _ _ _ _ (by decide +kernel)) _ _ _ _ (by decide +kernel)
  have hclear := s.refCleared_changes
  have hraise := State.raise_evolves (.refl _ s.refCleared) 289 (covers_self _)
  have hsense : (s.refCleared.raise 289).sense = s.refCleared.sense := hraise.kept .sense (by decide)
  have hslices : (s.refCleared.raise 289).sense.slices = s.refCleared.sense.slices := congrArg SenseU.slices hsense
  have htrk : ∀ k, (s.refCleared.raise 289).trk k = s.refCleared.trk k := State.trk_congr (congrArg SenseU.trackers hsense)
  rw [State.refDrop_eq]
  refine ⟨?_, ?_, State.raise_raised _ (by decide) ?_, fun c => ?_, fun c j => ?_, fun c => ?_⟩
  · rw [hraise.get (f := SN_CTL_REFRDY) senseCtl_has (by decide), hclear.get (f := SN_CTL_REFRDY) senseCtl_has (by decide),
      State.get_put_of_apart _ _ _ _ senseCtl_has (by decide)]
    exact State.get_put s SN_CTL_REFRDY 0 0 0 senseCtl_has (by decide)
  · rw [hraise.get (f := SN_CTL_REF_LOST) senseCtl_has (by decide), hclear.get (f := SN_CTL_REF_LOST) senseCtl_has (by decide)]
    exact State.get_put _ SN_CTL_REF_LOST 1 0 0 senseCtl_has (by decide)
  · rw [hclear.routed (by decide) (by decide), hputs.routed (by decide) (by decide)]
    exact hsrc
  · rw [hraise.get (f := SN_CHSTAT_NOT_READY) (chstat_has c) (by decide)]
    exact s.refCleared_reaches (fun t => t.get SN_CHSTAT_NOT_READY c.val = 1) c (fun t => t.chanNotReady_flag c _ (.inl rfl))
      (fun t a h => t.chanNotReady_flag c a (.inr h))
  · exact (s.refCleared_reaches (fun t => t.SliceBare c j) c (fun t => t.chanNotReady_sliceBare c j) (fun _ a h => h.chanNotReady a)).of_same hslices
      (hraise.rdw (slinfo_has c j) (by decide))
  · have hbare := s.refCleared_reaches (fun t => t.TrackBare c) c (fun t => t.chanNotReady_trackBare c) (fun _ a h => h.chanNotReady a)
    unfold State.TrackBare at hbare ⊢
    rwa [htrk, hraise.get (f := SN_MMINFO_NOT_READY) (mminfo_has c) (by decide)]

/-- R128: a reference fault while REFRDY is 1. -/
theorem reference_fault_loses_buffer (s : State) (href : s.on SN_CTL_REFRDY = true) (hsrc : s.routed 289 = true) :
    ∃ t, exec .referenceFault s = .next t ∧ RefLost t :=
  ⟨_, congrArg Host.Outcome.next (if_pos href), s.refDrop_loses hsrc⟩

/-- A reference fault while REFRDY is 0. -/
theorem reference_fault_without_effect (s : State) (href : s.on SN_CTL_REFRDY = false) : ∃ t, exec .referenceFault s = .next t ∧ t = s :=
  ⟨s, congrArg Host.Outcome.next (if_neg (by rw [href]; exact Bool.false_ne_true)), rfl⟩

/-- R128: the end of the wait. -/
theorem reference_comes_up (s : State) (d : Nat) (hdue : s.deadline .refReady = some d) (hsrc : s.routed 290 = true) :
    ∃ t, exec .refrdy s = .next t ∧ t.get SN_CTL_REFRDY = 1 ∧ t.raised 290 = true ∧ t.now = max s.now d := by
  have hexec : exec .refrdy s = .next ((((s.advanceTo d).disarm .refReady).put SN_CTL_REFRDY 1).raise 290) := by
    show execRefrdy s = _
    unfold execRefrdy State.onTimer
    rw [hdue]
  have hbefore : Evolves ([Part.reg .SN_CTL] ++ onTimerParts) s (((s.advanceTo d).disarm .refReady).put SN_CTL_REFRDY 1) :=
    State.put_evolves (State.disarm_evolves (State.advanceTo_evolves (.refl _ s) d (by decide +kernel)) _ (by decide +kernel)) _ _ _ _ (by decide +kernel)
  have hraise := State.raise_evolves (.refl _ (((s.advanceTo d).disarm .refReady).put SN_CTL_REFRDY 1)) 290 (covers_self _)
  refine ⟨_, hexec, ?_, State.raise_raised _ (by decide) ((hbefore.routed (by decide) (by decide)).trans hsrc), ?_⟩
  · rw [hraise.get (f := SN_CTL_REFRDY) senseCtl_has (by decide)]
    exact State.get_put _ SN_CTL_REFRDY 1 0 0 senseCtl_has (by decide)
  · exact (hraise.kept .now (by decide)).trans (s.advanceTo_now d)

/-! ### CTL written -/

/-- CTL of a lock-step pair, W1C bits of this tick aside; another master's write is denied. -/
theorem exec_refenWrite {s : State} {m : Master} (v : Word) (hopen : s.busOpen m = true) :
    ∃ d w, SN_CTL_REFEN.of w = SN_CTL_REFEN.of v ∧ exec (.refenWrite m v) s = .next (if s.lockstep m then State.ctlSenseWrite { s with drift := d } w
      else State.put { s with drift := d } SN_CTL_CFG_DENIED 1) := by
  obtain ⟨d, hd⟩ := State.regStore_sense (r := .SN_CTL) v 0 (fun x t => t.ctlSenseWrite x) hopen (fun _ _ => rfl)
  exact ⟨d, _, s.settle_field SN_CTL_REFEN v 0 0 (by decide) (by decide), congrArg Host.Outcome.next hd⟩

/-- The word of CTL is stored: REFEN as written, REFRDY as it was. -/
theorem State.ctlStored_gives (s : State) (w : Word) :
    (s.regWrite .SN_CTL w).get SN_CTL_REFEN = SN_CTL_REFEN.of w ∧ (s.regWrite .SN_CTL w).get SN_CTL_REFRDY = s.get SN_CTL_REFRDY := by
  have hword := State.rdw_regWrite s .SN_CTL w 0 0 senseCtl_has
  exact ⟨(congrArg SN_CTL_REFEN.of hword).trans (Fld.of_written SN_CTL_REFEN _ _ (by decide) (by decide)),
    (congrArg SN_CTL_REFRDY.of hword).trans (Fld.of_written_kept SN_CTL_REFRDY _ _ (by decide) (by decide))⟩

section Refen
variable (s : State) (m : Master) (v : Word) (hopen : s.busOpen m = true)
include hopen

section Lockstep
variable (hlock : s.lockstep m = true)
include hlock

/-- R128: REFEN 1 starts the wait of 2 ms. -/
theorem refen_starts_wait (hen : SN_CTL_REFEN.of v = 1) (href : s.on SN_CTL_REFRDY = false) (hidle : s.armed .refReady = false) :
    ∃ t, exec (.refenWrite m v) s = .next t ∧
      t.deadline .refReady = some (s.now + 500000) ∧ t.get SN_CTL_REFEN = 1 ∧ t.on SN_CTL_REFRDY = false := by
  obtain ⟨d, w, hw, hexec⟩ := exec_refenWrite v hopen
  have hnone : (State.on { s with drift := d } SN_CTL_REFRDY || State.armed { s with drift := d } .refReady) = false := Bool.or_eq_false_iff.2 ⟨href, hidle⟩
  rw [if_pos hlock, State.ctlSenseWrite, hw, if_pos hen, hnone, if_neg Bool.false_ne_true] at hexec
  obtain ⟨hrefen, hrefrdy⟩ := State.ctlStored_gives { s with drift := d } w
  exact ⟨_, hexec, State.deadline_arm _ _ _, hrefen.trans (hw.trans hen), (congrArg (· != 0) hrefrdy).trans href⟩

/-- While REFRDY is 1 or the wait runs it starts none (log entry 40). -/
theorem refen_starts_no_second_wait (hen : SN_CTL_REFEN.of v = 1) (hup : s.on SN_CTL_REFRDY = true ∨ s.armed .refReady = true) :
    ∃ t, exec (.refenWrite m v) s = .next t ∧
      t.deadline .refReady = s.deadline .refReady ∧ t.get SN_CTL_REFEN = 1 ∧ t.on SN_CTL_REFRDY = s.on SN_CTL_REFRDY := by
  obtain ⟨d, w, hw, hexec⟩ := exec_refenWrite v hopen
  have hsome : (State.on { s with drift := d } SN_CTL_REFRDY || State.armed { s with drift := d } .refReady) = true := Bool.or_eq_true_iff.2 hup
  rw [if_pos hlock, State.ctlSenseWrite, hw, if_pos hen, if_pos hsome] at hexec
  obtain ⟨hrefen, hrefrdy⟩ := State.ctlStored_gives { s with drift := d } w
  exact ⟨_, hexec, rfl, hrefen.trans (hw.trans hen), congrArg (· != 0) hrefrdy⟩

/-- R128: REFEN 0 while REFRDY is 1 loses the buffer. -/
theorem refen_off_loses_buffer (hen : SN_CTL_REFEN.of v = 0) (href : s.on SN_CTL_REFRDY = true) (hsrc : s.routed 289 = true) :
    ∃ t, exec (.refenWrite m v) s = .next t ∧ t.get SN_CTL_REFEN = 0 ∧ RefLost t := by
  obtain ⟨d, w, hw, hexec⟩ := exec_refenWrite v hopen
  rw [if_pos hlock, State.ctlSenseWrite, hw, hen, if_neg (by decide), show State.on { s with drift := d } SN_CTL_REFRDY = _ from href, if_pos rfl] at hexec
  obtain ⟨hrefen, -⟩ := State.ctlStored_gives { s with drift := d } w
  refine ⟨_, hexec, (State.refDrop_refen _).trans (hrefen.trans (hw.trans hen)), State.refDrop_loses _ ?_⟩
  exact ((State.regWrite_evolves (.refl _ { s with drift := d }) .SN_CTL w 0 0 (covers_self _)).routed (by decide) (by decide)).trans hsrc

/-- R128: REFEN 0 while REFRDY is 0 ends the wait. -/
theorem refen_off_ends_wait (hen : SN_CTL_REFEN.of v = 0) (href : s.on SN_CTL_REFRDY = false) :
    ∃ t, exec (.refenWrite m v) s = .next t ∧ t.get SN_CTL_REFEN = 0 ∧ t.get SN_CTL_REFRDY = 0 ∧ t.armed .refReady = false := by
  obtain ⟨d, w, hw, hexec⟩ := exec_refenWrite v hopen
  rw [if_pos hlock, State.ctlSenseWrite, hw, hen, if_neg (by decide), show State.on { s with drift := d } SN_CTL_REFRDY = _ from href,
    if_neg Bool.false_ne_true] at hexec
  obtain ⟨hrefen, hrefrdy⟩ := State.ctlStored_gives { s with drift := d } w
  have hzero : s.get SN_CTL_REFRDY = 0 := by simpa [State.on] using href
  exact ⟨_, hexec, hrefen.trans (hw.trans hen), hrefrdy.trans hzero, State.armed_disarm _ _⟩

end Lockstep

/-- R122: CTL of another master. -/
theorem refen_of_others_is_denied (hlock : s.lockstep m = false) :
    ∃ t, exec (.refenWrite m v) s = .next t ∧
      t.get SN_CTL_CFG_DENIED = 1 ∧
      t.get SN_CTL_REFEN = s.get SN_CTL_REFEN ∧
      t.get SN_CTL_REFRDY = s.get SN_CTL_REFRDY ∧
      t.deadline .refReady = s.deadline .refReady := by
  obtain ⟨d, w, -, hexec⟩ := exec_refenWrite v hopen
  rw [hlock, if_neg Bool.false_ne_true] at hexec
  exact ⟨_, hexec, (s.senseDenied_gives d).1, State.get_put_of_apart { s with drift := d } _ _ _ senseCtl_has (by decide),
    State.get_put_of_apart { s with drift := d } _ _ _ senseCtl_has (by decide), rfl⟩

end Refen

end Sys2Proof.Machine
end
section
/-! SUPPORT. Conversions (R124, R125, R129, R132, R135): what samples of a channel leave to other channels and to the sequences, and the end of a
conversion. -/

namespace Sys2Proof.Machine

/-! ### What samples and closes of one channel leave -/

section Sampling
variable {β : Type} (p : State → β) {c : Nat} (hput : ∀ (t : State) f v i j, p (t.put f v i j) = p t) (harm : ∀ (t : State) u d, p (t.arm u d) = p t)
  (hslice : ∀ (t : State) j f, p (t.updSlice c j f) = p t) (htrk : ∀ (t : State) f, p (t.updTrk c f) = p t)

include harm htrk in
/-- A reset event of the channel's tracker. -/
theorem State.mmClose_keeps (s : State) : p (s.mmClose c) = p s := by
  unfold State.mmClose
  split
  · rfl
  · dsimp only
    split
    · exact htrk _ _
    · rw [harm, htrk]

include harm hslice htrk

/-- A window of the channel closes. -/
theorem State.closeWindow_keeps (s : State) (j : Nat) : p (s.closeWindow c j) = p s := by
  unfold State.closeWindow State.mmSlice
  dsimp only
  split
  · rw [State.mmClose_keeps p harm htrk, harm, hslice]
  · rw [harm, hslice]

include hput

/-- A close event of a slice of the channel. -/
theorem State.closeSlice_keeps (s : State) (j : Nat) : p (s.closeSlice c j) = p s := by
  unfold State.closeSlice State.bumpSat
  dsimp only
  split
  · rfl
  · split
    · rw [hput, hslice]
    · rw [State.closeWindow_keeps p harm hslice htrk, hslice]

/-- A sample that enters the window in progress. -/
theorem State.enterSample_keeps (s : State) (j : Nat) (x : Int) : p (s.enterSample c j x) = p s := by
  have hgap : p (s.countGap c j) = p s := by
    unfold State.countGap State.bumpSat
    split
    · exact hput _ _ _ _ _
    · rfl
  have hsample : p (s.withSample c j x) = p s := (hslice _ _ _).trans hgap
  rw [State.enterSample_eq]
  split
  · exact hgap
  · split
    · rw [State.closeWindow_keeps p harm hslice htrk, hsample]
    · exact hsample

/-- A sample in the tick of its slice's close event. -/
theorem State.joinSample_keeps (s : State) (j : Nat) (x : Int) : p (s.joinSample c j x) = p s := by
  have henter := State.enterSample_keeps p hput harm hslice htrk s j x
  unfold State.joinSample
  dsimp only
  split
  · split
    · exact hslice _ _ _
    · rfl
  · exact henter
  · split
    · exact henter
    · rw [State.closeWindow_keeps p harm hslice htrk, hslice, hput, henter]

/-- A sample of a slice of the channel. -/
theorem State.addSample_keeps (s : State) (j : Nat) (x : Int) : p (s.addSample c j x) = p s := by
  unfold State.addSample
  split
  · rfl
  · split
    · exact State.joinSample_keeps p hput harm hslice htrk s j x
    · exact State.enterSample_keeps p hput harm hslice htrk s j x

/-- A sample of the channel. -/
theorem State.deliverSample_keeps (s : State) (x : Int) : p (s.deliverSample c x) = p s := by
  have htracked : p (s.trackSample c x) = p s := by
    unfold State.trackSample
    split
    · exact htrk _ _
    · rfl
  unfold State.deliverSample
  split
  · rw [State.addSample_keeps p hput harm hslice htrk, State.addSample_keeps p hput harm hslice htrk, htracked]
  · rfl

end Sampling

/-- The sequences' units are no matter of the slices and trackers. -/
theorem State.updSlice_seqs (s : State) (c j : Nat) (f : SliceU → SliceU) : (s.updSlice c j f).sense.seqs = s.sense.seqs := by
  unfold State.updSlice
  split <;> rfl

theorem State.updTrk_seqs (s : State) (c : Nat) (f : TrackU → TrackU) : (s.updTrk c f).sense.seqs = s.sense.seqs := by
  unfold State.updTrk
  split <;> rfl

/-- Nor of closes at the end of a sequence. -/
theorem State.closeBy_seqs (s : State) (mode src : Nat) : (s.closeBy mode src).sense.seqs = s.sense.seqs := by
  unfold State.closeBy
  refine State.each_keeps (fun t => t.sense.seqs) _ _ (fun t n => ?_) s
  dsimp only
  split
  · exact State.closeSlice_keeps (fun t => t.sense.seqs) (fun _ _ _ _ _ => rfl) (fun _ _ _ => rfl) (fun t => t.updSlice_seqs _) (fun t => t.updTrk_seqs _) t _
  · rfl

/-- A slice's change leaves every tracker. -/
theorem State.updSlice_trk (s : State) (c j : Nat) (f : SliceU → SliceU) (a : Nat) : (s.updSlice c j f).trk a = s.trk a := by
  unfold State.trk
  rw [State.updSlice_trackers]

/-- A sample of another channel leaves a tracker. -/
theorem State.deliverSample_trk_ne (s : State) {c a : Nat} (h : a ≠ c) (x : Int) : (s.deliverSample c x).trk a = s.trk a :=
  State.deliverSample_keeps (fun t => t.trk a) (fun _ _ _ _ _ => rfl) (fun _ _ _ => rfl) (fun t j f => t.updSlice_trk c j f a)
    (fun t f => t.trk_updTrk_ne f h) s x

/-! ### A channel's sample -/

/-- What a sample of a channel rests on: its tracker, its settings, its tracker's settings, REFRDY. -/
def State.sampleView (s : State) (c : Nat) : TrackU × Word × Word × Word := (s.trk c, s.rdw .SN_CHCTL c, s.rdw .SN_MMCTL c, s.rdw .SN_CTL)

/-- A code that does not fit sets OFS_SAT and source 291. -/
def State.noteClip (s : State) (c : Nat) (x : Int) : State :=
  if sat24 x = x ∨ s.on SN_CHSTAT_OFS_SAT c then s else (s.put SN_CHSTAT_OFS_SAT 1 c).raise 291

/-- The sample of a code, before its clamp (R125). -/
def State.sarValue (s : State) (c : Nat) (n : BitVec 16) : Int :=
  ((n.toNat : Int) - 32768 - (BitVec.ofNat 16 (s.get SN_CHCTL_OFFSET c)).toInt) * 256

/-- A SAR result: its clip is noted, its sample delivered (R125). -/
theorem State.sarSample_eq (s : State) (c : Nat) (n : BitVec 16) :
    s.sarSample c n = (s.noteClip c (s.sarValue c n)).deliverSample c (sat24 (s.sarValue c n)) := rfl

theorem State.noteClip_changes (s : State) (c : Nat) (x : Int) : Evolves ([Part.reg .SN_CHSTAT] ++ raiseParts) s (s.noteClip c x) :=
  ite_evolves (.refl _ s) (State.raise_evolves (State.put_evolves (.refl _ s) _ _ _ _ (by decide +kernel)) _ (by decide +kernel))

/-- A clip that is noted is no matter of the trackers. -/
theorem State.noteClip_trk (s : State) (c : Nat) (x : Int) (a : Nat) : (s.noteClip c x).trk a = s.trk a := by
  have hsense : (s.noteClip c x).sense = s.sense := (s.noteClip_changes c x).kept .sense (by decide)
  unfold State.trk
  rw [hsense]

/-- What a sample rests on is registers that no result changes, and its tracker. -/
theorem Evolves.sampleView {A : List Part} {s t : State} (h : Evolves A s t) {c : Chan} (hc : c.val < 96) (h1 : Part.reg .SN_CHCTL ∉ A)
    (h2 : Part.reg .SN_MMCTL ∉ A) (h3 : Part.reg .SN_CTL ∉ A) (htrk : t.trk c.val = s.trk c.val) : t.sampleView c.val = s.sampleView c.val := by
  unfold State.sampleView
  rw [htrk, h.rdw (chctl_has hc) h1, h.rdw (mmctl_has c) h2, h.rdw senseCtl_has h3]

/-- A result of another channel leaves what a channel's sample rests on. -/
theorem State.sarSample_view_ne (s : State) {c : Chan} (hc : c.val < 96) {a : Nat} (h : c.val ≠ a) (n : BitVec 16) :
    (s.sarSample a n).sampleView c.val = s.sampleView c.val := by
  refine (State.sarSample_evolves (.refl _ s) a n (covers_self _)).sampleView hc (by decide) (by decide) (by decide) ?_
  rw [State.sarSample_eq, State.deliverSample_trk_ne _ h, State.noteClip_trk]

/-- R135: a sample that no window's close resets widens the extremes of its enabled tracker. -/
theorem State.deliverSample_widens {s : State} {c : Chan} (href : s.on SN_CTL_REFRDY = true) (hen : s.on SN_MMCTL_EN c.val = true)
    (hrst : 2 ≤ s.get SN_MMCTL_RST c.val) (hclosed : (s.trk c.val).closed = []) (x : Int) :
    ((s.deliverSample c.val x).trk c.val).cur = some (widen x (s.trk c.val).cur) := by
  have hquiet : ∀ j < 2, (s.trackSample c.val x).get SN_MMCTL_RST c.val ≠ j := fun j hj => by
    rw [(State.trackSample_evolves (.refl _ s) c.val x (covers_self _)).get (f := SN_MMCTL_RST) (mmctl_has c) (by decide)]
    omega
  have htracks : (s.deliverSample c.val x).tracks = (s.trackSample c.val x).tracks := by
    have hfirst := State.addSample_evolves (.refl _ (s.trackSample c.val x)) c.val 0 x (covers_self _)
    rw [State.deliverSample, if_pos href, State.addSample_tracks (Evolves.quiet (hquiet 1 (by decide)) hfirst),
      State.addSample_tracks (hquiet 0 (by decide))]
  have htrk : (s.deliverSample c.val x).trk c.val = (s.trackSample c.val x).trk c.val :=
    congrArg (fun p : Vector TrackU 120 × Vector Nat 24 => p.1.toList.getD c.val ⟨none, []⟩) htracks
  rw [htrk, State.trackSample_widens hen hclosed]

/-- R125, R135: so does the result of a SAR conversion. -/
theorem State.sarSample_widens {s : State} {c : Chan} (href : s.on SN_CTL_REFRDY = true) (hen : s.on SN_MMCTL_EN c.val = true)
    (hrst : 2 ≤ s.get SN_MMCTL_RST c.val) (hclosed : (s.trk c.val).closed = []) (n : BitVec 16) :
    ((s.sarSample c.val n).trk c.val).cur = some (widen (sat24 (s.sarValue c.val n)) (s.trk c.val).cur) := by
  have hclip := s.noteClip_changes c.val (s.sarValue c.val n)
  have htrk := s.noteClip_trk c.val (s.sarValue c.val n) c.val
  rw [State.sarSample_eq, State.deliverSample_widens ((hclip.on (f := SN_CTL_REFRDY) senseCtl_has (by decide)).trans href)
    ((hclip.on (f := SN_MMCTL_EN) (mmctl_has c) (by decide)).trans hen)
    (hrst.trans_eq (hclip.get (f := SN_MMCTL_RST) (mmctl_has c) (by decide)).symm) (htrk.symm ▸ hclosed), htrk]

/-! ### The results of a step (R123, R129) -/

/-- A repetition over distinct entries, one of which alone changes a view: the view after it is that after its own step from the view before. -/
theorem State.each_once {α γ : Type} (view : State → γ) {f : State → α → State} {x : α} (hother : ∀ t y, y ≠ x → view (f t y) = view t) :
    ∀ (l : List α) (s : State), l.Nodup → x ∈ l → ∃ t, view t = view s ∧ view (s.each l f) = view (f t x) := by
  have hout : ∀ (l : List α) (s : State), x ∉ l → view (s.each l f) = view s := by
    intro l
    induction l with
    | nil => exact fun _ _ => rfl
    | cons y l ih =>
      intro s hx
      rw [List.mem_cons, not_or] at hx
      exact (ih (f s y) hx.2).trans (hother s y (Ne.symm hx.1))
  intro l
  induction l with
  | nil => exact fun _ _ h => absurd h List.not_mem_nil
  | cons y l ih =>
    intro s hnodup hmem
    obtain ⟨hy, hl⟩ := List.nodup_cons.1 hnodup
    by_cases hxy : y = x
    · subst hxy
      exact ⟨s, rfl, hout l (f s y) hy⟩
    · obtain ⟨t, ht, heach⟩ := ih (f s y) hl ((List.mem_cons.1 hmem).resolve_left (Ne.symm hxy))
      exact ⟨t, ht.trans (hother s y hxy), heach⟩

/-- R129, R135: the result of a converter of the mask widens the extremes of its channel's tracker. -/
theorem State.stepResults_widens {s : State} {mask : Word} {p : Nat} (codes : Vector (BitVec 16) 32) {v : Fin 32} {c : Chan} (hc : c.val = v.val + 32 * p)
    (hlt : c.val < 96) (hmask : bit mask v.val = true) (hchan : s.on SN_CHCTL_EN c.val = true) (href : s.on SN_CTL_REFRDY = true)
    (hen : s.on SN_MMCTL_EN c.val = true) (hrst : 2 ≤ s.get SN_MMCTL_RST c.val) (hclosed : (s.trk c.val).closed = []) :
    ((s.stepResults mask p codes).trk c.val).cur = some (widen (sat24 (s.sarValue c.val codes[v])) (s.trk c.val).cur) := by
  obtain ⟨t, ht, heach⟩ := State.each_once (fun t : State => t.sampleView c.val) (x := v.val)
    (f := fun s v => if bit mask v && s.on SN_CHCTL_EN (v + 32 * p) then s.sarSample (v + 32 * p) (codes.toList.getD v 0) else s)
    (fun t y hy => by
      split
      · exact t.sarSample_view_ne hlt (by omega) _
      · rfl)
    (List.range 32) s List.nodup_range (List.mem_range.2 v.isLt)
  obtain ⟨htrk, hchctl, hmmctl, hctl⟩ : t.trk c.val = s.trk c.val ∧ t.rdw .SN_CHCTL c.val = s.rdw .SN_CHCTL c.val ∧
      t.rdw .SN_MMCTL c.val = s.rdw .SN_MMCTL c.val ∧ t.rdw .SN_CTL = s.rdw .SN_CTL := by
    simpa only [State.sampleView, Prod.mk.injEq] using ht
  have hon : t.on SN_CHCTL_EN c.val = true := (congrArg (fun w => SN_CHCTL_EN.of w != 0) hchctl).trans hchan
  have hcode : codes.toList.getD v.val 0 = codes[v] := by simp
  have hvalue : t.sarValue c.val codes[v] = s.sarValue c.val codes[v] :=
    congrArg (fun w => ((codes[v].toNat : Int) - 32768 - (BitVec.ofNat 16 (SN_CHCTL_OFFSET.of w)).toInt) * 256) hchctl
  have hcur := State.sarSample_widens (s := t) (c := c) ((congrArg (fun w => SN_CTL_REFRDY.of w != 0) hctl).trans href)
    ((congrArg (fun w => SN_MMCTL_EN.of w != 0) hmmctl).trans hen) (hrst.trans_eq (congrArg SN_MMCTL_RST.of hmmctl).symm)
    (htrk.symm ▸ hclosed) codes[v]
  have hstep : (s.stepResults mask p codes).trk c.val = (t.sarSample c.val codes[v]).trk c.val := by
    refine (congrArg Prod.fst heach).trans ?_
    rw [← hc, hmask, hon, if_pos (by decide), hcode]
    rfl
  rw [hstep, hcur, hvalue, htrk]

/-! ### The end of a conversion (R124, R129) -/

/-- The position of a run's conversion in progress. -/
def SeqU.position (u : SeqU) : Nat := if u.pos = 3 then u.made % 3 else u.pos

/-- A conversion of a sequence's run is made and counted. -/
def State.conversionMade (s : State) (q : Nat) (codes : Vector (BitVec 16) 32) : State :=
  (s.stepResults (s.seqU q).mask (s.seqU q).position codes).setSeq q { s.seqU q with made := (s.seqU q).made + 1 }

theorem State.conversionMade_changes (s : State) (q : Nat) (codes : Vector (BitVec 16) 32) :
    Evolves ([Part.sense, .reg .SN_CHSTAT, .reg .SN_SLGAP] ++ raiseParts) s (s.conversionMade q codes) :=
  State.setSeq_evolves (State.stepResults_evolves (.refl _ s) _ _ _ (covers_self _)) _ _ (by decide +kernel)

/-- It is counted. -/
theorem State.conversionMade_made (s : State) (q : Sequ) (codes : Vector (BitVec 16) 32) :
    ((s.conversionMade q.val codes).seqU q.val).made = (s.seqU q.val).made + 1 := congrArg SeqU.made (State.seqU_setSeq _ q _)

/-- A conversion ends at its time; the run goes on to the next or ends. -/
theorem exec_conversionEnd {s : State} {q : Sequ} (codes : Vector (BitVec 16) 32) {d : Nat} (hdue : s.deadline (.conv q.val) = some d) :
    ∃ p, Evolves onTimerParts s p ∧ p.now = max s.now d ∧ exec (.conversionEnd q codes) s = .next
      (if (s.seqU q.val).made + 1 = runLen (s.seqU q.val).pos (s.seqU q.val).burst then (p.conversionMade q.val codes).seqEnd q.val
        else (p.conversionMade q.val codes).armAt (.conv q.val) (convTick (s.seqU q.val).startAt ((s.seqU q.val).made + 1))) := by
  have hp : Evolves onTimerParts s ((s.advanceTo d).disarm (.conv q.val)) :=
    State.disarm_evolves (State.advanceTo_evolves (.refl _ s) d (by decide +kernel)) _ (by decide +kernel)
  refine ⟨_, hp, s.advanceTo_now d, ?_⟩
  show execConversionEnd q codes s = _
  unfold execConversionEnd State.onTimer
  rw [hdue, ← hp.seqU (by decide) q.val]
  rfl

/-- R129: a run that ends. -/
theorem State.seqEnd_ends (s : State) (q : Sequ) (hsrc : s.routed (256 + q.val) = true) :
    (s.seqEnd q.val).on SN_SEQSTAT_RUNNING q.val = false ∧ (s.seqEnd q.val).raised (256 + q.val) = true ∧
      (s.seqEnd q.val).seqU q.val = s.seqU q.val ∧ (s.seqEnd q.val).now = s.now := by
  have hput := State.put_evolves (.refl _ s) SN_SEQSTAT_RUNNING 0 q.val 0 (covers_self _)
  have hclose := State.closeBy_evolves (.refl _ (s.put SN_SEQSTAT_RUNNING 0 q.val)) 1 q.val (covers_self _)
  have hraise := State.raise_evolves (.refl _ ((s.put SN_SEQSTAT_RUNNING 0 q.val).closeBy 1 q.val)) (256 + q.val) (covers_self _)
  have hseqs := (s.put SN_SEQSTAT_RUNNING 0 q.val).closeBy_seqs 1 q.val
  unfold State.seqEnd
  refine ⟨?_, State.raise_raised _ (seqSource_lt q) ?_, ?_, ?_⟩
  · rw [hraise.on (f := SN_SEQSTAT_RUNNING) (seqstat_has q) (by decide), hclose.on (f := SN_SEQSTAT_RUNNING) (seqstat_has q) (by decide)]
    exact State.on_put s SN_SEQSTAT_RUNNING 0 q.val 0 (seqstat_has q) (by decide)
  · rw [hclose.routed (by decide) (seqSource_lt q), hput.routed (by decide) (seqSource_lt q)]
    exact hsrc
  · rw [hraise.seqU (by decide), State.seqU, hseqs]
    rfl
  · exact (hraise.kept .now (by decide)).trans (hclose.kept .now (by decide))

/-- R129: the last conversion ends RUNNING and raises the sequence's source. -/
theorem last_conversion_ends_run (s : State) (q : Sequ) (codes : Vector (BitVec 16) 32) (d : Nat) (hdue : s.deadline (.conv q.val) = some d)
    (hlast : (s.seqU q.val).made + 1 = runLen (s.seqU q.val).pos (s.seqU q.val).burst) (hsrc : s.routed (256 + q.val) = true) :
    ∃ t, exec (.conversionEnd q codes) s = .next t ∧
      t.on SN_SEQSTAT_RUNNING q.val = false ∧
      t.raised (256 + q.val) = true ∧
      (t.seqU q.val).made = (s.seqU q.val).made + 1 ∧
      t.now = max s.now d := by
  obtain ⟨p, hp, hnow, hexec⟩ := exec_conversionEnd codes hdue
  rw [if_pos hlast] at hexec
  have hmade := p.conversionMade_changes q.val codes
  have hrouted := (hmade.routed (by decide) (seqSource_lt q)).trans ((hp.routed (by decide) (seqSource_lt q)).trans hsrc)
  obtain ⟨hrunning, hraised, hunit, htime⟩ := State.seqEnd_ends (p.conversionMade q.val codes) q hrouted
  refine ⟨_, hexec, hrunning, hraised, ?_, htime.trans ((hmade.kept .now (by decide)).trans hnow)⟩
  rw [hunit, State.conversionMade_made, hp.seqU (by decide)]

/-- R125, R129: any other is followed by the next, and its channels have their samples. -/
theorem conversion_is_followed (s : State) (q : Sequ) (codes : Vector (BitVec 16) 32) (d : Nat) (v : Fin 32) (c : Chan) (n : Int)
    (hdue : s.deadline (.conv q.val) = some d) (hmore : (s.seqU q.val).made + 1 ≠ runLen (s.seqU q.val).pos (s.seqU q.val).burst)
    (hmask : bit (s.seqU q.val).mask v.val = true) (hc : c.val = v.val + 32 * (s.seqU q.val).position) (hn : n = sat24 (s.sarValue c.val codes[v])) :
    ∃ t, exec (.conversionEnd q codes) s = .next t ∧
      t.on SN_SEQSTAT_RUNNING q.val = s.on SN_SEQSTAT_RUNNING q.val ∧
      t.deadline (.conv q.val) = some (convTick (s.seqU q.val).startAt ((s.seqU q.val).made + 1)) ∧
      (t.seqU q.val).made = (s.seqU q.val).made + 1 ∧
      t.now = max s.now d ∧
      (s.on SN_CHCTL_EN c.val = true ∧ s.on SN_CTL_REFRDY = true ∧ s.on SN_MMCTL_EN c.val = true ∧ 2 ≤ s.get SN_MMCTL_RST c.val ∧
        (s.trk c.val).closed = [] → (t.trk c.val).cur = some (widen n (s.trk c.val).cur)) := by
  obtain ⟨p, hp, hnow, hexec⟩ := exec_conversionEnd codes hdue
  rw [if_neg hmore] at hexec
  have hmade := p.conversionMade_changes q.val codes
  have hunit := hp.seqU (by decide) q.val
  refine ⟨_, hexec, ?_, State.deadline_armAt _ _ _, ?_, (hmade.kept .now (by decide)).trans hnow, fun ⟨hchan, href, hen, hrst, hclosed⟩ => ?_⟩
  · exact (hmade.on (f := SN_SEQSTAT_RUNNING) (seqstat_has q) (by decide)).trans (hp.on (f := SN_SEQSTAT_RUNNING) (seqstat_has q) (by decide))
  · exact (p.conversionMade_made q codes).trans (by rw [hunit])
  · have hlt : c.val < 96 := by
      have hchans := c.isLt
      have hpos : (s.seqU q.val).position ≤ 2 ∨ 4 ≤ (s.seqU q.val).position := by
        unfold SeqU.position
        split <;> omega
      omega
    have hsense : p.sense = s.sense := hp.kept .sense (by decide)
    have htrk : p.trk c.val = s.trk c.val := by rw [State.trk, hsense]; rfl
    have hvalue : p.sarValue c.val codes[v] = s.sarValue c.val codes[v] := by
      unfold State.sarValue
      rw [hp.get (f := SN_CHCTL_OFFSET) (chctl_has hlt) (by decide)]
    have hcur := State.stepResults_widens (s := p) codes (hunit.symm ▸ hc) hlt (hunit.symm ▸ hmask)
      ((hp.on (f := SN_CHCTL_EN) (chctl_has hlt) (by decide)).trans hchan) ((hp.on (f := SN_CTL_REFRDY) senseCtl_has (by decide)).trans href)
      ((hp.on (f := SN_MMCTL_EN) (mmctl_has c) (by decide)).trans hen)
      (hrst.trans_eq (hp.get (f := SN_MMCTL_RST) (mmctl_has c) (by decide)).symm) (htrk.symm ▸ hclosed)
    rw [hvalue, htrk, ← hn] at hcur
    refine Eq.trans ?_ hcur
    unfold State.conversionMade
    rw [State.setSeq_eq]
    rfl

/-- Settles O29, clause by clause. -/
theorem sequencesAndReferenceRun : Obligations.SequencesAndReferenceRun :=
  ⟨seqgo_makes_pending, seqgo_counts_overlap, seqgo_without_effect, seqgo_of_others_is_denied, fun _ _ _ _ => sequence_starts,
    fun _ _ _ _ => sequence_waits, fun _ _ _ _ => sequence_is_dropped_at_once, waiting_sequence_starts, deferred_sequence_is_dropped,
    deferred_sequence_starts, last_conversion_ends_run, conversion_is_followed, disabled_seqctl_is_stored, enabled_seqctl_takes_en,
    seqctl_of_no_trigger_is_denied, seqctl_of_others_is_denied, refen_starts_wait, refen_starts_no_second_wait, refen_off_loses_buffer,
    refen_off_ends_wait, refen_of_others_is_denied, reference_comes_up, reference_fault_loses_buffer, reference_fault_without_effect⟩

end Sys2Proof.Machine
end
section
/-! SUPPORT. The two outputs of a channel (R159, R172, R173): what the gate and the interlock do to each, and what a trip leaves of the commands. -/

namespace Sys2Proof.Machine

/-! ### A change of one output -/

/-- An output after a change of one. -/
theorem State.outU_updOut (s : State) (c k : Nat) (hi x : Bool) (f : OutU → OutU) :
    (s.updOut c hi f).outU k x = if k = c ∧ x = hi ∧ c < 48 then f (s.outU k x) else s.outU k x := by
  unfold State.updOut State.outU
  rw [State.chan_updChan]
  by_cases hk : k = c ∧ c < 48
  · cases hi <;> cases x <;> simp [hk, ChanU.side]
  · have hout : ¬ (k = c ∧ x = hi ∧ c < 48) := fun h => hk ⟨h.1, h.2.2⟩
    rw [if_neg hk, if_neg hout]

/-- The output that is changed. -/
theorem State.outU_updOut_self (s : State) (c : Cell) (hi : Bool) (f : OutU → OutU) : (s.updOut c.val hi f).outU c.val hi = f (s.outU c.val hi) := by
  rw [State.outU_updOut, if_pos ⟨rfl, rfl, c.isLt⟩]

/-- Any other. -/
theorem State.outU_updOut_ne (s : State) {c k : Nat} {hi x : Bool} (h : k ≠ c ∨ x ≠ hi) (f : OutU → OutU) :
    (s.updOut c hi f).outU k x = s.outU k x := by
  rw [State.outU_updOut, if_neg (by tauto)]

/-- An output is its channel's. -/
theorem State.outU_congr {s t : State} {c : Nat} (h : t.chan c = s.chan c) (x : Bool) : t.outU c x = s.outU c x := congrArg (fun u => u.side x) h

@[simp] theorem State.put_chan (s : State) (f : Fld) (v i j c : Nat) : (s.put f v i j).chan c = s.chan c := rfl

@[simp] theorem State.put_outU (s : State) (f : Fld) (v i j c : Nat) (x : Bool) : (s.put f v i j).outU c x = s.outU c x := rfl

@[simp] theorem State.arm_outU (s : State) (t : Timer) (d c : Nat) (x : Bool) : (s.arm t d).outU c x = s.outU c x := rfl

@[simp] theorem State.disarm_outU (s : State) (t : Timer) (c : Nat) (x : Bool) : (s.disarm t).outU c x = s.outU c x := rfl

/-- A turn-on that is not issued is an output's. -/
theorem State.unwait_outU_self (s : State) (c : Cell) (hi : Bool) : (s.unwait c.val hi).outU c.val hi = { s.outU c.val hi with waiting := false } :=
  s.outU_updOut_self c hi _

theorem State.unwait_outU_ne (s : State) {c k : Nat} {hi x : Bool} (h : k ≠ c ∨ x ≠ hi) : (s.unwait c hi).outU k x = s.outU k x :=
  s.outU_updOut_ne h _

/-- It leaves every command. -/
@[simp] theorem State.unwait_cmd (s : State) (c k : Nat) (hi x : Bool) : ((s.unwait c hi).outU k x).cmd = (s.outU k x).cmd := by
  have hout : (s.unwait c hi).outU k x = _ := s.outU_updOut c k hi x (fun o => { o with waiting := false })
  rw [hout]
  split <;> rfl

/-! ### The output gate (R172, R173, R179) -/

/-- A pin that is driven: at an edge the output has the pin's level and its strengths, the check window and the blanking aside. -/
theorem State.setPin_outU (s : State) (c : Nat) (hi v : Bool) (k : Nat) (x : Bool) :
    (s.setPin c hi v).outU k x = (if (s.outU c hi).pin = v then s else s.pinEdge c hi v).outU k x := by
  unfold State.setPin
  dsimp only
  repeat' split
  all_goals rfl

/-- The pin has the level that it is driven to. -/
theorem State.setPin_pin (s : State) (c : Cell) (hi v : Bool) : ((s.setPin c.val hi v).outU c.val hi).pin = v := by
  rw [State.setPin_outU]
  split
  · next h => exact h
  · unfold State.pinEdge
    rw [State.outU_updOut_self]

/-- Every other output is as it was. -/
theorem State.setPin_outU_ne (s : State) {c k : Nat} {hi x : Bool} (v : Bool) (h : k ≠ c ∨ x ≠ hi) : (s.setPin c hi v).outU k x = s.outU k x := by
  rw [State.setPin_outU]
  split
  · rfl
  · exact s.outU_updOut_ne h _

/-- An output as the interlock knows it: what the gate makes of it left aside. -/
def OutU.told (o : OutU) : OutU := { o with pin := false, reached := true, src := 4, snk := 4 }

/-- The gate's pin is no matter of the interlock. -/
@[simp] theorem State.setPin_told (s : State) (c k : Nat) (hi x v : Bool) : ((s.setPin c hi v).outU k x).told = (s.outU k x).told := by
  rw [State.setPin_outU]
  split
  · rfl
  · unfold State.pinEdge
    rw [State.outU_updOut]
    split <;> rfl

/-- Nor of the command. -/
@[simp] theorem State.setPin_cmd (s : State) (c k : Nat) (hi x v : Bool) : ((s.setPin c hi v).outU k x).cmd = (s.outU k x).cmd :=
  (congrArg OutU.cmd (s.setPin_told c k hi x v) :)

/-- The gate leaves every command. -/
@[simp] theorem State.regate_cmd (s : State) (c k : Nat) (x : Bool) : ((s.regate c).outU k x).cmd = (s.outU k x).cmd := by
  unfold State.regate
  repeat' split
  all_goals simp

/-- The gate of a cell moves its outputs alone. -/
theorem State.regate_outU_ne (s : State) {c k : Nat} (h : k ≠ c) (x : Bool) : (s.regate c).outU k x = s.outU k x := by
  unfold State.regate
  repeat' split
  · simp [State.setPin_outU_ne _ _ (.inl h), State.unwait_outU_ne _ (.inl h)]
  · simp [State.setPin_outU_ne _ _ (.inl h)]
  · rfl

/-- A cell that is held has both outputs off, or with a low-side SAFE state the lower one on (R172). -/
theorem State.regate_held {s : State} {c : Cell} {low : Bool} (h : s.gateHold c.val = some low) :
    ((s.regate c.val).outU c.val true).pin = false ∧ ((s.regate c.val).outU c.val false).pin = low := by
  unfold State.regate
  rw [h]
  dsimp only
  refine ⟨?_, State.setPin_pin _ c false low⟩
  rw [State.setPin_outU_ne _ _ (.inr (by decide)), State.setPin_pin]

/-! ### The interlock (R159) -/

/-- An output that takes a turn-off command at instant `t`. -/
def OutU.offed (o : OutU) (t : Nat) : OutU := if o.cmd then { o with cmd := false, out := false, offAt := some t, waiting := false } else o

theorem State.cmdOff_outU_ne (s : State) {c k : Nat} {hi x : Bool} (t : Nat) (h : k ≠ c ∨ x ≠ hi) : (s.cmdOff c hi t).outU k x = s.outU k x := by
  unfold State.cmdOff
  dsimp only
  repeat' split
  all_goals simp [State.setPin_outU_ne _ _ h, State.outU_updOut_ne _ h, State.unwait_outU_ne _ h]

/-- A turn-on that still waits is a dropped pulse. -/
def State.dropPulse (s : State) (c : Nat) (hi : Bool) : State :=
  if (s.outU c hi).waiting then (s.unwait c hi).put PW_CHSTAT_DROPPED_PULSE 1 c else s

/-- None waits then. -/
theorem State.dropPulse_outU (s : State) (c : Cell) (hi : Bool) : (s.dropPulse c.val hi).outU c.val hi = { s.outU c.val hi with waiting := false } := by
  unfold State.dropPulse
  split
  · exact s.unwait_outU_self c hi
  · next h => rw [← Bool.eq_false_iff.2 h]

/-- The output after a turn-off command, before its pin follows. -/
def State.offTold (s : State) (c : Nat) (hi : Bool) (t : Nat) : State :=
  (s.dropPulse c hi).updOut c hi (fun o => { o with cmd := false, out := false, offAt := some t })

/-- A turn-off command, step by step. -/
theorem State.cmdOff_eq (s : State) (c : Nat) (hi : Bool) (t : Nat) : s.cmdOff c hi t =
    if !(s.outU c hi).cmd then s
    else if (s.offTold c hi t).on PW_CHSTAT_SAFE_ACTIVE c then s.offTold c hi t else (s.offTold c hi t).setPin c hi false := rfl

/-- A turn-off command, the pin aside. -/
theorem State.cmdOff_told (s : State) (c : Cell) (hi : Bool) (t : Nat) :
    ((s.cmdOff c.val hi t).outU c.val hi).told = ((s.outU c.val hi).offed t).told := by
  have htold : (s.offTold c.val hi t).outU c.val hi = { s.outU c.val hi with cmd := false, out := false, offAt := some t, waiting := false } := by
    unfold State.offTold
    rw [State.outU_updOut_self, State.dropPulse_outU]
  rw [State.cmdOff_eq, OutU.offed]
  cases hcmd : (s.outU c.val hi).cmd with
  | false => rfl
  | true =>
    rw [if_neg (by decide), if_pos rfl]
    split
    · rw [htold]
    · rw [State.setPin_told, htold]

theorem State.tryOn_outU_ne (s : State) {c k : Nat} {hi x : Bool} (t : Nat) (h : k ≠ c ∨ x ≠ hi) : (s.tryOn c hi t).outU k x = s.outU k x := by
  unfold State.tryOn
  dsimp only
  repeat' split
  · rfl
  · rfl
  · simp [State.setPin_outU_ne _ _ h, State.outU_updOut_ne _ h, State.unwait_outU_ne _ h]
  · rfl

theorem State.cmdOn_outU_ne (s : State) {c k : Nat} {hi x : Bool} (t : Nat) (h : k ≠ c ∨ x ≠ hi) : (s.cmdOn c hi t).outU k x = s.outU k x := by
  unfold State.cmdOn
  dsimp only
  repeat' split
  all_goals simp [State.tryOn_outU_ne _ _ h, State.outU_updOut_ne _ h]

/-- A turn-on that is tried leaves the command. -/
theorem State.tryOn_cmd (s : State) (c k : Nat) (hi x : Bool) (t : Nat) : ((s.tryOn c hi t).outU k x).cmd = (s.outU k x).cmd := by
  have hissued : ∀ u : State, ((u.updOut c hi (fun o => { o with out := true })).outU k x).cmd = (u.outU k x).cmd := fun u => by
    rw [State.outU_updOut]
    split <;> rfl
  unfold State.tryOn
  dsimp only
  repeat' split
  · rfl
  · rfl
  · simp [hissued]
  · rfl

/-- A turn-on command is given. -/
theorem State.cmdOn_cmd (s : State) (c : Cell) (hi : Bool) (t : Nat) : ((s.cmdOn c.val hi t).outU c.val hi).cmd = true := by
  unfold State.cmdOn
  dsimp only
  repeat' split
  · assumption
  · rw [State.outU_updOut_self]
  · rw [State.tryOn_cmd, State.outU_updOut_self, State.outU_updOut_self]

/-! ### The commands of a channel (R166, R170) -/

/-- What the commands of a channel are to be: those of m and the override; off without a block. -/
def State.commanded (s : State) (c : Nat) : Bool × Bool :=
  match s.groupOf c with
  | none => (false, false)
  | some _ => ovrCommands (s.chan c).ovr (s.chan c).m

/-- One of the two. -/
def sideOf (p : Bool × Bool) (hi : Bool) : Bool := if hi then p.1 else p.2

/-- The turn-offs of an emission. -/
def State.emitOff (s : State) (c t : Nat) (p : Bool × Bool) : State :=
  let s1 := if p.1 then s else s.cmdOff c true t
  if p.2 then s1 else s1.cmdOff c false t

/-- Its turn-ons. -/
def State.emitOn (s : State) (c t : Nat) (p : Bool × Bool) : State :=
  let s1 := if p.1 then s.cmdOn c true t else s
  if p.2 then s1.cmdOn c false t else s1

/-- An emission is its turn-offs, then its turn-ons. -/
theorem State.emit_eq (s : State) (c t : Nat) :
    s.emit c t = (s.emitOff c (s.edgePlace t) (s.commanded c)).emitOn c (s.edgePlace t) (s.commanded c) := rfl

section Emission
variable (s : State) (c : Cell) (t : Nat) {p : Bool × Bool} {hi : Bool}

/-- An output that is commanded off takes a turn-off command. -/
theorem State.emitOff_told (h : sideOf p hi = false) : ((s.emitOff c.val t p).outU c.val hi).told = ((s.outU c.val hi).offed t).told := by
  obtain ⟨a, b⟩ := p
  unfold State.emitOff
  dsimp only
  cases hi with
  | true =>
    obtain rfl : a = false := h
    rw [if_neg Bool.false_ne_true]
    split
    · exact s.cmdOff_told c true t
    · rw [State.cmdOff_outU_ne _ _ (.inr (by decide))]
      exact s.cmdOff_told c true t
  | false =>
    obtain rfl : b = false := h
    rw [if_neg Bool.false_ne_true, State.cmdOff_told]
    split
    · rfl
    · rw [State.cmdOff_outU_ne _ _ (.inr (by decide))]

/-- And no turn-on. -/
theorem State.emitOn_outU (h : sideOf p hi = false) : (s.emitOn c.val t p).outU c.val hi = s.outU c.val hi := by
  obtain ⟨a, b⟩ := p
  unfold State.emitOn
  dsimp only
  cases hi with
  | true =>
    obtain rfl : a = false := h
    rw [if_neg Bool.false_ne_true]
    split
    · exact State.cmdOn_outU_ne _ _ (.inr (by decide))
    · rfl
  | false =>
    obtain rfl : b = false := h
    rw [if_neg Bool.false_ne_true]
    split
    · exact State.cmdOn_outU_ne _ _ (.inr (by decide))
    · rfl

/-- An output that is commanded on has its command. -/
theorem State.emitOn_cmd (h : sideOf p hi = true) : ((s.emitOn c.val t p).outU c.val hi).cmd = true := by
  obtain ⟨a, b⟩ := p
  unfold State.emitOn
  dsimp only
  cases hi with
  | true =>
    obtain rfl : a = true := h
    rw [if_pos rfl]
    split
    · rw [State.cmdOn_outU_ne _ _ (.inr (by decide)), State.cmdOn_cmd]
    · exact s.cmdOn_cmd c true t
  | false =>
    obtain rfl : b = true := h
    rw [if_pos rfl, State.cmdOn_cmd]

variable (hi) in
/-- R170: after an emission each command is that of m and the override. -/
theorem State.emit_cmd : ((s.emit c.val t).outU c.val hi).cmd = sideOf (s.commanded c.val) hi := by
  rw [State.emit_eq]
  cases h : sideOf (s.commanded c.val) hi with
  | true => exact State.emitOn_cmd _ c _ h
  | false =>
    have htold := congrArg OutU.cmd (State.emitOff_told s c (s.edgePlace t) h)
    rw [State.emitOn_outU _ c _ h]
    refine Eq.trans (b := ((s.outU c.val hi).offed (s.edgePlace t)).cmd) htold ?_
    unfold OutU.offed
    split
    · rfl
    · next hcmd => simpa using hcmd

/-- R159: an output whose command ends turns off at that instant, and no turn-on of it waits. -/
theorem State.emit_ends (hon : (s.outU c.val hi).cmd = true) (hoff : ((s.emit c.val t).outU c.val hi).cmd = false) :
    ((s.emit c.val t).outU c.val hi).out = false ∧ ((s.emit c.val t).outU c.val hi).waiting = false ∧
      ((s.emit c.val t).outU c.val hi).offAt = some (s.edgePlace t) := by
  have h : sideOf (s.commanded c.val) hi = false := (s.emit_cmd c t hi).symm.trans hoff
  have htold : ((s.emit c.val t).outU c.val hi).told = ((s.outU c.val hi).offed (s.edgePlace t)).told := by
    rw [State.emit_eq, State.emitOn_outU _ c _ h]
    exact State.emitOff_told s c _ h
  rw [OutU.offed, if_pos hon] at htold
  exact ⟨congrArg OutU.out htold, congrArg OutU.waiting htold, congrArg OutU.offAt htold⟩

end Emission

/-! ### What a trip leaves (R21, R182, R187) -/

/-- A channel's modulation, its override in force and its commands. -/
def State.drives (s : State) (c : Nat) : Bool × Word × Bool × Bool := ((s.chan c).m, (s.chan c).ovr, (s.outU c true).cmd, (s.outU c false).cmd)

/-- A change that does not name the power stage leaves them. -/
theorem Evolves.drives {A : List Part} {s t : State} (h : Evolves A s t) (hp : Part.power ∉ A) : t.drives = s.drives := by
  have hpower : t.power = s.power := h.kept .power hp
  unfold State.drives State.outU State.chan
  rw [hpower]

/-- They rest on the core and the commands. -/
theorem State.drives_congr {s t : State} (hcore : ∀ c, (t.chan c).core = (s.chan c).core) (hcmd : ∀ c x, (t.outU c x).cmd = (s.outU c x).cmd) :
    t.drives = s.drives := by
  funext c
  have hm : (t.chan c).m = (s.chan c).m := (congrArg ChanU.m (hcore c) :)
  have hovr : (t.chan c).ovr = (s.chan c).ovr := (congrArg ChanU.ovr (hcore c) :)
  unfold State.drives
  rw [hm, hovr, hcmd, hcmd]

@[simp] theorem State.put_drives (s : State) (f : Fld) (v i j : Nat) : (s.put f v i j).drives = s.drives := rfl

@[simp] theorem State.arm_drives (s : State) (t : Timer) (d : Nat) : (s.arm t d).drives = s.drives := rfl

@[simp] theorem State.updBlk_drives (s : State) (b : Nat) (f : BlockU → BlockU) : (s.updBlk b f).drives = s.drives := by
  funext c
  simp [State.drives, State.outU]

@[simp] theorem State.regate_drives (s : State) (c : Nat) : (s.regate c).drives = s.drives :=
  State.drives_congr (State.core_of_stage (s.regate_stage c)) (s.regate_cmd c)

@[simp] theorem State.regateBlock_drives (s : State) (b : Nat) : (s.regateBlock b).drives = s.drives :=
  State.each_keeps State.drives _ _ State.regate_drives s

/-- The note of the output that the block's network turns off is none of them. -/
theorem State.updChan_netOff_drives (s : State) (c : Nat) (n : Option (Bool × Nat)) :
    (s.updChan c (fun u => { u with netOff := n })).drives = s.drives := by
  funext k
  unfold State.drives State.outU
  rw [State.chan_updChan]
  split <;> rfl

@[simp] theorem State.noteOn_drives (s : State) (b : Nat) : (s.noteOn b).drives = s.drives := by
  refine State.each_keeps State.drives _ _ (fun t c => ?_) s
  dsimp only
  repeat' split
  · rfl
  · exact t.updChan_netOff_drives c _
  · exact t.updChan_netOff_drives c _
  · rfl

@[simp] theorem State.softStart_drives (s : State) (b : Nat) : (s.softStart b).drives = s.drives := by
  unfold State.softStart State.driveSoft State.bumpSat
  split <;> simp

@[simp] theorem State.raise_drives (s : State) (src : Nat) : (s.raise src).drives = s.drives :=
  (State.raise_evolves (.refl _ s) src (covers_self _)).drives (by decide)

@[simp] theorem State.tripSend_drives (s : State) (k mask : Nat) : (s.tripSend k mask).drives = s.drives :=
  (State.tripSend_evolves (.refl _ s) k mask (covers_self _)).drives (by decide)

@[simp] theorem State.tripBlock_drives (s : State) (b : Nat) : (s.tripBlock b).drives = s.drives := by
  have hramps : ∀ t : State, (t.abortRamps b).drives = t.drives := fun t =>
    (State.abortRamps_evolves (.refl _ t) b (covers_self _)).drives (by decide)
  have hcoast : ∀ t : State, t.coastPick.drives = t.drives := fun t => (State.coastPick_evolves (.refl _ t) (covers_self _)).drives (by decide)
  unfold State.tripBlock
  dsimp only
  repeat' split
  all_goals simp [hramps, hcoast]

@[simp] theorem State.sf2Latch_drives (s : State) (g : Nat) : (s.sf2Latch g).drives = s.drives := by
  have hdemand : (s.demand (1 + g)).drives = s.drives := rfl
  have hstamp : ∀ t : State, t.fmStamp.drives = t.drives := fun t => (State.fmStamp_evolves (.refl _ t) (covers_self _)).drives (by decide)
  have hor : ∀ (t : State) v, (t.orPut FM_FSTAT_SF2INH v).drives = t.drives := fun _ _ => rfl
  unfold State.sf2Latch State.pulseInhibit State.inhibitMore
  dsimp only
  repeat' split
  all_goals simp [hdemand, hstamp, hor]

@[simp] theorem State.turnoffStart_drives (s : State) (b c : Nat) : (s.turnoffStart b c).drives = s.drives := by
  have hrecord : ∀ (t : State) k x, (t.cageRecord c k x).drives = t.drives := fun t k x =>
    (State.cageRecord_evolves (.refl _ t) c k x (covers_self _)).drives (by decide)
  have hmask : ∀ (t : State) k, (t.sf2LatchMask k).drives = t.drives := fun t k => State.each_keeps State.drives _ _ State.sf2Latch_drives t
  unfold State.turnoffStart
  dsimp only
  repeat' split
  all_goals simp [hrecord, hmask]

@[simp] theorem State.followTurnoff_drives (s : State) (b : Nat) : (s.followTurnoff b).drives = s.drives := by
  unfold State.followTurnoff
  repeat' split
  all_goals simp

/-- A clear attempt (R187), and the turn-off that follows it, are no matter of the carrier or of the commands. -/
@[simp] theorem State.clearAttempt_drives (s : State) (c : Nat) (edge : Bool) : (s.clearAttempt c edge).drives = s.drives := by
  have hlatches : ∀ l : List Nat, (s.each l (fun s k => if s.latchSource c k then s.put CG_PSTAT_CLEAR_DENIED 1 c
      else s.put (portLatches.getD k CG_PSTAT_DS_LATCH) 0 c)).drives = s.drives := fun l =>
    State.each_keeps State.drives l _ (fun t k => by split <;> rfl) s
  unfold State.clearAttempt
  dsimp only
  split
  · rfl
  · split
    · rw [State.regateBlock_drives, State.followTurnoff_drives, hlatches]
    · rw [State.regate_drives, hlatches]

end Sys2Proof.Machine
end

section
/-! SUPPORT. Edges of m and the ends of turn-on delays (R155, R157 to R159). -/

namespace Sys2Proof.Machine

/-! ### Instants (R155) -/

/-- FINE rests on the PWM synthesizer's lock, ramp and spread. -/
theorem Evolves.fine {A : List Part} {s t : State} (h : Evolves A s t) (hlock : Part.reg .WI_SSTAT ∉ A) (hramp : Part.reg .WI_RSTAT ∉ A)
    (hspread : Part.reg .WI_SSCFG ∉ A) : t.fine = s.fine := by
  unfold State.fine State.pwmClock
  rw [h.on (f := WI_SSTAT_LOCKED) (by decide) hlock, h.get (f := WI_RSTAT_STATE) (by decide) hramp, h.get (f := WI_SSCFG_MODE) (by decide) hspread]

/-- An instant that is placed is in its place. -/
theorem State.edgePlace_edgePlace (s : State) (t : Nat) : s.edgePlace (s.edgePlace t) = s.edgePlace t := by
  unfold State.edgePlace
  split <;> omega

/-- So is an edge of m under a compare. -/
theorem State.edgeUnder_placed {s : State} {c g cmp i e : Nat} (h : s.edgeUnder c g cmp i = some e) : s.edgePlace e = e := by
  have hplaced : ∀ t, some (s.edgePlace t) = some e → s.edgePlace e = e := fun t ht => by rw [← Option.some.inj ht, State.edgePlace_edgePlace]
  unfold State.edgeUnder at h
  dsimp only at h
  repeat' split at h
  · cases h
  · exact hplaced _ h
  · cases h
  · exact hplaced _ h
  · cases h
  · exact hplaced _ h

/-- So is the next edge of m. -/
theorem State.nextEdge_placed {s : State} {c e : Nat} (h : s.nextEdge c = some e) : s.edgePlace e = e := by
  unfold State.nextEdge at h
  dsimp only at h
  repeat' split at h
  · cases h
  · cases h
  · next hbefore =>
    obtain rfl := Option.some.inj h
    exact State.edgeUnder_placed (Option.filter_eq_some_iff.1 hbefore).1
  · exact State.edgeUnder_placed h
  · exact State.edgeUnder_placed h

/-! ### An edge of m (R158) -/

/-- m turns to `v`; a fall in a rising half is noted. -/
def State.mTurn (s : State) (c : Nat) (v rising : Bool) : State := s.updChan c (fun u => { u with m := v, done := u.done || (rising && !v) })

/-- Whether the carrier of a channel rises. -/
def State.risingOf (s : State) (c : Nat) : Bool :=
  match s.groupOf c with
  | some g => !(s.grp g).falling
  | none => false

/-- An edge, step by step. -/
theorem State.mEdge_eq (s : State) (c t : Nat) (v : Bool) :
    s.mEdge c t v = ((s.mTurn c v (s.risingOf c)).clearAttempt c true).emit c t := rfl

/-- What a turn of m changes of its channel. -/
theorem State.mTurn_drives (s : State) (c : Cell) (v rising : Bool) :
    (s.mTurn c.val v rising).drives c.val = (v, (s.chan c.val).ovr, (s.outU c.val true).cmd, (s.outU c.val false).cmd) := by
  unfold State.drives State.outU State.mTurn
  rw [State.chan_updChan, if_pos ⟨rfl, c.isLt⟩]
  rfl

section Edge
variable (s : State) (c : Cell) (v : Bool)

/-- The state in which an edge gives its commands: m turned, the clear attempt made. -/
def State.mTurned (s : State) (c : Nat) (v : Bool) : State := (s.mTurn c v (s.risingOf c)).clearAttempt c true

/-- The edge and its clear attempt take no time and leave the PWM clock and the bindings. -/
theorem State.mTurned_changes : Evolves ([Part.reg .CG_CGSTAT, .reg .FM_FCAUSE] ++ sf2Parts ++ seamParts) s (s.mTurned c.val v) :=
  State.clearAttempt_evolves (State.updChan_evolves (.refl _ s) _ _ (by decide +kernel)) _ _ (covers_self _)

/-- m, the override and the commands then. -/
theorem State.mTurned_drives : ((s.mTurned c.val v).chan c.val).m = v ∧ ((s.mTurned c.val v).chan c.val).ovr = (s.chan c.val).ovr ∧
    ∀ hi, ((s.mTurned c.val v).outU c.val hi).cmd = (s.outU c.val hi).cmd := by
  have h : (s.mTurned c.val v).drives c.val = _ :=
    (congrFun (State.clearAttempt_drives _ _ _) c.val).trans (s.mTurn_drives c v (s.risingOf c.val))
  simp only [State.drives, Prod.mk.injEq] at h
  obtain ⟨hm, hovr, hhi, hlo⟩ := h
  exact ⟨hm, hovr, fun hi => by cases hi <;> assumption⟩

/-- The commands that an edge gives a channel of a block. -/
theorem State.mTurned_commanded (h : (s.blockOf c.val).isSome = true) :
    (s.mTurned c.val v).commanded c.val = ovrCommands (s.chan c.val).ovr v := by
  have hblock : (s.mTurned c.val v).groupOf c.val = s.blockOf c.val := (s.mTurned_changes c v).blockOf (by decide) (by decide) c.val
  obtain ⟨g, hg⟩ := Option.isSome_iff_exists.1 h
  obtain ⟨hm, hovr, -⟩ := s.mTurned_drives c v
  unfold State.commanded
  rw [hblock, hg, hm, hovr]

/-- An edge at a placed instant: m, the commands, and the outputs whose commands end. -/
theorem State.mEdge_shows {t : Nat} (h : (s.blockOf c.val).isSome = true) (ht : s.edgePlace t = t) :
    ((s.mEdge c.val t v).chan c.val).m = v ∧
      (∀ hi, ((s.mEdge c.val t v).outU c.val hi).cmd = sideOf (ovrCommands (s.chan c.val).ovr v) hi) ∧
      (s.mEdge c.val t v).now = s.now ∧
      ∀ hi, (s.outU c.val hi).cmd = true → ((s.mEdge c.val t v).outU c.val hi).cmd = false →
        ((s.mEdge c.val t v).outU c.val hi).out = false ∧ ((s.mEdge c.val t v).outU c.val hi).waiting = false ∧
          ((s.mEdge c.val t v).outU c.val hi).offAt = some t := by
  obtain ⟨hm, -, hcmd⟩ := s.mTurned_drives c v
  have hplace : (s.mTurned c.val v).edgePlace t = t := by
    have hfine := (s.mTurned_changes c v).fine (by decide) (by decide) (by decide)
    rw [State.edgePlace, hfine]
    exact ht
  have hemit : s.mEdge c.val t v = (s.mTurned c.val v).emit c.val t := rfl
  rw [hemit]
  refine ⟨?_, fun hi => ?_, ?_, fun hi hon hoff => ?_⟩
  · exact (congrArg ChanU.m (State.core_of_stage (State.emit_stage _ c.val t) c.val) :).trans hm
  · rw [State.emit_cmd, State.mTurned_commanded s c v h]
  · exact ((State.emit_evolves (.refl _ _) _ _ (covers_self _)).kept .now (by decide)).trans ((s.mTurned_changes c v).kept .now (by decide))
  · have hends := State.emit_ends (s.mTurned c.val v) c t ((hcmd hi).trans hon) hoff
    rwa [hplace] at hends

end Edge

/-- The next edge of m comes at its instant. -/
theorem exec_modulationEdge {s : State} {c : Cell} {e : Nat} (h : s.nextEdge c.val = some e) :
    exec (.modulationEdge c) s = .next ((s.advanceToInstant e).mEdge c.val e (!(s.chan c.val).m)) := by
  show execModulationEdge c s = _
  unfold execModulationEdge
  rw [h]

/-- Time leaves every channel. -/
theorem State.advanceToInstant_chan (s : State) (t c : Nat) : (s.advanceToInstant t).chan c = s.chan c := by
  have hpower : (s.advanceToInstant t).power = s.power := (s.advanceToInstant_changes t).kept .power (by decide)
  unfold State.chan
  rw [hpower]

/-- R158, R170, R159: m toggles, the commands follow it, an output whose command ends turns off. -/
theorem edge_toggles (s : State) (c : Cell) (e : Nat) (h : s.nextEdge c.val = some e) (hblock : (s.blockOf c.val).isSome = true) :
    ∃ t, exec (.modulationEdge c) s = .next t ∧
      (t.chan c.val).m = !(s.chan c.val).m ∧
      (t.chan c.val).hi.cmd = (ovrCommands (s.chan c.val).ovr (!(s.chan c.val).m)).1 ∧
      (t.chan c.val).lo.cmd = (ovrCommands (s.chan c.val).ovr (!(s.chan c.val).m)).2 ∧
      t.now = max s.now (s.tickOf e) ∧
      (∀ hi : Bool, (s.outU c.val hi).cmd = true → (t.outU c.val hi).cmd = false →
        (t.outU c.val hi).out = false ∧ (t.outU c.val hi).waiting = false ∧ (t.outU c.val hi).offAt = some e) := by
  have hchan := s.advanceToInstant_chan e c.val
  have hplace : (s.advanceToInstant e).edgePlace e = e := by
    rw [State.edgePlace, (s.advanceToInstant_changes e).fine (by decide) (by decide) (by decide)]
    exact State.nextEdge_placed h
  have hblock' : ((s.advanceToInstant e).blockOf c.val).isSome = true := by
    rw [(s.advanceToInstant_changes e).blockOf (by decide) (by decide)]
    exact hblock
  obtain ⟨hm, hcmd, hnow, hends⟩ := State.mEdge_shows _ c (!(s.chan c.val).m) hblock' hplace
  rw [hchan] at hcmd
  refine ⟨_, exec_modulationEdge h, hm, hcmd true, hcmd false, ?_, fun hi hon => hends hi ?_⟩
  · rw [hnow, State.advanceToInstant_now]
  · rw [State.outU_congr hchan]
    exact hon

/-- Where FINE is 1 instants are as they are. -/
theorem State.edgePlace_of_fine {s : State} (h : s.fine = true) (t : Nat) : s.edgePlace t = t := if_pos h

/-- The PWM clock runs where FINE is 1. -/
theorem State.pwmClock_of_fine {s : State} (h : s.fine = true) : s.pwmClock = true := by
  unfold State.fine at h
  simp only [Bool.and_eq_true] at h
  exact h.1.1

/-- An instant that has passed comes with the present tick. -/
theorem State.tickOf_passed {s : State} {t : Nat} (h : t ≤ s.instant) : s.tickOf t = s.now := by
  have htarget : t * 250000 ≤ s.pwmPhase := (Nat.mul_le_mul_right _ h).trans (Nat.div_mul_le_self _ _)
  unfold State.tickOf
  dsimp only
  rw [decide_eq_true htarget, Bool.or_true, if_pos rfl]

/-- R157, R158: with a compare inside the period m turns on where a falling carrier falls below it, and off where a rising one reaches it. -/
theorem compare_is_crossed (s : State) (c : Cell) (g : Block) (up : Bool) (e : Nat) (hblock : s.blockOf c.val = some g.val)
    (hrun : s.on PW_GRPSTAT_RUN g.val = true) (hdwell : s.on PW_GRPSTAT_DWELL g.val = false) (hfine : s.fine = true)
    (hwas : (s.chan c.val).cmpWas = none) (hm : (s.chan c.val).m = up) (hfalling : (s.grp g.val).falling = !up)
    (hpos : 0 < countSteps (s.cmpOf c.val) (s.get PW_GRPCTL_PRE g.val))
    (hlt : countSteps (s.cmpOf c.val) (s.get PW_GRPCTL_PRE g.val) < s.halfSteps g.val)
    (he : e = (s.grp g.val).lastAt + (if up then countSteps (s.cmpOf c.val) (s.get PW_GRPCTL_PRE g.val)
      else s.halfSteps g.val - countSteps (s.cmpOf c.val) (s.get PW_GRPCTL_PRE g.val))) :
    ∃ t, exec (.modulationEdge c) s = .next t ∧
      (t.chan c.val).m = !up ∧
      t.now = max s.now (s.tickOf (max s.instant e)) := by
  have hunder : s.edgeUnder c.val g.val (countSteps (s.cmpOf c.val) (s.get PW_GRPCTL_PRE g.val)) 0 = some e := by
    unfold State.edgeUnder
    dsimp only
    rw [hfalling, hm, he]
    cases up with
    | true => simp [State.edgePlace_of_fine hfine, Nat.not_le.2 hlt]
    | false => simp [State.edgePlace_of_fine hfine, Nat.pos_iff_ne_zero.1 hpos]
  have hedge : s.nextEdge c.val = some e := by
    unfold State.nextEdge State.groupOf
    rw [hblock]
    dsimp only
    rw [hrun, hdwell, State.pwmClock_of_fine hfine, hwas]
    exact hunder
  obtain ⟨t, ht, hmt, -, -, hnow, -⟩ := edge_toggles s c e hedge (by rw [hblock]; rfl)
  refine ⟨t, ht, hm ▸ hmt, ?_⟩
  rcases Nat.le_total e s.instant with hpast | hcoming
  · rw [hnow, Nat.max_eq_left hpast, State.tickOf_passed hpast, State.tickOf_passed (Nat.le_refl _)]
  · rw [hnow, Nat.max_eq_right hcoming]

/-- Without a next edge nothing changes. -/
theorem no_edge_to_come (s : State) (c : Cell) (h : s.nextEdge c.val = none) : ∃ t, exec (.modulationEdge c) s = .next t ∧ t = s := by
  refine ⟨s, ?_, rfl⟩
  show execModulationEdge c s = _
  unfold execModulationEdge
  rw [h]

/-! ### The end of a turn-on delay (R159) -/

/-- The next edge rests on registers and units, not on the deadlines. -/
theorem State.disarm_nextEdge (s : State) (t : Timer) (c : Nat) : (s.disarm t).nextEdge c = s.nextEdge c := rfl

section Delay
variable {s : State} {c : Cell} {hi : Bool} {d : Nat}

/-- The state at the end of a turn-on delay. -/
def State.delayOver (s : State) (c : Nat) (hi : Bool) (d : Nat) : State := (s.advanceTo d).disarm (.turnOn c hi)

theorem State.delayOver_changes : Evolves onTimerParts s (s.delayOver c.val hi d) :=
  State.disarm_evolves (State.advanceTo_evolves (.refl _ s) d (by decide +kernel)) _ (by decide +kernel)

theorem State.delayOver_now : (s.delayOver c.val hi d).now = max s.now d := s.advanceTo_now d

theorem State.delayOver_chan : (s.delayOver c.val hi d).chan c.val = s.chan c.val := by
  have hpower : (s.delayOver c.val hi d).power = s.power := State.delayOver_changes.kept .power (by decide)
  unfold State.chan
  rw [hpower]

theorem State.delayOver_readyAt : (s.delayOver c.val hi d).readyAt c.val hi = s.readyAt c.val hi := by
  unfold State.readyAt State.deadSteps
  rw [State.outU_congr State.delayOver_chan, State.delayOver_chan, State.delayOver_changes.fine (by decide) (by decide) (by decide)]

theorem State.delayOver_partnerOff : (s.delayOver c.val hi d).partnerOff c.val hi = s.partnerOff c.val hi := by
  have hev : Evolves onTimerParts s (s.delayOver c.val hi d) := State.delayOver_changes
  have hpctl : RegId.CG_PCTL.has c.val 0 = true := (by decide : CellReg .CG_PCTL 0).has c
  have hfb : (if hi then CG_PSTAT_FBL else CG_PSTAT_FBH).reg.has c.val 0 = true := by
    cases hi <;> exact (by decide : CellReg .CG_PSTAT 0).has c
  unfold State.partnerOff
  rw [hev.on (f := CG_PCTL_FBEN) hpctl (by decide), hev.on hfb (by cases hi <;> decide)]

/-- The delay ends: a turn-on is tried, unless an edge of m comes no later than the dead time ends. -/
theorem exec_turnOnDelayEnd (h : s.deadline (.turnOn c.val hi) = some d) :
    exec (.turnOnDelayEnd c hi) s = .next (if ((s.advanceTo d).nextEdge c.val).any (fun t => decide (t ≤ s.readyAt c.val hi)) then s.delayOver c.val hi d
      else (s.delayOver c.val hi d).tryOn c.val hi (max (s.readyAt c.val hi) (s.delayOver c.val hi d).instant)) := by
  show execTurnOnDelayEnd c hi s = _
  unfold execTurnOnDelayEnd State.onTimer
  rw [h]
  dsimp only
  change Host.Outcome.next (match (s.delayOver c.val hi d).nextEdge c.val with
    | some t => if t ≤ (s.delayOver c.val hi d).readyAt c.val hi then s.delayOver c.val hi d
      else (s.delayOver c.val hi d).tryOn c.val hi (max ((s.delayOver c.val hi d).readyAt c.val hi) (s.delayOver c.val hi d).instant)
    | none => (s.delayOver c.val hi d).tryOn c.val hi (max ((s.delayOver c.val hi d).readyAt c.val hi) (s.delayOver c.val hi d).instant)) = _
  have hedge : (s.delayOver c.val hi d).nextEdge c.val = (s.advanceTo d).nextEdge c.val := rfl
  rw [hedge, State.delayOver_readyAt]
  cases (s.advanceTo d).nextEdge c.val with
  | none => rfl
  | some t => simp

/-- A turn-on that is not issued leaves its channel. -/
theorem delay_ends_idle (h : s.deadline (.turnOn c.val hi) = some d)
    (htry : ∀ t, s.readyAt c.val hi ≤ t → (s.delayOver c.val hi d).tryOn c.val hi t = s.delayOver c.val hi d) :
    ∃ t, exec (.turnOnDelayEnd c hi) s = .next t ∧ t.chan c.val = s.chan c.val ∧ t.now = max s.now d := by
  refine ⟨s.delayOver c.val hi d, ?_, State.delayOver_chan, State.delayOver_now⟩
  rw [exec_turnOnDelayEnd h, htry _ (Nat.le_max_left _ _), ite_self]

end Delay

/-- R159: an output that does not wait, or whose partner is commanded on, is left. -/
theorem delay_of_idle_output (s : State) (c : Cell) (hi : Bool) (d : Nat) (h : s.deadline (.turnOn c.val hi) = some d)
    (hidle : (s.outU c.val hi).waiting = false ∨ (s.outU c.val (!hi)).cmd = true) :
    ∃ t, exec (.turnOnDelayEnd c hi) s = .next t ∧ t.chan c.val = s.chan c.val ∧ t.now = max s.now d := by
  refine delay_ends_idle h (fun t _ => ?_)
  unfold State.tryOn
  dsimp only
  rw [State.outU_congr State.delayOver_chan, State.outU_congr State.delayOver_chan]
  exact if_pos (by simpa using hidle)

/-- R159: while the partner is not reported off the output waits on. -/
theorem delay_waits_for_partner (s : State) (c : Cell) (hi : Bool) (d : Nat) (h : s.deadline (.turnOn c.val hi) = some d)
    (_hwait : (s.outU c.val hi).waiting = true) (_hready : s.readyAt c.val hi ≤ (s.advanceTo d).instant) (hpartner : s.partnerOff c.val hi = false) :
    ∃ t, exec (.turnOnDelayEnd c hi) s = .next t ∧ t.chan c.val = s.chan c.val ∧ t.now = max s.now d := by
  refine delay_ends_idle h (fun t ht => ?_)
  unfold State.tryOn
  dsimp only
  rw [State.delayOver_readyAt, State.delayOver_partnerOff, hpartner, if_neg (Nat.not_lt.2 ht), if_neg Bool.false_ne_true, ite_self]

/-- R159: else it turns on. -/
theorem delay_ends_in_turn_on (s : State) (c : Cell) (hi : Bool) (d : Nat) (h : s.deadline (.turnOn c.val hi) = some d)
    (hwait : (s.outU c.val hi).waiting = true) (hcmd : (s.outU c.val (!hi)).cmd = false) (_hready : s.readyAt c.val hi ≤ 64 * max s.now d)
    (hpartner : s.partnerOff c.val hi = true)
    (hedge : (s.advanceTo d).nextEdge c.val = none ∨ s.readyAt c.val hi < ((s.advanceTo d).nextEdge c.val).getD 0) :
    ∃ t, exec (.turnOnDelayEnd c hi) s = .next t ∧
      (t.outU c.val hi).out = true ∧
      (t.outU c.val hi).pin = true ∧
      (t.outU c.val hi).waiting = false ∧
      t.now = max s.now d := by
  have hclear : ((s.advanceTo d).nextEdge c.val).any (fun t => decide (t ≤ s.readyAt c.val hi)) = false := by
    cases hn : (s.advanceTo d).nextEdge c.val with
    | none => rfl
    | some t =>
      rw [hn] at hedge
      simpa using hedge
  have htry : ∀ t, s.readyAt c.val hi ≤ t → (s.delayOver c.val hi d).tryOn c.val hi t =
      ((((s.delayOver c.val hi d).unwait c.val hi).updOut c.val hi (fun o => { o with out := true })).setPin c.val hi true) := fun t ht => by
    unfold State.tryOn
    dsimp only
    rw [State.outU_congr State.delayOver_chan, State.outU_congr State.delayOver_chan, hwait, hcmd, if_neg (by decide), State.delayOver_readyAt,
      if_neg (Nat.not_lt.2 ht), State.delayOver_partnerOff, if_pos hpartner]
  have hexec := exec_turnOnDelayEnd h
  rw [hclear, if_neg Bool.false_ne_true, htry _ (Nat.le_max_left _ _)] at hexec
  have htold := State.setPin_told (((s.delayOver c.val hi d).unwait c.val hi).updOut c.val hi (fun o => { o with out := true })) c.val c.val hi hi true
  rw [State.outU_updOut_self, State.unwait_outU_self] at htold
  refine ⟨_, hexec, (congrArg OutU.out htold :), State.setPin_pin _ c hi true, (congrArg OutU.waiting htold :), ?_⟩
  have hev : Evolves gateParts (s.delayOver c.val hi d) _ :=
    State.setPin_evolves (State.updOut_evolves (State.unwait_evolves (.refl _ (s.delayOver c.val hi d)) c.val hi (by decide +kernel)) c.val hi
      (fun o => { o with out := true }) (by decide +kernel)) c.val hi true (by decide +kernel)
  exact (hev.kept .now (by decide)).trans State.delayOver_now

end Sys2Proof.Machine
end

section
/-! SUPPORT. The loss of the PWM clock and SAFE states (R172, R502), and the channels' obligation. -/

namespace Sys2Proof.Machine

/-! ### The PWM clock is lost (R172) -/

theorem safe_has (c : Cell) : RegId.PW_SAFE.has c.val 0 = true := (by decide : CellReg .PW_SAFE 0).has c

/-- With PWMCLK_LOST every cell is held, low-side on only where its SAFE state is and firmware has written SAFE. -/
theorem State.gateHold_of_lost {s : State} (h : s.on PW_GATESTAT_PWMCLK_LOST = true) (c : Nat) :
    ∃ low, s.gateHold c = some low ∧ (low = true → s.get PW_SAFE_SAFE c = 1 ∧ (s.chan c).safeSet = true) := by
  unfold State.gateHold
  split
  · exact ⟨false, rfl, by simp⟩
  · next hfree =>
    have hset : (s.chan c).safeSet = true := by
      simp only [Bool.or_eq_true, not_or, Bool.not_eq_true', Bool.not_eq_false] at hfree
      exact hfree.1.2
    split
    · exact ⟨_, rfl, fun hlow => ⟨by simp at hlow; exact hlow.2, hset⟩⟩
    · split
      · exact ⟨false, rfl, by simp⟩
      · exact ⟨_, if_pos (by simp [h]), fun hlow => ⟨by simpa using hlow, hset⟩⟩

/-- What a cell's outputs show then. -/
def State.CellSafe (s : State) (c : Cell) : Prop :=
  (s.outU c.val true).pin = false ∧ ((s.outU c.val false).pin = true → s.get PW_SAFE_SAFE c.val = 1 ∧ (s.chan c.val).safeSet = true)

/-- A gate leaves SAFE and its note. -/
theorem State.regate_safe (s : State) (k : Nat) (c : Cell) :
    (s.regate k).get PW_SAFE_SAFE c.val = s.get PW_SAFE_SAFE c.val ∧ ((s.regate k).chan c.val).safeSet = (s.chan c.val).safeSet :=
  ⟨(State.regate_evolves (.refl _ s) k (covers_self _)).get (f := PW_SAFE_SAFE) (safe_has c) (by decide),
    (congrArg ChanU.safeSet (State.core_of_stage (s.regate_stage k) c.val) :)⟩

/-- A cell that is held for the clock is safe. -/
theorem State.regate_cellSafe {s : State} (h : s.on PW_GATESTAT_PWMCLK_LOST = true) (c : Cell) : (s.regate c.val).CellSafe c := by
  obtain ⟨low, hheld, hlow⟩ := State.gateHold_of_lost h c.val
  obtain ⟨hhi, hlo⟩ := State.regate_held hheld
  obtain ⟨hsafe, hset⟩ := s.regate_safe c.val c
  refine ⟨hhi, fun hpin => ?_⟩
  rw [hsafe, hset]
  exact hlow (hlo.symm.trans hpin)

/-- And stays so when another's gate follows. -/
theorem State.CellSafe.regate {s : State} {c : Cell} (hs : s.CellSafe c) {k : Nat} (hk : k ≠ c.val) : (s.regate k).CellSafe c := by
  obtain ⟨hhi, hlo⟩ := hs
  obtain ⟨hsafe, hset⟩ := s.regate_safe k c
  unfold State.CellSafe
  rw [State.regate_outU_ne _ hk.symm, State.regate_outU_ne _ hk.symm, hsafe, hset]
  exact ⟨hhi, hlo⟩

/-- PWMCLK_LOST is no matter of a gate. -/
theorem State.regate_lost (s : State) (k : Nat) : (s.regate k).on PW_GATESTAT_PWMCLK_LOST = s.on PW_GATESTAT_PWMCLK_LOST :=
  (State.regate_evolves (.refl _ s) k (covers_self _)).on (f := PW_GATESTAT_PWMCLK_LOST) (by decide) (by decide)

theorem State.regateAll_lost (s : State) : s.regateAll.on PW_GATESTAT_PWMCLK_LOST = s.on PW_GATESTAT_PWMCLK_LOST :=
  State.each_keeps (fun t => t.on PW_GATESTAT_PWMCLK_LOST) (List.range 48) State.regate State.regate_lost s

/-- Every cell is safe once every gate has followed. -/
theorem State.regateAll_cellSafe {s : State} (h : s.on PW_GATESTAT_PWMCLK_LOST = true) (c : Cell) : s.regateAll.CellSafe c := by
  have hreach := State.each_reaches (fun t : State => t.on PW_GATESTAT_PWMCLK_LOST = true → t.CellSafe c) (f := State.regate) (x := c.val)
    (fun t ht => State.regate_cellSafe (t.regate_lost c.val ▸ ht) c) (fun t k hsafe ht => by
      rw [State.regate_lost] at ht
      by_cases hk : k = c.val
      · exact hk ▸ State.regate_cellSafe ht c
      · exact (hsafe ht).regate hk) (List.range 48) s (List.mem_range.2 c.isLt)
  exact hreach (s.regateAll_lost.trans h)

/-- R172: without the PWM clock every cell goes to its SAFE state. -/
theorem clock_loss_makes_safe (s : State) :
    ∃ t, exec .pwmclkLost s = .next t ∧
      t.on PW_GATESTAT_PWMCLK_LOST = true ∧
      (∀ c : Cell, (t.chan c.val).hi.pin = false) ∧
      (∀ c : Cell, (t.chan c.val).lo.pin = true → t.get PW_SAFE_SAFE c.val = 1 ∧ (t.chan c.val).safeSet = true) := by
  have hlost : (s.put PW_GATESTAT_PWMCLK_LOST 1).on PW_GATESTAT_PWMCLK_LOST = true :=
    State.on_put s PW_GATESTAT_PWMCLK_LOST 1 0 0 (by decide) (by decide)
  have hsafe := State.regateAll_cellSafe hlost
  refine ⟨(s.put PW_GATESTAT_PWMCLK_LOST 1).regateAll, rfl, (State.regateAll_lost _).trans hlost, ?_⟩
  generalize (s.put PW_GATESTAT_PWMCLK_LOST 1).regateAll = t at hsafe ⊢
  exact ⟨fun c => (hsafe c).1, fun c => (hsafe c).2⟩

/-! ### SAFE is written (R172, R502) -/

section Safe
variable {s : State} {c : Cell} {v : Word}

/-- A SAFE that firmware may write: both off, or low-side on where the option block permits it, of a stopped cell. -/
def State.safeOk (s : State) (c : Nat) (v : Word) : Bool :=
  s.cellStopped c && (PW_SAFE_SAFE.of v == 0 || (PW_SAFE_SAFE.of v == 1 && s.safeLow c))

/-- The word of SAFE after a write. -/
def State.safeStored (s : State) (c : Nat) (v : Word) : State :=
  s.condWrite .PW_SAFE v PW_SAFE_SAFE.mask (s.safeOk c v) (fun s => s.put PW_SAFE_SAFE_DENIED 1 c) c

/-- A SAFE that has what was written is firmware's. -/
def State.safeNoted (s : State) (c : Nat) (v : Word) : State :=
  if s.get PW_SAFE_SAFE c = PW_SAFE_SAFE.of v then s.updChan c (fun u => { u with safeSet := true }) else s

/-- A SAFE write, step by step. -/
theorem State.safeWrite_eq : s.safeWrite c.val v = ((s.safeStored c.val v).safeNoted c.val v).regate c.val := rfl

/-- Every bit of SAFE is one of its mask, and is RW. -/
theorem safe_bits : ∀ k < PW_SAFE_SAFE.width, PW_SAFE_SAFE.mask.getLsbD (PW_SAFE_SAFE.lo + k) = true ∧
    RegId.PW_SAFE.reg.rw.testBit (PW_SAFE_SAFE.lo + k) = true ∧ RegId.PW_SAFE.reg.w1c.testBit (PW_SAFE_SAFE.lo + k) = false := by decide

/-- A word written to SAFE's register. -/
theorem State.regWrite_safe (w : Word) : (s.regWrite .PW_SAFE w c.val).get PW_SAFE_SAFE c.val = PW_SAFE_SAFE.of w :=
  (congrArg PW_SAFE_SAFE.of (State.rdw_regWrite s .PW_SAFE w c.val 0 (safe_has c))).trans
    (Fld.of_written PW_SAFE_SAFE _ _ (by decide) (fun k hk => (safe_bits k hk).2))

/-- A SAFE that firmware may write is stored. -/
theorem State.safeStored_ok (h : s.safeOk c.val v = true) : (s.safeStored c.val v).get PW_SAFE_SAFE c.val = PW_SAFE_SAFE.of v := by
  rw [State.safeStored, h, State.condWrite_met, State.regWrite_safe]

/-- A change that it may not make is refused. -/
theorem State.safeStored_denied (h : s.safeOk c.val v = false) (hne : PW_SAFE_SAFE.of v ≠ s.get PW_SAFE_SAFE c.val) :
    (s.safeStored c.val v).get PW_SAFE_SAFE c.val = s.get PW_SAFE_SAFE c.val ∧ (s.safeStored c.val v).on PW_SAFE_SAFE_DENIED c.val = true := by
  have hchange : changes (s.rdw .PW_SAFE c.val) v PW_SAFE_SAFE.mask = true := by
    rw [← Bool.not_eq_false]
    exact fun hsame => hne (Fld.of_eq_of_unchanged hsame (fun k hk => (safe_bits k hk).1)).symm
  rw [State.safeStored, h, State.condWrite_unmet, if_pos hchange]
  refine ⟨?_, State.on_put _ PW_SAFE_SAFE_DENIED 1 c.val 0 (safe_has c) (by decide)⟩
  rw [State.get_put_cell_apart _ _ _ _ _ (by decide), State.regWrite_safe]
  exact Fld.of_keeping_kept PW_SAFE_SAFE _ _ _ (by decide) (fun k hk => (safe_bits k hk).1)

end Safe

/-- The command is the cell's write; SAFE acts as it is written. -/
theorem exec_safeWrite (s : State) (m : Master) (c : Cell) (v : Word) (hopen : s.busOpen m = true) (hmay : s.mayWriteCell m c.val = true) :
    ∃ d w, PW_SAFE_SAFE.of w = PW_SAFE_SAFE.of v ∧ exec (.safeWrite m c v) s = .next (State.safeWrite { s with drift := d } c.val w) := by
  obtain ⟨d, hd⟩ := State.regStore_cell s m .PW_SAFE v c.val c.val (fun x t => t.safeWrite c.val x) hopen hmay (fun _ _ => rfl)
  exact ⟨d, _, State.settle_field s PW_SAFE_SAFE v c.val 0 (by decide) (fun k hk => (safe_bits k hk).2.2), congrArg Host.Outcome.next hd⟩

/-- R172: SAFE of a stopped cell takes a permitted value, and firmware has written it. -/
theorem permitted_safe_is_stored (s : State) (m : Master) (c : Cell) (v : Word) (hopen : s.busOpen m = true) (hmay : s.mayWriteCell m c.val = true)
    (hstop : s.cellStopped c.val = true) (hsafe : PW_SAFE_SAFE.of v = 0 ∨ (PW_SAFE_SAFE.of v = 1 ∧ s.safeLow c.val = true)) :
    ∃ t, exec (.safeWrite m c v) s = .next t ∧
      t.get PW_SAFE_SAFE c.val = PW_SAFE_SAFE.of v ∧
      (t.chan c.val).safeSet = true := by
  obtain ⟨d, w, hw, hexec⟩ := exec_safeWrite s m c v hopen hmay
  have hok : State.safeOk { s with drift := d } c.val w = true := by
    show (s.cellStopped c.val && (PW_SAFE_SAFE.of w == 0 || (PW_SAFE_SAFE.of w == 1 && s.safeLow c.val))) = true
    rw [hstop, hw]
    simpa using hsafe
  have hstored := State.safeStored_ok hok
  refine ⟨_, hexec, ?_⟩
  rw [State.safeWrite_eq, (State.regate_safe _ c.val c).1, (State.regate_safe _ c.val c).2, State.safeNoted, if_pos hstored, ← hw, ← hstored]
  refine ⟨(State.updChan_evolves (.refl _ _) c.val _ (covers_self _)).get (f := PW_SAFE_SAFE) (safe_has c) (by decide), ?_⟩
  rw [State.chan_updChan, if_pos ⟨rfl, c.isLt⟩]

/-- R172, R502: another change of it is refused. -/
theorem other_safe_is_denied (s : State) (m : Master) (c : Cell) (v : Word) (hopen : s.busOpen m = true) (hmay : s.mayWriteCell m c.val = true)
    (hne : PW_SAFE_SAFE.of v ≠ s.get PW_SAFE_SAFE c.val)
    (hbad : s.cellStopped c.val = false ∨ 2 ≤ PW_SAFE_SAFE.of v ∨ (PW_SAFE_SAFE.of v = 1 ∧ s.safeLow c.val = false)) :
    ∃ t, exec (.safeWrite m c v) s = .next t ∧
      t.get PW_SAFE_SAFE c.val = s.get PW_SAFE_SAFE c.val ∧
      t.on PW_SAFE_SAFE_DENIED c.val = true := by
  obtain ⟨d, w, hw, hexec⟩ := exec_safeWrite s m c v hopen hmay
  have hok : State.safeOk { s with drift := d } c.val w = false := by
    show (s.cellStopped c.val && (PW_SAFE_SAFE.of w == 0 || (PW_SAFE_SAFE.of w == 1 && s.safeLow c.val))) = false
    rw [hw]
    rcases hbad with h | h | ⟨h, hlow⟩
    · simp [h]
    · have h0 : PW_SAFE_SAFE.of v ≠ 0 := by omega
      have h1 : PW_SAFE_SAFE.of v ≠ 1 := by omega
      simp [h0, h1]
    · simp [h, hlow]
  obtain ⟨hkept, hdenied⟩ := State.safeStored_denied hok (hw.symm ▸ hne)
  have hnoted : (State.safeStored { s with drift := d } c.val w).safeNoted c.val w = State.safeStored { s with drift := d } c.val w :=
    if_neg (by rw [hkept, hw]; exact Ne.symm hne)
  have hgate := State.regate_evolves (.refl _ (State.safeStored { s with drift := d } c.val w)) c.val (covers_self _)
  refine ⟨_, hexec, ?_, ?_⟩
  · rw [State.safeWrite_eq, hnoted, (State.regate_safe _ c.val c).1, hkept]
    rfl
  · rw [State.safeWrite_eq, hnoted, hgate.on (f := PW_SAFE_SAFE_DENIED) (safe_has c) (by decide), hdenied]

/-- Settles O33, clause by clause. -/
theorem channelsModulate : Obligations.ChannelsModulate :=
  ⟨edge_toggles, compare_is_crossed, no_edge_to_come, delay_of_idle_output, delay_waits_for_partner, delay_ends_in_turn_on, clock_loss_makes_safe,
    permitted_safe_is_stored, other_safe_is_denied⟩

end Sys2Proof.Machine
end

section
/-! SUPPORT. Writes to a group's GRPCOMMIT (R154, R162, R163, R165). -/

namespace Sys2Proof.Machine

/-! ### Fields of a word in which one is replaced -/

/-- The field that is replaced. -/
theorem Fld.of_into (f : Fld) (w : Word) (v : Nat) (hw : f.lo + f.width ≤ 32) : f.of (f.into w v) = v % 2 ^ f.width := bits_setBits w f.lo f.width v hw

/-- One that shares no bit with it. -/
theorem Fld.of_into_ne {f g : Fld} (w : Word) (v : Nat) (h : g.lo + g.width ≤ f.lo ∨ f.lo + f.width ≤ g.lo) : g.of (f.into w v) = g.of w :=
  bits_setBits_ne w f.lo f.width g.lo g.width v h

/-- A flag that is off is 0. -/
theorem State.get_of_on {s : State} {f : Fld} {i j : Nat} (h : s.on f i j = false) : s.get f i j = 0 := by simpa [State.on] using h

/-! ### A group's owner writes -/

/-- An owner's write to a register of a group: the register's rule, after what the write releases has been noted. -/
theorem State.regStore_group (s : State) (m : Master) (r : RegId) (v : Word) (g : Nat) (f : Word → State → State) (hopen : s.busOpen m = true)
    (hmay : s.mayWriteBlock m g = true) (hstore : ∀ (t : State) (x : Word), t.store m r x g 0 = t.asOwner m g (f x)) :
    ∃ d, s.regStore m r v g = f (s.settle r v g) { s with drift := d } := by
  obtain ⟨d, hd⟩ := State.regStore_eq s m r v g 0 hopen
  have hmay' : State.mayWriteBlock { s with drift := d } m g = true := hmay
  exact ⟨d, by rw [hd, hstore, State.asOwner, if_pos hmay']⟩

/-- A word written to a register. -/
theorem State.regWrite_changes (s : State) (r : RegId) (w : Word) (i : Nat) : Evolves [.reg r] s (s.regWrite r w i) :=
  State.regWrite_evolves (.refl _ s) r w i 0 (covers_self _)

/-! ### The shadow (R161) -/

/-- A group's shadow rests on its registers, its cells' settings, the notes of written duties and the tick. -/
theorem Evolves.shadowSet {A : List Part} {s t : State} (h : Evolves A s t) (hA : ∀ q ∈ [Part.now, .power, .reg .BLK_BLKCELLS0, .reg .BLK_BLKCELLS1,
    .reg .PW_GRPPRD, .reg .PW_GRPPHASE, .reg .PW_CHCTL, .reg .PW_DUTY, .reg .PW_DT], q ∉ A) (g : Block) : t.shadowSet g.val = s.shadowSet g.val := by
  simp only [List.forall_mem_cons, List.not_mem_nil, false_imp_iff, implies_true, and_true] at hA
  obtain ⟨hnow, hpower, hcells0, hcells1, hprd, hphase, hctl, hduty, hdt⟩ := hA
  have htick : t.now = s.now := h.kept .now hnow
  have hunits : t.power = s.power := h.kept .power hpower
  have hphase' : t.rdw .PW_GRPPHASE g.val = s.rdw .PW_GRPPHASE g.val := h.rdw (RegId.has_of_lt g.isLt rfl Nat.one_pos) hphase
  have hcells : t.cellsOf g.val = s.cellsOf g.val := h.cellsOf hcells0 hcells1 g
  have hchans : ∀ c ∈ s.cellsOf g.val,
      (⟨c, if t.on PW_CHCTL_IMM c then none else some (t.rdw .PW_DUTY c), (t.chan c).written, t.get PW_DT_DT c⟩ : ChanSet) =
        ⟨c, if s.on PW_CHCTL_IMM c then none else some (s.rdw .PW_DUTY c), (s.chan c).written, s.get PW_DT_DT c⟩ := fun c hc => by
    have hlt : c < 48 := List.mem_range.1 (List.mem_of_mem_filter hc)
    have hhas : ∀ {r : RegId}, CellReg r 0 → r.has c 0 = true := fun hr => hr.has ⟨c, hlt⟩
    rw [h.on (f := PW_CHCTL_IMM) (hhas (by decide)) hctl, h.rdw (hhas (by decide)) hduty, h.get (f := PW_DT_DT) (hhas (by decide)) hdt, State.chan, hunits]
    rfl
  unfold State.shadowSet
  rw [h.rdw (grpprd_has g) hprd, hphase', hcells, htick, List.map_congr_left hchans]

/-- Copying a set notes no duty as written. -/
theorem State.clearWritten_written {s : State} {g : Nat} {c : Cell} (h : s.blockOf c.val = some g) : ((s.clearWritten g).chan c.val).written = false := by
  have hcore := State.each_core (f := fun s c => s.updChan c (fun u => { u with written := false })) (g := fun u => { u with written := false })
    (fun s c k hk => by rw [State.chan_updChan, if_neg (fun h => hk h.1)])
    (fun s c hc => by rw [State.chan_updChan, if_pos ⟨rfl, hc⟩]; rfl) c.isLt (s.cellsOf g) s (s.cellsOf_nodup g) (State.mem_cellsOf h)
  exact (congrArg ChanU.written hcore :)

/-! ### COMMIT (R162) -/

section Commit
variable {s : State} {g : Block} {w : Word} (hw : PW_GRPCOMMIT_COMMIT.of w = 1)

/-- A commit while a set is pending is noted. -/
def State.mergeNoted (s : State) (g : Nat) : State := if s.on PW_GRPCOMMIT_PENDING g then s.put PW_GRPCOMMIT_COMMIT_MERGED 1 g else s

/-- A commit of an admissible shadow, step by step. -/
theorem State.commitSet_eq (hauto : s.on PW_GRPCTL_AUTOC g.val = false) (hok : prdOk (s.get PW_GRPPRD_PRD g.val) (s.get PW_GRPCTL_PRE g.val) = true) :
    s.commitSet g.val = ((((s.mergeNoted g.val).updGrp g.val (fun u => { u with pend := some (((s.mergeNoted g.val).shadowSet g.val).merge u.pend) })).clearWritten
      g.val).put PW_GRPCOMMIT_PENDING 1 g.val) := by
  unfold State.commitSet
  rw [hauto, if_neg Bool.false_ne_true, if_pos hok]
  rfl

theorem State.mergeNoted_changes : Evolves [.fresh, .reg .PW_GRPCOMMIT] s (s.mergeNoted g.val) :=
  ite_evolves (State.put_evolves (.refl _ s) PW_GRPCOMMIT_COMMIT_MERGED 1 g.val 0 (by decide +kernel)) (.refl _ s)

/-- What such a commit leaves: the pending set, PENDING, the note of a merge, and no duty noted as written. -/
theorem State.commitSet_shows (hauto : s.on PW_GRPCTL_AUTOC g.val = false)
    (hok : prdOk (s.get PW_GRPPRD_PRD g.val) (s.get PW_GRPCTL_PRE g.val) = true) :
    ((s.commitSet g.val).grp g.val).pend = some ((s.shadowSet g.val).merge (s.grp g.val).pend) ∧
      (s.commitSet g.val).on PW_GRPCOMMIT_PENDING g.val = true ∧
      (s.on PW_GRPCOMMIT_PENDING g.val = true → (s.commitSet g.val).on PW_GRPCOMMIT_COMMIT_MERGED g.val = true) ∧
      ∀ c : Cell, s.blockOf c.val = some g.val → ((s.commitSet g.val).chan c.val).written = false := by
  have hnoted : Evolves [.fresh, .reg .PW_GRPCOMMIT] s (s.mergeNoted g.val) := State.mergeNoted_changes
  have hcopied : ∀ f, Evolves [.power] (s.mergeNoted g.val) (((s.mergeNoted g.val).updGrp g.val f).clearWritten g.val) := fun f =>
    State.clearWritten_evolves (State.updGrp_evolves (.refl _ _) g.val f (covers_self _)) g.val (covers_self _)
  have hgrp : (s.mergeNoted g.val).grp g.val = s.grp g.val := State.grp_of_stage (hnoted.stage (by decide)) g.val
  rw [State.commitSet_eq hauto hok]
  refine ⟨?_, State.on_put _ PW_GRPCOMMIT_PENDING 1 _ _ (grpcommit_has g) (by decide), fun hpend => ?_, fun c hc => ?_⟩
  · rw [State.put_grp, (State.clearWritten_units _ _).1, State.grp_updGrp, if_pos ⟨rfl, g.isLt⟩, hnoted.shadowSet (by decide) g, hgrp]
  · rw [State.on_put_of_apart _ _ _ _ (grpcommit_has g) (by decide), (hcopied _).on (f := PW_GRPCOMMIT_COMMIT_MERGED) (grpcommit_has g) (by decide),
      State.mergeNoted, if_pos hpend]
    exact State.on_put _ PW_GRPCOMMIT_COMMIT_MERGED 1 _ _ (grpcommit_has g) (by decide)
  · refine State.clearWritten_written ?_
    rw [(State.updGrp_evolves (.refl _ _) g.val _ (covers_self _)).blockOf (by decide) (by decide), hnoted.blockOf (by decide) (by decide), hc]

/-- PENDING is no bit that a write to GRPCOMMIT changes. -/
theorem State.regWrite_pending : (s.regWrite .PW_GRPCOMMIT w g.val).on PW_GRPCOMMIT_PENDING g.val = s.on PW_GRPCOMMIT_PENDING g.val := by
  unfold State.on State.get
  exact congrArg (fun n => n != 0) ((congrArg PW_GRPCOMMIT_PENDING.of (State.rdw_regWrite s .PW_GRPCOMMIT w g.val 0 (grpcommit_has g))).trans
    (Fld.of_written_kept PW_GRPCOMMIT_PENDING _ _ (by decide) (by decide)))

include hw

/-- A write of COMMIT of an admissible shadow commits it. -/
theorem State.grpcommitWrite_ok (hok : s.on PW_GRPCTL_AUTOC g.val = true ∨ prdOk (s.get PW_GRPPRD_PRD g.val) (s.get PW_GRPCTL_PRE g.val) = true) :
    s.grpcommitWrite g.val w = (s.regWrite .PW_GRPCOMMIT w g.val).commitSet g.val := by
  unfold State.grpcommitWrite
  rw [if_neg (by rcases hok with h | h <;> simp [h]), if_pos hw]

/-- One of another shadow is refused. -/
theorem State.grpcommitWrite_denied (hauto : s.on PW_GRPCTL_AUTOC g.val = false)
    (hbad : prdOk (s.get PW_GRPPRD_PRD g.val) (s.get PW_GRPCTL_PRE g.val) = false) :
    s.grpcommitWrite g.val w = s.put PW_GRPCOMMIT_PRD_DENIED 1 g.val := if_pos ⟨hw, by simp [hauto], by simp [hbad]⟩

end Commit

section Command
variable (s : State) (m : Master) (g : Block) (v : Word) (hopen : s.busOpen m = true) (hmay : s.mayWriteBlock m g.val = true)
include hopen hmay

/-- The command is a write of COMMIT. -/
theorem exec_grpCommit : ∃ d w, PW_GRPCOMMIT_COMMIT.of w = 1 ∧
    exec (.grpCommit m g v) s = .next (State.grpcommitWrite { s with drift := d } g.val w) := by
  obtain ⟨d, hd⟩ := State.regStore_group s m .PW_GRPCOMMIT (PW_GRPCOMMIT_COMMIT.into v 1) g.val (fun x t => t.grpcommitWrite g.val x) hopen hmay
    (fun _ _ => rfl)
  exact ⟨d, _, (State.settle_field s PW_GRPCOMMIT_COMMIT _ g.val 0 (by decide) (by decide)).trans (Fld.of_into PW_GRPCOMMIT_COMMIT v 1 (by decide)),
    congrArg Host.Outcome.next hd⟩

/-- R154, R162, R165: an admissible shadow is copied as the pending set. -/
theorem shadow_is_committed (hauto : s.on PW_GRPCTL_AUTOC g.val = false)
    (hok : prdOk (s.get PW_GRPPRD_PRD g.val) (s.get PW_GRPCTL_PRE g.val) = true) :
    ∃ t, exec (.grpCommit m g v) s = .next t ∧
      (t.grp g.val).pend = some ((s.shadowSet g.val).merge (s.grp g.val).pend) ∧
      t.on PW_GRPCOMMIT_PENDING g.val = true ∧
      (s.on PW_GRPCOMMIT_PENDING g.val = true → t.on PW_GRPCOMMIT_COMMIT_MERGED g.val = true) ∧
      (∀ c : Cell, s.blockOf c.val = some g.val → (t.chan c.val).written = false) := by
  obtain ⟨d, w, hw, hexec⟩ := exec_grpCommit s m g v hopen hmay
  rw [State.grpcommitWrite_ok (s := { s with drift := d }) hw (.inr hok)] at hexec
  have hwrite := State.regWrite_changes { s with drift := d } .PW_GRPCOMMIT w g.val
  have hok' : prdOk ((State.regWrite { s with drift := d } .PW_GRPCOMMIT w g.val).get PW_GRPPRD_PRD g.val)
      ((State.regWrite { s with drift := d } .PW_GRPCOMMIT w g.val).get PW_GRPCTL_PRE g.val) = true := by
    rw [hwrite.get (f := PW_GRPCTL_PRE) (grpctl_has g) (by decide), hwrite.get (f := PW_GRPPRD_PRD) (grpprd_has g) (by decide)]
    exact hok
  obtain ⟨hpend, hpending, hmerged, hwritten⟩ :=
    State.commitSet_shows ((hwrite.on (f := PW_GRPCTL_AUTOC) (grpctl_has g) (by decide)).trans hauto) hok'
  rw [hwrite.shadowSet (by decide) g] at hpend
  rw [State.regWrite_pending] at hmerged
  exact ⟨_, hexec, hpend, hpending, hmerged, fun c hc => hwritten c ((hwrite.blockOf (by decide) (by decide) c.val).trans hc)⟩

/-- R154, R162: another shadow is refused. -/
theorem shadow_is_refused (hauto : s.on PW_GRPCTL_AUTOC g.val = false)
    (hbad : prdOk (s.get PW_GRPPRD_PRD g.val) (s.get PW_GRPCTL_PRE g.val) = false) :
    ∃ t, exec (.grpCommit m g v) s = .next t ∧
      (t.grp g.val).pend = (s.grp g.val).pend ∧
      t.on PW_GRPCOMMIT_PRD_DENIED g.val = true ∧
      t.on PW_GRPCOMMIT_PENDING g.val = s.on PW_GRPCOMMIT_PENDING g.val := by
  obtain ⟨d, w, hw, hexec⟩ := exec_grpCommit s m g v hopen hmay
  rw [State.grpcommitWrite_denied (s := { s with drift := d }) hw hauto hbad] at hexec
  exact ⟨_, hexec, rfl, State.on_put _ PW_GRPCOMMIT_PRD_DENIED 1 _ _ (grpcommit_has g) (by decide),
    State.on_put_of_apart _ _ _ _ (grpcommit_has g) (by decide)⟩

/-- R163: with AUTOC a commit has no effect. -/
theorem commit_with_autoc (hauto : s.on PW_GRPCTL_AUTOC g.val = true) :
    ∃ t, exec (.grpCommit m g v) s = .next t ∧
      t.grp g.val = s.grp g.val ∧
      t.on PW_GRPCOMMIT_PENDING g.val = s.on PW_GRPCOMMIT_PENDING g.val ∧
      t.get PW_GRPACT_PRD g.val = s.get PW_GRPACT_PRD g.val := by
  obtain ⟨d, w, hw, hexec⟩ := exec_grpCommit s m g v hopen hmay
  have hwrite := State.regWrite_changes { s with drift := d } .PW_GRPCOMMIT w g.val
  have hidle : (State.regWrite { s with drift := d } .PW_GRPCOMMIT w g.val).commitSet g.val = State.regWrite { s with drift := d } .PW_GRPCOMMIT w g.val :=
    if_pos ((hwrite.on (f := PW_GRPCTL_AUTOC) (grpctl_has g) (by decide)).trans hauto)
  rw [State.grpcommitWrite_ok (s := { s with drift := d }) hw (.inl hauto), hidle] at hexec
  exact ⟨_, hexec, State.grp_of_stage (hwrite.stage (by decide)) g.val, State.regWrite_pending,
    hwrite.get (f := PW_GRPACT_PRD) (grpact_has g) (by decide)⟩

end Command

end Sys2Proof.Machine
end

section
/-! SUPPORT. A carrier's EN (R154, R161, R163, R165): the shadow as it becomes active in every channel, and the writes that are refused. -/

namespace Sys2Proof.Machine

/-! ### A channel takes its part of a set -/

/-- The PWM clock's instant rests on the tick, the Winder and the synthesizer. -/
theorem Evolves.instant {A : List Part} {s t : State} (h : Evolves A s t) (hA : ∀ q ∈ [Part.now, .winder, .reg .WI_SSTAT, .reg .WI_RSTAT, .reg .WI_SSCFG],
    q ∉ A) : t.instant = s.instant := by
  simp only [List.forall_mem_cons, List.not_mem_nil, false_imp_iff, implies_true, and_true] at hA
  obtain ⟨hnow, hwinder, hlock, hfreq, hspread⟩ := hA
  have htick : t.now = s.now := h.kept .now hnow
  have hunit : t.winder = s.winder := h.kept .winder hwinder
  have hsscfg : ∀ f : Fld, f.reg = .WI_SSCFG → t.get f synPwm = s.get f synPwm := fun f hf => h.get (by rw [hf]; decide) (by rw [hf]; exact hspread)
  unfold State.instant State.pwmPhase State.pwmClock State.pwmGain
  dsimp only
  rw [htick, hunit, h.on (f := WI_SSTAT_LOCKED) (by decide) hlock, h.get (f := WI_RSTAT_FREQ) (by decide) hfreq, hsscfg _ rfl, hsscfg _ rfl,
    hsscfg _ rfl]

/-- Showing the compare is no matter of a channel. -/
@[simp] theorem State.showCmp_chan (s : State) (c k : Nat) : (s.showCmp c).chan k = s.chan k := rfl

/-- Another channel's part of a set. -/
theorem State.applyChan_chan_ne (s : State) (g old : Nat) {k : ChanSet} {c : Nat} (h : c ≠ k.cell) : (s.applyChan g old k).chan c = s.chan c := by
  have hne : ¬ (c = k.cell ∧ k.cell < 48) := fun hc => h hc.1
  unfold State.applyChan
  dsimp only
  repeat' split
  all_goals simp [State.chan_updChan, hne]

/-- A part with a duty that was written into the set: the channel has the dead time and that duty. -/
theorem State.applyChan_takes (s : State) (g old : Nat) (c : Cell) (duty : Option Word) (dt : Nat) :
    ((s.applyChan g old ⟨c.val, duty, true, dt⟩).chan c.val).dt = dt ∧
      ∀ v, duty = some v → ((s.applyChan g old ⟨c.val, duty, true, dt⟩).chan c.val).duty = v := by
  have hself : ∀ (t : State) f, (t.updChan c.val f).chan c.val = f (t.chan c.val) := fun t f => by rw [State.chan_updChan, if_pos ⟨rfl, c.isLt⟩]
  unfold State.applyChan
  dsimp only
  cases duty with
  | none =>
    refine ⟨?_, fun v hv => nomatch hv⟩
    repeat' split
    all_goals simp [hself]
  | some v =>
    rw [if_neg (by simp)]
    refine ⟨by simp [hself], fun w hw => ?_⟩
    obtain rfl := Option.some.inj hw
    simp [hself]

/-- A channel's part is its own. -/
theorem State.partOf_cell (s : State) (u : UpdateSet) (c : Nat) : (s.partOf u c).cell = c := by
  unfold State.partOf
  cases h : u.chans.find? (fun k => k.cell == c) with
  | none => rfl
  | some k => simpa using List.find?_some h

/-- The first part of a cell among parts made cell by cell. -/
theorem find_part (f : Nat → ChanSet) (hf : ∀ c, (f c).cell = c) {c : Nat} :
    ∀ {l : List Nat}, c ∈ l → (l.map f).find? (fun k => k.cell == c) = some (f c) := by
  intro l
  induction l with
  | nil => exact fun h => absurd h List.not_mem_nil
  | cons x l ih =>
    intro h
    rw [List.map_cons]
    by_cases hx : x = c
    · rw [List.find?_cons_of_pos (by simp [hf, hx]), hx]
    · rw [List.find?_cons_of_neg (by simp [hf, hx]), ih ((List.mem_cons.1 h).resolve_left (Ne.symm hx))]

/-- A channel's part of the whole shadow: its duty while IMM is 0, its dead time. -/
theorem State.partOf_wholeShadow (s t : State) {g : Nat} {c : Cell} (h : s.blockOf c.val = some g) :
    t.partOf (s.wholeShadow g) c.val =
      ⟨c.val, if s.on PW_CHCTL_IMM c.val then none else some (s.rdw .PW_DUTY c.val), true, s.get PW_DT_DT c.val⟩ := by
  have hfind := find_part (fun c => ⟨c, if s.on PW_CHCTL_IMM c then none else some (s.rdw .PW_DUTY c), true, s.get PW_DT_DT c⟩) (fun _ => rfl)
    (State.mem_cellsOf h)
  unfold State.partOf State.wholeShadow State.shadowSet
  dsimp only
  rw [List.map_map]
  exact (congrArg (fun o => o.getD ⟨c.val, none, false, (t.chan c.val).dt⟩) hfind :)

/-- What the whole shadow gives a channel. -/
def State.HasShadow (t s : State) (c : Cell) : Prop :=
  (t.chan c.val).dt = s.get PW_DT_DT c.val ∧ (s.on PW_CHCTL_IMM c.val = false → (t.chan c.val).duty = s.rdw .PW_DUTY c.val)

/-- The whole shadow becomes active in every channel of the group. -/
theorem State.applySet_hasShadow (s : State) {g : Block} {c : Cell} (h : s.blockOf c.val = some g.val) :
    (s.applySet g.val (s.wholeShadow g.val)).HasShadow s c := by
  have hown : ∀ (t : State) old, (t.applyChan g.val old (t.partOf (s.wholeShadow g.val) c.val)).HasShadow s c := fun t old => by
    rw [State.partOf_wholeShadow s t h]
    obtain ⟨hdt, hduty⟩ := t.applyChan_takes g.val old c (if s.on PW_CHCTL_IMM c.val then none else some (s.rdw .PW_DUTY c.val)) (s.get PW_DT_DT c.val)
    exact ⟨hdt, fun himm => hduty _ (by rw [himm]; rfl)⟩
  have hkept : ∀ (t : State) old k, t.HasShadow s c → (t.applyChan g.val old (t.partOf (s.wholeShadow g.val) k)).HasShadow s c := fun t old k ht => by
    by_cases hk : k = c.val
    · exact hk ▸ hown t old
    · unfold State.HasShadow
      rw [State.applyChan_chan_ne _ _ _ (by rw [State.partOf_cell]; exact Ne.symm hk)]
      exact ht
  unfold State.applySet
  dsimp only
  refine State.each_reaches (fun t : State => t.HasShadow s c) (x := c.val)
    (f := fun t k => t.applyChan g.val (s.actPrd g.val) (t.partOf (s.wholeShadow g.val) k))
    (fun t => hown t _) (fun t k => hkept t _ k) _ _ (State.mem_cellsOf ?_)
  rw [(State.updGrp_evolves (.refl _ _) g.val _ (covers_self _)).blockOf (by decide) (by decide),
    (State.put_evolves (.refl _ s) PW_GRPACT_PRD _ g.val 0 (covers_self _)).blockOf (by decide) (by decide), h]

/-! ### EN (R163) -/

section Enable
variable (s : State) (g : Block)

/-- The shadow active, NCOUNT 0, nothing pending in the registers. -/
def State.shadowActive (s : State) (g : Nat) : State :=
  (((s.applySet g (s.wholeShadow g)).clearWritten g).put PW_GRPSTAT_NCOUNT 0 g).put PW_GRPCOMMIT_PENDING 0 g

/-- Where the first valley of a carrier is placed at EN. -/
def State.firstValley (s : State) (g : Nat) : Option Nat :=
  match s.get PW_GRPCTL_SYNCSRC g with
  | 0 => some (s.instant + 64)
  | 1 => s.followStart g
  | _ => none

/-- A free carrier starts in the next tick. -/
theorem State.firstValley_free {s : State} {g : Nat} (h : s.get PW_GRPCTL_SYNCSRC g = 0) : s.firstValley g = some (s.instant + 64) := by
  unfold State.firstValley
  rw [h]
  rfl

/-- A group's unit at EN. -/
def GroupU.enabled (u : GroupU) (start : Option Nat) : GroupU := { u with pend := none, dwell := 0, adjust := 0, missing := 0, startAt := start }

/-- EN, step by step. -/
theorem State.carrierEnable_eq :
    s.carrierEnable g.val = (s.shadowActive g.val).updGrp g.val (fun u => u.enabled ((s.shadowActive g.val).firstValley g.val)) := rfl

/-- The group's unit then. -/
theorem State.carrierEnable_grp :
    (s.carrierEnable g.val).grp g.val = ((s.shadowActive g.val).grp g.val).enabled ((s.shadowActive g.val).firstValley g.val) := by
  rw [State.carrierEnable_eq, State.grp_updGrp, if_pos ⟨rfl, g.isLt⟩]

/-- The set that becomes active, up to the group's registers. -/
theorem State.shadowActive_set :
    Evolves [.fresh, .power, .reg .PW_GRPCOMMIT, .reg .PW_GRPSTAT] (s.applySet g.val (s.wholeShadow g.val)) (s.shadowActive g.val) :=
  State.put_evolves (State.put_evolves (State.clearWritten_evolves (.refl _ _) g.val (by decide +kernel)) PW_GRPSTAT_NCOUNT 0 g.val 0
    (by decide +kernel)) PW_GRPCOMMIT_PENDING 0 g.val 0 (by decide +kernel)

theorem State.shadowActive_changes : Evolves [.fresh, .power, .reg .PW_GRPCOMMIT, .reg .PW_GRPSTAT, .reg .PW_GRPACT, .reg .PW_ACTCMP, .reg .PW_CHSTAT] s
    (s.shadowActive g.val) :=
  ((State.applySet_evolves (.refl _ s) g.val (s.wholeShadow g.val) (covers_self _)).mono (by decide +kernel)).step (s.shadowActive_set g) (by decide +kernel)

/-- The notes of written duties aside, its channels are those of the set. -/
theorem State.shadowActive_hasShadow {c : Cell} (h : s.blockOf c.val = some g.val) : (s.shadowActive g.val).HasShadow s c := by
  have hchan : ∀ t : State, (((t.clearWritten g.val).chan c.val).dt, ((t.clearWritten g.val).chan c.val).duty) = ((t.chan c.val).dt, (t.chan c.val).duty) :=
    fun t => State.each_keeps (fun t => ((t.chan c.val).dt, (t.chan c.val).duty)) _ _ (fun t k => by
      rw [State.chan_updChan]
      split <;> rfl) t
  obtain ⟨hdt, hduty⟩ := s.applySet_hasShadow h
  have hset := hchan (s.applySet g.val (s.wholeShadow g.val))
  rw [Prod.mk.injEq] at hset
  exact ⟨hset.1.trans hdt, fun himm => hset.2.trans (hduty himm)⟩

/-- R163: what EN leaves. -/
theorem State.carrierEnable_shows :
    (s.carrierEnable g.val).rdw .PW_GRPCTL g.val = s.rdw .PW_GRPCTL g.val ∧
      (s.carrierEnable g.val).get PW_GRPSTAT_NCOUNT g.val = 0 ∧
      (s.carrierEnable g.val).on PW_GRPCOMMIT_PENDING g.val = false ∧
      (s.carrierEnable g.val).get PW_GRPACT_PRD g.val = (s.rdw .PW_GRPPRD g.val).toNat % 2 ^ PW_GRPACT_PRD.width ∧
      ((s.carrierEnable g.val).grp g.val).pend = none ∧
      (s.get PW_GRPCTL_SYNCSRC g.val = 0 → ((s.carrierEnable g.val).grp g.val).startAt = some (s.instant + 64)) ∧
      ∀ c : Cell, s.blockOf c.val = some g.val → (s.carrierEnable g.val).HasShadow s c := by
  have hall := s.shadowActive_changes g
  have hunit : Evolves [.power] (s.shadowActive g.val) (s.carrierEnable g.val) := State.updGrp_evolves (.refl _ _) g.val _ (covers_self _)
  refine ⟨?_, ?_, ?_, ?_, ?_, fun h => ?_, fun c hc => ?_⟩
  · rw [hunit.rdw (grpctl_has g) (by decide), hall.rdw (grpctl_has g) (by decide)]
  · rw [hunit.get (f := PW_GRPSTAT_NCOUNT) (grpstat_has g) (by decide), State.shadowActive, State.get_put_of_apart _ _ _ _ (grpstat_has g) (by decide)]
    exact State.get_put _ PW_GRPSTAT_NCOUNT 0 _ _ (grpstat_has g) (by decide)
  · rw [hunit.on (f := PW_GRPCOMMIT_PENDING) (grpcommit_has g) (by decide)]
    exact State.on_put _ PW_GRPCOMMIT_PENDING 0 _ _ (grpcommit_has g) (by decide)
  · rw [hunit.get (f := PW_GRPACT_PRD) (grpact_has g) (by decide), (s.shadowActive_set g).get (f := PW_GRPACT_PRD) (grpact_has g) (by decide),
      State.applySet_prd]
    rfl
  · rw [State.carrierEnable_grp]
    rfl
  · rw [State.carrierEnable_grp, State.firstValley_free ((hall.get (f := PW_GRPCTL_SYNCSRC) (grpctl_has g) (by decide)).trans h),
      hall.instant (by decide)]
    rfl
  · unfold State.HasShadow
    rw [State.carrierEnable_eq, State.chan_updGrp]
    exact s.shadowActive_hasShadow g hc

end Enable

/-! ### A write to GRPCTL (R161, R163, R176) -/

section Write
variable {s : State} {g : Block} {w : Word}

/-- The fields of an admitted write, before its EN. -/
def State.ctlTaken (s : State) (g : Nat) (w : Word) : State :=
  let s0 := (s.regWrite .PW_GRPCTL w g).autocDrop g
  s0.each (s0.cellsOf g) State.showCmp

/-- What follows the word. -/
theorem State.ctlTaken_after : Evolves [.fresh, .power, .reg .PW_GRPCOMMIT, .reg .PW_ACTCMP] (s.regWrite .PW_GRPCTL w g.val) (s.ctlTaken g.val w) :=
  State.each_evolves (State.autocDrop_evolves (.refl _ _) g.val (by decide +kernel)) _ _ (fun _ _ ht => State.showCmp_evolves ht _ (by decide +kernel))

/-- The fields of GRPCTL take what is written. -/
theorem State.ctlTaken_get (f : Fld) (hf : f.reg = .PW_GRPCTL) (hw : f.lo + f.width ≤ 15) : (s.ctlTaken g.val w).get f g.val = f.of w := by
  have hword : (s.regWrite .PW_GRPCTL w g.val).get f g.val = f.of (f.reg.written (s.rdw f.reg g.val) w) := by
    unfold State.get
    rw [hf]
    exact congrArg f.of (State.rdw_regWrite s .PW_GRPCTL w g.val 0 (grpctl_has g))
  have hbits : ∀ k < 15, RegId.PW_GRPCTL.reg.rw.testBit k = true ∧ RegId.PW_GRPCTL.reg.w1c.testBit k = false := by decide
  rw [State.ctlTaken_after.get (hf ▸ grpctl_has g) (by rw [hf]; decide), hword]
  exact Fld.of_written f _ _ (by omega) (fun k hk => by rw [hf]; exact hbits _ (by omega))

/-- EN written 1 where it is 0. -/
theorem State.en_changes (hen : PW_GRPCTL_EN.of w = 1) (hoff : s.on PW_GRPCTL_EN g.val = false) :
    changes (s.rdw .PW_GRPCTL g.val) w (BitVec.ofNat 32 RegId.PW_GRPCTL.reg.rw) = true := by
  rw [← Bool.not_eq_false]
  intro hsame
  have heq : s.get PW_GRPCTL_EN g.val = 1 := (Fld.of_eq_of_unchanged (f := PW_GRPCTL_EN) hsame (by decide)).trans hen
  exact absurd (heq.symm.trans (State.get_of_on hoff)) (by decide)

/-- An admitted write enables the carrier. -/
theorem State.grpctlWrite_enables (hen : PW_GRPCTL_EN.of w = 1) (hoff : s.on PW_GRPCTL_EN g.val = false) (hstop : s.blk g.val = blkStopped)
    (hsrc : PW_GRPCTL_SYNCSRC.of w ≠ 3) (hok : prdOk (s.get PW_GRPPRD_PRD g.val) (PW_GRPCTL_PRE.of w) = true) :
    s.grpctlWrite g.val w = (s.ctlTaken g.val w).carrierEnable g.val := by
  have hwas : PW_GRPCTL_EN.of (s.rdw .PW_GRPCTL g.val) = 0 := State.get_of_on hoff
  unfold State.grpctlWrite
  dsimp only
  rw [State.en_changes hen hoff, hwas, hen, hok, hstop, if_neg (by decide), if_neg (by simp [hsrc]), if_neg (by decide), if_pos (by decide)]
  rfl

/-- A write of a block that is not STOPPED, or of SYNCSRC 0b11, is refused. -/
theorem State.grpctlWrite_denied (hen : PW_GRPCTL_EN.of w = 1) (hoff : s.on PW_GRPCTL_EN g.val = false)
    (hbad : s.blk g.val ≠ blkStopped ∨ PW_GRPCTL_SYNCSRC.of w = 3) : s.grpctlWrite g.val w = s.put PW_GRPCOMMIT_WRITE_DENIED 1 g.val := by
  unfold State.grpctlWrite
  dsimp only
  rw [State.en_changes hen hoff, if_neg (by decide), if_pos (by simpa using hbad)]

/-- One of a shadow that R154 excludes is refused. -/
theorem State.grpctlWrite_unfit (hen : PW_GRPCTL_EN.of w = 1) (hoff : s.on PW_GRPCTL_EN g.val = false) (hstop : s.blk g.val = blkStopped)
    (hsrc : PW_GRPCTL_SYNCSRC.of w ≠ 3) (hbad : prdOk (s.get PW_GRPPRD_PRD g.val) (PW_GRPCTL_PRE.of w) = false) :
    s.grpctlWrite g.val w = s.put PW_GRPCOMMIT_PRD_DENIED 1 g.val := by
  have hwas : PW_GRPCTL_EN.of (s.rdw .PW_GRPCTL g.val) = 0 := State.get_of_on hoff
  unfold State.grpctlWrite
  dsimp only
  rw [State.en_changes hen hoff, hwas, hen, hbad, hstop, if_neg (by decide), if_neg (by simp [hsrc]), if_pos (by decide)]

end Write

section Command
variable (s : State) (m : Master) (g : Block) (v : Word) (hopen : s.busOpen m = true) (hmay : s.mayWriteBlock m g.val = true)

/-- The word of the command: EN 1, the other fields as in `v`. -/
theorem enWord_of (v : Word) : PW_GRPCTL_EN.of (PW_GRPCTL_EN.into v 1) = 1 ∧ PW_GRPCTL_SYNCSRC.of (PW_GRPCTL_EN.into v 1) = PW_GRPCTL_SYNCSRC.of v ∧
    PW_GRPCTL_PRE.of (PW_GRPCTL_EN.into v 1) = PW_GRPCTL_PRE.of v :=
  ⟨Fld.of_into PW_GRPCTL_EN v 1 (by decide), Fld.of_into_ne v 1 (by decide), Fld.of_into_ne v 1 (by decide)⟩

include hopen hmay

/-- The command is a write of EN. -/
theorem exec_carrierEnable : ∃ d, exec (.carrierEnable m g v) s = .next (State.grpctlWrite { s with drift := d } g.val (PW_GRPCTL_EN.into v 1)) := by
  obtain ⟨d, hd⟩ := State.regStore_group s m .PW_GRPCTL (PW_GRPCTL_EN.into v 1) g.val (fun x t => t.grpctlWrite g.val x) hopen hmay (fun _ _ => rfl)
  rw [State.settle_of_no_w1c _ _ _ _ _ rfl] at hd
  exact ⟨d, congrArg Host.Outcome.next hd⟩

/-- R154, R161, R163, R165: EN of a stopped block makes an admissible shadow active, and a free carrier starts in the next tick. -/
theorem carrier_is_enabled (hstop : s.blk g.val = blkStopped) (hsrc : PW_GRPCTL_SYNCSRC.of v ≠ 3) (hoff : s.on PW_GRPCTL_EN g.val = false)
    (hok : prdOk (s.get PW_GRPPRD_PRD g.val) (PW_GRPCTL_PRE.of v) = true) :
    ∃ t, exec (.carrierEnable m g v) s = .next t ∧
      t.on PW_GRPCTL_EN g.val = true ∧
      t.get PW_GRPSTAT_NCOUNT g.val = 0 ∧
      t.on PW_GRPCOMMIT_PENDING g.val = false ∧
      t.get PW_GRPACT_PRD g.val = (s.rdw .PW_GRPPRD g.val).toNat % 2 ^ PW_GRPACT_PRD.width ∧
      (t.grp g.val).pend = none ∧
      (PW_GRPCTL_SYNCSRC.of v = 0 → (t.grp g.val).startAt = some (s.instant + 64)) ∧
      (∀ c : Cell, s.blockOf c.val = some g.val → (t.chan c.val).dt = s.get PW_DT_DT c.val ∧
        (s.on PW_CHCTL_IMM c.val = false → (t.chan c.val).duty = s.rdw .PW_DUTY c.val)) := by
  obtain ⟨d, hexec⟩ := exec_carrierEnable s m g v hopen hmay
  obtain ⟨hen, hsrc', hpre⟩ := enWord_of v
  rw [State.grpctlWrite_enables (s := { s with drift := d }) hen hoff hstop (hsrc' ▸ hsrc) (hpre ▸ hok)] at hexec
  have htaken : Evolves [.fresh, .power, .reg .PW_GRPCOMMIT, .reg .PW_ACTCMP, .reg .PW_GRPCTL] { s with drift := d }
      (State.ctlTaken { s with drift := d } g.val (PW_GRPCTL_EN.into v 1)) :=
    ((State.regWrite_changes _ _ _ _).mono (by decide +kernel)).step State.ctlTaken_after (by decide +kernel)
  have hctl := fun f => State.ctlTaken_get (s := { s with drift := d }) (g := g) (w := PW_GRPCTL_EN.into v 1) f
  obtain ⟨hword, hncount, hpending, hprd, hpend, hstart, hchans⟩ :=
    (State.ctlTaken { s with drift := d } g.val (PW_GRPCTL_EN.into v 1)).carrierEnable_shows g
  rw [htaken.rdw (grpprd_has g) (by decide)] at hprd
  refine ⟨_, hexec, ?_, hncount, hpending, hprd, hpend, fun h => ?_, fun c hc => ?_⟩
  · have hget : ((State.ctlTaken { s with drift := d } g.val (PW_GRPCTL_EN.into v 1)).carrierEnable g.val).get PW_GRPCTL_EN g.val = 1 :=
      (congrArg PW_GRPCTL_EN.of hword).trans ((hctl PW_GRPCTL_EN rfl (by decide)).trans hen)
    rw [State.on, hget]
    rfl
  · rw [hstart ((hctl PW_GRPCTL_SYNCSRC rfl (by decide)).trans (hsrc'.trans h)), htaken.instant (by decide)]
    rfl
  · obtain ⟨hdt, hduty⟩ := hchans c ((htaken.blockOf (by decide) (by decide) c.val).trans hc)
    have hhas : ∀ {r : RegId}, CellReg r 0 → r.has c.val 0 = true := fun hr => hr.has c
    refine ⟨hdt.trans (htaken.get (f := PW_DT_DT) (hhas (by decide)) (by decide)), fun himm => ?_⟩
    exact (hduty ((htaken.on (f := PW_CHCTL_IMM) (hhas (by decide)) (by decide)).trans himm)).trans (htaken.rdw (hhas (by decide)) (by decide))

/-- R161, R176: EN of another block, or with SYNCSRC 0b11, is refused. -/
theorem enable_is_denied (hoff : s.on PW_GRPCTL_EN g.val = false) (hbad : s.blk g.val ≠ blkStopped ∨ PW_GRPCTL_SYNCSRC.of v = 3) :
    ∃ t, exec (.carrierEnable m g v) s = .next t ∧
      t.on PW_GRPCTL_EN g.val = false ∧
      t.get PW_GRPACT_PRD g.val = s.get PW_GRPACT_PRD g.val ∧
      t.on PW_GRPCOMMIT_WRITE_DENIED g.val = true := by
  obtain ⟨d, hexec⟩ := exec_carrierEnable s m g v hopen hmay
  obtain ⟨hen, hsrc, -⟩ := enWord_of v
  rw [State.grpctlWrite_denied (s := { s with drift := d }) hen hoff (hsrc.symm ▸ hbad)] at hexec
  exact ⟨_, hexec, (State.on_put_of_apart _ _ _ _ (grpctl_has g) (by decide)).trans hoff, State.get_put_of_apart _ _ _ _ (grpact_has g) (by decide),
    State.on_put _ PW_GRPCOMMIT_WRITE_DENIED 1 _ _ (grpcommit_has g) (by decide)⟩

/-- R154, R163: EN with another shadow is refused. -/
theorem enable_of_unfit_shadow_is_denied (hoff : s.on PW_GRPCTL_EN g.val = false) (hstop : s.blk g.val = blkStopped)
    (hsrc : PW_GRPCTL_SYNCSRC.of v ≠ 3) (hbad : prdOk (s.get PW_GRPPRD_PRD g.val) (PW_GRPCTL_PRE.of v) = false) :
    ∃ t, exec (.carrierEnable m g v) s = .next t ∧
      t.on PW_GRPCTL_EN g.val = false ∧
      t.get PW_GRPACT_PRD g.val = s.get PW_GRPACT_PRD g.val ∧
      t.on PW_GRPCOMMIT_PRD_DENIED g.val = true := by
  obtain ⟨d, hexec⟩ := exec_carrierEnable s m g v hopen hmay
  obtain ⟨hen, hsrc', hpre⟩ := enWord_of v
  rw [State.grpctlWrite_unfit (s := { s with drift := d }) hen hoff hstop (hsrc' ▸ hsrc) (hpre ▸ hbad)] at hexec
  exact ⟨_, hexec, (State.on_put_of_apart _ _ _ _ (grpctl_has g) (by decide)).trans hoff, State.get_put_of_apart _ _ _ _ (grpact_has g) (by decide),
    State.on_put _ PW_GRPCOMMIT_PRD_DENIED 1 _ _ (grpcommit_has g) (by decide)⟩

/-- R502: EN 1 where it is 1, with no other field changed, does nothing. -/
theorem enable_again (_hon : s.on PW_GRPCTL_EN g.val = true)
    (hsame : changes (s.rdw .PW_GRPCTL g.val) (PW_GRPCTL_EN.into v 1) (BitVec.ofNat 32 RegId.PW_GRPCTL.reg.rw) = false) :
    ∃ t, exec (.carrierEnable m g v) s = .next t ∧
      t.grp g.val = s.grp g.val ∧
      t.get PW_GRPACT_PRD g.val = s.get PW_GRPACT_PRD g.val ∧
      t.power.chans = s.power.chans := by
  obtain ⟨d, hexec⟩ := exec_carrierEnable s m g v hopen hmay
  have hnone : State.grpctlWrite { s with drift := d } g.val (PW_GRPCTL_EN.into v 1) = { s with drift := d } := by
    have hsame' : changes (State.rdw { s with drift := d } .PW_GRPCTL g.val) (PW_GRPCTL_EN.into v 1) (BitVec.ofNat 32 RegId.PW_GRPCTL.reg.rw) = false := hsame
    unfold State.grpctlWrite
    dsimp only
    rw [hsame', if_pos (by decide)]
  rw [hnone] at hexec
  exact ⟨_, hexec, rfl, rfl, rfl⟩

end Command

end Sys2Proof.Machine
end

section
/-! SUPPORT. Writes to DUTY and OVR (R157, R164, R170, R171), and the obligation of the channels' settings. -/

namespace Sys2Proof.Machine

/-! ### DUTY (R157, R164) -/

/-- A field that is its whole register. -/
theorem Fld.of_word (f : Fld) (w : Word) (h : f.lo = 0 ∧ f.width = 32) : f.of w = w.toNat := by
  have hlt := w.isLt
  unfold Fld.of bits
  rw [h.1, h.2, BitVec.ushiftRight_zero, Nat.mod_eq_of_lt hlt]

/-- The low half of a word. -/
theorem toNat_low_half (w : Word) : (w &&& 0xFFFF).toNat = w.toNat % 65536 :=
  (BitVec.toNat_and w 0xFFFF).trans (Nat.and_two_pow_sub_one_eq_mod w.toNat 16)

/-- The channel of a duty that is set: the duty at once with IMM, and the note that it was written. -/
theorem State.setDuty_chan (s : State) (c : Cell) (v : Word) :
    ((s.setDuty c.val v).chan c.val).duty =
        (if s.on PW_CHCTL_IMM c.val then if s.on PW_CHCTL_FORM c.val then v else v &&& 0xFFFF else (s.chan c.val).duty) ∧
      ((s.setDuty c.val v).chan c.val).written = true := by
  unfold State.setDuty
  dsimp only
  rw [State.showCmp_chan, State.chan_updChan, if_pos ⟨rfl, c.isLt⟩]
  exact ⟨rfl, rfl⟩

/-- R157, R164: DUTY takes the word in the channel's form, at once with IMM, else for the shadow alone. -/
theorem duty_is_written (s : State) (m : Master) (c : Cell) (v : Word) (hopen : s.busOpen m = true) (hmay : s.mayWriteCell m c.val = true) :
    ∃ t, exec (.dutyWrite m c v) s = .next t ∧
      (t.get PW_DUTY_DUTY c.val = if s.on PW_CHCTL_FORM c.val then v.toNat else v.toNat % 65536) ∧
      (s.on PW_CHCTL_IMM c.val = true → (t.chan c.val).duty = if s.on PW_CHCTL_FORM c.val then v else v &&& 0xFFFF) ∧
      (s.on PW_CHCTL_IMM c.val = false → (t.chan c.val).duty = (s.chan c.val).duty) ∧
      (t.chan c.val).written = true := by
  obtain ⟨d, hd⟩ := State.regStore_cell s m .PW_DUTY v c.val c.val (fun x t => t.setDuty c.val x) hopen hmay (fun _ _ => rfl)
  rw [State.settle_of_no_w1c _ _ _ _ _ rfl] at hd
  obtain ⟨hduty, hwritten⟩ := State.setDuty_chan { s with drift := d } c v
  refine ⟨_, congrArg Host.Outcome.next hd, ?_, fun himm => hduty.trans (if_pos himm), fun himm => hduty.trans (if_neg ?_), hwritten⟩
  · have hword : (State.setDuty { s with drift := d } c.val v).rdw .PW_DUTY c.val = if s.on PW_CHCTL_FORM c.val = true then v else v &&& 0xFFFF :=
      State.setDuty_duty _ c v
    have hget : (State.setDuty { s with drift := d } c.val v).get PW_DUTY_DUTY c.val = _ := congrArg PW_DUTY_DUTY.of hword
    rw [hget, Fld.of_word PW_DUTY_DUTY _ (by decide)]
    split
    · rfl
    · exact toNat_low_half v
  · exact Bool.eq_false_iff.1 himm

/-! ### The override in force (R170) -/

/-- A force-off of `new` acts on the override in force. -/
def forceOff (f : Fld) (new w : Word) : Word := if f.of new = 1 then f.into w 1 else w

/-- The override in force once the force-offs of `new` act. -/
def offForces (new act : Word) : Word := forceOff PW_OVR_FRCL new (forceOff PW_OVR_FRCH new act)

/-- The force of an output. -/
def frc (hi : Bool) : Fld := if hi then PW_OVR_FRCH else PW_OVR_FRCL

/-- A force-off is in force. -/
theorem frc_offForces {new : Word} (act : Word) {hi : Bool} (h : (frc hi).of new = 1) : (frc hi).of (offForces new act) = 1 := by
  have hinto : ∀ (f : Fld) (w : Word), f.of new = 1 → f.lo + f.width ≤ 32 ∧ 1 < 2 ^ f.width → f.of (forceOff f new w) = 1 := fun f w hf hw => by
    rw [forceOff, if_pos hf, Fld.of_into f w 1 hw.1, Nat.mod_eq_of_lt hw.2]
  unfold offForces
  cases hi with
  | true =>
    have hout : ∀ w, PW_OVR_FRCH.of (forceOff PW_OVR_FRCL new w) = PW_OVR_FRCH.of w := fun w => by
      unfold forceOff
      split
      · exact Fld.of_into_ne w 1 (by decide)
      · rfl
    exact (hout _).trans (hinto PW_OVR_FRCH act h (by decide))
  | false => exact hinto PW_OVR_FRCL _ h (by decide)

/-- Without one the override stays. -/
theorem offForces_none {new : Word} (act : Word) (hh : PW_OVR_FRCH.of new ≠ 1) (hl : PW_OVR_FRCL.of new ≠ 1) : offForces new act = act := by
  rw [offForces, forceOff, forceOff, if_neg hl, if_neg hh]

/-- An output that is forced off is commanded off. -/
theorem ovrCommands_forced {ovr : Word} {hi : Bool} (h : (frc hi).of ovr = 1) (m : Bool) : sideOf (ovrCommands ovr m) hi = false := by
  cases hi <;> exact if_pos h

/-! ### A write to OVR (R170, R171) -/

section Override
variable {s : State} {c : Cell} {v : Word}

theorem ovr_has (c : Cell) : RegId.PW_OVR.has c.val 0 = true := (by decide : CellReg .PW_OVR 0).has c

/-- The word stored, and the change that waits for the peak. -/
def State.ovrStored (s : State) (c : Nat) (v act : Word) : State :=
  (s.regWrite .PW_OVR v c).updChan c (fun u => { u with
    ovrWait := if act = (s.regWrite .PW_OVR v c).rdw .PW_OVR c then none else some ((s.regWrite .PW_OVR v c).rdw .PW_OVR c) })

/-- The force-offs act in the next tick. -/
def State.ovrActs (s : State) (c : Nat) (act : Word) : State := (s.advance 1).updChan c (fun u => { u with ovr := act })

/-- An override that does not shoot, step by step. -/
theorem State.ovrWrite_eq (h : shoots v = false) : s.ovrWrite c.val v =
    (let act := offForces ((s.regWrite .PW_OVR v c.val).rdw .PW_OVR c.val) (s.chan c.val).ovr
     if act = (s.chan c.val).ovr then s.ovrStored c.val v act
     else ((s.ovrStored c.val v act).ovrActs c.val act).emit c.val ((s.ovrStored c.val v act).ovrActs c.val act).instant) := by
  unfold State.ovrWrite
  rw [if_neg (by rw [h]; exact Bool.false_ne_true)]
  rfl

/-- The word stored. -/
theorem State.regWrite_ovr : (s.regWrite .PW_OVR v c.val).rdw .PW_OVR c.val = RegId.PW_OVR.written (s.rdw .PW_OVR c.val) v :=
  State.rdw_regWrite s .PW_OVR v c.val 0 (ovr_has c)

/-- Its forces are those written. -/
theorem frc_written (hi : Bool) (old v : Word) : (frc hi).of (RegId.PW_OVR.written old v) = (frc hi).of v := by
  cases hi
  · exact Fld.of_written PW_OVR_FRCL old v (by decide) (by decide)
  · exact Fld.of_written PW_OVR_FRCH old v (by decide) (by decide)

/-- What the store leaves: the word, and in the channel the change that waits. -/
theorem State.ovrStored_shows (act : Word) :
    (s.ovrStored c.val v act).rdw .PW_OVR c.val = RegId.PW_OVR.written (s.rdw .PW_OVR c.val) v ∧
      ((s.ovrStored c.val v act).chan c.val).ovr = (s.chan c.val).ovr ∧
      ((s.ovrStored c.val v act).chan c.val).ovrWait =
        (if act = RegId.PW_OVR.written (s.rdw .PW_OVR c.val) v then none else some (RegId.PW_OVR.written (s.rdw .PW_OVR c.val) v)) ∧
      (s.ovrStored c.val v act).now = s.now := by
  have hunit : Evolves [.power] (s.regWrite .PW_OVR v c.val) (s.ovrStored c.val v act) := State.updChan_evolves (.refl _ _) c.val _ (covers_self _)
  have hchan : (s.ovrStored c.val v act).chan c.val = { s.chan c.val with
      ovrWait := if act = (s.regWrite .PW_OVR v c.val).rdw .PW_OVR c.val then none else some ((s.regWrite .PW_OVR v c.val).rdw .PW_OVR c.val) } := by
    rw [State.ovrStored, State.chan_updChan, if_pos ⟨rfl, c.isLt⟩]
    rfl
  refine ⟨(hunit.rdw (ovr_has c) (by decide)).trans State.regWrite_ovr, by rw [hchan], ?_, hunit.kept .now (by decide)⟩
  rw [hchan, State.regWrite_ovr]

/-- What the next tick's emission leaves: the override in force, the change that waits, and the commands. -/
theorem State.ovrActs_shows (act : Word) (i : Nat) :
    ((s.ovrActs c.val act).emit c.val i).rdw .PW_OVR c.val = s.rdw .PW_OVR c.val ∧
      (((s.ovrActs c.val act).emit c.val i).chan c.val).ovr = act ∧
      (((s.ovrActs c.val act).emit c.val i).chan c.val).ovrWait = (s.chan c.val).ovrWait ∧
      ((s.ovrActs c.val act).emit c.val i).now = s.now + 1 ∧
      ∀ hi, (frc hi).of act = 1 → (((s.ovrActs c.val act).emit c.val i).outU c.val hi).cmd = false := by
  have htime : Evolves [.fresh, .now, .head, .plan, .drift, .reg .HF_TURN, .reg .SP_REMAIN0] s (s.advance 1) :=
    State.advance_evolves (.refl _ s) 1 (covers_self _)
  have hunit : Evolves [.power] (s.advance 1) (s.ovrActs c.val act) := State.updChan_evolves (.refl _ _) c.val _ (covers_self _)
  have hemit : Evolves gateParts (s.ovrActs c.val act) ((s.ovrActs c.val act).emit c.val i) := State.emit_evolves (.refl _ _) c.val i (covers_self _)
  have hchan : (s.ovrActs c.val act).chan c.val = { s.chan c.val with ovr := act } := by
    have hpower : (s.advance 1).power = s.power := htime.kept .power (by decide)
    rw [State.ovrActs, State.chan_updChan, if_pos ⟨rfl, c.isLt⟩, State.chan, hpower]
    rfl
  have hcore := State.core_of_stage (State.emit_stage (s.ovrActs c.val act) c.val i) c.val
  rw [hchan] at hcore
  refine ⟨?_, (congrArg ChanU.ovr hcore :), (congrArg ChanU.ovrWait hcore :), ?_, fun hi hforce => ?_⟩
  · rw [hemit.rdw (ovr_has c) (by decide), hunit.rdw (ovr_has c) (by decide), htime.rdw (ovr_has c) (by decide)]
  · exact (hemit.kept .now (by decide)).trans ((hunit.kept .now (by decide)).trans (s.advance_now 1))
  · rw [State.emit_cmd, State.commanded]
    split
    · cases hi <;> rfl
    · rw [hchan]
      exact ovrCommands_forced hforce _

/-- R170: what a write that does not shoot leaves. Its force-offs act in the next tick, which the write takes with it. -/
theorem State.ovrWrite_shows (h : shoots v = false) :
    (s.ovrWrite c.val v).rdw .PW_OVR c.val = RegId.PW_OVR.written (s.rdw .PW_OVR c.val) v ∧
      (∀ hi, (frc hi).of v = 1 → (frc hi).of (s.chan c.val).ovr ≠ 1 →
        ((s.ovrWrite c.val v).outU c.val hi).cmd = false ∧ (s.ovrWrite c.val v).now = s.now + 1) ∧
      (∀ hi, (frc hi).of v = 1 → (frc hi).of ((s.ovrWrite c.val v).chan c.val).ovr = 1) ∧
      (PW_OVR_FRCH.of v ≠ 1 → PW_OVR_FRCL.of v ≠ 1 → ((s.ovrWrite c.val v).chan c.val).ovr = (s.chan c.val).ovr) ∧
      ((s.ovrWrite c.val v).chan c.val).ovrWait =
        if ((s.ovrWrite c.val v).chan c.val).ovr = (s.ovrWrite c.val v).rdw .PW_OVR c.val then none
        else some ((s.ovrWrite c.val v).rdw .PW_OVR c.val) := by
  rw [State.ovrWrite_eq h, State.regWrite_ovr]
  dsimp only
  generalize hact : offForces (RegId.PW_OVR.written (s.rdw .PW_OVR c.val) v) (s.chan c.val).ovr = act
  have hforced : ∀ hi, (frc hi).of v = 1 → (frc hi).of act = 1 := fun hi hv => hact ▸ frc_offForces _ ((frc_written hi _ v).trans hv)
  have hstays : PW_OVR_FRCH.of v ≠ 1 → PW_OVR_FRCL.of v ≠ 1 → act = (s.chan c.val).ovr := fun hh hl =>
    hact ▸ offForces_none _ (fun e => hh ((frc_written true _ v).symm.trans e)) (fun e => hl ((frc_written false _ v).symm.trans e))
  obtain ⟨hword, hovr, hwait, hnow⟩ := State.ovrStored_shows (s := s) (c := c) (v := v) act
  split
  next heq =>
    generalize s.ovrStored c.val v act = t at hword hovr hwait ⊢
    refine ⟨hword, fun hi hv hne => absurd (heq ▸ hforced hi hv) hne, fun hi hv => ?_, fun _ _ => hovr, ?_⟩
    · rw [hovr, ← heq]
      exact hforced hi hv
    · rw [hwait, hovr, hword, heq]
  next hne =>
    obtain ⟨hword', hovr', hwait', hnow', hoff⟩ := State.ovrActs_shows (s := s.ovrStored c.val v act) (c := c) act
      ((s.ovrStored c.val v act).ovrActs c.val act).instant
    rw [hword] at hword'
    rw [hwait] at hwait'
    rw [hnow] at hnow'
    generalize ((s.ovrStored c.val v act).ovrActs c.val act).emit c.val _ = t at hword' hovr' hwait' hnow' hoff ⊢
    refine ⟨hword', fun hi hv _ => ⟨hoff hi (hforced hi hv), hnow'⟩, fun hi hv => ?_, fun hh hl => absurd (hstays hh hl) hne, ?_⟩
    · rw [hovr']
      exact hforced hi hv
    · rw [hwait', hovr', hword']

end Override

section Command
variable (s : State) (m : Master) (c : Cell) (v : Word) (hopen : s.busOpen m = true) (hmay : s.mayWriteCell m c.val = true)
include hopen hmay

/-- The command is the cell's write. -/
theorem exec_ovrWrite : ∃ d, exec (.ovrWrite m c v) s = .next (State.ovrWrite { s with drift := d } c.val v) := by
  obtain ⟨d, hd⟩ := State.regStore_cell s m .PW_OVR v c.val c.val (fun x t => t.ovrWrite c.val x) hopen hmay (fun _ _ => rfl)
  rw [State.settle_of_no_w1c _ _ _ _ _ rfl] at hd
  exact ⟨d, congrArg Host.Outcome.next hd⟩

/-- R171: an override that would shoot through is refused. -/
theorem shooting_override_is_refused (h : shoots v = true) :
    ∃ t, exec (.ovrWrite m c v) s = .next t ∧
      t.on PW_CHSTAT_SHOOT_ATTEMPT c.val = true ∧
      t.rdw .PW_OVR c.val = s.rdw .PW_OVR c.val ∧
      (t.chan c.val).ovr = (s.chan c.val).ovr := by
  obtain ⟨d, hexec⟩ := exec_ovrWrite s m c v hopen hmay
  have hrefused : State.ovrWrite { s with drift := d } c.val v = State.put { s with drift := d } PW_CHSTAT_SHOOT_ATTEMPT 1 c.val := if_pos h
  rw [hrefused] at hexec
  exact ⟨_, hexec, State.on_put _ PW_CHSTAT_SHOOT_ATTEMPT 1 _ _ ((by decide : CellReg .PW_CHSTAT 0).has c) (by decide),
    State.rdw_put_ne _ _ _ _ _ _ _ _ (ovr_has c) (.inl (by decide)), rfl⟩

/-- R170: another is stored; its force-offs act in the next tick, which the write takes with it, and what else it changes waits for the peak. -/
theorem override_is_stored (h : shoots v = false) :
    ∃ t, exec (.ovrWrite m c v) s = .next t ∧
      t.rdw .PW_OVR c.val = RegId.PW_OVR.written (s.rdw .PW_OVR c.val) v ∧
      (PW_OVR_FRCH.of v = 1 → PW_OVR_FRCH.of (s.chan c.val).ovr ≠ 1 → (t.outU c.val true).cmd = false ∧ t.now = s.now + 1) ∧
      (PW_OVR_FRCL.of v = 1 → PW_OVR_FRCL.of (s.chan c.val).ovr ≠ 1 → (t.outU c.val false).cmd = false ∧ t.now = s.now + 1) ∧
      (PW_OVR_FRCH.of v = 1 → PW_OVR_FRCH.of (t.chan c.val).ovr = 1) ∧
      (PW_OVR_FRCL.of v = 1 → PW_OVR_FRCL.of (t.chan c.val).ovr = 1) ∧
      (PW_OVR_FRCH.of v ≠ 1 → PW_OVR_FRCL.of v ≠ 1 → (t.chan c.val).ovr = (s.chan c.val).ovr) ∧
      ((t.chan c.val).ovrWait = if (t.chan c.val).ovr = t.rdw .PW_OVR c.val then none else some (t.rdw .PW_OVR c.val)) := by
  obtain ⟨d, hexec⟩ := exec_ovrWrite s m c v hopen hmay
  obtain ⟨hword, hoff, hforced, hstays, hwait⟩ := State.ovrWrite_shows (s := { s with drift := d }) (c := c) h
  exact ⟨_, hexec, hword, hoff true, hoff false, hforced true, hforced false, hstays, hwait⟩

end Command

/-- Settles O34, clause by clause. -/
theorem channelSettingsAreWritten : Obligations.ChannelSettingsAreWritten :=
  ⟨shadow_is_committed, shadow_is_refused, commit_with_autoc, carrier_is_enabled, enable_is_denied, enable_of_unfit_shadow_is_denied, enable_again,
    duty_is_written, shooting_override_is_refused, override_is_stored⟩

end Sys2Proof.Machine
end

section
/-! SUPPORT. A cell in the lists of two blocks (R9, R182, R187): its latch holds the turn-off of a block that is not its own. -/

namespace Sys2Proof.Machine

/-- Refutes O35, in its clause of the turn-off that ends: the clause asks the other cells whose block is b to hold no latch, but the turn-off follows the
latches of every cell in b's list (R182), and no hypothesis says that a cell is in one list alone (R9). Cells 0 and 1 are in the list of block 1, cell 1
in that of block 0 too, so that block 0 is its block. Both cells hold DS_LATCH. CLR clears that of cell 0; that of cell 1 stays, and TURNOFF of block 1
with it. -/
theorem not_cagePortsLatchAndSequence : ¬ Obligations.CagePortsLatchAndSequence := by
  rintro ⟨-, -, -, -, -, -, -, -, -, -, -, -, hends, -⟩
  let s : State :=
    ((((State.reset.wrw .BLK_BLKCELLS0 2 0).wrw .BLK_BLKCELLS0 3 1).put CG_PSTAT_DS_LATCH 1 0).put CG_PSTAT_DS_LATCH 1 1).put CG_BSTAT_TURNOFF 1 1
  have halone : ∀ k : Cell, s.blockOf k.val = some 1 → k = 0 := by decide +kernel
  obtain ⟨t, hexec, hoff, -⟩ := hends s (.pair 0) 0 1 0 (by decide +kernel) (by decide +kernel) (by decide +kernel) (by decide +kernel)
    (by decide +kernel) (by decide +kernel) (by decide +kernel) (by decide +kernel) (by decide +kernel)
    (fun k hk hne => absurd (halone k hk) hne) ⟨0, by decide +kernel⟩
  have hon : t.on CG_BSTAT_TURNOFF 1 = true := by
    obtain rfl := Host.Outcome.next.inj hexec
    decide +kernel
  exact absurd (hon.symm.trans hoff) (by decide)

end Sys2Proof.Machine
end

section
/-! SUPPORT. One write of GO and STOP (R191, R192): the model enters RUN, which gives RVAL its first value, and returns to IDLE in the same tick. -/

namespace Sys2Proof.Machine

/-- Refutes O36, in its clause of STOP: the clause keeps RVAL, but leaves the GO of the written word open, and the model takes GO before STOP. Generator 0
is in IDLE and names cell 0, which is bound to block 0; its RSTART is 1, its RVAL 0. The word written, with CELL 0, sets EN, GO and STOP: the entry to RUN
gives RVAL the start value 1, and STOP returns to IDLE and leaves RVAL there. -/
theorem not_rampsRun : ¬ Obligations.RampsRun := by
  rintro ⟨-, -, hstop, -⟩
  let s : State := ((State.reset.wrw .BLK_BLKCELLS0 1 0).put RG_RCTL_CELL 0 0).wrw .RG_RSTART 1 0
  let v : Word := RG_RCTL_EN.into (RG_RCTL_GO.into 0 1) 1
  obtain ⟨t, hexec, hstays, -⟩ := hstop s (.pair 0) 0 v (by decide +kernel) (by decide +kernel) (by decide +kernel)
  have hbefore : s.rdw .RG_RVAL 0 = 0 := by decide +kernel
  have hafter : t.rdw .RG_RVAL 0 = 1 := by
    obtain rfl := Host.Outcome.next.inj hexec
    decide +kernel
  exact absurd (hafter.symm.trans (hstays.trans hbefore)) (by decide)

end Sys2Proof.Machine
end
section
/-! SUPPORT. An accepted envelope at the next frame boundary (R369): what applies, what is answered, and what a late check that fails leaves. -/

namespace Sys2Proof.Machine

/-! ### Repetitions and whole words -/

/-- What every step of a repetition over its own entries leaves alone, the repetition does. -/
theorem State.each_keeps_of_mem {α β : Type} (g : State → β) (l : List α) (f : State → α → State) (hf : ∀ t, ∀ x ∈ l, g (f t x) = g t) (s : State) :
    g (s.each l f) = g s := by
  unfold State.each
  induction l generalizing s with
  | nil => rfl
  | cons x l ih =>
    exact (ih (fun t y hy => hf t y (List.mem_cons_of_mem _ hy)) (f s x)).trans (hf s x List.mem_cons_self)

/-- A repetition ends with the step of its last entry. -/
theorem State.each_last {α : Type} {l : List α} {x : α} (h : x ∈ l.getLast?) (f : State → α → State) (s : State) : ∃ t, s.each l f = f t x := by
  obtain ⟨init, rfl⟩ := List.getLast?_eq_some_iff.1 (Option.mem_def.1 h)
  exact ⟨s.each init f, by simp [State.each]⟩

/-- A register of at least `n` copies, numbered from 0, has those below `n`. -/
theorem RegId.has_below {r : RegId} {n k : Nat} (h : n ≤ r.reg.n1 ∧ r.reg.f1 = 0 ∧ 0 < r.reg.n2) (hk : k < n) : r.has k 0 = true :=
  RegId.has_of_lt (lt_of_lt_of_le hk h.1) h.2.1 h.2.2

/-- A number stored in a field that is its whole register. -/
theorem State.rdw_put_word (s : State) (f : Fld) (n i j : Nat) (h : f.reg.has i j = true) (hf : f.lo = 0 ∧ f.width = 32) :
    (s.put f n i j).rdw f.reg i j = BitVec.ofNat 32 n := by
  have hinto : f.into (s.rdw f.reg i j) n = f.into (s.rdw f.reg i j) (BitVec.ofNat 32 n).toNat := by
    unfold Fld.into setBits
    rw [BitVec.ofNat_toNat, BitVec.setWidth_eq]
  rw [State.rdw_put, State.rdw_wrw _ _ _ _ _ h, hinto, Fld.into_word _ _ _ hf]

/-! ### The boundary -/

/-- A late check looks at no accepted envelope but its own. -/
theorem State.checksLate_dropAccepted (s : State) (l : List (Nat × Envelope)) (e : Envelope) :
    (s.updBank (fun u => { u with accepted := l })).checksLate e = s.checksLate e := rfl

/-- No item of a READ shows the accepted envelopes. -/
theorem State.readData_dropAccepted (s : State) (l : List (Nat × Envelope)) (e : Envelope) :
    (s.updBank (fun u => { u with accepted := l })).readData e = s.readData e := rfl

/-- The state at the next frame boundary, where the oldest accepted envelope has left `l`. -/
def State.atBoundary (s : State) (l : List (Nat × Envelope)) : State := s.toNextBoundary.updBank (fun u => { u with accepted := l })

/-- What the way to the boundary changes. -/
def boundaryParts : List Part := [.fresh, .now, .head, .plan, .drift, .bank, .reg .HF_TURN, .reg .SP_REMAIN0]

theorem State.atBoundary_evolves (s : State) (l : List (Nat × Envelope)) : Evolves boundaryParts s (s.atBoundary l) :=
  dropAccepted_evolves (State.toNextBoundary_evolves (.refl _ s) (by decide)) l (by decide)

theorem State.atBoundary_now (s : State) (l : List (Nat × Envelope)) : (s.atBoundary l).now = s.now + s.boundaryIn := by
  have hnow : s.toNextBoundary.now = max s.now (s.now + s.boundaryIn) := by
    unfold State.toNextBoundary
    exact s.advanceTo_now _
  unfold State.atBoundary
  rw [State.updBank_now, hnow, Nat.max_eq_right (Nat.le_add_right _ _)]

theorem State.atBoundary_bank (s : State) (l : List (Nat × Envelope)) : (s.atBoundary l).bank = { s.bank with accepted := l } := by
  have hbank : s.toNextBoundary.bank = s.bank := (State.toNextBoundary_evolves (.refl _ s) (covers_self _)).kept .bank (by decide)
  unfold State.atBoundary
  rw [State.updBank_bank, hbank]

theorem State.atBoundary_checksLate (s : State) (l : List (Nat × Envelope)) (e : Envelope) :
    (s.atBoundary l).checksLate e = s.toNextBoundary.checksLate e := by
  unfold State.atBoundary
  exact State.checksLate_dropAccepted _ l e

theorem State.atBoundary_readData (s : State) (l : List (Nat × Envelope)) (e : Envelope) :
    (s.atBoundary l).readData e = s.toNextBoundary.readData e := by
  unfold State.atBoundary
  exact State.readData_dropAccepted _ l e

/-! ### Replies -/

/-- The reply `r` among those that wait, in order of release. -/
def repliesWith (l : List ReplyU) (r : ReplyU) : List ReplyU :=
  l.filter (fun q => decide (q.due ≤ r.due)) ++ r :: l.filter (fun q => decide (r.due < q.due))

/-- An answer changes the replies alone. -/
theorem State.answer_bank (s : State) (b : Nat) (e : Envelope) (reason : Nat) (data : List Byte) (himg : e.cls ≠ xImage) :
    (s.answer b e reason data).bank = { s.bank with replies := repliesWith s.bank.replies ⟨b, reason, data, e, s.now + replyTicks⟩ } := by
  have hat : s.answerAt e = s.now + replyTicks := by
    unfold State.answerAt
    rw [if_neg himg, Nat.add_zero]
  unfold State.answer
  rw [State.updBank_bank, hat]
  rfl

/-- A raise leaves the Banksman. -/
theorem State.raise_bank (s : State) (src : Nat) : (s.raise src).bank = s.bank :=
  (State.raise_evolves (.refl _ s) src (covers_self _)).kept .bank (by decide)

/-- A raise takes no time. -/
theorem State.raise_now (s : State) (src : Nat) : (s.raise src).now = s.now :=
  (State.raise_evolves (.refl _ s) src (covers_self _)).kept .now (by decide)

/-! ### What a refusal leaves (R369) -/

section Refusal
variable (s : State) (b : Nat) (e : Envelope) (c : Nat)

theorem State.refuse_now : (s.refuse b e c).now = s.now := (s.bumpSat EX_EXCNT_REFUSED).raise_now 978

/-- The reply with the check's code. -/
theorem State.refuse_bank {e : Envelope} (himg : e.cls ≠ xImage) :
    (s.refuse b e c).bank = { s.bank with replies := repliesWith s.bank.replies ⟨b, c, [], e, s.now + replyTicks⟩ } := by
  unfold State.refuse
  rw [State.answer_bank _ _ _ _ _ himg, State.raise_bank, State.raise_now]
  rfl

/-- The count of refusals. -/
theorem State.refuse_refused : (s.refuse b e c).get EX_EXCNT_REFUSED = min (s.get EX_EXCNT_REFUSED + 1) (2 ^ EX_EXCNT_REFUSED.width - 1) := by
  have hraise : (s.refuse b e c).get EX_EXCNT_REFUSED = (s.bumpSat EX_EXCNT_REFUSED).get EX_EXCNT_REFUSED :=
    (State.raise_evolves (.refl _ (s.bumpSat EX_EXCNT_REFUSED)) 978 (covers_self _)).get (f := EX_EXCNT_REFUSED) (by decide) (by decide)
  have hlt : min (s.get EX_EXCNT_REFUSED + 1) (2 ^ EX_EXCNT_REFUSED.width - 1) < 2 ^ EX_EXCNT_REFUSED.width :=
    lt_of_le_of_lt (Nat.min_le_right _ _) (by decide)
  rw [hraise, State.bumpSat, State.get_put _ _ _ _ _ (by decide) (by decide), Nat.mod_eq_of_lt hlt]

/-- Source 978. -/
theorem State.refuse_raised (h : s.routed 978 = true) : (s.refuse b e c).raised 978 = true :=
  State.raise_raised (s.bumpSat EX_EXCNT_REFUSED) (by decide)
    (((State.bumpSat_evolves (.refl _ s) EX_EXCNT_REFUSED 0 0 1 (covers_self _)).routed (by decide) (by decide)).trans h)

end Refusal

/-! ### An envelope of another class -/

section Class
variable {s : State} {b c cls : Nat} {e : Envelope} {l : List (Nat × Envelope)}

/-- A class's command does nothing where the oldest accepted envelope is of another class, or there is none. -/
theorem State.applyClass_of_other (h : ∀ p ∈ s.bank.accepted.head?, p.2.cls ≠ cls) : s.applyClass cls = s := by
  unfold State.applyClass
  split
  · next b e rest hacc =>
    have hother : e.cls ≠ cls := h (b, e) (by rw [hacc]; rfl)
    rw [if_neg (fun hc => hother hc.1)]
  · rfl

variable (hacc : s.bank.accepted = (b, e) :: l) (hcls : e.cls = cls) (hplan : s.plan.await = none ∨ s.plan.awaitFrame.isSome = true)
include hacc hcls hplan

/-- The oldest accepted envelope is applied at the next boundary. -/
theorem State.applyClass_eq : s.applyClass cls = (s.atBoundary l).applyEnvelope b e := by
  unfold State.applyClass
  rw [hacc]
  exact if_pos ⟨hcls, by simpa using hplan⟩

variable (himg : cls ≠ xImage)
include himg

/-! ### A late check that fails -/

/-- What a late check that fails leaves (R369): the reply with its code, the count of refusals, source 978. -/
theorem State.applyClass_refuses (hlate : s.toNextBoundary.checksLate e = c) (hc : c ≠ exvAccepted) :
    s.applyClass cls = (s.atBoundary l).refuse b e c ∧
      (s.applyClass cls).bank = { s.bank with accepted := l, replies := repliesWith s.bank.replies ⟨b, c, [], e, s.now + s.boundaryIn + replyTicks⟩ } ∧
      (s.applyClass cls).now = s.now + s.boundaryIn ∧
      (s.applyClass cls).get EX_EXCNT_REFUSED = min (s.get EX_EXCNT_REFUSED + 1) (2 ^ EX_EXCNT_REFUSED.width - 1) ∧
      (s.routed 978 = true → (s.applyClass cls).raised 978 = true) := by
  have heq : s.applyClass cls = (s.atBoundary l).refuse b e c := by
    rw [State.applyClass_eq hacc hcls hplan, State.applyEnvelope]
    dsimp only
    rw [State.atBoundary_checksLate, hlate, if_pos hc]
  have hbefore := s.atBoundary_evolves l
  rw [heq, State.refuse_bank _ _ _ (hcls ▸ himg), State.refuse_now, State.refuse_refused, s.atBoundary_bank, s.atBoundary_now,
    hbefore.get (f := EX_EXCNT_REFUSED) (by decide) (by decide)]
  exact ⟨rfl, rfl, rfl, rfl, fun hroute => State.refuse_raised _ b e c ((hbefore.routed (by decide) (by decide)).trans hroute)⟩

/-! ### An envelope that applies -/

/-- The state after an application whose effect leaves `u`: source 977 and the reply EXV_APPLIED. -/
def State.applied (u : State) (b : Nat) (e : Envelope) (data : List Byte) : State := (u.raise 977).answer b e exvApplied data

omit hacc hcls hplan himg in
theorem State.applied_evolves (u : State) (b : Nat) (e : Envelope) (data : List Byte) : Evolves (.bank :: raiseParts) u (u.applied b e data) :=
  State.answer_evolves (State.raise_evolves (.refl _ u) 977 (by decide)) _ _ _ _ (by decide)

/-- An envelope that passes the late checks has its class's effect (R369). -/
theorem State.applyClass_applies (hflash : flashClass cls = false) (hlate : s.toNextBoundary.checksLate e = exvAccepted) {u : State}
    {data : List Byte} (heff : (s.atBoundary l).effect e = (u, data)) : s.applyClass cls = u.applied b e data := by
  rw [State.applyClass_eq hacc hcls hplan, State.applyEnvelope]
  dsimp only
  rw [State.atBoundary_checksLate, hlate, if_neg (not_not_intro rfl), if_neg (hcls ▸ himg), hcls, hflash, if_neg Bool.false_ne_true, heff]
  rfl

end Class

/-- What every application leaves whose effect, from the boundary on, changes the parts `A` alone and no accepted envelope or reply (R369). -/
theorem Evolves.applied {A : List Part} {s u : State} {l : List (Nat × Envelope)} (h : Evolves A (s.atBoundary l) u) (hnow : Part.now ∉ A)
    (hsrc : Part.reg .IC_SRCCFG ∉ A) (hacc : u.bank.accepted = l) (hrep : u.bank.replies = s.bank.replies) (b : Nat) {e : Envelope}
    (himg : e.cls ≠ xImage) (data : List Byte) :
    (u.applied b e data).bank.accepted = l ∧ (u.applied b e data).now = s.now + s.boundaryIn ∧
      (u.applied b e data).bank.replies = repliesWith s.bank.replies ⟨b, exvApplied, data, e, s.now + s.boundaryIn + replyTicks⟩ ∧
      (s.routed 977 = true → (u.applied b e data).raised 977 = true) := by
  have hu : u.now = s.now + s.boundaryIn := Eq.trans (h.kept .now hnow) (s.atBoundary_now l)
  have hbank := State.answer_bank (u.raise 977) b e exvApplied data himg
  rw [State.raise_bank, State.raise_now, hu, hrep] at hbank
  refine ⟨?_, (u.raise_now 977).trans hu, congrArg BankU.replies hbank, fun hroute => ?_⟩
  · exact (congrArg BankU.accepted hbank).trans hacc
  · exact State.raise_raised u (by decide)
      ((h.routed hsrc (by decide)).trans (((s.atBoundary_evolves l).routed (by decide) (by decide)).trans hroute))

end Sys2Proof.Machine
end

section
/-! SUPPORT. What the classes that settle values, the Assay and lists change (R258, R265, R343, R344, R360, R370, R411), and their obligation. -/

namespace Sys2Proof.Machine

/-! ### The effect of each class -/

section Effect
variable (u : State) {e : Envelope}

theorem State.effect_read (h : e.cls = xRead) : u.effect e = (u, u.readData e) := by
  unfold State.effect
  rw [h]
  rfl

theorem State.effect_set (h : e.cls = xSet) : u.effect e = ((u.each (e.vals 0x0201) (fun t v => t.setEntry e v)).raise 980, []) := by
  unfold State.effect
  rw [h]
  rfl

theorem State.effect_limits (h : e.cls = xLimits) : u.effect e = ((u.each (e.vals 0x0202) (fun t v => t.limitEntry e v)).raise 980, []) := by
  unfold State.effect
  rw [h]
  rfl

theorem State.effect_schedule (h : e.cls = xSchedule) : u.effect e = (u.updBank (fun b => { b with schedule := e.val 0x0C01 }), []) := by
  unfold State.effect
  rw [h]
  rfl

theorem State.effect_assaySet (h : e.cls = xAssaySet) : u.effect e = (u.each e.tlvs State.assayTlv, []) := by
  unfold State.effect
  rw [h]
  rfl

/-- What ASSAY_ACK clears (R258). -/
def State.assayAcked (u : State) : State :=
  (((u.put AS_ASTAT_UNSAVED 0).put AS_ASTAT_RECORD_LOST 0).wrw .AS_LOSS 0 0).wrw .AS_LOSS 0 1

theorem State.effect_assayAck (h : e.cls = xAssayAck) : u.effect e = (u.assayAcked, []) := by
  unfold State.effect
  rw [h]
  rfl

/-- What COUNTER_CLEAR clears (R411). -/
def State.countersCleared (u : State) : State := (u.each (List.range 4) (fun t k => t.wrw .RS_RSTCNT 0 k)).wrw .RS_RSTTOT 0

theorem State.effect_counterClear (h : e.cls = xCounterClear) : u.effect e = (u.countersCleared, []) := by
  unfold State.effect
  rw [h]
  rfl

theorem State.effect_certRevoke (h : e.cls = xCertRevoke) : u.effect e =
    (u.updBank (fun b => { b with revoked := (((e.vals 0x0801).map (fun v => fieldAt v 0 8)).reverse ++ b.revoked).take 64 }), []) := by
  unfold State.effect
  rw [h]
  rfl

theorem State.effect_groupSet (h : e.cls = xGroupSet) : u.effect e = (u.updBank (fun b => { b with groups := e.vals 0x0901 }), []) := by
  unfold State.effect
  rw [h]
  rfl

end Effect

/-! ### The configuration table (R370) -/

section Table
variable (u : State) (e : Envelope) (v : List Byte)

/-- An entry that SET names takes the value, the role and the SEQ. -/
theorem State.setEntry_sets (hk : byteAt v 0 < 64) :
    (u.setEntry e v).get EX_CFGVAL_VALUE (byteAt v 0) = fieldAt v 4 4 % 2 ^ EX_CFGVAL_VALUE.width ∧
      (u.setEntry e v).get EX_CFGSRC_SEQLO (byteAt v 0) = e.seq % 65536 ∧
      (u.setEntry e v).get EX_CFGSRC_ROLE (byteAt v 0) = e.role % 2 ^ EX_CFGSRC_ROLE.width := by
  have hval : RegId.EX_CFGVAL.has (byteAt v 0) 0 = true := RegId.has_below (by decide) hk
  have hsrc : RegId.EX_CFGSRC.has (byteAt v 0) 0 = true := RegId.has_below (by decide) hk
  unfold State.setEntry
  dsimp only
  refine ⟨?_, ?_, ?_⟩
  · rw [State.get_put_of_apart _ _ _ _ hval (by decide), State.get_put_of_apart _ _ _ _ hval (by decide), State.get_put _ _ _ _ _ hval (by decide)]
  · rw [State.get_put _ _ _ _ _ hsrc (by decide)]
    exact Nat.mod_mod _ _
  · rw [State.get_put_of_apart _ _ _ _ hsrc (by decide), State.get_put _ _ _ _ _ hsrc (by decide)]

/-- Another entry keeps its value. -/
theorem State.setEntry_other {k : Nat} (hk : k < 64) (hne : byteAt v 0 ≠ k) : (u.setEntry e v).rdw .EX_CFGVAL k = u.rdw .EX_CFGVAL k := by
  have hval : RegId.EX_CFGVAL.has k 0 = true := RegId.has_below (by decide) hk
  unfold State.setEntry
  dsimp only
  rw [State.rdw_put_ne _ _ _ _ _ _ _ _ hval (.inl (by decide)), State.rdw_put_ne _ _ _ _ _ _ _ _ hval (.inl (by decide)),
    State.rdw_put_ne _ _ _ _ _ _ _ _ hval (.inr (.inl (Ne.symm hne)))]

/-- A number clamped to 32-bit limits lies within them as a word. -/
theorem sgn_clamped {lo hi x : Int} (h : lo ≤ hi) (hlo : -2147483648 ≤ lo) (hhi : hi ≤ 2147483647) :
    lo ≤ sgn (wordOfInt (max lo (min hi x))) ∧ sgn (wordOfInt (max lo (min hi x))) ≤ hi := by
  have hword : sgn (wordOfInt (max lo (min hi x))) = max lo (min hi x) := by
    unfold sgn wordOfInt
    rw [BitVec.toInt_ofInt, Int.bmod_eq_of_le] <;> omega
  omega

/-- A signed field lies within 32 bits. -/
theorem sField_bounds (k : Nat) : -2147483648 ≤ sField v k ∧ sField v k ≤ 2147483647 := by
  have hlo := BitVec.le_toInt (BitVec.ofNat 32 (fieldAt v k 4))
  have hhi := BitVec.toInt_lt (x := BitVec.ofNat 32 (fieldAt v k 4))
  unfold sField
  omega

/-- The entry's limits are those of LIMITS, and its value lies within them. -/
theorem State.limitEntry_limits (hk : byteAt v 0 < 64) (h : sField v 4 ≤ sField v 8) :
    sgn ((u.limitEntry e v).rdw .EX_CFGMIN (byteAt v 0)) = sField v 4 ∧ sgn ((u.limitEntry e v).rdw .EX_CFGMAX (byteAt v 0)) = sField v 8 ∧
      sField v 4 ≤ sgn ((u.limitEntry e v).rdw .EX_CFGVAL (byteAt v 0)) ∧ sgn ((u.limitEntry e v).rdw .EX_CFGVAL (byteAt v 0)) ≤ sField v 8 := by
  have hval : RegId.EX_CFGVAL.has (byteAt v 0) 0 = true := RegId.has_below (by decide) hk
  have hmin : RegId.EX_CFGMIN.has (byteAt v 0) 0 = true := RegId.has_below (by decide) hk
  have hmax : RegId.EX_CFGMAX.has (byteAt v 0) 0 = true := RegId.has_below (by decide) hk
  let w := (u.put EX_CFGMIN_MIN (fieldAt v 4 4) (byteAt v 0)).put EX_CFGMAX_MAX (fieldAt v 8 4) (byteAt v 0)
  have hwmin : w.rdw .EX_CFGMIN (byteAt v 0) = BitVec.ofNat 32 (fieldAt v 4 4) :=
    (State.rdw_put_ne _ _ _ _ _ _ _ _ hmin (.inl (by decide))).trans (State.rdw_put_word _ EX_CFGMIN_MIN _ _ _ hmin (by decide))
  have hwmax : w.rdw .EX_CFGMAX (byteAt v 0) = BitVec.ofNat 32 (fieldAt v 8 4) := State.rdw_put_word _ EX_CFGMAX_MAX _ _ _ hmax (by decide)
  unfold State.limitEntry
  dsimp only
  split
  · next hin => exact ⟨congrArg sgn hwmin, congrArg sgn hwmax, hin.1, hin.2⟩
  · have hclamped := State.put_evolves (State.put_evolves (State.put_evolves (.refl [.fresh, .reg .EX_CFGVAL, .reg .EX_CFGSRC] w)
      EX_CFGVAL_VALUE (wordOfInt (max (sField v 4) (min (sField v 8) (sgn (w.rdw .EX_CFGVAL (byteAt v 0)))))).toNat (byteAt v 0) 0 (by decide))
      EX_CFGSRC_ROLE e.role (byteAt v 0) 0 (by decide)) EX_CFGSRC_SEQLO (e.seq % 65536) (byteAt v 0) 0 (by decide)
    refine ⟨congrArg sgn ((hclamped.rdw hmin (by decide)).trans hwmin), congrArg sgn ((hclamped.rdw hmax (by decide)).trans hwmax), ?_⟩
    rw [State.rdw_put_ne _ _ _ _ _ _ _ _ hval (.inl (by decide)), State.rdw_put_ne _ _ _ _ _ _ _ _ hval (.inl (by decide))]
    have hput := State.rdw_put_word w EX_CFGVAL_VALUE
      (wordOfInt (max (sField v 4) (min (sField v 8) (sgn (w.rdw .EX_CFGVAL (byteAt v 0)))))).toNat _ _ hval (by decide)
    rw [BitVec.ofNat_toNat, BitVec.setWidth_eq] at hput
    rw [show State.rdw _ .EX_CFGVAL (byteAt v 0) = _ from hput]
    exact sgn_clamped h (sField_bounds v 4).1 (sField_bounds v 8).2

end Table

/-! ### The Assay's settings (R265) -/

section Settings
variable (u : State) (q : Nat × List Byte)

/-- An image of a register's EXV fields. -/
theorem State.exvImage_reads {r : RegId} (v : List Byte) (off : Nat) {i : Nat} (h : r.has i 0 = true) :
    (u.exvImage r v off i).rdw r i = calWord v off &&& BitVec.ofNat 32 r.reg.exv := State.rdw_wrw _ _ _ _ _ h

/-- It leaves the other registers. -/
theorem State.exvImage_rdw_ne {r p : RegId} (v : List Byte) (off i : Nat) {k : Nat} (h : p.has k 0 = true) (hne : p ≠ r) :
    (u.exvImage r v off i).rdw p k = u.rdw p k := State.rdw_wrw_ne _ _ _ _ _ _ _ _ h (.inl hne)

/-- TLV 0x0501: WCFG. -/
theorem State.assayTlv_wcfg (h : q.1 = 0x0501) : (u.assayTlv q).rdw .AS_WCFG = calWord q.2 0 &&& BitVec.ofNat 32 RegId.AS_WCFG.reg.exv := by
  have hshow : ∀ t : State, (t.each (List.range 16) State.windowShow).rdw .AS_WCFG = t.rdw .AS_WCFG := fun t =>
    State.each_keeps (fun t => t.rdw .AS_WCFG) _ _ (fun x r => (State.windowShow_evolves (.refl _ x) r (covers_self _)).rdw (by decide) (by decide)) t
  unfold State.assayTlv
  dsimp only
  rw [if_pos h, hshow, State.exvImage_reads _ _ _ (by decide)]

/-- TLV 0x0502: the three registers of an S0 input. -/
theorem State.assayTlv_s0 (h : q.1 = 0x0502) (hn : fieldAt q.2 0 4 < 4) :
    (u.assayTlv q).rdw .AS_S0CTL (fieldAt q.2 0 4) = calWord q.2 4 &&& BitVec.ofNat 32 RegId.AS_S0CTL.reg.exv ∧
      (u.assayTlv q).rdw .AS_S0WGT (fieldAt q.2 0 4) = calWord q.2 8 &&& BitVec.ofNat 32 RegId.AS_S0WGT.reg.exv ∧
      (u.assayTlv q).rdw .AS_S0TOL (fieldAt q.2 0 4) = calWord q.2 12 &&& BitVec.ofNat 32 RegId.AS_S0TOL.reg.exv := by
  have hctl : RegId.AS_S0CTL.has (fieldAt q.2 0 4) 0 = true := RegId.has_below (by decide) hn
  have hwgt : RegId.AS_S0WGT.has (fieldAt q.2 0 4) 0 = true := RegId.has_below (by decide) hn
  have htol : RegId.AS_S0TOL.has (fieldAt q.2 0 4) 0 = true := RegId.has_below (by decide) hn
  unfold State.assayTlv
  dsimp only
  rw [if_neg (by omega), if_pos h, dif_pos hn]
  have hrestart := fun t : State => State.s0Restart_evolves (.refl _ t) ⟨fieldAt q.2 0 4, hn⟩ (covers_self _)
  refine ⟨((hrestart _).rdw hctl (by decide)).trans ?_, ((hrestart _).rdw hwgt (by decide)).trans ?_, ((hrestart _).rdw htol (by decide)).trans ?_⟩
  · rw [State.exvImage_rdw_ne _ _ _ _ hctl (by decide), State.exvImage_rdw_ne _ _ _ _ hctl (by decide), State.exvImage_reads _ _ _ hctl]
  · rw [State.exvImage_rdw_ne _ _ _ _ hwgt (by decide), State.exvImage_reads _ _ _ hwgt]
  · exact State.exvImage_reads _ _ _ htol

/-- TLV 0x0503: the two registers of a test output. -/
theorem State.assayTlv_tpo (h : q.1 = 0x0503) (hn : fieldAt q.2 0 4 < 8) :
    (u.assayTlv q).rdw .AS_TPOCTL (fieldAt q.2 0 4) = calWord q.2 4 &&& BitVec.ofNat 32 RegId.AS_TPOCTL.reg.exv ∧
      (u.assayTlv q).rdw .AS_TPOCONST (fieldAt q.2 0 4) = calWord q.2 8 &&& BitVec.ofNat 32 RegId.AS_TPOCONST.reg.exv := by
  have hctl : RegId.AS_TPOCTL.has (fieldAt q.2 0 4) 0 = true := RegId.has_below (by decide) hn
  have hconst : RegId.AS_TPOCONST.has (fieldAt q.2 0 4) 0 = true := RegId.has_below (by decide) hn
  unfold State.assayTlv
  dsimp only
  rw [if_neg (by omega), if_neg (by omega)]
  refine ⟨?_, State.exvImage_reads _ _ _ hconst⟩
  rw [State.exvImage_rdw_ne _ _ _ _ hctl (by decide), State.exvImage_reads _ _ _ hctl]

end Settings

/-! ### What the acknowledgement and the clear of the counters leave (R258, R411) -/

theorem State.assayAcked_clears (u : State) : u.assayAcked.on AS_ASTAT_UNSAVED = false ∧ u.assayAcked.on AS_ASTAT_RECORD_LOST = false ∧
    u.assayAcked.rdw .AS_LOSS 0 = 0 ∧ u.assayAcked.rdw .AS_LOSS 1 = 0 := by
  let w := (u.put AS_ASTAT_UNSAVED 0).put AS_ASTAT_RECORD_LOST 0
  have hev : Evolves [.reg .AS_LOSS] w u.assayAcked := State.wrw_evolves (State.wrw_evolves (.refl _ w) _ _ _ _ (by decide)) _ _ _ _ (by decide)
  refine ⟨?_, ?_, ?_, State.rdw_wrw _ _ _ _ _ (by decide)⟩
  · rw [hev.on (by decide) (by decide), State.on_put_of_apart _ _ _ _ (by decide) (by decide), State.on_put _ _ _ _ _ (by decide) (by decide)]
    decide
  · rw [hev.on (by decide) (by decide), State.on_put _ _ _ _ _ (by decide) (by decide)]
    decide
  · exact (State.rdw_wrw_ne _ _ _ _ _ _ _ _ (by decide) (by decide)).trans (State.rdw_wrw _ _ _ _ _ (by decide))

theorem State.countersCleared_clears (u : State) : (∀ k : Fin 4, u.countersCleared.rdw .RS_RSTCNT k.val = 0) ∧ u.countersCleared.rdw .RS_RSTTOT = 0 := by
  refine ⟨fun k => ?_, State.rdw_wrw _ _ _ _ _ (by decide)⟩
  have hhas : RegId.RS_RSTCNT.has k.val 0 = true := RegId.has_below (by decide) k.isLt
  have hcleared := State.each_reaches (fun t => t.rdw .RS_RSTCNT k.val = 0) (f := fun t n => t.wrw .RS_RSTCNT 0 n) (x := k.val)
    (fun t => State.rdw_wrw _ _ _ _ _ hhas) (fun t n ht => ?_) (List.range 4) u (List.mem_range.2 k.isLt)
  · exact (State.rdw_wrw_ne _ _ _ _ _ _ _ _ hhas (.inl (by decide))).trans hcleared
  · by_cases hn : n = k.val
    · exact hn ▸ State.rdw_wrw _ _ _ _ _ (hn ▸ hhas)
    · exact (State.rdw_wrw_ne _ _ _ _ _ _ _ _ hhas (.inr (.inl (Ne.symm hn)))).trans ht

end Sys2Proof.Machine
end

section
/-! SUPPORT. The clauses of the obligation on settings that apply (R369, R370). -/

namespace Sys2Proof.Machine

section Clauses
variable {s : State} {b c cls : Nat} {e : Envelope} {l : List (Nat × Envelope)}

/-- An effect that leaves the Banksman keeps the envelopes and the replies. -/
theorem Evolves.bank_of_boundary {A : List Part} {u : State} (h : Evolves A (s.atBoundary l) u) (hb : Part.bank ∉ A) :
    u.bank.accepted = l ∧ u.bank.replies = s.bank.replies := by
  have hbank : u.bank = { s.bank with accepted := l } := Eq.trans (h.kept .bank hb) (s.atBoundary_bank l)
  rw [hbank]
  exact ⟨rfl, rfl⟩

/-- A class's command does nothing where the oldest accepted envelope is of another class. -/
theorem class_waits (x : Instr) (hx : exec x s = .next (s.applyClass cls)) (h : ∀ p ∈ s.bank.accepted.head?, p.2.cls ≠ cls) :
    ∃ t, exec x s = .next t ∧ t = s := ⟨_, hx, State.applyClass_of_other h⟩

section Oldest
variable (hacc : s.bank.accepted = (b, e) :: l) (hcls : e.cls = cls) (hplan : s.plan.await = none ∨ s.plan.awaitFrame.isSome = true)
include hacc hcls hplan

/-- A class's command whose envelope fails a late check. -/
theorem class_refuses (x : Instr) (hx : exec x s = .next (s.applyClass cls)) (hlate : s.toNextBoundary.checksLate e = c) (hc : c ≠ exvAccepted)
    (himg : cls ≠ xImage) :
    ∃ t, exec x s = .next t ∧
      t.bank = { s.bank with accepted := l, replies := repliesWith s.bank.replies ⟨b, c, [], e, s.now + s.boundaryIn + replyTicks⟩ } ∧
      t.now = s.now + s.boundaryIn ∧ t.get EX_EXCNT_REFUSED = min (s.get EX_EXCNT_REFUSED + 1) (2 ^ EX_EXCNT_REFUSED.width - 1) ∧
      (s.routed 978 = true → t.raised 978 = true) := by
  obtain ⟨-, hbank, hnow, hcount, hraised⟩ := State.applyClass_refuses hacc hcls hplan himg hlate hc
  exact ⟨_, hx, hbank, hnow, hcount, hraised⟩

/-- One that sets the configuration table leaves it whole. -/
theorem class_refuses_table (x : Instr) (hx : exec x s = .next (s.applyClass cls)) (hlate : s.toNextBoundary.checksLate e = c) (hc : c ≠ exvAccepted)
    (himg : cls ≠ xImage) :
    ∃ t, exec x s = .next t ∧
      t.bank = { s.bank with accepted := l, replies := repliesWith s.bank.replies ⟨b, c, [], e, s.now + s.boundaryIn + replyTicks⟩ } ∧
      t.now = s.now + s.boundaryIn ∧ t.get EX_EXCNT_REFUSED = min (s.get EX_EXCNT_REFUSED + 1) (2 ^ EX_EXCNT_REFUSED.width - 1) ∧
      (s.routed 978 = true → t.raised 978 = true) ∧
      (∀ k : Fin 64, t.rdw .EX_CFGVAL k.val = s.rdw .EX_CFGVAL k.val) ∧
      (∀ k : Fin 64, t.rdw .EX_CFGMIN k.val = s.rdw .EX_CFGMIN k.val) ∧
      (∀ k : Fin 64, t.rdw .EX_CFGMAX k.val = s.rdw .EX_CFGMAX k.val) := by
  obtain ⟨heq, hbank, hnow, hcount, hraised⟩ := State.applyClass_refuses hacc hcls hplan himg hlate hc
  have hev : Evolves ([Part.reg .EX_EXCNT] ++ boundaryParts ++ raiseParts) s (s.applyClass cls) := by
    rw [heq]
    exact State.refuse_evolves ((s.atBoundary_evolves l).mono (by decide)) _ _ _ (by decide)
  have hrow : ∀ {r : RegId}, 64 ≤ r.reg.n1 ∧ r.reg.f1 = 0 ∧ 0 < r.reg.n2 ∧ Part.reg r ∉ [Part.reg .EX_EXCNT] ++ boundaryParts ++ raiseParts →
      ∀ k : Fin 64, (s.applyClass cls).rdw r k.val = s.rdw r k.val := fun {r} ⟨hn, hf, hone, hr⟩ k =>
    hev.rdw (RegId.has_below ⟨hn, hf, hone⟩ k.isLt) hr
  exact ⟨_, hx, hbank, hnow, hcount, hraised, hrow (by decide), hrow (by decide), hrow (by decide)⟩

/-- A class's command whose envelope passes the late checks: `P` says what its effect adds. -/
theorem class_applies (x : Instr) (hx : exec x s = .next (s.applyClass cls)) (hlate : s.toNextBoundary.checksLate e = exvAccepted)
    (hkind : cls ≠ xImage ∧ flashClass cls = false) {A : List Part} {u : State} {data : List Byte} {P : State → Prop}
    (heff : (s.atBoundary l).effect e = (u, data)) (hev : Evolves A (s.atBoundary l) u) (hA : Part.now ∉ A ∧ Part.reg .IC_SRCCFG ∉ A)
    (hbank : u.bank.accepted = l ∧ u.bank.replies = s.bank.replies) (hP : P (u.applied b e data)) :
    ∃ t, exec x s = .next t ∧ t.bank.accepted = l ∧ t.now = s.now + s.boundaryIn ∧
      t.bank.replies = repliesWith s.bank.replies ⟨b, exvApplied, data, e, s.now + s.boundaryIn + replyTicks⟩ ∧
      (s.routed 977 = true → t.raised 977 = true) ∧ P t := by
  obtain ⟨hl, hnow, hrep, hraised⟩ := hev.applied hA.1 hA.2 hbank.1 hbank.2 b (hcls ▸ hkind.1) data
  exact ⟨_, hx.trans (congrArg Host.Outcome.next (State.applyClass_applies hacc hcls hplan hkind.1 hkind.2 hlate heff)), hl, hnow, hrep, hraised, hP⟩

end Oldest

/-- A register that neither a raise nor the answer changes reads in the state after an application as its effect left it. -/
theorem State.applied_rdw (u : State) {r : RegId} {i j : Nat} (h : r.has i j = true) (hr : Part.reg r ∉ .bank :: raiseParts) (data : List Byte) :
    (u.applied b e data).rdw r i j = u.rdw r i j := (u.applied_evolves b e data).rdw h hr

theorem State.applied_get (u : State) {f : Fld} {i j : Nat} (h : f.reg.has i j = true) (hr : Part.reg f.reg ∉ .bank :: raiseParts)
    (data : List Byte) : (u.applied b e data).get f i j = u.get f i j := (u.applied_evolves b e data).get h hr

theorem State.applied_bank (u : State) (data : List Byte) (himg : e.cls ≠ xImage) :
    ∃ r, (u.applied b e data).bank = { u.bank with replies := r } := by
  have hbank := State.answer_bank (u.raise 977) b e exvApplied data himg
  rw [State.raise_bank] at hbank
  exact ⟨_, hbank⟩

variable (hacc : s.bank.accepted = (b, e) :: l) (hlate : s.toNextBoundary.checksLate e = exvAccepted)
  (hplan : s.plan.await = none ∨ s.plan.awaitFrame.isSome = true)
include hacc hlate hplan

/-- READ replies with its item (R343, R360). -/
theorem read_applies (hcls : e.cls = xRead) :
    ∃ t, exec .readItem s = .next t ∧ t.bank.accepted = l ∧ t.now = s.now + s.boundaryIn ∧
      t.bank.replies = repliesWith s.bank.replies ⟨b, exvApplied, s.toNextBoundary.readData e, e, s.now + s.boundaryIn + replyTicks⟩ ∧
      (s.routed 977 = true → t.raised 977 = true) := by
  have heff := (s.atBoundary l).effect_read hcls
  rw [State.atBoundary_readData] at heff
  have hev := Evolves.refl [] (s.atBoundary l)
  obtain ⟨t, hexec, hl, hnow, hrep, hraised, -⟩ := class_applies (P := fun _ => True) hacc hcls hplan .readItem rfl hlate (by decide) heff hev
    (by decide) (hev.bank_of_boundary (by decide)) trivial
  exact ⟨t, hexec, hl, hnow, hrep, hraised⟩

/-- SET writes the entries it names (R370). -/
theorem set_applies (hcls : e.cls = xSet) :
    ∃ t, exec .setEntries s = .next t ∧ t.bank.accepted = l ∧ t.now = s.now + s.boundaryIn ∧
      t.bank.replies = repliesWith s.bank.replies ⟨b, exvApplied, [], e, s.now + s.boundaryIn + replyTicks⟩ ∧
      (s.routed 977 = true → t.raised 977 = true) ∧
      (∀ v ∈ (e.vals 0x0201).getLast?, byteAt v 0 < 64 → t.get EX_CFGVAL_VALUE (byteAt v 0) = fieldAt v 4 4 % 2 ^ EX_CFGVAL_VALUE.width ∧
        t.get EX_CFGSRC_SEQLO (byteAt v 0) = e.seq % 65536 ∧ t.get EX_CFGSRC_ROLE (byteAt v 0) = e.role % 2 ^ EX_CFGSRC_ROLE.width) ∧
      (∀ k : Fin 64, (e.vals 0x0201).all (fun v => byteAt v 0 != k.val) = true → t.rdw .EX_CFGVAL k.val = s.rdw .EX_CFGVAL k.val) := by
  let w := (s.atBoundary l).each (e.vals 0x0201) (fun t v => t.setEntry e v)
  have hw : Evolves [.fresh, .reg .EX_CFGVAL, .reg .EX_CFGSRC] (s.atBoundary l) w :=
    State.each_evolves (.refl _ _) _ _ (fun t v ht => State.setEntry_evolves ht e v (by decide))
  have hraise : Evolves raiseParts w (w.raise 980) := State.raise_evolves (.refl _ w) 980 (by decide)
  have hev : Evolves ([Part.reg .EX_CFGVAL, .reg .EX_CFGSRC] ++ raiseParts) (s.atBoundary l) (w.raise 980) :=
    (hw.mono (by decide)).step hraise (by decide)
  refine class_applies hacc hcls hplan .setEntries rfl hlate (by decide) ((s.atBoundary l).effect_set hcls) hev (by decide)
    (hev.bank_of_boundary (by decide)) ⟨fun v hv hk => ?_, fun k hk => ?_⟩
  · have hget : ∀ {f : Fld}, f.reg.has (byteAt v 0) 0 = true → Part.reg f.reg ∉ .bank :: raiseParts →
        ((w.raise 980).applied b e []).get f (byteAt v 0) = w.get f (byteAt v 0) := fun h hr =>
      (State.applied_get _ h hr _).trans (hraise.get h (fun hc => hr (List.mem_cons_of_mem _ hc)))
    obtain ⟨x, hx⟩ : ∃ x : State, w = x.setEntry e v := State.each_last hv _ _
    obtain ⟨hval, hseq, hrole⟩ := x.setEntry_sets e v hk
    have hhas : RegId.EX_CFGVAL.has (byteAt v 0) 0 = true := RegId.has_below (by decide) hk
    have hhas' : RegId.EX_CFGSRC.has (byteAt v 0) 0 = true := RegId.has_below (by decide) hk
    exact ⟨(hget hhas (by decide)).trans (hx ▸ hval), (hget hhas' (by decide)).trans (hx ▸ hseq), (hget hhas' (by decide)).trans (hx ▸ hrole)⟩
  · have hhas : RegId.EX_CFGVAL.has k.val 0 = true := RegId.has_below (by decide) k.isLt
    have hother : w.rdw .EX_CFGVAL k.val = (s.atBoundary l).rdw .EX_CFGVAL k.val :=
      State.each_keeps_of_mem (fun t => t.rdw .EX_CFGVAL k.val) _ _
        (fun t v hv => t.setEntry_other e v k.isLt (by simpa using List.all_eq_true.1 hk v hv)) _
    rw [State.applied_rdw _ hhas (by decide), hraise.rdw hhas (by decide), hother, (s.atBoundary_evolves l).rdw hhas (by decide)]

/-- LIMITS writes the limits of the entries it names, and their values lie within them (R370). -/
theorem limits_applies (hcls : e.cls = xLimits) :
    ∃ t, exec .limits s = .next t ∧ t.bank.accepted = l ∧ t.now = s.now + s.boundaryIn ∧
      t.bank.replies = repliesWith s.bank.replies ⟨b, exvApplied, [], e, s.now + s.boundaryIn + replyTicks⟩ ∧
      (s.routed 977 = true → t.raised 977 = true) ∧
      (∀ v ∈ (e.vals 0x0202).getLast?, byteAt v 0 < 64 → sField v 4 ≤ sField v 8 →
        sgn (t.rdw .EX_CFGMIN (byteAt v 0)) = sField v 4 ∧ sgn (t.rdw .EX_CFGMAX (byteAt v 0)) = sField v 8 ∧
        sField v 4 ≤ sgn (t.rdw .EX_CFGVAL (byteAt v 0)) ∧ sgn (t.rdw .EX_CFGVAL (byteAt v 0)) ≤ sField v 8) := by
  let w := (s.atBoundary l).each (e.vals 0x0202) (fun t v => t.limitEntry e v)
  have hw : Evolves [.fresh, .reg .EX_CFGVAL, .reg .EX_CFGMIN, .reg .EX_CFGMAX, .reg .EX_CFGSRC] (s.atBoundary l) w :=
    State.each_evolves (.refl _ _) _ _ (fun t v ht => State.limitEntry_evolves ht e v (by decide))
  have hraise : Evolves raiseParts w (w.raise 980) := State.raise_evolves (.refl _ w) 980 (by decide)
  have hev : Evolves ([Part.reg .EX_CFGVAL, .reg .EX_CFGMIN, .reg .EX_CFGMAX, .reg .EX_CFGSRC] ++ raiseParts) (s.atBoundary l) (w.raise 980) :=
    (hw.mono (by decide)).step hraise (by decide)
  refine class_applies hacc hcls hplan .limits rfl hlate (by decide) ((s.atBoundary l).effect_limits hcls) hev (by decide)
    (hev.bank_of_boundary (by decide)) (fun v hv hk hle => ?_)
  have hrdw : ∀ {r : RegId}, r.has (byteAt v 0) 0 = true → Part.reg r ∉ .bank :: raiseParts →
      ((w.raise 980).applied b e []).rdw r (byteAt v 0) = w.rdw r (byteAt v 0) := fun h hr =>
    (State.applied_rdw _ h hr _).trans (hraise.rdw h (fun hc => hr (List.mem_cons_of_mem _ hc)))
  obtain ⟨x, hx⟩ : ∃ x : State, w = x.limitEntry e v := State.each_last hv _ _
  have hlimits := x.limitEntry_limits e v hk hle
  rw [← hx, ← hrdw (RegId.has_below (by decide) hk) (by decide), ← hrdw (RegId.has_below (by decide) hk) (by decide),
    ← hrdw (RegId.has_below (by decide) hk) (by decide)] at hlimits
  exact hlimits

/-- What a change of the Banksman adds to an application: the schedule, the serials or the groups. -/
theorem list_applies (x : Instr) (hx : exec x s = .next (s.applyClass cls)) (hcls : e.cls = cls) (hkind : cls ≠ xImage ∧ flashClass cls = false)
    (f : BankU → BankU) (heff : (s.atBoundary l).effect e = ((s.atBoundary l).updBank f, []))
    (hcounts : ∀ k, (f k).lc = k.lc ∧ (f k).arb = k.arb ∧ (f k).marks = k.marks) (hwaits : ∀ k, (f k).accepted = k.accepted ∧ (f k).replies = k.replies)
    {P : BankU → Prop} (hP : ∀ r, P { f { s.bank with accepted := l } with replies := r }) :
    ∃ t, exec x s = .next t ∧ t.bank.accepted = l ∧ t.now = s.now + s.boundaryIn ∧
      t.bank.replies = repliesWith s.bank.replies ⟨b, exvApplied, [], e, s.now + s.boundaryIn + replyTicks⟩ ∧
      (s.routed 977 = true → t.raised 977 = true) ∧ P t.bank := by
  have hbank := s.atBoundary_bank l
  refine class_applies (P := fun t => P t.bank) hacc hcls hplan x hx hlate hkind heff
    (State.updBank_evolves (.refl [.bank] _) f (hcounts _) (by decide)) (by decide) ?_ ?_
  · rw [State.updBank_bank, (hwaits _).1, (hwaits _).2, hbank]
    exact ⟨rfl, rfl⟩
  · obtain ⟨r, hr⟩ := State.applied_bank (b := b) ((s.atBoundary l).updBank f) [] (hcls ▸ hkind.1)
    show P (State.bank _)
    rw [hr, State.updBank_bank, hbank]
    exact hP r

/-- What an effect that changes registers of the Assay's settings adds: `P` of the state after the last TLV. -/
theorem assaySet_applies (hcls : e.cls = xAssaySet) {P : State → Prop}
    (hP : ∀ u : State, (∀ q ∈ e.tlvs.getLast?, ∃ x : State, u = x.assayTlv q) → P (u.applied b e [])) :
    ∃ t, exec .assaySet s = .next t ∧ t.bank.accepted = l ∧ t.now = s.now + s.boundaryIn ∧
      t.bank.replies = repliesWith s.bank.replies ⟨b, exvApplied, [], e, s.now + s.boundaryIn + replyTicks⟩ ∧
      (s.routed 977 = true → t.raised 977 = true) ∧ P t := by
  have hev : Evolves [.fresh, .timers, .assay, .reg .AS_WCFG, .reg .AS_EWIN, .reg .AS_WRAPS, .reg .AS_S0CTL, .reg .AS_S0WGT, .reg .AS_S0TOL,
      .reg .AS_TPOCTL, .reg .AS_TPOCONST] (s.atBoundary l) ((s.atBoundary l).each e.tlvs State.assayTlv) :=
    State.each_evolves (.refl _ _) _ _ (fun t q ht => State.assayTlv_evolves ht q (by decide))
  exact class_applies hacc hcls hplan .assaySet rfl hlate (by decide) ((s.atBoundary l).effect_assaySet hcls) hev (by decide)
    (hev.bank_of_boundary (by decide)) (hP _ (fun q hq => State.each_last hq _ _))

/-- ASSAY_ACK (R258). -/
theorem assayAck_applies (hcls : e.cls = xAssayAck) :
    ∃ t, exec .assayAck s = .next t ∧ t.bank.accepted = l ∧ t.now = s.now + s.boundaryIn ∧
      t.bank.replies = repliesWith s.bank.replies ⟨b, exvApplied, [], e, s.now + s.boundaryIn + replyTicks⟩ ∧
      (s.routed 977 = true → t.raised 977 = true) ∧
      t.on AS_ASTAT_UNSAVED = false ∧ t.on AS_ASTAT_RECORD_LOST = false ∧ t.rdw .AS_LOSS 0 = 0 ∧ t.rdw .AS_LOSS 1 = 0 := by
  have hev : Evolves [.fresh, .reg .AS_ASTAT, .reg .AS_LOSS] (s.atBoundary l) (s.atBoundary l).assayAcked :=
    State.wrw_evolves (State.wrw_evolves (State.put_evolves (State.put_evolves (.refl _ _) _ _ _ _ (by decide)) _ _ _ _ (by decide)) _ _ _ _
      (by decide)) _ _ _ _ (by decide)
  have hafter := (s.atBoundary l).assayAcked.applied_evolves b e []
  obtain ⟨hunsaved, hlost, hlow, hhigh⟩ := (s.atBoundary l).assayAcked_clears
  exact class_applies hacc hcls hplan .assayAck rfl hlate (by decide) ((s.atBoundary l).effect_assayAck hcls) hev (by decide)
    (hev.bank_of_boundary (by decide))
    ⟨(hafter.on (by decide) (by decide)).trans hunsaved, (hafter.on (by decide) (by decide)).trans hlost,
      (hafter.rdw (by decide) (by decide)).trans hlow, (hafter.rdw (by decide) (by decide)).trans hhigh⟩

/-- COUNTER_CLEAR (R411). -/
theorem counterClear_applies (hcls : e.cls = xCounterClear) :
    ∃ t, exec .counterClear s = .next t ∧ t.bank.accepted = l ∧ t.now = s.now + s.boundaryIn ∧
      t.bank.replies = repliesWith s.bank.replies ⟨b, exvApplied, [], e, s.now + s.boundaryIn + replyTicks⟩ ∧
      (s.routed 977 = true → t.raised 977 = true) ∧
      (∀ k : Fin 4, t.rdw .RS_RSTCNT k.val = 0) ∧ t.rdw .RS_RSTTOT = 0 := by
  have hev : Evolves [.reg .RS_RSTCNT, .reg .RS_RSTTOT] (s.atBoundary l) (s.atBoundary l).countersCleared :=
    State.wrw_evolves (State.each_evolves (.refl _ _) _ _ (fun t k ht => State.wrw_evolves ht _ _ _ _ (by decide))) _ _ _ _ (by decide)
  have hafter := (s.atBoundary l).countersCleared.applied_evolves b e []
  obtain ⟨hcounts, htotal⟩ := (s.atBoundary l).countersCleared_clears
  exact class_applies hacc hcls hplan .counterClear rfl hlate (by decide) ((s.atBoundary l).effect_counterClear hcls) hev (by decide)
    (hev.bank_of_boundary (by decide))
    ⟨fun k => (hafter.rdw (RegId.has_below (by decide) k.isLt) (by decide)).trans (hcounts k), (hafter.rdw (by decide) (by decide)).trans htotal⟩

end Clauses

/-- Settles O46: each class by what its effect adds to an application, and every class alike where a late check fails or another class is oldest. -/
theorem acceptedSettingsApply : Obligations.AcceptedSettingsApply :=
  ⟨fun _ _ _ _ hacc hcls hlate hplan => read_applies hacc hlate hplan hcls,
    fun _ _ _ _ hacc hcls hlate hplan => set_applies hacc hlate hplan hcls,
    fun _ _ _ _ hacc hcls hlate hplan => limits_applies hacc hlate hplan hcls,
    fun s _ _ l hacc hcls hlate hplan => list_applies (P := fun k => k.schedule = _) hacc hlate hplan .islSchedule rfl hcls (by decide) _
      ((s.atBoundary l).effect_schedule hcls) (fun _ => ⟨rfl, rfl, rfl⟩) (fun _ => ⟨rfl, rfl⟩) (fun _ => rfl),
    fun _ _ _ _ hacc hcls hlate hplan => assaySet_applies hacc hlate hplan hcls (fun u hu q hq h => by
      obtain ⟨x, rfl⟩ := hu q hq
      exact (State.applied_rdw _ (by decide) (by decide) _).trans (x.assayTlv_wcfg q h)),
    fun _ _ _ _ hacc hcls hlate hplan => assaySet_applies hacc hlate hplan hcls (fun u hu q hq h hn => by
      obtain ⟨x, rfl⟩ := hu q hq
      obtain ⟨hctl, hwgt, htol⟩ := x.assayTlv_s0 q h hn
      exact ⟨(State.applied_rdw _ (RegId.has_below (by decide) hn) (by decide) _).trans hctl,
        (State.applied_rdw _ (RegId.has_below (by decide) hn) (by decide) _).trans hwgt,
        (State.applied_rdw _ (RegId.has_below (by decide) hn) (by decide) _).trans htol⟩),
    fun _ _ _ _ hacc hcls hlate hplan => assaySet_applies hacc hlate hplan hcls (fun u hu q hq h hn => by
      obtain ⟨x, rfl⟩ := hu q hq
      obtain ⟨hctl, hconst⟩ := x.assayTlv_tpo q h hn
      exact ⟨(State.applied_rdw _ (RegId.has_below (by decide) hn) (by decide) _).trans hctl,
        (State.applied_rdw _ (RegId.has_below (by decide) hn) (by decide) _).trans hconst⟩),
    fun _ _ _ _ hacc hcls hlate hplan => assayAck_applies hacc hlate hplan hcls,
    fun _ _ _ _ hacc hcls hlate hplan => counterClear_applies hacc hlate hplan hcls,
    fun s _ _ l hacc hcls hlate hplan => list_applies (P := fun k => k.revoked = _) hacc hlate hplan .certRevoke rfl hcls (by decide) _
      ((s.atBoundary l).effect_certRevoke hcls) (fun _ => ⟨rfl, rfl, rfl⟩) (fun _ => ⟨rfl, rfl⟩) (fun _ => rfl),
    fun s _ _ l hacc hcls hlate hplan => list_applies (P := fun k => k.groups = _) hacc hlate hplan .groupSet rfl hcls (by decide) _
      ((s.atBoundary l).effect_groupSet hcls) (fun _ => ⟨rfl, rfl, rfl⟩) (fun _ => ⟨rfl, rfl⟩) (fun _ => rfl),
    fun _ _ _ _ _ hacc hcls hlate hplan hc => class_refuses hacc hcls hplan .readItem rfl hlate hc (by decide),
    fun _ h => class_waits .readItem rfl h,
    fun _ _ _ _ _ hacc hcls hlate hplan hc => class_refuses_table hacc hcls hplan .setEntries rfl hlate hc (by decide),
    fun _ h => class_waits .setEntries rfl h,
    fun _ _ _ _ _ hacc hcls hlate hplan hc => class_refuses_table hacc hcls hplan .limits rfl hlate hc (by decide),
    fun _ h => class_waits .limits rfl h,
    fun _ _ _ _ _ hacc hcls hlate hplan hc => class_refuses hacc hcls hplan .islSchedule rfl hlate hc (by decide),
    fun _ h => class_waits .islSchedule rfl h,
    fun _ _ _ _ _ hacc hcls hlate hplan hc => class_refuses hacc hcls hplan .assaySet rfl hlate hc (by decide),
    fun _ h => class_waits .assaySet rfl h,
    fun _ _ _ _ _ hacc hcls hlate hplan hc => class_refuses hacc hcls hplan .assayAck rfl hlate hc (by decide),
    fun _ h => class_waits .assayAck rfl h,
    fun _ _ _ _ _ hacc hcls hlate hplan hc => class_refuses hacc hcls hplan .counterClear rfl hlate hc (by decide),
    fun _ h => class_waits .counterClear rfl h,
    fun _ _ _ _ _ hacc hcls hlate hplan hc => class_refuses hacc hcls hplan .certRevoke rfl hlate hc (by decide),
    fun _ h => class_waits .certRevoke rfl h,
    fun _ _ _ _ _ hacc hcls hlate hplan hc => class_refuses hacc hcls hplan .groupSet rfl hlate hc (by decide),
    fun _ h => class_waits .groupSet rfl h⟩

end Sys2Proof.Machine
end
section
/-! SUPPORT. A sample boundary of the Assay (R242 to R259): what its steps leave of the histories, the interval, the clamps and the snapshots. -/

namespace Sys2Proof.Machine

/-! ### What the boundary's statement looks at -/

/-- The histories, the counts of samples and of the interval, whether a snapshot is due and the number of the last one, and the clamps. -/
structure SampleView where
  hist : Vector (List Int) 8
  tick : Nat
  ivCount : Nat
  snapDue : Bool
  snapNum : Nat
  clip : Nat

def State.sampled (s : State) : SampleView :=
  ⟨s.assay.hist, s.assay.tick, s.assay.ivCount, s.assay.snapDue, s.get AS_SNAPNUM_SNAPNUM, s.get AS_ASTAT_CLIP⟩

/-- A change of other parts. -/
theorem Evolves.sampled {A : List Part} {s t : State} (h : Evolves A s t)
    (hp : Part.assay ∉ A ∧ Part.reg .AS_SNAPNUM ∉ A ∧ Part.reg .AS_ASTAT ∉ A) : t.sampled = s.sampled := by
  have hassay : t.assay = s.assay := h.kept .assay hp.1
  unfold State.sampled
  rw [hassay, h.get (f := AS_SNAPNUM_SNAPNUM) (by decide) hp.2.1, h.get (f := AS_ASTAT_CLIP) (by decide) hp.2.2]

section Steps
variable (s : State)

/-- A status of the Assay other than the clamps. -/
theorem State.put_astat_sampled {f : Fld} (v : Nat) (hf : f.reg = .AS_ASTAT ∧ f.Apart AS_ASTAT_CLIP) : (s.put f v).sampled = s.sampled := by
  have hclip : (s.put f v).get AS_ASTAT_CLIP = s.get AS_ASTAT_CLIP := State.get_put_of_apart s v 0 0 (by decide) hf.2
  have hnum : (s.put f v).get AS_SNAPNUM_SNAPNUM = s.get AS_SNAPNUM_SNAPNUM :=
    State.get_put_of_apart s v 0 0 (by decide) (.inl (by rw [hf.1]; decide))
  unfold State.sampled
  rw [hclip, hnum, State.put_assay]

/-- The crossing of a channel with a status. -/
theorem State.orPut_zxok_sampled (v : Nat) : (s.orPut AS_ASTAT_ZXOK v).sampled = s.sampled := by
  have hput : (s.orPut AS_ASTAT_ZXOK v).sampled = (s.put AS_ASTAT_ZXOK (s.get AS_ASTAT_ZXOK ||| v)).sampled := rfl
  rw [hput, State.put_astat_sampled s _ (by decide)]

theorem State.raise_sampled (src : Nat) : (s.raise src).sampled = s.sampled :=
  (State.raise_evolves (.refl _ s) src (covers_self _)).sampled (by decide)

/-- The resonant filters. -/
theorem State.assayFilter_sampled : s.assayFilter.sampled = s.sampled := by
  unfold State.assayFilter
  exact State.each_keeps State.sampled _ _ (by intro _ _; rfl) s

/-- The sums count the sample. -/
theorem State.assaySum_sampled :
    s.assaySum.sampled = { s.sampled with tick := s.assay.tick + 1, ivCount := s.assay.ivCount + 1 } := by
  unfold State.assaySum
  dsimp only
  exact State.each_keeps State.sampled _ _ (by intro _ _; rfl) _

/-- The crossing detectors and the reference channel. -/
theorem State.refShow_sampled : s.refShow.sampled = s.sampled := by
  have hchange : (s.put AS_ASTAT_REFCHG 1).sampled = s.sampled := State.put_astat_sampled s _ (by decide)
  unfold State.refShow
  split
  · rfl
  · split
    · split
      · rfl
      · exact hchange
    · rfl

theorem State.crossStep_sampled (x : Fin 3) : (s.crossStep x).1.sampled = s.sampled := by
  unfold State.crossStep
  generalize CrossU.step _ _ _ _ _ = r
  obtain ⟨u, hit⟩ := r
  dsimp only
  split
  · exact State.orPut_zxok_sampled _ _
  · rfl

theorem State.crossSteps_sampled : s.crossSteps.1.sampled = s.sampled :=
  (State.refShow_sampled _).trans ((State.crossStep_sampled _ 2).trans ((State.crossStep_sampled _ 1).trans (State.crossStep_sampled s 0)))

/-- Energy that is added, with the pulses that follow it. -/
theorem State.queuePulses_sampled (o k : Nat) : (s.queuePulses o k).sampled = s.sampled :=
  (State.queuePulses_evolves (.refl _ s) o k (covers_self _)).sampled (by decide)

theorem State.energyAdd_sampled (r : Fin 16) (e : Nat) : (s.energyAdd r e).sampled = s.sampled := by
  have hpulses : ∀ (t : State) r n, (t.pulsesFor r n).sampled = t.sampled := fun t r n =>
    State.each_keeps State.sampled _ _ (fun t o => by
      dsimp only
      split
      · rfl
      · rw [State.queuePulses_sampled]
        rfl) t
  have hmaster : ∀ (t : State) r m, (t.putMaster r m).sampled = t.sampled := fun t r m =>
    (State.putMaster_evolves (.refl _ t) r m (covers_self _)).sampled (by decide)
  unfold State.energyAdd
  dsimp only
  split
  · rfl
  · rw [hpulses, hmaster]
    rfl

theorem State.direct_sampled (phase kind : Nat) (sum : Int) : (s.direct phase kind sum).sampled = s.sampled := by
  unfold State.direct
  generalize (4 * phase + kind + if sum < 0 then 1 else 0) = r
  dsimp only
  split
  · exact State.energyAdd_sampled s _ _
  · rfl

/-- The end of an interval begins the next. -/
theorem State.intervalEnd_sampled : s.intervalEnd.sampled = { s.sampled with ivCount := 0 } := by
  let t := s.each (List.finRange 3) (fun t x => (t.direct x.val 0 s.assay.sp[x]).direct x.val 2 s.assay.sq[x])
  have ht : t.sampled = s.sampled := State.each_keeps State.sampled _ _ (fun t x => by rw [State.direct_sampled, State.direct_sampled]) s
  have hsum : ((t.direct 3 0 s.assay.sp.toList.sum).direct 3 2 s.assay.sq.toList.sum).sampled = s.sampled := by
    rw [State.direct_sampled, State.direct_sampled, ht]
  exact congrArg (fun v : SampleView => { v with ivCount := 0 }) hsum

/-- A window's results are results alone, but for the tuning of the filters. -/
theorem State.windowResults_eq : ∃ w, s.windowResults = w.retuneFilters ∧ Evolves [.fresh, .freeIdx, .reg .AS_RES] s w :=
  ⟨_, rfl, State.angleResults_evolves (State.freqResult_evolves (State.each_evolves (State.putFit_evolves (State.each_evolves (State.putInt_evolves
    (State.putInt_evolves (State.each_evolves (State.each_evolves (.refl _ s) _ _ (fun _ _ h => State.rmsResult_evolves h _ _ _ (by decide))) _ _
      (fun _ _ h => State.powerResult_evolves (State.powerResult_evolves h _ _ _ (by decide)) _ _ _ (by decide))) _ _ _ (by decide) (by decide))
    _ _ _ (by decide) (by decide)) _ _ (fun _ _ h => State.putFit_evolves h _ _ _ _ (by decide) (by decide))) _ _ _ _ (by decide) (by decide)) _ _
    (fun _ _ h => State.putInt_evolves h _ _ _ (by decide) (by decide))) (by decide)) (by decide)⟩

theorem State.windowResults_sampled : s.windowResults.sampled = s.sampled := by
  obtain ⟨w, heq, hev⟩ := s.windowResults_eq
  have hretune : w.retuneFilters.sampled = w.sampled := by
    unfold State.retuneFilters
    split <;> rfl
  rw [heq, hretune, hev.sampled (by decide)]

/-- A window that is published, or goes on. -/
theorem State.windowPublish_sampled (first : Option (Nat × Nat)) : (s.windowPublish first).sampled = s.sampled := by
  have hrecord : ∀ (t : State) a b c d, (t.record 52 a b c d).sampled = t.sampled := fun t a b c d =>
    (State.record_evolves (.refl _ t) 52 a b c d (covers_self _)).sampled (by decide)
  have hbump : ∀ t : State, (t.bump AS_WNUM_WNUM).sampled = t.sampled := fun t =>
    (State.bump_evolves (.refl _ t) AS_WNUM_WNUM 0 0 1 (covers_self _)).sampled (by decide)
  have hrestart : ∀ t : State, (t.windowRestart first).sampled = t.sampled := fun _ => rfl
  unfold State.windowPublish
  dsimp only
  rw [hrestart, hrecord, State.raise_sampled, hbump, State.windowResults_sampled]

theorem State.windowClose_sampled (first : Option (Nat × Nat)) : (s.windowClose first).sampled = s.sampled := by
  unfold State.windowClose
  split
  · exact State.put_astat_sampled s (f := AS_ASTAT_SHORTWIN) 1 (by decide)
  · exact State.windowPublish_sampled s first

/-- A record that closes ends the interval. -/
theorem State.closeRecord_sampled (kind : Nat) : (s.closeRecord kind).sampled = { s.sampled with ivCount := 0 } := by
  have hcount : ∀ t : State, (t.bumpSat AS_SAVESTAT_EARLYCNT).sampled = t.sampled := fun t =>
    (State.bumpSat_evolves (.refl _ t) AS_SAVESTAT_EARLYCNT 0 0 1 (covers_self _)).sampled (by decide)
  have hslot : ∀ (t : State) b r, (t.putSlot b r).sampled = t.sampled := fun t b r =>
    (State.putSlot_evolves (.refl _ t) b r (covers_self _)).sampled (by decide)
  have hsaved : ∀ (t : State) v, (t.updAssay (fun a => { a with save := v, closeDue := none })).sampled = t.sampled := fun _ _ => rfl
  unfold State.closeRecord
  dsimp only
  split
  all_goals simp only [hcount, hsaved, hslot, State.intervalEnd_sampled]

/-- A calibration block's images are registers alone. -/
theorem State.calApply_eq (b : List Byte) (arb : Nat) : ∃ w, s.calApply b arb = w.updAssay (fun a => { a with cal := none, calstamp := arb }) ∧
    Evolves [.reg .AS_MCFG, .reg .AS_SAVEINT, .reg .AS_PMAX, .reg .AS_PCONST, .reg .AS_ZXCFG, .reg .AS_CHGAIN, .reg .AS_CHOFS, .reg .AS_PHDLY,
      .reg .AS_QGAIN, .reg .AS_QOFS] s w := by
  refine ⟨_, rfl, State.each_evolves (State.each_evolves ?_ _ _ (fun _ _ h => ?_)) _ _ (fun _ _ h => ?_)⟩
  · exact State.wrw_evolves (State.wrw_evolves (State.wrw_evolves (State.wrw_evolves (State.wrw_evolves (.refl _ s) _ _ _ _ (by decide)) _ _ _ _
      (by decide)) _ _ _ _ (by decide)) _ _ _ _ (by decide)) _ _ _ _ (by decide)
  · exact State.wrw_evolves (State.wrw_evolves (State.wrw_evolves h _ _ _ _ (by decide)) _ _ _ _ (by decide)) _ _ _ _ (by decide)
  · exact State.wrw_evolves (State.wrw_evolves h _ _ _ _ (by decide)) _ _ _ _ (by decide)

/-- A calibration block that acts. -/
theorem State.calApply_sampled (b : List Byte) (arb : Nat) : (s.calApply b arb).sampled = s.sampled := by
  obtain ⟨w, heq, hev⟩ := s.calApply_eq b arb
  rw [heq, ← hev.sampled (by decide)]
  rfl

/-- The close of a record that is due at the boundary. -/
theorem State.closeDue_sampled : s.closeDue.sampled = s.sampled ∨ s.closeDue.sampled = { s.sampled with ivCount := 0 } := by
  have hstop : ∀ t : State, t.assayStop.sampled = t.sampled := fun _ => rfl
  unfold State.closeDue
  split
  · exact .inr (by rw [hstop, State.closeRecord_sampled])
  · exact .inr (by rw [State.calApply_sampled, State.closeRecord_sampled])
  · split
    · exact .inr (State.closeRecord_sampled s _)
    · exact .inl rfl
  · split
    · exact .inr (State.closeRecord_sampled s _)
    · exact .inl rfl

end Steps

/-! ### The samples are taken (R244) -/

section Take
variable (s : State) (x : Vector (BitVec 24) 8)

/-- A corrected sample joins its channel's history; a clamp sets its bit of CLIP. -/
def State.takeSample (s : State) (c : Fin 8) (r : Int × Bool) : State :=
  let s1 := s.updAssay (fun a => { a with hist := upd a.hist c (fun l => (r.1 :: l).take 16) })
  if r.2 then s1.orPut AS_ASTAT_CLIP (2 ^ c.val) else s1

/-- A correction rests on the channel's offset and gain. -/
theorem Evolves.assayCorrect {A : List Part} {s t : State} (h : Evolves A s t) (hp : Part.reg .AS_CHOFS ∉ A ∧ Part.reg .AS_CHGAIN ∉ A) (c : Fin 8)
    (v : BitVec 24) : t.assayCorrect c.val v = s.assayCorrect c.val v := by
  unfold State.assayCorrect
  rw [h.get (f := AS_CHOFS_OFS) (RegId.has_below (by decide) c.isLt) hp.1, h.rdw (r := .AS_CHGAIN) (RegId.has_below (by decide) c.isLt) hp.2]

/-- A bit that is set in a field stays when another is set. -/
theorem State.bitOf_orPut_of_bitOf (f : Fld) {k : Nat} (hk : k < f.width) (hw : f.lo + f.width ≤ 32) (h : f.reg.has 0 0 = true) {v : Nat}
    (hset : s.bitOf f k = true) : (s.orPut f v).bitOf f k = true := by
  have hget : (s.orPut f v).get f = (s.get f ||| v) % 2 ^ f.width := State.get_put s f (s.get f ||| v) 0 0 h hw
  rw [State.bitOf_eq _ _ (by omega)] at hset ⊢
  rw [hget, Nat.testBit_mod_two_pow, decide_eq_true hk, Bool.true_and, Nat.testBit_or, hset, Bool.true_or]

theorem State.takeSample_evolves (c : Fin 8) (r : Int × Bool) : Evolves [.fresh, .assay, .reg .AS_ASTAT] s (s.takeSample c r) :=
  have hhist := State.updAssay_evolves (.refl _ s) _ (by decide)
  ite_evolves (State.orPut_evolves hhist _ _ _ _ (by decide)) hhist

/-- A sample leaves the corrections. -/
theorem State.takeSample_assayCorrect (c d : Fin 8) (r : Int × Bool) (v : BitVec 24) :
    (s.takeSample c r).assayCorrect d.val v = s.assayCorrect d.val v := (s.takeSample_evolves c r).assayCorrect (by decide) d v

/-- Samples are corrected as the registers stand before the first is taken. -/
theorem State.takeSample_each (l : List (Fin 8)) (t : State) (h : ∀ (c : Fin 8) v, t.assayCorrect c.val v = s.assayCorrect c.val v) :
    t.each l (fun t (c : Fin 8) => t.takeSample c (t.assayCorrect c.val x[c])) =
      t.each l (fun t (c : Fin 8) => t.takeSample c (s.assayCorrect c.val x[c])) := by
  unfold State.each
  induction l generalizing t with
  | nil => rw [List.foldl_nil, List.foldl_nil]
  | cons c l ih =>
    rw [List.foldl_cons, List.foldl_cons, h c]
    exact ih _ (fun d v => by rw [State.takeSample_assayCorrect, h d v])

/-- Samples are taken channel by channel. -/
theorem State.assayTake_eq : s.assayTake x = s.each (List.finRange 8) (fun t (c : Fin 8) => t.takeSample c (s.assayCorrect c.val x[c])) := by
  have heq : s.assayTake x = s.each (List.finRange 8) (fun t (c : Fin 8) => t.takeSample c (t.assayCorrect c.val x[c])) := by
    unfold State.assayTake State.takeSample
    refine congrArg _ (funext fun t => funext fun c => ?_)
    generalize t.assayCorrect c.val x[c] = r
    rfl
  exact heq.trans (State.takeSample_each s x _ s (fun _ _ => rfl))

/-- A sample leaves what is not its channel's. -/
theorem State.takeSample_hist_ne {c d : Fin 8} (r : Int × Bool) (h : c ≠ d) : (s.takeSample c r).assay.hist[d] = s.assay.hist[d] := by
  have hne : c.val ≠ d.val := fun e => h (Fin.ext e)
  unfold State.takeSample
  dsimp only
  split
  all_goals simp [State.orPut, upd, hne]

theorem State.takeSample_hist (c : Fin 8) (r : Int × Bool) : (s.takeSample c r).assay.hist[c] = (r.1 :: s.assay.hist[c]).take 16 := by
  unfold State.takeSample
  dsimp only
  split
  all_goals simp [State.orPut, upd]

/-- Each history takes its channel's sample. -/
theorem State.assayTake_hist (c : Fin 8) : (s.assayTake x).assay.hist[c] = ((s.assayCorrect c.val x[c]).1 :: s.assay.hist[c]).take 16 := by
  obtain ⟨t, ht, hlast⟩ := State.each_once (fun t => t.assay.hist[c]) (f := fun t (c : Fin 8) => t.takeSample c (s.assayCorrect c.val x[c])) (x := c)
    (fun t d hd => t.takeSample_hist_ne _ hd) (List.finRange 8) s (List.nodup_finRange 8) (List.mem_finRange c)
  rw [State.assayTake_eq]
  exact hlast.trans ((t.takeSample_hist c _).trans (by rw [ht]))

/-- A clamp shows. -/
theorem State.assayTake_clip (c : Fin 8) (h : (s.assayCorrect c.val x[c]).2 = true) : (s.assayTake x).bitOf AS_ASTAT_CLIP c.val = true := by
  rw [State.assayTake_eq]
  refine State.each_reaches (fun t => t.bitOf AS_ASTAT_CLIP c.val = true) (x := c) (fun t => ?_) (fun t d ht => ?_) _ s (List.mem_finRange c)
  · unfold State.takeSample
    dsimp only
    rw [if_pos h]
    exact State.bitOf_orPut _ AS_ASTAT_CLIP c.isLt (by decide) 0 0 (by decide)
  · unfold State.takeSample
    dsimp only
    split
    · exact State.bitOf_orPut_of_bitOf _ AS_ASTAT_CLIP c.isLt (by decide) (by decide) ht
    · exact ht

/-- The counts and the snapshots are as before. -/
theorem State.assayTake_rest : (s.assayTake x).assay.tick = s.assay.tick ∧ (s.assayTake x).assay.ivCount = s.assay.ivCount ∧
    (s.assayTake x).assay.snapDue = s.assay.snapDue ∧ (s.assayTake x).get AS_SNAPNUM_SNAPNUM = s.get AS_SNAPNUM_SNAPNUM := by
  have hone : ∀ (t : State) c r, ((t.takeSample c r).assay.tick, (t.takeSample c r).assay.ivCount, (t.takeSample c r).assay.snapDue) =
      (t.assay.tick, t.assay.ivCount, t.assay.snapDue) := fun t c r => by
    unfold State.takeSample
    dsimp only
    split <;> rfl
  have hall : ((s.assayTake x).assay.tick, (s.assayTake x).assay.ivCount, (s.assayTake x).assay.snapDue) =
      (s.assay.tick, s.assay.ivCount, s.assay.snapDue) := by
    rw [State.assayTake_eq]
    exact State.each_keeps (fun t => (t.assay.tick, t.assay.ivCount, t.assay.snapDue)) _ _ (fun t c => hone t c _) s
  have hnum : (s.assayTake x).get AS_SNAPNUM_SNAPNUM = s.get AS_SNAPNUM_SNAPNUM :=
    (State.assayTake_evolves (.refl _ s) x (covers_self _)).get (f := AS_SNAPNUM_SNAPNUM) (by decide) (by decide)
  obtain ⟨htick, hcount, hdue⟩ : _ ∧ _ ∧ _ := by simpa only [Prod.mk.injEq] using hall
  exact ⟨htick, hcount, hdue, hnum⟩

end Take

/-! ### The boundary up to its snapshot -/

section Boundary
variable (s : State)

/-- A reference crossing at `p` counts, and ends the interval as its 200th sample does (R247, R251). -/
def State.endsInterval (s : State) (hit : Bool) (p : Nat × Nat) : State :=
  let s1 := if hit then s.updAssay (fun a => a.refCross p) else s
  if hit || decide (200 ≤ s1.assay.ivCount) then s1.intervalEnd else s1

/-- The window closes at a crossing that is its last, or at its cap (R249). -/
def State.endsWindow (s : State) (hit : Bool) (p : Nat × Nat) : State :=
  let s1 := if 64000 ≤ s.assay.count then s.put AS_ASTAT_WIN_CAP 1 else s
  if hit && !s1.on AS_MCFG_WINSRC && decide (s1.get AS_MCFG_NCYCM1 < s1.assay.crossings) then s1.windowClose (some p)
  else if 64000 ≤ s1.assay.count then s1.windowPublish none
  else s1

/-- A boundary by its steps. -/
theorem State.assaySample_eq (x : Vector (BitVec 24) 8) : ∃ hit p, s.assaySample x =
    (((((s.assayTake x).assayFilter).assaySum).crossSteps.1.endsInterval hit p).endsWindow hit p).closeDue.snapTake := ⟨_, _, rfl⟩

theorem State.endsInterval_sampled (hit : Bool) (p : Nat × Nat) : (s.endsInterval hit p).sampled = { s.sampled with ivCount := 0 } ∨
    ((s.endsInterval hit p).sampled = s.sampled ∧ s.assay.ivCount < 200) := by
  let u := if hit then s.updAssay (fun a => a.refCross p) else s
  have hu : u.sampled = s.sampled := by
    unfold u
    split <;> rfl
  have hcount : u.assay.ivCount = s.assay.ivCount := congrArg SampleView.ivCount hu
  have heq : s.endsInterval hit p = if hit || decide (200 ≤ u.assay.ivCount) then u.intervalEnd else u := rfl
  rw [heq]
  split
  · exact .inl (by rw [State.intervalEnd_sampled, hu])
  · next h =>
    rw [Bool.or_eq_true, decide_eq_true_eq, not_or, hcount] at h
    exact .inr ⟨hu, by omega⟩

theorem State.endsWindow_sampled (hit : Bool) (p : Nat × Nat) : (s.endsWindow hit p).sampled = s.sampled := by
  let u := if 64000 ≤ s.assay.count then s.put AS_ASTAT_WIN_CAP 1 else s
  have hu : u.sampled = s.sampled := by
    unfold u
    split
    · exact State.put_astat_sampled s (f := AS_ASTAT_WIN_CAP) 1 (by decide)
    · rfl
  have heq : s.endsWindow hit p = if hit && !u.on AS_MCFG_WINSRC && decide (u.get AS_MCFG_NCYCM1 < u.assay.crossings) then u.windowClose (some p)
      else if 64000 ≤ u.assay.count then u.windowPublish none else u := rfl
  rw [heq]
  split
  · rw [State.windowClose_sampled, hu]
  · split
    · rw [State.windowPublish_sampled, hu]
    · exact hu

/-- What a boundary leaves up to its snapshot, from the samples taken on (R242, R251). -/
theorem State.assaySample_sampled (x : Vector (BitVec 24) 8) : ∃ w : State, s.assaySample x = w.snapTake ∧
    ∃ n, w.sampled = { (s.assayTake x).sampled with tick := (s.assayTake x).assay.tick + 1, ivCount := n } ∧
      (199 ≤ (s.assayTake x).assay.ivCount → n = 0) := by
  obtain ⟨hit, p, heq⟩ := s.assaySample_eq x
  generalize s.assayTake x = u at heq ⊢
  have hcross : u.assayFilter.assaySum.crossSteps.1.sampled = { u.sampled with tick := u.assay.tick + 1, ivCount := u.assay.ivCount + 1 } := by
    have htick : u.assayFilter.assay.tick = u.assay.tick := congrArg SampleView.tick u.assayFilter_sampled
    have hcount : u.assayFilter.assay.ivCount = u.assay.ivCount := congrArg SampleView.ivCount u.assayFilter_sampled
    rw [State.crossSteps_sampled, State.assaySum_sampled, State.assayFilter_sampled, htick, hcount]
  generalize u.assayFilter.assaySum.crossSteps.1 = c at heq hcross
  have hcount : c.assay.ivCount = u.assay.ivCount + 1 := congrArg SampleView.ivCount hcross
  have hinterval := c.endsInterval_sampled hit p
  rw [hcross, hcount] at hinterval
  have hdue := ((c.endsInterval hit p).endsWindow hit p).closeDue_sampled
  rw [State.endsWindow_sampled] at hdue
  refine ⟨_, heq, ?_⟩
  rcases hdue with hdue | hdue
  · rcases hinterval with hint | ⟨hint, hlt⟩
    · exact ⟨0, hdue.trans hint, fun _ => rfl⟩
    · exact ⟨_, hdue.trans hint, fun h => absurd hlt (by omega)⟩
  · refine ⟨0, hdue.trans ?_, fun _ => rfl⟩
    rcases hinterval with hint | ⟨hint, -⟩
    all_goals rw [hint]

/-- A count reads as one more. -/
theorem State.get_bump (f : Fld) (i j : Nat) (h : f.reg.has i j = true) (hw : f.lo + f.width ≤ 32) :
    (s.bump f i j).get f i j = (s.get f i j + 1) % 2 ^ f.width := State.get_put s f _ i j h hw

/-- A count leaves the fields that share no bit with it. -/
theorem State.get_bump_of_apart {f g : Fld} (i j : Nat) (h : g.reg.has i j = true) (hne : f.Apart g) : (s.bump f i j).get g i j = s.get g i j :=
  State.get_put_of_apart s _ i j h hne

/-- A snapshot that is due takes its image, and counts (R254). -/
theorem State.snapTake_of_due (h : s.assay.snapDue = true) : ∃ u : State, Evolves [.reg .AS_SNAPIMG] s u ∧
    s.snapTake = ((u.put AS_ASTAT_SNAPVALID 1).bump AS_SNAPNUM_SNAPNUM).updAssay (fun a => { a with snapDue := false }) := by
  refine ⟨_, ?_, if_pos h⟩
  refine State.each_evolves (.refl _ s) _ _ (fun t p ht => ?_)
  exact State.wrw_evolves ht _ _ _ _ (covers_self _)

/-- A snapshot leaves the Assay and the clamps, and none leaves the state. -/
theorem State.snapTake_keeps : s.snapTake.assay = { s.assay with snapDue := false } ∧ s.snapTake.get AS_ASTAT_CLIP = s.get AS_ASTAT_CLIP ∧
    (s.assay.snapDue = true → s.snapTake.get AS_ASTAT_SNAPVALID = 1 ∧
      s.snapTake.get AS_SNAPNUM_SNAPNUM = (s.get AS_SNAPNUM_SNAPNUM + 1) % 2 ^ AS_SNAPNUM_SNAPNUM.width) := by
  by_cases hdue : s.assay.snapDue = true
  · obtain ⟨u, hu, heq⟩ := s.snapTake_of_due hdue
    rw [heq, State.updAssay_assay, State.updAssay_get, State.updAssay_get, State.updAssay_get,
      State.get_bump_of_apart (f := AS_SNAPNUM_SNAPNUM) (g := AS_ASTAT_CLIP) _ 0 0 (by decide) (by decide),
      State.get_bump_of_apart (f := AS_SNAPNUM_SNAPNUM) (g := AS_ASTAT_SNAPVALID) _ 0 0 (by decide) (by decide),
      State.get_bump _ AS_SNAPNUM_SNAPNUM 0 0 (by decide) (by decide),
      State.get_put_of_apart (f := AS_ASTAT_SNAPVALID) (g := AS_ASTAT_CLIP) u 1 0 0 (by decide) (by decide),
      State.get_put_of_apart (f := AS_ASTAT_SNAPVALID) (g := AS_SNAPNUM_SNAPNUM) u 1 0 0 (by decide) (by decide),
      State.get_put u AS_ASTAT_SNAPVALID 1 0 0 (by decide) (by decide)]
    refine ⟨?_, hu.get (by decide) (by decide), fun _ => ⟨rfl, ?_⟩⟩
    · rw [State.bump, State.put_assay, State.put_assay, hu.kept .assay (by decide)]
    · rw [hu.get (f := AS_SNAPNUM_SNAPNUM) (by decide) (by decide)]
  · have heq : s.snapTake = s := if_neg hdue
    rw [heq]
    exact ⟨by rw [← Bool.eq_false_iff.2 hdue], rfl, fun h => absurd h hdue⟩

end Boundary

end Sys2Proof.Machine
end
section
/-! SUPPORT. The Assay's timed commands: a sample boundary and a PERIODIC record (R242, R256). -/

namespace Sys2Proof.Machine

/-- A timed event acts at its deadline (R33). -/
theorem State.onTimer_of_deadline (s : State) {t : Timer} {d : Nat} (h : s.deadline t = some d) (f : State → State) :
    ∃ u, Evolves onTimerParts s u ∧ u.now = max s.now d ∧ s.onTimer t f = f u := by
  refine ⟨(s.advanceTo d).disarm t, ?_, s.advanceTo_now d, ?_⟩
  · exact State.disarm_evolves (State.advanceTo_evolves (.refl _ s) d (by decide)) t (by decide)
  · unfold State.onTimer
    rw [h]

/-- No deadline, no event. -/
theorem State.onTimer_of_none (s : State) {t : Timer} (h : s.deadline t = none) (f : State → State) : s.onTimer t f = s := by
  unfold State.onTimer
  rw [h]

section Commands
variable (s : State)

/-- What a sample boundary makes of the histories, the clamps, the counts and the snapshot (R244, R251, R254). -/
def State.Sampled (s : State) (x : Vector (BitVec 24) 8) (t : State) : Prop :=
  (∀ c : Fin 8, t.assay.hist[c] = ((s.assayCorrect c.val x[c]).1 :: s.assay.hist[c]).take 16) ∧
  (∀ c : Fin 8, (s.assayCorrect c.val x[c]).2 = true → t.bitOf AS_ASTAT_CLIP c.val = true) ∧
  t.assay.tick = s.assay.tick + 1 ∧
  (199 ≤ s.assay.ivCount → t.assay.ivCount = 0) ∧
  (s.assay.snapDue = true → t.on AS_ASTAT_SNAPVALID = true ∧ t.assay.snapDue = false ∧
    t.get AS_SNAPNUM_SNAPNUM = (s.get AS_SNAPNUM_SNAPNUM + 1) % 2 ^ AS_SNAPNUM_SNAPNUM.width)

theorem State.assaySample_takes (x : Vector (BitVec 24) 8) : s.Sampled x (s.assaySample x) := by
  obtain ⟨w, hw, n, hview, hzero⟩ := s.assaySample_sampled x
  obtain ⟨htick, hcount, hdue, hnum⟩ := s.assayTake_rest x
  obtain ⟨hassay, hclip, hsnap⟩ := w.snapTake_keeps
  have hwhist : w.assay.hist = (s.assayTake x).assay.hist := congrArg SampleView.hist hview
  have hwclip : w.get AS_ASTAT_CLIP = (s.assayTake x).get AS_ASTAT_CLIP := congrArg SampleView.clip hview
  have hwtick : w.assay.tick = (s.assayTake x).assay.tick + 1 := congrArg SampleView.tick hview
  have hwcount : w.assay.ivCount = n := congrArg SampleView.ivCount hview
  have hwdue : w.assay.snapDue = (s.assayTake x).assay.snapDue := congrArg SampleView.snapDue hview
  have hwnum : w.get AS_SNAPNUM_SNAPNUM = (s.assayTake x).get AS_SNAPNUM_SNAPNUM := congrArg SampleView.snapNum hview
  unfold State.Sampled
  rw [hw, hassay]
  refine ⟨fun c => ?_, fun c hc => ?_, hwtick.trans (by rw [htick]), fun h => hwcount.trans (hzero (by rw [hcount]; exact h)), fun h => ?_⟩
  · exact (congrArg (fun v : Vector (List Int) 8 => v[c]) hwhist).trans (s.assayTake_hist x c)
  · unfold State.bitOf
    rw [hclip, hwclip]
    exact s.assayTake_clip x c hc
  · obtain ⟨hvalid, hcounted⟩ := hsnap (by rw [hwdue, hdue]; exact h)
    refine ⟨?_, rfl, by rw [hcounted, hwnum, hnum]⟩
    unfold State.on
    rw [hvalid]
    rfl

/-- A boundary rests on the Assay's state and settings alone. -/
theorem State.Sampled.of_evolves {A : List Part} {s u t : State} {x : Vector (BitVec 24) 8} (h : Evolves A s u)
    (hp : Part.assay ∉ A ∧ Part.reg .AS_CHOFS ∉ A ∧ Part.reg .AS_CHGAIN ∉ A ∧ Part.reg .AS_SNAPNUM ∉ A) (ht : u.Sampled x t) :
    s.Sampled x t := by
  obtain ⟨hpa, hpo, hpg, hpn⟩ := hp
  have hassay : u.assay = s.assay := h.kept .assay hpa
  unfold State.Sampled at ht ⊢
  rw [hassay, h.get (f := AS_SNAPNUM_SNAPNUM) (by decide) hpn] at ht
  simpa only [h.assayCorrect ⟨hpo, hpg⟩] using ht

/-- A running Assay takes the boundary and waits for the next (R242). -/
def State.boundary (x : Vector (BitVec 24) 8) (s : State) : State :=
  if s.assay.running then
    let s1 := s.assaySample x
    if s1.assay.running then s1.arm .assaySample samplePeriod else s1
  else s

theorem State.boundary_of_running {s : State} (x : Vector (BitVec 24) 8) (h : s.assay.running = true) :
    s.boundary x = if (s.assaySample x).assay.running then (s.assaySample x).arm .assaySample samplePeriod else s.assaySample x := if_pos h

theorem State.boundary_of_stopped {s : State} (x : Vector (BitVec 24) 8) (h : s.assay.running = false) : s.boundary x = s :=
  if_neg (by rw [h]; decide)

theorem exec_assaySample (x : Vector (BitVec 24) 8) : exec (.assaySample x) s = .next (s.onTimer .assaySample (State.boundary x)) := rfl

/-- A sample boundary, at its deadline. -/
theorem assaySample_running (x : Vector (BitVec 24) 8) (d : Nat) (hrun : s.assay.running = true) (hd : s.deadline .assaySample = some d) :
    ∃ t, exec (.assaySample x) s = .next t ∧ s.Sampled x t ∧ t.now = max s.now d ∧
      (t.assay.running = true → t.deadline .assaySample = some (max s.now d + 31250)) := by
  obtain ⟨u, hu, hnow, htimer⟩ := s.onTimer_of_deadline hd (State.boundary x)
  have hassay : u.assay = s.assay := hu.kept .assay (by decide)
  have htakes : s.Sampled x (u.assaySample x) := (u.assaySample_takes x).of_evolves hu (by decide)
  have hsnow : (u.assaySample x).now = max s.now d :=
    ((State.assaySample_evolves (.refl _ u) x (covers_self _)).kept .now (by decide)).trans hnow
  rw [State.boundary_of_running x (by rw [hassay, hrun])] at htimer
  generalize u.assaySample x = v at *
  refine ⟨_, congrArg Host.Outcome.next htimer, ?_⟩
  split
  · exact ⟨htakes, hsnow, fun _ => by rw [State.deadline_arm, hsnow]; rfl⟩
  · next h => exact ⟨htakes, hsnow, fun hr => absurd hr h⟩

/-- A stopped Assay keeps its state. -/
theorem assaySample_stopped (x : Vector (BitVec 24) 8) (hrun : s.assay.running = false) :
    ∃ t, exec (.assaySample x) s = .next t ∧ t.assay = s.assay := by
  refine ⟨_, exec_assaySample s x, ?_⟩
  cases hd : s.deadline .assaySample with
  | none => rw [State.onTimer_of_none s hd]
  | some d =>
    obtain ⟨u, hu, -, htimer⟩ := s.onTimer_of_deadline hd (State.boundary x)
    have hassay : u.assay = s.assay := hu.kept .assay (by decide)
    rw [htimer, State.boundary_of_stopped x (by rw [hassay, hrun]), hassay]

/-- 0.9 SAVEINT after the last record a PERIODIC record is due. -/
theorem periodic_due (d : Nat) (hd : s.deadline .savePeriod = some d) (hrun : s.assay.running = true) :
    ∃ t, exec .periodic s = .next t ∧ t.assay.closeDue = some (s.assay.closeDue.getD savePeriodic) ∧ t.now = max s.now d := by
  obtain ⟨u, hu, hnow, htimer⟩ := s.onTimer_of_deadline hd (fun s =>
    if s.assay.running then s.updAssay (fun a => { a with closeDue := some (a.closeDue.getD savePeriodic) }) else s)
  have hassay : u.assay = s.assay := hu.kept .assay (by decide)
  rw [if_pos (by rw [hassay]; exact hrun)] at htimer
  refine ⟨_, congrArg Host.Outcome.next htimer, ?_, hnow⟩
  rw [State.updAssay_assay, hassay]

end Commands
end Sys2Proof.Machine
end
section
/-! SUPPORT. A crossing of the Assay that stays away (R247, R248). -/

namespace Sys2Proof.Machine

section Crossing
variable (s : State)

/-- A bit that is subtracted where it is set is 0 after. -/
theorem testBit_sub_two_pow : ∀ g < 8, ∀ k < 3, Nat.testBit g k = true → Nat.testBit ((g - 2 ^ k) % 8) k = false := by decide

/-- Bits that are set in a field leave the fields that share none with it. -/
theorem State.get_orPut_of_apart {f g : Fld} (v i j : Nat) (h : g.reg.has i j = true) (hne : f.Apart g) : (s.orPut f v i j).get g i j = s.get g i j :=
  State.get_put_of_apart s (s.get f i j ||| v) i j h hne

/-- The reference shows in REFCHG alone. -/
theorem State.refShow_get (g : Fld) (i j : Nat) (h : g.reg.has i j = true) (hne : g.reg ≠ .AS_ASTAT ∨ g.lo + g.width ≤ 21 ∨ 22 ≤ g.lo) :
    s.refShow.get g i j = s.get g i j := by
  unfold State.refShow
  split
  · rfl
  · dsimp only
    rw [State.updAssay_get]
    split
    · split
      · rfl
      · exact State.get_put_ne s AS_ASTAT_REFCHG g 1 0 0 i j h (by tauto)
    · rfl

/-- Without a set bit of ZXOK no channel is the reference. -/
theorem State.refChannel_of_zero (h : s.get AS_ASTAT_ZXOK = 0) : s.refChannel = none := by
  refine List.find?_eq_none.2 (fun k hk => ?_)
  rw [State.bitOf_eq _ _ (by have := List.mem_range.1 hk; omega), h, Nat.zero_testBit]
  decide

/-- The channel's bit leaves ZXOK for ZX_LOST. -/
def State.markLost (s : State) (k : Fin 3) : State :=
  (s.put AS_ASTAT_ZXOK (s.get AS_ASTAT_ZXOK - 2 ^ k.val)).orPut AS_ASTAT_ZX_LOST (2 ^ k.val)

/-- FREQ without a channel, and the reference of those left (R248). -/
def State.referenceLeft (s : State) : State := (if s.refChannel.isNone then s.put AS_RES_VALUE 0 24 else s).refShow

theorem exec_zxLost (k : Fin 3) : exec (.zxLost k) s = .next (if s.assay.running && s.bitOf AS_ASTAT_ZXOK k.val &&
    decide (s.zxtoSamples ≤ s.assay.cross[k].since) then ((s.markLost k).raise assaySource).referenceLeft else s) := rfl

/-- In time nothing changes. -/
theorem zxLost_in_time (k : Fin 3)
    (h : s.assay.running = false ∨ s.bitOf AS_ASTAT_ZXOK k.val = false ∨ s.assay.cross[k].since < s.zxtoSamples) :
    ∃ t, exec (.zxLost k) s = .next t ∧ t = s := by
  refine ⟨s, (exec_zxLost s k).trans (congrArg _ (if_neg ?_)), rfl⟩
  rw [Bool.and_eq_true, Bool.and_eq_true, decide_eq_true_eq]
  rintro ⟨⟨hrun, hok⟩, hlate⟩
  rcases h with h | h | h
  · exact Bool.false_ne_true (h.symm.trans hrun)
  · exact Bool.false_ne_true (h.symm.trans hok)
  · omega

theorem State.markLost_evolves (k : Fin 3) : Evolves [.fresh, .reg .AS_ASTAT] s (s.markLost k) :=
  State.orPut_evolves (State.put_evolves (.refl _ s) _ _ _ _ (by decide)) _ _ _ _ (by decide)

theorem State.markLost_zxok (k : Fin 3) : (s.markLost k).get AS_ASTAT_ZXOK = (s.get AS_ASTAT_ZXOK - 2 ^ k.val) % 8 :=
  (State.get_orPut_of_apart _ (f := AS_ASTAT_ZX_LOST) (g := AS_ASTAT_ZXOK) _ 0 0 (by decide) (by decide)).trans
    (State.get_put s AS_ASTAT_ZXOK _ 0 0 (by decide) (by decide))

theorem State.markLost_lost (k : Fin 3) : (s.markLost k).bitOf AS_ASTAT_ZX_LOST k.val = true :=
  State.bitOf_orPut _ AS_ASTAT_ZX_LOST k.isLt (by decide) 0 0 (by decide)

theorem State.referenceLeft_evolves : Evolves [.fresh, .assay, .reg .AS_ASTAT, .reg .AS_RES] s s.referenceLeft :=
  State.refShow_evolves (ite_evolves (State.put_evolves (.refl _ s) _ _ _ _ (by decide)) (.refl _ s)) (by decide)

/-- ZXOK and ZX_LOST stay as marked. -/
theorem State.referenceLeft_get (g : Fld) (h : g.reg.has 0 0 = true) (hres : g.reg ≠ .AS_RES) (hne : g.lo + g.width ≤ 21) :
    s.referenceLeft.get g = s.get g := by
  unfold State.referenceLeft
  rw [State.refShow_get _ g 0 0 h (.inr (.inl hne))]
  split
  · exact State.get_put_ne s AS_RES_VALUE g 0 24 0 0 0 h (.inl hres)
  · rfl

/-- With no channel left FREQ reads 0. -/
theorem State.referenceLeft_freq (h : s.get AS_ASTAT_ZXOK = 0) : s.referenceLeft.get AS_RES_VALUE 24 = 0 := by
  unfold State.referenceLeft
  rw [State.refShow_get _ AS_RES_VALUE 24 0 (by decide) (by decide), s.refChannel_of_zero h, if_pos Option.isNone_none]
  exact State.get_put s AS_RES_VALUE 0 24 0 (by decide) (by decide)

/-- No crossing for ZXTO clears the channel's ZXOK, sets its ZX_LOST and raises the source. -/
theorem zxLost_late (k : Fin 3) (hrun : s.assay.running = true) (hok : s.bitOf AS_ASTAT_ZXOK k.val = true)
    (hlate : s.zxtoSamples ≤ s.assay.cross[k].since) (hrouted : s.routed assaySource = true) :
    ∃ t, exec (.zxLost k) s = .next t ∧ t.bitOf AS_ASTAT_ZXOK k.val = false ∧ t.bitOf AS_ASTAT_ZX_LOST k.val = true ∧
      t.raised assaySource = true ∧ (s.get AS_ASTAT_ZXOK = 2 ^ k.val → t.get AS_RES_VALUE 24 = 0) := by
  have hk := k.isLt
  have hsmall : s.get AS_ASTAT_ZXOK < 8 := Nat.mod_lt _ (by decide)
  have hurouted : (s.markLost k).routed assaySource = true := by rw [(s.markLost_evolves k).routed (by decide) (by decide), hrouted]
  have hexec : exec (.zxLost k) s = .next ((s.markLost k).raise assaySource).referenceLeft := by
    rw [exec_zxLost, hrun, hok, decide_eq_true hlate]
    rfl
  have hraise : Evolves raiseParts (s.markLost k) ((s.markLost k).raise assaySource) := State.raise_evolves (.refl _ _) _ (covers_self _)
  have hraised := (s.markLost k).raise_raised (src := assaySource) (by decide) hurouted
  have hvrouted := (hraise.routed (by decide) (src := assaySource) (by decide)).trans hurouted
  have hvok := (hraise.get (f := AS_ASTAT_ZXOK) (by decide) (by decide)).trans (s.markLost_zxok k)
  have hvlost := hraise.get (f := AS_ASTAT_ZX_LOST) (i := 0) (j := 0) (by decide) (by decide)
  refine ⟨_, hexec, ?_, ?_, (State.referenceLeft_evolves _).raised (by decide) (by decide) (by decide) hvrouted hraised, fun hlast => ?_⟩
  · rw [State.bitOf_eq _ _ (by omega)] at hok ⊢
    rw [State.referenceLeft_get _ _ (by decide) (by decide) (by decide), hvok]
    exact testBit_sub_two_pow _ hsmall _ hk hok
  · unfold State.bitOf
    rw [State.referenceLeft_get _ _ (by decide) (by decide) (by decide), hvlost]
    exact s.markLost_lost k
  · exact State.referenceLeft_freq _ (by rw [hvok, hlast, Nat.sub_self, Nat.zero_mod])

end Crossing
end Sys2Proof.Machine
end
section
/-! SUPPORT. The Assay's pulses, its S0 inputs and SNAP (R254, R260, R262, R263). -/

namespace Sys2Proof.Machine

section Pulses
variable (s : State)

/-- The output is free, 2 PW after its last start. -/
def State.pulseFree (s : State) (o : Fin 9) : Bool := s.assay.pulseAt[o].all (fun p => decide (p + 2 * s.pulseWidth o.val ≤ s.now))

/-- A queued pulse starts. -/
def State.startPulse (s : State) (o : Fin 9) : State :=
  (s.putBacklog o.val (s.backlog o.val - 1)).updAssay (fun a => { a with pulseAt := a.pulseAt.set o.val (some s.now) o.isLt })

theorem exec_pulseStart (o : Fin 9) : exec (.pulseStart o) s =
    .next (if s.assay.running && s.backlog o.val != 0 && s.pulseFree o then s.startPulse o else s) := by
  show execPulseStart o s = _
  unfold execPulseStart State.pulseFree State.startPulse
  generalize s.pulseWidth o.val = w
  generalize s.assay.pulseAt[o] = p
  cases p with
  | none => rw [Option.all_none]
  | some p => rw [Option.all_some]

/-- A pulse that is not queued, or whose output is not free, does not start. -/
theorem pulseStart_held (o : Fin 9) (h : s.assay.running = false ∨ s.backlog o.val = 0 ∨
      s.assay.pulseAt[o].any (fun p => decide (s.now < p + 2 * s.pulseWidth o.val)) = true) :
    ∃ t, exec (.pulseStart o) s = .next t ∧ t = s := by
  have hnot : ¬ (s.assay.running && s.backlog o.val != 0 && s.pulseFree o) = true := by
    rw [Bool.and_eq_true, Bool.and_eq_true, bne_iff_ne]
    rintro ⟨⟨hrun, hqueued⟩, hfree⟩
    rcases h with h | h | h
    · exact Bool.false_ne_true (h.symm.trans hrun)
    · exact hqueued h
    · unfold State.pulseFree at hfree
      generalize s.assay.pulseAt[o] = q at h hfree
      cases q with
      | none => exact absurd h Bool.false_ne_true
      | some p =>
        rw [Option.any_some, decide_eq_true_eq] at h
        rw [Option.all_some, decide_eq_true_eq] at hfree
        exact absurd hfree (Nat.not_le.2 h)
  exact ⟨s, by rw [exec_pulseStart, if_neg hnot], rfl⟩

/-- BACKLOG reads as it is put. -/
theorem State.backlog_putBacklog (o : Fin 9) {v : Nat} (hv : v < 65536) : (s.putBacklog o.val v).backlog o.val = v := by
  unfold State.putBacklog State.backlog
  split
  · next ho =>
    rw [State.get_put s AS_TPOSTAT_BACKLOG v o.val 0 (RegId.has_below (by decide) ho) (by decide)]
    exact Nat.mod_eq_of_lt hv
  · rw [State.get_put s AS_PSTAT_BACKLOG v 0 0 (by decide) (by decide)]
    exact Nat.mod_eq_of_lt hv

theorem State.backlog_lt (o : Nat) : s.backlog o < 65536 := by
  unfold State.backlog
  split <;> exact Nat.mod_lt _ (by decide)

/-- A pulse lasts at least 2 ms. -/
theorem State.pulseWidth_pos (o : Nat) : 0 < s.pulseWidth o :=
  Nat.mul_pos (lt_min (by decide) (lt_max_of_lt_left (by decide))) (by decide)

/-- A queued pulse of a free output starts. -/
theorem pulseStart_free (o : Fin 9) (n : Nat) (hrun : s.assay.running = true) (hn : s.backlog o.val = n + 1)
    (hfree : s.assay.pulseAt[o].all (fun p => decide (p + 2 * s.pulseWidth o.val ≤ s.now)) = true) :
    ∃ t, exec (.pulseStart o) s = .next t ∧ t.backlog o.val = n ∧ t.assay.pulseAt[o] = some s.now ∧ t.pulseLevel o = true := by
  have hsmall := s.backlog_lt o.val
  have hexec : exec (.pulseStart o) s =
      .next ((s.putBacklog o.val n).updAssay (fun a => { a with pulseAt := a.pulseAt.set o.val (some s.now) o.isLt })) := by
    have hopen : s.pulseFree o = true := hfree
    rw [exec_pulseStart, hrun, hn, hopen, State.startPulse, hn, Nat.add_sub_cancel]
    rfl
  have hput : Evolves [.fresh, .reg .AS_TPOSTAT, .reg .AS_PSTAT] s (s.putBacklog o.val n) :=
    State.putBacklog_evolves (.refl _ s) _ _ (covers_self _)
  have hbacklog : (s.putBacklog o.val n).backlog o.val = n := s.backlog_putBacklog o (by omega)
  have hnow : (s.putBacklog o.val n).now = s.now := hput.kept .now (by decide)
  generalize s.putBacklog o.val n = u at *
  let t := u.updAssay (fun a => { a with pulseAt := a.pulseAt.set o.val (some s.now) o.isLt })
  have hat : t.assay.pulseAt[o] = some s.now := by simp [t]
  refine ⟨t, hexec, hbacklog, hat, ?_⟩
  have hwidth := t.pulseWidth_pos o.val
  have htnow : t.now = s.now := hnow
  unfold State.pulseLevel
  rw [hat, htnow]
  exact decide_eq_true (by omega)

/-! ### S0 inputs (R263) -/

/-- What an input's pin shows once it is seen. -/
def State.s0Seen (s : State) (n : Fin 4) (a : S0Edge) : S0PinU := s.assay.s0pin[n].see a s.now (s.debounce n.val)

/-- The state with the pin seen. -/
def State.s0Look (s : State) (n : Fin 4) (a : S0Edge) : State :=
  s.updAssay (fun x => { x with s0pin := x.s0pin.set n.val (s.s0Seen n a) n.isLt })

/-- A debounced level, and the pulse it counts. -/
def State.s0Level (s : State) (n : Fin 4) (u : S0PinU) (level : Bool) : State :=
  let s2 := s.put AS_S0STAT_LEVEL level.toNat n.val
  if level && u.ready && s2.on AS_S0CTL_EN n.val then s2.bump AS_S0CNT_CNT n.val else s2

theorem exec_s0Pulse (n : Fin 4) (a : S0Edge) : exec (.s0Pulse n a) s = .next (if s.assay.running then
    if s.on AS_S0STAT_LEVEL n.val != ((s.s0Seen n a).high != s.on AS_S0CTL_POL n.val) &&
      decide ((s.s0Seen n a).since + s.debounce n.val ≤ s.now) then
      (s.s0Look n a).s0Level n (s.s0Seen n a) ((s.s0Seen n a).high != s.on AS_S0CTL_POL n.val)
    else s.s0Look n a
  else s) := rfl

/-- A level that changes begins when the pin went to it. -/
theorem State.s0Seen_of_ne (n : Fin 4) (a : S0Edge) (h : a.high ≠ s.assay.s0pin[n].high) : s.s0Seen n a =
    ⟨a.high, max s.assay.s0pin[n].since (s.now - a.held),
      decide (s.assay.s0pin[n].since + s.debounce n.val ≤ max s.assay.s0pin[n].since (s.now - a.held))⟩ := if_neg h

/-- A level not held for DEB changes neither LEVEL nor the count. -/
theorem s0Pulse_short (n : Fin 4) (a : S0Edge) (hne : a.high ≠ s.assay.s0pin[n].high)
    (hshort : s.now < max s.assay.s0pin[n].since (s.now - a.held) + s.debounce n.val) :
    ∃ t, exec (.s0Pulse n a) s = .next t ∧ t.get AS_S0STAT_LEVEL n.val = s.get AS_S0STAT_LEVEL n.val ∧
      t.get AS_S0CNT_CNT n.val = s.get AS_S0CNT_CNT n.val := by
  by_cases hrun : s.assay.running = true
  · have hexec : exec (.s0Pulse n a) s = .next (s.s0Look n a) := by
      rw [exec_s0Pulse, if_pos hrun, State.s0Seen_of_ne s n a hne, if_neg]
      rw [Bool.and_eq_true, decide_eq_true_eq]
      rintro ⟨-, h⟩
      exact absurd h (Nat.not_le.2 hshort)
    exact ⟨_, hexec, rfl, rfl⟩
  · exact ⟨s, (exec_s0Pulse s n a).trans (congrArg _ (if_neg hrun)), rfl, rfl⟩

theorem State.s0Level_shows (n : Fin 4) (u : S0PinU) (l : Bool) (hready : u.ready = true) : (s.s0Level n u l).on AS_S0STAT_LEVEL n.val = l ∧
    (s.s0Level n u l).get AS_S0CNT_CNT n.val =
      if l && s.on AS_S0CTL_EN n.val then (s.get AS_S0CNT_CNT n.val + 1) % 2 ^ AS_S0CNT_CNT.width else s.get AS_S0CNT_CNT n.val := by
  have hstat : RegId.AS_S0STAT.has n.val 0 = true := RegId.has_below (by decide) n.isLt
  have hcount : RegId.AS_S0CNT.has n.val 0 = true := RegId.has_below (by decide) n.isLt
  have hctl : RegId.AS_S0CTL.has n.val 0 = true := RegId.has_below (by decide) n.isLt
  have hlevel : (s.put AS_S0STAT_LEVEL l.toNat n.val).on AS_S0STAT_LEVEL n.val = l := by
    rw [State.on_put s AS_S0STAT_LEVEL _ n.val 0 hstat (by decide)]
    cases l <;> rfl
  have hcnt : (s.put AS_S0STAT_LEVEL l.toNat n.val).get AS_S0CNT_CNT n.val = s.get AS_S0CNT_CNT n.val :=
    State.get_put_of_apart s _ n.val 0 hcount (by decide)
  have hen : (s.put AS_S0STAT_LEVEL l.toNat n.val).on AS_S0CTL_EN n.val = s.on AS_S0CTL_EN n.val :=
    State.on_put_of_apart s _ n.val 0 hctl (by decide)
  unfold State.s0Level
  dsimp only
  rw [hready, Bool.and_true, hen]
  generalize s.put AS_S0STAT_LEVEL l.toNat n.val = v at *
  split
  · refine ⟨?_, by rw [State.get_bump v AS_S0CNT_CNT n.val 0 hcount (by decide), hcnt]⟩
    exact (State.on_put_of_apart v _ n.val 0 hstat (by decide)).trans hlevel
  · exact ⟨hlevel, hcnt⟩

/-- A level held for DEB after another as long becomes LEVEL, and an active one counts. -/
theorem s0Pulse_held (n : Fin 4) (a : S0Edge) (l : Bool) (hrun : s.assay.running = true) (hl : l = (a.high != s.on AS_S0CTL_POL n.val))
    (hchange : s.on AS_S0STAT_LEVEL n.val ≠ l) (hne : s.assay.s0pin[n].high ≠ a.high) (hheld : s.debounce n.val ≤ a.held)
    (hbefore : s.assay.s0pin[n].since + s.debounce n.val + a.held ≤ s.now) :
    ∃ t, exec (.s0Pulse n a) s = .next t ∧ t.on AS_S0STAT_LEVEL n.val = l ∧
      (t.get AS_S0CNT_CNT n.val = if l && s.on AS_S0CTL_EN n.val then (s.get AS_S0CNT_CNT n.val + 1) % 2 ^ AS_S0CNT_CNT.width
        else s.get AS_S0CNT_CNT n.val) := by
  have hseen := s.s0Seen_of_ne n a hne.symm
  have hsince : max s.assay.s0pin[n].since (s.now - a.held) = s.now - a.held := max_eq_right (by omega)
  have hhigh : (s.s0Seen n a).high = a.high := by rw [hseen]
  have hready : (s.s0Seen n a).ready = true := by
    rw [hseen, hsince]
    exact decide_eq_true (by omega)
  have hlong : (s.s0Seen n a).since + s.debounce n.val ≤ s.now := by
    rw [hseen, hsince]
    show s.now - a.held + s.debounce n.val ≤ s.now
    omega
  have hexec : exec (.s0Pulse n a) s = .next ((s.s0Look n a).s0Level n (s.s0Seen n a) l) := by
    rw [exec_s0Pulse, if_pos hrun, hhigh, ← hl, bne_iff_ne.2 hchange, decide_eq_true hlong]
    rfl
  exact ⟨_, hexec, State.s0Level_shows (s.s0Look n a) n _ l hready⟩

end Pulses

/-! ### SNAP (R254) -/

theorem State.assayWrite_snap (s : State) (w : Word) (h : AS_ACTL_SNAP.of w = 1) : (s.assayWrite .AS_ACTL w 0).assay.snapDue = true := by
  have hwrite : Evolves [.fresh, .reg .AS_ACTL] (s.updAssay (fun a => { a with snapDue := true })) (s.assayWrite .AS_ACTL w 0) := by
    unfold State.assayWrite
    rw [if_pos (show RegId.AS_ACTL = .AS_ACTL ∧ AS_ACTL_SNAP.of w = 1 from ⟨rfl, h⟩)]
    exact State.regWrite_evolves (.refl _ _) _ _ _ _ (by decide)
  have hassay := hwrite.kept .assay (by decide)
  exact congrArg AssayU.snapDue hassay

/-- 1 written to SNAP makes a snapshot due. -/
theorem snap_due (s : State) (m : Master) (v : Word) (hopen : s.busOpen m = true) : ∃ t, exec (.snap m v) s = .next t ∧ t.assay.snapDue = true := by
  obtain ⟨d, hd⟩ := s.regStore_eq m .AS_ACTL (AS_ACTL_SNAP.into v 1) 0 0 hopen
  refine ⟨_, rfl, ?_⟩
  rw [hd, State.settle_of_no_w1c s .AS_ACTL _ 0 0 (by decide), State.store_AS_ACTL]
  exact State.assayWrite_snap _ _ (Fld.of_into AS_ACTL_SNAP v 1 (by decide))

end Sys2Proof.Machine
end
section
/-! SUPPORT. The check windows of the S0 inputs (R264). -/

namespace Sys2Proof.Machine

section Checks
variable (s : State) (n : Fin 4)

/-- The deviation of a check shows, and the check counts. -/
def State.s0Counted (s : State) (n : Fin 4) (dev : Nat) : State := (s.put AS_S0CHK_DEV dev n.val).bumpSat AS_S0STAT_CHECKS n.val

/-- One that is too far is a mismatch, and raises the source. -/
def State.s0Flagged (s : State) (n : Fin 4) (far : Bool) : State := if far then (s.put AS_S0STAT_S0_MISMATCH 1 n.val).raise assaySource else s

/-- The master's and the input's energy since the window began. -/
def State.s0Master (s : State) (n : Fin 4) : Int := s.master (s.get AS_S0CTL_CHKR n.val) - s.assay.s0win[n].master
def State.s0Energy (s : State) (n : Fin 4) : Int := ((s.rdw .AS_S0CNT n.val - s.assay.s0win[n].count).toNat * s.get AS_S0WGT_WGT n.val : Nat)

/-- DEV, and whether the energies are too far apart. -/
def State.s0Dev (s : State) (n : Fin 4) : Int :=
  if s.s0Master n = 0 then (if s.s0Energy n = 0 then 0 else 2147483647)
  else satInt (nearOpen ((s.s0Energy n - s.s0Master n) * 10000) (s.s0Master n).natAbs)
def State.s0Far (s : State) (n : Fin 4) : Bool := decide (10000 * (s.s0Energy n - s.s0Master n).natAbs >
  (s.s0Master n).natAbs * s.get AS_S0TOL_TOL n.val + 10000 * s.get AS_S0WGT_WGT n.val)

/-- A check by its steps. -/
theorem State.s0Check_eq : s.s0Check n = ((s.s0Counted n (wordOfInt (s.s0Dev n)).toNat).s0Flagged n (s.s0Far n)).s0Restart n := by
  unfold State.s0Check State.s0Flagged State.s0Far
  simp only [decide_eq_true_eq]
  rfl

theorem s0stat_has : RegId.AS_S0STAT.has n.val 0 = true := RegId.has_below (by decide) n.isLt
theorem s0ctl_has : RegId.AS_S0CTL.has n.val 0 = true := RegId.has_below (by decide) n.isLt
theorem s0cnt_has : RegId.AS_S0CNT.has n.val 0 = true := RegId.has_below (by decide) n.isLt
theorem s0chk_has : RegId.AS_S0CHK.has n.val 0 = true := RegId.has_below (by decide) n.isLt

theorem State.s0Counted_evolves (dev : Nat) : Evolves [.fresh, .reg .AS_S0CHK, .reg .AS_S0STAT] s (s.s0Counted n dev) :=
  State.bumpSat_evolves (State.put_evolves (.refl _ s) _ _ _ _ (by decide)) _ _ _ _ (by decide)

theorem State.s0Counted_shows (dev : Nat) :
    (s.s0Counted n dev).get AS_S0STAT_CHECKS n.val = min (s.get AS_S0STAT_CHECKS n.val + 1) (2 ^ AS_S0STAT_CHECKS.width - 1) ∧
    (s.s0Counted n dev).get AS_S0CHK_DEV n.val = dev % 2 ^ 32 ∧
    (s.s0Counted n dev).get AS_S0STAT_S0_MISMATCH n.val = s.get AS_S0STAT_S0_MISMATCH n.val := by
  have hchecks : (s.put AS_S0CHK_DEV dev n.val).get AS_S0STAT_CHECKS n.val = s.get AS_S0STAT_CHECKS n.val :=
    State.get_put_of_apart s _ n.val 0 (s0stat_has n) (by decide)
  have hmis : (s.put AS_S0CHK_DEV dev n.val).get AS_S0STAT_S0_MISMATCH n.val = s.get AS_S0STAT_S0_MISMATCH n.val :=
    State.get_put_of_apart s _ n.val 0 (s0stat_has n) (by decide)
  have hdev : (s.put AS_S0CHK_DEV dev n.val).get AS_S0CHK_DEV n.val = dev % 2 ^ 32 :=
    State.get_put s AS_S0CHK_DEV _ n.val 0 (s0chk_has n) (by decide)
  unfold State.s0Counted
  generalize s.put AS_S0CHK_DEV dev n.val = u at *
  unfold State.bumpSat
  rw [hchecks]
  refine ⟨?_, ?_, ?_⟩
  · rw [State.get_put u AS_S0STAT_CHECKS _ n.val 0 (s0stat_has n) (by decide)]
    exact Nat.mod_eq_of_lt (lt_of_le_of_lt (min_le_right _ _) (by decide))
  · exact (State.get_put_of_apart u _ n.val 0 (s0chk_has n) (by decide)).trans hdev
  · exact (State.get_put_of_apart u _ n.val 0 (s0stat_has n) (by decide)).trans hmis

theorem State.s0Flagged_evolves (far : Bool) : Evolves (.reg .AS_S0STAT :: raiseParts) s (s.s0Flagged n far) := by
  unfold State.s0Flagged
  exact ite_evolves (State.raise_evolves (State.put_evolves (.refl _ s) _ _ _ _ (by decide)) _ (by decide)) (.refl _ s)

/-- The flag leaves the count. -/
theorem State.s0Flagged_checks (far : Bool) : (s.s0Flagged n far).get AS_S0STAT_CHECKS n.val = s.get AS_S0STAT_CHECKS n.val := by
  unfold State.s0Flagged
  split
  · exact ((State.raise_evolves (.refl _ _) _ (covers_self _)).get (s0stat_has n) (by decide)).trans
      (State.get_put_of_apart s _ n.val 0 (s0stat_has n) (by decide))
  · rfl

theorem State.s0Flagged_far (hrouted : s.routed assaySource = true) :
    (s.s0Flagged n true).on AS_S0STAT_S0_MISMATCH n.val = true ∧ (s.s0Flagged n true).raised assaySource = true := by
  have hmis : (s.put AS_S0STAT_S0_MISMATCH 1 n.val).on AS_S0STAT_S0_MISMATCH n.val = true :=
    State.on_put s _ 1 n.val 0 (s0stat_has n) (by decide)
  have hurouted : (s.put AS_S0STAT_S0_MISMATCH 1 n.val).routed assaySource = true :=
    ((State.put_evolves (.refl _ s) AS_S0STAT_S0_MISMATCH 1 n.val 0 (covers_self _)).routed (by decide) (by decide)).trans hrouted
  have heq : s.s0Flagged n true = (s.put AS_S0STAT_S0_MISMATCH 1 n.val).raise assaySource := rfl
  rw [heq]
  generalize s.put AS_S0STAT_S0_MISMATCH 1 n.val = u at *
  exact ⟨((State.raise_evolves (.refl _ u) _ (covers_self _)).on (s0stat_has n) (by decide)).trans hmis, u.raise_raised (by decide) hurouted⟩

/-- A new window runs from here. -/
theorem State.s0Restart_shows (hwin : s.chkwin n.val ≠ 0) :
    (s.s0Restart n).deadline (.s0Check n.val) = some (s.now + s.chkwin n.val * 60000 * ms) ∧
    (s.s0Restart n).assay.s0win[n] = ⟨s.master (s.get AS_S0CTL_CHKR n.val), s.rdw .AS_S0CNT n.val⟩ := by
  let u := s.updAssay (fun a => { a with s0win := a.s0win.set n.val ⟨s.master (s.get AS_S0CTL_CHKR n.val), s.rdw .AS_S0CNT n.val⟩ n.isLt })
  have heq : s.s0Restart n = u.arm (.s0Check n.val) (s.chkwin n.val * 60000 * ms) := if_neg hwin
  rw [heq, State.deadline_arm]
  exact ⟨rfl, by simp [u]⟩

/-- A master of the S0 inputs' checks reads as before. -/
theorem Evolves.master {A : List Part} {s t : State} (h : Evolves A s t) (hp : Part.reg .AS_EMLO ∉ A ∧ Part.reg .AS_EMHI ∉ A) {r : Nat}
    (hr : r < 16) : t.master r = s.master r := by
  unfold State.master
  rw [h.get (f := AS_EMLO_MASTER) (RegId.has_below (by decide) hr) hp.1, h.get (f := AS_EMHI_MASTER) (RegId.has_below (by decide) hr) hp.2]

/-! What a check reads rests on the settings, the masters, the count and its window alone. -/

def s0Reads : List Part := [.assay, .reg .AS_EMLO, .reg .AS_EMHI, .reg .AS_S0CNT, .reg .AS_S0CTL, .reg .AS_S0WGT, .reg .AS_S0TOL]

section Reads
variable {A : List Part} {s t : State} (h : Evolves A s t)
include h

theorem Evolves.chkwin (n : Fin 4) (hp : Part.reg .AS_S0CTL ∉ A) : t.chkwin n.val = s.chkwin n.val := by
  unfold State.chkwin
  rw [h.get (f := AS_S0CTL_CHKWIN) (s0ctl_has n) hp]

theorem Evolves.s0Window (n : Fin 4) (hp : ∀ q ∈ s0Reads.tail, q ∉ A) :
    t.master (t.get AS_S0CTL_CHKR n.val) = s.master (s.get AS_S0CTL_CHKR n.val) ∧ t.rdw .AS_S0CNT n.val = s.rdw .AS_S0CNT n.val := by
  have hr : s.get AS_S0CTL_CHKR n.val < 16 := Nat.mod_lt _ (by decide)
  rw [h.get (f := AS_S0CTL_CHKR) (s0ctl_has n) (hp _ (by decide)), h.master ⟨hp _ (by decide), hp _ (by decide)⟩ hr]
  exact ⟨rfl, h.rdw (s0cnt_has n) (hp _ (by decide))⟩

theorem Evolves.s0Sums (n : Fin 4) (hp : ∀ q ∈ s0Reads, q ∉ A) : t.s0Master n = s.s0Master n ∧ t.s0Energy n = s.s0Energy n := by
  have hassay : t.assay = s.assay := h.kept .assay (hp _ (by decide))
  obtain ⟨hmaster, hcount⟩ := h.s0Window n (fun q hq => hp q (List.mem_of_mem_tail hq))
  unfold State.s0Master State.s0Energy
  rw [hmaster, hcount, hassay, h.get (f := AS_S0WGT_WGT) (RegId.has_below (by decide) n.isLt) (hp _ (by decide))]
  exact ⟨rfl, rfl⟩

theorem Evolves.s0Dev (n : Fin 4) (hp : ∀ q ∈ s0Reads, q ∉ A) : t.s0Dev n = s.s0Dev n ∧ t.s0Far n = s.s0Far n := by
  obtain ⟨hmaster, henergy⟩ := h.s0Sums n hp
  unfold State.s0Dev State.s0Far
  rw [hmaster, henergy, h.get (f := AS_S0WGT_WGT) (RegId.has_below (by decide) n.isLt) (hp _ (by decide)),
    h.get (f := AS_S0TOL_TOL) (RegId.has_below (by decide) n.isLt) (hp _ (by decide))]
  exact ⟨rfl, rfl⟩

end Reads

/-- A window's end and the next one's start (R264). -/
def State.S0Checked (s : State) (n : Fin 4) (t : State) : Prop :=
  t.get AS_S0STAT_CHECKS n.val = min (s.get AS_S0STAT_CHECKS n.val + 1) (2 ^ AS_S0STAT_CHECKS.width - 1) ∧
  t.assay.s0win[n] = ⟨s.master (s.get AS_S0CTL_CHKR n.val), s.rdw .AS_S0CNT n.val⟩

theorem State.s0Check_checked (hwin : s.chkwin n.val ≠ 0) : s.S0Checked n (s.s0Check n) ∧
    (s.s0Check n).deadline (.s0Check n.val) = some (s.now + s.chkwin n.val * 60000 * ms) := by
  obtain ⟨hchecks, -, -⟩ := s.s0Counted_shows n (wordOfInt (s.s0Dev n)).toNat
  have hcounted := s.s0Counted_evolves n (wordOfInt (s.s0Dev n)).toNat
  have hflagged := (s.s0Counted n (wordOfInt (s.s0Dev n)).toNat).s0Flagged_evolves n (s.s0Far n)
  have hflag := (s.s0Counted n (wordOfInt (s.s0Dev n)).toNat).s0Flagged_checks n (s.s0Far n)
  rw [State.s0Check_eq]
  generalize s.s0Counted n (wordOfInt (s.s0Dev n)).toNat = u at *
  generalize u.s0Flagged n (s.s0Far n) = v at *
  have hv : Evolves ([.reg .AS_S0CHK, .reg .AS_S0STAT] ++ raiseParts) s v := (hcounted.mono (by decide)).step hflagged (by decide)
  have hvwin : v.chkwin n.val = s.chkwin n.val := hv.chkwin n (by decide)
  have hvnow : v.now = s.now := hv.kept .now (by decide)
  obtain ⟨hmaster, hcount⟩ := hv.s0Window n (by decide)
  obtain ⟨hdeadline, hnext⟩ := v.s0Restart_shows n (by rw [hvwin]; exact hwin)
  have hrestart : Evolves [.timers, .assay] v (v.s0Restart n) := State.s0Restart_evolves (.refl _ v) n (covers_self _)
  refine ⟨⟨?_, by rw [hnext, hmaster, hcount]⟩, by rw [hdeadline, hvwin, hvnow]⟩
  rw [hrestart.get (f := AS_S0STAT_CHECKS) (s0stat_has n) (by decide), hflag, hchecks]

/-- Without a deviation DEV is 0, and no mismatch is set. -/
theorem State.s0Check_equal (hm : s.s0Master n = 0) (he : s.s0Energy n = 0) : (s.s0Check n).get AS_S0CHK_DEV n.val = 0 ∧
    (s.s0Check n).on AS_S0STAT_S0_MISMATCH n.val = s.on AS_S0STAT_S0_MISMATCH n.val := by
  have hdev : s.s0Dev n = 0 := by
    unfold State.s0Dev
    rw [if_pos hm, if_pos he]
  have hfar : s.s0Far n = false := by
    unfold State.s0Far
    rw [hm, he]
    exact decide_eq_false (by omega)
  have heq : s.s0Check n = (s.s0Counted n 0).s0Restart n := by
    rw [State.s0Check_eq, hdev, hfar]
    rfl
  obtain ⟨-, hshown, hmis⟩ := s.s0Counted_shows n 0
  rw [heq]
  have hrestart : Evolves [.timers, .assay] (s.s0Counted n 0) ((s.s0Counted n 0).s0Restart n) := State.s0Restart_evolves (.refl _ _) n (covers_self _)
  refine ⟨(hrestart.get (s0chk_has n) (by decide)).trans hshown, ?_⟩
  rw [hrestart.on (f := AS_S0STAT_S0_MISMATCH) (s0stat_has n) (by decide)]
  unfold State.on
  rw [hmis]

/-- One that is too far sets S0_MISMATCH and raises the source. -/
theorem State.s0Check_far (hfar : s.s0Far n = true) (hrouted : s.routed assaySource = true) :
    (s.s0Check n).on AS_S0STAT_S0_MISMATCH n.val = true ∧ (s.s0Check n).raised assaySource = true := by
  have hurouted := ((s.s0Counted_evolves n (wordOfInt (s.s0Dev n)).toNat).routed (by decide) (src := assaySource) (by decide)).trans hrouted
  rw [State.s0Check_eq, hfar]
  generalize s.s0Counted n (wordOfInt (s.s0Dev n)).toNat = u at *
  obtain ⟨hmis, hraised⟩ := u.s0Flagged_far n hurouted
  have hvrouted := ((u.s0Flagged_evolves n true).routed (by decide) (src := assaySource) (by decide)).trans hurouted
  generalize u.s0Flagged n true = v at *
  have hrestart : Evolves [.timers, .assay] v (v.s0Restart n) := State.s0Restart_evolves (.refl _ v) n (covers_self _)
  exact ⟨(hrestart.on (s0stat_has n) (by decide)).trans hmis, hrestart.raised (by decide) (by decide) (by decide) hvrouted hraised⟩

/-- The end of a window checks it, at its deadline. -/
theorem exec_s0Check {d : Nat} (hd : s.deadline (.s0Check n.val) = some d) (hrun : s.assay.running = true) (hwin : s.chkwin n.val ≠ 0) :
    ∃ u, Evolves onTimerParts s u ∧ u.now = max s.now d ∧ u.chkwin n.val ≠ 0 ∧ exec (.s0Check n) s = .next (u.s0Check n) := by
  obtain ⟨u, hu, hnow, htimer⟩ := s.onTimer_of_deadline hd (fun s => if s.assay.running && s.chkwin n.val != 0 then s.s0Check n else s)
  have hassay : u.assay = s.assay := hu.kept .assay (by decide)
  have huwin : u.chkwin n.val = s.chkwin n.val := hu.chkwin n (by decide)
  refine ⟨u, hu, hnow, by rw [huwin]; exact hwin, (congrArg Host.Outcome.next htimer).trans (congrArg _ (if_pos ?_))⟩
  rw [hassay, hrun, huwin, Bool.true_and, bne_iff_ne]
  exact hwin

/-- The check at the end of a window, from the state before. -/
theorem s0Check_window {u : State} {d : Nat} (hu : Evolves onTimerParts s u) (hnow : u.now = max s.now d) (hwin : u.chkwin n.val ≠ 0) :
    s.S0Checked n (u.s0Check n) ∧ (u.s0Check n).deadline (.s0Check n.val) = some (max s.now d + s.chkwin n.val * 60000 * ms) := by
  obtain ⟨⟨hchecks, hnext⟩, hdeadline⟩ := u.s0Check_checked n hwin
  obtain ⟨hmaster, hcount⟩ := hu.s0Window n (by decide)
  rw [hnow, hu.chkwin n (by decide)] at hdeadline
  rw [hu.get (f := AS_S0STAT_CHECKS) (s0stat_has n) (by decide)] at hchecks
  exact ⟨⟨hchecks, by rw [hnext, hmaster, hcount]⟩, hdeadline⟩

theorem s0Check_mismatch (d : Nat) (da ds : Int) (hd : s.deadline (.s0Check n.val) = some d) (hrun : s.assay.running = true)
    (hwin : s.chkwin n.val ≠ 0) (hda : da = s.s0Master n) (hds : ds = s.s0Energy n)
    (hfar : da.natAbs * s.get AS_S0TOL_TOL n.val + 10000 * s.get AS_S0WGT_WGT n.val < 10000 * (ds - da).natAbs)
    (hrouted : s.routed assaySource = true) :
    ∃ t, exec (.s0Check n) s = .next t ∧
      t.get AS_S0STAT_CHECKS n.val = min (s.get AS_S0STAT_CHECKS n.val + 1) (2 ^ AS_S0STAT_CHECKS.width - 1) ∧
      t.on AS_S0STAT_S0_MISMATCH n.val = true ∧ t.raised assaySource = true ∧
      t.deadline (.s0Check n.val) = some (max s.now d + s.chkwin n.val * 60000 * ms) ∧
      t.assay.s0win[n] = ⟨s.master (s.get AS_S0CTL_CHKR n.val), s.rdw .AS_S0CNT n.val⟩ := by
  subst hda hds
  obtain ⟨u, hu, hnow, huwin, hexec⟩ := exec_s0Check s n hd hrun hwin
  obtain ⟨⟨hchecks, hnext⟩, hdeadline⟩ := s0Check_window s n hu hnow huwin
  have hufar : u.s0Far n = true := by
    rw [(hu.s0Dev n (by decide)).2]
    exact decide_eq_true hfar
  obtain ⟨hmis, hraised⟩ := u.s0Check_far n hufar ((hu.routed (by decide) (by decide)).trans hrouted)
  exact ⟨_, hexec, hchecks, hmis, hraised, hdeadline, hnext⟩

theorem s0Check_agrees (d : Nat) (hd : s.deadline (.s0Check n.val) = some d) (hrun : s.assay.running = true) (hwin : s.chkwin n.val ≠ 0)
    (hmaster : s.master (s.get AS_S0CTL_CHKR n.val) = s.assay.s0win[n].master) (hcount : s.rdw .AS_S0CNT n.val = s.assay.s0win[n].count) :
    ∃ t, exec (.s0Check n) s = .next t ∧
      t.get AS_S0STAT_CHECKS n.val = min (s.get AS_S0STAT_CHECKS n.val + 1) (2 ^ AS_S0STAT_CHECKS.width - 1) ∧
      t.get AS_S0CHK_DEV n.val = 0 ∧ t.on AS_S0STAT_S0_MISMATCH n.val = s.on AS_S0STAT_S0_MISMATCH n.val ∧
      t.deadline (.s0Check n.val) = some (max s.now d + s.chkwin n.val * 60000 * ms) ∧ t.now = max s.now d := by
  obtain ⟨u, hu, hnow, huwin, hexec⟩ := exec_s0Check s n hd hrun hwin
  obtain ⟨⟨hchecks, -⟩, hdeadline⟩ := s0Check_window s n hu hnow huwin
  obtain ⟨hsame, henergy⟩ := hu.s0Sums n (by decide)
  have hm : s.s0Master n = 0 := by
    unfold State.s0Master
    rw [hmaster, Int.sub_self]
  have he : s.s0Energy n = 0 := by
    unfold State.s0Energy
    rw [hcount, BitVec.sub_self, BitVec.toNat_zero, Nat.zero_mul]
    rfl
  obtain ⟨hdev, hmis⟩ := u.s0Check_equal n (hsame.trans hm) (henergy.trans he)
  have hsnow : (u.s0Check n).now = u.now := (State.s0Check_evolves (.refl _ u) n (covers_self _)).kept .now (by decide)
  exact ⟨_, hexec, hchecks, hdev, hmis.trans (hu.on (s0stat_has n) (by decide)), hdeadline, hsnow.trans hnow⟩

end Checks
end Sys2Proof.Machine
end
section
/-! SUPPORT. The start of the Assay (R258). -/

namespace Sys2Proof.Machine

section Start
variable (s : State)

/-- A master reads as it is set, in 64 bits. -/
theorem State.putMaster_master (r : Fin 16) (m : Nat) : (s.putMaster r.val m).master r.val = m % 2 ^ 64 := by
  have hlo : RegId.AS_EMLO.has r.val 0 = true := RegId.has_below (by decide) r.isLt
  have hhi : RegId.AS_EMHI.has r.val 0 = true := RegId.has_below (by decide) r.isLt
  let u := (s.put AS_EMLO_MASTER (m % 2 ^ 32) r.val).put AS_EMHI_MASTER (m / 2 ^ 32 % 2 ^ 32) r.val
  have hshow : Evolves [.fresh, .reg .AS_EWIN, .reg .AS_WRAPS] u (s.putMaster r.val m) := State.windowShow_evolves (.refl _ u) _ (covers_self _)
  have hulo : u.get AS_EMLO_MASTER r.val = m % 2 ^ 32 % 2 ^ 32 :=
    (State.get_put_of_apart _ (f := AS_EMHI_MASTER) (g := AS_EMLO_MASTER) _ r.val 0 hlo (by decide)).trans
      (State.get_put s AS_EMLO_MASTER _ r.val 0 hlo (by decide))
  have huhi : u.get AS_EMHI_MASTER r.val = m / 2 ^ 32 % 2 ^ 32 % 2 ^ 32 := State.get_put _ AS_EMHI_MASTER _ r.val 0 hhi (by decide)
  rw [hshow.master (by decide) r.isLt, State.master, hulo, huhi]
  omega

/-- Another master reads as before. -/
theorem State.putMaster_master_ne {r k : Fin 16} (h : r ≠ k) (m : Nat) : (s.putMaster r.val m).master k.val = s.master k.val := by
  have hlo : RegId.AS_EMLO.has k.val 0 = true := RegId.has_below (by decide) k.isLt
  have hhi : RegId.AS_EMHI.has k.val 0 = true := RegId.has_below (by decide) k.isLt
  have hne : k.val ≠ r.val := fun e => h (Fin.ext e.symm)
  let u := s.put AS_EMLO_MASTER (m % 2 ^ 32) r.val
  let w := u.put AS_EMHI_MASTER (m / 2 ^ 32 % 2 ^ 32) r.val
  have hshow : Evolves [.fresh, .reg .AS_EWIN, .reg .AS_WRAPS] w (s.putMaster r.val m) := State.windowShow_evolves (.refl _ w) _ (covers_self _)
  have hwlo : w.get AS_EMLO_MASTER k.val = u.get AS_EMLO_MASTER k.val := State.get_put_ne u _ _ _ _ _ _ _ hlo (.inr (.inl hne))
  have hwhi : w.get AS_EMHI_MASTER k.val = u.get AS_EMHI_MASTER k.val := State.get_put_ne u _ _ _ _ _ _ _ hhi (.inr (.inl hne))
  have hulo : u.get AS_EMLO_MASTER k.val = s.get AS_EMLO_MASTER k.val := State.get_put_ne s _ _ _ _ _ _ _ hlo (.inr (.inl hne))
  have huhi : u.get AS_EMHI_MASTER k.val = s.get AS_EMHI_MASTER k.val := State.get_put_ne s _ _ _ _ _ _ _ hhi (.inr (.inl hne))
  rw [hshow.master (by decide) k.isLt, State.master, hwlo, hwhi, hulo, huhi, State.master]

/-- The restoring of one master, with the high word as restored before it is latched (R503). -/
def State.restoreMaster (s : State) (masters : Vector Nat 16) (r : Fin 16) : State :=
  let t := s.putMaster r.val masters[r]
  { t with latched := sparseSet (RegId.AS_EMHI.key r.val 0) (RegId.AS_EMHI.resetWord r.val 0) (t.rdw .AS_EMHI r.val) t.latched }

theorem State.restoreMaster_master (masters : Vector Nat 16) (r k : Fin 16) :
    (s.restoreMaster masters r).master k.val = (s.putMaster r.val masters[r]).master k.val := rfl

/-- The restoring of the masters, and of the counts. -/
def State.restoreMasters (s : State) (masters : Vector Nat 16) : State := s.each (List.finRange 16) (fun t r => t.restoreMaster masters r)
def State.restoreCounts (s : State) (s0 : Vector Word 4) : State := s.each (List.finRange 4) (fun t n => t.put AS_S0CNT_CNT s0[n].toNat n.val)

theorem State.restore_eq (masters residues : Vector Nat 16) (s0 : Vector Word 4) : s.restore masters residues s0 =
    ((s.restoreMasters masters).restoreCounts s0).updAssay (fun a => { a with residues := residues }) := rfl

theorem State.restoreMasters_master (masters : Vector Nat 16) (k : Fin 16) : (s.restoreMasters masters).master k.val = masters[k] % 2 ^ 64 := by
  obtain ⟨t, -, hlast⟩ := State.each_once (fun t => t.master k.val) (f := fun t r => t.restoreMaster masters r) (x := k)
    (fun t r hr => (t.restoreMaster_master masters r k).trans (t.putMaster_master_ne hr _)) (List.finRange 16) s (List.nodup_finRange 16)
    (List.mem_finRange k)
  exact hlast.trans ((t.restoreMaster_master masters k k).trans (t.putMaster_master k _))

theorem State.restoreCounts_evolves (s0 : Vector Word 4) : Evolves [.fresh, .reg .AS_S0CNT] s (s.restoreCounts s0) := by
  refine State.each_evolves (.refl _ s) _ _ (fun t n ht => ?_)
  exact State.put_evolves ht _ _ _ _ (by decide)

theorem State.restoreCounts_count (s0 : Vector Word 4) (n : Fin 4) : (s.restoreCounts s0).rdw .AS_S0CNT n.val = s0[n] := by
  have hother : ∀ (t : State) (k : Fin 4), k ≠ n → (t.put AS_S0CNT_CNT s0[k].toNat k.val).rdw .AS_S0CNT n.val = t.rdw .AS_S0CNT n.val :=
    fun t k hk => State.rdw_put_ne t AS_S0CNT_CNT _ _ _ _ _ _ (s0cnt_has n) (.inr (.inl (fun e => hk (Fin.ext e.symm))))
  obtain ⟨t, -, hlast⟩ := State.each_once (fun t => t.rdw .AS_S0CNT n.val) (f := fun t (k : Fin 4) => t.put AS_S0CNT_CNT s0[k].toNat k.val) (x := n)
    hother (List.finRange 4) s (List.nodup_finRange 4) (List.mem_finRange n)
  refine hlast.trans ((State.rdw_put_word t AS_S0CNT_CNT _ n.val 0 (s0cnt_has n) (by decide)).trans ?_)
  rw [BitVec.ofNat_toNat, BitVec.setWidth_eq]

/-- What a restore gives: the masters, the counts and the residues (R258). -/
def State.Restored (t : State) (masters residues : Vector Nat 16) (s0 : Vector Word 4) : Prop :=
  t.assay.running = true ∧ (∀ k : Fin 16, t.master k.val = masters[k] % 2 ^ 64) ∧ (∀ n : Fin 4, t.rdw .AS_S0CNT n.val = s0[n]) ∧
    t.assay.residues = residues

theorem State.restore_restored (masters residues : Vector Nat 16) (s0 : Vector Word 4) (hrun : s.assay.running = true) :
    (s.restore masters residues s0).Restored masters residues s0 := by
  have hkept : Evolves [.fresh, .latched, .reg .AS_EMLO, .reg .AS_EMHI, .reg .AS_EWIN, .reg .AS_WRAPS] s (s.restoreMasters masters) := by
    refine State.each_evolves (.refl _ s) _ _ (fun t r ht => ?_)
    exact latched_evolves (State.putMaster_evolves ht _ _ (by decide)) _ (by decide)
  have hcounts := (s.restoreMasters masters).restoreCounts_evolves s0
  have hassay : ((s.restoreMasters masters).restoreCounts s0).assay = s.assay :=
    (hcounts.kept .assay (by decide)).trans (hkept.kept .assay (by decide))
  rw [State.restore_eq]
  refine ⟨?_, fun k => ?_, fun n => ?_, rfl⟩
  · rw [State.updAssay_assay, hassay]
    exact hrun
  · exact ((State.updAssay_evolves (.refl _ _) _ (covers_self _)).master (by decide) k.isLt).trans
      ((hcounts.master (by decide) k.isLt).trans (s.restoreMasters_master masters k))
  · rw [State.updAssay_rdw]
    exact State.restoreCounts_count _ s0 n

/-! ### From the restore on -/

/-- The restore of a record, or of none (R258). -/
def State.restoreFrom (s : State) (r : Option SaveRec) : State :=
  match r with
  | some r =>
    let t := s.restore r.masters r.residues r.s0
    if r.kind = saveGasp ∨ r.kind = saveOrderly then t
    else
      let loss := (nearOpen (r.saveint.toNat * r.pmax.toNat : Nat) 360).toNat
      ((t.put AS_ASTAT_UNSAVED 1).put AS_LOSS_LOSS (loss % 2 ^ 32) 0).put AS_LOSS_LOSS (loss / 2 ^ 32) 1
  | none => (s.restore (Vector.replicate 16 0) (Vector.replicate 16 0) (Vector.replicate 4 0)).put AS_ASTAT_RECORD_LOST 1

/-- The Assay as it begins. -/
def State.assayBegin (s : State) : State :=
  s.updAssay (fun a => { AssayU.reset with
    running := true, tune := s.nomFreq, s0pin := a.s0pin.map (fun u => ⟨u.high, s.now, false⟩), cal := a.cal, calstamp := a.calstamp
    snapDue := a.snapDue })

/-- The saves, the pulses and the first boundary that follow a restore, and the windows of the S0 inputs. -/
def State.resume (s : State) (past : Nat) : State :=
  (((s.updAssay (fun a => { a with savedTotal := s.activeTotal })).arm .savePeriod (s.saveint * 225000 - past)).each (List.range 9)
    (fun s o => s.putBacklog o 0)).arm .assaySample (125 * us)
def State.restartInput (s : State) (n : Fin 4) : State := (if s.chkwin n.val = 0 then s else s.put AS_S0STAT_S0_RESTART 1 n.val).s0Restart n
def State.restartInputs (s : State) : State := s.each (List.finRange 4) State.restartInput

theorem State.assayStart_eq : ∃ past, s.assayStart = ((s.assayBegin.restoreFrom s.lamp.latest).resume past).restartInputs := ⟨_, rfl⟩

theorem State.resume_evolves (past : Nat) : Evolves [.fresh, .timers, .assay, .reg .AS_TPOSTAT, .reg .AS_PSTAT] s (s.resume past) := by
  refine State.arm_evolves (State.each_evolves ?_ _ _ (fun t o ht => State.putBacklog_evolves ht _ _ (by decide))) _ _ (by decide)
  exact State.arm_evolves (State.updAssay_evolves (.refl _ s) _ (by decide)) _ _ (by decide)

/-- The first boundary is 125 µs away (R258). -/
theorem State.resume_deadline (past : Nat) : (s.resume past).deadline .assaySample = some (s.now + 31250) := by
  let u := (s.updAssay (fun a => { a with savedTotal := s.activeTotal })).arm .savePeriod (s.saveint * 225000 - past)
  have hu : Evolves [.timers, .assay] s u := State.arm_evolves (State.updAssay_evolves (.refl _ s) _ (by decide)) _ _ (by decide)
  have hputs : Evolves [.fresh, .reg .AS_TPOSTAT, .reg .AS_PSTAT] u (u.each (List.range 9) (fun s o => s.putBacklog o 0)) :=
    State.each_evolves (.refl _ u) _ _ (fun t o ht => State.putBacklog_evolves ht _ _ (by decide))
  have hnow : (u.each (List.range 9) (fun s o => s.putBacklog o 0)).now = s.now := (hputs.kept .now (by decide)).trans (hu.kept .now (by decide))
  have heq : s.resume past = (u.each (List.range 9) (fun s o => s.putBacklog o 0)).arm .assaySample (125 * us) := rfl
  rw [heq, State.deadline_arm, hnow]
  rfl

/-- What a start leaves of the Assay. -/
def State.startView (s : State) : Bool × Vector Nat 16 := (s.assay.running, s.assay.residues)

theorem State.resume_startView (past : Nat) : (s.resume past).startView = s.startView := by
  let u := (s.updAssay (fun a => { a with savedTotal := s.activeTotal })).arm .savePeriod (s.saveint * 225000 - past)
  have hputs : Evolves [.fresh, .timers, .reg .AS_TPOSTAT, .reg .AS_PSTAT] u (s.resume past) :=
    State.arm_evolves (State.each_evolves (.refl _ u) _ _ (fun t o ht => State.putBacklog_evolves ht _ _ (by decide))) _ _ (by decide)
  have hassay : (s.resume past).assay = u.assay := hputs.kept .assay (by decide)
  unfold State.startView
  rw [hassay]
  rfl

theorem State.s0Restart_startView (n : Fin 4) : (s.s0Restart n).startView = s.startView ∧
    (s.s0Restart n).deadline .assaySample = s.deadline .assaySample := by
  unfold State.s0Restart
  dsimp only
  split
  · exact ⟨rfl, State.deadline_disarm_ne _ nofun⟩
  · exact ⟨rfl, State.deadline_arm_ne _ _ nofun⟩

theorem State.restartInput_startView (n : Fin 4) : (s.restartInput n).startView = s.startView ∧
    (s.restartInput n).deadline .assaySample = s.deadline .assaySample := by
  unfold State.restartInput
  split
  · exact s.s0Restart_startView n
  · exact (s.put AS_S0STAT_S0_RESTART 1 n.val).s0Restart_startView n

theorem State.restartInputs_startView : s.restartInputs.startView = s.startView ∧ s.restartInputs.deadline .assaySample = s.deadline .assaySample :=
  ⟨State.each_keeps State.startView _ _ (fun t n => (t.restartInput_startView n).1) s,
    State.each_keeps (fun t => t.deadline .assaySample) _ _ (fun t n => (t.restartInput_startView n).2) s⟩

theorem State.restartInputs_evolves : Evolves [.fresh, .timers, .assay, .reg .AS_S0STAT] s s.restartInputs := by
  refine State.each_evolves (.refl _ s) _ _ (fun t n ht => ?_)
  exact State.s0Restart_evolves (ite_evolves ht (State.put_evolves ht _ _ _ _ (by decide))) _ (by decide)

/-- What is restored stays through the rest of the start. -/
theorem State.Restored.start {v : State} {masters residues : Vector Nat 16} {s0 : Vector Word 4} (h : v.Restored masters residues s0) (past : Nat) :
    (v.resume past).restartInputs.Restored masters residues s0 ∧
    (v.resume past).restartInputs.deadline .assaySample = some (v.now + 31250) ∧
    (∀ f : Fld, f.reg = .AS_ASTAT → (v.resume past).restartInputs.on f = v.on f) := by
  obtain ⟨hrun, hmasters, hcounts, hresidues⟩ := h
  have hall : Evolves [.fresh, .timers, .assay, .reg .AS_TPOSTAT, .reg .AS_PSTAT, .reg .AS_S0STAT] v (v.resume past).restartInputs :=
    ((v.resume_evolves past).mono (by decide)).step (State.restartInputs_evolves _) (by decide)
  obtain ⟨hview, hdeadline⟩ := (v.resume past).restartInputs_startView
  have hview : (v.resume past).restartInputs.startView = v.startView := hview.trans (v.resume_startView past)
  refine ⟨⟨(congrArg Prod.fst hview).trans hrun, fun k => ?_, fun n => ?_, (congrArg Prod.snd hview).trans hresidues⟩, ?_, fun f hf => ?_⟩
  · rw [hall.master (by decide) k.isLt, hmasters k]
  · rw [hall.rdw (s0cnt_has n) (by decide), hcounts n]
  · rw [hdeadline, State.resume_deadline]
  · exact hall.on (by rw [hf]; decide) (by rw [hf]; decide)

/-- A flag and the loss beside it leave what is restored. -/
theorem State.Restored.of_evolves {u v : State} {masters residues : Vector Nat 16} {s0 : Vector Word 4} (h : u.Restored masters residues s0)
    (he : Evolves [.fresh, .reg .AS_ASTAT, .reg .AS_LOSS] u v) : v.Restored masters residues s0 := by
  obtain ⟨hrun, hmasters, hcounts, hresidues⟩ := h
  have hassay : v.assay = u.assay := he.kept .assay (by decide)
  exact ⟨by rw [hassay]; exact hrun, fun k => by rw [he.master (by decide) k.isLt, hmasters k],
    fun n => by rw [he.rdw (s0cnt_has n) (by decide), hcounts n], by rw [hassay]; exact hresidues⟩

theorem State.restoreFrom_some (r : SaveRec) (hrun : s.assay.running = true) : (s.restoreFrom (some r)).Restored r.masters r.residues r.s0 ∧
    (r.kind ≠ saveGasp → r.kind ≠ saveOrderly → (s.restoreFrom (some r)).on AS_ASTAT_UNSAVED = true) := by
  have hrest := s.restore_restored r.masters r.residues r.s0 hrun
  unfold State.restoreFrom
  dsimp only
  generalize s.restore r.masters r.residues r.s0 = u at *
  split
  · next hclean => exact ⟨hrest, fun hg ho => absurd hclean (not_or.2 ⟨hg, ho⟩)⟩
  · generalize (nearOpen (r.saveint.toNat * r.pmax.toNat : Nat) 360).toNat = loss
    have hset : Evolves [.fresh, .reg .AS_ASTAT] u (u.put AS_ASTAT_UNSAVED 1) := State.put_evolves (.refl _ u) _ _ _ _ (by decide)
    have hon : (u.put AS_ASTAT_UNSAVED 1).on AS_ASTAT_UNSAVED = true := State.on_put u AS_ASTAT_UNSAVED 1 0 0 (by decide) (by decide)
    generalize u.put AS_ASTAT_UNSAVED 1 = w at *
    have hloss : Evolves [.fresh, .reg .AS_LOSS] w ((w.put AS_LOSS_LOSS (loss % 2 ^ 32) 0).put AS_LOSS_LOSS (loss / 2 ^ 32) 1) :=
      State.put_evolves (State.put_evolves (.refl _ w) _ _ _ _ (by decide)) _ _ _ _ (by decide)
    exact ⟨hrest.of_evolves ((hset.mono (by decide)).step hloss (by decide)), fun _ _ => (hloss.on (by decide) (by decide)).trans hon⟩

theorem State.restoreFrom_none (hrun : s.assay.running = true) :
    (s.restoreFrom none).Restored (Vector.replicate 16 0) (Vector.replicate 16 0) (Vector.replicate 4 0) ∧
    (s.restoreFrom none).on AS_ASTAT_RECORD_LOST = true := by
  have hrest := s.restore_restored (Vector.replicate 16 0) (Vector.replicate 16 0) (Vector.replicate 4 0) hrun
  unfold State.restoreFrom
  dsimp only
  generalize s.restore (Vector.replicate 16 0) (Vector.replicate 16 0) (Vector.replicate 4 0) = u at *
  exact ⟨hrest.of_evolves (State.put_evolves (.refl _ u) _ _ _ _ (by decide)), State.on_put u AS_ASTAT_RECORD_LOST 1 0 0 (by decide) (by decide)⟩

/-- What a restore from the Lamp changes. -/
def restoreParts : List Part := [.fresh, .latched, .assay, .reg .AS_ASTAT, .reg .AS_LOSS, .reg .AS_EMLO, .reg .AS_EMHI, .reg .AS_EWIN, .reg .AS_WRAPS,
  .reg .AS_S0CNT]

theorem State.restoreFrom_now (r : Option SaveRec) : (s.restoreFrom r).now = s.now := by
  have hrest : ∀ m e c, Evolves restoreParts s (s.restore m e c) := fun m e c => State.restore_evolves (.refl _ s) m e c (by decide)
  have hall : Evolves restoreParts s (s.restoreFrom r) := by
    unfold State.restoreFrom
    cases r with
    | none => exact State.put_evolves (hrest _ _ _) _ _ _ _ (by decide)
    | some r =>
      refine ite_evolves (hrest _ _ _) ?_
      exact State.put_evolves (State.put_evolves (State.put_evolves (hrest _ _ _) _ _ _ _ (by decide)) _ _ _ _ (by decide)) _ _ _ _ (by decide)
  exact hall.kept .now (by decide)

theorem exec_assayStart : exec .assayStart s =
    .next (if s.assay.running || !s.supply.vaux || s.supply.place != 0 || decide (s.supply.step < 2) then s else s.assayStart) := rfl

/-- Where there is nothing to start nothing changes. -/
theorem assayStart_held (h : s.assay.running = true ∨ s.supply.vaux = false ∨ s.supply.place ≠ 0 ∨ s.supply.step < 2) :
    ∃ t, exec .assayStart s = .next t ∧ t = s := by
  have hheld : (s.assay.running || !s.supply.vaux || s.supply.place != 0 || decide (s.supply.step < 2)) = true := by
    rw [Bool.or_eq_true, Bool.or_eq_true, Bool.or_eq_true, Bool.not_eq_true', bne_iff_ne, decide_eq_true_eq]
    tauto
  exact ⟨s, by rw [exec_assayStart, if_pos hheld], rfl⟩

/-- With VAUX, in RUN and from release step 2 on, a stopped Assay starts. -/
theorem exec_assayStart_of_stopped (hrun : s.assay.running = false) (hvaux : s.supply.vaux = true) (hplace : s.supply.place = 0)
    (hstep : 2 ≤ s.supply.step) :
    ∃ past, exec .assayStart s = .next ((s.assayBegin.restoreFrom s.lamp.latest).resume past).restartInputs := by
  obtain ⟨past, heq⟩ := s.assayStart_eq
  refine ⟨past, ?_⟩
  rw [exec_assayStart, hrun, hvaux, hplace, decide_eq_false (Nat.not_lt.2 hstep), heq]
  rfl

theorem assayStart_restores (r : SaveRec) (hrun : s.assay.running = false) (hvaux : s.supply.vaux = true) (hplace : s.supply.place = 0)
    (hstep : 2 ≤ s.supply.step) (hr : s.lamp.latest = some r) :
    ∃ t, exec .assayStart s = .next t ∧ t.Restored r.masters r.residues r.s0 ∧ t.deadline .assaySample = some (s.now + 31250) ∧
      (r.kind ≠ saveGasp → r.kind ≠ saveOrderly → t.on AS_ASTAT_UNSAVED = true) := by
  obtain ⟨past, hexec⟩ := exec_assayStart_of_stopped s hrun hvaux hplace hstep
  obtain ⟨hrest, hunsaved⟩ := s.assayBegin.restoreFrom_some r rfl
  rw [hr] at hexec
  obtain ⟨hstart, hdeadline, hflag⟩ := hrest.start past
  rw [State.restoreFrom_now] at hdeadline
  exact ⟨_, hexec, hstart, hdeadline, fun hg ho => (hflag _ rfl).trans (hunsaved hg ho)⟩

theorem assayStart_empty (hrun : s.assay.running = false) (hvaux : s.supply.vaux = true) (hplace : s.supply.place = 0)
    (hstep : 2 ≤ s.supply.step) (hr : s.lamp.latest = none) :
    ∃ t, exec .assayStart s = .next t ∧ t.assay.running = true ∧ t.deadline .assaySample = some (s.now + 31250) ∧
      (∀ k : Fin 16, t.master k.val = 0) ∧ (∀ n : Fin 4, t.rdw .AS_S0CNT n.val = 0) ∧ t.on AS_ASTAT_RECORD_LOST = true := by
  obtain ⟨past, hexec⟩ := exec_assayStart_of_stopped s hrun hvaux hplace hstep
  obtain ⟨hrest, hlost⟩ := s.assayBegin.restoreFrom_none rfl
  rw [hr] at hexec
  obtain ⟨⟨hstart, hmasters, hcounts, -⟩, hdeadline, hflag⟩ := hrest.start past
  rw [State.restoreFrom_now] at hdeadline
  refine ⟨_, hexec, hstart, hdeadline, fun k => (hmasters k).trans ?_, fun n => (hcounts n).trans ?_, (hflag _ rfl).trans hlost⟩
  · simp
  · simp

end Start
end Sys2Proof.Machine
end
section
/-! SUPPORT. The Assay's saves, and its stop with an ORDERLY record (R255, R256, R259). -/

namespace Sys2Proof.Machine

section Saves
variable (s : State)

/-- A read-back settles the save that is under way, or has it rewritten (R255). -/
def State.readBack (s : State) (ok : Bool) (v : SaveU) : State :=
  if ok then s.saveValid v
  else if v.rewritten then s.saveFails
  else s.updAssay (fun a => { a with save := some { v with rewritten := true } })

theorem exec_saveReadback (ok : Bool) {v : SaveU} (h : s.assay.save = some v) : exec (.saveReadback ok) s = .next (s.readBack ok v) := by
  show execSaveReadback ok s = _
  unfold execSaveReadback State.readBack
  rw [h]

/-- Without a save nothing changes. -/
theorem saveReadback_none (ok : Bool) (h : s.assay.save = none) : ∃ t, exec (.saveReadback ok) s = .next t ∧ t = s := by
  refine ⟨s, ?_, rfl⟩
  show execSaveReadback ok s = _
  unfold execSaveReadback
  rw [h]

/-- A save in its slot, with its kind shown. -/
def State.recordKept (s : State) (v : SaveU) : State := (s.putSlot v.slot (some v.body)).put AS_SAVESTAT_LASTKIND v.body.kind
/-- The Assay after a save that completes. -/
def AssayU.saved (a : AssayU) (v : SaveU) : AssayU :=
  { a with
    save := none, savedTotal := v.body.masters[12] + v.body.masters[13]
    closeDue := if a.closeDue = some savePeriodic then none else a.closeDue }

theorem State.saveValid_eq (v : SaveU) : s.saveValid v = if s.assay.running then
    ((s.recordKept v).updAssay (fun a => a.saved v)).armAt .savePeriod (v.closedAt + s.saveint * 225000)
    else (s.recordKept v).updAssay (fun a => a.saved v) := by
  have hkept : Evolves [.fresh, .lamp, .reg .AS_SAVESTAT] s (s.recordKept v) :=
    State.put_evolves (State.putSlot_evolves (.refl _ s) _ _ (by decide)) _ _ _ _ (by decide)
  have hassay : (s.recordKept v).assay = s.assay := hkept.kept .assay (by decide)
  have hint : (s.recordKept v).saveint = s.saveint := by
    unfold State.saveint
    rw [hkept.get (f := AS_SAVEINT_SAVEINT) (by decide) (by decide)]
  rw [← hassay, ← hint]
  rfl

theorem State.recordKept_slot (v : SaveU) : (if v.slot then (s.recordKept v).lamp.slot1 else (s.recordKept v).lamp.slot0) = some v.body := by
  unfold State.recordKept State.putSlot
  cases v.slot <;> rfl

/-- A record that reads back equal completes in its slot. -/
theorem saveReadback_equal (v : SaveU) (h : s.assay.save = some v) : ∃ t, exec (.saveReadback true) s = .next t ∧
    ((if v.slot then t.lamp.slot1 else t.lamp.slot0) = some v.body) ∧ t.assay.save = none ∧
    t.get AS_SAVESTAT_LASTKIND = v.body.kind % 2 ^ AS_SAVESTAT_LASTKIND.width ∧
    (s.assay.running = true → t.deadline .savePeriod = some (v.closedAt + s.saveint * 225000)) := by
  have hexec : exec (.saveReadback true) s = .next (s.saveValid v) := exec_saveReadback s true h
  have hslot := s.recordKept_slot v
  have hkind : (s.recordKept v).get AS_SAVESTAT_LASTKIND = v.body.kind % 2 ^ AS_SAVESTAT_LASTKIND.width :=
    State.get_put _ AS_SAVESTAT_LASTKIND _ 0 0 (by decide) (by decide)
  rw [State.saveValid_eq] at hexec
  generalize s.recordKept v = u at *
  by_cases hrun : s.assay.running = true
  · rw [if_pos hrun] at hexec
    exact ⟨_, hexec, hslot, rfl, hkind, fun _ => State.deadline_armAt _ _ _⟩
  · rw [if_neg hrun] at hexec
    exact ⟨_, hexec, hslot, rfl, hkind, fun h => absurd h hrun⟩

/-! ### A save that fails -/

/-- The failure is counted and raised. -/
def State.failCounted (s : State) : State := ((s.updAssay (fun a => { a with save := none })).bumpSat AS_SAVESTAT_FAILCNT).raise 513

theorem State.saveFails_eq : s.saveFails = if s.failCounted.assay.running && !s.failCounted.armed .savePeriod then
    s.failCounted.updAssay (fun a => { a with closeDue := some (a.closeDue.getD savePeriodic) }) else s.failCounted := rfl

theorem State.failCounted_shows (hrouted : s.routed 513 = true) : s.failCounted.assay.save = none ∧
    s.failCounted.get AS_SAVESTAT_FAILCNT = min (s.get AS_SAVESTAT_FAILCNT + 1) (2 ^ AS_SAVESTAT_FAILCNT.width - 1) ∧
    s.failCounted.raised 513 = true ∧ s.failCounted.lamp = s.lamp ∧ s.failCounted.routed 513 = true := by
  let u := (s.updAssay (fun a => { a with save := none })).bumpSat AS_SAVESTAT_FAILCNT
  have hu : Evolves [.fresh, .assay, .reg .AS_SAVESTAT] s u :=
    State.bumpSat_evolves (State.updAssay_evolves (.refl _ s) _ (by decide)) _ _ _ _ (by decide)
  have hsave : u.assay.save = none := rfl
  have hcount : u.get AS_SAVESTAT_FAILCNT = min (s.get AS_SAVESTAT_FAILCNT + 1) (2 ^ AS_SAVESTAT_FAILCNT.width - 1) :=
    (State.get_put _ AS_SAVESTAT_FAILCNT _ 0 0 (by decide) (by decide)).trans (Nat.mod_eq_of_lt (lt_of_le_of_lt (min_le_right _ _) (by decide)))
  have hurouted : u.routed 513 = true := (hu.routed (by decide) (by decide)).trans hrouted
  have hulamp : u.lamp = s.lamp := hu.kept .lamp (by decide)
  have heq : s.failCounted = u.raise 513 := rfl
  rw [heq]
  generalize u = u at *
  have hraise : Evolves raiseParts u (u.raise 513) := State.raise_evolves (.refl _ u) _ (covers_self _)
  have hassay : (u.raise 513).assay = u.assay := hraise.kept .assay (by decide)
  have hlamp : (u.raise 513).lamp = u.lamp := hraise.kept .lamp (by decide)
  exact ⟨by rw [hassay, hsave], (hraise.get (by decide) (by decide)).trans hcount, u.raise_raised (by decide) hurouted,
    hlamp.trans hulamp, (hraise.routed (by decide) (by decide)).trans hurouted⟩

theorem State.saveFails_shows (hrouted : s.routed 513 = true) : s.saveFails.assay.save = none ∧
    s.saveFails.get AS_SAVESTAT_FAILCNT = min (s.get AS_SAVESTAT_FAILCNT + 1) (2 ^ AS_SAVESTAT_FAILCNT.width - 1) ∧
    s.saveFails.raised 513 = true ∧ s.saveFails.lamp = s.lamp := by
  obtain ⟨hsave, hcount, hraised, hlamp, hfrouted⟩ := s.failCounted_shows hrouted
  rw [State.saveFails_eq]
  generalize s.failCounted = u at *
  split
  · have hdue := State.updAssay_evolves (.refl [.assay] u) (fun a => { a with closeDue := some (a.closeDue.getD savePeriodic) }) (covers_self _)
    exact ⟨hsave, hcount, hdue.raised (by decide) (by decide) (by decide) hfrouted hraised, hlamp⟩
  · exact ⟨hsave, hcount, hraised, hlamp⟩

/-- A first difference has the record rewritten; a second counts, and leaves the records. -/
theorem saveReadback_differs (v : SaveU) (h : s.assay.save = some v) (hrouted : s.routed 513 = true) :
    ∃ t, exec (.saveReadback false) s = .next t ∧
      (v.rewritten = false → t.assay.save = some { v with rewritten := true }) ∧
      (v.rewritten = true → t.assay.save = none ∧
        t.get AS_SAVESTAT_FAILCNT = min (s.get AS_SAVESTAT_FAILCNT + 1) (2 ^ AS_SAVESTAT_FAILCNT.width - 1) ∧ t.raised 513 = true) ∧
      t.lamp = s.lamp := by
  refine ⟨_, exec_saveReadback s false h, ?_⟩
  unfold State.readBack
  rw [if_neg Bool.false_ne_true]
  by_cases hre : v.rewritten = true
  · obtain ⟨hsave, hcount, hraised, hlamp⟩ := s.saveFails_shows hrouted
    rw [if_pos hre]
    exact ⟨fun hf => absurd (hf.symm.trans hre) Bool.false_ne_true, fun _ => ⟨hsave, hcount, hraised⟩, hlamp⟩
  · rw [if_neg hre]
    exact ⟨fun _ => rfl, fun ht => absurd ht hre, rfl⟩

/-! ### What an interval's end leaves pending -/

theorem State.pulseOverflow_pendingStays (o : Nat) : PendingStays s (s.pulseOverflow o) := by
  have hput : Evolves [.fresh, .reg .AS_TPOSTAT, .reg .AS_PSTAT] s (if o < 8 then s.put AS_TPOSTAT_OVERFLOW 1 o else s.put AS_PSTAT_OVERFLOW 1) :=
    ite_evolves (State.put_evolves (.refl _ s) _ _ _ _ (by decide)) (State.put_evolves (.refl _ s) _ _ _ _ (by decide))
  exact (hput.pendingStays (by decide)).trans (State.raise_pendingStays _ 514)

theorem State.putBacklog_pendingStays (o v : Nat) : PendingStays s (s.putBacklog o v) :=
  (State.putBacklog_evolves (.refl _ s) o v (covers_self _)).pendingStays (by decide)

theorem State.queuePulses_pendingStays (o k : Nat) : PendingStays s (s.queuePulses o k) :=
  ite_pendingStays (.refl s) (ite_pendingStays ((s.putBacklog_pendingStays o 65535).trans (State.pulseOverflow_pendingStays _ o))
    (s.putBacklog_pendingStays o _))

theorem State.updAssay_pendingStays (f : AssayU → AssayU) : PendingStays s (s.updAssay f) :=
  (State.updAssay_evolves (.refl _ s) f (covers_self _)).pendingStays (by decide)

theorem State.pulsesFor_pendingStays (r n : Nat) : PendingStays s (s.pulsesFor r n) :=
  State.each_pendingStays _ _ (fun t _ => ite_pendingStays (.refl t) ((t.updAssay_pendingStays _).trans (State.queuePulses_pendingStays _ _ _))) s

theorem State.putMaster_pendingStays (r m : Nat) : PendingStays s (s.putMaster r m) :=
  (State.putMaster_evolves (.refl _ s) r m (covers_self _)).pendingStays (by decide)

theorem State.energyAdd_pendingStays (r : Fin 16) (e : Nat) : PendingStays s (s.energyAdd r e) :=
  ite_pendingStays (s.updAssay_pendingStays _) (((s.updAssay_pendingStays _).trans (State.putMaster_pendingStays _ _ _)).trans
    (State.pulsesFor_pendingStays _ _ _))

theorem State.direct_pendingStays (phase kind : Nat) (sum : Int) : PendingStays s (s.direct phase kind sum) := by
  unfold State.direct
  dsimp only
  generalize (4 * phase + kind + if sum < 0 then 1 else 0) = r
  split
  · exact s.energyAdd_pendingStays _ _
  · exact .refl s

theorem State.intervalEnd_pendingStays : PendingStays s s.intervalEnd := by
  refine PendingStays.trans ?_ (State.updAssay_pendingStays _ _)
  refine PendingStays.trans (PendingStays.trans ?_ (State.direct_pendingStays _ _ _ _)) (State.direct_pendingStays _ _ _ _)
  exact State.each_pendingStays _ _ (fun t _ => (t.direct_pendingStays _ _ _).trans (State.direct_pendingStays _ _ _ _)) s

/-- A source that stays pending stays raised, its SRCCFG as it was. -/
theorem PendingStays.raised {A : List Part} {s t : State} (h : PendingStays s t) (he : Evolves A s t) (hcfg : Part.reg .IC_SRCCFG ∉ A) {src : Nat}
    (hs : src < 1024) (hrouted : s.routed src = true) (hraised : s.raised src = true) : t.raised src = true := by
  have htarget : s.get IC_SRCCFG_TARGET src ≤ 16 := of_decide_eq_true hrouted
  unfold State.raised
  rw [he.get (f := IC_SRCCFG_TARGET) (srccfg_has_of_lt hs) hcfg]
  exact h _ _ (by omega) hs hraised

/-! ### A lost clock (R259) -/

/-- A record that is not EARLY closes with the interval's masters. -/
theorem State.closeRecord_of_ne {kind : Nat} (h : kind ≠ saveEarly) : ∃ (body : SaveRec) (slot : Bool),
    s.closeRecord kind = (s.intervalEnd.putSlot slot none).updAssay (fun a =>
      { a with save := some ⟨body, slot, false, s.intervalEnd.now⟩, closeDue := none }) ∧
    body.kind = kind ∧ body.masters = Vector.ofFn (fun r : Fin 16 => s.intervalEnd.master r.val) := ⟨_, _, if_neg h, rfl, rfl⟩

theorem State.assayStop_shows : s.assayStop.assay = { s.assay with running := false } ∧ s.assayStop.armed .assaySample = false :=
  ⟨rfl, State.armed_disarm _ _⟩

theorem exec_clkLost : exec .clkLost s = .next (if s.assay.running then ((s.put AS_ASTAT_CLK_LOST 1).raise 515).orderly.assayStop else s) := rfl

/-- A stopped Assay has nothing to lose. -/
theorem clkLost_stopped (hrun : s.assay.running = false) : ∃ t, exec .clkLost s = .next t ∧ t = s :=
  ⟨s, by rw [exec_clkLost, if_neg (by rw [hrun]; exact Bool.false_ne_true)], rfl⟩

/-- A running Assay stops with an ORDERLY record of this boundary's masters. -/
theorem State.orderlyStop_shows (hrun : s.assay.running = true) (hrouted : s.routed 515 = true) (hraised : s.raised 515 = true) :
    s.orderly.assayStop.on AS_ASTAT_CLK_LOST = s.on AS_ASTAT_CLK_LOST ∧ s.orderly.assayStop.assay.running = false ∧
    s.orderly.assayStop.raised 515 = true ∧
    s.orderly.assayStop.assay.save.map (fun v => (v.body.kind, v.rewritten, v.closedAt)) = some (saveOrderly, false, s.now) ∧
    s.orderly.assayStop.assay.save.map (fun v => v.body.masters) = some (Vector.ofFn (fun k : Fin 16 => s.orderly.assayStop.master k.val)) ∧
    s.orderly.assayStop.armed .assaySample = false := by
  have horderly : s.orderly = s.closeRecord saveOrderly := if_pos hrun
  obtain ⟨body, slot, hclose, hkind, hmasters⟩ := s.closeRecord_of_ne (kind := saveOrderly) (by decide)
  have hinterval := State.intervalEnd_evolves (.refl _ s) (covers_self _)
  have hnow : s.intervalEnd.now = s.now := hinterval.kept .now (by decide)
  have hclk : s.intervalEnd.on AS_ASTAT_CLK_LOST = s.on AS_ASTAT_CLK_LOST := hinterval.on (by decide) (by decide)
  have hiraised := s.intervalEnd_pendingStays.raised hinterval (by decide) (src := 515) (by decide) hrouted hraised
  have hirouted := (hinterval.routed (by decide) (src := 515) (by decide)).trans hrouted
  rw [horderly, hclose]
  generalize s.intervalEnd = u at *
  let w := (u.putSlot slot none).updAssay (fun a => { a with save := some ⟨body, slot, false, u.now⟩, closeDue := none })
  have hstop : Evolves [.timers, .lamp, .assay] u w.assayStop :=
    State.assayStop_evolves (State.updAssay_evolves (State.putSlot_evolves (.refl _ u) _ _ (by decide)) _ (by decide)) (by decide)
  obtain ⟨hassay, harmed⟩ := w.assayStop_shows
  have hmaster : (fun k : Fin 16 => w.assayStop.master k.val) = fun k : Fin 16 => u.master k.val := funext (fun k => hstop.master (by decide) k.isLt)
  refine ⟨(hstop.on (by decide) (by decide)).trans hclk, by rw [hassay], hstop.raised (by decide) (by decide) (by decide) hirouted hiraised,
    ?_, ?_, harmed⟩
  · rw [hassay]
    show some (body.kind, false, u.now) = _
    rw [hkind, hnow]
  · rw [hassay, hmaster, ← hmasters]
    rfl

/-- A lost clock sets CLK_LOST and raises its source, and the Assay stops. -/
theorem clkLost_running (hrun : s.assay.running = true) (hrouted : s.routed 515 = true) : ∃ t, exec .clkLost s = .next t ∧
    t.on AS_ASTAT_CLK_LOST = true ∧ t.assay.running = false ∧ t.raised 515 = true ∧
    t.assay.save.map (fun v => (v.body.kind, v.rewritten, v.closedAt)) = some (saveOrderly, false, s.now) ∧
    t.assay.save.map (fun v => v.body.masters) = some (Vector.ofFn (fun k : Fin 16 => t.master k.val)) ∧ t.armed .assaySample = false := by
  have hput : Evolves [.fresh, .reg .AS_ASTAT] s (s.put AS_ASTAT_CLK_LOST 1) := State.put_evolves (.refl _ s) _ _ _ _ (by decide)
  have hlost : (s.put AS_ASTAT_CLK_LOST 1).on AS_ASTAT_CLK_LOST = true := State.on_put s _ 1 0 0 (by decide) (by decide)
  have hexec : exec .clkLost s = .next ((s.put AS_ASTAT_CLK_LOST 1).raise 515).orderly.assayStop := by rw [exec_clkLost, if_pos hrun]
  have hurouted := (hput.routed (by decide) (src := 515) (by decide)).trans hrouted
  have hunow : (s.put AS_ASTAT_CLK_LOST 1).now = s.now := rfl
  have hurun : (s.put AS_ASTAT_CLK_LOST 1).assay.running = true := hrun
  generalize s.put AS_ASTAT_CLK_LOST 1 = u at *
  have hraise : Evolves raiseParts u (u.raise 515) := State.raise_evolves (.refl _ u) _ (covers_self _)
  have hraised := u.raise_raised (src := 515) (by decide) hurouted
  have hvrouted := (hraise.routed (by decide) (src := 515) (by decide)).trans hurouted
  have hvlost := (hraise.on (f := AS_ASTAT_CLK_LOST) (by decide) (by decide)).trans hlost
  have hvassay : (u.raise 515).assay = u.assay := hraise.kept .assay (by decide)
  have hvnow : (u.raise 515).now = s.now := (hraise.kept .now (by decide)).trans hunow
  obtain ⟨hclk, hstopped, hraised', hsave, hmasters, harmed⟩ := (u.raise 515).orderlyStop_shows (by rw [hvassay]; exact hurun) hvrouted hraised
  rw [hvlost] at hclk
  rw [hvnow] at hsave
  exact ⟨_, hexec, hclk, hstopped, hraised', hsave, hmasters, harmed⟩

end Saves
end Sys2Proof.Machine
end
section
/-! SUPPORT. The Assay meters, saves and restores (O37). -/

namespace Sys2Proof.Machine

/-- Settles O37: each command's effect, by the lemmas about the boundary, the inputs, the start and the saves. -/
theorem assayMetersSavesAndRestores : Obligations.AssayMetersSavesAndRestores := by
  unfold Obligations.AssayMetersSavesAndRestores
  refine ⟨?boundary, fun s w => assaySample_stopped s w, fun s k => zxLost_in_time s k, fun s o => pulseStart_held s o,
    fun s n a => s0Pulse_short s n a, ?mismatch, fun s m v => snap_due s m v, fun s k => zxLost_late s k, fun s o n => pulseStart_free s o n,
    fun s n a l => s0Pulse_held s n a l, fun s n d => s0Check_agrees s n d, ?restores, fun s => assayStart_empty s, fun s d => periodic_due s d,
    fun s v => saveReadback_equal s v, fun s v => saveReadback_differs s v, fun s => assayStart_held s, fun s ok => saveReadback_none s ok,
    fun s => clkLost_running s, fun s => clkLost_stopped s⟩
  case boundary =>
    intro s w d hrun hd
    obtain ⟨t, hexec, ⟨hhist, hclip, htick, hcount, hsnap⟩, hnow, hnext⟩ := assaySample_running s w d hrun hd
    exact ⟨t, hexec, hhist, hclip, htick, hnow, hnext, hcount, hsnap⟩
  case mismatch =>
    intro s n d da ds hd hrun hwin hda hds hfar hrouted
    exact s0Check_mismatch s n d da ds hd hrun hwin hda hds hfar hrouted
  case restores =>
    intro s r hrun hvaux hplace hstep hr
    obtain ⟨t, hexec, ⟨hstart, hmasters, hcounts, hresidues⟩, hdeadline, hunsaved⟩ := assayStart_restores s r hrun hvaux hplace hstep hr
    exact ⟨t, hexec, hstart, hmasters, hcounts, hdeadline, hresidues, hunsaved⟩

end Sys2Proof.Machine
end
